-- ==== Sys2Proof/Word.lean ====
section
/-! DEFINITION. The word types of the Xoura module and their plainest arithmetic: bytes, 32-bit register words,
time in units of 2^-16 ns, and the index types of its replicated resources (01_architecture.md, 14_host_link_and_registers.md R350). -/

namespace Sys2Proof

/-- One byte of a frame, a message or the flash. -/
abbrev Byte := BitVec 8

/-- One 32-bit register word (R350). -/
abbrev Word := BitVec 32

/-- A span or an instant of a time counter in units of 2^-16 ns, the resolution of DTIME (R26). -/
abbrev Ticks := Nat

/-- One nanosecond in units of 2^-16 ns (R26: FRACTION counts 2^-16 ns). -/
abbrev nsUnit : Nat := 65536

/-- One second in units of 2^-16 ns. -/
abbrev secUnit : Nat := 1000000000 * 65536

/-- Port numbers P0 to P31 (R2 makes P16 to P31 absent on XM1624-S). -/
abbrev PortId := Fin 32
/-- Lane numbers L0 to L127. -/
abbrev LaneId := Fin 128
/-- Time I/O channels TIO0 to TIO47. -/
abbrev TioId := Fin 48
/-- Synthesizer indices 0 to 9 (R111). -/
abbrev SynId := Fin 10
/-- Clock and pulse outputs OUT0 to OUT7. -/
abbrev OutId := Fin 8
/-- Reference inputs REFIN0 to REFIN3. -/
abbrev RefinId := Fin 4
/-- Reference candidate IDs 0 to 36 (36 is the timebase's own OCXO). -/
abbrev CandId := Fin 37
/-- Traffic classes and egress queues 0 to 7. -/
abbrev ClassId := Fin 8

/-- The low `n` bits of a number. -/
def lowBits (v n : Nat) : Nat := v % 2 ^ n

/-- Bits `[lo+width-1 : lo]` of a number. -/
def bitsOf (v lo width : Nat) : Nat := (v / 2 ^ lo) % 2 ^ width

/-- Bit `i` of a number. -/
def bitAt (v i : Nat) : Bool := (v / 2 ^ i) % 2 == 1

/-- A number from a bit. -/
def bitNat (b : Bool) : Nat := if b then 1 else 0

/-- A `n`-bit two's-complement field read as an integer. -/
def signedOf (v n : Nat) : Int := if v < 2 ^ (n - 1) then (v : Int) else (v : Int) - (2 ^ n : Nat)

/-- An integer written as an `n`-bit two's-complement field. -/
def twosOf (v : Int) (n : Nat) : Nat := (v % (2 ^ n : Nat)).toNat

/-- A number held inside `[lo, hi]` (R50: the nearest limit of the range). -/
def clampNat (lo hi v : Nat) : Nat := if v < lo then lo else if hi < v then hi else v

/-- An integer held inside `[lo, hi]`. -/
def clampInt (lo hi v : Int) : Int := if v < lo then lo else if hi < v then hi else v

/-- Division rounded to the nearest integer (halves upwards), for values rounded to 2^-16 ns (R170, R209). -/
def roundDiv (num : Int) (den : Nat) : Int := (2 * num + den) / (2 * den)

end Sys2Proof
end

