-- ==== Sys2Proof/Syntax.lean ====
section
/-! DEFINITION. The commands of the Xoura module: one constructor of `Instr` for each row of spec/opcode_table.json,
in the table's order. The table gives its rows no operand fields; the operands here are what a step's rule reads from
outside the module (an index, a written value, a measured quantity, received bytes), by the rule named in each
docstring. Replicated resources are indexed by `Fin`, so that no command names a resource outside the map. -/

namespace Sys2Proof

/-- The two timebases (01_architecture.md). -/
inductive TbId where | a | b
  deriving DecidableEq, Repr

/-- The other timebase. -/
def TbId.other : TbId → TbId | .a => .b | .b => .a

/-- TB_ROLE and ACTIVE_TB numbering: 0 is Timebase A, 1 Timebase B (R28). -/
def TbId.num : TbId → Nat | .a => 0 | .b => 1

/-- Requesters of the register ring (R357). -/
inductive Party where | host | smbus | fsp | cp | smc
  deriving DecidableEq, Repr

/-- Mailbox parties (15_mailboxes_counters_alarms.md, "Mailbox parties"). -/
inductive MboxParty where | host | fsp | cp | smc | tbpA | tbpB
  deriving DecidableEq, Repr

/-- Party ID of the mailbox table. -/
def MboxParty.id : MboxParty → Nat
  | .host => 0 | .fsp => 1 | .cp => 2 | .smc => 3 | .tbpA => 4 | .tbpB => 5

/-- A memory access of the host or of another ring party: `size` bytes of `data`, little-endian, at `offset` of a BAR (R350, R353). -/
structure BusWrite where
  party  : Party
  bar    : Nat
  offset : Nat
  size   : Nat
  data   : BitVec 64
  deriving DecidableEq, Repr

/-- A read of the host or of another ring party: `size` bytes at `offset` of a BAR (R350, R353). -/
structure BusRead where
  party  : Party
  bar    : Nat
  offset : Nat
  size   : Nat
  deriving DecidableEq, Repr

/-- What a configuration read of the host asks of the PCIe function (R348, R350). -/
inductive ConfigItem where
  | vendor | device | revision | classCode | subsystemVendor | subsystem | interruptPin | serialNumber
  | d3hot | pme | endpoint | maxPayload | maxReadRequest | functionLevelReset | aspmL1 | aspmL0s | slot | hotPlugSurprise
  | msixVectors | msixTable | msixPending | errorReporting
  | sriov | ats | pasid | resizableBars | expansionRom | msi
  | barSize (bar : Nat) | barPrefetchable (bar : Nat) | barBase (bar : Nat)
  | busMaster | msixEnable | functionMask | powerState
  deriving DecidableEq, Repr

/-- An access that a requester of the register ring presents in a round (R357), or a configuration read of the host. -/
inductive BusAccess where
  | write (w : BusWrite)
  | read (r : BusRead)
  | config (i : ConfigItem)
  deriving DecidableEq, Repr

/-- The requester that presents an access. -/
def BusAccess.party : BusAccess → Party
  | .write w => w.party
  | .read r => r.party
  | .config _ => .host

/-- What hardware does to a register in the cycle in which the ring writes it (R358): at an address of a space, 16 for BAR0,
the bits that it sets, the code that it records and the events that it counts, each in its field; or the application of the
oldest queued indirect write. -/
inductive HwEvent where
  | update (space addr : Nat) (value : Word)
  | indApply
  deriving DecidableEq, Repr

/-- A round of the register ring (R357, R358): the access of each requester that has one pending, and what hardware does in
its cycle. -/
structure RingRound where
  accesses : List BusAccess
  hw       : List HwEvent
  deriving DecidableEq, Repr

/-- A round with one write and nothing beside it. -/
def BusWrite.round (w : BusWrite) : RingRound := ⟨[.write w], []⟩

/-- A round with one read and nothing beside it. -/
def BusRead.round (r : BusRead) : RingRound := ⟨[.read r], []⟩

/-- What every SMBus transaction carries beside its data (R370): the address that it is sent to, its command code, and whether
its Packet Error Code is there and correct. -/
structure SmbHead where
  address : Nat
  code    : Nat
  pecOk   : Bool
  deriving DecidableEq, Repr

/-- What a timebase's hardware hands one servo update (R54): the cycle phase of a FREQ reference in 2^-16 ns, the
oscillator temperatures of the active and of the standby timebase in mK, and the standby's time minus the active time in
2^-16 ns (R91). -/
structure ServoIn where
  freqPhase : Int
  temp      : Int
  standbyTemp : Int
  standbyX  : Int
  deriving DecidableEq, Repr

/-- The two heartbeat paths (R93). -/
inductive HbPath where | line | mem
  deriving DecidableEq, Repr

/-- The hardware terms of a port timestamp (R168, R169): the grid point in cycles of 6.4 ns after the epoch of the
counter, the beat-phase sample in 6.4 ns / 2^14, the position in UI and the interpolator code in 1/64 UI of the CDR method (R166). -/
structure Capture where
  grid : Nat
  phi  : Nat
  ui   : Nat
  cdr  : Nat
  deriving DecidableEq, Repr

/-- One latency self-measurement (R171): both latencies in 1/64 UI, and whether the 64 reads of every pointer agreed
within three attempts (R174). -/
structure LatMeas where
  rx    : Nat
  tx    : Nat
  agree : Bool
  deriving DecidableEq, Repr

/-- Direction of a port. -/
inductive Dir where | tx | rx
  deriving DecidableEq, Repr

/-- How a bring-up phase ended on the used lanes of a port (R138): complete, or signal or CDR lock lost on a lane. -/
inductive PhaseEnd where
  | complete
  | lostSignal
  | lostLock
  deriving DecidableEq, Repr

/-- Why a sleeping transmit direction is woken (R301). -/
inductive WakeCause where | frame | ptp | condition | latency
  deriving DecidableEq, Repr

/-- The grandmaster data of an Announce message (R37, R184). -/
structure AnnounceData where
  gmId          : BitVec 64
  gmPriority1   : Nat
  gmPriority2   : Nat
  clockClass    : Nat
  clockAccuracy : Nat
  variance      : Nat
  timeSource    : Nat
  stepsRemoved  : Nat
  utcOffset     : Int
  utcValid      : Bool
  leap61        : Bool
  leap59        : Bool
  timeTrace     : Bool
  freqTrace     : Bool
  deriving DecidableEq, Repr

/-- The parts of a PTP message that the CP uses (R176 to R191): the sender's port identity, sequenceId,
correctionField and the timestamp field, both in 2^-16 ns, and the twoStepFlag. -/
structure PtpMsg where
  clockId : BitVec 64
  portNum : Nat
  seq     : Nat
  corr    : Int
  time    : Nat
  twoStep : Bool
  deriving DecidableEq, Repr

/-- The reply to a peer delay request: the Pdelay_Resp itself, or its Follow_Up (R179, R189). -/
inductive PdelayReply where
  | resp     (m : PtpMsg) (cap : Capture)
  | followUp (m : PtpMsg)
  deriving DecidableEq, Repr

/-- The receipt timeouts of a port (R70). -/
inductive ReceiptKind where | sync | announce
  deriving DecidableEq, Repr

/-- Why a delay-line calibration starts (R206). -/
inductive CalCause where | enable | periodic | temperature | recal
  deriving DecidableEq, Repr

/-- What a calibration reads of one physical tap (R206, R208): whether it changed state in every crossing, and the number of
the 2^20 sweep edges that fell in its bin. -/
structure TapReading where
  changes : Bool
  edges   : Nat
  deriving DecidableEq, Repr

/-- The result of a delay-line calibration (R205 to R208): the reading of each physical tap, and the number of the 2^20 sweep
edges that fell in each bin that the selected taps bound, in the order of rising delay. -/
structure CalResult where
  taps : List TapReading
  bins : List Nat
  deriving DecidableEq, Repr

/-- An edge that the time-to-digital converter of a REFIN input has captured (R76, R205): the sample-clock edge that latched
it, in cycles of 1.6 ns of the active counter's time, and the bin in which it fell. -/
structure RefinEdge where
  sample : Nat
  bin    : Fin 640
  deriving DecidableEq, Repr

/-- A delay line: of a TIO channel, or of the time-to-digital converter of a REFIN input (R208). -/
inductive TdcId where
  | tio   (c : TioId)
  | refin (n : RefinId)
  deriving DecidableEq, Repr

/-- How a memory error ends: corrected, so that it is only counted, or uncorrectable (R19). -/
inductive ErrKind where | corrected | uncorrectable
  deriving DecidableEq, Repr

/-- A memory error: the resource whose memory has it, and how it ends (R19). -/
structure MemErr (α : Type) where
  place : α
  kind  : ErrKind
  deriving DecidableEq, Repr

/-- What the PRBS checker of a lane reports (R144): the bits in error that it has seen while CHK_LOCK is set, and whether
they cost it CHK_LOCK, being more than 64 of 256. -/
structure PrbsErrors where
  count : Nat
  lost  : Bool
  deriving DecidableEq, Repr

/-- A frame at a port's receive MAC when step 10 fixes its length (R262): its timestamp capture, the bytes that have
arrived, and whether the last byte is among them. -/
structure RxFrame where
  cap      : Capture
  bytes    : List Byte
  complete : Bool
  deriving DecidableEq, Repr

/-- The verdict at a frame's last byte (R248): the bytes that arrived after those of `FRAME_RECEIVED`, FCS
correctness and whether an uncorrectable codeword fell within the frame. -/
structure RxVerdict where
  tail          : List Byte
  fcsOk         : Bool
  uncorrectable : Bool
  /-- The learning engine is occupied by another learn event in this cycle (R233). -/
  learnBusy     : Bool
  deriving DecidableEq, Repr

/-- What the walker of the Moraine audit reads in the pointer and descriptor memories where memory upsets changed
the books since the last pass (R258): wrong reference counts, cells on the free list that lie in a chain, and cells
that lie also in the chain of a second frame; and the sum of the four cell counts at the end of the pass. -/
structure AuditFinds where
  refCounts : List (Nat × Nat)
  freeUsed  : List Nat
  crossed   : List (Nat × Nat)
  sum       : Nat
  deriving DecidableEq, Repr

/-- The pointer or descriptor that fails (R254): the one that a queue needs at a position, or the one that the frame in
transmission needs after some of its cells have been read. -/
inductive ListPlace where
  | queued  (q : ClassId) (position : Nat)
  | sending (cellsRead : Nat)
  deriving DecidableEq, Repr

/-- The tables whose entries can fail (R257). -/
inductive TableId where | fdb | vlan | stream
  deriving DecidableEq, Repr

/-- The schedule registers of a port that `GATE_CFG_WRITE` writes (R283): PRT_GATE_CFG, a bank's BASE, CYCLE or LEN,
or a word of a gate control list entry. -/
inductive GateTarget where
  | cfg
  | baseHi (bank : Fin 2)
  | baseLo (bank : Fin 2)
  | baseNs (bank : Fin 2)
  | cycle  (bank : Fin 2)
  | len    (bank : Fin 2)
  | entry  (bank : Fin 2) (index : Fin 1024) (word : Fin 2)
  deriving DecidableEq, Repr

/-- The queue registers that `QUEUE_CFG_WRITE` writes (R275, R291). -/
inductive QueueReg where | cfg | res
  deriving DecidableEq, Repr

/-- The power registers that `PWR_LAT_WRITE` writes (R301): PWR_LAT of a class, or PWR_PORT_CFG. -/
inductive LatTarget where
  | lat (cls : ClassId)
  | portCfg
  deriving DecidableEq, Repr

/-- The processors whose watchdogs the FSP keeps (R318). -/
inductive WatchedCpu where | cp | smc | tbpA | tbpB
  deriving DecidableEq, Repr

/-- The events that reset the PCIe endpoint (R368). -/
inductive HostResetCause where | flr | hotReset | perst | linkLoss
  deriving DecidableEq, Repr

/-- The two parts of a receiver's wake (R149, R154): the signal of the wake is found, and the direction is WAKING; its latency
and the next alignment marker have been checked, the marker standing where its count predicts it or not. -/
inductive RxWakeStep where
  | detected
  | checked (markerOk : Bool)
  deriving DecidableEq, Repr

/-- What a host write to configuration space or the MSI-X table changes (R351, R399). -/
inductive PcieCfg where
  | busMaster (on : Bool)
  | msixEnable (on : Bool)
  | functionMask (on : Bool)
  | vectorMask (vector : Fin 64) (masked : Bool)
  | powerState (d3hot : Bool)
  | barBase (bar base : Nat)
  deriving DecidableEq, Repr

/-- The commands and events of the module, one for each row of spec/opcode_table.json. -/
inductive Instr where
  /-- REGISTER_WRITE (R353, R357): a round of the register ring; the table has no row for other reads than those named in
  it, so that a round carries reads as well. -/
  | registerWrite (r : RingRound)
  /-- POWER_GOOD (R410, R415): every rail in regulation, with the levels of ADDR_SEL0 and ADDR_SEL1. -/
  | powerGood (sel0 sel1 : Bool)
  /-- ROM_STAGE (R346). -/
  | romStage
  /-- FSP_IMAGE_LOADED (R313). -/
  | fspImageLoaded
  /-- TBP_IMAGE_LOADED (R313). -/
  | tbpImageLoaded
  /-- CONFIG_STAGE (R322). -/
  | configStage
  /-- OCXO_OSCILLATES (R314). -/
  | ocxoOscillates (tb : TbId)
  /-- OCXO_WARM_DECLARED (R314, R90): the OCXOs declared warm in one FSP check. -/
  | ocxoWarmDeclared (warmA warmB : Bool)
  /-- OCXO_WARM_TIMEOUT (R314). -/
  | ocxoWarmTimeout (tb : TbId)
  /-- SERVO_UPDATE (R54). -/
  | servoUpdate (inp : ServoIn)
  /-- WTR_EXPIRED (R78). -/
  | wtrExpired
  /-- ACCEPT_JUMP (R42): the command written in a timebase's space. -/
  | acceptJump (tb : TbId)
  /-- TIME_SET (R43). -/
  | timeSet (tb : TbId)
  /-- LEAP_SECOND_APPLY (R32). -/
  | leapSecondApply
  /-- MODEL_SETTINGS_WRITE (R63): with the rates of each timebase that has learned. -/
  | modelSettingsWrite
  /-- MODEL_RESTART (R86). -/
  | modelRestart (tb : TbId)
  /-- REFIN_PPS_EDGE (R71): an edge of the polarity on time. -/
  | refinPpsEdge (n : RefinId) (edge : RefinEdge)
  /-- PPS_WINDOW_CLOSE (R71). -/
  | ppsWindowClose (n : RefinId)
  /-- FREQ_ACTIVITY_LOSS (R71). -/
  | freqActivityLoss (n : RefinId)
  /-- TODIN_MESSAGE (R67): the bytes on a line and the delay of its start bit after the paired PPS edge in µs. -/
  | todinMessage (line : Fin 2) (bytes : List Byte) (delayUs : Nat)
  /-- TODIN_LOSS (R68). -/
  | todinLoss (n : RefinId)
  /-- FREQ_GATE_END (R72): the measured frequency against the judging OCXO in units of 10^-14. -/
  | freqGateEnd (id : CandId) (freq : Int)
  /-- CANDIDATE_QUALIFIED (R72). -/
  | candidateQualified (id : CandId)
  /-- REFIN_CFG_WRITE (R64). -/
  | refinCfgWrite (n : RefinId) (v : Word)
  /-- SKIP_WTR (R80). -/
  | skipWtr
  /-- CLEAR_BARS (R85). -/
  | clearBars
  /-- MONITOR_ERROR (R76): a memory error in a candidate's monitor. -/
  | monitorError (e : MemErr (Fin 36))
  /-- STANDBY_COUNTER_LOAD (R91): with the difference x after the load in 2^-16 ns. -/
  | standbyCounterLoad (x : Int)
  /-- STANDBY_ENTERS_TRACKING (R91). -/
  | standbyEntersTracking (x : Int)
  /-- STANDBY_ENTERS_READY (R91). -/
  | standbyEntersReady (x : Int)
  /-- STANDBY_TRACK_LOST (R91). -/
  | standbyTrackLost (x : Int)
  /-- STANDBY_FAULT (R91): an uncorrectable error, or the FSP's watchdog of its TBP. -/
  | standbyFault (watchdog : Bool)
  /-- STANDBY_NOT_READY_TIMEOUT (R92). -/
  | standbyNotReadyTimeout
  /-- HEARTBEAT_EMIT (R93): with the outcome of the TBP's self-check. -/
  | heartbeatEmit (selfCheckOk : Bool)
  /-- HEARTBEAT_RECEIVED (R94). -/
  | heartbeatReceived (path : HbPath)
  /-- HEARTBEAT_MISS (R94): the paths on which a 50 µs interval passed without a beat. -/
  | heartbeatMiss (line mem : Bool)
  /-- MIRROR_REPLAY_DONE (R100): which of the two checkpoints pass their check at replay, and the number of journal
  entries that precede the first missing or damaged one. -/
  | mirrorReplayDone (cp0Ok cp1Ok : Bool) (goodEntries : Nat)
  /-- FAILURE_DECLARED (R97). -/
  | failureDeclared
  /-- CHECKPOINT_WRITE (R98): with the standby's verification. -/
  | checkpointWrite (verified : Bool)
  /-- TWIN_SWITCH (R104). -/
  | twinSwitch
  /-- HANDOVER (R105). -/
  | handover
  /-- REVERTIVE_TIMER_EXPIRED (R107). -/
  | revertiveTimerExpired
  /-- STANDBY_OFF (R109). -/
  | standbyOff
  /-- STANDBY_ON (R109). -/
  | standbyOn
  /-- SYN_CFG_WRITE (R112). -/
  | synCfgWrite (i : SynId) (v : Word)
  /-- BAND_ENTRY_WRITE (R114). -/
  | bandEntryWrite (i : SynId) (bank : Fin 2) (entry : Fin 64) (word : Fin 2) (v : Word)
  /-- SYN_FREQ_HI_WRITE (R119). -/
  | synFreqHiWrite (i : SynId) (v : Word)
  /-- SYN_LOCK_DECLARED (R117). -/
  | synLockDeclared (i : SynId)
  /-- SYN_ACQ_TIMEOUT (R116). -/
  | synAcqTimeout (i : SynId)
  /-- SYN_LOCK_LOST (R119). -/
  | synLockLost (i : SynId)
  /-- RETUNE (R114). -/
  | retune (i : SynId)
  /-- STEP (R127). -/
  | phaseStep (i : SynId)
  /-- STEP_AT (R127). -/
  | stepAt (i : SynId)
  /-- STEP_AT_START (R127). -/
  | stepAtStart (i : SynId)
  /-- RESYNC (R130). -/
  | resync (i : SynId)
  /-- STEP_CANCEL (R127). -/
  | stepCancel (i : SynId)
  /-- STEP_COMPLETE (R126). -/
  | stepComplete (i : SynId)
  /-- OUT_CFG_WRITE (R120). -/
  | outCfgWrite (n : OutId) (v : Word)
  /-- OUT_PER_HI_WRITE (R133). -/
  | outPerHiWrite (n : OutId) (v : Word)
  /-- OUT_ALIGN_WRITE (R132). -/
  | outAlignWrite (n : OutId) (v : Word)
  /-- OUTPUT_START (R122). -/
  | outputStart (n : OutId)
  /-- ALIGN (R131). -/
  | align (n : OutId)
  /-- ARM (R132). -/
  | arm (n : OutId)
  /-- DISARM (R132). -/
  | disarm (n : OutId)
  /-- ALIGNED_EDGE (R131). -/
  | alignedEdge (n : OutId)
  /-- QUAD_MODE_WRITE (R162): a write of LANE_QUAD_CFG. -/
  | quadModeWrite (p : PortId) (v : Word)
  /-- BRINGUP_PHASE_DONE (R138): with the latencies read in the LATENCY phase. -/
  | bringupPhaseDone (p : PortId) (ended : PhaseEnd) (lat : LatMeas)
  /-- BRINGUP_TIMEOUT (R139). -/
  | bringupTimeout (p : PortId)
  /-- LINK_UP (R139). -/
  | linkUp (p : PortId)
  /-- LOSS_OF_SIGNAL (R141). -/
  | lossOfSignal (p : PortId)
  /-- LOCK_LOST (R141). -/
  | lockLost (p : PortId)
  /-- DEGRADE_WINDOW_END (R141): the uncorrectable and corrected codewords of the window, or hi_ber. -/
  | degradeWindowEnd (p : PortId) (uncorrectable corrected : Nat) (hiBer : Bool)
  /-- LANE_FAULT (R147). -/
  | laneFault (l : LaneId)
  /-- LANE_TEST_WRITE (R146). -/
  | laneTestWrite (l : LaneId) (v : Word)
  /-- CHK_LOCK_GAINED (R144). -/
  | chkLockGained (l : LaneId)
  /-- CHK_LOCK_LOST (R144). -/
  | chkLockLost (l : LaneId) (e : PrbsErrors)
  /-- LANE_CFG_WRITE (R163). -/
  | laneCfgWrite (l : LaneId) (v : Word)
  /-- QUAD_RESTART (R163). -/
  | quadRestart (p : PortId)
  /-- DISC_EN_WRITE (R161). -/
  | discEnWrite (p : PortId) (v : Word)
  /-- SLEEP_ENTRY_DECISION (R300). -/
  | sleepEntryDecision (p : PortId)
  /-- SLEEP_NOTICE_RECEIVED (R151): the frame's 64 bytes and whether its FCS was correct. -/
  | sleepNoticeReceived (p : PortId) (bytes : List Byte) (fcsOk : Bool)
  /-- SLEEP_ENTRY (R151, R158): of a direction agreed by a notice, or of a receive direction whose partner goes to LPI; and
whether the stream still runs, as the receiver sees it. -/
  | sleepEntry (p : PortId) (d : Dir) (streamRuns : Bool)
  /-- DEEPENING (R300). -/
  | deepening (p : PortId)
  /-- BURST_LEAD (R152). -/
  | burstLead (p : PortId) (d : Dir)
  /-- REFRESH_BURST (R152). -/
  | refreshBurst (p : PortId)
  /-- BURST_RECEIVED (R153): the phase correction in 1/64 UI. -/
  | burstReceived (p : PortId) (correction : Int)
  /-- BURST_MISSED (R153). -/
  | burstMissed (p : PortId)
  /-- TX_WAKE_DECISION (R301). -/
  | txWakeDecision (p : PortId) (cause : WakeCause)
  /-- WAKE_GUARD_END (R154). -/
  | wakeGuardEnd (p : PortId) (lat : LatMeas)
  /-- RX_WAKE_DETECTED (R154): the correction of clock recovery, the latencies of the check, and which part of the wake. -/
  | rxWakeDetected (p : PortId) (correction : Int) (lat : LatMeas) (step : RxWakeStep)
  /-- SMC_STOPPED (R157): the SMC stops, or runs again. -/
  | smcStopped (runsAgain : Bool)
  /-- HELLO_SEND (R159). -/
  | helloSend (p : PortId)
  /-- HELLO_RECEIVED (R161). -/
  | helloReceived (p : PortId) (bytes : List Byte) (fcsOk : Bool)
  /-- PARTNER_LOST (R161). -/
  | partnerLost (p : PortId)
  /-- BEAT_SAMPLE (R165): φ_RX and φ_TX in 6.4 ns / 2^14, and whether RX_REF lies within ±1 ppm (R166). -/
  | beatSample (p : PortId) (phiRx phiTx : Nat) (within1ppm : Bool)
  /-- PTP_SYNC_RECEIVED (R176). -/
  | ptpSyncReceived (p : PortId) (m : PtpMsg) (cap : Capture)
  /-- PTP_FOLLOW_UP_RECEIVED (R189). -/
  | ptpFollowUpReceived (p : PortId) (m : PtpMsg)
  /-- PTP_ANNOUNCE_RECEIVED (R184). -/
  | ptpAnnounceReceived (p : PortId) (m : PtpMsg) (d : AnnounceData)
  /-- DELAY_REQ_RECEIVED (R187). -/
  | delayReqReceived (p : PortId) (m : PtpMsg) (cap : Capture)
  /-- DELAY_RESP_RECEIVED (R179). -/
  | delayRespReceived (p : PortId) (m : PtpMsg)
  /-- PDELAY_REQ_RECEIVED (R187): the request's and the response's captures. -/
  | pdelayReqReceived (p : PortId) (m : PtpMsg) (cap txCap : Capture)
  /-- PDELAY_RESP_RECEIVED (R179). -/
  | pdelayRespReceived (p : PortId) (r : PdelayReply)
  /-- PTP_SYNC_TRANSMIT (R189). -/
  | ptpSyncTransmit (p : PortId) (cap : Capture)
  /-- PTP_FOLLOW_UP_TRANSMIT (R189). -/
  | ptpFollowUpTransmit (p : PortId)
  /-- PTP_ANNOUNCE_TRANSMIT (R184). -/
  | ptpAnnounceTransmit (p : PortId)
  /-- DELAY_REQ_TRANSMIT (R179). -/
  | delayReqTransmit (p : PortId) (cap : Capture)
  /-- DELAY_REFRESH (R197). -/
  | delayRefresh (p : PortId) (cap : Capture)
  /-- PTP_RECEIPT_TIMEOUT (R70). -/
  | ptpReceiptTimeout (p : PortId) (k : ReceiptKind)
  /-- BMCA_RUN (R180). -/
  | bmcaRun (inst : Fin 4)
  /-- PTP_CFG_WRITE (R198). -/
  | ptpCfgWrite (p : PortId) (v : Word)
  /-- REV_START (R192): the value written, which holds REV_AVG. -/
  | revStart (p : PortId) (v : Word)
  /-- REV_MEASUREMENT_DONE (R192). -/
  | revMeasurementDone (p : PortId)
  /-- REV_STEP_TIMEOUT (R192). -/
  | revStepTimeout (p : PortId)
  /-- REV_FINISH (R192). -/
  | revFinish (p : PortId)
  /-- REV_APPLY (R193). -/
  | revApply (p : PortId)
  /-- REV_ABORT (R192). -/
  | revAbort (p : PortId)
  /-- TIO_CFG_WRITE (R222). -/
  | tioCfgWrite (c : TioId) (v : Word)
  /-- CALIBRATION_START (R206). -/
  | calibrationStart (c : TdcId) (cause : CalCause)
  /-- CALIBRATION_COMPLETE (R207). -/
  | calibrationComplete (c : TdcId) (r : CalResult)
  /-- TIO_INPUT_EDGE (R209): polarity, the latching sample edge in cycles of 1.6 ns, and the delay-line bin. -/
  | tioInputEdge (c : TioId) (rising : Bool) (sample : Nat) (bin : Fin 640)
  /-- TIO_NO_EDGE_TIMEOUT (R210). -/
  | tioNoEdgeTimeout (c : TioId)
  /-- TIO_ARM (R211). -/
  | tioArm (c : TioId)
  /-- TIO_DISARM (R211). -/
  | tioDisarm (c : TioId)
  /-- TIO_MEAS_TIMEOUT (R212). -/
  | tioMeasTimeout (c : TioId)
  /-- TIO_START (R217). -/
  | tioStart (c : TioId)
  /-- TIO_OUTPUT_EDGE (R216). -/
  | tioOutputEdge (c : TioId)
  /-- TIO_CANCEL (R220). -/
  | tioCancel (c : TioId)
  /-- TIO_RECORD_READ (R215): the read and the number of its bytes enabled (R353). -/
  | tioRecordRead (c : TioId)
  /-- TIO_FIFO_ENTRY_FAULT (R215): the position of the faulty entry, oldest first. -/
  | tioFifoEntryFault (c : TioId) (e : MemErr (Fin 64))
  /-- TIO_OUTPUT_ENGINE_FAULT (R221). -/
  | tioOutputEngineFault (e : MemErr TioId)
  /-- FRAME_RECEIVED (R226). -/
  | frameReceived (p : PortId) (f : RxFrame)
  /-- FRAME_FCS_VERDICT (R248): of the frame that port `p` is receiving. -/
  | frameFcsVerdict (p : PortId) (v : RxVerdict)
  /-- FRAME_COMMIT (R278): the capture of the frame's departure. -/
  | frameCommit (p : PortId) (cap : Capture)
  /-- FRAME_TRANSMIT_DONE (R245). -/
  | frameTransmitDone (p : PortId)
  /-- AGEING_SWEEP (R234). -/
  | ageingSweep
  /-- FDB_LOOKUP (R235). -/
  | fdbLookup
  /-- FDB_INSERT (R235). -/
  | fdbInsert
  /-- FDB_DELETE (R235). -/
  | fdbDelete
  /-- FDB_READ_IDX (R235): INDEX in the same write. -/
  | fdbReadIdx (index : Fin 262144)
  /-- FDB_FLUSH (R236): the filter bits of the same write. -/
  | fdbFlush (byPort byVid staticToo : Bool)
  /-- FDB_FLUSH_DONE (R236). -/
  | fdbFlushDone
  /-- FDB_BAD_OP (R235): OP 5 to 7. -/
  | fdbBadOp (op : Fin 8)
  /-- CELL_READ_ERROR (R253): while egress port `p` reads cell `cell`. -/
  | cellReadError (p : PortId) (e : MemErr (Fin 294912))
  /-- LIST_ERROR (R254): the pointer or descriptor (`descriptor`) that egress port `p` needs at a place. -/
  | listError (p : PortId) (place : ListPlace) (descriptor : Bool) (k : ErrKind)
  /-- TABLE_ENTRY_ERROR (R257). -/
  | tableEntryError (t : TableId) (e : MemErr (Fin 262144))
  /-- AUDIT_PASS (R258). -/
  | auditPass (f : AuditFinds)
  /-- RECOVERY_TIMEOUT (R271). -/
  | recoveryTimeout (i : Fin 4096)
  /-- HOLD_RELEASE (R272): the oldest hold of an instance has run out. -/
  | holdRelease (i : Fin 4096)
  /-- RECOVERY_CFG_WRITE (R294): word 0 to 4 of an instance. -/
  | recoveryCfgWrite (i : Fin 4096) (word : Fin 5) (v : Word)
  /-- METER_CFG_WRITE (R294): word 0 to 4 of a meter. -/
  | meterCfgWrite (m : Fin 8192) (word : Fin 5) (v : Word)
  /-- GATE_EVENT (R282). -/
  | gateEvent (p : PortId)
  /-- GATE_CFG_WRITE (R283). -/
  | gateCfgWrite (p : PortId) (t : GateTarget) (v : Word)
  /-- QUEUE_CFG_WRITE (R291). -/
  | queueCfgWrite (p : PortId) (q : ClassId) (r : QueueReg) (v : Word)
  /-- REPREDICTION_DONE (R289). -/
  | repredictionDone (p : PortId)
  /-- FAST_START (R296). -/
  | fastStart
  /-- FAST_DOMAIN_ON (R426). -/
  | fastDomainOn
  /-- FAST_STOP (R297). -/
  | fastStop
  /-- FAST_DOMAIN_OFF (R297). -/
  | fastDomainOff
  /-- PWR_LAT_WRITE (R301). -/
  | pwrLatWrite (p : PortId) (t : LatTarget) (v : Word)
  /-- PWR_GATE_CFG_WRITE (R310). -/
  | pwrGateCfgWrite (v : Word)
  /-- LPLL_STOP (R302). -/
  | lpllStop (k : Fin 4)
  /-- BANK_DRAIN_START (R306). -/
  | bankDrainStart
  /-- BANK_GATED (R306). -/
  | bankGated
  /-- SLICE_GATE (R307). -/
  | sliceGate (slice : Fin 16)
  /-- CORE_IDLE_GATE (R308): CP core 1 to 3. -/
  | coreIdleGate (core : Fin 3)
  /-- INPUT_MONITOR_REFRESH (R309): voltage in 10 mV, power in 0.1 W, die temperature in 0.1 °C. -/
  | inputMonitorRefresh (vin pin : BitVec 16) (dieTemp : BitVec 16)
  /-- RESET_PIN (R318). -/
  | resetPin
  /-- GLB_RESET_FULL (R318): with the KEY of the same write. -/
  | glbResetFull (key : Byte)
  /-- GLB_RESET_FAST (R318). -/
  | glbResetFast (key : Byte)
  /-- GLB_RESET_CP (R318). -/
  | glbResetCp (key : Byte)
  /-- GLB_RESET_SMC (R318). -/
  | glbResetSmc (key : Byte)
  /-- FSP_WATCHDOG (R318). -/
  | fspWatchdog
  /-- PROCESSOR_WATCHDOG (R318). -/
  | processorWatchdog (cpu : WatchedCpu)
  /-- CFG_CHECK (R325). -/
  | cfgCheck (slot : Fin 2)
  /-- CFG_ACTIVATE (R325). -/
  | cfgActivate (slot : Fin 2)
  /-- CFG_RELOAD (R326). -/
  | cfgReload
  /-- CFG_COMMAND_DONE (R325). -/
  | cfgCommandDone
  /-- SETTINGS_PERIODIC_WRITE (R327). -/
  | settingsPeriodicWrite
  /-- RETENTION_REFRESH_SECTOR (R329). -/
  | retentionRefreshSector
  /-- UPD_VERIFY (R332). -/
  | updVerify
  /-- UPD_ACTIVATE (R337). -/
  | updActivate
  /-- UPD_CONFIRM (R341). -/
  | updConfirm
  /-- UPD_ABORT (R341). -/
  | updAbort
  /-- UPD_ERASE (R334). -/
  | updErase
  /-- NVM_ERASE_DONE (R334). -/
  | nvmEraseDone
  /-- UPD_FLUSH (R334). -/
  | updFlush
  /-- NVM_PROGRAM_DONE (R334). -/
  | nvmProgramDone
  /-- LIVE_STEP_COMPLETE (R338). -/
  | liveStepComplete
  /-- LIVE_STEP_TIMEOUT (R338). -/
  | liveStepTimeout
  /-- CARRYOVER_TIMEOUT (R339). -/
  | carryoverTimeout
  /-- CONFIRM_WINDOW_EXPIRED (R341). -/
  | confirmWindowExpired
  /-- IND_DATA_WRITE (R362). -/
  | indDataWrite (v : Word)
  /-- IND_QUEUE_APPLY (R362). -/
  | indQueueApply
  /-- IND_DATA_READ (R360). -/
  | indDataRead
  /-- NVM_READ_HELD_TIMEOUT (R364). -/
  | nvmReadHeldTimeout
  /-- WIDE_CAPTURE (R365). -/
  | wideCapture
  /-- WIDE_D3_READ (R366). -/
  | wideD3Read
  /-- HOST_LINK_RESET (R368). -/
  | hostLinkReset (cause : HostResetCause)
  /-- ENDPOINT_READY (R316): the speed and width codes of the trained link (R349). -/
  | endpointReady (speed width : Fin 8)
  /-- HOST_HB_KICK (R369). -/
  | hostHbKick
  /-- HOST_SILENT_TIMEOUT (R369). -/
  | hostSilentTimeout
  /-- SMB_WRITE_REGISTER (R370). -/
  | smbWriteRegister (offset : BitVec 16) (v : Word) (h : SmbHead)
  /-- SMB_READ_REGISTER (R370). -/
  | smbReadRegister (offset : BitVec 16) (h : SmbHead)
  /-- SMB_WRITE_NVM (R370). -/
  | smbWriteNvm (addr v : Word) (h : SmbHead)
  /-- SMB_READ_NVM (R370). -/
  | smbReadNvm (addr : Word) (h : SmbHead)
  /-- MBX_POST (R374): `msg` is what a processor has put in MSG; the host's MSG is written by register writes. -/
  | mbxPost (src dst : MboxParty) (msg : List Byte)
  /-- MBX_WITHDRAW (R374). -/
  | mbxWithdraw (src dst : MboxParty)
  /-- MBX_TAKE (R374). -/
  | mbxTake (src dst : MboxParty)
  /-- MBX_ACK (R374): CODE, and the RSP of a processor; the host's RSP is written by register writes. -/
  | mbxAck (src dst : MboxParty) (code : BitVec 16) (rsp : List Byte)
  /-- MBX_RELEASE (R374). -/
  | mbxRelease (src dst : MboxParty)
  /-- MBX_CHANNEL_FAULT (R374). -/
  | mbxChannelFault (channel : MboxParty × MboxParty) (k : ErrKind)
  /-- MBX_HOST_RESTART (R379). -/
  | mbxHostRestart
  /-- PTP_MANAGEMENT (R182): the CP handles the message part it has taken from the host. -/
  | ptpManagement
  /-- CONTINUE (R381): the CP handles the host's CONTINUE. -/
  | continueMsg
  /-- CNT_DATA_WRITE (R386): and the number of events counted in the same cycle. -/
  | cntDataWrite (v : Word) (sameCycle : Nat)
  /-- CNT_CFG_WRITE (R384). -/
  | cntCfgWrite (v : Word)
  /-- RING_BOUNDARY (R390). -/
  | ringBoundary
  /-- HOST_RING_WRITE (R393). -/
  | hostRingWrite
  /-- TELEMETRY_SEND (R395). -/
  | telemetrySend
  /-- RING_AREA_READ (R394). -/
  | ringAreaRead
  /-- ALARM_LATCH_CLEAR (R399): a write of ALM_LATCH0 or ALM_LATCH1. -/
  | alarmLatchClear (word : Fin 2) (v : Word)
  /-- ALARM_LOG_READ (R401). -/
  | alarmLogRead
  /-- RE_ENABLE (R402): CLASS in the same write as GO. -/
  | reEnable (cls : Byte)
  /-- CONVERSION_ENABLE (R411). -/
  | conversionEnable
  /-- MODULE_REMOVAL (R412). -/
  | moduleRemoval
  /-- POWER_DISABLE (R414): and whether PWR_DIS goes on to be held high for at least 100 ms (R423). -/
  | powerDisable (over100ms : Bool)
  /-- INPUT_POWER_LOSS (R409): an interruption beyond ride-through, or an overvoltage. -/
  | inputPowerLoss (overvoltage : Bool)
  /-- THERMAL_TRIP (R423): the die temperature in 0.1 °C. -/
  | thermalTrip
  /-- RESET_N_RELEASE (R318). -/
  | resetNRelease
  /-- NEW_CP_TAKEOVER_TIMEOUT (R341). -/
  | newCpTakeoverTimeout
  /-- PCIE_CONFIG_WRITE (R351). -/
  | pcieConfigWrite (c : PcieCfg)
  /-- PTP_SIGNALING_RECEIVED (R181): a grant, denial or L1_SYNC exchange from a partner. -/
  | ptpSignalingReceived (p : PortId) (m : PtpMsg) (tlvs : List Byte)
  deriving DecidableEq, Repr

end Sys2Proof
end

