-- ==== Sys2Proof/Config.lean ====
section
/-! DEFINITION. What one part fixes and the free values of the model: every constant here has no body, so that no proof
can lean on a value that the spec leaves open (the rows of notes/assumptions that name them say which rule leaves what
open). -/

namespace Sys2Proof.Config

/-- A fresh free value for the `n`-th open choice of a run (the counter `Dev.freeCtr` is advanced at each use). -/
opaque freeNat : Nat → Nat

/-- Whether a quotient that is no whole number is rounded up, where the spec states no rounding. -/
opaque roundsUp : Int → Nat → Bool
/-- The running uncertainties σ_f, σ_a and σ_T of R61, estimated from the model's residuals: of a timebase (0 A, 1 B)
after a learning time in ms, in units of 2^-48 ns per s, per s² and per s and mK. -/
opaque sigmaF : Nat → Nat → Nat
opaque sigmaA : Nat → Nat → Nat
opaque sigmaT : Nat → Nat → Nat
/-- The ageing rate and the temperature coefficient that a TBP (0 A, 1 B) has learned (R59), from the learning time. -/
opaque learnedAgeing : Nat → Nat → Int
opaque learnedTempCo : Nat → Nat → Int
/-- The frequency, in 10^-14, of the judging OCXO against network time that the learned model of a timebase predicts
after a learning time in ms (R83). -/
opaque modelFreq : Nat → Nat → Int
/-- The OCXO-to-OCXO offset that the standby loop has measured at the `n`-th change of the active timebase (R73), in 2^-48. -/
opaque ocxoOffsetWord : Nat → Int
/-- Whether the standby's verification passes the `n`-th checkpoint, of those that no command reports (R98). -/
opaque checkpointOk : Nat → Bool
/-- clockAccuracy of a predicted time error (R37, "from the predicted error"). -/
opaque accuracyOf : Nat → Nat
/-- A byte of one of the two identical copies of the factory region (R311), by its offset: written by Forael at manufacture. -/
opaque factoryByte : Nat → BitVec 8
/-- The factory MAC address of a port (R296), from the factory region, whose layout the spec does not give. -/
opaque macAddr : Nat → BitVec 48
/-- SIG_REQUIRED of the factory region (R321). -/
opaque sigRequired : Bool
/-- ECDSA P-384 verification (R332, R321): key set (0 firmware root keys, 1 configuration keys), KEY_INDEX, the bytes
signed, and the signature as r and s. -/
opaque signatureOk : Nat → Nat → List (BitVec 8) → List (BitVec 8) → Bool
/-- A byte of flash whose erase or programming a reset has cut off (R319), by the count of free choices and its address. -/
opaque tornByte : Nat → Nat → BitVec 8
/-- Whether the reads granted in the cycle of a cell write, by the count of free choices, claim a bank that holds a cell of
a frame in transmission (R243): which cell a port reads in which fabric cycle is not stated. -/
opaque bankRead : Nat → Nat → Bool
/-- Which of several reasons that hold at once PWR_PORT_STAT.HOLD_CAUSE shows: the spec gives no order. -/
opaque pickReason : List Nat → Nat
/-- The uniform random number of random early drop (R277): the LFSR whose seed and polynomial the spec does not give. -/
opaque redRandom : Nat → Nat
/-- Tw_sys_tx of IEEE 802.3 for a port mode, in 0.1 µs (R288, R299): the standard's figure, not this spec's. -/
opaque twSysTx : Nat → Nat
/-- L_RX,fix (0) and L_TX,fix (1) of a port mode at a die temperature in 0.1 °C, in fs: factory values of CAL space (R169). -/
opaque latFixed : Nat → Nat → Int → Nat
/-- d_pin and d_out of a TIO channel at a die temperature in 0.1 °C, in fs: factory values of CAL space (R209, R216). -/
opaque tioPinDelay : Nat → Int → Nat
opaque tioOutDelay : Nat → Int → Nat
/-- P_TX of a port mode in ns, from L_TX in 2^-16 ns and d_TX,ext in ps (R287). -/
opaque pTxOf : Nat → Int → Nat → Nat

/-- The module's EUI-64 clock identity (R160), from the two words of its serial number: its form is not given. -/
opaque clockId : BitVec 32 → BitVec 32 → BitVec 64
/-- managementErrorId of an IEEE 1588-2019 MANAGEMENT message (R182) by action, managementId and data: the standard's. -/
opaque mgmtError : Nat → Nat → List (BitVec 8) → Nat
/-- Of the IP network of a port that carries PTP over UDP (R181), of which the spec says nothing: 0 class of service, 1
identification or flow label, 2 time to live, 3 own address, 4 and 5 IP and MAC address of the unicast partner, 6 which of
its two multicast addresses G.8275.1 uses, 7 whether the CP leaves the UDP checksum zero over IPv4. -/
opaque ptpNet : Nat → Nat → Nat
/-- The duration in s that a unicast request asks for (R181). -/
opaque unicastDuration : Nat → Nat
/-- The managementId under which L1SyncState is reported (R181). -/
opaque l1StateId : Nat
/-- The data of a managementId that nothing has set (R182), of an instance: the standard's data sets. -/
opaque dataSet : Nat → Nat → List (BitVec 8)
end Sys2Proof.Config
end

