-- ==== Sys2Proof/Machine/Regs.lean ====
section
/-! DEFINITION. The registers of the module as data: the name of each register, its block or indirect space, its
offsets and its fields, as the register tables of spec/ give them (00_scope.md, "Notation and conventions";
14_host_link_and_registers.md, "The BAR0 map"). Replicated registers are one name with a unit number, the mixed-radix
number of their indices. -/

namespace Sys2Proof.Machine

/-- Register access types (00_scope.md). -/
inductive Acc where | rw | ro | wo | w1c | w1s | rwh | sc
  deriving DecidableEq, Repr

/-- The stated range of a field: a value outside it is taken as the nearest limit. `zeroOr` admits zero as well. -/
inductive Lim where
  | none
  | nat (lo hi : Nat)
  | int (lo hi : Int)
  | zeroOr (lo hi : Nat)
  deriving DecidableEq, Repr

/-- Where a register lies: in BAR0 itself or in one of the indirect spaces 0x0 to 0x6 (R352). Both TB spaces are one,
timebase B being unit 1. -/
inductive Space where | bar0 | firn | tb | rsel | syn | tio | lane
  deriving DecidableEq, Repr

/-- One field of a register: bits `[lo+width-1 : lo]`, access type, reset value and stated range. -/
structure FieldSpec where
  lo    : Nat
  width : Nat
  acc   : Acc
  reset : Nat
  lim   : Lim := .none
  deriving DecidableEq, Repr

/-- A register: its space, its first offset, the (stride, count) of each index, and its fields. Bits outside every
field are reserved (R5). -/
structure RegSpec where
  space  : Space
  base   : Nat
  dims   : List (Nat × Nat)
  fields : List FieldSpec
  deriving DecidableEq, Repr

/-- Every register of the module, by the name the spec gives it; a replicated register has one constructor. -/
inductive Reg where
  | TB_TSTAT | TB_JUMP_CFG | TB_SLEW_CFG | TB_LOCK_CFG | TB_HOLD_LIMIT | TB_UTC | TB_UTC_CFG | TB_TCMD | TB_TSET0
  | TB_TSET1 | TB_TSET2 | TB_TSET3 | TB_SERVO_TGT | TB_SERVO_TGT2 | TB_SERVO_PIN | TB_SERVO_STAT | TB_MODEL_STAT
  | TB_MODEL_CMD | TB_HOLD_CFG | RSEL_CFG | RSEL_LIMITS | RSEL_DISAGREE | RSEL_SEL | RSEL_CMD | RSEL_REFIN_CFG
  | RSEL_PRIO | RSEL_CAND_CFG | RSEL_CAND_STAT | RSEL_CAND_FREQ | RSEL_CAND_TOFS | TB_ROLE | TB_TWIN_CFG
  | TB_TWIN_CMD | TB_HB_STAT | TB_TAKEOVER | SYN_CFG | SYN_LOCK_CFG | SYN_FREQ_LO | SYN_FREQ_HI | SYN_CMD | SYN_STEP
  | SYN_STEP_T0 | SYN_STEP_T1 | SYN_STEP_T2 | SYN_STEP_T3 | SYN_STAT | SYN_BAND_W0 | SYN_BAND_W1 | OUT_CFG
  | OUT_PER_LO | OUT_PER_HI | OUT_WIDTH | OUT_OFS_LO | OUT_OFS_HI | OUT_ALIGN | OUT_CMD | OUT_STAT | LANE_CFG
  | LANE_TXEQ | LANE_TEST | LANE_PRBS_ERR | LANE_STAT | LANE_QUAD_CFG | LANE_QUAD_CMD | LANE_QUAD_STAT | LANE_BRINGUP
  | LANE_PARTNER_ID_HI | LANE_PARTNER_ID_LO | LANE_PARTNER_INFO | LANE_PARTNER_DOM | PRT_MAC_CFG | PRT_MAC_ADDR_HI
  | PRT_MAC_ADDR_LO | PRT_PTP_CFG | PRT_PTP_RATE | PRT_EXT_DELAY | PRT_ASYM_REF | PRT_ASYM_DREF | PRT_ASYM_COEF
  | PRT_PTU_STAT | PRT_LAT_STAT | PRT_REV_CMD | PRT_REV_STAT | PRT_REV_RESULT | TIO_CFG | TIO_IN_CFG | TIO_HOLDOFF
  | TIO_MEAS_CFG | TIO_TIMEOUT | TIO_GATE | TIO_DELAY | TIO_CMD | TIO_STAT | TIO_CAL_STAT | TIO_T0_0 | TIO_T0_1
  | TIO_T0_2 | TIO_T0_3 | TIO_PER_LO | TIO_PER_HI | TIO_WID_LO | TIO_WID_HI | TIO_COUNT | TIO_OUT_CFG
  | TIO_TRIG_DELAY | TIO_REC | VLAN_W0 | VLAN_W1 | VLAN_W2 | VLAN_W3 | FDB_W0 | FDB_W1 | FDB_W2 | FDB_W3 | SW_CFG
  | SW_AGE | SW_FDB_KEY_LO | SW_FDB_KEY_HI | SW_FDB_DATA | SW_FDB_MASK | SW_FDB_CMD | SW_PORT_CFG | SW_PCP_MAP
  | SW_CT_EN | SW_ST_SLICE_CFG | SW_ST_PAIR | SW_MIR_CFG | SW_MIR_SAMPLE | SW_MIR_IN | SW_MIR_OUT | SW_BUF_FREE
  | SW_BUF_USED | SW_BUF_RETIRED | SW_BUF_GATED | SW_BUF_GATED_CELLS | SW_AUDIT_CFG | SW_AUDIT_STAT | PRT_Q_CFG
  | PRT_Q_LIMIT | PRT_Q_BOUND | PRT_Q_RES | PRT_Q_STAT | PRT_GATE_CFG | PRT_GATE_STAT | PRT_GCL_BASE_HI
  | PRT_GCL_BASE_LO | PRT_GCL_BASE_NS | PRT_GCL_CYCLE | PRT_GCL_LEN | PRT_PROT | PRT_Q_PTX | SW_POOL_SHARED
  | SW_POOL_SHARED_USED | SW_POOL_RES | SW_POOL_RES_USED | SW_HOLD_STAT | SW_RED_PROF_W0 | SW_RED_PROF_W1
  | SW_RED_PROF_W2 | SW_RED_PROF_W3 | SW_RED_PROF_W4 | SW_RED_PROF_W5 | SW_RED_PROF_W6 | GCL_W0 | GCL_W1 | METER_W0
  | METER_W1 | METER_W2 | METER_W3 | METER_W4 | METER_W5 | METER_W6 | SGATE_W0 | SGATE_W1 | SGATE_W2 | SGATE_W3
  | SGATE_W4 | SGATE_W5 | SEQGEN_W0 | RECOV_W0 | RECOV_W1 | RECOV_W2 | RECOV_W3 | RECOV_W4 | RECOV_W5 | RECOV_W6
  | PWR_STAT | PWR_FAST_CMD | PWR_GATE_CFG | PWR_SLEEP_CFG | PWR_GATE_HOLD | PWR_INPUT | PWR_PORT_CFG | PWR_LAT
  | PWR_PORT_STAT | GLB_ID | GLB_SERIAL_HI | GLB_SERIAL_LO | GLB_BOOT_STAT | GLB_RESET | GLB_CFG_CMD | GLB_CFG_STAT
  | GLB_CFG_ID | GLB_CFG_FAST_ID | FIRN_OCXO_STAT | FIRN_LIFE | FIRN_BOOTS | FIRN_REFRESH_STAT | UPD_CMD | UPD_CFG
  | UPD_ERASE_ADDR | UPD_STAT | UPD_CONFIRM_LEFT | UPD_IFVER0 | UPD_IFVER1 | UPD_IFVER2 | UPD_SLOT_STAT | UPD_SLOT_ID
  | GLB_HOST_STAT | GLB_HOST_HB | GLB_SCRATCH | GLB_BAD_ACC | GLB_BAD_ACC_OFS | GLB_HEALTH | IND_SPACE | IND_ADDR
  | IND_DATA | IND_STAT | IND_ERR_ADDR | IND_CTRL | WIDE_SEL | WIDE_CTRL | WIDE_STAT | WIDE_D | MBX_MSG_OUT
  | MBX_RSP_OUT | MBX_MSG_IN | MBX_RSP_IN | MBX_CTL_OUT | MBX_CTL_IN | MBX_CMD_OUT | MBX_CMD_IN | MBX_STAT_OUT
  | MBX_STAT_IN | MBX_SUMMARY | MBX_HOST_CMD | RING_CTRL | RING_STAT | RING_HOST_BASE_LO | RING_HOST_BASE_HI
  | RING_HOST_ENTRIES | RING_HOST_HEAD | RING_HOST_TAIL | RING_AREA_ADDR | RING_AREA_DATA | RING_TEL_CFG
  | RING_TEL_DA_HI | RING_TEL_DA_LO | CNT_IDX | CNT_DATA | CNT_CFG | ALM_ACTIVE | ALM_LATCH | ALM_ENABLE | ALM_ROUTE
  | ALM_LOG_STAT | ALM_LOG_W | ALM_REEN | ALM_REEN_IDX | ST_K | ST_M | ST_A
  deriving DecidableEq, Repr

/-- Every register, for the search by address. -/
def Reg.all : List Reg :=
  (List.range 272).map Reg.ofNat

/-- A field of a register by its place. -/
structure Fld where
  reg   : Reg
  lo    : Nat
  width : Nat
  deriving DecidableEq, Repr

end Sys2Proof.Machine
end

