-- ==== Sys2Proof/Machine/Fields.lean ====
section
/-! DEFINITION. The fields of the registers by the names the spec gives them: `F.<register>.<field>` in the spec is
`F.<register>_<field>` here. -/

namespace Sys2Proof.Machine.F

def TB_TSTAT_STATUS : Fld := ⟨.TB_TSTAT, 0, 16⟩
def TB_TSTAT_CHANGED : Fld := ⟨.TB_TSTAT, 16, 1⟩
def TB_JUMP_CFG_THRESH : Fld := ⟨.TB_JUMP_CFG, 0, 30⟩
def TB_JUMP_CFG_POLICY : Fld := ⟨.TB_JUMP_CFG, 30, 1⟩
def TB_SLEW_CFG_MAX_SLEW : Fld := ⟨.TB_SLEW_CFG, 0, 11⟩
def TB_LOCK_CFG_LOCK_WIN : Fld := ⟨.TB_LOCK_CFG, 0, 20⟩
def TB_LOCK_CFG_LOCK_DWELL : Fld := ⟨.TB_LOCK_CFG, 20, 8⟩
def TB_LOCK_CFG_UNLOCK_MULT : Fld := ⟨.TB_LOCK_CFG, 28, 4⟩
def TB_HOLD_LIMIT_LIMIT : Fld := ⟨.TB_HOLD_LIMIT, 0, 30⟩
def TB_UTC_UTC_OFFSET : Fld := ⟨.TB_UTC, 0, 16⟩
def TB_UTC_LEAP61 : Fld := ⟨.TB_UTC, 16, 1⟩
def TB_UTC_LEAP59 : Fld := ⟨.TB_UTC, 17, 1⟩
def TB_UTC_UTC_VALID : Fld := ⟨.TB_UTC, 18, 1⟩
def TB_UTC_CFG_FALLBACK_OFFSET : Fld := ⟨.TB_UTC_CFG, 0, 16⟩
def TB_TCMD_ACCEPT_JUMP : Fld := ⟨.TB_TCMD, 0, 1⟩
def TB_TCMD_TIME_SET : Fld := ⟨.TB_TCMD, 1, 1⟩
def TB_TCMD_RESULT : Fld := ⟨.TB_TCMD, 8, 4⟩
def TB_TCMD_IGNORED : Fld := ⟨.TB_TCMD, 12, 1⟩
def TB_TSET0_TSET : Fld := ⟨.TB_TSET0, 0, 32⟩
def TB_TSET1_TSET : Fld := ⟨.TB_TSET1, 0, 32⟩
def TB_TSET2_TSET : Fld := ⟨.TB_TSET2, 0, 32⟩
def TB_TSET3_TSET : Fld := ⟨.TB_TSET3, 0, 32⟩
def TB_SERVO_TGT_TGT_L1 : Fld := ⟨.TB_SERVO_TGT, 0, 14⟩
def TB_SERVO_TGT_TGT_PTP : Fld := ⟨.TB_SERVO_TGT, 16, 14⟩
def TB_SERVO_TGT2_TGT_PPS : Fld := ⟨.TB_SERVO_TGT2, 0, 14⟩
def TB_SERVO_TGT2_TGT_FREQ : Fld := ⟨.TB_SERVO_TGT2, 16, 14⟩
def TB_SERVO_PIN_BW : Fld := ⟨.TB_SERVO_PIN, 0, 14⟩
def TB_SERVO_PIN_PIN : Fld := ⟨.TB_SERVO_PIN, 31, 1⟩
def TB_SERVO_STAT_BW_NOW : Fld := ⟨.TB_SERVO_STAT, 0, 14⟩
def TB_SERVO_STAT_KIND : Fld := ⟨.TB_SERVO_STAT, 16, 3⟩
def TB_SERVO_STAT_NARROWING : Fld := ⟨.TB_SERVO_STAT, 19, 1⟩
def TB_SERVO_STAT_PARENT_LOCKED : Fld := ⟨.TB_SERVO_STAT, 20, 1⟩
def TB_SERVO_STAT_DCO_CLAMPED : Fld := ⟨.TB_SERVO_STAT, 21, 1⟩
def TB_MODEL_STAT_LEARN_H : Fld := ⟨.TB_MODEL_STAT, 0, 16⟩
def TB_MODEL_STAT_VALID : Fld := ⟨.TB_MODEL_STAT, 16, 1⟩
def TB_MODEL_STAT_DECIDES : Fld := ⟨.TB_MODEL_STAT, 17, 1⟩
def TB_MODEL_STAT_SEEDED : Fld := ⟨.TB_MODEL_STAT, 18, 1⟩
def TB_MODEL_CMD_RESTART : Fld := ⟨.TB_MODEL_CMD, 0, 1⟩
def TB_MODEL_CMD_RESULT : Fld := ⟨.TB_MODEL_CMD, 4, 2⟩
def TB_HOLD_CFG_HOLD_AVG : Fld := ⟨.TB_HOLD_CFG, 0, 8⟩
def TB_HOLD_CFG_HOLD_EXCL : Fld := ⟨.TB_HOLD_CFG, 8, 8⟩
def RSEL_CFG_REVERTIVE : Fld := ⟨.RSEL_CFG, 0, 1⟩
def RSEL_CFG_OUTVOTE_ACT : Fld := ⟨.RSEL_CFG, 1, 2⟩
def RSEL_CFG_WTR : Fld := ⟨.RSEL_CFG, 4, 12⟩
def RSEL_CFG_QUAL_TIME : Fld := ⟨.RSEL_CFG, 16, 12⟩
def RSEL_LIMITS_ACCEPT : Fld := ⟨.RSEL_LIMITS, 0, 8⟩
def RSEL_LIMITS_REJECT : Fld := ⟨.RSEL_LIMITS, 8, 8⟩
def RSEL_LIMITS_DRIFT : Fld := ⟨.RSEL_LIMITS, 16, 16⟩
def RSEL_DISAGREE_FREQ : Fld := ⟨.RSEL_DISAGREE, 0, 16⟩
def RSEL_SEL_SELECTED : Fld := ⟨.RSEL_SEL, 0, 6⟩
def RSEL_SEL_PINNED : Fld := ⟨.RSEL_SEL, 8, 1⟩
def RSEL_SEL_WTR_RUN : Fld := ⟨.RSEL_SEL, 9, 1⟩
def RSEL_SEL_CONFLICT : Fld := ⟨.RSEL_SEL, 10, 1⟩
def RSEL_SEL_WTR_ID : Fld := ⟨.RSEL_SEL, 16, 6⟩
def RSEL_SEL_CHANGED : Fld := ⟨.RSEL_SEL, 31, 1⟩
def RSEL_CMD_FORCE_ID : Fld := ⟨.RSEL_CMD, 0, 6⟩
def RSEL_CMD_PIN : Fld := ⟨.RSEL_CMD, 8, 1⟩
def RSEL_CMD_SKIP_WTR : Fld := ⟨.RSEL_CMD, 9, 1⟩
def RSEL_CMD_CLEAR_BARS : Fld := ⟨.RSEL_CMD, 10, 1⟩
def RSEL_REFIN_CFG_FMT : Fld := ⟨.RSEL_REFIN_CFG, 0, 3⟩
def RSEL_REFIN_CFG_EDGE : Fld := ⟨.RSEL_REFIN_CFG, 3, 1⟩
def RSEL_REFIN_CFG_TOD : Fld := ⟨.RSEL_REFIN_CFG, 4, 2⟩
def RSEL_REFIN_CFG_CABLE_DELAY : Fld := ⟨.RSEL_REFIN_CFG, 8, 24⟩
def RSEL_PRIO_ID : Fld := ⟨.RSEL_PRIO, 0, 6⟩
def RSEL_PRIO_RANK : Fld := ⟨.RSEL_PRIO, 8, 4⟩
def RSEL_CAND_CFG_FUNC : Fld := ⟨.RSEL_CAND_CFG, 0, 16⟩
def RSEL_CAND_STAT_QUALIFIED : Fld := ⟨.RSEL_CAND_STAT, 0, 1⟩
def RSEL_CAND_STAT_ACTIVE : Fld := ⟨.RSEL_CAND_STAT, 1, 1⟩
def RSEL_CAND_STAT_IN_ACCEPT : Fld := ⟨.RSEL_CAND_STAT, 2, 1⟩
def RSEL_CAND_STAT_DRIFT_WARN : Fld := ⟨.RSEL_CAND_STAT, 3, 1⟩
def RSEL_CAND_STAT_OUTVOTED : Fld := ⟨.RSEL_CAND_STAT, 4, 1⟩
def RSEL_CAND_STAT_BARRED : Fld := ⟨.RSEL_CAND_STAT, 5, 1⟩
def RSEL_CAND_STAT_REASON : Fld := ⟨.RSEL_CAND_STAT, 8, 4⟩
def RSEL_CAND_STAT_QUAL_LEFT : Fld := ⟨.RSEL_CAND_STAT, 16, 12⟩
def RSEL_CAND_STAT_EVENT : Fld := ⟨.RSEL_CAND_STAT, 31, 1⟩
def RSEL_CAND_FREQ_FREQ : Fld := ⟨.RSEL_CAND_FREQ, 0, 32⟩
def RSEL_CAND_TOFS_TOFS : Fld := ⟨.RSEL_CAND_TOFS, 0, 32⟩
def TB_ROLE_ROLE : Fld := ⟨.TB_ROLE, 0, 3⟩
def TB_ROLE_REV_LEFT : Fld := ⟨.TB_ROLE, 16, 12⟩
def TB_ROLE_CHANGED : Fld := ⟨.TB_ROLE, 31, 1⟩
def TB_TWIN_CFG_REVERTIVE : Fld := ⟨.TB_TWIN_CFG, 0, 1⟩
def TB_TWIN_CFG_PIN : Fld := ⟨.TB_TWIN_CFG, 1, 1⟩
def TB_TWIN_CFG_PIN_TB : Fld := ⟨.TB_TWIN_CFG, 2, 1⟩
def TB_TWIN_CFG_REV_WTR : Fld := ⟨.TB_TWIN_CFG, 4, 12⟩
def TB_TWIN_CFG_HANDOVER_WIN : Fld := ⟨.TB_TWIN_CFG, 16, 8⟩
def TB_TWIN_CMD_SWITCH : Fld := ⟨.TB_TWIN_CMD, 0, 1⟩
def TB_TWIN_CMD_STANDBY_OFF : Fld := ⟨.TB_TWIN_CMD, 1, 1⟩
def TB_TWIN_CMD_STANDBY_ON : Fld := ⟨.TB_TWIN_CMD, 2, 1⟩
def TB_TWIN_CMD_RESULT : Fld := ⟨.TB_TWIN_CMD, 8, 4⟩
def TB_HB_STAT_LINE_OK : Fld := ⟨.TB_HB_STAT, 0, 1⟩
def TB_HB_STAT_MEM_OK : Fld := ⟨.TB_HB_STAT, 1, 1⟩
def TB_HB_STAT_FROZEN : Fld := ⟨.TB_HB_STAT, 2, 1⟩
def TB_HB_STAT_LINE_MISS : Fld := ⟨.TB_HB_STAT, 8, 3⟩
def TB_HB_STAT_MEM_MISS : Fld := ⟨.TB_HB_STAT, 12, 3⟩
def TB_HB_STAT_EVENT : Fld := ⟨.TB_HB_STAT, 31, 1⟩
def TB_TAKEOVER_CAUSE : Fld := ⟨.TB_TAKEOVER, 0, 2⟩
def TB_TAKEOVER_FROM_TB : Fld := ⟨.TB_TAKEOVER, 2, 1⟩
def TB_TAKEOVER_MIRROR_LOST : Fld := ⟨.TB_TAKEOVER, 3, 1⟩
def TB_TAKEOVER_TRUNCATED : Fld := ⟨.TB_TAKEOVER, 4, 1⟩
def TB_TAKEOVER_GAP_US : Fld := ⟨.TB_TAKEOVER, 8, 8⟩
def TB_TAKEOVER_REPLAYED : Fld := ⟨.TB_TAKEOVER, 16, 16⟩
def SYN_CFG_REF_MODE : Fld := ⟨.SYN_CFG, 0, 2⟩
def SYN_CFG_BANK_SEL : Fld := ⟨.SYN_CFG, 4, 1⟩
def SYN_LOCK_CFG_LOCK_WIN : Fld := ⟨.SYN_LOCK_CFG, 0, 8⟩
def SYN_LOCK_CFG_LOCK_CYC : Fld := ⟨.SYN_LOCK_CFG, 16, 16⟩
def SYN_FREQ_LO_W : Fld := ⟨.SYN_FREQ_LO, 0, 32⟩
def SYN_FREQ_HI_W : Fld := ⟨.SYN_FREQ_HI, 0, 16⟩
def SYN_CMD_RETUNE : Fld := ⟨.SYN_CMD, 0, 1⟩
def SYN_CMD_STEP : Fld := ⟨.SYN_CMD, 1, 1⟩
def SYN_CMD_STEP_AT : Fld := ⟨.SYN_CMD, 2, 1⟩
def SYN_CMD_RESYNC : Fld := ⟨.SYN_CMD, 3, 1⟩
def SYN_CMD_CANCEL : Fld := ⟨.SYN_CMD, 4, 1⟩
def SYN_CMD_RESULT : Fld := ⟨.SYN_CMD, 8, 4⟩
def SYN_STEP_STEP_PS : Fld := ⟨.SYN_STEP, 0, 21⟩
def SYN_STEP_RATE : Fld := ⟨.SYN_STEP, 22, 2⟩
def SYN_STEP_T0_T : Fld := ⟨.SYN_STEP_T0, 0, 32⟩
def SYN_STEP_T1_T : Fld := ⟨.SYN_STEP_T1, 0, 32⟩
def SYN_STEP_T2_T : Fld := ⟨.SYN_STEP_T2, 0, 32⟩
def SYN_STEP_T3_T : Fld := ⟨.SYN_STEP_T3, 0, 32⟩
def SYN_STAT_LOCKED : Fld := ⟨.SYN_STAT, 0, 1⟩
def SYN_STAT_ACQUIRING : Fld := ⟨.SYN_STAT, 1, 1⟩
def SYN_STAT_FROZEN : Fld := ⟨.SYN_STAT, 2, 1⟩
def SYN_STAT_BAND_MISS : Fld := ⟨.SYN_STAT, 3, 1⟩
def SYN_STAT_ACQ_FAIL : Fld := ⟨.SYN_STAT, 4, 1⟩
def SYN_STAT_STEP_RUN : Fld := ⟨.SYN_STAT, 5, 1⟩
def SYN_STAT_STEP_PEND : Fld := ⟨.SYN_STAT, 6, 1⟩
def SYN_STAT_RETIRED : Fld := ⟨.SYN_STAT, 7, 1⟩
def SYN_STAT_BAND_ENTRY : Fld := ⟨.SYN_STAT, 8, 6⟩
def SYN_STAT_CHANGED : Fld := ⟨.SYN_STAT, 31, 1⟩
def SYN_BAND_W0_F_LO : Fld := ⟨.SYN_BAND_W0, 0, 23⟩
def SYN_BAND_W0_CODE : Fld := ⟨.SYN_BAND_W0, 24, 6⟩
def SYN_BAND_W0_VALID : Fld := ⟨.SYN_BAND_W0, 31, 1⟩
def SYN_BAND_W1_F_HI : Fld := ⟨.SYN_BAND_W1, 0, 23⟩
def OUT_CFG_EN : Fld := ⟨.OUT_CFG, 0, 1⟩
def OUT_CFG_FMT : Fld := ⟨.OUT_CFG, 1, 3⟩
def OUT_CFG_MODE : Fld := ⟨.OUT_CFG, 4, 2⟩
def OUT_CFG_UNLOCK_ACT : Fld := ⟨.OUT_CFG, 6, 2⟩
def OUT_CFG_ALLOW_UNLOCKED : Fld := ⟨.OUT_CFG, 8, 1⟩
def OUT_CFG_INVERT : Fld := ⟨.OUT_CFG, 9, 1⟩
def OUT_CFG_DIV : Fld := ⟨.OUT_CFG, 16, 16⟩
def OUT_PER_LO_PER : Fld := ⟨.OUT_PER_LO, 0, 32⟩
def OUT_PER_HI_PER : Fld := ⟨.OUT_PER_HI, 0, 8⟩
def OUT_WIDTH_WIDTH : Fld := ⟨.OUT_WIDTH, 0, 32⟩
def OUT_OFS_LO_OFS : Fld := ⟨.OUT_OFS_LO, 0, 32⟩
def OUT_OFS_HI_OFS : Fld := ⟨.OUT_OFS_HI, 0, 8⟩
def OUT_ALIGN_SRC : Fld := ⟨.OUT_ALIGN, 0, 1⟩
def OUT_ALIGN_TIO_CH : Fld := ⟨.OUT_ALIGN, 8, 6⟩
def OUT_ALIGN_FOLLOW : Fld := ⟨.OUT_ALIGN, 16, 1⟩
def OUT_ALIGN_TOL : Fld := ⟨.OUT_ALIGN, 24, 8⟩
def OUT_CMD_ALIGN : Fld := ⟨.OUT_CMD, 0, 1⟩
def OUT_CMD_ARM : Fld := ⟨.OUT_CMD, 1, 1⟩
def OUT_CMD_DISARM : Fld := ⟨.OUT_CMD, 2, 1⟩
def OUT_CMD_RESULT : Fld := ⟨.OUT_CMD, 8, 4⟩
def OUT_STAT_DRIVING : Fld := ⟨.OUT_STAT, 0, 1⟩
def OUT_STAT_SQUELCHED : Fld := ⟨.OUT_STAT, 1, 1⟩
def OUT_STAT_ALIGNED : Fld := ⟨.OUT_STAT, 2, 1⟩
def OUT_STAT_ARMED : Fld := ⟨.OUT_STAT, 3, 1⟩
def OUT_STAT_ALIGN_PEND : Fld := ⟨.OUT_STAT, 4, 1⟩
def OUT_STAT_CFG_REJ : Fld := ⟨.OUT_STAT, 5, 1⟩
def OUT_STAT_CHANGED : Fld := ⟨.OUT_STAT, 31, 1⟩
def LANE_CFG_TX_POL : Fld := ⟨.LANE_CFG, 0, 1⟩
def LANE_CFG_RX_POL : Fld := ⟨.LANE_CFG, 1, 1⟩
def LANE_TXEQ_PRE1 : Fld := ⟨.LANE_TXEQ, 0, 4⟩
def LANE_TXEQ_PRE2 : Fld := ⟨.LANE_TXEQ, 4, 3⟩
def LANE_TXEQ_POST1 : Fld := ⟨.LANE_TXEQ, 8, 4⟩
def LANE_TEST_GEN_PAT : Fld := ⟨.LANE_TEST, 0, 4⟩
def LANE_TEST_GEN_EN : Fld := ⟨.LANE_TEST, 4, 1⟩
def LANE_TEST_CHK_PAT : Fld := ⟨.LANE_TEST, 8, 4⟩
def LANE_TEST_CHK_EN : Fld := ⟨.LANE_TEST, 12, 1⟩
def LANE_TEST_LOOP : Fld := ⟨.LANE_TEST, 16, 2⟩
def LANE_PRBS_ERR_ERRS : Fld := ⟨.LANE_PRBS_ERR, 0, 32⟩
def LANE_STAT_SIG_DET : Fld := ⟨.LANE_STAT, 0, 1⟩
def LANE_STAT_CDR_LOCK : Fld := ⟨.LANE_STAT, 1, 1⟩
def LANE_STAT_CHK_LOCK : Fld := ⟨.LANE_STAT, 2, 1⟩
def LANE_STAT_RETIRED : Fld := ⟨.LANE_STAT, 3, 1⟩
def LANE_STAT_CFG_REJ : Fld := ⟨.LANE_STAT, 4, 1⟩
def LANE_STAT_CHANGED : Fld := ⟨.LANE_STAT, 31, 1⟩
def LANE_QUAD_CFG_MODE : Fld := ⟨.LANE_QUAD_CFG, 0, 4⟩
def LANE_QUAD_CFG_DISC_EN : Fld := ⟨.LANE_QUAD_CFG, 4, 1⟩
def LANE_QUAD_CFG_LPI_EN : Fld := ⟨.LANE_QUAD_CFG, 5, 1⟩
def LANE_QUAD_CFG_DEGRADE_CW : Fld := ⟨.LANE_QUAD_CFG, 8, 8⟩
def LANE_QUAD_CMD_RESTART : Fld := ⟨.LANE_QUAD_CMD, 0, 1⟩
def LANE_QUAD_CMD_RESULT : Fld := ⟨.LANE_QUAD_CMD, 8, 4⟩
def LANE_QUAD_STAT_PHASE : Fld := ⟨.LANE_QUAD_STAT, 0, 4⟩
def LANE_QUAD_STAT_LINK_UP : Fld := ⟨.LANE_QUAD_STAT, 4, 1⟩
def LANE_QUAD_STAT_DISCOVERED : Fld := ⟨.LANE_QUAD_STAT, 5, 1⟩
def LANE_QUAD_STAT_PARTNER_SYNT : Fld := ⟨.LANE_QUAD_STAT, 6, 1⟩
def LANE_QUAD_STAT_SLEEP_OK : Fld := ⟨.LANE_QUAD_STAT, 7, 1⟩
def LANE_QUAD_STAT_TX_SLEEP : Fld := ⟨.LANE_QUAD_STAT, 8, 3⟩
def LANE_QUAD_STAT_RX_SLEEP : Fld := ⟨.LANE_QUAD_STAT, 12, 3⟩
def LANE_QUAD_STAT_SELF_LOOP : Fld := ⟨.LANE_QUAD_STAT, 15, 1⟩
def LANE_QUAD_STAT_DOWN_CAUSE : Fld := ⟨.LANE_QUAD_STAT, 16, 4⟩
def LANE_QUAD_STAT_CHANGED : Fld := ⟨.LANE_QUAD_STAT, 31, 1⟩
def LANE_BRINGUP_LAST_US : Fld := ⟨.LANE_BRINGUP, 0, 20⟩
def LANE_PARTNER_ID_HI_ID : Fld := ⟨.LANE_PARTNER_ID_HI, 0, 32⟩
def LANE_PARTNER_ID_LO_ID : Fld := ⟨.LANE_PARTNER_ID_LO, 0, 32⟩
def LANE_PARTNER_INFO_PORT : Fld := ⟨.LANE_PARTNER_INFO, 0, 5⟩
def LANE_PARTNER_INFO_VARIANT : Fld := ⟨.LANE_PARTNER_INFO, 8, 4⟩
def LANE_PARTNER_INFO_MODE : Fld := ⟨.LANE_PARTNER_INFO, 12, 4⟩
def LANE_PARTNER_INFO_CAPS : Fld := ⟨.LANE_PARTNER_INFO, 16, 8⟩
def LANE_PARTNER_INFO_TIME_STATE : Fld := ⟨.LANE_PARTNER_INFO, 24, 3⟩
def LANE_PARTNER_INFO_RX_SLEEP_OK : Fld := ⟨.LANE_PARTNER_INFO, 27, 1⟩
def LANE_PARTNER_DOM_DOMAIN : Fld := ⟨.LANE_PARTNER_DOM, 0, 8⟩
def LANE_PARTNER_DOM_IF_VERSION : Fld := ⟨.LANE_PARTNER_DOM, 16, 16⟩
def PRT_MAC_CFG_MAX_FRAME : Fld := ⟨.PRT_MAC_CFG, 0, 14⟩
def PRT_MAC_ADDR_HI_ADDR : Fld := ⟨.PRT_MAC_ADDR_HI, 0, 16⟩
def PRT_MAC_ADDR_LO_ADDR : Fld := ⟨.PRT_MAC_ADDR_LO, 0, 32⟩
def PRT_PTP_CFG_INSTANCE : Fld := ⟨.PRT_PTP_CFG, 0, 3⟩
def PRT_PTP_CFG_DELAY_MECH : Fld := ⟨.PRT_PTP_CFG, 3, 1⟩
def PRT_PTP_CFG_ONE_STEP : Fld := ⟨.PRT_PTP_CFG, 4, 1⟩
def PRT_PTP_CFG_MASTER_ONLY : Fld := ⟨.PRT_PTP_CFG, 5, 1⟩
def PRT_PTP_CFG_ROLE_PIN : Fld := ⟨.PRT_PTP_CFG, 6, 2⟩
def PRT_PTP_CFG_TRANSPORT : Fld := ⟨.PRT_PTP_CFG, 8, 2⟩
def PRT_PTP_CFG_LOCAL_PRIO : Fld := ⟨.PRT_PTP_CFG, 16, 8⟩
def PRT_PTP_RATE_LOG_SYNC : Fld := ⟨.PRT_PTP_RATE, 0, 4⟩
def PRT_PTP_RATE_LOG_DELAY : Fld := ⟨.PRT_PTP_RATE, 4, 4⟩
def PRT_PTP_RATE_LOG_ANNOUNCE : Fld := ⟨.PRT_PTP_RATE, 8, 4⟩
def PRT_PTP_RATE_ANNOUNCE_TO : Fld := ⟨.PRT_PTP_RATE, 12, 4⟩
def PRT_PTP_RATE_DELAY_AVG : Fld := ⟨.PRT_PTP_RATE, 16, 6⟩
def PRT_PTP_RATE_DELAY_REFRESH : Fld := ⟨.PRT_PTP_RATE, 24, 6⟩
def PRT_EXT_DELAY_TX_EXT : Fld := ⟨.PRT_EXT_DELAY, 0, 16⟩
def PRT_EXT_DELAY_RX_EXT : Fld := ⟨.PRT_EXT_DELAY, 16, 16⟩
def PRT_ASYM_REF_ASYM_REF : Fld := ⟨.PRT_ASYM_REF, 0, 32⟩
def PRT_ASYM_DREF_D_REF : Fld := ⟨.PRT_ASYM_DREF, 0, 32⟩
def PRT_ASYM_COEF_RHO : Fld := ⟨.PRT_ASYM_COEF, 0, 32⟩
def PRT_PTU_STAT_RX_BEAT_LOCK : Fld := ⟨.PRT_PTU_STAT, 0, 1⟩
def PRT_PTU_STAT_TX_BEAT_VALID : Fld := ⟨.PRT_PTU_STAT, 1, 1⟩
def PRT_PTU_STAT_L1_TRACK : Fld := ⟨.PRT_PTU_STAT, 2, 1⟩
def PRT_PTU_STAT_DELAY_VALID : Fld := ⟨.PRT_PTU_STAT, 3, 1⟩
def PRT_PTU_STAT_DELAY_HELD : Fld := ⟨.PRT_PTU_STAT, 4, 1⟩
def PRT_PTU_STAT_LAT_VALID : Fld := ⟨.PRT_PTU_STAT, 5, 1⟩
def PRT_PTU_STAT_PIN_LOST : Fld := ⟨.PRT_PTU_STAT, 6, 1⟩
def PRT_PTU_STAT_CFG_REJ : Fld := ⟨.PRT_PTU_STAT, 7, 1⟩
def PRT_PTU_STAT_PORT_STATE : Fld := ⟨.PRT_PTU_STAT, 8, 4⟩
def PRT_PTU_STAT_CHANGED : Fld := ⟨.PRT_PTU_STAT, 31, 1⟩
def PRT_LAT_STAT_CAUSE : Fld := ⟨.PRT_LAT_STAT, 0, 2⟩
def PRT_LAT_STAT_LAT_SHIFT : Fld := ⟨.PRT_LAT_STAT, 2, 1⟩
def PRT_LAT_STAT_SHIFT : Fld := ⟨.PRT_LAT_STAT, 8, 8⟩
def PRT_REV_CMD_START : Fld := ⟨.PRT_REV_CMD, 0, 1⟩
def PRT_REV_CMD_FINISH : Fld := ⟨.PRT_REV_CMD, 1, 1⟩
def PRT_REV_CMD_APPLY : Fld := ⟨.PRT_REV_CMD, 2, 1⟩
def PRT_REV_CMD_ABORT : Fld := ⟨.PRT_REV_CMD, 3, 1⟩
def PRT_REV_CMD_RESULT : Fld := ⟨.PRT_REV_CMD, 8, 4⟩
def PRT_REV_CMD_REV_AVG : Fld := ⟨.PRT_REV_CMD, 16, 8⟩
def PRT_REV_STAT_STEP : Fld := ⟨.PRT_REV_STAT, 0, 3⟩
def PRT_REV_STAT_FAIL : Fld := ⟨.PRT_REV_STAT, 4, 4⟩
def PRT_REV_STAT_CHANGED : Fld := ⟨.PRT_REV_STAT, 31, 1⟩
def PRT_REV_RESULT_ASYM : Fld := ⟨.PRT_REV_RESULT, 0, 32⟩
def TIO_CFG_EN : Fld := ⟨.TIO_CFG, 0, 1⟩
def TIO_CFG_MODE : Fld := ⟨.TIO_CFG, 1, 3⟩
def TIO_CFG_EDGE : Fld := ⟨.TIO_CFG, 4, 2⟩
def TIO_IN_CFG_THRESH : Fld := ⟨.TIO_IN_CFG, 0, 12⟩
def TIO_IN_CFG_HYST : Fld := ⟨.TIO_IN_CFG, 12, 8⟩
def TIO_IN_CFG_TERM : Fld := ⟨.TIO_IN_CFG, 20, 1⟩
def TIO_HOLDOFF_HOLDOFF : Fld := ⟨.TIO_HOLDOFF, 0, 24⟩
def TIO_MEAS_CFG_STOP_CH : Fld := ⟨.TIO_MEAS_CFG, 0, 6⟩
def TIO_MEAS_CFG_STOP_EDGE : Fld := ⟨.TIO_MEAS_CFG, 6, 1⟩
def TIO_MEAS_CFG_REPEAT : Fld := ⟨.TIO_MEAS_CFG, 7, 1⟩
def TIO_MEAS_CFG_AVG : Fld := ⟨.TIO_MEAS_CFG, 16, 16⟩
def TIO_TIMEOUT_TIMEOUT : Fld := ⟨.TIO_TIMEOUT, 0, 32⟩
def TIO_GATE_GATE : Fld := ⟨.TIO_GATE, 0, 32⟩
def TIO_DELAY_OUT_EXT : Fld := ⟨.TIO_DELAY, 0, 16⟩
def TIO_DELAY_IN_EXT : Fld := ⟨.TIO_DELAY, 16, 16⟩
def TIO_CMD_ARM : Fld := ⟨.TIO_CMD, 0, 1⟩
def TIO_CMD_DISARM : Fld := ⟨.TIO_CMD, 1, 1⟩
def TIO_CMD_START : Fld := ⟨.TIO_CMD, 2, 1⟩
def TIO_CMD_CANCEL : Fld := ⟨.TIO_CMD, 3, 1⟩
def TIO_CMD_RECAL : Fld := ⟨.TIO_CMD, 4, 1⟩
def TIO_CMD_RESULT : Fld := ⟨.TIO_CMD, 8, 4⟩
def TIO_STAT_READY : Fld := ⟨.TIO_STAT, 0, 1⟩
def TIO_STAT_ARMED : Fld := ⟨.TIO_STAT, 1, 1⟩
def TIO_STAT_PENDING : Fld := ⟨.TIO_STAT, 2, 1⟩
def TIO_STAT_TRIG_ARMED : Fld := ⟨.TIO_STAT, 3, 1⟩
def TIO_STAT_CAL_RUN : Fld := ⟨.TIO_STAT, 4, 1⟩
def TIO_STAT_TDC_RETIRED : Fld := ⟨.TIO_STAT, 5, 1⟩
def TIO_STAT_OUT_RETIRED : Fld := ⟨.TIO_STAT, 6, 1⟩
def TIO_STAT_CFG_REJ : Fld := ⟨.TIO_STAT, 7, 1⟩
def TIO_STAT_FIFO_LEVEL : Fld := ⟨.TIO_STAT, 8, 7⟩
def TIO_STAT_CHANGED : Fld := ⟨.TIO_STAT, 31, 1⟩
def TIO_CAL_STAT_RETIRED_TAPS : Fld := ⟨.TIO_CAL_STAT, 0, 10⟩
def TIO_CAL_STAT_BIN_MIN : Fld := ⟨.TIO_CAL_STAT, 12, 8⟩
def TIO_CAL_STAT_BIN_MAX : Fld := ⟨.TIO_CAL_STAT, 20, 8⟩
def TIO_T0_0_T0 : Fld := ⟨.TIO_T0_0, 0, 32⟩
def TIO_T0_1_T0 : Fld := ⟨.TIO_T0_1, 0, 32⟩
def TIO_T0_2_T0 : Fld := ⟨.TIO_T0_2, 0, 32⟩
def TIO_T0_3_T0 : Fld := ⟨.TIO_T0_3, 0, 32⟩
def TIO_PER_LO_PER : Fld := ⟨.TIO_PER_LO, 0, 32⟩
def TIO_PER_HI_PER : Fld := ⟨.TIO_PER_HI, 0, 16⟩
def TIO_WID_LO_WID : Fld := ⟨.TIO_WID_LO, 0, 32⟩
def TIO_WID_HI_WID : Fld := ⟨.TIO_WID_HI, 0, 16⟩
def TIO_COUNT_COUNT : Fld := ⟨.TIO_COUNT, 0, 32⟩
def TIO_OUT_CFG_START_SRC : Fld := ⟨.TIO_OUT_CFG, 0, 2⟩
def TIO_OUT_CFG_REARM : Fld := ⟨.TIO_OUT_CFG, 2, 1⟩
def TIO_OUT_CFG_TRIG_CH : Fld := ⟨.TIO_OUT_CFG, 8, 6⟩
def TIO_OUT_CFG_INVERT : Fld := ⟨.TIO_OUT_CFG, 16, 1⟩
def TIO_OUT_CFG_PARK : Fld := ⟨.TIO_OUT_CFG, 17, 1⟩
def TIO_TRIG_DELAY_DELAY : Fld := ⟨.TIO_TRIG_DELAY, 0, 32⟩
def TIO_REC_W : Fld := ⟨.TIO_REC, 0, 32⟩
def VLAN_W0_MEMBER : Fld := ⟨.VLAN_W0, 0, 32⟩
def VLAN_W1_UNTAG : Fld := ⟨.VLAN_W1, 0, 32⟩
def VLAN_W2_FLOOD : Fld := ⟨.VLAN_W2, 0, 32⟩
def VLAN_W3_VALID : Fld := ⟨.VLAN_W3, 0, 1⟩
def VLAN_W3_LEARN_DIS : Fld := ⟨.VLAN_W3, 1, 1⟩
def VLAN_W3_UNK_MC_DROP : Fld := ⟨.VLAN_W3, 2, 1⟩
def VLAN_W3_UNK_UC_DROP : Fld := ⟨.VLAN_W3, 3, 1⟩
def FDB_W0_MAC : Fld := ⟨.FDB_W0, 0, 32⟩
def FDB_W1_MAC : Fld := ⟨.FDB_W1, 0, 16⟩
def FDB_W1_VID : Fld := ⟨.FDB_W1, 16, 12⟩
def FDB_W2_PORT : Fld := ⟨.FDB_W2, 0, 5⟩
def FDB_W2_VALID : Fld := ⟨.FDB_W2, 8, 1⟩
def FDB_W2_STATIC : Fld := ⟨.FDB_W2, 9, 1⟩
def FDB_W2_HIT : Fld := ⟨.FDB_W2, 10, 1⟩
def FDB_W2_AGE : Fld := ⟨.FDB_W2, 11, 2⟩
def FDB_W2_DISCARD : Fld := ⟨.FDB_W2, 13, 1⟩
def FDB_W2_MC : Fld := ⟨.FDB_W2, 14, 1⟩
def FDB_W2_RETIRED : Fld := ⟨.FDB_W2, 15, 1⟩
def FDB_W3_PORT_MASK : Fld := ⟨.FDB_W3, 0, 32⟩
def SW_CFG_LEARN_EN : Fld := ⟨.SW_CFG, 0, 1⟩
def SW_CFG_AGE_EN : Fld := ⟨.SW_CFG, 1, 1⟩
def SW_AGE_AGE_TIME : Fld := ⟨.SW_AGE, 0, 20⟩
def SW_FDB_KEY_LO_MAC : Fld := ⟨.SW_FDB_KEY_LO, 0, 32⟩
def SW_FDB_KEY_HI_MAC : Fld := ⟨.SW_FDB_KEY_HI, 0, 16⟩
def SW_FDB_KEY_HI_VID : Fld := ⟨.SW_FDB_KEY_HI, 16, 12⟩
def SW_FDB_DATA_W2 : Fld := ⟨.SW_FDB_DATA, 0, 32⟩
def SW_FDB_MASK_W3 : Fld := ⟨.SW_FDB_MASK, 0, 32⟩
def SW_FDB_CMD_GO : Fld := ⟨.SW_FDB_CMD, 0, 1⟩
def SW_FDB_CMD_OP : Fld := ⟨.SW_FDB_CMD, 1, 3⟩
def SW_FDB_CMD_BY_PORT : Fld := ⟨.SW_FDB_CMD, 4, 1⟩
def SW_FDB_CMD_BY_VID : Fld := ⟨.SW_FDB_CMD, 5, 1⟩
def SW_FDB_CMD_STATIC_TOO : Fld := ⟨.SW_FDB_CMD, 6, 1⟩
def SW_FDB_CMD_RESULT : Fld := ⟨.SW_FDB_CMD, 8, 4⟩
def SW_FDB_CMD_INDEX : Fld := ⟨.SW_FDB_CMD, 14, 18⟩
def SW_PORT_CFG_PVID : Fld := ⟨.SW_PORT_CFG, 0, 12⟩
def SW_PORT_CFG_ACCEPT : Fld := ⟨.SW_PORT_CFG, 12, 2⟩
def SW_PORT_CFG_INGRESS_FILTER : Fld := ⟨.SW_PORT_CFG, 14, 1⟩
def SW_PORT_CFG_STATE : Fld := ⟨.SW_PORT_CFG, 16, 2⟩
def SW_PORT_CFG_DEF_PCP : Fld := ⟨.SW_PORT_CFG, 18, 3⟩
def SW_PCP_MAP_MAP : Fld := ⟨.SW_PCP_MAP, 0, 24⟩
def SW_CT_EN_EGRESS : Fld := ⟨.SW_CT_EN, 0, 32⟩
def SW_ST_SLICE_CFG_EN : Fld := ⟨.SW_ST_SLICE_CFG, 0, 1⟩
def SW_ST_SLICE_CFG_IPV6_SEL : Fld := ⟨.SW_ST_SLICE_CFG, 1, 2⟩
def SW_ST_PAIR_PAIRED : Fld := ⟨.SW_ST_PAIR, 0, 8⟩
def SW_ST_PAIR_BANK_SEL : Fld := ⟨.SW_ST_PAIR, 8, 8⟩
def SW_MIR_CFG_EN : Fld := ⟨.SW_MIR_CFG, 0, 1⟩
def SW_MIR_CFG_DEST_PORT : Fld := ⟨.SW_MIR_CFG, 1, 5⟩
def SW_MIR_CFG_TC : Fld := ⟨.SW_MIR_CFG, 8, 3⟩
def SW_MIR_CFG_TRUNC : Fld := ⟨.SW_MIR_CFG, 16, 14⟩
def SW_MIR_SAMPLE_N : Fld := ⟨.SW_MIR_SAMPLE, 0, 16⟩
def SW_MIR_IN_PORTS : Fld := ⟨.SW_MIR_IN, 0, 32⟩
def SW_MIR_OUT_PORTS : Fld := ⟨.SW_MIR_OUT, 0, 32⟩
def SW_BUF_FREE_CELLS : Fld := ⟨.SW_BUF_FREE, 0, 19⟩
def SW_BUF_FREE_OVER_LIMIT : Fld := ⟨.SW_BUF_FREE, 31, 1⟩
def SW_BUF_USED_CELLS : Fld := ⟨.SW_BUF_USED, 0, 19⟩
def SW_BUF_USED_OVER_LIMIT : Fld := ⟨.SW_BUF_USED, 31, 1⟩
def SW_BUF_RETIRED_CELLS : Fld := ⟨.SW_BUF_RETIRED, 0, 19⟩
def SW_BUF_RETIRED_OVER_LIMIT : Fld := ⟨.SW_BUF_RETIRED, 31, 1⟩
def SW_BUF_GATED_BANKS : Fld := ⟨.SW_BUF_GATED, 0, 32⟩
def SW_BUF_GATED_CELLS_CELLS : Fld := ⟨.SW_BUF_GATED_CELLS, 0, 19⟩
def SW_AUDIT_CFG_LEAK_MS : Fld := ⟨.SW_AUDIT_CFG, 0, 16⟩
def SW_AUDIT_STAT_PASSES : Fld := ⟨.SW_AUDIT_STAT, 0, 16⟩
def SW_AUDIT_STAT_MISMATCH : Fld := ⟨.SW_AUDIT_STAT, 16, 1⟩
def SW_AUDIT_STAT_CHANGED : Fld := ⟨.SW_AUDIT_STAT, 31, 1⟩
def PRT_Q_CFG_SP : Fld := ⟨.PRT_Q_CFG, 0, 1⟩
def PRT_Q_CFG_BOUNDED : Fld := ⟨.PRT_Q_CFG, 1, 1⟩
def PRT_Q_CFG_RED_PROF : Fld := ⟨.PRT_Q_CFG, 2, 4⟩
def PRT_Q_CFG_ALPHA : Fld := ⟨.PRT_Q_CFG, 6, 3⟩
def PRT_Q_CFG_QUANTUM : Fld := ⟨.PRT_Q_CFG, 16, 16⟩
def PRT_Q_LIMIT_Q_MAX : Fld := ⟨.PRT_Q_LIMIT, 0, 19⟩
def PRT_Q_BOUND_B : Fld := ⟨.PRT_Q_BOUND, 0, 24⟩
def PRT_Q_RES_RES_CELLS : Fld := ⟨.PRT_Q_RES, 0, 19⟩
def PRT_Q_STAT_OCC : Fld := ⟨.PRT_Q_STAT, 0, 19⟩
def PRT_Q_STAT_LAST_CAUSE : Fld := ⟨.PRT_Q_STAT, 20, 4⟩
def PRT_Q_STAT_REFUSED : Fld := ⟨.PRT_Q_STAT, 24, 1⟩
def PRT_GATE_CFG_GATE_EN : Fld := ⟨.PRT_GATE_CFG, 0, 1⟩
def PRT_GATE_CFG_BANK_SEL : Fld := ⟨.PRT_GATE_CFG, 1, 1⟩
def PRT_GATE_STAT_STATES : Fld := ⟨.PRT_GATE_STAT, 0, 8⟩
def PRT_GATE_STAT_ENTRY : Fld := ⟨.PRT_GATE_STAT, 8, 10⟩
def PRT_GATE_STAT_REPREDICT : Fld := ⟨.PRT_GATE_STAT, 18, 1⟩
def PRT_GATE_STAT_CFG_REJ : Fld := ⟨.PRT_GATE_STAT, 19, 1⟩
def PRT_GATE_STAT_CHANGED : Fld := ⟨.PRT_GATE_STAT, 31, 1⟩
def PRT_GCL_BASE_HI_SECONDS : Fld := ⟨.PRT_GCL_BASE_HI, 0, 32⟩
def PRT_GCL_BASE_LO_SECONDS : Fld := ⟨.PRT_GCL_BASE_LO, 0, 32⟩
def PRT_GCL_BASE_NS_NANOSECONDS : Fld := ⟨.PRT_GCL_BASE_NS, 0, 30⟩
def PRT_GCL_CYCLE_CYCLE : Fld := ⟨.PRT_GCL_CYCLE, 0, 30⟩
def PRT_GCL_LEN_LEN : Fld := ⟨.PRT_GCL_LEN, 0, 11⟩
def PRT_PROT_PROT_EN : Fld := ⟨.PRT_PROT, 0, 1⟩
def PRT_PROT_PROT_PORT : Fld := ⟨.PRT_PROT, 8, 5⟩
def PRT_Q_PTX_P_TX : Fld := ⟨.PRT_Q_PTX, 0, 16⟩
def SW_POOL_SHARED_CELLS : Fld := ⟨.SW_POOL_SHARED, 0, 19⟩
def SW_POOL_SHARED_RES_SHORT : Fld := ⟨.SW_POOL_SHARED, 31, 1⟩
def SW_POOL_SHARED_USED_CELLS : Fld := ⟨.SW_POOL_SHARED_USED, 0, 19⟩
def SW_POOL_SHARED_USED_RES_SHORT : Fld := ⟨.SW_POOL_SHARED_USED, 31, 1⟩
def SW_POOL_RES_CELLS : Fld := ⟨.SW_POOL_RES, 0, 19⟩
def SW_POOL_RES_RES_SHORT : Fld := ⟨.SW_POOL_RES, 31, 1⟩
def SW_POOL_RES_USED_CELLS : Fld := ⟨.SW_POOL_RES_USED, 0, 19⟩
def SW_POOL_RES_USED_RES_SHORT : Fld := ⟨.SW_POOL_RES_USED, 31, 1⟩
def SW_HOLD_STAT_HELD : Fld := ⟨.SW_HOLD_STAT, 0, 14⟩
def SW_RED_PROF_W0_EN : Fld := ⟨.SW_RED_PROF_W0, 0, 1⟩
def SW_RED_PROF_W0_W : Fld := ⟨.SW_RED_PROF_W0, 4, 4⟩
def SW_RED_PROF_W1_MIN : Fld := ⟨.SW_RED_PROF_W1, 0, 19⟩
def SW_RED_PROF_W2_MAX : Fld := ⟨.SW_RED_PROF_W2, 0, 19⟩
def SW_RED_PROF_W2_PMAX : Fld := ⟨.SW_RED_PROF_W2, 24, 8⟩
def SW_RED_PROF_W3_MIN : Fld := ⟨.SW_RED_PROF_W3, 0, 19⟩
def SW_RED_PROF_W4_MAX : Fld := ⟨.SW_RED_PROF_W4, 0, 19⟩
def SW_RED_PROF_W4_PMAX : Fld := ⟨.SW_RED_PROF_W4, 24, 8⟩
def SW_RED_PROF_W5_MIN : Fld := ⟨.SW_RED_PROF_W5, 0, 19⟩
def SW_RED_PROF_W6_MAX : Fld := ⟨.SW_RED_PROF_W6, 0, 19⟩
def SW_RED_PROF_W6_PMAX : Fld := ⟨.SW_RED_PROF_W6, 24, 8⟩
def GCL_W0_STATES : Fld := ⟨.GCL_W0, 0, 8⟩
def GCL_W1_INTERVAL : Fld := ⟨.GCL_W1, 0, 30⟩
def METER_W0_CIR : Fld := ⟨.METER_W0, 0, 26⟩
def METER_W1_XIR : Fld := ⟨.METER_W1, 0, 26⟩
def METER_W2_CBS : Fld := ⟨.METER_W2, 0, 24⟩
def METER_W3_XBS : Fld := ⟨.METER_W3, 0, 24⟩
def METER_W4_MODE : Fld := ⟨.METER_W4, 0, 1⟩
def METER_W4_AWARE : Fld := ⟨.METER_W4, 1, 1⟩
def METER_W4_RED_ACT : Fld := ⟨.METER_W4, 2, 1⟩
def METER_W4_DEI_MARK : Fld := ⟨.METER_W4, 3, 1⟩
def METER_W4_OVERHEAD : Fld := ⟨.METER_W4, 8, 5⟩
def METER_W5_TC_LEVEL : Fld := ⟨.METER_W5, 0, 24⟩
def METER_W6_TX_LEVEL : Fld := ⟨.METER_W6, 0, 24⟩
def SGATE_W0_CYCLE : Fld := ⟨.SGATE_W0, 0, 30⟩
def SGATE_W1_OFFSET : Fld := ⟨.SGATE_W1, 0, 30⟩
def SGATE_W2_WIDTH : Fld := ⟨.SGATE_W2, 0, 30⟩
def SGATE_W3_IPV_EN : Fld := ⟨.SGATE_W3, 0, 1⟩
def SGATE_W3_IPV : Fld := ⟨.SGATE_W3, 1, 3⟩
def SGATE_W3_CLOSED_LATCH : Fld := ⟨.SGATE_W3, 4, 1⟩
def SGATE_W3_OCTET_LATCH : Fld := ⟨.SGATE_W3, 5, 1⟩
def SGATE_W4_MAX_OCTETS : Fld := ⟨.SGATE_W4, 0, 24⟩
def SGATE_W5_OPEN : Fld := ⟨.SGATE_W5, 0, 1⟩
def SGATE_W5_CLOSED_INV : Fld := ⟨.SGATE_W5, 1, 1⟩
def SGATE_W5_OCTETS_EXCEEDED : Fld := ⟨.SGATE_W5, 2, 1⟩
def SEQGEN_W0_NEXT_SEQ : Fld := ⟨.SEQGEN_W0, 0, 16⟩
def RECOV_W0_ALG : Fld := ⟨.RECOV_W0, 0, 1⟩
def RECOV_W0_HIST_LEN : Fld := ⟨.RECOV_W0, 1, 7⟩
def RECOV_W0_RESEQ : Fld := ⟨.RECOV_W0, 8, 1⟩
def RECOV_W0_POP_RTAG : Fld := ⟨.RECOV_W0, 9, 1⟩
def RECOV_W1_TIMEOUT : Fld := ⟨.RECOV_W1, 0, 16⟩
def RECOV_W2_HOLD_NS : Fld := ⟨.RECOV_W2, 0, 24⟩
def RECOV_W3_RECOV_SEQ : Fld := ⟨.RECOV_W3, 0, 16⟩
def RECOV_W3_TAKE_ANY : Fld := ⟨.RECOV_W3, 16, 1⟩
def RECOV_W4_RELEASED : Fld := ⟨.RECOV_W4, 0, 16⟩
def RECOV_W4_HELD : Fld := ⟨.RECOV_W4, 16, 7⟩
def RECOV_W5_HISTORY : Fld := ⟨.RECOV_W5, 0, 32⟩
def RECOV_W6_HISTORY : Fld := ⟨.RECOV_W6, 0, 32⟩
def PWR_STAT_FAST : Fld := ⟨.PWR_STAT, 0, 2⟩
def PWR_STAT_BANKS_UNGATED : Fld := ⟨.PWR_STAT, 8, 6⟩
def PWR_STAT_DRAIN_BANK : Fld := ⟨.PWR_STAT, 16, 5⟩
def PWR_STAT_DRAIN_RUN : Fld := ⟨.PWR_STAT, 21, 1⟩
def PWR_STAT_CP_CORES : Fld := ⟨.PWR_STAT, 24, 3⟩
def PWR_STAT_CHANGED : Fld := ⟨.PWR_STAT, 31, 1⟩
def PWR_FAST_CMD_START : Fld := ⟨.PWR_FAST_CMD, 0, 1⟩
def PWR_FAST_CMD_STOP : Fld := ⟨.PWR_FAST_CMD, 1, 1⟩
def PWR_FAST_CMD_RESULT : Fld := ⟨.PWR_FAST_CMD, 8, 4⟩
def PWR_GATE_CFG_BANK_GATE_EN : Fld := ⟨.PWR_GATE_CFG, 0, 1⟩
def PWR_GATE_CFG_SLICE_GATE_EN : Fld := ⟨.PWR_GATE_CFG, 1, 1⟩
def PWR_GATE_CFG_CORE_GATE_EN : Fld := ⟨.PWR_GATE_CFG, 2, 1⟩
def PWR_GATE_CFG_LPLL_STOP_EN : Fld := ⟨.PWR_GATE_CFG, 3, 1⟩
def PWR_GATE_CFG_MIN_BANKS : Fld := ⟨.PWR_GATE_CFG, 8, 6⟩
def PWR_GATE_CFG_HEADROOM : Fld := ⟨.PWR_GATE_CFG, 16, 16⟩
def PWR_SLEEP_CFG_SHALLOW_IDLE : Fld := ⟨.PWR_SLEEP_CFG, 0, 10⟩
def PWR_SLEEP_CFG_DEEP_MIN : Fld := ⟨.PWR_SLEEP_CFG, 16, 12⟩
def PWR_GATE_HOLD_GATE_HOLD : Fld := ⟨.PWR_GATE_HOLD, 0, 16⟩
def PWR_INPUT_VIN : Fld := ⟨.PWR_INPUT, 0, 16⟩
def PWR_INPUT_PIN : Fld := ⟨.PWR_INPUT, 16, 16⟩
def PWR_PORT_CFG_TX_PIN : Fld := ⟨.PWR_PORT_CFG, 0, 2⟩
def PWR_PORT_CFG_RX_SLEEP_OK : Fld := ⟨.PWR_PORT_CFG, 2, 1⟩
def PWR_PORT_CFG_RX_DEEP_OK : Fld := ⟨.PWR_PORT_CFG, 3, 1⟩
def PWR_LAT_TOL : Fld := ⟨.PWR_LAT, 0, 16⟩
def PWR_PORT_STAT_T_EFF : Fld := ⟨.PWR_PORT_STAT, 0, 16⟩
def PWR_PORT_STAT_ALLOWED : Fld := ⟨.PWR_PORT_STAT, 16, 2⟩
def PWR_PORT_STAT_HOLD_CAUSE : Fld := ⟨.PWR_PORT_STAT, 20, 4⟩
def PWR_PORT_STAT_PIN_BLOCKED : Fld := ⟨.PWR_PORT_STAT, 24, 1⟩
def PWR_PORT_STAT_CHANGED : Fld := ⟨.PWR_PORT_STAT, 31, 1⟩
def GLB_ID_VARIANT : Fld := ⟨.GLB_ID, 0, 4⟩
def GLB_ID_DIE_STEP : Fld := ⟨.GLB_ID, 4, 4⟩
def GLB_SERIAL_HI_SERIAL : Fld := ⟨.GLB_SERIAL_HI, 0, 32⟩
def GLB_SERIAL_LO_SERIAL : Fld := ⟨.GLB_SERIAL_LO, 0, 32⟩
def GLB_BOOT_STAT_STAGE : Fld := ⟨.GLB_BOOT_STAT, 0, 4⟩
def GLB_BOOT_STAT_BUNDLE_SLOT : Fld := ⟨.GLB_BOOT_STAT, 4, 1⟩
def GLB_BOOT_STAT_CFG_SLOT : Fld := ⟨.GLB_BOOT_STAT, 5, 2⟩
def GLB_BOOT_STAT_FALLBACK : Fld := ⟨.GLB_BOOT_STAT, 7, 1⟩
def GLB_BOOT_STAT_RESET_CAUSE : Fld := ⟨.GLB_BOOT_STAT, 8, 4⟩
def GLB_BOOT_STAT_SETTINGS_RESET : Fld := ⟨.GLB_BOOT_STAT, 12, 1⟩
def GLB_BOOT_STAT_HDR_LOST : Fld := ⟨.GLB_BOOT_STAT, 13, 1⟩
def GLB_BOOT_STAT_FAST_SLOT : Fld := ⟨.GLB_BOOT_STAT, 14, 2⟩
def GLB_BOOT_STAT_CHANGED : Fld := ⟨.GLB_BOOT_STAT, 31, 1⟩
def GLB_RESET_FULL : Fld := ⟨.GLB_RESET, 0, 1⟩
def GLB_RESET_FAST : Fld := ⟨.GLB_RESET, 1, 1⟩
def GLB_RESET_CP : Fld := ⟨.GLB_RESET, 2, 1⟩
def GLB_RESET_SMC : Fld := ⟨.GLB_RESET, 3, 1⟩
def GLB_RESET_KEY : Fld := ⟨.GLB_RESET, 8, 8⟩
def GLB_RESET_RESULT : Fld := ⟨.GLB_RESET, 16, 4⟩
def GLB_CFG_CMD_CHECK : Fld := ⟨.GLB_CFG_CMD, 0, 1⟩
def GLB_CFG_CMD_ACTIVATE : Fld := ⟨.GLB_CFG_CMD, 1, 1⟩
def GLB_CFG_CMD_RELOAD : Fld := ⟨.GLB_CFG_CMD, 2, 1⟩
def GLB_CFG_CMD_SLOT : Fld := ⟨.GLB_CFG_CMD, 4, 1⟩
def GLB_CFG_CMD_RESULT : Fld := ⟨.GLB_CFG_CMD, 8, 4⟩
def GLB_CFG_STAT_WARN : Fld := ⟨.GLB_CFG_STAT, 0, 12⟩
def GLB_CFG_STAT_SKIPPED : Fld := ⟨.GLB_CFG_STAT, 12, 4⟩
def GLB_CFG_STAT_FAIL_RECORD : Fld := ⟨.GLB_CFG_STAT, 16, 16⟩
def GLB_CFG_ID_IMAGE_ID : Fld := ⟨.GLB_CFG_ID, 0, 32⟩
def GLB_CFG_FAST_ID_IMAGE_ID : Fld := ⟨.GLB_CFG_FAST_ID, 0, 32⟩
def FIRN_OCXO_STAT_OSC_A : Fld := ⟨.FIRN_OCXO_STAT, 0, 1⟩
def FIRN_OCXO_STAT_WARM_A : Fld := ⟨.FIRN_OCXO_STAT, 1, 1⟩
def FIRN_OCXO_STAT_OSC_B : Fld := ⟨.FIRN_OCXO_STAT, 2, 1⟩
def FIRN_OCXO_STAT_WARM_B : Fld := ⟨.FIRN_OCXO_STAT, 3, 1⟩
def FIRN_OCXO_STAT_WARM_S : Fld := ⟨.FIRN_OCXO_STAT, 8, 10⟩
def FIRN_OCXO_STAT_CHANGED : Fld := ⟨.FIRN_OCXO_STAT, 31, 1⟩
def FIRN_LIFE_POWER_ON_HOURS : Fld := ⟨.FIRN_LIFE, 0, 32⟩
def FIRN_BOOTS_BOOTS : Fld := ⟨.FIRN_BOOTS, 0, 32⟩
def FIRN_REFRESH_STAT_RUNNING : Fld := ⟨.FIRN_REFRESH_STAT, 0, 1⟩
def FIRN_REFRESH_STAT_RESTORED : Fld := ⟨.FIRN_REFRESH_STAT, 1, 1⟩
def FIRN_REFRESH_STAT_SECTORS_LEFT : Fld := ⟨.FIRN_REFRESH_STAT, 16, 10⟩
def UPD_CMD_VERIFY : Fld := ⟨.UPD_CMD, 0, 1⟩
def UPD_CMD_ACTIVATE : Fld := ⟨.UPD_CMD, 1, 1⟩
def UPD_CMD_CONFIRM : Fld := ⟨.UPD_CMD, 2, 1⟩
def UPD_CMD_ABORT : Fld := ⟨.UPD_CMD, 3, 1⟩
def UPD_CMD_ERASE : Fld := ⟨.UPD_CMD, 4, 1⟩
def UPD_CMD_FLUSH : Fld := ⟨.UPD_CMD, 5, 1⟩
def UPD_CMD_RESULT : Fld := ⟨.UPD_CMD, 8, 4⟩
def UPD_CFG_SLOT : Fld := ⟨.UPD_CFG, 0, 1⟩
def UPD_CFG_MODE : Fld := ⟨.UPD_CFG, 1, 1⟩
def UPD_CFG_AUTO_CONFIRM : Fld := ⟨.UPD_CFG, 2, 1⟩
def UPD_CFG_CFG_SLOT : Fld := ⟨.UPD_CFG, 3, 1⟩
def UPD_CFG_CONFIRM_S : Fld := ⟨.UPD_CFG, 16, 16⟩
def UPD_ERASE_ADDR_ADDR : Fld := ⟨.UPD_ERASE_ADDR, 0, 26⟩
def UPD_STAT_STATE : Fld := ⟨.UPD_STAT, 0, 3⟩
def UPD_STAT_STEP : Fld := ⟨.UPD_STAT, 4, 4⟩
def UPD_STAT_PROG_ERR : Fld := ⟨.UPD_STAT, 8, 1⟩
def UPD_STAT_WRITE_REFUSED : Fld := ⟨.UPD_STAT, 9, 1⟩
def UPD_STAT_NVM_BUSY : Fld := ⟨.UPD_STAT, 10, 1⟩
def UPD_STAT_FAIL_CAUSE : Fld := ⟨.UPD_STAT, 12, 4⟩
def UPD_STAT_CHANGED : Fld := ⟨.UPD_STAT, 31, 1⟩
def UPD_CONFIRM_LEFT_LEFT : Fld := ⟨.UPD_CONFIRM_LEFT, 0, 16⟩
def UPD_IFVER0_FSP : Fld := ⟨.UPD_IFVER0, 0, 16⟩
def UPD_IFVER0_CP : Fld := ⟨.UPD_IFVER0, 16, 16⟩
def UPD_IFVER1_SMC : Fld := ⟨.UPD_IFVER1, 0, 16⟩
def UPD_IFVER1_TBP_A : Fld := ⟨.UPD_IFVER1, 16, 16⟩
def UPD_IFVER2_TBP_B : Fld := ⟨.UPD_IFVER2, 0, 16⟩
def UPD_SLOT_STAT_VERIFIED : Fld := ⟨.UPD_SLOT_STAT, 0, 1⟩
def UPD_SLOT_STAT_LIVE_OK : Fld := ⟨.UPD_SLOT_STAT, 1, 1⟩
def UPD_SLOT_STAT_FAIL_TYPE : Fld := ⟨.UPD_SLOT_STAT, 2, 2⟩
def UPD_SLOT_STAT_FAIL_BLOCK : Fld := ⟨.UPD_SLOT_STAT, 8, 13⟩
def UPD_SLOT_ID_BUNDLE_ID : Fld := ⟨.UPD_SLOT_ID, 0, 32⟩
def GLB_HOST_STAT_LINK_UP : Fld := ⟨.GLB_HOST_STAT, 0, 1⟩
def GLB_HOST_STAT_SPEED : Fld := ⟨.GLB_HOST_STAT, 1, 3⟩
def GLB_HOST_STAT_WIDTH : Fld := ⟨.GLB_HOST_STAT, 4, 3⟩
def GLB_HOST_STAT_BME : Fld := ⟨.GLB_HOST_STAT, 7, 1⟩
def GLB_HOST_STAT_MSIX_EN : Fld := ⟨.GLB_HOST_STAT, 8, 1⟩
def GLB_HOST_STAT_D3HOT : Fld := ⟨.GLB_HOST_STAT, 9, 1⟩
def GLB_HOST_STAT_DOWN_COUNT : Fld := ⟨.GLB_HOST_STAT, 16, 8⟩
def GLB_HOST_STAT_CHANGED : Fld := ⟨.GLB_HOST_STAT, 31, 1⟩
def GLB_HOST_HB_TIMEOUT : Fld := ⟨.GLB_HOST_HB, 0, 16⟩
def GLB_HOST_HB_KICK : Fld := ⟨.GLB_HOST_HB, 16, 1⟩
def GLB_HOST_HB_SILENT : Fld := ⟨.GLB_HOST_HB, 17, 1⟩
def GLB_SCRATCH_SCRATCH : Fld := ⟨.GLB_SCRATCH, 0, 32⟩
def GLB_BAD_ACC_SOURCE : Fld := ⟨.GLB_BAD_ACC, 0, 2⟩
def GLB_BAD_ACC_KIND : Fld := ⟨.GLB_BAD_ACC, 4, 3⟩
def GLB_BAD_ACC_EVENT : Fld := ⟨.GLB_BAD_ACC, 31, 1⟩
def GLB_BAD_ACC_OFS_OFFSET : Fld := ⟨.GLB_BAD_ACC_OFS, 0, 32⟩
def GLB_HEALTH_DIE_TEMP : Fld := ⟨.GLB_HEALTH, 0, 16⟩
def GLB_HEALTH_PIN : Fld := ⟨.GLB_HEALTH, 16, 16⟩
def IND_SPACE_SPACE : Fld := ⟨.IND_SPACE, 0, 4⟩
def IND_ADDR_ADDR : Fld := ⟨.IND_ADDR, 2, 24⟩
def IND_DATA_DATA : Fld := ⟨.IND_DATA, 0, 32⟩
def IND_STAT_QUEUED : Fld := ⟨.IND_STAT, 0, 6⟩
def IND_STAT_FULL : Fld := ⟨.IND_STAT, 6, 1⟩
def IND_STAT_ERR : Fld := ⟨.IND_STAT, 8, 4⟩
def IND_ERR_ADDR_ADDR : Fld := ⟨.IND_ERR_ADDR, 0, 26⟩
def IND_ERR_ADDR_SPACE : Fld := ⟨.IND_ERR_ADDR, 28, 4⟩
def IND_CTRL_AINC : Fld := ⟨.IND_CTRL, 0, 1⟩
def WIDE_SEL_CODE : Fld := ⟨.WIDE_SEL, 0, 8⟩
def WIDE_SEL_PORT : Fld := ⟨.WIDE_SEL, 16, 5⟩
def WIDE_CTRL_CAPTURE : Fld := ⟨.WIDE_CTRL, 0, 1⟩
def WIDE_STAT_CODE : Fld := ⟨.WIDE_STAT, 0, 8⟩
def WIDE_STAT_PORT : Fld := ⟨.WIDE_STAT, 16, 5⟩
def WIDE_STAT_OVERRUN : Fld := ⟨.WIDE_STAT, 30, 1⟩
def WIDE_STAT_VALID : Fld := ⟨.WIDE_STAT, 31, 1⟩
def WIDE_D_D : Fld := ⟨.WIDE_D, 0, 32⟩
def MBX_MSG_OUT_W : Fld := ⟨.MBX_MSG_OUT, 0, 32⟩
def MBX_RSP_OUT_W : Fld := ⟨.MBX_RSP_OUT, 0, 32⟩
def MBX_MSG_IN_W : Fld := ⟨.MBX_MSG_IN, 0, 32⟩
def MBX_RSP_IN_W : Fld := ⟨.MBX_RSP_IN, 0, 32⟩
def MBX_CTL_OUT_LEN : Fld := ⟨.MBX_CTL_OUT, 0, 7⟩
def MBX_CTL_OUT_ACK_IRQ : Fld := ⟨.MBX_CTL_OUT, 7, 1⟩
def MBX_CTL_OUT_RSP_LEN : Fld := ⟨.MBX_CTL_OUT, 8, 7⟩
def MBX_CTL_OUT_POST_IRQ : Fld := ⟨.MBX_CTL_OUT, 15, 1⟩
def MBX_CTL_IN_LEN : Fld := ⟨.MBX_CTL_IN, 0, 7⟩
def MBX_CTL_IN_ACK_IRQ : Fld := ⟨.MBX_CTL_IN, 7, 1⟩
def MBX_CTL_IN_RSP_LEN : Fld := ⟨.MBX_CTL_IN, 8, 7⟩
def MBX_CTL_IN_POST_IRQ : Fld := ⟨.MBX_CTL_IN, 15, 1⟩
def MBX_CMD_OUT_POST : Fld := ⟨.MBX_CMD_OUT, 0, 1⟩
def MBX_CMD_OUT_WITHDRAW : Fld := ⟨.MBX_CMD_OUT, 1, 1⟩
def MBX_CMD_OUT_RELEASE : Fld := ⟨.MBX_CMD_OUT, 2, 1⟩
def MBX_CMD_OUT_TAKE : Fld := ⟨.MBX_CMD_OUT, 3, 1⟩
def MBX_CMD_OUT_ACK : Fld := ⟨.MBX_CMD_OUT, 4, 1⟩
def MBX_CMD_OUT_RESULT : Fld := ⟨.MBX_CMD_OUT, 8, 4⟩
def MBX_CMD_OUT_CODE : Fld := ⟨.MBX_CMD_OUT, 16, 16⟩
def MBX_CMD_IN_POST : Fld := ⟨.MBX_CMD_IN, 0, 1⟩
def MBX_CMD_IN_WITHDRAW : Fld := ⟨.MBX_CMD_IN, 1, 1⟩
def MBX_CMD_IN_RELEASE : Fld := ⟨.MBX_CMD_IN, 2, 1⟩
def MBX_CMD_IN_TAKE : Fld := ⟨.MBX_CMD_IN, 3, 1⟩
def MBX_CMD_IN_ACK : Fld := ⟨.MBX_CMD_IN, 4, 1⟩
def MBX_CMD_IN_RESULT : Fld := ⟨.MBX_CMD_IN, 8, 4⟩
def MBX_CMD_IN_CODE : Fld := ⟨.MBX_CMD_IN, 16, 16⟩
def MBX_STAT_OUT_STATE : Fld := ⟨.MBX_STAT_OUT, 0, 3⟩
def MBX_STAT_OUT_REDELIVERED : Fld := ⟨.MBX_STAT_OUT, 3, 1⟩
def MBX_STAT_OUT_WR_REJ : Fld := ⟨.MBX_STAT_OUT, 4, 1⟩
def MBX_STAT_OUT_ACK_CODE : Fld := ⟨.MBX_STAT_OUT, 16, 16⟩
def MBX_STAT_IN_STATE : Fld := ⟨.MBX_STAT_IN, 0, 3⟩
def MBX_STAT_IN_REDELIVERED : Fld := ⟨.MBX_STAT_IN, 3, 1⟩
def MBX_STAT_IN_WR_REJ : Fld := ⟨.MBX_STAT_IN, 4, 1⟩
def MBX_STAT_IN_ACK_CODE : Fld := ⟨.MBX_STAT_IN, 16, 16⟩
def MBX_SUMMARY_POSTED_IN : Fld := ⟨.MBX_SUMMARY, 1, 5⟩
def MBX_SUMMARY_ACKED_OUT : Fld := ⟨.MBX_SUMMARY, 9, 5⟩
def MBX_SUMMARY_INTN_EN : Fld := ⟨.MBX_SUMMARY, 31, 1⟩
def MBX_HOST_CMD_RESTART : Fld := ⟨.MBX_HOST_CMD, 0, 1⟩
def RING_CTRL_K : Fld := ⟨.RING_CTRL, 0, 4⟩
def RING_CTRL_HOST_EN : Fld := ⟨.RING_CTRL, 4, 1⟩
def RING_CTRL_AREA_EN : Fld := ⟨.RING_CTRL, 5, 1⟩
def RING_CTRL_TEL_EN : Fld := ⟨.RING_CTRL, 6, 1⟩
def RING_CTRL_USER_PERMIT : Fld := ⟨.RING_CTRL, 7, 1⟩
def RING_STAT_CFG_REJ : Fld := ⟨.RING_STAT, 0, 1⟩
def RING_HOST_BASE_LO_BASE : Fld := ⟨.RING_HOST_BASE_LO, 12, 20⟩
def RING_HOST_BASE_HI_BASE : Fld := ⟨.RING_HOST_BASE_HI, 0, 32⟩
def RING_HOST_ENTRIES_ENTRIES : Fld := ⟨.RING_HOST_ENTRIES, 0, 12⟩
def RING_HOST_HEAD_HEAD : Fld := ⟨.RING_HOST_HEAD, 0, 12⟩
def RING_HOST_TAIL_TAIL : Fld := ⟨.RING_HOST_TAIL, 0, 12⟩
def RING_AREA_ADDR_ADDR : Fld := ⟨.RING_AREA_ADDR, 0, 21⟩
def RING_AREA_DATA_DATA : Fld := ⟨.RING_AREA_DATA, 0, 32⟩
def RING_TEL_CFG_TEL_PORT : Fld := ⟨.RING_TEL_CFG, 0, 5⟩
def RING_TEL_CFG_TEL_TC : Fld := ⟨.RING_TEL_CFG, 5, 3⟩
def RING_TEL_CFG_PART_WORDS : Fld := ⟨.RING_TEL_CFG, 8, 1⟩
def RING_TEL_CFG_TAG_EN : Fld := ⟨.RING_TEL_CFG, 9, 1⟩
def RING_TEL_CFG_TEL_PCP : Fld := ⟨.RING_TEL_CFG, 10, 3⟩
def RING_TEL_CFG_TEL_VID : Fld := ⟨.RING_TEL_CFG, 16, 12⟩
def RING_TEL_DA_HI_DA : Fld := ⟨.RING_TEL_DA_HI, 0, 16⟩
def RING_TEL_DA_LO_DA : Fld := ⟨.RING_TEL_DA_LO, 0, 32⟩
def CNT_IDX_IDX : Fld := ⟨.CNT_IDX, 0, 12⟩
def CNT_DATA_VALUE : Fld := ⟨.CNT_DATA, 0, 32⟩
def CNT_CFG_SRC : Fld := ⟨.CNT_CFG, 0, 12⟩
def CNT_CFG_INDEX : Fld := ⟨.CNT_CFG, 16, 16⟩
def ALM_ACTIVE_ACTIVE : Fld := ⟨.ALM_ACTIVE, 0, 32⟩
def ALM_LATCH_LATCH : Fld := ⟨.ALM_LATCH, 0, 32⟩
def ALM_ENABLE_ENABLE : Fld := ⟨.ALM_ENABLE, 0, 32⟩
def ALM_ROUTE_VECTOR : Fld := ⟨.ALM_ROUTE, 0, 6⟩
def ALM_ROUTE_MSIX_EN : Fld := ⟨.ALM_ROUTE, 8, 1⟩
def ALM_ROUTE_INTN_EN : Fld := ⟨.ALM_ROUTE, 9, 1⟩
def ALM_LOG_STAT_LEVEL : Fld := ⟨.ALM_LOG_STAT, 0, 9⟩
def ALM_LOG_W_W : Fld := ⟨.ALM_LOG_W, 0, 32⟩
def ALM_REEN_GO : Fld := ⟨.ALM_REEN, 0, 1⟩
def ALM_REEN_RESULT : Fld := ⟨.ALM_REEN, 8, 4⟩
def ALM_REEN_CLASS : Fld := ⟨.ALM_REEN, 16, 8⟩
def ALM_REEN_IDX_INDEX : Fld := ⟨.ALM_REEN_IDX, 0, 18⟩
def ST_K_W : Fld := ⟨.ST_K, 0, 32⟩
def ST_M_W : Fld := ⟨.ST_M, 0, 32⟩
def ST_A_W : Fld := ⟨.ST_A, 0, 32⟩

end Sys2Proof.Machine.F
end

