-- ==== Sys2Proof/Machine/RegTable.lean ====
section
/-! DEFINITION. The register tables of spec/, one arm per register: space, offset, index strides, and the fields with
access type, reset value and stated range. -/

namespace Sys2Proof.Machine

/-- The place and the fields of every register, from the register table of the chapter that owns it. -/
def Reg.spec : Reg → RegSpec
  | .TB_TSTAT => ⟨.tb, 0x0, [(0x1000, 2)],
      [⟨0, 16, .ro, 0, .none⟩, ⟨16, 1, .w1c, 0, .none⟩]⟩
  | .TB_JUMP_CFG => ⟨.tb, 0x4, [(0x1000, 2)],
      [⟨0, 30, .rw, 20, .nat 1 1000000000⟩, ⟨30, 1, .rw, 0, .none⟩]⟩
  | .TB_SLEW_CFG => ⟨.tb, 0x8, [(0x1000, 2)],
      [⟨0, 11, .rw, 10, .nat 1 1000⟩]⟩
  | .TB_LOCK_CFG => ⟨.tb, 0xc, [(0x1000, 2)],
      [⟨0, 20, .rw, 1000, .nat 10 1000000⟩, ⟨20, 8, .rw, 8, .nat 1 255⟩, ⟨28, 4, .rw, 4, .nat 2 15⟩]⟩
  | .TB_HOLD_LIMIT => ⟨.tb, 0x10, [(0x1000, 2)],
      [⟨0, 30, .rw, 1000, .nat 10 1000000⟩]⟩
  | .TB_UTC => ⟨.tb, 0x14, [(0x1000, 2)],
      [⟨0, 16, .ro, 0, .none⟩, ⟨16, 1, .ro, 0, .none⟩, ⟨17, 1, .ro, 0, .none⟩, ⟨18, 1, .ro, 0, .none⟩]⟩
  | .TB_UTC_CFG => ⟨.tb, 0x18, [(0x1000, 2)],
      [⟨0, 16, .rw, 0, .none⟩]⟩
  | .TB_TCMD => ⟨.tb, 0x1c, [(0x1000, 2)],
      [⟨0, 1, .sc, 0, .none⟩, ⟨1, 1, .sc, 0, .none⟩, ⟨8, 4, .ro, 0, .none⟩, ⟨12, 1, .w1c, 0, .none⟩]⟩
  | .TB_TSET0 => ⟨.tb, 0x20, [(0x1000, 2)],
      [⟨0, 32, .rw, 0, .none⟩]⟩
  | .TB_TSET1 => ⟨.tb, 0x24, [(0x1000, 2)],
      [⟨0, 32, .rw, 0, .none⟩]⟩
  | .TB_TSET2 => ⟨.tb, 0x28, [(0x1000, 2)],
      [⟨0, 32, .rw, 0, .none⟩]⟩
  | .TB_TSET3 => ⟨.tb, 0x2c, [(0x1000, 2)],
      [⟨0, 32, .rw, 0, .none⟩]⟩
  | .TB_SERVO_TGT => ⟨.tb, 0x30, [(0x1000, 2)],
      [⟨0, 14, .rw, 1000, .nat 50 10000⟩, ⟨16, 14, .rw, 50, .nat 50 1000⟩]⟩
  | .TB_SERVO_TGT2 => ⟨.tb, 0x34, [(0x1000, 2)],
      [⟨0, 14, .rw, 50, .nat 50 100⟩, ⟨16, 14, .rw, 100, .nat 50 1000⟩]⟩
  | .TB_SERVO_PIN => ⟨.tb, 0x38, [(0x1000, 2)],
      [⟨0, 14, .rw, 1000, .nat 50 10000⟩, ⟨31, 1, .rw, 0, .none⟩]⟩
  | .TB_SERVO_STAT => ⟨.tb, 0x3c, [(0x1000, 2)],
      [⟨0, 14, .ro, 0, .none⟩, ⟨16, 3, .ro, 5, .none⟩, ⟨19, 1, .ro, 0, .none⟩, ⟨20, 1, .ro, 0, .none⟩, ⟨21, 1, .ro, 0, .none⟩]⟩
  | .TB_MODEL_STAT => ⟨.tb, 0x40, [(0x1000, 2)],
      [⟨0, 16, .ro, 0, .none⟩, ⟨16, 1, .ro, 0, .none⟩, ⟨17, 1, .ro, 0, .none⟩, ⟨18, 1, .ro, 0, .none⟩]⟩
  | .TB_MODEL_CMD => ⟨.tb, 0x44, [(0x1000, 2)],
      [⟨0, 1, .sc, 0, .none⟩, ⟨4, 2, .ro, 0, .none⟩]⟩
  | .TB_HOLD_CFG => ⟨.tb, 0x48, [(0x1000, 2)],
      [⟨0, 8, .rw, 60, .nat 10 255⟩, ⟨8, 8, .rw, 2, .nat 0 16⟩]⟩
  | .RSEL_CFG => ⟨.rsel, 0x0, [],
      [⟨0, 1, .rw, 1, .none⟩, ⟨1, 2, .rw, 0, .none⟩, ⟨4, 12, .rw, 300, .nat 0 3600⟩, ⟨16, 12, .rw, 60, .nat 1 3600⟩]⟩
  | .RSEL_LIMITS => ⟨.rsel, 0x4, [],
      [⟨0, 8, .rw, 20, .nat 1 99⟩, ⟨8, 8, .rw, 40, .none⟩, ⟨16, 16, .rw, 50, .nat 1 10000⟩]⟩
  | .RSEL_DISAGREE => ⟨.rsel, 0x8, [],
      [⟨0, 16, .rw, 20, .nat 1 10000⟩]⟩
  | .RSEL_SEL => ⟨.rsel, 0x10, [],
      [⟨0, 6, .ro, 36, .none⟩, ⟨8, 1, .ro, 0, .none⟩, ⟨9, 1, .ro, 0, .none⟩, ⟨10, 1, .ro, 0, .none⟩, ⟨16, 6, .ro, 63, .none⟩, ⟨31, 1, .w1c, 0, .none⟩]⟩
  | .RSEL_CMD => ⟨.rsel, 0x14, [],
      [⟨0, 6, .rw, 63, .none⟩, ⟨8, 1, .rw, 0, .none⟩, ⟨9, 1, .sc, 0, .none⟩, ⟨10, 1, .sc, 0, .none⟩]⟩
  | .RSEL_REFIN_CFG => ⟨.rsel, 0x20, [(4, 4)],
      [⟨0, 3, .rw, 0, .none⟩, ⟨3, 1, .rw, 0, .none⟩, ⟨4, 2, .rw, 0, .none⟩, ⟨8, 24, .rw, 0, .none⟩]⟩
  | .RSEL_PRIO => ⟨.rsel, 0x40, [(4, 16)],
      [⟨0, 6, .rw, 0, .none⟩, ⟨8, 4, .rw, 0, .none⟩]⟩
  | .RSEL_CAND_CFG => ⟨.rsel, 0x100, [(4, 36)],
      [⟨0, 16, .rw, 100, .nat 1 65535⟩]⟩
  | .RSEL_CAND_STAT => ⟨.rsel, 0x200, [(4, 37)],
      [⟨0, 1, .ro, 0, .none⟩, ⟨1, 1, .ro, 0, .none⟩, ⟨2, 1, .ro, 0, .none⟩, ⟨3, 1, .ro, 0, .none⟩, ⟨4, 1, .ro, 0, .none⟩, ⟨5, 1, .ro, 0, .none⟩, ⟨8, 4, .ro, 0, .none⟩, ⟨16, 12, .ro, 0, .none⟩, ⟨31, 1, .w1c, 0, .none⟩]⟩
  | .RSEL_CAND_FREQ => ⟨.rsel, 0x300, [(4, 37)],
      [⟨0, 32, .ro, 0, .none⟩]⟩
  | .RSEL_CAND_TOFS => ⟨.rsel, 0x400, [(4, 36)],
      [⟨0, 32, .ro, 0, .none⟩]⟩
  | .TB_ROLE => ⟨.tb, 0x80, [(0x1000, 2)],
      [⟨0, 3, .ro, 1, .none⟩, ⟨16, 12, .ro, 0, .none⟩, ⟨31, 1, .w1c, 0, .none⟩]⟩
  | .TB_TWIN_CFG => ⟨.tb, 0x84, [(0x1000, 2)],
      [⟨0, 1, .rw, 1, .none⟩, ⟨1, 1, .rw, 0, .none⟩, ⟨2, 1, .rw, 0, .none⟩, ⟨4, 12, .rw, 300, .nat 0 3600⟩, ⟨16, 8, .rw, 10, .nat 1 100⟩]⟩
  | .TB_TWIN_CMD => ⟨.tb, 0x88, [(0x1000, 2)],
      [⟨0, 1, .sc, 0, .none⟩, ⟨1, 1, .sc, 0, .none⟩, ⟨2, 1, .sc, 0, .none⟩, ⟨8, 4, .ro, 0, .none⟩]⟩
  | .TB_HB_STAT => ⟨.tb, 0x8c, [(0x1000, 2)],
      [⟨0, 1, .ro, 0, .none⟩, ⟨1, 1, .ro, 0, .none⟩, ⟨2, 1, .ro, 0, .none⟩, ⟨8, 3, .ro, 0, .none⟩, ⟨12, 3, .ro, 0, .none⟩, ⟨31, 1, .w1c, 0, .none⟩]⟩
  | .TB_TAKEOVER => ⟨.tb, 0x90, [(0x1000, 2)],
      [⟨0, 2, .ro, 0, .none⟩, ⟨2, 1, .ro, 0, .none⟩, ⟨3, 1, .ro, 0, .none⟩, ⟨4, 1, .ro, 0, .none⟩, ⟨8, 8, .ro, 0, .none⟩, ⟨16, 16, .ro, 0, .none⟩]⟩
  | .SYN_CFG => ⟨.syn, 0x0, [(0x40, 10)],
      [⟨0, 2, .rw, 1, .none⟩, ⟨4, 1, .rw, 0, .none⟩]⟩
  | .SYN_LOCK_CFG => ⟨.syn, 0x4, [(0x40, 10)],
      [⟨0, 8, .rw, 100, .nat 10 255⟩, ⟨16, 16, .rw, 4096, .nat 256 65535⟩]⟩
  | .SYN_FREQ_LO => ⟨.syn, 0x8, [(0x40, 10)],
      [⟨0, 32, .rw, 0, .none⟩]⟩
  | .SYN_FREQ_HI => ⟨.syn, 0xc, [(0x40, 10)],
      [⟨0, 16, .rw, 0, .nat 0x1E00 0x3C00⟩]⟩
  | .SYN_CMD => ⟨.syn, 0x10, [(0x40, 10)],
      [⟨0, 1, .sc, 0, .none⟩, ⟨1, 1, .sc, 0, .none⟩, ⟨2, 1, .sc, 0, .none⟩, ⟨3, 1, .sc, 0, .none⟩, ⟨4, 1, .sc, 0, .none⟩, ⟨8, 4, .ro, 0, .none⟩]⟩
  | .SYN_STEP => ⟨.syn, 0x14, [(0x40, 10)],
      [⟨0, 21, .rw, 0, .int (-1000000) 1000000⟩, ⟨22, 2, .rw, 0, .none⟩]⟩
  | .SYN_STEP_T0 => ⟨.syn, 0x18, [(0x40, 10)],
      [⟨0, 32, .rw, 0, .none⟩]⟩
  | .SYN_STEP_T1 => ⟨.syn, 0x1c, [(0x40, 10)],
      [⟨0, 32, .rw, 0, .none⟩]⟩
  | .SYN_STEP_T2 => ⟨.syn, 0x20, [(0x40, 10)],
      [⟨0, 32, .rw, 0, .none⟩]⟩
  | .SYN_STEP_T3 => ⟨.syn, 0x24, [(0x40, 10)],
      [⟨0, 32, .rw, 0, .none⟩]⟩
  | .SYN_STAT => ⟨.syn, 0x28, [(0x40, 10)],
      [⟨0, 1, .ro, 0, .none⟩, ⟨1, 1, .ro, 0, .none⟩, ⟨2, 1, .ro, 0, .none⟩, ⟨3, 1, .ro, 0, .none⟩, ⟨4, 1, .ro, 0, .none⟩, ⟨5, 1, .ro, 0, .none⟩, ⟨6, 1, .ro, 0, .none⟩, ⟨7, 1, .ro, 0, .none⟩, ⟨8, 6, .ro, 0, .none⟩, ⟨31, 1, .w1c, 0, .none⟩]⟩
  | .SYN_BAND_W0 => ⟨.syn, 0x1000, [(0x400, 10), (0x200, 2), (8, 64)],
      [⟨0, 23, .rw, 0, .none⟩, ⟨24, 6, .rw, 0, .none⟩, ⟨31, 1, .rw, 0, .none⟩]⟩
  | .SYN_BAND_W1 => ⟨.syn, 0x1004, [(0x400, 10), (0x200, 2), (8, 64)],
      [⟨0, 23, .rw, 0, .none⟩]⟩
  | .OUT_CFG => ⟨.syn, 0x400, [(0x40, 8)],
      [⟨0, 1, .rw, 0, .none⟩, ⟨1, 3, .rw, 0, .none⟩, ⟨4, 2, .rw, 0, .none⟩, ⟨6, 2, .rw, 0, .none⟩, ⟨8, 1, .rw, 0, .none⟩, ⟨9, 1, .rw, 0, .none⟩, ⟨16, 16, .rw, 2, .nat 2 65535⟩]⟩
  | .OUT_PER_LO => ⟨.syn, 0x404, [(0x40, 8)],
      [⟨0, 32, .rw, 0xd4a51000, .none⟩]⟩
  | .OUT_PER_HI => ⟨.syn, 0x408, [(0x40, 8)],
      [⟨0, 8, .rw, 232, .none⟩]⟩
  | .OUT_WIDTH => ⟨.syn, 0x40c, [(0x40, 8)],
      [⟨0, 32, .rw, 0x186a0, .none⟩]⟩
  | .OUT_OFS_LO => ⟨.syn, 0x410, [(0x40, 8)],
      [⟨0, 32, .rw, 0, .none⟩]⟩
  | .OUT_OFS_HI => ⟨.syn, 0x414, [(0x40, 8)],
      [⟨0, 8, .rw, 0, .none⟩]⟩
  | .OUT_ALIGN => ⟨.syn, 0x418, [(0x40, 8)],
      [⟨0, 1, .rw, 0, .none⟩, ⟨8, 6, .rw, 0, .nat 0 47⟩, ⟨16, 1, .rw, 0, .none⟩, ⟨24, 8, .rw, 10, .nat 1 255⟩]⟩
  | .OUT_CMD => ⟨.syn, 0x41c, [(0x40, 8)],
      [⟨0, 1, .sc, 0, .none⟩, ⟨1, 1, .sc, 0, .none⟩, ⟨2, 1, .sc, 0, .none⟩, ⟨8, 4, .ro, 0, .none⟩]⟩
  | .OUT_STAT => ⟨.syn, 0x420, [(0x40, 8)],
      [⟨0, 1, .ro, 0, .none⟩, ⟨1, 1, .ro, 0, .none⟩, ⟨2, 1, .ro, 0, .none⟩, ⟨3, 1, .ro, 0, .none⟩, ⟨4, 1, .ro, 0, .none⟩, ⟨5, 1, .w1c, 0, .none⟩, ⟨31, 1, .w1c, 0, .none⟩]⟩
  | .LANE_CFG => ⟨.lane, 0x0, [(0x1000, 128)],
      [⟨0, 1, .rw, 0, .none⟩, ⟨1, 1, .rw, 0, .none⟩]⟩
  | .LANE_TXEQ => ⟨.lane, 0x4, [(0x1000, 128)],
      [⟨0, 4, .rw, 4, .none⟩, ⟨4, 3, .rw, 0, .none⟩, ⟨8, 4, .rw, 0, .none⟩]⟩
  | .LANE_TEST => ⟨.lane, 0x8, [(0x1000, 128)],
      [⟨0, 4, .rw, 0, .none⟩, ⟨4, 1, .rw, 0, .none⟩, ⟨8, 4, .rw, 0, .none⟩, ⟨12, 1, .rw, 0, .none⟩, ⟨16, 2, .rw, 0, .none⟩]⟩
  | .LANE_PRBS_ERR => ⟨.lane, 0xc, [(0x1000, 128)],
      [⟨0, 32, .rwh, 0, .none⟩]⟩
  | .LANE_STAT => ⟨.lane, 0x10, [(0x1000, 128)],
      [⟨0, 1, .ro, 0, .none⟩, ⟨1, 1, .ro, 0, .none⟩, ⟨2, 1, .ro, 0, .none⟩, ⟨3, 1, .ro, 0, .none⟩, ⟨4, 1, .w1c, 0, .none⟩, ⟨31, 1, .w1c, 0, .none⟩]⟩
  | .LANE_QUAD_CFG => ⟨.lane, 0x100, [(0x4000, 32)],
      [⟨0, 4, .rw, 0, .none⟩, ⟨4, 1, .rw, 1, .none⟩, ⟨5, 1, .rw, 0, .none⟩, ⟨8, 8, .rw, 16, .nat 1 255⟩]⟩
  | .LANE_QUAD_CMD => ⟨.lane, 0x104, [(0x4000, 32)],
      [⟨0, 1, .sc, 0, .none⟩, ⟨8, 4, .ro, 0, .none⟩]⟩
  | .LANE_QUAD_STAT => ⟨.lane, 0x108, [(0x4000, 32)],
      [⟨0, 4, .ro, 0, .none⟩, ⟨4, 1, .ro, 0, .none⟩, ⟨5, 1, .ro, 0, .none⟩, ⟨6, 1, .ro, 0, .none⟩, ⟨7, 1, .ro, 0, .none⟩, ⟨8, 3, .ro, 0, .none⟩, ⟨12, 3, .ro, 0, .none⟩, ⟨15, 1, .ro, 0, .none⟩, ⟨16, 4, .ro, 0, .none⟩, ⟨31, 1, .w1c, 0, .none⟩]⟩
  | .LANE_BRINGUP => ⟨.lane, 0x10c, [(0x4000, 32)],
      [⟨0, 20, .ro, 0, .none⟩]⟩
  | .LANE_PARTNER_ID_HI => ⟨.lane, 0x110, [(0x4000, 32)],
      [⟨0, 32, .ro, 0, .none⟩]⟩
  | .LANE_PARTNER_ID_LO => ⟨.lane, 0x114, [(0x4000, 32)],
      [⟨0, 32, .ro, 0, .none⟩]⟩
  | .LANE_PARTNER_INFO => ⟨.lane, 0x118, [(0x4000, 32)],
      [⟨0, 5, .ro, 0, .none⟩, ⟨8, 4, .ro, 0, .none⟩, ⟨12, 4, .ro, 0, .none⟩, ⟨16, 8, .ro, 0, .none⟩, ⟨24, 3, .ro, 0, .none⟩, ⟨27, 1, .ro, 0, .none⟩]⟩
  | .LANE_PARTNER_DOM => ⟨.lane, 0x11c, [(0x4000, 32)],
      [⟨0, 8, .ro, 0, .none⟩, ⟨16, 16, .ro, 0, .none⟩]⟩
  | .PRT_MAC_CFG => ⟨.bar0, 0x100000, [(0x8000, 32)],
      [⟨0, 14, .rw, 1522, .nat 64 9216⟩]⟩
  | .PRT_MAC_ADDR_HI => ⟨.bar0, 0x100004, [(0x8000, 32)],
      [⟨0, 16, .rw, 0, .none⟩]⟩
  | .PRT_MAC_ADDR_LO => ⟨.bar0, 0x100008, [(0x8000, 32)],
      [⟨0, 32, .rw, 0, .none⟩]⟩
  | .PRT_PTP_CFG => ⟨.bar0, 0x100100, [(0x8000, 32)],
      [⟨0, 3, .rw, 7, .none⟩, ⟨3, 1, .rw, 0, .none⟩, ⟨4, 1, .rw, 1, .none⟩, ⟨5, 1, .rw, 0, .none⟩, ⟨6, 2, .rw, 0, .none⟩, ⟨8, 2, .rw, 0, .none⟩, ⟨16, 8, .rw, 128, .nat 1 255⟩]⟩
  | .PRT_PTP_RATE => ⟨.bar0, 0x100104, [(0x8000, 32)],
      [⟨0, 4, .rw, 0, .none⟩, ⟨4, 4, .rw, 0, .int (-7) 1⟩, ⟨8, 4, .rw, 0, .int (-3) 3⟩, ⟨12, 4, .rw, 3, .nat 2 10⟩, ⟨16, 6, .rw, 16, .nat 1 63⟩, ⟨24, 6, .rw, 8, .nat 1 63⟩]⟩
  | .PRT_EXT_DELAY => ⟨.bar0, 0x100108, [(0x8000, 32)],
      [⟨0, 16, .rw, 0, .none⟩, ⟨16, 16, .rw, 0, .none⟩]⟩
  | .PRT_ASYM_REF => ⟨.bar0, 0x10010c, [(0x8000, 32)],
      [⟨0, 32, .rw, 0, .none⟩]⟩
  | .PRT_ASYM_DREF => ⟨.bar0, 0x100110, [(0x8000, 32)],
      [⟨0, 32, .rw, 0, .nat 0 1000000⟩]⟩
  | .PRT_ASYM_COEF => ⟨.bar0, 0x100114, [(0x8000, 32)],
      [⟨0, 32, .rw, 0, .int (-1000000000) 1000000000⟩]⟩
  | .PRT_PTU_STAT => ⟨.bar0, 0x100118, [(0x8000, 32)],
      [⟨0, 1, .ro, 0, .none⟩, ⟨1, 1, .ro, 0, .none⟩, ⟨2, 1, .ro, 0, .none⟩, ⟨3, 1, .ro, 0, .none⟩, ⟨4, 1, .ro, 0, .none⟩, ⟨5, 1, .ro, 0, .none⟩, ⟨6, 1, .ro, 0, .none⟩, ⟨7, 1, .w1c, 0, .none⟩, ⟨8, 4, .ro, 3, .none⟩, ⟨31, 1, .w1c, 0, .none⟩]⟩
  | .PRT_LAT_STAT => ⟨.bar0, 0x10011c, [(0x8000, 32)],
      [⟨0, 2, .ro, 0, .none⟩, ⟨2, 1, .w1c, 0, .none⟩, ⟨8, 8, .ro, 0, .none⟩]⟩
  | .PRT_REV_CMD => ⟨.bar0, 0x100120, [(0x8000, 32)],
      [⟨0, 1, .sc, 0, .none⟩, ⟨1, 1, .sc, 0, .none⟩, ⟨2, 1, .sc, 0, .none⟩, ⟨3, 1, .sc, 0, .none⟩, ⟨8, 4, .ro, 0, .none⟩, ⟨16, 8, .rw, 10, .nat 1 255⟩]⟩
  | .PRT_REV_STAT => ⟨.bar0, 0x100124, [(0x8000, 32)],
      [⟨0, 3, .ro, 0, .none⟩, ⟨4, 4, .ro, 0, .none⟩, ⟨31, 1, .w1c, 0, .none⟩]⟩
  | .PRT_REV_RESULT => ⟨.bar0, 0x100128, [(0x8000, 32)],
      [⟨0, 32, .ro, 0, .none⟩]⟩
  | .TIO_CFG => ⟨.tio, 0x0, [(0x400, 48)],
      [⟨0, 1, .rw, 0, .none⟩, ⟨1, 3, .rw, 0, .none⟩, ⟨4, 2, .rw, 0, .none⟩]⟩
  | .TIO_IN_CFG => ⟨.tio, 0x4, [(0x400, 48)],
      [⟨0, 12, .rw, 1650, .nat 50 3000⟩, ⟨12, 8, .rw, 50, .none⟩, ⟨20, 1, .rw, 0, .none⟩]⟩
  | .TIO_HOLDOFF => ⟨.tio, 0x8, [(0x400, 48)],
      [⟨0, 24, .rw, 0, .none⟩]⟩
  | .TIO_MEAS_CFG => ⟨.tio, 0xc, [(0x400, 48)],
      [⟨0, 6, .rw, 0, .nat 0 47⟩, ⟨6, 1, .rw, 0, .none⟩, ⟨7, 1, .rw, 0, .none⟩, ⟨16, 16, .rw, 1, .nat 1 65535⟩]⟩
  | .TIO_TIMEOUT => ⟨.tio, 0x10, [(0x400, 48)],
      [⟨0, 32, .rw, 0xf4240, .none⟩]⟩
  | .TIO_GATE => ⟨.tio, 0x14, [(0x400, 48)],
      [⟨0, 32, .rw, 0x186a0, .nat 1 4294967295⟩]⟩
  | .TIO_DELAY => ⟨.tio, 0x18, [(0x400, 48)],
      [⟨0, 16, .rw, 0, .none⟩, ⟨16, 16, .rw, 0, .none⟩]⟩
  | .TIO_CMD => ⟨.tio, 0x20, [(0x400, 48)],
      [⟨0, 1, .sc, 0, .none⟩, ⟨1, 1, .sc, 0, .none⟩, ⟨2, 1, .sc, 0, .none⟩, ⟨3, 1, .sc, 0, .none⟩, ⟨4, 1, .sc, 0, .none⟩, ⟨8, 4, .ro, 0, .none⟩]⟩
  | .TIO_STAT => ⟨.tio, 0x24, [(0x400, 48)],
      [⟨0, 1, .ro, 0, .none⟩, ⟨1, 1, .ro, 0, .none⟩, ⟨2, 1, .ro, 0, .none⟩, ⟨3, 1, .ro, 0, .none⟩, ⟨4, 1, .ro, 0, .none⟩, ⟨5, 1, .ro, 0, .none⟩, ⟨6, 1, .ro, 0, .none⟩, ⟨7, 1, .w1c, 0, .none⟩, ⟨8, 7, .ro, 0, .none⟩, ⟨31, 1, .w1c, 0, .none⟩]⟩
  | .TIO_CAL_STAT => ⟨.tio, 0x28, [(0x400, 48)],
      [⟨0, 10, .ro, 0, .none⟩, ⟨12, 8, .ro, 0, .none⟩, ⟨20, 8, .ro, 0, .none⟩]⟩
  | .TIO_T0_0 => ⟨.tio, 0x30, [(0x400, 48)],
      [⟨0, 32, .rw, 0, .none⟩]⟩
  | .TIO_T0_1 => ⟨.tio, 0x34, [(0x400, 48)],
      [⟨0, 32, .rw, 0, .none⟩]⟩
  | .TIO_T0_2 => ⟨.tio, 0x38, [(0x400, 48)],
      [⟨0, 32, .rw, 0, .none⟩]⟩
  | .TIO_T0_3 => ⟨.tio, 0x3c, [(0x400, 48)],
      [⟨0, 32, .rw, 0, .none⟩]⟩
  | .TIO_PER_LO => ⟨.tio, 0x40, [(0x400, 48)],
      [⟨0, 32, .rw, 0xd4a51000, .none⟩]⟩
  | .TIO_PER_HI => ⟨.tio, 0x44, [(0x400, 48)],
      [⟨0, 16, .rw, 232, .none⟩]⟩
  | .TIO_WID_LO => ⟨.tio, 0x48, [(0x400, 48)],
      [⟨0, 32, .rw, 0xf4240, .none⟩]⟩
  | .TIO_WID_HI => ⟨.tio, 0x4c, [(0x400, 48)],
      [⟨0, 16, .rw, 0, .none⟩]⟩
  | .TIO_COUNT => ⟨.tio, 0x50, [(0x400, 48)],
      [⟨0, 32, .rw, 1, .none⟩]⟩
  | .TIO_OUT_CFG => ⟨.tio, 0x54, [(0x400, 48)],
      [⟨0, 2, .rw, 0, .none⟩, ⟨2, 1, .rw, 0, .none⟩, ⟨8, 6, .rw, 0, .nat 0 47⟩, ⟨16, 1, .rw, 0, .none⟩, ⟨17, 1, .rw, 0, .none⟩]⟩
  | .TIO_TRIG_DELAY => ⟨.tio, 0x58, [(0x400, 48)],
      [⟨0, 32, .rw, 0x30d40, .nat 200000 4294967295⟩]⟩
  | .TIO_REC => ⟨.tio, 0x60, [(0x400, 48), (4, 8)],
      [⟨0, 32, .ro, 0, .none⟩]⟩
  | .VLAN_W0 => ⟨.bar0, 0xc00000, [(0x10, 4096)],
      [⟨0, 32, .rw, 0, .none⟩]⟩
  | .VLAN_W1 => ⟨.bar0, 0xc00004, [(0x10, 4096)],
      [⟨0, 32, .rw, 0, .none⟩]⟩
  | .VLAN_W2 => ⟨.bar0, 0xc00008, [(0x10, 4096)],
      [⟨0, 32, .rw, 0, .none⟩]⟩
  | .VLAN_W3 => ⟨.bar0, 0xc0000c, [(0x10, 4096)],
      [⟨0, 1, .rw, 0, .none⟩, ⟨1, 1, .rw, 0, .none⟩, ⟨2, 1, .rw, 0, .none⟩, ⟨3, 1, .rw, 0, .none⟩]⟩
  | .FDB_W0 => ⟨.bar0, 0x800000, [(0x10, 262144)],
      [⟨0, 32, .ro, 0, .none⟩]⟩
  | .FDB_W1 => ⟨.bar0, 0x800004, [(0x10, 262144)],
      [⟨0, 16, .ro, 0, .none⟩, ⟨16, 12, .ro, 0, .none⟩]⟩
  | .FDB_W2 => ⟨.bar0, 0x800008, [(0x10, 262144)],
      [⟨0, 5, .ro, 0, .none⟩, ⟨8, 1, .ro, 0, .none⟩, ⟨9, 1, .ro, 0, .none⟩, ⟨10, 1, .ro, 0, .none⟩, ⟨11, 2, .ro, 0, .none⟩, ⟨13, 1, .ro, 0, .none⟩, ⟨14, 1, .ro, 0, .none⟩, ⟨15, 1, .ro, 0, .none⟩]⟩
  | .FDB_W3 => ⟨.bar0, 0x80000c, [(0x10, 262144)],
      [⟨0, 32, .ro, 0, .none⟩]⟩
  | .SW_CFG => ⟨.bar0, 0x400000, [],
      [⟨0, 1, .rw, 1, .none⟩, ⟨1, 1, .rw, 1, .none⟩]⟩
  | .SW_AGE => ⟨.bar0, 0x400004, [],
      [⟨0, 20, .rw, 300, .nat 10 1000000⟩]⟩
  | .SW_FDB_KEY_LO => ⟨.bar0, 0x400010, [],
      [⟨0, 32, .rwh, 0, .none⟩]⟩
  | .SW_FDB_KEY_HI => ⟨.bar0, 0x400014, [],
      [⟨0, 16, .rwh, 0, .none⟩, ⟨16, 12, .rwh, 0, .none⟩]⟩
  | .SW_FDB_DATA => ⟨.bar0, 0x400018, [],
      [⟨0, 32, .rwh, 0, .none⟩]⟩
  | .SW_FDB_MASK => ⟨.bar0, 0x40001c, [],
      [⟨0, 32, .rwh, 0, .none⟩]⟩
  | .SW_FDB_CMD => ⟨.bar0, 0x400020, [],
      [⟨0, 1, .sc, 0, .none⟩, ⟨1, 3, .rw, 0, .none⟩, ⟨4, 1, .rw, 0, .none⟩, ⟨5, 1, .rw, 0, .none⟩, ⟨6, 1, .rw, 0, .none⟩, ⟨8, 4, .ro, 0, .none⟩, ⟨14, 18, .rwh, 0, .none⟩]⟩
  | .SW_PORT_CFG => ⟨.bar0, 0x400100, [(4, 32)],
      [⟨0, 12, .rw, 1, .nat 1 4094⟩, ⟨12, 2, .rw, 0, .none⟩, ⟨14, 1, .rw, 1, .none⟩, ⟨16, 2, .rw, 0, .none⟩, ⟨18, 3, .rw, 0, .none⟩]⟩
  | .SW_PCP_MAP => ⟨.bar0, 0x400180, [(4, 32)],
      [⟨0, 24, .rw, 0xfac681, .none⟩]⟩
  | .SW_CT_EN => ⟨.bar0, 0x400200, [(4, 32)],
      [⟨0, 32, .rw, 0, .none⟩]⟩
  | .SW_ST_SLICE_CFG => ⟨.bar0, 0x400400, [(4, 16)],
      [⟨0, 1, .rw, 0, .none⟩, ⟨1, 2, .rw, 0, .none⟩]⟩
  | .SW_ST_PAIR => ⟨.bar0, 0x400440, [],
      [⟨0, 8, .rw, 0, .none⟩, ⟨8, 8, .rw, 0, .none⟩]⟩
  | .SW_MIR_CFG => ⟨.bar0, 0x400500, [(0x10, 4)],
      [⟨0, 1, .rw, 0, .none⟩, ⟨1, 5, .rw, 0, .none⟩, ⟨8, 3, .rw, 0, .none⟩, ⟨16, 14, .rw, 0, .zeroOr 64 9216⟩]⟩
  | .SW_MIR_SAMPLE => ⟨.bar0, 0x400504, [(0x10, 4)],
      [⟨0, 16, .rw, 1, .nat 1 65535⟩]⟩
  | .SW_MIR_IN => ⟨.bar0, 0x400508, [(0x10, 4)],
      [⟨0, 32, .rw, 0, .none⟩]⟩
  | .SW_MIR_OUT => ⟨.bar0, 0x40050c, [(0x10, 4)],
      [⟨0, 32, .rw, 0, .none⟩]⟩
  | .SW_BUF_FREE => ⟨.bar0, 0x400600, [],
      [⟨0, 19, .ro, 0x48000, .none⟩, ⟨31, 1, .ro, 0, .none⟩]⟩
  | .SW_BUF_USED => ⟨.bar0, 0x400604, [],
      [⟨0, 19, .ro, 0, .none⟩, ⟨31, 1, .ro, 0, .none⟩]⟩
  | .SW_BUF_RETIRED => ⟨.bar0, 0x400608, [],
      [⟨0, 19, .ro, 0, .none⟩, ⟨31, 1, .ro, 0, .none⟩]⟩
  | .SW_BUF_GATED => ⟨.bar0, 0x40060c, [],
      [⟨0, 32, .ro, 0, .none⟩]⟩
  | .SW_BUF_GATED_CELLS => ⟨.bar0, 0x400610, [],
      [⟨0, 19, .ro, 0, .none⟩]⟩
  | .SW_AUDIT_CFG => ⟨.bar0, 0x400620, [],
      [⟨0, 16, .rw, 2000, .nat 100 60000⟩]⟩
  | .SW_AUDIT_STAT => ⟨.bar0, 0x400624, [],
      [⟨0, 16, .ro, 0, .none⟩, ⟨16, 1, .w1c, 0, .none⟩, ⟨31, 1, .w1c, 0, .none⟩]⟩
  | .PRT_Q_CFG => ⟨.bar0, 0x101000, [(0x8000, 32), (0x20, 8)],
      [⟨0, 1, .rw, 1, .none⟩, ⟨1, 1, .rw, 0, .none⟩, ⟨2, 4, .rw, 0, .none⟩, ⟨6, 3, .rw, 4, .none⟩, ⟨16, 16, .rw, 1536, .nat 64 65535⟩]⟩
  | .PRT_Q_LIMIT => ⟨.bar0, 0x101004, [(0x8000, 32), (0x20, 8)],
      [⟨0, 19, .rw, 32768, .nat 1 294912⟩]⟩
  | .PRT_Q_BOUND => ⟨.bar0, 0x101008, [(0x8000, 32), (0x20, 8)],
      [⟨0, 24, .rw, 1000, .nat 1000 16777215⟩]⟩
  | .PRT_Q_RES => ⟨.bar0, 0x10100c, [(0x8000, 32), (0x20, 8)],
      [⟨0, 19, .rw, 0, .nat 0 290816⟩]⟩
  | .PRT_Q_STAT => ⟨.bar0, 0x101010, [(0x8000, 32), (0x20, 8)],
      [⟨0, 19, .ro, 0, .none⟩, ⟨20, 4, .ro, 0, .none⟩, ⟨24, 1, .w1c, 0, .none⟩]⟩
  | .PRT_GATE_CFG => ⟨.bar0, 0x101100, [(0x8000, 32)],
      [⟨0, 1, .rw, 0, .none⟩, ⟨1, 1, .rw, 0, .none⟩]⟩
  | .PRT_GATE_STAT => ⟨.bar0, 0x101104, [(0x8000, 32)],
      [⟨0, 8, .ro, 255, .none⟩, ⟨8, 10, .ro, 0, .none⟩, ⟨18, 1, .ro, 0, .none⟩, ⟨19, 1, .w1c, 0, .none⟩, ⟨31, 1, .w1c, 0, .none⟩]⟩
  | .PRT_GCL_BASE_HI => ⟨.bar0, 0x101120, [(0x8000, 32), (0x20, 2)],
      [⟨0, 32, .rw, 0, .none⟩]⟩
  | .PRT_GCL_BASE_LO => ⟨.bar0, 0x101124, [(0x8000, 32), (0x20, 2)],
      [⟨0, 32, .rw, 0, .none⟩]⟩
  | .PRT_GCL_BASE_NS => ⟨.bar0, 0x101128, [(0x8000, 32), (0x20, 2)],
      [⟨0, 30, .rw, 0, .nat 0 999999999⟩]⟩
  | .PRT_GCL_CYCLE => ⟨.bar0, 0x10112c, [(0x8000, 32), (0x20, 2)],
      [⟨0, 30, .rw, 0x1e848, .nat 1000 1000000000⟩]⟩
  | .PRT_GCL_LEN => ⟨.bar0, 0x101130, [(0x8000, 32), (0x20, 2)],
      [⟨0, 11, .rw, 1, .nat 1 1024⟩]⟩
  | .PRT_PROT => ⟨.bar0, 0x101180, [(0x8000, 32)],
      [⟨0, 1, .rw, 0, .none⟩, ⟨8, 5, .rw, 0, .none⟩]⟩
  | .PRT_Q_PTX => ⟨.bar0, 0x101184, [(0x8000, 32)],
      [⟨0, 16, .ro, 0, .none⟩]⟩
  | .SW_POOL_SHARED => ⟨.bar0, 0x401000, [],
      [⟨0, 19, .ro, 0x48000, .none⟩, ⟨31, 1, .ro, 0, .none⟩]⟩
  | .SW_POOL_SHARED_USED => ⟨.bar0, 0x401004, [],
      [⟨0, 19, .ro, 0, .none⟩, ⟨31, 1, .ro, 0, .none⟩]⟩
  | .SW_POOL_RES => ⟨.bar0, 0x401008, [],
      [⟨0, 19, .ro, 0, .none⟩, ⟨31, 1, .ro, 0, .none⟩]⟩
  | .SW_POOL_RES_USED => ⟨.bar0, 0x40100c, [],
      [⟨0, 19, .ro, 0, .none⟩, ⟨31, 1, .ro, 0, .none⟩]⟩
  | .SW_HOLD_STAT => ⟨.bar0, 0x401010, [],
      [⟨0, 14, .ro, 0, .none⟩]⟩
  | .SW_RED_PROF_W0 => ⟨.bar0, 0x401100, [(0x20, 16)],
      [⟨0, 1, .rw, 0, .none⟩, ⟨4, 4, .rw, 9, .none⟩]⟩
  | .SW_RED_PROF_W1 => ⟨.bar0, 0x401104, [(0x20, 16)],
      [⟨0, 19, .rw, 16384, .none⟩]⟩
  | .SW_RED_PROF_W2 => ⟨.bar0, 0x401108, [(0x20, 16)],
      [⟨0, 19, .rw, 32768, .none⟩, ⟨24, 8, .rw, 26, .none⟩]⟩
  | .SW_RED_PROF_W3 => ⟨.bar0, 0x40110c, [(0x20, 16)],
      [⟨0, 19, .rw, 16384, .none⟩]⟩
  | .SW_RED_PROF_W4 => ⟨.bar0, 0x401110, [(0x20, 16)],
      [⟨0, 19, .rw, 32768, .none⟩, ⟨24, 8, .rw, 26, .none⟩]⟩
  | .SW_RED_PROF_W5 => ⟨.bar0, 0x401114, [(0x20, 16)],
      [⟨0, 19, .rw, 16384, .none⟩]⟩
  | .SW_RED_PROF_W6 => ⟨.bar0, 0x401118, [(0x20, 16)],
      [⟨0, 19, .rw, 32768, .none⟩, ⟨24, 8, .rw, 26, .none⟩]⟩
  | .GCL_W0 => ⟨.bar0, 0xf00000, [(0x4000, 32), (0x2000, 2), (8, 1024)],
      [⟨0, 8, .rw, 255, .none⟩]⟩
  | .GCL_W1 => ⟨.bar0, 0xf00004, [(0x4000, 32), (0x2000, 2), (8, 1024)],
      [⟨0, 30, .rw, 0x1e848, .nat 32 1000000000⟩]⟩
  | .METER_W0 => ⟨.bar0, 0xf80000, [(0x20, 8192)],
      [⟨0, 26, .rw, 0, .none⟩]⟩
  | .METER_W1 => ⟨.bar0, 0xf80004, [(0x20, 8192)],
      [⟨0, 26, .rw, 0, .none⟩]⟩
  | .METER_W2 => ⟨.bar0, 0xf80008, [(0x20, 8192)],
      [⟨0, 24, .rw, 0, .none⟩]⟩
  | .METER_W3 => ⟨.bar0, 0xf8000c, [(0x20, 8192)],
      [⟨0, 24, .rw, 0, .none⟩]⟩
  | .METER_W4 => ⟨.bar0, 0xf80010, [(0x20, 8192)],
      [⟨0, 1, .rw, 0, .none⟩, ⟨1, 1, .rw, 0, .none⟩, ⟨2, 1, .rw, 0, .none⟩, ⟨3, 1, .rw, 0, .none⟩, ⟨8, 5, .rw, 0, .none⟩]⟩
  | .METER_W5 => ⟨.bar0, 0xf80014, [(0x20, 8192)],
      [⟨0, 24, .ro, 0, .none⟩]⟩
  | .METER_W6 => ⟨.bar0, 0xf80018, [(0x20, 8192)],
      [⟨0, 24, .ro, 0, .none⟩]⟩
  | .SGATE_W0 => ⟨.bar0, 0xfc0000, [(0x20, 1024)],
      [⟨0, 30, .rw, 0, .zeroOr 1000 1000000000⟩]⟩
  | .SGATE_W1 => ⟨.bar0, 0xfc0004, [(0x20, 1024)],
      [⟨0, 30, .rw, 0, .none⟩]⟩
  | .SGATE_W2 => ⟨.bar0, 0xfc0008, [(0x20, 1024)],
      [⟨0, 30, .rw, 0, .none⟩]⟩
  | .SGATE_W3 => ⟨.bar0, 0xfc000c, [(0x20, 1024)],
      [⟨0, 1, .rw, 0, .none⟩, ⟨1, 3, .rw, 0, .none⟩, ⟨4, 1, .rw, 0, .none⟩, ⟨5, 1, .rw, 0, .none⟩]⟩
  | .SGATE_W4 => ⟨.bar0, 0xfc0010, [(0x20, 1024)],
      [⟨0, 24, .rw, 0, .none⟩]⟩
  | .SGATE_W5 => ⟨.bar0, 0xfc0014, [(0x20, 1024)],
      [⟨0, 1, .ro, 1, .none⟩, ⟨1, 1, .w1c, 0, .none⟩, ⟨2, 1, .w1c, 0, .none⟩]⟩
  | .SEQGEN_W0 => ⟨.bar0, 0xfd0000, [(0x10, 4096)],
      [⟨0, 16, .rwh, 0, .none⟩]⟩
  | .RECOV_W0 => ⟨.bar0, 0xfe0000, [(0x20, 4096)],
      [⟨0, 1, .rw, 0, .none⟩, ⟨1, 7, .rw, 32, .nat 1 64⟩, ⟨8, 1, .rw, 0, .none⟩, ⟨9, 1, .rw, 0, .none⟩]⟩
  | .RECOV_W1 => ⟨.bar0, 0xfe0004, [(0x20, 4096)],
      [⟨0, 16, .rw, 1000, .nat 1 65535⟩]⟩
  | .RECOV_W2 => ⟨.bar0, 0xfe0008, [(0x20, 4096)],
      [⟨0, 24, .rw, 0, .none⟩]⟩
  | .RECOV_W3 => ⟨.bar0, 0xfe000c, [(0x20, 4096)],
      [⟨0, 16, .rwh, 0, .none⟩, ⟨16, 1, .rwh, 1, .none⟩]⟩
  | .RECOV_W4 => ⟨.bar0, 0xfe0010, [(0x20, 4096)],
      [⟨0, 16, .rwh, 0, .none⟩, ⟨16, 7, .ro, 0, .none⟩]⟩
  | .RECOV_W5 => ⟨.bar0, 0xfe0014, [(0x20, 4096)],
      [⟨0, 32, .ro, 0, .none⟩]⟩
  | .RECOV_W6 => ⟨.bar0, 0xfe0018, [(0x20, 4096)],
      [⟨0, 32, .ro, 0, .none⟩]⟩
  | .PWR_STAT => ⟨.bar0, 0x10000, [],
      [⟨0, 2, .ro, 0, .none⟩, ⟨8, 6, .ro, 0, .none⟩, ⟨16, 5, .ro, 0, .none⟩, ⟨21, 1, .ro, 0, .none⟩, ⟨24, 3, .ro, 0, .none⟩, ⟨31, 1, .w1c, 0, .none⟩]⟩
  | .PWR_FAST_CMD => ⟨.bar0, 0x10004, [],
      [⟨0, 1, .sc, 0, .none⟩, ⟨1, 1, .sc, 0, .none⟩, ⟨8, 4, .ro, 0, .none⟩]⟩
  | .PWR_GATE_CFG => ⟨.bar0, 0x10008, [],
      [⟨0, 1, .rw, 1, .none⟩, ⟨1, 1, .rw, 1, .none⟩, ⟨2, 1, .rw, 1, .none⟩, ⟨3, 1, .rw, 1, .none⟩, ⟨8, 6, .rw, 1, .nat 1 32⟩, ⟨16, 16, .rw, 8192, .nat 1024 65535⟩]⟩
  | .PWR_SLEEP_CFG => ⟨.bar0, 0x1000c, [],
      [⟨0, 10, .rw, 20, .nat 1 1023⟩, ⟨16, 12, .rw, 5, .nat 1 4095⟩]⟩
  | .PWR_GATE_HOLD => ⟨.bar0, 0x10010, [],
      [⟨0, 16, .rw, 100, .nat 1 65535⟩]⟩
  | .PWR_INPUT => ⟨.bar0, 0x10014, [],
      [⟨0, 16, .ro, 0, .none⟩, ⟨16, 16, .ro, 0, .none⟩]⟩
  | .PWR_PORT_CFG => ⟨.bar0, 0x10100, [(4, 32)],
      [⟨0, 2, .rw, 0, .none⟩, ⟨2, 1, .rw, 1, .none⟩, ⟨3, 1, .rw, 1, .none⟩]⟩
  | .PWR_LAT => ⟨.bar0, 0x10200, [(0x20, 32), (4, 8)],
      [⟨0, 16, .rw, 0, .none⟩]⟩
  | .PWR_PORT_STAT => ⟨.bar0, 0x10600, [(4, 32)],
      [⟨0, 16, .ro, 0, .none⟩, ⟨16, 2, .ro, 0, .none⟩, ⟨20, 4, .ro, 0, .none⟩, ⟨24, 1, .ro, 0, .none⟩, ⟨31, 1, .w1c, 0, .none⟩]⟩
  | .GLB_ID => ⟨.bar0, 0x0, [],
      [⟨0, 4, .ro, 0, .none⟩, ⟨4, 4, .ro, 0, .none⟩]⟩
  | .GLB_SERIAL_HI => ⟨.bar0, 0x4, [],
      [⟨0, 32, .ro, 0, .none⟩]⟩
  | .GLB_SERIAL_LO => ⟨.bar0, 0x8, [],
      [⟨0, 32, .ro, 0, .none⟩]⟩
  | .GLB_BOOT_STAT => ⟨.bar0, 0x10, [],
      [⟨0, 4, .ro, 0, .none⟩, ⟨4, 1, .ro, 0, .none⟩, ⟨5, 2, .ro, 2, .none⟩, ⟨7, 1, .ro, 0, .none⟩, ⟨8, 4, .ro, 0, .none⟩, ⟨12, 1, .ro, 0, .none⟩, ⟨13, 1, .ro, 0, .none⟩, ⟨14, 2, .ro, 2, .none⟩, ⟨31, 1, .w1c, 0, .none⟩]⟩
  | .GLB_RESET => ⟨.bar0, 0x14, [],
      [⟨0, 1, .sc, 0, .none⟩, ⟨1, 1, .sc, 0, .none⟩, ⟨2, 1, .sc, 0, .none⟩, ⟨3, 1, .sc, 0, .none⟩, ⟨8, 8, .wo, 0, .none⟩, ⟨16, 4, .ro, 0, .none⟩]⟩
  | .GLB_CFG_CMD => ⟨.bar0, 0x18, [],
      [⟨0, 1, .sc, 0, .none⟩, ⟨1, 1, .sc, 0, .none⟩, ⟨2, 1, .sc, 0, .none⟩, ⟨4, 1, .rw, 0, .none⟩, ⟨8, 4, .ro, 0, .none⟩]⟩
  | .GLB_CFG_STAT => ⟨.bar0, 0x1c, [],
      [⟨0, 12, .ro, 0, .none⟩, ⟨12, 4, .ro, 0, .none⟩, ⟨16, 16, .ro, 65535, .none⟩]⟩
  | .GLB_CFG_ID => ⟨.bar0, 0x20, [],
      [⟨0, 32, .ro, 0, .none⟩]⟩
  | .GLB_CFG_FAST_ID => ⟨.bar0, 0x24, [],
      [⟨0, 32, .ro, 0, .none⟩]⟩
  | .FIRN_OCXO_STAT => ⟨.firn, 0x0, [],
      [⟨0, 1, .ro, 0, .none⟩, ⟨1, 1, .ro, 0, .none⟩, ⟨2, 1, .ro, 0, .none⟩, ⟨3, 1, .ro, 0, .none⟩, ⟨8, 10, .ro, 0, .none⟩, ⟨31, 1, .w1c, 0, .none⟩]⟩
  | .FIRN_LIFE => ⟨.firn, 0x4, [],
      [⟨0, 32, .ro, 0, .none⟩]⟩
  | .FIRN_BOOTS => ⟨.firn, 0x8, [],
      [⟨0, 32, .ro, 0, .none⟩]⟩
  | .FIRN_REFRESH_STAT => ⟨.firn, 0xc, [],
      [⟨0, 1, .ro, 0, .none⟩, ⟨1, 1, .w1c, 0, .none⟩, ⟨16, 10, .ro, 0, .none⟩]⟩
  | .UPD_CMD => ⟨.bar0, 0xc000, [],
      [⟨0, 1, .sc, 0, .none⟩, ⟨1, 1, .sc, 0, .none⟩, ⟨2, 1, .sc, 0, .none⟩, ⟨3, 1, .sc, 0, .none⟩, ⟨4, 1, .sc, 0, .none⟩, ⟨5, 1, .sc, 0, .none⟩, ⟨8, 4, .ro, 0, .none⟩]⟩
  | .UPD_CFG => ⟨.bar0, 0xc004, [],
      [⟨0, 1, .rw, 0, .none⟩, ⟨1, 1, .rw, 0, .none⟩, ⟨2, 1, .rw, 0, .none⟩, ⟨3, 1, .rw, 0, .none⟩, ⟨16, 16, .rw, 600, .nat 60 65535⟩]⟩
  | .UPD_ERASE_ADDR => ⟨.bar0, 0xc008, [],
      [⟨0, 26, .rw, 0, .none⟩]⟩
  | .UPD_STAT => ⟨.bar0, 0xc00c, [],
      [⟨0, 3, .ro, 0, .none⟩, ⟨4, 4, .ro, 0, .none⟩, ⟨8, 1, .w1c, 0, .none⟩, ⟨9, 1, .w1c, 0, .none⟩, ⟨10, 1, .ro, 0, .none⟩, ⟨12, 4, .ro, 0, .none⟩, ⟨31, 1, .w1c, 0, .none⟩]⟩
  | .UPD_CONFIRM_LEFT => ⟨.bar0, 0xc010, [],
      [⟨0, 16, .ro, 0, .none⟩]⟩
  | .UPD_IFVER0 => ⟨.bar0, 0xc014, [],
      [⟨0, 16, .ro, 0, .none⟩, ⟨16, 16, .ro, 0, .none⟩]⟩
  | .UPD_IFVER1 => ⟨.bar0, 0xc018, [],
      [⟨0, 16, .ro, 0, .none⟩, ⟨16, 16, .ro, 0, .none⟩]⟩
  | .UPD_IFVER2 => ⟨.bar0, 0xc01c, [],
      [⟨0, 16, .ro, 0, .none⟩]⟩
  | .UPD_SLOT_STAT => ⟨.bar0, 0xc020, [(4, 2)],
      [⟨0, 1, .ro, 0, .none⟩, ⟨1, 1, .ro, 0, .none⟩, ⟨2, 2, .ro, 0, .none⟩, ⟨8, 13, .ro, 0, .none⟩]⟩
  | .UPD_SLOT_ID => ⟨.bar0, 0xc028, [(4, 2)],
      [⟨0, 32, .ro, 0, .none⟩]⟩
  | .GLB_HOST_STAT => ⟨.bar0, 0x100, [],
      [⟨0, 1, .ro, 0, .none⟩, ⟨1, 3, .ro, 0, .none⟩, ⟨4, 3, .ro, 0, .none⟩, ⟨7, 1, .ro, 0, .none⟩, ⟨8, 1, .ro, 0, .none⟩, ⟨9, 1, .ro, 0, .none⟩, ⟨16, 8, .ro, 0, .none⟩, ⟨31, 1, .w1c, 0, .none⟩]⟩
  | .GLB_HOST_HB => ⟨.bar0, 0x104, [],
      [⟨0, 16, .rw, 0, .zeroOr 10 65535⟩, ⟨16, 1, .sc, 0, .none⟩, ⟨17, 1, .ro, 0, .none⟩]⟩
  | .GLB_SCRATCH => ⟨.bar0, 0x110, [(4, 4)],
      [⟨0, 32, .rw, 0, .none⟩]⟩
  | .GLB_BAD_ACC => ⟨.bar0, 0x120, [],
      [⟨0, 2, .ro, 0, .none⟩, ⟨4, 3, .ro, 0, .none⟩, ⟨31, 1, .w1c, 0, .none⟩]⟩
  | .GLB_BAD_ACC_OFS => ⟨.bar0, 0x124, [],
      [⟨0, 32, .ro, 0, .none⟩]⟩
  | .GLB_HEALTH => ⟨.bar0, 0x128, [],
      [⟨0, 16, .ro, 0, .none⟩, ⟨16, 16, .ro, 0, .none⟩]⟩
  | .IND_SPACE => ⟨.bar0, 0x1000, [],
      [⟨0, 4, .rw, 0, .none⟩]⟩
  | .IND_ADDR => ⟨.bar0, 0x1004, [],
      [⟨2, 24, .rwh, 0, .none⟩]⟩
  | .IND_DATA => ⟨.bar0, 0x1008, [],
      [⟨0, 32, .rw, 0, .none⟩]⟩
  | .IND_STAT => ⟨.bar0, 0x100c, [],
      [⟨0, 6, .ro, 0, .none⟩, ⟨6, 1, .ro, 0, .none⟩, ⟨8, 4, .w1c, 0, .none⟩]⟩
  | .IND_ERR_ADDR => ⟨.bar0, 0x1014, [],
      [⟨0, 26, .ro, 0, .none⟩, ⟨28, 4, .ro, 0, .none⟩]⟩
  | .IND_CTRL => ⟨.bar0, 0x1010, [],
      [⟨0, 1, .rw, 0, .none⟩]⟩
  | .WIDE_SEL => ⟨.bar0, 0x2000, [],
      [⟨0, 8, .rw, 0, .none⟩, ⟨16, 5, .rw, 0, .none⟩]⟩
  | .WIDE_CTRL => ⟨.bar0, 0x2004, [],
      [⟨0, 1, .sc, 0, .none⟩]⟩
  | .WIDE_STAT => ⟨.bar0, 0x2008, [],
      [⟨0, 8, .ro, 0, .none⟩, ⟨16, 5, .ro, 0, .none⟩, ⟨30, 1, .w1c, 0, .none⟩, ⟨31, 1, .ro, 0, .none⟩]⟩
  | .WIDE_D => ⟨.bar0, 0x2010, [(4, 4)],
      [⟨0, 32, .ro, 0, .none⟩]⟩
  | .MBX_MSG_OUT => ⟨.bar0, 0x4100, [(0x100, 5), (4, 16)],
      [⟨0, 32, .rw, 0, .none⟩]⟩
  | .MBX_RSP_OUT => ⟨.bar0, 0x4140, [(0x100, 5), (4, 16)],
      [⟨0, 32, .rw, 0, .none⟩]⟩
  | .MBX_MSG_IN => ⟨.bar0, 0x4900, [(0x100, 5), (4, 16)],
      [⟨0, 32, .rw, 0, .none⟩]⟩
  | .MBX_RSP_IN => ⟨.bar0, 0x4940, [(0x100, 5), (4, 16)],
      [⟨0, 32, .rw, 0, .none⟩]⟩
  | .MBX_CTL_OUT => ⟨.bar0, 0x4180, [(0x100, 5)],
      [⟨0, 7, .rw, 0, .none⟩, ⟨7, 1, .rw, 0, .none⟩, ⟨8, 7, .ro, 0, .none⟩, ⟨15, 1, .ro, 0, .none⟩]⟩
  | .MBX_CTL_IN => ⟨.bar0, 0x4980, [(0x100, 5)],
      [⟨0, 7, .ro, 0, .none⟩, ⟨7, 1, .ro, 0, .none⟩, ⟨8, 7, .rw, 0, .none⟩, ⟨15, 1, .rw, 0, .none⟩]⟩
  | .MBX_CMD_OUT => ⟨.bar0, 0x4184, [(0x100, 5)],
      [⟨0, 1, .sc, 0, .none⟩, ⟨1, 1, .sc, 0, .none⟩, ⟨2, 1, .sc, 0, .none⟩, ⟨3, 1, .sc, 0, .none⟩, ⟨4, 1, .sc, 0, .none⟩, ⟨8, 4, .ro, 0, .none⟩, ⟨16, 16, .rw, 0, .none⟩]⟩
  | .MBX_CMD_IN => ⟨.bar0, 0x4984, [(0x100, 5)],
      [⟨0, 1, .sc, 0, .none⟩, ⟨1, 1, .sc, 0, .none⟩, ⟨2, 1, .sc, 0, .none⟩, ⟨3, 1, .sc, 0, .none⟩, ⟨4, 1, .sc, 0, .none⟩, ⟨8, 4, .ro, 0, .none⟩, ⟨16, 16, .rw, 0, .none⟩]⟩
  | .MBX_STAT_OUT => ⟨.bar0, 0x4188, [(0x100, 5)],
      [⟨0, 3, .ro, 0, .none⟩, ⟨3, 1, .ro, 0, .none⟩, ⟨4, 1, .w1c, 0, .none⟩, ⟨16, 16, .ro, 0, .none⟩]⟩
  | .MBX_STAT_IN => ⟨.bar0, 0x4988, [(0x100, 5)],
      [⟨0, 3, .ro, 0, .none⟩, ⟨3, 1, .ro, 0, .none⟩, ⟨4, 1, .w1c, 0, .none⟩, ⟨16, 16, .ro, 0, .none⟩]⟩
  | .MBX_SUMMARY => ⟨.bar0, 0x5000, [],
      [⟨1, 5, .ro, 0, .none⟩, ⟨9, 5, .ro, 0, .none⟩, ⟨31, 1, .rw, 0, .none⟩]⟩
  | .MBX_HOST_CMD => ⟨.bar0, 0x5004, [],
      [⟨0, 1, .sc, 0, .none⟩]⟩
  | .RING_CTRL => ⟨.bar0, 0x8000, [],
      [⟨0, 4, .rw, 10, .nat 0 13⟩, ⟨4, 1, .rw, 0, .none⟩, ⟨5, 1, .rw, 1, .none⟩, ⟨6, 1, .rw, 0, .none⟩, ⟨7, 1, .rw, 0, .none⟩]⟩
  | .RING_STAT => ⟨.bar0, 0x8004, [],
      [⟨0, 1, .w1c, 0, .none⟩]⟩
  | .RING_HOST_BASE_LO => ⟨.bar0, 0x8010, [],
      [⟨12, 20, .rw, 0, .none⟩]⟩
  | .RING_HOST_BASE_HI => ⟨.bar0, 0x8014, [],
      [⟨0, 32, .rw, 0, .none⟩]⟩
  | .RING_HOST_ENTRIES => ⟨.bar0, 0x8018, [],
      [⟨0, 12, .rw, 2, .nat 2 4095⟩]⟩
  | .RING_HOST_HEAD => ⟨.bar0, 0x801c, [],
      [⟨0, 12, .ro, 0, .none⟩]⟩
  | .RING_HOST_TAIL => ⟨.bar0, 0x8020, [],
      [⟨0, 12, .rw, 0, .none⟩]⟩
  | .RING_AREA_ADDR => ⟨.bar0, 0x8034, [],
      [⟨0, 21, .rwh, 0, .none⟩]⟩
  | .RING_AREA_DATA => ⟨.bar0, 0x8038, [],
      [⟨0, 32, .ro, 0, .none⟩]⟩
  | .RING_TEL_CFG => ⟨.bar0, 0x8040, [],
      [⟨0, 5, .rw, 0, .none⟩, ⟨5, 3, .rw, 0, .none⟩, ⟨8, 1, .rw, 0, .none⟩, ⟨9, 1, .rw, 0, .none⟩, ⟨10, 3, .rw, 0, .none⟩, ⟨16, 12, .rw, 1, .nat 1 4094⟩]⟩
  | .RING_TEL_DA_HI => ⟨.bar0, 0x8044, [],
      [⟨0, 16, .rw, 0, .none⟩]⟩
  | .RING_TEL_DA_LO => ⟨.bar0, 0x8048, [],
      [⟨0, 32, .rw, 0, .none⟩]⟩
  | .CNT_IDX => ⟨.bar0, 0x8080, [],
      [⟨0, 12, .rw, 0, .none⟩]⟩
  | .CNT_DATA => ⟨.bar0, 0x8084, [],
      [⟨0, 32, .rwh, 0, .none⟩]⟩
  | .CNT_CFG => ⟨.bar0, 0x8088, [],
      [⟨0, 12, .rw, 0, .none⟩, ⟨16, 16, .rw, 0, .none⟩]⟩
  | .ALM_ACTIVE => ⟨.bar0, 0x3000, [(4, 2)],
      [⟨0, 32, .ro, 0, .none⟩]⟩
  | .ALM_LATCH => ⟨.bar0, 0x3008, [(4, 2)],
      [⟨0, 32, .w1c, 0, .none⟩]⟩
  | .ALM_ENABLE => ⟨.bar0, 0x3010, [(4, 2)],
      [⟨0, 32, .rw, 0xffffffff, .none⟩]⟩
  | .ALM_ROUTE => ⟨.bar0, 0x3020, [(4, 8)],
      [⟨0, 6, .rw, 0, .none⟩, ⟨8, 1, .rw, 1, .none⟩, ⟨9, 1, .rw, 1, .none⟩]⟩
  | .ALM_LOG_STAT => ⟨.bar0, 0x3040, [],
      [⟨0, 9, .ro, 0, .none⟩]⟩
  | .ALM_LOG_W => ⟨.bar0, 0x3060, [(4, 6)],
      [⟨0, 32, .ro, 0, .none⟩]⟩
  | .ALM_REEN => ⟨.bar0, 0x3080, [],
      [⟨0, 1, .sc, 0, .none⟩, ⟨8, 4, .ro, 0, .none⟩, ⟨16, 8, .rw, 0, .none⟩]⟩
  | .ALM_REEN_IDX => ⟨.bar0, 0x3084, [],
      [⟨0, 18, .rw, 0, .none⟩]⟩
  | .ST_K => ⟨.bar0, 0xd00000, [(0x80, 16384), (4, 8)],
      [⟨0, 32, .rw, 0, .none⟩]⟩
  | .ST_M => ⟨.bar0, 0xd00020, [(0x80, 16384), (4, 8)],
      [⟨0, 32, .rw, 0, .none⟩]⟩
  | .ST_A => ⟨.bar0, 0xd00040, [(0x80, 16384), (4, 4)],
      [⟨0, 32, .rw, 0, .none⟩]⟩

end Sys2Proof.Machine
end

