-- ==== Sys2Proof/Machine/State.lean ====
section
/-! DEFINITION. The state of the module: plain data. `State.dev` holds the register file and everything the chapters of
spec/ give the module beside its registers, `State.flash` the module flash (R311), `State.pending` the queue of waiting
commands. What a register of spec/ shows has its home in the register file, unless a chapter gives the resource more
than its register shows; the reader of such a register computes it (Machine/Operands.lean). -/

namespace Sys2Proof.Machine

/-- A sparse table: (key, value) pairs, keys strictly rising, no entry equal to what an unlisted key reads as. -/
abbrev Tab (α : Type) := List (Nat × α)

/-- What the part is: GLB_ID, the serial number (R1, R348) and the SMBus straps (R415). -/
structure Ident where
  variant  : Nat
  dieStep  : Nat
  serialHi : Word
  serialLo : Word
  sel0     : Bool
  sel1     : Bool
  deriving DecidableEq, Repr

/-- Holdover entry data (R60, R428): f0 in 2^-48, e0 in 2^-16 ns, the time since the entry in ms, T0 in mK; and, while
a FREQ reference suspends the model, e1 and the time since t1 in ms. -/
structure HoldData where
  f0      : Int
  e0      : Nat
  since   : Nat
  t0      : Int
  e1      : Nat
  sinceT1 : Nat
  /-- A time-capable reference is not followed: an entry has been taken and its prediction runs. -/
  entered : Bool
  /-- A FREQ reference is followed (R62). -/
  freq    : Bool
  deriving DecidableEq, Repr

/-- The time status STATE (02_device_time.md, "Time status encoding"). -/
inductive TState where | unset | acquiring | locked | holdover | jumpHeld | freerun
  deriving DecidableEq, Repr

/-- The encoding of STATE. -/
def TState.num : TState → Nat
  | .unset => 0 | .acquiring => 1 | .locked => 2 | .holdover => 3 | .jumpHeld => 4 | .freerun => 5

/-- Reference kinds (03_timebases_references.md, "Reference kinds"; TB_SERVO_STAT.KIND). -/
inductive RefKind where | ppsTod | pps | freq | portL1 | portPtp | own
  deriving DecidableEq, Repr

/-- The encoding of TB_SERVO_STAT.KIND. -/
def RefKind.num : RefKind → Nat
  | .ppsTod => 0 | .pps => 1 | .freq => 2 | .portL1 => 3 | .portPtp => 4 | .own => 5

/-- The time-capable kinds (R54, "Reference kinds"). -/
def RefKind.timeCapable : RefKind → Bool
  | .ppsTod | .pps | .portL1 | .portPtp => true
  | .freq | .own => false

/-- The state of the servo that the mirror carries from one timebase to the other (R98, "Mirrored and unmirrored
state"), with the time status word and the UTC data. -/
structure Mirrored where
  state     : TState
  traceable : Bool
  freqTrace : Bool
  slewing   : Bool
  utcValid  : Bool
  leap61    : Bool
  leap59    : Bool
  everLocked : Bool
  held      : Int
  slew      : Int
  integ     : Int
  /-- squared bandwidth in mHz² / 2^20, so that each step of R55 halves it exactly; 0 while no loop runs. -/
  bwSq      : Nat
  /-- ms of the narrowing dwell, of the lock dwell and of the 1 s above the unlock window that have passed. -/
  narrowMs  : Nat
  lockMs    : Nat
  unlockMs  : Nat
  lastPhase : Int
  hold      : HoldData
  utcOffset : Int
  /-- ms left of the 24 h after a leap in which old UTC data are not taken (R32), with the awaited offset. -/
  leapGuard : Option (Nat × Int)
  tcmdResult : Nat
  deriving DecidableEq, Repr

/-- One timebase (03_timebases_references.md, "Inside a timebase"). -/
structure Timebase where
  counter  : Ticks
  running  : Bool
  dco      : Int
  /-- DCO words of the servo updates since the last preset, newest first (R60). -/
  dcoHist  : List Int
  temp     : Int
  learnMs  : Nat
  ageing   : Int
  tempCo   : Int
  seeded   : Bool
  /-- learning time in h at the last write of the settings record (R63). -/
  savedH   : Nat
  /-- Integrator of the loop that steers a standby towards the active timebase (R91). -/
  loopInteg : Int
  /-- The FSP has declared the OCXO warm since the module reset (R314). -/
  warm     : Bool
  osc      : Bool
  deriving DecidableEq, Repr

/-- What TODIN or Announce messages tell of a reference (R31, R36, R67). -/
structure SourceData where
  utcValid  : Bool
  utcOffset : Int
  leap61    : Bool
  leap59    : Bool
  timeTrace : Bool
  freqTrace : Bool
  accuracy  : Nat
  source    : Nat
  deriving DecidableEq, Repr

/-- The RSEL monitor of one candidate (R71, R72). -/
structure Cand where
  /-- time of the last accepted or searched edge, and the misses since (R71). -/
  lastEdge   : Option Ticks
  misses     : Nat
  recent     : List Ticks
  /-- whole seconds of qualification that have run (R72). -/
  qualS      : Nat
  gates      : List Int
  retired    : Bool
  /-- 16 s mean at selection (R74). -/
  freqAtSel  : Int
  /-- offset of the candidate's time from the timebase's, 2^-16 ns, and whether one is known. -/
  offset     : Int
  hasOffset  : Bool
  /-- TODIN: SECONDS of the last accepted message, consecutive accepted messages, SEQ of the last one. -/
  lastSec    : Option Nat
  todCount   : Nat
  todSeq     : Nat
  /-- Whole seconds by which the last accepted message differs from the counter (R69). -/
  secOff     : Int
  data       : SourceData
  /-- ms without being outvoted, after a disqualification OUTVOTED (R82). -/
  notOutvoted : Option Nat
  /-- REFIN: retired taps of its time-to-digital converter, and whether a calibration of it runs (R76, R208). -/
  badTaps    : List Nat
  calRuns    : Bool
  /-- Its calibration table: the 640 bin centres in 2^-16 ns (R205); empty before the first calibration. -/
  centres    : List Nat
  deriving DecidableEq, Repr

/-- State of the selector beside its registers. -/
structure Rsel where
  wtrMs        : Nat
  pinLostTold  : Bool
  /-- The candidate whose loop runs, `none` while reference 36 is followed. -/
  follows      : Option Nat
  /-- The PPS_TOD candidate selected in UNSET that waits for its edge (R69). -/
  awaitEdge    : Bool
  /-- The kind under which the selected candidate is followed (R70: a change of kind is a new selection). -/
  kindSel      : RefKind
  /-- ms since the selection of the selected reference, and both oscillator temperatures at it (R74). -/
  selMs        : Nat
  selTempA     : Int
  selTempB     : Int
  deriving DecidableEq, Repr

/-- A journal entry of the mirror (R99): its sequence number and the mirrored state it makes. -/
structure JournalEntry where
  seq  : Nat
  post : Mirrored
  deriving DecidableEq, Repr

/-- A checkpoint buffer (R98): its sequence number and the journal sequence number it follows. -/
structure Checkpoint where
  seq  : Nat
  upTo : Nat
  post : Mirrored
  deriving DecidableEq, Repr

/-- The twin mechanism (04_twin_timebases.md). -/
structure Twin where
  active     : Option TbId
  /-- The role of the standby when the freeze began. -/
  preFreeze  : Nat
  /-- The failure has been declared and the synthesizers re-lock. -/
  relocking  : Bool
  /-- Time bus counter value at the last good beat and at the start of the freeze. -/
  lastBeat   : Ticks
  heartLine  : Bool
  heartMem   : Bool
  beatsOff   : Bool
  memCount   : Nat
  bufs       : List Checkpoint
  journal    : List JournalEntry
  nextSeq    : Nat
  cpSeq      : Nat
  verified   : Bool
  verFails   : Nat
  scratch    : Option (Mirrored × Nat × Nat)
  mirrorBad  : Bool
  x          : Int
  /-- ms for which |x| has stayed within 100 ps and 20 ps; x at the servo updates of the last second, newest first (R104). -/
  in100Ms    : Nat
  in20Ms     : Nat
  xs         : List Int
  revMs      : Option Nat
  revDue     : Bool
  /-- A handover taken by a command, a revert or a pin waits for its servo update boundary (R105). -/
  handover   : Option Nat
  /-- The final checkpoint of a handover is written and update k + 1 has not run: no heartbeat check (R106). -/
  finalCp    : Bool
  /-- The handover of step 5 of a live update has taken place (R338). -/
  updMoved   : Bool
  /-- ms without a READY standby since both OCXOs are warm (R92). -/
  notReadyMs : Nat
  deriving DecidableEq, Repr

/-- A phase step of an OSYN (R126, R127): its size and start in 2^-16 ns / 1000, its RATE, and whether it runs and is a
RESYNC. -/
structure PhaseStep where
  size   : Int
  rate   : Nat
  start  : Int
  runs   : Bool
  resync : Bool
  deriving DecidableEq, Repr

/-- A synthesizer beside SYN_STAT (R113 to R119). -/
structure Syn where
  /-- It has started and is neither stopped nor retired; W in use, and the bank of the band entry in use. -/
  runs     : Bool
  wUse     : Nat
  bank     : Nat
  /-- The REF_MODE that it started with (R112). -/
  refMode  : Nat
  /-- Held by a freeze (R118): W to be applied, an acquisition to be started. -/
  wHeld    : Option Nat
  acqHeld  : Bool
  /-- It was locked when the freeze began, and has not yet declared lock after it. -/
  rejoins  : Bool
  /-- Time of the last write within the band in use (R119). -/
  wroteAt  : Option Ticks
  step     : Option PhaseStep
  deriving DecidableEq, Repr

/-- An output beside OUT_STAT: whether its divider or schedule has started, the instant due for its first edge, an edge of
the running schedule, less what a running step has moved it by, PERIOD or PERIOD_CYC in force, a pending aligned edge T_a, the
rising and falling edge of a pulse that a write of OUT_WIDTH or OUT_PER_HI has found in progress, and, while the anchor lies
ahead, the last edge before it; instants in 2^-16 ns / 1000 (R122 to R125, R129, R131, R133). -/
structure OutSt where
  started : Bool
  due     : Option Int
  anchor  : Int
  period  : Nat
  alignAt : Option Int
  kept    : Option (Int × Int)
  prev    : Option Int
  deriving DecidableEq, Repr

/-- One mailbox channel (R373). -/
structure Chan where
  st       : Nat
  redeliv  : Bool
  msg      : List Byte
  rsp      : List Byte
  len      : Nat
  rspLen   : Nat
  ackIrq   : Bool
  postIrq  : Bool
  ackCode  : Nat
  result   : Nat
  code     : Nat
  wrRej    : Bool
  /-- LEN and ACK_IRQ as POST has read them (R403). -/
  sentLen  : Nat
  sentIrq  : Bool
  deriving DecidableEq, Repr

/-- A notice of the CP to the host (R381): INSTANCE, PORT, portState and the parent's clockIdentity. -/
structure Notice where
  inst   : Nat
  port   : Nat
  state  : Nat
  parent : BitVec 64
  deriving DecidableEq, Repr

/-- What the CP holds for the host (R381, R382): waiting notices, whether one was dropped, and the multi-part exchange
in progress: its TAG, the parts received, and the parts of the response still to be sent. -/
structure CpMail where
  notices : List Notice
  lost    : Bool
  tag     : Option Nat
  parts   : List (List Byte)
  reply   : List (List Byte)
  replyCode : Nat
  deriving DecidableEq, Repr

/-- An entry of the fault log (R401). -/
structure LogEntry where
  time   : BitVec 128
  cls    : Nat
  action : Nat
  mem    : Nat
  index  : Nat
  deriving DecidableEq, Repr

/-- A snapshot of the counters with its header (R390, R391). -/
structure Snapshot where
  k        : Nat
  flags    : Nat
  time     : BitVec 128
  seq      : Nat
  missed   : Nat
  counters : Tab Word
  /-- The chains in force (CNT_CFG), for the widths of R397. -/
  chains   : Tab Word
  deriving DecidableEq, Repr

/-- Where the latest snapshot goes, as its boundary has found RING_HOST_* and RING_TEL_* (R403): base and ENTRIES of the host
ring, HEAD and TAIL of a ring that has been given another place while the record was due, and the telemetry registers. -/
structure RingDest where
  base    : Nat
  entries : Nat
  moved   : Option (Nat × Nat)
  telCfg  : Word
  telHi   : Word
  telLo   : Word
  deriving DecidableEq, Repr
def RingDest.init : RingDest := ⟨0, 0, none, 0, 0, 0⟩

/-- The Ring dump engine (15_mailboxes_counters_alarms.md). -/
structure Ring where
  seq       : Nat
  missed    : Nat
  missedOff : Nat
  stepped   : Bool
  firnSat   : Bool
  latest    : Option Snapshot
  previous  : Option Snapshot
  /-- The rates of the counter page are valid; the latest snapshot may serve as the one before the next (R397). -/
  rates     : Bool
  ratesOk   : Bool
  /-- the dump area: slot number → record, and the next slot. -/
  area      : Tab Snapshot
  nextSlot  : Nat
  hostDue   : Bool
  telDue    : Bool
  /-- K in force, and when RING_CTRL.K was last changed (R391). -/
  kNow      : Nat
  kFrom     : Ticks
  dest      : RingDest
  deriving DecidableEq, Repr

/-- A write waiting in the indirect write queue (R362). -/
structure IndWrite where
  space : Nat
  addr  : Nat
  value : Word
  deriving DecidableEq, Repr

/-- A host access that the endpoint takes in its turn (R355): a write or a read of a BAR, or the read of a word that has a
row of its own, by its space, 16 for BAR0, and address. -/
inductive HostAcc where
  | write (w : BusWrite)
  | read (r : BusRead)
  | word (space addr : Nat)
  /-- A read of IND_DATA, whose space and address are those of its receipt (R360). -/
  | indData
  deriving DecidableEq, Repr

/-- A host read that waits (R334, R355, R362): the words read so far, the words still to be read by space and address, and
which bytes of them the host asked for. -/
structure HeldRead where
  got   : List Word
  left  : List (Nat × Nat)
  skip  : Nat
  size  : Nat
  deriving DecidableEq, Repr

/-- The PCIe endpoint beside its registers (R349 to R351, R368). -/
structure Pcie where
  ready     : Bool
  /-- MSI-X Enable and Function Mask; the bases written to the BARs, by BAR. -/
  msixOn    : Bool
  funcMask  : Bool
  bars      : Tab Nat
  /-- MSI-X vectors masked, and pending. -/
  masks     : List Nat
  pba       : List Nat
  /-- The words of the MSI-X table but for the mask bits: message addresses and data. -/
  msixTable : Tab Word
  indQueue  : List IndWrite
  /-- Accesses of the host that wait on the link, in order: for credits while the queue is full (R362), or for a read before
  them (R355). -/
  waiting   : List HostAcc
  /-- The read that waits for the queue before it, or for the flash. -/
  held      : Option HeldRead
  /-- A capture in progress: its value, code and port (R365, R366). -/
  latch     : Option (BitVec 128 × Nat × Nat)
  /-- The heartbeat count runs: TIMEOUT is not zero (R369). -/
  hbRuns    : Bool
  deriving DecidableEq, Repr

/-- How a pin is driven: not at all, at a level, or by a running clock. -/
inductive PinDrive where | hiZ | low | high | clock
  deriving DecidableEq, Repr

/-- What leaves the module, in the order in which it leaves. -/
inductive Emit where
  /-- An MSI-X message: its vector, and the address and data of its table entry. -/
  | msix (vector : Nat) (addr : Nat) (data : Word)
  /-- An access completed as an Unsupported Request (R354). -/
  | unsupported
  /-- Data returned to the host for a read, to another requester of the ring, or for a configuration read. -/
  | readData (v : Nat)
  | ringData (p : Party) (v : Nat)
  | configData (i : ConfigItem) (v : Nat)
  /-- An SMBus transaction that is answered with data and their Packet Error Code, or not acknowledged. -/
  | smbData (v : Word) (pec : Byte)
  | smbNack
  /-- A Ring record written to host memory at an address (R393). -/
  | hostRecord (addr : Nat) (s : Snapshot)
  /-- The drive of a TIO pin changes otherwise than by an edge of a schedule (R200, R216, R220 to R222). -/
  | tioPin (ch : Nat) (t : Ticks) (drive : PinDrive)
  /-- A frame leaving at a port; a frame that a port up in loop sends to itself (R145). -/
  | frame (port : Nat) (bytes : List Byte)
  | looped (port : Nat) (bytes : List Byte)
  /-- A frame of the module's own that is not placed in a queue of frames: a PTP message, by type, with its fields. -/
  | ptp (port : Nat) (msgType : Nat) (m : PtpMsg)
  | announce (port : Nat) (m : PtpMsg) (d : AnnounceData)
  /-- The rising edge of a clock or pulse output, and the falling edge of a pulse; an edge of a TIO channel at its pin, with
  the level after it. -/
  | outEdge (out : Nat) (t : Ticks) (fall : Option Ticks)
  | tioEdge (ch : Nat) (t launch : Ticks) (high : Bool)
  /-- A mailbox notice to a processor: channel and new state. -/
  | mbxNotice (src dst : Nat) (st : Nat)
  deriving DecidableEq, Repr

/-- What the module itself puts into a queue of a port: a HELLO or a SLEEP_NOTICE of a depth (R159, R151), or a part of
a Ring dump (R395). -/
inductive OwnKind where
  | none
  | hello
  | notice (depth : Nat)
  | telemetry
  deriving DecidableEq, Repr

/-- A link of a stored frame into an egress queue (R245): the charged length on that port (R262), the deadline of a
bounded class, the predicted start and ready(f) in 2^-16 ns / 25 (R287, R288), and, of a mirror copy, its TRUNC (R252). -/
structure Link where
  fid      : Nat
  lc       : Nat
  deadline : Option Int
  start    : Int
  ready    : Int
  copy     : Option Nat
  /-- Cut-through to the port is permitted, as step 12 has read it (R246, R261). -/
  ct       : Bool
  /-- The place in its queue that a bounded store-and-forward frame has been admitted to: it is linked there once its
  verdict is known to be good (R248, R288). -/
  waits    : Bool
  relinked : Bool
  deriving DecidableEq, Repr

/-- A mirror copy requested (R250): its session, and DEST_PORT, TC and TRUNC as its candidate found them (R261). -/
structure MirCopy where
  session : Nat
  dest    : Nat
  tc      : Nat
  trunc   : Nat
  deriving DecidableEq, Repr

/-- A frame and its descriptor (09_switch_core.md, "The shared buffer"; R262). -/
structure Stored where
  inPort   : Nat
  own      : OwnKind
  bytes    : List Byte
  /-- The last byte has arrived and the verdict is known; the frame is bad. -/
  done     : Bool
  bad      : Bool
  base     : Nat
  vid      : Nat
  pcp      : Nat
  tagged   : Bool
  /-- UNTAG of the VLAN entry as step 4 read it. -/
  untag    : Nat
  dests    : List Nat
  cls      : Nat
  colour   : Nat
  deiMark  : Bool
  rtag     : Option Nat
  popRtag  : Bool
  /-- A PTP message that a transparent instance forwards (R185). -/
  transit  : Bool
  tRx      : Ticks
  cells    : List Nat
  refs     : Nat
  charge   : Nat
  res      : Bool
  /-- Audit pass at allocation, and consecutive passes that found the frame held by nothing (R258). -/
  born     : Nat
  unreached : Nat
  /-- Its SA is to be learned at the verdict (R232). -/
  learn    : Bool
  /-- Mirror copies requested (R250). -/
  copies   : List MirCopy
  /-- Store-and-forward links that wait for the verdict (R246, R248): port, class, link. -/
  waiting  : List (Nat × Nat × Link)
  /-- MAX_FRAME of the ingress port when the frame began to arrive (R198). -/
  maxFrame : Nat
  deriving DecidableEq, Repr

/-- The frame in transmission on a port (R247): its link, class and end in 2^-16 ns / 25, t_TX with the DTIME of its latching
(R28), whether it must end as a bad tail, and the number of cells after which a broken pointer ends it (R254). -/
structure TxNow where
  link : Link
  cls  : Nat
  ends : Int
  tTx  : Ticks
  stamp : BitVec 128
  bad  : Bool
  ct   : Bool
  cut  : Option Nat
  deriving DecidableEq, Repr

/-- A frame held by resequencing recovery (R272): instance, sequence number, frame, and the end of its hold. -/
structure Hold where
  inst  : Nat
  seq   : Nat
  fid   : Nat
  until_ : Ticks
  deriving DecidableEq, Repr

/-- The switch core and the queues beside their registers and tables (09_switch_core.md, 10_queues_bounded_delivery.md). -/
structure Switch where
  frames    : Tab (Option Stored)
  nextFid   : Nat
  queues    : Tab (List Link)
  tails     : Tab Int
  deficits  : Tab Nat
  /-- deficit round robin: the class visited and whether it has had its quantum on this visit (R280). -/
  drr       : Tab (Nat × Bool)
  redAvg    : Tab Int
  rx        : Tab (Option Nat)
  tx        : Tab (Option TxNow)
  holds     : List Hold
  retired   : List Nat
  /-- Cells to be retired when their frame releases them (R253, R259). -/
  doomed    : List Nat
  badWords  : Nat
  /-- A FLUSH of the FDB sweeps (R236). -/
  flushing  : Bool
  /-- Retired table entries (R257): re-enable class and index. -/
  badTbl    : List (Nat × Nat)
  mirCount  : Tab Nat
  mirCredit : Nat
  /-- Bank accesses granted to cell writes and reads that no cycle has yet had room for (R243, R251). -/
  slots     : Nat
  /-- Meters: both levels in bytes × 2^-16 ns × 10^6, and the uptime at which they held. -/
  meters    : Tab (Nat × Nat × Nat)
  /-- Stream gates: the open window in which octets were last counted, and their number (R266). -/
  gateOct   : Tab (Int × Nat)
  passes    : Nat
  /-- N_req as last computed (R305, R306). -/
  nReq      : Nat
  deriving DecidableEq, Repr

/-- A port beside its registers: bring-up, sleep and discovery (06_serial_lanes.md, 11_power_and_wake.md). -/
structure Port where
  /-- up in loop (R145). -/
  inLoop    : Bool
  /-- Time counter at the first start of the bring-up in progress, for LAST_US. -/
  bringFrom : Ticks
  /-- Depth and ENTRY_TIME of a sleep entry agreed in each direction (R151). -/
  txDepth   : Nat
  txEntry   : Option Ticks
  rxDepth   : Nat
  rxEntry   : Option Ticks
  /-- The lane PLL has been restarted for a burst (R152). -/
  txLead    : Bool
  rxLead    : Bool
  /-- Consecutive bursts missed (R153). -/
  missed    : Nat
  /-- Time at which the direction last became idle; how long the idle period before lasted (R300). -/
  idleFrom  : Option Ticks
  idleSpan  : Ticks
  /-- A deepening wake is in progress: a notice naming DEEP follows (R300). -/
  deepens   : Bool
  helloSeq  : Nat
  helloDue  : Bool
  /-- DEGRADE_CW as the 1 ms window in progress has read it (R163). -/
  degradeCw : Nat
  deriving DecidableEq, Repr

/-- A two-step Sync that awaits its Follow_Up (R189): sequenceId, t2, correctionField, whether it fell in a freeze, and the
phase track at t2 where the beat was locked (R176). -/
structure SyncWait where
  seq    : Nat
  t2     : Ticks
  corr   : Int
  frozen : Bool
  track  : Option Int
  deriving DecidableEq, Repr

/-- A PTP message that wakes its direction and leaves after the wake guard (R173, R196): the requests that responses answer
with their receive timestamps, and the captures at the messages' departure. -/
inductive PtpDue where
  | sync (c : Capture)
  | followUp
  | announce
  | delayReq (c : Capture)
  | delayResp (m : PtpMsg) (t4 : Ticks)
  | pdelayResp (m : PtpMsg) (t2 : Ticks) (c : Capture)
  | signal (m : PtpMsg) (target tlvs : List Byte)
  deriving DecidableEq, Repr

/-- The port time unit of a port and its PTP (07_port_time_transfer.md). -/
structure PtuPort where
  /-- latencies in 1/64 UI (R171). -/
  rxMeas    : Nat
  txMeas    : Nat
  phiRx     : Nat
  phiTx     : Nat
  /-- The unwrapped phase track Φ in 6.4 ns / 2^14, and its value and θ_PTP at the anchoring Sync (R176). -/
  track     : Int
  tracked   : Bool
  trackAt   : Int
  anchored  : Bool
  theta     : Int
  /-- Delay samples, newest first; consecutive discards; the mean in use, in 2^-16 ns (R179). -/
  delays    : List Int
  rejects   : Nat
  mean      : Int
  /-- neighborRateRatio − 1 in 2^-48. -/
  nrr       : Int
  /-- Receive and transmit timestamp of the last PTP event message. -/
  tRxLast   : BitVec 128
  tTxLast   : BitVec 128
  /-- The last Sync with its origin time known: t1 and t2 (R179); a two-step Sync that awaits its Follow_Up. -/
  syncTimes : Option (Int × Int)
  syncWait  : Option SyncWait
  /-- The delay request sent: sequenceId and t3; a two-step Pdelay_Resp: sequenceId, the partner's t2 less its correction,
  and t4. -/
  req       : Option (Nat × Ticks)
  presp     : Option (Nat × Int × Ticks)
  /-- A two-step Sync sent, awaiting its Follow_Up: sequenceId and t_TX. -/
  followTx  : Option (Nat × Ticks)
  seqSync   : Nat
  seqReq    : Nat
  seqAnn    : Nat
  /-- The partner's latest Announce, and whether it is valid (R70). -/
  announce  : Option (PtpMsg × AnnounceData)
  /-- The Announce content last sent on the port (R196). -/
  annSent   : Option AnnounceData
  /-- Unicast grants to the partner and from it, by messageType (G.8275.2); L1_SYNC configured by the partner, and the two
  bytes of its latest L1_SYNC TLV (R181). -/
  grants    : List Nat
  held      : List Nat
  l1Sync    : Bool
  l1Peer    : Option (Nat × Nat)
  /-- Reversal procedure (R192, R193): measurements, window midpoints, sum and count of the window in progress, whether the
  port has gone down since the step began, REV_AVG and the measurements taken. -/
  revO      : List Int
  revT      : List Ticks
  revSum    : Int
  revN      : Nat
  revDown   : Bool
  revFrom   : Ticks
  revAvg    : Nat
  /-- portState last told to the host (R381). -/
  told      : Nat
  /-- Time since which every Announce of the partner has had one grandmasterIdentity and clockQuality (R46); the Sync or
  the Announce receipt timeout has expired (R70); partner time and own time of the last peer delay response (R181). -/
  steadyFrom : Ticks
  syncLate  : Bool
  annLate   : Bool
  lastPd    : Option (Int × Int)
  /-- Messages of the CP that wait for the end of a wake guard, oldest first (R173, R196). -/
  due       : List PtpDue
  deriving DecidableEq, Repr

/-- A PTP instance (R180): whether it exists, its kind (0 CLOCK, 1 TC_E2E, 2 TC_P2P), profile and domain, and the data set
values that MANAGEMENT messages and the configuration image have set (R182), by managementId. -/
structure PtpInst where
  made    : Bool
  kind    : Nat
  profile : Nat
  domain  : Nat
  sets    : List (Nat × List Byte)
  deriving DecidableEq, Repr

/-- A record of a TIO channel (R215), W0 in its fields. -/
structure TioRec where
  seq    : Nat
  type   : Nat
  status : Nat
  flags  : Nat
  time   : BitVec 128
  result : Int
  count  : Nat
  deriving DecidableEq, Repr

/-- An edge that a measurement has taken: time in 2^-16 ns, polarity, and the DTIME of the edge. -/
structure TioEdge where
  time   : Ticks
  rising : Bool
  stamp  : BitVec 128
  deriving DecidableEq, Repr

/-- An armed measurement (R211): its mode and the settings read at arming, the first and latest edges taken, and the
number of edges taken after the first. -/
structure TioMeas where
  mode    : Nat
  stopCh  : Nat
  stopRising : Bool
  avg     : Nat
  gate    : Nat
  repeats : Bool
  first   : Option TioEdge
  last    : Option TioEdge
  stop    : Option TioEdge
  n       : Nat
  frozen  : Bool
  deriving DecidableEq, Repr

/-- A schedule of a TIO output (R216): times in ps, edges sent so far, and whether it is pending work (R218). -/
structure TioSched where
  start   : Int
  period  : Nat
  width   : Nat
  count   : Nat
  sent    : Nat
  high    : Bool
  /-- Its source, and of an EDGE schedule the trigger channel (R217, R219). -/
  src     : Nat
  trigCh  : Nat
  pendingWork : Bool
  /-- OUT_EXT as read at START, in ps. -/
  ext     : Nat
  deriving DecidableEq, Repr

/-- An armed EDGE trigger with the settings read at START (R217, R219). -/
structure TioTrig where
  ch      : Nat
  delay   : Nat
  rearm   : Bool
  period  : Nat
  width   : Nat
  count   : Nat
  ext     : Nat
  deriving DecidableEq, Repr

/-- A TIO channel beside its registers (08_time_io.md). -/
structure Tio where
  fifo     : List TioRec
  badSlots : Nat
  seq      : Nat
  loss     : Bool
  lostEdge : Bool
  stepSeen : Bool
  /-- End of the hold-off; last detected transition (R204). -/
  heldTo   : Option Ticks
  lastAny  : Option Ticks
  /-- A NO_EDGE record has been made since the last accepted edge, and TIMEOUT as the wait in progress has read it (R210, R222). -/
  noEdge   : Bool
  noEdgeUs : Nat
  badTaps  : List Nat
  /-- The calibration table: the 640 bin centres in 2^-16 ns (R205); empty before the first calibration. -/
  centres  : List Nat
  /-- Enabled since the last loss of the sample clock (R214). -/
  live     : Bool
  meas     : Option TioMeas
  sched    : Option TioSched
  trig     : Option TioTrig
  lastTime : BitVec 128
  deriving DecidableEq, Repr

/-- The firmware images that run (R331, R346): bundle slot of each, and the interface versions and accepted ranges. -/
structure Image where
  ifVer   : Nat
  version : Nat
  accepts : List (Nat × Nat)
  deriving DecidableEq, Repr

/-- Start-up, update and power state beside the registers (11 to 14_*.md, 16_module_hardware.md). -/
structure Sys where
  /-- Every rail is in regulation; conversion is enabled; the thermal trip holds it off (R423); RESET_N is held low. -/
  powered   : Bool
  enabled   : Bool
  tripped   : Bool
  held      : Bool
  /-- Clock cycles left until the module reset of GLB_RESET.FULL (R318). -/
  fullIn    : Option Nat
  /-- The images of the bundle that runs, by TYPE (0 FSP, 1 TBP, 2 SMC, 3 CP), and the TBP image of Timebase B. -/
  images    : List Image
  tbpB      : Option Image
  /-- The RESULT to come of the configuration command that runs (R325). -/
  cfgRun    : Option Nat
  /-- BOOT_POLICY.FAST_START of the image whose Firn records are in force. -/
  fastStartDirected : Bool
  /-- Writes that the application of configuration records has refused or ignored (R323): space (16 for BAR0), address. -/
  cfgLog    : List (Nat × Nat)
  /-- NVM page buffer: its page address and bytes; the page being programmed; the sector being erased (R334). -/
  page      : Option (Nat × List (Nat × Byte))
  progPage  : Option (Nat × List (Nat × Byte))
  eraseAt   : Option Nat
  /-- An ERASE, a FLUSH or a live ACTIVATE runs whose end is still to be reported in UPD_CMD.RESULT (R347). -/
  updRuns   : Bool
  /-- The step of a live update or live fallback that runs, 2 to 7 (R338), its direction, and the clock cycles left of the
  confirm window. -/
  updStep   : Nat
  updBack   : Bool
  winLeft   : Nat
  /-- A carry-over record waits to be taken (R339); the CP, the SMC are stopped; a new CP has to take over (R341). -/
  carryover : Bool
  cpStopped : Bool
  smcStopped : Bool
  newCpWait : Bool
  /-- The settings record in force, highest die temperature seen, REFRESH_HOURS (R327, R329). -/
  settings  : List Byte
  tempMax   : Int
  refreshH  : Nat
  dieTemp   : Int
  /-- Slices and CP cores that the FSP holds gated (R307, R308), and LPLLs stopped by R302. -/
  slicesOff : Nat
  coresOff  : Nat
  lpllOff   : Nat
  /-- The 900 s allowances for the warm declaration run (R314). -/
  warmRunsA : Bool
  warmRunsB : Bool
  /-- PERST_N is asserted. -/
  perst     : Bool
  /-- An NVM word that the SMBus target writes or reads and that R334 holds (R370). -/
  smbWrite  : Option (Nat × Word)
  smbRead   : Option Nat
  deriving DecidableEq, Repr

/-! ## Values after power-up -/

/-- No entry taken. -/
def HoldData.init : HoldData := ⟨0, 0, 0, 0, 0, 0, false, false⟩

/-- UNSET, nothing followed (R18). -/
def Mirrored.init : Mirrored where
  state := .unset
  traceable := false
  freqTrace := false
  slewing := false
  utcValid := false
  leap61 := false
  leap59 := false
  everLocked := false
  held := 0
  slew := 0
  integ := 0
  bwSq := 0
  narrowMs := 0
  lockMs := 0
  unlockMs := 0
  lastPhase := 0
  hold := .init
  utcOffset := 0
  leapGuard := none
  tcmdResult := 0

/-- A cold timebase: its counter at zero (R313, 02_device_time.md "Time status encoding": runs from zero). -/
def Timebase.init : Timebase where
  counter := 0
  running := false
  dco := 0
  dcoHist := []
  temp := 0
  learnMs := 0
  ageing := 0
  tempCo := 0
  seeded := false
  savedH := 0
  loopInteg := 0
  warm := false
  osc := false

/-- No source has spoken. -/
def SourceData.init : SourceData := ⟨false, 0, false, false, false, false, 0xFE, 0xA0⟩

/-- A candidate not yet seen. -/
def Cand.init : Cand where
  lastEdge := none
  misses := 0
  recent := []
  qualS := 0
  gates := []
  retired := false
  freqAtSel := 0
  offset := 0
  hasOffset := false
  lastSec := none
  todCount := 0
  todSeq := 0
  secOff := 0
  data := .init
  notOutvoted := none
  badTaps := []
  calRuns := false
  centres := []

/-- Reference 36 is selected and nothing is followed. -/
def Rsel.init : Rsel := ⟨0, false, none, false, .own, 0, 0, 0⟩

/-- Before a timebase is ACTIVE (R89). -/
def Twin.init : Twin where
  active := none
  preFreeze := 0
  relocking := false
  lastBeat := 0
  heartLine := false
  heartMem := false
  beatsOff := false
  memCount := 0
  bufs := []
  journal := []
  nextSeq := 0
  cpSeq := 0
  verified := false
  verFails := 0
  scratch := none
  mirrorBad := false
  x := 0
  in100Ms := 0
  in20Ms := 0
  xs := []
  revMs := none
  revDue := false
  handover := none
  finalCp := false
  updMoved := false
  notReadyMs := 0

def Syn.init : Syn := ⟨false, 0, 0, 1, none, false, false, none, none⟩

def OutSt.init : OutSt := ⟨false, none, 0, 0, none, none, none⟩

/-- A FREE channel (R378, power cycle). -/
def Chan.init : Chan := ⟨0, false, [], [], 0, 0, false, false, 0, 0, 0, false, 0, false⟩

def CpMail.init : CpMail := ⟨[], false, none, [], [], 0⟩

def Ring.init : Ring := ⟨0, 0, 0, false, false, none, none, false, false, [], 0, false, false, 10, 0, RingDest.init⟩

def Pcie.init : Pcie where
  ready := false
  msixOn := false
  funcMask := false
  bars := []
  masks := List.range 64
  pba := []
  msixTable := []
  indQueue := []
  waiting := []
  held := none
  latch := none
  hbRuns := false

/-- An empty buffer: no frame, every cell free (R242). -/
def Switch.init : Switch where
  frames := []
  nextFid := 0
  queues := []
  tails := []
  deficits := []
  drr := []
  redAvg := []
  rx := []
  tx := []
  holds := []
  retired := []
  doomed := []
  badWords := 0
  flushing := false
  badTbl := []
  mirCount := []
  mirCredit := 0
  slots := 0
  meters := []
  gateOct := []
  passes := 0
  nReq := 0

def Port.init : Port := ⟨false, 0, 0, none, 0, none, false, false, 0, none, 0, false, 0, false, 16⟩

def PtuPort.init : PtuPort where
  rxMeas := 0
  txMeas := 0
  phiRx := 0
  phiTx := 0
  track := 0
  tracked := false
  trackAt := 0
  anchored := false
  theta := 0
  delays := []
  rejects := 0
  mean := 0
  nrr := 0
  tRxLast := 0
  tTxLast := 0
  syncTimes := none
  syncWait := none
  req := none
  presp := none
  followTx := none
  seqSync := 0
  seqReq := 0
  seqAnn := 0
  announce := none
  annSent := none
  grants := []
  held := []
  l1Sync := false
  l1Peer := none
  revO := []
  revT := []
  revSum := 0
  revN := 0
  revDown := false
  revFrom := 0
  revAvg := 0
  told := 3
  steadyFrom := 0
  syncLate := false
  annLate := false
  lastPd := none
  due := []

def PtpInst.init : PtpInst := ⟨false, 0, 0, 0, []⟩

def Tio.init : Tio where
  fifo := []
  badSlots := 0
  seq := 0
  loss := false
  lostEdge := false
  stepSeen := false
  heldTo := none
  lastAny := none
  noEdge := false
  noEdgeUs := 0
  badTaps := []
  centres := []
  live := false
  meas := none
  sched := none
  trig := none
  lastTime := 0

/-- No power, nothing loaded. -/
def Sys.init : Sys where
  powered := false
  enabled := false
  tripped := false
  held := false
  fullIn := none
  images := []
  tbpB := none
  cfgRun := none
  fastStartDirected := false
  cfgLog := []
  page := none
  progPage := none
  eraseAt := none
  updRuns := false
  updStep := 0
  updBack := false
  winLeft := 0
  carryover := false
  cpStopped := false
  smcStopped := false
  newCpWait := false
  settings := []
  tempMax := 0
  refreshH := 0
  dieTemp := 0
  slicesOff := 0
  coresOff := 0
  lpllOff := 0
  warmRunsA := false
  warmRunsB := false
  perst := false
  smbWrite := none
  smbRead := none

/-- The device: everything but the flash and the queue of commands. -/
structure Dev where
  ident    : Ident
  regs     : Tab Word
  /-- Registers whose writes act at a servo update, as the latest servo update has read them (R50, R88, R110). -/
  applied  : Tab Word
  tbA      : Timebase
  tbB      : Timebase
  mir      : Mirrored
  rsel     : Rsel
  cands    : Tab Cand
  twin     : Twin
  syns     : Tab Syn
  outs     : Tab OutSt
  chans    : Tab Chan
  cpMail   : CpMail
  counters : Tab Word
  cntCfg   : Tab Word
  latches  : Tab Nat
  ring     : Ring
  log      : List LogEntry
  pcie     : Pcie
  sw       : Switch
  ports    : Tab Port
  ptus     : Tab PtuPort
  insts    : Tab PtpInst
  tio      : Tab Tio
  sys      : Sys
  sent     : List Emit
  /-- The model's own counter of free choices (Config.freeNat); no statement rests on its value. -/
  freeCtr  : Nat
  /-- Timebase clock cycles since power-up, for the ticks of an empty queue. -/
  cycles   : Nat
  deriving DecidableEq, Repr

/-- The state of the module and the commands that wait for it, first in, first out. -/
structure State where
  dev     : Dev
  flash   : List Host.Cell
  pending : List Instr
  deriving DecidableEq, Repr

/-- No command ends in a fault: every operand names a resource of the map (Fin operands), and what the spec refuses it
answers by a result code. The type is closed and has no constructor. -/
inductive Fault
  deriving DecidableEq, Repr

/-- Why a command has no meaning. -/
inductive Refusal where
  /-- Raised by `exec` for a command that is not modelled yet; safe. -/
  | notModelled (mnemonic : String)
  deriving DecidableEq, Repr

/-- A factory part: variant XM3248-H, serial number 0 (each part's own data; no statement rests on them). -/
def Ident.init : Ident := ⟨2, 0, 0, 0, false, false⟩

/-- The device at power-up: every register at its Reset value (an empty register file), every timebase cold. -/
def Dev.reset : Dev where
  ident := .init
  regs := []
  applied := []
  tbA := .init
  tbB := .init
  mir := .init
  rsel := .init
  cands := []
  twin := .init
  syns := []
  outs := []
  chans := []
  cpMail := .init
  counters := []
  cntCfg := []
  latches := []
  ring := .init
  log := []
  pcie := .init
  sw := .init
  ports := []
  ptus := []
  insts := []
  tio := []
  sys := .init
  sent := []
  freeCtr := 0
  cycles := 0

/-- The module right after power-up: flash blank, no command waiting. -/
def State.reset : State := ⟨.reset, [], []⟩

end Sys2Proof.Machine
end

