-- ==== Sys2Proof/Machine/Ops.lean ====
section
/-! DEFINITION. The named operations over the state: sparse tables, the register file and its fields, timebases and the
time of the module. Every meaning reads and writes the state through these. -/

namespace Sys2Proof.Machine

/-! ## Sparse tables -/

/-- What a table holds at a key; an unlisted key reads as `d`. -/
def tabGet {α : Type} (t : Tab α) (d : α) (k : Nat) : α :=
  match t with
  | [] => d
  | (k', v) :: rest => if k' = k then v else tabGet rest d k

/-- A table without a key. -/
def tabErase {α : Type} (t : Tab α) (k : Nat) : Tab α :=
  match t with
  | [] => []
  | (k', v) :: rest => if k' = k then tabErase rest k else (k', v) :: tabErase rest k

/-- A table with a key put in its place. -/
def tabInsert {α : Type} (t : Tab α) (k : Nat) (v : α) : Tab α :=
  match t with
  | [] => [(k, v)]
  | (k', v') :: rest =>
    if k < k' then (k, v) :: (k', v') :: rest
    else if k' = k then (k, v) :: rest
    else (k', v') :: tabInsert rest k v

/-- Writes a key of a table, keeping the canonical form: a value equal to what the key reads unlisted is not listed. -/
def tabSet {α : Type} [DecidableEq α] (t : Tab α) (d : α) (k : Nat) (v : α) : Tab α :=
  if v = d then tabErase t k else tabInsert t k v

/-- The keys of a table rise strictly from a bound, and no entry equals `d`. -/
def tabWfFrom {α : Type} [DecidableEq α] (d : α) : Option Nat → Tab α → Bool
  | _, [] => true
  | b, (k, v) :: rest =>
    (match b with | none => true | some m => decide (m < k)) && decide (v ≠ d) && tabWfFrom d (some k) rest

/-- What an unlisted address of the flash reads as: 0xFF, the erased state (R334), but in the factory region what Forael
has written there, two identical copies of 448 KiB (R311). -/
def flashDefault (a : Nat) : Byte :=
  if 0x20000 ≤ a ∧ a < 0x100000 then Config.factoryByte ((a - 0x20000) % 0x70000) else 0xFF

/-- The canonical form of the flash: addresses strictly rising, no byte listed that its address reads unlisted. -/
def flashWfFrom : Option Nat → List Host.Cell → Bool
  | _, [] => true
  | b, (a, v) :: rest =>
    (match b with | none => true | some m => decide (m < a)) && decide (v ≠ flashDefault a) && flashWfFrom (some a) rest
def Memory.wf (m : List Host.Cell) : Bool := flashWfFrom none m

/-- A byte of the flash. -/
def flashByte (m : List Host.Cell) (a : Nat) : Byte := tabGet m (flashDefault a) a

/-- The flash with one byte written. -/
def flashSet (m : List Host.Cell) (a : Nat) (b : Byte) : List Host.Cell := tabSet m (flashDefault a) a b

/-- The flash with `n` bytes from an address on erased (R334). -/
def flashErase (m : List Host.Cell) (a n : Nat) : List Host.Cell := m.filter (fun (c : Host.Cell) => !(a ≤ c.1 && c.1 < a + n))

/-- `n` bytes of the flash from an address. -/
def flashBytes (m : List Host.Cell) (a : Nat) : Nat → List Byte
  | 0 => []
  | n + 1 => flashByte m a :: flashBytes m (a + 1) n

/-- The flash with bytes written from an address on. -/
def flashWrite (m : List Host.Cell) (a : Nat) : List Byte → List Host.Cell
  | [] => m
  | b :: bs => flashWrite (flashSet m a b) (a + 1) bs

/-! ## Words and fields -/

/-- A word with a field replaced by the low bits of a value. -/
def putBits (w : Word) (lo width v : Nat) : Word :=
  BitVec.ofNat 32 (w.toNat / 2 ^ (lo + width) * 2 ^ (lo + width) + v % 2 ^ width * 2 ^ lo + w.toNat % 2 ^ lo)

/-- The reset word of a field list (the Reset column, R7). -/
def resetOf : List FieldSpec → Word
  | [] => 0
  | f :: fs => putBits (resetOf fs) f.lo f.width f.reset

/-- The frequency word W of each synthesizer after reset (R111): the VCO frequency over 100 MHz, in 2^-40, R113. -/
def synResetW (u : Nat) : Nat :=
  if u = 4 then 5400 * 2 ^ 40 / 100
  else if 5 ≤ u ∧ u ≤ 8 then 515625 * 2 ^ 40 / 10000
  else if u = 9 then 5000 * 2 ^ 40 / 100
  else 0

/-- The reset word of a register (R7): that of its fields, but for the few whose Reset column names a rule. -/
def Reg.resetWord (r : Reg) (u : Nat) : Word :=
  match r with
  | .ALM_ENABLE => if u = 1 then 0x1FF else 0xFFFFFFFF
  | .ALM_ROUTE => putBits (resetOf r.spec.fields) 0 6 u
  | .SYN_FREQ_LO => BitVec.ofNat 32 (synResetW u)
  | .SYN_FREQ_HI => BitVec.ofNat 32 (synResetW u / 2 ^ 32)
  | _ => resetOf r.spec.fields

/-- The whole part of a square root, bit by bit from bit `k` down. -/
def isqrtFrom (n r : Nat) : Nat → Nat
  | 0 => r
  | k + 1 => isqrtFrom n (if (r + 2 ^ k) * (r + 2 ^ k) ≤ n then r + 2 ^ k else r) k
def isqrt (n : Nat) : Nat := isqrtFrom n 0 (n.log2 / 2 + 1)

/-- The key of a register and unit in the register file. -/
def regKey (r : Reg) (u : Nat) : Nat := u * 512 + r.ctorIdx

/-- The units of a register that the register file lists, in order. -/
def unitsOf (t : Tab Word) (r : Reg) : List Nat := (t.filter (fun e => e.1 % 512 == r.ctorIdx)).map (fun e => e.1 / 512)

/-- What the register file holds for a register and unit. -/
def fileGet (t : Tab Word) (r : Reg) (u : Nat) : Word := tabGet t (r.resetWord u) (regKey r u)

/-- The register file with a word written. -/
def fileSet (t : Tab Word) (r : Reg) (u : Nat) (w : Word) : Tab Word := tabSet t (r.resetWord u) (regKey r u) w

/-- The stored word of a register. -/
def Dev.word (d : Dev) (r : Reg) (u : Nat := 0) : Word := fileGet d.regs r u

/-- Stores a word of a register. -/
def Dev.setWord (d : Dev) (r : Reg) (u : Nat) (w : Word) : Dev := { d with regs := fileSet d.regs r u w }

/-- The stored value of a field. -/
def Dev.get (d : Dev) (f : Fld) (u : Nat := 0) : Nat := bitsOf (d.word f.reg u).toNat f.lo f.width

/-- The registers whose writes act at a servo update: those of RSEL, and of a timebase's space (R50, R86, R88, R110). -/
def Reg.atUpdate : Reg → Bool
  | .RSEL_CFG | .RSEL_LIMITS | .RSEL_DISAGREE | .RSEL_CMD | .RSEL_REFIN_CFG | .RSEL_PRIO | .RSEL_CAND_CFG
  | .TB_JUMP_CFG | .TB_TWIN_CFG => true
  | _ => false

/-- The value of a field as the latest servo update has read it: a write to such a register acts from the next one on
(R50, R88, R110). -/
def Dev.inForce (d : Dev) (f : Fld) (u : Nat := 0) : Nat := bitsOf (fileGet d.applied f.reg u).toNat f.lo f.width

/-- Whether a one-bit field was set as the latest servo update read it. -/
def Dev.inForceFlag (d : Dev) (f : Fld) (u : Nat := 0) : Bool := d.inForce f u == 1

/-- Stores a field, leaving the register's other bits. -/
def Dev.set (d : Dev) (f : Fld) (v : Nat) (u : Nat := 0) : Dev :=
  d.setWord f.reg u (putBits (d.word f.reg u) f.lo f.width v)

/-- Whether a one-bit field is set. -/
def Dev.flag (d : Dev) (f : Fld) (u : Nat := 0) : Bool := d.get f u == 1

/-- Stores a one-bit field. -/
def Dev.setB (d : Dev) (f : Fld) (b : Bool) (u : Nat := 0) : Dev := d.set f (bitNat b) u

/-- Stores a one-bit field `ch` as well when a field changes value (a CHANGED or EVENT flag of the status). -/
def Dev.setMark (d : Dev) (f : Fld) (v : Nat) (ch : Fld) (u : Nat := 0) : Dev :=
  if d.get f u = v % 2 ^ f.width then d else (d.set f v u).set ch 1 u

/-- Applies an operation where a condition holds. -/
def Dev.when (d : Dev) (c : Bool) (f : Dev → Dev) : Dev := if c then f d else d

/-- Applies an operation for each element of a list, in order. -/
def Dev.each {α : Type} (d : Dev) (l : List α) (f : Dev → α → Dev) : Dev := l.foldl f d

/-- Records what leaves the module. -/
def Dev.emit (d : Dev) (e : Emit) : Dev := { d with sent := d.sent ++ [e] }

/-- A fresh free value for a choice the spec leaves open; `Dev.spendFree` goes with it. -/
def Dev.freeVal (d : Dev) : Nat := Config.freeNat d.freeCtr

/-- Advances the counter of free choices. -/
def Dev.spendFree (d : Dev) : Dev := { d with freeCtr := d.freeCtr + 1 }

/-! ## The machine around the block -/

/-- The state with its device part changed; flash and queue stay. -/
def State.onDev (s : State) (f : Dev → Dev) : State := { s with dev := f s.dev }

/-- Whether the variant is XM1624-S (R1). -/
def Dev.small (d : Dev) : Bool := d.ident.variant == 3

/-- Number of ports, lanes and TIO channels present (R2). -/
def Dev.portCount (d : Dev) : Nat := if d.small then 16 else 32
def Dev.lanes (d : Dev) : Nat := 4 * d.portCount
def Dev.tios (d : Dev) : Nat := if d.small then 24 else 48

/-- The numbers of the ports present, in order. -/
def Dev.portList (d : Dev) : List Nat := List.range d.portCount

/-- PWR_STAT.FAST (11_power_and_wake.md): 0 OFF, 1 STARTING, 2 ON, 3 STOPPING. -/
def Dev.fast (d : Dev) : Nat := d.get F.PWR_STAT_FAST

/-- The fast domain is ON. -/
def Dev.fastOn (d : Dev) : Bool := d.fast == 2

/-- GLB_BOOT_STAT.STAGE (R313). -/
def Dev.stage (d : Dev) : Nat := d.get F.GLB_BOOT_STAT_STAGE

/-- A host access reaches the Firn blocks and spaces at every stage after ROM (R315), but only GLOBAL, ALARM, UPDATE and
NVM in RECOVERY (R317); the fast targets only while FAST is ON besides. -/
def Dev.firnReach (d : Dev) : Bool := d.stage != 0 && d.stage != 8
def Dev.fastReach (d : Dev) : Bool := d.firnReach && d.fastOn

/-- A register write of the host to a Firn target, or to a fast target: ignored where it does not reach it. -/
def Dev.reach (d : Dev) (f : Dev → Dev) : Dev := if d.firnReach then f d else d
def Dev.reachFast (d : Dev) (f : Dev → Dev) : Dev := if d.fastReach then f d else d

/-- A port of the variant (R2): a write to an absent one is ignored. -/
def Dev.hasPort (d : Dev) (p : Nat) : Bool := decide (p < d.portCount)

/-! ## Timebases and the time of the module -/

/-- A timebase. -/
def Dev.tb (d : Dev) : TbId → Timebase
  | .a => d.tbA
  | .b => d.tbB

/-- Changes a timebase. -/
def Dev.onTb (d : Dev) (t : TbId) (f : Timebase → Timebase) : Dev :=
  match t with
  | .a => { d with tbA := f d.tbA }
  | .b => { d with tbB := f d.tbB }

/-- TB_ROLE.ROLE of a timebase (R89). -/
def Dev.role (d : Dev) (t : TbId) : Nat := d.get F.TB_ROLE_ROLE t.num

/-- Changes a role, with CHANGED. -/
def Dev.setRole (d : Dev) (t : TbId) (r : Nat) : Dev := d.setMark F.TB_ROLE_ROLE r F.TB_ROLE_CHANGED t.num

/-- Changes the twin mechanism, the mirrored state, the selector. -/
def Dev.onTwin (d : Dev) (f : Twin → Twin) : Dev := { d with twin := f d.twin }
def Dev.onMir (d : Dev) (f : Mirrored → Mirrored) : Dev := { d with mir := f d.mir }
def Dev.onRsel (d : Dev) (f : Rsel → Rsel) : Dev := { d with rsel := f d.rsel }

/-- The standby: the other timebase than the active one (R89). -/
def Dev.standby (d : Dev) : Option TbId := d.twin.active.map TbId.other

/-- Whether a timebase is ACTIVE. -/
def Dev.anyActive (d : Dev) : Bool := d.twin.active.isSome

/-- The time bus: the counter of the active timebase; zero while there is none (R89, R95). -/
def Dev.now (d : Dev) : Ticks :=
  match d.twin.active with
  | none => 0
  | some t => (d.tb t).counter

/-- The time status word (02_device_time.md, "Time status word"). -/
def Dev.statusWord (d : Dev) : Nat :=
  d.mir.state.num + 8 * bitNat d.mir.traceable + 16 * bitNat d.mir.freqTrace + 32 * bitNat d.mir.slewing +
  64 * (match d.twin.active with | some .b => 1 | _ => 0) + 128 * bitNat d.mir.utcValid + 256 * bitNat d.mir.leap61 +
  512 * bitNat d.mir.leap59 + 1024 * bitNat d.mir.everLocked

/-- A time value in the DTIME layout (R26), with a status word. -/
def dtime (t : Ticks) (status : Nat) : BitVec 128 :=
  BitVec.ofNat 128 (t / secUnit % 2 ^ 64 * 2 ^ 64 + t % secUnit / 65536 * 2 ^ 32 + t % 65536 * 2 ^ 16 + status % 2 ^ 16)

/-- DTIME of an instant of the time bus with the present status word (R28). -/
def Dev.stamp (d : Dev) (t : Ticks) : BitVec 128 := dtime t d.statusWord

/-- A 128-bit value as four words, D0 first (R29). -/
def wordsOf (v : BitVec 128) : List Word :=
  [v.extractLsb' 0 32, v.extractLsb' 32 32, v.extractLsb' 64 32, v.extractLsb' 96 32]

/-- The instant of four DTIME words: none where NANOSECONDS is above 999,999,999 (R27). -/
def ticksOf (w0 w1 w2 w3 : Word) : Option Ticks :=
  if w1.toNat > 999999999 then none
  else some ((w3.toNat * 2 ^ 32 + w2.toNat) * secUnit + w1.toNat * 65536 + w0.toNat / 65536)

/-- Picoseconds against 2^-16 ns: whether a magnitude is within a number of ps. -/
def withinPs (x : Int) (ps : Nat) : Bool := x.natAbs * 1000 ≤ ps * 65536

/-- Whether a magnitude is above a number of ns. -/
def aboveNs (x : Int) (ns : Nat) : Bool := x.natAbs > ns * 65536

/-- Picoseconds in units of 2^-16 ns, rounded to the nearest (R170, R209). -/
def psTicks (ps : Int) : Int := roundDiv (ps * 65536) 1000

/-- A quotient rounded down or up: exact where it is whole, else as `Config.roundsUp` leaves open. -/
def divFree (num : Int) (den : Nat) : Int :=
  num / den + (if num % den = 0 then 0 else if Config.roundsUp num den then 1 else 0)

/-- An instant moved by a signed span; never before the epoch (R42). -/
def shiftTicks (t : Ticks) (x : Int) : Ticks := ((t : Int) + x).toNat

/-- The monitor of a candidate. -/
def Dev.cand (d : Dev) (i : Nat) : Cand := tabGet d.cands Cand.init i

/-- Changes the monitor of a candidate. -/
def Dev.onCand (d : Dev) (i : Nat) (f : Cand → Cand) : Dev :=
  { d with cands := tabSet d.cands Cand.init i (f (d.cand i)) }

/-- The reflected CRC-32 of a polynomial, from all ones and inverted at the end. -/
def crcOf (poly : Nat) (bytes : List Byte) : Nat :=
  let step (c : Nat) (_ : Nat) : Nat := if c % 2 = 1 then (c / 2) ^^^ poly else c / 2
  (bytes.foldl (fun c b => (List.range 8).foldl step (c ^^^ b.toNat)) 0xFFFFFFFF) ^^^ 0xFFFFFFFF

/-- CRC-32C, the check of flash structures, dump records and FDB buckets. -/
def crc32c (bytes : List Byte) : Nat := crcOf 0x82F63B78 bytes

/-- The Ethernet frame check sequence as a number, sent least significant byte first. -/
def crc32 (bytes : List Byte) : Nat := crcOf 0xEDB88320 bytes

/-- A number from bytes, most significant or least significant first; a byte, and a run of bytes, of a list. -/
def beNat (bytes : List Byte) : Nat := bytes.foldl (fun n b => n * 256 + b.toNat) 0
def leNat (bytes : List Byte) : Nat := bytes.foldr (fun b n => n * 256 + b.toNat) 0
def byteAt (l : List Byte) (i : Nat) : Nat := (l.getD i 0).toNat
def slice (l : List Byte) (i n : Nat) : List Byte := (l.drop i).take n

/-- `n` bytes of a number, least significant first; most significant first. -/
def leBytes : Nat → Nat → List Byte
  | 0, _ => []
  | n + 1, v => BitVec.ofNat 8 v :: leBytes n (v / 256)
def beBytes (n v : Nat) : List Byte := (leBytes n v).reverse

/-- A run of bytes of a list replaced. -/
def splice (l : List Byte) (i : Nat) (b : List Byte) : List Byte := l.take i ++ b ++ l.drop (i + b.length)

/-! ## Ports, channels and blocks -/

/-- The parts of the device that a chapter gives beside its registers, and their changes. -/
def Dev.port (d : Dev) (p : Nat) : Port := tabGet d.ports Port.init p
def Dev.onPort (d : Dev) (p : Nat) (f : Port → Port) : Dev := { d with ports := tabSet d.ports Port.init p (f (d.port p)) }
def Dev.ptu (d : Dev) (p : Nat) : PtuPort := tabGet d.ptus PtuPort.init p
def Dev.onPtu (d : Dev) (p : Nat) (f : PtuPort → PtuPort) : Dev := { d with ptus := tabSet d.ptus PtuPort.init p (f (d.ptu p)) }
def Dev.inst (d : Dev) (i : Nat) : PtpInst := tabGet d.insts PtpInst.init i
def Dev.onInst (d : Dev) (i : Nat) (f : PtpInst → PtpInst) : Dev := { d with insts := tabSet d.insts PtpInst.init i (f (d.inst i)) }
def Dev.tioCh (d : Dev) (c : Nat) : Tio := tabGet d.tio Tio.init c
def Dev.onTio (d : Dev) (c : Nat) (f : Tio → Tio) : Dev := { d with tio := tabSet d.tio Tio.init c (f (d.tioCh c)) }
def Dev.onSw (d : Dev) (f : Switch → Switch) : Dev := { d with sw := f d.sw }
def Dev.onSys (d : Dev) (f : Sys → Sys) : Dev := { d with sys := f d.sys }

/-- The MAC address of a port, six bytes. A write of PRT_MAC_ADDR_LO is stored, and a write of HI applies both (R198,
R359): the low half in force is kept as unit 32 + p of that register. -/
def Dev.portMac (d : Dev) (p : Nat) : List Byte :=
  beBytes 2 (d.word .PRT_MAC_ADDR_HI p).toNat ++ beBytes 4 (d.word .PRT_MAC_ADDR_LO (32 + p)).toNat

/-- LANE_QUAD_STAT.LINK_UP of a port; the port takes timestamps and runs PTP (R145, R170). -/
def Dev.linkUp (d : Dev) (p : Nat) : Bool := d.flag F.LANE_QUAD_STAT_LINK_UP p
def Dev.portUp (d : Dev) (p : Nat) : Bool := d.linkUp p && !(d.port p).inLoop

/-- The port mode in force: 11 to 15 are taken as OFF (R135). -/
def Dev.portMode (d : Dev) (p : Nat) : Nat := let m := d.get F.LANE_QUAD_CFG_MODE p; if m ≥ 11 then 0 else m

/-- Nominal rate of a port mode in Gb/s, lanes used from the timing lane on, and unit intervals in 6.4 ns (R135, R164). -/
def modeRate (m : Nat) : Nat := ([0, 10, 25, 25, 50, 100, 100, 100, 200, 200, 400] : List Nat).getD m 0
def modeLanes (m : Nat) : Nat := ([0, 1, 1, 1, 1, 4, 2, 1, 4, 2, 4] : List Nat).getD m 0
def modeUi (m : Nat) : Nat := ([0, 66, 165, 165, 170, 165, 170, 340, 170, 340, 340] : List Nat).getD m 0
/-- NRZ modes. -/
def modeNrz (m : Nat) : Bool := m == 1 || m == 2 || m == 3 || m == 5

/-- The used lanes of a port. -/
def Dev.usedLanes (d : Dev) (p : Nat) : List Nat := (List.range (modeLanes (d.portMode p))).map (fun i => 4 * p + i)

end Sys2Proof.Machine
end

