-- ==== Sys2Proof/Machine/Flags.lean ====
section
/-! DEFINITION. Flags that report: alarms and their interrupts (R398 to R400), the fault log (R401), and the event
counters with their chains, selections and Firn-side latches (R383 to R388). -/

namespace Sys2Proof.Machine

/-- The alarm catalogue (R398), in the order of its bits. -/
inductive Alarm where
  | timeJumpHeld | leapConflict | dcoLimit | refDrift | refOutvoted | equalRankConflict | pinnedRefLost
  | tbNone | tbPathLine | tbPathMem | tbFreezeShort | tbFailover | tbRetired | tbStandbyNotReady | tbJournalTrunc
  | tbMirrorLost | pinnedTbLost
  | synBandMiss | synAcqFail | synRetired | tioRetired
  | ptuPhaseSlip | ptpPinLost | laneRetired | pwrPinBlocked
  | bufRetireLimit | resShort | tblEntryRetired | auditMismatch
  | bootHdrLost | configFallback | configNone | settingsReset | fwFallback | fwSlotFallback | fwImageBad
  | ringUndelivered
  | hostLinkDown | hostSilent
  | resourceRetired | logFull
  deriving DecidableEq, Repr

/-- The catalogue bit of an alarm. -/
def Alarm.bit (a : Alarm) : Nat := a.ctorIdx

/-- The alarm group of a catalogue bit (R398). -/
def groupOf (b : Nat) : Nat :=
  if b ≤ 6 then 0 else if b ≤ 16 then 1 else if b ≤ 20 then 2 else if b ≤ 24 then 3 else if b ≤ 28 then 4
  else if b ≤ 36 then 5 else if b ≤ 38 then 6 else 7

/-- The catalogue bits of a group. -/
def groupBits (g : Nat) : List Nat := (List.range 41).filter (fun b => groupOf b == g)

/-- A field of one bit of a register that holds 32 catalogue bits. -/
def bitFld (r : Reg) (b : Nat) : Fld := ⟨r, b % 32, 1⟩

/-- Whether the endpoint may send MSI-X messages now (R351): link up, Bus Master Enable set, function in D0. -/
def Dev.canSend (d : Dev) : Bool :=
  d.flag F.GLB_HOST_STAT_LINK_UP && d.flag F.GLB_HOST_STAT_BME && !d.flag F.GLB_HOST_STAT_D3HOT

/-- Sends the message of a vector's table entry. -/
def Dev.sendMsix (d : Dev) (v : Nat) : Dev :=
  let w (i : Nat) : Word := tabGet d.pcie.msixTable 0 (4 * v + i)
  d.emit (.msix v ((w 0).toNat + (w 1).toNat * 2 ^ 32) (w 2))

/-- Sends an MSI-X vector while MSI-X is enabled; a vector that is masked, by its own bit or with the function as a whole
(GLB_HOST_STAT.MSIX_EN reads 0), or that Bus Master Enable holds, sets its pending bit (R348, R351, R399). -/
def Dev.msix (d : Dev) (v : Nat) : Dev :=
  if !d.pcie.msixOn then d
  else if d.canSend && d.flag F.GLB_HOST_STAT_MSIX_EN && !d.pcie.masks.contains v then d.sendMsix v
  else if d.pcie.pba.contains v then d
  else { d with pcie := { d.pcie with pba := d.pcie.pba ++ [v] } }

/-- Whether an alarm group has an enabled LATCH bit set. -/
def Dev.groupPending (d : Dev) (g : Nat) : Bool :=
  (groupBits g).any (fun b => d.flag (bitFld .ALM_LATCH b) (b / 32) && d.flag (bitFld .ALM_ENABLE b) (b / 32))

/-- Sends the vector of an alarm group (R399). -/
def Dev.sendGroup (d : Dev) (g : Nat) : Dev :=
  d.when (d.flag F.ALM_ROUTE_MSIX_EN g) (fun d => d.msix (d.get F.ALM_ROUTE_VECTOR g))

/-- Sets a LATCH bit, and announces it when an enabled bit rises (R398, R399). -/
def Dev.latch (d : Dev) (b : Nat) : Dev :=
  if d.flag (bitFld .ALM_LATCH b) (b / 32) then d
  else
    (d.set (bitFld .ALM_LATCH b) 1 (b / 32)).when (d.flag (bitFld .ALM_ENABLE b) (b / 32))
      (fun d => d.sendGroup (groupOf b))

/-- Raises an event alarm: only its LATCH bit (R398). -/
def Dev.raise (d : Dev) (a : Alarm) : Dev := d.latch a.bit

/-- Sets or ends a condition alarm: ACTIVE follows the condition and LATCH is set at each rise (R398). -/
def Dev.cond (d : Dev) (a : Alarm) (on : Bool) : Dev :=
  if on then
    if d.flag (bitFld .ALM_ACTIVE a.bit) (a.bit / 32) then d
    else (d.set (bitFld .ALM_ACTIVE a.bit) 1 (a.bit / 32)).latch a.bit
  else d.set (bitFld .ALM_ACTIVE a.bit) 0 (a.bit / 32)

/-- Whether a condition alarm holds. -/
def Dev.alarmOn (d : Dev) (a : Alarm) : Bool := d.flag (bitFld .ALM_ACTIVE a.bit) (a.bit / 32)

/-- A channel of the mailboxes by sender and receiver party ID. -/
def Dev.chan (d : Dev) (src dst : Nat) : Chan := tabGet d.chans Chan.init (src * 8 + dst)

/-- Changes a mailbox channel. -/
def Dev.onChan (d : Dev) (src dst : Nat) (f : Chan → Chan) : Dev :=
  { d with chans := tabSet d.chans Chan.init (src * 8 + dst) (f (d.chan src dst)) }

/-- MBX_SUMMARY.POSTED_IN and ACKED_OUT at their bit places (15_mailboxes_counters_alarms.md). -/
def Dev.mbxSummaryBits (d : Dev) : Nat :=
  ((List.range 5).map (fun k =>
    (if (d.chan (k + 1) 0).st = 1 then 2 ^ (k + 1) else 0) + (if (d.chan 0 (k + 1)).st = 3 then 2 ^ (k + 9) else 0))).sum

/-- Whether INT_N is driven low (R399). It is never driven high, and not driven without power, in reset, which lasts until the
end of stage CONFIG (R24, R405), and in RECOVERY (R317). -/
def Dev.intN (d : Dev) : Bool :=
  d.sys.powered && !d.sys.held && decide (4 ≤ d.stage) && d.stage != 8 && ((List.range 8).any (fun g => d.flag F.ALM_ROUTE_INTN_EN g && d.groupPending g) ||
  (d.flag F.MBX_SUMMARY_INTN_EN && d.mbxSummaryBits != 0))

/-! ## Event counters -/

/-- CNT_CFG of a counter after reset: the default chains of R384 and the reset selections of R388. -/
def cntCfgReset (i : Nat) : Word :=
  if i < 3072 then
    let k := i % 96
    if 64 ≤ k then BitVec.ofNat 32 (i - 64)
    else if 48 ≤ k ∧ k ≤ 55 then BitVec.ofNat 32 (0x011 + (k - 48))
    else if 56 ≤ k then BitVec.ofNat 32 (([0x040, 0x041, 0x042, 0x043, 0x044, 0x048, 0x049, 0x04B] : List Nat).getD (k - 56) 0)
    else 0
  else
    let j := i - 3072
    if 768 ≤ j then BitVec.ofNat 32 (i - 768) else 0

/-- CNT_CFG of a counter. -/
def Dev.cntCfgOf (d : Dev) (i : Nat) : Word := tabGet d.cntCfg (cntCfgReset i) i

/-- CNT_CFG.SRC or EVENT, and INDEX. -/
def cfgEvent (w : Word) : Nat := bitsOf w.toNat 0 12
def cfgIndex (w : Word) : Nat := bitsOf w.toNat 16 16

/-- The live value of a counter. -/
def Dev.counter (d : Dev) (i : Nat) : Word := tabGet d.counters 0 i

/-- The reserves of the group of a counter: its port's, or the device's (R383). -/
def reservesOf (i : Nat) : List Nat :=
  if i < 3072 then (List.range 32).map (fun k => i / 96 * 96 + 64 + k) else (List.range 256).map (fun k => 3072 + 768 + k)

/-- The reserve chained from a counter (R384), if any, with given chains; a source of 0xFFF is none. -/
def reserveIn (cfg : Tab Word) (i : Nat) : Option Nat :=
  if i = 0xFFF then none else (reservesOf i).find? (fun r => cfgEvent (tabGet cfg (cntCfgReset r) r) == i)
def Dev.reserveOf (d : Dev) (i : Nat) : Option Nat := reserveIn d.cntCfg i

/-- Adds to a counter; a wrap counts one in its reserve in the same cycle (R383, R384). `fuel` bounds the chain, which
has no loop (R384). -/
def Dev.bump (d : Dev) (i n : Nat) (fuel : Nat := 256) : Dev :=
  let v := (d.counter i).toNat + n
  let d' := { d with counters := tabSet d.counters 0 i (BitVec.ofNat 32 v) }
  match fuel with
  | 0 => d'
  | fuel + 1 =>
    if v < 2 ^ 32 then d'
    else match d.reserveOf i with
      | none => d'
      | some r => d'.bump r (v / 2 ^ 32) fuel

/-- Adds to a Firn-side latch, which saturates; one that has saturated sets FIRN_SAT in the next dump (R385). -/
def Dev.latchAdd (d : Dev) (i n : Nat) : Dev :=
  let v := tabGet d.latches 0 i + n
  { d with
    latches := tabSet d.latches 0 i (min v (2 ^ 32 - 1))
    ring := { d.ring with firnSat := d.ring.firnSat || decide (2 ^ 32 ≤ v) } }

/-- Whether a device counter counts events of a Firn-domain block (01_architecture.md, "Blocks of the module"). -/
def firnCounter (j : Nat) : Bool :=
  !(j < 316 && ((196 ≤ j && j ≤ 200) || (206 ≤ j && j ≤ 210) || (265 ≤ j && j ≤ 282) || j == 310 ||
    (311 ≤ j && j ≤ 313)))

/-- Counts an event: at once in the fast domain while it is ON, in the Firn-side latch for a Firn block (R383, R385). -/
def Dev.countAt (d : Dev) (firn : Bool) (i n : Nat) : Dev :=
  if firn then d.latchAdd i n else if d.fastOn then d.bump i n else d

/-- Counts `n` events in device counter `j`. -/
def Dev.countDev (d : Dev) (j : Nat) (n : Nat := 1) : Dev := d.countAt (firnCounter j) (3072 + j) n

/-- Counts `n` events in counter `k` of port `p`. -/
def Dev.countPort (d : Dev) (p k : Nat) (n : Nat := 1) : Dev := d.countAt false (96 * p + k) n

/-- Whether a port event names a queue in INDEX (R388). -/
def portEventIndexed (e : Nat) : Bool := (0x031 ≤ e && e ≤ 0x037) || e == 0x038

/-- Counts a selectable port event in every counter of the port that selects it (R388). -/
def Dev.portEvent (d : Dev) (p e : Nat) (index : Nat := 0) (n : Nat := 1) : Dev :=
  d.each (List.range 16) (fun d k =>
    let w := d.cntCfgOf (96 * p + 48 + k)
    d.when (cfgEvent w == e && (!portEventIndexed e || cfgIndex w == index)) (fun d => d.countPort p (48 + k) n))

/-- A PTP message of type `t` received or sent is counted: event messages also in counters 46 and 47. -/
def Dev.countRx (d : Dev) (p t : Nat) : Dev := (d.when (t < 4) (fun d => d.countPort p 46)).portEvent p (0x060 + t)
def Dev.countTx (d : Dev) (p t : Nat) : Dev := (d.when (t < 4) (fun d => d.countPort p 47)).portEvent p (0x070 + t)

/-- Counts a selectable device event, with its index, in every device counter that selects it (R388). -/
def Dev.devEvent (d : Dev) (firn : Bool) (e index : Nat) (n : Nat := 1) : Dev :=
  d.each (d.cntCfg.map Prod.fst) (fun d i =>
    let w := d.cntCfgOf i
    d.when (3072 + 512 ≤ i && i < 3072 + 768 && cfgEvent w == e &&
        ((0x130 ≤ e && e ≤ 0x14D) || cfgIndex w == index))
      (fun d => d.countAt firn i n))

/-- A corrected or uncorrectable error in a memory `m` of R388 (R19): counters 281, 282 and the selectable events. -/
def Dev.memError (d : Dev) (m : Nat) (uncorrectable : Bool) : Dev :=
  (d.countAt (m == 7) (3072 + (if uncorrectable then 282 else 281)) 1).devEvent (m == 7)
    ((if uncorrectable then 0x138 else 0x130) + m) 0

/-- An error in memory `m` (R19): a corrected one is counted and leaves the resource in service, an uncorrectable one has
the effect `f` of its rule. -/
def Dev.memFails (d : Dev) (m : Nat) (k : ErrKind) (f : Dev → Dev) : Dev :=
  match k with
  | .corrected => d.memError m false
  | .uncorrectable => f d

/-! ## Fault log -/

/-- Adds an entry to the fault log; while it is full the entry is discarded and counted and LOG_FULL holds (R401). -/
def Dev.logAdd (d : Dev) (cls action mem index : Nat) : Dev :=
  if d.log.length ≥ 256 then (d.countDev 314).cond .logFull true
  else
    let d := { d with log := d.log ++ [(⟨d.stamp d.now, cls, action, mem, index⟩ : LogEntry)] }
    d.cond .logFull (d.log.length ≥ 256)

/-- Logs and counts a retirement that has no alarm of its own (R398, R401). -/
def Dev.retireOther (d : Dev) (cls mem index : Nat) : Dev := (d.logAdd cls 1 mem index).raise .resourceRetired

end Sys2Proof.Machine
end

