-- ==== Sys2Proof/Machine/Fdb.lean ====
section
/-! DEFINITION. The forwarding database (09_switch_core.md): lookup, learning (R232, R233), ageing (R234) and the host's
commands (R235, R236). -/

namespace Sys2Proof.Machine

/-- The bucket of a key: bits [15:0] of the CRC-32C over VID and MAC. -/
def fdbBucket (vid mac : Nat) : Nat := crc32c (beBytes 2 (vid % 4096) ++ beBytes 6 mac) % 65536

/-- The key of an entry; whether it is in use, free, retired. -/
def Dev.fdbMac (d : Dev) (i : Nat) : Nat := d.get F.FDB_W1_MAC i * 2 ^ 32 + d.get F.FDB_W0_MAC i
def Dev.fdbValid (d : Dev) (i : Nat) : Bool := d.flag F.FDB_W2_VALID i
def Dev.fdbRetired (d : Dev) (i : Nat) : Bool := d.flag F.FDB_W2_RETIRED i
def Dev.fdbFree (d : Dev) (i : Nat) : Bool := !d.fdbValid i && !d.fdbRetired i

/-- The entry indices of a bucket. -/
def waysOf (bucket : Nat) : List Nat := (List.range 4).map (fun w => bucket * 4 + w)

/-- The entry that holds a key. -/
def Dev.fdbFind (d : Dev) (vid mac : Nat) : Option Nat :=
  (waysOf (fdbBucket vid mac)).find? (fun i => d.fdbValid i && d.fdbMac i == mac && d.get F.FDB_W1_VID i == vid % 4096)

/-- Writes the four words of an entry. -/
def Dev.fdbPut (d : Dev) (i w0 w1 w2 w3 : Nat) : Dev :=
  (((d.setWord .FDB_W0 i (BitVec.ofNat 32 w0)).setWord .FDB_W1 i (BitVec.ofNat 32 w1)).setWord .FDB_W2 i
    (BitVec.ofNat 32 w2)).setWord .FDB_W3 i (BitVec.ofNat 32 w3)

/-- Removes an entry. -/
def Dev.fdbDrop (d : Dev) (i : Nat) : Dev := d.fdbPut i 0 0 0 0

/-- W1 of a key. -/
def fdbKeyHi (vid mac : Nat) : Nat := mac / 2 ^ 32 + vid % 4096 * 65536

/-- Learns an address on a port (R232); a new entry has its SA seen, so HIT is set. Learning never writes a multicast entry,
a dynamic one that an INSERT has made under a unicast address among them. -/
def Dev.learnSa (d : Dev) (vid mac p : Nat) : Dev :=
  let d := d.countDev 265
  match d.fdbFind vid mac with
  | some i =>
    if d.flag F.FDB_W2_STATIC i then d.when (d.get F.FDB_W2_PORT i != p) (fun d => d.countDev 269)
    else if d.flag F.FDB_W2_MC i then d
    else if d.get F.FDB_W2_PORT i = p then d.set F.FDB_W2_HIT 1 i
    else (((d.set F.FDB_W2_PORT p i).set F.FDB_W2_HIT 1 i).set F.FDB_W2_AGE 0 i).countDev 266
  | none =>
    match (waysOf (fdbBucket vid mac)).find? (fun i => d.fdbFree i) with
    | some i => d.fdbPut i (mac % 2 ^ 32) (fdbKeyHi vid mac) (p + 2 ^ 8 + 2 ^ 10) 0
    | none => d.countDev 267

/-- The listed entries of the FDB, in order. -/
def Dev.fdbEntries (d : Dev) : List Nat := (unitsOf d.regs .FDB_W2).filter (fun i => d.fdbValid i)

/-- One entry in an ageing sweep (R234). -/
def Dev.ageEntry (d : Dev) (i : Nat) : Dev :=
  if d.flag F.FDB_W2_STATIC i then d
  else if d.flag F.FDB_W2_HIT i then (d.set F.FDB_W2_HIT 0 i).set F.FDB_W2_AGE 0 i
  else if d.get F.FDB_W2_AGE i < 3 then d.set F.FDB_W2_AGE (d.get F.FDB_W2_AGE i + 1) i
  else d.fdbDrop i

/-- AGEING_SWEEP. -/
def Dev.ageingSweep (d : Dev) : Dev :=
  if !d.fastOn || !d.flag F.SW_CFG_AGE_EN then d else d.each d.fdbEntries Dev.ageEntry

/-! ## Commands -/

/-- The key of SW_FDB_KEY. -/
def Dev.cmdVid (d : Dev) : Nat := d.get F.SW_FDB_KEY_HI_VID
def Dev.cmdMac (d : Dev) : Nat := d.get F.SW_FDB_KEY_HI_MAC * 2 ^ 32 + d.get F.SW_FDB_KEY_LO_MAC

/-- RESULT and OP of a command; BUSY while a FLUSH sweeps (R236). -/
def Dev.fdbResult (d : Dev) (r : Nat) : Dev := d.set F.SW_FDB_CMD_RESULT r
def Dev.fdbCmd (d : Dev) (op : Nat) (f : Dev → Dev) : Dev :=
  let d := d.set F.SW_FDB_CMD_OP op
  if d.sw.flushing then d.fdbResult 4 else f d

/-- Port masks of XM1624-S hold 16 ports (R2). -/
def Dev.portMask (d : Dev) (m : Nat) : Nat := if d.small then m % 65536 else m % 2 ^ 32

/-- LOOKUP. -/
def Dev.fdbLookup (d : Dev) : Dev :=
  match d.fdbFind d.cmdVid d.cmdMac with
  | none => d.fdbResult 2
  | some i =>
    (((d.setWord .SW_FDB_DATA 0 (d.word .FDB_W2 i)).setWord .SW_FDB_MASK 0 (d.word .FDB_W3 i)).set F.SW_FDB_CMD_INDEX i).fdbResult 1

/-- The way that INSERT takes: the one that holds the key, a free one, else the dynamic one with the highest AGE. -/
def Dev.insertWay (d : Dev) (vid mac : Nat) : Option Nat :=
  let ways := waysOf (fdbBucket vid mac)
  match d.fdbFind vid mac, ways.find? (fun i => d.fdbFree i) with
  | some i, _ => some i
  | none, some i => some i
  | none, none =>
    (ways.filter (fun i => d.fdbValid i && !d.flag F.FDB_W2_STATIC i)).foldl (fun b i =>
      match b with
      | none => some i
      | some j => if d.get F.FDB_W2_AGE j < d.get F.FDB_W2_AGE i then some i else some j) none

/-- The entry word W2 that INSERT writes: VALID 1, HIT, AGE and the reserved bits 0. -/
def insertW2 (v : Nat) : Nat := v % 32 + 2 ^ 8 + bitsOf v 9 1 * 2 ^ 9 + bitsOf v 13 2 * 2 ^ 13

/-- INSERT. -/
def Dev.fdbInsert (d : Dev) : Dev :=
  let vid := d.cmdVid
  let mac := d.cmdMac
  match d.insertWay vid mac with
  | none => d.fdbResult 3
  | some i =>
    ((d.fdbPut i (mac % 2 ^ 32) (fdbKeyHi vid mac) (insertW2 (d.get F.SW_FDB_DATA_W2)) (d.portMask (d.get F.SW_FDB_MASK_W3))).set
      F.SW_FDB_CMD_INDEX i).fdbResult 1

/-- DELETE. -/
def Dev.fdbDelete (d : Dev) : Dev :=
  match d.fdbFind d.cmdVid d.cmdMac with
  | none => d.fdbResult 2
  | some i => (d.fdbDrop i).fdbResult 1

/-- READ_IDX. -/
def Dev.fdbRead (d : Dev) (i : Nat) : Dev :=
  let d := d.set F.SW_FDB_CMD_INDEX i
  let d := (d.setWord .SW_FDB_KEY_LO 0 (d.word .FDB_W0 i)).setWord .SW_FDB_KEY_HI 0 (d.word .FDB_W1 i)
  let d := (d.setWord .SW_FDB_DATA 0 (d.word .FDB_W2 i)).setWord .SW_FDB_MASK 0 (d.word .FDB_W3 i)
  d.fdbResult (if d.fdbRetired i then 6 else 1)

/-- An entry matches the filters of a FLUSH. -/
def Dev.flushMatch (d : Dev) (byPort byVid staticToo : Bool) (i : Nat) : Bool :=
  let port := d.get F.SW_FDB_DATA_W2 % 32
  (staticToo || !d.flag F.FDB_W2_STATIC i) && (!byVid || d.get F.FDB_W1_VID i == d.cmdVid) &&
  (!byPort || (if d.flag F.FDB_W2_MC i then bitAt (d.get F.FDB_W3_PORT_MASK i) port else d.get F.FDB_W2_PORT i == port))

/-- FLUSH: the matching entries are removed as the sweep starts, and RESULT reads RUNNING until it ends. -/
def Dev.fdbFlush (d : Dev) (byPort byVid staticToo : Bool) : Dev :=
  let d := ((d.setB F.SW_FDB_CMD_BY_PORT byPort).setB F.SW_FDB_CMD_BY_VID byVid).setB F.SW_FDB_CMD_STATIC_TOO staticToo
  let d := d.each (d.fdbEntries.filter (d.flushMatch byPort byVid staticToo)) Dev.fdbDrop
  (d.onSw (fun s => { s with flushing := true })).fdbResult 7

/-- The sweep of a FLUSH ends. -/
def Dev.fdbFlushDone (d : Dev) : Dev :=
  if d.sw.flushing then (d.onSw (fun s => { s with flushing := false })).fdbResult 1 else d

/-! ## Meanings -/

/-- AGEING_SWEEP (R234). -/
def execAgeingSweep (s : State) : Host.Outcome State Fault Refusal := .next (s.onDev Dev.ageingSweep)
/-- FDB_LOOKUP (R235). -/
def execFdbLookup (s : State) : Host.Outcome State Fault Refusal := .next (s.onDev (·.reachFast (·.fdbCmd 0 Dev.fdbLookup)))
/-- FDB_INSERT (R235). -/
def execFdbInsert (s : State) : Host.Outcome State Fault Refusal := .next (s.onDev (·.reachFast (·.fdbCmd 1 Dev.fdbInsert)))
/-- FDB_DELETE (R235). -/
def execFdbDelete (s : State) : Host.Outcome State Fault Refusal := .next (s.onDev (·.reachFast (·.fdbCmd 2 Dev.fdbDelete)))
/-- FDB_READ_IDX (R235). -/
def execFdbReadIdx (i : Fin 262144) (s : State) : Host.Outcome State Fault Refusal :=
  .next (s.onDev (·.reachFast (·.fdbCmd 3 (·.fdbRead i.val))))
/-- FDB_FLUSH (R236). -/
def execFdbFlush (a b c : Bool) (s : State) : Host.Outcome State Fault Refusal :=
  .next (s.onDev (·.reachFast (·.fdbCmd 4 (·.fdbFlush a b c))))
/-- FDB_FLUSH_DONE (R236). -/
def execFdbFlushDone (s : State) : Host.Outcome State Fault Refusal := .next (s.onDev Dev.fdbFlushDone)
/-- FDB_BAD_OP (R235): OP 5 to 7. -/
def execFdbBadOp (op : Fin 8) (s : State) : Host.Outcome State Fault Refusal :=
  .next (s.onDev (·.reachFast (·.fdbCmd op.val (fun d => if 5 ≤ op.val then d.fdbResult 5 else d))))

end Sys2Proof.Machine
end

