-- ==== Sys2Proof/Machine/Operands.lean ====
section
/-! DEFINITION. What a register write stores, field by field (00_scope.md, "Register access types"; R50, R358): the
value of a written field, and the word that a register holds after a write. What a write does besides is its command's
meaning. -/

namespace Sys2Proof.Machine

/-- A value written outside a field's stated range is taken as the nearest limit of the range (R50). -/
def Lim.take (l : Lim) (width v : Nat) : Nat :=
  match l with
  | .none => v
  | .nat lo hi => clampNat lo hi v
  | .int lo hi => twosOf (clampInt lo hi (signedOf v width)) width
  | .zeroOr lo hi => if v = 0 then 0 else clampNat lo hi v

/-- The value that a field holds after a write of `v`, by its access type. -/
def FieldSpec.take (f : FieldSpec) (old v : Nat) : Nat :=
  match f.acc with
  | .rw | .rwh => f.lim.take f.width v
  | .w1c => if v = 0 then old else 0
  | .w1s => if v = 0 then old else v
  | .ro | .wo | .sc => old

/-- The word that a register holds after a write; reserved bits stay zero (R5). -/
def wordTake (fields : List FieldSpec) (old v : Word) : Word :=
  fields.foldl (fun w f => putBits w f.lo f.width (f.take (bitsOf old.toNat f.lo f.width) (bitsOf v.toNat f.lo f.width))) old

/-- The value that a field holds after the cycle in which it has been written, `new` being what the write has left: a bit that
hardware sets stays set, a code that it records stays unless an earlier one stands, and the events of a counter field
(`counts`) add to the written value; every other field is as the write has left it (R358). -/
def FieldSpec.meet (f : FieldSpec) (counts : Bool) (new hw : Nat) : Nat :=
  match f.acc with
  | .w1c => if f.width = 32 then new ||| hw else if new = 0 then hw else new
  | .rwh => if counts then min (2 ^ f.width - 1) (new + hw) else new
  | .rw | .w1s | .ro | .wo | .sc => new

/-- The word that a register holds after the cycle in which it has been written (R358). -/
def wordMeet (fields : List FieldSpec) (counts : Bool) (new hw : Word) : Word :=
  fields.foldl (fun w f => putBits w f.lo f.width (f.meet counts (bitsOf new.toNat f.lo f.width) (bitsOf hw.toNat f.lo f.width))) new

/-- The registers whose RWH fields are counts (R358): LANE_PRBS_ERR (R144) and RECOV_W4.RELEASED (R272). CNT_DATA counts by
its own row. -/
def Reg.counts (r : Reg) : Bool := r == .LANE_PRBS_ERR || r == .RECOV_W4

/-- The registers and table words that hold a mask of ports (09_switch_core.md, "Registers of the switch core"). -/
def Reg.isPortMask (r : Reg) : Bool :=
  match r with
  | .SW_CT_EN | .SW_MIR_IN | .SW_MIR_OUT | .SW_FDB_MASK | .VLAN_W0 | .VLAN_W1 | .VLAN_W2 => true
  | _ => false

/-- Stores a write of a register; on XM1624-S bits [31:16] of a port mask ignore it. -/
def Dev.store (d : Dev) (r : Reg) (u : Nat) (v : Word) : Dev :=
  let v := if d.small && r.isPortMask then BitVec.ofNat 32 (v.toNat % 65536) else v
  d.setWord r u (wordTake r.spec.fields (d.word r u) v)

/-- The value of a field in a written word. -/
def Fld.of (f : Fld) (v : Word) : Nat := bitsOf v.toNat f.lo f.width

/-- Whether a written word sets a one-bit field. -/
def Fld.on (f : Fld) (v : Word) : Bool := f.of v == 1

end Sys2Proof.Machine
end

