-- ==== Sys2Proof/Machine/Cands.lean ====
section
/-! DEFINITION. Reference candidates: their kinds, the priority list, and their qualification (R64 to R77, R427). -/

namespace Sys2Proof.Machine

/-- The configured format of a REFIN input (RSEL_REFIN_CFG.FMT; 6 and 7 are taken as OFF). -/
def Dev.refinFmt (d : Dev) (n : Nat) : Nat :=
  let f := d.get F.RSEL_REFIN_CFG_FMT n
  if f ≥ 6 then 0 else f

/-- The TODIN line paired with a REFIN input: 1 or 2, 0 for none (R65). -/
def Dev.refinTod (d : Dev) (n : Nat) : Nat :=
  let t := d.get F.RSEL_REFIN_CFG_TOD n
  if t = 3 then 0 else t

/-- The kind of a candidate (R54, R70). -/
def Dev.kindOf (d : Dev) (id : Nat) : RefKind :=
  if id < 4 then
    if d.refinFmt id = 0 then .own
    else if d.refinFmt id = 1 then (if d.refinTod id = 0 then .pps else .ppsTod)
    else .freq
  else if id < 36 then
    if d.flag F.LANE_QUAD_STAT_DISCOVERED (id - 4) && d.flag F.LANE_QUAD_STAT_PARTNER_SYNT (id - 4) then .portL1
    else .portPtp
  else .own

/-- RSEL_CAND_STAT flags of a candidate. -/
def Dev.qualified (d : Dev) (id : Nat) : Bool := id == 36 || d.flag F.RSEL_CAND_STAT_QUALIFIED id
def Dev.barred (d : Dev) (id : Nat) : Bool := d.flag F.RSEL_CAND_STAT_BARRED id

/-- The priority list (R77): (ID, rank) by entry; entry unused at rank 0, an ID counts only at its first entry, and
reference 36 is ignored. -/
def Dev.prioList (d : Dev) : List (Nat × Nat) :=
  let entries := (List.range 16).map (fun k => (d.inForce F.RSEL_PRIO_ID k, d.inForce F.RSEL_PRIO_RANK k))
  let used := entries.filter (fun e => e.2 != 0 && e.1 < 36)
  used.foldl (fun acc e => if acc.any (fun x => x.1 == e.1) then acc else acc ++ [e]) []

/-- Rank of a listed candidate. -/
def rankIn (l : List (Nat × Nat)) (id : Nat) : Nat := ((l.find? (fun e => e.1 == id)).map Prod.snd).getD 16

/-- Sets a flag of RSEL_CAND_STAT, with EVENT at a change (RSEL_CAND_STAT.EVENT). -/
def Dev.candFlag (d : Dev) (f : Fld) (id : Nat) (b : Bool) : Dev := d.setMark f (bitNat b) F.RSEL_CAND_STAT_EVENT id

/-- The mean of the gates of a candidate in 10^-14 (R72): over the last 16 s. DESIGN CHOICE: of the gates so far while there
are fewer, zero before the first; gates stay through an inactivity. -/
def Cand.mean (c : Cand) : Int := if c.gates.isEmpty then 0 else divFree c.gates.sum c.gates.length

/-- RSEL_CAND_FREQ shows the mean of a candidate, held to its limits. -/
def Dev.showMean (d : Dev) (id : Nat) : Dev :=
  d.set F.RSEL_CAND_FREQ_FREQ (twosOf (clampInt (-2147483648) 2147483647 (d.cand id).mean) 32) id

/-- Restarts the qualification of a candidate from zero, its TODIN messages with it (R67, R68); QUAL_LEFT runs from QUAL_TIME while it is active (R72, R427). -/
def Dev.restartQual (d : Dev) (id : Nat) : Dev :=
  (d.onCand id (fun c => { c with qualS := 0, lastSec := none, todCount := 0 })).set F.RSEL_CAND_STAT_QUAL_LEFT
    (if d.flag F.RSEL_CAND_STAT_ACTIVE id then d.inForce F.RSEL_CFG_QUAL_TIME else 0) id

/-- Disqualifies a qualified candidate with a reason and counts it; a candidate not yet qualified restarts its
qualification instead (R427). -/
def Dev.disqualify (d : Dev) (id reason : Nat) : Dev :=
  if d.qualified id then
    let d := ((d.candFlag F.RSEL_CAND_STAT_QUALIFIED id false).set F.RSEL_CAND_STAT_REASON reason id).countDev (218 + id)
    d.restartQual id
  else d.restartQual id

/-- The activity monitor sees a candidate, or declares it inactive (R71). -/
def Dev.setActive (d : Dev) (id : Nat) (on : Bool) : Dev :=
  let d := d.setB F.RSEL_CAND_STAT_ACTIVE on id
  if on then d.restartQual id
  else (d.disqualify id 1).set F.RSEL_CAND_STAT_QUAL_LEFT 0 id

/-- The monitor of a candidate is retired (R76): the candidate is disqualified with RETIRED, qualified or not (R427). -/
def Dev.retireMonitor (d : Dev) (id : Nat) (mem : Nat := 0) : Dev :=
  let d := d.onCand id (fun c => { c with retired := true, qualS := 0 })
  let d := (d.candFlag F.RSEL_CAND_STAT_QUALIFIED id false).set F.RSEL_CAND_STAT_REASON 7 id
  let d := ((d.set F.RSEL_CAND_STAT_QUAL_LEFT 0 id).setB F.RSEL_CAND_STAT_ACTIVE false id).countDev (218 + id)
  d.retireOther 0x0B mem id

end Sys2Proof.Machine
end

