-- ==== Sys2Proof/Machine/Mail.lean ====
section
/-! DEFINITION. The mailbox channels (15_mailboxes_counters_alarms.md, R373 to R382): transitions, restarts, the notices
of the CP to the host, and the commands that move a channel. -/

namespace Sys2Proof.Machine

/-! ## Channels -/

/-- The message area as 64 bytes. -/
def pad64 (l : List Byte) : List Byte := (l ++ List.replicate 64 0).take 64

/-- A message is in POSTED: the host is sent the vector of its channel with POST_IRQ, a processor is told (R377, R400). -/
def Dev.tellPosted (d : Dev) (src dst : Nat) : Dev :=
  if dst = 0 then d.when (d.chan src dst).postIrq (fun d => d.msix (16 + src)) else d.emit (.mbxNotice src dst 1)

/-- A message is in ACKED: the host is sent the acknowledge vector where it was posted with ACK_IRQ, a processor is told
(R377, R400). -/
def Dev.tellAcked (d : Dev) (src dst : Nat) : Dev :=
  if src = 0 then d.when (d.chan src dst).sentIrq (fun d => d.msix (24 + dst)) else d.emit (.mbxNotice src dst 3)

/-- The CP cores that R308 has gated resume. -/
def Dev.wakeCores (d : Dev) : Dev :=
  if d.fastOn then (d.onSys (fun s => { s with coresOff := 0 })).set F.PWR_STAT_CP_CORES 4 else d

/-- FREE to POSTED with a message (R374): the bytes of MSG beyond it stay, and LEN and ACK_IRQ are read now (R403); the post is
counted; a message to the CP is work for its gated cores (R308). -/
def Dev.postMsg (d : Dev) (src dst : Nat) (msg : List Byte) : Dev :=
  let d := d.onChan src dst (fun c => { c with
    st := 1, redeliv := false, msg := splice (pad64 c.msg) 0 msg, len := msg.length, sentLen := msg.length, sentIrq := c.ackIrq })
  let d := d.when (dst == 2) Dev.wakeCores
  ((d.countDev 307).devEvent true 0x150 (src * 8 + dst)).tellPosted src dst

/-- TAKEN to POSTED with REDELIVERED (R378, R379). -/
def Dev.redeliver (d : Dev) (src dst : Nat) : Dev :=
  if src ≠ dst ∧ (d.chan src dst).st = 2 then
    ((d.onChan src dst (fun c => { c with st := 1, redeliv := true })).countDev 309).tellPosted src dst
  else d

/-- A restart of a receiver: every channel to it that is TAKEN is POSTED again (R378). -/
def Dev.restartParty (d : Dev) (dst : Nat) : Dev := d.each (List.range 6) (fun d src => d.redeliver src dst)

/-! ## Notices of the CP (R381, R382) -/

/-- The message of a notice; its TAG is not stated. -/
def noticeMsg (n : Notice) (lost : Bool) (tag : Nat) : List Byte :=
  [0x01, 0x80, BitVec.ofNat 8 tag, BitVec.ofNat 8 (2 * bitNat lost), BitVec.ofNat 8 n.inst, BitVec.ofNat 8 n.port,
    BitVec.ofNat 8 n.state, 0] ++ beBytes 8 n.parent.toNat

/-- Posts the next notice that the CP holds while its channel to the host is FREE; LOST tells of a dropped one. -/
def Dev.sendNotice (d : Dev) : Dev :=
  match d.cpMail.notices with
  | [] => d
  | n :: rest =>
    if (d.chan 2 0).st ≠ 0 then d
    else
      let msg := noticeMsg n d.cpMail.lost d.freeVal
      (({ d with cpMail := { d.cpMail with notices := rest, lost := false } }).spendFree).postMsg 2 0 msg

/-- The CP posts a notice, holds up to 64 while its channel is not FREE, and drops and counts any further (R382). -/
def Dev.notice (d : Dev) (n : Notice) : Dev :=
  if (d.chan 2 0).st ≠ 0 ∧ 64 ≤ d.cpMail.notices.length then
    ({ d with cpMail := { d.cpMail with lost := true } }).countDev 310
  else ({ d with cpMail := { d.cpMail with notices := d.cpMail.notices ++ [n] } }).sendNotice

/-! ## Commands (R374) -/

/-- Whether a channel exists, and the command result of a channel: the host reads those of its own commands. -/
def chanExists (src dst : Nat) : Bool := src != dst
def Dev.mbxResult (d : Dev) (src dst party r : Nat) : Dev :=
  d.when (party == 0) (fun d => d.onChan src dst (fun c => { c with result := r }))

/-- POST (R374): the host's message is what it has written, its length MBX_CTL.LEN. -/
def Dev.mbxPost (d : Dev) (src dst : Nat) (msg : List Byte) : Dev :=
  let c := d.chan src dst
  let m := if src = 0 then (pad64 c.msg).take c.len else msg
  let n := if src = 0 then c.len else msg.length
  if !chanExists src dst then d
  else if c.st ≠ 0 then d.mbxResult src dst src 2
  else if n < 4 ∨ 64 < n then d.mbxResult src dst src 3
  else (d.postMsg src dst m).mbxResult src dst src 1

/-- A transition that needs a state: BAD_STATE in any other. -/
def Dev.mbxMove (d : Dev) (src dst party need : Nat) (f : Dev → Dev) : Dev :=
  if !chanExists src dst then d
  else if (d.chan src dst).st ≠ need then d.mbxResult src dst party 2
  else (f d).mbxResult src dst party 1

/-- WITHDRAW. -/
def Dev.mbxWithdraw (d : Dev) (src dst : Nat) : Dev :=
  d.mbxMove src dst src 1 (fun d => (d.onChan src dst (fun c => { c with st := 0, redeliv := false })).countDev 308)

/-- TAKE. -/
def Dev.mbxTake (d : Dev) (src dst : Nat) : Dev := d.mbxMove src dst dst 1 (fun d => d.onChan src dst (fun c => { c with st := 2 }))

/-- The message of a channel as it was posted. -/
def Chan.sent (c : Chan) : List Byte := c.msg.take c.sentLen

/-- The opcode of the message of a channel (R381). -/
def Chan.opcode (c : Chan) : Nat := leNat (c.sent.take 2)

/-- The CODE of an acknowledgement (R381): the module's processors define opcodes on the channel from host to CP alone, 1 and
2, and answer any other 0xFFFF; the host chooses its own. -/
def Dev.codeOf (d : Dev) (src dst code : Nat) : Nat :=
  let op := (d.chan src dst).opcode
  if dst = 0 || (src == 0 && dst == 2 && (op == 1 || op == 2)) then code else 0xFFFF

/-- ACK with CODE and the response: the host's is what it has written, its length MBX_CTL.RSP_LEN. -/
def Dev.mbxAck (d : Dev) (src dst code : Nat) (rsp : List Byte) : Dev :=
  let c := d.chan src dst
  let n := if dst = 0 then c.rspLen else rsp.length
  let r := if dst = 0 then c.rsp else splice (pad64 c.rsp) 0 rsp
  let code := d.codeOf src dst code
  if chanExists src dst && c.st == 2 && 64 < n then d.mbxResult src dst dst 3
  else d.mbxMove src dst dst 2 (fun d =>
    (d.onChan src dst (fun c => { c with st := 3, ackCode := code, rsp := r, rspLen := n })).tellAcked src dst)

/-- RELEASE: the channel is FREE, and the CP posts its next notice where it was its own. -/
def Dev.mbxRelease (d : Dev) (src dst : Nat) : Dev :=
  d.mbxMove src dst src 3 (fun d =>
    let d := d.onChan src dst (fun c => { c with st := 0, redeliv := false })
    d.when (src == 2 && dst == 0) Dev.sendNotice)

/-- MBX_CHANNEL_FAULT (R374, R19): the message is lost and the channel retired. -/
def Dev.mbxFault (d : Dev) (src dst : Nat) : Dev :=
  if !chanExists src dst || (d.chan src dst).st == 4 then d
  else
    let d := d.onChan src dst (fun c => { Chan.init with st := 4, postIrq := c.postIrq, ackIrq := c.ackIrq })
    (d.memError 7 true).retireOther 0x0C 7 (src * 8 + dst)

/-- The host restarts (R379): every channel to it that is TAKEN is POSTED again. -/
def Dev.hostRestart (d : Dev) : Dev := d.restartParty 0

/-! ## Messages in parts and CONTINUE (R381) -/

/-- The CP acknowledges the message that it has taken from the host. -/
def Dev.cpAck (d : Dev) (code : Nat) (rsp : List Byte) : Dev := d.mbxAck 0 2 code rsp

/-- A response cut into parts of 60 bytes; the list is never empty. -/
def partsOf : Nat → List Byte → List (List Byte)
  | 0, l => [l.take 60]
  | n + 1, l => if l.length ≤ 60 then [l] else l.take 60 :: partsOf n (l.drop 60)

/-- A part of a response with its header: OPCODE, TAG and MORE. -/
def replyPart (op tag : Nat) (more : Bool) (b : List Byte) : List Byte :=
  leBytes 2 op ++ [BitVec.ofNat 8 tag, BitVec.ofNat 8 (bitNat more)] ++ b

/-- Acknowledges with the first of some parts; the rest is kept for CONTINUE. -/
def Dev.sendPart (d : Dev) (tag code : Nat) (parts : List (List Byte)) : Dev :=
  match parts with
  | [] => d.cpAck code []
  | p :: rest =>
    let d := { d with cpMail := { d.cpMail with
      tag := if rest.isEmpty then none else some tag, parts := [], reply := rest, replyCode := code } }
    d.cpAck code (replyPart 0x0001 tag (!rest.isEmpty) p)

/-- Whether the CP has a message of the host taken; and its parts. -/
def Dev.cpTaken (d : Dev) : Bool := (d.chan 0 2).st == 2
def Dev.hostMsg (d : Dev) : List Byte := (d.chan 0 2).sent

/-- A CONTINUE that the CP has taken (R381): the next part of the response in progress. -/
def Dev.continueReply (d : Dev) : Dev :=
  let m := d.hostMsg
  let tag := byteAt m 2
  if m.length ≠ 4 then d.cpAck 0xFFFE []
  else if d.cpMail.tag.isSome && d.cpMail.tag != some tag then d.cpAck 0xFFFD []
  else d.sendPart tag d.cpMail.replyCode d.cpMail.reply

/-! ## The meanings -/

def execMbxPost (a b : MboxParty) (m : List Byte) (s : State) : Host.Outcome State Fault Refusal :=
  .next (s.onDev (·.mbxPost a.id b.id m))

def execMbxWithdraw (a b : MboxParty) (s : State) : Host.Outcome State Fault Refusal := .next (s.onDev (·.mbxWithdraw a.id b.id))

def execMbxTake (a b : MboxParty) (s : State) : Host.Outcome State Fault Refusal := .next (s.onDev (·.mbxTake a.id b.id))

def execMbxAck (a b : MboxParty) (c : BitVec 16) (r : List Byte) (s : State) : Host.Outcome State Fault Refusal :=
  .next (s.onDev (·.mbxAck a.id b.id c.toNat r))

def execMbxRelease (a b : MboxParty) (s : State) : Host.Outcome State Fault Refusal := .next (s.onDev (·.mbxRelease a.id b.id))

def execMbxChannelFault (c : MboxParty × MboxParty) (k : ErrKind) (s : State) : Host.Outcome State Fault Refusal :=
  .next (s.onDev (·.memFails 7 k (·.mbxFault c.1.id c.2.id)))

def execMbxHostRestart (s : State) : Host.Outcome State Fault Refusal := .next (s.onDev Dev.hostRestart)

end Sys2Proof.Machine
end

