-- ==== Sys2Proof/Machine/Parse.lean ====
section
/-! DEFINITION. The parser of a port (R224, R225, R270), the recognition of PTP messages (R186), and the egress changes of
a frame's bytes: tags, R-TAGs, correctionField, checksums and the FCS (R187, R188, R190, R230). -/

namespace Sys2Proof.Machine

/-- A frame with its frame check sequence; with the inverted one (R188, R248). -/
def withFcs (b : List Byte) : List Byte := b ++ leBytes 4 (crc32 b)
def withBadFcs (b : List Byte) : List Byte := b ++ leBytes 4 (0xFFFFFFFF - crc32 b)

/-- A field of the examined bytes; zero where the frame does not carry it whole. -/
def fieldAt (h : List Byte) (i n : Nat) : Nat := if i + n ≤ h.length then beNat (slice h i n) else 0

/-- What the parser extracts (R224). `body` is where the EtherType after the tags stands, `ip` where the IP header does. -/
structure Parsed where
  da     : Nat
  sa     : Nat
  nTags  : Nat
  tpid   : Nat
  vid    : Nat
  pcp    : Nat
  dei    : Bool
  rtag   : Option Nat
  body   : Nat
  etype  : Nat
  l3     : Nat
  dscp   : Nat
  proto  : Nat
  frag   : Bool
  l4Src  : Nat
  l4Dst  : Nat
  ipSrc  : Nat
  ipDst  : Nat
  hdrLen : Option Nat
  deriving DecidableEq, Repr

/-- A tag protocol identifier. -/
def isTpid (t : Nat) : Bool := t == 0x8100 || t == 0x88A8

/-- The parser (R224, R225, R270), over the first 128 bytes. -/
def parseFrame (b : List Byte) : Parsed :=
  let h := b.take 128
  let n := if isTpid (fieldAt h 12 2) then (if isTpid (fieldAt h 16 2) then 2 else 1) else 0
  let body := 12 + 4 * n
  let tci := if n = 0 then 0 else fieldAt h 14 2
  let hasR := fieldAt h body 2 == 0xF1C1
  let rtag := if hasR then some (fieldAt h (body + 4) 2) else none
  let et := if hasR then body + 6 else body
  let etype := fieldAt h et 2
  let ip := et + 2
  let ver := fieldAt h ip 1 / 16
  let l3 := if etype = 0x0800 ∧ ver = 4 then 1 else if etype = 0x86DD ∧ ver = 6 then 2 else 0
  let ihl := if l3 = 1 then fieldAt h ip 1 % 16 * 4 else 40
  let frag := l3 == 1 && fieldAt h (ip + 6) 2 % 8192 != 0
  let proto := if l3 = 1 then fieldAt h (ip + 9) 1 else if l3 = 2 then fieldAt h (ip + 6) 1 else 0
  let hasL4 := (proto == 6 || proto == 17 || proto == 132) && ((l3 == 1 && !frag) || l3 == 2)
  { da := fieldAt h 0 6
    sa := fieldAt h 6 6
    nTags := n
    tpid := if n = 0 then 0 else fieldAt h 12 2
    vid := tci % 4096
    pcp := tci / 8192
    dei := tci / 4096 % 2 == 1
    rtag := rtag
    body := body
    etype := etype
    l3 := l3
    dscp := if l3 = 1 then fieldAt h (ip + 1) 1 / 4 else if l3 = 2 then fieldAt h ip 2 / 16 % 256 / 4 else 0
    proto := proto
    frag := frag
    l4Src := if hasL4 then fieldAt h (ip + ihl) 2 else 0
    l4Dst := if hasL4 then fieldAt h (ip + ihl + 2) 2 else 0
    ipSrc := if l3 = 1 then fieldAt h (ip + 12) 4 else if l3 = 2 then fieldAt h (ip + 8) 16 else 0
    ipDst := if l3 = 1 then fieldAt h (ip + 16) 4 else if l3 = 2 then fieldAt h (ip + 24) 16 else 0
    hdrLen := if l3 = 1 ∧ !frag then some (ip + fieldAt h (ip + 2) 2 + 4)
      else if l3 = 2 then some (ip + 40 + fieldAt h (ip + 4) 2 + 4) else none }

/-- A multicast address; the broadcast address. -/
def isMulticast (mac : Nat) : Bool := mac / 2 ^ 40 % 2 == 1
def isBroadcast (mac : Nat) : Bool := mac == 2 ^ 48 - 1

/-! ## PTP messages in frames (R186) -/

/-- The header of a PTP message in a frame, and the UDP checksum that covers it, by their places. -/
structure PtpAt where
  hdr  : Nat
  csum : Option Nat
  deriving DecidableEq, Repr

/-- The PTP parser: up to two VLAN tags, then EtherType 0x88F7, or UDP to port 319 or 320, the header starting within the
first 96 bytes. -/
def ptpIn (b : List Byte) : Option PtpAt :=
  let p := parseFrame b
  let ip := p.body + 2
  let l4 := if p.l3 = 1 then ip + byteAt b ip % 16 * 4 else ip + 40
  let r : Option PtpAt :=
    if p.rtag.isSome then none
    else if p.etype = 0x88F7 then some ⟨ip, none⟩
    else if p.l3 ≠ 0 && p.proto == 17 && (p.l4Dst == 319 || p.l4Dst == 320) then some ⟨l4 + 8, some (l4 + 6)⟩
    else none
  r.bind (fun x => if x.hdr < 96 ∧ x.hdr + 34 ≤ b.length then some x else none)

/-- The upper-layer protocol behind the extension headers of IPv6, and its place. -/
def pastHeaders (b : List Byte) : Nat → Nat → Nat → Nat × Nat
  | 0, nh, i => (nh, i)
  | n + 1, nh, i =>
    if nh = 0 ∨ nh = 43 ∨ nh = 60 then pastHeaders b n (byteAt b i) (i + 8 * (byteAt b (i + 1) + 1)) else (nh, i)

/-- A PTP message that the parser does not recognise (R186). DESIGN CHOICE: behind an R-TAG, behind extension headers of
IPv6, or with a header beyond the first 96 bytes. -/
def ptpUnparsed (b : List Byte) : Option PtpAt :=
  let p := parseFrame b
  let et := if p.rtag.isSome then p.body + 6 else p.body
  let ip := et + 2
  let (proto, l4) :=
    if p.l3 = 1 then (if p.frag then 0 else p.proto, ip + byteAt b ip % 16 * 4) else pastHeaders b 8 p.proto (ip + 40)
  let port := beNat (slice b (l4 + 2) 2)
  let r : Option PtpAt :=
    if p.etype = 0x88F7 then some ⟨ip, none⟩
    else if p.l3 ≠ 0 && proto == 17 && (port == 319 || port == 320) then some ⟨l4 + 8, some (l4 + 6)⟩
    else none
  if (ptpIn b).isSome then none else r.bind (fun x => if x.hdr + 34 ≤ b.length then some x else none)

/-- messageType and domainNumber of a PTP message in a frame. -/
def ptpType (b : List Byte) (x : PtpAt) : Nat := byteAt b x.hdr % 16
def ptpDomain (b : List Byte) (x : PtpAt) : Nat := byteAt b (x.hdr + 4)

/-- One's complement sum of 16-bit words. -/
def onesAdd (a b : Nat) : Nat := (a + b) % 65536 + (a + b) / 65536

/-- A UDP checksum after a change of bytes at an even place (RFC 1624); a zero checksum stays zero (R188). -/
def csumAfter (old : Nat) (before after : List Byte) : Nat :=
  if old = 0 then 0
  else
    let words (l : List Byte) : List Nat := (List.range (l.length / 2)).map (fun i => beNat (slice l (2 * i) 2))
    let s := (words before).foldl (fun s w => onesAdd s (65535 - w)) (65535 - old)
    65535 - (words after).foldl onesAdd s

/-- A field of a PTP message written by the insertion stage, with the UDP checksum (R187, R188). -/
def putField (b : List Byte) (x : PtpAt) (i : Nat) (new : List Byte) : List Byte :=
  let b' := splice b i new
  match x.csum with
  | none => b'
  | some c => splice b' c (beBytes 2 (csumAfter (beNat (slice b c 2)) (slice b i new.length) new))

/-- correctionField of a PTP message raised by a number of 2^-16 ns (R187, R190). -/
def addCorrection (b : List Byte) (x : PtpAt) (n : Int) : List Byte :=
  putField b x (x.hdr + 8) (beBytes 8 (twosOf (signedOf (beNat (slice b (x.hdr + 8) 8)) 64 + n) 64))

/-! ## Tags (R230, R268, R270) -/

/-- A tag of a TPID with PCP, DEI and VID. -/
def tagBytes (tpid pcp : Nat) (dei : Bool) (vid : Nat) : List Byte :=
  beBytes 2 tpid ++ beBytes 2 (pcp % 8 * 8192 + bitNat dei * 4096 + vid % 4096)

/-- The bytes of a frame without FCS as they leave a port: `untag` removes the first tag, otherwise it carries `vid`; an
untagged frame gains one; DEI is set where `mark` holds on a frame that carries a tag; an R-TAG is inserted after the tags
in place of any carried, or removed. -/
def retag (b : List Byte) (untag : Bool) (vid pcp : Nat) (mark : Bool) (rtag : Option Nat) (pop : Bool) : List Byte :=
  let p := parseFrame b
  let first : List Byte :=
    if untag then []
    else if p.nTags = 0 then tagBytes 0x8100 pcp false vid
    else tagBytes p.tpid p.pcp (p.dei || mark) vid
  let others := if p.nTags = 2 then slice b 16 4 else []
  let rest := if p.rtag.isSome then b.drop (p.body + 6) else b.drop p.body
  let kept := if p.rtag.isSome && !pop then slice b p.body 6 else []
  let r := match rtag with
    | some s => [0xF1, 0xC1, 0, 0] ++ beBytes 2 s
    | none => kept
  b.take 12 ++ first ++ others ++ r ++ rest

/-- The change of length of a frame on a port (R262). -/
def retagDelta (p : Parsed) (untag : Bool) (rtag : Option Nat) (pop : Bool) : Int :=
  (if untag then (if p.nTags = 0 then 0 else -4) else if p.nTags = 0 then 4 else 0) +
    (if rtag.isSome then (if p.rtag.isSome then 0 else 6) else if pop && p.rtag.isSome then -6 else 0)

end Sys2Proof.Machine
end

