-- ==== Sys2Proof/Machine/Cells.lean ====
section
/-! DEFINITION. The shared buffer (R242 to R245, R253 to R256, R274): stored frames, their cells, reference counts, the
two pools, and what retires cells. -/

namespace Sys2Proof.Machine

/-- Cells of the buffer, and of one of its 32 banks. -/
def totalCells : Nat := 294912
def bankCells : Nat := 9216

/-- A stored frame; its change. -/
def Dev.frame (d : Dev) (f : Nat) : Option Stored := tabGet d.sw.frames none f
def Dev.setFrame (d : Dev) (f : Nat) (x : Option Stored) : Dev := d.onSw (fun s => { s with frames := tabSet s.frames none f x })
def Dev.onFrame (d : Dev) (f : Nat) (g : Stored → Stored) : Dev := d.setFrame f ((d.frame f).map g)

/-- Every stored frame. -/
def Dev.allFrames (d : Dev) : List Stored := d.sw.frames.filterMap Prod.snd

/-- The cells in the chains of stored frames, each once. -/
def Dev.usedCells (d : Dev) : List Nat := (d.allFrames.flatMap Stored.cells).dedup

/-- Whether a bank is gated (SW_BUF_GATED), and drains (R306). -/
def Dev.bankGated (d : Dev) (b : Nat) : Bool := bitAt (d.get F.SW_BUF_GATED_BANKS) b
def Dev.bankDrains (d : Dev) (b : Nat) : Bool := d.flag F.PWR_STAT_DRAIN_RUN && d.get F.PWR_STAT_DRAIN_BANK == b

/-- The gated banks; the ungated ones. -/
def Dev.gatedBanks (d : Dev) : List Nat := (List.range 32).filter (fun b => d.bankGated b)
def Dev.openBanks (d : Dev) : List Nat := (List.range 32).filter (fun b => !d.bankGated b)

/-- The four counts of R242. -/
def Dev.bufUsed (d : Dev) : Nat := d.usedCells.length
def Dev.bufRetired (d : Dev) : Nat := d.sw.retired.length
def Dev.bufGated (d : Dev) : Nat := bankCells * d.gatedBanks.length
def Dev.bufFree (d : Dev) : Nat := totalCells - d.bufUsed - d.bufRetired - d.bufGated

/-- AVAIL (R274). -/
def Dev.avail (d : Dev) : Nat := totalCells - d.bufRetired - d.bufGated

/-- The index of a queue's registers and tables: port and class. -/
def qKey (p q : Nat) : Nat := p * 8 + q

/-- A bounded class of a port (R286). -/
def Dev.bounded (d : Dev) (p q : Nat) : Bool := d.flag F.PRT_Q_CFG_BOUNDED (qKey p q)

/-- RES_TOTAL, SHARED_AVAIL, SHARED_USED and RES_USED (R274). -/
def Dev.resTotal (d : Dev) : Nat :=
  ((List.range 256).map (fun k => if d.flag F.PRT_Q_CFG_BOUNDED k then d.get F.PRT_Q_RES_RES_CELLS k else 0)).sum
def Dev.sharedAvail (d : Dev) : Nat := d.avail - d.resTotal
def Dev.sharedUsed (d : Dev) : Nat := (d.allFrames.map (fun f => if f.res then 0 else f.charge)).sum
def Dev.resUsed (d : Dev) : Nat := (d.allFrames.map (fun f => if f.res then f.charge else 0)).sum

/-- BUF_RETIRE_LIMIT holds from 2,949 retired cells on (R255), RES_SHORT while AVAIL is below RES_TOTAL (R275). -/
def Dev.judgeBuf (d : Dev) : Dev :=
  (d.cond .bufRetireLimit (2949 ≤ d.bufRetired)).cond .resShort (decide (d.avail < d.resTotal))

/-- A cell is retired: logged, counted, RESOURCE_RETIRED (R253, R398). -/
def Dev.retireCell (d : Dev) (c : Nat) : Dev :=
  let d := d.onSw (fun s => { s with retired := c :: s.retired.filter (· != c), doomed := s.doomed.filter (· != c) })
  ((d.countDev 280).retireOther 0x07 0 c).judgeBuf

/-- The cells of a frame return to the free list in one operation, but for those to be retired that no other chain
holds (R245, R253, R259). -/
def Dev.freeFrame (d : Dev) (f : Nat) : Dev :=
  match d.frame f with
  | none => d
  | some s =>
    let d := d.setFrame f none
    let still := d.usedCells
    d.each ((s.cells.filter (fun c => d.sw.doomed.contains c && !still.contains c))) Dev.retireCell

/-- One holder gives a frame back; at zero its cells return (R245). -/
def Dev.release (d : Dev) (f : Nat) : Dev :=
  match d.frame f with
  | none => d
  | some s => if s.refs ≤ 1 then d.freeFrame f else d.setFrame f (some { s with refs := s.refs - 1 })

/-- A bank holds a cell of a frame in transmission; the reads granted in the cycle of the `k`-th cell write claim it (R243). -/
def Dev.readsIn (d : Dev) (b : Nat) : Bool :=
  d.sw.tx.any (fun (e : Nat × Option TxNow) => match e.2 with
    | some t => (match d.frame t.link.fid with | some f => f.cells.any (fun c => c / bankCells == b) | none => false)
    | none => false)
def Dev.readClaims (d : Dev) (k b : Nat) : Bool := d.readsIn b && Config.bankRead k b

/-- Free cells of a bank that the write scheduler may assign (R243, R244, R306). -/
def Dev.bankRoom (d : Dev) (taken : List Nat) (b : Nat) : Nat :=
  if d.bankGated b || d.bankDrains b then 0
  else bankCells - ((d.usedCells ++ d.sw.retired ++ taken).filter (fun c => c / bankCells == b)).length

/-- The bank of a list with the most free cells, the first on a tie. -/
def Dev.roomiest (d : Dev) (taken : List Nat) (l : List Nat) : Option Nat :=
  l.foldl (fun best b =>
    match best with
    | none => if 0 < d.bankRoom taken b then some b else none
    | some m => if d.bankRoom taken m < d.bankRoom taken b then some b else some m) none

/-- The bank of a cell write (R243): of those that no read claims in its cycle the one with the most free cells, the
lowest-numbered on a tie; where reads claim every bank with room, the write is assigned in a later cycle. -/
def Dev.writeBank (d : Dev) (taken : List Nat) (k : Nat) : Option Nat :=
  match d.roomiest taken ((List.range 32).filter (fun b => !d.readClaims k b)) with
  | some b => some b
  | none => d.roomiest taken (List.range 32)

/-- A free cell of a bank: which one is not stated; the first free one from a free place on. -/
def Dev.cellIn (d : Dev) (taken : List Nat) (b n : Nat) : Option Nat :=
  let busy := d.usedCells ++ d.sw.retired ++ taken
  let at0 := Config.freeNat n
  ((List.range bankCells).find? (fun k => !busy.contains (b * bankCells + (at0 + k) % bankCells))).map
    (fun k => b * bankCells + (at0 + k) % bankCells)

/-- Up to `n` free cells for a chain. -/
def Dev.pickCells (d : Dev) (seed : Nat) : Nat → List Nat → List Nat
  | 0, taken => taken
  | n + 1, taken =>
    match d.writeBank taken (seed + n) with
    | none => taken
    | some b =>
      match d.cellIn taken b (seed + n) with
      | none => taken
      | some c => d.pickCells seed n (taken ++ [c])

/-- Bank accesses are granted, to reads or to writes (R243). -/
def Dev.useSlots (d : Dev) (n : Nat) : Dev := d.onSw (fun s => { s with slots := s.slots + n })

/-- Gives a stored frame its cells, each written in one bank access. -/
def Dev.giveCells (d : Dev) (f n : Nat) : Dev :=
  let cells := d.pickCells d.freeCtr n []
  let d := d.useSlots cells.length
  { (d.onFrame f (fun s => { s with cells := cells })) with freeCtr := d.freeCtr + n }

/-- Cells of a length in bytes. -/
def cellsOf (len : Nat) : Nat := (len + 255) / 256

end Sys2Proof.Machine
end

