-- ==== Sys2Proof/Machine/SynOps.lean ====
section
/-! DEFINITION. Operations of the synthesizers and of the clock and pulse outputs (05_synthesis_outputs.md, R111 to R133):
band search and acquisition, lock, freeze, phase steps, schedules and alignment. Times of edges are kept in
2^-16 ns / 1000, of which 65,536 make 1 ps. -/

namespace Sys2Proof.Machine

/-- A synthesizer; an output. -/
def Dev.syn (d : Dev) (i : Nat) : Syn := tabGet d.syns Syn.init i
def Dev.onSyn (d : Dev) (i : Nat) (f : Syn → Syn) : Dev := { d with syns := tabSet d.syns Syn.init i (f (d.syn i)) }
def Dev.out (d : Dev) (n : Nat) : OutSt := tabGet d.outs OutSt.init n
def Dev.onOut (d : Dev) (n : Nat) (f : OutSt → OutSt) : Dev := { d with outs := tabSet d.outs OutSt.init n (f (d.out n)) }

/-- Sets a bit of SYN_STAT, or of OUT_STAT, with CHANGED. -/
def Dev.synBit (d : Dev) (f : Fld) (b : Bool) (i : Nat) : Dev := d.setMark f (bitNat b) F.SYN_STAT_CHANGED i
def Dev.outBit (d : Dev) (f : Fld) (b : Bool) (n : Nat) : Dev := d.setMark f (bitNat b) F.OUT_STAT_CHANGED n

/-- A synthesizer has declared lock; has been retired. -/
def Dev.synLocked (d : Dev) (i : Nat) : Bool := d.flag F.SYN_STAT_LOCKED i
def Dev.synRetired (d : Dev) (i : Nat) : Bool := d.flag F.SYN_STAT_RETIRED i

/-- W as last applied (R113, R359): a write of SYN_FREQ_LO is stored until one of HI; the half in force is kept as unit
10 + i of that register. -/
def Dev.synW (d : Dev) (i : Nat) : Nat := d.get F.SYN_FREQ_HI_W i * 2 ^ 32 + d.get F.SYN_FREQ_LO_W (10 + i)

/-- One nanosecond, one second in the unit of output edges. -/
def fineNs : Nat := 65536 * 1000
def fineSec : Nat := secUnit * 1000

/-- The time bus in the unit of output edges. -/
def Dev.fineNow (d : Dev) : Int := ((d.now * 1000 : Nat) : Int)

/-! ## Outputs -/

/-- The format in force: FMT 5 to 7 are taken as OFF (R120). -/
def Dev.outFmt (d : Dev) (n : Nat) : Nat := let f := d.get F.OUT_CFG_FMT n; if f ≥ 5 then 0 else f
/-- The mode in force: 0 CLOCK, 1 PULSE, 2 FRAME; 3 is taken as CLOCK. -/
def Dev.outMode (d : Dev) (n : Nat) : Nat := let m := d.get F.OUT_CFG_MODE n; if m = 3 then 0 else m
/-- EN with a format other than OFF. -/
def Dev.outEn (d : Dev) (n : Nat) : Bool := d.flag F.OUT_CFG_EN n && d.outFmt n != 0
/-- The sibling of an output. -/
def sibling (n : Nat) : Nat := if n % 2 = 0 then n + 1 else n - 1
/-- An OSYN has an output enabled with a format other than OFF. -/
def Dev.osynWanted (d : Dev) (k : Nat) : Bool := d.outEn (2 * k) || d.outEn (2 * k + 1)

/-- PERIOD as it is in force (R133; the low half in force is unit 8 + n of OUT_PER_LO, R359), and OFS of an output. -/
def Dev.outPer (d : Dev) (n : Nat) : Nat := d.get F.OUT_PER_HI_PER n * 2 ^ 32 + d.get F.OUT_PER_LO_PER (8 + n)
def Dev.outOfs (d : Dev) (n : Nat) : Int := signedOf (d.get F.OUT_OFS_HI_OFS n * 2 ^ 32 + d.get F.OUT_OFS_LO_OFS n) 40

/-- PERIOD in PULSE mode, PERIOD_CYC in FRAME mode, held to its range (R124, R125, R133). DEDUCED: in CLOCK mode, where the
field has no meaning, a written value is kept as it is, and is held to the range of the mode that comes to use it. -/
def clampPer (mode p : Nat) : Nat :=
  match mode with
  | 1 => clampNat 1000000 1000000000000 p
  | 2 => clampNat 2 (2 ^ 32 - 1) p
  | _ => p

/-- The period of an output as a fraction (numerator, denominator) in the unit of output edges: PERIOD in PULSE mode,
DIV / f_VCO in CLOCK mode, PERIOD_CYC sibling cycles in FRAME mode (R113, R124, R125). -/
def Dev.outPeriod (d : Dev) (n : Nat) : Nat × Nat :=
  let w := (d.syn (n / 2)).wUse
  let clk (div : Nat) : Nat × Nat := (div * 2 ^ 40 * 10 * fineNs, w)
  match d.outMode n with
  | 1 => ((d.out n).period * 65536, 1)
  | 2 => clk ((d.out n).period * d.get F.OUT_CFG_DIV (sibling n))
  | _ => clk (d.get F.OUT_CFG_DIV n)

/-- The common period of the outputs of a pair that are enabled in CLOCK or FRAME mode (R129, R130). -/
def Dev.commonPeriod (d : Dev) (n : Nat) : Nat × Nat :=
  let (a, b) := d.outPeriod n
  if d.outMode n = 1 then (a, b)
  else
    let m := sibling n
    if d.outEn m && d.outMode m != 1 then (Nat.lcm a (d.outPeriod m).1, b) else (a, b)

/-- A value reduced into (−P/2, +P/2], P = a / b. -/
def reduceHalf (x : Int) (a b : Nat) : Int :=
  if a = 0 || b = 0 then 0
  else
    let r := (x * b) % a
    divFree (if 2 * r > a then r - a else r) b

/-- Whether a phase step of the OSYN moves an output: enabled in CLOCK or FRAME mode (R126). -/
def Dev.moved (d : Dev) (n : Nat) : Bool := d.outEn n && d.outMode n != 1

/-- The phase-detector frequency in MHz (R112). -/
def fPd (refMode : Nat) : Nat := match refMode with | 0 => 100 | 2 => 50 | _ => 200

/-- How far a running step has come (R126): 1 ps for 16^RATE phase-detector cycles. -/
def stepDone (p : PhaseStep) (mhz : Nat) (now : Int) : Int :=
  let cycles := ((now - p.start).toNat * mhz) / (1000 * fineNs)
  let ps : Nat := cycles / 16 ^ p.rate
  let most := p.size.natAbs
  let x : Int := (min (ps * 65536) most : Nat)
  if p.size < 0 then -x else x

/-- A step of an OSYN is running (R126). -/
def Dev.stepRuns (d : Dev) (i : Nat) : Bool :=
  match (d.syn i).step with
  | some p => p.runs
  | none => false

/-- How far a running step of its OSYN has moved an output (R126). -/
def Dev.stepMoved (d : Dev) (n : Nat) : Int :=
  match (d.syn (n / 2)).step with
  | some p => if p.runs && d.moved n then stepDone p (fPd (d.syn (n / 2)).refMode) d.fineNow else 0
  | none => 0

/-- An edge of the running schedule or divider, moved by as much as a step of its OSYN has come (R126). -/
def Dev.edgeBase (d : Dev) (n : Nat) : Int := (d.out n).anchor + d.stepMoved n

/-- From now on the schedule or divider counts from an edge at an instant; `prev` is the last edge before it where it lies
ahead. -/
def Dev.placeEdge (d : Dev) (n : Nat) (t : Int) (prev : Option Int) : Dev :=
  d.onOut n (fun o => { o with anchor := t - d.stepMoved n, prev := prev })

/-- Edge k of a train of period a / b. -/
def edgeAt (base : Int) (a b : Nat) (k : Int) : Int := base + divFree (k * a) b

/-- The latest edge of an output that is not after now, and the first that is not before it; a train that begins ahead has
before its first edge the last one of the train that it replaces, if there is one. -/
def Dev.lastEdge (d : Dev) (n : Nat) : Int :=
  let (a, b) := d.outPeriod n
  let base := d.edgeBase n
  if d.fineNow < base then (d.out n).prev.getD base
  else if a = 0 || b = 0 then base else edgeAt base a b ((d.fineNow - base) * b / a)
def Dev.nextEdge (d : Dev) (n : Nat) : Int :=
  let (a, b) := d.outPeriod n
  let base := d.edgeBase n
  if a = 0 || b = 0 then base else edgeAt base a b (max 0 (-((base - d.fineNow) * b / a)))

/-- An edge of an output on which the sibling that shares its common period has one too (R129): of the two trains
base + k × a / b, both counted in cycles of one VCO. Where they never coincide it is any edge of the output. -/
def Dev.pairEdge (d : Dev) (n : Nat) : Int :=
  let m := sibling n
  let base := d.edgeBase n
  let (a, b) := d.outPeriod n
  let (a', _) := d.outPeriod m
  if d.outMode n = 1 || !d.moved m || !(d.out m).started || a = 0 || a' = 0 || b = 0 then base
  else
    let cycle := 2 ^ 40 * 10 * fineNs
    let apart := roundDiv ((d.edgeBase m - base) * b) cycle * cycle
    let g := Nat.gcd a a'
    if apart % g ≠ 0 then base
    else edgeAt base a b ((apart / g * Nat.gcdA (a / g) (a' / g)) % (a' / g))

/-- The misalignment of an output in the unit of output edges (R129): its latest edge, of a CLOCK or FRAME output the latest
that coincides with one of its pair, less the place of the aligned edge, which starts anew at each whole second; zero while
ALIGNED or disabled. -/
def Dev.misalign (d : Dev) (n : Nat) : Int :=
  if !d.outEn n || d.flag F.OUT_STAT_ALIGNED n || !(d.out n).started then 0
  else
    let ofs : Int := if d.outMode n = 1 then d.outOfs n * 65536 else 0
    let (a, b) := d.commonPeriod n
    let base := d.pairEdge n
    let e := if d.outMode n = 1 || a = 0 then d.lastEdge n else edgeAt base a b ((d.fineNow - base) * b / a)
    reduceHalf ((e - ofs) % fineSec) a b

/-- The first time of the form (whole second + OFS + k × PERIOD) at or after an instant, OFS reduced modulo PERIOD and
the series starting anew at each whole second (R124, R131). -/
def firstAligned (lead ofs : Int) (period : Nat) : Int :=
  if period = 0 then lead
  else
    let o := ofs % period
    let s := lead / fineSec * fineSec
    let base := s + o
    let k := if lead ≤ base then 0 else (lead - base + period - 1) / period
    min (base + k * period) (if lead ≤ s + fineSec + o - fineSec then s + o else s + fineSec + o)

/-- The first whole second at or after an instant. -/
def firstSecond (lead : Int) : Int := (lead + fineSec - 1) / fineSec * fineSec

/-- The first edge of the sibling of a FRAME output that falls on a whole second at or after an instant (R125): the
sibling's edges are base + k × a / b, and of the whole seconds the first is taken that is one of them. None while the
sibling has no edges or a step moves them, or where no whole second is one. -/
def Dev.frameEdge (d : Dev) (n : Nat) (lead : Int) : Option Int :=
  let m := sibling n
  let (a, b) := d.outPeriod m
  match (if (d.out m).started then (if d.stepRuns (n / 2) then none else some (d.edgeBase m)) else (d.out m).due) with
  | none => none
  | some base =>
    if a = 0 || b = 0 then none
    else
      let s := firstSecond (max lead base)
      let c := ((s - base) * b) % a
      let g := fineSec * b % a
      let h := Nat.gcd g a
      if c % h ≠ 0 then none else some (s + (-(c / h) * Nat.gcdA (g / h) (a / h)) % (a / h) * fineSec)

/-- The instant due for the first edge of an output that can drive from now (R122, R124, R125): at least 100 µs ahead. -/
def Dev.firstEdge (d : Dev) (n : Nat) : Option Int :=
  let lead := d.fineNow + 100000 * fineNs
  match d.outMode n with
  | 1 => some (firstAligned lead (d.outOfs n * 65536) ((d.out n).period * 65536))
  | 2 => d.frameEdge n lead
  | _ => some (firstSecond lead)

/-- WIDTH or WIDTH_CYC in force, held to the range of the mode (R124, R125, R133). -/
def Dev.widthTake (d : Dev) (n v : Nat) : Nat :=
  let p := clampPer (d.outMode n) (d.outPer n)
  match d.outMode n with
  | 1 => clampNat 10 (p / 1000 - 10) v
  | 2 => clampNat 1 (p - 1) v
  | _ => v

/-- The width of a pulse in the unit of output edges. -/
def Dev.pulseWidth (d : Dev) (n : Nat) : Int :=
  let v := d.widthTake n (d.get F.OUT_WIDTH_WIDTH n)
  if d.outMode n = 1 then v * fineNs else let (a, b) := d.outPeriod (sibling n); divFree (v * a) b

/-- The falling edge of the pulse that rises at an instant (R124, R125): a pulse that a write of OUT_WIDTH has found in
progress keeps its own (R133). -/
def Dev.pulseFall (d : Dev) (n : Nat) (rise : Int) : Int :=
  match (d.out n).kept with
  | some (r, f) => if r = rise then f else rise + d.pulseWidth n
  | none => rise + d.pulseWidth n

/-- An edge that leaves at an output, with the falling edge of a pulse. -/
def Dev.emitEdge (d : Dev) (n : Nat) (t : Int) : Dev :=
  d.emit (.outEdge n (t / 1000).toNat (if d.outMode n = 0 then none else some (d.pulseFall n t / 1000).toNat))

/-- An old pulse that would rise at an instant is suppressed by the pending alignment (R131). -/
def Dev.suppressed (d : Dev) (n : Nat) (rise : Int) : Bool :=
  match (d.out n).alignAt with
  | some ta => d.outMode n == 1 && decide (ta - d.pulseWidth n ≤ rise)
  | none => false

/-- The pin of an output at this instant (R10, R24, R121, R124, R125): high-impedance, the static low state of its format,
the divided clock, or the level of its pulse train, which INVERT turns. -/
def Dev.outPin (d : Dev) (n : Nat) : PinDrive :=
  if !d.flag F.OUT_STAT_DRIVING n then .hiZ
  else if d.flag F.OUT_STAT_SQUELCHED n then .low
  else if d.outMode n = 0 then .clock
  else
    let e := d.lastEdge n
    let high := decide (e ≤ d.fineNow) && decide (d.fineNow < d.pulseFall n e) && !d.suppressed n e
    if high != d.flag F.OUT_CFG_INVERT n then .high else .low

/-- The legs OUTn_P and OUTn_N (R405, R418): of an LVCMOS output N is high-impedance; in the differential formats it is the
complement of P, so that the static low state is P below N. -/
def Dev.outLegs (d : Dev) (n : Nat) : PinDrive × PinDrive :=
  let p := d.outPin n
  if d.outFmt n = 4 then (p, .hiZ)
  else (p, match p with | .low => .high | .high => .low | q => q)

/-- An output may drive edges (R121): its OSYN has declared lock, or runs and the condition is waived. -/
def Dev.mayDrive (d : Dev) (n : Nat) : Bool :=
  d.synLocked (n / 2) || (d.flag F.OUT_CFG_ALLOW_UNLOCKED n && (d.syn (n / 2)).runs)

/-- OUT_STAT follows the output (R121): high-impedance while disabled or while no timebase is ACTIVE (R315), UNLOCK_ACT
until its first edge, driven otherwise. -/
def Dev.refreshOut (d : Dev) (n : Nat) : Dev :=
  if !d.outEn n then
    let d := d.onOut n (fun _ => OutSt.init)
    ((((d.outBit F.OUT_STAT_DRIVING false n).outBit F.OUT_STAT_SQUELCHED false n).outBit F.OUT_STAT_ALIGNED false n).outBit
      F.OUT_STAT_ARMED false n).outBit F.OUT_STAT_ALIGN_PEND false n
  else
    let sq := !(d.out n).started
    let drive := d.anyActive && !d.synRetired (n / 2) && !(sq && d.get F.OUT_CFG_UNLOCK_ACT n == 1)
    (d.outBit F.OUT_STAT_SQUELCHED sq n).outBit F.OUT_STAT_DRIVING drive n

/-- Drops the running schedule or divider of an output, with a pending alignment. -/
def Dev.dropOut (d : Dev) (n : Nat) : Dev :=
  let d := d.onOut n (fun o => { o with started := false, due := none, alignAt := none, kept := none, prev := none })
  ((d.outBit F.OUT_STAT_ALIGNED false n).outBit F.OUT_STAT_ALIGN_PEND false n).refreshOut n

/-- An enabled output begins as soon as it can drive (R122, R124, R125): its first edge becomes due; with ALLOW_UNLOCKED a
divider starts at once and is not aligned. -/
def Dev.beginOut (d : Dev) (n : Nat) : Dev :=
  if !d.outEn n || (d.out n).started then d
  else if !d.mayDrive n then d.refreshOut n
  else
    let d := d.onOut n (fun o => { o with period := clampPer (d.outMode n) (d.outPer n) })
    if d.flag F.OUT_CFG_ALLOW_UNLOCKED n && d.outMode n == 0 then
      ((((d.onOut n (fun o => { o with started := true, due := none })).placeEdge n d.fineNow none).outBit
        F.OUT_STAT_ALIGNED false n).refreshOut n).emitEdge n d.fineNow
    else if (d.out n).due.isSome then d
    else (d.onOut n (fun o => { o with due := d.firstEdge n })).refreshOut n

/-- The first edge of a FRAME output that waits is placed anew where the edges of its sibling have moved (R125). -/
def Dev.redueFrame (d : Dev) (k : Nat) : Dev :=
  d.each [2 * k, 2 * k + 1] (fun d n => d.when (d.outEn n && d.outMode n == 2 && !(d.out n).started && d.mayDrive n)
    (fun d => d.onOut n (fun o => { o with due := d.firstEdge n })))

/-- Both outputs of an OSYN begin, a FRAME output after the sibling whose edges it needs. -/
def Dev.beginPair (d : Dev) (k : Nat) : Dev :=
  let l := [2 * k, 2 * k + 1]
  d.each (l.filter (d.outMode · != 2) ++ l.filter (d.outMode · == 2)) Dev.beginOut

/-! ## Steps -/

/-- Clears ALIGNED on both outputs of an OSYN. -/
def Dev.unalign (d : Dev) (k : Nat) : Dev :=
  (d.outBit F.OUT_STAT_ALIGNED false (2 * k)).outBit F.OUT_STAT_ALIGNED false (2 * k + 1)

/-- Moves the edges of the outputs that a step moves. -/
def Dev.moveOuts (d : Dev) (k : Nat) (x : Int) : Dev :=
  d.each [2 * k, 2 * k + 1] (fun d n => d.when (d.moved n) (fun d => d.onOut n (fun o => { o with anchor := o.anchor + x })))

/-- Ends the step of an OSYN that has not completed: a pending one is cancelled, a running one is abandoned where it
stands; the result is CANCELLED or RETIRED (R127, R128). -/
def Dev.endStep (d : Dev) (i result : Nat) : Dev :=
  match (d.syn i).step with
  | none => d
  | some p =>
    let d := if p.runs then d.moveOuts i (stepDone p (fPd (d.syn i).refMode) d.fineNow) else d
    let d := ((d.onSyn i (fun s => { s with step := none })).redueFrame i).synBit F.SYN_STAT_STEP_RUN false i
    (d.synBit F.SYN_STAT_STEP_PEND false i).set F.SYN_CMD_RESULT result i

/-- Starts a step (R126): ALIGNED clears on the outputs it moves. -/
def Dev.startStep (d : Dev) (i : Nat) (p : PhaseStep) : Dev :=
  let d := d.onSyn i (fun s => { s with step := some { p with runs := true, start := d.fineNow } })
  let d := ((d.synBit F.SYN_STAT_STEP_PEND false i).synBit F.SYN_STAT_STEP_RUN true i).redueFrame i
  d.each [2 * i, 2 * i + 1] (fun d n => d.when (d.moved n) (fun d => d.outBit F.OUT_STAT_ALIGNED false n))

/-! ## Acquisition -/

/-- The entry that a band search finds in a bank for W (R114): the lowest-numbered valid one with F_LO ≤ f_VCO ≤ F_HI. -/
def Dev.bandSearch (d : Dev) (i w : Nat) : Option Nat :=
  let bank := d.get F.SYN_CFG_BANK_SEL i
  (List.range 64).find? (fun e =>
    let u := (i * 2 + bank) * 64 + e
    d.flag F.SYN_BAND_W0_VALID u && d.get F.SYN_BAND_W0_F_LO u * 2 ^ 40 ≤ w * 100000 &&
    w * 100000 ≤ d.get F.SYN_BAND_W1_F_HI u * 2 ^ 40)

/-- The code that a band search finds. -/
def Dev.bandCode (d : Dev) (i w : Nat) : Option Nat :=
  (d.bandSearch i w).map (fun e => d.get F.SYN_BAND_W0_CODE ((i * 2 + d.get F.SYN_CFG_BANK_SEL i) * 64 + e))

/-- Whether W lies within the band in use: the entry, of the bank that its search took, with which the VCO is tuned. -/
def Dev.inBand (d : Dev) (i w : Nat) : Bool :=
  let u := (i * 2 + (d.syn i).bank) * 64 + d.get F.SYN_STAT_BAND_ENTRY i
  d.get F.SYN_BAND_W0_F_LO u * 2 ^ 40 ≤ w * 100000 && w * 100000 ≤ d.get F.SYN_BAND_W1_F_HI u * 2 ^ 40

/-- Squelches the outputs of an OSYN that lost its lock, except those allowed to drive unlocked (R121). -/
def Dev.squelch (d : Dev) (k : Nat) : Dev :=
  if 4 ≤ k then d
  else d.each [2 * k, 2 * k + 1] (fun d n =>
    let d := d.outBit F.OUT_STAT_ALIGNED false n
    if d.flag F.OUT_CFG_ALLOW_UNLOCKED n then d else d.dropOut n)

/-- W that an acquisition now would tune to: held by a freeze (R118), in use, or, of a stopped OSYN, as written. -/
def Dev.wPresent (d : Dev) (i : Nat) : Nat :=
  match (d.syn i).wHeld with
  | some w => w
  | none => if (d.syn i).runs then (d.syn i).wUse else d.synW i

/-- The dividers of an OSYN's outputs keep their phase when W changes: from now on their cycles are longer or shorter. -/
def Dev.retime (d : Dev) (i w : Nat) : Dev :=
  if 4 ≤ i then d
  else d.each [2 * i, 2 * i + 1] (fun d n =>
    d.when ((d.out n).started && d.outMode n != 1 && w != 0) (fun d =>
      let e := if d.fineNow < d.edgeBase n then d.edgeBase n else d.lastEdge n
      d.placeEdge n (d.fineNow - divFree ((d.fineNow - e) * (d.syn i).wUse) w) (d.out n).prev))

/-- Retunes a running OSYN within its band (R119, R133). -/
def Dev.retuneTo (d : Dev) (i w : Nat) : Dev :=
  let d := (d.retime i w).onSyn i (fun s => { s with wUse := w, wHeld := none, wroteAt := some d.now })
  d.when (i < 4) (·.redueFrame i)

/-- Starts an acquisition (R114, R115, R128), or keeps it for the end of a freeze (R118); without a timebase clock nothing
starts (R315). -/
def Dev.acquire (d : Dev) (i w : Nat) : Dev :=
  if d.synRetired i || !d.anyActive then d
  else if d.flag F.TB_HB_STAT_FROZEN then d.onSyn i (fun s => { s with acqHeld := true, wHeld := some w })
  else match d.bandSearch i w with
    | none =>
      ((d.synBit F.SYN_STAT_BAND_MISS true i).raise .synBandMiss).devEvent (i < 4 || i == 9) 0x128 i
    | some e =>
      let d := ((d.endStep i 8).retime i w).onSyn i (fun s => { s with
        runs := true, wUse := w, bank := d.get F.SYN_CFG_BANK_SEL i, wHeld := none, acqHeld := false, wroteAt := none, refMode := d.get F.SYN_CFG_REF_MODE i })
      let d := (d.synBit F.SYN_STAT_BAND_MISS false i).synBit F.SYN_STAT_ACQ_FAIL false i
      let d := ((d.synBit F.SYN_STAT_LOCKED false i).synBit F.SYN_STAT_ACQUIRING true i).set F.SYN_STAT_BAND_ENTRY e i
      let d := (d.countDev (202 + i)).squelch i
      if i < 4 then d.beginPair i else d

/-- Stops a synthesizer (R114, R116, R128). -/
def Dev.stopSyn (d : Dev) (i : Nat) : Dev :=
  let d := (d.endStep i 8).onSyn i (fun s => { s with
    runs := false, wUse := 0, wHeld := none, acqHeld := false, rejoins := false, wroteAt := none })
  let d := (d.synBit F.SYN_STAT_LOCKED false i).synBit F.SYN_STAT_ACQUIRING false i
  if 4 ≤ i then d else (d.dropOut (2 * i)).dropOut (2 * i + 1)

/-- Starts an internal synthesizer, at its fixed word (R111, R114). LPLL2 and LPLL3 never start on XM1624-S. -/
def Dev.startInternal (d : Dev) (i : Nat) : Dev :=
  if (d.syn i).runs || (d.small && (i == 7 || i == 8)) then d else d.acquire i (synResetW i)

/-- The pending work of the OSYNs that R128 names for R42: a STEP_AT until its step completes, a running step, a pending
alignment of an output. -/
def Dev.synPending (d : Dev) : Bool :=
  (List.range 4).any (fun i => (d.syn i).step.isSome) || (List.range 8).any (fun n => (d.out n).alignAt.isSome)

/-- After a step of the time counter every output keeps its physical phase and clears ALIGNED (R129), as does an aligned edge
that an input has placed; a first edge still due is placed anew by the counter. -/
def Dev.outsStepped (d : Dev) (x : Int) : Dev :=
  let d := d.each (List.range 4) (fun d i => d.onSyn i (fun s => { s with
    step := s.step.map (fun p => { p with start := p.start + x * 1000 })
    wroteAt := s.wroteAt.map (fun t => shiftTicks t x) }))
  d.each (List.range 8) (fun d n =>
    let d := d.onOut n (fun o => { o with
      anchor := o.anchor + x * 1000
      alignAt := o.alignAt.map (· + x * 1000)
      prev := o.prev.map (· + x * 1000)
      kept := o.kept.map (fun k => (k.1 + x * 1000, k.2 + x * 1000)) })
    let d := d.outBit F.OUT_STAT_ALIGNED false n
    if (d.out n).due.isSome then d.onOut n (fun o => { o with due := d.firstEdge n }) else d)

/-- The freeze holds every synthesizer at its word (R95): SYN_STAT.FROZEN; those locked will declare lock again, and an
acquisition in progress starts again when the freeze ends (R118). -/
def Dev.freezeSyns (d : Dev) : Dev :=
  d.each (List.range 10) (fun d i =>
    if !(d.syn i).runs then d
    else
      let locked := d.synLocked i
      let w := (d.syn i).wUse
      let d := d.synBit F.SYN_STAT_FROZEN true i
      d.onSyn i (fun s => { s with
        rejoins := locked
        acqHeld := s.acqHeld || !locked
        wHeld := if locked then s.wHeld else some w }))

/-- What a freeze has held is applied: W within the band, or an acquisition (R118). -/
def Dev.releaseSyns (d : Dev) : Dev :=
  d.each (List.range 10) (fun d i =>
    let s := d.syn i
    let d := (d.synBit F.SYN_STAT_FROZEN false i).onSyn i (fun s => { s with rejoins := false, acqHeld := false, wHeld := none })
    match s.wHeld with
    | none => if s.acqHeld then d.acquire i s.wUse else d
    | some w => if s.acqHeld then d.acquire i w else d.retuneTo i w)

/-- SYN_RETIRED holds while a synthesizer is retired (R398). -/
def Dev.synAlarm (d : Dev) : Dev := d.cond .synRetired ((List.range 10).any (fun i => d.synRetired i))

/-! ## Commands to synthesizers -/

/-- A refused SYN_CMD command of STEP, STEP_AT or RESYNC: the result and its counter (R127). -/
def Dev.synRefuse (d : Dev) (i r : Nat) : Dev := (d.set F.SYN_CMD_RESULT r i).countDev (192 + i)

/-- A write that may have changed the code found for the present f_VCO of an OSYN in use, from `old` (R114): if it has, an
acquisition starts, of a stopped OSYN too. -/
def Dev.recode (d : Dev) (i : Nat) (old : Option Nat) : Dev :=
  if i < 4 && d.osynWanted i && d.bandCode i (d.wPresent i) ≠ old then d.acquire i (d.wPresent i) else d

/-- SYN_CFG_WRITE (R112, R114): of an OSYN, a change of REF_MODE acquires, a change of BANK_SEL acquires where the code
found changes; of an internal synthesizer it is stored for the next start. -/
def Dev.synCfgWrite (d : Dev) (i : Nat) (v : Word) : Dev :=
  let oldRef := d.get F.SYN_CFG_REF_MODE i
  let oldCode := d.bandCode i (d.wPresent i)
  let d := (d.set F.SYN_CFG_REF_MODE v.toNat i).set F.SYN_CFG_BANK_SEL (v.toNat / 16) i
  if 4 ≤ i then d
  else if d.get F.SYN_CFG_REF_MODE i ≠ oldRef && d.osynWanted i then d.acquire i (d.wPresent i)
  else d.recode i oldCode

/-- BAND_ENTRY_WRITE (R114, R133): a word of a band entry; in the active bank of an OSYN in use an acquisition starts if the
code found for the present f_VCO changes. -/
def Dev.bandEntryWrite (d : Dev) (i bank e word : Nat) (v : Word) : Dev :=
  let oldCode := d.bandCode i (d.wPresent i)
  let u := (i * 2 + bank) * 64 + e
  let d := if word = 0 then
      ((d.set F.SYN_BAND_W0_F_LO v.toNat u).set F.SYN_BAND_W0_CODE (v.toNat / 2 ^ 24) u).set F.SYN_BAND_W0_VALID (v.toNat / 2 ^ 31) u
    else d.set F.SYN_BAND_W1_F_HI v.toNat u
  d.recode i oldCode

/-- SYN_FREQ_HI_WRITE (R119, R133): applies W of an OSYN: within the band in use without an acquisition, else with one; in
a freeze it is held; ALIGNED clears and steps end. DEDUCED: a stopped OSYN in use has no band in use, so that the write
starts an acquisition (R116). Internal synthesizers are read-only. -/
def Dev.synFreqHiWrite (d : Dev) (i : Nat) (v : Word) : Dev :=
  if 4 ≤ i then d
  else
    let d := d.set F.SYN_FREQ_HI_W (clampNat 0x1E00 0x3C00 (lowBits v.toNat 16)) i
    let d := d.setWord .SYN_FREQ_LO (10 + i) (d.word .SYN_FREQ_LO i)
    let w := d.synW i
    if !(d.syn i).runs then (if d.osynWanted i then d.acquire i w else d)
    else
      let inside := d.inBand i w
      let d := (d.unalign i).endStep i 8
      if d.flag F.TB_HB_STAT_FROZEN then
        d.onSyn i (fun s => { s with wHeld := some w, acqHeld := s.acqHeld || !inside })
      else if inside then d.retuneTo i w
      else d.acquire i w

/-- RETUNE (R114): refused FIXED, RETIRED or BAD_MODE, else an acquisition. -/
def Dev.retune (d : Dev) (i : Nat) : Dev :=
  if 4 ≤ i then d.set F.SYN_CMD_RESULT 0xA i
  else if d.synRetired i then d.set F.SYN_CMD_RESULT 9 i
  else if !d.osynWanted i then d.set F.SYN_CMD_RESULT 6 i
  else (d.acquire i (d.synW i)).set F.SYN_CMD_RESULT 1 i

/-- STEP (R127). -/
def Dev.synStep (d : Dev) (i : Nat) : Dev :=
  if 4 ≤ i then d.synRefuse i 0xA
  else if (d.syn i).step.isSome then d.synRefuse i 4
  else if !d.synLocked i then d.synRefuse i 5
  else
    let p : PhaseStep := ⟨signedOf (d.get F.SYN_STEP_STEP_PS i) 21 * 65536, d.get F.SYN_STEP_RATE i, 0, true, false⟩
    (d.startStep i p).set F.SYN_CMD_RESULT 1 i

/-- STEP_AT (R127): refusals FIXED, TIME_UNSET, BUSY, NOT_LOCKED, RANGE, LATE in this order. -/
def Dev.synStepAt (d : Dev) (i : Nat) : Dev :=
  if 4 ≤ i then d.synRefuse i 0xA
  else if d.mir.state = .unset then d.synRefuse i 3
  else if (d.syn i).step.isSome then d.synRefuse i 4
  else if !d.synLocked i then d.synRefuse i 5
  else match ticksOf (d.word .SYN_STEP_T0 i) (d.word .SYN_STEP_T1 i) (d.word .SYN_STEP_T2 i) (d.word .SYN_STEP_T3 i) with
    | none => d.synRefuse i 7
    | some t =>
      if t < d.now + 100000 * nsUnit then d.synRefuse i 2
      else
        let p : PhaseStep := ⟨signedOf (d.get F.SYN_STEP_STEP_PS i) 21 * 65536, d.get F.SYN_STEP_RATE i, ((t * 1000 : Nat) : Int), false, false⟩
        let d := d.onSyn i (fun s => { s with step := some p })
        (d.synBit F.SYN_STAT_STEP_PEND true i).set F.SYN_CMD_RESULT 1 i

/-- RESYNC (R130): refusals FIXED, TIME_UNSET, BAD_MODE, BUSY, NOT_LOCKED, RANGE in this order; else a step of −m. -/
def Dev.synResync (d : Dev) (i : Nat) : Dev :=
  if 4 ≤ i then d.synRefuse i 0xA
  else if d.mir.state = .unset then d.synRefuse i 3
  else if !d.moved (2 * i) && !d.moved (2 * i + 1) then d.synRefuse i 6
  else if (d.syn i).step.isSome then d.synRefuse i 4
  else if !d.synLocked i then d.synRefuse i 5
  else
    let m := d.misalign (if d.moved (2 * i) then 2 * i else 2 * i + 1)
    if m.natAbs > 1000000 * 65536 then d.synRefuse i 7
    else (d.startStep i ⟨-m, d.get F.SYN_STEP_RATE i, 0, true, true⟩).set F.SYN_CMD_RESULT 1 i

/-- STEP_CANCEL (R127): cancels a pending step or abandons a running one with CANCELLED; FIXED for an internal one. With no
step there is nothing to cancel and the command is done. -/
def Dev.synCancel (d : Dev) (i : Nat) : Dev :=
  if 4 ≤ i then d.set F.SYN_CMD_RESULT 0xA i
  else if (d.syn i).step.isNone then d.set F.SYN_CMD_RESULT 1 i
  else d.endStep i 8

/-- STEP_AT_START (R127): the time of a pending step is reached. -/
def Dev.stepAtStart (d : Dev) (i : Nat) : Dev :=
  match (d.syn i).step with
  | some p => if p.runs then d else d.startStep i p
  | none => d

/-- STEP_COMPLETE (R126, R130): the outputs have moved by the step, with which the edges of a RESYNC stand where the aligned ones
do; it sets ALIGNED on them. A FRAME output that waits places its first edge by the moved edges of its sibling (R125). -/
def Dev.stepComplete (d : Dev) (i : Nat) : Dev :=
  match (d.syn i).step with
  | some p =>
    if !p.runs then d
    else
      let d := (d.moveOuts i p.size).onSyn i (fun s => { s with step := none })
      let d := (d.synBit F.SYN_STAT_STEP_RUN false i).redueFrame i
      d.when p.resync (fun d => d.each [2 * i, 2 * i + 1] (fun d n =>
        d.when (d.moved n && (d.out n).started) (fun d => d.outBit F.OUT_STAT_ALIGNED true n)))
  | none => d

/-- SYN_ACQ_TIMEOUT (R116): an acquisition that has not declared lock within 2 ms stops the synthesizer. -/
def Dev.synAcqTimeout (d : Dev) (i : Nat) : Dev :=
  if !d.flag F.SYN_STAT_ACQUIRING i || d.flag F.SYN_STAT_FROZEN i then d
  else (((d.stopSyn i).synBit F.SYN_STAT_ACQ_FAIL true i).raise .synAcqFail).devEvent (i < 4 || i == 9) 0x129 i

/-! ## Commands to outputs -/

/-- Whether an output with these values is in a combination that R120 allows, its sibling having a mode. -/
def Dev.outAllowed (d : Dev) (n : Nat) (fmt mode div : Nat) (siblingMode : Nat) : Bool :=
  let limit := match fmt with | 1 | 3 => 1500 | 2 => 400 | 4 => 200 | _ => 0
  if fmt = 0 then (mode != 2 || siblingMode == 0)
  else match mode with
    | 0 => d.synW (n / 2) * 100 ≤ limit * div * 2 ^ 40
    | 1 => fmt == 1 || fmt == 4
    | _ => (fmt == 1 || fmt == 4) && siblingMode == 0

/-- A new DIV acts from the next rising edge of its output on (R133); a FRAME sibling counts its cycles on from there. -/
def Dev.redivide (d : Dev) (n div : Nat) : Dev :=
  let m := sibling n
  let e := d.nextEdge n
  let old := d.outPeriod n
  let cycles := if old.1 = 0 then 0 else roundDiv ((d.nextEdge m - e) * old.2) old.1
  let last := d.lastEdge m
  let d := (d.set F.OUT_CFG_DIV div n).placeEdge n e (some (d.lastEdge n))
  let new := d.outPeriod n
  (d.when ((d.out m).started && d.outMode m == 2)
    (·.placeEdge m (e + divFree (cycles * new.1) new.2) (some last))).redueFrame (n / 2)

/-- OUT_CFG_WRITE (R120, R121, R133): an output that may no longer drive loses its divider or schedule, started or due. -/
def Dev.outCfgWrite (d : Dev) (n : Nat) (v : Word) : Dev :=
  let x := v.toNat
  let fmt := let f := bitsOf x 1 3; if f ≥ 5 then 0 else f
  let mode := let m := bitsOf x 4 2; if m = 3 then 0 else m
  let div := max 2 (bitsOf x 16 16)
  let sib := sibling n
  let ok := d.outAllowed n fmt mode div (d.outMode sib) && !(d.outMode sib == 2 && mode != 0)
  if !ok then d.set F.OUT_STAT_CFG_REJ 1 n
  else
    let k := n / 2
    let wasEn := d.outEn n
    let oldMode := d.outMode n
    let oldDiv := d.get F.OUT_CFG_DIV n
    let wasWanted := d.osynWanted k
    let d := if oldDiv ≠ div && (d.out n).started && oldMode = 0 then d.redivide n div else d
    let d := ((d.setWord .OUT_CFG n (putBits (BitVec.ofNat 32 (lowBits x 10)) 16 16 div)))
    let d := if wasEn && (d.outMode n ≠ oldMode || !d.mayDrive n) then d.dropOut n else d
    let d := if oldDiv ≠ div then d.outBit F.OUT_STAT_ALIGNED false n else d
    let d := d.refreshOut n
    if !wasWanted && d.osynWanted k then d.acquire k (d.synW k)
    else if wasWanted && !d.osynWanted k then d.stopSyn k
    else d.beginPair k

/-- A pulse in progress keeps its falling edge (R133). -/
def Dev.keepPulse (d : Dev) (n : Nat) : Dev :=
  let e := d.lastEdge n
  let f := d.pulseFall n e
  let runs := (d.out n).started && d.outMode n != 0 && decide (e ≤ d.fineNow) && decide (d.fineNow < f)
  d.onOut n (fun o => { o with kept := if runs then some (e, f) else none })

/-- A write of OUT_WIDTH acts from the next pulse on (R133). -/
def Dev.outWidthWrite (d : Dev) (n : Nat) (v : Word) : Dev :=
  (d.keepPulse n).setWord .OUT_WIDTH n (BitVec.ofNat 32 (d.widthTake n v.toNat))

/-- OUT_PER_HI_WRITE (R133): applies PERIOD or PERIOD_CYC, held to R124 or R125; the next edge falls at the first last edge
+ k × new period that lies ahead, and the pulse in progress ends as it would have; ALIGNED clears. -/
def Dev.outPerHiWrite (d : Dev) (n : Nat) (v : Word) : Dev :=
  let d := d.keepPulse n
  let p := bitsOf v.toNat 0 8 * 2 ^ 32 + d.get F.OUT_PER_LO_PER n
  let p := clampPer (d.outMode n) p
  let d := (d.set F.OUT_PER_HI_PER (p / 2 ^ 32) n).set F.OUT_PER_LO_PER (p % 2 ^ 32) n
  let d := d.set F.OUT_PER_LO_PER (p % 2 ^ 32) (8 + n)
  let last := d.lastEdge n
  let d := d.onOut n (fun o => { o with period := p })
  let per := d.outPeriod n
  let next := if per.1 = 0 then last else edgeAt last per.1 per.2 ((d.fineNow - last) * per.2 / per.1 + 1)
  let d := d.when ((d.out n).started && d.outMode n != 0) (·.placeEdge n next (some last))
  let d := if (d.out n).due.isSome then d.onOut n (fun o => { o with due := d.firstEdge n }) else d
  d.outBit F.OUT_STAT_ALIGNED false n

/-- OUT_ALIGN_WRITE (R132, R3): a change of SRC disarms; SRC = INPUT is refused on XM1624-S. -/
def Dev.outAlignWrite (d : Dev) (n : Nat) (v : Word) : Dev :=
  let x := v.toNat
  let old := d.get F.OUT_ALIGN_SRC n
  let src := if d.small && bitsOf x 0 1 = 1 then old else bitsOf x 0 1
  let d := (((d.set F.OUT_ALIGN_SRC src n).set F.OUT_ALIGN_TIO_CH (clampNat 0 47 (bitsOf x 8 6)) n).set F.OUT_ALIGN_FOLLOW
    (bitsOf x 16 1) n).set F.OUT_ALIGN_TOL (clampNat 1 255 (bitsOf x 24 8)) n
  d.when (src != old) (fun d => d.outBit F.OUT_STAT_ARMED false n)

/-- OUTPUT_START (R122, R124, R125): the first edge due of an output that may drive (R121); it is aligned. A first pulse that a
pending alignment suppresses does not rise (R131). -/
def Dev.outputStart (d : Dev) (n : Nat) : Dev :=
  match (d.out n).due with
  | none => d
  | some t =>
    if !d.mayDrive n || d.suppressed n t then d.onOut n (fun o => { o with due := none })
    else
      let d := (d.onOut n (fun o => { o with started := true, due := none })).placeEdge n t none
      ((d.outBit F.OUT_STAT_ALIGNED true n).refreshOut n).emitEdge n t

/-- Places the aligned edge T_a of an output (R131): at least 100 µs after an instant. -/
def Dev.placeAligned (d : Dev) (n : Nat) (t : Int) : Dev :=
  (d.onOut n (fun o => { o with alignAt := some t })).outBit F.OUT_STAT_ALIGN_PEND true n

/-- ALIGN (R131): refusals BAD_MODE, TIME_UNSET, NOT_LOCKED, BUSY in this order. -/
def Dev.outAlign (d : Dev) (n : Nat) : Dev :=
  if !d.outEn n || d.outMode n != 1 then d.set F.OUT_CMD_RESULT 6 n
  else if d.mir.state = .unset then d.set F.OUT_CMD_RESULT 3 n
  else if !(d.out n).started && (d.out n).due.isNone && !d.mayDrive n then d.set F.OUT_CMD_RESULT 5 n
  else if (d.out n).alignAt.isSome || d.flag F.OUT_STAT_ARMED n then d.set F.OUT_CMD_RESULT 4 n
  else
    let t := firstAligned (d.fineNow + 100000 * fineNs) (d.outOfs n * 65536) ((d.out n).period * 65536)
    (d.placeAligned n t).set F.OUT_CMD_RESULT 1 n

/-- Whether a TIO channel is an enabled input in timestamp mode (R132; TIO_CFG.MODE 0). -/
def Dev.tioTimestamps (d : Dev) (c : Nat) : Bool := c < d.tios && d.flag F.TIO_CFG_EN c && d.get F.TIO_CFG_MODE c == 0

/-- ARM (R132): refused BAD_MODE unless SRC is INPUT, the output is enabled in PULSE mode and the channel is an enabled
input in timestamp mode; BUSY while armed. -/
def Dev.outArm (d : Dev) (n : Nat) : Dev :=
  if d.get F.OUT_ALIGN_SRC n != 1 || !d.outEn n || d.outMode n != 1 || !d.tioTimestamps (d.get F.OUT_ALIGN_TIO_CH n) then
    d.set F.OUT_CMD_RESULT 6 n
  else if d.flag F.OUT_STAT_ARMED n then d.set F.OUT_CMD_RESULT 4 n
  else (d.outBit F.OUT_STAT_ARMED true n).set F.OUT_CMD_RESULT 1 n

/-- DISARM (R132): ends the wait. -/
def Dev.outDisarm (d : Dev) (n : Nat) : Dev := (d.outBit F.OUT_STAT_ARMED false n).set F.OUT_CMD_RESULT 1 n

/-- An edge captured on a TIO channel at an instant (R132): armed outputs place their aligned edge by it, and with FOLLOW
an output whose misalignment from it exceeds TOL does. -/
def Dev.alignToEdge (d : Dev) (ch : Nat) (t : Ticks) : Dev :=
  d.each (List.range 8) (fun d n =>
    if d.get F.OUT_ALIGN_SRC n != 1 || d.get F.OUT_ALIGN_TIO_CH n != ch || !d.outEn n || d.outMode n != 1 then d
    else
      let edge : Int := ((t * 1000 : Nat) : Int) + d.outOfs n * 65536
      let per := clampPer 1 (d.outPer n) * 65536
      let lead : Int := ((t * 1000 : Nat) : Int) + 100000 * fineNs
      let k := (lead - edge + per - 1) / per
      let ta := edge + k * per
      let off := reduceHalf (d.lastEdge n - edge) per 1
      if d.flag F.OUT_STAT_ARMED n then (d.outBit F.OUT_STAT_ARMED false n).placeAligned n ta
      else if d.flag F.OUT_ALIGN_FOLLOW n && (d.out n).started && (d.out n).alignAt.isNone &&
          off.natAbs > d.get F.OUT_ALIGN_TOL n * fineNs then d.placeAligned n ta
      else d)

/-- ALIGNED_EDGE (R131): T_a is reached: the new schedule starts there and ALIGNED is set. An output that may not drive then
(R121) has no edge, and begins with the lock of its OSYN. -/
def Dev.alignedEdge (d : Dev) (n : Nat) : Dev :=
  match (d.out n).alignAt with
  | none => d
  | some t =>
    let d := (d.onOut n (fun o => { o with alignAt := none })).outBit F.OUT_STAT_ALIGN_PEND false n
    if !d.mayDrive n then d
    else
      let d := (d.onOut n (fun o => { o with started := true, due := none, kept := none, period := clampPer 1 (d.outPer n) })).placeEdge n t none
      ((d.outBit F.OUT_STAT_ALIGNED true n).refreshOut n).emitEdge n t

/-- Every output high-impedance and every synthesizer stopped (R10, R24). -/
def Dev.stopAllSyns (d : Dev) : Dev := d.each (List.range 10) (fun d i => (d.stopSyn i).synBit F.SYN_STAT_FROZEN false i)

end Sys2Proof.Machine
end

