-- ==== Sys2Proof/Machine/Sleep.lean ====
section
/-! DEFINITION. Directional sleep and power gating: the conditions of R150, the depths permitted (R298 to R304), wakes
(R154, R301), LPLL restarts (R302) and the banks kept ungated (R305, R306). -/

namespace Sys2Proof.Machine

/-- Stores a field of LANE_QUAD_STAT among bits [15:0], with CHANGED. -/
def Dev.quadSet (d : Dev) (f : Fld) (v p : Nat) : Dev := d.setMark f v F.LANE_QUAD_STAT_CHANGED p
def Dev.txSleep (d : Dev) (p : Nat) : Nat := d.get F.LANE_QUAD_STAT_TX_SLEEP p
def Dev.rxSleep (d : Dev) (p : Nat) : Nat := d.get F.LANE_QUAD_STAT_RX_SLEEP p

/-- A sleep state in which the direction is asleep: SHALLOW, DEEP or LPI. -/
def asleep (st : Nat) : Bool := st == 2 || st == 3 || st == 5

/-- A lane is in a test setting (R145, R146); a lane of the port is. -/
def Dev.laneTest (d : Dev) (l : Nat) : Bool :=
  d.flag F.LANE_TEST_GEN_EN l || d.flag F.LANE_TEST_CHK_EN l || d.get F.LANE_TEST_LOOP l != 0
def Dev.portTest (d : Dev) (p : Nat) : Bool := (d.usedLanes p).any (fun l => d.laneTest l)

/-- The PTP instance of a port: none where INSTANCE is 4 to 7 or names no instance (R180), and on a port up in loop (R145). -/
def Dev.instOf (d : Dev) (p : Nat) : Option Nat :=
  let i := d.get F.PRT_PTP_CFG_INSTANCE p
  if i < 4 && (d.inst i).made && !(d.port p).inLoop then some i else none

/-- The domain of a port's instance. -/
def Dev.domainOf (d : Dev) (p : Nat) : Option Nat := (d.instOf p).map (fun i => (d.inst i).domain)

/-- The partner is discovered and its HELLO sets PR_SLEEP; towards another partner a direction sleeps only in LPI (R158). -/
def Dev.prSleep (d : Dev) (p : Nat) : Bool :=
  d.flag F.LANE_QUAD_STAT_DISCOVERED p && bitAt (d.get F.LANE_PARTNER_INFO_CAPS p) 1

/-- Conditions of R150, one by one: the partner's, those of time, test, freeze and SMC. -/
def Dev.partnerSleeps (d : Dev) (p depth : Nat) : Bool :=
  d.linkUp p && d.prSleep p && d.flag F.LANE_PARTNER_INFO_RX_SLEEP_OK p && (depth != 3 || bitAt (d.get F.LANE_PARTNER_INFO_CAPS p) 2)
def Dev.timeSettled (d : Dev) (p : Nat) : Bool :=
  d.mir.state == .locked && d.get F.LANE_PARTNER_INFO_TIME_STATE p == 2 &&
  d.domainOf p == some (d.get F.LANE_PARTNER_DOM_DOMAIN p)
def Dev.smcRuns (d : Dev) : Bool := d.fastOn && !d.sys.smcStopped

/-- R150 holds on the transmit direction of a port for SHALLOW (2) or DEEP (3). -/
def Dev.retentive (d : Dev) (p depth : Nat) : Bool :=
  d.partnerSleeps p depth && d.timeSettled p && !d.portTest p && !d.flag F.TB_HB_STAT_FROZEN && d.smcRuns

/-- The effective tolerance T(n) in 0.1 µs (R298), and whether it covers a wake; zero forbids sleep, 0xFFFF is no limit. -/
def Dev.tEff (d : Dev) (p : Nat) : Nat :=
  (List.range 8).foldl (fun m k => min m (d.get F.PWR_LAT_TOL (qKey p k))) 0xFFFF
def Dev.tolerates (d : Dev) (p wake : Nat) : Bool := d.tEff p != 0 && (d.tEff p == 0xFFFF || decide (wake ≤ d.tEff p))

/-- LPI may be used on a port (R158, R299). -/
def Dev.lpiMay (d : Dev) (p : Nat) : Bool :=
  d.linkUp p && !d.prSleep p && d.flag F.LANE_QUAD_CFG_LPI_EN p && modeNrz (d.portMode p) && d.smcRuns

/-- A depth is permitted on the transmit direction (R299): 2 SHALLOW, 3 DEEP, 5 LPI. -/
def Dev.permits (d : Dev) (p depth : Nat) : Bool :=
  match depth with
  | 2 => d.retentive p 2 && d.tolerates p 20
  | 3 => d.retentive p 3 && d.tolerates p 250
  | 5 => d.lpiMay p && d.tolerates p (Config.twSysTx (d.portMode p))
  | _ => false

/-- A depth may be used under TX_PIN (R304). -/
def Dev.depthOk (d : Dev) (p depth : Nat) : Bool :=
  match d.get F.PWR_PORT_CFG_TX_PIN p with
  | 0 => d.permits p depth
  | 1 => false
  | pin => depth == pin && d.retentive p depth

/-- The reasons of PWR_PORT_STAT.HOLD_CAUSE that hold (register table of chapter 11): 1 TOL, 2 PARTNER, 3 TIME, 4 TEST,
5 FREEZE, 6 SMC. -/
def Dev.holdReasons (d : Dev) (p : Nat) : List Nat :=
  (if d.linkUp p && !d.tolerates p 20 then [1] else []) ++ (if !d.partnerSleeps p 2 && !d.lpiMay p then [2] else []) ++
  (if !d.timeSettled p && !d.lpiMay p then [3] else []) ++ (if d.portTest p then [4] else []) ++
  (if d.flag F.TB_HB_STAT_FROZEN then [5] else []) ++ (if !d.smcRuns then [6] else [])

/-- The reasons for which R150 does not allow a depth that TX_PIN names, whatever T(n) is (R304). -/
def Dev.pinReasons (d : Dev) (p depth : Nat) : List Nat :=
  (if !d.partnerSleeps p depth then [2] else []) ++ (if !d.timeSettled p then [3] else []) ++ (if d.portTest p then [4] else []) ++
  (if d.flag F.TB_HB_STAT_FROZEN then [5] else []) ++ (if !d.smcRuns then [6] else [])

/-- PWR_PORT_STAT.HOLD_CAUSE: 0 where the direction may sleep, at a pinned depth where TX_PIN names one. Which of several
reasons that hold together is shown is left open: a free choice. -/
def Dev.holdCause (d : Dev) (p : Nat) : Nat :=
  let pick (l : List Nat) : Nat := l.getD (Config.pickReason l % l.length) 1
  match d.get F.PWR_PORT_CFG_TX_PIN p with
  | 0 => if d.permits p 2 || d.permits p 3 || d.permits p 5 then 0 else pick (d.holdReasons p)
  | 1 => 7
  | pin => if d.retentive p pin then 0 else pick (d.pinReasons p pin)

/-- PWR_PORT_STAT and LANE_QUAD_STAT.SLEEP_OK follow the conditions (R150, R298, R299, R304). -/
def Dev.refreshPower (d : Dev) (p : Nat) : Dev :=
  let pin := d.get F.PWR_PORT_CFG_TX_PIN p
  let allowed := if d.permits p 3 then 2 else if d.permits p 2 then 1 else if d.permits p 5 then 3 else 0
  let d := (d.set F.PWR_PORT_STAT_T_EFF (d.tEff p) p).setMark F.PWR_PORT_STAT_ALLOWED allowed F.PWR_PORT_STAT_CHANGED p
  let d := d.setMark F.PWR_PORT_STAT_HOLD_CAUSE (d.holdCause p) F.PWR_PORT_STAT_CHANGED p
  let d := d.setMark F.PWR_PORT_STAT_PIN_BLOCKED (bitNat (2 ≤ pin && !d.retentive p pin)) F.PWR_PORT_STAT_CHANGED p
  let d := d.quadSet F.LANE_QUAD_STAT_SLEEP_OK (bitNat (d.retentive p 2 || d.retentive p 3)) p
  d.cond .pwrPinBlocked (d.portList.any (fun n => d.flag F.PWR_PORT_STAT_PIN_BLOCKED n))

/-! ## Banks (R305, R306) -/

/-- The sum of the nominal rates, in Gb/s, of every port direction not in SHALLOW, DEEP or LPI. -/
def Dev.awakeRate (d : Dev) : Nat :=
  (d.portList.map (fun p => modeRate (d.portMode p) *
    (bitNat (!asleep (d.txSleep p)) + bitNat (!asleep (d.rxSleep p))))).sum

/-- The smallest number of banks whose cells, less their retired cells, hold a number of cells. -/
def Dev.banksFor (d : Dev) (need : Nat) : Nat :=
  let bad := ((List.range 32).map (fun b => (d.sw.retired.filter (fun c => c / bankCells == b)).length)).insertionSort (· ≤ ·)
  ((List.range 33).find? (fun n => need + (bad.take n).sum ≤ n * bankCells)).getD 32

/-- N_req (R305). -/
def Dev.bankNeed (d : Dev) : Nat :=
  let byRate := (d.awakeRate * 100 + 90719) / 90720 + 1
  let byCells := d.banksFor (max (d.resTotal + 4096) (d.bufUsed + d.get F.PWR_GATE_CFG_HEADROOM))
  min 32 (max (d.get F.PWR_GATE_CFG_MIN_BANKS) (max byRate byCells))

/-- A mask of banks from a list. -/
def maskOf (l : List Nat) : Nat := (l.map (fun b => 2 ^ b)).sum

/-- The gated banks become those of a list; the drain of an ungated bank stops where it is asked to. -/
def Dev.setGated (d : Dev) (l : List Nat) : Dev :=
  let d := d.set F.SW_BUF_GATED_BANKS (maskOf l)
  d.set F.PWR_STAT_BANKS_UNGATED d.openBanks.length

/-- Stops a drain (R306). -/
def Dev.stopDrain (d : Dev) : Dev := (d.set F.PWR_STAT_DRAIN_RUN 0).set F.PWR_STAT_DRAIN_BANK 0

/-- N_req is computed anew: a rise cancels a drain, the lowest-numbered gated banks are ungated at once, and clearing
BANK_GATE_EN ungates every bank (R306, R310). -/
def Dev.judgeBanks (d : Dev) : Dev :=
  if !d.fastOn then d
  else if !d.flag F.PWR_GATE_CFG_BANK_GATE_EN then (d.stopDrain.setGated []).judgeBuf
  else
    let n := d.bankNeed
    let d := d.when (d.sw.nReq < n) Dev.stopDrain
    let d := d.onSw (fun s => { s with nReq := n })
    let more := n - d.openBanks.length
    if more = 0 then d else (d.setGated (d.gatedBanks.drop more)).judgeBuf

/-! ## Wakes -/

/-- Starts LPLLk again where R302 has stopped it; in a freeze it waits (R118, R156). -/
def Dev.restartLpll (d : Dev) (k : Nat) : Dev :=
  if bitAt d.sys.lpllOff k then
    (d.onSys (fun s => { s with lpllOff := s.lpllOff - 2 ^ k })).startInternal (5 + k)
  else d

/-- A transmit direction wakes (R154, R156, R301): an entry not yet taken is cancelled, a sleeping direction is WAKING. -/
def Dev.wakeTx (d : Dev) (p : Nat) : Dev :=
  let st := d.txSleep p
  if st = 1 then
    (d.quadSet F.LANE_QUAD_STAT_TX_SLEEP 0 p).onPort p (fun s => { s with txDepth := 0, txEntry := none, txLead := false })
  else if asleep st then
    let d := (d.quadSet F.LANE_QUAD_STAT_TX_SLEEP 4 p).onPort p (fun s => { s with txDepth := st, txLead := false })
    ((d.countPort p 43).restartLpll (p / 8)).judgeBanks
  else d

/-- PWR_PORT_STAT follows, and a transmit direction whose depth is no longer allowed wakes at once (R150, R301). -/
def Dev.judgeSleep (d : Dev) (p : Nat) : Dev :=
  let d := d.refreshPower p
  let st := d.txSleep p
  let depth := if st = 1 then (d.port p).txDepth else st
  if (st = 1 || asleep st) && !d.depthOk p depth then d.wakeTx p else d

/-- Every port judged after a change of the time status, a freeze or the SMC (R150). -/
def Dev.judgeSleeps (d : Dev) : Dev := if d.fastOn then d.each d.portList Dev.judgeSleep else d

end Sys2Proof.Machine
end

