-- ==== Sys2Proof/Machine/Queues.lean ====
section
/-! DEFINITION. Egress queues (10_queues_bounded_delivery.md): wire times, gate control lists (R281), fit (R279),
admission to ordinary and bounded queues (R276, R277, R288), re-prediction (R289) and link-down replay (R292). Instants
of the queues are kept in 2^-16 ns / 25, in which the wire time of every frame at every rate is a whole number. -/

namespace Sys2Proof.Machine

/-- One nanosecond in the unit of the queues. -/
def qNs : Nat := 65536 * 25

/-- The time bus, and an instant of it, in the unit of the queues. -/
def toQ (t : Ticks) : Int := (t * 25 : Nat)
def Dev.nowQ (d : Dev) : Int := toQ d.now

/-- The wire time of a frame of a length at a nominal rate: 20 bytes more than the length (R263). -/
def wireTime (len rate : Nat) : Int := if rate = 0 then 0 else ((len + 20) * (13107200 / rate) : Nat)
def Dev.wire (d : Dev) (p len : Nat) : Int := wireTime len (modeRate (d.portMode p))

/-! ## Gates -/

/-- The entries of a bank over one cycle: states, entry and duration (R281). -/
def fillCycle : List (Nat × Nat × Nat) → Nat → List (Nat × Nat × Int)
  | [], _ => []
  | (s, e, i) :: rest, left =>
    if left = 0 then []
    else if left ≤ i ∨ rest = [] then [(s, e, ((left * qNs : Nat) : Int))]
    else (s, e, ((i * qNs : Nat) : Int)) :: fillCycle rest (left - i)

/-- The gate control list in force on a port over one cycle. -/
def Dev.gateCycle (d : Dev) (p : Nat) : List (Nat × Nat × Int) :=
  let u := p * 2 + d.get F.PRT_GATE_CFG_BANK_SEL p
  fillCycle ((List.range (d.get F.PRT_GCL_LEN_LEN u)).map (fun e =>
    (d.get F.GCL_W0_STATES (u * 1024 + e), e, d.get F.GCL_W1_INTERVAL (u * 1024 + e)))) (d.get F.PRT_GCL_CYCLE_CYCLE u)

/-- BASE and CYCLE of the active bank. -/
def Dev.gateBase (d : Dev) (p : Nat) : Int :=
  let u := p * 2 + d.get F.PRT_GATE_CFG_BANK_SEL p
  (((d.get F.PRT_GCL_BASE_HI_SECONDS u * 2 ^ 32 + d.get F.PRT_GCL_BASE_LO_SECONDS u) * 1000000000 +
    d.get F.PRT_GCL_BASE_NS_NANOSECONDS u) * qNs : Nat)
def Dev.gatePeriod (d : Dev) (p : Nat) : Int :=
  (d.get F.PRT_GCL_CYCLE_CYCLE (p * 2 + d.get F.PRT_GATE_CFG_BANK_SEL p) * qNs : Nat)

/-- A list of durations without its first `x`. -/
def dropDur (x : Int) : List (Nat × Nat × Int) → List (Nat × Nat × Int)
  | [] => []
  | (s, e, n) :: rest => if x < n then (s, e, n - x) :: rest else dropDur (x - n) rest

/-- The gate states from an instant on, for the rest of its cycle and two cycles more; all open while GATE_EN is 0. -/
def Dev.gateWalk (d : Dev) (p : Nat) (t : Int) : List (Nat × Nat × Int) :=
  if !d.flag F.PRT_GATE_CFG_GATE_EN p then [(0xFF, 0, 1)]
  else
    let c := d.gateCycle p
    dropDur ((t - d.gateBase p) % d.gatePeriod p) c ++ c ++ c

/-- The gate states and the entry in force at an instant (R281). -/
def Dev.gateAt (d : Dev) (p : Nat) (t : Int) : Nat × Nat :=
  match d.gateWalk p t with
  | (s, e, _) :: _ => (s, e)
  | [] => (0xFF, 0)

/-- Every gate state from an instant on satisfies a test. -/
def always (test : Nat → Bool) (w : List (Nat × Nat × Int)) : Bool := w.all (fun x => test x.1)

/-- The span until a test of the gate states first holds. -/
def spanUntil (test : Nat → Bool) : List (Nat × Nat × Int) → Option Int
  | [] => none
  | (s, _, n) :: rest => if test s then some 0 else (spanUntil test rest).map (· + n)

/-- The span until a gate is open for a duration without a break. -/
def spanOpen (test : Nat → Bool) (w : Int) : Int → Option Int → List (Nat × Nat × Int) → Option Int
  | _, _, [] => none
  | at0, run, (s, _, n) :: rest =>
    if test s then
      let from0 := run.getD at0
      if w ≤ at0 + n - from0 then some from0 else spanOpen test w (at0 + n) (some from0) rest
    else spanOpen test w (at0 + n) none rest

/-- The first instant from `t` on at which the gate of class `q` is open and stays open for `w` (R288). -/
def Dev.firstOpen (d : Dev) (p q : Nat) (t w : Int) : Option Int :=
  let walk := d.gateWalk p t
  if always (fun s => bitAt s q) walk then some t
  else (spanOpen (fun s => bitAt s q) w 0 none walk).map (t + ·)

/-- PRT_GATE_STAT follows the gate states in force (R282). -/
def Dev.refreshGates (d : Dev) (p : Nat) : Dev :=
  let (s, e) := d.gateAt p d.nowQ
  (d.set F.PRT_GATE_STAT_STATES s p).set F.PRT_GATE_STAT_ENTRY e p

/-! ## Queues -/

/-- A queue of a port; its change. -/
def Dev.queue (d : Dev) (p q : Nat) : List Link := tabGet d.sw.queues [] (qKey p q)
def Dev.setQueue (d : Dev) (p q : Nat) (l : List Link) : Dev :=
  d.onSw (fun s => { s with queues := tabSet s.queues [] (qKey p q) l })
def occOf (l : List Link) : Nat := (l.map (fun x => cellsOf x.lc)).sum

/-- A frame that has been admitted to a queue of a port is held until its verdict is known (R248). -/
def Dev.heldFor (d : Dev) (p : Nat) : Bool := d.allFrames.any (fun f => f.waiting.any (fun w => w.1 == p))

/-- tail(q), the deficit of a class (R280, R288). -/
def Dev.tail (d : Dev) (p q : Nat) : Int := tabGet d.sw.tails 0 (qKey p q)
def Dev.setTail (d : Dev) (p q : Nat) (t : Int) : Dev := d.onSw (fun s => { s with tails := tabSet s.tails 0 (qKey p q) t })
def Dev.deficit (d : Dev) (p q : Nat) : Nat := tabGet d.sw.deficits 0 (qKey p q)
def Dev.setDeficit (d : Dev) (p q n : Nat) : Dev := d.onSw (fun s => { s with deficits := tabSet s.deficits 0 (qKey p q) n })

/-- The frame in transmission on a port, and the one in reception. -/
def Dev.txNow (d : Dev) (p : Nat) : Option TxNow := tabGet d.sw.tx none p
def Dev.setTx (d : Dev) (p : Nat) (x : Option TxNow) : Dev := d.onSw (fun s => { s with tx := tabSet s.tx none p x })
def Dev.rxNow (d : Dev) (p : Nat) : Option Nat := tabGet d.sw.rx none p
def Dev.setRx (d : Dev) (p : Nat) (x : Option Nat) : Dev := d.onSw (fun s => { s with rx := tabSet s.rx none p x })

/-- The occupancy of a queue in cells (R274): the frames linked to it, the one in transmission among them until its last
byte has left (10_queues_bounded_delivery.md, "Admission at N4 P8": frame k finds all but the ⌊k / 4⌋ that have left). -/
def Dev.occupancy (d : Dev) (p q : Nat) : Nat :=
  occOf ((d.queue p q).filter (fun l => !l.waits)) +
    (match d.txNow p with | some t => if t.cls = q then cellsOf t.link.lc else 0 | none => 0)

/-- The cells of a queue, those of the frames admitted to it that are not linked yet among them. -/
def Dev.claimed (d : Dev) (p q : Nat) : Nat := d.occupancy p q + occOf ((d.queue p q).filter Link.waits)

/-- A frame that does not end the idleness of its port: a SLEEP_NOTICE (R300). -/
def Dev.isNotice (d : Dev) (fid : Nat) : Bool :=
  match d.frame fid with
  | some f => (match f.own with | .notice _ => true | _ => false)
  | none => false

/-- The transmit direction of a port becomes idle, or ends to be (R300): the eight queues empty, nothing committed, no
control frame due, a sleep notice apart, and no frame held for it. -/
def Dev.noFrames (d : Dev) (p : Nat) : Bool :=
  (List.range 8).all (fun q => (d.queue p q).all (fun l => d.isNotice l.fid)) &&
    (match d.txNow p with | none => true | some t => d.isNotice t.link.fid) && !d.heldFor p && (d.ptu p).due.isEmpty
def Dev.idle (d : Dev) (p : Nat) : Bool := d.noFrames p && !(d.port p).helloDue
def Dev.judgeIdle (d : Dev) (p : Nat) : Dev :=
  match d.idle p, (d.port p).idleFrom with
  | true, none => d.onPort p (fun s => { s with idleFrom := some d.now })
  | false, some t =>
    d.onPort p (fun s => { s with idleFrom := none, idleSpan := d.now - t })
  | _, _ => d

/-- Discards a frame under a cause of R388, code 0x050 + d: counter 34 for the discards of R226 steps 2 to 8 and of R264. -/
def Dev.discardCause (d : Dev) (p cause : Nat) : Dev :=
  (d.when (cause ≤ 12) (fun d => d.countPort p 34)).portEvent p (0x050 + cause)

/-- Takes a link out of service: one holder fewer. -/
def Dev.unlink (d : Dev) (l : Link) : Dev := d.release l.fid

/-- A frame is not yet committed where these links are: they leave every queue (R247, R259). -/
def Dev.dropLinks (d : Dev) (f : Nat) : Dev :=
  let n := (d.sw.queues.map (fun (e : Nat × List Link) => (e.2.filter (fun l => l.fid == f)).length)).sum
  let d := d.onSw (fun s => { s with queues := (s.queues.map (fun (e : Nat × List Link) =>
      (e.1, e.2.filter (fun l => l.fid != f)))).filter (fun e => !e.2.isEmpty) })
  let d := d.each (List.range n) (fun d _ => d.release f)
  d.each d.portList Dev.judgeIdle

/-- A frame in transmission anywhere is to end as a bad tail (R248). -/
def Dev.spoilTx (d : Dev) (f : Nat) : Dev :=
  d.onSw (fun s => { s with tx := s.tx.map (fun (e : Nat × Option TxNow) =>
    (e.1, e.2.map (fun x => if x.link.fid = f then { x with bad := true } else x))) })

/-! ## Admission -/

/-- The charged length of a frame on a port (R262); a frame of the module's own keeps its length. -/
def Stored.chargedOn (f : Stored) (e : Nat) : Nat :=
  if f.transit || f.own != .none then f.base
  else ((f.base : Int) + retagDelta (parseFrame f.bytes) (bitAt f.untag e) f.rtag f.popRtag).toNat

/-- A refusal on a queue (R276, R288): cause and counters. -/
def Dev.refuse (d : Dev) (p q cause : Nat) : Dev :=
  let d := (d.set F.PRT_Q_STAT_LAST_CAUSE cause (qKey p q)).set F.PRT_Q_STAT_REFUSED 1 (qKey p q)
  (d.countPort p (24 + q)).portEvent p (0x030 + cause) q

/-- Nominal rate at which a frame came in; a frame of the module's own came in at none. -/
def Dev.inRate (d : Dev) (f : Stored) : Nat := if f.own = .none then modeRate (d.portMode f.inPort) else 0

/-- SW_CT_EN and the rates permit cut-through of a frame to a port (R246); step 12 reads them (R261), and a mirror copy is
always sent store-and-forward (R252). -/
def Dev.cutThrough (d : Dev) (f : Stored) (p : Nat) : Bool :=
  f.own == .none && bitAt (d.get F.SW_CT_EN_EGRESS f.inPort) p && modeRate (d.portMode p) ≤ d.inRate f

/-- The first cell of a frame, or the whole frame if shorter, has been written (R246). -/
def Stored.headIn (f : Stored) : Bool := f.done || decide (256 ≤ f.bytes.length)

/-- A head may be committed: wholly stored, or eligible for cut-through (R246). -/
def Dev.sendable (d : Dev) (l : Link) : Bool :=
  match d.frame l.fid with
  | none => false
  | some f => f.done || (l.ct && f.headIn)

/-- The profile of random early drop of a queue and colour: MIN, MAX, PMAX (R277). -/
def Dev.redOf (d : Dev) (prof colour : Nat) : Nat × Nat × Nat :=
  match colour with
  | 0 => (d.get F.SW_RED_PROF_W1_MIN prof, d.get F.SW_RED_PROF_W2_MAX prof, d.get F.SW_RED_PROF_W2_PMAX prof)
  | 1 => (d.get F.SW_RED_PROF_W3_MIN prof, d.get F.SW_RED_PROF_W4_MAX prof, d.get F.SW_RED_PROF_W4_PMAX prof)
  | _ => (d.get F.SW_RED_PROF_W5_MIN prof, d.get F.SW_RED_PROF_W6_MAX prof, d.get F.SW_RED_PROF_W6_PMAX prof)

/-- The average occupancy of a queue in 2^-32 cells, updated at every frame offered (R277). -/
def Dev.redUpdate (d : Dev) (p q : Nat) : Dev :=
  let prof := d.get F.PRT_Q_CFG_RED_PROF (qKey p q)
  if !d.flag F.SW_RED_PROF_W0_EN prof then d
  else
    let avg := tabGet d.sw.redAvg 0 (qKey p q)
    let occ : Int := ((d.occupancy p q * 2 ^ 32 : Nat) : Int)
    let new := avg + divFree (occ - avg) (2 ^ d.get F.SW_RED_PROF_W0_W prof)
    d.onSw (fun s => { s with redAvg := tabSet s.redAvg 0 (qKey p q) new })

/-- Whether random early drop takes a frame of a colour (R277), by the pseudo-random number drawn for it. -/
def Dev.redDrops (d : Dev) (p q colour : Nat) : Bool :=
  let prof := d.get F.PRT_Q_CFG_RED_PROF (qKey p q)
  let (lo, hi, pm) := d.redOf prof colour
  let avg := tabGet d.sw.redAvg 0 (qKey p q)
  let draw := Config.redRandom d.freeCtr % 65536
  d.flag F.SW_RED_PROF_W0_EN prof &&
    (if avg < ((lo * 2 ^ 32 : Nat) : Int) then false
     else if ((hi * 2 ^ 32 : Nat) : Int) ≤ avg then true
     else decide ((draw : Int) * 256 * ((hi - lo : Nat) : Int) * 2 ^ 32 < pm * (avg - (lo * 2 ^ 32 : Nat)) * 65536))

/-- The wake time awake(e) adds (R288), in the unit of the queues. -/
def Dev.awakeIn (d : Dev) (p : Nat) : Int :=
  let us10 (st : Nat) : Nat := match st with
    | 2 => 20
    | 3 => if bitAt d.sys.lpllOff (p / 8) then 470 else 250
    | 5 => Config.twSysTx (d.portMode p)
    | _ => 0
  let st := d.txSleep p
  ((us10 (if st = 4 then (d.port p).txDepth else st) * 100 * qNs : Nat) : Int)

/-- P_TX of a port in the unit of the queues (R287). -/
def Dev.pTx (d : Dev) (p : Nat) : Int := (d.get F.PRT_Q_PTX_P_TX p * qNs : Nat)

/-- The start that bounded admission predicts for a frame, from an earliest instant (R288). -/
def Dev.predictStart (d : Dev) (p q : Nat) (from0 w : Int) : Option Int := d.firstOpen p q from0 w

/-- The end of the frame committed on a port. -/
def Dev.busyEnd (d : Dev) (p : Nat) : Int := match d.txNow p with | none => 0 | some t => t.ends

/-- ready(f) (R288): now for a frame eligible for cut-through, else the wire time of its base length at the ingress port and
60 ns later. -/
def Dev.readyAt (d : Dev) (f : Stored) (ct : Bool) : Int :=
  if ct && f.headIn then d.nowQ else d.nowQ + wireTime f.base (d.inRate f) + 60 * qNs

/-- What bounded admission decides for a frame of `n` cells (R288): a cause, or the deadline and the start. While the port
re-predicts, every frame is refused LATE (R289). -/
def Dev.judgeBounded (d : Dev) (p q : Nat) (f : Stored) (ready : Int) (lc n : Nat) : Nat ⊕ (Int × Int) :=
  let w := d.wire p lc
  let t := max (max (max d.nowQ (d.tail p q)) (max ready (d.busyEnd p))) (d.nowQ + d.awakeIn p)
  let limit := toQ f.tRx + ((d.get F.PRT_Q_BOUND_B (qKey p q) * qNs : Nat) : Int)
  if d.flag F.PRT_GATE_STAT_REPREDICT p then .inl 1
  else if d.get F.PRT_Q_RES_RES_CELLS (qKey p q) < d.claimed p q + n then .inl 2
  else if d.bufFree + f.cells.length < n then .inl 3
  else match d.predictStart p q t w with
    | none => .inl 1
    | some s => if limit < s + d.pTx p then .inl 1 else .inr (limit, s)

/-- What the admission of ordinary classes decides for a frame of `n` cells (R276): a cause, or none. `charged` holds for
a frame already charged, and for a mirror copy. -/
def Dev.judgeOrdinary (d : Dev) (p q : Nat) (f : Stored) (n : Nat) (charged : Bool) : Option Nat :=
  let k := qKey p q
  let occ := d.occupancy p q + n
  let room := d.sharedAvail - d.sharedUsed
  if d.get F.PRT_Q_LIMIT_Q_MAX k < occ then some 4
  else if !charged && d.sharedAvail < d.sharedUsed + n then some 5
  else if 2 ^ d.get F.PRT_Q_CFG_ALPHA k * room < occ * 16 then some 6
  else if d.redDrops p q f.colour then some 7
  else none

/-- Puts a link into its queue: the frame gains a holder; an admitted frame on a sleeping direction starts its wake
(R245, R288, R301). -/
def Dev.link (d : Dev) (p q : Nat) (l : Link) : Dev :=
  let d := d.onFrame l.fid (fun f => { f with refs := f.refs + 1 })
  ((d.setQueue p q (d.queue p q ++ [l])).judgeIdle p).wakeTx p

/-- The charge of a frame at the first queue that admits it (R274). -/
def Dev.chargeFrame (d : Dev) (f n : Nat) (res : Bool) : Dev :=
  d.onFrame f (fun s => { s with charge := if s.charge = 0 then n else s.charge, res := s.res || res })

/-- Offers a frame to a queue (R276, R288): refused with a cause, or admitted; a store-and-forward frame is linked when its
verdict is known (R248), one of a bounded class in the place that it was admitted to. Answers whether it was admitted. -/
def Dev.offer (d : Dev) (p q fid lc : Nat) (copy : Option Nat) : Dev × Bool :=
  match d.frame fid with
  | none => (d, false)
  | some f =>
    let n := cellsOf lc
    let ct := copy.isNone && d.cutThrough f p
    let ready := d.readyAt f ct
    if d.bounded p q then
      match d.judgeBounded p q f ready lc n with
      | .inl c => (d.refuse p q c, false)
      | .inr (limit, s) =>
        let d := d.setTail p q (s + d.wire p lc)
        let d := d.when copy.isNone (fun d => d.chargeFrame fid n true)
        ((d.link p q ⟨fid, lc, some limit, s, ready, copy, ct, !f.done && !ct, false⟩).portEvent p 0x038 q, true)
    else
      let d := d.redUpdate p q
      match d.judgeOrdinary p q f n (copy.isSome || f.charge != 0) with
      | some c => ((d.spendFree).refuse p q c, false)
      | none =>
        let d := d.spendFree
        let d := d.when copy.isNone (fun d => d.chargeFrame fid n false)
        let l : Link := ⟨fid, lc, none, 0, ready, copy, ct, false, false⟩
        let d := if f.done || ct then d.link p q l
          else ((d.onFrame fid (fun s => { s with waiting := s.waiting ++ [(p, q, l)] })).judgeIdle p).wakeTx p
        (d.portEvent p 0x038 q, true)

/-! ## Fit (R279) -/

/-- The classes of a port that are bounded. -/
def Dev.boundedOf (d : Dev) (p : Nat) : List Nat := (List.range 8).filter (fun q => d.bounded p q)

/-- A head fits (R279). -/
def Dev.fits (d : Dev) (p q lc : Nat) : Bool :=
  let now := d.nowQ
  let ends := now + d.wire p lc
  let walk := d.gateWalk p now
  let close := spanUntil (fun s => !bitAt s q) walk
  let inGate := match close with | none => true | some c => decide (ends ≤ now + c)
  let opening (b : Nat) : Bool :=
    match spanUntil (fun s => !bitAt s b) walk with
    | none => true
    | some c => match spanUntil (fun s => bitAt s b) (dropDur c walk) with
      | none => true
      | some o => decide (ends ≤ now + c + o)
  let starts (b : Nat) : Bool := (d.queue p b).all (fun l => decide (ends ≤ l.start))
  inGate && (d.bounded p q || (d.boundedOf p).all (fun b => opening b && starts b))

/-! ## Re-prediction (R289) -/

/-- Predicts again the links of a bounded queue in order, none before its frame is ready; what misses its deadline is
answered apart. -/
def Dev.repredictList (d : Dev) (p q : Nat) : Int → List Link → List Link × List Link × Int
  | t, [] => ([], [], t)
  | t, l :: rest =>
    let w := d.wire p l.lc
    match d.predictStart p q (max t l.ready) w with
    | none =>
      let (k, x, e) := d.repredictList p q t rest
      if l.deadline.isNone then ({ l with start := t } :: k, x, e) else (k, l :: x, e)
    | some s =>
      let ok := match l.deadline with | none => true | some z => decide (s + d.pTx p ≤ z)
      if ok then
        let (k, x, e) := d.repredictList p q (s + w) rest
        ({ l with start := s } :: k, x, e)
      else
        let (k, x, e) := d.repredictList p q t rest
        (k, l :: x, e)

/-- The port predicts its bounded frames again with the schedule in force (R289): LATE_DISCARD for those that miss. -/
def Dev.repredict (d : Dev) (p : Nat) : Dev :=
  d.each (d.boundedOf p) (fun d q =>
    let t0 := max (max d.nowQ (d.busyEnd p)) (d.nowQ + d.awakeIn p)
    let (keep, late, e) := d.repredictList p q t0 (d.queue p q)
    let d := (d.setQueue p q keep).setTail p q e
    (d.each late (fun d l => (d.unlink l).portEvent p 0x048)).judgeIdle p)

/-- A change of schedule (R283, R285): the new states at once, and a re-prediction begins. -/
def Dev.rescheduled (d : Dev) (p : Nat) : Dev :=
  let d := d.refreshGates p
  if (d.boundedOf p).any (fun q => !(d.queue p q).isEmpty) then d.set F.PRT_GATE_STAT_REPREDICT 1 p else d

/-- A step of the time counter moves deadlines and tails of queued bounded frames, and gate positions follow (R285). -/
def Dev.queuesStepped (d : Dev) (x : Int) : Dev :=
  let y := x * 25
  let d := d.onSw (fun s => { s with
    queues := s.queues.map (fun (e : Nat × List Link) => (e.1, e.2.map (fun l =>
      { l with deadline := l.deadline.map (· + y), start := l.start + y, ready := l.ready + y })))
    tails := s.tails.map (fun (e : Nat × Int) => (e.1, e.2 + y))
    tx := s.tx.map (fun (e : Nat × Option TxNow) => (e.1, e.2.map (fun t => { t with ends := t.ends + y, tTx := shiftTicks t.tTx x })))
    frames := s.frames.map (fun (e : Nat × Option Stored) => (e.1, e.2.map (fun f =>
      { f with
        tRx := shiftTicks f.tRx x
        waiting := f.waiting.map (fun w => (w.1, w.2.1, { w.2.2 with
          deadline := w.2.2.deadline.map (· + y), start := w.2.2.start + y, ready := w.2.2.ready + y })) })))
    holds := s.holds.map (fun h => { h with until_ := shiftTicks h.until_ x }) })
  if d.fastOn then d.each d.portList Dev.rescheduled else d

/-! ## Link-down replay (R292) -/

/-- Frees a queued frame, counted under a port event. -/
def Dev.flushLink (d : Dev) (p e : Nat) (l : Link) : Dev := (d.unlink l).portEvent p e

/-- The protection port of a port can take a link of it (R292). -/
def Dev.mayReplay (d : Dev) (p : Nat) (l : Link) : Bool :=
  let r := d.get F.PRT_PROT_PROT_PORT p
  d.flag F.PRT_PROT_PROT_EN p && r != p && decide (r < d.portCount) && d.linkUp r && !l.relinked && l.copy.isNone

/-- A link as the protection port `r` carries it: its charged length there (R262), and cut-through by the bit and the rate
of that port (R246). A frame that `r` takes store-and-forward is ready when its last byte is expected (R288). -/
def Dev.asOn (d : Dev) (r : Nat) (l : Link) : Link :=
  match d.frame l.fid with
  | none => { l with relinked := true }
  | some f =>
    let ct := d.cutThrough f r
    let whole := wireTime f.base (d.inRate f) + 60 * qNs
    let ready := if f.done || ct == l.ct then l.ready else if ct && f.headIn then d.nowQ else l.ready + (if l.ct && f.headIn then whole else 0)
    { l with relinked := true, lc := f.chargedOn r, ct := ct, waits := l.waits && !ct, ready := ready }

/-- Re-links one frame of a class to the protection port, or frees it (the table of R292). -/
def Dev.replayLink (d : Dev) (p q : Nat) (l : Link) : Dev :=
  let r := d.get F.PRT_PROT_PROT_PORT p
  let x := d.asOn r l
  if !d.mayReplay p l then d.flushLink p 0x04B l
  else if l.deadline.isSome && decide (d.get F.PRT_Q_RES_RES_CELLS (qKey r q) < d.claimed r q + cellsOf x.lc) then
    d.flushLink p 0x04A l
  else
    let d := d.setQueue r q (d.queue r q ++ [x])
    ((d.judgeIdle r).wakeTx r).portEvent p 0x049

/-- The frames admitted to queues of a port that goes down and held until their verdict: each goes on waiting for the same
class of the protection port, or is linked there at once where that port takes it cut-through (R246), or waits no more;
counted as a queued frame of its case (R292). -/
def Dev.replayHeld (d : Dev) (p : Nat) : Dev :=
  let r := d.get F.PRT_PROT_PROT_PORT p
  let all := d.allFrames.flatMap (fun f => f.waiting.filter (fun w => w.1 == p))
  let moved (w : Nat × Nat × Link) : Option (Nat × Nat × Link) :=
    if w.1 ≠ p then some w
    else if d.mayReplay p w.2.2 && !(d.asOn r w.2.2).ct then some (r, w.2.1, d.asOn r w.2.2)
    else none
  let n := d.onSw (fun s => { s with frames := s.frames.map (fun (e : Nat × Option Stored) =>
    (e.1, e.2.map (fun f => { f with waiting := f.waiting.filterMap moved }))) })
  let n := n.each all (fun n w =>
    let x := d.asOn r w.2.2
    let go := d.mayReplay p w.2.2
    (if go && x.ct then n.link r w.2.1 x else n).portEvent p (if go then 0x049 else 0x04B))
  n.each d.portList Dev.judgeIdle

/-- The frames queued for a port that goes down are replayed class by class or freed, and the port starts with empty
queues, deficits of zero and tails of now; the protection port predicts again where bounded frames have joined it (R292). -/
def Dev.replayPort (d : Dev) (p : Nat) : Dev :=
  let r := d.get F.PRT_PROT_PROT_PORT p
  let before := (d.boundedOf r).map (fun q => (d.queue r q).length)
  let d := d.each (List.range 8) (fun d q =>
    let l := d.queue p q
    let d := ((d.setQueue p q []).setDeficit p q 0).setTail p q d.nowQ
    d.each l (fun d x => d.replayLink p q x))
  let d := (d.replayHeld p).onSw (fun s => { s with drr := tabSet s.drr (7, false) p (7, false) })
  let joined := (d.boundedOf r).map (fun q => (d.queue r q).length) != before
  (if r != p && joined then d.rescheduled r else d).judgeIdle p

/-- Counts a frame received on a port: bytes from DA to FCS, frames, multicast and broadcast (counters 0, 2, 4, 6), or
sent (1, 3, 5, 7). -/
def Dev.countFrame (d : Dev) (p dir : Nat) (bytes : List Byte) : Dev :=
  let d := (d.countPort p dir bytes.length).countPort p (2 + dir)
  if (bytes.take 6).all (· == 0xFF) then d.countPort p (6 + dir)
  else d.when (byteAt bytes 0 % 2 == 1) (fun d => d.countPort p (4 + dir))

end Sys2Proof.Machine
end

