-- ==== Sys2Proof/Machine/PtuOps.lean ====
section
/-! DEFINITION. The port time units (07_port_time_transfer.md): timestamps (R168 to R170), latencies (R171 to R174), mean
path delay and asymmetry (R179, R191), offsets and the phase track (R176 to R178), port states and what the selector
reads of a port (R46, R70). -/

namespace Sys2Proof.Machine

/-! ## Timestamps -/

/-- The fixed latency of a direction of a port at the die temperature, in fs (R169); direction 0 receive, 1 transmit. -/
def Dev.latFixFs (d : Dev) (p dir : Nat) : Nat := Config.latFixed dir (d.portMode p) d.sys.dieTemp

/-- The denominator of the timestamp equation: 6.4 ns is cut into 2^14 beat steps and N unit intervals; fs in 2^-16 ns. -/
def stampDen (n : Nat) : Nat := 2 ^ 14 * n * 1000000

/-- t_RX (R168): the CDR code in place of the beat phase while RX_BEAT_LOCK is clear (R166). -/
def Dev.tRx (d : Dev) (p : Nat) (c : Capture) : Ticks :=
  let n := modeUi (d.portMode p)
  let phase := if d.flag F.PRT_PTU_STAT_RX_BEAT_LOCK p then c.phi * n else c.cdr * 256
  let plus : Nat := (c.grid * 2 ^ 14 * n + phase + c.ui * 2 ^ 14) * 6400000
  let minus : Nat := d.latFixFs p 0 * 2 ^ 14 * n + (d.ptu p).rxMeas * 256 * 6400000 +
    d.get F.PRT_EXT_DELAY_RX_EXT p * 1000 * 2 ^ 14 * n
  if n = 0 then 0 else (roundDiv (((plus : Int) - minus) * 65536) (stampDen n)).toNat

/-- t_TX (R169). -/
def Dev.tTx (d : Dev) (p : Nat) (c : Capture) : Ticks :=
  let n := modeUi (d.portMode p)
  let plus : Nat := (c.grid * 2 ^ 14 * n + c.phi * n + c.ui * 2 ^ 14) * 6400000 + d.latFixFs p 1 * 2 ^ 14 * n +
    (d.ptu p).txMeas * 256 * 6400000 + d.get F.PRT_EXT_DELAY_TX_EXT p * 1000 * 2 ^ 14 * n
  if n = 0 then 0 else (roundDiv ((plus : Int) * 65536) (stampDen n)).toNat

/-- L_RX (0) or L_TX (1) in 2^-16 ns (WIDE_SEL 0x14, 0x15). -/
def Dev.latency (d : Dev) (p dir : Nat) : Int :=
  let n := modeUi (d.portMode p)
  let meas := if dir = 0 then (d.ptu p).rxMeas else (d.ptu p).txMeas
  if n = 0 then 0 else roundDiv (((d.latFixFs p dir * 64 * n + meas * 6400000 : Nat) : Int) * 65536) (64 * n * 1000000)

/-- PRT_PTU_STAT bits [6:0] with CHANGED. -/
def Dev.ptuBit (d : Dev) (f : Fld) (b : Bool) (p : Nat) : Dev := d.setMark f (bitNat b) F.PRT_PTU_STAT_CHANGED p

/-- PRT_Q_PTX follows every latency measurement (R287); zero while the port is not up. -/
def Dev.refreshPtx (d : Dev) (p : Nat) : Dev :=
  d.set F.PRT_Q_PTX_P_TX
    (if d.linkUp p then Config.pTxOf (d.portMode p) (d.latency p 1) (d.get F.PRT_EXT_DELAY_TX_EXT p) else 0) p

/-- Latencies measured at a link-up (R171). -/
def Dev.measureUp (d : Dev) (p : Nat) (l : LatMeas) : Dev :=
  (d.onPtu p (fun t => { t with rxMeas := l.rx, txMeas := l.tx })).set F.PRT_LAT_STAT_CAUSE 1 p

/-- A wake measurement of one direction (R173): a difference above 1/64 UI replaces the value held, is recorded and
counted. -/
def Dev.measureWake (d : Dev) (p dir new : Nat) : Dev :=
  let old := if dir = 0 then (d.ptu p).rxMeas else (d.ptu p).txMeas
  let diff : Int := (new : Int) - old
  let d := d.set F.PRT_LAT_STAT_CAUSE 2 p
  if diff.natAbs ≤ 1 then d.refreshPtx p
  else
    let d := d.onPtu p (fun t => if dir = 0 then { t with rxMeas := new } else { t with txMeas := new })
    let d := (d.set F.PRT_LAT_STAT_SHIFT (twosOf (clampInt (-127) 127 diff) 8) p).set F.PRT_LAT_STAT_LAT_SHIFT 1 p
    (d.portEvent p 0x042).refreshPtx p

/-- Latency after an LPI wake (R158, R171). -/
def Dev.measureLpi (d : Dev) (p dir new : Nat) : Dev :=
  let d := d.onPtu p (fun t => if dir = 0 then { t with rxMeas := new } else { t with txMeas := new })
  (d.set F.PRT_LAT_STAT_CAUSE 3 p).refreshPtx p

/-! ## Mean path delay and asymmetry -/

/-- The asymmetry in use (R191), in 2^-16 ns. -/
def Dev.asym (d : Dev) (p : Nat) : Int :=
  let ref := signedOf (d.get F.PRT_ASYM_REF_ASYM_REF p) 32
  let rho := signedOf (d.get F.PRT_ASYM_COEF_RHO p) 32
  divFree (ref * 65536 * 10 ^ 8 + rho * ((d.ptu p).mean - d.get F.PRT_ASYM_DREF_D_REF p * 65536)) (10 ^ 12)

/-- The mean path delay restarts (R179). -/
def Dev.restartDelay (d : Dev) (p : Nat) : Dev :=
  (d.onPtu p (fun t => { t with delays := [], rejects := 0 })).ptuBit F.PRT_PTU_STAT_DELAY_VALID false p

/-- PRT_REV_STAT.STEP with CHANGED, and the start of a measurement window. -/
def Dev.setRev (d : Dev) (p step : Nat) : Dev :=
  (d.setMark F.PRT_REV_STAT_STEP step F.PRT_REV_STAT_CHANGED p).onPtu p (fun t => { t with
    revSum := 0, revN := 0, revDown := false, revFrom := d.now })

/-- SWAP and SWAP_BACK_WAIT end once the port has gone down and up again and DELAY_VALID is set (R192). -/
def Dev.revAdvance (d : Dev) (p : Nat) : Dev :=
  let step := d.get F.PRT_REV_STAT_STEP p
  if (step == 2 || step == 4) && (d.ptu p).revDown && d.linkUp p && d.flag F.PRT_PTU_STAT_DELAY_VALID p then
    d.setRev p (step + 1)
  else d

/-- The procedure ends in FAILED with a cause (PRT_REV_STAT.FAIL). -/
def Dev.revFail (d : Dev) (p cause : Nat) : Dev := (d.setRev p 7).set F.PRT_REV_STAT_FAIL cause p

/-- A delay sample (R179): discarded and counted when it differs from the mean in use by more than 1 ns; three consecutive
discards restart the mean. -/
def Dev.addDelay (d : Dev) (p : Nat) (x : Int) : Dev :=
  let t := d.ptu p
  if !t.delays.isEmpty && aboveNs (x - t.mean) 1 then
    let d := (d.onPtu p (fun t => { t with rejects := t.rejects + 1 })).portEvent p 0x041
    if 3 ≤ (d.ptu p).rejects then d.restartDelay p else d
  else
    let n := max 1 (d.get F.PRT_PTP_RATE_DELAY_AVG p)
    let l := (x :: t.delays).take n
    let d := d.onPtu p (fun t => { t with delays := l, rejects := 0, mean := divFree l.sum l.length })
    if n ≤ l.length then (d.ptuBit F.PRT_PTU_STAT_DELAY_VALID true p).revAdvance p else d

/-! ## The candidate of a port -/

/-- PORT_STATE (IEEE 1588-2019 portState). -/
def Dev.ptpState (d : Dev) (p : Nat) : Nat := d.get F.PRT_PTU_STAT_PORT_STATE p
def Dev.isSlave (d : Dev) (p : Nat) : Bool := d.ptpState p == 8 || d.ptpState p == 9

/-- L1_TRACK: phase samples by R176 are in use. -/
def Dev.judgeL1 (d : Dev) (p : Nat) : Dev :=
  d.ptuBit F.PRT_PTU_STAT_L1_TRACK (d.portUp p && d.kindOf (4 + p) == .portL1 && d.isSlave p &&
    d.flag F.PRT_PTU_STAT_RX_BEAT_LOCK p && (d.ptu p).anchored) p

/-- The candidate of a port is active only as R70 says. -/
def Dev.judgePortCand (d : Dev) (p : Nat) : Dev :=
  let on := d.portUp p && d.isSlave p && !(d.ptu p).syncLate && !(d.ptu p).annLate && !(d.cand (4 + p)).retired
  let d := if on = d.flag F.RSEL_CAND_STAT_ACTIVE (4 + p) then d else d.setActive (4 + p) on
  d.judgeL1 p

/-- The module's clock identity (R160). -/
def Dev.clockId (d : Dev) : BitVec 64 := Config.clockId d.ident.serialHi d.ident.serialLo

/-- A port changes its PTP state: the host is told (R381), the candidate follows (R70), and a reversal in progress fails
when the port leaves SLAVE or UNCALIBRATED while its link is up (PRT_REV_STAT.FAIL). -/
def Dev.setPtpState (d : Dev) (p st : Nat) : Dev :=
  if d.ptpState p = st then d
  else
    let was := d.ptpState p
    let d := d.setMark F.PRT_PTU_STAT_PORT_STATE st F.PRT_PTU_STAT_CHANGED p
    let parent := match (d.ptu p).announce with | some (m, _) => m.clockId | none => d.clockId
    let step := d.get F.PRT_REV_STAT_STEP p
    let d := d.when (8 ≤ was && st < 8 && d.linkUp p && 1 ≤ step && step ≤ 5) (fun d => d.revFail p 3)
    let d := d.onPtu p (fun t => { t with told := st, anchored := t.anchored && (st == 8 || st == 9) })
    let d := match d.instOf p with
      | some i => d.notice ⟨i, p, st, parent⟩
      | none => d
    d.judgePortCand p

/-- PTP_PIN_LOST holds while a pinned SLAVE port has lost its parent (R183). -/
def Dev.setPinLost (d : Dev) (p : Nat) (b : Bool) : Dev :=
  let d := d.ptuBit F.PRT_PTU_STAT_PIN_LOST b p
  d.cond .ptpPinLost ((List.range 32).any (fun n => d.flag F.PRT_PTU_STAT_PIN_LOST n))

/-- The port begins in its instance: INITIALIZING, or DISABLED while it is down, up in loop or in no instance. -/
def Dev.ptpBegin (d : Dev) (p : Nat) : Dev :=
  let d := d.onPtu p (fun t => { t with
    syncLate := false, annLate := false, announce := none, annSent := none, syncTimes := none, syncWait := none
    req := none, presp := none, followTx := none, grants := [], held := [], l1Sync := false, l1Peer := none, lastPd := none, anchored := false, due := [] })
  d.setPtpState p (if d.portUp p && (d.instOf p).isSome then 1 else 3)

/-! ## Offsets -/

/-- A phase or PTP offset reaches the selector and the servo: the candidate's offset is its negative. -/
def Dev.passTheta (d : Dev) (p : Nat) (theta : Int) : Dev :=
  if d.flag F.TB_HB_STAT_FROZEN then d
  else d.onCand (4 + p) (fun c => { c with offset := -theta, hasOffset := true })

/-- θ_L1 where the phase track stands at `phi` (R176): θ_PTP of the anchoring Sync less the movement of the track, whose
steps are 25.6 × 2^-16 ns; and θ_L1 now. -/
def PtuPort.thetaAt (t : PtuPort) (phi : Int) : Int := t.theta - divFree ((phi - t.trackAt) * 256) 10
def PtuPort.thetaL1 (t : PtuPort) : Int := t.thetaAt t.track

/-- The phase track at a Sync received now, where the beat is locked. -/
def Dev.trackNow (d : Dev) (p : Nat) : Option Int := if d.flag F.PRT_PTU_STAT_RX_BEAT_LOCK p then some (d.ptu p).track else none

/-- A value θ_PTP and the phase track at the receive timestamp of its Sync (R176 to R178): a phase slip above 1 ns is counted
and alarmed, and fails a reversal window; a PORT_L1 port with beat lock is anchored, and the servo receives the offset. -/
def Dev.takeTheta (d : Dev) (p : Nat) (theta : Int) (phi : Option Int) : Dev :=
  let t := d.ptu p
  let l1 := d.kindOf (4 + p) == .portL1 && phi.isSome && d.portUp p
  let slip := l1 && t.anchored && aboveNs (theta - t.thetaAt (phi.getD 0)) 1
  let d := if slip then (d.portEvent p 0x040).raise .ptuPhaseSlip else d
  let step := d.get F.PRT_REV_STAT_STEP p
  let window := step == 1 || step == 3 || step == 5
  let d := if slip && window then
      d.revFail p 4
    else d
  let d := d.onPtu p (fun t => { t with
    theta := theta
    trackAt := if l1 then phi.getD 0 else t.trackAt
    anchored := l1
    revSum := if window && !slip then t.revSum + theta + d.asym p else t.revSum
    revN := if window && !slip then t.revN + 1 else t.revN })
  (d.passTheta p theta).judgeL1 p

/-- θ_PTP from a Sync's times (R176, R191): t2 − t1 − mean path delay − A; none while DELAY_VALID is clear (R179). -/
def Dev.syncTheta (d : Dev) (p : Nat) (t1 t2 : Int) (frozen : Bool) (phi : Option Int) : Dev :=
  if frozen || !d.flag F.PRT_PTU_STAT_DELAY_VALID p then d
  else d.takeTheta p (t2 - t1 - (d.ptu p).mean - d.asym p) phi

/-! ## What the selector and the servo read of a port -/

/-- What the Announce messages of a port's parent tell (R31, R36, R37). -/
def Dev.portSource (d : Dev) (p : Nat) : SourceData :=
  match (d.ptu p).announce with
  | none => .init
  | some (_, a) =>
    ⟨a.utcValid, a.utcOffset, a.leap61, a.leap59, a.timeTrace, a.freqTrace, a.clockAccuracy, a.timeSource⟩

/-- The profile of a port's instance is G.8275.1 or G.8275.2. -/
def Dev.telecom (d : Dev) (p : Nat) : Bool :=
  match d.instOf p with | some i => (d.inst i).profile == 3 || (d.inst i).profile == 4 | none => false

/-- The parent of a port reports itself locked (R46). -/
def Dev.parentLocked (d : Dev) (p : Nat) : Bool :=
  if d.flag F.LANE_QUAD_STAT_DISCOVERED p then d.get F.LANE_PARTNER_INFO_TIME_STATE p == 2
  else match (d.ptu p).announce with
    | none => false
    | some (_, a) =>
      if d.telecom p then a.clockClass == 6 || (a.clockClass == 248 && decide ((d.ptu p).steadyFrom + 60 * secUnit ≤ d.now))
      else a.clockClass == 6 || a.clockClass == 13

/-! ## A step of the time counter -/

/-- A waiting message moves its receive timestamp with the counter. -/
def PtpDue.stepped (x : Int) : PtpDue → PtpDue
  | .delayResp m t => .delayResp m (shiftTicks t x)
  | .pdelayResp m t c => .pdelayResp m (shiftTicks t x) c
  | .sync c => .sync c
  | .followUp => .followUp
  | .announce => .announce
  | .delayReq c => .delayReq c
  | .signal m t v => .signal m t v

/-- Instants of exchanges in progress, and θ_PTP, move with the counter; the phase track goes on from its next sample. -/
def Dev.ptusStepped (d : Dev) (x : Int) : Dev :=
  { d with ptus := d.ptus.map (fun (e : Nat × PtuPort) => (e.1, { e.2 with
      theta := e.2.theta + x
      tracked := false
      syncTimes := e.2.syncTimes.map (fun t => (t.1, t.2 + x))
      syncWait := e.2.syncWait.map (fun w => { w with t2 := shiftTicks w.t2 x })
      req := e.2.req.map (fun r => (r.1, shiftTicks r.2 x))
      presp := e.2.presp.map (fun r => (r.1, r.2.1, shiftTicks r.2.2 x))
      followTx := e.2.followTx.map (fun r => (r.1, shiftTicks r.2 x))
      steadyFrom := shiftTicks e.2.steadyFrom x
      lastPd := e.2.lastPd.map (fun r => (r.1, r.2 + x))
      due := e.2.due.map (PtpDue.stepped x) })) }

end Sys2Proof.Machine
end

