-- ==== Sys2Proof/Machine/Stream.lean ====
section
/-! DEFINITION. The stream table (R237 to R241) and the functions of step 10 (10_queues_bounded_delivery.md): stream gates
(R265, R266), meters (R267, R268), sequence generation and recovery (R270 to R272). -/

namespace Sys2Proof.Machine

/-! ## Stream table -/

/-- Whether a slice takes part in lookups (R237). -/
def Dev.sliceOn (d : Dev) (k : Nat) : Bool :=
  if bitAt (d.get F.SW_ST_PAIR_PAIRED) (k / 2) then bitAt (d.get F.SW_ST_PAIR_BANK_SEL) (k / 2) == (k % 2 == 1)
  else d.flag F.SW_ST_SLICE_CFG_EN k

/-- The key words K0 to K7 of a frame for a slice (R227, R240), with its VID and PCP after R227. -/
def streamKey (p : Parsed) (port vid pcp ipv6Sel : Nat) : List Nat :=
  let ipa : Nat :=
    if p.l3 = 1 then p.ipSrc * 2 ^ 32 + p.ipDst
    else if p.l3 = 2 then match ipv6Sel with
      | 0 => p.ipDst % 2 ^ 64
      | 1 => p.ipSrc % 2 ^ 64
      | 2 => p.ipDst / 2 ^ 64
      | _ => p.ipSrc / 2 ^ 64
    else 0
  [port + pcp * 2 ^ 5 + vid * 2 ^ 8 + bitNat (p.nTags != 0) * 2 ^ 20 + p.l3 * 2 ^ 21 + bitNat p.frag * 2 ^ 23 + p.dscp * 2 ^ 24,
    p.etype + p.proto * 2 ^ 16, p.da % 2 ^ 32, p.da / 2 ^ 32 + p.sa % 2 ^ 16 * 2 ^ 16, p.sa / 2 ^ 16,
    p.l4Src + p.l4Dst * 2 ^ 16, ipa % 2 ^ 32, ipa / 2 ^ 32]

/-- An entry matches a frame's key (R239). -/
def Dev.streamMatch (d : Dev) (i : Nat) (key : List Nat) : Bool :=
  (List.range 8).all (fun w =>
    let m := (d.word .ST_M (i * 8 + w)).toNat
    (d.word .ST_K (i * 8 + w)).toNat &&& m == key.getD w 0 &&& m)

/-- The action of a stream entry. -/
structure StreamAct where
  drop     : Bool
  redirect : Option Nat
  cls      : Option Nat
  mirror   : Option Nat
  noLearn  : Bool
  meter    : Option Nat
  gate     : Option Nat
  seqgen   : Option Nat
  recov    : Option Nat
  maxSdu   : Nat
  deriving DecidableEq, Repr

/-- A frame that matches no entry. -/
def StreamAct.none : StreamAct := ⟨false, .none, .none, .none, false, .none, .none, .none, .none, 0⟩

/-- A field of an action word that its enable bit may leave out. -/
def optField (w en lo width : Nat) : Option Nat := if bitAt w en then some (bitsOf w lo width) else .none

/-- The action words A0 to A3 of an entry. -/
def Dev.streamAct (d : Dev) (i : Nat) : StreamAct :=
  let a0 := (d.word .ST_A (i * 4)).toNat
  let a1 := (d.word .ST_A (i * 4 + 1)).toNat
  let a2 := (d.word .ST_A (i * 4 + 2)).toNat
  { drop := bitAt a0 1
    redirect := optField a0 2 3 5
    cls := optField a0 8 9 3
    mirror := optField a0 12 13 2
    noLearn := bitAt a0 15
    meter := optField a1 0 1 13
    gate := optField a1 14 15 10
    seqgen := optField a2 0 1 12
    recov := optField a2 13 14 12
    maxSdu := bitsOf (d.word .ST_A (i * 4 + 3)).toNat 0 14 }

/-- The valid entries, lowest index first. -/
def Dev.streamEntries (d : Dev) : List Nat :=
  ((unitsOf d.regs .ST_A).filter (fun u => u % 4 == 0 && (d.word .ST_A u).toNat % 2 == 1)).map (· / 4)

/-- The lookup (R239): the matching valid entry of lowest index, of a slice that takes part. -/
def Dev.streamLookup (d : Dev) (p : Parsed) (port vid pcp : Nat) : StreamAct :=
  match d.streamEntries.find? (fun i => d.sliceOn (i / 1024) && !d.sw.badTbl.contains (0x0A, i) &&
      d.streamMatch i (streamKey p port vid pcp (d.get F.SW_ST_SLICE_CFG_IPV6_SEL (i / 1024)))) with
  | some i => d.streamAct i
  | none => .none

/-! ## Stream gates (R265, R266) -/

/-- The position of an instant in a gate's cycle, in 2^-16 ns, and the number of the cycle. -/
def Dev.sgatePlace (d : Dev) (g : Nat) (t : Ticks) : Nat × Int :=
  let c := d.get F.SGATE_W0_CYCLE g * nsUnit
  let x : Int := (t : Int) - (d.get F.SGATE_W1_OFFSET g * nsUnit : Nat)
  if c = 0 then (0, 0) else ((x % (c : Int)).toNat, x / (c : Int))

/-- A stream gate is open at an instant by its cycle (R265). -/
def Dev.sgateOpen (d : Dev) (g : Nat) (t : Ticks) : Bool :=
  d.get F.SGATE_W0_CYCLE g == 0 || decide ((d.sgatePlace g t).1 < d.get F.SGATE_W2_WIDTH g * nsUnit)

/-- SGATE W5 OPEN: by the cycle, and not latched closed. -/
def Dev.sgateNow (d : Dev) (g : Nat) (t : Ticks) : Bool :=
  d.sgateOpen g t && !d.flag F.SGATE_W5_CLOSED_INV g && !d.flag F.SGATE_W5_OCTETS_EXCEEDED g

/-- A frame of a base length at a stream gate: a discard cause, or passed. -/
def Dev.passGate (d : Dev) (g : Nat) (t : Ticks) (len : Nat) : Dev × Option Nat :=
  if !d.sgateNow g t then
    let d := d.when (d.flag F.SGATE_W3_CLOSED_LATCH g) (fun d => d.set F.SGATE_W5_CLOSED_INV 1 g)
    (d.devEvent false 0x108 g, some 7)
  else
    let max := d.get F.SGATE_W4_MAX_OCTETS g
    if max = 0 then (d, none)
    else
      let win := (d.sgatePlace g t).2
      let (w, n) := tabGet d.sw.gateOct (0, 0) g
      let used := if w = win then n else 0
      if max < used + len then
        let d := d.when (d.flag F.SGATE_W3_OCTET_LATCH g) (fun d => d.set F.SGATE_W5_OCTETS_EXCEEDED 1 g)
        (d.devEvent false 0x108 g, some 8)
      else (d.onSw (fun s => { s with gateOct := tabSet s.gateOct (0, 0) g (win, used + len) }), none)

/-! ## Meters (R267, R268) -/

/-- One byte in the unit of the buckets. -/
def bucketByte : Nat := 10 ^ 6 * 65536

/-- Both levels of a meter now: each filled at its rate since they held, never above its size. -/
def Dev.meterNow (d : Dev) (m : Nat) : Nat × Nat :=
  let (c, x, at0) := tabGet d.sw.meters (0, 0, 0) m
  let dt := (d.cycles - at0) * 655360
  (min (d.get F.METER_W2_CBS m * bucketByte) (c + d.get F.METER_W0_CIR m * dt),
    min (d.get F.METER_W3_XBS m * bucketByte) (x + d.get F.METER_W1_XIR m * dt))

/-- Stores the levels of a meter. -/
def Dev.setMeter (d : Dev) (m c x : Nat) : Dev :=
  d.onSw (fun s => { s with meters := tabSet s.meters (0, 0, 0) m (c, x, d.cycles) })

/-- The decision of a meter (R267): colour 0 green, 1 yellow, 2 red, and the levels it leaves. -/
def meterRule (mode : Nat) (yellow : Bool) (c x s : Nat) : Nat × Nat × Nat :=
  if mode = 0 then
    if x < s then (2, c, x)
    else if yellow || c < s then (1, c, x - s)
    else (0, c - s, x - s)
  else if !yellow && s ≤ c then (0, c - s, x)
  else if s ≤ x then (1, c, x - s)
  else (2, c, x)

/-- Meters a frame of a base length; answers its colour and whether it is to be marked (R268). -/
def Dev.meterFrame (d : Dev) (m len : Nat) (dei : Bool) : Dev × Nat × Bool :=
  let (c, x) := d.meterNow m
  let s := (len + d.get F.METER_W4_OVERHEAD m) * bucketByte
  let (col, c', x') := meterRule (d.get F.METER_W4_MODE m) (d.flag F.METER_W4_AWARE m && dei) c x s
  ((d.setMeter m c' x').devEvent false (0x100 + col) m, col, d.flag F.METER_W4_DEI_MARK m && col != 0)

/-! ## Sequence generation and recovery (R270 to R272) -/

/-- NEXT_SEQ of an instance, and its increment. -/
def Dev.nextSeq (d : Dev) (i : Nat) : Dev × Nat :=
  let n := d.get F.SEQGEN_W0_NEXT_SEQ i
  (d.set F.SEQGEN_W0_NEXT_SEQ ((n + 1) % 65536) i, n)

/-- HISTORY of a recovery instance. -/
def Dev.history (d : Dev) (i : Nat) : Nat := d.get F.RECOV_W6_HISTORY i * 2 ^ 32 + d.get F.RECOV_W5_HISTORY i
def Dev.setHistory (d : Dev) (i h : Nat) : Dev :=
  (d.set F.RECOV_W5_HISTORY h i).set F.RECOV_W6_HISTORY (h / 2 ^ 32) i

/-- Counts an event of a recovery instance (R388, 0x110 + e). -/
def Dev.recovEvent (d : Dev) (i e : Nat) (n : Nat := 1) : Dev := d.devEvent false (0x110 + e) i n

/-- The zero bits among the `k` highest of an `h`-bit history. -/
def zerosOut (hist h k : Nat) : Nat := ((List.range k).filter (fun j => !bitAt hist (h - 1 - j))).length

/-- A difference of sequence numbers as a signed 16-bit value. -/
def seqDiff (a b : Nat) : Int := signedOf (twosOf ((a : Int) - b) 16) 16

/-- The recovery function on a numbered frame (R271): a discard cause, or passed. `any` tells that TAKE_ANY was set. -/
def Dev.recover (d : Dev) (i s : Nat) : Dev × Option Nat :=
  let rs := d.get F.RECOV_W3_RECOV_SEQ i
  let h := d.get F.RECOV_W0_HIST_LEN i
  let put (d : Dev) : Dev := d.set F.RECOV_W3_RECOV_SEQ s i
  if d.flag F.RECOV_W3_TAKE_ANY i then (((put d).setHistory i 1).set F.RECOV_W3_TAKE_ANY 0 i, none)
  else if d.flag F.RECOV_W0_ALG i then
    if s = rs then (d.recovEvent i 1, some 10) else (put d, none)
  else
    let delta := seqDiff s rs
    let hist := d.history i
    if (h : Int) ≤ delta || delta ≤ -(h : Int) then (d.recovEvent i 2, some 11)
    else if 0 < delta then
      let k := delta.toNat
      let lost := zerosOut hist h k
      let d := d.when (lost != 0) (fun d => d.recovEvent i 3 lost)
      ((put d).setHistory i ((hist * 2 ^ k + 1) % 2 ^ h), none)
    else
      let k := (-delta).toNat
      if bitAt hist k then (d.recovEvent i 1, some 10) else (d.setHistory i (hist + 2 ^ k), none)

/-- Resequencing is on (R272). -/
def Dev.reseqOn (d : Dev) (i : Nat) : Bool := d.flag F.RECOV_W0_RESEQ i && !d.flag F.RECOV_W0_ALG i

/-- What resequencing does with a passed frame: it goes on, it is held, or it comes too late. -/
inductive Reseq where | goOn | hold | late
  deriving DecidableEq, Repr

/-- The judgement of R272. DESIGN CHOICE: outside the history window the frame goes on at once, as it does without a hold
slot. -/
def Dev.reseqJudge (d : Dev) (i s : Nat) : Reseq :=
  let x := seqDiff s (d.get F.RECOV_W4_RELEASED i)
  if x = 1 then .goOn
  else if x ≤ 0 then .late
  else if (d.get F.RECOV_W0_HIST_LEN i : Int) ≤ x || 8192 ≤ d.sw.holds.length then .goOn
  else .hold

/-- The frames that an instance holds. -/
def Dev.heldOf (d : Dev) (i : Nat) : List Hold := d.sw.holds.filter (fun h => h.inst == i)

/-- RECOV W4 HELD follows. -/
def Dev.refreshHeld (d : Dev) (i : Nat) : Dev := d.set F.RECOV_W4_HELD (d.heldOf i).length i

end Sys2Proof.Machine
end

