-- ==== Sys2Proof/Machine/Forward.lean ====
section
/-! DEFINITION. The forwarding decision (R226 to R229), base and charged lengths (R262), mirroring (R250 to R252), admission
on the destination set (R276, R288), the verdict at a frame's last byte (R248, R263) and resequencing (R272, R273). -/

namespace Sys2Proof.Machine

/-! ## Holding and sending on -/

/-- Step 12 (R226): the frame is offered to the queue of its class on every destination that is up. -/
def Dev.admitFrame (d : Dev) (fid : Nat) : Dev :=
  match d.frame fid with
  | none => d
  | some f =>
    let d := d.each f.dests (fun d e => if d.linkUp e then (d.offer e f.cls fid (f.chargedOn e) none).1 else d)
    d.judgeBanks

/-- A frame that nothing but its receive engine holds keeps no cells: it is stored only if a queue admits it or a copy
waits (R276). -/
def Dev.dropUnstored (d : Dev) (fid : Nat) : Dev :=
  match d.frame fid with
  | none => d
  | some f =>
    if f.refs ≤ 1 && f.waiting.isEmpty && f.copies.isEmpty then d.onFrame fid (fun f => { f with cells := [], charge := 0 }) else d

/-- The distance of a hold beyond RELEASED. -/
def Dev.beyond (d : Dev) (i : Nat) (h : Hold) : Int := seqDiff h.seq (d.get F.RECOV_W4_RELEASED i)

/-- A held frame goes on: RELEASED becomes its number (R272, R273). One that RELEASED has passed, which a frame without a
hold slot can do, comes too late and is discarded (RESEQ_LATE). -/
def Dev.sendHeld (d : Dev) (i : Nat) (h : Hold) : Dev :=
  let late := decide (d.beyond i h ≤ 0)
  let d := (d.onSw (fun s => { s with holds := s.holds.filter (· ≠ h) })).refreshHeld i
  if late then
    let d := match d.frame h.fid with | some f => d.discardCause f.inPort 12 | none => d
    (d.recovEvent i 7).release h.fid
  else ((d.set F.RECOV_W4_RELEASED h.seq i).admitFrame h.fid).release h.fid

/-- Held frames that now follow RELEASED without a gap go on, in order (R272). -/
def Dev.sendNext (d : Dev) (i : Nat) : Nat → Dev
  | 0 => d
  | n + 1 =>
    match (d.heldOf i).find? (fun h => d.beyond i h == 1) with
    | none => d
    | some h => (d.sendHeld i h).sendNext i n

/-- Held frames of an instance in sequence order. -/
def Dev.heldInOrder (d : Dev) (i : Nat) : List Hold := (d.heldOf i).insertionSort (fun a b => d.beyond i a ≤ d.beyond i b)

/-- Held frames are released up to one of them (R272): the missing numbers are declared lost. -/
def Dev.releaseUpTo (d : Dev) (i : Nat) (last : Hold) : Dev :=
  let l := (d.heldInOrder i).filter (fun h => d.beyond i h ≤ d.beyond i last)
  let d := d.each l (fun d h =>
    let lost := (d.beyond i h - 1).toNat
    (d.when (lost != 0) (fun d => d.recovEvent i 3 lost)).sendHeld i h)
  d.sendNext i (d.heldOf i).length

/-- The hold of an instance whose time is the earliest runs out (HOLD_RELEASE). -/
def Dev.holdRelease (d : Dev) (i : Nat) : Dev :=
  match (d.heldOf i).foldl (fun b h => match b with
      | none => some h
      | some x => if h.until_ < x.until_ then some h else some x) none with
  | none => d
  | some h => (d.releaseUpTo i h).judgeBanks

/-- RESEQ is cleared: every held frame goes on at once, in order (R272). -/
def Dev.releaseAll (d : Dev) (i : Nat) : Dev := d.each (d.heldInOrder i) (fun d h => d.sendHeld i h)

/-- TIMEOUT passes without a passed frame (R271). -/
def Dev.recovTimeout (d : Dev) (i : Nat) : Dev :=
  if !d.fastOn then d else ((d.set F.RECOV_W3_TAKE_ANY 1 i).setHistory i 0).recovEvent i 4

/-! ## Mirroring -/

/-- A candidate of a session: the Nth requests a copy (R250). -/
def Dev.mirCandidate (d : Dev) (s : Nat) : Dev × Bool :=
  if !d.flag F.SW_MIR_CFG_EN s then (d, false)
  else
    let n := tabGet d.sw.mirCount 0 s + 1
    let hit := decide (d.get F.SW_MIR_SAMPLE_N s ≤ n)
    (d.onSw (fun w => { w with mirCount := tabSet w.mirCount 0 s (if hit then 0 else n) }), hit)

/-- The copy that a candidate of a session requests now. -/
def Dev.mirCopy (d : Dev) (s : Nat) : MirCopy :=
  ⟨s, d.get F.SW_MIR_CFG_DEST_PORT s, d.get F.SW_MIR_CFG_TC s, d.get F.SW_MIR_CFG_TRUNC s⟩

/-- A requested copy waits on its frame, which stays stored for it. -/
def Dev.wantCopy (d : Dev) (fid s : Nat) : Dev := d.onFrame fid (fun f => { f with copies := f.copies ++ [d.mirCopy s] })

/-- Ingress candidates of a frame (R250): its port is a source, or its stream action names the session. -/
def Dev.mirIngress (d : Dev) (fid p : Nat) (flow : Option Nat) : Dev :=
  d.each (List.range 4) (fun d s =>
    if bitAt (d.get F.SW_MIR_IN_PORTS s) p || flow == some s then
      let (d, hit) := d.mirCandidate s
      if hit then d.wantCopy fid s else d
    else d)

/-- The bytes of a frame that a copy of a TRUNC holds, its FCS apart (R252): the first TRUNC of them, or all. -/
def copyBody (trunc : Nat) (bytes : List Byte) : List Byte :=
  let body := bytes.take (bytes.length - 4)
  if trunc = 0 then body else body.take trunc

/-- A copy is taken if its session still runs and the mirror credit covers the cells it reads, and offered to its queue
(R251, R261). -/
def Dev.takeCopy (d : Dev) (fid : Nat) (c : MirCopy) : Dev :=
  match d.frame fid with
  | none => d
  | some f =>
    let reads := cellsOf (if c.trunc = 0 then f.bytes.length else min c.trunc f.bytes.length)
    if !d.flag F.SW_MIR_CFG_EN c.session then d
    else if d.sw.mirCredit < reads then d.countDev 274
    else
      let d := (d.onSw (fun w => { w with mirCredit := w.mirCredit - reads })).countDev (270 + c.session)
      if !(c.dest < d.portCount) || !d.linkUp c.dest then d.countDev 275
      else (d.offer c.dest c.tc fid ((copyBody c.trunc f.bytes).length + 4) (some c.trunc)).1

/-- The copies that waited for the verdict. -/
def Dev.takeCopies (d : Dev) (fid : Nat) : Dev :=
  match d.frame fid with
  | none => d
  | some f => (d.onFrame fid (fun f => { f with copies := [] })).each f.copies (fun d s => d.takeCopy fid s)

/-! ## The decision -/

/-- VALID of a VLAN entry that is neither 0 nor 4095 nor retired (R231, R257). -/
def Dev.vlanValid (d : Dev) (v : Nat) : Bool :=
  v != 0 && v != 4095 && d.flag F.VLAN_W3_VALID v && !d.sw.badTbl.contains (0x09, v)

/-- Step 3 rejects a frame (R227). -/
def Dev.vlanRejects (d : Dev) (p : Nat) (x : Parsed) : Bool :=
  let carries := x.nTags != 0 && x.vid != 0
  (x.nTags != 0 && x.vid == 4095) ||
    (match d.get F.SW_PORT_CFG_ACCEPT p with | 1 => !carries | 2 => carries | _ => false)

/-- The destination set (R228). -/
def Dev.destsOf (d : Dev) (p vid da : Nat) (redirect : Option Nat) : List Nat :=
  let up (e : Nat) : Bool := e != p && d.linkUp e && d.get F.SW_PORT_CFG_STATE e == 3
  match redirect with
  | some r => if r < d.portCount && up r then [r] else []
  | none =>
    let flood := d.get F.VLAN_W2_FLOOD vid &&& d.get F.VLAN_W0_MEMBER vid
    let set : Nat := match d.fdbFind vid da with
      | some i =>
        if d.flag F.FDB_W2_DISCARD i then 0
        else if d.flag F.FDB_W2_MC i then d.get F.FDB_W3_PORT_MASK i else 2 ^ d.get F.FDB_W2_PORT i
      | none =>
        if isMulticast da then (if d.flag F.VLAN_W3_UNK_MC_DROP vid then 0 else flood)
        else if d.flag F.VLAN_W3_UNK_UC_DROP vid then 0 else flood
    d.portList.filter (fun e => bitAt set e && up e && bitAt (d.get F.VLAN_W0_MEMBER vid) e)

/-- A transparent instance forwards a PTP message to the other ports of the instance that are up and FORWARDING (R185). -/
def Dev.transitDests (d : Dev) (p i : Nat) : List Nat :=
  d.portList.filter (fun e => e != p && d.instOf e == some i && d.linkUp e && d.get F.SW_PORT_CFG_STATE e == 3)

/-- Step 1: trapped to the control path, forwarded by a transparent instance, or an ordinary frame. -/
inductive Trap where | trapped | transit (inst : Nat) | ordinary
  deriving DecidableEq, Repr
def Dev.trapOf (d : Dev) (p : Nat) (b : List Byte) : Trap :=
  if (parseFrame b).etype = 0x88B5 then .trapped
  else match ptpIn b, d.instOf p with
    | some x, some i =>
      if ptpDomain b x ≠ (d.inst i).domain then .ordinary
      else
        let t := ptpType b x
        if (d.inst i).kind = 0 || t == 2 || t == 3 || t == 0xA then .trapped else .transit i
    | _, _ => .ordinary

/-- The base length of a frame (R262). -/
def Dev.baseLen (d : Dev) (p : Nat) (f : RxFrame) (x : Parsed) (maxSdu : Nat) : Nat :=
  if f.complete then f.bytes.length
  else match x.hdrLen with
    | some n => n
    | none => if maxSdu ≠ 0 then maxSdu else d.get F.PRT_MAC_CFG_MAX_FRAME p

/-- The frame on its way: nothing decided. -/
def Dev.newStored (d : Dev) (p : Nat) (f : RxFrame) (tRx : Ticks) : Stored where
  inPort := p
  own := .none
  bytes := f.bytes
  done := false
  bad := false
  base := f.bytes.length
  vid := 0
  pcp := 0
  tagged := false
  untag := 0
  dests := []
  cls := 0
  colour := 0
  deiMark := false
  rtag := none
  popRtag := false
  transit := false
  tRx := tRx
  cells := []
  refs := 1
  charge := 0
  res := false
  born := d.sw.passes
  unreached := 0
  learn := false
  copies := []
  waiting := []
  maxFrame := d.get F.PRT_MAC_CFG_MAX_FRAME p

/-- What step 10 leaves of a frame: discarded under a cause, on its way to step 11, as the number of a resequencing instance
where it has one, or held (R264). -/
inductive Ten where
  | discard (cause : Nat)
  | goOn (i : Option (Nat × Nat))
  | hold (i s : Nat)
  deriving DecidableEq, Repr

/-- The recovery function in step 10 (R264, order 2): a frame without an R-TAG passes as TAGLESS. -/
def Dev.tenRecover (d : Dev) (a : StreamAct) (x : Parsed) : Dev × Ten :=
  match a.recov, x.rtag with
  | none, _ => (d, .goOn none)
  | some i, none => (d.recovEvent i 5, .goOn none)
  | some i, some s =>
    match d.recover i s with
    | (d, some c) => (d, .discard c)
    | (d, none) =>
      if !d.reseqOn i then (d.recovEvent i 0, .goOn none)
      else match d.reseqJudge i s with
        | .late => (d.recovEvent i 7, .discard 12)
        | .goOn => (d.recovEvent i 0, .goOn (some (i, s)))
        | .hold => (d.recovEvent i 0, .hold i s)

/-- Step 10 (R264). The frame's record is in place; what passes is written into it. -/
def Dev.stepTen (d : Dev) (fid : Nat) (a : StreamAct) (x : Parsed) (base : Nat) (tRx : Ticks) : Dev × Ten :=
  if a.maxSdu ≠ 0 && a.maxSdu < base then (d, .discard 6)
  else
    let pop := match a.recov with | some i => d.flag F.RECOV_W0_POP_RTAG i | none => false
    match d.tenRecover a x with
    | (d, .discard c) => (d, .discard c)
    | (d, ten) =>
      let (d, closed) := match a.gate with
        | none => (d, none)
        | some g => d.passGate g tRx base
      match closed with
      | some c => (d, .discard c)
      | none =>
        let ipv := match a.gate with
          | some g => if d.flag F.SGATE_W3_IPV_EN g then some (d.get F.SGATE_W3_IPV g) else none
          | none => none
        let (d, col, mark) := match a.meter with
          | none => (d, 0, false)
          | some m => d.meterFrame m base x.dei
        let red := match a.meter with | some m => col == 2 && !d.flag F.METER_W4_RED_ACT m | none => false
        if red then (d, .discard 9)
        else
          let (d, tag) := match a.seqgen with
            | none => (d, none)
            | some g => let (d, n) := d.nextSeq g; (d, some n)
          (d.onFrame fid (fun f => { f with
            cls := ipv.getD f.cls, colour := col, deiMark := mark && x.nTags != 0, rtag := tag, popRtag := pop }), ten)

/-- Steps 2 to 10 of an ordinary frame (R226): a discard cause, or what step 10 leaves; the stream action's mirror session
goes with it. -/
def Dev.decideFrame (d : Dev) (fid p : Nat) (f : RxFrame) (tRx : Ticks) : Dev × Option Nat × Ten :=
  let x := parseFrame f.bytes
  let vid := if x.nTags != 0 && x.vid != 0 then x.vid else d.get F.SW_PORT_CFG_PVID p
  let pcp := if x.nTags != 0 then x.pcp else d.get F.SW_PORT_CFG_DEF_PCP p
  let st := d.get F.SW_PORT_CFG_STATE p
  if x.da / 16 = 0x0180C200000 then (d, none, .discard 0)
  else if d.vlanRejects p x then (d, none, .discard 1)
  else if !d.vlanValid vid || (d.flag F.SW_PORT_CFG_INGRESS_FILTER p && !bitAt (d.get F.VLAN_W0_MEMBER vid) p) then
    (d, none, .discard 2)
  else if st = 0 || st = 1 then (d, none, .discard 3)
  else
    let a := d.streamLookup x p vid pcp
    if a.drop then (d, a.mirror, .discard 4)
    else
      let learn := d.flag F.SW_CFG_LEARN_EN && !d.flag F.VLAN_W3_LEARN_DIS vid && !a.noLearn && !isMulticast x.sa
      let base := d.baseLen p f x a.maxSdu
      let d := d.onFrame fid (fun g => { g with
        base := base, vid := vid, pcp := pcp, tagged := x.nTags != 0, untag := d.get F.VLAN_W1_UNTAG vid, learn := learn })
      if st = 2 then (d, a.mirror, .discard 3)
      else
        let dests := d.destsOf p vid x.da a.redirect
        if dests.isEmpty then (d, a.mirror, .discard 5)
        else
          let cls := a.cls.getD (bitsOf (d.get F.SW_PCP_MAP_MAP p) (3 * pcp) 3)
          let d := d.onFrame fid (fun g => { g with dests := dests, cls := cls })
          let (d, ten) := d.stepTen fid a x base tRx
          (d, a.mirror, ten)

/-- Gives a frame the cells of its base length. -/
def Dev.storeFrame (d : Dev) (fid : Nat) : Dev :=
  match d.frame fid with
  | none => d
  | some f => if f.cells.isEmpty then d.giveCells fid (cellsOf f.base) else d

/-- A discarded or trapped frame is stored only for the copies requested of it. -/
def Dev.storeIfCopied (d : Dev) (fid : Nat) : Dev :=
  match d.frame fid with
  | some g => if g.copies.isEmpty then d else d.storeFrame fid
  | none => d

/-- A PTP message that the port forwards, corrected or as ordinary traffic, is counted, and the timestamp of an event
message is kept (R187, R199); a port up in loop takes none (R170). -/
def Dev.ptpSeen (d : Dev) (p : Nat) (b : List Byte) (tRx : Ticks) : Dev :=
  match ptpIn b with
  | none => d
  | some x =>
    let t := ptpType b x
    if !d.portUp p || d.trapOf p b == .trapped then d
    else (d.countRx p t).when (t < 4) (fun d => d.onPtu p (fun u => { u with tRxLast := d.stamp tRx }))

/-- The frame's record is made, the steps are taken, and the receive engine holds it until the verdict. -/
def Dev.takeFrame (d : Dev) (p : Nat) (f : RxFrame) : Dev :=
  if !d.linkUp p || (d.rxNow p).isSome then d
  else
    let tRx := d.tRx p f.cap
    let fid := d.sw.nextFid
    let d := (d.onSw (fun s => { s with nextFid := fid + 1 })).setFrame fid (some (d.newStored p f tRx))
    let d := (d.setRx p (some fid)).ptpSeen p f.bytes tRx
    match d.trapOf p f.bytes with
    | .trapped => d.mirIngress fid p none |>.storeIfCopied fid
    | .transit i =>
      let d := d.onFrame fid (fun g => { g with
        base := d.baseLen p f (parseFrame f.bytes) 0, dests := d.transitDests p i, cls := 7, transit := true })
      let d := d.mirIngress fid p none
      ((d.storeFrame fid).admitFrame fid).dropUnstored fid
    | .ordinary =>
      let (d, flow, ten) := d.decideFrame fid p f tRx
      let d := d.mirIngress fid p flow
      match ten with
      | .discard c => (d.discardCause p c).storeIfCopied fid
      | .goOn none => ((d.storeFrame fid).admitFrame fid).dropUnstored fid
      | .goOn (some (i, s)) =>
        let d := (((d.set F.RECOV_W4_RELEASED s i).storeFrame fid).admitFrame fid).dropUnstored fid
        d.sendNext i (d.heldOf i).length
      | .hold i s =>
        let d := d.storeFrame fid
        let h : Hold := ⟨i, s, fid, tRx + d.get F.RECOV_W2_HOLD_NS i * nsUnit⟩
        let d := (d.onSw (fun w => { w with holds := w.holds ++ [h] })).onFrame fid (fun g => { g with refs := g.refs + 1 })
        (d.recovEvent i 6).refreshHeld i

/-- FRAME_RECEIVED (R226); N_req follows the cells in use (R305). -/
def Dev.frameIn (d : Dev) (p : Nat) (f : RxFrame) : Dev := (d.takeFrame p f).judgeBanks

/-! ## The verdict -/

/-- A frame proves bad (R248, R253, R259): sent nowhere that has not committed it, and a bad tail where it is. -/
def Dev.spoilFrame (d : Dev) (fid : Nat) : Dev :=
  let d := d.onFrame fid (fun f => { f with bad := true, waiting := [] })
  let d := (d.spoilTx fid).dropLinks fid
  match d.sw.holds.find? (fun h => h.fid == fid) with
  | none => d
  | some h => ((d.onSw (fun s => { s with holds := s.holds.filter (· ≠ h) })).refreshHeld h.inst).release fid

/-- The frame in transmission on a port that goes down is lost and counted; a frame in reception is cut off at the last
byte received and proves bad, and its mirror copies are sent (R248, R252, R292). -/
def Dev.cutPort (d : Dev) (p : Nat) : Dev :=
  let d := match d.txNow p with
    | none => d
    | some t => (d.setTx p none).flushLink p 0x04B t.link
  match d.rxNow p with
  | none => d
  | some fid =>
    let d := match d.frame fid with | some s => d.countFrame p 0 s.bytes | none => d
    let d := d.onFrame fid (fun s => { s with done := true, cells := s.cells.take (cellsOf s.bytes.length) })
    (((d.spoilFrame fid).takeCopies fid).setRx p none).release fid

/-- The places that a frame was admitted to are its links now (R248). -/
def Dev.linkPlaces (d : Dev) (fid : Nat) : Dev :=
  d.onSw (fun s => { s with queues := s.queues.map (fun (e : Nat × List Link) =>
    (e.1, e.2.map (fun l => if l.fid = fid then { l with waits := false } else l))) })

/-- FRAME_FCS_VERDICT (R248, R263): the last byte has arrived; R232 learns where the FCS proves good. -/
def Dev.verdict (d : Dev) (p : Nat) (v : RxVerdict) : Dev :=
  match d.rxNow p with
  | none => d
  | some fid =>
    match d.frame fid with
    | none => d.setRx p none
    | some f =>
      let all := f.bytes ++ v.tail
      let tooLong := decide (f.maxFrame < all.length)
      let long := decide (f.base < all.length) && !f.dests.isEmpty
      let bad := !v.fcsOk || v.uncorrectable || tooLong || long
      let bytes := if tooLong then all.take (f.maxFrame + 4) else if long then all.take f.base else all
      let d := (d.countFrame p 0 all).when (!v.fcsOk) (fun d => d.countPort p 32)
      let d := (d.when tooLong (fun d => d.countPort p 33)).when long (fun d => d.portEvent p (0x050 + 13))
      let d := d.onFrame fid (fun g => { g with bytes := bytes, done := true, cells := g.cells.take (cellsOf bytes.length) })
      let d :=
        if bad then d.spoilFrame fid
        else
          let d := (d.linkPlaces fid).onFrame fid (fun g => { g with waiting := [] })
          d.each f.waiting (fun d w => if d.linkUp w.1 then d.link w.1 w.2.1 w.2.2 else d)
      let d := d.when (f.learn && v.fcsOk) (fun d =>
        if v.learnBusy then d.countDev 268 else d.learnSa f.vid (parseFrame all).sa p)
      (((d.takeCopies fid).setRx p none).release fid).judgeBanks

/-! ## Configuration writes of this chapter (R294) -/

/-- A write of a recovery instance's word (R294). -/
def Dev.writeRecov (d : Dev) (i word : Nat) (v : Word) : Dev :=
  match word with
  | 0 =>
    let resets := F.RECOV_W0_ALG.of v ≠ d.get F.RECOV_W0_ALG i ||
      clampNat 1 64 (F.RECOV_W0_HIST_LEN.of v) ≠ d.get F.RECOV_W0_HIST_LEN i
    let was := d.reseqOn i
    let d := d.store .RECOV_W0 i v
    let d := if resets then (d.set F.RECOV_W3_TAKE_ANY 1 i).setHistory i 0 else d
    if was && !d.reseqOn i then (d.releaseAll i).judgeBanks else d
  | 1 => d.store .RECOV_W1 i v
  | 2 => d.store .RECOV_W2 i v
  | 3 => d.store .RECOV_W3 i v
  | _ => d.store .RECOV_W4 i v

/-- A write of a meter's word (R294): levels kept, a bucket whose size is written set full at the new size. -/
def Dev.writeMeter (d : Dev) (m word : Nat) (v : Word) : Dev :=
  let (c, x) := d.meterNow m
  match word with
  | 0 => (d.setMeter m c x).store .METER_W0 m v
  | 1 => (d.setMeter m c x).store .METER_W1 m v
  | 2 => let d := d.store .METER_W2 m v; d.setMeter m (d.get F.METER_W2_CBS m * bucketByte) x
  | 3 => let d := d.store .METER_W3 m v; d.setMeter m c (d.get F.METER_W3_XBS m * bucketByte)
  | _ => (d.setMeter m c x).store .METER_W4 m v

/-! ## Meanings -/

/-- FRAME_RECEIVED (R226). -/
def execFrameReceived (p : PortId) (f : RxFrame) (s : State) : Host.Outcome State Fault Refusal :=
  .next (s.onDev (·.frameIn p.val f))
/-- FRAME_FCS_VERDICT (R248). -/
def execFrameFcsVerdict (p : PortId) (v : RxVerdict) (s : State) : Host.Outcome State Fault Refusal :=
  .next (s.onDev (·.verdict p.val v))
/-- RECOVERY_TIMEOUT (R271). -/
def execRecoveryTimeout (i : Fin 4096) (s : State) : Host.Outcome State Fault Refusal := .next (s.onDev (·.recovTimeout i.val))
/-- HOLD_RELEASE (R272). -/
def execHoldRelease (i : Fin 4096) (s : State) : Host.Outcome State Fault Refusal := .next (s.onDev (·.holdRelease i.val))
/-- RECOVERY_CFG_WRITE (R294). -/
def execRecoveryCfgWrite (i : Fin 4096) (w : Fin 5) (v : Word) (s : State) : Host.Outcome State Fault Refusal :=
  .next (s.onDev (·.reachFast (·.writeRecov i.val w.val v)))
/-- METER_CFG_WRITE (R294). -/
def execMeterCfgWrite (m : Fin 8192) (w : Fin 5) (v : Word) (s : State) : Host.Outcome State Fault Refusal :=
  .next (s.onDev (·.reachFast (·.writeMeter m.val w.val v)))

end Sys2Proof.Machine
end

