-- ==== Sys2Proof/Machine/LaneOps.lean ====
section
/-! DEFINITION. Operations of the serial lanes (06_serial_lanes.md): bring-up, link-down, the end of a sleep, discovery
frames, lane tests and lane retirement. -/

namespace Sys2Proof.Machine

/-! ## Discovery frames (R159, R160) -/

/-- CAPS and STATE_FLAGS of the module on a port (R160, R303). -/
def Dev.capsOf (d : Dev) (p : Nat) : Nat :=
  let st := d.mir.state
  bitNat (st == .acquiring || st == .locked || st == .holdover || st == .jumpHeld) + 2 +
    4 * d.get F.PWR_PORT_CFG_RX_DEEP_OK p
def Dev.stateFlags (d : Dev) (p : Nat) : Nat := d.mir.state.num + 8 * d.get F.PWR_PORT_CFG_RX_SLEEP_OK p

/-- IF_VERSION of the running CP image. -/
def Dev.cpIfVer (d : Dev) : Nat := ((d.sys.images[3]?).map Image.ifVer).getD 0

/-- A discovery frame without its FCS, the entry time in 2^-16 ns; DOMAIN of a port in no instance is not stated. -/
def Dev.discFrame (d : Dev) (p type depth : Nat) (entry : Ticks) : List Byte :=
  [0x01, 0x80, 0xC2, 0x00, 0x00, 0x0E] ++ d.portMac p ++ [0x88, 0xB5, 0x01, BitVec.ofNat 8 type] ++
  beBytes 2 (d.port p).helloSeq ++ beBytes 8 d.clockId.toNat ++
  [BitVec.ofNat 8 p, BitVec.ofNat 8 d.ident.variant, BitVec.ofNat 8 (d.get F.LANE_QUAD_CFG_MODE p),
    BitVec.ofNat 8 (d.capsOf p), BitVec.ofNat 8 (d.stateFlags p), BitVec.ofNat 8 ((d.domainOf p).getD d.freeVal),
    BitVec.ofNat 8 depth, 0] ++
  beBytes 4 (entry / secUnit) ++ beBytes 4 (entry % secUnit / 65536) ++ beBytes 2 d.cpIfVer ++ List.replicate 16 0

/-- Queues a frame of the module's own in traffic class 7 of a port (R159): no forwarding decision, no admission. -/
def Dev.queueOwn (d : Dev) (p : Nat) (own : OwnKind) (bytes : List Byte) : Dev :=
  let fid := d.sw.nextFid
  let f : Stored := {
    inPort := p, own := own, bytes := bytes, done := true, bad := false, base := bytes.length, vid := 0, pcp := 0
    tagged := false, untag := 0, dests := [p], cls := 7, colour := 0, deiMark := false, rtag := none, popRtag := false
    transit := false, tRx := d.now, cells := [], refs := 0, charge := 0, res := false, born := d.sw.passes, unreached := 0
    learn := false, copies := [], waiting := [], maxFrame := bytes.length }
  let d := (d.onSw (fun s => { s with nextFid := fid + 1 })).setFrame fid (some f)
  d.link p 7 ⟨fid, bytes.length, none, 0, d.nowQ, none, false, false, false⟩

/-- HELLO of the CP (R159): queued at once, in an entry too, which it cancels; while the transmitter sleeps it is sent after
its next wake (R156), and so in a deepening wake, which carries its notice alone (R300). A HELLO that waits ends the idle
period. -/
def Dev.sendHello (d : Dev) (p : Nat) : Dev :=
  if !d.portUp p || !d.flag F.LANE_QUAD_CFG_DISC_EN p || d.sys.cpStopped then d
  else if asleep (d.txSleep p) || (d.txSleep p == 4 && (d.port p).deepens) then
    (d.onPort p (fun s => { s with helloDue := true })).judgeIdle p
  else
    let b := withFcs (d.discFrame p 1 0 0)
    let d := if (d.domainOf p).isNone then d.spendFree else d
    let d := d.onPort p (fun s => { s with helloSeq := (s.helloSeq + 1) % 65536, helloDue := false })
    d.queueOwn p .hello b

/-! ## Lanes and bring-up -/

/-- LANE_STAT bits [3:0] with CHANGED. -/
def Dev.laneBit (d : Dev) (f : Fld) (b : Bool) (l : Nat) : Dev := d.setMark f (bitNat b) F.LANE_STAT_CHANGED l

/-- The four lanes of a quad. -/
def quadLanes (p : Nat) : List Nat := [4 * p, 4 * p + 1, 4 * p + 2, 4 * p + 3]

/-- A used lane is retired. -/
def Dev.portRetired (d : Dev) (p : Nat) : Bool := (d.usedLanes p).any (fun l => d.flag F.LANE_STAT_RETIRED l)

/-- Every used lane is in one and the same near-end loop (R145). -/
def Dev.loopPort (d : Dev) (p : Nat) : Bool :=
  let u := d.usedLanes p
  !u.isEmpty && (u.all (fun l => d.get F.LANE_TEST_LOOP l == 1) || u.all (fun l => d.get F.LANE_TEST_LOOP l == 2))

/-- PTU flags that follow the lanes: TX_BEAT_VALID while the transmit direction is awake (R166), DELAY_HELD while the
receive direction is in SHALLOW or DEEP (R195). -/
def Dev.refreshPtu (d : Dev) (p : Nat) : Dev :=
  let tx := d.txSleep p
  let on := d.fastOn && d.portMode p != 0 && (tx == 0 || tx == 1)
  (d.ptuBit F.PRT_PTU_STAT_TX_BEAT_VALID on p).ptuBit F.PRT_PTU_STAT_DELAY_HELD (d.rxSleep p == 2 || d.rxSleep p == 3) p

/-- Ends the sleep of the receive direction of a port. -/
def Dev.endRxSleep (d : Dev) (p : Nat) : Dev :=
  let d := (d.quadSet F.LANE_QUAD_STAT_RX_SLEEP 0 p).onPort p (fun s => { s with
    rxDepth := 0, rxEntry := none, rxLead := false, missed := 0 })
  d.refreshPtu p

/-- Ends any sleep of a port without notice. -/
def Dev.endSleep (d : Dev) (p : Nat) : Dev :=
  let d := (d.endRxSleep p).quadSet F.LANE_QUAD_STAT_TX_SLEEP 0 p
  let d := d.onPort p (fun s => { s with txDepth := 0, txEntry := none, txLead := false, deepens := false })
  (d.refreshPtu p).refreshPower p

/-- A port's partner is lost, or discovery ends (R161): the partner registers read zero, sleep ends by R150, the kind of
the candidate changes by R70. -/
def Dev.losePartner (d : Dev) (p : Nat) : Dev :=
  let d := (d.quadSet F.LANE_QUAD_STAT_DISCOVERED 0 p).quadSet F.LANE_QUAD_STAT_PARTNER_SYNT 0 p
  let d := ((d.setWord .LANE_PARTNER_ID_HI p 0).setWord .LANE_PARTNER_ID_LO p 0).setWord .LANE_PARTNER_INFO p 0
  ((d.setWord .LANE_PARTNER_DOM p 0).judgeSleep p).judgeL1 p

/-- The receiver of a port starts a bring-up from SIGNAL_DETECT (R138), where its lanes allow one (R145, R147); its lanes are
no longer in DEEP, so that a stopped LPLL starts again (R302). -/
def Dev.startBring (d : Dev) (p : Nat) : Dev :=
  let d := d.when (d.portMode p != 0) (fun d => d.restartLpll (p / 8))
  let phase := if d.portMode p = 0 || !d.fastOn then 0 else if d.portRetired p then 9
    else if d.portTest p && !d.loopPort p then 8 else 1
  let d := d.each (d.usedLanes p) (fun d l => d.laneBit F.LANE_STAT_CDR_LOCK false l)
  let d := d.onPort p (fun s => { s with bringFrom := d.now })
  (d.quadSet F.LANE_QUAD_STAT_PHASE phase p).refreshPtu p

/-- A port that is up goes down with a cause (R141): counted, its receiver sleeps no more, its partner is lost, so that a
sleeping transmitter wakes (R150, R161), its candidate becomes inactive (R70), and its frames are handled by R292. -/
def Dev.portDown (d : Dev) (p cause : Nat) : Dev :=
  if !d.linkUp p then d
  else
    let d := (d.quadSet F.LANE_QUAD_STAT_LINK_UP 0 p).set F.LANE_QUAD_STAT_DOWN_CAUSE cause p
    let d := (d.countPort p 40).portEvent p (0x010 + cause)
    let d := d.onPort p (fun s => { s with inLoop := false, helloDue := false })
    let d := ((d.endRxSleep p).losePartner p).onPtu p (fun t => { t with revDown := true, anchored := false, tracked := false })
    let d := (d.ptuBit F.PRT_PTU_STAT_LAT_VALID false p).ptuBit F.PRT_PTU_STAT_RX_BEAT_LOCK false p
    let d := ((d.setPinLost p false).ptpBegin p).judgePortCand p
    let d := ((d.cutPort p).replayPort p).refreshPtx p
    (d.refreshPower p).judgeBanks

/-- A port goes down and its receiver starts a new bring-up at once (R141). -/
def Dev.dropLink (d : Dev) (p cause : Nat) : Dev := (d.portDown p cause).startBring p

/-- A failed attempt: counted, and restarted from SIGNAL_DETECT (R139, R174). -/
def Dev.retryBring (d : Dev) (p : Nat) : Dev :=
  (d.countPort p 41).quadSet F.LANE_QUAD_STAT_PHASE 1 p

/-- Lanes that the port does not use are off (R135). -/
def Dev.lanesOff (d : Dev) (p : Nat) : Dev :=
  d.each (quadLanes p) (fun d l =>
    if (d.usedLanes p).contains l then d
    else ((d.laneBit F.LANE_STAT_SIG_DET false l).laneBit F.LANE_STAT_CDR_LOCK false l).laneBit F.LANE_STAT_CHK_LOCK false l)

/-- A port takes a new mode (R162): down with CONFIG, sleep and test settings end, unused lanes go off, the LPLL of the
group starts, and the used lanes bring up. OFF disqualifies the candidate with reason CONFIG (R427), before the port goes down. -/
def Dev.newMode (d : Dev) (p mode : Nat) : Dev :=
  let off := (d.set F.LANE_QUAD_CFG_MODE mode p).portMode p = 0
  let d := ((d.endSleep p).when off (·.disqualify (4 + p) 6)).portDown p 6
  let d := d.set F.LANE_QUAD_CFG_MODE mode p
  let d := d.each (quadLanes p) (fun d l => (d.setWord .LANE_TEST l 0).laneBit F.LANE_STAT_CHK_LOCK false l)
  let d := d.lanesOff p
  let d := if off then d else (d.restartLpll (p / 8)).startInternal (5 + p / 8)
  ((d.startBring p).refreshPower p).judgeBanks

/-- Every lane of a group whose LPLL is retired is idle: ports down, queued frames handled by R292 (R119). -/
def Dev.lpllLost (d : Dev) (k : Nat) : Dev :=
  d.each ((List.range 8).map (fun i => 8 * k + i)) (fun d p =>
    if d.portMode p = 0 then d else ((d.endSleep p).portDown p 7).startBring p)

/-- LANE_RETIRED holds while a lane is retired (R398). -/
def Dev.laneAlarm (d : Dev) : Dev := d.cond .laneRetired ((List.range 128).any (fun l => d.flag F.LANE_STAT_RETIRED l))

/-- A lane is retired (R147, R19): idle, its receiver off, logged; a port whose used lane it is goes down. -/
def Dev.retireLane (d : Dev) (l : Nat) : Dev :=
  let p := l / 4
  let d := ((d.laneBit F.LANE_STAT_RETIRED true l).laneBit F.LANE_STAT_SIG_DET false l).laneBit F.LANE_STAT_CDR_LOCK false l
  let d := ((d.laneBit F.LANE_STAT_CHK_LOCK false l).logAdd 0x03 1 0 l).laneAlarm
  if (d.usedLanes p).contains l then ((d.endSleep p).portDown p 7).startBring p else d

/-- All ports OFF as by R162, their frames freed as FLUSH (R297): DOWN_CAUSE is CONFIG. -/
def Dev.flushPort (d : Dev) (p : Nat) : Dev :=
  d.each (List.range 8) (fun d q => ((d.setQueue p q []).each (d.queue p q) (fun d l => d.flushLink p 0x04B l)))
def Dev.portsOff (d : Dev) : Dev :=
  let d := d.each d.portList Dev.flushPort
  d.each d.portList (fun d p => d.newMode p 0)

end Sys2Proof.Machine
end

