-- ==== Sys2Proof/Machine/TioOps.lean ====
section
/-! DEFINITION. Operations of the time I/O channels (08_time_io.md, R200 to R223): timestamps, records and their FIFO,
measurements, triggers and schedules, and what the sample clock, a step of the counter and a calibration do to them. -/

namespace Sys2Proof.Machine

/-- Stores a bit of TIO_STAT among [6:0], with CHANGED. -/
def Dev.tioBit (d : Dev) (f : Fld) (b : Bool) (c : Nat) : Dev := d.setMark f (bitNat b) F.TIO_STAT_CHANGED c

/-- TIO_CFG.EN and MODE of a channel present; modes 0 to 4 are inputs. -/
def Dev.tioEn (d : Dev) (c : Nat) : Bool := decide (c < d.tios) && d.flag F.TIO_CFG_EN c
def Dev.tioMode (d : Dev) (c : Nat) : Nat := d.get F.TIO_CFG_MODE c
def Dev.tioReady (d : Dev) (c : Nat) : Bool := d.flag F.TIO_STAT_READY c

/-- READY follows (R202, R214). -/
def Dev.refreshReady (d : Dev) (c : Nat) : Dev :=
  let ok := d.tioEn c && (d.tioCh c).live && d.synLocked 9 && !d.synRetired 9 &&
    (d.tioMode c == 5 || (!(d.tioCh c).centres.isEmpty && !d.flag F.TIO_STAT_TDC_RETIRED c))
  let d := d.when (ok && !d.tioReady c) (fun d => d.onTio c (fun t => { t with noEdge := false, noEdgeUs := d.get F.TIO_TIMEOUT_TIMEOUT c }))
  d.tioBit F.TIO_STAT_READY ok c

/-- The numbers of the channels present. -/
def Dev.tioList (d : Dev) : List Nat := List.range d.tios

/-- READY of every channel. -/
def Dev.refreshReadies (d : Dev) : Dev := d.each d.tioList Dev.refreshReady

/-- t_in (R209) from the sample edge in cycles of 1.6 ns, the bin centre in 2^-16 ns, d_pin in fs and IN_EXT in ps. -/
def tIn (sample centre pinFs ext : Nat) : Ticks :=
  (roundDiv ((sample * 104857600000 : Nat) - (centre * 1000000 : Nat) - (pinFs * 65536 : Nat) - (ext * 65536000 : Nat)) 1000000).toNat

/-! ## Records (R215) -/

/-- W0 of a record. -/
def TioRec.w0 (r : TioRec) : Nat := r.seq % 65536 + r.type * 65536 + r.status * 2 ^ 20 + r.flags * 2 ^ 24

/-- Flags of W0 above bit 24: POL, COINCIDENT, ORDER, FROZEN, EDGE_IS_STOP by their places. -/
def polFlag (b : Bool) : Nat := bitNat b
def coincidentFlag : Nat := 4
def orderFlag : Nat := 8
def frozenFlag (b : Bool) : Nat := 16 * bitNat b
def stopFlag : Nat := 64

/-- Makes a record: SEQ counts discarded ones too, LOSS, STEP_SEEN and EDGE_LOST are added; at a full FIFO it is
discarded and counted, and the next record that enters sets LOSS (R204, R214, R215). -/
def Dev.tioRecord (d : Dev) (c type status flags : Nat) (time : BitVec 128) (result : Int) (count : Nat) : Dev :=
  let t := d.tioCh c
  let step := t.stepSeen && (d.tioMode c == 0) && (type == 1 || type == 6)
  let extra := 32 * bitNat step + 128 * bitNat t.lostEdge
  let d := d.onTio c (fun t => { t with
    seq := (t.seq + 1) % 65536, lostEdge := false, stepSeen := t.stepSeen && !step, lastTime := time })
  if 64 - t.badSlots ≤ t.fifo.length then (d.onTio c (fun t => { t with loss := true })).countDev (144 + c)
  else
    let r : TioRec := ⟨t.seq, type, status, flags + extra + 2 * bitNat t.loss, time, result, count⟩
    (d.onTio c (fun t => { t with fifo := t.fifo ++ [r], loss := false })).set F.TIO_STAT_FIFO_LEVEL (t.fifo.length + 1) c

/-- The record type of a measuring mode. -/
def measType (mode : Nat) : Nat := mode + 1

/-! ## Measurements (R210 to R214) -/

/-- Settings read at an arming (R222). -/
def Dev.newMeas (d : Dev) (c : Nat) : TioMeas where
  mode := d.tioMode c
  stopCh := d.get F.TIO_MEAS_CFG_STOP_CH c
  stopRising := !d.flag F.TIO_MEAS_CFG_STOP_EDGE c
  avg := d.get F.TIO_MEAS_CFG_AVG c
  gate := d.get F.TIO_GATE_GATE c
  repeats := d.flag F.TIO_MEAS_CFG_REPEAT c
  first := none
  last := none
  stop := none
  n := 0
  frozen := false

/-- Arms, or ends a measurement; with REPEAT it arms again, but after CONFIG, RETIRED, DISARMED and STOP_LOST (R211). -/
def Dev.tioArmed (d : Dev) (c : Nat) (on : Bool) : Dev :=
  (d.onTio c (fun t => { t with meas := if on then some (d.newMeas c) else none })).tioBit F.TIO_STAT_ARMED on c
def Dev.measEnds (d : Dev) (c status : Nat) : Dev :=
  let repeats := match (d.tioCh c).meas with | some m => m.repeats | none => false
  d.tioArmed c (repeats && !(status == 2 || status == 4 || status == 6 || status == 7))

/-- Ends a measurement without its result (R212, R214): the record's time is its first edge's or the present time; its
RESULT and COUNT are zero before any edge, RESULT zero for STEPPED with COUNT as reached, span and count reached at a
timeout of PERIOD and FREQUENCY, and otherwise not stated. FROZEN says whether an edge taken, or the time of a record
without one, fell in a freeze. -/
def Dev.endMeas (d : Dev) (c status : Nat) : Dev :=
  match (d.tioCh c).meas with
  | none => d
  | some m =>
    let edge := match m.first with | some e => some (e, false) | none => m.stop.map (fun e => (e, true))
    let d := match edge with
      | none => d.tioRecord c (measType m.mode) status (frozenFlag (d.flag F.TB_HB_STAT_FROZEN)) (d.stamp d.now) 0 0
      | some (e, isStop) =>
        let flags := polFlag e.rising + frozenFlag m.frozen + (if isStop then stopFlag else 0)
        let span : Int := match m.last with | some l => (l.time : Int) - e.time | none => 0
        if status = 3 then d.tioRecord c (measType m.mode) status flags e.stamp 0 m.n
        else if status = 1 && (m.mode == 2 || m.mode == 3) then d.tioRecord c (measType m.mode) status flags e.stamp span m.n
        else ((d.tioRecord c (measType m.mode) status flags e.stamp (Config.freeNat d.freeCtr)
          (Config.freeNat (d.freeCtr + 1))).spendFree).spendFree
    d.measEnds c status

/-- An INTERVAL is complete once both edges are there (R211, R213). -/
def Dev.closeInterval (d : Dev) (c : Nat) : Dev :=
  match (d.tioCh c).meas with
  | some ⟨1, _, _, _, _, _, some a, _, some b, _, frozen⟩ =>
    let x : Int := (b.time : Int) - a.time
    let near := decide (x.natAbs * 1000 < 163840)
    let flags := polFlag a.rising + frozenFlag frozen + (if near then coincidentFlag else if x < 0 then orderFlag else 0)
    (d.tioRecord c 2 0 flags a.stamp (if near then 0 else x) 1).measEnds c 0
  | _ => d

/-- An accepted edge of an armed channel (R211). -/
def Dev.measEdge (d : Dev) (c : Nat) (e : TioEdge) (frozen : Bool) : Dev :=
  match (d.tioCh c).meas with
  | none => d
  | some m =>
    let put (m : TioMeas) (d : Dev) : Dev := d.onTio c (fun t => { t with meas := some { m with frozen := m.frozen || frozen } })
    match m.first with
    | none => ((put { m with first := some e, last := some e } d)).when (m.mode == 1) (fun d => d.closeInterval c)
    | some a =>
      let fl := polFlag a.rising + frozenFlag (m.frozen || frozen)
      let span : Int := (e.time : Int) - a.time
      match m.mode with
      | 2 =>
        if m.avg ≤ m.n + 1 then (d.tioRecord c 3 0 fl a.stamp span m.avg).measEnds c 0
        else put { m with last := some e, n := m.n + 1 } d
      | 3 =>
        if a.time + m.gate * 1000 * nsUnit ≤ e.time then (d.tioRecord c 4 0 fl a.stamp span (m.n + 1)).measEnds c 0
        else put { m with last := some e, n := m.n + 1 } d
      | 4 => (d.tioRecord c 5 0 fl a.stamp span 1).measEnds c 0
      | _ => d

/-- A stop edge for every armed interval that names the channel (R203, R211). -/
def Dev.stopEdge (d : Dev) (c : Nat) (e : TioEdge) (frozen : Bool) : Dev :=
  d.each d.tioList (fun d k =>
    match (d.tioCh k).meas with
    | some m =>
      if m.mode = 1 && m.stopCh == c && m.stopRising == e.rising && m.stop.isNone then
        (d.onTio k (fun t => { t with meas := some { m with stop := some e, frozen := m.frozen || frozen } })).closeInterval k
      else d
    | none => d)

/-! ## Schedules and triggers (R216 to R221) -/

/-- Picoseconds of an instant, to the nearest (R217). -/
def psOf (t : Ticks) : Int := roundDiv ((t * 1000 : Nat) : Int) 65536

/-- PERIOD, WIDTH and COUNT in place (R216). -/
def Dev.tioPeriod (d : Dev) (c : Nat) : Nat := max 6400 (d.get F.TIO_PER_HI_PER c * 2 ^ 32 + d.get F.TIO_PER_LO_PER c)
def Dev.tioWidth (d : Dev) (c : Nat) : Nat := d.get F.TIO_WID_HI_WID c * 2 ^ 32 + d.get F.TIO_WID_LO_WID c

/-- The inactive level of an output, or the active one (R216). -/
def Dev.tioLevel (d : Dev) (c : Nat) (high : Bool) : PinDrive :=
  if high != d.flag F.TIO_OUT_CFG_INVERT c then .high else .low

/-- How the pin of a channel is driven: not at all while no timebase is ACTIVE (R10, R315) and unless it is an enabled output
with its clock and its engine (R25, R200, R214, R221); by its schedule, else at its inactive level, or not at all with PARK (R216). -/
def Dev.tioPin (d : Dev) (c : Nat) : PinDrive :=
  if !d.anyActive || !d.tioEn c || d.tioMode c != 5 || !(d.tioCh c).live || d.flag F.TIO_STAT_OUT_RETIRED c then .hiZ
  else
    match (d.tioCh c).sched with
    | some s => d.tioLevel c s.high
    | none => if d.flag F.TIO_OUT_CFG_PARK c then .hiZ else d.tioLevel c false

/-- Does something that can move the pin of a channel, and reports the drive where it has changed. -/
def Dev.pinAfter (d : Dev) (c : Nat) (f : Dev → Dev) : Dev :=
  let n := f d
  n.when (n.tioPin c != d.tioPin c) (fun n => n.emit (.tioPin c n.now (n.tioPin c)))

/-- Begins a schedule; ends it. -/
def Dev.beginSched (d : Dev) (c : Nat) (s : TioSched) : Dev :=
  d.pinAfter c (fun d => (d.onTio c (fun t => { t with sched := some s })).tioBit F.TIO_STAT_PENDING true c)
def Dev.endSched (d : Dev) (c : Nat) : Dev :=
  d.pinAfter c (fun d => (d.onTio c (fun t => { t with sched := none })).tioBit F.TIO_STAT_PENDING false c)
def Dev.endTrig (d : Dev) (c : Nat) : Dev :=
  (d.onTio c (fun t => { t with trig := none })).tioBit F.TIO_STAT_TRIG_ARMED false c

/-- Output, trigger and any pulse stop at once (R220, R222). -/
def Dev.stopOutput (d : Dev) (c : Nat) : Dev := (d.endSched c).endTrig c

/-- An accepted edge on a trigger channel (R217, R219): the armed triggers fire; one that falls while the schedule that the
channel has triggered still has an edge to come counts as a busy trigger, whether or not the trigger is still armed. -/
def Dev.fireTriggers (d : Dev) (c : Nat) (t : Ticks) : Dev :=
  d.each d.tioList (fun d k =>
    match (d.tioCh k).sched with
    | some s => d.when (s.src == 2 && s.trigCh == c) (fun d => d.devEvent true 0x120 k)
    | none =>
      match (d.tioCh k).trig with
      | none => d
      | some g =>
        if g.ch ≠ c then d
        else
          let d := d.beginSched k ⟨psOf t + g.delay, g.period, g.width, g.count, 0, false, 2, c, true, g.ext⟩
          if g.rearm then d else d.endTrig k)

/-- Pending work of TIO outputs for R42 (R218). -/
def Dev.tioPending (d : Dev) : Bool :=
  d.tioList.any (fun c => match (d.tioCh c).sched with | some s => s.pendingWork | none => false)

/-! ## The world around the channels -/

/-- A step of the time counter (R214, R218): measurements end STEPPED, the next record that each channel makes in
TIMESTAMP mode sets STEP_SEEN, schedules keep their physical spacing. -/
def Dev.tioStepped (d : Dev) (x : Int) : Dev :=
  d.each d.tioList (fun d c =>
    let d := d.onTio c (fun t => { t with stepSeen := true })
    if !d.tioEn c then d
    else
      let d := d.onTio c (fun t => { t with
        heldTo := t.heldTo.map (fun h => shiftTicks h x)
        lastAny := t.lastAny.map (fun h => shiftTicks h x)
        sched := t.sched.map (fun s => { s with start := s.start + roundDiv (x * 1000) 65536 }) })
      d.endMeas c 3)

/-- The TIO sample clock is lost (R214): output pins go high-impedance. -/
def Dev.tioClockLost (d : Dev) : Dev :=
  d.each d.tioList (fun d c =>
    let d := (d.endMeas c 4).pinAfter c (fun d => (d.onTio c (fun t => { t with live := false })).stopOutput c)
    (d.tioBit F.TIO_STAT_CAL_RUN false c).tioBit F.TIO_STAT_READY false c)

/-- TIO_RETIRED holds while a delay line or an output engine is retired (R398). -/
def Dev.tioAlarm (d : Dev) : Dev :=
  d.cond .tioRetired ((List.range 48).any (fun c => d.flag F.TIO_STAT_TDC_RETIRED c || d.flag F.TIO_STAT_OUT_RETIRED c))

/-- Intervals whose STOP_CH is no longer an enabled channel in TIMESTAMP mode end STOP_LOST (R211). -/
def Dev.judgeStops (d : Dev) : Dev :=
  d.each d.tioList (fun d k =>
    match (d.tioCh k).meas with
    | some m => if m.mode = 1 && !d.tioTimestamps m.stopCh then d.endMeas k 6 else d
    | none => d)

end Sys2Proof.Machine
end

