-- ==== Sys2Proof/Machine/PowerOps.lean ====
section
/-! DEFINITION. The fast domain as a whole: its registers at every start (R426), start, stop and the state without a
timebase (R10, R296, R297). -/

namespace Sys2Proof.Machine

/-- The fast targets of R320: PORT windows, SW and TBL_ blocks, RING and the LANE space. -/
def Reg.isFast (r : Reg) : Bool :=
  match r.spec.space with
  | .lane => true
  | .bar0 => (0x8000 ≤ r.spec.base && r.spec.base < 0xC000) || 0x100000 ≤ r.spec.base
  | _ => false

/-- The register of a key of the register file. -/
def keyReg (k : Nat) : Reg := Reg.ofNat (k % 512)

/-- Every register and table entry of the fast targets at its Reset value (R426). -/
def Dev.clearFast (d : Dev) : Dev := { d with regs := d.regs.filter (fun (e : Nat × Word) => !(keyReg e.1).isFast) }

/-- CONFIG_NONE holds while CFG_SLOT reads NONE, or FAST is ON and FAST_SLOT reads NONE (R324). -/
def Dev.judgeConfigNone (d : Dev) : Dev :=
  d.cond .configNone (d.get F.GLB_BOOT_STAT_CFG_SLOT == 2 || (d.fastOn && d.get F.GLB_BOOT_STAT_FAST_SLOT == 2))

/-- PWR_STAT.FAST with CHANGED; CONFIG_NONE follows (R324). -/
def Dev.setFast (d : Dev) (v : Nat) : Dev := (d.setMark F.PWR_STAT_FAST v F.PWR_STAT_CHANGED).judgeConfigNone

/-- The CP stops: its instances end, their candidates become inactive, and messages it has taken wait again (R297, R378). -/
def Dev.stopCp (d : Dev) : Dev :=
  let d := { (d.restartParty 2) with insts := [], cpMail := .init }
  (d.each d.portList Dev.ptpBegin).judgeSleeps

/-- The fast domain stops (R297): ports OFF and flushed, CP and SMC stopped, STOPPING. -/
def Dev.stopFast (d : Dev) : Dev :=
  if d.fast = 0 || d.fast = 3 then d
  else
    let d := (d.portsOff.stopCp.restartParty 3).setFast 3
    (d.countDev 287).onSys (fun s => { s with cpStopped := false, smcStopped := false, newCpWait := false })

/-- The fast domain is OFF (R297): its PLLs have stopped and nothing of it is kept; PWR_PORT_STAT, which is no fast target,
shows no sleep and no cause, with CHANGED. -/
def Dev.offFast (d : Dev) : Dev :=
  let d := d.each [4, 5, 6, 7, 8] (fun d i => (d.stopSyn i).synBit F.SYN_STAT_FROZEN false i)
  let d := { d.clearFast with sw := .init, ports := [], ptus := [], insts := [] }
  let d := d.each (List.range 32) (fun d p =>
    let d := (d.set F.PWR_PORT_STAT_T_EFF (d.tEff p) p).setMark F.PWR_PORT_STAT_ALLOWED 0 F.PWR_PORT_STAT_CHANGED p
    (d.setMark F.PWR_PORT_STAT_HOLD_CAUSE 0 F.PWR_PORT_STAT_CHANGED p).setMark F.PWR_PORT_STAT_PIN_BLOCKED 0 F.PWR_PORT_STAT_CHANGED p)
  let d := ((d.cond .laneRetired false).cond .pwrPinBlocked false).cond .ptpPinLost false
  let d := (d.cond .bufRetireLimit false).cond .resShort false
  let d := (d.stopDrain.set F.PWR_STAT_BANKS_UNGATED 0).set F.PWR_STAT_CP_CORES 0
  (d.onSys (fun s => { s with slicesOff := 0, coresOff := 0, lpllOff := 0 })).setFast 0

/-- A start of the fast domain is taken (R296): STARTING; the fabric PLL begins acquisition, MIN_BANKS banks are ungated
(every bank while BANK_GATE_EN is 0, R306), tables are cleared, and the retirements of the fast
domain are forgotten (01_architecture.md, "Reset scopes"). -/
def Dev.beginFast (d : Dev) : Dev :=
  let d := { d.clearFast with sw := .init, ports := [], ptus := [], insts := [], cpMail := .init }
  let d := d.each [4, 5, 6, 7, 8] (fun d i => d.synBit F.SYN_STAT_RETIRED false i)
  let d := (d.synAlarm.setFast 1).startInternal 4
  let n := if d.flag F.PWR_GATE_CFG_BANK_GATE_EN then d.get F.PWR_GATE_CFG_MIN_BANKS else 32
  let d := d.onSw (fun s => { s with nReq := n })
  (d.setGated (((List.range 32).drop n))).set F.PWR_STAT_CP_CORES 4

/-- No timebase is in service (R10): the fast domain stops, every lane idles and every output is high-impedance. -/
def Dev.noTimebase (d : Dev) : Dev :=
  let d := d.stopFast.stopAllSyns.tioClockLost
  d.each (List.range 8) Dev.refreshOut

end Sys2Proof.Machine
end

