-- ==== Sys2Proof/Machine/Hooks.lean ====
section
/-! DEFINITION. What the chapters tie to time: the effects of a step of the time counter (R42, R285), of a freeze (R95,
R96) and of a change of the time status. -/

namespace Sys2Proof.Machine

/-- What a step of the time counter moves beside the counters: outputs and steps (R129), queues and gates (R285), TIO
channels (R214, R218), exchanges of the ports, instants of sleep, and the next Ring dump (R390). -/
def Dev.timeStepped (d : Dev) (x : Int) : Dev :=
  let d := (((d.outsStepped x).queuesStepped x).tioStepped x).ptusStepped x
  let d := { d with ports := d.ports.map (fun (e : Nat × Port) => (e.1, { e.2 with
      bringFrom := shiftTicks e.2.bringFrom x
      txEntry := e.2.txEntry.map (fun t => shiftTicks t x)
      rxEntry := e.2.rxEntry.map (fun t => shiftTicks t x)
      idleFrom := e.2.idleFrom.map (fun t => shiftTicks t x) })) }
  { d with ring := { d.ring with stepped := true, kFrom := shiftTicks d.ring.kFrom x } }

/-- Work that a commanded step would disturb (R42): pending phase steps and alignments, and schedules of TIO outputs. -/
def Dev.pendingWork (d : Dev) : Bool := d.synPending || d.tioPending

/-- A freeze begins (R95): synthesizers hold their words, and no direction may sleep (R150). -/
def Dev.freezeClocks (d : Dev) : Dev := d.freezeSyns.judgeSleeps

/-- A short freeze ends (R96): what it has held is applied (R118). -/
def Dev.thawClocks (d : Dev) : Dev := d.releaseSyns.judgeSleeps

/-- The time status has changed: the conditions of R150 are judged again. -/
def Dev.statusMoved (d : Dev) : Dev := d.judgeSleeps

end Sys2Proof.Machine
end

