-- ==== Sys2Proof/Machine/PtpMsg.lean ====
section
/-! DEFINITION. The bytes of the PTP messages that the module sends: transport (R181, R198), header and body, and the fields
that the insertion stage writes, with the checksums (R187, R188). PRESUMED: the layouts and addresses of IEEE 1588-2019,
which R181 names and does not repeat. -/

namespace Sys2Proof.Machine

/-- The profile of a port's instance (R181): 0 default E2E, 1 default P2P, 2 High Accuracy, 3 G.8275.1, 4 G.8275.2,
5 IEEE 802.1AS. -/
def Dev.profileOf (d : Dev) (p : Nat) : Nat := match d.instOf p with | some i => (d.inst i).profile | none => 0

/-- The transport of the port's next message: 0 Ethernet, 1 UDP/IPv4, 2 UDP/IPv6 (R198); a profile that allows no choice, or
only UDP, holds it to what it allows (R181). -/
def Dev.transportOf (d : Dev) (p : Nat) : Nat :=
  let t := d.get F.PRT_PTP_CFG_TRANSPORT p
  match d.profileOf p with
  | 3 | 5 => 0
  | 4 => if t = 2 then 2 else 1
  | _ => if t = 3 then 0 else t

/-- The messages of the peer-to-peer mechanism. -/
def isPeerType (t : Nat) : Bool := t == 2 || t == 3 || t == 0xA

/-- The destination MAC address of a message of a type. -/
def Dev.ptpDa (d : Dev) (p t : Nat) : Nat :=
  let prof := d.profileOf p
  if prof = 4 then Config.ptpNet p 5
  else match d.transportOf p with
    | 0 => if isPeerType t || prof == 5 || (prof == 3 && Config.ptpNet p 6 % 2 == 1) then 0x0180C200000E else 0x011B19000000
    | 1 => if isPeerType t then 0x01005E00006B else 0x01005E000181
    | _ => if isPeerType t then 0x33330000006B else 0x333300000181

/-- The destination IP address. -/
def Dev.ptpIpDst (d : Dev) (p t : Nat) : Nat :=
  if d.profileOf p = 4 then Config.ptpNet p 4
  else if d.transportOf p = 1 then (if isPeerType t then 0xE000006B else 0xE0000181)
  else if isPeerType t then 0xFF02 * 2 ^ 112 + 0x6B else 0xFF0E * 2 ^ 112 + 0x181

/-- The Internet checksum of some bytes; a short last word is filled with zero. -/
def inetSum (b : List Byte) : Nat :=
  let b := if b.length % 2 = 0 then b else b ++ [0]
  65535 - (List.range (b.length / 2)).foldl (fun s i => onesAdd s (beNat (slice b (2 * i) 2))) 0

/-- A UDP datagram of a PTP message with its checksum, over a pseudo-header; the CP may leave it zero over IPv4 (R188). -/
def udpBytes (port : Nat) (pseudo msg : List Byte) (zero : Bool) : List Byte :=
  let n := 8 + msg.length
  let head := beBytes 2 port ++ beBytes 2 port ++ beBytes 2 n
  let s := inetSum (pseudo ++ beBytes 4 n ++ [0, 0, 0, 17] ++ head ++ [0, 0] ++ msg)
  head ++ beBytes 2 (if zero then 0 else if s = 0 then 65535 else s) ++ msg

/-- A frame without its FCS that carries a PTP message from a port: untagged, over the transport in force. -/
def Dev.ptpFrame (d : Dev) (p t : Nat) (msg : List Byte) : List Byte :=
  let port := if t < 4 then 319 else 320
  let eth := beBytes 6 (d.ptpDa p t) ++ d.portMac p
  let b := match d.transportOf p with
    | 0 => eth ++ [0x88, 0xF7] ++ msg
    | 1 =>
      let src := beBytes 4 (Config.ptpNet p 3)
      let dst := beBytes 4 (d.ptpIpDst p t)
      let front := [0x45, BitVec.ofNat 8 (Config.ptpNet p 0)] ++ beBytes 2 (28 + msg.length) ++ beBytes 2 (Config.ptpNet p 1) ++
        [0, 0, BitVec.ofNat 8 (Config.ptpNet p 2), 17]
      eth ++ [0x08, 0x00] ++ front ++ beBytes 2 (inetSum (front ++ [0, 0] ++ src ++ dst)) ++ src ++ dst ++
        udpBytes port (src ++ dst) msg (Config.ptpNet p 7 % 2 == 1)
    | _ =>
      let src := beBytes 16 (Config.ptpNet p 3)
      let dst := beBytes 16 (d.ptpIpDst p t)
      eth ++ [0x86, 0xDD] ++ beBytes 4 (0x60000000 + Config.ptpNet p 0 % 256 * 2 ^ 20 + Config.ptpNet p 1 % 2 ^ 20) ++
        beBytes 2 (8 + msg.length) ++ [17, BitVec.ofNat 8 (Config.ptpNet p 2)] ++ src ++ dst ++
        udpBytes port (src ++ dst) msg false
  b ++ List.replicate (60 - b.length) 0

/-- A time in a message: seconds in 48 bits, nanoseconds in 32. -/
def ptpTime (t : Ticks) : List Byte := beBytes 6 (t / secUnit) ++ beBytes 4 (t % secUnit / nsUnit)

/-- A port identity. -/
def portIdentity (clock : BitVec 64) (port : Nat) : List Byte := beBytes 8 clock.toNat ++ beBytes 2 port

/-- A PTP message: header and body. -/
def Dev.ptpMessage (d : Dev) (p t : Nat) (m : PtpMsg) (flags : Nat) (body : List Byte) : List Byte :=
  let prof := d.profileOf p
  let control : Byte := match t with | 0 => 0 | 1 => 1 | 8 => 2 | 9 => 3 | _ => 5
  let log : Nat := match t with
    | 0 | 8 => twosOf (signedOf (d.get F.PRT_PTP_RATE_LOG_SYNC p) 4) 8
    | 9 => twosOf (signedOf (d.get F.PRT_PTP_RATE_LOG_DELAY p) 4) 8
    | 0xB => twosOf (signedOf (d.get F.PRT_PTP_RATE_LOG_ANNOUNCE p) 4) 8
    | _ => 0x7F
  let dom := (d.domainOf p).getD 0
  [BitVec.ofNat 8 ((if prof = 5 then 16 else 0) + t), 0x12] ++ beBytes 2 (34 + body.length) ++ [BitVec.ofNat 8 dom, 0] ++
    [BitVec.ofNat 8 (2 * bitNat m.twoStep + 4 * bitNat (prof == 4)), BitVec.ofNat 8 flags] ++ beBytes 8 (twosOf m.corr 64) ++
    [0, 0, 0, 0] ++ portIdentity m.clockId m.portNum ++ beBytes 2 m.seq ++ [control, BitVec.ofNat 8 log]

/-- The body of a message with a timestamp; a response names the sender of its request. -/
def timedBody (t : Nat) (time : Ticks) (asker : Option PtpMsg) : List Byte :=
  ptpTime time ++ (match asker with
    | some r => portIdentity r.clockId r.portNum
    | none => if t = 2 then List.replicate 10 0 else [])

/-- The body of an Announce. -/
def announceBody (a : AnnounceData) : List Byte :=
  ptpTime 0 ++ beBytes 2 (twosOf a.utcOffset 16) ++ [0, BitVec.ofNat 8 a.gmPriority1, BitVec.ofNat 8 a.clockClass,
    BitVec.ofNat 8 a.clockAccuracy] ++ beBytes 2 a.variance ++ [BitVec.ofNat 8 a.gmPriority2] ++ beBytes 8 a.gmId.toNat ++
    beBytes 2 a.stepsRemoved ++ [BitVec.ofNat 8 a.timeSource]

/-- The flags of an Announce: LEAP_61, LEAP_59, UTC valid, the PTP timescale, time and frequency traceable. -/
def announceFlags (a : AnnounceData) : Nat :=
  bitNat a.leap61 + 2 * bitNat a.leap59 + 4 * bitNat a.utcValid + 8 + 16 * bitNat a.timeTrace + 32 * bitNat a.freqTrace

/-- The insertion stage writes the timestamp and the correction that a message leaves with into the frame of the CP's, and
repairs the checksums (R187, R188). -/
def insertFields (b : List Byte) (cp m : PtpMsg) : List Byte :=
  match ptpIn b with
  | none => b
  | some x =>
    let b := if cp.corr = m.corr then b else putField b x (x.hdr + 8) (beBytes 8 (twosOf m.corr 64))
    if cp.time = m.time then b else putField b x (x.hdr + 34) (ptpTime m.time)

/-- A frame of a PTP message leaves the port, in class 7 and stored before it is forwarded (R159, R387). -/
def Dev.ptpLeaves (d : Dev) (p : Nat) (b : List Byte) : Dev :=
  let b := withFcs b
  ((((d.countFrame p 1 b).countPort p 15 b.length).countPort p 23).countPort p 37).emit (.frame p b)

/-- A TLV. -/
def tlvBytes (type : Nat) (v : List Byte) : List Byte := beBytes 2 type ++ beBytes 2 v.length ++ v

end Sys2Proof.Machine
end

