-- ==== Sys2Proof/Machine/Time.lean ====
section
/-! DEFINITION. Operations on time and references that the commands of 02_device_time.md, 03_timebases_references.md and
04_twin_timebases.md share: the mirrored state and its journal, changes of the time status, holdover entries and
predictions, bandwidths, and the reference selector. -/

namespace Sys2Proof.Machine

/-! ## The standby (R91) -/

/-- Whether a role is one of a standby in service: ALIGNING, TRACKING or READY, or WARMING (R91). -/
def standbyRole (r : Nat) : Bool := 1 ≤ r && r ≤ 4

/-- The standby in service, if there is one. -/
def Dev.liveStandby (d : Dev) : Option TbId :=
  match d.standby with
  | some o => if standbyRole (d.role o) then some o else none
  | none => none

/-! ## The mirror (R98 to R100) -/

/-- Writes a checkpoint of the present mirrored state; the journal keeps the entries since the older of the two
checkpoints (R98, R99). -/
def Dev.writeCheckpoint (d : Dev) : Dev :=
  let c : Checkpoint := ⟨d.twin.cpSeq, d.twin.nextSeq, d.mir⟩
  let bufs := (c :: d.twin.bufs).take 2
  let keepFrom := match bufs with
    | [_, older] => older.upTo
    | _ => 0
  d.onTwin (fun t => { t with
    bufs := bufs
    cpSeq := t.cpSeq + 1
    journal := t.journal.filter (fun e => keepFrom ≤ e.seq) })

/-- Keeps the outcome of the standby's verification of the latest checkpoint (R98). -/
def Dev.verify (d : Dev) (ok : Bool) : Dev :=
  d.onTwin (fun w => { w with verified := ok, verFails := if ok then 0 else w.verFails + 1 })

/-- Writes a checkpoint that no command of its own reports, and a standby in service verifies it (R98); the outcome is
free. -/
def Dev.takeCheckpoint (d : Dev) : Dev :=
  let ok := Config.checkpointOk d.twin.cpSeq
  d.writeCheckpoint.when d.liveStandby.isSome (fun d => d.verify ok)

/-- Changes mirrored state: the change is first appended to the journal and then takes effect; at 1536 entries since
the older checkpoint a checkpoint is written early (R99). -/
def Dev.mirror (d : Dev) (m : Mirrored) : Dev :=
  if m = d.mir then d
  else
    let d := d.onTwin (fun t => { t with journal := t.journal ++ [(⟨t.nextSeq, m⟩ : JournalEntry)], nextSeq := t.nextSeq + 1 })
    let d := { d with mir := m }
    d.when (d.twin.journal.length ≥ 1536) Dev.takeCheckpoint

/-- Changes mirrored state by a function. -/
def Dev.mirrorBy (d : Dev) (f : Mirrored → Mirrored) : Dev := d.mirror (f d.mir)

/-- The pull-in bandwidth of a kind in mHz (R54, "Bandwidths and narrowing dwell by reference kind"). -/
def pullInBw : RefKind → Nat
  | .portL1 => 10000 | .portPtp => 1000 | .ppsTod | .pps => 100 | .freq => 1000 | .own => 0

/-- The square of a bandwidth in mHz, in mHz² / 2^20. -/
def bwSquare (mHz : Nat) : Nat := mHz * mHz * 2 ^ 20

/-! ## Time status (R34) -/

/-- Changes STATE: CHANGED is set in both spaces, the change is counted, EVER_LOCKED follows, TIME_JUMP_HELD holds
exactly in JUMP_HELD, UNSET and FREERUN clear what R31, R32 and R36 say, and the servo widens to the pull-in bandwidth where
R56 says so. -/
def Dev.setState (d : Dev) (st : TState) : Dev :=
  if d.mir.state = st then d
  else
    let unsupported := st == .unset || st == .freerun
    let widens : Bool := match d.mir.state with
      | .holdover | .jumpHeld | .freerun => true
      | .locked => st == .acquiring
      | _ => false
    let d := d.mirrorBy (fun m => { m with
      state := st
      bwSq := if widens then bwSquare (pullInBw (d.kindOf (d.get F.RSEL_SEL_SELECTED))) else m.bwSq
      narrowMs := if widens then 0 else m.narrowMs
      everLocked := if st = .unset then false else m.everLocked || st == .locked
      traceable := m.traceable && !unsupported
      freqTrace := m.freqTrace && !unsupported
      utcValid := m.utcValid && !unsupported
      leap61 := m.leap61 && !unsupported
      leap59 := m.leap59 && !unsupported
      slewing := m.slewing && st == .acquiring
      slew := if st = .acquiring then m.slew else 0
      held := if st = .jumpHeld then m.held else 0
      lockMs := 0
      unlockMs := 0 })
    let d := ((d.setB F.TB_TSTAT_CHANGED true 0).setB F.TB_TSTAT_CHANGED true 1).countDev 254
    (d.cond .timeJumpHeld (st == .jumpHeld)).statusMoved

/-- Whether two candidates agree (R75). DESIGN CHOICE: stored offsets are compared in UNSET too, though RSEL_CAND_TOFS reads zero
there, and a candidate that has told no offset counts as offset 0, here and in the bars and jump test. -/
def Dev.agree (d : Dev) (i j : Nat) : Bool :=
  let ci := d.cand i
  let cj := d.cand j
  (ci.mean - cj.mean).natAbs ≤ d.inForce F.RSEL_DISAGREE_FREQ * 100000 &&
  !((d.kindOf i).timeCapable && (d.kindOf j).timeCapable &&
    aboveNs (ci.offset - cj.offset) (d.inForce F.TB_JUMP_CFG_THRESH))

/-- The jump threshold in ns and the policy (R39). -/
def Dev.thresh (d : Dev) : Nat := d.inForce F.TB_JUMP_CFG_THRESH
def Dev.policySlew (d : Dev) : Bool := d.inForceFlag F.TB_JUMP_CFG_POLICY

/-! ## Bandwidths (R55 to R58) -/

/-- The target bandwidth of a kind in mHz (TB_SERVO_TGT, TB_SERVO_TGT2). -/
def Dev.targetBw (d : Dev) : RefKind → Nat
  | .portL1 => d.get F.TB_SERVO_TGT_TGT_L1
  | .portPtp => d.get F.TB_SERVO_TGT_TGT_PTP
  | .ppsTod | .pps => d.get F.TB_SERVO_TGT2_TGT_PPS
  | .freq => d.get F.TB_SERVO_TGT2_TGT_FREQ
  | .own => 0

/-- A squared bandwidth in mHz: exact where it is a whole number, else rounded as the spec leaves open. -/
def bwRoot (sq : Nat) : Nat :=
  let r := isqrt (sq / 2 ^ 20)
  if r * r * 2 ^ 20 = sq then r else r + (if Config.roundsUp sq 1 then 1 else 0)

/-- Whether the dwell of a bandwidth has passed (the table of R54): 3 s for PORT_L1 and FREQ, 7.5 s / B for the others,
with B in Hz. -/
def dwellDone (k : RefKind) (bwSq ms : Nat) : Bool :=
  match k with
  | .portL1 | .freq => 3000 ≤ ms
  | _ => 7500000 * 7500000 * 2 ^ 20 ≤ ms * ms * bwSq

/-- The bandwidth in force (R58): the pinned one, held to the pull-in bandwidth of the kind, or the servo's own. -/
def Dev.bwInForce (d : Dev) (k : RefKind) (own : Nat) : Nat :=
  if d.flag F.TB_SERVO_PIN_PIN then bwSquare (min (d.get F.TB_SERVO_PIN_BW) (pullInBw k)) else own

/-- π² to 40 decimals. -/
def piSq : Nat := 98696044010893586188344909998761511353136

/-- The proportional term of a loop in 2^-48 (R54): 2ω times a phase error in 2^-16 ns, with ω = 2π times the bandwidth
whose square is given. DEDUCED: the rounding to a whole unit, which the spec does not state, is free. -/
def propTerm (bwSq : Nat) (phase : Int) : Int :=
  if bwSq = 0 || phase = 0 then 0
  else
    let r := isqrt (bwSq * phase.natAbs * phase.natAbs * 16 * piSq * 2 ^ 44 / 10 ^ 64)
    phase.sign * ((r + (if Config.roundsUp phase bwSq then 1 else 0) : Nat) : Int)

/-- What one update adds to the integrator of a loop in 2^-48 (R54): ω² times the phase error, over the 1 ms of an update.
The rounding is free. -/
def integTerm (bwSq : Nat) (phase : Int) : Int := divFree (phase * (bwSq * 4 * piSq * 2 ^ 12 : Nat)) (10 ^ 58)

/-! ## Holdover (R59 to R62, R428) -/

/-- The DCO clamp of R53. -/
def dcoClamp : Nat := 2814749767

/-- The mean DCO word of R60: over HOLD_AVG s that end HOLD_EXCL s before the entry, beginning at the last preset at the
earliest; the preset value where that span is empty. One word is held for each servo update. -/
def Dev.meanDco (d : Dev) (t : TbId) : Int :=
  let h := (d.tb t).dcoHist
  let span := (h.drop (1000 * d.get F.TB_HOLD_CFG_HOLD_EXCL)).take (1000 * d.get F.TB_HOLD_CFG_HOLD_AVG)
  if span.isEmpty then h.getLastD (d.tb t).dco else divFree span.sum span.length

/-- The predicted time error in 2^-16 ns (R61, R62): e0 and the uncertainty terms from the entry on, or e1 and the FUNC of
the FREQ reference that is followed, from its selection on. σ_f, σ_a and σ_T are free (Config). DESIGN CHOICE: every quotient
is taken down to a whole unit; the spec states no rounding. -/
def Dev.predicted (d : Dev) (h : HoldData) : Nat :=
  if h.freq then
    h.e1 + d.inForce F.RSEL_CAND_CFG_FUNC (d.rsel.follows.getD 36) * h.sinceT1 * 65536 / 10 ^ 7
  else
    match d.twin.active with
    | none => h.e0
    | some t =>
      let tb := d.tb t
      let n := tb.learnMs
      let dT := (tb.temp - h.t0).natAbs
      let temp := Config.sigmaT t.num n * dT * h.since / 1000
      if d.flag F.TB_MODEL_STAT_VALID t.num then
        h.e0 + (Config.sigmaF t.num n * h.since / 1000 + Config.sigmaA t.num n * h.since * h.since / 2000000 + temp) / 2 ^ 32
      else h.e0 + h.since * 65536 / 1000 + temp / 2 ^ 32

/-- The predicted time error is not zero only where R87 says (WIDE_SEL 0x08). -/
def Dev.predictionRuns (d : Dev) : Bool :=
  d.mir.state == .holdover || d.mir.state == .jumpHeld || d.mir.state == .freerun || d.mir.hold.freq

/-- The holdover entry data at an entry that stops following a time-capable reference, or a FREQ reference (R428). -/
def Dev.entryData (d : Dev) (e0 : Nat) : HoldData :=
  match d.twin.active with
  | none => d.mir.hold
  | some t => ⟨d.meanDco t, e0, 0, (d.tb t).temp, 0, 0, true, false⟩

/-- The DCO word that the model gives (R60): f0 + a × t / 86,400 + c_T × (T − T0), without the ageing term until the model
is valid (R61). t is kept in ms, temperatures in mK. -/
def Dev.modelWord (d : Dev) (t : TbId) : Int :=
  let tb := d.tb t
  let h := d.mir.hold
  h.f0 + divFree ((if d.flag F.TB_MODEL_STAT_VALID t.num then tb.ageing * h.since else 0)) 86400000 +
    divFree (tb.tempCo * (tb.temp - h.t0)) 1000

/-! ## Steps of the counter (R42, R91, R285) -/

/-- A time difference reduced by whole seconds into (−0.5 s, +0.5 s] (R54, PPS). -/
def wrapSecond (x : Int) : Int :=
  let r := x % secUnit
  if r * 2 > secUnit then r - secUnit else r

/-- A candidate's offset after the counter has stepped by `x`; a PPS input tells no whole seconds (R54). -/
def Dev.steppedOffset (d : Dev) (id : Nat) (offset x : Int) : Int :=
  if d.kindOf id = .pps then wrapSecond (offset - x) else offset - x

/-- Steps the time counter in one clock cycle: the standby counter steps with it (R91), the offsets of the references and the
time of the last heartbeat move with it, and what the other chapters tie to the counter follows (R285). -/
def Dev.stepCounter (d : Dev) (x : Int) : Dev :=
  match d.twin.active with
  | none => d
  | some t =>
    let d := d.onTb t (fun b => { b with counter := shiftTicks b.counter x })
    let d := if (d.tb t.other).running then d.onTb t.other (fun b => { b with counter := shiftTicks b.counter x }) else d
    let d := { d with cands := d.cands.map (fun (e : Nat × Cand) => (e.1, { e.2 with
      offset := d.steppedOffset e.1 e.2.offset x
      secOff := -(roundDiv (x - e.2.offset) secUnit)
      lastEdge := e.2.lastEdge.map (fun l => shiftTicks l x)
      recent := e.2.recent.map (fun l => shiftTicks l x) })) }
    (d.onTwin (fun w => { w with lastBeat := shiftTicks w.lastBeat x })).timeStepped x

/-- Presets the DCO word from the new reference's 16 s mean, once, when the loop starts on it (R57), and starts the loop
at the pull-in bandwidth (R56). No span of R60 reaches back over a preset, on either timebase. -/
def Dev.startLoop (d : Dev) (t : TbId) (id : Nat) (preset : Bool) : Dev :=
  let w := clampInt (-(dcoClamp : Int)) dcoClamp (divFree ((d.cand id).mean * 2 ^ 48) (10 ^ 14))
  let d := if preset then (d.onTb t (fun b => { b with dco := w, dcoHist := [w] })).onTb t.other
      (fun b => { b with dcoHist := b.dcoHist.take 1 }) else d
  let d := d.onRsel (fun r => { r with follows := some id, kindSel := d.kindOf id })
  d.mirrorBy (fun m => { m with
    integ := if preset then w else m.integ
    bwSq := bwSquare (pullInBw (d.kindOf id)), narrowMs := 0, lockMs := 0, unlockMs := 0
    hold := { m.hold with entered := m.hold.entered && !(d.kindOf id).timeCapable, freq := d.kindOf id == .freq } })

/-- The counter is set from a reference in UNSET: STATE becomes ACQUIRING and the loop starts (R34, R57, R69). -/
def Dev.setFromReference (d : Dev) (t : TbId) (id : Nat) (target : Ticks) : Dev :=
  let d := d.stepCounter ((target : Int) - (d.tb t).counter)
  let d := d.onCand id (fun c => { c with offset := 0, hasOffset := true, secOff := 0 })
  let d := (d.onRsel (fun r => { r with awaitEdge := false })).setState .acquiring
  d.startLoop t id true

/-! ## UTC data (R31 to R33) and traceability (R36) -/

/-- What the selected reference tells: the last TODIN message of a PPS_TOD reference, or the Announce messages of the
parent port. -/
def Dev.sourceOf (d : Dev) (id : Nat) : SourceData :=
  if id < 4 then (if d.kindOf id = .ppsTod then (d.cand id).data else .init)
  else if id < 36 then d.portSource (id - 4) else .init

/-- Takes UTC data from the selected reference while STATE is ACQUIRING or LOCKED (R31): after a leap, none until the
new offset is reported or 24 h have passed (R32); both indicators set at once are ignored and alarmed (R33). DESIGN CHOICE:
the reference of R32 whose report of the new offset ends the wait, and the reference of R33 whose indicators conflict, are the
selected one, heard in ACQUIRING or LOCKED only, and while the wait of R32 runs no conflict is told. -/
def Dev.takeUtc (d : Dev) (s : SourceData) : Dev :=
  if !s.utcValid then d
  else
    let guarded := match d.mir.leapGuard with
      | none => false
      | some (_, want) => s.utcOffset != want
    if guarded then d
    else
      let both := s.leap61 && s.leap59
      let d := d.when both (fun d => d.raise .leapConflict)
      d.mirrorBy (fun m => { m with
        utcOffset := s.utcOffset, utcValid := true, leapGuard := none
        leap61 := if both then m.leap61 else s.leap61
        leap59 := if both then m.leap59 else s.leap59 })

/-- TRACEABLE and FREQ_TRACEABLE (R36): as the selected reference reports them in ACQUIRING and LOCKED, kept in HOLDOVER
and JUMP_HELD while the prediction is within HOLD_LIMIT, clear in UNSET and FREERUN. -/
def Dev.judgeTraceable (d : Dev) : Dev :=
  let s := d.sourceOf (d.get F.RSEL_SEL_SELECTED)
  let within := d.predicted d.mir.hold ≤ d.get F.TB_HOLD_LIMIT_LIMIT * 65536
  match d.mir.state with
  | .acquiring | .locked => d.mirrorBy (fun m => { m with traceable := s.timeTrace, freqTrace := s.freqTrace })
  | .holdover | .jumpHeld =>
    d.mirrorBy (fun m => { m with traceable := m.traceable && within, freqTrace := m.freqTrace && within })
  | .unset | .freerun => d.mirrorBy (fun m => { m with traceable := false, freqTrace := false })

/-! ## The selector (R77 to R85) -/

/-- Candidates eligible for selection, by entry of the priority list (R78): listed, qualified, not barred; a PPS
candidate only outside UNSET. -/
def Dev.eligible (d : Dev) : List (Nat × Nat) :=
  d.prioList.filter (fun e => d.qualified e.1 && !d.barred e.1 &&
    !(d.kindOf e.1 == .pps && d.mir.state == .unset))

/-- Selects a reference (R81): CHANGED and the count at a change, and what R74 measures the drift from. -/
def Dev.selectRef (d : Dev) (id : Nat) : Dev :=
  if d.get F.RSEL_SEL_SELECTED = id then d
  else
    let old := d.get F.RSEL_SEL_SELECTED
    let d := if old < 36 then d.candFlag F.RSEL_CAND_STAT_DRIFT_WARN old false else d
    let d := (d.cond .refDrift false).setMark F.RSEL_SEL_SELECTED id F.RSEL_SEL_CHANGED
    let d := d.onRsel (fun r => { r with selMs := 0, selTempA := d.tbA.temp, selTempB := d.tbB.temp })
    (d.onCand id (fun c => { c with freqAtSel := c.mean })).countDev 261

/-- Stops a wait-to-restore. -/
def Dev.stopWtr (d : Dev) : Dev :=
  ((d.set F.RSEL_SEL_WTR_RUN 0).set F.RSEL_SEL_WTR_ID 0x3F).onRsel (fun r => { r with wtrMs := 0 })

/-- Starts a wait-to-restore for a candidate. -/
def Dev.startWtr (d : Dev) (id : Nat) : Dev :=
  ((d.set F.RSEL_SEL_WTR_RUN 1).set F.RSEL_SEL_WTR_ID id).onRsel (fun r => { r with wtrMs := 0 })

/-- Cancels a wait-to-restore where R80 says so. -/
def Dev.cancelWtr (d : Dev) : Dev :=
  let w := d.get F.RSEL_SEL_WTR_ID
  let el := d.eligible
  let bestRank := ((el.filter (fun e => (d.kindOf e.1).timeCapable == (d.kindOf w).timeCapable)).map Prod.snd).foldl min 16
  let keep := d.inForceFlag F.RSEL_CFG_REVERTIVE && !d.inForceFlag F.RSEL_CMD_PIN && el.any (fun e => e.1 == w) &&
    rankIn d.prioList w < rankIn d.prioList (d.get F.RSEL_SEL_SELECTED) && rankIn d.prioList w ≤ bestRank
  if d.flag F.RSEL_SEL_WTR_RUN && !keep then d.stopWtr else d

/-- The selection procedure of R78; `reached` is true where a running wait-to-restore has reached WTR or is skipped. -/
def Dev.runSelector (d : Dev) (reached : Bool) : Dev :=
  let el := d.eligible
  let sel := d.get F.RSEL_SEL_SELECTED
  let d := d.setB F.RSEL_SEL_PINNED (d.inForceFlag F.RSEL_CMD_PIN)
  if d.inForceFlag F.RSEL_CMD_PIN then
    let f := d.inForce F.RSEL_CMD_FORCE_ID
    if el.any (fun e => e.1 == f) then (d.selectRef f).onRsel (fun r => { r with pinLostTold := false })
    else
      let d := d.selectRef 36
      if d.rsel.pinLostTold then d
      else (d.raise .pinnedRefLost).onRsel (fun r => { r with pinLostTold := true })
  else
    let d := d.onRsel (fun r => { r with pinLostTold := false })
    let timed := el.filter (fun e => (d.kindOf e.1).timeCapable)
    let pool := if timed.isEmpty then el else timed
    let bestRank := (pool.map Prod.snd).foldl min 16
    let best := (pool.filter (fun e => e.2 == bestRank)).map Prod.fst
    match best with
    | [] => (d.selectRef 36).stopWtr
    | first :: _ =>
      if pool.any (fun e => e.1 == sel) then
        if rankIn pool sel = bestRank then d.stopWtr
        else if !d.inForceFlag F.RSEL_CFG_REVERTIVE then d
        else if d.flag F.RSEL_SEL_WTR_RUN then
          if reached && best.contains (d.get F.RSEL_SEL_WTR_ID) then
            (d.selectRef (d.get F.RSEL_SEL_WTR_ID)).stopWtr
          else d
        else d.startWtr first
      else (d.selectRef first).stopWtr

/-- REF_OUTVOTED (R82): at least two other qualified listed candidates agree with each other and disagree with the
selected reference, itself qualified; no other candidate is OUTVOTED. Action 1 disqualifies it; it may qualify again after QUAL_TIME without being outvoted. -/
def Dev.judgeOutvoted (d : Dev) : Dev :=
  let sel := d.get F.RSEL_SEL_SELECTED
  let others := (d.prioList.map Prod.fst).filter (fun i => i != sel && d.qualified i && !d.agree i sel)
  let out := sel < 36 && d.qualified sel && others.any (fun i => others.any (fun j => i != j && d.agree i j))
  let d := d.each ((List.range 36).filter (· != sel)) (fun d i => d.candFlag F.RSEL_CAND_STAT_OUTVOTED i false)
  let d := if sel < 36 then
      let was := d.flag F.RSEL_CAND_STAT_OUTVOTED sel
      let d := d.candFlag F.RSEL_CAND_STAT_OUTVOTED sel out
      d.when (out && !was) (fun d => d.countDev 263)
    else d
  let d := d.cond .refOutvoted out
  d.when (out && d.inForce F.RSEL_CFG_OUTVOTE_ACT == 1) (fun d =>
    (d.disqualify sel 5).onCand sel (fun c => { c with notOutvoted := some 0 }))

/-- EQUAL_RANK_CONFLICT (R83): the voters decide, else a model that may decide, else the selected reference is kept with
the alarm, which ends when the two agree again or one of them loses eligibility. DESIGN CHOICE: of several rivals the first
in the priority list is judged; a pinned selection (R14) is kept, with the alarm where the decision would leave it. -/
def Dev.judgeConflict (d : Dev) : Dev :=
  let sel := d.get F.RSEL_SEL_SELECTED
  let el := d.eligible
  let rival := (el.filter (fun e => e.1 != sel && e.2 == rankIn el sel && !d.agree e.1 sel)).map Prod.fst
  match rival with
  | [] => (d.cond .equalRankConflict false).set F.RSEL_SEL_CONFLICT 0
  | r :: _ =>
    if !el.any (fun e => e.1 == sel) then
      (d.cond .equalRankConflict false).set F.RSEL_SEL_CONFLICT 0
    else
      let voters := (d.prioList.map Prod.fst).filter (fun i => i != sel && i != r && d.qualified i &&
        (d.agree i sel != d.agree i r))
      let forSel := voters.filter (fun i => d.agree i sel)
      let decided : Option Nat :=
        if !voters.isEmpty && forSel.length == voters.length then some sel
        else if !voters.isEmpty && forSel.isEmpty then some r
        else match d.twin.active with
          | some t =>
            if d.flag F.TB_MODEL_STAT_DECIDES t.num then
              let f := Config.modelFreq t.num (d.tb t).learnMs
              some (if ((d.cand r).mean - f).natAbs < ((d.cand sel).mean - f).natAbs then r else sel)
            else none
          | none => none
      let kept := d.inForceFlag F.RSEL_CMD_PIN && decided != some sel
      match (if kept then none else decided) with
      | some w => d.selectRef w
      | none =>
        let was := d.alarmOn .equalRankConflict
        let d := (d.cond .equalRankConflict true).set F.RSEL_SEL_CONFLICT 1
        d.when (!was) (fun d => d.countDev 264)

/-- Lifts the bars of references whose offset has fallen to the jump threshold, and, in JUMP_HELD, selects another
eligible candidate within the threshold and bars the held reference (R85). -/
def Dev.judgeBars (d : Dev) : Dev :=
  let d := d.each (List.range 36) (fun d i =>
    d.when (d.barred i && !aboveNs (d.cand i).offset d.thresh) (fun d => d.candFlag F.RSEL_CAND_STAT_BARRED i false))
  if d.mir.state ≠ .jumpHeld || d.inForceFlag F.RSEL_CMD_PIN then d
  else
    let held := d.get F.RSEL_SEL_SELECTED
    let good := d.eligible.filter (fun e => e.1 != held && (d.kindOf e.1).timeCapable && !aboveNs (d.cand e.1).offset d.thresh)
    let bestRank := (good.map Prod.snd).foldl min 16
    match (good.filter (fun e => e.2 == bestRank)).map Prod.fst with
    | [] => d
    | g :: _ => ((d.candFlag F.RSEL_CAND_STAT_BARRED held true).selectRef g).stopWtr

end Sys2Proof.Machine
end

