-- ==== Sys2Proof/Machine/Ptp.lean ====
section
/-! DEFINITION. Time transfer on the ports (07_port_time_transfer.md): beat-phase samples, PTP messages in both directions,
the best-master algorithm, and the reversal procedure. -/

namespace Sys2Proof.Machine

/-! ## The beat-phase detector (R165, R166, R176) -/

/-- The step of a phase in [0, 2^14) from one sample to the next, unwrapped: in (−2^13, 2^13]. -/
def unwrapStep (old new : Nat) : Int :=
  let x : Int := (((new : Int) - old) % 16384)
  if x ≤ 8192 then x else x - 16384

/-- RX_BEAT_LOCK with CHANGED; its loss takes the port out of layer-1 use (R177). -/
def Dev.setBeatLock (d : Dev) (p : Nat) (on : Bool) : Dev :=
  let d := d.ptuBit F.PRT_PTU_STAT_RX_BEAT_LOCK on p
  if on then d
  else d.onPtu p (fun t => { t with
    anchored := false, tracked := false, syncWait := t.syncWait.map (fun w => { w with track := none }) })

/-- One beat period (R165): samples of both phases, the phase track, and a layer-1 sample to the servo, which uses none in a
freeze (R175). In SHALLOW, in DEEP and in the wake from one the bursts give the samples (R195). neighborRateRatio comes from the beat frequency (R181). -/
def Dev.beatSample (d : Dev) (p phiRx phiTx : Nat) (within : Bool) : Dev :=
  let rx := d.rxSleep p
  let d := d.onPtu p (fun t => if d.flag F.PRT_PTU_STAT_TX_BEAT_VALID p then { t with phiTx := phiTx % 16384 } else t)
  let on := d.portUp p && within && (rx == 0 || rx == 1)
  if rx = 2 || rx = 3 || (rx = 4 && (d.port p).rxDepth != 5) then d
  else
    let d := d.setBeatLock p on
    if !on then d.judgeL1 p
    else
      let t := d.ptu p
      let step := if t.tracked then unwrapStep t.phiRx (phiRx % 16384) else 0
      let d := d.onPtu p (fun t => { t with
        phiRx := phiRx % 16384, track := t.track + step, nrr := if t.tracked then -(step * 2 ^ 20) else t.nrr, tracked := true })
      let d := d.judgeL1 p
      if d.flag F.PRT_PTU_STAT_L1_TRACK p then d.passTheta p (d.ptu p).thetaL1 else d

/-! ## Messages -/

/-- The port takes messages of a CLOCK instance; of any instance. -/
def Dev.clockPort (d : Dev) (p : Nat) : Bool :=
  d.portUp p && (match d.instOf p with | some i => (d.inst i).kind == 0 | none => false)
def Dev.ptpPort (d : Dev) (p : Nat) : Bool := d.portUp p && (d.instOf p).isSome

/-- The delay mechanism in force is peer-to-peer (R181, PRT_PTP_CFG.DELAY_MECH); a transparent instance uses that of its
kind. -/
def Dev.peerDelay (d : Dev) (p : Nat) : Bool :=
  match d.instOf p with
  | none => false
  | some i =>
    if (d.inst i).kind = 2 then true
    else if (d.inst i).kind = 1 then false
    else match (d.inst i).profile with
      | 1 | 5 => true
      | 2 => d.flag F.PRT_PTP_CFG_DELAY_MECH p
      | _ => false

/-- An event message is received: counted, its timestamp kept (WIDE_SEL 0x10). -/
def Dev.eventIn (d : Dev) (p t : Nat) (c : Capture) : Dev :=
  (d.countRx p t).onPtu p (fun x => { x with tRxLast := d.stamp (d.tRx p c) })

/-- An event message leaves: counted, its t_TX recorded (R187; WIDE_SEL 0x11). `cp` is the message as the CP has written it,
`m` as the insertion stage sends it; a response answers the request of `asker`. -/
def Dev.eventOut (d : Dev) (p t : Nat) (cp m : PtpMsg) (c : Capture) (asker : Option PtpMsg) : Dev :=
  let b := insertFields (d.ptpFrame p t (d.ptpMessage p t cp 0 (timedBody t cp.time asker))) cp m
  ((((d.countTx p t).onPtu p (fun x => { x with tTxLast := d.stamp (d.tTx p c) })).ptpLeaves p b)).emit (.ptp p t m)

/-- A general message leaves. -/
def Dev.messageOut (d : Dev) (p t : Nat) (m : PtpMsg) (asker : Option PtpMsg) : Dev :=
  ((d.countTx p t).ptpLeaves p (d.ptpFrame p t (d.ptpMessage p t m 0 (timedBody t m.time asker)))).emit (.ptp p t m)

/-- A Signaling message leaves with its TLVs; `target` is the port identity that it names. -/
def Dev.signalOut (d : Dev) (p : Nat) (m : PtpMsg) (target tlvs : List Byte) : Dev :=
  ((d.countTx p 0xC).ptpLeaves p (d.ptpFrame p 0xC (d.ptpMessage p 0xC m 0 (target ++ tlvs)))).emit (.ptp p 0xC m)

/-- Whole nanoseconds of an instant in its unit, and the fraction left. -/
def wholeNs (t : Ticks) : Ticks := t / 65536 * 65536
def fracNs (t : Ticks) : Int := ((t % 65536 : Nat) : Int)

/-- A message of the port. -/
def Dev.ownMsg (d : Dev) (p seq : Nat) (corr : Int) (time : Ticks) (twoStep : Bool) : PtpMsg :=
  ⟨d.clockId, p + 1, seq, corr, time, twoStep⟩

/-- A message comes from the parent of the port: the sender of its Announce. -/
def Dev.fromParent (d : Dev) (p : Nat) (m : PtpMsg) : Bool :=
  match (d.ptu p).announce with
  | none => false
  | some (a, _) => a.clockId == m.clockId && a.portNum == m.portNum

/-- A general or event message may leave now (R196): none while the direction is in SHALLOW or DEEP or wakes from one; a
due message ends an entry and wakes LPI (R301). -/
def Dev.txAwakeFor (d : Dev) (p : Nat) : Bool := let s := d.txSleep p; s == 0 || s == 1 || s == 5

/-- Under G.8275.2 a message of type `t` is sent only to a partner that holds a grant for it (R181). -/
def Dev.granted (d : Dev) (p t : Nat) : Bool := d.profileOf p != 4 || (d.ptu p).grants.contains t

/-! ## Received messages -/

/-- A Sync (R176): t2 is its receive timestamp; a two-step Sync waits for its Follow_Up (R189). The Sync receipt timeout
starts anew. -/
def Dev.syncIn (d : Dev) (p : Nat) (m : PtpMsg) (c : Capture) : Dev :=
  if !d.clockPort p then d
  else
    let t2 := d.tRx p c
    let frozen := d.flag F.TB_HB_STAT_FROZEN
    let d := d.eventIn p 0 c
    if !d.isSlave p || !d.fromParent p m then d
    else
      let d := d.onPtu p (fun t => { t with syncLate := false })
      let d := d.judgePortCand p
      if m.twoStep then d.onPtu p (fun t => { t with syncWait := some ⟨m.seq, t2, m.corr, frozen, d.trackNow p⟩ })
      else
        let t1 : Int := m.time + m.corr
        let d := d.onPtu p (fun t => { t with
          syncWait := none, syncTimes := if frozen then t.syncTimes else some (t1, (t2 : Int)) })
        d.syncTheta p t1 t2 frozen (d.trackNow p)

/-- A Follow_Up of the Sync that waits for it (R189). -/
def Dev.followUpIn (d : Dev) (p : Nat) (m : PtpMsg) : Dev :=
  if !d.clockPort p then d
  else
    let d := d.countRx p 8
    match (d.ptu p).syncWait with
    | none => d
    | some w =>
      if w.seq ≠ m.seq || !d.isSlave p || !d.fromParent p m then d
      else
        let t1 : Int := m.time + m.corr + w.corr
        let d := d.onPtu p (fun t => { t with
          syncWait := none, syncTimes := if w.frozen then t.syncTimes else some (t1, (w.t2 : Int)) })
        d.syncTheta p t1 w.t2 w.frozen w.track

/-- The order of two lists of keys: the first smaller key decides. -/
def lexLess : List Nat → List Nat → Bool
  | [], _ => false
  | _ :: _, [] => false
  | a :: as, b :: bs => if a < b then true else if b < a then false else lexLess as bs

/-- What the best-master algorithm compares of a grandmaster, as it is announced by a sender: the default algorithm, or the
alternate one with localPriority, which passes over the grandmaster's identity for a clockClass of 127 or less; then
stepsRemoved and the sender's port identity. PRESUMED: the orders of IEEE 1588-2019 and ITU-T G.8275. -/
def bmcKey (telecom : Bool) (local_ : Nat) (m : Nat × Nat) (a : AnnounceData) : List Nat :=
  (if telecom then [a.clockClass, a.clockAccuracy, a.variance, a.gmPriority2, local_, if a.clockClass ≤ 127 then 0 else a.gmId.toNat]
    else [a.gmPriority1, a.clockClass, a.clockAccuracy, a.variance, a.gmPriority2, a.gmId.toNat]) ++ [a.stepsRemoved, m.1, m.2]

/-- The key of the Announce of a port's partner. -/
def Dev.portKey (d : Dev) (p : Nat) (x : PtpMsg × AnnounceData) : List Nat :=
  bmcKey (d.telecom p) (d.get F.PRT_PTP_CFG_LOCAL_PRIO p) (x.1.clockId.toNat, x.1.portNum) x.2

/-- An Announce (R184): the partner's latest, or one better than that of another sender, is kept; its receipt timeout
starts anew, and the parent's data reach the time status from there (R31, R36, R46). UTC data are taken at once while the
port is the selected reference in ACQUIRING or LOCKED. -/
def Dev.announceIn (d : Dev) (p : Nat) (m : PtpMsg) (a : AnnounceData) : Dev :=
  if !d.clockPort p then d
  else
    let d := d.countRx p 0xB
    let old := (d.ptu p).announce
    let takes := match old with
      | none => true
      | some (o, b) => (o.clockId == m.clockId && o.portNum == m.portNum) || lexLess (d.portKey p (m, a)) (d.portKey p (o, b))
    let same := match old with
      | none => false
      | some (o, b) => o.clockId == m.clockId && o.portNum == m.portNum && b.gmId == a.gmId &&
          b.clockClass == a.clockClass && b.clockAccuracy == a.clockAccuracy && b.variance == a.variance
    if !takes then d
    else
      let d := d.onPtu p (fun t => { t with
        announce := some (m, a), annLate := false, steadyFrom := if same then t.steadyFrom else d.now })
      let d := (d.setPinLost p false).judgePortCand p
      if d.get F.RSEL_SEL_SELECTED = 4 + p ∧ (d.mir.state = .acquiring ∨ d.mir.state = .locked) then
        d.takeUtc (d.sourceOf (4 + p))
      else d

/-- A Delay_Resp to the request sent (R179): the sample is half the sum of both one-way differences. -/
def Dev.delayRespIn (d : Dev) (p : Nat) (m : PtpMsg) : Dev :=
  if !d.clockPort p then d
  else
    let d := d.countRx p 9
    match (d.ptu p).req, (d.ptu p).syncTimes with
    | some (seq, t3), some (t1, t2) =>
      if seq ≠ m.seq || d.peerDelay p || !d.isSlave p then d
      else (d.onPtu p (fun t => { t with req := none })).addDelay p
        (divFree ((t2 - t1) + ((m.time : Int) - m.corr - t3)) 2)
    | _, _ => d

/-- A peer delay sample (R179): half of t4 − t1 less the partner's turnaround; none where t4 fell in a freeze (R175). -/
def Dev.peerSample (d : Dev) (p : Nat) (t1 t4 : Ticks) (turn : Int) : Dev :=
  (d.onPtu p (fun t => { t with req := none, presp := none })).addDelay p (divFree ((t4 : Int) - t1 - turn) 2)

/-- neighborRateRatio from two peer delay responses (R181): partner time against own time, while the beat is not locked. -/
def Dev.peerRate (d : Dev) (p : Nat) (theirs ours : Int) : Dev :=
  let d := match (d.ptu p).lastPd with
    | some (a, b) =>
      if d.flag F.PRT_PTU_STAT_RX_BEAT_LOCK p || ours ≤ b then d
      else d.onPtu p (fun t => { t with nrr := divFree (((theirs - a) - (ours - b)) * 2 ^ 48) (ours - b).toNat })
    | none => d
  d.onPtu p (fun t => { t with lastPd := some (theirs, ours) })

/-- A Pdelay_Resp or its Follow_Up (R179, R189). -/
def Dev.pdelayRespIn (d : Dev) (p : Nat) (r : PdelayReply) : Dev :=
  if !d.ptpPort p then d
  else match r with
    | .resp m c =>
      let t4 := d.tRx p c
      let d := d.eventIn p 3 c
      match (d.ptu p).req with
      | none => d
      | some (seq, t1) =>
        if seq ≠ m.seq || d.flag F.TB_HB_STAT_FROZEN then d
        else if m.twoStep then d.onPtu p (fun t => { t with presp := some (m.seq, (m.time : Int) - m.corr, t4) })
        else d.peerSample p t1 t4 m.corr
    | .followUp m =>
      let d := d.countRx p 0xA
      match (d.ptu p).req, (d.ptu p).presp with
      | some (seq, t1), some (seq', x, t4) =>
        if seq ≠ m.seq || seq' ≠ m.seq then d
        else (d.peerSample p t1 t4 ((m.time : Int) + m.corr - x)).peerRate p ((m.time : Int) + m.corr) t4
      | _, _ => d

/-! ## Sent messages -/

/-- A number that a data set of an instance holds (R182), else the default of the standard. -/
def Dev.setNum (d : Dev) (i id dflt : Nat) : Nat :=
  match (d.inst i).sets.find? (fun e => e.1 == id) with
  | some (_, b) => byteAt b 0
  | none => dflt

/-- UTC_OFFSET in force: FALLBACK_OFFSET until a reference has supplied UTC data (R31). -/
def Dev.utcOffset (d : Dev) : Int :=
  if d.mir.utcValid then d.mir.utcOffset else signedOf (d.get F.TB_UTC_CFG_FALLBACK_OFFSET) 16

/-- The module's own quality (the table of R37), as in a state `st`. -/
def Dev.ownQuality (d : Dev) (i : Nat) (st : TState) : AnnounceData :=
  let tele := (d.inst i).profile == 3 || (d.inst i).profile == 4
  let src := d.sourceOf (d.get F.RSEL_SEL_SELECTED)
  let m := d.mir
  let held := st == .holdover || st == .jumpHeld
  let lockT := st == .locked && m.traceable
  { gmId := d.clockId
    gmPriority1 := d.setNum i 0x2005 128
    gmPriority2 := d.setNum i 0x2006 128
    clockClass := match st with
      | .unset | .acquiring => 248
      | .locked => if m.traceable then 6 else if tele then 248 else 13
      | .holdover | .jumpHeld => 7
      | .freerun => if tele then 140 else 52
    clockAccuracy := match st with
      | .locked => src.accuracy
      | .holdover | .jumpHeld => Config.accuracyOf (d.predicted m.hold)
      | _ => 0xFE
    variance := 0xFFFF
    timeSource := if st == .acquiring || st == .locked then src.source else 0xA0
    stepsRemoved := 0
    utcOffset := d.utcOffset
    utcValid := m.utcValid
    leap61 := m.leap61
    leap59 := m.leap59
    timeTrace := lockT || (held && m.traceable)
    freqTrace := lockT || ((st == .locked || held) && m.freqTrace) }

/-- The instance's own SLAVE port that is the selected reference, if any. -/
def Dev.ownSlave (d : Dev) (i : Nat) : Option Nat :=
  let sel := d.get F.RSEL_SEL_SELECTED
  if 4 ≤ sel && sel < 36 && d.instOf (sel - 4) == some i && d.ptpState (sel - 4) == 9 then some (sel - 4) else none

/-- What the instance announces (R184): the parent's data with stepsRemoved plus one only while STATE is LOCKED and the
selected reference is its own SLAVE port; else its own quality. -/
def Dev.announceOf (d : Dev) (i : Nat) : AnnounceData :=
  match d.ownSlave i with
  | some q =>
    match d.mir.state, (d.ptu q).announce with
    | .locked, some (_, a) => { a with stepsRemoved := a.stepsRemoved + 1 }
    | st, _ => d.ownQuality i st
  | none => d.ownQuality i d.mir.state

/-- A message of the CP leaves. A Sync (R187, R189): one-step, the insertion stage writes t_TX; two-step, it carries the whole
nanoseconds of a planned departure, which nothing fixes, and the Follow_Up gives t_TX. A delay request notes its t_TX (R179).
A Delay_Resp carries the receive timestamp, whole nanoseconds in the field and the rest taken off correctionField. A
Pdelay_Resp carries, one-step, t_TX − t_RX in correctionField; two-step, t_RX, and its Follow_Up the recorded t_TX (R187,
R189). -/
def Dev.ptpSend (d : Dev) (p : Nat) (x : PtpDue) : Dev :=
  match x with
  | .sync c =>
    let t := d.tTx p c
    let seq := (d.ptu p).seqSync
    let d := d.onPtu p (fun x => { x with seqSync := (x.seqSync + 1) % 65536 })
    if d.flag F.PRT_PTP_CFG_ONE_STEP p then
      d.eventOut p 0 (d.ownMsg p seq 0 0 false) (d.ownMsg p seq (fracNs t) (wholeNs t % (2 ^ 48 * secUnit)) false) c none
    else
      let d := d.onPtu p (fun x => { x with followTx := some (seq, t) })
      let m := d.ownMsg p seq 0 (wholeNs d.freeVal) true
      (d.eventOut p 0 m m c none).spendFree
  | .followUp =>
    match (d.ptu p).followTx with
    | none => d
    | some (seq, t) =>
      (d.onPtu p (fun x => { x with followTx := none })).messageOut p 8 (d.ownMsg p seq (fracNs t) (wholeNs t) false) none
  | .announce =>
    match d.instOf p with
    | none => d
    | some i =>
      let a := d.announceOf i
      let m := d.ownMsg p (d.ptu p).seqAnn 0 0 false
      let d := d.onPtu p (fun t => { t with seqAnn := (t.seqAnn + 1) % 65536, annSent := some a })
      ((d.countTx p 0xB).ptpLeaves p (d.ptpFrame p 0xB (d.ptpMessage p 0xB m (announceFlags a) (announceBody a)))).emit
        (.announce p m a)
  | .delayReq c =>
    let t := d.tTx p c
    let seq := (d.ptu p).seqReq
    let d := d.onPtu p (fun x => { x with seqReq := (x.seqReq + 1) % 65536, req := some (seq, t), presp := none })
    let m := d.ownMsg p seq 0 0 false
    d.eventOut p (if d.peerDelay p then 2 else 1) m m c none
  | .delayResp m t4 => d.messageOut p 9 (d.ownMsg p m.seq (m.corr - fracNs t4) (wholeNs t4) false) (some m)
  | .pdelayResp m t2 ct =>
    let t3 := d.tTx p ct
    if d.flag F.PRT_PTP_CFG_ONE_STEP p then
      d.eventOut p 3 (d.ownMsg p m.seq m.corr 0 false) (d.ownMsg p m.seq (m.corr + ((t3 : Int) - t2)) 0 false) ct (some m)
    else
      let r := d.ownMsg p m.seq (-(fracNs t2)) (wholeNs t2) true
      (d.eventOut p 3 r r ct (some m)).messageOut p 0xA (d.ownMsg p m.seq (m.corr + fracNs t3) (wholeNs t3) false) (some m)
  | .signal m target tlvs => d.signalOut p m target tlvs

/-- A message that is due wakes its direction (R196, R301); it leaves at once on a direction that is awake, and else after
the wake guard, which no frame crosses (R173). -/
def Dev.ptpDue (d : Dev) (p : Nat) (x : PtpDue) : Dev :=
  let d := d.wakeTx p
  if d.txSleep p = 4 then (d.onPtu p (fun t => { t with due := t.due ++ [x] })).judgeIdle p else d.ptpSend p x

/-- The messages that have waited for the end of a wake guard leave in order; none does while the CP is stopped (R339). -/
def Dev.flushPtp (d : Dev) (p : Nat) : Dev :=
  let l := (d.ptu p).due
  if l.isEmpty then d
  else
    let d := d.onPtu p (fun t => { t with due := [] })
    (if d.sys.cpStopped then d else d.each l (fun d x => d.ptpSend p x)).judgeIdle p

/-- A Sync at its interval (R187, R189). -/
def Dev.syncOut (d : Dev) (p : Nat) (c : Capture) : Dev :=
  if !d.clockPort p || d.ptpState p ≠ 6 || !d.txAwakeFor p || !d.granted p 0 then d else d.ptpDue p (.sync c)

/-- The Follow_Up of a two-step Sync, from its recorded t_TX (R189). -/
def Dev.followUpOut (d : Dev) (p : Nat) : Dev :=
  if (d.ptu p).followTx.isNone || !d.clockPort p || !d.txAwakeFor p then d else d.ptpDue p .followUp

/-- An Announce at its interval (R184); on a sleeping direction only one whose content has changed, which wakes it
(R196). -/
def Dev.announceOut (d : Dev) (p : Nat) : Dev :=
  match d.instOf p with
  | none => d
  | some i =>
    if !d.clockPort p || d.ptpState p ≠ 6 || !d.granted p 0xB || (d.ptu p).due.contains .announce then d
    else if !d.txAwakeFor p && (d.ptu p).annSent == some (d.announceOf i) then d
    else d.ptpDue p .announce

/-- Sends the delay request of the mechanism in force (R179). -/
def Dev.sendDelayReq (d : Dev) (p : Nat) (c : Capture) : Dev := d.ptpDue p (.delayReq c)

/-- A Delay_Req (R187): a master port answers with the receive timestamp. -/
def Dev.delayReqIn (d : Dev) (p : Nat) (m : PtpMsg) (c : Capture) : Dev :=
  if !d.clockPort p then d
  else
    let t4 := d.tRx p c
    let d := d.eventIn p 1 c
    if d.ptpState p ≠ 6 || d.peerDelay p || !d.granted p 9 then d else d.ptpDue p (.delayResp m t4)

/-- A Pdelay_Req (R187, R189). -/
def Dev.pdelayReqIn (d : Dev) (p : Nat) (m : PtpMsg) (c ct : Capture) : Dev :=
  if !d.ptpPort p then d
  else
    let t2 := d.tRx p c
    let d := d.eventIn p 2 c
    if !d.peerDelay p && (d.profileOf p != 2) then d else d.ptpDue p (.pdelayResp m t2 ct)

/-- A port that asks for its path delay: a slave port end-to-end, every port of the instance peer-to-peer, in a CLOCK
instance once it has left INITIALIZING. -/
def Dev.asksDelay (d : Dev) (p : Nat) : Bool :=
  d.ptpPort p && (if d.peerDelay p then !(d.clockPort p && d.ptpState p == 1) else d.isSlave p)
def Dev.delayReqOut (d : Dev) (p : Nat) (c : Capture) : Dev :=
  if !d.asksDelay p || !d.txAwakeFor p then d else d.sendDelayReq p c

/-- A delay refresh of a slave port whose link has a direction asleep (R197): the exchange wakes both. -/
def Dev.delayRefresh (d : Dev) (p : Nat) (c : Capture) : Dev :=
  if !d.clockPort p || !d.isSlave p || !(asleep (d.txSleep p) || asleep (d.rxSleep p)) then d
  else (d.portEvent p 0x044).sendDelayReq p c

/-! ## Port states (R70, R180, R183) -/

/-- A receipt timeout of a port (R70); none runs while its receive direction is in SHALLOW or DEEP (R195). The port leaves
SLAVE or UNCALIBRATED; a pinned SLAVE port without an Announce loses its parent (R183). -/
def Dev.receiptTimeout (d : Dev) (p : Nat) (k : ReceiptKind) : Dev :=
  if !d.clockPort p || d.rxSleep p = 2 || d.rxSleep p = 3 then d
  else
    let d := match k with
      | .sync => d.onPtu p (fun t => { t with syncLate := true })
      | .announce =>
        let d := d.onPtu p (fun t => { t with annLate := true, announce := none })
        d.when (d.get F.PRT_PTP_CFG_ROLE_PIN p == 3) (fun d => d.setPinLost p true)
    (if d.isSlave p then d.setPtpState p 4 else d).judgePortCand p

/-- The instance's ports that are up and in service. -/
def Dev.portsOfInst (d : Dev) (i : Nat) : List Nat :=
  d.portList.filter (fun p => d.portUp p && d.instOf p == some i)

/-- A port whose partner may become the parent: an Announce is held, no MASTER_ONLY, no pin to MASTER or PASSIVE. -/
def Dev.mayFollow (d : Dev) (p : Nat) : Bool :=
  (d.ptu p).announce.isSome && !d.flag F.PRT_PTP_CFG_MASTER_ONLY p &&
  (d.get F.PRT_PTP_CFG_ROLE_PIN p == 0 || d.get F.PRT_PTP_CFG_ROLE_PIN p == 3)

/-- The key of a port's partner, if it announces. -/
def Dev.partnerKey (d : Dev) (p : Nat) : Option (List Nat) := (d.ptu p).announce.map (fun x => d.portKey p x)

/-- The best port among some: the smallest key, the lowest port on a tie; a port pinned to SLAVE with a parent before all. -/
def Dev.bestPort (d : Dev) (l : List Nat) : Option Nat :=
  match l.find? (fun p => d.get F.PRT_PTP_CFG_ROLE_PIN p == 3) with
  | some p => some p
  | none => l.foldl (fun b p =>
      match b with
      | none => some p
      | some q => if lexLess ((d.partnerKey p).getD []) ((d.partnerKey q).getD []) then some p else some q) none

/-- The module's own key: that of a clock that follows nothing of this instance, so that its own SLAVE port is not judged by
the quality it gives the module (R37). -/
def Dev.ownKey (d : Dev) (i : Nat) : List Nat :=
  let sel := d.get F.RSEL_SEL_SELECTED
  let follows := 4 ≤ sel && sel < 36 && d.instOf (sel - 4) == some i
  let tele := (d.inst i).profile == 3 || (d.inst i).profile == 4
  bmcKey tele 128 (d.clockId.toNat, 0) (d.ownQuality i (if follows then .acquiring else d.mir.state))

/-- The instance is slaveOnly, by its data set (R182): none of its ports becomes MASTER or PASSIVE, and any partner is
followed. PRESUMED: as IEEE 1588-2019 defines the member. -/
def Dev.slaveOnly (d : Dev) (i : Nat) : Bool := d.setNum i 0x2008 0 % 2 == 1

/-- A port's partner announces the grandmaster of the parent port, on a path that is worse by the topology alone: as many
steps, or one more from a sender of a lower identity than the module's. PRESUMED: the data set comparison of
IEEE 1588-2019. -/
def Dev.rivals (d : Dev) (p q : Nat) : Bool :=
  match (d.ptu p).announce, (d.ptu q).announce with
  | some (m, a), some (o, b) =>
    (d.portKey p (m, a)).take 6 == (d.portKey q (o, b)).take 6 &&
    (a.stepsRemoved == b.stepsRemoved || (a.stepsRemoved == b.stepsRemoved + 1 && decide (m.clockId.toNat < d.clockId.toNat)))
  | _, _ => false

/-- A port is to be MASTER: from LISTENING only with a partner heard or its Announce receipt timeout expired, and by
PRE_MASTER. -/
def Dev.towardsMaster (d : Dev) (p : Nat) : Dev :=
  match d.ptpState p with
  | 4 => if (d.ptu p).annLate || (d.ptu p).announce.isSome then d.setPtpState p 5 else d
  | 5 => d.setPtpState p 6
  | 6 => d
  | _ => d.setPtpState p 5

/-- A port is to be SLAVE: UNCALIBRATED until its mean path delay is valid. -/
def Dev.towardsSlave (d : Dev) (p : Nat) : Dev :=
  d.setPtpState p (if d.isSlave p && d.flag F.PRT_PTU_STAT_DELAY_VALID p then 9 else 8)

/-- The state decision of one port (R180, R183): `best` is the instance's parent port where its grandmaster is better than
the module. -/
def Dev.decidePort (d : Dev) (p : Nat) (best : Option Nat) : Dev :=
  if d.ptpState p = 1 || d.ptpState p = 3 then d.setPtpState p 4
  else match d.get F.PRT_PTP_CFG_ROLE_PIN p with
    | 1 => d.setPtpState p 6
    | 2 => d.setPtpState p 7
    | 3 => if (d.ptu p).announce.isSome && !d.flag F.PRT_PTP_CFG_MASTER_ONLY p then d.towardsSlave p else d.setPtpState p 4
    | _ =>
      if best = some p then d.towardsSlave p
      else
        let rival := match best with
          | some q => d.rivals p q && !d.flag F.PRT_PTP_CFG_MASTER_ONLY p
          | none => false
        if (d.instOf p).any d.slaveOnly then d.setPtpState p 4
        else if rival then d.setPtpState p 7 else d.towardsMaster p

/-- What the CP sends to a partner beside the messages of R184 and R189 (R181), while the direction is awake (R196): the
L1_SYNC TLV of the High Accuracy profile, its active part set while the beat is locked; or, under G.8275.2, requests for
what the partner has not granted, Announce first. DESIGN CHOICE: at each run of the best-master algorithm. -/
def Dev.signalDue (d : Dev) (p : Nat) : Dev :=
  let m := d.ownMsg p 0 0 0 false
  if !d.txAwakeFor p then d
  else match d.profileOf p with
    | 2 =>
      let on : Byte := if d.flag F.PRT_PTU_STAT_RX_BEAT_LOCK p then 7 else 0
      d.ptpDue p (.signal m (List.replicate 10 0xFF) (tlvBytes 0x8001 [7, on]))
    | 4 =>
      let wants : List Nat := (if d.isSlave p then [0xB, 0, 9] else if d.ptpState p = 4 then [0xB] else []).filter
        (fun t => !(d.ptu p).held.contains t)
      let ask (t : Nat) : List Byte :=
        let log := if t = 0 then d.get F.PRT_PTP_RATE_LOG_SYNC p else if t = 9 then d.get F.PRT_PTP_RATE_LOG_DELAY p
          else d.get F.PRT_PTP_RATE_LOG_ANNOUNCE p
        tlvBytes 0x0004 ([BitVec.ofNat 8 (t * 16), BitVec.ofNat 8 (twosOf (signedOf log 4) 8)] ++ beBytes 4 (Config.unicastDuration t))
      if wants.isEmpty then d else d.ptpDue p (.signal m (List.replicate 10 0xFF) (wants.flatMap ask))
    | _ => d

/-- The best-master algorithm of a CLOCK instance (R180); what falls due with it is sent. -/
def Dev.bmca (d : Dev) (i : Nat) : Dev :=
  if !(d.inst i).made || (d.inst i).kind ≠ 0 then d
  else
    let ports := d.portsOfInst i
    let cand := d.bestPort (ports.filter d.mayFollow)
    let best := match cand with
      | none => none
      | some p =>
        if d.get F.PRT_PTP_CFG_ROLE_PIN p = 3 then some p
        else match d.partnerKey p with
          | some k => if d.slaveOnly i || lexLess k (d.ownKey i) then some p else none
          | none => none
    (d.each ports (fun d p => d.decidePort p best)).each ports Dev.signalDue

/-! ## Configuration (R198) -/

/-- The reset rates of a profile, LOG_SYNC, LOG_DELAY, LOG_ANNOUNCE (R181); LOG_DELAY and LOG_ANNOUNCE are the profile's own
defaults. -/
def profileRates (profile : Nat) : Int × Int × Int :=
  match profile with
  | 2 => (-4, -4, 0)
  | 3 => (-4, -4, -3)
  | 4 => (-4, -4, 0)
  | 5 => (-3, 0, 0)
  | _ => (0, 0, 1)

/-- LOG_SYNC held to the range of a profile (R181). -/
def syncRange (profile : Nat) (x : Int) : Int :=
  match profile with
  | 0 | 1 => clampInt (-7) 1 x
  | 3 => -4
  | _ => clampInt (-7) 0 x

/-- The rates of a port at the reset of its profile. -/
def Dev.resetRates (d : Dev) (p : Nat) : Dev :=
  match d.instOf p with
  | none => d
  | some i =>
    let (s, l, a) := profileRates (d.inst i).profile
    ((d.set F.PRT_PTP_RATE_LOG_SYNC (twosOf s 4) p).set F.PRT_PTP_RATE_LOG_DELAY (twosOf l 4) p).set
      F.PRT_PTP_RATE_LOG_ANNOUNCE (twosOf a 4) p

/-- A write of PRT_PTP_RATE (R181, R198). -/
def Dev.writePtpRate (d : Dev) (p : Nat) (v : Word) : Dev :=
  let d := d.store .PRT_PTP_RATE p v
  let x := signedOf (F.PRT_PTP_RATE_LOG_SYNC.of v) 4
  let y := match d.instOf p with
    | none => clampInt (-7) 1 x
    | some i => syncRange (d.inst i).profile x
  d.set F.PRT_PTP_RATE_LOG_SYNC (twosOf y 4) p

/-- A port that a write has moved enters INITIALIZING in its new instance at once, up or down (R198); the condition of R150 on
domains is judged again. -/
def Dev.enterInst (d : Dev) (p : Nat) : Dev :=
  (if (d.instOf p).isSome then d.setPtpState p 1 else d).judgeSleep p

/-- A write of PRT_PTP_CFG (R183, R198): a second port pinned to SLAVE in an instance is ignored in full with CFG_REJ; a
change of INSTANCE moves the port and disqualifies its candidate; a change of mechanism or transport restarts the mean
path delay. -/
def Dev.writePtpCfg (d : Dev) (p : Nat) (v : Word) : Dev :=
  let inst := F.PRT_PTP_CFG_INSTANCE.of v
  let second := F.PRT_PTP_CFG_ROLE_PIN.of v == 3 && inst < 4 && d.portList.any (fun q => q != p &&
    d.get F.PRT_PTP_CFG_INSTANCE q == inst && d.get F.PRT_PTP_CFG_ROLE_PIN q == 3)
  if second then d.set F.PRT_PTU_STAT_CFG_REJ 1 p
  else
    let tr (x : Nat) : Nat := if x = 3 then 0 else x
    let moves := inst ≠ d.get F.PRT_PTP_CFG_INSTANCE p
    let delay := F.PRT_PTP_CFG_DELAY_MECH.of v ≠ d.get F.PRT_PTP_CFG_DELAY_MECH p ||
      tr (F.PRT_PTP_CFG_TRANSPORT.of v) ≠ tr (d.get F.PRT_PTP_CFG_TRANSPORT p)
    let d := d.store .PRT_PTP_CFG p v
    let d := d.when (F.PRT_PTP_CFG_ROLE_PIN.of v != 3) (fun d => d.setPinLost p false)
    let d := if moves then (((d.disqualify (4 + p) 6).ptpBegin p).resetRates p).enterInst p else d
    d.when delay (fun d => d.restartDelay p)

/-! ## The reversal procedure (R192, R193) -/

/-- PRT_REV_CMD.RESULT. -/
def Dev.revResult (d : Dev) (p r : Nat) : Dev := d.set F.PRT_REV_CMD_RESULT r p

/-- START: accepted only on a PORT_L1 port in SLAVE that is the selected reference while STATE is LOCKED. The procedure
starts from IDLE, DONE and FAILED. REV_AVG is read here. -/
def Dev.revBegin (d : Dev) (p : Nat) (v : Word) : Dev :=
  let d := d.set F.PRT_REV_CMD_REV_AVG (clampNat 1 255 (F.PRT_REV_CMD_REV_AVG.of v)) p
  let step := d.get F.PRT_REV_STAT_STEP p
  let ok := d.kindOf (4 + p) == .portL1 && d.ptpState p == 9 && d.get F.RSEL_SEL_SELECTED == 4 + p && d.mir.state == .locked
  if !(step == 0 || step == 6 || step == 7) then d.revResult p 3
  else if !ok then d.revResult p 2
  else
    let d := d.onPtu p (fun t => { t with revO := [], revT := [], revAvg := d.get F.PRT_REV_CMD_REV_AVG p })
    ((d.set F.PRT_REV_STAT_FAIL 0 p).setRev p 1).revResult p 1

/-- The fibre asymmetry in 2^-16 ns × 2 from the measurements taken (R193): (o2 − o1), or (o_c − o2), halved in the unit of
the register, 0.1 ps, by 20,000 / 65,536 × 1/2. -/
def revTwice (o : List Int) (t : List Ticks) : Int :=
  match o, t with
  | [o1, o2, o3], [t1, t2, t3] => o1 + divFree ((o3 - o1) * ((t2 : Int) - t1)) ((t3 : Int) - t1).toNat - o2
  | o1 :: o2 :: _, _ => o2 - o1
  | _, _ => 0

/-- The procedure is DONE: the result of the cabling present. -/
def Dev.revDone (d : Dev) (p : Nat) : Dev :=
  let t := d.ptu p
  let r := divFree (revTwice t.revO t.revT * 10000) (2 * 65536)
  (d.set F.PRT_REV_RESULT_ASYM (twosOf r 32) p).setRev p 6

/-- A measurement window of REV_AVG seconds ends (R192): the mean of θ_PTP with A taken as zero, at the window's midpoint. -/
def Dev.revMeasured (d : Dev) (p : Nat) : Dev :=
  let t := d.ptu p
  let step := d.get F.PRT_REV_STAT_STEP p
  if !(step == 1 || step == 3 || step == 5) || t.revN = 0 then d
  else
    let d := d.onPtu p (fun t => { t with
      revO := t.revO ++ [divFree t.revSum t.revN], revT := t.revT ++ [(t.revFrom + d.now) / 2] })
    if step = 5 then d.revDone p else d.setRev p (step + 1)

/-- 600 s in SWAP end the procedure in FAILED, in SWAP_BACK_WAIT in DONE with two measurements. -/
def Dev.revTimeout (d : Dev) (p : Nat) : Dev :=
  match d.get F.PRT_REV_STAT_STEP p with
  | 2 => d.revFail p 1
  | 4 => d.revDone p
  | _ => d

/-- FINISH, APPLY and ABORT (PRT_REV_CMD): BAD_STEP in any other step. -/
def Dev.revFinish (d : Dev) (p : Nat) : Dev :=
  if d.get F.PRT_REV_STAT_STEP p = 4 then (d.revDone p).revResult p 1 else d.revResult p 3
def Dev.revApply (d : Dev) (p : Nat) : Dev :=
  if d.get F.PRT_REV_STAT_STEP p = 6 then
    ((d.set F.PRT_ASYM_REF_ASYM_REF (d.get F.PRT_REV_RESULT_ASYM p) p).set F.PRT_ASYM_DREF_D_REF
      (clampNat 0 1000000 (divFree (d.ptu p).mean 65536).toNat) p).revResult p 1
  else d.revResult p 3
def Dev.revAbort (d : Dev) (p : Nat) : Dev :=
  let step := d.get F.PRT_REV_STAT_STEP p
  if step = 0 || step = 7 then d.revResult p 3 else (d.revFail p 2).revResult p 1

/-! ## Signaling (R181) -/

/-- The TLVs of a Signaling message: type and value; a cut TLV ends the list. -/
def tlvsOf : Nat → List Byte → List (Nat × List Byte)
  | 0, _ => []
  | n + 1, b =>
    if b.length < 4 then []
    else
      let len := beNat (slice b 2 2)
      if (b.drop 4).length < len then [] else (beNat (b.take 2), slice b 4 len) :: tlvsOf n (b.drop (4 + len))

/-- Unicast negotiation of G.8275.2: a request is granted to the partner for its message type; a grant of the partner is
held, a denial (duration 0) or a cancellation ends it. The L1_SYNC TLV of the High Accuracy profile is kept. -/
def Dev.takeTlv (d : Dev) (p : Nat) (t : Nat × List Byte) : Dev :=
  let msg := byteAt t.2 0 / 16
  match t.1 with
  | 0x0004 => if d.profileOf p = 4 then d.onPtu p (fun x => { x with grants := msg :: x.grants.filter (· != msg) }) else d
  | 0x0005 =>
    if d.profileOf p = 4 then d.onPtu p (fun x => { x with
      held := if beNat (slice t.2 2 4) = 0 then x.held.filter (· != msg) else msg :: x.held.filter (· != msg) }) else d
  | 0x0006 =>
    if d.profileOf p = 4 then d.onPtu p (fun x => { x with
      grants := x.grants.filter (· != msg), held := x.held.filter (· != msg) }) else d
  | 0x8001 =>
    if d.profileOf p = 2 then d.onPtu p (fun x => { x with
      l1Sync := byteAt t.2 0 % 8 == 7, l1Peer := some (byteAt t.2 0, byteAt t.2 1) }) else d
  | _ => d

/-- The answer to a TLV: the grant of a request for the duration asked for, the acknowledgement of a cancellation. -/
def answerTlv (t : Nat × List Byte) : List Byte :=
  match t.1 with
  | 0x0004 => tlvBytes 0x0005 (t.2.take 6 ++ [0, 1])
  | 0x0006 => tlvBytes 0x0007 [BitVec.ofNat 8 (byteAt t.2 0), 0]
  | _ => []

/-- L1SyncState of a port (R181; PRESUMED: the states of IEEE 1588-2019 Annex L): 1 DISABLED, 2 IDLE, 3 LINK_ALIVE,
4 CONFIG_MATCH, 5 L1_SYNC_UP. -/
def Dev.l1State (d : Dev) (p : Nat) : Nat :=
  if d.profileOf p ≠ 2 || !d.clockPort p then 1
  else match (d.ptu p).l1Peer with
    | none => 2
    | some (cfg, act) =>
      if cfg % 8 ≠ 7 then 3
      else if act % 8 == 7 && d.flag F.PRT_PTU_STAT_RX_BEAT_LOCK p then 5 else 4

/-- A Signaling message (R181): it is counted, its TLVs are handled in order, and requests and cancellations are answered by
a Signaling message, on a sleeping direction by none (R196). -/
def Dev.signalingIn (d : Dev) (p : Nat) (m : PtpMsg) (tlvs : List Byte) : Dev :=
  if !d.clockPort p then d
  else
    let l := tlvsOf tlvs.length tlvs
    let d := (d.countRx p 0xC).each l (fun d t => d.takeTlv p t)
    if d.profileOf p = 4 && l.any (fun t => t.1 == 0x0004 || t.1 == 0x0006) && d.txAwakeFor p then
      d.ptpDue p (.signal (d.ownMsg p m.seq 0 0 false) (portIdentity m.clockId m.portNum) (l.flatMap answerTlv))
    else d

/-! ## Meanings -/

/-- A register write of the host to a port of the variant, while it reaches the fast targets (R2, R315). -/
def Dev.portReg (d : Dev) (p : Nat) (f : Dev → Dev) : Dev := d.reachFast (fun d => d.when (d.hasPort p) f)

/-- While the CP is stopped no PTP message is sent or handled and receipt timeouts are suspended (R339, R297). -/
def Dev.whileCp (d : Dev) (f : Dev → Dev) : Dev := if d.sys.cpStopped then d else f d

/-- A message received on a port that takes it is new work for the gated cores of the CP (R308). -/
def Dev.cpTakes (d : Dev) (p : Nat) (f : Dev → Dev) : Dev :=
  d.whileCp (fun d => f (d.when (d.ptpPort p) Dev.wakeCores))

/-- BEAT_SAMPLE (R165). -/
def execBeatSample (p : PortId) (rx tx : Nat) (w : Bool) (s : State) : Host.Outcome State Fault Refusal :=
  .next (s.onDev (·.beatSample p.val rx tx w))
/-- PTP_SYNC_RECEIVED (R176). -/
def execPtpSyncReceived (p : PortId) (m : PtpMsg) (c : Capture) (s : State) : Host.Outcome State Fault Refusal :=
  .next (s.onDev (·.cpTakes p.val (·.syncIn p.val m c)))
/-- PTP_FOLLOW_UP_RECEIVED (R189). -/
def execPtpFollowUpReceived (p : PortId) (m : PtpMsg) (s : State) : Host.Outcome State Fault Refusal :=
  .next (s.onDev (·.cpTakes p.val (·.followUpIn p.val m)))
/-- PTP_ANNOUNCE_RECEIVED (R184). -/
def execPtpAnnounceReceived (p : PortId) (m : PtpMsg) (a : AnnounceData) (s : State) : Host.Outcome State Fault Refusal :=
  .next (s.onDev (·.cpTakes p.val (·.announceIn p.val m a)))
/-- DELAY_REQ_RECEIVED (R187). -/
def execDelayReqReceived (p : PortId) (m : PtpMsg) (c : Capture) (s : State) : Host.Outcome State Fault Refusal :=
  .next (s.onDev (·.cpTakes p.val (·.delayReqIn p.val m c)))
/-- DELAY_RESP_RECEIVED (R179). -/
def execDelayRespReceived (p : PortId) (m : PtpMsg) (s : State) : Host.Outcome State Fault Refusal :=
  .next (s.onDev (·.cpTakes p.val (·.delayRespIn p.val m)))
/-- PDELAY_REQ_RECEIVED (R187). -/
def execPdelayReqReceived (p : PortId) (m : PtpMsg) (c t : Capture) (s : State) : Host.Outcome State Fault Refusal :=
  .next (s.onDev (·.cpTakes p.val (·.pdelayReqIn p.val m c t)))
/-- PDELAY_RESP_RECEIVED (R179). -/
def execPdelayRespReceived (p : PortId) (r : PdelayReply) (s : State) : Host.Outcome State Fault Refusal :=
  .next (s.onDev (·.cpTakes p.val (·.pdelayRespIn p.val r)))
/-- PTP_SYNC_TRANSMIT (R189). -/
def execPtpSyncTransmit (p : PortId) (c : Capture) (s : State) : Host.Outcome State Fault Refusal :=
  .next (s.onDev (·.whileCp (·.syncOut p.val c)))
/-- PTP_FOLLOW_UP_TRANSMIT (R189). -/
def execPtpFollowUpTransmit (p : PortId) (s : State) : Host.Outcome State Fault Refusal := .next (s.onDev (·.whileCp (·.followUpOut p.val)))
/-- PTP_ANNOUNCE_TRANSMIT (R184). -/
def execPtpAnnounceTransmit (p : PortId) (s : State) : Host.Outcome State Fault Refusal := .next (s.onDev (·.whileCp (·.announceOut p.val)))
/-- DELAY_REQ_TRANSMIT (R179). -/
def execDelayReqTransmit (p : PortId) (c : Capture) (s : State) : Host.Outcome State Fault Refusal :=
  .next (s.onDev (·.whileCp (·.delayReqOut p.val c)))
/-- DELAY_REFRESH (R197). -/
def execDelayRefresh (p : PortId) (c : Capture) (s : State) : Host.Outcome State Fault Refusal :=
  .next (s.onDev (·.whileCp (·.delayRefresh p.val c)))
/-- PTP_RECEIPT_TIMEOUT (R70). -/
def execPtpReceiptTimeout (p : PortId) (k : ReceiptKind) (s : State) : Host.Outcome State Fault Refusal :=
  .next (s.onDev (·.whileCp (·.receiptTimeout p.val k)))
/-- BMCA_RUN (R180). -/
def execBmcaRun (i : Fin 4) (s : State) : Host.Outcome State Fault Refusal := .next (s.onDev (·.whileCp (·.bmca i.val)))
/-- PTP_CFG_WRITE (R198). -/
def execPtpCfgWrite (p : PortId) (v : Word) (s : State) : Host.Outcome State Fault Refusal :=
  .next (s.onDev (·.portReg p.val (·.writePtpCfg p.val v)))
/-- REV_START (R192). -/
def execRevStart (p : PortId) (v : Word) (s : State) : Host.Outcome State Fault Refusal :=
  .next (s.onDev (·.portReg p.val (·.revBegin p.val v)))
/-- REV_MEASUREMENT_DONE (R192). -/
def execRevMeasurementDone (p : PortId) (s : State) : Host.Outcome State Fault Refusal := .next (s.onDev (·.revMeasured p.val))
/-- REV_STEP_TIMEOUT (R192). -/
def execRevStepTimeout (p : PortId) (s : State) : Host.Outcome State Fault Refusal := .next (s.onDev (·.revTimeout p.val))
/-- REV_FINISH (R192). -/
def execRevFinish (p : PortId) (s : State) : Host.Outcome State Fault Refusal :=
  .next (s.onDev (·.portReg p.val (·.revFinish p.val)))
/-- REV_APPLY (R193). -/
def execRevApply (p : PortId) (s : State) : Host.Outcome State Fault Refusal :=
  .next (s.onDev (·.portReg p.val (·.revApply p.val)))
/-- REV_ABORT (R192). -/
def execRevAbort (p : PortId) (s : State) : Host.Outcome State Fault Refusal :=
  .next (s.onDev (·.portReg p.val (·.revAbort p.val)))
/-- PTP_SIGNALING_RECEIVED (R181). -/
def execPtpSignalingReceived (p : PortId) (m : PtpMsg) (t : List Byte) (s : State) : Host.Outcome State Fault Refusal :=
  .next (s.onDev (·.cpTakes p.val (·.signalingIn p.val m t)))

end Sys2Proof.Machine
end

