-- ==== Sys2Proof/Machine/Lanes.lean ====
section
/-! DEFINITION. The commands and events of the serial lanes (06_serial_lanes.md, R135 to R163): bring-up, link-down, tests,
directional sleep and discovery. -/

namespace Sys2Proof.Machine

/-! ## Bring-up -/

/-- The bring-up phase of a port is in progress (R138). -/
def Dev.bringing (d : Dev) (p : Nat) : Bool :=
  let ph := d.get F.LANE_QUAD_STAT_PHASE p
  1 ≤ ph && ph ≤ 6

/-- BRINGUP_PHASE_DONE (R138, R171, R174). -/
def Dev.bringPhase (d : Dev) (p : Nat) (e : PhaseEnd) (lat : LatMeas) : Dev :=
  let ph := d.get F.LANE_QUAD_STAT_PHASE p
  if !d.bringing p then d
  else
    let u := d.usedLanes p
    match e with
    | .lostSignal =>
      (d.each u (fun d l => (d.laneBit F.LANE_STAT_SIG_DET false l).laneBit F.LANE_STAT_CDR_LOCK false l)).quadSet
        F.LANE_QUAD_STAT_PHASE 1 p
    | .lostLock => (d.each u (fun d l => d.laneBit F.LANE_STAT_CDR_LOCK false l)).quadSet F.LANE_QUAD_STAT_PHASE 1 p
    | .complete =>
      if ph = 6 then d
      else if ph = 5 && !lat.agree then d.retryBring p
      else
        let d := if ph = 1 then d.each u (fun d l => d.laneBit F.LANE_STAT_SIG_DET true l)
          else if ph = 2 then d.each u (fun d l => d.laneBit F.LANE_STAT_CDR_LOCK true l)
          else if ph = 5 then d.measureUp p lat else d
        d.quadSet F.LANE_QUAD_STAT_PHASE (ph + 1) p

/-- BRINGUP_TIMEOUT (R139): an attempt of 200 ms restarts from SIGNAL_DETECT and is counted. -/
def Dev.bringTimeout (d : Dev) (p : Nat) : Dev := if d.bringing p then d.retryBring p else d

/-- LINK_UP (R139, R142): the hold-down has ended. -/
def Dev.linkComesUp (d : Dev) (p : Nat) : Dev :=
  if d.get F.LANE_QUAD_STAT_PHASE p ≠ 6 then d
  else
    let us := min 0xFFFFF ((d.now - (d.port p).bringFrom) / (1000 * 65536))
    let loop := d.loopPort p
    let d := (d.quadSet F.LANE_QUAD_STAT_PHASE 7 p).quadSet F.LANE_QUAD_STAT_LINK_UP 1 p
    let d := (d.set F.LANE_BRINGUP_LAST_US us p).onPort p (fun s => { s with
      inLoop := loop, idleFrom := some d.now, degradeCw := d.get F.LANE_QUAD_CFG_DEGRADE_CW p })
    let d := (d.ptuBit F.PRT_PTU_STAT_LAT_VALID true p).restartDelay p
    let d := (((d.refreshPtx p).ptpBegin p).sendHello p).judgeIdle p
    ((d.refreshPtu p).refreshPower p).judgeBanks

/-! ## Link-down events (R141) -/

/-- The receive direction is awake, waking, or about to enter: outside a sleep agreed. -/
def Dev.rxAwake (d : Dev) (p : Nat) : Bool := d.rxSleep p == 0 || d.rxSleep p == 1 || d.rxSleep p == 4

/-- LOSS_OF_SIGNAL. -/
def Dev.lossOfSignal (d : Dev) (p : Nat) : Dev :=
  if !d.linkUp p || !d.rxAwake p then d
  else
    let d := d.each (d.usedLanes p) (fun d l => d.laneBit F.LANE_STAT_SIG_DET false l)
    d.dropLink p 1

/-- LOCK_LOST. -/
def Dev.lockLost (d : Dev) (p : Nat) : Dev := if !d.linkUp p || !d.rxAwake p then d else d.dropLink p 2

/-- Modes without FEC (R135). -/
def noFec (m : Nat) : Bool := m == 1 || m == 2

/-- DEGRADE_WINDOW_END: codewords are counted, and a link beyond DEGRADE_CW, or with hi_ber, goes down; the next window reads
DEGRADE_CW anew (R163). -/
def Dev.degradeWindow (d : Dev) (p unc cor : Nat) (hiBer : Bool) : Dev :=
  if !d.linkUp p then d
  else if noFec (d.portMode p) then (if hiBer then d.dropLink p 3 else d)
  else
    let d := (d.countPort p 38 cor).countPort p 39 unc
    let limit := (d.port p).degradeCw
    let d := d.onPort p (fun s => { s with degradeCw := d.get F.LANE_QUAD_CFG_DEGRADE_CW p })
    if limit < unc then d.dropLink p 3 else d

/-- LANE_FAULT (R147). -/
def Dev.laneFault (d : Dev) (l : Nat) : Dev :=
  if !d.fastOn || d.lanes ≤ l || d.flag F.LANE_STAT_RETIRED l then d else d.retireLane l

/-! ## Test patterns and loops (R143 to R146) -/

/-- A pattern is allowed at the rate of a lane in a port mode. -/
def patOk (mode pat : Nat) : Bool := if modeNrz mode then pat ≤ 4 else mode != 0 && 5 ≤ pat && pat ≤ 7

/-- LANE_TEST_WRITE. -/
def Dev.laneTestWrite (d : Dev) (l : Nat) (v : Word) : Dev :=
  let x := v.toNat
  let p := l / 4
  let used := (d.usedLanes p).contains l
  let mode := if used then d.portMode p else 0
  let genEn := bitsOf x 4 1 = 1
  let chkEn := bitsOf x 12 1 = 1
  let loop := bitsOf x 16 2
  let ok := (!genEn || patOk mode (bitsOf x 0 4)) && (!chkEn || patOk mode (bitsOf x 8 4)) && (loop == 0 || used)
  if !ok then d.set F.LANE_STAT_CFG_REJ 1 l
  else
    let before := d.portTest p
    let same := chkEn && d.flag F.LANE_TEST_CHK_EN l && d.get F.LANE_TEST_CHK_PAT l == bitsOf x 8 4
    let word := bitsOf x 0 5 + bitsOf x 8 5 * 256 + loop * 65536
    let d := d.setWord .LANE_TEST l (BitVec.ofNat 32 word)
    let d := if same then d else d.laneBit F.LANE_STAT_CHK_LOCK false l
    if !used then d
    else
      let now := d.portTest p
      let d := if now && !before then ((d.endSleep p).restartLpll (p / 8)).losePartner p else d
      let d :=
        if now then
          if d.loopPort p then
            if d.linkUp p then ((d.onPort p (fun s => { s with inLoop := true, helloDue := false })).ptpBegin p).judgePortCand p
            else d.startBring p
          else (d.portDown p 8).startBring p
        else if before then (d.portDown p 8).startBring p
        else d
      (d.refreshPower p).judgeBanks

/-- CHK_LOCK_GAINED, CHK_LOCK_LOST (R144): bits in error while CHK_LOCK is set are counted, saturating, on top of a count
that has been written. -/
def Dev.chkGained (d : Dev) (l : Nat) : Dev := if d.flag F.LANE_TEST_CHK_EN l then d.laneBit F.LANE_STAT_CHK_LOCK true l else d
def Dev.chkLost (d : Dev) (l errors : Nat) (lost : Bool) : Dev :=
  if !d.flag F.LANE_STAT_CHK_LOCK l then d
  else (d.set F.LANE_PRBS_ERR_ERRS (min 0xFFFFFFFF (d.get F.LANE_PRBS_ERR_ERRS l + errors)) l).laneBit F.LANE_STAT_CHK_LOCK (!lost) l

/-- A sleeping receive direction wakes: WAKING, with its lane PLL and a stopped LPLL started again (R149, R154, R302). -/
def Dev.rxWaking (d : Dev) (p : Nat) : Dev :=
  let st := d.rxSleep p
  let d := (d.quadSet F.LANE_QUAD_STAT_RX_SLEEP 4 p).onPort p (fun s => { s with rxDepth := st, rxLead := false, missed := 0 })
  ((d.restartLpll (p / 8)).refreshPtu p).judgeBanks

/-! ## Writes (R162, R163) -/

/-- LANE_CFG_WRITE: a change of RX_POL on a used lane takes the port down or restarts its bring-up. -/
def Dev.laneCfgWrite (d : Dev) (l : Nat) (v : Word) : Dev :=
  let p := l / 4
  let flip := d.get F.LANE_CFG_RX_POL l != bitsOf v.toNat 1 1 && (d.usedLanes p).contains l
  let d := (d.set F.LANE_CFG_TX_POL v.toNat l).set F.LANE_CFG_RX_POL (bitsOf v.toNat 1 1) l
  if !flip then d
  else if d.linkUp p then d.dropLink p 6
  else if d.bringing p then d.startBring p
  else d

/-- QUAD_RESTART. -/
def Dev.quadRestart (d : Dev) (p : Nat) : Dev :=
  if d.portMode p = 0 then d.set F.LANE_QUAD_CMD_RESULT 2 p
  else if d.portTest p then d.set F.LANE_QUAD_CMD_RESULT 3 p
  else ((d.portDown p 6).startBring p).set F.LANE_QUAD_CMD_RESULT 1 p

/-- DISC_EN as written (R163): cleared, discovery ends at once; set, a HELLO at once if the port is up. -/
def Dev.setDisc (d : Dev) (p : Nat) (on : Bool) : Dev :=
  let was := d.flag F.LANE_QUAD_CFG_DISC_EN p
  let d := d.setB F.LANE_QUAD_CFG_DISC_EN on p
  if was && !on then (d.onPort p (fun s => { s with helloDue := false })).losePartner p
  else if on && !was then d.sendHello p
  else d

/-- A write of LANE_QUAD_CFG (R162, R163): with LPI_EN cleared a direction in LPI wakes at once, the receiver's too. -/
def Dev.quadCfgWrite (d : Dev) (p : Nat) (v : Word) : Dev :=
  let x := v.toNat
  let eff (m : Nat) : Nat := if 11 ≤ m then 0 else m
  let d := (d.set F.LANE_QUAD_CFG_DEGRADE_CW (clampNat 1 255 (bitsOf x 8 8)) p).set F.LANE_QUAD_CFG_LPI_EN (bitsOf x 5 1) p
  let d := (d.setDisc p (bitsOf x 4 1 == 1)).judgeSleep p
  let d := d.when (bitsOf x 5 1 == 0 && d.rxSleep p == 5) (·.rxWaking p)
  if eff (bitsOf x 0 4) = d.portMode p then d.set F.LANE_QUAD_CFG_MODE (bitsOf x 0 4) p
  else d.newMode p (bitsOf x 0 4)

/-! ## Directional sleep -/

/-- SLEEP_ENTRY_DECISION (R300, R304, R158): the depth that the SMC picks: 0 none. -/
def Dev.pickDepth (d : Dev) (p : Nat) : Nat :=
  match d.get F.PWR_PORT_CFG_TX_PIN p with
  | 0 => if d.permits p 3 && decide (d.get F.PWR_SLEEP_CFG_DEEP_MIN * 1000000 * nsUnit ≤ (d.port p).idleSpan) then 3 else if d.permits p 2 then 2 else if d.permits p 5 then 5 else 0
  | 1 => 0
  | pin => if d.retentive p pin then pin else 0

/-- Queues a SLEEP_NOTICE naming a depth (R151). -/
def Dev.sendNoticeFrame (d : Dev) (p depth : Nat) : Dev :=
  let b := withFcs (d.discFrame p 2 depth 0)
  let d := if (d.domainOf p).isNone then d.spendFree else d
  let d := d.onPort p (fun s => { s with helloSeq := (s.helloSeq + 1) % 65536 })
  d.queueOwn p (.notice depth) b

/-- A transmit direction is asleep at a depth: counted (R151, R299). -/
def Dev.txAsleep (d : Dev) (p depth : Nat) : Dev :=
  let d := (d.quadSet F.LANE_QUAD_STAT_TX_SLEEP depth p).onPort p (fun s => { s with txDepth := depth, txEntry := none })
  let code := if depth = 2 then 0x023 else if depth = 3 then 0x024 else 0x025
  (((d.countPort p 42).portEvent p code).refreshPtu p).judgeBanks

/-- SLEEP_ENTRY_DECISION. -/
def Dev.sleepDecision (d : Dev) (p : Nat) : Dev :=
  let d := if d.fastOn then d.refreshPower p else d
  if !d.linkUp p || d.txSleep p != 0 || !d.idle p || (List.range 8).any (fun q => !(d.queue p q).isEmpty) ||
      (d.txNow p).isSome then d
  else match d.pickDepth p with
    | 0 => d
    | 5 => d.txAsleep p 5
    | depth => d.sendNoticeFrame p depth

/-- A received discovery frame is accepted (R161): FCS, VERSION and MSG_TYPE. -/
def discOk (b : List Byte) (fcsOk : Bool) (type : Nat) : Bool :=
  fcsOk && b.length == 64 && beNat (slice b 12 2) == 0x88B5 && 1 ≤ byteAt b 14 && byteAt b 15 == type

/-- The instant of ENTRY_SEC and ENTRY_NS (R160): the seconds nearest to the present ones. -/
def entryTime (now sec32 ns : Nat) : Ticks :=
  let s := now / secUnit
  let b := s / 2 ^ 32 * 2 ^ 32 + sec32
  let t := if b + 2 ^ 31 < s then b + 2 ^ 32 else if s + 2 ^ 31 < b then b - 2 ^ 32 else b
  t * secUnit + ns * 65536

/-- CLOCK_ID and PORT of a discovery frame are the port's own (R161). -/
def Dev.ownFrame (d : Dev) (p : Nat) (b : List Byte) : Bool := beNat (slice b 18 8) == d.clockId.toNat && byteAt b 26 == p

/-- A self-loop: SELF_LOOP, counted (R161). -/
def Dev.selfLoop (d : Dev) (p : Nat) : Dev := (d.quadSet F.LANE_QUAD_STAT_SELF_LOOP 1 p).portEvent p 0x026

/-- A receive direction may sleep at a depth that its partner names: the SMC runs (R157), and the partner is discovered and
sets PR_SLEEP (R158). -/
def Dev.rxMaySleep (d : Dev) (p : Nat) : Bool := d.smcRuns && d.prSleep p

/-- SLEEP_NOTICE_RECEIVED (R151, R161): the latest notice of a direction not asleep yet counts; one that comes after its
ENTRY_TIME, or from a partner towards which no direction sleeps so, is discarded and counted. -/
def Dev.noticeReceived (d : Dev) (p : Nat) (b : List Byte) (fcsOk : Bool) : Dev :=
  let depth := byteAt b 32
  if !d.portUp p || !discOk b fcsOk 2 || !(d.rxSleep p == 0 || d.rxSleep p == 1) || !(depth == 2 || depth == 3) then d
  else if d.ownFrame p b then d.selfLoop p
  else
    let t := entryTime d.now (beNat (slice b 34 4)) (beNat (slice b 38 4))
    if t ≤ d.now || !d.rxMaySleep p then d.portEvent p 0x021
    else (d.quadSet F.LANE_QUAD_STAT_RX_SLEEP 1 p).onPort p (fun s => { s with rxDepth := depth, rxEntry := some t })

/-- SLEEP_ENTRY (R151, R156): ENTRY_TIME of a direction; a receiver that finds the stream still running counts a cancelled
entry, and one that may not sleep any more stays awake. An awake receiver whose partner sends low-power idle is in LPI
(R149, R158). -/
def Dev.sleepEntry (d : Dev) (p : Nat) (dir : Dir) (runs : Bool) : Dev :=
  match dir with
  | .tx => if d.txSleep p = 1 then d.txAsleep p (d.port p).txDepth else d
  | .rx =>
    if d.rxSleep p = 0 && !runs && d.lpiMay p then ((d.quadSet F.LANE_QUAD_STAT_RX_SLEEP 5 p).refreshPtu p).judgeBanks
    else if d.rxSleep p ≠ 1 then d
    else if runs || !d.rxMaySleep p then
      ((d.quadSet F.LANE_QUAD_STAT_RX_SLEEP 0 p).onPort p (fun s => { s with rxDepth := 0, rxEntry := none })).when runs
        (fun d => d.portEvent p 0x020)
    else
      let d := (d.quadSet F.LANE_QUAD_STAT_RX_SLEEP (d.port p).rxDepth p).onPort p (fun s => { s with rxEntry := none, missed := 0 })
      (d.refreshPtu p).judgeBanks

/-- DEEPENING (R300): a direction in SHALLOW for DEEP_MIN, with DEEP permitted, wakes to name DEEP. -/
def Dev.deepening (d : Dev) (p : Nat) : Dev :=
  if d.txSleep p != 2 || d.get F.PWR_PORT_CFG_TX_PIN p != 0 || !d.permits p 3 then d
  else ((d.wakeTx p).onPort p (fun s => { s with deepens := true })).portEvent p 0x022

/-- BURST_LEAD (R152, R153): the lane PLL, and a stopped LPLL, start again for a burst. -/
def Dev.burstLead (d : Dev) (p : Nat) (dir : Dir) : Dev :=
  match dir with
  | .tx => if d.txSleep p = 3 then (d.restartLpll (p / 8)).onPort p (fun s => { s with txLead := true }) else d
  | .rx => if d.rxSleep p = 3 then (d.restartLpll (p / 8)).onPort p (fun s => { s with rxLead := true }) else d

/-- REFRESH_BURST (R152): sent at the boundary; not where an LPLL start waits for the end of a freeze (R156). -/
def Dev.refreshBurst (d : Dev) (p : Nat) : Dev :=
  let st := d.txSleep p
  if st = 2 || (st = 3 && !(d.syn (5 + p / 8)).acqHeld) then
    (d.onPort p (fun s => { s with txLead := false })).countPort p 44
  else d

/-- BURST_MISSED (R153): counted; two in a row take the port down. -/
def Dev.burstMissed (d : Dev) (p : Nat) : Dev :=
  if !(d.rxSleep p == 2 || d.rxSleep p == 3) then d
  else
    let d := (d.onPort p (fun s => { s with missed := s.missed + 1, rxLead := false })).countPort p 45
    if 2 ≤ (d.port p).missed then d.dropLink p 4 else d

/-- A correction of clock recovery in 1/64 UI reaches the phase track (R153, R195), whose next beat sample moves it by
what the correction has left, and the servo outside a freeze. -/
def Dev.burstPhase (d : Dev) (p : Nat) (x : Int) : Dev :=
  let n := modeUi (d.portMode p)
  let step := divFree (x * 256) (max 1 n)
  let d := d.onPtu p (fun t => { t with track := t.track + step, phiRx := ((t.phiRx + step) % 16384).toNat })
  if d.flag F.PRT_PTU_STAT_L1_TRACK p then d.passTheta p (d.ptu p).thetaL1 else d

/-- BURST_RECEIVED (R153): a correction above a quarter UI counts as a missed burst. -/
def Dev.burstReceived (d : Dev) (p : Nat) (x : Int) : Dev :=
  if !(d.rxSleep p == 2 || d.rxSleep p == 3) then d
  else if 16 < x.natAbs then d.burstMissed p
  else (d.onPort p (fun s => { s with missed := 0, rxLead := false })).burstPhase p x

/-- TX_WAKE_DECISION (R301): a frame or a PTP message wakes; a condition or a latency write where it no longer permits. -/
def Dev.wakeDecision (d : Dev) (p : Nat) (c : WakeCause) : Dev :=
  match c with
  | .frame | .ptp => d.wakeTx p
  | .condition | .latency => d.judgeSleep p

/-- WAKE_GUARD_END (R154, R173, R174): the direction is awake; a deepening sends its notice and no other frame (R300), else a
HELLO that fell due is sent. -/
def Dev.wakeGuardEnd (d : Dev) (p : Nat) (lat : LatMeas) : Dev :=
  if d.txSleep p ≠ 4 then d
  else
    let lpi := (d.port p).txDepth = 5
    let deeper := (d.port p).deepens
    let due := (d.port p).helloDue
    let d := (d.quadSet F.LANE_QUAD_STAT_TX_SLEEP 0 p).onPort p (fun s => { s with txDepth := 0, deepens := false })
    if !d.linkUp p then (d.refreshPtu p).judgeBanks
    else if !lat.agree then d.dropLink p 5
    else
      let d := if lpi then d.measureLpi p 1 lat.tx else d.measureWake p 1 lat.tx
      let d := (d.refreshPtu p).judgeBanks
      if deeper && d.noFrames p && d.depthOk p 3 then d.sendNoticeFrame p 3
      else
        let d := d.flushPtp p
        if due then d.sendHello p else d

/-- RX_WAKE_DETECTED (R149, R154, R173, R174): the direction is WAKING and its clock recovery corrected; once latency and
marker have been checked it is awake, or the port goes down. -/
def Dev.rxWake (d : Dev) (p : Nat) (x : Int) (lat : LatMeas) (step : RxWakeStep) : Dev :=
  match step with
  | .detected =>
    let st := d.rxSleep p
    if !asleep st then d
    else
      let d := d.rxWaking p
      if st = 5 then d else d.burstPhase p x
  | .checked markerOk =>
    if d.rxSleep p ≠ 4 then d
    else
      let lpi := (d.port p).rxDepth = 5
      let d := (d.quadSet F.LANE_QUAD_STAT_RX_SLEEP 0 p).onPort p (fun s => { s with rxDepth := 0 })
      let d := d.refreshPtu p
      if !lat.agree || (!lpi && !markerOk) then d.dropLink p 5
      else if lpi then d.measureLpi p 0 lat.rx
      else d.measureWake p 0 lat.rx

/-- SMC_STOPPED (R157): every sleeping transmitter wakes; no direction sleeps until the SMC runs. -/
def Dev.smcMoves (d : Dev) (again : Bool) : Dev :=
  if !d.fastOn then d
  else if again then ((d.onSys (fun s => { s with smcStopped := false })).restartParty 3).judgeSleeps
  else (d.onSys (fun s => { s with smcStopped := true })).judgeSleeps

/-! ## Discovery -/

/-- HELLO_SEND (R159): the CP sends a HELLO that is due. -/
def Dev.helloSend (d : Dev) (p : Nat) : Dev := if d.fastOn then d.sendHello p else d

/-- HELLO_RECEIVED (R161): work for the gated cores of the CP (R308). -/
def Dev.helloReceived (d : Dev) (p : Nat) (b : List Byte) (fcsOk : Bool) : Dev :=
  if !d.portUp p || !d.flag F.LANE_QUAD_CFG_DISC_EN p || d.sys.cpStopped || !discOk b fcsOk 1 then d
  else
    let id := beNat (slice b 18 8)
    let d := d.wakeCores
    if d.ownFrame p b then d.selfLoop p
    else
      let caps := byteAt b 29
      let flags := byteAt b 30
      let d := (d.set F.LANE_PARTNER_ID_HI_ID (id / 2 ^ 32) p).set F.LANE_PARTNER_ID_LO_ID id p
      let d := ((d.set F.LANE_PARTNER_INFO_PORT (byteAt b 26) p).set F.LANE_PARTNER_INFO_VARIANT (byteAt b 27) p).set
        F.LANE_PARTNER_INFO_MODE (byteAt b 28) p
      let d := ((d.set F.LANE_PARTNER_INFO_CAPS caps p).set F.LANE_PARTNER_INFO_TIME_STATE flags p).set
        F.LANE_PARTNER_INFO_RX_SLEEP_OK (bitsOf flags 3 1) p
      let d := (d.set F.LANE_PARTNER_DOM_DOMAIN (byteAt b 31) p).set F.LANE_PARTNER_DOM_IF_VERSION (beNat (slice b 42 2)) p
      let d := (d.quadSet F.LANE_QUAD_STAT_DISCOVERED 1 p).quadSet F.LANE_QUAD_STAT_PARTNER_SYNT (bitsOf caps 0 1) p
      ((d.quadSet F.LANE_QUAD_STAT_SELF_LOOP 0 p).judgeSleep p).judgeL1 p

/-- PARTNER_LOST (R161): no HELLO accepted for 3 s while the receive direction is awake. -/
def Dev.partnerLost (d : Dev) (p : Nat) : Dev :=
  if d.flag F.LANE_QUAD_STAT_DISCOVERED p && !asleep (d.rxSleep p) then d.losePartner p else d

/-! ## The meanings -/

/-- A register write to the quad of a port, or to a lane, of the variant. -/
def Dev.quadAccess (d : Dev) (p : Nat) (f : Dev → Dev) : Dev := d.reachFast (fun d => if d.hasPort p then f d else d)

def execQuadModeWrite (p : PortId) (v : Word) (s : State) : Host.Outcome State Fault Refusal :=
  .next (s.onDev (fun d => d.quadAccess p.val (fun d => d.quadCfgWrite p.val v)))

def execBringupPhaseDone (p : PortId) (e : PhaseEnd) (l : LatMeas) (s : State) : Host.Outcome State Fault Refusal :=
  .next (s.onDev (·.bringPhase p.val e l))

def execBringupTimeout (p : PortId) (s : State) : Host.Outcome State Fault Refusal := .next (s.onDev (·.bringTimeout p.val))

def execLinkUp (p : PortId) (s : State) : Host.Outcome State Fault Refusal := .next (s.onDev (·.linkComesUp p.val))

def execLossOfSignal (p : PortId) (s : State) : Host.Outcome State Fault Refusal := .next (s.onDev (·.lossOfSignal p.val))

def execLockLost (p : PortId) (s : State) : Host.Outcome State Fault Refusal := .next (s.onDev (·.lockLost p.val))

def execDegradeWindowEnd (p : PortId) (u c : Nat) (h : Bool) (s : State) : Host.Outcome State Fault Refusal :=
  .next (s.onDev (·.degradeWindow p.val u c h))

def execLaneFault (l : LaneId) (s : State) : Host.Outcome State Fault Refusal := .next (s.onDev (·.laneFault l.val))

def execLaneTestWrite (l : LaneId) (v : Word) (s : State) : Host.Outcome State Fault Refusal :=
  .next (s.onDev (fun d => d.quadAccess (l.val / 4) (fun d => d.laneTestWrite l.val v)))

def execChkLockGained (l : LaneId) (s : State) : Host.Outcome State Fault Refusal := .next (s.onDev (·.chkGained l.val))

def execChkLockLost (l : LaneId) (e : PrbsErrors) (s : State) : Host.Outcome State Fault Refusal :=
  .next (s.onDev (·.chkLost l.val e.count e.lost))

def execLaneCfgWrite (l : LaneId) (v : Word) (s : State) : Host.Outcome State Fault Refusal :=
  .next (s.onDev (fun d => d.quadAccess (l.val / 4) (fun d => d.laneCfgWrite l.val v)))

def execQuadRestart (p : PortId) (s : State) : Host.Outcome State Fault Refusal :=
  .next (s.onDev (fun d => d.quadAccess p.val (fun d => d.quadRestart p.val)))

def execDiscEnWrite (p : PortId) (v : Word) (s : State) : Host.Outcome State Fault Refusal :=
  .next (s.onDev (fun d => d.quadAccess p.val (fun d => d.quadCfgWrite p.val v)))

def execSleepEntryDecision (p : PortId) (s : State) : Host.Outcome State Fault Refusal :=
  .next (s.onDev (·.sleepDecision p.val))

def execSleepNoticeReceived (p : PortId) (b : List Byte) (ok : Bool) (s : State) : Host.Outcome State Fault Refusal :=
  .next (s.onDev (·.noticeReceived p.val b ok))

def execSleepEntry (p : PortId) (dir : Dir) (r : Bool) (s : State) : Host.Outcome State Fault Refusal :=
  .next (s.onDev (·.sleepEntry p.val dir r))

def execDeepening (p : PortId) (s : State) : Host.Outcome State Fault Refusal := .next (s.onDev (·.deepening p.val))

def execBurstLead (p : PortId) (dir : Dir) (s : State) : Host.Outcome State Fault Refusal :=
  .next (s.onDev (·.burstLead p.val dir))

def execRefreshBurst (p : PortId) (s : State) : Host.Outcome State Fault Refusal := .next (s.onDev (·.refreshBurst p.val))

def execBurstReceived (p : PortId) (x : Int) (s : State) : Host.Outcome State Fault Refusal :=
  .next (s.onDev (·.burstReceived p.val x))

def execBurstMissed (p : PortId) (s : State) : Host.Outcome State Fault Refusal := .next (s.onDev (·.burstMissed p.val))

def execTxWakeDecision (p : PortId) (c : WakeCause) (s : State) : Host.Outcome State Fault Refusal :=
  .next (s.onDev (·.wakeDecision p.val c))

def execWakeGuardEnd (p : PortId) (l : LatMeas) (s : State) : Host.Outcome State Fault Refusal :=
  .next (s.onDev (·.wakeGuardEnd p.val l))

def execRxWakeDetected (p : PortId) (x : Int) (l : LatMeas) (m : RxWakeStep) (s : State) : Host.Outcome State Fault Refusal :=
  .next (s.onDev (·.rxWake p.val x l m))

def execSmcStopped (again : Bool) (s : State) : Host.Outcome State Fault Refusal := .next (s.onDev (·.smcMoves again))

def execHelloSend (p : PortId) (s : State) : Host.Outcome State Fault Refusal := .next (s.onDev (·.helloSend p.val))

def execHelloReceived (p : PortId) (b : List Byte) (ok : Bool) (s : State) : Host.Outcome State Fault Refusal :=
  .next (s.onDev (·.helloReceived p.val b ok))

def execPartnerLost (p : PortId) (s : State) : Host.Outcome State Fault Refusal := .next (s.onDev (·.partnerLost p.val))

end Sys2Proof.Machine
end

