-- ==== Sys2Proof/Machine/Image.lean ====
section
/-! DEFINITION. The structures of the module flash, as functions of its bytes (12_boot_and_configuration.md,
13_firmware_update.md): boot headers, firmware bundles and their checks, configuration images and their checks, settings
records, and the refresh journal. -/

namespace Sys2Proof.Machine

/-- A little-endian number in the flash. -/
def flashNat (m : List Host.Cell) (a n : Nat) : Nat := leNat (flashBytes m a n)

/-- A CRC-32C over `n` bytes stands right after them. -/
def crcHolds (m : List Host.Cell) (a n : Nat) : Bool := flashNat m (a + n) 4 == crc32c (flashBytes m a n)

/-! ## Boot header (R311, R312, R336) -/

/-- The fields of a boot header that the CRC covers. -/
structure Header where
  gen        : Nat
  bundleSel  : Nat
  state      : Nat
  configSel  : Nat
  prevBundle : Nat
  prevConfig : Nat
  mode       : Nat
  auto       : Nat
  confirmS   : Nat
  trialId    : Nat
  failCause  : Nat
  deriving DecidableEq, Repr

/-- What is booted where neither copy is valid: bundle slot 0 with preferred configuration slot 0 (R312). -/
def Header.lost : Header := ⟨0, 0, 0, 0, 0, 0, 0, 0, 0, 0, 0⟩

/-- The 64 bytes of a header. -/
def Header.bytes (h : Header) : List Byte :=
  let b := leBytes 4 0x48465842 ++ leBytes 4 h.gen ++ leBytes 1 h.bundleSel ++ leBytes 1 h.state ++ leBytes 1 h.configSel ++
    [0] ++ leBytes 1 h.prevBundle ++ leBytes 1 h.prevConfig ++ leBytes 1 h.mode ++ leBytes 1 h.auto ++ leBytes 4 h.confirmS ++
    leBytes 4 h.trialId ++ leBytes 4 h.failCause ++ List.replicate 32 0
  b ++ leBytes 4 (crc32c b)

/-- The flash address of a copy: 0 A, 1 B. -/
def hdrBase (copy : Nat) : Nat := copy * 0x10000

/-- A copy is valid when its MAGIC and CRC are correct (R312). -/
def hdrValid (m : List Host.Cell) (copy : Nat) : Bool :=
  flashNat m (hdrBase copy) 4 == 0x48465842 && crcHolds m (hdrBase copy) 60

/-- The fields of a copy; a slot number is its low bit. -/
def hdrRead (m : List Host.Cell) (copy : Nat) : Header :=
  let a := hdrBase copy
  { gen := flashNat m (a + 4) 4, bundleSel := flashNat m (a + 8) 1 % 2, state := flashNat m (a + 9) 1
    configSel := flashNat m (a + 10) 1 % 2, prevBundle := flashNat m (a + 12) 1 % 2, prevConfig := flashNat m (a + 13) 1 % 2
    mode := flashNat m (a + 14) 1, auto := flashNat m (a + 15) 1, confirmS := flashNat m (a + 16) 4
    trialId := flashNat m (a + 20) 4, failCause := flashNat m (a + 24) 4 }

/-- The copy in force: the valid one with the higher GENERATION (R311). -/
def hdrCopy (m : List Host.Cell) : Option Nat :=
  if hdrValid m 0 then if hdrValid m 1 && (hdrRead m 0).gen < (hdrRead m 1).gen then some 1 else some 0
  else if hdrValid m 1 then some 1 else none

/-- The header in force. -/
def hdrNow (m : List Host.Cell) : Header := match hdrCopy m with | some c => hdrRead m c | none => .lost

/-- The effective state (R336): 0 CONFIRMED, 1 PENDING, 2 TRIAL, 3 FALLEN_BACK. -/
def hdrState (m : List Host.Cell) : Nat :=
  match hdrCopy m with
  | none => 0
  | some c =>
    let started := flashNat m (hdrBase c + 64) 4 == 0
    let confirmed := flashNat m (hdrBase c + 68) 4 == 0
    match (hdrRead m c).state with
    | 1 => if confirmed then 0 else if started then 2 else 1
    | 2 => if confirmed then 0 else 2
    | 3 => 3
    | _ => 0

/-- Writes a header (R312): the copy that is not in force, erased, with GENERATION one higher; copy A where none is valid. -/
def hdrWrite (m : List Host.Cell) (h : Header) : List Host.Cell :=
  let a := hdrBase (match hdrCopy m with | some 0 => 1 | _ => 0)
  flashWrite (flashErase m a 0x10000) a { h with gen := (hdrNow m).gen + 1 }.bytes

/-- Programs a marker word of the copy in force to zero (R336): STARTED at byte 64, CONFIRMED at byte 68. -/
def hdrMark (m : List Host.Cell) (ofs : Nat) : List Host.Cell :=
  match hdrCopy m with
  | none => m
  | some c => flashWrite m (hdrBase c + ofs) [0, 0, 0, 0]

/-! ## Firmware bundles (R331 to R333) -/

/-- Where a bundle slot begins; its size is 24 MiB. -/
def bundleBase (slot : Nat) : Nat := 0x100000 + slot * 0x1800000

/-- The directory entries of a TYPE. -/
def dirOf (m : List Host.Cell) (slot t : Nat) : List Nat :=
  (List.range 4).filter (fun i => flashNat m (bundleBase slot + 16 + 16 * i) 1 == t)

/-- OFFSET and LENGTH of the directory entry of a TYPE. -/
def dirEntry (m : List Host.Cell) (slot t : Nat) : Nat × Nat :=
  let a := bundleBase slot + 16 + 16 * (dirOf m slot t).headD 0
  (flashNat m (a + 4) 4, flashNat m (a + 8) 4)

/-- BUNDLE_ID. -/
def bundleId (m : List Host.Cell) (slot : Nat) : Nat := flashNat m (bundleBase slot + 12) 4

/-- Check 1: the bundle header and its directory. -/
def bundleHdrOk (m : List Host.Cell) (slot : Nat) : Bool :=
  let a := bundleBase slot
  let len := flashNat m (a + 8) 4
  flashNat m a 4 == 0x4C444E42 && flashNat m (a + 4) 1 == 1 && crcHolds m a 252 && decide (len ≤ 0x1800000) &&
    (List.range 4).all (fun t => (dirOf m slot t).length == 1 && decide ((dirEntry m slot t).1 + (dirEntry m slot t).2 ≤ len))

/-- Where an image begins. -/
def imgBase (m : List Host.Cell) (slot t : Nat) : Nat := bundleBase slot + (dirEntry m slot t).1

/-- Check 2: an image header. -/
def imgHdrOk (m : List Host.Cell) (slot t : Nat) : Bool :=
  let a := imgBase m slot t
  flashNat m a 4 == 0x474D4958 && flashNat m (a + 4) 1 == t && flashNat m (a + 5) 1 == 1 && flashNat m (a + 6) 2 == 256 &&
    crcHolds m a 252

/-- Check 3: the image runs on the variant. -/
def imgVariantOk (m : List Host.Cell) (variant slot t : Nat) : Bool := bitAt (flashNat m (imgBase m slot t + 40) 4) variant

/-- BLOCKS, the length of the block check table, and where the body begins. -/
def imgBlocks (m : List Host.Cell) (slot t : Nat) : Nat := flashNat m (imgBase m slot t + 12) 4
def imgTable (m : List Host.Cell) (slot t : Nat) : Nat := (4 * imgBlocks m slot t + 4095) / 4096 * 4096
def imgBody (m : List Host.Cell) (slot t : Nat) : Nat := imgBase m slot t + 4096 + imgTable m slot t

/-- Check 4: the first block that does not match its check. -/
def imgBadBlock (m : List Host.Cell) (slot t : Nat) : Option Nat :=
  (List.range (imgBlocks m slot t)).find? (fun i =>
    flashNat m (imgBase m slot t + 4096 + 4 * i) 4 != crc32c (flashBytes m (imgBody m slot t + 4096 * i) 4096))

/-- Check 5: the signature over header bytes 0 to 143, the block check table and the padded body. -/
def imgSigned (m : List Host.Cell) (slot t : Nat) : Bool :=
  let a := imgBase m slot t
  let key := flashNat m (a + 144) 1
  decide (key ≤ 3) && Config.signatureOk 0 key
    (flashBytes m a 144 ++ flashBytes m (a + 4096) (imgTable m slot t + 4096 * imgBlocks m slot t)) (flashBytes m (a + 148) 96)

/-- The versions of an image. -/
def readImage (m : List Host.Cell) (slot t : Nat) : Image :=
  let a := imgBase m slot t
  { ifVer := flashNat m (a + 20) 2, version := flashNat m (a + 16) 4
    accepts := (List.range 4).map (fun i => (flashNat m (a + 24 + 4 * i) 2, flashNat m (a + 26 + 4 * i) 2)) }
def readImages (m : List Host.Cell) (slot : Nat) : List Image := (List.range 4).map (fun t => readImage m slot t)

/-- An image ACCEPTS an interface version of a TYPE. -/
def Image.takes (y : Image) (t v : Nat) : Bool :=
  match y.accepts[t]? with
  | some (lo, hi) => decide (lo ≤ v ∧ v ≤ hi)
  | none => false

/-- An image of a list, by TYPE. -/
def imageAt (l : List Image) (t : Nat) : Image := l.getD t ⟨0, 0, []⟩

/-- Check 6: the first TYPE whose interface version a different image of the bundle does not accept. -/
def bundleClash (l : List Image) : Option Nat :=
  (List.range 4).find? (fun x => (List.range 4).any (fun y => x != y && !(imageAt l y).takes x (imageAt l x).ifVer))

/-- The checks that the boot loader and the FSP make of one image that they load (R313, R332). -/
def imageOk (m : List Host.Cell) (variant slot t : Nat) : Bool :=
  bundleHdrOk m slot && imgHdrOk m slot t && imgVariantOk m variant slot t && (imgBadBlock m slot t).isNone && imgSigned m slot t

/-- The checks of R332 in order: UPD_CMD.RESULT of the first failure with the image TYPE and the block, none if verified. -/
def bundleFault (m : List Host.Cell) (variant slot : Nat) : Option (Nat × Nat × Nat) :=
  let first (ok : Nat → Bool) : Option Nat := (List.range 4).find? (fun t => !ok t)
  if !bundleHdrOk m slot then some (4, 0, 0)
  else match first (imgHdrOk m slot) with
  | some t => some (4, t, 0)
  | none => match first (imgVariantOk m variant slot) with
  | some t => some (7, t, 0)
  | none => match first (fun t => (imgBadBlock m slot t).isNone) with
  | some t => some (5, t, (imgBadBlock m slot t).getD 0)
  | none => match first (imgSigned m slot) with
  | some t => some (6, t, 0)
  | none => match bundleClash (readImages m slot) with
  | some t => some (8, t, 0)
  | none => none

/-- Live-compatible (R333): every new and every running image accept each other, each TYPE its own included. -/
def liveOk (new running : List Image) : Bool :=
  (List.range 4).all (fun t => (List.range 4).all (fun u =>
    (imageAt new t).takes u (imageAt running u).ifVer && (imageAt running u).takes t (imageAt new t).ifVer))

/-! ## Configuration images (R320, R321) -/

/-- Where a configuration slot begins; its size is 4 MiB. -/
def cfgBase (slot : Nat) : Nat := 0x3100000 + slot * 0x400000

/-- A record: TYPE, CRITICAL, payload, and its place in the image. -/
structure CfgRec where
  type     : Nat
  critical : Bool
  payload  : List Byte
  pos      : Nat
  deriving DecidableEq, Repr

/-- The records of the bytes that follow the header, from index `i` at place `pos` on (check 3): END last; or the index of
the first record that does not lie within the image or whose CRC is wrong. -/
def parseRecs : Nat → Nat → Nat → List Byte → List CfgRec × Option Nat
  | 0, i, _, _ => ([], some i)
  | fuel + 1, i, pos, b =>
    let n := leNat (slice b 4 4)
    if b.length < 12 + n || n % 4 != 0 || leNat (slice b (8 + n) 4) != crc32c (b.take (8 + n)) then ([], some i)
    else
      let r : CfgRec := ⟨leNat (slice b 0 2), byteAt b 2 % 2 == 1, slice b 8 n, pos⟩
      let rest := b.drop (12 + n)
      if r.type = 0xFF then ([r], if rest.isEmpty then none else some i)
      else
        let (rs, bad) := parseRecs fuel (i + 1) (pos + 12 + n) rest
        (r :: rs, bad)

/-- A block of BAR0 as a target (R352, R320): its first offset, its end, and 0 Firn, 1 fast, 2 forbidden. -/
def blockAt (a : Nat) : Option (Nat × Nat × Nat) :=
  if a < 0x1000 then some (0, 0x1000, 0)
  else if a < 0x2000 then some (0x1000, 0x2000, 2)
  else if a < 0x3000 then some (0x2000, 0x3000, 2)
  else if a < 0x4000 then some (0x3000, 0x4000, 0)
  else if a < 0x8000 then some (0x4000, 0x8000, 0)
  else if a < 0xC000 then some (0x8000, 0xC000, 1)
  else if a < 0x10000 then some (0xC000, 0x10000, 2)
  else if a < 0x20000 then some (0x10000, 0x20000, 0)
  else if 0x100000 ≤ a && a < 0x200000 then some (a / 0x8000 * 0x8000, a / 0x8000 * 0x8000 + 0x8000, 1)
  else if 0x400000 ≤ a && a < 0x800000 then some (0x400000, 0x800000, 1)
  else if 0x800000 ≤ a && a < 0x1000000 then some (0x800000, 0x1000000, 1)
  else none

/-- The size of an indirect space (R352); none for 0x9 to 0xF. -/
def spaceSize : Nat → Option Nat
  | 0 => some 0x1000
  | 1 => some 0x1000
  | 2 => some 0x1000
  | 3 => some 0x1000
  | 4 => some 0x4000
  | 5 => some 0xC000
  | 6 => some 0x80000
  | 7 => some 0x70000
  | 8 => some 0x4000000
  | _ => none

/-- The 32-bit numbers of a payload. -/
def wordList : Nat → List Byte → List Nat
  | 0, _ => []
  | fuel + 1, b => if b.length < 4 then [] else leNat (b.take 4) :: wordList fuel (b.drop 4)
def CfgRec.words (r : CfgRec) : List Nat := wordList r.payload.length r.payload

/-- Consecutive pairs. -/
def pairsOf : List Nat → List (Nat × Nat)
  | a :: b :: rest => (a, b) :: pairsOf rest
  | _ => []

/-- What a record writes (R320): a BAR0 offset or an indirect address with its value, an FDB entry, a PTP instance. -/
inductive CfgOp where
  | bar0 (addr : Nat) (v : Word)
  | ind (space addr : Nat) (v : Word)
  | fdb (key : Nat × Nat) (data mask : Nat)
  | ptp (payload : List Byte)
  deriving DecidableEq, Repr

/-- Groups of four. -/
def fdbOps : List Nat → List CfgOp
  | a :: b :: c :: e :: rest => .fdb (a, b) c e :: fdbOps rest
  | _ => []

/-- The operations of a record, in order. -/
def CfgRec.ops (r : CfgRec) : List CfgOp :=
  let w := r.words
  match r.type with
  | 0x10 => (pairsOf (w.drop 1)).map (fun (e : Nat × Nat) => .bar0 (w.getD 0 0 + e.1) (BitVec.ofNat 32 e.2))
  | 0x11 => (w.drop 2).mapIdx (fun i v => .ind (w.getD 0 0) (w.getD 1 0 + 4 * i) (BitVec.ofNat 32 v))
  | 0x12 => (List.range (w.getD 2 0)).map (fun i =>
      let a := w.getD 1 0 + 4 * i
      let v := BitVec.ofNat 32 (w.getD 3 0)
      if w.getD 0 0 = 0xFFFFFFFF then .bar0 a v else .ind (w.getD 0 0) a v)
  | 0x20 => fdbOps w
  | 0x21 => [.ptp r.payload]
  | _ => []

/-- Whether an operation is of a fast record (R320). -/
def CfgOp.isFast : CfgOp → Bool
  | .bar0 a _ => match blockAt a with | some (_, _, k) => k == 1 | none => false
  | .ind sp _ _ => sp == 6
  | .fdb _ _ _ => true
  | .ptp _ => true

/-- The words from `a` on lie in the block of `b`, which is no forbidden target; GLB_RESET and GLB_CFG_CMD are forbidden. -/
def inBlock (b a n : Nat) : Bool :=
  match blockAt b with
  | some (lo, hi, k) => k != 2 && decide (lo ≤ a ∧ a + 4 * n ≤ hi) &&
      !(decide (a < 0x1C) && decide (0x14 < a + 4 * n))
  | none => false

/-- The words from `a` on lie in an indirect space that is no forbidden target. -/
def inSpace (sp a n : Nat) : Bool :=
  match spaceSize sp with
  | some size => decide (sp ≤ 6) && decide (a + 4 * n ≤ size)
  | none => false

/-- Check 6 for one record: no forbidden target, nothing beyond its block or space, and no unknown TYPE with CRITICAL. -/
def knownTypes : List Nat := [0x01, 0x02, 0x10, 0x11, 0x12, 0x20, 0x21, 0xE0, 0xF0, 0xFF]
def CfgRec.ok (r : CfgRec) : Bool :=
  let w := r.words
  match r.type with
  | 0x10 => inBlock (w.getD 0 0) (w.getD 0 0) 0 && (pairsOf (w.drop 1)).all (fun (e : Nat × Nat) => inBlock (w.getD 0 0) (w.getD 0 0 + e.1) 1)
  | 0x11 => inSpace (w.getD 0 0) (w.getD 1 0) (w.length - 2)
  | 0x12 => if w.getD 0 0 = 0xFFFFFFFF then inBlock (w.getD 1 0) (w.getD 1 0) (w.getD 2 0) else inSpace (w.getD 0 0) (w.getD 1 0) (w.getD 2 0)
  | t => knownTypes.contains t || !r.critical

/-- The answer of R321: the result (1 accepted), the index of the failing record, the records skipped, IMAGE_ID, and the
records. -/
structure CfgCheck where
  result  : Nat
  failRec : Option Nat
  skipped : Nat
  imageId : Nat
  recs    : List CfgRec
  deriving DecidableEq, Repr

/-- BOOT_POLICY.FAST_START of an image. -/
def CfgCheck.fastStart (c : CfgCheck) : Bool := c.recs.any (fun r => r.type == 2 && bitAt (r.words.getD 0 0) 0)

/-- The operations of the Firn or of the fast records, in image order. -/
def CfgCheck.ops (c : CfgCheck) (fast : Bool) : List CfgOp := (c.recs.flatMap CfgRec.ops).filter (fun o => o.isFast == fast)

/-- IDENT's interface ranges, FSP, TBP, CP and SMC in that order, against the images by TYPE (check 5). -/
def identTakes (r : CfgRec) (ifs : List Image) : Bool :=
  [0, 1, 3, 2].zipIdx.all (fun (e : Nat × Nat) =>
    let v := (imageAt ifs e.1).ifVer
    decide (leNat (slice r.payload (4 + 4 * e.2) 2) ≤ v ∧ v ≤ leNat (slice r.payload (6 + 4 * e.2) 2)))

/-- Check 7: a SIGNATURE record is the one before END and verifies over every byte before it, IMAGE_CRC taken as zero. -/
def sigHolds (b : List Byte) (recs : List CfgRec) (i : Nat) (r : CfgRec) : Bool :=
  let key := r.words.getD 0 4
  i + 2 == recs.length && decide (key ≤ 3) && decide (100 ≤ r.payload.length) &&
    Config.signatureOk 1 key ((splice b 60 [0, 0, 0, 0]).take r.pos) (slice r.payload 4 96)

/-- The checks of R321 on a slot, in order, with the images against whose interface versions check 5 is judged. -/
def checkCfg (m : List Host.Cell) (variant : Nat) (ifs : List Image) (slot : Nat) : CfgCheck :=
  let a := cfgBase slot
  let len := flashNat m (a + 8) 4
  let fail (r : Nat) (i : Option Nat) : CfgCheck := ⟨r, i, 0, 0, []⟩
  if flashNat m a 4 != 0x47464358 || flashNat m (a + 4) 1 != 1 || flashNat m (a + 6) 2 != 64 || 0x400000 < len || len < 64 then
    fail 4 none
  else
    let b := flashBytes m a len
    if leNat (slice b 60 4) != crc32c (b.take 60 ++ b.drop 64) then fail 5 none
    else
      let (recs, bad) := parseRecs (len / 12 + 1) 0 64 (b.drop 64)
      match bad with
      | some i => fail 6 (some i)
      | none =>
        if leNat (slice b 12 4) != recs.length then fail 6 (some (recs.length - 1))
        else match recs.head? with
        | none => fail 7 none
        | some ident =>
          if ident.type != 1 || !bitAt (ident.words.getD 0 0) variant then fail 7 none
          else if !identTakes ident ifs then fail 8 none
          else match recs.findIdx? (fun r => !r.ok) with
          | some i => fail 6 (some i)
          | none =>
            let sig := recs.findIdx? (fun r => r.type == 0xF0)
            let good : CfgCheck := ⟨1, none, (recs.filter (fun r => !knownTypes.contains r.type)).length, leNat (slice b 16 4), recs⟩
            match sig with
            | none => if Config.sigRequired then fail 10 none else good
            | some i => if sigHolds b recs i (recs.getD i ident) then good else fail 9 (some i)

/-! ## Settings records (R327, R328) -/

/-- The settings area: 24,576 places of 256 bytes in 96 sectors. -/
def setAddr (place : Nat) : Nat := 0x3900000 + 256 * place

/-- The places that are not erased. -/
def setUsed (m : List Host.Cell) : List Nat :=
  ((m.filter (fun (c : Host.Cell) => 0x3900000 ≤ c.1 && c.1 < 0x3F00000)).map (fun (c : Host.Cell) => (c.1 - 0x3900000) / 256)).dedup

/-- SEQ of a place that holds a valid record, by CRC; torn records are ignored. -/
def setSeqOf (m : List Host.Cell) (place : Nat) : Option Nat :=
  if crcHolds m (setAddr place) 252 then some (flashNat m (setAddr place + 4) 4) else none

/-- The place and SEQ of the valid record with the highest SEQ. -/
def setNewest (m : List Host.Cell) : Option (Nat × Nat) :=
  (setUsed m).foldl (fun best i =>
    match setSeqOf m i, best with
    | none, _ => best
    | some q, none => some (i, q)
    | some q, some (_, q') => if q' < q then some (i, q) else best) none

/-- The next free place from one on. -/
def freePlace (used : List Nat) : Nat → Nat → Option Nat
  | 0, _ => none
  | fuel + 1, i => if used.contains i then freePlace used fuel ((i + 1) % 24576) else some i

/-- The highest SEQ in a sector of the area, zero where it holds no valid record. -/
def setSectorSeq (m : List Host.Cell) (used : List Nat) (sector : Nat) : Nat :=
  ((used.filter (fun i => i / 256 == sector)).filterMap (fun i => setSeqOf m i)).foldl max 0

/-- The sector to be erased when the area is full: the one whose newest record is the oldest. -/
def setOldest (m : List Host.Cell) (used : List Nat) : Nat :=
  let l := (List.range 96).map (fun s => (setSectorSeq m used s, s))
  (l.foldl (fun (best : Nat × Nat) e => if e.1 < best.1 then e else best) (l.headD (0, 0))).2

/-- Appends a record to the settings area. -/
def setAppend (m : List Host.Cell) (r : List Byte) : List Host.Cell :=
  let used := setUsed m
  let start := match setNewest m with | some (i, _) => (i + 1) % 24576 | none => 0
  match freePlace used 24576 start with
  | some i => flashWrite m (setAddr i) r
  | none =>
    let i := 256 * setOldest m used
    flashWrite (flashErase m (setAddr i) 0x10000) (setAddr i) r

/-- A record from its 252 bytes. -/
def setSeal (b : List Byte) : List Byte := b.take 252 ++ leBytes 4 (crc32c (b.take 252))

/-! ## Refresh journal (R329) -/

/-- The place of the journal entry for a sector: its contents, then address, CRC-32C and a done mark; a sector of that place
itself is journalled in another. -/
def journalAt (sector : Nat) : Nat := if 0x3F0 ≤ sector ∧ sector < 0x3F2 then 0x3F20000 else 0x3F00000

/-- Refreshes a sector of 64 KiB: journal entry, erase and rewrite, done mark. -/
def refreshSector (m : List Host.Cell) (sector : Nat) : List Host.Cell :=
  let b := flashBytes m (sector * 0x10000) 0x10000
  let j := journalAt sector
  let m := flashWrite (flashErase m j 0x20000) j (b ++ leBytes 4 (sector * 0x10000) ++ leBytes 4 (crc32c b))
  let m := flashWrite (flashErase m (sector * 0x10000) 0x10000) (sector * 0x10000) b
  flashWrite m (j + 0x10008) [0, 0, 0, 0]

/-- A journal entry that is not marked done, whose sector fails its CRC: the sector restored from it. -/
def restoreFrom (m : List Host.Cell) (j : Nat) : Option (List Host.Cell) :=
  let a := flashNat m (j + 0x10000) 4
  let crc := flashNat m (j + 0x10004) 4
  if flashNat m (j + 0x10008) 4 == 0 || 0x4000000 ≤ a || a % 0x10000 != 0 then none
  else
    let b := flashBytes m j 0x10000
    if crc32c b != crc || crc32c (flashBytes m a 0x10000) == crc then none
    else some (flashWrite (flashErase m a 0x10000) a b)

/-- The places of journal entries. -/
def journalPlaces : List Nat := [0x3F00000, 0x3F20000]

/-- What the boot loader restores at start-up, entry by entry, and whether it has restored a sector. -/
def restoreAll (m : List Host.Cell) : List Host.Cell × Bool :=
  journalPlaces.foldl (fun (e : List Host.Cell × Bool) j =>
    match restoreFrom e.1 j with
    | some m' => (m', true)
    | none => e) (m, false)

/-- Sectors that a refresh covers: every one but those of the settings area. -/
def refreshList : List Nat := (List.range 1024).filter (fun s => !(0x390 ≤ s && s < 0x3F0))

end Sys2Proof.Machine
end

