-- ==== Sys2Proof/Machine/Twin.lean ====
section
/-! DEFINITION. The twin timebases (04_twin_timebases.md, R89 to R110): roles, heartbeat, freeze, replay of the mirror,
takeover and handover, and the commands that name them. -/

namespace Sys2Proof.Machine

/-- A freeze is in progress (TB_HB_STAT.FROZEN). -/
def Dev.frozen (d : Dev) : Bool := d.flag F.TB_HB_STAT_FROZEN

/-- A timebase is SUSPECT. -/
def Dev.suspect (d : Dev) : Option TbId := if d.role .a = 7 then some .a else if d.role .b = 7 then some .b else none

/-- Steps 2 to 7 of a live update or of a live fallback run (R340). -/
def Dev.updating (d : Dev) : Bool := d.sys.updStep != 0

/-- The timebase that TB_TWIN_CFG.PIN_TB names, and whether the role is pinned away from the active one's giving it up
(R108). -/
def Dev.pinnedTb (d : Dev) : TbId := if d.inForceFlag F.TB_TWIN_CFG_PIN_TB then .b else .a
def Dev.pinHolds (d : Dev) : Bool := d.inForceFlag F.TB_TWIN_CFG_PIN && d.twin.active == some d.pinnedTb

/-- TB_RETIRED holds while a timebase is RETIRED, TB_STANDBY_NOT_READY ends when a standby is READY, and PINNED_TB_LOST
when the pinned timebase is ACTIVE (04_twin_timebases.md, "Twin-timebase alarms"). -/
def Dev.twinAlarms (d : Dev) : Dev :=
  let d := d.cond .tbRetired (d.role .a == 6 || d.role .b == 6)
  let d := if d.role .a = 4 || d.role .b = 4 then
      (d.cond .tbStandbyNotReady false).onTwin (fun t => { t with notReadyMs := 0 }) else d
  d.when (d.alarmOn .pinnedTbLost && d.role d.pinnedTb == 5) (fun d => d.cond .pinnedTbLost false)

/-- A timebase becomes a standby in ALIGNING or WARMING: its counter is not yet loaded. DESIGN CHOICE: the DCO words that R60
averages are kept, so that a span can hold words from before the time out of service. -/
def Dev.placeStandby (d : Dev) (t : TbId) (r : Nat) : Dev :=
  let d := (d.setRole t r).onTb t (fun b => { b with running := false })
  (d.onTwin (fun w => { w with in100Ms := 0, in20Ms := 0, xs := [], verified := false, verFails := 0 })).twinAlarms

/-- A warm or a DISABLED standby enters ALIGNING (R91). -/
def Dev.alignStandby (d : Dev) (t : TbId) : Dev := d.placeStandby t 2

/-- A RETIRED timebase returns to ALIGNING, or to WARMING while its OCXO is not declared warm (R91). DEDUCED: its TBP restarts
(R378); a DISABLED one that STANDBY_ON returns has not stopped. -/
def Dev.returnStandby (d : Dev) (t : TbId) : Dev :=
  (d.restartParty (4 + t.num)).placeStandby t (if (d.tb t).warm then 2 else 1)

/-- Stops the revertive timer (R107). -/
def Dev.stopRevert (d : Dev) : Dev :=
  ((d.onTwin (fun t => { t with revMs := none, revDue := false })).set F.TB_ROLE_REV_LEFT 0 0).set F.TB_ROLE_REV_LEFT 0 1

/-- A handover that no SWITCH asked for (R107, R108, R338) is dropped when the standby leaves READY before the update boundary:
the timer, the pin or the live update starts another. DESIGN CHOICE: an accepted SWITCH stays pending until a standby is READY. -/
def Dev.dropReturn (d : Dev) : Dev :=
  let ready := match d.standby with | some o => d.role o == 4 | none => false
  d.when (d.twin.handover.isSome && !ready && !d.flag F.TB_TWIN_CMD_SWITCH) (fun d => d.onTwin (fun t => { t with handover := none }))

/-- The revertive timer runs while REVERTIVE is 1, Timebase B is ACTIVE, Timebase A is READY and no handover is under way,
and starts again each time A enters READY (R107). -/
def Dev.judgeRevert (d : Dev) : Dev :=
  let d := d.dropReturn
  if d.inForceFlag F.TB_TWIN_CFG_REVERTIVE && d.twin.active == some .b && d.role .a == 4 && d.twin.handover.isNone then
    match d.twin.revMs with
    | some _ => d
    | none =>
      let left := d.inForce F.TB_TWIN_CFG_REV_WTR
      ((d.onTwin (fun t => { t with revMs := some 0 })).set F.TB_ROLE_REV_LEFT left 0).set F.TB_ROLE_REV_LEFT left 1
  else d.stopRevert

/-- A TB_TCMD command waits in the active timebase's space: 0 none, 1 ACCEPT_JUMP, 2 TIME_SET. -/
def Dev.tcmdWaiting (d : Dev) : Nat :=
  match d.twin.active with
  | none => 0
  | some t =>
    if d.flag F.TB_TCMD_ACCEPT_JUMP t.num then 1 else if d.flag F.TB_TCMD_TIME_SET t.num then 2 else 0

/-- Ends the command that waits in a space with a result. -/
def Dev.endTcmd (d : Dev) (t : TbId) (r : Nat) : Dev :=
  ((d.set F.TB_TCMD_ACCEPT_JUMP 0 t.num).set F.TB_TCMD_TIME_SET 0 t.num).set F.TB_TCMD_RESULT r t.num

/-- Ends the waiting command of the active timebase with a result, which is mirrored state. -/
def Dev.tcmdDone (d : Dev) (r : Nat) : Dev :=
  match d.twin.active with
  | none => d
  | some t => (d.endTcmd t r).mirrorBy (fun m => { m with tcmdResult := r })

/-- A command that another trigger precedes is refused with SUPERSEDED (R35). -/
def Dev.supersede (d : Dev) : Dev := if d.tcmdWaiting = 0 then d else d.tcmdDone 6

/-- A command left in the space of a timebase that is not ACTIVE any more has no effect (R49, R102): NOT_ACTIVE. -/
def Dev.dropTcmd (d : Dev) (t : TbId) : Dev :=
  if d.flag F.TB_TCMD_ACCEPT_JUMP t.num || d.flag F.TB_TCMD_TIME_SET t.num then d.endTcmd t 5 else d

/-- A timebase is taken out of service as failed (R19): its role, the log, TB_RETIRED. -/
def Dev.retireTb (d : Dev) (t : TbId) : Dev :=
  let d := (((d.setRole t 6).onTb t (fun b => { b with running := false })).dropTcmd t)
  (d.logAdd 0x01 1 7 t.num).twinAlarms.judgeRevert

/-- Sets LINE_OK, MEM_OK or FROZEN with EVENT. -/
def Dev.hbFlag (d : Dev) (f : Fld) (b : Bool) : Dev := d.setMark f (bitNat b) F.TB_HB_STAT_EVENT

/-- The state of R10: the fast domain stops, lanes idle, outputs go high-impedance, time becomes UNSET and TB_NONE
holds. A waiting command is superseded (R35). -/
def Dev.leaveService (d : Dev) : Dev :=
  let d := d.supersede.onTwin (fun t => { t with active := none, relocking := false, handover := none, scratch := none })
  let d := (d.onRsel (fun r => { r with follows := none, awaitEdge := false })).setState .unset
  let d := d.cond .tbNone true
  (d.hbFlag F.TB_HB_STAT_FROZEN false).noTimebase.stopRevert

/-- Tells the change of the TIO pins that were driven while a timebase was ACTIVE (R10). -/
def Dev.tellPinsOff (d old : Dev) : Dev :=
  d.each (old.tioList.filter (fun c => old.tioPin c != .hiZ)) (fun d c => d.emit (.tioPin c old.now .hiZ))

/-- The module enters the state of R10. -/
def Dev.enterNone (d : Dev) : Dev := d.leaveService.tellPinsOff d

/-- The mirrored state as the other timebase takes it over: the integrator and f0 are translated by the OCXO-to-OCXO
offset that the standby loop has measured (04_twin_timebases.md, "Mirrored and unmirrored state"). -/
def translate (m : Mirrored) (off : Int) : Mirrored :=
  { m with integ := m.integ + off, hold := { m.hold with f0 := m.hold.f0 + off } }

/-- A stored measurement re-based to the new judging OCXO (R73): by the offset between the two OCXOs; that of ID 36, the
standby OCXO against the judging one, changes its sign with their places. -/
def Cand.rebased (c : Cand) (id : Nat) (off : Int) : Cand :=
  { c with gates := c.gates.map (fun g => if id = 36 then -g else g + off), freqAtSel := c.freqAtSel + off }

/-- RSEL re-bases every stored measurement, and shows it (R73). `off` is the OCXO-to-OCXO offset in 2^-48. -/
def Dev.rebase (d : Dev) (off : Int) : Dev :=
  let freq := divFree (off * 10 ^ 14) (2 ^ 48)
  let d := { d with cands := d.cands.map (fun (e : Nat × Cand) => (e.1, e.2.rebased e.1 freq)) }
  d.each (d.cands.map Prod.fst) (fun d i => d.when (!(d.cand i).gates.isEmpty) (·.showMean i))

/-- The role ACTIVE passes from one timebase to the other: the time bus, the re-based monitors; a command left in the old
active's space has no effect. `off` is the OCXO-to-OCXO offset that the standby loop has measured. -/
def Dev.passRole (d : Dev) (o : TbId) (off : Int) : Dev :=
  let d := (d.onTwin (fun t => { t with active := some o, in100Ms := 0, in20Ms := 0, xs := [], verFails := 0 })).rebase off
  d.dropTcmd o.other

/-- The role ACTIVE passes with the mirrored state, which the new active translates and shows the last TB_TCMD result of. -/
def Dev.passActive (d : Dev) (o : TbId) (m : Mirrored) : Dev :=
  let off := Config.ocxoOffsetWord d.freeCtr
  let d := (d.spendFree.passRole o off).mirror (translate m off)
  d.set F.TB_TCMD_RESULT d.mir.tcmdResult o.num

/-- Writes TB_TAKEOVER (04_twin_timebases.md): cause, the timebase that gave up the role, gap and replay. -/
def Dev.setTakeover (d : Dev) (cause : Nat) (fromTb : TbId) (lost trunc : Bool) (gap replayed : Nat) : Dev :=
  (((((d.set F.TB_TAKEOVER_CAUSE cause).set F.TB_TAKEOVER_FROM_TB fromTb.num).setB F.TB_TAKEOVER_MIRROR_LOST lost).setB
    F.TB_TAKEOVER_TRUNCATED trunc).set F.TB_TAKEOVER_GAP_US (min gap 255)).set F.TB_TAKEOVER_REPLAYED replayed

/-! ## Heartbeat and freeze -/

/-- The freeze begins at the first interval in which both paths miss together (R95): the active becomes SUSPECT and a
standby in TRACKING or READY ACTIVE, the standby's counter drives the time bus and its loop holds its word, the
synthesizers hold their words, and the mirror is replayed into a scratch copy. A handover that has not written its final
checkpoint is superseded (R106). -/
def Dev.beginFreeze (d : Dev) : Dev :=
  match d.twin.active with
  | none => d
  | some t =>
    let o := t.other
    let ready := d.role o == 3 || d.role o == 4
    let d := if d.flag F.TB_TWIN_CMD_SWITCH then (d.set F.TB_TWIN_CMD_RESULT 8).set F.TB_TWIN_CMD_SWITCH 0 else d
    let d := d.onTwin (fun w => { w with handover := none, preFreeze := d.role o, scratch := none, mirrorBad := false })
    let d := d.hbFlag F.TB_HB_STAT_FROZEN true
    let d := if ready then (((d.setRole t 7).setRole o 5).onTwin (fun w => { w with active := some o })).stopRevert else d
    d.freezeClocks

/-- Ends a freeze before failure is declared (R96): the roles and the time bus return, the scratch copy is discarded. -/
def Dev.endShortFreeze (d : Dev) : Dev :=
  let d := match d.suspect with
    | some t => ((d.setRole t 5).setRole t.other d.twin.preFreeze).onTwin (fun w => { w with active := some t })
    | none => d
  let d := (d.hbFlag F.TB_HB_STAT_FROZEN false).onTwin (fun w => { w with scratch := none, mirrorBad := false })
  ((d.raise .tbFreezeShort).countDev 257).thawClocks.twinAlarms.judgeRevert

/-- HEARTBEAT_EMIT (R93): the TBP that holds itself for the active one checks its DCO and counter and beats on both paths,
in a freeze too; a failed check stops both heartbeats. -/
def Dev.heartbeatEmit (d : Dev) (selfCheckOk : Bool) : Dev :=
  match d.twin.active with
  | none => d
  | some _ =>
    if d.twin.beatsOff then d
    else if selfCheckOk then d.onTwin (fun w => { w with heartLine := !w.heartLine, memCount := w.memCount + 1 })
    else d.onTwin (fun w => { w with beatsOff := true })

/-- HEARTBEAT_RECEIVED (R94): a beat resets the misses of its path; before failure is declared it ends a freeze
(R96), and during the gap after it the beats of the new active only count. -/
def Dev.heartbeatReceived (d : Dev) (path : HbPath) : Dev :=
  if !d.anyActive then d
  else
    let d := match path with
      | .line => ((d.set F.TB_HB_STAT_LINE_MISS 0).hbFlag F.TB_HB_STAT_LINE_OK true).cond .tbPathLine false
      | .mem => ((d.set F.TB_HB_STAT_MEM_MISS 0).hbFlag F.TB_HB_STAT_MEM_OK true).cond .tbPathMem false
    let d := d.when (!d.twin.relocking) (fun d => d.onTwin (fun w => { w with lastBeat := d.now }))
    d.when (d.frozen && !d.twin.relocking) Dev.endShortFreeze

/-- HEARTBEAT_MISS (R94, R95): misses are counted to at most 7; four on one path while the other beats raise its path
alarm; the first interval in which both paths miss begins the freeze. From a handover's final checkpoint until the next servo
update the check is suspended (R106). -/
def Dev.heartbeatMiss (d : Dev) (line mem : Bool) : Dev :=
  if !d.anyActive || d.twin.relocking || d.twin.finalCp then d
  else
    let l := if line then min 7 (d.get F.TB_HB_STAT_LINE_MISS + 1) else d.get F.TB_HB_STAT_LINE_MISS
    let m := if mem then min 7 (d.get F.TB_HB_STAT_MEM_MISS + 1) else d.get F.TB_HB_STAT_MEM_MISS
    let d := (d.set F.TB_HB_STAT_LINE_MISS l).set F.TB_HB_STAT_MEM_MISS m
    let d := if line then d.hbFlag F.TB_HB_STAT_LINE_OK false else d
    let d := if mem then d.hbFlag F.TB_HB_STAT_MEM_OK false else d
    let d := d.when (4 ≤ l && m == 0) (fun d => d.cond .tbPathLine true)
    let d := d.when (4 ≤ m && l == 0) (fun d => d.cond .tbPathMem true)
    d.when (line && mem && !d.frozen) Dev.beginFreeze

/-! ## Replay and takeover -/

/-- The mirrored state that a replay makes from a checkpoint and the journal entries that follow it (R100): entries are
applied in sequence order to the first missing one; how many were applied, and how many were left. -/
def replay (c : Checkpoint) (journal : List JournalEntry) : Mirrored × Nat × Nat :=
  let rec go (m : Mirrored) (want n : Nat) : List JournalEntry → Mirrored × Nat × Nat
    | [] => (m, n, 0)
    | e :: es => if e.seq = want then go e.post (want + 1) (n + 1) es else (m, n, es.length + 1)
  go c.post c.upTo 0 (journal.filter (fun e => c.upTo ≤ e.seq))

/-- MIRROR_REPLAY_DONE (R100): the newest checkpoint that passes its check and the entries that follow it, `good` of
which precede the first missing or damaged one; entries after it are discarded with TB_JOURNAL_TRUNC and counted; without a
checkpoint that passes, the mirror is lost (R101). -/
def Dev.mirrorReplayDone (d : Dev) (cp0Ok cp1Ok : Bool) (good : Nat) : Dev :=
  if !d.frozen || d.twin.relocking then d
  else
    let ok := (d.twin.bufs.zip [cp0Ok, cp1Ok]).filter Prod.snd
    match ok with
    | [] => d.onTwin (fun w => { w with scratch := none, mirrorBad := true })
    | (c, _) :: _ =>
      let after := d.twin.journal.filter (fun e => c.upTo ≤ e.seq)
      let (m, n, left) := replay c (after.take good)
      let gone := left + (after.length - good)
      let d := d.onTwin (fun w => { w with scratch := some (m, n, gone), mirrorBad := false })
      d.when (gone != 0) (fun d => (d.raise .tbJournalTrunc).countDev 258 gone)

/-- The last synthesizer locked at the start of the freeze has declared lock: the gap ends (R103), and TB_TAKEOVER shows
its length. DESIGN CHOICE: the misses of both paths, which belong to the old active, end with the gap. -/
def Dev.endFreeze (d : Dev) : Dev :=
  if !d.frozen || !d.twin.relocking then d
  else
    let gap := (d.now - d.twin.lastBeat) / (1000 * 65536)
    let d := (d.hbFlag F.TB_HB_STAT_FROZEN false).onTwin (fun w => { w with relocking := false })
    ((d.set F.TB_TAKEOVER_GAP_US (min gap 255)).set F.TB_HB_STAT_LINE_MISS 0).set F.TB_HB_STAT_MEM_MISS 0

/-- The freeze ends once no synthesizer that was locked at its start has still to declare lock (R103, R118). -/
def Dev.judgeRelock (d : Dev) : Dev :=
  if d.frozen && d.twin.relocking && !(List.range 10).any (fun i => (d.syn i).rejoins) then d.endFreeze.thawClocks else d

/-- Takes over without a mirror (R101): the time status word stands, the integrator is the present DCO word, the bandwidth the
target or the pull-in one. DESIGN CHOICE: f0 is the DCO word too, the dwells begin anew, and T0, e1, the last phase error, the
span after a leap and the result of TB_TCMD stand; the held offset, the slew, the UTC offset, e0 and the time since the entry
are free. -/
def Dev.takeUnmirrored (d : Dev) (o : TbId) : Dev :=
  let k := d.kindOf (d.get F.RSEL_SEL_SELECTED)
  let bw := if d.mir.state = .locked then d.targetBw k else pullInBw k
  let n := d.freeCtr
  let d := (d.passRole o (Config.ocxoOffsetWord n)).raise .tbMirrorLost
  let d := d.onMir (fun m => { m with
    integ := (d.tb o).dco, bwSq := bwSquare bw, narrowMs := 0, lockMs := 0, unlockMs := 0
    held := Config.freeNat n, slew := Config.freeNat (n + 1), utcOffset := Config.freeNat (n + 2)
    hold := { m.hold with f0 := (d.tb o).dco, e0 := Config.freeNat (n + 3), since := Config.freeNat (n + 4) } })
  { d with freeCtr := n + 5 }

/-- FAILURE_DECLARED (R97): both paths have reached four misses. The SUSPECT timebase is retired; a standby that was
TRACKING or READY commits its scratch copy and takes over, and in any other case the module enters the state of R10. DESIGN CHOICE: the new active begins with
an empty journal and writes a checkpoint at once. -/
def Dev.failureDeclared (d : Dev) : Dev :=
  if !d.frozen || d.get F.TB_HB_STAT_LINE_MISS < 4 || d.get F.TB_HB_STAT_MEM_MISS < 4 || d.twin.relocking then d
  else
    match d.suspect with
    | none =>
      match d.twin.active with
      | some t => ((d.raise .tbFailover).supersede.retireTb t).enterNone
      | none => d
    | some t =>
      let o := t.other
      let d := (d.retireTb t).raise .tbFailover
      let (m, n, left) := match d.twin.scratch with
        | some r => r
        | none => (d.mir, 0, 0)
      let lost := d.twin.mirrorBad
      let d := if lost then d.takeUnmirrored o else d.passActive o m
      let gap := (d.now - d.twin.lastBeat) / (1000 * 65536)
      let d := (d.setTakeover 1 t lost (left != 0 && !lost) gap (if lost then 0 else n)).countDev 256
      let d := d.when (d.inForceFlag F.TB_TWIN_CFG_PIN && d.pinnedTb == t) (fun d => d.cond .pinnedTbLost true)
      let d := d.onTwin (fun w => { w with
        relocking := true, scratch := none, mirrorBad := false, beatsOff := false
        bufs := [], journal := [], verified := false })
      d.takeCheckpoint.judgeRelock

/-! ## Handover (R104 to R108) -/

/-- The TBP image of a timebase. -/
def Dev.tbpImage (d : Dev) : TbId → Image
  | .a => imageAt d.sys.images 1
  | .b => d.sys.tbpB.getD (imageAt d.sys.images 1)

/-- The TBP image of the standby accepts the interface version of the active one's checkpoints (R104, R331). -/
def Dev.ifTakes (d : Dev) : Bool :=
  match d.twin.active with
  | some t => (d.tbpImage t.other).takes 1 (d.tbpImage t).ifVer
  | none => false

/-- |x| has stayed within HANDOVER_WIN at every servo update of the last second (R104). -/
def Dev.winHeld (d : Dev) : Bool :=
  1000 ≤ d.twin.xs.length && d.twin.xs.all (fun x => withinPs x (d.inForce F.TB_TWIN_CFG_HANDOVER_WIN))

/-- Whether a handover may start (R104). -/
def Dev.handoverOk (d : Dev) : Bool :=
  (match d.standby with | some o => d.role o == 4 | none => false) && d.winHeld && d.ifTakes &&
  d.suspect.isNone && !d.frozen

/-- HANDOVER (R105): at the servo update boundary the final checkpoint is written and loaded, the clock tree and the time
bus switch, and the former active enters TRACKING and steers towards the new one from its present word. DESIGN CHOICE: R104 is
not judged again here: a SWITCH that has lost its READY standby waits for the next one. -/
def Dev.handover (d : Dev) : Dev :=
  match d.twin.handover, d.twin.active with
  | some cause, some t =>
    if d.frozen || d.role t.other != 4 then d
    else
      let o := t.other
      let d := d.takeCheckpoint
      let d := (((d.setRole o 5).setRole t 3).passActive o d.mir).onTb t (fun b => { b with loopInteg := b.dco })
      let d := (d.setTakeover cause t false false 0 0).countDev 259
      let d := d.when (d.flag F.TB_TWIN_CMD_SWITCH) (fun d => (d.set F.TB_TWIN_CMD_SWITCH 0).set F.TB_TWIN_CMD_RESULT 1)
      let d := d.onTwin (fun w => { w with
        handover := none, finalCp := true, beatsOff := false, x := -w.x, updMoved := w.updMoved || d.sys.updStep == 5 })
      d.stopRevert.twinAlarms.judgeRevert
  | _, _ => d

/-- PIN_HANDOVER (R108), the due revertive return (R107) and step 5 of a live update (R338): a handover is started once
R104 holds, never away from the pinned timebase. -/
def Dev.judgePinRevert (d : Dev) : Dev :=
  if d.twin.handover.isSome || !d.anyActive || d.pinHolds || !d.handoverOk then d
  else if d.sys.updStep = 5 then d.onTwin (fun w => { w with handover := some 2 })
  else d.when (d.inForceFlag F.TB_TWIN_CFG_PIN || d.twin.revDue) (fun d => d.onTwin (fun w => { w with handover := some 3 }))

/-- REVERTIVE_TIMER_EXPIRED (R107): the module hands over to A, or does so at the first servo update at which R104
holds. -/
def Dev.revertExpired (d : Dev) : Dev :=
  if d.twin.revMs.isNone then d
  else
    let d := ((d.onTwin (fun t => { t with revDue := true })).set F.TB_ROLE_REV_LEFT 0 0).set F.TB_ROLE_REV_LEFT 0 1
    d.judgePinRevert

/-- Reports the result of a TB_TWIN_CMD command. -/
def Dev.twinResult (d : Dev) (r : Nat) : Dev := d.set F.TB_TWIN_CMD_RESULT r

/-- TB_TWIN_CMD is busy: a handover, a freeze, or steps 2 to 7 of a live update (R340). -/
def Dev.twinBusy (d : Dev) : Bool := d.frozen || d.twin.handover.isSome || d.updating

/-- TWIN_SWITCH (R104, R108): refusals in the order BUSY, PINNED, NO_STANDBY, NOT_READY, INCOMPATIBLE; an accepted one
waits for the servo update boundary and ends the revertive timer. -/
def Dev.twinSwitch (d : Dev) : Dev :=
  if d.twinBusy then d.twinResult 6
  else if d.inForceFlag F.TB_TWIN_CFG_PIN then d.twinResult 5
  else if d.liveStandby.isNone then d.twinResult 3
  else if !d.winHeld || (match d.standby with | some o => d.role o != 4 | none => true) then d.twinResult 2
  else if !d.ifTakes then d.twinResult 4
  else ((d.set F.TB_TWIN_CMD_SWITCH 1).onTwin (fun w => { w with handover := some 2 })).stopRevert

/-- STANDBY_OFF (R109): takes only the standby out of service. -/
def Dev.standbyOff (d : Dev) : Dev :=
  if d.twinBusy then d.twinResult 6
  else match d.liveStandby with
    | none => d.twinResult 3
    | some o =>
      ((d.setRole o 0).onTb o (fun b => { b with running := false })).twinAlarms.judgeRevert.twinResult 1

/-- STANDBY_ON (R109): returns a DISABLED standby to ALIGNING; refused for a RETIRED one; without effect otherwise. DESIGN
CHOICE: while no timebase is ACTIVE none is a standby, RETIRED ones included, and the result is NO_STANDBY. -/
def Dev.standbyOn (d : Dev) : Dev :=
  if d.twinBusy then d.twinResult 6
  else match d.standby with
    | none => d.twinResult 3
    | some o =>
      if d.role o = 6 then d.twinResult 7
      else if d.role o = 0 then (d.alignStandby o).twinResult 1
      else d.twinResult 1

/-! ## Standby roles (R91) -/

/-- The measured difference x, which places the standby's counter. -/
def Dev.setX (d : Dev) (x : Int) : Dev :=
  let d := d.onTwin (fun w => { w with x := x })
  match d.standby with
  | some o => if (d.tb o).running then d.onTb o (fun b => { b with counter := shiftTicks d.now x }) else d
  | none => d

/-- STANDBY_COUNTER_LOAD (R91): at a whole second a standby in ALIGNING loads its counter from the active one. -/
def Dev.standbyLoad (d : Dev) (x : Int) : Dev :=
  match d.standby with
  | some o =>
    if d.role o = 2 && !d.frozen then
      (d.onTb o (fun b => { b with running := true, counter := shiftTicks d.now x, loopInteg := b.dco })).setX x
    else d
  | none => d

/-- STANDBY_ENTERS_TRACKING (R91): |x| ≤ 100 ps for 1 s. -/
def Dev.standbyTracking (d : Dev) (x : Int) : Dev :=
  match d.standby with
  | some o =>
    if d.role o = 2 && (d.tb o).running && withinPs x 100 && !d.frozen then
      ((d.setX x).setRole o 3).onTwin (fun w => { w with in20Ms := 0 })
    else d
  | none => d

/-- STANDBY_ENTERS_READY (R91): |x| ≤ 20 ps for 1 s and the latest checkpoint verified. -/
def Dev.standbyReady (d : Dev) (x : Int) : Dev :=
  match d.standby with
  | some o =>
    if d.role o = 3 && withinPs x 20 && d.twin.verified && !d.frozen then
      ((d.setX x).setRole o 4).twinAlarms.judgeRevert
    else d
  | none => d

/-- STANDBY_TRACK_LOST (R91): beyond 1 ns the standby returns to ALIGNING, beyond 20 ps, or after two checkpoints that
fail verification, from READY to TRACKING. -/
def Dev.standbyLost (d : Dev) (x : Int) : Dev :=
  match d.standby with
  | some o =>
    let d := if d.frozen then d else d.setX x
    if d.frozen then d
    else if (d.role o = 3 || d.role o = 4) && !withinPs x 1000 then (d.setRole o 2).judgeRevert
    else if d.role o = 4 && (!withinPs x 20 || 2 ≤ d.twin.verFails) then (d.setRole o 3).judgeRevert
    else d
  | none => d

/-- STANDBY_FAULT (R91): an uncorrectable error in the standby, or the FSP's watchdog of its TBP, which restarts that TBP
(R318, R378), retires it. -/
def Dev.standbyFault (d : Dev) (watchdog : Bool) : Dev :=
  match d.liveStandby with
  | some o => (if watchdog then (d.countDev 292).restartParty (4 + o.num) else d.memError 7 true).retireTb o
  | none => d

/-- STANDBY_NOT_READY_TIMEOUT (R92): more than 1 s without a READY standby, from both OCXOs warm on. -/
def Dev.standbyNotReady (d : Dev) : Dev :=
  d.when (d.anyActive && d.tbA.warm && d.tbB.warm && d.role .a != 4 && d.role .b != 4)
    (fun d => d.cond .tbStandbyNotReady true)

/-- CHECKPOINT_WRITE (R98): the active TBP writes a checkpoint and the standby verifies it. -/
def Dev.checkpoint (d : Dev) (verified : Bool) : Dev :=
  if !d.anyActive || (d.frozen && !d.twin.relocking) then d
  else
    let d := d.writeCheckpoint.when d.liveStandby.isSome (·.verify verified)
    match d.standby with
    | some o => if d.role o = 4 && 2 ≤ d.twin.verFails then (d.setRole o 3).judgeRevert else d
    | none => d

/-! ## Meanings -/

/-- HEARTBEAT_EMIT. -/
def execHeartbeatEmit (ok : Bool) (s : State) : Host.Outcome State Fault Refusal := .next (s.onDev (·.heartbeatEmit ok))
/-- HEARTBEAT_RECEIVED. -/
def execHeartbeatReceived (p : HbPath) (s : State) : Host.Outcome State Fault Refusal :=
  .next (s.onDev (·.heartbeatReceived p))
/-- HEARTBEAT_MISS. -/
def execHeartbeatMiss (l m : Bool) (s : State) : Host.Outcome State Fault Refusal := .next (s.onDev (·.heartbeatMiss l m))
/-- MIRROR_REPLAY_DONE. -/
def execMirrorReplayDone (a b : Bool) (n : Nat) (s : State) : Host.Outcome State Fault Refusal :=
  .next (s.onDev (·.mirrorReplayDone a b n))
/-- FAILURE_DECLARED. -/
def execFailureDeclared (s : State) : Host.Outcome State Fault Refusal := .next (s.onDev Dev.failureDeclared)
/-- CHECKPOINT_WRITE. -/
def execCheckpointWrite (v : Bool) (s : State) : Host.Outcome State Fault Refusal := .next (s.onDev (·.checkpoint v))
/-- TWIN_SWITCH. -/
def execTwinSwitch (s : State) : Host.Outcome State Fault Refusal := .next (s.onDev (·.reach Dev.twinSwitch))
/-- HANDOVER. -/
def execHandover (s : State) : Host.Outcome State Fault Refusal := .next (s.onDev Dev.handover)
/-- REVERTIVE_TIMER_EXPIRED. -/
def execRevertiveTimerExpired (s : State) : Host.Outcome State Fault Refusal := .next (s.onDev Dev.revertExpired)
/-- STANDBY_OFF. -/
def execStandbyOff (s : State) : Host.Outcome State Fault Refusal := .next (s.onDev (·.reach Dev.standbyOff))
/-- STANDBY_ON. -/
def execStandbyOn (s : State) : Host.Outcome State Fault Refusal := .next (s.onDev (·.reach Dev.standbyOn))
/-- STANDBY_COUNTER_LOAD. -/
def execStandbyCounterLoad (x : Int) (s : State) : Host.Outcome State Fault Refusal := .next (s.onDev (·.standbyLoad x))
/-- STANDBY_ENTERS_TRACKING. -/
def execStandbyEntersTracking (x : Int) (s : State) : Host.Outcome State Fault Refusal :=
  .next (s.onDev (·.standbyTracking x))
/-- STANDBY_ENTERS_READY. -/
def execStandbyEntersReady (x : Int) (s : State) : Host.Outcome State Fault Refusal := .next (s.onDev (·.standbyReady x))
/-- STANDBY_TRACK_LOST. -/
def execStandbyTrackLost (x : Int) (s : State) : Host.Outcome State Fault Refusal := .next (s.onDev (·.standbyLost x))
/-- STANDBY_FAULT. -/
def execStandbyFault (w : Bool) (s : State) : Host.Outcome State Fault Refusal := .next (s.onDev (·.standbyFault w))
/-- STANDBY_NOT_READY_TIMEOUT. -/
def execStandbyNotReadyTimeout (s : State) : Host.Outcome State Fault Refusal := .next (s.onDev Dev.standbyNotReady)

end Sys2Proof.Machine
end

