-- ==== Sys2Proof/Machine/Servo.lean ====
section
/-! DEFINITION. The servo update (R54) with the selector, the time status and the waiting TB_TCMD command, and the commands
of the references: edges, gates, TODIN messages, qualification (02_device_time.md, 03_timebases_references.md). -/

namespace Sys2Proof.Machine

/-- The servo of the active timebase runs: a timebase is ACTIVE, and no freeze holds its word (R95, R102). DESIGN CHOICE: in a
freeze in which no role changes, neither servo updates nor checkpoints of the ACTIVE timebase run. -/
def Dev.servoRuns (d : Dev) : Bool := d.anyActive && (!d.frozen || d.twin.relocking)

/-! ## The selector at a servo update -/

/-- The movement of a timebase's OCXO since the selection of the selected reference as its learned model predicts it
(R74), in 10^-14: ageing over the time passed, and the temperature term. -/
def Dev.modelMove (d : Dev) (t : TbId) : Int :=
  let tb := d.tb t
  let temp := match t with | .a => d.rsel.selTempA | .b => d.rsel.selTempB
  let word := divFree (tb.ageing * d.rsel.selMs) 86400000 + divFree (tb.tempCo * (tb.temp - temp)) 1000
  divFree (word * 10 ^ 14) (2 ^ 48)

/-- DRIFT_WARN and REF_DRIFT of the selected reference (R74): its mean against its value at selection, less the movement
that a valid model predicts; it clears within 0.8 × DRIFT. -/
def Dev.judgeDrift (d : Dev) : Dev :=
  let sel := d.get F.RSEL_SEL_SELECTED
  if 36 ≤ sel then d
  else
    let c := d.cand sel
    let own := match d.twin.active with
      | some t => if d.flag F.TB_MODEL_STAT_VALID t.num then d.modelMove t else 0
      | none => 0
    let moved := (c.mean - c.freqAtSel - own).natAbs
    let lim := d.inForce F.RSEL_LIMITS_DRIFT * 100000
    let was := d.flag F.RSEL_CAND_STAT_DRIFT_WARN sel
    if moved > lim && !was then
      ((d.candFlag F.RSEL_CAND_STAT_DRIFT_WARN sel true).cond .refDrift true).countDev 262
    else if was && moved * 10 ≤ lim * 8 then
      (d.candFlag F.RSEL_CAND_STAT_DRIFT_WARN sel false).cond .refDrift false
    else d

/-- Time without being outvoted of the candidates that R82 has disqualified. -/
def Dev.outvoteClocks (d : Dev) : Dev :=
  let others (i : Nat) := (d.prioList.map Prod.fst).filter (fun j => j != i && d.qualified j && !d.agree j i)
  { d with cands := d.cands.map (fun (e : Nat × Cand) =>
      match e.2.notOutvoted with
      | none => e
      | some n =>
        let out := (others e.1).any (fun i => (others e.1).any (fun j => i != j && d.agree i j))
        (e.1, { e.2 with notOutvoted := some (if out then 0 else n + 1) })) }

/-- Lifts every bar where CLEAR_BARS has been written (R85, R88). -/
def Dev.liftBars (d : Dev) : Dev :=
  if d.flag F.RSEL_CMD_CLEAR_BARS then
    (d.each (List.range 36) (fun d i => d.candFlag F.RSEL_CAND_STAT_BARRED i false)).set F.RSEL_CMD_CLEAR_BARS 0
  else d

/-- The selector at a servo update (R54): bars lifted by command, votes and bars, a wait that R80 cancels, the procedure of
R78, and the decision between disagreeing references of equal rank. -/
def Dev.servoSelect (d : Dev) : Dev :=
  let d := d.liftBars.outvoteClocks.judgeOutvoted.judgeBars.cancelWtr
  let reached := d.flag F.RSEL_SEL_WTR_RUN && 1000 * d.inForce F.RSEL_CFG_WTR ≤ d.rsel.wtrMs
  let d := (d.runSelector reached).judgeConflict
  let d := if d.flag F.RSEL_SEL_WTR_RUN then d.onRsel (fun r => { r with wtrMs := r.wtrMs + 1 }) else d
  d.judgeDrift

/-! ## The waiting command (R429) -/

/-- Takes the waiting command (R429): NOT_ACTIVE, BAD_STATE, BAD_TIME, PENDING_WORK in that order, else the counter steps
(R42, R43). DESIGN CHOICE: only an ACCEPT_JUMP that steps the counter is 'taken' in the sense of R85; one that is refused lifts
no bar. An accepted one starts the loop anew on the reference, with the preset of R57. -/
def Dev.takeTcmd (d : Dev) (t : TbId) : Dev :=
  match d.tcmdWaiting with
  | 1 =>
    if d.suspect.isSome then d.tcmdDone 5
    else if d.mir.state ≠ .jumpHeld then d.tcmdDone 2
    else if ((d.tb t).counter : Int) + d.mir.held < 0 then d.tcmdDone 4
    else if d.pendingWork then d.tcmdDone 3
    else
      let d := d.stepCounter d.mir.held
      let d := d.each (List.range 36) (fun d i => d.candFlag F.RSEL_CAND_STAT_BARRED i false)
      let d := (d.setState .acquiring).startLoop t (d.get F.RSEL_SEL_SELECTED) true
      d.tcmdDone 1
  | 2 =>
    if d.suspect.isSome then d.tcmdDone 5
    else if d.mir.state ≠ .freerun then d.tcmdDone 2
    else
      match ticksOf (d.word .TB_TSET0 t.num) (d.word .TB_TSET1 t.num) (d.word .TB_TSET2 t.num) (d.word .TB_TSET3 t.num) with
      | none => d.tcmdDone 4
      | some target =>
        if d.pendingWork then d.tcmdDone 3
        else (d.stepCounter ((target : Int) - (d.tb t).counter)).tcmdDone 1
  | _ => d

/-! ## The time status at a servo update (R34, R35) -/

/-- Leaves off following: the holdover entry data are taken unless an entry is in force, and a FREQ reference that takes
the place suspends the model from now on (R428). DEDUCED: the phase error at entry is the last that was followed, so that of a
reference that jumps is not yet the jump. DESIGN CHOICE: the entry into JUMP_HELD from a FREQ reference is a new entry, priced
as R428 prices that of reference 36: with the FUNC of the FREQ reference that is left. -/
def Dev.leaveReference (d : Dev) (freq : Bool) : Dev :=
  let h := d.mir.hold
  let phase := d.mir.lastPhase.natAbs
  let new : HoldData :=
    if freq then
      { h with freq := true, sinceT1 := 0, e1 := if d.rsel.kindSel.timeCapable then phase else d.predicted h }
    else if h.freq then d.entryData (d.predicted h)
    else if h.entered then h
    else d.entryData phase
  (d.onRsel (fun r => { r with follows := none, kindSel := .own })).mirrorBy (fun m => { m with hold := new })

/-- Starts to follow a FREQ reference (R62): the prediction runs as e1 + FUNC × (t − t1). `preset` by R57. -/
def Dev.followFreq (d : Dev) (t : TbId) (id : Nat) (preset : Bool) : Dev := (d.leaveReference true).startLoop t id preset

/-- Follows nothing in UNSET: no prediction runs after a FREQ reference (R87). -/
def Dev.idleUnset (d : Dev) (awaits : Bool) : Dev :=
  (d.onRsel (fun r => { r with follows := none, kindSel := .own, awaitEdge := awaits })).mirrorBy (fun m => { m with
    hold := { m.hold with freq := false, e1 := 0, sinceT1 := 0 } })

/-- Enters JUMP_HELD (R40): the held offset stays readable and the event is counted. -/
def Dev.enterJumpHeld (d : Dev) (off : Int) : Dev :=
  let d := (d.leaveReference false).mirrorBy (fun m => { m with slewing := false, slew := 0 })
  ((d.setState .jumpHeld).mirrorBy (fun m => { m with held := off })).countDev 255

/-- Starts a slew (R41): STATE is ACQUIRING with SLEWING set. -/
def Dev.startSlew (d : Dev) (t : TbId) (id : Nat) (off : Int) : Dev :=
  let preset := d.mir.state == .holdover || d.mir.state == .jumpHeld || d.mir.state == .freerun
  let d := d.setState .acquiring
  let d := if d.rsel.follows = some id && !preset then d else d.startLoop t id preset
  d.mirrorBy (fun m => { m with slewing := true, slew := off, held := 0 })

/-- The evaluation of the time status at a servo update: the first trigger of R35 that occurs is applied; where a command
waits, its judgement is the last one applied, and the clocks of the windows run on. `off` is the offset of the selected
reference. DESIGN CHOICE: R35 ranks neither the return within the threshold (HOLDOVER, FREERUN or JUMP_HELD to ACQUIRING) nor
the setting of time from UNSET: a waiting command puts off the first, and in UNSET both are applied; a port reference selected
in UNSET before it has told any offset counts as offset 0; in JUMP_HELD a waiting command is taken before a change of POLICY to
SLEW; and a reference that JUMP_HELD has left counts as newly chosen when it is followed again, so that R57 presets the DCO
word. -/
def Dev.servoStatus (d : Dev) (t : TbId) (off : Int) : Dev :=
  let sel := d.get F.RSEL_SEL_SELECTED
  let k := d.kindOf sel
  let newSel := d.rsel.follows != some sel || d.rsel.kindSel != k
  let above := k.timeCapable && aboveNs off d.thresh
  let pull := d.rsel.kindSel == .own || d.rsel.kindSel == .freq
  match d.mir.state with
  | .unset =>
    let d := match k with
      | .ppsTod => if newSel then d.idleUnset true else d
      | .portL1 | .portPtp => d.setFromReference t sel (shiftTicks (d.tb t).counter off)
      | .freq => if newSel then d.followFreq t sel true else d
      | _ => d.idleUnset false
    d.takeTcmd t
  | .acquiring | .locked =>
    if !k.timeCapable then
      let kept := d.mir.state == .locked || d.mir.everLocked
      let d := if k = .freq then d.followFreq t sel pull else d.leaveReference false
      (d.setState (if kept then .holdover else .freerun)).supersede
    else if d.mir.slewing && !d.policySlew && above then (d.enterJumpHeld off).supersede
    else if above && (d.mir.state == .locked || d.mir.everLocked) && !d.mir.slewing then
      if d.policySlew then (d.startSlew t sel off).supersede else (d.enterJumpHeld off).supersede
    else
      let d := d.mirrorBy (fun m => { m with
        slewing := m.slewing && d.policySlew && !withinPs off (d.get F.TB_LOCK_CFG_LOCK_WIN)
        slew := if m.slewing then off else 0 })
      let waiting := d.tcmdWaiting != 0
      let d := d.takeTcmd t
      let win := d.get F.TB_LOCK_CFG_LOCK_WIN
      let d := if newSel then
          let d := if d.mir.state = .locked && !withinPs off win && !waiting then d.setState .acquiring else d
          d.startLoop t sel pull
        else d
      let m := d.mir
      if m.state = .acquiring then
        let good := withinPs off win && !m.slewing && d.bwInForce k m.bwSq ≤ bwSquare (d.targetBw k) &&
          (sel < 4 || d.parentLocked (sel - 4))
        let d := d.mirrorBy (fun m => { m with lockMs := if good then m.lockMs + 1 else 0 })
        if 1000 * d.get F.TB_LOCK_CFG_LOCK_DWELL ≤ d.mir.lockMs && !waiting then d.setState .locked else d
      else
        let bad := !withinPs off (win * d.get F.TB_LOCK_CFG_UNLOCK_MULT)
        let d := d.mirrorBy (fun m => { m with unlockMs := if bad then m.unlockMs + 1 else 0 })
        if 1000 ≤ d.mir.unlockMs && !waiting then d.setState .acquiring else d
  | .holdover | .freerun =>
    let limit := d.get F.TB_HOLD_LIMIT_LIMIT * 65536
    if above then
      if d.policySlew then (d.startSlew t sel off).supersede else (d.enterJumpHeld off).supersede
    else
      let waiting := d.tcmdWaiting != 0
      let d := d.takeTcmd t
      if k.timeCapable then
        if waiting then d else (d.setState .acquiring).startLoop t sel true
      else
        let d := if k = .freq && newSel then d.followFreq t sel true
          else if k = .own && d.mir.hold.freq then d.leaveReference false else d
        if d.mir.state = .holdover && !waiting && limit < d.predicted d.mir.hold then d.setState .freerun else d
  | .jumpHeld =>
    let limit := d.get F.TB_HOLD_LIMIT_LIMIT * 65536
    if !k.timeCapable then
      let d := if k = .freq then d.followFreq t sel true else d
      (d.setState .holdover).supersede
    else
      let waiting := d.tcmdWaiting != 0
      let d := (d.mirrorBy (fun m => { m with held := off })).takeTcmd t
      if waiting then d
      else if !above then (d.setState .acquiring).startLoop t sel true
      else if d.policySlew then d.startSlew t sel off
      else if limit < d.predicted d.mir.hold then d.setState .freerun else d

/-! ## Steering -/

/-- The DCO word of one update before the clamp, and the integrator (R54): the loop while a reference is followed, the
model in HOLDOVER, JUMP_HELD and FREERUN (R60), else the word as it was. A slew adds a frequency offset of a magnitude not
above MAX_SLEW until the offset is removed (R41). -/
def Dev.steer (d : Dev) (t : TbId) (phase : Int) : Int × Int :=
  let m := d.mir
  let k := d.kindOf (d.get F.RSEL_SEL_SELECTED)
  if d.rsel.follows.isSome then
    if m.slewing then
      let most : Int := (d.get F.TB_SLEW_CFG_MAX_SLEW * 2 ^ 48 / 10 ^ 9 : Nat)
      (m.integ + phase.sign * min most (phase.natAbs * 2 ^ 32 / 10 ^ 6 : Nat), m.integ)
    else
      let bw := d.bwInForce k m.bwSq
      let i := m.integ + integTerm bw phase
      (i + propTerm bw phase, i)
  else
    match m.state with
    | .holdover | .jumpHeld | .freerun => (d.modelWord t, m.integ)
    | _ => ((d.tb t).dco, m.integ)

/-- A DCO word is beyond the clamp (R53). -/
def beyondClamp (w : Int) : Bool := dcoClamp < w.natAbs

/-- The DCO word of a running timebase is held at the clamp. -/
def Dev.clamped (d : Dev) (t : TbId) : Bool := (d.tb t).running && d.flag F.TB_SERVO_STAT_DCO_CLAMPED t.num

/-- Gives a timebase its DCO word (R53): beyond the clamp the word is held there, DCO_LIMIT holds and the entry is counted.
The word joins those that R60 averages. -/
def Dev.giveDco (d : Dev) (t : TbId) (w : Int) : Dev :=
  let held := clampInt (-(dcoClamp : Int)) dcoClamp w
  let was := d.flag F.TB_SERVO_STAT_DCO_CLAMPED t.num
  let d := d.onTb t (fun b => { b with dco := held, dcoHist := (held :: b.dcoHist).take 271000 })
  let d := d.setB F.TB_SERVO_STAT_DCO_CLAMPED (beyondClamp w) t.num
  (d.cond .dcoLimit (d.clamped .a || d.clamped .b)).when (beyondClamp w && !was) (fun d => d.countDev 260)

/-- Steers the active timebase's DCO (R53, R54); beyond the clamp the integrator is frozen. -/
def Dev.steerDco (d : Dev) (t : TbId) (phase : Int) : Dev :=
  let (w, i) := d.steer t phase
  (d.mirrorBy (fun m => { m with integ := if beyondClamp w then m.integ else i })).giveDco t w

/-- Steers the DCO of a standby whose loop runs towards the active timebase's clock (R91): a second-order loop at 10 Hz on
the difference x, which it takes to zero. DESIGN CHOICE: it updates with the servo of the active timebase, every 1 ms. -/
def Dev.steerStandby (d : Dev) (o : TbId) : Dev :=
  let bw := bwSquare 10000
  let i := (d.tb o).loopInteg + integTerm bw (-d.twin.x)
  let w := i + propTerm bw (-d.twin.x)
  (d.onTb o (fun b => { b with loopInteg := if beyondClamp w then b.loopInteg else i })).giveDco o w

/-- Narrows the bandwidth by one step after a dwell within the window (R55), not while the parent of a port reference is
unlocked or the bandwidth is pinned; a bandwidth below a raised target widens to it (TB_SERVO_TGT). A pinned bandwidth is
the present one, from which the servo goes on when the pin is cleared (TB_SERVO_PIN). -/
def Dev.narrow (d : Dev) (t : TbId) (phase : Int) : Dev :=
  let sel := d.get F.RSEL_SEL_SELECTED
  let k := d.kindOf sel
  let tgt := bwSquare (d.targetBw k)
  let parent := 4 ≤ sel && sel < 36 && d.parentLocked (sel - 4)
  let d := d.setB F.TB_SERVO_STAT_PARENT_LOCKED parent t.num
  let m := d.mir
  if d.rsel.follows.isNone then d.setB F.TB_SERVO_STAT_NARROWING false t.num
  else
    let window := d.get F.TB_LOCK_CFG_LOCK_WIN * d.get F.TB_LOCK_CFG_UNLOCK_MULT
    let pinned := d.flag F.TB_SERVO_PIN_PIN
    let may := (sel < 4 || parent) && !pinned && tgt < m.bwSq
    let runs := may && withinPs phase window
    let ms := if runs then m.narrowMs + 1 else 0
    let step := runs && dwellDone k m.bwSq ms
    let bw := if pinned then d.bwInForce k m.bwSq else if m.bwSq < tgt then tgt else if step then max tgt (m.bwSq / 2) else m.bwSq
    (d.mirrorBy (fun m => { m with bwSq := bw, narrowMs := if step then 0 else ms })).setB F.TB_SERVO_STAT_NARROWING runs t.num

/-- Learns the oscillator model while the active timebase is LOCKED (R59), and reports the learning time. -/
def Dev.learn (d : Dev) (t : TbId) : Dev :=
  if d.mir.state ≠ .locked then d
  else
    let d := d.onTb t (fun b => { b with
      learnMs := b.learnMs + 1
      ageing := Config.learnedAgeing t.num (b.learnMs + 1)
      tempCo := Config.learnedTempCo t.num (b.learnMs + 1) })
    let h := (d.tb t).learnMs / 3600000
    ((d.set F.TB_MODEL_STAT_LEARN_H (min h 65535) t.num).setB F.TB_MODEL_STAT_VALID (4 ≤ h) t.num).setB
      F.TB_MODEL_STAT_DECIDES (24 ≤ h) t.num

/-- The clocks that a servo update advances by 1 ms: holdover prediction, the 24 h after a leap, the time since the
selection, the windows of x, the revertive timer. -/
def Dev.servoClocks (d : Dev) : Dev :=
  let d := d.mirrorBy (fun m => { m with
    hold := { m.hold with since := m.hold.since + bitNat m.hold.entered, sinceT1 := m.hold.sinceT1 + bitNat m.hold.freq }
    leapGuard := match m.leapGuard with
      | some (n + 1, w) => if n = 0 then none else some (n, w)
      | _ => none })
  let d := d.onRsel (fun r => { r with selMs := r.selMs + 1 })
  let x := d.twin.x
  let live := match d.liveStandby with | some o => (d.tb o).running | none => false
  let d := d.onTwin (fun w => { w with
    in100Ms := if live && withinPs x 100 then w.in100Ms + 1 else 0
    in20Ms := if live && withinPs x 20 then w.in20Ms + 1 else 0
    xs := if live then (x :: w.xs).take 1000 else [] })
  match d.twin.revMs with
  | none => d
  | some n =>
    let left := d.get F.TB_TWIN_CFG_REV_WTR - (n + 1) / 1000
    ((d.onTwin (fun w => { w with revMs := some (n + 1) })).set F.TB_ROLE_REV_LEFT left 0).set F.TB_ROLE_REV_LEFT left 1

/-- TB_SERVO_STAT of the active timebase's space. -/
def Dev.reportServo (d : Dev) (t : TbId) : Dev :=
  let k := d.kindOf (d.get F.RSEL_SEL_SELECTED)
  let bw := if d.rsel.follows.isSome then bwRoot (d.bwInForce k d.mir.bwSq) else 0
  (d.set F.TB_SERVO_STAT_BW_NOW bw t.num).set F.TB_SERVO_STAT_KIND k.num t.num

/-- The writes that wait for a servo update act (R50, R88, R110). -/
def Dev.applyWrites (d : Dev) : Dev :=
  { d with applied := d.regs.filter (fun (e : Nat × Word) => (keyReg e.1).atUpdate) }

/-- A TB_MODEL_CMD.RESTART that waits in a timebase's space is taken (R86): the model is discarded, seeded values included;
it is refused in HOLDOVER and JUMP_HELD. -/
def Dev.takeRestart (d : Dev) (t : TbId) : Dev :=
  if !d.flag F.TB_MODEL_CMD_RESTART t.num then d
  else
    let d := d.set F.TB_MODEL_CMD_RESTART 0 t.num
    if d.mir.state = .holdover || d.mir.state = .jumpHeld then d.set F.TB_MODEL_CMD_RESULT 2 t.num
    else
      let d := d.onTb t (fun b => { b with learnMs := 0, ageing := 0, tempCo := 0, seeded := false, savedH := 0 })
      (d.setWord .TB_MODEL_STAT t.num 0).set F.TB_MODEL_CMD_RESULT 1 t.num

/-- What a servo update does in the standby whose loop runs: its DCO is steered (R91), its model learns (R59). -/
def Dev.standbyUpdate (d : Dev) : Dev :=
  match d.liveStandby with
  | some o => if (d.tb o).running && 2 ≤ d.role o then (d.steerStandby o).learn o else d
  | none => d

/-- What an update reads before its evaluations: the written registers, both oscillators' temperatures and the difference x. The
heartbeat check that a handover has suspended runs again (R106). -/
def Dev.beginUpdate (d : Dev) (inp : ServoIn) (t : TbId) : Dev :=
  let d := (d.onTb t (fun b => { b with temp := inp.temp })).onTb t.other (fun b => { b with temp := inp.standbyTemp })
  let d := if d.liveStandby.isSome then d.setX inp.standbyX else d
  (((d.applyWrites.takeRestart .a).takeRestart .b).onTwin (fun w => { w with finalCp := false })).servoClocks

/-- The nominal period of a FREQ format in 2^-16 ns / 10: 10, 25, 125 and 156.25 MHz. -/
def freqPeriod (fmt : Nat) : Nat :=
  65536 * (match fmt with | 2 => 1000 | 3 => 400 | 4 => 80 | _ => 64)

/-- The cycle phase of a FREQ input (R54) with the cable delay of the input taken off its edges (R66), in half a nominal period
to either side. -/
def Dev.freqPhase (d : Dev) (n : Nat) (measured : Int) : Int :=
  reduceHalf (measured + psTicks (d.inForce F.RSEL_REFIN_CFG_CABLE_DELAY n)) (freqPeriod (d.refinFmt n)) 10

/-- The phase error to a reference, its time less the active timebase's: a FREQ reference is measured at the update. -/
def Dev.phaseTo (d : Dev) (inp : ServoIn) (id : Nat) : Int :=
  if d.kindOf id = .freq then d.freqPhase id inp.freqPhase else if id < 36 then (d.cand id).offset else 0

/-- SERVO_UPDATE (R54): selector, time status with the waiting command, steering, and what the update keeps. -/
def Dev.servoUpdate (d : Dev) (inp : ServoIn) : Dev :=
  match d.twin.active with
  | none => d
  | some t =>
    if !d.servoRuns then d
    else
      let d := (d.beginUpdate inp t).servoSelect
      let sel := d.get F.RSEL_SEL_SELECTED
      let d := d.servoStatus t (d.phaseTo inp sel)
      let phase := d.phaseTo inp sel
      let d := if sel < 36 then d.mirrorBy (fun m => { m with lastPhase := phase }) else d
      let d := if d.mir.state = .acquiring || d.mir.state = .locked then d.takeUtc (d.sourceOf sel) else d
      let d := d.judgeTraceable.narrow t phase
      let d := ((d.steerDco t phase).learn t).standbyUpdate
      (d.reportServo t).judgePinRevert.judgeRevert

/-! ## Commands of 02_device_time.md -/

/-- A command written to TB_TCMD (R429): it waits for the next servo update; while one waits, the write is ignored; in
the standby's space, or while a timebase is SUSPECT, it is refused at once (R49, R102). -/
def Dev.writeTcmd (d : Dev) (t : TbId) (f : Fld) : Dev :=
  if d.suspect.isSome then d.set F.TB_TCMD_RESULT 5 t.num
  else if d.twin.active ≠ some t then d.set F.TB_TCMD_RESULT 5 t.num
  else if d.tcmdWaiting ≠ 0 then d.set F.TB_TCMD_IGNORED 1 t.num
  else (d.set f 1 t.num).set F.TB_TCMD_RESULT 7 t.num

/-- LEAP_SECOND_APPLY (R32): at the end of the last second of a UTC day with an indicator set, the offset moves by one
second and the indicator clears; old UTC data are then refused for 24 h or until the new offset is reported. -/
def Dev.leapApply (d : Dev) : Dev :=
  if d.mir.leap61 || d.mir.leap59 then
    let o := if d.mir.leap61 then d.mir.utcOffset + 1 else d.mir.utcOffset - 1
    d.mirrorBy (fun m => { m with utcOffset := o, leap61 := false, leap59 := false, leapGuard := some (86400000, o) })
  else d

/-! ## Commands of 03_timebases_references.md -/

/-- WTR_EXPIRED (R78): a running wait-to-restore has reached WTR. -/
def Dev.wtrExpired (d : Dev) : Dev :=
  if d.flag F.RSEL_SEL_WTR_RUN then (d.cancelWtr).runSelector true else d

/-- SKIP_WTR (R80): ends a running wait-to-restore at once, with the effect of reaching WTR. -/
def Dev.skipWtr (d : Dev) : Dev := if d.flag F.RSEL_SEL_WTR_RUN then d.cancelWtr.runSelector true else d

/-- CLEAR_BARS (R85, R88): the bit waits for the next servo update, which lifts every bar. -/
def Dev.clearBars (d : Dev) : Dev := d.set F.RSEL_CMD_CLEAR_BARS 1

/-- MODEL_RESTART (R86): the bit waits for the next servo update. -/
def Dev.modelRestart (d : Dev) (t : TbId) : Dev := d.set F.TB_MODEL_CMD_RESTART 1 t.num

/-- The offset of a PPS edge from the nearest whole second, in (−0.5 s, +0.5 s] (R54): the second's time less the
counter's. -/
def ppsOffset (edge : Int) : Int := wrapSecond (-edge)

/-- An edge time at a pin less the cable delay of its input, which every use of the edge starts from (R66). -/
def Dev.cableEdge (d : Dev) (n : Nat) (pin : Ticks) : Ticks :=
  shiftTicks pin (-(psTicks (d.inForce F.RSEL_REFIN_CFG_CABLE_DELAY n)))

/-- The time of a captured edge at its pin (R76, R205, R209): the sample-clock edge less the centre of the bin. DESIGN CHOICE:
before the first calibration the centre is that of a nominal bin of 2.5 ps. -/
def Dev.refinTime (d : Dev) (n : Nat) (e : RefinEdge) : Ticks :=
  tIn e.sample ((d.cand n).centres.getD e.bin.val (roundDiv (((2 * e.bin.val + 1) * 8192 : Nat) : Int) 100).toNat) 0 0

/-- REFIN_PPS_EDGE (R71, R66): an on-time edge of a 1 PPS input, its cable delay taken off. Within the window around a whole second after the last
accepted edge it is accepted; without a window grid it becomes the last edge, and the input is active when the next one
falls 1 s later; more than two edges within 1 s make the input inactive. An accepted edge is a phase sample, of a PPS_TOD
input with the whole seconds that its last accepted message told, and sets the counter where R69 awaits it. -/
def Dev.ppsEdge (d : Dev) (n : Nat) (pin : Ticks) : Dev :=
  if d.refinFmt n ≠ 1 || !d.anyActive || (d.cand n).retired then d
  else
    let c := d.cand n
    let edge := d.cableEdge n pin
    let recent := (edge :: c.recent).filter (fun t => edge < t + secUnit)
    let window := 10000 * nsUnit
    let active := d.flag F.RSEL_CAND_STAT_ACTIVE n
    let near (l : Ticks) : Bool :=
      let r := (edge - l + window) % secUnit
      r ≤ 2 * window && l + secUnit ≤ edge + window
    let d := d.onCand n (fun c => { c with recent := recent })
    if 3 ≤ recent.length then
      (d.when active (fun d => d.setActive n false)).onCand n (fun c => { c with lastEdge := none, misses := 0 })
    else
      match c.lastEdge with
      | none => d.onCand n (fun c => { c with lastEdge := some edge, misses := 0 })
      | some l =>
        if active && !near l then d
        else
          let first := !active && edge + window < l + secUnit || !active && l + secUnit + window < edge
          let d := d.onCand n (fun c => { c with lastEdge := some edge, misses := 0 })
          if first then d
          else
            let d := d.when (!active) (fun d => d.setActive n true)
            let tod := d.kindOf n == .ppsTod
            let off := ppsOffset edge + (if tod then (d.cand n).secOff * secUnit else 0)
            let d := d.onCand n (fun c => { c with offset := off, hasOffset := true })
            match d.twin.active, (d.cand n).lastSec with
            | some t, some s =>
              if d.rsel.awaitEdge && d.get F.RSEL_SEL_SELECTED == n && tod && d.mir.state == .unset then
                d.setFromReference t n (shiftTicks ((s + 1) * secUnit) ((d.now : Int) - edge))
              else d
            | _, _ => d

/-- PPS_WINDOW_CLOSE (R71): a window closes without an edge: one miss; at two in a row the input is inactive. -/
def Dev.ppsWindowClose (d : Dev) (n : Nat) : Dev :=
  if d.refinFmt n ≠ 1 || !d.flag F.RSEL_CAND_STAT_ACTIVE n then d
  else
    let d := (d.onCand n (fun c => { c with misses := c.misses + 1 })).countDev (212 + n)
    d.when (2 ≤ (d.cand n).misses) (fun d => (d.setActive n false).onCand n (fun c => { c with lastEdge := none }))

/-- FREQ_ACTIVITY_LOSS (R71): no edge of a FREQ input within 4 nominal periods. -/
def Dev.freqActivityLoss (d : Dev) (n : Nat) : Dev :=
  if d.kindOf n = .freq && d.flag F.RSEL_CAND_STAT_ACTIVE n then d.setActive n false else d

/-- TODIN_MESSAGE (R67 to R69): a message on a line paired with an input, while a timebase is ACTIVE. It is accepted when
its start bit, SYNC, CHECK, TYPE and SECONDS are right, and else discarded and counted; an accepted one is compared with the
counter's second at the last edge (R69), its UTC data are taken at once where its candidate is the selected reference (R31), and
with SOURCE_OK clear it disqualifies its candidate. -/
def Dev.todinMessage (d : Dev) (line : Nat) (b : List Byte) (delayUs : Nat) : Dev :=
  match (List.range 4).find? (fun n => d.refinFmt n == 1 && d.refinTod n == line + 1) with
  | none => d
  | some n =>
    if !d.anyActive then d
    else
      let sec := beNat (slice b 3 6)
      let ok := 10000 ≤ delayUs && delayUs ≤ 800000 && byteAt b 0 == 0xC7 && beNat (slice b 15 4) == crc32c (b.take 15) &&
        byteAt b 1 == 0x01 && b.length == 19 &&
        (match (d.cand n).lastSec with | none => true | some s => sec == s + 1)
      if !ok then (d.onCand n (fun c => { c with todCount := 0 })).countDev (216 + line)
      else
        let fl := byteAt b 11
        let data : SourceData := ⟨bitAt fl 4, signedOf (beNat (slice b 9 2)) 16, bitAt fl 0, bitAt fl 1, bitAt fl 2,
          bitAt fl 3, byteAt b 12, byteAt b 13⟩
        let d := d.onCand n (fun c => { c with
          lastSec := some sec, todCount := c.todCount + 1, todSeq := byteAt b 2, data := data
          secOff := match c.lastEdge with
            | some l => (sec : Int) - roundDiv l secUnit
            | none => c.secOff
          offset := match c.lastEdge with
            | some l => ((sec * secUnit : Nat) : Int) - l
            | none => c.offset })
        let d := d.when (d.get F.RSEL_SEL_SELECTED == n && (d.mir.state == .acquiring || d.mir.state == .locked)) (·.takeUtc data)
        d.when (!bitAt fl 5 && d.qualified n) (fun d => d.disqualify n 4)

/-- TODIN_LOSS (R68): three consecutive seconds without an accepted message disqualify a PPS_TOD candidate, and no two
messages are consecutive across them. -/
def Dev.todinLoss (d : Dev) (n : Nat) : Dev :=
  if d.kindOf n ≠ .ppsTod then d
  else
    let d := d.onCand n (fun c => { c with todCount := 0 })
    d.when (d.qualified n) (fun d => d.disqualify n 3)

/-- RSEL monitors a candidate's frequency: a configured input, an active port candidate, an OCXO (R64, "Monitoring and
qualification"). -/
def Dev.monitored (d : Dev) (id : Nat) : Bool :=
  if id < 4 then d.refinFmt id != 0 else if id < 36 then d.flag F.RSEL_CAND_STAT_ACTIVE id else true

/-- FREQ_GATE_END (R72): the measurement of a 1 s gate joins the 16 s mean; beyond the reject limit it disqualifies,
between the limits it restarts a running qualification, within them it advances it by a second. -/
def Dev.freqGateEnd (d : Dev) (id : Nat) (freq : Int) : Dev :=
  if (d.cand id).retired || !d.anyActive || !d.monitored id then d
  else
    let d := (d.onCand id (fun c => { c with gates := (freq :: c.gates).take 16 })).showMean id
    if id = 36 then d
    else
      let accept := d.inForce F.RSEL_LIMITS_ACCEPT * 10000000
      let reject := d.inForce F.RSEL_LIMITS_REJECT * 10000000
      let d := d.setB F.RSEL_CAND_STAT_IN_ACCEPT (freq.natAbs ≤ accept) id
      let d := d.when (d.kindOf id == .freq && !d.flag F.RSEL_CAND_STAT_ACTIVE id) (fun d => d.setActive id true)
      if reject < freq.natAbs then d.disqualify id 2
      else if d.qualified id || !d.flag F.RSEL_CAND_STAT_ACTIVE id then d.judgeDrift
      else if accept < freq.natAbs then d.restartQual id
      else
        let d := d.onCand id (fun c => { c with qualS := c.qualS + 1 })
        d.set F.RSEL_CAND_STAT_QUAL_LEFT (d.inForce F.RSEL_CFG_QUAL_TIME - (d.cand id).qualS) id

/-- CANDIDATE_QUALIFIED (R72): active and within the accept limit for QUAL_TIME without interruption; a PPS_TOD candidate
also needs two consecutive accepted messages (R68), an outvoted one QUAL_TIME without being outvoted (R82), and on
XM1624-S IDs 20 to 35 never qualify (R2). -/
def Dev.candidateQualified (d : Dev) (id : Nat) : Dev :=
  let c := d.cand id
  let q := d.inForce F.RSEL_CFG_QUAL_TIME
  let ok := id < 36 && !d.qualified id && !c.retired && d.flag F.RSEL_CAND_STAT_ACTIVE id && q ≤ c.qualS &&
    d.kindOf id != .own && (d.kindOf id != .ppsTod || 2 ≤ c.todCount) && !(d.small && 20 ≤ id) &&
    (match c.notOutvoted with | none => true | some n => 1000 * q ≤ n)
  if ok then
    ((d.candFlag F.RSEL_CAND_STAT_QUALIFIED id true).set F.RSEL_CAND_STAT_QUAL_LEFT 0 id).onCand id
      (fun c => { c with notOutvoted := none })
  else d

/-- REFIN_CFG_WRITE (R64, R65; DESIGN CHOICE: RSEL_CAND_FREQ shows the last mean until the next gate ends): a TODIN line already paired with another input keeps TOD; TOD is zero unless FMT is
1 PPS, and a change of FMT from 1 PPS frees the line; a change of FMT, TOD or EDGE disqualifies with CONFIG, and
qualification begins again. -/
def Dev.refinCfgWrite (d : Dev) (n : Nat) (v : Word) : Dev :=
  let old := d.word .RSEL_REFIN_CFG n
  let fmt := bitsOf v.toNat 0 3
  let tod := bitsOf v.toNat 4 2
  let taken := (List.range 4).any (fun m => m != n && (tod == 1 || tod == 2) && d.refinFmt m == 1 && d.refinTod m == tod)
  let tod' := if fmt ≠ 1 then 0 else if taken then bitsOf old.toNat 4 2 else tod
  let w := putBits (putBits (BitVec.ofNat 32 (v.toNat / 256 * 256)) 0 4 (bitsOf v.toNat 0 4)) 4 2 tod'
  let d := d.setWord .RSEL_REFIN_CFG n w
  if bitsOf old.toNat 0 6 = bitsOf w.toNat 0 6 then d
  else
    let d := (d.disqualify n 6).setB F.RSEL_CAND_STAT_ACTIVE false n
    let d := d.onCand n (fun c => { Cand.init with retired := c.retired, notOutvoted := c.notOutvoted, badTaps := c.badTaps, calRuns := c.calRuns, centres := c.centres })
    d.set F.RSEL_CAND_STAT_QUAL_LEFT 0 n

/-- MONITOR_ERROR (R76). -/
def Dev.monitorError (d : Dev) (id : Nat) : Dev := (d.memError 7 true).retireMonitor id 7

/-! ## Meanings -/

/-- SERVO_UPDATE. -/
def execServoUpdate (i : ServoIn) (s : State) : Host.Outcome State Fault Refusal := .next (s.onDev (·.servoUpdate i))
/-- WTR_EXPIRED. -/
def execWtrExpired (s : State) : Host.Outcome State Fault Refusal := .next (s.onDev Dev.wtrExpired)
/-- ACCEPT_JUMP. -/
def execAcceptJump (t : TbId) (s : State) : Host.Outcome State Fault Refusal :=
  .next (s.onDev (·.reach (·.writeTcmd t F.TB_TCMD_ACCEPT_JUMP)))
/-- TIME_SET. -/
def execTimeSet (t : TbId) (s : State) : Host.Outcome State Fault Refusal :=
  .next (s.onDev (·.reach (·.writeTcmd t F.TB_TCMD_TIME_SET)))
/-- LEAP_SECOND_APPLY. -/
def execLeapSecondApply (s : State) : Host.Outcome State Fault Refusal := .next (s.onDev Dev.leapApply)
/-- MODEL_RESTART. -/
def execModelRestart (t : TbId) (s : State) : Host.Outcome State Fault Refusal := .next (s.onDev (·.reach (·.modelRestart t)))
/-- REFIN_PPS_EDGE. -/
def execRefinPpsEdge (n : RefinId) (e : RefinEdge) (s : State) : Host.Outcome State Fault Refusal :=
  .next (s.onDev (fun d => d.ppsEdge n.val (d.refinTime n.val e)))
/-- PPS_WINDOW_CLOSE. -/
def execPpsWindowClose (n : RefinId) (s : State) : Host.Outcome State Fault Refusal := .next (s.onDev (·.ppsWindowClose n.val))
/-- FREQ_ACTIVITY_LOSS. -/
def execFreqActivityLoss (n : RefinId) (s : State) : Host.Outcome State Fault Refusal :=
  .next (s.onDev (·.freqActivityLoss n.val))
/-- TODIN_MESSAGE. -/
def execTodinMessage (l : Fin 2) (b : List Byte) (us : Nat) (s : State) : Host.Outcome State Fault Refusal :=
  .next (s.onDev (·.todinMessage l.val b us))
/-- TODIN_LOSS. -/
def execTodinLoss (n : RefinId) (s : State) : Host.Outcome State Fault Refusal := .next (s.onDev (·.todinLoss n.val))
/-- FREQ_GATE_END. -/
def execFreqGateEnd (i : CandId) (f : Int) (s : State) : Host.Outcome State Fault Refusal :=
  .next (s.onDev (·.freqGateEnd i.val f))
/-- CANDIDATE_QUALIFIED. -/
def execCandidateQualified (i : CandId) (s : State) : Host.Outcome State Fault Refusal :=
  .next (s.onDev (·.candidateQualified i.val))
/-- REFIN_CFG_WRITE. -/
def execRefinCfgWrite (n : RefinId) (v : Word) (s : State) : Host.Outcome State Fault Refusal :=
  .next (s.onDev (·.reach (·.refinCfgWrite n.val v)))
/-- SKIP_WTR. -/
def execSkipWtr (s : State) : Host.Outcome State Fault Refusal := .next (s.onDev (·.reach Dev.skipWtr))
/-- CLEAR_BARS. -/
def execClearBars (s : State) : Host.Outcome State Fault Refusal := .next (s.onDev (·.reach Dev.clearBars))
/-- MONITOR_ERROR. -/
def execMonitorError (e : MemErr (Fin 36)) (s : State) : Host.Outcome State Fault Refusal :=
  .next (s.onDev (·.memFails 7 e.kind (·.monitorError e.place.val)))

end Sys2Proof.Machine
end

