-- ==== Sys2Proof/Machine/Tio.lean ====
section
/-! DEFINITION. The commands of the time I/O channels (08_time_io.md): configuration, calibration, input edges,
measurements, outputs and the record FIFO. -/

namespace Sys2Proof.Machine

/-! ## Configuration and calibration -/

/-- A channel is an enabled input. -/
def Dev.tioInput (d : Dev) (c : Nat) : Bool := d.tioEn c && d.tioMode c != 5

/-- A calibration starts (R206): in the background of an enabled channel whose delay line is not retired. -/
def Dev.calStart (d : Dev) (c : Nat) : Dev :=
  if !d.tioEn c || d.flag F.TIO_STAT_TDC_RETIRED c then d else d.tioBit F.TIO_STAT_CAL_RUN true c

/-- The TIO sample synthesizer runs while at least one channel is enabled (R202). -/
def Dev.tioClock (d : Dev) : Dev :=
  if d.tioList.any (fun c => d.tioEn c) then (if (d.tioList.any (fun c => d.tioEn c && (d.tioCh c).live)) then d.startInternal 9 else d)
  else if (d.syn 9).runs then d.stopSyn 9 else d

/-- The bins of a calibration are uniform (R205): 640 of them, each from 1.0 ps to 4.0 ps of the sample period of 1600 ps,
over which the 2^20 sweep edges spread evenly, and together the whole period. -/
def calUniform (r : CalResult) : Bool :=
  r.bins.length == 640 && r.bins.sum == 2 ^ 20 && r.bins.all (fun n => decide (2 ^ 20 ≤ n * 1600) && decide (n * 1600 ≤ 4 * 2 ^ 20))

/-- The centres of the bins in 2^-16 ns, to the nearest (R205): half a bin above the sum of those before it. -/
def binCentres (before : Nat) : List Nat → List Nat
  | [] => []
  | n :: rest => (roundDiv ((2 * before + n : Nat) : Int) 20).toNat :: binCentres (before + n) rest

/-- BIN_MIN and BIN_MAX: the narrowest and the widest bin, in 0.1 ps. -/
def calBinMin (r : CalResult) : Nat := (divFree ((r.bins.foldl min (2 ^ 20) * 16000 : Nat) : Int) (2 ^ 20)).toNat
def calBinMax (r : CalResult) : Nat := (divFree ((r.bins.foldl max 0 * 16000 : Nat) : Int) (2 ^ 20)).toNat

/-- The physical taps that a calibration finds bad (R208): one that did not change state during a whole crossing, or whose
measured bin exceeds 8 ps of the sample period of 1600 ps. -/
def calBad (r : CalResult) : List Nat :=
  (List.range 768).filter (fun i => match r.taps[i]? with
    | some x => !x.changes || decide (8 * 2 ^ 20 < x.edges * 1600)
    | none => false)

/-- A write of TIO_CFG (R201, R222): ignored in full with CFG_REJ for a state never accepted; a change of EN, MODE or EDGE
ends what runs; an enable empties the FIFO and starts a calibration. -/
def Dev.writeTioCfg (d : Dev) (c : Nat) (v : Word) : Dev :=
  let en := F.TIO_CFG_EN.on v
  let mode := F.TIO_CFG_MODE.of v
  let edge := F.TIO_CFG_EDGE.of v
  if 6 ≤ mode || edge == 3 || (edge == 2 && mode != 0) || (mode != 5 && d.flag F.TIO_STAT_TDC_RETIRED c) then
    d.set F.TIO_STAT_CFG_REJ 1 c
  else
    d.pinAfter c (fun d =>
    let was := d.tioEn c
    let anew := en != was || mode ≠ d.tioMode c || edge ≠ d.get F.TIO_CFG_EDGE c
    let d := if was && anew then
        (((d.endMeas c 2).stopOutput c).onTio c (fun t => { t with meas := none })).tioBit F.TIO_STAT_ARMED false c
      else d
    let d := d.store .TIO_CFG c v
    let d := if en && !was then
        let d := d.onTio c (fun t => { t with
          fifo := [], loss := false, lastTime := 0, heldTo := none, lastAny := none, noEdge := false, centres := [], live := true })
        (d.set F.TIO_STAT_FIFO_LEVEL 0 c).calStart c
      else if !en then d.tioBit F.TIO_STAT_CAL_RUN false c
      else d
    let d := d.when anew (fun d => d.onTio c (fun t => { t with noEdgeUs := d.get F.TIO_TIMEOUT_TIMEOUT c }))
    (d.tioClock.refreshReady c).judgeStops)

/-- A write of TIO_OUT_CFG: INVERT and PARK move the pin at once (R222). -/
def Dev.writeTioOutCfg (d : Dev) (c : Nat) (v : Word) : Dev := d.pinAfter c (fun d => d.store .TIO_OUT_CFG c v)

/-- RECAL (R206): a calibration of an enabled channel runs, whether it is READY or not; RETIRED without a delay line, NOT_READY
of a channel that is not enabled. -/
def Dev.recal (d : Dev) (c : Nat) : Dev :=
  if d.flag F.TIO_STAT_TDC_RETIRED c then d.set F.TIO_CMD_RESULT 8 c
  else if !d.tioEn c then d.set F.TIO_CMD_RESULT 5 c
  else (d.calStart c).set F.TIO_CMD_RESULT 1 c

/-- A delay line is retired (R208): a measurement in progress ends RETIRED; logged, TIO_RETIRED. -/
def Dev.retireTdc (d : Dev) (c : Nat) : Dev :=
  let d := (d.tioBit F.TIO_STAT_TDC_RETIRED true c).logAdd 0x04 1 0 c
  ((d.endMeas c 4).tioAlarm).refreshReady c

/-- A calibration completes (R205, R207, R208): bad taps are retired, and the new table replaces the old one, or the delay
line is retired. -/
def Dev.calDone (d : Dev) (c : Nat) (r : CalResult) : Dev :=
  if !d.flag F.TIO_STAT_CAL_RUN c then d
  else
    let old := (d.tioCh c).badTaps
    let new := (calBad r).filter (fun t => !old.contains t)
    let d := d.onTio c (fun t => { t with badTaps := old ++ new })
    let d := d.each new (fun d _ => (d.devEvent true 0x121 c).retireOther 0x04 0 c)
    let d := d.set F.TIO_CAL_STAT_RETIRED_TAPS (min 1023 (d.get F.TIO_CAL_STAT_RETIRED_TAPS c + new.length)) c
    let d := d.tioBit F.TIO_STAT_CAL_RUN false c
    if calUniform r && old.length + new.length ≤ 128 then
      let d := d.onTio c (fun t => { t with centres := binCentres 0 r.bins })
      ((d.set F.TIO_CAL_STAT_BIN_MIN (calBinMin r) c).set F.TIO_CAL_STAT_BIN_MAX (calBinMax r) c).refreshReady c
    else d.retireTdc c

/-! ### The time-to-digital converters of the REFIN inputs, which obey R205 to R208 (R76) -/

/-- A calibration of a REFIN input that is on starts; RECAL is a command of a TIO channel. -/
def Dev.refinCalStart (d : Dev) (n : Nat) : Dev :=
  d.when (d.refinFmt n != 0 && !(d.cand n).retired) (fun d => d.onCand n (fun c => { c with calRuns := true }))

/-- A calibration of a REFIN input completes: bad taps are retired and counted, and the candidate stays in service, with a new
calibration table, as long as the bins are uniform. DEDUCED: without them its monitor is retired (R76, R208). -/
def Dev.refinCalDone (d : Dev) (n : Nat) (r : CalResult) : Dev :=
  if !(d.cand n).calRuns then d
  else
    let old := (d.cand n).badTaps
    let new := (calBad r).filter (fun t => !old.contains t)
    let d := d.onCand n (fun c => { c with badTaps := old ++ new, calRuns := false })
    let d := d.each new (fun d _ => d.retireOther 0x0B 0 n)
    if calUniform r && old.length + new.length ≤ 128 then d.onCand n (fun c => { c with centres := binCentres 0 r.bins })
    else d.retireMonitor n

/-! ## Edges (R203, R204, R209 to R213) -/

/-- An edge falls within the hold-off of a channel; within the dead time after the last detected transition. -/
def Dev.heldOff (d : Dev) (c : Nat) (t : Ticks) : Bool :=
  match (d.tioCh c).heldTo with
  | none => false
  | some h => decide (t < h)
def Dev.deadTime (d : Dev) (c : Nat) (t : Ticks) : Bool :=
  match (d.tioCh c).lastAny with
  | none => false
  | some l => decide ((t - l) * 10 < 32 * nsUnit)

/-- The polarity that a channel accepts now: in WIDTH mode the leading polarity, then its opposite. -/
def Dev.accepts (d : Dev) (c : Nat) (rising : Bool) : Bool :=
  let edge := d.get F.TIO_CFG_EDGE c
  let own := edge == 2 || rising == (edge == 0)
  if d.tioMode c = 4 then
    match (d.tioCh c).meas with
    | none => false
    | some m => if m.first.isNone then own else !own
  else own

/-- An accepted edge: the hold-off starts with HOLDOFF as it stands (in WIDTH mode at the trailing edge), and the edge is recorded, triggers, aligns
outputs, or is measured. -/
def Dev.acceptEdge (d : Dev) (c : Nat) (e : TioEdge) (frozen : Bool) : Dev :=
  let leading := d.tioMode c == 4 && (match (d.tioCh c).meas with | some m => m.first.isNone | none => true)
  let d := d.onTio c (fun t => { t with
    heldTo := if leading then t.heldTo else some (e.time + d.get F.TIO_HOLDOFF_HOLDOFF c * nsUnit)
    noEdge := false, noEdgeUs := d.get F.TIO_TIMEOUT_TIMEOUT c })
  if d.tioMode c = 0 then
    let d := d.tioRecord c 1 0 (polFlag e.rising + frozenFlag frozen) e.stamp 0 0
    (d.fireTriggers c e.time).alignToEdge c e.time
  else d.measEdge c e frozen

/-- A lost edge (R204): counted, the next record carries EDGE_LOST; a lost trailing edge ends a WIDTH measurement. -/
def Dev.loseEdge (d : Dev) (c : Nat) : Dev :=
  let d := (d.onTio c (fun t => { t with lostEdge := true })).countDev (96 + c)
  match (d.tioCh c).meas with
  | some m => if m.mode = 4 && m.first.isSome then d.endMeas c 5 else d
  | none => d

/-- A transition that the comparator of an input channel detects. -/
def Dev.tioEdgeIn (d : Dev) (c : Nat) (rising : Bool) (sample bin : Nat) : Dev :=
  if !d.tioInput c || !d.tioReady c then d
  else
    let t := tIn sample ((d.tioCh c).centres.getD bin 0) (Config.tioPinDelay c d.sys.dieTemp) (d.get F.TIO_DELAY_IN_EXT c)
    let e : TioEdge := ⟨t, rising, d.stamp t⟩
    let frozen := d.flag F.TB_HB_STAT_FROZEN
    let dead := d.deadTime c t
    let held := d.heldOff c t
    let wanted := d.accepts c rising
    let d := d.onTio c (fun x => { x with lastAny := some t })
    let d := if dead then d else d.stopEdge c e frozen
    if !wanted then d
    else if held then d.countDev (48 + c)
    else if dead then d.loseEdge c
    else d.acceptEdge c e frozen

/-- TIMEOUT passes without an accepted edge in TIMESTAMP mode (R210). -/
def Dev.noEdge (d : Dev) (c : Nat) : Dev :=
  if !d.tioEn c || d.tioMode c ≠ 0 || !d.tioReady c || (d.tioCh c).noEdgeUs = 0 || (d.tioCh c).noEdge then d
  else (d.tioRecord c 6 0 (frozenFlag (d.flag F.TB_HB_STAT_FROZEN)) (d.stamp d.now) 0 0).onTio c
    (fun t => { t with noEdge := true })

/-! ## Measurements -/

/-- A refusal of ARM or START: its result, and the channel's refusal counter (R217). -/
def Dev.tioRefuse (d : Dev) (c r : Nat) : Dev := (d.set F.TIO_CMD_RESULT r c).countDev c

/-- ARM (R211), judged in the order of its table. -/
def Dev.armTio (d : Dev) (c : Nat) : Dev :=
  let mode := d.tioMode c
  let stop := d.get F.TIO_MEAS_CFG_STOP_CH c
  if mode = 0 || mode = 5 then d.tioRefuse c 6
  else if mode = 1 && (stop == c || !d.tioTimestamps stop) then d.tioRefuse c 6
  else if d.flag F.TIO_STAT_TDC_RETIRED c then d.tioRefuse c 8
  else if !d.tioReady c then d.tioRefuse c 5
  else if (d.tioCh c).meas.isSome then d.tioRefuse c 4
  else if mode = 3 && max 1 (d.get F.TIO_TIMEOUT_TIMEOUT c) ≤ d.get F.TIO_GATE_GATE c then d.tioRefuse c 7
  else (d.tioArmed c true).set F.TIO_CMD_RESULT 1 c

/-! ## Outputs (R216 to R221) -/

/-- WIDTH is within R216 for the PERIOD and COUNT in place. -/
def Dev.widthOk (d : Dev) (c : Nat) : Bool :=
  let w := d.tioWidth c
  3200 ≤ w && (if d.get F.TIO_COUNT_COUNT c = 1 then w ≤ 2 ^ 48 - 1 else w + 3200 ≤ d.tioPeriod c)

/-- The first multiple of 1.6 ns at least 1 µs after now, in ps (R217). -/
def Dev.nowStart (d : Dev) : Nat :=
  let lead := d.now * 1000 + 1000000 * 65536
  let unit := 1600 * 65536
  (lead + unit - 1) / unit * 1600

/-- START (R217), judged in its order. -/
def Dev.startTio (d : Dev) (c : Nat) : Dev :=
  let src := d.get F.TIO_OUT_CFG_START_SRC c
  let trig := d.get F.TIO_OUT_CFG_TRIG_CH c
  let abs := src == 0 || src == 3
  let t0 := ticksOf (d.get F.TIO_T0_0_T0 c) (d.get F.TIO_T0_1_T0 c) (d.get F.TIO_T0_2_T0 c) (d.get F.TIO_T0_3_T0 c)
  if d.tioMode c ≠ 5 || (src == 2 && (trig == c || !d.tioTimestamps trig)) then d.tioRefuse c 6
  else if d.flag F.TIO_STAT_OUT_RETIRED c then d.tioRefuse c 8
  else if !d.tioReady c then d.tioRefuse c 5
  else if (d.tioCh c).sched.isSome || (d.tioCh c).trig.isSome then d.tioRefuse c 4
  else if !d.widthOk c then d.tioRefuse c 7
  else if abs && d.mir.state == .unset then d.tioRefuse c 3
  else
    let per := d.tioPeriod c
    let wid := d.tioWidth c
    let n := d.get F.TIO_COUNT_COUNT c
    let ext := d.get F.TIO_DELAY_OUT_EXT c
    if abs then
      match t0 with
      | none => d.tioRefuse c 7
      | some t =>
        if t < d.now + 10000 * nsUnit then d.tioRefuse c 2
        else (d.beginSched c ⟨psOf t, per, wid, n, 0, false, 0, c, true, ext⟩).set F.TIO_CMD_RESULT 1 c
    else if src = 1 then
      (d.beginSched c ⟨(d.nowStart : Int), per, wid, n, 0, false, 1, c, false, ext⟩).set F.TIO_CMD_RESULT 1 c
    else
      let g : TioTrig := ⟨trig, d.get F.TIO_TRIG_DELAY_DELAY c, d.flag F.TIO_OUT_CFG_REARM c, per, wid, n, ext⟩
      ((d.onTio c (fun t => { t with trig := some g })).tioBit F.TIO_STAT_TRIG_ARMED true c).set F.TIO_CMD_RESULT 1 c

/-- The next edge of a schedule in ps: rising, or falling after its rising edge. -/
def TioSched.next (s : TioSched) : Int := s.start + (s.sent * s.period : Nat) + (if s.high then (s.width : Int) else 0)

/-- The schedule's next edge leaves (R216): at the pin OUT_EXT before it is due at the carrier's reference point, and launched
d_out before it is at the pin. -/
def Dev.tioEdgeOut (d : Dev) (c : Nat) : Dev :=
  match (d.tioCh c).sched with
  | none => d
  | some s =>
    let fs : Int := (s.next - (s.ext : Int)) * 1000
    let pin := (roundDiv (fs * 65536) 1000000).toNat
    let launch := (roundDiv ((fs - Config.tioOutDelay c d.sys.dieTemp) * 65536) 1000000).toNat
    let d := d.emit (.tioEdge c pin launch ((!s.high) != d.flag F.TIO_OUT_CFG_INVERT c))
    if !s.high then d.onTio c (fun t => { t with sched := some { s with high := true } })
    else if s.count ≠ 0 && s.count ≤ s.sent + 1 then (d.onTio c (fun t => { t with sched := some { s with high := false } })).endSched c
    else d.onTio c (fun t => { t with sched := some { s with high := false, sent := s.sent + 1 } })

/-- Rising edges of a schedule that are due before an instant given in 2^-16 ps. -/
def TioSched.dueBefore (s : TioSched) (lim : Int) : Nat :=
  let span := lim - s.start * 65536
  if span ≤ 0 then 0 else ((span - 1) / ((s.period * 65536 : Nat) : Int)).toNat + 1

/-- The rising edges that a cancelled schedule makes in all (R220): those that have left the pin, and those due in less than
20 ns, which have been launched already. -/
def TioSched.keeps (s : TioSched) (now : Ticks) : Nat :=
  let n := s.dueBefore ((now * 1000 + 20000 * 65536 : Nat) : Int)
  max (s.sent + bitNat s.high) (if s.count = 0 then n else min n s.count)

/-- CANCEL (R220): the trigger ends; a pulse under way completes, and an edge due in less than 20 ns still leaves. -/
def Dev.cancelTio (d : Dev) (c : Nat) : Dev :=
  let d := if (d.tioCh c).trig.isSome then d.endTrig c else d
  let d := match (d.tioCh c).sched with
    | none => d
    | some s =>
      let n := s.keeps d.now
      if s.sent < n then d.onTio c (fun t => { t with sched := some { s with count := n } }) else d.endSched c
  d.set F.TIO_CMD_RESULT 1 c

/-- An uncorrectable error in the output engine (R221). -/
def Dev.outEngineFault (d : Dev) (c : Nat) : Dev :=
  if d.flag F.TIO_STAT_OUT_RETIRED c then d
  else
    d.pinAfter c (fun d =>
    let d := ((d.memError 7 true).tioBit F.TIO_STAT_OUT_RETIRED true c).logAdd 0x05 1 0 c
    (d.stopOutput c).tioAlarm)

/-! ## The record FIFO (R215) -/

/-- The eight words of a record. -/
def TioRec.words (r : TioRec) : List Word :=
  BitVec.ofNat 32 r.w0 :: wordsOf r.time ++
    [BitVec.ofNat 32 (twosOf r.result 64), BitVec.ofNat 32 (twosOf r.result 64 / 2 ^ 32), BitVec.ofNat 32 r.count]

/-- A read of TIO_REC_W0: the oldest record leaves and its words are latched; an empty FIFO answers EMPTY and clears the
latch. -/
def Dev.readRecord (d : Dev) (c : Nat) : Dev :=
  let put (d : Dev) (l : List Word) : Dev :=
    d.each (List.range 8) (fun d w => d.setWord .TIO_REC (c * 8 + w) (l.getD w 0))
  match (d.tioCh c).fifo with
  | [] => put d []
  | r :: rest => (put (d.onTio c (fun t => { t with fifo := rest })) r.words).set F.TIO_STAT_FIFO_LEVEL rest.length c

/-- An uncorrectable error in an entry (R215): the record is discarded, the entry retired, and the next record sets LOSS, the one
behind it in the FIFO or, where none is, the next to enter. -/
def Dev.fifoFault (d : Dev) (c i : Nat) : Dev :=
  let t := d.tioCh c
  if t.fifo.length ≤ i then d
  else
    let last := t.fifo.length = i + 1
    let d := d.onTio c (fun t => { t with
      fifo := (t.fifo.eraseIdx i).modify i (fun r => { r with flags := r.flags ||| 2 })
      loss := t.loss || last, badSlots := t.badSlots + 1 })
    let d := d.set F.TIO_STAT_FIFO_LEVEL (t.fifo.length - 1) c
    (d.memError 7 true).retireOther 0x06 0 c

/-! ## Meanings -/

/-- A register write or command of the host to a channel of the variant (R2, R315). -/
def Dev.tioReg (d : Dev) (c : Nat) (f : Dev → Dev) : Dev := d.reach (fun d => d.when (decide (c < d.tios)) f)

/-- TIO_CFG_WRITE (R222). -/
def execTioCfgWrite (c : TioId) (v : Word) (s : State) : Host.Outcome State Fault Refusal :=
  .next (s.onDev (·.tioReg c.val (·.writeTioCfg c.val v)))
/-- CALIBRATION_START (R206). -/
def execCalibrationStart (c : TdcId) (k : CalCause) (s : State) : Host.Outcome State Fault Refusal :=
  .next (s.onDev (fun d => match c, k with
    | .tio c, .recal => d.tioReg c.val (·.recal c.val)
    | .tio c, _ => d.calStart c.val
    | .refin _, .recal => d
    | .refin n, _ => d.refinCalStart n.val))
/-- CALIBRATION_COMPLETE (R207). -/
def execCalibrationComplete (c : TdcId) (r : CalResult) (s : State) : Host.Outcome State Fault Refusal :=
  .next (s.onDev (fun d => match c with | .tio c => d.calDone c.val r | .refin n => d.refinCalDone n.val r))
/-- TIO_INPUT_EDGE (R209). -/
def execTioInputEdge (c : TioId) (rising : Bool) (n : Nat) (b : Fin 640) (s : State) : Host.Outcome State Fault Refusal :=
  .next (s.onDev (·.tioEdgeIn c.val rising n b.val))
/-- TIO_NO_EDGE_TIMEOUT (R210). -/
def execTioNoEdgeTimeout (c : TioId) (s : State) : Host.Outcome State Fault Refusal := .next (s.onDev (·.noEdge c.val))
/-- TIO_ARM (R211). -/
def execTioArm (c : TioId) (s : State) : Host.Outcome State Fault Refusal :=
  .next (s.onDev (·.tioReg c.val (·.armTio c.val)))
/-- TIO_DISARM (R211): the armed measurement ends with a DISARMED record. -/
def execTioDisarm (c : TioId) (s : State) : Host.Outcome State Fault Refusal :=
  .next (s.onDev (·.tioReg c.val (fun d => (d.endMeas c.val 7).set F.TIO_CMD_RESULT 1 c.val)))
/-- TIO_MEAS_TIMEOUT (R212). -/
def execTioMeasTimeout (c : TioId) (s : State) : Host.Outcome State Fault Refusal := .next (s.onDev (·.endMeas c.val 1))
/-- TIO_START (R217). -/
def execTioStart (c : TioId) (s : State) : Host.Outcome State Fault Refusal :=
  .next (s.onDev (·.tioReg c.val (·.startTio c.val)))
/-- TIO_OUTPUT_EDGE (R216). -/
def execTioOutputEdge (c : TioId) (s : State) : Host.Outcome State Fault Refusal := .next (s.onDev (·.tioEdgeOut c.val))
/-- TIO_CANCEL (R220). -/
def execTioCancel (c : TioId) (s : State) : Host.Outcome State Fault Refusal :=
  .next (s.onDev (·.tioReg c.val (·.cancelTio c.val)))
/-- TIO_FIFO_ENTRY_FAULT (R215). -/
def execTioFifoEntryFault (c : TioId) (e : MemErr (Fin 64)) (s : State) : Host.Outcome State Fault Refusal :=
  .next (s.onDev (·.memFails 7 e.kind (·.fifoFault c.val e.place.val)))
/-- TIO_OUTPUT_ENGINE_FAULT (R221). -/
def execTioOutputEngineFault (e : MemErr TioId) (s : State) : Host.Outcome State Fault Refusal :=
  .next (s.onDev (·.memFails 7 e.kind (·.outEngineFault e.place.val)))

end Sys2Proof.Machine
end

