-- ==== Sys2Proof/Machine/Alarm.lean ====
section
/-! DEFINITION. The commands of the ALARM block (15_mailboxes_counters_alarms.md, R398 to R402): clearing latches, reading
the fault log, and re-enabling retired resources. -/

namespace Sys2Proof.Machine

/-- A host access reaches GLOBAL, ALARM and UPDATE at every stage after ROM, RECOVERY included (R315, R317). -/
def Dev.globReach (d : Dev) (f : Dev → Dev) : Dev := if d.stage = 0 then d else f d

/-- ALARM_LATCH_CLEAR (R398, R399): the latches written 1 clear, and every group left with an enabled latch sends its
vector again. -/
def Dev.clearLatch (d : Dev) (word : Nat) (v : Word) : Dev :=
  (d.setWord .ALM_LATCH word (d.word .ALM_LATCH word &&& ~~~v)).each (List.range 8) (fun d g => d.when (d.groupPending g) (fun d => d.sendGroup g))

/-- The six words of a log entry. -/
def LogEntry.words (e : LogEntry) : List Word :=
  wordsOf e.time ++ [BitVec.ofNat 32 (e.cls % 256 + e.action % 16 * 2 ^ 8 + e.mem % 16 * 2 ^ 12), BitVec.ofNat 32 e.index]

/-- Stores the words of ALM_LOG_W from W0 on. -/
def Dev.putLog (d : Dev) (ws : List Word) : Dev :=
  d.each (List.range 6) (fun d i => d.setWord .ALM_LOG_W i (ws.getD i 0))

/-- The oldest entry of the log is taken and its words are latched; an empty log clears the latched words (R401). -/
def Dev.takeLog (d : Dev) : Dev :=
  match d.log with
  | [] => d.putLog []
  | e :: rest => (({ d with log := rest }).putLog e.words).cond .logFull false

/-! ## Re-enable (R402) -/

/-- The number of indices of a class, the first of them, and its memory code of R388; none for an unlisted class. -/
def reenClass : Nat → Option (Nat × Nat × Nat)
  | 0x01 => some (0, 2, 7)
  | 0x02 => some (0, 10, 0)
  | 0x03 => some (0, 128, 0)
  | 0x04 => some (0, 48, 0)
  | 0x05 => some (0, 48, 0)
  | 0x06 => some (0, 48, 0)
  | 0x07 => some (0, 2 ^ 18, 0)
  | 0x08 => some (0, 262144, 3)
  | 0x09 => some (1, 4095, 4)
  | 0x0A => some (0, 16384, 5)
  | 0x0B => some (0, 36, 7)
  | 0x0C => some (0, 64, 7)
  | _ => none

/-- An index absent on the variant (R2), or a channel from a party to itself or of no party. -/
def Dev.reenAbsent (d : Dev) (cls i : Nat) : Bool :=
  match cls with
  | 0x02 => d.small && (i == 7 || i == 8)
  | 0x03 => decide (d.lanes ≤ i)
  | 0x04 => decide (d.tios ≤ i)
  | 0x05 => decide (d.tios ≤ i)
  | 0x06 => decide (d.tios ≤ i)
  | 0x0B => d.small && decide (20 ≤ i)
  | 0x0C => decide (6 ≤ i / 8) || decide (6 ≤ i % 8) || i / 8 == i % 8
  | _ => false

/-- Whether a resource is retired. -/
def Dev.isRetired (d : Dev) (cls i : Nat) : Bool :=
  match cls with
  | 0x01 => d.get F.TB_ROLE_ROLE i == 6
  | 0x02 => d.synRetired i
  | 0x03 => d.flag F.LANE_STAT_RETIRED i
  | 0x04 => d.flag F.TIO_STAT_TDC_RETIRED i || !(d.tioCh i).badTaps.isEmpty
  | 0x05 => d.flag F.TIO_STAT_OUT_RETIRED i
  | 0x06 => (d.tioCh i).badSlots != 0
  | 0x07 => !d.sw.retired.isEmpty || d.sw.badWords != 0
  | 0x08 => d.fdbRetired i
  | 0x09 => d.sw.badTbl.contains (0x09, i)
  | 0x0A => d.sw.badTbl.contains (0x0A, i)
  | 0x0B => (d.cand i).retired || !(d.cand i).badTaps.isEmpty
  | _ => (d.chan (i / 8) (i % 8)).st == 4

/-- A table entry is no longer retired, and empty. -/
def Dev.tableBack (d : Dev) (cls i : Nat) : Dev := d.onSw (fun s => { s with badTbl := s.badTbl.filter (· != (cls, i)) })

/-- The effect of the table of R402. -/
def Dev.returnToService (d : Dev) (cls i : Nat) : Dev :=
  match cls with
  | 0x01 =>
    let t : TbId := if i = 0 then .a else .b
    let d := d.onSys (fun s => if i = 0 then { s with warmRunsA := !d.tbA.warm } else { s with warmRunsB := !d.tbB.warm })
    d.returnStandby t
  | 0x02 =>
    let d := (d.synBit F.SYN_STAT_RETIRED false i).synAlarm
    if i < 4 then (d.refreshOut (2 * i)).refreshOut (2 * i + 1) else if i = 9 then d.refreshReadies else d
  | 0x03 =>
    let p := i / 4
    let d := (d.laneBit F.LANE_STAT_RETIRED false i).laneAlarm
    if (d.usedLanes p).contains i then d.startBring p else d
  | 0x04 =>
    let d := (d.tioBit F.TIO_STAT_TDC_RETIRED false i).onTio i (fun t => { t with badTaps := [] })
    (d.tioAlarm).refreshReady i
  | 0x05 => d.pinAfter i (fun d => (d.tioBit F.TIO_STAT_OUT_RETIRED false i).tioAlarm)
  | 0x06 => d.onTio i (fun t => { t with badSlots := 0 })
  | 0x07 => ((d.onSw (fun s => { s with retired := [], badWords := 0 })).judgeBuf).judgeBanks
  | 0x08 => (d.fdbDrop i).tableBack 0x08 i
  | 0x09 =>
    ((((d.setWord .VLAN_W0 i 0).setWord .VLAN_W1 i 0).setWord .VLAN_W2 i 0).setWord .VLAN_W3 i 0).tableBack 0x09 i
  | 0x0A =>
    let d := d.each (List.range 8) (fun d w => (d.setWord .ST_K (i * 8 + w) 0).setWord .ST_M (i * 8 + w) 0)
    (d.each (List.range 4) (fun d w => d.setWord .ST_A (i * 4 + w) 0)).tableBack 0x0A i
  | 0x0B => (d.onCand i (fun c => { c with retired := false, badTaps := [] })).restartQual i
  | _ =>
    let d := d.onChan (i / 8) (i % 8) (fun c => { c with st := 0 })
    d.when (i == 16) Dev.sendNotice

/-- The RESULT of a re-enable that is refused, zero otherwise. -/
def Dev.reenRefusal (d : Dev) (cls i : Nat) : Nat :=
  match reenClass cls with
  | none => 3
  | some (lo, hi, _) =>
    if i < lo || hi ≤ i || d.reenAbsent cls i then 4
    else if !d.isRetired cls i then 2
    else if cls = 1 && !d.anyActive then 6
    else 0

/-- RE_ENABLE (R402): counts and log are kept; the re-enable is counted and logged. -/
def Dev.reEnable (d : Dev) (cls : Nat) : Dev :=
  let d := d.set F.ALM_REEN_CLASS cls
  let i := if cls = 7 then 0 else d.get F.ALM_REEN_IDX_INDEX
  let r := d.reenRefusal cls i
  if r ≠ 0 then d.set F.ALM_REEN_RESULT r
  else
    let mem := match reenClass cls with | some (_, _, m) => m | none => 0
    (((d.returnToService cls i).countDev 315).logAdd cls 4 mem i).set F.ALM_REEN_RESULT 1

/-! ## Meanings -/

/-- ALARM_LATCH_CLEAR (R399). -/
def execAlarmLatchClear (w : Fin 2) (v : Word) (s : State) : Host.Outcome State Fault Refusal :=
  .next (s.onDev (·.globReach (·.clearLatch w.val v)))
/-- RE_ENABLE (R402). -/
def execReEnable (c : Byte) (s : State) : Host.Outcome State Fault Refusal :=
  .next (s.onDev (·.globReach (·.reEnable c.toNat)))

end Sys2Proof.Machine
end

