-- ==== Sys2Proof/Machine/Egress.lean ====
section
/-! DEFINITION. The scheduler of a port (R278 to R280), commitment (R247, R290), what leaves a port (R187, R188, R190,
R230, R248, R252), errors of the buffer and the tables (R253, R254, R257), the Moraine audit (R258 to R260), and the
writes of schedules and queues (R283, R284, R286, R291). -/

namespace Sys2Proof.Machine

/-! ## The scheduler -/

/-- The head of a queue may be committed now: gate open, eligible, and it fits (R278, R279). -/
def Dev.headReady (d : Dev) (p q : Nat) : Bool :=
  match d.queue p q with
  | [] => false
  | l :: _ => bitAt (d.gateAt p d.nowQ).1 q && d.sendable l && d.fits p q l.lc

/-- A class that deficit round robin visits (R280). -/
def Dev.drrClass (d : Dev) (p q : Nat) : Bool := !d.flag F.PRT_Q_CFG_SP (qKey p q) && !d.bounded p q

/-- Deficit round robin (R280): the class that commits its head, its quantum taken and the head's Lc paid; `idle` counts
the classes passed over in a row, and the first argument bounds the visits. -/
def Dev.drrPick (d : Dev) (p : Nat) : Nat → Nat → Dev × Option Nat
  | 0, _ => (d, none)
  | fuel + 1, idle =>
    if 8 ≤ idle then (d, none)
    else
      let (q, granted) := tabGet d.sw.drr (7, false) p
      let put (d : Dev) (x : Nat × Bool) : Dev := d.onSw (fun s => { s with drr := tabSet s.drr (7, false) p x })
      let next := if q = 0 then 7 else q - 1
      match d.queue p q with
      | [] => ((put d (next, false)).setDeficit p q 0).drrPick p fuel (idle + 1)
      | l :: _ =>
        if !d.drrClass p q || !d.headReady p q then (put d (next, false)).drrPick p fuel (idle + 1)
        else
          let have0 := d.deficit p q + (if granted then 0 else d.get F.PRT_Q_CFG_QUANTUM (qKey p q))
          if l.lc ≤ have0 then ((put d (q, true)).setDeficit p q (have0 - l.lc), some q)
          else (put (d.setDeficit p q have0) (next, false)).drrPick p fuel 0

/-- The class whose head the scheduler takes (R278). 10,000 visits serve every head: Lc is below 65,700 bytes (R262) and
QUANTUM at least 64, so a class needs at most 1,027 rounds of eight visits. -/
def Dev.pickClass (d : Dev) (p : Nat) : Dev × Option Nat :=
  let down : List Nat := [7, 6, 5, 4, 3, 2, 1, 0]
  match down.find? (fun q => d.bounded p q && d.headReady p q) with
  | some q => (d, some q)
  | none =>
    match down.find? (fun q => !d.bounded p q && d.flag F.PRT_Q_CFG_SP (qKey p q) && d.headReady p q) with
    | some q => (d, some q)
    | none => d.drrPick p 10000 0

/-! ## What leaves a port -/

/-- A transparent instance's correction of an event message (R190), in 2^-16 ns. -/
def Dev.transitAdd (d : Dev) (p : Nat) (tTx : Ticks) (f : Stored) (type : Nat) : Int :=
  let res : Int := (tTx : Int) - f.tRx
  match d.instOf f.inPort with
  | none => 0
  | some i =>
    let kind := (d.inst i).kind
    if type = 0 then res + d.asym f.inPort + (if kind = 2 then (d.ptu f.inPort).mean else 0)
    else if type = 1 && kind == 1 then res - d.asym p
    else 0

/-- The bytes of a frame on a port: a mirror copy (R252), a frame of the module's own, a corrected PTP message in transit
(R187, R188), or a frame with its tags changed (R230, R270); a bad tail ends with the inverted FCS (R248). -/
def Dev.outBytes (d : Dev) (p : Nat) (t : TxNow) (f : Stored) : List Byte :=
  let fcs := if t.bad || f.bad || t.cut.isSome then withBadFcs else withFcs
  let all := match t.cut with | some n => f.bytes.take (256 * n) | none => f.bytes
  let body := all.take (all.length - 4)
  match t.link.copy with
  | some trunc => fcs (copyBody trunc all)
  | none =>
    if f.own ≠ .none then f.bytes
    else if f.transit then
      match ptpIn f.bytes with
      | none => fcs body
      | some x => let n := d.transitAdd p t.tTx f (ptpType f.bytes x); fcs (if n = 0 then body else addCorrection body x n)
    else fcs (retag body (bitAt f.untag p) f.vid f.pcp f.deiMark f.rtag f.popRtag)

/-- Egress candidates of the mirror sessions (R250): at the transmission of a frame, copies apart. -/
def Dev.mirEgress (d : Dev) (p : Nat) (l : Link) : Dev :=
  if l.copy.isSome then d
  else d.each (List.range 4) (fun d s =>
    if bitAt (d.get F.SW_MIR_OUT_PORTS s) p then
      let (d, hit) := d.mirCandidate s
      if !hit then d
      else match d.frame l.fid with
        | some f => if f.done then d.takeCopy l.fid (d.mirCopy s) else d.wantCopy l.fid s
        | none => d
    else d)

/-- A SLEEP_NOTICE leaves (R151): ENTRY_TIME is the first refresh boundary at least 20 µs after its departure, and the
direction enters sleep unless other frames wait. -/
def Dev.noticeLeaves (d : Dev) (p fid : Nat) (tTx : Ticks) (depth : Nat) : Dev :=
  let grid := 250000 * nsUnit
  let entry := (tTx + 20000 * nsUnit + grid - 1) / grid * grid
  let d := d.onFrame fid (fun f =>
    { f with bytes := withFcs (splice (f.bytes.take 60) 34 (beBytes 4 (entry / secUnit) ++ beBytes 4 (entry % secUnit / nsUnit))) })
  if d.noFrames p then
    ((d.quadSet F.LANE_QUAD_STAT_TX_SLEEP 1 p).onPort p (fun s => { s with txDepth := depth, txEntry := some entry })).judgeSleep p
  else d

/-- Takes the head off a queue that empties: its deficit is zero (R280) and its tail a given end (R288). -/
def Dev.popHead (d : Dev) (p q : Nat) (rest : List Link) (ends : Int) : Dev :=
  let d := d.setQueue p q rest
  if rest.isEmpty then (d.setDeficit p q 0).setTail p q ends else d

/-- Commits a head (R247): its first byte passes to the MAC. -/
def Dev.commitHead (d : Dev) (p q : Nat) (l : Link) (rest : List Link) (tTx : Ticks) : Dev :=
  match d.frame l.fid with
  | none => d.setQueue p q rest
  | some f =>
    let t : TxNow := ⟨l, q, d.nowQ, tTx, d.stamp tTx, f.bad && l.copy.isNone, !f.done, none⟩
    let d := d.useSlots (match l.copy with | some _ => cellsOf l.lc | none => f.cells.length)
    let len := if f.done then (d.outBytes p t f).length else l.lc
    let ends := d.nowQ + d.wire p len
    let d := (d.popHead p q rest ends).setTx p (some { t with ends := ends })
    let d := match f.own with
      | .notice depth => d.noticeLeaves p l.fid tTx depth
      | _ => d
    (d.mirEgress p l).judgeIdle p

/-- FRAME_COMMIT: the scheduler commits the first frame it finds; a bounded frame that would miss its deadline is
discarded and the search goes on (R278, R290). -/
def Dev.commit (d : Dev) (p : Nat) (c : Capture) : Nat → Dev
  | 0 => d
  | fuel + 1 =>
    match d.pickClass p with
    | (d, none) => d
    | (d, some q) =>
      match d.queue p q with
      | [] => d
      | l :: rest =>
        let tTx := d.tTx p c
        match l.deadline with
        | some z =>
          if z < toQ tTx then
            ((((d.popHead p q rest d.nowQ).unlink l).portEvent p 0x048).judgeIdle p).commit p c fuel
          else d.commitHead p q l rest tTx
        | none => d.commitHead p q l rest tTx

/-- FRAME_COMMIT (R278): an awake port that sends nothing commits the next frame of its queues. -/
def Dev.frameCommit (d : Dev) (p : Nat) (c : Capture) : Dev :=
  if !d.linkUp p || (d.txNow p).isSome || d.txSleep p != 0 then d
  else (d.commit p c (1 + ((List.range 8).map (fun q => (d.queue p q).length)).sum)).judgeBanks

/-- A PTP message leaves in a frame of a queue: it is counted, and t_TX of an event message is recorded (R187, R199); a
port up in loop takes no timestamp (R170). -/
def Dev.ptpGone (d : Dev) (p : Nat) (b : List Byte) (tTx : BitVec 128) : Dev :=
  match ptpIn b with
  | none => d
  | some x =>
    let t := ptpType b x
    if !d.portUp p then d
    else (d.countTx p t).when (t < 4) (fun d => d.onPtu p (fun u => { u with tTxLast := tTx }))

/-- A frame carries a message that a transparent instance would correct (R190), of its domain, which the parser has not
recognised: it is sent unchanged (TS_UNPARSED, R186). -/
def Dev.leftUnparsed (d : Dev) (f : Stored) : Bool :=
  match d.instOf f.inPort, ptpUnparsed f.bytes with
  | some i, some x =>
    let k := (d.inst i).kind
    f.own == .none && k != 0 && ptpDomain f.bytes x == (d.inst i).domain &&
      (ptpType f.bytes x == 0 || (ptpType f.bytes x == 1 && k == 1))
  | _, _ => false

/-- FRAME_TRANSMIT_DONE: a frame that has wholly arrived has left; counted, and given back (R245). -/
def Dev.transmitDone (d : Dev) (p : Nat) : Dev :=
  match d.txNow p with
  | none => d
  | some t =>
    match d.frame t.link.fid with
    | none => (d.setTx p none).judgeIdle p
    | some f =>
      if !f.done && t.cut.isNone then d
      else
        let b := d.outBytes p t f
        let d := ((d.countFrame p 1 b).countPort p (8 + t.cls) b.length).countPort p (16 + t.cls)
        let d := d.countPort p (if t.ct then 36 else 37)
        let d := d.when ((t.bad || f.bad || t.cut.isSome) && t.link.copy.isNone) (fun d => d.countPort p 35)
        let d := d.ptpGone p b t.stamp
        let d := d.when (d.leftUnparsed f && t.link.copy.isNone) (fun d => d.portEvent p 0x043)
        let d := d.when (d.queue p t.cls).isEmpty (fun d => d.setTail p t.cls (min (d.tail p t.cls) d.nowQ))
        let d := (d.emit (if (d.port p).inLoop then .looped p b else .frame p b)).setTx p none
        (((if t.cut.isSome then d else d.unlink t.link).judgeIdle p)).judgeBanks

/-! ## Errors of the buffer and the tables -/

/-- A frame or a list that an uncorrectable error discards is logged: CLASS of the buffer, ACTION DISCARDED (R401). -/
def Dev.logDiscard (d : Dev) (mem index : Nat) : Dev := d.logAdd 0x07 3 mem index

/-- CELL_READ_ERROR (R253): the frame in transmission that holds the cell ends as a bad tail; one not yet committed is not
sent on this port; the cell is retired when the frame gives it back. -/
def Dev.cellError (d : Dev) (p cell : Nat) : Dev :=
  let holds (fid : Nat) : Bool := match d.frame fid with | some f => f.cells.contains cell | none => false
  if !d.usedCells.contains cell then d
  else
    let d := (d.onSw (fun s => { s with doomed := if s.doomed.contains cell then s.doomed else s.doomed ++ [cell] })).memError 0 true
    match d.txNow p with
    | some t => if holds t.link.fid then d.setTx p (some { t with bad := true }) else drop d holds
    | none => drop d holds
where
  /-- The first queued frame of the port that holds the cell is not sent. -/
  drop (d : Dev) (holds : Nat → Bool) : Dev :=
    match (List.range 8).find? (fun q => (d.queue p q).any (fun l => holds l.fid)) with
    | none => d
    | some q =>
      match (d.queue p q).find? (fun l => holds l.fid) with
      | none => d
      | some l =>
        let d := d.popHead p q ((d.queue p q).erase l) d.nowQ
        ((((d.unlink l).discardCause p 14).logDiscard 0 cell).judgeIdle p).judgeBanks

/-- LIST_ERROR (R254): the queue ends at the break, its frames from there on are lost, and their cells stay for the audit. -/
def Dev.listError (d : Dev) (p q pos : Nat) (descriptor : Bool) : Dev :=
  let l := d.queue p q
  if l.length ≤ pos then d
  else
    let mem := if descriptor then 2 else 1
    let d := d.popHead p q (l.take pos) d.nowQ
    let d := d.each (l.drop pos) (fun d _ => d.discardCause p 15)
    let d := (d.onSw (fun s => { s with badWords := s.badWords + 1 })).memError mem true
    (((d.retireOther 0x07 mem (qKey p q)).logDiscard mem (qKey p q)).judgeIdle p).judgeBanks

/-- LIST_ERROR of the frame in transmission (R254): it ends after the cells that have been read, as a bad tail, and is
counted; its cells stay for the audit. -/
def Dev.sendingError (d : Dev) (p n : Nat) (descriptor : Bool) : Dev :=
  match d.txNow p with
  | none => d
  | some t =>
    if t.cut.isSome then d
    else
      let mem := if descriptor then 2 else 1
      let d := (d.setTx p (some { t with cut := some n })).discardCause p 15
      let d := (d.onSw (fun s => { s with badWords := s.badWords + 1 })).memError mem true
      (d.retireOther 0x07 mem (qKey p t.cls)).logDiscard mem (qKey p t.cls)

/-- A table entry is retired: logged with its table and index, and alarmed (R257). -/
def Dev.retireEntry (d : Dev) (cls mem i : Nat) : Dev :=
  let d := d.onSw (fun s => { s with badTbl := s.badTbl ++ [(cls, i)] })
  ((d.memError mem true).logAdd cls 1 mem i).raise .tblEntryRetired

/-- The memory code of a table (R388). -/
def tableMem : TableId → Nat | .fdb => 3 | .vlan => 4 | .stream => 5

/-- TABLE_ENTRY_ERROR (R257). -/
def Dev.tableError (d : Dev) (t : TableId) (i : Nat) : Dev :=
  match t with
  | .fdb =>
    if !d.fastOn || d.fdbRetired i then d
    else ((d.fdbDrop i).set F.FDB_W2_RETIRED 1 i).retireEntry 0x08 3 i
  | .vlan =>
    if !d.fastOn || 4096 ≤ i || d.sw.badTbl.contains (0x09, i) then d
    else (d.set F.VLAN_W3_VALID 0 i).retireEntry 0x09 4 i
  | .stream => if !d.fastOn || 16384 ≤ i || d.sw.badTbl.contains (0x0A, i) then d else d.retireEntry 0x0A 5 i

/-! ## The Moraine audit -/

/-- The holders of a frame: queues, transmit and receive engines, and recovery holds (R258). -/
def Dev.holders (d : Dev) (fid : Nat) : Nat :=
  (d.sw.queues.map (fun (e : Nat × List Link) => (e.2.filter (fun l => l.fid == fid)).length)).sum +
    (d.sw.tx.filter (fun (e : Nat × Option TxNow) => match e.2 with | some t => t.link.fid == fid | none => false)).length +
    (d.sw.rx.filter (fun (e : Nat × Option Nat) => e.2 == some fid)).length +
    (d.sw.holds.filter (fun h => h.fid == fid)).length

/-- SW_AUDIT_STAT.CHANGED, and one of the audit's counts. -/
def Dev.auditCount (d : Dev) (j n : Nat) : Dev :=
  d.when (n != 0) (fun d => (d.set F.SW_AUDIT_STAT_CHANGED 1).countDev j n)

/-- One frame in a pass: a reference count that differs from its holders is set right; what nothing has held in two passes
and is older than LEAK_MS returns its cells (R258, R260). -/
def Dev.auditFrame (d : Dev) (finds : AuditFinds) (fid : Nat) : Dev :=
  match d.frame fid with
  | none => d
  | some f =>
    let n := d.holders fid
    if n = 0 then
      if 1 ≤ f.unreached && d.get F.SW_AUDIT_CFG_LEAK_MS < (d.sw.passes - f.born) * 10 then
        (d.auditCount 279 f.cells.length).freeFrame fid
      else d.onFrame fid (fun g => { g with unreached := g.unreached + 1 })
    else
      let seen := match finds.refCounts.find? (fun x => x.1 == fid) with | some x => x.2 | none => f.refs
      let d := d.onFrame fid (fun g => { g with refs := n, unreached := 0 })
      d.when (seen != n) (fun d => d.auditCount 276 1)

/-- A cell that lies in the chains of two frames: both are bad, and the cell is retired by the last to release it (R259). -/
def Dev.auditCross (d : Dev) (x : Nat × Nat) : Dev :=
  match d.sw.frames.find? (fun (e : Nat × Option Stored) => match e.2 with
      | some f => e.1 != x.2 && f.cells.contains x.1 | none => false), d.frame x.2 with
  | some (first, _), some _ =>
    let d := d.onFrame x.2 (fun f => { f with cells := if f.cells.contains x.1 then f.cells else f.cells ++ [x.1] })
    let d := d.onSw (fun s => { s with doomed := if s.doomed.contains x.1 then s.doomed else s.doomed ++ [x.1] })
    ((d.spoilFrame first).spoilFrame x.2).countDev 278
  | _, _ => d

/-- AUDIT_PASS (R258). -/
def Dev.auditPass (d : Dev) (finds : AuditFinds) : Dev :=
  if !d.fastOn then d
  else
    let d := d.onSw (fun s => { s with passes := s.passes + 1 })
    let d := d.each (d.sw.frames.map Prod.fst) (fun d fid => d.auditFrame finds fid)
    let used := d.usedCells
    let d := d.auditCount 277 (finds.freeUsed.filter (fun c => used.contains c)).length
    let d := d.each finds.crossed Dev.auditCross
    let d := d.set F.SW_AUDIT_STAT_PASSES d.sw.passes
    let d := if finds.sum ≠ totalCells then (d.set F.SW_AUDIT_STAT_MISMATCH 1).raise .auditMismatch else d
    d.judgeBanks

/-! ## Writes of schedules and queues -/

/-- The classes that would be bounded on a port, as a mask; two of them in a set of gates. -/
def Dev.boundedMask (d : Dev) (p : Nat) : Nat := maskOf (d.boundedOf p)
def twoIn (mask states : Nat) : Bool := 2 ≤ ((List.range 8).filter (fun k => bitAt mask k && bitAt states k)).length

/-- The states of every entry of both banks of a port, an unwritten entry's once. -/
def Dev.entryStates (d : Dev) (p : Nat) : List Nat :=
  let written := (unitsOf d.regs .GCL_W0).filter (fun u => u / 2048 == p)
  written.map (fun u => d.get F.GCL_W0_STATES u) ++ (if written.length < 2048 then [0xFF] else [])

/-- A write is ignored in full (R275, R284, R286). -/
def Dev.rejectCfg (d : Dev) (p : Nat) : Dev := d.set F.PRT_GATE_STAT_CFG_REJ 1 p

/-- A write of a register of a bank: the schedule in force changes at once (R283). -/
def Dev.bankWrite (d : Dev) (p bank : Nat) (r : Reg) (u : Nat) (v : Word) : Dev :=
  let d := d.store r u v
  if d.flag F.PRT_GATE_CFG_GATE_EN p && d.get F.PRT_GATE_CFG_BANK_SEL p == bank then d.rescheduled p else d

/-- GATE_CFG_WRITE (R283, R284). -/
def Dev.gateWrite (d : Dev) (p : Nat) (t : GateTarget) (v : Word) : Dev :=
  match t with
  | .cfg =>
    if d.flag F.PRT_GATE_CFG_GATE_EN p && !F.PRT_GATE_CFG_GATE_EN.on v && 2 ≤ (d.boundedOf p).length then d.rejectCfg p
    else
      let old := d.word .PRT_GATE_CFG p
      let d := d.store .PRT_GATE_CFG p v
      if d.word .PRT_GATE_CFG p = old then d else (d.set F.PRT_GATE_STAT_CHANGED 1 p).rescheduled p
  | .baseHi b => d.bankWrite p b.val .PRT_GCL_BASE_HI (p * 2 + b.val) v
  | .baseLo b => d.bankWrite p b.val .PRT_GCL_BASE_LO (p * 2 + b.val) v
  | .baseNs b => d.bankWrite p b.val .PRT_GCL_BASE_NS (p * 2 + b.val) v
  | .cycle b => d.bankWrite p b.val .PRT_GCL_CYCLE (p * 2 + b.val) v
  | .len b => d.bankWrite p b.val .PRT_GCL_LEN (p * 2 + b.val) v
  | .entry b i w =>
    let u := (p * 2 + b.val) * 1024 + i.val
    if w.val = 0 then
      if twoIn (d.boundedMask p) (F.GCL_W0_STATES.of v) then d.rejectCfg p else d.bankWrite p b.val .GCL_W0 u v
    else d.bankWrite p b.val .GCL_W1 u v

/-- A change of RES_TOTAL that R275 refuses. -/
def resRefused (old new : Dev) : Bool := decide (old.resTotal < new.resTotal) && decide (old.avail - 4096 < new.resTotal)

/-- A write of BOUNDED that R284 or R286 refuses: class 7, a second class without gates, an entry open for two. -/
def Dev.boundedRefused (old new : Dev) (p q : Nat) : Bool :=
  !old.bounded p q && new.bounded p q &&
    (q == 7 || (!old.flag F.PRT_GATE_CFG_GATE_EN p && 2 ≤ (new.boundedOf p).length) ||
      (old.entryStates p).any (fun s => twoIn (new.boundedMask p) s))

/-- QUEUE_CFG_WRITE (R275, R284, R286, R291). -/
def Dev.queueWrite (d : Dev) (p q : Nat) (r : QueueReg) (v : Word) : Dev :=
  match r with
  | .cfg =>
    let new := d.store .PRT_Q_CFG (qKey p q) v
    if resRefused d new || d.boundedRefused new p q then d.rejectCfg p
    else
      let changed := d.bounded p q != new.bounded p q
      let new := if changed then new.setQueue p q ((new.queue p q).map (fun l => { l with deadline := none })) else new
      let new := new.when (changed && !(new.queue p q).isEmpty) (fun d => d.set F.PRT_GATE_STAT_REPREDICT 1 p)
      new.judgeBuf.judgeBanks
  | .res =>
    let new := d.store .PRT_Q_RES (qKey p q) v
    if resRefused d new then d.rejectCfg p else new.judgeBuf.judgeBanks

/-- REPREDICTION_DONE (R289). -/
def Dev.repredictDone (d : Dev) (p : Nat) : Dev :=
  if d.flag F.PRT_GATE_STAT_REPREDICT p then ((d.repredict p).set F.PRT_GATE_STAT_REPREDICT 0 p).judgeBanks else d

/-! ## Meanings -/

/-- FRAME_COMMIT (R278). -/
def execFrameCommit (p : PortId) (c : Capture) (s : State) : Host.Outcome State Fault Refusal :=
  .next (s.onDev (·.frameCommit p.val c))
/-- FRAME_TRANSMIT_DONE (R245). -/
def execFrameTransmitDone (p : PortId) (s : State) : Host.Outcome State Fault Refusal := .next (s.onDev (·.transmitDone p.val))
/-- CELL_READ_ERROR (R253). -/
def execCellReadError (p : PortId) (e : MemErr (Fin 294912)) (s : State) : Host.Outcome State Fault Refusal :=
  .next (s.onDev (·.memFails 0 e.kind (·.cellError p.val e.place.val)))
/-- LIST_ERROR (R254). -/
def execListError (p : PortId) (l : ListPlace) (descriptor : Bool) (k : ErrKind) (s : State) :
    Host.Outcome State Fault Refusal :=
  .next (s.onDev (·.memFails (if descriptor then 2 else 1) k (fun d => match l with
    | .queued q n => d.listError p.val q.val n descriptor
    | .sending n => d.sendingError p.val n descriptor)))
/-- TABLE_ENTRY_ERROR (R257). -/
def execTableEntryError (t : TableId) (e : MemErr (Fin 262144)) (s : State) : Host.Outcome State Fault Refusal :=
  .next (s.onDev (·.memFails (tableMem t) e.kind (·.tableError t e.place.val)))
/-- AUDIT_PASS (R258). -/
def execAuditPass (f : AuditFinds) (s : State) : Host.Outcome State Fault Refusal := .next (s.onDev (·.auditPass f))
/-- GATE_EVENT (R282). -/
def execGateEvent (p : PortId) (s : State) : Host.Outcome State Fault Refusal :=
  .next (s.onDev (fun d => d.when d.fastOn (·.refreshGates p.val)))
/-- GATE_CFG_WRITE (R283). -/
def execGateCfgWrite (p : PortId) (t : GateTarget) (v : Word) (s : State) : Host.Outcome State Fault Refusal :=
  .next (s.onDev (·.reachFast (fun d => d.when (d.hasPort p.val) (·.gateWrite p.val t v))))
/-- QUEUE_CFG_WRITE (R291). -/
def execQueueCfgWrite (p : PortId) (q : ClassId) (r : QueueReg) (v : Word) (s : State) : Host.Outcome State Fault Refusal :=
  .next (s.onDev (·.reachFast (fun d => d.when (d.hasPort p.val) (·.queueWrite p.val q.val r v))))
/-- REPREDICTION_DONE (R289). -/
def execRepredictionDone (p : PortId) (s : State) : Host.Outcome State Fault Refusal := .next (s.onDev (·.repredictDone p.val))

end Sys2Proof.Machine
end

