-- ==== Sys2Proof/Machine/Ring.lean ====
section
/-! DEFINITION. Event counters as the host sets them and Ring dumps (15_mailboxes_counters_alarms.md, R383 to R397): the
counter registers, snapshots, and their delivery to the dump area, host memory and telemetry. -/

namespace Sys2Proof.Machine

/-! ## Counter registers -/

/-- A counter of a resource absent on the variant (R2): a port's, or a TIO channel's. -/
def Dev.cntAbsent (d : Dev) (i : Nat) : Bool :=
  if i < 3072 then decide (d.portCount ≤ i / 96) else decide (i - 3072 < 192) && decide (d.tios ≤ (i - 3072) % 48)

/-- CNT_DATA_WRITE (R386): the counter named in CNT_IDX, with the events of the same cycle counted on top. -/
def Dev.cntDataWrite (d : Dev) (v : Word) (sameCycle : Nat) : Dev :=
  let i := d.get F.CNT_IDX_IDX
  if d.cntAbsent i then d else ({ d with counters := tabSet d.counters 0 i v }).bump i sameCycle

/-- Whether a chain from a source leads to a reserve: it is the reserve, or its own source does (R384). -/
def leadsTo (cfg : Tab Word) (r : Nat) : Nat → Nat → Bool
  | 0, _ => true
  | fuel + 1, s =>
    s == r || ((reservesOf s).contains s && cfgEvent (tabGet cfg (cntCfgReset s) s) != 0xFFF &&
      leadsTo cfg r fuel (cfgEvent (tabGet cfg (cntCfgReset s) s)))

/-- A source that R384 admits for a reserve: none, or a counter of the same group without a loop or a second reserve. -/
def chainOk (cfg : Tab Word) (r s : Nat) : Bool :=
  s == 0xFFF ||
    ((if r < 3072 then decide (s / 96 = r / 96) else decide (3072 ≤ s)) && !leadsTo cfg r 288 s &&
      (match reserveIn cfg s with | none => true | some x => x == r))

/-- The event codes of R388 that a port counter, or a device counter, may select. -/
def eventCodes (port : Bool) : List Nat :=
  let span (a n : Nat) : List Nat := (List.range n).map (· + a)
  0 :: (if port then
      span 0x011 8 ++ span 0x020 7 ++ span 0x031 8 ++ span 0x040 5 ++ span 0x048 4 ++ span 0x050 48
    else span 0x100 3 ++ [0x108] ++ span 0x110 8 ++ [0x120, 0x121, 0x128, 0x129] ++ span 0x130 16 ++ span 0x141 5 ++
      span 0x149 5 ++ [0x150])

/-- Whether a counter is a reserve, and whether it is selectable (R383, R388). -/
def isReserve (i : Nat) : Bool := if i < 3072 then decide (64 ≤ i % 96) else decide (3840 ≤ i)
def isSelectable (i : Nat) : Bool := if i < 3072 then decide (48 ≤ i % 96 ∧ i % 96 < 64) else decide (3584 ≤ i ∧ i < 3840)

/-- CNT_CFG_WRITE (R384, R388): a reserve's source or a selectable counter's event; what R384 or R388 does not allow is
ignored with CFG_REJ, and a write of any other counter is ignored. -/
def Dev.cntCfgWrite (d : Dev) (v : Word) : Dev :=
  let i := d.get F.CNT_IDX_IDX
  let w := v &&& 0xFFFF0FFF#32
  let put (ok : Bool) : Dev :=
    if ok then { d with cntCfg := tabSet d.cntCfg (cntCfgReset i) i w } else d.set F.RING_STAT_CFG_REJ 1
  if d.cntAbsent i then d
  else if isReserve i then put (chainOk d.cntCfg i (cfgEvent w))
  else if isSelectable i then put ((eventCodes (decide (i < 3072))).contains (cfgEvent w))
  else d

/-! ## Snapshots (R389 to R391) -/

/-- The Firn-side latches are added to their counters and cleared (R385). -/
def Dev.foldLatches (d : Dev) : Dev :=
  ({ d with latches := [] }).each d.latches (fun d e => d.bump e.1 e.2)

/-- A Ring period of exponent K, in 2^-16 ns. -/
def ringPeriod (k : Nat) : Ticks := 2 ^ k * 1000000 * nsUnit

/-- A write of RING_CTRL (R391): a change of K waits for the first boundary of the new period after it. -/
def Dev.ringCtrlWrite (d : Dev) (v : Word) : Dev :=
  let old := d.get F.RING_CTRL_K
  let d := d.store .RING_CTRL 0 v
  d.when (d.get F.RING_CTRL_K != old) (fun d => { d with ring := { d.ring with kFrom := d.now } })

/-- K in force at a boundary: the register's once a boundary of its period has come after the write, till then the old one
(R391). -/
def Dev.ringK (d : Dev) : Nat :=
  let k := d.get F.RING_CTRL_K
  if d.ring.kFrom < d.now / ringPeriod k * ringPeriod k then k else d.ring.kNow

/-- The place of the host ring and the telemetry registers as they stand (R403). -/
def Dev.ringDest (d : Dev) : RingDest where
  base := d.get F.RING_HOST_BASE_HI_BASE * 2 ^ 32 + d.get F.RING_HOST_BASE_LO_BASE * 4096
  entries := d.get F.RING_HOST_ENTRIES_ENTRIES
  moved := none
  telCfg := d.word .RING_TEL_CFG 0
  telHi := d.word .RING_TEL_DA_HI 0
  telLo := d.word .RING_TEL_DA_LO 0

/-- A write that gives the host ring another place or length (R403): HEAD and TAIL read zero, and a record that is due still
goes to the old place. -/
def Dev.ringPlaceWrite (d : Dev) (r : Reg) (v : Word) : Dev :=
  let at0 := (d.get F.RING_HOST_HEAD_HEAD, d.get F.RING_HOST_TAIL_TAIL)
  let d := { d with ring := { d.ring with dest := { d.ring.dest with moved := some (d.ring.dest.moved.getD at0) } } }
  ((d.store r 0 v).setWord .RING_HOST_HEAD 0 0).setWord .RING_HOST_TAIL 0 0

/-- RING_BOUNDARY (R390): the snapshot of every counter with the latches folded in; one that falls while FAST is not ON is
missed, and without a timebase there is no boundary. -/
def Dev.ringBoundary (d : Dev) : Dev :=
  if !d.anyActive then d
  else if !d.fastOn then { d with ring := { d.ring with missedOff := d.ring.missedOff + 1 } }
  else
    let d := d.foldLatches
    let k := d.ringK
    let r := d.ring
    let s : Snapshot := {
      k := k
      flags := bitNat (d.flag F.TB_HB_STAT_FROZEN) + 2 * bitNat r.stepped + 4 * bitNat r.firnSat
      time := d.stamp (d.now / ringPeriod k * ringPeriod k)
      seq := r.seq
      missed := r.missed
      counters := d.counters
      chains := d.cntCfg }
    let ok := match r.latest with
      | some p => r.ratesOk && decide (p.k = k) && decide (r.missed = 0)
      | none => false
    let area := d.flag F.RING_CTRL_AREA_EN
    { d with ring := { r with
      seq := (r.seq + 1) % 2 ^ 32, missed := 0, stepped := false, firnSat := false
      previous := r.latest, latest := some s
      rates := ok, ratesOk := true
      area := if area then tabInsert r.area r.nextSlot s else r.area
      nextSlot := if area then (r.nextSlot + 1) % 127 else r.nextSlot
      hostDue := d.flag F.RING_CTRL_HOST_EN
      telDue := d.flag F.RING_CTRL_TEL_EN
      kNow := k
      dest := d.ringDest } }

/-- The Ring engine at a fast-domain start (R385, R390, R397): the boundaries missed are counted, on top of those that no dump
has told yet (R391), SEQ starts from zero, K is in force and rates read zero until two snapshots exist. -/
def Dev.ringStart (d : Dev) : Dev :=
  let n := d.ring.missedOff
  let d := { d with ring := { d.ring with
    seq := 0, missed := d.ring.missed + n, missedOff := 0, rates := false, ratesOk := false, hostDue := false, telDue := false
    kNow := d.get F.RING_CTRL_K } }
  d.countDev 311 n

/-! ## Records (R391, R392) -/

/-- The words of the header that the check covers: MAGIC, FORMAT, K and FLAGS, SERIAL, TIME, SEQ, MISSED, COUNT, reserved. -/
def Dev.headWords (d : Dev) (s : Snapshot) : List Word :=
  [0x474E5244, BitVec.ofNat 32 (1 + s.k * 65536 + s.flags * 2 ^ 24), d.ident.serialHi, d.ident.serialLo] ++ wordsOf s.time ++
    [BitVec.ofNat 32 s.seq, BitVec.ofNat 32 s.missed, 4096, 0, 0, 0, 0]

/-- The counters of a snapshot, `n` of them from an index. -/
def Snapshot.words (s : Snapshot) (first n : Nat) : List Word := (List.range n).map (fun i => tabGet s.counters 0 (first + i))

/-- A word as four bytes, least significant first. -/
def wordBytes (w : Word) : List Byte := leBytes 4 w.toNat

/-- The check of a record: CRC-32C over header bytes 0 to 59 and the counters. -/
def Dev.recordCrc (d : Dev) (s : Snapshot) : Nat :=
  crc32c ((d.headWords s).flatMap wordBytes ++ (s.words 0 4096).flatMap wordBytes)

/-- A word of a dump record by its place in words. -/
def Dev.recordWord (d : Dev) (s : Snapshot) (i : Nat) : Word :=
  if i < 15 then (d.headWords s).getD i 0
  else if i = 15 then BitVec.ofNat 32 (d.recordCrc s)
  else tabGet s.counters 0 (i - 16)

/-- Bytes of a dump record. -/
def recordLen : Nat := 16448

/-- A word of the dump area (R394): of a slot not yet written, zero. -/
def Dev.areaWord (d : Dev) (a : Nat) : Word :=
  match d.ring.area.find? (fun e => e.1 == a / recordLen) with
  | none => 0
  | some e => d.recordWord e.2 (a % recordLen / 4)

/-- A read of RING_AREA_DATA (R394): the word at RING_AREA_ADDR, which advances by 4. -/
def Dev.ringAreaRead (d : Dev) : Dev :=
  let a := d.get F.RING_AREA_ADDR_ADDR / 4 * 4
  (d.setWord .RING_AREA_DATA 0 (d.areaWord a)).set F.RING_AREA_ADDR_ADDR (a + 4)

/-! ## Host ring (R393) -/

/-- Skips the host target for one snapshot. -/
def Dev.skipHost (d : Dev) : Dev := (d.countDev 312).raise .ringUndelivered

/-- HOST_RING_WRITE (R393): the record goes into slot HEAD of the ring that its boundary has found (R403), HEAD advances and
vector 8 follows; or the target is skipped. -/
def Dev.hostRing (d : Dev) : Dev :=
  match d.ring.hostDue, d.ring.latest with
  | true, some s =>
    let d := { d with ring := { d.ring with hostDue := false } }
    let dst := d.ring.dest
    let n := dst.entries
    let (head, tail) := dst.moved.getD (d.get F.RING_HOST_HEAD_HEAD, d.get F.RING_HOST_TAIL_TAIL)
    if (head + 1) % n = tail % n || !d.flag F.GLB_HOST_STAT_BME || !d.flag F.GLB_HOST_STAT_LINK_UP then d.skipHost
    else
      let d := d.emit (.hostRecord (dst.base + head * recordLen) s)
      (d.when dst.moved.isNone (·.set F.RING_HOST_HEAD_HEAD ((head + 1) % n))).msix 8
  | _, _ => d

/-! ## Telemetry (R395) -/

/-- A field of RING_TEL_CFG as the boundary has found it (R403). -/
def Dev.telGet (d : Dev) (f : Fld) : Nat := f.of d.ring.dest.telCfg

/-- A telemetry part: its frame with tag and FCS. -/
def Dev.telFrame (d : Dev) (s : Snapshot) (part parts count : Nat) : List Byte :=
  let tag := if d.telGet F.RING_TEL_CFG_TAG_EN = 1 then
      [0x81, 0x00] ++ beBytes 2 (d.telGet F.RING_TEL_CFG_TEL_PCP * 2 ^ 13 + d.telGet F.RING_TEL_CFG_TEL_VID)
    else []
  withFcs (beBytes 2 (F.RING_TEL_DA_HI_DA.of d.ring.dest.telHi) ++ beBytes 4 (F.RING_TEL_DA_LO_DA.of d.ring.dest.telLo) ++
    d.portMac (d.telGet F.RING_TEL_CFG_TEL_PORT) ++ tag ++
    [0x88, 0xB6, 0x01, BitVec.ofNat 8 part, BitVec.ofNat 8 parts, BitVec.ofNat 8 s.k] ++
    beBytes 4 d.ident.serialHi.toNat ++ beBytes 4 d.ident.serialLo.toNat ++ beBytes 16 s.time.toNat ++ beBytes 4 s.seq ++
    beBytes 4 (part * count) ++ beBytes 2 count ++ [BitVec.ofNat 8 s.flags, 0] ++ beBytes 4 s.missed ++ [0, 0, 0, 0] ++
    (s.words (part * count) count).flatMap (fun w => beBytes 4 w.toNat))

/-- One part is offered to its queue by R276; a part refused, offered to a bounded queue, or for a port that is down or up
in loop, is counted and not sent. -/
def Dev.telPart (d : Dev) (s : Snapshot) (parts count part : Nat) : Dev :=
  let p := d.telGet F.RING_TEL_CFG_TEL_PORT
  let q := d.telGet F.RING_TEL_CFG_TEL_TC
  if !d.hasPort p || !d.portUp p || d.bounded p q then d.countDev 313
  else
    let b := d.telFrame s part parts count
    let fid := d.sw.nextFid
    let f : Stored := { d.newStored p ⟨⟨0, 0, 0, 0⟩, b, true⟩ d.now with
      own := .telemetry, done := true, dests := [p], cls := q, refs := 0, maxFrame := b.length }
    let d := (d.onSw (fun s => { s with nextFid := fid + 1 })).setFrame fid (some f)
    match (d.giveCells fid (cellsOf b.length)).offer p q fid b.length none with
    | (d, true) => d.judgeBanks
    | (d, false) => ((d.setFrame fid none).countDev 313).judgeBanks

/-- TELEMETRY_SEND (R395): 16 parts of 256 counters, or 4 of 1024. -/
def Dev.telemetry (d : Dev) : Dev :=
  match d.ring.telDue, d.ring.latest with
  | true, some s =>
    let d := { d with ring := { d.ring with telDue := false } }
    let big := d.telGet F.RING_TEL_CFG_PART_WORDS = 1
    let parts := if big then 4 else 16
    (d.each (List.range parts) (fun d i => d.telPart s parts (4096 / parts) i)).judgeBanks
  | _, _ => d

/-! ## The counter page (R396, R397) -/

/-- A counter with the reserves chained from it: its value, and its width in words. -/
def chainValue (counters : Tab Word) (cfg : Tab Word) : Nat → Nat → Nat × Nat
  | 0, i => ((tabGet counters 0 i).toNat, 1)
  | fuel + 1, i =>
    match reserveIn cfg i with
    | none => ((tabGet counters 0 i).toNat, 1)
    | some r =>
      let (v, n) := chainValue counters cfg fuel r
      ((tabGet counters 0 i).toNat + v * 2 ^ 32, n + 1)

/-- The rate of counter `k` of a port in b/s; its rounding is not stated. -/
def Dev.rateOf (d : Dev) (p k : Nat) : Nat :=
  match d.ring.rates, d.ring.latest, d.ring.previous with
  | true, some a, some b =>
    let (x, n) := chainValue a.counters a.chains 32 (96 * p + k)
    let (y, _) := chainValue b.counters a.chains 32 (96 * p + k)
    (divFree (((((x : Int) - y) % (2 ^ (32 * n) : Nat)) * 8000)) (2 ^ a.k)).toNat
  | _, _, _ => 0

/-- A word of the counter page: zero while USER_PERMIT is 0 (R396). -/
def Dev.pageWord (d : Dev) (ofs : Nat) : Word :=
  if !d.flag F.RING_CTRL_USER_PERMIT then 0
  else
    match d.ring.latest with
    | none => 0
    | some s =>
      if ofs = 0 || ofs = 0x9200 then BitVec.ofNat 32 s.seq
      else if 0x40 ≤ ofs && ofs < 0x80 then d.recordWord s ((ofs - 0x40) / 4)
      else if 0x1000 ≤ ofs && ofs < 0x5000 then tabGet s.counters 0 ((ofs - 0x1000) / 4)
      else if 0x5000 ≤ ofs && ofs < 0x9000 then
        (match d.ring.previous with | some b => tabGet b.counters 0 ((ofs - 0x5000) / 4) | none => 0)
      else if 0x9000 ≤ ofs && ofs < 0x9200 then
        let r := d.rateOf ((ofs - 0x9000) / 16) ((ofs - 0x9000) / 8 % 2)
        BitVec.ofNat 32 (if ofs / 4 % 2 = 0 then r else r / 2 ^ 32)
      else 0

/-! ## Meanings -/

/-- CNT_DATA_WRITE (R386). -/
def execCntDataWrite (v : Word) (n : Nat) (s : State) : Host.Outcome State Fault Refusal :=
  .next (s.onDev (·.reachFast (·.cntDataWrite v n)))
/-- CNT_CFG_WRITE (R384). -/
def execCntCfgWrite (v : Word) (s : State) : Host.Outcome State Fault Refusal :=
  .next (s.onDev (·.reachFast (·.cntCfgWrite v)))
/-- RING_BOUNDARY (R390). -/
def execRingBoundary (s : State) : Host.Outcome State Fault Refusal := .next (s.onDev Dev.ringBoundary)
/-- HOST_RING_WRITE (R393). -/
def execHostRingWrite (s : State) : Host.Outcome State Fault Refusal := .next (s.onDev Dev.hostRing)
/-- TELEMETRY_SEND (R395). -/
def execTelemetrySend (s : State) : Host.Outcome State Fault Refusal := .next (s.onDev Dev.telemetry)

end Sys2Proof.Machine
end

