-- ==== Sys2Proof/Machine/Power.lean ====
section
/-! DEFINITION. The commands of the power chapter (11_power_and_wake.md) but the start of the fast domain, which reads
images from flash (Machine/Boot.lean): stops, stated latency, and what the FSP gates. -/

namespace Sys2Proof.Machine

/-- FAST_STOP (R297, R340): PWR_FAST_CMD.STOP, refused UPDATING throughout steps 2 to 7, and BUSY unless FAST is ON. -/
def Dev.fastStop (d : Dev) : Dev :=
  if d.updating then d.set F.PWR_FAST_CMD_RESULT 3
  else if !d.fastOn then d.set F.PWR_FAST_CMD_RESULT 2
  else d.stopFast.set F.PWR_FAST_CMD_RESULT 1

/-- FAST_DOMAIN_OFF (R297). -/
def Dev.fastOffDone (d : Dev) : Dev := if d.fast = 3 then d.offFast else d

/-- The ports of LPLL group k. -/
def groupPorts (k : Nat) : List Nat := (List.range 8).map (fun i => 8 * k + i)

/-- The ports of a group that use lanes. -/
def Dev.groupUsed (d : Dev) (k : Nat) : List Nat := (groupPorts k).filter (fun p => d.portMode p != 0)

/-- Every transmit direction of a group tolerates an LPLL start (R302). -/
def Dev.groupTolerates (d : Dev) (k : Nat) : Bool := (d.groupUsed k).all (fun p => d.tolerates p 470)

/-- A write that breaks the condition of R302 on tolerance restarts the LPLL. -/
def Dev.judgeLpll (d : Dev) (k : Nat) : Dev := if d.groupTolerates k then d else d.restartLpll k

/-- PWR_LAT_WRITE (R298, R301, R304, R310). -/
def Dev.latWrite (d : Dev) (p : Nat) (t : LatTarget) (v : Word) : Dev :=
  let d := match t with
    | .lat k => d.store .PWR_LAT (qKey p k.val) v
    | .portCfg => d.store .PWR_PORT_CFG p v
  if d.fastOn then (d.judgeSleep p).judgeLpll (p / 8) else d.set F.PWR_PORT_STAT_T_EFF (d.tEff p) p

/-- PWR_GATE_CFG_WRITE (R306, R310): a cleared flag undoes at once what it allowed; N_req is computed anew. -/
def Dev.gateCfgWrite (d : Dev) (v : Word) : Dev :=
  let d := d.store .PWR_GATE_CFG 0 v
  if !d.fastOn then d
  else
    let d := if d.flag F.PWR_GATE_CFG_SLICE_GATE_EN then d else d.onSys (fun s => { s with slicesOff := 0 })
    let d := if d.flag F.PWR_GATE_CFG_CORE_GATE_EN then d else d.wakeCores
    let d := if d.flag F.PWR_GATE_CFG_LPLL_STOP_EN then d else d.each (List.range 4) Dev.restartLpll
    d.judgeBanks

/-- A port is off or in DEEP in both directions, no lane of it restarted for a burst (R152, R302). -/
def Dev.portDeep (d : Dev) (p : Nat) : Bool :=
  d.txSleep p == 3 && d.rxSleep p == 3 && !(d.port p).txLead && !(d.port p).rxLead

/-- LPLL_STOP (R302): counted. -/
def Dev.lpllStop (d : Dev) (k : Nat) : Dev :=
  if !d.fastOn || !d.flag F.PWR_GATE_CFG_LPLL_STOP_EN || d.flag F.TB_HB_STAT_FROZEN || !(d.syn (5 + k)).runs ||
      !(d.groupUsed k).all (fun p => d.portDeep p) || !d.groupTolerates k then d
  else ((d.stopSyn (5 + k)).onSys (fun s => { s with lpllOff := s.lpllOff + 2 ^ k })).countDev 283

/-- The used cells of a bank; whether it holds a retired cell. -/
def Dev.bankUsed (d : Dev) (b : Nat) : Nat := (d.usedCells.filter (fun c => c / bankCells == b)).length
def Dev.bankRetired (d : Dev) (b : Nat) : Bool := d.sw.retired.any (fun c => c / bankCells == b)

/-- Gating one bank more leaves the reserved cells covered (R275). -/
def Dev.mayGate (d : Dev) : Bool := decide (d.resTotal + 4096 + bankCells ≤ d.avail)

/-- The bank to drain (R306): the ungated one with the fewest used cells and no retired cell; which of several is not
stated. -/
def Dev.drainPick (d : Dev) : Option Nat :=
  let l := d.openBanks.filter (fun b => !d.bankRetired b)
  match (l.map (fun b => d.bankUsed b)).min? with
  | none => none
  | some m =>
    let best := l.filter (fun b => d.bankUsed b == m)
    best[d.freeVal % best.length]?

/-- BANK_DRAIN_START (R306): counted. -/
def Dev.drainStart (d : Dev) : Dev :=
  let d := d.judgeBanks
  if !d.fastOn || !d.flag F.PWR_GATE_CFG_BANK_GATE_EN || d.flag F.PWR_STAT_DRAIN_RUN || d.openBanks.length ≤ d.bankNeed ||
      !d.mayGate then d
  else match d.drainPick with
    | none => d
    | some b => (((d.set F.PWR_STAT_DRAIN_BANK b).set F.PWR_STAT_DRAIN_RUN 1).countDev 285).spendFree

/-- BANK_GATED (R306): the draining bank holds no used cell, and N_req still allows its gating; its cells leave the free list
(R244). -/
def Dev.bankGatedNow (d : Dev) : Dev :=
  let d := d.judgeBanks
  let b := d.get F.PWR_STAT_DRAIN_BANK
  if !d.flag F.PWR_STAT_DRAIN_RUN || d.openBanks.length ≤ d.bankNeed || d.bankUsed b != 0 || d.bankRetired b || !d.mayGate then d
  else ((d.stopDrain.setGated ((d.gatedBanks ++ [b]))).countDev 284).judgeBuf

/-- SLICE_GATE (R307). -/
def Dev.sliceGate (d : Dev) (k : Nat) : Dev :=
  let empty := [Reg.ST_K, Reg.ST_M].all (fun r => (unitsOf d.regs r).all (fun u => u / 8192 != k)) &&
    (unitsOf d.regs .ST_A).all (fun u => u / 4096 != k)
  if !d.fastOn || !d.flag F.PWR_GATE_CFG_SLICE_GATE_EN || d.flag F.SW_ST_SLICE_CFG_EN k ||
      bitAt (d.get F.SW_ST_PAIR_PAIRED) (k / 2) || !empty || bitAt d.sys.slicesOff k then d
  else d.onSys (fun s => { s with slicesOff := s.slicesOff + 2 ^ k })

/-- CORE_IDLE_GATE (R308): CP core 1 to 3. -/
def Dev.coreGate (d : Dev) (core : Nat) : Dev :=
  if !d.fastOn || !d.flag F.PWR_GATE_CFG_CORE_GATE_EN || d.sys.cpStopped || bitAt d.sys.coresOff core then d
  else
    let d := d.onSys (fun s => { s with coresOff := s.coresOff + 2 ^ core })
    d.set F.PWR_STAT_CP_CORES (d.get F.PWR_STAT_CP_CORES - 1)

/-- INPUT_MONITOR_REFRESH (R309): PWR_INPUT and GLB_HEALTH; the highest die temperature is kept for the settings record. -/
def Dev.inputRefresh (d : Dev) (vin pin : BitVec 16) (temp : BitVec 16) : Dev :=
  let t := temp.toInt
  let d := ((d.set F.PWR_INPUT_VIN vin.toNat).set F.PWR_INPUT_PIN pin.toNat).onSys (fun s => { s with
    dieTemp := t, tempMax := max s.tempMax t })
  (d.set F.GLB_HEALTH_DIE_TEMP temp.toNat).set F.GLB_HEALTH_PIN pin.toNat

/-! ## Meanings -/

/-- FAST_STOP (R297). -/
def execFastStop (s : State) : Host.Outcome State Fault Refusal := .next (s.onDev (·.reach Dev.fastStop))
/-- FAST_DOMAIN_OFF (R297). -/
def execFastDomainOff (s : State) : Host.Outcome State Fault Refusal := .next (s.onDev Dev.fastOffDone)
/-- PWR_LAT_WRITE (R301). -/
def execPwrLatWrite (p : PortId) (t : LatTarget) (v : Word) (s : State) : Host.Outcome State Fault Refusal :=
  .next (s.onDev (·.reach (fun d => d.when (d.hasPort p.val) (·.latWrite p.val t v))))
/-- PWR_GATE_CFG_WRITE (R310). -/
def execPwrGateCfgWrite (v : Word) (s : State) : Host.Outcome State Fault Refusal :=
  .next (s.onDev (·.reach (·.gateCfgWrite v)))
/-- LPLL_STOP (R302). -/
def execLpllStop (k : Fin 4) (s : State) : Host.Outcome State Fault Refusal := .next (s.onDev (·.lpllStop k.val))
/-- BANK_DRAIN_START (R306). -/
def execBankDrainStart (s : State) : Host.Outcome State Fault Refusal := .next (s.onDev Dev.drainStart)
/-- BANK_GATED (R306). -/
def execBankGated (s : State) : Host.Outcome State Fault Refusal := .next (s.onDev Dev.bankGatedNow)
/-- SLICE_GATE (R307). -/
def execSliceGate (k : Fin 16) (s : State) : Host.Outcome State Fault Refusal := .next (s.onDev (·.sliceGate k.val))
/-- CORE_IDLE_GATE (R308). -/
def execCoreIdleGate (c : Fin 3) (s : State) : Host.Outcome State Fault Refusal := .next (s.onDev (·.coreGate (c.val + 1)))
/-- INPUT_MONITOR_REFRESH (R309). -/
def execInputMonitorRefresh (vin pin temp : BitVec 16) (s : State) : Host.Outcome State Fault Refusal :=
  .next (s.onDev (·.inputRefresh vin pin temp))

end Sys2Proof.Machine
end

