-- ==== Sys2Proof/Machine/Reset.lean ====
section
/-! DEFINITION. Power and the module reset (R18, R318, R319, R409 to R415, R423): what each keeps, and the commands of the
carrier that turn conversion on and off. -/

namespace Sys2Proof.Machine

/-- The MBX registers, which keep their values across every reset except a power cycle (R403). -/
def Reg.isMbx (r : Reg) : Bool :=
  r.spec.space == .bar0 && decide (0x4000 ≤ r.spec.base) && decide (r.spec.base < 0x8000)

/-- GLB_HOST_STAT of an endpoint that a module reset leaves alone (R368): bits [9:0]; DOWN_COUNT counts anew. -/
def keptHost (w : Word) : Word := BitVec.ofNat 32 (w.toNat % 1024)

/-- A timebase after a module reset: its oven goes on and keeps its own report, on which the FSP declares the OCXO warm anew
(R314). -/
def Timebase.again (t : Timebase) : Timebase := { Timebase.init with osc := t.osc, temp := t.temp }

/-- A flash write that a reset cuts off leaves bytes that nothing states (R319). -/
def tear (m : List Host.Cell) (k a : Nat) : Nat → List Host.Cell
  | 0 => m
  | n + 1 => tear (flashSet m a (Config.tornByte k a)) k (a + 1) n

/-- The flash when the erase or page program that runs is cut off. -/
def State.cutFlash (s : State) : State :=
  let sys := s.dev.sys
  let m := match sys.eraseAt with
    | some a => tear s.flash s.dev.freeCtr a 0x10000
    | none => s.flash
  let m := match sys.progPage with
    | some (p, _) => tear m s.dev.freeCtr (256 * p) 256
    | none => m
  if sys.eraseAt.isNone && sys.progPage.isNone then s else { s with flash := m, dev := s.dev.spendFree }

/-- STAGE with CHANGED (R313). -/
def Dev.setStage (d : Dev) (v : Nat) : Dev := d.setMark F.GLB_BOOT_STAT_STAGE v F.GLB_BOOT_STAT_CHANGED

/-- The device at stage ROM of a module reset (R7, R8, R18, R318): every register at its Reset value but the mailboxes and
the PCIe endpoint; mailbox channels, the log, the ovens and the places that a TIO FIFO has lost (R215) are kept. Reads that
wait complete with zero. -/
def Dev.restart (d : Dev) (cause : Nat) : Dev :=
  let w := keptHost (d.word .GLB_HOST_STAT)
  let d := d.when d.pcie.held.isSome (·.emit (.readData 0))
  let n : Dev := { Dev.reset with
    ident := d.ident, tbA := d.tbA.again, tbB := d.tbB.again
    chans := d.chans, log := d.log, sent := d.sent, freeCtr := d.freeCtr, cycles := d.cycles
    regs := d.regs.filter (fun (e : Nat × Word) => (keyReg e.1).isMbx)
    pcie := { d.pcie with held := none, latch := none, hbRuns := false } }
  let n := n.onSys (fun s => { s with
    powered := true, enabled := true, held := d.sys.held, dieTemp := d.sys.dieTemp
    warmRunsA := true, warmRunsB := true, perst := d.sys.perst })
  let n := n.each ((List.range 48).filter (fun c => (d.tioCh c).badSlots != 0)) (fun n c =>
    n.onTio c (fun t => { t with badSlots := (d.tioCh c).badSlots }))
  let n := (n.setWord .GLB_HOST_STAT 0 w).set F.GLB_BOOT_STAT_RESET_CAUSE cause
  let n := (n.setB F.FIRN_OCXO_STAT_OSC_A d.tbA.osc).setB F.FIRN_OCXO_STAT_OSC_B d.tbB.osc
  let n := n.when (d.alarmOn .hostLinkDown) (fun n => n.cond .hostLinkDown true)
  let n := n.each [1, 2, 3, 4, 5, 0] Dev.restartParty
  (n.logAdd 0 5 0 0).countDev 294

/-- A module reset (R318): work on the flash is cut off (R319), and start-up begins at stage ROM. -/
def State.moduleReset (s : State) (cause : Nat) : State := s.cutFlash.onDev (·.restart cause)

/-- Loss of input power (R24, R409, R412): nothing but the part itself and its flash remains. -/
def Dev.losePower (d : Dev) (tripped enabled : Bool) : Dev :=
  let n : Dev := { Dev.reset with ident := d.ident, sent := d.sent, freeCtr := d.freeCtr }
  n.onSys (fun s => { s with tripped := tripped, enabled := enabled, perst := d.sys.perst })
def State.losePower (s : State) (tripped : Bool) : State := s.cutFlash.onDev (·.losePower tripped false)

/-- POWER_GOOD (R410, R415): start-up begins at stage ROM and the straps are sampled. -/
def Dev.powerGood (d : Dev) (sel0 sel1 : Bool) : Dev :=
  if !d.sys.enabled || d.sys.powered then d
  else
    let d := { d with ident := { d.ident with sel0 := sel0, sel1 := sel1 }, cycles := 0 }
    let d := d.onSys (fun s => { s with powered := true, warmRunsA := true, warmRunsB := true })
    (d.set F.GLB_BOOT_STAT_STAGE 0).set F.GLB_BOOT_STAT_RESET_CAUSE 0

/-! ## Meanings -/

/-- POWER_GOOD (R410). -/
def execPowerGood (a b : Bool) (s : State) : Host.Outcome State Fault Refusal := .next (s.onDev (·.powerGood a b))
/-- CONVERSION_ENABLE (R411): after a thermal trip conversion stays off (R423). -/
def execConversionEnable (s : State) : Host.Outcome State Fault Refusal :=
  .next (s.onDev (fun d => if d.sys.tripped then d else d.onSys (fun y => { y with enabled := true })))
/-- MODULE_REMOVAL (R412): a loss of input power; insertion ends a thermal trip (R423). -/
def execModuleRemoval (s : State) : Host.Outcome State Fault Refusal := .next (s.losePower false)
/-- POWER_DISABLE (R414): a loss of input power; held for 100 ms it ends a thermal trip (R423). -/
def execPowerDisable (over100ms : Bool) (s : State) : Host.Outcome State Fault Refusal :=
  .next (s.losePower (s.dev.sys.tripped && !over100ms))
/-- INPUT_POWER_LOSS (R409): VIN below the turn-off threshold ends a thermal trip, an overvoltage does not (R423). -/
def execInputPowerLoss (overvoltage : Bool) (s : State) : Host.Outcome State Fault Refusal :=
  .next (s.losePower (s.dev.sys.tripped && overvoltage))
/-- THERMAL_TRIP (R423): conversion turns off and stays off. -/
def execThermalTrip (s : State) : Host.Outcome State Fault Refusal := .next (s.losePower true)
/-- RESET_PIN (R318): a low level of RESET_N of 1 µs resets the module and holds it; without power it has no effect (R414). -/
def execResetPin (s : State) : Host.Outcome State Fault Refusal :=
  .next (if s.dev.sys.powered then (s.moduleReset 1).onDev (·.onSys (fun y => { y with held := true })) else s)
/-- RESET_N_RELEASE (R318): start-up goes on from ROM at the rising edge. -/
def execResetNRelease (s : State) : Host.Outcome State Fault Refusal :=
  .next (s.onDev (·.onSys (fun y => { y with held := false })))

end Sys2Proof.Machine
end

