-- ==== Sys2Proof/Machine/Start.lean ====
section
/-! DEFINITION. The images that run, the steps of a live update and of a live fallback, fallback itself, and the start of
the fast domain (R296, R338 to R346): operations that read or write the flash. -/

namespace Sys2Proof.Machine

/-- UPD_STAT.STATE and FAIL_CAUSE follow the boot header in force (R336). -/
def State.refreshUpd (s : State) : State :=
  s.onDev (fun d => (d.setMark F.UPD_STAT_STATE (hdrState s.flash) F.UPD_STAT_CHANGED).set F.UPD_STAT_FAIL_CAUSE (hdrNow s.flash).failCause)

/-- UPD_STAT.STEP with CHANGED. -/
def Dev.showStep (d : Dev) (v : Nat) : Dev := d.setMark F.UPD_STAT_STEP v F.UPD_STAT_CHANGED

/-- The effective state is TRIAL and no fallback has begun. -/
def State.onTrial (s : State) : Bool := hdrState s.flash == 2

/-- The bundle slot in force, and the image of a TYPE in it. -/
def State.bundleSlot (s : State) : Nat := (hdrNow s.flash).bundleSel

/-! ## Images that run -/

/-- Puts an image in the place of its TYPE. -/
def putImage (l : List Image) (t : Nat) (i : Image) : List Image := ((List.range 4).map (imageAt l)).set t i

/-- An FSP (0), SMC (2) or CP (3) image runs: UPD_IFVER shows it (R347). -/
def Dev.runImage (d : Dev) (t : Nat) (i : Image) : Dev :=
  let d := d.onSys (fun y => { y with images := putImage y.images t i })
  d.set (if t = 0 then F.UPD_IFVER0_FSP else if t = 3 then F.UPD_IFVER0_CP else F.UPD_IFVER1_SMC) i.ifVer

/-- The TBP image of a timebase. -/
def Dev.runTbp (d : Dev) (t : TbId) (i : Image) : Dev :=
  match t with
  | .a =>
    let b := d.tbpImage .b
    (d.onSys (fun y => { y with images := putImage y.images 1 i, tbpB := some b })).set F.UPD_IFVER1_TBP_A i.ifVer
  | .b => (d.onSys (fun y => { y with tbpB := some i })).set F.UPD_IFVER2_TBP_B i.ifVer

/-- An image of a slot that is loaded passes its checks (R332, R313). -/
def State.imageGood (s : State) (slot t : Nat) : Bool := imageOk s.flash s.dev.ident.variant slot t

/-! ## Live steps and fallback (R338 to R340, R345) -/

/-- The standby is DISABLED, its TBP restarted on the new image, and it is released to ALIGNING (steps 4 and 6). -/
def Dev.loadStandby (d : Dev) (i : Image) : Dev :=
  match d.liveStandby with
  | some o => ((((d.setRole o 0).restartParty (4 + o.num)).runTbp o i).alignStandby o).judgeRevert
  | none => d

/-- Step `k` begins: UPD_STAT.STEP shows it for an update, FALLBACK throughout a fallback. -/
def Dev.enterStep (d : Dev) (k : Nat) : Dev :=
  (d.onSys (fun y => { y with updStep := k })).showStep (if d.sys.updBack then 9 else k)

/-- The work at the beginning of a step (R338); steps 2 and 3 are skipped while FAST is OFF, not while it starts or stops; `fail` answers an image that
fails its check. -/
def State.beginStepWith (fail : State → State) (s : State) (k : Nat) : State :=
  let k := if (k = 2 || k = 3) && s.dev.fast == 0 then 4 else k
  let s := s.onDev (·.enterStep k)
  match k with
  | 2 => s.onDev (fun d => (d.restartParty 2).onSys (fun y => { y with cpStopped := true, carryover := true }))
  | 3 => s.onDev (·.smcMoves false)
  | 4 => if s.imageGood s.bundleSlot 1 then s.onDev (·.loadStandby (readImage s.flash s.bundleSlot 1)) else fail s
  | 5 => s.onDev (fun d => (d.onTwin (fun w => { w with updMoved := false })).judgePinRevert)
  | 6 => if s.imageGood s.bundleSlot 1 then s.onDev (·.loadStandby (readImage s.flash s.bundleSlot 1)) else fail s
  | _ => s

/-- A step of a live fallback that fails issues a module reset (R345). -/
def State.beginBack (s : State) (k : Nat) : State := s.beginStepWith (·.moduleReset 2) k

/-- Fallback (R345): the header back to PREV_BUNDLE and PREV_CONFIG, FALLEN_BACK with its cause, FW_FALLBACK; then the
images return live, or by a module reset. -/
def State.fallback (s : State) (cause : Nat) : State :=
  let h := hdrNow s.flash
  let m := hdrWrite s.flash { h with bundleSel := h.prevBundle, configSel := h.prevConfig, state := 3, failCause := cause }
  let s : State := ({ s with flash := m } : State).refreshUpd
  let s := s.onDev (fun d =>
    let d := ((d.raise .fwFallback).countDev 299).devEvent true (0x140 + cause) 0
    ((d.showStep 9).set F.UPD_CONFIRM_LEFT_LEFT 0).onSys (fun y => { y with winLeft := 0, updBack := h.mode == 1, updStep := 0 }))
  if h.mode = 1 then s.beginBack 2 else s.moduleReset 2

/-- A step begins, in the direction that runs; an image that fails falls back with HEALTH (R341). -/
def State.beginStep (s : State) (k : Nat) : State :=
  if s.dev.sys.updBack then s.beginBack k else s.beginStepWith (·.fallback 2) k

/-- A health failure of a new image on trial (R341). -/
def State.unhealthy (s : State) : State := if s.onTrial then s.fallback 2 else s

/-! ## Fast-domain start (R296, R341, R346) -/

/-- A start is taken: the CP and SMC images are checked and loaded. -/
def State.startFast (s : State) : State :=
  let slot := s.dev.get F.GLB_BOOT_STAT_BUNDLE_SLOT
  if s.imageGood slot 3 && s.imageGood slot 2 then
    s.onDev (fun d =>
      let d := ((d.runImage 3 (readImage s.flash slot 3)).runImage 2 (readImage s.flash slot 2)).cond .fwImageBad false
      (d.beginFast.countDev 286).onSys (fun y => { y with
        newCpWait := s.onTrial && (hdrNow s.flash).mode != 1, cpStopped := false, smcStopped := false }))
  else if s.onTrial then s.fallback 2
  else s.onDev (·.cond .fwImageBad true)

/-- PWR_FAST_CMD.START (R296): BUSY unless FAST is OFF. -/
def State.fastCommand (s : State) : State :=
  if s.dev.fast ≠ 0 then s.onDev (·.set F.PWR_FAST_CMD_RESULT 2)
  else (s.onDev (·.set F.PWR_FAST_CMD_RESULT 1)).startFast

/-- FAST_START (R296). -/
def execFastStart (s : State) : Host.Outcome State Fault Refusal :=
  .next (if s.dev.firnReach then s.fastCommand else s)

end Sys2Proof.Machine
end

