-- ==== Sys2Proof/Machine/Synth.lean ====
section
/-! DEFINITION. The commands of the synthesizers and of the clock and pulse outputs (05_synthesis_outputs.md), with lock,
loss of lock and retirement (R117 to R119). -/

namespace Sys2Proof.Machine

/-- A write of a synthesizer's block (R315); LPLL2 and LPLL3 of XM1624-S take none (R111). -/
def Dev.synReg (d : Dev) (i : Nat) (f : Dev → Dev) : Dev :=
  d.reach (fun d => if d.small && (i == 7 || i == 8) then d else f d)

/-- SYN_LOCK_DECLARED (R117, R118): outputs begin by R122 and R124; a synthesizer that a freeze had caught locked takes
part in ending it. -/
def Dev.lockDeclared (d : Dev) (i : Nat) : Dev :=
  if (d.syn i).rejoins then
    if d.twin.relocking then (d.onSyn i (fun s => { s with rejoins := false })).judgeRelock else d
  else if !d.flag F.SYN_STAT_ACQUIRING i || d.flag F.SYN_STAT_FROZEN i then d
  else
    let d := (d.synBit F.SYN_STAT_ACQUIRING false i).synBit F.SYN_STAT_LOCKED true i
    let d := if i < 4 then d.beginPair i else d
    if i = 9 then d.refreshReadies else d

/-- A synthesizer is retired (R19, R119), with the consequences of the table of R119. -/
def Dev.retireSyn (d : Dev) (i : Nat) : Dev :=
  let d := d.endStep i 9
  let d := if i < 4 then d.each [2 * i, 2 * i + 1] (fun d n =>
      let pend := (d.out n).alignAt.isSome || d.flag F.OUT_STAT_ARMED n
      (d.when pend (fun d => d.set F.OUT_CMD_RESULT 9 n)).outBit F.OUT_STAT_ARMED false n)
    else d
  let d := ((d.stopSyn i).synBit F.SYN_STAT_RETIRED true i).logAdd 0x02 1 0 i
  let d := d.synAlarm
  if i < 4 then (d.refreshOut (2 * i)).refreshOut (2 * i + 1)
  else if i = 4 then d.stopFast
  else if i = 9 then d.tioClockLost
  else d.lpllLost (i - 5)

/-- SYN_LOCK_LOST (R119): within 2 ms of a write that retuned the VCO the OSYN counts as acquiring; else a fault. -/
def Dev.synUnlock (d : Dev) (i : Nat) : Dev :=
  if !d.synLocked i || d.flag F.SYN_STAT_FROZEN i then d
  else
    let recent := match (d.syn i).wroteAt with
      | some t => decide (d.now ≤ t + 2000000 * nsUnit)
      | none => false
    if recent then
      let d := (d.endStep i 8).synBit F.SYN_STAT_LOCKED false i
      (d.synBit F.SYN_STAT_ACQUIRING true i).squelch i
    else (d.retireSyn i).judgeRelock

/-- SYN_CFG_WRITE (R112). -/
def execSynCfgWrite (i : SynId) (v : Word) (s : State) : Host.Outcome State Fault Refusal :=
  .next (s.onDev (·.synReg i.val (·.synCfgWrite i.val v)))
/-- BAND_ENTRY_WRITE (R114). -/
def execBandEntryWrite (i : SynId) (bank : Fin 2) (entry : Fin 64) (word : Fin 2) (v : Word) (s : State) :
    Host.Outcome State Fault Refusal :=
  .next (s.onDev (·.synReg i.val (·.bandEntryWrite i.val bank.val entry.val word.val v)))
/-- SYN_FREQ_HI_WRITE (R119). -/
def execSynFreqHiWrite (i : SynId) (v : Word) (s : State) : Host.Outcome State Fault Refusal :=
  .next (s.onDev (·.synReg i.val (·.synFreqHiWrite i.val v)))
/-- SYN_LOCK_DECLARED (R117). -/
def execSynLockDeclared (i : SynId) (s : State) : Host.Outcome State Fault Refusal := .next (s.onDev (·.lockDeclared i.val))
/-- SYN_ACQ_TIMEOUT (R116). -/
def execSynAcqTimeout (i : SynId) (s : State) : Host.Outcome State Fault Refusal := .next (s.onDev (·.synAcqTimeout i.val))
/-- SYN_LOCK_LOST (R119). -/
def execSynLockLost (i : SynId) (s : State) : Host.Outcome State Fault Refusal := .next (s.onDev (·.synUnlock i.val))
/-- RETUNE (R114). -/
def execRetune (i : SynId) (s : State) : Host.Outcome State Fault Refusal := .next (s.onDev (·.synReg i.val (·.retune i.val)))
/-- STEP (R127). -/
def execPhaseStep (i : SynId) (s : State) : Host.Outcome State Fault Refusal := .next (s.onDev (·.synReg i.val (·.synStep i.val)))
/-- STEP_AT (R127). -/
def execStepAt (i : SynId) (s : State) : Host.Outcome State Fault Refusal := .next (s.onDev (·.synReg i.val (·.synStepAt i.val)))
/-- STEP_AT_START (R127). -/
def execStepAtStart (i : SynId) (s : State) : Host.Outcome State Fault Refusal := .next (s.onDev (·.stepAtStart i.val))
/-- RESYNC (R130). -/
def execResync (i : SynId) (s : State) : Host.Outcome State Fault Refusal := .next (s.onDev (·.synReg i.val (·.synResync i.val)))
/-- STEP_CANCEL (R127). -/
def execStepCancel (i : SynId) (s : State) : Host.Outcome State Fault Refusal := .next (s.onDev (·.synReg i.val (·.synCancel i.val)))
/-- STEP_COMPLETE (R126). -/
def execStepComplete (i : SynId) (s : State) : Host.Outcome State Fault Refusal := .next (s.onDev (·.stepComplete i.val))
/-- OUT_CFG_WRITE (R120). -/
def execOutCfgWrite (n : OutId) (v : Word) (s : State) : Host.Outcome State Fault Refusal :=
  .next (s.onDev (·.reach (fun d => (d.outCfgWrite n.val v).judgeRelock)))
/-- OUT_PER_HI_WRITE (R133). -/
def execOutPerHiWrite (n : OutId) (v : Word) (s : State) : Host.Outcome State Fault Refusal :=
  .next (s.onDev (·.reach (·.outPerHiWrite n.val v)))
/-- OUT_ALIGN_WRITE (R132). -/
def execOutAlignWrite (n : OutId) (v : Word) (s : State) : Host.Outcome State Fault Refusal :=
  .next (s.onDev (·.reach (·.outAlignWrite n.val v)))
/-- OUTPUT_START (R122). -/
def execOutputStart (n : OutId) (s : State) : Host.Outcome State Fault Refusal := .next (s.onDev (·.outputStart n.val))
/-- ALIGN (R131). -/
def execAlign (n : OutId) (s : State) : Host.Outcome State Fault Refusal := .next (s.onDev (·.reach (·.outAlign n.val)))
/-- ARM (R132). -/
def execArm (n : OutId) (s : State) : Host.Outcome State Fault Refusal := .next (s.onDev (·.reach (·.outArm n.val)))
/-- DISARM (R132). -/
def execDisarm (n : OutId) (s : State) : Host.Outcome State Fault Refusal := .next (s.onDev (·.reach (·.outDisarm n.val)))
/-- ALIGNED_EDGE (R131). -/
def execAlignedEdge (n : OutId) (s : State) : Host.Outcome State Fault Refusal := .next (s.onDev (·.alignedEdge n.val))

end Sys2Proof.Machine
end

