-- ==== Sys2Proof/Machine/Access.lean ====
section
/-! DEFINITION. Register access by address (R352, R353, R357 to R359): which register lies at an address, whether the present
stage reaches it (R2, R315, R317), what a write of each register does beside storing its fields, and what a read shows. A
write of a register that has a command of its own in spec/opcode_table.json does what that command does. -/

namespace Sys2Proof.Machine

/-! ## Addresses -/

/-- The unit of a replicated register at an offset from its first one. -/
def unitAt : List (Nat × Nat) → Nat → Option Nat
  | [], a => if a = 0 then some 0 else none
  | (stride, n) :: rest, a =>
    let i := a / stride
    if n ≤ i then none else (unitAt rest (a % stride)).map (fun u => i * (rest.map Prod.snd).prod + u)

/-- The register and unit at an address of a space; reserved offsets have none (R6). -/
def regAt (sp : Space) (a : Nat) : Option (Reg × Nat) :=
  Reg.all.findSome? (fun r =>
    if r.spec.space == sp && decide (r.spec.base ≤ a) then (unitAt r.spec.dims (a - r.spec.base)).map (fun u => (r, u)) else none)

/-- The register at an address of an indirect space (R352); Timebase B is space 2. -/
def indRegAt (space a : Nat) : Option (Reg × Nat) :=
  match space with
  | 0 => regAt .firn a
  | 1 => regAt .tb a
  | 2 => regAt .tb (a + 0x1000)
  | 3 => regAt .rsel a
  | 4 => regAt .syn a
  | 5 => regAt .tio a
  | 6 => regAt .lane a
  | _ => none

/-- The first index of a unit. -/
def Reg.index (r : Reg) (u : Nat) : Nat := u / (r.spec.dims.tail.map Prod.snd).prod

/-- The unit of a register belongs to a port, lane or TIO channel that the variant does not have (R2), or to LPLL2 or LPLL3
of XM1624-S (R111). -/
def Dev.absent (d : Dev) (r : Reg) (u : Nat) : Bool :=
  let b := r.spec.base
  let i := r.index u
  d.small && (match r.spec.space with
    | .lane => if 0x100 ≤ b then decide (16 ≤ i) else decide (64 ≤ i)
    | .tio => decide (24 ≤ i)
    | .syn => !(decide (0x400 ≤ b ∧ b < 0x1000)) && (i == 7 || i == 8)
    | .bar0 => (decide (0x100000 ≤ b ∧ b < 0x200000) || r == .GCL_W0 || r == .GCL_W1 || decide (0x400100 ≤ b ∧ b < 0x400300) ||
        decide (0x10100 ≤ b ∧ b < 0x10800)) && decide (16 ≤ i)
    | _ => false)

/-- The blocks that RECOVERY leaves reachable: GLOBAL, ALARM and UPDATE, and IND for the NVM space (R317). -/
def Reg.inRecovery (r : Reg) : Bool :=
  let b := r.spec.base
  r.spec.space == .bar0 && (decide (b < 0x2000) || decide (0x3000 ≤ b ∧ b < 0x4000) || decide (0xC000 ≤ b ∧ b < 0x10000))

/-- Whether an access reaches a register at the present stage (R315, R317): the CP alone reaches the fast targets while the
fast domain is STARTING. -/
def Dev.reaches (d : Dev) (cp : Bool) (r : Reg) : Bool :=
  d.stage != 0 && (if d.stage == 8 then r.inRecovery else !r.isFast || d.fastOn || (cp && d.fast == 1))

/-! ## Writes -/

/-- The TB registers that both spaces share (R49, R86, R110); they are kept as unit 0. -/
def Reg.shared : Reg → Bool
  | .TB_JUMP_CFG | .TB_SLEW_CFG | .TB_LOCK_CFG | .TB_HOLD_LIMIT | .TB_UTC_CFG | .TB_SERVO_TGT | .TB_SERVO_TGT2
  | .TB_SERVO_PIN | .TB_HOLD_CFG | .TB_TWIN_CFG | .TB_TWIN_CMD | .TB_HB_STAT | .TB_TAKEOVER => true
  | _ => false
def Reg.home (r : Reg) (u : Nat) : Nat := if r.shared then 0 else u

/-- The timebase of a TB space. -/
def tbOf (u : Nat) : TbId := if u = 0 then .a else .b

/-- Of several command bits that a write sets, the lowest is taken (R430). -/
def Dev.firstCmd (d : Dev) (v : Word) (l : List (Fld × (Dev → Dev))) : Dev :=
  match l.find? (fun e => e.1.on v) with
  | some e => e.2 d
  | none => d

/-- Two-valued and 1,024-valued indices. -/
def fin2 (n : Nat) : Fin 2 := if n = 0 then 0 else 1
def fin1024 (n : Nat) : Fin 1024 := Fin.ofNat 1024 n
def finClass (n : Nat) : ClassId := Fin.ofNat 8 n

/-- A write of a register of a timebase's space or of RSEL (R42, R43, R49, R86, R88, R104, R110). -/
def Dev.writeTimeReg (d : Dev) (r : Reg) (u : Nat) (v : Word) : Dev :=
  match r with
  | .TB_LOCK_CFG => (d.store r 0 v).mirrorBy (fun m => { m with lockMs := 0 })
  | .TB_TCMD => (d.store r u v).firstCmd v [(F.TB_TCMD_ACCEPT_JUMP, fun d => d.writeTcmd (tbOf u) F.TB_TCMD_ACCEPT_JUMP),
      (F.TB_TCMD_TIME_SET, fun d => d.writeTcmd (tbOf u) F.TB_TCMD_TIME_SET)]
  | .TB_MODEL_CMD => d.firstCmd v [(F.TB_MODEL_CMD_RESTART, fun d => d.modelRestart (tbOf u))]
  | .TB_TWIN_CFG =>
    let pin := d.flag F.TB_TWIN_CFG_PIN
    let n := d.store r 0 v
    if d.updating && !pin then n.setB F.TB_TWIN_CFG_PIN false else n
  | .TB_TWIN_CMD => d.firstCmd v [(F.TB_TWIN_CMD_SWITCH, Dev.twinSwitch), (F.TB_TWIN_CMD_STANDBY_OFF, Dev.standbyOff),
      (F.TB_TWIN_CMD_STANDBY_ON, Dev.standbyOn)]
  | .RSEL_LIMITS =>
    let d := d.store r u v
    d.set F.RSEL_LIMITS_REJECT (clampNat (d.get F.RSEL_LIMITS_ACCEPT + 1) 100 (d.get F.RSEL_LIMITS_REJECT))
  | .RSEL_CMD =>
    let d := d.store r u v
    (d.when (F.RSEL_CMD_SKIP_WTR.on v) Dev.skipWtr).when (F.RSEL_CMD_CLEAR_BARS.on v) Dev.clearBars
  | .RSEL_REFIN_CFG => d.refinCfgWrite u v
  | _ => d.store r (r.home u) v

/-- A write of a synthesizer's or an output's register (R111, R112, R127, R131 to R133). -/
def Dev.writeSynReg (d : Dev) (r : Reg) (u : Nat) (v : Word) : Dev :=
  let i := r.index u
  let out := decide (0x400 ≤ r.spec.base ∧ r.spec.base < 0x1000)
  if !out && d.small && (i == 7 || i == 8) then d
  else match r with
  | .SYN_CFG => d.synCfgWrite i v
  | .SYN_FREQ_LO => if i < 4 then d.store r u v else d
  | .SYN_FREQ_HI => d.synFreqHiWrite i v
  | .SYN_CMD => d.firstCmd v [(F.SYN_CMD_RETUNE, fun d => d.retune i), (F.SYN_CMD_STEP, fun d => d.synStep i),
      (F.SYN_CMD_STEP_AT, fun d => d.synStepAt i), (F.SYN_CMD_RESYNC, fun d => d.synResync i),
      (F.SYN_CMD_CANCEL, fun d => d.synCancel i)]
  | .SYN_BAND_W0 => d.bandEntryWrite i (u / 64 % 2) (u % 64) 0 v
  | .SYN_BAND_W1 => d.bandEntryWrite i (u / 64 % 2) (u % 64) 1 v
  | .OUT_CFG => (d.outCfgWrite i v).judgeRelock
  | .OUT_PER_HI => d.outPerHiWrite i v
  | .OUT_WIDTH => d.outWidthWrite i v
  | .OUT_ALIGN => d.outAlignWrite i v
  | .OUT_CMD => d.firstCmd v [(F.OUT_CMD_ALIGN, fun d => d.outAlign i), (F.OUT_CMD_ARM, fun d => d.outArm i),
      (F.OUT_CMD_DISARM, fun d => d.outDisarm i)]
  | _ => d.store r u v

/-- A write of a TIO channel's register (R206, R211, R217, R220, R222). -/
def Dev.writeTioReg (d : Dev) (r : Reg) (u : Nat) (v : Word) : Dev :=
  match r with
  | .TIO_CFG => d.writeTioCfg u v
  | .TIO_OUT_CFG => d.writeTioOutCfg u v
  | .TIO_CMD => d.firstCmd v [(F.TIO_CMD_ARM, fun d => d.armTio u),
      (F.TIO_CMD_DISARM, fun d => (d.endMeas u 7).set F.TIO_CMD_RESULT 1 u), (F.TIO_CMD_START, fun d => d.startTio u),
      (F.TIO_CMD_CANCEL, fun d => d.cancelTio u), (F.TIO_CMD_RECAL, fun d => d.recal u)]
  | _ => d.store r u v

/-- A write of a lane's or a port mode's register (R144, R146, R162, R163). -/
def Dev.writeLaneReg (d : Dev) (r : Reg) (u : Nat) (v : Word) : Dev :=
  match r with
  | .LANE_CFG => d.laneCfgWrite u v
  | .LANE_TEST => d.laneTestWrite u v
  | .LANE_QUAD_CFG => d.quadCfgWrite u v
  | .LANE_QUAD_CMD => d.firstCmd v [(F.LANE_QUAD_CMD_RESTART, fun d => d.quadRestart u)]
  | _ => d.store r u v

/-- A write of a register of a PORT window (R192, R198, R283, R291, R294). -/
def Dev.writePortReg (d : Dev) (r : Reg) (u : Nat) (v : Word) : Dev :=
  let p := r.index u
  match r with
  | .PRT_MAC_ADDR_HI => (d.store r u v).setWord .PRT_MAC_ADDR_LO (32 + u) (d.word .PRT_MAC_ADDR_LO u)
  | .PRT_PTP_CFG => d.writePtpCfg p v
  | .PRT_PTP_RATE => d.writePtpRate p v
  | .PRT_REV_CMD => (d.store r u v).firstCmd v [(F.PRT_REV_CMD_START, fun d => d.revBegin p v),
      (F.PRT_REV_CMD_FINISH, fun d => d.revFinish p), (F.PRT_REV_CMD_APPLY, fun d => d.revApply p),
      (F.PRT_REV_CMD_ABORT, fun d => d.revAbort p)]
  | .PRT_Q_CFG => d.queueWrite p (u % 8) .cfg v
  | .PRT_Q_RES => d.queueWrite p (u % 8) .res v
  | .PRT_GATE_CFG => d.gateWrite p .cfg v
  | .PRT_GCL_BASE_HI => d.gateWrite p (.baseHi (fin2 (u % 2))) v
  | .PRT_GCL_BASE_LO => d.gateWrite p (.baseLo (fin2 (u % 2))) v
  | .PRT_GCL_BASE_NS => d.gateWrite p (.baseNs (fin2 (u % 2))) v
  | .PRT_GCL_CYCLE => d.gateWrite p (.cycle (fin2 (u % 2))) v
  | .PRT_GCL_LEN => d.gateWrite p (.len (fin2 (u % 2))) v
  | .GCL_W0 => d.gateWrite p (.entry (fin2 (u / 1024 % 2)) (fin1024 (u % 1024)) 0) v
  | .GCL_W1 => d.gateWrite p (.entry (fin2 (u / 1024 % 2)) (fin1024 (u % 1024)) 1) v
  | _ => d.store r u v

/-- SW_FDB_CMD (R235): without GO its fields are stored; with GO the command OP is taken. -/
def Dev.writeFdbCmd (d : Dev) (v : Word) : Dev :=
  if !F.SW_FDB_CMD_GO.on v then d.store .SW_FDB_CMD 0 v
  else
    let d := d.store .SW_FDB_CMD 0 v
    match F.SW_FDB_CMD_OP.of v with
    | 0 => d.fdbCmd 0 Dev.fdbLookup
    | 1 => d.fdbCmd 1 Dev.fdbInsert
    | 2 => d.fdbCmd 2 Dev.fdbDelete
    | 3 => d.fdbCmd 3 (fun d => d.fdbRead (F.SW_FDB_CMD_INDEX.of v))
    | 4 => d.fdbCmd 4 (fun d => d.fdbFlush (F.SW_FDB_CMD_BY_PORT.on v) (F.SW_FDB_CMD_BY_VID.on v) (F.SW_FDB_CMD_STATIC_TOO.on v))
    | op => d.fdbCmd op (fun d => d.fdbResult 5)

/-- A word of the stream table (R238 to R241, R257): a retired entry takes no write; a gated slice is ungated. -/
def Dev.writeStream (d : Dev) (r : Reg) (u entry : Nat) (v : Word) : Dev :=
  if d.sw.badTbl.contains (0x0A, entry) then d
  else
    let k := entry / 1024
    let d := d.onSys (fun y => { y with slicesOff := if bitAt y.slicesOff k then y.slicesOff - 2 ^ k else y.slicesOff })
    d.store r u v

/-- A slice that takes part in lookups or is a member of a pair is not gated (R241, R307). -/
def Dev.ungateUsed (d : Dev) : Dev :=
  d.onSys (fun y => { y with slicesOff := maskOf ((List.range 16).filter (fun k =>
    bitAt y.slicesOff k && !d.flag F.SW_ST_SLICE_CFG_EN k && !bitAt (d.get F.SW_ST_PAIR_PAIRED) (k / 2))) })

/-- The fields of the key and mask words of a stream entry; other bits are reserved and read zero (R5), but the entry keeps
them as written: a key bit set there under a set mask bit matches no frame (R240). -/
def streamKeyMask (w : Nat) : Word :=
  match w with | 0 => 0x3FFFFFFF | 1 => 0xFFFFFF | _ => 0xFFFFFFFF

/-- The fields of the action words of a stream entry; other bits are reserved (R239). -/
def streamActMask (w : Nat) : Word :=
  match w with | 0 => 0xFFFF | 1 => 0x1FFFFFF | 2 => 0x3FFFFFF | _ => 0x3FFF

/-- A write of a register or table of the switch core (R231, R235 to R241, R250, R261, R294). -/
def Dev.writeSwReg (d : Dev) (r : Reg) (u : Nat) (v : Word) : Dev :=
  match r with
  | .VLAN_W0 | .VLAN_W1 | .VLAN_W2 | .VLAN_W3 => if u = 0 || u = 4095 || d.sw.badTbl.contains (0x09, u) then d else d.store r u v
  | .SW_FDB_DATA => d.store r u (v &&& 0xFF1F)
  | .SW_ST_SLICE_CFG | .SW_ST_PAIR => (d.store r u v).ungateUsed
  | .SW_FDB_CMD => d.writeFdbCmd v
  | .SW_MIR_CFG =>
    let starts := !d.flag F.SW_MIR_CFG_EN u && F.SW_MIR_CFG_EN.on v
    (d.store r u v).when starts (fun d => d.onSw (fun s => { s with mirCount := tabErase s.mirCount u }))
  | .ST_K => d.writeStream r u (u / 8) v
  | .ST_M => d.writeStream r u (u / 8) v
  | .ST_A => d.writeStream r u (u / 4) (v &&& streamActMask (u % 4))
  | .METER_W0 => d.writeMeter u 0 v
  | .METER_W1 => d.writeMeter u 1 v
  | .METER_W2 => d.writeMeter u 2 v
  | .METER_W3 => d.writeMeter u 3 v
  | .METER_W4 => d.writeMeter u 4 v
  | .SGATE_W2 => d.setWord r u (BitVec.ofNat 32 (min (v.toNat % 2 ^ 30) (d.get F.SGATE_W0_CYCLE u)))
  | .RECOV_W0 => d.writeRecov u 0 v
  | .RECOV_W1 => d.writeRecov u 1 v
  | .RECOV_W2 => d.writeRecov u 2 v
  | .RECOV_W3 => d.writeRecov u 3 v
  | .RECOV_W4 => d.writeRecov u 4 v
  | _ => d.store r u v

/-- The host writes a word of MSG or RSP (R374): outside FREE, or TAKEN, the write is ignored and WR_REJ set. -/
def Dev.mbxWord (d : Dev) (src dst need w : Nat) (rsp : Bool) (v : Word) : Dev :=
  let b := leBytes 4 v.toNat
  if (d.chan src dst).st ≠ need then d.onChan src dst (fun c => { c with wrRej := true })
  else d.onChan src dst (fun c =>
    if rsp then { c with rsp := splice (pad64 c.rsp) (4 * w) b } else { c with msg := splice (pad64 c.msg) (4 * w) b })

/-- A write of an MBX register (R374, R379, R403); `k` numbers the processor of a channel. -/
def Dev.writeMbx (d : Dev) (r : Reg) (u : Nat) (v : Word) : Dev :=
  let k := r.index u + 1
  match r with
  | .MBX_MSG_OUT => d.mbxWord 0 k 0 (u % 16) false v
  | .MBX_RSP_IN => d.mbxWord k 0 2 (u % 16) true v
  | .MBX_CTL_OUT => d.onChan 0 k (fun c => { c with len := F.MBX_CTL_OUT_LEN.of v, ackIrq := F.MBX_CTL_OUT_ACK_IRQ.on v })
  | .MBX_CTL_IN => d.onChan k 0 (fun c => { c with rspLen := F.MBX_CTL_IN_RSP_LEN.of v, postIrq := F.MBX_CTL_IN_POST_IRQ.on v })
  | .MBX_CMD_OUT =>
    (d.onChan 0 k (fun c => { c with code := F.MBX_CMD_OUT_CODE.of v })).firstCmd v [(F.MBX_CMD_OUT_POST, fun d => d.mbxPost 0 k []),
      (F.MBX_CMD_OUT_WITHDRAW, fun d => d.mbxWithdraw 0 k), (F.MBX_CMD_OUT_RELEASE, fun d => d.mbxRelease 0 k),
      (F.MBX_CMD_OUT_TAKE, fun d => d.mbxResult 0 k 0 4), (F.MBX_CMD_OUT_ACK, fun d => d.mbxResult 0 k 0 4)]
  | .MBX_CMD_IN =>
    (d.onChan k 0 (fun c => { c with code := F.MBX_CMD_IN_CODE.of v })).firstCmd v [(F.MBX_CMD_IN_POST, fun d => d.mbxResult k 0 0 4),
      (F.MBX_CMD_IN_WITHDRAW, fun d => d.mbxResult k 0 0 4), (F.MBX_CMD_IN_RELEASE, fun d => d.mbxResult k 0 0 4),
      (F.MBX_CMD_IN_TAKE, fun d => d.mbxTake k 0), (F.MBX_CMD_IN_ACK, fun d => d.mbxAck k 0 (F.MBX_CMD_IN_CODE.of v) [])]
  | .MBX_STAT_OUT => d.when (F.MBX_STAT_OUT_WR_REJ.on v) (fun d => d.onChan 0 k (fun c => { c with wrRej := false }))
  | .MBX_STAT_IN => d.when (F.MBX_STAT_IN_WR_REJ.on v) (fun d => d.onChan k 0 (fun c => { c with wrRej := false }))
  | .MBX_SUMMARY => d.store r u v
  | .MBX_HOST_CMD => d.when (F.MBX_HOST_CMD_RESTART.on v) Dev.hostRestart
  | _ => d

/-- GLB_HOST_HB (R369, R372): a write of TIMEOUT restarts the count and zero ends HOST_SILENT; KICK restarts it and ends
HOST_SILENT. -/
def Dev.hbKick (d : Dev) : Dev :=
  ({ d with pcie := { d.pcie with hbRuns := d.get F.GLB_HOST_HB_TIMEOUT != 0 } }).cond .hostSilent false
def Dev.writeHb (d : Dev) (v : Word) : Dev :=
  let d := d.store .GLB_HOST_HB 0 v
  let runs := d.get F.GLB_HOST_HB_TIMEOUT != 0
  let d := { d with pcie := { d.pcie with hbRuns := runs } }
  let d := if runs then d else d.cond .hostSilent false
  d.when (F.GLB_HOST_HB_KICK.on v) Dev.hbKick

/-- A write of a register of the RING, ALARM, POWER, GLOBAL or MBX block (R310, R330, R372, R386, R391, R393, R399, R402). -/
def Dev.writeBlockReg (d : Dev) (r : Reg) (u : Nat) (v : Word) : Dev :=
  if r.isMbx then d.writeMbx r u v
  else match r with
  | .RING_CTRL => d.ringCtrlWrite v
  | .RING_HOST_BASE_LO | .RING_HOST_BASE_HI | .RING_HOST_ENTRIES => d.ringPlaceWrite r v
  | .RING_AREA_ADDR => d.setWord r 0 (BitVec.ofNat 32 (F.RING_AREA_ADDR_ADDR.of v / 4 * 4))
  | .CNT_DATA => d.cntDataWrite v 0
  | .CNT_CFG => d.cntCfgWrite v
  | .ALM_LATCH => d.clearLatch u v
  | .ALM_REEN => (d.store r u v).firstCmd v [(F.ALM_REEN_GO, fun d => d.reEnable (F.ALM_REEN_CLASS.of v))]
  | .PWR_FAST_CMD => d.firstCmd v [(F.PWR_FAST_CMD_STOP, Dev.fastStop)]
  | .PWR_GATE_CFG => d.gateCfgWrite v
  | .PWR_PORT_CFG => d.latWrite u .portCfg v
  | .PWR_LAT => d.latWrite (u / 8) (.lat (finClass (u % 8))) v
  | .GLB_HOST_HB => d.writeHb v
  | _ => d.store r u v

/-- A write of a register that is reached (R353): by its space. -/
def Dev.writeReg (d : Dev) (r : Reg) (u : Nat) (v : Word) : Dev :=
  let b := r.spec.base
  match r.spec.space with
  | .tb => d.writeTimeReg r u v
  | .rsel => d.writeTimeReg r u v
  | .syn => d.writeSynReg r u v
  | .tio => d.writeTioReg r u v
  | .lane => d.writeLaneReg r u v
  | .firn => d.store r u v
  | .bar0 =>
    if b < 0x100000 then d.writeBlockReg r u v
    else if b < 0x200000 || r == .GCL_W0 || r == .GCL_W1 then d.writePortReg r u v
    else d.writeSwReg r u v

/-- A write that a party's access makes, where START of the fast domain reads images from the flash (R296). -/
def State.writeReg (s : State) (r : Reg) (u : Nat) (v : Word) : State :=
  if r = .PWR_FAST_CMD && F.PWR_FAST_CMD_START.on v then s.fastCommand else s.onDev (·.writeReg r u v)

/-! ## Reads -/

/-- Time status, UTC data and servo report as a TB space shows them (R49, R86). -/
def Dev.servoStat (d : Dev) (t : TbId) : Word :=
  let w := d.word .TB_SERVO_STAT t.num
  match d.role t with
  | 5 => w
  | 7 => w
  | 2 | 3 | 4 => putBits (BitVec.ofNat 32 (10000 + 5 * 2 ^ 16)) 21 1 (bitNat (d.clamped t))
  | _ => BitVec.ofNat 32 (5 * 2 ^ 16)
def Dev.utcWord (d : Dev) : Word :=
  BitVec.ofNat 32 (twosOf d.utcOffset 16 + 2 ^ 16 * bitNat d.mir.leap61 + 2 ^ 17 * bitNat d.mir.leap59 + 2 ^ 18 * bitNat d.mir.utcValid)

/-- RSEL_CAND_TOFS in ns (R88): zero for FREQ candidates and while STATE is UNSET. -/
def Dev.tofs (d : Dev) (i : Nat) : Word :=
  if d.mir.state = .unset || d.kindOf i == .freq || !(d.cand i).hasOffset then 0
  else BitVec.ofNat 32 (twosOf (clampInt (-2147483647) 2147483647 (divFree (d.cand i).offset 65536)) 32)

/-- A word of 64 message bytes. -/
def mbxRead (b : List Byte) (w : Nat) : Word := BitVec.ofNat 32 (leNat (slice b (4 * w) 4))

/-- MBX_STAT of a channel. -/
def Chan.stat (c : Chan) : Word :=
  BitVec.ofNat 32 (c.st + 8 * bitNat c.redeliv + 16 * bitNat c.wrRej + 2 ^ 16 * (c.ackCode % 65536))

/-- An MBX register as the host reads it. -/
def Dev.readMbx (d : Dev) (r : Reg) (u : Nat) : Word :=
  let k := r.index u + 1
  let o := d.chan 0 k
  let i := d.chan k 0
  match r with
  | .MBX_MSG_OUT => mbxRead o.msg (u % 16)
  | .MBX_RSP_OUT => mbxRead o.rsp (u % 16)
  | .MBX_MSG_IN => mbxRead i.msg (u % 16)
  | .MBX_RSP_IN => mbxRead i.rsp (u % 16)
  | .MBX_CTL_OUT => BitVec.ofNat 32 (o.len + 128 * bitNat o.ackIrq + 256 * o.rspLen + 2 ^ 15 * bitNat o.postIrq)
  | .MBX_CTL_IN => BitVec.ofNat 32 (i.len + 128 * bitNat i.ackIrq + 256 * i.rspLen + 2 ^ 15 * bitNat i.postIrq)
  | .MBX_CMD_OUT => BitVec.ofNat 32 (o.result * 256 + o.code * 2 ^ 16)
  | .MBX_CMD_IN => BitVec.ofNat 32 (i.result * 256 + i.code * 2 ^ 16)
  | .MBX_STAT_OUT => o.stat
  | .MBX_STAT_IN => i.stat
  | .MBX_SUMMARY => d.word r u ||| BitVec.ofNat 32 d.mbxSummaryBits
  | _ => 0

/-- What a reached register shows, its side effects apart: registers whose content a chapter ties to other state are
computed here. -/
def Dev.readReg (d : Dev) (r : Reg) (u : Nat) : Word :=
  if d.absent r u then 0
  else if r.isMbx then d.readMbx r u
  else match r with
  | .TB_TSTAT => putBits (d.word r u) 0 16 d.statusWord
  | .TB_UTC => d.utcWord
  | .TB_SERVO_STAT => d.servoStat (tbOf u)
  | .RSEL_CAND_TOFS => d.tofs u
  | .RSEL_CAND_STAT => if u = 36 then d.word r u ||| 1 else d.word r u
  | .GLB_ID => BitVec.ofNat 32 (d.ident.variant % 16 + 16 * (d.ident.dieStep % 16))
  | .GLB_SERIAL_HI => d.ident.serialHi
  | .GLB_SERIAL_LO => d.ident.serialLo
  | .GLB_HOST_HB => putBits (d.word r u) 17 1 (bitNat (d.alarmOn .hostSilent))
  | .IND_STAT => putBits (putBits (d.word r u) 0 6 (min 63 d.pcie.indQueue.length)) 6 1 (if 64 ≤ d.pcie.indQueue.length then 1 else 0)
  | .ALM_LOG_STAT => BitVec.ofNat 32 d.log.length
  | .CNT_DATA => d.counter (d.get F.CNT_IDX_IDX)
  | .CNT_CFG => let i := d.get F.CNT_IDX_IDX; if isReserve i || isSelectable i then d.cntCfgOf i else 0
  | .SW_BUF_FREE => BitVec.ofNat 32 d.bufFree
  | .SW_BUF_USED => BitVec.ofNat 32 d.bufUsed
  | .SW_BUF_RETIRED => BitVec.ofNat 32 (d.bufRetired + 2 ^ 31 * bitNat (2949 ≤ d.bufRetired))
  | .SW_BUF_GATED_CELLS => BitVec.ofNat 32 d.bufGated
  | .SW_POOL_SHARED => BitVec.ofNat 32 d.sharedAvail
  | .SW_POOL_SHARED_USED => BitVec.ofNat 32 d.sharedUsed
  | .SW_POOL_RES => BitVec.ofNat 32 (d.resTotal + 2 ^ 31 * bitNat (d.avail < d.resTotal))
  | .SW_POOL_RES_USED => BitVec.ofNat 32 d.resUsed
  | .SW_HOLD_STAT => BitVec.ofNat 32 d.sw.holds.length
  | .PRT_Q_STAT => putBits (d.word r u) 0 19 (d.occupancy (u / 8) (u % 8))
  | .METER_W5 => BitVec.ofNat 32 ((d.meterNow u).1 / bucketByte)
  | .METER_W6 => BitVec.ofNat 32 ((d.meterNow u).2 / bucketByte)
  | .SGATE_W5 => putBits (d.word r u) 0 1 (bitNat (d.sgateNow u d.now))
  | .ST_K => if bitAt d.sys.slicesOff (u / 8192) then 0 else d.word r u &&& streamKeyMask (u % 8)
  | .ST_M => if bitAt d.sys.slicesOff (u / 8192) then 0 else d.word r u &&& streamKeyMask (u % 8)
  | .ST_A => if bitAt d.sys.slicesOff (u / 4096) then 0 else d.word r u
  | _ => d.word r (r.home u)

end Sys2Proof.Machine
end

