-- ==== Sys2Proof/Machine/Boot.lean ====
section
/-! DEFINITION. Start-up, configuration images, resets and the settings record (12_boot_and_configuration.md, R311 to R330):
the stages from ROM to RUNNING, the records of an image, GLB_RESET and GLB_CFG_CMD, watchdogs, and what the module writes
about itself. -/

namespace Sys2Proof.Machine

/-! ## The settings record (R327, R328) -/

/-- The settings record in force, or zeros where there is none (R328). -/
def Dev.settingsBase (d : Dev) : List Byte := d.sys.settings ++ List.replicate 256 0

/-- The record that the FSP writes now, with given model bytes 8 to 40 (R327). -/
def State.settingsRecord (s : State) (model : List Byte) : List Byte :=
  let d := s.dev
  let seq := match setNewest s.flash with | some (_, q) => q + 1 | none => 1
  setSeal (leBytes 2 1 ++ [0, 0] ++ leBytes 4 seq ++ model ++ leBytes 1 (d.get F.GLB_BOOT_STAT_RESET_CAUSE) ++
    leBytes 2 (twosOf d.sys.tempMax 16) ++ leBytes 4 (d.get F.FIRN_LIFE_POWER_ON_HOURS) ++ leBytes 4 (d.get F.FIRN_BOOTS_BOOTS) ++
    leBytes 4 d.sys.refreshH ++ List.replicate 196 0)

/-- Appends a settings record (R327); it is in force from now on. -/
def State.writeSettings (s : State) (model : List Byte) : State :=
  let r := s.settingsRecord model
  let m := setAppend s.flash r
  ({ s with flash := m } : State).onDev (fun d => (d.countDev 290).onSys (fun y => { y with settings := r }))

/-- Bytes 8 to 40 of the record in force. -/
def Dev.modelBytes (d : Dev) : List Byte := slice d.settingsBase 8 33

/-- The valid record with the highest SEQ, where its FORMAT is that of the image (R327, R328). -/
def settingsFound (m : List Host.Cell) : Option (List Byte) :=
  match setNewest m with
  | some (i, _) => if flashNat m (setAddr i) 2 = 1 then some (flashBytes m (setAddr i) 256) else none
  | none => none

/-- The FSP takes its settings at start-up, or their defaults with SETTINGS_RESET (R328); then it writes a record. A TEMP_MAX
without a record is not stated. -/
def State.takeSettings (s : State) : State :=
  let s := match settingsFound s.flash with
    | some r => s.onDev (fun d =>
        ((d.set F.FIRN_LIFE_POWER_ON_HOURS (leNat (slice r 44 4))).set F.FIRN_BOOTS_BOOTS (leNat (slice r 48 4) + 1)).onSys
          (fun y => { y with settings := r, tempMax := signedOf (leNat (slice r 42 2)) 16, refreshH := leNat (slice r 52 4) }))
    | none => s.onDev (fun d =>
        let free := signedOf (d.freeVal % 65536) 16
        let d := ((d.setB F.GLB_BOOT_STAT_SETTINGS_RESET true).raise .settingsReset).countDev 291
        ((d.set F.FIRN_LIFE_POWER_ON_HOURS 0).set F.FIRN_BOOTS_BOOTS 1).spendFree.onSys
          (fun y => { y with settings := [], tempMax := free, refreshH := 0 }))
  s.writeSettings s.dev.modelBytes

/-- SETTINGS_PERIODIC_WRITE (R327). -/
def execSettingsPeriodicWrite (s : State) : Host.Outcome State Fault Refusal :=
  .next (if s.dev.stage < 2 || s.dev.stage == 8 then s else s.writeSettings s.dev.modelBytes)

/-- A timebase has learned for 24 h since its rates were last written (R63). -/
def Timebase.due (t : Timebase) : Bool := decide (t.savedH + 24 ≤ t.learnMs / 3600000)

/-- The model bytes with the rates of a timebase that are due. -/
def putModel (b : List Byte) (i : Nat) (t : Timebase) : List Byte :=
  if t.due then
    let b := splice b (16 * i) (leBytes 8 (twosOf t.ageing 64) ++ leBytes 8 (twosOf t.tempCo 64))
    splice b 32 [BitVec.ofNat 8 (byteAt b 32 ||| 2 ^ i)]
  else b

/-- MODEL_SETTINGS_WRITE (R63): the rates of every timebase that has learned for 24 h more. -/
def State.modelWrite (s : State) : State :=
  let d := s.dev
  if !(d.tbA.due || d.tbB.due) || d.stage < 2 || d.stage == 8 then s
  else
    let s := s.writeSettings (putModel (putModel d.modelBytes 0 d.tbA) 1 d.tbB)
    let saved (t : Timebase) : Timebase := if t.due then { t with savedH := t.learnMs / 3600000 } else t
    s.onDev (fun d => { d with tbA := saved d.tbA, tbB := saved d.tbB })
def execModelSettingsWrite (s : State) : Host.Outcome State Fault Refusal := .next s.modelWrite

/-- RETENTION_REFRESH_SECTOR (R329): begun once POWER_ON_HOURS exceeds REFRESH_HOURS by 87,600 h, one sector of each region but
the settings area at a time; not while an erase or a page program of the host runs. -/
def State.refreshStep (s : State) : State :=
  let d := s.dev
  let runs := d.flag F.FIRN_REFRESH_STAT_RUNNING
  let life := d.get F.FIRN_LIFE_POWER_ON_HOURS
  if d.stage < 2 || d.stage == 8 || d.flag F.UPD_STAT_NVM_BUSY || !(runs || decide (d.sys.refreshH + 87600 ≤ life)) then s
  else
    let left := if runs then d.get F.FIRN_REFRESH_STAT_SECTORS_LEFT else refreshList.length
    let sector := refreshList.getD (refreshList.length - left) 0
    let m := refreshSector s.flash sector
    ({ s with flash := m } : State).onDev (fun d =>
      let d := ((d.countDev 293).set F.FIRN_REFRESH_STAT_SECTORS_LEFT (left - 1)).setB F.FIRN_REFRESH_STAT_RUNNING (1 < left)
      d.when (left ≤ 1) (fun d => d.onSys (fun y => { y with refreshH := life })))
def execRetentionRefreshSector (s : State) : Host.Outcome State Fault Refusal := .next s.refreshStep

/-! ## Applying configuration records (R323, R324) -/

/-- The RESULT field of a command register, and the codes with which its rules refuse a command. -/
def refusals : Reg → Option (Fld × List Nat)
  | .TB_TCMD => some (F.TB_TCMD_RESULT, [2, 3, 4, 5])
  | .TB_MODEL_CMD => some (F.TB_MODEL_CMD_RESULT, [2])
  | .TB_TWIN_CMD => some (F.TB_TWIN_CMD_RESULT, [2, 3, 4, 5, 6, 7])
  | .SYN_CMD => some (F.SYN_CMD_RESULT, [2, 3, 4, 5, 6, 7, 9, 10])
  | .OUT_CMD => some (F.OUT_CMD_RESULT, [2, 3, 4, 5, 6, 7, 9])
  | .LANE_QUAD_CMD => some (F.LANE_QUAD_CMD_RESULT, [2, 3])
  | .PRT_REV_CMD => some (F.PRT_REV_CMD_RESULT, [2, 3])
  | .TIO_CMD => some (F.TIO_CMD_RESULT, [2, 3, 4, 5, 6, 7, 8])
  | .SW_FDB_CMD => some (F.SW_FDB_CMD_RESULT, [3, 4, 5])
  | .PWR_FAST_CMD => some (F.PWR_FAST_CMD_RESULT, [2, 3])
  | .ALM_REEN => some (F.ALM_REEN_RESULT, [2, 3, 4, 5, 6])
  | _ => none

/-- The flag that tells of a refused write of a register and unit, with its own unit. -/
def rejFlag (r : Reg) (u : Nat) : Option (Fld × Nat) :=
  match r with
  | .OUT_CFG => some (F.OUT_STAT_CFG_REJ, u)
  | .LANE_CFG => some (F.LANE_STAT_CFG_REJ, u)
  | .LANE_TEST => some (F.LANE_STAT_CFG_REJ, u)
  | .PRT_PTP_CFG => some (F.PRT_PTU_STAT_CFG_REJ, u)
  | .PRT_Q_CFG => some (F.PRT_GATE_STAT_CFG_REJ, r.index u)
  | .PRT_Q_RES => some (F.PRT_GATE_STAT_CFG_REJ, r.index u)
  | .PRT_GATE_CFG => some (F.PRT_GATE_STAT_CFG_REJ, u)
  | .PRT_GCL_BASE_HI => some (F.PRT_GATE_STAT_CFG_REJ, r.index u)
  | .PRT_GCL_BASE_LO => some (F.PRT_GATE_STAT_CFG_REJ, r.index u)
  | .PRT_GCL_BASE_NS => some (F.PRT_GATE_STAT_CFG_REJ, r.index u)
  | .PRT_GCL_CYCLE => some (F.PRT_GATE_STAT_CFG_REJ, r.index u)
  | .PRT_GCL_LEN => some (F.PRT_GATE_STAT_CFG_REJ, r.index u)
  | .GCL_W0 => some (F.PRT_GATE_STAT_CFG_REJ, r.index u)
  | .GCL_W1 => some (F.PRT_GATE_STAT_CFG_REJ, r.index u)
  | .TIO_CFG => some (F.TIO_STAT_CFG_REJ, u)
  | .CNT_CFG => some (F.RING_STAT_CFG_REJ, 0)
  | .TB_TCMD => some (F.TB_TCMD_IGNORED, u)
  | _ => none

/-- A write that its register ignores in every state: no field takes it, it belongs to an internal or absent synthesizer, to a
retired table entry, to an absent counter, to one without a selection or a chain, or to the other party of a mailbox. -/
def Dev.deafTo (d : Dev) (r : Reg) (u : Nat) : Bool :=
  d.absent r u || r.spec.fields.all (fun f => f.acc == .ro) ||
  (match r with
    | .SYN_FREQ_LO => decide (4 ≤ u)
    | .SYN_FREQ_HI => decide (4 ≤ u)
    | .VLAN_W0 | .VLAN_W1 | .VLAN_W2 | .VLAN_W3 => d.sw.badTbl.contains (0x09, u)
    | .ST_K | .ST_M => d.sw.badTbl.contains (0x0A, u / 8)
    | .ST_A => d.sw.badTbl.contains (0x0A, u / 4)
    | .CNT_DATA => d.cntAbsent (d.get F.CNT_IDX_IDX)
    | .CNT_CFG => let i := d.get F.CNT_IDX_IDX; d.cntAbsent i || !(isReserve i || isSelectable i)
    | .MBX_MSG_IN | .MBX_RSP_OUT => true
    | .MBX_MSG_OUT => (d.chan 0 (r.index u + 1)).st != 0
    | .MBX_RSP_IN => (d.chan (r.index u + 1) 0).st != 2
    | _ => false)

/-- A mailbox command that the write has had refused. -/
def Dev.mbxRefused (d : Dev) (r : Reg) (u : Nat) (v : Word) : Bool :=
  let k := r.index u + 1
  v.toNat % 32 != 0 && (match r with
    | .MBX_CMD_OUT => decide (2 ≤ (d.chan 0 k).result)
    | .MBX_CMD_IN => decide (2 ≤ (d.chan k 0).result)
    | _ => false)

/-- A write of which its register refuses a part without a flag: SRC = INPUT on XM1624-S (R3). -/
def Dev.shuns (d : Dev) (r : Reg) (v : Word) : Bool := r == .OUT_ALIGN && d.small && F.OUT_ALIGN_SRC.on v

/-- Makes a register write of a record, and tells whether a rule of the register refuses or ignores it (R323). -/
def State.tryWrite (s : State) (r : Reg) (u : Nat) (v : Word) : State × Bool :=
  if s.dev.deafTo r u then (s, true)
  else
    let res := refusals r
    let rej := rejFlag r u
    let h := r.home u
    let part := s.dev.shuns r v
    let oldRes := match res with | some (f, _) => s.dev.get f h | none => 0
    let oldRej := match rej with | some (f, k) => s.dev.flag f k | none => false
    let s := match res with | some (f, _) => s.onDev (·.set f 0 h) | none => s
    let s := match rej with | some (f, k) => s.onDev (·.setB f false k) | none => s
    let s := s.writeReg r u v
    let newRes := match res with | some (f, _) => s.dev.get f h | none => 0
    let newRej := match rej with | some (f, k) => s.dev.flag f k | none => false
    let bad := part || newRej || (match res with | some (_, l) => l.contains newRes | none => false) || s.dev.mbxRefused r u v
    let s := match res with | some (f, _) => s.onDev (fun d => if newRes = 0 then d.set f oldRes h else d) | none => s
    let s := match rej with | some (f, k) => s.onDev (·.setB f (oldRej || newRej) k) | none => s
    (s, bad)

/-- A write of a record at an address: ignored where no register lies there or the access does not reach it. -/
def State.writeAt (s : State) (cp : Bool) (at_ : Option (Reg × Nat)) (v : Word) : State × Bool :=
  match at_ with
  | none => (s, true)
  | some (r, u) => if s.dev.reaches cp r then s.tryWrite r u v else (s, true)

/-- An FDB_STATIC entry (R320): INSERT with STATIC set; FULL and BUSY are refusals. -/
def Dev.insertStatic (d : Dev) (key : Nat × Nat) (data mask : Nat) : Dev × Bool :=
  let d := (d.store .SW_FDB_KEY_LO 0 (BitVec.ofNat 32 key.1)).store .SW_FDB_KEY_HI 0 (BitVec.ofNat 32 key.2)
  let d := (d.store .SW_FDB_DATA 0 (BitVec.ofNat 32 (data ||| 0x200))).store .SW_FDB_MASK 0 (BitVec.ofNat 32 mask)
  let d := d.fdbCmd 1 Dev.fdbInsert
  (d, d.get F.SW_FDB_CMD_RESULT != 1)

/-- The data set values of a PTP_INSTANCE record: MANAGEMENT TLVs one after the other (R320). -/
def mgmtTlvs : Nat → List Byte → List (Nat × List Byte)
  | 0, _ => []
  | fuel + 1, b =>
    let n := beNat (slice b 2 2)
    if b.length < 6 || n < 2 then []
    else (beNat (slice b 4 2), slice b 6 (n - 2)) :: mgmtTlvs fuel (b.drop (4 + n))

/-- The domain number of an instance, held to the range of its profile (R181). -/
def domainIn (profile x : Nat) : Nat :=
  match profile with
  | 3 => clampNat 24 43 x
  | 4 => clampNat 44 63 x
  | _ => min 127 x

/-- A PTP_INSTANCE record (R180, R182, R320): the CP creates the instance, and the ports that name it begin in it; an instance
of no number, kind or profile, or one that exists, cannot be created. One of the carry-over record that is unchanged goes on
(R339). -/
def Dev.makeInstance (d : Dev) (b : List Byte) : Dev × Bool :=
  let i := byteAt b 0
  let x := d.inst i
  let dom := domainIn (byteAt b 2) (byteAt b 3)
  if 4 ≤ i || 2 < byteAt b 1 || 5 < byteAt b 2 || b.length < 4 || (x.made && !d.sys.carryover) then (d, true)
  else if x.made && x.kind == byteAt b 1 && x.profile == byteAt b 2 && x.domain == dom then (d, false)
  else
    let x : PtpInst := ⟨true, byteAt b 1, byteAt b 2, dom, mgmtTlvs b.length (b.drop 4)⟩
    let d := d.onInst i (fun _ => x)
    (d.each (d.portList.filter (fun p => d.instOf p == some i)) (fun d p =>
      ((d.resetRates p).ptpBegin p).judgeSleep p), false)

/-- One operation of a record. -/
def State.applyOp (s : State) (cp : Bool) (o : CfgOp) : State × Bool :=
  match o with
  | .bar0 a v => s.writeAt cp (regAt .bar0 a) v
  | .ind sp a v => s.writeAt cp (indRegAt sp a) v
  | .fdb key data mask => let (d, bad) := s.dev.insertStatic key data mask; ({ s with dev := d }, bad)
  | .ptp b => let (d, bad) := s.dev.makeInstance b; ({ s with dev := d }, bad)

/-- Where an operation writes, as R323 logs it: the space, 16 for BAR0, and the address. -/
def CfgOp.place : CfgOp → Nat × Nat
  | .bar0 a _ => (16, a)
  | .ind sp a _ => (sp, a)
  | .fdb _ _ _ => (16, 0x400000)
  | .ptp _ => (16, 0x100000)

/-- A new application begins: WARN counts anew (R323). -/
def State.beginApply (s : State) : State :=
  s.onDev (fun d => (d.set F.GLB_CFG_STAT_WARN 0).onSys (fun y => { y with cfgLog := [] }))

/-- Applies operations in image order (R323); what is refused or ignored is counted in WARN and logged. -/
def State.applyOps (s : State) (cp : Bool) (ops : List CfgOp) : State :=
  ops.foldl (fun s o =>
    match s.applyOp cp o with
    | (s, false) => s
    | (s, true) => s.onDev (fun d => (d.set F.GLB_CFG_STAT_WARN (min 4095 (d.get F.GLB_CFG_STAT_WARN + 1))).onSys
        (fun y => { y with cfgLog := y.cfgLog ++ [o.place] }))) s

/-- R321 on a slot against some images, with its counts: SKIPPED, FAIL_RECORD and the checks that failed. -/
def State.checkSlot (s : State) (ifs : List Image) (slot : Nat) : State × CfgCheck :=
  let c := checkCfg s.flash s.dev.ident.variant ifs slot
  (s.onDev (fun d =>
    if c.result = 1 then d.set F.GLB_CFG_STAT_SKIPPED (min 15 c.skipped)
    else (match c.failRec with | some i => d.set F.GLB_CFG_STAT_FAIL_RECORD i | none => d).countDev 288), c)

/-- CONFIG_FALLBACK is raised and counted. -/
def Dev.configFellBack (d : Dev) : Dev := (d.raise .configFallback).countDev 289

/-- The instances of the carry-over record that no record of an image creates end (R182, R339). -/
def Dev.endInstances (d : Dev) (ops : List CfgOp) : Dev :=
  let named := ops.filterMap (fun o => match o with | .ptp b => some (byteAt b 0) | _ => none)
  if !d.sys.carryover then d
  else d.each ((List.range 4).filter (fun i => (d.inst i).made && !named.contains i)) (fun d i =>
    (d.onInst i (fun _ => PtpInst.init)).each (d.portList.filter (fun p => d.instOf p == some i)) (fun d p =>
      (d.ptpBegin p).judgeSleep p))

/-- The CP takes the fast records of the slot that R324 names. -/
def State.applyFast (s : State) : State :=
  let take (s : State) (slot : Nat) (c : CfgCheck) : State :=
    let s := s.beginApply.applyOps true (c.ops true)
    s.onDev (fun d => ((d.endInstances (c.ops true)).set F.GLB_BOOT_STAT_FAST_SLOT slot).set F.GLB_CFG_FAST_ID_IMAGE_ID c.imageId)
  let sel := (hdrNow s.flash).configSel
  let firn := s.dev.get F.GLB_BOOT_STAT_CFG_SLOT
  let (s, c) := s.checkSlot s.dev.sys.images sel
  if c.result = 1 then take s sel c
  else
    let none (s : State) : State := s.onDev (fun d => (d.set F.GLB_BOOT_STAT_FAST_SLOT 2).set F.GLB_CFG_FAST_ID_IMAGE_ID 0)
    if 2 ≤ firn then none s
    else
      let (s, c) := s.checkSlot s.dev.sys.images firn
      if c.result = 1 then take (s.onDev Dev.configFellBack) firn c else none s

/-- The Firn records of an accepted image are applied; CFG_SLOT and GLB_CFG_ID tell of them (R322). -/
def State.applyFirn (s : State) (slot : Nat) (c : CfgCheck) : State :=
  let s := s.beginApply.applyOps false (c.ops false)
  s.onDev (fun d => ((d.set F.GLB_BOOT_STAT_CFG_SLOT slot).set F.GLB_CFG_ID_IMAGE_ID c.imageId).onSys
    (fun y => { y with fastStartDirected := c.fastStart }))

/-! ## The stages (R313, R346) -/

/-- ROM_STAGE: the journal is restored (R329), the boot headers are read (R312), and the loader acts on the effective state of
the one in force (R346). -/
def State.rom (s : State) : State :=
  let (m, back) := restoreAll s.flash
  let s : State := ({ s with flash := m } : State).onDev (fun d => d.when back (fun d => d.setB F.FIRN_REFRESH_STAT_RESTORED true))
  let s := match hdrCopy s.flash with
    | none => ({ s with flash := hdrWrite s.flash .lost } : State).onDev (fun d =>
        (d.setB F.GLB_BOOT_STAT_HDR_LOST true).raise .bootHdrLost)
    | some _ =>
      let h := hdrNow s.flash
      match hdrState s.flash with
      | 1 => { s with flash := hdrMark s.flash 64 }
      | 2 =>
        ({ s with flash := hdrWrite s.flash { h with bundleSel := h.prevBundle, configSel := h.prevConfig, state := 3, failCause := 4 } } :
          State).onDev (fun d => ((d.raise .fwFallback).countDev 299).devEvent true 0x144 0)
      | _ => s
  let slot := s.bundleSlot
  (s.refreshUpd).onDev (fun d => (d.set F.GLB_BOOT_STAT_BUNDLE_SLOT slot).setStage 1)
def execRomStage (s : State) : Host.Outcome State Fault Refusal :=
  .next (if s.dev.sys.powered && !s.dev.sys.held && s.dev.stage == 0 then s.rom else s)

/-- An image of the selected slot fails at stage 1 or 2 (R346, R341): on trial the module falls back with HEALTH; else the
other slot is booted if it passes R332, and RECOVERY if not (R317). -/
def State.imageFails (s : State) (boot : State → Nat → State) : State :=
  let other := 1 - s.dev.get F.GLB_BOOT_STAT_BUNDLE_SLOT
  if s.onTrial then s.fallback 2
  else if (bundleFault s.flash s.dev.ident.variant other).isNone then
    boot (s.onDev (fun d => (d.raise .fwSlotFallback).set F.GLB_BOOT_STAT_BUNDLE_SLOT other)) other
  else s.onDev (·.setStage 8)

/-- The FSP runs from a slot. -/
def State.fspRuns (s : State) (slot : Nat) : State :=
  let l := readImages s.flash slot
  let id := bundleId s.flash slot
  s.onDev (fun d => ((d.onSys (fun y => { y with images := l })).runImage 0 (imageAt l 0)).set F.UPD_SLOT_ID_BUNDLE_ID id slot)

/-- FSP_IMAGE_LOADED: the FSP is started and takes its settings; a record is written at every start-up (R327). -/
def State.loadFsp (s : State) : State :=
  let slot := s.dev.get F.GLB_BOOT_STAT_BUNDLE_SLOT
  let run (s : State) (slot : Nat) : State := ((s.fspRuns slot).takeSettings).onDev (·.setStage 2)
  if s.imageGood slot 0 then run s slot else s.imageFails run
def execFspImageLoaded (s : State) : Host.Outcome State Fault Refusal := .next (if s.dev.stage == 1 then s.loadFsp else s)

/-- A TBP seeds its model from the settings record (R63). -/
def Dev.seedModel (d : Dev) (t : TbId) : Dev :=
  let b := d.modelBytes
  let i := t.num
  if bitAt (byteAt b 32) i then
    (d.onTb t (fun x => { x with
      ageing := signedOf (leNat (slice b (16 * i) 8)) 64, tempCo := signedOf (leNat (slice b (16 * i + 8) 8)) 64, seeded := true })).setB
      F.TB_MODEL_STAT_SEEDED true i
  else d

/-- TBP_IMAGE_LOADED: the TBP image is loaded into both TBPs, which are held in WARMING. -/
def State.loadTbp (s : State) : State :=
  let slot := s.dev.get F.GLB_BOOT_STAT_BUNDLE_SLOT
  let run (s : State) (slot : Nat) : State :=
    let i := readImage s.flash slot 1
    s.onDev (fun d => (((((d.runTbp .a i).runTbp .b i).seedModel .a).seedModel .b).setRole .a 1).setRole .b 1 |>.setStage 3)
  if s.imageGood slot 1 then run s slot else s.imageFails (fun s slot => run (s.fspRuns slot) slot)
def execTbpImageLoaded (s : State) : Host.Outcome State Fault Refusal := .next (if s.dev.stage == 2 then s.loadTbp else s)

/-- CONFIG_STAGE (R322). -/
def State.config (s : State) : State :=
  let ifs := s.dev.sys.images
  let sel := (hdrNow s.flash).configSel
  let (s, c) := s.checkSlot ifs sel
  let s := if c.result = 1 then s.applyFirn sel c
    else
      let (s, c) := s.checkSlot ifs (1 - sel)
      if c.result = 1 then
        (s.applyFirn (1 - sel) c).onDev (fun d => (d.setB F.GLB_BOOT_STAT_FALLBACK true).configFellBack)
      else s.onDev (·.onSys (fun y => { y with fastStartDirected := false }))
  s.onDev (fun d => d.judgeConfigNone.setStage 4)
def execConfigStage (s : State) : Host.Outcome State Fault Refusal := .next (if s.dev.stage == 3 then s.config else s)

/-- The confirm window of a RESTART trial starts (13_firmware_update.md, "Trial and confirmation"; R343). -/
def State.startWindow (s : State) : State :=
  let h := hdrNow s.flash
  if !s.onTrial || h.mode == 1 || s.dev.get F.UPD_STAT_STEP == 8 then s
  else s.onDev (fun d => ((d.showStep 8).set F.UPD_CONFIRM_LEFT_LEFT h.confirmS).onSys
    (fun y => { y with winLeft := h.confirmS * 10 ^ 8 }))

/-- OCXO_OSCILLATES (R314). -/
def Dev.oscillates (d : Dev) (t : TbId) : Dev :=
  if !d.sys.powered then d
  else (d.onTb t (fun b => { b with osc := true })).setMark (match t with | .a => F.FIRN_OCXO_STAT_OSC_A | .b => F.FIRN_OCXO_STAT_OSC_B)
    1 F.FIRN_OCXO_STAT_CHANGED
def execOcxoOscillates (t : TbId) (s : State) : Host.Outcome State Fault Refusal := .next (s.onDev (·.oscillates t))

/-- The first timebase becomes ACTIVE (R90): STAGE reads TIMEBASE, the synthesizers acquire and the outputs are driven (R313). -/
def Dev.firstActive (d : Dev) (t : TbId) : Dev :=
  let d := ((d.setRole t 5).onTwin (fun w => { w with active := some t })).onTb t (fun b => { b with running := true })
  let d := (d.setStage 5).each (List.range 4) (fun d k => d.when (d.osynWanted k) (fun d => d.acquire k (d.synW k)))
  let d := d.tioClock.when (d.fast == 1) (fun d => d.startInternal 4)
  let d := d.each (d.tioList.filter (fun c => d.tioPin c != .hiZ)) (fun d c => d.emit (.tioPin c d.now (d.tioPin c)))
  d.each (List.range 8) Dev.refreshOut

/-- An OCXO is declared warm: FIRN_OCXO_STAT, and WARM_S at the first declaration. -/
def Dev.declareWarm (d : Dev) (t : TbId) : Dev :=
  let f := match t with | .a => F.FIRN_OCXO_STAT_WARM_A | .b => F.FIRN_OCXO_STAT_WARM_B
  let first := !d.flag F.FIRN_OCXO_STAT_WARM_A && !d.flag F.FIRN_OCXO_STAT_WARM_B
  let d := (d.setMark f 1 F.FIRN_OCXO_STAT_CHANGED).onTb t (fun b => { b with warm := true })
  let d := d.when first (fun d => d.set F.FIRN_OCXO_STAT_WARM_S (min 1023 (d.cycles / 10 ^ 8)))
  d.onSys (fun y => match t with | .a => { y with warmRunsA := false } | .b => { y with warmRunsB := false })

/-- A timebase that waits in WARMING and is warm takes its place: ACTIVE where there is none, else ALIGNING (R90); none is
ACTIVE again in the state of R10. -/
def Dev.takePlace (d : Dev) (t : TbId) : Dev :=
  if d.role t ≠ 1 || !(d.tb t).warm then d
  else if d.anyActive then d.alignStandby t
  else if d.alarmOn .tbNone then d
  else d.firstActive t

/-- OCXO_WARM_DECLARED (R90, R314): in one check Timebase A comes first. -/
def Dev.warmDeclared (d : Dev) (a b : Bool) : Dev :=
  let d := d.when a (fun d => d.declareWarm .a)
  let d := d.when b (fun d => d.declareWarm .b)
  (d.takePlace .a).takePlace .b
def State.warmDeclared (s : State) (a b : Bool) : State :=
  if s.dev.stage < 4 || s.dev.stage == 8 then s
  else
    let was := s.dev.stage
    let s := s.onDev (·.warmDeclared a b)
    if was = 4 && s.dev.stage == 5 && !s.dev.sys.fastStartDirected then s.startWindow else s
def execOcxoWarmDeclared (a b : Bool) (s : State) : Host.Outcome State Fault Refusal := .next (s.warmDeclared a b)

/-- OCXO_WARM_TIMEOUT (R314): the timebase is RETIRED; with both retired the module enters the state of R10. -/
def Dev.warmTimeout (d : Dev) (t : TbId) : Dev :=
  let runs := match t with | .a => d.sys.warmRunsA | .b => d.sys.warmRunsB
  if !runs || (d.tb t).warm || d.role t == 6 || d.stage < 4 || d.stage == 8 then d
  else
    let d := d.onSys (fun y => match t with | .a => { y with warmRunsA := false } | .b => { y with warmRunsB := false })
    let d := d.retireTb t
    d.when (d.role t.other == 6 && !d.alarmOn .tbNone) Dev.enterNone
def execOcxoWarmTimeout (t : TbId) (s : State) : Host.Outcome State Fault Refusal := .next (s.onDev (·.warmTimeout t))

/-- The factory MAC addresses (R296). -/
def Dev.writeMacs (d : Dev) : Dev :=
  d.each d.portList (fun d p =>
    let m := (Config.macAddr p).toNat
    let lo := BitVec.ofNat 32 m
    ((d.setWord .PRT_MAC_ADDR_LO p lo).setWord .PRT_MAC_ADDR_LO (32 + p) lo).setWord .PRT_MAC_ADDR_HI p (BitVec.ofNat 32 (m / 2 ^ 32)))

/-- FAST_DOMAIN_ON (R296, R426): the CP writes the factory MAC addresses and applies the fast records, the Firn-side latches
are folded in, FAST is ON and the ports begin. -/
def State.fastIsOn (s : State) : State :=
  let s := s.onDev (fun d => ({ d with counters := [], cntCfg := [] } : Dev).writeMacs)
  let s := s.applyFast
  let s := s.onDev (fun d =>
    let d := (((d.setFast 2).foldLatches).ringStart).onSys (fun y => { y with newCpWait := false })
    let d := d.each d.portList (fun d p => (d.startBring p).refreshPower p)
    let d := d.judgeConfigNone.judgeBanks
    d.when (d.stage == 6) (fun d => d.setStage 7))
  if s.dev.stage = 7 then s.startWindow else s
def execFastDomainOn (s : State) : Host.Outcome State Fault Refusal :=
  .next (if s.dev.fast == 1 && s.dev.synLocked 4 && s.dev.anyActive then s.fastIsOn else s)

/-! ## GLB_RESET (R318, R319, R340) -/

/-- The slot from which the CP (3) or the SMC (2) restarts: that of the boot header once a live step has replaced it. -/
def State.runSlot (s : State) (t : Nat) : Nat :=
  if (if t = 3 then 3 else 4) ≤ s.dev.sys.updStep then s.bundleSlot else s.dev.get F.GLB_BOOT_STAT_BUNDLE_SLOT

/-- The CP restarts (R318): its image is read from the slot and checked, and it applies the fast records of R324. -/
def State.restartCp (s : State) : State :=
  let slot := s.runSlot 3
  let s := s.onDev Dev.stopCp
  if s.imageGood slot 3 then
    let s := s.onDev (fun d => (d.runImage 3 (readImage s.flash slot 3)).onSys (fun y => { y with cpStopped := false }))
    s.applyFast.onDev Dev.judgeConfigNone
  else if s.onTrial then s.fallback 2
  else s.onDev (fun d => (d.onSys (fun y => { y with cpStopped := true })).cond .fwImageBad true |>.judgeSleeps)

/-- The SMC restarts (R157, R318). -/
def State.restartSmc (s : State) : State :=
  let slot := s.runSlot 2
  let s := s.onDev (·.smcMoves false)
  if s.imageGood slot 2 then s.onDev (fun d => (d.runImage 2 (readImage s.flash slot 2)).smcMoves true)
  else if s.onTrial then s.fallback 2
  else s.onDev (·.cond .fwImageBad true)

/-- A GLB_RESET command: BAD_KEY, and for the weaker ones dropped while a FULL is about to take place (R319), UPDATING
throughout steps 2 to 7 (R340), and NOT_RUNNING. -/
def State.glbReset (s : State) (key : Nat) (full : Bool) (f : State → State) : State :=
  if s.dev.stage = 0 then s
  else if key ≠ 0x5A then s.onDev (·.set F.GLB_RESET_RESULT 2)
  else if full then
    s.onDev (fun d => (d.set F.GLB_RESET_RESULT 1).onSys (fun y => { y with fullIn := some (y.fullIn.getD 1000) }))
  else if s.dev.sys.fullIn.isSome then s
  else if s.dev.updating then s.onDev (·.set F.GLB_RESET_RESULT 4)
  else if !s.dev.fastOn then s.onDev (·.set F.GLB_RESET_RESULT 3)
  else f (s.onDev (·.set F.GLB_RESET_RESULT 1))

/-- A fast-domain reset: STOP then START, without their own refusals (R318). -/
def State.fastReset (s : State) : State := (s.onDev (fun d => d.stopFast.offFast)).startFast

/-- GLB_RESET_FULL (R318): the module reset is issued 10 µs after the command is taken. -/
def execGlbResetFull (key : Byte) (s : State) : Host.Outcome State Fault Refusal := .next (s.glbReset key.toNat true id)
/-- GLB_RESET_FAST (R318, R340). -/
def execGlbResetFast (key : Byte) (s : State) : Host.Outcome State Fault Refusal := .next (s.glbReset key.toNat false State.fastReset)
/-- GLB_RESET_CP (R318, R340). -/
def execGlbResetCp (key : Byte) (s : State) : Host.Outcome State Fault Refusal := .next (s.glbReset key.toNat false State.restartCp)
/-- GLB_RESET_SMC (R318, R340). -/
def execGlbResetSmc (key : Byte) (s : State) : Host.Outcome State Fault Refusal := .next (s.glbReset key.toNat false State.restartSmc)

/-- A write of GLB_RESET (R318, R319, R430): FULL, else the lowest command bit. -/
def State.writeReset (s : State) (v : Word) : State :=
  let key := F.GLB_RESET_KEY.of v
  if F.GLB_RESET_FULL.on v then s.glbReset key true id
  else if F.GLB_RESET_FAST.on v then s.glbReset key false State.fastReset
  else if F.GLB_RESET_CP.on v then s.glbReset key false State.restartCp
  else if F.GLB_RESET_SMC.on v then s.glbReset key false State.restartSmc
  else s

/-! ## Watchdogs (R318, R341, R344) -/

/-- FSP_WATCHDOG: the FSP restarts; on trial the FSP image of PREV_BUNDLE conducts the fallback (R344). -/
def State.fspDog (s : State) : State :=
  if s.dev.stage < 2 || s.dev.stage == 8 then s
  else
    let s := s.onDev (fun d => ((d.countDev 292).countDev 295).restartParty 1)
    if s.onTrial then
      let i := readImage s.flash (hdrNow s.flash).prevBundle 0
      (s.onDev (·.runImage 0 i)).fallback 2
    else s
def execFspWatchdog (s : State) : Host.Outcome State Fault Refusal := .next s.fspDog

/-- A processor runs an image of the bundle on trial: in a live update those already replaced (R338, R341). -/
def State.runsNew (s : State) (cpu : WatchedCpu) : Bool :=
  let step := s.dev.sys.updStep
  let moved := s.dev.twin.updMoved
  let tb (t : TbId) : Bool :=
    step == 0 || 6 ≤ step || ((step == 4 || (step == 5 && !moved)) && s.dev.twin.active != some t) ||
    (step == 5 && moved && s.dev.twin.active == some t)
  s.onTrial && !s.dev.sys.updBack && (match cpu with
    | .cp => step == 0 || 3 ≤ step
    | .smc => step == 0 || 4 ≤ step
    | .tbpA => tb .a
    | .tbpB => tb .b)

/-- The FSP's watchdog of a TBP: the standby is retired (R91); an active one beats no more, and is declared failed by R97. -/
def Dev.tbpDog (d : Dev) (t : TbId) : Dev :=
  if d.twin.active = some t then (d.countDev 292).onTwin (fun w => { w with beatsOff := true })
  else if d.liveStandby = some t then d.standbyFault true
  else d.countDev 292

/-- PROCESSOR_WATCHDOG (R318): the processor restarts; one that runs a new image on trial causes a fallback (R341). -/
def State.cpuDog (s : State) (cpu : WatchedCpu) : State :=
  if s.dev.stage < 2 || s.dev.stage == 8 then s
  else
    let new := s.runsNew cpu
    match cpu with
    | .cp => if !s.dev.fastOn || s.dev.sys.cpStopped then s else
        let s := s.onDev (·.countDev 292)
        if new then s.fallback 2 else s.restartCp
    | .smc => if !s.dev.fastOn || s.dev.sys.smcStopped then s else
        let s := s.onDev (·.countDev 292)
        if new then s.fallback 2 else s.restartSmc
    | .tbpA => let s := s.onDev (·.tbpDog .a); if new then s.fallback 2 else s
    | .tbpB => let s := s.onDev (·.tbpDog .b); if new then s.fallback 2 else s
def execProcessorWatchdog (cpu : WatchedCpu) (s : State) : Host.Outcome State Fault Refusal := .next (s.cpuDog cpu)

/-! ## GLB_CFG_CMD (R325, R326) -/

/-- A configuration command runs: its RESULT reads RUNNING until CFG_COMMAND_DONE. -/
def Dev.cfgRuns (d : Dev) (result : Nat) : Dev :=
  (d.set F.GLB_CFG_CMD_RESULT 2).onSys (fun y => { y with cfgRun := some result })

/-- A configuration command is taken, or refused BUSY while one runs. -/
def State.cfgTake (s : State) (f : State → State) : State :=
  if s.dev.stage = 0 then s
  else if s.dev.sys.cfgRun.isSome then s.onDev (·.set F.GLB_CFG_CMD_RESULT 3)
  else f s

/-- CHECK. -/
def State.cfgCheck (s : State) (slot : Nat) : State :=
  let (s, c) := s.checkSlot s.dev.sys.images slot
  s.onDev (·.cfgRuns c.result)

/-- ACTIVATE: CONFIG_SEL of the boot header in force, which keeps its effective state (R312). -/
def State.cfgActivate (s : State) (slot : Nat) : State :=
  let (s, c) := s.checkSlot s.dev.sys.images slot
  let s : State := if c.result = 1 then
      { s with flash := hdrWrite s.flash { hdrNow s.flash with configSel := slot, state := hdrState s.flash } }
    else s
  s.refreshUpd.onDev (·.cfgRuns c.result)

/-- RELOAD: BUSY while FAST is STARTING or STOPPING (R326). -/
def State.cfgReload (s : State) : State :=
  if s.dev.fast = 1 || s.dev.fast = 3 then s.onDev (·.set F.GLB_CFG_CMD_RESULT 3)
  else
    let sel := (hdrNow s.flash).configSel
    let (s, c) := s.checkSlot s.dev.sys.images sel
    let s := if c.result = 1 then
        let fast := s.dev.fastOn
        let s := s.applyFirn sel c
        if fast then
          (s.applyOps true (c.ops true)).onDev (fun d =>
            (d.set F.GLB_BOOT_STAT_FAST_SLOT sel).set F.GLB_CFG_FAST_ID_IMAGE_ID c.imageId)
        else s
      else s
    s.onDev (fun d => d.judgeConfigNone.cfgRuns c.result)

/-- RELOAD is taken, or refused: UPDATING throughout steps 2 to 7 of a live update or fallback (R340), whatever else holds. -/
def State.reloadTake (s : State) : State :=
  if s.dev.stage != 0 && s.dev.updating then s.onDev (·.set F.GLB_CFG_CMD_RESULT 0xB) else s.cfgTake State.cfgReload

/-- CFG_CHECK (R325). -/
def execCfgCheck (slot : Fin 2) (s : State) : Host.Outcome State Fault Refusal :=
  .next ((s.onDev (·.globReach (·.set F.GLB_CFG_CMD_SLOT slot.val))).cfgTake (fun s => s.cfgCheck slot.val))
/-- CFG_ACTIVATE (R325). -/
def execCfgActivate (slot : Fin 2) (s : State) : Host.Outcome State Fault Refusal :=
  .next ((s.onDev (·.globReach (·.set F.GLB_CFG_CMD_SLOT slot.val))).cfgTake (fun s => s.cfgActivate slot.val))
/-- CFG_RELOAD (R325, R326). -/
def execCfgReload (s : State) : Host.Outcome State Fault Refusal := .next s.reloadTake
/-- CFG_COMMAND_DONE (R325). -/
def execCfgCommandDone (s : State) : Host.Outcome State Fault Refusal :=
  .next (s.onDev (fun d => match d.sys.cfgRun with
    | some r => (d.set F.GLB_CFG_CMD_RESULT r).onSys (fun y => { y with cfgRun := none })
    | none => d))

/-- A write of GLB_CFG_CMD: SLOT, and the lowest command bit (R430). -/
def State.writeCfgCmd (s : State) (v : Word) : State :=
  let slot := F.GLB_CFG_CMD_SLOT.of v
  let s := s.onDev (·.store .GLB_CFG_CMD 0 v)
  if F.GLB_CFG_CMD_CHECK.on v then s.cfgTake (fun s => s.cfgCheck slot)
  else if F.GLB_CFG_CMD_ACTIVATE.on v then s.cfgTake (fun s => s.cfgActivate slot)
  else if F.GLB_CFG_CMD_RELOAD.on v then s.reloadTake
  else s

end Sys2Proof.Machine
end

