-- ==== Sys2Proof/Machine/Update.lean ====
section
/-! DEFINITION. Firmware update and fallback (13_firmware_update.md, R331 to R347): the flash window, verification and
activation, the steps of a live update, trial and confirmation. -/

namespace Sys2Proof.Machine

/-! ## The flash window (R334, R335) -/

/-- UPD_STAT.NVM_BUSY: an erase or a page program runs. -/
def Dev.nvmBusy (d : Dev) : Bool := d.sys.eraseAt.isSome || d.sys.progPage.isSome
def Dev.showNvm (d : Dev) : Dev := d.setB F.UPD_STAT_NVM_BUSY d.nvmBusy

/-- The flash address lies in a region that the host may not write at present (R311, R335). -/
def State.nvmBarred (s : State) (a : Nat) : Bool :=
  let h := hdrNow s.flash
  let st := hdrState s.flash
  let inSlot (slot : Nat) : Bool := decide (bundleBase slot ≤ a ∧ a < bundleBase slot + 0x1800000)
  decide (a < 0x100000) || decide (0x3900000 ≤ a) ||
    (s.dev.stage != 8 && (inSlot h.bundleSel || ((st == 1 || st == 2) && inSlot h.prevBundle)))

/-- A refused erase or write: WRITE_REFUSED, and the counter of refused NVM writes. -/
def Dev.nvmRefuse (d : Dev) : Dev := (d.setB F.UPD_STAT_WRITE_REFUSED true).countDev 300

/-- Programming of the page buffer begins. -/
def Dev.beginProgram (d : Dev) : Dev :=
  match d.sys.page with
  | none => d
  | some p => (d.onSys (fun y => { y with page := none, progPage := some p })).showNvm

/-- How an NVM write ended. -/
inductive NvmEnd where | done | held | refused
  deriving DecidableEq, Repr

/-- A word written through the NVM window (R334): held while the flash works; it is collected in the page buffer, which is
programmed when a write addresses another page, and when the page's last word is written. -/
def State.nvmWrite (s : State) (a : Nat) (v : Word) : State × NvmEnd :=
  if s.nvmBarred a then (s.onDev Dev.nvmRefuse, .refused)
  else if s.dev.nvmBusy then (s, .held)
  else
    let page := a / 256
    let put (old : List (Nat × Byte)) : List (Nat × Byte) :=
      (old.filter (fun e => e.1 / 4 != a % 256 / 4)) ++ (leBytes 4 v.toNat).mapIdx (fun i b => (a % 256 / 4 * 4 + i, b))
    let store (s : State) (l : List (Nat × Byte)) : State :=
      let s := s.onDev (·.onSys (fun y => { y with page := some (page, put l) }))
      if a % 256 / 4 = 63 then s.onDev Dev.beginProgram else s
    match s.dev.sys.page with
    | none => (store s [], .done)
    | some (q, l) => if q = page then (store s l, .done) else (s.onDev Dev.beginProgram, .held)

/-- A word of the flash as the NVM window reads it. -/
def State.nvmRead (s : State) (a : Nat) : Word := BitVec.ofNat 32 (flashNat s.flash (a / 4 * 4) 4)

/-- The flash after a page program: a bit that is 0 stays 0 until its sector is erased. -/
def programPage (m : List Host.Cell) (page : Nat) (l : List (Nat × Byte)) : List Host.Cell :=
  l.foldl (fun m (e : Nat × Byte) => flashSet m (256 * page + e.1) (flashByte m (256 * page + e.1) &&& e.2)) m

/-- The ERASE or FLUSH that waited for the flash ends: DONE, also where a refusal has been reported meanwhile. -/
def Dev.flashDone (d : Dev) : Dev :=
  d.when (d.sys.updRuns && d.sys.updStep == 0 && !d.nvmBusy) (fun d =>
    (d.set F.UPD_CMD_RESULT 1).onSys (fun y => { y with updRuns := false }))

/-- NVM_PROGRAM_DONE (R334): the page is read back, and a word that differs sets PROG_ERR. -/
def State.programDone (s : State) : State :=
  match s.dev.sys.progPage with
  | none => s
  | some (page, l) =>
    let m := programPage s.flash page l
    let bad := l.any (fun e => flashByte m (256 * page + e.1) != e.2)
    ({ s with flash := m } : State).onDev (fun d =>
      let d := (d.onSys (fun y => { y with progPage := none })).showNvm
      (d.when bad (fun d => (d.setB F.UPD_STAT_PROG_ERR true).countDev 301)).flashDone)

/-- NVM_ERASE_DONE (R334): the 64 KiB sector reads 0xFF. -/
def State.eraseDone (s : State) : State :=
  match s.dev.sys.eraseAt with
  | none => s
  | some a =>
    if s.dev.sys.progPage.isSome then s
    else ({ s with flash := flashErase s.flash a 0x10000 } : State).onDev (fun d =>
      ((d.onSys (fun y => { y with eraseAt := none })).showNvm).flashDone)

/-! ## Commands (R347) -/

/-- A command or a live step runs. -/
def Dev.updBusy (d : Dev) : Bool := d.sys.updRuns || d.updating

/-- Sets UPD_CMD.RESULT. -/
def Dev.updResult (d : Dev) (r : Nat) : Dev := d.set F.UPD_CMD_RESULT r

/-- A command goes on running: RUNNING. -/
def Dev.updStarts (d : Dev) : Dev := (d.onSys (fun y => { y with updRuns := true })).updResult 2

/-- A command is taken, or refused BUSY. -/
def State.updTake (s : State) (f : State → State) : State :=
  if s.dev.stage = 0 then s
  else if s.dev.updBusy then s.onDev (·.updResult 3)
  else f s

/-- ERASE (R334, R335). -/
def State.updErase (s : State) : State :=
  let a := s.dev.get F.UPD_ERASE_ADDR_ADDR / 0x10000 * 0x10000
  if s.nvmBarred a then s.onDev (fun d => d.nvmRefuse.updResult 0xE)
  else s.onDev (fun d => ((d.onSys (fun y => { y with eraseAt := some a })).showNvm).updStarts)

/-- FLUSH: programs the page buffer; DONE at once where it is empty and none is programmed. -/
def State.updFlush (s : State) : State :=
  s.onDev (fun d => let d := d.beginProgram; if d.nvmBusy then d.updStarts else d.updResult 1)

/-- The running images accept the new ones and the reverse, Timebase B's TBP image included (R333). -/
def Dev.liveWith (d : Dev) (new : List Image) : Bool :=
  liveOk new d.sys.images && liveOk new (putImage d.sys.images 1 (d.tbpImage .b))

/-- R332 on a slot, with what UPD_SLOT_STAT and UPD_SLOT_ID tell of it; the result of the first failure, if any. -/
def State.verifySlot (s : State) (slot : Nat) : State × Option Nat :=
  let fault := bundleFault s.flash s.dev.ident.variant slot
  let live := s.dev.liveWith (readImages s.flash slot)
  let id := bundleId s.flash slot
  let s := if bundleHdrOk s.flash slot then s.onDev (·.set F.UPD_SLOT_ID_BUNDLE_ID id slot) else s
  match fault with
  | none => (s.onDev (fun d => (d.setWord .UPD_SLOT_STAT slot 1).setB F.UPD_SLOT_STAT_LIVE_OK live slot), none)
  | some (r, t, b) => (s.onDev (fun d => ((d.setWord .UPD_SLOT_STAT slot 0).set F.UPD_SLOT_STAT_FAIL_TYPE t slot).set
      F.UPD_SLOT_STAT_FAIL_BLOCK b slot), some r)

/-- VERIFY (R332, R333). -/
def State.updVerify (s : State) : State :=
  let (s, r) := s.verifySlot (s.dev.get F.UPD_CFG_SLOT)
  s.onDev (fun d => (d.countDev 296).updResult (r.getD 1))

/-- The header of an accepted activation (R337). -/
def State.activated (s : State) (slot state : Nat) : Header :=
  let h := hdrNow s.flash
  let d := s.dev
  { h with
    bundleSel := slot, state := state, configSel := d.get F.UPD_CFG_CFG_SLOT, prevBundle := h.bundleSel, prevConfig := h.configSel
    mode := d.get F.UPD_CFG_MODE, auto := d.get F.UPD_CFG_AUTO_CONFIRM, confirmS := d.get F.UPD_CFG_CONFIRM_S
    trialId := bundleId s.flash slot }

/-- The standby is READY. -/
def Dev.readyStandby (d : Dev) : Bool := match d.standby with | some o => d.role o == 4 | none => false

/-- ACTIVATE (R337, R338): its conditions in the order of R337. -/
def State.updActivate (s : State) : State :=
  let st := hdrState s.flash
  let slot := s.dev.get F.UPD_CFG_SLOT
  let live := s.dev.flag F.UPD_CFG_MODE
  let recovery := s.dev.stage == 8
  let refuse (s : State) (r : Nat) : State := s.onDev (·.updResult r)
  if st = 1 || st = 2 then refuse s 0xD
  else if slot = s.bundleSlot then refuse s 0xE
  else
    match s.verifySlot slot with
    | (s, some r) => refuse s r
    | (s, none) =>
      let (s, c) := s.checkSlot (readImages s.flash slot) (s.dev.get F.UPD_CFG_CFG_SLOT)
      if c.result ≠ 1 then refuse s 9
      else if live && (recovery || !s.dev.liveWith (readImages s.flash slot)) then refuse s 0xA
      else if live && !s.dev.readyStandby then refuse s 0xB
      else if live && s.dev.flag F.TB_TWIN_CFG_PIN then refuse s 0xC
      else
        let m := hdrWrite s.flash (s.activated slot (if recovery then 0 else if live then 2 else 1))
        let s := ({ s with flash := m } : State).refreshUpd.onDev (·.countDev 297)
        if live then (s.onDev (fun d => (d.updStarts.showStep 1).onSys (fun y => { y with updBack := false }))).beginStep 2
        else s.onDev (·.updResult 1)

/-- The trial is confirmed (R341): CONFIRMED is programmed, and the window ends. -/
def State.confirm (s : State) : State :=
  (({ s with flash := hdrMark s.flash 68 } : State).refreshUpd).onDev (fun d =>
    (((d.countDev 298).showStep 0).set F.UPD_CONFIRM_LEFT_LEFT 0).onSys (fun y => { y with winLeft := 0 }))

/-- CONFIRM and ABORT are accepted while the effective state is TRIAL and no fallback has begun (R342, R343); a command that
runs refuses them outside step 8 (R347). -/
def State.trialCommand (s : State) (f : State → State) : State :=
  if s.dev.stage = 0 then s
  else if s.dev.updBusy && s.dev.get F.UPD_STAT_STEP != 8 then s.onDev (·.updResult 3)
  else if !s.onTrial then s.onDev (·.updResult 0xD)
  else f (s.onDev (·.updResult 1))

/-! ## Live steps (R338, R339, R345) -/

/-- An image that a live step loads fails its check: fallback with HEALTH (R341), or a module reset on the way back (R345). -/
def State.stepFails (s : State) : State := if s.dev.sys.updBack then s.moduleReset 2 else s.fallback 2

/-- Step 2 ends: the new CP takes the carry-over record and applies the fast records, where the fast domain can take them. -/
def State.endCpStep (s : State) : State :=
  let slot := s.bundleSlot
  if !s.imageGood slot 3 then s.stepFails
  else
    let s := s.onDev (fun d =>
      let d := if d.sys.carryover then d else { d with insts := [] }
      d.runImage 3 (readImage s.flash slot 3))
    let s := if s.dev.fastOn || s.dev.fast == 1 then s.applyFast else s
    (s.onDev (fun d => (d.onSys (fun y => { y with carryover := false, cpStopped := false })).judgeConfigNone)).beginStep 3

/-- Step 3 ends: the new SMC runs. -/
def State.endSmcStep (s : State) : State :=
  let slot := s.bundleSlot
  if !s.imageGood slot 2 then s.stepFails
  else (s.onDev (fun d => (d.runImage 2 (readImage s.flash slot 2)).smcMoves true)).beginStep 4

/-- A code of UPD_CMD.RESULT that a command which has ended can have left: not 0, RUNNING or the reserved one (R347). -/
def endedResult (n : Nat) : Nat := [1, 3, 4, 5, 6, 7, 8, 9, 10, 11, 12, 13, 14].getD (n % 13) 1

/-- Step 7 ends: the new FSP runs; the confirm window starts with STARTED programmed, or a fallback is complete. What RESULT
reads after an ACTIVATE that fell back is not stated: any result of a command that has ended. -/
def State.endFspStep (s : State) : State :=
  let slot := s.bundleSlot
  let was := s
  if !s.imageGood slot 0 then s.stepFails
  else
    let h := hdrNow s.flash
    let id := bundleId s.flash slot
    let i := readImage s.flash slot 0
    let s := s.onDev (fun d =>
      let d := ((d.runImage 0 i).set F.GLB_BOOT_STAT_BUNDLE_SLOT slot).set F.UPD_SLOT_ID_BUNDLE_ID id slot
      ((d.countDev 295).restartParty 1).onSys (fun y => { y with updStep := 0, updRuns := false }))
    if s.dev.sys.updBack then
      let ran := was.dev.sys.updRuns
      s.onDev (fun d =>
        let d := (d.showStep 0).onSys (fun y => { y with updBack := false })
        d.when ran (fun d => (d.updResult (endedResult d.freeVal)).spendFree))
    else (({ s with flash := hdrMark s.flash 64 } : State).refreshUpd).onDev (fun d =>
      (((d.showStep 8).set F.UPD_CONFIRM_LEFT_LEFT h.confirmS).updResult 1).onSys (fun y => { y with winLeft := h.confirmS * 10 ^ 8 }))

/-- LIVE_STEP_COMPLETE (R338): the step in progress has done its work. -/
def State.stepComplete (s : State) : State :=
  match s.dev.sys.updStep with
  | 2 => s.endCpStep
  | 3 => s.endSmcStep
  | 4 => if s.dev.readyStandby then s.beginStep 5 else s
  | 5 => if s.dev.twin.updMoved then s.beginStep 6 else s
  | 6 => if s.dev.readyStandby then s.beginStep 7 else s
  | 7 => s.endFspStep
  | _ => s

/-- LIVE_STEP_TIMEOUT (R338, R345). -/
def State.stepTimeout (s : State) : State :=
  if s.dev.sys.updStep = 0 then s else if s.dev.sys.updBack then s.moduleReset 2 else s.fallback 3

/-- CARRYOVER_TIMEOUT (R339): every port state falls to INITIALIZING, that of a DISABLED port too. -/
def Dev.carryTimeout (d : Dev) : Dev :=
  if !d.sys.carryover then d
  else (d.onSys (fun y => { y with carryover := false })).each d.portList (fun d p => d.setPtpState p 1)

/-- CONFIRM_WINDOW_EXPIRED (R341). -/
def State.windowEnds (s : State) : State :=
  if s.dev.get F.UPD_STAT_STEP ≠ 8 || !s.onTrial then s
  else if (hdrNow s.flash).auto = 1 && s.dev.anyActive then s.confirm
  else s.fallback 1

/-! ## Meanings -/

/-- UPD_VERIFY (R332, R333). -/
def execUpdVerify (s : State) : Host.Outcome State Fault Refusal := .next (s.updTake State.updVerify)
/-- UPD_ACTIVATE (R337). -/
def execUpdActivate (s : State) : Host.Outcome State Fault Refusal := .next (s.updTake State.updActivate)
/-- UPD_CONFIRM (R341 to R343). -/
def execUpdConfirm (s : State) : Host.Outcome State Fault Refusal := .next (s.trialCommand State.confirm)
/-- UPD_ABORT (R341, R343). -/
def execUpdAbort (s : State) : Host.Outcome State Fault Refusal := .next (s.trialCommand (·.fallback 5))
/-- UPD_ERASE (R334, R335). -/
def execUpdErase (s : State) : Host.Outcome State Fault Refusal := .next (s.updTake State.updErase)
/-- UPD_FLUSH (R334). -/
def execUpdFlush (s : State) : Host.Outcome State Fault Refusal := .next (s.updTake State.updFlush)
/-- LIVE_STEP_COMPLETE (R338). -/
def execLiveStepComplete (s : State) : Host.Outcome State Fault Refusal := .next s.stepComplete
/-- LIVE_STEP_TIMEOUT (R338). -/
def execLiveStepTimeout (s : State) : Host.Outcome State Fault Refusal := .next s.stepTimeout
/-- CARRYOVER_TIMEOUT (R339). -/
def execCarryoverTimeout (s : State) : Host.Outcome State Fault Refusal := .next (s.onDev Dev.carryTimeout)
/-- CONFIRM_WINDOW_EXPIRED (R341). -/
def execConfirmWindowExpired (s : State) : Host.Outcome State Fault Refusal := .next s.windowEnds
/-- NEW_CP_TAKEOVER_TIMEOUT (R341). -/
def execNewCpTakeoverTimeout (s : State) : Host.Outcome State Fault Refusal :=
  .next (if s.dev.sys.newCpWait && s.onTrial then s.fallback 2 else s)

/-- A write of UPD_CMD: the lowest command bit is taken (R430). -/
def State.writeUpdCmd (s : State) (v : Word) : State :=
  if F.UPD_CMD_VERIFY.on v then s.updTake State.updVerify
  else if F.UPD_CMD_ACTIVATE.on v then s.updTake State.updActivate
  else if F.UPD_CMD_CONFIRM.on v then s.trialCommand State.confirm
  else if F.UPD_CMD_ABORT.on v then s.trialCommand (·.fallback 5)
  else if F.UPD_CMD_ERASE.on v then s.updTake State.updErase
  else if F.UPD_CMD_FLUSH.on v then s.updTake State.updFlush
  else s

end Sys2Proof.Machine
end

