-- ==== Sys2Proof/Machine/Host.lean ====
section
/-! DEFINITION. The host link and register access (14_host_link_and_registers.md, R348 to R372, R430): BAR accesses, the
indirect window and its queue, the capture window, the endpoint's resets, the host heartbeat and the SMBus target. -/

namespace Sys2Proof.Machine

/-- Changes the endpoint. -/
def Dev.onPcie (d : Dev) (f : Pcie → Pcie) : Dev := { d with pcie := f d.pcie }

/-- A rejected access (R353, R370): its source (1 PCIe, 2 SMBus), kind and offset. -/
def Dev.badAccess (d : Dev) (source kind ofs : Nat) : Dev :=
  ((((d.set F.GLB_BAD_ACC_SOURCE source).set F.GLB_BAD_ACC_KIND kind).setB F.GLB_BAD_ACC_EVENT true).setWord .GLB_BAD_ACC_OFS 0
    (BitVec.ofNat 32 ofs)).countDev 302

/-! ## The capture window (R365 to R367) -/

/-- A number in 128 bits, sign-extended (R87). -/
def wide (x : Int) : BitVec 128 := BitVec.ofInt 128 x

/-- A value of a port (R199). -/
def Dev.widePort (d : Dev) (code p : Nat) : BitVec 128 :=
  let t := d.ptu p
  if !d.hasPort p then 0
  else if code = 0x10 then t.tRxLast
  else if code = 0x11 then t.tTxLast
  else if !d.portUp p then 0
  else match code with
  | 0x12 => wide t.theta
  | 0x13 => wide t.mean
  | 0x14 => wide (d.latency p 0)
  | 0x15 => wide (d.latency p 1)
  | 0x16 => wide (divFree ((t.phiRx * 256 : Nat) : Int) 10)
  | 0x17 => wide (divFree ((t.phiTx * 256 : Nat) : Int) 10)
  | 0x18 => wide (d.asym p)
  | 0x19 => wide t.nrr
  | 0x1A => wide (t.revO.getD 0 0)
  | 0x1B => wide (t.revO.getD 1 0)
  | 0x1C => wide (t.revO.getD 2 0)
  | _ => 0

/-- A value of the active timebase, zero while there is none. -/
def Dev.wideActive (d : Dev) (f : TbId → Int) : BitVec 128 := match d.twin.active with | some t => wide (f t) | none => 0

/-- The value that a code selects (R29, R87, R134, R199, R223, R367). -/
def Dev.wideValue (d : Dev) (code p : Nat) : BitVec 128 :=
  if 0x10 ≤ code && code < 0x30 then d.widePort code p
  else if 0x30 ≤ code && code < 0x60 then (if code - 0x30 < d.tios then (d.tioCh (code - 0x30)).lastTime else 0)
  else if 0x60 ≤ code && code < 0x68 then wide (divFree (d.misalign (code - 0x60)) 1000)
  else if 0x68 ≤ code && code < 0x6C then (if (d.syn (code - 0x68)).runs then wide (d.syn (code - 0x68)).wUse else 0)
  else match code with
  | 0x00 => d.stamp d.now
  | 0x01 => d.stamp d.tbA.counter
  | 0x02 => d.stamp d.tbB.counter
  | 0x03 => if d.mir.state = .jumpHeld then wide d.mir.held else 0
  | 0x04 => d.wideActive (fun t => (d.tb t).dco)
  | 0x05 => wide d.tbA.dco
  | 0x06 => wide d.tbB.dco
  | 0x07 => wide d.mir.lastPhase
  | 0x08 => if d.predictionRuns then wide (d.predicted d.mir.hold) else 0
  | 0x09 => d.wideActive (fun _ => d.mir.hold.f0)
  | 0x0A => d.wideActive (fun t => (d.tb t).ageing)
  | 0x0B => d.wideActive (fun t => (d.tb t).tempCo)
  | 0x0C => wide d.twin.x
  | _ => 0

/-- A write of 1 to WIDE_CTRL.CAPTURE (R365, R366): the value of this cycle is latched, and shown once the latch completes. -/
def Dev.capture (d : Dev) : Dev :=
  if d.pcie.latch.isSome then (d.setB F.WIDE_STAT_OVERRUN true).countDev 306
  else
    let code := d.get F.WIDE_SEL_CODE
    let port := d.get F.WIDE_SEL_PORT
    let v := d.wideValue code port
    let port := if 0x10 ≤ code && code < 0x30 then port else 0
    (d.setB F.WIDE_STAT_VALID false).onPcie (fun e => { e with latch := some (v, code, port) })

/-- The latch completes: WIDE_D0 to WIDE_D3, CODE and PORT, VALID. -/
def Dev.latchDone (d : Dev) : Dev :=
  match d.pcie.latch with
  | none => d
  | some (v, code, port) =>
    let d := (d.onPcie (fun e => { e with latch := none })).each (List.range 4) (fun d i => d.setWord .WIDE_D i ((wordsOf v).getD i 0))
    ((d.set F.WIDE_STAT_CODE code).set F.WIDE_STAT_PORT port).setB F.WIDE_STAT_VALID true

/-! ## Writes to BAR0 (R353, R357) -/

/-- The IND and WIDE blocks, which serve only the host (R360). -/
def Reg.hostOnly (r : Reg) : Bool := r.spec.space == .bar0 && decide (0x1000 ≤ r.spec.base) && decide (r.spec.base < 0x3000)

/-- IND_DATA is written (R360 to R362): the write takes the space and address of its receipt into the queue. -/
def Dev.indPush (d : Dev) (v : Word) : Dev :=
  let a := d.get F.IND_ADDR_ADDR
  let d := (d.setWord .IND_DATA 0 v).onPcie (fun e => { e with indQueue := e.indQueue ++ [⟨d.get F.IND_SPACE_SPACE, 4 * a, v⟩] })
  d.when (d.flag F.IND_CTRL_AINC) (fun d => d.set F.IND_ADDR_ADDR (a + 1))

/-- A 32-bit write of a party to a BAR0 offset: reserved offsets and registers that the stage does not reach ignore it. -/
def State.writeBar (s : State) (p : Party) (a : Nat) (v : Word) : State :=
  match regAt .bar0 a with
  | none => s
  | some (r, u) =>
    if !s.dev.reaches (p == .cp) r || s.dev.absent r u || (r.hostOnly && p != .host) then s
    else match r with
    | .GLB_RESET => s.writeReset v
    | .GLB_CFG_CMD => s.writeCfgCmd v
    | .UPD_CMD => s.writeUpdCmd v
    | .IND_DATA => s.onDev (·.indPush v)
    | .WIDE_CTRL => if F.WIDE_CTRL_CAPTURE.on v then s.onDev Dev.capture else s
    | _ => s.writeReg r u v

/-- A processor's write to a register of an indirect space, by its own path. -/
def State.writeSpace (s : State) (p : Party) (sp a : Nat) (v : Word) : State :=
  match indRegAt sp a with
  | none => s
  | some (r, u) => if !s.dev.reaches (p == .cp) r || s.dev.absent r u then s else s.writeReg r u v

/-- The dwords that an access covers: offset, value, and whether all four byte enables are set. -/
def busDwords (w : BusWrite) : List (Nat × Word × Bool) :=
  [w.offset / 4 * 4, w.offset / 4 * 4 + 4].filterMap (fun a =>
    if w.offset + w.size ≤ a then none
    else some (a, BitVec.ofNat 32 (w.data.toNat / 2 ^ (8 * (a - w.offset))), decide (w.offset ≤ a ∧ a + 4 ≤ w.offset + w.size)))

/-- A dword of the MSI-X table in BAR4: address, data, or the mask bit of a vector; the pending bits are read-only. -/
def Dev.msixWrite (d : Dev) (a : Nat) (v : Word) : Dev :=
  if 0x400 ≤ a then d
  else if a % 16 = 12 then d.onPcie (fun e => { e with
    masks := if v.toNat % 2 = 1 then e.masks.filter (· != a / 16) ++ [a / 16] else e.masks.filter (· != a / 16) })
  else d.onPcie (fun e => { e with msixTable := tabSet e.msixTable 0 (a / 4) v })

/-- Pending MSI-X messages that may be sent now are sent (R348, R351). -/
def Dev.sendPending (d : Dev) : Dev :=
  if !(d.canSend && d.pcie.msixOn && d.flag F.GLB_HOST_STAT_MSIX_EN) then d
  else d.each ((List.range 64).filter (fun v => d.pcie.pba.contains v && !d.pcie.masks.contains v)) (fun d v =>
    (d.onPcie (fun e => { e with pba := e.pba.filter (· != v) })).sendMsix v)

/-- A host write that is applied (R353). -/
def State.hostWrite (s : State) (w : BusWrite) : State :=
  (busDwords w).foldl (fun s (a, v, whole) =>
    if w.bar = 4 then (if whole then s.onDev (fun d => (d.msixWrite a v).sendPending) else s)
    else if whole then s.writeBar .host a v
    else if (regAt .bar0 a).isSome && s.dev.stage != 0 then s.onDev (·.badAccess 1 1 a)
    else s) s

/-- The size of a BAR (R350). -/
def barSize : Nat → Nat
  | 0 => 0x2000000
  | 2 => 0x10000
  | 4 => 0x2000
  | _ => 0

/-- An access of 1 to 8 bytes within one naturally aligned 8-byte region (R353). -/
def busCrosses (offset size : Nat) : Bool := size == 0 || decide (8 < offset % 8 + size)

/-- A host write that is completed as an Unsupported Request (R353, R354). -/
def busRefused (w : BusWrite) : Bool :=
  w.bar == 2 || busCrosses w.offset w.size || decide (barSize w.bar < w.offset + w.size)

/-- A host read that is completed as an Unsupported Request (R353, R354); of BAR2 a read may have any size up to
Max_Read_Request_Size. -/
def readRefused (r : BusRead) : Bool :=
  (if r.bar = 2 then r.size == 0 || decide (4096 < r.size) else busCrosses r.offset r.size) || decide (barSize r.bar < r.offset + r.size)

/-! ## Indirect access (R360 to R364) -/

/-- An indirect access that fails: the first since the last clear is recorded, each is counted (R363). -/
def Dev.indError (d : Dev) (e sp a : Nat) : Dev :=
  let d := (d.countDev 303).devEvent true (0x148 + e) 0
  if d.get F.IND_STAT_ERR ≠ 0 then d
  else ((d.set F.IND_STAT_ERR e).set F.IND_ERR_ADDR_ADDR a).set F.IND_ERR_ADDR_SPACE sp

/-- Why an indirect access cannot be performed (R363), REFUSED writes of NVM apart. -/
def Dev.indFault (d : Dev) (sp a : Nat) (write : Bool) : Option Nat :=
  match spaceSize sp with
  | none => some 1
  | some size =>
    if size ≤ a then some 2
    else if d.stage = 0 || (d.stage == 8 && sp != 8) || (sp == 6 && !d.fastOn) then some 3
    else if sp == 7 && write then some 4
    else none

/-- Applies an indirect write; whether R334 holds it. -/
def State.indApply (s : State) (w : IndWrite) : State × Bool :=
  match s.dev.indFault w.space w.addr true with
  | some e => (s.onDev (·.indError e w.space w.addr), false)
  | none =>
    if w.space = 8 then
      match s.nvmWrite w.addr w.value with
      | (s, .done) => (s, false)
      | (s, .held) => (s, true)
      | (s, .refused) => (s.onDev (·.indError 4 w.space w.addr), false)
    else (s.writeSpace .host w.space w.addr w.value, false)

/-- The oldest queued write is applied and leaves the queue, unless it is held. -/
def State.applyOldest (s : State) : State :=
  match s.dev.pcie.indQueue with
  | [] => s
  | w :: rest =>
    match s.indApply w with
    | (s, true) => s
    | (s, false) => s.onDev (·.onPcie (fun e => { e with indQueue := rest }))

/-! ## Reads and the order of the host's accesses (R353 to R355, R362) -/

/-- A register is read with the side effects of R353, R366, R394 and R401. -/
def Dev.readAt (d : Dev) (r : Reg) (u : Nat) : Dev × Word :=
  if d.absent r u then (d, 0)
  else if r = .TIO_REC && u % 8 == 0 then let d := d.readRecord (u / 8); (d, d.word r u)
  else if r = .ALM_LOG_W && u == 0 then let d := d.takeLog; (d, d.word r u)
  else if r = .WIDE_D && u == 3 then (d.setB F.WIDE_STAT_VALID false, d.word r u)
  else if r = .RING_AREA_DATA then let d := d.ringAreaRead; (d, d.word r u)
  else (d, d.readReg r u)

/-- A party's read of a register, by its place; zero where the access does not reach it. -/
def Dev.readPlace (d : Dev) (p : Party) (place : Option (Reg × Nat)) : Dev × Word :=
  match place with
  | none => (d, 0)
  | some (r, u) => if d.reaches (p == .cp) r && !(r.hostOnly && p != .host) then d.readAt r u else (d, 0)

/-- A dword of BAR4: the MSI-X table, or the pending bits at 0x1000 (R348, R350). -/
def Dev.msixRead (d : Dev) (a : Nat) : Word :=
  if a < 0x400 then (if a % 16 = 12 then BitVec.ofNat 32 (bitNat (d.pcie.masks.contains (a / 16))) else tabGet d.pcie.msixTable 0 (a / 4))
  else if a = 0x1000 || a = 0x1004 then BitVec.ofNat 32 (maskOf (((List.range 32).filter (fun i => d.pcie.pba.contains (8 * (a - 0x1000) + i)))))
  else 0

/-- A word as a party reads it: of BAR0 (space 16), of BAR4 (17), of the flash and of CAL, or of a register of a space. -/
def State.readWord (s : State) (p : Party) (sp a : Nat) : State × Word :=
  if sp = 17 then (s, s.dev.msixRead a)
  else if sp = 8 then (s, s.nvmRead a)
  else if sp = 7 then (s, s.nvmRead (0x20000 + a))
  else let r := s.dev.readPlace p (if sp = 16 then regAt .bar0 a else indRegAt sp a); ({ s with dev := r.1 }, r.2)

/-- The host's read of a word: an indirect read that fails returns zero (R363). -/
def State.hostRead (s : State) (sp a : Nat) : State × Word :=
  if 16 ≤ sp then s.readWord .host sp a
  else match s.dev.indFault sp a false with
  | some e => (s.onDev (·.indError e sp a), 0)
  | none => s.readWord .host sp a

/-- A read of the flash that R334 holds. -/
def Dev.readHeld (d : Dev) (sp a : Nat) : Bool := sp == 8 && d.nvmBusy && (d.indFault sp a false).isNone

/-- The bytes of consecutive words, from byte `skip` on. -/
def bytesOf (ws : List Word) (skip size : Nat) : Nat := leNat (ws.flatMap (fun w => leBytes 4 w.toNat)) / 2 ^ (8 * skip) % 2 ^ (8 * size)

/-- The words that a held read has still to read, lower address first, up to one that R334 holds; with the last the read
completes. -/
def State.readOn (s : State) (h : HeldRead) : List (Nat × Nat) → State
  | [] => s.onDev (fun d => (d.onPcie (fun e => { e with held := none })).emit (.readData (bytesOf h.got h.skip h.size)))
  | (sp, a) :: rest =>
    if s.dev.readHeld sp a then s.onDev (·.onPcie (fun e => { e with held := some { h with left := (sp, a) :: rest } }))
    else let r := s.hostRead sp a; r.1.readOn { h with got := h.got ++ [r.2], left := rest } rest

/-- IND_DATA is read (R360, R361): the space and address of its receipt, and IND_ADDR advances; before stage FSP_LOAD the
access does not reach it. -/
def Dev.indPlace (d : Dev) : Dev × (Nat × Nat) :=
  if d.stage = 0 then (d, (16, 0x1008))
  else
    let a := d.get F.IND_ADDR_ADDR
    (d.when (d.flag F.IND_CTRL_AINC) (fun d => d.set F.IND_ADDR_ADDR (a + 1)), (d.get F.IND_SPACE_SPACE, 4 * a))

/-- Where the dwords of a received read lie. -/
def Dev.readPlaces (d : Dev) (bar : Nat) : List Nat → Dev × List (Nat × Nat)
  | [] => (d, [])
  | a :: rest =>
    let x := if bar = 4 then (d, (17, a)) else if a = 0x1008 then d.indPlace else (d, (16, a))
    let y := x.1.readPlaces bar rest
    (y.1, x.2 :: y.2)

/-- The dwords that a read of 1 to 8 bytes covers. -/
def readDwords (offset size : Nat) : List Nat :=
  [offset / 4 * 4, offset / 4 * 4 + 4].filter (fun a => decide (a < offset + size))

/-- The bytes of the counter page (R350, R396). -/
def Dev.pageBytes (d : Dev) (offset size : Nat) : Nat :=
  leNat ((List.range size).map (fun i => BitVec.ofNat 8 ((d.pageWord ((offset + i) / 4 * 4)).toNat / 2 ^ (8 * ((offset + i) % 4)))))

/-- The endpoint receives an access whose turn has come: a write is applied, a read waits for the queue before it (R355). -/
def State.receive (s : State) (a : HostAcc) : State :=
  match a with
  | .write w => s.hostWrite w
  | .word sp a => s.onDev (fun d => d.onPcie (fun e => { e with
      held := some ⟨[], [if sp < 16 && d.stage == 0 then (16, 0x1008) else (sp, a)], 0, 4⟩ }))
  | .indData => s.onDev (fun d => let x := d.indPlace; x.1.onPcie (fun e => { e with held := some ⟨[], [x.2], 0, 4⟩ }))
  | .read r =>
    if r.bar = 2 then s.onDev (fun d => d.emit (.readData (d.pageBytes r.offset r.size)))
    else s.onDev (fun d =>
      let x := d.readPlaces r.bar (readDwords r.offset r.size)
      x.1.onPcie (fun e => { e with held := some ⟨[], x.2, r.offset % 4, r.size⟩ }))

/-- A posted request, which needs credits. -/
def HostAcc.posted : HostAcc → Bool | .write _ => true | _ => false

/-- The host's accesses go on, one after the other: a read that waits has the queue before it applied first (R355); the next
access on the link is received once no read waits and, if it is posted, the queue has room (R362). -/
def State.goOn (s : State) : Nat → State
  | 0 => s
  | n + 1 =>
    match s.dev.pcie.held with
    | some h =>
      if s.dev.pcie.indQueue.isEmpty then
        let t := s.readOn h h.left
        if t.dev.pcie.held.isSome then t else t.goOn n
      else
        let t := s.applyOldest
        if t.dev.pcie.indQueue.length < s.dev.pcie.indQueue.length then t.goOn n else t
    | none =>
      match s.dev.pcie.waiting with
      | [] => s
      | a :: rest =>
        if a.posted && decide (64 ≤ s.dev.pcie.indQueue.length) then s
        else ((s.onDev (·.onPcie (fun e => { e with waiting := rest }))).receive a).goOn n

/-- How many steps the host's accesses can take. -/
def Dev.backlog (d : Dev) : Nat := d.pcie.indQueue.length + 4 * d.pcie.waiting.length + 2
def State.proceed (s : State) : State := s.goOn s.dev.backlog

/-- An access arrives on the link, behind those that wait there (R355, R362). -/
def State.ask (s : State) (a : HostAcc) : State :=
  (s.onDev (·.onPcie (fun e => { e with waiting := e.waiting ++ [a] }))).proceed

/-- A host write. -/
def State.askWrite (s : State) (w : BusWrite) : State :=
  if !s.dev.pcie.ready || busRefused w then s.onDev (·.emit .unsupported) else s.ask (.write w)

/-- A host read. One of BAR2 does not pass through the ring and waits only for posted writes on the link (R356). -/
def State.askRead (s : State) (r : BusRead) : State :=
  if !s.dev.pcie.ready || readRefused r then s.onDev (·.emit .unsupported)
  else if r.bar = 2 && !s.dev.pcie.waiting.any HostAcc.posted then s.receive (.read r)
  else s.ask (.read r)

/-- The read of a word that has a row of its own: the host's in its turn, or, with no endpoint, a processor's. -/
def State.askWord (s : State) (sp a : Nat) : State :=
  if s.dev.pcie.ready then s.ask (.word sp a)
  else let r := s.readWord .fsp sp a; r.1.onDev (·.emit (.readData r.2.toNat))

/-! ## The SMBus target (R370, R371) -/

/-- The subset of R371: whether an offset lies in it for a read, or for a write. -/
def smbSubset (stage ofs : Nat) (write : Bool) : Bool :=
  ofs % 4 == 0 && (ofs ≤ 8 || ofs == 0x10 || ofs == 0x14 || decide (0x1C ≤ ofs ∧ ofs ≤ 0x24) || decide (0x100 ≤ ofs ∧ ofs ≤ 0x12C) ||
    (decide (0x3000 ≤ ofs ∧ ofs < 0x4000) && !(write && (ofs == 0x3080 || ofs == 0x3084))) ||
    (stage == 8 && decide (0xC000 ≤ ofs ∧ ofs < 0x10000)))

/-- The address that the SMBus target answers at (R370, R415). -/
def Dev.smbusAddr (d : Dev) : Nat := 0x5C + 2 * bitNat d.ident.sel1 + bitNat d.ident.sel0

/-- One bit of CRC-8 with the polynomial x^8 + x^2 + x + 1. -/
def crcBit (c : Nat) : Nat := if 128 ≤ c then (2 * c) % 256 ^^^ 7 else 2 * c

/-- The Packet Error Code of bytes. PRESUMED: the CRC-8 of SMBus 3.0, which R370 names. -/
def crc8 (bs : List Nat) : Nat := bs.foldl (fun c b => (List.range 8).foldl (fun c _ => crcBit c) (c ^^^ b % 256)) 0

/-- The answer to a process call: the data with the Packet Error Code over the whole transaction. -/
def Dev.smbAnswer (d : Dev) (code : Nat) (args : List Byte) (v : Word) : Dev :=
  let a := d.smbusAddr
  d.emit (.smbData v (BitVec.ofNat 8 (crc8 ([2 * a, code, args.length] ++ args.map BitVec.toNat ++ [2 * a + 1, 4] ++
    (leBytes 4 v.toNat).map BitVec.toNat))))

/-- A transaction is taken: one for another address is not the module's; it is not acknowledged before stage FSP_LOAD, while one
is held, or with a command code that is not its row's; and discarded and logged without a correct PEC. -/
def State.smbTake (s : State) (h : SmbHead) (code : Nat) (f : State → State) : State :=
  if h.address ≠ s.dev.smbusAddr then s
  else if s.dev.stage = 0 || s.dev.sys.smbWrite.isSome || s.dev.sys.smbRead.isSome || h.code != code then s.onDev (·.emit .smbNack)
  else if !h.pecOk then s.onDev (·.badAccess 2 2 0)
  else f s

/-- A write of the SMBus target to a register: outside the subset it is ignored and logged. -/
def State.smbWrite (s : State) (ofs : Nat) (v : Word) : State :=
  if !smbSubset s.dev.stage ofs true then s.onDev (·.badAccess 2 3 ofs) else s.writeBar .smbus ofs v

/-- A read of the SMBus target: outside the subset zero is returned, and the access logged. -/
def State.smbRead (s : State) (ofs : Nat) : State × Word :=
  if !smbSubset s.dev.stage ofs false then (s.onDev (·.badAccess 2 3 ofs), 0) else s.readWord .smbus 16 ofs

/-- After work on the flash ends: the SMBus access that R334 held, and the host's reads. -/
def State.flashFree (s : State) : State :=
  let s := match s.dev.sys.smbWrite with
    | none => s
    | some (a, v) => match s.nvmWrite a v with
      | (s, .held) => s
      | (s, _) => s.onDev (·.onSys (fun y => { y with smbWrite := none }))
  let s := match s.dev.sys.smbRead with
    | none => s
    | some a => if s.dev.nvmBusy then s else
      let w := s.nvmRead a
      s.onDev (fun d => (d.onSys (fun y => { y with smbRead := none })).smbAnswer 0x13 (leBytes 4 a) w)
  s.proceed

/-! ## Configuration space (R348, R350, R351) -/

/-- What the PCIe function presents, its identity and capabilities (R348). -/
structure PcieFunction where
  vendor : Nat
  device : Nat
  revision : Nat
  classCode : Nat
  subsystemVendor : Nat
  subsystem : Nat
  interruptPin : Nat
  serial : Nat
  d3hot : Bool
  pme : Bool
  endpoint : Bool
  maxPayload : Nat
  maxReadRequest : Nat
  functionLevelReset : Bool
  aspmL1 : Bool
  aspmL0s : Bool
  slot : Bool
  hotPlugSurprise : Bool
  msixVectors : Nat
  errorReporting : Bool
  deriving DecidableEq, Repr

def Dev.pcieFunction (d : Dev) : PcieFunction where
  vendor := 0x1F6D
  device := if d.small then 0x1624 else 0x3248
  revision := d.ident.dieStep % 16
  classCode := 0x088000
  subsystemVendor := 0x1F6D
  subsystem := d.ident.variant % 16
  interruptPin := 0
  serial := d.ident.serialHi.toNat * 2 ^ 32 + d.ident.serialLo.toNat
  d3hot := true
  pme := false
  endpoint := true
  maxPayload := 256
  maxReadRequest := 4096
  functionLevelReset := true
  aspmL1 := true
  aspmL0s := false
  slot := true
  hotPlugSurprise := true
  msixVectors := 64
  errorReporting := true

/-- A BAR that may be fetched ahead (R350). -/
def barPrefetchable (bar : Nat) : Bool := bar == 2

/-- The value of an item of the configuration space; what the table of R348 does not list is not implemented. -/
def Dev.configItem (d : Dev) (i : ConfigItem) : Nat :=
  let f := d.pcieFunction
  match i with
  | .vendor => f.vendor
  | .device => f.device
  | .revision => f.revision
  | .classCode => f.classCode
  | .subsystemVendor => f.subsystemVendor
  | .subsystem => f.subsystem
  | .interruptPin => f.interruptPin
  | .serialNumber => f.serial
  | .d3hot => bitNat f.d3hot
  | .pme => bitNat f.pme
  | .endpoint => bitNat f.endpoint
  | .maxPayload => f.maxPayload
  | .maxReadRequest => f.maxReadRequest
  | .functionLevelReset => bitNat f.functionLevelReset
  | .aspmL1 => bitNat f.aspmL1
  | .aspmL0s => bitNat f.aspmL0s
  | .slot => bitNat f.slot
  | .hotPlugSurprise => bitNat f.hotPlugSurprise
  | .msixVectors => f.msixVectors
  | .msixTable => 0x0000
  | .msixPending => 0x1000
  | .errorReporting => bitNat f.errorReporting
  | .sriov | .ats | .pasid | .resizableBars | .expansionRom | .msi => 0
  | .barSize b => barSize b
  | .barPrefetchable b => bitNat (barPrefetchable b)
  | .barBase b => tabGet d.pcie.bars 0 b
  | .busMaster => d.get F.GLB_HOST_STAT_BME
  | .msixEnable => bitNat d.pcie.msixOn
  | .functionMask => bitNat d.pcie.funcMask
  | .powerState => d.get F.GLB_HOST_STAT_D3HOT

/-- A configuration read of the host. -/
def Dev.configRead (d : Dev) (i : ConfigItem) : Dev :=
  d.emit (if d.pcie.ready then .configData i (d.configItem i) else .unsupported)

/-! ## Meanings: register access -/

/-- The whole dwords that a write of a processor or of the SMBus target covers. -/
def wholeDwords (w : BusWrite) : List (Nat × Word) :=
  (busDwords w).filterMap (fun x => if x.2.2 then some (x.1, x.2.1) else none)

/-- A processor's own write, whose `bar` is 16 and the number of an indirect space where it is not BAR0. -/
def State.partyWrite (s : State) (w : BusWrite) : State :=
  (wholeDwords w).foldl (fun s x =>
    if w.bar = 0 then s.writeBar w.party x.1 x.2 else if 16 ≤ w.bar then s.writeSpace w.party (w.bar - 16) x.1 x.2 else s) s

/-- A processor's own read. -/
def State.partyRead (s : State) (r : BusRead) : State × List Word :=
  (readDwords r.offset r.size).foldl (fun x a =>
    let y := x.1.readWord r.party (if r.bar = 0 then 16 else r.bar - 16) a
    (y.1, x.2 ++ [y.2])) (s, [])

/-- An access that the ring grants (R357): the host's goes through the endpoint, the SMBus target's is held to its subset. -/
def State.grant (s : State) (a : BusAccess) : State :=
  match a with
  | .write w =>
    match w.party with
    | .host => s.askWrite w
    | .smbus => if w.bar = 0 then (wholeDwords w).foldl (fun s x => s.smbWrite x.1 x.2) s else s
    | _ => s.partyWrite w
  | .read r =>
    match r.party with
    | .host => s.askRead r
    | .smbus => let x := s.smbRead r.offset; x.1.onDev (·.emit (.ringData .smbus x.2.toNat))
    | p => let x := s.partyRead r; x.1.onDev (·.emit (.ringData p (bytesOf x.2 (r.offset % 4) r.size)))
  | .config i => s.onDev (·.configRead i)

/-- The accesses of a round in the order of their grants: FSP, SMC, CP, SMBus target, PCIe endpoint (R357). -/
def roundGranted (r : RingRound) : List BusAccess :=
  [Party.fsp, .smc, .cp, .smbus, .host].flatMap (fun p => r.accesses.filter (fun a => a.party == p))

/-- Whether a round writes the register at an address of a space. -/
def roundWrites (r : RingRound) (sp a : Nat) : Bool :=
  r.accesses.any (fun x => match x with
    | .write w => (if w.bar = 0 then sp == 16 else 16 ≤ w.bar && w.bar - 16 == sp) && (wholeDwords w).any (fun y => y.1 == a)
    | _ => false)

/-- What hardware does in the cycle of a write (R358): it stands beside the written word, field by field. An event that no
write of the round meets is the business of its own command. -/
def State.meet (s : State) (r : RingRound) (e : HwEvent) : State :=
  match e with
  | .update sp a v =>
    if !roundWrites r sp a then s
    else s.onDev (fun d => match (if sp = 16 then regAt .bar0 a else indRegAt sp a) with
      | none => d
      | some (g, u) => if d.stage = 0 || d.absent g u || g.isMbx then d else d.setWord g u (wordMeet g.spec.fields g.counts (d.word g u) v))
  | .indApply => s.applyOldest.proceed

/-- REGISTER_WRITE (R353, R357, R358): a round of the register ring. -/
def execRegisterWrite (r : RingRound) (s : State) : Host.Outcome State Fault Refusal :=
  .next (r.hw.foldl (fun s e => s.meet r e) ((roundGranted r).foldl State.grant s))
/-- IND_DATA_WRITE (R360 to R362). -/
def execIndDataWrite (v : Word) (s : State) : Host.Outcome State Fault Refusal :=
  .next (s.askWrite ⟨.host, 0, 0x1008, 4, v.setWidth 64⟩)
/-- IND_QUEUE_APPLY (R362, R363). -/
def execIndQueueApply (s : State) : Host.Outcome State Fault Refusal := .next s.applyOldest.proceed
/-- IND_DATA_READ (R360 to R363). -/
def execIndDataRead (s : State) : Host.Outcome State Fault Refusal :=
  .next (if s.dev.pcie.ready then s.ask .indData else s.onDev (·.emit .unsupported))
/-- NVM_READ_HELD_TIMEOUT (R364): after 40 µs a held NVM read completes with zero and ERR HELD; it is not performed. -/
def execNvmReadHeldTimeout (s : State) : Host.Outcome State Fault Refusal :=
  .next (match s.dev.pcie.held with
    | some ⟨got, (8, a) :: rest, skip, size⟩ => if !s.dev.nvmBusy then s else
        (s.onDev (fun d => (d.onPcie (fun e => { e with held := some ⟨got ++ [0], rest, skip, size⟩ })).indError 5 8 a)).proceed
    | _ => match s.dev.sys.smbRead with
      | some a => s.onDev (fun d => (d.onSys (fun y => { y with smbRead := none })).smbAnswer 0x13 (leBytes 4 a) 0)
      | none => s)
/-- NVM_ERASE_DONE (R334). -/
def execNvmEraseDone (s : State) : Host.Outcome State Fault Refusal := .next s.eraseDone.flashFree
/-- NVM_PROGRAM_DONE (R334). -/
def execNvmProgramDone (s : State) : Host.Outcome State Fault Refusal := .next s.programDone.flashFree
/-- WIDE_CAPTURE (R365, R366). -/
def execWideCapture (s : State) : Host.Outcome State Fault Refusal := .next (s.onDev (·.reach Dev.capture))
/-- WIDE_D3_READ (R353, R366). -/
def execWideD3Read (s : State) : Host.Outcome State Fault Refusal :=
  .next (if s.dev.pcie.ready then s.ask (.word 16 0x201C) else s.onDev (·.emit .unsupported))
/-- TIO_RECORD_READ (R215): a read of TIO_REC_W0 of a channel; the word W0 of the record is answered. -/
def execTioRecordRead (c : TioId) (s : State) : Host.Outcome State Fault Refusal := .next (s.askWord 5 (0x400 * c.val + 0x60))
/-- RING_AREA_READ (R394): a read of RING_AREA_DATA; one that does not reach the block returns zero (R315). -/
def execRingAreaRead (s : State) : Host.Outcome State Fault Refusal := .next (s.askWord 16 0x8038)
/-- ALARM_LOG_READ (R401): a read of ALM_LOG_W0; during stage ROM it returns zero (R315). -/
def execAlarmLogRead (s : State) : Host.Outcome State Fault Refusal := .next (s.askWord 16 0x3060)

/-! ## Meanings: the endpoint (R316, R351, R368, R369) -/

/-- A field of GLB_HOST_STAT with CHANGED. -/
def Dev.hostStat (d : Dev) (f : Fld) (v : Nat) : Dev := d.setMark f v F.GLB_HOST_STAT_CHANGED

/-- The link goes down: DOWN_COUNT, HOST_LINK_DOWN. -/
def Dev.linkDown (d : Dev) : Dev :=
  let d := ((d.hostStat F.GLB_HOST_STAT_LINK_UP 0).hostStat F.GLB_HOST_STAT_SPEED 0).hostStat F.GLB_HOST_STAT_WIDTH 0
  let d := d.set F.GLB_HOST_STAT_DOWN_COUNT (min 255 (d.get F.GLB_HOST_STAT_DOWN_COUNT + 1))
  ((d.onPcie (fun e => { e with ready := false })).countDev 305).cond .hostLinkDown true

/-- HOST_LINK_RESET (R368, R379): the configuration space, the MSI-X table and the IND and WIDE registers return to their reset
values, queued indirect writes are discarded and counted, the link goes down but for a Function Level Reset, and the host
restarts. -/
def Dev.linkReset (d : Dev) (c : HostResetCause) : Dev :=
  if !d.sys.powered || (c == .perst && d.sys.perst) || (c != .perst && !d.pcie.ready) then d
  else
    let d := d.countDev 304 (min 64 d.pcie.indQueue.length)
    let d := d.onPcie (fun e => { Pcie.init with ready := e.ready, hbRuns := e.hbRuns })
    let d := d.each [Reg.IND_SPACE, .IND_ADDR, .IND_DATA, .IND_STAT, .IND_ERR_ADDR, .IND_CTRL, .WIDE_SEL, .WIDE_CTRL, .WIDE_STAT]
      (fun d r => d.setWord r 0 (r.resetWord 0))
    let d := d.each (List.range 4) (fun d i => d.setWord .WIDE_D i 0)
    let d := ((d.hostStat F.GLB_HOST_STAT_BME 0).hostStat F.GLB_HOST_STAT_MSIX_EN 0).hostStat F.GLB_HOST_STAT_D3HOT 0
    let d := d.when (c == .perst) (fun d => d.onSys (fun y => { y with perst := true }))
    (d.when (c != .flr) Dev.linkDown).hostRestart
def execHostLinkReset (c : HostResetCause) (s : State) : Host.Outcome State Fault Refusal := .next (s.onDev (·.linkReset c))

/-- ENDPOINT_READY (R316, R349): PERST_N is deasserted, the link is up and the endpoint answers. -/
def Dev.endpointReady (d : Dev) (speed width : Nat) : Dev :=
  if !d.sys.powered || d.pcie.ready then d
  else
    let d := ((d.hostStat F.GLB_HOST_STAT_LINK_UP 1).hostStat F.GLB_HOST_STAT_SPEED speed).hostStat F.GLB_HOST_STAT_WIDTH width
    let d := (d.onPcie (fun e => { e with ready := true })).onSys (fun y => { y with perst := false })
    d.cond .hostLinkDown false
def execEndpointReady (speed width : Fin 8) (s : State) : Host.Outcome State Fault Refusal :=
  .next (s.onDev (·.endpointReady speed.val width.val))

/-- HOST_HB_KICK (R369, R372). -/
def execHostHbKick (s : State) : Host.Outcome State Fault Refusal := .next (s.onDev (·.globReach Dev.hbKick))
/-- HOST_SILENT_TIMEOUT (R369). -/
def execHostSilentTimeout (s : State) : Host.Outcome State Fault Refusal :=
  .next (s.onDev (fun d => d.when d.pcie.hbRuns (fun d => d.cond .hostSilent true)))

/-- GLB_HOST_STAT.MSIX_EN: MSI-X enabled and not masked as a whole. -/
def Dev.msixStat (d : Dev) : Dev := d.hostStat F.GLB_HOST_STAT_MSIX_EN (bitNat (d.pcie.msixOn && !d.pcie.funcMask))

/-- PCIE_CONFIG_WRITE (R350, R351, R399): what the host changes in configuration space or the MSI-X table; messages that wait are sent
as soon as they may be. -/
def Dev.configWrite (d : Dev) (c : PcieCfg) : Dev :=
  if !d.pcie.ready then d
  else
    let d := match c with
      | .busMaster on => d.hostStat F.GLB_HOST_STAT_BME (bitNat on)
      | .msixEnable on => (d.onPcie (fun e => { e with msixOn := on })).msixStat
      | .functionMask on => (d.onPcie (fun e => { e with funcMask := on })).msixStat
      | .vectorMask v m => d.msixWrite (16 * v.val + 12) (if m then 1 else 0)
      | .powerState cold => d.hostStat F.GLB_HOST_STAT_D3HOT (bitNat cold)
      | .barBase bar base =>
        if barSize bar = 0 then d
        else d.onPcie (fun e => { e with bars := tabSet e.bars 0 bar (base % 2 ^ 64 / barSize bar * barSize bar) })
    d.sendPending
def execPcieConfigWrite (c : PcieCfg) (s : State) : Host.Outcome State Fault Refusal := .next (s.onDev (·.configWrite c))

/-! ## Meanings: the SMBus target (R370, R371) -/

/-- SMB_WRITE_REGISTER. -/
def execSmbWriteRegister (ofs : BitVec 16) (v : Word) (h : SmbHead) (s : State) : Host.Outcome State Fault Refusal :=
  .next (s.smbTake h 0x10 (·.smbWrite ofs.toNat v))

/-- SMB_READ_REGISTER. -/
def execSmbReadRegister (ofs : BitVec 16) (h : SmbHead) (s : State) : Host.Outcome State Fault Refusal :=
  .next (s.smbTake h 0x11 (fun s => let x := s.smbRead ofs.toNat; x.1.onDev (·.smbAnswer 0x11 (leBytes 2 ofs.toNat) x.2)))

/-- An NVM word of the SMBus target: RECOVERY only, aligned, within the flash. -/
def State.smbNvm (s : State) (a : Nat) : Bool := s.dev.stage == 8 && a % 4 == 0 && decide (a < 0x4000000)

/-- SMB_WRITE_NVM: obeys R311, R334 and R335. -/
def State.smbWriteNvm (s : State) (a : Nat) (v : Word) : State :=
  if !s.smbNvm a then s.onDev (·.badAccess 2 3 a)
  else match s.nvmWrite a v with
    | (s, .held) => s.onDev (·.onSys (fun y => { y with smbWrite := some (a, v) }))
    | (s, _) => s
def execSmbWriteNvm (a v : Word) (h : SmbHead) (s : State) : Host.Outcome State Fault Refusal :=
  .next (s.smbTake h 0x12 (·.smbWriteNvm a.toNat v))

/-- SMB_READ_NVM: held while the flash works (R364). -/
def State.smbReadNvm (s : State) (a : Nat) : State :=
  if !s.smbNvm a then s.onDev (fun d => (d.badAccess 2 3 a).smbAnswer 0x13 (leBytes 4 a) 0)
  else if s.dev.nvmBusy then s.onDev (·.onSys (fun y => { y with smbRead := some a }))
  else let w := s.nvmRead a; s.onDev (·.smbAnswer 0x13 (leBytes 4 a) w)
def execSmbReadNvm (a : Word) (h : SmbHead) (s : State) : Host.Outcome State Fault Refusal :=
  .next (s.smbTake h 0x13 (·.smbReadNvm a.toNat))

end Sys2Proof.Machine
end

