-- ==== Sys2Proof/Machine/Mgmt.lean ====
section
/-! DEFINITION. PTP_MANAGEMENT (R182, R381): the data sets of the PTP instances as MANAGEMENT messages read and change them. -/

namespace Sys2Proof.Machine

/-- A MANAGEMENT message: the action, managementId and data of its TLV (IEEE 1588-2019). -/
def mgmtAction (m : List Byte) : Nat := byteAt m 46 % 16
def mgmtId (m : List Byte) : Nat := beNat (slice m 52 2)
def mgmtData (m : List Byte) : List Byte := m.drop 54

/-- The instance that a MANAGEMENT message names by its domainNumber. -/
def Dev.mgmtInst (d : Dev) (m : List Byte) : Option Nat :=
  (List.range 4).find? (fun i => (d.inst i).made && (d.inst i).domain == byteAt m 4)

/-- The port of an instance whose parent it follows. -/
def Dev.parentPort (d : Dev) (i : Nat) : Option Nat := d.portList.find? (fun p => d.instOf p == some i && d.isSlave p)

/-- The port of an instance that a MANAGEMENT message names in targetPortIdentity: the lowest where it names all or none of
them. -/
def Dev.mgmtPort (d : Dev) (i : Nat) (m : List Byte) : Nat :=
  let n := beNat (slice m 42 2)
  let own := d.portList.filter (fun p => d.get F.PRT_PTP_CFG_INSTANCE p == i)
  if own.contains (n - 1) && n != 0 then n - 1 else own.headD 0

/-- A signed field of PRT_PTP_RATE as a byte. -/
def Dev.logByte (d : Dev) (f : Fld) (p : Nat) : Byte := BitVec.ofNat 8 (twosOf (signedOf (d.get f p) 4) 8)

/-- The data sets of an instance as they stand, by managementId, and those of its port `p` (PRESUMED: the layouts of
IEEE 1588-2019): default, current, parent, time properties and port data set, then single members. -/
def Dev.liveData (d : Dev) (i p id : Nat) : Option (List Byte) :=
  let x := d.inst i
  let a := d.announceOf i
  let own := d.ownQuality i d.mir.state
  let up := d.parentPort i
  let quality (q : AnnounceData) : List Byte := [BitVec.ofNat 8 q.clockClass, BitVec.ofNat 8 q.clockAccuracy] ++ beBytes 2 q.variance
  let heard := up.bind (fun q => (d.ptu q).announce)
  let mech : Byte := if d.peerDelay p then 2 else 1
  let one (v : Nat) : Option (List Byte) := some [BitVec.ofNat 8 v, 0]
  match id with
  | 0x2000 => some ([BitVec.ofNat 8 (bitNat (d.portList.any (fun q => d.instOf q == some i && !d.flag F.PRT_PTP_CFG_ONE_STEP q))), 0] ++
      beBytes 2 d.portCount ++ [BitVec.ofNat 8 own.gmPriority1] ++ quality own ++ [BitVec.ofNat 8 own.gmPriority2] ++
      beBytes 8 d.clockId.toNat ++ [BitVec.ofNat 8 x.domain, 0])
  | 0x2001 => some (beBytes 2 (match heard with | some (_, q) => q.stepsRemoved + 1 | none => 0) ++
      (match up with
        | some q => beBytes 8 (twosOf (d.ptu q).theta 64) ++ beBytes 8 (twosOf (d.ptu q).mean 64)
        | none => List.replicate 16 0))
  | 0x2002 =>
    let q := match heard with | some (_, q) => q | none => own
    some ((match heard with | some (m, _) => portIdentity m.clockId m.portNum | none => portIdentity d.clockId 0) ++
      [0, 0, 0xFF, 0xFF, 0x7F, 0xFF, 0xFF, 0xFF, BitVec.ofNat 8 q.gmPriority1] ++ quality q ++
      [BitVec.ofNat 8 q.gmPriority2] ++ beBytes 8 q.gmId.toNat)
  | 0x2003 => some (beBytes 2 (twosOf a.utcOffset 16) ++ [BitVec.ofNat 8 (announceFlags a), BitVec.ofNat 8 a.timeSource])
  | 0x2004 => some (portIdentity d.clockId (p + 1) ++ [BitVec.ofNat 8 (d.ptpState p), d.logByte F.PRT_PTP_RATE_LOG_DELAY p] ++
      beBytes 8 (twosOf (if d.peerDelay p then (d.ptu p).mean else 0) 64) ++ [d.logByte F.PRT_PTP_RATE_LOG_ANNOUNCE p,
      BitVec.ofNat 8 (d.get F.PRT_PTP_RATE_ANNOUNCE_TO p), d.logByte F.PRT_PTP_RATE_LOG_SYNC p, mech,
      d.logByte F.PRT_PTP_RATE_LOG_DELAY p, 2])
  | 0x2005 => one own.gmPriority1
  | 0x2006 => one own.gmPriority2
  | 0x2007 => one x.domain
  | 0x2008 => one (d.setNum i 0x2008 0 % 2)
  | 0x2009 => some [d.logByte F.PRT_PTP_RATE_LOG_ANNOUNCE p, 0]
  | 0x200A => one (d.get F.PRT_PTP_RATE_ANNOUNCE_TO p)
  | 0x200B => some [d.logByte F.PRT_PTP_RATE_LOG_SYNC p, 0]
  | 0x200C => one 2
  | 0x200F => some (ptpTime d.now)
  | 0x2010 => one own.clockAccuracy
  | 0x2011 => some (beBytes 2 (twosOf a.utcOffset 16) ++ [BitVec.ofNat 8 (announceFlags a % 8), 0])
  | 0x2012 => one (announceFlags a / 16 * 16)
  | 0x6000 => some [mech, 0]
  | 0x6001 => some [d.logByte F.PRT_PTP_RATE_LOG_DELAY p, 0]
  | _ => if id = Config.l1StateId then one (d.l1State p) else none

/-- The data of a managementId of an instance: as it stands, as last set, else the standard's. -/
def Dev.mgmtValue (d : Dev) (i p id : Nat) : List Byte :=
  (d.liveData i p id).getD ((((d.inst i).sets.find? (fun e => e.1 == id)).map Prod.snd).getD (Config.dataSet i id))

/-- Members that no SET changes: whole data sets, the domain number (R182), the version, and what the time status gives. -/
def notSettable (id : Nat) : Bool :=
  [0x2000, 0x2001, 0x2002, 0x2003, 0x2004, 0x2007, 0x200C, 0x200F, 0x2010, 0x2011, 0x2012].contains id || id == Config.l1StateId

/-- A SET of a member (R182): of a port's, its register takes the value; any other is kept with the instance. -/
def Dev.mgmtSet (d : Dev) (i p id : Nat) (data : List Byte) : Dev :=
  let v := byteAt data 0
  let rate (f : Fld) : Dev := d.writePtpRate p (putBits (d.word .PRT_PTP_RATE p) f.lo f.width v)
  match id with
  | 0x2009 => rate F.PRT_PTP_RATE_LOG_ANNOUNCE
  | 0x200A => rate F.PRT_PTP_RATE_ANNOUNCE_TO
  | 0x200B => rate F.PRT_PTP_RATE_LOG_SYNC
  | 0x6001 => rate F.PRT_PTP_RATE_LOG_DELAY
  | 0x6000 => d.writePtpCfg p (putBits (d.word .PRT_PTP_CFG p) F.PRT_PTP_CFG_DELAY_MECH.lo 1 (bitNat (v == 2)))
  | _ => d.onInst i (fun x => { x with sets := (id, data) :: x.sets.filter (fun s => s.1 != id) })

/-- A response of a MANAGEMENT message: its TLV in place of the request's, and its length. -/
def mgmtReply (m tlv : List Byte) : List Byte := splice (m.take 46 ++ [2, 0] ++ tlv) 2 (beBytes 2 (48 + tlv.length))

/-- GET and SET of a data set (R182): managementErrorId, zero on success, and the response message; kind, profile and domain
number never change at runtime. A data set that is not supported, or a SET without data, ends in an error of the standard's. -/
def Dev.manage (d : Dev) (m : List Byte) : Dev × Nat × List Byte :=
  let id := mgmtId m
  let act := mgmtAction m
  let fail (e : Nat) : Nat × List Byte := (e, mgmtReply m (tlvBytes 2 (beBytes 2 e ++ beBytes 2 id ++ [0, 0, 0, 0])))
  match d.mgmtInst m with
  | none => (d, fail (Config.mgmtError act id (mgmtData m)))
  | some i =>
    if act = 1 ∧ notSettable id then (d, fail 5)
    else if 1 < act then (d, fail 6)
    else
      let p := d.mgmtPort i m
      let known := (d.liveData i p id).isSome && (act == 0 || !(mgmtData m).isEmpty)
      let e := if known then 0 else Config.mgmtError act id (mgmtData m) % 65536
      if e ≠ 0 then (d, fail e)
      else
        let d := d.when (act == 1) (fun d => d.mgmtSet i p id (mgmtData m))
        (d, 0, mgmtReply m (tlvBytes 1 (beBytes 2 id ++ d.mgmtValue i p id)))

/-- A PTP_MANAGEMENT message that the CP has taken (R182, R381): a part, or the last part of a message, is answered; BUSY
while an exchange of another TAG is in progress. -/
def Dev.ptpManagement (d : Dev) : Dev :=
  let m := d.hostMsg
  let tag := byteAt m 2
  if d.cpMail.tag.isSome && d.cpMail.tag != some tag then d.cpAck 0xFFFD []
  else
    let parts := (if d.cpMail.reply.isEmpty then d.cpMail.parts else []) ++ [m.drop 4]
    if byteAt m 3 % 2 = 1 then
      ({ d with cpMail := { d.cpMail with tag := some tag, parts := parts, reply := [] } }).cpAck 0xFFF0 []
    else
      let whole := parts.flatten
      if whole.length < 54 then
        ({ d with cpMail := { d.cpMail with tag := none, parts := [], reply := [] } }).cpAck 0xFFFE []
      else
        let (d, code, rsp) := d.manage whole
        d.sendPart tag code (partsOf rsp.length rsp)

/-- The CP serves the message of the host that it has taken, by its OPCODE (R381). -/
def Dev.cpServe (d : Dev) : Dev :=
  if !d.cpTaken then d
  else match (d.chan 0 2).opcode with
  | 1 => d.ptpManagement
  | 2 => d.continueReply
  | _ => d.cpAck 0xFFFF []

/-- PTP_MANAGEMENT (R182): the message taken is served. -/
def execPtpManagement (s : State) : Host.Outcome State Fault Refusal := .next (s.onDev Dev.cpServe)
/-- CONTINUE (R381): the message taken is served. -/
def execContinueMsg (s : State) : Host.Outcome State Fault Refusal := .next (s.onDev Dev.cpServe)

end Sys2Proof.Machine
end

