-- ==== Sys2Proof/Machine/Dispatch.lean ====
section
/-! DEFINITION. The effect of a command on everything but the queue: one arm for each command, one meaning for each. -/

namespace Sys2Proof.Machine

def exec (i : Instr) (s : State) : Host.Outcome State Fault Refusal :=
  match i with
  | .registerWrite x0 => Sys2Proof.Machine.execRegisterWrite x0 s
  | .powerGood x0 x1 => Sys2Proof.Machine.execPowerGood x0 x1 s
  | .romStage => Sys2Proof.Machine.execRomStage s
  | .fspImageLoaded => Sys2Proof.Machine.execFspImageLoaded s
  | .tbpImageLoaded => Sys2Proof.Machine.execTbpImageLoaded s
  | .configStage => Sys2Proof.Machine.execConfigStage s
  | .ocxoOscillates x0 => Sys2Proof.Machine.execOcxoOscillates x0 s
  | .ocxoWarmDeclared x0 x1 => Sys2Proof.Machine.execOcxoWarmDeclared x0 x1 s
  | .ocxoWarmTimeout x0 => Sys2Proof.Machine.execOcxoWarmTimeout x0 s
  | .servoUpdate x0 => Sys2Proof.Machine.execServoUpdate x0 s
  | .wtrExpired => Sys2Proof.Machine.execWtrExpired s
  | .acceptJump x0 => Sys2Proof.Machine.execAcceptJump x0 s
  | .timeSet x0 => Sys2Proof.Machine.execTimeSet x0 s
  | .leapSecondApply => Sys2Proof.Machine.execLeapSecondApply s
  | .modelSettingsWrite => Sys2Proof.Machine.execModelSettingsWrite s
  | .modelRestart x0 => Sys2Proof.Machine.execModelRestart x0 s
  | .refinPpsEdge x0 x1 => Sys2Proof.Machine.execRefinPpsEdge x0 x1 s
  | .ppsWindowClose x0 => Sys2Proof.Machine.execPpsWindowClose x0 s
  | .freqActivityLoss x0 => Sys2Proof.Machine.execFreqActivityLoss x0 s
  | .todinMessage x0 x1 x2 => Sys2Proof.Machine.execTodinMessage x0 x1 x2 s
  | .todinLoss x0 => Sys2Proof.Machine.execTodinLoss x0 s
  | .freqGateEnd x0 x1 => Sys2Proof.Machine.execFreqGateEnd x0 x1 s
  | .candidateQualified x0 => Sys2Proof.Machine.execCandidateQualified x0 s
  | .refinCfgWrite x0 x1 => Sys2Proof.Machine.execRefinCfgWrite x0 x1 s
  | .skipWtr => Sys2Proof.Machine.execSkipWtr s
  | .clearBars => Sys2Proof.Machine.execClearBars s
  | .monitorError x0 => Sys2Proof.Machine.execMonitorError x0 s
  | .standbyCounterLoad x0 => Sys2Proof.Machine.execStandbyCounterLoad x0 s
  | .standbyEntersTracking x0 => Sys2Proof.Machine.execStandbyEntersTracking x0 s
  | .standbyEntersReady x0 => Sys2Proof.Machine.execStandbyEntersReady x0 s
  | .standbyTrackLost x0 => Sys2Proof.Machine.execStandbyTrackLost x0 s
  | .standbyFault x0 => Sys2Proof.Machine.execStandbyFault x0 s
  | .standbyNotReadyTimeout => Sys2Proof.Machine.execStandbyNotReadyTimeout s
  | .heartbeatEmit x0 => Sys2Proof.Machine.execHeartbeatEmit x0 s
  | .heartbeatReceived x0 => Sys2Proof.Machine.execHeartbeatReceived x0 s
  | .heartbeatMiss x0 x1 => Sys2Proof.Machine.execHeartbeatMiss x0 x1 s
  | .mirrorReplayDone x0 x1 x2 => Sys2Proof.Machine.execMirrorReplayDone x0 x1 x2 s
  | .failureDeclared => Sys2Proof.Machine.execFailureDeclared s
  | .checkpointWrite x0 => Sys2Proof.Machine.execCheckpointWrite x0 s
  | .twinSwitch => Sys2Proof.Machine.execTwinSwitch s
  | .handover => Sys2Proof.Machine.execHandover s
  | .revertiveTimerExpired => Sys2Proof.Machine.execRevertiveTimerExpired s
  | .standbyOff => Sys2Proof.Machine.execStandbyOff s
  | .standbyOn => Sys2Proof.Machine.execStandbyOn s
  | .synCfgWrite x0 x1 => Sys2Proof.Machine.execSynCfgWrite x0 x1 s
  | .bandEntryWrite x0 x1 x2 x3 x4 => Sys2Proof.Machine.execBandEntryWrite x0 x1 x2 x3 x4 s
  | .synFreqHiWrite x0 x1 => Sys2Proof.Machine.execSynFreqHiWrite x0 x1 s
  | .synLockDeclared x0 => Sys2Proof.Machine.execSynLockDeclared x0 s
  | .synAcqTimeout x0 => Sys2Proof.Machine.execSynAcqTimeout x0 s
  | .synLockLost x0 => Sys2Proof.Machine.execSynLockLost x0 s
  | .retune x0 => Sys2Proof.Machine.execRetune x0 s
  | .phaseStep x0 => Sys2Proof.Machine.execPhaseStep x0 s
  | .stepAt x0 => Sys2Proof.Machine.execStepAt x0 s
  | .stepAtStart x0 => Sys2Proof.Machine.execStepAtStart x0 s
  | .resync x0 => Sys2Proof.Machine.execResync x0 s
  | .stepCancel x0 => Sys2Proof.Machine.execStepCancel x0 s
  | .stepComplete x0 => Sys2Proof.Machine.execStepComplete x0 s
  | .outCfgWrite x0 x1 => Sys2Proof.Machine.execOutCfgWrite x0 x1 s
  | .outPerHiWrite x0 x1 => Sys2Proof.Machine.execOutPerHiWrite x0 x1 s
  | .outAlignWrite x0 x1 => Sys2Proof.Machine.execOutAlignWrite x0 x1 s
  | .outputStart x0 => Sys2Proof.Machine.execOutputStart x0 s
  | .align x0 => Sys2Proof.Machine.execAlign x0 s
  | .arm x0 => Sys2Proof.Machine.execArm x0 s
  | .disarm x0 => Sys2Proof.Machine.execDisarm x0 s
  | .alignedEdge x0 => Sys2Proof.Machine.execAlignedEdge x0 s
  | .quadModeWrite x0 x1 => Sys2Proof.Machine.execQuadModeWrite x0 x1 s
  | .bringupPhaseDone x0 x1 x2 => Sys2Proof.Machine.execBringupPhaseDone x0 x1 x2 s
  | .bringupTimeout x0 => Sys2Proof.Machine.execBringupTimeout x0 s
  | .linkUp x0 => Sys2Proof.Machine.execLinkUp x0 s
  | .lossOfSignal x0 => Sys2Proof.Machine.execLossOfSignal x0 s
  | .lockLost x0 => Sys2Proof.Machine.execLockLost x0 s
  | .degradeWindowEnd x0 x1 x2 x3 => Sys2Proof.Machine.execDegradeWindowEnd x0 x1 x2 x3 s
  | .laneFault x0 => Sys2Proof.Machine.execLaneFault x0 s
  | .laneTestWrite x0 x1 => Sys2Proof.Machine.execLaneTestWrite x0 x1 s
  | .chkLockGained x0 => Sys2Proof.Machine.execChkLockGained x0 s
  | .chkLockLost x0 x1 => Sys2Proof.Machine.execChkLockLost x0 x1 s
  | .laneCfgWrite x0 x1 => Sys2Proof.Machine.execLaneCfgWrite x0 x1 s
  | .quadRestart x0 => Sys2Proof.Machine.execQuadRestart x0 s
  | .discEnWrite x0 x1 => Sys2Proof.Machine.execDiscEnWrite x0 x1 s
  | .sleepEntryDecision x0 => Sys2Proof.Machine.execSleepEntryDecision x0 s
  | .sleepNoticeReceived x0 x1 x2 => Sys2Proof.Machine.execSleepNoticeReceived x0 x1 x2 s
  | .sleepEntry x0 x1 x2 => Sys2Proof.Machine.execSleepEntry x0 x1 x2 s
  | .deepening x0 => Sys2Proof.Machine.execDeepening x0 s
  | .burstLead x0 x1 => Sys2Proof.Machine.execBurstLead x0 x1 s
  | .refreshBurst x0 => Sys2Proof.Machine.execRefreshBurst x0 s
  | .burstReceived x0 x1 => Sys2Proof.Machine.execBurstReceived x0 x1 s
  | .burstMissed x0 => Sys2Proof.Machine.execBurstMissed x0 s
  | .txWakeDecision x0 x1 => Sys2Proof.Machine.execTxWakeDecision x0 x1 s
  | .wakeGuardEnd x0 x1 => Sys2Proof.Machine.execWakeGuardEnd x0 x1 s
  | .rxWakeDetected x0 x1 x2 x3 => Sys2Proof.Machine.execRxWakeDetected x0 x1 x2 x3 s
  | .smcStopped x0 => Sys2Proof.Machine.execSmcStopped x0 s
  | .helloSend x0 => Sys2Proof.Machine.execHelloSend x0 s
  | .helloReceived x0 x1 x2 => Sys2Proof.Machine.execHelloReceived x0 x1 x2 s
  | .partnerLost x0 => Sys2Proof.Machine.execPartnerLost x0 s
  | .beatSample x0 x1 x2 x3 => Sys2Proof.Machine.execBeatSample x0 x1 x2 x3 s
  | .ptpSyncReceived x0 x1 x2 => Sys2Proof.Machine.execPtpSyncReceived x0 x1 x2 s
  | .ptpFollowUpReceived x0 x1 => Sys2Proof.Machine.execPtpFollowUpReceived x0 x1 s
  | .ptpAnnounceReceived x0 x1 x2 => Sys2Proof.Machine.execPtpAnnounceReceived x0 x1 x2 s
  | .delayReqReceived x0 x1 x2 => Sys2Proof.Machine.execDelayReqReceived x0 x1 x2 s
  | .delayRespReceived x0 x1 => Sys2Proof.Machine.execDelayRespReceived x0 x1 s
  | .pdelayReqReceived x0 x1 x2 x3 => Sys2Proof.Machine.execPdelayReqReceived x0 x1 x2 x3 s
  | .pdelayRespReceived x0 x1 => Sys2Proof.Machine.execPdelayRespReceived x0 x1 s
  | .ptpSyncTransmit x0 x1 => Sys2Proof.Machine.execPtpSyncTransmit x0 x1 s
  | .ptpFollowUpTransmit x0 => Sys2Proof.Machine.execPtpFollowUpTransmit x0 s
  | .ptpAnnounceTransmit x0 => Sys2Proof.Machine.execPtpAnnounceTransmit x0 s
  | .delayReqTransmit x0 x1 => Sys2Proof.Machine.execDelayReqTransmit x0 x1 s
  | .delayRefresh x0 x1 => Sys2Proof.Machine.execDelayRefresh x0 x1 s
  | .ptpReceiptTimeout x0 x1 => Sys2Proof.Machine.execPtpReceiptTimeout x0 x1 s
  | .bmcaRun x0 => Sys2Proof.Machine.execBmcaRun x0 s
  | .ptpCfgWrite x0 x1 => Sys2Proof.Machine.execPtpCfgWrite x0 x1 s
  | .revStart x0 x1 => Sys2Proof.Machine.execRevStart x0 x1 s
  | .revMeasurementDone x0 => Sys2Proof.Machine.execRevMeasurementDone x0 s
  | .revStepTimeout x0 => Sys2Proof.Machine.execRevStepTimeout x0 s
  | .revFinish x0 => Sys2Proof.Machine.execRevFinish x0 s
  | .revApply x0 => Sys2Proof.Machine.execRevApply x0 s
  | .revAbort x0 => Sys2Proof.Machine.execRevAbort x0 s
  | .tioCfgWrite x0 x1 => Sys2Proof.Machine.execTioCfgWrite x0 x1 s
  | .calibrationStart x0 x1 => Sys2Proof.Machine.execCalibrationStart x0 x1 s
  | .calibrationComplete x0 x1 => Sys2Proof.Machine.execCalibrationComplete x0 x1 s
  | .tioInputEdge x0 x1 x2 x3 => Sys2Proof.Machine.execTioInputEdge x0 x1 x2 x3 s
  | .tioNoEdgeTimeout x0 => Sys2Proof.Machine.execTioNoEdgeTimeout x0 s
  | .tioArm x0 => Sys2Proof.Machine.execTioArm x0 s
  | .tioDisarm x0 => Sys2Proof.Machine.execTioDisarm x0 s
  | .tioMeasTimeout x0 => Sys2Proof.Machine.execTioMeasTimeout x0 s
  | .tioStart x0 => Sys2Proof.Machine.execTioStart x0 s
  | .tioOutputEdge x0 => Sys2Proof.Machine.execTioOutputEdge x0 s
  | .tioCancel x0 => Sys2Proof.Machine.execTioCancel x0 s
  | .tioRecordRead x0 => Sys2Proof.Machine.execTioRecordRead x0 s
  | .tioFifoEntryFault x0 x1 => Sys2Proof.Machine.execTioFifoEntryFault x0 x1 s
  | .tioOutputEngineFault x0 => Sys2Proof.Machine.execTioOutputEngineFault x0 s
  | .frameReceived x0 x1 => Sys2Proof.Machine.execFrameReceived x0 x1 s
  | .frameFcsVerdict x0 x1 => Sys2Proof.Machine.execFrameFcsVerdict x0 x1 s
  | .frameCommit x0 x1 => Sys2Proof.Machine.execFrameCommit x0 x1 s
  | .frameTransmitDone x0 => Sys2Proof.Machine.execFrameTransmitDone x0 s
  | .ageingSweep => Sys2Proof.Machine.execAgeingSweep s
  | .fdbLookup => Sys2Proof.Machine.execFdbLookup s
  | .fdbInsert => Sys2Proof.Machine.execFdbInsert s
  | .fdbDelete => Sys2Proof.Machine.execFdbDelete s
  | .fdbReadIdx x0 => Sys2Proof.Machine.execFdbReadIdx x0 s
  | .fdbFlush x0 x1 x2 => Sys2Proof.Machine.execFdbFlush x0 x1 x2 s
  | .fdbFlushDone => Sys2Proof.Machine.execFdbFlushDone s
  | .fdbBadOp x0 => Sys2Proof.Machine.execFdbBadOp x0 s
  | .cellReadError x0 x1 => Sys2Proof.Machine.execCellReadError x0 x1 s
  | .listError x0 x1 x2 x3 => Sys2Proof.Machine.execListError x0 x1 x2 x3 s
  | .tableEntryError x0 x1 => Sys2Proof.Machine.execTableEntryError x0 x1 s
  | .auditPass x0 => Sys2Proof.Machine.execAuditPass x0 s
  | .recoveryTimeout x0 => Sys2Proof.Machine.execRecoveryTimeout x0 s
  | .holdRelease x0 => Sys2Proof.Machine.execHoldRelease x0 s
  | .recoveryCfgWrite x0 x1 x2 => Sys2Proof.Machine.execRecoveryCfgWrite x0 x1 x2 s
  | .meterCfgWrite x0 x1 x2 => Sys2Proof.Machine.execMeterCfgWrite x0 x1 x2 s
  | .gateEvent x0 => Sys2Proof.Machine.execGateEvent x0 s
  | .gateCfgWrite x0 x1 x2 => Sys2Proof.Machine.execGateCfgWrite x0 x1 x2 s
  | .queueCfgWrite x0 x1 x2 x3 => Sys2Proof.Machine.execQueueCfgWrite x0 x1 x2 x3 s
  | .repredictionDone x0 => Sys2Proof.Machine.execRepredictionDone x0 s
  | .fastStart => Sys2Proof.Machine.execFastStart s
  | .fastDomainOn => Sys2Proof.Machine.execFastDomainOn s
  | .fastStop => Sys2Proof.Machine.execFastStop s
  | .fastDomainOff => Sys2Proof.Machine.execFastDomainOff s
  | .pwrLatWrite x0 x1 x2 => Sys2Proof.Machine.execPwrLatWrite x0 x1 x2 s
  | .pwrGateCfgWrite x0 => Sys2Proof.Machine.execPwrGateCfgWrite x0 s
  | .lpllStop x0 => Sys2Proof.Machine.execLpllStop x0 s
  | .bankDrainStart => Sys2Proof.Machine.execBankDrainStart s
  | .bankGated => Sys2Proof.Machine.execBankGated s
  | .sliceGate x0 => Sys2Proof.Machine.execSliceGate x0 s
  | .coreIdleGate x0 => Sys2Proof.Machine.execCoreIdleGate x0 s
  | .inputMonitorRefresh x0 x1 x2 => Sys2Proof.Machine.execInputMonitorRefresh x0 x1 x2 s
  | .resetPin => Sys2Proof.Machine.execResetPin s
  | .glbResetFull x0 => Sys2Proof.Machine.execGlbResetFull x0 s
  | .glbResetFast x0 => Sys2Proof.Machine.execGlbResetFast x0 s
  | .glbResetCp x0 => Sys2Proof.Machine.execGlbResetCp x0 s
  | .glbResetSmc x0 => Sys2Proof.Machine.execGlbResetSmc x0 s
  | .fspWatchdog => Sys2Proof.Machine.execFspWatchdog s
  | .processorWatchdog x0 => Sys2Proof.Machine.execProcessorWatchdog x0 s
  | .cfgCheck x0 => Sys2Proof.Machine.execCfgCheck x0 s
  | .cfgActivate x0 => Sys2Proof.Machine.execCfgActivate x0 s
  | .cfgReload => Sys2Proof.Machine.execCfgReload s
  | .cfgCommandDone => Sys2Proof.Machine.execCfgCommandDone s
  | .settingsPeriodicWrite => Sys2Proof.Machine.execSettingsPeriodicWrite s
  | .retentionRefreshSector => Sys2Proof.Machine.execRetentionRefreshSector s
  | .updVerify => Sys2Proof.Machine.execUpdVerify s
  | .updActivate => Sys2Proof.Machine.execUpdActivate s
  | .updConfirm => Sys2Proof.Machine.execUpdConfirm s
  | .updAbort => Sys2Proof.Machine.execUpdAbort s
  | .updErase => Sys2Proof.Machine.execUpdErase s
  | .nvmEraseDone => Sys2Proof.Machine.execNvmEraseDone s
  | .updFlush => Sys2Proof.Machine.execUpdFlush s
  | .nvmProgramDone => Sys2Proof.Machine.execNvmProgramDone s
  | .liveStepComplete => Sys2Proof.Machine.execLiveStepComplete s
  | .liveStepTimeout => Sys2Proof.Machine.execLiveStepTimeout s
  | .carryoverTimeout => Sys2Proof.Machine.execCarryoverTimeout s
  | .confirmWindowExpired => Sys2Proof.Machine.execConfirmWindowExpired s
  | .indDataWrite x0 => Sys2Proof.Machine.execIndDataWrite x0 s
  | .indQueueApply => Sys2Proof.Machine.execIndQueueApply s
  | .indDataRead => Sys2Proof.Machine.execIndDataRead s
  | .nvmReadHeldTimeout => Sys2Proof.Machine.execNvmReadHeldTimeout s
  | .wideCapture => Sys2Proof.Machine.execWideCapture s
  | .wideD3Read => Sys2Proof.Machine.execWideD3Read s
  | .hostLinkReset x0 => Sys2Proof.Machine.execHostLinkReset x0 s
  | .endpointReady x0 x1 => Sys2Proof.Machine.execEndpointReady x0 x1 s
  | .hostHbKick => Sys2Proof.Machine.execHostHbKick s
  | .hostSilentTimeout => Sys2Proof.Machine.execHostSilentTimeout s
  | .smbWriteRegister x0 x1 x2 => Sys2Proof.Machine.execSmbWriteRegister x0 x1 x2 s
  | .smbReadRegister x0 x1 => Sys2Proof.Machine.execSmbReadRegister x0 x1 s
  | .smbWriteNvm x0 x1 x2 => Sys2Proof.Machine.execSmbWriteNvm x0 x1 x2 s
  | .smbReadNvm x0 x1 => Sys2Proof.Machine.execSmbReadNvm x0 x1 s
  | .mbxPost x0 x1 x2 => Sys2Proof.Machine.execMbxPost x0 x1 x2 s
  | .mbxWithdraw x0 x1 => Sys2Proof.Machine.execMbxWithdraw x0 x1 s
  | .mbxTake x0 x1 => Sys2Proof.Machine.execMbxTake x0 x1 s
  | .mbxAck x0 x1 x2 x3 => Sys2Proof.Machine.execMbxAck x0 x1 x2 x3 s
  | .mbxRelease x0 x1 => Sys2Proof.Machine.execMbxRelease x0 x1 s
  | .mbxChannelFault x0 x1 => Sys2Proof.Machine.execMbxChannelFault x0 x1 s
  | .mbxHostRestart => Sys2Proof.Machine.execMbxHostRestart s
  | .ptpManagement => Sys2Proof.Machine.execPtpManagement s
  | .continueMsg => Sys2Proof.Machine.execContinueMsg s
  | .cntDataWrite x0 x1 => Sys2Proof.Machine.execCntDataWrite x0 x1 s
  | .cntCfgWrite x0 => Sys2Proof.Machine.execCntCfgWrite x0 s
  | .ringBoundary => Sys2Proof.Machine.execRingBoundary s
  | .hostRingWrite => Sys2Proof.Machine.execHostRingWrite s
  | .telemetrySend => Sys2Proof.Machine.execTelemetrySend s
  | .ringAreaRead => Sys2Proof.Machine.execRingAreaRead s
  | .alarmLatchClear x0 x1 => Sys2Proof.Machine.execAlarmLatchClear x0 x1 s
  | .alarmLogRead => Sys2Proof.Machine.execAlarmLogRead s
  | .reEnable x0 => Sys2Proof.Machine.execReEnable x0 s
  | .conversionEnable => Sys2Proof.Machine.execConversionEnable s
  | .moduleRemoval => Sys2Proof.Machine.execModuleRemoval s
  | .powerDisable x0 => Sys2Proof.Machine.execPowerDisable x0 s
  | .inputPowerLoss x0 => Sys2Proof.Machine.execInputPowerLoss x0 s
  | .thermalTrip => Sys2Proof.Machine.execThermalTrip s
  | .resetNRelease => Sys2Proof.Machine.execResetNRelease s
  | .newCpTakeoverTimeout => Sys2Proof.Machine.execNewCpTakeoverTimeout s
  | .pcieConfigWrite x0 => Sys2Proof.Machine.execPcieConfigWrite x0 s
  | .ptpSignalingReceived x0 x1 x2 => Sys2Proof.Machine.execPtpSignalingReceived x0 x1 x2 s

end Sys2Proof.Machine
end

