-- ==== Sys2Proof/Machine/Tick.lean ====
section
/-! DEFINITION. What passes with one cycle of the 100 MHz timebase clock while no command waits: the counters run, a capture's
latch completes, the module reset of GLB_RESET.FULL comes due, the confirm window and the power-on hours count, mirror credit
accrues, and start-up goes on from one stage to the next. Every event that spec/opcode_table.json lists has its own command. -/

namespace Sys2Proof.Machine

/-- One cycle of 10 ns in 2^-16 ns. -/
def cycleTicks : Ticks := 655360

/-- A running counter advances by one cycle. -/
def Timebase.run (t : Timebase) : Timebase := if t.running then { t with counter := t.counter + cycleTicks } else t

/-- Power-on hours (R327). -/
def Dev.countHour (d : Dev) : Dev :=
  d.when (d.cycles % (3600 * 10 ^ 8) == 0 && 2 ≤ d.stage && d.stage != 8)
    (fun d => d.set F.FIRN_LIFE_POWER_ON_HOURS (d.get F.FIRN_LIFE_POWER_ON_HOURS + 1))

/-- The confirm window (R343): UPD_CONFIRM_LEFT shows the seconds left, a part of one counting whole. -/
def Dev.countWindow (d : Dev) : Dev :=
  if d.sys.winLeft = 0 then d
  else
    let n := d.sys.winLeft - 1
    (d.onSys (fun y => { y with winLeft := n })).set F.UPD_CONFIRM_LEFT_LEFT ((n + 10 ^ 8 - 1) / 10 ^ 8)

/-- The bank access slots of one cycle: one for each ungated bank and fabric cycle, of which 10 ns hold thirteen and fourteen
in turn (1.35 GHz). -/
def Dev.slotsOf (d : Dev) : Nat := (13 + d.cycles % 2) * d.openBanks.length

/-- Mirror credit (R251): one for every bank access slot that the grants of R243 leave idle, up to 4096. -/
def Dev.mirrorAccrues (d : Dev) : Dev :=
  if d.fastOn then
    d.onSw (fun w => { w with
      mirCredit := min 4096 (w.mirCredit + (d.slotsOf - w.slots))
      slots := w.slots - d.slotsOf })
  else d

/-- Stage TIMEBASE ends when no synthesizer acquires any more (R313): the fast domain starts if the image directs it, or STAGE
reads RUNNING; FAST_START ends with FAST ON. -/
def State.bootAdvance (s : State) : State :=
  if s.dev.stage = 5 && !(List.range 4).any (fun i => s.dev.flag F.SYN_STAT_ACQUIRING i) then
    if s.dev.sys.fastStartDirected then
      let s := s.onDev (·.setStage 6)
      if s.dev.fast = 0 then s.startFast else s
    else s.onDev (·.setStage 7)
  else if s.dev.stage = 6 && s.dev.fastOn then (s.onDev (·.setStage 7)).startWindow
  else s

/-- The counters of one cycle. -/
def Dev.cycle (d : Dev) : Dev :=
  let d := { d with tbA := d.tbA.run, tbB := d.tbB.run, cycles := d.cycles + 1 }
  d.countHour.countWindow.mirrorAccrues.latchDone.judgeRelock

/-- One clock cycle; without power, or while RESET_N is held low, nothing runs. -/
def State.tick (s : State) : State :=
  if !s.dev.sys.powered || s.dev.sys.held then s
  else
    let s := s.onDev Dev.cycle
    match s.dev.sys.fullIn with
    | some 0 => s.moduleReset 2
    | some (n + 1) => if n = 0 then s.moduleReset 2 else (s.onDev (·.onSys (fun y => { y with fullIn := some n }))).bootAdvance
    | none => s.bootAdvance

/-- A transmit lane shows electrical idle: without power, in reset and while the fast domain is OFF (R10, R24, R296), where the
port mode does not use it or it is retired (R135, R147), in a near-end loop (R145), and between the bursts of a sleep (R149). -/
def Dev.laneIdle (d : Dev) (l : Nat) : Bool :=
  let p := l / 4
  let loop := d.get F.LANE_TEST_LOOP l
  !d.sys.powered || d.sys.held || d.fast == 0 || !(d.usedLanes p).contains l || d.flag F.LANE_STAT_RETIRED l ||
    loop == 1 || loop == 2 || asleep (d.txSleep p)

/-- The FSP runs from its fallback oscillator: in stage ROM, while no OCXO oscillates, and with no timebase left (R10, R314;
01_architecture.md). -/
def Dev.fspFallback (d : Dev) : Bool :=
  d.sys.powered && (d.stage == 0 || (!d.tbA.osc && !d.tbB.osc) || d.alarmOn .tbNone)

/-- READY_N and TIME_OK_N are pulled low (R416). -/
def Dev.readyN (d : Dev) : Bool := d.sys.powered && d.stage == 7
def Dev.timeOkN (d : Dev) : Bool := d.sys.powered && d.mir.state == .locked

end Sys2Proof.Machine
end

