-- ==== Sys2Proof/Safety.lean ====
section
/-! DEFINITION. What counts as a safe run: every step answers a next state. And the footprint of a change, in which the
frames of the commands are stated: which parts of the device and which registers may differ after it. -/

namespace Sys2Proof.Safety

open Sys2Proof.Machine

/-- A step that answers a next state. -/
def Answers (s : State) : Prop := ∃ t, step s = .next t

/-- A command completes in a next state that meets `Q`. -/
def Completes (i : Instr) (s : State) (Q : State → Prop) : Prop := ∃ t, exec i s = .next t ∧ Q t

/-- The LATCH bit of an alarm (R398). -/
def latched (d : Dev) (a : Alarm) : Bool := d.flag (bitFld .ALM_LATCH a.bit) (a.bit / 32)

/-- The parts of the device beside its register file. -/
inductive Part where
  | ident | applied | tbA | tbB | mir | rsel | cands | twin | syns | outs | chans | cpMail | counters | cntCfg
  | latches | ring | log | pcie | sw | ports | ptus | insts | tio | sys | sent | freeCtr | cycles
  deriving DecidableEq, Repr

/-- The endpoint answers the host, and no access of the host waits or is held (R355, R362). -/
def hostIdle (d : Dev) : Bool :=
  d.pcie.ready && d.pcie.indQueue.isEmpty && d.pcie.waiting.isEmpty && d.pcie.held.isNone

/-- Two devices agree in a part. -/
def Part.same (p : Part) (d e : Dev) : Prop :=
  match p with
  | .ident => e.ident = d.ident
  | .applied => e.applied = d.applied
  | .tbA => e.tbA = d.tbA
  | .tbB => e.tbB = d.tbB
  | .mir => e.mir = d.mir
  | .rsel => e.rsel = d.rsel
  | .cands => e.cands = d.cands
  | .twin => e.twin = d.twin
  | .syns => e.syns = d.syns
  | .outs => e.outs = d.outs
  | .chans => e.chans = d.chans
  | .cpMail => e.cpMail = d.cpMail
  | .counters => e.counters = d.counters
  | .cntCfg => e.cntCfg = d.cntCfg
  | .latches => e.latches = d.latches
  | .ring => e.ring = d.ring
  | .log => e.log = d.log
  | .pcie => e.pcie = d.pcie
  | .sw => e.sw = d.sw
  | .ports => e.ports = d.ports
  | .ptus => e.ptus = d.ptus
  | .insts => e.insts = d.insts
  | .tio => e.tio = d.tio
  | .sys => e.sys = d.sys
  | .sent => e.sent = d.sent
  | .freeCtr => e.freeCtr = d.freeCtr
  | .cycles => e.cycles = d.cycles

/-- `e` is `d` but for parts `P` and registers `R`. -/
structure Only (P : List Part) (R : List Reg) (d e : Dev) : Prop where
  word : ∀ r u, r ∉ R → e.word r u = d.word r u
  part : ∀ p, p ∉ P → p.same d e

/-- The frame of a command that leaves the queue and the flash alone: of the device, only parts `P` and registers `R` change. -/
structure Frame (P : List Part) (R : List Reg) (s t : State) : Prop where
  dev : Only P R s.dev t.dev
  flash : t.flash = s.flash
  pending : t.pending = s.pending

/-- The parts and registers that the reports of an event touch: its counters and latches, the pending Ring, the alarm log, and
messages to the host. -/
def reports : List Part := [.counters, .latches, .ring, .log, .pcie, .sent]
def alarmRegs : List Reg := [.ALM_ACTIVE, .ALM_LATCH]

/-- Only parts `P`, registers `R` and what reports touch change. -/
def OnlyReported (P : List Part) (R : List Reg) (d e : Dev) : Prop := Only (reports ++ P) (alarmRegs ++ R) d e

/-- The frame of a command that may also report. -/
def FrameReported (P : List Part) (R : List Reg) (s t : State) : Prop := Frame (reports ++ P) (alarmRegs ++ R) s t

/-- Input power is lost with a state of the thermal trip (R24, R409, R412): every register at its Reset value, no counter, log
entry, mailbox message or frame left; the part's identity is kept, and the flash where no work on it was cut off (R319). -/
def PowerLost (tripped : Bool) (s t : State) : Prop :=
  t.dev.sys.powered = false ∧ t.dev.sys.enabled = false ∧ t.dev.sys.tripped = tripped ∧
  (∀ r u, t.dev.word r u = r.resetWord u) ∧ t.dev.counters = [] ∧ t.dev.log = [] ∧ t.dev.chans = [] ∧ t.dev.sw = .init ∧
  t.dev.twin.active = none ∧ t.dev.ident = s.dev.ident ∧
  (s.dev.sys.eraseAt = none → s.dev.sys.progPage = none → t.flash = s.flash)

end Sys2Proof.Safety
end

