-- ==== Sys2Proof/Certificates/Slice0/Obligations.lean ====
section
/-! DEFINITION. The statements about the module: one per group of commands what they do, one per group what they leave
unchanged, and the invariant of the flash. Each docstring names the rules it rests on. -/

open Sys2Proof Sys2Proof.Machine Sys2Proof.Safety

/-- For every state whose queue is c followed by rest, step is exec of c on the same state with the queue rest. No command
changes the queue. On an empty queue step answers the tick of one clock cycle (the tick is the model's choice, log
entry 1). -/
def Obligations.QueueOfCommands : Prop :=
  ∀ (s : State) (c : Instr) (rest : List Instr),
  (s.pending = c :: rest → step s = exec c { s with pending := rest }) ∧
  (∀ t, exec c s = .next t → t.pending = s.pending) ∧
  (s.pending = [] → step s = .next s.tick)

/-- In State.reset every register word reads its reset word, no command waits, the flash lists nothing and is in canonical
form, the time status is UNSET, the stage is ROM, the fast domain is OFF, no timebase is active, no frame is stored,
no counter is listed, the log is empty and every mailbox channel is FREE. What a blank flash reads as, and reset
values the spec does not give, are the model's choices (log entries 5 and 6). (R7, R18) -/
def Obligations.StateAfterReset : Prop :=
  (∀ r u, State.reset.dev.word r u = r.resetWord u) ∧ State.reset.pending = [] ∧ State.reset.flash = [] ∧
  Memory.wf State.reset.flash = true ∧ State.reset.dev.mir.state = .unset ∧ State.reset.dev.stage = 0 ∧
  State.reset.dev.fast = 0 ∧ State.reset.dev.twin.active = none ∧ State.reset.dev.sw.frames = [] ∧
  State.reset.dev.counters = [] ∧ State.reset.dev.log = [] ∧ (∀ a b, (State.reset.dev.chan a b).st = 0)

/-- For every state whose flash list is in canonical form (addresses strictly rising, no entry equal to what an unlisted
address reads as), whatever step answers has its flash in canonical form. -/
def Obligations.FlashKeepsItsForm : Prop :=
  ∀ (s t : State), Memory.wf s.flash = true → step s = .next t → Memory.wf t.flash = true

/-- When the latch of a captured 128-bit value completes, WIDE_D3 holds bits 127 to 96, WIDE_D2 bits 95 to 64, WIDE_D1
bits 63 to 32 and WIDE_D0 bits 31 to 0. (R29) -/
def Obligations.CaptureLayout : Prop :=
  ∀ (d : Dev) (v : BitVec 128) (code port : Nat), d.pcie.latch = some (v, code, port) →
  d.latchDone.word .WIDE_D 3 = v.extractLsb' 96 32 ∧ d.latchDone.word .WIDE_D 2 = v.extractLsb' 64 32 ∧
  d.latchDone.word .WIDE_D 1 = v.extractLsb' 32 32 ∧ d.latchDone.word .WIDE_D 0 = v.extractLsb' 0 32

/-- A write of TB_JUMP_CFG, TB_SLEW_CFG, TB_LOCK_CFG, TB_HOLD_LIMIT or TB_UTC_CFG that the indirect queue applies in
either TB space reads the same in both spaces afterwards, with the value that the store of the word gives. ACCEPT_JUMP
and TIME_SET are accepted (they wait for the servo update) in the space of the active timebase while no timebase is
SUSPECT and none waits. In a space that is not the active timebase's both are refused with NOT_ACTIVE, nothing waits
that did not wait, and only TB_TCMD changes. (R49) -/
def Obligations.SharedTimebaseRegisters : Prop :=
  ∀ (s : State) (v : Word) (sp a u : Nat) (t : TbId),
  (∀ r ∈ [Reg.TB_JUMP_CFG, .TB_SLEW_CFG, .TB_LOCK_CFG, .TB_HOLD_LIMIT, .TB_UTC_CFG], indRegAt sp a = some (r, u) →
    s.dev.pcie.indQueue = [⟨sp, a, v⟩] → s.dev.pcie.waiting = [] → s.dev.pcie.held = none → s.dev.indFault sp a true = none →
    s.dev.reaches false r = true → Completes .indQueueApply s (fun w =>
      w.dev.readReg r 0 = (s.dev.store r 0 v).word r 0 ∧ w.dev.readReg r 1 = (s.dev.store r 0 v).word r 0)) ∧
  (s.dev.firnReach = true → s.dev.twin.active = some t → s.dev.suspect = none → s.dev.tcmdWaiting = 0 →
    ∀ c ∈ [Instr.acceptJump t, .timeSet t], Completes c s (fun w => w.dev.tcmdWaiting ≠ 0 ∧ w.dev.get F.TB_TCMD_RESULT t.num = 7)) ∧
  (s.dev.firnReach = true → s.dev.twin.active ≠ some t → ∀ c ∈ [Instr.acceptJump t, .timeSet t], Completes c s (fun w =>
    w.dev.get F.TB_TCMD_RESULT t.num = 5 ∧ w.dev.tcmdWaiting = s.dev.tcmdWaiting ∧ Frame [] [.TB_TCMD] s w))

/-- ocxoWarmDeclared while both timebases wait in WARMING and none is active: the one declared warm becomes ACTIVE;
declared warm together, Timebase A becomes ACTIVE and B enters ALIGNING; and once the other is ACTIVE, a timebase in
WARMING that is declared warm enters ALIGNING. (R90) -/
def Obligations.FirstTimebase : Prop :=
  ∀ (s : State) (t : TbId), 4 ≤ s.dev.stage → s.dev.stage ≠ 8 → s.dev.alarmOn .tbNone = false →
  (s.dev.twin.active = none → s.dev.role .a = 1 → s.dev.role .b = 1 → s.dev.tbA.warm = false → s.dev.tbB.warm = false →
    Completes (.ocxoWarmDeclared true false) s (fun u => u.dev.twin.active = some .a ∧ u.dev.role .a = 5 ∧ u.dev.role .b = 1 ∧
      u.dev.tbA.warm = true ∧ u.dev.flag F.FIRN_OCXO_STAT_WARM_A = true) ∧
    Completes (.ocxoWarmDeclared false true) s (fun u => u.dev.twin.active = some .b ∧ u.dev.role .b = 5 ∧ u.dev.role .a = 1 ∧
      u.dev.tbB.warm = true ∧ u.dev.flag F.FIRN_OCXO_STAT_WARM_B = true) ∧
    Completes (.ocxoWarmDeclared true true) s (fun u => u.dev.twin.active = some .a ∧ u.dev.role .a = 5 ∧ u.dev.role .b = 2)) ∧
  (s.dev.twin.active = some t.other → s.dev.role t.other = 5 → s.dev.role t = 1 →
    Completes (match t with | .a => .ocxoWarmDeclared true false | .b => .ocxoWarmDeclared false true) s (fun u =>
      u.dev.role t = 2 ∧ u.dev.twin.active = some t.other ∧ u.dev.role t.other = 5))

/-- hostLinkReset by a loss of the link, a hot reset or PERST_N raises the host-link alarm. Every mailbox channel is kept
field by field, but that a message which the host had TAKEN is POSTED again with REDELIVERED; of the system state only
the level of PERST_N moves; nothing waits at the endpoint any more; and nothing else of the module changes but the
reports, the host endpoint and the listed host-side registers: the switch, ports, PTP, timebases, references,
synthesizers, outputs, processors, firmware work and the flash are unchanged. (R13) -/
def Obligations.LossOfTheHost : Prop :=
  ∀ (s : State) (c : HostResetCause), c ≠ .flr → s.dev.sys.powered = true →
  (c = .perst → s.dev.sys.perst = false) → (c ≠ .perst → s.dev.pcie.ready = true) →
  Completes (.hostLinkReset c) s (fun t => t.dev.alarmOn .hostLinkDown = true ∧
    (∀ a < 8, ∀ b < 8, t.dev.chan a b = if b = 0 ∧ a ≠ 0 ∧ a < 6 ∧ (s.dev.chan a b).st = 2
      then { s.dev.chan a b with st := 1, redeliv := true } else s.dev.chan a b) ∧
    t.dev.sys = { s.dev.sys with perst := s.dev.sys.perst || c == .perst } ∧
    t.dev.pcie.ready = false ∧ t.dev.pcie.indQueue = [] ∧ t.dev.pcie.waiting = [] ∧ t.dev.pcie.held = none ∧
    FrameReported [.chans, .sys] [.GLB_HOST_STAT, .IND_SPACE, .IND_ADDR, .IND_DATA, .IND_STAT, .IND_ERR_ADDR,
      .IND_CTRL, .WIDE_SEL, .WIDE_CTRL, .WIDE_STAT, .WIDE_D] s t)

/-- powerGood with conversion enabled and no power yet gives power, stage ROM, RESET_CAUSE 0 and the two strap levels of
its operands; conversionEnable without a thermal trip enables conversion and changes no register; moduleRemoval,
powerDisable, inputPowerLoss and thermalTrip leave the state of lost power (PowerLost: no power, every register at its
reset word, no counters, log, channels or switch state, the part's identity, the trip latch as each says). romStage in
stage 0 with power and no reset pin leads to stage 1 with BUNDLE_SLOT from the boot header. Outside a trial
fspImageLoaded in stage 1 leads to stage 2 and tbpImageLoaded in stage 2 to stage 3 with both TBPs in WARMING where
the selected bundle's image is good, else through the other slot, or to RECOVERY (8) where that is bad too.
configStage in stage 3 leads to stage 4 with the flash unchanged. resetPin with power holds the module at stage 0 with
RESET_CAUSE 1; resetNRelease ends the hold and changes no register. (R313, R314, R318, R346, R409 to R415, R423) -/
def Obligations.PowerAndStartUp : Prop :=
  (∀ (s : State) (a b : Bool),
  (s.dev.sys.enabled = true → s.dev.sys.powered = false → Completes (.powerGood a b) s (fun t =>
    t.dev.sys.powered = true ∧ t.dev.stage = 0 ∧ t.dev.get F.GLB_BOOT_STAT_RESET_CAUSE = 0 ∧
    t.dev.ident.sel0 = a ∧ t.dev.ident.sel1 = b)) ∧
  (s.dev.sys.tripped = false → Completes .conversionEnable s (fun t => t.dev.sys.enabled = true ∧ t.dev.regs = s.dev.regs)) ∧
  Completes .moduleRemoval s (PowerLost false s) ∧
  Completes (.powerDisable a) s (PowerLost (s.dev.sys.tripped && !a) s) ∧
  Completes (.inputPowerLoss b) s (PowerLost (s.dev.sys.tripped && b) s) ∧
  Completes .thermalTrip s (PowerLost true s)) ∧
  (∀ (s : State),
  (s.dev.sys.powered = true → s.dev.sys.held = false → s.dev.stage = 0 → Completes .romStage s (fun t => t.dev.stage = 1 ∧
    t.dev.get F.GLB_BOOT_STAT_BUNDLE_SLOT = (hdrNow t.flash).bundleSel % 2)) ∧
  (s.dev.stage = 1 → s.onTrial = false → Completes .fspImageLoaded s (fun t =>
    (s.imageGood (s.dev.get F.GLB_BOOT_STAT_BUNDLE_SLOT) 0 = true → t.dev.stage = 2 ∧
      t.dev.get F.UPD_IFVER0_FSP = (readImage s.flash (s.dev.get F.GLB_BOOT_STAT_BUNDLE_SLOT) 0).ifVer % 65536) ∧
    (s.imageGood (s.dev.get F.GLB_BOOT_STAT_BUNDLE_SLOT) 0 = false → t.dev.stage =
      if (bundleFault s.flash s.dev.ident.variant (1 - s.dev.get F.GLB_BOOT_STAT_BUNDLE_SLOT)).isNone then 2 else 8))) ∧
  (s.dev.stage = 2 → s.onTrial = false → Completes .tbpImageLoaded s (fun t =>
    (s.imageGood (s.dev.get F.GLB_BOOT_STAT_BUNDLE_SLOT) 1 = true → t.dev.stage = 3 ∧ t.dev.role .a = 1 ∧ t.dev.role .b = 1) ∧
    (s.imageGood (s.dev.get F.GLB_BOOT_STAT_BUNDLE_SLOT) 1 = false → t.dev.stage =
      if (bundleFault s.flash s.dev.ident.variant (1 - s.dev.get F.GLB_BOOT_STAT_BUNDLE_SLOT)).isNone then 3 else 8))) ∧
  (s.dev.stage = 3 → Completes .configStage s (fun t => t.dev.stage = 4 ∧ t.flash = s.flash)) ∧
  (s.dev.sys.powered = true → Completes .resetPin s (fun t => t.dev.sys.held = true ∧ t.dev.stage = 0 ∧
    t.dev.get F.GLB_BOOT_STAT_RESET_CAUSE = 1)) ∧
  Completes .resetNRelease s (fun t => t.dev.sys.held = false ∧ t.dev.regs = s.dev.regs))

/-- With KEY 0x5A and no FULL under way: glbResetFull answers DONE with its delay of 1,000 cycles and changes GLB_RESET
alone; with the fast domain ON, no update and no trial, glbResetFast clears frames, ports, PTP instances and gated
slices and leaves the fast domain STARTING where the CP and SMC images are good and OFF else, glbResetCp loads the CP
image and stops the CP and its instances where it is bad, and glbResetSmc loads the SMC image and shows its interface
version, or stops the SMC. Each answers RESULT 1. With another KEY all four answer BAD_KEY; glbResetFast, glbResetCp
and glbResetSmc answer UPDATING throughout steps 2 to 7 of an update whatever FAST is, and NOT_RUNNING outside them
while FAST is not ON; a refusal changes GLB_RESET alone. The model's readings: that NOT_RUNNING also holds for CP and
SMC (log entry 85), and that a processor whose image fails at its restart outside a trial stays stopped (log entry
86). (R318, R319) -/
def Obligations.ResetCommands : Prop :=
  (∀ (s : State) (key : Byte), key.toNat = 0x5A → s.dev.stage ≠ 0 → s.dev.sys.fullIn = none →
  Completes (.glbResetFull key) s (fun t => t.dev.get F.GLB_RESET_RESULT = 1 ∧ t.dev.sys.fullIn = some 1000 ∧
    Frame [.sys] [.GLB_RESET] s t) ∧
  (s.dev.fastOn = true → s.dev.updating = false → s.onTrial = false →
    Completes (.glbResetFast key) s (fun t => t.dev.get F.GLB_RESET_RESULT = 1 ∧ t.dev.sw.frames = [] ∧ t.dev.ports = [] ∧
      t.dev.insts = [] ∧ t.dev.sys.slicesOff = 0 ∧
      t.dev.fast = (if s.imageGood (s.dev.get F.GLB_BOOT_STAT_BUNDLE_SLOT) 3 && s.imageGood (s.dev.get F.GLB_BOOT_STAT_BUNDLE_SLOT) 2
        then 1 else 0)) ∧
    Completes (.glbResetCp key) s (fun t => t.dev.get F.GLB_RESET_RESULT = 1 ∧
      t.dev.sys.cpStopped = (!s.imageGood (s.runSlot 3) 3) ∧ (s.imageGood (s.runSlot 3) 3 = false → t.dev.insts = [])) ∧
    Completes (.glbResetSmc key) s (fun t => t.dev.get F.GLB_RESET_RESULT = 1 ∧
      t.dev.sys.smcStopped = (!s.imageGood (s.runSlot 2) 2) ∧ (s.imageGood (s.runSlot 2) 2 = true →
        t.dev.get F.UPD_IFVER1_SMC = (readImage s.flash (s.runSlot 2) 2).ifVer % 65536)))) ∧
  (∀ (s : State) (key good : Byte), good.toNat = 0x5A → s.dev.stage ≠ 0 →
  (∀ c ∈ [Instr.glbResetFull, .glbResetFast, .glbResetCp, .glbResetSmc], key.toNat ≠ 0x5A →
    Completes (c key) s (fun t => t.dev.get F.GLB_RESET_RESULT = 2 ∧ Frame [] [.GLB_RESET] s t)) ∧
  (∀ c ∈ [Instr.glbResetFast, .glbResetCp, .glbResetSmc], s.dev.sys.fullIn = none → s.dev.fastOn = false → s.dev.updating = false →
    Completes (c good) s (fun t => t.dev.get F.GLB_RESET_RESULT = 3 ∧ Frame [] [.GLB_RESET] s t)) ∧
  (∀ c ∈ [Instr.glbResetFast, .glbResetCp, .glbResetSmc], s.dev.sys.fullIn = none → s.dev.updating = true →
    Completes (c good) s (fun t => t.dev.get F.GLB_RESET_RESULT = 4 ∧ Frame [] [.GLB_RESET] s t)))

/-- With no configuration command running: cfgCheck answers RUNNING with the flash unchanged and the result of the checks
kept for its end; cfgActivate does the same and writes CONFIG_SEL of the boot header where the checks pass; cfgReload
with the fast domain OFF and no update sets GLB_BOOT_STAT.CFG_SLOT where they pass; cfgCommandDone shows the kept
result and changes nothing else. That the effects come when the command is taken, with RUNNING until its end, is the
model's reading (log entry 87). From stage 2 on, outside RECOVERY, settingsPeriodicWrite appends the settings record
to the flash; modelSettingsWrite, when a timebase's model is due, appends the record with both models and ends both
dues; retentionRefreshSector with the flash idle refreshes the next sector of its list and counts SECTORS_LEFT down.
(R63, R325, R326, R327, R329) -/
def Obligations.ConfigurationCommands : Prop :=
  (∀ (s : State) (slot : Fin 2), s.dev.stage ≠ 0 →
  (s.dev.sys.cfgRun = none →
    Completes (.cfgCheck slot) s (fun t => t.dev.get F.GLB_CFG_CMD_RESULT = 2 ∧ t.flash = s.flash ∧
      t.dev.sys.cfgRun = some (checkCfg s.flash s.dev.ident.variant s.dev.sys.images slot.val).result) ∧
    Completes (.cfgActivate slot) s (fun t => t.dev.get F.GLB_CFG_CMD_RESULT = 2 ∧
      t.dev.sys.cfgRun = some (checkCfg s.flash s.dev.ident.variant s.dev.sys.images slot.val).result ∧
      t.flash = if (checkCfg s.flash s.dev.ident.variant s.dev.sys.images slot.val).result = 1 then
        hdrWrite s.flash { hdrNow s.flash with configSel := slot.val, state := hdrState s.flash } else s.flash) ∧
    (s.dev.fast = 0 → s.dev.updating = false →
      Completes .cfgReload s (fun t => t.dev.get F.GLB_CFG_CMD_RESULT = 2 ∧
        t.dev.sys.cfgRun = some (checkCfg s.flash s.dev.ident.variant s.dev.sys.images (hdrNow s.flash).configSel).result ∧
        ((checkCfg s.flash s.dev.ident.variant s.dev.sys.images (hdrNow s.flash).configSel).result = 1 →
          t.dev.get F.GLB_BOOT_STAT_CFG_SLOT = (hdrNow s.flash).configSel % 4)))) ∧
  (∀ r, s.dev.sys.cfgRun = some r → Completes .cfgCommandDone s (fun t => t.dev.get F.GLB_CFG_CMD_RESULT = r % 16 ∧
    t.dev.sys.cfgRun = none ∧ Frame [.sys] [.GLB_CFG_CMD] s t))) ∧
  (∀ (s : State), 2 ≤ s.dev.stage → s.dev.stage ≠ 8 →
  Completes .settingsPeriodicWrite s (fun t => t.flash = setAppend s.flash (s.settingsRecord s.dev.modelBytes) ∧
    t.dev.sys.settings = s.settingsRecord s.dev.modelBytes) ∧
  (s.dev.tbA.due = true ∨ s.dev.tbB.due = true → Completes .modelSettingsWrite s (fun t =>
    t.flash = setAppend s.flash (s.settingsRecord (putModel (putModel s.dev.modelBytes 0 s.dev.tbA) 1 s.dev.tbB)) ∧
    t.dev.sys.settings = s.settingsRecord (putModel (putModel s.dev.modelBytes 0 s.dev.tbA) 1 s.dev.tbB) ∧
    t.dev.tbA.due = false ∧ t.dev.tbB.due = false ∧
    t.dev.tbA = { s.dev.tbA with savedH := t.dev.tbA.savedH } ∧ t.dev.tbB = { s.dev.tbB with savedH := t.dev.tbB.savedH })) ∧
  (s.dev.flag F.UPD_STAT_NVM_BUSY = false → s.dev.flag F.FIRN_REFRESH_STAT_RUNNING = true → 2 ≤ s.dev.get F.FIRN_REFRESH_STAT_SECTORS_LEFT →
    Completes .retentionRefreshSector s (fun t =>
      t.dev.get F.FIRN_REFRESH_STAT_SECTORS_LEFT = s.dev.get F.FIRN_REFRESH_STAT_SECTORS_LEFT - 1 ∧
      t.dev.flag F.FIRN_REFRESH_STAT_RUNNING = true ∧
      t.flash = refreshSector s.flash (refreshList.getD (refreshList.length - s.dev.get F.FIRN_REFRESH_STAT_SECTORS_LEFT) 0))))

/-- With the timebase ACTIVE, none SUSPECT and none waiting, acceptJump and timeSet in its space set their bit with RESULT
WAITING (7) and change TB_TCMD alone; in the other space they answer NOT_ACTIVE (5). Taken at a servo update
(takeTcmd, the part of servoUpdate that does it), ACCEPT_JUMP in JUMP_HELD moves the counter by the held offset and
leads to ACQUIRING, TIME_SET in FREERUN sets the counter to TB_TSET; both answer 1. leapSecondApply adds 1 to
UTC_OFFSET with LEAP61 and subtracts 1 with LEAP59, clears both and starts the span of 24 h in which a reference's old
offset is not taken. modelRestart sets RESTART, and the servo update that takes it clears the learned model outside
HOLDOVER and JUMP_HELD and is REFUSED (2) in them. (R32, R42, R43, R49, R86, R429) -/
def Obligations.TimeCommands : Prop :=
  (∀ (s : State) (t : TbId) (x : Ticks), s.dev.twin.active = some t → s.dev.suspect = none →
  (s.dev.firnReach = true →
    (s.dev.tcmdWaiting = 0 →
      Completes (.acceptJump t) s (fun u => u.dev.flag F.TB_TCMD_ACCEPT_JUMP t.num = true ∧ u.dev.get F.TB_TCMD_RESULT t.num = 7 ∧
        Frame [] [.TB_TCMD] s u) ∧
      Completes (.timeSet t) s (fun u => u.dev.flag F.TB_TCMD_TIME_SET t.num = true ∧ u.dev.get F.TB_TCMD_RESULT t.num = 7 ∧
        Frame [] [.TB_TCMD] s u)) ∧
    Completes (.acceptJump t.other) s (fun u => u.dev.get F.TB_TCMD_RESULT t.other.num = 5 ∧ Frame [] [.TB_TCMD] s u) ∧
    Completes (.timeSet t.other) s (fun u => u.dev.get F.TB_TCMD_RESULT t.other.num = 5 ∧ Frame [] [.TB_TCMD] s u)) ∧
  (s.dev.pendingWork = false → s.dev.tcmdWaiting = 1 → s.dev.mir.state = .jumpHeld → 0 ≤ ((s.dev.tb t).counter : Int) + s.dev.mir.held →
    ((s.dev.takeTcmd t).tb t).counter = shiftTicks (s.dev.tb t).counter s.dev.mir.held ∧
    (s.dev.takeTcmd t).mir.state = .acquiring ∧ (s.dev.takeTcmd t).get F.TB_TCMD_RESULT t.num = 1) ∧
  (s.dev.pendingWork = false → s.dev.tcmdWaiting = 2 → s.dev.mir.state = .freerun →
    ticksOf (s.dev.word .TB_TSET0 t.num) (s.dev.word .TB_TSET1 t.num) (s.dev.word .TB_TSET2 t.num) (s.dev.word .TB_TSET3 t.num) = some x →
    ((s.dev.takeTcmd t).tb t).counter = x ∧ (s.dev.takeTcmd t).mir.state = .freerun ∧
    (s.dev.takeTcmd t).get F.TB_TCMD_RESULT t.num = 1)) ∧
  (∀ (s : State) (t : TbId),
  (s.dev.mir.leap61 = true → Completes .leapSecondApply s (fun u => u.dev.mir.utcOffset = s.dev.mir.utcOffset + 1 ∧
    u.dev.mir.leap61 = false ∧ u.dev.mir.leap59 = false ∧ u.dev.mir.leapGuard = some (86400000, s.dev.mir.utcOffset + 1))) ∧
  (s.dev.mir.leap61 = false → s.dev.mir.leap59 = true → Completes .leapSecondApply s (fun u =>
    u.dev.mir.utcOffset = s.dev.mir.utcOffset - 1 ∧ u.dev.mir.leap59 = false ∧
    u.dev.mir.leapGuard = some (86400000, s.dev.mir.utcOffset - 1))) ∧
  (s.dev.firnReach = true → Completes (.modelRestart t) s (fun u => u.dev.flag F.TB_MODEL_CMD_RESTART t.num = true ∧
    Frame [] [.TB_MODEL_CMD] s u)) ∧
  (s.dev.flag F.TB_MODEL_CMD_RESTART t.num = true → s.dev.mir.state ≠ .holdover → s.dev.mir.state ≠ .jumpHeld →
    ((s.dev.takeRestart t).tb t).learnMs = 0 ∧ ((s.dev.takeRestart t).tb t).seeded = false ∧
    (s.dev.takeRestart t).word .TB_MODEL_STAT t.num = 0 ∧ (s.dev.takeRestart t).get F.TB_MODEL_CMD_RESULT t.num = 1 ∧
    (s.dev.takeRestart t).flag F.TB_MODEL_CMD_RESTART t.num = false) ∧
  (s.dev.flag F.TB_MODEL_CMD_RESTART t.num = true → s.dev.mir.state = .holdover ∨ s.dev.mir.state = .jumpHeld →
    (s.dev.takeRestart t).get F.TB_MODEL_CMD_RESULT t.num = 2 ∧ (s.dev.takeRestart t).tb t = s.dev.tb t))

/-- With REVERTIVE, no PIN and the wait-to-restore running for a time-capable candidate of the best rank among the
eligible ones, above the selected one's: wtrExpired and skipWtr select it and end the wait. freqGateEnd of an active
candidate within the ACCEPT and REJECT limits joins the mean, counts a second toward qualification and sets IN_ACCEPT;
of candidate 36 it joins the mean. candidateQualified sets QUALIFIED for an active candidate that has QUAL_TIME and,
for PPS_TOD, two messages. refinCfgWrite with another FMT takes it and ends ACTIVE and QUALIFIED; that it ends ACTIVE
is the model's reading of R64 (log entry 25). monitorError uncorrectable retires the monitor, disqualifies with reason
7 (RETIRED); corrected it changes only the reports. clearBars sets its bit, and the update that takes it (liftBars)
lifts the bars. (R64, R72, R76, R78, R80, R85) -/
def Obligations.CandidateQualification : Prop :=
  (∀ (s : State) (w rw sel rs : Nat),
  s.dev.flag F.RSEL_SEL_WTR_RUN = true → s.dev.get F.RSEL_SEL_WTR_ID = w → s.dev.get F.RSEL_SEL_SELECTED = sel →
  s.dev.inForceFlag F.RSEL_CFG_REVERTIVE = true → s.dev.inForceFlag F.RSEL_CMD_PIN = false →
  (w, rw) ∈ s.dev.eligible → (sel, rs) ∈ s.dev.eligible → rw < rs → (∀ e ∈ s.dev.eligible, rw ≤ e.2) →
  (s.dev.kindOf w).timeCapable = true → (s.dev.kindOf sel).timeCapable = true →
  Completes .wtrExpired s (fun t => t.dev.get F.RSEL_SEL_SELECTED = w ∧ t.dev.flag F.RSEL_SEL_WTR_RUN = false) ∧
  (s.dev.firnReach = true →
    Completes .skipWtr s (fun t => t.dev.get F.RSEL_SEL_SELECTED = w ∧ t.dev.flag F.RSEL_SEL_WTR_RUN = false))) ∧
  (∀ (s : State) (i : CandId) (m : Fin 36) (n : RefinId) (f : Int) (v : Word),
  (i.val ≠ 36 → (s.dev.cand i.val).retired = false → s.dev.anyActive = true → s.dev.monitored i.val = true →
    s.dev.flag F.RSEL_CAND_STAT_ACTIVE i.val = true →
    s.dev.flag F.RSEL_CAND_STAT_QUALIFIED i.val = false → f.natAbs ≤ s.dev.inForce F.RSEL_LIMITS_ACCEPT * 10000000 →
    f.natAbs ≤ s.dev.inForce F.RSEL_LIMITS_REJECT * 10000000 →
    Completes (.freqGateEnd i f) s (fun t => (t.dev.cand i.val).gates = (f :: (s.dev.cand i.val).gates).take 16 ∧
      (t.dev.cand i.val).qualS = (s.dev.cand i.val).qualS + 1 ∧ t.dev.flag F.RSEL_CAND_STAT_IN_ACCEPT i.val = true)) ∧
  ((s.dev.cand 36).retired = false → s.dev.anyActive = true → Completes (.freqGateEnd 36 f) s (fun t =>
    (t.dev.cand 36).gates = (f :: (s.dev.cand 36).gates).take 16)) ∧
  ((s.dev.small = true → m.val < 20) → s.dev.flag F.RSEL_CAND_STAT_QUALIFIED m.val = false → (s.dev.cand m.val).retired = false →
    s.dev.flag F.RSEL_CAND_STAT_ACTIVE m.val = true → s.dev.inForce F.RSEL_CFG_QUAL_TIME ≤ (s.dev.cand m.val).qualS →
    s.dev.kindOf m.val ≠ .own → (s.dev.kindOf m.val = .ppsTod → 2 ≤ (s.dev.cand m.val).todCount) → (s.dev.cand m.val).notOutvoted = none →
    Completes (.candidateQualified (m.castLE (by decide))) s (fun t => t.dev.flag F.RSEL_CAND_STAT_QUALIFIED m.val = true ∧
      t.dev.get F.RSEL_CAND_STAT_QUAL_LEFT m.val = 0)) ∧
  (s.dev.firnReach = true → bitsOf v.toNat 0 3 ≠ s.dev.get F.RSEL_REFIN_CFG_FMT n.val →
    Completes (.refinCfgWrite n v) s (fun t => t.dev.get F.RSEL_REFIN_CFG_FMT n.val = bitsOf v.toNat 0 3 ∧
      t.dev.flag F.RSEL_CAND_STAT_ACTIVE n.val = false ∧ t.dev.flag F.RSEL_CAND_STAT_QUALIFIED n.val = false)) ∧
  Completes (.monitorError ⟨m, .uncorrectable⟩) s (fun t => (t.dev.cand m.val).retired = true ∧
    t.dev.flag F.RSEL_CAND_STAT_QUALIFIED m.val = false ∧ t.dev.get F.RSEL_CAND_STAT_REASON m.val = 7) ∧
  Completes (.monitorError ⟨m, .corrected⟩) s (fun t => FrameReported [] [] s t) ∧
  (s.dev.firnReach = true → Completes .clearBars s (fun t => t.dev.flag F.RSEL_CMD_CLEAR_BARS = true ∧ Frame [] [.RSEL_CMD] s t)) ∧
  (s.dev.flag F.RSEL_CMD_CLEAR_BARS = true → s.dev.liftBars.flag F.RSEL_CAND_STAT_BARRED m.val = false ∧
    s.dev.liftBars.flag F.RSEL_CMD_CLEAR_BARS = false))

/-- refinPpsEdge, whose time is that of the captured edge at the pin less CABLE_DELAY, within 10 us of the expected second
and with no other edge than one within the last second, keeps the candidate active with no misses and, for kind PPS,
gives the offset to the nearest whole second. ppsWindowClose without an edge counts the first miss; at the second it
ends ACTIVE and QUALIFIED. freqActivityLoss ends both for a FREQ input. todinMessage of 19 bytes with sync byte, type,
CRC-32C and arrival in its window, in sequence, keeps its SECONDS and counts; todinLoss disqualifies a PPS_TOD
candidate with reason 3 (TOD) and restarts its count. (R66, R67, R68, R71, R76) -/
def Obligations.ReferenceInputs : Prop :=
  (∀ (s : State) (n : RefinId) (x : RefinEdge) (pin l : Ticks),
  (pin = s.dev.cableEdge n.val (s.dev.refinTime n.val x) → s.dev.refinFmt n.val = 1 → s.dev.anyActive = true → (s.dev.cand n.val).retired = false →
    s.dev.flag F.RSEL_CAND_STAT_ACTIVE n.val = true → s.dev.rsel.awaitEdge = false → (s.dev.cand n.val).lastEdge = some l →
    ((s.dev.cand n.val).recent.filter (fun t => pin < t + secUnit)).length < 2 →
    (pin - l + 10000 * nsUnit) % secUnit ≤ 2 * (10000 * nsUnit) → l + secUnit ≤ pin + 10000 * nsUnit →
    Completes (.refinPpsEdge n x) s (fun t => (t.dev.cand n.val).lastEdge = some pin ∧ (t.dev.cand n.val).misses = 0 ∧
      (t.dev.cand n.val).hasOffset = true ∧ t.dev.flag F.RSEL_CAND_STAT_ACTIVE n.val = true ∧
      (s.dev.kindOf n.val = .pps → (t.dev.cand n.val).offset = ppsOffset pin))) ∧
  (s.dev.refinFmt n.val = 1 → s.dev.flag F.RSEL_CAND_STAT_ACTIVE n.val = true → (s.dev.cand n.val).misses = 0 →
    Completes (.ppsWindowClose n) s (fun t => (t.dev.cand n.val).misses = 1 ∧ t.dev.flag F.RSEL_CAND_STAT_ACTIVE n.val = true)) ∧
  (s.dev.refinFmt n.val = 1 → s.dev.flag F.RSEL_CAND_STAT_ACTIVE n.val = true → (s.dev.cand n.val).misses = 1 →
    Completes (.ppsWindowClose n) s (fun t => t.dev.flag F.RSEL_CAND_STAT_ACTIVE n.val = false ∧
      t.dev.flag F.RSEL_CAND_STAT_QUALIFIED n.val = false)) ∧
  (s.dev.kindOf n.val = .freq → s.dev.flag F.RSEL_CAND_STAT_ACTIVE n.val = true →
    Completes (.freqActivityLoss n) s (fun t => t.dev.flag F.RSEL_CAND_STAT_ACTIVE n.val = false ∧
      t.dev.flag F.RSEL_CAND_STAT_QUALIFIED n.val = false))) ∧
  (∀ (s : State) (line : Fin 2) (n : RefinId) (b : List Byte) (us : Nat),
  (s.dev.anyActive = true → (List.range 4).find? (fun n => s.dev.refinFmt n == 1 && s.dev.refinTod n == line.val + 1) = some n.val →
    b.length = 19 → byteAt b 0 = 0xC7 → byteAt b 1 = 1 → beNat (slice b 15 4) = crc32c (b.take 15) → 10000 ≤ us → us ≤ 800000 →
    ((s.dev.cand n.val).lastSec = none ∨ (s.dev.cand n.val).lastSec = some (beNat (slice b 3 6) - 1) ∧ 0 < beNat (slice b 3 6)) →
    bitAt (byteAt b 11) 5 = true →
    Completes (.todinMessage line b us) s (fun t => (t.dev.cand n.val).lastSec = some (beNat (slice b 3 6)) ∧
      (t.dev.cand n.val).todCount = (s.dev.cand n.val).todCount + 1 ∧ (t.dev.cand n.val).todSeq = byteAt b 2)) ∧
  (s.dev.kindOf n.val = .ppsTod → s.dev.flag F.RSEL_CAND_STAT_QUALIFIED n.val = true →
    Completes (.todinLoss n) s (fun t => (t.dev.cand n.val).todCount = 0 ∧
      t.dev.flag F.RSEL_CAND_STAT_QUALIFIED n.val = false ∧ t.dev.get F.RSEL_CAND_STAT_REASON n.val = 3)))

/-- With a standby and no freeze: standbyCounterLoad in ALIGNING starts the standby's counter at the time bus plus the
read difference and changes nothing of the other; standbyEntersTracking within 100 ps leads to TRACKING;
standbyEntersReady in TRACKING within 20 ps with a verified checkpoint leads to READY; standbyTrackLost leads to
ALIGNING beyond 1,000 ps, and from READY to TRACKING beyond 20 ps or after two failed verifications; standbyFault
retires the standby with TB_RETIRED and leaves the active timebase; standbyNotReadyTimeout with both OCXOs warm and no
READY raises TB_STANDBY_NOT_READY. standbyOff disables a live standby, standbyOn returns a DISABLED one to ALIGNING,
both with RESULT 1; standbyOn of a retired one answers 7 and changes nothing else. (R91, R109) -/
def Obligations.StandbyRoles : Prop :=
  (∀ (s : State) (x : Int) (o : TbId), s.dev.standby = some o → s.dev.frozen = false →
  (s.dev.role o = 2 → Completes (.standbyCounterLoad x) s (fun t => (t.dev.tb o).running = true ∧
    (t.dev.tb o).counter = shiftTicks s.dev.now x ∧ t.dev.twin.x = x ∧ t.dev.tb o.other = s.dev.tb o.other)) ∧
  (s.dev.role o = 2 → (s.dev.tb o).running = true → withinPs x 100 = true →
    Completes (.standbyEntersTracking x) s (fun t => t.dev.role o = 3 ∧ t.dev.role o.other = s.dev.role o.other)) ∧
  (s.dev.role o = 3 → withinPs x 20 = true → s.dev.twin.verified = true →
    Completes (.standbyEntersReady x) s (fun t => t.dev.role o = 4 ∧ t.dev.role o.other = s.dev.role o.other)) ∧
  (s.dev.role o = 3 ∨ s.dev.role o = 4 → withinPs x 1000 = false →
    Completes (.standbyTrackLost x) s (fun t => t.dev.role o = 2 ∧ t.dev.role o.other = s.dev.role o.other)) ∧
  (s.dev.role o = 4 → withinPs x 1000 = true → withinPs x 20 = false ∨ 2 ≤ s.dev.twin.verFails →
    Completes (.standbyTrackLost x) s (fun t => t.dev.role o = 3 ∧ t.dev.role o.other = s.dev.role o.other)) ∧
  (∀ w, s.dev.liveStandby = some o → Completes (.standbyFault w) s (fun t => t.dev.role o = 6 ∧ (t.dev.tb o).running = false ∧
    t.dev.alarmOn .tbRetired = true ∧ t.dev.twin.active = s.dev.twin.active)) ∧
  (s.dev.tbA.warm = true → s.dev.tbB.warm = true → s.dev.role .a ≠ 4 → s.dev.role .b ≠ 4 →
    Completes .standbyNotReadyTimeout s (fun t => t.dev.alarmOn .tbStandbyNotReady = true ∧ t.dev.twin = s.dev.twin))) ∧
  (∀ (s : State) (o : TbId), s.dev.firnReach = true → s.dev.twinBusy = false →
  (s.dev.liveStandby = some o → Completes .standbyOff s (fun t => t.dev.role o = 0 ∧ (t.dev.tb o).running = false ∧
    t.dev.role o.other = s.dev.role o.other ∧ t.dev.get F.TB_TWIN_CMD_RESULT = 1)) ∧
  (s.dev.standby = some o → s.dev.role o = 0 → Completes .standbyOn s (fun t =>
    t.dev.role o = 2 ∧ (t.dev.tb o).running = false ∧ t.dev.role o.other = s.dev.role o.other ∧ t.dev.get F.TB_TWIN_CMD_RESULT = 1)) ∧
  (s.dev.standby = some o → s.dev.role o = 6 → Completes .standbyOn s (fun t =>
    t.dev.get F.TB_TWIN_CMD_RESULT = 7 ∧ Frame [] [.TB_TWIN_CMD] s t)))

/-- heartbeatEmit with a passing check toggles the line and counts in memory, with a failing one beats no more.
heartbeatReceived on a path clears the miss count of that path and only it. heartbeatMiss on the line alone counts
there (to at most 7) and begins no freeze; on both paths at once it begins the freeze, in which the active timebase is
SUSPECT and a standby in TRACKING or READY is ACTIVE. heartbeatReceived on either path in a freeze ends it: the
SUSPECT timebase is ACTIVE again and the other has the role it had before. (R93 to R95) -/
def Obligations.Heartbeats : Prop :=
  ∀ (s : State), s.dev.anyActive = true →
  (s.dev.twin.beatsOff = false → Completes (.heartbeatEmit true) s (fun t =>
    t.dev.twin.heartLine = !s.dev.twin.heartLine ∧ t.dev.twin.memCount = s.dev.twin.memCount + 1 ∧ Frame [.twin] [] s t)) ∧
  (s.dev.twin.beatsOff = false → Completes (.heartbeatEmit false) s (fun t => t.dev.twin = { s.dev.twin with beatsOff := true } ∧
    Frame [.twin] [] s t)) ∧
  (s.dev.frozen = false → s.dev.twin.relocking = false →
    Completes (.heartbeatReceived .line) s (fun t => t.dev.get F.TB_HB_STAT_LINE_MISS = 0 ∧ t.dev.flag F.TB_HB_STAT_LINE_OK = true ∧
      t.dev.twin.lastBeat = s.dev.now ∧ t.dev.get F.TB_HB_STAT_MEM_MISS = s.dev.get F.TB_HB_STAT_MEM_MISS) ∧
    Completes (.heartbeatReceived .mem) s (fun t => t.dev.get F.TB_HB_STAT_MEM_MISS = 0 ∧ t.dev.flag F.TB_HB_STAT_MEM_OK = true ∧
      t.dev.twin.lastBeat = s.dev.now ∧ t.dev.get F.TB_HB_STAT_LINE_MISS = s.dev.get F.TB_HB_STAT_LINE_MISS) ∧
    Completes (.heartbeatMiss true false) s (fun t =>
      t.dev.get F.TB_HB_STAT_LINE_MISS = min 7 (s.dev.get F.TB_HB_STAT_LINE_MISS + 1) ∧ t.dev.flag F.TB_HB_STAT_LINE_OK = false ∧
      t.dev.get F.TB_HB_STAT_MEM_MISS = s.dev.get F.TB_HB_STAT_MEM_MISS ∧ t.dev.frozen = false) ∧
    (∀ a, s.dev.twin.active = some a → s.dev.role a.other = 3 ∨ s.dev.role a.other = 4 →
      Completes (.heartbeatMiss true true) s (fun t => t.dev.frozen = true ∧ t.dev.role a = 7 ∧ t.dev.role a.other = 5 ∧
        t.dev.twin.active = some a.other))) ∧
  (∀ (a : TbId) (p : HbPath), s.dev.frozen = true → s.dev.twin.relocking = false → s.dev.suspect = some a → Completes (.heartbeatReceived p) s (fun t =>
    t.dev.frozen = false ∧ t.dev.role a = 5 ∧ t.dev.role a.other = s.dev.twin.preFreeze % 8 ∧ t.dev.twin.active = some a))

/-- checkpointWrite records the mirrored state with its sequence number, and whether it verified. mirrorReplayDone in a
freeze with a good checkpoint and no loss leaves as result the checkpoint with the journal after it applied, without a
good checkpoint marks the mirror bad. failureDeclared after four misses on both paths retires the SUSPECT timebase,
leaves the other ACTIVE and reports cause and source in TB_TAKEOVER; without a SUSPECT it leaves no active timebase
and raises TB_NONE. twinSwitch under its conditions is accepted with the handover due at the next update and ends the
revertive timer; handover to a READY standby exchanges the roles and reports its cause; revertiveTimerExpired makes
the reversion due with REV_LEFT 0. (R97, R98, R100, R101, R104, R105, R107) -/
def Obligations.TakeoverAndHandover : Prop :=
  (∀ (s : State),
  (∀ v, s.dev.liveStandby ≠ none → s.dev.frozen = false → Completes (.checkpointWrite v) s (fun t =>
    t.dev.twin.verified = v ∧ t.dev.twin.cpSeq = s.dev.twin.cpSeq + 1 ∧
    t.dev.twin.bufs.head? = some ⟨s.dev.twin.cpSeq, s.dev.twin.nextSeq, s.dev.mir⟩ ∧ t.dev.mir = s.dev.mir)) ∧
  (∀ c rest b n, s.dev.frozen = true → s.dev.twin.bufs = c :: rest → (s.dev.twin.journal.filter (fun e => c.upTo ≤ e.seq)).length ≤ n →
    Completes (.mirrorReplayDone true b n) s (fun t => t.dev.twin.mirrorBad = false ∧
      t.dev.twin.scratch = some (replay c (s.dev.twin.journal.filter (fun e => c.upTo ≤ e.seq))))) ∧
  (∀ n, s.dev.frozen = true → Completes (.mirrorReplayDone false false n) s (fun t => t.dev.twin.mirrorBad = true)) ∧
  (s.dev.frozen = true → 4 ≤ s.dev.get F.TB_HB_STAT_LINE_MISS → 4 ≤ s.dev.get F.TB_HB_STAT_MEM_MISS → s.dev.twin.relocking = false →
    (∀ a, s.dev.suspect = some a → Completes .failureDeclared s (fun t => t.dev.role a = 6 ∧ t.dev.twin.active = some a.other ∧
      t.dev.get F.TB_TAKEOVER_CAUSE = 1 ∧ t.dev.get F.TB_TAKEOVER_FROM_TB = a.num)) ∧
    (∀ a, s.dev.suspect = none → s.dev.twin.active = some a → Completes .failureDeclared s (fun t => t.dev.role a = 6 ∧
      t.dev.twin.active = none ∧ t.dev.alarmOn .tbNone = true)))) ∧
  (∀ (s : State) (a : TbId), s.dev.twin.active = some a → s.dev.frozen = false →
  (s.dev.firnReach = true → s.dev.twinBusy = false → s.dev.inForceFlag F.TB_TWIN_CFG_PIN = false → s.dev.role a.other = 4 →
    s.dev.winHeld = true → s.dev.ifTakes = true → Completes .twinSwitch s (fun t => t.dev.flag F.TB_TWIN_CMD_SWITCH = true ∧
      t.dev.twin.handover = some 2 ∧ t.dev.twin.revMs = none ∧ t.dev.twin.active = some a)) ∧
  (∀ cause, cause < 4 → s.dev.twin.handover = some cause → s.dev.role a.other = 4 → Completes .handover s (fun t =>
    t.dev.twin.active = some a.other ∧ t.dev.role a.other = 5 ∧ t.dev.role a = 3 ∧ t.dev.get F.TB_TAKEOVER_CAUSE = cause ∧
    t.dev.get F.TB_TAKEOVER_FROM_TB = a.num ∧ t.dev.twin.handover = none)) ∧
  (s.dev.twin.revMs ≠ none → Completes .revertiveTimerExpired s (fun t => t.dev.twin.revDue = true ∧
    t.dev.get F.TB_ROLE_REV_LEFT 0 = 0 ∧ t.dev.get F.TB_ROLE_REV_LEFT 1 = 0 ∧ t.dev.twin.active = some a)))

/-- synCfgWrite takes REF_MODE and BANK_SEL; bandEntryWrite takes F_LO, CODE and VALID of word 0 and F_HI of word 1;
synFreqHiWrite of an OSYN takes W held within its range, of another synthesizer it is ignored; retune of a wanted OSYN
outside a freeze starts an acquisition in the entry that the band search finds. Outside a freeze synLockDeclared sets
LOCKED, synAcqTimeout stops with ACQ_FAIL, synLockLost acquires again within 2 ms of a write and, without a write or
with one more than 2 ms earlier, retires the synthesizer. With a locked OSYN and no step: phaseStep and stepAt (at
least 100 us ahead, not in UNSET) accept with the step that SYN_STEP describes, resync with one of minus the
misalignment of its moved output; with a step, stepCancel ends it with RESULT 8, stepAtStart starts it, stepComplete
moves the outputs it moves by its size, and after a resync marks those that run ALIGNED. (R112 to R119, R116, R117,
R119, R126 to R130) -/
def Obligations.Synthesizers : Prop :=
  (∀ (s : State) (i : SynId) (v : Word), s.dev.firnReach = true →
  (s.dev.small = true → i.val ≠ 7 ∧ i.val ≠ 8) →
  Completes (.synCfgWrite i v) s (fun t => t.dev.get F.SYN_CFG_REF_MODE i.val = v.toNat % 4 ∧
    t.dev.get F.SYN_CFG_BANK_SEL i.val = v.toNat / 16 % 2) ∧
  (∀ (bank : Fin 2) (entry : Fin 64), Completes (.bandEntryWrite i bank entry 0 v) s (fun t =>
    let u := (i.val * 2 + bank.val) * 64 + entry.val;
    t.dev.get F.SYN_BAND_W0_F_LO u = bitsOf v.toNat 0 23 ∧ t.dev.get F.SYN_BAND_W0_CODE u = bitsOf v.toNat 24 6 ∧
    t.dev.get F.SYN_BAND_W0_VALID u = bitsOf v.toNat 31 1)) ∧
  (∀ (bank : Fin 2) (entry : Fin 64), Completes (.bandEntryWrite i bank entry 1 v) s (fun t =>
    t.dev.get F.SYN_BAND_W1_F_HI ((i.val * 2 + bank.val) * 64 + entry.val) = bitsOf v.toNat 0 23)) ∧
  (i.val < 4 → Completes (.synFreqHiWrite i v) s (fun t =>
    t.dev.synW i.val = clampNat 0x1E00 0x3C00 (v.toNat % 65536) * 2 ^ 32 + s.dev.get F.SYN_FREQ_LO_W i.val)) ∧
  (4 ≤ i.val → Completes (.synFreqHiWrite i v) s (fun t => t = s)) ∧
  (∀ (e : Nat), i.val < 4 → s.dev.synRetired i.val = false → s.dev.osynWanted i.val = true → s.dev.anyActive = true →
    s.dev.frozen = false → s.dev.bandSearch i.val (s.dev.synW i.val) = some e →
    Completes (.retune i) s (fun t => t.dev.flag F.SYN_STAT_ACQUIRING i.val = true ∧ t.dev.synLocked i.val = false ∧
      t.dev.get F.SYN_STAT_BAND_ENTRY i.val = e % 64 ∧ t.dev.get F.SYN_CMD_RESULT i.val = 1))) ∧
  (∀ (s : State) (i : SynId), s.dev.flag F.SYN_STAT_FROZEN i.val = false →
  (s.dev.flag F.SYN_STAT_ACQUIRING i.val = true → (s.dev.syn i.val).rejoins = false →
    Completes (.synLockDeclared i) s (fun t => t.dev.synLocked i.val = true ∧ t.dev.flag F.SYN_STAT_ACQUIRING i.val = false)) ∧
  (s.dev.flag F.SYN_STAT_ACQUIRING i.val = true → Completes (.synAcqTimeout i) s (fun t =>
    (t.dev.syn i.val).runs = false ∧ t.dev.flag F.SYN_STAT_ACQUIRING i.val = false ∧ t.dev.synLocked i.val = false ∧
    t.dev.flag F.SYN_STAT_ACQ_FAIL i.val = true)) ∧
  (∀ (w : Ticks), s.dev.synLocked i.val = true → (s.dev.syn i.val).wroteAt = some w → s.dev.now ≤ w + 2000000 * nsUnit →
    Completes (.synLockLost i) s (fun t => t.dev.synLocked i.val = false ∧ t.dev.flag F.SYN_STAT_ACQUIRING i.val = true ∧
      t.dev.synRetired i.val = s.dev.synRetired i.val)) ∧
  (s.dev.synLocked i.val = true → (∀ (w : Ticks), (s.dev.syn i.val).wroteAt = some w → w + 2000000 * nsUnit < s.dev.now) →
    Completes (.synLockLost i) s (fun t => t.dev.synRetired i.val = true ∧ t.dev.synLocked i.val = false ∧ t.dev.flag F.SYN_STAT_ACQUIRING i.val = false))) ∧
  (∀ (s : State) (i : SynId), s.dev.firnReach = true → i.val < 4 →
  (s.dev.synLocked i.val = true → (s.dev.syn i.val).step = none →
    Completes (.phaseStep i) s (fun t => t.dev.get F.SYN_CMD_RESULT i.val = 1 ∧ t.dev.flag F.SYN_STAT_STEP_RUN i.val = true ∧
      (t.dev.syn i.val).step = some ⟨signedOf (s.dev.get F.SYN_STEP_STEP_PS i.val) 21 * 65536, s.dev.get F.SYN_STEP_RATE i.val,
        s.dev.fineNow, true, false⟩) ∧
    (∀ (T : Ticks), s.dev.mir.state ≠ .unset → ticksOf (s.dev.word .SYN_STEP_T0 i.val) (s.dev.word .SYN_STEP_T1 i.val)
        (s.dev.word .SYN_STEP_T2 i.val) (s.dev.word .SYN_STEP_T3 i.val) = some T → s.dev.now + 100000 * nsUnit ≤ T →
      Completes (.stepAt i) s (fun t => t.dev.get F.SYN_CMD_RESULT i.val = 1 ∧ t.dev.flag F.SYN_STAT_STEP_PEND i.val = true ∧
        (t.dev.syn i.val).step = some ⟨signedOf (s.dev.get F.SYN_STEP_STEP_PS i.val) 21 * 65536, s.dev.get F.SYN_STEP_RATE i.val,
          ((T * 1000 : Nat) : Int), false, false⟩)) ∧
    (∀ (n : Nat), n = 2 * i.val → s.dev.mir.state ≠ .unset → s.dev.moved n = true → (s.dev.misalign n).natAbs ≤ 1000000 * 65536 →
      Completes (.resync i) s (fun t => t.dev.get F.SYN_CMD_RESULT i.val = 1 ∧ t.dev.flag F.SYN_STAT_STEP_RUN i.val = true ∧
        (t.dev.syn i.val).step = some ⟨-(s.dev.misalign n), s.dev.get F.SYN_STEP_RATE i.val, s.dev.fineNow, true, true⟩))) ∧
  (∀ (p : PhaseStep), (s.dev.syn i.val).step = some p →
    Completes (.stepCancel i) s (fun t => (t.dev.syn i.val).step = none ∧ t.dev.get F.SYN_CMD_RESULT i.val = 8 ∧
      t.dev.flag F.SYN_STAT_STEP_RUN i.val = false ∧ t.dev.flag F.SYN_STAT_STEP_PEND i.val = false) ∧
    (p.runs = false → Completes (.stepAtStart i) s (fun t => t.dev.flag F.SYN_STAT_STEP_RUN i.val = true ∧
      t.dev.flag F.SYN_STAT_STEP_PEND i.val = false ∧ (t.dev.syn i.val).step = some { p with runs := true, start := s.dev.fineNow })) ∧
    (p.runs = true → p.resync = false → Completes (.stepComplete i) s (fun t => (t.dev.syn i.val).step = none ∧
      t.dev.flag F.SYN_STAT_STEP_RUN i.val = false ∧ (∀ n, n = 2 * i.val ∨ n = 2 * i.val + 1 →
        (t.dev.out n).anchor = (s.dev.out n).anchor + (if s.dev.moved n then p.size else 0)))) ∧
    (p.runs = true → p.resync = true → Completes (.stepComplete i) s (fun t => (t.dev.syn i.val).step = none ∧
      t.dev.flag F.SYN_STAT_STEP_RUN i.val = false ∧ (∀ n, n = 2 * i.val ∨ n = 2 * i.val + 1 →
        s.dev.moved n = true → (s.dev.out n).started = true → t.dev.flag F.OUT_STAT_ALIGNED n = true)))))

/-- outCfgWrite of an allowed mode, format and divider takes EN, FMT, MODE and DIV (at least 2), of one that the table
refuses it sets CFG_REJ with OUT_CFG unchanged; outPerHiWrite takes the period held within its range and clears
ALIGNED; outAlignWrite takes SRC, TIO_CH (at most 47), FOLLOW and TOL (at least 1). For an enabled output: outputStart
emits the due first edge where the output may drive, with its fall for a pulse, unless an alignment suppresses it, and
drops it where the output may not; alignedEdge emits the edge at T_a where the output may drive, and nothing but the
end of the alignment where it may not; align of a running PULSE output places T_a at least 100 us ahead and sets
ALIGN_PEND; arm with a TIO channel in TIMESTAMP mode sets ARMED; disarm clears it and changes nothing else. (R120,
R121, R122, R124, R131 to R133, R131, R132) -/
def Obligations.Outputs : Prop :=
  (∀ (s : State) (n : OutId) (v : Word), s.dev.firnReach = true →
  (bitsOf v.toNat 1 3 < 5 → bitsOf v.toNat 4 2 < 3 →
    s.dev.outAllowed n.val (bitsOf v.toNat 1 3) (bitsOf v.toNat 4 2) (max 2 (bitsOf v.toNat 16 16)) (s.dev.outMode (sibling n.val)) = true →
    (s.dev.outMode (sibling n.val) = 2 → bitsOf v.toNat 4 2 = 0) →
    Completes (.outCfgWrite n v) s (fun t => t.dev.get F.OUT_CFG_EN n.val = bitsOf v.toNat 0 1 ∧
      t.dev.get F.OUT_CFG_FMT n.val = bitsOf v.toNat 1 3 ∧ t.dev.get F.OUT_CFG_MODE n.val = bitsOf v.toNat 4 2 ∧
      t.dev.get F.OUT_CFG_DIV n.val = max 2 (bitsOf v.toNat 16 16))) ∧
  (bitsOf v.toNat 1 3 < 5 → bitsOf v.toNat 4 2 < 3 →
    s.dev.outAllowed n.val (bitsOf v.toNat 1 3) (bitsOf v.toNat 4 2) (max 2 (bitsOf v.toNat 16 16)) (s.dev.outMode (sibling n.val)) = false →
    Completes (.outCfgWrite n v) s (fun t => t.dev.flag F.OUT_STAT_CFG_REJ n.val = true ∧ t.dev.word .OUT_CFG n.val = s.dev.word .OUT_CFG n.val)) ∧
  Completes (.outPerHiWrite n v) s (fun t => t.dev.outPer n.val =
    clampPer (s.dev.outMode n.val) (bitsOf v.toNat 0 8 * 2 ^ 32 + s.dev.get F.OUT_PER_LO_PER n.val) ∧
    (t.dev.out n.val).period = t.dev.outPer n.val ∧
    t.dev.flag F.OUT_STAT_ALIGNED n.val = false) ∧
  (s.dev.small = false → Completes (.outAlignWrite n v) s (fun t => t.dev.get F.OUT_ALIGN_SRC n.val = bitsOf v.toNat 0 1 ∧
    t.dev.get F.OUT_ALIGN_TIO_CH n.val = min 47 (bitsOf v.toNat 8 6) ∧ t.dev.get F.OUT_ALIGN_FOLLOW n.val = bitsOf v.toNat 16 1 ∧
    t.dev.get F.OUT_ALIGN_TOL n.val = max 1 (bitsOf v.toNat 24 8)))) ∧
  (∀ (s : State) (n : OutId) (e : Int), s.dev.outEn n.val = true →
  ((s.dev.out n.val).due = some e → s.dev.mayDrive n.val = false → Completes (.outputStart n) s (fun t =>
    (t.dev.out n.val).started = (s.dev.out n.val).started ∧ (t.dev.out n.val).due = none ∧ t.dev.sent = s.dev.sent)) ∧
  ((s.dev.out n.val).due = some e → s.dev.mayDrive n.val = true → s.dev.suppressed n.val e = false → Completes (.outputStart n) s (fun t =>
    (t.dev.out n.val).started = true ∧ t.dev.edgeBase n.val = e ∧ t.dev.flag F.OUT_STAT_ALIGNED n.val = true ∧
    t.dev.sent = s.dev.sent ++ [.outEdge n.val (e / 1000).toNat
      (if s.dev.outMode n.val = 0 then none else some (s.dev.pulseFall n.val e / 1000).toNat)])) ∧
  ((s.dev.out n.val).alignAt = some e → s.dev.mayDrive n.val = true → s.dev.outMode n.val = 1 → Completes (.alignedEdge n) s (fun t =>
    (t.dev.out n.val).started = true ∧ t.dev.edgeBase n.val = e ∧ (t.dev.out n.val).alignAt = none ∧
    t.dev.flag F.OUT_STAT_ALIGNED n.val = true ∧ t.dev.flag F.OUT_STAT_ALIGN_PEND n.val = false ∧
    t.dev.sent = s.dev.sent ++ [.outEdge n.val (e / 1000).toNat (some ((e + s.dev.pulseWidth n.val) / 1000).toNat)])) ∧
  ((s.dev.out n.val).alignAt = some e → s.dev.mayDrive n.val = false → Completes (.alignedEdge n) s (fun t =>
    (t.dev.out n.val).started = (s.dev.out n.val).started ∧ (t.dev.out n.val).alignAt = none ∧ t.dev.sent = s.dev.sent)) ∧
  (s.dev.firnReach = true → s.dev.outMode n.val = 1 → s.dev.flag F.OUT_STAT_ARMED n.val = false →
    (s.dev.mir.state ≠ .unset → (s.dev.out n.val).started = true → (s.dev.out n.val).alignAt = none →
      Completes (.align n) s (fun t => t.dev.get F.OUT_CMD_RESULT n.val = 1 ∧ t.dev.flag F.OUT_STAT_ALIGN_PEND n.val = true ∧
        (t.dev.out n.val).alignAt = some (firstAligned (s.dev.fineNow + 100000 * fineNs) (s.dev.outOfs n.val * 65536)
          ((s.dev.out n.val).period * 65536)))) ∧
    (s.dev.get F.OUT_ALIGN_SRC n.val = 1 → s.dev.tioTimestamps (s.dev.get F.OUT_ALIGN_TIO_CH n.val) = true →
      Completes (.arm n) s (fun t => t.dev.get F.OUT_CMD_RESULT n.val = 1 ∧ t.dev.flag F.OUT_STAT_ARMED n.val = true ∧
        Frame [] [.OUT_STAT, .OUT_CMD] s t))) ∧
  (s.dev.firnReach = true → Completes (.disarm n) s (fun t => t.dev.get F.OUT_CMD_RESULT n.val = 1 ∧
    t.dev.flag F.OUT_STAT_ARMED n.val = false ∧ Frame [] [.OUT_STAT, .OUT_CMD] s t)))

/-- bringupPhaseDone completing phases 1 to 5 (5 with agreeing latency measurements) leads to the next phase; with lost
signal or lost lock, and at bringupTimeout, phase 1 follows; linkUp in phase 6 leads to phase 7 with LINK_UP. For a
port with its link up: lossOfSignal and lockLost of an awake receiver take it down with DOWN_CAUSE 1 and 2,
degradeWindowEnd with more uncorrectable codewords than the limit of that window takes it down with cause 3 and else
keeps it and takes DEGRADE_CW for the next window; in a mode without FEC it takes the link down with cause 3 where
hi_ber holds and changes nothing where it does not; quadRestart takes it down with cause 6. (R138, R139, R141, R142,
R163) -/
def Obligations.LinkBringUpAndDown : Prop :=
  (∀ (s : State) (p : PortId) (lat : LatMeas),
  (∀ (ph : Nat), s.dev.get F.LANE_QUAD_STAT_PHASE p.val = ph → 1 ≤ ph → ph ≤ 5 → (ph = 5 → lat.agree = true) →
    Completes (.bringupPhaseDone p .complete lat) s (fun t => t.dev.get F.LANE_QUAD_STAT_PHASE p.val = ph + 1)) ∧
  (s.dev.bringing p.val = true →
    Completes (.bringupPhaseDone p .lostSignal lat) s (fun t => t.dev.get F.LANE_QUAD_STAT_PHASE p.val = 1) ∧
    Completes (.bringupPhaseDone p .lostLock lat) s (fun t => t.dev.get F.LANE_QUAD_STAT_PHASE p.val = 1) ∧
    Completes (.bringupTimeout p) s (fun t => t.dev.get F.LANE_QUAD_STAT_PHASE p.val = 1)) ∧
  (s.dev.get F.LANE_QUAD_STAT_PHASE p.val = 6 → Completes (.linkUp p) s (fun t =>
    t.dev.get F.LANE_QUAD_STAT_PHASE p.val = 7 ∧ t.dev.linkUp p.val = true))) ∧
  (∀ (s : State) (p : PortId) (unc cor : Nat) (hiBer : Bool), s.dev.linkUp p.val = true →
  (s.dev.rxAwake p.val = true →
    Completes (.lossOfSignal p) s (fun t => t.dev.linkUp p.val = false ∧ t.dev.get F.LANE_QUAD_STAT_DOWN_CAUSE p.val = 1) ∧
    Completes (.lockLost p) s (fun t => t.dev.linkUp p.val = false ∧ t.dev.get F.LANE_QUAD_STAT_DOWN_CAUSE p.val = 2)) ∧
  (noFec (s.dev.portMode p.val) = false → (s.dev.port p.val).degradeCw < unc →
    Completes (.degradeWindowEnd p unc cor hiBer) s (fun t => t.dev.linkUp p.val = false ∧ t.dev.get F.LANE_QUAD_STAT_DOWN_CAUSE p.val = 3)) ∧
  (noFec (s.dev.portMode p.val) = false → unc ≤ (s.dev.port p.val).degradeCw →
    Completes (.degradeWindowEnd p unc cor hiBer) s (fun t => t.dev.linkUp p.val = true ∧
      (t.dev.port p.val).degradeCw = s.dev.get F.LANE_QUAD_CFG_DEGRADE_CW p.val)) ∧
  (noFec (s.dev.portMode p.val) = true →
    (hiBer = true → Completes (.degradeWindowEnd p unc cor hiBer) s (fun t =>
      t.dev.linkUp p.val = false ∧ t.dev.get F.LANE_QUAD_STAT_DOWN_CAUSE p.val = 3)) ∧
    (hiBer = false → Completes (.degradeWindowEnd p unc cor hiBer) s (fun t => t = s))) ∧
  (s.dev.fastReach = true → s.dev.hasPort p.val = true → s.dev.portMode p.val ≠ 0 → s.dev.portTest p.val = false →
    Completes (.quadRestart p) s (fun t => t.dev.linkUp p.val = false ∧ t.dev.get F.LANE_QUAD_STAT_DOWN_CAUSE p.val = 6 ∧
      t.dev.get F.LANE_QUAD_CMD_RESULT p.val = 1)))

/-- laneFault retires the lane with its alarm; chkLockGained sets CHK_LOCK; chkLockLost adds the errors to LANE_PRBS_ERR
(saturating) and clears CHK_LOCK where the lock is lost (that the row also carries errors with the lock kept is the
model's choice, log entry 136); laneCfgWrite takes both polarities; laneTestWrite of an allowed pattern takes its
fields. quadModeWrite and discEnWrite take MODE, DISC_EN, LPI_EN and DEGRADE_CW (at least 1). With the port up,
DISC_EN and the CP running: helloSend with an awake transmitter queues a HELLO in class 7 with the next sequence
number; helloReceived of this port's own frame sets SELF_LOOP and leaves DISCOVERED, of any other frame, another port
of the same module among them, it sets DISCOVERED and the partner registers and clears SELF_LOOP (what sets and clears
it is the model's reading, log entry 44); partnerLost clears DISCOVERED and the partner registers. (R144, R146, R147,
R159, R161, R162, R163) -/
def Obligations.LanesAndDiscovery : Prop :=
  (∀ (s : State) (l : LaneId) (v : Word) (n : Nat) (lost : Bool),
  (s.dev.fastOn = true → l.val < s.dev.lanes → s.dev.flag F.LANE_STAT_RETIRED l.val = false →
    Completes (.laneFault l) s (fun t => t.dev.flag F.LANE_STAT_RETIRED l.val = true ∧ t.dev.flag F.LANE_STAT_SIG_DET l.val = false ∧
      t.dev.alarmOn .laneRetired = true)) ∧
  (s.dev.flag F.LANE_TEST_CHK_EN l.val = true → Completes (.chkLockGained l) s (fun t =>
    t.dev.flag F.LANE_STAT_CHK_LOCK l.val = true ∧ Frame [] [.LANE_STAT] s t)) ∧
  (s.dev.flag F.LANE_STAT_CHK_LOCK l.val = true → Completes (.chkLockLost l ⟨n, lost⟩) s (fun t =>
    t.dev.flag F.LANE_STAT_CHK_LOCK l.val = !lost ∧
    t.dev.get F.LANE_PRBS_ERR_ERRS l.val = min 0xFFFFFFFF (s.dev.get F.LANE_PRBS_ERR_ERRS l.val + n) ∧
    Frame [] [.LANE_STAT, .LANE_PRBS_ERR] s t)) ∧
  (s.dev.fastReach = true → s.dev.hasPort (l.val / 4) = true →
    Completes (.laneCfgWrite l v) s (fun t => t.dev.get F.LANE_CFG_TX_POL l.val = bitsOf v.toNat 0 1 ∧
      t.dev.get F.LANE_CFG_RX_POL l.val = bitsOf v.toNat 1 1) ∧
    ((s.dev.usedLanes (l.val / 4)).contains l.val = true → patOk (s.dev.portMode (l.val / 4)) (bitsOf v.toNat 0 4) = true →
      patOk (s.dev.portMode (l.val / 4)) (bitsOf v.toNat 8 4) = true → Completes (.laneTestWrite l v) s (fun t =>
        t.dev.get F.LANE_TEST_GEN_PAT l.val = bitsOf v.toNat 0 4 ∧ t.dev.get F.LANE_TEST_GEN_EN l.val = bitsOf v.toNat 4 1 ∧
        t.dev.get F.LANE_TEST_CHK_PAT l.val = bitsOf v.toNat 8 4 ∧ t.dev.get F.LANE_TEST_CHK_EN l.val = bitsOf v.toNat 12 1 ∧
        t.dev.get F.LANE_TEST_LOOP l.val = bitsOf v.toNat 16 2)))) ∧
  (∀ (s : State) (p : PortId) (v : Word), s.dev.fastReach = true → s.dev.hasPort p.val = true →
  Completes (.quadModeWrite p v) s (fun t =>
    t.dev.get F.LANE_QUAD_CFG_MODE p.val = bitsOf v.toNat 0 4 ∧ t.dev.get F.LANE_QUAD_CFG_DISC_EN p.val = bitsOf v.toNat 4 1 ∧
    t.dev.get F.LANE_QUAD_CFG_LPI_EN p.val = bitsOf v.toNat 5 1 ∧ t.dev.get F.LANE_QUAD_CFG_DEGRADE_CW p.val = max 1 (bitsOf v.toNat 8 8)) ∧
  Completes (.discEnWrite p v) s (fun t =>
    t.dev.get F.LANE_QUAD_CFG_MODE p.val = bitsOf v.toNat 0 4 ∧ t.dev.get F.LANE_QUAD_CFG_DISC_EN p.val = bitsOf v.toNat 4 1 ∧
    t.dev.get F.LANE_QUAD_CFG_LPI_EN p.val = bitsOf v.toNat 5 1 ∧ t.dev.get F.LANE_QUAD_CFG_DEGRADE_CW p.val = max 1 (bitsOf v.toNat 8 8))) ∧
  (∀ (s : State) (p : PortId) (b : List Byte), s.dev.portUp p.val = true →
  s.dev.flag F.LANE_QUAD_CFG_DISC_EN p.val = true → s.dev.sys.cpStopped = false →
  (s.dev.fastOn = true → s.dev.txSleep p.val = 0 → Completes (.helloSend p) s (fun t =>
    (t.dev.port p.val).helloSeq = ((s.dev.port p.val).helloSeq + 1) % 65536 ∧
    (t.dev.queue p.val 7).length = (s.dev.queue p.val 7).length + 1)) ∧
  (discOk b true 1 = true → Completes (.helloReceived p b true) s (fun t =>
    if s.dev.ownFrame p.val b then t.dev.flag F.LANE_QUAD_STAT_SELF_LOOP p.val = true ∧
      t.dev.flag F.LANE_QUAD_STAT_DISCOVERED p.val = s.dev.flag F.LANE_QUAD_STAT_DISCOVERED p.val
    else
    t.dev.flag F.LANE_QUAD_STAT_DISCOVERED p.val = true ∧ t.dev.get F.LANE_PARTNER_ID_LO_ID p.val = beNat (slice b 18 8) % 2 ^ 32 ∧
    t.dev.get F.LANE_PARTNER_INFO_PORT p.val = byteAt b 26 % 32 ∧ t.dev.get F.LANE_PARTNER_INFO_CAPS p.val = byteAt b 29 ∧
    t.dev.get F.LANE_PARTNER_DOM_DOMAIN p.val = byteAt b 31 ∧ t.dev.flag F.LANE_QUAD_STAT_SELF_LOOP p.val = false)) ∧
  (s.dev.flag F.LANE_QUAD_STAT_DISCOVERED p.val = true → s.dev.rxSleep p.val = 0 → Completes (.partnerLost p) s (fun t =>
    t.dev.flag F.LANE_QUAD_STAT_DISCOVERED p.val = false ∧ t.dev.word .LANE_PARTNER_ID_HI p.val = 0 ∧
    t.dev.word .LANE_PARTNER_ID_LO p.val = 0 ∧ t.dev.word .LANE_PARTNER_INFO p.val = 0 ∧ t.dev.word .LANE_PARTNER_DOM p.val = 0)))

/-- sleepEntryDecision of an idle awake transmitter with empty queues enters LPI (5) at once where that is the depth
picked and queues one notice for depth SHALLOW or DEEP; sleepNoticeReceived of a good notice with an entry time ahead
leads to ENTERING with that depth and time, or SELF_LOOP for this port's own frame; sleepEntry of an entering
transmitter or receiver enters the depth planned, of a receiver that may sleep in LPI enters LPI, of a receiver whose
entry was cancelled leads to AWAKE; deepening of a SHALLOW transmitter whose latencies permit DEEP wakes it to deepen.
How a receiver comes to LPI by SLEEP_ENTRY, and the return of a cancelled entry, are the model's reading (log entry
46). (R149, R151, R156, R158, R161, R300) -/
def Obligations.SleepEntries : Prop :=
  ∀ (s : State) (p : PortId) (b : List Byte) (T : Ticks),
  (s.dev.linkUp p.val = true → s.dev.txSleep p.val = 0 → s.dev.idle p.val = true → (∀ q < 8, s.dev.queue p.val q = []) →
    s.dev.txNow p.val = none →
    (s.dev.pickDepth p.val = 5 → Completes (.sleepEntryDecision p) s (fun t => t.dev.txSleep p.val = 5 ∧ (t.dev.port p.val).txDepth = 5)) ∧
    (s.dev.pickDepth p.val = 2 ∨ s.dev.pickDepth p.val = 3 → Completes (.sleepEntryDecision p) s (fun t =>
      (t.dev.queue p.val 7).length = 1 ∧ t.dev.txSleep p.val = 0))) ∧
  (s.dev.portUp p.val = true → discOk b true 2 = true → s.dev.rxSleep p.val = 0 ∨ s.dev.rxSleep p.val = 1 →
    byteAt b 32 = 2 ∨ byteAt b 32 = 3 → s.dev.rxMaySleep p.val = true →
    entryTime s.dev.now (beNat (slice b 34 4)) (beNat (slice b 38 4)) = T → s.dev.now < T →
    Completes (.sleepNoticeReceived p b true) s (fun t =>
      if s.dev.ownFrame p.val b then t.dev.flag F.LANE_QUAD_STAT_SELF_LOOP p.val = true ∧ t.dev.rxSleep p.val = s.dev.rxSleep p.val
      else t.dev.rxSleep p.val = 1 ∧ (t.dev.port p.val).rxDepth = byteAt b 32 ∧ (t.dev.port p.val).rxEntry = some T)) ∧
  (∀ (r : Bool), s.dev.txSleep p.val = 1 → (s.dev.port p.val).txDepth < 8 → Completes (.sleepEntry p .tx r) s (fun t =>
    t.dev.txSleep p.val = (s.dev.port p.val).txDepth ∧ (t.dev.port p.val).txEntry = none)) ∧
  (s.dev.rxSleep p.val = 1 → (s.dev.port p.val).rxDepth < 8 → s.dev.rxMaySleep p.val = true → Completes (.sleepEntry p .rx false) s (fun t =>
    t.dev.rxSleep p.val = (s.dev.port p.val).rxDepth ∧ (t.dev.port p.val).missed = 0)) ∧
  (s.dev.rxSleep p.val = 0 → s.dev.lpiMay p.val = true → Completes (.sleepEntry p .rx false) s (fun t => t.dev.rxSleep p.val = 5)) ∧
  (s.dev.rxSleep p.val = 1 → Completes (.sleepEntry p .rx true) s (fun t => t.dev.rxSleep p.val = 0 ∧
    (t.dev.port p.val).rxEntry = none)) ∧
  (s.dev.txSleep p.val = 2 → s.dev.get F.PWR_PORT_CFG_TX_PIN p.val = 0 → s.dev.permits p.val 3 = true →
    Completes (.deepening p) s (fun t => t.dev.txSleep p.val = 4 ∧ (t.dev.port p.val).deepens = true))

/-- burstLead marks the lead-in of the transmitter or receiver in DEEP; refreshBurst of a SHALLOW transmitter leaves it
asleep; burstReceived within 16 units of the expected phase ends the run of misses; burstMissed counts the first miss,
and at the second takes the link down with DOWN_CAUSE 4. txWakeDecision for a frame or PTP wakes a sleeping
transmitter (WAKING with its depth kept) and cancels an entry; for a condition or a latency it wakes where the depth
is no longer permitted. wakeGuardEnd with agreeing latency measurements leads to AWAKE, else takes the link down with
cause 5 (R174 of chapter 7). rxWakeDetected wakes a sleeping receiver in two steps, the model's reading of one row
(log entry 47): the symbols lead to WAKING with its depth kept, and the checks to AWAKE, or take the link down with
cause 5 where latency or marker disagree. A write that clears LPI_EN wakes a receiver in LPI at once (log entry 46).
smcStopped shows that the SMC stopped or runs again. (R149, R152, R153, R154, R156, R157, R163, R174, R301) -/
def Obligations.RefreshAndWakes : Prop :=
  (∀ (s : State) (p : PortId) (x : Int),
  (s.dev.txSleep p.val = 3 → Completes (.burstLead p .tx) s (fun t => (t.dev.port p.val).txLead = true ∧ t.dev.txSleep p.val = 3)) ∧
  (s.dev.rxSleep p.val = 3 → Completes (.burstLead p .rx) s (fun t => (t.dev.port p.val).rxLead = true ∧ t.dev.rxSleep p.val = 3)) ∧
  (s.dev.txSleep p.val = 2 → Completes (.refreshBurst p) s (fun t => (t.dev.port p.val).txLead = false ∧ t.dev.txSleep p.val = 2)) ∧
  (s.dev.rxSleep p.val = 2 ∨ s.dev.rxSleep p.val = 3 →
    (x.natAbs ≤ 16 → Completes (.burstReceived p x) s (fun t => (t.dev.port p.val).missed = 0 ∧ (t.dev.port p.val).rxLead = false ∧
      t.dev.rxSleep p.val = s.dev.rxSleep p.val)) ∧
    ((s.dev.port p.val).missed = 0 → Completes (.burstMissed p) s (fun t => (t.dev.port p.val).missed = 1 ∧
      t.dev.linkUp p.val = s.dev.linkUp p.val)) ∧
    ((s.dev.port p.val).missed = 1 → s.dev.linkUp p.val = true → Completes (.burstMissed p) s (fun t =>
      t.dev.linkUp p.val = false ∧ t.dev.get F.LANE_QUAD_STAT_DOWN_CAUSE p.val = 4 ∧ t.dev.rxSleep p.val = 0)))) ∧
  (∀ (s : State) (p : PortId) (x : Int) (lat : LatMeas),
  (∀ c ∈ [WakeCause.frame, .ptp], s.dev.txSleep p.val = 2 ∨ s.dev.txSleep p.val = 3 ∨ s.dev.txSleep p.val = 5 →
    Completes (.txWakeDecision p c) s (fun t => t.dev.txSleep p.val = 4 ∧ (t.dev.port p.val).txDepth = s.dev.txSleep p.val)) ∧
  (∀ c ∈ [WakeCause.condition, .latency], s.dev.txSleep p.val = 2 ∨ s.dev.txSleep p.val = 3 ∨ s.dev.txSleep p.val = 5 →
    s.dev.depthOk p.val (s.dev.txSleep p.val) = false → Completes (.txWakeDecision p c) s (fun t => t.dev.txSleep p.val = 4)) ∧
  (∀ c ∈ [WakeCause.frame, .ptp], s.dev.txSleep p.val = 1 → Completes (.txWakeDecision p c) s (fun t => t.dev.txSleep p.val = 0 ∧
    (t.dev.port p.val).txEntry = none)) ∧
  (s.dev.txSleep p.val = 4 → lat.agree = true → Completes (.wakeGuardEnd p lat) s (fun t => t.dev.txSleep p.val = 0)) ∧
  (s.dev.txSleep p.val = 4 → s.dev.linkUp p.val = true → lat.agree = false → Completes (.wakeGuardEnd p lat) s (fun t =>
    t.dev.linkUp p.val = false ∧ t.dev.get F.LANE_QUAD_STAT_DOWN_CAUSE p.val = 5)) ∧
  (asleep (s.dev.rxSleep p.val) = true → Completes (.rxWakeDetected p x lat .detected) s (fun t => t.dev.rxSleep p.val = 4 ∧
    (t.dev.port p.val).rxDepth = s.dev.rxSleep p.val ∧ (t.dev.port p.val).missed = 0)) ∧
  (s.dev.rxSleep p.val = 4 → lat.agree = true → Completes (.rxWakeDetected p x lat (.checked true)) s (fun t =>
    t.dev.rxSleep p.val = 0)) ∧
  (s.dev.rxSleep p.val = 4 → s.dev.linkUp p.val = true → lat.agree = false → Completes (.rxWakeDetected p x lat (.checked true)) s (fun t =>
    t.dev.linkUp p.val = false ∧ t.dev.get F.LANE_QUAD_STAT_DOWN_CAUSE p.val = 5)) ∧
  (s.dev.rxSleep p.val = 4 → s.dev.linkUp p.val = true → (s.dev.port p.val).rxDepth ≠ 5 →
    Completes (.rxWakeDetected p x lat (.checked false)) s (fun t =>
      t.dev.linkUp p.val = false ∧ t.dev.get F.LANE_QUAD_STAT_DOWN_CAUSE p.val = 5)) ∧
  (∀ (v : Word), s.dev.fastReach = true → s.dev.hasPort p.val = true → s.dev.rxSleep p.val = 5 →
    bitsOf v.toNat 5 1 = 0 → bitsOf v.toNat 0 4 = s.dev.portMode p.val → Completes (.quadModeWrite p v) s (fun t => t.dev.rxSleep p.val = 4)) ∧
  (s.dev.fastOn = true → Completes (.smcStopped false) s (fun t => t.dev.sys.smcStopped = true)) ∧
  (s.dev.fastOn = true → Completes (.smcStopped true) s (fun t => t.dev.sys.smcStopped = false)))

/-- tioCfgWrite of an allowed mode and edge takes EN, MODE and EDGE; of a refused combination it sets CFG_REJ and changes
nothing else. calibrationStart of an enabled channel with its delay line marks the run whether it is READY or not
(RECAL with RESULT 1, or 8 once the delay line is retired), and of a REFIN converter in use likewise, and changes
nothing else. A tap is bad exactly where it did not change state during a crossing or its bin exceeds 8 ps.
calibrationComplete counts the newly retired taps; with uniform bins and at most 128 retired taps it takes the bin
centres and, for a channel, the smallest and largest bin; else it retires the delay line of the channel with
TIO_RETIRED, or the monitor of the REFIN. What happens to a REFIN converter is the model's reading (log entry 121).
(R76, R205 to R208, R222) -/
def Obligations.TioChannelSetUp : Prop :=
  (∀ (s : State) (c : TioId) (v : Word), s.dev.firnReach = true → c.val < s.dev.tios →
  (bitsOf v.toNat 1 3 ≤ 5 → bitsOf v.toNat 4 2 ≠ 3 → (bitsOf v.toNat 4 2 = 2 → bitsOf v.toNat 1 3 = 0) →
    (bitsOf v.toNat 1 3 ≠ 5 → s.dev.flag F.TIO_STAT_TDC_RETIRED c.val = false) → Completes (.tioCfgWrite c v) s (fun t =>
      t.dev.get F.TIO_CFG_EN c.val = bitsOf v.toNat 0 1 ∧ t.dev.get F.TIO_CFG_MODE c.val = bitsOf v.toNat 1 3 ∧
      t.dev.get F.TIO_CFG_EDGE c.val = bitsOf v.toNat 4 2)) ∧
  (6 ≤ bitsOf v.toNat 1 3 ∨ bitsOf v.toNat 4 2 = 3 ∨ (bitsOf v.toNat 4 2 = 2 ∧ bitsOf v.toNat 1 3 ≠ 0) ∨
      (bitsOf v.toNat 1 3 ≠ 5 ∧ s.dev.flag F.TIO_STAT_TDC_RETIRED c.val = true) →
    Completes (.tioCfgWrite c v) s (fun t => t.dev.flag F.TIO_STAT_CFG_REJ c.val = true ∧ Frame [] [.TIO_STAT] s t))) ∧
  (∀ (s : State) (c : TioId) (m : RefinId) (k : CalCause) (r : CalResult) (n : Nat),
  (s.dev.tioEn c.val = true → s.dev.flag F.TIO_STAT_TDC_RETIRED c.val = false →
    (k = .recal → s.dev.firnReach = true) →
    Completes (.calibrationStart (.tio c) k) s (fun t => t.dev.flag F.TIO_STAT_CAL_RUN c.val = true ∧
      (k = .recal → t.dev.get F.TIO_CMD_RESULT c.val = 1) ∧ Frame [] [.TIO_STAT, .TIO_CMD] s t)) ∧
  (s.dev.firnReach = true → c.val < s.dev.tios → s.dev.flag F.TIO_STAT_TDC_RETIRED c.val = true →
    Completes (.calibrationStart (.tio c) .recal) s (fun t => t.dev.get F.TIO_CMD_RESULT c.val = 8 ∧ Frame [] [.TIO_CMD] s t)) ∧
  (∀ x, x ∈ calBad r ↔ ∃ y, r.taps[x]? = some y ∧ x < 768 ∧ (y.changes = false ∨ 8 * 2 ^ 20 < y.edges * 1600)) ∧
  (k ≠ .recal → s.dev.refinFmt m.val ≠ 0 → (s.dev.cand m.val).retired = false →
    Completes (.calibrationStart (.refin m) k) s (fun t => (t.dev.cand m.val).calRuns = true ∧ Frame [.cands] [] s t)) ∧
  (s.dev.flag F.TIO_STAT_CAL_RUN c.val = true → n = ((calBad r).filter (fun x =>
      !(s.dev.tioCh c.val).badTaps.contains x)).length →
    (calUniform r = true → (s.dev.tioCh c.val).badTaps.length + n ≤ 128 →
      Completes (.calibrationComplete (.tio c) r) s (fun t => (t.dev.tioCh c.val).centres = binCentres 0 r.bins ∧
        t.dev.get F.TIO_CAL_STAT_BIN_MIN c.val = calBinMin r % 256 ∧ t.dev.get F.TIO_CAL_STAT_BIN_MAX c.val = calBinMax r % 256 ∧
        t.dev.get F.TIO_CAL_STAT_RETIRED_TAPS c.val = min 1023 (s.dev.get F.TIO_CAL_STAT_RETIRED_TAPS c.val + n) ∧
        t.dev.flag F.TIO_STAT_CAL_RUN c.val = false ∧
        t.dev.flag F.TIO_STAT_TDC_RETIRED c.val = s.dev.flag F.TIO_STAT_TDC_RETIRED c.val)) ∧
    (calUniform r = false ∨ 128 < (s.dev.tioCh c.val).badTaps.length + n →
      Completes (.calibrationComplete (.tio c) r) s (fun t =>
        t.dev.flag F.TIO_STAT_TDC_RETIRED c.val = true ∧
        t.dev.get F.TIO_CAL_STAT_RETIRED_TAPS c.val = min 1023 (s.dev.get F.TIO_CAL_STAT_RETIRED_TAPS c.val + n) ∧
        t.dev.flag F.TIO_STAT_CAL_RUN c.val = false ∧ t.dev.alarmOn .tioRetired = true))) ∧
  ((s.dev.cand m.val).calRuns = true → n = ((calBad r).filter (fun x =>
      !(s.dev.cand m.val).badTaps.contains x)).length →
    (calUniform r = true → (s.dev.cand m.val).badTaps.length + n ≤ 128 →
      Completes (.calibrationComplete (.refin m) r) s (fun t => (t.dev.cand m.val).calRuns = false ∧
        (t.dev.cand m.val).centres = binCentres 0 r.bins ∧ (t.dev.cand m.val).badTaps.length = (s.dev.cand m.val).badTaps.length + n ∧
        (t.dev.cand m.val).retired = (s.dev.cand m.val).retired)) ∧
    (calUniform r = false ∨ 128 < (s.dev.cand m.val).badTaps.length + n →
      Completes (.calibrationComplete (.refin m) r) s (fun t => (t.dev.cand m.val).calRuns = false ∧
        (t.dev.cand m.val).retired = true))))

/-- With no measurement running and room in the FIFO, tioInputEdge in TIMESTAMP mode: an accepted edge outside hold-off
and dead time adds a record of type 1 with its DTIME and the sequence number and starts hold-off and dead time; within
the dead time it is lost and marked so; of the other polarity or within hold-off it is ignored. tioNoEdgeTimeout adds
a record of type 6. tioArm in INTERVAL (with a stop channel that timestamps), PERIOD, FREQUENCY (with a gate shorter
than the timeout) and WIDTH starts the measurement of the mode with RESULT 1; tioDisarm ends it with a record of
status 7, tioMeasTimeout with status 1, and with REPEAT it is armed again. (R203, R204, R209, R210, R211, R212, R215) -/
def Obligations.TioInputs : Prop :=
  (∀ (s : State) (c : TioId) (up : Bool) (n : Nat) (b : Fin 640) (T : Ticks),
  s.dev.tioEn c.val = true → s.dev.tioMode c.val = 0 → s.dev.tioReady c.val = true → (∀ k < 48, (s.dev.tioCh k).meas = none) →
  T = tIn n ((s.dev.tioCh c.val).centres.getD b.val 0) (Config.tioPinDelay c.val s.dev.sys.dieTemp) (s.dev.get F.TIO_DELAY_IN_EXT c.val) →
  (s.dev.tioCh c.val).fifo.length + (s.dev.tioCh c.val).badSlots < 64 →
  (s.dev.accepts c.val up = true → s.dev.heldOff c.val T = false → s.dev.deadTime c.val T = false →
    Completes (.tioInputEdge c up n b) s (fun t => ∃ r, (t.dev.tioCh c.val).fifo = (s.dev.tioCh c.val).fifo ++ [r] ∧
      r.type = 1 ∧ r.status = 0 ∧ r.time = s.dev.stamp T ∧ r.seq = (s.dev.tioCh c.val).seq ∧
      (t.dev.tioCh c.val).heldTo = some (T + s.dev.get F.TIO_HOLDOFF_HOLDOFF c.val * nsUnit) ∧ (t.dev.tioCh c.val).lastAny = some T)) ∧
  (s.dev.accepts c.val up = true → s.dev.heldOff c.val T = false → s.dev.deadTime c.val T = true →
    Completes (.tioInputEdge c up n b) s (fun t => (t.dev.tioCh c.val).fifo = (s.dev.tioCh c.val).fifo ∧
      (t.dev.tioCh c.val).lostEdge = true)) ∧
  (s.dev.accepts c.val up = false ∨ s.dev.heldOff c.val T = true →
    Completes (.tioInputEdge c up n b) s (fun t => (t.dev.tioCh c.val).fifo = (s.dev.tioCh c.val).fifo ∧
      (t.dev.tioCh c.val).lostEdge = (s.dev.tioCh c.val).lostEdge)) ∧
  ((s.dev.tioCh c.val).noEdgeUs ≠ 0 → (s.dev.tioCh c.val).noEdge = false →
    Completes (.tioNoEdgeTimeout c) s (fun t => ∃ r, (t.dev.tioCh c.val).fifo = (s.dev.tioCh c.val).fifo ++ [r] ∧
      r.type = 6 ∧ r.time = s.dev.stamp s.dev.now ∧ (t.dev.tioCh c.val).noEdge = true))) ∧
  (∀ (s : State) (c : TioId) (m : TioMeas),
  (s.dev.firnReach = true → c.val < s.dev.tios → 1 ≤ s.dev.tioMode c.val → s.dev.tioMode c.val ≤ 4 →
    (s.dev.tioMode c.val = 1 → s.dev.get F.TIO_MEAS_CFG_STOP_CH c.val ≠ c.val ∧
      s.dev.tioTimestamps (s.dev.get F.TIO_MEAS_CFG_STOP_CH c.val) = true) →
    (s.dev.tioMode c.val = 3 → s.dev.get F.TIO_GATE_GATE c.val < max 1 (s.dev.get F.TIO_TIMEOUT_TIMEOUT c.val)) →
    s.dev.flag F.TIO_STAT_TDC_RETIRED c.val = false → s.dev.tioReady c.val = true → (s.dev.tioCh c.val).meas = none →
    Completes (.tioArm c) s (fun t => t.dev.get F.TIO_CMD_RESULT c.val = 1 ∧ t.dev.flag F.TIO_STAT_ARMED c.val = true ∧
      (t.dev.tioCh c.val).meas = some (s.dev.newMeas c.val))) ∧
  ((s.dev.tioCh c.val).meas = some m → (s.dev.tioCh c.val).fifo.length + (s.dev.tioCh c.val).badSlots < 64 →
    (s.dev.firnReach = true → c.val < s.dev.tios → Completes (.tioDisarm c) s (fun t => ∃ r,
      (t.dev.tioCh c.val).fifo = (s.dev.tioCh c.val).fifo ++ [r] ∧ r.type = m.mode + 1 ∧ r.status = 7 ∧
      (t.dev.tioCh c.val).meas = none ∧ t.dev.flag F.TIO_STAT_ARMED c.val = false ∧ t.dev.get F.TIO_CMD_RESULT c.val = 1)) ∧
    Completes (.tioMeasTimeout c) s (fun t => ∃ r,
      (t.dev.tioCh c.val).fifo = (s.dev.tioCh c.val).fifo ++ [r] ∧ r.type = m.mode + 1 ∧ r.status = 1 ∧
      (t.dev.tioCh c.val).meas.isSome = m.repeats ∧ t.dev.flag F.TIO_STAT_ARMED c.val = m.repeats)))

/-- tioStart from NOW with a legal width plans the schedule of the registers with RESULT 1 and PENDING; tioOutputEdge
alternates, counts a pulse at its fall and ends the schedule at COUNT; tioCancel ends it, or after the pulses that it
keeps. tioRecordRead, with no other access of the host before it, takes the oldest record into TIO_REC and answers its
W0, of an empty FIFO zero; tioFifoEntryFault uncorrectable takes that record out, sets LOSS on the record behind it,
or on the next to enter where none stands there, and loses one slot for good (log entry 62); tioOutputEngineFault
uncorrectable retires the output with TIO_RETIRED and ends schedule and trigger; both corrected change only the
reports. (R215, R216, R217, R220, R221) -/
def Obligations.TioOutputs : Prop :=
  (∀ (s : State) (c : TioId) (sch : TioSched),
  (s.dev.firnReach = true → c.val < s.dev.tios → s.dev.tioMode c.val = 5 → s.dev.flag F.TIO_STAT_OUT_RETIRED c.val = false →
    s.dev.tioReady c.val = true → (s.dev.tioCh c.val).sched = none → (s.dev.tioCh c.val).trig = none → s.dev.widthOk c.val = true →
    s.dev.get F.TIO_OUT_CFG_START_SRC c.val = 1 → Completes (.tioStart c) s (fun t =>
      t.dev.get F.TIO_CMD_RESULT c.val = 1 ∧ t.dev.flag F.TIO_STAT_PENDING c.val = true ∧ ∃ x, (t.dev.tioCh c.val).sched = some x ∧
      x.start = (s.dev.nowStart : Int) ∧ x.period = s.dev.tioPeriod c.val ∧ x.width = s.dev.tioWidth c.val ∧
      x.count = s.dev.get F.TIO_COUNT_COUNT c.val ∧ x.sent = 0 ∧ x.high = false)) ∧
  ((s.dev.tioCh c.val).sched = some sch →
    (sch.high = false → Completes (.tioOutputEdge c) s (fun t => (t.dev.tioCh c.val).sched = some { sch with high := true })) ∧
    (sch.high = true → sch.count = 0 ∨ sch.sent + 1 < sch.count → Completes (.tioOutputEdge c) s (fun t =>
      (t.dev.tioCh c.val).sched = some { sch with high := false, sent := sch.sent + 1 })) ∧
    (sch.high = true → sch.count ≠ 0 → sch.count ≤ sch.sent + 1 → Completes (.tioOutputEdge c) s (fun t =>
      (t.dev.tioCh c.val).sched = none ∧ t.dev.flag F.TIO_STAT_PENDING c.val = false)) ∧
    (s.dev.firnReach = true → c.val < s.dev.tios → sch.keeps s.dev.now ≤ sch.sent →
      Completes (.tioCancel c) s (fun t => (t.dev.tioCh c.val).sched = none ∧ (t.dev.tioCh c.val).trig = none ∧
        t.dev.flag F.TIO_STAT_PENDING c.val = false ∧ t.dev.get F.TIO_CMD_RESULT c.val = 1)) ∧
    (s.dev.firnReach = true → c.val < s.dev.tios → sch.sent < sch.keeps s.dev.now → Completes (.tioCancel c) s (fun t =>
      (t.dev.tioCh c.val).sched = some { sch with count := sch.keeps s.dev.now } ∧ (t.dev.tioCh c.val).trig = none ∧
        t.dev.get F.TIO_CMD_RESULT c.val = 1)))) ∧
  (∀ (s : State) (c : TioId),
  (hostIdle s.dev = true ∨ s.dev.pcie.ready = false → Completes (.tioRecordRead c) s (Frame [.tio, .sent] [.TIO_REC, .TIO_STAT] s)) ∧
  (s.dev.firnReach = true → c.val < s.dev.tios → hostIdle s.dev = true ∨ s.dev.pcie.ready = false →
    (∀ r rest, (s.dev.tioCh c.val).fifo = r :: rest → rest.length < 64 → Completes (.tioRecordRead c) s (fun t =>
      (t.dev.tioCh c.val).fifo = rest ∧ t.dev.get F.TIO_STAT_FIFO_LEVEL c.val = rest.length ∧
      t.dev.word .TIO_REC (c.val * 8) = BitVec.ofNat 32 r.w0 ∧ t.dev.word .TIO_REC (c.val * 8 + 7) = BitVec.ofNat 32 r.count ∧
      t.dev.sent = s.dev.sent ++ [.readData (r.w0 % 2 ^ 32)])) ∧
    ((s.dev.tioCh c.val).fifo = [] → Completes (.tioRecordRead c) s (fun t => (t.dev.tioCh c.val).fifo = [] ∧
      (∀ w < 8, t.dev.word .TIO_REC (c.val * 8 + w) = 0) ∧ t.dev.sent = s.dev.sent ++ [.readData 0]))) ∧
  (∀ (i : Fin 64), i.val < (s.dev.tioCh c.val).fifo.length → Completes (.tioFifoEntryFault c ⟨i, .uncorrectable⟩) s (fun t =>
    (t.dev.tioCh c.val).fifo.length + 1 = (s.dev.tioCh c.val).fifo.length ∧
    (∀ j, j ≠ i.val → (t.dev.tioCh c.val).fifo[j]? = ((s.dev.tioCh c.val).fifo.eraseIdx i.val)[j]?) ∧
    (∀ r, (s.dev.tioCh c.val).fifo[i.val + 1]? = some r →
      (t.dev.tioCh c.val).fifo[i.val]? = some { r with flags := r.flags ||| 2 }) ∧
    (t.dev.tioCh c.val).loss = ((s.dev.tioCh c.val).loss || decide ((s.dev.tioCh c.val).fifo.length = i.val + 1)) ∧
    (t.dev.tioCh c.val).badSlots = (s.dev.tioCh c.val).badSlots + 1)) ∧
  (s.dev.flag F.TIO_STAT_OUT_RETIRED c.val = false → Completes (.tioOutputEngineFault ⟨c, .uncorrectable⟩) s (fun t =>
    t.dev.flag F.TIO_STAT_OUT_RETIRED c.val = true ∧ (t.dev.tioCh c.val).sched = none ∧ (t.dev.tioCh c.val).trig = none ∧
    t.dev.flag F.TIO_STAT_PENDING c.val = false ∧ t.dev.alarmOn .tioRetired = true)) ∧
  (∀ (i : Fin 64), Completes (.tioFifoEntryFault c ⟨i, .corrected⟩) s (fun t => FrameReported [] [] s t)) ∧
  Completes (.tioOutputEngineFault ⟨c, .corrected⟩) s (fun t => FrameReported [] [] s t))

/-- beatSample of an awake receiver within its window sets RX_BEAT_LOCK and moves the unwrapped track by the step from the
phase before; outside it, or with the port not up, it unlocks; of a sleeping receiver it changes neither register nor
track. ptpSyncReceived one-step gives the offset t2 - t1 - mean delay - asymmetry, two-step keeps t2 and the track of
that moment; ptpFollowUpReceived of that sequenceId completes it. The times t2 contain Config.latFixed, which the spec
leaves to the part. (R165, R166, R176, R179, R189, R191) -/
def Obligations.BeatsAndSyncs : Prop :=
  (∀ (s : State) (p : PortId) (rx tx : Nat) (w : Bool),
  (s.dev.rxSleep p.val = 0 ∨ s.dev.rxSleep p.val = 1 →
    (s.dev.portUp p.val = true → w = true → Completes (.beatSample p rx tx w) s (fun t =>
      t.dev.flag F.PRT_PTU_STAT_RX_BEAT_LOCK p.val = true ∧ (t.dev.ptu p.val).phiRx = rx % 16384 ∧
      (t.dev.ptu p.val).tracked = true ∧ (t.dev.ptu p.val).track = (s.dev.ptu p.val).track +
        (if (s.dev.ptu p.val).tracked then unwrapStep (s.dev.ptu p.val).phiRx (rx % 16384) else 0) ∧
      (s.dev.flag F.PRT_PTU_STAT_TX_BEAT_VALID p.val = true → (t.dev.ptu p.val).phiTx = tx % 16384))) ∧
    (s.dev.portUp p.val = false ∨ w = false → Completes (.beatSample p rx tx w) s (fun t =>
      t.dev.flag F.PRT_PTU_STAT_RX_BEAT_LOCK p.val = false ∧ (t.dev.ptu p.val).tracked = false ∧
      (t.dev.ptu p.val).anchored = false ∧ (t.dev.ptu p.val).phiRx = (s.dev.ptu p.val).phiRx))) ∧
  (s.dev.rxSleep p.val = 2 ∨ s.dev.rxSleep p.val = 3 → Completes (.beatSample p rx tx w) s (fun t =>
    t.dev.regs = s.dev.regs ∧ (t.dev.ptu p.val).track = (s.dev.ptu p.val).track))) ∧
  (∀ (s : State) (p : PortId) (m : PtpMsg) (c : Capture) (t2 : Int) (w : SyncWait),
  s.dev.sys.cpStopped = false → s.dev.clockPort p.val = true → s.dev.isSlave p.val = true → s.dev.fromParent p.val m = true →
  (s.dev.flag F.TB_HB_STAT_FROZEN = false → t2 = s.dev.tRx p.val c →
    (m.twoStep = false → s.dev.flag F.PRT_PTU_STAT_DELAY_VALID p.val = true → Completes (.ptpSyncReceived p m c) s (fun t =>
      (t.dev.ptu p.val).theta = t2 - (m.time + m.corr) - (s.dev.ptu p.val).mean - s.dev.asym p.val ∧
      (t.dev.ptu p.val).syncTimes = some (m.time + m.corr, t2) ∧ (t.dev.ptu p.val).syncLate = false)) ∧
    (m.twoStep = true → Completes (.ptpSyncReceived p m c) s (fun t =>
      (t.dev.ptu p.val).syncWait = some ⟨m.seq, s.dev.tRx p.val c, m.corr, false, s.dev.trackNow p.val⟩ ∧
      (t.dev.ptu p.val).theta = (s.dev.ptu p.val).theta ∧ (t.dev.ptu p.val).syncLate = false))) ∧
  ((s.dev.ptu p.val).syncWait = some w → w.seq = m.seq → w.frozen = false → s.dev.flag F.PRT_PTU_STAT_DELAY_VALID p.val = true →
    Completes (.ptpFollowUpReceived p m) s (fun t =>
      (t.dev.ptu p.val).theta = w.t2 - (m.time + m.corr + w.corr) - (s.dev.ptu p.val).mean - s.dev.asym p.val ∧
      (t.dev.ptu p.val).syncTimes = some (m.time + m.corr + w.corr, (w.t2 : Int)) ∧ (t.dev.ptu p.val).syncWait = none)))

/-- ptpAnnounceReceived keeps an Announce where none or the same parent's is held; ptpAnnounceTransmit of a granted MASTER
with an awake transmitter sends the instance's data with the next sequenceId, and with a sleeping one wakes it for a
changed Announce, which then waits; ptpReceiptTimeout of a slave with an awake receiver returns the port to LISTENING
and, for Announce, forgets it, with PTP_PIN_LOST where the role is pinned. ptpSyncTransmit of a MASTER with an awake
transmitter sends a one-step Sync with seconds and nanoseconds of t_TX in the timestamp and its fraction in the
correction, or a two-step Sync and keeps t_TX for ptpFollowUpTransmit, which sends it with the same sequenceId; in LPI
the Sync waits for the wake, and wakeGuardEnd sends it (log entry 59). The model's readings: both receipt time-outs
lead to LISTENING and portNumber is the index plus one (log entry 53), what is granted (log entry 54). (R70, R180,
R184, R187, R189) -/
def Obligations.AnnounceAndSyncMaster : Prop :=
  (∀ (s : State) (p : PortId) (m : PtpMsg) (a : AnnounceData) (i : Nat),
  s.dev.sys.cpStopped = false → s.dev.clockPort p.val = true →
  ((s.dev.ptu p.val).announce = none ∨ s.dev.fromParent p.val m = true → Completes (.ptpAnnounceReceived p m a) s (fun t =>
    (t.dev.ptu p.val).announce = some (m, a) ∧ (t.dev.ptu p.val).annLate = false ∧
    t.dev.flag F.PRT_PTU_STAT_PIN_LOST p.val = false)) ∧
  (s.dev.instOf p.val = some i → s.dev.ptpState p.val = 6 → s.dev.granted p.val 0xB = true → (s.dev.ptu p.val).due = [] →
    (s.dev.txSleep p.val ≤ 1 → Completes (.ptpAnnounceTransmit p) s (fun t =>
      t.dev.sent.getLast? = some (.announce p.val ⟨s.dev.clockId, p.val + 1, (s.dev.ptu p.val).seqAnn, 0, 0, false⟩ (s.dev.announceOf i)) ∧
      (t.dev.ptu p.val).seqAnn = ((s.dev.ptu p.val).seqAnn + 1) % 65536 ∧
      (t.dev.ptu p.val).annSent = some (s.dev.announceOf i))) ∧
    (2 ≤ s.dev.txSleep p.val → s.dev.txSleep p.val ≤ 5 → (s.dev.ptu p.val).annSent ≠ some (s.dev.announceOf i) →
      Completes (.ptpAnnounceTransmit p) s (fun t => (t.dev.ptu p.val).due = [.announce] ∧ t.dev.txSleep p.val = 4))) ∧
  (s.dev.rxSleep p.val ≠ 2 → s.dev.rxSleep p.val ≠ 3 → s.dev.isSlave p.val = true →
    Completes (.ptpReceiptTimeout p .sync) s (fun t => t.dev.ptpState p.val = 4 ∧ (t.dev.ptu p.val).syncLate = true) ∧
    Completes (.ptpReceiptTimeout p .announce) s (fun t => t.dev.ptpState p.val = 4 ∧ (t.dev.ptu p.val).announce = none ∧
      (s.dev.get F.PRT_PTP_CFG_ROLE_PIN p.val = 3 → t.dev.alarmOn .ptpPinLost = true)))) ∧
  (∀ (s : State) (p : PortId) (c : Capture) (T : Ticks) (l : LatMeas), s.dev.sys.cpStopped = false →
  s.dev.clockPort p.val = true →
  (s.dev.txSleep p.val ≤ 1 → T = s.dev.tTx p.val c → s.dev.ptpState p.val = 6 → s.dev.granted p.val 0 = true →
    (s.dev.flag F.PRT_PTP_CFG_ONE_STEP p.val = true → Completes (.ptpSyncTransmit p c) s (fun t =>
      t.dev.sent.getLast? = some (.ptp p.val 0
        ⟨s.dev.clockId, p.val + 1, (s.dev.ptu p.val).seqSync, (T % 65536 : Nat), T / 65536 * 65536 % (2 ^ 48 * secUnit), false⟩) ∧
      (t.dev.ptu p.val).seqSync = ((s.dev.ptu p.val).seqSync + 1) % 65536)) ∧
    (s.dev.flag F.PRT_PTP_CFG_ONE_STEP p.val = false → Completes (.ptpSyncTransmit p c) s (fun t =>
      (t.dev.ptu p.val).followTx = some ((s.dev.ptu p.val).seqSync, T) ∧
      ∃ m, t.dev.sent.getLast? = some (.ptp p.val 0 m) ∧ m.seq = (s.dev.ptu p.val).seqSync ∧ m.twoStep = true))) ∧
  (∀ (q : Nat), s.dev.txSleep p.val ≤ 1 → (s.dev.ptu p.val).followTx = some (q, T) → Completes (.ptpFollowUpTransmit p) s (fun t =>
    (t.dev.ptu p.val).followTx = none ∧ t.dev.sent.getLast? = some (.ptp p.val 8
      ⟨s.dev.clockId, p.val + 1, q, (T % 65536 : Nat), T / 65536 * 65536, false⟩))) ∧
  (s.dev.txSleep p.val = 5 → s.dev.ptpState p.val = 6 → s.dev.granted p.val 0 = true → Completes (.ptpSyncTransmit p c) s (fun t =>
    (t.dev.ptu p.val).due = (s.dev.ptu p.val).due ++ [.sync c] ∧ t.dev.txSleep p.val = 4)) ∧
  (s.dev.txSleep p.val = 4 → (s.dev.port p.val).deepens = false → l.agree = true → (s.dev.ptu p.val).due = [.sync c] →
    Completes (.wakeGuardEnd p l) s (fun t => (t.dev.ptu p.val).due = [] ∧ t.dev.txSleep p.val = 0 ∧
      (t.dev.ptu p.val).seqSync = ((s.dev.ptu p.val).seqSync + 1) % 65536 ∧
      ∃ m, Emit.ptp p.val 0 m ∈ t.dev.sent ∧ m.seq = (s.dev.ptu p.val).seqSync)))

/-- delayReqReceived by a MASTER is answered with t_RX, its fraction subtracted from the correction. delayRespReceived
takes half of the sum of both differences as the first mean delay. delayReqTransmit with an awake transmitter sends
Delay_Req or Pdelay_Req and keeps sequenceId and t_TX; in LPI the request waits and the direction wakes; delayRefresh
sends at once with an awake transmitter, and over a sleeping direction wakes it with the request waiting.
pdelayReqReceived is answered one-step with the residence time in the correction, or two-step with Pdelay_Resp and its
Follow_Up; pdelayRespReceived computes the mean delay from its four times, two-step after the Follow_Up. The model's
own: halving is divFree, exact where it comes out even and a free value else (log entry 8); portNumber is the index
plus one (log entry 53), what is granted (log entry 54), the layout of the answers (log entry 138), and that they wait
for the wake guard (log entry 59). (R179, R187, R189, R197) -/
def Obligations.DelayMechanisms : Prop :=
  (∀ (s : State) (p : PortId) (m : PtpMsg) (c : Capture) (T t3 : Ticks) (a b : Int),
  s.dev.sys.cpStopped = false → s.dev.clockPort p.val = true →
  (T = s.dev.tRx p.val c → s.dev.txSleep p.val ≤ 1 → s.dev.ptpState p.val = 6 → s.dev.peerDelay p.val = false → s.dev.granted p.val 9 = true →
    Completes (.delayReqReceived p m c) s (fun t => t.dev.sent.getLast? = some (.ptp p.val 9
      ⟨s.dev.clockId, p.val + 1, m.seq, m.corr - (T % 65536 : Nat), T / 65536 * 65536, false⟩))) ∧
  ((s.dev.ptu p.val).req = some (m.seq, t3) → (s.dev.ptu p.val).syncTimes = some (a, b) → s.dev.peerDelay p.val = false →
    s.dev.isSlave p.val = true → (s.dev.ptu p.val).delays = [] → Completes (.delayRespReceived p m) s (fun t =>
      (t.dev.ptu p.val).delays = [divFree ((b - a) + ((m.time : Int) - m.corr - t3)) 2] ∧ (t.dev.ptu p.val).req = none)) ∧
  (s.dev.asksDelay p.val = true → s.dev.txSleep p.val = 5 → Completes (.delayReqTransmit p c) s (fun t =>
    (t.dev.ptu p.val).due = (s.dev.ptu p.val).due ++ [.delayReq c] ∧ t.dev.txSleep p.val = 4)) ∧
  (s.dev.asksDelay p.val = true → s.dev.txSleep p.val ≤ 1 → Completes (.delayReqTransmit p c) s (fun t =>
    (t.dev.ptu p.val).req = some ((s.dev.ptu p.val).seqReq, s.dev.tTx p.val c) ∧ t.dev.sent.getLast? = some (.ptp p.val
      (if s.dev.peerDelay p.val then 2 else 1) ⟨s.dev.clockId, p.val + 1, (s.dev.ptu p.val).seqReq, 0, 0, false⟩))) ∧
  (s.dev.isSlave p.val = true → asleep (s.dev.txSleep p.val) = true ∨ asleep (s.dev.rxSleep p.val) = true →
    (s.dev.txSleep p.val ≤ 1 → Completes (.delayRefresh p c) s (fun t =>
      (t.dev.ptu p.val).req = some ((s.dev.ptu p.val).seqReq, s.dev.tTx p.val c) ∧ t.dev.txSleep p.val = 0)) ∧
    (2 ≤ s.dev.txSleep p.val → s.dev.txSleep p.val ≤ 5 → Completes (.delayRefresh p c) s (fun t =>
      (t.dev.ptu p.val).due = (s.dev.ptu p.val).due ++ [.delayReq c] ∧ t.dev.txSleep p.val = 4)))) ∧
  (∀ (s : State) (p : PortId) (m : PtpMsg) (c k : Capture) (T U t1 : Ticks) (x : Int),
  s.dev.sys.cpStopped = false → s.dev.ptpPort p.val = true → T = s.dev.tRx p.val c →
  (U = s.dev.tTx p.val k → s.dev.txSleep p.val ≤ 1 → s.dev.peerDelay p.val = true →
    (s.dev.flag F.PRT_PTP_CFG_ONE_STEP p.val = true → Completes (.pdelayReqReceived p m c k) s (fun t =>
      t.dev.sent.getLast? = some (.ptp p.val 3 ⟨s.dev.clockId, p.val + 1, m.seq, m.corr + ((U : Int) - T), 0, false⟩))) ∧
    (s.dev.flag F.PRT_PTP_CFG_ONE_STEP p.val = false → Completes (.pdelayReqReceived p m c k) s (fun t =>
      t.dev.sent.getLast? = some (.ptp p.val 0xA
        ⟨s.dev.clockId, p.val + 1, m.seq, m.corr + (U % 65536 : Nat), U / 65536 * 65536, false⟩)))) ∧
  ((s.dev.ptu p.val).req = some (m.seq, t1) →
    (s.dev.flag F.TB_HB_STAT_FROZEN = false → m.twoStep = false → (s.dev.ptu p.val).delays = [] →
      Completes (.pdelayRespReceived p (.resp m c)) s (fun t => (t.dev.ptu p.val).req = none ∧
        (t.dev.ptu p.val).delays = [divFree ((T : Int) - t1 - m.corr) 2])) ∧
    (s.dev.flag F.TB_HB_STAT_FROZEN = false → m.twoStep = true → Completes (.pdelayRespReceived p (.resp m c)) s (fun t =>
      (t.dev.ptu p.val).presp = some (m.seq, m.time - m.corr, T) ∧ (t.dev.ptu p.val).req = some (m.seq, t1))) ∧
    ((s.dev.ptu p.val).presp = some (m.seq, x, U) → (s.dev.ptu p.val).delays = [] →
      Completes (.pdelayRespReceived p (.followUp m)) s (fun t => (t.dev.ptu p.val).req = none ∧ (t.dev.ptu p.val).presp = none ∧
        (t.dev.ptu p.val).delays = [divFree ((U : Int) - t1 - (m.time + m.corr - x)) 2]))))

/-- bmcaRun puts a port of a clock instance pinned to MASTER or PASSIVE in that state; an unpinned single port with a
better Announce becomes UNCALIBRATED, in PRE_MASTER (5) without one MASTER, or LISTENING where the instance is
slaveOnly. The order of the comparison and slaveOnly are the model's (log entry 53). ptpCfgWrite takes INSTANCE and
ROLE_PIN, clears PIN_LOST and disqualifies the candidate where INSTANCE changes; a second SLAVE pin in one instance is
refused with CFG_REJ and nothing else. ptpSignalingReceived in the telecom profile with a request TLV grants the
message type and answers; with a cancel TLV it ends the grant. The types and layouts of TLVs are PRESUMED (log entry
50), and how a grant works is the model's reading (log entry 54). (R180, R181, R183, R198) -/
def Obligations.PtpDecisions : Prop :=
  (∀ (s : State) (i : Fin 4) (p : Nat), s.dev.sys.cpStopped = false →
  (s.dev.inst i.val).made = true → (s.dev.inst i.val).kind = 0 → p ∈ s.dev.portsOfInst i.val → s.dev.ptpState p ≠ 1 → s.dev.ptpState p ≠ 3 →
  (s.dev.get F.PRT_PTP_CFG_ROLE_PIN p = 1 → Completes (.bmcaRun i) s (fun t => t.dev.ptpState p = 6)) ∧
  (s.dev.get F.PRT_PTP_CFG_ROLE_PIN p = 2 → Completes (.bmcaRun i) s (fun t => t.dev.ptpState p = 7)) ∧
  (s.dev.get F.PRT_PTP_CFG_ROLE_PIN p = 0 → s.dev.portsOfInst i.val = [p] →
    (∀ (m : PtpMsg) (a : AnnounceData), (s.dev.ptu p).announce = some (m, a) → s.dev.flag F.PRT_PTP_CFG_MASTER_ONLY p = false →
      lexLess (s.dev.portKey p (m, a)) (s.dev.ownKey i.val) = true → s.dev.isSlave p = false →
      Completes (.bmcaRun i) s (fun t => t.dev.ptpState p = 8)) ∧
    ((s.dev.ptu p).announce = none → s.dev.ptpState p = 5 →
      Completes (.bmcaRun i) s (fun t => t.dev.ptpState p = if s.dev.slaveOnly i.val then 4 else 6)))) ∧
  (∀ (s : State) (p : PortId) (v : Word), s.dev.fastReach = true → s.dev.hasPort p.val = true →
  (bitsOf v.toNat 6 2 ≠ 3 → Completes (.ptpCfgWrite p v) s (fun t =>
    t.dev.get F.PRT_PTP_CFG_INSTANCE p.val = bitsOf v.toNat 0 3 ∧
    t.dev.get F.PRT_PTP_CFG_ROLE_PIN p.val = bitsOf v.toNat 6 2 ∧
    t.dev.flag F.PRT_PTU_STAT_PIN_LOST p.val = false ∧
    (bitsOf v.toNat 0 3 ≠ s.dev.get F.PRT_PTP_CFG_INSTANCE p.val →
      t.dev.flag F.RSEL_CAND_STAT_QUALIFIED (4 + p.val) = false))) ∧
  (∀ q ∈ s.dev.portList, q ≠ p.val → s.dev.get F.PRT_PTP_CFG_ROLE_PIN q = 3 →
    bitsOf v.toNat 6 2 = 3 →
    bitsOf v.toNat 0 3 = s.dev.get F.PRT_PTP_CFG_INSTANCE q →
    s.dev.get F.PRT_PTP_CFG_INSTANCE q < 4 →
    Completes (.ptpCfgWrite p v) s (fun t => t.dev.flag F.PRT_PTU_STAT_CFG_REJ p.val = true ∧ Frame [] [.PRT_PTU_STAT] s t))) ∧
  (∀ (s : State) (p : PortId) (m : PtpMsg) (tl b : List Byte),
  s.dev.sys.cpStopped = false → s.dev.clockPort p.val = true → s.dev.profileOf p.val = 4 →
  (tlvsOf tl.length tl = [(0x0004, b)] → s.dev.txSleep p.val ≤ 1 → Completes (.ptpSignalingReceived p m tl) s (fun t =>
    byteAt b 0 / 16 ∈ (t.dev.ptu p.val).grants ∧
    t.dev.sent.getLast? = some (.ptp p.val 0xC ⟨s.dev.clockId, p.val + 1, m.seq, 0, 0, false⟩))) ∧
  (tlvsOf tl.length tl = [(0x0006, b)] → Completes (.ptpSignalingReceived p m tl) s (fun t =>
    byteAt b 0 / 16 ∉ (t.dev.ptu p.val).grants)))

/-- With PRT_REV_STAT.STEP in the state that each needs: revStart on a locked selected PORT_L1 SLAVE begins step 1 with no
averages; revMeasurementDone appends the average of the samples and goes on; revFinish ends step 4 with step 6 (DONE);
revApply writes ASYM of the result to PRT_ASYM_REF and the mean delay, in whole ns within its range, to D_REF;
revAbort and revStepTimeout in step 2 fail with FAIL 2 and 1; revStepTimeout in step 4 leads to DONE. Each command
answers RESULT 1. The averages and D_REF are rounded by divFree, the model's choice (log entry 8). (R192, R193) -/
def Obligations.ReversalProcedure : Prop :=
  ∀ (s : State) (p : PortId) (v : Word) (k : Nat), s.dev.get F.PRT_REV_STAT_STEP p.val = k →
  (s.dev.fastReach = true → s.dev.hasPort p.val = true →
    (k = 0 ∨ k = 6 ∨ k = 7 → s.dev.kindOf (4 + p.val) = .portL1 → s.dev.ptpState p.val = 9 → s.dev.get F.RSEL_SEL_SELECTED = 4 + p.val →
      s.dev.mir.state = .locked → Completes (.revStart p v) s (fun t => t.dev.get F.PRT_REV_STAT_STEP p.val = 1 ∧
        t.dev.get F.PRT_REV_CMD_RESULT p.val = 1 ∧ (t.dev.ptu p.val).revO = [])) ∧
    (k = 4 → Completes (.revFinish p) s (fun t => t.dev.get F.PRT_REV_STAT_STEP p.val = 6 ∧ t.dev.get F.PRT_REV_CMD_RESULT p.val = 1)) ∧
    (k = 6 → Completes (.revApply p) s (fun t => t.dev.get F.PRT_ASYM_REF_ASYM_REF p.val = s.dev.get F.PRT_REV_RESULT_ASYM p.val ∧
      t.dev.get F.PRT_ASYM_DREF_D_REF p.val = clampNat 0 1000000 (divFree (s.dev.ptu p.val).mean 65536).toNat ∧
      t.dev.get F.PRT_REV_CMD_RESULT p.val = 1)) ∧
    (1 ≤ k → k ≤ 6 → Completes (.revAbort p) s (fun t => t.dev.get F.PRT_REV_STAT_STEP p.val = 7 ∧
      t.dev.get F.PRT_REV_STAT_FAIL p.val = 2 ∧ t.dev.get F.PRT_REV_CMD_RESULT p.val = 1))) ∧
  (k = 1 ∨ k = 3 ∨ k = 5 → (s.dev.ptu p.val).revN ≠ 0 → Completes (.revMeasurementDone p) s (fun t =>
    t.dev.get F.PRT_REV_STAT_STEP p.val = k + 1 ∧
    (t.dev.ptu p.val).revO = (s.dev.ptu p.val).revO ++ [divFree (s.dev.ptu p.val).revSum (s.dev.ptu p.val).revN])) ∧
  (k = 2 → Completes (.revStepTimeout p) s (fun t => t.dev.get F.PRT_REV_STAT_STEP p.val = 7 ∧ t.dev.get F.PRT_REV_STAT_FAIL p.val = 1)) ∧
  (k = 4 → Completes (.revStepTimeout p) s (fun t => t.dev.get F.PRT_REV_STAT_STEP p.val = 6))

/-- frameReceived on a port with its link up: a trapped frame is stored for the CP with no destination; a PTP message in
transit goes to the ports of its instance in class 7; an ordinary one to a reserved address, rejected by the VLAN
rules or of an invalid VLAN has no destination; any other is stored for the destinations of VLAN, address and
redirection with its VLAN ID and class. frameFcsVerdict: a good FCS of a frame within its length links the waiting
copy and lets linked ones go; a bad one takes every copy not in transmission off the queues. (R185, R226 to R229,
R231, R247, R248, R263) -/
def Obligations.FrameForwarding : Prop :=
  (∀ (s : State) (p : PortId) (f : RxFrame) (x : Parsed) (n vid pcp : Nat),
  s.dev.linkUp p.val = true → s.dev.rxNow p.val = none → x = parseFrame f.bytes → n = s.dev.sw.nextFid →
  vid = (if x.nTags ≠ 0 ∧ x.vid ≠ 0 then x.vid else s.dev.get F.SW_PORT_CFG_PVID p.val) →
  pcp = (if x.nTags ≠ 0 then x.pcp else s.dev.get F.SW_PORT_CFG_DEF_PCP p.val) →
  (s.dev.trapOf p.val f.bytes = .trapped → Completes (.frameReceived p f) s (fun t => t.dev.rxNow p.val = some n ∧
    t.dev.sw.nextFid = n + 1 ∧ t.dev.sw.queues = s.dev.sw.queues ∧ ∃ g, t.dev.frame n = some g ∧ g.dests = [] ∧ g.bytes = f.bytes)) ∧
  (∀ (i : Nat), s.dev.trapOf p.val f.bytes = .transit i → Completes (.frameReceived p f) s (fun t => t.dev.rxNow p.val = some n ∧
    ∃ g, t.dev.frame n = some g ∧ g.dests = s.dev.transitDests p.val i ∧ g.cls = 7 ∧ g.transit = true)) ∧
  (s.dev.trapOf p.val f.bytes = .ordinary →
    (x.da / 16 = 0x0180C200000 ∨ s.dev.vlanRejects p.val x = true ∨ s.dev.vlanValid vid = false →
      Completes (.frameReceived p f) s (fun t => t.dev.rxNow p.val = some n ∧ t.dev.sw.queues = s.dev.sw.queues ∧
        ∃ g, t.dev.frame n = some g ∧ g.dests = [])) ∧
    (∀ (a : StreamAct), x.da / 16 ≠ 0x0180C200000 → s.dev.vlanRejects p.val x = false → s.dev.vlanValid vid = true →
      s.dev.flag F.SW_PORT_CFG_INGRESS_FILTER p.val = false → s.dev.get F.SW_PORT_CFG_STATE p.val = 3 →
      s.dev.streamLookup x p.val vid pcp = a → a.drop = false → a.maxSdu = 0 → a.recov = none → a.gate = none → a.meter = none →
      a.seqgen = none → s.dev.destsOf p.val vid x.da a.redirect ≠ [] → Completes (.frameReceived p f) s (fun t =>
        t.dev.rxNow p.val = some n ∧ ∃ g, t.dev.frame n = some g ∧ g.dests = s.dev.destsOf p.val vid x.da a.redirect ∧
        g.vid = vid ∧ g.cls = a.cls.getD (bitsOf (s.dev.get F.SW_PCP_MAP_MAP p.val) (3 * pcp) 3))))) ∧
  (∀ (s : State) (p : PortId) (v : RxVerdict) (n e q : Nat) (f : Stored) (l : Link),
  s.dev.rxNow p.val = some n → s.dev.frame n = some f → f.copies = [] →
  (v.fcsOk = true → v.uncorrectable = false → f.bytes.length + v.tail.length ≤ f.maxFrame →
    f.bytes.length + v.tail.length ≤ f.base →
    (f.waiting = [(e, q, l)] → s.dev.linkUp e = true → s.dev.txSleep e = 0 → Completes (.frameFcsVerdict p v) s (fun t =>
      t.dev.rxNow p.val = none ∧ t.dev.queue e q =
        (s.dev.queue e q).map (fun k => if k.fid = n then { k with waits := false } else k) ++ [l])) ∧
    (f.waiting = [] → Completes (.frameFcsVerdict p v) s (fun t => t.dev.rxNow p.val = none ∧ t.dev.queue e q =
      (s.dev.queue e q).map (fun k => if k.fid = n then { k with waits := false } else k)))) ∧
  (v.fcsOk = false → Completes (.frameFcsVerdict p v) s (fun t => t.dev.rxNow p.val = none ∧
    ∀ k ∈ t.dev.sw.queues, ∀ x ∈ k.2, x.fid ≠ n)))

/-- frameCommit on an awake free port: with no bounded head ready and the highest class in use strict-priority, it takes
the head of that queue into transmission; a bounded head is taken where t_TX keeps its deadline and is discarded where
it does not. frameTransmitDone emits the bytes (looped back on a port in loop), frees the frame with its last
reference and keeps it with one less else; a frame cut in transmission keeps its cells. (R245, R247, R278, R290) -/
def Obligations.Scheduler : Prop :=
  ∀ (s : State) (p : PortId) (c : Capture) (q : Nat) (l : Link) (rest : List Link),
  (s.dev.linkUp p.val = true → s.dev.txNow p.val = none → s.dev.txSleep p.val = 0 → q < 8 → s.dev.queue p.val q = l :: rest →
    (∀ m < 4, s.dev.flag F.SW_MIR_CFG_EN m = false) → s.dev.headReady p.val q = true →
    (∀ (f : Stored), s.dev.frame l.fid = some f → f.own = .none) →
    (s.dev.bounded p.val q = false → (∀ k < 8, s.dev.bounded p.val k = true → s.dev.headReady p.val k = false) →
      s.dev.flag F.PRT_Q_CFG_SP (qKey p.val q) = true → (∀ k < 8, q < k → s.dev.queue p.val k = []) → l.deadline = none →
      Completes (.frameCommit p c) s (fun t => (∃ x, t.dev.txNow p.val = some x ∧ x.link = l ∧ x.cls = q) ∧ t.dev.queue p.val q = rest)) ∧
    (∀ (z : Int), s.dev.bounded p.val q = true → (∀ k < 8, q < k → s.dev.queue p.val k = []) → l.deadline = some z →
      Completes (.frameCommit p c) s (fun t =>
        (toQ (s.dev.tTx p.val c) ≤ z → (∃ x, t.dev.txNow p.val = some x ∧ x.link = l ∧ x.cls = q) ∧ t.dev.queue p.val q = rest) ∧
        (z < toQ (s.dev.tTx p.val c) → rest = [] → (∀ k < 8, k ≠ q → s.dev.queue p.val k = []) →
          t.dev.txNow p.val = none ∧ t.dev.queue p.val q = [])))) ∧
  (∀ (x : TxNow) (f : Stored), s.dev.txNow p.val = some x → s.dev.frame x.link.fid = some f → f.done = true ∨ x.cut.isSome = true →
    Completes (.frameTransmitDone p) s (fun t => t.dev.txNow p.val = none ∧
      (if (s.dev.port p.val).inLoop then Emit.looped p.val (s.dev.outBytes p.val x f) else Emit.frame p.val (s.dev.outBytes p.val x f))
        ∈ t.dev.sent ∧
      (x.cut.isSome = true → t.dev.frame x.link.fid = some f) ∧
      (x.cut = none → 2 ≤ f.refs → t.dev.frame x.link.fid = some { f with refs := f.refs - 1 }) ∧
      (x.cut = none → f.refs ≤ 1 → t.dev.frame x.link.fid = none)))

/-- ageingSweep clears HIT and AGE of a dynamic entry that was hit, ages another by one and removes it at AGE 3. fdbLookup
answers FOUND (1) with the entry's words or NOT_FOUND (2); fdbDelete removes the entry or answers 2; fdbInsert writes
the entry in the way found or answers FULL (3); fdbReadIdx shows the words of its index; fdbFlush removes exactly the
entries that match and answers RUNNING (7) until fdbFlushDone; fdbBadOp answers BAD_OP (5). While a flush runs every
one of these commands, another flush among them, answers BUSY (4) and changes SW_FDB_CMD alone. That the entries go
when the flush is taken, and RUNNING till its end, is the model's reading (log entry 69). (R234 to R236) -/
def Obligations.ForwardingDatabase : Prop :=
  ∀ (s : State) (i : Nat),
  (s.dev.fastOn = true → s.dev.flag F.SW_CFG_AGE_EN = true → s.dev.fdbEntries.Nodup → i ∈ s.dev.fdbEntries →
    s.dev.flag F.FDB_W2_STATIC i = false →
    (s.dev.flag F.FDB_W2_HIT i = true → Completes .ageingSweep s (fun t => t.dev.fdbValid i = true ∧
      t.dev.flag F.FDB_W2_HIT i = false ∧ t.dev.get F.FDB_W2_AGE i = 0)) ∧
    (s.dev.flag F.FDB_W2_HIT i = false → s.dev.get F.FDB_W2_AGE i < 3 → Completes .ageingSweep s (fun t =>
      t.dev.fdbValid i = true ∧ t.dev.get F.FDB_W2_AGE i = s.dev.get F.FDB_W2_AGE i + 1)) ∧
    (s.dev.flag F.FDB_W2_HIT i = false → s.dev.get F.FDB_W2_AGE i = 3 → Completes .ageingSweep s (fun t => t.dev.fdbValid i = false))) ∧
  (s.dev.fastReach = true → s.dev.sw.flushing = false →
    (s.dev.fdbFind s.dev.cmdVid s.dev.cmdMac = some i →
      Completes .fdbLookup s (fun t => t.dev.get F.SW_FDB_CMD_RESULT = 1 ∧ t.dev.word .SW_FDB_DATA 0 = s.dev.word .FDB_W2 i ∧
        t.dev.word .SW_FDB_MASK 0 = s.dev.word .FDB_W3 i) ∧
      Completes .fdbDelete s (fun t => t.dev.get F.SW_FDB_CMD_RESULT = 1 ∧ t.dev.fdbValid i = false)) ∧
    (s.dev.fdbFind s.dev.cmdVid s.dev.cmdMac = none →
      Completes .fdbLookup s (fun t => t.dev.get F.SW_FDB_CMD_RESULT = 2 ∧ Frame [] [.SW_FDB_CMD] s t) ∧
      Completes .fdbDelete s (fun t => t.dev.get F.SW_FDB_CMD_RESULT = 2 ∧ Frame [] [.SW_FDB_CMD] s t)) ∧
    (s.dev.insertWay s.dev.cmdVid s.dev.cmdMac = some i → Completes .fdbInsert s (fun t => t.dev.get F.SW_FDB_CMD_RESULT = 1 ∧
      t.dev.fdbMac i = s.dev.cmdMac ∧ t.dev.get F.FDB_W1_VID i = s.dev.cmdVid ∧ t.dev.fdbValid i = true ∧
      t.dev.get F.FDB_W2_PORT i = s.dev.get F.SW_FDB_DATA_W2 % 32)) ∧
    (s.dev.insertWay s.dev.cmdVid s.dev.cmdMac = none → Completes .fdbInsert s (fun t => t.dev.get F.SW_FDB_CMD_RESULT = 3)) ∧
    (∀ (k : Fin 262144), Completes (.fdbReadIdx k) s (fun t => t.dev.word .SW_FDB_KEY_LO 0 = s.dev.word .FDB_W0 k.val ∧
      t.dev.word .SW_FDB_KEY_HI 0 = s.dev.word .FDB_W1 k.val ∧ t.dev.word .SW_FDB_DATA 0 = s.dev.word .FDB_W2 k.val ∧
      t.dev.get F.SW_FDB_CMD_INDEX = k.val ∧
      t.dev.get F.SW_FDB_CMD_RESULT = (if s.dev.flag F.FDB_W2_RETIRED k.val then 6 else 1))) ∧
    (∀ (a b c : Bool), i ∈ s.dev.fdbEntries → Completes (.fdbFlush a b c) s (fun t => t.dev.get F.SW_FDB_CMD_RESULT = 7 ∧
      t.dev.sw.flushing = true ∧ (s.dev.flushMatch a b c i = true → t.dev.fdbValid i = false) ∧
      (s.dev.flushMatch a b c i = false → t.dev.word .FDB_W2 i = s.dev.word .FDB_W2 i))) ∧
    (∀ (op : Fin 8), 5 ≤ op.val → Completes (.fdbBadOp op) s (fun t => t.dev.get F.SW_FDB_CMD_RESULT = 5 ∧ Frame [] [.SW_FDB_CMD] s t))) ∧
  (s.dev.sw.flushing = true → Completes .fdbFlushDone s (fun t => t.dev.get F.SW_FDB_CMD_RESULT = 1 ∧ t.dev.sw.flushing = false)) ∧
  (s.dev.fastReach = true → s.dev.sw.flushing = true → ∀ (k : Fin 262144) (x y z : Bool) (op : Fin 8),
    ∀ c ∈ [Instr.fdbLookup, .fdbInsert, .fdbDelete, .fdbReadIdx k, .fdbFlush x y z, .fdbBadOp op], Completes c s (fun t => t.dev.get F.SW_FDB_CMD_RESULT = 4 ∧ Frame [] [.SW_FDB_CMD] s t))

/-- cellReadError uncorrectable in the frame in transmission marks it bad and dooms the cell. listError uncorrectable in a
queue cuts the queue at its place, in the frame in transmission cuts that frame, and retires the word. tableEntryError
uncorrectable retires the FDB, VLAN or stream entry with its alarm. Corrected errors change only the reports.
auditPass sets the reference count of a frame to its holders and counts the pass; a sum of cells other than the
buffer's sets MISMATCH with its alarm. (R253, R254, R257, R258) -/
def Obligations.SwitchMemoryErrors : Prop :=
  ∀ (s : State) (p : PortId) (q : ClassId) (cell : Fin 294912) (i : Fin 262144) (n : Nat)
    (b : Bool) (fi : AuditFinds),
  (∀ (x : TxNow) (f : Stored), s.dev.txNow p.val = some x → s.dev.frame x.link.fid = some f → cell.val ∈ f.cells →
    Completes (.cellReadError p ⟨cell, .uncorrectable⟩) s (fun t =>
      (∃ y, t.dev.txNow p.val = some y ∧ y.link = x.link ∧ y.bad = true) ∧ cell.val ∈ t.dev.sw.doomed ∧
      t.dev.sw.queues = s.dev.sw.queues)) ∧
  (n < (s.dev.queue p.val q.val).length → Completes (.listError p (.queued q n) b .uncorrectable) s (fun t =>
    t.dev.queue p.val q.val = (s.dev.queue p.val q.val).take n ∧ t.dev.sw.badWords = s.dev.sw.badWords + 1 ∧
    latched t.dev .resourceRetired = true)) ∧
  (∀ (x : TxNow), s.dev.txNow p.val = some x → x.cut = none → Completes (.listError p (.sending n) b .uncorrectable) s (fun t =>
    t.dev.txNow p.val = some { x with cut := some n } ∧ t.dev.sw.badWords = s.dev.sw.badWords + 1 ∧
    latched t.dev .resourceRetired = true)) ∧
  (Completes (.cellReadError p ⟨cell, .corrected⟩) s (fun t => FrameReported [] [] s t)) ∧
  (∀ (w : ListPlace), Completes (.listError p w b .corrected) s (fun t => FrameReported [] [] s t)) ∧
  (∀ (w : TableId), Completes (.tableEntryError w ⟨i, .corrected⟩) s (fun t => FrameReported [] [] s t)) ∧
  (s.dev.fastOn = true →
    (s.dev.fdbRetired i.val = false → Completes (.tableEntryError .fdb ⟨i, .uncorrectable⟩) s (fun t => t.dev.fdbRetired i.val = true ∧
      t.dev.fdbValid i.val = false ∧ latched t.dev .tblEntryRetired = true)) ∧
    (i.val < 4096 → (0x09, i.val) ∉ s.dev.sw.badTbl → Completes (.tableEntryError .vlan ⟨i, .uncorrectable⟩) s (fun t =>
      t.dev.flag F.VLAN_W3_VALID i.val = false ∧ (0x09, i.val) ∈ t.dev.sw.badTbl ∧ latched t.dev .tblEntryRetired = true)) ∧
    (i.val < 16384 → (0x0A, i.val) ∉ s.dev.sw.badTbl → Completes (.tableEntryError .stream ⟨i, .uncorrectable⟩) s (fun t =>
      (0x0A, i.val) ∈ t.dev.sw.badTbl ∧ latched t.dev .tblEntryRetired = true)) ∧
    (fi.crossed = [] → (∀ (f : Stored), s.dev.frame n = some f → 0 < s.dev.holders n → Completes (.auditPass fi) s (fun t =>
        t.dev.sw.passes = s.dev.sw.passes + 1 ∧ ∃ g, t.dev.frame n = some g ∧ g.refs = s.dev.holders n ∧ g.unreached = 0)) ∧
      (fi.sum ≠ totalCells → Completes (.auditPass fi) s (fun t => t.dev.flag F.SW_AUDIT_STAT_MISMATCH = true ∧
        latched t.dev .auditMismatch = true))))

/-- recoveryTimeout sets TAKE_ANY with an empty history; holdRelease delivers the one held frame and moves RELEASED to its
number where it is ahead; recoveryCfgWrite takes ALG, RESEQ, POP_RTAG, TIMEOUT (at least 1) and HOLD_NS, with a
restart where ALG changes; meterCfgWrite takes CIR, CBS and XBS with the buckets refilled to now, or set full to the
new burst size. (R267, R271, R272, R294) -/
def Obligations.RecoveryAndMeters : Prop :=
  ∀ (s : State) (i : Fin 4096) (m : Fin 8192) (v : Word) (h : Hold),
  (s.dev.fastOn = true → Completes (.recoveryTimeout i) s (fun t => t.dev.flag F.RECOV_W3_TAKE_ANY i.val = true ∧ t.dev.history i.val = 0)) ∧
  (s.dev.sw.holds = [h] → h.inst = i.val → h.seq < 65536 → Completes (.holdRelease i) s (fun t =>
    t.dev.sw.holds = [] ∧ t.dev.get F.RECOV_W4_HELD i.val = 0 ∧
    t.dev.get F.RECOV_W4_RELEASED i.val = (if s.dev.beyond i.val h ≤ 0 then s.dev.get F.RECOV_W4_RELEASED i.val else h.seq))) ∧
  (s.dev.fastReach = true →
    Completes (.recoveryCfgWrite i 0 v) s (fun t => t.dev.get F.RECOV_W0_ALG i.val = bitsOf v.toNat 0 1 ∧
      t.dev.get F.RECOV_W0_RESEQ i.val = bitsOf v.toNat 8 1 ∧ t.dev.get F.RECOV_W0_POP_RTAG i.val = bitsOf v.toNat 9 1 ∧
      (bitsOf v.toNat 0 1 ≠ s.dev.get F.RECOV_W0_ALG i.val → t.dev.flag F.RECOV_W3_TAKE_ANY i.val = true ∧ t.dev.history i.val = 0)) ∧
    Completes (.recoveryCfgWrite i 1 v) s (fun t => t.dev.get F.RECOV_W1_TIMEOUT i.val = max 1 (bitsOf v.toNat 0 16) ∧ t.dev.sw = s.dev.sw) ∧
    Completes (.recoveryCfgWrite i 2 v) s (fun t => t.dev.get F.RECOV_W2_HOLD_NS i.val = bitsOf v.toNat 0 24 ∧ t.dev.sw = s.dev.sw) ∧
    Completes (.meterCfgWrite m 0 v) s (fun t => t.dev.get F.METER_W0_CIR m.val = bitsOf v.toNat 0 26 ∧
      tabGet t.dev.sw.meters (0, 0, 0) m.val = ((s.dev.meterNow m.val).1, (s.dev.meterNow m.val).2, s.dev.cycles)) ∧
    Completes (.meterCfgWrite m 2 v) s (fun t => t.dev.get F.METER_W2_CBS m.val = bitsOf v.toNat 0 24 ∧
      tabGet t.dev.sw.meters (0, 0, 0) m.val = (bitsOf v.toNat 0 24 * bucketByte, (s.dev.meterNow m.val).2, s.dev.cycles)) ∧
    Completes (.meterCfgWrite m 3 v) s (fun t => t.dev.get F.METER_W3_XBS m.val = bitsOf v.toNat 0 24 ∧
      tabGet t.dev.sw.meters (0, 0, 0) m.val = ((s.dev.meterNow m.val).1, bitsOf v.toNat 0 24 * bucketByte, s.dev.cycles)))

/-- gateEvent shows the states and the entry of now; gateCfgWrite of a list entry that would open two bounded classes at
once is refused with CFG_REJ, any other is taken, and so are GATE_EN and BANK_SEL; queueCfgWrite takes RES_CELLS (at
most 290,816), SP and BOUNDED where the rules allow and sets CFG_REJ where a bounded class is not allowed;
repredictionDone places the deadlines of the one bounded class anew and clears REPREDICT. (R275, R281 to R286, R289,
R291) -/
def Obligations.GatesAndQueues : Prop :=
  ∀ (s : State) (p : PortId) (q : ClassId) (b : Fin 2) (i : Fin 1024) (v : Word),
  (s.dev.fastOn = true → (s.dev.gateAt p.val s.dev.nowQ).1 < 256 → (s.dev.gateAt p.val s.dev.nowQ).2 < 1024 →
    Completes (.gateEvent p) s (fun t => t.dev.get F.PRT_GATE_STAT_STATES p.val = (s.dev.gateAt p.val s.dev.nowQ).1 ∧
      t.dev.get F.PRT_GATE_STAT_ENTRY p.val = (s.dev.gateAt p.val s.dev.nowQ).2 ∧ Frame [] [.PRT_GATE_STAT] s t)) ∧
  (s.dev.fastReach = true → s.dev.hasPort p.val = true →
    (twoIn (s.dev.boundedMask p.val) (bitsOf v.toNat 0 8) = false → Completes (.gateCfgWrite p (.entry b i 0) v) s (fun t =>
      t.dev.get F.GCL_W0_STATES ((p.val * 2 + b.val) * 1024 + i.val) = bitsOf v.toNat 0 8 ∧
      Frame [] [.GCL_W0, .PRT_GATE_STAT] s t)) ∧
    (twoIn (s.dev.boundedMask p.val) (bitsOf v.toNat 0 8) = true → Completes (.gateCfgWrite p (.entry b i 0) v) s (fun t =>
      t.dev.flag F.PRT_GATE_STAT_CFG_REJ p.val = true ∧ Frame [] [.PRT_GATE_STAT] s t)) ∧
    (s.dev.flag F.PRT_GATE_CFG_GATE_EN p.val = false ∨ bitsOf v.toNat 0 1 = 1 ∨ (s.dev.boundedOf p.val).length < 2 →
      Completes (.gateCfgWrite p .cfg v) s (fun t => t.dev.get F.PRT_GATE_CFG_GATE_EN p.val = bitsOf v.toNat 0 1 ∧
        t.dev.get F.PRT_GATE_CFG_BANK_SEL p.val = bitsOf v.toNat 1 1)) ∧
    (resRefused s.dev (s.dev.store .PRT_Q_RES (qKey p.val q.val) v) = false → Completes (.queueCfgWrite p q .res v) s (fun t =>
      t.dev.get F.PRT_Q_RES_RES_CELLS (qKey p.val q.val) = min 290816 (bitsOf v.toNat 0 19))) ∧
    (resRefused s.dev (s.dev.store .PRT_Q_CFG (qKey p.val q.val) v) = false →
      s.dev.boundedRefused (s.dev.store .PRT_Q_CFG (qKey p.val q.val) v) p.val q.val = false →
      Completes (.queueCfgWrite p q .cfg v) s (fun t => t.dev.get F.PRT_Q_CFG_SP (qKey p.val q.val) = bitsOf v.toNat 0 1 ∧
        t.dev.get F.PRT_Q_CFG_BOUNDED (qKey p.val q.val) = bitsOf v.toNat 1 1)) ∧
    (s.dev.boundedRefused (s.dev.store .PRT_Q_CFG (qKey p.val q.val) v) p.val q.val = true →
      Completes (.queueCfgWrite p q .cfg v) s (fun t => t.dev.flag F.PRT_GATE_STAT_CFG_REJ p.val = true ∧ Frame [] [.PRT_GATE_STAT] s t))) ∧
  (s.dev.flag F.PRT_GATE_STAT_REPREDICT p.val = true → s.dev.boundedOf p.val = [q.val] → Completes (.repredictionDone p) s (fun t =>
    t.dev.flag F.PRT_GATE_STAT_REPREDICT p.val = false ∧ t.dev.queue p.val q.val = (s.dev.repredictList p.val q.val
      (max (max s.dev.nowQ (s.dev.busyEnd p.val)) (s.dev.nowQ + s.dev.awakeIn p.val)) (s.dev.queue p.val q.val)).1))

/-- servoUpdate while the active timebase serves takes the registers in force, the temperatures, the selection and status
as their operations give them, a DCO word within its clamp that joins the history, the pending CLEAR_BARS and RESTART,
and the kind of the selected reference in TB_SERVO_STAT; while none serves it changes nothing, and so in a freeze in
which no role changes (the model's choice, log entry 131). ocxoOscillates with power shows OSC of that timebase;
ocxoWarmTimeout of a timebase not warm retires it with TB_RETIRED and leaves the other. (R30, R50, R53, R54, R86, R88,
R314) -/
def Obligations.ServoUpdates : Prop :=
  ∀ (s : State) (inp : ServoIn) (a t : TbId),
  (s.dev.twin.active = some a → s.dev.servoRuns = true → Completes (.servoUpdate inp) s (fun u =>
    u.dev.applied = s.dev.regs.filter (fun (e : Nat × Word) => (keyReg e.1).atUpdate) ∧
    (u.dev.tb a).temp = inp.temp ∧ (u.dev.tb a.other).temp = inp.standbyTemp ∧ u.dev.twin.active = some a ∧
    u.dev.get F.RSEL_SEL_SELECTED = (s.dev.beginUpdate inp a).servoSelect.get F.RSEL_SEL_SELECTED ∧
    u.dev.mir.state = ((s.dev.beginUpdate inp a).servoSelect.servoStatus a ((s.dev.beginUpdate inp a).servoSelect.phaseTo inp
      ((s.dev.beginUpdate inp a).servoSelect.get F.RSEL_SEL_SELECTED))).mir.state ∧
    (u.dev.tb a).dco.natAbs ≤ dcoClamp ∧ (u.dev.tb a).dcoHist.head? = some (u.dev.tb a).dco ∧
    u.dev.flag F.RSEL_CMD_CLEAR_BARS = false ∧ u.dev.flag F.TB_MODEL_CMD_RESTART t.num = false ∧
    u.dev.get F.TB_SERVO_STAT_KIND a.num = (u.dev.kindOf (u.dev.get F.RSEL_SEL_SELECTED)).num)) ∧
  (s.dev.servoRuns = false → Completes (.servoUpdate inp) s (fun u => u = s)) ∧
  (s.dev.sys.powered = true → Completes (.ocxoOscillates t) s (fun u => (u.dev.tb t).osc = true ∧
    u.dev.flag (match t with | .a => F.FIRN_OCXO_STAT_OSC_A | .b => F.FIRN_OCXO_STAT_OSC_B) = true ∧
    u.dev.tb t.other = s.dev.tb t.other ∧ u.flash = s.flash)) ∧
  (4 ≤ s.dev.stage → s.dev.stage ≠ 8 → s.dev.sys.warmRunsA = true → s.dev.sys.warmRunsB = true → (s.dev.tb t).warm = false →
    s.dev.role t ≠ 6 → s.dev.role t.other ≠ 6 → Completes (.ocxoWarmTimeout t) s (fun u => u.dev.role t = 6 ∧
      u.dev.role t.other = s.dev.role t.other ∧ (u.dev.tb t).running = false ∧ u.dev.alarmOn .tbRetired = true))

/-- fastStart with the fast domain OFF answers 1 and, where the CP and SMC images are good, leads to STARTING with every
fast register but SW_BUF_GATED at its reset word and four CP cores, else to FW_IMAGE_BAD; not OFF it answers BUSY (2).
fastDomainOn from STARTING with the fabric LPLL locked leads to ON and at stage 6 to stage 7. Outside steps 2 to 7 of
an update, fastStop with it ON leads to STOPPING with no PTP instance; else it answers 2. fastDomainOff leads to OFF
with switch, ports and PTP empty and every part and register outside the fast domain, but the listed ones, unchanged.
(R296, R297) -/
def Obligations.FastDomainStartAndStop : Prop :=
  ∀ (s : State),
  (s.dev.firnReach = true → s.dev.fast = 0 → s.onTrial = false → Completes .fastStart s (fun t =>
    t.dev.get F.PWR_FAST_CMD_RESULT = 1 ∧
    (if s.imageGood (s.dev.get F.GLB_BOOT_STAT_BUNDLE_SLOT) 3 && s.imageGood (s.dev.get F.GLB_BOOT_STAT_BUNDLE_SLOT) 2 then
      t.dev.fast = 1 ∧ t.dev.get F.PWR_STAT_CP_CORES = 4 ∧ t.dev.sys.cpStopped = false ∧
      t.dev.sys.smcStopped = false ∧ (∀ r u, r.isFast = true → r ≠ .SW_BUF_GATED → t.dev.word r u = r.resetWord u)
    else t.dev.fast = 0 ∧ t.dev.alarmOn .fwImageBad = true))) ∧
  (s.dev.firnReach = true → s.dev.fast ≠ 0 → Completes .fastStart s (fun t =>
    t.dev.get F.PWR_FAST_CMD_RESULT = 2 ∧ Frame [] [.PWR_FAST_CMD] s t)) ∧
  (s.dev.fast = 1 → s.dev.synLocked 4 = true → s.dev.anyActive = true → Completes .fastDomainOn s (fun t => t.dev.fast = 2 ∧
    (s.dev.stage = 6 → t.dev.stage = 7))) ∧
  (s.dev.firnReach = true → s.dev.fastOn = true → s.dev.updating = false → Completes .fastStop s (fun t => t.dev.fast = 3 ∧
    t.dev.get F.PWR_FAST_CMD_RESULT = 1 ∧ t.dev.insts = [])) ∧
  (s.dev.firnReach = true → s.dev.fastOn = false → s.dev.updating = false → Completes .fastStop s (fun t => t.dev.get F.PWR_FAST_CMD_RESULT = 2 ∧
    Frame [] [.PWR_FAST_CMD] s t)) ∧
  (s.dev.fast = 3 → Completes .fastDomainOff s (fun t => t.dev.fast = 0 ∧ t.dev.sw = .init ∧ t.dev.ports = [] ∧ t.dev.ptus = [] ∧
    t.dev.insts = [] ∧ t.dev.get F.PWR_STAT_CP_CORES = 0 ∧ t.dev.get F.PWR_STAT_BANKS_UNGATED = 0 ∧ t.flash = s.flash ∧
    (∀ p ∈ [Part.ident, .tbA, .tbB, .mir, .rsel, .cands, .twin, .chans, .tio, .cntCfg], p.same s.dev t.dev) ∧
    ∀ r u, r.isFast = false → r ∉ alarmRegs → r ∉ [Reg.OUT_STAT, .PWR_PORT_STAT, .PWR_STAT, .SYN_CMD, .SYN_STAT] →
      t.dev.word r u = s.dev.word r u))

/-- pwrLatWrite takes TOL and shows T_EFF, or takes TX_PIN, RX_SLEEP_OK and RX_DEEP_OK; pwrGateCfgWrite takes its three
enables and ungates at once what it no longer allows; lpllStop of a group whose ports are all deep and tolerant stops
that LPLL; bankDrainStart picks an open bank in service with the fewest used cells; bankGated gates the drained empty
bank and only it; sliceGate gates an unused unpaired slice without entries; coreIdleGate gates that core;
inputMonitorRefresh shows its three readings. (R301, R302, R306 to R310) -/
def Obligations.PowerManagement : Prop :=
  ∀ (s : State) (p : PortId) (k : ClassId) (v : Word) (g : Fin 4) (e : Dev) (b : Nat)
    (sl : Fin 16) (core : Fin 3) (vin pin temp : BitVec 16),
  (s.dev.firnReach = true → s.dev.hasPort p.val = true →
    Completes (.pwrLatWrite p (.lat k) v) s (fun t => t.dev.get F.PWR_LAT_TOL (qKey p.val k.val) = bitsOf v.toNat 0 16 ∧
      t.dev.get F.PWR_PORT_STAT_T_EFF p.val = t.dev.tEff p.val) ∧
    Completes (.pwrLatWrite p .portCfg v) s (fun t => t.dev.get F.PWR_PORT_CFG_TX_PIN p.val = bitsOf v.toNat 0 2 ∧
      t.dev.get F.PWR_PORT_CFG_RX_SLEEP_OK p.val = bitsOf v.toNat 2 1 ∧ t.dev.get F.PWR_PORT_CFG_RX_DEEP_OK p.val = bitsOf v.toNat 3 1)) ∧
  (s.dev.firnReach = true → Completes (.pwrGateCfgWrite v) s (fun t => t.dev.get F.PWR_GATE_CFG_BANK_GATE_EN = bitsOf v.toNat 0 1 ∧
    t.dev.get F.PWR_GATE_CFG_SLICE_GATE_EN = bitsOf v.toNat 1 1 ∧ t.dev.get F.PWR_GATE_CFG_CORE_GATE_EN = bitsOf v.toNat 2 1 ∧
    (s.dev.fastOn = true → bitsOf v.toNat 1 1 = 0 → t.dev.sys.slicesOff = 0) ∧
    (s.dev.fastOn = true → bitsOf v.toNat 2 1 = 0 → t.dev.sys.coresOff = 0 ∧ t.dev.get F.PWR_STAT_CP_CORES = 4) ∧
    (s.dev.fastOn = true → bitsOf v.toNat 0 1 = 0 → t.dev.get F.SW_BUF_GATED_BANKS = 0 ∧ t.dev.flag F.PWR_STAT_DRAIN_RUN = false))) ∧
  (s.dev.fastOn = true → s.dev.flag F.PWR_GATE_CFG_LPLL_STOP_EN = true → s.dev.flag F.TB_HB_STAT_FROZEN = false →
    (s.dev.syn (5 + g.val)).runs = true → (∀ q ∈ s.dev.groupUsed g.val, s.dev.portDeep q = true) → s.dev.groupTolerates g.val = true →
    Completes (.lpllStop g) s (fun t => (t.dev.syn (5 + g.val)).runs = false ∧ t.dev.sys.lpllOff = s.dev.sys.lpllOff + 2 ^ g.val)) ∧
  (s.dev.fastOn = true → e = s.dev.judgeBanks → e.flag F.PWR_GATE_CFG_BANK_GATE_EN = true → e.bankNeed < e.openBanks.length →
    e.mayGate = true →
    (e.flag F.PWR_STAT_DRAIN_RUN = false → b ∈ e.openBanks → e.bankRetired b = false → Completes .bankDrainStart s (fun t =>
      t.dev.flag F.PWR_STAT_DRAIN_RUN = true ∧ t.dev.get F.PWR_STAT_DRAIN_BANK ∈ e.openBanks ∧
      e.bankRetired (t.dev.get F.PWR_STAT_DRAIN_BANK) = false ∧
      e.bankUsed (t.dev.get F.PWR_STAT_DRAIN_BANK) ≤ e.bankUsed b ∧ t.dev.sw = e.sw)) ∧
    (e.flag F.PWR_STAT_DRAIN_RUN = true → e.get F.PWR_STAT_DRAIN_BANK = b → e.bankUsed b = 0 → e.bankRetired b = false →
      e.bankGated b = false → Completes .bankGated s (fun t => t.dev.bankGated b = true ∧
        t.dev.flag F.PWR_STAT_DRAIN_RUN = false ∧ ∀ c < 32, c ≠ b → t.dev.bankGated c = e.bankGated c))) ∧
  (s.dev.fastOn = true → s.dev.flag F.PWR_GATE_CFG_SLICE_GATE_EN = true → s.dev.flag F.SW_ST_SLICE_CFG_EN sl.val = false →
    bitAt (s.dev.get F.SW_ST_PAIR_PAIRED) (sl.val / 2) = false → (∀ u ∈ unitsOf s.dev.regs .ST_K, u / 8192 ≠ sl.val) →
    (∀ u ∈ unitsOf s.dev.regs .ST_M, u / 8192 ≠ sl.val) → (∀ u ∈ unitsOf s.dev.regs .ST_A, u / 4096 ≠ sl.val) →
    bitAt s.dev.sys.slicesOff sl.val = false → Completes (.sliceGate sl) s (fun t =>
      t.dev.sys.slicesOff = s.dev.sys.slicesOff + 2 ^ sl.val ∧ Frame [.sys] [] s t)) ∧
  (s.dev.fastOn = true → s.dev.flag F.PWR_GATE_CFG_CORE_GATE_EN = true → s.dev.sys.cpStopped = false →
    bitAt s.dev.sys.coresOff (core.val + 1) = false → Completes (.coreIdleGate core) s (fun t =>
      t.dev.sys.coresOff = s.dev.sys.coresOff + 2 ^ (core.val + 1) ∧
      t.dev.get F.PWR_STAT_CP_CORES = s.dev.get F.PWR_STAT_CP_CORES - 1 ∧ Frame [.sys] [.PWR_STAT] s t)) ∧
  Completes (.inputMonitorRefresh vin pin temp) s (fun t => t.dev.get F.PWR_INPUT_VIN = vin.toNat ∧ t.dev.get F.PWR_INPUT_PIN = pin.toNat ∧
    t.dev.get F.GLB_HEALTH_DIE_TEMP = temp.toNat ∧ t.dev.get F.GLB_HEALTH_PIN = pin.toNat ∧ t.dev.sys.dieTemp = temp.toInt ∧
    Frame [.sys] [.PWR_INPUT, .GLB_HEALTH] s t)

/-- fspWatchdog outside a trial posts again the message that the FSP had taken; processorWatchdog of the ACTIVE TBP stops
its beats; of the CP and the SMC outside a trial it loads the image again and shows its version, or stops the
processor with FW_IMAGE_BAD where the image is bad (the model's reading, log entry 86); of the CP in a RESTART trial
it resets the module, with RESET_CAUSE 2 (the model's reading, log entry 93). (R318, R344, R378) -/
def Obligations.Watchdogs : Prop :=
  ∀ (s : State), 2 ≤ s.dev.stage → s.dev.stage ≠ 8 →
  (s.onTrial = false → ∀ (src : Fin 6), src.val ≠ 1 → (s.dev.chan src.val 1).st = 2 → Completes .fspWatchdog s (fun t =>
    (t.dev.chan src.val 1).st = 1 ∧ (t.dev.chan src.val 1).redeliv = true ∧ (t.dev.chan src.val 1).msg = (s.dev.chan src.val 1).msg)) ∧
  (s.dev.twin.active = some .a → s.runsNew .tbpA = false → Completes (.processorWatchdog .tbpA) s (fun t =>
    t.dev.twin.beatsOff = true ∧ t.dev.twin.active = some .a)) ∧
  (s.dev.twin.active = some .b → s.runsNew .tbpB = false → Completes (.processorWatchdog .tbpB) s (fun t =>
    t.dev.twin.beatsOff = true ∧ t.dev.twin.active = some .b)) ∧
  (s.dev.fastOn = true → s.onTrial = false → s.dev.sys.cpStopped = false →
    Completes (.processorWatchdog .cp) s (fun t => if s.imageGood (s.runSlot 3) 3 then t.dev.sys.cpStopped = false ∧
        t.dev.get F.UPD_IFVER0_CP = (readImage s.flash (s.runSlot 3) 3).ifVer % 65536
      else t.dev.sys.cpStopped = true ∧ t.dev.insts = [] ∧ t.dev.alarmOn .fwImageBad = true)) ∧
  (s.dev.fastOn = true → s.onTrial = false → s.dev.sys.smcStopped = false →
    Completes (.processorWatchdog .smc) s (fun t => if s.imageGood (s.runSlot 2) 2 then t.dev.sys.smcStopped = false ∧
        t.dev.get F.UPD_IFVER1_SMC = (readImage s.flash (s.runSlot 2) 2).ifVer % 65536
      else t.dev.sys.smcStopped = true ∧ t.dev.alarmOn .fwImageBad = true)) ∧
  (s.onTrial = true → s.dev.sys.updBack = false → s.dev.sys.updStep = 0 → (hdrNow s.flash).mode ≠ 1 → s.dev.sys.powered = true →
    s.dev.fastOn = true → s.dev.sys.cpStopped = false → Completes (.processorWatchdog .cp) s (fun t => t.dev.stage = 0 ∧
      t.dev.get F.GLB_BOOT_STAT_RESET_CAUSE = 2))

/-- reEnable returns a TIO output, the cells of the buffer, an FDB entry or a mailbox channel to service with RESULT 1; an
unknown class answers 3 and a resource in service 2, changing ALM_REEN alone. alarmLatchClear clears the latch bits
written as 1 and changes no other register; alarmLogRead, with no other access of the host before it, takes the oldest
entry into ALM_LOG_W, answers its first word and clears LOG_FULL, of an empty log it reads zero. (R324, R399, R401,
R402) -/
def Obligations.AlarmsAndReEnables : Prop :=
  (∀ (s : State) (i : Nat) (c : Byte), s.dev.stage ≠ 0 → s.dev.get F.ALM_REEN_IDX_INDEX = i →
  (c.toNat = 0x05 → i < s.dev.tios → s.dev.tios ≤ 48 → s.dev.flag F.TIO_STAT_OUT_RETIRED i = true → Completes (.reEnable c) s (fun t =>
    t.dev.flag F.TIO_STAT_OUT_RETIRED i = false ∧ t.dev.get F.ALM_REEN_RESULT = 1 ∧ t.dev.get F.ALM_REEN_CLASS = 5)) ∧
  (c.toNat = 0x07 → s.dev.sw.retired ≠ [] → Completes (.reEnable c) s (fun t =>
    t.dev.sw.retired = [] ∧ t.dev.sw.badWords = 0 ∧ t.dev.get F.ALM_REEN_RESULT = 1)) ∧
  (c.toNat = 0x08 → i < 262144 → s.dev.fdbRetired i = true → Completes (.reEnable c) s (fun t => t.dev.fdbRetired i = false ∧
    t.dev.fdbValid i = false ∧ t.dev.get F.ALM_REEN_RESULT = 1)) ∧
  (c.toNat = 0x0C → i / 8 < 6 → i % 8 < 6 → i / 8 ≠ i % 8 → i ≠ 16 → (s.dev.chan (i / 8) (i % 8)).st = 4 →
    Completes (.reEnable c) s (fun t => (t.dev.chan (i / 8) (i % 8)).st = 0 ∧ t.dev.get F.ALM_REEN_RESULT = 1)) ∧
  (reenClass c.toNat = none → Completes (.reEnable c) s (fun t => t.dev.get F.ALM_REEN_RESULT = 3 ∧ Frame [] [.ALM_REEN] s t)) ∧
  (c.toNat = 0x08 → i < 262144 → s.dev.fdbRetired i = false → Completes (.reEnable c) s (fun t =>
    t.dev.get F.ALM_REEN_RESULT = 2 ∧ Frame [] [.ALM_REEN] s t))) ∧
  (∀ (s : State) (w : Fin 2) (v : Word), s.dev.stage ≠ 0 →
  Completes (.alarmLatchClear w v) s (fun t => t.dev.word .ALM_LATCH w.val = s.dev.word .ALM_LATCH w.val &&& ~~~v ∧
    ∀ r u, r ≠ .ALM_LATCH → t.dev.word r u = s.dev.word r u) ∧
  (∀ (e : LogEntry) (rest : List LogEntry), hostIdle s.dev = true ∨ s.dev.pcie.ready = false → s.dev.log = e :: rest →
    Completes .alarmLogRead s (fun t => t.dev.log = rest ∧
    t.dev.word .ALM_LOG_W 4 = BitVec.ofNat 32 (e.cls % 256 + e.action % 16 * 256 + e.mem % 16 * 4096) ∧
    t.dev.word .ALM_LOG_W 5 = BitVec.ofNat 32 e.index ∧ t.dev.alarmOn .logFull = false ∧
    t.dev.sent = s.dev.sent ++ [.readData (t.dev.word .ALM_LOG_W 0).toNat])) ∧
  (hostIdle s.dev = true ∨ s.dev.pcie.ready = false → Completes .alarmLogRead s (FrameReported [] [.ALM_LOG_W] s)) ∧
  (hostIdle s.dev = true ∨ s.dev.pcie.ready = false → s.dev.log = [] → Completes .alarmLogRead s (fun t => t.dev.log = [] ∧ t.dev.sent = s.dev.sent ++ [.readData 0] ∧
    ∀ k < 6, t.dev.word .ALM_LOG_W k = 0)))

/-- With a command or a live step running, updVerify, updActivate, updErase and updFlush answer BUSY (3) and change
UPD_CMD alone (log entry 159). Else updVerify shows whether the bundle of UPD_CFG.SLOT verifies, with the type and
block that fail. updActivate for a RESTART of another slot than the one in force writes the boot header as PENDING
where bundle and configuration pass, else answers the failure with the flash unchanged; while a trial is pending or
runs it is refused (0xD). updErase and updFlush begin the flash work with RESULT 2 and NVM_BUSY, are refused or have
nothing to do (DONE at once, and WRITE_REFUSED on a refusal: the model's reading, log entry 98). nvmEraseDone erases
exactly the sector; nvmProgramDone programs the page, each byte ANDed with the old one (PRESUMED, log entry 97), and
sets PROG_ERR where a byte does not read back; both end a running command with DONE. (R332, R334, R335, R337) -/
def Obligations.UpdateCommands : Prop :=
  (∀ (s : State) (a : Nat) (slot : Nat), s.dev.stage ≠ 0 →
  (s.dev.updBusy = true → ∀ c ∈ [Instr.updVerify, .updActivate, .updErase, .updFlush], Completes c s (fun t =>
    t.dev.get F.UPD_CMD_RESULT = 3 ∧ Frame [] [.UPD_CMD] s t)) ∧
  (s.dev.updBusy = false → s.dev.get F.UPD_CFG_SLOT = slot →
  (Completes .updVerify s (fun t => t.flash = s.flash ∧
    (bundleFault s.flash s.dev.ident.variant slot = none → t.dev.get F.UPD_CMD_RESULT = 1 ∧
      t.dev.flag F.UPD_SLOT_STAT_VERIFIED slot = true ∧
      t.dev.flag F.UPD_SLOT_STAT_LIVE_OK slot = s.dev.liveWith (readImages s.flash slot)) ∧
    (∀ x, bundleFault s.flash s.dev.ident.variant slot = some x → t.dev.get F.UPD_CMD_RESULT = x.1 % 16 ∧
      t.dev.flag F.UPD_SLOT_STAT_VERIFIED slot = false ∧ t.dev.get F.UPD_SLOT_STAT_FAIL_TYPE slot = x.2.1 % 4 ∧
      t.dev.get F.UPD_SLOT_STAT_FAIL_BLOCK slot = x.2.2 % 8192))) ∧
  (hdrState s.flash ≠ 1 → hdrState s.flash ≠ 2 → slot ≠ s.bundleSlot → s.dev.flag F.UPD_CFG_MODE = false → s.dev.stage ≠ 8 →
    Completes .updActivate s (fun t => t.dev.stage = s.dev.stage ∧
      (∀ x, bundleFault s.flash s.dev.ident.variant slot = some x → t.dev.get F.UPD_CMD_RESULT = x.1 % 16 ∧ t.flash = s.flash) ∧
      (bundleFault s.flash s.dev.ident.variant slot = none →
        if (checkCfg s.flash s.dev.ident.variant (readImages s.flash slot) (s.dev.get F.UPD_CFG_CFG_SLOT)).result = 1 then
          t.dev.get F.UPD_CMD_RESULT = 1 ∧ t.flash = hdrWrite s.flash (s.activated slot 1)
        else t.dev.get F.UPD_CMD_RESULT = 9 ∧ t.flash = s.flash))) ∧
  (hdrState s.flash = 1 ∨ hdrState s.flash = 2 → Completes .updActivate s (fun t => t.dev.get F.UPD_CMD_RESULT = 0xD ∧ Frame [] [.UPD_CMD] s t)) ∧
  (s.dev.get F.UPD_ERASE_ADDR_ADDR / 65536 * 65536 = a →
    (s.nvmBarred a = false → Completes .updErase s (fun t => t.dev.sys.eraseAt = some a ∧ t.dev.flag F.UPD_STAT_NVM_BUSY = true ∧
      t.dev.get F.UPD_CMD_RESULT = 2 ∧ Frame [.sys] [.UPD_STAT, .UPD_CMD] s t)) ∧
    (s.nvmBarred a = true → Completes .updErase s (fun t => t.dev.sys = s.dev.sys ∧ t.dev.flag F.UPD_STAT_WRITE_REFUSED = true ∧
      t.dev.get F.UPD_CMD_RESULT = 0xE))) ∧
  (s.dev.nvmBusy = false →
    (s.dev.sys.page = none → Completes .updFlush s (fun t => t.dev.get F.UPD_CMD_RESULT = 1 ∧ Frame [] [.UPD_CMD] s t)) ∧
    (∀ (pg : Nat × List (Nat × Byte)), s.dev.sys.page = some pg → Completes .updFlush s (fun t => t.dev.get F.UPD_CMD_RESULT = 2 ∧ t.dev.sys.page = none ∧
      t.dev.sys.progPage = some pg ∧ t.dev.flag F.UPD_STAT_NVM_BUSY = true ∧ Frame [.sys] [.UPD_STAT, .UPD_CMD] s t))))) ∧
  (∀ (s : State) (a : Nat) (pg : Nat) (l : List (Nat × Byte)), s.dev.sys.smbWrite = none →
  s.dev.sys.smbRead = none → s.dev.pcie.held = none → s.dev.pcie.waiting = [] → s.dev.sys.updRuns = true → s.dev.sys.updStep = 0 →
  (s.dev.sys.eraseAt = some a → s.dev.sys.progPage = none → Completes .nvmEraseDone s (fun t => t.flash = flashErase s.flash a 0x10000 ∧
    t.dev.sys.eraseAt = none ∧ t.dev.flag F.UPD_STAT_NVM_BUSY = false ∧ t.dev.get F.UPD_CMD_RESULT = 1 ∧
    Only [.sys] [.UPD_STAT, .UPD_CMD] s.dev t.dev)) ∧
  (s.dev.sys.progPage = some (pg, l) → s.dev.sys.eraseAt = none → (∀ e ∈ l, flashByte (programPage s.flash pg l) (256 * pg + e.1) = e.2) →
    Completes .nvmProgramDone s (fun t => t.flash = programPage s.flash pg l ∧ t.dev.sys.progPage = none ∧
      t.dev.flag F.UPD_STAT_NVM_BUSY = false ∧ t.dev.get F.UPD_CMD_RESULT = 1 ∧ Only [.sys] [.UPD_STAT, .UPD_CMD] s.dev t.dev)) ∧
  (s.dev.sys.progPage = some (pg, l) → (∃ e ∈ l, flashByte (programPage s.flash pg l) (256 * pg + e.1) ≠ e.2) →
    Completes .nvmProgramDone s (fun t => t.flash = programPage s.flash pg l ∧ t.dev.flag F.UPD_STAT_PROG_ERR = true)))

/-- In a trial: updConfirm, and confirmWindowExpired with AUTO_CONFIRM and an active timebase, mark the header CONFIRMED;
updAbort, confirmWindowExpired else, and newCpTakeoverTimeout of a trial other than LIVE restore the previous slots in
the header with their failure cause and reset the module (stage 0, RESET_CAUSE 2: the model's reading, log entry 93).
updConfirm and updAbort answer BUSY (3), changing UPD_CMD alone, while a command runs outside step 8 (log entries 99
and 159). (R341 to R345) -/
def Obligations.TrialEnds : Prop :=
  ∀ (s : State) (fb : Nat → List Host.Cell), s.onTrial = true →
  (∀ c, fb c = hdrWrite s.flash { hdrNow s.flash with
    bundleSel := (hdrNow s.flash).prevBundle, configSel := (hdrNow s.flash).prevConfig, state := 3, failCause := c }) →
  (s.dev.stage ≠ 0 → s.dev.updBusy = false ∨ s.dev.get F.UPD_STAT_STEP = 8 →
    Completes .updConfirm s (fun t => t.flash = hdrMark s.flash 68 ∧ t.dev.get F.UPD_CMD_RESULT = 1 ∧ t.dev.get F.UPD_STAT_STEP = 0 ∧
      t.dev.get F.UPD_CONFIRM_LEFT_LEFT = 0 ∧ t.dev.stage = s.dev.stage)) ∧
  (s.dev.stage ≠ 0 → s.dev.updBusy = true → s.dev.get F.UPD_STAT_STEP ≠ 8 → ∀ c ∈ [Instr.updConfirm, .updAbort],
    Completes c s (fun t => t.dev.get F.UPD_CMD_RESULT = 3 ∧ Frame [] [.UPD_CMD] s t)) ∧
  (s.dev.get F.UPD_STAT_STEP = 8 → (hdrNow s.flash).auto = 1 → s.dev.anyActive = true → Completes .confirmWindowExpired s (fun t =>
    t.flash = hdrMark s.flash 68 ∧ t.dev.get F.UPD_STAT_STEP = 0 ∧ t.dev.sys.winLeft = 0)) ∧
  (s.dev.sys.eraseAt = none → s.dev.sys.progPage = none → (hdrNow s.flash).mode ≠ 1 →
    (s.dev.stage ≠ 0 → s.dev.updBusy = false ∨ s.dev.get F.UPD_STAT_STEP = 8 → Completes .updAbort s (fun t => t.flash = fb 5 ∧ t.dev.stage = 0 ∧
      t.dev.get F.GLB_BOOT_STAT_RESET_CAUSE = 2)) ∧
    (s.dev.get F.UPD_STAT_STEP = 8 → (hdrNow s.flash).auto ≠ 1 → Completes .confirmWindowExpired s (fun t => t.flash = fb 1 ∧
      t.dev.stage = 0 ∧ t.dev.get F.GLB_BOOT_STAT_RESET_CAUSE = 2)) ∧
    (s.dev.sys.newCpWait = true → Completes .newCpTakeoverTimeout s (fun t => t.flash = fb 2 ∧ t.dev.stage = 0 ∧
      t.dev.get F.GLB_BOOT_STAT_RESET_CAUSE = 2)))

/-- Of a forward live update liveStepComplete ends step 4 and step 6 with a READY standby and step 5 after the handover
(then the other TBP's image is loaded and aligns, or the trial falls back where it is bad), each with the next step
shown, and changes nothing without a READY standby. liveStepTimeout of a forward step in a LIVE trial restores the
header with failure cause 3 and begins the fallback live (STEP 9): at step 2 with the CP stopped, or, with FAST OFF,
at step 4 with the old TBP image, or by a module reset where that image is bad; of a live fallback it resets the
module; that it also resets it where the header does not say LIVE is of states that no run reaches. RESET_CAUSE 2 of
these resets is the model's reading (log entry 93), and so is which steps run (log entry 100). carryoverTimeout moves
every port, DISABLED ones too, to INITIALIZING. (R338, R339, R345) -/
def Obligations.LiveUpdateSteps : Prop :=
  ∀ (s : State) (k : Nat) (m : List Host.Cell), s.dev.sys.updStep = k →
  (s.dev.sys.updBack = false →
    (k = 4 → s.dev.readyStandby = true → Completes .liveStepComplete s (fun t => t.dev.sys.updStep = 5 ∧ t.dev.get F.UPD_STAT_STEP = 5 ∧
      Frame [.sys, .twin] [.UPD_STAT] s t)) ∧
    (k = 5 → s.dev.twin.updMoved = true → Completes .liveStepComplete s (fun t =>
      if s.imageGood s.bundleSlot 1 then t.dev.sys.updStep = 6 ∧ t.dev.get F.UPD_STAT_STEP = 6 ∧ FrameReported [.sys, .tbA, .tbB, .twin] [.UPD_STAT, .UPD_IFVER1, .UPD_IFVER2, .TB_ROLE] s t ∧
      (∀ o, s.dev.liveStandby = some o → t.dev.role o = 2)
      else (s.dev.sys.eraseAt = none → s.dev.sys.progPage = none → (hdrNow t.flash).state = 3 ∧ (hdrNow t.flash).failCause = 2))) ∧
    (k = 6 → s.dev.readyStandby = true → Completes .liveStepComplete s (fun t => t.dev.sys.updStep = 7 ∧ t.dev.get F.UPD_STAT_STEP = 7 ∧
      Frame [.sys] [.UPD_STAT] s t)) ∧
    (k = 4 ∨ k = 6 → s.dev.readyStandby = false → Completes .liveStepComplete s (fun t => t = s))) ∧
  (k ≠ 0 → s.dev.sys.updBack = true → Completes .liveStepTimeout s (fun t => t.dev.stage = 0 ∧ t.dev.get F.GLB_BOOT_STAT_RESET_CAUSE = 2)) ∧
  (k ≠ 0 → s.dev.sys.updBack = false → (hdrNow s.flash).mode ≠ 1 → Completes .liveStepTimeout s (fun t => t.dev.stage = 0 ∧
    t.dev.get F.GLB_BOOT_STAT_RESET_CAUSE = 2)) ∧
  (k ≠ 0 → s.dev.sys.updBack = false → (hdrNow s.flash).mode = 1 → m = hdrWrite s.flash { hdrNow s.flash with
      bundleSel := (hdrNow s.flash).prevBundle, configSel := (hdrNow s.flash).prevConfig, state := 3, failCause := 3 } →
    (s.dev.fast ≠ 0 → Completes .liveStepTimeout s (fun t => t.flash = m ∧ t.dev.sys.updBack = true ∧ t.dev.sys.updStep = 2 ∧
      t.dev.get F.UPD_STAT_STEP = 9 ∧ t.dev.sys.cpStopped = true ∧ t.dev.sys.carryover = true ∧ t.dev.stage = s.dev.stage)) ∧
    (s.dev.fast = 0 → Completes .liveStepTimeout s (fun t => if imageOk m s.dev.ident.variant (hdrNow m).bundleSel 1 = true then
      t.flash = m ∧ t.dev.sys.updBack = true ∧ t.dev.sys.updStep = 4 ∧ t.dev.get F.UPD_STAT_STEP = 9 ∧ t.dev.stage = s.dev.stage
      else t.dev.stage = 0 ∧ t.dev.get F.GLB_BOOT_STAT_RESET_CAUSE = 2))) ∧
  (s.dev.sys.carryover = true → Completes .carryoverTimeout s (fun t => t.dev.sys.carryover = false ∧
    ∀ p ∈ s.dev.portList, t.dev.ptpState p = 1))

/-- registerWrite by the host: a whole dword to one of the named registers without further effect stores its fields there
and changes nothing else; of a register that the stage does not reach or the variant lacks it is ignored; half a dword
is logged in GLB_BAD_ACC at the dword's offset and not performed (log entry 103); with the endpoint not ready (log
entry 102), or for an access that R350 and R353 refuse, a write and a read are answered Unsupported; behind a full
queue of indirect writes a write waits (log entry 106). With no other access before it a read of 1 to 4 bytes at 0x004
answers that many low bytes of GLB_SERIAL_HI, one of 8 bytes at 0 both words, the lower in the low half. Of a round in
which the FSP and the host write one register the host's word stands, which is granted later (R357). That the row
carries a round is the model's form (log entry 154). (R23, R350, R353 to R355, R353) -/
def Obligations.HostRegisterWrites : Prop :=
  (∀ (s : State) (w : BusWrite) (r : BusRead) (a b : Word), w.party = .host → r.party = .host →
  (s.dev.pcie.ready = true → s.dev.pcie.indQueue.length < 64 → s.dev.pcie.waiting = [] → s.dev.pcie.held = none →
    w.bar = 0 → w.offset = 0x8048 →
    (w.size = 4 → s.dev.fastReach = true → Completes (.registerWrite w.round) s (fun t =>
      t.dev.word .RING_TEL_DA_LO 0 = w.data.setWidth 32 ∧ Frame [] [.RING_TEL_DA_LO] s t)) ∧
    (w.size = 2 → s.dev.stage ≠ 0 → Completes (.registerWrite w.round) s (fun t => t.dev.get F.GLB_BAD_ACC_SOURCE = 1 ∧
      t.dev.get F.GLB_BAD_ACC_KIND = 1 ∧ t.dev.word .GLB_BAD_ACC_OFS 0 = 0x8048 ∧
      t.dev.word .RING_TEL_DA_LO 0 = s.dev.word .RING_TEL_DA_LO 0))) ∧
  (s.dev.pcie.ready = false ∨ busRefused w = true → Completes (.registerWrite w.round) s (fun t =>
    t.dev.sent = s.dev.sent ++ [.unsupported] ∧ Frame [.sent] [] s t)) ∧
  (s.dev.pcie.ready = true → busRefused w = false → 64 ≤ s.dev.pcie.indQueue.length → s.dev.pcie.held = none →
    (∀ x ∈ s.dev.pcie.waiting, x.posted = true) → Completes (.registerWrite w.round) s (fun t =>
      t.dev.pcie.waiting = s.dev.pcie.waiting ++ [.write w] ∧ Frame [.pcie] [] s t)) ∧
  (s.dev.pcie.ready = false ∨ readRefused r = true → Completes (.registerWrite r.round) s (fun t =>
    t.dev.sent = s.dev.sent ++ [.unsupported] ∧ Frame [.sent] [] s t)) ∧
  (hostIdle s.dev = true → s.dev.stage ≠ 0 → r.bar = 0 →
    (r.offset = 4 → 1 ≤ r.size → r.size ≤ 4 → Completes (.registerWrite r.round) s (fun t =>
      t.dev.sent = s.dev.sent ++ [.readData ((s.dev.readReg .GLB_SERIAL_HI 0).toNat % 2 ^ (8 * r.size))] ∧ Frame [.sent] [] s t)) ∧
    (r.offset = 0 → r.size = 8 → Completes (.registerWrite r.round) s (fun t =>
      t.dev.sent = s.dev.sent ++ [.readData ((s.dev.readReg .GLB_ID 0).toNat + 2 ^ 32 * (s.dev.readReg .GLB_SERIAL_HI 0).toNat)] ∧
      Frame [.sent] [] s t))) ∧
  (hostIdle s.dev = true → s.dev.fastReach = true → Completes (.registerWrite
    ⟨[.write ⟨.host, 0, 0x8048, 4, a.setWidth 64⟩, .write ⟨.fsp, 0, 0x8048, 4, b.setWidth 64⟩], []⟩) s (fun t =>
      t.dev.word .RING_TEL_DA_LO 0 = a ∧ Frame [] [.RING_TEL_DA_LO] s t))) ∧
  (∀ (s : State) (w : BusWrite) (r : Reg) (u : Nat), w.party = .host →
  s.dev.pcie.ready = true → s.dev.pcie.indQueue.length < 64 → s.dev.pcie.waiting = [] → s.dev.pcie.held = none → w.bar = 0 → w.size = 4 → w.offset % 4 = 0 →
  regAt .bar0 w.offset = some (r, u) →
  (r ∈ [Reg.RING_CTRL, .RING_TEL_CFG, .RING_TEL_DA_HI, .RING_TEL_DA_LO, .RING_HOST_TAIL, .CNT_IDX, .ALM_ENABLE, .ALM_ROUTE,
      .ALM_REEN_IDX, .UPD_CFG, .UPD_ERASE_ADDR, .PWR_SLEEP_CFG, .PWR_GATE_HOLD, .SW_CFG, .SW_PORT_CFG, .SW_PCP_MAP] →
    s.dev.reaches false r = true → s.dev.absent r u = false →
    Completes (.registerWrite w.round) s (fun t => t.dev.word r u = (s.dev.store r u (w.data.setWidth 32)).word r u ∧
      (∀ k, k ≠ u → t.dev.word r k = s.dev.word r k) ∧ Frame (if r = .RING_CTRL then [.ring] else []) [r] s t)) ∧
  (s.dev.reaches false r = false ∨ s.dev.absent r u = true → Completes (.registerWrite w.round) s (fun t => t = s)))

/-- indDataWrite queues the write with the space and address of its receipt, with AINC the address advances. indQueueApply
takes the oldest: a faulty one shows its ERR, also where the host clears IND_STAT in the same cycle; an NVM write
waits while the flash works and else joins the page buffer. indDataRead of NVM, with no access before it, is answered
with what the flash holds, or held while the flash works; nvmReadHeldTimeout answers zero with ERR HELD (5). That a
read waits for any work of the flash and never sees the page buffer is the model's reading (log entry 96). wideCapture
latches the selected value, or sets OVERRUN while one is being latched, till the next cycle (log entry 107);
wideD3Read is answered and clears VALID. (R360 to R364, R365 to R367) -/
def Obligations.IndirectAccess : Prop :=
  (∀ (s : State) (v : Word) (sp a : Nat) (q : IndWrite) (rest : List IndWrite),
  (s.dev.pcie.ready = true → s.dev.pcie.indQueue.length < 64 → s.dev.pcie.waiting = [] → s.dev.pcie.held = none →
    s.dev.stage ≠ 0 → s.dev.stage ≠ 8 → s.dev.get F.IND_SPACE_SPACE = sp → s.dev.get F.IND_ADDR_ADDR = a → Completes (.indDataWrite v) s (fun t =>
      t.dev.pcie.indQueue = s.dev.pcie.indQueue ++ [⟨sp, 4 * a, v⟩] ∧
      t.dev.get F.IND_ADDR_ADDR = (if s.dev.flag F.IND_CTRL_AINC then (a + 1) % 2 ^ 24 else a) ∧
      Frame [.pcie] [.IND_DATA, .IND_ADDR] s t)) ∧
  (s.dev.pcie.indQueue = q :: rest → s.dev.pcie.waiting = [] → s.dev.pcie.held = none →
    (∀ (e : Nat), s.dev.indFault q.space q.addr true = some e → 0 < e → e < 16 → s.dev.get F.IND_STAT_ERR = 0 → Completes .indQueueApply s (fun t =>
      t.dev.pcie.indQueue = rest ∧ t.dev.get F.IND_STAT_ERR = e ∧
      FrameReported [] [.IND_STAT, .IND_ERR_ADDR] s t)) ∧
    (∀ (e : Nat), s.dev.indFault q.space q.addr true = some e → 0 < e → e < 16 → s.dev.pcie.ready = true → s.dev.stage ≠ 8 →
      rest.length < 63 → Completes (.registerWrite ⟨[.write ⟨.host, 0, 0x100C, 4, 0xFFFFFFFF⟩], [.indApply]⟩) s (fun t =>
        t.dev.pcie.indQueue = rest ∧ t.dev.get F.IND_STAT_ERR = e)) ∧
    (s.dev.indFault q.space q.addr true = none → q.space = 8 → s.nvmBarred q.addr = false → s.dev.nvmBusy = true →
      Completes .indQueueApply s (fun t => t = s)) ∧
    (s.dev.indFault q.space q.addr true = none → q.space = 8 → s.nvmBarred q.addr = false → s.dev.nvmBusy = false →
      s.dev.sys.page = none → q.addr % 256 / 4 < 63 → Completes .indQueueApply s (fun t => t.dev.pcie.indQueue = rest ∧
        Frame [.pcie, .sys] [] s t ∧ ∃ l, t.dev.sys.page = some (q.addr / 256, l) ∧
          ∀ i < 4, (q.addr % 256 / 4 * 4 + i, (leBytes 4 q.value.toNat).getD i 0) ∈ l))) ∧
  (hostIdle s.dev = true → s.dev.stage ≠ 0 → s.dev.get F.IND_SPACE_SPACE = 8 → s.dev.get F.IND_ADDR_ADDR = a → s.dev.indFault 8 (4 * a) false = none →
    (s.dev.nvmBusy = false → Completes .indDataRead s (fun t =>
      t.dev.sent = s.dev.sent ++ [.readData (s.nvmRead (4 * a)).toNat] ∧ t.dev.pcie.held = none ∧
      t.dev.get F.IND_ADDR_ADDR = (if s.dev.flag F.IND_CTRL_AINC then (a + 1) % 2 ^ 24 else a) ∧ Frame [.pcie, .sent] [.IND_ADDR] s t)) ∧
    (s.dev.nvmBusy = true → Completes .indDataRead s (fun t => t.dev.pcie.held = some ⟨[], [(8, 4 * a)], 0, 4⟩ ∧ Frame [.pcie] [.IND_ADDR] s t))) ∧
  (s.dev.pcie.held = some ⟨[], [(8, a)], 0, 4⟩ → s.dev.nvmBusy = true → s.dev.pcie.indQueue = [] → s.dev.pcie.waiting = [] → s.dev.get F.IND_STAT_ERR = 0 →
    Completes .nvmReadHeldTimeout s (fun t => t.dev.pcie.held = none ∧ t.dev.get F.IND_STAT_ERR = 5 ∧
      t.dev.sent.getLast? = some (.readData 0) ∧ FrameReported [] [.IND_STAT, .IND_ERR_ADDR] s t))) ∧
  (∀ (s : State) (code port : Nat),
  (s.dev.firnReach = true → s.dev.pcie.latch = none → s.dev.get F.WIDE_SEL_CODE = code → s.dev.get F.WIDE_SEL_PORT = port →
    Completes .wideCapture s (fun t => t.dev.pcie.latch = some (s.dev.wideValue code port, code, if 0x10 ≤ code ∧ code < 0x30 then port else 0) ∧
      t.dev.flag F.WIDE_STAT_VALID = false ∧ Frame [.pcie] [.WIDE_STAT] s t)) ∧
  (s.dev.firnReach = true → s.dev.pcie.latch ≠ none → Completes .wideCapture s (fun t => t.dev.flag F.WIDE_STAT_OVERRUN = true ∧
    t.dev.pcie = s.dev.pcie)) ∧
  (hostIdle s.dev = true → s.dev.stage ≠ 0 → s.dev.stage ≠ 8 → Completes .wideD3Read s (fun t => t.dev.flag F.WIDE_STAT_VALID = false ∧
      t.dev.sent = s.dev.sent ++ [.readData (s.dev.word .WIDE_D 3).toNat] ∧ Frame [.sent, .pcie] [.WIDE_STAT] s t)))

/-- hostLinkReset by a hot reset takes the link down (PRESUMED, log entry 104), drops queued indirect writes, counts
DOWN_COUNT, raises HOST_LINK_DOWN and posts again what the host had taken; by a Function Level Reset it keeps the link
(the model's reading, log entry 105). endpointReady brings the link up with its speed and width. hostHbKick clears
HOST_SILENT and restarts the count, hostSilentTimeout raises it. pcieConfigWrite sets Bus Master Enable, MSI-X enable
and the function mask (MSIX_EN reads 1 with the one and without the other), D3hot or the mask of a vector. (R348,
R351, R368, R369, R379) -/
def Obligations.HostLink : Prop :=
  ∀ (s : State) (sp wd : Fin 8) (v : Fin 64) (on : Bool) (src : Nat),
  (s.dev.sys.powered = true → s.dev.pcie.ready = true → s.dev.pcie.indQueue.length ≤ 64 → src ≠ 0 → src < 6 →
    Completes (.hostLinkReset .hotReset) s (fun t => t.dev.pcie.ready = false ∧ t.dev.pcie.indQueue = [] ∧
      t.dev.get F.GLB_HOST_STAT_LINK_UP = 0 ∧ t.dev.get F.GLB_HOST_STAT_BME = 0 ∧ t.dev.alarmOn .hostLinkDown = true ∧
      t.dev.get F.GLB_HOST_STAT_DOWN_COUNT = min 255 (s.dev.get F.GLB_HOST_STAT_DOWN_COUNT + 1) ∧
      ((s.dev.chan src 0).st = 2 → (t.dev.chan src 0).st = 1 ∧ (t.dev.chan src 0).redeliv = true)) ∧
    Completes (.hostLinkReset .flr) s (fun t => t.dev.pcie.ready = true ∧ t.dev.pcie.indQueue = [] ∧
      t.dev.get F.GLB_HOST_STAT_LINK_UP = s.dev.get F.GLB_HOST_STAT_LINK_UP ∧ t.dev.get F.GLB_HOST_STAT_BME = 0)) ∧
  (s.dev.sys.powered = true → s.dev.pcie.ready = false → Completes (.endpointReady sp wd) s (fun t => t.dev.pcie.ready = true ∧
    t.dev.get F.GLB_HOST_STAT_LINK_UP = 1 ∧ t.dev.get F.GLB_HOST_STAT_SPEED = sp.val ∧ t.dev.get F.GLB_HOST_STAT_WIDTH = wd.val ∧
    t.dev.alarmOn .hostLinkDown = false)) ∧
  (s.dev.stage ≠ 0 → Completes .hostHbKick s (fun t => t.dev.alarmOn .hostSilent = false ∧
    t.dev.pcie.hbRuns = (s.dev.get F.GLB_HOST_HB_TIMEOUT != 0))) ∧
  (s.dev.pcie.hbRuns = true → Completes .hostSilentTimeout s (fun t => t.dev.alarmOn .hostSilent = true)) ∧
  (s.dev.pcie.ready = true →
    Completes (.pcieConfigWrite (.busMaster on)) s (fun t => t.dev.flag F.GLB_HOST_STAT_BME = on) ∧
    Completes (.pcieConfigWrite (.msixEnable on)) s (fun t => t.dev.pcie.msixOn = on ∧
      t.dev.flag F.GLB_HOST_STAT_MSIX_EN = (on && !s.dev.pcie.funcMask)) ∧
    Completes (.pcieConfigWrite (.functionMask on)) s (fun t => t.dev.pcie.funcMask = on ∧
      t.dev.flag F.GLB_HOST_STAT_MSIX_EN = (s.dev.pcie.msixOn && !on)) ∧
    Completes (.pcieConfigWrite (.powerState on)) s (fun t => t.dev.flag F.GLB_HOST_STAT_D3HOT = on) ∧
    Completes (.pcieConfigWrite (.vectorMask v on)) s (fun t => v.val ∈ t.dev.pcie.masks ↔ on = true))

/-- A transaction for another address changes nothing; before FSP_LOAD, while one is held and with a code that is none of
the four it is not acknowledged (log entry 108). Without a correct PEC smbWriteRegister, smbReadRegister, smbWriteNvm
and smbReadNvm are logged in GLB_BAD_ACC and do nothing else. With it an offset outside the subset is logged, a read
of it answering zero; of the subset, at every offset, a register that may be read answers its word with the PEC over
the whole transaction, and a plain one stores the word written and changes nothing else; in RECOVERY smbWriteNvm joins
the page buffer or is held while the flash works, and smbReadNvm is answered with what the flash holds, or held. The
holding, during a page program too, is the model's reading (log entry 96); the CRC-8 is PRESUMED (log entry 108).
(R334, R364, R370, R371) -/
def Obligations.SmbusTarget : Prop :=
  ∀ (s : State) (o : BitVec 16) (a v : Word) (k : SmbHead) (A : Nat) (g : Reg) (u : Nat)
    (w : Word),
  s.dev.smbusAddr = A →
  (k.address ≠ A → ∀ c ∈ [Instr.smbWriteRegister o v k, .smbReadRegister o k, .smbWriteNvm a v k, .smbReadNvm a k],
    Completes c s (fun t => t = s)) ∧
  (k.address = A → s.dev.stage = 0 ∨ s.dev.sys.smbWrite ≠ none ∨ s.dev.sys.smbRead ≠ none ∨ k.code < 0x10 ∨ 0x13 < k.code →
    ∀ c ∈ [Instr.smbWriteRegister o v k, .smbReadRegister o k, .smbWriteNvm a v k, .smbReadNvm a k],
      Completes c s (fun t => t.dev.sent = s.dev.sent ++ [.smbNack] ∧ Frame [.sent] [] s t)) ∧
  (s.dev.stage ≠ 0 → s.dev.sys.smbWrite = none → s.dev.sys.smbRead = none →
    (∀ c ∈ [Instr.smbWriteRegister o v ⟨A, 0x10, false⟩, .smbReadRegister o ⟨A, 0x11, false⟩, .smbWriteNvm a v ⟨A, 0x12, false⟩,
        .smbReadNvm a ⟨A, 0x13, false⟩],
      Completes c s (fun t => t.dev.get F.GLB_BAD_ACC_SOURCE = 2 ∧ t.dev.get F.GLB_BAD_ACC_KIND = 2 ∧
        FrameReported [] [.GLB_BAD_ACC, .GLB_BAD_ACC_OFS] s t)) ∧
    (smbSubset s.dev.stage o.toNat true = false → Completes (.smbWriteRegister o v ⟨A, 0x10, true⟩) s (fun t =>
      t.dev.get F.GLB_BAD_ACC_SOURCE = 2 ∧ t.dev.get F.GLB_BAD_ACC_KIND = 3 ∧ t.dev.word .GLB_BAD_ACC_OFS 0 = o.setWidth 32 ∧
      FrameReported [] [.GLB_BAD_ACC, .GLB_BAD_ACC_OFS] s t)) ∧
    (smbSubset s.dev.stage o.toNat false = false → Completes (.smbReadRegister o ⟨A, 0x11, true⟩) s (fun t =>
      t.dev.get F.GLB_BAD_ACC_SOURCE = 2 ∧ t.dev.get F.GLB_BAD_ACC_KIND = 3 ∧ t.dev.word .GLB_BAD_ACC_OFS 0 = o.setWidth 32 ∧
      (∃ e, t.dev.sent.getLast? = some (.smbData 0 e)) ∧ FrameReported [] [.GLB_BAD_ACC, .GLB_BAD_ACC_OFS] s t)) ∧
    (smbSubset s.dev.stage o.toNat true = true → regAt .bar0 o.toNat = some (g, u) → s.dev.reaches false g = true →
      g ∈ [Reg.ALM_ENABLE, .ALM_ROUTE, .UPD_CFG, .UPD_ERASE_ADDR] → Completes (.smbWriteRegister o v ⟨A, 0x10, true⟩) s (fun t =>
        t.dev.word g u = (s.dev.store g u v).word g u ∧ (∀ k, k ≠ u → t.dev.word g k = s.dev.word g k) ∧ Frame [] [g] s t)) ∧
    (smbSubset s.dev.stage o.toNat false = true → regAt .bar0 o.toNat = some (g, u) → g ≠ .ALM_LOG_W →
      w = (if s.dev.reaches false g && !g.hostOnly && !s.dev.absent g u then s.dev.readReg g u else 0) →
      Completes (.smbReadRegister o ⟨A, 0x11, true⟩) s (fun t =>
        t.dev.sent = s.dev.sent ++ [.smbData w (BitVec.ofNat 8 (crc8 ([2 * A, 0x11, 2] ++ (leBytes 2 o.toNat).map BitVec.toNat ++
          [2 * A + 1, 4] ++ (leBytes 4 w.toNat).map BitVec.toNat)))] ∧ Frame [.sent] [] s t)) ∧
    (s.dev.stage = 8 → a.toNat % 4 = 0 → a.toNat < 0x4000000 →
      (s.nvmBarred a.toNat = false → s.dev.nvmBusy = false → s.dev.sys.page = none → a.toNat % 256 / 4 < 63 →
        Completes (.smbWriteNvm a v ⟨A, 0x12, true⟩) s (fun t => Frame [.sys] [] s t ∧ ∃ l, t.dev.sys.page = some (a.toNat / 256, l))) ∧
      (s.nvmBarred a.toNat = false → s.dev.nvmBusy = true → Completes (.smbWriteNvm a v ⟨A, 0x12, true⟩) s (fun t =>
        t.dev.sys.smbWrite = some (a.toNat, v) ∧ t.dev.sys.page = s.dev.sys.page ∧ Frame [.sys] [] s t)) ∧
      (s.dev.nvmBusy = false → Completes (.smbReadNvm a ⟨A, 0x13, true⟩) s (fun t =>
        (∃ e, t.dev.sent = s.dev.sent ++ [.smbData (s.nvmRead a.toNat) e]) ∧ Frame [.sent] [] s t)) ∧
      (s.dev.nvmBusy = true → Completes (.smbReadNvm a ⟨A, 0x13, true⟩) s (fun t => t.dev.sys.smbRead = some a.toNat ∧ Frame [.sys] [] s t))))

/-- Between two different parties: mbxPost in FREE posts a processor's message of 4 to 64 bytes or the host's written one;
in another state or of another length a processor's changes nothing and the host's is refused with BAD_STATE (2) or
BAD_LENGTH (3) and nothing else. mbxWithdraw frees and mbxTake takes a POSTED message; mbxAck acknowledges a TAKEN one
with response and CODE (0xFFFF from a processor for an opcode that it does not define; BAD_LENGTH for a response above
64 bytes of the host); mbxRelease frees an ACKED channel, and of the CP's channel to the host the next notice held is
posted. In another state these change nothing of a processor's, and withdraw and take of the host's set RESULT 2 only.
mbxChannelFault uncorrectable retires the channel, corrected it changes only the reports. mbxHostRestart posts again,
as REDELIVERED, what the host had taken. REDELIVERED reads 0 after WITHDRAW and RELEASE by the model's choice (log
entry 153), and the order of refusals is its reading (log entry 111). (R373, R374, R377 to R379) -/
def Obligations.MailboxTransitions : Prop :=
  ∀ (s : State) (a b : MboxParty) (m : List Byte) (code : BitVec 16), a ≠ b →
  ((s.dev.chan a.id b.id).st = 0 → a ≠ .host → 4 ≤ m.length → m.length ≤ 64 → Completes (.mbxPost a b m) s (fun t =>
    (t.dev.chan a.id b.id).st = 1 ∧ (t.dev.chan a.id b.id).sent = m ∧ (t.dev.chan a.id b.id).len = m.length ∧
    (t.dev.chan a.id b.id).redeliv = false)) ∧
  (a ≠ .host → (s.dev.chan a.id b.id).st ≠ 0 ∨ m.length < 4 ∨ 64 < m.length → Completes (.mbxPost a b m) s (fun t => t = s)) ∧
  ((s.dev.chan a.id b.id).st = 0 → a = .host → (s.dev.chan a.id b.id).len < 4 ∨ 64 < (s.dev.chan a.id b.id).len →
    Completes (.mbxPost a b m) s (fun t => t.dev.chan a.id b.id = { s.dev.chan a.id b.id with result := 3 } ∧ Frame [.chans] [] s t)) ∧
  ((s.dev.chan a.id b.id).st = 0 → a = .host → 4 ≤ (s.dev.chan a.id b.id).len → (s.dev.chan a.id b.id).len ≤ 64 →
    (s.dev.chan a.id b.id).msg.length = 64 → Completes (.mbxPost a b m) s (fun t => (t.dev.chan a.id b.id).st = 1 ∧
      (t.dev.chan a.id b.id).len = (s.dev.chan a.id b.id).len ∧ (t.dev.chan a.id b.id).result = 1)) ∧
  ((s.dev.chan a.id b.id).st ≠ 0 → a = .host → Completes (.mbxPost a b m) s (fun t =>
    t.dev.chan a.id b.id = { s.dev.chan a.id b.id with result := 2 } ∧ Frame [.chans] [] s t)) ∧
  ((s.dev.chan a.id b.id).st = 1 →
    Completes (.mbxWithdraw a b) s (fun t => (t.dev.chan a.id b.id).st = 0 ∧ (t.dev.chan a.id b.id).redeliv = false) ∧
    Completes (.mbxTake a b) s (fun t => (t.dev.chan a.id b.id).st = 2 ∧ (t.dev.chan a.id b.id).msg = (s.dev.chan a.id b.id).msg ∧
      Frame [.chans] [] s t)) ∧
  ((s.dev.chan a.id b.id).st ≠ 1 →
    (a ≠ .host → Completes (.mbxWithdraw a b) s (fun t => t = s)) ∧
    (a = .host → Completes (.mbxWithdraw a b) s (fun t => t.dev.chan a.id b.id = { s.dev.chan a.id b.id with result := 2 } ∧
      Frame [.chans] [] s t)) ∧
    (b ≠ .host → Completes (.mbxTake a b) s (fun t => t = s)) ∧
    (b = .host → Completes (.mbxTake a b) s (fun t => t.dev.chan a.id b.id = { s.dev.chan a.id b.id with result := 2 } ∧
      Frame [.chans] [] s t))) ∧
  ((s.dev.chan a.id b.id).st = 2 → b ≠ .host → m.length ≤ 64 → Completes (.mbxAck a b code m) s (fun t =>
    (t.dev.chan a.id b.id).st = 3 ∧ (t.dev.chan a.id b.id).ackCode = (if a = .host ∧ b = .cp ∧
      ((s.dev.chan a.id b.id).opcode = 1 ∨ (s.dev.chan a.id b.id).opcode = 2) then code.toNat else 0xFFFF) ∧
    (t.dev.chan a.id b.id).rsp.take m.length = m ∧ (t.dev.chan a.id b.id).rspLen = m.length)) ∧
  ((s.dev.chan a.id b.id).st = 2 → b = .host → (s.dev.chan a.id b.id).rspLen ≤ 64 → Completes (.mbxAck a b code m) s (fun t =>
    (t.dev.chan a.id b.id).st = 3 ∧ (t.dev.chan a.id b.id).ackCode = code.toNat ∧
    (t.dev.chan a.id b.id).rsp = (s.dev.chan a.id b.id).rsp ∧ (t.dev.chan a.id b.id).result = 1)) ∧
  ((s.dev.chan a.id b.id).st = 2 → b = .host → 64 < (s.dev.chan a.id b.id).rspLen → Completes (.mbxAck a b code m) s (fun t =>
    t.dev.chan a.id b.id = { s.dev.chan a.id b.id with result := 3 } ∧ Frame [.chans] [] s t)) ∧
  ((s.dev.chan a.id b.id).st ≠ 2 → b ≠ .host → Completes (.mbxAck a b code m) s (fun t => t = s)) ∧
  ((s.dev.chan a.id b.id).st ≠ 3 → a ≠ .host → Completes (.mbxRelease a b) s (fun t => t = s)) ∧
  ((s.dev.chan 2 0).st = 3 → s.dev.cpMail.notices = [] → Completes (.mbxRelease .cp .host) s (fun t =>
    (t.dev.chan 2 0).st = 0 ∧ (t.dev.chan 2 0).redeliv = false ∧ Frame [.chans] [] s t)) ∧
  (∀ (n : Notice) (rest : List Notice), (s.dev.chan 2 0).st = 3 → s.dev.cpMail.notices = n :: rest →
    Completes (.mbxRelease .cp .host) s (fun t => (t.dev.chan 2 0).st = 1 ∧ (t.dev.chan 2 0).redeliv = false ∧
      (t.dev.chan 2 0).len = 16 ∧ t.dev.cpMail.notices = rest)) ∧
  ((s.dev.chan a.id b.id).st = 3 → ¬(a = .cp ∧ b = .host) → Completes (.mbxRelease a b) s (fun t =>
    (t.dev.chan a.id b.id).st = 0 ∧ (t.dev.chan a.id b.id).redeliv = false ∧ Frame [.chans] [] s t)) ∧
  ((s.dev.chan a.id b.id).st ≠ 4 → Completes (.mbxChannelFault (a, b) .uncorrectable) s (fun t => (t.dev.chan a.id b.id).st = 4 ∧
    latched t.dev .resourceRetired = true)) ∧
  (Completes (.mbxChannelFault (a, b) .corrected) s (fun t => FrameReported [] [] s t)) ∧
  (b = .host → (s.dev.chan a.id b.id).st = 2 → Completes .mbxHostRestart s (fun t => (t.dev.chan a.id b.id).st = 1 ∧
    (t.dev.chan a.id b.id).redeliv = true ∧ (t.dev.chan a.id b.id).msg = (s.dev.chan a.id b.id).msg))

/-- With a host message taken by the CP, both rows serve it by its OPCODE (log entry 111): any but 1 and 2 is acknowledged
0xFFFF; opcode 1 with MORE is acknowledged 0xFFF0 and kept with its TAG; opcode 1, or a CONTINUE, of another TAG than
the exchange in progress 0xFFFD with nothing changed for the exchange; opcode 2 of four bytes is answered with the
next part of the reply and its code, with a payload 0xFFFE. (R182, R381) -/
def Obligations.ManagementMessages : Prop :=
  ∀ (s : State) (m : List Byte), s.dev.cpTaken = true → s.dev.hostMsg = m →
  ∀ c ∈ [Instr.ptpManagement, .continueMsg],
  (leNat (m.take 2) ≠ 1 → leNat (m.take 2) ≠ 2 → Completes c s (fun t => (t.dev.chan 0 2).st = 3 ∧
    (t.dev.chan 0 2).ackCode = 0xFFFF ∧ t.dev.cpMail = s.dev.cpMail)) ∧
  (leNat (m.take 2) ≠ 1 → Completes c s (FrameReported [.chans, .cpMail] [] s)) ∧
  (leNat (m.take 2) = 1 → s.dev.cpMail.tag = none → byteAt m 3 % 2 = 1 → Completes c s (fun t =>
    (t.dev.chan 0 2).st = 3 ∧ (t.dev.chan 0 2).ackCode = 0xFFF0 ∧ t.dev.cpMail.tag = some (byteAt m 2) ∧
    t.dev.cpMail.parts = (if s.dev.cpMail.reply.isEmpty then s.dev.cpMail.parts else []) ++ [m.drop 4])) ∧
  (leNat (m.take 2) = 1 ∨ (leNat (m.take 2) = 2 ∧ m.length = 4) → s.dev.cpMail.tag ≠ none →
    s.dev.cpMail.tag ≠ some (byteAt m 2) → Completes c s (fun t => (t.dev.chan 0 2).st = 3 ∧ (t.dev.chan 0 2).ackCode = 0xFFFD ∧ t.dev.cpMail = s.dev.cpMail)) ∧
  (leNat (m.take 2) = 2 → m.length = 4 → s.dev.cpMail.tag = none ∨ s.dev.cpMail.tag = some (byteAt m 2) →
    ∀ (p : List Byte) (rest : List (List Byte)), s.dev.cpMail.reply = p :: rest → p.length ≤ 60 →
      Completes c s (fun t => (t.dev.chan 0 2).st = 3 ∧
      (t.dev.chan 0 2).ackCode = s.dev.cpMail.replyCode ∧ t.dev.cpMail.reply = rest ∧ (t.dev.chan 0 2).rspLen = 4 + p.length)) ∧
  (leNat (m.take 2) = 2 → m.length ≠ 4 → Completes c s (fun t => (t.dev.chan 0 2).st = 3 ∧
    (t.dev.chan 0 2).ackCode = 0xFFFE ∧ t.dev.cpMail = s.dev.cpMail))

/-- cntDataWrite sets the counter named in CNT_IDX with the events of the same cycle on top and, on a wrap, counts in the
chained reserve; no other counter changes; CNT_DATA reads it. cntCfgWrite takes an event that R388 admits for a
selectable counter or a source that R384 admits for a reserve, else it sets CFG_REJ and changes nothing else, and of
any other counter it changes nothing. ringBoundary folds the latches in: each counter is the old one plus its latches
as long as that fits 32 bits, and wraps into its reserve as a count does; it takes the snapshot of the counters with
the next SEQ and the K in force, or counts a missed one while the fast domain is not ON. hostRingWrite writes the
record at HEAD of the ring that the boundary found and advances HEAD (not where the place has been written since: log
entry 115), or skips it with RING_UNDELIVERED where HEAD would meet TAIL, the bus master is off or the link is down;
telemetrySend offers 4 or 16 frames, none while its port is down; ringAreaRead, with no other access of the host
before it, answers the word at RING_AREA_ADDR, which advances. (R384, R385, R386, R388, R390, R391, R393 to R395) -/
def Obligations.CountersAndDumps : Prop :=
  (∀ (s : State) (v : Word) (n i : Nat), s.dev.fastReach = true → s.dev.get F.CNT_IDX_IDX = i →
  s.dev.cntAbsent i = false →
  (v.toNat + n < 2 ^ 32 ∨ s.dev.reserveOf i = none → Completes (.cntDataWrite v n) s (fun t =>
    t.dev.counter i = BitVec.ofNat 32 (v.toNat + n) ∧ (∀ j, j ≠ i → t.dev.counter j = s.dev.counter j) ∧ Frame [.counters] [] s t)) ∧
  (∀ (x : Nat), s.dev.reserveOf i = some x → x ≠ i → 2 ^ 32 ≤ v.toNat + n → ((s.dev.counter x).toNat + (v.toNat + n) / 2 ^ 32 : Nat) < 2 ^ 32 →
    Completes (.cntDataWrite v n) s (fun t => t.dev.counter i = BitVec.ofNat 32 (v.toNat + n) ∧
      t.dev.counter x = s.dev.counter x + BitVec.ofNat 32 ((v.toNat + n) / 2 ^ 32) ∧
      (∀ j, j ≠ i → j ≠ x → t.dev.counter j = s.dev.counter j) ∧ Frame [.counters] [] s t)) ∧
  (s.dev.readReg .CNT_DATA 0 = s.dev.counter i) ∧
  (isReserve i = false → isSelectable i = true → (eventCodes (decide (i < 3072))).contains (bitsOf v.toNat 0 12) = true →
    Completes (.cntCfgWrite v) s (fun t => cfgEvent (t.dev.cntCfgOf i) = bitsOf v.toNat 0 12 ∧
      cfgIndex (t.dev.cntCfgOf i) = bitsOf v.toNat 16 16 ∧ Frame [.cntCfg] [] s t)) ∧
  (isReserve i = false → isSelectable i = true → (eventCodes (decide (i < 3072))).contains (bitsOf v.toNat 0 12) = false →
    Completes (.cntCfgWrite v) s (fun t => t.dev.flag F.RING_STAT_CFG_REJ = true ∧ Frame [] [.RING_STAT] s t)) ∧
  (isReserve i = true → chainOk s.dev.cntCfg i (bitsOf v.toNat 0 12) = true → Completes (.cntCfgWrite v) s (fun t =>
    cfgEvent (t.dev.cntCfgOf i) = bitsOf v.toNat 0 12 ∧ Frame [.cntCfg] [] s t)) ∧
  (isReserve i = true → chainOk s.dev.cntCfg i (bitsOf v.toNat 0 12) = false → Completes (.cntCfgWrite v) s (fun t =>
    t.dev.flag F.RING_STAT_CFG_REJ = true ∧ Frame [] [.RING_STAT] s t)) ∧
  (isReserve i = false → isSelectable i = false → Completes (.cntCfgWrite v) s (fun t => t = s))) ∧
  (∀ (s : State) (x : Snapshot) (n h a : Nat),
  (s.dev.anyActive = true → s.dev.fastOn = true → Completes .ringBoundary s (fun t => t.dev.latches = [] ∧
    t.dev.ring.seq = (s.dev.ring.seq + 1) % 2 ^ 32 ∧ t.dev.ring.previous = s.dev.ring.latest ∧ t.dev.ring.missed = 0 ∧
    t.dev.counters = (s.dev.latches.foldl (fun (d : Dev) (e : Nat × Nat) => d.bump e.1 e.2) { s.dev with latches := [] }).counters ∧
    ((∀ i, (s.dev.counter i).toNat + ((s.dev.latches.filter (fun e => e.1 == i)).map Prod.snd).sum < 2 ^ 32) →
      ∀ i, (t.dev.counter i).toNat = (s.dev.counter i).toNat + ((s.dev.latches.filter (fun e => e.1 == i)).map Prod.snd).sum) ∧
    t.dev.ring.dest = s.dev.ringDest ∧
    ∃ y, t.dev.ring.latest = some y ∧ y.seq = s.dev.ring.seq ∧ y.missed = s.dev.ring.missed ∧ y.counters = t.dev.counters ∧
      y.k = s.dev.ringK)) ∧
  (s.dev.anyActive = true → s.dev.fastOn = false → Completes .ringBoundary s (fun t =>
    t.dev.ring = { s.dev.ring with missedOff := s.dev.ring.missedOff + 1 } ∧ Frame [.ring] [] s t)) ∧
  (s.dev.ring.hostDue = true → s.dev.ring.latest = some x → s.dev.ring.dest.entries = n →
    (∀ (g l : Nat), s.dev.ring.dest.moved = some (g, l) → (g + 1) % n ≠ l % n → s.dev.flag F.GLB_HOST_STAT_BME = true →
      s.dev.flag F.GLB_HOST_STAT_LINK_UP = true → Completes .hostRingWrite s (fun t =>
        t.dev.get F.RING_HOST_HEAD_HEAD = s.dev.get F.RING_HOST_HEAD_HEAD ∧ t.dev.ring.hostDue = false ∧
        Emit.hostRecord (s.dev.ring.dest.base + g * recordLen) x ∈ t.dev.sent)) ∧
    (s.dev.ring.dest.moved = none → s.dev.get F.RING_HOST_HEAD_HEAD = h → 0 < n → n ≤ 4096 → (h + 1) % n ≠ s.dev.get F.RING_HOST_TAIL_TAIL % n → s.dev.flag F.GLB_HOST_STAT_BME = true →
      s.dev.flag F.GLB_HOST_STAT_LINK_UP = true → Completes .hostRingWrite s (fun t => t.dev.get F.RING_HOST_HEAD_HEAD = (h + 1) % n ∧
        t.dev.ring.hostDue = false ∧ Emit.hostRecord (s.dev.ring.dest.base + h * recordLen) x ∈ t.dev.sent)) ∧
    (s.dev.ring.dest.moved = none → s.dev.get F.RING_HOST_HEAD_HEAD = h → (h + 1) % n = s.dev.get F.RING_HOST_TAIL_TAIL % n ∨
      s.dev.flag F.GLB_HOST_STAT_BME = false ∨ s.dev.flag F.GLB_HOST_STAT_LINK_UP = false → Completes .hostRingWrite s (fun t =>
      t.dev.get F.RING_HOST_HEAD_HEAD = h ∧ t.dev.ring.hostDue = false ∧ latched t.dev .ringUndelivered = true))) ∧
  (s.dev.ring.telDue = true → s.dev.ring.latest = some x →
    (s.dev.portUp (s.dev.telGet F.RING_TEL_CFG_TEL_PORT) = false → Completes .telemetrySend s (fun t => t.dev.ring.telDue = false ∧
      t.dev.sw.queues = s.dev.sw.queues)) ∧
    (s.dev.portUp (s.dev.telGet F.RING_TEL_CFG_TEL_PORT) = true → s.dev.hasPort (s.dev.telGet F.RING_TEL_CFG_TEL_PORT) = true →
      s.dev.bounded (s.dev.telGet F.RING_TEL_CFG_TEL_PORT) (s.dev.telGet F.RING_TEL_CFG_TEL_TC) = false → Completes .telemetrySend s (fun t =>
        t.dev.ring.telDue = false ∧
        t.dev.sw.nextFid = s.dev.sw.nextFid + (if s.dev.telGet F.RING_TEL_CFG_PART_WORDS = 1 then 4 else 16)))) ∧
  (s.dev.fastReach = true → hostIdle s.dev = true ∨ s.dev.pcie.ready = false → s.dev.get F.RING_AREA_ADDR_ADDR = a → a % 4 = 0 → a + 4 < 2 ^ 21 → Completes .ringAreaRead s (fun t =>
    t.dev.word .RING_AREA_DATA 0 = s.dev.areaWord a ∧ t.dev.get F.RING_AREA_ADDR_ADDR = a + 4 ∧
    t.dev.sent = s.dev.sent ++ [.readData (s.dev.areaWord a).toNat] ∧ Frame [.sent] [.RING_AREA_DATA, .RING_AREA_ADDR] s t)))

/-- Frames of power, start-up, servo and reference commands. Each named command answers a next state in which the flash,
the command queue, every part of the device outside the listed parts and every register outside the listed ones are as
before. -/
def Obligations.FramesOfReferencesAndTime : Prop :=
  ∀ (s : State),
(∀ (sel0 sel1 : Bool), Completes (.powerGood sel0 sel1) s (Frame [.ident, .sys, .cycles] [.GLB_BOOT_STAT] s)) ∧
(∀ (tb : TbId), Completes (.ocxoOscillates tb) s (Frame [.tbA, .tbB] [.FIRN_OCXO_STAT] s)) ∧
(∀ (tb : TbId), Completes (.ocxoWarmTimeout tb) s (FrameReported [.tbA, .tbB, .mir, .rsel, .cands, .twin, .syns, .outs,
    .chans, .cpMail, .sw, .ports, .ptus, .insts, .tio, .sys, .freeCtr] [.LANE_PARTNER_DOM, .LANE_PARTNER_ID_HI,
    .LANE_PARTNER_ID_LO, .LANE_PARTNER_INFO, .LANE_QUAD_CFG, .LANE_QUAD_STAT, .LANE_STAT, .LANE_TEST, .OUT_STAT,
    .PRT_GATE_STAT, .PRT_PTU_STAT, .PRT_Q_PTX, .PRT_Q_STAT, .PRT_REV_STAT, .PWR_PORT_STAT, .PWR_STAT, .RECOV_W4,
    .RSEL_CAND_FREQ, .RSEL_CAND_STAT, .SEQGEN_W0, .SW_BUF_GATED, .SYN_CMD, .SYN_STAT, .TB_HB_STAT, .TB_ROLE,
    .TB_TAKEOVER, .TB_TCMD, .TB_TSTAT, .TB_TWIN_CMD, .TIO_STAT] s)) ∧
(∀ (inp : ServoIn), Completes (.servoUpdate inp) s (FrameReported [.applied, .tbA, .tbB, .mir, .rsel, .cands, .twin,
    .syns, .outs, .sw, .ports, .ptus, .tio, .sys, .freeCtr] [.LANE_QUAD_STAT, .OUT_STAT, .PRT_GATE_STAT, .PWR_PORT_STAT,
    .PWR_STAT, .RSEL_CAND_FREQ, .RSEL_CAND_STAT, .RSEL_CMD, .RSEL_SEL, .SEQGEN_W0, .SW_BUF_GATED, .SYN_CMD, .SYN_STAT,
    .TB_MODEL_CMD, .TB_MODEL_STAT, .TB_ROLE, .TB_SERVO_STAT, .TB_TAKEOVER, .TB_TCMD, .TB_TSTAT, .TB_TWIN_CMD, .TIO_STAT]
    s)) ∧
Completes .wtrExpired s (FrameReported [.rsel, .cands] [.RSEL_CAND_STAT, .RSEL_SEL] s) ∧
(∀ (tb : TbId), Completes (.acceptJump tb) s (Frame [] [.TB_TCMD] s)) ∧
(∀ (tb : TbId), Completes (.timeSet tb) s (Frame [] [.TB_TCMD] s)) ∧
Completes .leapSecondApply s (Frame [.mir, .twin] [.SEQGEN_W0] s) ∧
(∀ (tb : TbId), Completes (.modelRestart tb) s (Frame [] [.TB_MODEL_CMD] s)) ∧
(∀ (n : RefinId) (edge : RefinEdge), Completes (.refinPpsEdge n edge) s (FrameReported [.tbA, .tbB, .mir, .rsel, .cands,
    .twin, .syns, .outs, .sw, .ports, .ptus, .tio, .sys, .freeCtr] [.LANE_QUAD_STAT, .OUT_STAT, .PRT_GATE_STAT,
    .PWR_PORT_STAT, .PWR_STAT, .RSEL_CAND_STAT, .SEQGEN_W0, .SW_BUF_GATED, .SYN_CMD, .SYN_STAT, .TB_TSTAT, .TIO_STAT]
    s)) ∧
(∀ (n : RefinId), Completes (.ppsWindowClose n) s (FrameReported [.cands] [.RSEL_CAND_STAT] s)) ∧
(∀ (n : RefinId), Completes (.freqActivityLoss n) s (FrameReported [.cands] [.RSEL_CAND_STAT] s)) ∧
(∀ (line : Fin 2) (bytes : List Byte) (delayUs : Nat), Completes (.todinMessage line bytes delayUs) s (FrameReported
    [.mir, .cands, .twin] [.RSEL_CAND_STAT, .SEQGEN_W0] s)) ∧
(∀ (n : RefinId), Completes (.todinLoss n) s (FrameReported [.cands] [.RSEL_CAND_STAT] s)) ∧
(∀ (id : CandId) (freq : Int), Completes (.freqGateEnd id freq) s (FrameReported [.cands] [.RSEL_CAND_FREQ,
    .RSEL_CAND_STAT] s)) ∧
(∀ (id : CandId), Completes (.candidateQualified id) s (Frame [.cands] [.RSEL_CAND_STAT] s)) ∧
(∀ (n : RefinId) (v : Word), Completes (.refinCfgWrite n v) s (FrameReported [.cands] [.RSEL_CAND_STAT, .RSEL_REFIN_CFG]
    s)) ∧
Completes .skipWtr s (FrameReported [.rsel, .cands] [.RSEL_CAND_STAT, .RSEL_SEL] s) ∧
Completes .clearBars s (Frame [] [.RSEL_CMD] s) ∧
(∀ (e : MemErr (Fin 36)), Completes (.monitorError e) s (FrameReported [.cands] [.RSEL_CAND_STAT] s)) ∧
Completes .cfgCommandDone s (Frame [.sys] [.GLB_CFG_CMD] s) ∧
Completes .conversionEnable s (Frame [.sys] [] s) ∧
Completes .resetNRelease s (Frame [.sys] [] s) ∧
(∀ (warmA warmB : Bool), Completes (.ocxoWarmDeclared warmA warmB) s (FrameReported [.tbA, .tbB, .twin, .syns, .outs,
    .sys] [.FIRN_OCXO_STAT, .GLB_BOOT_STAT, .OUT_STAT, .SYN_CMD, .SYN_STAT, .TB_ROLE, .UPD_CONFIRM_LEFT, .UPD_STAT] s))

/-- Frames of the twin-timebase commands. Each named command answers a next state in which the flash, the command queue,
every part of the device outside the listed parts and every register outside the listed ones are as before. -/
def Obligations.FramesOfTheTwin : Prop :=
  ∀ (s : State),
(∀ (x : Int), Completes (.standbyCounterLoad x) s (Frame [.tbA, .tbB, .twin] [] s)) ∧
(∀ (x : Int), Completes (.standbyEntersTracking x) s (Frame [.tbA, .tbB, .twin] [.TB_ROLE] s)) ∧
(∀ (x : Int), Completes (.standbyEntersReady x) s (FrameReported [.tbA, .tbB, .mir, .cands, .twin, .freeCtr]
    [.RSEL_CAND_FREQ, .SEQGEN_W0, .TB_ROLE, .TB_TAKEOVER, .TB_TCMD, .TB_TWIN_CMD] s)) ∧
(∀ (x : Int), Completes (.standbyTrackLost x) s (FrameReported [.tbA, .tbB, .mir, .cands, .twin, .freeCtr]
    [.RSEL_CAND_FREQ, .SEQGEN_W0, .TB_ROLE, .TB_TAKEOVER, .TB_TCMD, .TB_TWIN_CMD] s)) ∧
(∀ (watchdog : Bool), Completes (.standbyFault watchdog) s (FrameReported [.tbA, .tbB, .mir, .cands, .twin, .chans,
    .freeCtr] [.RSEL_CAND_FREQ, .SEQGEN_W0, .TB_ROLE, .TB_TAKEOVER, .TB_TCMD, .TB_TWIN_CMD] s)) ∧
Completes .standbyNotReadyTimeout s (FrameReported [] [] s) ∧
(∀ (selfCheckOk : Bool), Completes (.heartbeatEmit selfCheckOk) s (Frame [.twin] [] s)) ∧
(∀ (path : HbPath), Completes (.heartbeatReceived path) s (FrameReported [.tbA, .tbB, .mir, .cands, .twin, .syns, .outs,
    .sw, .ports, .sys, .freeCtr] [.LANE_QUAD_STAT, .OUT_STAT, .PWR_PORT_STAT, .PWR_STAT, .RSEL_CAND_FREQ, .SEQGEN_W0,
    .SW_BUF_GATED, .SYN_CMD, .SYN_STAT, .TB_HB_STAT, .TB_ROLE, .TB_TAKEOVER, .TB_TCMD, .TB_TWIN_CMD] s)) ∧
(∀ (line mem : Bool), Completes (.heartbeatMiss line mem) s (FrameReported [.twin, .syns, .outs, .sw, .ports, .sys]
    [.LANE_QUAD_STAT, .OUT_STAT, .PWR_PORT_STAT, .PWR_STAT, .SW_BUF_GATED, .SYN_CMD, .SYN_STAT, .TB_HB_STAT, .TB_ROLE,
    .TB_TWIN_CMD] s)) ∧
(∀ (cp0Ok cp1Ok : Bool) (goodEntries : Nat), Completes (.mirrorReplayDone cp0Ok cp1Ok goodEntries) s (FrameReported
    [.twin] [] s)) ∧
Completes .failureDeclared s (FrameReported [.tbA, .tbB, .mir, .rsel, .cands, .twin, .syns, .outs, .chans, .cpMail, .sw,
    .ports, .ptus, .insts, .tio, .sys, .freeCtr] [.LANE_PARTNER_DOM, .LANE_PARTNER_ID_HI, .LANE_PARTNER_ID_LO,
    .LANE_PARTNER_INFO, .LANE_QUAD_CFG, .LANE_QUAD_STAT, .LANE_STAT, .LANE_TEST, .OUT_STAT, .PRT_GATE_STAT,
    .PRT_PTU_STAT, .PRT_Q_PTX, .PRT_Q_STAT, .PRT_REV_STAT, .PWR_PORT_STAT, .PWR_STAT, .RECOV_W4, .RSEL_CAND_FREQ,
    .RSEL_CAND_STAT, .SEQGEN_W0, .SW_BUF_GATED, .SYN_CMD, .SYN_STAT, .TB_HB_STAT, .TB_ROLE, .TB_TAKEOVER, .TB_TCMD,
    .TB_TSTAT, .TB_TWIN_CMD, .TIO_STAT] s) ∧
(∀ (verified : Bool), Completes (.checkpointWrite verified) s (FrameReported [.tbA, .tbB, .mir, .cands, .twin, .freeCtr]
    [.RSEL_CAND_FREQ, .SEQGEN_W0, .TB_ROLE, .TB_TAKEOVER, .TB_TCMD, .TB_TWIN_CMD] s)) ∧
Completes .twinSwitch s (Frame [.twin] [.TB_ROLE, .TB_TWIN_CMD] s) ∧
Completes .handover s (FrameReported [.tbA, .tbB, .mir, .cands, .twin, .freeCtr] [.RSEL_CAND_FREQ, .SEQGEN_W0, .TB_ROLE,
    .TB_TAKEOVER, .TB_TCMD, .TB_TWIN_CMD] s) ∧
Completes .revertiveTimerExpired s (FrameReported [.tbA, .tbB, .mir, .cands, .twin, .freeCtr] [.RSEL_CAND_FREQ,
    .SEQGEN_W0, .TB_ROLE, .TB_TAKEOVER, .TB_TCMD, .TB_TWIN_CMD] s) ∧
Completes .standbyOff s (FrameReported [.tbA, .tbB, .mir, .cands, .twin, .freeCtr] [.RSEL_CAND_FREQ, .SEQGEN_W0,
    .TB_ROLE, .TB_TAKEOVER, .TB_TCMD, .TB_TWIN_CMD] s) ∧
Completes .standbyOn s (FrameReported [.tbA, .tbB, .twin] [.TB_ROLE, .TB_TWIN_CMD] s)

/-- Frames of the synthesizer and output commands. Each named command answers a next state in which the flash, the command
queue, every part of the device outside the listed parts and every register outside the listed ones are as before. -/
def Obligations.FramesOfSynthesis : Prop :=
  ∀ (s : State),
(∀ (i : SynId) (v : Word), Completes (.synCfgWrite i v) s (FrameReported [.syns, .outs] [.OUT_STAT, .SYN_CFG, .SYN_CMD,
    .SYN_STAT] s)) ∧
(∀ (i : SynId) (bank : Fin 2) (entry : Fin 64) (word : Fin 2) (v : Word), Completes (.bandEntryWrite i bank entry word
    v) s (FrameReported [.syns, .outs] [.OUT_STAT, .SYN_BAND_W0, .SYN_BAND_W1, .SYN_CMD, .SYN_STAT] s)) ∧
(∀ (i : SynId) (v : Word), Completes (.synFreqHiWrite i v) s (FrameReported [.syns, .outs] [.OUT_STAT, .SYN_CMD,
    .SYN_FREQ_HI, .SYN_FREQ_LO, .SYN_STAT] s)) ∧
(∀ (i : SynId), Completes (.synLockDeclared i) s (FrameReported [.twin, .syns, .outs, .sw, .ports, .tio, .sys]
    [.LANE_QUAD_STAT, .OUT_STAT, .PWR_PORT_STAT, .PWR_STAT, .SW_BUF_GATED, .SYN_CMD, .SYN_STAT, .TB_HB_STAT,
    .TB_TAKEOVER, .TIO_STAT] s)) ∧
(∀ (i : SynId), Completes (.synAcqTimeout i) s (FrameReported [.syns, .outs] [.OUT_STAT, .SYN_CMD, .SYN_STAT] s)) ∧
(∀ (i : SynId), Completes (.synLockLost i) s (FrameReported [.cands, .twin, .syns, .outs, .chans, .cpMail, .sw, .ports,
    .ptus, .insts, .tio, .sys, .freeCtr] [.LANE_PARTNER_DOM, .LANE_PARTNER_ID_HI, .LANE_PARTNER_ID_LO,
    .LANE_PARTNER_INFO, .LANE_QUAD_CFG, .LANE_QUAD_STAT, .LANE_STAT, .LANE_TEST, .OUT_CMD, .OUT_STAT, .PRT_GATE_STAT,
    .PRT_PTU_STAT, .PRT_Q_PTX, .PRT_Q_STAT, .PRT_REV_STAT, .PWR_PORT_STAT, .PWR_STAT, .RECOV_W4, .RSEL_CAND_STAT,
    .SW_BUF_GATED, .SYN_CMD, .SYN_STAT, .TB_HB_STAT, .TB_TAKEOVER, .TIO_STAT] s)) ∧
(∀ (i : SynId), Completes (.retune i) s (FrameReported [.syns, .outs] [.OUT_STAT, .SYN_CMD, .SYN_STAT] s)) ∧
(∀ (i : SynId), Completes (.phaseStep i) s (FrameReported [.syns, .outs] [.OUT_STAT, .SYN_CMD, .SYN_STAT] s)) ∧
(∀ (i : SynId), Completes (.stepAt i) s (FrameReported [.syns] [.SYN_CMD, .SYN_STAT] s)) ∧
(∀ (i : SynId), Completes (.stepAtStart i) s (Frame [.syns, .outs] [.OUT_STAT, .SYN_STAT] s)) ∧
(∀ (i : SynId), Completes (.resync i) s (FrameReported [.syns, .outs] [.OUT_STAT, .SYN_CMD, .SYN_STAT] s)) ∧
(∀ (i : SynId), Completes (.stepCancel i) s (Frame [.syns, .outs] [.SYN_CMD, .SYN_STAT] s)) ∧
(∀ (i : SynId), Completes (.stepComplete i) s (Frame [.syns, .outs] [.OUT_STAT, .SYN_STAT] s)) ∧
(∀ (n : OutId) (v : Word), Completes (.outCfgWrite n v) s (FrameReported [.twin, .syns, .outs, .sw, .ports, .sys]
    [.LANE_QUAD_STAT, .OUT_CFG, .OUT_STAT, .PWR_PORT_STAT, .PWR_STAT, .SW_BUF_GATED, .SYN_CMD, .SYN_STAT, .TB_HB_STAT,
    .TB_TAKEOVER] s)) ∧
(∀ (n : OutId) (v : Word), Completes (.outPerHiWrite n v) s (Frame [.outs] [.OUT_PER_HI, .OUT_PER_LO, .OUT_STAT] s)) ∧
(∀ (n : OutId) (v : Word), Completes (.outAlignWrite n v) s (Frame [] [.OUT_ALIGN, .OUT_STAT] s)) ∧
(∀ (n : OutId), Completes (.outputStart n) s (Frame [.outs, .sent] [.OUT_STAT] s)) ∧
(∀ (n : OutId), Completes (.align n) s (Frame [.outs] [.OUT_CMD, .OUT_STAT] s)) ∧
(∀ (n : OutId), Completes (.arm n) s (Frame [] [.OUT_CMD, .OUT_STAT] s)) ∧
(∀ (n : OutId), Completes (.disarm n) s (Frame [] [.OUT_CMD, .OUT_STAT] s)) ∧
(∀ (n : OutId), Completes (.alignedEdge n) s (Frame [.outs, .sent] [.OUT_STAT] s))

/-- Frames of the lane commands. Each named command answers a next state in which the flash, the command queue, every part
of the device outside the listed parts and every register outside the listed ones are as before. -/
def Obligations.FramesOfLanes : Prop :=
  ∀ (s : State),
(∀ (p : PortId) (v : Word), Completes (.quadModeWrite p v) s (FrameReported [.cands, .syns, .outs, .chans, .cpMail, .sw,
    .ports, .ptus, .sys, .freeCtr] [.LANE_PARTNER_DOM, .LANE_PARTNER_ID_HI, .LANE_PARTNER_ID_LO, .LANE_PARTNER_INFO,
    .LANE_QUAD_CFG, .LANE_QUAD_STAT, .LANE_STAT, .LANE_TEST, .OUT_STAT, .PRT_GATE_STAT, .PRT_PTU_STAT, .PRT_Q_PTX,
    .PRT_Q_STAT, .PRT_REV_STAT, .PWR_PORT_STAT, .PWR_STAT, .RECOV_W4, .RSEL_CAND_STAT, .SW_BUF_GATED, .SYN_CMD,
    .SYN_STAT] s)) ∧
(∀ (p : PortId) (ended : PhaseEnd) (lat : LatMeas), Completes (.bringupPhaseDone p ended lat) s (FrameReported [.ptus]
    [.LANE_QUAD_STAT, .LANE_STAT, .PRT_LAT_STAT] s)) ∧
(∀ (p : PortId), Completes (.bringupTimeout p) s (FrameReported [] [.LANE_QUAD_STAT] s)) ∧
(∀ (p : PortId), Completes (.linkUp p) s (FrameReported [.cands, .syns, .outs, .chans, .cpMail, .sw, .ports, .ptus,
    .sys, .freeCtr] [.LANE_BRINGUP, .LANE_QUAD_STAT, .OUT_STAT, .PRT_PTU_STAT, .PRT_Q_PTX, .PRT_REV_STAT,
    .PWR_PORT_STAT, .PWR_STAT, .RSEL_CAND_STAT, .SW_BUF_GATED, .SYN_CMD, .SYN_STAT] s)) ∧
(∀ (p : PortId), Completes (.lossOfSignal p) s (FrameReported [.cands, .syns, .outs, .chans, .cpMail, .sw, .ports,
    .ptus, .sys, .freeCtr] [.LANE_PARTNER_DOM, .LANE_PARTNER_ID_HI, .LANE_PARTNER_ID_LO, .LANE_PARTNER_INFO,
    .LANE_QUAD_STAT, .LANE_STAT, .OUT_STAT, .PRT_GATE_STAT, .PRT_PTU_STAT, .PRT_Q_PTX, .PRT_Q_STAT, .PRT_REV_STAT,
    .PWR_PORT_STAT, .PWR_STAT, .RECOV_W4, .RSEL_CAND_STAT, .SW_BUF_GATED, .SYN_CMD, .SYN_STAT] s)) ∧
(∀ (p : PortId), Completes (.lockLost p) s (FrameReported [.cands, .syns, .outs, .chans, .cpMail, .sw, .ports, .ptus,
    .sys, .freeCtr] [.LANE_PARTNER_DOM, .LANE_PARTNER_ID_HI, .LANE_PARTNER_ID_LO, .LANE_PARTNER_INFO, .LANE_QUAD_STAT,
    .LANE_STAT, .OUT_STAT, .PRT_GATE_STAT, .PRT_PTU_STAT, .PRT_Q_PTX, .PRT_Q_STAT, .PRT_REV_STAT, .PWR_PORT_STAT,
    .PWR_STAT, .RECOV_W4, .RSEL_CAND_STAT, .SW_BUF_GATED, .SYN_CMD, .SYN_STAT] s)) ∧
(∀ (p : PortId) (uncorrectable corrected : Nat) (hiBer : Bool), Completes (.degradeWindowEnd p uncorrectable corrected
    hiBer) s (FrameReported [.cands, .syns, .outs, .chans, .cpMail, .sw, .ports, .ptus, .sys, .freeCtr]
    [.LANE_PARTNER_DOM, .LANE_PARTNER_ID_HI, .LANE_PARTNER_ID_LO, .LANE_PARTNER_INFO, .LANE_QUAD_STAT, .LANE_STAT,
    .OUT_STAT, .PRT_GATE_STAT, .PRT_PTU_STAT, .PRT_Q_PTX, .PRT_Q_STAT, .PRT_REV_STAT, .PWR_PORT_STAT, .PWR_STAT,
    .RECOV_W4, .RSEL_CAND_STAT, .SW_BUF_GATED, .SYN_CMD, .SYN_STAT] s)) ∧
(∀ (l : LaneId), Completes (.laneFault l) s (FrameReported [.cands, .syns, .outs, .chans, .cpMail, .sw, .ports, .ptus,
    .sys, .freeCtr] [.LANE_PARTNER_DOM, .LANE_PARTNER_ID_HI, .LANE_PARTNER_ID_LO, .LANE_PARTNER_INFO, .LANE_QUAD_STAT,
    .LANE_STAT, .OUT_STAT, .PRT_GATE_STAT, .PRT_PTU_STAT, .PRT_Q_PTX, .PRT_Q_STAT, .PRT_REV_STAT, .PWR_PORT_STAT,
    .PWR_STAT, .RECOV_W4, .RSEL_CAND_STAT, .SW_BUF_GATED, .SYN_CMD, .SYN_STAT] s)) ∧
(∀ (l : LaneId) (v : Word), Completes (.laneTestWrite l v) s (FrameReported [.cands, .syns, .outs, .chans, .cpMail, .sw,
    .ports, .ptus, .sys, .freeCtr] [.LANE_PARTNER_DOM, .LANE_PARTNER_ID_HI, .LANE_PARTNER_ID_LO, .LANE_PARTNER_INFO,
    .LANE_QUAD_STAT, .LANE_STAT, .LANE_TEST, .OUT_STAT, .PRT_GATE_STAT, .PRT_PTU_STAT, .PRT_Q_PTX, .PRT_Q_STAT,
    .PRT_REV_STAT, .PWR_PORT_STAT, .PWR_STAT, .RECOV_W4, .RSEL_CAND_STAT, .SW_BUF_GATED, .SYN_CMD, .SYN_STAT] s)) ∧
(∀ (l : LaneId), Completes (.chkLockGained l) s (Frame [] [.LANE_STAT] s)) ∧
(∀ (l : LaneId) (e : PrbsErrors), Completes (.chkLockLost l e) s (Frame [] [.LANE_PRBS_ERR, .LANE_STAT] s)) ∧
(∀ (l : LaneId) (v : Word), Completes (.laneCfgWrite l v) s (FrameReported [.cands, .syns, .outs, .chans, .cpMail, .sw,
    .ports, .ptus, .sys, .freeCtr] [.LANE_CFG, .LANE_PARTNER_DOM, .LANE_PARTNER_ID_HI, .LANE_PARTNER_ID_LO,
    .LANE_PARTNER_INFO, .LANE_QUAD_STAT, .LANE_STAT, .OUT_STAT, .PRT_GATE_STAT, .PRT_PTU_STAT, .PRT_Q_PTX, .PRT_Q_STAT,
    .PRT_REV_STAT, .PWR_PORT_STAT, .PWR_STAT, .RECOV_W4, .RSEL_CAND_STAT, .SW_BUF_GATED, .SYN_CMD, .SYN_STAT] s)) ∧
(∀ (p : PortId), Completes (.quadRestart p) s (FrameReported [.cands, .syns, .outs, .chans, .cpMail, .sw, .ports, .ptus,
    .sys, .freeCtr] [.LANE_PARTNER_DOM, .LANE_PARTNER_ID_HI, .LANE_PARTNER_ID_LO, .LANE_PARTNER_INFO, .LANE_QUAD_CMD,
    .LANE_QUAD_STAT, .LANE_STAT, .OUT_STAT, .PRT_GATE_STAT, .PRT_PTU_STAT, .PRT_Q_PTX, .PRT_Q_STAT, .PRT_REV_STAT,
    .PWR_PORT_STAT, .PWR_STAT, .RECOV_W4, .RSEL_CAND_STAT, .SW_BUF_GATED, .SYN_CMD, .SYN_STAT] s)) ∧
(∀ (p : PortId) (v : Word), Completes (.discEnWrite p v) s (FrameReported [.cands, .syns, .outs, .chans, .cpMail, .sw,
    .ports, .ptus, .sys, .freeCtr] [.LANE_PARTNER_DOM, .LANE_PARTNER_ID_HI, .LANE_PARTNER_ID_LO, .LANE_PARTNER_INFO,
    .LANE_QUAD_CFG, .LANE_QUAD_STAT, .LANE_STAT, .LANE_TEST, .OUT_STAT, .PRT_GATE_STAT, .PRT_PTU_STAT, .PRT_Q_PTX,
    .PRT_Q_STAT, .PRT_REV_STAT, .PWR_PORT_STAT, .PWR_STAT, .RECOV_W4, .RSEL_CAND_STAT, .SW_BUF_GATED, .SYN_CMD,
    .SYN_STAT] s)) ∧
(∀ (p : PortId), Completes (.sleepEntryDecision p) s (FrameReported [.syns, .outs, .chans, .cpMail, .sw, .ports, .sys,
    .freeCtr] [.LANE_QUAD_STAT, .OUT_STAT, .PRT_PTU_STAT, .PWR_PORT_STAT, .PWR_STAT, .SW_BUF_GATED, .SYN_CMD, .SYN_STAT]
    s)) ∧
(∀ (p : PortId) (bytes : List Byte) (fcsOk : Bool), Completes (.sleepNoticeReceived p bytes fcsOk) s (FrameReported
    [.ports] [.LANE_QUAD_STAT] s)) ∧
(∀ (p : PortId) (d : Dir) (streamRuns : Bool), Completes (.sleepEntry p d streamRuns) s (FrameReported [.sw, .ports]
    [.LANE_QUAD_STAT, .PRT_PTU_STAT, .PWR_STAT, .SW_BUF_GATED] s)) ∧
(∀ (p : PortId), Completes (.deepening p) s (FrameReported [.syns, .outs, .sw, .ports, .sys] [.LANE_QUAD_STAT,
    .OUT_STAT, .PWR_STAT, .SW_BUF_GATED, .SYN_CMD, .SYN_STAT] s)) ∧
(∀ (p : PortId) (d : Dir), Completes (.burstLead p d) s (FrameReported [.syns, .outs, .ports, .sys] [.OUT_STAT,
    .SYN_CMD, .SYN_STAT] s)) ∧
(∀ (p : PortId), Completes (.refreshBurst p) s (FrameReported [.ports] [] s)) ∧
(∀ (p : PortId) (correction : Int), Completes (.burstReceived p correction) s (FrameReported [.cands, .syns, .outs,
    .chans, .cpMail, .sw, .ports, .ptus, .sys, .freeCtr] [.LANE_PARTNER_DOM, .LANE_PARTNER_ID_HI, .LANE_PARTNER_ID_LO,
    .LANE_PARTNER_INFO, .LANE_QUAD_STAT, .LANE_STAT, .OUT_STAT, .PRT_GATE_STAT, .PRT_PTU_STAT, .PRT_Q_PTX, .PRT_Q_STAT,
    .PRT_REV_STAT, .PWR_PORT_STAT, .PWR_STAT, .RECOV_W4, .RSEL_CAND_STAT, .SW_BUF_GATED, .SYN_CMD, .SYN_STAT] s)) ∧
(∀ (p : PortId), Completes (.burstMissed p) s (FrameReported [.cands, .syns, .outs, .chans, .cpMail, .sw, .ports, .ptus,
    .sys, .freeCtr] [.LANE_PARTNER_DOM, .LANE_PARTNER_ID_HI, .LANE_PARTNER_ID_LO, .LANE_PARTNER_INFO, .LANE_QUAD_STAT,
    .LANE_STAT, .OUT_STAT, .PRT_GATE_STAT, .PRT_PTU_STAT, .PRT_Q_PTX, .PRT_Q_STAT, .PRT_REV_STAT, .PWR_PORT_STAT,
    .PWR_STAT, .RECOV_W4, .RSEL_CAND_STAT, .SW_BUF_GATED, .SYN_CMD, .SYN_STAT] s)) ∧
(∀ (p : PortId) (cause : WakeCause), Completes (.txWakeDecision p cause) s (FrameReported [.syns, .outs, .sw, .ports,
    .sys] [.LANE_QUAD_STAT, .OUT_STAT, .PWR_PORT_STAT, .PWR_STAT, .SW_BUF_GATED, .SYN_CMD, .SYN_STAT] s)) ∧
(∀ (p : PortId) (lat : LatMeas), Completes (.wakeGuardEnd p lat) s (FrameReported [.cands, .syns, .outs, .chans,
    .cpMail, .sw, .ports, .ptus, .sys, .freeCtr] [.LANE_PARTNER_DOM, .LANE_PARTNER_ID_HI, .LANE_PARTNER_ID_LO,
    .LANE_PARTNER_INFO, .LANE_QUAD_STAT, .LANE_STAT, .OUT_STAT, .PRT_GATE_STAT, .PRT_LAT_STAT, .PRT_PTU_STAT,
    .PRT_Q_PTX, .PRT_Q_STAT, .PRT_REV_STAT, .PWR_PORT_STAT, .PWR_STAT, .RECOV_W4, .RSEL_CAND_STAT, .SW_BUF_GATED,
    .SYN_CMD, .SYN_STAT] s)) ∧
(∀ (p : PortId) (correction : Int) (lat : LatMeas) (step : RxWakeStep), Completes (.rxWakeDetected p correction lat
    step) s (FrameReported [.cands, .syns, .outs, .chans, .cpMail, .sw, .ports, .ptus, .sys, .freeCtr]
    [.LANE_PARTNER_DOM, .LANE_PARTNER_ID_HI, .LANE_PARTNER_ID_LO, .LANE_PARTNER_INFO, .LANE_QUAD_STAT, .LANE_STAT,
    .OUT_STAT, .PRT_GATE_STAT, .PRT_LAT_STAT, .PRT_PTU_STAT, .PRT_Q_PTX, .PRT_Q_STAT, .PRT_REV_STAT, .PWR_PORT_STAT,
    .PWR_STAT, .RECOV_W4, .RSEL_CAND_STAT, .SW_BUF_GATED, .SYN_CMD, .SYN_STAT] s)) ∧
(∀ (runsAgain : Bool), Completes (.smcStopped runsAgain) s (FrameReported [.syns, .outs, .chans, .sw, .ports, .sys]
    [.LANE_QUAD_STAT, .OUT_STAT, .PWR_PORT_STAT, .PWR_STAT, .SW_BUF_GATED, .SYN_CMD, .SYN_STAT] s)) ∧
(∀ (p : PortId), Completes (.helloSend p) s (FrameReported [.syns, .outs, .sw, .ports, .sys, .freeCtr] [.LANE_QUAD_STAT,
    .OUT_STAT, .PWR_STAT, .SW_BUF_GATED, .SYN_CMD, .SYN_STAT] s)) ∧
(∀ (p : PortId) (bytes : List Byte) (fcsOk : Bool), Completes (.helloReceived p bytes fcsOk) s (FrameReported [.syns,
    .outs, .sw, .ports, .sys] [.LANE_PARTNER_DOM, .LANE_PARTNER_ID_HI, .LANE_PARTNER_ID_LO, .LANE_PARTNER_INFO,
    .LANE_QUAD_STAT, .OUT_STAT, .PRT_PTU_STAT, .PWR_PORT_STAT, .PWR_STAT, .SW_BUF_GATED, .SYN_CMD, .SYN_STAT] s)) ∧
(∀ (p : PortId), Completes (.partnerLost p) s (FrameReported [.syns, .outs, .sw, .ports, .sys] [.LANE_PARTNER_DOM,
    .LANE_PARTNER_ID_HI, .LANE_PARTNER_ID_LO, .LANE_PARTNER_INFO, .LANE_QUAD_STAT, .OUT_STAT, .PRT_PTU_STAT,
    .PWR_PORT_STAT, .PWR_STAT, .SW_BUF_GATED, .SYN_CMD, .SYN_STAT] s))

/-- Frames of the port time transfer commands. Each named command answers a next state in which the flash, the command
queue, every part of the device outside the listed parts and every register outside the listed ones are as before. -/
def Obligations.FramesOfPtp : Prop :=
  ∀ (s : State),
(∀ (p : PortId) (phiRx phiTx : Nat) (within1ppm : Bool), Completes (.beatSample p phiRx phiTx within1ppm) s (Frame
    [.cands, .ptus] [.PRT_PTU_STAT] s)) ∧
(∀ (p : PortId) (m : PtpMsg) (cap : Capture), Completes (.ptpSyncReceived p m cap) s (FrameReported [.cands, .ptus,
    .sys] [.PRT_PTU_STAT, .PRT_REV_STAT, .PWR_STAT, .RSEL_CAND_STAT] s)) ∧
(∀ (p : PortId) (m : PtpMsg), Completes (.ptpFollowUpReceived p m) s (FrameReported [.cands, .ptus, .sys]
    [.PRT_PTU_STAT, .PRT_REV_STAT, .PWR_STAT] s)) ∧
(∀ (p : PortId) (m : PtpMsg) (d : AnnounceData), Completes (.ptpAnnounceReceived p m d) s (FrameReported [.mir, .cands,
    .twin, .ptus, .sys] [.PRT_PTU_STAT, .PWR_STAT, .RSEL_CAND_STAT, .SEQGEN_W0] s)) ∧
(∀ (p : PortId) (m : PtpMsg) (cap : Capture), Completes (.delayReqReceived p m cap) s (FrameReported [.syns, .outs, .sw,
    .ports, .ptus, .sys, .freeCtr] [.LANE_QUAD_STAT, .OUT_STAT, .PWR_STAT, .SW_BUF_GATED, .SYN_CMD, .SYN_STAT] s)) ∧
(∀ (p : PortId) (m : PtpMsg), Completes (.delayRespReceived p m) s (FrameReported [.ptus, .sys] [.PRT_PTU_STAT,
    .PRT_REV_STAT, .PWR_STAT] s)) ∧
(∀ (p : PortId) (m : PtpMsg) (cap txCap : Capture), Completes (.pdelayReqReceived p m cap txCap) s (FrameReported
    [.syns, .outs, .sw, .ports, .ptus, .sys, .freeCtr] [.LANE_QUAD_STAT, .OUT_STAT, .PWR_STAT, .SW_BUF_GATED, .SYN_CMD,
    .SYN_STAT] s)) ∧
(∀ (p : PortId) (r : PdelayReply), Completes (.pdelayRespReceived p r) s (FrameReported [.ptus, .sys] [.PRT_PTU_STAT,
    .PRT_REV_STAT, .PWR_STAT] s)) ∧
(∀ (p : PortId) (cap : Capture), Completes (.ptpSyncTransmit p cap) s (FrameReported [.syns, .outs, .sw, .ports, .ptus,
    .sys, .freeCtr] [.LANE_QUAD_STAT, .OUT_STAT, .PWR_STAT, .SW_BUF_GATED, .SYN_CMD, .SYN_STAT] s)) ∧
(∀ (p : PortId), Completes (.ptpFollowUpTransmit p) s (FrameReported [.syns, .outs, .sw, .ports, .ptus, .sys, .freeCtr]
    [.LANE_QUAD_STAT, .OUT_STAT, .PWR_STAT, .SW_BUF_GATED, .SYN_CMD, .SYN_STAT] s)) ∧
(∀ (p : PortId), Completes (.ptpAnnounceTransmit p) s (FrameReported [.syns, .outs, .sw, .ports, .ptus, .sys, .freeCtr]
    [.LANE_QUAD_STAT, .OUT_STAT, .PWR_STAT, .SW_BUF_GATED, .SYN_CMD, .SYN_STAT] s)) ∧
(∀ (p : PortId) (cap : Capture), Completes (.delayReqTransmit p cap) s (FrameReported [.syns, .outs, .sw, .ports, .ptus,
    .sys, .freeCtr] [.LANE_QUAD_STAT, .OUT_STAT, .PWR_STAT, .SW_BUF_GATED, .SYN_CMD, .SYN_STAT] s)) ∧
(∀ (p : PortId) (cap : Capture), Completes (.delayRefresh p cap) s (FrameReported [.syns, .outs, .sw, .ports, .ptus,
    .sys, .freeCtr] [.LANE_QUAD_STAT, .OUT_STAT, .PWR_STAT, .SW_BUF_GATED, .SYN_CMD, .SYN_STAT] s)) ∧
(∀ (p : PortId) (k : ReceiptKind), Completes (.ptpReceiptTimeout p k) s (FrameReported [.cands, .chans, .cpMail, .ptus,
    .sys, .freeCtr] [.PRT_PTU_STAT, .PRT_REV_STAT, .PWR_STAT, .RSEL_CAND_STAT] s)) ∧
(∀ (inst : Fin 4), Completes (.bmcaRun inst) s (FrameReported [.cands, .syns, .outs, .chans, .cpMail, .sw, .ports,
    .ptus, .sys, .freeCtr] [.LANE_QUAD_STAT, .OUT_STAT, .PRT_PTU_STAT, .PRT_REV_STAT, .PWR_STAT, .RSEL_CAND_STAT,
    .SW_BUF_GATED, .SYN_CMD, .SYN_STAT] s)) ∧
(∀ (p : PortId) (v : Word), Completes (.ptpCfgWrite p v) s (FrameReported [.cands, .syns, .outs, .chans, .cpMail, .sw,
    .ports, .ptus, .sys, .freeCtr] [.LANE_QUAD_STAT, .OUT_STAT, .PRT_PTP_CFG, .PRT_PTP_RATE, .PRT_PTU_STAT,
    .PRT_REV_STAT, .PWR_PORT_STAT, .PWR_STAT, .RSEL_CAND_STAT, .SW_BUF_GATED, .SYN_CMD, .SYN_STAT] s)) ∧
(∀ (p : PortId) (v : Word), Completes (.revStart p v) s (Frame [.ptus] [.PRT_REV_CMD, .PRT_REV_STAT] s)) ∧
(∀ (p : PortId), Completes (.revMeasurementDone p) s (Frame [.ptus] [.PRT_REV_RESULT, .PRT_REV_STAT] s)) ∧
(∀ (p : PortId), Completes (.revStepTimeout p) s (Frame [.ptus] [.PRT_REV_RESULT, .PRT_REV_STAT] s)) ∧
(∀ (p : PortId), Completes (.revFinish p) s (Frame [.ptus] [.PRT_REV_CMD, .PRT_REV_RESULT, .PRT_REV_STAT] s)) ∧
(∀ (p : PortId), Completes (.revApply p) s (Frame [] [.PRT_ASYM_DREF, .PRT_ASYM_REF, .PRT_REV_CMD] s)) ∧
(∀ (p : PortId), Completes (.revAbort p) s (Frame [.ptus] [.PRT_REV_CMD, .PRT_REV_STAT] s)) ∧
(∀ (p : PortId) (m : PtpMsg) (tlvs : List Byte), Completes (.ptpSignalingReceived p m tlvs) s (FrameReported [.syns,
    .outs, .sw, .ports, .ptus, .sys, .freeCtr] [.LANE_QUAD_STAT, .OUT_STAT, .PWR_STAT, .SW_BUF_GATED, .SYN_CMD,
    .SYN_STAT] s))

/-- Frames of TIO, mailbox, counter and alarm commands. Each named command answers a next state in which the flash, the
command queue, every part of the device outside the listed parts and every register outside the listed ones are as
before. -/
def Obligations.FramesOfTioAndMail : Prop :=
  ∀ (s : State),
(∀ (c : TioId) (v : Word), Completes (.tioCfgWrite c v) s (FrameReported [.syns, .outs, .tio, .freeCtr] [.OUT_STAT,
    .SYN_CMD, .SYN_STAT, .TIO_CFG, .TIO_STAT] s)) ∧
(∀ (c : TdcId) (cause : CalCause), Completes (.calibrationStart c cause) s (Frame [.cands] [.TIO_CMD, .TIO_STAT] s)) ∧
(∀ (c : TdcId) (r : CalResult), Completes (.calibrationComplete c r) s (FrameReported [.cands, .tio, .freeCtr]
    [.RSEL_CAND_STAT, .TIO_CAL_STAT, .TIO_STAT] s)) ∧
(∀ (c : TioId) (rising : Bool) (sample : Nat) (bin : Fin 640), Completes (.tioInputEdge c rising sample bin) s
    (FrameReported [.outs, .tio, .freeCtr] [.OUT_STAT, .TIO_STAT] s)) ∧
(∀ (c : TioId), Completes (.tioNoEdgeTimeout c) s (FrameReported [.tio] [.TIO_STAT] s)) ∧
(∀ (c : TioId), Completes (.tioArm c) s (FrameReported [.tio] [.TIO_CMD, .TIO_STAT] s)) ∧
(∀ (c : TioId), Completes (.tioDisarm c) s (FrameReported [.tio, .freeCtr] [.TIO_CMD, .TIO_STAT] s)) ∧
(∀ (c : TioId), Completes (.tioMeasTimeout c) s (FrameReported [.tio, .freeCtr] [.TIO_STAT] s)) ∧
(∀ (c : TioId), Completes (.tioStart c) s (FrameReported [.tio] [.TIO_CMD, .TIO_STAT] s)) ∧
(∀ (c : TioId), Completes (.tioOutputEdge c) s (Frame [.tio, .sent] [.TIO_STAT] s)) ∧
(∀ (c : TioId), Completes (.tioCancel c) s (Frame [.tio, .sent] [.TIO_CMD, .TIO_STAT] s)) ∧
(∀ (c : TioId) (e : MemErr (Fin 64)), Completes (.tioFifoEntryFault c e) s (FrameReported [.tio] [.TIO_STAT] s)) ∧
(∀ (e : MemErr TioId), Completes (.tioOutputEngineFault e) s (FrameReported [.tio] [.TIO_STAT] s)) ∧
(∀ (src dst : MboxParty) (msg : List Byte), Completes (.mbxPost src dst msg) s (FrameReported [.chans, .sys] [.PWR_STAT]
    s)) ∧
(∀ (src dst : MboxParty), Completes (.mbxWithdraw src dst) s (FrameReported [.chans] [] s)) ∧
(∀ (src dst : MboxParty), Completes (.mbxTake src dst) s (Frame [.chans] [] s)) ∧
(∀ (src dst : MboxParty) (code : BitVec 16) (rsp : List Byte), Completes (.mbxAck src dst code rsp) s (FrameReported
    [.chans] [] s)) ∧
(∀ (src dst : MboxParty), Completes (.mbxRelease src dst) s (FrameReported [.chans, .cpMail, .sys, .freeCtr] [.PWR_STAT]
    s)) ∧
(∀ (channel : MboxParty × MboxParty) (k : ErrKind), Completes (.mbxChannelFault channel k) s (FrameReported [.chans] []
    s)) ∧
Completes .mbxHostRestart s (FrameReported [.chans] [] s) ∧
(∀ (v : Word) (sameCycle : Nat), Completes (.cntDataWrite v sameCycle) s (Frame [.counters] [] s)) ∧
(∀ (v : Word), Completes (.cntCfgWrite v) s (Frame [.cntCfg] [.RING_STAT] s)) ∧
Completes .ringBoundary s (Frame [.counters, .latches, .ring] [] s) ∧
Completes .hostRingWrite s (FrameReported [] [.RING_HOST_HEAD] s) ∧
Completes .telemetrySend s (FrameReported [.syns, .outs, .sw, .ports, .sys, .freeCtr] [.LANE_QUAD_STAT, .OUT_STAT,
    .PRT_Q_STAT, .PWR_STAT, .SW_BUF_GATED, .SYN_CMD, .SYN_STAT] s) ∧
(∀ (word : Fin 2) (v : Word), Completes (.alarmLatchClear word v) s (FrameReported [] [] s)) ∧
(∀ (cls : Byte), Completes (.reEnable cls) s (FrameReported [.tbA, .tbB, .cands, .twin, .syns, .outs, .chans, .cpMail,
    .sw, .ports, .tio, .sys, .freeCtr] [.ALM_REEN, .FDB_W0, .FDB_W1, .FDB_W2, .FDB_W3, .LANE_QUAD_STAT, .LANE_STAT,
    .OUT_STAT, .PRT_PTU_STAT, .PWR_STAT, .RSEL_CAND_STAT, .ST_A, .ST_K, .ST_M, .SW_BUF_GATED, .SYN_CMD, .SYN_STAT,
    .TB_ROLE, .TIO_STAT, .VLAN_W0, .VLAN_W1, .VLAN_W2, .VLAN_W3] s))

/-- Frames of the switch commands. Each named command answers a next state in which the flash, the command queue, every
part of the device outside the listed parts and every register outside the listed ones are as before. -/
def Obligations.FramesOfTheSwitch : Prop :=
  ∀ (s : State),
(∀ (p : PortId) (f : RxFrame), Completes (.frameReceived p f) s (FrameReported [.mir, .twin, .syns, .outs, .sw, .ports,
    .ptus, .sys, .freeCtr] [.LANE_QUAD_STAT, .OUT_STAT, .PRT_Q_STAT, .PWR_STAT, .RECOV_W3, .RECOV_W4, .RECOV_W5,
    .RECOV_W6, .SEQGEN_W0, .SGATE_W5, .SW_BUF_GATED, .SYN_CMD, .SYN_STAT] s)) ∧
(∀ (p : PortId) (v : RxVerdict), Completes (.frameFcsVerdict p v) s (FrameReported [.tbA, .tbB, .syns, .outs, .sw,
    .ports, .sys, .freeCtr] [.FDB_W0, .FDB_W1, .FDB_W2, .FDB_W3, .LANE_QUAD_STAT, .OUT_STAT, .PRT_Q_STAT, .PWR_STAT,
    .RECOV_W4, .SW_BUF_GATED, .SYN_CMD, .SYN_STAT, .TB_MODEL_STAT] s)) ∧
(∀ (p : PortId) (cap : Capture), Completes (.frameCommit p cap) s (FrameReported [.syns, .outs, .chans, .cpMail, .sw,
    .ports, .sys, .freeCtr] [.LANE_QUAD_STAT, .OUT_STAT, .PRT_Q_STAT, .PWR_PORT_STAT, .PWR_STAT, .SW_BUF_GATED,
    .SYN_CMD, .SYN_STAT] s)) ∧
(∀ (p : PortId), Completes (.frameTransmitDone p) s (FrameReported [.syns, .outs, .sw, .ports, .ptus, .sys]
    [.LANE_QUAD_STAT, .OUT_STAT, .PWR_STAT, .SW_BUF_GATED, .SYN_CMD, .SYN_STAT] s)) ∧
Completes .ageingSweep s (Frame [] [.FDB_W0, .FDB_W1, .FDB_W2, .FDB_W3] s) ∧
Completes .fdbLookup s (Frame [] [.SW_FDB_CMD, .SW_FDB_DATA, .SW_FDB_MASK] s) ∧
Completes .fdbInsert s (Frame [] [.FDB_W0, .FDB_W1, .FDB_W2, .FDB_W3, .SW_FDB_CMD] s) ∧
Completes .fdbDelete s (Frame [] [.FDB_W0, .FDB_W1, .FDB_W2, .FDB_W3, .SW_FDB_CMD] s) ∧
(∀ (index : Fin 262144), Completes (.fdbReadIdx index) s (Frame [] [.SW_FDB_CMD, .SW_FDB_DATA, .SW_FDB_KEY_HI,
    .SW_FDB_KEY_LO, .SW_FDB_MASK] s)) ∧
(∀ (byPort byVid staticToo : Bool), Completes (.fdbFlush byPort byVid staticToo) s (Frame [.sw] [.FDB_W0, .FDB_W1,
    .FDB_W2, .FDB_W3, .SW_FDB_CMD] s)) ∧
Completes .fdbFlushDone s (Frame [.sw] [.SW_FDB_CMD] s) ∧
(∀ (op : Fin 8), Completes (.fdbBadOp op) s (Frame [] [.SW_FDB_CMD] s)) ∧
(∀ (p : PortId) (e : MemErr (Fin 294912)), Completes (.cellReadError p e) s (FrameReported [.syns, .outs, .sw, .ports,
    .sys] [.LANE_QUAD_STAT, .OUT_STAT, .PWR_STAT, .SW_BUF_GATED, .SYN_CMD, .SYN_STAT] s)) ∧
(∀ (p : PortId) (place : ListPlace) (descriptor : Bool) (k : ErrKind), Completes (.listError p place descriptor k) s
    (FrameReported [.sw, .ports] [.PWR_STAT, .SW_BUF_GATED] s)) ∧
(∀ (t : TableId) (e : MemErr (Fin 262144)), Completes (.tableEntryError t e) s (FrameReported [.sw] [.FDB_W0, .FDB_W1,
    .FDB_W2, .FDB_W3, .VLAN_W3] s)) ∧
(∀ (f : AuditFinds), Completes (.auditPass f) s (FrameReported [.syns, .outs, .sw, .ports, .sys] [.LANE_QUAD_STAT,
    .OUT_STAT, .PWR_STAT, .RECOV_W4, .SW_AUDIT_STAT, .SW_BUF_GATED, .SYN_CMD, .SYN_STAT] s)) ∧
(∀ (i : Fin 4096), Completes (.recoveryTimeout i) s (FrameReported [] [.RECOV_W3, .RECOV_W5, .RECOV_W6] s)) ∧
(∀ (i : Fin 4096), Completes (.holdRelease i) s (FrameReported [.syns, .outs, .sw, .ports, .sys, .freeCtr]
    [.LANE_QUAD_STAT, .OUT_STAT, .PRT_Q_STAT, .PWR_STAT, .RECOV_W4, .SW_BUF_GATED, .SYN_CMD, .SYN_STAT] s)) ∧
(∀ (i : Fin 4096) (word : Fin 5) (v : Word), Completes (.recoveryCfgWrite i word v) s (FrameReported [.syns, .outs, .sw,
    .ports, .sys, .freeCtr] [.LANE_QUAD_STAT, .OUT_STAT, .PRT_Q_STAT, .PWR_STAT, .RECOV_W0, .RECOV_W1, .RECOV_W2,
    .RECOV_W3, .RECOV_W4, .RECOV_W5, .RECOV_W6, .SW_BUF_GATED, .SYN_CMD, .SYN_STAT] s)) ∧
(∀ (m : Fin 8192) (word : Fin 5) (v : Word), Completes (.meterCfgWrite m word v) s (Frame [.sw] [.METER_W0, .METER_W1,
    .METER_W2, .METER_W3, .METER_W4] s)) ∧
(∀ (p : PortId), Completes (.gateEvent p) s (Frame [] [.PRT_GATE_STAT] s)) ∧
(∀ (p : PortId) (t : GateTarget) (v : Word), Completes (.gateCfgWrite p t v) s (Frame [] [.GCL_W0, .GCL_W1,
    .PRT_GATE_CFG, .PRT_GATE_STAT, .PRT_GCL_BASE_HI, .PRT_GCL_BASE_LO, .PRT_GCL_BASE_NS, .PRT_GCL_CYCLE, .PRT_GCL_LEN]
    s)) ∧
(∀ (p : PortId) (q : ClassId) (r : QueueReg) (v : Word), Completes (.queueCfgWrite p q r v) s (FrameReported [.sw]
    [.PRT_GATE_STAT, .PRT_Q_CFG, .PRT_Q_RES, .PWR_STAT, .SW_BUF_GATED] s)) ∧
(∀ (p : PortId), Completes (.repredictionDone p) s (FrameReported [.sw, .ports] [.PRT_GATE_STAT, .PWR_STAT,
    .SW_BUF_GATED] s))

/-- Frames of power-management and host commands. Each named command answers a next state in which the flash, the command
queue, every part of the device outside the listed parts and every register outside the listed ones are as before. -/
def Obligations.FramesOfPowerAndHost : Prop :=
  ∀ (s : State),
Completes .fastStop s (FrameReported [.cands, .syns, .outs, .chans, .cpMail, .sw, .ports, .ptus, .insts, .sys, .freeCtr]
    [.LANE_PARTNER_DOM, .LANE_PARTNER_ID_HI, .LANE_PARTNER_ID_LO, .LANE_PARTNER_INFO, .LANE_QUAD_CFG, .LANE_QUAD_STAT,
    .LANE_STAT, .LANE_TEST, .OUT_STAT, .PRT_GATE_STAT, .PRT_PTU_STAT, .PRT_Q_PTX, .PRT_Q_STAT, .PRT_REV_STAT,
    .PWR_FAST_CMD, .PWR_PORT_STAT, .PWR_STAT, .RECOV_W4, .RSEL_CAND_STAT, .SW_BUF_GATED, .SYN_CMD, .SYN_STAT] s) ∧
(∀ (p : PortId) (t : LatTarget) (v : Word), Completes (.pwrLatWrite p t v) s (FrameReported [.syns, .outs, .sw, .ports,
    .sys] [.LANE_QUAD_STAT, .OUT_STAT, .PWR_LAT, .PWR_PORT_CFG, .PWR_PORT_STAT, .PWR_STAT, .SW_BUF_GATED, .SYN_CMD,
    .SYN_STAT] s)) ∧
(∀ (v : Word), Completes (.pwrGateCfgWrite v) s (FrameReported [.syns, .outs, .sw, .sys] [.OUT_STAT, .PWR_GATE_CFG,
    .PWR_STAT, .SW_BUF_GATED, .SYN_CMD, .SYN_STAT] s)) ∧
(∀ (k : Fin 4), Completes (.lpllStop k) s (FrameReported [.syns, .outs, .sys] [.OUT_STAT, .SYN_CMD, .SYN_STAT] s)) ∧
Completes .bankDrainStart s (FrameReported [.sw, .freeCtr] [.PWR_STAT, .SW_BUF_GATED] s) ∧
Completes .bankGated s (FrameReported [.sw] [.PWR_STAT, .SW_BUF_GATED] s) ∧
(∀ (slice : Fin 16), Completes (.sliceGate slice) s (Frame [.sys] [] s)) ∧
(∀ (core : Fin 3), Completes (.coreIdleGate core) s (Frame [.sys] [.PWR_STAT] s)) ∧
(∀ (vin pin : BitVec 16) (dieTemp : BitVec 16), Completes (.inputMonitorRefresh vin pin dieTemp) s (Frame [.sys]
    [.GLB_HEALTH, .PWR_INPUT] s)) ∧
Completes .carryoverTimeout s (FrameReported [.cands, .chans, .cpMail, .ptus, .sys, .freeCtr] [.PRT_PTU_STAT,
    .PRT_REV_STAT, .PWR_STAT, .RSEL_CAND_STAT] s) ∧
Completes .wideCapture s (FrameReported [] [.WIDE_STAT] s) ∧
Completes .wideD3Read s (Frame [.sent] [] s) ∧
(∀ (speed width : Fin 8), Completes (.endpointReady speed width) s (FrameReported [.sys] [.GLB_HOST_STAT] s)) ∧
Completes .hostHbKick s (FrameReported [] [] s) ∧
Completes .hostSilentTimeout s (FrameReported [] [] s) ∧
(∀ (c : PcieCfg), Completes (.pcieConfigWrite c) s (FrameReported [] [.GLB_HOST_STAT] s)) ∧
Completes (.hostLinkReset .flr) s (FrameReported [.chans, .sys] [.GLB_HOST_STAT, .IND_SPACE, .IND_ADDR, .IND_DATA,
    .IND_STAT, .IND_ERR_ADDR, .IND_CTRL, .WIDE_SEL, .WIDE_CTRL, .WIDE_STAT, .WIDE_D] s)

/-- Frames of commands that read or write the flash. What start-up, configuration, update and flash commands leave
unchanged. -/
def Obligations.FramesOfFlashCommands : Prop :=
  ∀ (s : State) (slot : Fin 2) (key : Byte) (k : Nat),
  (∀ c ∈ [Instr.cfgCheck slot, .updVerify, .updErase, .updFlush], Completes c s (FrameReported [.sys] [.GLB_CFG_CMD, .GLB_CFG_STAT, .UPD_CMD, .UPD_STAT, .UPD_SLOT_STAT, .UPD_SLOT_ID] s)) ∧
  (∀ c ∈ [Instr.cfgActivate slot, .updConfirm, .settingsPeriodicWrite, .retentionRefreshSector], Completes c s (fun t =>
    OnlyReported [.sys] [.GLB_CFG_CMD, .GLB_CFG_STAT, .UPD_CMD, .UPD_STAT, .UPD_CONFIRM_LEFT, .FIRN_REFRESH_STAT]
      s.dev t.dev ∧ t.pending = s.pending)) ∧
  Completes .modelSettingsWrite s (fun t => OnlyReported [.sys, .tbA, .tbB] [] s.dev t.dev ∧ t.pending = s.pending) ∧
  (s.dev.flag F.UPD_CFG_MODE = false → Completes .updActivate s (fun t => OnlyReported [] [.GLB_CFG_STAT, .UPD_CMD, .UPD_STAT, .UPD_SLOT_STAT, .UPD_SLOT_ID] s.dev t.dev ∧ t.pending = s.pending)) ∧
  Completes .romStage s (fun t => OnlyReported [] [.FIRN_REFRESH_STAT, .GLB_BOOT_STAT, .UPD_STAT] s.dev t.dev ∧
    t.pending = s.pending) ∧
  Completes .fspImageLoaded s (fun t => s.imageGood (s.dev.get F.GLB_BOOT_STAT_BUNDLE_SLOT) 0 = true →
    OnlyReported [.sys, .freeCtr] [.GLB_BOOT_STAT, .UPD_IFVER0, .UPD_SLOT_ID, .FIRN_LIFE, .FIRN_BOOTS] s.dev t.dev) ∧
  Completes .tbpImageLoaded s (fun t => s.imageGood (s.dev.get F.GLB_BOOT_STAT_BUNDLE_SLOT) 1 = true → Frame [.sys, .tbA, .tbB]
    [.GLB_BOOT_STAT, .UPD_IFVER1, .UPD_IFVER2, .TB_MODEL_STAT, .TB_ROLE] s t) ∧
  Completes (.glbResetFull key) s (Frame [.sys] [.GLB_RESET] s) ∧
  (s.onTrial = false → Completes .fspWatchdog s (FrameReported [.chans] [] s)) ∧
  (s.onTrial = false → ∀ c ∈ [WatchedCpu.tbpA, .tbpB], Completes (.processorWatchdog c) s (fun t => t.flash = s.flash ∧
    t.dev.sw = s.dev.sw ∧ t.dev.insts = s.dev.insts ∧ t.dev.cntCfg = s.dev.cntCfg ∧ t.dev.ident = s.dev.ident)) ∧
  (s.dev.pcie.indQueue = [] → s.dev.pcie.waiting = [] → s.dev.pcie.held = none →
    Completes .wideD3Read s (Frame [.pcie, .sent] [.WIDE_STAT] s) ∧
    (s.dev.sys.smbWrite = none → s.dev.sys.smbRead = none → ∀ c ∈ [Instr.nvmEraseDone, .nvmProgramDone], Completes c s (fun t =>
      OnlyReported [.sys] [.UPD_STAT, .UPD_CMD] s.dev t.dev ∧ t.pending = s.pending) ∧
    Completes .nvmEraseDone s (fun t => ∀ a, (∀ e, s.dev.sys.eraseAt = some e → a < e ∨ e + 0x10000 ≤ a) →
      flashByte t.flash a = flashByte s.flash a) ∧
    Completes .nvmProgramDone s (fun t => ∀ a, (∀ p, s.dev.sys.progPage = some p → ∀ x ∈ p.2, a ≠ 256 * p.1 + x.1) →
      flashByte t.flash a = flashByte s.flash a))) ∧
  (k = (match hdrCopy s.flash with | some 0 => 1 | _ => 0) →
    Completes (.cfgActivate slot) s (fun t => ∀ a, a < hdrBase k ∨ hdrBase k + 0x10000 ≤ a → flashByte t.flash a = flashByte s.flash a) ∧
    (s.dev.flag F.UPD_CFG_MODE = false → Completes .updActivate s (fun t =>
      ∀ a, a < hdrBase k ∨ hdrBase k + 0x10000 ≤ a → flashByte t.flash a = flashByte s.flash a))) ∧
  (s.dev.sys.eraseAt = none → s.dev.sys.progPage = none → Completes .updActivate s (fun t =>
    ∀ a, 0x20000 ≤ a → flashByte t.flash a = flashByte s.flash a)) ∧
  Completes .updConfirm s (fun t => ∀ a, (∀ c, hdrCopy s.flash = some c → a < hdrBase c + 68 ∨ hdrBase c + 72 ≤ a) →
    flashByte t.flash a = flashByte s.flash a) ∧
  (∀ c ∈ [Instr.settingsPeriodicWrite, .modelSettingsWrite], Completes c s (fun t =>
    ∀ a, a < 0x3900000 ∨ 0x3F00000 ≤ a → flashByte t.flash a = flashByte s.flash a)) ∧
  Completes .retentionRefreshSector s (fun t => ∀ a, a < 0x3F00000 ∨ 0x3F40000 ≤ a → flashByte t.flash a = flashByte s.flash a) ∧
  (∀ c ∈ [Instr.moduleRemoval, .thermalTrip], s.dev.sys.eraseAt = none → s.dev.sys.progPage = none → Completes c s (fun t =>
    t.flash = s.flash ∧ t.dev.ident = s.dev.ident ∧ t.dev.sent = s.dev.sent ∧ t.dev.freeCtr = s.dev.freeCtr ∧ t.pending = s.pending)) ∧
  (s.dev.sys.powered = true → s.dev.sys.eraseAt = none → s.dev.sys.progPage = none → Completes .resetPin s (fun t =>
    t.flash = s.flash ∧ t.dev.ident = s.dev.ident ∧ t.dev.cycles = s.dev.cycles ∧ t.pending = s.pending ∧
    t.dev.log.take s.dev.log.length = s.dev.log ∧
    ∀ r u, r.isMbx = false → r ∉ [Reg.GLB_HOST_STAT, .GLB_BOOT_STAT, .FIRN_OCXO_STAT, .ALM_ACTIVE, .ALM_LATCH] →
      t.dev.word r u = r.resetWord u)) ∧
  (s.onTrial = false → ∀ c ∈ [Instr.configStage, .cfgReload, .fastStart, .fastDomainOn, .glbResetFast key, .glbResetCp key,
      .glbResetSmc key, .processorWatchdog .cp, .processorWatchdog .smc], Completes c s (fun t =>
    t.flash = s.flash ∧ t.dev.ident = s.dev.ident ∧ t.pending = s.pending)) ∧
  (s.dev.sys.updStep ∉ [2, 3, 7] → (s.dev.sys.updStep = 5 → s.imageGood s.bundleSlot 1 = true) → Completes .liveStepComplete s (fun t =>
    t.flash = s.flash ∧ t.dev.ident = s.dev.ident ∧ t.pending = s.pending))
end

