-- ==== Sys2Proof/Laws/Table.lean ====
section
/-! SUPPORT. Laws of sparse tables and of the flash: what a key reads after a write, and that every write keeps the canonical
form. -/

namespace Sys2Proof.Laws

open Sys2Proof.Machine

variable {α : Type}

/-! ## Reading after a write -/

theorem tabGet_erase_same (t : Tab α) (d : α) (k : Nat) : tabGet (tabErase t k) d k = d := by
  induction t with
  | nil => rfl
  | cons e t ih =>
    obtain ⟨k', v⟩ := e
    by_cases h : k' = k
    · simpa [tabErase, h] using ih
    · simpa [tabErase, h, tabGet] using ih

theorem tabGet_erase_other (t : Tab α) (d : α) {k j : Nat} (h : j ≠ k) : tabGet (tabErase t k) d j = tabGet t d j := by
  induction t with
  | nil => rfl
  | cons e t ih =>
    obtain ⟨k', v⟩ := e
    by_cases hk : k' = k
    · have : k' ≠ j := by omega
      simpa [tabErase, tabGet, hk, Ne.symm h] using ih
    · by_cases hj : k' = j
      · simp [tabErase, tabGet, hj, h]
      · simpa [tabErase, tabGet, hk, hj] using ih

theorem tabGet_insert_same (t : Tab α) (d v : α) (k : Nat) : tabGet (tabInsert t k v) d k = v := by
  induction t with
  | nil => simp [tabInsert, tabGet]
  | cons e t ih =>
    obtain ⟨k', w⟩ := e
    unfold tabInsert
    split
    · simp [tabGet]
    · split
      · simp [tabGet]
      · simp [tabGet, *]

theorem tabGet_insert_other (t : Tab α) (d v : α) {k j : Nat} (h : j ≠ k) :
    tabGet (tabInsert t k v) d j = tabGet t d j := by
  induction t with
  | nil => simp [tabInsert, tabGet, Ne.symm h]
  | cons e t ih =>
    obtain ⟨k', w⟩ := e
    unfold tabInsert
    split
    · simp [tabGet, Ne.symm h]
    · split
      · rename_i hk
        simp [tabGet, Ne.symm h, hk]
      · simp [tabGet, ih]

/-- What a key reads after it has been written. -/
@[simp] theorem tabGet_tabSet_same [DecidableEq α] (t : Tab α) (d v : α) (k : Nat) : tabGet (tabSet t d k v) d k = v := by
  unfold tabSet
  split
  · simp [tabGet_erase_same, *]
  · exact tabGet_insert_same t d v k

/-- A write leaves every other key alone. -/
theorem tabGet_tabSet_other [DecidableEq α] (t : Tab α) (d e v : α) {k j : Nat} (h : j ≠ k) :
    tabGet (tabSet t d k v) e j = tabGet t e j := by
  unfold tabSet
  split
  · exact tabGet_erase_other t e h
  · exact tabGet_insert_other t e v h

/-- What any key reads after a write. -/
theorem tabGet_tabSet [DecidableEq α] (t : Tab α) (d v : α) (k j : Nat) :
    tabGet (tabSet t d k v) d j = if j = k then v else tabGet t d j := by
  by_cases h : j = k
  · simp [h]
  · simp [h, tabGet_tabSet_other]

/-! ## The flash -/

/-- A byte of the flash after one byte has been written. -/
theorem flashByte_set (m : List Host.Cell) (a j : Nat) (b : Byte) :
    flashByte (flashSet m a b) j = if j = a then b else flashByte m j := by
  unfold flashByte flashSet
  by_cases h : j = a
  · subst h; simp
  · simp only [h, if_false]
    exact tabGet_tabSet_other m _ _ b h

/-- A byte of the flash after bytes have been written from an address on. -/
theorem flashByte_write (m : List Host.Cell) (a j : Nat) (l : List Byte) :
    flashByte (flashWrite m a l) j = if a ≤ j ∧ j < a + l.length then l.getD (j - a) 0 else flashByte m j := by
  induction l generalizing m a with
  | nil =>
    have : ¬ (a ≤ j ∧ j < a) := by omega
    simp [flashWrite, this]
  | cons b l ih =>
    rw [flashWrite, ih, flashByte_set]
    by_cases h1 : j = a
    · subst h1; simp
    · by_cases h2 : a + 1 ≤ j ∧ j < a + 1 + l.length
      · have h3 : a ≤ j ∧ j < a + (l.length + 1) := by omega
        have h4 : j - a = j - (a + 1) + 1 := by omega
        simp [h2, h3, h4]
      · have h3 : ¬ (a ≤ j ∧ j < a + (l.length + 1)) := by omega
        rw [if_neg h2, if_neg h1, if_neg (by simpa using h3)]

theorem tabGet_filter (t : Tab α) (d : α) (p : Nat → Bool) (j : Nat) :
    tabGet (t.filter (fun c => p c.1)) d j = if p j then tabGet t d j else d := by
  induction t with
  | nil => simp [tabGet]
  | cons e t ih =>
    obtain ⟨k, v⟩ := e
    by_cases hp : p k
    · by_cases hk : k = j
      · subst hk; simp [hp, tabGet]
      · simp [hp, tabGet, hk, ih]
    · by_cases hk : k = j
      · subst hk; simp [hp, ih]
      · simp [hp, tabGet, hk, ih]

/-- A byte of the flash after an erase reads as the erased state within the range and as before outside it. -/
theorem flashByte_erase (m : List Host.Cell) (a n j : Nat) :
    flashByte (flashErase m a n) j = if a ≤ j ∧ j < a + n then flashDefault j else flashByte m j := by
  unfold flashByte flashErase
  rw [tabGet_filter m (flashDefault j) (fun k => !(decide (a ≤ k) && decide (k < a + n))) j]
  by_cases h : a ≤ j ∧ j < a + n
  · simp [h]
  · rcases Nat.lt_or_ge j a with h1 | h1
    · simp [Nat.not_le.mpr h1]
    · have h2 : ¬ j < a + n := fun h2 => h ⟨h1, h2⟩
      simp [h1, h2]

/-! ## The canonical form of the flash -/

/-- The bound of a key list: every key lies above it. -/
def below (b : Option Nat) (k : Nat) : Bool := match b with | none => true | some m => decide (m < k)

theorem flashWfFrom_cons (b : Option Nat) (a : Nat) (v : Byte) (m : List Host.Cell) :
    flashWfFrom b ((a, v) :: m) = (below b a && decide (v ≠ flashDefault a) && flashWfFrom (some a) m) := by
  cases b <;> simp [flashWfFrom, below]

theorem flashWfFrom_mono {m : List Host.Cell} {b c : Option Nat} (h : flashWfFrom c m = true)
    (hbc : ∀ k, below c k = true → below b k = true) : flashWfFrom b m = true := by
  cases m with
  | nil => simp [flashWfFrom]
  | cons e m =>
    obtain ⟨a, v⟩ := e
    rw [flashWfFrom_cons] at h ⊢
    simp only [Bool.and_eq_true] at h ⊢
    exact ⟨⟨hbc _ h.1.1, h.1.2⟩, h.2⟩

theorem flashWfFrom_erase {m : List Host.Cell} {b : Option Nat} (k : Nat) (h : flashWfFrom b m = true) :
    flashWfFrom b (tabErase m k) = true := by
  induction m generalizing b with
  | nil => simpa [tabErase] using h
  | cons e m ih =>
    obtain ⟨a, v⟩ := e
    rw [flashWfFrom_cons] at h
    simp only [Bool.and_eq_true] at h
    unfold tabErase
    split
    · refine ih (flashWfFrom_mono h.2 ?_)
      intro k hk
      cases b with
      | none => rfl
      | some m =>
        simp only [below, decide_eq_true_eq] at hk h ⊢
        exact Nat.lt_trans h.1.1 hk
    · rw [flashWfFrom_cons]
      simp only [Bool.and_eq_true]
      exact ⟨h.1, ih h.2⟩

theorem flashWfFrom_insert {m : List Host.Cell} {b : Option Nat} (k : Nat) (v : Byte) (h : flashWfFrom b m = true)
    (hb : below b k = true) (hv : v ≠ flashDefault k) : flashWfFrom b (tabInsert m k v) = true := by
  induction m generalizing b with
  | nil => simp [tabInsert, flashWfFrom_cons, hb, hv, flashWfFrom]
  | cons e m ih =>
    obtain ⟨a, w⟩ := e
    have h0 := h
    rw [flashWfFrom_cons] at h
    simp only [Bool.and_eq_true] at h
    unfold tabInsert
    split
    · rename_i hlt
      rw [flashWfFrom_cons, flashWfFrom_cons]
      simp only [Bool.and_eq_true]
      exact ⟨⟨hb, by simpa using hv⟩, ⟨by simpa [below] using hlt, h.1.2⟩, h.2⟩
    · split
      · rename_i heq
        subst heq
        rw [flashWfFrom_cons]
        simp only [Bool.and_eq_true]
        exact ⟨⟨hb, by simpa using hv⟩, h.2⟩
      · rename_i h1 h2
        rw [flashWfFrom_cons]
        simp only [Bool.and_eq_true]
        exact ⟨h.1, ih h.2 (by simp only [below, decide_eq_true_eq]; omega)⟩

/-- A byte written keeps the canonical form. -/
theorem Memory_wf_set {m : List Host.Cell} (a : Nat) (b : Byte) (h : Memory.wf m = true) : Memory.wf (flashSet m a b) = true := by
  unfold flashSet tabSet
  split
  · exact flashWfFrom_erase a h
  · rename_i hb
    exact flashWfFrom_insert a b h rfl hb

/-- Bytes written keep the canonical form. -/
theorem Memory_wf_write {m : List Host.Cell} (a : Nat) (l : List Byte) (h : Memory.wf m = true) :
    Memory.wf (flashWrite m a l) = true := by
  induction l generalizing m a with
  | nil => exact h
  | cons b l ih => exact ih (a + 1) (Memory_wf_set a b h)

theorem flashWfFrom_filter {m : List Host.Cell} {b : Option Nat} (p : Host.Cell → Bool) (h : flashWfFrom b m = true) :
    flashWfFrom b (m.filter p) = true := by
  induction m generalizing b with
  | nil => simpa using h
  | cons e m ih =>
    obtain ⟨a, v⟩ := e
    rw [flashWfFrom_cons] at h
    simp only [Bool.and_eq_true] at h
    by_cases hp : p (a, v)
    · rw [List.filter_cons_of_pos hp, flashWfFrom_cons]
      simp only [Bool.and_eq_true]
      exact ⟨h.1, ih h.2⟩
    · rw [List.filter_cons_of_neg hp]
      refine ih (flashWfFrom_mono h.2 ?_)
      intro k hk
      cases b with
      | none => rfl
      | some m =>
        simp only [below, decide_eq_true_eq] at hk h ⊢
        exact Nat.lt_trans h.1.1 hk

/-- An erase keeps the canonical form. -/
theorem Memory_wf_erase {m : List Host.Cell} (a n : Nat) (h : Memory.wf m = true) : Memory.wf (flashErase m a n) = true :=
  flashWfFrom_filter _ h

end Sys2Proof.Laws
end

