-- ==== Sys2Proof/Laws/Regs.lean ====
section
/-! SUPPORT. Laws of the register file: what a field reads after a field has been stored. -/

namespace Sys2Proof.Laws

open Sys2Proof.Machine

theorem ctorIdx_lt (r : Reg) : r.ctorIdx < 512 := by cases r <;> decide

theorem ctorIdx_inj {r q : Reg} (h : r.ctorIdx = q.ctorIdx) : r = q := by
  have := congrArg Reg.ofNat h
  rwa [Reg.ofNat_ctorIdx, Reg.ofNat_ctorIdx] at this

theorem regKey_inj {r q : Reg} {u w : Nat} (h : regKey r u = regKey q w) : r = q ∧ u = w := by
  have h1 := ctorIdx_lt r
  have h2 := ctorIdx_lt q
  unfold regKey at h
  exact ⟨ctorIdx_inj (by omega), by omega⟩

@[simp] theorem word_setWord_same (d : Dev) (r : Reg) (u : Nat) (w : Word) : (d.setWord r u w).word r u = w := by
  simp [Dev.word, Dev.setWord, fileGet, fileSet]

theorem word_setWord_other (d : Dev) {r q : Reg} {u v : Nat} (w : Word) (h : ¬ (q = r ∧ v = u)) :
    (d.setWord r u w).word q v = d.word q v := by
  simp only [Dev.word, Dev.setWord, fileGet, fileSet]
  exact tabGet_tabSet_other _ _ _ _ (fun e => h (regKey_inj e))

/-- A stored word as a number. -/
theorem putBits_toNat (w : Word) (lo width v : Nat) (h : lo + width ≤ 32) : (putBits w lo width v).toNat =
    w.toNat / 2 ^ (lo + width) * 2 ^ (lo + width) + v % 2 ^ width * 2 ^ lo + w.toNat % 2 ^ lo := by
  have h1 : w.toNat % 2 ^ lo < 2 ^ lo := Nat.mod_lt _ (Nat.two_pow_pos lo)
  have h2 : v % 2 ^ width < 2 ^ width := Nat.mod_lt _ (Nat.two_pow_pos width)
  have h3 : w.toNat < 2 ^ 32 := w.isLt
  have h4 : (2 : Nat) ^ 32 = 2 ^ (lo + width) * 2 ^ (32 - (lo + width)) := by
    rw [← Nat.pow_add]; congr 1; omega
  have h5 : v % 2 ^ width * 2 ^ lo + w.toNat % 2 ^ lo < 2 ^ (lo + width) := by
    rw [Nat.pow_add, Nat.mul_comm (2 ^ lo)]
    calc v % 2 ^ width * 2 ^ lo + w.toNat % 2 ^ lo
        < v % 2 ^ width * 2 ^ lo + 2 ^ lo := by omega
      _ = (v % 2 ^ width + 1) * 2 ^ lo := by ring
      _ ≤ 2 ^ width * 2 ^ lo := Nat.mul_le_mul_right _ h2
  have h6 : w.toNat / 2 ^ (lo + width) < 2 ^ (32 - (lo + width)) := by
    apply Nat.div_lt_of_lt_mul; rw [← h4]; exact h3
  unfold putBits
  rw [BitVec.toNat_ofNat]
  apply Nat.mod_eq_of_lt
  calc _ < w.toNat / 2 ^ (lo + width) * 2 ^ (lo + width) + 2 ^ (lo + width) := by omega
    _ = (w.toNat / 2 ^ (lo + width) + 1) * 2 ^ (lo + width) := by ring
    _ ≤ 2 ^ (32 - (lo + width)) * 2 ^ (lo + width) := Nat.mul_le_mul_right _ h6
    _ = 2 ^ 32 := by rw [h4]; ring

/-- The field just stored. -/
theorem bitsOf_putBits_same (w : Word) (lo width v : Nat) (h : lo + width ≤ 32) :
    bitsOf (putBits w lo width v).toNat lo width = v % 2 ^ width := by
  rw [putBits_toNat w lo width v h]
  unfold bitsOf
  have h1 : w.toNat % 2 ^ lo < 2 ^ lo := Nat.mod_lt _ (Nat.two_pow_pos lo)
  have e : w.toNat / 2 ^ (lo + width) * 2 ^ (lo + width) + v % 2 ^ width * 2 ^ lo + w.toNat % 2 ^ lo =
      (w.toNat / 2 ^ (lo + width) * 2 ^ width + v % 2 ^ width) * 2 ^ lo + w.toNat % 2 ^ lo := by
    rw [Nat.pow_add]; ring
  rw [e, Nat.mul_comm _ (2 ^ lo), Nat.mul_add_div (Nat.two_pow_pos lo), Nat.div_eq_of_lt h1, Nat.add_zero,
    Nat.mul_comm, Nat.mul_add_mod]
  exact Nat.mod_mod _ _

/-- A field that lies apart from the one stored. -/
theorem bitsOf_putBits_apart (w : Word) (lo width v lo' width' : Nat) (h : lo + width ≤ 32)
    (ha : lo' + width' ≤ lo ∨ lo + width ≤ lo') :
    bitsOf (putBits w lo width v).toNat lo' width' = bitsOf w.toNat lo' width' := by
  have h5 : ∀ m : Nat, v % 2 ^ width * 2 ^ lo + m % 2 ^ lo < 2 ^ (lo + width) := by
    intro m
    have h1 : m % 2 ^ lo < 2 ^ lo := Nat.mod_lt _ (Nat.two_pow_pos lo)
    have h2 : v % 2 ^ width < 2 ^ width := Nat.mod_lt _ (Nat.two_pow_pos width)
    rw [Nat.pow_add, Nat.mul_comm (2 ^ lo)]
    calc v % 2 ^ width * 2 ^ lo + m % 2 ^ lo
        < v % 2 ^ width * 2 ^ lo + 2 ^ lo := by omega
      _ = (v % 2 ^ width + 1) * 2 ^ lo := by ring
      _ ≤ 2 ^ width * 2 ^ lo := Nat.mul_le_mul_right _ h2
  rw [putBits_toNat w lo width v h]
  generalize hw : w.toNat = m
  unfold bitsOf
  rcases ha with ha | ha
  · have e1 : (2 : Nat) ^ lo = 2 ^ (lo' + width') * 2 ^ (lo - (lo' + width')) := by rw [← Nat.pow_add]; congr 1; omega
    have key : ∀ n : Nat, n / 2 ^ lo' % 2 ^ width' = n % 2 ^ lo / 2 ^ lo' % 2 ^ width' := by
      intro n
      have : n % 2 ^ lo % 2 ^ (lo' + width') = n % 2 ^ (lo' + width') := by
        rw [e1]; exact Nat.mod_mul_right_mod _ _ _
      have h7 : ∀ x : Nat, x / 2 ^ lo' % 2 ^ width' = x % 2 ^ (lo' + width') / 2 ^ lo' := by
        intro x; rw [Nat.pow_add, Nat.mod_mul_right_div_self]
      rw [h7, h7, this]
    rw [key (_ + _ + _), key m]
    congr 2
    have e2 : m / 2 ^ (lo + width) * 2 ^ (lo + width) + v % 2 ^ width * 2 ^ lo + m % 2 ^ lo =
        2 ^ lo * (m / 2 ^ (lo + width) * 2 ^ width + v % 2 ^ width) + m % 2 ^ lo := by rw [Nat.pow_add]; ring
    rw [e2, Nat.mul_add_mod]
    exact Nat.mod_mod _ _
  · have e1 : (2 : Nat) ^ lo' = 2 ^ (lo + width) * 2 ^ (lo' - (lo + width)) := by rw [← Nat.pow_add]; congr 1; omega
    rw [e1, ← Nat.div_div_eq_div_mul, ← Nat.div_div_eq_div_mul]
    congr 2
    rw [Nat.add_assoc, Nat.mul_comm, Nat.mul_add_div (Nat.two_pow_pos _), Nat.div_eq_of_lt (h5 m), Nat.add_zero]

/-- Two fields share no bit: of different registers, or of one and apart. -/
def apart (f g : Fld) : Bool :=
  !(f.reg == g.reg) || decide (g.lo + g.width ≤ f.lo) || decide (f.lo + f.width ≤ g.lo)

/-- A field reads as it has been stored. -/
theorem get_set_same (d : Dev) (f : Fld) (v u : Nat) (h : f.lo + f.width ≤ 32) : (d.set f v u).get f u = v % 2 ^ f.width := by
  simp [Dev.get, Dev.set, bitsOf_putBits_same, h]

/-- A store leaves every field that lies apart. -/
theorem get_set_apart (d : Dev) (f g : Fld) (v u w : Nat) (h : f.lo + f.width ≤ 32) (ha : apart f g = true) :
    (d.set f v u).get g w = d.get g w := by
  by_cases hr : g.reg = f.reg ∧ w = u
  · obtain ⟨h1, h2⟩ := hr
    subst h2
    have : g.lo + g.width ≤ f.lo ∨ f.lo + f.width ≤ g.lo := by
      simpa [apart, h1] using ha
    simp only [Dev.get, Dev.set, h1, word_setWord_same]
    exact bitsOf_putBits_apart _ _ _ _ _ _ h this
  · simp only [Dev.get, Dev.set]
    rw [word_setWord_other _ _ hr]

/-- A store leaves the field's other units. -/
theorem get_set_unit (d : Dev) (f g : Fld) (v u w : Nat) (h : w ≠ u) : (d.set f v u).get g w = d.get g w := by
  simp only [Dev.get, Dev.set]
  rw [word_setWord_other _ _ (fun e => h e.2)]

theorem get_setWord_other (d : Dev) (r : Reg) (g : Fld) (x : Word) (u w : Nat) (h : ¬ (g.reg = r ∧ w = u)) :
    (d.setWord r u x).get g w = d.get g w := by
  simp only [Dev.get]
  rw [word_setWord_other _ _ h]

/-- A word reads as it was where a field of another register or unit is stored. -/
theorem word_set_other (d : Dev) (f : Fld) (v u : Nat) (r : Reg) (w : Nat) (h : ¬ (r = f.reg ∧ w = u)) :
    (d.set f v u).word r w = d.word r w := word_setWord_other _ _ h

end Sys2Proof.Laws
end

