-- ==== Sys2Proof/Laws/State.lean ====
section
/-! SUPPORT. What the updates of the device leave: one lemma for each field and update, true by rfl, and the lemmas of the
queue and the flash. -/

namespace Sys2Proof.Laws

open Sys2Proof.Machine

variable (d : Dev)

/-! ## The state -/

@[simp] theorem onDev_dev (s : State) (f : Dev → Dev) : (s.onDev f).dev = f s.dev := rfl
@[simp] theorem onDev_flash (s : State) (f : Dev → Dev) : (s.onDev f).flash = s.flash := rfl
@[simp] theorem onDev_pending (s : State) (f : Dev → Dev) : (s.onDev f).pending = s.pending := rfl

/-! ## `Dev.setWord` -/

@[simp] theorem setWord_ident (r : Reg) (u : Nat) (w : Word) : (d.setWord r u w).ident = d.ident := rfl
@[simp] theorem setWord_applied (r : Reg) (u : Nat) (w : Word) : (d.setWord r u w).applied = d.applied := rfl
@[simp] theorem setWord_tbA (r : Reg) (u : Nat) (w : Word) : (d.setWord r u w).tbA = d.tbA := rfl
@[simp] theorem setWord_tbB (r : Reg) (u : Nat) (w : Word) : (d.setWord r u w).tbB = d.tbB := rfl
@[simp] theorem setWord_mir (r : Reg) (u : Nat) (w : Word) : (d.setWord r u w).mir = d.mir := rfl
@[simp] theorem setWord_rsel (r : Reg) (u : Nat) (w : Word) : (d.setWord r u w).rsel = d.rsel := rfl
@[simp] theorem setWord_cands (r : Reg) (u : Nat) (w : Word) : (d.setWord r u w).cands = d.cands := rfl
@[simp] theorem setWord_twin (r : Reg) (u : Nat) (w : Word) : (d.setWord r u w).twin = d.twin := rfl
@[simp] theorem setWord_syns (r : Reg) (u : Nat) (w : Word) : (d.setWord r u w).syns = d.syns := rfl
@[simp] theorem setWord_outs (r : Reg) (u : Nat) (w : Word) : (d.setWord r u w).outs = d.outs := rfl
@[simp] theorem setWord_chans (r : Reg) (u : Nat) (w : Word) : (d.setWord r u w).chans = d.chans := rfl
@[simp] theorem setWord_cpMail (r : Reg) (u : Nat) (w : Word) : (d.setWord r u w).cpMail = d.cpMail := rfl
@[simp] theorem setWord_counters (r : Reg) (u : Nat) (w : Word) : (d.setWord r u w).counters = d.counters := rfl
@[simp] theorem setWord_cntCfg (r : Reg) (u : Nat) (w : Word) : (d.setWord r u w).cntCfg = d.cntCfg := rfl
@[simp] theorem setWord_latches (r : Reg) (u : Nat) (w : Word) : (d.setWord r u w).latches = d.latches := rfl
@[simp] theorem setWord_ring (r : Reg) (u : Nat) (w : Word) : (d.setWord r u w).ring = d.ring := rfl
@[simp] theorem setWord_log (r : Reg) (u : Nat) (w : Word) : (d.setWord r u w).log = d.log := rfl
@[simp] theorem setWord_pcie (r : Reg) (u : Nat) (w : Word) : (d.setWord r u w).pcie = d.pcie := rfl
@[simp] theorem setWord_sw (r : Reg) (u : Nat) (w : Word) : (d.setWord r u w).sw = d.sw := rfl
@[simp] theorem setWord_ports (r : Reg) (u : Nat) (w : Word) : (d.setWord r u w).ports = d.ports := rfl
@[simp] theorem setWord_ptus (r : Reg) (u : Nat) (w : Word) : (d.setWord r u w).ptus = d.ptus := rfl
@[simp] theorem setWord_insts (r : Reg) (u : Nat) (w : Word) : (d.setWord r u w).insts = d.insts := rfl
@[simp] theorem setWord_tio (r : Reg) (u : Nat) (w : Word) : (d.setWord r u w).tio = d.tio := rfl
@[simp] theorem setWord_sys (r : Reg) (u : Nat) (w : Word) : (d.setWord r u w).sys = d.sys := rfl
@[simp] theorem setWord_sent (r : Reg) (u : Nat) (w : Word) : (d.setWord r u w).sent = d.sent := rfl
@[simp] theorem setWord_freeCtr (r : Reg) (u : Nat) (w : Word) : (d.setWord r u w).freeCtr = d.freeCtr := rfl
@[simp] theorem setWord_cycles (r : Reg) (u : Nat) (w : Word) : (d.setWord r u w).cycles = d.cycles := rfl

/-! ## `Dev.set` -/

@[simp] theorem set_ident (f : Fld) (v u : Nat) : (d.set f v u).ident = d.ident := rfl
@[simp] theorem set_applied (f : Fld) (v u : Nat) : (d.set f v u).applied = d.applied := rfl
@[simp] theorem set_tbA (f : Fld) (v u : Nat) : (d.set f v u).tbA = d.tbA := rfl
@[simp] theorem set_tbB (f : Fld) (v u : Nat) : (d.set f v u).tbB = d.tbB := rfl
@[simp] theorem set_mir (f : Fld) (v u : Nat) : (d.set f v u).mir = d.mir := rfl
@[simp] theorem set_rsel (f : Fld) (v u : Nat) : (d.set f v u).rsel = d.rsel := rfl
@[simp] theorem set_cands (f : Fld) (v u : Nat) : (d.set f v u).cands = d.cands := rfl
@[simp] theorem set_twin (f : Fld) (v u : Nat) : (d.set f v u).twin = d.twin := rfl
@[simp] theorem set_syns (f : Fld) (v u : Nat) : (d.set f v u).syns = d.syns := rfl
@[simp] theorem set_outs (f : Fld) (v u : Nat) : (d.set f v u).outs = d.outs := rfl
@[simp] theorem set_chans (f : Fld) (v u : Nat) : (d.set f v u).chans = d.chans := rfl
@[simp] theorem set_cpMail (f : Fld) (v u : Nat) : (d.set f v u).cpMail = d.cpMail := rfl
@[simp] theorem set_counters (f : Fld) (v u : Nat) : (d.set f v u).counters = d.counters := rfl
@[simp] theorem set_cntCfg (f : Fld) (v u : Nat) : (d.set f v u).cntCfg = d.cntCfg := rfl
@[simp] theorem set_latches (f : Fld) (v u : Nat) : (d.set f v u).latches = d.latches := rfl
@[simp] theorem set_ring (f : Fld) (v u : Nat) : (d.set f v u).ring = d.ring := rfl
@[simp] theorem set_log (f : Fld) (v u : Nat) : (d.set f v u).log = d.log := rfl
@[simp] theorem set_pcie (f : Fld) (v u : Nat) : (d.set f v u).pcie = d.pcie := rfl
@[simp] theorem set_sw (f : Fld) (v u : Nat) : (d.set f v u).sw = d.sw := rfl
@[simp] theorem set_ports (f : Fld) (v u : Nat) : (d.set f v u).ports = d.ports := rfl
@[simp] theorem set_ptus (f : Fld) (v u : Nat) : (d.set f v u).ptus = d.ptus := rfl
@[simp] theorem set_insts (f : Fld) (v u : Nat) : (d.set f v u).insts = d.insts := rfl
@[simp] theorem set_tio (f : Fld) (v u : Nat) : (d.set f v u).tio = d.tio := rfl
@[simp] theorem set_sys (f : Fld) (v u : Nat) : (d.set f v u).sys = d.sys := rfl
@[simp] theorem set_sent (f : Fld) (v u : Nat) : (d.set f v u).sent = d.sent := rfl
@[simp] theorem set_freeCtr (f : Fld) (v u : Nat) : (d.set f v u).freeCtr = d.freeCtr := rfl
@[simp] theorem set_cycles (f : Fld) (v u : Nat) : (d.set f v u).cycles = d.cycles := rfl

/-! ## `Dev.setB` -/

@[simp] theorem setB_ident (f : Fld) (b : Bool) (u : Nat) : (d.setB f b u).ident = d.ident := rfl
@[simp] theorem setB_applied (f : Fld) (b : Bool) (u : Nat) : (d.setB f b u).applied = d.applied := rfl
@[simp] theorem setB_tbA (f : Fld) (b : Bool) (u : Nat) : (d.setB f b u).tbA = d.tbA := rfl
@[simp] theorem setB_tbB (f : Fld) (b : Bool) (u : Nat) : (d.setB f b u).tbB = d.tbB := rfl
@[simp] theorem setB_mir (f : Fld) (b : Bool) (u : Nat) : (d.setB f b u).mir = d.mir := rfl
@[simp] theorem setB_rsel (f : Fld) (b : Bool) (u : Nat) : (d.setB f b u).rsel = d.rsel := rfl
@[simp] theorem setB_cands (f : Fld) (b : Bool) (u : Nat) : (d.setB f b u).cands = d.cands := rfl
@[simp] theorem setB_twin (f : Fld) (b : Bool) (u : Nat) : (d.setB f b u).twin = d.twin := rfl
@[simp] theorem setB_syns (f : Fld) (b : Bool) (u : Nat) : (d.setB f b u).syns = d.syns := rfl
@[simp] theorem setB_outs (f : Fld) (b : Bool) (u : Nat) : (d.setB f b u).outs = d.outs := rfl
@[simp] theorem setB_chans (f : Fld) (b : Bool) (u : Nat) : (d.setB f b u).chans = d.chans := rfl
@[simp] theorem setB_cpMail (f : Fld) (b : Bool) (u : Nat) : (d.setB f b u).cpMail = d.cpMail := rfl
@[simp] theorem setB_counters (f : Fld) (b : Bool) (u : Nat) : (d.setB f b u).counters = d.counters := rfl
@[simp] theorem setB_cntCfg (f : Fld) (b : Bool) (u : Nat) : (d.setB f b u).cntCfg = d.cntCfg := rfl
@[simp] theorem setB_latches (f : Fld) (b : Bool) (u : Nat) : (d.setB f b u).latches = d.latches := rfl
@[simp] theorem setB_ring (f : Fld) (b : Bool) (u : Nat) : (d.setB f b u).ring = d.ring := rfl
@[simp] theorem setB_log (f : Fld) (b : Bool) (u : Nat) : (d.setB f b u).log = d.log := rfl
@[simp] theorem setB_pcie (f : Fld) (b : Bool) (u : Nat) : (d.setB f b u).pcie = d.pcie := rfl
@[simp] theorem setB_sw (f : Fld) (b : Bool) (u : Nat) : (d.setB f b u).sw = d.sw := rfl
@[simp] theorem setB_ports (f : Fld) (b : Bool) (u : Nat) : (d.setB f b u).ports = d.ports := rfl
@[simp] theorem setB_ptus (f : Fld) (b : Bool) (u : Nat) : (d.setB f b u).ptus = d.ptus := rfl
@[simp] theorem setB_insts (f : Fld) (b : Bool) (u : Nat) : (d.setB f b u).insts = d.insts := rfl
@[simp] theorem setB_tio (f : Fld) (b : Bool) (u : Nat) : (d.setB f b u).tio = d.tio := rfl
@[simp] theorem setB_sys (f : Fld) (b : Bool) (u : Nat) : (d.setB f b u).sys = d.sys := rfl
@[simp] theorem setB_sent (f : Fld) (b : Bool) (u : Nat) : (d.setB f b u).sent = d.sent := rfl
@[simp] theorem setB_freeCtr (f : Fld) (b : Bool) (u : Nat) : (d.setB f b u).freeCtr = d.freeCtr := rfl
@[simp] theorem setB_cycles (f : Fld) (b : Bool) (u : Nat) : (d.setB f b u).cycles = d.cycles := rfl

/-! ## `Dev.emit` -/

@[simp] theorem emit_ident (e : Emit) : (d.emit e).ident = d.ident := rfl
@[simp] theorem emit_applied (e : Emit) : (d.emit e).applied = d.applied := rfl
@[simp] theorem emit_regs (e : Emit) : (d.emit e).regs = d.regs := rfl
@[simp] theorem emit_tbA (e : Emit) : (d.emit e).tbA = d.tbA := rfl
@[simp] theorem emit_tbB (e : Emit) : (d.emit e).tbB = d.tbB := rfl
@[simp] theorem emit_mir (e : Emit) : (d.emit e).mir = d.mir := rfl
@[simp] theorem emit_rsel (e : Emit) : (d.emit e).rsel = d.rsel := rfl
@[simp] theorem emit_cands (e : Emit) : (d.emit e).cands = d.cands := rfl
@[simp] theorem emit_twin (e : Emit) : (d.emit e).twin = d.twin := rfl
@[simp] theorem emit_syns (e : Emit) : (d.emit e).syns = d.syns := rfl
@[simp] theorem emit_outs (e : Emit) : (d.emit e).outs = d.outs := rfl
@[simp] theorem emit_chans (e : Emit) : (d.emit e).chans = d.chans := rfl
@[simp] theorem emit_cpMail (e : Emit) : (d.emit e).cpMail = d.cpMail := rfl
@[simp] theorem emit_counters (e : Emit) : (d.emit e).counters = d.counters := rfl
@[simp] theorem emit_cntCfg (e : Emit) : (d.emit e).cntCfg = d.cntCfg := rfl
@[simp] theorem emit_latches (e : Emit) : (d.emit e).latches = d.latches := rfl
@[simp] theorem emit_ring (e : Emit) : (d.emit e).ring = d.ring := rfl
@[simp] theorem emit_log (e : Emit) : (d.emit e).log = d.log := rfl
@[simp] theorem emit_pcie (e : Emit) : (d.emit e).pcie = d.pcie := rfl
@[simp] theorem emit_sw (e : Emit) : (d.emit e).sw = d.sw := rfl
@[simp] theorem emit_ports (e : Emit) : (d.emit e).ports = d.ports := rfl
@[simp] theorem emit_ptus (e : Emit) : (d.emit e).ptus = d.ptus := rfl
@[simp] theorem emit_insts (e : Emit) : (d.emit e).insts = d.insts := rfl
@[simp] theorem emit_tio (e : Emit) : (d.emit e).tio = d.tio := rfl
@[simp] theorem emit_sys (e : Emit) : (d.emit e).sys = d.sys := rfl
@[simp] theorem emit_freeCtr (e : Emit) : (d.emit e).freeCtr = d.freeCtr := rfl
@[simp] theorem emit_cycles (e : Emit) : (d.emit e).cycles = d.cycles := rfl

/-! ## `Dev.spendFree` -/

@[simp] theorem spendFree_ident : (d.spendFree).ident = d.ident := rfl
@[simp] theorem spendFree_applied : (d.spendFree).applied = d.applied := rfl
@[simp] theorem spendFree_regs : (d.spendFree).regs = d.regs := rfl
@[simp] theorem spendFree_tbA : (d.spendFree).tbA = d.tbA := rfl
@[simp] theorem spendFree_tbB : (d.spendFree).tbB = d.tbB := rfl
@[simp] theorem spendFree_mir : (d.spendFree).mir = d.mir := rfl
@[simp] theorem spendFree_rsel : (d.spendFree).rsel = d.rsel := rfl
@[simp] theorem spendFree_cands : (d.spendFree).cands = d.cands := rfl
@[simp] theorem spendFree_twin : (d.spendFree).twin = d.twin := rfl
@[simp] theorem spendFree_syns : (d.spendFree).syns = d.syns := rfl
@[simp] theorem spendFree_outs : (d.spendFree).outs = d.outs := rfl
@[simp] theorem spendFree_chans : (d.spendFree).chans = d.chans := rfl
@[simp] theorem spendFree_cpMail : (d.spendFree).cpMail = d.cpMail := rfl
@[simp] theorem spendFree_counters : (d.spendFree).counters = d.counters := rfl
@[simp] theorem spendFree_cntCfg : (d.spendFree).cntCfg = d.cntCfg := rfl
@[simp] theorem spendFree_latches : (d.spendFree).latches = d.latches := rfl
@[simp] theorem spendFree_ring : (d.spendFree).ring = d.ring := rfl
@[simp] theorem spendFree_log : (d.spendFree).log = d.log := rfl
@[simp] theorem spendFree_pcie : (d.spendFree).pcie = d.pcie := rfl
@[simp] theorem spendFree_sw : (d.spendFree).sw = d.sw := rfl
@[simp] theorem spendFree_ports : (d.spendFree).ports = d.ports := rfl
@[simp] theorem spendFree_ptus : (d.spendFree).ptus = d.ptus := rfl
@[simp] theorem spendFree_insts : (d.spendFree).insts = d.insts := rfl
@[simp] theorem spendFree_tio : (d.spendFree).tio = d.tio := rfl
@[simp] theorem spendFree_sys : (d.spendFree).sys = d.sys := rfl
@[simp] theorem spendFree_sent : (d.spendFree).sent = d.sent := rfl
@[simp] theorem spendFree_cycles : (d.spendFree).cycles = d.cycles := rfl

/-! ## `Dev.onTwin` -/

@[simp] theorem onTwin_ident (f : Twin → Twin) : (d.onTwin f).ident = d.ident := rfl
@[simp] theorem onTwin_applied (f : Twin → Twin) : (d.onTwin f).applied = d.applied := rfl
@[simp] theorem onTwin_regs (f : Twin → Twin) : (d.onTwin f).regs = d.regs := rfl
@[simp] theorem onTwin_tbA (f : Twin → Twin) : (d.onTwin f).tbA = d.tbA := rfl
@[simp] theorem onTwin_tbB (f : Twin → Twin) : (d.onTwin f).tbB = d.tbB := rfl
@[simp] theorem onTwin_mir (f : Twin → Twin) : (d.onTwin f).mir = d.mir := rfl
@[simp] theorem onTwin_rsel (f : Twin → Twin) : (d.onTwin f).rsel = d.rsel := rfl
@[simp] theorem onTwin_cands (f : Twin → Twin) : (d.onTwin f).cands = d.cands := rfl
@[simp] theorem onTwin_syns (f : Twin → Twin) : (d.onTwin f).syns = d.syns := rfl
@[simp] theorem onTwin_outs (f : Twin → Twin) : (d.onTwin f).outs = d.outs := rfl
@[simp] theorem onTwin_chans (f : Twin → Twin) : (d.onTwin f).chans = d.chans := rfl
@[simp] theorem onTwin_cpMail (f : Twin → Twin) : (d.onTwin f).cpMail = d.cpMail := rfl
@[simp] theorem onTwin_counters (f : Twin → Twin) : (d.onTwin f).counters = d.counters := rfl
@[simp] theorem onTwin_cntCfg (f : Twin → Twin) : (d.onTwin f).cntCfg = d.cntCfg := rfl
@[simp] theorem onTwin_latches (f : Twin → Twin) : (d.onTwin f).latches = d.latches := rfl
@[simp] theorem onTwin_ring (f : Twin → Twin) : (d.onTwin f).ring = d.ring := rfl
@[simp] theorem onTwin_log (f : Twin → Twin) : (d.onTwin f).log = d.log := rfl
@[simp] theorem onTwin_pcie (f : Twin → Twin) : (d.onTwin f).pcie = d.pcie := rfl
@[simp] theorem onTwin_sw (f : Twin → Twin) : (d.onTwin f).sw = d.sw := rfl
@[simp] theorem onTwin_ports (f : Twin → Twin) : (d.onTwin f).ports = d.ports := rfl
@[simp] theorem onTwin_ptus (f : Twin → Twin) : (d.onTwin f).ptus = d.ptus := rfl
@[simp] theorem onTwin_insts (f : Twin → Twin) : (d.onTwin f).insts = d.insts := rfl
@[simp] theorem onTwin_tio (f : Twin → Twin) : (d.onTwin f).tio = d.tio := rfl
@[simp] theorem onTwin_sys (f : Twin → Twin) : (d.onTwin f).sys = d.sys := rfl
@[simp] theorem onTwin_sent (f : Twin → Twin) : (d.onTwin f).sent = d.sent := rfl
@[simp] theorem onTwin_freeCtr (f : Twin → Twin) : (d.onTwin f).freeCtr = d.freeCtr := rfl
@[simp] theorem onTwin_cycles (f : Twin → Twin) : (d.onTwin f).cycles = d.cycles := rfl

/-! ## `Dev.onMir` -/

@[simp] theorem onMir_ident (f : Mirrored → Mirrored) : (d.onMir f).ident = d.ident := rfl
@[simp] theorem onMir_applied (f : Mirrored → Mirrored) : (d.onMir f).applied = d.applied := rfl
@[simp] theorem onMir_regs (f : Mirrored → Mirrored) : (d.onMir f).regs = d.regs := rfl
@[simp] theorem onMir_tbA (f : Mirrored → Mirrored) : (d.onMir f).tbA = d.tbA := rfl
@[simp] theorem onMir_tbB (f : Mirrored → Mirrored) : (d.onMir f).tbB = d.tbB := rfl
@[simp] theorem onMir_rsel (f : Mirrored → Mirrored) : (d.onMir f).rsel = d.rsel := rfl
@[simp] theorem onMir_cands (f : Mirrored → Mirrored) : (d.onMir f).cands = d.cands := rfl
@[simp] theorem onMir_twin (f : Mirrored → Mirrored) : (d.onMir f).twin = d.twin := rfl
@[simp] theorem onMir_syns (f : Mirrored → Mirrored) : (d.onMir f).syns = d.syns := rfl
@[simp] theorem onMir_outs (f : Mirrored → Mirrored) : (d.onMir f).outs = d.outs := rfl
@[simp] theorem onMir_chans (f : Mirrored → Mirrored) : (d.onMir f).chans = d.chans := rfl
@[simp] theorem onMir_cpMail (f : Mirrored → Mirrored) : (d.onMir f).cpMail = d.cpMail := rfl
@[simp] theorem onMir_counters (f : Mirrored → Mirrored) : (d.onMir f).counters = d.counters := rfl
@[simp] theorem onMir_cntCfg (f : Mirrored → Mirrored) : (d.onMir f).cntCfg = d.cntCfg := rfl
@[simp] theorem onMir_latches (f : Mirrored → Mirrored) : (d.onMir f).latches = d.latches := rfl
@[simp] theorem onMir_ring (f : Mirrored → Mirrored) : (d.onMir f).ring = d.ring := rfl
@[simp] theorem onMir_log (f : Mirrored → Mirrored) : (d.onMir f).log = d.log := rfl
@[simp] theorem onMir_pcie (f : Mirrored → Mirrored) : (d.onMir f).pcie = d.pcie := rfl
@[simp] theorem onMir_sw (f : Mirrored → Mirrored) : (d.onMir f).sw = d.sw := rfl
@[simp] theorem onMir_ports (f : Mirrored → Mirrored) : (d.onMir f).ports = d.ports := rfl
@[simp] theorem onMir_ptus (f : Mirrored → Mirrored) : (d.onMir f).ptus = d.ptus := rfl
@[simp] theorem onMir_insts (f : Mirrored → Mirrored) : (d.onMir f).insts = d.insts := rfl
@[simp] theorem onMir_tio (f : Mirrored → Mirrored) : (d.onMir f).tio = d.tio := rfl
@[simp] theorem onMir_sys (f : Mirrored → Mirrored) : (d.onMir f).sys = d.sys := rfl
@[simp] theorem onMir_sent (f : Mirrored → Mirrored) : (d.onMir f).sent = d.sent := rfl
@[simp] theorem onMir_freeCtr (f : Mirrored → Mirrored) : (d.onMir f).freeCtr = d.freeCtr := rfl
@[simp] theorem onMir_cycles (f : Mirrored → Mirrored) : (d.onMir f).cycles = d.cycles := rfl

/-! ## `Dev.onRsel` -/

@[simp] theorem onRsel_ident (f : Rsel → Rsel) : (d.onRsel f).ident = d.ident := rfl
@[simp] theorem onRsel_applied (f : Rsel → Rsel) : (d.onRsel f).applied = d.applied := rfl
@[simp] theorem onRsel_regs (f : Rsel → Rsel) : (d.onRsel f).regs = d.regs := rfl
@[simp] theorem onRsel_tbA (f : Rsel → Rsel) : (d.onRsel f).tbA = d.tbA := rfl
@[simp] theorem onRsel_tbB (f : Rsel → Rsel) : (d.onRsel f).tbB = d.tbB := rfl
@[simp] theorem onRsel_mir (f : Rsel → Rsel) : (d.onRsel f).mir = d.mir := rfl
@[simp] theorem onRsel_cands (f : Rsel → Rsel) : (d.onRsel f).cands = d.cands := rfl
@[simp] theorem onRsel_twin (f : Rsel → Rsel) : (d.onRsel f).twin = d.twin := rfl
@[simp] theorem onRsel_syns (f : Rsel → Rsel) : (d.onRsel f).syns = d.syns := rfl
@[simp] theorem onRsel_outs (f : Rsel → Rsel) : (d.onRsel f).outs = d.outs := rfl
@[simp] theorem onRsel_chans (f : Rsel → Rsel) : (d.onRsel f).chans = d.chans := rfl
@[simp] theorem onRsel_cpMail (f : Rsel → Rsel) : (d.onRsel f).cpMail = d.cpMail := rfl
@[simp] theorem onRsel_counters (f : Rsel → Rsel) : (d.onRsel f).counters = d.counters := rfl
@[simp] theorem onRsel_cntCfg (f : Rsel → Rsel) : (d.onRsel f).cntCfg = d.cntCfg := rfl
@[simp] theorem onRsel_latches (f : Rsel → Rsel) : (d.onRsel f).latches = d.latches := rfl
@[simp] theorem onRsel_ring (f : Rsel → Rsel) : (d.onRsel f).ring = d.ring := rfl
@[simp] theorem onRsel_log (f : Rsel → Rsel) : (d.onRsel f).log = d.log := rfl
@[simp] theorem onRsel_pcie (f : Rsel → Rsel) : (d.onRsel f).pcie = d.pcie := rfl
@[simp] theorem onRsel_sw (f : Rsel → Rsel) : (d.onRsel f).sw = d.sw := rfl
@[simp] theorem onRsel_ports (f : Rsel → Rsel) : (d.onRsel f).ports = d.ports := rfl
@[simp] theorem onRsel_ptus (f : Rsel → Rsel) : (d.onRsel f).ptus = d.ptus := rfl
@[simp] theorem onRsel_insts (f : Rsel → Rsel) : (d.onRsel f).insts = d.insts := rfl
@[simp] theorem onRsel_tio (f : Rsel → Rsel) : (d.onRsel f).tio = d.tio := rfl
@[simp] theorem onRsel_sys (f : Rsel → Rsel) : (d.onRsel f).sys = d.sys := rfl
@[simp] theorem onRsel_sent (f : Rsel → Rsel) : (d.onRsel f).sent = d.sent := rfl
@[simp] theorem onRsel_freeCtr (f : Rsel → Rsel) : (d.onRsel f).freeCtr = d.freeCtr := rfl
@[simp] theorem onRsel_cycles (f : Rsel → Rsel) : (d.onRsel f).cycles = d.cycles := rfl

/-! ## `Dev.onSw` -/

@[simp] theorem onSw_ident (f : Switch → Switch) : (d.onSw f).ident = d.ident := rfl
@[simp] theorem onSw_applied (f : Switch → Switch) : (d.onSw f).applied = d.applied := rfl
@[simp] theorem onSw_regs (f : Switch → Switch) : (d.onSw f).regs = d.regs := rfl
@[simp] theorem onSw_tbA (f : Switch → Switch) : (d.onSw f).tbA = d.tbA := rfl
@[simp] theorem onSw_tbB (f : Switch → Switch) : (d.onSw f).tbB = d.tbB := rfl
@[simp] theorem onSw_mir (f : Switch → Switch) : (d.onSw f).mir = d.mir := rfl
@[simp] theorem onSw_rsel (f : Switch → Switch) : (d.onSw f).rsel = d.rsel := rfl
@[simp] theorem onSw_cands (f : Switch → Switch) : (d.onSw f).cands = d.cands := rfl
@[simp] theorem onSw_twin (f : Switch → Switch) : (d.onSw f).twin = d.twin := rfl
@[simp] theorem onSw_syns (f : Switch → Switch) : (d.onSw f).syns = d.syns := rfl
@[simp] theorem onSw_outs (f : Switch → Switch) : (d.onSw f).outs = d.outs := rfl
@[simp] theorem onSw_chans (f : Switch → Switch) : (d.onSw f).chans = d.chans := rfl
@[simp] theorem onSw_cpMail (f : Switch → Switch) : (d.onSw f).cpMail = d.cpMail := rfl
@[simp] theorem onSw_counters (f : Switch → Switch) : (d.onSw f).counters = d.counters := rfl
@[simp] theorem onSw_cntCfg (f : Switch → Switch) : (d.onSw f).cntCfg = d.cntCfg := rfl
@[simp] theorem onSw_latches (f : Switch → Switch) : (d.onSw f).latches = d.latches := rfl
@[simp] theorem onSw_ring (f : Switch → Switch) : (d.onSw f).ring = d.ring := rfl
@[simp] theorem onSw_log (f : Switch → Switch) : (d.onSw f).log = d.log := rfl
@[simp] theorem onSw_pcie (f : Switch → Switch) : (d.onSw f).pcie = d.pcie := rfl
@[simp] theorem onSw_ports (f : Switch → Switch) : (d.onSw f).ports = d.ports := rfl
@[simp] theorem onSw_ptus (f : Switch → Switch) : (d.onSw f).ptus = d.ptus := rfl
@[simp] theorem onSw_insts (f : Switch → Switch) : (d.onSw f).insts = d.insts := rfl
@[simp] theorem onSw_tio (f : Switch → Switch) : (d.onSw f).tio = d.tio := rfl
@[simp] theorem onSw_sys (f : Switch → Switch) : (d.onSw f).sys = d.sys := rfl
@[simp] theorem onSw_sent (f : Switch → Switch) : (d.onSw f).sent = d.sent := rfl
@[simp] theorem onSw_freeCtr (f : Switch → Switch) : (d.onSw f).freeCtr = d.freeCtr := rfl
@[simp] theorem onSw_cycles (f : Switch → Switch) : (d.onSw f).cycles = d.cycles := rfl

/-! ## `Dev.onSys` -/

@[simp] theorem onSys_ident (f : Sys → Sys) : (d.onSys f).ident = d.ident := rfl
@[simp] theorem onSys_applied (f : Sys → Sys) : (d.onSys f).applied = d.applied := rfl
@[simp] theorem onSys_regs (f : Sys → Sys) : (d.onSys f).regs = d.regs := rfl
@[simp] theorem onSys_tbA (f : Sys → Sys) : (d.onSys f).tbA = d.tbA := rfl
@[simp] theorem onSys_tbB (f : Sys → Sys) : (d.onSys f).tbB = d.tbB := rfl
@[simp] theorem onSys_mir (f : Sys → Sys) : (d.onSys f).mir = d.mir := rfl
@[simp] theorem onSys_rsel (f : Sys → Sys) : (d.onSys f).rsel = d.rsel := rfl
@[simp] theorem onSys_cands (f : Sys → Sys) : (d.onSys f).cands = d.cands := rfl
@[simp] theorem onSys_twin (f : Sys → Sys) : (d.onSys f).twin = d.twin := rfl
@[simp] theorem onSys_syns (f : Sys → Sys) : (d.onSys f).syns = d.syns := rfl
@[simp] theorem onSys_outs (f : Sys → Sys) : (d.onSys f).outs = d.outs := rfl
@[simp] theorem onSys_chans (f : Sys → Sys) : (d.onSys f).chans = d.chans := rfl
@[simp] theorem onSys_cpMail (f : Sys → Sys) : (d.onSys f).cpMail = d.cpMail := rfl
@[simp] theorem onSys_counters (f : Sys → Sys) : (d.onSys f).counters = d.counters := rfl
@[simp] theorem onSys_cntCfg (f : Sys → Sys) : (d.onSys f).cntCfg = d.cntCfg := rfl
@[simp] theorem onSys_latches (f : Sys → Sys) : (d.onSys f).latches = d.latches := rfl
@[simp] theorem onSys_ring (f : Sys → Sys) : (d.onSys f).ring = d.ring := rfl
@[simp] theorem onSys_log (f : Sys → Sys) : (d.onSys f).log = d.log := rfl
@[simp] theorem onSys_pcie (f : Sys → Sys) : (d.onSys f).pcie = d.pcie := rfl
@[simp] theorem onSys_sw (f : Sys → Sys) : (d.onSys f).sw = d.sw := rfl
@[simp] theorem onSys_ports (f : Sys → Sys) : (d.onSys f).ports = d.ports := rfl
@[simp] theorem onSys_ptus (f : Sys → Sys) : (d.onSys f).ptus = d.ptus := rfl
@[simp] theorem onSys_insts (f : Sys → Sys) : (d.onSys f).insts = d.insts := rfl
@[simp] theorem onSys_tio (f : Sys → Sys) : (d.onSys f).tio = d.tio := rfl
@[simp] theorem onSys_sent (f : Sys → Sys) : (d.onSys f).sent = d.sent := rfl
@[simp] theorem onSys_freeCtr (f : Sys → Sys) : (d.onSys f).freeCtr = d.freeCtr := rfl
@[simp] theorem onSys_cycles (f : Sys → Sys) : (d.onSys f).cycles = d.cycles := rfl

/-! ## `Dev.onCand` -/

@[simp] theorem onCand_ident (i : Nat) (f : Cand → Cand) : (d.onCand i f).ident = d.ident := rfl
@[simp] theorem onCand_applied (i : Nat) (f : Cand → Cand) : (d.onCand i f).applied = d.applied := rfl
@[simp] theorem onCand_regs (i : Nat) (f : Cand → Cand) : (d.onCand i f).regs = d.regs := rfl
@[simp] theorem onCand_tbA (i : Nat) (f : Cand → Cand) : (d.onCand i f).tbA = d.tbA := rfl
@[simp] theorem onCand_tbB (i : Nat) (f : Cand → Cand) : (d.onCand i f).tbB = d.tbB := rfl
@[simp] theorem onCand_mir (i : Nat) (f : Cand → Cand) : (d.onCand i f).mir = d.mir := rfl
@[simp] theorem onCand_rsel (i : Nat) (f : Cand → Cand) : (d.onCand i f).rsel = d.rsel := rfl
@[simp] theorem onCand_twin (i : Nat) (f : Cand → Cand) : (d.onCand i f).twin = d.twin := rfl
@[simp] theorem onCand_syns (i : Nat) (f : Cand → Cand) : (d.onCand i f).syns = d.syns := rfl
@[simp] theorem onCand_outs (i : Nat) (f : Cand → Cand) : (d.onCand i f).outs = d.outs := rfl
@[simp] theorem onCand_chans (i : Nat) (f : Cand → Cand) : (d.onCand i f).chans = d.chans := rfl
@[simp] theorem onCand_cpMail (i : Nat) (f : Cand → Cand) : (d.onCand i f).cpMail = d.cpMail := rfl
@[simp] theorem onCand_counters (i : Nat) (f : Cand → Cand) : (d.onCand i f).counters = d.counters := rfl
@[simp] theorem onCand_cntCfg (i : Nat) (f : Cand → Cand) : (d.onCand i f).cntCfg = d.cntCfg := rfl
@[simp] theorem onCand_latches (i : Nat) (f : Cand → Cand) : (d.onCand i f).latches = d.latches := rfl
@[simp] theorem onCand_ring (i : Nat) (f : Cand → Cand) : (d.onCand i f).ring = d.ring := rfl
@[simp] theorem onCand_log (i : Nat) (f : Cand → Cand) : (d.onCand i f).log = d.log := rfl
@[simp] theorem onCand_pcie (i : Nat) (f : Cand → Cand) : (d.onCand i f).pcie = d.pcie := rfl
@[simp] theorem onCand_sw (i : Nat) (f : Cand → Cand) : (d.onCand i f).sw = d.sw := rfl
@[simp] theorem onCand_ports (i : Nat) (f : Cand → Cand) : (d.onCand i f).ports = d.ports := rfl
@[simp] theorem onCand_ptus (i : Nat) (f : Cand → Cand) : (d.onCand i f).ptus = d.ptus := rfl
@[simp] theorem onCand_insts (i : Nat) (f : Cand → Cand) : (d.onCand i f).insts = d.insts := rfl
@[simp] theorem onCand_tio (i : Nat) (f : Cand → Cand) : (d.onCand i f).tio = d.tio := rfl
@[simp] theorem onCand_sys (i : Nat) (f : Cand → Cand) : (d.onCand i f).sys = d.sys := rfl
@[simp] theorem onCand_sent (i : Nat) (f : Cand → Cand) : (d.onCand i f).sent = d.sent := rfl
@[simp] theorem onCand_freeCtr (i : Nat) (f : Cand → Cand) : (d.onCand i f).freeCtr = d.freeCtr := rfl
@[simp] theorem onCand_cycles (i : Nat) (f : Cand → Cand) : (d.onCand i f).cycles = d.cycles := rfl

/-! ## `Dev.onPort` -/

@[simp] theorem onPort_ident (p : Nat) (f : Port → Port) : (d.onPort p f).ident = d.ident := rfl
@[simp] theorem onPort_applied (p : Nat) (f : Port → Port) : (d.onPort p f).applied = d.applied := rfl
@[simp] theorem onPort_regs (p : Nat) (f : Port → Port) : (d.onPort p f).regs = d.regs := rfl
@[simp] theorem onPort_tbA (p : Nat) (f : Port → Port) : (d.onPort p f).tbA = d.tbA := rfl
@[simp] theorem onPort_tbB (p : Nat) (f : Port → Port) : (d.onPort p f).tbB = d.tbB := rfl
@[simp] theorem onPort_mir (p : Nat) (f : Port → Port) : (d.onPort p f).mir = d.mir := rfl
@[simp] theorem onPort_rsel (p : Nat) (f : Port → Port) : (d.onPort p f).rsel = d.rsel := rfl
@[simp] theorem onPort_cands (p : Nat) (f : Port → Port) : (d.onPort p f).cands = d.cands := rfl
@[simp] theorem onPort_twin (p : Nat) (f : Port → Port) : (d.onPort p f).twin = d.twin := rfl
@[simp] theorem onPort_syns (p : Nat) (f : Port → Port) : (d.onPort p f).syns = d.syns := rfl
@[simp] theorem onPort_outs (p : Nat) (f : Port → Port) : (d.onPort p f).outs = d.outs := rfl
@[simp] theorem onPort_chans (p : Nat) (f : Port → Port) : (d.onPort p f).chans = d.chans := rfl
@[simp] theorem onPort_cpMail (p : Nat) (f : Port → Port) : (d.onPort p f).cpMail = d.cpMail := rfl
@[simp] theorem onPort_counters (p : Nat) (f : Port → Port) : (d.onPort p f).counters = d.counters := rfl
@[simp] theorem onPort_cntCfg (p : Nat) (f : Port → Port) : (d.onPort p f).cntCfg = d.cntCfg := rfl
@[simp] theorem onPort_latches (p : Nat) (f : Port → Port) : (d.onPort p f).latches = d.latches := rfl
@[simp] theorem onPort_ring (p : Nat) (f : Port → Port) : (d.onPort p f).ring = d.ring := rfl
@[simp] theorem onPort_log (p : Nat) (f : Port → Port) : (d.onPort p f).log = d.log := rfl
@[simp] theorem onPort_pcie (p : Nat) (f : Port → Port) : (d.onPort p f).pcie = d.pcie := rfl
@[simp] theorem onPort_sw (p : Nat) (f : Port → Port) : (d.onPort p f).sw = d.sw := rfl
@[simp] theorem onPort_ptus (p : Nat) (f : Port → Port) : (d.onPort p f).ptus = d.ptus := rfl
@[simp] theorem onPort_insts (p : Nat) (f : Port → Port) : (d.onPort p f).insts = d.insts := rfl
@[simp] theorem onPort_tio (p : Nat) (f : Port → Port) : (d.onPort p f).tio = d.tio := rfl
@[simp] theorem onPort_sys (p : Nat) (f : Port → Port) : (d.onPort p f).sys = d.sys := rfl
@[simp] theorem onPort_sent (p : Nat) (f : Port → Port) : (d.onPort p f).sent = d.sent := rfl
@[simp] theorem onPort_freeCtr (p : Nat) (f : Port → Port) : (d.onPort p f).freeCtr = d.freeCtr := rfl
@[simp] theorem onPort_cycles (p : Nat) (f : Port → Port) : (d.onPort p f).cycles = d.cycles := rfl

/-! ## `Dev.onPtu` -/

@[simp] theorem onPtu_ident (p : Nat) (f : PtuPort → PtuPort) : (d.onPtu p f).ident = d.ident := rfl
@[simp] theorem onPtu_applied (p : Nat) (f : PtuPort → PtuPort) : (d.onPtu p f).applied = d.applied := rfl
@[simp] theorem onPtu_regs (p : Nat) (f : PtuPort → PtuPort) : (d.onPtu p f).regs = d.regs := rfl
@[simp] theorem onPtu_tbA (p : Nat) (f : PtuPort → PtuPort) : (d.onPtu p f).tbA = d.tbA := rfl
@[simp] theorem onPtu_tbB (p : Nat) (f : PtuPort → PtuPort) : (d.onPtu p f).tbB = d.tbB := rfl
@[simp] theorem onPtu_mir (p : Nat) (f : PtuPort → PtuPort) : (d.onPtu p f).mir = d.mir := rfl
@[simp] theorem onPtu_rsel (p : Nat) (f : PtuPort → PtuPort) : (d.onPtu p f).rsel = d.rsel := rfl
@[simp] theorem onPtu_cands (p : Nat) (f : PtuPort → PtuPort) : (d.onPtu p f).cands = d.cands := rfl
@[simp] theorem onPtu_twin (p : Nat) (f : PtuPort → PtuPort) : (d.onPtu p f).twin = d.twin := rfl
@[simp] theorem onPtu_syns (p : Nat) (f : PtuPort → PtuPort) : (d.onPtu p f).syns = d.syns := rfl
@[simp] theorem onPtu_outs (p : Nat) (f : PtuPort → PtuPort) : (d.onPtu p f).outs = d.outs := rfl
@[simp] theorem onPtu_chans (p : Nat) (f : PtuPort → PtuPort) : (d.onPtu p f).chans = d.chans := rfl
@[simp] theorem onPtu_cpMail (p : Nat) (f : PtuPort → PtuPort) : (d.onPtu p f).cpMail = d.cpMail := rfl
@[simp] theorem onPtu_counters (p : Nat) (f : PtuPort → PtuPort) : (d.onPtu p f).counters = d.counters := rfl
@[simp] theorem onPtu_cntCfg (p : Nat) (f : PtuPort → PtuPort) : (d.onPtu p f).cntCfg = d.cntCfg := rfl
@[simp] theorem onPtu_latches (p : Nat) (f : PtuPort → PtuPort) : (d.onPtu p f).latches = d.latches := rfl
@[simp] theorem onPtu_ring (p : Nat) (f : PtuPort → PtuPort) : (d.onPtu p f).ring = d.ring := rfl
@[simp] theorem onPtu_log (p : Nat) (f : PtuPort → PtuPort) : (d.onPtu p f).log = d.log := rfl
@[simp] theorem onPtu_pcie (p : Nat) (f : PtuPort → PtuPort) : (d.onPtu p f).pcie = d.pcie := rfl
@[simp] theorem onPtu_sw (p : Nat) (f : PtuPort → PtuPort) : (d.onPtu p f).sw = d.sw := rfl
@[simp] theorem onPtu_ports (p : Nat) (f : PtuPort → PtuPort) : (d.onPtu p f).ports = d.ports := rfl
@[simp] theorem onPtu_insts (p : Nat) (f : PtuPort → PtuPort) : (d.onPtu p f).insts = d.insts := rfl
@[simp] theorem onPtu_tio (p : Nat) (f : PtuPort → PtuPort) : (d.onPtu p f).tio = d.tio := rfl
@[simp] theorem onPtu_sys (p : Nat) (f : PtuPort → PtuPort) : (d.onPtu p f).sys = d.sys := rfl
@[simp] theorem onPtu_sent (p : Nat) (f : PtuPort → PtuPort) : (d.onPtu p f).sent = d.sent := rfl
@[simp] theorem onPtu_freeCtr (p : Nat) (f : PtuPort → PtuPort) : (d.onPtu p f).freeCtr = d.freeCtr := rfl
@[simp] theorem onPtu_cycles (p : Nat) (f : PtuPort → PtuPort) : (d.onPtu p f).cycles = d.cycles := rfl

/-! ## `Dev.onInst` -/

@[simp] theorem onInst_ident (i : Nat) (f : PtpInst → PtpInst) : (d.onInst i f).ident = d.ident := rfl
@[simp] theorem onInst_applied (i : Nat) (f : PtpInst → PtpInst) : (d.onInst i f).applied = d.applied := rfl
@[simp] theorem onInst_regs (i : Nat) (f : PtpInst → PtpInst) : (d.onInst i f).regs = d.regs := rfl
@[simp] theorem onInst_tbA (i : Nat) (f : PtpInst → PtpInst) : (d.onInst i f).tbA = d.tbA := rfl
@[simp] theorem onInst_tbB (i : Nat) (f : PtpInst → PtpInst) : (d.onInst i f).tbB = d.tbB := rfl
@[simp] theorem onInst_mir (i : Nat) (f : PtpInst → PtpInst) : (d.onInst i f).mir = d.mir := rfl
@[simp] theorem onInst_rsel (i : Nat) (f : PtpInst → PtpInst) : (d.onInst i f).rsel = d.rsel := rfl
@[simp] theorem onInst_cands (i : Nat) (f : PtpInst → PtpInst) : (d.onInst i f).cands = d.cands := rfl
@[simp] theorem onInst_twin (i : Nat) (f : PtpInst → PtpInst) : (d.onInst i f).twin = d.twin := rfl
@[simp] theorem onInst_syns (i : Nat) (f : PtpInst → PtpInst) : (d.onInst i f).syns = d.syns := rfl
@[simp] theorem onInst_outs (i : Nat) (f : PtpInst → PtpInst) : (d.onInst i f).outs = d.outs := rfl
@[simp] theorem onInst_chans (i : Nat) (f : PtpInst → PtpInst) : (d.onInst i f).chans = d.chans := rfl
@[simp] theorem onInst_cpMail (i : Nat) (f : PtpInst → PtpInst) : (d.onInst i f).cpMail = d.cpMail := rfl
@[simp] theorem onInst_counters (i : Nat) (f : PtpInst → PtpInst) : (d.onInst i f).counters = d.counters := rfl
@[simp] theorem onInst_cntCfg (i : Nat) (f : PtpInst → PtpInst) : (d.onInst i f).cntCfg = d.cntCfg := rfl
@[simp] theorem onInst_latches (i : Nat) (f : PtpInst → PtpInst) : (d.onInst i f).latches = d.latches := rfl
@[simp] theorem onInst_ring (i : Nat) (f : PtpInst → PtpInst) : (d.onInst i f).ring = d.ring := rfl
@[simp] theorem onInst_log (i : Nat) (f : PtpInst → PtpInst) : (d.onInst i f).log = d.log := rfl
@[simp] theorem onInst_pcie (i : Nat) (f : PtpInst → PtpInst) : (d.onInst i f).pcie = d.pcie := rfl
@[simp] theorem onInst_sw (i : Nat) (f : PtpInst → PtpInst) : (d.onInst i f).sw = d.sw := rfl
@[simp] theorem onInst_ports (i : Nat) (f : PtpInst → PtpInst) : (d.onInst i f).ports = d.ports := rfl
@[simp] theorem onInst_ptus (i : Nat) (f : PtpInst → PtpInst) : (d.onInst i f).ptus = d.ptus := rfl
@[simp] theorem onInst_tio (i : Nat) (f : PtpInst → PtpInst) : (d.onInst i f).tio = d.tio := rfl
@[simp] theorem onInst_sys (i : Nat) (f : PtpInst → PtpInst) : (d.onInst i f).sys = d.sys := rfl
@[simp] theorem onInst_sent (i : Nat) (f : PtpInst → PtpInst) : (d.onInst i f).sent = d.sent := rfl
@[simp] theorem onInst_freeCtr (i : Nat) (f : PtpInst → PtpInst) : (d.onInst i f).freeCtr = d.freeCtr := rfl
@[simp] theorem onInst_cycles (i : Nat) (f : PtpInst → PtpInst) : (d.onInst i f).cycles = d.cycles := rfl

/-! ## `Dev.onTio` -/

@[simp] theorem onTio_ident (c : Nat) (f : Tio → Tio) : (d.onTio c f).ident = d.ident := rfl
@[simp] theorem onTio_applied (c : Nat) (f : Tio → Tio) : (d.onTio c f).applied = d.applied := rfl
@[simp] theorem onTio_regs (c : Nat) (f : Tio → Tio) : (d.onTio c f).regs = d.regs := rfl
@[simp] theorem onTio_tbA (c : Nat) (f : Tio → Tio) : (d.onTio c f).tbA = d.tbA := rfl
@[simp] theorem onTio_tbB (c : Nat) (f : Tio → Tio) : (d.onTio c f).tbB = d.tbB := rfl
@[simp] theorem onTio_mir (c : Nat) (f : Tio → Tio) : (d.onTio c f).mir = d.mir := rfl
@[simp] theorem onTio_rsel (c : Nat) (f : Tio → Tio) : (d.onTio c f).rsel = d.rsel := rfl
@[simp] theorem onTio_cands (c : Nat) (f : Tio → Tio) : (d.onTio c f).cands = d.cands := rfl
@[simp] theorem onTio_twin (c : Nat) (f : Tio → Tio) : (d.onTio c f).twin = d.twin := rfl
@[simp] theorem onTio_syns (c : Nat) (f : Tio → Tio) : (d.onTio c f).syns = d.syns := rfl
@[simp] theorem onTio_outs (c : Nat) (f : Tio → Tio) : (d.onTio c f).outs = d.outs := rfl
@[simp] theorem onTio_chans (c : Nat) (f : Tio → Tio) : (d.onTio c f).chans = d.chans := rfl
@[simp] theorem onTio_cpMail (c : Nat) (f : Tio → Tio) : (d.onTio c f).cpMail = d.cpMail := rfl
@[simp] theorem onTio_counters (c : Nat) (f : Tio → Tio) : (d.onTio c f).counters = d.counters := rfl
@[simp] theorem onTio_cntCfg (c : Nat) (f : Tio → Tio) : (d.onTio c f).cntCfg = d.cntCfg := rfl
@[simp] theorem onTio_latches (c : Nat) (f : Tio → Tio) : (d.onTio c f).latches = d.latches := rfl
@[simp] theorem onTio_ring (c : Nat) (f : Tio → Tio) : (d.onTio c f).ring = d.ring := rfl
@[simp] theorem onTio_log (c : Nat) (f : Tio → Tio) : (d.onTio c f).log = d.log := rfl
@[simp] theorem onTio_pcie (c : Nat) (f : Tio → Tio) : (d.onTio c f).pcie = d.pcie := rfl
@[simp] theorem onTio_sw (c : Nat) (f : Tio → Tio) : (d.onTio c f).sw = d.sw := rfl
@[simp] theorem onTio_ports (c : Nat) (f : Tio → Tio) : (d.onTio c f).ports = d.ports := rfl
@[simp] theorem onTio_ptus (c : Nat) (f : Tio → Tio) : (d.onTio c f).ptus = d.ptus := rfl
@[simp] theorem onTio_insts (c : Nat) (f : Tio → Tio) : (d.onTio c f).insts = d.insts := rfl
@[simp] theorem onTio_sys (c : Nat) (f : Tio → Tio) : (d.onTio c f).sys = d.sys := rfl
@[simp] theorem onTio_sent (c : Nat) (f : Tio → Tio) : (d.onTio c f).sent = d.sent := rfl
@[simp] theorem onTio_freeCtr (c : Nat) (f : Tio → Tio) : (d.onTio c f).freeCtr = d.freeCtr := rfl
@[simp] theorem onTio_cycles (c : Nat) (f : Tio → Tio) : (d.onTio c f).cycles = d.cycles := rfl

/-! ## `Dev.onChan` -/

@[simp] theorem onChan_ident (a b : Nat) (f : Chan → Chan) : (d.onChan a b f).ident = d.ident := rfl
@[simp] theorem onChan_applied (a b : Nat) (f : Chan → Chan) : (d.onChan a b f).applied = d.applied := rfl
@[simp] theorem onChan_regs (a b : Nat) (f : Chan → Chan) : (d.onChan a b f).regs = d.regs := rfl
@[simp] theorem onChan_tbA (a b : Nat) (f : Chan → Chan) : (d.onChan a b f).tbA = d.tbA := rfl
@[simp] theorem onChan_tbB (a b : Nat) (f : Chan → Chan) : (d.onChan a b f).tbB = d.tbB := rfl
@[simp] theorem onChan_mir (a b : Nat) (f : Chan → Chan) : (d.onChan a b f).mir = d.mir := rfl
@[simp] theorem onChan_rsel (a b : Nat) (f : Chan → Chan) : (d.onChan a b f).rsel = d.rsel := rfl
@[simp] theorem onChan_cands (a b : Nat) (f : Chan → Chan) : (d.onChan a b f).cands = d.cands := rfl
@[simp] theorem onChan_twin (a b : Nat) (f : Chan → Chan) : (d.onChan a b f).twin = d.twin := rfl
@[simp] theorem onChan_syns (a b : Nat) (f : Chan → Chan) : (d.onChan a b f).syns = d.syns := rfl
@[simp] theorem onChan_outs (a b : Nat) (f : Chan → Chan) : (d.onChan a b f).outs = d.outs := rfl
@[simp] theorem onChan_cpMail (a b : Nat) (f : Chan → Chan) : (d.onChan a b f).cpMail = d.cpMail := rfl
@[simp] theorem onChan_counters (a b : Nat) (f : Chan → Chan) : (d.onChan a b f).counters = d.counters := rfl
@[simp] theorem onChan_cntCfg (a b : Nat) (f : Chan → Chan) : (d.onChan a b f).cntCfg = d.cntCfg := rfl
@[simp] theorem onChan_latches (a b : Nat) (f : Chan → Chan) : (d.onChan a b f).latches = d.latches := rfl
@[simp] theorem onChan_ring (a b : Nat) (f : Chan → Chan) : (d.onChan a b f).ring = d.ring := rfl
@[simp] theorem onChan_log (a b : Nat) (f : Chan → Chan) : (d.onChan a b f).log = d.log := rfl
@[simp] theorem onChan_pcie (a b : Nat) (f : Chan → Chan) : (d.onChan a b f).pcie = d.pcie := rfl
@[simp] theorem onChan_sw (a b : Nat) (f : Chan → Chan) : (d.onChan a b f).sw = d.sw := rfl
@[simp] theorem onChan_ports (a b : Nat) (f : Chan → Chan) : (d.onChan a b f).ports = d.ports := rfl
@[simp] theorem onChan_ptus (a b : Nat) (f : Chan → Chan) : (d.onChan a b f).ptus = d.ptus := rfl
@[simp] theorem onChan_insts (a b : Nat) (f : Chan → Chan) : (d.onChan a b f).insts = d.insts := rfl
@[simp] theorem onChan_tio (a b : Nat) (f : Chan → Chan) : (d.onChan a b f).tio = d.tio := rfl
@[simp] theorem onChan_sys (a b : Nat) (f : Chan → Chan) : (d.onChan a b f).sys = d.sys := rfl
@[simp] theorem onChan_sent (a b : Nat) (f : Chan → Chan) : (d.onChan a b f).sent = d.sent := rfl
@[simp] theorem onChan_freeCtr (a b : Nat) (f : Chan → Chan) : (d.onChan a b f).freeCtr = d.freeCtr := rfl
@[simp] theorem onChan_cycles (a b : Nat) (f : Chan → Chan) : (d.onChan a b f).cycles = d.cycles := rfl

/-! ## `Dev.onTb` -/

@[simp] theorem onTb_ident (t : TbId) (f : Timebase → Timebase) : (d.onTb t f).ident = d.ident := by cases t <;> rfl
@[simp] theorem onTb_applied (t : TbId) (f : Timebase → Timebase) : (d.onTb t f).applied = d.applied := by cases t <;> rfl
@[simp] theorem onTb_regs (t : TbId) (f : Timebase → Timebase) : (d.onTb t f).regs = d.regs := by cases t <;> rfl
@[simp] theorem onTb_mir (t : TbId) (f : Timebase → Timebase) : (d.onTb t f).mir = d.mir := by cases t <;> rfl
@[simp] theorem onTb_rsel (t : TbId) (f : Timebase → Timebase) : (d.onTb t f).rsel = d.rsel := by cases t <;> rfl
@[simp] theorem onTb_cands (t : TbId) (f : Timebase → Timebase) : (d.onTb t f).cands = d.cands := by cases t <;> rfl
@[simp] theorem onTb_twin (t : TbId) (f : Timebase → Timebase) : (d.onTb t f).twin = d.twin := by cases t <;> rfl
@[simp] theorem onTb_syns (t : TbId) (f : Timebase → Timebase) : (d.onTb t f).syns = d.syns := by cases t <;> rfl
@[simp] theorem onTb_outs (t : TbId) (f : Timebase → Timebase) : (d.onTb t f).outs = d.outs := by cases t <;> rfl
@[simp] theorem onTb_chans (t : TbId) (f : Timebase → Timebase) : (d.onTb t f).chans = d.chans := by cases t <;> rfl
@[simp] theorem onTb_cpMail (t : TbId) (f : Timebase → Timebase) : (d.onTb t f).cpMail = d.cpMail := by cases t <;> rfl
@[simp] theorem onTb_counters (t : TbId) (f : Timebase → Timebase) : (d.onTb t f).counters = d.counters := by cases t <;> rfl
@[simp] theorem onTb_cntCfg (t : TbId) (f : Timebase → Timebase) : (d.onTb t f).cntCfg = d.cntCfg := by cases t <;> rfl
@[simp] theorem onTb_latches (t : TbId) (f : Timebase → Timebase) : (d.onTb t f).latches = d.latches := by cases t <;> rfl
@[simp] theorem onTb_ring (t : TbId) (f : Timebase → Timebase) : (d.onTb t f).ring = d.ring := by cases t <;> rfl
@[simp] theorem onTb_log (t : TbId) (f : Timebase → Timebase) : (d.onTb t f).log = d.log := by cases t <;> rfl
@[simp] theorem onTb_pcie (t : TbId) (f : Timebase → Timebase) : (d.onTb t f).pcie = d.pcie := by cases t <;> rfl
@[simp] theorem onTb_sw (t : TbId) (f : Timebase → Timebase) : (d.onTb t f).sw = d.sw := by cases t <;> rfl
@[simp] theorem onTb_ports (t : TbId) (f : Timebase → Timebase) : (d.onTb t f).ports = d.ports := by cases t <;> rfl
@[simp] theorem onTb_ptus (t : TbId) (f : Timebase → Timebase) : (d.onTb t f).ptus = d.ptus := by cases t <;> rfl
@[simp] theorem onTb_insts (t : TbId) (f : Timebase → Timebase) : (d.onTb t f).insts = d.insts := by cases t <;> rfl
@[simp] theorem onTb_tio (t : TbId) (f : Timebase → Timebase) : (d.onTb t f).tio = d.tio := by cases t <;> rfl
@[simp] theorem onTb_sys (t : TbId) (f : Timebase → Timebase) : (d.onTb t f).sys = d.sys := by cases t <;> rfl
@[simp] theorem onTb_sent (t : TbId) (f : Timebase → Timebase) : (d.onTb t f).sent = d.sent := by cases t <;> rfl
@[simp] theorem onTb_freeCtr (t : TbId) (f : Timebase → Timebase) : (d.onTb t f).freeCtr = d.freeCtr := by cases t <;> rfl
@[simp] theorem onTb_cycles (t : TbId) (f : Timebase → Timebase) : (d.onTb t f).cycles = d.cycles := by cases t <;> rfl

/-! ## Fields of the register file through the updates of the rest -/

@[simp] theorem emit_word (e : Emit) (r : Reg) (u : Nat) : (d.emit e).word r u = d.word r u := rfl
@[simp] theorem emit_get (e : Emit) (g : Fld) (u : Nat) : (d.emit e).get g u = d.get g u := rfl
@[simp] theorem spendFree_word (r : Reg) (u : Nat) : (d.spendFree).word r u = d.word r u := rfl
@[simp] theorem spendFree_get (g : Fld) (u : Nat) : (d.spendFree).get g u = d.get g u := rfl
@[simp] theorem onTwin_word (f : Twin → Twin) (r : Reg) (u : Nat) : (d.onTwin f).word r u = d.word r u := rfl
@[simp] theorem onTwin_get (f : Twin → Twin) (g : Fld) (u : Nat) : (d.onTwin f).get g u = d.get g u := rfl
@[simp] theorem onMir_word (f : Mirrored → Mirrored) (r : Reg) (u : Nat) : (d.onMir f).word r u = d.word r u := rfl
@[simp] theorem onMir_get (f : Mirrored → Mirrored) (g : Fld) (u : Nat) : (d.onMir f).get g u = d.get g u := rfl
@[simp] theorem onRsel_word (f : Rsel → Rsel) (r : Reg) (u : Nat) : (d.onRsel f).word r u = d.word r u := rfl
@[simp] theorem onRsel_get (f : Rsel → Rsel) (g : Fld) (u : Nat) : (d.onRsel f).get g u = d.get g u := rfl
@[simp] theorem onSw_word (f : Switch → Switch) (r : Reg) (u : Nat) : (d.onSw f).word r u = d.word r u := rfl
@[simp] theorem onSw_get (f : Switch → Switch) (g : Fld) (u : Nat) : (d.onSw f).get g u = d.get g u := rfl
@[simp] theorem onSys_word (f : Sys → Sys) (r : Reg) (u : Nat) : (d.onSys f).word r u = d.word r u := rfl
@[simp] theorem onSys_get (f : Sys → Sys) (g : Fld) (u : Nat) : (d.onSys f).get g u = d.get g u := rfl
@[simp] theorem onCand_word (i : Nat) (f : Cand → Cand) (r : Reg) (u : Nat) : (d.onCand i f).word r u = d.word r u := rfl
@[simp] theorem onCand_get (i : Nat) (f : Cand → Cand) (g : Fld) (u : Nat) : (d.onCand i f).get g u = d.get g u := rfl
@[simp] theorem onPort_word (p : Nat) (f : Port → Port) (r : Reg) (u : Nat) : (d.onPort p f).word r u = d.word r u := rfl
@[simp] theorem onPort_get (p : Nat) (f : Port → Port) (g : Fld) (u : Nat) : (d.onPort p f).get g u = d.get g u := rfl
@[simp] theorem onPtu_word (p : Nat) (f : PtuPort → PtuPort) (r : Reg) (u : Nat) : (d.onPtu p f).word r u = d.word r u := rfl
@[simp] theorem onPtu_get (p : Nat) (f : PtuPort → PtuPort) (g : Fld) (u : Nat) : (d.onPtu p f).get g u = d.get g u := rfl
@[simp] theorem onInst_word (i : Nat) (f : PtpInst → PtpInst) (r : Reg) (u : Nat) : (d.onInst i f).word r u = d.word r u := rfl
@[simp] theorem onInst_get (i : Nat) (f : PtpInst → PtpInst) (g : Fld) (u : Nat) : (d.onInst i f).get g u = d.get g u := rfl
@[simp] theorem onTio_word (c : Nat) (f : Tio → Tio) (r : Reg) (u : Nat) : (d.onTio c f).word r u = d.word r u := rfl
@[simp] theorem onTio_get (c : Nat) (f : Tio → Tio) (g : Fld) (u : Nat) : (d.onTio c f).get g u = d.get g u := rfl
@[simp] theorem onChan_word (a b : Nat) (f : Chan → Chan) (r : Reg) (u : Nat) : (d.onChan a b f).word r u = d.word r u := rfl
@[simp] theorem onChan_get (a b : Nat) (f : Chan → Chan) (g : Fld) (u : Nat) : (d.onChan a b f).get g u = d.get g u := rfl
@[simp] theorem onTb_word (t : TbId) (f : Timebase → Timebase) (r : Reg) (u : Nat) : (d.onTb t f).word r u = d.word r u := by cases t <;> rfl
@[simp] theorem onTb_get (t : TbId) (f : Timebase → Timebase) (g : Fld) (u : Nat) : (d.onTb t f).get g u = d.get g u := by cases t <;> rfl

/-! ## The parts that an update changes -/

@[simp] theorem onTwin_twin (f : Twin → Twin) : (d.onTwin f).twin = f d.twin := rfl
@[simp] theorem onMir_mir (f : Mirrored → Mirrored) : (d.onMir f).mir = f d.mir := rfl
@[simp] theorem onRsel_rsel (f : Rsel → Rsel) : (d.onRsel f).rsel = f d.rsel := rfl
@[simp] theorem onSw_sw (f : Switch → Switch) : (d.onSw f).sw = f d.sw := rfl
@[simp] theorem onSys_sys (f : Sys → Sys) : (d.onSys f).sys = f d.sys := rfl
@[simp] theorem emit_sent (e : Emit) : (d.emit e).sent = d.sent ++ [e] := rfl
@[simp] theorem spendFree_freeCtr : d.spendFree.freeCtr = d.freeCtr + 1 := rfl
@[simp] theorem onTb_tb_same (t : TbId) (f : Timebase → Timebase) : (d.onTb t f).tb t = f (d.tb t) := by cases t <;> rfl
@[simp] theorem onCand_same (i : Nat) (f : Cand → Cand) : (d.onCand i f).cand i = f (d.cand i) := by
  simp [Dev.cand, Dev.onCand]
@[simp] theorem onPort_same (p : Nat) (f : Port → Port) : (d.onPort p f).port p = f (d.port p) := by
  simp [Dev.port, Dev.onPort]
@[simp] theorem onPtu_same (p : Nat) (f : PtuPort → PtuPort) : (d.onPtu p f).ptu p = f (d.ptu p) := by
  simp [Dev.ptu, Dev.onPtu]
@[simp] theorem onInst_same (i : Nat) (f : PtpInst → PtpInst) : (d.onInst i f).inst i = f (d.inst i) := by
  simp [Dev.inst, Dev.onInst]
@[simp] theorem onTio_same (c : Nat) (f : Tio → Tio) : (d.onTio c f).tioCh c = f (d.tioCh c) := by
  simp [Dev.tioCh, Dev.onTio]
@[simp] theorem onChan_same (a b : Nat) (f : Chan → Chan) : (d.onChan a b f).chan a b = f (d.chan a b) := by
  simp [Dev.chan, Dev.onChan]

/-! ## `Dev.when`, `Dev.setMark` -/

@[simp] theorem when_true (f : Dev → Dev) : d.when true f = f d := rfl
@[simp] theorem when_false (f : Dev → Dev) : d.when false f = d := rfl

/-- A property that `f` keeps, `when` keeps. -/
theorem when_keeps {β : Type} (p : Dev → β) (c : Bool) (f : Dev → Dev) (h : p (f d) = p d) : p (d.when c f) = p d := by
  cases c
  · rfl
  · exact h

/-- A property that each turn keeps, `each` keeps. -/
theorem each_keeps {α β : Type} (p : Dev → β) (l : List α) (f : Dev → α → Dev) (h : ∀ d, ∀ a ∈ l, p (f d a) = p d) :
    p (d.each l f) = p d := by
  induction l generalizing d with
  | nil => rfl
  | cons a l ih =>
    have h1 : d.each (a :: l) f = (f d a).each l f := rfl
    rw [h1, ih (f d a) (fun d b hb => h d b (List.mem_cons_of_mem _ hb)), h d a List.mem_cons_self]

/-- A field stored with its CHANGED flag reads as stored. -/
theorem get_setMark_same (f ch : Fld) (v u : Nat) (h : f.lo + f.width ≤ 32) (h' : ch.lo + ch.width ≤ 32)
    (ha : apart ch f = true) : (d.setMark f v ch u).get f u = v % 2 ^ f.width := by
  unfold Dev.setMark
  split
  · assumption
  · rw [get_set_apart _ _ _ _ _ _ h' ha, get_set_same _ _ _ _ h]

/-- It leaves every field apart from both. -/
theorem get_setMark_apart (f ch g : Fld) (v u w : Nat) (h : f.lo + f.width ≤ 32) (h' : ch.lo + ch.width ≤ 32)
    (ha : apart f g = true) (hb : apart ch g = true) : (d.setMark f v ch u).get g w = d.get g w := by
  unfold Dev.setMark
  split
  · rfl
  · rw [get_set_apart _ _ _ _ _ _ h' hb, get_set_apart _ _ _ _ _ _ h ha]

theorem setMark_rest {β : Type} (p : Dev → β) (h : ∀ (d : Dev) (f : Fld) (v u : Nat), p (d.set f v u) = p d)
    (f ch : Fld) (v u : Nat) : p (d.setMark f v ch u) = p d := by
  unfold Dev.setMark
  split
  · rfl
  · rw [h, h]

@[simp] theorem setMark_ident (f ch : Fld) (v u : Nat) : (d.setMark f v ch u).ident = d.ident := setMark_rest d (·.ident) (fun _ _ _ _ => rfl) f ch v u
@[simp] theorem setMark_applied (f ch : Fld) (v u : Nat) : (d.setMark f v ch u).applied = d.applied := setMark_rest d (·.applied) (fun _ _ _ _ => rfl) f ch v u
@[simp] theorem setMark_tbA (f ch : Fld) (v u : Nat) : (d.setMark f v ch u).tbA = d.tbA := setMark_rest d (·.tbA) (fun _ _ _ _ => rfl) f ch v u
@[simp] theorem setMark_tbB (f ch : Fld) (v u : Nat) : (d.setMark f v ch u).tbB = d.tbB := setMark_rest d (·.tbB) (fun _ _ _ _ => rfl) f ch v u
@[simp] theorem setMark_mir (f ch : Fld) (v u : Nat) : (d.setMark f v ch u).mir = d.mir := setMark_rest d (·.mir) (fun _ _ _ _ => rfl) f ch v u
@[simp] theorem setMark_rsel (f ch : Fld) (v u : Nat) : (d.setMark f v ch u).rsel = d.rsel := setMark_rest d (·.rsel) (fun _ _ _ _ => rfl) f ch v u
@[simp] theorem setMark_cands (f ch : Fld) (v u : Nat) : (d.setMark f v ch u).cands = d.cands := setMark_rest d (·.cands) (fun _ _ _ _ => rfl) f ch v u
@[simp] theorem setMark_twin (f ch : Fld) (v u : Nat) : (d.setMark f v ch u).twin = d.twin := setMark_rest d (·.twin) (fun _ _ _ _ => rfl) f ch v u
@[simp] theorem setMark_syns (f ch : Fld) (v u : Nat) : (d.setMark f v ch u).syns = d.syns := setMark_rest d (·.syns) (fun _ _ _ _ => rfl) f ch v u
@[simp] theorem setMark_outs (f ch : Fld) (v u : Nat) : (d.setMark f v ch u).outs = d.outs := setMark_rest d (·.outs) (fun _ _ _ _ => rfl) f ch v u
@[simp] theorem setMark_chans (f ch : Fld) (v u : Nat) : (d.setMark f v ch u).chans = d.chans := setMark_rest d (·.chans) (fun _ _ _ _ => rfl) f ch v u
@[simp] theorem setMark_cpMail (f ch : Fld) (v u : Nat) : (d.setMark f v ch u).cpMail = d.cpMail := setMark_rest d (·.cpMail) (fun _ _ _ _ => rfl) f ch v u
@[simp] theorem setMark_counters (f ch : Fld) (v u : Nat) : (d.setMark f v ch u).counters = d.counters := setMark_rest d (·.counters) (fun _ _ _ _ => rfl) f ch v u
@[simp] theorem setMark_cntCfg (f ch : Fld) (v u : Nat) : (d.setMark f v ch u).cntCfg = d.cntCfg := setMark_rest d (·.cntCfg) (fun _ _ _ _ => rfl) f ch v u
@[simp] theorem setMark_latches (f ch : Fld) (v u : Nat) : (d.setMark f v ch u).latches = d.latches := setMark_rest d (·.latches) (fun _ _ _ _ => rfl) f ch v u
@[simp] theorem setMark_ring (f ch : Fld) (v u : Nat) : (d.setMark f v ch u).ring = d.ring := setMark_rest d (·.ring) (fun _ _ _ _ => rfl) f ch v u
@[simp] theorem setMark_log (f ch : Fld) (v u : Nat) : (d.setMark f v ch u).log = d.log := setMark_rest d (·.log) (fun _ _ _ _ => rfl) f ch v u
@[simp] theorem setMark_pcie (f ch : Fld) (v u : Nat) : (d.setMark f v ch u).pcie = d.pcie := setMark_rest d (·.pcie) (fun _ _ _ _ => rfl) f ch v u
@[simp] theorem setMark_sw (f ch : Fld) (v u : Nat) : (d.setMark f v ch u).sw = d.sw := setMark_rest d (·.sw) (fun _ _ _ _ => rfl) f ch v u
@[simp] theorem setMark_ports (f ch : Fld) (v u : Nat) : (d.setMark f v ch u).ports = d.ports := setMark_rest d (·.ports) (fun _ _ _ _ => rfl) f ch v u
@[simp] theorem setMark_ptus (f ch : Fld) (v u : Nat) : (d.setMark f v ch u).ptus = d.ptus := setMark_rest d (·.ptus) (fun _ _ _ _ => rfl) f ch v u
@[simp] theorem setMark_insts (f ch : Fld) (v u : Nat) : (d.setMark f v ch u).insts = d.insts := setMark_rest d (·.insts) (fun _ _ _ _ => rfl) f ch v u
@[simp] theorem setMark_tio (f ch : Fld) (v u : Nat) : (d.setMark f v ch u).tio = d.tio := setMark_rest d (·.tio) (fun _ _ _ _ => rfl) f ch v u
@[simp] theorem setMark_sys (f ch : Fld) (v u : Nat) : (d.setMark f v ch u).sys = d.sys := setMark_rest d (·.sys) (fun _ _ _ _ => rfl) f ch v u
@[simp] theorem setMark_sent (f ch : Fld) (v u : Nat) : (d.setMark f v ch u).sent = d.sent := setMark_rest d (·.sent) (fun _ _ _ _ => rfl) f ch v u
@[simp] theorem setMark_freeCtr (f ch : Fld) (v u : Nat) : (d.setMark f v ch u).freeCtr = d.freeCtr := setMark_rest d (·.freeCtr) (fun _ _ _ _ => rfl) f ch v u
@[simp] theorem setMark_cycles (f ch : Fld) (v u : Nat) : (d.setMark f v ch u).cycles = d.cycles := setMark_rest d (·.cycles) (fun _ _ _ _ => rfl) f ch v u

end Sys2Proof.Laws
end

