-- ==== Sys2Proof/Laws/Report.lean ====
section
/-! SUPPORT. What reporting can do: alarms, counters, the fault log and interrupts leave everything of the device but the
ALM_ACTIVE and ALM_LATCH words, the counters and latches, the log, pending vectors and what has been sent. -/

namespace Sys2Proof.Laws

open Sys2Proof.Machine

/-- The registers that reporting writes. -/
def reporting (r : Reg) : Bool := r == .ALM_ACTIVE || r == .ALM_LATCH

/-- `e` is `d` but for what reporting may change. -/
structure Report (d e : Dev) : Prop where
  word : ∀ r u, reporting r = false → e.word r u = d.word r u
  ident : e.ident = d.ident
  applied : e.applied = d.applied
  tbA : e.tbA = d.tbA
  tbB : e.tbB = d.tbB
  mir : e.mir = d.mir
  rsel : e.rsel = d.rsel
  cands : e.cands = d.cands
  twin : e.twin = d.twin
  syns : e.syns = d.syns
  outs : e.outs = d.outs
  chans : e.chans = d.chans
  cpMail : e.cpMail = d.cpMail
  cntCfg : e.cntCfg = d.cntCfg
  sw : e.sw = d.sw
  ports : e.ports = d.ports
  ptus : e.ptus = d.ptus
  insts : e.insts = d.insts
  tio : e.tio = d.tio
  sys : e.sys = d.sys
  freeCtr : e.freeCtr = d.freeCtr
  cycles : e.cycles = d.cycles
  pcie : ∃ l, e.pcie = { d.pcie with pba := l }
  ring : ∃ b, e.ring = { d.ring with firnSat := b }

theorem Report.refl (d : Dev) : Report d d where
  word _ _ _ := rfl
  ident := rfl
  applied := rfl
  tbA := rfl
  tbB := rfl
  mir := rfl
  rsel := rfl
  cands := rfl
  twin := rfl
  syns := rfl
  outs := rfl
  chans := rfl
  cpMail := rfl
  cntCfg := rfl
  sw := rfl
  ports := rfl
  ptus := rfl
  insts := rfl
  tio := rfl
  sys := rfl
  freeCtr := rfl
  cycles := rfl
  pcie := ⟨_, rfl⟩
  ring := ⟨_, rfl⟩

theorem Report.trans {a b c : Dev} (h : Report a b) (k : Report b c) : Report a c where
  word r u hr := (k.word r u hr).trans (h.word r u hr)
  ident := k.ident.trans h.ident
  applied := k.applied.trans h.applied
  tbA := k.tbA.trans h.tbA
  tbB := k.tbB.trans h.tbB
  mir := k.mir.trans h.mir
  rsel := k.rsel.trans h.rsel
  cands := k.cands.trans h.cands
  twin := k.twin.trans h.twin
  syns := k.syns.trans h.syns
  outs := k.outs.trans h.outs
  chans := k.chans.trans h.chans
  cpMail := k.cpMail.trans h.cpMail
  cntCfg := k.cntCfg.trans h.cntCfg
  sw := k.sw.trans h.sw
  ports := k.ports.trans h.ports
  ptus := k.ptus.trans h.ptus
  insts := k.insts.trans h.insts
  tio := k.tio.trans h.tio
  sys := k.sys.trans h.sys
  freeCtr := k.freeCtr.trans h.freeCtr
  cycles := k.cycles.trans h.cycles
  pcie := by
    obtain ⟨l, hl⟩ := h.pcie
    obtain ⟨m, hm⟩ := k.pcie
    exact ⟨m, by rw [hm, hl]⟩
  ring := by
    obtain ⟨l, hl⟩ := h.ring
    obtain ⟨m, hm⟩ := k.ring
    exact ⟨m, by rw [hm, hl]⟩

theorem Report.get {d e : Dev} (h : Report d e) (g : Fld) (u : Nat) (hg : reporting g.reg = false) : e.get g u = d.get g u := by
  simp only [Dev.get, h.word _ _ hg]

/-- A store of a reporting word. -/
theorem report_set (d : Dev) (f : Fld) (v u : Nat) (h : reporting f.reg = true) : Report d (d.set f v u) where
  word r w hr := word_set_other d f v u r w (fun e => by rw [e.1, h] at hr; cases hr)
  ident := rfl
  applied := rfl
  tbA := rfl
  tbB := rfl
  mir := rfl
  rsel := rfl
  cands := rfl
  twin := rfl
  syns := rfl
  outs := rfl
  chans := rfl
  cpMail := rfl
  cntCfg := rfl
  sw := rfl
  ports := rfl
  ptus := rfl
  insts := rfl
  tio := rfl
  sys := rfl
  freeCtr := rfl
  cycles := rfl
  pcie := ⟨_, rfl⟩
  ring := ⟨_, rfl⟩

/-- An update of the counters, latches, log and what has been sent. -/
theorem report_upd (d : Dev) (c : Tab Word) (l : Tab Nat) (b : Bool) (g : List LogEntry) (m : List Emit) (p : List Nat) :
    Report d { d with counters := c, latches := l, ring := { d.ring with firnSat := b }, log := g, sent := m,
                      pcie := { d.pcie with pba := p } } where
  word _ _ _ := rfl
  ident := rfl
  applied := rfl
  tbA := rfl
  tbB := rfl
  mir := rfl
  rsel := rfl
  cands := rfl
  twin := rfl
  syns := rfl
  outs := rfl
  chans := rfl
  cpMail := rfl
  cntCfg := rfl
  sw := rfl
  ports := rfl
  ptus := rfl
  insts := rfl
  tio := rfl
  sys := rfl
  freeCtr := rfl
  cycles := rfl
  pcie := ⟨_, rfl⟩
  ring := ⟨_, rfl⟩

theorem report_when (d : Dev) (c : Bool) (f : Dev → Dev) (h : Report d (f d)) : Report d (d.when c f) := by
  cases c
  · exact .refl d
  · exact h

theorem report_each {α : Type} (d : Dev) (l : List α) (f : Dev → α → Dev) (h : ∀ d a, Report d (f d a)) :
    Report d (d.each l f) := by
  induction l generalizing d with
  | nil => exact .refl d
  | cons a l ih => exact (h d a).trans (ih (f d a))

theorem report_emit (d : Dev) (e : Emit) : Report d (d.emit e) := report_upd d _ _ _ _ _ _
theorem report_sendMsix (d : Dev) (v : Nat) : Report d (d.sendMsix v) := report_emit d _
theorem report_msix (d : Dev) (v : Nat) : Report d (d.msix v) := by
  unfold Dev.msix
  split
  · exact .refl d
  · split
    · exact report_sendMsix d v
    · split
      · exact .refl d
      · exact report_upd d _ _ _ _ _ _
theorem report_sendGroup (d : Dev) (g : Nat) : Report d (d.sendGroup g) := report_when d _ _ (report_msix d _)
theorem report_latch (d : Dev) (b : Nat) : Report d (d.latch b) := by
  unfold Dev.latch
  split
  · exact .refl d
  · exact (report_set d _ _ _ rfl).trans (report_when _ _ _ (report_sendGroup _ _))
theorem report_raise (d : Dev) (a : Alarm) : Report d (d.raise a) := report_latch d _
theorem report_cond (d : Dev) (a : Alarm) (b : Bool) : Report d (d.cond a b) := by
  unfold Dev.cond
  split
  · split
    · exact .refl d
    · exact (report_set d _ _ _ rfl).trans (report_latch _ _)
  · exact report_set d _ _ _ rfl
theorem report_bump (d : Dev) (i n fuel : Nat) : Report d (d.bump i n fuel) := by
  induction fuel generalizing d i n with
  | zero => exact report_upd d _ _ _ _ _ _
  | succ k ih =>
    have h : Report d { d with counters := tabSet d.counters 0 i (BitVec.ofNat 32 ((d.counter i).toNat + n)) } :=
      report_upd d _ d.latches d.ring.firnSat d.log d.sent d.pcie.pba
    unfold Dev.bump
    dsimp only
    by_cases hv : (d.counter i).toNat + n < 2 ^ 32
    · rw [if_pos hv]; exact h
    · rw [if_neg hv]
      split
      · exact h
      · exact h.trans (ih _ _ _)
theorem report_countAt (d : Dev) (b : Bool) (i n : Nat) : Report d (d.countAt b i n) := by
  unfold Dev.countAt
  split
  · exact report_upd d _ _ _ _ _ _
  · split
    · exact report_bump d i n 256
    · exact .refl d
theorem report_countDev (d : Dev) (j n : Nat) : Report d (d.countDev j n) := report_countAt d _ _ _
theorem report_countPort (d : Dev) (p k n : Nat) : Report d (d.countPort p k n) := report_countAt d _ _ _
theorem report_portEvent (d : Dev) (p e i n : Nat) : Report d (d.portEvent p e i n) :=
  report_each d _ _ (fun d _ => report_when d _ _ (report_countPort d _ _ _))
theorem report_devEvent (d : Dev) (b : Bool) (e i n : Nat) : Report d (d.devEvent b e i n) :=
  report_each d _ _ (fun d _ => report_when d _ _ (report_countAt d _ _ _))
theorem report_memError (d : Dev) (m : Nat) (u : Bool) : Report d (d.memError m u) :=
  (report_countAt d _ _ _).trans (report_devEvent _ _ _ _ _)
theorem report_countRx (d : Dev) (p t : Nat) : Report d (d.countRx p t) :=
  (report_when d _ _ (report_countPort d _ _ _)).trans (report_portEvent _ _ _ _ _)
theorem report_countTx (d : Dev) (p t : Nat) : Report d (d.countTx p t) :=
  (report_when d _ _ (report_countPort d _ _ _)).trans (report_portEvent _ _ _ _ _)
theorem report_logAdd (d : Dev) (c a m i : Nat) : Report d (d.logAdd c a m i) := by
  unfold Dev.logAdd
  split
  · exact (report_countDev d _ _).trans (report_cond _ _ _)
  · exact (report_upd d d.counters d.latches d.ring.firnSat _ d.sent d.pcie.pba).trans (report_cond _ _ _)
theorem report_retireOther (d : Dev) (c m i : Nat) : Report d (d.retireOther c m i) :=
  (report_logAdd d _ _ _ _).trans (report_raise _ _)

variable (d : Dev)

/-! ## `Dev.msix` -/

@[simp] theorem msix_ident (v : Nat) : (d.msix v).ident = d.ident := (report_msix d v).ident
@[simp] theorem msix_applied (v : Nat) : (d.msix v).applied = d.applied := (report_msix d v).applied
@[simp] theorem msix_tbA (v : Nat) : (d.msix v).tbA = d.tbA := (report_msix d v).tbA
@[simp] theorem msix_tbB (v : Nat) : (d.msix v).tbB = d.tbB := (report_msix d v).tbB
@[simp] theorem msix_mir (v : Nat) : (d.msix v).mir = d.mir := (report_msix d v).mir
@[simp] theorem msix_rsel (v : Nat) : (d.msix v).rsel = d.rsel := (report_msix d v).rsel
@[simp] theorem msix_cands (v : Nat) : (d.msix v).cands = d.cands := (report_msix d v).cands
@[simp] theorem msix_twin (v : Nat) : (d.msix v).twin = d.twin := (report_msix d v).twin
@[simp] theorem msix_syns (v : Nat) : (d.msix v).syns = d.syns := (report_msix d v).syns
@[simp] theorem msix_outs (v : Nat) : (d.msix v).outs = d.outs := (report_msix d v).outs
@[simp] theorem msix_chans (v : Nat) : (d.msix v).chans = d.chans := (report_msix d v).chans
@[simp] theorem msix_cpMail (v : Nat) : (d.msix v).cpMail = d.cpMail := (report_msix d v).cpMail
@[simp] theorem msix_cntCfg (v : Nat) : (d.msix v).cntCfg = d.cntCfg := (report_msix d v).cntCfg
@[simp] theorem msix_sw (v : Nat) : (d.msix v).sw = d.sw := (report_msix d v).sw
@[simp] theorem msix_ports (v : Nat) : (d.msix v).ports = d.ports := (report_msix d v).ports
@[simp] theorem msix_ptus (v : Nat) : (d.msix v).ptus = d.ptus := (report_msix d v).ptus
@[simp] theorem msix_insts (v : Nat) : (d.msix v).insts = d.insts := (report_msix d v).insts
@[simp] theorem msix_tio (v : Nat) : (d.msix v).tio = d.tio := (report_msix d v).tio
@[simp] theorem msix_sys (v : Nat) : (d.msix v).sys = d.sys := (report_msix d v).sys
@[simp] theorem msix_freeCtr (v : Nat) : (d.msix v).freeCtr = d.freeCtr := (report_msix d v).freeCtr
@[simp] theorem msix_cycles (v : Nat) : (d.msix v).cycles = d.cycles := (report_msix d v).cycles
theorem get_msix (g : Fld) (w : Nat) (v : Nat) (h : reporting g.reg = false) : (d.msix v).get g w = d.get g w := (report_msix d v).get g w h

/-! ## `Dev.sendGroup` -/

@[simp] theorem sendGroup_ident (k : Nat) : (d.sendGroup k).ident = d.ident := (report_sendGroup d k).ident
@[simp] theorem sendGroup_applied (k : Nat) : (d.sendGroup k).applied = d.applied := (report_sendGroup d k).applied
@[simp] theorem sendGroup_tbA (k : Nat) : (d.sendGroup k).tbA = d.tbA := (report_sendGroup d k).tbA
@[simp] theorem sendGroup_tbB (k : Nat) : (d.sendGroup k).tbB = d.tbB := (report_sendGroup d k).tbB
@[simp] theorem sendGroup_mir (k : Nat) : (d.sendGroup k).mir = d.mir := (report_sendGroup d k).mir
@[simp] theorem sendGroup_rsel (k : Nat) : (d.sendGroup k).rsel = d.rsel := (report_sendGroup d k).rsel
@[simp] theorem sendGroup_cands (k : Nat) : (d.sendGroup k).cands = d.cands := (report_sendGroup d k).cands
@[simp] theorem sendGroup_twin (k : Nat) : (d.sendGroup k).twin = d.twin := (report_sendGroup d k).twin
@[simp] theorem sendGroup_syns (k : Nat) : (d.sendGroup k).syns = d.syns := (report_sendGroup d k).syns
@[simp] theorem sendGroup_outs (k : Nat) : (d.sendGroup k).outs = d.outs := (report_sendGroup d k).outs
@[simp] theorem sendGroup_chans (k : Nat) : (d.sendGroup k).chans = d.chans := (report_sendGroup d k).chans
@[simp] theorem sendGroup_cpMail (k : Nat) : (d.sendGroup k).cpMail = d.cpMail := (report_sendGroup d k).cpMail
@[simp] theorem sendGroup_cntCfg (k : Nat) : (d.sendGroup k).cntCfg = d.cntCfg := (report_sendGroup d k).cntCfg
@[simp] theorem sendGroup_sw (k : Nat) : (d.sendGroup k).sw = d.sw := (report_sendGroup d k).sw
@[simp] theorem sendGroup_ports (k : Nat) : (d.sendGroup k).ports = d.ports := (report_sendGroup d k).ports
@[simp] theorem sendGroup_ptus (k : Nat) : (d.sendGroup k).ptus = d.ptus := (report_sendGroup d k).ptus
@[simp] theorem sendGroup_insts (k : Nat) : (d.sendGroup k).insts = d.insts := (report_sendGroup d k).insts
@[simp] theorem sendGroup_tio (k : Nat) : (d.sendGroup k).tio = d.tio := (report_sendGroup d k).tio
@[simp] theorem sendGroup_sys (k : Nat) : (d.sendGroup k).sys = d.sys := (report_sendGroup d k).sys
@[simp] theorem sendGroup_freeCtr (k : Nat) : (d.sendGroup k).freeCtr = d.freeCtr := (report_sendGroup d k).freeCtr
@[simp] theorem sendGroup_cycles (k : Nat) : (d.sendGroup k).cycles = d.cycles := (report_sendGroup d k).cycles
theorem get_sendGroup (g : Fld) (w : Nat) (k : Nat) (h : reporting g.reg = false) : (d.sendGroup k).get g w = d.get g w := (report_sendGroup d k).get g w h

/-! ## `Dev.latch` -/

@[simp] theorem latch_ident (b : Nat) : (d.latch b).ident = d.ident := (report_latch d b).ident
@[simp] theorem latch_applied (b : Nat) : (d.latch b).applied = d.applied := (report_latch d b).applied
@[simp] theorem latch_tbA (b : Nat) : (d.latch b).tbA = d.tbA := (report_latch d b).tbA
@[simp] theorem latch_tbB (b : Nat) : (d.latch b).tbB = d.tbB := (report_latch d b).tbB
@[simp] theorem latch_mir (b : Nat) : (d.latch b).mir = d.mir := (report_latch d b).mir
@[simp] theorem latch_rsel (b : Nat) : (d.latch b).rsel = d.rsel := (report_latch d b).rsel
@[simp] theorem latch_cands (b : Nat) : (d.latch b).cands = d.cands := (report_latch d b).cands
@[simp] theorem latch_twin (b : Nat) : (d.latch b).twin = d.twin := (report_latch d b).twin
@[simp] theorem latch_syns (b : Nat) : (d.latch b).syns = d.syns := (report_latch d b).syns
@[simp] theorem latch_outs (b : Nat) : (d.latch b).outs = d.outs := (report_latch d b).outs
@[simp] theorem latch_chans (b : Nat) : (d.latch b).chans = d.chans := (report_latch d b).chans
@[simp] theorem latch_cpMail (b : Nat) : (d.latch b).cpMail = d.cpMail := (report_latch d b).cpMail
@[simp] theorem latch_cntCfg (b : Nat) : (d.latch b).cntCfg = d.cntCfg := (report_latch d b).cntCfg
@[simp] theorem latch_sw (b : Nat) : (d.latch b).sw = d.sw := (report_latch d b).sw
@[simp] theorem latch_ports (b : Nat) : (d.latch b).ports = d.ports := (report_latch d b).ports
@[simp] theorem latch_ptus (b : Nat) : (d.latch b).ptus = d.ptus := (report_latch d b).ptus
@[simp] theorem latch_insts (b : Nat) : (d.latch b).insts = d.insts := (report_latch d b).insts
@[simp] theorem latch_tio (b : Nat) : (d.latch b).tio = d.tio := (report_latch d b).tio
@[simp] theorem latch_sys (b : Nat) : (d.latch b).sys = d.sys := (report_latch d b).sys
@[simp] theorem latch_freeCtr (b : Nat) : (d.latch b).freeCtr = d.freeCtr := (report_latch d b).freeCtr
@[simp] theorem latch_cycles (b : Nat) : (d.latch b).cycles = d.cycles := (report_latch d b).cycles
theorem get_latch (g : Fld) (w : Nat) (b : Nat) (h : reporting g.reg = false) : (d.latch b).get g w = d.get g w := (report_latch d b).get g w h

/-! ## `Dev.raise` -/

@[simp] theorem raise_ident (a : Alarm) : (d.raise a).ident = d.ident := (report_raise d a).ident
@[simp] theorem raise_applied (a : Alarm) : (d.raise a).applied = d.applied := (report_raise d a).applied
@[simp] theorem raise_tbA (a : Alarm) : (d.raise a).tbA = d.tbA := (report_raise d a).tbA
@[simp] theorem raise_tbB (a : Alarm) : (d.raise a).tbB = d.tbB := (report_raise d a).tbB
@[simp] theorem raise_mir (a : Alarm) : (d.raise a).mir = d.mir := (report_raise d a).mir
@[simp] theorem raise_rsel (a : Alarm) : (d.raise a).rsel = d.rsel := (report_raise d a).rsel
@[simp] theorem raise_cands (a : Alarm) : (d.raise a).cands = d.cands := (report_raise d a).cands
@[simp] theorem raise_twin (a : Alarm) : (d.raise a).twin = d.twin := (report_raise d a).twin
@[simp] theorem raise_syns (a : Alarm) : (d.raise a).syns = d.syns := (report_raise d a).syns
@[simp] theorem raise_outs (a : Alarm) : (d.raise a).outs = d.outs := (report_raise d a).outs
@[simp] theorem raise_chans (a : Alarm) : (d.raise a).chans = d.chans := (report_raise d a).chans
@[simp] theorem raise_cpMail (a : Alarm) : (d.raise a).cpMail = d.cpMail := (report_raise d a).cpMail
@[simp] theorem raise_cntCfg (a : Alarm) : (d.raise a).cntCfg = d.cntCfg := (report_raise d a).cntCfg
@[simp] theorem raise_sw (a : Alarm) : (d.raise a).sw = d.sw := (report_raise d a).sw
@[simp] theorem raise_ports (a : Alarm) : (d.raise a).ports = d.ports := (report_raise d a).ports
@[simp] theorem raise_ptus (a : Alarm) : (d.raise a).ptus = d.ptus := (report_raise d a).ptus
@[simp] theorem raise_insts (a : Alarm) : (d.raise a).insts = d.insts := (report_raise d a).insts
@[simp] theorem raise_tio (a : Alarm) : (d.raise a).tio = d.tio := (report_raise d a).tio
@[simp] theorem raise_sys (a : Alarm) : (d.raise a).sys = d.sys := (report_raise d a).sys
@[simp] theorem raise_freeCtr (a : Alarm) : (d.raise a).freeCtr = d.freeCtr := (report_raise d a).freeCtr
@[simp] theorem raise_cycles (a : Alarm) : (d.raise a).cycles = d.cycles := (report_raise d a).cycles
theorem get_raise (g : Fld) (w : Nat) (a : Alarm) (h : reporting g.reg = false) : (d.raise a).get g w = d.get g w := (report_raise d a).get g w h

/-! ## `Dev.cond` -/

@[simp] theorem cond_ident (a : Alarm) (b : Bool) : (d.cond a b).ident = d.ident := (report_cond d a b).ident
@[simp] theorem cond_applied (a : Alarm) (b : Bool) : (d.cond a b).applied = d.applied := (report_cond d a b).applied
@[simp] theorem cond_tbA (a : Alarm) (b : Bool) : (d.cond a b).tbA = d.tbA := (report_cond d a b).tbA
@[simp] theorem cond_tbB (a : Alarm) (b : Bool) : (d.cond a b).tbB = d.tbB := (report_cond d a b).tbB
@[simp] theorem cond_mir (a : Alarm) (b : Bool) : (d.cond a b).mir = d.mir := (report_cond d a b).mir
@[simp] theorem cond_rsel (a : Alarm) (b : Bool) : (d.cond a b).rsel = d.rsel := (report_cond d a b).rsel
@[simp] theorem cond_cands (a : Alarm) (b : Bool) : (d.cond a b).cands = d.cands := (report_cond d a b).cands
@[simp] theorem cond_twin (a : Alarm) (b : Bool) : (d.cond a b).twin = d.twin := (report_cond d a b).twin
@[simp] theorem cond_syns (a : Alarm) (b : Bool) : (d.cond a b).syns = d.syns := (report_cond d a b).syns
@[simp] theorem cond_outs (a : Alarm) (b : Bool) : (d.cond a b).outs = d.outs := (report_cond d a b).outs
@[simp] theorem cond_chans (a : Alarm) (b : Bool) : (d.cond a b).chans = d.chans := (report_cond d a b).chans
@[simp] theorem cond_cpMail (a : Alarm) (b : Bool) : (d.cond a b).cpMail = d.cpMail := (report_cond d a b).cpMail
@[simp] theorem cond_cntCfg (a : Alarm) (b : Bool) : (d.cond a b).cntCfg = d.cntCfg := (report_cond d a b).cntCfg
@[simp] theorem cond_sw (a : Alarm) (b : Bool) : (d.cond a b).sw = d.sw := (report_cond d a b).sw
@[simp] theorem cond_ports (a : Alarm) (b : Bool) : (d.cond a b).ports = d.ports := (report_cond d a b).ports
@[simp] theorem cond_ptus (a : Alarm) (b : Bool) : (d.cond a b).ptus = d.ptus := (report_cond d a b).ptus
@[simp] theorem cond_insts (a : Alarm) (b : Bool) : (d.cond a b).insts = d.insts := (report_cond d a b).insts
@[simp] theorem cond_tio (a : Alarm) (b : Bool) : (d.cond a b).tio = d.tio := (report_cond d a b).tio
@[simp] theorem cond_sys (a : Alarm) (b : Bool) : (d.cond a b).sys = d.sys := (report_cond d a b).sys
@[simp] theorem cond_freeCtr (a : Alarm) (b : Bool) : (d.cond a b).freeCtr = d.freeCtr := (report_cond d a b).freeCtr
@[simp] theorem cond_cycles (a : Alarm) (b : Bool) : (d.cond a b).cycles = d.cycles := (report_cond d a b).cycles
theorem get_cond (g : Fld) (w : Nat) (a : Alarm) (b : Bool) (h : reporting g.reg = false) : (d.cond a b).get g w = d.get g w := (report_cond d a b).get g w h

/-! ## `Dev.countAt` -/

@[simp] theorem countAt_ident (b : Bool) (i n : Nat) : (d.countAt b i n).ident = d.ident := (report_countAt d b i n).ident
@[simp] theorem countAt_applied (b : Bool) (i n : Nat) : (d.countAt b i n).applied = d.applied := (report_countAt d b i n).applied
@[simp] theorem countAt_tbA (b : Bool) (i n : Nat) : (d.countAt b i n).tbA = d.tbA := (report_countAt d b i n).tbA
@[simp] theorem countAt_tbB (b : Bool) (i n : Nat) : (d.countAt b i n).tbB = d.tbB := (report_countAt d b i n).tbB
@[simp] theorem countAt_mir (b : Bool) (i n : Nat) : (d.countAt b i n).mir = d.mir := (report_countAt d b i n).mir
@[simp] theorem countAt_rsel (b : Bool) (i n : Nat) : (d.countAt b i n).rsel = d.rsel := (report_countAt d b i n).rsel
@[simp] theorem countAt_cands (b : Bool) (i n : Nat) : (d.countAt b i n).cands = d.cands := (report_countAt d b i n).cands
@[simp] theorem countAt_twin (b : Bool) (i n : Nat) : (d.countAt b i n).twin = d.twin := (report_countAt d b i n).twin
@[simp] theorem countAt_syns (b : Bool) (i n : Nat) : (d.countAt b i n).syns = d.syns := (report_countAt d b i n).syns
@[simp] theorem countAt_outs (b : Bool) (i n : Nat) : (d.countAt b i n).outs = d.outs := (report_countAt d b i n).outs
@[simp] theorem countAt_chans (b : Bool) (i n : Nat) : (d.countAt b i n).chans = d.chans := (report_countAt d b i n).chans
@[simp] theorem countAt_cpMail (b : Bool) (i n : Nat) : (d.countAt b i n).cpMail = d.cpMail := (report_countAt d b i n).cpMail
@[simp] theorem countAt_cntCfg (b : Bool) (i n : Nat) : (d.countAt b i n).cntCfg = d.cntCfg := (report_countAt d b i n).cntCfg
@[simp] theorem countAt_sw (b : Bool) (i n : Nat) : (d.countAt b i n).sw = d.sw := (report_countAt d b i n).sw
@[simp] theorem countAt_ports (b : Bool) (i n : Nat) : (d.countAt b i n).ports = d.ports := (report_countAt d b i n).ports
@[simp] theorem countAt_ptus (b : Bool) (i n : Nat) : (d.countAt b i n).ptus = d.ptus := (report_countAt d b i n).ptus
@[simp] theorem countAt_insts (b : Bool) (i n : Nat) : (d.countAt b i n).insts = d.insts := (report_countAt d b i n).insts
@[simp] theorem countAt_tio (b : Bool) (i n : Nat) : (d.countAt b i n).tio = d.tio := (report_countAt d b i n).tio
@[simp] theorem countAt_sys (b : Bool) (i n : Nat) : (d.countAt b i n).sys = d.sys := (report_countAt d b i n).sys
@[simp] theorem countAt_freeCtr (b : Bool) (i n : Nat) : (d.countAt b i n).freeCtr = d.freeCtr := (report_countAt d b i n).freeCtr
@[simp] theorem countAt_cycles (b : Bool) (i n : Nat) : (d.countAt b i n).cycles = d.cycles := (report_countAt d b i n).cycles
theorem get_countAt (g : Fld) (w : Nat) (b : Bool) (i n : Nat) (h : reporting g.reg = false) : (d.countAt b i n).get g w = d.get g w := (report_countAt d b i n).get g w h

/-! ## `Dev.countDev` -/

@[simp] theorem countDev_ident (j n : Nat) : (d.countDev j n).ident = d.ident := (report_countDev d j n).ident
@[simp] theorem countDev_applied (j n : Nat) : (d.countDev j n).applied = d.applied := (report_countDev d j n).applied
@[simp] theorem countDev_tbA (j n : Nat) : (d.countDev j n).tbA = d.tbA := (report_countDev d j n).tbA
@[simp] theorem countDev_tbB (j n : Nat) : (d.countDev j n).tbB = d.tbB := (report_countDev d j n).tbB
@[simp] theorem countDev_mir (j n : Nat) : (d.countDev j n).mir = d.mir := (report_countDev d j n).mir
@[simp] theorem countDev_rsel (j n : Nat) : (d.countDev j n).rsel = d.rsel := (report_countDev d j n).rsel
@[simp] theorem countDev_cands (j n : Nat) : (d.countDev j n).cands = d.cands := (report_countDev d j n).cands
@[simp] theorem countDev_twin (j n : Nat) : (d.countDev j n).twin = d.twin := (report_countDev d j n).twin
@[simp] theorem countDev_syns (j n : Nat) : (d.countDev j n).syns = d.syns := (report_countDev d j n).syns
@[simp] theorem countDev_outs (j n : Nat) : (d.countDev j n).outs = d.outs := (report_countDev d j n).outs
@[simp] theorem countDev_chans (j n : Nat) : (d.countDev j n).chans = d.chans := (report_countDev d j n).chans
@[simp] theorem countDev_cpMail (j n : Nat) : (d.countDev j n).cpMail = d.cpMail := (report_countDev d j n).cpMail
@[simp] theorem countDev_cntCfg (j n : Nat) : (d.countDev j n).cntCfg = d.cntCfg := (report_countDev d j n).cntCfg
@[simp] theorem countDev_sw (j n : Nat) : (d.countDev j n).sw = d.sw := (report_countDev d j n).sw
@[simp] theorem countDev_ports (j n : Nat) : (d.countDev j n).ports = d.ports := (report_countDev d j n).ports
@[simp] theorem countDev_ptus (j n : Nat) : (d.countDev j n).ptus = d.ptus := (report_countDev d j n).ptus
@[simp] theorem countDev_insts (j n : Nat) : (d.countDev j n).insts = d.insts := (report_countDev d j n).insts
@[simp] theorem countDev_tio (j n : Nat) : (d.countDev j n).tio = d.tio := (report_countDev d j n).tio
@[simp] theorem countDev_sys (j n : Nat) : (d.countDev j n).sys = d.sys := (report_countDev d j n).sys
@[simp] theorem countDev_freeCtr (j n : Nat) : (d.countDev j n).freeCtr = d.freeCtr := (report_countDev d j n).freeCtr
@[simp] theorem countDev_cycles (j n : Nat) : (d.countDev j n).cycles = d.cycles := (report_countDev d j n).cycles
theorem get_countDev (g : Fld) (w : Nat) (j n : Nat) (h : reporting g.reg = false) : (d.countDev j n).get g w = d.get g w := (report_countDev d j n).get g w h

/-! ## `Dev.countPort` -/

@[simp] theorem countPort_ident (p k n : Nat) : (d.countPort p k n).ident = d.ident := (report_countPort d p k n).ident
@[simp] theorem countPort_applied (p k n : Nat) : (d.countPort p k n).applied = d.applied := (report_countPort d p k n).applied
@[simp] theorem countPort_tbA (p k n : Nat) : (d.countPort p k n).tbA = d.tbA := (report_countPort d p k n).tbA
@[simp] theorem countPort_tbB (p k n : Nat) : (d.countPort p k n).tbB = d.tbB := (report_countPort d p k n).tbB
@[simp] theorem countPort_mir (p k n : Nat) : (d.countPort p k n).mir = d.mir := (report_countPort d p k n).mir
@[simp] theorem countPort_rsel (p k n : Nat) : (d.countPort p k n).rsel = d.rsel := (report_countPort d p k n).rsel
@[simp] theorem countPort_cands (p k n : Nat) : (d.countPort p k n).cands = d.cands := (report_countPort d p k n).cands
@[simp] theorem countPort_twin (p k n : Nat) : (d.countPort p k n).twin = d.twin := (report_countPort d p k n).twin
@[simp] theorem countPort_syns (p k n : Nat) : (d.countPort p k n).syns = d.syns := (report_countPort d p k n).syns
@[simp] theorem countPort_outs (p k n : Nat) : (d.countPort p k n).outs = d.outs := (report_countPort d p k n).outs
@[simp] theorem countPort_chans (p k n : Nat) : (d.countPort p k n).chans = d.chans := (report_countPort d p k n).chans
@[simp] theorem countPort_cpMail (p k n : Nat) : (d.countPort p k n).cpMail = d.cpMail := (report_countPort d p k n).cpMail
@[simp] theorem countPort_cntCfg (p k n : Nat) : (d.countPort p k n).cntCfg = d.cntCfg := (report_countPort d p k n).cntCfg
@[simp] theorem countPort_sw (p k n : Nat) : (d.countPort p k n).sw = d.sw := (report_countPort d p k n).sw
@[simp] theorem countPort_ports (p k n : Nat) : (d.countPort p k n).ports = d.ports := (report_countPort d p k n).ports
@[simp] theorem countPort_ptus (p k n : Nat) : (d.countPort p k n).ptus = d.ptus := (report_countPort d p k n).ptus
@[simp] theorem countPort_insts (p k n : Nat) : (d.countPort p k n).insts = d.insts := (report_countPort d p k n).insts
@[simp] theorem countPort_tio (p k n : Nat) : (d.countPort p k n).tio = d.tio := (report_countPort d p k n).tio
@[simp] theorem countPort_sys (p k n : Nat) : (d.countPort p k n).sys = d.sys := (report_countPort d p k n).sys
@[simp] theorem countPort_freeCtr (p k n : Nat) : (d.countPort p k n).freeCtr = d.freeCtr := (report_countPort d p k n).freeCtr
@[simp] theorem countPort_cycles (p k n : Nat) : (d.countPort p k n).cycles = d.cycles := (report_countPort d p k n).cycles
theorem get_countPort (g : Fld) (w : Nat) (p k n : Nat) (h : reporting g.reg = false) : (d.countPort p k n).get g w = d.get g w := (report_countPort d p k n).get g w h

/-! ## `Dev.portEvent` -/

@[simp] theorem portEvent_ident (p e i n : Nat) : (d.portEvent p e i n).ident = d.ident := (report_portEvent d p e i n).ident
@[simp] theorem portEvent_applied (p e i n : Nat) : (d.portEvent p e i n).applied = d.applied := (report_portEvent d p e i n).applied
@[simp] theorem portEvent_tbA (p e i n : Nat) : (d.portEvent p e i n).tbA = d.tbA := (report_portEvent d p e i n).tbA
@[simp] theorem portEvent_tbB (p e i n : Nat) : (d.portEvent p e i n).tbB = d.tbB := (report_portEvent d p e i n).tbB
@[simp] theorem portEvent_mir (p e i n : Nat) : (d.portEvent p e i n).mir = d.mir := (report_portEvent d p e i n).mir
@[simp] theorem portEvent_rsel (p e i n : Nat) : (d.portEvent p e i n).rsel = d.rsel := (report_portEvent d p e i n).rsel
@[simp] theorem portEvent_cands (p e i n : Nat) : (d.portEvent p e i n).cands = d.cands := (report_portEvent d p e i n).cands
@[simp] theorem portEvent_twin (p e i n : Nat) : (d.portEvent p e i n).twin = d.twin := (report_portEvent d p e i n).twin
@[simp] theorem portEvent_syns (p e i n : Nat) : (d.portEvent p e i n).syns = d.syns := (report_portEvent d p e i n).syns
@[simp] theorem portEvent_outs (p e i n : Nat) : (d.portEvent p e i n).outs = d.outs := (report_portEvent d p e i n).outs
@[simp] theorem portEvent_chans (p e i n : Nat) : (d.portEvent p e i n).chans = d.chans := (report_portEvent d p e i n).chans
@[simp] theorem portEvent_cpMail (p e i n : Nat) : (d.portEvent p e i n).cpMail = d.cpMail := (report_portEvent d p e i n).cpMail
@[simp] theorem portEvent_cntCfg (p e i n : Nat) : (d.portEvent p e i n).cntCfg = d.cntCfg := (report_portEvent d p e i n).cntCfg
@[simp] theorem portEvent_sw (p e i n : Nat) : (d.portEvent p e i n).sw = d.sw := (report_portEvent d p e i n).sw
@[simp] theorem portEvent_ports (p e i n : Nat) : (d.portEvent p e i n).ports = d.ports := (report_portEvent d p e i n).ports
@[simp] theorem portEvent_ptus (p e i n : Nat) : (d.portEvent p e i n).ptus = d.ptus := (report_portEvent d p e i n).ptus
@[simp] theorem portEvent_insts (p e i n : Nat) : (d.portEvent p e i n).insts = d.insts := (report_portEvent d p e i n).insts
@[simp] theorem portEvent_tio (p e i n : Nat) : (d.portEvent p e i n).tio = d.tio := (report_portEvent d p e i n).tio
@[simp] theorem portEvent_sys (p e i n : Nat) : (d.portEvent p e i n).sys = d.sys := (report_portEvent d p e i n).sys
@[simp] theorem portEvent_freeCtr (p e i n : Nat) : (d.portEvent p e i n).freeCtr = d.freeCtr := (report_portEvent d p e i n).freeCtr
@[simp] theorem portEvent_cycles (p e i n : Nat) : (d.portEvent p e i n).cycles = d.cycles := (report_portEvent d p e i n).cycles
theorem get_portEvent (g : Fld) (w : Nat) (p e i n : Nat) (h : reporting g.reg = false) : (d.portEvent p e i n).get g w = d.get g w := (report_portEvent d p e i n).get g w h

/-! ## `Dev.devEvent` -/

@[simp] theorem devEvent_ident (b : Bool) (e i n : Nat) : (d.devEvent b e i n).ident = d.ident := (report_devEvent d b e i n).ident
@[simp] theorem devEvent_applied (b : Bool) (e i n : Nat) : (d.devEvent b e i n).applied = d.applied := (report_devEvent d b e i n).applied
@[simp] theorem devEvent_tbA (b : Bool) (e i n : Nat) : (d.devEvent b e i n).tbA = d.tbA := (report_devEvent d b e i n).tbA
@[simp] theorem devEvent_tbB (b : Bool) (e i n : Nat) : (d.devEvent b e i n).tbB = d.tbB := (report_devEvent d b e i n).tbB
@[simp] theorem devEvent_mir (b : Bool) (e i n : Nat) : (d.devEvent b e i n).mir = d.mir := (report_devEvent d b e i n).mir
@[simp] theorem devEvent_rsel (b : Bool) (e i n : Nat) : (d.devEvent b e i n).rsel = d.rsel := (report_devEvent d b e i n).rsel
@[simp] theorem devEvent_cands (b : Bool) (e i n : Nat) : (d.devEvent b e i n).cands = d.cands := (report_devEvent d b e i n).cands
@[simp] theorem devEvent_twin (b : Bool) (e i n : Nat) : (d.devEvent b e i n).twin = d.twin := (report_devEvent d b e i n).twin
@[simp] theorem devEvent_syns (b : Bool) (e i n : Nat) : (d.devEvent b e i n).syns = d.syns := (report_devEvent d b e i n).syns
@[simp] theorem devEvent_outs (b : Bool) (e i n : Nat) : (d.devEvent b e i n).outs = d.outs := (report_devEvent d b e i n).outs
@[simp] theorem devEvent_chans (b : Bool) (e i n : Nat) : (d.devEvent b e i n).chans = d.chans := (report_devEvent d b e i n).chans
@[simp] theorem devEvent_cpMail (b : Bool) (e i n : Nat) : (d.devEvent b e i n).cpMail = d.cpMail := (report_devEvent d b e i n).cpMail
@[simp] theorem devEvent_cntCfg (b : Bool) (e i n : Nat) : (d.devEvent b e i n).cntCfg = d.cntCfg := (report_devEvent d b e i n).cntCfg
@[simp] theorem devEvent_sw (b : Bool) (e i n : Nat) : (d.devEvent b e i n).sw = d.sw := (report_devEvent d b e i n).sw
@[simp] theorem devEvent_ports (b : Bool) (e i n : Nat) : (d.devEvent b e i n).ports = d.ports := (report_devEvent d b e i n).ports
@[simp] theorem devEvent_ptus (b : Bool) (e i n : Nat) : (d.devEvent b e i n).ptus = d.ptus := (report_devEvent d b e i n).ptus
@[simp] theorem devEvent_insts (b : Bool) (e i n : Nat) : (d.devEvent b e i n).insts = d.insts := (report_devEvent d b e i n).insts
@[simp] theorem devEvent_tio (b : Bool) (e i n : Nat) : (d.devEvent b e i n).tio = d.tio := (report_devEvent d b e i n).tio
@[simp] theorem devEvent_sys (b : Bool) (e i n : Nat) : (d.devEvent b e i n).sys = d.sys := (report_devEvent d b e i n).sys
@[simp] theorem devEvent_freeCtr (b : Bool) (e i n : Nat) : (d.devEvent b e i n).freeCtr = d.freeCtr := (report_devEvent d b e i n).freeCtr
@[simp] theorem devEvent_cycles (b : Bool) (e i n : Nat) : (d.devEvent b e i n).cycles = d.cycles := (report_devEvent d b e i n).cycles
theorem get_devEvent (g : Fld) (w : Nat) (b : Bool) (e i n : Nat) (h : reporting g.reg = false) : (d.devEvent b e i n).get g w = d.get g w := (report_devEvent d b e i n).get g w h

/-! ## `Dev.memError` -/

@[simp] theorem memError_ident (m : Nat) (u : Bool) : (d.memError m u).ident = d.ident := (report_memError d m u).ident
@[simp] theorem memError_applied (m : Nat) (u : Bool) : (d.memError m u).applied = d.applied := (report_memError d m u).applied
@[simp] theorem memError_tbA (m : Nat) (u : Bool) : (d.memError m u).tbA = d.tbA := (report_memError d m u).tbA
@[simp] theorem memError_tbB (m : Nat) (u : Bool) : (d.memError m u).tbB = d.tbB := (report_memError d m u).tbB
@[simp] theorem memError_mir (m : Nat) (u : Bool) : (d.memError m u).mir = d.mir := (report_memError d m u).mir
@[simp] theorem memError_rsel (m : Nat) (u : Bool) : (d.memError m u).rsel = d.rsel := (report_memError d m u).rsel
@[simp] theorem memError_cands (m : Nat) (u : Bool) : (d.memError m u).cands = d.cands := (report_memError d m u).cands
@[simp] theorem memError_twin (m : Nat) (u : Bool) : (d.memError m u).twin = d.twin := (report_memError d m u).twin
@[simp] theorem memError_syns (m : Nat) (u : Bool) : (d.memError m u).syns = d.syns := (report_memError d m u).syns
@[simp] theorem memError_outs (m : Nat) (u : Bool) : (d.memError m u).outs = d.outs := (report_memError d m u).outs
@[simp] theorem memError_chans (m : Nat) (u : Bool) : (d.memError m u).chans = d.chans := (report_memError d m u).chans
@[simp] theorem memError_cpMail (m : Nat) (u : Bool) : (d.memError m u).cpMail = d.cpMail := (report_memError d m u).cpMail
@[simp] theorem memError_cntCfg (m : Nat) (u : Bool) : (d.memError m u).cntCfg = d.cntCfg := (report_memError d m u).cntCfg
@[simp] theorem memError_sw (m : Nat) (u : Bool) : (d.memError m u).sw = d.sw := (report_memError d m u).sw
@[simp] theorem memError_ports (m : Nat) (u : Bool) : (d.memError m u).ports = d.ports := (report_memError d m u).ports
@[simp] theorem memError_ptus (m : Nat) (u : Bool) : (d.memError m u).ptus = d.ptus := (report_memError d m u).ptus
@[simp] theorem memError_insts (m : Nat) (u : Bool) : (d.memError m u).insts = d.insts := (report_memError d m u).insts
@[simp] theorem memError_tio (m : Nat) (u : Bool) : (d.memError m u).tio = d.tio := (report_memError d m u).tio
@[simp] theorem memError_sys (m : Nat) (u : Bool) : (d.memError m u).sys = d.sys := (report_memError d m u).sys
@[simp] theorem memError_freeCtr (m : Nat) (u : Bool) : (d.memError m u).freeCtr = d.freeCtr := (report_memError d m u).freeCtr
@[simp] theorem memError_cycles (m : Nat) (u : Bool) : (d.memError m u).cycles = d.cycles := (report_memError d m u).cycles
theorem get_memError (g : Fld) (w : Nat) (m : Nat) (u : Bool) (h : reporting g.reg = false) : (d.memError m u).get g w = d.get g w := (report_memError d m u).get g w h

/-! ## `Dev.countRx` -/

@[simp] theorem countRx_ident (p t : Nat) : (d.countRx p t).ident = d.ident := (report_countRx d p t).ident
@[simp] theorem countRx_applied (p t : Nat) : (d.countRx p t).applied = d.applied := (report_countRx d p t).applied
@[simp] theorem countRx_tbA (p t : Nat) : (d.countRx p t).tbA = d.tbA := (report_countRx d p t).tbA
@[simp] theorem countRx_tbB (p t : Nat) : (d.countRx p t).tbB = d.tbB := (report_countRx d p t).tbB
@[simp] theorem countRx_mir (p t : Nat) : (d.countRx p t).mir = d.mir := (report_countRx d p t).mir
@[simp] theorem countRx_rsel (p t : Nat) : (d.countRx p t).rsel = d.rsel := (report_countRx d p t).rsel
@[simp] theorem countRx_cands (p t : Nat) : (d.countRx p t).cands = d.cands := (report_countRx d p t).cands
@[simp] theorem countRx_twin (p t : Nat) : (d.countRx p t).twin = d.twin := (report_countRx d p t).twin
@[simp] theorem countRx_syns (p t : Nat) : (d.countRx p t).syns = d.syns := (report_countRx d p t).syns
@[simp] theorem countRx_outs (p t : Nat) : (d.countRx p t).outs = d.outs := (report_countRx d p t).outs
@[simp] theorem countRx_chans (p t : Nat) : (d.countRx p t).chans = d.chans := (report_countRx d p t).chans
@[simp] theorem countRx_cpMail (p t : Nat) : (d.countRx p t).cpMail = d.cpMail := (report_countRx d p t).cpMail
@[simp] theorem countRx_cntCfg (p t : Nat) : (d.countRx p t).cntCfg = d.cntCfg := (report_countRx d p t).cntCfg
@[simp] theorem countRx_sw (p t : Nat) : (d.countRx p t).sw = d.sw := (report_countRx d p t).sw
@[simp] theorem countRx_ports (p t : Nat) : (d.countRx p t).ports = d.ports := (report_countRx d p t).ports
@[simp] theorem countRx_ptus (p t : Nat) : (d.countRx p t).ptus = d.ptus := (report_countRx d p t).ptus
@[simp] theorem countRx_insts (p t : Nat) : (d.countRx p t).insts = d.insts := (report_countRx d p t).insts
@[simp] theorem countRx_tio (p t : Nat) : (d.countRx p t).tio = d.tio := (report_countRx d p t).tio
@[simp] theorem countRx_sys (p t : Nat) : (d.countRx p t).sys = d.sys := (report_countRx d p t).sys
@[simp] theorem countRx_freeCtr (p t : Nat) : (d.countRx p t).freeCtr = d.freeCtr := (report_countRx d p t).freeCtr
@[simp] theorem countRx_cycles (p t : Nat) : (d.countRx p t).cycles = d.cycles := (report_countRx d p t).cycles
theorem get_countRx (g : Fld) (w : Nat) (p t : Nat) (h : reporting g.reg = false) : (d.countRx p t).get g w = d.get g w := (report_countRx d p t).get g w h

/-! ## `Dev.countTx` -/

@[simp] theorem countTx_ident (p t : Nat) : (d.countTx p t).ident = d.ident := (report_countTx d p t).ident
@[simp] theorem countTx_applied (p t : Nat) : (d.countTx p t).applied = d.applied := (report_countTx d p t).applied
@[simp] theorem countTx_tbA (p t : Nat) : (d.countTx p t).tbA = d.tbA := (report_countTx d p t).tbA
@[simp] theorem countTx_tbB (p t : Nat) : (d.countTx p t).tbB = d.tbB := (report_countTx d p t).tbB
@[simp] theorem countTx_mir (p t : Nat) : (d.countTx p t).mir = d.mir := (report_countTx d p t).mir
@[simp] theorem countTx_rsel (p t : Nat) : (d.countTx p t).rsel = d.rsel := (report_countTx d p t).rsel
@[simp] theorem countTx_cands (p t : Nat) : (d.countTx p t).cands = d.cands := (report_countTx d p t).cands
@[simp] theorem countTx_twin (p t : Nat) : (d.countTx p t).twin = d.twin := (report_countTx d p t).twin
@[simp] theorem countTx_syns (p t : Nat) : (d.countTx p t).syns = d.syns := (report_countTx d p t).syns
@[simp] theorem countTx_outs (p t : Nat) : (d.countTx p t).outs = d.outs := (report_countTx d p t).outs
@[simp] theorem countTx_chans (p t : Nat) : (d.countTx p t).chans = d.chans := (report_countTx d p t).chans
@[simp] theorem countTx_cpMail (p t : Nat) : (d.countTx p t).cpMail = d.cpMail := (report_countTx d p t).cpMail
@[simp] theorem countTx_cntCfg (p t : Nat) : (d.countTx p t).cntCfg = d.cntCfg := (report_countTx d p t).cntCfg
@[simp] theorem countTx_sw (p t : Nat) : (d.countTx p t).sw = d.sw := (report_countTx d p t).sw
@[simp] theorem countTx_ports (p t : Nat) : (d.countTx p t).ports = d.ports := (report_countTx d p t).ports
@[simp] theorem countTx_ptus (p t : Nat) : (d.countTx p t).ptus = d.ptus := (report_countTx d p t).ptus
@[simp] theorem countTx_insts (p t : Nat) : (d.countTx p t).insts = d.insts := (report_countTx d p t).insts
@[simp] theorem countTx_tio (p t : Nat) : (d.countTx p t).tio = d.tio := (report_countTx d p t).tio
@[simp] theorem countTx_sys (p t : Nat) : (d.countTx p t).sys = d.sys := (report_countTx d p t).sys
@[simp] theorem countTx_freeCtr (p t : Nat) : (d.countTx p t).freeCtr = d.freeCtr := (report_countTx d p t).freeCtr
@[simp] theorem countTx_cycles (p t : Nat) : (d.countTx p t).cycles = d.cycles := (report_countTx d p t).cycles
theorem get_countTx (g : Fld) (w : Nat) (p t : Nat) (h : reporting g.reg = false) : (d.countTx p t).get g w = d.get g w := (report_countTx d p t).get g w h

/-! ## `Dev.logAdd` -/

@[simp] theorem logAdd_ident (c a m i : Nat) : (d.logAdd c a m i).ident = d.ident := (report_logAdd d c a m i).ident
@[simp] theorem logAdd_applied (c a m i : Nat) : (d.logAdd c a m i).applied = d.applied := (report_logAdd d c a m i).applied
@[simp] theorem logAdd_tbA (c a m i : Nat) : (d.logAdd c a m i).tbA = d.tbA := (report_logAdd d c a m i).tbA
@[simp] theorem logAdd_tbB (c a m i : Nat) : (d.logAdd c a m i).tbB = d.tbB := (report_logAdd d c a m i).tbB
@[simp] theorem logAdd_mir (c a m i : Nat) : (d.logAdd c a m i).mir = d.mir := (report_logAdd d c a m i).mir
@[simp] theorem logAdd_rsel (c a m i : Nat) : (d.logAdd c a m i).rsel = d.rsel := (report_logAdd d c a m i).rsel
@[simp] theorem logAdd_cands (c a m i : Nat) : (d.logAdd c a m i).cands = d.cands := (report_logAdd d c a m i).cands
@[simp] theorem logAdd_twin (c a m i : Nat) : (d.logAdd c a m i).twin = d.twin := (report_logAdd d c a m i).twin
@[simp] theorem logAdd_syns (c a m i : Nat) : (d.logAdd c a m i).syns = d.syns := (report_logAdd d c a m i).syns
@[simp] theorem logAdd_outs (c a m i : Nat) : (d.logAdd c a m i).outs = d.outs := (report_logAdd d c a m i).outs
@[simp] theorem logAdd_chans (c a m i : Nat) : (d.logAdd c a m i).chans = d.chans := (report_logAdd d c a m i).chans
@[simp] theorem logAdd_cpMail (c a m i : Nat) : (d.logAdd c a m i).cpMail = d.cpMail := (report_logAdd d c a m i).cpMail
@[simp] theorem logAdd_cntCfg (c a m i : Nat) : (d.logAdd c a m i).cntCfg = d.cntCfg := (report_logAdd d c a m i).cntCfg
@[simp] theorem logAdd_sw (c a m i : Nat) : (d.logAdd c a m i).sw = d.sw := (report_logAdd d c a m i).sw
@[simp] theorem logAdd_ports (c a m i : Nat) : (d.logAdd c a m i).ports = d.ports := (report_logAdd d c a m i).ports
@[simp] theorem logAdd_ptus (c a m i : Nat) : (d.logAdd c a m i).ptus = d.ptus := (report_logAdd d c a m i).ptus
@[simp] theorem logAdd_insts (c a m i : Nat) : (d.logAdd c a m i).insts = d.insts := (report_logAdd d c a m i).insts
@[simp] theorem logAdd_tio (c a m i : Nat) : (d.logAdd c a m i).tio = d.tio := (report_logAdd d c a m i).tio
@[simp] theorem logAdd_sys (c a m i : Nat) : (d.logAdd c a m i).sys = d.sys := (report_logAdd d c a m i).sys
@[simp] theorem logAdd_freeCtr (c a m i : Nat) : (d.logAdd c a m i).freeCtr = d.freeCtr := (report_logAdd d c a m i).freeCtr
@[simp] theorem logAdd_cycles (c a m i : Nat) : (d.logAdd c a m i).cycles = d.cycles := (report_logAdd d c a m i).cycles
theorem get_logAdd (g : Fld) (w : Nat) (c a m i : Nat) (h : reporting g.reg = false) : (d.logAdd c a m i).get g w = d.get g w := (report_logAdd d c a m i).get g w h

/-! ## `Dev.retireOther` -/

@[simp] theorem retireOther_ident (c m i : Nat) : (d.retireOther c m i).ident = d.ident := (report_retireOther d c m i).ident
@[simp] theorem retireOther_applied (c m i : Nat) : (d.retireOther c m i).applied = d.applied := (report_retireOther d c m i).applied
@[simp] theorem retireOther_tbA (c m i : Nat) : (d.retireOther c m i).tbA = d.tbA := (report_retireOther d c m i).tbA
@[simp] theorem retireOther_tbB (c m i : Nat) : (d.retireOther c m i).tbB = d.tbB := (report_retireOther d c m i).tbB
@[simp] theorem retireOther_mir (c m i : Nat) : (d.retireOther c m i).mir = d.mir := (report_retireOther d c m i).mir
@[simp] theorem retireOther_rsel (c m i : Nat) : (d.retireOther c m i).rsel = d.rsel := (report_retireOther d c m i).rsel
@[simp] theorem retireOther_cands (c m i : Nat) : (d.retireOther c m i).cands = d.cands := (report_retireOther d c m i).cands
@[simp] theorem retireOther_twin (c m i : Nat) : (d.retireOther c m i).twin = d.twin := (report_retireOther d c m i).twin
@[simp] theorem retireOther_syns (c m i : Nat) : (d.retireOther c m i).syns = d.syns := (report_retireOther d c m i).syns
@[simp] theorem retireOther_outs (c m i : Nat) : (d.retireOther c m i).outs = d.outs := (report_retireOther d c m i).outs
@[simp] theorem retireOther_chans (c m i : Nat) : (d.retireOther c m i).chans = d.chans := (report_retireOther d c m i).chans
@[simp] theorem retireOther_cpMail (c m i : Nat) : (d.retireOther c m i).cpMail = d.cpMail := (report_retireOther d c m i).cpMail
@[simp] theorem retireOther_cntCfg (c m i : Nat) : (d.retireOther c m i).cntCfg = d.cntCfg := (report_retireOther d c m i).cntCfg
@[simp] theorem retireOther_sw (c m i : Nat) : (d.retireOther c m i).sw = d.sw := (report_retireOther d c m i).sw
@[simp] theorem retireOther_ports (c m i : Nat) : (d.retireOther c m i).ports = d.ports := (report_retireOther d c m i).ports
@[simp] theorem retireOther_ptus (c m i : Nat) : (d.retireOther c m i).ptus = d.ptus := (report_retireOther d c m i).ptus
@[simp] theorem retireOther_insts (c m i : Nat) : (d.retireOther c m i).insts = d.insts := (report_retireOther d c m i).insts
@[simp] theorem retireOther_tio (c m i : Nat) : (d.retireOther c m i).tio = d.tio := (report_retireOther d c m i).tio
@[simp] theorem retireOther_sys (c m i : Nat) : (d.retireOther c m i).sys = d.sys := (report_retireOther d c m i).sys
@[simp] theorem retireOther_freeCtr (c m i : Nat) : (d.retireOther c m i).freeCtr = d.freeCtr := (report_retireOther d c m i).freeCtr
@[simp] theorem retireOther_cycles (c m i : Nat) : (d.retireOther c m i).cycles = d.cycles := (report_retireOther d c m i).cycles
theorem get_retireOther (g : Fld) (w : Nat) (c m i : Nat) (h : reporting g.reg = false) : (d.retireOther c m i).get g w = d.get g w := (report_retireOther d c m i).get g w h

end Sys2Proof.Laws
end

