-- ==== Sys2Proof/Laws/Footprint.lean ====
section
/-! SUPPORT. Footprints: `Only P R d e` says that `e` is `d` but for the parts `P` of the device and the registers `R`. Each
operation that a meaning shares has one lemma that names its footprint; from it follows every frame. -/

namespace Sys2Proof.Safety

open Sys2Proof.Machine Sys2Proof.Laws

theorem Part.same_refl (p : Part) (d : Dev) : p.same d d := by cases p <;> rfl
theorem Part.same_trans (p : Part) {a b c : Dev} (h : p.same a b) (k : p.same b c) : p.same a c := by
  cases p <;> exact Eq.trans k h

variable {P Q : List Part} {R S : List Reg} {d e x : Dev}

theorem Only.refl : Only P R d d := ⟨fun _ _ _ => rfl, fun p _ => p.same_refl d⟩
theorem Only.trans (h : Only P R d e) (k : Only P R e x) : Only P R d x :=
  ⟨fun r u hr => (k.word r u hr).trans (h.word r u hr), fun p hp => p.same_trans (h.part p hp) (k.part p hp)⟩
/-- A smaller footprint after one. -/
theorem Only.andThen (h : Only P R d e) (k : Only Q S e x) (hQ : ∀ p ∈ Q, p ∈ P) (hS : ∀ r ∈ S, r ∈ R) : Only P R d x :=
  h.trans ⟨fun r u hr => k.word r u (fun m => hr (hS r m)), fun p hp => k.part p (fun m => hp (hQ p m))⟩
theorem Only.get (h : Only P R d e) (g : Fld) (u : Nat) (hg : g.reg ∉ R) : e.get g u = d.get g u := by
  simp only [Dev.get, h.word _ _ hg]

theorem Only.set (h : Only P R d e) (f : Fld) (v u : Nat) (hf : f.reg ∈ R) : Only P R d (e.set f v u) :=
  h.trans ⟨fun r w hr => word_set_other e f v u r w (fun k => hr (k.1 ▸ hf)), fun p _ => by cases p <;> rfl⟩
theorem Only.setB (h : Only P R d e) (f : Fld) (b : Bool) (u : Nat) (hf : f.reg ∈ R) : Only P R d (e.setB f b u) :=
  h.set f _ u hf
theorem Only.setWord (h : Only P R d e) (r : Reg) (u : Nat) (w : Word) (hf : r ∈ R) : Only P R d (e.setWord r u w) :=
  h.trans ⟨fun q v hr => word_setWord_other e w (fun k => hr (k.1 ▸ hf)), fun p _ => by cases p <;> rfl⟩
theorem Only.setMark (h : Only P R d e) (f ch : Fld) (v u : Nat) (hf : f.reg ∈ R) (hc : ch.reg ∈ R) :
    Only P R d (e.setMark f v ch u) := by
  unfold Dev.setMark
  split
  · exact h
  · exact (h.set f v u hf).set ch 1 u hc
theorem Only.when (h : Only P R d e) (c : Bool) (f : Dev → Dev) (k : Only P R e (f e)) : Only P R d (e.when c f) := by
  cases c
  · exact h
  · exact h.trans k
theorem Only.each {α : Type} (h : Only P R d e) (l : List α) (f : Dev → α → Dev) (k : ∀ e a, Only P R e (f e a)) :
    Only P R d (e.each l f) := by
  induction l generalizing e with
  | nil => exact h
  | cons a l ih => exact ih (h.trans (k e a))
theorem Only.ite (c : Prop) [Decidable c] (h : Only P R d e) (k : Only P R d x) : Only P R d (if c then e else x) := by
  split
  · exact h
  · exact k

theorem Only.onTwin (h : Only P R d e) (f : Twin → Twin) (hp : .twin ∈ P) : Only P R d (e.onTwin f) :=
  h.trans ⟨fun _ _ _ => rfl, fun p hq => by cases p <;> first | rfl | exact absurd hp hq⟩
theorem Only.onMir (h : Only P R d e) (f : Mirrored → Mirrored) (hp : .mir ∈ P) : Only P R d (e.onMir f) :=
  h.trans ⟨fun _ _ _ => rfl, fun p hq => by cases p <;> first | rfl | exact absurd hp hq⟩
theorem Only.onRsel (h : Only P R d e) (f : Rsel → Rsel) (hp : .rsel ∈ P) : Only P R d (e.onRsel f) :=
  h.trans ⟨fun _ _ _ => rfl, fun p hq => by cases p <;> first | rfl | exact absurd hp hq⟩
theorem Only.onSw (h : Only P R d e) (f : Switch → Switch) (hp : .sw ∈ P) : Only P R d (e.onSw f) :=
  h.trans ⟨fun _ _ _ => rfl, fun p hq => by cases p <;> first | rfl | exact absurd hp hq⟩
theorem Only.onSys (h : Only P R d e) (f : Sys → Sys) (hp : .sys ∈ P) : Only P R d (e.onSys f) :=
  h.trans ⟨fun _ _ _ => rfl, fun p hq => by cases p <;> first | rfl | exact absurd hp hq⟩
theorem Only.onCand (h : Only P R d e) (i : Nat) (f : Cand → Cand) (hp : .cands ∈ P) : Only P R d (e.onCand i f) :=
  h.trans ⟨fun _ _ _ => rfl, fun p hq => by cases p <;> first | rfl | exact absurd hp hq⟩
theorem Only.onPort (h : Only P R d e) (i : Nat) (f : Port → Port) (hp : .ports ∈ P) : Only P R d (e.onPort i f) :=
  h.trans ⟨fun _ _ _ => rfl, fun p hq => by cases p <;> first | rfl | exact absurd hp hq⟩
theorem Only.onPtu (h : Only P R d e) (i : Nat) (f : PtuPort → PtuPort) (hp : .ptus ∈ P) : Only P R d (e.onPtu i f) :=
  h.trans ⟨fun _ _ _ => rfl, fun p hq => by cases p <;> first | rfl | exact absurd hp hq⟩
theorem Only.onInst (h : Only P R d e) (i : Nat) (f : PtpInst → PtpInst) (hp : .insts ∈ P) : Only P R d (e.onInst i f) :=
  h.trans ⟨fun _ _ _ => rfl, fun p hq => by cases p <;> first | rfl | exact absurd hp hq⟩
theorem Only.onTio (h : Only P R d e) (i : Nat) (f : Tio → Tio) (hp : .tio ∈ P) : Only P R d (e.onTio i f) :=
  h.trans ⟨fun _ _ _ => rfl, fun p hq => by cases p <;> first | rfl | exact absurd hp hq⟩
theorem Only.onChan (h : Only P R d e) (i j : Nat) (f : Chan → Chan) (hp : .chans ∈ P) : Only P R d (e.onChan i j f) :=
  h.trans ⟨fun _ _ _ => rfl, fun p hq => by cases p <;> first | rfl | exact absurd hp hq⟩
theorem Only.emit (h : Only P R d e) (m : Emit) (hp : .sent ∈ P) : Only P R d (e.emit m) :=
  h.trans ⟨fun _ _ _ => rfl, fun p hq => by cases p <;> first | rfl | exact absurd hp hq⟩
theorem Only.spendFree (h : Only P R d e) (hp : .freeCtr ∈ P) : Only P R d e.spendFree :=
  h.trans ⟨fun _ _ _ => rfl, fun p hq => by cases p <;> first | rfl | exact absurd hp hq⟩
theorem Only.onTb (h : Only P R d e) (t : TbId) (f : Timebase → Timebase) (ha : .tbA ∈ P) (hb : .tbB ∈ P) : Only P R d (e.onTb t f) :=
  h.trans ⟨fun _ _ _ => by cases t <;> rfl, fun p hq => by cases p <;> first | rfl | exact absurd ha hq | exact absurd hb hq | (cases t <;> rfl)⟩

/-- What reporting may touch. -/
theorem only_of_report (h : Report d e) : Only [.counters, .latches, .ring, .log, .pcie, .sent] [.ALM_ACTIVE, .ALM_LATCH] d e where
  word r u hr := h.word r u (by simpa [reporting] using hr)
  part p hp := by
    cases p
    all_goals first
      | exact absurd (by decide) hp
      | exact h.ident
      | exact h.applied
      | exact h.tbA
      | exact h.tbB
      | exact h.mir
      | exact h.rsel
      | exact h.cands
      | exact h.twin
      | exact h.syns
      | exact h.outs
      | exact h.chans
      | exact h.cpMail
      | exact h.cntCfg
      | exact h.sw
      | exact h.ports
      | exact h.ptus
      | exact h.insts
      | exact h.tio
      | exact h.sys
      | exact h.freeCtr
      | exact h.cycles

/-- A footprint that admits reporting. -/
abbrev Rep (P : List Part) (R : List Reg) : Prop :=
  (∀ p ∈ [Part.counters, .latches, .ring, .log, .pcie, .sent], p ∈ P) ∧ ∀ r ∈ [Reg.ALM_ACTIVE, .ALM_LATCH], r ∈ R

theorem Only.report (h : Only P R d e) (k : Report e x) (hr : Rep P R) : Only P R d x := h.andThen (only_of_report k) hr.1 hr.2

theorem Only.msix (h : Only P R d e) (v : Nat) (hr : Rep P R) : Only P R d (e.msix v) := h.report (report_msix e v) hr
theorem Only.sendGroup (h : Only P R d e) (k : Nat) (hr : Rep P R) : Only P R d (e.sendGroup k) := h.report (report_sendGroup e k) hr
theorem Only.latch (h : Only P R d e) (b : Nat) (hr : Rep P R) : Only P R d (e.latch b) := h.report (report_latch e b) hr
theorem Only.raise (h : Only P R d e) (a : Alarm) (hr : Rep P R) : Only P R d (e.raise a) := h.report (report_raise e a) hr
theorem Only.cond (h : Only P R d e) (a : Alarm) (b : Bool) (hr : Rep P R) : Only P R d (e.cond a b) := h.report (report_cond e a b) hr
theorem Only.countAt (h : Only P R d e) (b : Bool) (i n : Nat) (hr : Rep P R) : Only P R d (e.countAt b i n) := h.report (report_countAt e b i n) hr
theorem Only.countDev (h : Only P R d e) (j n : Nat) (hr : Rep P R) : Only P R d (e.countDev j n) := h.report (report_countDev e j n) hr
theorem Only.countPort (h : Only P R d e) (p k n : Nat) (hr : Rep P R) : Only P R d (e.countPort p k n) := h.report (report_countPort e p k n) hr
theorem Only.portEvent (h : Only P R d e) (p v i n : Nat) (hr : Rep P R) : Only P R d (e.portEvent p v i n) := h.report (report_portEvent e p v i n) hr
theorem Only.devEvent (h : Only P R d e) (b : Bool) (v i n : Nat) (hr : Rep P R) : Only P R d (e.devEvent b v i n) := h.report (report_devEvent e b v i n) hr
theorem Only.memError (h : Only P R d e) (m : Nat) (u : Bool) (hr : Rep P R) : Only P R d (e.memError m u) := h.report (report_memError e m u) hr
theorem Only.countRx (h : Only P R d e) (p t : Nat) (hr : Rep P R) : Only P R d (e.countRx p t) := h.report (report_countRx e p t) hr
theorem Only.countTx (h : Only P R d e) (p t : Nat) (hr : Rep P R) : Only P R d (e.countTx p t) := h.report (report_countTx e p t) hr
theorem Only.logAdd (h : Only P R d e) (c a m i : Nat) (hr : Rep P R) : Only P R d (e.logAdd c a m i) := h.report (report_logAdd e c a m i) hr
theorem Only.retireOther (h : Only P R d e) (c m i : Nat) (hr : Rep P R) : Only P R d (e.retireOther c m i) := h.report (report_retireOther e c m i) hr

end Sys2Proof.Safety
end

