-- ==== Sys2Proof/Laws/Footprint1.lean ====
section
/-! SUPPORT. The footprints of the operations of Operands, Flags, Cands, Cells, SynOps, Mail, Sleep, Queues, PtuOps, PtpMsg, Stream, Fdb, Forward, Egress, Ring, Ops: what each can touch. -/

set_option linter.unusedTactic false
set_option linter.unreachableTactic false

namespace Sys2Proof.Safety

open Sys2Proof.Machine Sys2Proof.Laws

variable {P : List Part} {R : List Reg} {d e : Dev}

theorem Only.upd_ident (h : Only P R d e) (x : Ident) (hp : .ident ∈ P) : Only P R d { e with ident := x } :=
  h.trans ⟨fun _ _ _ => rfl, fun p hq => by cases p <;> first | rfl | exact absurd hp hq⟩
theorem Only.upd_applied (h : Only P R d e) (x : Tab Word) (hp : .applied ∈ P) : Only P R d { e with applied := x } :=
  h.trans ⟨fun _ _ _ => rfl, fun p hq => by cases p <;> first | rfl | exact absurd hp hq⟩
theorem Only.upd_tbA (h : Only P R d e) (x : Timebase) (hp : .tbA ∈ P) : Only P R d { e with tbA := x } :=
  h.trans ⟨fun _ _ _ => rfl, fun p hq => by cases p <;> first | rfl | exact absurd hp hq⟩
theorem Only.upd_tbB (h : Only P R d e) (x : Timebase) (hp : .tbB ∈ P) : Only P R d { e with tbB := x } :=
  h.trans ⟨fun _ _ _ => rfl, fun p hq => by cases p <;> first | rfl | exact absurd hp hq⟩
theorem Only.upd_mir (h : Only P R d e) (x : Mirrored) (hp : .mir ∈ P) : Only P R d { e with mir := x } :=
  h.trans ⟨fun _ _ _ => rfl, fun p hq => by cases p <;> first | rfl | exact absurd hp hq⟩
theorem Only.upd_rsel (h : Only P R d e) (x : Rsel) (hp : .rsel ∈ P) : Only P R d { e with rsel := x } :=
  h.trans ⟨fun _ _ _ => rfl, fun p hq => by cases p <;> first | rfl | exact absurd hp hq⟩
theorem Only.upd_cands (h : Only P R d e) (x : Tab Cand) (hp : .cands ∈ P) : Only P R d { e with cands := x } :=
  h.trans ⟨fun _ _ _ => rfl, fun p hq => by cases p <;> first | rfl | exact absurd hp hq⟩
theorem Only.upd_twin (h : Only P R d e) (x : Twin) (hp : .twin ∈ P) : Only P R d { e with twin := x } :=
  h.trans ⟨fun _ _ _ => rfl, fun p hq => by cases p <;> first | rfl | exact absurd hp hq⟩
theorem Only.upd_syns (h : Only P R d e) (x : Tab Syn) (hp : .syns ∈ P) : Only P R d { e with syns := x } :=
  h.trans ⟨fun _ _ _ => rfl, fun p hq => by cases p <;> first | rfl | exact absurd hp hq⟩
theorem Only.upd_outs (h : Only P R d e) (x : Tab OutSt) (hp : .outs ∈ P) : Only P R d { e with outs := x } :=
  h.trans ⟨fun _ _ _ => rfl, fun p hq => by cases p <;> first | rfl | exact absurd hp hq⟩
theorem Only.upd_chans (h : Only P R d e) (x : Tab Chan) (hp : .chans ∈ P) : Only P R d { e with chans := x } :=
  h.trans ⟨fun _ _ _ => rfl, fun p hq => by cases p <;> first | rfl | exact absurd hp hq⟩
theorem Only.upd_cpMail (h : Only P R d e) (x : CpMail) (hp : .cpMail ∈ P) : Only P R d { e with cpMail := x } :=
  h.trans ⟨fun _ _ _ => rfl, fun p hq => by cases p <;> first | rfl | exact absurd hp hq⟩
theorem Only.upd_counters (h : Only P R d e) (x : Tab Word) (hp : .counters ∈ P) : Only P R d { e with counters := x } :=
  h.trans ⟨fun _ _ _ => rfl, fun p hq => by cases p <;> first | rfl | exact absurd hp hq⟩
theorem Only.upd_cntCfg (h : Only P R d e) (x : Tab Word) (hp : .cntCfg ∈ P) : Only P R d { e with cntCfg := x } :=
  h.trans ⟨fun _ _ _ => rfl, fun p hq => by cases p <;> first | rfl | exact absurd hp hq⟩
theorem Only.upd_latches (h : Only P R d e) (x : Tab Nat) (hp : .latches ∈ P) : Only P R d { e with latches := x } :=
  h.trans ⟨fun _ _ _ => rfl, fun p hq => by cases p <;> first | rfl | exact absurd hp hq⟩
theorem Only.upd_ring (h : Only P R d e) (x : Ring) (hp : .ring ∈ P) : Only P R d { e with ring := x } :=
  h.trans ⟨fun _ _ _ => rfl, fun p hq => by cases p <;> first | rfl | exact absurd hp hq⟩
theorem Only.upd_log (h : Only P R d e) (x : List LogEntry) (hp : .log ∈ P) : Only P R d { e with log := x } :=
  h.trans ⟨fun _ _ _ => rfl, fun p hq => by cases p <;> first | rfl | exact absurd hp hq⟩
theorem Only.upd_pcie (h : Only P R d e) (x : Pcie) (hp : .pcie ∈ P) : Only P R d { e with pcie := x } :=
  h.trans ⟨fun _ _ _ => rfl, fun p hq => by cases p <;> first | rfl | exact absurd hp hq⟩
theorem Only.upd_sw (h : Only P R d e) (x : Switch) (hp : .sw ∈ P) : Only P R d { e with sw := x } :=
  h.trans ⟨fun _ _ _ => rfl, fun p hq => by cases p <;> first | rfl | exact absurd hp hq⟩
theorem Only.upd_ports (h : Only P R d e) (x : Tab Port) (hp : .ports ∈ P) : Only P R d { e with ports := x } :=
  h.trans ⟨fun _ _ _ => rfl, fun p hq => by cases p <;> first | rfl | exact absurd hp hq⟩
theorem Only.upd_ptus (h : Only P R d e) (x : Tab PtuPort) (hp : .ptus ∈ P) : Only P R d { e with ptus := x } :=
  h.trans ⟨fun _ _ _ => rfl, fun p hq => by cases p <;> first | rfl | exact absurd hp hq⟩
theorem Only.upd_insts (h : Only P R d e) (x : Tab PtpInst) (hp : .insts ∈ P) : Only P R d { e with insts := x } :=
  h.trans ⟨fun _ _ _ => rfl, fun p hq => by cases p <;> first | rfl | exact absurd hp hq⟩
theorem Only.upd_tio (h : Only P R d e) (x : Tab Tio) (hp : .tio ∈ P) : Only P R d { e with tio := x } :=
  h.trans ⟨fun _ _ _ => rfl, fun p hq => by cases p <;> first | rfl | exact absurd hp hq⟩
theorem Only.upd_sys (h : Only P R d e) (x : Sys) (hp : .sys ∈ P) : Only P R d { e with sys := x } :=
  h.trans ⟨fun _ _ _ => rfl, fun p hq => by cases p <;> first | rfl | exact absurd hp hq⟩
theorem Only.upd_sent (h : Only P R d e) (x : List Emit) (hp : .sent ∈ P) : Only P R d { e with sent := x } :=
  h.trans ⟨fun _ _ _ => rfl, fun p hq => by cases p <;> first | rfl | exact absurd hp hq⟩
theorem Only.upd_freeCtr (h : Only P R d e) (x : Nat) (hp : .freeCtr ∈ P) : Only P R d { e with freeCtr := x } :=
  h.trans ⟨fun _ _ _ => rfl, fun p hq => by cases p <;> first | rfl | exact absurd hp hq⟩
theorem Only.upd_cycles (h : Only P R d e) (x : Nat) (hp : .cycles ∈ P) : Only P R d { e with cycles := x } :=
  h.trans ⟨fun _ _ _ => rfl, fun p hq => by cases p <;> first | rfl | exact absurd hp hq⟩
theorem Only.agree (h : Only P R d e) {x : Dev} (hr : x.regs = e.regs) (hp : ∀ p, p ∉ P → p.same e x) : Only P R d x :=
  h.trans ⟨fun r u _ => by simp only [Dev.word, hr], hp⟩
theorem Only.weaken {P Q : List Part} {R S : List Reg} {d e : Dev} (h : Only Q S d e) (hQ : ∀ p ∈ Q, p ∈ P) (hS : ∀ r ∈ S, r ∈ R) :
    Only P R d e := Only.andThen .refl h hQ hS
theorem Only.iteFst {P : List Part} {R : List Reg} {d : Dev} {α : Type} {c : Prop} [Decidable c] {x y : Dev × α}
    (h : c → Only P R d x.1) (k : ¬ c → Only P R d y.1) : Only P R d (if c then x else y).1 := by
  by_cases hc : c
  · simpa only [if_pos hc] using h hc
  · simpa only [if_neg hc] using k hc
theorem Only.letIn {P : List Part} {R : List Reg} {d x : Dev} {g : Dev → Dev} (h : Only P R d x)
    (k : ∀ y, Only P R d y → Only P R d (g y)) : Only P R d (let y := x; g y) := k x h
theorem Only.letVal {α : Sort u} {P : List Part} {R : List Reg} {d : Dev} {v : α} {g : α → Dev}
    (k : ∀ y, Only P R d (g y)) : Only P R d (let y := v; g y) := k v
theorem Only.store (h : Only P R d e) (r : Reg) (u : Nat) (v : Word) (hr : r ∈ R) : Only P R d (e.store r u v) :=
  h.setWord r u _ hr
theorem Only.reach (h : Only P R d e) (f : Dev → Dev) (k : Only P R e (f e)) : Only P R d (e.reach f) := by
  unfold Dev.reach
  split
  · exact h.trans k
  · exact h
theorem Only.reachFast (h : Only P R d e) (f : Dev → Dev) (k : Only P R e (f e)) : Only P R d (e.reachFast f) := by
  unfold Dev.reachFast
  split
  · exact h.trans k
  · exact h
theorem Only.globReach (h : Only P R d e) (f : Dev → Dev) (k : Only P R e (f e)) : Only P R d (e.globReach f) := by
  unfold Dev.globReach
  split
  · exact h
  · exact h.trans k
theorem Only.whileCp (h : Only P R d e) (f : Dev → Dev) (k : Only P R e (f e)) : Only P R d (e.whileCp f) := by
  unfold Dev.whileCp
  split
  · exact h
  · exact h.trans k
theorem Only.synReg (h : Only P R d e) (i : Nat) (f : Dev → Dev) (k : Only P R e (f e)) : Only P R d (e.synReg i f) :=
  h.reach _ (by split <;> first | exact Only.refl | exact k)
theorem Only.portReg (h : Only P R d e) (p : Nat) (f : Dev → Dev) (k : Only P R e (f e)) : Only P R d (e.portReg p f) :=
  h.reachFast _ (Only.refl.when _ _ k)
theorem Only.tioReg (h : Only P R d e) (c : Nat) (f : Dev → Dev) (k : Only P R e (f e)) : Only P R d (e.tioReg c f) :=
  h.reach _ (Only.refl.when _ _ k)
theorem Only.quadAccess (h : Only P R d e) (p : Nat) (f : Dev → Dev) (k : Only P R e (f e)) : Only P R d (e.quadAccess p f) :=
  h.reachFast _ (by split <;> first | exact k | exact Only.refl)
theorem Only.memFails (h : Only P R d e) (m : Nat) (k : ErrKind) (f : Dev → Dev) (hr : Rep P R) (hf : Only P R e (f e)) :
    Only P R d (e.memFails m k f) := by
  cases k
  · exact h.memError _ _ hr
  · exact h.trans hf
theorem Only.onPcie (h : Only P R d e) (f : Pcie → Pcie) (hp : .pcie ∈ P) : Only P R d (e.onPcie f) :=
  h.trans ⟨fun _ _ _ => rfl, fun p hq => by cases p <;> first | rfl | exact absurd hp hq⟩
theorem Only.candFlag (h : Only P R d e) (f : Fld) (i : Nat) (b : Bool) (hf : f.reg ∈ R) (hc : .RSEL_CAND_STAT ∈ R) : Only P R d (e.candFlag f i b) :=
  h.setMark _ _ _ _ hf hc
theorem Only.hostStat (h : Only P R d e) (f : Fld) (v : Nat) (hf : f.reg ∈ R) (hc : .GLB_HOST_STAT ∈ R) : Only P R d (e.hostStat f v) :=
  h.setMark _ _ _ _ hf hc
theorem Only.laneBit (h : Only P R d e) (f : Fld) (b : Bool) (l : Nat) (hf : f.reg ∈ R) (hc : .LANE_STAT ∈ R) : Only P R d (e.laneBit f b l) :=
  h.setMark _ _ _ _ hf hc
theorem Only.ptuBit (h : Only P R d e) (f : Fld) (b : Bool) (p : Nat) (hf : f.reg ∈ R) (hc : .PRT_PTU_STAT ∈ R) : Only P R d (e.ptuBit f b p) :=
  h.setMark _ _ _ _ hf hc
theorem Only.quadSet (h : Only P R d e) (f : Fld) (v p : Nat) (hf : f.reg ∈ R) (hc : .LANE_QUAD_STAT ∈ R) : Only P R d (e.quadSet f v p) :=
  h.setMark _ _ _ _ hf hc
theorem Only.synBit (h : Only P R d e) (f : Fld) (b : Bool) (i : Nat) (hf : f.reg ∈ R) (hc : .SYN_STAT ∈ R) : Only P R d (e.synBit f b i) :=
  h.setMark _ _ _ _ hf hc
theorem Only.outBit (h : Only P R d e) (f : Fld) (b : Bool) (n : Nat) (hf : f.reg ∈ R) (hc : .OUT_STAT ∈ R) : Only P R d (e.outBit f b n) :=
  h.setMark _ _ _ _ hf hc
theorem Only.tioBit (h : Only P R d e) (f : Fld) (b : Bool) (c : Nat) (hf : f.reg ∈ R) (hc : .TIO_STAT ∈ R) : Only P R d (e.tioBit f b c) :=
  h.setMark _ _ _ _ hf hc
theorem Only.hbFlag (h : Only P R d e) (f : Fld) (b : Bool) (hf : f.reg ∈ R) (hc : .TB_HB_STAT ∈ R) : Only P R d (e.hbFlag f b) :=
  h.setMark _ _ _ _ hf hc


/-! ## Operands -/


/-! ## Flags -/

theorem only_sendMsix (d : Dev) (v : Nat) : Only [.counters, .latches, .ring, .log, .pcie, .sent] [.ALM_ACTIVE, .ALM_LATCH] d (Dev.sendMsix d v) := by
  unfold Dev.sendMsix
  (try dsimp only)
  repeat' first
    | with_reducible exact Only.refl
    | with_reducible refine Only.emit ?_ _ (by decide)
    | with_reducible refine Only.msix ?_ _ (by decide)
    | split
    | dsimp only
theorem Only.sendMsix {PP : List Part} {RR : List Reg} {xx d : Dev} (hh : Only PP RR xx d) (v : Nat)
    (hP : ∀ p ∈ ([.counters, .latches, .ring, .log, .pcie, .sent] : List Part), p ∈ PP) (hR : ∀ r ∈ ([.ALM_ACTIVE, .ALM_LATCH] : List Reg), r ∈ RR) :
    Only PP RR xx (Dev.sendMsix d v) := hh.andThen (only_sendMsix d v) hP hR
theorem only_bump (d : Dev) (i n : Nat) (fuel : Nat) : Only [.counters] [] d (Dev.bump d i n fuel) := by
  induction fuel generalizing d i n with
  | zero => exact Only.upd_counters .refl _ (by decide)
  | succ k ih =>
    unfold Dev.bump
    dsimp only
    split
    · exact Only.upd_counters .refl _ (by decide)
    · split
      · exact Only.upd_counters .refl _ (by decide)
      · exact (Only.upd_counters .refl _ (by decide)).trans (ih _ _ _)
theorem Only.bump {PP : List Part} {RR : List Reg} {xx d : Dev} (hh : Only PP RR xx d) (i n : Nat) (fuel : Nat)
    (hP : ∀ p ∈ ([.counters] : List Part), p ∈ PP) (hR : ∀ r ∈ ([] : List Reg), r ∈ RR) :
    Only PP RR xx (Dev.bump d i n fuel) := hh.andThen (only_bump d i n fuel) hP hR

/-! ## Cands -/

theorem only_showMean (d : Dev) (id : Nat) : Only [] [.RSEL_CAND_FREQ] d (Dev.showMean d id) := by
  unfold Dev.showMean
  (try dsimp only)
  repeat' first
    | with_reducible exact Only.refl
    | with_reducible refine Only.set ?_ _ _ _ (by decide)
    | split
    | dsimp only
theorem Only.showMean {PP : List Part} {RR : List Reg} {xx d : Dev} (hh : Only PP RR xx d) (id : Nat)
    (hP : ∀ p ∈ ([] : List Part), p ∈ PP) (hR : ∀ r ∈ ([.RSEL_CAND_FREQ] : List Reg), r ∈ RR) :
    Only PP RR xx (Dev.showMean d id) := hh.andThen (only_showMean d id) hP hR
theorem only_restartQual (d : Dev) (id : Nat) : Only [.cands] [.RSEL_CAND_STAT] d (Dev.restartQual d id) := by
  unfold Dev.restartQual
  (try dsimp only)
  repeat' first
    | with_reducible exact Only.refl
    | with_reducible refine Only.set ?_ _ _ _ (by decide)
    | with_reducible refine Only.onCand ?_ _ _ (by decide)
    | split
    | dsimp only
theorem Only.restartQual {PP : List Part} {RR : List Reg} {xx d : Dev} (hh : Only PP RR xx d) (id : Nat)
    (hP : ∀ p ∈ ([.cands] : List Part), p ∈ PP) (hR : ∀ r ∈ ([.RSEL_CAND_STAT] : List Reg), r ∈ RR) :
    Only PP RR xx (Dev.restartQual d id) := hh.andThen (only_restartQual d id) hP hR
theorem only_disqualify (d : Dev) (id reason : Nat) : Only [.cands, .counters, .latches, .ring, .log, .pcie, .sent] [.ALM_ACTIVE, .ALM_LATCH, .RSEL_CAND_STAT] d (Dev.disqualify d id reason) := by
  unfold Dev.disqualify
  (try dsimp only)
  repeat' first
    | with_reducible exact Only.refl
    | with_reducible refine Only.set ?_ _ _ _ (by decide)
    | with_reducible refine Only.candFlag ?_ _ _ _ (by decide) (by decide)
    | with_reducible refine Only.countDev ?_ _ _ (by decide)
    | with_reducible refine Only.restartQual ?_ _ (by decide) (by decide)
    | split
    | dsimp only
theorem Only.disqualify {PP : List Part} {RR : List Reg} {xx d : Dev} (hh : Only PP RR xx d) (id reason : Nat)
    (hP : ∀ p ∈ ([.cands, .counters, .latches, .ring, .log, .pcie, .sent] : List Part), p ∈ PP) (hR : ∀ r ∈ ([.ALM_ACTIVE, .ALM_LATCH, .RSEL_CAND_STAT] : List Reg), r ∈ RR) :
    Only PP RR xx (Dev.disqualify d id reason) := hh.andThen (only_disqualify d id reason) hP hR
theorem only_setActive (d : Dev) (id : Nat) (on : Bool) : Only [.cands, .counters, .latches, .ring, .log, .pcie, .sent] [.ALM_ACTIVE, .ALM_LATCH, .RSEL_CAND_STAT] d (Dev.setActive d id on) := by
  unfold Dev.setActive
  (try dsimp only)
  repeat' first
    | with_reducible exact Only.refl
    | with_reducible refine Only.set ?_ _ _ _ (by decide)
    | with_reducible refine Only.setB ?_ _ _ _ (by decide)
    | with_reducible refine Only.disqualify ?_ _ _ (by decide) (by decide)
    | with_reducible refine Only.restartQual ?_ _ (by decide) (by decide)
    | split
    | dsimp only
theorem Only.setActive {PP : List Part} {RR : List Reg} {xx d : Dev} (hh : Only PP RR xx d) (id : Nat) (on : Bool)
    (hP : ∀ p ∈ ([.cands, .counters, .latches, .ring, .log, .pcie, .sent] : List Part), p ∈ PP) (hR : ∀ r ∈ ([.ALM_ACTIVE, .ALM_LATCH, .RSEL_CAND_STAT] : List Reg), r ∈ RR) :
    Only PP RR xx (Dev.setActive d id on) := hh.andThen (only_setActive d id on) hP hR
theorem only_retireMonitor (d : Dev) (id : Nat) (mem : Nat) : Only [.cands, .counters, .latches, .ring, .log, .pcie, .sent] [.ALM_ACTIVE, .ALM_LATCH, .RSEL_CAND_STAT] d (Dev.retireMonitor d id mem) := by
  unfold Dev.retireMonitor
  (try dsimp only)
  repeat' first
    | with_reducible exact Only.refl
    | with_reducible refine Only.set ?_ _ _ _ (by decide)
    | with_reducible refine Only.setB ?_ _ _ _ (by decide)
    | with_reducible refine Only.candFlag ?_ _ _ _ (by decide) (by decide)
    | with_reducible refine Only.onCand ?_ _ _ (by decide)
    | with_reducible refine Only.countDev ?_ _ _ (by decide)
    | with_reducible refine Only.retireOther ?_ _ _ _ (by decide)
    | split
    | dsimp only
theorem Only.retireMonitor {PP : List Part} {RR : List Reg} {xx d : Dev} (hh : Only PP RR xx d) (id : Nat) (mem : Nat)
    (hP : ∀ p ∈ ([.cands, .counters, .latches, .ring, .log, .pcie, .sent] : List Part), p ∈ PP) (hR : ∀ r ∈ ([.ALM_ACTIVE, .ALM_LATCH, .RSEL_CAND_STAT] : List Reg), r ∈ RR) :
    Only PP RR xx (Dev.retireMonitor d id mem) := hh.andThen (only_retireMonitor d id mem) hP hR

/-! ## Cells -/

theorem only_setFrame (d : Dev) (f : Nat) (x : Option Stored) : Only [.sw] [] d (Dev.setFrame d f x) := by
  unfold Dev.setFrame
  (try dsimp only)
  repeat' first
    | with_reducible exact Only.refl
    | with_reducible refine Only.onSw ?_ _ (by decide)
    | split
    | dsimp only
theorem Only.setFrame {PP : List Part} {RR : List Reg} {xx d : Dev} (hh : Only PP RR xx d) (f : Nat) (x : Option Stored)
    (hP : ∀ p ∈ ([.sw] : List Part), p ∈ PP) (hR : ∀ r ∈ ([] : List Reg), r ∈ RR) :
    Only PP RR xx (Dev.setFrame d f x) := hh.andThen (only_setFrame d f x) hP hR
theorem only_onFrame (d : Dev) (f : Nat) (g : Stored → Stored) : Only [.sw] [] d (Dev.onFrame d f g) := by
  unfold Dev.onFrame
  (try dsimp only)
  repeat' first
    | with_reducible exact Only.refl
    | with_reducible refine Only.setFrame ?_ _ _ (by decide) (by decide)
    | split
    | dsimp only
theorem Only.onFrame {PP : List Part} {RR : List Reg} {xx d : Dev} (hh : Only PP RR xx d) (f : Nat) (g : Stored → Stored)
    (hP : ∀ p ∈ ([.sw] : List Part), p ∈ PP) (hR : ∀ r ∈ ([] : List Reg), r ∈ RR) :
    Only PP RR xx (Dev.onFrame d f g) := hh.andThen (only_onFrame d f g) hP hR
theorem only_judgeBuf (d : Dev) : Only [.counters, .latches, .ring, .log, .pcie, .sent] [.ALM_ACTIVE, .ALM_LATCH] d (Dev.judgeBuf d) := by
  unfold Dev.judgeBuf
  (try dsimp only)
  repeat' first
    | with_reducible exact Only.refl
    | with_reducible refine Only.cond ?_ _ _ (by decide)
    | split
    | dsimp only
theorem Only.judgeBuf {PP : List Part} {RR : List Reg} {xx d : Dev} (hh : Only PP RR xx d) 
    (hP : ∀ p ∈ ([.counters, .latches, .ring, .log, .pcie, .sent] : List Part), p ∈ PP) (hR : ∀ r ∈ ([.ALM_ACTIVE, .ALM_LATCH] : List Reg), r ∈ RR) :
    Only PP RR xx (Dev.judgeBuf d) := hh.andThen (only_judgeBuf d) hP hR
theorem only_retireCell (d : Dev) (c : Nat) : Only [.counters, .latches, .ring, .log, .pcie, .sw, .sent] [.ALM_ACTIVE, .ALM_LATCH] d (Dev.retireCell d c) := by
  unfold Dev.retireCell
  (try dsimp only)
  repeat' first
    | with_reducible exact Only.refl
    | with_reducible refine Only.onSw ?_ _ (by decide)
    | with_reducible refine Only.countDev ?_ _ _ (by decide)
    | with_reducible refine Only.retireOther ?_ _ _ _ (by decide)
    | with_reducible refine Only.judgeBuf ?_ (by decide) (by decide)
    | split
    | dsimp only
theorem Only.retireCell {PP : List Part} {RR : List Reg} {xx d : Dev} (hh : Only PP RR xx d) (c : Nat)
    (hP : ∀ p ∈ ([.counters, .latches, .ring, .log, .pcie, .sw, .sent] : List Part), p ∈ PP) (hR : ∀ r ∈ ([.ALM_ACTIVE, .ALM_LATCH] : List Reg), r ∈ RR) :
    Only PP RR xx (Dev.retireCell d c) := hh.andThen (only_retireCell d c) hP hR
theorem only_freeFrame (d : Dev) (f : Nat) : Only [.counters, .latches, .ring, .log, .pcie, .sw, .sent] [.ALM_ACTIVE, .ALM_LATCH] d (Dev.freeFrame d f) := by
  unfold Dev.freeFrame
  (try dsimp only)
  repeat' first
    | with_reducible exact Only.refl
    | with_reducible refine Only.retireCell ?_ _ (by decide) (by decide)
    | with_reducible refine Only.setFrame ?_ _ _ (by decide) (by decide)
    | with_reducible refine Only.each ?_ _ _ (fun _ _ => ?_)
    | split
    | dsimp only
theorem Only.freeFrame {PP : List Part} {RR : List Reg} {xx d : Dev} (hh : Only PP RR xx d) (f : Nat)
    (hP : ∀ p ∈ ([.counters, .latches, .ring, .log, .pcie, .sw, .sent] : List Part), p ∈ PP) (hR : ∀ r ∈ ([.ALM_ACTIVE, .ALM_LATCH] : List Reg), r ∈ RR) :
    Only PP RR xx (Dev.freeFrame d f) := hh.andThen (only_freeFrame d f) hP hR
theorem only_release (d : Dev) (f : Nat) : Only [.counters, .latches, .ring, .log, .pcie, .sw, .sent] [.ALM_ACTIVE, .ALM_LATCH] d (Dev.release d f) := by
  unfold Dev.release
  (try dsimp only)
  repeat' first
    | with_reducible exact Only.refl
    | with_reducible refine Only.freeFrame ?_ _ (by decide) (by decide)
    | with_reducible refine Only.setFrame ?_ _ _ (by decide) (by decide)
    | split
    | dsimp only
theorem Only.release {PP : List Part} {RR : List Reg} {xx d : Dev} (hh : Only PP RR xx d) (f : Nat)
    (hP : ∀ p ∈ ([.counters, .latches, .ring, .log, .pcie, .sw, .sent] : List Part), p ∈ PP) (hR : ∀ r ∈ ([.ALM_ACTIVE, .ALM_LATCH] : List Reg), r ∈ RR) :
    Only PP RR xx (Dev.release d f) := hh.andThen (only_release d f) hP hR
theorem only_useSlots (d : Dev) (n : Nat) : Only [.sw] [] d (Dev.useSlots d n) := by
  unfold Dev.useSlots
  (try dsimp only)
  repeat' first
    | with_reducible exact Only.refl
    | with_reducible refine Only.onSw ?_ _ (by decide)
    | split
    | dsimp only
theorem Only.useSlots {PP : List Part} {RR : List Reg} {xx d : Dev} (hh : Only PP RR xx d) (n : Nat)
    (hP : ∀ p ∈ ([.sw] : List Part), p ∈ PP) (hR : ∀ r ∈ ([] : List Reg), r ∈ RR) :
    Only PP RR xx (Dev.useSlots d n) := hh.andThen (only_useSlots d n) hP hR
theorem only_giveCells (d : Dev) (f n : Nat) : Only [.sw, .freeCtr] [] d (Dev.giveCells d f n) := by
  unfold Dev.giveCells
  exact Only.upd_freeCtr (Only.onFrame (Only.useSlots .refl _ (by decide) (by decide)) _ _ (by decide) (by decide)) _ (by decide)
theorem Only.giveCells {PP : List Part} {RR : List Reg} {xx d : Dev} (hh : Only PP RR xx d) (f n : Nat)
    (hP : ∀ p ∈ ([.sw, .freeCtr] : List Part), p ∈ PP) (hR : ∀ r ∈ ([] : List Reg), r ∈ RR) :
    Only PP RR xx (Dev.giveCells d f n) := hh.andThen (only_giveCells d f n) hP hR

/-! ## SynOps -/

theorem only_onSyn (d : Dev) (i : Nat) (f : Syn → Syn) : Only [.syns] [] d (Dev.onSyn d i f) := by
  unfold Dev.onSyn
  (try dsimp only)
  repeat' first
    | with_reducible exact Only.refl
    | split
    | dsimp only
  all_goals first
    | with_reducible refine Only.upd_syns ?_ _ (by decide)
    | skip
  all_goals (repeat' first
      | with_reducible exact Only.refl
      | split
      | dsimp only)
  all_goals first
    | with_reducible refine Only.upd_syns ?_ _ (by decide)
    | skip
  all_goals (repeat' first
      | with_reducible exact Only.refl
      | split
      | dsimp only)
theorem Only.onSyn {PP : List Part} {RR : List Reg} {xx d : Dev} (hh : Only PP RR xx d) (i : Nat) (f : Syn → Syn)
    (hP : ∀ p ∈ ([.syns] : List Part), p ∈ PP) (hR : ∀ r ∈ ([] : List Reg), r ∈ RR) :
    Only PP RR xx (Dev.onSyn d i f) := hh.andThen (only_onSyn d i f) hP hR
theorem only_onOut (d : Dev) (n : Nat) (f : OutSt → OutSt) : Only [.outs] [] d (Dev.onOut d n f) := by
  unfold Dev.onOut
  (try dsimp only)
  repeat' first
    | with_reducible exact Only.refl
    | split
    | dsimp only
  all_goals first
    | with_reducible refine Only.upd_outs ?_ _ (by decide)
    | skip
  all_goals (repeat' first
      | with_reducible exact Only.refl
      | split
      | dsimp only)
  all_goals first
    | with_reducible refine Only.upd_outs ?_ _ (by decide)
    | skip
  all_goals (repeat' first
      | with_reducible exact Only.refl
      | split
      | dsimp only)
theorem Only.onOut {PP : List Part} {RR : List Reg} {xx d : Dev} (hh : Only PP RR xx d) (n : Nat) (f : OutSt → OutSt)
    (hP : ∀ p ∈ ([.outs] : List Part), p ∈ PP) (hR : ∀ r ∈ ([] : List Reg), r ∈ RR) :
    Only PP RR xx (Dev.onOut d n f) := hh.andThen (only_onOut d n f) hP hR
theorem only_placeEdge (d : Dev) (n : Nat) (t : Int) (prev : Option Int) : Only [.outs] [] d (Dev.placeEdge d n t prev) := by
  unfold Dev.placeEdge
  (try dsimp only)
  repeat' first
    | with_reducible exact Only.refl
    | with_reducible refine Only.onOut ?_ _ _ (by decide) (by decide)
    | split
    | dsimp only
theorem Only.placeEdge {PP : List Part} {RR : List Reg} {xx d : Dev} (hh : Only PP RR xx d) (n : Nat) (t : Int) (prev : Option Int)
    (hP : ∀ p ∈ ([.outs] : List Part), p ∈ PP) (hR : ∀ r ∈ ([] : List Reg), r ∈ RR) :
    Only PP RR xx (Dev.placeEdge d n t prev) := hh.andThen (only_placeEdge d n t prev) hP hR
theorem only_emitEdge (d : Dev) (n : Nat) (t : Int) : Only [.sent] [] d (Dev.emitEdge d n t) := by
  unfold Dev.emitEdge
  (try dsimp only)
  repeat' first
    | with_reducible exact Only.refl
    | with_reducible refine Only.emit ?_ _ (by decide)
    | split
    | dsimp only
theorem Only.emitEdge {PP : List Part} {RR : List Reg} {xx d : Dev} (hh : Only PP RR xx d) (n : Nat) (t : Int)
    (hP : ∀ p ∈ ([.sent] : List Part), p ∈ PP) (hR : ∀ r ∈ ([] : List Reg), r ∈ RR) :
    Only PP RR xx (Dev.emitEdge d n t) := hh.andThen (only_emitEdge d n t) hP hR
theorem only_refreshOut (d : Dev) (n : Nat) : Only [.outs] [.OUT_STAT] d (Dev.refreshOut d n) := by
  unfold Dev.refreshOut
  (try dsimp only)
  repeat' first
    | with_reducible exact Only.refl
    | with_reducible refine Only.outBit ?_ _ _ _ (by decide) (by decide)
    | with_reducible refine Only.onOut ?_ _ _ (by decide) (by decide)
    | split
    | dsimp only
theorem Only.refreshOut {PP : List Part} {RR : List Reg} {xx d : Dev} (hh : Only PP RR xx d) (n : Nat)
    (hP : ∀ p ∈ ([.outs] : List Part), p ∈ PP) (hR : ∀ r ∈ ([.OUT_STAT] : List Reg), r ∈ RR) :
    Only PP RR xx (Dev.refreshOut d n) := hh.andThen (only_refreshOut d n) hP hR
theorem only_dropOut (d : Dev) (n : Nat) : Only [.outs] [.OUT_STAT] d (Dev.dropOut d n) := by
  unfold Dev.dropOut
  (try dsimp only)
  repeat' first
    | with_reducible exact Only.refl
    | with_reducible refine Only.outBit ?_ _ _ _ (by decide) (by decide)
    | with_reducible refine Only.onOut ?_ _ _ (by decide) (by decide)
    | with_reducible refine Only.refreshOut ?_ _ (by decide) (by decide)
    | split
    | dsimp only
theorem Only.dropOut {PP : List Part} {RR : List Reg} {xx d : Dev} (hh : Only PP RR xx d) (n : Nat)
    (hP : ∀ p ∈ ([.outs] : List Part), p ∈ PP) (hR : ∀ r ∈ ([.OUT_STAT] : List Reg), r ∈ RR) :
    Only PP RR xx (Dev.dropOut d n) := hh.andThen (only_dropOut d n) hP hR
theorem only_beginOut (d : Dev) (n : Nat) : Only [.outs, .sent] [.OUT_STAT] d (Dev.beginOut d n) := by
  unfold Dev.beginOut
  (try dsimp only)
  repeat' first
    | with_reducible exact Only.refl
    | with_reducible refine Only.outBit ?_ _ _ _ (by decide) (by decide)
    | with_reducible refine Only.emitEdge ?_ _ _ (by decide) (by decide)
    | with_reducible refine Only.onOut ?_ _ _ (by decide) (by decide)
    | with_reducible refine Only.placeEdge ?_ _ _ _ (by decide) (by decide)
    | with_reducible refine Only.refreshOut ?_ _ (by decide) (by decide)
    | split
    | dsimp only
theorem Only.beginOut {PP : List Part} {RR : List Reg} {xx d : Dev} (hh : Only PP RR xx d) (n : Nat)
    (hP : ∀ p ∈ ([.outs, .sent] : List Part), p ∈ PP) (hR : ∀ r ∈ ([.OUT_STAT] : List Reg), r ∈ RR) :
    Only PP RR xx (Dev.beginOut d n) := hh.andThen (only_beginOut d n) hP hR
theorem only_redueFrame (d : Dev) (k : Nat) : Only [.outs] [] d (Dev.redueFrame d k) := by
  unfold Dev.redueFrame
  (try dsimp only)
  repeat' first
    | with_reducible exact Only.refl
    | with_reducible refine Only.onOut ?_ _ _ (by decide) (by decide)
    | with_reducible refine Only.when ?_ _ _ ?_
    | with_reducible refine Only.each ?_ _ _ (fun _ _ => ?_)
    | split
    | dsimp only
theorem Only.redueFrame {PP : List Part} {RR : List Reg} {xx d : Dev} (hh : Only PP RR xx d) (k : Nat)
    (hP : ∀ p ∈ ([.outs] : List Part), p ∈ PP) (hR : ∀ r ∈ ([] : List Reg), r ∈ RR) :
    Only PP RR xx (Dev.redueFrame d k) := hh.andThen (only_redueFrame d k) hP hR
theorem only_beginPair (d : Dev) (k : Nat) : Only [.outs, .sent] [.OUT_STAT] d (Dev.beginPair d k) := by
  unfold Dev.beginPair
  (try dsimp only)
  repeat' first
    | with_reducible exact Only.refl
    | with_reducible refine Only.beginOut ?_ _ (by decide) (by decide)
    | with_reducible refine Only.each ?_ _ _ (fun _ _ => ?_)
    | split
    | dsimp only
theorem Only.beginPair {PP : List Part} {RR : List Reg} {xx d : Dev} (hh : Only PP RR xx d) (k : Nat)
    (hP : ∀ p ∈ ([.outs, .sent] : List Part), p ∈ PP) (hR : ∀ r ∈ ([.OUT_STAT] : List Reg), r ∈ RR) :
    Only PP RR xx (Dev.beginPair d k) := hh.andThen (only_beginPair d k) hP hR
theorem only_unalign (d : Dev) (k : Nat) : Only [] [.OUT_STAT] d (Dev.unalign d k) := by
  unfold Dev.unalign
  (try dsimp only)
  repeat' first
    | with_reducible exact Only.refl
    | with_reducible refine Only.outBit ?_ _ _ _ (by decide) (by decide)
    | split
    | dsimp only
theorem Only.unalign {PP : List Part} {RR : List Reg} {xx d : Dev} (hh : Only PP RR xx d) (k : Nat)
    (hP : ∀ p ∈ ([] : List Part), p ∈ PP) (hR : ∀ r ∈ ([.OUT_STAT] : List Reg), r ∈ RR) :
    Only PP RR xx (Dev.unalign d k) := hh.andThen (only_unalign d k) hP hR
theorem only_moveOuts (d : Dev) (k : Nat) (x : Int) : Only [.outs] [] d (Dev.moveOuts d k x) := by
  unfold Dev.moveOuts
  (try dsimp only)
  repeat' first
    | with_reducible exact Only.refl
    | with_reducible refine Only.onOut ?_ _ _ (by decide) (by decide)
    | with_reducible refine Only.when ?_ _ _ ?_
    | with_reducible refine Only.each ?_ _ _ (fun _ _ => ?_)
    | split
    | dsimp only
theorem Only.moveOuts {PP : List Part} {RR : List Reg} {xx d : Dev} (hh : Only PP RR xx d) (k : Nat) (x : Int)
    (hP : ∀ p ∈ ([.outs] : List Part), p ∈ PP) (hR : ∀ r ∈ ([] : List Reg), r ∈ RR) :
    Only PP RR xx (Dev.moveOuts d k x) := hh.andThen (only_moveOuts d k x) hP hR
theorem only_endStep (d : Dev) (i result : Nat) : Only [.syns, .outs] [.SYN_CMD, .SYN_STAT] d (Dev.endStep d i result) := by
  unfold Dev.endStep
  (try dsimp only)
  repeat' first
    | with_reducible exact Only.refl
    | with_reducible refine Only.set ?_ _ _ _ (by decide)
    | with_reducible refine Only.synBit ?_ _ _ _ (by decide) (by decide)
    | with_reducible refine Only.moveOuts ?_ _ _ (by decide) (by decide)
    | with_reducible refine Only.onSyn ?_ _ _ (by decide) (by decide)
    | with_reducible refine Only.redueFrame ?_ _ (by decide) (by decide)
    | split
    | dsimp only
theorem Only.endStep {PP : List Part} {RR : List Reg} {xx d : Dev} (hh : Only PP RR xx d) (i result : Nat)
    (hP : ∀ p ∈ ([.syns, .outs] : List Part), p ∈ PP) (hR : ∀ r ∈ ([.SYN_CMD, .SYN_STAT] : List Reg), r ∈ RR) :
    Only PP RR xx (Dev.endStep d i result) := hh.andThen (only_endStep d i result) hP hR
theorem only_startStep (d : Dev) (i : Nat) (p : PhaseStep) : Only [.syns, .outs] [.OUT_STAT, .SYN_STAT] d (Dev.startStep d i p) := by
  unfold Dev.startStep
  (try dsimp only)
  repeat' first
    | with_reducible exact Only.refl
    | with_reducible refine Only.synBit ?_ _ _ _ (by decide) (by decide)
    | with_reducible refine Only.outBit ?_ _ _ _ (by decide) (by decide)
    | with_reducible refine Only.onSyn ?_ _ _ (by decide) (by decide)
    | with_reducible refine Only.redueFrame ?_ _ (by decide) (by decide)
    | with_reducible refine Only.when ?_ _ _ ?_
    | with_reducible refine Only.each ?_ _ _ (fun _ _ => ?_)
    | split
    | dsimp only
theorem Only.startStep {PP : List Part} {RR : List Reg} {xx d : Dev} (hh : Only PP RR xx d) (i : Nat) (p : PhaseStep)
    (hP : ∀ p ∈ ([.syns, .outs] : List Part), p ∈ PP) (hR : ∀ r ∈ ([.OUT_STAT, .SYN_STAT] : List Reg), r ∈ RR) :
    Only PP RR xx (Dev.startStep d i p) := hh.andThen (only_startStep d i p) hP hR
theorem only_squelch (d : Dev) (k : Nat) : Only [.outs] [.OUT_STAT] d (Dev.squelch d k) := by
  unfold Dev.squelch
  (try dsimp only)
  repeat' first
    | with_reducible exact Only.refl
    | with_reducible refine Only.outBit ?_ _ _ _ (by decide) (by decide)
    | with_reducible refine Only.dropOut ?_ _ (by decide) (by decide)
    | with_reducible refine Only.each ?_ _ _ (fun _ _ => ?_)
    | split
    | dsimp only
theorem Only.squelch {PP : List Part} {RR : List Reg} {xx d : Dev} (hh : Only PP RR xx d) (k : Nat)
    (hP : ∀ p ∈ ([.outs] : List Part), p ∈ PP) (hR : ∀ r ∈ ([.OUT_STAT] : List Reg), r ∈ RR) :
    Only PP RR xx (Dev.squelch d k) := hh.andThen (only_squelch d k) hP hR
theorem only_retime (d : Dev) (i w : Nat) : Only [.outs] [] d (Dev.retime d i w) := by
  unfold Dev.retime
  (try dsimp only)
  repeat' first
    | with_reducible exact Only.refl
    | with_reducible refine Only.placeEdge ?_ _ _ _ (by decide) (by decide)
    | with_reducible refine Only.when ?_ _ _ ?_
    | with_reducible refine Only.each ?_ _ _ (fun _ _ => ?_)
    | split
    | dsimp only
theorem Only.retime {PP : List Part} {RR : List Reg} {xx d : Dev} (hh : Only PP RR xx d) (i w : Nat)
    (hP : ∀ p ∈ ([.outs] : List Part), p ∈ PP) (hR : ∀ r ∈ ([] : List Reg), r ∈ RR) :
    Only PP RR xx (Dev.retime d i w) := hh.andThen (only_retime d i w) hP hR
theorem only_retuneTo (d : Dev) (i w : Nat) : Only [.syns, .outs] [] d (Dev.retuneTo d i w) := by
  unfold Dev.retuneTo
  (try dsimp only)
  repeat' first
    | with_reducible exact Only.refl
    | with_reducible refine Only.onSyn ?_ _ _ (by decide) (by decide)
    | with_reducible refine Only.redueFrame ?_ _ (by decide) (by decide)
    | with_reducible refine Only.retime ?_ _ _ (by decide) (by decide)
    | with_reducible refine Only.when ?_ _ _ ?_
    | split
    | dsimp only
theorem Only.retuneTo {PP : List Part} {RR : List Reg} {xx d : Dev} (hh : Only PP RR xx d) (i w : Nat)
    (hP : ∀ p ∈ ([.syns, .outs] : List Part), p ∈ PP) (hR : ∀ r ∈ ([] : List Reg), r ∈ RR) :
    Only PP RR xx (Dev.retuneTo d i w) := hh.andThen (only_retuneTo d i w) hP hR
theorem only_acquire (d : Dev) (i w : Nat) : Only [.syns, .outs, .counters, .latches, .ring, .log, .pcie, .sent] [.ALM_ACTIVE, .ALM_LATCH, .OUT_STAT, .SYN_CMD, .SYN_STAT] d (Dev.acquire d i w) := by
  unfold Dev.acquire
  (try dsimp only)
  repeat' first
    | with_reducible exact Only.refl
    | with_reducible refine Only.set ?_ _ _ _ (by decide)
    | with_reducible refine Only.synBit ?_ _ _ _ (by decide) (by decide)
    | with_reducible refine Only.raise ?_ _ (by decide)
    | with_reducible refine Only.countDev ?_ _ _ (by decide)
    | with_reducible refine Only.devEvent ?_ _ _ _ _ (by decide)
    | with_reducible refine Only.beginPair ?_ _ (by decide) (by decide)
    | with_reducible refine Only.endStep ?_ _ _ (by decide) (by decide)
    | with_reducible refine Only.onSyn ?_ _ _ (by decide) (by decide)
    | with_reducible refine Only.retime ?_ _ _ (by decide) (by decide)
    | with_reducible refine Only.squelch ?_ _ (by decide) (by decide)
    | split
    | dsimp only
theorem Only.acquire {PP : List Part} {RR : List Reg} {xx d : Dev} (hh : Only PP RR xx d) (i w : Nat)
    (hP : ∀ p ∈ ([.syns, .outs, .counters, .latches, .ring, .log, .pcie, .sent] : List Part), p ∈ PP) (hR : ∀ r ∈ ([.ALM_ACTIVE, .ALM_LATCH, .OUT_STAT, .SYN_CMD, .SYN_STAT] : List Reg), r ∈ RR) :
    Only PP RR xx (Dev.acquire d i w) := hh.andThen (only_acquire d i w) hP hR
theorem only_stopSyn (d : Dev) (i : Nat) : Only [.syns, .outs] [.OUT_STAT, .SYN_CMD, .SYN_STAT] d (Dev.stopSyn d i) := by
  unfold Dev.stopSyn
  (try dsimp only)
  repeat' first
    | with_reducible exact Only.refl
    | with_reducible refine Only.synBit ?_ _ _ _ (by decide) (by decide)
    | with_reducible refine Only.dropOut ?_ _ (by decide) (by decide)
    | with_reducible refine Only.endStep ?_ _ _ (by decide) (by decide)
    | with_reducible refine Only.onSyn ?_ _ _ (by decide) (by decide)
    | split
    | dsimp only
theorem Only.stopSyn {PP : List Part} {RR : List Reg} {xx d : Dev} (hh : Only PP RR xx d) (i : Nat)
    (hP : ∀ p ∈ ([.syns, .outs] : List Part), p ∈ PP) (hR : ∀ r ∈ ([.OUT_STAT, .SYN_CMD, .SYN_STAT] : List Reg), r ∈ RR) :
    Only PP RR xx (Dev.stopSyn d i) := hh.andThen (only_stopSyn d i) hP hR
theorem only_startInternal (d : Dev) (i : Nat) : Only [.syns, .outs, .counters, .latches, .ring, .log, .pcie, .sent] [.ALM_ACTIVE, .ALM_LATCH, .OUT_STAT, .SYN_CMD, .SYN_STAT] d (Dev.startInternal d i) := by
  unfold Dev.startInternal
  (try dsimp only)
  repeat' first
    | with_reducible exact Only.refl
    | with_reducible refine Only.acquire ?_ _ _ (by decide) (by decide)
    | split
    | dsimp only
theorem Only.startInternal {PP : List Part} {RR : List Reg} {xx d : Dev} (hh : Only PP RR xx d) (i : Nat)
    (hP : ∀ p ∈ ([.syns, .outs, .counters, .latches, .ring, .log, .pcie, .sent] : List Part), p ∈ PP) (hR : ∀ r ∈ ([.ALM_ACTIVE, .ALM_LATCH, .OUT_STAT, .SYN_CMD, .SYN_STAT] : List Reg), r ∈ RR) :
    Only PP RR xx (Dev.startInternal d i) := hh.andThen (only_startInternal d i) hP hR
theorem only_outsStepped (d : Dev) (x : Int) : Only [.syns, .outs] [.OUT_STAT] d (Dev.outsStepped d x) := by
  unfold Dev.outsStepped
  (try dsimp only)
  repeat' first
    | with_reducible exact Only.refl
    | with_reducible refine Only.outBit ?_ _ _ _ (by decide) (by decide)
    | with_reducible refine Only.onOut ?_ _ _ (by decide) (by decide)
    | with_reducible refine Only.onSyn ?_ _ _ (by decide) (by decide)
    | with_reducible refine Only.each ?_ _ _ (fun _ _ => ?_)
    | split
    | dsimp only
theorem Only.outsStepped {PP : List Part} {RR : List Reg} {xx d : Dev} (hh : Only PP RR xx d) (x : Int)
    (hP : ∀ p ∈ ([.syns, .outs] : List Part), p ∈ PP) (hR : ∀ r ∈ ([.OUT_STAT] : List Reg), r ∈ RR) :
    Only PP RR xx (Dev.outsStepped d x) := hh.andThen (only_outsStepped d x) hP hR
theorem only_freezeSyns (d : Dev) : Only [.syns] [.SYN_STAT] d (Dev.freezeSyns d) := by
  unfold Dev.freezeSyns
  (try dsimp only)
  repeat' first
    | with_reducible exact Only.refl
    | with_reducible refine Only.synBit ?_ _ _ _ (by decide) (by decide)
    | with_reducible refine Only.onSyn ?_ _ _ (by decide) (by decide)
    | with_reducible refine Only.each ?_ _ _ (fun _ _ => ?_)
    | split
    | dsimp only
theorem Only.freezeSyns {PP : List Part} {RR : List Reg} {xx d : Dev} (hh : Only PP RR xx d) 
    (hP : ∀ p ∈ ([.syns] : List Part), p ∈ PP) (hR : ∀ r ∈ ([.SYN_STAT] : List Reg), r ∈ RR) :
    Only PP RR xx (Dev.freezeSyns d) := hh.andThen (only_freezeSyns d) hP hR
theorem only_releaseSyns (d : Dev) : Only [.syns, .outs, .counters, .latches, .ring, .log, .pcie, .sent] [.ALM_ACTIVE, .ALM_LATCH, .OUT_STAT, .SYN_CMD, .SYN_STAT] d (Dev.releaseSyns d) := by
  unfold Dev.releaseSyns
  (try dsimp only)
  repeat' first
    | with_reducible exact Only.refl
    | with_reducible refine Only.synBit ?_ _ _ _ (by decide) (by decide)
    | with_reducible refine Only.acquire ?_ _ _ (by decide) (by decide)
    | with_reducible refine Only.onSyn ?_ _ _ (by decide) (by decide)
    | with_reducible refine Only.retuneTo ?_ _ _ (by decide) (by decide)
    | with_reducible refine Only.each ?_ _ _ (fun _ _ => ?_)
    | split
    | dsimp only
theorem Only.releaseSyns {PP : List Part} {RR : List Reg} {xx d : Dev} (hh : Only PP RR xx d) 
    (hP : ∀ p ∈ ([.syns, .outs, .counters, .latches, .ring, .log, .pcie, .sent] : List Part), p ∈ PP) (hR : ∀ r ∈ ([.ALM_ACTIVE, .ALM_LATCH, .OUT_STAT, .SYN_CMD, .SYN_STAT] : List Reg), r ∈ RR) :
    Only PP RR xx (Dev.releaseSyns d) := hh.andThen (only_releaseSyns d) hP hR
theorem only_synAlarm (d : Dev) : Only [.counters, .latches, .ring, .log, .pcie, .sent] [.ALM_ACTIVE, .ALM_LATCH] d (Dev.synAlarm d) := by
  unfold Dev.synAlarm
  (try dsimp only)
  repeat' first
    | with_reducible exact Only.refl
    | with_reducible refine Only.cond ?_ _ _ (by decide)
    | split
    | dsimp only
theorem Only.synAlarm {PP : List Part} {RR : List Reg} {xx d : Dev} (hh : Only PP RR xx d) 
    (hP : ∀ p ∈ ([.counters, .latches, .ring, .log, .pcie, .sent] : List Part), p ∈ PP) (hR : ∀ r ∈ ([.ALM_ACTIVE, .ALM_LATCH] : List Reg), r ∈ RR) :
    Only PP RR xx (Dev.synAlarm d) := hh.andThen (only_synAlarm d) hP hR
theorem only_synRefuse (d : Dev) (i r : Nat) : Only [.counters, .latches, .ring, .log, .pcie, .sent] [.ALM_ACTIVE, .ALM_LATCH, .SYN_CMD] d (Dev.synRefuse d i r) := by
  unfold Dev.synRefuse
  (try dsimp only)
  repeat' first
    | with_reducible exact Only.refl
    | with_reducible refine Only.set ?_ _ _ _ (by decide)
    | with_reducible refine Only.countDev ?_ _ _ (by decide)
    | split
    | dsimp only
theorem Only.synRefuse {PP : List Part} {RR : List Reg} {xx d : Dev} (hh : Only PP RR xx d) (i r : Nat)
    (hP : ∀ p ∈ ([.counters, .latches, .ring, .log, .pcie, .sent] : List Part), p ∈ PP) (hR : ∀ r ∈ ([.ALM_ACTIVE, .ALM_LATCH, .SYN_CMD] : List Reg), r ∈ RR) :
    Only PP RR xx (Dev.synRefuse d i r) := hh.andThen (only_synRefuse d i r) hP hR
theorem only_recode (d : Dev) (i : Nat) (old : Option Nat) : Only [.syns, .outs, .counters, .latches, .ring, .log, .pcie, .sent] [.ALM_ACTIVE, .ALM_LATCH, .OUT_STAT, .SYN_CMD, .SYN_STAT] d (Dev.recode d i old) := by
  unfold Dev.recode
  (try dsimp only)
  repeat' first
    | with_reducible exact Only.refl
    | with_reducible refine Only.acquire ?_ _ _ (by decide) (by decide)
    | split
    | dsimp only
theorem Only.recode {PP : List Part} {RR : List Reg} {xx d : Dev} (hh : Only PP RR xx d) (i : Nat) (old : Option Nat)
    (hP : ∀ p ∈ ([.syns, .outs, .counters, .latches, .ring, .log, .pcie, .sent] : List Part), p ∈ PP) (hR : ∀ r ∈ ([.ALM_ACTIVE, .ALM_LATCH, .OUT_STAT, .SYN_CMD, .SYN_STAT] : List Reg), r ∈ RR) :
    Only PP RR xx (Dev.recode d i old) := hh.andThen (only_recode d i old) hP hR
theorem only_synCfgWrite (d : Dev) (i : Nat) (v : Word) : Only [.syns, .outs, .counters, .latches, .ring, .log, .pcie, .sent] [.ALM_ACTIVE, .ALM_LATCH, .OUT_STAT, .SYN_CFG, .SYN_CMD, .SYN_STAT] d (Dev.synCfgWrite d i v) := by
  unfold Dev.synCfgWrite
  (try dsimp only)
  repeat' first
    | with_reducible exact Only.refl
    | with_reducible refine Only.set ?_ _ _ _ (by decide)
    | with_reducible refine Only.acquire ?_ _ _ (by decide) (by decide)
    | with_reducible refine Only.recode ?_ _ _ (by decide) (by decide)
    | split
    | dsimp only
theorem Only.synCfgWrite {PP : List Part} {RR : List Reg} {xx d : Dev} (hh : Only PP RR xx d) (i : Nat) (v : Word)
    (hP : ∀ p ∈ ([.syns, .outs, .counters, .latches, .ring, .log, .pcie, .sent] : List Part), p ∈ PP) (hR : ∀ r ∈ ([.ALM_ACTIVE, .ALM_LATCH, .OUT_STAT, .SYN_CFG, .SYN_CMD, .SYN_STAT] : List Reg), r ∈ RR) :
    Only PP RR xx (Dev.synCfgWrite d i v) := hh.andThen (only_synCfgWrite d i v) hP hR
theorem only_bandEntryWrite (d : Dev) (i bank e word : Nat) (v : Word) : Only [.syns, .outs, .counters, .latches, .ring, .log, .pcie, .sent] [.ALM_ACTIVE, .ALM_LATCH, .OUT_STAT, .SYN_BAND_W0, .SYN_BAND_W1, .SYN_CMD, .SYN_STAT] d (Dev.bandEntryWrite d i bank e word v) := by
  unfold Dev.bandEntryWrite
  (try dsimp only)
  repeat' first
    | with_reducible exact Only.refl
    | with_reducible refine Only.set ?_ _ _ _ (by decide)
    | with_reducible refine Only.recode ?_ _ _ (by decide) (by decide)
    | split
    | dsimp only
theorem Only.bandEntryWrite {PP : List Part} {RR : List Reg} {xx d : Dev} (hh : Only PP RR xx d) (i bank e word : Nat) (v : Word)
    (hP : ∀ p ∈ ([.syns, .outs, .counters, .latches, .ring, .log, .pcie, .sent] : List Part), p ∈ PP) (hR : ∀ r ∈ ([.ALM_ACTIVE, .ALM_LATCH, .OUT_STAT, .SYN_BAND_W0, .SYN_BAND_W1, .SYN_CMD, .SYN_STAT] : List Reg), r ∈ RR) :
    Only PP RR xx (Dev.bandEntryWrite d i bank e word v) := hh.andThen (only_bandEntryWrite d i bank e word v) hP hR
theorem only_synFreqHiWrite (d : Dev) (i : Nat) (v : Word) : Only [.syns, .outs, .counters, .latches, .ring, .log, .pcie, .sent] [.ALM_ACTIVE, .ALM_LATCH, .OUT_STAT, .SYN_CMD, .SYN_FREQ_HI, .SYN_FREQ_LO, .SYN_STAT] d (Dev.synFreqHiWrite d i v) := by
  unfold Dev.synFreqHiWrite
  (try dsimp only)
  repeat' first
    | with_reducible exact Only.refl
    | with_reducible refine Only.set ?_ _ _ _ (by decide)
    | with_reducible refine Only.setWord ?_ _ _ _ (by decide)
    | with_reducible refine Only.acquire ?_ _ _ (by decide) (by decide)
    | with_reducible refine Only.endStep ?_ _ _ (by decide) (by decide)
    | with_reducible refine Only.onSyn ?_ _ _ (by decide) (by decide)
    | with_reducible refine Only.retuneTo ?_ _ _ (by decide) (by decide)
    | with_reducible refine Only.unalign ?_ _ (by decide) (by decide)
    | split
    | dsimp only
theorem Only.synFreqHiWrite {PP : List Part} {RR : List Reg} {xx d : Dev} (hh : Only PP RR xx d) (i : Nat) (v : Word)
    (hP : ∀ p ∈ ([.syns, .outs, .counters, .latches, .ring, .log, .pcie, .sent] : List Part), p ∈ PP) (hR : ∀ r ∈ ([.ALM_ACTIVE, .ALM_LATCH, .OUT_STAT, .SYN_CMD, .SYN_FREQ_HI, .SYN_FREQ_LO, .SYN_STAT] : List Reg), r ∈ RR) :
    Only PP RR xx (Dev.synFreqHiWrite d i v) := hh.andThen (only_synFreqHiWrite d i v) hP hR
theorem only_retune (d : Dev) (i : Nat) : Only [.syns, .outs, .counters, .latches, .ring, .log, .pcie, .sent] [.ALM_ACTIVE, .ALM_LATCH, .OUT_STAT, .SYN_CMD, .SYN_STAT] d (Dev.retune d i) := by
  unfold Dev.retune
  (try dsimp only)
  repeat' first
    | with_reducible exact Only.refl
    | with_reducible refine Only.set ?_ _ _ _ (by decide)
    | with_reducible refine Only.acquire ?_ _ _ (by decide) (by decide)
    | split
    | dsimp only
theorem Only.retune {PP : List Part} {RR : List Reg} {xx d : Dev} (hh : Only PP RR xx d) (i : Nat)
    (hP : ∀ p ∈ ([.syns, .outs, .counters, .latches, .ring, .log, .pcie, .sent] : List Part), p ∈ PP) (hR : ∀ r ∈ ([.ALM_ACTIVE, .ALM_LATCH, .OUT_STAT, .SYN_CMD, .SYN_STAT] : List Reg), r ∈ RR) :
    Only PP RR xx (Dev.retune d i) := hh.andThen (only_retune d i) hP hR
theorem only_synStep (d : Dev) (i : Nat) : Only [.syns, .outs, .counters, .latches, .ring, .log, .pcie, .sent] [.ALM_ACTIVE, .ALM_LATCH, .OUT_STAT, .SYN_CMD, .SYN_STAT] d (Dev.synStep d i) := by
  unfold Dev.synStep
  (try dsimp only)
  repeat' first
    | with_reducible exact Only.refl
    | with_reducible refine Only.set ?_ _ _ _ (by decide)
    | with_reducible refine Only.startStep ?_ _ _ (by decide) (by decide)
    | with_reducible refine Only.synRefuse ?_ _ _ (by decide) (by decide)
    | split
    | dsimp only
theorem Only.synStep {PP : List Part} {RR : List Reg} {xx d : Dev} (hh : Only PP RR xx d) (i : Nat)
    (hP : ∀ p ∈ ([.syns, .outs, .counters, .latches, .ring, .log, .pcie, .sent] : List Part), p ∈ PP) (hR : ∀ r ∈ ([.ALM_ACTIVE, .ALM_LATCH, .OUT_STAT, .SYN_CMD, .SYN_STAT] : List Reg), r ∈ RR) :
    Only PP RR xx (Dev.synStep d i) := hh.andThen (only_synStep d i) hP hR
theorem only_synStepAt (d : Dev) (i : Nat) : Only [.syns, .counters, .latches, .ring, .log, .pcie, .sent] [.ALM_ACTIVE, .ALM_LATCH, .SYN_CMD, .SYN_STAT] d (Dev.synStepAt d i) := by
  unfold Dev.synStepAt
  (try dsimp only)
  repeat' first
    | with_reducible exact Only.refl
    | with_reducible refine Only.set ?_ _ _ _ (by decide)
    | with_reducible refine Only.synBit ?_ _ _ _ (by decide) (by decide)
    | with_reducible refine Only.onSyn ?_ _ _ (by decide) (by decide)
    | with_reducible refine Only.synRefuse ?_ _ _ (by decide) (by decide)
    | split
    | dsimp only
theorem Only.synStepAt {PP : List Part} {RR : List Reg} {xx d : Dev} (hh : Only PP RR xx d) (i : Nat)
    (hP : ∀ p ∈ ([.syns, .counters, .latches, .ring, .log, .pcie, .sent] : List Part), p ∈ PP) (hR : ∀ r ∈ ([.ALM_ACTIVE, .ALM_LATCH, .SYN_CMD, .SYN_STAT] : List Reg), r ∈ RR) :
    Only PP RR xx (Dev.synStepAt d i) := hh.andThen (only_synStepAt d i) hP hR
theorem only_synResync (d : Dev) (i : Nat) : Only [.syns, .outs, .counters, .latches, .ring, .log, .pcie, .sent] [.ALM_ACTIVE, .ALM_LATCH, .OUT_STAT, .SYN_CMD, .SYN_STAT] d (Dev.synResync d i) := by
  unfold Dev.synResync
  (try dsimp only)
  repeat' first
    | with_reducible exact Only.refl
    | with_reducible refine Only.set ?_ _ _ _ (by decide)
    | with_reducible refine Only.startStep ?_ _ _ (by decide) (by decide)
    | with_reducible refine Only.synRefuse ?_ _ _ (by decide) (by decide)
    | split
    | dsimp only
theorem Only.synResync {PP : List Part} {RR : List Reg} {xx d : Dev} (hh : Only PP RR xx d) (i : Nat)
    (hP : ∀ p ∈ ([.syns, .outs, .counters, .latches, .ring, .log, .pcie, .sent] : List Part), p ∈ PP) (hR : ∀ r ∈ ([.ALM_ACTIVE, .ALM_LATCH, .OUT_STAT, .SYN_CMD, .SYN_STAT] : List Reg), r ∈ RR) :
    Only PP RR xx (Dev.synResync d i) := hh.andThen (only_synResync d i) hP hR
theorem only_synCancel (d : Dev) (i : Nat) : Only [.syns, .outs] [.SYN_CMD, .SYN_STAT] d (Dev.synCancel d i) := by
  unfold Dev.synCancel
  (try dsimp only)
  repeat' first
    | with_reducible exact Only.refl
    | with_reducible refine Only.set ?_ _ _ _ (by decide)
    | with_reducible refine Only.endStep ?_ _ _ (by decide) (by decide)
    | split
    | dsimp only
theorem Only.synCancel {PP : List Part} {RR : List Reg} {xx d : Dev} (hh : Only PP RR xx d) (i : Nat)
    (hP : ∀ p ∈ ([.syns, .outs] : List Part), p ∈ PP) (hR : ∀ r ∈ ([.SYN_CMD, .SYN_STAT] : List Reg), r ∈ RR) :
    Only PP RR xx (Dev.synCancel d i) := hh.andThen (only_synCancel d i) hP hR
theorem only_stepAtStart (d : Dev) (i : Nat) : Only [.syns, .outs] [.OUT_STAT, .SYN_STAT] d (Dev.stepAtStart d i) := by
  unfold Dev.stepAtStart
  (try dsimp only)
  repeat' first
    | with_reducible exact Only.refl
    | with_reducible refine Only.startStep ?_ _ _ (by decide) (by decide)
    | split
    | dsimp only
theorem Only.stepAtStart {PP : List Part} {RR : List Reg} {xx d : Dev} (hh : Only PP RR xx d) (i : Nat)
    (hP : ∀ p ∈ ([.syns, .outs] : List Part), p ∈ PP) (hR : ∀ r ∈ ([.OUT_STAT, .SYN_STAT] : List Reg), r ∈ RR) :
    Only PP RR xx (Dev.stepAtStart d i) := hh.andThen (only_stepAtStart d i) hP hR
theorem only_stepComplete (d : Dev) (i : Nat) : Only [.syns, .outs] [.OUT_STAT, .SYN_STAT] d (Dev.stepComplete d i) := by
  unfold Dev.stepComplete
  (try dsimp only)
  repeat' first
    | with_reducible exact Only.refl
    | with_reducible refine Only.synBit ?_ _ _ _ (by decide) (by decide)
    | with_reducible refine Only.outBit ?_ _ _ _ (by decide) (by decide)
    | with_reducible refine Only.moveOuts ?_ _ _ (by decide) (by decide)
    | with_reducible refine Only.onSyn ?_ _ _ (by decide) (by decide)
    | with_reducible refine Only.redueFrame ?_ _ (by decide) (by decide)
    | with_reducible refine Only.when ?_ _ _ ?_
    | with_reducible refine Only.each ?_ _ _ (fun _ _ => ?_)
    | split
    | dsimp only
theorem Only.stepComplete {PP : List Part} {RR : List Reg} {xx d : Dev} (hh : Only PP RR xx d) (i : Nat)
    (hP : ∀ p ∈ ([.syns, .outs] : List Part), p ∈ PP) (hR : ∀ r ∈ ([.OUT_STAT, .SYN_STAT] : List Reg), r ∈ RR) :
    Only PP RR xx (Dev.stepComplete d i) := hh.andThen (only_stepComplete d i) hP hR
theorem only_synAcqTimeout (d : Dev) (i : Nat) : Only [.syns, .outs, .counters, .latches, .ring, .log, .pcie, .sent] [.ALM_ACTIVE, .ALM_LATCH, .OUT_STAT, .SYN_CMD, .SYN_STAT] d (Dev.synAcqTimeout d i) := by
  unfold Dev.synAcqTimeout
  (try dsimp only)
  repeat' first
    | with_reducible exact Only.refl
    | with_reducible refine Only.synBit ?_ _ _ _ (by decide) (by decide)
    | with_reducible refine Only.raise ?_ _ (by decide)
    | with_reducible refine Only.devEvent ?_ _ _ _ _ (by decide)
    | with_reducible refine Only.stopSyn ?_ _ (by decide) (by decide)
    | split
    | dsimp only
theorem Only.synAcqTimeout {PP : List Part} {RR : List Reg} {xx d : Dev} (hh : Only PP RR xx d) (i : Nat)
    (hP : ∀ p ∈ ([.syns, .outs, .counters, .latches, .ring, .log, .pcie, .sent] : List Part), p ∈ PP) (hR : ∀ r ∈ ([.ALM_ACTIVE, .ALM_LATCH, .OUT_STAT, .SYN_CMD, .SYN_STAT] : List Reg), r ∈ RR) :
    Only PP RR xx (Dev.synAcqTimeout d i) := hh.andThen (only_synAcqTimeout d i) hP hR
theorem only_redivide (d : Dev) (n div : Nat) : Only [.outs] [.OUT_CFG] d (Dev.redivide d n div) := by
  unfold Dev.redivide
  repeat' first
    | with_reducible exact Only.refl
    | with_reducible assumption
    | with_reducible refine Only.set ?_ _ _ _ (by decide)
    | with_reducible refine Only.placeEdge ?_ _ _ _ (by decide) (by decide)
    | with_reducible refine Only.redueFrame ?_ _ (by decide) (by decide)
    | with_reducible refine Only.when ?_ _ _ ?_
    | split
    | with_reducible refine Only.letIn ?_ (fun _ _ => ?_)
    | with_reducible refine Only.letVal (fun _ => ?_)
theorem Only.redivide {PP : List Part} {RR : List Reg} {xx d : Dev} (hh : Only PP RR xx d) (n div : Nat)
    (hP : ∀ p ∈ ([.outs] : List Part), p ∈ PP) (hR : ∀ r ∈ ([.OUT_CFG] : List Reg), r ∈ RR) :
    Only PP RR xx (Dev.redivide d n div) := hh.andThen (only_redivide d n div) hP hR
theorem only_outCfgWrite (d : Dev) (n : Nat) (v : Word) : Only [.syns, .outs, .counters, .latches, .ring, .log, .pcie, .sent] [.ALM_ACTIVE, .ALM_LATCH, .OUT_CFG, .OUT_STAT, .SYN_CMD, .SYN_STAT] d (Dev.outCfgWrite d n v) := by
  unfold Dev.outCfgWrite
  repeat' first
    | with_reducible exact Only.refl
    | with_reducible assumption
    | with_reducible refine Only.set ?_ _ _ _ (by decide)
    | with_reducible refine Only.setWord ?_ _ _ _ (by decide)
    | with_reducible refine Only.outBit ?_ _ _ _ (by decide) (by decide)
    | with_reducible refine Only.acquire ?_ _ _ (by decide) (by decide)
    | with_reducible refine Only.beginPair ?_ _ (by decide) (by decide)
    | with_reducible refine Only.dropOut ?_ _ (by decide) (by decide)
    | with_reducible refine Only.redivide ?_ _ _ (by decide) (by decide)
    | with_reducible refine Only.refreshOut ?_ _ (by decide) (by decide)
    | with_reducible refine Only.stopSyn ?_ _ (by decide) (by decide)
    | split
    | with_reducible refine Only.letIn ?_ (fun _ _ => ?_)
    | with_reducible refine Only.letVal (fun _ => ?_)
theorem Only.outCfgWrite {PP : List Part} {RR : List Reg} {xx d : Dev} (hh : Only PP RR xx d) (n : Nat) (v : Word)
    (hP : ∀ p ∈ ([.syns, .outs, .counters, .latches, .ring, .log, .pcie, .sent] : List Part), p ∈ PP) (hR : ∀ r ∈ ([.ALM_ACTIVE, .ALM_LATCH, .OUT_CFG, .OUT_STAT, .SYN_CMD, .SYN_STAT] : List Reg), r ∈ RR) :
    Only PP RR xx (Dev.outCfgWrite d n v) := hh.andThen (only_outCfgWrite d n v) hP hR
theorem only_keepPulse (d : Dev) (n : Nat) : Only [.outs] [] d (Dev.keepPulse d n) := by
  unfold Dev.keepPulse
  (try dsimp only)
  repeat' first
    | with_reducible exact Only.refl
    | with_reducible refine Only.onOut ?_ _ _ (by decide) (by decide)
    | split
    | dsimp only
theorem Only.keepPulse {PP : List Part} {RR : List Reg} {xx d : Dev} (hh : Only PP RR xx d) (n : Nat)
    (hP : ∀ p ∈ ([.outs] : List Part), p ∈ PP) (hR : ∀ r ∈ ([] : List Reg), r ∈ RR) :
    Only PP RR xx (Dev.keepPulse d n) := hh.andThen (only_keepPulse d n) hP hR
theorem only_outWidthWrite (d : Dev) (n : Nat) (v : Word) : Only [.outs] [.OUT_WIDTH] d (Dev.outWidthWrite d n v) := by
  unfold Dev.outWidthWrite
  (try dsimp only)
  repeat' first
    | with_reducible exact Only.refl
    | with_reducible refine Only.setWord ?_ _ _ _ (by decide)
    | with_reducible refine Only.keepPulse ?_ _ (by decide) (by decide)
    | split
    | dsimp only
theorem Only.outWidthWrite {PP : List Part} {RR : List Reg} {xx d : Dev} (hh : Only PP RR xx d) (n : Nat) (v : Word)
    (hP : ∀ p ∈ ([.outs] : List Part), p ∈ PP) (hR : ∀ r ∈ ([.OUT_WIDTH] : List Reg), r ∈ RR) :
    Only PP RR xx (Dev.outWidthWrite d n v) := hh.andThen (only_outWidthWrite d n v) hP hR
theorem only_outPerHiWrite (d : Dev) (n : Nat) (v : Word) : Only [.outs] [.OUT_PER_HI, .OUT_PER_LO, .OUT_STAT] d (Dev.outPerHiWrite d n v) := by
  unfold Dev.outPerHiWrite
  repeat' first
    | with_reducible exact Only.refl
    | with_reducible assumption
    | with_reducible refine Only.set ?_ _ _ _ (by decide)
    | with_reducible refine Only.outBit ?_ _ _ _ (by decide) (by decide)
    | with_reducible refine Only.keepPulse ?_ _ (by decide) (by decide)
    | with_reducible refine Only.onOut ?_ _ _ (by decide) (by decide)
    | with_reducible refine Only.placeEdge ?_ _ _ _ (by decide) (by decide)
    | with_reducible refine Only.when ?_ _ _ ?_
    | split
    | with_reducible refine Only.letIn ?_ (fun _ _ => ?_)
    | with_reducible refine Only.letVal (fun _ => ?_)
theorem Only.outPerHiWrite {PP : List Part} {RR : List Reg} {xx d : Dev} (hh : Only PP RR xx d) (n : Nat) (v : Word)
    (hP : ∀ p ∈ ([.outs] : List Part), p ∈ PP) (hR : ∀ r ∈ ([.OUT_PER_HI, .OUT_PER_LO, .OUT_STAT] : List Reg), r ∈ RR) :
    Only PP RR xx (Dev.outPerHiWrite d n v) := hh.andThen (only_outPerHiWrite d n v) hP hR
theorem only_outAlignWrite (d : Dev) (n : Nat) (v : Word) : Only [] [.OUT_ALIGN, .OUT_STAT] d (Dev.outAlignWrite d n v) := by
  unfold Dev.outAlignWrite
  (try dsimp only)
  repeat' first
    | with_reducible exact Only.refl
    | with_reducible refine Only.set ?_ _ _ _ (by decide)
    | with_reducible refine Only.outBit ?_ _ _ _ (by decide) (by decide)
    | with_reducible refine Only.when ?_ _ _ ?_
    | split
    | dsimp only
theorem Only.outAlignWrite {PP : List Part} {RR : List Reg} {xx d : Dev} (hh : Only PP RR xx d) (n : Nat) (v : Word)
    (hP : ∀ p ∈ ([] : List Part), p ∈ PP) (hR : ∀ r ∈ ([.OUT_ALIGN, .OUT_STAT] : List Reg), r ∈ RR) :
    Only PP RR xx (Dev.outAlignWrite d n v) := hh.andThen (only_outAlignWrite d n v) hP hR
theorem only_outputStart (d : Dev) (n : Nat) : Only [.outs, .sent] [.OUT_STAT] d (Dev.outputStart d n) := by
  unfold Dev.outputStart
  (try dsimp only)
  repeat' first
    | with_reducible exact Only.refl
    | with_reducible refine Only.outBit ?_ _ _ _ (by decide) (by decide)
    | with_reducible refine Only.emitEdge ?_ _ _ (by decide) (by decide)
    | with_reducible refine Only.onOut ?_ _ _ (by decide) (by decide)
    | with_reducible refine Only.placeEdge ?_ _ _ _ (by decide) (by decide)
    | with_reducible refine Only.refreshOut ?_ _ (by decide) (by decide)
    | split
    | dsimp only
theorem Only.outputStart {PP : List Part} {RR : List Reg} {xx d : Dev} (hh : Only PP RR xx d) (n : Nat)
    (hP : ∀ p ∈ ([.outs, .sent] : List Part), p ∈ PP) (hR : ∀ r ∈ ([.OUT_STAT] : List Reg), r ∈ RR) :
    Only PP RR xx (Dev.outputStart d n) := hh.andThen (only_outputStart d n) hP hR
theorem only_placeAligned (d : Dev) (n : Nat) (t : Int) : Only [.outs] [.OUT_STAT] d (Dev.placeAligned d n t) := by
  unfold Dev.placeAligned
  (try dsimp only)
  repeat' first
    | with_reducible exact Only.refl
    | with_reducible refine Only.outBit ?_ _ _ _ (by decide) (by decide)
    | with_reducible refine Only.onOut ?_ _ _ (by decide) (by decide)
    | split
    | dsimp only
theorem Only.placeAligned {PP : List Part} {RR : List Reg} {xx d : Dev} (hh : Only PP RR xx d) (n : Nat) (t : Int)
    (hP : ∀ p ∈ ([.outs] : List Part), p ∈ PP) (hR : ∀ r ∈ ([.OUT_STAT] : List Reg), r ∈ RR) :
    Only PP RR xx (Dev.placeAligned d n t) := hh.andThen (only_placeAligned d n t) hP hR
theorem only_outAlign (d : Dev) (n : Nat) : Only [.outs] [.OUT_CMD, .OUT_STAT] d (Dev.outAlign d n) := by
  unfold Dev.outAlign
  (try dsimp only)
  repeat' first
    | with_reducible exact Only.refl
    | with_reducible refine Only.set ?_ _ _ _ (by decide)
    | with_reducible refine Only.placeAligned ?_ _ _ (by decide) (by decide)
    | split
    | dsimp only
theorem Only.outAlign {PP : List Part} {RR : List Reg} {xx d : Dev} (hh : Only PP RR xx d) (n : Nat)
    (hP : ∀ p ∈ ([.outs] : List Part), p ∈ PP) (hR : ∀ r ∈ ([.OUT_CMD, .OUT_STAT] : List Reg), r ∈ RR) :
    Only PP RR xx (Dev.outAlign d n) := hh.andThen (only_outAlign d n) hP hR
theorem only_outArm (d : Dev) (n : Nat) : Only [] [.OUT_CMD, .OUT_STAT] d (Dev.outArm d n) := by
  unfold Dev.outArm
  (try dsimp only)
  repeat' first
    | with_reducible exact Only.refl
    | with_reducible refine Only.set ?_ _ _ _ (by decide)
    | with_reducible refine Only.outBit ?_ _ _ _ (by decide) (by decide)
    | split
    | dsimp only
theorem Only.outArm {PP : List Part} {RR : List Reg} {xx d : Dev} (hh : Only PP RR xx d) (n : Nat)
    (hP : ∀ p ∈ ([] : List Part), p ∈ PP) (hR : ∀ r ∈ ([.OUT_CMD, .OUT_STAT] : List Reg), r ∈ RR) :
    Only PP RR xx (Dev.outArm d n) := hh.andThen (only_outArm d n) hP hR
theorem only_outDisarm (d : Dev) (n : Nat) : Only [] [.OUT_CMD, .OUT_STAT] d (Dev.outDisarm d n) := by
  unfold Dev.outDisarm
  (try dsimp only)
  repeat' first
    | with_reducible exact Only.refl
    | with_reducible refine Only.set ?_ _ _ _ (by decide)
    | with_reducible refine Only.outBit ?_ _ _ _ (by decide) (by decide)
    | split
    | dsimp only
theorem Only.outDisarm {PP : List Part} {RR : List Reg} {xx d : Dev} (hh : Only PP RR xx d) (n : Nat)
    (hP : ∀ p ∈ ([] : List Part), p ∈ PP) (hR : ∀ r ∈ ([.OUT_CMD, .OUT_STAT] : List Reg), r ∈ RR) :
    Only PP RR xx (Dev.outDisarm d n) := hh.andThen (only_outDisarm d n) hP hR
theorem only_alignToEdge (d : Dev) (ch : Nat) (t : Ticks) : Only [.outs] [.OUT_STAT] d (Dev.alignToEdge d ch t) := by
  unfold Dev.alignToEdge
  (try dsimp only)
  repeat' first
    | with_reducible exact Only.refl
    | with_reducible refine Only.outBit ?_ _ _ _ (by decide) (by decide)
    | with_reducible refine Only.placeAligned ?_ _ _ (by decide) (by decide)
    | with_reducible refine Only.each ?_ _ _ (fun _ _ => ?_)
    | split
    | dsimp only
theorem Only.alignToEdge {PP : List Part} {RR : List Reg} {xx d : Dev} (hh : Only PP RR xx d) (ch : Nat) (t : Ticks)
    (hP : ∀ p ∈ ([.outs] : List Part), p ∈ PP) (hR : ∀ r ∈ ([.OUT_STAT] : List Reg), r ∈ RR) :
    Only PP RR xx (Dev.alignToEdge d ch t) := hh.andThen (only_alignToEdge d ch t) hP hR
theorem only_alignedEdge (d : Dev) (n : Nat) : Only [.outs, .sent] [.OUT_STAT] d (Dev.alignedEdge d n) := by
  unfold Dev.alignedEdge
  (try dsimp only)
  repeat' first
    | with_reducible exact Only.refl
    | with_reducible refine Only.outBit ?_ _ _ _ (by decide) (by decide)
    | with_reducible refine Only.emitEdge ?_ _ _ (by decide) (by decide)
    | with_reducible refine Only.onOut ?_ _ _ (by decide) (by decide)
    | with_reducible refine Only.placeEdge ?_ _ _ _ (by decide) (by decide)
    | with_reducible refine Only.refreshOut ?_ _ (by decide) (by decide)
    | split
    | dsimp only
theorem Only.alignedEdge {PP : List Part} {RR : List Reg} {xx d : Dev} (hh : Only PP RR xx d) (n : Nat)
    (hP : ∀ p ∈ ([.outs, .sent] : List Part), p ∈ PP) (hR : ∀ r ∈ ([.OUT_STAT] : List Reg), r ∈ RR) :
    Only PP RR xx (Dev.alignedEdge d n) := hh.andThen (only_alignedEdge d n) hP hR
theorem only_stopAllSyns (d : Dev) : Only [.syns, .outs] [.OUT_STAT, .SYN_CMD, .SYN_STAT] d (Dev.stopAllSyns d) := by
  unfold Dev.stopAllSyns
  (try dsimp only)
  repeat' first
    | with_reducible exact Only.refl
    | with_reducible refine Only.synBit ?_ _ _ _ (by decide) (by decide)
    | with_reducible refine Only.stopSyn ?_ _ (by decide) (by decide)
    | with_reducible refine Only.each ?_ _ _ (fun _ _ => ?_)
    | split
    | dsimp only
theorem Only.stopAllSyns {PP : List Part} {RR : List Reg} {xx d : Dev} (hh : Only PP RR xx d) 
    (hP : ∀ p ∈ ([.syns, .outs] : List Part), p ∈ PP) (hR : ∀ r ∈ ([.OUT_STAT, .SYN_CMD, .SYN_STAT] : List Reg), r ∈ RR) :
    Only PP RR xx (Dev.stopAllSyns d) := hh.andThen (only_stopAllSyns d) hP hR

/-! ## Mail -/

theorem only_tellPosted (d : Dev) (src dst : Nat) : Only [.counters, .latches, .ring, .log, .pcie, .sent] [.ALM_ACTIVE, .ALM_LATCH] d (Dev.tellPosted d src dst) := by
  unfold Dev.tellPosted
  (try dsimp only)
  repeat' first
    | with_reducible exact Only.refl
    | with_reducible refine Only.emit ?_ _ (by decide)
    | with_reducible refine Only.msix ?_ _ (by decide)
    | with_reducible refine Only.when ?_ _ _ ?_
    | split
    | dsimp only
theorem Only.tellPosted {PP : List Part} {RR : List Reg} {xx d : Dev} (hh : Only PP RR xx d) (src dst : Nat)
    (hP : ∀ p ∈ ([.counters, .latches, .ring, .log, .pcie, .sent] : List Part), p ∈ PP) (hR : ∀ r ∈ ([.ALM_ACTIVE, .ALM_LATCH] : List Reg), r ∈ RR) :
    Only PP RR xx (Dev.tellPosted d src dst) := hh.andThen (only_tellPosted d src dst) hP hR
theorem only_tellAcked (d : Dev) (src dst : Nat) : Only [.counters, .latches, .ring, .log, .pcie, .sent] [.ALM_ACTIVE, .ALM_LATCH] d (Dev.tellAcked d src dst) := by
  unfold Dev.tellAcked
  (try dsimp only)
  repeat' first
    | with_reducible exact Only.refl
    | with_reducible refine Only.emit ?_ _ (by decide)
    | with_reducible refine Only.msix ?_ _ (by decide)
    | with_reducible refine Only.when ?_ _ _ ?_
    | split
    | dsimp only
theorem Only.tellAcked {PP : List Part} {RR : List Reg} {xx d : Dev} (hh : Only PP RR xx d) (src dst : Nat)
    (hP : ∀ p ∈ ([.counters, .latches, .ring, .log, .pcie, .sent] : List Part), p ∈ PP) (hR : ∀ r ∈ ([.ALM_ACTIVE, .ALM_LATCH] : List Reg), r ∈ RR) :
    Only PP RR xx (Dev.tellAcked d src dst) := hh.andThen (only_tellAcked d src dst) hP hR
theorem only_wakeCores (d : Dev) : Only [.sys] [.PWR_STAT] d (Dev.wakeCores d) := by
  unfold Dev.wakeCores
  (try dsimp only)
  repeat' first
    | with_reducible exact Only.refl
    | with_reducible refine Only.set ?_ _ _ _ (by decide)
    | with_reducible refine Only.onSys ?_ _ (by decide)
    | split
    | dsimp only
theorem Only.wakeCores {PP : List Part} {RR : List Reg} {xx d : Dev} (hh : Only PP RR xx d) 
    (hP : ∀ p ∈ ([.sys] : List Part), p ∈ PP) (hR : ∀ r ∈ ([.PWR_STAT] : List Reg), r ∈ RR) :
    Only PP RR xx (Dev.wakeCores d) := hh.andThen (only_wakeCores d) hP hR
theorem only_postMsg (d : Dev) (src dst : Nat) (msg : List Byte) : Only [.chans, .counters, .latches, .ring, .log, .pcie, .sys, .sent] [.ALM_ACTIVE, .ALM_LATCH, .PWR_STAT] d (Dev.postMsg d src dst msg) := by
  unfold Dev.postMsg
  (try dsimp only)
  repeat' first
    | with_reducible exact Only.refl
    | with_reducible refine Only.onChan ?_ _ _ _ (by decide)
    | with_reducible refine Only.countDev ?_ _ _ (by decide)
    | with_reducible refine Only.devEvent ?_ _ _ _ _ (by decide)
    | with_reducible refine Only.tellPosted ?_ _ _ (by decide) (by decide)
    | with_reducible refine Only.wakeCores ?_ (by decide) (by decide)
    | with_reducible refine Only.when ?_ _ _ ?_
    | split
    | dsimp only
theorem Only.postMsg {PP : List Part} {RR : List Reg} {xx d : Dev} (hh : Only PP RR xx d) (src dst : Nat) (msg : List Byte)
    (hP : ∀ p ∈ ([.chans, .counters, .latches, .ring, .log, .pcie, .sys, .sent] : List Part), p ∈ PP) (hR : ∀ r ∈ ([.ALM_ACTIVE, .ALM_LATCH, .PWR_STAT] : List Reg), r ∈ RR) :
    Only PP RR xx (Dev.postMsg d src dst msg) := hh.andThen (only_postMsg d src dst msg) hP hR
theorem only_redeliver (d : Dev) (src dst : Nat) : Only [.chans, .counters, .latches, .ring, .log, .pcie, .sent] [.ALM_ACTIVE, .ALM_LATCH] d (Dev.redeliver d src dst) := by
  unfold Dev.redeliver
  (try dsimp only)
  repeat' first
    | with_reducible exact Only.refl
    | with_reducible refine Only.onChan ?_ _ _ _ (by decide)
    | with_reducible refine Only.countDev ?_ _ _ (by decide)
    | with_reducible refine Only.tellPosted ?_ _ _ (by decide) (by decide)
    | split
    | dsimp only
theorem Only.redeliver {PP : List Part} {RR : List Reg} {xx d : Dev} (hh : Only PP RR xx d) (src dst : Nat)
    (hP : ∀ p ∈ ([.chans, .counters, .latches, .ring, .log, .pcie, .sent] : List Part), p ∈ PP) (hR : ∀ r ∈ ([.ALM_ACTIVE, .ALM_LATCH] : List Reg), r ∈ RR) :
    Only PP RR xx (Dev.redeliver d src dst) := hh.andThen (only_redeliver d src dst) hP hR
theorem only_restartParty (d : Dev) (dst : Nat) : Only [.chans, .counters, .latches, .ring, .log, .pcie, .sent] [.ALM_ACTIVE, .ALM_LATCH] d (Dev.restartParty d dst) := by
  unfold Dev.restartParty
  (try dsimp only)
  repeat' first
    | with_reducible exact Only.refl
    | with_reducible refine Only.redeliver ?_ _ _ (by decide) (by decide)
    | with_reducible refine Only.each ?_ _ _ (fun _ _ => ?_)
    | split
    | dsimp only
theorem Only.restartParty {PP : List Part} {RR : List Reg} {xx d : Dev} (hh : Only PP RR xx d) (dst : Nat)
    (hP : ∀ p ∈ ([.chans, .counters, .latches, .ring, .log, .pcie, .sent] : List Part), p ∈ PP) (hR : ∀ r ∈ ([.ALM_ACTIVE, .ALM_LATCH] : List Reg), r ∈ RR) :
    Only PP RR xx (Dev.restartParty d dst) := hh.andThen (only_restartParty d dst) hP hR
theorem only_sendNotice (d : Dev) : Only [.chans, .cpMail, .counters, .latches, .ring, .log, .pcie, .sys, .sent, .freeCtr] [.ALM_ACTIVE, .ALM_LATCH, .PWR_STAT] d (Dev.sendNotice d) := by
  unfold Dev.sendNotice
  (try dsimp only)
  repeat' first
    | with_reducible exact Only.refl
    | with_reducible refine Only.spendFree ?_ (by decide)
    | with_reducible refine Only.postMsg ?_ _ _ _ (by decide) (by decide)
    | split
    | dsimp only
  all_goals first
    | with_reducible refine Only.upd_cpMail ?_ _ (by decide)
    | skip
  all_goals (repeat' first
      | with_reducible exact Only.refl
      | with_reducible refine Only.spendFree ?_ (by decide)
      | with_reducible refine Only.postMsg ?_ _ _ _ (by decide) (by decide)
      | split
      | dsimp only)
  all_goals first
    | with_reducible refine Only.upd_cpMail ?_ _ (by decide)
    | skip
  all_goals (repeat' first
      | with_reducible exact Only.refl
      | with_reducible refine Only.spendFree ?_ (by decide)
      | with_reducible refine Only.postMsg ?_ _ _ _ (by decide) (by decide)
      | split
      | dsimp only)
theorem Only.sendNotice {PP : List Part} {RR : List Reg} {xx d : Dev} (hh : Only PP RR xx d) 
    (hP : ∀ p ∈ ([.chans, .cpMail, .counters, .latches, .ring, .log, .pcie, .sys, .sent, .freeCtr] : List Part), p ∈ PP) (hR : ∀ r ∈ ([.ALM_ACTIVE, .ALM_LATCH, .PWR_STAT] : List Reg), r ∈ RR) :
    Only PP RR xx (Dev.sendNotice d) := hh.andThen (only_sendNotice d) hP hR
theorem only_notice (d : Dev) (n : Notice) : Only [.chans, .cpMail, .counters, .latches, .ring, .log, .pcie, .sys, .sent, .freeCtr] [.ALM_ACTIVE, .ALM_LATCH, .PWR_STAT] d (Dev.notice d n) := by
  unfold Dev.notice
  (try dsimp only)
  repeat' first
    | with_reducible exact Only.refl
    | with_reducible refine Only.countDev ?_ _ _ (by decide)
    | with_reducible refine Only.sendNotice ?_ (by decide) (by decide)
    | split
    | dsimp only
  all_goals first
    | with_reducible refine Only.upd_cpMail ?_ _ (by decide)
    | skip
  all_goals (repeat' first
      | with_reducible exact Only.refl
      | with_reducible refine Only.countDev ?_ _ _ (by decide)
      | with_reducible refine Only.sendNotice ?_ (by decide) (by decide)
      | split
      | dsimp only)
  all_goals first
    | with_reducible refine Only.upd_cpMail ?_ _ (by decide)
    | skip
  all_goals (repeat' first
      | with_reducible exact Only.refl
      | with_reducible refine Only.countDev ?_ _ _ (by decide)
      | with_reducible refine Only.sendNotice ?_ (by decide) (by decide)
      | split
      | dsimp only)
theorem Only.notice {PP : List Part} {RR : List Reg} {xx d : Dev} (hh : Only PP RR xx d) (n : Notice)
    (hP : ∀ p ∈ ([.chans, .cpMail, .counters, .latches, .ring, .log, .pcie, .sys, .sent, .freeCtr] : List Part), p ∈ PP) (hR : ∀ r ∈ ([.ALM_ACTIVE, .ALM_LATCH, .PWR_STAT] : List Reg), r ∈ RR) :
    Only PP RR xx (Dev.notice d n) := hh.andThen (only_notice d n) hP hR
theorem only_mbxResult (d : Dev) (src dst party r : Nat) : Only [.chans] [] d (Dev.mbxResult d src dst party r) := by
  unfold Dev.mbxResult
  (try dsimp only)
  repeat' first
    | with_reducible exact Only.refl
    | with_reducible refine Only.onChan ?_ _ _ _ (by decide)
    | with_reducible refine Only.when ?_ _ _ ?_
    | split
    | dsimp only
theorem Only.mbxResult {PP : List Part} {RR : List Reg} {xx d : Dev} (hh : Only PP RR xx d) (src dst party r : Nat)
    (hP : ∀ p ∈ ([.chans] : List Part), p ∈ PP) (hR : ∀ r ∈ ([] : List Reg), r ∈ RR) :
    Only PP RR xx (Dev.mbxResult d src dst party r) := hh.andThen (only_mbxResult d src dst party r) hP hR
theorem only_mbxPost (d : Dev) (src dst : Nat) (msg : List Byte) : Only [.chans, .counters, .latches, .ring, .log, .pcie, .sys, .sent] [.ALM_ACTIVE, .ALM_LATCH, .PWR_STAT] d (Dev.mbxPost d src dst msg) := by
  unfold Dev.mbxPost
  (try dsimp only)
  repeat' first
    | with_reducible exact Only.refl
    | with_reducible refine Only.mbxResult ?_ _ _ _ _ (by decide) (by decide)
    | with_reducible refine Only.postMsg ?_ _ _ _ (by decide) (by decide)
    | split
    | dsimp only
theorem Only.mbxPost {PP : List Part} {RR : List Reg} {xx d : Dev} (hh : Only PP RR xx d) (src dst : Nat) (msg : List Byte)
    (hP : ∀ p ∈ ([.chans, .counters, .latches, .ring, .log, .pcie, .sys, .sent] : List Part), p ∈ PP) (hR : ∀ r ∈ ([.ALM_ACTIVE, .ALM_LATCH, .PWR_STAT] : List Reg), r ∈ RR) :
    Only PP RR xx (Dev.mbxPost d src dst msg) := hh.andThen (only_mbxPost d src dst msg) hP hR
theorem only_mbxMove (d : Dev) (src dst party need : Nat) (f : Dev → Dev) {P : List Part} {R : List Reg} (hc : .chans ∈ P)
    (hf : Only P R d (f d)) : Only P R d (Dev.mbxMove d src dst party need f) := by
  have k : ∀ e : Dev, Only P R d e → ∀ r, Only P R d (e.mbxResult src dst party r) := fun e h r =>
    h.when _ _ (Only.onChan .refl _ _ _ hc)
  unfold Dev.mbxMove
  split
  · exact .refl
  · split
    · exact k _ .refl _
    · exact k _ hf _
theorem only_mbxWithdraw (d : Dev) (src dst : Nat) : Only [.chans, .counters, .latches, .ring, .log, .pcie, .sent] [.ALM_ACTIVE, .ALM_LATCH] d (Dev.mbxWithdraw d src dst) :=
  only_mbxMove _ _ _ _ _ _ (by decide) (Only.countDev (Only.onChan .refl _ _ _ (by decide)) _ _ (by decide))
theorem Only.mbxWithdraw {PP : List Part} {RR : List Reg} {xx d : Dev} (hh : Only PP RR xx d) (src dst : Nat)
    (hP : ∀ p ∈ ([.chans, .counters, .latches, .ring, .log, .pcie, .sent] : List Part), p ∈ PP) (hR : ∀ r ∈ ([.ALM_ACTIVE, .ALM_LATCH] : List Reg), r ∈ RR) :
    Only PP RR xx (Dev.mbxWithdraw d src dst) := hh.andThen (only_mbxWithdraw d src dst) hP hR
theorem only_mbxTake (d : Dev) (src dst : Nat) : Only [.chans] [] d (Dev.mbxTake d src dst) :=
  only_mbxMove _ _ _ _ _ _ (by decide) (Only.onChan .refl _ _ _ (by decide))
theorem Only.mbxTake {PP : List Part} {RR : List Reg} {xx d : Dev} (hh : Only PP RR xx d) (src dst : Nat)
    (hP : ∀ p ∈ ([.chans] : List Part), p ∈ PP) (hR : ∀ r ∈ ([] : List Reg), r ∈ RR) :
    Only PP RR xx (Dev.mbxTake d src dst) := hh.andThen (only_mbxTake d src dst) hP hR
theorem only_mbxAck (d : Dev) (src dst code : Nat) (rsp : List Byte) : Only [.chans, .counters, .latches, .ring, .log, .pcie, .sent] [.ALM_ACTIVE, .ALM_LATCH] d (Dev.mbxAck d src dst code rsp) := by
  have k : ∀ f, Only [.chans, .counters, .latches, .ring, .log, .pcie, .sent] [.ALM_ACTIVE, .ALM_LATCH] d ((d.onChan src dst f).tellAcked src dst) := fun f =>
    Only.tellAcked (Only.onChan .refl _ _ _ (by decide)) _ _ (by decide) (by decide)
  unfold Dev.mbxAck
  dsimp only
  repeat' first
    | with_reducible exact (only_mbxResult _ _ _ _ _).weaken (by decide) (by decide)
    | with_reducible exact only_mbxMove _ _ _ _ _ _ (by decide) (k _)
    | split
theorem Only.mbxAck {PP : List Part} {RR : List Reg} {xx d : Dev} (hh : Only PP RR xx d) (src dst code : Nat) (rsp : List Byte)
    (hP : ∀ p ∈ ([.chans, .counters, .latches, .ring, .log, .pcie, .sent] : List Part), p ∈ PP) (hR : ∀ r ∈ ([.ALM_ACTIVE, .ALM_LATCH] : List Reg), r ∈ RR) :
    Only PP RR xx (Dev.mbxAck d src dst code rsp) := hh.andThen (only_mbxAck d src dst code rsp) hP hR
theorem only_mbxRelease (d : Dev) (src dst : Nat) : Only [.chans, .cpMail, .counters, .latches, .ring, .log, .pcie, .sys, .sent, .freeCtr] [.ALM_ACTIVE, .ALM_LATCH, .PWR_STAT] d (Dev.mbxRelease d src dst) := by
  have k : ∀ f c, Only [.chans, .cpMail, .counters, .latches, .ring, .log, .pcie, .sys, .sent, .freeCtr] [.ALM_ACTIVE, .ALM_LATCH, .PWR_STAT] d ((d.onChan src dst f).when c Dev.sendNotice) := fun f c =>
    Only.when (Only.onChan .refl _ _ _ (by decide)) _ _ (Only.sendNotice .refl (by decide) (by decide))
  exact only_mbxMove _ _ _ _ _ _ (by decide) (k _ _)
theorem Only.mbxRelease {PP : List Part} {RR : List Reg} {xx d : Dev} (hh : Only PP RR xx d) (src dst : Nat)
    (hP : ∀ p ∈ ([.chans, .cpMail, .counters, .latches, .ring, .log, .pcie, .sys, .sent, .freeCtr] : List Part), p ∈ PP) (hR : ∀ r ∈ ([.ALM_ACTIVE, .ALM_LATCH, .PWR_STAT] : List Reg), r ∈ RR) :
    Only PP RR xx (Dev.mbxRelease d src dst) := hh.andThen (only_mbxRelease d src dst) hP hR
theorem only_mbxFault (d : Dev) (src dst : Nat) : Only [.chans, .counters, .latches, .ring, .log, .pcie, .sent] [.ALM_ACTIVE, .ALM_LATCH] d (Dev.mbxFault d src dst) := by
  unfold Dev.mbxFault
  (try dsimp only)
  repeat' first
    | with_reducible exact Only.refl
    | with_reducible refine Only.onChan ?_ _ _ _ (by decide)
    | with_reducible refine Only.memError ?_ _ _ (by decide)
    | with_reducible refine Only.retireOther ?_ _ _ _ (by decide)
    | split
    | dsimp only
theorem Only.mbxFault {PP : List Part} {RR : List Reg} {xx d : Dev} (hh : Only PP RR xx d) (src dst : Nat)
    (hP : ∀ p ∈ ([.chans, .counters, .latches, .ring, .log, .pcie, .sent] : List Part), p ∈ PP) (hR : ∀ r ∈ ([.ALM_ACTIVE, .ALM_LATCH] : List Reg), r ∈ RR) :
    Only PP RR xx (Dev.mbxFault d src dst) := hh.andThen (only_mbxFault d src dst) hP hR
theorem only_hostRestart (d : Dev) : Only [.chans, .counters, .latches, .ring, .log, .pcie, .sent] [.ALM_ACTIVE, .ALM_LATCH] d (Dev.hostRestart d) := by
  unfold Dev.hostRestart
  (try dsimp only)
  repeat' first
    | with_reducible exact Only.refl
    | with_reducible refine Only.restartParty ?_ _ (by decide) (by decide)
    | split
    | dsimp only
theorem Only.hostRestart {PP : List Part} {RR : List Reg} {xx d : Dev} (hh : Only PP RR xx d) 
    (hP : ∀ p ∈ ([.chans, .counters, .latches, .ring, .log, .pcie, .sent] : List Part), p ∈ PP) (hR : ∀ r ∈ ([.ALM_ACTIVE, .ALM_LATCH] : List Reg), r ∈ RR) :
    Only PP RR xx (Dev.hostRestart d) := hh.andThen (only_hostRestart d) hP hR
theorem only_cpAck (d : Dev) (code : Nat) (rsp : List Byte) : Only [.chans, .counters, .latches, .ring, .log, .pcie, .sent] [.ALM_ACTIVE, .ALM_LATCH] d (Dev.cpAck d code rsp) := by
  unfold Dev.cpAck
  (try dsimp only)
  repeat' first
    | with_reducible exact Only.refl
    | with_reducible refine Only.mbxAck ?_ _ _ _ _ (by decide) (by decide)
    | split
    | dsimp only
theorem Only.cpAck {PP : List Part} {RR : List Reg} {xx d : Dev} (hh : Only PP RR xx d) (code : Nat) (rsp : List Byte)
    (hP : ∀ p ∈ ([.chans, .counters, .latches, .ring, .log, .pcie, .sent] : List Part), p ∈ PP) (hR : ∀ r ∈ ([.ALM_ACTIVE, .ALM_LATCH] : List Reg), r ∈ RR) :
    Only PP RR xx (Dev.cpAck d code rsp) := hh.andThen (only_cpAck d code rsp) hP hR
theorem only_sendPart (d : Dev) (tag code : Nat) (parts : List (List Byte)) : Only [.chans, .cpMail, .counters, .latches, .ring, .log, .pcie, .sent] [.ALM_ACTIVE, .ALM_LATCH] d (Dev.sendPart d tag code parts) := by
  unfold Dev.sendPart
  split
  · exact Only.cpAck .refl _ _ (by decide) (by decide)
  · exact Only.cpAck (Only.upd_cpMail .refl _ (by decide)) _ _ (by decide) (by decide)
theorem Only.sendPart {PP : List Part} {RR : List Reg} {xx d : Dev} (hh : Only PP RR xx d) (tag code : Nat) (parts : List (List Byte))
    (hP : ∀ p ∈ ([.chans, .cpMail, .counters, .latches, .ring, .log, .pcie, .sent] : List Part), p ∈ PP) (hR : ∀ r ∈ ([.ALM_ACTIVE, .ALM_LATCH] : List Reg), r ∈ RR) :
    Only PP RR xx (Dev.sendPart d tag code parts) := hh.andThen (only_sendPart d tag code parts) hP hR
theorem only_continueReply (d : Dev) : Only [.chans, .cpMail, .counters, .latches, .ring, .log, .pcie, .sent] [.ALM_ACTIVE, .ALM_LATCH] d (Dev.continueReply d) := by
  unfold Dev.continueReply
  (try dsimp only)
  repeat' first
    | with_reducible exact Only.refl
    | with_reducible refine Only.cpAck ?_ _ _ (by decide) (by decide)
    | with_reducible refine Only.sendPart ?_ _ _ _ (by decide) (by decide)
    | split
    | dsimp only
theorem Only.continueReply {PP : List Part} {RR : List Reg} {xx d : Dev} (hh : Only PP RR xx d) 
    (hP : ∀ p ∈ ([.chans, .cpMail, .counters, .latches, .ring, .log, .pcie, .sent] : List Part), p ∈ PP) (hR : ∀ r ∈ ([.ALM_ACTIVE, .ALM_LATCH] : List Reg), r ∈ RR) :
    Only PP RR xx (Dev.continueReply d) := hh.andThen (only_continueReply d) hP hR

/-! ## Sleep -/

theorem only_refreshPower (d : Dev) (p : Nat) : Only [.counters, .latches, .ring, .log, .pcie, .sent] [.ALM_ACTIVE, .ALM_LATCH, .LANE_QUAD_STAT, .PWR_PORT_STAT] d (Dev.refreshPower d p) := by
  unfold Dev.refreshPower
  (try dsimp only)
  repeat' first
    | with_reducible exact Only.refl
    | with_reducible refine Only.set ?_ _ _ _ (by decide)
    | with_reducible refine Only.setMark ?_ _ _ _ _ (by decide) (by decide)
    | with_reducible refine Only.quadSet ?_ _ _ _ (by decide) (by decide)
    | with_reducible refine Only.cond ?_ _ _ (by decide)
    | split
    | dsimp only
theorem Only.refreshPower {PP : List Part} {RR : List Reg} {xx d : Dev} (hh : Only PP RR xx d) (p : Nat)
    (hP : ∀ p ∈ ([.counters, .latches, .ring, .log, .pcie, .sent] : List Part), p ∈ PP) (hR : ∀ r ∈ ([.ALM_ACTIVE, .ALM_LATCH, .LANE_QUAD_STAT, .PWR_PORT_STAT] : List Reg), r ∈ RR) :
    Only PP RR xx (Dev.refreshPower d p) := hh.andThen (only_refreshPower d p) hP hR
theorem only_setGated (d : Dev) (l : List Nat) : Only [] [.PWR_STAT, .SW_BUF_GATED] d (Dev.setGated d l) := by
  unfold Dev.setGated
  (try dsimp only)
  repeat' first
    | with_reducible exact Only.refl
    | with_reducible refine Only.set ?_ _ _ _ (by decide)
    | split
    | dsimp only
theorem Only.setGated {PP : List Part} {RR : List Reg} {xx d : Dev} (hh : Only PP RR xx d) (l : List Nat)
    (hP : ∀ p ∈ ([] : List Part), p ∈ PP) (hR : ∀ r ∈ ([.PWR_STAT, .SW_BUF_GATED] : List Reg), r ∈ RR) :
    Only PP RR xx (Dev.setGated d l) := hh.andThen (only_setGated d l) hP hR
theorem only_stopDrain (d : Dev) : Only [] [.PWR_STAT] d (Dev.stopDrain d) := by
  unfold Dev.stopDrain
  (try dsimp only)
  repeat' first
    | with_reducible exact Only.refl
    | with_reducible refine Only.set ?_ _ _ _ (by decide)
    | split
    | dsimp only
theorem Only.stopDrain {PP : List Part} {RR : List Reg} {xx d : Dev} (hh : Only PP RR xx d) 
    (hP : ∀ p ∈ ([] : List Part), p ∈ PP) (hR : ∀ r ∈ ([.PWR_STAT] : List Reg), r ∈ RR) :
    Only PP RR xx (Dev.stopDrain d) := hh.andThen (only_stopDrain d) hP hR
theorem only_judgeBanks (d : Dev) : Only [.counters, .latches, .ring, .log, .pcie, .sw, .sent] [.ALM_ACTIVE, .ALM_LATCH, .PWR_STAT, .SW_BUF_GATED] d (Dev.judgeBanks d) := by
  unfold Dev.judgeBanks
  (try dsimp only)
  repeat' first
    | with_reducible exact Only.refl
    | with_reducible refine Only.onSw ?_ _ (by decide)
    | with_reducible refine Only.judgeBuf ?_ (by decide) (by decide)
    | with_reducible refine Only.setGated ?_ _ (by decide) (by decide)
    | with_reducible refine Only.stopDrain ?_ (by decide) (by decide)
    | with_reducible refine Only.when ?_ _ _ ?_
    | split
    | dsimp only
theorem Only.judgeBanks {PP : List Part} {RR : List Reg} {xx d : Dev} (hh : Only PP RR xx d) 
    (hP : ∀ p ∈ ([.counters, .latches, .ring, .log, .pcie, .sw, .sent] : List Part), p ∈ PP) (hR : ∀ r ∈ ([.ALM_ACTIVE, .ALM_LATCH, .PWR_STAT, .SW_BUF_GATED] : List Reg), r ∈ RR) :
    Only PP RR xx (Dev.judgeBanks d) := hh.andThen (only_judgeBanks d) hP hR
theorem only_restartLpll (d : Dev) (k : Nat) : Only [.syns, .outs, .counters, .latches, .ring, .log, .pcie, .sys, .sent] [.ALM_ACTIVE, .ALM_LATCH, .OUT_STAT, .SYN_CMD, .SYN_STAT] d (Dev.restartLpll d k) := by
  unfold Dev.restartLpll
  (try dsimp only)
  repeat' first
    | with_reducible exact Only.refl
    | with_reducible refine Only.onSys ?_ _ (by decide)
    | with_reducible refine Only.startInternal ?_ _ (by decide) (by decide)
    | split
    | dsimp only
theorem Only.restartLpll {PP : List Part} {RR : List Reg} {xx d : Dev} (hh : Only PP RR xx d) (k : Nat)
    (hP : ∀ p ∈ ([.syns, .outs, .counters, .latches, .ring, .log, .pcie, .sys, .sent] : List Part), p ∈ PP) (hR : ∀ r ∈ ([.ALM_ACTIVE, .ALM_LATCH, .OUT_STAT, .SYN_CMD, .SYN_STAT] : List Reg), r ∈ RR) :
    Only PP RR xx (Dev.restartLpll d k) := hh.andThen (only_restartLpll d k) hP hR
theorem only_wakeTx (d : Dev) (p : Nat) : Only [.syns, .outs, .counters, .latches, .ring, .log, .pcie, .sw, .ports, .sys, .sent] [.ALM_ACTIVE, .ALM_LATCH, .LANE_QUAD_STAT, .OUT_STAT, .PWR_STAT, .SW_BUF_GATED, .SYN_CMD, .SYN_STAT] d (Dev.wakeTx d p) := by
  unfold Dev.wakeTx
  (try dsimp only)
  repeat' first
    | with_reducible exact Only.refl
    | with_reducible refine Only.quadSet ?_ _ _ _ (by decide) (by decide)
    | with_reducible refine Only.onPort ?_ _ _ (by decide)
    | with_reducible refine Only.countPort ?_ _ _ _ (by decide)
    | with_reducible refine Only.judgeBanks ?_ (by decide) (by decide)
    | with_reducible refine Only.restartLpll ?_ _ (by decide) (by decide)
    | split
    | dsimp only
theorem Only.wakeTx {PP : List Part} {RR : List Reg} {xx d : Dev} (hh : Only PP RR xx d) (p : Nat)
    (hP : ∀ p ∈ ([.syns, .outs, .counters, .latches, .ring, .log, .pcie, .sw, .ports, .sys, .sent] : List Part), p ∈ PP) (hR : ∀ r ∈ ([.ALM_ACTIVE, .ALM_LATCH, .LANE_QUAD_STAT, .OUT_STAT, .PWR_STAT, .SW_BUF_GATED, .SYN_CMD, .SYN_STAT] : List Reg), r ∈ RR) :
    Only PP RR xx (Dev.wakeTx d p) := hh.andThen (only_wakeTx d p) hP hR
theorem only_judgeSleep (d : Dev) (p : Nat) : Only [.syns, .outs, .counters, .latches, .ring, .log, .pcie, .sw, .ports, .sys, .sent] [.ALM_ACTIVE, .ALM_LATCH, .LANE_QUAD_STAT, .OUT_STAT, .PWR_PORT_STAT, .PWR_STAT, .SW_BUF_GATED, .SYN_CMD, .SYN_STAT] d (Dev.judgeSleep d p) := by
  unfold Dev.judgeSleep
  (try dsimp only)
  repeat' first
    | with_reducible exact Only.refl
    | with_reducible refine Only.refreshPower ?_ _ (by decide) (by decide)
    | with_reducible refine Only.wakeTx ?_ _ (by decide) (by decide)
    | split
    | dsimp only
theorem Only.judgeSleep {PP : List Part} {RR : List Reg} {xx d : Dev} (hh : Only PP RR xx d) (p : Nat)
    (hP : ∀ p ∈ ([.syns, .outs, .counters, .latches, .ring, .log, .pcie, .sw, .ports, .sys, .sent] : List Part), p ∈ PP) (hR : ∀ r ∈ ([.ALM_ACTIVE, .ALM_LATCH, .LANE_QUAD_STAT, .OUT_STAT, .PWR_PORT_STAT, .PWR_STAT, .SW_BUF_GATED, .SYN_CMD, .SYN_STAT] : List Reg), r ∈ RR) :
    Only PP RR xx (Dev.judgeSleep d p) := hh.andThen (only_judgeSleep d p) hP hR
theorem only_judgeSleeps (d : Dev) : Only [.syns, .outs, .counters, .latches, .ring, .log, .pcie, .sw, .ports, .sys, .sent] [.ALM_ACTIVE, .ALM_LATCH, .LANE_QUAD_STAT, .OUT_STAT, .PWR_PORT_STAT, .PWR_STAT, .SW_BUF_GATED, .SYN_CMD, .SYN_STAT] d (Dev.judgeSleeps d) := by
  unfold Dev.judgeSleeps
  (try dsimp only)
  repeat' first
    | with_reducible exact Only.refl
    | with_reducible refine Only.judgeSleep ?_ _ (by decide) (by decide)
    | with_reducible refine Only.each ?_ _ _ (fun _ _ => ?_)
    | split
    | dsimp only
theorem Only.judgeSleeps {PP : List Part} {RR : List Reg} {xx d : Dev} (hh : Only PP RR xx d) 
    (hP : ∀ p ∈ ([.syns, .outs, .counters, .latches, .ring, .log, .pcie, .sw, .ports, .sys, .sent] : List Part), p ∈ PP) (hR : ∀ r ∈ ([.ALM_ACTIVE, .ALM_LATCH, .LANE_QUAD_STAT, .OUT_STAT, .PWR_PORT_STAT, .PWR_STAT, .SW_BUF_GATED, .SYN_CMD, .SYN_STAT] : List Reg), r ∈ RR) :
    Only PP RR xx (Dev.judgeSleeps d) := hh.andThen (only_judgeSleeps d) hP hR

/-! ## Queues -/

theorem only_refreshGates (d : Dev) (p : Nat) : Only [] [.PRT_GATE_STAT] d (Dev.refreshGates d p) := by
  unfold Dev.refreshGates
  (try dsimp only)
  repeat' first
    | with_reducible exact Only.refl
    | with_reducible refine Only.set ?_ _ _ _ (by decide)
    | split
    | dsimp only
theorem Only.refreshGates {PP : List Part} {RR : List Reg} {xx d : Dev} (hh : Only PP RR xx d) (p : Nat)
    (hP : ∀ p ∈ ([] : List Part), p ∈ PP) (hR : ∀ r ∈ ([.PRT_GATE_STAT] : List Reg), r ∈ RR) :
    Only PP RR xx (Dev.refreshGates d p) := hh.andThen (only_refreshGates d p) hP hR
theorem only_setQueue (d : Dev) (p q : Nat) (l : List Link) : Only [.sw] [] d (Dev.setQueue d p q l) := by
  unfold Dev.setQueue
  (try dsimp only)
  repeat' first
    | with_reducible exact Only.refl
    | with_reducible refine Only.onSw ?_ _ (by decide)
    | split
    | dsimp only
theorem Only.setQueue {PP : List Part} {RR : List Reg} {xx d : Dev} (hh : Only PP RR xx d) (p q : Nat) (l : List Link)
    (hP : ∀ p ∈ ([.sw] : List Part), p ∈ PP) (hR : ∀ r ∈ ([] : List Reg), r ∈ RR) :
    Only PP RR xx (Dev.setQueue d p q l) := hh.andThen (only_setQueue d p q l) hP hR
theorem only_setTail (d : Dev) (p q : Nat) (t : Int) : Only [.sw] [] d (Dev.setTail d p q t) := by
  unfold Dev.setTail
  (try dsimp only)
  repeat' first
    | with_reducible exact Only.refl
    | with_reducible refine Only.onSw ?_ _ (by decide)
    | split
    | dsimp only
theorem Only.setTail {PP : List Part} {RR : List Reg} {xx d : Dev} (hh : Only PP RR xx d) (p q : Nat) (t : Int)
    (hP : ∀ p ∈ ([.sw] : List Part), p ∈ PP) (hR : ∀ r ∈ ([] : List Reg), r ∈ RR) :
    Only PP RR xx (Dev.setTail d p q t) := hh.andThen (only_setTail d p q t) hP hR
theorem only_setDeficit (d : Dev) (p q n : Nat) : Only [.sw] [] d (Dev.setDeficit d p q n) := by
  unfold Dev.setDeficit
  (try dsimp only)
  repeat' first
    | with_reducible exact Only.refl
    | with_reducible refine Only.onSw ?_ _ (by decide)
    | split
    | dsimp only
theorem Only.setDeficit {PP : List Part} {RR : List Reg} {xx d : Dev} (hh : Only PP RR xx d) (p q n : Nat)
    (hP : ∀ p ∈ ([.sw] : List Part), p ∈ PP) (hR : ∀ r ∈ ([] : List Reg), r ∈ RR) :
    Only PP RR xx (Dev.setDeficit d p q n) := hh.andThen (only_setDeficit d p q n) hP hR
theorem only_setTx (d : Dev) (p : Nat) (x : Option TxNow) : Only [.sw] [] d (Dev.setTx d p x) := by
  unfold Dev.setTx
  (try dsimp only)
  repeat' first
    | with_reducible exact Only.refl
    | with_reducible refine Only.onSw ?_ _ (by decide)
    | split
    | dsimp only
theorem Only.setTx {PP : List Part} {RR : List Reg} {xx d : Dev} (hh : Only PP RR xx d) (p : Nat) (x : Option TxNow)
    (hP : ∀ p ∈ ([.sw] : List Part), p ∈ PP) (hR : ∀ r ∈ ([] : List Reg), r ∈ RR) :
    Only PP RR xx (Dev.setTx d p x) := hh.andThen (only_setTx d p x) hP hR
theorem only_setRx (d : Dev) (p : Nat) (x : Option Nat) : Only [.sw] [] d (Dev.setRx d p x) := by
  unfold Dev.setRx
  (try dsimp only)
  repeat' first
    | with_reducible exact Only.refl
    | with_reducible refine Only.onSw ?_ _ (by decide)
    | split
    | dsimp only
theorem Only.setRx {PP : List Part} {RR : List Reg} {xx d : Dev} (hh : Only PP RR xx d) (p : Nat) (x : Option Nat)
    (hP : ∀ p ∈ ([.sw] : List Part), p ∈ PP) (hR : ∀ r ∈ ([] : List Reg), r ∈ RR) :
    Only PP RR xx (Dev.setRx d p x) := hh.andThen (only_setRx d p x) hP hR
theorem only_judgeIdle (d : Dev) (p : Nat) : Only [.ports] [] d (Dev.judgeIdle d p) := by
  unfold Dev.judgeIdle
  (try dsimp only)
  repeat' first
    | with_reducible exact Only.refl
    | with_reducible refine Only.onPort ?_ _ _ (by decide)
    | split
    | dsimp only
theorem Only.judgeIdle {PP : List Part} {RR : List Reg} {xx d : Dev} (hh : Only PP RR xx d) (p : Nat)
    (hP : ∀ p ∈ ([.ports] : List Part), p ∈ PP) (hR : ∀ r ∈ ([] : List Reg), r ∈ RR) :
    Only PP RR xx (Dev.judgeIdle d p) := hh.andThen (only_judgeIdle d p) hP hR
theorem only_discardCause (d : Dev) (p cause : Nat) : Only [.counters, .latches, .ring, .log, .pcie, .sent] [.ALM_ACTIVE, .ALM_LATCH] d (Dev.discardCause d p cause) := by
  unfold Dev.discardCause
  (try dsimp only)
  repeat' first
    | with_reducible exact Only.refl
    | with_reducible refine Only.countPort ?_ _ _ _ (by decide)
    | with_reducible refine Only.portEvent ?_ _ _ _ _ (by decide)
    | with_reducible refine Only.when ?_ _ _ ?_
    | split
    | dsimp only
theorem Only.discardCause {PP : List Part} {RR : List Reg} {xx d : Dev} (hh : Only PP RR xx d) (p cause : Nat)
    (hP : ∀ p ∈ ([.counters, .latches, .ring, .log, .pcie, .sent] : List Part), p ∈ PP) (hR : ∀ r ∈ ([.ALM_ACTIVE, .ALM_LATCH] : List Reg), r ∈ RR) :
    Only PP RR xx (Dev.discardCause d p cause) := hh.andThen (only_discardCause d p cause) hP hR
theorem only_unlink (d : Dev) (l : Link) : Only [.counters, .latches, .ring, .log, .pcie, .sw, .sent] [.ALM_ACTIVE, .ALM_LATCH] d (Dev.unlink d l) := by
  unfold Dev.unlink
  (try dsimp only)
  repeat' first
    | with_reducible exact Only.refl
    | with_reducible refine Only.release ?_ _ (by decide) (by decide)
    | split
    | dsimp only
theorem Only.unlink {PP : List Part} {RR : List Reg} {xx d : Dev} (hh : Only PP RR xx d) (l : Link)
    (hP : ∀ p ∈ ([.counters, .latches, .ring, .log, .pcie, .sw, .sent] : List Part), p ∈ PP) (hR : ∀ r ∈ ([.ALM_ACTIVE, .ALM_LATCH] : List Reg), r ∈ RR) :
    Only PP RR xx (Dev.unlink d l) := hh.andThen (only_unlink d l) hP hR
theorem only_dropLinks (d : Dev) (f : Nat) : Only [.counters, .latches, .ring, .log, .pcie, .sw, .ports, .sent] [.ALM_ACTIVE, .ALM_LATCH] d (Dev.dropLinks d f) := by
  unfold Dev.dropLinks
  (try dsimp only)
  repeat' first
    | with_reducible exact Only.refl
    | with_reducible refine Only.onSw ?_ _ (by decide)
    | with_reducible refine Only.judgeIdle ?_ _ (by decide) (by decide)
    | with_reducible refine Only.release ?_ _ (by decide) (by decide)
    | with_reducible refine Only.each ?_ _ _ (fun _ _ => ?_)
    | split
    | dsimp only
theorem Only.dropLinks {PP : List Part} {RR : List Reg} {xx d : Dev} (hh : Only PP RR xx d) (f : Nat)
    (hP : ∀ p ∈ ([.counters, .latches, .ring, .log, .pcie, .sw, .ports, .sent] : List Part), p ∈ PP) (hR : ∀ r ∈ ([.ALM_ACTIVE, .ALM_LATCH] : List Reg), r ∈ RR) :
    Only PP RR xx (Dev.dropLinks d f) := hh.andThen (only_dropLinks d f) hP hR
theorem only_spoilTx (d : Dev) (f : Nat) : Only [.syns, .outs, .counters, .latches, .ring, .log, .pcie, .sw, .ports, .sys, .sent] [.ALM_ACTIVE, .ALM_LATCH, .LANE_QUAD_STAT, .OUT_STAT, .PWR_STAT, .SW_BUF_GATED, .SYN_CMD, .SYN_STAT] d (Dev.spoilTx d f) := by
  unfold Dev.spoilTx
  (try dsimp only)
  repeat' first
    | with_reducible exact Only.refl
    | with_reducible refine Only.onSw ?_ _ (by decide)
    | split
    | dsimp only
theorem Only.spoilTx {PP : List Part} {RR : List Reg} {xx d : Dev} (hh : Only PP RR xx d) (f : Nat)
    (hP : ∀ p ∈ ([.syns, .outs, .counters, .latches, .ring, .log, .pcie, .sw, .ports, .sys, .sent] : List Part), p ∈ PP) (hR : ∀ r ∈ ([.ALM_ACTIVE, .ALM_LATCH, .LANE_QUAD_STAT, .OUT_STAT, .PWR_STAT, .SW_BUF_GATED, .SYN_CMD, .SYN_STAT] : List Reg), r ∈ RR) :
    Only PP RR xx (Dev.spoilTx d f) := hh.andThen (only_spoilTx d f) hP hR
theorem only_refuse (d : Dev) (p q cause : Nat) : Only [.counters, .latches, .ring, .log, .pcie, .sent] [.ALM_ACTIVE, .ALM_LATCH, .PRT_Q_STAT] d (Dev.refuse d p q cause) := by
  unfold Dev.refuse
  (try dsimp only)
  repeat' first
    | with_reducible exact Only.refl
    | with_reducible refine Only.set ?_ _ _ _ (by decide)
    | with_reducible refine Only.countPort ?_ _ _ _ (by decide)
    | with_reducible refine Only.portEvent ?_ _ _ _ _ (by decide)
    | split
    | dsimp only
theorem Only.refuse {PP : List Part} {RR : List Reg} {xx d : Dev} (hh : Only PP RR xx d) (p q cause : Nat)
    (hP : ∀ p ∈ ([.counters, .latches, .ring, .log, .pcie, .sent] : List Part), p ∈ PP) (hR : ∀ r ∈ ([.ALM_ACTIVE, .ALM_LATCH, .PRT_Q_STAT] : List Reg), r ∈ RR) :
    Only PP RR xx (Dev.refuse d p q cause) := hh.andThen (only_refuse d p q cause) hP hR
theorem only_redUpdate (d : Dev) (p q : Nat) : Only [.sw] [] d (Dev.redUpdate d p q) := by
  unfold Dev.redUpdate
  (try dsimp only)
  repeat' first
    | with_reducible exact Only.refl
    | with_reducible refine Only.onSw ?_ _ (by decide)
    | split
    | dsimp only
theorem Only.redUpdate {PP : List Part} {RR : List Reg} {xx d : Dev} (hh : Only PP RR xx d) (p q : Nat)
    (hP : ∀ p ∈ ([.sw] : List Part), p ∈ PP) (hR : ∀ r ∈ ([] : List Reg), r ∈ RR) :
    Only PP RR xx (Dev.redUpdate d p q) := hh.andThen (only_redUpdate d p q) hP hR
theorem only_link (d : Dev) (p q : Nat) (l : Link) : Only [.syns, .outs, .counters, .latches, .ring, .log, .pcie, .sw, .ports, .sys, .sent] [.ALM_ACTIVE, .ALM_LATCH, .LANE_QUAD_STAT, .OUT_STAT, .PWR_STAT, .SW_BUF_GATED, .SYN_CMD, .SYN_STAT] d (Dev.link d p q l) := by
  unfold Dev.link
  (try dsimp only)
  repeat' first
    | with_reducible exact Only.refl
    | with_reducible refine Only.judgeIdle ?_ _ (by decide) (by decide)
    | with_reducible refine Only.onFrame ?_ _ _ (by decide) (by decide)
    | with_reducible refine Only.setQueue ?_ _ _ _ (by decide) (by decide)
    | with_reducible refine Only.wakeTx ?_ _ (by decide) (by decide)
    | split
    | dsimp only
theorem Only.link {PP : List Part} {RR : List Reg} {xx d : Dev} (hh : Only PP RR xx d) (p q : Nat) (l : Link)
    (hP : ∀ p ∈ ([.syns, .outs, .counters, .latches, .ring, .log, .pcie, .sw, .ports, .sys, .sent] : List Part), p ∈ PP) (hR : ∀ r ∈ ([.ALM_ACTIVE, .ALM_LATCH, .LANE_QUAD_STAT, .OUT_STAT, .PWR_STAT, .SW_BUF_GATED, .SYN_CMD, .SYN_STAT] : List Reg), r ∈ RR) :
    Only PP RR xx (Dev.link d p q l) := hh.andThen (only_link d p q l) hP hR
theorem only_chargeFrame (d : Dev) (f n : Nat) (res : Bool) : Only [.sw] [] d (Dev.chargeFrame d f n res) := by
  unfold Dev.chargeFrame
  (try dsimp only)
  repeat' first
    | with_reducible exact Only.refl
    | with_reducible refine Only.onFrame ?_ _ _ (by decide) (by decide)
    | split
    | dsimp only
theorem Only.chargeFrame {PP : List Part} {RR : List Reg} {xx d : Dev} (hh : Only PP RR xx d) (f n : Nat) (res : Bool)
    (hP : ∀ p ∈ ([.sw] : List Part), p ∈ PP) (hR : ∀ r ∈ ([] : List Reg), r ∈ RR) :
    Only PP RR xx (Dev.chargeFrame d f n res) := hh.andThen (only_chargeFrame d f n res) hP hR
theorem only_offer (d : Dev) (p q fid lc : Nat) (copy : Option Nat) : Only [.syns, .outs, .counters, .latches, .ring, .log, .pcie, .sw, .ports, .sys, .sent, .freeCtr] [.ALM_ACTIVE, .ALM_LATCH, .LANE_QUAD_STAT, .OUT_STAT, .PRT_Q_STAT, .PWR_STAT, .SW_BUF_GATED, .SYN_CMD, .SYN_STAT] d (Dev.offer d p q fid lc copy).1 := by
  unfold Dev.offer
  (try dsimp only)
  repeat' first
    | with_reducible exact Only.refl
    | with_reducible refine Only.spendFree ?_ (by decide)
    | with_reducible refine Only.portEvent ?_ _ _ _ _ (by decide)
    | with_reducible refine Only.chargeFrame ?_ _ _ _ (by decide) (by decide)
    | with_reducible refine Only.judgeIdle ?_ _ (by decide) (by decide)
    | with_reducible refine Only.link ?_ _ _ _ (by decide) (by decide)
    | with_reducible refine Only.onFrame ?_ _ _ (by decide) (by decide)
    | with_reducible refine Only.redUpdate ?_ _ _ (by decide) (by decide)
    | with_reducible refine Only.refuse ?_ _ _ _ (by decide) (by decide)
    | with_reducible refine Only.setTail ?_ _ _ _ (by decide) (by decide)
    | with_reducible refine Only.wakeTx ?_ _ (by decide) (by decide)
    | with_reducible refine Only.when ?_ _ _ ?_
    | split
    | dsimp only
theorem Only.offer {PP : List Part} {RR : List Reg} {xx d : Dev} (hh : Only PP RR xx d) (p q fid lc : Nat) (copy : Option Nat)
    (hP : ∀ p ∈ ([.syns, .outs, .counters, .latches, .ring, .log, .pcie, .sw, .ports, .sys, .sent, .freeCtr] : List Part), p ∈ PP) (hR : ∀ r ∈ ([.ALM_ACTIVE, .ALM_LATCH, .LANE_QUAD_STAT, .OUT_STAT, .PRT_Q_STAT, .PWR_STAT, .SW_BUF_GATED, .SYN_CMD, .SYN_STAT] : List Reg), r ∈ RR) :
    Only PP RR xx (Dev.offer d p q fid lc copy).1 := hh.andThen (only_offer d p q fid lc copy) hP hR
theorem only_repredict (d : Dev) (p : Nat) : Only [.counters, .latches, .ring, .log, .pcie, .sw, .ports, .sent] [.ALM_ACTIVE, .ALM_LATCH] d (Dev.repredict d p) := by
  unfold Dev.repredict
  (try dsimp only)
  repeat' first
    | with_reducible exact Only.refl
    | with_reducible refine Only.portEvent ?_ _ _ _ _ (by decide)
    | with_reducible refine Only.judgeIdle ?_ _ (by decide) (by decide)
    | with_reducible refine Only.setQueue ?_ _ _ _ (by decide) (by decide)
    | with_reducible refine Only.setTail ?_ _ _ _ (by decide) (by decide)
    | with_reducible refine Only.unlink ?_ _ (by decide) (by decide)
    | with_reducible refine Only.each ?_ _ _ (fun _ _ => ?_)
    | split
    | dsimp only
theorem Only.repredict {PP : List Part} {RR : List Reg} {xx d : Dev} (hh : Only PP RR xx d) (p : Nat)
    (hP : ∀ p ∈ ([.counters, .latches, .ring, .log, .pcie, .sw, .ports, .sent] : List Part), p ∈ PP) (hR : ∀ r ∈ ([.ALM_ACTIVE, .ALM_LATCH] : List Reg), r ∈ RR) :
    Only PP RR xx (Dev.repredict d p) := hh.andThen (only_repredict d p) hP hR
theorem only_rescheduled (d : Dev) (p : Nat) : Only [] [.PRT_GATE_STAT] d (Dev.rescheduled d p) := by
  unfold Dev.rescheduled
  (try dsimp only)
  repeat' first
    | with_reducible exact Only.refl
    | with_reducible refine Only.set ?_ _ _ _ (by decide)
    | with_reducible refine Only.refreshGates ?_ _ (by decide) (by decide)
    | split
    | dsimp only
theorem Only.rescheduled {PP : List Part} {RR : List Reg} {xx d : Dev} (hh : Only PP RR xx d) (p : Nat)
    (hP : ∀ p ∈ ([] : List Part), p ∈ PP) (hR : ∀ r ∈ ([.PRT_GATE_STAT] : List Reg), r ∈ RR) :
    Only PP RR xx (Dev.rescheduled d p) := hh.andThen (only_rescheduled d p) hP hR
theorem only_queuesStepped (d : Dev) (x : Int) : Only [.sw] [.PRT_GATE_STAT] d (Dev.queuesStepped d x) := by
  unfold Dev.queuesStepped
  (try dsimp only)
  repeat' first
    | with_reducible exact Only.refl
    | with_reducible refine Only.onSw ?_ _ (by decide)
    | with_reducible refine Only.rescheduled ?_ _ (by decide) (by decide)
    | with_reducible refine Only.each ?_ _ _ (fun _ _ => ?_)
    | split
    | dsimp only
theorem Only.queuesStepped {PP : List Part} {RR : List Reg} {xx d : Dev} (hh : Only PP RR xx d) (x : Int)
    (hP : ∀ p ∈ ([.sw] : List Part), p ∈ PP) (hR : ∀ r ∈ ([.PRT_GATE_STAT] : List Reg), r ∈ RR) :
    Only PP RR xx (Dev.queuesStepped d x) := hh.andThen (only_queuesStepped d x) hP hR
theorem only_flushLink (d : Dev) (p e : Nat) (l : Link) : Only [.counters, .latches, .ring, .log, .pcie, .sw, .sent] [.ALM_ACTIVE, .ALM_LATCH] d (Dev.flushLink d p e l) := by
  unfold Dev.flushLink
  (try dsimp only)
  repeat' first
    | with_reducible exact Only.refl
    | with_reducible refine Only.portEvent ?_ _ _ _ _ (by decide)
    | with_reducible refine Only.unlink ?_ _ (by decide) (by decide)
    | split
    | dsimp only
theorem Only.flushLink {PP : List Part} {RR : List Reg} {xx d : Dev} (hh : Only PP RR xx d) (p e : Nat) (l : Link)
    (hP : ∀ p ∈ ([.counters, .latches, .ring, .log, .pcie, .sw, .sent] : List Part), p ∈ PP) (hR : ∀ r ∈ ([.ALM_ACTIVE, .ALM_LATCH] : List Reg), r ∈ RR) :
    Only PP RR xx (Dev.flushLink d p e l) := hh.andThen (only_flushLink d p e l) hP hR
theorem only_replayLink (d : Dev) (p q : Nat) (l : Link) : Only [.syns, .outs, .counters, .latches, .ring, .log, .pcie, .sw, .ports, .sys, .sent] [.ALM_ACTIVE, .ALM_LATCH, .LANE_QUAD_STAT, .OUT_STAT, .PWR_STAT, .SW_BUF_GATED, .SYN_CMD, .SYN_STAT] d (Dev.replayLink d p q l) := by
  unfold Dev.replayLink
  (try dsimp only)
  repeat' first
    | with_reducible exact Only.refl
    | with_reducible refine Only.portEvent ?_ _ _ _ _ (by decide)
    | with_reducible refine Only.flushLink ?_ _ _ _ (by decide) (by decide)
    | with_reducible refine Only.judgeIdle ?_ _ (by decide) (by decide)
    | with_reducible refine Only.setQueue ?_ _ _ _ (by decide) (by decide)
    | with_reducible refine Only.wakeTx ?_ _ (by decide) (by decide)
    | split
    | dsimp only
theorem Only.replayLink {PP : List Part} {RR : List Reg} {xx d : Dev} (hh : Only PP RR xx d) (p q : Nat) (l : Link)
    (hP : ∀ p ∈ ([.syns, .outs, .counters, .latches, .ring, .log, .pcie, .sw, .ports, .sys, .sent] : List Part), p ∈ PP) (hR : ∀ r ∈ ([.ALM_ACTIVE, .ALM_LATCH, .LANE_QUAD_STAT, .OUT_STAT, .PWR_STAT, .SW_BUF_GATED, .SYN_CMD, .SYN_STAT] : List Reg), r ∈ RR) :
    Only PP RR xx (Dev.replayLink d p q l) := hh.andThen (only_replayLink d p q l) hP hR
theorem only_replayHeld (d : Dev) (p : Nat) : Only [.syns, .outs, .counters, .latches, .ring, .log, .pcie, .sw, .ports, .sys, .sent] [.ALM_ACTIVE, .ALM_LATCH, .LANE_QUAD_STAT, .OUT_STAT, .PWR_STAT, .SW_BUF_GATED, .SYN_CMD, .SYN_STAT] d (Dev.replayHeld d p) := by
  unfold Dev.replayHeld
  (try dsimp only)
  repeat' first
    | with_reducible exact Only.refl
    | with_reducible refine Only.onSw ?_ _ (by decide)
    | with_reducible refine Only.portEvent ?_ _ _ _ _ (by decide)
    | with_reducible refine Only.judgeIdle ?_ _ (by decide) (by decide)
    | with_reducible refine Only.link ?_ _ _ _ (by decide) (by decide)
    | with_reducible refine Only.each ?_ _ _ (fun _ _ => ?_)
    | split
    | dsimp only
theorem Only.replayHeld {PP : List Part} {RR : List Reg} {xx d : Dev} (hh : Only PP RR xx d) (p : Nat)
    (hP : ∀ p ∈ ([.syns, .outs, .counters, .latches, .ring, .log, .pcie, .sw, .ports, .sys, .sent] : List Part), p ∈ PP) (hR : ∀ r ∈ ([.ALM_ACTIVE, .ALM_LATCH, .LANE_QUAD_STAT, .OUT_STAT, .PWR_STAT, .SW_BUF_GATED, .SYN_CMD, .SYN_STAT] : List Reg), r ∈ RR) :
    Only PP RR xx (Dev.replayHeld d p) := hh.andThen (only_replayHeld d p) hP hR
theorem only_replayPort (d : Dev) (p : Nat) : Only [.syns, .outs, .counters, .latches, .ring, .log, .pcie, .sw, .ports, .sys, .sent] [.ALM_ACTIVE, .ALM_LATCH, .LANE_QUAD_STAT, .OUT_STAT, .PRT_GATE_STAT, .PWR_STAT, .SW_BUF_GATED, .SYN_CMD, .SYN_STAT] d (Dev.replayPort d p) := by
  unfold Dev.replayPort
  (try dsimp only)
  repeat' first
    | with_reducible exact Only.refl
    | with_reducible refine Only.onSw ?_ _ (by decide)
    | with_reducible refine Only.judgeIdle ?_ _ (by decide) (by decide)
    | with_reducible refine Only.replayHeld ?_ _ (by decide) (by decide)
    | with_reducible refine Only.replayLink ?_ _ _ _ (by decide) (by decide)
    | with_reducible refine Only.rescheduled ?_ _ (by decide) (by decide)
    | with_reducible refine Only.setDeficit ?_ _ _ _ (by decide) (by decide)
    | with_reducible refine Only.setQueue ?_ _ _ _ (by decide) (by decide)
    | with_reducible refine Only.setTail ?_ _ _ _ (by decide) (by decide)
    | with_reducible refine Only.each ?_ _ _ (fun _ _ => ?_)
    | split
    | dsimp only
theorem Only.replayPort {PP : List Part} {RR : List Reg} {xx d : Dev} (hh : Only PP RR xx d) (p : Nat)
    (hP : ∀ p ∈ ([.syns, .outs, .counters, .latches, .ring, .log, .pcie, .sw, .ports, .sys, .sent] : List Part), p ∈ PP) (hR : ∀ r ∈ ([.ALM_ACTIVE, .ALM_LATCH, .LANE_QUAD_STAT, .OUT_STAT, .PRT_GATE_STAT, .PWR_STAT, .SW_BUF_GATED, .SYN_CMD, .SYN_STAT] : List Reg), r ∈ RR) :
    Only PP RR xx (Dev.replayPort d p) := hh.andThen (only_replayPort d p) hP hR
theorem only_countFrame (d : Dev) (p dir : Nat) (bytes : List Byte) : Only [.counters, .latches, .ring, .log, .pcie, .sent] [.ALM_ACTIVE, .ALM_LATCH] d (Dev.countFrame d p dir bytes) := by
  unfold Dev.countFrame
  (try dsimp only)
  repeat' first
    | with_reducible exact Only.refl
    | with_reducible refine Only.countPort ?_ _ _ _ (by decide)
    | with_reducible refine Only.when ?_ _ _ ?_
    | split
    | dsimp only
theorem Only.countFrame {PP : List Part} {RR : List Reg} {xx d : Dev} (hh : Only PP RR xx d) (p dir : Nat) (bytes : List Byte)
    (hP : ∀ p ∈ ([.counters, .latches, .ring, .log, .pcie, .sent] : List Part), p ∈ PP) (hR : ∀ r ∈ ([.ALM_ACTIVE, .ALM_LATCH] : List Reg), r ∈ RR) :
    Only PP RR xx (Dev.countFrame d p dir bytes) := hh.andThen (only_countFrame d p dir bytes) hP hR

/-! ## PtuOps -/

theorem only_refreshPtx (d : Dev) (p : Nat) : Only [] [.PRT_Q_PTX] d (Dev.refreshPtx d p) := by
  unfold Dev.refreshPtx
  (try dsimp only)
  repeat' first
    | with_reducible exact Only.refl
    | with_reducible refine Only.set ?_ _ _ _ (by decide)
    | split
    | dsimp only
theorem Only.refreshPtx {PP : List Part} {RR : List Reg} {xx d : Dev} (hh : Only PP RR xx d) (p : Nat)
    (hP : ∀ p ∈ ([] : List Part), p ∈ PP) (hR : ∀ r ∈ ([.PRT_Q_PTX] : List Reg), r ∈ RR) :
    Only PP RR xx (Dev.refreshPtx d p) := hh.andThen (only_refreshPtx d p) hP hR
theorem only_measureUp (d : Dev) (p : Nat) (l : LatMeas) : Only [.ptus] [.PRT_LAT_STAT] d (Dev.measureUp d p l) := by
  unfold Dev.measureUp
  (try dsimp only)
  repeat' first
    | with_reducible exact Only.refl
    | with_reducible refine Only.set ?_ _ _ _ (by decide)
    | with_reducible refine Only.onPtu ?_ _ _ (by decide)
    | split
    | dsimp only
theorem Only.measureUp {PP : List Part} {RR : List Reg} {xx d : Dev} (hh : Only PP RR xx d) (p : Nat) (l : LatMeas)
    (hP : ∀ p ∈ ([.ptus] : List Part), p ∈ PP) (hR : ∀ r ∈ ([.PRT_LAT_STAT] : List Reg), r ∈ RR) :
    Only PP RR xx (Dev.measureUp d p l) := hh.andThen (only_measureUp d p l) hP hR
theorem only_measureWake (d : Dev) (p dir new : Nat) : Only [.counters, .latches, .ring, .log, .pcie, .ptus, .sent] [.ALM_ACTIVE, .ALM_LATCH, .PRT_LAT_STAT, .PRT_Q_PTX] d (Dev.measureWake d p dir new) := by
  unfold Dev.measureWake
  (try dsimp only)
  repeat' first
    | with_reducible exact Only.refl
    | with_reducible refine Only.set ?_ _ _ _ (by decide)
    | with_reducible refine Only.onPtu ?_ _ _ (by decide)
    | with_reducible refine Only.portEvent ?_ _ _ _ _ (by decide)
    | with_reducible refine Only.refreshPtx ?_ _ (by decide) (by decide)
    | split
    | dsimp only
theorem Only.measureWake {PP : List Part} {RR : List Reg} {xx d : Dev} (hh : Only PP RR xx d) (p dir new : Nat)
    (hP : ∀ p ∈ ([.counters, .latches, .ring, .log, .pcie, .ptus, .sent] : List Part), p ∈ PP) (hR : ∀ r ∈ ([.ALM_ACTIVE, .ALM_LATCH, .PRT_LAT_STAT, .PRT_Q_PTX] : List Reg), r ∈ RR) :
    Only PP RR xx (Dev.measureWake d p dir new) := hh.andThen (only_measureWake d p dir new) hP hR
theorem only_measureLpi (d : Dev) (p dir new : Nat) : Only [.ptus] [.PRT_LAT_STAT, .PRT_Q_PTX] d (Dev.measureLpi d p dir new) := by
  unfold Dev.measureLpi
  (try dsimp only)
  repeat' first
    | with_reducible exact Only.refl
    | with_reducible refine Only.set ?_ _ _ _ (by decide)
    | with_reducible refine Only.onPtu ?_ _ _ (by decide)
    | with_reducible refine Only.refreshPtx ?_ _ (by decide) (by decide)
    | split
    | dsimp only
theorem Only.measureLpi {PP : List Part} {RR : List Reg} {xx d : Dev} (hh : Only PP RR xx d) (p dir new : Nat)
    (hP : ∀ p ∈ ([.ptus] : List Part), p ∈ PP) (hR : ∀ r ∈ ([.PRT_LAT_STAT, .PRT_Q_PTX] : List Reg), r ∈ RR) :
    Only PP RR xx (Dev.measureLpi d p dir new) := hh.andThen (only_measureLpi d p dir new) hP hR
theorem only_restartDelay (d : Dev) (p : Nat) : Only [.ptus] [.PRT_PTU_STAT] d (Dev.restartDelay d p) := by
  unfold Dev.restartDelay
  (try dsimp only)
  repeat' first
    | with_reducible exact Only.refl
    | with_reducible refine Only.ptuBit ?_ _ _ _ (by decide) (by decide)
    | with_reducible refine Only.onPtu ?_ _ _ (by decide)
    | split
    | dsimp only
theorem Only.restartDelay {PP : List Part} {RR : List Reg} {xx d : Dev} (hh : Only PP RR xx d) (p : Nat)
    (hP : ∀ p ∈ ([.ptus] : List Part), p ∈ PP) (hR : ∀ r ∈ ([.PRT_PTU_STAT] : List Reg), r ∈ RR) :
    Only PP RR xx (Dev.restartDelay d p) := hh.andThen (only_restartDelay d p) hP hR
theorem only_setRev (d : Dev) (p step : Nat) : Only [.ptus] [.PRT_REV_STAT] d (Dev.setRev d p step) := by
  unfold Dev.setRev
  (try dsimp only)
  repeat' first
    | with_reducible exact Only.refl
    | with_reducible refine Only.setMark ?_ _ _ _ _ (by decide) (by decide)
    | with_reducible refine Only.onPtu ?_ _ _ (by decide)
    | split
    | dsimp only
theorem Only.setRev {PP : List Part} {RR : List Reg} {xx d : Dev} (hh : Only PP RR xx d) (p step : Nat)
    (hP : ∀ p ∈ ([.ptus] : List Part), p ∈ PP) (hR : ∀ r ∈ ([.PRT_REV_STAT] : List Reg), r ∈ RR) :
    Only PP RR xx (Dev.setRev d p step) := hh.andThen (only_setRev d p step) hP hR
theorem only_revAdvance (d : Dev) (p : Nat) : Only [.ptus] [.PRT_REV_STAT] d (Dev.revAdvance d p) := by
  unfold Dev.revAdvance
  (try dsimp only)
  repeat' first
    | with_reducible exact Only.refl
    | with_reducible refine Only.setRev ?_ _ _ (by decide) (by decide)
    | split
    | dsimp only
theorem Only.revAdvance {PP : List Part} {RR : List Reg} {xx d : Dev} (hh : Only PP RR xx d) (p : Nat)
    (hP : ∀ p ∈ ([.ptus] : List Part), p ∈ PP) (hR : ∀ r ∈ ([.PRT_REV_STAT] : List Reg), r ∈ RR) :
    Only PP RR xx (Dev.revAdvance d p) := hh.andThen (only_revAdvance d p) hP hR
theorem only_revFail (d : Dev) (p cause : Nat) : Only [.ptus] [.PRT_REV_STAT] d (Dev.revFail d p cause) := by
  unfold Dev.revFail
  (try dsimp only)
  repeat' first
    | with_reducible exact Only.refl
    | with_reducible refine Only.set ?_ _ _ _ (by decide)
    | with_reducible refine Only.setRev ?_ _ _ (by decide) (by decide)
    | split
    | dsimp only
theorem Only.revFail {PP : List Part} {RR : List Reg} {xx d : Dev} (hh : Only PP RR xx d) (p cause : Nat)
    (hP : ∀ p ∈ ([.ptus] : List Part), p ∈ PP) (hR : ∀ r ∈ ([.PRT_REV_STAT] : List Reg), r ∈ RR) :
    Only PP RR xx (Dev.revFail d p cause) := hh.andThen (only_revFail d p cause) hP hR
theorem only_addDelay (d : Dev) (p : Nat) (x : Int) : Only [.counters, .latches, .ring, .log, .pcie, .ptus, .sent] [.ALM_ACTIVE, .ALM_LATCH, .PRT_PTU_STAT, .PRT_REV_STAT] d (Dev.addDelay d p x) := by
  unfold Dev.addDelay
  (try dsimp only)
  repeat' first
    | with_reducible exact Only.refl
    | with_reducible refine Only.ptuBit ?_ _ _ _ (by decide) (by decide)
    | with_reducible refine Only.onPtu ?_ _ _ (by decide)
    | with_reducible refine Only.portEvent ?_ _ _ _ _ (by decide)
    | with_reducible refine Only.restartDelay ?_ _ (by decide) (by decide)
    | with_reducible refine Only.revAdvance ?_ _ (by decide) (by decide)
    | split
    | dsimp only
theorem Only.addDelay {PP : List Part} {RR : List Reg} {xx d : Dev} (hh : Only PP RR xx d) (p : Nat) (x : Int)
    (hP : ∀ p ∈ ([.counters, .latches, .ring, .log, .pcie, .ptus, .sent] : List Part), p ∈ PP) (hR : ∀ r ∈ ([.ALM_ACTIVE, .ALM_LATCH, .PRT_PTU_STAT, .PRT_REV_STAT] : List Reg), r ∈ RR) :
    Only PP RR xx (Dev.addDelay d p x) := hh.andThen (only_addDelay d p x) hP hR
theorem only_judgeL1 (d : Dev) (p : Nat) : Only [] [.PRT_PTU_STAT] d (Dev.judgeL1 d p) := by
  unfold Dev.judgeL1
  (try dsimp only)
  repeat' first
    | with_reducible exact Only.refl
    | with_reducible refine Only.ptuBit ?_ _ _ _ (by decide) (by decide)
    | split
    | dsimp only
theorem Only.judgeL1 {PP : List Part} {RR : List Reg} {xx d : Dev} (hh : Only PP RR xx d) (p : Nat)
    (hP : ∀ p ∈ ([] : List Part), p ∈ PP) (hR : ∀ r ∈ ([.PRT_PTU_STAT] : List Reg), r ∈ RR) :
    Only PP RR xx (Dev.judgeL1 d p) := hh.andThen (only_judgeL1 d p) hP hR
theorem only_judgePortCand (d : Dev) (p : Nat) : Only [.cands, .counters, .latches, .ring, .log, .pcie, .sent] [.ALM_ACTIVE, .ALM_LATCH, .PRT_PTU_STAT, .RSEL_CAND_STAT] d (Dev.judgePortCand d p) := by
  unfold Dev.judgePortCand
  (try dsimp only)
  repeat' first
    | with_reducible exact Only.refl
    | with_reducible refine Only.judgeL1 ?_ _ (by decide) (by decide)
    | with_reducible refine Only.setActive ?_ _ _ (by decide) (by decide)
    | split
    | dsimp only
theorem Only.judgePortCand {PP : List Part} {RR : List Reg} {xx d : Dev} (hh : Only PP RR xx d) (p : Nat)
    (hP : ∀ p ∈ ([.cands, .counters, .latches, .ring, .log, .pcie, .sent] : List Part), p ∈ PP) (hR : ∀ r ∈ ([.ALM_ACTIVE, .ALM_LATCH, .PRT_PTU_STAT, .RSEL_CAND_STAT] : List Reg), r ∈ RR) :
    Only PP RR xx (Dev.judgePortCand d p) := hh.andThen (only_judgePortCand d p) hP hR
theorem only_setPtpState (d : Dev) (p st : Nat) : Only [.cands, .chans, .cpMail, .counters, .latches, .ring, .log, .pcie, .ptus, .sys, .sent, .freeCtr] [.ALM_ACTIVE, .ALM_LATCH, .PRT_PTU_STAT, .PRT_REV_STAT, .PWR_STAT, .RSEL_CAND_STAT] d (Dev.setPtpState d p st) := by
  unfold Dev.setPtpState
  (try dsimp only)
  repeat' first
    | with_reducible exact Only.refl
    | with_reducible refine Only.setMark ?_ _ _ _ _ (by decide) (by decide)
    | with_reducible refine Only.onPtu ?_ _ _ (by decide)
    | with_reducible refine Only.judgePortCand ?_ _ (by decide) (by decide)
    | with_reducible refine Only.notice ?_ _ (by decide) (by decide)
    | with_reducible refine Only.revFail ?_ _ _ (by decide) (by decide)
    | with_reducible refine Only.when ?_ _ _ ?_
    | split
    | dsimp only
theorem Only.setPtpState {PP : List Part} {RR : List Reg} {xx d : Dev} (hh : Only PP RR xx d) (p st : Nat)
    (hP : ∀ p ∈ ([.cands, .chans, .cpMail, .counters, .latches, .ring, .log, .pcie, .ptus, .sys, .sent, .freeCtr] : List Part), p ∈ PP) (hR : ∀ r ∈ ([.ALM_ACTIVE, .ALM_LATCH, .PRT_PTU_STAT, .PRT_REV_STAT, .PWR_STAT, .RSEL_CAND_STAT] : List Reg), r ∈ RR) :
    Only PP RR xx (Dev.setPtpState d p st) := hh.andThen (only_setPtpState d p st) hP hR
theorem only_setPinLost (d : Dev) (p : Nat) (b : Bool) : Only [.counters, .latches, .ring, .log, .pcie, .sent] [.ALM_ACTIVE, .ALM_LATCH, .PRT_PTU_STAT] d (Dev.setPinLost d p b) := by
  unfold Dev.setPinLost
  (try dsimp only)
  repeat' first
    | with_reducible exact Only.refl
    | with_reducible refine Only.ptuBit ?_ _ _ _ (by decide) (by decide)
    | with_reducible refine Only.cond ?_ _ _ (by decide)
    | split
    | dsimp only
theorem Only.setPinLost {PP : List Part} {RR : List Reg} {xx d : Dev} (hh : Only PP RR xx d) (p : Nat) (b : Bool)
    (hP : ∀ p ∈ ([.counters, .latches, .ring, .log, .pcie, .sent] : List Part), p ∈ PP) (hR : ∀ r ∈ ([.ALM_ACTIVE, .ALM_LATCH, .PRT_PTU_STAT] : List Reg), r ∈ RR) :
    Only PP RR xx (Dev.setPinLost d p b) := hh.andThen (only_setPinLost d p b) hP hR
theorem only_ptpBegin (d : Dev) (p : Nat) : Only [.cands, .chans, .cpMail, .counters, .latches, .ring, .log, .pcie, .ptus, .sys, .sent, .freeCtr] [.ALM_ACTIVE, .ALM_LATCH, .PRT_PTU_STAT, .PRT_REV_STAT, .PWR_STAT, .RSEL_CAND_STAT] d (Dev.ptpBegin d p) := by
  unfold Dev.ptpBegin
  (try dsimp only)
  repeat' first
    | with_reducible exact Only.refl
    | with_reducible refine Only.onPtu ?_ _ _ (by decide)
    | with_reducible refine Only.setPtpState ?_ _ _ (by decide) (by decide)
    | split
    | dsimp only
theorem Only.ptpBegin {PP : List Part} {RR : List Reg} {xx d : Dev} (hh : Only PP RR xx d) (p : Nat)
    (hP : ∀ p ∈ ([.cands, .chans, .cpMail, .counters, .latches, .ring, .log, .pcie, .ptus, .sys, .sent, .freeCtr] : List Part), p ∈ PP) (hR : ∀ r ∈ ([.ALM_ACTIVE, .ALM_LATCH, .PRT_PTU_STAT, .PRT_REV_STAT, .PWR_STAT, .RSEL_CAND_STAT] : List Reg), r ∈ RR) :
    Only PP RR xx (Dev.ptpBegin d p) := hh.andThen (only_ptpBegin d p) hP hR
theorem only_passTheta (d : Dev) (p : Nat) (theta : Int) : Only [.cands] [] d (Dev.passTheta d p theta) := by
  unfold Dev.passTheta
  (try dsimp only)
  repeat' first
    | with_reducible exact Only.refl
    | with_reducible refine Only.onCand ?_ _ _ (by decide)
    | split
    | dsimp only
theorem Only.passTheta {PP : List Part} {RR : List Reg} {xx d : Dev} (hh : Only PP RR xx d) (p : Nat) (theta : Int)
    (hP : ∀ p ∈ ([.cands] : List Part), p ∈ PP) (hR : ∀ r ∈ ([] : List Reg), r ∈ RR) :
    Only PP RR xx (Dev.passTheta d p theta) := hh.andThen (only_passTheta d p theta) hP hR
theorem only_takeTheta (d : Dev) (p : Nat) (theta : Int) (phi : Option Int) : Only [.cands, .counters, .latches, .ring, .log, .pcie, .ptus, .sent] [.ALM_ACTIVE, .ALM_LATCH, .PRT_PTU_STAT, .PRT_REV_STAT] d (Dev.takeTheta d p theta phi) := by
  unfold Dev.takeTheta
  (try dsimp only)
  repeat' first
    | with_reducible exact Only.refl
    | with_reducible refine Only.onPtu ?_ _ _ (by decide)
    | with_reducible refine Only.raise ?_ _ (by decide)
    | with_reducible refine Only.portEvent ?_ _ _ _ _ (by decide)
    | with_reducible refine Only.judgeL1 ?_ _ (by decide) (by decide)
    | with_reducible refine Only.passTheta ?_ _ _ (by decide) (by decide)
    | with_reducible refine Only.revFail ?_ _ _ (by decide) (by decide)
    | split
    | dsimp only
theorem Only.takeTheta {PP : List Part} {RR : List Reg} {xx d : Dev} (hh : Only PP RR xx d) (p : Nat) (theta : Int) (phi : Option Int)
    (hP : ∀ p ∈ ([.cands, .counters, .latches, .ring, .log, .pcie, .ptus, .sent] : List Part), p ∈ PP) (hR : ∀ r ∈ ([.ALM_ACTIVE, .ALM_LATCH, .PRT_PTU_STAT, .PRT_REV_STAT] : List Reg), r ∈ RR) :
    Only PP RR xx (Dev.takeTheta d p theta phi) := hh.andThen (only_takeTheta d p theta phi) hP hR
theorem only_syncTheta (d : Dev) (p : Nat) (t1 t2 : Int) (frozen : Bool) (phi : Option Int) : Only [.cands, .counters, .latches, .ring, .log, .pcie, .ptus, .sent] [.ALM_ACTIVE, .ALM_LATCH, .PRT_PTU_STAT, .PRT_REV_STAT] d (Dev.syncTheta d p t1 t2 frozen phi) := by
  unfold Dev.syncTheta
  (try dsimp only)
  repeat' first
    | with_reducible exact Only.refl
    | with_reducible refine Only.takeTheta ?_ _ _ _ (by decide) (by decide)
    | split
    | dsimp only
theorem Only.syncTheta {PP : List Part} {RR : List Reg} {xx d : Dev} (hh : Only PP RR xx d) (p : Nat) (t1 t2 : Int) (frozen : Bool) (phi : Option Int)
    (hP : ∀ p ∈ ([.cands, .counters, .latches, .ring, .log, .pcie, .ptus, .sent] : List Part), p ∈ PP) (hR : ∀ r ∈ ([.ALM_ACTIVE, .ALM_LATCH, .PRT_PTU_STAT, .PRT_REV_STAT] : List Reg), r ∈ RR) :
    Only PP RR xx (Dev.syncTheta d p t1 t2 frozen phi) := hh.andThen (only_syncTheta d p t1 t2 frozen phi) hP hR
theorem only_ptusStepped (d : Dev) (x : Int) : Only [.ptus] [] d (Dev.ptusStepped d x) := by
  unfold Dev.ptusStepped
  (try dsimp only)
  repeat' first
    | with_reducible exact Only.refl
    | split
    | dsimp only
  all_goals first
    | with_reducible refine Only.upd_ptus ?_ _ (by decide)
    | skip
  all_goals (repeat' first
      | with_reducible exact Only.refl
      | split
      | dsimp only)
  all_goals first
    | with_reducible refine Only.upd_ptus ?_ _ (by decide)
    | skip
  all_goals (repeat' first
      | with_reducible exact Only.refl
      | split
      | dsimp only)
theorem Only.ptusStepped {PP : List Part} {RR : List Reg} {xx d : Dev} (hh : Only PP RR xx d) (x : Int)
    (hP : ∀ p ∈ ([.ptus] : List Part), p ∈ PP) (hR : ∀ r ∈ ([] : List Reg), r ∈ RR) :
    Only PP RR xx (Dev.ptusStepped d x) := hh.andThen (only_ptusStepped d x) hP hR

/-! ## PtpMsg -/

theorem only_ptpLeaves (d : Dev) (p : Nat) (b : List Byte) : Only [.counters, .latches, .ring, .log, .pcie, .sent] [.ALM_ACTIVE, .ALM_LATCH] d (Dev.ptpLeaves d p b) := by
  unfold Dev.ptpLeaves
  (try dsimp only)
  repeat' first
    | with_reducible exact Only.refl
    | with_reducible refine Only.emit ?_ _ (by decide)
    | with_reducible refine Only.countPort ?_ _ _ _ (by decide)
    | with_reducible refine Only.countFrame ?_ _ _ _ (by decide) (by decide)
    | split
    | dsimp only
theorem Only.ptpLeaves {PP : List Part} {RR : List Reg} {xx d : Dev} (hh : Only PP RR xx d) (p : Nat) (b : List Byte)
    (hP : ∀ p ∈ ([.counters, .latches, .ring, .log, .pcie, .sent] : List Part), p ∈ PP) (hR : ∀ r ∈ ([.ALM_ACTIVE, .ALM_LATCH] : List Reg), r ∈ RR) :
    Only PP RR xx (Dev.ptpLeaves d p b) := hh.andThen (only_ptpLeaves d p b) hP hR

/-! ## Stream -/

theorem only_passGate (d : Dev) (g : Nat) (t : Ticks) (len : Nat) : Only [.counters, .latches, .ring, .log, .pcie, .sw, .sent] [.ALM_ACTIVE, .ALM_LATCH, .SGATE_W5] d (Dev.passGate d g t len).1 := by
  unfold Dev.passGate
  (try dsimp only)
  repeat' first
    | with_reducible exact Only.refl
    | with_reducible refine Only.set ?_ _ _ _ (by decide)
    | with_reducible refine Only.onSw ?_ _ (by decide)
    | with_reducible refine Only.devEvent ?_ _ _ _ _ (by decide)
    | with_reducible refine Only.when ?_ _ _ ?_
    | split
    | dsimp only
theorem Only.passGate {PP : List Part} {RR : List Reg} {xx d : Dev} (hh : Only PP RR xx d) (g : Nat) (t : Ticks) (len : Nat)
    (hP : ∀ p ∈ ([.counters, .latches, .ring, .log, .pcie, .sw, .sent] : List Part), p ∈ PP) (hR : ∀ r ∈ ([.ALM_ACTIVE, .ALM_LATCH, .SGATE_W5] : List Reg), r ∈ RR) :
    Only PP RR xx (Dev.passGate d g t len).1 := hh.andThen (only_passGate d g t len) hP hR
theorem only_setMeter (d : Dev) (m c x : Nat) : Only [.sw] [] d (Dev.setMeter d m c x) := by
  unfold Dev.setMeter
  (try dsimp only)
  repeat' first
    | with_reducible exact Only.refl
    | with_reducible refine Only.onSw ?_ _ (by decide)
    | split
    | dsimp only
theorem Only.setMeter {PP : List Part} {RR : List Reg} {xx d : Dev} (hh : Only PP RR xx d) (m c x : Nat)
    (hP : ∀ p ∈ ([.sw] : List Part), p ∈ PP) (hR : ∀ r ∈ ([] : List Reg), r ∈ RR) :
    Only PP RR xx (Dev.setMeter d m c x) := hh.andThen (only_setMeter d m c x) hP hR
theorem only_meterFrame (d : Dev) (m len : Nat) (dei : Bool) : Only [.counters, .latches, .ring, .log, .pcie, .sw, .sent] [.ALM_ACTIVE, .ALM_LATCH] d (Dev.meterFrame d m len dei).1 := by
  unfold Dev.meterFrame
  (try dsimp only)
  repeat' first
    | with_reducible exact Only.refl
    | with_reducible refine Only.devEvent ?_ _ _ _ _ (by decide)
    | with_reducible refine Only.setMeter ?_ _ _ _ (by decide) (by decide)
    | split
    | dsimp only
theorem Only.meterFrame {PP : List Part} {RR : List Reg} {xx d : Dev} (hh : Only PP RR xx d) (m len : Nat) (dei : Bool)
    (hP : ∀ p ∈ ([.counters, .latches, .ring, .log, .pcie, .sw, .sent] : List Part), p ∈ PP) (hR : ∀ r ∈ ([.ALM_ACTIVE, .ALM_LATCH] : List Reg), r ∈ RR) :
    Only PP RR xx (Dev.meterFrame d m len dei).1 := hh.andThen (only_meterFrame d m len dei) hP hR
theorem only_nextSeq (d : Dev) (i : Nat) : Only [] [.SEQGEN_W0] d (Dev.nextSeq d i).1 := by
  unfold Dev.nextSeq
  (try dsimp only)
  repeat' first
    | with_reducible exact Only.refl
    | with_reducible refine Only.set ?_ _ _ _ (by decide)
    | split
    | dsimp only
theorem Only.nextSeq {PP : List Part} {RR : List Reg} {xx d : Dev} (hh : Only PP RR xx d) (i : Nat)
    (hP : ∀ p ∈ ([] : List Part), p ∈ PP) (hR : ∀ r ∈ ([.SEQGEN_W0] : List Reg), r ∈ RR) :
    Only PP RR xx (Dev.nextSeq d i).1 := hh.andThen (only_nextSeq d i) hP hR
theorem only_setHistory (d : Dev) (i h : Nat) : Only [] [.RECOV_W5, .RECOV_W6] d (Dev.setHistory d i h) := by
  unfold Dev.setHistory
  (try dsimp only)
  repeat' first
    | with_reducible exact Only.refl
    | with_reducible refine Only.set ?_ _ _ _ (by decide)
    | split
    | dsimp only
theorem Only.setHistory {PP : List Part} {RR : List Reg} {xx d : Dev} (hh : Only PP RR xx d) (i h : Nat)
    (hP : ∀ p ∈ ([] : List Part), p ∈ PP) (hR : ∀ r ∈ ([.RECOV_W5, .RECOV_W6] : List Reg), r ∈ RR) :
    Only PP RR xx (Dev.setHistory d i h) := hh.andThen (only_setHistory d i h) hP hR
theorem only_recovEvent (d : Dev) (i e : Nat) (n : Nat) : Only [.counters, .latches, .ring, .log, .pcie, .sent] [.ALM_ACTIVE, .ALM_LATCH] d (Dev.recovEvent d i e n) := by
  unfold Dev.recovEvent
  (try dsimp only)
  repeat' first
    | with_reducible exact Only.refl
    | with_reducible refine Only.devEvent ?_ _ _ _ _ (by decide)
    | split
    | dsimp only
theorem Only.recovEvent {PP : List Part} {RR : List Reg} {xx d : Dev} (hh : Only PP RR xx d) (i e : Nat) (n : Nat)
    (hP : ∀ p ∈ ([.counters, .latches, .ring, .log, .pcie, .sent] : List Part), p ∈ PP) (hR : ∀ r ∈ ([.ALM_ACTIVE, .ALM_LATCH] : List Reg), r ∈ RR) :
    Only PP RR xx (Dev.recovEvent d i e n) := hh.andThen (only_recovEvent d i e n) hP hR
theorem only_recover (d : Dev) (i s : Nat) : Only [.counters, .latches, .ring, .log, .pcie, .sent] [.ALM_ACTIVE, .ALM_LATCH, .RECOV_W3, .RECOV_W5, .RECOV_W6] d (Dev.recover d i s).1 := by
  unfold Dev.recover
  (try dsimp only)
  repeat' first
    | with_reducible exact Only.refl
    | with_reducible refine Only.set ?_ _ _ _ (by decide)
    | with_reducible refine Only.recovEvent ?_ _ _ _ (by decide) (by decide)
    | with_reducible refine Only.setHistory ?_ _ _ (by decide) (by decide)
    | with_reducible refine Only.when ?_ _ _ ?_
    | split
    | dsimp only
theorem Only.recover {PP : List Part} {RR : List Reg} {xx d : Dev} (hh : Only PP RR xx d) (i s : Nat)
    (hP : ∀ p ∈ ([.counters, .latches, .ring, .log, .pcie, .sent] : List Part), p ∈ PP) (hR : ∀ r ∈ ([.ALM_ACTIVE, .ALM_LATCH, .RECOV_W3, .RECOV_W5, .RECOV_W6] : List Reg), r ∈ RR) :
    Only PP RR xx (Dev.recover d i s).1 := hh.andThen (only_recover d i s) hP hR
theorem only_refreshHeld (d : Dev) (i : Nat) : Only [] [.RECOV_W4] d (Dev.refreshHeld d i) := by
  unfold Dev.refreshHeld
  (try dsimp only)
  repeat' first
    | with_reducible exact Only.refl
    | with_reducible refine Only.set ?_ _ _ _ (by decide)
    | split
    | dsimp only
theorem Only.refreshHeld {PP : List Part} {RR : List Reg} {xx d : Dev} (hh : Only PP RR xx d) (i : Nat)
    (hP : ∀ p ∈ ([] : List Part), p ∈ PP) (hR : ∀ r ∈ ([.RECOV_W4] : List Reg), r ∈ RR) :
    Only PP RR xx (Dev.refreshHeld d i) := hh.andThen (only_refreshHeld d i) hP hR

/-! ## Fdb -/

theorem only_fdbPut (d : Dev) (i w0 w1 w2 w3 : Nat) : Only [] [.FDB_W0, .FDB_W1, .FDB_W2, .FDB_W3] d (Dev.fdbPut d i w0 w1 w2 w3) := by
  unfold Dev.fdbPut
  (try dsimp only)
  repeat' first
    | with_reducible exact Only.refl
    | with_reducible refine Only.setWord ?_ _ _ _ (by decide)
    | split
    | dsimp only
theorem Only.fdbPut {PP : List Part} {RR : List Reg} {xx d : Dev} (hh : Only PP RR xx d) (i w0 w1 w2 w3 : Nat)
    (hP : ∀ p ∈ ([] : List Part), p ∈ PP) (hR : ∀ r ∈ ([.FDB_W0, .FDB_W1, .FDB_W2, .FDB_W3] : List Reg), r ∈ RR) :
    Only PP RR xx (Dev.fdbPut d i w0 w1 w2 w3) := hh.andThen (only_fdbPut d i w0 w1 w2 w3) hP hR
theorem only_fdbDrop (d : Dev) (i : Nat) : Only [] [.FDB_W0, .FDB_W1, .FDB_W2, .FDB_W3] d (Dev.fdbDrop d i) := by
  unfold Dev.fdbDrop
  (try dsimp only)
  repeat' first
    | with_reducible exact Only.refl
    | with_reducible refine Only.fdbPut ?_ _ _ _ _ _ (by decide) (by decide)
    | split
    | dsimp only
theorem Only.fdbDrop {PP : List Part} {RR : List Reg} {xx d : Dev} (hh : Only PP RR xx d) (i : Nat)
    (hP : ∀ p ∈ ([] : List Part), p ∈ PP) (hR : ∀ r ∈ ([.FDB_W0, .FDB_W1, .FDB_W2, .FDB_W3] : List Reg), r ∈ RR) :
    Only PP RR xx (Dev.fdbDrop d i) := hh.andThen (only_fdbDrop d i) hP hR
theorem only_learnSa (d : Dev) (vid mac p : Nat) : Only [.counters, .latches, .ring, .log, .pcie, .sent] [.ALM_ACTIVE, .ALM_LATCH, .FDB_W0, .FDB_W1, .FDB_W2, .FDB_W3] d (Dev.learnSa d vid mac p) := by
  unfold Dev.learnSa
  (try dsimp only)
  repeat' first
    | with_reducible exact Only.refl
    | with_reducible refine Only.set ?_ _ _ _ (by decide)
    | with_reducible refine Only.countDev ?_ _ _ (by decide)
    | with_reducible refine Only.fdbPut ?_ _ _ _ _ _ (by decide) (by decide)
    | with_reducible refine Only.when ?_ _ _ ?_
    | split
    | dsimp only
theorem Only.learnSa {PP : List Part} {RR : List Reg} {xx d : Dev} (hh : Only PP RR xx d) (vid mac p : Nat)
    (hP : ∀ p ∈ ([.counters, .latches, .ring, .log, .pcie, .sent] : List Part), p ∈ PP) (hR : ∀ r ∈ ([.ALM_ACTIVE, .ALM_LATCH, .FDB_W0, .FDB_W1, .FDB_W2, .FDB_W3] : List Reg), r ∈ RR) :
    Only PP RR xx (Dev.learnSa d vid mac p) := hh.andThen (only_learnSa d vid mac p) hP hR
theorem only_ageEntry (d : Dev) (i : Nat) : Only [] [.FDB_W0, .FDB_W1, .FDB_W2, .FDB_W3] d (Dev.ageEntry d i) := by
  unfold Dev.ageEntry
  (try dsimp only)
  repeat' first
    | with_reducible exact Only.refl
    | with_reducible refine Only.set ?_ _ _ _ (by decide)
    | with_reducible refine Only.fdbDrop ?_ _ (by decide) (by decide)
    | split
    | dsimp only
theorem Only.ageEntry {PP : List Part} {RR : List Reg} {xx d : Dev} (hh : Only PP RR xx d) (i : Nat)
    (hP : ∀ p ∈ ([] : List Part), p ∈ PP) (hR : ∀ r ∈ ([.FDB_W0, .FDB_W1, .FDB_W2, .FDB_W3] : List Reg), r ∈ RR) :
    Only PP RR xx (Dev.ageEntry d i) := hh.andThen (only_ageEntry d i) hP hR
theorem only_ageingSweep (d : Dev) : Only [] [.FDB_W0, .FDB_W1, .FDB_W2, .FDB_W3] d (Dev.ageingSweep d) := by
  unfold Dev.ageingSweep
  (try dsimp only)
  repeat' first
    | with_reducible exact Only.refl
    | with_reducible refine Only.ageEntry ?_ _ (by decide) (by decide)
    | with_reducible refine Only.each ?_ _ _ (fun _ _ => ?_)
    | split
    | dsimp only
theorem Only.ageingSweep {PP : List Part} {RR : List Reg} {xx d : Dev} (hh : Only PP RR xx d) 
    (hP : ∀ p ∈ ([] : List Part), p ∈ PP) (hR : ∀ r ∈ ([.FDB_W0, .FDB_W1, .FDB_W2, .FDB_W3] : List Reg), r ∈ RR) :
    Only PP RR xx (Dev.ageingSweep d) := hh.andThen (only_ageingSweep d) hP hR
theorem only_fdbResult (d : Dev) (r : Nat) : Only [] [.SW_FDB_CMD] d (Dev.fdbResult d r) := by
  unfold Dev.fdbResult
  (try dsimp only)
  repeat' first
    | with_reducible exact Only.refl
    | with_reducible refine Only.set ?_ _ _ _ (by decide)
    | split
    | dsimp only
theorem Only.fdbResult {PP : List Part} {RR : List Reg} {xx d : Dev} (hh : Only PP RR xx d) (r : Nat)
    (hP : ∀ p ∈ ([] : List Part), p ∈ PP) (hR : ∀ r ∈ ([.SW_FDB_CMD] : List Reg), r ∈ RR) :
    Only PP RR xx (Dev.fdbResult d r) := hh.andThen (only_fdbResult d r) hP hR
theorem only_fdbLookup (d : Dev) : Only [] [.SW_FDB_CMD, .SW_FDB_DATA, .SW_FDB_MASK] d (Dev.fdbLookup d) := by
  unfold Dev.fdbLookup
  (try dsimp only)
  repeat' first
    | with_reducible exact Only.refl
    | with_reducible refine Only.set ?_ _ _ _ (by decide)
    | with_reducible refine Only.setWord ?_ _ _ _ (by decide)
    | with_reducible refine Only.fdbResult ?_ _ (by decide) (by decide)
    | split
    | dsimp only
theorem Only.fdbLookup {PP : List Part} {RR : List Reg} {xx d : Dev} (hh : Only PP RR xx d) 
    (hP : ∀ p ∈ ([] : List Part), p ∈ PP) (hR : ∀ r ∈ ([.SW_FDB_CMD, .SW_FDB_DATA, .SW_FDB_MASK] : List Reg), r ∈ RR) :
    Only PP RR xx (Dev.fdbLookup d) := hh.andThen (only_fdbLookup d) hP hR
theorem only_fdbInsert (d : Dev) : Only [] [.FDB_W0, .FDB_W1, .FDB_W2, .FDB_W3, .SW_FDB_CMD] d (Dev.fdbInsert d) := by
  unfold Dev.fdbInsert
  (try dsimp only)
  repeat' first
    | with_reducible exact Only.refl
    | with_reducible refine Only.set ?_ _ _ _ (by decide)
    | with_reducible refine Only.fdbPut ?_ _ _ _ _ _ (by decide) (by decide)
    | with_reducible refine Only.fdbResult ?_ _ (by decide) (by decide)
    | split
    | dsimp only
theorem Only.fdbInsert {PP : List Part} {RR : List Reg} {xx d : Dev} (hh : Only PP RR xx d) 
    (hP : ∀ p ∈ ([] : List Part), p ∈ PP) (hR : ∀ r ∈ ([.FDB_W0, .FDB_W1, .FDB_W2, .FDB_W3, .SW_FDB_CMD] : List Reg), r ∈ RR) :
    Only PP RR xx (Dev.fdbInsert d) := hh.andThen (only_fdbInsert d) hP hR
theorem only_fdbDelete (d : Dev) : Only [] [.FDB_W0, .FDB_W1, .FDB_W2, .FDB_W3, .SW_FDB_CMD] d (Dev.fdbDelete d) := by
  unfold Dev.fdbDelete
  (try dsimp only)
  repeat' first
    | with_reducible exact Only.refl
    | with_reducible refine Only.fdbDrop ?_ _ (by decide) (by decide)
    | with_reducible refine Only.fdbResult ?_ _ (by decide) (by decide)
    | split
    | dsimp only
theorem Only.fdbDelete {PP : List Part} {RR : List Reg} {xx d : Dev} (hh : Only PP RR xx d) 
    (hP : ∀ p ∈ ([] : List Part), p ∈ PP) (hR : ∀ r ∈ ([.FDB_W0, .FDB_W1, .FDB_W2, .FDB_W3, .SW_FDB_CMD] : List Reg), r ∈ RR) :
    Only PP RR xx (Dev.fdbDelete d) := hh.andThen (only_fdbDelete d) hP hR
theorem only_fdbRead (d : Dev) (i : Nat) : Only [] [.SW_FDB_CMD, .SW_FDB_DATA, .SW_FDB_KEY_HI, .SW_FDB_KEY_LO, .SW_FDB_MASK] d (Dev.fdbRead d i) := by
  unfold Dev.fdbRead
  (try dsimp only)
  repeat' first
    | with_reducible exact Only.refl
    | with_reducible refine Only.set ?_ _ _ _ (by decide)
    | with_reducible refine Only.setWord ?_ _ _ _ (by decide)
    | with_reducible refine Only.fdbResult ?_ _ (by decide) (by decide)
    | split
    | dsimp only
theorem Only.fdbRead {PP : List Part} {RR : List Reg} {xx d : Dev} (hh : Only PP RR xx d) (i : Nat)
    (hP : ∀ p ∈ ([] : List Part), p ∈ PP) (hR : ∀ r ∈ ([.SW_FDB_CMD, .SW_FDB_DATA, .SW_FDB_KEY_HI, .SW_FDB_KEY_LO, .SW_FDB_MASK] : List Reg), r ∈ RR) :
    Only PP RR xx (Dev.fdbRead d i) := hh.andThen (only_fdbRead d i) hP hR
theorem only_fdbFlush (d : Dev) (byPort byVid staticToo : Bool) : Only [.sw] [.FDB_W0, .FDB_W1, .FDB_W2, .FDB_W3, .SW_FDB_CMD] d (Dev.fdbFlush d byPort byVid staticToo) := by
  unfold Dev.fdbFlush
  (try dsimp only)
  repeat' first
    | with_reducible exact Only.refl
    | with_reducible refine Only.setB ?_ _ _ _ (by decide)
    | with_reducible refine Only.onSw ?_ _ (by decide)
    | with_reducible refine Only.fdbDrop ?_ _ (by decide) (by decide)
    | with_reducible refine Only.fdbResult ?_ _ (by decide) (by decide)
    | with_reducible refine Only.each ?_ _ _ (fun _ _ => ?_)
    | split
    | dsimp only
theorem Only.fdbFlush {PP : List Part} {RR : List Reg} {xx d : Dev} (hh : Only PP RR xx d) (byPort byVid staticToo : Bool)
    (hP : ∀ p ∈ ([.sw] : List Part), p ∈ PP) (hR : ∀ r ∈ ([.FDB_W0, .FDB_W1, .FDB_W2, .FDB_W3, .SW_FDB_CMD] : List Reg), r ∈ RR) :
    Only PP RR xx (Dev.fdbFlush d byPort byVid staticToo) := hh.andThen (only_fdbFlush d byPort byVid staticToo) hP hR
theorem only_fdbFlushDone (d : Dev) : Only [.sw] [.SW_FDB_CMD] d (Dev.fdbFlushDone d) := by
  unfold Dev.fdbFlushDone
  (try dsimp only)
  repeat' first
    | with_reducible exact Only.refl
    | with_reducible refine Only.onSw ?_ _ (by decide)
    | with_reducible refine Only.fdbResult ?_ _ (by decide) (by decide)
    | split
    | dsimp only
theorem Only.fdbFlushDone {PP : List Part} {RR : List Reg} {xx d : Dev} (hh : Only PP RR xx d) 
    (hP : ∀ p ∈ ([.sw] : List Part), p ∈ PP) (hR : ∀ r ∈ ([.SW_FDB_CMD] : List Reg), r ∈ RR) :
    Only PP RR xx (Dev.fdbFlushDone d) := hh.andThen (only_fdbFlushDone d) hP hR

/-! ## Forward -/

theorem only_admitFrame (d : Dev) (fid : Nat) : Only [.syns, .outs, .counters, .latches, .ring, .log, .pcie, .sw, .ports, .sys, .sent, .freeCtr] [.ALM_ACTIVE, .ALM_LATCH, .LANE_QUAD_STAT, .OUT_STAT, .PRT_Q_STAT, .PWR_STAT, .SW_BUF_GATED, .SYN_CMD, .SYN_STAT] d (Dev.admitFrame d fid) := by
  unfold Dev.admitFrame
  (try dsimp only)
  repeat' first
    | with_reducible exact Only.refl
    | with_reducible refine Only.judgeBanks ?_ (by decide) (by decide)
    | with_reducible refine Only.offer ?_ _ _ _ _ _ (by decide) (by decide)
    | with_reducible refine Only.each ?_ _ _ (fun _ _ => ?_)
    | split
    | dsimp only
theorem Only.admitFrame {PP : List Part} {RR : List Reg} {xx d : Dev} (hh : Only PP RR xx d) (fid : Nat)
    (hP : ∀ p ∈ ([.syns, .outs, .counters, .latches, .ring, .log, .pcie, .sw, .ports, .sys, .sent, .freeCtr] : List Part), p ∈ PP) (hR : ∀ r ∈ ([.ALM_ACTIVE, .ALM_LATCH, .LANE_QUAD_STAT, .OUT_STAT, .PRT_Q_STAT, .PWR_STAT, .SW_BUF_GATED, .SYN_CMD, .SYN_STAT] : List Reg), r ∈ RR) :
    Only PP RR xx (Dev.admitFrame d fid) := hh.andThen (only_admitFrame d fid) hP hR
theorem only_dropUnstored (d : Dev) (fid : Nat) : Only [.sw] [] d (Dev.dropUnstored d fid) := by
  unfold Dev.dropUnstored
  (try dsimp only)
  repeat' first
    | with_reducible exact Only.refl
    | with_reducible refine Only.onFrame ?_ _ _ (by decide) (by decide)
    | split
    | dsimp only
theorem Only.dropUnstored {PP : List Part} {RR : List Reg} {xx d : Dev} (hh : Only PP RR xx d) (fid : Nat)
    (hP : ∀ p ∈ ([.sw] : List Part), p ∈ PP) (hR : ∀ r ∈ ([] : List Reg), r ∈ RR) :
    Only PP RR xx (Dev.dropUnstored d fid) := hh.andThen (only_dropUnstored d fid) hP hR
theorem only_sendHeld (d : Dev) (i : Nat) (h : Hold) : Only [.syns, .outs, .counters, .latches, .ring, .log, .pcie, .sw, .ports, .sys, .sent, .freeCtr] [.ALM_ACTIVE, .ALM_LATCH, .LANE_QUAD_STAT, .OUT_STAT, .PRT_Q_STAT, .PWR_STAT, .RECOV_W4, .SW_BUF_GATED, .SYN_CMD, .SYN_STAT] d (Dev.sendHeld d i h) := by
  unfold Dev.sendHeld
  (try dsimp only)
  repeat' first
    | with_reducible exact Only.refl
    | with_reducible refine Only.set ?_ _ _ _ (by decide)
    | with_reducible refine Only.onSw ?_ _ (by decide)
    | with_reducible refine Only.admitFrame ?_ _ (by decide) (by decide)
    | with_reducible refine Only.discardCause ?_ _ _ (by decide) (by decide)
    | with_reducible refine Only.recovEvent ?_ _ _ _ (by decide) (by decide)
    | with_reducible refine Only.refreshHeld ?_ _ (by decide) (by decide)
    | with_reducible refine Only.release ?_ _ (by decide) (by decide)
    | split
    | dsimp only
theorem Only.sendHeld {PP : List Part} {RR : List Reg} {xx d : Dev} (hh : Only PP RR xx d) (i : Nat) (h : Hold)
    (hP : ∀ p ∈ ([.syns, .outs, .counters, .latches, .ring, .log, .pcie, .sw, .ports, .sys, .sent, .freeCtr] : List Part), p ∈ PP) (hR : ∀ r ∈ ([.ALM_ACTIVE, .ALM_LATCH, .LANE_QUAD_STAT, .OUT_STAT, .PRT_Q_STAT, .PWR_STAT, .RECOV_W4, .SW_BUF_GATED, .SYN_CMD, .SYN_STAT] : List Reg), r ∈ RR) :
    Only PP RR xx (Dev.sendHeld d i h) := hh.andThen (only_sendHeld d i h) hP hR
theorem only_sendNext (d : Dev) (i n : Nat) : Only [.syns, .outs, .counters, .latches, .ring, .log, .pcie, .sw, .ports, .sys, .sent, .freeCtr] [.ALM_ACTIVE, .ALM_LATCH, .LANE_QUAD_STAT, .OUT_STAT, .PRT_Q_STAT, .PWR_STAT, .RECOV_W4, .SW_BUF_GATED, .SYN_CMD, .SYN_STAT] d (Dev.sendNext d i n) := by
  induction n generalizing d with
  | zero => exact .refl
  | succ k ih =>
    unfold Dev.sendNext
    split
    · exact .refl
    · exact (Only.sendHeld .refl _ _ (by decide) (by decide)).trans (ih _)
theorem Only.sendNext {PP : List Part} {RR : List Reg} {xx d : Dev} (hh : Only PP RR xx d) (i n : Nat)
    (hP : ∀ p ∈ ([.syns, .outs, .counters, .latches, .ring, .log, .pcie, .sw, .ports, .sys, .sent, .freeCtr] : List Part), p ∈ PP) (hR : ∀ r ∈ ([.ALM_ACTIVE, .ALM_LATCH, .LANE_QUAD_STAT, .OUT_STAT, .PRT_Q_STAT, .PWR_STAT, .RECOV_W4, .SW_BUF_GATED, .SYN_CMD, .SYN_STAT] : List Reg), r ∈ RR) :
    Only PP RR xx (Dev.sendNext d i n) := hh.andThen (only_sendNext d i n) hP hR
theorem only_releaseUpTo (d : Dev) (i : Nat) (last : Hold) : Only [.syns, .outs, .counters, .latches, .ring, .log, .pcie, .sw, .ports, .sys, .sent, .freeCtr] [.ALM_ACTIVE, .ALM_LATCH, .LANE_QUAD_STAT, .OUT_STAT, .PRT_Q_STAT, .PWR_STAT, .RECOV_W4, .SW_BUF_GATED, .SYN_CMD, .SYN_STAT] d (Dev.releaseUpTo d i last) := by
  unfold Dev.releaseUpTo
  refine Only.trans (Only.each .refl _ _ fun _ _ => ?_) (only_sendNext _ _ _)
  exact Only.sendHeld (Only.when .refl _ _ (Only.recovEvent .refl _ _ _ (by decide) (by decide))) _ _ (by decide) (by decide)
theorem Only.releaseUpTo {PP : List Part} {RR : List Reg} {xx d : Dev} (hh : Only PP RR xx d) (i : Nat) (last : Hold)
    (hP : ∀ p ∈ ([.syns, .outs, .counters, .latches, .ring, .log, .pcie, .sw, .ports, .sys, .sent, .freeCtr] : List Part), p ∈ PP) (hR : ∀ r ∈ ([.ALM_ACTIVE, .ALM_LATCH, .LANE_QUAD_STAT, .OUT_STAT, .PRT_Q_STAT, .PWR_STAT, .RECOV_W4, .SW_BUF_GATED, .SYN_CMD, .SYN_STAT] : List Reg), r ∈ RR) :
    Only PP RR xx (Dev.releaseUpTo d i last) := hh.andThen (only_releaseUpTo d i last) hP hR
theorem only_holdRelease (d : Dev) (i : Nat) : Only [.syns, .outs, .counters, .latches, .ring, .log, .pcie, .sw, .ports, .sys, .sent, .freeCtr] [.ALM_ACTIVE, .ALM_LATCH, .LANE_QUAD_STAT, .OUT_STAT, .PRT_Q_STAT, .PWR_STAT, .RECOV_W4, .SW_BUF_GATED, .SYN_CMD, .SYN_STAT] d (Dev.holdRelease d i) := by
  unfold Dev.holdRelease
  (try dsimp only)
  repeat' first
    | with_reducible exact Only.refl
    | with_reducible refine Only.judgeBanks ?_ (by decide) (by decide)
    | with_reducible refine Only.releaseUpTo ?_ _ _ (by decide) (by decide)
    | split
    | dsimp only
theorem Only.holdRelease {PP : List Part} {RR : List Reg} {xx d : Dev} (hh : Only PP RR xx d) (i : Nat)
    (hP : ∀ p ∈ ([.syns, .outs, .counters, .latches, .ring, .log, .pcie, .sw, .ports, .sys, .sent, .freeCtr] : List Part), p ∈ PP) (hR : ∀ r ∈ ([.ALM_ACTIVE, .ALM_LATCH, .LANE_QUAD_STAT, .OUT_STAT, .PRT_Q_STAT, .PWR_STAT, .RECOV_W4, .SW_BUF_GATED, .SYN_CMD, .SYN_STAT] : List Reg), r ∈ RR) :
    Only PP RR xx (Dev.holdRelease d i) := hh.andThen (only_holdRelease d i) hP hR
theorem only_releaseAll (d : Dev) (i : Nat) : Only [.syns, .outs, .counters, .latches, .ring, .log, .pcie, .sw, .ports, .sys, .sent, .freeCtr] [.ALM_ACTIVE, .ALM_LATCH, .LANE_QUAD_STAT, .OUT_STAT, .PRT_Q_STAT, .PWR_STAT, .RECOV_W4, .SW_BUF_GATED, .SYN_CMD, .SYN_STAT] d (Dev.releaseAll d i) := by
  unfold Dev.releaseAll
  (try dsimp only)
  repeat' first
    | with_reducible exact Only.refl
    | with_reducible refine Only.sendHeld ?_ _ _ (by decide) (by decide)
    | with_reducible refine Only.each ?_ _ _ (fun _ _ => ?_)
    | split
    | dsimp only
theorem Only.releaseAll {PP : List Part} {RR : List Reg} {xx d : Dev} (hh : Only PP RR xx d) (i : Nat)
    (hP : ∀ p ∈ ([.syns, .outs, .counters, .latches, .ring, .log, .pcie, .sw, .ports, .sys, .sent, .freeCtr] : List Part), p ∈ PP) (hR : ∀ r ∈ ([.ALM_ACTIVE, .ALM_LATCH, .LANE_QUAD_STAT, .OUT_STAT, .PRT_Q_STAT, .PWR_STAT, .RECOV_W4, .SW_BUF_GATED, .SYN_CMD, .SYN_STAT] : List Reg), r ∈ RR) :
    Only PP RR xx (Dev.releaseAll d i) := hh.andThen (only_releaseAll d i) hP hR
theorem only_recovTimeout (d : Dev) (i : Nat) : Only [.counters, .latches, .ring, .log, .pcie, .sent] [.ALM_ACTIVE, .ALM_LATCH, .RECOV_W3, .RECOV_W5, .RECOV_W6] d (Dev.recovTimeout d i) := by
  unfold Dev.recovTimeout
  (try dsimp only)
  repeat' first
    | with_reducible exact Only.refl
    | with_reducible refine Only.set ?_ _ _ _ (by decide)
    | with_reducible refine Only.recovEvent ?_ _ _ _ (by decide) (by decide)
    | with_reducible refine Only.setHistory ?_ _ _ (by decide) (by decide)
    | split
    | dsimp only
theorem Only.recovTimeout {PP : List Part} {RR : List Reg} {xx d : Dev} (hh : Only PP RR xx d) (i : Nat)
    (hP : ∀ p ∈ ([.counters, .latches, .ring, .log, .pcie, .sent] : List Part), p ∈ PP) (hR : ∀ r ∈ ([.ALM_ACTIVE, .ALM_LATCH, .RECOV_W3, .RECOV_W5, .RECOV_W6] : List Reg), r ∈ RR) :
    Only PP RR xx (Dev.recovTimeout d i) := hh.andThen (only_recovTimeout d i) hP hR
theorem only_mirCandidate (d : Dev) (s : Nat) : Only [.sw] [] d (Dev.mirCandidate d s).1 := by
  unfold Dev.mirCandidate
  (try dsimp only)
  repeat' first
    | with_reducible exact Only.refl
    | with_reducible refine Only.onSw ?_ _ (by decide)
    | split
    | dsimp only
theorem Only.mirCandidate {PP : List Part} {RR : List Reg} {xx d : Dev} (hh : Only PP RR xx d) (s : Nat)
    (hP : ∀ p ∈ ([.sw] : List Part), p ∈ PP) (hR : ∀ r ∈ ([] : List Reg), r ∈ RR) :
    Only PP RR xx (Dev.mirCandidate d s).1 := hh.andThen (only_mirCandidate d s) hP hR
theorem only_wantCopy (d : Dev) (fid s : Nat) : Only [.sw] [] d (Dev.wantCopy d fid s) := by
  unfold Dev.wantCopy
  (try dsimp only)
  repeat' first
    | with_reducible exact Only.refl
    | with_reducible refine Only.onFrame ?_ _ _ (by decide) (by decide)
    | split
    | dsimp only
theorem Only.wantCopy {PP : List Part} {RR : List Reg} {xx d : Dev} (hh : Only PP RR xx d) (fid s : Nat)
    (hP : ∀ p ∈ ([.sw] : List Part), p ∈ PP) (hR : ∀ r ∈ ([] : List Reg), r ∈ RR) :
    Only PP RR xx (Dev.wantCopy d fid s) := hh.andThen (only_wantCopy d fid s) hP hR
theorem only_mirIngress (d : Dev) (fid p : Nat) (flow : Option Nat) : Only [.sw] [] d (Dev.mirIngress d fid p flow) := by
  unfold Dev.mirIngress
  (try dsimp only)
  repeat' first
    | with_reducible exact Only.refl
    | with_reducible refine Only.mirCandidate ?_ _ (by decide) (by decide)
    | with_reducible refine Only.wantCopy ?_ _ _ (by decide) (by decide)
    | with_reducible refine Only.each ?_ _ _ (fun _ _ => ?_)
    | split
    | dsimp only
theorem Only.mirIngress {PP : List Part} {RR : List Reg} {xx d : Dev} (hh : Only PP RR xx d) (fid p : Nat) (flow : Option Nat)
    (hP : ∀ p ∈ ([.sw] : List Part), p ∈ PP) (hR : ∀ r ∈ ([] : List Reg), r ∈ RR) :
    Only PP RR xx (Dev.mirIngress d fid p flow) := hh.andThen (only_mirIngress d fid p flow) hP hR
theorem only_takeCopy (d : Dev) (fid : Nat) (c : MirCopy) : Only [.syns, .outs, .counters, .latches, .ring, .log, .pcie, .sw, .ports, .sys, .sent, .freeCtr] [.ALM_ACTIVE, .ALM_LATCH, .LANE_QUAD_STAT, .OUT_STAT, .PRT_Q_STAT, .PWR_STAT, .SW_BUF_GATED, .SYN_CMD, .SYN_STAT] d (Dev.takeCopy d fid c) := by
  unfold Dev.takeCopy
  (try dsimp only)
  repeat' first
    | with_reducible exact Only.refl
    | with_reducible refine Only.onSw ?_ _ (by decide)
    | with_reducible refine Only.countDev ?_ _ _ (by decide)
    | with_reducible refine Only.offer ?_ _ _ _ _ _ (by decide) (by decide)
    | split
    | dsimp only
theorem Only.takeCopy {PP : List Part} {RR : List Reg} {xx d : Dev} (hh : Only PP RR xx d) (fid : Nat) (c : MirCopy)
    (hP : ∀ p ∈ ([.syns, .outs, .counters, .latches, .ring, .log, .pcie, .sw, .ports, .sys, .sent, .freeCtr] : List Part), p ∈ PP) (hR : ∀ r ∈ ([.ALM_ACTIVE, .ALM_LATCH, .LANE_QUAD_STAT, .OUT_STAT, .PRT_Q_STAT, .PWR_STAT, .SW_BUF_GATED, .SYN_CMD, .SYN_STAT] : List Reg), r ∈ RR) :
    Only PP RR xx (Dev.takeCopy d fid c) := hh.andThen (only_takeCopy d fid c) hP hR
theorem only_takeCopies (d : Dev) (fid : Nat) : Only [.syns, .outs, .counters, .latches, .ring, .log, .pcie, .sw, .ports, .sys, .sent, .freeCtr] [.ALM_ACTIVE, .ALM_LATCH, .LANE_QUAD_STAT, .OUT_STAT, .PRT_Q_STAT, .PWR_STAT, .SW_BUF_GATED, .SYN_CMD, .SYN_STAT] d (Dev.takeCopies d fid) := by
  unfold Dev.takeCopies
  (try dsimp only)
  repeat' first
    | with_reducible exact Only.refl
    | with_reducible refine Only.onFrame ?_ _ _ (by decide) (by decide)
    | with_reducible refine Only.takeCopy ?_ _ _ (by decide) (by decide)
    | with_reducible refine Only.each ?_ _ _ (fun _ _ => ?_)
    | split
    | dsimp only
theorem Only.takeCopies {PP : List Part} {RR : List Reg} {xx d : Dev} (hh : Only PP RR xx d) (fid : Nat)
    (hP : ∀ p ∈ ([.syns, .outs, .counters, .latches, .ring, .log, .pcie, .sw, .ports, .sys, .sent, .freeCtr] : List Part), p ∈ PP) (hR : ∀ r ∈ ([.ALM_ACTIVE, .ALM_LATCH, .LANE_QUAD_STAT, .OUT_STAT, .PRT_Q_STAT, .PWR_STAT, .SW_BUF_GATED, .SYN_CMD, .SYN_STAT] : List Reg), r ∈ RR) :
    Only PP RR xx (Dev.takeCopies d fid) := hh.andThen (only_takeCopies d fid) hP hR
theorem only_tenRecover (d : Dev) (a : StreamAct) (x : Parsed) : Only [.counters, .latches, .ring, .log, .pcie, .sent] [.ALM_ACTIVE, .ALM_LATCH, .RECOV_W3, .RECOV_W5, .RECOV_W6] d (Dev.tenRecover d a x).1 := by
  unfold Dev.tenRecover
  split
  · exact .refl
  · exact Only.recovEvent .refl _ _ _ (by decide) (by decide)
  · rename_i i s _ _
    have hk : Only [.counters, .latches, .ring, .log, .pcie, .sent] [.ALM_ACTIVE, .ALM_LATCH, .RECOV_W3, .RECOV_W5, .RECOV_W6] d (d.recover i s).1 := (only_recover d i s).weaken (by decide) (by decide)
    split
    · rename_i e c he; rw [he] at hk; exact hk
    · rename_i e he
      rw [he] at hk
      refine hk.trans ?_
      split
      · exact Only.recovEvent .refl _ _ _ (by decide) (by decide)
      · split
        · exact Only.recovEvent .refl _ _ _ (by decide) (by decide)
        · exact Only.recovEvent .refl _ _ _ (by decide) (by decide)
        · exact Only.recovEvent .refl _ _ _ (by decide) (by decide)
theorem Only.tenRecover {PP : List Part} {RR : List Reg} {xx d : Dev} (hh : Only PP RR xx d) (a : StreamAct) (x : Parsed)
    (hP : ∀ p ∈ ([.counters, .latches, .ring, .log, .pcie, .sent] : List Part), p ∈ PP) (hR : ∀ r ∈ ([.ALM_ACTIVE, .ALM_LATCH, .RECOV_W3, .RECOV_W5, .RECOV_W6] : List Reg), r ∈ RR) :
    Only PP RR xx (Dev.tenRecover d a x).1 := hh.andThen (only_tenRecover d a x) hP hR
theorem only_stepTen (d : Dev) (fid : Nat) (a : StreamAct) (x : Parsed) (base : Nat) (tRx : Ticks) :
    Only [.counters, .latches, .ring, .log, .pcie, .sw, .sent] [.ALM_ACTIVE, .ALM_LATCH, .RECOV_W3, .RECOV_W5, .RECOV_W6, .SEQGEN_W0, .SGATE_W5] d (Dev.stepTen d fid a x base tRx).1 := by
  unfold Dev.stepTen
  refine Only.iteFst (fun _ => .refl) (fun _ => ?_)
  have h1 : Only [.counters, .latches, .ring, .log, .pcie, .sw, .sent] [.ALM_ACTIVE, .ALM_LATCH, .RECOV_W3, .RECOV_W5, .RECOV_W6, .SEQGEN_W0, .SGATE_W5] d (d.tenRecover a x).1 := (only_tenRecover d a x).weaken (by decide) (by decide)
  dsimp only
  split
  · rename_i e c he; rw [he] at h1; exact h1
  · rename_i e ten _ he
    rw [he] at h1
    refine h1.trans ?_
    cases a.gate <;> cases a.meter <;> cases a.seqgen <;> dsimp only
    all_goals repeat' first
      | with_reducible exact .refl
      | with_reducible refine Only.onFrame ?_ _ _ (by decide) (by decide)
      | with_reducible refine Only.nextSeq ?_ _ (by decide) (by decide)
      | with_reducible refine Only.meterFrame ?_ _ _ _ (by decide) (by decide)
      | with_reducible refine Only.passGate ?_ _ _ _ (by decide) (by decide)
      | with_reducible refine Only.iteFst (fun _ => ?_) (fun _ => ?_)
      | split
      | dsimp only
theorem Only.stepTen {PP : List Part} {RR : List Reg} {xx d : Dev} (hh : Only PP RR xx d) (fid : Nat) (a : StreamAct) (x : Parsed) (base : Nat) (tRx : Ticks)
    (hP : ∀ p ∈ ([.counters, .latches, .ring, .log, .pcie, .sw, .sent] : List Part), p ∈ PP) (hR : ∀ r ∈ ([.ALM_ACTIVE, .ALM_LATCH, .RECOV_W3, .RECOV_W5, .RECOV_W6, .SEQGEN_W0, .SGATE_W5] : List Reg), r ∈ RR) :
    Only PP RR xx (Dev.stepTen d fid a x base tRx).1 := hh.andThen (only_stepTen d fid a x base tRx) hP hR
theorem only_decideFrame (d : Dev) (fid p : Nat) (f : RxFrame) (tRx : Ticks) :
    Only [.mir, .twin, .counters, .latches, .ring, .log, .pcie, .sw, .sent] [.ALM_ACTIVE, .ALM_LATCH, .RECOV_W3, .RECOV_W5, .RECOV_W6, .SEQGEN_W0, .SGATE_W5] d (Dev.decideFrame d fid p f tRx).1 := by
  unfold Dev.decideFrame
  dsimp only
  repeat' first
    | with_reducible exact .refl
    | with_reducible refine Only.iteFst (fun _ => ?_) (fun _ => ?_)
    | with_reducible refine Only.onFrame ?_ _ _ (by decide) (by decide)
    | with_reducible refine Only.stepTen ?_ _ _ _ _ _ (by decide) (by decide)
theorem Only.decideFrame {PP : List Part} {RR : List Reg} {xx d : Dev} (hh : Only PP RR xx d) (fid p : Nat) (f : RxFrame) (tRx : Ticks)
    (hP : ∀ p ∈ ([.mir, .twin, .counters, .latches, .ring, .log, .pcie, .sw, .sent] : List Part), p ∈ PP) (hR : ∀ r ∈ ([.ALM_ACTIVE, .ALM_LATCH, .RECOV_W3, .RECOV_W5, .RECOV_W6, .SEQGEN_W0, .SGATE_W5] : List Reg), r ∈ RR) :
    Only PP RR xx (Dev.decideFrame d fid p f tRx).1 := hh.andThen (only_decideFrame d fid p f tRx) hP hR
theorem only_storeFrame (d : Dev) (fid : Nat) : Only [.sw, .freeCtr] [] d (Dev.storeFrame d fid) := by
  unfold Dev.storeFrame
  (try dsimp only)
  repeat' first
    | with_reducible exact Only.refl
    | with_reducible refine Only.giveCells ?_ _ _ (by decide) (by decide)
    | split
    | dsimp only
theorem Only.storeFrame {PP : List Part} {RR : List Reg} {xx d : Dev} (hh : Only PP RR xx d) (fid : Nat)
    (hP : ∀ p ∈ ([.sw, .freeCtr] : List Part), p ∈ PP) (hR : ∀ r ∈ ([] : List Reg), r ∈ RR) :
    Only PP RR xx (Dev.storeFrame d fid) := hh.andThen (only_storeFrame d fid) hP hR
theorem only_storeIfCopied (d : Dev) (fid : Nat) : Only [.sw, .freeCtr] [] d (Dev.storeIfCopied d fid) := by
  unfold Dev.storeIfCopied
  (try dsimp only)
  repeat' first
    | with_reducible exact Only.refl
    | with_reducible refine Only.storeFrame ?_ _ (by decide) (by decide)
    | split
    | dsimp only
theorem Only.storeIfCopied {PP : List Part} {RR : List Reg} {xx d : Dev} (hh : Only PP RR xx d) (fid : Nat)
    (hP : ∀ p ∈ ([.sw, .freeCtr] : List Part), p ∈ PP) (hR : ∀ r ∈ ([] : List Reg), r ∈ RR) :
    Only PP RR xx (Dev.storeIfCopied d fid) := hh.andThen (only_storeIfCopied d fid) hP hR
theorem only_ptpSeen (d : Dev) (p : Nat) (b : List Byte) (tRx : Ticks) : Only [.counters, .latches, .ring, .log, .pcie, .ptus, .sent] [.ALM_ACTIVE, .ALM_LATCH] d (Dev.ptpSeen d p b tRx) := by
  unfold Dev.ptpSeen
  (try dsimp only)
  repeat' first
    | with_reducible exact Only.refl
    | with_reducible refine Only.onPtu ?_ _ _ (by decide)
    | with_reducible refine Only.countRx ?_ _ _ (by decide)
    | with_reducible refine Only.when ?_ _ _ ?_
    | split
    | dsimp only
theorem Only.ptpSeen {PP : List Part} {RR : List Reg} {xx d : Dev} (hh : Only PP RR xx d) (p : Nat) (b : List Byte) (tRx : Ticks)
    (hP : ∀ p ∈ ([.counters, .latches, .ring, .log, .pcie, .ptus, .sent] : List Part), p ∈ PP) (hR : ∀ r ∈ ([.ALM_ACTIVE, .ALM_LATCH] : List Reg), r ∈ RR) :
    Only PP RR xx (Dev.ptpSeen d p b tRx) := hh.andThen (only_ptpSeen d p b tRx) hP hR
theorem only_takeFrame (d : Dev) (p : Nat) (f : RxFrame) : Only [.mir, .twin, .syns, .outs, .counters, .latches, .ring, .log, .pcie, .sw, .ports, .ptus, .sys, .sent, .freeCtr] [.ALM_ACTIVE, .ALM_LATCH, .LANE_QUAD_STAT, .OUT_STAT, .PRT_Q_STAT, .PWR_STAT, .RECOV_W3, .RECOV_W4, .RECOV_W5, .RECOV_W6, .SEQGEN_W0, .SGATE_W5, .SW_BUF_GATED, .SYN_CMD, .SYN_STAT] d (Dev.takeFrame d p f) := by
  have hs : ∀ e : Dev, ∀ fid, Only [.mir, .twin, .syns, .outs, .counters, .latches, .ring, .log, .pcie, .sw, .ports, .ptus, .sys, .sent, .freeCtr] [.ALM_ACTIVE, .ALM_LATCH, .LANE_QUAD_STAT, .OUT_STAT, .PRT_Q_STAT, .PWR_STAT, .RECOV_W3, .RECOV_W4, .RECOV_W5, .RECOV_W6, .SEQGEN_W0, .SGATE_W5, .SW_BUF_GATED, .SYN_CMD, .SYN_STAT] d e → Only [.mir, .twin, .syns, .outs, .counters, .latches, .ring, .log, .pcie, .sw, .ports, .ptus, .sys, .sent, .freeCtr] [.ALM_ACTIVE, .ALM_LATCH, .LANE_QUAD_STAT, .OUT_STAT, .PRT_Q_STAT, .PWR_STAT, .RECOV_W3, .RECOV_W4, .RECOV_W5, .RECOV_W6, .SEQGEN_W0, .SGATE_W5, .SW_BUF_GATED, .SYN_CMD, .SYN_STAT] d (((e.storeFrame fid).admitFrame fid).dropUnstored fid) := fun e fid h =>
    Only.dropUnstored (Only.admitFrame (Only.storeFrame h _ (by decide) (by decide)) _ (by decide) (by decide)) _ (by decide) (by decide)
  have hc : ∀ e : Dev, ∀ fid, Only [.mir, .twin, .syns, .outs, .counters, .latches, .ring, .log, .pcie, .sw, .ports, .ptus, .sys, .sent, .freeCtr] [.ALM_ACTIVE, .ALM_LATCH, .LANE_QUAD_STAT, .OUT_STAT, .PRT_Q_STAT, .PWR_STAT, .RECOV_W3, .RECOV_W4, .RECOV_W5, .RECOV_W6, .SEQGEN_W0, .SGATE_W5, .SW_BUF_GATED, .SYN_CMD, .SYN_STAT] d e → Only [.mir, .twin, .syns, .outs, .counters, .latches, .ring, .log, .pcie, .sw, .ports, .ptus, .sys, .sent, .freeCtr] [.ALM_ACTIVE, .ALM_LATCH, .LANE_QUAD_STAT, .OUT_STAT, .PRT_Q_STAT, .PWR_STAT, .RECOV_W3, .RECOV_W4, .RECOV_W5, .RECOV_W6, .SEQGEN_W0, .SGATE_W5, .SW_BUF_GATED, .SYN_CMD, .SYN_STAT] d (e.storeIfCopied fid) := fun e fid h =>
    Only.storeIfCopied h _ (by decide) (by decide)
  have hm : ∀ e : Dev, ∀ fid q, Only [.mir, .twin, .syns, .outs, .counters, .latches, .ring, .log, .pcie, .sw, .ports, .ptus, .sys, .sent, .freeCtr] [.ALM_ACTIVE, .ALM_LATCH, .LANE_QUAD_STAT, .OUT_STAT, .PRT_Q_STAT, .PWR_STAT, .RECOV_W3, .RECOV_W4, .RECOV_W5, .RECOV_W6, .SEQGEN_W0, .SGATE_W5, .SW_BUF_GATED, .SYN_CMD, .SYN_STAT] d e → Only [.mir, .twin, .syns, .outs, .counters, .latches, .ring, .log, .pcie, .sw, .ports, .ptus, .sys, .sent, .freeCtr] [.ALM_ACTIVE, .ALM_LATCH, .LANE_QUAD_STAT, .OUT_STAT, .PRT_Q_STAT, .PWR_STAT, .RECOV_W3, .RECOV_W4, .RECOV_W5, .RECOV_W6, .SEQGEN_W0, .SGATE_W5, .SW_BUF_GATED, .SYN_CMD, .SYN_STAT] d (e.mirIngress fid p q) := fun e fid q h =>
    Only.mirIngress h _ _ _ (by decide) (by decide)
  unfold Dev.takeFrame
  split
  · exact .refl
  · have h0 : Only [.mir, .twin, .syns, .outs, .counters, .latches, .ring, .log, .pcie, .sw, .ports, .ptus, .sys, .sent, .freeCtr] [.ALM_ACTIVE, .ALM_LATCH, .LANE_QUAD_STAT, .OUT_STAT, .PRT_Q_STAT, .PWR_STAT, .RECOV_W3, .RECOV_W4, .RECOV_W5, .RECOV_W6, .SEQGEN_W0, .SGATE_W5, .SW_BUF_GATED, .SYN_CMD, .SYN_STAT] d ((((d.onSw (fun s => { s with nextFid := d.sw.nextFid + 1 })).setFrame d.sw.nextFid
        (some (d.newStored p f (d.tRx p f.cap)))).setRx p (some d.sw.nextFid)).ptpSeen p f.bytes (d.tRx p f.cap)) :=
      Only.ptpSeen (Only.setRx (Only.setFrame (Only.onSw .refl _ (by decide)) _ _ (by decide) (by decide)) _ _ (by decide) (by decide)) _ _ _ (by decide) (by decide)
    dsimp only
    revert h0
    generalize (((d.onSw (fun s => { s with nextFid := d.sw.nextFid + 1 })).setFrame d.sw.nextFid
        (some (d.newStored p f (d.tRx p f.cap)))).setRx p (some d.sw.nextFid)).ptpSeen p f.bytes (d.tRx p f.cap) = e
    intro h0
    split
    · exact hc _ _ (hm _ _ _ h0)
    · exact hs _ _ (hm _ _ _ (Only.onFrame h0 _ _ (by decide) (by decide)))
    · have h1 : Only [.mir, .twin, .syns, .outs, .counters, .latches, .ring, .log, .pcie, .sw, .ports, .ptus, .sys, .sent, .freeCtr] [.ALM_ACTIVE, .ALM_LATCH, .LANE_QUAD_STAT, .OUT_STAT, .PRT_Q_STAT, .PWR_STAT, .RECOV_W3, .RECOV_W4, .RECOV_W5, .RECOV_W6, .SEQGEN_W0, .SGATE_W5, .SW_BUF_GATED, .SYN_CMD, .SYN_STAT] d (e.decideFrame d.sw.nextFid p f (d.tRx p f.cap)).1 :=
        Only.decideFrame h0 _ _ _ _ (by decide) (by decide)
      revert h1
      generalize e.decideFrame d.sw.nextFid p f (d.tRx p f.cap) = y
      obtain ⟨e1, flow, ten⟩ := y
      intro h1
      dsimp only at h1 ⊢
      split
      · exact hc _ _ (Only.discardCause (hm _ _ _ h1) _ _ (by decide) (by decide))
      · exact hs _ _ (hm _ _ _ h1)
      · exact Only.sendNext (hs _ _ (Only.set (hm _ _ _ h1) _ _ _ (by decide))) _ _ (by decide) (by decide)
      · exact Only.refreshHeld (Only.recovEvent (Only.onFrame (Only.onSw (Only.storeFrame (hm _ _ _ h1) _ (by decide) (by decide)) _ (by decide)) _ _ (by decide) (by decide)) _ _ _ (by decide) (by decide)) _ (by decide) (by decide)
theorem Only.takeFrame {PP : List Part} {RR : List Reg} {xx d : Dev} (hh : Only PP RR xx d) (p : Nat) (f : RxFrame)
    (hP : ∀ p ∈ ([.mir, .twin, .syns, .outs, .counters, .latches, .ring, .log, .pcie, .sw, .ports, .ptus, .sys, .sent, .freeCtr] : List Part), p ∈ PP) (hR : ∀ r ∈ ([.ALM_ACTIVE, .ALM_LATCH, .LANE_QUAD_STAT, .OUT_STAT, .PRT_Q_STAT, .PWR_STAT, .RECOV_W3, .RECOV_W4, .RECOV_W5, .RECOV_W6, .SEQGEN_W0, .SGATE_W5, .SW_BUF_GATED, .SYN_CMD, .SYN_STAT] : List Reg), r ∈ RR) :
    Only PP RR xx (Dev.takeFrame d p f) := hh.andThen (only_takeFrame d p f) hP hR
theorem only_frameIn (d : Dev) (p : Nat) (f : RxFrame) : Only [.mir, .twin, .syns, .outs, .counters, .latches, .ring, .log, .pcie, .sw, .ports, .ptus, .sys, .sent, .freeCtr] [.ALM_ACTIVE, .ALM_LATCH, .LANE_QUAD_STAT, .OUT_STAT, .PRT_Q_STAT, .PWR_STAT, .RECOV_W3, .RECOV_W4, .RECOV_W5, .RECOV_W6, .SEQGEN_W0, .SGATE_W5, .SW_BUF_GATED, .SYN_CMD, .SYN_STAT] d (Dev.frameIn d p f) := by
  unfold Dev.frameIn
  (try dsimp only)
  repeat' first
    | with_reducible exact Only.refl
    | with_reducible refine Only.judgeBanks ?_ (by decide) (by decide)
    | with_reducible refine Only.takeFrame ?_ _ _ (by decide) (by decide)
    | split
    | dsimp only
theorem Only.frameIn {PP : List Part} {RR : List Reg} {xx d : Dev} (hh : Only PP RR xx d) (p : Nat) (f : RxFrame)
    (hP : ∀ p ∈ ([.mir, .twin, .syns, .outs, .counters, .latches, .ring, .log, .pcie, .sw, .ports, .ptus, .sys, .sent, .freeCtr] : List Part), p ∈ PP) (hR : ∀ r ∈ ([.ALM_ACTIVE, .ALM_LATCH, .LANE_QUAD_STAT, .OUT_STAT, .PRT_Q_STAT, .PWR_STAT, .RECOV_W3, .RECOV_W4, .RECOV_W5, .RECOV_W6, .SEQGEN_W0, .SGATE_W5, .SW_BUF_GATED, .SYN_CMD, .SYN_STAT] : List Reg), r ∈ RR) :
    Only PP RR xx (Dev.frameIn d p f) := hh.andThen (only_frameIn d p f) hP hR
theorem only_spoilFrame (d : Dev) (fid : Nat) : Only [.syns, .outs, .counters, .latches, .ring, .log, .pcie, .sw, .ports, .sys, .sent] [.ALM_ACTIVE, .ALM_LATCH, .LANE_QUAD_STAT, .OUT_STAT, .PWR_STAT, .RECOV_W4, .SW_BUF_GATED, .SYN_CMD, .SYN_STAT] d (Dev.spoilFrame d fid) := by
  unfold Dev.spoilFrame
  (try dsimp only)
  repeat' first
    | with_reducible exact Only.refl
    | with_reducible refine Only.onSw ?_ _ (by decide)
    | with_reducible refine Only.dropLinks ?_ _ (by decide) (by decide)
    | with_reducible refine Only.onFrame ?_ _ _ (by decide) (by decide)
    | with_reducible refine Only.refreshHeld ?_ _ (by decide) (by decide)
    | with_reducible refine Only.release ?_ _ (by decide) (by decide)
    | with_reducible refine Only.spoilTx ?_ _ (by decide) (by decide)
    | split
    | dsimp only
theorem Only.spoilFrame {PP : List Part} {RR : List Reg} {xx d : Dev} (hh : Only PP RR xx d) (fid : Nat)
    (hP : ∀ p ∈ ([.syns, .outs, .counters, .latches, .ring, .log, .pcie, .sw, .ports, .sys, .sent] : List Part), p ∈ PP) (hR : ∀ r ∈ ([.ALM_ACTIVE, .ALM_LATCH, .LANE_QUAD_STAT, .OUT_STAT, .PWR_STAT, .RECOV_W4, .SW_BUF_GATED, .SYN_CMD, .SYN_STAT] : List Reg), r ∈ RR) :
    Only PP RR xx (Dev.spoilFrame d fid) := hh.andThen (only_spoilFrame d fid) hP hR
theorem only_cutPort (d : Dev) (p : Nat) : Only [.syns, .outs, .counters, .latches, .ring, .log, .pcie, .sw, .ports, .sys, .sent, .freeCtr] [.ALM_ACTIVE, .ALM_LATCH, .LANE_QUAD_STAT, .OUT_STAT, .PRT_Q_STAT, .PWR_STAT, .RECOV_W4, .SW_BUF_GATED, .SYN_CMD, .SYN_STAT] d (Dev.cutPort d p) := by
  unfold Dev.cutPort
  (try dsimp only)
  repeat' first
    | with_reducible exact Only.refl
    | with_reducible refine Only.countFrame ?_ _ _ _ (by decide) (by decide)
    | with_reducible refine Only.flushLink ?_ _ _ _ (by decide) (by decide)
    | with_reducible refine Only.link ?_ _ _ _ (by decide) (by decide)
    | with_reducible refine Only.onFrame ?_ _ _ (by decide) (by decide)
    | with_reducible refine Only.release ?_ _ (by decide) (by decide)
    | with_reducible refine Only.setRx ?_ _ _ (by decide) (by decide)
    | with_reducible refine Only.setTx ?_ _ _ (by decide) (by decide)
    | with_reducible refine Only.spoilFrame ?_ _ (by decide) (by decide)
    | with_reducible refine Only.takeCopies ?_ _ (by decide) (by decide)
    | split
    | dsimp only
theorem Only.cutPort {PP : List Part} {RR : List Reg} {xx d : Dev} (hh : Only PP RR xx d) (p : Nat)
    (hP : ∀ p ∈ ([.syns, .outs, .counters, .latches, .ring, .log, .pcie, .sw, .ports, .sys, .sent, .freeCtr] : List Part), p ∈ PP) (hR : ∀ r ∈ ([.ALM_ACTIVE, .ALM_LATCH, .LANE_QUAD_STAT, .OUT_STAT, .PRT_Q_STAT, .PWR_STAT, .RECOV_W4, .SW_BUF_GATED, .SYN_CMD, .SYN_STAT] : List Reg), r ∈ RR) :
    Only PP RR xx (Dev.cutPort d p) := hh.andThen (only_cutPort d p) hP hR
theorem only_linkPlaces (d : Dev) (fid : Nat) : Only [.sw] [] d (Dev.linkPlaces d fid) := by
  unfold Dev.linkPlaces
  (try dsimp only)
  repeat' first
    | with_reducible exact Only.refl
    | with_reducible refine Only.onSw ?_ _ (by decide)
    | split
    | dsimp only
theorem Only.linkPlaces {PP : List Part} {RR : List Reg} {xx d : Dev} (hh : Only PP RR xx d) (fid : Nat)
    (hP : ∀ p ∈ ([.sw] : List Part), p ∈ PP) (hR : ∀ r ∈ ([] : List Reg), r ∈ RR) :
    Only PP RR xx (Dev.linkPlaces d fid) := hh.andThen (only_linkPlaces d fid) hP hR
theorem only_verdict (d : Dev) (p : Nat) (v : RxVerdict) : Only [.tbA, .tbB, .syns, .outs, .counters, .latches, .ring, .log, .pcie, .sw, .ports, .sys, .sent, .freeCtr] [.ALM_ACTIVE, .ALM_LATCH, .FDB_W0, .FDB_W1, .FDB_W2, .FDB_W3, .LANE_QUAD_STAT, .OUT_STAT, .PRT_Q_STAT, .PWR_STAT, .RECOV_W4, .SW_BUF_GATED, .SYN_CMD, .SYN_STAT, .TB_MODEL_STAT] d (Dev.verdict d p v) := by
  unfold Dev.verdict
  (try dsimp only)
  repeat' first
    | with_reducible exact Only.refl
    | with_reducible refine Only.countDev ?_ _ _ (by decide)
    | with_reducible refine Only.countPort ?_ _ _ _ (by decide)
    | with_reducible refine Only.portEvent ?_ _ _ _ _ (by decide)
    | with_reducible refine Only.countFrame ?_ _ _ _ (by decide) (by decide)
    | with_reducible refine Only.judgeBanks ?_ (by decide) (by decide)
    | with_reducible refine Only.learnSa ?_ _ _ _ (by decide) (by decide)
    | with_reducible refine Only.link ?_ _ _ _ (by decide) (by decide)
    | with_reducible refine Only.linkPlaces ?_ _ (by decide) (by decide)
    | with_reducible refine Only.onFrame ?_ _ _ (by decide) (by decide)
    | with_reducible refine Only.release ?_ _ (by decide) (by decide)
    | with_reducible refine Only.setRx ?_ _ _ (by decide) (by decide)
    | with_reducible refine Only.spoilFrame ?_ _ (by decide) (by decide)
    | with_reducible refine Only.takeCopies ?_ _ (by decide) (by decide)
    | with_reducible refine Only.when ?_ _ _ ?_
    | with_reducible refine Only.each ?_ _ _ (fun _ _ => ?_)
    | split
    | dsimp only
theorem Only.verdict {PP : List Part} {RR : List Reg} {xx d : Dev} (hh : Only PP RR xx d) (p : Nat) (v : RxVerdict)
    (hP : ∀ p ∈ ([.tbA, .tbB, .syns, .outs, .counters, .latches, .ring, .log, .pcie, .sw, .ports, .sys, .sent, .freeCtr] : List Part), p ∈ PP) (hR : ∀ r ∈ ([.ALM_ACTIVE, .ALM_LATCH, .FDB_W0, .FDB_W1, .FDB_W2, .FDB_W3, .LANE_QUAD_STAT, .OUT_STAT, .PRT_Q_STAT, .PWR_STAT, .RECOV_W4, .SW_BUF_GATED, .SYN_CMD, .SYN_STAT, .TB_MODEL_STAT] : List Reg), r ∈ RR) :
    Only PP RR xx (Dev.verdict d p v) := hh.andThen (only_verdict d p v) hP hR
theorem only_writeRecov (d : Dev) (i word : Nat) (v : Word) : Only [.syns, .outs, .counters, .latches, .ring, .log, .pcie, .sw, .ports, .sys, .sent, .freeCtr] [.ALM_ACTIVE, .ALM_LATCH, .LANE_QUAD_STAT, .OUT_STAT, .PRT_Q_STAT, .PWR_STAT, .RECOV_W0, .RECOV_W1, .RECOV_W2, .RECOV_W3, .RECOV_W4, .RECOV_W5, .RECOV_W6, .SW_BUF_GATED, .SYN_CMD, .SYN_STAT] d (Dev.writeRecov d i word v) := by
  unfold Dev.writeRecov
  (try dsimp only)
  repeat' first
    | with_reducible exact Only.refl
    | with_reducible refine Only.set ?_ _ _ _ (by decide)
    | with_reducible refine Only.store ?_ _ _ _ (by decide)
    | with_reducible refine Only.judgeBanks ?_ (by decide) (by decide)
    | with_reducible refine Only.releaseAll ?_ _ (by decide) (by decide)
    | with_reducible refine Only.setHistory ?_ _ _ (by decide) (by decide)
    | split
    | dsimp only
theorem Only.writeRecov {PP : List Part} {RR : List Reg} {xx d : Dev} (hh : Only PP RR xx d) (i word : Nat) (v : Word)
    (hP : ∀ p ∈ ([.syns, .outs, .counters, .latches, .ring, .log, .pcie, .sw, .ports, .sys, .sent, .freeCtr] : List Part), p ∈ PP) (hR : ∀ r ∈ ([.ALM_ACTIVE, .ALM_LATCH, .LANE_QUAD_STAT, .OUT_STAT, .PRT_Q_STAT, .PWR_STAT, .RECOV_W0, .RECOV_W1, .RECOV_W2, .RECOV_W3, .RECOV_W4, .RECOV_W5, .RECOV_W6, .SW_BUF_GATED, .SYN_CMD, .SYN_STAT] : List Reg), r ∈ RR) :
    Only PP RR xx (Dev.writeRecov d i word v) := hh.andThen (only_writeRecov d i word v) hP hR
theorem only_writeMeter (d : Dev) (m word : Nat) (v : Word) : Only [.sw] [.METER_W0, .METER_W1, .METER_W2, .METER_W3, .METER_W4] d (Dev.writeMeter d m word v) := by
  unfold Dev.writeMeter
  (try dsimp only)
  repeat' first
    | with_reducible exact Only.refl
    | with_reducible refine Only.store ?_ _ _ _ (by decide)
    | with_reducible refine Only.setMeter ?_ _ _ _ (by decide) (by decide)
    | split
    | dsimp only
theorem Only.writeMeter {PP : List Part} {RR : List Reg} {xx d : Dev} (hh : Only PP RR xx d) (m word : Nat) (v : Word)
    (hP : ∀ p ∈ ([.sw] : List Part), p ∈ PP) (hR : ∀ r ∈ ([.METER_W0, .METER_W1, .METER_W2, .METER_W3, .METER_W4] : List Reg), r ∈ RR) :
    Only PP RR xx (Dev.writeMeter d m word v) := hh.andThen (only_writeMeter d m word v) hP hR

/-! ## Egress -/

theorem only_drrPick (d : Dev) (p n k : Nat) : Only [.sw] [] d (Dev.drrPick d p n k).1 := by
  induction n generalizing d k with
  | zero => exact .refl
  | succ n ih =>
    have hp : ∀ g q x, Only [.sw] [] d ((d.onSw g).setDeficit p q x) := fun g q x =>
      Only.setDeficit (Only.onSw .refl g (by decide)) _ _ _ (by decide) (by decide)
    unfold Dev.drrPick
    refine Only.iteFst (fun _ => .refl) (fun _ => ?_)
    dsimp only
    split
    · exact (hp _ _ _).trans (ih _ _)
    · refine Only.iteFst (fun _ => ?_) (fun _ => ?_)
      · exact (Only.onSw .refl _ (by decide)).trans (ih _ _)
      · refine Only.iteFst (fun _ => ?_) (fun _ => ?_)
        · exact hp _ _ _
        · have hq : ∀ g q x, Only [.sw] [] d ((d.setDeficit p q x).onSw g) := fun g q x =>
            Only.onSw (Only.setDeficit .refl _ _ _ (by decide) (by decide)) g (by decide)
          exact (hq _ _ _).trans (ih _ _)
theorem only_pickClass (d : Dev) (p : Nat) : Only [.sw] [] d (Dev.pickClass d p).1 := by
  unfold Dev.pickClass
  dsimp only
  split
  · exact .refl
  · split
    · exact .refl
    · exact only_drrPick _ _ _ _
theorem Only.pickClass {PP : List Part} {RR : List Reg} {xx d : Dev} (hh : Only PP RR xx d) (p : Nat)
    (hP : ∀ p ∈ ([.sw] : List Part), p ∈ PP) (hR : ∀ r ∈ ([] : List Reg), r ∈ RR) :
    Only PP RR xx (Dev.pickClass d p).1 := hh.andThen (only_pickClass d p) hP hR
theorem only_mirEgress (d : Dev) (p : Nat) (l : Link) : Only [.syns, .outs, .counters, .latches, .ring, .log, .pcie, .sw, .ports, .sys, .sent, .freeCtr] [.ALM_ACTIVE, .ALM_LATCH, .LANE_QUAD_STAT, .OUT_STAT, .PRT_Q_STAT, .PWR_STAT, .SW_BUF_GATED, .SYN_CMD, .SYN_STAT] d (Dev.mirEgress d p l) := by
  unfold Dev.mirEgress
  (try dsimp only)
  repeat' first
    | with_reducible exact Only.refl
    | with_reducible refine Only.mirCandidate ?_ _ (by decide) (by decide)
    | with_reducible refine Only.takeCopy ?_ _ _ (by decide) (by decide)
    | with_reducible refine Only.wantCopy ?_ _ _ (by decide) (by decide)
    | with_reducible refine Only.each ?_ _ _ (fun _ _ => ?_)
    | split
    | dsimp only
theorem Only.mirEgress {PP : List Part} {RR : List Reg} {xx d : Dev} (hh : Only PP RR xx d) (p : Nat) (l : Link)
    (hP : ∀ p ∈ ([.syns, .outs, .counters, .latches, .ring, .log, .pcie, .sw, .ports, .sys, .sent, .freeCtr] : List Part), p ∈ PP) (hR : ∀ r ∈ ([.ALM_ACTIVE, .ALM_LATCH, .LANE_QUAD_STAT, .OUT_STAT, .PRT_Q_STAT, .PWR_STAT, .SW_BUF_GATED, .SYN_CMD, .SYN_STAT] : List Reg), r ∈ RR) :
    Only PP RR xx (Dev.mirEgress d p l) := hh.andThen (only_mirEgress d p l) hP hR
theorem only_noticeLeaves (d : Dev) (p fid : Nat) (tTx : Ticks) (depth : Nat) : Only [.syns, .outs, .counters, .latches, .ring, .log, .pcie, .sw, .ports, .sys, .sent] [.ALM_ACTIVE, .ALM_LATCH, .LANE_QUAD_STAT, .OUT_STAT, .PWR_PORT_STAT, .PWR_STAT, .SW_BUF_GATED, .SYN_CMD, .SYN_STAT] d (Dev.noticeLeaves d p fid tTx depth) := by
  unfold Dev.noticeLeaves
  (try dsimp only)
  repeat' first
    | with_reducible exact Only.refl
    | with_reducible refine Only.quadSet ?_ _ _ _ (by decide) (by decide)
    | with_reducible refine Only.onPort ?_ _ _ (by decide)
    | with_reducible refine Only.judgeSleep ?_ _ (by decide) (by decide)
    | with_reducible refine Only.onFrame ?_ _ _ (by decide) (by decide)
    | split
    | dsimp only
theorem Only.noticeLeaves {PP : List Part} {RR : List Reg} {xx d : Dev} (hh : Only PP RR xx d) (p fid : Nat) (tTx : Ticks) (depth : Nat)
    (hP : ∀ p ∈ ([.syns, .outs, .counters, .latches, .ring, .log, .pcie, .sw, .ports, .sys, .sent] : List Part), p ∈ PP) (hR : ∀ r ∈ ([.ALM_ACTIVE, .ALM_LATCH, .LANE_QUAD_STAT, .OUT_STAT, .PWR_PORT_STAT, .PWR_STAT, .SW_BUF_GATED, .SYN_CMD, .SYN_STAT] : List Reg), r ∈ RR) :
    Only PP RR xx (Dev.noticeLeaves d p fid tTx depth) := hh.andThen (only_noticeLeaves d p fid tTx depth) hP hR
theorem only_popHead (d : Dev) (p q : Nat) (rest : List Link) (ends : Int) : Only [.sw] [] d (Dev.popHead d p q rest ends) := by
  unfold Dev.popHead
  (try dsimp only)
  repeat' first
    | with_reducible exact Only.refl
    | with_reducible refine Only.setDeficit ?_ _ _ _ (by decide) (by decide)
    | with_reducible refine Only.setQueue ?_ _ _ _ (by decide) (by decide)
    | with_reducible refine Only.setTail ?_ _ _ _ (by decide) (by decide)
    | split
    | dsimp only
theorem Only.popHead {PP : List Part} {RR : List Reg} {xx d : Dev} (hh : Only PP RR xx d) (p q : Nat) (rest : List Link) (ends : Int)
    (hP : ∀ p ∈ ([.sw] : List Part), p ∈ PP) (hR : ∀ r ∈ ([] : List Reg), r ∈ RR) :
    Only PP RR xx (Dev.popHead d p q rest ends) := hh.andThen (only_popHead d p q rest ends) hP hR
theorem only_commitHead (d : Dev) (p q : Nat) (l : Link) (rest : List Link) (tTx : Ticks) : Only [.syns, .outs, .chans, .cpMail, .counters, .latches, .ring, .log, .pcie, .sw, .ports, .sys, .sent, .freeCtr] [.ALM_ACTIVE, .ALM_LATCH, .LANE_QUAD_STAT, .OUT_STAT, .PRT_Q_STAT, .PWR_PORT_STAT, .PWR_STAT, .SW_BUF_GATED, .SYN_CMD, .SYN_STAT] d (Dev.commitHead d p q l rest tTx) := by
  unfold Dev.commitHead
  (try dsimp only)
  repeat' first
    | with_reducible exact Only.refl
    | with_reducible refine Only.judgeIdle ?_ _ (by decide) (by decide)
    | with_reducible refine Only.mirEgress ?_ _ _ (by decide) (by decide)
    | with_reducible refine Only.notice ?_ _ (by decide) (by decide)
    | with_reducible refine Only.noticeLeaves ?_ _ _ _ _ (by decide) (by decide)
    | with_reducible refine Only.popHead ?_ _ _ _ _ (by decide) (by decide)
    | with_reducible refine Only.setQueue ?_ _ _ _ (by decide) (by decide)
    | with_reducible refine Only.setTx ?_ _ _ (by decide) (by decide)
    | with_reducible refine Only.useSlots ?_ _ (by decide) (by decide)
    | split
    | dsimp only
theorem Only.commitHead {PP : List Part} {RR : List Reg} {xx d : Dev} (hh : Only PP RR xx d) (p q : Nat) (l : Link) (rest : List Link) (tTx : Ticks)
    (hP : ∀ p ∈ ([.syns, .outs, .chans, .cpMail, .counters, .latches, .ring, .log, .pcie, .sw, .ports, .sys, .sent, .freeCtr] : List Part), p ∈ PP) (hR : ∀ r ∈ ([.ALM_ACTIVE, .ALM_LATCH, .LANE_QUAD_STAT, .OUT_STAT, .PRT_Q_STAT, .PWR_PORT_STAT, .PWR_STAT, .SW_BUF_GATED, .SYN_CMD, .SYN_STAT] : List Reg), r ∈ RR) :
    Only PP RR xx (Dev.commitHead d p q l rest tTx) := hh.andThen (only_commitHead d p q l rest tTx) hP hR
theorem only_commit (d : Dev) (p : Nat) (c : Capture) (n : Nat) : Only [.syns, .outs, .chans, .cpMail, .counters, .latches, .ring, .log, .pcie, .sw, .ports, .sys, .sent, .freeCtr] [.ALM_ACTIVE, .ALM_LATCH, .LANE_QUAD_STAT, .OUT_STAT, .PRT_Q_STAT, .PWR_PORT_STAT, .PWR_STAT, .SW_BUF_GATED, .SYN_CMD, .SYN_STAT] d (Dev.commit d p c n) := by
  induction n generalizing d with
  | zero => exact .refl
  | succ n ih =>
    unfold Dev.commit
    have hk : Only [.syns, .outs, .chans, .cpMail, .counters, .latches, .ring, .log, .pcie, .sw, .ports, .sys, .sent, .freeCtr] [.ALM_ACTIVE, .ALM_LATCH, .LANE_QUAD_STAT, .OUT_STAT, .PRT_Q_STAT, .PWR_PORT_STAT, .PWR_STAT, .SW_BUF_GATED, .SYN_CMD, .SYN_STAT] d (d.pickClass p).1 := (only_pickClass d p).weaken (by decide) (by decide)
    split
    · rename_i e he; rw [he] at hk; exact hk
    · rename_i e q he
      rw [he] at hk
      refine hk.trans ?_
      dsimp only
      split
      · exact .refl
      · split
        · split
          · exact (Only.judgeIdle (Only.portEvent (Only.unlink (Only.popHead .refl _ _ _ _ (by decide) (by decide)) _ (by decide) (by decide)) _ _ _ _ (by decide)) _ (by decide) (by decide)).trans (ih _)
          · exact Only.commitHead .refl _ _ _ _ _ (by decide) (by decide)
        · exact Only.commitHead .refl _ _ _ _ _ (by decide) (by decide)
theorem Only.commit {PP : List Part} {RR : List Reg} {xx d : Dev} (hh : Only PP RR xx d) (p : Nat) (c : Capture) (n : Nat)
    (hP : ∀ p ∈ ([.syns, .outs, .chans, .cpMail, .counters, .latches, .ring, .log, .pcie, .sw, .ports, .sys, .sent, .freeCtr] : List Part), p ∈ PP) (hR : ∀ r ∈ ([.ALM_ACTIVE, .ALM_LATCH, .LANE_QUAD_STAT, .OUT_STAT, .PRT_Q_STAT, .PWR_PORT_STAT, .PWR_STAT, .SW_BUF_GATED, .SYN_CMD, .SYN_STAT] : List Reg), r ∈ RR) :
    Only PP RR xx (Dev.commit d p c n) := hh.andThen (only_commit d p c n) hP hR
theorem only_frameCommit (d : Dev) (p : Nat) (c : Capture) : Only [.syns, .outs, .chans, .cpMail, .counters, .latches, .ring, .log, .pcie, .sw, .ports, .sys, .sent, .freeCtr] [.ALM_ACTIVE, .ALM_LATCH, .LANE_QUAD_STAT, .OUT_STAT, .PRT_Q_STAT, .PWR_PORT_STAT, .PWR_STAT, .SW_BUF_GATED, .SYN_CMD, .SYN_STAT] d (Dev.frameCommit d p c) := by
  unfold Dev.frameCommit
  split
  · exact .refl
  · exact Only.judgeBanks ((only_commit _ _ _ _).weaken (by decide) (by decide)) (by decide) (by decide)
theorem Only.frameCommit {PP : List Part} {RR : List Reg} {xx d : Dev} (hh : Only PP RR xx d) (p : Nat) (c : Capture)
    (hP : ∀ p ∈ ([.syns, .outs, .chans, .cpMail, .counters, .latches, .ring, .log, .pcie, .sw, .ports, .sys, .sent, .freeCtr] : List Part), p ∈ PP) (hR : ∀ r ∈ ([.ALM_ACTIVE, .ALM_LATCH, .LANE_QUAD_STAT, .OUT_STAT, .PRT_Q_STAT, .PWR_PORT_STAT, .PWR_STAT, .SW_BUF_GATED, .SYN_CMD, .SYN_STAT] : List Reg), r ∈ RR) :
    Only PP RR xx (Dev.frameCommit d p c) := hh.andThen (only_frameCommit d p c) hP hR
theorem only_ptpGone (d : Dev) (p : Nat) (b : List Byte) (tTx : BitVec 128) : Only [.counters, .latches, .ring, .log, .pcie, .ptus, .sent] [.ALM_ACTIVE, .ALM_LATCH] d (Dev.ptpGone d p b tTx) := by
  unfold Dev.ptpGone
  (try dsimp only)
  repeat' first
    | with_reducible exact Only.refl
    | with_reducible refine Only.onPtu ?_ _ _ (by decide)
    | with_reducible refine Only.countTx ?_ _ _ (by decide)
    | with_reducible refine Only.when ?_ _ _ ?_
    | split
    | dsimp only
theorem Only.ptpGone {PP : List Part} {RR : List Reg} {xx d : Dev} (hh : Only PP RR xx d) (p : Nat) (b : List Byte) (tTx : BitVec 128)
    (hP : ∀ p ∈ ([.counters, .latches, .ring, .log, .pcie, .ptus, .sent] : List Part), p ∈ PP) (hR : ∀ r ∈ ([.ALM_ACTIVE, .ALM_LATCH] : List Reg), r ∈ RR) :
    Only PP RR xx (Dev.ptpGone d p b tTx) := hh.andThen (only_ptpGone d p b tTx) hP hR
theorem only_transmitDone (d : Dev) (p : Nat) : Only [.syns, .outs, .counters, .latches, .ring, .log, .pcie, .sw, .ports, .ptus, .sys, .sent] [.ALM_ACTIVE, .ALM_LATCH, .LANE_QUAD_STAT, .OUT_STAT, .PWR_STAT, .SW_BUF_GATED, .SYN_CMD, .SYN_STAT] d (Dev.transmitDone d p) := by
  unfold Dev.transmitDone
  (try dsimp only)
  repeat' first
    | with_reducible exact Only.refl
    | with_reducible refine Only.emit ?_ _ (by decide)
    | with_reducible refine Only.countPort ?_ _ _ _ (by decide)
    | with_reducible refine Only.portEvent ?_ _ _ _ _ (by decide)
    | with_reducible refine Only.countFrame ?_ _ _ _ (by decide) (by decide)
    | with_reducible refine Only.judgeBanks ?_ (by decide) (by decide)
    | with_reducible refine Only.judgeIdle ?_ _ (by decide) (by decide)
    | with_reducible refine Only.link ?_ _ _ _ (by decide) (by decide)
    | with_reducible refine Only.ptpGone ?_ _ _ _ (by decide) (by decide)
    | with_reducible refine Only.setTail ?_ _ _ _ (by decide) (by decide)
    | with_reducible refine Only.setTx ?_ _ _ (by decide) (by decide)
    | with_reducible refine Only.unlink ?_ _ (by decide) (by decide)
    | with_reducible refine Only.when ?_ _ _ ?_
    | split
    | dsimp only
theorem Only.transmitDone {PP : List Part} {RR : List Reg} {xx d : Dev} (hh : Only PP RR xx d) (p : Nat)
    (hP : ∀ p ∈ ([.syns, .outs, .counters, .latches, .ring, .log, .pcie, .sw, .ports, .ptus, .sys, .sent] : List Part), p ∈ PP) (hR : ∀ r ∈ ([.ALM_ACTIVE, .ALM_LATCH, .LANE_QUAD_STAT, .OUT_STAT, .PWR_STAT, .SW_BUF_GATED, .SYN_CMD, .SYN_STAT] : List Reg), r ∈ RR) :
    Only PP RR xx (Dev.transmitDone d p) := hh.andThen (only_transmitDone d p) hP hR
theorem only_logDiscard (d : Dev) (mem index : Nat) : Only [.counters, .latches, .ring, .log, .pcie, .sent] [.ALM_ACTIVE, .ALM_LATCH] d (Dev.logDiscard d mem index) := by
  unfold Dev.logDiscard
  (try dsimp only)
  repeat' first
    | with_reducible exact Only.refl
    | with_reducible refine Only.logAdd ?_ _ _ _ _ (by decide)
    | split
    | dsimp only
theorem Only.logDiscard {PP : List Part} {RR : List Reg} {xx d : Dev} (hh : Only PP RR xx d) (mem index : Nat)
    (hP : ∀ p ∈ ([.counters, .latches, .ring, .log, .pcie, .sent] : List Part), p ∈ PP) (hR : ∀ r ∈ ([.ALM_ACTIVE, .ALM_LATCH] : List Reg), r ∈ RR) :
    Only PP RR xx (Dev.logDiscard d mem index) := hh.andThen (only_logDiscard d mem index) hP hR
theorem only_cellError (d : Dev) (p cell : Nat) : Only [.syns, .outs, .counters, .latches, .ring, .log, .pcie, .sw, .ports, .sys, .sent] [.ALM_ACTIVE, .ALM_LATCH, .LANE_QUAD_STAT, .OUT_STAT, .PWR_STAT, .SW_BUF_GATED, .SYN_CMD, .SYN_STAT] d (Dev.cellError d p cell) := by
  have hd : ∀ e : Dev, ∀ h, Only [.syns, .outs, .counters, .latches, .ring, .log, .pcie, .sw, .ports, .sys, .sent] [.ALM_ACTIVE, .ALM_LATCH, .LANE_QUAD_STAT, .OUT_STAT, .PWR_STAT, .SW_BUF_GATED, .SYN_CMD, .SYN_STAT] e (Dev.cellError.drop p cell e h) := by
    intro e h
    unfold Dev.cellError.drop
    split
    · exact .refl
    · split
      · exact .refl
      · exact Only.judgeBanks (Only.judgeIdle (Only.logDiscard (Only.discardCause (Only.unlink (Only.popHead .refl _ _ _ _ (by decide) (by decide)) _ (by decide) (by decide)) _ _ (by decide) (by decide)) _ _ (by decide) (by decide)) _ (by decide) (by decide)) (by decide) (by decide)
  have h0 : ∀ g, Only [.syns, .outs, .counters, .latches, .ring, .log, .pcie, .sw, .ports, .sys, .sent] [.ALM_ACTIVE, .ALM_LATCH, .LANE_QUAD_STAT, .OUT_STAT, .PWR_STAT, .SW_BUF_GATED, .SYN_CMD, .SYN_STAT] d ((d.onSw g).memError 0 true) := fun g => Only.memError (Only.onSw .refl _ (by decide)) _ _ (by decide)
  unfold Dev.cellError
  dsimp only
  split
  · exact .refl
  · split
    · split
      · exact Only.setTx (h0 _) _ _ (by decide) (by decide)
      · exact (h0 _).trans (hd _ _)
    · exact (h0 _).trans (hd _ _)
theorem Only.cellError {PP : List Part} {RR : List Reg} {xx d : Dev} (hh : Only PP RR xx d) (p cell : Nat)
    (hP : ∀ p ∈ ([.syns, .outs, .counters, .latches, .ring, .log, .pcie, .sw, .ports, .sys, .sent] : List Part), p ∈ PP) (hR : ∀ r ∈ ([.ALM_ACTIVE, .ALM_LATCH, .LANE_QUAD_STAT, .OUT_STAT, .PWR_STAT, .SW_BUF_GATED, .SYN_CMD, .SYN_STAT] : List Reg), r ∈ RR) :
    Only PP RR xx (Dev.cellError d p cell) := hh.andThen (only_cellError d p cell) hP hR
theorem only_listError (d : Dev) (p q pos : Nat) (descriptor : Bool) : Only [.counters, .latches, .ring, .log, .pcie, .sw, .ports, .sent] [.ALM_ACTIVE, .ALM_LATCH, .PWR_STAT, .SW_BUF_GATED] d (Dev.listError d p q pos descriptor) := by
  unfold Dev.listError
  (try dsimp only)
  repeat' first
    | with_reducible exact Only.refl
    | with_reducible refine Only.onSw ?_ _ (by decide)
    | with_reducible refine Only.memError ?_ _ _ (by decide)
    | with_reducible refine Only.retireOther ?_ _ _ _ (by decide)
    | with_reducible refine Only.discardCause ?_ _ _ (by decide) (by decide)
    | with_reducible refine Only.judgeBanks ?_ (by decide) (by decide)
    | with_reducible refine Only.judgeIdle ?_ _ (by decide) (by decide)
    | with_reducible refine Only.logDiscard ?_ _ _ (by decide) (by decide)
    | with_reducible refine Only.popHead ?_ _ _ _ _ (by decide) (by decide)
    | with_reducible refine Only.each ?_ _ _ (fun _ _ => ?_)
    | split
    | dsimp only
theorem Only.listError {PP : List Part} {RR : List Reg} {xx d : Dev} (hh : Only PP RR xx d) (p q pos : Nat) (descriptor : Bool)
    (hP : ∀ p ∈ ([.counters, .latches, .ring, .log, .pcie, .sw, .ports, .sent] : List Part), p ∈ PP) (hR : ∀ r ∈ ([.ALM_ACTIVE, .ALM_LATCH, .PWR_STAT, .SW_BUF_GATED] : List Reg), r ∈ RR) :
    Only PP RR xx (Dev.listError d p q pos descriptor) := hh.andThen (only_listError d p q pos descriptor) hP hR
theorem only_sendingError (d : Dev) (p n : Nat) (descriptor : Bool) : Only [.counters, .latches, .ring, .log, .pcie, .sw, .sent] [.ALM_ACTIVE, .ALM_LATCH] d (Dev.sendingError d p n descriptor) := by
  unfold Dev.sendingError
  (try dsimp only)
  repeat' first
    | with_reducible exact Only.refl
    | with_reducible refine Only.onSw ?_ _ (by decide)
    | with_reducible refine Only.memError ?_ _ _ (by decide)
    | with_reducible refine Only.retireOther ?_ _ _ _ (by decide)
    | with_reducible refine Only.discardCause ?_ _ _ (by decide) (by decide)
    | with_reducible refine Only.logDiscard ?_ _ _ (by decide) (by decide)
    | with_reducible refine Only.setTx ?_ _ _ (by decide) (by decide)
    | split
    | dsimp only
theorem Only.sendingError {PP : List Part} {RR : List Reg} {xx d : Dev} (hh : Only PP RR xx d) (p n : Nat) (descriptor : Bool)
    (hP : ∀ p ∈ ([.counters, .latches, .ring, .log, .pcie, .sw, .sent] : List Part), p ∈ PP) (hR : ∀ r ∈ ([.ALM_ACTIVE, .ALM_LATCH] : List Reg), r ∈ RR) :
    Only PP RR xx (Dev.sendingError d p n descriptor) := hh.andThen (only_sendingError d p n descriptor) hP hR
theorem only_retireEntry (d : Dev) (cls mem i : Nat) : Only [.counters, .latches, .ring, .log, .pcie, .sw, .sent] [.ALM_ACTIVE, .ALM_LATCH] d (Dev.retireEntry d cls mem i) := by
  unfold Dev.retireEntry
  (try dsimp only)
  repeat' first
    | with_reducible exact Only.refl
    | with_reducible refine Only.onSw ?_ _ (by decide)
    | with_reducible refine Only.raise ?_ _ (by decide)
    | with_reducible refine Only.memError ?_ _ _ (by decide)
    | with_reducible refine Only.logAdd ?_ _ _ _ _ (by decide)
    | split
    | dsimp only
theorem Only.retireEntry {PP : List Part} {RR : List Reg} {xx d : Dev} (hh : Only PP RR xx d) (cls mem i : Nat)
    (hP : ∀ p ∈ ([.counters, .latches, .ring, .log, .pcie, .sw, .sent] : List Part), p ∈ PP) (hR : ∀ r ∈ ([.ALM_ACTIVE, .ALM_LATCH] : List Reg), r ∈ RR) :
    Only PP RR xx (Dev.retireEntry d cls mem i) := hh.andThen (only_retireEntry d cls mem i) hP hR
theorem only_tableError (d : Dev) (t : TableId) (i : Nat) : Only [.counters, .latches, .ring, .log, .pcie, .sw, .sent] [.ALM_ACTIVE, .ALM_LATCH, .FDB_W0, .FDB_W1, .FDB_W2, .FDB_W3, .VLAN_W3] d (Dev.tableError d t i) := by
  unfold Dev.tableError
  (try dsimp only)
  repeat' first
    | with_reducible exact Only.refl
    | with_reducible refine Only.set ?_ _ _ _ (by decide)
    | with_reducible refine Only.fdbDrop ?_ _ (by decide) (by decide)
    | with_reducible refine Only.retireEntry ?_ _ _ _ (by decide) (by decide)
    | split
    | dsimp only
theorem Only.tableError {PP : List Part} {RR : List Reg} {xx d : Dev} (hh : Only PP RR xx d) (t : TableId) (i : Nat)
    (hP : ∀ p ∈ ([.counters, .latches, .ring, .log, .pcie, .sw, .sent] : List Part), p ∈ PP) (hR : ∀ r ∈ ([.ALM_ACTIVE, .ALM_LATCH, .FDB_W0, .FDB_W1, .FDB_W2, .FDB_W3, .VLAN_W3] : List Reg), r ∈ RR) :
    Only PP RR xx (Dev.tableError d t i) := hh.andThen (only_tableError d t i) hP hR
theorem only_auditCount (d : Dev) (j n : Nat) : Only [.counters, .latches, .ring, .log, .pcie, .sent] [.ALM_ACTIVE, .ALM_LATCH, .SW_AUDIT_STAT] d (Dev.auditCount d j n) := by
  unfold Dev.auditCount
  (try dsimp only)
  repeat' first
    | with_reducible exact Only.refl
    | with_reducible refine Only.set ?_ _ _ _ (by decide)
    | with_reducible refine Only.countDev ?_ _ _ (by decide)
    | with_reducible refine Only.when ?_ _ _ ?_
    | split
    | dsimp only
theorem Only.auditCount {PP : List Part} {RR : List Reg} {xx d : Dev} (hh : Only PP RR xx d) (j n : Nat)
    (hP : ∀ p ∈ ([.counters, .latches, .ring, .log, .pcie, .sent] : List Part), p ∈ PP) (hR : ∀ r ∈ ([.ALM_ACTIVE, .ALM_LATCH, .SW_AUDIT_STAT] : List Reg), r ∈ RR) :
    Only PP RR xx (Dev.auditCount d j n) := hh.andThen (only_auditCount d j n) hP hR
theorem only_auditFrame (d : Dev) (finds : AuditFinds) (fid : Nat) : Only [.counters, .latches, .ring, .log, .pcie, .sw, .sent] [.ALM_ACTIVE, .ALM_LATCH, .SW_AUDIT_STAT] d (Dev.auditFrame d finds fid) := by
  unfold Dev.auditFrame
  (try dsimp only)
  repeat' first
    | with_reducible exact Only.refl
    | with_reducible refine Only.auditCount ?_ _ _ (by decide) (by decide)
    | with_reducible refine Only.freeFrame ?_ _ (by decide) (by decide)
    | with_reducible refine Only.onFrame ?_ _ _ (by decide) (by decide)
    | with_reducible refine Only.when ?_ _ _ ?_
    | split
    | dsimp only
theorem Only.auditFrame {PP : List Part} {RR : List Reg} {xx d : Dev} (hh : Only PP RR xx d) (finds : AuditFinds) (fid : Nat)
    (hP : ∀ p ∈ ([.counters, .latches, .ring, .log, .pcie, .sw, .sent] : List Part), p ∈ PP) (hR : ∀ r ∈ ([.ALM_ACTIVE, .ALM_LATCH, .SW_AUDIT_STAT] : List Reg), r ∈ RR) :
    Only PP RR xx (Dev.auditFrame d finds fid) := hh.andThen (only_auditFrame d finds fid) hP hR
theorem only_auditCross (d : Dev) (x : Nat × Nat) : Only [.syns, .outs, .counters, .latches, .ring, .log, .pcie, .sw, .ports, .sys, .sent] [.ALM_ACTIVE, .ALM_LATCH, .LANE_QUAD_STAT, .OUT_STAT, .PWR_STAT, .RECOV_W4, .SW_BUF_GATED, .SYN_CMD, .SYN_STAT] d (Dev.auditCross d x) := by
  unfold Dev.auditCross
  (try dsimp only)
  repeat' first
    | with_reducible exact Only.refl
    | with_reducible refine Only.onSw ?_ _ (by decide)
    | with_reducible refine Only.countDev ?_ _ _ (by decide)
    | with_reducible refine Only.onFrame ?_ _ _ (by decide) (by decide)
    | with_reducible refine Only.spoilFrame ?_ _ (by decide) (by decide)
    | split
    | dsimp only
theorem Only.auditCross {PP : List Part} {RR : List Reg} {xx d : Dev} (hh : Only PP RR xx d) (x : Nat × Nat)
    (hP : ∀ p ∈ ([.syns, .outs, .counters, .latches, .ring, .log, .pcie, .sw, .ports, .sys, .sent] : List Part), p ∈ PP) (hR : ∀ r ∈ ([.ALM_ACTIVE, .ALM_LATCH, .LANE_QUAD_STAT, .OUT_STAT, .PWR_STAT, .RECOV_W4, .SW_BUF_GATED, .SYN_CMD, .SYN_STAT] : List Reg), r ∈ RR) :
    Only PP RR xx (Dev.auditCross d x) := hh.andThen (only_auditCross d x) hP hR
theorem only_auditPass (d : Dev) (finds : AuditFinds) : Only [.syns, .outs, .counters, .latches, .ring, .log, .pcie, .sw, .ports, .sys, .sent] [.ALM_ACTIVE, .ALM_LATCH, .LANE_QUAD_STAT, .OUT_STAT, .PWR_STAT, .RECOV_W4, .SW_AUDIT_STAT, .SW_BUF_GATED, .SYN_CMD, .SYN_STAT] d (Dev.auditPass d finds) := by
  unfold Dev.auditPass
  (try dsimp only)
  repeat' first
    | with_reducible exact Only.refl
    | with_reducible refine Only.set ?_ _ _ _ (by decide)
    | with_reducible refine Only.onSw ?_ _ (by decide)
    | with_reducible refine Only.raise ?_ _ (by decide)
    | with_reducible refine Only.auditCount ?_ _ _ (by decide) (by decide)
    | with_reducible refine Only.auditCross ?_ _ (by decide) (by decide)
    | with_reducible refine Only.auditFrame ?_ _ _ (by decide) (by decide)
    | with_reducible refine Only.judgeBanks ?_ (by decide) (by decide)
    | with_reducible refine Only.each ?_ _ _ (fun _ _ => ?_)
    | split
    | dsimp only
theorem Only.auditPass {PP : List Part} {RR : List Reg} {xx d : Dev} (hh : Only PP RR xx d) (finds : AuditFinds)
    (hP : ∀ p ∈ ([.syns, .outs, .counters, .latches, .ring, .log, .pcie, .sw, .ports, .sys, .sent] : List Part), p ∈ PP) (hR : ∀ r ∈ ([.ALM_ACTIVE, .ALM_LATCH, .LANE_QUAD_STAT, .OUT_STAT, .PWR_STAT, .RECOV_W4, .SW_AUDIT_STAT, .SW_BUF_GATED, .SYN_CMD, .SYN_STAT] : List Reg), r ∈ RR) :
    Only PP RR xx (Dev.auditPass d finds) := hh.andThen (only_auditPass d finds) hP hR
theorem only_rejectCfg (d : Dev) (p : Nat) : Only [] [.PRT_GATE_STAT] d (Dev.rejectCfg d p) := by
  unfold Dev.rejectCfg
  (try dsimp only)
  repeat' first
    | with_reducible exact Only.refl
    | with_reducible refine Only.set ?_ _ _ _ (by decide)
    | split
    | dsimp only
theorem Only.rejectCfg {PP : List Part} {RR : List Reg} {xx d : Dev} (hh : Only PP RR xx d) (p : Nat)
    (hP : ∀ p ∈ ([] : List Part), p ∈ PP) (hR : ∀ r ∈ ([.PRT_GATE_STAT] : List Reg), r ∈ RR) :
    Only PP RR xx (Dev.rejectCfg d p) := hh.andThen (only_rejectCfg d p) hP hR
theorem only_bankWrite (d : Dev) (p bank : Nat) (r : Reg) (u : Nat) (v : Word) :
    Only [] (r :: [.PRT_GATE_STAT]) d (Dev.bankWrite d p bank r u v) := by
  unfold Dev.bankWrite
  dsimp only
  split
  · exact Only.rescheduled (Only.store .refl _ _ _ (by simp)) _ (by decide) (fun x hx => List.mem_cons_of_mem _ (by revert x; decide))
  · exact Only.store .refl _ _ _ (by simp)
theorem only_gateWrite (d : Dev) (p : Nat) (t : GateTarget) (v : Word) : Only [] [.GCL_W0, .GCL_W1, .PRT_GATE_CFG, .PRT_GATE_STAT, .PRT_GCL_BASE_HI, .PRT_GCL_BASE_LO, .PRT_GCL_BASE_NS, .PRT_GCL_CYCLE, .PRT_GCL_LEN] d (Dev.gateWrite d p t v) := by
  unfold Dev.gateWrite
  repeat' first
    | with_reducible exact .refl
    | with_reducible exact Only.rejectCfg .refl _ (by decide) (by decide)
    | with_reducible exact (only_bankWrite _ _ _ _ _ _).weaken (by decide) (by decide)
    | with_reducible exact Only.rescheduled (Only.set (Only.store .refl _ _ _ (by decide)) _ _ _ (by decide)) _ (by decide) (by decide)
    | with_reducible exact Only.store .refl _ _ _ (by decide)
    | split
    | dsimp only
theorem Only.gateWrite {PP : List Part} {RR : List Reg} {xx d : Dev} (hh : Only PP RR xx d) (p : Nat) (t : GateTarget) (v : Word)
    (hP : ∀ p ∈ ([] : List Part), p ∈ PP) (hR : ∀ r ∈ ([.GCL_W0, .GCL_W1, .PRT_GATE_CFG, .PRT_GATE_STAT, .PRT_GCL_BASE_HI, .PRT_GCL_BASE_LO, .PRT_GCL_BASE_NS, .PRT_GCL_CYCLE, .PRT_GCL_LEN] : List Reg), r ∈ RR) :
    Only PP RR xx (Dev.gateWrite d p t v) := hh.andThen (only_gateWrite d p t v) hP hR
theorem only_queueWrite (d : Dev) (p q : Nat) (r : QueueReg) (v : Word) : Only [.counters, .latches, .ring, .log, .pcie, .sw, .sent] [.ALM_ACTIVE, .ALM_LATCH, .PRT_GATE_STAT, .PRT_Q_CFG, .PRT_Q_RES, .PWR_STAT, .SW_BUF_GATED] d (Dev.queueWrite d p q r v) := by
  unfold Dev.queueWrite
  (try dsimp only)
  repeat' first
    | with_reducible exact Only.refl
    | with_reducible refine Only.set ?_ _ _ _ (by decide)
    | with_reducible refine Only.store ?_ _ _ _ (by decide)
    | with_reducible refine Only.judgeBanks ?_ (by decide) (by decide)
    | with_reducible refine Only.judgeBuf ?_ (by decide) (by decide)
    | with_reducible refine Only.rejectCfg ?_ _ (by decide) (by decide)
    | with_reducible refine Only.setQueue ?_ _ _ _ (by decide) (by decide)
    | with_reducible refine Only.when ?_ _ _ ?_
    | split
    | dsimp only
theorem Only.queueWrite {PP : List Part} {RR : List Reg} {xx d : Dev} (hh : Only PP RR xx d) (p q : Nat) (r : QueueReg) (v : Word)
    (hP : ∀ p ∈ ([.counters, .latches, .ring, .log, .pcie, .sw, .sent] : List Part), p ∈ PP) (hR : ∀ r ∈ ([.ALM_ACTIVE, .ALM_LATCH, .PRT_GATE_STAT, .PRT_Q_CFG, .PRT_Q_RES, .PWR_STAT, .SW_BUF_GATED] : List Reg), r ∈ RR) :
    Only PP RR xx (Dev.queueWrite d p q r v) := hh.andThen (only_queueWrite d p q r v) hP hR
theorem only_repredictDone (d : Dev) (p : Nat) : Only [.counters, .latches, .ring, .log, .pcie, .sw, .ports, .sent] [.ALM_ACTIVE, .ALM_LATCH, .PRT_GATE_STAT, .PWR_STAT, .SW_BUF_GATED] d (Dev.repredictDone d p) := by
  unfold Dev.repredictDone
  (try dsimp only)
  repeat' first
    | with_reducible exact Only.refl
    | with_reducible refine Only.set ?_ _ _ _ (by decide)
    | with_reducible refine Only.judgeBanks ?_ (by decide) (by decide)
    | with_reducible refine Only.repredict ?_ _ (by decide) (by decide)
    | split
    | dsimp only
theorem Only.repredictDone {PP : List Part} {RR : List Reg} {xx d : Dev} (hh : Only PP RR xx d) (p : Nat)
    (hP : ∀ p ∈ ([.counters, .latches, .ring, .log, .pcie, .sw, .ports, .sent] : List Part), p ∈ PP) (hR : ∀ r ∈ ([.ALM_ACTIVE, .ALM_LATCH, .PRT_GATE_STAT, .PWR_STAT, .SW_BUF_GATED] : List Reg), r ∈ RR) :
    Only PP RR xx (Dev.repredictDone d p) := hh.andThen (only_repredictDone d p) hP hR

/-! ## Ring -/

theorem only_cntDataWrite (d : Dev) (v : Word) (sameCycle : Nat) : Only [.counters] [] d (Dev.cntDataWrite d v sameCycle) := by
  unfold Dev.cntDataWrite
  (try dsimp only)
  repeat' first
    | with_reducible exact Only.refl
    | with_reducible refine Only.bump ?_ _ _ _ (by decide) (by decide)
    | split
    | dsimp only
  all_goals first
    | with_reducible refine Only.upd_counters ?_ _ (by decide)
    | skip
  all_goals (repeat' first
      | with_reducible exact Only.refl
      | with_reducible refine Only.bump ?_ _ _ _ (by decide) (by decide)
      | split
      | dsimp only)
  all_goals first
    | with_reducible refine Only.upd_counters ?_ _ (by decide)
    | skip
  all_goals (repeat' first
      | with_reducible exact Only.refl
      | with_reducible refine Only.bump ?_ _ _ _ (by decide) (by decide)
      | split
      | dsimp only)
theorem Only.cntDataWrite {PP : List Part} {RR : List Reg} {xx d : Dev} (hh : Only PP RR xx d) (v : Word) (sameCycle : Nat)
    (hP : ∀ p ∈ ([.counters] : List Part), p ∈ PP) (hR : ∀ r ∈ ([] : List Reg), r ∈ RR) :
    Only PP RR xx (Dev.cntDataWrite d v sameCycle) := hh.andThen (only_cntDataWrite d v sameCycle) hP hR
theorem only_cntCfgWrite (d : Dev) (v : Word) : Only [.cntCfg] [.RING_STAT] d (Dev.cntCfgWrite d v) := by
  unfold Dev.cntCfgWrite
  (try dsimp only)
  repeat' first
    | with_reducible exact Only.refl
    | with_reducible refine Only.set ?_ _ _ _ (by decide)
    | split
    | dsimp only
  all_goals first
    | with_reducible refine Only.upd_cntCfg ?_ _ (by decide)
    | skip
  all_goals (repeat' first
      | with_reducible exact Only.refl
      | with_reducible refine Only.set ?_ _ _ _ (by decide)
      | split
      | dsimp only)
  all_goals first
    | with_reducible refine Only.upd_cntCfg ?_ _ (by decide)
    | skip
  all_goals (repeat' first
      | with_reducible exact Only.refl
      | with_reducible refine Only.set ?_ _ _ _ (by decide)
      | split
      | dsimp only)
theorem Only.cntCfgWrite {PP : List Part} {RR : List Reg} {xx d : Dev} (hh : Only PP RR xx d) (v : Word)
    (hP : ∀ p ∈ ([.cntCfg] : List Part), p ∈ PP) (hR : ∀ r ∈ ([.RING_STAT] : List Reg), r ∈ RR) :
    Only PP RR xx (Dev.cntCfgWrite d v) := hh.andThen (only_cntCfgWrite d v) hP hR
theorem only_foldLatches (d : Dev) : Only [.counters, .latches] [] d (Dev.foldLatches d) := by
  unfold Dev.foldLatches
  exact Only.each (Only.upd_latches .refl _ (by decide)) _ _ (fun _ _ => (only_bump _ _ _ _).weaken (by decide) (by decide))
theorem Only.foldLatches {PP : List Part} {RR : List Reg} {xx d : Dev} (hh : Only PP RR xx d) 
    (hP : ∀ p ∈ ([.counters, .latches] : List Part), p ∈ PP) (hR : ∀ r ∈ ([] : List Reg), r ∈ RR) :
    Only PP RR xx (Dev.foldLatches d) := hh.andThen (only_foldLatches d) hP hR
theorem only_ringCtrlWrite (d : Dev) (v : Word) : Only [.ring] [.RING_CTRL] d (Dev.ringCtrlWrite d v) := by
  unfold Dev.ringCtrlWrite
  (try dsimp only)
  repeat' first
    | with_reducible exact Only.refl
    | with_reducible refine Only.store ?_ _ _ _ (by decide)
    | with_reducible refine Only.when ?_ _ _ ?_
    | split
    | dsimp only
  all_goals first
    | with_reducible refine Only.upd_ring ?_ _ (by decide)
    | skip
  all_goals (repeat' first
      | with_reducible exact Only.refl
      | with_reducible refine Only.store ?_ _ _ _ (by decide)
      | with_reducible refine Only.when ?_ _ _ ?_
      | split
      | dsimp only)
  all_goals first
    | with_reducible refine Only.upd_ring ?_ _ (by decide)
    | skip
  all_goals (repeat' first
      | with_reducible exact Only.refl
      | with_reducible refine Only.store ?_ _ _ _ (by decide)
      | with_reducible refine Only.when ?_ _ _ ?_
      | split
      | dsimp only)
theorem Only.ringCtrlWrite {PP : List Part} {RR : List Reg} {xx d : Dev} (hh : Only PP RR xx d) (v : Word)
    (hP : ∀ p ∈ ([.ring] : List Part), p ∈ PP) (hR : ∀ r ∈ ([.RING_CTRL] : List Reg), r ∈ RR) :
    Only PP RR xx (Dev.ringCtrlWrite d v) := hh.andThen (only_ringCtrlWrite d v) hP hR
theorem only_ringBoundary (d : Dev) : Only [.counters, .latches, .ring] [] d (Dev.ringBoundary d) := by
  unfold Dev.ringBoundary
  (try dsimp only)
  repeat' first
    | with_reducible exact Only.refl
    | with_reducible refine Only.foldLatches ?_ (by decide) (by decide)
    | split
    | dsimp only
  all_goals first
    | with_reducible refine Only.upd_counters ?_ _ (by decide)
    | with_reducible refine Only.upd_ring ?_ _ (by decide)
    | skip
  all_goals (repeat' first
      | with_reducible exact Only.refl
      | with_reducible refine Only.foldLatches ?_ (by decide) (by decide)
      | split
      | dsimp only)
  all_goals first
    | with_reducible refine Only.upd_counters ?_ _ (by decide)
    | with_reducible refine Only.upd_ring ?_ _ (by decide)
    | skip
  all_goals (repeat' first
      | with_reducible exact Only.refl
      | with_reducible refine Only.foldLatches ?_ (by decide) (by decide)
      | split
      | dsimp only)
theorem Only.ringBoundary {PP : List Part} {RR : List Reg} {xx d : Dev} (hh : Only PP RR xx d) 
    (hP : ∀ p ∈ ([.counters, .latches, .ring] : List Part), p ∈ PP) (hR : ∀ r ∈ ([] : List Reg), r ∈ RR) :
    Only PP RR xx (Dev.ringBoundary d) := hh.andThen (only_ringBoundary d) hP hR
theorem only_ringStart (d : Dev) : Only [.counters, .latches, .ring, .log, .pcie, .sent] [.ALM_ACTIVE, .ALM_LATCH] d (Dev.ringStart d) := by
  unfold Dev.ringStart
  (try dsimp only)
  repeat' first
    | with_reducible exact Only.refl
    | with_reducible refine Only.countDev ?_ _ _ (by decide)
    | split
    | dsimp only
  all_goals first
    | with_reducible refine Only.upd_ring ?_ _ (by decide)
    | skip
  all_goals (repeat' first
      | with_reducible exact Only.refl
      | with_reducible refine Only.countDev ?_ _ _ (by decide)
      | split
      | dsimp only)
  all_goals first
    | with_reducible refine Only.upd_ring ?_ _ (by decide)
    | skip
  all_goals (repeat' first
      | with_reducible exact Only.refl
      | with_reducible refine Only.countDev ?_ _ _ (by decide)
      | split
      | dsimp only)
theorem Only.ringStart {PP : List Part} {RR : List Reg} {xx d : Dev} (hh : Only PP RR xx d) 
    (hP : ∀ p ∈ ([.counters, .latches, .ring, .log, .pcie, .sent] : List Part), p ∈ PP) (hR : ∀ r ∈ ([.ALM_ACTIVE, .ALM_LATCH] : List Reg), r ∈ RR) :
    Only PP RR xx (Dev.ringStart d) := hh.andThen (only_ringStart d) hP hR
theorem only_ringAreaRead (d : Dev) : Only [] [.RING_AREA_ADDR, .RING_AREA_DATA] d (Dev.ringAreaRead d) := by
  unfold Dev.ringAreaRead
  (try dsimp only)
  repeat' first
    | with_reducible exact Only.refl
    | with_reducible refine Only.set ?_ _ _ _ (by decide)
    | with_reducible refine Only.setWord ?_ _ _ _ (by decide)
    | split
    | dsimp only
theorem Only.ringAreaRead {PP : List Part} {RR : List Reg} {xx d : Dev} (hh : Only PP RR xx d) 
    (hP : ∀ p ∈ ([] : List Part), p ∈ PP) (hR : ∀ r ∈ ([.RING_AREA_ADDR, .RING_AREA_DATA] : List Reg), r ∈ RR) :
    Only PP RR xx (Dev.ringAreaRead d) := hh.andThen (only_ringAreaRead d) hP hR
theorem only_skipHost (d : Dev) : Only [.counters, .latches, .ring, .log, .pcie, .sent] [.ALM_ACTIVE, .ALM_LATCH] d (Dev.skipHost d) := by
  unfold Dev.skipHost
  (try dsimp only)
  repeat' first
    | with_reducible exact Only.refl
    | with_reducible refine Only.raise ?_ _ (by decide)
    | with_reducible refine Only.countDev ?_ _ _ (by decide)
    | split
    | dsimp only
theorem Only.skipHost {PP : List Part} {RR : List Reg} {xx d : Dev} (hh : Only PP RR xx d) 
    (hP : ∀ p ∈ ([.counters, .latches, .ring, .log, .pcie, .sent] : List Part), p ∈ PP) (hR : ∀ r ∈ ([.ALM_ACTIVE, .ALM_LATCH] : List Reg), r ∈ RR) :
    Only PP RR xx (Dev.skipHost d) := hh.andThen (only_skipHost d) hP hR
theorem only_hostRing (d : Dev) : Only [.counters, .latches, .ring, .log, .pcie, .sent] [.ALM_ACTIVE, .ALM_LATCH, .RING_HOST_HEAD] d (Dev.hostRing d) := by
  unfold Dev.hostRing
  (try dsimp only)
  repeat' first
    | with_reducible exact Only.refl
    | with_reducible refine Only.set ?_ _ _ _ (by decide)
    | with_reducible refine Only.emit ?_ _ (by decide)
    | with_reducible refine Only.msix ?_ _ (by decide)
    | with_reducible refine Only.skipHost ?_ (by decide) (by decide)
    | with_reducible refine Only.when ?_ _ _ ?_
    | split
    | dsimp only
  all_goals first
    | with_reducible refine Only.upd_ring ?_ _ (by decide)
    | skip
  all_goals (repeat' first
      | with_reducible exact Only.refl
      | with_reducible refine Only.set ?_ _ _ _ (by decide)
      | with_reducible refine Only.emit ?_ _ (by decide)
      | with_reducible refine Only.msix ?_ _ (by decide)
      | with_reducible refine Only.skipHost ?_ (by decide) (by decide)
      | with_reducible refine Only.when ?_ _ _ ?_
      | split
      | dsimp only)
  all_goals first
    | with_reducible refine Only.upd_ring ?_ _ (by decide)
    | skip
  all_goals (repeat' first
      | with_reducible exact Only.refl
      | with_reducible refine Only.set ?_ _ _ _ (by decide)
      | with_reducible refine Only.emit ?_ _ (by decide)
      | with_reducible refine Only.msix ?_ _ (by decide)
      | with_reducible refine Only.skipHost ?_ (by decide) (by decide)
      | with_reducible refine Only.when ?_ _ _ ?_
      | split
      | dsimp only)
theorem Only.hostRing {PP : List Part} {RR : List Reg} {xx d : Dev} (hh : Only PP RR xx d) 
    (hP : ∀ p ∈ ([.counters, .latches, .ring, .log, .pcie, .sent] : List Part), p ∈ PP) (hR : ∀ r ∈ ([.ALM_ACTIVE, .ALM_LATCH, .RING_HOST_HEAD] : List Reg), r ∈ RR) :
    Only PP RR xx (Dev.hostRing d) := hh.andThen (only_hostRing d) hP hR
theorem only_telPart (d : Dev) (s : Snapshot) (parts count part : Nat) : Only [.syns, .outs, .counters, .latches, .ring, .log, .pcie, .sw, .ports, .sys, .sent, .freeCtr] [.ALM_ACTIVE, .ALM_LATCH, .LANE_QUAD_STAT, .OUT_STAT, .PRT_Q_STAT, .PWR_STAT, .SW_BUF_GATED, .SYN_CMD, .SYN_STAT] d (Dev.telPart d s parts count part) := by
  unfold Dev.telPart
  dsimp only
  split
  · exact Only.countDev .refl _ _ (by decide)
  · split
    · rename_i e he
      refine Only.judgeBanks (?_ : Only _ _ d (e, true).1) (by decide) (by decide)
      rw [← he]
      exact Only.offer (Only.giveCells (Only.setFrame (Only.onSw .refl _ (by decide)) _ _ (by decide) (by decide)) _ _ (by decide) (by decide)) _ _ _ _ _ (by decide) (by decide)
    · rename_i e he
      refine Only.judgeBanks (Only.countDev (Only.setFrame (?_ : Only _ _ d (e, false).1) _ _ (by decide) (by decide)) _ _ (by decide)) (by decide) (by decide)
      rw [← he]
      exact Only.offer (Only.giveCells (Only.setFrame (Only.onSw .refl _ (by decide)) _ _ (by decide) (by decide)) _ _ (by decide) (by decide)) _ _ _ _ _ (by decide) (by decide)
theorem Only.telPart {PP : List Part} {RR : List Reg} {xx d : Dev} (hh : Only PP RR xx d) (s : Snapshot) (parts count part : Nat)
    (hP : ∀ p ∈ ([.syns, .outs, .counters, .latches, .ring, .log, .pcie, .sw, .ports, .sys, .sent, .freeCtr] : List Part), p ∈ PP) (hR : ∀ r ∈ ([.ALM_ACTIVE, .ALM_LATCH, .LANE_QUAD_STAT, .OUT_STAT, .PRT_Q_STAT, .PWR_STAT, .SW_BUF_GATED, .SYN_CMD, .SYN_STAT] : List Reg), r ∈ RR) :
    Only PP RR xx (Dev.telPart d s parts count part) := hh.andThen (only_telPart d s parts count part) hP hR
theorem only_telemetry (d : Dev) : Only [.syns, .outs, .counters, .latches, .ring, .log, .pcie, .sw, .ports, .sys, .sent, .freeCtr] [.ALM_ACTIVE, .ALM_LATCH, .LANE_QUAD_STAT, .OUT_STAT, .PRT_Q_STAT, .PWR_STAT, .SW_BUF_GATED, .SYN_CMD, .SYN_STAT] d (Dev.telemetry d) := by
  unfold Dev.telemetry
  (try dsimp only)
  repeat' first
    | with_reducible exact Only.refl
    | with_reducible refine Only.judgeBanks ?_ (by decide) (by decide)
    | with_reducible refine Only.telPart ?_ _ _ _ _ (by decide) (by decide)
    | with_reducible refine Only.each ?_ _ _ (fun _ _ => ?_)
    | split
    | dsimp only
  all_goals first
    | with_reducible refine Only.upd_ring ?_ _ (by decide)
    | skip
  all_goals (repeat' first
      | with_reducible exact Only.refl
      | with_reducible refine Only.judgeBanks ?_ (by decide) (by decide)
      | with_reducible refine Only.telPart ?_ _ _ _ _ (by decide) (by decide)
      | with_reducible refine Only.each ?_ _ _ (fun _ _ => ?_)
      | split
      | dsimp only)
  all_goals first
    | with_reducible refine Only.upd_ring ?_ _ (by decide)
    | skip
  all_goals (repeat' first
      | with_reducible exact Only.refl
      | with_reducible refine Only.judgeBanks ?_ (by decide) (by decide)
      | with_reducible refine Only.telPart ?_ _ _ _ _ (by decide) (by decide)
      | with_reducible refine Only.each ?_ _ _ (fun _ _ => ?_)
      | split
      | dsimp only)
theorem Only.telemetry {PP : List Part} {RR : List Reg} {xx d : Dev} (hh : Only PP RR xx d) 
    (hP : ∀ p ∈ ([.syns, .outs, .counters, .latches, .ring, .log, .pcie, .sw, .ports, .sys, .sent, .freeCtr] : List Part), p ∈ PP) (hR : ∀ r ∈ ([.ALM_ACTIVE, .ALM_LATCH, .LANE_QUAD_STAT, .OUT_STAT, .PRT_Q_STAT, .PWR_STAT, .SW_BUF_GATED, .SYN_CMD, .SYN_STAT] : List Reg), r ∈ RR) :
    Only PP RR xx (Dev.telemetry d) := hh.andThen (only_telemetry d) hP hR

/-! ## Ops -/

theorem only_setRole (d : Dev) (t : TbId) (r : Nat) : Only [] [.TB_ROLE] d (Dev.setRole d t r) := by
  unfold Dev.setRole
  (try dsimp only)
  repeat' first
    | with_reducible exact Only.refl
    | with_reducible refine Only.setMark ?_ _ _ _ _ (by decide) (by decide)
    | split
    | dsimp only
theorem Only.setRole {PP : List Part} {RR : List Reg} {xx d : Dev} (hh : Only PP RR xx d) (t : TbId) (r : Nat)
    (hP : ∀ p ∈ ([] : List Part), p ∈ PP) (hR : ∀ r ∈ ([.TB_ROLE] : List Reg), r ∈ RR) :
    Only PP RR xx (Dev.setRole d t r) := hh.andThen (only_setRole d t r) hP hR

end Sys2Proof.Safety
end

