-- ==== Sys2Proof/Laws/Footprint2.lean ====
section
/-! SUPPORT. The footprints of the operations of LaneOps, TioOps, Tio, PowerOps, Hooks, Time, Ptp, Mgmt, Twin, Synth, Power: what each can touch. -/

set_option linter.unusedTactic false
set_option linter.unreachableTactic false

namespace Sys2Proof.Safety

open Sys2Proof.Machine Sys2Proof.Laws

variable {P : List Part} {R : List Reg} {d e : Dev}

/-! ## LaneOps -/

theorem only_queueOwn (d : Dev) (p : Nat) (own : OwnKind) (bytes : List Byte) : Only [.syns, .outs, .counters, .latches, .ring, .log, .pcie, .sw, .ports, .sys, .sent] [.ALM_ACTIVE, .ALM_LATCH, .LANE_QUAD_STAT, .OUT_STAT, .PWR_STAT, .SW_BUF_GATED, .SYN_CMD, .SYN_STAT] d (Dev.queueOwn d p own bytes) := by
  unfold Dev.queueOwn
  (try dsimp only)
  repeat' first
    | with_reducible exact Only.refl
    | with_reducible refine Only.onSw ?_ _ (by decide)
    | with_reducible refine Only.link ?_ _ _ _ (by decide) (by decide)
    | with_reducible refine Only.setFrame ?_ _ _ (by decide) (by decide)
    | split
    | dsimp only
theorem Only.queueOwn {PP : List Part} {RR : List Reg} {xx d : Dev} (hh : Only PP RR xx d) (p : Nat) (own : OwnKind) (bytes : List Byte)
    (hP : ∀ p ∈ ([.syns, .outs, .counters, .latches, .ring, .log, .pcie, .sw, .ports, .sys, .sent] : List Part), p ∈ PP) (hR : ∀ r ∈ ([.ALM_ACTIVE, .ALM_LATCH, .LANE_QUAD_STAT, .OUT_STAT, .PWR_STAT, .SW_BUF_GATED, .SYN_CMD, .SYN_STAT] : List Reg), r ∈ RR) :
    Only PP RR xx (Dev.queueOwn d p own bytes) := hh.andThen (only_queueOwn d p own bytes) hP hR
theorem only_sendHello (d : Dev) (p : Nat) : Only [.syns, .outs, .counters, .latches, .ring, .log, .pcie, .sw, .ports, .sys, .sent, .freeCtr] [.ALM_ACTIVE, .ALM_LATCH, .LANE_QUAD_STAT, .OUT_STAT, .PWR_STAT, .SW_BUF_GATED, .SYN_CMD, .SYN_STAT] d (Dev.sendHello d p) := by
  unfold Dev.sendHello
  (try dsimp only)
  repeat' first
    | with_reducible exact Only.refl
    | with_reducible refine Only.onPort ?_ _ _ (by decide)
    | with_reducible refine Only.spendFree ?_ (by decide)
    | with_reducible refine Only.judgeIdle ?_ _ (by decide) (by decide)
    | with_reducible refine Only.queueOwn ?_ _ _ _ (by decide) (by decide)
    | split
    | dsimp only
theorem Only.sendHello {PP : List Part} {RR : List Reg} {xx d : Dev} (hh : Only PP RR xx d) (p : Nat)
    (hP : ∀ p ∈ ([.syns, .outs, .counters, .latches, .ring, .log, .pcie, .sw, .ports, .sys, .sent, .freeCtr] : List Part), p ∈ PP) (hR : ∀ r ∈ ([.ALM_ACTIVE, .ALM_LATCH, .LANE_QUAD_STAT, .OUT_STAT, .PWR_STAT, .SW_BUF_GATED, .SYN_CMD, .SYN_STAT] : List Reg), r ∈ RR) :
    Only PP RR xx (Dev.sendHello d p) := hh.andThen (only_sendHello d p) hP hR
theorem only_refreshPtu (d : Dev) (p : Nat) : Only [] [.PRT_PTU_STAT] d (Dev.refreshPtu d p) := by
  unfold Dev.refreshPtu
  (try dsimp only)
  repeat' first
    | with_reducible exact Only.refl
    | with_reducible refine Only.ptuBit ?_ _ _ _ (by decide) (by decide)
    | split
    | dsimp only
theorem Only.refreshPtu {PP : List Part} {RR : List Reg} {xx d : Dev} (hh : Only PP RR xx d) (p : Nat)
    (hP : ∀ p ∈ ([] : List Part), p ∈ PP) (hR : ∀ r ∈ ([.PRT_PTU_STAT] : List Reg), r ∈ RR) :
    Only PP RR xx (Dev.refreshPtu d p) := hh.andThen (only_refreshPtu d p) hP hR
theorem only_endRxSleep (d : Dev) (p : Nat) : Only [.ports] [.LANE_QUAD_STAT, .PRT_PTU_STAT] d (Dev.endRxSleep d p) := by
  unfold Dev.endRxSleep
  (try dsimp only)
  repeat' first
    | with_reducible exact Only.refl
    | with_reducible refine Only.quadSet ?_ _ _ _ (by decide) (by decide)
    | with_reducible refine Only.onPort ?_ _ _ (by decide)
    | with_reducible refine Only.refreshPtu ?_ _ (by decide) (by decide)
    | split
    | dsimp only
theorem Only.endRxSleep {PP : List Part} {RR : List Reg} {xx d : Dev} (hh : Only PP RR xx d) (p : Nat)
    (hP : ∀ p ∈ ([.ports] : List Part), p ∈ PP) (hR : ∀ r ∈ ([.LANE_QUAD_STAT, .PRT_PTU_STAT] : List Reg), r ∈ RR) :
    Only PP RR xx (Dev.endRxSleep d p) := hh.andThen (only_endRxSleep d p) hP hR
theorem only_endSleep (d : Dev) (p : Nat) : Only [.counters, .latches, .ring, .log, .pcie, .ports, .sent] [.ALM_ACTIVE, .ALM_LATCH, .LANE_QUAD_STAT, .PRT_PTU_STAT, .PWR_PORT_STAT] d (Dev.endSleep d p) := by
  unfold Dev.endSleep
  (try dsimp only)
  repeat' first
    | with_reducible exact Only.refl
    | with_reducible refine Only.quadSet ?_ _ _ _ (by decide) (by decide)
    | with_reducible refine Only.onPort ?_ _ _ (by decide)
    | with_reducible refine Only.endRxSleep ?_ _ (by decide) (by decide)
    | with_reducible refine Only.refreshPower ?_ _ (by decide) (by decide)
    | with_reducible refine Only.refreshPtu ?_ _ (by decide) (by decide)
    | split
    | dsimp only
theorem Only.endSleep {PP : List Part} {RR : List Reg} {xx d : Dev} (hh : Only PP RR xx d) (p : Nat)
    (hP : ∀ p ∈ ([.counters, .latches, .ring, .log, .pcie, .ports, .sent] : List Part), p ∈ PP) (hR : ∀ r ∈ ([.ALM_ACTIVE, .ALM_LATCH, .LANE_QUAD_STAT, .PRT_PTU_STAT, .PWR_PORT_STAT] : List Reg), r ∈ RR) :
    Only PP RR xx (Dev.endSleep d p) := hh.andThen (only_endSleep d p) hP hR
theorem only_losePartner (d : Dev) (p : Nat) : Only [.syns, .outs, .counters, .latches, .ring, .log, .pcie, .sw, .ports, .sys, .sent] [.ALM_ACTIVE, .ALM_LATCH, .LANE_PARTNER_DOM, .LANE_PARTNER_ID_HI, .LANE_PARTNER_ID_LO, .LANE_PARTNER_INFO, .LANE_QUAD_STAT, .OUT_STAT, .PRT_PTU_STAT, .PWR_PORT_STAT, .PWR_STAT, .SW_BUF_GATED, .SYN_CMD, .SYN_STAT] d (Dev.losePartner d p) := by
  unfold Dev.losePartner
  (try dsimp only)
  repeat' first
    | with_reducible exact Only.refl
    | with_reducible refine Only.setWord ?_ _ _ _ (by decide)
    | with_reducible refine Only.quadSet ?_ _ _ _ (by decide) (by decide)
    | with_reducible refine Only.judgeL1 ?_ _ (by decide) (by decide)
    | with_reducible refine Only.judgeSleep ?_ _ (by decide) (by decide)
    | split
    | dsimp only
theorem Only.losePartner {PP : List Part} {RR : List Reg} {xx d : Dev} (hh : Only PP RR xx d) (p : Nat)
    (hP : ∀ p ∈ ([.syns, .outs, .counters, .latches, .ring, .log, .pcie, .sw, .ports, .sys, .sent] : List Part), p ∈ PP) (hR : ∀ r ∈ ([.ALM_ACTIVE, .ALM_LATCH, .LANE_PARTNER_DOM, .LANE_PARTNER_ID_HI, .LANE_PARTNER_ID_LO, .LANE_PARTNER_INFO, .LANE_QUAD_STAT, .OUT_STAT, .PRT_PTU_STAT, .PWR_PORT_STAT, .PWR_STAT, .SW_BUF_GATED, .SYN_CMD, .SYN_STAT] : List Reg), r ∈ RR) :
    Only PP RR xx (Dev.losePartner d p) := hh.andThen (only_losePartner d p) hP hR
theorem only_startBring (d : Dev) (p : Nat) : Only [.syns, .outs, .counters, .latches, .ring, .log, .pcie, .ports, .sys, .sent] [.ALM_ACTIVE, .ALM_LATCH, .LANE_QUAD_STAT, .LANE_STAT, .OUT_STAT, .PRT_PTU_STAT, .SYN_CMD, .SYN_STAT] d (Dev.startBring d p) := by
  unfold Dev.startBring
  (try dsimp only)
  repeat' first
    | with_reducible exact Only.refl
    | with_reducible refine Only.quadSet ?_ _ _ _ (by decide) (by decide)
    | with_reducible refine Only.laneBit ?_ _ _ _ (by decide) (by decide)
    | with_reducible refine Only.onPort ?_ _ _ (by decide)
    | with_reducible refine Only.refreshPtu ?_ _ (by decide) (by decide)
    | with_reducible refine Only.restartLpll ?_ _ (by decide) (by decide)
    | with_reducible refine Only.when ?_ _ _ ?_
    | with_reducible refine Only.each ?_ _ _ (fun _ _ => ?_)
    | split
    | dsimp only
theorem Only.startBring {PP : List Part} {RR : List Reg} {xx d : Dev} (hh : Only PP RR xx d) (p : Nat)
    (hP : ∀ p ∈ ([.syns, .outs, .counters, .latches, .ring, .log, .pcie, .ports, .sys, .sent] : List Part), p ∈ PP) (hR : ∀ r ∈ ([.ALM_ACTIVE, .ALM_LATCH, .LANE_QUAD_STAT, .LANE_STAT, .OUT_STAT, .PRT_PTU_STAT, .SYN_CMD, .SYN_STAT] : List Reg), r ∈ RR) :
    Only PP RR xx (Dev.startBring d p) := hh.andThen (only_startBring d p) hP hR
theorem only_portDown (d : Dev) (p cause : Nat) : Only [.cands, .syns, .outs, .chans, .cpMail, .counters, .latches, .ring, .log, .pcie, .sw, .ports, .ptus, .sys, .sent, .freeCtr] [.ALM_ACTIVE, .ALM_LATCH, .LANE_PARTNER_DOM, .LANE_PARTNER_ID_HI, .LANE_PARTNER_ID_LO, .LANE_PARTNER_INFO, .LANE_QUAD_STAT, .OUT_STAT, .PRT_GATE_STAT, .PRT_PTU_STAT, .PRT_Q_PTX, .PRT_Q_STAT, .PRT_REV_STAT, .PWR_PORT_STAT, .PWR_STAT, .RECOV_W4, .RSEL_CAND_STAT, .SW_BUF_GATED, .SYN_CMD, .SYN_STAT] d (Dev.portDown d p cause) := by
  unfold Dev.portDown
  (try dsimp only)
  repeat' first
    | with_reducible exact Only.refl
    | with_reducible refine Only.set ?_ _ _ _ (by decide)
    | with_reducible refine Only.ptuBit ?_ _ _ _ (by decide) (by decide)
    | with_reducible refine Only.quadSet ?_ _ _ _ (by decide) (by decide)
    | with_reducible refine Only.onPort ?_ _ _ (by decide)
    | with_reducible refine Only.onPtu ?_ _ _ (by decide)
    | with_reducible refine Only.countPort ?_ _ _ _ (by decide)
    | with_reducible refine Only.portEvent ?_ _ _ _ _ (by decide)
    | with_reducible refine Only.cutPort ?_ _ (by decide) (by decide)
    | with_reducible refine Only.endRxSleep ?_ _ (by decide) (by decide)
    | with_reducible refine Only.judgeBanks ?_ (by decide) (by decide)
    | with_reducible refine Only.judgePortCand ?_ _ (by decide) (by decide)
    | with_reducible refine Only.losePartner ?_ _ (by decide) (by decide)
    | with_reducible refine Only.ptpBegin ?_ _ (by decide) (by decide)
    | with_reducible refine Only.refreshPower ?_ _ (by decide) (by decide)
    | with_reducible refine Only.refreshPtx ?_ _ (by decide) (by decide)
    | with_reducible refine Only.replayPort ?_ _ (by decide) (by decide)
    | with_reducible refine Only.setPinLost ?_ _ _ (by decide) (by decide)
    | split
    | dsimp only
theorem Only.portDown {PP : List Part} {RR : List Reg} {xx d : Dev} (hh : Only PP RR xx d) (p cause : Nat)
    (hP : ∀ p ∈ ([.cands, .syns, .outs, .chans, .cpMail, .counters, .latches, .ring, .log, .pcie, .sw, .ports, .ptus, .sys, .sent, .freeCtr] : List Part), p ∈ PP) (hR : ∀ r ∈ ([.ALM_ACTIVE, .ALM_LATCH, .LANE_PARTNER_DOM, .LANE_PARTNER_ID_HI, .LANE_PARTNER_ID_LO, .LANE_PARTNER_INFO, .LANE_QUAD_STAT, .OUT_STAT, .PRT_GATE_STAT, .PRT_PTU_STAT, .PRT_Q_PTX, .PRT_Q_STAT, .PRT_REV_STAT, .PWR_PORT_STAT, .PWR_STAT, .RECOV_W4, .RSEL_CAND_STAT, .SW_BUF_GATED, .SYN_CMD, .SYN_STAT] : List Reg), r ∈ RR) :
    Only PP RR xx (Dev.portDown d p cause) := hh.andThen (only_portDown d p cause) hP hR
theorem only_dropLink (d : Dev) (p cause : Nat) : Only [.cands, .syns, .outs, .chans, .cpMail, .counters, .latches, .ring, .log, .pcie, .sw, .ports, .ptus, .sys, .sent, .freeCtr] [.ALM_ACTIVE, .ALM_LATCH, .LANE_PARTNER_DOM, .LANE_PARTNER_ID_HI, .LANE_PARTNER_ID_LO, .LANE_PARTNER_INFO, .LANE_QUAD_STAT, .LANE_STAT, .OUT_STAT, .PRT_GATE_STAT, .PRT_PTU_STAT, .PRT_Q_PTX, .PRT_Q_STAT, .PRT_REV_STAT, .PWR_PORT_STAT, .PWR_STAT, .RECOV_W4, .RSEL_CAND_STAT, .SW_BUF_GATED, .SYN_CMD, .SYN_STAT] d (Dev.dropLink d p cause) := by
  unfold Dev.dropLink
  (try dsimp only)
  repeat' first
    | with_reducible exact Only.refl
    | with_reducible refine Only.portDown ?_ _ _ (by decide) (by decide)
    | with_reducible refine Only.startBring ?_ _ (by decide) (by decide)
    | split
    | dsimp only
theorem Only.dropLink {PP : List Part} {RR : List Reg} {xx d : Dev} (hh : Only PP RR xx d) (p cause : Nat)
    (hP : ∀ p ∈ ([.cands, .syns, .outs, .chans, .cpMail, .counters, .latches, .ring, .log, .pcie, .sw, .ports, .ptus, .sys, .sent, .freeCtr] : List Part), p ∈ PP) (hR : ∀ r ∈ ([.ALM_ACTIVE, .ALM_LATCH, .LANE_PARTNER_DOM, .LANE_PARTNER_ID_HI, .LANE_PARTNER_ID_LO, .LANE_PARTNER_INFO, .LANE_QUAD_STAT, .LANE_STAT, .OUT_STAT, .PRT_GATE_STAT, .PRT_PTU_STAT, .PRT_Q_PTX, .PRT_Q_STAT, .PRT_REV_STAT, .PWR_PORT_STAT, .PWR_STAT, .RECOV_W4, .RSEL_CAND_STAT, .SW_BUF_GATED, .SYN_CMD, .SYN_STAT] : List Reg), r ∈ RR) :
    Only PP RR xx (Dev.dropLink d p cause) := hh.andThen (only_dropLink d p cause) hP hR
theorem only_retryBring (d : Dev) (p : Nat) : Only [.counters, .latches, .ring, .log, .pcie, .sent] [.ALM_ACTIVE, .ALM_LATCH, .LANE_QUAD_STAT] d (Dev.retryBring d p) := by
  unfold Dev.retryBring
  (try dsimp only)
  repeat' first
    | with_reducible exact Only.refl
    | with_reducible refine Only.quadSet ?_ _ _ _ (by decide) (by decide)
    | with_reducible refine Only.countPort ?_ _ _ _ (by decide)
    | split
    | dsimp only
theorem Only.retryBring {PP : List Part} {RR : List Reg} {xx d : Dev} (hh : Only PP RR xx d) (p : Nat)
    (hP : ∀ p ∈ ([.counters, .latches, .ring, .log, .pcie, .sent] : List Part), p ∈ PP) (hR : ∀ r ∈ ([.ALM_ACTIVE, .ALM_LATCH, .LANE_QUAD_STAT] : List Reg), r ∈ RR) :
    Only PP RR xx (Dev.retryBring d p) := hh.andThen (only_retryBring d p) hP hR
theorem only_lanesOff (d : Dev) (p : Nat) : Only [] [.LANE_STAT] d (Dev.lanesOff d p) := by
  unfold Dev.lanesOff
  (try dsimp only)
  repeat' first
    | with_reducible exact Only.refl
    | with_reducible refine Only.laneBit ?_ _ _ _ (by decide) (by decide)
    | with_reducible refine Only.each ?_ _ _ (fun _ _ => ?_)
    | split
    | dsimp only
theorem Only.lanesOff {PP : List Part} {RR : List Reg} {xx d : Dev} (hh : Only PP RR xx d) (p : Nat)
    (hP : ∀ p ∈ ([] : List Part), p ∈ PP) (hR : ∀ r ∈ ([.LANE_STAT] : List Reg), r ∈ RR) :
    Only PP RR xx (Dev.lanesOff d p) := hh.andThen (only_lanesOff d p) hP hR
theorem only_newMode (d : Dev) (p mode : Nat) : Only [.cands, .syns, .outs, .chans, .cpMail, .counters, .latches, .ring, .log, .pcie, .sw, .ports, .ptus, .sys, .sent, .freeCtr] [.ALM_ACTIVE, .ALM_LATCH, .LANE_PARTNER_DOM, .LANE_PARTNER_ID_HI, .LANE_PARTNER_ID_LO, .LANE_PARTNER_INFO, .LANE_QUAD_CFG, .LANE_QUAD_STAT, .LANE_STAT, .LANE_TEST, .OUT_STAT, .PRT_GATE_STAT, .PRT_PTU_STAT, .PRT_Q_PTX, .PRT_Q_STAT, .PRT_REV_STAT, .PWR_PORT_STAT, .PWR_STAT, .RECOV_W4, .RSEL_CAND_STAT, .SW_BUF_GATED, .SYN_CMD, .SYN_STAT] d (Dev.newMode d p mode) := by
  unfold Dev.newMode
  (try dsimp only)
  repeat' first
    | with_reducible exact Only.refl
    | with_reducible refine Only.set ?_ _ _ _ (by decide)
    | with_reducible refine Only.setWord ?_ _ _ _ (by decide)
    | with_reducible refine Only.laneBit ?_ _ _ _ (by decide) (by decide)
    | with_reducible refine Only.disqualify ?_ _ _ (by decide) (by decide)
    | with_reducible refine Only.endSleep ?_ _ (by decide) (by decide)
    | with_reducible refine Only.judgeBanks ?_ (by decide) (by decide)
    | with_reducible refine Only.lanesOff ?_ _ (by decide) (by decide)
    | with_reducible refine Only.portDown ?_ _ _ (by decide) (by decide)
    | with_reducible refine Only.refreshPower ?_ _ (by decide) (by decide)
    | with_reducible refine Only.restartLpll ?_ _ (by decide) (by decide)
    | with_reducible refine Only.startBring ?_ _ (by decide) (by decide)
    | with_reducible refine Only.startInternal ?_ _ (by decide) (by decide)
    | with_reducible refine Only.when ?_ _ _ ?_
    | with_reducible refine Only.each ?_ _ _ (fun _ _ => ?_)
    | split
    | dsimp only
theorem Only.newMode {PP : List Part} {RR : List Reg} {xx d : Dev} (hh : Only PP RR xx d) (p mode : Nat)
    (hP : ∀ p ∈ ([.cands, .syns, .outs, .chans, .cpMail, .counters, .latches, .ring, .log, .pcie, .sw, .ports, .ptus, .sys, .sent, .freeCtr] : List Part), p ∈ PP) (hR : ∀ r ∈ ([.ALM_ACTIVE, .ALM_LATCH, .LANE_PARTNER_DOM, .LANE_PARTNER_ID_HI, .LANE_PARTNER_ID_LO, .LANE_PARTNER_INFO, .LANE_QUAD_CFG, .LANE_QUAD_STAT, .LANE_STAT, .LANE_TEST, .OUT_STAT, .PRT_GATE_STAT, .PRT_PTU_STAT, .PRT_Q_PTX, .PRT_Q_STAT, .PRT_REV_STAT, .PWR_PORT_STAT, .PWR_STAT, .RECOV_W4, .RSEL_CAND_STAT, .SW_BUF_GATED, .SYN_CMD, .SYN_STAT] : List Reg), r ∈ RR) :
    Only PP RR xx (Dev.newMode d p mode) := hh.andThen (only_newMode d p mode) hP hR
theorem only_lpllLost (d : Dev) (k : Nat) : Only [.cands, .syns, .outs, .chans, .cpMail, .counters, .latches, .ring, .log, .pcie, .sw, .ports, .ptus, .sys, .sent, .freeCtr] [.ALM_ACTIVE, .ALM_LATCH, .LANE_PARTNER_DOM, .LANE_PARTNER_ID_HI, .LANE_PARTNER_ID_LO, .LANE_PARTNER_INFO, .LANE_QUAD_STAT, .LANE_STAT, .OUT_STAT, .PRT_GATE_STAT, .PRT_PTU_STAT, .PRT_Q_PTX, .PRT_Q_STAT, .PRT_REV_STAT, .PWR_PORT_STAT, .PWR_STAT, .RECOV_W4, .RSEL_CAND_STAT, .SW_BUF_GATED, .SYN_CMD, .SYN_STAT] d (Dev.lpllLost d k) := by
  unfold Dev.lpllLost
  (try dsimp only)
  repeat' first
    | with_reducible exact Only.refl
    | with_reducible refine Only.endSleep ?_ _ (by decide) (by decide)
    | with_reducible refine Only.portDown ?_ _ _ (by decide) (by decide)
    | with_reducible refine Only.startBring ?_ _ (by decide) (by decide)
    | with_reducible refine Only.each ?_ _ _ (fun _ _ => ?_)
    | split
    | dsimp only
theorem Only.lpllLost {PP : List Part} {RR : List Reg} {xx d : Dev} (hh : Only PP RR xx d) (k : Nat)
    (hP : ∀ p ∈ ([.cands, .syns, .outs, .chans, .cpMail, .counters, .latches, .ring, .log, .pcie, .sw, .ports, .ptus, .sys, .sent, .freeCtr] : List Part), p ∈ PP) (hR : ∀ r ∈ ([.ALM_ACTIVE, .ALM_LATCH, .LANE_PARTNER_DOM, .LANE_PARTNER_ID_HI, .LANE_PARTNER_ID_LO, .LANE_PARTNER_INFO, .LANE_QUAD_STAT, .LANE_STAT, .OUT_STAT, .PRT_GATE_STAT, .PRT_PTU_STAT, .PRT_Q_PTX, .PRT_Q_STAT, .PRT_REV_STAT, .PWR_PORT_STAT, .PWR_STAT, .RECOV_W4, .RSEL_CAND_STAT, .SW_BUF_GATED, .SYN_CMD, .SYN_STAT] : List Reg), r ∈ RR) :
    Only PP RR xx (Dev.lpllLost d k) := hh.andThen (only_lpllLost d k) hP hR
theorem only_laneAlarm (d : Dev) : Only [.counters, .latches, .ring, .log, .pcie, .sent] [.ALM_ACTIVE, .ALM_LATCH] d (Dev.laneAlarm d) := by
  unfold Dev.laneAlarm
  (try dsimp only)
  repeat' first
    | with_reducible exact Only.refl
    | with_reducible refine Only.cond ?_ _ _ (by decide)
    | split
    | dsimp only
theorem Only.laneAlarm {PP : List Part} {RR : List Reg} {xx d : Dev} (hh : Only PP RR xx d) 
    (hP : ∀ p ∈ ([.counters, .latches, .ring, .log, .pcie, .sent] : List Part), p ∈ PP) (hR : ∀ r ∈ ([.ALM_ACTIVE, .ALM_LATCH] : List Reg), r ∈ RR) :
    Only PP RR xx (Dev.laneAlarm d) := hh.andThen (only_laneAlarm d) hP hR
theorem only_retireLane (d : Dev) (l : Nat) : Only [.cands, .syns, .outs, .chans, .cpMail, .counters, .latches, .ring, .log, .pcie, .sw, .ports, .ptus, .sys, .sent, .freeCtr] [.ALM_ACTIVE, .ALM_LATCH, .LANE_PARTNER_DOM, .LANE_PARTNER_ID_HI, .LANE_PARTNER_ID_LO, .LANE_PARTNER_INFO, .LANE_QUAD_STAT, .LANE_STAT, .OUT_STAT, .PRT_GATE_STAT, .PRT_PTU_STAT, .PRT_Q_PTX, .PRT_Q_STAT, .PRT_REV_STAT, .PWR_PORT_STAT, .PWR_STAT, .RECOV_W4, .RSEL_CAND_STAT, .SW_BUF_GATED, .SYN_CMD, .SYN_STAT] d (Dev.retireLane d l) := by
  unfold Dev.retireLane
  (try dsimp only)
  repeat' first
    | with_reducible exact Only.refl
    | with_reducible refine Only.laneBit ?_ _ _ _ (by decide) (by decide)
    | with_reducible refine Only.logAdd ?_ _ _ _ _ (by decide)
    | with_reducible refine Only.endSleep ?_ _ (by decide) (by decide)
    | with_reducible refine Only.laneAlarm ?_ (by decide) (by decide)
    | with_reducible refine Only.portDown ?_ _ _ (by decide) (by decide)
    | with_reducible refine Only.startBring ?_ _ (by decide) (by decide)
    | split
    | dsimp only
theorem Only.retireLane {PP : List Part} {RR : List Reg} {xx d : Dev} (hh : Only PP RR xx d) (l : Nat)
    (hP : ∀ p ∈ ([.cands, .syns, .outs, .chans, .cpMail, .counters, .latches, .ring, .log, .pcie, .sw, .ports, .ptus, .sys, .sent, .freeCtr] : List Part), p ∈ PP) (hR : ∀ r ∈ ([.ALM_ACTIVE, .ALM_LATCH, .LANE_PARTNER_DOM, .LANE_PARTNER_ID_HI, .LANE_PARTNER_ID_LO, .LANE_PARTNER_INFO, .LANE_QUAD_STAT, .LANE_STAT, .OUT_STAT, .PRT_GATE_STAT, .PRT_PTU_STAT, .PRT_Q_PTX, .PRT_Q_STAT, .PRT_REV_STAT, .PWR_PORT_STAT, .PWR_STAT, .RECOV_W4, .RSEL_CAND_STAT, .SW_BUF_GATED, .SYN_CMD, .SYN_STAT] : List Reg), r ∈ RR) :
    Only PP RR xx (Dev.retireLane d l) := hh.andThen (only_retireLane d l) hP hR
theorem only_flushPort (d : Dev) (p : Nat) : Only [.counters, .latches, .ring, .log, .pcie, .sw, .sent] [.ALM_ACTIVE, .ALM_LATCH] d (Dev.flushPort d p) := by
  unfold Dev.flushPort
  (try dsimp only)
  repeat' first
    | with_reducible exact Only.refl
    | with_reducible refine Only.flushLink ?_ _ _ _ (by decide) (by decide)
    | with_reducible refine Only.setQueue ?_ _ _ _ (by decide) (by decide)
    | with_reducible refine Only.each ?_ _ _ (fun _ _ => ?_)
    | split
    | dsimp only
theorem Only.flushPort {PP : List Part} {RR : List Reg} {xx d : Dev} (hh : Only PP RR xx d) (p : Nat)
    (hP : ∀ p ∈ ([.counters, .latches, .ring, .log, .pcie, .sw, .sent] : List Part), p ∈ PP) (hR : ∀ r ∈ ([.ALM_ACTIVE, .ALM_LATCH] : List Reg), r ∈ RR) :
    Only PP RR xx (Dev.flushPort d p) := hh.andThen (only_flushPort d p) hP hR
theorem only_portsOff (d : Dev) : Only [.cands, .syns, .outs, .chans, .cpMail, .counters, .latches, .ring, .log, .pcie, .sw, .ports, .ptus, .sys, .sent, .freeCtr] [.ALM_ACTIVE, .ALM_LATCH, .LANE_PARTNER_DOM, .LANE_PARTNER_ID_HI, .LANE_PARTNER_ID_LO, .LANE_PARTNER_INFO, .LANE_QUAD_CFG, .LANE_QUAD_STAT, .LANE_STAT, .LANE_TEST, .OUT_STAT, .PRT_GATE_STAT, .PRT_PTU_STAT, .PRT_Q_PTX, .PRT_Q_STAT, .PRT_REV_STAT, .PWR_PORT_STAT, .PWR_STAT, .RECOV_W4, .RSEL_CAND_STAT, .SW_BUF_GATED, .SYN_CMD, .SYN_STAT] d (Dev.portsOff d) := by
  unfold Dev.portsOff
  (try dsimp only)
  repeat' first
    | with_reducible exact Only.refl
    | with_reducible refine Only.flushPort ?_ _ (by decide) (by decide)
    | with_reducible refine Only.newMode ?_ _ _ (by decide) (by decide)
    | with_reducible refine Only.each ?_ _ _ (fun _ _ => ?_)
    | split
    | dsimp only
theorem Only.portsOff {PP : List Part} {RR : List Reg} {xx d : Dev} (hh : Only PP RR xx d) 
    (hP : ∀ p ∈ ([.cands, .syns, .outs, .chans, .cpMail, .counters, .latches, .ring, .log, .pcie, .sw, .ports, .ptus, .sys, .sent, .freeCtr] : List Part), p ∈ PP) (hR : ∀ r ∈ ([.ALM_ACTIVE, .ALM_LATCH, .LANE_PARTNER_DOM, .LANE_PARTNER_ID_HI, .LANE_PARTNER_ID_LO, .LANE_PARTNER_INFO, .LANE_QUAD_CFG, .LANE_QUAD_STAT, .LANE_STAT, .LANE_TEST, .OUT_STAT, .PRT_GATE_STAT, .PRT_PTU_STAT, .PRT_Q_PTX, .PRT_Q_STAT, .PRT_REV_STAT, .PWR_PORT_STAT, .PWR_STAT, .RECOV_W4, .RSEL_CAND_STAT, .SW_BUF_GATED, .SYN_CMD, .SYN_STAT] : List Reg), r ∈ RR) :
    Only PP RR xx (Dev.portsOff d) := hh.andThen (only_portsOff d) hP hR

/-! ## TioOps -/

theorem only_refreshReady (d : Dev) (c : Nat) : Only [.tio] [.TIO_STAT] d (Dev.refreshReady d c) := by
  unfold Dev.refreshReady
  (try dsimp only)
  repeat' first
    | with_reducible exact Only.refl
    | with_reducible refine Only.tioBit ?_ _ _ _ (by decide) (by decide)
    | with_reducible refine Only.onTio ?_ _ _ (by decide)
    | with_reducible refine Only.when ?_ _ _ ?_
    | split
    | dsimp only
theorem Only.refreshReady {PP : List Part} {RR : List Reg} {xx d : Dev} (hh : Only PP RR xx d) (c : Nat)
    (hP : ∀ p ∈ ([.tio] : List Part), p ∈ PP) (hR : ∀ r ∈ ([.TIO_STAT] : List Reg), r ∈ RR) :
    Only PP RR xx (Dev.refreshReady d c) := hh.andThen (only_refreshReady d c) hP hR
theorem only_refreshReadies (d : Dev) : Only [.tio] [.TIO_STAT] d (Dev.refreshReadies d) := by
  unfold Dev.refreshReadies
  (try dsimp only)
  repeat' first
    | with_reducible exact Only.refl
    | with_reducible refine Only.refreshReady ?_ _ (by decide) (by decide)
    | with_reducible refine Only.each ?_ _ _ (fun _ _ => ?_)
    | split
    | dsimp only
theorem Only.refreshReadies {PP : List Part} {RR : List Reg} {xx d : Dev} (hh : Only PP RR xx d) 
    (hP : ∀ p ∈ ([.tio] : List Part), p ∈ PP) (hR : ∀ r ∈ ([.TIO_STAT] : List Reg), r ∈ RR) :
    Only PP RR xx (Dev.refreshReadies d) := hh.andThen (only_refreshReadies d) hP hR
theorem only_tioRecord (d : Dev) (c type status flags : Nat) (time : BitVec 128) (result : Int) (count : Nat) : Only [.counters, .latches, .ring, .log, .pcie, .tio, .sent] [.ALM_ACTIVE, .ALM_LATCH, .TIO_STAT] d (Dev.tioRecord d c type status flags time result count) := by
  unfold Dev.tioRecord
  (try dsimp only)
  repeat' first
    | with_reducible exact Only.refl
    | with_reducible refine Only.set ?_ _ _ _ (by decide)
    | with_reducible refine Only.onTio ?_ _ _ (by decide)
    | with_reducible refine Only.countDev ?_ _ _ (by decide)
    | split
    | dsimp only
theorem Only.tioRecord {PP : List Part} {RR : List Reg} {xx d : Dev} (hh : Only PP RR xx d) (c type status flags : Nat) (time : BitVec 128) (result : Int) (count : Nat)
    (hP : ∀ p ∈ ([.counters, .latches, .ring, .log, .pcie, .tio, .sent] : List Part), p ∈ PP) (hR : ∀ r ∈ ([.ALM_ACTIVE, .ALM_LATCH, .TIO_STAT] : List Reg), r ∈ RR) :
    Only PP RR xx (Dev.tioRecord d c type status flags time result count) := hh.andThen (only_tioRecord d c type status flags time result count) hP hR
theorem only_tioArmed (d : Dev) (c : Nat) (on : Bool) : Only [.tio] [.TIO_STAT] d (Dev.tioArmed d c on) := by
  unfold Dev.tioArmed
  (try dsimp only)
  repeat' first
    | with_reducible exact Only.refl
    | with_reducible refine Only.tioBit ?_ _ _ _ (by decide) (by decide)
    | with_reducible refine Only.onTio ?_ _ _ (by decide)
    | split
    | dsimp only
theorem Only.tioArmed {PP : List Part} {RR : List Reg} {xx d : Dev} (hh : Only PP RR xx d) (c : Nat) (on : Bool)
    (hP : ∀ p ∈ ([.tio] : List Part), p ∈ PP) (hR : ∀ r ∈ ([.TIO_STAT] : List Reg), r ∈ RR) :
    Only PP RR xx (Dev.tioArmed d c on) := hh.andThen (only_tioArmed d c on) hP hR
theorem only_measEnds (d : Dev) (c status : Nat) : Only [.tio] [.TIO_STAT] d (Dev.measEnds d c status) := by
  unfold Dev.measEnds
  (try dsimp only)
  repeat' first
    | with_reducible exact Only.refl
    | with_reducible refine Only.tioArmed ?_ _ _ (by decide) (by decide)
    | split
    | dsimp only
theorem Only.measEnds {PP : List Part} {RR : List Reg} {xx d : Dev} (hh : Only PP RR xx d) (c status : Nat)
    (hP : ∀ p ∈ ([.tio] : List Part), p ∈ PP) (hR : ∀ r ∈ ([.TIO_STAT] : List Reg), r ∈ RR) :
    Only PP RR xx (Dev.measEnds d c status) := hh.andThen (only_measEnds d c status) hP hR
theorem only_endMeas (d : Dev) (c status : Nat) : Only [.counters, .latches, .ring, .log, .pcie, .tio, .sent, .freeCtr] [.ALM_ACTIVE, .ALM_LATCH, .TIO_STAT] d (Dev.endMeas d c status) := by
  unfold Dev.endMeas
  (try dsimp only)
  repeat' first
    | with_reducible exact Only.refl
    | with_reducible refine Only.spendFree ?_ (by decide)
    | with_reducible refine Only.measEnds ?_ _ _ (by decide) (by decide)
    | with_reducible refine Only.tioRecord ?_ _ _ _ _ _ _ _ (by decide) (by decide)
    | split
    | dsimp only
theorem Only.endMeas {PP : List Part} {RR : List Reg} {xx d : Dev} (hh : Only PP RR xx d) (c status : Nat)
    (hP : ∀ p ∈ ([.counters, .latches, .ring, .log, .pcie, .tio, .sent, .freeCtr] : List Part), p ∈ PP) (hR : ∀ r ∈ ([.ALM_ACTIVE, .ALM_LATCH, .TIO_STAT] : List Reg), r ∈ RR) :
    Only PP RR xx (Dev.endMeas d c status) := hh.andThen (only_endMeas d c status) hP hR
theorem only_closeInterval (d : Dev) (c : Nat) : Only [.counters, .latches, .ring, .log, .pcie, .tio, .sent] [.ALM_ACTIVE, .ALM_LATCH, .TIO_STAT] d (Dev.closeInterval d c) := by
  unfold Dev.closeInterval
  (try dsimp only)
  repeat' first
    | with_reducible exact Only.refl
    | with_reducible refine Only.measEnds ?_ _ _ (by decide) (by decide)
    | with_reducible refine Only.tioRecord ?_ _ _ _ _ _ _ _ (by decide) (by decide)
    | split
    | dsimp only
theorem Only.closeInterval {PP : List Part} {RR : List Reg} {xx d : Dev} (hh : Only PP RR xx d) (c : Nat)
    (hP : ∀ p ∈ ([.counters, .latches, .ring, .log, .pcie, .tio, .sent] : List Part), p ∈ PP) (hR : ∀ r ∈ ([.ALM_ACTIVE, .ALM_LATCH, .TIO_STAT] : List Reg), r ∈ RR) :
    Only PP RR xx (Dev.closeInterval d c) := hh.andThen (only_closeInterval d c) hP hR
theorem only_measEdge (d : Dev) (c : Nat) (e : TioEdge) (frozen : Bool) : Only [.counters, .latches, .ring, .log, .pcie, .tio, .sent] [.ALM_ACTIVE, .ALM_LATCH, .TIO_STAT] d (Dev.measEdge d c e frozen) := by
  unfold Dev.measEdge
  (try dsimp only)
  repeat' first
    | with_reducible exact Only.refl
    | with_reducible refine Only.onTio ?_ _ _ (by decide)
    | with_reducible refine Only.closeInterval ?_ _ (by decide) (by decide)
    | with_reducible refine Only.measEnds ?_ _ _ (by decide) (by decide)
    | with_reducible refine Only.tioRecord ?_ _ _ _ _ _ _ _ (by decide) (by decide)
    | with_reducible refine Only.when ?_ _ _ ?_
    | split
    | dsimp only
theorem Only.measEdge {PP : List Part} {RR : List Reg} {xx d : Dev} (hh : Only PP RR xx d) (c : Nat) (e : TioEdge) (frozen : Bool)
    (hP : ∀ p ∈ ([.counters, .latches, .ring, .log, .pcie, .tio, .sent] : List Part), p ∈ PP) (hR : ∀ r ∈ ([.ALM_ACTIVE, .ALM_LATCH, .TIO_STAT] : List Reg), r ∈ RR) :
    Only PP RR xx (Dev.measEdge d c e frozen) := hh.andThen (only_measEdge d c e frozen) hP hR
theorem only_stopEdge (d : Dev) (c : Nat) (e : TioEdge) (frozen : Bool) : Only [.counters, .latches, .ring, .log, .pcie, .tio, .sent] [.ALM_ACTIVE, .ALM_LATCH, .TIO_STAT] d (Dev.stopEdge d c e frozen) := by
  unfold Dev.stopEdge
  (try dsimp only)
  repeat' first
    | with_reducible exact Only.refl
    | with_reducible refine Only.onTio ?_ _ _ (by decide)
    | with_reducible refine Only.closeInterval ?_ _ (by decide) (by decide)
    | with_reducible refine Only.each ?_ _ _ (fun _ _ => ?_)
    | split
    | dsimp only
theorem Only.stopEdge {PP : List Part} {RR : List Reg} {xx d : Dev} (hh : Only PP RR xx d) (c : Nat) (e : TioEdge) (frozen : Bool)
    (hP : ∀ p ∈ ([.counters, .latches, .ring, .log, .pcie, .tio, .sent] : List Part), p ∈ PP) (hR : ∀ r ∈ ([.ALM_ACTIVE, .ALM_LATCH, .TIO_STAT] : List Reg), r ∈ RR) :
    Only PP RR xx (Dev.stopEdge d c e frozen) := hh.andThen (only_stopEdge d c e frozen) hP hR
theorem Only.pinAfter (h : Only P R d e) (c : Nat) (f : Dev → Dev) (hs : .sent ∈ P) (hf : Only P R e (f e)) :
    Only P R d (e.pinAfter c f) := by
  unfold Dev.pinAfter
  exact (h.trans hf).when _ _ (Only.emit .refl _ hs)
theorem only_beginSched (d : Dev) (c : Nat) (s : TioSched) : Only [.tio, .sent] [.TIO_STAT] d (Dev.beginSched d c s) := by
  unfold Dev.beginSched
  (try dsimp only)
  repeat' first
    | with_reducible exact Only.refl
    | with_reducible refine Only.tioBit ?_ _ _ _ (by decide) (by decide)
    | with_reducible refine Only.onTio ?_ _ _ (by decide)
    | with_reducible refine Only.pinAfter ?_ _ _ (by decide) ?_
    | split
    | dsimp only
theorem Only.beginSched {PP : List Part} {RR : List Reg} {xx d : Dev} (hh : Only PP RR xx d) (c : Nat) (s : TioSched)
    (hP : ∀ p ∈ ([.tio, .sent] : List Part), p ∈ PP) (hR : ∀ r ∈ ([.TIO_STAT] : List Reg), r ∈ RR) :
    Only PP RR xx (Dev.beginSched d c s) := hh.andThen (only_beginSched d c s) hP hR
theorem only_endSched (d : Dev) (c : Nat) : Only [.tio, .sent] [.TIO_STAT] d (Dev.endSched d c) := by
  unfold Dev.endSched
  (try dsimp only)
  repeat' first
    | with_reducible exact Only.refl
    | with_reducible refine Only.tioBit ?_ _ _ _ (by decide) (by decide)
    | with_reducible refine Only.onTio ?_ _ _ (by decide)
    | with_reducible refine Only.pinAfter ?_ _ _ (by decide) ?_
    | split
    | dsimp only
theorem Only.endSched {PP : List Part} {RR : List Reg} {xx d : Dev} (hh : Only PP RR xx d) (c : Nat)
    (hP : ∀ p ∈ ([.tio, .sent] : List Part), p ∈ PP) (hR : ∀ r ∈ ([.TIO_STAT] : List Reg), r ∈ RR) :
    Only PP RR xx (Dev.endSched d c) := hh.andThen (only_endSched d c) hP hR
theorem only_endTrig (d : Dev) (c : Nat) : Only [.tio] [.TIO_STAT] d (Dev.endTrig d c) := by
  unfold Dev.endTrig
  (try dsimp only)
  repeat' first
    | with_reducible exact Only.refl
    | with_reducible refine Only.tioBit ?_ _ _ _ (by decide) (by decide)
    | with_reducible refine Only.onTio ?_ _ _ (by decide)
    | split
    | dsimp only
theorem Only.endTrig {PP : List Part} {RR : List Reg} {xx d : Dev} (hh : Only PP RR xx d) (c : Nat)
    (hP : ∀ p ∈ ([.tio] : List Part), p ∈ PP) (hR : ∀ r ∈ ([.TIO_STAT] : List Reg), r ∈ RR) :
    Only PP RR xx (Dev.endTrig d c) := hh.andThen (only_endTrig d c) hP hR
theorem only_stopOutput (d : Dev) (c : Nat) : Only [.tio, .sent] [.TIO_STAT] d (Dev.stopOutput d c) := by
  unfold Dev.stopOutput
  (try dsimp only)
  repeat' first
    | with_reducible exact Only.refl
    | with_reducible refine Only.endSched ?_ _ (by decide) (by decide)
    | with_reducible refine Only.endTrig ?_ _ (by decide) (by decide)
    | split
    | dsimp only
theorem Only.stopOutput {PP : List Part} {RR : List Reg} {xx d : Dev} (hh : Only PP RR xx d) (c : Nat)
    (hP : ∀ p ∈ ([.tio, .sent] : List Part), p ∈ PP) (hR : ∀ r ∈ ([.TIO_STAT] : List Reg), r ∈ RR) :
    Only PP RR xx (Dev.stopOutput d c) := hh.andThen (only_stopOutput d c) hP hR
theorem only_fireTriggers (d : Dev) (c : Nat) (t : Ticks) : Only [.counters, .latches, .ring, .log, .pcie, .tio, .sent] [.ALM_ACTIVE, .ALM_LATCH, .TIO_STAT] d (Dev.fireTriggers d c t) := by
  unfold Dev.fireTriggers
  (try dsimp only)
  repeat' first
    | with_reducible exact Only.refl
    | with_reducible refine Only.devEvent ?_ _ _ _ _ (by decide)
    | with_reducible refine Only.beginSched ?_ _ _ (by decide) (by decide)
    | with_reducible refine Only.endTrig ?_ _ (by decide) (by decide)
    | with_reducible refine Only.when ?_ _ _ ?_
    | with_reducible refine Only.each ?_ _ _ (fun _ _ => ?_)
    | split
    | dsimp only
theorem Only.fireTriggers {PP : List Part} {RR : List Reg} {xx d : Dev} (hh : Only PP RR xx d) (c : Nat) (t : Ticks)
    (hP : ∀ p ∈ ([.counters, .latches, .ring, .log, .pcie, .tio, .sent] : List Part), p ∈ PP) (hR : ∀ r ∈ ([.ALM_ACTIVE, .ALM_LATCH, .TIO_STAT] : List Reg), r ∈ RR) :
    Only PP RR xx (Dev.fireTriggers d c t) := hh.andThen (only_fireTriggers d c t) hP hR
theorem only_tioStepped (d : Dev) (x : Int) : Only [.counters, .latches, .ring, .log, .pcie, .tio, .sent, .freeCtr] [.ALM_ACTIVE, .ALM_LATCH, .TIO_STAT] d (Dev.tioStepped d x) := by
  unfold Dev.tioStepped
  (try dsimp only)
  repeat' first
    | with_reducible exact Only.refl
    | with_reducible refine Only.onTio ?_ _ _ (by decide)
    | with_reducible refine Only.endMeas ?_ _ _ (by decide) (by decide)
    | with_reducible refine Only.each ?_ _ _ (fun _ _ => ?_)
    | split
    | dsimp only
theorem Only.tioStepped {PP : List Part} {RR : List Reg} {xx d : Dev} (hh : Only PP RR xx d) (x : Int)
    (hP : ∀ p ∈ ([.counters, .latches, .ring, .log, .pcie, .tio, .sent, .freeCtr] : List Part), p ∈ PP) (hR : ∀ r ∈ ([.ALM_ACTIVE, .ALM_LATCH, .TIO_STAT] : List Reg), r ∈ RR) :
    Only PP RR xx (Dev.tioStepped d x) := hh.andThen (only_tioStepped d x) hP hR
theorem only_tioClockLost (d : Dev) : Only [.counters, .latches, .ring, .log, .pcie, .tio, .sent, .freeCtr] [.ALM_ACTIVE, .ALM_LATCH, .TIO_STAT] d (Dev.tioClockLost d) := by
  unfold Dev.tioClockLost
  (try dsimp only)
  repeat' first
    | with_reducible exact Only.refl
    | with_reducible refine Only.tioBit ?_ _ _ _ (by decide) (by decide)
    | with_reducible refine Only.onTio ?_ _ _ (by decide)
    | with_reducible refine Only.endMeas ?_ _ _ (by decide) (by decide)
    | with_reducible refine Only.pinAfter ?_ _ _ (by decide) ?_
    | with_reducible refine Only.stopOutput ?_ _ (by decide) (by decide)
    | with_reducible refine Only.each ?_ _ _ (fun _ _ => ?_)
    | split
    | dsimp only
theorem Only.tioClockLost {PP : List Part} {RR : List Reg} {xx d : Dev} (hh : Only PP RR xx d) 
    (hP : ∀ p ∈ ([.counters, .latches, .ring, .log, .pcie, .tio, .sent, .freeCtr] : List Part), p ∈ PP) (hR : ∀ r ∈ ([.ALM_ACTIVE, .ALM_LATCH, .TIO_STAT] : List Reg), r ∈ RR) :
    Only PP RR xx (Dev.tioClockLost d) := hh.andThen (only_tioClockLost d) hP hR
theorem only_tioAlarm (d : Dev) : Only [.counters, .latches, .ring, .log, .pcie, .sent] [.ALM_ACTIVE, .ALM_LATCH] d (Dev.tioAlarm d) := by
  unfold Dev.tioAlarm
  (try dsimp only)
  repeat' first
    | with_reducible exact Only.refl
    | with_reducible refine Only.cond ?_ _ _ (by decide)
    | split
    | dsimp only
theorem Only.tioAlarm {PP : List Part} {RR : List Reg} {xx d : Dev} (hh : Only PP RR xx d) 
    (hP : ∀ p ∈ ([.counters, .latches, .ring, .log, .pcie, .sent] : List Part), p ∈ PP) (hR : ∀ r ∈ ([.ALM_ACTIVE, .ALM_LATCH] : List Reg), r ∈ RR) :
    Only PP RR xx (Dev.tioAlarm d) := hh.andThen (only_tioAlarm d) hP hR
theorem only_judgeStops (d : Dev) : Only [.counters, .latches, .ring, .log, .pcie, .tio, .sent, .freeCtr] [.ALM_ACTIVE, .ALM_LATCH, .TIO_STAT] d (Dev.judgeStops d) := by
  unfold Dev.judgeStops
  (try dsimp only)
  repeat' first
    | with_reducible exact Only.refl
    | with_reducible refine Only.endMeas ?_ _ _ (by decide) (by decide)
    | with_reducible refine Only.each ?_ _ _ (fun _ _ => ?_)
    | split
    | dsimp only
theorem Only.judgeStops {PP : List Part} {RR : List Reg} {xx d : Dev} (hh : Only PP RR xx d) 
    (hP : ∀ p ∈ ([.counters, .latches, .ring, .log, .pcie, .tio, .sent, .freeCtr] : List Part), p ∈ PP) (hR : ∀ r ∈ ([.ALM_ACTIVE, .ALM_LATCH, .TIO_STAT] : List Reg), r ∈ RR) :
    Only PP RR xx (Dev.judgeStops d) := hh.andThen (only_judgeStops d) hP hR

/-! ## Tio -/

theorem only_calStart (d : Dev) (c : Nat) : Only [] [.TIO_STAT] d (Dev.calStart d c) := by
  unfold Dev.calStart
  (try dsimp only)
  repeat' first
    | with_reducible exact Only.refl
    | with_reducible refine Only.tioBit ?_ _ _ _ (by decide) (by decide)
    | split
    | dsimp only
theorem Only.calStart {PP : List Part} {RR : List Reg} {xx d : Dev} (hh : Only PP RR xx d) (c : Nat)
    (hP : ∀ p ∈ ([] : List Part), p ∈ PP) (hR : ∀ r ∈ ([.TIO_STAT] : List Reg), r ∈ RR) :
    Only PP RR xx (Dev.calStart d c) := hh.andThen (only_calStart d c) hP hR
theorem only_tioClock (d : Dev) : Only [.syns, .outs, .counters, .latches, .ring, .log, .pcie, .sent] [.ALM_ACTIVE, .ALM_LATCH, .OUT_STAT, .SYN_CMD, .SYN_STAT] d (Dev.tioClock d) := by
  unfold Dev.tioClock
  (try dsimp only)
  repeat' first
    | with_reducible exact Only.refl
    | with_reducible refine Only.startInternal ?_ _ (by decide) (by decide)
    | with_reducible refine Only.stopSyn ?_ _ (by decide) (by decide)
    | split
    | dsimp only
theorem Only.tioClock {PP : List Part} {RR : List Reg} {xx d : Dev} (hh : Only PP RR xx d) 
    (hP : ∀ p ∈ ([.syns, .outs, .counters, .latches, .ring, .log, .pcie, .sent] : List Part), p ∈ PP) (hR : ∀ r ∈ ([.ALM_ACTIVE, .ALM_LATCH, .OUT_STAT, .SYN_CMD, .SYN_STAT] : List Reg), r ∈ RR) :
    Only PP RR xx (Dev.tioClock d) := hh.andThen (only_tioClock d) hP hR
theorem only_writeTioCfg (d : Dev) (c : Nat) (v : Word) : Only [.syns, .outs, .counters, .latches, .ring, .log, .pcie, .tio, .sent, .freeCtr] [.ALM_ACTIVE, .ALM_LATCH, .OUT_STAT, .SYN_CMD, .SYN_STAT, .TIO_CFG, .TIO_STAT] d (Dev.writeTioCfg d c v) := by
  unfold Dev.writeTioCfg
  (try dsimp only)
  repeat' first
    | with_reducible exact Only.refl
    | with_reducible refine Only.set ?_ _ _ _ (by decide)
    | with_reducible refine Only.store ?_ _ _ _ (by decide)
    | with_reducible refine Only.tioBit ?_ _ _ _ (by decide) (by decide)
    | with_reducible refine Only.onTio ?_ _ _ (by decide)
    | with_reducible refine Only.calStart ?_ _ (by decide) (by decide)
    | with_reducible refine Only.endMeas ?_ _ _ (by decide) (by decide)
    | with_reducible refine Only.judgeStops ?_ (by decide) (by decide)
    | with_reducible refine Only.pinAfter ?_ _ _ (by decide) ?_
    | with_reducible refine Only.refreshReady ?_ _ (by decide) (by decide)
    | with_reducible refine Only.stopOutput ?_ _ (by decide) (by decide)
    | with_reducible refine Only.tioClock ?_ (by decide) (by decide)
    | with_reducible refine Only.when ?_ _ _ ?_
    | split
    | dsimp only
theorem Only.writeTioCfg {PP : List Part} {RR : List Reg} {xx d : Dev} (hh : Only PP RR xx d) (c : Nat) (v : Word)
    (hP : ∀ p ∈ ([.syns, .outs, .counters, .latches, .ring, .log, .pcie, .tio, .sent, .freeCtr] : List Part), p ∈ PP) (hR : ∀ r ∈ ([.ALM_ACTIVE, .ALM_LATCH, .OUT_STAT, .SYN_CMD, .SYN_STAT, .TIO_CFG, .TIO_STAT] : List Reg), r ∈ RR) :
    Only PP RR xx (Dev.writeTioCfg d c v) := hh.andThen (only_writeTioCfg d c v) hP hR
theorem only_writeTioOutCfg (d : Dev) (c : Nat) (v : Word) : Only [.sent] [.TIO_OUT_CFG] d (Dev.writeTioOutCfg d c v) := by
  unfold Dev.writeTioOutCfg
  (try dsimp only)
  repeat' first
    | with_reducible exact Only.refl
    | with_reducible refine Only.store ?_ _ _ _ (by decide)
    | with_reducible refine Only.pinAfter ?_ _ _ (by decide) ?_
    | split
    | dsimp only
theorem Only.writeTioOutCfg {PP : List Part} {RR : List Reg} {xx d : Dev} (hh : Only PP RR xx d) (c : Nat) (v : Word)
    (hP : ∀ p ∈ ([.sent] : List Part), p ∈ PP) (hR : ∀ r ∈ ([.TIO_OUT_CFG] : List Reg), r ∈ RR) :
    Only PP RR xx (Dev.writeTioOutCfg d c v) := hh.andThen (only_writeTioOutCfg d c v) hP hR
theorem only_recal (d : Dev) (c : Nat) : Only [] [.TIO_CMD, .TIO_STAT] d (Dev.recal d c) := by
  unfold Dev.recal
  (try dsimp only)
  repeat' first
    | with_reducible exact Only.refl
    | with_reducible refine Only.set ?_ _ _ _ (by decide)
    | with_reducible refine Only.calStart ?_ _ (by decide) (by decide)
    | split
    | dsimp only
theorem Only.recal {PP : List Part} {RR : List Reg} {xx d : Dev} (hh : Only PP RR xx d) (c : Nat)
    (hP : ∀ p ∈ ([] : List Part), p ∈ PP) (hR : ∀ r ∈ ([.TIO_CMD, .TIO_STAT] : List Reg), r ∈ RR) :
    Only PP RR xx (Dev.recal d c) := hh.andThen (only_recal d c) hP hR
theorem only_retireTdc (d : Dev) (c : Nat) : Only [.counters, .latches, .ring, .log, .pcie, .tio, .sent, .freeCtr] [.ALM_ACTIVE, .ALM_LATCH, .TIO_STAT] d (Dev.retireTdc d c) := by
  unfold Dev.retireTdc
  (try dsimp only)
  repeat' first
    | with_reducible exact Only.refl
    | with_reducible refine Only.tioBit ?_ _ _ _ (by decide) (by decide)
    | with_reducible refine Only.logAdd ?_ _ _ _ _ (by decide)
    | with_reducible refine Only.endMeas ?_ _ _ (by decide) (by decide)
    | with_reducible refine Only.refreshReady ?_ _ (by decide) (by decide)
    | with_reducible refine Only.tioAlarm ?_ (by decide) (by decide)
    | split
    | dsimp only
theorem Only.retireTdc {PP : List Part} {RR : List Reg} {xx d : Dev} (hh : Only PP RR xx d) (c : Nat)
    (hP : ∀ p ∈ ([.counters, .latches, .ring, .log, .pcie, .tio, .sent, .freeCtr] : List Part), p ∈ PP) (hR : ∀ r ∈ ([.ALM_ACTIVE, .ALM_LATCH, .TIO_STAT] : List Reg), r ∈ RR) :
    Only PP RR xx (Dev.retireTdc d c) := hh.andThen (only_retireTdc d c) hP hR
theorem only_calDone (d : Dev) (c : Nat) (r : CalResult) : Only [.counters, .latches, .ring, .log, .pcie, .tio, .sent, .freeCtr] [.ALM_ACTIVE, .ALM_LATCH, .TIO_CAL_STAT, .TIO_STAT] d (Dev.calDone d c r) := by
  unfold Dev.calDone
  (try dsimp only)
  repeat' first
    | with_reducible exact Only.refl
    | with_reducible refine Only.set ?_ _ _ _ (by decide)
    | with_reducible refine Only.tioBit ?_ _ _ _ (by decide) (by decide)
    | with_reducible refine Only.onTio ?_ _ _ (by decide)
    | with_reducible refine Only.devEvent ?_ _ _ _ _ (by decide)
    | with_reducible refine Only.retireOther ?_ _ _ _ (by decide)
    | with_reducible refine Only.refreshReady ?_ _ (by decide) (by decide)
    | with_reducible refine Only.retireTdc ?_ _ (by decide) (by decide)
    | with_reducible refine Only.each ?_ _ _ (fun _ _ => ?_)
    | split
    | dsimp only
theorem Only.calDone {PP : List Part} {RR : List Reg} {xx d : Dev} (hh : Only PP RR xx d) (c : Nat) (r : CalResult)
    (hP : ∀ p ∈ ([.counters, .latches, .ring, .log, .pcie, .tio, .sent, .freeCtr] : List Part), p ∈ PP) (hR : ∀ r ∈ ([.ALM_ACTIVE, .ALM_LATCH, .TIO_CAL_STAT, .TIO_STAT] : List Reg), r ∈ RR) :
    Only PP RR xx (Dev.calDone d c r) := hh.andThen (only_calDone d c r) hP hR
theorem only_refinCalStart (d : Dev) (n : Nat) : Only [.cands] [] d (Dev.refinCalStart d n) := by
  unfold Dev.refinCalStart
  (try dsimp only)
  repeat' first
    | with_reducible exact Only.refl
    | with_reducible refine Only.onCand ?_ _ _ (by decide)
    | with_reducible refine Only.when ?_ _ _ ?_
    | split
    | dsimp only
theorem Only.refinCalStart {PP : List Part} {RR : List Reg} {xx d : Dev} (hh : Only PP RR xx d) (n : Nat)
    (hP : ∀ p ∈ ([.cands] : List Part), p ∈ PP) (hR : ∀ r ∈ ([] : List Reg), r ∈ RR) :
    Only PP RR xx (Dev.refinCalStart d n) := hh.andThen (only_refinCalStart d n) hP hR
theorem only_refinCalDone (d : Dev) (n : Nat) (r : CalResult) : Only [.cands, .counters, .latches, .ring, .log, .pcie, .sent] [.ALM_ACTIVE, .ALM_LATCH, .RSEL_CAND_STAT] d (Dev.refinCalDone d n r) := by
  unfold Dev.refinCalDone
  (try dsimp only)
  repeat' first
    | with_reducible exact Only.refl
    | with_reducible refine Only.onCand ?_ _ _ (by decide)
    | with_reducible refine Only.retireOther ?_ _ _ _ (by decide)
    | with_reducible refine Only.retireMonitor ?_ _ _ (by decide) (by decide)
    | with_reducible refine Only.each ?_ _ _ (fun _ _ => ?_)
    | split
    | dsimp only
theorem Only.refinCalDone {PP : List Part} {RR : List Reg} {xx d : Dev} (hh : Only PP RR xx d) (n : Nat) (r : CalResult)
    (hP : ∀ p ∈ ([.cands, .counters, .latches, .ring, .log, .pcie, .sent] : List Part), p ∈ PP) (hR : ∀ r ∈ ([.ALM_ACTIVE, .ALM_LATCH, .RSEL_CAND_STAT] : List Reg), r ∈ RR) :
    Only PP RR xx (Dev.refinCalDone d n r) := hh.andThen (only_refinCalDone d n r) hP hR
theorem only_acceptEdge (d : Dev) (c : Nat) (e : TioEdge) (frozen : Bool) : Only [.outs, .counters, .latches, .ring, .log, .pcie, .tio, .sent] [.ALM_ACTIVE, .ALM_LATCH, .OUT_STAT, .TIO_STAT] d (Dev.acceptEdge d c e frozen) := by
  unfold Dev.acceptEdge
  (try dsimp only)
  repeat' first
    | with_reducible exact Only.refl
    | with_reducible refine Only.onTio ?_ _ _ (by decide)
    | with_reducible refine Only.alignToEdge ?_ _ _ (by decide) (by decide)
    | with_reducible refine Only.fireTriggers ?_ _ _ (by decide) (by decide)
    | with_reducible refine Only.measEdge ?_ _ _ _ (by decide) (by decide)
    | with_reducible refine Only.tioRecord ?_ _ _ _ _ _ _ _ (by decide) (by decide)
    | split
    | dsimp only
theorem Only.acceptEdge {PP : List Part} {RR : List Reg} {xx d : Dev} (hh : Only PP RR xx d) (c : Nat) (e : TioEdge) (frozen : Bool)
    (hP : ∀ p ∈ ([.outs, .counters, .latches, .ring, .log, .pcie, .tio, .sent] : List Part), p ∈ PP) (hR : ∀ r ∈ ([.ALM_ACTIVE, .ALM_LATCH, .OUT_STAT, .TIO_STAT] : List Reg), r ∈ RR) :
    Only PP RR xx (Dev.acceptEdge d c e frozen) := hh.andThen (only_acceptEdge d c e frozen) hP hR
theorem only_loseEdge (d : Dev) (c : Nat) : Only [.counters, .latches, .ring, .log, .pcie, .tio, .sent, .freeCtr] [.ALM_ACTIVE, .ALM_LATCH, .TIO_STAT] d (Dev.loseEdge d c) := by
  unfold Dev.loseEdge
  (try dsimp only)
  repeat' first
    | with_reducible exact Only.refl
    | with_reducible refine Only.onTio ?_ _ _ (by decide)
    | with_reducible refine Only.countDev ?_ _ _ (by decide)
    | with_reducible refine Only.endMeas ?_ _ _ (by decide) (by decide)
    | split
    | dsimp only
theorem Only.loseEdge {PP : List Part} {RR : List Reg} {xx d : Dev} (hh : Only PP RR xx d) (c : Nat)
    (hP : ∀ p ∈ ([.counters, .latches, .ring, .log, .pcie, .tio, .sent, .freeCtr] : List Part), p ∈ PP) (hR : ∀ r ∈ ([.ALM_ACTIVE, .ALM_LATCH, .TIO_STAT] : List Reg), r ∈ RR) :
    Only PP RR xx (Dev.loseEdge d c) := hh.andThen (only_loseEdge d c) hP hR
theorem only_tioEdgeIn (d : Dev) (c : Nat) (rising : Bool) (sample bin : Nat) : Only [.outs, .counters, .latches, .ring, .log, .pcie, .tio, .sent, .freeCtr] [.ALM_ACTIVE, .ALM_LATCH, .OUT_STAT, .TIO_STAT] d (Dev.tioEdgeIn d c rising sample bin) := by
  unfold Dev.tioEdgeIn
  (try dsimp only)
  repeat' first
    | with_reducible exact Only.refl
    | with_reducible refine Only.onTio ?_ _ _ (by decide)
    | with_reducible refine Only.countDev ?_ _ _ (by decide)
    | with_reducible refine Only.acceptEdge ?_ _ _ _ (by decide) (by decide)
    | with_reducible refine Only.loseEdge ?_ _ (by decide) (by decide)
    | with_reducible refine Only.stopEdge ?_ _ _ _ (by decide) (by decide)
    | split
    | dsimp only
theorem Only.tioEdgeIn {PP : List Part} {RR : List Reg} {xx d : Dev} (hh : Only PP RR xx d) (c : Nat) (rising : Bool) (sample bin : Nat)
    (hP : ∀ p ∈ ([.outs, .counters, .latches, .ring, .log, .pcie, .tio, .sent, .freeCtr] : List Part), p ∈ PP) (hR : ∀ r ∈ ([.ALM_ACTIVE, .ALM_LATCH, .OUT_STAT, .TIO_STAT] : List Reg), r ∈ RR) :
    Only PP RR xx (Dev.tioEdgeIn d c rising sample bin) := hh.andThen (only_tioEdgeIn d c rising sample bin) hP hR
theorem only_noEdge (d : Dev) (c : Nat) : Only [.counters, .latches, .ring, .log, .pcie, .tio, .sent] [.ALM_ACTIVE, .ALM_LATCH, .TIO_STAT] d (Dev.noEdge d c) := by
  unfold Dev.noEdge
  (try dsimp only)
  repeat' first
    | with_reducible exact Only.refl
    | with_reducible refine Only.onTio ?_ _ _ (by decide)
    | with_reducible refine Only.tioRecord ?_ _ _ _ _ _ _ _ (by decide) (by decide)
    | split
    | dsimp only
theorem Only.noEdge {PP : List Part} {RR : List Reg} {xx d : Dev} (hh : Only PP RR xx d) (c : Nat)
    (hP : ∀ p ∈ ([.counters, .latches, .ring, .log, .pcie, .tio, .sent] : List Part), p ∈ PP) (hR : ∀ r ∈ ([.ALM_ACTIVE, .ALM_LATCH, .TIO_STAT] : List Reg), r ∈ RR) :
    Only PP RR xx (Dev.noEdge d c) := hh.andThen (only_noEdge d c) hP hR
theorem only_tioRefuse (d : Dev) (c r : Nat) : Only [.counters, .latches, .ring, .log, .pcie, .sent] [.ALM_ACTIVE, .ALM_LATCH, .TIO_CMD] d (Dev.tioRefuse d c r) := by
  unfold Dev.tioRefuse
  (try dsimp only)
  repeat' first
    | with_reducible exact Only.refl
    | with_reducible refine Only.set ?_ _ _ _ (by decide)
    | with_reducible refine Only.countDev ?_ _ _ (by decide)
    | split
    | dsimp only
theorem Only.tioRefuse {PP : List Part} {RR : List Reg} {xx d : Dev} (hh : Only PP RR xx d) (c r : Nat)
    (hP : ∀ p ∈ ([.counters, .latches, .ring, .log, .pcie, .sent] : List Part), p ∈ PP) (hR : ∀ r ∈ ([.ALM_ACTIVE, .ALM_LATCH, .TIO_CMD] : List Reg), r ∈ RR) :
    Only PP RR xx (Dev.tioRefuse d c r) := hh.andThen (only_tioRefuse d c r) hP hR
theorem only_armTio (d : Dev) (c : Nat) : Only [.counters, .latches, .ring, .log, .pcie, .tio, .sent] [.ALM_ACTIVE, .ALM_LATCH, .TIO_CMD, .TIO_STAT] d (Dev.armTio d c) := by
  unfold Dev.armTio
  (try dsimp only)
  repeat' first
    | with_reducible exact Only.refl
    | with_reducible refine Only.set ?_ _ _ _ (by decide)
    | with_reducible refine Only.tioArmed ?_ _ _ (by decide) (by decide)
    | with_reducible refine Only.tioRefuse ?_ _ _ (by decide) (by decide)
    | split
    | dsimp only
theorem Only.armTio {PP : List Part} {RR : List Reg} {xx d : Dev} (hh : Only PP RR xx d) (c : Nat)
    (hP : ∀ p ∈ ([.counters, .latches, .ring, .log, .pcie, .tio, .sent] : List Part), p ∈ PP) (hR : ∀ r ∈ ([.ALM_ACTIVE, .ALM_LATCH, .TIO_CMD, .TIO_STAT] : List Reg), r ∈ RR) :
    Only PP RR xx (Dev.armTio d c) := hh.andThen (only_armTio d c) hP hR
theorem only_startTio (d : Dev) (c : Nat) : Only [.counters, .latches, .ring, .log, .pcie, .tio, .sent] [.ALM_ACTIVE, .ALM_LATCH, .TIO_CMD, .TIO_STAT] d (Dev.startTio d c) := by
  unfold Dev.startTio
  (try dsimp only)
  repeat' first
    | with_reducible exact Only.refl
    | with_reducible refine Only.set ?_ _ _ _ (by decide)
    | with_reducible refine Only.tioBit ?_ _ _ _ (by decide) (by decide)
    | with_reducible refine Only.onTio ?_ _ _ (by decide)
    | with_reducible refine Only.beginSched ?_ _ _ (by decide) (by decide)
    | with_reducible refine Only.tioRefuse ?_ _ _ (by decide) (by decide)
    | split
    | dsimp only
theorem Only.startTio {PP : List Part} {RR : List Reg} {xx d : Dev} (hh : Only PP RR xx d) (c : Nat)
    (hP : ∀ p ∈ ([.counters, .latches, .ring, .log, .pcie, .tio, .sent] : List Part), p ∈ PP) (hR : ∀ r ∈ ([.ALM_ACTIVE, .ALM_LATCH, .TIO_CMD, .TIO_STAT] : List Reg), r ∈ RR) :
    Only PP RR xx (Dev.startTio d c) := hh.andThen (only_startTio d c) hP hR
theorem only_tioEdgeOut (d : Dev) (c : Nat) : Only [.tio, .sent] [.TIO_STAT] d (Dev.tioEdgeOut d c) := by
  unfold Dev.tioEdgeOut
  (try dsimp only)
  repeat' first
    | with_reducible exact Only.refl
    | with_reducible refine Only.onTio ?_ _ _ (by decide)
    | with_reducible refine Only.emit ?_ _ (by decide)
    | with_reducible refine Only.endSched ?_ _ (by decide) (by decide)
    | split
    | dsimp only
theorem Only.tioEdgeOut {PP : List Part} {RR : List Reg} {xx d : Dev} (hh : Only PP RR xx d) (c : Nat)
    (hP : ∀ p ∈ ([.tio, .sent] : List Part), p ∈ PP) (hR : ∀ r ∈ ([.TIO_STAT] : List Reg), r ∈ RR) :
    Only PP RR xx (Dev.tioEdgeOut d c) := hh.andThen (only_tioEdgeOut d c) hP hR
theorem only_cancelTio (d : Dev) (c : Nat) : Only [.tio, .sent] [.TIO_CMD, .TIO_STAT] d (Dev.cancelTio d c) := by
  unfold Dev.cancelTio
  (try dsimp only)
  repeat' first
    | with_reducible exact Only.refl
    | with_reducible refine Only.set ?_ _ _ _ (by decide)
    | with_reducible refine Only.onTio ?_ _ _ (by decide)
    | with_reducible refine Only.endSched ?_ _ (by decide) (by decide)
    | with_reducible refine Only.endTrig ?_ _ (by decide) (by decide)
    | split
    | dsimp only
theorem Only.cancelTio {PP : List Part} {RR : List Reg} {xx d : Dev} (hh : Only PP RR xx d) (c : Nat)
    (hP : ∀ p ∈ ([.tio, .sent] : List Part), p ∈ PP) (hR : ∀ r ∈ ([.TIO_CMD, .TIO_STAT] : List Reg), r ∈ RR) :
    Only PP RR xx (Dev.cancelTio d c) := hh.andThen (only_cancelTio d c) hP hR
theorem only_outEngineFault (d : Dev) (c : Nat) : Only [.counters, .latches, .ring, .log, .pcie, .tio, .sent] [.ALM_ACTIVE, .ALM_LATCH, .TIO_STAT] d (Dev.outEngineFault d c) := by
  unfold Dev.outEngineFault
  (try dsimp only)
  repeat' first
    | with_reducible exact Only.refl
    | with_reducible refine Only.tioBit ?_ _ _ _ (by decide) (by decide)
    | with_reducible refine Only.memError ?_ _ _ (by decide)
    | with_reducible refine Only.logAdd ?_ _ _ _ _ (by decide)
    | with_reducible refine Only.pinAfter ?_ _ _ (by decide) ?_
    | with_reducible refine Only.stopOutput ?_ _ (by decide) (by decide)
    | with_reducible refine Only.tioAlarm ?_ (by decide) (by decide)
    | split
    | dsimp only
theorem Only.outEngineFault {PP : List Part} {RR : List Reg} {xx d : Dev} (hh : Only PP RR xx d) (c : Nat)
    (hP : ∀ p ∈ ([.counters, .latches, .ring, .log, .pcie, .tio, .sent] : List Part), p ∈ PP) (hR : ∀ r ∈ ([.ALM_ACTIVE, .ALM_LATCH, .TIO_STAT] : List Reg), r ∈ RR) :
    Only PP RR xx (Dev.outEngineFault d c) := hh.andThen (only_outEngineFault d c) hP hR
theorem only_readRecord (d : Dev) (c : Nat) : Only [.tio] [.TIO_REC, .TIO_STAT] d (Dev.readRecord d c) := by
  unfold Dev.readRecord
  (try dsimp only)
  repeat' first
    | with_reducible exact Only.refl
    | with_reducible refine Only.set ?_ _ _ _ (by decide)
    | with_reducible refine Only.setWord ?_ _ _ _ (by decide)
    | with_reducible refine Only.onTio ?_ _ _ (by decide)
    | with_reducible refine Only.each ?_ _ _ (fun _ _ => ?_)
    | split
    | dsimp only
theorem Only.readRecord {PP : List Part} {RR : List Reg} {xx d : Dev} (hh : Only PP RR xx d) (c : Nat)
    (hP : ∀ p ∈ ([.tio] : List Part), p ∈ PP) (hR : ∀ r ∈ ([.TIO_REC, .TIO_STAT] : List Reg), r ∈ RR) :
    Only PP RR xx (Dev.readRecord d c) := hh.andThen (only_readRecord d c) hP hR
theorem only_fifoFault (d : Dev) (c i : Nat) : Only [.counters, .latches, .ring, .log, .pcie, .tio, .sent] [.ALM_ACTIVE, .ALM_LATCH, .TIO_STAT] d (Dev.fifoFault d c i) := by
  unfold Dev.fifoFault
  (try dsimp only)
  repeat' first
    | with_reducible exact Only.refl
    | with_reducible refine Only.set ?_ _ _ _ (by decide)
    | with_reducible refine Only.onTio ?_ _ _ (by decide)
    | with_reducible refine Only.memError ?_ _ _ (by decide)
    | with_reducible refine Only.retireOther ?_ _ _ _ (by decide)
    | split
    | dsimp only
theorem Only.fifoFault {PP : List Part} {RR : List Reg} {xx d : Dev} (hh : Only PP RR xx d) (c i : Nat)
    (hP : ∀ p ∈ ([.counters, .latches, .ring, .log, .pcie, .tio, .sent] : List Part), p ∈ PP) (hR : ∀ r ∈ ([.ALM_ACTIVE, .ALM_LATCH, .TIO_STAT] : List Reg), r ∈ RR) :
    Only PP RR xx (Dev.fifoFault d c i) := hh.andThen (only_fifoFault d c i) hP hR

/-! ## PowerOps -/

theorem only_judgeConfigNone (d : Dev) : Only [.counters, .latches, .ring, .log, .pcie, .sent] [.ALM_ACTIVE, .ALM_LATCH] d (Dev.judgeConfigNone d) := by
  unfold Dev.judgeConfigNone
  (try dsimp only)
  repeat' first
    | with_reducible exact Only.refl
    | with_reducible refine Only.cond ?_ _ _ (by decide)
    | split
    | dsimp only
theorem Only.judgeConfigNone {PP : List Part} {RR : List Reg} {xx d : Dev} (hh : Only PP RR xx d) 
    (hP : ∀ p ∈ ([.counters, .latches, .ring, .log, .pcie, .sent] : List Part), p ∈ PP) (hR : ∀ r ∈ ([.ALM_ACTIVE, .ALM_LATCH] : List Reg), r ∈ RR) :
    Only PP RR xx (Dev.judgeConfigNone d) := hh.andThen (only_judgeConfigNone d) hP hR
theorem only_setFast (d : Dev) (v : Nat) : Only [.counters, .latches, .ring, .log, .pcie, .sent] [.ALM_ACTIVE, .ALM_LATCH, .PWR_STAT] d (Dev.setFast d v) := by
  unfold Dev.setFast
  (try dsimp only)
  repeat' first
    | with_reducible exact Only.refl
    | with_reducible refine Only.setMark ?_ _ _ _ _ (by decide) (by decide)
    | with_reducible refine Only.judgeConfigNone ?_ (by decide) (by decide)
    | split
    | dsimp only
theorem Only.setFast {PP : List Part} {RR : List Reg} {xx d : Dev} (hh : Only PP RR xx d) (v : Nat)
    (hP : ∀ p ∈ ([.counters, .latches, .ring, .log, .pcie, .sent] : List Part), p ∈ PP) (hR : ∀ r ∈ ([.ALM_ACTIVE, .ALM_LATCH, .PWR_STAT] : List Reg), r ∈ RR) :
    Only PP RR xx (Dev.setFast d v) := hh.andThen (only_setFast d v) hP hR
theorem only_stopCp (d : Dev) : Only [.cands, .syns, .outs, .chans, .cpMail, .counters, .latches, .ring, .log, .pcie, .sw, .ports, .ptus, .insts, .sys, .sent, .freeCtr] [.ALM_ACTIVE, .ALM_LATCH, .LANE_QUAD_STAT, .OUT_STAT, .PRT_PTU_STAT, .PRT_REV_STAT, .PWR_PORT_STAT, .PWR_STAT, .RSEL_CAND_STAT, .SW_BUF_GATED, .SYN_CMD, .SYN_STAT] d (Dev.stopCp d) := by
  unfold Dev.stopCp
  refine Only.judgeSleeps (Only.each ?_ _ _ (fun _ _ => ?_)) (by decide) (by decide)
  · have h : Only [.cands, .syns, .outs, .chans, .cpMail, .counters, .latches, .ring, .log, .pcie, .sw, .ports, .ptus, .insts, .sys, .sent, .freeCtr] [.ALM_ACTIVE, .ALM_LATCH, .LANE_QUAD_STAT, .OUT_STAT, .PRT_PTU_STAT, .PRT_REV_STAT, .PWR_PORT_STAT, .PWR_STAT, .RSEL_CAND_STAT, .SW_BUF_GATED, .SYN_CMD, .SYN_STAT] d (d.restartParty 2) := Only.restartParty .refl _ (by decide) (by decide)
    revert h
    generalize d.restartParty 2 = e
    exact fun h => Only.agree h rfl (fun p hp => by cases p <;> first | rfl | exact absurd (by decide) hp)
  · exact Only.ptpBegin .refl _ (by decide) (by decide)
theorem Only.stopCp {PP : List Part} {RR : List Reg} {xx d : Dev} (hh : Only PP RR xx d) 
    (hP : ∀ p ∈ ([.cands, .syns, .outs, .chans, .cpMail, .counters, .latches, .ring, .log, .pcie, .sw, .ports, .ptus, .insts, .sys, .sent, .freeCtr] : List Part), p ∈ PP) (hR : ∀ r ∈ ([.ALM_ACTIVE, .ALM_LATCH, .LANE_QUAD_STAT, .OUT_STAT, .PRT_PTU_STAT, .PRT_REV_STAT, .PWR_PORT_STAT, .PWR_STAT, .RSEL_CAND_STAT, .SW_BUF_GATED, .SYN_CMD, .SYN_STAT] : List Reg), r ∈ RR) :
    Only PP RR xx (Dev.stopCp d) := hh.andThen (only_stopCp d) hP hR
theorem only_stopFast (d : Dev) : Only [.cands, .syns, .outs, .chans, .cpMail, .counters, .latches, .ring, .log, .pcie, .sw, .ports, .ptus, .insts, .sys, .sent, .freeCtr] [.ALM_ACTIVE, .ALM_LATCH, .LANE_PARTNER_DOM, .LANE_PARTNER_ID_HI, .LANE_PARTNER_ID_LO, .LANE_PARTNER_INFO, .LANE_QUAD_CFG, .LANE_QUAD_STAT, .LANE_STAT, .LANE_TEST, .OUT_STAT, .PRT_GATE_STAT, .PRT_PTU_STAT, .PRT_Q_PTX, .PRT_Q_STAT, .PRT_REV_STAT, .PWR_PORT_STAT, .PWR_STAT, .RECOV_W4, .RSEL_CAND_STAT, .SW_BUF_GATED, .SYN_CMD, .SYN_STAT] d (Dev.stopFast d) := by
  unfold Dev.stopFast
  (try dsimp only)
  repeat' first
    | with_reducible exact Only.refl
    | with_reducible refine Only.onSys ?_ _ (by decide)
    | with_reducible refine Only.countDev ?_ _ _ (by decide)
    | with_reducible refine Only.portsOff ?_ (by decide) (by decide)
    | with_reducible refine Only.restartParty ?_ _ (by decide) (by decide)
    | with_reducible refine Only.setFast ?_ _ (by decide) (by decide)
    | with_reducible refine Only.stopCp ?_ (by decide) (by decide)
    | split
    | dsimp only
theorem Only.stopFast {PP : List Part} {RR : List Reg} {xx d : Dev} (hh : Only PP RR xx d) 
    (hP : ∀ p ∈ ([.cands, .syns, .outs, .chans, .cpMail, .counters, .latches, .ring, .log, .pcie, .sw, .ports, .ptus, .insts, .sys, .sent, .freeCtr] : List Part), p ∈ PP) (hR : ∀ r ∈ ([.ALM_ACTIVE, .ALM_LATCH, .LANE_PARTNER_DOM, .LANE_PARTNER_ID_HI, .LANE_PARTNER_ID_LO, .LANE_PARTNER_INFO, .LANE_QUAD_CFG, .LANE_QUAD_STAT, .LANE_STAT, .LANE_TEST, .OUT_STAT, .PRT_GATE_STAT, .PRT_PTU_STAT, .PRT_Q_PTX, .PRT_Q_STAT, .PRT_REV_STAT, .PWR_PORT_STAT, .PWR_STAT, .RECOV_W4, .RSEL_CAND_STAT, .SW_BUF_GATED, .SYN_CMD, .SYN_STAT] : List Reg), r ∈ RR) :
    Only PP RR xx (Dev.stopFast d) := hh.andThen (only_stopFast d) hP hR
theorem only_noTimebase (d : Dev) : Only [.cands, .syns, .outs, .chans, .cpMail, .counters, .latches, .ring, .log, .pcie, .sw, .ports, .ptus, .insts, .tio, .sys, .sent, .freeCtr] [.ALM_ACTIVE, .ALM_LATCH, .LANE_PARTNER_DOM, .LANE_PARTNER_ID_HI, .LANE_PARTNER_ID_LO, .LANE_PARTNER_INFO, .LANE_QUAD_CFG, .LANE_QUAD_STAT, .LANE_STAT, .LANE_TEST, .OUT_STAT, .PRT_GATE_STAT, .PRT_PTU_STAT, .PRT_Q_PTX, .PRT_Q_STAT, .PRT_REV_STAT, .PWR_PORT_STAT, .PWR_STAT, .RECOV_W4, .RSEL_CAND_STAT, .SW_BUF_GATED, .SYN_CMD, .SYN_STAT, .TIO_STAT] d (Dev.noTimebase d) := by
  unfold Dev.noTimebase
  (try dsimp only)
  repeat' first
    | with_reducible exact Only.refl
    | with_reducible refine Only.refreshOut ?_ _ (by decide) (by decide)
    | with_reducible refine Only.stopAllSyns ?_ (by decide) (by decide)
    | with_reducible refine Only.stopFast ?_ (by decide) (by decide)
    | with_reducible refine Only.tioClockLost ?_ (by decide) (by decide)
    | with_reducible refine Only.each ?_ _ _ (fun _ _ => ?_)
    | split
    | dsimp only
theorem Only.noTimebase {PP : List Part} {RR : List Reg} {xx d : Dev} (hh : Only PP RR xx d) 
    (hP : ∀ p ∈ ([.cands, .syns, .outs, .chans, .cpMail, .counters, .latches, .ring, .log, .pcie, .sw, .ports, .ptus, .insts, .tio, .sys, .sent, .freeCtr] : List Part), p ∈ PP) (hR : ∀ r ∈ ([.ALM_ACTIVE, .ALM_LATCH, .LANE_PARTNER_DOM, .LANE_PARTNER_ID_HI, .LANE_PARTNER_ID_LO, .LANE_PARTNER_INFO, .LANE_QUAD_CFG, .LANE_QUAD_STAT, .LANE_STAT, .LANE_TEST, .OUT_STAT, .PRT_GATE_STAT, .PRT_PTU_STAT, .PRT_Q_PTX, .PRT_Q_STAT, .PRT_REV_STAT, .PWR_PORT_STAT, .PWR_STAT, .RECOV_W4, .RSEL_CAND_STAT, .SW_BUF_GATED, .SYN_CMD, .SYN_STAT, .TIO_STAT] : List Reg), r ∈ RR) :
    Only PP RR xx (Dev.noTimebase d) := hh.andThen (only_noTimebase d) hP hR

/-! ## Hooks -/

theorem only_timeStepped (d : Dev) (x : Int) : Only [.syns, .outs, .counters, .latches, .ring, .log, .pcie, .sw, .ports, .ptus, .tio, .sent, .freeCtr] [.ALM_ACTIVE, .ALM_LATCH, .OUT_STAT, .PRT_GATE_STAT, .TIO_STAT] d (Dev.timeStepped d x) := by
  unfold Dev.timeStepped
  refine Only.agree (e := (((d.outsStepped x).queuesStepped x).tioStepped x).ptusStepped x) ?_ rfl (fun p hp => by cases p <;> first | rfl | exact absurd (by decide) hp)
  exact (((Only.outsStepped .refl x (by decide) (by decide)).queuesStepped x (by decide) (by decide)).tioStepped x (by decide) (by decide)).ptusStepped x (by decide) (by decide)
theorem Only.timeStepped {PP : List Part} {RR : List Reg} {xx d : Dev} (hh : Only PP RR xx d) (x : Int)
    (hP : ∀ p ∈ ([.syns, .outs, .counters, .latches, .ring, .log, .pcie, .sw, .ports, .ptus, .tio, .sent, .freeCtr] : List Part), p ∈ PP) (hR : ∀ r ∈ ([.ALM_ACTIVE, .ALM_LATCH, .OUT_STAT, .PRT_GATE_STAT, .TIO_STAT] : List Reg), r ∈ RR) :
    Only PP RR xx (Dev.timeStepped d x) := hh.andThen (only_timeStepped d x) hP hR
theorem only_freezeClocks (d : Dev) : Only [.syns, .outs, .counters, .latches, .ring, .log, .pcie, .sw, .ports, .sys, .sent] [.ALM_ACTIVE, .ALM_LATCH, .LANE_QUAD_STAT, .OUT_STAT, .PWR_PORT_STAT, .PWR_STAT, .SW_BUF_GATED, .SYN_CMD, .SYN_STAT] d (Dev.freezeClocks d) := by
  unfold Dev.freezeClocks
  (try dsimp only)
  repeat' first
    | with_reducible exact Only.refl
    | with_reducible refine Only.freezeSyns ?_ (by decide) (by decide)
    | with_reducible refine Only.judgeSleeps ?_ (by decide) (by decide)
    | split
    | dsimp only
theorem Only.freezeClocks {PP : List Part} {RR : List Reg} {xx d : Dev} (hh : Only PP RR xx d) 
    (hP : ∀ p ∈ ([.syns, .outs, .counters, .latches, .ring, .log, .pcie, .sw, .ports, .sys, .sent] : List Part), p ∈ PP) (hR : ∀ r ∈ ([.ALM_ACTIVE, .ALM_LATCH, .LANE_QUAD_STAT, .OUT_STAT, .PWR_PORT_STAT, .PWR_STAT, .SW_BUF_GATED, .SYN_CMD, .SYN_STAT] : List Reg), r ∈ RR) :
    Only PP RR xx (Dev.freezeClocks d) := hh.andThen (only_freezeClocks d) hP hR
theorem only_thawClocks (d : Dev) : Only [.syns, .outs, .counters, .latches, .ring, .log, .pcie, .sw, .ports, .sys, .sent] [.ALM_ACTIVE, .ALM_LATCH, .LANE_QUAD_STAT, .OUT_STAT, .PWR_PORT_STAT, .PWR_STAT, .SW_BUF_GATED, .SYN_CMD, .SYN_STAT] d (Dev.thawClocks d) := by
  unfold Dev.thawClocks
  (try dsimp only)
  repeat' first
    | with_reducible exact Only.refl
    | with_reducible refine Only.judgeSleeps ?_ (by decide) (by decide)
    | with_reducible refine Only.releaseSyns ?_ (by decide) (by decide)
    | split
    | dsimp only
theorem Only.thawClocks {PP : List Part} {RR : List Reg} {xx d : Dev} (hh : Only PP RR xx d) 
    (hP : ∀ p ∈ ([.syns, .outs, .counters, .latches, .ring, .log, .pcie, .sw, .ports, .sys, .sent] : List Part), p ∈ PP) (hR : ∀ r ∈ ([.ALM_ACTIVE, .ALM_LATCH, .LANE_QUAD_STAT, .OUT_STAT, .PWR_PORT_STAT, .PWR_STAT, .SW_BUF_GATED, .SYN_CMD, .SYN_STAT] : List Reg), r ∈ RR) :
    Only PP RR xx (Dev.thawClocks d) := hh.andThen (only_thawClocks d) hP hR
theorem only_statusMoved (d : Dev) : Only [.syns, .outs, .counters, .latches, .ring, .log, .pcie, .sw, .ports, .sys, .sent] [.ALM_ACTIVE, .ALM_LATCH, .LANE_QUAD_STAT, .OUT_STAT, .PWR_PORT_STAT, .PWR_STAT, .SW_BUF_GATED, .SYN_CMD, .SYN_STAT] d (Dev.statusMoved d) := by
  unfold Dev.statusMoved
  (try dsimp only)
  repeat' first
    | with_reducible exact Only.refl
    | with_reducible refine Only.judgeSleeps ?_ (by decide) (by decide)
    | split
    | dsimp only
theorem Only.statusMoved {PP : List Part} {RR : List Reg} {xx d : Dev} (hh : Only PP RR xx d) 
    (hP : ∀ p ∈ ([.syns, .outs, .counters, .latches, .ring, .log, .pcie, .sw, .ports, .sys, .sent] : List Part), p ∈ PP) (hR : ∀ r ∈ ([.ALM_ACTIVE, .ALM_LATCH, .LANE_QUAD_STAT, .OUT_STAT, .PWR_PORT_STAT, .PWR_STAT, .SW_BUF_GATED, .SYN_CMD, .SYN_STAT] : List Reg), r ∈ RR) :
    Only PP RR xx (Dev.statusMoved d) := hh.andThen (only_statusMoved d) hP hR

/-! ## Time -/

theorem only_writeCheckpoint (d : Dev) : Only [.twin] [.SEQGEN_W0] d (Dev.writeCheckpoint d) := by
  unfold Dev.writeCheckpoint
  (try dsimp only)
  repeat' first
    | with_reducible exact Only.refl
    | with_reducible refine Only.onTwin ?_ _ (by decide)
    | with_reducible refine Only.nextSeq ?_ _ (by decide) (by decide)
    | split
    | dsimp only
theorem Only.writeCheckpoint {PP : List Part} {RR : List Reg} {xx d : Dev} (hh : Only PP RR xx d) 
    (hP : ∀ p ∈ ([.twin] : List Part), p ∈ PP) (hR : ∀ r ∈ ([.SEQGEN_W0] : List Reg), r ∈ RR) :
    Only PP RR xx (Dev.writeCheckpoint d) := hh.andThen (only_writeCheckpoint d) hP hR
theorem only_verify (d : Dev) (ok : Bool) : Only [.twin] [] d (Dev.verify d ok) := by
  unfold Dev.verify
  (try dsimp only)
  repeat' first
    | with_reducible exact Only.refl
    | with_reducible refine Only.onTwin ?_ _ (by decide)
    | split
    | dsimp only
theorem Only.verify {PP : List Part} {RR : List Reg} {xx d : Dev} (hh : Only PP RR xx d) (ok : Bool)
    (hP : ∀ p ∈ ([.twin] : List Part), p ∈ PP) (hR : ∀ r ∈ ([] : List Reg), r ∈ RR) :
    Only PP RR xx (Dev.verify d ok) := hh.andThen (only_verify d ok) hP hR
theorem only_takeCheckpoint (d : Dev) : Only [.twin] [.SEQGEN_W0] d (Dev.takeCheckpoint d) := by
  unfold Dev.takeCheckpoint
  (try dsimp only)
  repeat' first
    | with_reducible exact Only.refl
    | with_reducible refine Only.verify ?_ _ (by decide) (by decide)
    | with_reducible refine Only.writeCheckpoint ?_ (by decide) (by decide)
    | with_reducible refine Only.when ?_ _ _ ?_
    | split
    | dsimp only
theorem Only.takeCheckpoint {PP : List Part} {RR : List Reg} {xx d : Dev} (hh : Only PP RR xx d) 
    (hP : ∀ p ∈ ([.twin] : List Part), p ∈ PP) (hR : ∀ r ∈ ([.SEQGEN_W0] : List Reg), r ∈ RR) :
    Only PP RR xx (Dev.takeCheckpoint d) := hh.andThen (only_takeCheckpoint d) hP hR
theorem only_mirror (d : Dev) (m : Mirrored) : Only [.mir, .twin] [.SEQGEN_W0] d (Dev.mirror d m) := by
  unfold Dev.mirror
  (try dsimp only)
  repeat' first
    | with_reducible exact Only.refl
    | with_reducible refine Only.onTwin ?_ _ (by decide)
    | with_reducible refine Only.nextSeq ?_ _ (by decide) (by decide)
    | with_reducible refine Only.takeCheckpoint ?_ (by decide) (by decide)
    | with_reducible refine Only.when ?_ _ _ ?_
    | split
    | dsimp only
  all_goals first
    | with_reducible refine Only.upd_mir ?_ _ (by decide)
    | skip
  all_goals (repeat' first
      | with_reducible exact Only.refl
      | with_reducible refine Only.onTwin ?_ _ (by decide)
      | with_reducible refine Only.nextSeq ?_ _ (by decide) (by decide)
      | with_reducible refine Only.takeCheckpoint ?_ (by decide) (by decide)
      | with_reducible refine Only.when ?_ _ _ ?_
      | split
      | dsimp only)
  all_goals first
    | with_reducible refine Only.upd_mir ?_ _ (by decide)
    | skip
  all_goals (repeat' first
      | with_reducible exact Only.refl
      | with_reducible refine Only.onTwin ?_ _ (by decide)
      | with_reducible refine Only.nextSeq ?_ _ (by decide) (by decide)
      | with_reducible refine Only.takeCheckpoint ?_ (by decide) (by decide)
      | with_reducible refine Only.when ?_ _ _ ?_
      | split
      | dsimp only)
theorem Only.mirror {PP : List Part} {RR : List Reg} {xx d : Dev} (hh : Only PP RR xx d) (m : Mirrored)
    (hP : ∀ p ∈ ([.mir, .twin] : List Part), p ∈ PP) (hR : ∀ r ∈ ([.SEQGEN_W0] : List Reg), r ∈ RR) :
    Only PP RR xx (Dev.mirror d m) := hh.andThen (only_mirror d m) hP hR
theorem only_mirrorBy (d : Dev) (f : Mirrored → Mirrored) : Only [.mir, .twin] [.SEQGEN_W0] d (Dev.mirrorBy d f) := by
  unfold Dev.mirrorBy
  (try dsimp only)
  repeat' first
    | with_reducible exact Only.refl
    | with_reducible refine Only.mirror ?_ _ (by decide) (by decide)
    | split
    | dsimp only
theorem Only.mirrorBy {PP : List Part} {RR : List Reg} {xx d : Dev} (hh : Only PP RR xx d) (f : Mirrored → Mirrored)
    (hP : ∀ p ∈ ([.mir, .twin] : List Part), p ∈ PP) (hR : ∀ r ∈ ([.SEQGEN_W0] : List Reg), r ∈ RR) :
    Only PP RR xx (Dev.mirrorBy d f) := hh.andThen (only_mirrorBy d f) hP hR
theorem only_setState (d : Dev) (st : TState) : Only [.mir, .twin, .syns, .outs, .counters, .latches, .ring, .log, .pcie, .sw, .ports, .sys, .sent] [.ALM_ACTIVE, .ALM_LATCH, .LANE_QUAD_STAT, .OUT_STAT, .PWR_PORT_STAT, .PWR_STAT, .SEQGEN_W0, .SW_BUF_GATED, .SYN_CMD, .SYN_STAT, .TB_TSTAT] d (Dev.setState d st) := by
  unfold Dev.setState
  (try dsimp only)
  repeat' first
    | with_reducible exact Only.refl
    | with_reducible refine Only.setB ?_ _ _ _ (by decide)
    | with_reducible refine Only.cond ?_ _ _ (by decide)
    | with_reducible refine Only.countDev ?_ _ _ (by decide)
    | with_reducible refine Only.mirrorBy ?_ _ (by decide) (by decide)
    | with_reducible refine Only.statusMoved ?_ (by decide) (by decide)
    | split
    | dsimp only
theorem Only.setState {PP : List Part} {RR : List Reg} {xx d : Dev} (hh : Only PP RR xx d) (st : TState)
    (hP : ∀ p ∈ ([.mir, .twin, .syns, .outs, .counters, .latches, .ring, .log, .pcie, .sw, .ports, .sys, .sent] : List Part), p ∈ PP) (hR : ∀ r ∈ ([.ALM_ACTIVE, .ALM_LATCH, .LANE_QUAD_STAT, .OUT_STAT, .PWR_PORT_STAT, .PWR_STAT, .SEQGEN_W0, .SW_BUF_GATED, .SYN_CMD, .SYN_STAT, .TB_TSTAT] : List Reg), r ∈ RR) :
    Only PP RR xx (Dev.setState d st) := hh.andThen (only_setState d st) hP hR
theorem only_stepCounter (d : Dev) (x : Int) : Only [.tbA, .tbB, .cands, .twin, .syns, .outs, .counters, .latches, .ring, .log, .pcie, .sw, .ports, .ptus, .tio, .sent, .freeCtr] [.ALM_ACTIVE, .ALM_LATCH, .OUT_STAT, .PRT_GATE_STAT, .TIO_STAT] d (Dev.stepCounter d x) := by
  unfold Dev.stepCounter
  (try dsimp only)
  repeat' first
    | with_reducible exact Only.refl
    | with_reducible refine Only.onTwin ?_ _ (by decide)
    | with_reducible refine Only.onTb ?_ _ _ (by decide) (by decide)
    | with_reducible refine Only.timeStepped ?_ _ (by decide) (by decide)
    | split
    | dsimp only
  all_goals first
    | with_reducible refine Only.upd_cands ?_ _ (by decide)
    | skip
  all_goals (repeat' first
      | with_reducible exact Only.refl
      | with_reducible refine Only.onTwin ?_ _ (by decide)
      | with_reducible refine Only.onTb ?_ _ _ (by decide) (by decide)
      | with_reducible refine Only.timeStepped ?_ _ (by decide) (by decide)
      | split
      | dsimp only)
  all_goals first
    | with_reducible refine Only.upd_cands ?_ _ (by decide)
    | skip
  all_goals (repeat' first
      | with_reducible exact Only.refl
      | with_reducible refine Only.onTwin ?_ _ (by decide)
      | with_reducible refine Only.onTb ?_ _ _ (by decide) (by decide)
      | with_reducible refine Only.timeStepped ?_ _ (by decide) (by decide)
      | split
      | dsimp only)
theorem Only.stepCounter {PP : List Part} {RR : List Reg} {xx d : Dev} (hh : Only PP RR xx d) (x : Int)
    (hP : ∀ p ∈ ([.tbA, .tbB, .cands, .twin, .syns, .outs, .counters, .latches, .ring, .log, .pcie, .sw, .ports, .ptus, .tio, .sent, .freeCtr] : List Part), p ∈ PP) (hR : ∀ r ∈ ([.ALM_ACTIVE, .ALM_LATCH, .OUT_STAT, .PRT_GATE_STAT, .TIO_STAT] : List Reg), r ∈ RR) :
    Only PP RR xx (Dev.stepCounter d x) := hh.andThen (only_stepCounter d x) hP hR
theorem only_startLoop (d : Dev) (t : TbId) (id : Nat) (preset : Bool) : Only [.tbA, .tbB, .mir, .rsel, .twin] [.SEQGEN_W0] d (Dev.startLoop d t id preset) := by
  unfold Dev.startLoop
  (try dsimp only)
  repeat' first
    | with_reducible exact Only.refl
    | with_reducible refine Only.onRsel ?_ _ (by decide)
    | with_reducible refine Only.onTb ?_ _ _ (by decide) (by decide)
    | with_reducible refine Only.mirrorBy ?_ _ (by decide) (by decide)
    | split
    | dsimp only
theorem Only.startLoop {PP : List Part} {RR : List Reg} {xx d : Dev} (hh : Only PP RR xx d) (t : TbId) (id : Nat) (preset : Bool)
    (hP : ∀ p ∈ ([.tbA, .tbB, .mir, .rsel, .twin] : List Part), p ∈ PP) (hR : ∀ r ∈ ([.SEQGEN_W0] : List Reg), r ∈ RR) :
    Only PP RR xx (Dev.startLoop d t id preset) := hh.andThen (only_startLoop d t id preset) hP hR
theorem only_setFromReference (d : Dev) (t : TbId) (id : Nat) (target : Ticks) : Only [.tbA, .tbB, .mir, .rsel, .cands, .twin, .syns, .outs, .counters, .latches, .ring, .log, .pcie, .sw, .ports, .ptus, .tio, .sys, .sent, .freeCtr] [.ALM_ACTIVE, .ALM_LATCH, .LANE_QUAD_STAT, .OUT_STAT, .PRT_GATE_STAT, .PWR_PORT_STAT, .PWR_STAT, .SEQGEN_W0, .SW_BUF_GATED, .SYN_CMD, .SYN_STAT, .TB_TSTAT, .TIO_STAT] d (Dev.setFromReference d t id target) := by
  unfold Dev.setFromReference
  (try dsimp only)
  repeat' first
    | with_reducible exact Only.refl
    | with_reducible refine Only.onRsel ?_ _ (by decide)
    | with_reducible refine Only.onCand ?_ _ _ (by decide)
    | with_reducible refine Only.setState ?_ _ (by decide) (by decide)
    | with_reducible refine Only.startLoop ?_ _ _ _ (by decide) (by decide)
    | with_reducible refine Only.stepCounter ?_ _ (by decide) (by decide)
    | split
    | dsimp only
theorem Only.setFromReference {PP : List Part} {RR : List Reg} {xx d : Dev} (hh : Only PP RR xx d) (t : TbId) (id : Nat) (target : Ticks)
    (hP : ∀ p ∈ ([.tbA, .tbB, .mir, .rsel, .cands, .twin, .syns, .outs, .counters, .latches, .ring, .log, .pcie, .sw, .ports, .ptus, .tio, .sys, .sent, .freeCtr] : List Part), p ∈ PP) (hR : ∀ r ∈ ([.ALM_ACTIVE, .ALM_LATCH, .LANE_QUAD_STAT, .OUT_STAT, .PRT_GATE_STAT, .PWR_PORT_STAT, .PWR_STAT, .SEQGEN_W0, .SW_BUF_GATED, .SYN_CMD, .SYN_STAT, .TB_TSTAT, .TIO_STAT] : List Reg), r ∈ RR) :
    Only PP RR xx (Dev.setFromReference d t id target) := hh.andThen (only_setFromReference d t id target) hP hR
theorem only_takeUtc (d : Dev) (s : SourceData) : Only [.mir, .twin, .counters, .latches, .ring, .log, .pcie, .sent] [.ALM_ACTIVE, .ALM_LATCH, .SEQGEN_W0] d (Dev.takeUtc d s) := by
  unfold Dev.takeUtc
  (try dsimp only)
  repeat' first
    | with_reducible exact Only.refl
    | with_reducible refine Only.raise ?_ _ (by decide)
    | with_reducible refine Only.mirrorBy ?_ _ (by decide) (by decide)
    | with_reducible refine Only.when ?_ _ _ ?_
    | split
    | dsimp only
theorem Only.takeUtc {PP : List Part} {RR : List Reg} {xx d : Dev} (hh : Only PP RR xx d) (s : SourceData)
    (hP : ∀ p ∈ ([.mir, .twin, .counters, .latches, .ring, .log, .pcie, .sent] : List Part), p ∈ PP) (hR : ∀ r ∈ ([.ALM_ACTIVE, .ALM_LATCH, .SEQGEN_W0] : List Reg), r ∈ RR) :
    Only PP RR xx (Dev.takeUtc d s) := hh.andThen (only_takeUtc d s) hP hR
theorem only_judgeTraceable (d : Dev) : Only [.mir, .twin] [.SEQGEN_W0] d (Dev.judgeTraceable d) := by
  unfold Dev.judgeTraceable
  (try dsimp only)
  repeat' first
    | with_reducible exact Only.refl
    | with_reducible refine Only.mirrorBy ?_ _ (by decide) (by decide)
    | split
    | dsimp only
theorem Only.judgeTraceable {PP : List Part} {RR : List Reg} {xx d : Dev} (hh : Only PP RR xx d) 
    (hP : ∀ p ∈ ([.mir, .twin] : List Part), p ∈ PP) (hR : ∀ r ∈ ([.SEQGEN_W0] : List Reg), r ∈ RR) :
    Only PP RR xx (Dev.judgeTraceable d) := hh.andThen (only_judgeTraceable d) hP hR
theorem only_selectRef (d : Dev) (id : Nat) : Only [.rsel, .cands, .counters, .latches, .ring, .log, .pcie, .sent] [.ALM_ACTIVE, .ALM_LATCH, .RSEL_CAND_STAT, .RSEL_SEL] d (Dev.selectRef d id) := by
  unfold Dev.selectRef
  (try dsimp only)
  repeat' first
    | with_reducible exact Only.refl
    | with_reducible refine Only.setMark ?_ _ _ _ _ (by decide) (by decide)
    | with_reducible refine Only.candFlag ?_ _ _ _ (by decide) (by decide)
    | with_reducible refine Only.onRsel ?_ _ (by decide)
    | with_reducible refine Only.onCand ?_ _ _ (by decide)
    | with_reducible refine Only.cond ?_ _ _ (by decide)
    | with_reducible refine Only.countDev ?_ _ _ (by decide)
    | split
    | dsimp only
theorem Only.selectRef {PP : List Part} {RR : List Reg} {xx d : Dev} (hh : Only PP RR xx d) (id : Nat)
    (hP : ∀ p ∈ ([.rsel, .cands, .counters, .latches, .ring, .log, .pcie, .sent] : List Part), p ∈ PP) (hR : ∀ r ∈ ([.ALM_ACTIVE, .ALM_LATCH, .RSEL_CAND_STAT, .RSEL_SEL] : List Reg), r ∈ RR) :
    Only PP RR xx (Dev.selectRef d id) := hh.andThen (only_selectRef d id) hP hR
theorem only_stopWtr (d : Dev) : Only [.rsel] [.RSEL_SEL] d (Dev.stopWtr d) := by
  unfold Dev.stopWtr
  (try dsimp only)
  repeat' first
    | with_reducible exact Only.refl
    | with_reducible refine Only.set ?_ _ _ _ (by decide)
    | with_reducible refine Only.onRsel ?_ _ (by decide)
    | split
    | dsimp only
theorem Only.stopWtr {PP : List Part} {RR : List Reg} {xx d : Dev} (hh : Only PP RR xx d) 
    (hP : ∀ p ∈ ([.rsel] : List Part), p ∈ PP) (hR : ∀ r ∈ ([.RSEL_SEL] : List Reg), r ∈ RR) :
    Only PP RR xx (Dev.stopWtr d) := hh.andThen (only_stopWtr d) hP hR
theorem only_startWtr (d : Dev) (id : Nat) : Only [.rsel] [.RSEL_SEL] d (Dev.startWtr d id) := by
  unfold Dev.startWtr
  (try dsimp only)
  repeat' first
    | with_reducible exact Only.refl
    | with_reducible refine Only.set ?_ _ _ _ (by decide)
    | with_reducible refine Only.onRsel ?_ _ (by decide)
    | split
    | dsimp only
theorem Only.startWtr {PP : List Part} {RR : List Reg} {xx d : Dev} (hh : Only PP RR xx d) (id : Nat)
    (hP : ∀ p ∈ ([.rsel] : List Part), p ∈ PP) (hR : ∀ r ∈ ([.RSEL_SEL] : List Reg), r ∈ RR) :
    Only PP RR xx (Dev.startWtr d id) := hh.andThen (only_startWtr d id) hP hR
theorem only_cancelWtr (d : Dev) : Only [.rsel] [.RSEL_SEL] d (Dev.cancelWtr d) := by
  unfold Dev.cancelWtr
  (try dsimp only)
  repeat' first
    | with_reducible exact Only.refl
    | with_reducible refine Only.stopWtr ?_ (by decide) (by decide)
    | split
    | dsimp only
theorem Only.cancelWtr {PP : List Part} {RR : List Reg} {xx d : Dev} (hh : Only PP RR xx d) 
    (hP : ∀ p ∈ ([.rsel] : List Part), p ∈ PP) (hR : ∀ r ∈ ([.RSEL_SEL] : List Reg), r ∈ RR) :
    Only PP RR xx (Dev.cancelWtr d) := hh.andThen (only_cancelWtr d) hP hR
theorem only_runSelector (d : Dev) (reached : Bool) : Only [.rsel, .cands, .counters, .latches, .ring, .log, .pcie, .sent] [.ALM_ACTIVE, .ALM_LATCH, .RSEL_CAND_STAT, .RSEL_SEL] d (Dev.runSelector d reached) := by
  unfold Dev.runSelector
  (try dsimp only)
  repeat' first
    | with_reducible exact Only.refl
    | with_reducible refine Only.setB ?_ _ _ _ (by decide)
    | with_reducible refine Only.onRsel ?_ _ (by decide)
    | with_reducible refine Only.raise ?_ _ (by decide)
    | with_reducible refine Only.selectRef ?_ _ (by decide) (by decide)
    | with_reducible refine Only.startWtr ?_ _ (by decide) (by decide)
    | with_reducible refine Only.stopWtr ?_ (by decide) (by decide)
    | split
    | dsimp only
theorem Only.runSelector {PP : List Part} {RR : List Reg} {xx d : Dev} (hh : Only PP RR xx d) (reached : Bool)
    (hP : ∀ p ∈ ([.rsel, .cands, .counters, .latches, .ring, .log, .pcie, .sent] : List Part), p ∈ PP) (hR : ∀ r ∈ ([.ALM_ACTIVE, .ALM_LATCH, .RSEL_CAND_STAT, .RSEL_SEL] : List Reg), r ∈ RR) :
    Only PP RR xx (Dev.runSelector d reached) := hh.andThen (only_runSelector d reached) hP hR
theorem only_judgeOutvoted (d : Dev) : Only [.cands, .counters, .latches, .ring, .log, .pcie, .sent] [.ALM_ACTIVE, .ALM_LATCH, .RSEL_CAND_STAT] d (Dev.judgeOutvoted d) := by
  unfold Dev.judgeOutvoted
  (try dsimp only)
  repeat' first
    | with_reducible exact Only.refl
    | with_reducible refine Only.candFlag ?_ _ _ _ (by decide) (by decide)
    | with_reducible refine Only.onCand ?_ _ _ (by decide)
    | with_reducible refine Only.cond ?_ _ _ (by decide)
    | with_reducible refine Only.countDev ?_ _ _ (by decide)
    | with_reducible refine Only.disqualify ?_ _ _ (by decide) (by decide)
    | with_reducible refine Only.when ?_ _ _ ?_
    | with_reducible refine Only.each ?_ _ _ (fun _ _ => ?_)
    | split
    | dsimp only
theorem Only.judgeOutvoted {PP : List Part} {RR : List Reg} {xx d : Dev} (hh : Only PP RR xx d) 
    (hP : ∀ p ∈ ([.cands, .counters, .latches, .ring, .log, .pcie, .sent] : List Part), p ∈ PP) (hR : ∀ r ∈ ([.ALM_ACTIVE, .ALM_LATCH, .RSEL_CAND_STAT] : List Reg), r ∈ RR) :
    Only PP RR xx (Dev.judgeOutvoted d) := hh.andThen (only_judgeOutvoted d) hP hR
theorem only_judgeConflict (d : Dev) : Only [.rsel, .cands, .counters, .latches, .ring, .log, .pcie, .sent] [.ALM_ACTIVE, .ALM_LATCH, .RSEL_CAND_STAT, .RSEL_SEL] d (Dev.judgeConflict d) := by
  unfold Dev.judgeConflict
  (try dsimp only)
  repeat' first
    | with_reducible exact Only.refl
    | with_reducible refine Only.set ?_ _ _ _ (by decide)
    | with_reducible refine Only.cond ?_ _ _ (by decide)
    | with_reducible refine Only.countDev ?_ _ _ (by decide)
    | with_reducible refine Only.selectRef ?_ _ (by decide) (by decide)
    | with_reducible refine Only.when ?_ _ _ ?_
    | split
    | dsimp only
theorem Only.judgeConflict {PP : List Part} {RR : List Reg} {xx d : Dev} (hh : Only PP RR xx d) 
    (hP : ∀ p ∈ ([.rsel, .cands, .counters, .latches, .ring, .log, .pcie, .sent] : List Part), p ∈ PP) (hR : ∀ r ∈ ([.ALM_ACTIVE, .ALM_LATCH, .RSEL_CAND_STAT, .RSEL_SEL] : List Reg), r ∈ RR) :
    Only PP RR xx (Dev.judgeConflict d) := hh.andThen (only_judgeConflict d) hP hR
theorem only_judgeBars (d : Dev) : Only [.rsel, .cands, .counters, .latches, .ring, .log, .pcie, .sent] [.ALM_ACTIVE, .ALM_LATCH, .RSEL_CAND_STAT, .RSEL_SEL] d (Dev.judgeBars d) := by
  unfold Dev.judgeBars
  (try dsimp only)
  repeat' first
    | with_reducible exact Only.refl
    | with_reducible refine Only.candFlag ?_ _ _ _ (by decide) (by decide)
    | with_reducible refine Only.selectRef ?_ _ (by decide) (by decide)
    | with_reducible refine Only.stopWtr ?_ (by decide) (by decide)
    | with_reducible refine Only.when ?_ _ _ ?_
    | with_reducible refine Only.each ?_ _ _ (fun _ _ => ?_)
    | split
    | dsimp only
theorem Only.judgeBars {PP : List Part} {RR : List Reg} {xx d : Dev} (hh : Only PP RR xx d) 
    (hP : ∀ p ∈ ([.rsel, .cands, .counters, .latches, .ring, .log, .pcie, .sent] : List Part), p ∈ PP) (hR : ∀ r ∈ ([.ALM_ACTIVE, .ALM_LATCH, .RSEL_CAND_STAT, .RSEL_SEL] : List Reg), r ∈ RR) :
    Only PP RR xx (Dev.judgeBars d) := hh.andThen (only_judgeBars d) hP hR

/-! ## Ptp -/

theorem only_setBeatLock (d : Dev) (p : Nat) (on : Bool) : Only [.ptus] [.PRT_PTU_STAT] d (Dev.setBeatLock d p on) := by
  unfold Dev.setBeatLock
  (try dsimp only)
  repeat' first
    | with_reducible exact Only.refl
    | with_reducible refine Only.ptuBit ?_ _ _ _ (by decide) (by decide)
    | with_reducible refine Only.onPtu ?_ _ _ (by decide)
    | split
    | dsimp only
theorem Only.setBeatLock {PP : List Part} {RR : List Reg} {xx d : Dev} (hh : Only PP RR xx d) (p : Nat) (on : Bool)
    (hP : ∀ p ∈ ([.ptus] : List Part), p ∈ PP) (hR : ∀ r ∈ ([.PRT_PTU_STAT] : List Reg), r ∈ RR) :
    Only PP RR xx (Dev.setBeatLock d p on) := hh.andThen (only_setBeatLock d p on) hP hR
theorem only_beatSample (d : Dev) (p phiRx phiTx : Nat) (within : Bool) : Only [.cands, .ptus] [.PRT_PTU_STAT] d (Dev.beatSample d p phiRx phiTx within) := by
  unfold Dev.beatSample
  (try dsimp only)
  repeat' first
    | with_reducible exact Only.refl
    | with_reducible refine Only.onPtu ?_ _ _ (by decide)
    | with_reducible refine Only.judgeL1 ?_ _ (by decide) (by decide)
    | with_reducible refine Only.passTheta ?_ _ _ (by decide) (by decide)
    | with_reducible refine Only.setBeatLock ?_ _ _ (by decide) (by decide)
    | split
    | dsimp only
theorem Only.beatSample {PP : List Part} {RR : List Reg} {xx d : Dev} (hh : Only PP RR xx d) (p phiRx phiTx : Nat) (within : Bool)
    (hP : ∀ p ∈ ([.cands, .ptus] : List Part), p ∈ PP) (hR : ∀ r ∈ ([.PRT_PTU_STAT] : List Reg), r ∈ RR) :
    Only PP RR xx (Dev.beatSample d p phiRx phiTx within) := hh.andThen (only_beatSample d p phiRx phiTx within) hP hR
theorem only_eventIn (d : Dev) (p t : Nat) (c : Capture) : Only [.counters, .latches, .ring, .log, .pcie, .ptus, .sent] [.ALM_ACTIVE, .ALM_LATCH] d (Dev.eventIn d p t c) := by
  unfold Dev.eventIn
  (try dsimp only)
  repeat' first
    | with_reducible exact Only.refl
    | with_reducible refine Only.onPtu ?_ _ _ (by decide)
    | with_reducible refine Only.countRx ?_ _ _ (by decide)
    | split
    | dsimp only
theorem Only.eventIn {PP : List Part} {RR : List Reg} {xx d : Dev} (hh : Only PP RR xx d) (p t : Nat) (c : Capture)
    (hP : ∀ p ∈ ([.counters, .latches, .ring, .log, .pcie, .ptus, .sent] : List Part), p ∈ PP) (hR : ∀ r ∈ ([.ALM_ACTIVE, .ALM_LATCH] : List Reg), r ∈ RR) :
    Only PP RR xx (Dev.eventIn d p t c) := hh.andThen (only_eventIn d p t c) hP hR
theorem only_eventOut (d : Dev) (p t : Nat) (cp m : PtpMsg) (c : Capture) (asker : Option PtpMsg) : Only [.counters, .latches, .ring, .log, .pcie, .ptus, .sent] [.ALM_ACTIVE, .ALM_LATCH] d (Dev.eventOut d p t cp m c asker) := by
  unfold Dev.eventOut
  (try dsimp only)
  repeat' first
    | with_reducible exact Only.refl
    | with_reducible refine Only.onPtu ?_ _ _ (by decide)
    | with_reducible refine Only.emit ?_ _ (by decide)
    | with_reducible refine Only.countTx ?_ _ _ (by decide)
    | with_reducible refine Only.ptpLeaves ?_ _ _ (by decide) (by decide)
    | split
    | dsimp only
theorem Only.eventOut {PP : List Part} {RR : List Reg} {xx d : Dev} (hh : Only PP RR xx d) (p t : Nat) (cp m : PtpMsg) (c : Capture) (asker : Option PtpMsg)
    (hP : ∀ p ∈ ([.counters, .latches, .ring, .log, .pcie, .ptus, .sent] : List Part), p ∈ PP) (hR : ∀ r ∈ ([.ALM_ACTIVE, .ALM_LATCH] : List Reg), r ∈ RR) :
    Only PP RR xx (Dev.eventOut d p t cp m c asker) := hh.andThen (only_eventOut d p t cp m c asker) hP hR
theorem only_messageOut (d : Dev) (p t : Nat) (m : PtpMsg) (asker : Option PtpMsg) : Only [.counters, .latches, .ring, .log, .pcie, .sent] [.ALM_ACTIVE, .ALM_LATCH] d (Dev.messageOut d p t m asker) := by
  unfold Dev.messageOut
  (try dsimp only)
  repeat' first
    | with_reducible exact Only.refl
    | with_reducible refine Only.emit ?_ _ (by decide)
    | with_reducible refine Only.countTx ?_ _ _ (by decide)
    | with_reducible refine Only.ptpLeaves ?_ _ _ (by decide) (by decide)
    | split
    | dsimp only
theorem Only.messageOut {PP : List Part} {RR : List Reg} {xx d : Dev} (hh : Only PP RR xx d) (p t : Nat) (m : PtpMsg) (asker : Option PtpMsg)
    (hP : ∀ p ∈ ([.counters, .latches, .ring, .log, .pcie, .sent] : List Part), p ∈ PP) (hR : ∀ r ∈ ([.ALM_ACTIVE, .ALM_LATCH] : List Reg), r ∈ RR) :
    Only PP RR xx (Dev.messageOut d p t m asker) := hh.andThen (only_messageOut d p t m asker) hP hR
theorem only_signalOut (d : Dev) (p : Nat) (m : PtpMsg) (target tlvs : List Byte) : Only [.counters, .latches, .ring, .log, .pcie, .sent] [.ALM_ACTIVE, .ALM_LATCH] d (Dev.signalOut d p m target tlvs) := by
  unfold Dev.signalOut
  (try dsimp only)
  repeat' first
    | with_reducible exact Only.refl
    | with_reducible refine Only.emit ?_ _ (by decide)
    | with_reducible refine Only.countTx ?_ _ _ (by decide)
    | with_reducible refine Only.ptpLeaves ?_ _ _ (by decide) (by decide)
    | split
    | dsimp only
theorem Only.signalOut {PP : List Part} {RR : List Reg} {xx d : Dev} (hh : Only PP RR xx d) (p : Nat) (m : PtpMsg) (target tlvs : List Byte)
    (hP : ∀ p ∈ ([.counters, .latches, .ring, .log, .pcie, .sent] : List Part), p ∈ PP) (hR : ∀ r ∈ ([.ALM_ACTIVE, .ALM_LATCH] : List Reg), r ∈ RR) :
    Only PP RR xx (Dev.signalOut d p m target tlvs) := hh.andThen (only_signalOut d p m target tlvs) hP hR
theorem only_syncIn (d : Dev) (p : Nat) (m : PtpMsg) (c : Capture) : Only [.cands, .counters, .latches, .ring, .log, .pcie, .ptus, .sent] [.ALM_ACTIVE, .ALM_LATCH, .PRT_PTU_STAT, .PRT_REV_STAT, .RSEL_CAND_STAT] d (Dev.syncIn d p m c) := by
  unfold Dev.syncIn
  (try dsimp only)
  repeat' first
    | with_reducible exact Only.refl
    | with_reducible refine Only.onPtu ?_ _ _ (by decide)
    | with_reducible refine Only.eventIn ?_ _ _ _ (by decide) (by decide)
    | with_reducible refine Only.judgePortCand ?_ _ (by decide) (by decide)
    | with_reducible refine Only.syncTheta ?_ _ _ _ _ _ (by decide) (by decide)
    | split
    | dsimp only
theorem Only.syncIn {PP : List Part} {RR : List Reg} {xx d : Dev} (hh : Only PP RR xx d) (p : Nat) (m : PtpMsg) (c : Capture)
    (hP : ∀ p ∈ ([.cands, .counters, .latches, .ring, .log, .pcie, .ptus, .sent] : List Part), p ∈ PP) (hR : ∀ r ∈ ([.ALM_ACTIVE, .ALM_LATCH, .PRT_PTU_STAT, .PRT_REV_STAT, .RSEL_CAND_STAT] : List Reg), r ∈ RR) :
    Only PP RR xx (Dev.syncIn d p m c) := hh.andThen (only_syncIn d p m c) hP hR
theorem only_followUpIn (d : Dev) (p : Nat) (m : PtpMsg) : Only [.cands, .counters, .latches, .ring, .log, .pcie, .ptus, .sent] [.ALM_ACTIVE, .ALM_LATCH, .PRT_PTU_STAT, .PRT_REV_STAT] d (Dev.followUpIn d p m) := by
  unfold Dev.followUpIn
  (try dsimp only)
  repeat' first
    | with_reducible exact Only.refl
    | with_reducible refine Only.onPtu ?_ _ _ (by decide)
    | with_reducible refine Only.countRx ?_ _ _ (by decide)
    | with_reducible refine Only.syncTheta ?_ _ _ _ _ _ (by decide) (by decide)
    | split
    | dsimp only
theorem Only.followUpIn {PP : List Part} {RR : List Reg} {xx d : Dev} (hh : Only PP RR xx d) (p : Nat) (m : PtpMsg)
    (hP : ∀ p ∈ ([.cands, .counters, .latches, .ring, .log, .pcie, .ptus, .sent] : List Part), p ∈ PP) (hR : ∀ r ∈ ([.ALM_ACTIVE, .ALM_LATCH, .PRT_PTU_STAT, .PRT_REV_STAT] : List Reg), r ∈ RR) :
    Only PP RR xx (Dev.followUpIn d p m) := hh.andThen (only_followUpIn d p m) hP hR
theorem only_announceIn (d : Dev) (p : Nat) (m : PtpMsg) (a : AnnounceData) : Only [.mir, .cands, .twin, .counters, .latches, .ring, .log, .pcie, .ptus, .sent] [.ALM_ACTIVE, .ALM_LATCH, .PRT_PTU_STAT, .RSEL_CAND_STAT, .SEQGEN_W0] d (Dev.announceIn d p m a) := by
  unfold Dev.announceIn
  (try dsimp only)
  repeat' first
    | with_reducible exact Only.refl
    | with_reducible refine Only.onPtu ?_ _ _ (by decide)
    | with_reducible refine Only.countRx ?_ _ _ (by decide)
    | with_reducible refine Only.judgePortCand ?_ _ (by decide) (by decide)
    | with_reducible refine Only.setPinLost ?_ _ _ (by decide) (by decide)
    | with_reducible refine Only.takeUtc ?_ _ (by decide) (by decide)
    | split
    | dsimp only
theorem Only.announceIn {PP : List Part} {RR : List Reg} {xx d : Dev} (hh : Only PP RR xx d) (p : Nat) (m : PtpMsg) (a : AnnounceData)
    (hP : ∀ p ∈ ([.mir, .cands, .twin, .counters, .latches, .ring, .log, .pcie, .ptus, .sent] : List Part), p ∈ PP) (hR : ∀ r ∈ ([.ALM_ACTIVE, .ALM_LATCH, .PRT_PTU_STAT, .RSEL_CAND_STAT, .SEQGEN_W0] : List Reg), r ∈ RR) :
    Only PP RR xx (Dev.announceIn d p m a) := hh.andThen (only_announceIn d p m a) hP hR
theorem only_delayRespIn (d : Dev) (p : Nat) (m : PtpMsg) : Only [.counters, .latches, .ring, .log, .pcie, .ptus, .sent] [.ALM_ACTIVE, .ALM_LATCH, .PRT_PTU_STAT, .PRT_REV_STAT] d (Dev.delayRespIn d p m) := by
  unfold Dev.delayRespIn
  (try dsimp only)
  repeat' first
    | with_reducible exact Only.refl
    | with_reducible refine Only.onPtu ?_ _ _ (by decide)
    | with_reducible refine Only.countRx ?_ _ _ (by decide)
    | with_reducible refine Only.addDelay ?_ _ _ (by decide) (by decide)
    | split
    | dsimp only
theorem Only.delayRespIn {PP : List Part} {RR : List Reg} {xx d : Dev} (hh : Only PP RR xx d) (p : Nat) (m : PtpMsg)
    (hP : ∀ p ∈ ([.counters, .latches, .ring, .log, .pcie, .ptus, .sent] : List Part), p ∈ PP) (hR : ∀ r ∈ ([.ALM_ACTIVE, .ALM_LATCH, .PRT_PTU_STAT, .PRT_REV_STAT] : List Reg), r ∈ RR) :
    Only PP RR xx (Dev.delayRespIn d p m) := hh.andThen (only_delayRespIn d p m) hP hR
theorem only_peerSample (d : Dev) (p : Nat) (t1 t4 : Ticks) (turn : Int) : Only [.counters, .latches, .ring, .log, .pcie, .ptus, .sent] [.ALM_ACTIVE, .ALM_LATCH, .PRT_PTU_STAT, .PRT_REV_STAT] d (Dev.peerSample d p t1 t4 turn) := by
  unfold Dev.peerSample
  (try dsimp only)
  repeat' first
    | with_reducible exact Only.refl
    | with_reducible refine Only.onPtu ?_ _ _ (by decide)
    | with_reducible refine Only.addDelay ?_ _ _ (by decide) (by decide)
    | split
    | dsimp only
theorem Only.peerSample {PP : List Part} {RR : List Reg} {xx d : Dev} (hh : Only PP RR xx d) (p : Nat) (t1 t4 : Ticks) (turn : Int)
    (hP : ∀ p ∈ ([.counters, .latches, .ring, .log, .pcie, .ptus, .sent] : List Part), p ∈ PP) (hR : ∀ r ∈ ([.ALM_ACTIVE, .ALM_LATCH, .PRT_PTU_STAT, .PRT_REV_STAT] : List Reg), r ∈ RR) :
    Only PP RR xx (Dev.peerSample d p t1 t4 turn) := hh.andThen (only_peerSample d p t1 t4 turn) hP hR
theorem only_peerRate (d : Dev) (p : Nat) (theirs ours : Int) : Only [.ptus] [] d (Dev.peerRate d p theirs ours) := by
  unfold Dev.peerRate
  (try dsimp only)
  repeat' first
    | with_reducible exact Only.refl
    | with_reducible refine Only.onPtu ?_ _ _ (by decide)
    | split
    | dsimp only
theorem Only.peerRate {PP : List Part} {RR : List Reg} {xx d : Dev} (hh : Only PP RR xx d) (p : Nat) (theirs ours : Int)
    (hP : ∀ p ∈ ([.ptus] : List Part), p ∈ PP) (hR : ∀ r ∈ ([] : List Reg), r ∈ RR) :
    Only PP RR xx (Dev.peerRate d p theirs ours) := hh.andThen (only_peerRate d p theirs ours) hP hR
theorem only_pdelayRespIn (d : Dev) (p : Nat) (r : PdelayReply) : Only [.counters, .latches, .ring, .log, .pcie, .ptus, .sent] [.ALM_ACTIVE, .ALM_LATCH, .PRT_PTU_STAT, .PRT_REV_STAT] d (Dev.pdelayRespIn d p r) := by
  unfold Dev.pdelayRespIn
  (try dsimp only)
  repeat' first
    | with_reducible exact Only.refl
    | with_reducible refine Only.onPtu ?_ _ _ (by decide)
    | with_reducible refine Only.countRx ?_ _ _ (by decide)
    | with_reducible refine Only.eventIn ?_ _ _ _ (by decide) (by decide)
    | with_reducible refine Only.peerRate ?_ _ _ _ (by decide) (by decide)
    | with_reducible refine Only.peerSample ?_ _ _ _ _ (by decide) (by decide)
    | split
    | dsimp only
theorem Only.pdelayRespIn {PP : List Part} {RR : List Reg} {xx d : Dev} (hh : Only PP RR xx d) (p : Nat) (r : PdelayReply)
    (hP : ∀ p ∈ ([.counters, .latches, .ring, .log, .pcie, .ptus, .sent] : List Part), p ∈ PP) (hR : ∀ r ∈ ([.ALM_ACTIVE, .ALM_LATCH, .PRT_PTU_STAT, .PRT_REV_STAT] : List Reg), r ∈ RR) :
    Only PP RR xx (Dev.pdelayRespIn d p r) := hh.andThen (only_pdelayRespIn d p r) hP hR
theorem only_ptpSend (d : Dev) (p : Nat) (x : PtpDue) : Only [.counters, .latches, .ring, .log, .pcie, .ptus, .sent, .freeCtr] [.ALM_ACTIVE, .ALM_LATCH] d (Dev.ptpSend d p x) := by
  unfold Dev.ptpSend
  (try dsimp only)
  repeat' first
    | with_reducible exact Only.refl
    | with_reducible refine Only.onPtu ?_ _ _ (by decide)
    | with_reducible refine Only.emit ?_ _ (by decide)
    | with_reducible refine Only.spendFree ?_ (by decide)
    | with_reducible refine Only.countTx ?_ _ _ (by decide)
    | with_reducible refine Only.eventOut ?_ _ _ _ _ _ _ (by decide) (by decide)
    | with_reducible refine Only.messageOut ?_ _ _ _ _ (by decide) (by decide)
    | with_reducible refine Only.ptpLeaves ?_ _ _ (by decide) (by decide)
    | with_reducible refine Only.signalOut ?_ _ _ _ _ (by decide) (by decide)
    | split
    | dsimp only
theorem Only.ptpSend {PP : List Part} {RR : List Reg} {xx d : Dev} (hh : Only PP RR xx d) (p : Nat) (x : PtpDue)
    (hP : ∀ p ∈ ([.counters, .latches, .ring, .log, .pcie, .ptus, .sent, .freeCtr] : List Part), p ∈ PP) (hR : ∀ r ∈ ([.ALM_ACTIVE, .ALM_LATCH] : List Reg), r ∈ RR) :
    Only PP RR xx (Dev.ptpSend d p x) := hh.andThen (only_ptpSend d p x) hP hR
theorem only_ptpDue (d : Dev) (p : Nat) (x : PtpDue) : Only [.syns, .outs, .counters, .latches, .ring, .log, .pcie, .sw, .ports, .ptus, .sys, .sent, .freeCtr] [.ALM_ACTIVE, .ALM_LATCH, .LANE_QUAD_STAT, .OUT_STAT, .PWR_STAT, .SW_BUF_GATED, .SYN_CMD, .SYN_STAT] d (Dev.ptpDue d p x) := by
  unfold Dev.ptpDue
  (try dsimp only)
  repeat' first
    | with_reducible exact Only.refl
    | with_reducible refine Only.onPtu ?_ _ _ (by decide)
    | with_reducible refine Only.judgeIdle ?_ _ (by decide) (by decide)
    | with_reducible refine Only.ptpSend ?_ _ _ (by decide) (by decide)
    | with_reducible refine Only.wakeTx ?_ _ (by decide) (by decide)
    | split
    | dsimp only
theorem Only.ptpDue {PP : List Part} {RR : List Reg} {xx d : Dev} (hh : Only PP RR xx d) (p : Nat) (x : PtpDue)
    (hP : ∀ p ∈ ([.syns, .outs, .counters, .latches, .ring, .log, .pcie, .sw, .ports, .ptus, .sys, .sent, .freeCtr] : List Part), p ∈ PP) (hR : ∀ r ∈ ([.ALM_ACTIVE, .ALM_LATCH, .LANE_QUAD_STAT, .OUT_STAT, .PWR_STAT, .SW_BUF_GATED, .SYN_CMD, .SYN_STAT] : List Reg), r ∈ RR) :
    Only PP RR xx (Dev.ptpDue d p x) := hh.andThen (only_ptpDue d p x) hP hR
theorem only_flushPtp (d : Dev) (p : Nat) : Only [.counters, .latches, .ring, .log, .pcie, .ports, .ptus, .sent, .freeCtr] [.ALM_ACTIVE, .ALM_LATCH] d (Dev.flushPtp d p) := by
  unfold Dev.flushPtp
  (try dsimp only)
  repeat' first
    | with_reducible exact Only.refl
    | with_reducible refine Only.onPtu ?_ _ _ (by decide)
    | with_reducible refine Only.judgeIdle ?_ _ (by decide) (by decide)
    | with_reducible refine Only.ptpSend ?_ _ _ (by decide) (by decide)
    | with_reducible refine Only.each ?_ _ _ (fun _ _ => ?_)
    | split
    | dsimp only
theorem Only.flushPtp {PP : List Part} {RR : List Reg} {xx d : Dev} (hh : Only PP RR xx d) (p : Nat)
    (hP : ∀ p ∈ ([.counters, .latches, .ring, .log, .pcie, .ports, .ptus, .sent, .freeCtr] : List Part), p ∈ PP) (hR : ∀ r ∈ ([.ALM_ACTIVE, .ALM_LATCH] : List Reg), r ∈ RR) :
    Only PP RR xx (Dev.flushPtp d p) := hh.andThen (only_flushPtp d p) hP hR
theorem only_syncOut (d : Dev) (p : Nat) (c : Capture) : Only [.syns, .outs, .counters, .latches, .ring, .log, .pcie, .sw, .ports, .ptus, .sys, .sent, .freeCtr] [.ALM_ACTIVE, .ALM_LATCH, .LANE_QUAD_STAT, .OUT_STAT, .PWR_STAT, .SW_BUF_GATED, .SYN_CMD, .SYN_STAT] d (Dev.syncOut d p c) := by
  unfold Dev.syncOut
  (try dsimp only)
  repeat' first
    | with_reducible exact Only.refl
    | with_reducible refine Only.ptpDue ?_ _ _ (by decide) (by decide)
    | split
    | dsimp only
theorem Only.syncOut {PP : List Part} {RR : List Reg} {xx d : Dev} (hh : Only PP RR xx d) (p : Nat) (c : Capture)
    (hP : ∀ p ∈ ([.syns, .outs, .counters, .latches, .ring, .log, .pcie, .sw, .ports, .ptus, .sys, .sent, .freeCtr] : List Part), p ∈ PP) (hR : ∀ r ∈ ([.ALM_ACTIVE, .ALM_LATCH, .LANE_QUAD_STAT, .OUT_STAT, .PWR_STAT, .SW_BUF_GATED, .SYN_CMD, .SYN_STAT] : List Reg), r ∈ RR) :
    Only PP RR xx (Dev.syncOut d p c) := hh.andThen (only_syncOut d p c) hP hR
theorem only_followUpOut (d : Dev) (p : Nat) : Only [.syns, .outs, .counters, .latches, .ring, .log, .pcie, .sw, .ports, .ptus, .sys, .sent, .freeCtr] [.ALM_ACTIVE, .ALM_LATCH, .LANE_QUAD_STAT, .OUT_STAT, .PWR_STAT, .SW_BUF_GATED, .SYN_CMD, .SYN_STAT] d (Dev.followUpOut d p) := by
  unfold Dev.followUpOut
  (try dsimp only)
  repeat' first
    | with_reducible exact Only.refl
    | with_reducible refine Only.ptpDue ?_ _ _ (by decide) (by decide)
    | split
    | dsimp only
theorem Only.followUpOut {PP : List Part} {RR : List Reg} {xx d : Dev} (hh : Only PP RR xx d) (p : Nat)
    (hP : ∀ p ∈ ([.syns, .outs, .counters, .latches, .ring, .log, .pcie, .sw, .ports, .ptus, .sys, .sent, .freeCtr] : List Part), p ∈ PP) (hR : ∀ r ∈ ([.ALM_ACTIVE, .ALM_LATCH, .LANE_QUAD_STAT, .OUT_STAT, .PWR_STAT, .SW_BUF_GATED, .SYN_CMD, .SYN_STAT] : List Reg), r ∈ RR) :
    Only PP RR xx (Dev.followUpOut d p) := hh.andThen (only_followUpOut d p) hP hR
theorem only_announceOut (d : Dev) (p : Nat) : Only [.syns, .outs, .counters, .latches, .ring, .log, .pcie, .sw, .ports, .ptus, .sys, .sent, .freeCtr] [.ALM_ACTIVE, .ALM_LATCH, .LANE_QUAD_STAT, .OUT_STAT, .PWR_STAT, .SW_BUF_GATED, .SYN_CMD, .SYN_STAT] d (Dev.announceOut d p) := by
  unfold Dev.announceOut
  (try dsimp only)
  repeat' first
    | with_reducible exact Only.refl
    | with_reducible refine Only.ptpDue ?_ _ _ (by decide) (by decide)
    | split
    | dsimp only
theorem Only.announceOut {PP : List Part} {RR : List Reg} {xx d : Dev} (hh : Only PP RR xx d) (p : Nat)
    (hP : ∀ p ∈ ([.syns, .outs, .counters, .latches, .ring, .log, .pcie, .sw, .ports, .ptus, .sys, .sent, .freeCtr] : List Part), p ∈ PP) (hR : ∀ r ∈ ([.ALM_ACTIVE, .ALM_LATCH, .LANE_QUAD_STAT, .OUT_STAT, .PWR_STAT, .SW_BUF_GATED, .SYN_CMD, .SYN_STAT] : List Reg), r ∈ RR) :
    Only PP RR xx (Dev.announceOut d p) := hh.andThen (only_announceOut d p) hP hR
theorem only_sendDelayReq (d : Dev) (p : Nat) (c : Capture) : Only [.syns, .outs, .counters, .latches, .ring, .log, .pcie, .sw, .ports, .ptus, .sys, .sent, .freeCtr] [.ALM_ACTIVE, .ALM_LATCH, .LANE_QUAD_STAT, .OUT_STAT, .PWR_STAT, .SW_BUF_GATED, .SYN_CMD, .SYN_STAT] d (Dev.sendDelayReq d p c) := by
  unfold Dev.sendDelayReq
  (try dsimp only)
  repeat' first
    | with_reducible exact Only.refl
    | with_reducible refine Only.ptpDue ?_ _ _ (by decide) (by decide)
    | split
    | dsimp only
theorem Only.sendDelayReq {PP : List Part} {RR : List Reg} {xx d : Dev} (hh : Only PP RR xx d) (p : Nat) (c : Capture)
    (hP : ∀ p ∈ ([.syns, .outs, .counters, .latches, .ring, .log, .pcie, .sw, .ports, .ptus, .sys, .sent, .freeCtr] : List Part), p ∈ PP) (hR : ∀ r ∈ ([.ALM_ACTIVE, .ALM_LATCH, .LANE_QUAD_STAT, .OUT_STAT, .PWR_STAT, .SW_BUF_GATED, .SYN_CMD, .SYN_STAT] : List Reg), r ∈ RR) :
    Only PP RR xx (Dev.sendDelayReq d p c) := hh.andThen (only_sendDelayReq d p c) hP hR
theorem only_delayReqIn (d : Dev) (p : Nat) (m : PtpMsg) (c : Capture) : Only [.syns, .outs, .counters, .latches, .ring, .log, .pcie, .sw, .ports, .ptus, .sys, .sent, .freeCtr] [.ALM_ACTIVE, .ALM_LATCH, .LANE_QUAD_STAT, .OUT_STAT, .PWR_STAT, .SW_BUF_GATED, .SYN_CMD, .SYN_STAT] d (Dev.delayReqIn d p m c) := by
  unfold Dev.delayReqIn
  (try dsimp only)
  repeat' first
    | with_reducible exact Only.refl
    | with_reducible refine Only.eventIn ?_ _ _ _ (by decide) (by decide)
    | with_reducible refine Only.ptpDue ?_ _ _ (by decide) (by decide)
    | split
    | dsimp only
theorem Only.delayReqIn {PP : List Part} {RR : List Reg} {xx d : Dev} (hh : Only PP RR xx d) (p : Nat) (m : PtpMsg) (c : Capture)
    (hP : ∀ p ∈ ([.syns, .outs, .counters, .latches, .ring, .log, .pcie, .sw, .ports, .ptus, .sys, .sent, .freeCtr] : List Part), p ∈ PP) (hR : ∀ r ∈ ([.ALM_ACTIVE, .ALM_LATCH, .LANE_QUAD_STAT, .OUT_STAT, .PWR_STAT, .SW_BUF_GATED, .SYN_CMD, .SYN_STAT] : List Reg), r ∈ RR) :
    Only PP RR xx (Dev.delayReqIn d p m c) := hh.andThen (only_delayReqIn d p m c) hP hR
theorem only_pdelayReqIn (d : Dev) (p : Nat) (m : PtpMsg) (c ct : Capture) : Only [.syns, .outs, .counters, .latches, .ring, .log, .pcie, .sw, .ports, .ptus, .sys, .sent, .freeCtr] [.ALM_ACTIVE, .ALM_LATCH, .LANE_QUAD_STAT, .OUT_STAT, .PWR_STAT, .SW_BUF_GATED, .SYN_CMD, .SYN_STAT] d (Dev.pdelayReqIn d p m c ct) := by
  unfold Dev.pdelayReqIn
  (try dsimp only)
  repeat' first
    | with_reducible exact Only.refl
    | with_reducible refine Only.eventIn ?_ _ _ _ (by decide) (by decide)
    | with_reducible refine Only.ptpDue ?_ _ _ (by decide) (by decide)
    | split
    | dsimp only
theorem Only.pdelayReqIn {PP : List Part} {RR : List Reg} {xx d : Dev} (hh : Only PP RR xx d) (p : Nat) (m : PtpMsg) (c ct : Capture)
    (hP : ∀ p ∈ ([.syns, .outs, .counters, .latches, .ring, .log, .pcie, .sw, .ports, .ptus, .sys, .sent, .freeCtr] : List Part), p ∈ PP) (hR : ∀ r ∈ ([.ALM_ACTIVE, .ALM_LATCH, .LANE_QUAD_STAT, .OUT_STAT, .PWR_STAT, .SW_BUF_GATED, .SYN_CMD, .SYN_STAT] : List Reg), r ∈ RR) :
    Only PP RR xx (Dev.pdelayReqIn d p m c ct) := hh.andThen (only_pdelayReqIn d p m c ct) hP hR
theorem only_delayReqOut (d : Dev) (p : Nat) (c : Capture) : Only [.syns, .outs, .counters, .latches, .ring, .log, .pcie, .sw, .ports, .ptus, .sys, .sent, .freeCtr] [.ALM_ACTIVE, .ALM_LATCH, .LANE_QUAD_STAT, .OUT_STAT, .PWR_STAT, .SW_BUF_GATED, .SYN_CMD, .SYN_STAT] d (Dev.delayReqOut d p c) := by
  unfold Dev.delayReqOut
  (try dsimp only)
  repeat' first
    | with_reducible exact Only.refl
    | with_reducible refine Only.sendDelayReq ?_ _ _ (by decide) (by decide)
    | split
    | dsimp only
theorem Only.delayReqOut {PP : List Part} {RR : List Reg} {xx d : Dev} (hh : Only PP RR xx d) (p : Nat) (c : Capture)
    (hP : ∀ p ∈ ([.syns, .outs, .counters, .latches, .ring, .log, .pcie, .sw, .ports, .ptus, .sys, .sent, .freeCtr] : List Part), p ∈ PP) (hR : ∀ r ∈ ([.ALM_ACTIVE, .ALM_LATCH, .LANE_QUAD_STAT, .OUT_STAT, .PWR_STAT, .SW_BUF_GATED, .SYN_CMD, .SYN_STAT] : List Reg), r ∈ RR) :
    Only PP RR xx (Dev.delayReqOut d p c) := hh.andThen (only_delayReqOut d p c) hP hR
theorem only_delayRefresh (d : Dev) (p : Nat) (c : Capture) : Only [.syns, .outs, .counters, .latches, .ring, .log, .pcie, .sw, .ports, .ptus, .sys, .sent, .freeCtr] [.ALM_ACTIVE, .ALM_LATCH, .LANE_QUAD_STAT, .OUT_STAT, .PWR_STAT, .SW_BUF_GATED, .SYN_CMD, .SYN_STAT] d (Dev.delayRefresh d p c) := by
  unfold Dev.delayRefresh
  (try dsimp only)
  repeat' first
    | with_reducible exact Only.refl
    | with_reducible refine Only.portEvent ?_ _ _ _ _ (by decide)
    | with_reducible refine Only.sendDelayReq ?_ _ _ (by decide) (by decide)
    | split
    | dsimp only
theorem Only.delayRefresh {PP : List Part} {RR : List Reg} {xx d : Dev} (hh : Only PP RR xx d) (p : Nat) (c : Capture)
    (hP : ∀ p ∈ ([.syns, .outs, .counters, .latches, .ring, .log, .pcie, .sw, .ports, .ptus, .sys, .sent, .freeCtr] : List Part), p ∈ PP) (hR : ∀ r ∈ ([.ALM_ACTIVE, .ALM_LATCH, .LANE_QUAD_STAT, .OUT_STAT, .PWR_STAT, .SW_BUF_GATED, .SYN_CMD, .SYN_STAT] : List Reg), r ∈ RR) :
    Only PP RR xx (Dev.delayRefresh d p c) := hh.andThen (only_delayRefresh d p c) hP hR
theorem only_receiptTimeout (d : Dev) (p : Nat) (k : ReceiptKind) : Only [.cands, .chans, .cpMail, .counters, .latches, .ring, .log, .pcie, .ptus, .sys, .sent, .freeCtr] [.ALM_ACTIVE, .ALM_LATCH, .PRT_PTU_STAT, .PRT_REV_STAT, .PWR_STAT, .RSEL_CAND_STAT] d (Dev.receiptTimeout d p k) := by
  unfold Dev.receiptTimeout
  (try dsimp only)
  repeat' first
    | with_reducible exact Only.refl
    | with_reducible refine Only.onPtu ?_ _ _ (by decide)
    | with_reducible refine Only.judgePortCand ?_ _ (by decide) (by decide)
    | with_reducible refine Only.setPinLost ?_ _ _ (by decide) (by decide)
    | with_reducible refine Only.setPtpState ?_ _ _ (by decide) (by decide)
    | with_reducible refine Only.when ?_ _ _ ?_
    | split
    | dsimp only
theorem Only.receiptTimeout {PP : List Part} {RR : List Reg} {xx d : Dev} (hh : Only PP RR xx d) (p : Nat) (k : ReceiptKind)
    (hP : ∀ p ∈ ([.cands, .chans, .cpMail, .counters, .latches, .ring, .log, .pcie, .ptus, .sys, .sent, .freeCtr] : List Part), p ∈ PP) (hR : ∀ r ∈ ([.ALM_ACTIVE, .ALM_LATCH, .PRT_PTU_STAT, .PRT_REV_STAT, .PWR_STAT, .RSEL_CAND_STAT] : List Reg), r ∈ RR) :
    Only PP RR xx (Dev.receiptTimeout d p k) := hh.andThen (only_receiptTimeout d p k) hP hR
theorem only_towardsMaster (d : Dev) (p : Nat) : Only [.cands, .chans, .cpMail, .counters, .latches, .ring, .log, .pcie, .ptus, .sys, .sent, .freeCtr] [.ALM_ACTIVE, .ALM_LATCH, .PRT_PTU_STAT, .PRT_REV_STAT, .PWR_STAT, .RSEL_CAND_STAT] d (Dev.towardsMaster d p) := by
  unfold Dev.towardsMaster
  (try dsimp only)
  repeat' first
    | with_reducible exact Only.refl
    | with_reducible refine Only.setPtpState ?_ _ _ (by decide) (by decide)
    | split
    | dsimp only
theorem Only.towardsMaster {PP : List Part} {RR : List Reg} {xx d : Dev} (hh : Only PP RR xx d) (p : Nat)
    (hP : ∀ p ∈ ([.cands, .chans, .cpMail, .counters, .latches, .ring, .log, .pcie, .ptus, .sys, .sent, .freeCtr] : List Part), p ∈ PP) (hR : ∀ r ∈ ([.ALM_ACTIVE, .ALM_LATCH, .PRT_PTU_STAT, .PRT_REV_STAT, .PWR_STAT, .RSEL_CAND_STAT] : List Reg), r ∈ RR) :
    Only PP RR xx (Dev.towardsMaster d p) := hh.andThen (only_towardsMaster d p) hP hR
theorem only_towardsSlave (d : Dev) (p : Nat) : Only [.cands, .chans, .cpMail, .counters, .latches, .ring, .log, .pcie, .ptus, .sys, .sent, .freeCtr] [.ALM_ACTIVE, .ALM_LATCH, .PRT_PTU_STAT, .PRT_REV_STAT, .PWR_STAT, .RSEL_CAND_STAT] d (Dev.towardsSlave d p) := by
  unfold Dev.towardsSlave
  (try dsimp only)
  repeat' first
    | with_reducible exact Only.refl
    | with_reducible refine Only.setPtpState ?_ _ _ (by decide) (by decide)
    | split
    | dsimp only
theorem Only.towardsSlave {PP : List Part} {RR : List Reg} {xx d : Dev} (hh : Only PP RR xx d) (p : Nat)
    (hP : ∀ p ∈ ([.cands, .chans, .cpMail, .counters, .latches, .ring, .log, .pcie, .ptus, .sys, .sent, .freeCtr] : List Part), p ∈ PP) (hR : ∀ r ∈ ([.ALM_ACTIVE, .ALM_LATCH, .PRT_PTU_STAT, .PRT_REV_STAT, .PWR_STAT, .RSEL_CAND_STAT] : List Reg), r ∈ RR) :
    Only PP RR xx (Dev.towardsSlave d p) := hh.andThen (only_towardsSlave d p) hP hR
theorem only_decidePort (d : Dev) (p : Nat) (best : Option Nat) : Only [.cands, .chans, .cpMail, .counters, .latches, .ring, .log, .pcie, .ptus, .sys, .sent, .freeCtr] [.ALM_ACTIVE, .ALM_LATCH, .PRT_PTU_STAT, .PRT_REV_STAT, .PWR_STAT, .RSEL_CAND_STAT] d (Dev.decidePort d p best) := by
  unfold Dev.decidePort
  (try dsimp only)
  repeat' first
    | with_reducible exact Only.refl
    | with_reducible refine Only.setPtpState ?_ _ _ (by decide) (by decide)
    | with_reducible refine Only.towardsMaster ?_ _ (by decide) (by decide)
    | with_reducible refine Only.towardsSlave ?_ _ (by decide) (by decide)
    | split
    | dsimp only
theorem Only.decidePort {PP : List Part} {RR : List Reg} {xx d : Dev} (hh : Only PP RR xx d) (p : Nat) (best : Option Nat)
    (hP : ∀ p ∈ ([.cands, .chans, .cpMail, .counters, .latches, .ring, .log, .pcie, .ptus, .sys, .sent, .freeCtr] : List Part), p ∈ PP) (hR : ∀ r ∈ ([.ALM_ACTIVE, .ALM_LATCH, .PRT_PTU_STAT, .PRT_REV_STAT, .PWR_STAT, .RSEL_CAND_STAT] : List Reg), r ∈ RR) :
    Only PP RR xx (Dev.decidePort d p best) := hh.andThen (only_decidePort d p best) hP hR
theorem only_signalDue (d : Dev) (p : Nat) : Only [.syns, .outs, .counters, .latches, .ring, .log, .pcie, .sw, .ports, .ptus, .sys, .sent, .freeCtr] [.ALM_ACTIVE, .ALM_LATCH, .LANE_QUAD_STAT, .OUT_STAT, .PWR_STAT, .SW_BUF_GATED, .SYN_CMD, .SYN_STAT] d (Dev.signalDue d p) := by
  unfold Dev.signalDue
  (try dsimp only)
  repeat' first
    | with_reducible exact Only.refl
    | with_reducible refine Only.ptpDue ?_ _ _ (by decide) (by decide)
    | split
    | dsimp only
theorem Only.signalDue {PP : List Part} {RR : List Reg} {xx d : Dev} (hh : Only PP RR xx d) (p : Nat)
    (hP : ∀ p ∈ ([.syns, .outs, .counters, .latches, .ring, .log, .pcie, .sw, .ports, .ptus, .sys, .sent, .freeCtr] : List Part), p ∈ PP) (hR : ∀ r ∈ ([.ALM_ACTIVE, .ALM_LATCH, .LANE_QUAD_STAT, .OUT_STAT, .PWR_STAT, .SW_BUF_GATED, .SYN_CMD, .SYN_STAT] : List Reg), r ∈ RR) :
    Only PP RR xx (Dev.signalDue d p) := hh.andThen (only_signalDue d p) hP hR
theorem only_bmca (d : Dev) (i : Nat) : Only [.cands, .syns, .outs, .chans, .cpMail, .counters, .latches, .ring, .log, .pcie, .sw, .ports, .ptus, .sys, .sent, .freeCtr] [.ALM_ACTIVE, .ALM_LATCH, .LANE_QUAD_STAT, .OUT_STAT, .PRT_PTU_STAT, .PRT_REV_STAT, .PWR_STAT, .RSEL_CAND_STAT, .SW_BUF_GATED, .SYN_CMD, .SYN_STAT] d (Dev.bmca d i) := by
  unfold Dev.bmca
  (try dsimp only)
  repeat' first
    | with_reducible exact Only.refl
    | with_reducible refine Only.decidePort ?_ _ _ (by decide) (by decide)
    | with_reducible refine Only.signalDue ?_ _ (by decide) (by decide)
    | with_reducible refine Only.each ?_ _ _ (fun _ _ => ?_)
    | split
    | dsimp only
theorem Only.bmca {PP : List Part} {RR : List Reg} {xx d : Dev} (hh : Only PP RR xx d) (i : Nat)
    (hP : ∀ p ∈ ([.cands, .syns, .outs, .chans, .cpMail, .counters, .latches, .ring, .log, .pcie, .sw, .ports, .ptus, .sys, .sent, .freeCtr] : List Part), p ∈ PP) (hR : ∀ r ∈ ([.ALM_ACTIVE, .ALM_LATCH, .LANE_QUAD_STAT, .OUT_STAT, .PRT_PTU_STAT, .PRT_REV_STAT, .PWR_STAT, .RSEL_CAND_STAT, .SW_BUF_GATED, .SYN_CMD, .SYN_STAT] : List Reg), r ∈ RR) :
    Only PP RR xx (Dev.bmca d i) := hh.andThen (only_bmca d i) hP hR
theorem only_resetRates (d : Dev) (p : Nat) : Only [] [.PRT_PTP_RATE] d (Dev.resetRates d p) := by
  unfold Dev.resetRates
  (try dsimp only)
  repeat' first
    | with_reducible exact Only.refl
    | with_reducible refine Only.set ?_ _ _ _ (by decide)
    | split
    | dsimp only
theorem Only.resetRates {PP : List Part} {RR : List Reg} {xx d : Dev} (hh : Only PP RR xx d) (p : Nat)
    (hP : ∀ p ∈ ([] : List Part), p ∈ PP) (hR : ∀ r ∈ ([.PRT_PTP_RATE] : List Reg), r ∈ RR) :
    Only PP RR xx (Dev.resetRates d p) := hh.andThen (only_resetRates d p) hP hR
theorem only_writePtpRate (d : Dev) (p : Nat) (v : Word) : Only [] [.PRT_PTP_RATE] d (Dev.writePtpRate d p v) := by
  unfold Dev.writePtpRate
  (try dsimp only)
  repeat' first
    | with_reducible exact Only.refl
    | with_reducible refine Only.set ?_ _ _ _ (by decide)
    | with_reducible refine Only.store ?_ _ _ _ (by decide)
    | split
    | dsimp only
theorem Only.writePtpRate {PP : List Part} {RR : List Reg} {xx d : Dev} (hh : Only PP RR xx d) (p : Nat) (v : Word)
    (hP : ∀ p ∈ ([] : List Part), p ∈ PP) (hR : ∀ r ∈ ([.PRT_PTP_RATE] : List Reg), r ∈ RR) :
    Only PP RR xx (Dev.writePtpRate d p v) := hh.andThen (only_writePtpRate d p v) hP hR
theorem only_enterInst (d : Dev) (p : Nat) : Only [.cands, .syns, .outs, .chans, .cpMail, .counters, .latches, .ring, .log, .pcie, .sw, .ports, .ptus, .sys, .sent, .freeCtr] [.ALM_ACTIVE, .ALM_LATCH, .LANE_QUAD_STAT, .OUT_STAT, .PRT_PTU_STAT, .PRT_REV_STAT, .PWR_PORT_STAT, .PWR_STAT, .RSEL_CAND_STAT, .SW_BUF_GATED, .SYN_CMD, .SYN_STAT] d (Dev.enterInst d p) := by
  unfold Dev.enterInst
  (try dsimp only)
  repeat' first
    | with_reducible exact Only.refl
    | with_reducible refine Only.judgeSleep ?_ _ (by decide) (by decide)
    | with_reducible refine Only.setPtpState ?_ _ _ (by decide) (by decide)
    | split
    | dsimp only
theorem Only.enterInst {PP : List Part} {RR : List Reg} {xx d : Dev} (hh : Only PP RR xx d) (p : Nat)
    (hP : ∀ p ∈ ([.cands, .syns, .outs, .chans, .cpMail, .counters, .latches, .ring, .log, .pcie, .sw, .ports, .ptus, .sys, .sent, .freeCtr] : List Part), p ∈ PP) (hR : ∀ r ∈ ([.ALM_ACTIVE, .ALM_LATCH, .LANE_QUAD_STAT, .OUT_STAT, .PRT_PTU_STAT, .PRT_REV_STAT, .PWR_PORT_STAT, .PWR_STAT, .RSEL_CAND_STAT, .SW_BUF_GATED, .SYN_CMD, .SYN_STAT] : List Reg), r ∈ RR) :
    Only PP RR xx (Dev.enterInst d p) := hh.andThen (only_enterInst d p) hP hR
theorem only_writePtpCfg (d : Dev) (p : Nat) (v : Word) : Only [.cands, .syns, .outs, .chans, .cpMail, .counters, .latches, .ring, .log, .pcie, .sw, .ports, .ptus, .sys, .sent, .freeCtr] [.ALM_ACTIVE, .ALM_LATCH, .LANE_QUAD_STAT, .OUT_STAT, .PRT_PTP_CFG, .PRT_PTP_RATE, .PRT_PTU_STAT, .PRT_REV_STAT, .PWR_PORT_STAT, .PWR_STAT, .RSEL_CAND_STAT, .SW_BUF_GATED, .SYN_CMD, .SYN_STAT] d (Dev.writePtpCfg d p v) := by
  unfold Dev.writePtpCfg
  (try dsimp only)
  repeat' first
    | with_reducible exact Only.refl
    | with_reducible refine Only.set ?_ _ _ _ (by decide)
    | with_reducible refine Only.store ?_ _ _ _ (by decide)
    | with_reducible refine Only.disqualify ?_ _ _ (by decide) (by decide)
    | with_reducible refine Only.enterInst ?_ _ (by decide) (by decide)
    | with_reducible refine Only.ptpBegin ?_ _ (by decide) (by decide)
    | with_reducible refine Only.resetRates ?_ _ (by decide) (by decide)
    | with_reducible refine Only.restartDelay ?_ _ (by decide) (by decide)
    | with_reducible refine Only.setPinLost ?_ _ _ (by decide) (by decide)
    | with_reducible refine Only.when ?_ _ _ ?_
    | split
    | dsimp only
theorem Only.writePtpCfg {PP : List Part} {RR : List Reg} {xx d : Dev} (hh : Only PP RR xx d) (p : Nat) (v : Word)
    (hP : ∀ p ∈ ([.cands, .syns, .outs, .chans, .cpMail, .counters, .latches, .ring, .log, .pcie, .sw, .ports, .ptus, .sys, .sent, .freeCtr] : List Part), p ∈ PP) (hR : ∀ r ∈ ([.ALM_ACTIVE, .ALM_LATCH, .LANE_QUAD_STAT, .OUT_STAT, .PRT_PTP_CFG, .PRT_PTP_RATE, .PRT_PTU_STAT, .PRT_REV_STAT, .PWR_PORT_STAT, .PWR_STAT, .RSEL_CAND_STAT, .SW_BUF_GATED, .SYN_CMD, .SYN_STAT] : List Reg), r ∈ RR) :
    Only PP RR xx (Dev.writePtpCfg d p v) := hh.andThen (only_writePtpCfg d p v) hP hR
theorem only_revResult (d : Dev) (p r : Nat) : Only [] [.PRT_REV_CMD] d (Dev.revResult d p r) := by
  unfold Dev.revResult
  (try dsimp only)
  repeat' first
    | with_reducible exact Only.refl
    | with_reducible refine Only.set ?_ _ _ _ (by decide)
    | split
    | dsimp only
theorem Only.revResult {PP : List Part} {RR : List Reg} {xx d : Dev} (hh : Only PP RR xx d) (p r : Nat)
    (hP : ∀ p ∈ ([] : List Part), p ∈ PP) (hR : ∀ r ∈ ([.PRT_REV_CMD] : List Reg), r ∈ RR) :
    Only PP RR xx (Dev.revResult d p r) := hh.andThen (only_revResult d p r) hP hR
theorem only_revBegin (d : Dev) (p : Nat) (v : Word) : Only [.ptus] [.PRT_REV_CMD, .PRT_REV_STAT] d (Dev.revBegin d p v) := by
  unfold Dev.revBegin
  (try dsimp only)
  repeat' first
    | with_reducible exact Only.refl
    | with_reducible refine Only.set ?_ _ _ _ (by decide)
    | with_reducible refine Only.onPtu ?_ _ _ (by decide)
    | with_reducible refine Only.revResult ?_ _ _ (by decide) (by decide)
    | with_reducible refine Only.setRev ?_ _ _ (by decide) (by decide)
    | split
    | dsimp only
theorem Only.revBegin {PP : List Part} {RR : List Reg} {xx d : Dev} (hh : Only PP RR xx d) (p : Nat) (v : Word)
    (hP : ∀ p ∈ ([.ptus] : List Part), p ∈ PP) (hR : ∀ r ∈ ([.PRT_REV_CMD, .PRT_REV_STAT] : List Reg), r ∈ RR) :
    Only PP RR xx (Dev.revBegin d p v) := hh.andThen (only_revBegin d p v) hP hR
theorem only_revDone (d : Dev) (p : Nat) : Only [.ptus] [.PRT_REV_RESULT, .PRT_REV_STAT] d (Dev.revDone d p) := by
  unfold Dev.revDone
  (try dsimp only)
  repeat' first
    | with_reducible exact Only.refl
    | with_reducible refine Only.set ?_ _ _ _ (by decide)
    | with_reducible refine Only.setRev ?_ _ _ (by decide) (by decide)
    | split
    | dsimp only
theorem Only.revDone {PP : List Part} {RR : List Reg} {xx d : Dev} (hh : Only PP RR xx d) (p : Nat)
    (hP : ∀ p ∈ ([.ptus] : List Part), p ∈ PP) (hR : ∀ r ∈ ([.PRT_REV_RESULT, .PRT_REV_STAT] : List Reg), r ∈ RR) :
    Only PP RR xx (Dev.revDone d p) := hh.andThen (only_revDone d p) hP hR
theorem only_revMeasured (d : Dev) (p : Nat) : Only [.ptus] [.PRT_REV_RESULT, .PRT_REV_STAT] d (Dev.revMeasured d p) := by
  unfold Dev.revMeasured
  (try dsimp only)
  repeat' first
    | with_reducible exact Only.refl
    | with_reducible refine Only.onPtu ?_ _ _ (by decide)
    | with_reducible refine Only.revDone ?_ _ (by decide) (by decide)
    | with_reducible refine Only.setRev ?_ _ _ (by decide) (by decide)
    | split
    | dsimp only
theorem Only.revMeasured {PP : List Part} {RR : List Reg} {xx d : Dev} (hh : Only PP RR xx d) (p : Nat)
    (hP : ∀ p ∈ ([.ptus] : List Part), p ∈ PP) (hR : ∀ r ∈ ([.PRT_REV_RESULT, .PRT_REV_STAT] : List Reg), r ∈ RR) :
    Only PP RR xx (Dev.revMeasured d p) := hh.andThen (only_revMeasured d p) hP hR
theorem only_revTimeout (d : Dev) (p : Nat) : Only [.ptus] [.PRT_REV_RESULT, .PRT_REV_STAT] d (Dev.revTimeout d p) := by
  unfold Dev.revTimeout
  (try dsimp only)
  repeat' first
    | with_reducible exact Only.refl
    | with_reducible refine Only.revDone ?_ _ (by decide) (by decide)
    | with_reducible refine Only.revFail ?_ _ _ (by decide) (by decide)
    | split
    | dsimp only
theorem Only.revTimeout {PP : List Part} {RR : List Reg} {xx d : Dev} (hh : Only PP RR xx d) (p : Nat)
    (hP : ∀ p ∈ ([.ptus] : List Part), p ∈ PP) (hR : ∀ r ∈ ([.PRT_REV_RESULT, .PRT_REV_STAT] : List Reg), r ∈ RR) :
    Only PP RR xx (Dev.revTimeout d p) := hh.andThen (only_revTimeout d p) hP hR
theorem only_revFinish (d : Dev) (p : Nat) : Only [.ptus] [.PRT_REV_CMD, .PRT_REV_RESULT, .PRT_REV_STAT] d (Dev.revFinish d p) := by
  unfold Dev.revFinish
  (try dsimp only)
  repeat' first
    | with_reducible exact Only.refl
    | with_reducible refine Only.revDone ?_ _ (by decide) (by decide)
    | with_reducible refine Only.revResult ?_ _ _ (by decide) (by decide)
    | split
    | dsimp only
theorem Only.revFinish {PP : List Part} {RR : List Reg} {xx d : Dev} (hh : Only PP RR xx d) (p : Nat)
    (hP : ∀ p ∈ ([.ptus] : List Part), p ∈ PP) (hR : ∀ r ∈ ([.PRT_REV_CMD, .PRT_REV_RESULT, .PRT_REV_STAT] : List Reg), r ∈ RR) :
    Only PP RR xx (Dev.revFinish d p) := hh.andThen (only_revFinish d p) hP hR
theorem only_revApply (d : Dev) (p : Nat) : Only [] [.PRT_ASYM_DREF, .PRT_ASYM_REF, .PRT_REV_CMD] d (Dev.revApply d p) := by
  unfold Dev.revApply
  (try dsimp only)
  repeat' first
    | with_reducible exact Only.refl
    | with_reducible refine Only.set ?_ _ _ _ (by decide)
    | with_reducible refine Only.revResult ?_ _ _ (by decide) (by decide)
    | split
    | dsimp only
theorem Only.revApply {PP : List Part} {RR : List Reg} {xx d : Dev} (hh : Only PP RR xx d) (p : Nat)
    (hP : ∀ p ∈ ([] : List Part), p ∈ PP) (hR : ∀ r ∈ ([.PRT_ASYM_DREF, .PRT_ASYM_REF, .PRT_REV_CMD] : List Reg), r ∈ RR) :
    Only PP RR xx (Dev.revApply d p) := hh.andThen (only_revApply d p) hP hR
theorem only_revAbort (d : Dev) (p : Nat) : Only [.ptus] [.PRT_REV_CMD, .PRT_REV_STAT] d (Dev.revAbort d p) := by
  unfold Dev.revAbort
  (try dsimp only)
  repeat' first
    | with_reducible exact Only.refl
    | with_reducible refine Only.revFail ?_ _ _ (by decide) (by decide)
    | with_reducible refine Only.revResult ?_ _ _ (by decide) (by decide)
    | split
    | dsimp only
theorem Only.revAbort {PP : List Part} {RR : List Reg} {xx d : Dev} (hh : Only PP RR xx d) (p : Nat)
    (hP : ∀ p ∈ ([.ptus] : List Part), p ∈ PP) (hR : ∀ r ∈ ([.PRT_REV_CMD, .PRT_REV_STAT] : List Reg), r ∈ RR) :
    Only PP RR xx (Dev.revAbort d p) := hh.andThen (only_revAbort d p) hP hR
theorem only_takeTlv (d : Dev) (p : Nat) (t : Nat × List Byte) : Only [.ptus] [] d (Dev.takeTlv d p t) := by
  unfold Dev.takeTlv
  (try dsimp only)
  repeat' first
    | with_reducible exact Only.refl
    | with_reducible refine Only.onPtu ?_ _ _ (by decide)
    | split
    | dsimp only
theorem Only.takeTlv {PP : List Part} {RR : List Reg} {xx d : Dev} (hh : Only PP RR xx d) (p : Nat) (t : Nat × List Byte)
    (hP : ∀ p ∈ ([.ptus] : List Part), p ∈ PP) (hR : ∀ r ∈ ([] : List Reg), r ∈ RR) :
    Only PP RR xx (Dev.takeTlv d p t) := hh.andThen (only_takeTlv d p t) hP hR
theorem only_signalingIn (d : Dev) (p : Nat) (m : PtpMsg) (tlvs : List Byte) : Only [.syns, .outs, .counters, .latches, .ring, .log, .pcie, .sw, .ports, .ptus, .sys, .sent, .freeCtr] [.ALM_ACTIVE, .ALM_LATCH, .LANE_QUAD_STAT, .OUT_STAT, .PWR_STAT, .SW_BUF_GATED, .SYN_CMD, .SYN_STAT] d (Dev.signalingIn d p m tlvs) := by
  unfold Dev.signalingIn
  (try dsimp only)
  repeat' first
    | with_reducible exact Only.refl
    | with_reducible refine Only.countRx ?_ _ _ (by decide)
    | with_reducible refine Only.ptpDue ?_ _ _ (by decide) (by decide)
    | with_reducible refine Only.takeTlv ?_ _ _ (by decide) (by decide)
    | with_reducible refine Only.each ?_ _ _ (fun _ _ => ?_)
    | split
    | dsimp only
theorem Only.signalingIn {PP : List Part} {RR : List Reg} {xx d : Dev} (hh : Only PP RR xx d) (p : Nat) (m : PtpMsg) (tlvs : List Byte)
    (hP : ∀ p ∈ ([.syns, .outs, .counters, .latches, .ring, .log, .pcie, .sw, .ports, .ptus, .sys, .sent, .freeCtr] : List Part), p ∈ PP) (hR : ∀ r ∈ ([.ALM_ACTIVE, .ALM_LATCH, .LANE_QUAD_STAT, .OUT_STAT, .PWR_STAT, .SW_BUF_GATED, .SYN_CMD, .SYN_STAT] : List Reg), r ∈ RR) :
    Only PP RR xx (Dev.signalingIn d p m tlvs) := hh.andThen (only_signalingIn d p m tlvs) hP hR
theorem Only.cpTakes (h : Only P R d e) (p : Nat) (f : Dev → Dev) (hs : .sys ∈ P) (hr : .PWR_STAT ∈ R)
    (hf : ∀ x, Only P R d x → Only P R d (f x)) : Only P R d (e.cpTakes p f) := by
  unfold Dev.cpTakes Dev.whileCp
  split
  · exact h
  · exact hf _ (h.when _ _ (Only.wakeCores .refl (fun q hq => by simp only [List.mem_singleton] at hq; exact hq ▸ hs)
      (fun q hq => by simp only [List.mem_singleton] at hq; exact hq ▸ hr)))

/-! ## Mgmt -/

theorem only_mgmtSet (d : Dev) (i p id : Nat) (data : List Byte) : Only [.cands, .syns, .outs, .chans, .cpMail, .counters, .latches, .ring, .log, .pcie, .sw, .ports, .ptus, .insts, .sys, .sent, .freeCtr] [.ALM_ACTIVE, .ALM_LATCH, .LANE_QUAD_STAT, .OUT_STAT, .PRT_PTP_CFG, .PRT_PTP_RATE, .PRT_PTU_STAT, .PRT_REV_STAT, .PWR_PORT_STAT, .PWR_STAT, .RSEL_CAND_STAT, .SW_BUF_GATED, .SYN_CMD, .SYN_STAT] d (Dev.mgmtSet d i p id data) := by
  unfold Dev.mgmtSet
  (try dsimp only)
  repeat' first
    | with_reducible exact Only.refl
    | with_reducible refine Only.onInst ?_ _ _ (by decide)
    | with_reducible refine Only.writePtpCfg ?_ _ _ (by decide) (by decide)
    | with_reducible refine Only.writePtpRate ?_ _ _ (by decide) (by decide)
    | split
    | dsimp only
theorem Only.mgmtSet {PP : List Part} {RR : List Reg} {xx d : Dev} (hh : Only PP RR xx d) (i p id : Nat) (data : List Byte)
    (hP : ∀ p ∈ ([.cands, .syns, .outs, .chans, .cpMail, .counters, .latches, .ring, .log, .pcie, .sw, .ports, .ptus, .insts, .sys, .sent, .freeCtr] : List Part), p ∈ PP) (hR : ∀ r ∈ ([.ALM_ACTIVE, .ALM_LATCH, .LANE_QUAD_STAT, .OUT_STAT, .PRT_PTP_CFG, .PRT_PTP_RATE, .PRT_PTU_STAT, .PRT_REV_STAT, .PWR_PORT_STAT, .PWR_STAT, .RSEL_CAND_STAT, .SW_BUF_GATED, .SYN_CMD, .SYN_STAT] : List Reg), r ∈ RR) :
    Only PP RR xx (Dev.mgmtSet d i p id data) := hh.andThen (only_mgmtSet d i p id data) hP hR
theorem only_manage (d : Dev) (m : List Byte) : Only [.cands, .syns, .outs, .chans, .cpMail, .counters, .latches, .ring, .log, .pcie, .sw, .ports, .ptus, .insts, .sys, .sent, .freeCtr] [.ALM_ACTIVE, .ALM_LATCH, .LANE_QUAD_STAT, .OUT_STAT, .PRT_PTP_CFG, .PRT_PTP_RATE, .PRT_PTU_STAT, .PRT_REV_STAT, .PWR_PORT_STAT, .PWR_STAT, .RSEL_CAND_STAT, .SW_BUF_GATED, .SYN_CMD, .SYN_STAT] d (Dev.manage d m).1 := by
  unfold Dev.manage
  (try dsimp only)
  repeat' first
    | with_reducible exact Only.refl
    | with_reducible refine Only.mgmtSet ?_ _ _ _ _ (by decide) (by decide)
    | with_reducible refine Only.when ?_ _ _ ?_
    | split
    | dsimp only
theorem Only.manage {PP : List Part} {RR : List Reg} {xx d : Dev} (hh : Only PP RR xx d) (m : List Byte)
    (hP : ∀ p ∈ ([.cands, .syns, .outs, .chans, .cpMail, .counters, .latches, .ring, .log, .pcie, .sw, .ports, .ptus, .insts, .sys, .sent, .freeCtr] : List Part), p ∈ PP) (hR : ∀ r ∈ ([.ALM_ACTIVE, .ALM_LATCH, .LANE_QUAD_STAT, .OUT_STAT, .PRT_PTP_CFG, .PRT_PTP_RATE, .PRT_PTU_STAT, .PRT_REV_STAT, .PWR_PORT_STAT, .PWR_STAT, .RSEL_CAND_STAT, .SW_BUF_GATED, .SYN_CMD, .SYN_STAT] : List Reg), r ∈ RR) :
    Only PP RR xx (Dev.manage d m).1 := hh.andThen (only_manage d m) hP hR
theorem only_ptpManagement (d : Dev) : Only [.cands, .syns, .outs, .chans, .cpMail, .counters, .latches, .ring, .log, .pcie, .sw, .ports, .ptus, .insts, .sys, .sent, .freeCtr] [.ALM_ACTIVE, .ALM_LATCH, .LANE_QUAD_STAT, .OUT_STAT, .PRT_PTP_CFG, .PRT_PTP_RATE, .PRT_PTU_STAT, .PRT_REV_STAT, .PWR_PORT_STAT, .PWR_STAT, .RSEL_CAND_STAT, .SW_BUF_GATED, .SYN_CMD, .SYN_STAT] d (Dev.ptpManagement d) := by
  unfold Dev.ptpManagement
  (try dsimp only)
  repeat' first
    | with_reducible exact Only.refl
    | with_reducible refine Only.cpAck ?_ _ _ (by decide) (by decide)
    | with_reducible refine Only.manage ?_ _ (by decide) (by decide)
    | with_reducible refine Only.sendPart ?_ _ _ _ (by decide) (by decide)
    | split
    | dsimp only
  all_goals first
    | with_reducible refine Only.upd_cpMail ?_ _ (by decide)
    | skip
  all_goals (repeat' first
      | with_reducible exact Only.refl
      | with_reducible refine Only.cpAck ?_ _ _ (by decide) (by decide)
      | with_reducible refine Only.manage ?_ _ (by decide) (by decide)
      | with_reducible refine Only.sendPart ?_ _ _ _ (by decide) (by decide)
      | split
      | dsimp only)
  all_goals first
    | with_reducible refine Only.upd_cpMail ?_ _ (by decide)
    | skip
  all_goals (repeat' first
      | with_reducible exact Only.refl
      | with_reducible refine Only.cpAck ?_ _ _ (by decide) (by decide)
      | with_reducible refine Only.manage ?_ _ (by decide) (by decide)
      | with_reducible refine Only.sendPart ?_ _ _ _ (by decide) (by decide)
      | split
      | dsimp only)
theorem Only.ptpManagement {PP : List Part} {RR : List Reg} {xx d : Dev} (hh : Only PP RR xx d) 
    (hP : ∀ p ∈ ([.cands, .syns, .outs, .chans, .cpMail, .counters, .latches, .ring, .log, .pcie, .sw, .ports, .ptus, .insts, .sys, .sent, .freeCtr] : List Part), p ∈ PP) (hR : ∀ r ∈ ([.ALM_ACTIVE, .ALM_LATCH, .LANE_QUAD_STAT, .OUT_STAT, .PRT_PTP_CFG, .PRT_PTP_RATE, .PRT_PTU_STAT, .PRT_REV_STAT, .PWR_PORT_STAT, .PWR_STAT, .RSEL_CAND_STAT, .SW_BUF_GATED, .SYN_CMD, .SYN_STAT] : List Reg), r ∈ RR) :
    Only PP RR xx (Dev.ptpManagement d) := hh.andThen (only_ptpManagement d) hP hR
theorem only_cpServe (d : Dev) : Only [.cands, .syns, .outs, .chans, .cpMail, .counters, .latches, .ring, .log, .pcie, .sw, .ports, .ptus, .insts, .sys, .sent, .freeCtr] [.ALM_ACTIVE, .ALM_LATCH, .LANE_QUAD_STAT, .OUT_STAT, .PRT_PTP_CFG, .PRT_PTP_RATE, .PRT_PTU_STAT, .PRT_REV_STAT, .PWR_PORT_STAT, .PWR_STAT, .RSEL_CAND_STAT, .SW_BUF_GATED, .SYN_CMD, .SYN_STAT] d (Dev.cpServe d) := by
  unfold Dev.cpServe
  (try dsimp only)
  repeat' first
    | with_reducible exact Only.refl
    | with_reducible refine Only.continueReply ?_ (by decide) (by decide)
    | with_reducible refine Only.cpAck ?_ _ _ (by decide) (by decide)
    | with_reducible refine Only.ptpManagement ?_ (by decide) (by decide)
    | split
    | dsimp only
theorem Only.cpServe {PP : List Part} {RR : List Reg} {xx d : Dev} (hh : Only PP RR xx d) 
    (hP : ∀ p ∈ ([.cands, .syns, .outs, .chans, .cpMail, .counters, .latches, .ring, .log, .pcie, .sw, .ports, .ptus, .insts, .sys, .sent, .freeCtr] : List Part), p ∈ PP) (hR : ∀ r ∈ ([.ALM_ACTIVE, .ALM_LATCH, .LANE_QUAD_STAT, .OUT_STAT, .PRT_PTP_CFG, .PRT_PTP_RATE, .PRT_PTU_STAT, .PRT_REV_STAT, .PWR_PORT_STAT, .PWR_STAT, .RSEL_CAND_STAT, .SW_BUF_GATED, .SYN_CMD, .SYN_STAT] : List Reg), r ∈ RR) :
    Only PP RR xx (Dev.cpServe d) := hh.andThen (only_cpServe d) hP hR

/-! ## Twin -/

theorem only_twinAlarms (d : Dev) : Only [.twin, .counters, .latches, .ring, .log, .pcie, .sent] [.ALM_ACTIVE, .ALM_LATCH] d (Dev.twinAlarms d) := by
  unfold Dev.twinAlarms
  (try dsimp only)
  repeat' first
    | with_reducible exact Only.refl
    | with_reducible refine Only.onTwin ?_ _ (by decide)
    | with_reducible refine Only.cond ?_ _ _ (by decide)
    | with_reducible refine Only.when ?_ _ _ ?_
    | split
    | dsimp only
theorem Only.twinAlarms {PP : List Part} {RR : List Reg} {xx d : Dev} (hh : Only PP RR xx d) 
    (hP : ∀ p ∈ ([.twin, .counters, .latches, .ring, .log, .pcie, .sent] : List Part), p ∈ PP) (hR : ∀ r ∈ ([.ALM_ACTIVE, .ALM_LATCH] : List Reg), r ∈ RR) :
    Only PP RR xx (Dev.twinAlarms d) := hh.andThen (only_twinAlarms d) hP hR
theorem only_placeStandby (d : Dev) (t : TbId) (r : Nat) : Only [.tbA, .tbB, .twin, .counters, .latches, .ring, .log, .pcie, .sent] [.ALM_ACTIVE, .ALM_LATCH, .TB_ROLE] d (Dev.placeStandby d t r) := by
  unfold Dev.placeStandby
  (try dsimp only)
  repeat' first
    | with_reducible exact Only.refl
    | with_reducible refine Only.onTwin ?_ _ (by decide)
    | with_reducible refine Only.onTb ?_ _ _ (by decide) (by decide)
    | with_reducible refine Only.setRole ?_ _ _ (by decide) (by decide)
    | with_reducible refine Only.twinAlarms ?_ (by decide) (by decide)
    | split
    | dsimp only
theorem Only.placeStandby {PP : List Part} {RR : List Reg} {xx d : Dev} (hh : Only PP RR xx d) (t : TbId) (r : Nat)
    (hP : ∀ p ∈ ([.tbA, .tbB, .twin, .counters, .latches, .ring, .log, .pcie, .sent] : List Part), p ∈ PP) (hR : ∀ r ∈ ([.ALM_ACTIVE, .ALM_LATCH, .TB_ROLE] : List Reg), r ∈ RR) :
    Only PP RR xx (Dev.placeStandby d t r) := hh.andThen (only_placeStandby d t r) hP hR
theorem only_alignStandby (d : Dev) (t : TbId) : Only [.tbA, .tbB, .twin, .counters, .latches, .ring, .log, .pcie, .sent] [.ALM_ACTIVE, .ALM_LATCH, .TB_ROLE] d (Dev.alignStandby d t) := by
  unfold Dev.alignStandby
  (try dsimp only)
  repeat' first
    | with_reducible exact Only.refl
    | with_reducible refine Only.placeStandby ?_ _ _ (by decide) (by decide)
    | split
    | dsimp only
theorem Only.alignStandby {PP : List Part} {RR : List Reg} {xx d : Dev} (hh : Only PP RR xx d) (t : TbId)
    (hP : ∀ p ∈ ([.tbA, .tbB, .twin, .counters, .latches, .ring, .log, .pcie, .sent] : List Part), p ∈ PP) (hR : ∀ r ∈ ([.ALM_ACTIVE, .ALM_LATCH, .TB_ROLE] : List Reg), r ∈ RR) :
    Only PP RR xx (Dev.alignStandby d t) := hh.andThen (only_alignStandby d t) hP hR
theorem only_returnStandby (d : Dev) (t : TbId) : Only [.tbA, .tbB, .twin, .chans, .counters, .latches, .ring, .log, .pcie, .sent] [.ALM_ACTIVE, .ALM_LATCH, .TB_ROLE] d (Dev.returnStandby d t) := by
  unfold Dev.returnStandby
  (try dsimp only)
  repeat' first
    | with_reducible exact Only.refl
    | with_reducible refine Only.placeStandby ?_ _ _ (by decide) (by decide)
    | with_reducible refine Only.restartParty ?_ _ (by decide) (by decide)
    | split
    | dsimp only
theorem Only.returnStandby {PP : List Part} {RR : List Reg} {xx d : Dev} (hh : Only PP RR xx d) (t : TbId)
    (hP : ∀ p ∈ ([.tbA, .tbB, .twin, .chans, .counters, .latches, .ring, .log, .pcie, .sent] : List Part), p ∈ PP) (hR : ∀ r ∈ ([.ALM_ACTIVE, .ALM_LATCH, .TB_ROLE] : List Reg), r ∈ RR) :
    Only PP RR xx (Dev.returnStandby d t) := hh.andThen (only_returnStandby d t) hP hR
theorem only_stopRevert (d : Dev) : Only [.twin] [.TB_ROLE] d (Dev.stopRevert d) := by
  unfold Dev.stopRevert
  (try dsimp only)
  repeat' first
    | with_reducible exact Only.refl
    | with_reducible refine Only.set ?_ _ _ _ (by decide)
    | with_reducible refine Only.onTwin ?_ _ (by decide)
    | split
    | dsimp only
theorem Only.stopRevert {PP : List Part} {RR : List Reg} {xx d : Dev} (hh : Only PP RR xx d) 
    (hP : ∀ p ∈ ([.twin] : List Part), p ∈ PP) (hR : ∀ r ∈ ([.TB_ROLE] : List Reg), r ∈ RR) :
    Only PP RR xx (Dev.stopRevert d) := hh.andThen (only_stopRevert d) hP hR
theorem only_dropReturn (d : Dev) : Only [.tbA, .tbB, .mir, .cands, .twin, .counters, .latches, .ring, .log, .pcie, .sent, .freeCtr] [.ALM_ACTIVE, .ALM_LATCH, .RSEL_CAND_FREQ, .SEQGEN_W0, .TB_ROLE, .TB_TAKEOVER, .TB_TCMD, .TB_TWIN_CMD] d (Dev.dropReturn d) := by
  unfold Dev.dropReturn
  (try dsimp only)
  repeat' first
    | with_reducible exact Only.refl
    | with_reducible refine Only.onTwin ?_ _ (by decide)
    | with_reducible refine Only.when ?_ _ _ ?_
    | split
    | dsimp only
theorem Only.dropReturn {PP : List Part} {RR : List Reg} {xx d : Dev} (hh : Only PP RR xx d) 
    (hP : ∀ p ∈ ([.tbA, .tbB, .mir, .cands, .twin, .counters, .latches, .ring, .log, .pcie, .sent, .freeCtr] : List Part), p ∈ PP) (hR : ∀ r ∈ ([.ALM_ACTIVE, .ALM_LATCH, .RSEL_CAND_FREQ, .SEQGEN_W0, .TB_ROLE, .TB_TAKEOVER, .TB_TCMD, .TB_TWIN_CMD] : List Reg), r ∈ RR) :
    Only PP RR xx (Dev.dropReturn d) := hh.andThen (only_dropReturn d) hP hR
theorem only_judgeRevert (d : Dev) : Only [.tbA, .tbB, .mir, .cands, .twin, .counters, .latches, .ring, .log, .pcie, .sent, .freeCtr] [.ALM_ACTIVE, .ALM_LATCH, .RSEL_CAND_FREQ, .SEQGEN_W0, .TB_ROLE, .TB_TAKEOVER, .TB_TCMD, .TB_TWIN_CMD] d (Dev.judgeRevert d) := by
  unfold Dev.judgeRevert
  (try dsimp only)
  repeat' first
    | with_reducible exact Only.refl
    | with_reducible refine Only.set ?_ _ _ _ (by decide)
    | with_reducible refine Only.onTwin ?_ _ (by decide)
    | with_reducible refine Only.dropReturn ?_ (by decide) (by decide)
    | with_reducible refine Only.stopRevert ?_ (by decide) (by decide)
    | split
    | dsimp only
theorem Only.judgeRevert {PP : List Part} {RR : List Reg} {xx d : Dev} (hh : Only PP RR xx d) 
    (hP : ∀ p ∈ ([.tbA, .tbB, .mir, .cands, .twin, .counters, .latches, .ring, .log, .pcie, .sent, .freeCtr] : List Part), p ∈ PP) (hR : ∀ r ∈ ([.ALM_ACTIVE, .ALM_LATCH, .RSEL_CAND_FREQ, .SEQGEN_W0, .TB_ROLE, .TB_TAKEOVER, .TB_TCMD, .TB_TWIN_CMD] : List Reg), r ∈ RR) :
    Only PP RR xx (Dev.judgeRevert d) := hh.andThen (only_judgeRevert d) hP hR
theorem only_endTcmd (d : Dev) (t : TbId) (r : Nat) : Only [] [.TB_TCMD] d (Dev.endTcmd d t r) := by
  unfold Dev.endTcmd
  (try dsimp only)
  repeat' first
    | with_reducible exact Only.refl
    | with_reducible refine Only.set ?_ _ _ _ (by decide)
    | split
    | dsimp only
theorem Only.endTcmd {PP : List Part} {RR : List Reg} {xx d : Dev} (hh : Only PP RR xx d) (t : TbId) (r : Nat)
    (hP : ∀ p ∈ ([] : List Part), p ∈ PP) (hR : ∀ r ∈ ([.TB_TCMD] : List Reg), r ∈ RR) :
    Only PP RR xx (Dev.endTcmd d t r) := hh.andThen (only_endTcmd d t r) hP hR
theorem only_tcmdDone (d : Dev) (r : Nat) : Only [.mir, .twin] [.SEQGEN_W0, .TB_TCMD] d (Dev.tcmdDone d r) := by
  unfold Dev.tcmdDone
  (try dsimp only)
  repeat' first
    | with_reducible exact Only.refl
    | with_reducible refine Only.endTcmd ?_ _ _ (by decide) (by decide)
    | with_reducible refine Only.mirrorBy ?_ _ (by decide) (by decide)
    | split
    | dsimp only
theorem Only.tcmdDone {PP : List Part} {RR : List Reg} {xx d : Dev} (hh : Only PP RR xx d) (r : Nat)
    (hP : ∀ p ∈ ([.mir, .twin] : List Part), p ∈ PP) (hR : ∀ r ∈ ([.SEQGEN_W0, .TB_TCMD] : List Reg), r ∈ RR) :
    Only PP RR xx (Dev.tcmdDone d r) := hh.andThen (only_tcmdDone d r) hP hR
theorem only_supersede (d : Dev) : Only [.mir, .twin] [.SEQGEN_W0, .TB_TCMD] d (Dev.supersede d) := by
  unfold Dev.supersede
  (try dsimp only)
  repeat' first
    | with_reducible exact Only.refl
    | with_reducible refine Only.tcmdDone ?_ _ (by decide) (by decide)
    | split
    | dsimp only
theorem Only.supersede {PP : List Part} {RR : List Reg} {xx d : Dev} (hh : Only PP RR xx d) 
    (hP : ∀ p ∈ ([.mir, .twin] : List Part), p ∈ PP) (hR : ∀ r ∈ ([.SEQGEN_W0, .TB_TCMD] : List Reg), r ∈ RR) :
    Only PP RR xx (Dev.supersede d) := hh.andThen (only_supersede d) hP hR
theorem only_dropTcmd (d : Dev) (t : TbId) : Only [] [.TB_TCMD] d (Dev.dropTcmd d t) := by
  unfold Dev.dropTcmd
  (try dsimp only)
  repeat' first
    | with_reducible exact Only.refl
    | with_reducible refine Only.endTcmd ?_ _ _ (by decide) (by decide)
    | split
    | dsimp only
theorem Only.dropTcmd {PP : List Part} {RR : List Reg} {xx d : Dev} (hh : Only PP RR xx d) (t : TbId)
    (hP : ∀ p ∈ ([] : List Part), p ∈ PP) (hR : ∀ r ∈ ([.TB_TCMD] : List Reg), r ∈ RR) :
    Only PP RR xx (Dev.dropTcmd d t) := hh.andThen (only_dropTcmd d t) hP hR
theorem only_retireTb (d : Dev) (t : TbId) : Only [.tbA, .tbB, .mir, .cands, .twin, .counters, .latches, .ring, .log, .pcie, .sent, .freeCtr] [.ALM_ACTIVE, .ALM_LATCH, .RSEL_CAND_FREQ, .SEQGEN_W0, .TB_ROLE, .TB_TAKEOVER, .TB_TCMD, .TB_TWIN_CMD] d (Dev.retireTb d t) := by
  unfold Dev.retireTb
  (try dsimp only)
  repeat' first
    | with_reducible exact Only.refl
    | with_reducible refine Only.onTb ?_ _ _ (by decide) (by decide)
    | with_reducible refine Only.logAdd ?_ _ _ _ _ (by decide)
    | with_reducible refine Only.dropTcmd ?_ _ (by decide) (by decide)
    | with_reducible refine Only.judgeRevert ?_ (by decide) (by decide)
    | with_reducible refine Only.setRole ?_ _ _ (by decide) (by decide)
    | with_reducible refine Only.twinAlarms ?_ (by decide) (by decide)
    | split
    | dsimp only
theorem Only.retireTb {PP : List Part} {RR : List Reg} {xx d : Dev} (hh : Only PP RR xx d) (t : TbId)
    (hP : ∀ p ∈ ([.tbA, .tbB, .mir, .cands, .twin, .counters, .latches, .ring, .log, .pcie, .sent, .freeCtr] : List Part), p ∈ PP) (hR : ∀ r ∈ ([.ALM_ACTIVE, .ALM_LATCH, .RSEL_CAND_FREQ, .SEQGEN_W0, .TB_ROLE, .TB_TAKEOVER, .TB_TCMD, .TB_TWIN_CMD] : List Reg), r ∈ RR) :
    Only PP RR xx (Dev.retireTb d t) := hh.andThen (only_retireTb d t) hP hR
theorem only_leaveService (d : Dev) : Only [.mir, .rsel, .cands, .twin, .syns, .outs, .chans, .cpMail, .counters, .latches, .ring, .log, .pcie, .sw, .ports, .ptus, .insts, .tio, .sys, .sent, .freeCtr] [.ALM_ACTIVE, .ALM_LATCH, .LANE_PARTNER_DOM, .LANE_PARTNER_ID_HI, .LANE_PARTNER_ID_LO, .LANE_PARTNER_INFO, .LANE_QUAD_CFG, .LANE_QUAD_STAT, .LANE_STAT, .LANE_TEST, .OUT_STAT, .PRT_GATE_STAT, .PRT_PTU_STAT, .PRT_Q_PTX, .PRT_Q_STAT, .PRT_REV_STAT, .PWR_PORT_STAT, .PWR_STAT, .RECOV_W4, .RSEL_CAND_STAT, .SEQGEN_W0, .SW_BUF_GATED, .SYN_CMD, .SYN_STAT, .TB_HB_STAT, .TB_ROLE, .TB_TCMD, .TB_TSTAT, .TIO_STAT] d (Dev.leaveService d) := by
  unfold Dev.leaveService
  (try dsimp only)
  repeat' first
    | with_reducible exact Only.refl
    | with_reducible refine Only.hbFlag ?_ _ _ (by decide) (by decide)
    | with_reducible refine Only.onTwin ?_ _ (by decide)
    | with_reducible refine Only.onRsel ?_ _ (by decide)
    | with_reducible refine Only.cond ?_ _ _ (by decide)
    | with_reducible refine Only.noTimebase ?_ (by decide) (by decide)
    | with_reducible refine Only.setState ?_ _ (by decide) (by decide)
    | with_reducible refine Only.stopRevert ?_ (by decide) (by decide)
    | with_reducible refine Only.supersede ?_ (by decide) (by decide)
    | split
    | dsimp only
theorem Only.leaveService {PP : List Part} {RR : List Reg} {xx d : Dev} (hh : Only PP RR xx d) 
    (hP : ∀ p ∈ ([.mir, .rsel, .cands, .twin, .syns, .outs, .chans, .cpMail, .counters, .latches, .ring, .log, .pcie, .sw, .ports, .ptus, .insts, .tio, .sys, .sent, .freeCtr] : List Part), p ∈ PP) (hR : ∀ r ∈ ([.ALM_ACTIVE, .ALM_LATCH, .LANE_PARTNER_DOM, .LANE_PARTNER_ID_HI, .LANE_PARTNER_ID_LO, .LANE_PARTNER_INFO, .LANE_QUAD_CFG, .LANE_QUAD_STAT, .LANE_STAT, .LANE_TEST, .OUT_STAT, .PRT_GATE_STAT, .PRT_PTU_STAT, .PRT_Q_PTX, .PRT_Q_STAT, .PRT_REV_STAT, .PWR_PORT_STAT, .PWR_STAT, .RECOV_W4, .RSEL_CAND_STAT, .SEQGEN_W0, .SW_BUF_GATED, .SYN_CMD, .SYN_STAT, .TB_HB_STAT, .TB_ROLE, .TB_TCMD, .TB_TSTAT, .TIO_STAT] : List Reg), r ∈ RR) :
    Only PP RR xx (Dev.leaveService d) := hh.andThen (only_leaveService d) hP hR
theorem only_tellPinsOff (d old : Dev) : Only [.sent] [] d (Dev.tellPinsOff d old) := by
  unfold Dev.tellPinsOff
  (try dsimp only)
  repeat' first
    | with_reducible exact Only.refl
    | with_reducible refine Only.emit ?_ _ (by decide)
    | with_reducible refine Only.each ?_ _ _ (fun _ _ => ?_)
    | split
    | dsimp only
theorem Only.tellPinsOff {PP : List Part} {RR : List Reg} {xx d : Dev} (hh : Only PP RR xx d) (old : Dev) 
    (hP : ∀ p ∈ ([.sent] : List Part), p ∈ PP) (hR : ∀ r ∈ ([] : List Reg), r ∈ RR) :
    Only PP RR xx (Dev.tellPinsOff d old) := hh.andThen (only_tellPinsOff d old) hP hR
theorem only_enterNone (d : Dev) : Only [.mir, .rsel, .cands, .twin, .syns, .outs, .chans, .cpMail, .counters, .latches, .ring, .log, .pcie, .sw, .ports, .ptus, .insts, .tio, .sys, .sent, .freeCtr] [.ALM_ACTIVE, .ALM_LATCH, .LANE_PARTNER_DOM, .LANE_PARTNER_ID_HI, .LANE_PARTNER_ID_LO, .LANE_PARTNER_INFO, .LANE_QUAD_CFG, .LANE_QUAD_STAT, .LANE_STAT, .LANE_TEST, .OUT_STAT, .PRT_GATE_STAT, .PRT_PTU_STAT, .PRT_Q_PTX, .PRT_Q_STAT, .PRT_REV_STAT, .PWR_PORT_STAT, .PWR_STAT, .RECOV_W4, .RSEL_CAND_STAT, .SEQGEN_W0, .SW_BUF_GATED, .SYN_CMD, .SYN_STAT, .TB_HB_STAT, .TB_ROLE, .TB_TCMD, .TB_TSTAT, .TIO_STAT] d (Dev.enterNone d) := by
  unfold Dev.enterNone
  (try dsimp only)
  repeat' first
    | with_reducible exact Only.refl
    | with_reducible refine Only.leaveService ?_ (by decide) (by decide)
    | with_reducible refine Only.tellPinsOff ?_ _ (by decide) (by decide)
    | split
    | dsimp only
theorem Only.enterNone {PP : List Part} {RR : List Reg} {xx d : Dev} (hh : Only PP RR xx d) 
    (hP : ∀ p ∈ ([.mir, .rsel, .cands, .twin, .syns, .outs, .chans, .cpMail, .counters, .latches, .ring, .log, .pcie, .sw, .ports, .ptus, .insts, .tio, .sys, .sent, .freeCtr] : List Part), p ∈ PP) (hR : ∀ r ∈ ([.ALM_ACTIVE, .ALM_LATCH, .LANE_PARTNER_DOM, .LANE_PARTNER_ID_HI, .LANE_PARTNER_ID_LO, .LANE_PARTNER_INFO, .LANE_QUAD_CFG, .LANE_QUAD_STAT, .LANE_STAT, .LANE_TEST, .OUT_STAT, .PRT_GATE_STAT, .PRT_PTU_STAT, .PRT_Q_PTX, .PRT_Q_STAT, .PRT_REV_STAT, .PWR_PORT_STAT, .PWR_STAT, .RECOV_W4, .RSEL_CAND_STAT, .SEQGEN_W0, .SW_BUF_GATED, .SYN_CMD, .SYN_STAT, .TB_HB_STAT, .TB_ROLE, .TB_TCMD, .TB_TSTAT, .TIO_STAT] : List Reg), r ∈ RR) :
    Only PP RR xx (Dev.enterNone d) := hh.andThen (only_enterNone d) hP hR
theorem only_rebase (d : Dev) (off : Int) : Only [.cands] [.RSEL_CAND_FREQ] d (Dev.rebase d off) := by
  unfold Dev.rebase
  (try dsimp only)
  repeat' first
    | with_reducible exact Only.refl
    | with_reducible refine Only.showMean ?_ _ (by decide) (by decide)
    | with_reducible refine Only.when ?_ _ _ ?_
    | with_reducible refine Only.each ?_ _ _ (fun _ _ => ?_)
    | split
    | dsimp only
  all_goals first
    | with_reducible refine Only.upd_cands ?_ _ (by decide)
    | skip
  all_goals (repeat' first
      | with_reducible exact Only.refl
      | with_reducible refine Only.showMean ?_ _ (by decide) (by decide)
      | with_reducible refine Only.when ?_ _ _ ?_
      | with_reducible refine Only.each ?_ _ _ (fun _ _ => ?_)
      | split
      | dsimp only)
  all_goals first
    | with_reducible refine Only.upd_cands ?_ _ (by decide)
    | skip
  all_goals (repeat' first
      | with_reducible exact Only.refl
      | with_reducible refine Only.showMean ?_ _ (by decide) (by decide)
      | with_reducible refine Only.when ?_ _ _ ?_
      | with_reducible refine Only.each ?_ _ _ (fun _ _ => ?_)
      | split
      | dsimp only)
theorem Only.rebase {PP : List Part} {RR : List Reg} {xx d : Dev} (hh : Only PP RR xx d) (off : Int)
    (hP : ∀ p ∈ ([.cands] : List Part), p ∈ PP) (hR : ∀ r ∈ ([.RSEL_CAND_FREQ] : List Reg), r ∈ RR) :
    Only PP RR xx (Dev.rebase d off) := hh.andThen (only_rebase d off) hP hR
theorem only_passRole (d : Dev) (o : TbId) (off : Int) : Only [.cands, .twin] [.RSEL_CAND_FREQ, .TB_TCMD] d (Dev.passRole d o off) := by
  unfold Dev.passRole
  (try dsimp only)
  repeat' first
    | with_reducible exact Only.refl
    | with_reducible refine Only.onTwin ?_ _ (by decide)
    | with_reducible refine Only.dropTcmd ?_ _ (by decide) (by decide)
    | with_reducible refine Only.rebase ?_ _ (by decide) (by decide)
    | split
    | dsimp only
theorem Only.passRole {PP : List Part} {RR : List Reg} {xx d : Dev} (hh : Only PP RR xx d) (o : TbId) (off : Int)
    (hP : ∀ p ∈ ([.cands, .twin] : List Part), p ∈ PP) (hR : ∀ r ∈ ([.RSEL_CAND_FREQ, .TB_TCMD] : List Reg), r ∈ RR) :
    Only PP RR xx (Dev.passRole d o off) := hh.andThen (only_passRole d o off) hP hR
theorem only_passActive (d : Dev) (o : TbId) (m : Mirrored) : Only [.mir, .cands, .twin, .freeCtr] [.RSEL_CAND_FREQ, .SEQGEN_W0, .TB_TCMD] d (Dev.passActive d o m) := by
  unfold Dev.passActive
  (try dsimp only)
  repeat' first
    | with_reducible exact Only.refl
    | with_reducible refine Only.set ?_ _ _ _ (by decide)
    | with_reducible refine Only.spendFree ?_ (by decide)
    | with_reducible refine Only.mirror ?_ _ (by decide) (by decide)
    | with_reducible refine Only.passRole ?_ _ _ (by decide) (by decide)
    | split
    | dsimp only
theorem Only.passActive {PP : List Part} {RR : List Reg} {xx d : Dev} (hh : Only PP RR xx d) (o : TbId) (m : Mirrored)
    (hP : ∀ p ∈ ([.mir, .cands, .twin, .freeCtr] : List Part), p ∈ PP) (hR : ∀ r ∈ ([.RSEL_CAND_FREQ, .SEQGEN_W0, .TB_TCMD] : List Reg), r ∈ RR) :
    Only PP RR xx (Dev.passActive d o m) := hh.andThen (only_passActive d o m) hP hR
theorem only_setTakeover (d : Dev) (cause : Nat) (fromTb : TbId) (lost trunc : Bool) (gap replayed : Nat) : Only [] [.TB_TAKEOVER] d (Dev.setTakeover d cause fromTb lost trunc gap replayed) := by
  unfold Dev.setTakeover
  (try dsimp only)
  repeat' first
    | with_reducible exact Only.refl
    | with_reducible refine Only.set ?_ _ _ _ (by decide)
    | with_reducible refine Only.setB ?_ _ _ _ (by decide)
    | split
    | dsimp only
theorem Only.setTakeover {PP : List Part} {RR : List Reg} {xx d : Dev} (hh : Only PP RR xx d) (cause : Nat) (fromTb : TbId) (lost trunc : Bool) (gap replayed : Nat)
    (hP : ∀ p ∈ ([] : List Part), p ∈ PP) (hR : ∀ r ∈ ([.TB_TAKEOVER] : List Reg), r ∈ RR) :
    Only PP RR xx (Dev.setTakeover d cause fromTb lost trunc gap replayed) := hh.andThen (only_setTakeover d cause fromTb lost trunc gap replayed) hP hR
theorem only_beginFreeze (d : Dev) : Only [.twin, .syns, .outs, .counters, .latches, .ring, .log, .pcie, .sw, .ports, .sys, .sent] [.ALM_ACTIVE, .ALM_LATCH, .LANE_QUAD_STAT, .OUT_STAT, .PWR_PORT_STAT, .PWR_STAT, .SW_BUF_GATED, .SYN_CMD, .SYN_STAT, .TB_HB_STAT, .TB_ROLE, .TB_TWIN_CMD] d (Dev.beginFreeze d) := by
  unfold Dev.beginFreeze
  (try dsimp only)
  repeat' first
    | with_reducible exact Only.refl
    | with_reducible refine Only.set ?_ _ _ _ (by decide)
    | with_reducible refine Only.hbFlag ?_ _ _ (by decide) (by decide)
    | with_reducible refine Only.onTwin ?_ _ (by decide)
    | with_reducible refine Only.freezeClocks ?_ (by decide) (by decide)
    | with_reducible refine Only.setRole ?_ _ _ (by decide) (by decide)
    | with_reducible refine Only.stopRevert ?_ (by decide) (by decide)
    | split
    | dsimp only
theorem Only.beginFreeze {PP : List Part} {RR : List Reg} {xx d : Dev} (hh : Only PP RR xx d) 
    (hP : ∀ p ∈ ([.twin, .syns, .outs, .counters, .latches, .ring, .log, .pcie, .sw, .ports, .sys, .sent] : List Part), p ∈ PP) (hR : ∀ r ∈ ([.ALM_ACTIVE, .ALM_LATCH, .LANE_QUAD_STAT, .OUT_STAT, .PWR_PORT_STAT, .PWR_STAT, .SW_BUF_GATED, .SYN_CMD, .SYN_STAT, .TB_HB_STAT, .TB_ROLE, .TB_TWIN_CMD] : List Reg), r ∈ RR) :
    Only PP RR xx (Dev.beginFreeze d) := hh.andThen (only_beginFreeze d) hP hR
theorem only_endShortFreeze (d : Dev) : Only [.tbA, .tbB, .mir, .cands, .twin, .syns, .outs, .counters, .latches, .ring, .log, .pcie, .sw, .ports, .sys, .sent, .freeCtr] [.ALM_ACTIVE, .ALM_LATCH, .LANE_QUAD_STAT, .OUT_STAT, .PWR_PORT_STAT, .PWR_STAT, .RSEL_CAND_FREQ, .SEQGEN_W0, .SW_BUF_GATED, .SYN_CMD, .SYN_STAT, .TB_HB_STAT, .TB_ROLE, .TB_TAKEOVER, .TB_TCMD, .TB_TWIN_CMD] d (Dev.endShortFreeze d) := by
  unfold Dev.endShortFreeze
  (try dsimp only)
  repeat' first
    | with_reducible exact Only.refl
    | with_reducible refine Only.hbFlag ?_ _ _ (by decide) (by decide)
    | with_reducible refine Only.onTwin ?_ _ (by decide)
    | with_reducible refine Only.raise ?_ _ (by decide)
    | with_reducible refine Only.countDev ?_ _ _ (by decide)
    | with_reducible refine Only.judgeRevert ?_ (by decide) (by decide)
    | with_reducible refine Only.setRole ?_ _ _ (by decide) (by decide)
    | with_reducible refine Only.thawClocks ?_ (by decide) (by decide)
    | with_reducible refine Only.twinAlarms ?_ (by decide) (by decide)
    | split
    | dsimp only
theorem Only.endShortFreeze {PP : List Part} {RR : List Reg} {xx d : Dev} (hh : Only PP RR xx d) 
    (hP : ∀ p ∈ ([.tbA, .tbB, .mir, .cands, .twin, .syns, .outs, .counters, .latches, .ring, .log, .pcie, .sw, .ports, .sys, .sent, .freeCtr] : List Part), p ∈ PP) (hR : ∀ r ∈ ([.ALM_ACTIVE, .ALM_LATCH, .LANE_QUAD_STAT, .OUT_STAT, .PWR_PORT_STAT, .PWR_STAT, .RSEL_CAND_FREQ, .SEQGEN_W0, .SW_BUF_GATED, .SYN_CMD, .SYN_STAT, .TB_HB_STAT, .TB_ROLE, .TB_TAKEOVER, .TB_TCMD, .TB_TWIN_CMD] : List Reg), r ∈ RR) :
    Only PP RR xx (Dev.endShortFreeze d) := hh.andThen (only_endShortFreeze d) hP hR
theorem only_heartbeatEmit (d : Dev) (selfCheckOk : Bool) : Only [.twin] [] d (Dev.heartbeatEmit d selfCheckOk) := by
  unfold Dev.heartbeatEmit
  (try dsimp only)
  repeat' first
    | with_reducible exact Only.refl
    | with_reducible refine Only.onTwin ?_ _ (by decide)
    | split
    | dsimp only
theorem Only.heartbeatEmit {PP : List Part} {RR : List Reg} {xx d : Dev} (hh : Only PP RR xx d) (selfCheckOk : Bool)
    (hP : ∀ p ∈ ([.twin] : List Part), p ∈ PP) (hR : ∀ r ∈ ([] : List Reg), r ∈ RR) :
    Only PP RR xx (Dev.heartbeatEmit d selfCheckOk) := hh.andThen (only_heartbeatEmit d selfCheckOk) hP hR
theorem only_heartbeatReceived (d : Dev) (path : HbPath) : Only [.tbA, .tbB, .mir, .cands, .twin, .syns, .outs, .counters, .latches, .ring, .log, .pcie, .sw, .ports, .sys, .sent, .freeCtr] [.ALM_ACTIVE, .ALM_LATCH, .LANE_QUAD_STAT, .OUT_STAT, .PWR_PORT_STAT, .PWR_STAT, .RSEL_CAND_FREQ, .SEQGEN_W0, .SW_BUF_GATED, .SYN_CMD, .SYN_STAT, .TB_HB_STAT, .TB_ROLE, .TB_TAKEOVER, .TB_TCMD, .TB_TWIN_CMD] d (Dev.heartbeatReceived d path) := by
  unfold Dev.heartbeatReceived
  (try dsimp only)
  repeat' first
    | with_reducible exact Only.refl
    | with_reducible refine Only.set ?_ _ _ _ (by decide)
    | with_reducible refine Only.hbFlag ?_ _ _ (by decide) (by decide)
    | with_reducible refine Only.onTwin ?_ _ (by decide)
    | with_reducible refine Only.cond ?_ _ _ (by decide)
    | with_reducible refine Only.endShortFreeze ?_ (by decide) (by decide)
    | with_reducible refine Only.when ?_ _ _ ?_
    | split
    | dsimp only
theorem Only.heartbeatReceived {PP : List Part} {RR : List Reg} {xx d : Dev} (hh : Only PP RR xx d) (path : HbPath)
    (hP : ∀ p ∈ ([.tbA, .tbB, .mir, .cands, .twin, .syns, .outs, .counters, .latches, .ring, .log, .pcie, .sw, .ports, .sys, .sent, .freeCtr] : List Part), p ∈ PP) (hR : ∀ r ∈ ([.ALM_ACTIVE, .ALM_LATCH, .LANE_QUAD_STAT, .OUT_STAT, .PWR_PORT_STAT, .PWR_STAT, .RSEL_CAND_FREQ, .SEQGEN_W0, .SW_BUF_GATED, .SYN_CMD, .SYN_STAT, .TB_HB_STAT, .TB_ROLE, .TB_TAKEOVER, .TB_TCMD, .TB_TWIN_CMD] : List Reg), r ∈ RR) :
    Only PP RR xx (Dev.heartbeatReceived d path) := hh.andThen (only_heartbeatReceived d path) hP hR
theorem only_heartbeatMiss (d : Dev) (line mem : Bool) : Only [.twin, .syns, .outs, .counters, .latches, .ring, .log, .pcie, .sw, .ports, .sys, .sent] [.ALM_ACTIVE, .ALM_LATCH, .LANE_QUAD_STAT, .OUT_STAT, .PWR_PORT_STAT, .PWR_STAT, .SW_BUF_GATED, .SYN_CMD, .SYN_STAT, .TB_HB_STAT, .TB_ROLE, .TB_TWIN_CMD] d (Dev.heartbeatMiss d line mem) := by
  unfold Dev.heartbeatMiss
  (try dsimp only)
  repeat' first
    | with_reducible exact Only.refl
    | with_reducible refine Only.set ?_ _ _ _ (by decide)
    | with_reducible refine Only.hbFlag ?_ _ _ (by decide) (by decide)
    | with_reducible refine Only.cond ?_ _ _ (by decide)
    | with_reducible refine Only.beginFreeze ?_ (by decide) (by decide)
    | with_reducible refine Only.when ?_ _ _ ?_
    | split
    | dsimp only
theorem Only.heartbeatMiss {PP : List Part} {RR : List Reg} {xx d : Dev} (hh : Only PP RR xx d) (line mem : Bool)
    (hP : ∀ p ∈ ([.twin, .syns, .outs, .counters, .latches, .ring, .log, .pcie, .sw, .ports, .sys, .sent] : List Part), p ∈ PP) (hR : ∀ r ∈ ([.ALM_ACTIVE, .ALM_LATCH, .LANE_QUAD_STAT, .OUT_STAT, .PWR_PORT_STAT, .PWR_STAT, .SW_BUF_GATED, .SYN_CMD, .SYN_STAT, .TB_HB_STAT, .TB_ROLE, .TB_TWIN_CMD] : List Reg), r ∈ RR) :
    Only PP RR xx (Dev.heartbeatMiss d line mem) := hh.andThen (only_heartbeatMiss d line mem) hP hR
theorem only_mirrorReplayDone (d : Dev) (cp0Ok cp1Ok : Bool) (good : Nat) : Only [.twin, .counters, .latches, .ring, .log, .pcie, .sent] [.ALM_ACTIVE, .ALM_LATCH] d (Dev.mirrorReplayDone d cp0Ok cp1Ok good) := by
  unfold Dev.mirrorReplayDone
  (try dsimp only)
  repeat' first
    | with_reducible exact Only.refl
    | with_reducible refine Only.onTwin ?_ _ (by decide)
    | with_reducible refine Only.raise ?_ _ (by decide)
    | with_reducible refine Only.countDev ?_ _ _ (by decide)
    | with_reducible refine Only.when ?_ _ _ ?_
    | split
    | dsimp only
theorem Only.mirrorReplayDone {PP : List Part} {RR : List Reg} {xx d : Dev} (hh : Only PP RR xx d) (cp0Ok cp1Ok : Bool) (good : Nat)
    (hP : ∀ p ∈ ([.twin, .counters, .latches, .ring, .log, .pcie, .sent] : List Part), p ∈ PP) (hR : ∀ r ∈ ([.ALM_ACTIVE, .ALM_LATCH] : List Reg), r ∈ RR) :
    Only PP RR xx (Dev.mirrorReplayDone d cp0Ok cp1Ok good) := hh.andThen (only_mirrorReplayDone d cp0Ok cp1Ok good) hP hR
theorem only_endFreeze (d : Dev) : Only [.twin] [.TB_HB_STAT, .TB_TAKEOVER] d (Dev.endFreeze d) := by
  unfold Dev.endFreeze
  (try dsimp only)
  repeat' first
    | with_reducible exact Only.refl
    | with_reducible refine Only.set ?_ _ _ _ (by decide)
    | with_reducible refine Only.hbFlag ?_ _ _ (by decide) (by decide)
    | with_reducible refine Only.onTwin ?_ _ (by decide)
    | split
    | dsimp only
theorem Only.endFreeze {PP : List Part} {RR : List Reg} {xx d : Dev} (hh : Only PP RR xx d) 
    (hP : ∀ p ∈ ([.twin] : List Part), p ∈ PP) (hR : ∀ r ∈ ([.TB_HB_STAT, .TB_TAKEOVER] : List Reg), r ∈ RR) :
    Only PP RR xx (Dev.endFreeze d) := hh.andThen (only_endFreeze d) hP hR
theorem only_judgeRelock (d : Dev) : Only [.twin, .syns, .outs, .counters, .latches, .ring, .log, .pcie, .sw, .ports, .sys, .sent] [.ALM_ACTIVE, .ALM_LATCH, .LANE_QUAD_STAT, .OUT_STAT, .PWR_PORT_STAT, .PWR_STAT, .SW_BUF_GATED, .SYN_CMD, .SYN_STAT, .TB_HB_STAT, .TB_TAKEOVER] d (Dev.judgeRelock d) := by
  unfold Dev.judgeRelock
  (try dsimp only)
  repeat' first
    | with_reducible exact Only.refl
    | with_reducible refine Only.endFreeze ?_ (by decide) (by decide)
    | with_reducible refine Only.thawClocks ?_ (by decide) (by decide)
    | split
    | dsimp only
theorem Only.judgeRelock {PP : List Part} {RR : List Reg} {xx d : Dev} (hh : Only PP RR xx d) 
    (hP : ∀ p ∈ ([.twin, .syns, .outs, .counters, .latches, .ring, .log, .pcie, .sw, .ports, .sys, .sent] : List Part), p ∈ PP) (hR : ∀ r ∈ ([.ALM_ACTIVE, .ALM_LATCH, .LANE_QUAD_STAT, .OUT_STAT, .PWR_PORT_STAT, .PWR_STAT, .SW_BUF_GATED, .SYN_CMD, .SYN_STAT, .TB_HB_STAT, .TB_TAKEOVER] : List Reg), r ∈ RR) :
    Only PP RR xx (Dev.judgeRelock d) := hh.andThen (only_judgeRelock d) hP hR
theorem only_takeUnmirrored (d : Dev) (o : TbId) : Only [.mir, .cands, .twin, .counters, .latches, .ring, .log, .pcie, .sent, .freeCtr] [.ALM_ACTIVE, .ALM_LATCH, .RSEL_CAND_FREQ, .TB_TCMD] d (Dev.takeUnmirrored d o) := by
  unfold Dev.takeUnmirrored
  (try dsimp only)
  repeat' first
    | with_reducible exact Only.refl
    | with_reducible refine Only.onMir ?_ _ (by decide)
    | with_reducible refine Only.raise ?_ _ (by decide)
    | with_reducible refine Only.passRole ?_ _ _ (by decide) (by decide)
    | split
    | dsimp only
  all_goals first
    | with_reducible refine Only.upd_freeCtr ?_ _ (by decide)
    | skip
  all_goals (repeat' first
      | with_reducible exact Only.refl
      | with_reducible refine Only.onMir ?_ _ (by decide)
      | with_reducible refine Only.raise ?_ _ (by decide)
      | with_reducible refine Only.passRole ?_ _ _ (by decide) (by decide)
      | split
      | dsimp only)
  all_goals first
    | with_reducible refine Only.upd_freeCtr ?_ _ (by decide)
    | skip
  all_goals (repeat' first
      | with_reducible exact Only.refl
      | with_reducible refine Only.onMir ?_ _ (by decide)
      | with_reducible refine Only.raise ?_ _ (by decide)
      | with_reducible refine Only.passRole ?_ _ _ (by decide) (by decide)
      | split
      | dsimp only)
theorem Only.takeUnmirrored {PP : List Part} {RR : List Reg} {xx d : Dev} (hh : Only PP RR xx d) (o : TbId)
    (hP : ∀ p ∈ ([.mir, .cands, .twin, .counters, .latches, .ring, .log, .pcie, .sent, .freeCtr] : List Part), p ∈ PP) (hR : ∀ r ∈ ([.ALM_ACTIVE, .ALM_LATCH, .RSEL_CAND_FREQ, .TB_TCMD] : List Reg), r ∈ RR) :
    Only PP RR xx (Dev.takeUnmirrored d o) := hh.andThen (only_takeUnmirrored d o) hP hR
theorem only_failureDeclared (d : Dev) : Only [.tbA, .tbB, .mir, .rsel, .cands, .twin, .syns, .outs, .chans, .cpMail, .counters, .latches, .ring, .log, .pcie, .sw, .ports, .ptus, .insts, .tio, .sys, .sent, .freeCtr] [.ALM_ACTIVE, .ALM_LATCH, .LANE_PARTNER_DOM, .LANE_PARTNER_ID_HI, .LANE_PARTNER_ID_LO, .LANE_PARTNER_INFO, .LANE_QUAD_CFG, .LANE_QUAD_STAT, .LANE_STAT, .LANE_TEST, .OUT_STAT, .PRT_GATE_STAT, .PRT_PTU_STAT, .PRT_Q_PTX, .PRT_Q_STAT, .PRT_REV_STAT, .PWR_PORT_STAT, .PWR_STAT, .RECOV_W4, .RSEL_CAND_FREQ, .RSEL_CAND_STAT, .SEQGEN_W0, .SW_BUF_GATED, .SYN_CMD, .SYN_STAT, .TB_HB_STAT, .TB_ROLE, .TB_TAKEOVER, .TB_TCMD, .TB_TSTAT, .TB_TWIN_CMD, .TIO_STAT] d (Dev.failureDeclared d) := by
  unfold Dev.failureDeclared
  (try dsimp only)
  repeat' first
    | with_reducible exact Only.refl
    | with_reducible refine Only.onTwin ?_ _ (by decide)
    | with_reducible refine Only.raise ?_ _ (by decide)
    | with_reducible refine Only.cond ?_ _ _ (by decide)
    | with_reducible refine Only.countDev ?_ _ _ (by decide)
    | with_reducible refine Only.enterNone ?_ (by decide) (by decide)
    | with_reducible refine Only.judgeRelock ?_ (by decide) (by decide)
    | with_reducible refine Only.passActive ?_ _ _ (by decide) (by decide)
    | with_reducible refine Only.retireTb ?_ _ (by decide) (by decide)
    | with_reducible refine Only.setTakeover ?_ _ _ _ _ _ _ (by decide) (by decide)
    | with_reducible refine Only.supersede ?_ (by decide) (by decide)
    | with_reducible refine Only.takeCheckpoint ?_ (by decide) (by decide)
    | with_reducible refine Only.takeUnmirrored ?_ _ (by decide) (by decide)
    | with_reducible refine Only.when ?_ _ _ ?_
    | split
    | dsimp only
theorem Only.failureDeclared {PP : List Part} {RR : List Reg} {xx d : Dev} (hh : Only PP RR xx d) 
    (hP : ∀ p ∈ ([.tbA, .tbB, .mir, .rsel, .cands, .twin, .syns, .outs, .chans, .cpMail, .counters, .latches, .ring, .log, .pcie, .sw, .ports, .ptus, .insts, .tio, .sys, .sent, .freeCtr] : List Part), p ∈ PP) (hR : ∀ r ∈ ([.ALM_ACTIVE, .ALM_LATCH, .LANE_PARTNER_DOM, .LANE_PARTNER_ID_HI, .LANE_PARTNER_ID_LO, .LANE_PARTNER_INFO, .LANE_QUAD_CFG, .LANE_QUAD_STAT, .LANE_STAT, .LANE_TEST, .OUT_STAT, .PRT_GATE_STAT, .PRT_PTU_STAT, .PRT_Q_PTX, .PRT_Q_STAT, .PRT_REV_STAT, .PWR_PORT_STAT, .PWR_STAT, .RECOV_W4, .RSEL_CAND_FREQ, .RSEL_CAND_STAT, .SEQGEN_W0, .SW_BUF_GATED, .SYN_CMD, .SYN_STAT, .TB_HB_STAT, .TB_ROLE, .TB_TAKEOVER, .TB_TCMD, .TB_TSTAT, .TB_TWIN_CMD, .TIO_STAT] : List Reg), r ∈ RR) :
    Only PP RR xx (Dev.failureDeclared d) := hh.andThen (only_failureDeclared d) hP hR
theorem only_handover (d : Dev) : Only [.tbA, .tbB, .mir, .cands, .twin, .counters, .latches, .ring, .log, .pcie, .sent, .freeCtr] [.ALM_ACTIVE, .ALM_LATCH, .RSEL_CAND_FREQ, .SEQGEN_W0, .TB_ROLE, .TB_TAKEOVER, .TB_TCMD, .TB_TWIN_CMD] d (Dev.handover d) := by
  unfold Dev.handover
  (try dsimp only)
  repeat' first
    | with_reducible exact Only.refl
    | with_reducible refine Only.set ?_ _ _ _ (by decide)
    | with_reducible refine Only.onTwin ?_ _ (by decide)
    | with_reducible refine Only.onTb ?_ _ _ (by decide) (by decide)
    | with_reducible refine Only.countDev ?_ _ _ (by decide)
    | with_reducible refine Only.judgeRevert ?_ (by decide) (by decide)
    | with_reducible refine Only.passActive ?_ _ _ (by decide) (by decide)
    | with_reducible refine Only.setRole ?_ _ _ (by decide) (by decide)
    | with_reducible refine Only.setTakeover ?_ _ _ _ _ _ _ (by decide) (by decide)
    | with_reducible refine Only.stopRevert ?_ (by decide) (by decide)
    | with_reducible refine Only.takeCheckpoint ?_ (by decide) (by decide)
    | with_reducible refine Only.twinAlarms ?_ (by decide) (by decide)
    | with_reducible refine Only.when ?_ _ _ ?_
    | split
    | dsimp only
theorem Only.handover {PP : List Part} {RR : List Reg} {xx d : Dev} (hh : Only PP RR xx d) 
    (hP : ∀ p ∈ ([.tbA, .tbB, .mir, .cands, .twin, .counters, .latches, .ring, .log, .pcie, .sent, .freeCtr] : List Part), p ∈ PP) (hR : ∀ r ∈ ([.ALM_ACTIVE, .ALM_LATCH, .RSEL_CAND_FREQ, .SEQGEN_W0, .TB_ROLE, .TB_TAKEOVER, .TB_TCMD, .TB_TWIN_CMD] : List Reg), r ∈ RR) :
    Only PP RR xx (Dev.handover d) := hh.andThen (only_handover d) hP hR
theorem only_judgePinRevert (d : Dev) : Only [.tbA, .tbB, .mir, .cands, .twin, .counters, .latches, .ring, .log, .pcie, .sent, .freeCtr] [.ALM_ACTIVE, .ALM_LATCH, .RSEL_CAND_FREQ, .SEQGEN_W0, .TB_ROLE, .TB_TAKEOVER, .TB_TCMD, .TB_TWIN_CMD] d (Dev.judgePinRevert d) := by
  unfold Dev.judgePinRevert
  (try dsimp only)
  repeat' first
    | with_reducible exact Only.refl
    | with_reducible refine Only.onTwin ?_ _ (by decide)
    | with_reducible refine Only.handover ?_ (by decide) (by decide)
    | with_reducible refine Only.when ?_ _ _ ?_
    | split
    | dsimp only
theorem Only.judgePinRevert {PP : List Part} {RR : List Reg} {xx d : Dev} (hh : Only PP RR xx d) 
    (hP : ∀ p ∈ ([.tbA, .tbB, .mir, .cands, .twin, .counters, .latches, .ring, .log, .pcie, .sent, .freeCtr] : List Part), p ∈ PP) (hR : ∀ r ∈ ([.ALM_ACTIVE, .ALM_LATCH, .RSEL_CAND_FREQ, .SEQGEN_W0, .TB_ROLE, .TB_TAKEOVER, .TB_TCMD, .TB_TWIN_CMD] : List Reg), r ∈ RR) :
    Only PP RR xx (Dev.judgePinRevert d) := hh.andThen (only_judgePinRevert d) hP hR
theorem only_revertExpired (d : Dev) : Only [.tbA, .tbB, .mir, .cands, .twin, .counters, .latches, .ring, .log, .pcie, .sent, .freeCtr] [.ALM_ACTIVE, .ALM_LATCH, .RSEL_CAND_FREQ, .SEQGEN_W0, .TB_ROLE, .TB_TAKEOVER, .TB_TCMD, .TB_TWIN_CMD] d (Dev.revertExpired d) := by
  unfold Dev.revertExpired
  (try dsimp only)
  repeat' first
    | with_reducible exact Only.refl
    | with_reducible refine Only.set ?_ _ _ _ (by decide)
    | with_reducible refine Only.onTwin ?_ _ (by decide)
    | with_reducible refine Only.judgePinRevert ?_ (by decide) (by decide)
    | split
    | dsimp only
theorem Only.revertExpired {PP : List Part} {RR : List Reg} {xx d : Dev} (hh : Only PP RR xx d) 
    (hP : ∀ p ∈ ([.tbA, .tbB, .mir, .cands, .twin, .counters, .latches, .ring, .log, .pcie, .sent, .freeCtr] : List Part), p ∈ PP) (hR : ∀ r ∈ ([.ALM_ACTIVE, .ALM_LATCH, .RSEL_CAND_FREQ, .SEQGEN_W0, .TB_ROLE, .TB_TAKEOVER, .TB_TCMD, .TB_TWIN_CMD] : List Reg), r ∈ RR) :
    Only PP RR xx (Dev.revertExpired d) := hh.andThen (only_revertExpired d) hP hR
theorem only_twinResult (d : Dev) (r : Nat) : Only [] [.TB_TWIN_CMD] d (Dev.twinResult d r) := by
  unfold Dev.twinResult
  (try dsimp only)
  repeat' first
    | with_reducible exact Only.refl
    | with_reducible refine Only.set ?_ _ _ _ (by decide)
    | split
    | dsimp only
theorem Only.twinResult {PP : List Part} {RR : List Reg} {xx d : Dev} (hh : Only PP RR xx d) (r : Nat)
    (hP : ∀ p ∈ ([] : List Part), p ∈ PP) (hR : ∀ r ∈ ([.TB_TWIN_CMD] : List Reg), r ∈ RR) :
    Only PP RR xx (Dev.twinResult d r) := hh.andThen (only_twinResult d r) hP hR
theorem only_twinSwitch (d : Dev) : Only [.twin] [.TB_ROLE, .TB_TWIN_CMD] d (Dev.twinSwitch d) := by
  unfold Dev.twinSwitch
  (try dsimp only)
  repeat' first
    | with_reducible exact Only.refl
    | with_reducible refine Only.set ?_ _ _ _ (by decide)
    | with_reducible refine Only.onTwin ?_ _ (by decide)
    | with_reducible refine Only.stopRevert ?_ (by decide) (by decide)
    | with_reducible refine Only.twinResult ?_ _ (by decide) (by decide)
    | split
    | dsimp only
theorem Only.twinSwitch {PP : List Part} {RR : List Reg} {xx d : Dev} (hh : Only PP RR xx d) 
    (hP : ∀ p ∈ ([.twin] : List Part), p ∈ PP) (hR : ∀ r ∈ ([.TB_ROLE, .TB_TWIN_CMD] : List Reg), r ∈ RR) :
    Only PP RR xx (Dev.twinSwitch d) := hh.andThen (only_twinSwitch d) hP hR
theorem only_standbyOff (d : Dev) : Only [.tbA, .tbB, .mir, .cands, .twin, .counters, .latches, .ring, .log, .pcie, .sent, .freeCtr] [.ALM_ACTIVE, .ALM_LATCH, .RSEL_CAND_FREQ, .SEQGEN_W0, .TB_ROLE, .TB_TAKEOVER, .TB_TCMD, .TB_TWIN_CMD] d (Dev.standbyOff d) := by
  unfold Dev.standbyOff
  (try dsimp only)
  repeat' first
    | with_reducible exact Only.refl
    | with_reducible refine Only.onTb ?_ _ _ (by decide) (by decide)
    | with_reducible refine Only.judgeRevert ?_ (by decide) (by decide)
    | with_reducible refine Only.setRole ?_ _ _ (by decide) (by decide)
    | with_reducible refine Only.twinAlarms ?_ (by decide) (by decide)
    | with_reducible refine Only.twinResult ?_ _ (by decide) (by decide)
    | split
    | dsimp only
theorem Only.standbyOff {PP : List Part} {RR : List Reg} {xx d : Dev} (hh : Only PP RR xx d) 
    (hP : ∀ p ∈ ([.tbA, .tbB, .mir, .cands, .twin, .counters, .latches, .ring, .log, .pcie, .sent, .freeCtr] : List Part), p ∈ PP) (hR : ∀ r ∈ ([.ALM_ACTIVE, .ALM_LATCH, .RSEL_CAND_FREQ, .SEQGEN_W0, .TB_ROLE, .TB_TAKEOVER, .TB_TCMD, .TB_TWIN_CMD] : List Reg), r ∈ RR) :
    Only PP RR xx (Dev.standbyOff d) := hh.andThen (only_standbyOff d) hP hR
theorem only_standbyOn (d : Dev) : Only [.tbA, .tbB, .twin, .counters, .latches, .ring, .log, .pcie, .sent] [.ALM_ACTIVE, .ALM_LATCH, .TB_ROLE, .TB_TWIN_CMD] d (Dev.standbyOn d) := by
  unfold Dev.standbyOn
  (try dsimp only)
  repeat' first
    | with_reducible exact Only.refl
    | with_reducible refine Only.alignStandby ?_ _ (by decide) (by decide)
    | with_reducible refine Only.twinResult ?_ _ (by decide) (by decide)
    | split
    | dsimp only
theorem Only.standbyOn {PP : List Part} {RR : List Reg} {xx d : Dev} (hh : Only PP RR xx d) 
    (hP : ∀ p ∈ ([.tbA, .tbB, .twin, .counters, .latches, .ring, .log, .pcie, .sent] : List Part), p ∈ PP) (hR : ∀ r ∈ ([.ALM_ACTIVE, .ALM_LATCH, .TB_ROLE, .TB_TWIN_CMD] : List Reg), r ∈ RR) :
    Only PP RR xx (Dev.standbyOn d) := hh.andThen (only_standbyOn d) hP hR
theorem only_setX (d : Dev) (x : Int) : Only [.tbA, .tbB, .twin] [] d (Dev.setX d x) := by
  unfold Dev.setX
  (try dsimp only)
  repeat' first
    | with_reducible exact Only.refl
    | with_reducible refine Only.onTwin ?_ _ (by decide)
    | with_reducible refine Only.onTb ?_ _ _ (by decide) (by decide)
    | split
    | dsimp only
theorem Only.setX {PP : List Part} {RR : List Reg} {xx d : Dev} (hh : Only PP RR xx d) (x : Int)
    (hP : ∀ p ∈ ([.tbA, .tbB, .twin] : List Part), p ∈ PP) (hR : ∀ r ∈ ([] : List Reg), r ∈ RR) :
    Only PP RR xx (Dev.setX d x) := hh.andThen (only_setX d x) hP hR
theorem only_standbyLoad (d : Dev) (x : Int) : Only [.tbA, .tbB, .twin] [] d (Dev.standbyLoad d x) := by
  unfold Dev.standbyLoad
  (try dsimp only)
  repeat' first
    | with_reducible exact Only.refl
    | with_reducible refine Only.onTb ?_ _ _ (by decide) (by decide)
    | with_reducible refine Only.setX ?_ _ (by decide) (by decide)
    | split
    | dsimp only
theorem Only.standbyLoad {PP : List Part} {RR : List Reg} {xx d : Dev} (hh : Only PP RR xx d) (x : Int)
    (hP : ∀ p ∈ ([.tbA, .tbB, .twin] : List Part), p ∈ PP) (hR : ∀ r ∈ ([] : List Reg), r ∈ RR) :
    Only PP RR xx (Dev.standbyLoad d x) := hh.andThen (only_standbyLoad d x) hP hR
theorem only_standbyTracking (d : Dev) (x : Int) : Only [.tbA, .tbB, .twin] [.TB_ROLE] d (Dev.standbyTracking d x) := by
  unfold Dev.standbyTracking
  (try dsimp only)
  repeat' first
    | with_reducible exact Only.refl
    | with_reducible refine Only.onTwin ?_ _ (by decide)
    | with_reducible refine Only.setRole ?_ _ _ (by decide) (by decide)
    | with_reducible refine Only.setX ?_ _ (by decide) (by decide)
    | split
    | dsimp only
theorem Only.standbyTracking {PP : List Part} {RR : List Reg} {xx d : Dev} (hh : Only PP RR xx d) (x : Int)
    (hP : ∀ p ∈ ([.tbA, .tbB, .twin] : List Part), p ∈ PP) (hR : ∀ r ∈ ([.TB_ROLE] : List Reg), r ∈ RR) :
    Only PP RR xx (Dev.standbyTracking d x) := hh.andThen (only_standbyTracking d x) hP hR
theorem only_standbyReady (d : Dev) (x : Int) : Only [.tbA, .tbB, .mir, .cands, .twin, .counters, .latches, .ring, .log, .pcie, .sent, .freeCtr] [.ALM_ACTIVE, .ALM_LATCH, .RSEL_CAND_FREQ, .SEQGEN_W0, .TB_ROLE, .TB_TAKEOVER, .TB_TCMD, .TB_TWIN_CMD] d (Dev.standbyReady d x) := by
  unfold Dev.standbyReady
  (try dsimp only)
  repeat' first
    | with_reducible exact Only.refl
    | with_reducible refine Only.judgeRevert ?_ (by decide) (by decide)
    | with_reducible refine Only.setRole ?_ _ _ (by decide) (by decide)
    | with_reducible refine Only.setX ?_ _ (by decide) (by decide)
    | with_reducible refine Only.twinAlarms ?_ (by decide) (by decide)
    | split
    | dsimp only
theorem Only.standbyReady {PP : List Part} {RR : List Reg} {xx d : Dev} (hh : Only PP RR xx d) (x : Int)
    (hP : ∀ p ∈ ([.tbA, .tbB, .mir, .cands, .twin, .counters, .latches, .ring, .log, .pcie, .sent, .freeCtr] : List Part), p ∈ PP) (hR : ∀ r ∈ ([.ALM_ACTIVE, .ALM_LATCH, .RSEL_CAND_FREQ, .SEQGEN_W0, .TB_ROLE, .TB_TAKEOVER, .TB_TCMD, .TB_TWIN_CMD] : List Reg), r ∈ RR) :
    Only PP RR xx (Dev.standbyReady d x) := hh.andThen (only_standbyReady d x) hP hR
theorem only_standbyLost (d : Dev) (x : Int) : Only [.tbA, .tbB, .mir, .cands, .twin, .counters, .latches, .ring, .log, .pcie, .sent, .freeCtr] [.ALM_ACTIVE, .ALM_LATCH, .RSEL_CAND_FREQ, .SEQGEN_W0, .TB_ROLE, .TB_TAKEOVER, .TB_TCMD, .TB_TWIN_CMD] d (Dev.standbyLost d x) := by
  unfold Dev.standbyLost
  (try dsimp only)
  repeat' first
    | with_reducible exact Only.refl
    | with_reducible refine Only.judgeRevert ?_ (by decide) (by decide)
    | with_reducible refine Only.setRole ?_ _ _ (by decide) (by decide)
    | with_reducible refine Only.setX ?_ _ (by decide) (by decide)
    | split
    | dsimp only
theorem Only.standbyLost {PP : List Part} {RR : List Reg} {xx d : Dev} (hh : Only PP RR xx d) (x : Int)
    (hP : ∀ p ∈ ([.tbA, .tbB, .mir, .cands, .twin, .counters, .latches, .ring, .log, .pcie, .sent, .freeCtr] : List Part), p ∈ PP) (hR : ∀ r ∈ ([.ALM_ACTIVE, .ALM_LATCH, .RSEL_CAND_FREQ, .SEQGEN_W0, .TB_ROLE, .TB_TAKEOVER, .TB_TCMD, .TB_TWIN_CMD] : List Reg), r ∈ RR) :
    Only PP RR xx (Dev.standbyLost d x) := hh.andThen (only_standbyLost d x) hP hR
theorem only_standbyFault (d : Dev) (watchdog : Bool) : Only [.tbA, .tbB, .mir, .cands, .twin, .chans, .counters, .latches, .ring, .log, .pcie, .sent, .freeCtr] [.ALM_ACTIVE, .ALM_LATCH, .RSEL_CAND_FREQ, .SEQGEN_W0, .TB_ROLE, .TB_TAKEOVER, .TB_TCMD, .TB_TWIN_CMD] d (Dev.standbyFault d watchdog) := by
  unfold Dev.standbyFault
  (try dsimp only)
  repeat' first
    | with_reducible exact Only.refl
    | with_reducible refine Only.countDev ?_ _ _ (by decide)
    | with_reducible refine Only.memError ?_ _ _ (by decide)
    | with_reducible refine Only.restartParty ?_ _ (by decide) (by decide)
    | with_reducible refine Only.retireTb ?_ _ (by decide) (by decide)
    | split
    | dsimp only
theorem Only.standbyFault {PP : List Part} {RR : List Reg} {xx d : Dev} (hh : Only PP RR xx d) (watchdog : Bool)
    (hP : ∀ p ∈ ([.tbA, .tbB, .mir, .cands, .twin, .chans, .counters, .latches, .ring, .log, .pcie, .sent, .freeCtr] : List Part), p ∈ PP) (hR : ∀ r ∈ ([.ALM_ACTIVE, .ALM_LATCH, .RSEL_CAND_FREQ, .SEQGEN_W0, .TB_ROLE, .TB_TAKEOVER, .TB_TCMD, .TB_TWIN_CMD] : List Reg), r ∈ RR) :
    Only PP RR xx (Dev.standbyFault d watchdog) := hh.andThen (only_standbyFault d watchdog) hP hR
theorem only_standbyNotReady (d : Dev) : Only [.counters, .latches, .ring, .log, .pcie, .sent] [.ALM_ACTIVE, .ALM_LATCH] d (Dev.standbyNotReady d) := by
  unfold Dev.standbyNotReady
  (try dsimp only)
  repeat' first
    | with_reducible exact Only.refl
    | with_reducible refine Only.cond ?_ _ _ (by decide)
    | with_reducible refine Only.when ?_ _ _ ?_
    | split
    | dsimp only
theorem Only.standbyNotReady {PP : List Part} {RR : List Reg} {xx d : Dev} (hh : Only PP RR xx d) 
    (hP : ∀ p ∈ ([.counters, .latches, .ring, .log, .pcie, .sent] : List Part), p ∈ PP) (hR : ∀ r ∈ ([.ALM_ACTIVE, .ALM_LATCH] : List Reg), r ∈ RR) :
    Only PP RR xx (Dev.standbyNotReady d) := hh.andThen (only_standbyNotReady d) hP hR
theorem only_checkpoint (d : Dev) (verified : Bool) : Only [.tbA, .tbB, .mir, .cands, .twin, .counters, .latches, .ring, .log, .pcie, .sent, .freeCtr] [.ALM_ACTIVE, .ALM_LATCH, .RSEL_CAND_FREQ, .SEQGEN_W0, .TB_ROLE, .TB_TAKEOVER, .TB_TCMD, .TB_TWIN_CMD] d (Dev.checkpoint d verified) := by
  unfold Dev.checkpoint
  (try dsimp only)
  repeat' first
    | with_reducible exact Only.refl
    | with_reducible refine Only.judgeRevert ?_ (by decide) (by decide)
    | with_reducible refine Only.setRole ?_ _ _ (by decide) (by decide)
    | with_reducible refine Only.verify ?_ _ (by decide) (by decide)
    | with_reducible refine Only.writeCheckpoint ?_ (by decide) (by decide)
    | with_reducible refine Only.when ?_ _ _ ?_
    | split
    | dsimp only
theorem Only.checkpoint {PP : List Part} {RR : List Reg} {xx d : Dev} (hh : Only PP RR xx d) (verified : Bool)
    (hP : ∀ p ∈ ([.tbA, .tbB, .mir, .cands, .twin, .counters, .latches, .ring, .log, .pcie, .sent, .freeCtr] : List Part), p ∈ PP) (hR : ∀ r ∈ ([.ALM_ACTIVE, .ALM_LATCH, .RSEL_CAND_FREQ, .SEQGEN_W0, .TB_ROLE, .TB_TAKEOVER, .TB_TCMD, .TB_TWIN_CMD] : List Reg), r ∈ RR) :
    Only PP RR xx (Dev.checkpoint d verified) := hh.andThen (only_checkpoint d verified) hP hR

/-! ## Synth -/

theorem only_lockDeclared (d : Dev) (i : Nat) : Only [.twin, .syns, .outs, .counters, .latches, .ring, .log, .pcie, .sw, .ports, .tio, .sys, .sent] [.ALM_ACTIVE, .ALM_LATCH, .LANE_QUAD_STAT, .OUT_STAT, .PWR_PORT_STAT, .PWR_STAT, .SW_BUF_GATED, .SYN_CMD, .SYN_STAT, .TB_HB_STAT, .TB_TAKEOVER, .TIO_STAT] d (Dev.lockDeclared d i) := by
  unfold Dev.lockDeclared
  (try dsimp only)
  repeat' first
    | with_reducible exact Only.refl
    | with_reducible refine Only.synBit ?_ _ _ _ (by decide) (by decide)
    | with_reducible refine Only.beginPair ?_ _ (by decide) (by decide)
    | with_reducible refine Only.judgeRelock ?_ (by decide) (by decide)
    | with_reducible refine Only.onSyn ?_ _ _ (by decide) (by decide)
    | with_reducible refine Only.refreshReadies ?_ (by decide) (by decide)
    | split
    | dsimp only
theorem Only.lockDeclared {PP : List Part} {RR : List Reg} {xx d : Dev} (hh : Only PP RR xx d) (i : Nat)
    (hP : ∀ p ∈ ([.twin, .syns, .outs, .counters, .latches, .ring, .log, .pcie, .sw, .ports, .tio, .sys, .sent] : List Part), p ∈ PP) (hR : ∀ r ∈ ([.ALM_ACTIVE, .ALM_LATCH, .LANE_QUAD_STAT, .OUT_STAT, .PWR_PORT_STAT, .PWR_STAT, .SW_BUF_GATED, .SYN_CMD, .SYN_STAT, .TB_HB_STAT, .TB_TAKEOVER, .TIO_STAT] : List Reg), r ∈ RR) :
    Only PP RR xx (Dev.lockDeclared d i) := hh.andThen (only_lockDeclared d i) hP hR
theorem only_retireSyn (d : Dev) (i : Nat) : Only [.cands, .syns, .outs, .chans, .cpMail, .counters, .latches, .ring, .log, .pcie, .sw, .ports, .ptus, .insts, .tio, .sys, .sent, .freeCtr] [.ALM_ACTIVE, .ALM_LATCH, .LANE_PARTNER_DOM, .LANE_PARTNER_ID_HI, .LANE_PARTNER_ID_LO, .LANE_PARTNER_INFO, .LANE_QUAD_CFG, .LANE_QUAD_STAT, .LANE_STAT, .LANE_TEST, .OUT_CMD, .OUT_STAT, .PRT_GATE_STAT, .PRT_PTU_STAT, .PRT_Q_PTX, .PRT_Q_STAT, .PRT_REV_STAT, .PWR_PORT_STAT, .PWR_STAT, .RECOV_W4, .RSEL_CAND_STAT, .SW_BUF_GATED, .SYN_CMD, .SYN_STAT, .TIO_STAT] d (Dev.retireSyn d i) := by
  unfold Dev.retireSyn
  (try dsimp only)
  repeat' first
    | with_reducible exact Only.refl
    | with_reducible refine Only.set ?_ _ _ _ (by decide)
    | with_reducible refine Only.synBit ?_ _ _ _ (by decide) (by decide)
    | with_reducible refine Only.outBit ?_ _ _ _ (by decide) (by decide)
    | with_reducible refine Only.logAdd ?_ _ _ _ _ (by decide)
    | with_reducible refine Only.endStep ?_ _ _ (by decide) (by decide)
    | with_reducible refine Only.lpllLost ?_ _ (by decide) (by decide)
    | with_reducible refine Only.refreshOut ?_ _ (by decide) (by decide)
    | with_reducible refine Only.stopFast ?_ (by decide) (by decide)
    | with_reducible refine Only.stopSyn ?_ _ (by decide) (by decide)
    | with_reducible refine Only.synAlarm ?_ (by decide) (by decide)
    | with_reducible refine Only.tioClockLost ?_ (by decide) (by decide)
    | with_reducible refine Only.when ?_ _ _ ?_
    | with_reducible refine Only.each ?_ _ _ (fun _ _ => ?_)
    | split
    | dsimp only
theorem Only.retireSyn {PP : List Part} {RR : List Reg} {xx d : Dev} (hh : Only PP RR xx d) (i : Nat)
    (hP : ∀ p ∈ ([.cands, .syns, .outs, .chans, .cpMail, .counters, .latches, .ring, .log, .pcie, .sw, .ports, .ptus, .insts, .tio, .sys, .sent, .freeCtr] : List Part), p ∈ PP) (hR : ∀ r ∈ ([.ALM_ACTIVE, .ALM_LATCH, .LANE_PARTNER_DOM, .LANE_PARTNER_ID_HI, .LANE_PARTNER_ID_LO, .LANE_PARTNER_INFO, .LANE_QUAD_CFG, .LANE_QUAD_STAT, .LANE_STAT, .LANE_TEST, .OUT_CMD, .OUT_STAT, .PRT_GATE_STAT, .PRT_PTU_STAT, .PRT_Q_PTX, .PRT_Q_STAT, .PRT_REV_STAT, .PWR_PORT_STAT, .PWR_STAT, .RECOV_W4, .RSEL_CAND_STAT, .SW_BUF_GATED, .SYN_CMD, .SYN_STAT, .TIO_STAT] : List Reg), r ∈ RR) :
    Only PP RR xx (Dev.retireSyn d i) := hh.andThen (only_retireSyn d i) hP hR
theorem only_synUnlock (d : Dev) (i : Nat) : Only [.cands, .twin, .syns, .outs, .chans, .cpMail, .counters, .latches, .ring, .log, .pcie, .sw, .ports, .ptus, .insts, .tio, .sys, .sent, .freeCtr] [.ALM_ACTIVE, .ALM_LATCH, .LANE_PARTNER_DOM, .LANE_PARTNER_ID_HI, .LANE_PARTNER_ID_LO, .LANE_PARTNER_INFO, .LANE_QUAD_CFG, .LANE_QUAD_STAT, .LANE_STAT, .LANE_TEST, .OUT_CMD, .OUT_STAT, .PRT_GATE_STAT, .PRT_PTU_STAT, .PRT_Q_PTX, .PRT_Q_STAT, .PRT_REV_STAT, .PWR_PORT_STAT, .PWR_STAT, .RECOV_W4, .RSEL_CAND_STAT, .SW_BUF_GATED, .SYN_CMD, .SYN_STAT, .TB_HB_STAT, .TB_TAKEOVER, .TIO_STAT] d (Dev.synUnlock d i) := by
  unfold Dev.synUnlock
  (try dsimp only)
  repeat' first
    | with_reducible exact Only.refl
    | with_reducible refine Only.synBit ?_ _ _ _ (by decide) (by decide)
    | with_reducible refine Only.endStep ?_ _ _ (by decide) (by decide)
    | with_reducible refine Only.judgeRelock ?_ (by decide) (by decide)
    | with_reducible refine Only.retireSyn ?_ _ (by decide) (by decide)
    | with_reducible refine Only.squelch ?_ _ (by decide) (by decide)
    | split
    | dsimp only
theorem Only.synUnlock {PP : List Part} {RR : List Reg} {xx d : Dev} (hh : Only PP RR xx d) (i : Nat)
    (hP : ∀ p ∈ ([.cands, .twin, .syns, .outs, .chans, .cpMail, .counters, .latches, .ring, .log, .pcie, .sw, .ports, .ptus, .insts, .tio, .sys, .sent, .freeCtr] : List Part), p ∈ PP) (hR : ∀ r ∈ ([.ALM_ACTIVE, .ALM_LATCH, .LANE_PARTNER_DOM, .LANE_PARTNER_ID_HI, .LANE_PARTNER_ID_LO, .LANE_PARTNER_INFO, .LANE_QUAD_CFG, .LANE_QUAD_STAT, .LANE_STAT, .LANE_TEST, .OUT_CMD, .OUT_STAT, .PRT_GATE_STAT, .PRT_PTU_STAT, .PRT_Q_PTX, .PRT_Q_STAT, .PRT_REV_STAT, .PWR_PORT_STAT, .PWR_STAT, .RECOV_W4, .RSEL_CAND_STAT, .SW_BUF_GATED, .SYN_CMD, .SYN_STAT, .TB_HB_STAT, .TB_TAKEOVER, .TIO_STAT] : List Reg), r ∈ RR) :
    Only PP RR xx (Dev.synUnlock d i) := hh.andThen (only_synUnlock d i) hP hR

/-! ## Power -/

theorem only_fastStop (d : Dev) : Only [.cands, .syns, .outs, .chans, .cpMail, .counters, .latches, .ring, .log, .pcie, .sw, .ports, .ptus, .insts, .sys, .sent, .freeCtr] [.ALM_ACTIVE, .ALM_LATCH, .LANE_PARTNER_DOM, .LANE_PARTNER_ID_HI, .LANE_PARTNER_ID_LO, .LANE_PARTNER_INFO, .LANE_QUAD_CFG, .LANE_QUAD_STAT, .LANE_STAT, .LANE_TEST, .OUT_STAT, .PRT_GATE_STAT, .PRT_PTU_STAT, .PRT_Q_PTX, .PRT_Q_STAT, .PRT_REV_STAT, .PWR_FAST_CMD, .PWR_PORT_STAT, .PWR_STAT, .RECOV_W4, .RSEL_CAND_STAT, .SW_BUF_GATED, .SYN_CMD, .SYN_STAT] d (Dev.fastStop d) := by
  unfold Dev.fastStop
  (try dsimp only)
  repeat' first
    | with_reducible exact Only.refl
    | with_reducible refine Only.set ?_ _ _ _ (by decide)
    | with_reducible refine Only.stopFast ?_ (by decide) (by decide)
    | split
    | dsimp only
theorem Only.fastStop {PP : List Part} {RR : List Reg} {xx d : Dev} (hh : Only PP RR xx d) 
    (hP : ∀ p ∈ ([.cands, .syns, .outs, .chans, .cpMail, .counters, .latches, .ring, .log, .pcie, .sw, .ports, .ptus, .insts, .sys, .sent, .freeCtr] : List Part), p ∈ PP) (hR : ∀ r ∈ ([.ALM_ACTIVE, .ALM_LATCH, .LANE_PARTNER_DOM, .LANE_PARTNER_ID_HI, .LANE_PARTNER_ID_LO, .LANE_PARTNER_INFO, .LANE_QUAD_CFG, .LANE_QUAD_STAT, .LANE_STAT, .LANE_TEST, .OUT_STAT, .PRT_GATE_STAT, .PRT_PTU_STAT, .PRT_Q_PTX, .PRT_Q_STAT, .PRT_REV_STAT, .PWR_FAST_CMD, .PWR_PORT_STAT, .PWR_STAT, .RECOV_W4, .RSEL_CAND_STAT, .SW_BUF_GATED, .SYN_CMD, .SYN_STAT] : List Reg), r ∈ RR) :
    Only PP RR xx (Dev.fastStop d) := hh.andThen (only_fastStop d) hP hR
theorem only_judgeLpll (d : Dev) (k : Nat) : Only [.syns, .outs, .counters, .latches, .ring, .log, .pcie, .sys, .sent] [.ALM_ACTIVE, .ALM_LATCH, .OUT_STAT, .SYN_CMD, .SYN_STAT] d (Dev.judgeLpll d k) := by
  unfold Dev.judgeLpll
  (try dsimp only)
  repeat' first
    | with_reducible exact Only.refl
    | with_reducible refine Only.restartLpll ?_ _ (by decide) (by decide)
    | split
    | dsimp only
theorem Only.judgeLpll {PP : List Part} {RR : List Reg} {xx d : Dev} (hh : Only PP RR xx d) (k : Nat)
    (hP : ∀ p ∈ ([.syns, .outs, .counters, .latches, .ring, .log, .pcie, .sys, .sent] : List Part), p ∈ PP) (hR : ∀ r ∈ ([.ALM_ACTIVE, .ALM_LATCH, .OUT_STAT, .SYN_CMD, .SYN_STAT] : List Reg), r ∈ RR) :
    Only PP RR xx (Dev.judgeLpll d k) := hh.andThen (only_judgeLpll d k) hP hR
theorem only_latWrite (d : Dev) (p : Nat) (t : LatTarget) (v : Word) : Only [.syns, .outs, .counters, .latches, .ring, .log, .pcie, .sw, .ports, .sys, .sent] [.ALM_ACTIVE, .ALM_LATCH, .LANE_QUAD_STAT, .OUT_STAT, .PWR_LAT, .PWR_PORT_CFG, .PWR_PORT_STAT, .PWR_STAT, .SW_BUF_GATED, .SYN_CMD, .SYN_STAT] d (Dev.latWrite d p t v) := by
  unfold Dev.latWrite
  (try dsimp only)
  repeat' first
    | with_reducible exact Only.refl
    | with_reducible refine Only.set ?_ _ _ _ (by decide)
    | with_reducible refine Only.store ?_ _ _ _ (by decide)
    | with_reducible refine Only.judgeLpll ?_ _ (by decide) (by decide)
    | with_reducible refine Only.judgeSleep ?_ _ (by decide) (by decide)
    | split
    | dsimp only
theorem Only.latWrite {PP : List Part} {RR : List Reg} {xx d : Dev} (hh : Only PP RR xx d) (p : Nat) (t : LatTarget) (v : Word)
    (hP : ∀ p ∈ ([.syns, .outs, .counters, .latches, .ring, .log, .pcie, .sw, .ports, .sys, .sent] : List Part), p ∈ PP) (hR : ∀ r ∈ ([.ALM_ACTIVE, .ALM_LATCH, .LANE_QUAD_STAT, .OUT_STAT, .PWR_LAT, .PWR_PORT_CFG, .PWR_PORT_STAT, .PWR_STAT, .SW_BUF_GATED, .SYN_CMD, .SYN_STAT] : List Reg), r ∈ RR) :
    Only PP RR xx (Dev.latWrite d p t v) := hh.andThen (only_latWrite d p t v) hP hR
theorem only_gateCfgWrite (d : Dev) (v : Word) : Only [.syns, .outs, .counters, .latches, .ring, .log, .pcie, .sw, .sys, .sent] [.ALM_ACTIVE, .ALM_LATCH, .OUT_STAT, .PWR_GATE_CFG, .PWR_STAT, .SW_BUF_GATED, .SYN_CMD, .SYN_STAT] d (Dev.gateCfgWrite d v) := by
  unfold Dev.gateCfgWrite
  (try dsimp only)
  repeat' first
    | with_reducible exact Only.refl
    | with_reducible refine Only.store ?_ _ _ _ (by decide)
    | with_reducible refine Only.onSys ?_ _ (by decide)
    | with_reducible refine Only.judgeBanks ?_ (by decide) (by decide)
    | with_reducible refine Only.restartLpll ?_ _ (by decide) (by decide)
    | with_reducible refine Only.wakeCores ?_ (by decide) (by decide)
    | with_reducible refine Only.each ?_ _ _ (fun _ _ => ?_)
    | split
    | dsimp only
theorem Only.gateCfgWrite {PP : List Part} {RR : List Reg} {xx d : Dev} (hh : Only PP RR xx d) (v : Word)
    (hP : ∀ p ∈ ([.syns, .outs, .counters, .latches, .ring, .log, .pcie, .sw, .sys, .sent] : List Part), p ∈ PP) (hR : ∀ r ∈ ([.ALM_ACTIVE, .ALM_LATCH, .OUT_STAT, .PWR_GATE_CFG, .PWR_STAT, .SW_BUF_GATED, .SYN_CMD, .SYN_STAT] : List Reg), r ∈ RR) :
    Only PP RR xx (Dev.gateCfgWrite d v) := hh.andThen (only_gateCfgWrite d v) hP hR
theorem only_lpllStop (d : Dev) (k : Nat) : Only [.syns, .outs, .counters, .latches, .ring, .log, .pcie, .sys, .sent] [.ALM_ACTIVE, .ALM_LATCH, .OUT_STAT, .SYN_CMD, .SYN_STAT] d (Dev.lpllStop d k) := by
  unfold Dev.lpllStop
  (try dsimp only)
  repeat' first
    | with_reducible exact Only.refl
    | with_reducible refine Only.onSys ?_ _ (by decide)
    | with_reducible refine Only.countDev ?_ _ _ (by decide)
    | with_reducible refine Only.stopSyn ?_ _ (by decide) (by decide)
    | split
    | dsimp only
theorem Only.lpllStop {PP : List Part} {RR : List Reg} {xx d : Dev} (hh : Only PP RR xx d) (k : Nat)
    (hP : ∀ p ∈ ([.syns, .outs, .counters, .latches, .ring, .log, .pcie, .sys, .sent] : List Part), p ∈ PP) (hR : ∀ r ∈ ([.ALM_ACTIVE, .ALM_LATCH, .OUT_STAT, .SYN_CMD, .SYN_STAT] : List Reg), r ∈ RR) :
    Only PP RR xx (Dev.lpllStop d k) := hh.andThen (only_lpllStop d k) hP hR
theorem only_drainStart (d : Dev) : Only [.counters, .latches, .ring, .log, .pcie, .sw, .sent, .freeCtr] [.ALM_ACTIVE, .ALM_LATCH, .PWR_STAT, .SW_BUF_GATED] d (Dev.drainStart d) := by
  unfold Dev.drainStart
  (try dsimp only)
  repeat' first
    | with_reducible exact Only.refl
    | with_reducible refine Only.set ?_ _ _ _ (by decide)
    | with_reducible refine Only.spendFree ?_ (by decide)
    | with_reducible refine Only.countDev ?_ _ _ (by decide)
    | with_reducible refine Only.judgeBanks ?_ (by decide) (by decide)
    | split
    | dsimp only
theorem Only.drainStart {PP : List Part} {RR : List Reg} {xx d : Dev} (hh : Only PP RR xx d) 
    (hP : ∀ p ∈ ([.counters, .latches, .ring, .log, .pcie, .sw, .sent, .freeCtr] : List Part), p ∈ PP) (hR : ∀ r ∈ ([.ALM_ACTIVE, .ALM_LATCH, .PWR_STAT, .SW_BUF_GATED] : List Reg), r ∈ RR) :
    Only PP RR xx (Dev.drainStart d) := hh.andThen (only_drainStart d) hP hR
theorem only_bankGatedNow (d : Dev) : Only [.counters, .latches, .ring, .log, .pcie, .sw, .sent] [.ALM_ACTIVE, .ALM_LATCH, .PWR_STAT, .SW_BUF_GATED] d (Dev.bankGatedNow d) := by
  unfold Dev.bankGatedNow
  (try dsimp only)
  repeat' first
    | with_reducible exact Only.refl
    | with_reducible refine Only.countDev ?_ _ _ (by decide)
    | with_reducible refine Only.judgeBanks ?_ (by decide) (by decide)
    | with_reducible refine Only.judgeBuf ?_ (by decide) (by decide)
    | with_reducible refine Only.setGated ?_ _ (by decide) (by decide)
    | with_reducible refine Only.stopDrain ?_ (by decide) (by decide)
    | split
    | dsimp only
theorem Only.bankGatedNow {PP : List Part} {RR : List Reg} {xx d : Dev} (hh : Only PP RR xx d) 
    (hP : ∀ p ∈ ([.counters, .latches, .ring, .log, .pcie, .sw, .sent] : List Part), p ∈ PP) (hR : ∀ r ∈ ([.ALM_ACTIVE, .ALM_LATCH, .PWR_STAT, .SW_BUF_GATED] : List Reg), r ∈ RR) :
    Only PP RR xx (Dev.bankGatedNow d) := hh.andThen (only_bankGatedNow d) hP hR
theorem only_sliceGate (d : Dev) (k : Nat) : Only [.sys] [] d (Dev.sliceGate d k) := by
  unfold Dev.sliceGate
  (try dsimp only)
  repeat' first
    | with_reducible exact Only.refl
    | with_reducible refine Only.onSys ?_ _ (by decide)
    | split
    | dsimp only
theorem Only.sliceGate {PP : List Part} {RR : List Reg} {xx d : Dev} (hh : Only PP RR xx d) (k : Nat)
    (hP : ∀ p ∈ ([.sys] : List Part), p ∈ PP) (hR : ∀ r ∈ ([] : List Reg), r ∈ RR) :
    Only PP RR xx (Dev.sliceGate d k) := hh.andThen (only_sliceGate d k) hP hR
theorem only_coreGate (d : Dev) (core : Nat) : Only [.sys] [.PWR_STAT] d (Dev.coreGate d core) := by
  unfold Dev.coreGate
  (try dsimp only)
  repeat' first
    | with_reducible exact Only.refl
    | with_reducible refine Only.set ?_ _ _ _ (by decide)
    | with_reducible refine Only.onSys ?_ _ (by decide)
    | split
    | dsimp only
theorem Only.coreGate {PP : List Part} {RR : List Reg} {xx d : Dev} (hh : Only PP RR xx d) (core : Nat)
    (hP : ∀ p ∈ ([.sys] : List Part), p ∈ PP) (hR : ∀ r ∈ ([.PWR_STAT] : List Reg), r ∈ RR) :
    Only PP RR xx (Dev.coreGate d core) := hh.andThen (only_coreGate d core) hP hR
theorem only_inputRefresh (d : Dev) (vin pin : BitVec 16) (temp : BitVec 16) : Only [.sys] [.GLB_HEALTH, .PWR_INPUT] d (Dev.inputRefresh d vin pin temp) := by
  unfold Dev.inputRefresh
  (try dsimp only)
  repeat' first
    | with_reducible exact Only.refl
    | with_reducible refine Only.set ?_ _ _ _ (by decide)
    | with_reducible refine Only.onSys ?_ _ (by decide)
    | split
    | dsimp only
theorem Only.inputRefresh {PP : List Part} {RR : List Reg} {xx d : Dev} (hh : Only PP RR xx d) (vin pin : BitVec 16) (temp : BitVec 16)
    (hP : ∀ p ∈ ([.sys] : List Part), p ∈ PP) (hR : ∀ r ∈ ([.GLB_HEALTH, .PWR_INPUT] : List Reg), r ∈ RR) :
    Only PP RR xx (Dev.inputRefresh d vin pin temp) := hh.andThen (only_inputRefresh d vin pin temp) hP hR

end Sys2Proof.Safety
end

