-- ==== Sys2Proof/Laws/Footprint3.lean ====
section
/-! SUPPORT. The footprints of the operations of Servo, Lanes, Alarm, Reset, Start, Access, Boot, Update, Host, Tick: what each can touch. -/

set_option linter.unusedTactic false
set_option linter.unreachableTactic false

namespace Sys2Proof.Safety

open Sys2Proof.Machine Sys2Proof.Laws

variable {P : List Part} {R : List Reg} {d e : Dev}

/-! ## Servo -/

theorem only_judgeDrift (d : Dev) : Only [.counters, .latches, .ring, .log, .pcie, .sent] [.ALM_ACTIVE, .ALM_LATCH, .RSEL_CAND_STAT] d (Dev.judgeDrift d) := by
  unfold Dev.judgeDrift
  (try dsimp only)
  repeat' first
    | with_reducible exact Only.refl
    | with_reducible refine Only.candFlag ?_ _ _ _ (by decide) (by decide)
    | with_reducible refine Only.cond ?_ _ _ (by decide)
    | with_reducible refine Only.countDev ?_ _ _ (by decide)
    | split
    | dsimp only
theorem Only.judgeDrift {PP : List Part} {RR : List Reg} {xx d : Dev} (hh : Only PP RR xx d) 
    (hP : ∀ p ∈ ([.counters, .latches, .ring, .log, .pcie, .sent] : List Part), p ∈ PP) (hR : ∀ r ∈ ([.ALM_ACTIVE, .ALM_LATCH, .RSEL_CAND_STAT] : List Reg), r ∈ RR) :
    Only PP RR xx (Dev.judgeDrift d) := hh.andThen (only_judgeDrift d) hP hR
theorem only_outvoteClocks (d : Dev) : Only [.cands] [] d (Dev.outvoteClocks d) := by
  unfold Dev.outvoteClocks
  (try dsimp only)
  repeat' first
    | with_reducible exact Only.refl
    | split
    | dsimp only
  all_goals first
    | with_reducible refine Only.upd_cands ?_ _ (by decide)
    | skip
  all_goals (repeat' first
      | with_reducible exact Only.refl
      | split
      | dsimp only)
  all_goals first
    | with_reducible refine Only.upd_cands ?_ _ (by decide)
    | skip
  all_goals (repeat' first
      | with_reducible exact Only.refl
      | split
      | dsimp only)
theorem Only.outvoteClocks {PP : List Part} {RR : List Reg} {xx d : Dev} (hh : Only PP RR xx d) 
    (hP : ∀ p ∈ ([.cands] : List Part), p ∈ PP) (hR : ∀ r ∈ ([] : List Reg), r ∈ RR) :
    Only PP RR xx (Dev.outvoteClocks d) := hh.andThen (only_outvoteClocks d) hP hR
theorem only_liftBars (d : Dev) : Only [] [.RSEL_CAND_STAT, .RSEL_CMD] d (Dev.liftBars d) := by
  unfold Dev.liftBars
  (try dsimp only)
  repeat' first
    | with_reducible exact Only.refl
    | with_reducible refine Only.set ?_ _ _ _ (by decide)
    | with_reducible refine Only.candFlag ?_ _ _ _ (by decide) (by decide)
    | with_reducible refine Only.each ?_ _ _ (fun _ _ => ?_)
    | split
    | dsimp only
theorem Only.liftBars {PP : List Part} {RR : List Reg} {xx d : Dev} (hh : Only PP RR xx d) 
    (hP : ∀ p ∈ ([] : List Part), p ∈ PP) (hR : ∀ r ∈ ([.RSEL_CAND_STAT, .RSEL_CMD] : List Reg), r ∈ RR) :
    Only PP RR xx (Dev.liftBars d) := hh.andThen (only_liftBars d) hP hR
theorem only_servoSelect (d : Dev) : Only [.rsel, .cands, .counters, .latches, .ring, .log, .pcie, .sent] [.ALM_ACTIVE, .ALM_LATCH, .RSEL_CAND_STAT, .RSEL_CMD, .RSEL_SEL] d (Dev.servoSelect d) := by
  unfold Dev.servoSelect
  (try dsimp only)
  repeat' first
    | with_reducible exact Only.refl
    | with_reducible refine Only.onRsel ?_ _ (by decide)
    | with_reducible refine Only.cancelWtr ?_ (by decide) (by decide)
    | with_reducible refine Only.judgeBars ?_ (by decide) (by decide)
    | with_reducible refine Only.judgeConflict ?_ (by decide) (by decide)
    | with_reducible refine Only.judgeDrift ?_ (by decide) (by decide)
    | with_reducible refine Only.judgeOutvoted ?_ (by decide) (by decide)
    | with_reducible refine Only.liftBars ?_ (by decide) (by decide)
    | with_reducible refine Only.outvoteClocks ?_ (by decide) (by decide)
    | with_reducible refine Only.runSelector ?_ _ (by decide) (by decide)
    | split
    | dsimp only
theorem Only.servoSelect {PP : List Part} {RR : List Reg} {xx d : Dev} (hh : Only PP RR xx d) 
    (hP : ∀ p ∈ ([.rsel, .cands, .counters, .latches, .ring, .log, .pcie, .sent] : List Part), p ∈ PP) (hR : ∀ r ∈ ([.ALM_ACTIVE, .ALM_LATCH, .RSEL_CAND_STAT, .RSEL_CMD, .RSEL_SEL] : List Reg), r ∈ RR) :
    Only PP RR xx (Dev.servoSelect d) := hh.andThen (only_servoSelect d) hP hR
theorem only_takeTcmd (d : Dev) (t : TbId) : Only [.tbA, .tbB, .mir, .rsel, .cands, .twin, .syns, .outs, .counters, .latches, .ring, .log, .pcie, .sw, .ports, .ptus, .tio, .sys, .sent, .freeCtr] [.ALM_ACTIVE, .ALM_LATCH, .LANE_QUAD_STAT, .OUT_STAT, .PRT_GATE_STAT, .PWR_PORT_STAT, .PWR_STAT, .RSEL_CAND_STAT, .SEQGEN_W0, .SW_BUF_GATED, .SYN_CMD, .SYN_STAT, .TB_TCMD, .TB_TSTAT, .TIO_STAT] d (Dev.takeTcmd d t) := by
  unfold Dev.takeTcmd
  (try dsimp only)
  repeat' first
    | with_reducible exact Only.refl
    | with_reducible refine Only.candFlag ?_ _ _ _ (by decide) (by decide)
    | with_reducible refine Only.setState ?_ _ (by decide) (by decide)
    | with_reducible refine Only.startLoop ?_ _ _ _ (by decide) (by decide)
    | with_reducible refine Only.stepCounter ?_ _ (by decide) (by decide)
    | with_reducible refine Only.tcmdDone ?_ _ (by decide) (by decide)
    | with_reducible refine Only.each ?_ _ _ (fun _ _ => ?_)
    | split
    | dsimp only
theorem Only.takeTcmd {PP : List Part} {RR : List Reg} {xx d : Dev} (hh : Only PP RR xx d) (t : TbId)
    (hP : ∀ p ∈ ([.tbA, .tbB, .mir, .rsel, .cands, .twin, .syns, .outs, .counters, .latches, .ring, .log, .pcie, .sw, .ports, .ptus, .tio, .sys, .sent, .freeCtr] : List Part), p ∈ PP) (hR : ∀ r ∈ ([.ALM_ACTIVE, .ALM_LATCH, .LANE_QUAD_STAT, .OUT_STAT, .PRT_GATE_STAT, .PWR_PORT_STAT, .PWR_STAT, .RSEL_CAND_STAT, .SEQGEN_W0, .SW_BUF_GATED, .SYN_CMD, .SYN_STAT, .TB_TCMD, .TB_TSTAT, .TIO_STAT] : List Reg), r ∈ RR) :
    Only PP RR xx (Dev.takeTcmd d t) := hh.andThen (only_takeTcmd d t) hP hR
theorem only_leaveReference (d : Dev) (freq : Bool) : Only [.mir, .rsel, .twin] [.SEQGEN_W0] d (Dev.leaveReference d freq) := by
  unfold Dev.leaveReference
  (try dsimp only)
  repeat' first
    | with_reducible exact Only.refl
    | with_reducible refine Only.onRsel ?_ _ (by decide)
    | with_reducible refine Only.mirrorBy ?_ _ (by decide) (by decide)
    | split
    | dsimp only
theorem Only.leaveReference {PP : List Part} {RR : List Reg} {xx d : Dev} (hh : Only PP RR xx d) (freq : Bool)
    (hP : ∀ p ∈ ([.mir, .rsel, .twin] : List Part), p ∈ PP) (hR : ∀ r ∈ ([.SEQGEN_W0] : List Reg), r ∈ RR) :
    Only PP RR xx (Dev.leaveReference d freq) := hh.andThen (only_leaveReference d freq) hP hR
theorem only_followFreq (d : Dev) (t : TbId) (id : Nat) (preset : Bool) : Only [.tbA, .tbB, .mir, .rsel, .twin] [.SEQGEN_W0] d (Dev.followFreq d t id preset) := by
  unfold Dev.followFreq
  (try dsimp only)
  repeat' first
    | with_reducible exact Only.refl
    | with_reducible refine Only.leaveReference ?_ _ (by decide) (by decide)
    | with_reducible refine Only.startLoop ?_ _ _ _ (by decide) (by decide)
    | split
    | dsimp only
theorem Only.followFreq {PP : List Part} {RR : List Reg} {xx d : Dev} (hh : Only PP RR xx d) (t : TbId) (id : Nat) (preset : Bool)
    (hP : ∀ p ∈ ([.tbA, .tbB, .mir, .rsel, .twin] : List Part), p ∈ PP) (hR : ∀ r ∈ ([.SEQGEN_W0] : List Reg), r ∈ RR) :
    Only PP RR xx (Dev.followFreq d t id preset) := hh.andThen (only_followFreq d t id preset) hP hR
theorem only_idleUnset (d : Dev) (awaits : Bool) : Only [.mir, .rsel, .twin] [.SEQGEN_W0] d (Dev.idleUnset d awaits) := by
  unfold Dev.idleUnset
  (try dsimp only)
  repeat' first
    | with_reducible exact Only.refl
    | with_reducible refine Only.onRsel ?_ _ (by decide)
    | with_reducible refine Only.mirrorBy ?_ _ (by decide) (by decide)
    | split
    | dsimp only
theorem Only.idleUnset {PP : List Part} {RR : List Reg} {xx d : Dev} (hh : Only PP RR xx d) (awaits : Bool)
    (hP : ∀ p ∈ ([.mir, .rsel, .twin] : List Part), p ∈ PP) (hR : ∀ r ∈ ([.SEQGEN_W0] : List Reg), r ∈ RR) :
    Only PP RR xx (Dev.idleUnset d awaits) := hh.andThen (only_idleUnset d awaits) hP hR
theorem only_enterJumpHeld (d : Dev) (off : Int) : Only [.mir, .rsel, .twin, .syns, .outs, .counters, .latches, .ring, .log, .pcie, .sw, .ports, .sys, .sent] [.ALM_ACTIVE, .ALM_LATCH, .LANE_QUAD_STAT, .OUT_STAT, .PWR_PORT_STAT, .PWR_STAT, .SEQGEN_W0, .SW_BUF_GATED, .SYN_CMD, .SYN_STAT, .TB_TSTAT] d (Dev.enterJumpHeld d off) := by
  unfold Dev.enterJumpHeld
  (try dsimp only)
  repeat' first
    | with_reducible exact Only.refl
    | with_reducible refine Only.countDev ?_ _ _ (by decide)
    | with_reducible refine Only.leaveReference ?_ _ (by decide) (by decide)
    | with_reducible refine Only.mirrorBy ?_ _ (by decide) (by decide)
    | with_reducible refine Only.setState ?_ _ (by decide) (by decide)
    | split
    | dsimp only
theorem Only.enterJumpHeld {PP : List Part} {RR : List Reg} {xx d : Dev} (hh : Only PP RR xx d) (off : Int)
    (hP : ∀ p ∈ ([.mir, .rsel, .twin, .syns, .outs, .counters, .latches, .ring, .log, .pcie, .sw, .ports, .sys, .sent] : List Part), p ∈ PP) (hR : ∀ r ∈ ([.ALM_ACTIVE, .ALM_LATCH, .LANE_QUAD_STAT, .OUT_STAT, .PWR_PORT_STAT, .PWR_STAT, .SEQGEN_W0, .SW_BUF_GATED, .SYN_CMD, .SYN_STAT, .TB_TSTAT] : List Reg), r ∈ RR) :
    Only PP RR xx (Dev.enterJumpHeld d off) := hh.andThen (only_enterJumpHeld d off) hP hR
theorem only_startSlew (d : Dev) (t : TbId) (id : Nat) (off : Int) : Only [.tbA, .tbB, .mir, .rsel, .twin, .syns, .outs, .counters, .latches, .ring, .log, .pcie, .sw, .ports, .sys, .sent] [.ALM_ACTIVE, .ALM_LATCH, .LANE_QUAD_STAT, .OUT_STAT, .PWR_PORT_STAT, .PWR_STAT, .SEQGEN_W0, .SW_BUF_GATED, .SYN_CMD, .SYN_STAT, .TB_TSTAT] d (Dev.startSlew d t id off) := by
  unfold Dev.startSlew
  (try dsimp only)
  repeat' first
    | with_reducible exact Only.refl
    | with_reducible refine Only.mirrorBy ?_ _ (by decide) (by decide)
    | with_reducible refine Only.setState ?_ _ (by decide) (by decide)
    | with_reducible refine Only.startLoop ?_ _ _ _ (by decide) (by decide)
    | split
    | dsimp only
theorem Only.startSlew {PP : List Part} {RR : List Reg} {xx d : Dev} (hh : Only PP RR xx d) (t : TbId) (id : Nat) (off : Int)
    (hP : ∀ p ∈ ([.tbA, .tbB, .mir, .rsel, .twin, .syns, .outs, .counters, .latches, .ring, .log, .pcie, .sw, .ports, .sys, .sent] : List Part), p ∈ PP) (hR : ∀ r ∈ ([.ALM_ACTIVE, .ALM_LATCH, .LANE_QUAD_STAT, .OUT_STAT, .PWR_PORT_STAT, .PWR_STAT, .SEQGEN_W0, .SW_BUF_GATED, .SYN_CMD, .SYN_STAT, .TB_TSTAT] : List Reg), r ∈ RR) :
    Only PP RR xx (Dev.startSlew d t id off) := hh.andThen (only_startSlew d t id off) hP hR
theorem only_servoStatus (d : Dev) (t : TbId) (off : Int) : Only [.tbA, .tbB, .mir, .rsel, .cands, .twin, .syns, .outs, .counters, .latches, .ring, .log, .pcie, .sw, .ports, .ptus, .tio, .sys, .sent, .freeCtr] [.ALM_ACTIVE, .ALM_LATCH, .LANE_QUAD_STAT, .OUT_STAT, .PRT_GATE_STAT, .PWR_PORT_STAT, .PWR_STAT, .RSEL_CAND_STAT, .SEQGEN_W0, .SW_BUF_GATED, .SYN_CMD, .SYN_STAT, .TB_TCMD, .TB_TSTAT, .TIO_STAT] d (Dev.servoStatus d t off) := by
  unfold Dev.servoStatus
  repeat' first
    | with_reducible exact Only.refl
    | with_reducible assumption
    | with_reducible refine Only.enterJumpHeld ?_ _ (by decide) (by decide)
    | with_reducible refine Only.followFreq ?_ _ _ _ (by decide) (by decide)
    | with_reducible refine Only.idleUnset ?_ _ (by decide) (by decide)
    | with_reducible refine Only.leaveReference ?_ _ (by decide) (by decide)
    | with_reducible refine Only.mirrorBy ?_ _ (by decide) (by decide)
    | with_reducible refine Only.setFromReference ?_ _ _ _ (by decide) (by decide)
    | with_reducible refine Only.setState ?_ _ (by decide) (by decide)
    | with_reducible refine Only.startLoop ?_ _ _ _ (by decide) (by decide)
    | with_reducible refine Only.startSlew ?_ _ _ _ (by decide) (by decide)
    | with_reducible refine Only.supersede ?_ (by decide) (by decide)
    | with_reducible refine Only.takeTcmd ?_ _ (by decide) (by decide)
    | split
    | with_reducible refine Only.letIn ?_ (fun _ _ => ?_)
    | with_reducible refine Only.letVal (fun _ => ?_)
theorem Only.servoStatus {PP : List Part} {RR : List Reg} {xx d : Dev} (hh : Only PP RR xx d) (t : TbId) (off : Int)
    (hP : ∀ p ∈ ([.tbA, .tbB, .mir, .rsel, .cands, .twin, .syns, .outs, .counters, .latches, .ring, .log, .pcie, .sw, .ports, .ptus, .tio, .sys, .sent, .freeCtr] : List Part), p ∈ PP) (hR : ∀ r ∈ ([.ALM_ACTIVE, .ALM_LATCH, .LANE_QUAD_STAT, .OUT_STAT, .PRT_GATE_STAT, .PWR_PORT_STAT, .PWR_STAT, .RSEL_CAND_STAT, .SEQGEN_W0, .SW_BUF_GATED, .SYN_CMD, .SYN_STAT, .TB_TCMD, .TB_TSTAT, .TIO_STAT] : List Reg), r ∈ RR) :
    Only PP RR xx (Dev.servoStatus d t off) := hh.andThen (only_servoStatus d t off) hP hR
theorem only_giveDco (d : Dev) (t : TbId) (w : Int) : Only [.tbA, .tbB, .counters, .latches, .ring, .log, .pcie, .sent] [.ALM_ACTIVE, .ALM_LATCH, .TB_SERVO_STAT] d (Dev.giveDco d t w) := by
  unfold Dev.giveDco
  (try dsimp only)
  repeat' first
    | with_reducible exact Only.refl
    | with_reducible refine Only.setB ?_ _ _ _ (by decide)
    | with_reducible refine Only.onTb ?_ _ _ (by decide) (by decide)
    | with_reducible refine Only.cond ?_ _ _ (by decide)
    | with_reducible refine Only.countDev ?_ _ _ (by decide)
    | with_reducible refine Only.when ?_ _ _ ?_
    | split
    | dsimp only
theorem Only.giveDco {PP : List Part} {RR : List Reg} {xx d : Dev} (hh : Only PP RR xx d) (t : TbId) (w : Int)
    (hP : ∀ p ∈ ([.tbA, .tbB, .counters, .latches, .ring, .log, .pcie, .sent] : List Part), p ∈ PP) (hR : ∀ r ∈ ([.ALM_ACTIVE, .ALM_LATCH, .TB_SERVO_STAT] : List Reg), r ∈ RR) :
    Only PP RR xx (Dev.giveDco d t w) := hh.andThen (only_giveDco d t w) hP hR
theorem only_steerDco (d : Dev) (t : TbId) (phase : Int) : Only [.tbA, .tbB, .mir, .twin, .counters, .latches, .ring, .log, .pcie, .sent] [.ALM_ACTIVE, .ALM_LATCH, .SEQGEN_W0, .TB_SERVO_STAT] d (Dev.steerDco d t phase) := by
  unfold Dev.steerDco
  (try dsimp only)
  repeat' first
    | with_reducible exact Only.refl
    | with_reducible refine Only.giveDco ?_ _ _ (by decide) (by decide)
    | with_reducible refine Only.mirrorBy ?_ _ (by decide) (by decide)
    | split
    | dsimp only
theorem Only.steerDco {PP : List Part} {RR : List Reg} {xx d : Dev} (hh : Only PP RR xx d) (t : TbId) (phase : Int)
    (hP : ∀ p ∈ ([.tbA, .tbB, .mir, .twin, .counters, .latches, .ring, .log, .pcie, .sent] : List Part), p ∈ PP) (hR : ∀ r ∈ ([.ALM_ACTIVE, .ALM_LATCH, .SEQGEN_W0, .TB_SERVO_STAT] : List Reg), r ∈ RR) :
    Only PP RR xx (Dev.steerDco d t phase) := hh.andThen (only_steerDco d t phase) hP hR
theorem only_steerStandby (d : Dev) (o : TbId) : Only [.tbA, .tbB, .counters, .latches, .ring, .log, .pcie, .sent] [.ALM_ACTIVE, .ALM_LATCH, .TB_SERVO_STAT] d (Dev.steerStandby d o) := by
  unfold Dev.steerStandby
  (try dsimp only)
  repeat' first
    | with_reducible exact Only.refl
    | with_reducible refine Only.onTb ?_ _ _ (by decide) (by decide)
    | with_reducible refine Only.giveDco ?_ _ _ (by decide) (by decide)
    | split
    | dsimp only
theorem Only.steerStandby {PP : List Part} {RR : List Reg} {xx d : Dev} (hh : Only PP RR xx d) (o : TbId)
    (hP : ∀ p ∈ ([.tbA, .tbB, .counters, .latches, .ring, .log, .pcie, .sent] : List Part), p ∈ PP) (hR : ∀ r ∈ ([.ALM_ACTIVE, .ALM_LATCH, .TB_SERVO_STAT] : List Reg), r ∈ RR) :
    Only PP RR xx (Dev.steerStandby d o) := hh.andThen (only_steerStandby d o) hP hR
theorem only_narrow (d : Dev) (t : TbId) (phase : Int) : Only [.mir, .twin] [.SEQGEN_W0, .TB_SERVO_STAT] d (Dev.narrow d t phase) := by
  unfold Dev.narrow
  (try dsimp only)
  repeat' first
    | with_reducible exact Only.refl
    | with_reducible refine Only.setB ?_ _ _ _ (by decide)
    | with_reducible refine Only.mirrorBy ?_ _ (by decide) (by decide)
    | split
    | dsimp only
theorem Only.narrow {PP : List Part} {RR : List Reg} {xx d : Dev} (hh : Only PP RR xx d) (t : TbId) (phase : Int)
    (hP : ∀ p ∈ ([.mir, .twin] : List Part), p ∈ PP) (hR : ∀ r ∈ ([.SEQGEN_W0, .TB_SERVO_STAT] : List Reg), r ∈ RR) :
    Only PP RR xx (Dev.narrow d t phase) := hh.andThen (only_narrow d t phase) hP hR
theorem only_learn (d : Dev) (t : TbId) : Only [.tbA, .tbB] [.TB_MODEL_STAT] d (Dev.learn d t) := by
  unfold Dev.learn
  (try dsimp only)
  repeat' first
    | with_reducible exact Only.refl
    | with_reducible refine Only.set ?_ _ _ _ (by decide)
    | with_reducible refine Only.setB ?_ _ _ _ (by decide)
    | with_reducible refine Only.onTb ?_ _ _ (by decide) (by decide)
    | split
    | dsimp only
theorem Only.learn {PP : List Part} {RR : List Reg} {xx d : Dev} (hh : Only PP RR xx d) (t : TbId)
    (hP : ∀ p ∈ ([.tbA, .tbB] : List Part), p ∈ PP) (hR : ∀ r ∈ ([.TB_MODEL_STAT] : List Reg), r ∈ RR) :
    Only PP RR xx (Dev.learn d t) := hh.andThen (only_learn d t) hP hR
theorem only_servoClocks (d : Dev) : Only [.mir, .rsel, .twin] [.SEQGEN_W0, .TB_ROLE] d (Dev.servoClocks d) := by
  unfold Dev.servoClocks
  (try dsimp only)
  repeat' first
    | with_reducible exact Only.refl
    | with_reducible refine Only.set ?_ _ _ _ (by decide)
    | with_reducible refine Only.onTwin ?_ _ (by decide)
    | with_reducible refine Only.onRsel ?_ _ (by decide)
    | with_reducible refine Only.mirrorBy ?_ _ (by decide) (by decide)
    | split
    | dsimp only
theorem Only.servoClocks {PP : List Part} {RR : List Reg} {xx d : Dev} (hh : Only PP RR xx d) 
    (hP : ∀ p ∈ ([.mir, .rsel, .twin] : List Part), p ∈ PP) (hR : ∀ r ∈ ([.SEQGEN_W0, .TB_ROLE] : List Reg), r ∈ RR) :
    Only PP RR xx (Dev.servoClocks d) := hh.andThen (only_servoClocks d) hP hR
theorem only_reportServo (d : Dev) (t : TbId) : Only [] [.TB_SERVO_STAT] d (Dev.reportServo d t) := by
  unfold Dev.reportServo
  (try dsimp only)
  repeat' first
    | with_reducible exact Only.refl
    | with_reducible refine Only.set ?_ _ _ _ (by decide)
    | split
    | dsimp only
theorem Only.reportServo {PP : List Part} {RR : List Reg} {xx d : Dev} (hh : Only PP RR xx d) (t : TbId)
    (hP : ∀ p ∈ ([] : List Part), p ∈ PP) (hR : ∀ r ∈ ([.TB_SERVO_STAT] : List Reg), r ∈ RR) :
    Only PP RR xx (Dev.reportServo d t) := hh.andThen (only_reportServo d t) hP hR
theorem only_applyWrites (d : Dev) : Only [.applied] [] d (Dev.applyWrites d) := by
  unfold Dev.applyWrites
  (try dsimp only)
  repeat' first
    | with_reducible exact Only.refl
    | split
    | dsimp only
  all_goals first
    | with_reducible refine Only.upd_applied ?_ _ (by decide)
    | skip
  all_goals (repeat' first
      | with_reducible exact Only.refl
      | split
      | dsimp only)
  all_goals first
    | with_reducible refine Only.upd_applied ?_ _ (by decide)
    | skip
  all_goals (repeat' first
      | with_reducible exact Only.refl
      | split
      | dsimp only)
theorem Only.applyWrites {PP : List Part} {RR : List Reg} {xx d : Dev} (hh : Only PP RR xx d) 
    (hP : ∀ p ∈ ([.applied] : List Part), p ∈ PP) (hR : ∀ r ∈ ([] : List Reg), r ∈ RR) :
    Only PP RR xx (Dev.applyWrites d) := hh.andThen (only_applyWrites d) hP hR
theorem only_takeRestart (d : Dev) (t : TbId) : Only [.tbA, .tbB] [.TB_MODEL_CMD, .TB_MODEL_STAT] d (Dev.takeRestart d t) := by
  unfold Dev.takeRestart
  (try dsimp only)
  repeat' first
    | with_reducible exact Only.refl
    | with_reducible refine Only.set ?_ _ _ _ (by decide)
    | with_reducible refine Only.setWord ?_ _ _ _ (by decide)
    | with_reducible refine Only.onTb ?_ _ _ (by decide) (by decide)
    | split
    | dsimp only
theorem Only.takeRestart {PP : List Part} {RR : List Reg} {xx d : Dev} (hh : Only PP RR xx d) (t : TbId)
    (hP : ∀ p ∈ ([.tbA, .tbB] : List Part), p ∈ PP) (hR : ∀ r ∈ ([.TB_MODEL_CMD, .TB_MODEL_STAT] : List Reg), r ∈ RR) :
    Only PP RR xx (Dev.takeRestart d t) := hh.andThen (only_takeRestart d t) hP hR
theorem only_standbyUpdate (d : Dev) : Only [.tbA, .tbB, .counters, .latches, .ring, .log, .pcie, .sent] [.ALM_ACTIVE, .ALM_LATCH, .TB_MODEL_STAT, .TB_SERVO_STAT] d (Dev.standbyUpdate d) := by
  unfold Dev.standbyUpdate
  (try dsimp only)
  repeat' first
    | with_reducible exact Only.refl
    | with_reducible refine Only.learn ?_ _ (by decide) (by decide)
    | with_reducible refine Only.steerStandby ?_ _ (by decide) (by decide)
    | split
    | dsimp only
theorem Only.standbyUpdate {PP : List Part} {RR : List Reg} {xx d : Dev} (hh : Only PP RR xx d) 
    (hP : ∀ p ∈ ([.tbA, .tbB, .counters, .latches, .ring, .log, .pcie, .sent] : List Part), p ∈ PP) (hR : ∀ r ∈ ([.ALM_ACTIVE, .ALM_LATCH, .TB_MODEL_STAT, .TB_SERVO_STAT] : List Reg), r ∈ RR) :
    Only PP RR xx (Dev.standbyUpdate d) := hh.andThen (only_standbyUpdate d) hP hR
theorem only_beginUpdate (d : Dev) (inp : ServoIn) (t : TbId) : Only [.applied, .tbA, .tbB, .mir, .rsel, .twin] [.SEQGEN_W0, .TB_MODEL_CMD, .TB_MODEL_STAT, .TB_ROLE] d (Dev.beginUpdate d inp t) := by
  unfold Dev.beginUpdate
  (try dsimp only)
  repeat' first
    | with_reducible exact Only.refl
    | with_reducible refine Only.onTwin ?_ _ (by decide)
    | with_reducible refine Only.onTb ?_ _ _ (by decide) (by decide)
    | with_reducible refine Only.applyWrites ?_ (by decide) (by decide)
    | with_reducible refine Only.servoClocks ?_ (by decide) (by decide)
    | with_reducible refine Only.setX ?_ _ (by decide) (by decide)
    | with_reducible refine Only.takeRestart ?_ _ (by decide) (by decide)
    | split
    | dsimp only
theorem Only.beginUpdate {PP : List Part} {RR : List Reg} {xx d : Dev} (hh : Only PP RR xx d) (inp : ServoIn) (t : TbId)
    (hP : ∀ p ∈ ([.applied, .tbA, .tbB, .mir, .rsel, .twin] : List Part), p ∈ PP) (hR : ∀ r ∈ ([.SEQGEN_W0, .TB_MODEL_CMD, .TB_MODEL_STAT, .TB_ROLE] : List Reg), r ∈ RR) :
    Only PP RR xx (Dev.beginUpdate d inp t) := hh.andThen (only_beginUpdate d inp t) hP hR
theorem only_servoUpdate (d : Dev) (inp : ServoIn) : Only [.applied, .tbA, .tbB, .mir, .rsel, .cands, .twin, .syns, .outs, .counters, .latches, .ring, .log, .pcie, .sw, .ports, .ptus, .tio, .sys, .sent, .freeCtr] [.ALM_ACTIVE, .ALM_LATCH, .LANE_QUAD_STAT, .OUT_STAT, .PRT_GATE_STAT, .PWR_PORT_STAT, .PWR_STAT, .RSEL_CAND_FREQ, .RSEL_CAND_STAT, .RSEL_CMD, .RSEL_SEL, .SEQGEN_W0, .SW_BUF_GATED, .SYN_CMD, .SYN_STAT, .TB_MODEL_CMD, .TB_MODEL_STAT, .TB_ROLE, .TB_SERVO_STAT, .TB_TAKEOVER, .TB_TCMD, .TB_TSTAT, .TB_TWIN_CMD, .TIO_STAT] d (Dev.servoUpdate d inp) := by
  unfold Dev.servoUpdate
  repeat' first
    | with_reducible exact Only.refl
    | with_reducible assumption
    | with_reducible refine Only.beginUpdate ?_ _ _ (by decide) (by decide)
    | with_reducible refine Only.judgePinRevert ?_ (by decide) (by decide)
    | with_reducible refine Only.judgeRevert ?_ (by decide) (by decide)
    | with_reducible refine Only.judgeTraceable ?_ (by decide) (by decide)
    | with_reducible refine Only.learn ?_ _ (by decide) (by decide)
    | with_reducible refine Only.mirrorBy ?_ _ (by decide) (by decide)
    | with_reducible refine Only.narrow ?_ _ _ (by decide) (by decide)
    | with_reducible refine Only.reportServo ?_ _ (by decide) (by decide)
    | with_reducible refine Only.servoSelect ?_ (by decide) (by decide)
    | with_reducible refine Only.servoStatus ?_ _ _ (by decide) (by decide)
    | with_reducible refine Only.standbyUpdate ?_ (by decide) (by decide)
    | with_reducible refine Only.steerDco ?_ _ _ (by decide) (by decide)
    | with_reducible refine Only.takeUtc ?_ _ (by decide) (by decide)
    | split
    | with_reducible refine Only.letIn ?_ (fun _ _ => ?_)
    | with_reducible refine Only.letVal (fun _ => ?_)
theorem Only.servoUpdate {PP : List Part} {RR : List Reg} {xx d : Dev} (hh : Only PP RR xx d) (inp : ServoIn)
    (hP : ∀ p ∈ ([.applied, .tbA, .tbB, .mir, .rsel, .cands, .twin, .syns, .outs, .counters, .latches, .ring, .log, .pcie, .sw, .ports, .ptus, .tio, .sys, .sent, .freeCtr] : List Part), p ∈ PP) (hR : ∀ r ∈ ([.ALM_ACTIVE, .ALM_LATCH, .LANE_QUAD_STAT, .OUT_STAT, .PRT_GATE_STAT, .PWR_PORT_STAT, .PWR_STAT, .RSEL_CAND_FREQ, .RSEL_CAND_STAT, .RSEL_CMD, .RSEL_SEL, .SEQGEN_W0, .SW_BUF_GATED, .SYN_CMD, .SYN_STAT, .TB_MODEL_CMD, .TB_MODEL_STAT, .TB_ROLE, .TB_SERVO_STAT, .TB_TAKEOVER, .TB_TCMD, .TB_TSTAT, .TB_TWIN_CMD, .TIO_STAT] : List Reg), r ∈ RR) :
    Only PP RR xx (Dev.servoUpdate d inp) := hh.andThen (only_servoUpdate d inp) hP hR
theorem only_leapApply (d : Dev) : Only [.mir, .twin] [.SEQGEN_W0] d (Dev.leapApply d) := by
  unfold Dev.leapApply
  (try dsimp only)
  repeat' first
    | with_reducible exact Only.refl
    | with_reducible refine Only.mirrorBy ?_ _ (by decide) (by decide)
    | split
    | dsimp only
theorem Only.leapApply {PP : List Part} {RR : List Reg} {xx d : Dev} (hh : Only PP RR xx d) 
    (hP : ∀ p ∈ ([.mir, .twin] : List Part), p ∈ PP) (hR : ∀ r ∈ ([.SEQGEN_W0] : List Reg), r ∈ RR) :
    Only PP RR xx (Dev.leapApply d) := hh.andThen (only_leapApply d) hP hR
theorem only_wtrExpired (d : Dev) : Only [.rsel, .cands, .counters, .latches, .ring, .log, .pcie, .sent] [.ALM_ACTIVE, .ALM_LATCH, .RSEL_CAND_STAT, .RSEL_SEL] d (Dev.wtrExpired d) := by
  unfold Dev.wtrExpired
  (try dsimp only)
  repeat' first
    | with_reducible exact Only.refl
    | with_reducible refine Only.cancelWtr ?_ (by decide) (by decide)
    | with_reducible refine Only.runSelector ?_ _ (by decide) (by decide)
    | split
    | dsimp only
theorem Only.wtrExpired {PP : List Part} {RR : List Reg} {xx d : Dev} (hh : Only PP RR xx d) 
    (hP : ∀ p ∈ ([.rsel, .cands, .counters, .latches, .ring, .log, .pcie, .sent] : List Part), p ∈ PP) (hR : ∀ r ∈ ([.ALM_ACTIVE, .ALM_LATCH, .RSEL_CAND_STAT, .RSEL_SEL] : List Reg), r ∈ RR) :
    Only PP RR xx (Dev.wtrExpired d) := hh.andThen (only_wtrExpired d) hP hR
theorem only_skipWtr (d : Dev) : Only [.rsel, .cands, .counters, .latches, .ring, .log, .pcie, .sent] [.ALM_ACTIVE, .ALM_LATCH, .RSEL_CAND_STAT, .RSEL_SEL] d (Dev.skipWtr d) := by
  unfold Dev.skipWtr
  (try dsimp only)
  repeat' first
    | with_reducible exact Only.refl
    | with_reducible refine Only.cancelWtr ?_ (by decide) (by decide)
    | with_reducible refine Only.runSelector ?_ _ (by decide) (by decide)
    | split
    | dsimp only
theorem Only.skipWtr {PP : List Part} {RR : List Reg} {xx d : Dev} (hh : Only PP RR xx d) 
    (hP : ∀ p ∈ ([.rsel, .cands, .counters, .latches, .ring, .log, .pcie, .sent] : List Part), p ∈ PP) (hR : ∀ r ∈ ([.ALM_ACTIVE, .ALM_LATCH, .RSEL_CAND_STAT, .RSEL_SEL] : List Reg), r ∈ RR) :
    Only PP RR xx (Dev.skipWtr d) := hh.andThen (only_skipWtr d) hP hR
theorem only_clearBars (d : Dev) : Only [] [.RSEL_CMD] d (Dev.clearBars d) := by
  unfold Dev.clearBars
  (try dsimp only)
  repeat' first
    | with_reducible exact Only.refl
    | with_reducible refine Only.set ?_ _ _ _ (by decide)
    | split
    | dsimp only
theorem Only.clearBars {PP : List Part} {RR : List Reg} {xx d : Dev} (hh : Only PP RR xx d) 
    (hP : ∀ p ∈ ([] : List Part), p ∈ PP) (hR : ∀ r ∈ ([.RSEL_CMD] : List Reg), r ∈ RR) :
    Only PP RR xx (Dev.clearBars d) := hh.andThen (only_clearBars d) hP hR
theorem only_modelRestart (d : Dev) (t : TbId) : Only [] [.TB_MODEL_CMD] d (Dev.modelRestart d t) := by
  unfold Dev.modelRestart
  (try dsimp only)
  repeat' first
    | with_reducible exact Only.refl
    | with_reducible refine Only.set ?_ _ _ _ (by decide)
    | split
    | dsimp only
theorem Only.modelRestart {PP : List Part} {RR : List Reg} {xx d : Dev} (hh : Only PP RR xx d) (t : TbId)
    (hP : ∀ p ∈ ([] : List Part), p ∈ PP) (hR : ∀ r ∈ ([.TB_MODEL_CMD] : List Reg), r ∈ RR) :
    Only PP RR xx (Dev.modelRestart d t) := hh.andThen (only_modelRestart d t) hP hR
theorem only_ppsEdge (d : Dev) (n : Nat) (pin : Ticks) : Only [.tbA, .tbB, .mir, .rsel, .cands, .twin, .syns, .outs, .counters, .latches, .ring, .log, .pcie, .sw, .ports, .ptus, .tio, .sys, .sent, .freeCtr] [.ALM_ACTIVE, .ALM_LATCH, .LANE_QUAD_STAT, .OUT_STAT, .PRT_GATE_STAT, .PWR_PORT_STAT, .PWR_STAT, .RSEL_CAND_STAT, .SEQGEN_W0, .SW_BUF_GATED, .SYN_CMD, .SYN_STAT, .TB_TSTAT, .TIO_STAT] d (Dev.ppsEdge d n pin) := by
  unfold Dev.ppsEdge
  (try dsimp only)
  repeat' first
    | with_reducible exact Only.refl
    | with_reducible refine Only.onCand ?_ _ _ (by decide)
    | with_reducible refine Only.setActive ?_ _ _ (by decide) (by decide)
    | with_reducible refine Only.setFromReference ?_ _ _ _ (by decide) (by decide)
    | with_reducible refine Only.when ?_ _ _ ?_
    | split
    | dsimp only
theorem Only.ppsEdge {PP : List Part} {RR : List Reg} {xx d : Dev} (hh : Only PP RR xx d) (n : Nat) (pin : Ticks)
    (hP : ∀ p ∈ ([.tbA, .tbB, .mir, .rsel, .cands, .twin, .syns, .outs, .counters, .latches, .ring, .log, .pcie, .sw, .ports, .ptus, .tio, .sys, .sent, .freeCtr] : List Part), p ∈ PP) (hR : ∀ r ∈ ([.ALM_ACTIVE, .ALM_LATCH, .LANE_QUAD_STAT, .OUT_STAT, .PRT_GATE_STAT, .PWR_PORT_STAT, .PWR_STAT, .RSEL_CAND_STAT, .SEQGEN_W0, .SW_BUF_GATED, .SYN_CMD, .SYN_STAT, .TB_TSTAT, .TIO_STAT] : List Reg), r ∈ RR) :
    Only PP RR xx (Dev.ppsEdge d n pin) := hh.andThen (only_ppsEdge d n pin) hP hR
theorem only_ppsWindowClose (d : Dev) (n : Nat) : Only [.cands, .counters, .latches, .ring, .log, .pcie, .sent] [.ALM_ACTIVE, .ALM_LATCH, .RSEL_CAND_STAT] d (Dev.ppsWindowClose d n) := by
  unfold Dev.ppsWindowClose
  (try dsimp only)
  repeat' first
    | with_reducible exact Only.refl
    | with_reducible refine Only.onCand ?_ _ _ (by decide)
    | with_reducible refine Only.countDev ?_ _ _ (by decide)
    | with_reducible refine Only.setActive ?_ _ _ (by decide) (by decide)
    | with_reducible refine Only.when ?_ _ _ ?_
    | split
    | dsimp only
theorem Only.ppsWindowClose {PP : List Part} {RR : List Reg} {xx d : Dev} (hh : Only PP RR xx d) (n : Nat)
    (hP : ∀ p ∈ ([.cands, .counters, .latches, .ring, .log, .pcie, .sent] : List Part), p ∈ PP) (hR : ∀ r ∈ ([.ALM_ACTIVE, .ALM_LATCH, .RSEL_CAND_STAT] : List Reg), r ∈ RR) :
    Only PP RR xx (Dev.ppsWindowClose d n) := hh.andThen (only_ppsWindowClose d n) hP hR
theorem only_freqActivityLoss (d : Dev) (n : Nat) : Only [.cands, .counters, .latches, .ring, .log, .pcie, .sent] [.ALM_ACTIVE, .ALM_LATCH, .RSEL_CAND_STAT] d (Dev.freqActivityLoss d n) := by
  unfold Dev.freqActivityLoss
  (try dsimp only)
  repeat' first
    | with_reducible exact Only.refl
    | with_reducible refine Only.setActive ?_ _ _ (by decide) (by decide)
    | split
    | dsimp only
theorem Only.freqActivityLoss {PP : List Part} {RR : List Reg} {xx d : Dev} (hh : Only PP RR xx d) (n : Nat)
    (hP : ∀ p ∈ ([.cands, .counters, .latches, .ring, .log, .pcie, .sent] : List Part), p ∈ PP) (hR : ∀ r ∈ ([.ALM_ACTIVE, .ALM_LATCH, .RSEL_CAND_STAT] : List Reg), r ∈ RR) :
    Only PP RR xx (Dev.freqActivityLoss d n) := hh.andThen (only_freqActivityLoss d n) hP hR
theorem only_todinMessage (d : Dev) (line : Nat) (b : List Byte) (delayUs : Nat) : Only [.mir, .cands, .twin, .counters, .latches, .ring, .log, .pcie, .sent] [.ALM_ACTIVE, .ALM_LATCH, .RSEL_CAND_STAT, .SEQGEN_W0] d (Dev.todinMessage d line b delayUs) := by
  unfold Dev.todinMessage
  (try dsimp only)
  repeat' first
    | with_reducible exact Only.refl
    | with_reducible refine Only.onCand ?_ _ _ (by decide)
    | with_reducible refine Only.countDev ?_ _ _ (by decide)
    | with_reducible refine Only.disqualify ?_ _ _ (by decide) (by decide)
    | with_reducible refine Only.takeUtc ?_ _ (by decide) (by decide)
    | with_reducible refine Only.when ?_ _ _ ?_
    | split
    | dsimp only
theorem Only.todinMessage {PP : List Part} {RR : List Reg} {xx d : Dev} (hh : Only PP RR xx d) (line : Nat) (b : List Byte) (delayUs : Nat)
    (hP : ∀ p ∈ ([.mir, .cands, .twin, .counters, .latches, .ring, .log, .pcie, .sent] : List Part), p ∈ PP) (hR : ∀ r ∈ ([.ALM_ACTIVE, .ALM_LATCH, .RSEL_CAND_STAT, .SEQGEN_W0] : List Reg), r ∈ RR) :
    Only PP RR xx (Dev.todinMessage d line b delayUs) := hh.andThen (only_todinMessage d line b delayUs) hP hR
theorem only_todinLoss (d : Dev) (n : Nat) : Only [.cands, .counters, .latches, .ring, .log, .pcie, .sent] [.ALM_ACTIVE, .ALM_LATCH, .RSEL_CAND_STAT] d (Dev.todinLoss d n) := by
  unfold Dev.todinLoss
  (try dsimp only)
  repeat' first
    | with_reducible exact Only.refl
    | with_reducible refine Only.onCand ?_ _ _ (by decide)
    | with_reducible refine Only.disqualify ?_ _ _ (by decide) (by decide)
    | with_reducible refine Only.when ?_ _ _ ?_
    | split
    | dsimp only
theorem Only.todinLoss {PP : List Part} {RR : List Reg} {xx d : Dev} (hh : Only PP RR xx d) (n : Nat)
    (hP : ∀ p ∈ ([.cands, .counters, .latches, .ring, .log, .pcie, .sent] : List Part), p ∈ PP) (hR : ∀ r ∈ ([.ALM_ACTIVE, .ALM_LATCH, .RSEL_CAND_STAT] : List Reg), r ∈ RR) :
    Only PP RR xx (Dev.todinLoss d n) := hh.andThen (only_todinLoss d n) hP hR
theorem only_freqGateEnd (d : Dev) (id : Nat) (freq : Int) : Only [.cands, .counters, .latches, .ring, .log, .pcie, .sent] [.ALM_ACTIVE, .ALM_LATCH, .RSEL_CAND_FREQ, .RSEL_CAND_STAT] d (Dev.freqGateEnd d id freq) := by
  unfold Dev.freqGateEnd
  (try dsimp only)
  repeat' first
    | with_reducible exact Only.refl
    | with_reducible refine Only.set ?_ _ _ _ (by decide)
    | with_reducible refine Only.setB ?_ _ _ _ (by decide)
    | with_reducible refine Only.onCand ?_ _ _ (by decide)
    | with_reducible refine Only.disqualify ?_ _ _ (by decide) (by decide)
    | with_reducible refine Only.judgeDrift ?_ (by decide) (by decide)
    | with_reducible refine Only.restartQual ?_ _ (by decide) (by decide)
    | with_reducible refine Only.setActive ?_ _ _ (by decide) (by decide)
    | with_reducible refine Only.showMean ?_ _ (by decide) (by decide)
    | with_reducible refine Only.when ?_ _ _ ?_
    | split
    | dsimp only
theorem Only.freqGateEnd {PP : List Part} {RR : List Reg} {xx d : Dev} (hh : Only PP RR xx d) (id : Nat) (freq : Int)
    (hP : ∀ p ∈ ([.cands, .counters, .latches, .ring, .log, .pcie, .sent] : List Part), p ∈ PP) (hR : ∀ r ∈ ([.ALM_ACTIVE, .ALM_LATCH, .RSEL_CAND_FREQ, .RSEL_CAND_STAT] : List Reg), r ∈ RR) :
    Only PP RR xx (Dev.freqGateEnd d id freq) := hh.andThen (only_freqGateEnd d id freq) hP hR
theorem only_candidateQualified (d : Dev) (id : Nat) : Only [.cands] [.RSEL_CAND_STAT] d (Dev.candidateQualified d id) := by
  unfold Dev.candidateQualified
  (try dsimp only)
  repeat' first
    | with_reducible exact Only.refl
    | with_reducible refine Only.set ?_ _ _ _ (by decide)
    | with_reducible refine Only.candFlag ?_ _ _ _ (by decide) (by decide)
    | with_reducible refine Only.onCand ?_ _ _ (by decide)
    | split
    | dsimp only
theorem Only.candidateQualified {PP : List Part} {RR : List Reg} {xx d : Dev} (hh : Only PP RR xx d) (id : Nat)
    (hP : ∀ p ∈ ([.cands] : List Part), p ∈ PP) (hR : ∀ r ∈ ([.RSEL_CAND_STAT] : List Reg), r ∈ RR) :
    Only PP RR xx (Dev.candidateQualified d id) := hh.andThen (only_candidateQualified d id) hP hR
theorem only_refinCfgWrite (d : Dev) (n : Nat) (v : Word) : Only [.cands, .counters, .latches, .ring, .log, .pcie, .sent] [.ALM_ACTIVE, .ALM_LATCH, .RSEL_CAND_STAT, .RSEL_REFIN_CFG] d (Dev.refinCfgWrite d n v) := by
  unfold Dev.refinCfgWrite
  (try dsimp only)
  repeat' first
    | with_reducible exact Only.refl
    | with_reducible refine Only.set ?_ _ _ _ (by decide)
    | with_reducible refine Only.setB ?_ _ _ _ (by decide)
    | with_reducible refine Only.setWord ?_ _ _ _ (by decide)
    | with_reducible refine Only.onCand ?_ _ _ (by decide)
    | with_reducible refine Only.disqualify ?_ _ _ (by decide) (by decide)
    | split
    | dsimp only
theorem Only.refinCfgWrite {PP : List Part} {RR : List Reg} {xx d : Dev} (hh : Only PP RR xx d) (n : Nat) (v : Word)
    (hP : ∀ p ∈ ([.cands, .counters, .latches, .ring, .log, .pcie, .sent] : List Part), p ∈ PP) (hR : ∀ r ∈ ([.ALM_ACTIVE, .ALM_LATCH, .RSEL_CAND_STAT, .RSEL_REFIN_CFG] : List Reg), r ∈ RR) :
    Only PP RR xx (Dev.refinCfgWrite d n v) := hh.andThen (only_refinCfgWrite d n v) hP hR
theorem only_monitorError (d : Dev) (id : Nat) : Only [.cands, .counters, .latches, .ring, .log, .pcie, .sent] [.ALM_ACTIVE, .ALM_LATCH, .RSEL_CAND_STAT] d (Dev.monitorError d id) := by
  unfold Dev.monitorError
  (try dsimp only)
  repeat' first
    | with_reducible exact Only.refl
    | with_reducible refine Only.memError ?_ _ _ (by decide)
    | with_reducible refine Only.retireMonitor ?_ _ _ (by decide) (by decide)
    | split
    | dsimp only
theorem Only.monitorError {PP : List Part} {RR : List Reg} {xx d : Dev} (hh : Only PP RR xx d) (id : Nat)
    (hP : ∀ p ∈ ([.cands, .counters, .latches, .ring, .log, .pcie, .sent] : List Part), p ∈ PP) (hR : ∀ r ∈ ([.ALM_ACTIVE, .ALM_LATCH, .RSEL_CAND_STAT] : List Reg), r ∈ RR) :
    Only PP RR xx (Dev.monitorError d id) := hh.andThen (only_monitorError d id) hP hR

/-! ## Lanes -/

theorem only_bringPhase (d : Dev) (p : Nat) (e : PhaseEnd) (lat : LatMeas) : Only [.counters, .latches, .ring, .log, .pcie, .ptus, .sent] [.ALM_ACTIVE, .ALM_LATCH, .LANE_QUAD_STAT, .LANE_STAT, .PRT_LAT_STAT] d (Dev.bringPhase d p e lat) := by
  unfold Dev.bringPhase
  (try dsimp only)
  repeat' first
    | with_reducible exact Only.refl
    | with_reducible refine Only.quadSet ?_ _ _ _ (by decide) (by decide)
    | with_reducible refine Only.laneBit ?_ _ _ _ (by decide) (by decide)
    | with_reducible refine Only.measureUp ?_ _ _ (by decide) (by decide)
    | with_reducible refine Only.retryBring ?_ _ (by decide) (by decide)
    | with_reducible refine Only.each ?_ _ _ (fun _ _ => ?_)
    | split
    | dsimp only
theorem Only.bringPhase {PP : List Part} {RR : List Reg} {xx d : Dev} (hh : Only PP RR xx d) (p : Nat) (e : PhaseEnd) (lat : LatMeas)
    (hP : ∀ p ∈ ([.counters, .latches, .ring, .log, .pcie, .ptus, .sent] : List Part), p ∈ PP) (hR : ∀ r ∈ ([.ALM_ACTIVE, .ALM_LATCH, .LANE_QUAD_STAT, .LANE_STAT, .PRT_LAT_STAT] : List Reg), r ∈ RR) :
    Only PP RR xx (Dev.bringPhase d p e lat) := hh.andThen (only_bringPhase d p e lat) hP hR
theorem only_bringTimeout (d : Dev) (p : Nat) : Only [.counters, .latches, .ring, .log, .pcie, .sent] [.ALM_ACTIVE, .ALM_LATCH, .LANE_QUAD_STAT] d (Dev.bringTimeout d p) := by
  unfold Dev.bringTimeout
  (try dsimp only)
  repeat' first
    | with_reducible exact Only.refl
    | with_reducible refine Only.retryBring ?_ _ (by decide) (by decide)
    | split
    | dsimp only
theorem Only.bringTimeout {PP : List Part} {RR : List Reg} {xx d : Dev} (hh : Only PP RR xx d) (p : Nat)
    (hP : ∀ p ∈ ([.counters, .latches, .ring, .log, .pcie, .sent] : List Part), p ∈ PP) (hR : ∀ r ∈ ([.ALM_ACTIVE, .ALM_LATCH, .LANE_QUAD_STAT] : List Reg), r ∈ RR) :
    Only PP RR xx (Dev.bringTimeout d p) := hh.andThen (only_bringTimeout d p) hP hR
theorem only_linkComesUp (d : Dev) (p : Nat) : Only [.cands, .syns, .outs, .chans, .cpMail, .counters, .latches, .ring, .log, .pcie, .sw, .ports, .ptus, .sys, .sent, .freeCtr] [.ALM_ACTIVE, .ALM_LATCH, .LANE_BRINGUP, .LANE_QUAD_STAT, .OUT_STAT, .PRT_PTU_STAT, .PRT_Q_PTX, .PRT_REV_STAT, .PWR_PORT_STAT, .PWR_STAT, .RSEL_CAND_STAT, .SW_BUF_GATED, .SYN_CMD, .SYN_STAT] d (Dev.linkComesUp d p) := by
  unfold Dev.linkComesUp
  (try dsimp only)
  repeat' first
    | with_reducible exact Only.refl
    | with_reducible refine Only.set ?_ _ _ _ (by decide)
    | with_reducible refine Only.ptuBit ?_ _ _ _ (by decide) (by decide)
    | with_reducible refine Only.quadSet ?_ _ _ _ (by decide) (by decide)
    | with_reducible refine Only.onPort ?_ _ _ (by decide)
    | with_reducible refine Only.judgeBanks ?_ (by decide) (by decide)
    | with_reducible refine Only.judgeIdle ?_ _ (by decide) (by decide)
    | with_reducible refine Only.ptpBegin ?_ _ (by decide) (by decide)
    | with_reducible refine Only.refreshPower ?_ _ (by decide) (by decide)
    | with_reducible refine Only.refreshPtu ?_ _ (by decide) (by decide)
    | with_reducible refine Only.refreshPtx ?_ _ (by decide) (by decide)
    | with_reducible refine Only.restartDelay ?_ _ (by decide) (by decide)
    | with_reducible refine Only.sendHello ?_ _ (by decide) (by decide)
    | split
    | dsimp only
theorem Only.linkComesUp {PP : List Part} {RR : List Reg} {xx d : Dev} (hh : Only PP RR xx d) (p : Nat)
    (hP : ∀ p ∈ ([.cands, .syns, .outs, .chans, .cpMail, .counters, .latches, .ring, .log, .pcie, .sw, .ports, .ptus, .sys, .sent, .freeCtr] : List Part), p ∈ PP) (hR : ∀ r ∈ ([.ALM_ACTIVE, .ALM_LATCH, .LANE_BRINGUP, .LANE_QUAD_STAT, .OUT_STAT, .PRT_PTU_STAT, .PRT_Q_PTX, .PRT_REV_STAT, .PWR_PORT_STAT, .PWR_STAT, .RSEL_CAND_STAT, .SW_BUF_GATED, .SYN_CMD, .SYN_STAT] : List Reg), r ∈ RR) :
    Only PP RR xx (Dev.linkComesUp d p) := hh.andThen (only_linkComesUp d p) hP hR
theorem only_lossOfSignal (d : Dev) (p : Nat) : Only [.cands, .syns, .outs, .chans, .cpMail, .counters, .latches, .ring, .log, .pcie, .sw, .ports, .ptus, .sys, .sent, .freeCtr] [.ALM_ACTIVE, .ALM_LATCH, .LANE_PARTNER_DOM, .LANE_PARTNER_ID_HI, .LANE_PARTNER_ID_LO, .LANE_PARTNER_INFO, .LANE_QUAD_STAT, .LANE_STAT, .OUT_STAT, .PRT_GATE_STAT, .PRT_PTU_STAT, .PRT_Q_PTX, .PRT_Q_STAT, .PRT_REV_STAT, .PWR_PORT_STAT, .PWR_STAT, .RECOV_W4, .RSEL_CAND_STAT, .SW_BUF_GATED, .SYN_CMD, .SYN_STAT] d (Dev.lossOfSignal d p) := by
  unfold Dev.lossOfSignal
  (try dsimp only)
  repeat' first
    | with_reducible exact Only.refl
    | with_reducible refine Only.laneBit ?_ _ _ _ (by decide) (by decide)
    | with_reducible refine Only.dropLink ?_ _ _ (by decide) (by decide)
    | with_reducible refine Only.each ?_ _ _ (fun _ _ => ?_)
    | split
    | dsimp only
theorem Only.lossOfSignal {PP : List Part} {RR : List Reg} {xx d : Dev} (hh : Only PP RR xx d) (p : Nat)
    (hP : ∀ p ∈ ([.cands, .syns, .outs, .chans, .cpMail, .counters, .latches, .ring, .log, .pcie, .sw, .ports, .ptus, .sys, .sent, .freeCtr] : List Part), p ∈ PP) (hR : ∀ r ∈ ([.ALM_ACTIVE, .ALM_LATCH, .LANE_PARTNER_DOM, .LANE_PARTNER_ID_HI, .LANE_PARTNER_ID_LO, .LANE_PARTNER_INFO, .LANE_QUAD_STAT, .LANE_STAT, .OUT_STAT, .PRT_GATE_STAT, .PRT_PTU_STAT, .PRT_Q_PTX, .PRT_Q_STAT, .PRT_REV_STAT, .PWR_PORT_STAT, .PWR_STAT, .RECOV_W4, .RSEL_CAND_STAT, .SW_BUF_GATED, .SYN_CMD, .SYN_STAT] : List Reg), r ∈ RR) :
    Only PP RR xx (Dev.lossOfSignal d p) := hh.andThen (only_lossOfSignal d p) hP hR
theorem only_lockLost (d : Dev) (p : Nat) : Only [.cands, .syns, .outs, .chans, .cpMail, .counters, .latches, .ring, .log, .pcie, .sw, .ports, .ptus, .sys, .sent, .freeCtr] [.ALM_ACTIVE, .ALM_LATCH, .LANE_PARTNER_DOM, .LANE_PARTNER_ID_HI, .LANE_PARTNER_ID_LO, .LANE_PARTNER_INFO, .LANE_QUAD_STAT, .LANE_STAT, .OUT_STAT, .PRT_GATE_STAT, .PRT_PTU_STAT, .PRT_Q_PTX, .PRT_Q_STAT, .PRT_REV_STAT, .PWR_PORT_STAT, .PWR_STAT, .RECOV_W4, .RSEL_CAND_STAT, .SW_BUF_GATED, .SYN_CMD, .SYN_STAT] d (Dev.lockLost d p) := by
  unfold Dev.lockLost
  (try dsimp only)
  repeat' first
    | with_reducible exact Only.refl
    | with_reducible refine Only.dropLink ?_ _ _ (by decide) (by decide)
    | split
    | dsimp only
theorem Only.lockLost {PP : List Part} {RR : List Reg} {xx d : Dev} (hh : Only PP RR xx d) (p : Nat)
    (hP : ∀ p ∈ ([.cands, .syns, .outs, .chans, .cpMail, .counters, .latches, .ring, .log, .pcie, .sw, .ports, .ptus, .sys, .sent, .freeCtr] : List Part), p ∈ PP) (hR : ∀ r ∈ ([.ALM_ACTIVE, .ALM_LATCH, .LANE_PARTNER_DOM, .LANE_PARTNER_ID_HI, .LANE_PARTNER_ID_LO, .LANE_PARTNER_INFO, .LANE_QUAD_STAT, .LANE_STAT, .OUT_STAT, .PRT_GATE_STAT, .PRT_PTU_STAT, .PRT_Q_PTX, .PRT_Q_STAT, .PRT_REV_STAT, .PWR_PORT_STAT, .PWR_STAT, .RECOV_W4, .RSEL_CAND_STAT, .SW_BUF_GATED, .SYN_CMD, .SYN_STAT] : List Reg), r ∈ RR) :
    Only PP RR xx (Dev.lockLost d p) := hh.andThen (only_lockLost d p) hP hR
theorem only_degradeWindow (d : Dev) (p unc cor : Nat) (hiBer : Bool) : Only [.cands, .syns, .outs, .chans, .cpMail, .counters, .latches, .ring, .log, .pcie, .sw, .ports, .ptus, .sys, .sent, .freeCtr] [.ALM_ACTIVE, .ALM_LATCH, .LANE_PARTNER_DOM, .LANE_PARTNER_ID_HI, .LANE_PARTNER_ID_LO, .LANE_PARTNER_INFO, .LANE_QUAD_STAT, .LANE_STAT, .OUT_STAT, .PRT_GATE_STAT, .PRT_PTU_STAT, .PRT_Q_PTX, .PRT_Q_STAT, .PRT_REV_STAT, .PWR_PORT_STAT, .PWR_STAT, .RECOV_W4, .RSEL_CAND_STAT, .SW_BUF_GATED, .SYN_CMD, .SYN_STAT] d (Dev.degradeWindow d p unc cor hiBer) := by
  unfold Dev.degradeWindow
  (try dsimp only)
  repeat' first
    | with_reducible exact Only.refl
    | with_reducible refine Only.onPort ?_ _ _ (by decide)
    | with_reducible refine Only.countPort ?_ _ _ _ (by decide)
    | with_reducible refine Only.dropLink ?_ _ _ (by decide) (by decide)
    | split
    | dsimp only
theorem Only.degradeWindow {PP : List Part} {RR : List Reg} {xx d : Dev} (hh : Only PP RR xx d) (p unc cor : Nat) (hiBer : Bool)
    (hP : ∀ p ∈ ([.cands, .syns, .outs, .chans, .cpMail, .counters, .latches, .ring, .log, .pcie, .sw, .ports, .ptus, .sys, .sent, .freeCtr] : List Part), p ∈ PP) (hR : ∀ r ∈ ([.ALM_ACTIVE, .ALM_LATCH, .LANE_PARTNER_DOM, .LANE_PARTNER_ID_HI, .LANE_PARTNER_ID_LO, .LANE_PARTNER_INFO, .LANE_QUAD_STAT, .LANE_STAT, .OUT_STAT, .PRT_GATE_STAT, .PRT_PTU_STAT, .PRT_Q_PTX, .PRT_Q_STAT, .PRT_REV_STAT, .PWR_PORT_STAT, .PWR_STAT, .RECOV_W4, .RSEL_CAND_STAT, .SW_BUF_GATED, .SYN_CMD, .SYN_STAT] : List Reg), r ∈ RR) :
    Only PP RR xx (Dev.degradeWindow d p unc cor hiBer) := hh.andThen (only_degradeWindow d p unc cor hiBer) hP hR
theorem only_laneFault (d : Dev) (l : Nat) : Only [.cands, .syns, .outs, .chans, .cpMail, .counters, .latches, .ring, .log, .pcie, .sw, .ports, .ptus, .sys, .sent, .freeCtr] [.ALM_ACTIVE, .ALM_LATCH, .LANE_PARTNER_DOM, .LANE_PARTNER_ID_HI, .LANE_PARTNER_ID_LO, .LANE_PARTNER_INFO, .LANE_QUAD_STAT, .LANE_STAT, .OUT_STAT, .PRT_GATE_STAT, .PRT_PTU_STAT, .PRT_Q_PTX, .PRT_Q_STAT, .PRT_REV_STAT, .PWR_PORT_STAT, .PWR_STAT, .RECOV_W4, .RSEL_CAND_STAT, .SW_BUF_GATED, .SYN_CMD, .SYN_STAT] d (Dev.laneFault d l) := by
  unfold Dev.laneFault
  (try dsimp only)
  repeat' first
    | with_reducible exact Only.refl
    | with_reducible refine Only.retireLane ?_ _ (by decide) (by decide)
    | split
    | dsimp only
theorem Only.laneFault {PP : List Part} {RR : List Reg} {xx d : Dev} (hh : Only PP RR xx d) (l : Nat)
    (hP : ∀ p ∈ ([.cands, .syns, .outs, .chans, .cpMail, .counters, .latches, .ring, .log, .pcie, .sw, .ports, .ptus, .sys, .sent, .freeCtr] : List Part), p ∈ PP) (hR : ∀ r ∈ ([.ALM_ACTIVE, .ALM_LATCH, .LANE_PARTNER_DOM, .LANE_PARTNER_ID_HI, .LANE_PARTNER_ID_LO, .LANE_PARTNER_INFO, .LANE_QUAD_STAT, .LANE_STAT, .OUT_STAT, .PRT_GATE_STAT, .PRT_PTU_STAT, .PRT_Q_PTX, .PRT_Q_STAT, .PRT_REV_STAT, .PWR_PORT_STAT, .PWR_STAT, .RECOV_W4, .RSEL_CAND_STAT, .SW_BUF_GATED, .SYN_CMD, .SYN_STAT] : List Reg), r ∈ RR) :
    Only PP RR xx (Dev.laneFault d l) := hh.andThen (only_laneFault d l) hP hR
theorem only_laneTestWrite (d : Dev) (l : Nat) (v : Word) : Only [.cands, .syns, .outs, .chans, .cpMail, .counters, .latches, .ring, .log, .pcie, .sw, .ports, .ptus, .sys, .sent, .freeCtr] [.ALM_ACTIVE, .ALM_LATCH, .LANE_PARTNER_DOM, .LANE_PARTNER_ID_HI, .LANE_PARTNER_ID_LO, .LANE_PARTNER_INFO, .LANE_QUAD_STAT, .LANE_STAT, .LANE_TEST, .OUT_STAT, .PRT_GATE_STAT, .PRT_PTU_STAT, .PRT_Q_PTX, .PRT_Q_STAT, .PRT_REV_STAT, .PWR_PORT_STAT, .PWR_STAT, .RECOV_W4, .RSEL_CAND_STAT, .SW_BUF_GATED, .SYN_CMD, .SYN_STAT] d (Dev.laneTestWrite d l v) := by
  unfold Dev.laneTestWrite
  (try dsimp only)
  repeat' first
    | with_reducible exact Only.refl
    | with_reducible refine Only.set ?_ _ _ _ (by decide)
    | with_reducible refine Only.setWord ?_ _ _ _ (by decide)
    | with_reducible refine Only.laneBit ?_ _ _ _ (by decide) (by decide)
    | with_reducible refine Only.onPort ?_ _ _ (by decide)
    | with_reducible refine Only.endSleep ?_ _ (by decide) (by decide)
    | with_reducible refine Only.judgeBanks ?_ (by decide) (by decide)
    | with_reducible refine Only.judgePortCand ?_ _ (by decide) (by decide)
    | with_reducible refine Only.losePartner ?_ _ (by decide) (by decide)
    | with_reducible refine Only.portDown ?_ _ _ (by decide) (by decide)
    | with_reducible refine Only.ptpBegin ?_ _ (by decide) (by decide)
    | with_reducible refine Only.refreshPower ?_ _ (by decide) (by decide)
    | with_reducible refine Only.restartLpll ?_ _ (by decide) (by decide)
    | with_reducible refine Only.startBring ?_ _ (by decide) (by decide)
    | split
    | dsimp only
theorem Only.laneTestWrite {PP : List Part} {RR : List Reg} {xx d : Dev} (hh : Only PP RR xx d) (l : Nat) (v : Word)
    (hP : ∀ p ∈ ([.cands, .syns, .outs, .chans, .cpMail, .counters, .latches, .ring, .log, .pcie, .sw, .ports, .ptus, .sys, .sent, .freeCtr] : List Part), p ∈ PP) (hR : ∀ r ∈ ([.ALM_ACTIVE, .ALM_LATCH, .LANE_PARTNER_DOM, .LANE_PARTNER_ID_HI, .LANE_PARTNER_ID_LO, .LANE_PARTNER_INFO, .LANE_QUAD_STAT, .LANE_STAT, .LANE_TEST, .OUT_STAT, .PRT_GATE_STAT, .PRT_PTU_STAT, .PRT_Q_PTX, .PRT_Q_STAT, .PRT_REV_STAT, .PWR_PORT_STAT, .PWR_STAT, .RECOV_W4, .RSEL_CAND_STAT, .SW_BUF_GATED, .SYN_CMD, .SYN_STAT] : List Reg), r ∈ RR) :
    Only PP RR xx (Dev.laneTestWrite d l v) := hh.andThen (only_laneTestWrite d l v) hP hR
theorem only_chkGained (d : Dev) (l : Nat) : Only [] [.LANE_STAT] d (Dev.chkGained d l) := by
  unfold Dev.chkGained
  (try dsimp only)
  repeat' first
    | with_reducible exact Only.refl
    | with_reducible refine Only.laneBit ?_ _ _ _ (by decide) (by decide)
    | split
    | dsimp only
theorem Only.chkGained {PP : List Part} {RR : List Reg} {xx d : Dev} (hh : Only PP RR xx d) (l : Nat)
    (hP : ∀ p ∈ ([] : List Part), p ∈ PP) (hR : ∀ r ∈ ([.LANE_STAT] : List Reg), r ∈ RR) :
    Only PP RR xx (Dev.chkGained d l) := hh.andThen (only_chkGained d l) hP hR
theorem only_chkLost (d : Dev) (l errors : Nat) (lost : Bool) : Only [] [.LANE_PRBS_ERR, .LANE_STAT] d (Dev.chkLost d l errors lost) := by
  unfold Dev.chkLost
  (try dsimp only)
  repeat' first
    | with_reducible exact Only.refl
    | with_reducible refine Only.set ?_ _ _ _ (by decide)
    | with_reducible refine Only.laneBit ?_ _ _ _ (by decide) (by decide)
    | split
    | dsimp only
theorem Only.chkLost {PP : List Part} {RR : List Reg} {xx d : Dev} (hh : Only PP RR xx d) (l errors : Nat) (lost : Bool)
    (hP : ∀ p ∈ ([] : List Part), p ∈ PP) (hR : ∀ r ∈ ([.LANE_PRBS_ERR, .LANE_STAT] : List Reg), r ∈ RR) :
    Only PP RR xx (Dev.chkLost d l errors lost) := hh.andThen (only_chkLost d l errors lost) hP hR
theorem only_rxWaking (d : Dev) (p : Nat) : Only [.syns, .outs, .counters, .latches, .ring, .log, .pcie, .sw, .ports, .sys, .sent] [.ALM_ACTIVE, .ALM_LATCH, .LANE_QUAD_STAT, .OUT_STAT, .PRT_PTU_STAT, .PWR_STAT, .SW_BUF_GATED, .SYN_CMD, .SYN_STAT] d (Dev.rxWaking d p) := by
  unfold Dev.rxWaking
  (try dsimp only)
  repeat' first
    | with_reducible exact Only.refl
    | with_reducible refine Only.quadSet ?_ _ _ _ (by decide) (by decide)
    | with_reducible refine Only.onPort ?_ _ _ (by decide)
    | with_reducible refine Only.judgeBanks ?_ (by decide) (by decide)
    | with_reducible refine Only.refreshPtu ?_ _ (by decide) (by decide)
    | with_reducible refine Only.restartLpll ?_ _ (by decide) (by decide)
    | split
    | dsimp only
theorem Only.rxWaking {PP : List Part} {RR : List Reg} {xx d : Dev} (hh : Only PP RR xx d) (p : Nat)
    (hP : ∀ p ∈ ([.syns, .outs, .counters, .latches, .ring, .log, .pcie, .sw, .ports, .sys, .sent] : List Part), p ∈ PP) (hR : ∀ r ∈ ([.ALM_ACTIVE, .ALM_LATCH, .LANE_QUAD_STAT, .OUT_STAT, .PRT_PTU_STAT, .PWR_STAT, .SW_BUF_GATED, .SYN_CMD, .SYN_STAT] : List Reg), r ∈ RR) :
    Only PP RR xx (Dev.rxWaking d p) := hh.andThen (only_rxWaking d p) hP hR
theorem only_laneCfgWrite (d : Dev) (l : Nat) (v : Word) : Only [.cands, .syns, .outs, .chans, .cpMail, .counters, .latches, .ring, .log, .pcie, .sw, .ports, .ptus, .sys, .sent, .freeCtr] [.ALM_ACTIVE, .ALM_LATCH, .LANE_CFG, .LANE_PARTNER_DOM, .LANE_PARTNER_ID_HI, .LANE_PARTNER_ID_LO, .LANE_PARTNER_INFO, .LANE_QUAD_STAT, .LANE_STAT, .OUT_STAT, .PRT_GATE_STAT, .PRT_PTU_STAT, .PRT_Q_PTX, .PRT_Q_STAT, .PRT_REV_STAT, .PWR_PORT_STAT, .PWR_STAT, .RECOV_W4, .RSEL_CAND_STAT, .SW_BUF_GATED, .SYN_CMD, .SYN_STAT] d (Dev.laneCfgWrite d l v) := by
  unfold Dev.laneCfgWrite
  (try dsimp only)
  repeat' first
    | with_reducible exact Only.refl
    | with_reducible refine Only.set ?_ _ _ _ (by decide)
    | with_reducible refine Only.dropLink ?_ _ _ (by decide) (by decide)
    | with_reducible refine Only.startBring ?_ _ (by decide) (by decide)
    | split
    | dsimp only
theorem Only.laneCfgWrite {PP : List Part} {RR : List Reg} {xx d : Dev} (hh : Only PP RR xx d) (l : Nat) (v : Word)
    (hP : ∀ p ∈ ([.cands, .syns, .outs, .chans, .cpMail, .counters, .latches, .ring, .log, .pcie, .sw, .ports, .ptus, .sys, .sent, .freeCtr] : List Part), p ∈ PP) (hR : ∀ r ∈ ([.ALM_ACTIVE, .ALM_LATCH, .LANE_CFG, .LANE_PARTNER_DOM, .LANE_PARTNER_ID_HI, .LANE_PARTNER_ID_LO, .LANE_PARTNER_INFO, .LANE_QUAD_STAT, .LANE_STAT, .OUT_STAT, .PRT_GATE_STAT, .PRT_PTU_STAT, .PRT_Q_PTX, .PRT_Q_STAT, .PRT_REV_STAT, .PWR_PORT_STAT, .PWR_STAT, .RECOV_W4, .RSEL_CAND_STAT, .SW_BUF_GATED, .SYN_CMD, .SYN_STAT] : List Reg), r ∈ RR) :
    Only PP RR xx (Dev.laneCfgWrite d l v) := hh.andThen (only_laneCfgWrite d l v) hP hR
theorem only_quadRestart (d : Dev) (p : Nat) : Only [.cands, .syns, .outs, .chans, .cpMail, .counters, .latches, .ring, .log, .pcie, .sw, .ports, .ptus, .sys, .sent, .freeCtr] [.ALM_ACTIVE, .ALM_LATCH, .LANE_PARTNER_DOM, .LANE_PARTNER_ID_HI, .LANE_PARTNER_ID_LO, .LANE_PARTNER_INFO, .LANE_QUAD_CMD, .LANE_QUAD_STAT, .LANE_STAT, .OUT_STAT, .PRT_GATE_STAT, .PRT_PTU_STAT, .PRT_Q_PTX, .PRT_Q_STAT, .PRT_REV_STAT, .PWR_PORT_STAT, .PWR_STAT, .RECOV_W4, .RSEL_CAND_STAT, .SW_BUF_GATED, .SYN_CMD, .SYN_STAT] d (Dev.quadRestart d p) := by
  unfold Dev.quadRestart
  (try dsimp only)
  repeat' first
    | with_reducible exact Only.refl
    | with_reducible refine Only.set ?_ _ _ _ (by decide)
    | with_reducible refine Only.portDown ?_ _ _ (by decide) (by decide)
    | with_reducible refine Only.startBring ?_ _ (by decide) (by decide)
    | split
    | dsimp only
theorem Only.quadRestart {PP : List Part} {RR : List Reg} {xx d : Dev} (hh : Only PP RR xx d) (p : Nat)
    (hP : ∀ p ∈ ([.cands, .syns, .outs, .chans, .cpMail, .counters, .latches, .ring, .log, .pcie, .sw, .ports, .ptus, .sys, .sent, .freeCtr] : List Part), p ∈ PP) (hR : ∀ r ∈ ([.ALM_ACTIVE, .ALM_LATCH, .LANE_PARTNER_DOM, .LANE_PARTNER_ID_HI, .LANE_PARTNER_ID_LO, .LANE_PARTNER_INFO, .LANE_QUAD_CMD, .LANE_QUAD_STAT, .LANE_STAT, .OUT_STAT, .PRT_GATE_STAT, .PRT_PTU_STAT, .PRT_Q_PTX, .PRT_Q_STAT, .PRT_REV_STAT, .PWR_PORT_STAT, .PWR_STAT, .RECOV_W4, .RSEL_CAND_STAT, .SW_BUF_GATED, .SYN_CMD, .SYN_STAT] : List Reg), r ∈ RR) :
    Only PP RR xx (Dev.quadRestart d p) := hh.andThen (only_quadRestart d p) hP hR
theorem only_setDisc (d : Dev) (p : Nat) (on : Bool) : Only [.syns, .outs, .counters, .latches, .ring, .log, .pcie, .sw, .ports, .sys, .sent, .freeCtr] [.ALM_ACTIVE, .ALM_LATCH, .LANE_PARTNER_DOM, .LANE_PARTNER_ID_HI, .LANE_PARTNER_ID_LO, .LANE_PARTNER_INFO, .LANE_QUAD_CFG, .LANE_QUAD_STAT, .OUT_STAT, .PRT_PTU_STAT, .PWR_PORT_STAT, .PWR_STAT, .SW_BUF_GATED, .SYN_CMD, .SYN_STAT] d (Dev.setDisc d p on) := by
  unfold Dev.setDisc
  (try dsimp only)
  repeat' first
    | with_reducible exact Only.refl
    | with_reducible refine Only.setB ?_ _ _ _ (by decide)
    | with_reducible refine Only.onPort ?_ _ _ (by decide)
    | with_reducible refine Only.losePartner ?_ _ (by decide) (by decide)
    | with_reducible refine Only.sendHello ?_ _ (by decide) (by decide)
    | split
    | dsimp only
theorem Only.setDisc {PP : List Part} {RR : List Reg} {xx d : Dev} (hh : Only PP RR xx d) (p : Nat) (on : Bool)
    (hP : ∀ p ∈ ([.syns, .outs, .counters, .latches, .ring, .log, .pcie, .sw, .ports, .sys, .sent, .freeCtr] : List Part), p ∈ PP) (hR : ∀ r ∈ ([.ALM_ACTIVE, .ALM_LATCH, .LANE_PARTNER_DOM, .LANE_PARTNER_ID_HI, .LANE_PARTNER_ID_LO, .LANE_PARTNER_INFO, .LANE_QUAD_CFG, .LANE_QUAD_STAT, .OUT_STAT, .PRT_PTU_STAT, .PWR_PORT_STAT, .PWR_STAT, .SW_BUF_GATED, .SYN_CMD, .SYN_STAT] : List Reg), r ∈ RR) :
    Only PP RR xx (Dev.setDisc d p on) := hh.andThen (only_setDisc d p on) hP hR
theorem only_quadCfgWrite (d : Dev) (p : Nat) (v : Word) : Only [.cands, .syns, .outs, .chans, .cpMail, .counters, .latches, .ring, .log, .pcie, .sw, .ports, .ptus, .sys, .sent, .freeCtr] [.ALM_ACTIVE, .ALM_LATCH, .LANE_PARTNER_DOM, .LANE_PARTNER_ID_HI, .LANE_PARTNER_ID_LO, .LANE_PARTNER_INFO, .LANE_QUAD_CFG, .LANE_QUAD_STAT, .LANE_STAT, .LANE_TEST, .OUT_STAT, .PRT_GATE_STAT, .PRT_PTU_STAT, .PRT_Q_PTX, .PRT_Q_STAT, .PRT_REV_STAT, .PWR_PORT_STAT, .PWR_STAT, .RECOV_W4, .RSEL_CAND_STAT, .SW_BUF_GATED, .SYN_CMD, .SYN_STAT] d (Dev.quadCfgWrite d p v) := by
  unfold Dev.quadCfgWrite
  (try dsimp only)
  repeat' first
    | with_reducible exact Only.refl
    | with_reducible refine Only.set ?_ _ _ _ (by decide)
    | with_reducible refine Only.judgeSleep ?_ _ (by decide) (by decide)
    | with_reducible refine Only.newMode ?_ _ _ (by decide) (by decide)
    | with_reducible refine Only.rxWaking ?_ _ (by decide) (by decide)
    | with_reducible refine Only.setDisc ?_ _ _ (by decide) (by decide)
    | with_reducible refine Only.when ?_ _ _ ?_
    | split
    | dsimp only
theorem Only.quadCfgWrite {PP : List Part} {RR : List Reg} {xx d : Dev} (hh : Only PP RR xx d) (p : Nat) (v : Word)
    (hP : ∀ p ∈ ([.cands, .syns, .outs, .chans, .cpMail, .counters, .latches, .ring, .log, .pcie, .sw, .ports, .ptus, .sys, .sent, .freeCtr] : List Part), p ∈ PP) (hR : ∀ r ∈ ([.ALM_ACTIVE, .ALM_LATCH, .LANE_PARTNER_DOM, .LANE_PARTNER_ID_HI, .LANE_PARTNER_ID_LO, .LANE_PARTNER_INFO, .LANE_QUAD_CFG, .LANE_QUAD_STAT, .LANE_STAT, .LANE_TEST, .OUT_STAT, .PRT_GATE_STAT, .PRT_PTU_STAT, .PRT_Q_PTX, .PRT_Q_STAT, .PRT_REV_STAT, .PWR_PORT_STAT, .PWR_STAT, .RECOV_W4, .RSEL_CAND_STAT, .SW_BUF_GATED, .SYN_CMD, .SYN_STAT] : List Reg), r ∈ RR) :
    Only PP RR xx (Dev.quadCfgWrite d p v) := hh.andThen (only_quadCfgWrite d p v) hP hR
theorem only_sendNoticeFrame (d : Dev) (p depth : Nat) : Only [.syns, .outs, .chans, .cpMail, .counters, .latches, .ring, .log, .pcie, .sw, .ports, .sys, .sent, .freeCtr] [.ALM_ACTIVE, .ALM_LATCH, .LANE_QUAD_STAT, .OUT_STAT, .PWR_STAT, .SW_BUF_GATED, .SYN_CMD, .SYN_STAT] d (Dev.sendNoticeFrame d p depth) := by
  unfold Dev.sendNoticeFrame
  (try dsimp only)
  repeat' first
    | with_reducible exact Only.refl
    | with_reducible refine Only.onPort ?_ _ _ (by decide)
    | with_reducible refine Only.spendFree ?_ (by decide)
    | with_reducible refine Only.notice ?_ _ (by decide) (by decide)
    | with_reducible refine Only.queueOwn ?_ _ _ _ (by decide) (by decide)
    | split
    | dsimp only
theorem Only.sendNoticeFrame {PP : List Part} {RR : List Reg} {xx d : Dev} (hh : Only PP RR xx d) (p depth : Nat)
    (hP : ∀ p ∈ ([.syns, .outs, .chans, .cpMail, .counters, .latches, .ring, .log, .pcie, .sw, .ports, .sys, .sent, .freeCtr] : List Part), p ∈ PP) (hR : ∀ r ∈ ([.ALM_ACTIVE, .ALM_LATCH, .LANE_QUAD_STAT, .OUT_STAT, .PWR_STAT, .SW_BUF_GATED, .SYN_CMD, .SYN_STAT] : List Reg), r ∈ RR) :
    Only PP RR xx (Dev.sendNoticeFrame d p depth) := hh.andThen (only_sendNoticeFrame d p depth) hP hR
theorem only_txAsleep (d : Dev) (p depth : Nat) : Only [.counters, .latches, .ring, .log, .pcie, .sw, .ports, .sent] [.ALM_ACTIVE, .ALM_LATCH, .LANE_QUAD_STAT, .PRT_PTU_STAT, .PWR_STAT, .SW_BUF_GATED] d (Dev.txAsleep d p depth) := by
  unfold Dev.txAsleep
  (try dsimp only)
  repeat' first
    | with_reducible exact Only.refl
    | with_reducible refine Only.quadSet ?_ _ _ _ (by decide) (by decide)
    | with_reducible refine Only.onPort ?_ _ _ (by decide)
    | with_reducible refine Only.countPort ?_ _ _ _ (by decide)
    | with_reducible refine Only.portEvent ?_ _ _ _ _ (by decide)
    | with_reducible refine Only.judgeBanks ?_ (by decide) (by decide)
    | with_reducible refine Only.refreshPtu ?_ _ (by decide) (by decide)
    | split
    | dsimp only
theorem Only.txAsleep {PP : List Part} {RR : List Reg} {xx d : Dev} (hh : Only PP RR xx d) (p depth : Nat)
    (hP : ∀ p ∈ ([.counters, .latches, .ring, .log, .pcie, .sw, .ports, .sent] : List Part), p ∈ PP) (hR : ∀ r ∈ ([.ALM_ACTIVE, .ALM_LATCH, .LANE_QUAD_STAT, .PRT_PTU_STAT, .PWR_STAT, .SW_BUF_GATED] : List Reg), r ∈ RR) :
    Only PP RR xx (Dev.txAsleep d p depth) := hh.andThen (only_txAsleep d p depth) hP hR
theorem only_sleepDecision (d : Dev) (p : Nat) : Only [.syns, .outs, .chans, .cpMail, .counters, .latches, .ring, .log, .pcie, .sw, .ports, .sys, .sent, .freeCtr] [.ALM_ACTIVE, .ALM_LATCH, .LANE_QUAD_STAT, .OUT_STAT, .PRT_PTU_STAT, .PWR_PORT_STAT, .PWR_STAT, .SW_BUF_GATED, .SYN_CMD, .SYN_STAT] d (Dev.sleepDecision d p) := by
  unfold Dev.sleepDecision
  (try dsimp only)
  repeat' first
    | with_reducible exact Only.refl
    | with_reducible refine Only.refreshPower ?_ _ (by decide) (by decide)
    | with_reducible refine Only.sendNoticeFrame ?_ _ _ (by decide) (by decide)
    | with_reducible refine Only.txAsleep ?_ _ _ (by decide) (by decide)
    | split
    | dsimp only
theorem Only.sleepDecision {PP : List Part} {RR : List Reg} {xx d : Dev} (hh : Only PP RR xx d) (p : Nat)
    (hP : ∀ p ∈ ([.syns, .outs, .chans, .cpMail, .counters, .latches, .ring, .log, .pcie, .sw, .ports, .sys, .sent, .freeCtr] : List Part), p ∈ PP) (hR : ∀ r ∈ ([.ALM_ACTIVE, .ALM_LATCH, .LANE_QUAD_STAT, .OUT_STAT, .PRT_PTU_STAT, .PWR_PORT_STAT, .PWR_STAT, .SW_BUF_GATED, .SYN_CMD, .SYN_STAT] : List Reg), r ∈ RR) :
    Only PP RR xx (Dev.sleepDecision d p) := hh.andThen (only_sleepDecision d p) hP hR
theorem only_selfLoop (d : Dev) (p : Nat) : Only [.counters, .latches, .ring, .log, .pcie, .sent] [.ALM_ACTIVE, .ALM_LATCH, .LANE_QUAD_STAT] d (Dev.selfLoop d p) := by
  unfold Dev.selfLoop
  (try dsimp only)
  repeat' first
    | with_reducible exact Only.refl
    | with_reducible refine Only.quadSet ?_ _ _ _ (by decide) (by decide)
    | with_reducible refine Only.portEvent ?_ _ _ _ _ (by decide)
    | split
    | dsimp only
theorem Only.selfLoop {PP : List Part} {RR : List Reg} {xx d : Dev} (hh : Only PP RR xx d) (p : Nat)
    (hP : ∀ p ∈ ([.counters, .latches, .ring, .log, .pcie, .sent] : List Part), p ∈ PP) (hR : ∀ r ∈ ([.ALM_ACTIVE, .ALM_LATCH, .LANE_QUAD_STAT] : List Reg), r ∈ RR) :
    Only PP RR xx (Dev.selfLoop d p) := hh.andThen (only_selfLoop d p) hP hR
theorem only_noticeReceived (d : Dev) (p : Nat) (b : List Byte) (fcsOk : Bool) : Only [.counters, .latches, .ring, .log, .pcie, .ports, .sent] [.ALM_ACTIVE, .ALM_LATCH, .LANE_QUAD_STAT] d (Dev.noticeReceived d p b fcsOk) := by
  unfold Dev.noticeReceived
  (try dsimp only)
  repeat' first
    | with_reducible exact Only.refl
    | with_reducible refine Only.quadSet ?_ _ _ _ (by decide) (by decide)
    | with_reducible refine Only.onPort ?_ _ _ (by decide)
    | with_reducible refine Only.portEvent ?_ _ _ _ _ (by decide)
    | with_reducible refine Only.selfLoop ?_ _ (by decide) (by decide)
    | split
    | dsimp only
theorem Only.noticeReceived {PP : List Part} {RR : List Reg} {xx d : Dev} (hh : Only PP RR xx d) (p : Nat) (b : List Byte) (fcsOk : Bool)
    (hP : ∀ p ∈ ([.counters, .latches, .ring, .log, .pcie, .ports, .sent] : List Part), p ∈ PP) (hR : ∀ r ∈ ([.ALM_ACTIVE, .ALM_LATCH, .LANE_QUAD_STAT] : List Reg), r ∈ RR) :
    Only PP RR xx (Dev.noticeReceived d p b fcsOk) := hh.andThen (only_noticeReceived d p b fcsOk) hP hR
theorem only_sleepEntry (d : Dev) (p : Nat) (dir : Dir) (runs : Bool) : Only [.counters, .latches, .ring, .log, .pcie, .sw, .ports, .sent] [.ALM_ACTIVE, .ALM_LATCH, .LANE_QUAD_STAT, .PRT_PTU_STAT, .PWR_STAT, .SW_BUF_GATED] d (Dev.sleepEntry d p dir runs) := by
  unfold Dev.sleepEntry
  (try dsimp only)
  repeat' first
    | with_reducible exact Only.refl
    | with_reducible refine Only.quadSet ?_ _ _ _ (by decide) (by decide)
    | with_reducible refine Only.onPort ?_ _ _ (by decide)
    | with_reducible refine Only.portEvent ?_ _ _ _ _ (by decide)
    | with_reducible refine Only.judgeBanks ?_ (by decide) (by decide)
    | with_reducible refine Only.refreshPtu ?_ _ (by decide) (by decide)
    | with_reducible refine Only.txAsleep ?_ _ _ (by decide) (by decide)
    | with_reducible refine Only.when ?_ _ _ ?_
    | split
    | dsimp only
theorem Only.sleepEntry {PP : List Part} {RR : List Reg} {xx d : Dev} (hh : Only PP RR xx d) (p : Nat) (dir : Dir) (runs : Bool)
    (hP : ∀ p ∈ ([.counters, .latches, .ring, .log, .pcie, .sw, .ports, .sent] : List Part), p ∈ PP) (hR : ∀ r ∈ ([.ALM_ACTIVE, .ALM_LATCH, .LANE_QUAD_STAT, .PRT_PTU_STAT, .PWR_STAT, .SW_BUF_GATED] : List Reg), r ∈ RR) :
    Only PP RR xx (Dev.sleepEntry d p dir runs) := hh.andThen (only_sleepEntry d p dir runs) hP hR
theorem only_deepening (d : Dev) (p : Nat) : Only [.syns, .outs, .counters, .latches, .ring, .log, .pcie, .sw, .ports, .sys, .sent] [.ALM_ACTIVE, .ALM_LATCH, .LANE_QUAD_STAT, .OUT_STAT, .PWR_STAT, .SW_BUF_GATED, .SYN_CMD, .SYN_STAT] d (Dev.deepening d p) := by
  unfold Dev.deepening
  (try dsimp only)
  repeat' first
    | with_reducible exact Only.refl
    | with_reducible refine Only.onPort ?_ _ _ (by decide)
    | with_reducible refine Only.portEvent ?_ _ _ _ _ (by decide)
    | with_reducible refine Only.wakeTx ?_ _ (by decide) (by decide)
    | split
    | dsimp only
theorem Only.deepening {PP : List Part} {RR : List Reg} {xx d : Dev} (hh : Only PP RR xx d) (p : Nat)
    (hP : ∀ p ∈ ([.syns, .outs, .counters, .latches, .ring, .log, .pcie, .sw, .ports, .sys, .sent] : List Part), p ∈ PP) (hR : ∀ r ∈ ([.ALM_ACTIVE, .ALM_LATCH, .LANE_QUAD_STAT, .OUT_STAT, .PWR_STAT, .SW_BUF_GATED, .SYN_CMD, .SYN_STAT] : List Reg), r ∈ RR) :
    Only PP RR xx (Dev.deepening d p) := hh.andThen (only_deepening d p) hP hR
theorem only_burstLead (d : Dev) (p : Nat) (dir : Dir) : Only [.syns, .outs, .counters, .latches, .ring, .log, .pcie, .ports, .sys, .sent] [.ALM_ACTIVE, .ALM_LATCH, .OUT_STAT, .SYN_CMD, .SYN_STAT] d (Dev.burstLead d p dir) := by
  unfold Dev.burstLead
  (try dsimp only)
  repeat' first
    | with_reducible exact Only.refl
    | with_reducible refine Only.onPort ?_ _ _ (by decide)
    | with_reducible refine Only.restartLpll ?_ _ (by decide) (by decide)
    | split
    | dsimp only
theorem Only.burstLead {PP : List Part} {RR : List Reg} {xx d : Dev} (hh : Only PP RR xx d) (p : Nat) (dir : Dir)
    (hP : ∀ p ∈ ([.syns, .outs, .counters, .latches, .ring, .log, .pcie, .ports, .sys, .sent] : List Part), p ∈ PP) (hR : ∀ r ∈ ([.ALM_ACTIVE, .ALM_LATCH, .OUT_STAT, .SYN_CMD, .SYN_STAT] : List Reg), r ∈ RR) :
    Only PP RR xx (Dev.burstLead d p dir) := hh.andThen (only_burstLead d p dir) hP hR
theorem only_refreshBurst (d : Dev) (p : Nat) : Only [.counters, .latches, .ring, .log, .pcie, .ports, .sent] [.ALM_ACTIVE, .ALM_LATCH] d (Dev.refreshBurst d p) := by
  unfold Dev.refreshBurst
  (try dsimp only)
  repeat' first
    | with_reducible exact Only.refl
    | with_reducible refine Only.onPort ?_ _ _ (by decide)
    | with_reducible refine Only.countPort ?_ _ _ _ (by decide)
    | split
    | dsimp only
theorem Only.refreshBurst {PP : List Part} {RR : List Reg} {xx d : Dev} (hh : Only PP RR xx d) (p : Nat)
    (hP : ∀ p ∈ ([.counters, .latches, .ring, .log, .pcie, .ports, .sent] : List Part), p ∈ PP) (hR : ∀ r ∈ ([.ALM_ACTIVE, .ALM_LATCH] : List Reg), r ∈ RR) :
    Only PP RR xx (Dev.refreshBurst d p) := hh.andThen (only_refreshBurst d p) hP hR
theorem only_burstMissed (d : Dev) (p : Nat) : Only [.cands, .syns, .outs, .chans, .cpMail, .counters, .latches, .ring, .log, .pcie, .sw, .ports, .ptus, .sys, .sent, .freeCtr] [.ALM_ACTIVE, .ALM_LATCH, .LANE_PARTNER_DOM, .LANE_PARTNER_ID_HI, .LANE_PARTNER_ID_LO, .LANE_PARTNER_INFO, .LANE_QUAD_STAT, .LANE_STAT, .OUT_STAT, .PRT_GATE_STAT, .PRT_PTU_STAT, .PRT_Q_PTX, .PRT_Q_STAT, .PRT_REV_STAT, .PWR_PORT_STAT, .PWR_STAT, .RECOV_W4, .RSEL_CAND_STAT, .SW_BUF_GATED, .SYN_CMD, .SYN_STAT] d (Dev.burstMissed d p) := by
  unfold Dev.burstMissed
  (try dsimp only)
  repeat' first
    | with_reducible exact Only.refl
    | with_reducible refine Only.onPort ?_ _ _ (by decide)
    | with_reducible refine Only.countPort ?_ _ _ _ (by decide)
    | with_reducible refine Only.dropLink ?_ _ _ (by decide) (by decide)
    | split
    | dsimp only
theorem Only.burstMissed {PP : List Part} {RR : List Reg} {xx d : Dev} (hh : Only PP RR xx d) (p : Nat)
    (hP : ∀ p ∈ ([.cands, .syns, .outs, .chans, .cpMail, .counters, .latches, .ring, .log, .pcie, .sw, .ports, .ptus, .sys, .sent, .freeCtr] : List Part), p ∈ PP) (hR : ∀ r ∈ ([.ALM_ACTIVE, .ALM_LATCH, .LANE_PARTNER_DOM, .LANE_PARTNER_ID_HI, .LANE_PARTNER_ID_LO, .LANE_PARTNER_INFO, .LANE_QUAD_STAT, .LANE_STAT, .OUT_STAT, .PRT_GATE_STAT, .PRT_PTU_STAT, .PRT_Q_PTX, .PRT_Q_STAT, .PRT_REV_STAT, .PWR_PORT_STAT, .PWR_STAT, .RECOV_W4, .RSEL_CAND_STAT, .SW_BUF_GATED, .SYN_CMD, .SYN_STAT] : List Reg), r ∈ RR) :
    Only PP RR xx (Dev.burstMissed d p) := hh.andThen (only_burstMissed d p) hP hR
theorem only_burstPhase (d : Dev) (p : Nat) (x : Int) : Only [.cands, .ptus] [] d (Dev.burstPhase d p x) := by
  unfold Dev.burstPhase
  (try dsimp only)
  repeat' first
    | with_reducible exact Only.refl
    | with_reducible refine Only.onPtu ?_ _ _ (by decide)
    | with_reducible refine Only.passTheta ?_ _ _ (by decide) (by decide)
    | split
    | dsimp only
theorem Only.burstPhase {PP : List Part} {RR : List Reg} {xx d : Dev} (hh : Only PP RR xx d) (p : Nat) (x : Int)
    (hP : ∀ p ∈ ([.cands, .ptus] : List Part), p ∈ PP) (hR : ∀ r ∈ ([] : List Reg), r ∈ RR) :
    Only PP RR xx (Dev.burstPhase d p x) := hh.andThen (only_burstPhase d p x) hP hR
theorem only_burstReceived (d : Dev) (p : Nat) (x : Int) : Only [.cands, .syns, .outs, .chans, .cpMail, .counters, .latches, .ring, .log, .pcie, .sw, .ports, .ptus, .sys, .sent, .freeCtr] [.ALM_ACTIVE, .ALM_LATCH, .LANE_PARTNER_DOM, .LANE_PARTNER_ID_HI, .LANE_PARTNER_ID_LO, .LANE_PARTNER_INFO, .LANE_QUAD_STAT, .LANE_STAT, .OUT_STAT, .PRT_GATE_STAT, .PRT_PTU_STAT, .PRT_Q_PTX, .PRT_Q_STAT, .PRT_REV_STAT, .PWR_PORT_STAT, .PWR_STAT, .RECOV_W4, .RSEL_CAND_STAT, .SW_BUF_GATED, .SYN_CMD, .SYN_STAT] d (Dev.burstReceived d p x) := by
  unfold Dev.burstReceived
  (try dsimp only)
  repeat' first
    | with_reducible exact Only.refl
    | with_reducible refine Only.onPort ?_ _ _ (by decide)
    | with_reducible refine Only.burstMissed ?_ _ (by decide) (by decide)
    | with_reducible refine Only.burstPhase ?_ _ _ (by decide) (by decide)
    | split
    | dsimp only
theorem Only.burstReceived {PP : List Part} {RR : List Reg} {xx d : Dev} (hh : Only PP RR xx d) (p : Nat) (x : Int)
    (hP : ∀ p ∈ ([.cands, .syns, .outs, .chans, .cpMail, .counters, .latches, .ring, .log, .pcie, .sw, .ports, .ptus, .sys, .sent, .freeCtr] : List Part), p ∈ PP) (hR : ∀ r ∈ ([.ALM_ACTIVE, .ALM_LATCH, .LANE_PARTNER_DOM, .LANE_PARTNER_ID_HI, .LANE_PARTNER_ID_LO, .LANE_PARTNER_INFO, .LANE_QUAD_STAT, .LANE_STAT, .OUT_STAT, .PRT_GATE_STAT, .PRT_PTU_STAT, .PRT_Q_PTX, .PRT_Q_STAT, .PRT_REV_STAT, .PWR_PORT_STAT, .PWR_STAT, .RECOV_W4, .RSEL_CAND_STAT, .SW_BUF_GATED, .SYN_CMD, .SYN_STAT] : List Reg), r ∈ RR) :
    Only PP RR xx (Dev.burstReceived d p x) := hh.andThen (only_burstReceived d p x) hP hR
theorem only_wakeDecision (d : Dev) (p : Nat) (c : WakeCause) : Only [.syns, .outs, .counters, .latches, .ring, .log, .pcie, .sw, .ports, .sys, .sent] [.ALM_ACTIVE, .ALM_LATCH, .LANE_QUAD_STAT, .OUT_STAT, .PWR_PORT_STAT, .PWR_STAT, .SW_BUF_GATED, .SYN_CMD, .SYN_STAT] d (Dev.wakeDecision d p c) := by
  unfold Dev.wakeDecision
  (try dsimp only)
  repeat' first
    | with_reducible exact Only.refl
    | with_reducible refine Only.judgeSleep ?_ _ (by decide) (by decide)
    | with_reducible refine Only.wakeTx ?_ _ (by decide) (by decide)
    | split
    | dsimp only
theorem Only.wakeDecision {PP : List Part} {RR : List Reg} {xx d : Dev} (hh : Only PP RR xx d) (p : Nat) (c : WakeCause)
    (hP : ∀ p ∈ ([.syns, .outs, .counters, .latches, .ring, .log, .pcie, .sw, .ports, .sys, .sent] : List Part), p ∈ PP) (hR : ∀ r ∈ ([.ALM_ACTIVE, .ALM_LATCH, .LANE_QUAD_STAT, .OUT_STAT, .PWR_PORT_STAT, .PWR_STAT, .SW_BUF_GATED, .SYN_CMD, .SYN_STAT] : List Reg), r ∈ RR) :
    Only PP RR xx (Dev.wakeDecision d p c) := hh.andThen (only_wakeDecision d p c) hP hR
theorem only_wakeGuardEnd (d : Dev) (p : Nat) (lat : LatMeas) : Only [.cands, .syns, .outs, .chans, .cpMail, .counters, .latches, .ring, .log, .pcie, .sw, .ports, .ptus, .sys, .sent, .freeCtr] [.ALM_ACTIVE, .ALM_LATCH, .LANE_PARTNER_DOM, .LANE_PARTNER_ID_HI, .LANE_PARTNER_ID_LO, .LANE_PARTNER_INFO, .LANE_QUAD_STAT, .LANE_STAT, .OUT_STAT, .PRT_GATE_STAT, .PRT_LAT_STAT, .PRT_PTU_STAT, .PRT_Q_PTX, .PRT_Q_STAT, .PRT_REV_STAT, .PWR_PORT_STAT, .PWR_STAT, .RECOV_W4, .RSEL_CAND_STAT, .SW_BUF_GATED, .SYN_CMD, .SYN_STAT] d (Dev.wakeGuardEnd d p lat) := by
  unfold Dev.wakeGuardEnd
  (try dsimp only)
  repeat' first
    | with_reducible exact Only.refl
    | with_reducible refine Only.quadSet ?_ _ _ _ (by decide) (by decide)
    | with_reducible refine Only.onPort ?_ _ _ (by decide)
    | with_reducible refine Only.dropLink ?_ _ _ (by decide) (by decide)
    | with_reducible refine Only.flushPtp ?_ _ (by decide) (by decide)
    | with_reducible refine Only.judgeBanks ?_ (by decide) (by decide)
    | with_reducible refine Only.measureLpi ?_ _ _ _ (by decide) (by decide)
    | with_reducible refine Only.measureWake ?_ _ _ _ (by decide) (by decide)
    | with_reducible refine Only.refreshPtu ?_ _ (by decide) (by decide)
    | with_reducible refine Only.sendHello ?_ _ (by decide) (by decide)
    | with_reducible refine Only.sendNoticeFrame ?_ _ _ (by decide) (by decide)
    | split
    | dsimp only
theorem Only.wakeGuardEnd {PP : List Part} {RR : List Reg} {xx d : Dev} (hh : Only PP RR xx d) (p : Nat) (lat : LatMeas)
    (hP : ∀ p ∈ ([.cands, .syns, .outs, .chans, .cpMail, .counters, .latches, .ring, .log, .pcie, .sw, .ports, .ptus, .sys, .sent, .freeCtr] : List Part), p ∈ PP) (hR : ∀ r ∈ ([.ALM_ACTIVE, .ALM_LATCH, .LANE_PARTNER_DOM, .LANE_PARTNER_ID_HI, .LANE_PARTNER_ID_LO, .LANE_PARTNER_INFO, .LANE_QUAD_STAT, .LANE_STAT, .OUT_STAT, .PRT_GATE_STAT, .PRT_LAT_STAT, .PRT_PTU_STAT, .PRT_Q_PTX, .PRT_Q_STAT, .PRT_REV_STAT, .PWR_PORT_STAT, .PWR_STAT, .RECOV_W4, .RSEL_CAND_STAT, .SW_BUF_GATED, .SYN_CMD, .SYN_STAT] : List Reg), r ∈ RR) :
    Only PP RR xx (Dev.wakeGuardEnd d p lat) := hh.andThen (only_wakeGuardEnd d p lat) hP hR
theorem only_rxWake (d : Dev) (p : Nat) (x : Int) (lat : LatMeas) (step : RxWakeStep) : Only [.cands, .syns, .outs, .chans, .cpMail, .counters, .latches, .ring, .log, .pcie, .sw, .ports, .ptus, .sys, .sent, .freeCtr] [.ALM_ACTIVE, .ALM_LATCH, .LANE_PARTNER_DOM, .LANE_PARTNER_ID_HI, .LANE_PARTNER_ID_LO, .LANE_PARTNER_INFO, .LANE_QUAD_STAT, .LANE_STAT, .OUT_STAT, .PRT_GATE_STAT, .PRT_LAT_STAT, .PRT_PTU_STAT, .PRT_Q_PTX, .PRT_Q_STAT, .PRT_REV_STAT, .PWR_PORT_STAT, .PWR_STAT, .RECOV_W4, .RSEL_CAND_STAT, .SW_BUF_GATED, .SYN_CMD, .SYN_STAT] d (Dev.rxWake d p x lat step) := by
  unfold Dev.rxWake
  (try dsimp only)
  repeat' first
    | with_reducible exact Only.refl
    | with_reducible refine Only.quadSet ?_ _ _ _ (by decide) (by decide)
    | with_reducible refine Only.onPort ?_ _ _ (by decide)
    | with_reducible refine Only.burstPhase ?_ _ _ (by decide) (by decide)
    | with_reducible refine Only.dropLink ?_ _ _ (by decide) (by decide)
    | with_reducible refine Only.measureLpi ?_ _ _ _ (by decide) (by decide)
    | with_reducible refine Only.measureWake ?_ _ _ _ (by decide) (by decide)
    | with_reducible refine Only.refreshPtu ?_ _ (by decide) (by decide)
    | with_reducible refine Only.rxWaking ?_ _ (by decide) (by decide)
    | split
    | dsimp only
theorem Only.rxWake {PP : List Part} {RR : List Reg} {xx d : Dev} (hh : Only PP RR xx d) (p : Nat) (x : Int) (lat : LatMeas) (step : RxWakeStep)
    (hP : ∀ p ∈ ([.cands, .syns, .outs, .chans, .cpMail, .counters, .latches, .ring, .log, .pcie, .sw, .ports, .ptus, .sys, .sent, .freeCtr] : List Part), p ∈ PP) (hR : ∀ r ∈ ([.ALM_ACTIVE, .ALM_LATCH, .LANE_PARTNER_DOM, .LANE_PARTNER_ID_HI, .LANE_PARTNER_ID_LO, .LANE_PARTNER_INFO, .LANE_QUAD_STAT, .LANE_STAT, .OUT_STAT, .PRT_GATE_STAT, .PRT_LAT_STAT, .PRT_PTU_STAT, .PRT_Q_PTX, .PRT_Q_STAT, .PRT_REV_STAT, .PWR_PORT_STAT, .PWR_STAT, .RECOV_W4, .RSEL_CAND_STAT, .SW_BUF_GATED, .SYN_CMD, .SYN_STAT] : List Reg), r ∈ RR) :
    Only PP RR xx (Dev.rxWake d p x lat step) := hh.andThen (only_rxWake d p x lat step) hP hR
theorem only_smcMoves (d : Dev) (again : Bool) : Only [.syns, .outs, .chans, .counters, .latches, .ring, .log, .pcie, .sw, .ports, .sys, .sent] [.ALM_ACTIVE, .ALM_LATCH, .LANE_QUAD_STAT, .OUT_STAT, .PWR_PORT_STAT, .PWR_STAT, .SW_BUF_GATED, .SYN_CMD, .SYN_STAT] d (Dev.smcMoves d again) := by
  unfold Dev.smcMoves
  (try dsimp only)
  repeat' first
    | with_reducible exact Only.refl
    | with_reducible refine Only.onSys ?_ _ (by decide)
    | with_reducible refine Only.judgeSleeps ?_ (by decide) (by decide)
    | with_reducible refine Only.restartParty ?_ _ (by decide) (by decide)
    | split
    | dsimp only
theorem Only.smcMoves {PP : List Part} {RR : List Reg} {xx d : Dev} (hh : Only PP RR xx d) (again : Bool)
    (hP : ∀ p ∈ ([.syns, .outs, .chans, .counters, .latches, .ring, .log, .pcie, .sw, .ports, .sys, .sent] : List Part), p ∈ PP) (hR : ∀ r ∈ ([.ALM_ACTIVE, .ALM_LATCH, .LANE_QUAD_STAT, .OUT_STAT, .PWR_PORT_STAT, .PWR_STAT, .SW_BUF_GATED, .SYN_CMD, .SYN_STAT] : List Reg), r ∈ RR) :
    Only PP RR xx (Dev.smcMoves d again) := hh.andThen (only_smcMoves d again) hP hR
theorem only_helloSend (d : Dev) (p : Nat) : Only [.syns, .outs, .counters, .latches, .ring, .log, .pcie, .sw, .ports, .sys, .sent, .freeCtr] [.ALM_ACTIVE, .ALM_LATCH, .LANE_QUAD_STAT, .OUT_STAT, .PWR_STAT, .SW_BUF_GATED, .SYN_CMD, .SYN_STAT] d (Dev.helloSend d p) := by
  unfold Dev.helloSend
  (try dsimp only)
  repeat' first
    | with_reducible exact Only.refl
    | with_reducible refine Only.sendHello ?_ _ (by decide) (by decide)
    | split
    | dsimp only
theorem Only.helloSend {PP : List Part} {RR : List Reg} {xx d : Dev} (hh : Only PP RR xx d) (p : Nat)
    (hP : ∀ p ∈ ([.syns, .outs, .counters, .latches, .ring, .log, .pcie, .sw, .ports, .sys, .sent, .freeCtr] : List Part), p ∈ PP) (hR : ∀ r ∈ ([.ALM_ACTIVE, .ALM_LATCH, .LANE_QUAD_STAT, .OUT_STAT, .PWR_STAT, .SW_BUF_GATED, .SYN_CMD, .SYN_STAT] : List Reg), r ∈ RR) :
    Only PP RR xx (Dev.helloSend d p) := hh.andThen (only_helloSend d p) hP hR
theorem only_helloReceived (d : Dev) (p : Nat) (b : List Byte) (fcsOk : Bool) : Only [.syns, .outs, .counters, .latches, .ring, .log, .pcie, .sw, .ports, .sys, .sent] [.ALM_ACTIVE, .ALM_LATCH, .LANE_PARTNER_DOM, .LANE_PARTNER_ID_HI, .LANE_PARTNER_ID_LO, .LANE_PARTNER_INFO, .LANE_QUAD_STAT, .OUT_STAT, .PRT_PTU_STAT, .PWR_PORT_STAT, .PWR_STAT, .SW_BUF_GATED, .SYN_CMD, .SYN_STAT] d (Dev.helloReceived d p b fcsOk) := by
  unfold Dev.helloReceived
  (try dsimp only)
  repeat' first
    | with_reducible exact Only.refl
    | with_reducible refine Only.set ?_ _ _ _ (by decide)
    | with_reducible refine Only.quadSet ?_ _ _ _ (by decide) (by decide)
    | with_reducible refine Only.judgeL1 ?_ _ (by decide) (by decide)
    | with_reducible refine Only.judgeSleep ?_ _ (by decide) (by decide)
    | with_reducible refine Only.selfLoop ?_ _ (by decide) (by decide)
    | with_reducible refine Only.wakeCores ?_ (by decide) (by decide)
    | split
    | dsimp only
theorem Only.helloReceived {PP : List Part} {RR : List Reg} {xx d : Dev} (hh : Only PP RR xx d) (p : Nat) (b : List Byte) (fcsOk : Bool)
    (hP : ∀ p ∈ ([.syns, .outs, .counters, .latches, .ring, .log, .pcie, .sw, .ports, .sys, .sent] : List Part), p ∈ PP) (hR : ∀ r ∈ ([.ALM_ACTIVE, .ALM_LATCH, .LANE_PARTNER_DOM, .LANE_PARTNER_ID_HI, .LANE_PARTNER_ID_LO, .LANE_PARTNER_INFO, .LANE_QUAD_STAT, .OUT_STAT, .PRT_PTU_STAT, .PWR_PORT_STAT, .PWR_STAT, .SW_BUF_GATED, .SYN_CMD, .SYN_STAT] : List Reg), r ∈ RR) :
    Only PP RR xx (Dev.helloReceived d p b fcsOk) := hh.andThen (only_helloReceived d p b fcsOk) hP hR
theorem only_partnerLost (d : Dev) (p : Nat) : Only [.syns, .outs, .counters, .latches, .ring, .log, .pcie, .sw, .ports, .sys, .sent] [.ALM_ACTIVE, .ALM_LATCH, .LANE_PARTNER_DOM, .LANE_PARTNER_ID_HI, .LANE_PARTNER_ID_LO, .LANE_PARTNER_INFO, .LANE_QUAD_STAT, .OUT_STAT, .PRT_PTU_STAT, .PWR_PORT_STAT, .PWR_STAT, .SW_BUF_GATED, .SYN_CMD, .SYN_STAT] d (Dev.partnerLost d p) := by
  unfold Dev.partnerLost
  (try dsimp only)
  repeat' first
    | with_reducible exact Only.refl
    | with_reducible refine Only.losePartner ?_ _ (by decide) (by decide)
    | split
    | dsimp only
theorem Only.partnerLost {PP : List Part} {RR : List Reg} {xx d : Dev} (hh : Only PP RR xx d) (p : Nat)
    (hP : ∀ p ∈ ([.syns, .outs, .counters, .latches, .ring, .log, .pcie, .sw, .ports, .sys, .sent] : List Part), p ∈ PP) (hR : ∀ r ∈ ([.ALM_ACTIVE, .ALM_LATCH, .LANE_PARTNER_DOM, .LANE_PARTNER_ID_HI, .LANE_PARTNER_ID_LO, .LANE_PARTNER_INFO, .LANE_QUAD_STAT, .OUT_STAT, .PRT_PTU_STAT, .PWR_PORT_STAT, .PWR_STAT, .SW_BUF_GATED, .SYN_CMD, .SYN_STAT] : List Reg), r ∈ RR) :
    Only PP RR xx (Dev.partnerLost d p) := hh.andThen (only_partnerLost d p) hP hR

/-! ## Alarm -/

theorem only_clearLatch (d : Dev) (word : Nat) (v : Word) : Only [.counters, .latches, .ring, .log, .pcie, .sent] [.ALM_ACTIVE, .ALM_LATCH] d (Dev.clearLatch d word v) := by
  unfold Dev.clearLatch
  (try dsimp only)
  repeat' first
    | with_reducible exact Only.refl
    | with_reducible refine Only.setWord ?_ _ _ _ (by decide)
    | with_reducible refine Only.sendGroup ?_ _ (by decide)
    | with_reducible refine Only.when ?_ _ _ ?_
    | with_reducible refine Only.each ?_ _ _ (fun _ _ => ?_)
    | split
    | dsimp only
theorem Only.clearLatch {PP : List Part} {RR : List Reg} {xx d : Dev} (hh : Only PP RR xx d) (word : Nat) (v : Word)
    (hP : ∀ p ∈ ([.counters, .latches, .ring, .log, .pcie, .sent] : List Part), p ∈ PP) (hR : ∀ r ∈ ([.ALM_ACTIVE, .ALM_LATCH] : List Reg), r ∈ RR) :
    Only PP RR xx (Dev.clearLatch d word v) := hh.andThen (only_clearLatch d word v) hP hR
theorem only_putLog (d : Dev) (ws : List Word) : Only [] [.ALM_LOG_W] d (Dev.putLog d ws) := by
  unfold Dev.putLog
  (try dsimp only)
  repeat' first
    | with_reducible exact Only.refl
    | with_reducible refine Only.setWord ?_ _ _ _ (by decide)
    | with_reducible refine Only.each ?_ _ _ (fun _ _ => ?_)
    | split
    | dsimp only
theorem Only.putLog {PP : List Part} {RR : List Reg} {xx d : Dev} (hh : Only PP RR xx d) (ws : List Word)
    (hP : ∀ p ∈ ([] : List Part), p ∈ PP) (hR : ∀ r ∈ ([.ALM_LOG_W] : List Reg), r ∈ RR) :
    Only PP RR xx (Dev.putLog d ws) := hh.andThen (only_putLog d ws) hP hR
theorem only_takeLog (d : Dev) : Only [.counters, .latches, .ring, .log, .pcie, .sent] [.ALM_ACTIVE, .ALM_LATCH, .ALM_LOG_W] d (Dev.takeLog d) := by
  unfold Dev.takeLog
  (try dsimp only)
  repeat' first
    | with_reducible exact Only.refl
    | with_reducible refine Only.cond ?_ _ _ (by decide)
    | with_reducible refine Only.putLog ?_ _ (by decide) (by decide)
    | split
    | dsimp only
  all_goals first
    | with_reducible refine Only.upd_log ?_ _ (by decide)
    | skip
  all_goals (repeat' first
      | with_reducible exact Only.refl
      | with_reducible refine Only.cond ?_ _ _ (by decide)
      | with_reducible refine Only.putLog ?_ _ (by decide) (by decide)
      | split
      | dsimp only)
  all_goals first
    | with_reducible refine Only.upd_log ?_ _ (by decide)
    | skip
  all_goals (repeat' first
      | with_reducible exact Only.refl
      | with_reducible refine Only.cond ?_ _ _ (by decide)
      | with_reducible refine Only.putLog ?_ _ (by decide) (by decide)
      | split
      | dsimp only)
theorem Only.takeLog {PP : List Part} {RR : List Reg} {xx d : Dev} (hh : Only PP RR xx d) 
    (hP : ∀ p ∈ ([.counters, .latches, .ring, .log, .pcie, .sent] : List Part), p ∈ PP) (hR : ∀ r ∈ ([.ALM_ACTIVE, .ALM_LATCH, .ALM_LOG_W] : List Reg), r ∈ RR) :
    Only PP RR xx (Dev.takeLog d) := hh.andThen (only_takeLog d) hP hR
theorem only_tableBack (d : Dev) (cls i : Nat) : Only [.sw] [] d (Dev.tableBack d cls i) := by
  unfold Dev.tableBack
  (try dsimp only)
  repeat' first
    | with_reducible exact Only.refl
    | with_reducible refine Only.onSw ?_ _ (by decide)
    | split
    | dsimp only
theorem Only.tableBack {PP : List Part} {RR : List Reg} {xx d : Dev} (hh : Only PP RR xx d) (cls i : Nat)
    (hP : ∀ p ∈ ([.sw] : List Part), p ∈ PP) (hR : ∀ r ∈ ([] : List Reg), r ∈ RR) :
    Only PP RR xx (Dev.tableBack d cls i) := hh.andThen (only_tableBack d cls i) hP hR
theorem only_returnToService (d : Dev) (cls i : Nat) : Only [.tbA, .tbB, .cands, .twin, .syns, .outs, .chans, .cpMail, .counters, .latches, .ring, .log, .pcie, .sw, .ports, .tio, .sys, .sent, .freeCtr] [.ALM_ACTIVE, .ALM_LATCH, .FDB_W0, .FDB_W1, .FDB_W2, .FDB_W3, .LANE_QUAD_STAT, .LANE_STAT, .OUT_STAT, .PRT_PTU_STAT, .PWR_STAT, .RSEL_CAND_STAT, .ST_A, .ST_K, .ST_M, .SW_BUF_GATED, .SYN_CMD, .SYN_STAT, .TB_ROLE, .TIO_STAT, .VLAN_W0, .VLAN_W1, .VLAN_W2, .VLAN_W3] d (Dev.returnToService d cls i) := by
  unfold Dev.returnToService
  (try dsimp only)
  repeat' first
    | with_reducible exact Only.refl
    | with_reducible refine Only.setWord ?_ _ _ _ (by decide)
    | with_reducible refine Only.tioBit ?_ _ _ _ (by decide) (by decide)
    | with_reducible refine Only.synBit ?_ _ _ _ (by decide) (by decide)
    | with_reducible refine Only.laneBit ?_ _ _ _ (by decide) (by decide)
    | with_reducible refine Only.onSw ?_ _ (by decide)
    | with_reducible refine Only.onSys ?_ _ (by decide)
    | with_reducible refine Only.onCand ?_ _ _ (by decide)
    | with_reducible refine Only.onTio ?_ _ _ (by decide)
    | with_reducible refine Only.onChan ?_ _ _ _ (by decide)
    | with_reducible refine Only.fdbDrop ?_ _ (by decide) (by decide)
    | with_reducible refine Only.judgeBanks ?_ (by decide) (by decide)
    | with_reducible refine Only.judgeBuf ?_ (by decide) (by decide)
    | with_reducible refine Only.laneAlarm ?_ (by decide) (by decide)
    | with_reducible refine Only.pinAfter ?_ _ _ (by decide) ?_
    | with_reducible refine Only.refreshOut ?_ _ (by decide) (by decide)
    | with_reducible refine Only.refreshReadies ?_ (by decide) (by decide)
    | with_reducible refine Only.refreshReady ?_ _ (by decide) (by decide)
    | with_reducible refine Only.restartQual ?_ _ (by decide) (by decide)
    | with_reducible refine Only.returnStandby ?_ _ (by decide) (by decide)
    | with_reducible refine Only.sendNotice ?_ (by decide) (by decide)
    | with_reducible refine Only.startBring ?_ _ (by decide) (by decide)
    | with_reducible refine Only.synAlarm ?_ (by decide) (by decide)
    | with_reducible refine Only.tableBack ?_ _ _ (by decide) (by decide)
    | with_reducible refine Only.tioAlarm ?_ (by decide) (by decide)
    | with_reducible refine Only.when ?_ _ _ ?_
    | with_reducible refine Only.each ?_ _ _ (fun _ _ => ?_)
    | split
    | dsimp only
theorem Only.returnToService {PP : List Part} {RR : List Reg} {xx d : Dev} (hh : Only PP RR xx d) (cls i : Nat)
    (hP : ∀ p ∈ ([.tbA, .tbB, .cands, .twin, .syns, .outs, .chans, .cpMail, .counters, .latches, .ring, .log, .pcie, .sw, .ports, .tio, .sys, .sent, .freeCtr] : List Part), p ∈ PP) (hR : ∀ r ∈ ([.ALM_ACTIVE, .ALM_LATCH, .FDB_W0, .FDB_W1, .FDB_W2, .FDB_W3, .LANE_QUAD_STAT, .LANE_STAT, .OUT_STAT, .PRT_PTU_STAT, .PWR_STAT, .RSEL_CAND_STAT, .ST_A, .ST_K, .ST_M, .SW_BUF_GATED, .SYN_CMD, .SYN_STAT, .TB_ROLE, .TIO_STAT, .VLAN_W0, .VLAN_W1, .VLAN_W2, .VLAN_W3] : List Reg), r ∈ RR) :
    Only PP RR xx (Dev.returnToService d cls i) := hh.andThen (only_returnToService d cls i) hP hR
theorem only_reEnable (d : Dev) (cls : Nat) : Only [.tbA, .tbB, .cands, .twin, .syns, .outs, .chans, .cpMail, .counters, .latches, .ring, .log, .pcie, .sw, .ports, .tio, .sys, .sent, .freeCtr] [.ALM_ACTIVE, .ALM_LATCH, .ALM_REEN, .FDB_W0, .FDB_W1, .FDB_W2, .FDB_W3, .LANE_QUAD_STAT, .LANE_STAT, .OUT_STAT, .PRT_PTU_STAT, .PWR_STAT, .RSEL_CAND_STAT, .ST_A, .ST_K, .ST_M, .SW_BUF_GATED, .SYN_CMD, .SYN_STAT, .TB_ROLE, .TIO_STAT, .VLAN_W0, .VLAN_W1, .VLAN_W2, .VLAN_W3] d (Dev.reEnable d cls) := by
  unfold Dev.reEnable
  (try dsimp only)
  repeat' first
    | with_reducible exact Only.refl
    | with_reducible refine Only.set ?_ _ _ _ (by decide)
    | with_reducible refine Only.countDev ?_ _ _ (by decide)
    | with_reducible refine Only.logAdd ?_ _ _ _ _ (by decide)
    | with_reducible refine Only.returnToService ?_ _ _ (by decide) (by decide)
    | split
    | dsimp only
theorem Only.reEnable {PP : List Part} {RR : List Reg} {xx d : Dev} (hh : Only PP RR xx d) (cls : Nat)
    (hP : ∀ p ∈ ([.tbA, .tbB, .cands, .twin, .syns, .outs, .chans, .cpMail, .counters, .latches, .ring, .log, .pcie, .sw, .ports, .tio, .sys, .sent, .freeCtr] : List Part), p ∈ PP) (hR : ∀ r ∈ ([.ALM_ACTIVE, .ALM_LATCH, .ALM_REEN, .FDB_W0, .FDB_W1, .FDB_W2, .FDB_W3, .LANE_QUAD_STAT, .LANE_STAT, .OUT_STAT, .PRT_PTU_STAT, .PWR_STAT, .RSEL_CAND_STAT, .ST_A, .ST_K, .ST_M, .SW_BUF_GATED, .SYN_CMD, .SYN_STAT, .TB_ROLE, .TIO_STAT, .VLAN_W0, .VLAN_W1, .VLAN_W2, .VLAN_W3] : List Reg), r ∈ RR) :
    Only PP RR xx (Dev.reEnable d cls) := hh.andThen (only_reEnable d cls) hP hR

/-! ## Reset -/

theorem only_setStage (d : Dev) (v : Nat) : Only [] [.GLB_BOOT_STAT] d (Dev.setStage d v) := by
  unfold Dev.setStage
  (try dsimp only)
  repeat' first
    | with_reducible exact Only.refl
    | with_reducible refine Only.setMark ?_ _ _ _ _ (by decide) (by decide)
    | split
    | dsimp only
theorem Only.setStage {PP : List Part} {RR : List Reg} {xx d : Dev} (hh : Only PP RR xx d) (v : Nat)
    (hP : ∀ p ∈ ([] : List Part), p ∈ PP) (hR : ∀ r ∈ ([.GLB_BOOT_STAT] : List Reg), r ∈ RR) :
    Only PP RR xx (Dev.setStage d v) := hh.andThen (only_setStage d v) hP hR
theorem only_powerGood (d : Dev) (sel0 sel1 : Bool) : Only [.ident, .sys, .cycles] [.GLB_BOOT_STAT] d (Dev.powerGood d sel0 sel1) := by
  unfold Dev.powerGood
  split
  · exact .refl
  · have h : Only [.ident, .sys, .cycles] [.GLB_BOOT_STAT] d { d with ident := { d.ident with sel0 := sel0, sel1 := sel1 }, cycles := 0 } :=
      Only.agree .refl rfl (fun p hp => by cases p <;> first | rfl | exact absurd (by decide) hp)
    exact ((h.onSys _ (by decide)).set _ _ _ (by decide)).set _ _ _ (by decide)
theorem Only.powerGood {PP : List Part} {RR : List Reg} {xx d : Dev} (hh : Only PP RR xx d) (sel0 sel1 : Bool)
    (hP : ∀ p ∈ ([.ident, .sys, .cycles] : List Part), p ∈ PP) (hR : ∀ r ∈ ([.GLB_BOOT_STAT] : List Reg), r ∈ RR) :
    Only PP RR xx (Dev.powerGood d sel0 sel1) := hh.andThen (only_powerGood d sel0 sel1) hP hR

/-! ## Start -/

theorem only_showStep (d : Dev) (v : Nat) : Only [] [.UPD_STAT] d (Dev.showStep d v) := by
  unfold Dev.showStep
  (try dsimp only)
  repeat' first
    | with_reducible exact Only.refl
    | with_reducible refine Only.setMark ?_ _ _ _ _ (by decide) (by decide)
    | split
    | dsimp only
theorem Only.showStep {PP : List Part} {RR : List Reg} {xx d : Dev} (hh : Only PP RR xx d) (v : Nat)
    (hP : ∀ p ∈ ([] : List Part), p ∈ PP) (hR : ∀ r ∈ ([.UPD_STAT] : List Reg), r ∈ RR) :
    Only PP RR xx (Dev.showStep d v) := hh.andThen (only_showStep d v) hP hR
theorem only_runImage (d : Dev) (t : Nat) (i : Image) : Only [.sys] [.UPD_IFVER0, .UPD_IFVER1] d (Dev.runImage d t i) := by
  unfold Dev.runImage
  (try dsimp only)
  repeat' first
    | with_reducible exact Only.refl
    | with_reducible refine Only.set ?_ _ _ _ (by decide)
    | with_reducible refine Only.onSys ?_ _ (by decide)
    | split
    | dsimp only
theorem Only.runImage {PP : List Part} {RR : List Reg} {xx d : Dev} (hh : Only PP RR xx d) (t : Nat) (i : Image)
    (hP : ∀ p ∈ ([.sys] : List Part), p ∈ PP) (hR : ∀ r ∈ ([.UPD_IFVER0, .UPD_IFVER1] : List Reg), r ∈ RR) :
    Only PP RR xx (Dev.runImage d t i) := hh.andThen (only_runImage d t i) hP hR
theorem only_runTbp (d : Dev) (t : TbId) (i : Image) : Only [.sys] [.UPD_IFVER1, .UPD_IFVER2] d (Dev.runTbp d t i) := by
  unfold Dev.runTbp
  (try dsimp only)
  repeat' first
    | with_reducible exact Only.refl
    | with_reducible refine Only.set ?_ _ _ _ (by decide)
    | with_reducible refine Only.onSys ?_ _ (by decide)
    | split
    | dsimp only
theorem Only.runTbp {PP : List Part} {RR : List Reg} {xx d : Dev} (hh : Only PP RR xx d) (t : TbId) (i : Image)
    (hP : ∀ p ∈ ([.sys] : List Part), p ∈ PP) (hR : ∀ r ∈ ([.UPD_IFVER1, .UPD_IFVER2] : List Reg), r ∈ RR) :
    Only PP RR xx (Dev.runTbp d t i) := hh.andThen (only_runTbp d t i) hP hR
theorem only_loadStandby (d : Dev) (i : Image) : Only [.tbA, .tbB, .mir, .cands, .twin, .chans, .counters, .latches, .ring, .log, .pcie, .sys, .sent, .freeCtr] [.ALM_ACTIVE, .ALM_LATCH, .RSEL_CAND_FREQ, .SEQGEN_W0, .TB_ROLE, .TB_TAKEOVER, .TB_TCMD, .TB_TWIN_CMD, .UPD_IFVER1, .UPD_IFVER2] d (Dev.loadStandby d i) := by
  unfold Dev.loadStandby
  (try dsimp only)
  repeat' first
    | with_reducible exact Only.refl
    | with_reducible refine Only.alignStandby ?_ _ (by decide) (by decide)
    | with_reducible refine Only.judgeRevert ?_ (by decide) (by decide)
    | with_reducible refine Only.restartParty ?_ _ (by decide) (by decide)
    | with_reducible refine Only.runTbp ?_ _ _ (by decide) (by decide)
    | with_reducible refine Only.setRole ?_ _ _ (by decide) (by decide)
    | split
    | dsimp only
theorem Only.loadStandby {PP : List Part} {RR : List Reg} {xx d : Dev} (hh : Only PP RR xx d) (i : Image)
    (hP : ∀ p ∈ ([.tbA, .tbB, .mir, .cands, .twin, .chans, .counters, .latches, .ring, .log, .pcie, .sys, .sent, .freeCtr] : List Part), p ∈ PP) (hR : ∀ r ∈ ([.ALM_ACTIVE, .ALM_LATCH, .RSEL_CAND_FREQ, .SEQGEN_W0, .TB_ROLE, .TB_TAKEOVER, .TB_TCMD, .TB_TWIN_CMD, .UPD_IFVER1, .UPD_IFVER2] : List Reg), r ∈ RR) :
    Only PP RR xx (Dev.loadStandby d i) := hh.andThen (only_loadStandby d i) hP hR
theorem only_enterStep (d : Dev) (k : Nat) : Only [.sys] [.UPD_STAT] d (Dev.enterStep d k) := by
  unfold Dev.enterStep
  (try dsimp only)
  repeat' first
    | with_reducible exact Only.refl
    | with_reducible refine Only.onSys ?_ _ (by decide)
    | with_reducible refine Only.showStep ?_ _ (by decide) (by decide)
    | split
    | dsimp only
theorem Only.enterStep {PP : List Part} {RR : List Reg} {xx d : Dev} (hh : Only PP RR xx d) (k : Nat)
    (hP : ∀ p ∈ ([.sys] : List Part), p ∈ PP) (hR : ∀ r ∈ ([.UPD_STAT] : List Reg), r ∈ RR) :
    Only PP RR xx (Dev.enterStep d k) := hh.andThen (only_enterStep d k) hP hR

/-! ## Access -/

theorem only_ungateUsed (d : Dev) : Only [.sys] [] d (Dev.ungateUsed d) := by
  unfold Dev.ungateUsed
  (try dsimp only)
  repeat' first
    | with_reducible exact Only.refl
    | with_reducible refine Only.onSys ?_ _ (by decide)
    | split
    | dsimp only
theorem Only.ungateUsed {PP : List Part} {RR : List Reg} {xx d : Dev} (hh : Only PP RR xx d) 
    (hP : ∀ p ∈ ([.sys] : List Part), p ∈ PP) (hR : ∀ r ∈ ([] : List Reg), r ∈ RR) :
    Only PP RR xx (Dev.ungateUsed d) := hh.andThen (only_ungateUsed d) hP hR
theorem only_mbxWord (d : Dev) (src dst need w : Nat) (rsp : Bool) (v : Word) : Only [.chans] [] d (Dev.mbxWord d src dst need w rsp v) := by
  unfold Dev.mbxWord
  (try dsimp only)
  repeat' first
    | with_reducible exact Only.refl
    | with_reducible refine Only.onChan ?_ _ _ _ (by decide)
    | split
    | dsimp only
theorem Only.mbxWord {PP : List Part} {RR : List Reg} {xx d : Dev} (hh : Only PP RR xx d) (src dst need w : Nat) (rsp : Bool) (v : Word)
    (hP : ∀ p ∈ ([.chans] : List Part), p ∈ PP) (hR : ∀ r ∈ ([] : List Reg), r ∈ RR) :
    Only PP RR xx (Dev.mbxWord d src dst need w rsp v) := hh.andThen (only_mbxWord d src dst need w rsp v) hP hR
theorem only_hbKick (d : Dev) : Only [.counters, .latches, .ring, .log, .pcie, .sent] [.ALM_ACTIVE, .ALM_LATCH] d (Dev.hbKick d) := by
  unfold Dev.hbKick
  (try dsimp only)
  repeat' first
    | with_reducible exact Only.refl
    | with_reducible refine Only.cond ?_ _ _ (by decide)
    | split
    | dsimp only
  all_goals first
    | with_reducible refine Only.upd_pcie ?_ _ (by decide)
    | skip
  all_goals (repeat' first
      | with_reducible exact Only.refl
      | with_reducible refine Only.cond ?_ _ _ (by decide)
      | split
      | dsimp only)
  all_goals first
    | with_reducible refine Only.upd_pcie ?_ _ (by decide)
    | skip
  all_goals (repeat' first
      | with_reducible exact Only.refl
      | with_reducible refine Only.cond ?_ _ _ (by decide)
      | split
      | dsimp only)
theorem Only.hbKick {PP : List Part} {RR : List Reg} {xx d : Dev} (hh : Only PP RR xx d) 
    (hP : ∀ p ∈ ([.counters, .latches, .ring, .log, .pcie, .sent] : List Part), p ∈ PP) (hR : ∀ r ∈ ([.ALM_ACTIVE, .ALM_LATCH] : List Reg), r ∈ RR) :
    Only PP RR xx (Dev.hbKick d) := hh.andThen (only_hbKick d) hP hR
theorem only_writeHb (d : Dev) (v : Word) : Only [.counters, .latches, .ring, .log, .pcie, .sent] [.ALM_ACTIVE, .ALM_LATCH, .GLB_HOST_HB] d (Dev.writeHb d v) := by
  unfold Dev.writeHb
  (try dsimp only)
  repeat' first
    | with_reducible exact Only.refl
    | with_reducible refine Only.store ?_ _ _ _ (by decide)
    | with_reducible refine Only.cond ?_ _ _ (by decide)
    | with_reducible refine Only.hbKick ?_ (by decide) (by decide)
    | with_reducible refine Only.when ?_ _ _ ?_
    | split
    | dsimp only
  all_goals first
    | with_reducible refine Only.upd_pcie ?_ _ (by decide)
    | skip
  all_goals (repeat' first
      | with_reducible exact Only.refl
      | with_reducible refine Only.store ?_ _ _ _ (by decide)
      | with_reducible refine Only.cond ?_ _ _ (by decide)
      | with_reducible refine Only.hbKick ?_ (by decide) (by decide)
      | with_reducible refine Only.when ?_ _ _ ?_
      | split
      | dsimp only)
  all_goals first
    | with_reducible refine Only.upd_pcie ?_ _ (by decide)
    | skip
  all_goals (repeat' first
      | with_reducible exact Only.refl
      | with_reducible refine Only.store ?_ _ _ _ (by decide)
      | with_reducible refine Only.cond ?_ _ _ (by decide)
      | with_reducible refine Only.hbKick ?_ (by decide) (by decide)
      | with_reducible refine Only.when ?_ _ _ ?_
      | split
      | dsimp only)
theorem Only.writeHb {PP : List Part} {RR : List Reg} {xx d : Dev} (hh : Only PP RR xx d) (v : Word)
    (hP : ∀ p ∈ ([.counters, .latches, .ring, .log, .pcie, .sent] : List Part), p ∈ PP) (hR : ∀ r ∈ ([.ALM_ACTIVE, .ALM_LATCH, .GLB_HOST_HB] : List Reg), r ∈ RR) :
    Only PP RR xx (Dev.writeHb d v) := hh.andThen (only_writeHb d v) hP hR

/-! ## Boot -/

theorem only_makeInstance (d : Dev) (b : List Byte) : Only [.cands, .syns, .outs, .chans, .cpMail, .counters, .latches, .ring, .log, .pcie, .sw, .ports, .ptus, .insts, .sys, .sent, .freeCtr] [.ALM_ACTIVE, .ALM_LATCH, .LANE_QUAD_STAT, .OUT_STAT, .PRT_PTP_RATE, .PRT_PTU_STAT, .PRT_REV_STAT, .PWR_PORT_STAT, .PWR_STAT, .RSEL_CAND_STAT, .SW_BUF_GATED, .SYN_CMD, .SYN_STAT] d (Dev.makeInstance d b).1 := by
  unfold Dev.makeInstance
  (try dsimp only)
  repeat' first
    | with_reducible exact Only.refl
    | with_reducible refine Only.onInst ?_ _ _ (by decide)
    | with_reducible refine Only.judgeSleep ?_ _ (by decide) (by decide)
    | with_reducible refine Only.ptpBegin ?_ _ (by decide) (by decide)
    | with_reducible refine Only.resetRates ?_ _ (by decide) (by decide)
    | with_reducible refine Only.each ?_ _ _ (fun _ _ => ?_)
    | split
    | dsimp only
theorem Only.makeInstance {PP : List Part} {RR : List Reg} {xx d : Dev} (hh : Only PP RR xx d) (b : List Byte)
    (hP : ∀ p ∈ ([.cands, .syns, .outs, .chans, .cpMail, .counters, .latches, .ring, .log, .pcie, .sw, .ports, .ptus, .insts, .sys, .sent, .freeCtr] : List Part), p ∈ PP) (hR : ∀ r ∈ ([.ALM_ACTIVE, .ALM_LATCH, .LANE_QUAD_STAT, .OUT_STAT, .PRT_PTP_RATE, .PRT_PTU_STAT, .PRT_REV_STAT, .PWR_PORT_STAT, .PWR_STAT, .RSEL_CAND_STAT, .SW_BUF_GATED, .SYN_CMD, .SYN_STAT] : List Reg), r ∈ RR) :
    Only PP RR xx (Dev.makeInstance d b).1 := hh.andThen (only_makeInstance d b) hP hR
theorem only_configFellBack (d : Dev) : Only [.counters, .latches, .ring, .log, .pcie, .sent] [.ALM_ACTIVE, .ALM_LATCH] d (Dev.configFellBack d) := by
  unfold Dev.configFellBack
  (try dsimp only)
  repeat' first
    | with_reducible exact Only.refl
    | with_reducible refine Only.raise ?_ _ (by decide)
    | with_reducible refine Only.countDev ?_ _ _ (by decide)
    | split
    | dsimp only
theorem Only.configFellBack {PP : List Part} {RR : List Reg} {xx d : Dev} (hh : Only PP RR xx d) 
    (hP : ∀ p ∈ ([.counters, .latches, .ring, .log, .pcie, .sent] : List Part), p ∈ PP) (hR : ∀ r ∈ ([.ALM_ACTIVE, .ALM_LATCH] : List Reg), r ∈ RR) :
    Only PP RR xx (Dev.configFellBack d) := hh.andThen (only_configFellBack d) hP hR
theorem only_endInstances (d : Dev) (ops : List CfgOp) : Only [.cands, .syns, .outs, .chans, .cpMail, .counters, .latches, .ring, .log, .pcie, .sw, .ports, .ptus, .insts, .sys, .sent, .freeCtr] [.ALM_ACTIVE, .ALM_LATCH, .LANE_QUAD_STAT, .OUT_STAT, .PRT_PTU_STAT, .PRT_REV_STAT, .PWR_PORT_STAT, .PWR_STAT, .RSEL_CAND_STAT, .SW_BUF_GATED, .SYN_CMD, .SYN_STAT] d (Dev.endInstances d ops) := by
  unfold Dev.endInstances
  (try dsimp only)
  repeat' first
    | with_reducible exact Only.refl
    | with_reducible refine Only.onInst ?_ _ _ (by decide)
    | with_reducible refine Only.judgeSleep ?_ _ (by decide) (by decide)
    | with_reducible refine Only.ptpBegin ?_ _ (by decide) (by decide)
    | with_reducible refine Only.each ?_ _ _ (fun _ _ => ?_)
    | split
    | dsimp only
theorem Only.endInstances {PP : List Part} {RR : List Reg} {xx d : Dev} (hh : Only PP RR xx d) (ops : List CfgOp)
    (hP : ∀ p ∈ ([.cands, .syns, .outs, .chans, .cpMail, .counters, .latches, .ring, .log, .pcie, .sw, .ports, .ptus, .insts, .sys, .sent, .freeCtr] : List Part), p ∈ PP) (hR : ∀ r ∈ ([.ALM_ACTIVE, .ALM_LATCH, .LANE_QUAD_STAT, .OUT_STAT, .PRT_PTU_STAT, .PRT_REV_STAT, .PWR_PORT_STAT, .PWR_STAT, .RSEL_CAND_STAT, .SW_BUF_GATED, .SYN_CMD, .SYN_STAT] : List Reg), r ∈ RR) :
    Only PP RR xx (Dev.endInstances d ops) := hh.andThen (only_endInstances d ops) hP hR
theorem only_seedModel (d : Dev) (t : TbId) : Only [.tbA, .tbB] [.TB_MODEL_STAT] d (Dev.seedModel d t) := by
  unfold Dev.seedModel
  (try dsimp only)
  repeat' first
    | with_reducible exact Only.refl
    | with_reducible refine Only.setB ?_ _ _ _ (by decide)
    | with_reducible refine Only.onTb ?_ _ _ (by decide) (by decide)
    | split
    | dsimp only
theorem Only.seedModel {PP : List Part} {RR : List Reg} {xx d : Dev} (hh : Only PP RR xx d) (t : TbId)
    (hP : ∀ p ∈ ([.tbA, .tbB] : List Part), p ∈ PP) (hR : ∀ r ∈ ([.TB_MODEL_STAT] : List Reg), r ∈ RR) :
    Only PP RR xx (Dev.seedModel d t) := hh.andThen (only_seedModel d t) hP hR
theorem only_oscillates (d : Dev) (t : TbId) : Only [.tbA, .tbB] [.FIRN_OCXO_STAT] d (Dev.oscillates d t) := by
  unfold Dev.oscillates
  (try dsimp only)
  repeat' first
    | with_reducible exact Only.refl
    | with_reducible refine Only.setMark ?_ _ _ _ _ (by decide) (by decide)
    | with_reducible refine Only.onTb ?_ _ _ (by decide) (by decide)
    | split
    | dsimp only
theorem Only.oscillates {PP : List Part} {RR : List Reg} {xx d : Dev} (hh : Only PP RR xx d) (t : TbId)
    (hP : ∀ p ∈ ([.tbA, .tbB] : List Part), p ∈ PP) (hR : ∀ r ∈ ([.FIRN_OCXO_STAT] : List Reg), r ∈ RR) :
    Only PP RR xx (Dev.oscillates d t) := hh.andThen (only_oscillates d t) hP hR
theorem only_firstActive (d : Dev) (t : TbId) : Only [.tbA, .tbB, .twin, .syns, .outs, .counters, .latches, .ring, .log, .pcie, .sent] [.ALM_ACTIVE, .ALM_LATCH, .GLB_BOOT_STAT, .OUT_STAT, .SYN_CMD, .SYN_STAT, .TB_ROLE] d (Dev.firstActive d t) := by
  unfold Dev.firstActive
  (try dsimp only)
  repeat' first
    | with_reducible exact Only.refl
    | with_reducible refine Only.onTwin ?_ _ (by decide)
    | with_reducible refine Only.emit ?_ _ (by decide)
    | with_reducible refine Only.onTb ?_ _ _ (by decide) (by decide)
    | with_reducible refine Only.acquire ?_ _ _ (by decide) (by decide)
    | with_reducible refine Only.refreshOut ?_ _ (by decide) (by decide)
    | with_reducible refine Only.setRole ?_ _ _ (by decide) (by decide)
    | with_reducible refine Only.setStage ?_ _ (by decide) (by decide)
    | with_reducible refine Only.startInternal ?_ _ (by decide) (by decide)
    | with_reducible refine Only.tioClock ?_ (by decide) (by decide)
    | with_reducible refine Only.when ?_ _ _ ?_
    | with_reducible refine Only.each ?_ _ _ (fun _ _ => ?_)
    | split
    | dsimp only
theorem Only.firstActive {PP : List Part} {RR : List Reg} {xx d : Dev} (hh : Only PP RR xx d) (t : TbId)
    (hP : ∀ p ∈ ([.tbA, .tbB, .twin, .syns, .outs, .counters, .latches, .ring, .log, .pcie, .sent] : List Part), p ∈ PP) (hR : ∀ r ∈ ([.ALM_ACTIVE, .ALM_LATCH, .GLB_BOOT_STAT, .OUT_STAT, .SYN_CMD, .SYN_STAT, .TB_ROLE] : List Reg), r ∈ RR) :
    Only PP RR xx (Dev.firstActive d t) := hh.andThen (only_firstActive d t) hP hR
theorem only_declareWarm (d : Dev) (t : TbId) : Only [.tbA, .tbB, .sys] [.FIRN_OCXO_STAT] d (Dev.declareWarm d t) := by
  unfold Dev.declareWarm
  (try dsimp only)
  repeat' first
    | with_reducible exact Only.refl
    | with_reducible refine Only.set ?_ _ _ _ (by decide)
    | with_reducible refine Only.setMark ?_ _ _ _ _ (by decide) (by decide)
    | with_reducible refine Only.onSys ?_ _ (by decide)
    | with_reducible refine Only.onTb ?_ _ _ (by decide) (by decide)
    | with_reducible refine Only.when ?_ _ _ ?_
    | split
    | dsimp only
theorem Only.declareWarm {PP : List Part} {RR : List Reg} {xx d : Dev} (hh : Only PP RR xx d) (t : TbId)
    (hP : ∀ p ∈ ([.tbA, .tbB, .sys] : List Part), p ∈ PP) (hR : ∀ r ∈ ([.FIRN_OCXO_STAT] : List Reg), r ∈ RR) :
    Only PP RR xx (Dev.declareWarm d t) := hh.andThen (only_declareWarm d t) hP hR
theorem only_takePlace (d : Dev) (t : TbId) : Only [.tbA, .tbB, .twin, .syns, .outs, .counters, .latches, .ring, .log, .pcie, .sent] [.ALM_ACTIVE, .ALM_LATCH, .GLB_BOOT_STAT, .OUT_STAT, .SYN_CMD, .SYN_STAT, .TB_ROLE] d (Dev.takePlace d t) := by
  unfold Dev.takePlace
  (try dsimp only)
  repeat' first
    | with_reducible exact Only.refl
    | with_reducible refine Only.alignStandby ?_ _ (by decide) (by decide)
    | with_reducible refine Only.firstActive ?_ _ (by decide) (by decide)
    | split
    | dsimp only
theorem Only.takePlace {PP : List Part} {RR : List Reg} {xx d : Dev} (hh : Only PP RR xx d) (t : TbId)
    (hP : ∀ p ∈ ([.tbA, .tbB, .twin, .syns, .outs, .counters, .latches, .ring, .log, .pcie, .sent] : List Part), p ∈ PP) (hR : ∀ r ∈ ([.ALM_ACTIVE, .ALM_LATCH, .GLB_BOOT_STAT, .OUT_STAT, .SYN_CMD, .SYN_STAT, .TB_ROLE] : List Reg), r ∈ RR) :
    Only PP RR xx (Dev.takePlace d t) := hh.andThen (only_takePlace d t) hP hR
theorem only_warmDeclared (d : Dev) (a b : Bool) : Only [.tbA, .tbB, .twin, .syns, .outs, .counters, .latches, .ring, .log, .pcie, .sys, .sent] [.ALM_ACTIVE, .ALM_LATCH, .FIRN_OCXO_STAT, .GLB_BOOT_STAT, .OUT_STAT, .SYN_CMD, .SYN_STAT, .TB_ROLE] d (Dev.warmDeclared d a b) := by
  unfold Dev.warmDeclared
  (try dsimp only)
  repeat' first
    | with_reducible exact Only.refl
    | with_reducible refine Only.declareWarm ?_ _ (by decide) (by decide)
    | with_reducible refine Only.takePlace ?_ _ (by decide) (by decide)
    | with_reducible refine Only.when ?_ _ _ ?_
    | split
    | dsimp only
theorem Only.warmDeclared {PP : List Part} {RR : List Reg} {xx d : Dev} (hh : Only PP RR xx d) (a b : Bool)
    (hP : ∀ p ∈ ([.tbA, .tbB, .twin, .syns, .outs, .counters, .latches, .ring, .log, .pcie, .sys, .sent] : List Part), p ∈ PP) (hR : ∀ r ∈ ([.ALM_ACTIVE, .ALM_LATCH, .FIRN_OCXO_STAT, .GLB_BOOT_STAT, .OUT_STAT, .SYN_CMD, .SYN_STAT, .TB_ROLE] : List Reg), r ∈ RR) :
    Only PP RR xx (Dev.warmDeclared d a b) := hh.andThen (only_warmDeclared d a b) hP hR
theorem only_warmTimeout (d : Dev) (t : TbId) : Only [.tbA, .tbB, .mir, .rsel, .cands, .twin, .syns, .outs, .chans, .cpMail, .counters, .latches, .ring, .log, .pcie, .sw, .ports, .ptus, .insts, .tio, .sys, .sent, .freeCtr] [.ALM_ACTIVE, .ALM_LATCH, .LANE_PARTNER_DOM, .LANE_PARTNER_ID_HI, .LANE_PARTNER_ID_LO, .LANE_PARTNER_INFO, .LANE_QUAD_CFG, .LANE_QUAD_STAT, .LANE_STAT, .LANE_TEST, .OUT_STAT, .PRT_GATE_STAT, .PRT_PTU_STAT, .PRT_Q_PTX, .PRT_Q_STAT, .PRT_REV_STAT, .PWR_PORT_STAT, .PWR_STAT, .RECOV_W4, .RSEL_CAND_FREQ, .RSEL_CAND_STAT, .SEQGEN_W0, .SW_BUF_GATED, .SYN_CMD, .SYN_STAT, .TB_HB_STAT, .TB_ROLE, .TB_TAKEOVER, .TB_TCMD, .TB_TSTAT, .TB_TWIN_CMD, .TIO_STAT] d (Dev.warmTimeout d t) := by
  unfold Dev.warmTimeout
  (try dsimp only)
  repeat' first
    | with_reducible exact Only.refl
    | with_reducible refine Only.onSys ?_ _ (by decide)
    | with_reducible refine Only.enterNone ?_ (by decide) (by decide)
    | with_reducible refine Only.retireTb ?_ _ (by decide) (by decide)
    | with_reducible refine Only.when ?_ _ _ ?_
    | split
    | dsimp only
theorem Only.warmTimeout {PP : List Part} {RR : List Reg} {xx d : Dev} (hh : Only PP RR xx d) (t : TbId)
    (hP : ∀ p ∈ ([.tbA, .tbB, .mir, .rsel, .cands, .twin, .syns, .outs, .chans, .cpMail, .counters, .latches, .ring, .log, .pcie, .sw, .ports, .ptus, .insts, .tio, .sys, .sent, .freeCtr] : List Part), p ∈ PP) (hR : ∀ r ∈ ([.ALM_ACTIVE, .ALM_LATCH, .LANE_PARTNER_DOM, .LANE_PARTNER_ID_HI, .LANE_PARTNER_ID_LO, .LANE_PARTNER_INFO, .LANE_QUAD_CFG, .LANE_QUAD_STAT, .LANE_STAT, .LANE_TEST, .OUT_STAT, .PRT_GATE_STAT, .PRT_PTU_STAT, .PRT_Q_PTX, .PRT_Q_STAT, .PRT_REV_STAT, .PWR_PORT_STAT, .PWR_STAT, .RECOV_W4, .RSEL_CAND_FREQ, .RSEL_CAND_STAT, .SEQGEN_W0, .SW_BUF_GATED, .SYN_CMD, .SYN_STAT, .TB_HB_STAT, .TB_ROLE, .TB_TAKEOVER, .TB_TCMD, .TB_TSTAT, .TB_TWIN_CMD, .TIO_STAT] : List Reg), r ∈ RR) :
    Only PP RR xx (Dev.warmTimeout d t) := hh.andThen (only_warmTimeout d t) hP hR
theorem only_writeMacs (d : Dev) : Only [] [.PRT_MAC_ADDR_HI, .PRT_MAC_ADDR_LO] d (Dev.writeMacs d) := by
  unfold Dev.writeMacs
  (try dsimp only)
  repeat' first
    | with_reducible exact Only.refl
    | with_reducible refine Only.setWord ?_ _ _ _ (by decide)
    | with_reducible refine Only.each ?_ _ _ (fun _ _ => ?_)
    | split
    | dsimp only
theorem Only.writeMacs {PP : List Part} {RR : List Reg} {xx d : Dev} (hh : Only PP RR xx d) 
    (hP : ∀ p ∈ ([] : List Part), p ∈ PP) (hR : ∀ r ∈ ([.PRT_MAC_ADDR_HI, .PRT_MAC_ADDR_LO] : List Reg), r ∈ RR) :
    Only PP RR xx (Dev.writeMacs d) := hh.andThen (only_writeMacs d) hP hR
theorem only_tbpDog (d : Dev) (t : TbId) : Only [.tbA, .tbB, .mir, .cands, .twin, .chans, .counters, .latches, .ring, .log, .pcie, .sent, .freeCtr] [.ALM_ACTIVE, .ALM_LATCH, .RSEL_CAND_FREQ, .SEQGEN_W0, .TB_ROLE, .TB_TAKEOVER, .TB_TCMD, .TB_TWIN_CMD] d (Dev.tbpDog d t) := by
  unfold Dev.tbpDog
  (try dsimp only)
  repeat' first
    | with_reducible exact Only.refl
    | with_reducible refine Only.onTwin ?_ _ (by decide)
    | with_reducible refine Only.countDev ?_ _ _ (by decide)
    | with_reducible refine Only.standbyFault ?_ _ (by decide) (by decide)
    | split
    | dsimp only
theorem Only.tbpDog {PP : List Part} {RR : List Reg} {xx d : Dev} (hh : Only PP RR xx d) (t : TbId)
    (hP : ∀ p ∈ ([.tbA, .tbB, .mir, .cands, .twin, .chans, .counters, .latches, .ring, .log, .pcie, .sent, .freeCtr] : List Part), p ∈ PP) (hR : ∀ r ∈ ([.ALM_ACTIVE, .ALM_LATCH, .RSEL_CAND_FREQ, .SEQGEN_W0, .TB_ROLE, .TB_TAKEOVER, .TB_TCMD, .TB_TWIN_CMD] : List Reg), r ∈ RR) :
    Only PP RR xx (Dev.tbpDog d t) := hh.andThen (only_tbpDog d t) hP hR
theorem only_cfgRuns (d : Dev) (result : Nat) : Only [.sys] [.GLB_CFG_CMD] d (Dev.cfgRuns d result) := by
  unfold Dev.cfgRuns
  (try dsimp only)
  repeat' first
    | with_reducible exact Only.refl
    | with_reducible refine Only.set ?_ _ _ _ (by decide)
    | with_reducible refine Only.onSys ?_ _ (by decide)
    | split
    | dsimp only
theorem Only.cfgRuns {PP : List Part} {RR : List Reg} {xx d : Dev} (hh : Only PP RR xx d) (result : Nat)
    (hP : ∀ p ∈ ([.sys] : List Part), p ∈ PP) (hR : ∀ r ∈ ([.GLB_CFG_CMD] : List Reg), r ∈ RR) :
    Only PP RR xx (Dev.cfgRuns d result) := hh.andThen (only_cfgRuns d result) hP hR

/-! ## Update -/

theorem only_showNvm (d : Dev) : Only [] [.UPD_STAT] d (Dev.showNvm d) := by
  unfold Dev.showNvm
  (try dsimp only)
  repeat' first
    | with_reducible exact Only.refl
    | with_reducible refine Only.setB ?_ _ _ _ (by decide)
    | split
    | dsimp only
theorem Only.showNvm {PP : List Part} {RR : List Reg} {xx d : Dev} (hh : Only PP RR xx d) 
    (hP : ∀ p ∈ ([] : List Part), p ∈ PP) (hR : ∀ r ∈ ([.UPD_STAT] : List Reg), r ∈ RR) :
    Only PP RR xx (Dev.showNvm d) := hh.andThen (only_showNvm d) hP hR
theorem only_nvmRefuse (d : Dev) : Only [.counters, .latches, .ring, .log, .pcie, .sent] [.ALM_ACTIVE, .ALM_LATCH, .UPD_STAT] d (Dev.nvmRefuse d) := by
  unfold Dev.nvmRefuse
  (try dsimp only)
  repeat' first
    | with_reducible exact Only.refl
    | with_reducible refine Only.setB ?_ _ _ _ (by decide)
    | with_reducible refine Only.countDev ?_ _ _ (by decide)
    | split
    | dsimp only
theorem Only.nvmRefuse {PP : List Part} {RR : List Reg} {xx d : Dev} (hh : Only PP RR xx d) 
    (hP : ∀ p ∈ ([.counters, .latches, .ring, .log, .pcie, .sent] : List Part), p ∈ PP) (hR : ∀ r ∈ ([.ALM_ACTIVE, .ALM_LATCH, .UPD_STAT] : List Reg), r ∈ RR) :
    Only PP RR xx (Dev.nvmRefuse d) := hh.andThen (only_nvmRefuse d) hP hR
theorem only_beginProgram (d : Dev) : Only [.sys] [.UPD_STAT] d (Dev.beginProgram d) := by
  unfold Dev.beginProgram
  (try dsimp only)
  repeat' first
    | with_reducible exact Only.refl
    | with_reducible refine Only.onSys ?_ _ (by decide)
    | with_reducible refine Only.showNvm ?_ (by decide) (by decide)
    | split
    | dsimp only
theorem Only.beginProgram {PP : List Part} {RR : List Reg} {xx d : Dev} (hh : Only PP RR xx d) 
    (hP : ∀ p ∈ ([.sys] : List Part), p ∈ PP) (hR : ∀ r ∈ ([.UPD_STAT] : List Reg), r ∈ RR) :
    Only PP RR xx (Dev.beginProgram d) := hh.andThen (only_beginProgram d) hP hR
theorem only_flashDone (d : Dev) : Only [.sys] [.UPD_CMD] d (Dev.flashDone d) := by
  unfold Dev.flashDone
  (try dsimp only)
  repeat' first
    | with_reducible exact Only.refl
    | with_reducible refine Only.set ?_ _ _ _ (by decide)
    | with_reducible refine Only.onSys ?_ _ (by decide)
    | with_reducible refine Only.when ?_ _ _ ?_
    | split
    | dsimp only
theorem Only.flashDone {PP : List Part} {RR : List Reg} {xx d : Dev} (hh : Only PP RR xx d) 
    (hP : ∀ p ∈ ([.sys] : List Part), p ∈ PP) (hR : ∀ r ∈ ([.UPD_CMD] : List Reg), r ∈ RR) :
    Only PP RR xx (Dev.flashDone d) := hh.andThen (only_flashDone d) hP hR
theorem only_updResult (d : Dev) (r : Nat) : Only [] [.UPD_CMD] d (Dev.updResult d r) := by
  unfold Dev.updResult
  (try dsimp only)
  repeat' first
    | with_reducible exact Only.refl
    | with_reducible refine Only.set ?_ _ _ _ (by decide)
    | split
    | dsimp only
theorem Only.updResult {PP : List Part} {RR : List Reg} {xx d : Dev} (hh : Only PP RR xx d) (r : Nat)
    (hP : ∀ p ∈ ([] : List Part), p ∈ PP) (hR : ∀ r ∈ ([.UPD_CMD] : List Reg), r ∈ RR) :
    Only PP RR xx (Dev.updResult d r) := hh.andThen (only_updResult d r) hP hR
theorem only_updStarts (d : Dev) : Only [.sys] [.UPD_CMD] d (Dev.updStarts d) := by
  unfold Dev.updStarts
  (try dsimp only)
  repeat' first
    | with_reducible exact Only.refl
    | with_reducible refine Only.onSys ?_ _ (by decide)
    | with_reducible refine Only.updResult ?_ _ (by decide) (by decide)
    | split
    | dsimp only
theorem Only.updStarts {PP : List Part} {RR : List Reg} {xx d : Dev} (hh : Only PP RR xx d) 
    (hP : ∀ p ∈ ([.sys] : List Part), p ∈ PP) (hR : ∀ r ∈ ([.UPD_CMD] : List Reg), r ∈ RR) :
    Only PP RR xx (Dev.updStarts d) := hh.andThen (only_updStarts d) hP hR
theorem only_carryTimeout (d : Dev) : Only [.cands, .chans, .cpMail, .counters, .latches, .ring, .log, .pcie, .ptus, .sys, .sent, .freeCtr] [.ALM_ACTIVE, .ALM_LATCH, .PRT_PTU_STAT, .PRT_REV_STAT, .PWR_STAT, .RSEL_CAND_STAT] d (Dev.carryTimeout d) := by
  unfold Dev.carryTimeout
  (try dsimp only)
  repeat' first
    | with_reducible exact Only.refl
    | with_reducible refine Only.onSys ?_ _ (by decide)
    | with_reducible refine Only.setPtpState ?_ _ _ (by decide) (by decide)
    | with_reducible refine Only.each ?_ _ _ (fun _ _ => ?_)
    | split
    | dsimp only
theorem Only.carryTimeout {PP : List Part} {RR : List Reg} {xx d : Dev} (hh : Only PP RR xx d) 
    (hP : ∀ p ∈ ([.cands, .chans, .cpMail, .counters, .latches, .ring, .log, .pcie, .ptus, .sys, .sent, .freeCtr] : List Part), p ∈ PP) (hR : ∀ r ∈ ([.ALM_ACTIVE, .ALM_LATCH, .PRT_PTU_STAT, .PRT_REV_STAT, .PWR_STAT, .RSEL_CAND_STAT] : List Reg), r ∈ RR) :
    Only PP RR xx (Dev.carryTimeout d) := hh.andThen (only_carryTimeout d) hP hR

/-! ## Host -/

theorem only_badAccess (d : Dev) (source kind ofs : Nat) : Only [.counters, .latches, .ring, .log, .pcie, .sent] [.ALM_ACTIVE, .ALM_LATCH, .GLB_BAD_ACC, .GLB_BAD_ACC_OFS] d (Dev.badAccess d source kind ofs) := by
  unfold Dev.badAccess
  (try dsimp only)
  repeat' first
    | with_reducible exact Only.refl
    | with_reducible refine Only.set ?_ _ _ _ (by decide)
    | with_reducible refine Only.setB ?_ _ _ _ (by decide)
    | with_reducible refine Only.setWord ?_ _ _ _ (by decide)
    | with_reducible refine Only.countDev ?_ _ _ (by decide)
    | split
    | dsimp only
theorem Only.badAccess {PP : List Part} {RR : List Reg} {xx d : Dev} (hh : Only PP RR xx d) (source kind ofs : Nat)
    (hP : ∀ p ∈ ([.counters, .latches, .ring, .log, .pcie, .sent] : List Part), p ∈ PP) (hR : ∀ r ∈ ([.ALM_ACTIVE, .ALM_LATCH, .GLB_BAD_ACC, .GLB_BAD_ACC_OFS] : List Reg), r ∈ RR) :
    Only PP RR xx (Dev.badAccess d source kind ofs) := hh.andThen (only_badAccess d source kind ofs) hP hR
theorem only_capture (d : Dev) : Only [.counters, .latches, .ring, .log, .pcie, .sent] [.ALM_ACTIVE, .ALM_LATCH, .WIDE_STAT] d (Dev.capture d) := by
  unfold Dev.capture
  (try dsimp only)
  repeat' first
    | with_reducible exact Only.refl
    | with_reducible refine Only.setB ?_ _ _ _ (by decide)
    | with_reducible refine Only.onPcie ?_ _ (by decide)
    | with_reducible refine Only.latch ?_ _ (by decide)
    | with_reducible refine Only.countDev ?_ _ _ (by decide)
    | split
    | dsimp only
theorem Only.capture {PP : List Part} {RR : List Reg} {xx d : Dev} (hh : Only PP RR xx d) 
    (hP : ∀ p ∈ ([.counters, .latches, .ring, .log, .pcie, .sent] : List Part), p ∈ PP) (hR : ∀ r ∈ ([.ALM_ACTIVE, .ALM_LATCH, .WIDE_STAT] : List Reg), r ∈ RR) :
    Only PP RR xx (Dev.capture d) := hh.andThen (only_capture d) hP hR
theorem only_latchDone (d : Dev) : Only [.counters, .latches, .ring, .log, .pcie, .sent] [.ALM_ACTIVE, .ALM_LATCH, .WIDE_D, .WIDE_STAT] d (Dev.latchDone d) := by
  unfold Dev.latchDone
  (try dsimp only)
  repeat' first
    | with_reducible exact Only.refl
    | with_reducible refine Only.set ?_ _ _ _ (by decide)
    | with_reducible refine Only.setB ?_ _ _ _ (by decide)
    | with_reducible refine Only.setWord ?_ _ _ _ (by decide)
    | with_reducible refine Only.onPcie ?_ _ (by decide)
    | with_reducible refine Only.latch ?_ _ (by decide)
    | with_reducible refine Only.each ?_ _ _ (fun _ _ => ?_)
    | split
    | dsimp only
theorem Only.latchDone {PP : List Part} {RR : List Reg} {xx d : Dev} (hh : Only PP RR xx d) 
    (hP : ∀ p ∈ ([.counters, .latches, .ring, .log, .pcie, .sent] : List Part), p ∈ PP) (hR : ∀ r ∈ ([.ALM_ACTIVE, .ALM_LATCH, .WIDE_D, .WIDE_STAT] : List Reg), r ∈ RR) :
    Only PP RR xx (Dev.latchDone d) := hh.andThen (only_latchDone d) hP hR
theorem only_indPush (d : Dev) (v : Word) : Only [.pcie] [.IND_ADDR, .IND_DATA] d (Dev.indPush d v) := by
  unfold Dev.indPush
  (try dsimp only)
  repeat' first
    | with_reducible exact Only.refl
    | with_reducible refine Only.set ?_ _ _ _ (by decide)
    | with_reducible refine Only.setWord ?_ _ _ _ (by decide)
    | with_reducible refine Only.onPcie ?_ _ (by decide)
    | with_reducible refine Only.when ?_ _ _ ?_
    | split
    | dsimp only
theorem Only.indPush {PP : List Part} {RR : List Reg} {xx d : Dev} (hh : Only PP RR xx d) (v : Word)
    (hP : ∀ p ∈ ([.pcie] : List Part), p ∈ PP) (hR : ∀ r ∈ ([.IND_ADDR, .IND_DATA] : List Reg), r ∈ RR) :
    Only PP RR xx (Dev.indPush d v) := hh.andThen (only_indPush d v) hP hR
theorem only_msixWrite (d : Dev) (a : Nat) (v : Word) : Only [.pcie] [] d (Dev.msixWrite d a v) := by
  unfold Dev.msixWrite
  (try dsimp only)
  repeat' first
    | with_reducible exact Only.refl
    | with_reducible refine Only.onPcie ?_ _ (by decide)
    | split
    | dsimp only
theorem Only.msixWrite {PP : List Part} {RR : List Reg} {xx d : Dev} (hh : Only PP RR xx d) (a : Nat) (v : Word)
    (hP : ∀ p ∈ ([.pcie] : List Part), p ∈ PP) (hR : ∀ r ∈ ([] : List Reg), r ∈ RR) :
    Only PP RR xx (Dev.msixWrite d a v) := hh.andThen (only_msixWrite d a v) hP hR
theorem only_sendPending (d : Dev) : Only [.counters, .latches, .ring, .log, .pcie, .sent] [.ALM_ACTIVE, .ALM_LATCH] d (Dev.sendPending d) := by
  unfold Dev.sendPending
  (try dsimp only)
  repeat' first
    | with_reducible exact Only.refl
    | with_reducible refine Only.onPcie ?_ _ (by decide)
    | with_reducible refine Only.sendMsix ?_ _ (by decide) (by decide)
    | with_reducible refine Only.each ?_ _ _ (fun _ _ => ?_)
    | split
    | dsimp only
theorem Only.sendPending {PP : List Part} {RR : List Reg} {xx d : Dev} (hh : Only PP RR xx d) 
    (hP : ∀ p ∈ ([.counters, .latches, .ring, .log, .pcie, .sent] : List Part), p ∈ PP) (hR : ∀ r ∈ ([.ALM_ACTIVE, .ALM_LATCH] : List Reg), r ∈ RR) :
    Only PP RR xx (Dev.sendPending d) := hh.andThen (only_sendPending d) hP hR
theorem only_indError (d : Dev) (e sp a : Nat) : Only [.counters, .latches, .ring, .log, .pcie, .sent] [.ALM_ACTIVE, .ALM_LATCH, .IND_ERR_ADDR, .IND_STAT] d (Dev.indError d e sp a) := by
  unfold Dev.indError
  (try dsimp only)
  repeat' first
    | with_reducible exact Only.refl
    | with_reducible refine Only.set ?_ _ _ _ (by decide)
    | with_reducible refine Only.countDev ?_ _ _ (by decide)
    | with_reducible refine Only.devEvent ?_ _ _ _ _ (by decide)
    | split
    | dsimp only
theorem Only.indError {PP : List Part} {RR : List Reg} {xx d : Dev} (hh : Only PP RR xx d) (e sp a : Nat)
    (hP : ∀ p ∈ ([.counters, .latches, .ring, .log, .pcie, .sent] : List Part), p ∈ PP) (hR : ∀ r ∈ ([.ALM_ACTIVE, .ALM_LATCH, .IND_ERR_ADDR, .IND_STAT] : List Reg), r ∈ RR) :
    Only PP RR xx (Dev.indError d e sp a) := hh.andThen (only_indError d e sp a) hP hR
theorem only_readAt (d : Dev) (r : Reg) (u : Nat) : Only [.counters, .latches, .ring, .log, .pcie, .tio, .sent] [.ALM_ACTIVE, .ALM_LATCH, .ALM_LOG_W, .RING_AREA_ADDR, .RING_AREA_DATA, .TIO_REC, .TIO_STAT, .WIDE_STAT] d (Dev.readAt d r u).1 := by
  unfold Dev.readAt
  (try dsimp only)
  repeat' first
    | with_reducible exact Only.refl
    | with_reducible refine Only.setB ?_ _ _ _ (by decide)
    | with_reducible refine Only.readRecord ?_ _ (by decide) (by decide)
    | with_reducible refine Only.ringAreaRead ?_ (by decide) (by decide)
    | with_reducible refine Only.takeLog ?_ (by decide) (by decide)
    | split
    | dsimp only
theorem Only.readAt {PP : List Part} {RR : List Reg} {xx d : Dev} (hh : Only PP RR xx d) (r : Reg) (u : Nat)
    (hP : ∀ p ∈ ([.counters, .latches, .ring, .log, .pcie, .tio, .sent] : List Part), p ∈ PP) (hR : ∀ r ∈ ([.ALM_ACTIVE, .ALM_LATCH, .ALM_LOG_W, .RING_AREA_ADDR, .RING_AREA_DATA, .TIO_REC, .TIO_STAT, .WIDE_STAT] : List Reg), r ∈ RR) :
    Only PP RR xx (Dev.readAt d r u).1 := hh.andThen (only_readAt d r u) hP hR
theorem only_readPlace (d : Dev) (p : Party) (place : Option (Reg × Nat)) : Only [.counters, .latches, .ring, .log, .pcie, .tio, .sent] [.ALM_ACTIVE, .ALM_LATCH, .ALM_LOG_W, .RING_AREA_ADDR, .RING_AREA_DATA, .TIO_REC, .TIO_STAT, .WIDE_STAT] d (Dev.readPlace d p place).1 := by
  unfold Dev.readPlace
  (try dsimp only)
  repeat' first
    | with_reducible exact Only.refl
    | with_reducible refine Only.readAt ?_ _ _ (by decide) (by decide)
    | split
    | dsimp only
theorem Only.readPlace {PP : List Part} {RR : List Reg} {xx d : Dev} (hh : Only PP RR xx d) (p : Party) (place : Option (Reg × Nat))
    (hP : ∀ p ∈ ([.counters, .latches, .ring, .log, .pcie, .tio, .sent] : List Part), p ∈ PP) (hR : ∀ r ∈ ([.ALM_ACTIVE, .ALM_LATCH, .ALM_LOG_W, .RING_AREA_ADDR, .RING_AREA_DATA, .TIO_REC, .TIO_STAT, .WIDE_STAT] : List Reg), r ∈ RR) :
    Only PP RR xx (Dev.readPlace d p place).1 := hh.andThen (only_readPlace d p place) hP hR
theorem only_indPlace (d : Dev) : Only [] [.IND_ADDR] d (Dev.indPlace d).1 := by
  unfold Dev.indPlace
  (try dsimp only)
  repeat' first
    | with_reducible exact Only.refl
    | with_reducible refine Only.set ?_ _ _ _ (by decide)
    | with_reducible refine Only.when ?_ _ _ ?_
    | split
    | dsimp only
theorem Only.indPlace {PP : List Part} {RR : List Reg} {xx d : Dev} (hh : Only PP RR xx d) 
    (hP : ∀ p ∈ ([] : List Part), p ∈ PP) (hR : ∀ r ∈ ([.IND_ADDR] : List Reg), r ∈ RR) :
    Only PP RR xx (Dev.indPlace d).1 := hh.andThen (only_indPlace d) hP hR
theorem only_smbAnswer (d : Dev) (code : Nat) (args : List Byte) (v : Word) : Only [.sent] [] d (Dev.smbAnswer d code args v) := by
  unfold Dev.smbAnswer
  (try dsimp only)
  repeat' first
    | with_reducible exact Only.refl
    | with_reducible refine Only.emit ?_ _ (by decide)
    | split
    | dsimp only
theorem Only.smbAnswer {PP : List Part} {RR : List Reg} {xx d : Dev} (hh : Only PP RR xx d) (code : Nat) (args : List Byte) (v : Word)
    (hP : ∀ p ∈ ([.sent] : List Part), p ∈ PP) (hR : ∀ r ∈ ([] : List Reg), r ∈ RR) :
    Only PP RR xx (Dev.smbAnswer d code args v) := hh.andThen (only_smbAnswer d code args v) hP hR
theorem only_configRead (d : Dev) (i : ConfigItem) : Only [.sent] [] d (Dev.configRead d i) := by
  unfold Dev.configRead
  (try dsimp only)
  repeat' first
    | with_reducible exact Only.refl
    | with_reducible refine Only.emit ?_ _ (by decide)
    | split
    | dsimp only
theorem Only.configRead {PP : List Part} {RR : List Reg} {xx d : Dev} (hh : Only PP RR xx d) (i : ConfigItem)
    (hP : ∀ p ∈ ([.sent] : List Part), p ∈ PP) (hR : ∀ r ∈ ([] : List Reg), r ∈ RR) :
    Only PP RR xx (Dev.configRead d i) := hh.andThen (only_configRead d i) hP hR
theorem only_linkDown (d : Dev) : Only [.counters, .latches, .ring, .log, .pcie, .sent] [.ALM_ACTIVE, .ALM_LATCH, .GLB_HOST_STAT] d (Dev.linkDown d) := by
  unfold Dev.linkDown
  (try dsimp only)
  repeat' first
    | with_reducible exact Only.refl
    | with_reducible refine Only.set ?_ _ _ _ (by decide)
    | with_reducible refine Only.hostStat ?_ _ _ (by decide) (by decide)
    | with_reducible refine Only.onPcie ?_ _ (by decide)
    | with_reducible refine Only.cond ?_ _ _ (by decide)
    | with_reducible refine Only.countDev ?_ _ _ (by decide)
    | split
    | dsimp only
theorem Only.linkDown {PP : List Part} {RR : List Reg} {xx d : Dev} (hh : Only PP RR xx d) 
    (hP : ∀ p ∈ ([.counters, .latches, .ring, .log, .pcie, .sent] : List Part), p ∈ PP) (hR : ∀ r ∈ ([.ALM_ACTIVE, .ALM_LATCH, .GLB_HOST_STAT] : List Reg), r ∈ RR) :
    Only PP RR xx (Dev.linkDown d) := hh.andThen (only_linkDown d) hP hR
theorem only_endpointReady (d : Dev) (speed width : Nat) : Only [.counters, .latches, .ring, .log, .pcie, .sys, .sent] [.ALM_ACTIVE, .ALM_LATCH, .GLB_HOST_STAT] d (Dev.endpointReady d speed width) := by
  unfold Dev.endpointReady
  (try dsimp only)
  repeat' first
    | with_reducible exact Only.refl
    | with_reducible refine Only.hostStat ?_ _ _ (by decide) (by decide)
    | with_reducible refine Only.onSys ?_ _ (by decide)
    | with_reducible refine Only.onPcie ?_ _ (by decide)
    | with_reducible refine Only.cond ?_ _ _ (by decide)
    | split
    | dsimp only
theorem Only.endpointReady {PP : List Part} {RR : List Reg} {xx d : Dev} (hh : Only PP RR xx d) (speed width : Nat)
    (hP : ∀ p ∈ ([.counters, .latches, .ring, .log, .pcie, .sys, .sent] : List Part), p ∈ PP) (hR : ∀ r ∈ ([.ALM_ACTIVE, .ALM_LATCH, .GLB_HOST_STAT] : List Reg), r ∈ RR) :
    Only PP RR xx (Dev.endpointReady d speed width) := hh.andThen (only_endpointReady d speed width) hP hR
theorem only_msixStat (d : Dev) : Only [] [.GLB_HOST_STAT] d (Dev.msixStat d) := by
  unfold Dev.msixStat
  (try dsimp only)
  repeat' first
    | with_reducible exact Only.refl
    | with_reducible refine Only.hostStat ?_ _ _ (by decide) (by decide)
    | split
    | dsimp only
theorem Only.msixStat {PP : List Part} {RR : List Reg} {xx d : Dev} (hh : Only PP RR xx d) 
    (hP : ∀ p ∈ ([] : List Part), p ∈ PP) (hR : ∀ r ∈ ([.GLB_HOST_STAT] : List Reg), r ∈ RR) :
    Only PP RR xx (Dev.msixStat d) := hh.andThen (only_msixStat d) hP hR
theorem only_configWrite (d : Dev) (c : PcieCfg) : Only [.counters, .latches, .ring, .log, .pcie, .sent] [.ALM_ACTIVE, .ALM_LATCH, .GLB_HOST_STAT] d (Dev.configWrite d c) := by
  unfold Dev.configWrite
  (try dsimp only)
  repeat' first
    | with_reducible exact Only.refl
    | with_reducible refine Only.hostStat ?_ _ _ (by decide) (by decide)
    | with_reducible refine Only.onPcie ?_ _ (by decide)
    | with_reducible refine Only.msixStat ?_ (by decide) (by decide)
    | with_reducible refine Only.msixWrite ?_ _ _ (by decide) (by decide)
    | with_reducible refine Only.sendPending ?_ (by decide) (by decide)
    | split
    | dsimp only
theorem Only.configWrite {PP : List Part} {RR : List Reg} {xx d : Dev} (hh : Only PP RR xx d) (c : PcieCfg)
    (hP : ∀ p ∈ ([.counters, .latches, .ring, .log, .pcie, .sent] : List Part), p ∈ PP) (hR : ∀ r ∈ ([.ALM_ACTIVE, .ALM_LATCH, .GLB_HOST_STAT] : List Reg), r ∈ RR) :
    Only PP RR xx (Dev.configWrite d c) := hh.andThen (only_configWrite d c) hP hR

/-! ## Tick -/

theorem only_countHour (d : Dev) : Only [] [.FIRN_LIFE] d (Dev.countHour d) := by
  unfold Dev.countHour
  (try dsimp only)
  repeat' first
    | with_reducible exact Only.refl
    | with_reducible refine Only.set ?_ _ _ _ (by decide)
    | with_reducible refine Only.when ?_ _ _ ?_
    | split
    | dsimp only
theorem Only.countHour {PP : List Part} {RR : List Reg} {xx d : Dev} (hh : Only PP RR xx d) 
    (hP : ∀ p ∈ ([] : List Part), p ∈ PP) (hR : ∀ r ∈ ([.FIRN_LIFE] : List Reg), r ∈ RR) :
    Only PP RR xx (Dev.countHour d) := hh.andThen (only_countHour d) hP hR
theorem only_countWindow (d : Dev) : Only [.sys] [.UPD_CONFIRM_LEFT] d (Dev.countWindow d) := by
  unfold Dev.countWindow
  (try dsimp only)
  repeat' first
    | with_reducible exact Only.refl
    | with_reducible refine Only.set ?_ _ _ _ (by decide)
    | with_reducible refine Only.onSys ?_ _ (by decide)
    | split
    | dsimp only
theorem Only.countWindow {PP : List Part} {RR : List Reg} {xx d : Dev} (hh : Only PP RR xx d) 
    (hP : ∀ p ∈ ([.sys] : List Part), p ∈ PP) (hR : ∀ r ∈ ([.UPD_CONFIRM_LEFT] : List Reg), r ∈ RR) :
    Only PP RR xx (Dev.countWindow d) := hh.andThen (only_countWindow d) hP hR
theorem only_mirrorAccrues (d : Dev) : Only [.sw] [] d (Dev.mirrorAccrues d) := by
  unfold Dev.mirrorAccrues
  (try dsimp only)
  repeat' first
    | with_reducible exact Only.refl
    | with_reducible refine Only.onSw ?_ _ (by decide)
    | split
    | dsimp only
theorem Only.mirrorAccrues {PP : List Part} {RR : List Reg} {xx d : Dev} (hh : Only PP RR xx d) 
    (hP : ∀ p ∈ ([.sw] : List Part), p ∈ PP) (hR : ∀ r ∈ ([] : List Reg), r ∈ RR) :
    Only PP RR xx (Dev.mirrorAccrues d) := hh.andThen (only_mirrorAccrues d) hP hR
theorem only_cycle (d : Dev) : Only [.tbA, .tbB, .twin, .syns, .outs, .counters, .latches, .ring, .log, .pcie, .sw, .ports, .sys, .sent, .cycles] [.ALM_ACTIVE, .ALM_LATCH, .FIRN_LIFE, .LANE_QUAD_STAT, .OUT_STAT, .PWR_PORT_STAT, .PWR_STAT, .SW_BUF_GATED, .SYN_CMD, .SYN_STAT, .TB_HB_STAT, .TB_TAKEOVER, .UPD_CONFIRM_LEFT, .WIDE_D, .WIDE_STAT] d (Dev.cycle d) := by
  unfold Dev.cycle
  have h : Only [.tbA, .tbB, .twin, .syns, .outs, .counters, .latches, .ring, .log, .pcie, .sw, .ports, .sys, .sent, .cycles] [.ALM_ACTIVE, .ALM_LATCH, .FIRN_LIFE, .LANE_QUAD_STAT, .OUT_STAT, .PWR_PORT_STAT, .PWR_STAT, .SW_BUF_GATED, .SYN_CMD, .SYN_STAT, .TB_HB_STAT, .TB_TAKEOVER, .UPD_CONFIRM_LEFT, .WIDE_D, .WIDE_STAT] d { d with tbA := d.tbA.run, tbB := d.tbB.run, cycles := d.cycles + 1 } :=
    Only.agree .refl rfl (fun p hp => by cases p <;> first | rfl | exact absurd (by decide) hp)
  exact ((((h.countHour (by decide) (by decide)).countWindow (by decide) (by decide)).mirrorAccrues (by decide) (by decide)).latchDone
    (by decide) (by decide)).judgeRelock (by decide) (by decide)
theorem Only.cycle {PP : List Part} {RR : List Reg} {xx d : Dev} (hh : Only PP RR xx d) 
    (hP : ∀ p ∈ ([.tbA, .tbB, .twin, .syns, .outs, .counters, .latches, .ring, .log, .pcie, .sw, .ports, .sys, .sent, .cycles] : List Part), p ∈ PP) (hR : ∀ r ∈ ([.ALM_ACTIVE, .ALM_LATCH, .FIRN_LIFE, .LANE_QUAD_STAT, .OUT_STAT, .PWR_PORT_STAT, .PWR_STAT, .SW_BUF_GATED, .SYN_CMD, .SYN_STAT, .TB_HB_STAT, .TB_TAKEOVER, .UPD_CONFIRM_LEFT, .WIDE_D, .WIDE_STAT] : List Reg), r ∈ RR) :
    Only PP RR xx (Dev.cycle d) := hh.andThen (only_cycle d) hP hR

end Sys2Proof.Safety
end

