-- ==== Sys2Proof/WellFormed.lean ====
section
/-! DEFINITION. Which commands can stand outside the module: the bounds that the spec sets on what a sender, a line or a
measuring circuit hands it. An index needs no check, since its type is bounded (Sys2Proof/Syntax.lean). A command that no
check here admits has a meaning all the same; the checks say which operands a user of the model may choose. -/

namespace Sys2Proof

/-- An access of 1 to 8 bytes, whose data fill those bytes (R353). -/
def BusWrite.wf (w : BusWrite) : Bool := decide (1 ≤ w.size) && decide (w.size ≤ 8) && decide (w.data.toNat < 2 ^ (8 * w.size))

/-- A read of at least one byte, of at most Max_Read_Request_Size (R348, R353). -/
def BusRead.wf (r : BusRead) : Bool := decide (1 ≤ r.size) && decide (r.size ≤ 4096)

def BusAccess.wf : BusAccess → Bool
  | .write w => w.wf
  | .read r => r.wf
  | .config _ => true

/-- In a round each requester presents at most one access (R357). -/
def RingRound.wf (r : RingRound) : Bool :=
  r.accesses.all BusAccess.wf && decide ((r.accesses.map BusAccess.party).Nodup)

/-- A beat phase of less than 6.4 ns (R165), an interpolator code of less than one unit interval (R166). -/
def Capture.wf (c : Capture) : Bool := decide (c.phi < 16384) && decide (c.cdr < 64)

/-- portNumber and sequenceId are 16-bit fields of a PTP message (R176). -/
def PtpMsg.wf (m : PtpMsg) : Bool := decide (m.portNum < 65536) && decide (m.seq < 65536)

/-- The fields of an Announce message in their widths (R184). -/
def AnnounceData.wf (a : AnnounceData) : Bool :=
  decide (a.gmPriority1 < 256) && decide (a.gmPriority2 < 256) && decide (a.clockClass < 256) && decide (a.clockAccuracy < 256) &&
  decide (a.variance < 65536) && decide (a.timeSource < 256) && decide (a.stepsRemoved < 65536) &&
  decide (-32768 ≤ a.utcOffset) && decide (a.utcOffset < 32768)

def PdelayReply.wf : PdelayReply → Bool
  | .resp m c => m.wf && c.wf
  | .followUp m => m.wf

/-- A calibration counts 2^20 sweep edges in the bins of at most 768 physical taps (R205, R206). -/
def CalResult.wf (r : CalResult) : Bool :=
  decide (r.bins.length ≤ 768) && decide (r.bins.sum ≤ 2 ^ 20) && decide (r.taps.length ≤ 768)

/-- At least one byte has arrived, and a frame that has arrived whole is no shorter than the 64 bytes of an Ethernet frame.
PRESUMED: the minimum is IEEE 802.3's. -/
def RxFrame.wf (f : RxFrame) : Bool := f.cap.wf && decide (1 ≤ f.bytes.length) && (!f.complete || decide (64 ≤ f.bytes.length))

/-- The walker names cells of the shared buffer only: 294,912 of them (09_switch_core.md, "The shared buffer"). -/
def AuditFinds.wf (f : AuditFinds) : Bool :=
  f.refCounts.all (fun c => decide (c.1 < 294912)) && f.freeUsed.all (fun c => decide (c < 294912)) &&
  f.crossed.all (fun c => decide (c.1 < 294912) && decide (c.2 < 294912))

/-- The number of entries of a table that can fail (R257). -/
def TableId.size : TableId → Nat | .fdb => 262144 | .vlan => 4096 | .stream => 16384

/-- A processor's MSG and RSP are 64 bytes (R373); a channel joins two parties. -/
def mboxWf (src dst : MboxParty) (bytes : List Byte) : Bool := decide (src ≠ dst) && decide (bytes.length ≤ 64)

/-- The commands that a sender may send. -/
def Instr.wf : Instr → Bool
  | .registerWrite r => r.wf
  | .ptpSyncReceived _ m c | .delayReqReceived _ m c => m.wf && c.wf
  | .pdelayReqReceived _ m c c' => m.wf && c.wf && c'.wf
  | .ptpFollowUpReceived _ m | .delayRespReceived _ m | .ptpSignalingReceived _ m _ => m.wf
  | .ptpAnnounceReceived _ m a => m.wf && a.wf
  | .pdelayRespReceived _ r => r.wf
  | .ptpSyncTransmit _ c | .delayReqTransmit _ c | .delayRefresh _ c | .frameCommit _ c => c.wf
  | .beatSample _ rx tx _ => decide (rx < 16384) && decide (tx < 16384)
  | .calibrationComplete _ r => r.wf
  | .frameReceived _ f => f.wf
  | .fdbBadOp op => decide (5 ≤ op.val)
  | .tableEntryError t e => decide (e.place.val < t.size)
  | .auditPass f => f.wf
  | .endpointReady speed width => decide (1 ≤ speed.val ∧ speed.val ≤ 4) && decide (width.val = 1 ∨ width.val = 4)
  | .mbxPost a b m => mboxWf a b m
  | .mbxAck a b _ r => mboxWf a b r
  | _ => true

end Sys2Proof
end

