-- ==== Sys2Proof/Tests/Slice0.lean ====
section
/-! SUPPORT. Tests: an ill-formed term that each check of WellFormed refuses, values of the worked examples of the spec, the
queue, and for the clauses of each statement a state and operands that meet their hypotheses. The helpers below build small
states from one module in operation. -/

namespace Sys2Proof.Tests
open Sys2Proof.Machine Sys2Proof.Safety
set_option Elab.async false

/-! ## Small states -/

def S (f : Fld) (v : Nat) (u : Nat) (s : State) : State := { s with dev := s.dev.set f v u }
def B (f : Fld) (b : Bool) (u : Nat) (s : State) : State := { s with dev := s.dev.setB f b u }
def D (f : Dev → Dev) (s : State) : State := { s with dev := f s.dev }
def OnCand (i : Nat) (f : Cand → Cand) : State → State := D (·.onCand i f)
def OnPort (i : Nat) (f : Port → Port) : State → State := D (·.onPort i f)
def OnPtu (i : Nat) (f : PtuPort → PtuPort) : State → State := D (·.onPtu i f)
def OnInst (i : Nat) (f : PtpInst → PtpInst) : State → State := D (·.onInst i f)
def OnTio (i : Nat) (f : Tio → Tio) : State → State := D (·.onTio i f)
def OnSyn (i : Nat) (f : Syn → Syn) : State → State := D (fun d => { d with syns := tabSet d.syns Syn.init i (f (tabGet d.syns Syn.init i)) })
def OnOut (i : Nat) (f : OutSt → OutSt) : State → State := D (fun d => { d with outs := tabSet d.outs OutSt.init i (f (tabGet d.outs OutSt.init i)) })
def OnChan (a b : Nat) (f : Chan → Chan) : State → State := D (fun d => { d with chans := tabSet d.chans Chan.init (a * 8 + b) (f (d.chan a b)) })
def OnTb (t : TbId) (f : Timebase → Timebase) : State → State := D (·.onTb t f)
def OnTwin (f : Twin → Twin) : State → State := D (·.onTwin f)
def OnMir (f : Mirrored → Mirrored) : State → State := D (·.onMir f)
def OnRsel (f : Rsel → Rsel) : State → State := D (·.onRsel f)
def OnSw (f : Switch → Switch) : State → State := D (·.onSw f)
def OnSys (f : Sys → Sys) : State → State := D (·.onSys f)
def OnPcie (f : Pcie → Pcie) : State → State := D (fun d => { d with pcie := f d.pcie })
def OnRing (f : Ring → Ring) : State → State := D (fun d => { d with ring := f d.ring })
def OnMail (f : CpMail → CpMail) : State → State := D (fun d => { d with cpMail := f d.cpMail })

/-- The registers of a list back at reset. -/
def Clr (l : List Reg) : State → State := D (fun d => { d with regs := d.regs.filter (fun e => !l.contains (Reg.ofNat (e.1 % 512))) })
/-- running module: stage OPERATIONAL, fast ON, A active, B ready, locked. -/
def run : State := State.reset |> OnSys (fun y => { y with powered := true, enabled := true }) |> S F.GLB_BOOT_STAT_STAGE 7 0 |>
  S F.PWR_STAT_FAST 2 0 |> OnTwin (fun w => { w with active := some .a }) |> S F.TB_ROLE_ROLE 5 0 |> S F.TB_ROLE_ROLE 4 1 |>
  OnMir (fun m => { m with state := .locked, everLocked := true }) |> OnPcie (fun p => { p with ready := true }) |>
  OnTb .a (fun t => { t with warm := true, osc := true, running := true, counter := 1000000000000000 }) |>
  OnTb .b (fun t => { t with warm := true, osc := true, running := true, counter := 1000000000000000 }) |>
  B F.GLB_HOST_STAT_LINK_UP true 0 |> S F.PWR_STAT_CP_CORES 4 0

/-- registers in force too -/
def AP (f : Fld) (v : Nat) (u : Nat) (s : State) : State :=
  { s with dev := { s.dev with applied := fileSet s.dev.applied f.reg u (putBits (fileGet s.dev.applied f.reg u) f.lo f.width v) } }
/-- register and in force -/
def SA (f : Fld) (v : Nat) (u : Nat) (s : State) : State := AP f v u (S f v u s)

/-! ## WellFormed refuses an ill-formed term for each check -/

theorem test_busWrite_data : Instr.wf (.registerWrite (BusWrite.round ⟨.host, 0, 0, 1, 0x100⟩)) = false := by decide
theorem test_busWrite_size : Instr.wf (.registerWrite (BusWrite.round ⟨.host, 0, 0, 9, 0⟩)) = false := by decide
theorem test_busWrite_good : Instr.wf (.registerWrite (BusWrite.round ⟨.host, 0, 4, 4, 7⟩)) = true := by decide
theorem test_busRead_size : Instr.wf (.registerWrite (BusRead.round ⟨.host, 2, 0, 4097⟩)) = false := by decide
theorem test_round_twice : Instr.wf (.registerWrite ⟨[.config .vendor, .read ⟨.host, 0, 0, 4⟩], []⟩) = false := by decide
theorem test_capture_phase : (Capture.mk 0 16384 0 0).wf = false := by decide
theorem test_capture_cdr : (Capture.mk 0 0 0 64).wf = false := by decide
theorem test_ptpMsg_seq : (PtpMsg.mk 0 0 65536 0 0 false).wf = false := by decide
theorem test_announce_class : (AnnounceData.mk 0 0 0 256 0 0 0 0 0 false false false false false).wf = false := by decide
theorem test_sync_bad : Instr.wf (.ptpSyncReceived 0 ⟨0, 65536, 0, 0, 0, false⟩ ⟨0, 0, 0, 0⟩) = false := by decide
theorem test_calibration_bins : (CalResult.mk [] [2 ^ 20 + 1]).wf = false := by decide
theorem test_calibration_taps : (CalResult.mk (List.replicate 769 ⟨true, 1⟩) []).wf = false := by decide +kernel
theorem test_frame_empty : (RxFrame.mk ⟨0, 0, 0, 0⟩ [] false).wf = false := by decide
theorem test_frame_short : (RxFrame.mk ⟨0, 0, 0, 0⟩ [1, 2, 3] true).wf = false := by decide
theorem test_audit_cell : (AuditFinds.mk [(294912, 1)] [] [] 0).wf = false := by decide
theorem test_beat_phase : Instr.wf (.beatSample 0 16384 0 false) = false := by decide
theorem test_badOp_known : Instr.wf (.fdbBadOp 4) = false := by decide
theorem test_table_index : Instr.wf (.tableEntryError .vlan ⟨4096, .corrected⟩) = false := by decide
theorem test_endpoint_width : Instr.wf (.endpointReady 1 2) = false := by decide
theorem test_mailbox_self : Instr.wf (.mbxPost .cp .cp []) = false := by decide
theorem test_mailbox_long : Instr.wf (.mbxAck .cp .fsp 0 (List.replicate 65 0)) = false := by decide

/-! ## The queue, and the table's words -/

theorem test_step_front : step { run with pending := [.romStage, .fastStop] } = exec .romStage { run with pending := [.fastStop] } := rfl
theorem test_step_idle : step run = .next run.tick := rfl
theorem test_no_bits : decodeTableWord 0 0 = none := by decide

/-! ## Worked examples of the spec -/

/-- 14_host_link_and_registers.md, "Worked example: reading a receive timestamp at N2": words D0 to D3 of the capture. -/
theorem test_capture_example :
    wordsOf ((run |> OnMir (fun m => { m with traceable := true, freqTrace := true, utcValid := true })).dev.stamp
      (1712000037 * secUnit + 412705 * 65536 + 46324)) = [0xB4F4049A, 0x00064C21, 0x660B0C25, 0] := by decide +kernel
/-- 05_synthesis_outputs.md, "Worked example: the outputs of N4": 682,795,881.5 ns reduced into half of 800 ns is -118.5 ns. -/
theorem test_misalign_example : reduceHalf 682795881500 800000 1 = -118500 := by decide +kernel
/-- The same example: SYN_FREQ_HI 0x3200 and SYN_FREQ_LO 0 are W = 50 * 2^40. -/
theorem test_synW_example : (run |> S F.SYN_FREQ_HI_W 0x3200 0 |> S F.SYN_FREQ_LO_W 0 10).dev.synW 0 = 50 * 2 ^ 40 := by decide +kernel
/-- The same example: OUT_PER_HI 0xE8 and OUT_PER_LO 0xD4A5_1000 are 10^12 ps. -/
theorem test_period_example : 0xE8 * 2 ^ 32 + 0xD4A51000 = 10 ^ 12 := by decide

/-- The check value of the CRC-8 with the polynomial x^8 + x^2 + x + 1, over the digits 1 to 9. -/
theorem test_crc8 : crc8 [0x31, 0x32, 0x33, 0x34, 0x35, 0x36, 0x37, 0x38, 0x39] = 0xF4 := by decide +kernel

/-! ## The hypotheses of the statements -/

def s_inputPowerCommands_1 : State := run |> OnSys (fun y => { y with enabled := true, powered := false })
def s_inputPowerCommands_2 : State := run |> OnSys (fun y => { y with tripped := false })
/-- Each clause of `InputPowerCommands` has a state and operands that meet its hypotheses. -/
theorem test_inputPowerCommands_hypotheses :
    (∃ (s : State), s.dev.sys.enabled = true ∧ s.dev.sys.powered = false) ∧
    (∃ (s : State), s.dev.sys.tripped = false) :=
  ⟨⟨s_inputPowerCommands_1, by decide +kernel⟩,
   ⟨s_inputPowerCommands_2, by decide +kernel⟩⟩

def s_startUpStages_1 : State := run |> OnSys (fun y => { y with powered := true, enabled := true })
    |> S F.GLB_BOOT_STAT_STAGE 0 0
def s_startUpStages_2 : State := run |> OnSys (fun y => { y with powered := true, enabled := true })
    |> S F.GLB_BOOT_STAT_STAGE 1 0
def s_startUpStages_3 : State := run |> OnSys (fun y => { y with powered := true, enabled := true })
    |> S F.GLB_BOOT_STAT_STAGE 2 0
def s_startUpStages_4 : State := run |> OnSys (fun y => { y with powered := true, enabled := true })
    |> S F.GLB_BOOT_STAT_STAGE 3 0
def s_startUpStages_5 : State := run |> OnSys (fun y => { y with powered := true, enabled := true })
/-- Each clause of `StartUpStages` has a state and operands that meet its hypotheses. -/
theorem test_startUpStages_hypotheses :
    (∃ (s : State), s.dev.sys.powered = true ∧ s.dev.sys.held = false ∧ s.dev.stage = 0) ∧
    (∃ (s : State), s.dev.stage = 1 ∧ s.onTrial = false) ∧
    (∃ (s : State), s.dev.stage = 2 ∧ s.onTrial = false) ∧
    (∃ (s : State), s.dev.stage = 3) ∧
    (∃ (s : State), s.dev.sys.powered = true) :=
  ⟨⟨s_startUpStages_1, by decide +kernel⟩,
   ⟨s_startUpStages_2, by decide +kernel⟩,
   ⟨s_startUpStages_3, by decide +kernel⟩,
   ⟨s_startUpStages_4, by decide +kernel⟩,
   ⟨s_startUpStages_5, by decide +kernel⟩⟩

def s_resetCommands_1 : State := run |> OnSys (fun y => { y with fullIn := none, updStep := 0 }) |> S F.PWR_STAT_FAST 2 0
    |> S F.UPD_STAT_STEP 0 0 |> S F.GLB_BOOT_STAT_STAGE 7 0
/-- Each clause of `ResetCommands` has a state and operands that meet its hypotheses. -/
theorem test_resetCommands_hypotheses :
    (∃ (s : State) (key : Byte), key.toNat = 0x5A ∧ s.dev.stage ≠ 0 ∧ s.dev.sys.fullIn = none) ∧
    (∃ (s : State) (key : Byte), key.toNat = 0x5A ∧ s.dev.stage ≠ 0 ∧ s.dev.sys.fullIn = none ∧ s.dev.fastOn = true ∧
      s.dev.updating = false ∧ s.onTrial = false) :=
  ⟨⟨s_resetCommands_1, 0x5A, by decide +kernel⟩,
   ⟨s_resetCommands_1, 0x5A, by decide +kernel⟩⟩

def s_resetCommandRefusals_1 : State := run |> S F.GLB_BOOT_STAT_STAGE 7 0 |> OnSys (fun y => { y with fullIn := none })
def s_resetCommandRefusals_2 : State := run |> S F.GLB_BOOT_STAT_STAGE 7 0 |> OnSys (fun y => { y with fullIn := none })
    |> S F.PWR_STAT_FAST 0 0 |> OnSys (fun y => { y with updStep := 0 })
def s_resetCommandRefusals_3 : State := run |> S F.GLB_BOOT_STAT_STAGE 7 0 |> OnSys (fun y => { y with fullIn := none })
    |> S F.PWR_STAT_FAST 2 0 |> OnSys (fun y => { y with updStep := 3 })
/-- Each clause of `ResetCommandRefusals` has a state and operands that meet its hypotheses. -/
theorem test_resetCommandRefusals_hypotheses :
    (∃ (s : State) (key : Byte) (good : Byte) (c : _), good.toNat = 0x5A ∧ s.dev.stage ≠ 0 ∧
      c ∈ [Instr.glbResetFull, .glbResetFast, .glbResetCp, .glbResetSmc] ∧ key.toNat ≠ 0x5A) ∧
    (∃ (s : State) (good : Byte) (c : _), good.toNat = 0x5A ∧ s.dev.stage ≠ 0 ∧
      c ∈ [Instr.glbResetFast, .glbResetCp, .glbResetSmc] ∧ s.dev.sys.fullIn = none ∧ s.dev.fastOn = false ∧
      s.dev.updating = false) ∧
    (∃ (s : State) (good : Byte) (c : _), good.toNat = 0x5A ∧ s.dev.stage ≠ 0 ∧
      c ∈ [Instr.glbResetFast, .glbResetCp, .glbResetSmc] ∧ s.dev.sys.fullIn = none ∧ s.dev.updating = true) :=
  ⟨⟨s_resetCommandRefusals_1, 0, 0x5A, (Instr.glbResetFull), by decide +kernel⟩,
   ⟨s_resetCommandRefusals_2, 0x5A, (Instr.glbResetFast), by decide +kernel⟩,
   ⟨s_resetCommandRefusals_3, 0x5A, (Instr.glbResetFast), by decide +kernel⟩⟩

def s_configurationCommands_1 : State := run |> S F.GLB_BOOT_STAT_STAGE 7 0
    |> OnSys (fun y => { y with cfgRun := none, updStep := 0 })
def s_configurationCommands_3 : State := run |> S F.GLB_BOOT_STAT_STAGE 7 0
    |> OnSys (fun y => { y with cfgRun := none, updStep := 0 }) |> S F.PWR_STAT_FAST 0 0
def s_configurationCommands_4 : State := run |> S F.GLB_BOOT_STAT_STAGE 7 0
    |> OnSys (fun y => { y with cfgRun := none, updStep := 0 }) |> OnSys (fun y => { y with cfgRun := some 0 })
/-- Each clause of `ConfigurationCommands` has a state and operands that meet its hypotheses. -/
theorem test_configurationCommands_hypotheses :
    (∃ (s : State), s.dev.stage ≠ 0 ∧ s.dev.sys.cfgRun = none) ∧
    (∃ (s : State), s.dev.stage ≠ 0 ∧ s.dev.sys.cfgRun = none ∧ s.dev.fast = 0 ∧ s.dev.updating = false) ∧
    (∃ (s : State) (r : _), s.dev.stage ≠ 0 ∧ s.dev.sys.cfgRun = some r) :=
  ⟨⟨s_configurationCommands_1, by decide +kernel⟩,
   ⟨s_configurationCommands_3, by decide +kernel⟩,
   ⟨s_configurationCommands_4, 0, by decide +kernel⟩⟩

def s_settingsRecordWrites_1 : State := run |> S F.GLB_BOOT_STAT_STAGE 7 0
def s_settingsRecordWrites_2 : State := run |> S F.GLB_BOOT_STAT_STAGE 7 0
    |> OnTb (if 0 % 2 = 0 then .a else .b) (fun t => { t with learnMs := 3600000 * 24, savedH := 0 })
    |> OnTb .b (fun t => { t with learnMs := 0, savedH := 0 })
def s_settingsRecordWrites_3 : State := run |> S F.GLB_BOOT_STAT_STAGE 7 0 |> B F.UPD_STAT_NVM_BUSY false 0
    |> B F.FIRN_REFRESH_STAT_RUNNING true 0 |> S F.FIRN_REFRESH_STAT_SECTORS_LEFT 2 0
/-- Each clause of `SettingsRecordWrites` has a state and operands that meet its hypotheses. -/
theorem test_settingsRecordWrites_hypotheses :
    (∃ (s : State), 2 ≤ s.dev.stage ∧ s.dev.stage ≠ 8) ∧
    (∃ (s : State), 2 ≤ s.dev.stage ∧ s.dev.stage ≠ 8 ∧ (s.dev.tbA.due = true ∨ s.dev.tbB.due = true)) ∧
    (∃ (s : State), 2 ≤ s.dev.stage ∧ s.dev.stage ≠ 8 ∧ s.dev.flag F.UPD_STAT_NVM_BUSY = false ∧
      s.dev.flag F.FIRN_REFRESH_STAT_RUNNING = true ∧ 2 ≤ s.dev.get F.FIRN_REFRESH_STAT_SECTORS_LEFT) :=
  ⟨⟨s_settingsRecordWrites_1, by decide +kernel⟩,
   ⟨s_settingsRecordWrites_2, by decide +kernel⟩,
   ⟨s_settingsRecordWrites_3, by decide +kernel⟩⟩

def s_timeCommandsAreTaken_1 : State := run |> S F.GLB_BOOT_STAT_STAGE 7 0
    |> S F.TB_ROLE_ROLE 5 (if 0 % 2 = 0 then TbId.a else TbId.b).num
    |> S F.TB_ROLE_ROLE 0 (if 0 % 2 = 0 then TbId.a else TbId.b).other.num
    |> OnTwin (fun w => { w with active := some (if 0 % 2 = 0 then TbId.a else TbId.b) }) |> B F.TB_HB_STAT_FROZEN false 0
    |> S F.TB_TCMD_ACCEPT_JUMP 0 0 |> S F.TB_TCMD_ACCEPT_JUMP 0 1 |> S F.TB_TCMD_TIME_SET 0 0 |> S F.TB_TCMD_TIME_SET 0 1
def s_timeCommandsAreTaken_5 : State := run |> S F.GLB_BOOT_STAT_STAGE 7 0
    |> S F.TB_ROLE_ROLE 5 (if 0 % 2 = 0 then TbId.a else TbId.b).num
    |> S F.TB_ROLE_ROLE 0 (if 0 % 2 = 0 then TbId.a else TbId.b).other.num
    |> OnTwin (fun w => { w with active := some (if 0 % 2 = 0 then TbId.a else TbId.b) }) |> B F.TB_HB_STAT_FROZEN false 0
    |> S F.TB_TCMD_ACCEPT_JUMP 0 0 |> S F.TB_TCMD_ACCEPT_JUMP 0 1 |> S F.TB_TCMD_TIME_SET 0 0 |> S F.TB_TCMD_TIME_SET 0 1
    |> D (fun d => { d with syns := [], outs := [], tio := [] })
    |> S F.TB_TCMD_ACCEPT_JUMP 1 (if 0 % 2 = 0 then TbId.a else TbId.b).num
    |> OnMir (fun m => { m with state := .jumpHeld, held := (0 : Nat) })
def s_timeCommandsAreTaken_6 : State := run |> S F.GLB_BOOT_STAT_STAGE 7 0
    |> S F.TB_ROLE_ROLE 5 (if 0 % 2 = 0 then TbId.a else TbId.b).num
    |> S F.TB_ROLE_ROLE 0 (if 0 % 2 = 0 then TbId.a else TbId.b).other.num
    |> OnTwin (fun w => { w with active := some (if 0 % 2 = 0 then TbId.a else TbId.b) }) |> B F.TB_HB_STAT_FROZEN false 0
    |> S F.TB_TCMD_ACCEPT_JUMP 0 0 |> S F.TB_TCMD_ACCEPT_JUMP 0 1 |> S F.TB_TCMD_TIME_SET 0 0 |> S F.TB_TCMD_TIME_SET 0 1
    |> D (fun d => { d with syns := [], outs := [], tio := [] })
    |> S F.TB_TCMD_TIME_SET 1 (if 0 % 2 = 0 then TbId.a else TbId.b).num |> OnMir (fun m => { m with state := .freerun })
    |> D (fun d => d.setWord .TB_TSET1 (if 0 % 2 = 0 then TbId.a else TbId.b).num 5)
def v_timeCommandsAreTaken_6_x : Ticks := (ticksOf (s_timeCommandsAreTaken_6.dev.word .TB_TSET0 (if 0 % 2 = 0 then TbId.a else TbId.b).num) (s_timeCommandsAreTaken_6.dev.word .TB_TSET1 (if 0 % 2 = 0 then TbId.a else TbId.b).num) (s_timeCommandsAreTaken_6.dev.word .TB_TSET2 (if 0 % 2 = 0 then TbId.a else TbId.b).num) (s_timeCommandsAreTaken_6.dev.word .TB_TSET3 (if 0 % 2 = 0 then TbId.a else TbId.b).num)).getD 0
/-- Each clause of `TimeCommandsAreTaken` has a state and operands that meet its hypotheses. -/
theorem test_timeCommandsAreTaken_hypotheses :
    (∃ (s : State) (t : TbId), s.dev.twin.active = some t ∧ s.dev.suspect = none ∧ s.dev.firnReach = true ∧
      s.dev.tcmdWaiting = 0) ∧
    (∃ (s : State) (t : TbId), s.dev.twin.active = some t ∧ s.dev.suspect = none ∧ s.dev.firnReach = true) ∧
    (∃ (s : State) (t : TbId), s.dev.twin.active = some t ∧ s.dev.suspect = none ∧ s.dev.pendingWork = false ∧
      s.dev.tcmdWaiting = 1 ∧ s.dev.mir.state = .jumpHeld ∧ 0 ≤ ((s.dev.tb t).counter : Int) + s.dev.mir.held) ∧
    (∃ (s : State) (t : TbId) (x : Ticks), s.dev.twin.active = some t ∧ s.dev.suspect = none ∧ s.dev.pendingWork = false ∧
      s.dev.tcmdWaiting = 2 ∧ s.dev.mir.state = .freerun ∧
      ticksOf (s.dev.word .TB_TSET0 t.num) (s.dev.word .TB_TSET1 t.num) (s.dev.word .TB_TSET2 t.num) (s.dev.word .TB_TSET3 t.num) = some x) :=
  ⟨⟨s_timeCommandsAreTaken_1, (if 0 % 2 = 0 then TbId.a else TbId.b), by decide +kernel⟩,
   ⟨s_timeCommandsAreTaken_1, (if 0 % 2 = 0 then TbId.a else TbId.b), by decide +kernel⟩,
   ⟨s_timeCommandsAreTaken_5, (if 0 % 2 = 0 then TbId.a else TbId.b), by decide +kernel⟩,
   ⟨s_timeCommandsAreTaken_6, (if 0 % 2 = 0 then TbId.a else TbId.b), v_timeCommandsAreTaken_6_x, by decide +kernel⟩⟩

def s_leapSecondAndModelRestart_1 : State := run |> S F.GLB_BOOT_STAT_STAGE 7 0
    |> S F.TB_ROLE_ROLE 5 (if 0 % 2 = 0 then TbId.a else TbId.b).num
    |> S F.TB_ROLE_ROLE 0 (if 0 % 2 = 0 then TbId.a else TbId.b).other.num
    |> OnTwin (fun w => { w with active := some (if 0 % 2 = 0 then TbId.a else TbId.b) }) |> B F.TB_HB_STAT_FROZEN false 0
    |> S F.TB_TCMD_ACCEPT_JUMP 0 0 |> S F.TB_TCMD_ACCEPT_JUMP 0 1 |> S F.TB_TCMD_TIME_SET 0 0 |> S F.TB_TCMD_TIME_SET 0 1
    |> OnMir (fun m => { m with leap61 := true })
def s_leapSecondAndModelRestart_2 : State := run |> S F.GLB_BOOT_STAT_STAGE 7 0
    |> S F.TB_ROLE_ROLE 5 (if 0 % 2 = 0 then TbId.a else TbId.b).num
    |> S F.TB_ROLE_ROLE 0 (if 0 % 2 = 0 then TbId.a else TbId.b).other.num
    |> OnTwin (fun w => { w with active := some (if 0 % 2 = 0 then TbId.a else TbId.b) }) |> B F.TB_HB_STAT_FROZEN false 0
    |> S F.TB_TCMD_ACCEPT_JUMP 0 0 |> S F.TB_TCMD_ACCEPT_JUMP 0 1 |> S F.TB_TCMD_TIME_SET 0 0 |> S F.TB_TCMD_TIME_SET 0 1
    |> OnMir (fun m => { m with leap61 := false, leap59 := true })
def s_leapSecondAndModelRestart_3 : State := run |> S F.GLB_BOOT_STAT_STAGE 7 0
    |> S F.TB_ROLE_ROLE 5 (if 0 % 2 = 0 then TbId.a else TbId.b).num
    |> S F.TB_ROLE_ROLE 0 (if 0 % 2 = 0 then TbId.a else TbId.b).other.num
    |> OnTwin (fun w => { w with active := some (if 0 % 2 = 0 then TbId.a else TbId.b) }) |> B F.TB_HB_STAT_FROZEN false 0
    |> S F.TB_TCMD_ACCEPT_JUMP 0 0 |> S F.TB_TCMD_ACCEPT_JUMP 0 1 |> S F.TB_TCMD_TIME_SET 0 0 |> S F.TB_TCMD_TIME_SET 0 1
def s_leapSecondAndModelRestart_4 : State := run |> S F.GLB_BOOT_STAT_STAGE 7 0
    |> S F.TB_ROLE_ROLE 5 (if 0 % 2 = 0 then TbId.a else TbId.b).num
    |> S F.TB_ROLE_ROLE 0 (if 0 % 2 = 0 then TbId.a else TbId.b).other.num
    |> OnTwin (fun w => { w with active := some (if 0 % 2 = 0 then TbId.a else TbId.b) }) |> B F.TB_HB_STAT_FROZEN false 0
    |> S F.TB_TCMD_ACCEPT_JUMP 0 0 |> S F.TB_TCMD_ACCEPT_JUMP 0 1 |> S F.TB_TCMD_TIME_SET 0 0 |> S F.TB_TCMD_TIME_SET 0 1
    |> B F.TB_MODEL_CMD_RESTART true (if 0 % 2 = 0 then TbId.a else TbId.b).num
    |> OnMir (fun m => { m with state := .locked })
def s_leapSecondAndModelRestart_5 : State := run |> S F.GLB_BOOT_STAT_STAGE 7 0
    |> S F.TB_ROLE_ROLE 5 (if 0 % 2 = 0 then TbId.a else TbId.b).num
    |> S F.TB_ROLE_ROLE 0 (if 0 % 2 = 0 then TbId.a else TbId.b).other.num
    |> OnTwin (fun w => { w with active := some (if 0 % 2 = 0 then TbId.a else TbId.b) }) |> B F.TB_HB_STAT_FROZEN false 0
    |> S F.TB_TCMD_ACCEPT_JUMP 0 0 |> S F.TB_TCMD_ACCEPT_JUMP 0 1 |> S F.TB_TCMD_TIME_SET 0 0 |> S F.TB_TCMD_TIME_SET 0 1
    |> B F.TB_MODEL_CMD_RESTART true (if 0 % 2 = 0 then TbId.a else TbId.b).num
    |> OnMir (fun m => { m with state := if 0 % 2 = 0 then .holdover else .jumpHeld })
/-- Each clause of `LeapSecondAndModelRestart` has a state and operands that meet its hypotheses. -/
theorem test_leapSecondAndModelRestart_hypotheses :
    (∃ (s : State), s.dev.mir.leap61 = true) ∧
    (∃ (s : State), s.dev.mir.leap61 = false ∧ s.dev.mir.leap59 = true) ∧
    (∃ (s : State), s.dev.firnReach = true) ∧
    (∃ (s : State) (t : TbId), s.dev.flag F.TB_MODEL_CMD_RESTART t.num = true ∧ s.dev.mir.state ≠ .holdover ∧
      s.dev.mir.state ≠ .jumpHeld) ∧
    (∃ (s : State) (t : TbId), s.dev.flag F.TB_MODEL_CMD_RESTART t.num = true ∧
      (s.dev.mir.state = .holdover ∨ s.dev.mir.state = .jumpHeld)) :=
  ⟨⟨s_leapSecondAndModelRestart_1, by decide +kernel⟩,
   ⟨s_leapSecondAndModelRestart_2, by decide +kernel⟩,
   ⟨s_leapSecondAndModelRestart_3, by decide +kernel⟩,
   ⟨s_leapSecondAndModelRestart_4, (if 0 % 2 = 0 then TbId.a else TbId.b), by decide +kernel⟩,
   ⟨s_leapSecondAndModelRestart_5, (if 0 % 2 = 0 then TbId.a else TbId.b), by decide +kernel⟩⟩

def s_waitToRestoreEnds_1 : State := run |> S F.GLB_BOOT_STAT_STAGE 7 0 |> B F.RSEL_SEL_WTR_RUN true 0
    |> S F.RSEL_SEL_WTR_ID 0 0 |> S F.RSEL_SEL_SELECTED 1 0 |> SA F.RSEL_CFG_REVERTIVE 1 0 |> SA F.RSEL_CMD_PIN 0 0
    |> SA F.RSEL_PRIO_ID 0 0 |> SA F.RSEL_PRIO_RANK 1 0 |> SA F.RSEL_PRIO_ID 1 1 |> SA F.RSEL_PRIO_RANK 2 1
    |> SA F.RSEL_PRIO_ID 2 2 |> SA F.RSEL_PRIO_RANK 3 2 |> SA F.RSEL_PRIO_ID 3 3 |> SA F.RSEL_PRIO_RANK 4 3
    |> SA F.RSEL_PRIO_RANK 0 4 |> SA F.RSEL_PRIO_RANK 0 5 |> SA F.RSEL_PRIO_RANK 0 6 |> SA F.RSEL_PRIO_RANK 0 7
    |> SA F.RSEL_PRIO_RANK 0 8 |> SA F.RSEL_PRIO_RANK 0 9 |> SA F.RSEL_PRIO_RANK 0 10 |> SA F.RSEL_PRIO_RANK 0 11
    |> SA F.RSEL_PRIO_RANK 0 12 |> SA F.RSEL_PRIO_RANK 0 13 |> SA F.RSEL_PRIO_RANK 0 14 |> SA F.RSEL_PRIO_RANK 0 15
    |> S F.RSEL_REFIN_CFG_FMT 1 0 |> SA F.RSEL_REFIN_CFG_TOD 0 0 |> B F.RSEL_CAND_STAT_QUALIFIED true 0
    |> B F.RSEL_CAND_STAT_BARRED false 0 |> S F.RSEL_REFIN_CFG_FMT 1 1 |> SA F.RSEL_REFIN_CFG_TOD 0 1
    |> B F.RSEL_CAND_STAT_QUALIFIED true 1 |> B F.RSEL_CAND_STAT_BARRED false 1 |> S F.RSEL_REFIN_CFG_FMT 1 2
    |> SA F.RSEL_REFIN_CFG_TOD 0 2 |> B F.RSEL_CAND_STAT_QUALIFIED true 2 |> B F.RSEL_CAND_STAT_BARRED false 2
    |> S F.RSEL_REFIN_CFG_FMT 1 3 |> SA F.RSEL_REFIN_CFG_TOD 0 3 |> B F.RSEL_CAND_STAT_QUALIFIED true 3
    |> B F.RSEL_CAND_STAT_BARRED false 3 |> OnMir (fun m => { m with state := .locked })
/-- Each clause of `WaitToRestoreEnds` has a state and operands that meet its hypotheses. -/
theorem test_waitToRestoreEnds_hypotheses :
    (∃ (s : State) (w : Nat) (rw : Nat) (sel : Nat) (rs : Nat), s.dev.flag F.RSEL_SEL_WTR_RUN = true ∧
      s.dev.get F.RSEL_SEL_WTR_ID = w ∧ s.dev.get F.RSEL_SEL_SELECTED = sel ∧
      s.dev.inForceFlag F.RSEL_CFG_REVERTIVE = true ∧ s.dev.inForceFlag F.RSEL_CMD_PIN = false ∧ (w, rw) ∈ s.dev.eligible ∧
      (sel, rs) ∈ s.dev.eligible ∧ rw < rs ∧ (∀ e ∈ s.dev.eligible, rw ≤ e.2) ∧ (s.dev.kindOf w).timeCapable = true ∧
      (s.dev.kindOf sel).timeCapable = true) ∧
    (∃ (s : State) (w : Nat) (rw : Nat) (sel : Nat) (rs : Nat), s.dev.flag F.RSEL_SEL_WTR_RUN = true ∧
      s.dev.get F.RSEL_SEL_WTR_ID = w ∧ s.dev.get F.RSEL_SEL_SELECTED = sel ∧
      s.dev.inForceFlag F.RSEL_CFG_REVERTIVE = true ∧ s.dev.inForceFlag F.RSEL_CMD_PIN = false ∧ (w, rw) ∈ s.dev.eligible ∧
      (sel, rs) ∈ s.dev.eligible ∧ rw < rs ∧ (∀ e ∈ s.dev.eligible, rw ≤ e.2) ∧ (s.dev.kindOf w).timeCapable = true ∧
      (s.dev.kindOf sel).timeCapable = true ∧ s.dev.firnReach = true) :=
  ⟨⟨s_waitToRestoreEnds_1, 0, 1, 1, 2, by decide +kernel⟩,
   ⟨s_waitToRestoreEnds_1, 0, 1, 1, 2, by decide +kernel⟩⟩

def s_activityMonitors_1 : State := run |> S F.GLB_BOOT_STAT_STAGE 7 0 |> S F.RSEL_REFIN_CFG_FMT 1 0
    |> B F.RSEL_CAND_STAT_ACTIVE true 0 |> OnRsel (fun x => { x with awaitEdge := false })
    |> OnCand 0 (fun c => { c with retired := false, lastEdge := some (3 * secUnit), recent := [] })
def v_activityMonitors_1_pin : Ticks := (s_activityMonitors_1.dev.cableEdge (Fin.ofNat 4 0).val (s_activityMonitors_1.dev.refinTime (Fin.ofNat 4 0).val (⟨2500000000, Fin.ofNat 640 0⟩ : RefinEdge)) : Ticks)
def s_activityMonitors_2 : State := run |> S F.GLB_BOOT_STAT_STAGE 7 0 |> S F.RSEL_REFIN_CFG_FMT 1 0
    |> B F.RSEL_CAND_STAT_ACTIVE true 0 |> OnCand 0 (fun c => { c with misses := 0 })
def s_activityMonitors_3 : State := run |> S F.GLB_BOOT_STAT_STAGE 7 0 |> S F.RSEL_REFIN_CFG_FMT 1 0
    |> B F.RSEL_CAND_STAT_ACTIVE true 0 |> OnCand 0 (fun c => { c with misses := 1 })
def s_activityMonitors_4 : State := run |> S F.GLB_BOOT_STAT_STAGE 7 0 |> S F.RSEL_REFIN_CFG_FMT 2 0
    |> B F.RSEL_CAND_STAT_ACTIVE true 0
/-- Each clause of `ActivityMonitors` has a state and operands that meet its hypotheses. -/
theorem test_activityMonitors_hypotheses :
    (∃ (s : State) (n : RefinId) (x : RefinEdge) (pin : Ticks) (l : Ticks), pin = s.dev.cableEdge n.val (s.dev.refinTime n.val x) ∧
      s.dev.refinFmt n.val = 1 ∧ s.dev.anyActive = true ∧ (s.dev.cand n.val).retired = false ∧
      s.dev.flag F.RSEL_CAND_STAT_ACTIVE n.val = true ∧ s.dev.rsel.awaitEdge = false ∧
      (s.dev.cand n.val).lastEdge = some l ∧ ((s.dev.cand n.val).recent.filter (fun t => pin < t + secUnit)).length < 2 ∧
      (pin - l + 10000 * nsUnit) % secUnit ≤ 2 * (10000 * nsUnit) ∧ l + secUnit ≤ pin + 10000 * nsUnit) ∧
    (∃ (s : State) (n : RefinId), s.dev.refinFmt n.val = 1 ∧ s.dev.flag F.RSEL_CAND_STAT_ACTIVE n.val = true ∧
      (s.dev.cand n.val).misses = 0) ∧
    (∃ (s : State) (n : RefinId), s.dev.refinFmt n.val = 1 ∧ s.dev.flag F.RSEL_CAND_STAT_ACTIVE n.val = true ∧
      (s.dev.cand n.val).misses = 1) ∧
    (∃ (s : State) (n : RefinId), s.dev.kindOf n.val = .freq ∧ s.dev.flag F.RSEL_CAND_STAT_ACTIVE n.val = true) :=
  ⟨⟨s_activityMonitors_1, 0, (⟨2500000000, Fin.ofNat 640 0⟩ : RefinEdge), v_activityMonitors_1_pin, (3 * secUnit : Ticks), by decide +kernel⟩,
   ⟨s_activityMonitors_2, 0, by decide +kernel⟩,
   ⟨s_activityMonitors_3, 0, by decide +kernel⟩,
   ⟨s_activityMonitors_4, 0, by decide +kernel⟩⟩

def s_todinMessages_1 : State := run |> S F.GLB_BOOT_STAT_STAGE 7 0 |> S F.RSEL_REFIN_CFG_FMT 0 0
    |> S F.RSEL_REFIN_CFG_FMT 0 1 |> S F.RSEL_REFIN_CFG_FMT 0 2 |> S F.RSEL_REFIN_CFG_FMT 0 3 |> S F.RSEL_REFIN_CFG_FMT 1 0
    |> S F.RSEL_REFIN_CFG_TOD 1 0 |> OnCand 0 (fun c => { c with lastSec := if 0 % 2 = 0 then none else some 99 })
def s_todinMessages_2 : State := run |> S F.GLB_BOOT_STAT_STAGE 7 0 |> S F.RSEL_REFIN_CFG_FMT 1 0
    |> S F.RSEL_REFIN_CFG_TOD 1 0 |> B F.RSEL_CAND_STAT_QUALIFIED true 0
/-- Each clause of `TodinMessages` has a state and operands that meet its hypotheses. -/
theorem test_todinMessages_hypotheses :
    (∃ (s : State) (line : Fin 2) (n : RefinId) (b : List Byte) (us : Nat), s.dev.anyActive = true ∧
      (List.range 4).find? (fun n => s.dev.refinFmt n == 1 && s.dev.refinTod n == line.val + 1) = some n.val ∧
      b.length = 19 ∧ byteAt b 0 = 0xC7 ∧ byteAt b 1 = 1 ∧ beNat (slice b 15 4) = crc32c (b.take 15) ∧ 10000 ≤ us ∧
      us ≤ 800000 ∧ (((s.dev.cand n.val).lastSec = none ∨ (s.dev.cand n.val).lastSec = some (beNat (slice b 3 6) - 1) ∧
      0 < beNat (slice b 3 6))) ∧ bitAt (byteAt b 11) 5 = true) ∧
    (∃ (s : State) (n : RefinId), s.dev.kindOf n.val = .ppsTod ∧ s.dev.flag F.RSEL_CAND_STAT_QUALIFIED n.val = true) :=
  ⟨⟨s_todinMessages_1, 0, 0, (let b : List Byte := ([0xC7, 1, 7] ++ beBytes 6 100 ++ beBytes 2 37 ++ [BitVec.ofNat 8 (0x20 + 0), 0x21, 0x10, 0]) ; b ++ beBytes 4 (crc32c b)), 20000, by decide +kernel⟩,
   ⟨s_todinMessages_2, 0, by decide +kernel⟩⟩

def s_qualificationOfCandidates_1 : State := run |> S F.GLB_BOOT_STAT_STAGE 7 0
    |> OnCand 0 (fun c => { c with retired := false }) |> S F.RSEL_REFIN_CFG_FMT 1 0 |> B F.RSEL_CAND_STAT_ACTIVE true 0
    |> B F.RSEL_CAND_STAT_QUALIFIED false 0
def s_qualificationOfCandidates_2 : State := run |> S F.GLB_BOOT_STAT_STAGE 7 0
    |> OnCand 36 (fun c => { c with retired := false })
def s_qualificationOfCandidates_3 : State := run |> S F.GLB_BOOT_STAT_STAGE 7 0
    |> OnCand 0 (fun c => { c with retired := false, qualS := 5000, todCount := 2, notOutvoted := none })
    |> S F.RSEL_REFIN_CFG_FMT 1 0 |> B F.RSEL_CAND_STAT_ACTIVE true 0 |> B F.RSEL_CAND_STAT_QUALIFIED false 0
def s_qualificationOfCandidates_4 : State := run |> S F.GLB_BOOT_STAT_STAGE 7 0 |> S F.RSEL_REFIN_CFG_FMT 0 0
def s_qualificationOfCandidates_7 : State := run |> S F.GLB_BOOT_STAT_STAGE 7 0
def s_qualificationOfCandidates_8 : State := run |> S F.GLB_BOOT_STAT_STAGE 7 0 |> B F.RSEL_CMD_CLEAR_BARS true 0
/-- Each clause of `QualificationOfCandidates` has a state and operands that meet its hypotheses. -/
theorem test_qualificationOfCandidates_hypotheses :
    (∃ (s : State) (i : CandId) (f : Int), i.val ≠ 36 ∧ (s.dev.cand i.val).retired = false ∧ s.dev.anyActive = true ∧
      s.dev.monitored i.val = true ∧ s.dev.flag F.RSEL_CAND_STAT_ACTIVE i.val = true ∧
      s.dev.flag F.RSEL_CAND_STAT_QUALIFIED i.val = false ∧ f.natAbs ≤ s.dev.inForce F.RSEL_LIMITS_ACCEPT * 10000000 ∧
      f.natAbs ≤ s.dev.inForce F.RSEL_LIMITS_REJECT * 10000000) ∧
    (∃ (s : State), (s.dev.cand 36).retired = false ∧ s.dev.anyActive = true) ∧
    (∃ (s : State) (m : Fin 36), ((s.dev.small = true → m.val < 20)) ∧
      s.dev.flag F.RSEL_CAND_STAT_QUALIFIED m.val = false ∧ (s.dev.cand m.val).retired = false ∧
      s.dev.flag F.RSEL_CAND_STAT_ACTIVE m.val = true ∧ s.dev.inForce F.RSEL_CFG_QUAL_TIME ≤ (s.dev.cand m.val).qualS ∧
      s.dev.kindOf m.val ≠ .own ∧ ((s.dev.kindOf m.val = .ppsTod → 2 ≤ (s.dev.cand m.val).todCount)) ∧
      (s.dev.cand m.val).notOutvoted = none) ∧
    (∃ (s : State) (n : RefinId) (v : Word), s.dev.firnReach = true ∧
      bitsOf v.toNat 0 3 ≠ s.dev.get F.RSEL_REFIN_CFG_FMT n.val) ∧
    (∃ (s : State), s.dev.firnReach = true) ∧
    (∃ (s : State), s.dev.flag F.RSEL_CMD_CLEAR_BARS = true) :=
  ⟨⟨s_qualificationOfCandidates_1, 0, (0 - 1000 : Int), by decide +kernel⟩,
   ⟨s_qualificationOfCandidates_2, by decide +kernel⟩,
   ⟨s_qualificationOfCandidates_3, 0, by decide +kernel⟩,
   ⟨s_qualificationOfCandidates_4, 0, 1, by decide +kernel⟩,
   ⟨s_qualificationOfCandidates_7, by decide +kernel⟩,
   ⟨s_qualificationOfCandidates_8, by decide +kernel⟩⟩

def s_standbyRoles_1 : State := run |> S F.GLB_BOOT_STAT_STAGE 7 0 |> B F.TB_HB_STAT_FROZEN false 0
    |> OnTwin (fun w => { w with active := some (if 0 % 2 = 0 then TbId.a else TbId.b), relocking := false, handover := none })
    |> S F.TB_ROLE_ROLE 5 (if 0 % 2 = 0 then TbId.a else TbId.b).num |> OnSys (fun y => { y with updStep := 0 })
    |> S F.TB_ROLE_ROLE 2 (if 0 % 2 = 0 then TbId.b else TbId.a).num
def s_standbyRoles_2 : State := run |> S F.GLB_BOOT_STAT_STAGE 7 0 |> B F.TB_HB_STAT_FROZEN false 0
    |> OnTwin (fun w => { w with active := some (if 0 % 2 = 0 then TbId.a else TbId.b), relocking := false, handover := none })
    |> S F.TB_ROLE_ROLE 5 (if 0 % 2 = 0 then TbId.a else TbId.b).num |> OnSys (fun y => { y with updStep := 0 })
    |> S F.TB_ROLE_ROLE 2 (if 0 % 2 = 0 then TbId.b else TbId.a).num
    |> OnTb (if 0 % 2 = 0 then TbId.b else TbId.a) (fun b => { b with running := true })
def s_standbyRoles_3 : State := run |> S F.GLB_BOOT_STAT_STAGE 7 0 |> B F.TB_HB_STAT_FROZEN false 0
    |> OnTwin (fun w => { w with active := some (if 0 % 2 = 0 then TbId.a else TbId.b), relocking := false, handover := none })
    |> S F.TB_ROLE_ROLE 5 (if 0 % 2 = 0 then TbId.a else TbId.b).num |> OnSys (fun y => { y with updStep := 0 })
    |> S F.TB_ROLE_ROLE 3 (if 0 % 2 = 0 then TbId.b else TbId.a).num |> OnTwin (fun w => { w with verified := true })
def s_standbyRoles_4 : State := run |> S F.GLB_BOOT_STAT_STAGE 7 0 |> B F.TB_HB_STAT_FROZEN false 0
    |> OnTwin (fun w => { w with active := some (if 0 % 2 = 0 then TbId.a else TbId.b), relocking := false, handover := none })
    |> S F.TB_ROLE_ROLE 5 (if 0 % 2 = 0 then TbId.a else TbId.b).num |> OnSys (fun y => { y with updStep := 0 })
    |> S F.TB_ROLE_ROLE 3 (if 0 % 2 = 0 then TbId.b else TbId.a).num
def s_standbyRoles_5 : State := run |> S F.GLB_BOOT_STAT_STAGE 7 0 |> B F.TB_HB_STAT_FROZEN false 0
    |> OnTwin (fun w => { w with active := some (if 0 % 2 = 0 then TbId.a else TbId.b), relocking := false, handover := none })
    |> S F.TB_ROLE_ROLE 5 (if 0 % 2 = 0 then TbId.a else TbId.b).num |> OnSys (fun y => { y with updStep := 0 })
    |> S F.TB_ROLE_ROLE 4 (if 0 % 2 = 0 then TbId.b else TbId.a).num |> OnTwin (fun w => { w with verFails := 2 })
def s_standbyRoles_6 : State := run |> S F.GLB_BOOT_STAT_STAGE 7 0 |> B F.TB_HB_STAT_FROZEN false 0
    |> OnTwin (fun w => { w with active := some (if 0 % 2 = 0 then TbId.a else TbId.b), relocking := false, handover := none })
    |> S F.TB_ROLE_ROLE 5 (if 0 % 2 = 0 then TbId.a else TbId.b).num |> OnSys (fun y => { y with updStep := 0 })
    |> S F.TB_ROLE_ROLE 1 (if 0 % 2 = 0 then TbId.b else TbId.a).num
def s_standbyRoles_7 : State := run |> S F.GLB_BOOT_STAT_STAGE 7 0 |> B F.TB_HB_STAT_FROZEN false 0
    |> OnTwin (fun w => { w with active := some (if 0 % 2 = 0 then TbId.a else TbId.b), relocking := false, handover := none })
    |> S F.TB_ROLE_ROLE 5 (if 0 % 2 = 0 then TbId.a else TbId.b).num |> OnSys (fun y => { y with updStep := 0 })
    |> S F.TB_ROLE_ROLE 0 (if 0 % 2 = 0 then TbId.b else TbId.a).num |> OnTb .a (fun b => { b with warm := true })
    |> OnTb .b (fun b => { b with warm := true })
/-- Each clause of `StandbyRoles` has a state and operands that meet its hypotheses. -/
theorem test_standbyRoles_hypotheses :
    (∃ (s : State) (o : TbId), s.dev.standby = some o ∧ s.dev.frozen = false ∧ s.dev.role o = 2) ∧
    (∃ (s : State) (x : Int) (o : TbId), s.dev.standby = some o ∧ s.dev.frozen = false ∧ s.dev.role o = 2 ∧
      (s.dev.tb o).running = true ∧ withinPs x 100 = true) ∧
    (∃ (s : State) (x : Int) (o : TbId), s.dev.standby = some o ∧ s.dev.frozen = false ∧ s.dev.role o = 3 ∧
      withinPs x 20 = true ∧ s.dev.twin.verified = true) ∧
    (∃ (s : State) (x : Int) (o : TbId), s.dev.standby = some o ∧ s.dev.frozen = false ∧
      (s.dev.role o = 3 ∨ s.dev.role o = 4) ∧ withinPs x 1000 = false) ∧
    (∃ (s : State) (x : Int) (o : TbId), s.dev.standby = some o ∧ s.dev.frozen = false ∧ s.dev.role o = 4 ∧
      withinPs x 1000 = true ∧ (withinPs x 20 = false ∨ 2 ≤ s.dev.twin.verFails)) ∧
    (∃ (s : State) (o : TbId), s.dev.standby = some o ∧ s.dev.frozen = false ∧ s.dev.liveStandby = some o) ∧
    (∃ (s : State) (o : TbId), s.dev.standby = some o ∧ s.dev.frozen = false ∧ s.dev.tbA.warm = true ∧
      s.dev.tbB.warm = true ∧ s.dev.role .a ≠ 4 ∧ s.dev.role .b ≠ 4) :=
  ⟨⟨s_standbyRoles_1, (if 0 % 2 = 0 then TbId.b else TbId.a), by decide +kernel⟩,
   ⟨s_standbyRoles_2, (0 - 6 : Int), (if 0 % 2 = 0 then TbId.b else TbId.a), by decide +kernel⟩,
   ⟨s_standbyRoles_3, (0 - 1 : Int), (if 0 % 2 = 0 then TbId.b else TbId.a), by decide +kernel⟩,
   ⟨s_standbyRoles_4, (0 + 70000 : Int), (if 0 % 2 = 0 then TbId.b else TbId.a), by decide +kernel⟩,
   ⟨s_standbyRoles_5, (0 - 62 * 1 : Int), (if 0 % 2 = 0 then TbId.b else TbId.a), by decide +kernel⟩,
   ⟨s_standbyRoles_6, (if 0 % 2 = 0 then TbId.b else TbId.a), by decide +kernel⟩,
   ⟨s_standbyRoles_7, (if 0 % 2 = 0 then TbId.b else TbId.a), by decide +kernel⟩⟩

def s_standbyOffAndOn_1 : State := run |> S F.GLB_BOOT_STAT_STAGE 7 0 |> B F.TB_HB_STAT_FROZEN false 0
    |> OnTwin (fun w => { w with active := some (if 0 % 2 = 0 then TbId.a else TbId.b), relocking := false, handover := none })
    |> S F.TB_ROLE_ROLE 5 (if 0 % 2 = 0 then TbId.a else TbId.b).num |> OnSys (fun y => { y with updStep := 0 })
    |> S F.TB_ROLE_ROLE 1 (if 0 % 2 = 0 then TbId.b else TbId.a).num
def s_standbyOffAndOn_2 : State := run |> S F.GLB_BOOT_STAT_STAGE 7 0 |> B F.TB_HB_STAT_FROZEN false 0
    |> OnTwin (fun w => { w with active := some (if 0 % 2 = 0 then TbId.a else TbId.b), relocking := false, handover := none })
    |> S F.TB_ROLE_ROLE 5 (if 0 % 2 = 0 then TbId.a else TbId.b).num |> OnSys (fun y => { y with updStep := 0 })
    |> S F.TB_ROLE_ROLE 0 (if 0 % 2 = 0 then TbId.b else TbId.a).num
def s_standbyOffAndOn_3 : State := run |> S F.GLB_BOOT_STAT_STAGE 7 0 |> B F.TB_HB_STAT_FROZEN false 0
    |> OnTwin (fun w => { w with active := some (if 0 % 2 = 0 then TbId.a else TbId.b), relocking := false, handover := none })
    |> S F.TB_ROLE_ROLE 5 (if 0 % 2 = 0 then TbId.a else TbId.b).num |> OnSys (fun y => { y with updStep := 0 })
    |> S F.TB_ROLE_ROLE 6 (if 0 % 2 = 0 then TbId.b else TbId.a).num
/-- Each clause of `StandbyOffAndOn` has a state and operands that meet its hypotheses. -/
theorem test_standbyOffAndOn_hypotheses :
    (∃ (s : State) (o : TbId), s.dev.firnReach = true ∧ s.dev.twinBusy = false ∧ s.dev.liveStandby = some o) ∧
    (∃ (s : State) (o : TbId), s.dev.firnReach = true ∧ s.dev.twinBusy = false ∧ s.dev.standby = some o ∧ s.dev.role o = 0) ∧
    (∃ (s : State) (o : TbId), s.dev.firnReach = true ∧ s.dev.twinBusy = false ∧ s.dev.standby = some o ∧ s.dev.role o = 6) :=
  ⟨⟨s_standbyOffAndOn_1, (if 0 % 2 = 0 then TbId.b else TbId.a), by decide +kernel⟩,
   ⟨s_standbyOffAndOn_2, (if 0 % 2 = 0 then TbId.b else TbId.a), by decide +kernel⟩,
   ⟨s_standbyOffAndOn_3, (if 0 % 2 = 0 then TbId.b else TbId.a), by decide +kernel⟩⟩

def s_heartbeats_1 : State := run |> S F.GLB_BOOT_STAT_STAGE 7 0 |> B F.TB_HB_STAT_FROZEN false 0
    |> OnTwin (fun w => { w with active := some (if 0 % 2 = 0 then TbId.a else TbId.b), relocking := false, handover := none })
    |> S F.TB_ROLE_ROLE 5 (if 0 % 2 = 0 then TbId.a else TbId.b).num |> OnSys (fun y => { y with updStep := 0 })
    |> OnTwin (fun w => { w with beatsOff := false })
def s_heartbeats_3 : State := run |> S F.GLB_BOOT_STAT_STAGE 7 0 |> B F.TB_HB_STAT_FROZEN false 0
    |> OnTwin (fun w => { w with active := some (if 0 % 2 = 0 then TbId.a else TbId.b), relocking := false, handover := none })
    |> S F.TB_ROLE_ROLE 5 (if 0 % 2 = 0 then TbId.a else TbId.b).num |> OnSys (fun y => { y with updStep := 0 })
def s_heartbeats_6 : State := run |> S F.GLB_BOOT_STAT_STAGE 7 0 |> B F.TB_HB_STAT_FROZEN false 0
    |> OnTwin (fun w => { w with active := some (if 0 % 2 = 0 then TbId.a else TbId.b), relocking := false, handover := none })
    |> S F.TB_ROLE_ROLE 5 (if 0 % 2 = 0 then TbId.a else TbId.b).num |> OnSys (fun y => { y with updStep := 0 })
    |> S F.TB_ROLE_ROLE 3 (if 0 % 2 = 0 then TbId.b else TbId.a).num
def s_heartbeats_7 : State := run |> S F.GLB_BOOT_STAT_STAGE 7 0 |> B F.TB_HB_STAT_FROZEN false 0
    |> OnTwin (fun w => { w with active := some (if 0 % 2 = 0 then TbId.a else TbId.b), relocking := false, handover := none })
    |> S F.TB_ROLE_ROLE 5 (if 0 % 2 = 0 then TbId.a else TbId.b).num |> OnSys (fun y => { y with updStep := 0 })
    |> B F.TB_HB_STAT_FROZEN true 0 |> S F.TB_ROLE_ROLE 7 (if 0 % 2 = 0 then TbId.a else TbId.b).num
    |> S F.TB_ROLE_ROLE 5 (if 0 % 2 = 0 then TbId.b else TbId.a).num
    |> OnTwin (fun w => { w with active := some (if 0 % 2 = 0 then TbId.b else TbId.a), preFreeze := 3 })
/-- Each clause of `Heartbeats` has a state and operands that meet its hypotheses. -/
theorem test_heartbeats_hypotheses :
    (∃ (s : State), s.dev.anyActive = true ∧ s.dev.twin.beatsOff = false) ∧
    (∃ (s : State), s.dev.anyActive = true ∧ s.dev.frozen = false ∧ s.dev.twin.relocking = false) ∧
    (∃ (s : State) (a : _), s.dev.anyActive = true ∧ s.dev.frozen = false ∧ s.dev.twin.relocking = false ∧
      s.dev.twin.active = some a ∧ (s.dev.role a.other = 3 ∨ s.dev.role a.other = 4)) ∧
    (∃ (s : State) (a : TbId), s.dev.anyActive = true ∧ s.dev.frozen = true ∧ s.dev.twin.relocking = false ∧
      s.dev.suspect = some a) :=
  ⟨⟨s_heartbeats_1, by decide +kernel⟩,
   ⟨s_heartbeats_3, by decide +kernel⟩,
   ⟨s_heartbeats_6, (if 0 % 2 = 0 then TbId.a else TbId.b), by decide +kernel⟩,
   ⟨s_heartbeats_7, (if 0 % 2 = 0 then TbId.a else TbId.b), by decide +kernel⟩⟩

def s_mirrorAndTakeover_1 : State := run |> S F.GLB_BOOT_STAT_STAGE 7 0 |> B F.TB_HB_STAT_FROZEN false 0
    |> OnTwin (fun w => { w with active := some (if 0 % 2 = 0 then TbId.a else TbId.b), relocking := false, handover := none })
    |> S F.TB_ROLE_ROLE 5 (if 0 % 2 = 0 then TbId.a else TbId.b).num |> OnSys (fun y => { y with updStep := 0 })
    |> S F.TB_ROLE_ROLE 1 (if 0 % 2 = 0 then TbId.b else TbId.a).num
def s_mirrorAndTakeover_2 : State := run |> S F.GLB_BOOT_STAT_STAGE 7 0 |> B F.TB_HB_STAT_FROZEN false 0
    |> OnTwin (fun w => { w with active := some (if 0 % 2 = 0 then TbId.a else TbId.b), relocking := false, handover := none })
    |> S F.TB_ROLE_ROLE 5 (if 0 % 2 = 0 then TbId.a else TbId.b).num |> OnSys (fun y => { y with updStep := 0 })
    |> B F.TB_HB_STAT_FROZEN true 0
    |> OnTwin (fun w => { w with bufs := [⟨5, 3, Mirrored.init⟩, ⟨4, 1, Mirrored.init⟩], journal := [⟨2, Mirrored.init⟩, ⟨3, { Mirrored.init with integ := 7 }⟩, ⟨4, Mirrored.init⟩] ++ (if 0 % 2 = 0 then [⟨6, Mirrored.init⟩] else []) })
def s_mirrorAndTakeover_3 : State := run |> S F.GLB_BOOT_STAT_STAGE 7 0 |> B F.TB_HB_STAT_FROZEN false 0
    |> OnTwin (fun w => { w with active := some (if 0 % 2 = 0 then TbId.a else TbId.b), relocking := false, handover := none })
    |> S F.TB_ROLE_ROLE 5 (if 0 % 2 = 0 then TbId.a else TbId.b).num |> OnSys (fun y => { y with updStep := 0 })
    |> B F.TB_HB_STAT_FROZEN true 0
def s_mirrorAndTakeover_4 : State := run |> S F.GLB_BOOT_STAT_STAGE 7 0 |> B F.TB_HB_STAT_FROZEN false 0
    |> OnTwin (fun w => { w with active := some (if 0 % 2 = 0 then TbId.a else TbId.b), relocking := false, handover := none })
    |> S F.TB_ROLE_ROLE 5 (if 0 % 2 = 0 then TbId.a else TbId.b).num |> OnSys (fun y => { y with updStep := 0 })
    |> B F.TB_HB_STAT_FROZEN true 0 |> S F.TB_HB_STAT_LINE_MISS 4 0 |> S F.TB_HB_STAT_MEM_MISS 5 0
    |> S F.TB_ROLE_ROLE 7 (if 0 % 2 = 0 then TbId.a else TbId.b).num
    |> S F.TB_ROLE_ROLE 5 (if 0 % 2 = 0 then TbId.b else TbId.a).num
    |> OnTwin (fun w => { w with active := some (if 0 % 2 = 0 then TbId.b else TbId.a), mirrorBad := 0 == 0, scratch := some (Mirrored.init, 3, 0) })
def s_mirrorAndTakeover_5 : State := run |> S F.GLB_BOOT_STAT_STAGE 7 0 |> B F.TB_HB_STAT_FROZEN false 0
    |> OnTwin (fun w => { w with active := some (if 0 % 2 = 0 then TbId.a else TbId.b), relocking := false, handover := none })
    |> S F.TB_ROLE_ROLE 5 (if 0 % 2 = 0 then TbId.a else TbId.b).num |> OnSys (fun y => { y with updStep := 0 })
    |> B F.TB_HB_STAT_FROZEN true 0 |> S F.TB_HB_STAT_LINE_MISS 4 0 |> S F.TB_HB_STAT_MEM_MISS 5 0
    |> S F.TB_ROLE_ROLE 0 (if 0 % 2 = 0 then TbId.b else TbId.a).num
/-- Each clause of `MirrorAndTakeover` has a state and operands that meet its hypotheses. -/
theorem test_mirrorAndTakeover_hypotheses :
    (∃ (s : State), s.dev.liveStandby ≠ none ∧ s.dev.frozen = false) ∧
    (∃ (s : State) (c : _) (rest : _) (n : _), s.dev.frozen = true ∧ s.dev.twin.bufs = c :: rest ∧
      (s.dev.twin.journal.filter (fun e => c.upTo ≤ e.seq)).length ≤ n) ∧
    (∃ (s : State), s.dev.frozen = true) ∧
    (∃ (s : State) (a : _), s.dev.frozen = true ∧ 4 ≤ s.dev.get F.TB_HB_STAT_LINE_MISS ∧
      4 ≤ s.dev.get F.TB_HB_STAT_MEM_MISS ∧ s.dev.twin.relocking = false ∧ s.dev.suspect = some a) ∧
    (∃ (s : State) (a : _), s.dev.frozen = true ∧ 4 ≤ s.dev.get F.TB_HB_STAT_LINE_MISS ∧
      4 ≤ s.dev.get F.TB_HB_STAT_MEM_MISS ∧ s.dev.twin.relocking = false ∧ s.dev.suspect = none ∧
      s.dev.twin.active = some a) :=
  ⟨⟨s_mirrorAndTakeover_1, by decide +kernel⟩,
   ⟨s_mirrorAndTakeover_2, ⟨5, 3, Mirrored.init⟩, [⟨4, 1, Mirrored.init⟩], 5, by decide +kernel⟩,
   ⟨s_mirrorAndTakeover_3, by decide +kernel⟩,
   ⟨s_mirrorAndTakeover_4, (if 0 % 2 = 0 then TbId.a else TbId.b), by decide +kernel⟩,
   ⟨s_mirrorAndTakeover_5, (if 0 % 2 = 0 then TbId.a else TbId.b), by decide +kernel⟩⟩

def s_handovers_1 : State := run |> S F.GLB_BOOT_STAT_STAGE 7 0 |> B F.TB_HB_STAT_FROZEN false 0
    |> OnTwin (fun w => { w with active := some (if 0 % 2 = 0 then TbId.a else TbId.b), relocking := false, handover := none })
    |> S F.TB_ROLE_ROLE 5 (if 0 % 2 = 0 then TbId.a else TbId.b).num |> OnSys (fun y => { y with updStep := 0 })
    |> S F.TB_ROLE_ROLE 4 (if 0 % 2 = 0 then TbId.b else TbId.a).num
    |> OnTwin (fun w => { w with xs := List.replicate 1000 0 }) |> SA F.TB_TWIN_CFG_HANDOVER_WIN 20 0
    |> SA F.TB_TWIN_CFG_PIN 0 0
    |> OnSys (fun y => { y with images := List.replicate 4 ⟨1, 1, [(0,9),(0,9),(0,9),(0,9)]⟩, tbpB := none })
def s_handovers_2 : State := run |> S F.GLB_BOOT_STAT_STAGE 7 0 |> B F.TB_HB_STAT_FROZEN false 0
    |> OnTwin (fun w => { w with active := some (if 0 % 2 = 0 then TbId.a else TbId.b), relocking := false, handover := none })
    |> S F.TB_ROLE_ROLE 5 (if 0 % 2 = 0 then TbId.a else TbId.b).num |> OnSys (fun y => { y with updStep := 0 })
    |> S F.TB_ROLE_ROLE 4 (if 0 % 2 = 0 then TbId.b else TbId.a).num
    |> OnTwin (fun w => { w with xs := List.replicate 1000 0 }) |> SA F.TB_TWIN_CFG_HANDOVER_WIN 20 0
    |> SA F.TB_TWIN_CFG_PIN 0 0
    |> OnSys (fun y => { y with images := List.replicate 4 ⟨1, 1, [(0,9),(0,9),(0,9),(0,9)]⟩, tbpB := none })
    |> OnTwin (fun w => { w with handover := some 0 })
def s_handovers_3 : State := run |> S F.GLB_BOOT_STAT_STAGE 7 0 |> B F.TB_HB_STAT_FROZEN false 0
    |> OnTwin (fun w => { w with active := some (if 0 % 2 = 0 then TbId.a else TbId.b), relocking := false, handover := none })
    |> S F.TB_ROLE_ROLE 5 (if 0 % 2 = 0 then TbId.a else TbId.b).num |> OnSys (fun y => { y with updStep := 0 })
    |> S F.TB_ROLE_ROLE 4 (if 0 % 2 = 0 then TbId.b else TbId.a).num |> OnTwin (fun w => { w with revMs := some 5 })
/-- Each clause of `Handovers` has a state and operands that meet its hypotheses. -/
theorem test_handovers_hypotheses :
    (∃ (s : State) (a : TbId), s.dev.twin.active = some a ∧ s.dev.frozen = false ∧ s.dev.firnReach = true ∧
      s.dev.twinBusy = false ∧ s.dev.inForceFlag F.TB_TWIN_CFG_PIN = false ∧ s.dev.role a.other = 4 ∧
      s.dev.winHeld = true ∧ s.dev.ifTakes = true) ∧
    (∃ (s : State) (a : TbId) (cause : _), s.dev.twin.active = some a ∧ s.dev.frozen = false ∧ cause < 4 ∧
      s.dev.twin.handover = some cause ∧ s.dev.role a.other = 4) ∧
    (∃ (s : State) (a : TbId), s.dev.twin.active = some a ∧ s.dev.frozen = false ∧ s.dev.twin.revMs ≠ none) :=
  ⟨⟨s_handovers_1, (if 0 % 2 = 0 then TbId.a else TbId.b), by decide +kernel⟩,
   ⟨s_handovers_2, (if 0 % 2 = 0 then TbId.a else TbId.b), 0, by decide +kernel⟩,
   ⟨s_handovers_3, (if 0 % 2 = 0 then TbId.a else TbId.b), by decide +kernel⟩⟩

def s_synthesizerRegisters_1 : State := run |> S F.GLB_BOOT_STAT_STAGE 7 0
def s_synthesizerRegisters_6 : State := run |> S F.GLB_BOOT_STAT_STAGE 7 0
    |> OnTwin (fun w => { w with active := some .a }) |> B F.TB_HB_STAT_FROZEN false 0 |> B F.SYN_STAT_RETIRED false 0
    |> S F.SYN_CFG_BANK_SEL 0 0 |> S F.SYN_BAND_W0_F_LO 0 0 |> B F.SYN_BAND_W0_VALID true 0
    |> S F.SYN_BAND_W1_F_HI 8388607 0 |> B F.OUT_CFG_EN true 0 |> S F.OUT_CFG_FMT 1 0
/-- Each clause of `SynthesizerRegisters` has a state and operands that meet its hypotheses. -/
theorem test_synthesizerRegisters_hypotheses :
    (∃ (s : State) (i : SynId), s.dev.firnReach = true ∧ ((s.dev.small = true → i.val ≠ 7 ∧ i.val ≠ 8))) ∧
    (∃ (s : State) (i : SynId), s.dev.firnReach = true ∧ ((s.dev.small = true → i.val ≠ 7 ∧ i.val ≠ 8)) ∧ i.val < 4) ∧
    (∃ (s : State) (i : SynId), s.dev.firnReach = true ∧ ((s.dev.small = true → i.val ≠ 7 ∧ i.val ≠ 8)) ∧ 4 ≤ i.val) ∧
    (∃ (s : State) (i : SynId) (e : Nat), s.dev.firnReach = true ∧ ((s.dev.small = true → i.val ≠ 7 ∧ i.val ≠ 8)) ∧
      i.val < 4 ∧ s.dev.synRetired i.val = false ∧ s.dev.osynWanted i.val = true ∧ s.dev.anyActive = true ∧
      s.dev.frozen = false ∧ s.dev.bandSearch i.val (s.dev.synW i.val) = some e) :=
  ⟨⟨s_synthesizerRegisters_1, 0, by decide +kernel⟩,
   ⟨s_synthesizerRegisters_1, 0, by decide +kernel⟩,
   ⟨s_synthesizerRegisters_1, 4, by decide +kernel⟩,
   ⟨s_synthesizerRegisters_6, 0, ((s_synthesizerRegisters_6.dev.bandSearch (Fin.ofNat 10 0).val (s_synthesizerRegisters_6.dev.synW (Fin.ofNat 10 0).val)).getD 0), by decide +kernel⟩⟩

def s_synthesizerLock_1 : State := run |> B F.SYN_STAT_FROZEN false 0 |> B F.SYN_STAT_ACQUIRING true 0
    |> OnSyn 0 (fun s => { s with rejoins := false })
def s_synthesizerLock_2 : State := run |> B F.SYN_STAT_FROZEN false 0 |> B F.SYN_STAT_ACQUIRING true 0
    |> OnSyn 0 (fun s => { s with runs := true })
def s_synthesizerLock_3 : State := run |> B F.SYN_STAT_FROZEN false 0 |> B F.SYN_STAT_LOCKED true 0
    |> OnSyn 0 (fun s => { s with runs := true, wroteAt := some 1000000000000000 })
def s_synthesizerLock_4 : State := run |> B F.SYN_STAT_FROZEN false 0 |> B F.SYN_STAT_LOCKED true 0
    |> OnSyn 0 (fun s => { s with runs := true, wroteAt := some 5 })
/-- Each clause of `SynthesizerLock` has a state and operands that meet its hypotheses. -/
theorem test_synthesizerLock_hypotheses :
    (∃ (s : State) (i : SynId), s.dev.flag F.SYN_STAT_FROZEN i.val = false ∧ s.dev.flag F.SYN_STAT_ACQUIRING i.val = true ∧
      (s.dev.syn i.val).rejoins = false) ∧
    (∃ (s : State) (i : SynId), s.dev.flag F.SYN_STAT_FROZEN i.val = false ∧ s.dev.flag F.SYN_STAT_ACQUIRING i.val = true) ∧
    (∃ (s : State) (i : SynId) (w : Ticks), s.dev.flag F.SYN_STAT_FROZEN i.val = false ∧ s.dev.synLocked i.val = true ∧
      (s.dev.syn i.val).wroteAt = some w ∧ s.dev.now ≤ w + 2000000 * nsUnit) ∧
    (∃ (s : State) (i : SynId), s.dev.flag F.SYN_STAT_FROZEN i.val = false ∧ s.dev.synLocked i.val = true ∧
      ((∀ (w : Ticks), (s.dev.syn i.val).wroteAt = some w → w + 2000000 * nsUnit < s.dev.now))) :=
  ⟨⟨s_synthesizerLock_1, 0, by decide +kernel⟩,
   ⟨s_synthesizerLock_2, 0, by decide +kernel⟩,
   ⟨s_synthesizerLock_3, 0, 1000000000000000, by decide +kernel⟩,
   ⟨s_synthesizerLock_4, 0, by decide +kernel⟩⟩

def s_phaseSteps_1 : State := run |> S F.GLB_BOOT_STAT_STAGE 7 0 |> B F.SYN_STAT_LOCKED true 0
    |> OnSyn 0 (fun s => { s with runs := true, step := none, wUse := 0x2400 * 2 ^ 32 })
def s_phaseSteps_2 : State := run |> S F.GLB_BOOT_STAT_STAGE 7 0 |> B F.SYN_STAT_LOCKED true 0
    |> OnSyn 0 (fun s => { s with runs := true, step := none, wUse := 0x2400 * 2 ^ 32 })
    |> OnMir (fun m => { m with state := .locked }) |> D (fun d => d.setWord .SYN_STEP_T1 0 5)
    |> D (fun d => d.setWord .SYN_STEP_T2 0 900000)
def v_phaseSteps_2_T : Ticks := (ticksOf (s_phaseSteps_2.dev.word .SYN_STEP_T0 (Fin.ofNat 10 0).val) (s_phaseSteps_2.dev.word .SYN_STEP_T1 (Fin.ofNat 10 0).val) (s_phaseSteps_2.dev.word .SYN_STEP_T2 (Fin.ofNat 10 0).val) (s_phaseSteps_2.dev.word .SYN_STEP_T3 (Fin.ofNat 10 0).val)).getD 0
def s_phaseSteps_3 : State := run |> S F.GLB_BOOT_STAT_STAGE 7 0 |> B F.SYN_STAT_LOCKED true 0
    |> OnSyn 0 (fun s => { s with runs := true, step := none, wUse := 0x2400 * 2 ^ 32 })
    |> OnMir (fun m => { m with state := .locked }) |> B F.OUT_CFG_EN true 0 |> S F.OUT_CFG_FMT 1 0 |> S F.OUT_CFG_MODE 0 0
    |> OnOut 0 (fun o => { o with started := 0 == 1, anchor := 0 })
def s_phaseSteps_4 : State := run |> S F.GLB_BOOT_STAT_STAGE 7 0
    |> OnSyn 0 (fun s => { s with step := some (⟨(0 : Nat), 0, (0 : Nat), 0 == 1, 0 == 1⟩ : PhaseStep) })
def s_phaseSteps_5 : State := run |> S F.GLB_BOOT_STAT_STAGE 7 0
    |> OnSyn 0 (fun s => { s with step := some (⟨(0 : Nat), 0, (0 : Nat), false, 0 == 1⟩ : PhaseStep) })
def s_phaseSteps_6 : State := run |> S F.GLB_BOOT_STAT_STAGE 7 0
    |> OnSyn 0 (fun s => { s with step := some (⟨(0 : Nat), 0, (0 : Nat), true, false⟩ : PhaseStep) })
def s_phaseSteps_7 : State := run |> S F.GLB_BOOT_STAT_STAGE 7 0
    |> OnSyn 0 (fun s => { s with step := some (⟨(0 : Nat), 0, (0 : Nat), true, true⟩ : PhaseStep) })
/-- Each clause of `PhaseSteps` has a state and operands that meet its hypotheses. -/
theorem test_phaseSteps_hypotheses :
    (∃ (s : State) (i : SynId), s.dev.firnReach = true ∧ i.val < 4 ∧ s.dev.synLocked i.val = true ∧
      (s.dev.syn i.val).step = none) ∧
    (∃ (s : State) (i : SynId) (T : Ticks), s.dev.firnReach = true ∧ i.val < 4 ∧ s.dev.synLocked i.val = true ∧
      (s.dev.syn i.val).step = none ∧ s.dev.mir.state ≠ .unset ∧
      ticksOf (s.dev.word .SYN_STEP_T0 i.val) (s.dev.word .SYN_STEP_T1 i.val) (s.dev.word .SYN_STEP_T2 i.val) (s.dev.word .SYN_STEP_T3 i.val) = some T ∧
      s.dev.now + 100000 * nsUnit ≤ T) ∧
    (∃ (s : State) (i : SynId) (n : Nat), s.dev.firnReach = true ∧ i.val < 4 ∧ s.dev.synLocked i.val = true ∧
      (s.dev.syn i.val).step = none ∧ n = 2 * i.val ∧ s.dev.mir.state ≠ .unset ∧ s.dev.moved n = true ∧
      (s.dev.misalign n).natAbs ≤ 1000000 * 65536) ∧
    (∃ (s : State) (i : SynId) (p : PhaseStep), s.dev.firnReach = true ∧ i.val < 4 ∧ (s.dev.syn i.val).step = some p) ∧
    (∃ (s : State) (i : SynId) (p : PhaseStep), s.dev.firnReach = true ∧ i.val < 4 ∧ (s.dev.syn i.val).step = some p ∧
      p.runs = false) ∧
    (∃ (s : State) (i : SynId) (p : PhaseStep), s.dev.firnReach = true ∧ i.val < 4 ∧ (s.dev.syn i.val).step = some p ∧
      p.runs = true ∧ p.resync = false) ∧
    (∃ (s : State) (i : SynId) (p : PhaseStep), s.dev.firnReach = true ∧ i.val < 4 ∧ (s.dev.syn i.val).step = some p ∧
      p.runs = true ∧ p.resync = true) :=
  ⟨⟨s_phaseSteps_1, 0, by decide +kernel⟩,
   ⟨s_phaseSteps_2, 0, v_phaseSteps_2_T, by decide +kernel⟩,
   ⟨s_phaseSteps_3, 0, (2 * (Fin.ofNat 10 0).val : Nat), by decide +kernel⟩,
   ⟨s_phaseSteps_4, 0, (⟨(0 : Nat), 0, (0 : Nat), 0 == 1, 0 == 1⟩ : PhaseStep), by decide +kernel⟩,
   ⟨s_phaseSteps_5, 0, (⟨(0 : Nat), 0, (0 : Nat), false, 0 == 1⟩ : PhaseStep), by decide +kernel⟩,
   ⟨s_phaseSteps_6, 0, (⟨(0 : Nat), 0, (0 : Nat), true, false⟩ : PhaseStep), by decide +kernel⟩,
   ⟨s_phaseSteps_7, 0, (⟨(0 : Nat), 0, (0 : Nat), true, true⟩ : PhaseStep), by decide +kernel⟩⟩

def s_outputRegisters_1 : State := run |> S F.GLB_BOOT_STAT_STAGE 7 0 |> S F.OUT_CFG_MODE 0 (sibling 0)
    |> S F.SYN_FREQ_HI_W 0x2000 0
def s_outputRegisters_3 : State := run |> S F.GLB_BOOT_STAT_STAGE 7 0
/-- Each clause of `OutputRegisters` has a state and operands that meet its hypotheses. -/
theorem test_outputRegisters_hypotheses :
    (∃ (s : State) (n : OutId) (v : Word), s.dev.firnReach = true ∧ bitsOf v.toNat 1 3 < 5 ∧ bitsOf v.toNat 4 2 < 3 ∧
      s.dev.outAllowed n.val (bitsOf v.toNat 1 3) (bitsOf v.toNat 4 2) (max 2 (bitsOf v.toNat 16 16)) (s.dev.outMode (sibling n.val)) = true ∧
      ((s.dev.outMode (sibling n.val) = 2 → bitsOf v.toNat 4 2 = 0))) ∧
    (∃ (s : State) (n : OutId) (v : Word), s.dev.firnReach = true ∧ bitsOf v.toNat 1 3 < 5 ∧ bitsOf v.toNat 4 2 < 3 ∧
      s.dev.outAllowed n.val (bitsOf v.toNat 1 3) (bitsOf v.toNat 4 2) (max 2 (bitsOf v.toNat 16 16)) (s.dev.outMode (sibling n.val)) = false) ∧
    (∃ (s : State), s.dev.firnReach = true) ∧
    (∃ (s : State), s.dev.firnReach = true ∧ s.dev.small = false) :=
  ⟨⟨s_outputRegisters_1, 0, 0, by decide +kernel⟩,
   ⟨s_outputRegisters_1, 0, (BitVec.ofNat 32 (0 + 2 * 1 + 0)), by decide +kernel⟩,
   ⟨s_outputRegisters_3, by decide +kernel⟩,
   ⟨s_outputRegisters_3, by decide +kernel⟩⟩

def s_outputEdges_1 : State := run |> S F.GLB_BOOT_STAT_STAGE 7 0 |> B F.OUT_CFG_EN true 0 |> S F.OUT_CFG_FMT 1 0
    |> B F.SYN_STAT_LOCKED false 0 |> B F.OUT_CFG_ALLOW_UNLOCKED false 0 |> OnOut 0 (fun o => { o with due := some 0 })
def s_outputEdges_2 : State := run |> S F.GLB_BOOT_STAT_STAGE 7 0 |> B F.OUT_CFG_EN true 0 |> S F.OUT_CFG_FMT 1 0
    |> B F.SYN_STAT_LOCKED true 0 |> B F.OUT_CFG_ALLOW_UNLOCKED false 0
    |> OnOut 0 (fun o => { o with due := some 0, alignAt := none })
def s_outputEdges_3 : State := run |> S F.GLB_BOOT_STAT_STAGE 7 0 |> B F.OUT_CFG_EN true 0 |> S F.OUT_CFG_FMT 1 0
    |> S F.OUT_CFG_MODE 1 0 |> B F.SYN_STAT_LOCKED true 0 |> B F.OUT_CFG_ALLOW_UNLOCKED false 0
    |> OnOut 0 (fun o => { o with alignAt := some 0 })
def s_outputEdges_4 : State := run |> S F.GLB_BOOT_STAT_STAGE 7 0 |> B F.OUT_CFG_EN true 0 |> S F.OUT_CFG_FMT 1 0
    |> B F.SYN_STAT_LOCKED false 0 |> B F.OUT_CFG_ALLOW_UNLOCKED false 0 |> OnOut 0 (fun o => { o with alignAt := some 0 })
def s_outputEdges_5 : State := run |> S F.GLB_BOOT_STAT_STAGE 7 0 |> B F.OUT_CFG_EN true 0 |> S F.OUT_CFG_FMT 1 0
    |> S F.OUT_CFG_MODE 1 0 |> OnMir (fun m => { m with state := .locked }) |> B F.OUT_STAT_ARMED false 0
    |> OnOut 0 (fun o => { o with started := true, alignAt := none, period := 0 })
def s_outputEdges_6 : State := run |> S F.GLB_BOOT_STAT_STAGE 7 0 |> B F.OUT_CFG_EN true 0 |> S F.OUT_CFG_FMT 1 0
    |> S F.OUT_CFG_MODE 1 0 |> B F.OUT_STAT_ARMED false 0 |> S F.OUT_ALIGN_SRC 1 0 |> S F.OUT_ALIGN_TIO_CH 3 0
    |> B F.TIO_CFG_EN true 3 |> S F.TIO_CFG_MODE 0 3
def s_outputEdges_7 : State := run |> S F.GLB_BOOT_STAT_STAGE 7 0 |> B F.OUT_CFG_EN true 0 |> S F.OUT_CFG_FMT 1 0
/-- Each clause of `OutputEdges` has a state and operands that meet its hypotheses. -/
theorem test_outputEdges_hypotheses :
    (∃ (s : State) (n : OutId) (e : Int), s.dev.outEn n.val = true ∧ (s.dev.out n.val).due = some e ∧
      s.dev.mayDrive n.val = false) ∧
    (∃ (s : State) (n : OutId) (e : Int), s.dev.outEn n.val = true ∧ (s.dev.out n.val).due = some e ∧
      s.dev.mayDrive n.val = true ∧ s.dev.suppressed n.val e = false) ∧
    (∃ (s : State) (n : OutId) (e : Int), s.dev.outEn n.val = true ∧ (s.dev.out n.val).alignAt = some e ∧
      s.dev.mayDrive n.val = true ∧ s.dev.outMode n.val = 1) ∧
    (∃ (s : State) (n : OutId) (e : Int), s.dev.outEn n.val = true ∧ (s.dev.out n.val).alignAt = some e ∧
      s.dev.mayDrive n.val = false) ∧
    (∃ (s : State) (n : OutId), s.dev.outEn n.val = true ∧ s.dev.firnReach = true ∧ s.dev.outMode n.val = 1 ∧
      s.dev.flag F.OUT_STAT_ARMED n.val = false ∧ s.dev.mir.state ≠ .unset ∧ (s.dev.out n.val).started = true ∧
      (s.dev.out n.val).alignAt = none) ∧
    (∃ (s : State) (n : OutId), s.dev.outEn n.val = true ∧ s.dev.firnReach = true ∧ s.dev.outMode n.val = 1 ∧
      s.dev.flag F.OUT_STAT_ARMED n.val = false ∧ s.dev.get F.OUT_ALIGN_SRC n.val = 1 ∧
      s.dev.tioTimestamps (s.dev.get F.OUT_ALIGN_TIO_CH n.val) = true) ∧
    (∃ (s : State) (n : OutId), s.dev.outEn n.val = true ∧ s.dev.firnReach = true) :=
  ⟨⟨s_outputEdges_1, 0, 0, by decide +kernel⟩,
   ⟨s_outputEdges_2, 0, 0, by decide +kernel⟩,
   ⟨s_outputEdges_3, 0, 0, by decide +kernel⟩,
   ⟨s_outputEdges_4, 0, 0, by decide +kernel⟩,
   ⟨s_outputEdges_5, 0, by decide +kernel⟩,
   ⟨s_outputEdges_6, 0, by decide +kernel⟩,
   ⟨s_outputEdges_7, 0, by decide +kernel⟩⟩

def s_bringUp_1 : State := run |> S F.LANE_QUAD_STAT_PHASE 1 0
def s_bringUp_5 : State := run |> S F.LANE_QUAD_STAT_PHASE 6 0
/-- Each clause of `BringUp` has a state and operands that meet its hypotheses. -/
theorem test_bringUp_hypotheses :
    (∃ (s : State) (p : PortId) (lat : LatMeas) (ph : Nat), s.dev.get F.LANE_QUAD_STAT_PHASE p.val = ph ∧ 1 ≤ ph ∧ ph ≤ 5 ∧
      ((ph = 5 → lat.agree = true))) ∧
    (∃ (s : State) (p : PortId), s.dev.bringing p.val = true) ∧
    (∃ (s : State) (p : PortId), s.dev.get F.LANE_QUAD_STAT_PHASE p.val = 6) :=
  ⟨⟨s_bringUp_1, 0, (⟨0, 0, true⟩ : LatMeas), 1, by decide +kernel⟩,
   ⟨s_bringUp_1, 0, by decide +kernel⟩,
   ⟨s_bringUp_5, 0, by decide +kernel⟩⟩

def s_linkDown_1 : State := run |> D (fun d => { d with ident := { d.ident with variant := 2 } }) |> S F.PWR_STAT_FAST 2 0
    |> B F.LANE_QUAD_STAT_LINK_UP true 0 |> S F.LANE_QUAD_CFG_MODE 2 0 |> S F.GLB_BOOT_STAT_STAGE 7 0
    |> S F.LANE_QUAD_STAT_RX_SLEEP 0 0
def s_linkDown_3 : State := run |> D (fun d => { d with ident := { d.ident with variant := 2 } }) |> S F.PWR_STAT_FAST 2 0
    |> B F.LANE_QUAD_STAT_LINK_UP true 0 |> S F.LANE_QUAD_CFG_MODE 2 0 |> S F.GLB_BOOT_STAT_STAGE 7 0
    |> S F.LANE_QUAD_CFG_MODE 3 0
def s_linkDown_5 : State := run |> D (fun d => { d with ident := { d.ident with variant := 2 } }) |> S F.PWR_STAT_FAST 2 0
    |> B F.LANE_QUAD_STAT_LINK_UP true 0 |> S F.LANE_QUAD_CFG_MODE 2 0 |> S F.GLB_BOOT_STAT_STAGE 7 0
    |> S F.LANE_QUAD_CFG_MODE 1 0
def s_linkDown_7 : State := run |> D (fun d => { d with ident := { d.ident with variant := 2 } }) |> S F.PWR_STAT_FAST 2 0
    |> B F.LANE_QUAD_STAT_LINK_UP true 0 |> S F.LANE_QUAD_CFG_MODE 2 0 |> S F.GLB_BOOT_STAT_STAGE 7 0
    |> D (fun d => d.setWord .LANE_TEST 0 0) |> D (fun d => d.setWord .LANE_TEST 1 0)
    |> D (fun d => d.setWord .LANE_TEST 2 0) |> D (fun d => d.setWord .LANE_TEST 3 0)
/-- Each clause of `LinkDown` has a state and operands that meet its hypotheses. -/
theorem test_linkDown_hypotheses :
    (∃ (s : State) (p : PortId), s.dev.linkUp p.val = true ∧ s.dev.rxAwake p.val = true) ∧
    (∃ (s : State) (p : PortId) (unc : Nat), s.dev.linkUp p.val = true ∧ noFec (s.dev.portMode p.val) = false ∧
      (s.dev.port p.val).degradeCw < unc) ∧
    (∃ (s : State) (p : PortId) (unc : Nat), s.dev.linkUp p.val = true ∧ noFec (s.dev.portMode p.val) = false ∧
      unc ≤ (s.dev.port p.val).degradeCw) ∧
    (∃ (s : State) (p : PortId) (hiBer : Bool), s.dev.linkUp p.val = true ∧ noFec (s.dev.portMode p.val) = true ∧
      hiBer = true) ∧
    (∃ (s : State) (p : PortId) (hiBer : Bool), s.dev.linkUp p.val = true ∧ noFec (s.dev.portMode p.val) = true ∧
      hiBer = false) ∧
    (∃ (s : State) (p : PortId), s.dev.linkUp p.val = true ∧ s.dev.fastReach = true ∧ s.dev.hasPort p.val = true ∧
      s.dev.portMode p.val ≠ 0 ∧ s.dev.portTest p.val = false) :=
  ⟨⟨s_linkDown_1, 0, by decide +kernel⟩,
   ⟨s_linkDown_3, 0, ((s_linkDown_3.dev.port (Fin.ofNat 32 0).val).degradeCw + 1), by decide +kernel⟩,
   ⟨s_linkDown_3, 0, 0, by decide +kernel⟩,
   ⟨s_linkDown_5, 0, true, by decide +kernel⟩,
   ⟨s_linkDown_5, 0, false, by decide +kernel⟩,
   ⟨s_linkDown_7, 0, by decide +kernel⟩⟩

def s_laneCommands_1 : State := run |> D (fun d => { d with ident := { d.ident with variant := 2 } })
    |> S F.GLB_BOOT_STAT_STAGE 7 0 |> S F.PWR_STAT_FAST 2 0 |> B F.LANE_STAT_RETIRED false 0
def s_laneCommands_2 : State := run |> D (fun d => { d with ident := { d.ident with variant := 2 } })
    |> S F.GLB_BOOT_STAT_STAGE 7 0 |> S F.PWR_STAT_FAST 2 0 |> B F.LANE_TEST_CHK_EN true 0
def s_laneCommands_3 : State := run |> D (fun d => { d with ident := { d.ident with variant := 2 } })
    |> S F.GLB_BOOT_STAT_STAGE 7 0 |> S F.PWR_STAT_FAST 2 0 |> B F.LANE_STAT_CHK_LOCK true 0
def s_laneCommands_4 : State := run |> D (fun d => { d with ident := { d.ident with variant := 2 } })
    |> S F.GLB_BOOT_STAT_STAGE 7 0 |> S F.PWR_STAT_FAST 2 0
def s_laneCommands_5 : State := run |> D (fun d => { d with ident := { d.ident with variant := 2 } })
    |> S F.GLB_BOOT_STAT_STAGE 7 0 |> S F.PWR_STAT_FAST 2 0 |> S F.LANE_QUAD_CFG_MODE 4 0
/-- Each clause of `LaneCommands` has a state and operands that meet its hypotheses. -/
theorem test_laneCommands_hypotheses :
    (∃ (s : State) (l : LaneId), s.dev.fastOn = true ∧ l.val < s.dev.lanes ∧ s.dev.flag F.LANE_STAT_RETIRED l.val = false) ∧
    (∃ (s : State) (l : LaneId), s.dev.flag F.LANE_TEST_CHK_EN l.val = true) ∧
    (∃ (s : State) (l : LaneId), s.dev.flag F.LANE_STAT_CHK_LOCK l.val = true) ∧
    (∃ (s : State) (l : LaneId), s.dev.fastReach = true ∧ s.dev.hasPort (l.val / 4) = true) ∧
    (∃ (s : State) (l : LaneId) (v : Word), s.dev.fastReach = true ∧ s.dev.hasPort (l.val / 4) = true ∧
      (s.dev.usedLanes (l.val / 4)).contains l.val = true ∧
      patOk (s.dev.portMode (l.val / 4)) (bitsOf v.toNat 0 4) = true ∧
      patOk (s.dev.portMode (l.val / 4)) (bitsOf v.toNat 8 4) = true) :=
  ⟨⟨s_laneCommands_1, 0, by decide +kernel⟩,
   ⟨s_laneCommands_2, 0, by decide +kernel⟩,
   ⟨s_laneCommands_3, 0, by decide +kernel⟩,
   ⟨s_laneCommands_4, 0, by decide +kernel⟩,
   ⟨s_laneCommands_5, 0, (BitVec.ofNat 32 ((if 0 % 2 = 0 then 5 else 5) + 0 + 256 * 5 + 0)), by decide +kernel⟩⟩

def s_quadConfiguration_1 : State := run |> D (fun d => { d with ident := { d.ident with variant := 2 } })
    |> S F.GLB_BOOT_STAT_STAGE 7 0 |> S F.PWR_STAT_FAST 2 0
/-- Each clause of `QuadConfiguration` has a state and operands that meet its hypotheses. -/
theorem test_quadConfiguration_hypotheses :
    ∃ (s : State) (p : PortId), s.dev.fastReach = true ∧ s.dev.hasPort p.val = true :=
  ⟨s_quadConfiguration_1, 0, by decide +kernel⟩

def s_sleepEntries_1 : State := run |> D (fun d => { d with ident := { d.ident with variant := 2 } })
    |> S F.PWR_STAT_FAST 2 0 |> B F.LANE_QUAD_STAT_LINK_UP true 0 |> S F.LANE_QUAD_CFG_MODE 2 0
    |> S F.GLB_BOOT_STAT_STAGE 7 0 |> OnInst 0 (fun x => { x with made := true, domain := 24 })
    |> OnPort 0 (fun x => { x with inLoop := false }) |> S F.PRT_PTP_CFG_INSTANCE 0 0 |> S F.LANE_PARTNER_DOM_DOMAIN 24 0
    |> D (fun d => d.setWord .LANE_TEST 0 0) |> D (fun d => d.setWord .LANE_TEST 1 0)
    |> D (fun d => d.setWord .LANE_TEST 2 0) |> D (fun d => d.setWord .LANE_TEST 3 0)
    |> OnMir (fun m => { m with state := .locked }) |> B F.LANE_QUAD_STAT_DISCOVERED true 0
    |> S F.LANE_PARTNER_INFO_CAPS 7 0 |> S F.LANE_PARTNER_INFO_TIME_STATE 2 0 |> B F.LANE_PARTNER_INFO_RX_SLEEP_OK true 0
    |> B F.TB_HB_STAT_FROZEN false 0 |> OnSys (fun y => { y with smcStopped := false, cpStopped := false })
    |> S F.PWR_PORT_CFG_TX_PIN 0 0 |> S F.PWR_LAT_TOL 0xFFFF (qKey 0 0) |> S F.PWR_LAT_TOL 0xFFFF (qKey 0 1)
    |> S F.PWR_LAT_TOL 0xFFFF (qKey 0 2) |> S F.PWR_LAT_TOL 0xFFFF (qKey 0 3) |> S F.PWR_LAT_TOL 0xFFFF (qKey 0 4)
    |> S F.PWR_LAT_TOL 0xFFFF (qKey 0 5) |> S F.PWR_LAT_TOL 0xFFFF (qKey 0 6) |> S F.PWR_LAT_TOL 0xFFFF (qKey 0 7)
    |> B F.LANE_QUAD_STAT_DISCOVERED false 0 |> B F.LANE_QUAD_CFG_LPI_EN true 0 |> S F.LANE_QUAD_CFG_MODE 3 0
    |> OnSw (fun w => { w with queues := [], tx := [] })
    |> OnPort 0 (fun x => { x with helloDue := false, idleSpan := 0 ^ 15 }) |> OnPtu 0 (fun x => { x with due := [] })
    |> S F.LANE_QUAD_STAT_TX_SLEEP 0 0
def s_sleepEntries_2 : State := run |> D (fun d => { d with ident := { d.ident with variant := 2 } })
    |> S F.PWR_STAT_FAST 2 0 |> B F.LANE_QUAD_STAT_LINK_UP true 0 |> S F.LANE_QUAD_CFG_MODE 2 0
    |> S F.GLB_BOOT_STAT_STAGE 7 0 |> OnInst 0 (fun x => { x with made := true, domain := 24 })
    |> OnPort 0 (fun x => { x with inLoop := false }) |> S F.PRT_PTP_CFG_INSTANCE 0 0 |> S F.LANE_PARTNER_DOM_DOMAIN 24 0
    |> D (fun d => d.setWord .LANE_TEST 0 0) |> D (fun d => d.setWord .LANE_TEST 1 0)
    |> D (fun d => d.setWord .LANE_TEST 2 0) |> D (fun d => d.setWord .LANE_TEST 3 0)
    |> OnMir (fun m => { m with state := .locked }) |> B F.LANE_QUAD_STAT_DISCOVERED true 0
    |> S F.LANE_PARTNER_INFO_CAPS 7 0 |> S F.LANE_PARTNER_INFO_TIME_STATE 2 0 |> B F.LANE_PARTNER_INFO_RX_SLEEP_OK true 0
    |> B F.TB_HB_STAT_FROZEN false 0 |> OnSys (fun y => { y with smcStopped := false, cpStopped := false })
    |> S F.PWR_PORT_CFG_TX_PIN 0 0 |> S F.PWR_LAT_TOL 0xFFFF (qKey 0 0) |> S F.PWR_LAT_TOL 0xFFFF (qKey 0 1)
    |> S F.PWR_LAT_TOL 0xFFFF (qKey 0 2) |> S F.PWR_LAT_TOL 0xFFFF (qKey 0 3) |> S F.PWR_LAT_TOL 0xFFFF (qKey 0 4)
    |> S F.PWR_LAT_TOL 0xFFFF (qKey 0 5) |> S F.PWR_LAT_TOL 0xFFFF (qKey 0 6) |> S F.PWR_LAT_TOL 0xFFFF (qKey 0 7)
    |> OnSw (fun w => { w with queues := [], tx := [] })
    |> OnPort 0 (fun x => { x with helloDue := false, idleSpan := 0 ^ 15 }) |> OnPtu 0 (fun x => { x with due := [] })
    |> S F.LANE_QUAD_STAT_TX_SLEEP 0 0
def s_sleepEntries_3 : State := run |> D (fun d => { d with ident := { d.ident with variant := 2 } })
    |> S F.PWR_STAT_FAST 2 0 |> B F.LANE_QUAD_STAT_LINK_UP true 0 |> S F.LANE_QUAD_CFG_MODE 2 0
    |> S F.GLB_BOOT_STAT_STAGE 7 0 |> OnInst 0 (fun x => { x with made := true, domain := 24 })
    |> OnPort 0 (fun x => { x with inLoop := false }) |> S F.PRT_PTP_CFG_INSTANCE 0 0 |> S F.LANE_PARTNER_DOM_DOMAIN 24 0
    |> D (fun d => d.setWord .LANE_TEST 0 0) |> D (fun d => d.setWord .LANE_TEST 1 0)
    |> D (fun d => d.setWord .LANE_TEST 2 0) |> D (fun d => d.setWord .LANE_TEST 3 0)
    |> OnMir (fun m => { m with state := .locked }) |> B F.LANE_QUAD_STAT_DISCOVERED true 0
    |> S F.LANE_PARTNER_INFO_CAPS 7 0 |> S F.LANE_PARTNER_INFO_TIME_STATE 2 0 |> B F.LANE_PARTNER_INFO_RX_SLEEP_OK true 0
    |> B F.TB_HB_STAT_FROZEN false 0 |> OnSys (fun y => { y with smcStopped := false, cpStopped := false })
    |> S F.PWR_PORT_CFG_TX_PIN 0 0 |> S F.PWR_LAT_TOL 0xFFFF (qKey 0 0) |> S F.PWR_LAT_TOL 0xFFFF (qKey 0 1)
    |> S F.PWR_LAT_TOL 0xFFFF (qKey 0 2) |> S F.PWR_LAT_TOL 0xFFFF (qKey 0 3) |> S F.PWR_LAT_TOL 0xFFFF (qKey 0 4)
    |> S F.PWR_LAT_TOL 0xFFFF (qKey 0 5) |> S F.PWR_LAT_TOL 0xFFFF (qKey 0 6) |> S F.PWR_LAT_TOL 0xFFFF (qKey 0 7)
    |> OnTwin (fun w => { w with active := none }) |> S F.LANE_QUAD_STAT_RX_SLEEP 0 0
def v_sleepEntries_3_b : List Byte := (let b : List Byte := ([1, 0x80, 0xC2, 0, 0, 0x0E] ++ List.replicate 6 0 ++ [0x88, 0xB5, 1, 2, 0, 9] ++ beBytes 8 0 ++ [BitVec.ofNat 8 0, 0, 3, 7, 2, 24, BitVec.ofNat 8 2, 0] ++ beBytes 4 900000 ++ beBytes 4 5 ++ List.replicate 22 0); b)
def s_sleepEntries_4 : State := run |> S F.LANE_QUAD_STAT_TX_SLEEP 1 0 |> OnPort 0 (fun x => { x with txDepth := 2 })
def s_sleepEntries_5 : State := run |> D (fun d => { d with ident := { d.ident with variant := 2 } })
    |> S F.PWR_STAT_FAST 2 0 |> B F.LANE_QUAD_STAT_LINK_UP true 0 |> S F.LANE_QUAD_CFG_MODE 2 0
    |> S F.GLB_BOOT_STAT_STAGE 7 0 |> OnInst 0 (fun x => { x with made := true, domain := 24 })
    |> OnPort 0 (fun x => { x with inLoop := false }) |> S F.PRT_PTP_CFG_INSTANCE 0 0 |> S F.LANE_PARTNER_DOM_DOMAIN 24 0
    |> D (fun d => d.setWord .LANE_TEST 0 0) |> D (fun d => d.setWord .LANE_TEST 1 0)
    |> D (fun d => d.setWord .LANE_TEST 2 0) |> D (fun d => d.setWord .LANE_TEST 3 0)
    |> OnMir (fun m => { m with state := .locked }) |> B F.LANE_QUAD_STAT_DISCOVERED true 0
    |> S F.LANE_PARTNER_INFO_CAPS 7 0 |> S F.LANE_PARTNER_INFO_TIME_STATE 2 0 |> B F.LANE_PARTNER_INFO_RX_SLEEP_OK true 0
    |> B F.TB_HB_STAT_FROZEN false 0 |> OnSys (fun y => { y with smcStopped := false, cpStopped := false })
    |> S F.PWR_PORT_CFG_TX_PIN 0 0 |> S F.PWR_LAT_TOL 0xFFFF (qKey 0 0) |> S F.PWR_LAT_TOL 0xFFFF (qKey 0 1)
    |> S F.PWR_LAT_TOL 0xFFFF (qKey 0 2) |> S F.PWR_LAT_TOL 0xFFFF (qKey 0 3) |> S F.PWR_LAT_TOL 0xFFFF (qKey 0 4)
    |> S F.PWR_LAT_TOL 0xFFFF (qKey 0 5) |> S F.PWR_LAT_TOL 0xFFFF (qKey 0 6) |> S F.PWR_LAT_TOL 0xFFFF (qKey 0 7)
    |> S F.LANE_QUAD_STAT_RX_SLEEP 1 0 |> OnPort 0 (fun x => { x with rxDepth := 2 })
def s_sleepEntries_6 : State := run |> D (fun d => { d with ident := { d.ident with variant := 2 } })
    |> S F.PWR_STAT_FAST 2 0 |> B F.LANE_QUAD_STAT_LINK_UP true 0 |> S F.LANE_QUAD_CFG_MODE 2 0
    |> S F.GLB_BOOT_STAT_STAGE 7 0 |> OnInst 0 (fun x => { x with made := true, domain := 24 })
    |> OnPort 0 (fun x => { x with inLoop := false }) |> S F.PRT_PTP_CFG_INSTANCE 0 0 |> S F.LANE_PARTNER_DOM_DOMAIN 24 0
    |> D (fun d => d.setWord .LANE_TEST 0 0) |> D (fun d => d.setWord .LANE_TEST 1 0)
    |> D (fun d => d.setWord .LANE_TEST 2 0) |> D (fun d => d.setWord .LANE_TEST 3 0)
    |> OnMir (fun m => { m with state := .locked }) |> B F.LANE_QUAD_STAT_DISCOVERED true 0
    |> S F.LANE_PARTNER_INFO_CAPS 7 0 |> S F.LANE_PARTNER_INFO_TIME_STATE 2 0 |> B F.LANE_PARTNER_INFO_RX_SLEEP_OK true 0
    |> B F.TB_HB_STAT_FROZEN false 0 |> OnSys (fun y => { y with smcStopped := false, cpStopped := false })
    |> S F.PWR_PORT_CFG_TX_PIN 0 0 |> S F.PWR_LAT_TOL 0xFFFF (qKey 0 0) |> S F.PWR_LAT_TOL 0xFFFF (qKey 0 1)
    |> S F.PWR_LAT_TOL 0xFFFF (qKey 0 2) |> S F.PWR_LAT_TOL 0xFFFF (qKey 0 3) |> S F.PWR_LAT_TOL 0xFFFF (qKey 0 4)
    |> S F.PWR_LAT_TOL 0xFFFF (qKey 0 5) |> S F.PWR_LAT_TOL 0xFFFF (qKey 0 6) |> S F.PWR_LAT_TOL 0xFFFF (qKey 0 7)
    |> B F.LANE_QUAD_STAT_DISCOVERED false 0 |> B F.LANE_QUAD_CFG_LPI_EN true 0 |> S F.LANE_QUAD_CFG_MODE 3 0
    |> S F.LANE_QUAD_STAT_RX_SLEEP 0 0
def s_sleepEntries_7 : State := run |> S F.LANE_QUAD_STAT_RX_SLEEP 1 0
def s_sleepEntries_8 : State := run |> D (fun d => { d with ident := { d.ident with variant := 2 } })
    |> S F.PWR_STAT_FAST 2 0 |> B F.LANE_QUAD_STAT_LINK_UP true 0 |> S F.LANE_QUAD_CFG_MODE 2 0
    |> S F.GLB_BOOT_STAT_STAGE 7 0 |> OnInst 0 (fun x => { x with made := true, domain := 24 })
    |> OnPort 0 (fun x => { x with inLoop := false }) |> S F.PRT_PTP_CFG_INSTANCE 0 0 |> S F.LANE_PARTNER_DOM_DOMAIN 24 0
    |> D (fun d => d.setWord .LANE_TEST 0 0) |> D (fun d => d.setWord .LANE_TEST 1 0)
    |> D (fun d => d.setWord .LANE_TEST 2 0) |> D (fun d => d.setWord .LANE_TEST 3 0)
    |> OnMir (fun m => { m with state := .locked }) |> B F.LANE_QUAD_STAT_DISCOVERED true 0
    |> S F.LANE_PARTNER_INFO_CAPS 7 0 |> S F.LANE_PARTNER_INFO_TIME_STATE 2 0 |> B F.LANE_PARTNER_INFO_RX_SLEEP_OK true 0
    |> B F.TB_HB_STAT_FROZEN false 0 |> OnSys (fun y => { y with smcStopped := false, cpStopped := false })
    |> S F.PWR_PORT_CFG_TX_PIN 0 0 |> S F.PWR_LAT_TOL 0xFFFF (qKey 0 0) |> S F.PWR_LAT_TOL 0xFFFF (qKey 0 1)
    |> S F.PWR_LAT_TOL 0xFFFF (qKey 0 2) |> S F.PWR_LAT_TOL 0xFFFF (qKey 0 3) |> S F.PWR_LAT_TOL 0xFFFF (qKey 0 4)
    |> S F.PWR_LAT_TOL 0xFFFF (qKey 0 5) |> S F.PWR_LAT_TOL 0xFFFF (qKey 0 6) |> S F.PWR_LAT_TOL 0xFFFF (qKey 0 7)
    |> S F.LANE_QUAD_STAT_TX_SLEEP 2 0
/-- Each clause of `SleepEntries` has a state and operands that meet its hypotheses. -/
theorem test_sleepEntries_hypotheses :
    (∃ (s : State) (p : PortId), s.dev.linkUp p.val = true ∧ s.dev.txSleep p.val = 0 ∧ s.dev.idle p.val = true ∧
      (∀ q < 8, s.dev.queue p.val q = []) ∧ s.dev.txNow p.val = none ∧ s.dev.pickDepth p.val = 5) ∧
    (∃ (s : State) (p : PortId), s.dev.linkUp p.val = true ∧ s.dev.txSleep p.val = 0 ∧ s.dev.idle p.val = true ∧
      (∀ q < 8, s.dev.queue p.val q = []) ∧ s.dev.txNow p.val = none ∧
      (s.dev.pickDepth p.val = 2 ∨ s.dev.pickDepth p.val = 3)) ∧
    (∃ (s : State) (p : PortId) (b : List Byte) (T : Ticks), s.dev.portUp p.val = true ∧ discOk b true 2 = true ∧
      (s.dev.rxSleep p.val = 0 ∨ s.dev.rxSleep p.val = 1) ∧ (byteAt b 32 = 2 ∨ byteAt b 32 = 3) ∧
      s.dev.rxMaySleep p.val = true ∧ entryTime s.dev.now (beNat (slice b 34 4)) (beNat (slice b 38 4)) = T ∧ s.dev.now < T) ∧
    (∃ (s : State) (p : PortId), s.dev.txSleep p.val = 1 ∧ (s.dev.port p.val).txDepth < 8) ∧
    (∃ (s : State) (p : PortId), s.dev.rxSleep p.val = 1 ∧ (s.dev.port p.val).rxDepth < 8 ∧ s.dev.rxMaySleep p.val = true) ∧
    (∃ (s : State) (p : PortId), s.dev.rxSleep p.val = 0 ∧ s.dev.lpiMay p.val = true) ∧
    (∃ (s : State) (p : PortId), s.dev.rxSleep p.val = 1) ∧
    (∃ (s : State) (p : PortId), s.dev.txSleep p.val = 2 ∧ s.dev.get F.PWR_PORT_CFG_TX_PIN p.val = 0 ∧
      s.dev.permits p.val 3 = true) :=
  ⟨⟨s_sleepEntries_1, 0, by decide +kernel⟩,
   ⟨s_sleepEntries_2, 0, by decide +kernel⟩,
   ⟨s_sleepEntries_3, 0, v_sleepEntries_3_b, (entryTime s_sleepEntries_3.dev.now (beNat (slice v_sleepEntries_3_b 34 4)) (beNat (slice v_sleepEntries_3_b 38 4)) : Ticks), by decide +kernel⟩,
   ⟨s_sleepEntries_4, 0, by decide +kernel⟩,
   ⟨s_sleepEntries_5, 0, by decide +kernel⟩,
   ⟨s_sleepEntries_6, 0, by decide +kernel⟩,
   ⟨s_sleepEntries_7, 0, by decide +kernel⟩,
   ⟨s_sleepEntries_8, 0, by decide +kernel⟩⟩

def s_refreshBursts_1 : State := run |> S F.LANE_QUAD_STAT_TX_SLEEP 3 0
def s_refreshBursts_2 : State := run |> S F.LANE_QUAD_STAT_RX_SLEEP 3 0
def s_refreshBursts_3 : State := run |> S F.LANE_QUAD_STAT_TX_SLEEP 2 0
def s_refreshBursts_4 : State := run |> S F.LANE_QUAD_STAT_RX_SLEEP 2 0
def s_refreshBursts_5 : State := run |> S F.LANE_QUAD_STAT_RX_SLEEP 2 0 |> OnPort 0 (fun x => { x with missed := 0 })
def s_refreshBursts_6 : State := run |> D (fun d => { d with ident := { d.ident with variant := 2 } })
    |> S F.PWR_STAT_FAST 2 0 |> B F.LANE_QUAD_STAT_LINK_UP true 0 |> S F.LANE_QUAD_CFG_MODE 2 0
    |> S F.LANE_QUAD_STAT_RX_SLEEP 2 0 |> OnPort 0 (fun x => { x with missed := 1 })
/-- Each clause of `RefreshBursts` has a state and operands that meet its hypotheses. -/
theorem test_refreshBursts_hypotheses :
    (∃ (s : State) (p : PortId), s.dev.txSleep p.val = 3) ∧
    (∃ (s : State) (p : PortId), s.dev.rxSleep p.val = 3) ∧
    (∃ (s : State) (p : PortId), s.dev.txSleep p.val = 2) ∧
    (∃ (s : State) (p : PortId) (x : Int), (s.dev.rxSleep p.val = 2 ∨ s.dev.rxSleep p.val = 3) ∧ x.natAbs ≤ 16) ∧
    (∃ (s : State) (p : PortId), (s.dev.rxSleep p.val = 2 ∨ s.dev.rxSleep p.val = 3) ∧ (s.dev.port p.val).missed = 0) ∧
    (∃ (s : State) (p : PortId), (s.dev.rxSleep p.val = 2 ∨ s.dev.rxSleep p.val = 3) ∧ (s.dev.port p.val).missed = 1 ∧
      s.dev.linkUp p.val = true) :=
  ⟨⟨s_refreshBursts_1, 0, by decide +kernel⟩,
   ⟨s_refreshBursts_2, 0, by decide +kernel⟩,
   ⟨s_refreshBursts_3, 0, by decide +kernel⟩,
   ⟨s_refreshBursts_4, 0, (0 - 16 : Int), by decide +kernel⟩,
   ⟨s_refreshBursts_5, 0, by decide +kernel⟩,
   ⟨s_refreshBursts_6, 0, by decide +kernel⟩⟩

def s_wakes_1 : State := run |> S F.LANE_QUAD_STAT_TX_SLEEP 2 0
def s_wakes_3 : State := run |> S F.LANE_QUAD_STAT_TX_SLEEP 1 0
def s_wakes_4 : State := run |> S F.LANE_QUAD_STAT_TX_SLEEP 4 0
def s_wakes_5 : State := run |> D (fun d => { d with ident := { d.ident with variant := 2 } }) |> S F.PWR_STAT_FAST 2 0
    |> B F.LANE_QUAD_STAT_LINK_UP true 0 |> S F.LANE_QUAD_CFG_MODE 2 0 |> S F.LANE_QUAD_STAT_TX_SLEEP 4 0
def s_wakes_6 : State := run |> S F.LANE_QUAD_STAT_RX_SLEEP 2 0
def s_wakes_7 : State := run |> S F.LANE_QUAD_STAT_RX_SLEEP 4 0 |> OnPort 0 (fun x => { x with rxDepth := 2 })
def s_wakes_8 : State := run |> D (fun d => { d with ident := { d.ident with variant := 2 } }) |> S F.PWR_STAT_FAST 2 0
    |> B F.LANE_QUAD_STAT_LINK_UP true 0 |> S F.LANE_QUAD_CFG_MODE 2 0 |> S F.LANE_QUAD_STAT_RX_SLEEP 4 0
    |> OnPort 0 (fun x => { x with rxDepth := 2 })
def s_wakes_10 : State := run |> D (fun d => { d with ident := { d.ident with variant := 2 } })
    |> S F.GLB_BOOT_STAT_STAGE 7 0 |> S F.PWR_STAT_FAST 2 0 |> S F.LANE_QUAD_STAT_RX_SLEEP 5 0
def s_wakes_11 : State := run |> S F.PWR_STAT_FAST 2 0
/-- Each clause of `Wakes` has a state and operands that meet its hypotheses. -/
theorem test_wakes_hypotheses :
    (∃ (s : State) (p : PortId) (c : _), c ∈ [WakeCause.frame, .ptp] ∧
      (s.dev.txSleep p.val = 2 ∨ s.dev.txSleep p.val = 3 ∨ s.dev.txSleep p.val = 5)) ∧
    (∃ (s : State) (p : PortId) (c : _), c ∈ [WakeCause.condition, .latency] ∧
      (s.dev.txSleep p.val = 2 ∨ s.dev.txSleep p.val = 3 ∨ s.dev.txSleep p.val = 5) ∧
      s.dev.depthOk p.val (s.dev.txSleep p.val) = false) ∧
    (∃ (s : State) (p : PortId) (c : _), c ∈ [WakeCause.frame, .ptp] ∧ s.dev.txSleep p.val = 1) ∧
    (∃ (s : State) (p : PortId) (lat : LatMeas), s.dev.txSleep p.val = 4 ∧ lat.agree = true) ∧
    (∃ (s : State) (p : PortId) (lat : LatMeas), s.dev.txSleep p.val = 4 ∧ s.dev.linkUp p.val = true ∧ lat.agree = false) ∧
    (∃ (s : State) (p : PortId), asleep (s.dev.rxSleep p.val) = true) ∧
    (∃ (s : State) (p : PortId) (lat : LatMeas), s.dev.rxSleep p.val = 4 ∧ lat.agree = true) ∧
    (∃ (s : State) (p : PortId) (lat : LatMeas), s.dev.rxSleep p.val = 4 ∧ s.dev.linkUp p.val = true ∧ lat.agree = false) ∧
    (∃ (s : State) (p : PortId), s.dev.rxSleep p.val = 4 ∧ s.dev.linkUp p.val = true ∧ (s.dev.port p.val).rxDepth ≠ 5) ∧
    (∃ (s : State) (p : PortId) (v : Word), s.dev.fastReach = true ∧ s.dev.hasPort p.val = true ∧ s.dev.rxSleep p.val = 5 ∧
      bitsOf v.toNat 5 1 = 0 ∧ bitsOf v.toNat 0 4 = s.dev.portMode p.val) ∧
    (∃ (s : State), s.dev.fastOn = true) :=
  ⟨⟨s_wakes_1, 0, (WakeCause.frame), by decide +kernel⟩,
   ⟨s_wakes_1, 0, (WakeCause.condition), by decide +kernel⟩,
   ⟨s_wakes_3, 0, (WakeCause.frame), by decide +kernel⟩,
   ⟨s_wakes_4, 0, (⟨0, 0, true⟩ : LatMeas), by decide +kernel⟩,
   ⟨s_wakes_5, 0, (⟨0, 0, false⟩ : LatMeas), by decide +kernel⟩,
   ⟨s_wakes_6, 0, by decide +kernel⟩,
   ⟨s_wakes_7, 0, (⟨0, 0, true⟩ : LatMeas), by decide +kernel⟩,
   ⟨s_wakes_8, 0, (⟨0, 0, false⟩ : LatMeas), by decide +kernel⟩,
   ⟨s_wakes_8, 0, by decide +kernel⟩,
   ⟨s_wakes_10, 0, (BitVec.ofNat 32 (s_wakes_10.dev.portMode (Fin.ofNat 32 0).val + 0)), by decide +kernel⟩,
   ⟨s_wakes_11, by decide +kernel⟩⟩

def s_discovery_1 : State := run |> D (fun d => { d with ident := { d.ident with variant := 2 } }) |> S F.PWR_STAT_FAST 2 0
    |> B F.LANE_QUAD_STAT_LINK_UP true 0 |> S F.LANE_QUAD_CFG_MODE 2 0 |> B F.LANE_QUAD_CFG_DISC_EN true 0
    |> OnPort 0 (fun x => { x with inLoop := false }) |> OnSys (fun y => { y with cpStopped := false })
    |> S F.LANE_QUAD_STAT_TX_SLEEP 0 0
def v_discovery_1_b : List Byte := (let b : List Byte := ([1, 0x80, 0xC2, 0, 0, 0x0E] ++ List.replicate 6 0 ++ [0x88, 0xB5, 1, 1, 0, 9] ++ beBytes 8 0 ++ [BitVec.ofNat 8 0, 0, 3, 7, 2, 24, BitVec.ofNat 8 2, 0] ++ beBytes 4 900000 ++ beBytes 4 5 ++ List.replicate 22 0); b)
def s_discovery_2 : State := run |> D (fun d => { d with ident := { d.ident with variant := 2 } }) |> S F.PWR_STAT_FAST 2 0
    |> B F.LANE_QUAD_STAT_LINK_UP true 0 |> S F.LANE_QUAD_CFG_MODE 2 0 |> B F.LANE_QUAD_CFG_DISC_EN true 0
    |> OnPort 0 (fun x => { x with inLoop := false }) |> OnSys (fun y => { y with cpStopped := false })
def s_discovery_3 : State := run |> D (fun d => { d with ident := { d.ident with variant := 2 } }) |> S F.PWR_STAT_FAST 2 0
    |> B F.LANE_QUAD_STAT_LINK_UP true 0 |> S F.LANE_QUAD_CFG_MODE 2 0 |> B F.LANE_QUAD_CFG_DISC_EN true 0
    |> OnPort 0 (fun x => { x with inLoop := false }) |> OnSys (fun y => { y with cpStopped := false })
    |> B F.LANE_QUAD_STAT_DISCOVERED true 0 |> S F.LANE_QUAD_STAT_RX_SLEEP 0 0
/-- Each clause of `Discovery` has a state and operands that meet its hypotheses. -/
theorem test_discovery_hypotheses :
    (∃ (s : State) (p : PortId), s.dev.portUp p.val = true ∧ s.dev.flag F.LANE_QUAD_CFG_DISC_EN p.val = true ∧
      s.dev.sys.cpStopped = false ∧ s.dev.fastOn = true ∧ s.dev.txSleep p.val = 0) ∧
    (∃ (s : State) (p : PortId) (b : List Byte), s.dev.portUp p.val = true ∧
      s.dev.flag F.LANE_QUAD_CFG_DISC_EN p.val = true ∧ s.dev.sys.cpStopped = false ∧ discOk b true 1 = true) ∧
    (∃ (s : State) (p : PortId), s.dev.portUp p.val = true ∧ s.dev.flag F.LANE_QUAD_CFG_DISC_EN p.val = true ∧
      s.dev.sys.cpStopped = false ∧ s.dev.flag F.LANE_QUAD_STAT_DISCOVERED p.val = true ∧ s.dev.rxSleep p.val = 0) :=
  ⟨⟨s_discovery_1, 0, by decide +kernel⟩,
   ⟨s_discovery_2, 0, v_discovery_1_b, by decide +kernel⟩,
   ⟨s_discovery_3, 0, by decide +kernel⟩⟩

def s_tioConfiguration_1 : State := run |> S F.GLB_BOOT_STAT_STAGE 7 0 |> B F.TIO_STAT_TDC_RETIRED false 0
/-- Each clause of `TioConfiguration` has a state and operands that meet its hypotheses. -/
theorem test_tioConfiguration_hypotheses :
    (∃ (s : State) (c : TioId) (v : Word), s.dev.firnReach = true ∧ c.val < s.dev.tios ∧ bitsOf v.toNat 1 3 ≤ 5 ∧
      bitsOf v.toNat 4 2 ≠ 3 ∧ ((bitsOf v.toNat 4 2 = 2 → bitsOf v.toNat 1 3 = 0)) ∧
      ((bitsOf v.toNat 1 3 ≠ 5 → s.dev.flag F.TIO_STAT_TDC_RETIRED c.val = false))) ∧
    (∃ (s : State) (c : TioId) (v : Word), s.dev.firnReach = true ∧ c.val < s.dev.tios ∧
      (6 ≤ bitsOf v.toNat 1 3 ∨ bitsOf v.toNat 4 2 = 3 ∨ (bitsOf v.toNat 4 2 = 2 ∧
      bitsOf v.toNat 1 3 ≠ 0) ∨ (bitsOf v.toNat 1 3 ≠ 5 ∧ s.dev.flag F.TIO_STAT_TDC_RETIRED c.val = true))) :=
  ⟨⟨s_tioConfiguration_1, 0, (BitVec.ofNat 32 (0 + 16 * (if 0 % 6 = 0 then 0 % 3 else 0 % 2))), by decide +kernel⟩,
   ⟨s_tioConfiguration_1, 0, 48, by decide +kernel⟩⟩

def s_delayLineCalibration_1 : State := run |> S F.GLB_BOOT_STAT_STAGE 7 0 |> B F.TIO_CFG_EN true 0
    |> B F.TIO_STAT_READY true 0 |> B F.TIO_STAT_TDC_RETIRED false 0
def s_delayLineCalibration_2 : State := run |> S F.GLB_BOOT_STAT_STAGE 7 0 |> B F.TIO_CFG_EN true 0
    |> B F.TIO_STAT_READY true 0 |> B F.TIO_STAT_TDC_RETIRED false 0 |> B F.TIO_STAT_TDC_RETIRED true 0
def s_delayLineCalibration_4 : State := run |> S F.GLB_BOOT_STAT_STAGE 7 0 |> B F.TIO_CFG_EN true 0
    |> B F.TIO_STAT_READY true 0 |> B F.TIO_STAT_TDC_RETIRED false 0 |> OnCand 0 (fun c => { c with retired := false })
    |> S F.RSEL_REFIN_CFG_FMT 1 0
def s_delayLineCalibration_5 : State := run |> S F.GLB_BOOT_STAT_STAGE 7 0 |> B F.TIO_CFG_EN true 0
    |> B F.TIO_STAT_READY true 0 |> B F.TIO_STAT_TDC_RETIRED false 0 |> B F.TIO_STAT_CAL_RUN true 0
    |> OnTio 0 (fun t => { t with badTaps := [5, 6] })
def v_delayLineCalibration_5_n : Nat := ((calBad ({ taps := [⟨true, 5⟩, ⟨0 == 0, 5⟩, ⟨0 == 0, 6000⟩, ⟨true, 5242⟩, ⟨true, 5243⟩], bins := List.replicate 639 1638 ++ [1894] } : CalResult)).filter (fun x => !(s_delayLineCalibration_5.dev.tioCh (Fin.ofNat 48 0).val).badTaps.contains x)).length
def v_delayLineCalibration_6_n : Nat := ((calBad ({ taps := [⟨true, 5⟩, ⟨0 == 0, 5⟩, ⟨0 == 0, 6000⟩, ⟨true, 5242⟩, ⟨true, 5243⟩], bins := List.replicate 639 1638 ++ [1895] } : CalResult)).filter (fun x => !(s_delayLineCalibration_5.dev.tioCh (Fin.ofNat 48 0).val).badTaps.contains x)).length
def s_delayLineCalibration_7 : State := run |> S F.GLB_BOOT_STAT_STAGE 7 0 |> B F.TIO_CFG_EN true 0
    |> B F.TIO_STAT_READY true 0 |> B F.TIO_STAT_TDC_RETIRED false 0
    |> OnCand 0 (fun c => { c with calRuns := true, badTaps := [5, 6] })
def v_delayLineCalibration_7_n : Nat := ((calBad ({ taps := [⟨true, 5⟩, ⟨0 == 0, 5⟩, ⟨0 == 0, 6000⟩, ⟨true, 5242⟩, ⟨true, 5243⟩], bins := List.replicate 639 1638 ++ [1894] } : CalResult)).filter (fun x => !(s_delayLineCalibration_7.dev.cand (Fin.ofNat 4 0).val).badTaps.contains x)).length
def v_delayLineCalibration_8_n : Nat := ((calBad ({ taps := [⟨true, 5⟩, ⟨0 == 0, 5⟩, ⟨0 == 0, 6000⟩, ⟨true, 5242⟩, ⟨true, 5243⟩], bins := List.replicate 639 1638 ++ [1895] } : CalResult)).filter (fun x => !(s_delayLineCalibration_7.dev.cand (Fin.ofNat 4 0).val).badTaps.contains x)).length
/-- Each clause of `DelayLineCalibration` has a state and operands that meet its hypotheses. -/
theorem test_delayLineCalibration_hypotheses :
    (∃ (s : State) (c : TioId) (k : CalCause), s.dev.tioEn c.val = true ∧ s.dev.flag F.TIO_STAT_TDC_RETIRED c.val = false ∧
      ((k = .recal → s.dev.firnReach = true))) ∧
    (∃ (s : State) (c : TioId), s.dev.firnReach = true ∧ c.val < s.dev.tios ∧
      s.dev.flag F.TIO_STAT_TDC_RETIRED c.val = true) ∧
    (∃ (s : State) (m : RefinId) (k : CalCause), k ≠ .recal ∧ s.dev.refinFmt m.val ≠ 0 ∧ (s.dev.cand m.val).retired = false) ∧
    (∃ (s : State) (c : TioId) (r : CalResult) (n : Nat), s.dev.flag F.TIO_STAT_CAL_RUN c.val = true ∧
      n = ((calBad r).filter (fun x => !(s.dev.tioCh c.val).badTaps.contains x)).length ∧ calUniform r = true ∧
      (s.dev.tioCh c.val).badTaps.length + n ≤ 128) ∧
    (∃ (s : State) (c : TioId) (r : CalResult) (n : Nat), s.dev.flag F.TIO_STAT_CAL_RUN c.val = true ∧
      n = ((calBad r).filter (fun x => !(s.dev.tioCh c.val).badTaps.contains x)).length ∧
      (calUniform r = false ∨ 128 < (s.dev.tioCh c.val).badTaps.length + n)) ∧
    (∃ (s : State) (m : RefinId) (r : CalResult) (n : Nat), (s.dev.cand m.val).calRuns = true ∧
      n = ((calBad r).filter (fun x => !(s.dev.cand m.val).badTaps.contains x)).length ∧ calUniform r = true ∧
      (s.dev.cand m.val).badTaps.length + n ≤ 128) ∧
    (∃ (s : State) (m : RefinId) (r : CalResult) (n : Nat), (s.dev.cand m.val).calRuns = true ∧
      n = ((calBad r).filter (fun x => !(s.dev.cand m.val).badTaps.contains x)).length ∧
      (calUniform r = false ∨ 128 < (s.dev.cand m.val).badTaps.length + n)) :=
  ⟨⟨s_delayLineCalibration_1, 0, ((CalCause.enable)), by decide +kernel⟩,
   ⟨s_delayLineCalibration_2, 0, by decide +kernel⟩,
   ⟨s_delayLineCalibration_4, 0, ((CalCause.enable)), by decide +kernel⟩,
   ⟨s_delayLineCalibration_5, 0, ({ taps := [⟨true, 5⟩, ⟨0 == 0, 5⟩, ⟨0 == 0, 6000⟩, ⟨true, 5242⟩, ⟨true, 5243⟩], bins := List.replicate 639 1638 ++ [1894] } : CalResult), v_delayLineCalibration_5_n, by decide +kernel⟩,
   ⟨s_delayLineCalibration_5, 0, ({ taps := [⟨true, 5⟩, ⟨0 == 0, 5⟩, ⟨0 == 0, 6000⟩, ⟨true, 5242⟩, ⟨true, 5243⟩], bins := List.replicate 639 1638 ++ [1895] } : CalResult), v_delayLineCalibration_6_n, by decide +kernel⟩,
   ⟨s_delayLineCalibration_7, 0, ({ taps := [⟨true, 5⟩, ⟨0 == 0, 5⟩, ⟨0 == 0, 6000⟩, ⟨true, 5242⟩, ⟨true, 5243⟩], bins := List.replicate 639 1638 ++ [1894] } : CalResult), v_delayLineCalibration_7_n, by decide +kernel⟩,
   ⟨s_delayLineCalibration_7, 0, ({ taps := [⟨true, 5⟩, ⟨0 == 0, 5⟩, ⟨0 == 0, 6000⟩, ⟨true, 5242⟩, ⟨true, 5243⟩], bins := List.replicate 639 1638 ++ [1895] } : CalResult), v_delayLineCalibration_8_n, by decide +kernel⟩⟩

def s_inputEdges_1 : State := run |> S F.GLB_BOOT_STAT_STAGE 7 0 |> B F.TIO_CFG_EN true 0 |> B F.TIO_STAT_READY true 0
    |> B F.TIO_STAT_TDC_RETIRED false 0 |> S F.TIO_CFG_MODE 0 0 |> OnTio 0 (fun t => { t with centres := [7, 8, 9] })
    |> S F.TIO_CFG_EDGE 0 0
def s_inputEdges_2 : State := run |> S F.GLB_BOOT_STAT_STAGE 7 0 |> B F.TIO_CFG_EN true 0 |> B F.TIO_STAT_READY true 0
    |> B F.TIO_STAT_TDC_RETIRED false 0 |> S F.TIO_CFG_MODE 0 0 |> OnTio 0 (fun t => { t with centres := [7, 8, 9] })
    |> S F.TIO_CFG_EDGE 2 0 |> OnTio 0 (fun t => { t with lastAny := some (0 )})
def s_inputEdges_3 : State := run |> S F.GLB_BOOT_STAT_STAGE 7 0 |> B F.TIO_CFG_EN true 0 |> B F.TIO_STAT_READY true 0
    |> B F.TIO_STAT_TDC_RETIRED false 0 |> S F.TIO_CFG_MODE 0 0 |> OnTio 0 (fun t => { t with centres := [7, 8, 9] })
    |> S F.TIO_CFG_EDGE 1 0
def s_inputEdges_4 : State := run |> S F.GLB_BOOT_STAT_STAGE 7 0 |> B F.TIO_CFG_EN true 0 |> B F.TIO_STAT_READY true 0
    |> B F.TIO_STAT_TDC_RETIRED false 0 |> S F.TIO_CFG_MODE 0 0 |> OnTio 0 (fun t => { t with centres := [7, 8, 9] })
    |> OnTio 0 (fun t => { t with noEdgeUs := 5, noEdge := false })
/-- An edge at sample 0 is at time 0, whatever the delays are. -/
theorem tIn_zero (c p e : Nat) : tIn 0 c p e = 0 := by
  unfold tIn roundDiv
  exact Int.toNat_eq_zero.mpr (by push_cast; omega)
/-- Each clause of `InputEdges` has a state and operands that meet its hypotheses. -/
theorem test_inputEdges_hypotheses :
    (∃ (s : State) (c : TioId) (up : Bool) (n : Nat) (b : Fin 640) (T : Ticks), T = tIn n ((s.dev.tioCh c.val).centres.getD b.val 0) (Config.tioPinDelay c.val s.dev.sys.dieTemp) (s.dev.get F.TIO_DELAY_IN_EXT c.val) ∧
      s.dev.tioEn c.val = true ∧ s.dev.tioMode c.val = 0 ∧ s.dev.tioReady c.val = true ∧
      (∀ k < 48, (s.dev.tioCh k).meas = none) ∧ (s.dev.tioCh c.val).fifo.length + (s.dev.tioCh c.val).badSlots < 64 ∧
      s.dev.accepts c.val up = true ∧ s.dev.heldOff c.val T = false ∧ s.dev.deadTime c.val T = false) ∧
    (∃ (s : State) (c : TioId) (up : Bool) (n : Nat) (b : Fin 640) (T : Ticks), T = tIn n ((s.dev.tioCh c.val).centres.getD b.val 0) (Config.tioPinDelay c.val s.dev.sys.dieTemp) (s.dev.get F.TIO_DELAY_IN_EXT c.val) ∧
      s.dev.tioEn c.val = true ∧ s.dev.tioMode c.val = 0 ∧ s.dev.tioReady c.val = true ∧
      (∀ k < 48, (s.dev.tioCh k).meas = none) ∧ (s.dev.tioCh c.val).fifo.length + (s.dev.tioCh c.val).badSlots < 64 ∧
      s.dev.accepts c.val up = true ∧ s.dev.heldOff c.val T = false ∧ s.dev.deadTime c.val T = true) ∧
    (∃ (s : State) (c : TioId) (up : Bool) (n : Nat) (b : Fin 640) (T : Ticks), T = tIn n ((s.dev.tioCh c.val).centres.getD b.val 0) (Config.tioPinDelay c.val s.dev.sys.dieTemp) (s.dev.get F.TIO_DELAY_IN_EXT c.val) ∧
      s.dev.tioEn c.val = true ∧ s.dev.tioMode c.val = 0 ∧ s.dev.tioReady c.val = true ∧
      (∀ k < 48, (s.dev.tioCh k).meas = none) ∧ (s.dev.tioCh c.val).fifo.length + (s.dev.tioCh c.val).badSlots < 64 ∧
      (s.dev.accepts c.val up = false ∨ s.dev.heldOff c.val T = true)) ∧
    (∃ (s : State) (c : TioId) (n : Nat) (b : Fin 640) (T : Ticks), T = tIn n ((s.dev.tioCh c.val).centres.getD b.val 0) (Config.tioPinDelay c.val s.dev.sys.dieTemp) (s.dev.get F.TIO_DELAY_IN_EXT c.val) ∧
      s.dev.tioEn c.val = true ∧ s.dev.tioMode c.val = 0 ∧ s.dev.tioReady c.val = true ∧
      (∀ k < 48, (s.dev.tioCh k).meas = none) ∧ (s.dev.tioCh c.val).fifo.length + (s.dev.tioCh c.val).badSlots < 64 ∧
      (s.dev.tioCh c.val).noEdgeUs ≠ 0 ∧ (s.dev.tioCh c.val).noEdge = false) :=
  ⟨⟨s_inputEdges_1, 0, true, 0, 0, (tIn 0 ((s_inputEdges_1.dev.tioCh (Fin.ofNat 48 0).val).centres.getD (Fin.ofNat 640 0).val 0) (Config.tioPinDelay (Fin.ofNat 48 0).val s_inputEdges_1.dev.sys.dieTemp) (s_inputEdges_1.dev.get F.TIO_DELAY_IN_EXT (Fin.ofNat 48 0).val)), rfl, by decide +kernel⟩,
   ⟨s_inputEdges_2, 0, true, 0, 0, 0, (tIn_zero _ _ _).symm, by decide +kernel⟩,
   ⟨s_inputEdges_3, 0, true, 0, 0, (tIn 0 ((s_inputEdges_3.dev.tioCh (Fin.ofNat 48 0).val).centres.getD (Fin.ofNat 640 0).val 0) (Config.tioPinDelay (Fin.ofNat 48 0).val s_inputEdges_3.dev.sys.dieTemp) (s_inputEdges_3.dev.get F.TIO_DELAY_IN_EXT (Fin.ofNat 48 0).val)), rfl, by decide +kernel⟩,
   ⟨s_inputEdges_4, 0, 0, 0, (tIn 0 ((s_inputEdges_4.dev.tioCh (Fin.ofNat 48 0).val).centres.getD (Fin.ofNat 640 0).val 0) (Config.tioPinDelay (Fin.ofNat 48 0).val s_inputEdges_4.dev.sys.dieTemp) (s_inputEdges_4.dev.get F.TIO_DELAY_IN_EXT (Fin.ofNat 48 0).val)), rfl, by decide +kernel⟩⟩

def s_measurements_1 : State := run |> S F.GLB_BOOT_STAT_STAGE 7 0 |> B F.TIO_CFG_EN true 0 |> B F.TIO_STAT_READY true 0
    |> B F.TIO_STAT_TDC_RETIRED false 0 |> S F.TIO_CFG_MODE 1 0 |> S F.TIO_MEAS_CFG_STOP_CH (1 % 24) 0
    |> S F.TIO_CFG_MODE 0 (1 % 24) |> B F.TIO_CFG_EN true (1 % 24) |> S F.TIO_CFG_MODE 1 0 |> S F.TIO_TIMEOUT_TIMEOUT 500 0
    |> S F.TIO_GATE_GATE 0 0
def s_measurements_2 : State := run |> S F.GLB_BOOT_STAT_STAGE 7 0 |> B F.TIO_CFG_EN true 0 |> B F.TIO_STAT_READY true 0
    |> B F.TIO_STAT_TDC_RETIRED false 0
    |> OnTio 0 (fun t => { t with meas := some (⟨1, 3, true, 2, 3, 0 == 1, if 0 % 2 = 0 then none else some ⟨0, true, 5⟩, none, none, 0, false⟩ : TioMeas) })
/-- Each clause of `Measurements` has a state and operands that meet its hypotheses. -/
theorem test_measurements_hypotheses :
    (∃ (s : State) (c : TioId), s.dev.firnReach = true ∧ c.val < s.dev.tios ∧ 1 ≤ s.dev.tioMode c.val ∧
      s.dev.tioMode c.val ≤ 4 ∧ ((s.dev.tioMode c.val = 1 → s.dev.get F.TIO_MEAS_CFG_STOP_CH c.val ≠ c.val ∧
      s.dev.tioTimestamps (s.dev.get F.TIO_MEAS_CFG_STOP_CH c.val) = true)) ∧
      ((s.dev.tioMode c.val = 3 → s.dev.get F.TIO_GATE_GATE c.val < max 1 (s.dev.get F.TIO_TIMEOUT_TIMEOUT c.val))) ∧
      s.dev.flag F.TIO_STAT_TDC_RETIRED c.val = false ∧ s.dev.tioReady c.val = true ∧ (s.dev.tioCh c.val).meas = none) ∧
    (∃ (s : State) (c : TioId) (m : TioMeas), (s.dev.tioCh c.val).meas = some m ∧
      (s.dev.tioCh c.val).fifo.length + (s.dev.tioCh c.val).badSlots < 64 ∧ s.dev.firnReach = true ∧ c.val < s.dev.tios) ∧
    (∃ (s : State) (c : TioId) (m : TioMeas), (s.dev.tioCh c.val).meas = some m ∧
      (s.dev.tioCh c.val).fifo.length + (s.dev.tioCh c.val).badSlots < 64) :=
  ⟨⟨s_measurements_1, 0, by decide +kernel⟩,
   ⟨s_measurements_2, 0, (⟨1, 3, true, 2, 3, 0 == 1, if 0 % 2 = 0 then none else some ⟨0, true, 5⟩, none, none, 0, false⟩ : TioMeas), by decide +kernel⟩,
   ⟨s_measurements_2, 0, (⟨1, 3, true, 2, 3, 0 == 1, if 0 % 2 = 0 then none else some ⟨0, true, 5⟩, none, none, 0, false⟩ : TioMeas), by decide +kernel⟩⟩

def s_schedules_1 : State := run |> S F.GLB_BOOT_STAT_STAGE 7 0 |> B F.TIO_CFG_EN true 0 |> B F.TIO_STAT_READY true 0
    |> B F.TIO_STAT_TDC_RETIRED false 0 |> S F.TIO_CFG_MODE 5 0 |> S F.TIO_OUT_CFG_START_SRC 1 0
    |> B F.TIO_STAT_OUT_RETIRED false 0 |> OnTio 0 (fun t => { t with sched := none, trig := none })
    |> S F.TIO_WID_HI_WID 0 0 |> S F.TIO_WID_LO_WID 5000 0 |> S F.TIO_PER_LO_PER 100000000 0
def s_schedules_2 : State := run |> S F.GLB_BOOT_STAT_STAGE 7 0 |> B F.TIO_CFG_EN true 0 |> B F.TIO_STAT_READY true 0
    |> B F.TIO_STAT_TDC_RETIRED false 0
    |> OnTio 0 (fun t => { t with sched := some (⟨5, 100000, 5000, 0, 0, false, 0, 1, false, 0⟩ : TioSched) })
def s_schedules_3 : State := run |> S F.GLB_BOOT_STAT_STAGE 7 0 |> B F.TIO_CFG_EN true 0 |> B F.TIO_STAT_READY true 0
    |> B F.TIO_STAT_TDC_RETIRED false 0
    |> OnTio 0 (fun t => { t with sched := some (⟨5, 100000, 5000, (if 0 % 2 = 0 then 0 else 9), 0, true, 0, 1, false, 0⟩ : TioSched) })
def s_schedules_4 : State := run |> S F.GLB_BOOT_STAT_STAGE 7 0 |> B F.TIO_CFG_EN true 0 |> B F.TIO_STAT_READY true 0
    |> B F.TIO_STAT_TDC_RETIRED false 0
    |> OnTio 0 (fun t => { t with sched := some (⟨5, 100000, 5000, 1, 0, true, 0, 1, false, 0⟩ : TioSched) })
def s_schedules_5 : State := run |> S F.GLB_BOOT_STAT_STAGE 7 0 |> B F.TIO_CFG_EN true 0 |> B F.TIO_STAT_READY true 0
    |> B F.TIO_STAT_TDC_RETIRED false 0
    |> OnTio 0 (fun t => { t with sched := some (⟨30000000000000000, 100000, 5000, 0, 0, false, 0, 1, false, 0⟩ : TioSched) })
def s_schedules_6 : State := run |> S F.GLB_BOOT_STAT_STAGE 7 0 |> B F.TIO_CFG_EN true 0 |> B F.TIO_STAT_READY true 0
    |> B F.TIO_STAT_TDC_RETIRED false 0
    |> OnTio 0 (fun t => { t with sched := some (⟨15258789000000, 100000, 5000, 0, 0, 0 == 1, 0, 1, false, 0⟩ : TioSched) })
/-- Each clause of `Schedules` has a state and operands that meet its hypotheses. -/
theorem test_schedules_hypotheses :
    (∃ (s : State) (c : TioId), s.dev.firnReach = true ∧ c.val < s.dev.tios ∧ s.dev.tioMode c.val = 5 ∧
      s.dev.flag F.TIO_STAT_OUT_RETIRED c.val = false ∧ s.dev.tioReady c.val = true ∧ (s.dev.tioCh c.val).sched = none ∧
      (s.dev.tioCh c.val).trig = none ∧ s.dev.widthOk c.val = true ∧ s.dev.get F.TIO_OUT_CFG_START_SRC c.val = 1) ∧
    (∃ (s : State) (c : TioId) (sch : TioSched), (s.dev.tioCh c.val).sched = some sch ∧ sch.high = false) ∧
    (∃ (s : State) (c : TioId) (sch : TioSched), (s.dev.tioCh c.val).sched = some sch ∧ sch.high = true ∧
      (sch.count = 0 ∨ sch.sent + 1 < sch.count)) ∧
    (∃ (s : State) (c : TioId) (sch : TioSched), (s.dev.tioCh c.val).sched = some sch ∧ sch.high = true ∧ sch.count ≠ 0 ∧
      sch.count ≤ sch.sent + 1) ∧
    (∃ (s : State) (c : TioId) (sch : TioSched), (s.dev.tioCh c.val).sched = some sch ∧ s.dev.firnReach = true ∧
      c.val < s.dev.tios ∧ sch.keeps s.dev.now ≤ sch.sent) ∧
    (∃ (s : State) (c : TioId) (sch : TioSched), (s.dev.tioCh c.val).sched = some sch ∧ s.dev.firnReach = true ∧
      c.val < s.dev.tios ∧ sch.sent < sch.keeps s.dev.now) :=
  ⟨⟨s_schedules_1, 0, by decide +kernel⟩,
   ⟨s_schedules_2, 0, (⟨5, 100000, 5000, 0, 0, false, 0, 1, false, 0⟩ : TioSched), by decide +kernel⟩,
   ⟨s_schedules_3, 0, (⟨5, 100000, 5000, (if 0 % 2 = 0 then 0 else 9), 0, true, 0, 1, false, 0⟩ : TioSched), by decide +kernel⟩,
   ⟨s_schedules_4, 0, (⟨5, 100000, 5000, 1, 0, true, 0, 1, false, 0⟩ : TioSched), by decide +kernel⟩,
   ⟨s_schedules_5, 0, (⟨30000000000000000, 100000, 5000, 0, 0, false, 0, 1, false, 0⟩ : TioSched), by decide +kernel⟩,
   ⟨s_schedules_6, 0, (⟨15258789000000, 100000, 5000, 0, 0, 0 == 1, 0, 1, false, 0⟩ : TioSched), by decide +kernel⟩⟩

def s_recordFifo_1 : State := run |> S F.GLB_BOOT_STAT_STAGE 7 0 |> B F.TIO_CFG_EN true 0 |> B F.TIO_STAT_READY true 0
    |> B F.TIO_STAT_TDC_RETIRED false 0
def s_recordFifo_2 : State := run |> S F.GLB_BOOT_STAT_STAGE 7 0 |> B F.TIO_CFG_EN true 0 |> B F.TIO_STAT_READY true 0
    |> B F.TIO_STAT_TDC_RETIRED false 0
    |> OnTio 0 (fun t => { t with fifo := [⟨1, 2, 3, 0, 99, -5, 7⟩, ⟨2, 2, 3, 4, 98, 0, 1⟩] })
def s_recordFifo_5 : State := run |> S F.GLB_BOOT_STAT_STAGE 7 0 |> B F.TIO_CFG_EN true 0 |> B F.TIO_STAT_READY true 0
    |> B F.TIO_STAT_TDC_RETIRED false 0 |> B F.TIO_STAT_OUT_RETIRED false 0
/-- Each clause of `RecordFifo` has a state and operands that meet its hypotheses. -/
theorem test_recordFifo_hypotheses :
    (∃ (s : State), (hostIdle s.dev = true ∨ s.dev.pcie.ready = false)) ∧
    (∃ (s : State) (c : TioId) (r : _) (rest : _), s.dev.firnReach = true ∧ c.val < s.dev.tios ∧
      (hostIdle s.dev = true ∨ s.dev.pcie.ready = false) ∧ (s.dev.tioCh c.val).fifo = r :: rest ∧ rest.length < 64) ∧
    (∃ (s : State) (c : TioId), s.dev.firnReach = true ∧ c.val < s.dev.tios ∧
      (hostIdle s.dev = true ∨ s.dev.pcie.ready = false) ∧ (s.dev.tioCh c.val).fifo = []) ∧
    (∃ (s : State) (c : TioId) (i : Fin 64), i.val < (s.dev.tioCh c.val).fifo.length) ∧
    (∃ (s : State) (c : TioId), s.dev.flag F.TIO_STAT_OUT_RETIRED c.val = false) :=
  ⟨⟨s_recordFifo_1, by decide +kernel⟩,
   ⟨s_recordFifo_2, 0, (⟨1, 2, 3, 0, 99, -5, 7⟩ : TioRec), ([⟨2, 2, 3, 4, 98, 0, 1⟩] : List TioRec), by decide +kernel⟩,
   ⟨s_recordFifo_1, 0, by decide +kernel⟩,
   ⟨s_recordFifo_2, 0, 0, by decide +kernel⟩,
   ⟨s_recordFifo_5, 0, by decide +kernel⟩⟩

def s_beatSamples_1 : State := run |> D (fun d => { d with ident := { d.ident with variant := 2 } })
    |> S F.PWR_STAT_FAST 2 0 |> B F.LANE_QUAD_STAT_LINK_UP true 0 |> S F.LANE_QUAD_CFG_MODE 2 0
    |> S F.GLB_BOOT_STAT_STAGE 7 0 |> OnPort 0 (fun x => { x with inLoop := false }) |> S F.PRT_PTP_CFG_INSTANCE 0 0
    |> OnInst 0 (fun x => { x with made := true, kind := 0, profile := 0 })
    |> OnSys (fun y => { y with cpStopped := false }) |> S F.LANE_QUAD_STAT_RX_SLEEP 0 0
def s_beatSamples_3 : State := run |> D (fun d => { d with ident := { d.ident with variant := 2 } })
    |> S F.PWR_STAT_FAST 2 0 |> B F.LANE_QUAD_STAT_LINK_UP true 0 |> S F.LANE_QUAD_CFG_MODE 2 0
    |> S F.GLB_BOOT_STAT_STAGE 7 0 |> OnPort 0 (fun x => { x with inLoop := false }) |> S F.PRT_PTP_CFG_INSTANCE 0 0
    |> OnInst 0 (fun x => { x with made := true, kind := 0, profile := 0 })
    |> OnSys (fun y => { y with cpStopped := false }) |> S F.LANE_QUAD_STAT_RX_SLEEP 2 0
/-- Each clause of `BeatSamples` has a state and operands that meet its hypotheses. -/
theorem test_beatSamples_hypotheses :
    (∃ (s : State) (p : PortId) (w : Bool), (s.dev.rxSleep p.val = 0 ∨ s.dev.rxSleep p.val = 1) ∧
      s.dev.portUp p.val = true ∧ w = true) ∧
    (∃ (s : State) (p : PortId) (w : Bool), (s.dev.rxSleep p.val = 0 ∨ s.dev.rxSleep p.val = 1) ∧
      (s.dev.portUp p.val = false ∨ w = false)) ∧
    (∃ (s : State) (p : PortId), (s.dev.rxSleep p.val = 2 ∨ s.dev.rxSleep p.val = 3)) :=
  ⟨⟨s_beatSamples_1, 0, true, by decide +kernel⟩,
   ⟨s_beatSamples_1, 0, false, by decide +kernel⟩,
   ⟨s_beatSamples_3, 0, by decide +kernel⟩⟩

def s_syncMessages_1 : State := run |> D (fun d => { d with ident := { d.ident with variant := 2 } })
    |> S F.PWR_STAT_FAST 2 0 |> B F.LANE_QUAD_STAT_LINK_UP true 0 |> S F.LANE_QUAD_CFG_MODE 2 0
    |> S F.GLB_BOOT_STAT_STAGE 7 0 |> OnPort 0 (fun x => { x with inLoop := false }) |> S F.PRT_PTP_CFG_INSTANCE 0 0
    |> OnInst 0 (fun x => { x with made := true, kind := 0, profile := 0 })
    |> OnSys (fun y => { y with cpStopped := false }) |> S F.PRT_PTU_STAT_PORT_STATE 8 0
    |> OnPtu 0 (fun x => { x with announce := some (⟨BitVec.ofNat 64 0, 0, 0, 0, 0, false⟩, ⟨5, 0, 0, 0, 0, 7, 3, 2, 37, true, false, false, true, true⟩) })
    |> B F.TB_HB_STAT_FROZEN false 0 |> B F.PRT_PTU_STAT_DELAY_VALID true 0
def s_syncMessages_3 : State := run |> D (fun d => { d with ident := { d.ident with variant := 2 } })
    |> S F.PWR_STAT_FAST 2 0 |> B F.LANE_QUAD_STAT_LINK_UP true 0 |> S F.LANE_QUAD_CFG_MODE 2 0
    |> S F.GLB_BOOT_STAT_STAGE 7 0 |> OnPort 0 (fun x => { x with inLoop := false }) |> S F.PRT_PTP_CFG_INSTANCE 0 0
    |> OnInst 0 (fun x => { x with made := true, kind := 0, profile := 0 })
    |> OnSys (fun y => { y with cpStopped := false }) |> S F.PRT_PTU_STAT_PORT_STATE 8 0
    |> OnPtu 0 (fun x => { x with announce := some (⟨BitVec.ofNat 64 0, 0, 0, 0, 0, false⟩, ⟨5, 0, 0, 0, 0, 7, 3, 2, 37, true, false, false, true, true⟩) })
    |> B F.TB_HB_STAT_FROZEN false 0 |> B F.PRT_PTU_STAT_DELAY_VALID true 0
    |> OnPtu 0 (fun x => { x with syncWait := some (⟨0, 0, (0 : Nat), false, if 0 % 2 = 0 then none else some (0 : Nat)⟩ : SyncWait) })
/-- Each clause of `SyncMessages` has a state and operands that meet its hypotheses. -/
theorem test_syncMessages_hypotheses :
    (∃ (s : State) (p : PortId) (m : PtpMsg) (c : Capture) (t2 : Int), t2 = s.dev.tRx p.val c ∧
      s.dev.sys.cpStopped = false ∧ s.dev.clockPort p.val = true ∧ s.dev.isSlave p.val = true ∧
      s.dev.fromParent p.val m = true ∧ s.dev.flag F.TB_HB_STAT_FROZEN = false ∧ m.twoStep = false ∧
      s.dev.flag F.PRT_PTU_STAT_DELAY_VALID p.val = true) ∧
    (∃ (s : State) (p : PortId) (m : PtpMsg) (c : Capture) (t2 : Int), t2 = s.dev.tRx p.val c ∧
      s.dev.sys.cpStopped = false ∧ s.dev.clockPort p.val = true ∧ s.dev.isSlave p.val = true ∧
      s.dev.fromParent p.val m = true ∧ s.dev.flag F.TB_HB_STAT_FROZEN = false ∧ m.twoStep = true) ∧
    (∃ (s : State) (p : PortId) (m : PtpMsg) (w : SyncWait), s.dev.sys.cpStopped = false ∧ s.dev.clockPort p.val = true ∧
      s.dev.isSlave p.val = true ∧ s.dev.fromParent p.val m = true ∧ (s.dev.ptu p.val).syncWait = some w ∧ w.seq = m.seq ∧
      w.frozen = false ∧ s.dev.flag F.PRT_PTU_STAT_DELAY_VALID p.val = true) :=
  ⟨⟨s_syncMessages_1, 0, (⟨BitVec.ofNat 64 0, 0, 0, (0 : Nat), 0, false⟩ : PtpMsg), (⟨0, 0, 0, 0⟩ : Capture), (s_syncMessages_1.dev.tRx (Fin.ofNat 32 0).val (⟨0, 0, 0, 0⟩ : Capture) : Int), rfl, by decide +kernel⟩,
   ⟨s_syncMessages_1, 0, (⟨BitVec.ofNat 64 0, 0, 0, (0 : Nat), 0, true⟩ : PtpMsg), (⟨0, 0, 0, 0⟩ : Capture), (s_syncMessages_1.dev.tRx (Fin.ofNat 32 0).val (⟨0, 0, 0, 0⟩ : Capture) : Int), rfl, by decide +kernel⟩,
   ⟨s_syncMessages_3, 0, (⟨BitVec.ofNat 64 0, 0, 0, (0 : Nat), 0, 0 == 1⟩ : PtpMsg), (⟨0, 0, (0 : Nat), false, if 0 % 2 = 0 then none else some (0 : Nat)⟩ : SyncWait), by decide +kernel⟩⟩

def s_announceMessages_1 : State := run |> D (fun d => { d with ident := { d.ident with variant := 2 } })
    |> S F.PWR_STAT_FAST 2 0 |> B F.LANE_QUAD_STAT_LINK_UP true 0 |> S F.LANE_QUAD_CFG_MODE 2 0
    |> S F.GLB_BOOT_STAT_STAGE 7 0 |> OnPort 0 (fun x => { x with inLoop := false }) |> S F.PRT_PTP_CFG_INSTANCE 0 0
    |> OnInst 0 (fun x => { x with made := true, kind := 0, profile := 0 })
    |> OnSys (fun y => { y with cpStopped := false }) |> OnPtu 0 (fun x => { x with announce := none })
def s_announceMessages_2 : State := run |> D (fun d => { d with ident := { d.ident with variant := 2 } })
    |> S F.PWR_STAT_FAST 2 0 |> B F.LANE_QUAD_STAT_LINK_UP true 0 |> S F.LANE_QUAD_CFG_MODE 2 0
    |> S F.GLB_BOOT_STAT_STAGE 7 0 |> OnPort 0 (fun x => { x with inLoop := false }) |> S F.PRT_PTP_CFG_INSTANCE 0 0
    |> OnInst 0 (fun x => { x with made := true, kind := 0, profile := 0 })
    |> OnSys (fun y => { y with cpStopped := false }) |> S F.PRT_PTU_STAT_PORT_STATE 6 0
    |> S F.LANE_QUAD_STAT_TX_SLEEP (if 0 % 2 = 0 then 0 else 1) 0 |> OnInst 0 (fun x => { x with profile := 0 })
def s_announceMessages_3 : State := run |> D (fun d => { d with ident := { d.ident with variant := 2 } })
    |> S F.PWR_STAT_FAST 2 0 |> B F.LANE_QUAD_STAT_LINK_UP true 0 |> S F.LANE_QUAD_CFG_MODE 2 0
    |> S F.GLB_BOOT_STAT_STAGE 7 0 |> OnPort 0 (fun x => { x with inLoop := false }) |> S F.PRT_PTP_CFG_INSTANCE 0 0
    |> OnInst 0 (fun x => { x with made := true, kind := 0, profile := 0 })
    |> OnSys (fun y => { y with cpStopped := false }) |> S F.PRT_PTU_STAT_PORT_STATE 6 0 |> S F.LANE_QUAD_STAT_TX_SLEEP 2 0
    |> OnInst 0 (fun x => { x with profile := 0 })
def s_announceMessages_4 : State := run |> D (fun d => { d with ident := { d.ident with variant := 2 } })
    |> S F.PWR_STAT_FAST 2 0 |> B F.LANE_QUAD_STAT_LINK_UP true 0 |> S F.LANE_QUAD_CFG_MODE 2 0
    |> S F.GLB_BOOT_STAT_STAGE 7 0 |> OnPort 0 (fun x => { x with inLoop := false }) |> S F.PRT_PTP_CFG_INSTANCE 0 0
    |> OnInst 0 (fun x => { x with made := true, kind := 0, profile := 0 })
    |> OnSys (fun y => { y with cpStopped := false }) |> S F.PRT_PTU_STAT_PORT_STATE 8 0 |> S F.LANE_QUAD_STAT_RX_SLEEP 0 0
/-- Each clause of `AnnounceMessages` has a state and operands that meet its hypotheses. -/
theorem test_announceMessages_hypotheses :
    (∃ (s : State) (p : PortId) (m : PtpMsg), s.dev.sys.cpStopped = false ∧ s.dev.clockPort p.val = true ∧
      ((s.dev.ptu p.val).announce = none ∨ s.dev.fromParent p.val m = true)) ∧
    (∃ (s : State) (p : PortId) (i : Nat), s.dev.sys.cpStopped = false ∧ s.dev.clockPort p.val = true ∧
      s.dev.instOf p.val = some i ∧ s.dev.ptpState p.val = 6 ∧ s.dev.granted p.val 0xB = true ∧
      (s.dev.ptu p.val).due = [] ∧ s.dev.txSleep p.val ≤ 1) ∧
    (∃ (s : State) (p : PortId) (i : Nat), s.dev.sys.cpStopped = false ∧ s.dev.clockPort p.val = true ∧
      s.dev.instOf p.val = some i ∧ s.dev.ptpState p.val = 6 ∧ s.dev.granted p.val 0xB = true ∧
      (s.dev.ptu p.val).due = [] ∧ 2 ≤ s.dev.txSleep p.val ∧ s.dev.txSleep p.val ≤ 5 ∧
      (s.dev.ptu p.val).annSent ≠ some (s.dev.announceOf i)) ∧
    (∃ (s : State) (p : PortId), s.dev.sys.cpStopped = false ∧ s.dev.clockPort p.val = true ∧ s.dev.rxSleep p.val ≠ 2 ∧
      s.dev.rxSleep p.val ≠ 3 ∧ s.dev.isSlave p.val = true) :=
  ⟨⟨s_announceMessages_1, 0, (⟨BitVec.ofNat 64 0, 0, 0, (0 : Nat), 0, false⟩ : PtpMsg), by decide +kernel⟩,
   ⟨s_announceMessages_2, 0, 0, by decide +kernel⟩,
   ⟨s_announceMessages_3, 0, 0, by decide +kernel⟩,
   ⟨s_announceMessages_4, 0, by decide +kernel⟩⟩

def s_sentSyncs_1 : State := run |> D (fun d => { d with ident := { d.ident with variant := 2 } }) |> S F.PWR_STAT_FAST 2 0
    |> B F.LANE_QUAD_STAT_LINK_UP true 0 |> S F.LANE_QUAD_CFG_MODE 2 0 |> S F.GLB_BOOT_STAT_STAGE 7 0
    |> OnPort 0 (fun x => { x with inLoop := false }) |> S F.PRT_PTP_CFG_INSTANCE 0 0
    |> OnInst 0 (fun x => { x with made := true, kind := 0, profile := 0 })
    |> OnSys (fun y => { y with cpStopped := false }) |> S F.PRT_PTU_STAT_PORT_STATE 6 0
    |> S F.LANE_QUAD_STAT_TX_SLEEP (if 0 % 2 = 0 then 0 else 1) 0
    |> OnPtu 0 (fun x => { x with grants := [0, 1, 2, 9, 11] }) |> B F.PRT_PTP_CFG_ONE_STEP true 0
def s_sentSyncs_2 : State := run |> D (fun d => { d with ident := { d.ident with variant := 2 } }) |> S F.PWR_STAT_FAST 2 0
    |> B F.LANE_QUAD_STAT_LINK_UP true 0 |> S F.LANE_QUAD_CFG_MODE 2 0 |> S F.GLB_BOOT_STAT_STAGE 7 0
    |> OnPort 0 (fun x => { x with inLoop := false }) |> S F.PRT_PTP_CFG_INSTANCE 0 0
    |> OnInst 0 (fun x => { x with made := true, kind := 0, profile := 0 })
    |> OnSys (fun y => { y with cpStopped := false }) |> S F.PRT_PTU_STAT_PORT_STATE 6 0
    |> S F.LANE_QUAD_STAT_TX_SLEEP (if 0 % 2 = 0 then 0 else 1) 0
    |> OnPtu 0 (fun x => { x with grants := [0, 1, 2, 9, 11] }) |> B F.PRT_PTP_CFG_ONE_STEP false 0
def s_sentSyncs_3 : State := run |> D (fun d => { d with ident := { d.ident with variant := 2 } }) |> S F.PWR_STAT_FAST 2 0
    |> B F.LANE_QUAD_STAT_LINK_UP true 0 |> S F.LANE_QUAD_CFG_MODE 2 0 |> S F.GLB_BOOT_STAT_STAGE 7 0
    |> OnPort 0 (fun x => { x with inLoop := false }) |> S F.PRT_PTP_CFG_INSTANCE 0 0
    |> OnInst 0 (fun x => { x with made := true, kind := 0, profile := 0 })
    |> OnSys (fun y => { y with cpStopped := false }) |> S F.PRT_PTU_STAT_PORT_STATE 6 0
    |> S F.LANE_QUAD_STAT_TX_SLEEP (if 0 % 2 = 0 then 0 else 1) 0
    |> OnPtu 0 (fun x => { x with grants := [0, 1, 2, 9, 11] }) |> OnPtu 0 (fun x => { x with followTx := some (7, 0) })
def s_sentSyncs_4 : State := run |> D (fun d => { d with ident := { d.ident with variant := 2 } }) |> S F.PWR_STAT_FAST 2 0
    |> B F.LANE_QUAD_STAT_LINK_UP true 0 |> S F.LANE_QUAD_CFG_MODE 2 0 |> S F.GLB_BOOT_STAT_STAGE 7 0
    |> OnPort 0 (fun x => { x with inLoop := false }) |> S F.PRT_PTP_CFG_INSTANCE 0 0
    |> OnInst 0 (fun x => { x with made := true, kind := 0, profile := 0 })
    |> OnSys (fun y => { y with cpStopped := false }) |> S F.PRT_PTU_STAT_PORT_STATE 6 0
    |> S F.LANE_QUAD_STAT_TX_SLEEP (if 0 % 2 = 0 then 0 else 1) 0
    |> OnPtu 0 (fun x => { x with grants := [0, 1, 2, 9, 11] }) |> S F.LANE_QUAD_STAT_TX_SLEEP 5 0
def s_sentSyncs_5 : State := run |> D (fun d => { d with ident := { d.ident with variant := 2 } }) |> S F.PWR_STAT_FAST 2 0
    |> B F.LANE_QUAD_STAT_LINK_UP true 0 |> S F.LANE_QUAD_CFG_MODE 2 0 |> S F.GLB_BOOT_STAT_STAGE 7 0
    |> OnPort 0 (fun x => { x with inLoop := false }) |> S F.PRT_PTP_CFG_INSTANCE 0 0
    |> OnInst 0 (fun x => { x with made := true, kind := 0, profile := 0 })
    |> OnSys (fun y => { y with cpStopped := false }) |> S F.PRT_PTU_STAT_PORT_STATE 6 0
    |> S F.LANE_QUAD_STAT_TX_SLEEP (if 0 % 2 = 0 then 0 else 1) 0
    |> OnPtu 0 (fun x => { x with grants := [0, 1, 2, 9, 11] }) |> S F.LANE_QUAD_STAT_TX_SLEEP 4 0
    |> OnPtu 0 (fun x => { x with due := [.sync ⟨0, 0, 0, 0⟩] })
/-- Each clause of `SentSyncs` has a state and operands that meet its hypotheses. -/
theorem test_sentSyncs_hypotheses :
    (∃ (s : State) (p : PortId) (c : Capture) (T : Ticks), T = s.dev.tTx p.val c ∧ s.dev.sys.cpStopped = false ∧
      s.dev.clockPort p.val = true ∧ s.dev.txSleep p.val ≤ 1 ∧ s.dev.ptpState p.val = 6 ∧ s.dev.granted p.val 0 = true ∧
      s.dev.flag F.PRT_PTP_CFG_ONE_STEP p.val = true) ∧
    (∃ (s : State) (p : PortId) (c : Capture) (T : Ticks), T = s.dev.tTx p.val c ∧ s.dev.sys.cpStopped = false ∧
      s.dev.clockPort p.val = true ∧ s.dev.txSleep p.val ≤ 1 ∧ s.dev.ptpState p.val = 6 ∧ s.dev.granted p.val 0 = true ∧
      s.dev.flag F.PRT_PTP_CFG_ONE_STEP p.val = false) ∧
    (∃ (s : State) (p : PortId) (T : Ticks) (q : Nat), s.dev.sys.cpStopped = false ∧ s.dev.clockPort p.val = true ∧
      s.dev.txSleep p.val ≤ 1 ∧ (s.dev.ptu p.val).followTx = some (q, T)) ∧
    (∃ (s : State) (p : PortId), s.dev.sys.cpStopped = false ∧ s.dev.clockPort p.val = true ∧ s.dev.txSleep p.val = 5 ∧
      s.dev.ptpState p.val = 6 ∧ s.dev.granted p.val 0 = true) ∧
    (∃ (s : State) (p : PortId) (c : Capture) (l : LatMeas), s.dev.sys.cpStopped = false ∧ s.dev.clockPort p.val = true ∧
      s.dev.txSleep p.val = 4 ∧ (s.dev.port p.val).deepens = false ∧ l.agree = true ∧ (s.dev.ptu p.val).due = [.sync c]) :=
  ⟨⟨s_sentSyncs_1, 0, (⟨0, 0, 0, 0⟩ : Capture), (s_sentSyncs_1.dev.tTx (Fin.ofNat 32 0).val (⟨0, 0, 0, 0⟩ : Capture)), rfl, by decide +kernel⟩,
   ⟨s_sentSyncs_2, 0, (⟨0, 0, 0, 0⟩ : Capture), (s_sentSyncs_2.dev.tTx (Fin.ofNat 32 0).val (⟨0, 0, 0, 0⟩ : Capture)), rfl, by decide +kernel⟩,
   ⟨s_sentSyncs_3, 0, 0, 7, by decide +kernel⟩,
   ⟨s_sentSyncs_4, 0, by decide +kernel⟩,
   ⟨s_sentSyncs_5, 0, (⟨0, 0, 0, 0⟩ : Capture), (⟨5, 6, true⟩ : LatMeas), by decide +kernel⟩⟩

def s_delayRequestResponse_1 : State := run |> D (fun d => { d with ident := { d.ident with variant := 2 } })
    |> S F.PWR_STAT_FAST 2 0 |> B F.LANE_QUAD_STAT_LINK_UP true 0 |> S F.LANE_QUAD_CFG_MODE 2 0
    |> S F.GLB_BOOT_STAT_STAGE 7 0 |> OnPort 0 (fun x => { x with inLoop := false }) |> S F.PRT_PTP_CFG_INSTANCE 0 0
    |> OnInst 0 (fun x => { x with made := true, kind := 0, profile := 0 })
    |> OnSys (fun y => { y with cpStopped := false }) |> OnPtu 0 (fun x => { x with grants := [0, 1, 2, 9, 11] })
    |> S F.PRT_PTU_STAT_PORT_STATE 6 0 |> OnInst 0 (fun x => { x with made := true, kind := 0, profile := 0 })
def s_delayRequestResponse_2 : State := run |> D (fun d => { d with ident := { d.ident with variant := 2 } })
    |> S F.PWR_STAT_FAST 2 0 |> B F.LANE_QUAD_STAT_LINK_UP true 0 |> S F.LANE_QUAD_CFG_MODE 2 0
    |> S F.GLB_BOOT_STAT_STAGE 7 0 |> OnPort 0 (fun x => { x with inLoop := false }) |> S F.PRT_PTP_CFG_INSTANCE 0 0
    |> OnInst 0 (fun x => { x with made := true, kind := 0, profile := 0 })
    |> OnSys (fun y => { y with cpStopped := false }) |> OnPtu 0 (fun x => { x with grants := [0, 1, 2, 9, 11] })
    |> OnInst 0 (fun x => { x with made := true, kind := 0, profile := 0 }) |> S F.PRT_PTU_STAT_PORT_STATE 8 0
    |> OnPtu 0 (fun x => { x with req := some (0, 0), syncTimes := some ((0 : Nat), (0 : Nat)), delays := [] })
def s_delayRequestResponse_3 : State := run |> D (fun d => { d with ident := { d.ident with variant := 2 } })
    |> S F.PWR_STAT_FAST 2 0 |> B F.LANE_QUAD_STAT_LINK_UP true 0 |> S F.LANE_QUAD_CFG_MODE 2 0
    |> S F.GLB_BOOT_STAT_STAGE 7 0 |> OnPort 0 (fun x => { x with inLoop := false }) |> S F.PRT_PTP_CFG_INSTANCE 0 0
    |> OnInst 0 (fun x => { x with made := true, kind := 0, profile := 0 })
    |> OnSys (fun y => { y with cpStopped := false }) |> OnPtu 0 (fun x => { x with grants := [0, 1, 2, 9, 11] })
    |> S F.PRT_PTU_STAT_PORT_STATE 8 0 |> S F.LANE_QUAD_STAT_TX_SLEEP 5 0
def s_delayRequestResponse_4 : State := run |> D (fun d => { d with ident := { d.ident with variant := 2 } })
    |> S F.PWR_STAT_FAST 2 0 |> B F.LANE_QUAD_STAT_LINK_UP true 0 |> S F.LANE_QUAD_CFG_MODE 2 0
    |> S F.GLB_BOOT_STAT_STAGE 7 0 |> OnPort 0 (fun x => { x with inLoop := false }) |> S F.PRT_PTP_CFG_INSTANCE 0 0
    |> OnInst 0 (fun x => { x with made := true, kind := 0, profile := 0 })
    |> OnSys (fun y => { y with cpStopped := false }) |> OnPtu 0 (fun x => { x with grants := [0, 1, 2, 9, 11] })
    |> S F.PRT_PTU_STAT_PORT_STATE 8 0 |> S F.LANE_QUAD_STAT_TX_SLEEP 0 0
def s_delayRequestResponse_5 : State := run |> D (fun d => { d with ident := { d.ident with variant := 2 } })
    |> S F.PWR_STAT_FAST 2 0 |> B F.LANE_QUAD_STAT_LINK_UP true 0 |> S F.LANE_QUAD_CFG_MODE 2 0
    |> S F.GLB_BOOT_STAT_STAGE 7 0 |> OnPort 0 (fun x => { x with inLoop := false }) |> S F.PRT_PTP_CFG_INSTANCE 0 0
    |> OnInst 0 (fun x => { x with made := true, kind := 0, profile := 0 })
    |> OnSys (fun y => { y with cpStopped := false }) |> OnPtu 0 (fun x => { x with grants := [0, 1, 2, 9, 11] })
    |> S F.PRT_PTU_STAT_PORT_STATE 8 0 |> S F.LANE_QUAD_STAT_RX_SLEEP 2 0 |> S F.LANE_QUAD_STAT_TX_SLEEP 0 0
def s_delayRequestResponse_6 : State := run |> D (fun d => { d with ident := { d.ident with variant := 2 } })
    |> S F.PWR_STAT_FAST 2 0 |> B F.LANE_QUAD_STAT_LINK_UP true 0 |> S F.LANE_QUAD_CFG_MODE 2 0
    |> S F.GLB_BOOT_STAT_STAGE 7 0 |> OnPort 0 (fun x => { x with inLoop := false }) |> S F.PRT_PTP_CFG_INSTANCE 0 0
    |> OnInst 0 (fun x => { x with made := true, kind := 0, profile := 0 })
    |> OnSys (fun y => { y with cpStopped := false }) |> OnPtu 0 (fun x => { x with grants := [0, 1, 2, 9, 11] })
    |> S F.PRT_PTU_STAT_PORT_STATE 8 0 |> S F.LANE_QUAD_STAT_RX_SLEEP 0 0
    |> S F.LANE_QUAD_STAT_TX_SLEEP (if 0 % 3 = 0 then 5 else 2) 0
/-- Each clause of `DelayRequestResponse` has a state and operands that meet its hypotheses. -/
theorem test_delayRequestResponse_hypotheses :
    (∃ (s : State) (p : PortId) (c : Capture) (T : Ticks), T = s.dev.tRx p.val c ∧ s.dev.sys.cpStopped = false ∧
      s.dev.clockPort p.val = true ∧ s.dev.txSleep p.val ≤ 1 ∧ s.dev.ptpState p.val = 6 ∧ s.dev.peerDelay p.val = false ∧
      s.dev.granted p.val 9 = true) ∧
    (∃ (s : State) (p : PortId) (m : PtpMsg) (t3 : Ticks) (a : Int) (b : Int), s.dev.sys.cpStopped = false ∧
      s.dev.clockPort p.val = true ∧ (s.dev.ptu p.val).req = some (m.seq, t3) ∧ (s.dev.ptu p.val).syncTimes = some (a, b) ∧
      s.dev.peerDelay p.val = false ∧ s.dev.isSlave p.val = true ∧ (s.dev.ptu p.val).delays = []) ∧
    (∃ (s : State) (p : PortId), s.dev.sys.cpStopped = false ∧ s.dev.clockPort p.val = true ∧
      s.dev.asksDelay p.val = true ∧ s.dev.txSleep p.val = 5) ∧
    (∃ (s : State) (p : PortId), s.dev.sys.cpStopped = false ∧ s.dev.clockPort p.val = true ∧
      s.dev.asksDelay p.val = true ∧ s.dev.txSleep p.val ≤ 1) ∧
    (∃ (s : State) (p : PortId), s.dev.sys.cpStopped = false ∧ s.dev.clockPort p.val = true ∧ s.dev.isSlave p.val = true ∧
      (asleep (s.dev.txSleep p.val) = true ∨ asleep (s.dev.rxSleep p.val) = true) ∧ s.dev.txSleep p.val ≤ 1) ∧
    (∃ (s : State) (p : PortId), s.dev.sys.cpStopped = false ∧ s.dev.clockPort p.val = true ∧ s.dev.isSlave p.val = true ∧
      (asleep (s.dev.txSleep p.val) = true ∨ asleep (s.dev.rxSleep p.val) = true) ∧ 2 ≤ s.dev.txSleep p.val ∧
      s.dev.txSleep p.val ≤ 5) :=
  ⟨⟨s_delayRequestResponse_1, 0, (⟨0, 0, 0, 0⟩ : Capture), (s_delayRequestResponse_1.dev.tRx (Fin.ofNat 32 0).val (⟨0, 0, 0, 0⟩ : Capture)), rfl, by decide +kernel⟩,
   ⟨s_delayRequestResponse_2, 0, (⟨BitVec.ofNat 64 0, 0, 0, (0 : Nat), 0, false⟩ : PtpMsg), 0, (0 : Nat), (0 : Nat), by decide +kernel⟩,
   ⟨s_delayRequestResponse_3, 0, by decide +kernel⟩,
   ⟨s_delayRequestResponse_4, 0, by decide +kernel⟩,
   ⟨s_delayRequestResponse_5, 0, by decide +kernel⟩,
   ⟨s_delayRequestResponse_6, 0, by decide +kernel⟩⟩

def s_peerDelayMessages_1 : State := run |> D (fun d => { d with ident := { d.ident with variant := 2 } })
    |> S F.PWR_STAT_FAST 2 0 |> B F.LANE_QUAD_STAT_LINK_UP true 0 |> S F.LANE_QUAD_CFG_MODE 2 0
    |> S F.GLB_BOOT_STAT_STAGE 7 0 |> OnPort 0 (fun x => { x with inLoop := false }) |> S F.PRT_PTP_CFG_INSTANCE 0 0
    |> OnInst 0 (fun x => { x with made := true, kind := 0, profile := 0 })
    |> OnSys (fun y => { y with cpStopped := false }) |> OnPtu 0 (fun x => { x with grants := [0, 1, 2, 9, 11] })
    |> OnInst 0 (fun x => { x with made := true, kind := 0, profile := 1 }) |> B F.TB_HB_STAT_FROZEN false 0
    |> B F.PRT_PTP_CFG_ONE_STEP true 0
def s_peerDelayMessages_2 : State := run |> D (fun d => { d with ident := { d.ident with variant := 2 } })
    |> S F.PWR_STAT_FAST 2 0 |> B F.LANE_QUAD_STAT_LINK_UP true 0 |> S F.LANE_QUAD_CFG_MODE 2 0
    |> S F.GLB_BOOT_STAT_STAGE 7 0 |> OnPort 0 (fun x => { x with inLoop := false }) |> S F.PRT_PTP_CFG_INSTANCE 0 0
    |> OnInst 0 (fun x => { x with made := true, kind := 0, profile := 0 })
    |> OnSys (fun y => { y with cpStopped := false }) |> OnPtu 0 (fun x => { x with grants := [0, 1, 2, 9, 11] })
    |> OnInst 0 (fun x => { x with made := true, kind := 0, profile := 1 }) |> B F.TB_HB_STAT_FROZEN false 0
    |> B F.PRT_PTP_CFG_ONE_STEP false 0
def s_peerDelayMessages_3 : State := run |> D (fun d => { d with ident := { d.ident with variant := 2 } })
    |> S F.PWR_STAT_FAST 2 0 |> B F.LANE_QUAD_STAT_LINK_UP true 0 |> S F.LANE_QUAD_CFG_MODE 2 0
    |> S F.GLB_BOOT_STAT_STAGE 7 0 |> OnPort 0 (fun x => { x with inLoop := false }) |> S F.PRT_PTP_CFG_INSTANCE 0 0
    |> OnInst 0 (fun x => { x with made := true, kind := 0, profile := 0 })
    |> OnSys (fun y => { y with cpStopped := false }) |> OnPtu 0 (fun x => { x with grants := [0, 1, 2, 9, 11] })
    |> OnInst 0 (fun x => { x with made := true, kind := 0, profile := 1 }) |> B F.TB_HB_STAT_FROZEN false 0
    |> OnPtu 0 (fun x => { x with req := some (0, 0), presp := some (0, (0 : Nat), 0), delays := [] })
/-- Each clause of `PeerDelayMessages` has a state and operands that meet its hypotheses. -/
theorem test_peerDelayMessages_hypotheses :
    (∃ (s : State) (p : PortId) (c : Capture) (k : Capture) (T : Ticks) (U : Ticks), T = s.dev.tRx p.val c ∧
      U = s.dev.tTx p.val k ∧ s.dev.sys.cpStopped = false ∧ s.dev.ptpPort p.val = true ∧ s.dev.txSleep p.val ≤ 1 ∧
      s.dev.peerDelay p.val = true ∧ s.dev.flag F.PRT_PTP_CFG_ONE_STEP p.val = true) ∧
    (∃ (s : State) (p : PortId) (c : Capture) (k : Capture) (T : Ticks) (U : Ticks), T = s.dev.tRx p.val c ∧
      U = s.dev.tTx p.val k ∧ s.dev.sys.cpStopped = false ∧ s.dev.ptpPort p.val = true ∧ s.dev.txSleep p.val ≤ 1 ∧
      s.dev.peerDelay p.val = true ∧ s.dev.flag F.PRT_PTP_CFG_ONE_STEP p.val = false) ∧
    (∃ (s : State) (p : PortId) (m : PtpMsg) (c : Capture) (T : Ticks) (t1 : Ticks), T = s.dev.tRx p.val c ∧
      s.dev.sys.cpStopped = false ∧ s.dev.ptpPort p.val = true ∧ (s.dev.ptu p.val).req = some (m.seq, t1) ∧
      s.dev.flag F.TB_HB_STAT_FROZEN = false ∧ m.twoStep = false ∧ (s.dev.ptu p.val).delays = []) ∧
    (∃ (s : State) (p : PortId) (m : PtpMsg) (c : Capture) (T : Ticks) (t1 : Ticks), T = s.dev.tRx p.val c ∧
      s.dev.sys.cpStopped = false ∧ s.dev.ptpPort p.val = true ∧ (s.dev.ptu p.val).req = some (m.seq, t1) ∧
      s.dev.flag F.TB_HB_STAT_FROZEN = false ∧ m.twoStep = true) ∧
    (∃ (s : State) (p : PortId) (m : PtpMsg) (c : Capture) (T : Ticks) (U : Ticks) (t1 : Ticks) (x : Int), T = s.dev.tRx p.val c ∧
      s.dev.sys.cpStopped = false ∧ s.dev.ptpPort p.val = true ∧ (s.dev.ptu p.val).req = some (m.seq, t1) ∧
      (s.dev.ptu p.val).presp = some (m.seq, x, U) ∧ (s.dev.ptu p.val).delays = []) :=
  ⟨⟨s_peerDelayMessages_1, 0, (⟨0, 0, 0, 0⟩ : Capture), (⟨0, 0, 0, 0⟩ : Capture), (s_peerDelayMessages_1.dev.tRx (Fin.ofNat 32 0).val (⟨0, 0, 0, 0⟩ : Capture)), (s_peerDelayMessages_1.dev.tTx (Fin.ofNat 32 0).val (⟨0, 0, 0, 0⟩ : Capture)), rfl, rfl, by decide +kernel⟩,
   ⟨s_peerDelayMessages_2, 0, (⟨0, 0, 0, 0⟩ : Capture), (⟨0, 0, 0, 0⟩ : Capture), (s_peerDelayMessages_2.dev.tRx (Fin.ofNat 32 0).val (⟨0, 0, 0, 0⟩ : Capture)), (s_peerDelayMessages_2.dev.tTx (Fin.ofNat 32 0).val (⟨0, 0, 0, 0⟩ : Capture)), rfl, rfl, by decide +kernel⟩,
   ⟨s_peerDelayMessages_3, 0, (⟨BitVec.ofNat 64 0, 0, 0, (0 : Nat), 0, false⟩ : PtpMsg), (⟨0, 0, 0, 0⟩ : Capture), (s_peerDelayMessages_3.dev.tRx (Fin.ofNat 32 0).val (⟨0, 0, 0, 0⟩ : Capture)), 0, rfl, by decide +kernel⟩,
   ⟨s_peerDelayMessages_3, 0, (⟨BitVec.ofNat 64 0, 0, 0, (0 : Nat), 0, true⟩ : PtpMsg), (⟨0, 0, 0, 0⟩ : Capture), (s_peerDelayMessages_3.dev.tRx (Fin.ofNat 32 0).val (⟨0, 0, 0, 0⟩ : Capture)), 0, rfl, by decide +kernel⟩,
   ⟨s_peerDelayMessages_3, 0, (⟨BitVec.ofNat 64 0, 0, 0, (0 : Nat), 0, false⟩ : PtpMsg), (⟨0, 0, 0, 0⟩ : Capture), (s_peerDelayMessages_3.dev.tRx (Fin.ofNat 32 0).val (⟨0, 0, 0, 0⟩ : Capture)), 0, 0, (0 : Nat), rfl, by decide +kernel⟩⟩

def s_bestMasterDecisions_1 : State := run |> S F.GLB_BOOT_STAT_STAGE 7 0 |> OnSys (fun y => { y with cpStopped := false })
    |> OnInst 0 (fun x => { x with made := true, kind := 0, profile := 0 })
    |> OnPort 0 (fun x => { x with inLoop := false }) |> B F.LANE_QUAD_STAT_LINK_UP true 0 |> S F.PRT_PTP_CFG_INSTANCE 0 0
    |> S F.PRT_PTU_STAT_PORT_STATE 4 0 |> S F.PRT_PTP_CFG_ROLE_PIN 1 0
def s_bestMasterDecisions_2 : State := run |> S F.GLB_BOOT_STAT_STAGE 7 0 |> OnSys (fun y => { y with cpStopped := false })
    |> OnInst 0 (fun x => { x with made := true, kind := 0, profile := 0 })
    |> OnPort 0 (fun x => { x with inLoop := false }) |> B F.LANE_QUAD_STAT_LINK_UP true 0 |> S F.PRT_PTP_CFG_INSTANCE 0 0
    |> S F.PRT_PTU_STAT_PORT_STATE 4 0 |> S F.PRT_PTP_CFG_ROLE_PIN 2 0
def s_bestMasterDecisions_3 : State := run |> S F.GLB_BOOT_STAT_STAGE 7 0 |> OnSys (fun y => { y with cpStopped := false })
    |> OnInst 0 (fun x => { x with made := true, kind := 0, profile := 0 })
    |> OnPort 0 (fun x => { x with inLoop := false }) |> B F.LANE_QUAD_STAT_LINK_UP true 0 |> S F.PRT_PTP_CFG_INSTANCE 0 0
    |> S F.PRT_PTU_STAT_PORT_STATE 4 0 |> (fun s => if 0 = 0 then s else B F.LANE_QUAD_STAT_LINK_UP false 0 s)
    |> (fun s => if 1 = 0 then s else B F.LANE_QUAD_STAT_LINK_UP false 1 s)
    |> (fun s => if 2 = 0 then s else B F.LANE_QUAD_STAT_LINK_UP false 2 s)
    |> (fun s => if 3 = 0 then s else B F.LANE_QUAD_STAT_LINK_UP false 3 s)
    |> (fun s => if 4 = 0 then s else B F.LANE_QUAD_STAT_LINK_UP false 4 s)
    |> (fun s => if 5 = 0 then s else B F.LANE_QUAD_STAT_LINK_UP false 5 s)
    |> (fun s => if 6 = 0 then s else B F.LANE_QUAD_STAT_LINK_UP false 6 s)
    |> (fun s => if 7 = 0 then s else B F.LANE_QUAD_STAT_LINK_UP false 7 s)
    |> (fun s => if 8 = 0 then s else B F.LANE_QUAD_STAT_LINK_UP false 8 s)
    |> (fun s => if 9 = 0 then s else B F.LANE_QUAD_STAT_LINK_UP false 9 s)
    |> (fun s => if 10 = 0 then s else B F.LANE_QUAD_STAT_LINK_UP false 10 s)
    |> (fun s => if 11 = 0 then s else B F.LANE_QUAD_STAT_LINK_UP false 11 s)
    |> (fun s => if 12 = 0 then s else B F.LANE_QUAD_STAT_LINK_UP false 12 s)
    |> (fun s => if 13 = 0 then s else B F.LANE_QUAD_STAT_LINK_UP false 13 s)
    |> (fun s => if 14 = 0 then s else B F.LANE_QUAD_STAT_LINK_UP false 14 s)
    |> (fun s => if 15 = 0 then s else B F.LANE_QUAD_STAT_LINK_UP false 15 s)
    |> (fun s => if 16 = 0 then s else B F.LANE_QUAD_STAT_LINK_UP false 16 s)
    |> (fun s => if 17 = 0 then s else B F.LANE_QUAD_STAT_LINK_UP false 17 s)
    |> (fun s => if 18 = 0 then s else B F.LANE_QUAD_STAT_LINK_UP false 18 s)
    |> (fun s => if 19 = 0 then s else B F.LANE_QUAD_STAT_LINK_UP false 19 s)
    |> (fun s => if 20 = 0 then s else B F.LANE_QUAD_STAT_LINK_UP false 20 s)
    |> (fun s => if 21 = 0 then s else B F.LANE_QUAD_STAT_LINK_UP false 21 s)
    |> (fun s => if 22 = 0 then s else B F.LANE_QUAD_STAT_LINK_UP false 22 s)
    |> (fun s => if 23 = 0 then s else B F.LANE_QUAD_STAT_LINK_UP false 23 s)
    |> (fun s => if 24 = 0 then s else B F.LANE_QUAD_STAT_LINK_UP false 24 s)
    |> (fun s => if 25 = 0 then s else B F.LANE_QUAD_STAT_LINK_UP false 25 s)
    |> (fun s => if 26 = 0 then s else B F.LANE_QUAD_STAT_LINK_UP false 26 s)
    |> (fun s => if 27 = 0 then s else B F.LANE_QUAD_STAT_LINK_UP false 27 s)
    |> (fun s => if 28 = 0 then s else B F.LANE_QUAD_STAT_LINK_UP false 28 s)
    |> (fun s => if 29 = 0 then s else B F.LANE_QUAD_STAT_LINK_UP false 29 s)
    |> (fun s => if 30 = 0 then s else B F.LANE_QUAD_STAT_LINK_UP false 30 s)
    |> (fun s => if 31 = 0 then s else B F.LANE_QUAD_STAT_LINK_UP false 31 s) |> S F.PRT_PTP_CFG_ROLE_PIN 0 0
    |> B F.PRT_PTP_CFG_MASTER_ONLY false 0 |> S F.PRT_PTU_STAT_PORT_STATE 4 0
    |> OnPtu 0 (fun x => { x with announce := some ((⟨BitVec.ofNat 64 0, 0, 0, (0 : Nat), 0, false⟩ : PtpMsg), ⟨5, 1, 6, 3, 1, 7, 3, 2, 37, true, false, false, true, true⟩) })
def s_bestMasterDecisions_4 : State := run |> S F.GLB_BOOT_STAT_STAGE 7 0 |> OnSys (fun y => { y with cpStopped := false })
    |> OnInst 0 (fun x => { x with made := true, kind := 0, profile := 0 })
    |> OnPort 0 (fun x => { x with inLoop := false }) |> B F.LANE_QUAD_STAT_LINK_UP true 0 |> S F.PRT_PTP_CFG_INSTANCE 0 0
    |> S F.PRT_PTU_STAT_PORT_STATE 4 0 |> (fun s => if 0 = 0 then s else B F.LANE_QUAD_STAT_LINK_UP false 0 s)
    |> (fun s => if 1 = 0 then s else B F.LANE_QUAD_STAT_LINK_UP false 1 s)
    |> (fun s => if 2 = 0 then s else B F.LANE_QUAD_STAT_LINK_UP false 2 s)
    |> (fun s => if 3 = 0 then s else B F.LANE_QUAD_STAT_LINK_UP false 3 s)
    |> (fun s => if 4 = 0 then s else B F.LANE_QUAD_STAT_LINK_UP false 4 s)
    |> (fun s => if 5 = 0 then s else B F.LANE_QUAD_STAT_LINK_UP false 5 s)
    |> (fun s => if 6 = 0 then s else B F.LANE_QUAD_STAT_LINK_UP false 6 s)
    |> (fun s => if 7 = 0 then s else B F.LANE_QUAD_STAT_LINK_UP false 7 s)
    |> (fun s => if 8 = 0 then s else B F.LANE_QUAD_STAT_LINK_UP false 8 s)
    |> (fun s => if 9 = 0 then s else B F.LANE_QUAD_STAT_LINK_UP false 9 s)
    |> (fun s => if 10 = 0 then s else B F.LANE_QUAD_STAT_LINK_UP false 10 s)
    |> (fun s => if 11 = 0 then s else B F.LANE_QUAD_STAT_LINK_UP false 11 s)
    |> (fun s => if 12 = 0 then s else B F.LANE_QUAD_STAT_LINK_UP false 12 s)
    |> (fun s => if 13 = 0 then s else B F.LANE_QUAD_STAT_LINK_UP false 13 s)
    |> (fun s => if 14 = 0 then s else B F.LANE_QUAD_STAT_LINK_UP false 14 s)
    |> (fun s => if 15 = 0 then s else B F.LANE_QUAD_STAT_LINK_UP false 15 s)
    |> (fun s => if 16 = 0 then s else B F.LANE_QUAD_STAT_LINK_UP false 16 s)
    |> (fun s => if 17 = 0 then s else B F.LANE_QUAD_STAT_LINK_UP false 17 s)
    |> (fun s => if 18 = 0 then s else B F.LANE_QUAD_STAT_LINK_UP false 18 s)
    |> (fun s => if 19 = 0 then s else B F.LANE_QUAD_STAT_LINK_UP false 19 s)
    |> (fun s => if 20 = 0 then s else B F.LANE_QUAD_STAT_LINK_UP false 20 s)
    |> (fun s => if 21 = 0 then s else B F.LANE_QUAD_STAT_LINK_UP false 21 s)
    |> (fun s => if 22 = 0 then s else B F.LANE_QUAD_STAT_LINK_UP false 22 s)
    |> (fun s => if 23 = 0 then s else B F.LANE_QUAD_STAT_LINK_UP false 23 s)
    |> (fun s => if 24 = 0 then s else B F.LANE_QUAD_STAT_LINK_UP false 24 s)
    |> (fun s => if 25 = 0 then s else B F.LANE_QUAD_STAT_LINK_UP false 25 s)
    |> (fun s => if 26 = 0 then s else B F.LANE_QUAD_STAT_LINK_UP false 26 s)
    |> (fun s => if 27 = 0 then s else B F.LANE_QUAD_STAT_LINK_UP false 27 s)
    |> (fun s => if 28 = 0 then s else B F.LANE_QUAD_STAT_LINK_UP false 28 s)
    |> (fun s => if 29 = 0 then s else B F.LANE_QUAD_STAT_LINK_UP false 29 s)
    |> (fun s => if 30 = 0 then s else B F.LANE_QUAD_STAT_LINK_UP false 30 s)
    |> (fun s => if 31 = 0 then s else B F.LANE_QUAD_STAT_LINK_UP false 31 s) |> S F.PRT_PTP_CFG_ROLE_PIN 0 0
    |> S F.PRT_PTU_STAT_PORT_STATE 5 0 |> OnPtu 0 (fun x => { x with announce := none })
    |> OnInst 0 (fun x => { x with sets := if 0 % 2 = 0 then [] else [(0x2008, [1, 0])] })
/-- Each clause of `BestMasterDecisions` has a state and operands that meet its hypotheses. -/
theorem test_bestMasterDecisions_hypotheses :
    (∃ (s : State) (i : Fin 4) (p : Nat), s.dev.sys.cpStopped = false ∧ (s.dev.inst i.val).made = true ∧
      (s.dev.inst i.val).kind = 0 ∧ p ∈ s.dev.portsOfInst i.val ∧ s.dev.ptpState p ≠ 1 ∧ s.dev.ptpState p ≠ 3 ∧
      s.dev.get F.PRT_PTP_CFG_ROLE_PIN p = 1) ∧
    (∃ (s : State) (i : Fin 4) (p : Nat), s.dev.sys.cpStopped = false ∧ (s.dev.inst i.val).made = true ∧
      (s.dev.inst i.val).kind = 0 ∧ p ∈ s.dev.portsOfInst i.val ∧ s.dev.ptpState p ≠ 1 ∧ s.dev.ptpState p ≠ 3 ∧
      s.dev.get F.PRT_PTP_CFG_ROLE_PIN p = 2) ∧
    (∃ (s : State) (i : Fin 4) (p : Nat) (m : PtpMsg) (a : AnnounceData), s.dev.sys.cpStopped = false ∧
      (s.dev.inst i.val).made = true ∧ (s.dev.inst i.val).kind = 0 ∧ p ∈ s.dev.portsOfInst i.val ∧ s.dev.ptpState p ≠ 1 ∧
      s.dev.ptpState p ≠ 3 ∧ s.dev.get F.PRT_PTP_CFG_ROLE_PIN p = 0 ∧ s.dev.portsOfInst i.val = [p] ∧
      (s.dev.ptu p).announce = some (m, a) ∧ s.dev.flag F.PRT_PTP_CFG_MASTER_ONLY p = false ∧
      lexLess (s.dev.portKey p (m, a)) (s.dev.ownKey i.val) = true ∧ s.dev.isSlave p = false) ∧
    (∃ (s : State) (i : Fin 4) (p : Nat), s.dev.sys.cpStopped = false ∧ (s.dev.inst i.val).made = true ∧
      (s.dev.inst i.val).kind = 0 ∧ p ∈ s.dev.portsOfInst i.val ∧ s.dev.ptpState p ≠ 1 ∧ s.dev.ptpState p ≠ 3 ∧
      s.dev.get F.PRT_PTP_CFG_ROLE_PIN p = 0 ∧ s.dev.portsOfInst i.val = [p] ∧ (s.dev.ptu p).announce = none ∧
      s.dev.ptpState p = 5) :=
  ⟨⟨s_bestMasterDecisions_1, 0, 0, by decide +kernel⟩,
   ⟨s_bestMasterDecisions_2, 0, 0, by decide +kernel⟩,
   ⟨s_bestMasterDecisions_3, 0, 0, (⟨BitVec.ofNat 64 0, 0, 0, (0 : Nat), 0, false⟩ : PtpMsg), (⟨5, 1, 6, 3, 1, 7, 3, 2, 37, true, false, false, true, true⟩ : AnnounceData), by decide +kernel⟩,
   ⟨s_bestMasterDecisions_4, 0, 0, by decide +kernel⟩⟩

def s_ptpPortConfiguration_1 : State := run |> D (fun d => { d with ident := { d.ident with variant := 2 } })
    |> S F.PWR_STAT_FAST 2 0 |> B F.LANE_QUAD_STAT_LINK_UP true 0 |> S F.LANE_QUAD_CFG_MODE 2 0
    |> S F.GLB_BOOT_STAT_STAGE 7 0 |> OnPort 0 (fun x => { x with inLoop := false }) |> S F.PRT_PTP_CFG_INSTANCE 0 0
    |> OnInst 0 (fun x => { x with made := true, kind := 0, profile := 0 })
    |> OnSys (fun y => { y with cpStopped := false })
def s_ptpPortConfiguration_2 : State := run |> D (fun d => { d with ident := { d.ident with variant := 2 } })
    |> S F.PWR_STAT_FAST 2 0 |> B F.LANE_QUAD_STAT_LINK_UP true 0 |> S F.LANE_QUAD_CFG_MODE 2 0
    |> S F.GLB_BOOT_STAT_STAGE 7 0 |> OnPort 0 (fun x => { x with inLoop := false }) |> S F.PRT_PTP_CFG_INSTANCE 0 0
    |> OnInst 0 (fun x => { x with made := true, kind := 0, profile := 0 })
    |> OnSys (fun y => { y with cpStopped := false }) |> S F.PRT_PTP_CFG_ROLE_PIN 3 (1 % 20)
    |> S F.PRT_PTP_CFG_INSTANCE 0 (1 % 20)
/-- Each clause of `PtpPortConfiguration` has a state and operands that meet its hypotheses. -/
theorem test_ptpPortConfiguration_hypotheses :
    (∃ (s : State) (p : PortId) (v : Word), s.dev.fastReach = true ∧ s.dev.hasPort p.val = true ∧ bitsOf v.toNat 6 2 ≠ 3) ∧
    (∃ (s : State) (p : PortId) (v : Word) (q : _), s.dev.fastReach = true ∧ s.dev.hasPort p.val = true ∧
      q ∈ s.dev.portList ∧ q ≠ p.val ∧ s.dev.get F.PRT_PTP_CFG_ROLE_PIN q = 3 ∧ bitsOf v.toNat 6 2 = 3 ∧
      bitsOf v.toNat 0 3 = s.dev.get F.PRT_PTP_CFG_INSTANCE q ∧ s.dev.get F.PRT_PTP_CFG_INSTANCE q < 4) :=
  ⟨⟨s_ptpPortConfiguration_1, 0, 0, by decide +kernel⟩,
   ⟨s_ptpPortConfiguration_2, 0, 192, (1 % 20), by decide +kernel⟩⟩

def s_reversalProcedure_1 : State := run |> D (fun d => { d with ident := { d.ident with variant := 2 } })
    |> S F.PWR_STAT_FAST 2 0 |> B F.LANE_QUAD_STAT_LINK_UP true 0 |> S F.LANE_QUAD_CFG_MODE 2 0
    |> S F.GLB_BOOT_STAT_STAGE 7 0 |> OnPort 0 (fun x => { x with inLoop := false }) |> S F.PRT_PTP_CFG_INSTANCE 0 0
    |> OnInst 0 (fun x => { x with made := true, kind := 0, profile := 0 })
    |> OnSys (fun y => { y with cpStopped := false }) |> S F.PRT_REV_STAT_STEP 0 0 |> S F.PRT_PTU_STAT_PORT_STATE 9 0
    |> S F.RSEL_SEL_SELECTED 4 0 |> OnMir (fun m => { m with state := .locked }) |> B F.LANE_QUAD_STAT_DISCOVERED true 0
    |> B F.LANE_QUAD_STAT_PARTNER_SYNT true 0 |> OnInst 0 (fun x => { x with made := true, profile := 2 })
def s_reversalProcedure_2 : State := run |> D (fun d => { d with ident := { d.ident with variant := 2 } })
    |> S F.PWR_STAT_FAST 2 0 |> B F.LANE_QUAD_STAT_LINK_UP true 0 |> S F.LANE_QUAD_CFG_MODE 2 0
    |> S F.GLB_BOOT_STAT_STAGE 7 0 |> OnPort 0 (fun x => { x with inLoop := false }) |> S F.PRT_PTP_CFG_INSTANCE 0 0
    |> OnInst 0 (fun x => { x with made := true, kind := 0, profile := 0 })
    |> OnSys (fun y => { y with cpStopped := false }) |> S F.PRT_REV_STAT_STEP 4 0
def s_reversalProcedure_3 : State := run |> D (fun d => { d with ident := { d.ident with variant := 2 } })
    |> S F.PWR_STAT_FAST 2 0 |> B F.LANE_QUAD_STAT_LINK_UP true 0 |> S F.LANE_QUAD_CFG_MODE 2 0
    |> S F.GLB_BOOT_STAT_STAGE 7 0 |> OnPort 0 (fun x => { x with inLoop := false }) |> S F.PRT_PTP_CFG_INSTANCE 0 0
    |> OnInst 0 (fun x => { x with made := true, kind := 0, profile := 0 })
    |> OnSys (fun y => { y with cpStopped := false }) |> S F.PRT_REV_STAT_STEP 6 0
def s_reversalProcedure_4 : State := run |> D (fun d => { d with ident := { d.ident with variant := 2 } })
    |> S F.PWR_STAT_FAST 2 0 |> B F.LANE_QUAD_STAT_LINK_UP true 0 |> S F.LANE_QUAD_CFG_MODE 2 0
    |> S F.GLB_BOOT_STAT_STAGE 7 0 |> OnPort 0 (fun x => { x with inLoop := false }) |> S F.PRT_PTP_CFG_INSTANCE 0 0
    |> OnInst 0 (fun x => { x with made := true, kind := 0, profile := 0 })
    |> OnSys (fun y => { y with cpStopped := false }) |> S F.PRT_REV_STAT_STEP 1 0
def s_reversalProcedure_5 : State := run |> D (fun d => { d with ident := { d.ident with variant := 2 } })
    |> S F.PWR_STAT_FAST 2 0 |> B F.LANE_QUAD_STAT_LINK_UP true 0 |> S F.LANE_QUAD_CFG_MODE 2 0
    |> S F.GLB_BOOT_STAT_STAGE 7 0 |> OnPort 0 (fun x => { x with inLoop := false }) |> S F.PRT_PTP_CFG_INSTANCE 0 0
    |> OnInst 0 (fun x => { x with made := true, kind := 0, profile := 0 })
    |> OnSys (fun y => { y with cpStopped := false }) |> S F.PRT_REV_STAT_STEP 1 0
    |> OnPtu 0 (fun x => { x with revN := 3, revSum := 100, revO := [1], revT := [5] })
def s_reversalProcedure_6 : State := run |> D (fun d => { d with ident := { d.ident with variant := 2 } })
    |> S F.PWR_STAT_FAST 2 0 |> B F.LANE_QUAD_STAT_LINK_UP true 0 |> S F.LANE_QUAD_CFG_MODE 2 0
    |> S F.GLB_BOOT_STAT_STAGE 7 0 |> OnPort 0 (fun x => { x with inLoop := false }) |> S F.PRT_PTP_CFG_INSTANCE 0 0
    |> OnInst 0 (fun x => { x with made := true, kind := 0, profile := 0 })
    |> OnSys (fun y => { y with cpStopped := false }) |> S F.PRT_REV_STAT_STEP 2 0
/-- Each clause of `ReversalProcedure` has a state and operands that meet its hypotheses. -/
theorem test_reversalProcedure_hypotheses :
    (∃ (s : State) (p : PortId) (k : Nat), s.dev.get F.PRT_REV_STAT_STEP p.val = k ∧ s.dev.fastReach = true ∧
      s.dev.hasPort p.val = true ∧ (k = 0 ∨ k = 6 ∨ k = 7) ∧ s.dev.kindOf (4 + p.val) = .portL1 ∧
      s.dev.ptpState p.val = 9 ∧ s.dev.get F.RSEL_SEL_SELECTED = 4 + p.val ∧ s.dev.mir.state = .locked) ∧
    (∃ (s : State) (p : PortId) (k : Nat), s.dev.get F.PRT_REV_STAT_STEP p.val = k ∧ s.dev.fastReach = true ∧
      s.dev.hasPort p.val = true ∧ k = 4) ∧
    (∃ (s : State) (p : PortId) (k : Nat), s.dev.get F.PRT_REV_STAT_STEP p.val = k ∧ s.dev.fastReach = true ∧
      s.dev.hasPort p.val = true ∧ k = 6) ∧
    (∃ (s : State) (p : PortId) (k : Nat), s.dev.get F.PRT_REV_STAT_STEP p.val = k ∧ s.dev.fastReach = true ∧
      s.dev.hasPort p.val = true ∧ 1 ≤ k ∧ k ≤ 6) ∧
    (∃ (s : State) (p : PortId) (k : Nat), s.dev.get F.PRT_REV_STAT_STEP p.val = k ∧ (k = 1 ∨ k = 3 ∨ k = 5) ∧
      (s.dev.ptu p.val).revN ≠ 0) ∧
    (∃ (s : State) (p : PortId) (k : Nat), s.dev.get F.PRT_REV_STAT_STEP p.val = k ∧ k = 2) ∧
    (∃ (s : State) (p : PortId) (k : Nat), s.dev.get F.PRT_REV_STAT_STEP p.val = k ∧ k = 4) :=
  ⟨⟨s_reversalProcedure_1, 0, (s_reversalProcedure_1.dev.get F.PRT_REV_STAT_STEP (Fin.ofNat 32 0).val), by decide +kernel⟩,
   ⟨s_reversalProcedure_2, 0, (s_reversalProcedure_2.dev.get F.PRT_REV_STAT_STEP (Fin.ofNat 32 0).val), by decide +kernel⟩,
   ⟨s_reversalProcedure_3, 0, (s_reversalProcedure_3.dev.get F.PRT_REV_STAT_STEP (Fin.ofNat 32 0).val), by decide +kernel⟩,
   ⟨s_reversalProcedure_4, 0, (s_reversalProcedure_4.dev.get F.PRT_REV_STAT_STEP (Fin.ofNat 32 0).val), by decide +kernel⟩,
   ⟨s_reversalProcedure_5, 0, (s_reversalProcedure_5.dev.get F.PRT_REV_STAT_STEP (Fin.ofNat 32 0).val), by decide +kernel⟩,
   ⟨s_reversalProcedure_6, 0, (s_reversalProcedure_6.dev.get F.PRT_REV_STAT_STEP (Fin.ofNat 32 0).val), by decide +kernel⟩,
   ⟨s_reversalProcedure_2, 0, (s_reversalProcedure_2.dev.get F.PRT_REV_STAT_STEP (Fin.ofNat 32 0).val), by decide +kernel⟩⟩

def s_unicastGrants_1 : State := run |> D (fun d => { d with ident := { d.ident with variant := 2 } })
    |> S F.PWR_STAT_FAST 2 0 |> B F.LANE_QUAD_STAT_LINK_UP true 0 |> S F.LANE_QUAD_CFG_MODE 2 0
    |> S F.GLB_BOOT_STAT_STAGE 7 0 |> OnPort 0 (fun x => { x with inLoop := false }) |> S F.PRT_PTP_CFG_INSTANCE 0 0
    |> OnInst 0 (fun x => { x with made := true, kind := 0, profile := 0 })
    |> OnSys (fun y => { y with cpStopped := false })
    |> OnInst 0 (fun x => { x with made := true, kind := 0, profile := 4 }) |> S F.LANE_QUAD_STAT_TX_SLEEP 0 0
def s_unicastGrants_2 : State := run |> D (fun d => { d with ident := { d.ident with variant := 2 } })
    |> S F.PWR_STAT_FAST 2 0 |> B F.LANE_QUAD_STAT_LINK_UP true 0 |> S F.LANE_QUAD_CFG_MODE 2 0
    |> S F.GLB_BOOT_STAT_STAGE 7 0 |> OnPort 0 (fun x => { x with inLoop := false }) |> S F.PRT_PTP_CFG_INSTANCE 0 0
    |> OnInst 0 (fun x => { x with made := true, kind := 0, profile := 0 })
    |> OnSys (fun y => { y with cpStopped := false })
    |> OnInst 0 (fun x => { x with made := true, kind := 0, profile := 4 })
/-- Each clause of `UnicastGrants` has a state and operands that meet its hypotheses. -/
theorem test_unicastGrants_hypotheses :
    (∃ (s : State) (p : PortId) (tl : List Byte) (b : List Byte), s.dev.sys.cpStopped = false ∧
      s.dev.clockPort p.val = true ∧ s.dev.profileOf p.val = 4 ∧ tlvsOf tl.length tl = [(0x0004, b)] ∧
      s.dev.txSleep p.val ≤ 1) ∧
    (∃ (s : State) (p : PortId) (tl : List Byte) (b : List Byte), s.dev.sys.cpStopped = false ∧
      s.dev.clockPort p.val = true ∧ s.dev.profileOf p.val = 4 ∧ tlvsOf tl.length tl = [(0x0006, b)]) :=
  ⟨⟨s_unicastGrants_1, 0, ([0, 4, 0, 6, BitVec.ofNat 8 0, 0, 0, 0, 1, 44] : List Byte), ([BitVec.ofNat 8 0, 0, 0, 0, 1, 44] : List Byte), by decide +kernel⟩,
   ⟨s_unicastGrants_2, 0, ([0, 6, 0, 2, BitVec.ofNat 8 0, 0] : List Byte), ([BitVec.ofNat 8 0, 0] : List Byte), by decide +kernel⟩⟩

def s_forwardingDecisions_1 : State := run |> D (fun d => { d with ident := { d.ident with variant := 2 } })
    |> S F.GLB_BOOT_STAT_STAGE 7 0 |> S F.PWR_STAT_FAST 2 0 |> OnSw (fun w => Switch.init)
    |> B F.LANE_QUAD_STAT_LINK_UP true 0 |> S F.LANE_QUAD_CFG_MODE 2 0 |> S F.SW_PORT_CFG_STATE 3 0
    |> OnPort 0 (fun x => { x with inLoop := false }) |> B F.LANE_QUAD_STAT_LINK_UP true 1
    |> S F.LANE_QUAD_CFG_MODE (2 + 1 % 8) 1 |> S F.SW_PORT_CFG_STATE 3 1 |> OnPort 1 (fun x => { x with inLoop := false })
    |> B F.LANE_QUAD_STAT_LINK_UP true 2 |> S F.LANE_QUAD_CFG_MODE (2 + 2 % 8) 2 |> S F.SW_PORT_CFG_STATE 3 2
    |> OnPort 2 (fun x => { x with inLoop := false }) |> B F.LANE_QUAD_STAT_LINK_UP true 3
    |> S F.LANE_QUAD_CFG_MODE (2 + 3 % 8) 3 |> S F.SW_PORT_CFG_STATE 3 3 |> OnPort 3 (fun x => { x with inLoop := false })
    |> B F.LANE_QUAD_STAT_LINK_UP true 4 |> S F.LANE_QUAD_CFG_MODE (2 + 4 % 8) 4 |> S F.SW_PORT_CFG_STATE 3 4
    |> OnPort 4 (fun x => { x with inLoop := false }) |> B F.LANE_QUAD_STAT_LINK_UP true 5
    |> S F.LANE_QUAD_CFG_MODE (2 + 5 % 8) 5 |> S F.SW_PORT_CFG_STATE 3 5 |> OnPort 5 (fun x => { x with inLoop := false })
    |> B F.LANE_QUAD_STAT_LINK_UP true 6 |> S F.LANE_QUAD_CFG_MODE (2 + 6 % 8) 6 |> S F.SW_PORT_CFG_STATE 3 6
    |> OnPort 6 (fun x => { x with inLoop := false }) |> B F.LANE_QUAD_STAT_LINK_UP true 7
    |> S F.LANE_QUAD_CFG_MODE (2 + 7 % 8) 7 |> S F.SW_PORT_CFG_STATE 3 7 |> OnPort 7 (fun x => { x with inLoop := false })
def v_forwardingDecisions_1_f : RxFrame := (⟨⟨5, 6, 7, 8⟩, (let b : List Byte := ([2, 1, 2, 3, 4, BitVec.ofNat 8 0] ++ [2, 0, 0, 0, 0, BitVec.ofNat 8 0] ++ (if 0 % 2 = 0 then [] else [0x81, 0, BitVec.ofNat 8 0, BitVec.ofNat 8 0]) ++ [0x88, 0xB5] ++ List.replicate 46 7); b ++ leBytes 4 (crc32 b)), true⟩ : RxFrame)
def v_forwardingDecisions_1_vid : Nat := (if (parseFrame v_forwardingDecisions_1_f.bytes : Parsed).nTags ≠ 0 ∧
    (parseFrame v_forwardingDecisions_1_f.bytes : Parsed).vid ≠ 0 then (parseFrame v_forwardingDecisions_1_f.bytes : Parsed).vid else s_forwardingDecisions_1.dev.get F.SW_PORT_CFG_PVID (Fin.ofNat 32 0).val)
def v_forwardingDecisions_1_pcp : Nat := (if (parseFrame v_forwardingDecisions_1_f.bytes : Parsed).nTags ≠ 0 then (parseFrame v_forwardingDecisions_1_f.bytes : Parsed).pcp else s_forwardingDecisions_1.dev.get F.SW_PORT_CFG_DEF_PCP (Fin.ofNat 32 0).val)
def s_forwardingDecisions_2 : State := run |> D (fun d => { d with ident := { d.ident with variant := 2 } })
    |> S F.GLB_BOOT_STAT_STAGE 7 0 |> S F.PWR_STAT_FAST 2 0 |> OnSw (fun w => Switch.init)
    |> B F.LANE_QUAD_STAT_LINK_UP true 0 |> S F.LANE_QUAD_CFG_MODE 2 0 |> S F.SW_PORT_CFG_STATE 3 0
    |> OnPort 0 (fun x => { x with inLoop := false }) |> B F.LANE_QUAD_STAT_LINK_UP true 1
    |> S F.LANE_QUAD_CFG_MODE (2 + 1 % 8) 1 |> S F.SW_PORT_CFG_STATE 3 1 |> OnPort 1 (fun x => { x with inLoop := false })
    |> B F.LANE_QUAD_STAT_LINK_UP true 2 |> S F.LANE_QUAD_CFG_MODE (2 + 2 % 8) 2 |> S F.SW_PORT_CFG_STATE 3 2
    |> OnPort 2 (fun x => { x with inLoop := false }) |> B F.LANE_QUAD_STAT_LINK_UP true 3
    |> S F.LANE_QUAD_CFG_MODE (2 + 3 % 8) 3 |> S F.SW_PORT_CFG_STATE 3 3 |> OnPort 3 (fun x => { x with inLoop := false })
    |> B F.LANE_QUAD_STAT_LINK_UP true 4 |> S F.LANE_QUAD_CFG_MODE (2 + 4 % 8) 4 |> S F.SW_PORT_CFG_STATE 3 4
    |> OnPort 4 (fun x => { x with inLoop := false }) |> B F.LANE_QUAD_STAT_LINK_UP true 5
    |> S F.LANE_QUAD_CFG_MODE (2 + 5 % 8) 5 |> S F.SW_PORT_CFG_STATE 3 5 |> OnPort 5 (fun x => { x with inLoop := false })
    |> B F.LANE_QUAD_STAT_LINK_UP true 6 |> S F.LANE_QUAD_CFG_MODE (2 + 6 % 8) 6 |> S F.SW_PORT_CFG_STATE 3 6
    |> OnPort 6 (fun x => { x with inLoop := false }) |> B F.LANE_QUAD_STAT_LINK_UP true 7
    |> S F.LANE_QUAD_CFG_MODE (2 + 7 % 8) 7 |> S F.SW_PORT_CFG_STATE 3 7 |> OnPort 7 (fun x => { x with inLoop := false })
    |> OnInst 0 (fun x => { x with made := true, kind := 1, domain := 24 }) |> S F.PRT_PTP_CFG_INSTANCE 0 0
    |> S F.PRT_PTP_CFG_INSTANCE 0 1 |> S F.PRT_PTP_CFG_INSTANCE 0 2 |> S F.PRT_PTP_CFG_INSTANCE 0 3
    |> S F.PRT_PTP_CFG_INSTANCE 0 4 |> S F.PRT_PTP_CFG_INSTANCE 0 5 |> S F.PRT_PTP_CFG_INSTANCE 0 6
    |> S F.PRT_PTP_CFG_INSTANCE 0 7
def v_forwardingDecisions_2_f : RxFrame := (⟨⟨5, 6, 7, 8⟩, (let b : List Byte := ([2, 1, 2, 3, 4, BitVec.ofNat 8 0] ++ [2, 0, 0, 0, 0, BitVec.ofNat 8 0] ++ (if 0 % 2 = 0 then [] else [0x81, 0, BitVec.ofNat 8 0, BitVec.ofNat 8 0]) ++ ([0x88, 0xF7, BitVec.ofNat 8 0, 2, 0, 44, 24] : List Byte) ++ List.replicate 46 7); b ++ leBytes 4 (crc32 b)), true⟩ : RxFrame)
def v_forwardingDecisions_2_vid : Nat := (if (parseFrame v_forwardingDecisions_2_f.bytes : Parsed).nTags ≠ 0 ∧
    (parseFrame v_forwardingDecisions_2_f.bytes : Parsed).vid ≠ 0 then (parseFrame v_forwardingDecisions_2_f.bytes : Parsed).vid else s_forwardingDecisions_2.dev.get F.SW_PORT_CFG_PVID (Fin.ofNat 32 0).val)
def v_forwardingDecisions_2_pcp : Nat := (if (parseFrame v_forwardingDecisions_2_f.bytes : Parsed).nTags ≠ 0 then (parseFrame v_forwardingDecisions_2_f.bytes : Parsed).pcp else s_forwardingDecisions_2.dev.get F.SW_PORT_CFG_DEF_PCP (Fin.ofNat 32 0).val)
def s_forwardingDecisions_3 : State := run |> D (fun d => { d with ident := { d.ident with variant := 2 } })
    |> S F.GLB_BOOT_STAT_STAGE 7 0 |> S F.PWR_STAT_FAST 2 0 |> OnSw (fun w => Switch.init)
    |> B F.LANE_QUAD_STAT_LINK_UP true 0 |> S F.LANE_QUAD_CFG_MODE 2 0 |> S F.SW_PORT_CFG_STATE 3 0
    |> OnPort 0 (fun x => { x with inLoop := false }) |> B F.LANE_QUAD_STAT_LINK_UP true 1
    |> S F.LANE_QUAD_CFG_MODE (2 + 1 % 8) 1 |> S F.SW_PORT_CFG_STATE 3 1 |> OnPort 1 (fun x => { x with inLoop := false })
    |> B F.LANE_QUAD_STAT_LINK_UP true 2 |> S F.LANE_QUAD_CFG_MODE (2 + 2 % 8) 2 |> S F.SW_PORT_CFG_STATE 3 2
    |> OnPort 2 (fun x => { x with inLoop := false }) |> B F.LANE_QUAD_STAT_LINK_UP true 3
    |> S F.LANE_QUAD_CFG_MODE (2 + 3 % 8) 3 |> S F.SW_PORT_CFG_STATE 3 3 |> OnPort 3 (fun x => { x with inLoop := false })
    |> B F.LANE_QUAD_STAT_LINK_UP true 4 |> S F.LANE_QUAD_CFG_MODE (2 + 4 % 8) 4 |> S F.SW_PORT_CFG_STATE 3 4
    |> OnPort 4 (fun x => { x with inLoop := false }) |> B F.LANE_QUAD_STAT_LINK_UP true 5
    |> S F.LANE_QUAD_CFG_MODE (2 + 5 % 8) 5 |> S F.SW_PORT_CFG_STATE 3 5 |> OnPort 5 (fun x => { x with inLoop := false })
    |> B F.LANE_QUAD_STAT_LINK_UP true 6 |> S F.LANE_QUAD_CFG_MODE (2 + 6 % 8) 6 |> S F.SW_PORT_CFG_STATE 3 6
    |> OnPort 6 (fun x => { x with inLoop := false }) |> B F.LANE_QUAD_STAT_LINK_UP true 7
    |> S F.LANE_QUAD_CFG_MODE (2 + 7 % 8) 7 |> S F.SW_PORT_CFG_STATE 3 7 |> OnPort 7 (fun x => { x with inLoop := false })
    |> Clr [.VLAN_W3]
def v_forwardingDecisions_3_f : RxFrame := (⟨⟨5, 6, 7, 8⟩, (let b : List Byte := ([2, 1, 2, 3, 4, BitVec.ofNat 8 0] ++ [2, 0, 0, 0, 0, BitVec.ofNat 8 0] ++ (if 0 % 2 = 0 then [] else [0x81, 0, BitVec.ofNat 8 0, BitVec.ofNat 8 0]) ++ [8, 0] ++ List.replicate 46 7); b ++ leBytes 4 (crc32 b)), true⟩ : RxFrame)
def v_forwardingDecisions_3_vid : Nat := (if (parseFrame v_forwardingDecisions_3_f.bytes : Parsed).nTags ≠ 0 ∧
    (parseFrame v_forwardingDecisions_3_f.bytes : Parsed).vid ≠ 0 then (parseFrame v_forwardingDecisions_3_f.bytes : Parsed).vid else s_forwardingDecisions_3.dev.get F.SW_PORT_CFG_PVID (Fin.ofNat 32 0).val)
def v_forwardingDecisions_3_pcp : Nat := (if (parseFrame v_forwardingDecisions_3_f.bytes : Parsed).nTags ≠ 0 then (parseFrame v_forwardingDecisions_3_f.bytes : Parsed).pcp else s_forwardingDecisions_3.dev.get F.SW_PORT_CFG_DEF_PCP (Fin.ofNat 32 0).val)
def s_forwardingDecisions_4 : State := run |> D (fun d => { d with ident := { d.ident with variant := 2 } })
    |> S F.GLB_BOOT_STAT_STAGE 7 0 |> S F.PWR_STAT_FAST 2 0 |> OnSw (fun w => Switch.init)
    |> B F.LANE_QUAD_STAT_LINK_UP true 0 |> S F.LANE_QUAD_CFG_MODE 2 0 |> S F.SW_PORT_CFG_STATE 3 0
    |> OnPort 0 (fun x => { x with inLoop := false }) |> B F.LANE_QUAD_STAT_LINK_UP true 1
    |> S F.LANE_QUAD_CFG_MODE (2 + 1 % 8) 1 |> S F.SW_PORT_CFG_STATE 3 1 |> OnPort 1 (fun x => { x with inLoop := false })
    |> B F.LANE_QUAD_STAT_LINK_UP true 2 |> S F.LANE_QUAD_CFG_MODE (2 + 2 % 8) 2 |> S F.SW_PORT_CFG_STATE 3 2
    |> OnPort 2 (fun x => { x with inLoop := false }) |> B F.LANE_QUAD_STAT_LINK_UP true 3
    |> S F.LANE_QUAD_CFG_MODE (2 + 3 % 8) 3 |> S F.SW_PORT_CFG_STATE 3 3 |> OnPort 3 (fun x => { x with inLoop := false })
    |> B F.LANE_QUAD_STAT_LINK_UP true 4 |> S F.LANE_QUAD_CFG_MODE (2 + 4 % 8) 4 |> S F.SW_PORT_CFG_STATE 3 4
    |> OnPort 4 (fun x => { x with inLoop := false }) |> B F.LANE_QUAD_STAT_LINK_UP true 5
    |> S F.LANE_QUAD_CFG_MODE (2 + 5 % 8) 5 |> S F.SW_PORT_CFG_STATE 3 5 |> OnPort 5 (fun x => { x with inLoop := false })
    |> B F.LANE_QUAD_STAT_LINK_UP true 6 |> S F.LANE_QUAD_CFG_MODE (2 + 6 % 8) 6 |> S F.SW_PORT_CFG_STATE 3 6
    |> OnPort 6 (fun x => { x with inLoop := false }) |> B F.LANE_QUAD_STAT_LINK_UP true 7
    |> S F.LANE_QUAD_CFG_MODE (2 + 7 % 8) 7 |> S F.SW_PORT_CFG_STATE 3 7 |> OnPort 7 (fun x => { x with inLoop := false })
    |> B F.VLAN_W3_VALID true 1 |> S F.VLAN_W0_MEMBER 255 1 |> S F.VLAN_W2_FLOOD 255 1 |> B F.VLAN_W3_VALID true 2
    |> S F.VLAN_W0_MEMBER 255 2 |> S F.VLAN_W2_FLOOD 255 2 |> B F.SW_PORT_CFG_INGRESS_FILTER false 0
    |> S F.SW_PORT_CFG_ACCEPT 0 0 |> S F.SW_PORT_CFG_PVID 1 0 |> B F.SW_PORT_CFG_INGRESS_FILTER false 1
    |> S F.SW_PORT_CFG_ACCEPT 0 1 |> S F.SW_PORT_CFG_PVID 1 1 |> B F.SW_PORT_CFG_INGRESS_FILTER false 2
    |> S F.SW_PORT_CFG_ACCEPT 0 2 |> S F.SW_PORT_CFG_PVID 1 2 |> B F.SW_PORT_CFG_INGRESS_FILTER false 3
    |> S F.SW_PORT_CFG_ACCEPT 0 3 |> S F.SW_PORT_CFG_PVID 1 3 |> B F.SW_PORT_CFG_INGRESS_FILTER false 4
    |> S F.SW_PORT_CFG_ACCEPT 0 4 |> S F.SW_PORT_CFG_PVID 1 4 |> B F.SW_PORT_CFG_INGRESS_FILTER false 5
    |> S F.SW_PORT_CFG_ACCEPT 0 5 |> S F.SW_PORT_CFG_PVID 1 5 |> B F.SW_PORT_CFG_INGRESS_FILTER false 6
    |> S F.SW_PORT_CFG_ACCEPT 0 6 |> S F.SW_PORT_CFG_PVID 1 6 |> B F.SW_PORT_CFG_INGRESS_FILTER false 7
    |> S F.SW_PORT_CFG_ACCEPT 0 7 |> S F.SW_PORT_CFG_PVID 1 7 |> Clr [.ST_A]
def v_forwardingDecisions_4_vid : Nat := (if (parseFrame v_forwardingDecisions_3_f.bytes : Parsed).nTags ≠ 0 ∧
    (parseFrame v_forwardingDecisions_3_f.bytes : Parsed).vid ≠ 0 then (parseFrame v_forwardingDecisions_3_f.bytes : Parsed).vid else s_forwardingDecisions_4.dev.get F.SW_PORT_CFG_PVID (Fin.ofNat 32 0).val)
def v_forwardingDecisions_4_pcp : Nat := (if (parseFrame v_forwardingDecisions_3_f.bytes : Parsed).nTags ≠ 0 then (parseFrame v_forwardingDecisions_3_f.bytes : Parsed).pcp else s_forwardingDecisions_4.dev.get F.SW_PORT_CFG_DEF_PCP (Fin.ofNat 32 0).val)
def v_forwardingDecisions_4_a : StreamAct := (s_forwardingDecisions_4.dev.streamLookup (parseFrame v_forwardingDecisions_3_f.bytes : Parsed) (Fin.ofNat 32 0).val v_forwardingDecisions_4_vid v_forwardingDecisions_4_pcp)
/-- Each clause of `ForwardingDecisions` has a state and operands that meet its hypotheses. -/
theorem test_forwardingDecisions_hypotheses :
    (∃ (s : State) (p : PortId) (f : RxFrame) (x : Parsed) (n : Nat) (vid : Nat) (pcp : Nat), s.dev.linkUp p.val = true ∧
      s.dev.rxNow p.val = none ∧ x = parseFrame f.bytes ∧ n = s.dev.sw.nextFid ∧ vid = (if x.nTags ≠ 0 ∧
      x.vid ≠ 0 then x.vid else s.dev.get F.SW_PORT_CFG_PVID p.val) ∧
      pcp = (if x.nTags ≠ 0 then x.pcp else s.dev.get F.SW_PORT_CFG_DEF_PCP p.val) ∧ s.dev.trapOf p.val f.bytes = .trapped) ∧
    (∃ (s : State) (p : PortId) (f : RxFrame) (x : Parsed) (n : Nat) (vid : Nat) (pcp : Nat) (i : Nat), s.dev.linkUp p.val = true ∧
      s.dev.rxNow p.val = none ∧ x = parseFrame f.bytes ∧ n = s.dev.sw.nextFid ∧ vid = (if x.nTags ≠ 0 ∧
      x.vid ≠ 0 then x.vid else s.dev.get F.SW_PORT_CFG_PVID p.val) ∧
      pcp = (if x.nTags ≠ 0 then x.pcp else s.dev.get F.SW_PORT_CFG_DEF_PCP p.val) ∧
      s.dev.trapOf p.val f.bytes = .transit i) ∧
    (∃ (s : State) (p : PortId) (f : RxFrame) (x : Parsed) (n : Nat) (vid : Nat) (pcp : Nat), s.dev.linkUp p.val = true ∧
      s.dev.rxNow p.val = none ∧ x = parseFrame f.bytes ∧ n = s.dev.sw.nextFid ∧ vid = (if x.nTags ≠ 0 ∧
      x.vid ≠ 0 then x.vid else s.dev.get F.SW_PORT_CFG_PVID p.val) ∧
      pcp = (if x.nTags ≠ 0 then x.pcp else s.dev.get F.SW_PORT_CFG_DEF_PCP p.val) ∧
      s.dev.trapOf p.val f.bytes = .ordinary ∧
      (x.da / 16 = 0x0180C200000 ∨ s.dev.vlanRejects p.val x = true ∨ s.dev.vlanValid vid = false)) ∧
    (∃ (s : State) (p : PortId) (f : RxFrame) (x : Parsed) (n : Nat) (vid : Nat) (pcp : Nat) (a : StreamAct), s.dev.linkUp p.val = true ∧
      s.dev.rxNow p.val = none ∧ x = parseFrame f.bytes ∧ n = s.dev.sw.nextFid ∧ vid = (if x.nTags ≠ 0 ∧
      x.vid ≠ 0 then x.vid else s.dev.get F.SW_PORT_CFG_PVID p.val) ∧
      pcp = (if x.nTags ≠ 0 then x.pcp else s.dev.get F.SW_PORT_CFG_DEF_PCP p.val) ∧
      s.dev.trapOf p.val f.bytes = .ordinary ∧ x.da / 16 ≠ 0x0180C200000 ∧ s.dev.vlanRejects p.val x = false ∧
      s.dev.vlanValid vid = true ∧ s.dev.flag F.SW_PORT_CFG_INGRESS_FILTER p.val = false ∧
      s.dev.get F.SW_PORT_CFG_STATE p.val = 3 ∧ s.dev.streamLookup x p.val vid pcp = a ∧ a.drop = false ∧ a.maxSdu = 0 ∧
      a.recov = none ∧ a.gate = none ∧ a.meter = none ∧ a.seqgen = none ∧ s.dev.destsOf p.val vid x.da a.redirect ≠ []) :=
  ⟨⟨s_forwardingDecisions_1, 0, v_forwardingDecisions_1_f, (parseFrame v_forwardingDecisions_1_f.bytes : Parsed), s_forwardingDecisions_1.dev.sw.nextFid, v_forwardingDecisions_1_vid, v_forwardingDecisions_1_pcp, by decide +kernel⟩,
   ⟨s_forwardingDecisions_2, 0, v_forwardingDecisions_2_f, (parseFrame v_forwardingDecisions_2_f.bytes : Parsed), s_forwardingDecisions_2.dev.sw.nextFid, v_forwardingDecisions_2_vid, v_forwardingDecisions_2_pcp, 0, by decide +kernel⟩,
   ⟨s_forwardingDecisions_3, 0, v_forwardingDecisions_3_f, (parseFrame v_forwardingDecisions_3_f.bytes : Parsed), s_forwardingDecisions_3.dev.sw.nextFid, v_forwardingDecisions_3_vid, v_forwardingDecisions_3_pcp, by decide +kernel⟩,
   ⟨s_forwardingDecisions_4, 0, v_forwardingDecisions_3_f, (parseFrame v_forwardingDecisions_3_f.bytes : Parsed), s_forwardingDecisions_4.dev.sw.nextFid, v_forwardingDecisions_4_vid, v_forwardingDecisions_4_pcp, v_forwardingDecisions_4_a, by decide +kernel⟩⟩

def s_frameVerdicts_1 : State := run |> D (fun d => { d with ident := { d.ident with variant := 2 } })
    |> S F.GLB_BOOT_STAT_STAGE 7 0 |> S F.PWR_STAT_FAST 2 0 |> OnSw (fun w => Switch.init)
    |> B F.LANE_QUAD_STAT_LINK_UP true 0 |> S F.LANE_QUAD_CFG_MODE 2 0 |> S F.SW_PORT_CFG_STATE 3 0
    |> OnPort 0 (fun x => { x with inLoop := false }) |> B F.LANE_QUAD_STAT_LINK_UP true 1
    |> S F.LANE_QUAD_CFG_MODE (2 + 1 % 8) 1 |> S F.SW_PORT_CFG_STATE 3 1 |> OnPort 1 (fun x => { x with inLoop := false })
    |> B F.LANE_QUAD_STAT_LINK_UP true 2 |> S F.LANE_QUAD_CFG_MODE (2 + 2 % 8) 2 |> S F.SW_PORT_CFG_STATE 3 2
    |> OnPort 2 (fun x => { x with inLoop := false }) |> B F.LANE_QUAD_STAT_LINK_UP true 3
    |> S F.LANE_QUAD_CFG_MODE (2 + 3 % 8) 3 |> S F.SW_PORT_CFG_STATE 3 3 |> OnPort 3 (fun x => { x with inLoop := false })
    |> B F.LANE_QUAD_STAT_LINK_UP true 4 |> S F.LANE_QUAD_CFG_MODE (2 + 4 % 8) 4 |> S F.SW_PORT_CFG_STATE 3 4
    |> OnPort 4 (fun x => { x with inLoop := false }) |> B F.LANE_QUAD_STAT_LINK_UP true 5
    |> S F.LANE_QUAD_CFG_MODE (2 + 5 % 8) 5 |> S F.SW_PORT_CFG_STATE 3 5 |> OnPort 5 (fun x => { x with inLoop := false })
    |> B F.LANE_QUAD_STAT_LINK_UP true 6 |> S F.LANE_QUAD_CFG_MODE (2 + 6 % 8) 6 |> S F.SW_PORT_CFG_STATE 3 6
    |> OnPort 6 (fun x => { x with inLoop := false }) |> B F.LANE_QUAD_STAT_LINK_UP true 7
    |> S F.LANE_QUAD_CFG_MODE (2 + 7 % 8) 7 |> S F.SW_PORT_CFG_STATE 3 7 |> OnPort 7 (fun x => { x with inLoop := false })
    |> S F.LANE_QUAD_STAT_TX_SLEEP 0 3
    |> OnSw (fun w => { w with nextFid := 6, frames := [(5, some ({ inPort := 0, own := .none, bytes := List.replicate 60 9, done := false, bad := false, base := 300, vid := 1, pcp := 0, tagged := false, untag := 0, dests := [3], cls := 0, colour := 0, deiMark := false, rtag := none, popRtag := false, transit := false, tRx := 10 ^ 12, cells := [0 , 100], refs := 1, charge := 2, res := false, born := 0, unreached := 0, learn := 0 == 1, copies := [], waiting := [(3, 2, (⟨5, 64, none, 0, 0, none, true, false, false⟩ : Link))], maxFrame := 1518 } : Stored))] })
    |> OnSw (fun w => { w with rx := [(0, some 5)] })
    |> OnSw (fun w => { w with queues := [(qKey 3 2, [⟨4, 64, none, 0, 0, none, true, false, false⟩, ⟨5, 64, some 99, 0, 0, none, false, true, false⟩])] })
def v_frameVerdicts_1_f : Stored := ({ inPort := 0, own := .none, bytes := List.replicate 60 9, done := false, bad := false, base := 300, vid := 1, pcp := 0, tagged := false, untag := 0, dests := [3], cls := 0, colour := 0, deiMark := false, rtag := none, popRtag := false, transit := false, tRx := 10 ^ 12, cells := [0 , 100], refs := 1, charge := 2, res := false, born := 0, unreached := 0, learn := 0 == 1, copies := [], waiting := [(3, 2, (⟨5, 64, none, 0, 0, none, true, false, false⟩ : Link))], maxFrame := 1518 } : Stored)
def s_frameVerdicts_2 : State := run |> D (fun d => { d with ident := { d.ident with variant := 2 } })
    |> S F.GLB_BOOT_STAT_STAGE 7 0 |> S F.PWR_STAT_FAST 2 0 |> OnSw (fun w => Switch.init)
    |> B F.LANE_QUAD_STAT_LINK_UP true 0 |> S F.LANE_QUAD_CFG_MODE 2 0 |> S F.SW_PORT_CFG_STATE 3 0
    |> OnPort 0 (fun x => { x with inLoop := false }) |> B F.LANE_QUAD_STAT_LINK_UP true 1
    |> S F.LANE_QUAD_CFG_MODE (2 + 1 % 8) 1 |> S F.SW_PORT_CFG_STATE 3 1 |> OnPort 1 (fun x => { x with inLoop := false })
    |> B F.LANE_QUAD_STAT_LINK_UP true 2 |> S F.LANE_QUAD_CFG_MODE (2 + 2 % 8) 2 |> S F.SW_PORT_CFG_STATE 3 2
    |> OnPort 2 (fun x => { x with inLoop := false }) |> B F.LANE_QUAD_STAT_LINK_UP true 3
    |> S F.LANE_QUAD_CFG_MODE (2 + 3 % 8) 3 |> S F.SW_PORT_CFG_STATE 3 3 |> OnPort 3 (fun x => { x with inLoop := false })
    |> B F.LANE_QUAD_STAT_LINK_UP true 4 |> S F.LANE_QUAD_CFG_MODE (2 + 4 % 8) 4 |> S F.SW_PORT_CFG_STATE 3 4
    |> OnPort 4 (fun x => { x with inLoop := false }) |> B F.LANE_QUAD_STAT_LINK_UP true 5
    |> S F.LANE_QUAD_CFG_MODE (2 + 5 % 8) 5 |> S F.SW_PORT_CFG_STATE 3 5 |> OnPort 5 (fun x => { x with inLoop := false })
    |> B F.LANE_QUAD_STAT_LINK_UP true 6 |> S F.LANE_QUAD_CFG_MODE (2 + 6 % 8) 6 |> S F.SW_PORT_CFG_STATE 3 6
    |> OnPort 6 (fun x => { x with inLoop := false }) |> B F.LANE_QUAD_STAT_LINK_UP true 7
    |> S F.LANE_QUAD_CFG_MODE (2 + 7 % 8) 7 |> S F.SW_PORT_CFG_STATE 3 7 |> OnPort 7 (fun x => { x with inLoop := false })
    |> S F.LANE_QUAD_STAT_TX_SLEEP 0 3
    |> OnSw (fun w => { w with nextFid := 6, frames := [(5, some ({ inPort := 0, own := .none, bytes := List.replicate 60 9, done := false, bad := false, base := 300, vid := 1, pcp := 0, tagged := false, untag := 0, dests := [3], cls := 0, colour := 0, deiMark := false, rtag := none, popRtag := false, transit := false, tRx := 10 ^ 12, cells := [0 , 100], refs := 2, charge := 2, res := false, born := 0, unreached := 0, learn := 0 == 1, copies := [], waiting := [], maxFrame := 1518 } : Stored))] })
    |> OnSw (fun w => { w with rx := [(0, some 5)] })
    |> OnSw (fun w => { w with queues := [(qKey 3 2, [⟨4, 64, none, 0, 0, none, true, false, false⟩, ⟨5, 64, some 99, 0, 0, none, false, true, false⟩])] })
def v_frameVerdicts_2_f : Stored := ({ inPort := 0, own := .none, bytes := List.replicate 60 9, done := false, bad := false, base := 300, vid := 1, pcp := 0, tagged := false, untag := 0, dests := [3], cls := 0, colour := 0, deiMark := false, rtag := none, popRtag := false, transit := false, tRx := 10 ^ 12, cells := [0 , 100], refs := 2, charge := 2, res := false, born := 0, unreached := 0, learn := 0 == 1, copies := [], waiting := [], maxFrame := 1518 } : Stored)
/-- Each clause of `FrameVerdicts` has a state and operands that meet its hypotheses. -/
theorem test_frameVerdicts_hypotheses :
    (∃ (s : State) (p : PortId) (v : RxVerdict) (n : Nat) (e : Nat) (q : Nat) (f : Stored) (l : Link), s.dev.rxNow p.val = some n ∧
      s.dev.frame n = some f ∧ f.copies = [] ∧ v.fcsOk = true ∧ v.uncorrectable = false ∧
      f.bytes.length + v.tail.length ≤ f.maxFrame ∧ f.bytes.length + v.tail.length ≤ f.base ∧ f.waiting = [(e, q, l)] ∧
      s.dev.linkUp e = true ∧ s.dev.txSleep e = 0) ∧
    (∃ (s : State) (p : PortId) (v : RxVerdict) (n : Nat) (f : Stored), s.dev.rxNow p.val = some n ∧
      s.dev.frame n = some f ∧ f.copies = [] ∧ v.fcsOk = true ∧ v.uncorrectable = false ∧
      f.bytes.length + v.tail.length ≤ f.maxFrame ∧ f.bytes.length + v.tail.length ≤ f.base ∧ f.waiting = []) ∧
    (∃ (s : State) (p : PortId) (v : RxVerdict) (n : Nat) (f : Stored), s.dev.rxNow p.val = some n ∧
      s.dev.frame n = some f ∧ f.copies = [] ∧ v.fcsOk = false) :=
  ⟨⟨s_frameVerdicts_1, 0, (⟨([1, 2, 3] ++ List.replicate 0 4 : List Byte), true, false, 0 == 1⟩ : RxVerdict), 5, 3, 2, v_frameVerdicts_1_f, (⟨5, 64, none, 0, 0, none, true, false, false⟩ : Link), by decide +kernel⟩,
   ⟨s_frameVerdicts_2, 0, (⟨([1, 2, 3] ++ List.replicate 0 4 : List Byte), true, false, 0 == 1⟩ : RxVerdict), 5, v_frameVerdicts_2_f, by decide +kernel⟩,
   ⟨s_frameVerdicts_2, 0, (⟨([1, 2, 3] ++ List.replicate 0 4 : List Byte), false, 0 == 0, false⟩ : RxVerdict), 5, v_frameVerdicts_2_f, by decide +kernel⟩⟩

def s_schedulerAndTransmission_1 : State := run |> D (fun d => { d with ident := { d.ident with variant := 2 } })
    |> S F.GLB_BOOT_STAT_STAGE 7 0 |> S F.PWR_STAT_FAST 2 0 |> OnSw (fun w => Switch.init)
    |> B F.LANE_QUAD_STAT_LINK_UP true 0 |> S F.LANE_QUAD_CFG_MODE 2 0 |> S F.SW_PORT_CFG_STATE 3 0
    |> OnPort 0 (fun x => { x with inLoop := false }) |> B F.LANE_QUAD_STAT_LINK_UP true 1
    |> S F.LANE_QUAD_CFG_MODE (2 + 1 % 8) 1 |> S F.SW_PORT_CFG_STATE 3 1 |> OnPort 1 (fun x => { x with inLoop := false })
    |> B F.LANE_QUAD_STAT_LINK_UP true 2 |> S F.LANE_QUAD_CFG_MODE (2 + 2 % 8) 2 |> S F.SW_PORT_CFG_STATE 3 2
    |> OnPort 2 (fun x => { x with inLoop := false }) |> B F.LANE_QUAD_STAT_LINK_UP true 3
    |> S F.LANE_QUAD_CFG_MODE (2 + 3 % 8) 3 |> S F.SW_PORT_CFG_STATE 3 3 |> OnPort 3 (fun x => { x with inLoop := false })
    |> B F.LANE_QUAD_STAT_LINK_UP true 4 |> S F.LANE_QUAD_CFG_MODE (2 + 4 % 8) 4 |> S F.SW_PORT_CFG_STATE 3 4
    |> OnPort 4 (fun x => { x with inLoop := false }) |> B F.LANE_QUAD_STAT_LINK_UP true 5
    |> S F.LANE_QUAD_CFG_MODE (2 + 5 % 8) 5 |> S F.SW_PORT_CFG_STATE 3 5 |> OnPort 5 (fun x => { x with inLoop := false })
    |> B F.LANE_QUAD_STAT_LINK_UP true 6 |> S F.LANE_QUAD_CFG_MODE (2 + 6 % 8) 6 |> S F.SW_PORT_CFG_STATE 3 6
    |> OnPort 6 (fun x => { x with inLoop := false }) |> B F.LANE_QUAD_STAT_LINK_UP true 7
    |> S F.LANE_QUAD_CFG_MODE (2 + 7 % 8) 7 |> S F.SW_PORT_CFG_STATE 3 7 |> OnPort 7 (fun x => { x with inLoop := false })
    |> B F.PRT_Q_CFG_BOUNDED false (qKey 0 0) |> B F.PRT_Q_CFG_SP true (qKey 0 0) |> B F.PRT_Q_CFG_BOUNDED false (qKey 0 1)
    |> B F.PRT_Q_CFG_SP true (qKey 0 1) |> B F.PRT_Q_CFG_BOUNDED false (qKey 0 2) |> B F.PRT_Q_CFG_SP true (qKey 0 2)
    |> B F.PRT_Q_CFG_BOUNDED false (qKey 0 3) |> B F.PRT_Q_CFG_SP true (qKey 0 3) |> B F.PRT_Q_CFG_BOUNDED false (qKey 0 4)
    |> B F.PRT_Q_CFG_SP true (qKey 0 4) |> B F.PRT_Q_CFG_BOUNDED false (qKey 0 5) |> B F.PRT_Q_CFG_SP true (qKey 0 5)
    |> B F.PRT_Q_CFG_BOUNDED false (qKey 0 6) |> B F.PRT_Q_CFG_SP true (qKey 0 6) |> B F.PRT_Q_CFG_BOUNDED false (qKey 0 7)
    |> B F.PRT_Q_CFG_SP true (qKey 0 7) |> B F.PRT_GATE_CFG_GATE_EN false 0 |> S F.LANE_QUAD_STAT_TX_SLEEP 0 0
    |> B F.SW_MIR_CFG_EN false 0 |> B F.SW_MIR_CFG_EN false 1 |> B F.SW_MIR_CFG_EN false 2 |> B F.SW_MIR_CFG_EN false 3
    |> OnSw (fun w => { w with nextFid := 6, frames := [(5, some ({ inPort := 0, own := .none, bytes := List.replicate 60 9, done := true, bad := false, base := 300, vid := 1, pcp := 0, tagged := false, untag := 0, dests := [3], cls := 0, colour := 0, deiMark := false, rtag := none, popRtag := false, transit := false, tRx := 10 ^ 12, cells := [0 , 100], refs := 2, charge := 2, res := false, born := 0, unreached := 0, learn := 0 == 1, copies := [], waiting := [], maxFrame := 1518 } : Stored))] })
    |> OnSw (fun w => { w with queues := [(qKey 0 0, [(⟨5, 64, none, 0, 0, none, true, false, false⟩ : Link)] ++ [⟨6, 64, none, 0, 0, none, true, false, false⟩])] })
def s_schedulerAndTransmission_2 : State := run |> D (fun d => { d with ident := { d.ident with variant := 2 } })
    |> S F.GLB_BOOT_STAT_STAGE 7 0 |> S F.PWR_STAT_FAST 2 0 |> OnSw (fun w => Switch.init)
    |> B F.LANE_QUAD_STAT_LINK_UP true 0 |> S F.LANE_QUAD_CFG_MODE 2 0 |> S F.SW_PORT_CFG_STATE 3 0
    |> OnPort 0 (fun x => { x with inLoop := false }) |> B F.LANE_QUAD_STAT_LINK_UP true 1
    |> S F.LANE_QUAD_CFG_MODE (2 + 1 % 8) 1 |> S F.SW_PORT_CFG_STATE 3 1 |> OnPort 1 (fun x => { x with inLoop := false })
    |> B F.LANE_QUAD_STAT_LINK_UP true 2 |> S F.LANE_QUAD_CFG_MODE (2 + 2 % 8) 2 |> S F.SW_PORT_CFG_STATE 3 2
    |> OnPort 2 (fun x => { x with inLoop := false }) |> B F.LANE_QUAD_STAT_LINK_UP true 3
    |> S F.LANE_QUAD_CFG_MODE (2 + 3 % 8) 3 |> S F.SW_PORT_CFG_STATE 3 3 |> OnPort 3 (fun x => { x with inLoop := false })
    |> B F.LANE_QUAD_STAT_LINK_UP true 4 |> S F.LANE_QUAD_CFG_MODE (2 + 4 % 8) 4 |> S F.SW_PORT_CFG_STATE 3 4
    |> OnPort 4 (fun x => { x with inLoop := false }) |> B F.LANE_QUAD_STAT_LINK_UP true 5
    |> S F.LANE_QUAD_CFG_MODE (2 + 5 % 8) 5 |> S F.SW_PORT_CFG_STATE 3 5 |> OnPort 5 (fun x => { x with inLoop := false })
    |> B F.LANE_QUAD_STAT_LINK_UP true 6 |> S F.LANE_QUAD_CFG_MODE (2 + 6 % 8) 6 |> S F.SW_PORT_CFG_STATE 3 6
    |> OnPort 6 (fun x => { x with inLoop := false }) |> B F.LANE_QUAD_STAT_LINK_UP true 7
    |> S F.LANE_QUAD_CFG_MODE (2 + 7 % 8) 7 |> S F.SW_PORT_CFG_STATE 3 7 |> OnPort 7 (fun x => { x with inLoop := false })
    |> B F.PRT_Q_CFG_BOUNDED false (qKey 0 0) |> B F.PRT_Q_CFG_SP true (qKey 0 0) |> B F.PRT_Q_CFG_BOUNDED false (qKey 0 1)
    |> B F.PRT_Q_CFG_SP true (qKey 0 1) |> B F.PRT_Q_CFG_BOUNDED false (qKey 0 2) |> B F.PRT_Q_CFG_SP true (qKey 0 2)
    |> B F.PRT_Q_CFG_BOUNDED false (qKey 0 3) |> B F.PRT_Q_CFG_SP true (qKey 0 3) |> B F.PRT_Q_CFG_BOUNDED false (qKey 0 4)
    |> B F.PRT_Q_CFG_SP true (qKey 0 4) |> B F.PRT_Q_CFG_BOUNDED false (qKey 0 5) |> B F.PRT_Q_CFG_SP true (qKey 0 5)
    |> B F.PRT_Q_CFG_BOUNDED false (qKey 0 6) |> B F.PRT_Q_CFG_SP true (qKey 0 6) |> B F.PRT_Q_CFG_BOUNDED false (qKey 0 7)
    |> B F.PRT_Q_CFG_SP true (qKey 0 7) |> B F.PRT_GATE_CFG_GATE_EN false 0 |> S F.LANE_QUAD_STAT_TX_SLEEP 0 0
    |> B F.SW_MIR_CFG_EN false 0 |> B F.SW_MIR_CFG_EN false 1 |> B F.SW_MIR_CFG_EN false 2 |> B F.SW_MIR_CFG_EN false 3
    |> OnSw (fun w => { w with nextFid := 6, frames := [(5, some ({ inPort := 0, own := .none, bytes := List.replicate 60 9, done := true, bad := false, base := 300, vid := 1, pcp := 0, tagged := false, untag := 0, dests := [3], cls := 0, colour := 0, deiMark := false, rtag := none, popRtag := false, transit := false, tRx := 10 ^ 12, cells := [0 , 100], refs := 2, charge := 2, res := false, born := 0, unreached := 0, learn := 0 == 1, copies := [], waiting := [], maxFrame := 1518 } : Stored))] })
    |> OnSw (fun w => { w with queues := [(qKey 0 0, [(⟨5, 64, some (if 0 % 2 = 0 then (10 ^ 15 : Int) else -5), 0, 0, none, true, false, false⟩ : Link)])] })
    |> B F.PRT_Q_CFG_BOUNDED true (qKey 0 0)
def s_schedulerAndTransmission_3 : State := run |> D (fun d => { d with ident := { d.ident with variant := 2 } })
    |> S F.GLB_BOOT_STAT_STAGE 7 0 |> S F.PWR_STAT_FAST 2 0 |> OnSw (fun w => Switch.init)
    |> B F.LANE_QUAD_STAT_LINK_UP true 0 |> S F.LANE_QUAD_CFG_MODE 2 0 |> S F.SW_PORT_CFG_STATE 3 0
    |> OnPort 0 (fun x => { x with inLoop := false }) |> B F.LANE_QUAD_STAT_LINK_UP true 1
    |> S F.LANE_QUAD_CFG_MODE (2 + 1 % 8) 1 |> S F.SW_PORT_CFG_STATE 3 1 |> OnPort 1 (fun x => { x with inLoop := false })
    |> B F.LANE_QUAD_STAT_LINK_UP true 2 |> S F.LANE_QUAD_CFG_MODE (2 + 2 % 8) 2 |> S F.SW_PORT_CFG_STATE 3 2
    |> OnPort 2 (fun x => { x with inLoop := false }) |> B F.LANE_QUAD_STAT_LINK_UP true 3
    |> S F.LANE_QUAD_CFG_MODE (2 + 3 % 8) 3 |> S F.SW_PORT_CFG_STATE 3 3 |> OnPort 3 (fun x => { x with inLoop := false })
    |> B F.LANE_QUAD_STAT_LINK_UP true 4 |> S F.LANE_QUAD_CFG_MODE (2 + 4 % 8) 4 |> S F.SW_PORT_CFG_STATE 3 4
    |> OnPort 4 (fun x => { x with inLoop := false }) |> B F.LANE_QUAD_STAT_LINK_UP true 5
    |> S F.LANE_QUAD_CFG_MODE (2 + 5 % 8) 5 |> S F.SW_PORT_CFG_STATE 3 5 |> OnPort 5 (fun x => { x with inLoop := false })
    |> B F.LANE_QUAD_STAT_LINK_UP true 6 |> S F.LANE_QUAD_CFG_MODE (2 + 6 % 8) 6 |> S F.SW_PORT_CFG_STATE 3 6
    |> OnPort 6 (fun x => { x with inLoop := false }) |> B F.LANE_QUAD_STAT_LINK_UP true 7
    |> S F.LANE_QUAD_CFG_MODE (2 + 7 % 8) 7 |> S F.SW_PORT_CFG_STATE 3 7 |> OnPort 7 (fun x => { x with inLoop := false })
    |> B F.PRT_Q_CFG_BOUNDED false (qKey 0 0) |> B F.PRT_Q_CFG_SP true (qKey 0 0) |> B F.PRT_Q_CFG_BOUNDED false (qKey 0 1)
    |> B F.PRT_Q_CFG_SP true (qKey 0 1) |> B F.PRT_Q_CFG_BOUNDED false (qKey 0 2) |> B F.PRT_Q_CFG_SP true (qKey 0 2)
    |> B F.PRT_Q_CFG_BOUNDED false (qKey 0 3) |> B F.PRT_Q_CFG_SP true (qKey 0 3) |> B F.PRT_Q_CFG_BOUNDED false (qKey 0 4)
    |> B F.PRT_Q_CFG_SP true (qKey 0 4) |> B F.PRT_Q_CFG_BOUNDED false (qKey 0 5) |> B F.PRT_Q_CFG_SP true (qKey 0 5)
    |> B F.PRT_Q_CFG_BOUNDED false (qKey 0 6) |> B F.PRT_Q_CFG_SP true (qKey 0 6) |> B F.PRT_Q_CFG_BOUNDED false (qKey 0 7)
    |> B F.PRT_Q_CFG_SP true (qKey 0 7) |> B F.PRT_GATE_CFG_GATE_EN false 0 |> S F.LANE_QUAD_STAT_TX_SLEEP 0 0
    |> B F.SW_MIR_CFG_EN false 0 |> B F.SW_MIR_CFG_EN false 1 |> B F.SW_MIR_CFG_EN false 2 |> B F.SW_MIR_CFG_EN false 3
    |> OnSw (fun w => { w with nextFid := 6, frames := [(5, some ({ inPort := 0, own := .none, bytes := List.replicate 60 9, done := true, bad := false, base := 300, vid := 1, pcp := 0, tagged := false, untag := 0, dests := [3], cls := 0, colour := 0, deiMark := false, rtag := none, popRtag := false, transit := false, tRx := 10 ^ 12, cells := [0 , 100], refs := 1, charge := 2, res := false, born := 0, unreached := 0, learn := 0 == 1, copies := [], waiting := [], maxFrame := 1518 } : Stored))] })
    |> OnSw (fun w => { w with tx := [(0, some ⟨(⟨5, 64, none, 0, 0, none, true, false, false⟩ : Link), 2, 77, 88, 5, 0 == 1, false, if 0 % 2 = 0 then none else some 0⟩)] })
def v_schedulerAndTransmission_3_f : Stored := ({ inPort := 0, own := .none, bytes := List.replicate 60 9, done := true, bad := false, base := 300, vid := 1, pcp := 0, tagged := false, untag := 0, dests := [3], cls := 0, colour := 0, deiMark := false, rtag := none, popRtag := false, transit := false, tRx := 10 ^ 12, cells := [0 , 100], refs := 1, charge := 2, res := false, born := 0, unreached := 0, learn := 0 == 1, copies := [], waiting := [], maxFrame := 1518 } : Stored)
/-- Each clause of `SchedulerAndTransmission` has a state and operands that meet its hypotheses. -/
theorem test_schedulerAndTransmission_hypotheses :
    (∃ (s : State) (p : PortId) (q : Nat) (l : Link) (rest : List Link), s.dev.linkUp p.val = true ∧
      s.dev.txNow p.val = none ∧ s.dev.txSleep p.val = 0 ∧ q < 8 ∧ s.dev.queue p.val q = l :: rest ∧
      (∀ m < 4, s.dev.flag F.SW_MIR_CFG_EN m = false) ∧ s.dev.headReady p.val q = true ∧
      ((∀ (f : Stored), s.dev.frame l.fid = some f → f.own = .none)) ∧ s.dev.bounded p.val q = false ∧
      ((∀ k < 8, s.dev.bounded p.val k = true → s.dev.headReady p.val k = false)) ∧
      s.dev.flag F.PRT_Q_CFG_SP (qKey p.val q) = true ∧ ((∀ k < 8, q < k → s.dev.queue p.val k = [])) ∧ l.deadline = none) ∧
    (∃ (s : State) (p : PortId) (q : Nat) (l : Link) (rest : List Link) (z : Int), s.dev.linkUp p.val = true ∧
      s.dev.txNow p.val = none ∧ s.dev.txSleep p.val = 0 ∧ q < 8 ∧ s.dev.queue p.val q = l :: rest ∧
      (∀ m < 4, s.dev.flag F.SW_MIR_CFG_EN m = false) ∧ s.dev.headReady p.val q = true ∧
      ((∀ (f : Stored), s.dev.frame l.fid = some f → f.own = .none)) ∧ s.dev.bounded p.val q = true ∧
      ((∀ k < 8, q < k → s.dev.queue p.val k = [])) ∧ l.deadline = some z) ∧
    (∃ (s : State) (p : PortId) (x : TxNow) (f : Stored), s.dev.txNow p.val = some x ∧ s.dev.frame x.link.fid = some f ∧
      (f.done = true ∨ x.cut.isSome = true)) :=
  ⟨⟨s_schedulerAndTransmission_1, 0, 0, (⟨5, 64, none, 0, 0, none, true, false, false⟩ : Link), ([⟨6, 64, none, 0, 0, none, true, false, false⟩] : List Link), by decide +kernel⟩,
   ⟨s_schedulerAndTransmission_2, 0, 0, (⟨5, 64, some (if 0 % 2 = 0 then (10 ^ 15 : Int) else -5), 0, 0, none, true, false, false⟩ : Link), ([] : List Link), (if 0 % 2 = 0 then (10 ^ 15 : Int) else -5), by decide +kernel⟩,
   ⟨s_schedulerAndTransmission_3, 0, (⟨(⟨5, 64, none, 0, 0, none, true, false, false⟩ : Link), 2, 77, 88, 5, 0 == 1, false, if 0 % 2 = 0 then none else some 0⟩ : TxNow), v_schedulerAndTransmission_3_f, by decide +kernel⟩⟩

def s_forwardingDatabase_1 : State := run |> S F.PWR_STAT_FAST 2 0 |> Clr [.FDB_W0, .FDB_W1, .FDB_W2, .FDB_W3]
    |> OnSw (fun w => { w with flushing := false }) |> S F.GLB_BOOT_STAT_STAGE 7 0 |> B F.SW_CFG_AGE_EN true 0
    |> B F.FDB_W2_VALID true 77 |> S F.FDB_W2_PORT 0 77 |> S F.FDB_W1_VID 0 77 |> S F.FDB_W2_AGE 0 77
    |> B F.FDB_W2_HIT false 77 |> B F.FDB_W2_MC false 77 |> S F.FDB_W3_PORT_MASK 0 77 |> B F.FDB_W2_STATIC false 77
    |> B F.FDB_W2_STATIC false 77 |> B F.FDB_W2_HIT true 77
def s_forwardingDatabase_2 : State := run |> S F.PWR_STAT_FAST 2 0 |> Clr [.FDB_W0, .FDB_W1, .FDB_W2, .FDB_W3]
    |> OnSw (fun w => { w with flushing := false }) |> S F.GLB_BOOT_STAT_STAGE 7 0 |> B F.SW_CFG_AGE_EN true 0
    |> B F.FDB_W2_VALID true 77 |> S F.FDB_W2_PORT 0 77 |> S F.FDB_W1_VID 0 77 |> S F.FDB_W2_AGE 0 77
    |> B F.FDB_W2_HIT false 77 |> B F.FDB_W2_MC false 77 |> S F.FDB_W3_PORT_MASK 0 77 |> B F.FDB_W2_STATIC false 77
    |> B F.FDB_W2_STATIC false 77 |> B F.FDB_W2_HIT false 77 |> S F.FDB_W2_AGE 0 77
def s_forwardingDatabase_3 : State := run |> S F.PWR_STAT_FAST 2 0 |> Clr [.FDB_W0, .FDB_W1, .FDB_W2, .FDB_W3]
    |> OnSw (fun w => { w with flushing := false }) |> S F.GLB_BOOT_STAT_STAGE 7 0 |> B F.SW_CFG_AGE_EN true 0
    |> B F.FDB_W2_VALID true 77 |> S F.FDB_W2_PORT 0 77 |> S F.FDB_W1_VID 0 77 |> S F.FDB_W2_AGE 0 77
    |> B F.FDB_W2_HIT false 77 |> B F.FDB_W2_MC false 77 |> S F.FDB_W3_PORT_MASK 0 77 |> B F.FDB_W2_STATIC false 77
    |> B F.FDB_W2_STATIC false 77 |> B F.FDB_W2_HIT false 77 |> S F.FDB_W2_AGE 3 77
def s_forwardingDatabase_4 : State := run |> S F.PWR_STAT_FAST 2 0 |> Clr [.FDB_W0, .FDB_W1, .FDB_W2, .FDB_W3]
    |> OnSw (fun w => { w with flushing := false }) |> S F.GLB_BOOT_STAT_STAGE 7 0 |> S F.SW_FDB_KEY_HI_VID 0 0
    |> S F.SW_FDB_KEY_HI_MAC 0 0 |> S F.SW_FDB_KEY_LO_MAC 0 0
    |> (fun s => let i := (waysOf (fdbBucket 0 (0 ^ 32 + 0))).getD 0 0; s |> B F.FDB_W2_VALID true i
    |> B F.FDB_W2_STATIC false i |> S F.FDB_W1_VID 0 i |> S F.FDB_W1_MAC 0 i |> S F.FDB_W0_MAC 0 i)
def s_forwardingDatabase_6 : State := run |> S F.PWR_STAT_FAST 2 0 |> Clr [.FDB_W0, .FDB_W1, .FDB_W2, .FDB_W3]
    |> OnSw (fun w => { w with flushing := false }) |> S F.GLB_BOOT_STAT_STAGE 7 0 |> S F.SW_FDB_KEY_HI_VID 0 0
    |> S F.SW_FDB_KEY_HI_MAC 0 0 |> S F.SW_FDB_KEY_LO_MAC 0 0
def s_forwardingDatabase_9 : State := run |> S F.PWR_STAT_FAST 2 0 |> Clr [.FDB_W0, .FDB_W1, .FDB_W2, .FDB_W3]
    |> OnSw (fun w => { w with flushing := false }) |> S F.GLB_BOOT_STAT_STAGE 7 0 |> S F.SW_FDB_KEY_HI_VID 1 0
    |> S F.SW_FDB_KEY_HI_MAC 0 0 |> S F.SW_FDB_KEY_LO_MAC 0 0
    |> (fun s => (waysOf (fdbBucket 1 (0 ^ 32 + 0))).foldl (fun s i => s |> B F.FDB_W2_VALID true i
    |> B F.FDB_W2_STATIC true i) s)
def s_forwardingDatabase_10 : State := run |> S F.PWR_STAT_FAST 2 0 |> Clr [.FDB_W0, .FDB_W1, .FDB_W2, .FDB_W3]
    |> OnSw (fun w => { w with flushing := false }) |> S F.GLB_BOOT_STAT_STAGE 7 0 |> B F.FDB_W2_VALID true 77
    |> S F.FDB_W2_PORT 0 77 |> S F.FDB_W1_VID 0 77 |> S F.FDB_W2_AGE 0 77 |> B F.FDB_W2_HIT false 77
    |> B F.FDB_W2_MC false 77 |> S F.FDB_W3_PORT_MASK 0 77 |> B F.FDB_W2_STATIC false 77
def s_forwardingDatabase_11 : State := run |> S F.PWR_STAT_FAST 2 0 |> Clr [.FDB_W0, .FDB_W1, .FDB_W2, .FDB_W3]
    |> OnSw (fun w => { w with flushing := false }) |> S F.GLB_BOOT_STAT_STAGE 7 0 |> B F.FDB_W2_VALID true 77
    |> S F.FDB_W2_PORT 0 77 |> S F.FDB_W1_VID 0 77 |> S F.FDB_W2_AGE 0 77 |> B F.FDB_W2_HIT false 77
    |> B F.FDB_W2_MC false 77 |> S F.FDB_W3_PORT_MASK 0 77 |> B F.FDB_W2_STATIC false 77 |> S F.SW_FDB_KEY_HI_VID 0 0
    |> S F.SW_FDB_KEY_HI_MAC 0 0 |> S F.SW_FDB_KEY_LO_MAC 0 0
def s_forwardingDatabase_12 : State := run |> S F.PWR_STAT_FAST 2 0 |> Clr [.FDB_W0, .FDB_W1, .FDB_W2, .FDB_W3]
    |> OnSw (fun w => { w with flushing := false }) |> S F.GLB_BOOT_STAT_STAGE 7 0
def s_forwardingDatabase_13 : State := run |> S F.PWR_STAT_FAST 2 0 |> Clr [.FDB_W0, .FDB_W1, .FDB_W2, .FDB_W3]
    |> OnSw (fun w => { w with flushing := false }) |> S F.GLB_BOOT_STAT_STAGE 7 0
    |> OnSw (fun w => { w with flushing := true })
/-- Each clause of `ForwardingDatabase` has a state and operands that meet its hypotheses. -/
theorem test_forwardingDatabase_hypotheses :
    (∃ (s : State) (i : Nat), s.dev.fastOn = true ∧ s.dev.flag F.SW_CFG_AGE_EN = true ∧ s.dev.fdbEntries.Nodup ∧
      i ∈ s.dev.fdbEntries ∧ s.dev.flag F.FDB_W2_STATIC i = false ∧ s.dev.flag F.FDB_W2_HIT i = true) ∧
    (∃ (s : State) (i : Nat), s.dev.fastOn = true ∧ s.dev.flag F.SW_CFG_AGE_EN = true ∧ s.dev.fdbEntries.Nodup ∧
      i ∈ s.dev.fdbEntries ∧ s.dev.flag F.FDB_W2_STATIC i = false ∧ s.dev.flag F.FDB_W2_HIT i = false ∧
      s.dev.get F.FDB_W2_AGE i < 3) ∧
    (∃ (s : State) (i : Nat), s.dev.fastOn = true ∧ s.dev.flag F.SW_CFG_AGE_EN = true ∧ s.dev.fdbEntries.Nodup ∧
      i ∈ s.dev.fdbEntries ∧ s.dev.flag F.FDB_W2_STATIC i = false ∧ s.dev.flag F.FDB_W2_HIT i = false ∧
      s.dev.get F.FDB_W2_AGE i = 3) ∧
    (∃ (s : State) (i : Nat), s.dev.fastReach = true ∧ s.dev.sw.flushing = false ∧
      s.dev.fdbFind s.dev.cmdVid s.dev.cmdMac = some i) ∧
    (∃ (s : State), s.dev.fastReach = true ∧ s.dev.sw.flushing = false ∧ s.dev.fdbFind s.dev.cmdVid s.dev.cmdMac = none) ∧
    (∃ (s : State) (i : Nat), s.dev.fastReach = true ∧ s.dev.sw.flushing = false ∧
      s.dev.insertWay s.dev.cmdVid s.dev.cmdMac = some i) ∧
    (∃ (s : State), s.dev.fastReach = true ∧ s.dev.sw.flushing = false ∧ s.dev.insertWay s.dev.cmdVid s.dev.cmdMac = none) ∧
    (∃ (s : State), s.dev.fastReach = true ∧ s.dev.sw.flushing = false) ∧
    (∃ (s : State) (i : Nat), s.dev.fastReach = true ∧ s.dev.sw.flushing = false ∧ i ∈ s.dev.fdbEntries) ∧
    (∃ (s : State) (op : Fin 8), s.dev.fastReach = true ∧ s.dev.sw.flushing = false ∧ 5 ≤ op.val) ∧
    (∃ (s : State), s.dev.sw.flushing = true) ∧
    (∃ (s : State) (k : Fin 262144) (x : Bool) (y : Bool) (z : Bool) (op : Fin 8) (c : _), s.dev.fastReach = true ∧
      s.dev.sw.flushing = true ∧
      c ∈ [Instr.fdbLookup, .fdbInsert, .fdbDelete, .fdbReadIdx k, .fdbFlush x y z, .fdbBadOp op]) :=
  ⟨⟨s_forwardingDatabase_1, 77, by decide +kernel⟩,
   ⟨s_forwardingDatabase_2, 77, by decide +kernel⟩,
   ⟨s_forwardingDatabase_3, 77, by decide +kernel⟩,
   ⟨s_forwardingDatabase_4, (waysOf (fdbBucket 0 (0 ^ 32 + 0))).getD 0 0, by decide +kernel⟩,
   ⟨s_forwardingDatabase_6, by decide +kernel⟩,
   ⟨s_forwardingDatabase_6, ((s_forwardingDatabase_6.dev.insertWay s_forwardingDatabase_6.dev.cmdVid s_forwardingDatabase_6.dev.cmdMac).getD 0), by decide +kernel⟩,
   ⟨s_forwardingDatabase_9, by decide +kernel⟩,
   ⟨s_forwardingDatabase_10, by decide +kernel⟩,
   ⟨s_forwardingDatabase_11, 77, by decide +kernel⟩,
   ⟨s_forwardingDatabase_12, 5, by decide +kernel⟩,
   ⟨s_forwardingDatabase_13, by decide +kernel⟩,
   ⟨s_forwardingDatabase_13, 0, false, false, false, 0, (Instr.fdbLookup), by decide +kernel⟩⟩

def s_switchMemoryErrors_1 : State := run |> D (fun d => { d with ident := { d.ident with variant := 2 } })
    |> S F.GLB_BOOT_STAT_STAGE 7 0 |> S F.PWR_STAT_FAST 2 0 |> OnSw (fun w => Switch.init)
    |> B F.LANE_QUAD_STAT_LINK_UP true 0 |> S F.LANE_QUAD_CFG_MODE 2 0 |> S F.SW_PORT_CFG_STATE 3 0
    |> OnPort 0 (fun x => { x with inLoop := false }) |> B F.LANE_QUAD_STAT_LINK_UP true 1
    |> S F.LANE_QUAD_CFG_MODE (2 + 1 % 8) 1 |> S F.SW_PORT_CFG_STATE 3 1 |> OnPort 1 (fun x => { x with inLoop := false })
    |> B F.LANE_QUAD_STAT_LINK_UP true 2 |> S F.LANE_QUAD_CFG_MODE (2 + 2 % 8) 2 |> S F.SW_PORT_CFG_STATE 3 2
    |> OnPort 2 (fun x => { x with inLoop := false }) |> B F.LANE_QUAD_STAT_LINK_UP true 3
    |> S F.LANE_QUAD_CFG_MODE (2 + 3 % 8) 3 |> S F.SW_PORT_CFG_STATE 3 3 |> OnPort 3 (fun x => { x with inLoop := false })
    |> B F.LANE_QUAD_STAT_LINK_UP true 4 |> S F.LANE_QUAD_CFG_MODE (2 + 4 % 8) 4 |> S F.SW_PORT_CFG_STATE 3 4
    |> OnPort 4 (fun x => { x with inLoop := false }) |> B F.LANE_QUAD_STAT_LINK_UP true 5
    |> S F.LANE_QUAD_CFG_MODE (2 + 5 % 8) 5 |> S F.SW_PORT_CFG_STATE 3 5 |> OnPort 5 (fun x => { x with inLoop := false })
    |> B F.LANE_QUAD_STAT_LINK_UP true 6 |> S F.LANE_QUAD_CFG_MODE (2 + 6 % 8) 6 |> S F.SW_PORT_CFG_STATE 3 6
    |> OnPort 6 (fun x => { x with inLoop := false }) |> B F.LANE_QUAD_STAT_LINK_UP true 7
    |> S F.LANE_QUAD_CFG_MODE (2 + 7 % 8) 7 |> S F.SW_PORT_CFG_STATE 3 7 |> OnPort 7 (fun x => { x with inLoop := false })
    |> OnSw (fun w => { w with nextFid := 6, frames := [(5, some ({ inPort := 0, own := .none, bytes := List.replicate 60 9, done := true, bad := false, base := 300, vid := 1, pcp := 0, tagged := false, untag := 0, dests := [3], cls := 0, colour := 0, deiMark := false, rtag := none, popRtag := false, transit := false, tRx := 10 ^ 12, cells := [0 , 100], refs := 2, charge := 2, res := false, born := 0, unreached := 0, learn := 0 == 1, copies := [], waiting := [], maxFrame := 1518 } : Stored))] })
    |> OnSw (fun w => { w with tx := [(0, some ⟨(⟨5, 64, none, 0, 0, none, true, false, false⟩ : Link), 2, 77, 88, 5, false, false, none⟩)] })
def v_switchMemoryErrors_1_f : Stored := ({ inPort := 0, own := .none, bytes := List.replicate 60 9, done := true, bad := false, base := 300, vid := 1, pcp := 0, tagged := false, untag := 0, dests := [3], cls := 0, colour := 0, deiMark := false, rtag := none, popRtag := false, transit := false, tRx := 10 ^ 12, cells := [0 , 100], refs := 2, charge := 2, res := false, born := 0, unreached := 0, learn := 0 == 1, copies := [], waiting := [], maxFrame := 1518 } : Stored)
def s_switchMemoryErrors_2 : State := run |> D (fun d => { d with ident := { d.ident with variant := 2 } })
    |> S F.GLB_BOOT_STAT_STAGE 7 0 |> S F.PWR_STAT_FAST 2 0 |> OnSw (fun w => Switch.init)
    |> B F.LANE_QUAD_STAT_LINK_UP true 0 |> S F.LANE_QUAD_CFG_MODE 2 0 |> S F.SW_PORT_CFG_STATE 3 0
    |> OnPort 0 (fun x => { x with inLoop := false }) |> B F.LANE_QUAD_STAT_LINK_UP true 1
    |> S F.LANE_QUAD_CFG_MODE (2 + 1 % 8) 1 |> S F.SW_PORT_CFG_STATE 3 1 |> OnPort 1 (fun x => { x with inLoop := false })
    |> B F.LANE_QUAD_STAT_LINK_UP true 2 |> S F.LANE_QUAD_CFG_MODE (2 + 2 % 8) 2 |> S F.SW_PORT_CFG_STATE 3 2
    |> OnPort 2 (fun x => { x with inLoop := false }) |> B F.LANE_QUAD_STAT_LINK_UP true 3
    |> S F.LANE_QUAD_CFG_MODE (2 + 3 % 8) 3 |> S F.SW_PORT_CFG_STATE 3 3 |> OnPort 3 (fun x => { x with inLoop := false })
    |> B F.LANE_QUAD_STAT_LINK_UP true 4 |> S F.LANE_QUAD_CFG_MODE (2 + 4 % 8) 4 |> S F.SW_PORT_CFG_STATE 3 4
    |> OnPort 4 (fun x => { x with inLoop := false }) |> B F.LANE_QUAD_STAT_LINK_UP true 5
    |> S F.LANE_QUAD_CFG_MODE (2 + 5 % 8) 5 |> S F.SW_PORT_CFG_STATE 3 5 |> OnPort 5 (fun x => { x with inLoop := false })
    |> B F.LANE_QUAD_STAT_LINK_UP true 6 |> S F.LANE_QUAD_CFG_MODE (2 + 6 % 8) 6 |> S F.SW_PORT_CFG_STATE 3 6
    |> OnPort 6 (fun x => { x with inLoop := false }) |> B F.LANE_QUAD_STAT_LINK_UP true 7
    |> S F.LANE_QUAD_CFG_MODE (2 + 7 % 8) 7 |> S F.SW_PORT_CFG_STATE 3 7 |> OnPort 7 (fun x => { x with inLoop := false })
    |> OnSw (fun w => { w with nextFid := 6, frames := [(5, some ({ inPort := 0, own := .none, bytes := List.replicate 60 9, done := true, bad := false, base := 300, vid := 1, pcp := 0, tagged := false, untag := 0, dests := [3], cls := 0, colour := 0, deiMark := false, rtag := none, popRtag := false, transit := false, tRx := 10 ^ 12, cells := [0 , 100], refs := 2, charge := 2, res := false, born := 0, unreached := 0, learn := 0 == 1, copies := [], waiting := [], maxFrame := 1518 } : Stored))] })
    |> OnSw (fun w => { w with queues := [(qKey 0 0, [(⟨5, 64, none, 0, 0, none, true, false, false⟩ : Link)] ++ [⟨6, 64, none, 0, 0, none, true, false, false⟩, ⟨7, 64, none, 0, 0, none, true, false, false⟩])] })
def s_switchMemoryErrors_7 : State := run |> D (fun d => { d with ident := { d.ident with variant := 2 } })
    |> S F.GLB_BOOT_STAT_STAGE 7 0 |> S F.PWR_STAT_FAST 2 0 |> OnSw (fun w => Switch.init)
    |> B F.LANE_QUAD_STAT_LINK_UP true 0 |> S F.LANE_QUAD_CFG_MODE 2 0 |> S F.SW_PORT_CFG_STATE 3 0
    |> OnPort 0 (fun x => { x with inLoop := false }) |> B F.LANE_QUAD_STAT_LINK_UP true 1
    |> S F.LANE_QUAD_CFG_MODE (2 + 1 % 8) 1 |> S F.SW_PORT_CFG_STATE 3 1 |> OnPort 1 (fun x => { x with inLoop := false })
    |> B F.LANE_QUAD_STAT_LINK_UP true 2 |> S F.LANE_QUAD_CFG_MODE (2 + 2 % 8) 2 |> S F.SW_PORT_CFG_STATE 3 2
    |> OnPort 2 (fun x => { x with inLoop := false }) |> B F.LANE_QUAD_STAT_LINK_UP true 3
    |> S F.LANE_QUAD_CFG_MODE (2 + 3 % 8) 3 |> S F.SW_PORT_CFG_STATE 3 3 |> OnPort 3 (fun x => { x with inLoop := false })
    |> B F.LANE_QUAD_STAT_LINK_UP true 4 |> S F.LANE_QUAD_CFG_MODE (2 + 4 % 8) 4 |> S F.SW_PORT_CFG_STATE 3 4
    |> OnPort 4 (fun x => { x with inLoop := false }) |> B F.LANE_QUAD_STAT_LINK_UP true 5
    |> S F.LANE_QUAD_CFG_MODE (2 + 5 % 8) 5 |> S F.SW_PORT_CFG_STATE 3 5 |> OnPort 5 (fun x => { x with inLoop := false })
    |> B F.LANE_QUAD_STAT_LINK_UP true 6 |> S F.LANE_QUAD_CFG_MODE (2 + 6 % 8) 6 |> S F.SW_PORT_CFG_STATE 3 6
    |> OnPort 6 (fun x => { x with inLoop := false }) |> B F.LANE_QUAD_STAT_LINK_UP true 7
    |> S F.LANE_QUAD_CFG_MODE (2 + 7 % 8) 7 |> S F.SW_PORT_CFG_STATE 3 7 |> OnPort 7 (fun x => { x with inLoop := false })
    |> OnSw (fun w => { w with badTbl := [] })
def s_switchMemoryErrors_11 : State := run |> D (fun d => { d with ident := { d.ident with variant := 2 } })
    |> S F.GLB_BOOT_STAT_STAGE 7 0 |> S F.PWR_STAT_FAST 2 0 |> OnSw (fun w => Switch.init)
    |> B F.LANE_QUAD_STAT_LINK_UP true 0 |> S F.LANE_QUAD_CFG_MODE 2 0 |> S F.SW_PORT_CFG_STATE 3 0
    |> OnPort 0 (fun x => { x with inLoop := false }) |> B F.LANE_QUAD_STAT_LINK_UP true 1
    |> S F.LANE_QUAD_CFG_MODE (2 + 1 % 8) 1 |> S F.SW_PORT_CFG_STATE 3 1 |> OnPort 1 (fun x => { x with inLoop := false })
    |> B F.LANE_QUAD_STAT_LINK_UP true 2 |> S F.LANE_QUAD_CFG_MODE (2 + 2 % 8) 2 |> S F.SW_PORT_CFG_STATE 3 2
    |> OnPort 2 (fun x => { x with inLoop := false }) |> B F.LANE_QUAD_STAT_LINK_UP true 3
    |> S F.LANE_QUAD_CFG_MODE (2 + 3 % 8) 3 |> S F.SW_PORT_CFG_STATE 3 3 |> OnPort 3 (fun x => { x with inLoop := false })
    |> B F.LANE_QUAD_STAT_LINK_UP true 4 |> S F.LANE_QUAD_CFG_MODE (2 + 4 % 8) 4 |> S F.SW_PORT_CFG_STATE 3 4
    |> OnPort 4 (fun x => { x with inLoop := false }) |> B F.LANE_QUAD_STAT_LINK_UP true 5
    |> S F.LANE_QUAD_CFG_MODE (2 + 5 % 8) 5 |> S F.SW_PORT_CFG_STATE 3 5 |> OnPort 5 (fun x => { x with inLoop := false })
    |> B F.LANE_QUAD_STAT_LINK_UP true 6 |> S F.LANE_QUAD_CFG_MODE (2 + 6 % 8) 6 |> S F.SW_PORT_CFG_STATE 3 6
    |> OnPort 6 (fun x => { x with inLoop := false }) |> B F.LANE_QUAD_STAT_LINK_UP true 7
    |> S F.LANE_QUAD_CFG_MODE (2 + 7 % 8) 7 |> S F.SW_PORT_CFG_STATE 3 7 |> OnPort 7 (fun x => { x with inLoop := false })
/-- Each clause of `SwitchMemoryErrors` has a state and operands that meet its hypotheses. -/
theorem test_switchMemoryErrors_hypotheses :
    (∃ (s : State) (p : PortId) (cell : Fin 294912) (x : TxNow) (f : Stored), s.dev.txNow p.val = some x ∧
      s.dev.frame x.link.fid = some f ∧ cell.val ∈ f.cells) ∧
    (∃ (s : State) (p : PortId) (q : ClassId) (n : Nat), n < (s.dev.queue p.val q.val).length) ∧
    (∃ (s : State) (p : PortId) (x : TxNow), s.dev.txNow p.val = some x ∧ x.cut = none) ∧
    (∃ (s : State) (i : Fin 262144), s.dev.fastOn = true ∧ s.dev.fdbRetired i.val = false) ∧
    (∃ (s : State) (i : Fin 262144), s.dev.fastOn = true ∧ i.val < 4096 ∧ (0x09, i.val) ∉ s.dev.sw.badTbl) ∧
    (∃ (s : State) (i : Fin 262144), s.dev.fastOn = true ∧ i.val < 16384 ∧ (0x0A, i.val) ∉ s.dev.sw.badTbl) ∧
    (∃ (s : State) (n : Nat) (fi : AuditFinds) (f : Stored), s.dev.fastOn = true ∧ fi.crossed = [] ∧
      s.dev.frame n = some f ∧ 0 < s.dev.holders n) ∧
    (∃ (s : State) (fi : AuditFinds), s.dev.fastOn = true ∧ fi.crossed = [] ∧ fi.sum ≠ totalCells) :=
  ⟨⟨s_switchMemoryErrors_1, 0, 0, (⟨(⟨5, 64, none, 0, 0, none, true, false, false⟩ : Link), 2, 77, 88, 5, false, false, none⟩ : TxNow), v_switchMemoryErrors_1_f, by decide +kernel⟩,
   ⟨s_switchMemoryErrors_2, 0, 0, 0, by decide +kernel⟩,
   ⟨s_switchMemoryErrors_1, 0, (⟨(⟨5, 64, none, 0, 0, none, true, false, false⟩ : Link), 2, 77, 88, 5, false, false, none⟩ : TxNow), by decide +kernel⟩,
   ⟨s_switchMemoryErrors_7, 0, by decide +kernel⟩,
   ⟨s_switchMemoryErrors_7, 0, by decide +kernel⟩,
   ⟨s_switchMemoryErrors_7, 0, by decide +kernel⟩,
   ⟨s_switchMemoryErrors_1, 5, (⟨[], [], [], 0⟩ : AuditFinds), v_switchMemoryErrors_1_f, by decide +kernel⟩,
   ⟨s_switchMemoryErrors_11, (⟨[], [], [], 0⟩ : AuditFinds), by decide +kernel⟩⟩

def s_recoveryAndMeters_1 : State := run |> S F.PWR_STAT_FAST 2 0 |> S F.GLB_BOOT_STAT_STAGE 7 0
def s_recoveryAndMeters_2 : State := run |> S F.PWR_STAT_FAST 2 0 |> S F.GLB_BOOT_STAT_STAGE 7 0
    |> OnSw (fun w => { w with nextFid := 6, frames := [(5, some ({ inPort := 0, own := .none, bytes := List.replicate 60 9, done := true, bad := false, base := 300, vid := 1, pcp := 0, tagged := false, untag := 0, dests := [3], cls := 0, colour := 0, deiMark := false, rtag := none, popRtag := false, transit := false, tRx := 10 ^ 12, cells := [0 , 100], refs := 2, charge := 2, res := false, born := 0, unreached := 0, learn := 0 == 1, copies := [], waiting := [], maxFrame := 1518 } : Stored))] })
    |> OnSw (fun w => { w with holds := [(⟨0, 0, 5, 10 ^ 12⟩ : Hold)] }) |> S F.RECOV_W4_RELEASED 0 0
/-- Each clause of `RecoveryAndMeters` has a state and operands that meet its hypotheses. -/
theorem test_recoveryAndMeters_hypotheses :
    (∃ (s : State), s.dev.fastOn = true) ∧
    (∃ (s : State) (i : Fin 4096) (h : Hold), s.dev.sw.holds = [h] ∧ h.inst = i.val ∧ h.seq < 65536) ∧
    (∃ (s : State), s.dev.fastReach = true) :=
  ⟨⟨s_recoveryAndMeters_1, by decide +kernel⟩,
   ⟨s_recoveryAndMeters_2, 0, (⟨0, 0, 5, 10 ^ 12⟩ : Hold), by decide +kernel⟩,
   ⟨s_recoveryAndMeters_1, by decide +kernel⟩⟩

def s_gatesAndQueues_1 : State := run |> D (fun d => { d with ident := { d.ident with variant := 2 } })
    |> S F.GLB_BOOT_STAT_STAGE 7 0 |> S F.PWR_STAT_FAST 2 0 |> OnSw (fun w => Switch.init)
    |> B F.LANE_QUAD_STAT_LINK_UP true 0 |> S F.LANE_QUAD_CFG_MODE 2 0 |> S F.SW_PORT_CFG_STATE 3 0
    |> OnPort 0 (fun x => { x with inLoop := false }) |> B F.LANE_QUAD_STAT_LINK_UP true 1
    |> S F.LANE_QUAD_CFG_MODE (2 + 1 % 8) 1 |> S F.SW_PORT_CFG_STATE 3 1 |> OnPort 1 (fun x => { x with inLoop := false })
    |> B F.LANE_QUAD_STAT_LINK_UP true 2 |> S F.LANE_QUAD_CFG_MODE (2 + 2 % 8) 2 |> S F.SW_PORT_CFG_STATE 3 2
    |> OnPort 2 (fun x => { x with inLoop := false }) |> B F.LANE_QUAD_STAT_LINK_UP true 3
    |> S F.LANE_QUAD_CFG_MODE (2 + 3 % 8) 3 |> S F.SW_PORT_CFG_STATE 3 3 |> OnPort 3 (fun x => { x with inLoop := false })
    |> B F.LANE_QUAD_STAT_LINK_UP true 4 |> S F.LANE_QUAD_CFG_MODE (2 + 4 % 8) 4 |> S F.SW_PORT_CFG_STATE 3 4
    |> OnPort 4 (fun x => { x with inLoop := false }) |> B F.LANE_QUAD_STAT_LINK_UP true 5
    |> S F.LANE_QUAD_CFG_MODE (2 + 5 % 8) 5 |> S F.SW_PORT_CFG_STATE 3 5 |> OnPort 5 (fun x => { x with inLoop := false })
    |> B F.LANE_QUAD_STAT_LINK_UP true 6 |> S F.LANE_QUAD_CFG_MODE (2 + 6 % 8) 6 |> S F.SW_PORT_CFG_STATE 3 6
    |> OnPort 6 (fun x => { x with inLoop := false }) |> B F.LANE_QUAD_STAT_LINK_UP true 7
    |> S F.LANE_QUAD_CFG_MODE (2 + 7 % 8) 7 |> S F.SW_PORT_CFG_STATE 3 7 |> OnPort 7 (fun x => { x with inLoop := false })
def s_gatesAndQueues_3 : State := run |> D (fun d => { d with ident := { d.ident with variant := 2 } })
    |> S F.GLB_BOOT_STAT_STAGE 7 0 |> S F.PWR_STAT_FAST 2 0 |> OnSw (fun w => Switch.init)
    |> B F.LANE_QUAD_STAT_LINK_UP true 0 |> S F.LANE_QUAD_CFG_MODE 2 0 |> S F.SW_PORT_CFG_STATE 3 0
    |> OnPort 0 (fun x => { x with inLoop := false }) |> B F.LANE_QUAD_STAT_LINK_UP true 1
    |> S F.LANE_QUAD_CFG_MODE (2 + 1 % 8) 1 |> S F.SW_PORT_CFG_STATE 3 1 |> OnPort 1 (fun x => { x with inLoop := false })
    |> B F.LANE_QUAD_STAT_LINK_UP true 2 |> S F.LANE_QUAD_CFG_MODE (2 + 2 % 8) 2 |> S F.SW_PORT_CFG_STATE 3 2
    |> OnPort 2 (fun x => { x with inLoop := false }) |> B F.LANE_QUAD_STAT_LINK_UP true 3
    |> S F.LANE_QUAD_CFG_MODE (2 + 3 % 8) 3 |> S F.SW_PORT_CFG_STATE 3 3 |> OnPort 3 (fun x => { x with inLoop := false })
    |> B F.LANE_QUAD_STAT_LINK_UP true 4 |> S F.LANE_QUAD_CFG_MODE (2 + 4 % 8) 4 |> S F.SW_PORT_CFG_STATE 3 4
    |> OnPort 4 (fun x => { x with inLoop := false }) |> B F.LANE_QUAD_STAT_LINK_UP true 5
    |> S F.LANE_QUAD_CFG_MODE (2 + 5 % 8) 5 |> S F.SW_PORT_CFG_STATE 3 5 |> OnPort 5 (fun x => { x with inLoop := false })
    |> B F.LANE_QUAD_STAT_LINK_UP true 6 |> S F.LANE_QUAD_CFG_MODE (2 + 6 % 8) 6 |> S F.SW_PORT_CFG_STATE 3 6
    |> OnPort 6 (fun x => { x with inLoop := false }) |> B F.LANE_QUAD_STAT_LINK_UP true 7
    |> S F.LANE_QUAD_CFG_MODE (2 + 7 % 8) 7 |> S F.SW_PORT_CFG_STATE 3 7 |> OnPort 7 (fun x => { x with inLoop := false })
    |> B F.PRT_Q_CFG_BOUNDED true (qKey 0 2) |> B F.PRT_Q_CFG_BOUNDED true (qKey 0 3)
    |> B F.PRT_Q_CFG_BOUNDED true (qKey 0 4)
def s_gatesAndQueues_8 : State := run |> D (fun d => { d with ident := { d.ident with variant := 2 } })
    |> S F.GLB_BOOT_STAT_STAGE 7 0 |> S F.PWR_STAT_FAST 2 0 |> OnSw (fun w => Switch.init)
    |> B F.LANE_QUAD_STAT_LINK_UP true 0 |> S F.LANE_QUAD_CFG_MODE 2 0 |> S F.SW_PORT_CFG_STATE 3 0
    |> OnPort 0 (fun x => { x with inLoop := false }) |> B F.LANE_QUAD_STAT_LINK_UP true 1
    |> S F.LANE_QUAD_CFG_MODE (2 + 1 % 8) 1 |> S F.SW_PORT_CFG_STATE 3 1 |> OnPort 1 (fun x => { x with inLoop := false })
    |> B F.LANE_QUAD_STAT_LINK_UP true 2 |> S F.LANE_QUAD_CFG_MODE (2 + 2 % 8) 2 |> S F.SW_PORT_CFG_STATE 3 2
    |> OnPort 2 (fun x => { x with inLoop := false }) |> B F.LANE_QUAD_STAT_LINK_UP true 3
    |> S F.LANE_QUAD_CFG_MODE (2 + 3 % 8) 3 |> S F.SW_PORT_CFG_STATE 3 3 |> OnPort 3 (fun x => { x with inLoop := false })
    |> B F.LANE_QUAD_STAT_LINK_UP true 4 |> S F.LANE_QUAD_CFG_MODE (2 + 4 % 8) 4 |> S F.SW_PORT_CFG_STATE 3 4
    |> OnPort 4 (fun x => { x with inLoop := false }) |> B F.LANE_QUAD_STAT_LINK_UP true 5
    |> S F.LANE_QUAD_CFG_MODE (2 + 5 % 8) 5 |> S F.SW_PORT_CFG_STATE 3 5 |> OnPort 5 (fun x => { x with inLoop := false })
    |> B F.LANE_QUAD_STAT_LINK_UP true 6 |> S F.LANE_QUAD_CFG_MODE (2 + 6 % 8) 6 |> S F.SW_PORT_CFG_STATE 3 6
    |> OnPort 6 (fun x => { x with inLoop := false }) |> B F.LANE_QUAD_STAT_LINK_UP true 7
    |> S F.LANE_QUAD_CFG_MODE (2 + 7 % 8) 7 |> S F.SW_PORT_CFG_STATE 3 7 |> OnPort 7 (fun x => { x with inLoop := false })
    |> B F.PRT_Q_CFG_BOUNDED true (qKey 0 0) |> B F.PRT_Q_CFG_BOUNDED (1 == 0) (qKey 0 1)
    |> B F.PRT_Q_CFG_BOUNDED (2 == 0) (qKey 0 2) |> B F.PRT_Q_CFG_BOUNDED (3 == 0) (qKey 0 3)
    |> B F.PRT_Q_CFG_BOUNDED (4 == 0) (qKey 0 4) |> B F.PRT_Q_CFG_BOUNDED (5 == 0) (qKey 0 5)
    |> B F.PRT_Q_CFG_BOUNDED (6 == 0) (qKey 0 6) |> B F.PRT_Q_CFG_BOUNDED (7 == 0) (qKey 0 7)
    |> B F.PRT_GATE_STAT_REPREDICT true 0
    |> OnSw (fun w => { w with nextFid := 6, frames := [(5, some ({ inPort := 0, own := .none, bytes := List.replicate 60 9, done := true, bad := false, base := 300, vid := 1, pcp := 0, tagged := false, untag := 0, dests := [3], cls := 0, colour := 0, deiMark := false, rtag := none, popRtag := false, transit := false, tRx := 10 ^ 12, cells := [0 , 100], refs := 2, charge := 2, res := false, born := 0, unreached := 0, learn := 0 == 1, copies := [], waiting := [], maxFrame := 1518 } : Stored))] })
    |> OnSw (fun w => { w with queues := [(qKey 0 0, [(⟨5, 64, some (10 ^ 20), 0, 0, none, true, false, false⟩ : Link)])] })
/-- Each clause of `GatesAndQueues` has a state and operands that meet its hypotheses. -/
theorem test_gatesAndQueues_hypotheses :
    (∃ (s : State) (p : PortId), s.dev.fastOn = true ∧ (s.dev.gateAt p.val s.dev.nowQ).1 < 256 ∧
      (s.dev.gateAt p.val s.dev.nowQ).2 < 1024) ∧
    (∃ (s : State) (p : PortId) (v : Word), s.dev.fastReach = true ∧ s.dev.hasPort p.val = true ∧
      twoIn (s.dev.boundedMask p.val) (bitsOf v.toNat 0 8) = false) ∧
    (∃ (s : State) (p : PortId) (v : Word), s.dev.fastReach = true ∧ s.dev.hasPort p.val = true ∧
      twoIn (s.dev.boundedMask p.val) (bitsOf v.toNat 0 8) = true) ∧
    (∃ (s : State) (p : PortId) (v : Word), s.dev.fastReach = true ∧ s.dev.hasPort p.val = true ∧
      (s.dev.flag F.PRT_GATE_CFG_GATE_EN p.val = false ∨ bitsOf v.toNat 0 1 = 1 ∨ (s.dev.boundedOf p.val).length < 2)) ∧
    (∃ (s : State) (p : PortId) (q : ClassId) (v : Word), s.dev.fastReach = true ∧ s.dev.hasPort p.val = true ∧
      resRefused s.dev (s.dev.store .PRT_Q_RES (qKey p.val q.val) v) = false) ∧
    (∃ (s : State) (p : PortId) (q : ClassId) (v : Word), s.dev.fastReach = true ∧ s.dev.hasPort p.val = true ∧
      resRefused s.dev (s.dev.store .PRT_Q_CFG (qKey p.val q.val) v) = false ∧
      s.dev.boundedRefused (s.dev.store .PRT_Q_CFG (qKey p.val q.val) v) p.val q.val = false) ∧
    (∃ (s : State) (p : PortId) (q : ClassId) (v : Word), s.dev.fastReach = true ∧ s.dev.hasPort p.val = true ∧
      s.dev.boundedRefused (s.dev.store .PRT_Q_CFG (qKey p.val q.val) v) p.val q.val = true) ∧
    (∃ (s : State) (p : PortId) (q : ClassId), s.dev.flag F.PRT_GATE_STAT_REPREDICT p.val = true ∧
      s.dev.boundedOf p.val = [q.val]) :=
  ⟨⟨s_gatesAndQueues_1, 0, by decide +kernel⟩,
   ⟨s_gatesAndQueues_1, 0, 0, by decide +kernel⟩,
   ⟨s_gatesAndQueues_3, 0, 12, by decide +kernel⟩,
   ⟨s_gatesAndQueues_1, 0, 0, by decide +kernel⟩,
   ⟨s_gatesAndQueues_1, 0, 0, 0, by decide +kernel⟩,
   ⟨s_gatesAndQueues_1, 0, 0, 0, by decide +kernel⟩,
   ⟨s_gatesAndQueues_1, 0, 7, 2, by decide +kernel⟩,
   ⟨s_gatesAndQueues_8, 0, 0, by decide +kernel⟩⟩

def s_servoAndWarmUp_1 : State := run |> S F.GLB_BOOT_STAT_STAGE 7 0
def s_servoAndWarmUp_2 : State := run |> S F.GLB_BOOT_STAT_STAGE 7 0 |> OnTwin (fun w => { w with active := none })
def s_servoAndWarmUp_3 : State := run |> S F.GLB_BOOT_STAT_STAGE 7 0 |> OnSys (fun y => { y with powered := true })
def s_servoAndWarmUp_4 : State := run |> S F.GLB_BOOT_STAT_STAGE 7 0
    |> OnSys (fun y => { y with warmRunsA := true, warmRunsB := true })
    |> OnTb (if 0 % 2 = 0 then .a else .b) (fun t => { t with warm := false }) |> S F.TB_ROLE_ROLE 1 0
    |> S F.TB_ROLE_ROLE 1 1
/-- Each clause of `ServoAndWarmUp` has a state and operands that meet its hypotheses. -/
theorem test_servoAndWarmUp_hypotheses :
    (∃ (s : State) (a : TbId), s.dev.twin.active = some a ∧ s.dev.servoRuns = true) ∧
    (∃ (s : State), s.dev.servoRuns = false) ∧
    (∃ (s : State), s.dev.sys.powered = true) ∧
    (∃ (s : State) (t : TbId), 4 ≤ s.dev.stage ∧ s.dev.stage ≠ 8 ∧ s.dev.sys.warmRunsA = true ∧
      s.dev.sys.warmRunsB = true ∧ (s.dev.tb t).warm = false ∧ s.dev.role t ≠ 6 ∧ s.dev.role t.other ≠ 6) :=
  ⟨⟨s_servoAndWarmUp_1, (if s_servoAndWarmUp_1.dev.twin.active = some .b then TbId.b else .a), by decide +kernel⟩,
   ⟨s_servoAndWarmUp_2, by decide +kernel⟩,
   ⟨s_servoAndWarmUp_3, by decide +kernel⟩,
   ⟨s_servoAndWarmUp_4, (if 0 % 2 = 0 then TbId.a else TbId.b), by decide +kernel⟩⟩

def s_fastDomainStartAndStop_1 : State := run |> S F.GLB_BOOT_STAT_STAGE 7 0 |> S F.PWR_STAT_FAST 0 0
def s_fastDomainStartAndStop_2 : State := run |> S F.GLB_BOOT_STAT_STAGE 7 0 |> S F.PWR_STAT_FAST 1 0
def s_fastDomainStartAndStop_3 : State := run |> S F.GLB_BOOT_STAT_STAGE 7 0 |> S F.PWR_STAT_FAST 1 0
    |> B F.SYN_STAT_LOCKED true 4 |> OnTwin (fun w => { w with active := some .a }) |> S F.TB_ROLE_ROLE 5 0
    |> S F.GLB_BOOT_STAT_STAGE 6 0
def s_fastDomainStartAndStop_4 : State := run |> S F.GLB_BOOT_STAT_STAGE 7 0 |> S F.PWR_STAT_FAST 2 0
    |> OnSys (fun y => { y with updStep := 0 }) |> S F.UPD_STAT_STEP 0 0
def s_fastDomainStartAndStop_5 : State := run |> S F.GLB_BOOT_STAT_STAGE 7 0 |> S F.PWR_STAT_FAST 0 0
    |> OnSys (fun y => { y with updStep := 0 })
def s_fastDomainStartAndStop_6 : State := run |> S F.GLB_BOOT_STAT_STAGE 7 0 |> S F.PWR_STAT_FAST 3 0
/-- Each clause of `FastDomainStartAndStop` has a state and operands that meet its hypotheses. -/
theorem test_fastDomainStartAndStop_hypotheses :
    (∃ (s : State), s.dev.firnReach = true ∧ s.dev.fast = 0 ∧ s.onTrial = false) ∧
    (∃ (s : State), s.dev.firnReach = true ∧ s.dev.fast ≠ 0) ∧
    (∃ (s : State), s.dev.fast = 1 ∧ s.dev.synLocked 4 = true ∧ s.dev.anyActive = true) ∧
    (∃ (s : State), s.dev.firnReach = true ∧ s.dev.fastOn = true ∧ s.dev.updating = false) ∧
    (∃ (s : State), s.dev.firnReach = true ∧ s.dev.fastOn = false ∧ s.dev.updating = false) ∧
    (∃ (s : State), s.dev.fast = 3) :=
  ⟨⟨s_fastDomainStartAndStop_1, by decide +kernel⟩,
   ⟨s_fastDomainStartAndStop_2, by decide +kernel⟩,
   ⟨s_fastDomainStartAndStop_3, by decide +kernel⟩,
   ⟨s_fastDomainStartAndStop_4, by decide +kernel⟩,
   ⟨s_fastDomainStartAndStop_5, by decide +kernel⟩,
   ⟨s_fastDomainStartAndStop_6, by decide +kernel⟩⟩

def s_powerManagement_1 : State := run |> D (fun d => { d with ident := { d.ident with variant := 2 } })
    |> S F.GLB_BOOT_STAT_STAGE 7 0 |> S F.PWR_STAT_FAST 2 0
def s_powerManagement_4 : State := run |> D (fun d => { d with ident := { d.ident with variant := 2 } })
    |> S F.GLB_BOOT_STAT_STAGE 7 0 |> S F.PWR_STAT_FAST 2 0 |> B F.PWR_GATE_CFG_LPLL_STOP_EN true 0
    |> B F.TB_HB_STAT_FROZEN false 0 |> OnSyn 5 (fun s => { s with runs := true }) |> S F.LANE_QUAD_STAT_TX_SLEEP 3 0
    |> S F.LANE_QUAD_STAT_RX_SLEEP 3 0 |> OnPort 0 (fun x => { x with txLead := false, rxLead := false })
    |> S F.LANE_QUAD_STAT_TX_SLEEP 3 1 |> S F.LANE_QUAD_STAT_RX_SLEEP 3 1
    |> OnPort 1 (fun x => { x with txLead := false, rxLead := false }) |> S F.LANE_QUAD_STAT_TX_SLEEP 3 2
    |> S F.LANE_QUAD_STAT_RX_SLEEP 3 2 |> OnPort 2 (fun x => { x with txLead := false, rxLead := false })
    |> S F.LANE_QUAD_STAT_TX_SLEEP 3 3 |> S F.LANE_QUAD_STAT_RX_SLEEP 3 3
    |> OnPort 3 (fun x => { x with txLead := false, rxLead := false }) |> S F.LANE_QUAD_STAT_TX_SLEEP 3 4
    |> S F.LANE_QUAD_STAT_RX_SLEEP 3 4 |> OnPort 4 (fun x => { x with txLead := false, rxLead := false })
    |> S F.LANE_QUAD_STAT_TX_SLEEP 3 5 |> S F.LANE_QUAD_STAT_RX_SLEEP 3 5
    |> OnPort 5 (fun x => { x with txLead := false, rxLead := false }) |> S F.LANE_QUAD_STAT_TX_SLEEP 3 6
    |> S F.LANE_QUAD_STAT_RX_SLEEP 3 6 |> OnPort 6 (fun x => { x with txLead := false, rxLead := false })
    |> S F.LANE_QUAD_STAT_TX_SLEEP 3 7 |> S F.LANE_QUAD_STAT_RX_SLEEP 3 7
    |> OnPort 7 (fun x => { x with txLead := false, rxLead := false }) |> S F.PWR_LAT_TOL 0xFFFF 0
    |> S F.PWR_LAT_TOL 0xFFFF 1 |> S F.PWR_LAT_TOL 0xFFFF 2 |> S F.PWR_LAT_TOL 0xFFFF 3 |> S F.PWR_LAT_TOL 0xFFFF 4
    |> S F.PWR_LAT_TOL 0xFFFF 5 |> S F.PWR_LAT_TOL 0xFFFF 6 |> S F.PWR_LAT_TOL 0xFFFF 7 |> S F.PWR_LAT_TOL 0xFFFF 8
    |> S F.PWR_LAT_TOL 0xFFFF 9 |> S F.PWR_LAT_TOL 0xFFFF 10 |> S F.PWR_LAT_TOL 0xFFFF 11 |> S F.PWR_LAT_TOL 0xFFFF 12
    |> S F.PWR_LAT_TOL 0xFFFF 13 |> S F.PWR_LAT_TOL 0xFFFF 14 |> S F.PWR_LAT_TOL 0xFFFF 15 |> S F.PWR_LAT_TOL 0xFFFF 16
    |> S F.PWR_LAT_TOL 0xFFFF 17 |> S F.PWR_LAT_TOL 0xFFFF 18 |> S F.PWR_LAT_TOL 0xFFFF 19 |> S F.PWR_LAT_TOL 0xFFFF 20
    |> S F.PWR_LAT_TOL 0xFFFF 21 |> S F.PWR_LAT_TOL 0xFFFF 22 |> S F.PWR_LAT_TOL 0xFFFF 23 |> S F.PWR_LAT_TOL 0xFFFF 24
    |> S F.PWR_LAT_TOL 0xFFFF 25 |> S F.PWR_LAT_TOL 0xFFFF 26 |> S F.PWR_LAT_TOL 0xFFFF 27 |> S F.PWR_LAT_TOL 0xFFFF 28
    |> S F.PWR_LAT_TOL 0xFFFF 29 |> S F.PWR_LAT_TOL 0xFFFF 30 |> S F.PWR_LAT_TOL 0xFFFF 31 |> S F.PWR_LAT_TOL 0xFFFF 32
    |> S F.PWR_LAT_TOL 0xFFFF 33 |> S F.PWR_LAT_TOL 0xFFFF 34 |> S F.PWR_LAT_TOL 0xFFFF 35 |> S F.PWR_LAT_TOL 0xFFFF 36
    |> S F.PWR_LAT_TOL 0xFFFF 37 |> S F.PWR_LAT_TOL 0xFFFF 38 |> S F.PWR_LAT_TOL 0xFFFF 39 |> S F.PWR_LAT_TOL 0xFFFF 40
    |> S F.PWR_LAT_TOL 0xFFFF 41 |> S F.PWR_LAT_TOL 0xFFFF 42 |> S F.PWR_LAT_TOL 0xFFFF 43 |> S F.PWR_LAT_TOL 0xFFFF 44
    |> S F.PWR_LAT_TOL 0xFFFF 45 |> S F.PWR_LAT_TOL 0xFFFF 46 |> S F.PWR_LAT_TOL 0xFFFF 47 |> S F.PWR_LAT_TOL 0xFFFF 48
    |> S F.PWR_LAT_TOL 0xFFFF 49 |> S F.PWR_LAT_TOL 0xFFFF 50 |> S F.PWR_LAT_TOL 0xFFFF 51 |> S F.PWR_LAT_TOL 0xFFFF 52
    |> S F.PWR_LAT_TOL 0xFFFF 53 |> S F.PWR_LAT_TOL 0xFFFF 54 |> S F.PWR_LAT_TOL 0xFFFF 55 |> S F.PWR_LAT_TOL 0xFFFF 56
    |> S F.PWR_LAT_TOL 0xFFFF 57 |> S F.PWR_LAT_TOL 0xFFFF 58 |> S F.PWR_LAT_TOL 0xFFFF 59 |> S F.PWR_LAT_TOL 0xFFFF 60
    |> S F.PWR_LAT_TOL 0xFFFF 61 |> S F.PWR_LAT_TOL 0xFFFF 62 |> S F.PWR_LAT_TOL 0xFFFF 63
def s_powerManagement_5 : State := run |> D (fun d => { d with ident := { d.ident with variant := 2 } })
    |> S F.GLB_BOOT_STAT_STAGE 7 0 |> S F.PWR_STAT_FAST 2 0 |> SA F.PWR_GATE_CFG_BANK_GATE_EN 1 0
    |> S F.PWR_GATE_CFG_MIN_BANKS 1 0 |> S F.PWR_GATE_CFG_HEADROOM 0 0
    |> OnSw (fun w => { Switch.init with retired := if 0 % 2 = 0 then [] else [5, 9300], nReq := 32 })
    |> B F.PWR_STAT_DRAIN_RUN false 0
    |> OnSw (fun w => { w with nextFid := 6, frames := [(5, some ({ inPort := 0, own := .none, bytes := List.replicate 60 9, done := true, bad := false, base := 300, vid := 1, pcp := 0, tagged := false, untag := 0, dests := [3], cls := 0, colour := 0, deiMark := false, rtag := none, popRtag := false, transit := false, tRx := 10 ^ 12, cells := [0 , 100], refs := 2, charge := 2, res := false, born := 0, unreached := 0, learn := 0 == 1, copies := [], waiting := [], maxFrame := 1518 } : Stored))] })
def s_powerManagement_6 : State := run |> D (fun d => { d with ident := { d.ident with variant := 2 } })
    |> S F.GLB_BOOT_STAT_STAGE 7 0 |> S F.PWR_STAT_FAST 2 0 |> SA F.PWR_GATE_CFG_BANK_GATE_EN 1 0
    |> S F.PWR_GATE_CFG_MIN_BANKS 1 0 |> S F.PWR_GATE_CFG_HEADROOM 0 0
    |> OnSw (fun w => { Switch.init with retired := if 0 % 2 = 0 then [] else [5, 9300], nReq := 32 })
    |> B F.PWR_STAT_DRAIN_RUN false 0 |> B F.PWR_STAT_DRAIN_RUN true 0 |> S F.PWR_STAT_DRAIN_BANK 0 0
def s_powerManagement_7 : State := run |> D (fun d => { d with ident := { d.ident with variant := 2 } })
    |> S F.GLB_BOOT_STAT_STAGE 7 0 |> S F.PWR_STAT_FAST 2 0 |> B F.PWR_GATE_CFG_SLICE_GATE_EN true 0
    |> B F.SW_ST_SLICE_CFG_EN false 0 |> Clr [.ST_K, .ST_M, .ST_A, .SW_ST_PAIR]
    |> D (fun d => d.setWord .ST_K (8192 * (1 % 16)) 5)
def s_powerManagement_8 : State := run |> D (fun d => { d with ident := { d.ident with variant := 2 } })
    |> S F.GLB_BOOT_STAT_STAGE 7 0 |> S F.PWR_STAT_FAST 2 0 |> B F.PWR_GATE_CFG_CORE_GATE_EN true 0
    |> OnSys (fun y => { y with cpStopped := false }) |> S F.PWR_STAT_CP_CORES 4 0
/-- Each clause of `PowerManagement` has a state and operands that meet its hypotheses. -/
theorem test_powerManagement_hypotheses :
    (∃ (s : State) (p : PortId), s.dev.firnReach = true ∧ s.dev.hasPort p.val = true) ∧
    (∃ (s : State), s.dev.firnReach = true) ∧
    (∃ (s : State) (g : Fin 4), s.dev.fastOn = true ∧ s.dev.flag F.PWR_GATE_CFG_LPLL_STOP_EN = true ∧
      s.dev.flag F.TB_HB_STAT_FROZEN = false ∧ (s.dev.syn (5 + g.val)).runs = true ∧
      (∀ q ∈ s.dev.groupUsed g.val, s.dev.portDeep q = true) ∧ s.dev.groupTolerates g.val = true) ∧
    (∃ (s : State) (e : Dev) (b : Nat), s.dev.fastOn = true ∧ e = s.dev.judgeBanks ∧
      e.flag F.PWR_GATE_CFG_BANK_GATE_EN = true ∧ e.bankNeed < e.openBanks.length ∧ e.mayGate = true ∧
      e.flag F.PWR_STAT_DRAIN_RUN = false ∧ b ∈ e.openBanks ∧ e.bankRetired b = false) ∧
    (∃ (s : State) (e : Dev) (b : Nat), s.dev.fastOn = true ∧ e = s.dev.judgeBanks ∧
      e.flag F.PWR_GATE_CFG_BANK_GATE_EN = true ∧ e.bankNeed < e.openBanks.length ∧ e.mayGate = true ∧
      e.flag F.PWR_STAT_DRAIN_RUN = true ∧ e.get F.PWR_STAT_DRAIN_BANK = b ∧ e.bankUsed b = 0 ∧ e.bankRetired b = false ∧
      e.bankGated b = false) ∧
    (∃ (s : State) (sl : Fin 16), s.dev.fastOn = true ∧ s.dev.flag F.PWR_GATE_CFG_SLICE_GATE_EN = true ∧
      s.dev.flag F.SW_ST_SLICE_CFG_EN sl.val = false ∧ bitAt (s.dev.get F.SW_ST_PAIR_PAIRED) (sl.val / 2) = false ∧
      (∀ u ∈ unitsOf s.dev.regs .ST_K, u / 8192 ≠ sl.val) ∧ (∀ u ∈ unitsOf s.dev.regs .ST_M, u / 8192 ≠ sl.val) ∧
      (∀ u ∈ unitsOf s.dev.regs .ST_A, u / 4096 ≠ sl.val) ∧ bitAt s.dev.sys.slicesOff sl.val = false) ∧
    (∃ (s : State) (core : Fin 3), s.dev.fastOn = true ∧ s.dev.flag F.PWR_GATE_CFG_CORE_GATE_EN = true ∧
      s.dev.sys.cpStopped = false ∧ bitAt s.dev.sys.coresOff (core.val + 1) = false) :=
  ⟨⟨s_powerManagement_1, 0, by decide +kernel⟩,
   ⟨s_powerManagement_1, by decide +kernel⟩,
   ⟨s_powerManagement_4, 0, by decide +kernel⟩,
   ⟨s_powerManagement_5, (s_powerManagement_5.dev.judgeBanks), 0, by decide +kernel⟩,
   ⟨s_powerManagement_6, (s_powerManagement_6.dev.judgeBanks), 0, by decide +kernel⟩,
   ⟨s_powerManagement_7, 0, by decide +kernel⟩,
   ⟨s_powerManagement_8, 0, by decide +kernel⟩⟩

def s_watchdogs_1 : State := run |> S F.GLB_BOOT_STAT_STAGE 7 0 |> S F.PWR_STAT_FAST 2 0
    |> OnSys (fun y => { y with cpStopped := false, smcStopped := false, updBack := false, updStep := 0, powered := true })
    |> OnChan 0 1 (fun c => { c with st := 2, msg := [1, 2, 3] })
def s_watchdogs_2 : State := run |> S F.GLB_BOOT_STAT_STAGE 7 0 |> S F.PWR_STAT_FAST 2 0
    |> OnSys (fun y => { y with cpStopped := false, smcStopped := false, updBack := false, updStep := 0, powered := true })
    |> OnTwin (fun w => { w with active := some .a })
def s_watchdogs_3 : State := run |> S F.GLB_BOOT_STAT_STAGE 7 0 |> S F.PWR_STAT_FAST 2 0
    |> OnSys (fun y => { y with cpStopped := false, smcStopped := false, updBack := false, updStep := 0, powered := true })
    |> OnTwin (fun w => { w with active := some .b })
def s_watchdogs_4 : State := run |> S F.GLB_BOOT_STAT_STAGE 7 0 |> S F.PWR_STAT_FAST 2 0
    |> OnSys (fun y => { y with cpStopped := false, smcStopped := false, updBack := false, updStep := 0, powered := true })
def s_watchdogs_6 : State := run |> S F.GLB_BOOT_STAT_STAGE 7 0 |> S F.PWR_STAT_FAST 2 0
    |> OnSys (fun y => { y with cpStopped := false, smcStopped := false, updBack := false, updStep := 0, powered := true })
    |> (fun s => { s with flash := hdrWrite s.flash { (hdrNow s.flash) with state := 2, mode := 0 } })
/-- Each clause of `Watchdogs` has a state and operands that meet its hypotheses. -/
theorem test_watchdogs_hypotheses :
    (∃ (s : State) (src : Fin 6), 2 ≤ s.dev.stage ∧ s.dev.stage ≠ 8 ∧ s.onTrial = false ∧ src.val ≠ 1 ∧
      (s.dev.chan src.val 1).st = 2) ∧
    (∃ (s : State), 2 ≤ s.dev.stage ∧ s.dev.stage ≠ 8 ∧ s.dev.twin.active = some .a ∧ s.runsNew .tbpA = false) ∧
    (∃ (s : State), 2 ≤ s.dev.stage ∧ s.dev.stage ≠ 8 ∧ s.dev.twin.active = some .b ∧ s.runsNew .tbpB = false) ∧
    (∃ (s : State), 2 ≤ s.dev.stage ∧ s.dev.stage ≠ 8 ∧ s.dev.fastOn = true ∧ s.onTrial = false ∧
      s.dev.sys.cpStopped = false) ∧
    (∃ (s : State), 2 ≤ s.dev.stage ∧ s.dev.stage ≠ 8 ∧ s.dev.fastOn = true ∧ s.onTrial = false ∧
      s.dev.sys.smcStopped = false) ∧
    (∃ (s : State), 2 ≤ s.dev.stage ∧ s.dev.stage ≠ 8 ∧ s.onTrial = true ∧ s.dev.sys.updBack = false ∧
      s.dev.sys.updStep = 0 ∧ (hdrNow s.flash).mode ≠ 1 ∧ s.dev.sys.powered = true ∧ s.dev.fastOn = true ∧
      s.dev.sys.cpStopped = false) :=
  ⟨⟨s_watchdogs_1, 0, by decide +kernel⟩,
   ⟨s_watchdogs_2, by decide +kernel⟩,
   ⟨s_watchdogs_3, by decide +kernel⟩,
   ⟨s_watchdogs_4, by decide +kernel⟩,
   ⟨s_watchdogs_4, by decide +kernel⟩,
   ⟨s_watchdogs_6, by decide +kernel⟩⟩

def s_reEnables_1 : State := run |> D (fun d => { d with ident := { d.ident with variant := 2 } })
    |> S F.GLB_BOOT_STAT_STAGE 7 0 |> S F.ALM_REEN_IDX_INDEX 0 0 |> B F.TIO_STAT_OUT_RETIRED true 0
def s_reEnables_2 : State := run |> D (fun d => { d with ident := { d.ident with variant := 2 } })
    |> S F.GLB_BOOT_STAT_STAGE 7 0 |> OnSw (fun w => { w with retired := [5, 77] })
def s_reEnables_3 : State := run |> D (fun d => { d with ident := { d.ident with variant := 2 } })
    |> S F.GLB_BOOT_STAT_STAGE 7 0 |> S F.ALM_REEN_IDX_INDEX 0 0 |> B F.FDB_W2_RETIRED true 0
def s_reEnables_4 : State := run |> D (fun d => { d with ident := { d.ident with variant := 2 } })
    |> S F.GLB_BOOT_STAT_STAGE 7 0 |> S F.ALM_REEN_IDX_INDEX (0 + 1 % 6) 0 |> OnChan 0 (1 % 6) (fun c => { c with st := 4 })
def s_reEnables_5 : State := run |> D (fun d => { d with ident := { d.ident with variant := 2 } })
    |> S F.GLB_BOOT_STAT_STAGE 7 0
def s_reEnables_6 : State := run |> D (fun d => { d with ident := { d.ident with variant := 2 } })
    |> S F.GLB_BOOT_STAT_STAGE 7 0 |> S F.ALM_REEN_IDX_INDEX 0 0
/-- Each clause of `ReEnables` has a state and operands that meet its hypotheses. -/
theorem test_reEnables_hypotheses :
    (∃ (s : State) (i : Nat) (c : Byte), s.dev.stage ≠ 0 ∧ s.dev.get F.ALM_REEN_IDX_INDEX = i ∧ c.toNat = 0x05 ∧
      i < s.dev.tios ∧ s.dev.tios ≤ 48 ∧ s.dev.flag F.TIO_STAT_OUT_RETIRED i = true) ∧
    (∃ (s : State) (i : Nat) (c : Byte), s.dev.stage ≠ 0 ∧ s.dev.get F.ALM_REEN_IDX_INDEX = i ∧ c.toNat = 0x07 ∧
      s.dev.sw.retired ≠ []) ∧
    (∃ (s : State) (i : Nat) (c : Byte), s.dev.stage ≠ 0 ∧ s.dev.get F.ALM_REEN_IDX_INDEX = i ∧ c.toNat = 0x08 ∧
      i < 262144 ∧ s.dev.fdbRetired i = true) ∧
    (∃ (s : State) (i : Nat) (c : Byte), s.dev.stage ≠ 0 ∧ s.dev.get F.ALM_REEN_IDX_INDEX = i ∧ c.toNat = 0x0C ∧
      i / 8 < 6 ∧ i % 8 < 6 ∧ i / 8 ≠ i % 8 ∧ i ≠ 16 ∧ (s.dev.chan (i / 8) (i % 8)).st = 4) ∧
    (∃ (s : State) (i : Nat) (c : Byte), s.dev.stage ≠ 0 ∧ s.dev.get F.ALM_REEN_IDX_INDEX = i ∧ reenClass c.toNat = none) ∧
    (∃ (s : State) (i : Nat) (c : Byte), s.dev.stage ≠ 0 ∧ s.dev.get F.ALM_REEN_IDX_INDEX = i ∧ c.toNat = 0x08 ∧
      i < 262144 ∧ s.dev.fdbRetired i = false) :=
  ⟨⟨s_reEnables_1, (s_reEnables_1.dev.get F.ALM_REEN_IDX_INDEX), 5, by decide +kernel⟩,
   ⟨s_reEnables_2, (s_reEnables_2.dev.get F.ALM_REEN_IDX_INDEX), 7, by decide +kernel⟩,
   ⟨s_reEnables_3, (s_reEnables_3.dev.get F.ALM_REEN_IDX_INDEX), 8, by decide +kernel⟩,
   ⟨s_reEnables_4, (s_reEnables_4.dev.get F.ALM_REEN_IDX_INDEX), 0x0C, by decide +kernel⟩,
   ⟨s_reEnables_5, (s_reEnables_5.dev.get F.ALM_REEN_IDX_INDEX), (BitVec.ofNat 8 (0x20 + 0)), by decide +kernel⟩,
   ⟨s_reEnables_6, (s_reEnables_6.dev.get F.ALM_REEN_IDX_INDEX), 8, by decide +kernel⟩⟩

def s_alarmLatchesAndLog_1 : State := run |> S F.GLB_BOOT_STAT_STAGE 7 0
def s_alarmLatchesAndLog_2 : State := run |> S F.GLB_BOOT_STAT_STAGE 7 0
    |> D (fun d => { d with log := [(⟨0, 0, 0, 0, 0⟩ : LogEntry), ⟨5, 4, 3, 2, 1⟩] })
/-- Each clause of `AlarmLatchesAndLog` has a state and operands that meet its hypotheses. -/
theorem test_alarmLatchesAndLog_hypotheses :
    (∃ (s : State), s.dev.stage ≠ 0) ∧
    (∃ (s : State) (e : LogEntry) (rest : List LogEntry), s.dev.stage ≠ 0 ∧
      (hostIdle s.dev = true ∨ s.dev.pcie.ready = false) ∧ s.dev.log = e :: rest) ∧
    (∃ (s : State), s.dev.stage ≠ 0 ∧ (hostIdle s.dev = true ∨ s.dev.pcie.ready = false)) ∧
    (∃ (s : State), s.dev.stage ≠ 0 ∧ (hostIdle s.dev = true ∨ s.dev.pcie.ready = false) ∧ s.dev.log = []) :=
  ⟨⟨s_alarmLatchesAndLog_1, by decide +kernel⟩,
   ⟨s_alarmLatchesAndLog_2, (⟨0, 0, 0, 0, 0⟩ : LogEntry), ([⟨5, 4, 3, 2, 1⟩] : List LogEntry), by decide +kernel⟩,
   ⟨s_alarmLatchesAndLog_1, by decide +kernel⟩,
   ⟨s_alarmLatchesAndLog_1, by decide +kernel⟩⟩

def s_updateCommands_1 : State := run |> S F.GLB_BOOT_STAT_STAGE 7 0 |> S F.UPD_CMD_RESULT 0 0
    |> OnSys (fun y => { y with updStep := 0, eraseAt := none, progPage := none }) |> S F.UPD_STAT_STEP 0 0
    |> S F.UPD_CFG_SLOT 1 0 |> OnSys (fun y => if 0 % 2 = 0 then { y with updRuns := true } else { y with updStep := 3 })
def s_updateCommands_2 : State := run |> S F.GLB_BOOT_STAT_STAGE 7 0 |> S F.UPD_CMD_RESULT 0 0
    |> OnSys (fun y => { y with updStep := 0, eraseAt := none, progPage := none }) |> S F.UPD_STAT_STEP 0 0
    |> S F.UPD_CFG_SLOT 1 0
def s_updateCommands_3 : State := run |> S F.GLB_BOOT_STAT_STAGE 7 0 |> S F.UPD_CMD_RESULT 0 0
    |> OnSys (fun y => { y with updStep := 0, eraseAt := none, progPage := none }) |> S F.UPD_STAT_STEP 0 0
    |> S F.UPD_CFG_SLOT 1 0 |> B F.UPD_CFG_MODE false 0
def s_updateCommands_4 : State := run |> S F.GLB_BOOT_STAT_STAGE 7 0 |> S F.UPD_CMD_RESULT 0 0
    |> OnSys (fun y => { y with updStep := 0, eraseAt := none, progPage := none }) |> S F.UPD_STAT_STEP 0 0
    |> S F.UPD_CFG_SLOT 1 0
    |> (fun s => { s with flash := hdrWrite s.flash { (hdrNow s.flash) with state := 2, mode := 0 } })
def s_updateCommands_5 : State := run |> S F.GLB_BOOT_STAT_STAGE 7 0 |> S F.UPD_CMD_RESULT 0 0
    |> OnSys (fun y => { y with updStep := 0, eraseAt := none, progPage := none }) |> S F.UPD_STAT_STEP 0 0
    |> S F.UPD_CFG_SLOT 1 0 |> S F.UPD_ERASE_ADDR_ADDR 0x1A00000 0
def s_updateCommands_6 : State := run |> S F.GLB_BOOT_STAT_STAGE 7 0 |> S F.UPD_CMD_RESULT 0 0
    |> OnSys (fun y => { y with updStep := 0, eraseAt := none, progPage := none }) |> S F.UPD_STAT_STEP 0 0
    |> S F.UPD_CFG_SLOT 1 0 |> S F.UPD_ERASE_ADDR_ADDR 5000 0
def s_updateCommands_7 : State := run |> S F.GLB_BOOT_STAT_STAGE 7 0 |> S F.UPD_CMD_RESULT 0 0
    |> OnSys (fun y => { y with updStep := 0, eraseAt := none, progPage := none }) |> S F.UPD_STAT_STEP 0 0
    |> S F.UPD_CFG_SLOT 1 0 |> OnSys (fun y => { y with page := none })
def s_updateCommands_8 : State := run |> S F.GLB_BOOT_STAT_STAGE 7 0 |> S F.UPD_CMD_RESULT 0 0
    |> OnSys (fun y => { y with updStep := 0, eraseAt := none, progPage := none }) |> S F.UPD_STAT_STEP 0 0
    |> S F.UPD_CFG_SLOT 1 0 |> OnSys (fun y => { y with page := some (0x1A000, [(4, 5)]) })
/-- Each clause of `UpdateCommands` has a state and operands that meet its hypotheses. -/
theorem test_updateCommands_hypotheses :
    (∃ (s : State) (c : _), s.dev.stage ≠ 0 ∧ s.dev.updBusy = true ∧
      c ∈ [Instr.updVerify, .updActivate, .updErase, .updFlush]) ∧
    (∃ (s : State) (slot : Nat), s.dev.stage ≠ 0 ∧ s.dev.updBusy = false ∧ s.dev.get F.UPD_CFG_SLOT = slot) ∧
    (∃ (s : State) (slot : Nat), s.dev.stage ≠ 0 ∧ s.dev.updBusy = false ∧ s.dev.get F.UPD_CFG_SLOT = slot ∧
      hdrState s.flash ≠ 1 ∧ hdrState s.flash ≠ 2 ∧ slot ≠ s.bundleSlot ∧ s.dev.flag F.UPD_CFG_MODE = false ∧
      s.dev.stage ≠ 8) ∧
    (∃ (s : State) (slot : Nat), s.dev.stage ≠ 0 ∧ s.dev.updBusy = false ∧ s.dev.get F.UPD_CFG_SLOT = slot ∧
      (hdrState s.flash = 1 ∨ hdrState s.flash = 2)) ∧
    (∃ (s : State) (a : Nat) (slot : Nat), s.dev.stage ≠ 0 ∧ s.dev.updBusy = false ∧ s.dev.get F.UPD_CFG_SLOT = slot ∧
      s.dev.get F.UPD_ERASE_ADDR_ADDR / 65536 * 65536 = a ∧ s.nvmBarred a = false) ∧
    (∃ (s : State) (a : Nat) (slot : Nat), s.dev.stage ≠ 0 ∧ s.dev.updBusy = false ∧ s.dev.get F.UPD_CFG_SLOT = slot ∧
      s.dev.get F.UPD_ERASE_ADDR_ADDR / 65536 * 65536 = a ∧ s.nvmBarred a = true) ∧
    (∃ (s : State) (slot : Nat), s.dev.stage ≠ 0 ∧ s.dev.updBusy = false ∧ s.dev.get F.UPD_CFG_SLOT = slot ∧
      s.dev.nvmBusy = false ∧ s.dev.sys.page = none) ∧
    (∃ (s : State) (slot : Nat) (pg : Nat × List (Nat × Byte)), s.dev.stage ≠ 0 ∧ s.dev.updBusy = false ∧
      s.dev.get F.UPD_CFG_SLOT = slot ∧ s.dev.nvmBusy = false ∧ s.dev.sys.page = some pg) :=
  ⟨⟨s_updateCommands_1, (Instr.updVerify), by decide +kernel⟩,
   ⟨s_updateCommands_2, (s_updateCommands_2.dev.get F.UPD_CFG_SLOT), by decide +kernel⟩,
   ⟨s_updateCommands_3, (s_updateCommands_3.dev.get F.UPD_CFG_SLOT), by decide +kernel⟩,
   ⟨s_updateCommands_4, (s_updateCommands_4.dev.get F.UPD_CFG_SLOT), by decide +kernel⟩,
   ⟨s_updateCommands_5, (s_updateCommands_5.dev.get F.UPD_ERASE_ADDR_ADDR / 65536 * 65536), (s_updateCommands_5.dev.get F.UPD_CFG_SLOT), by decide +kernel⟩,
   ⟨s_updateCommands_6, (s_updateCommands_6.dev.get F.UPD_ERASE_ADDR_ADDR / 65536 * 65536), (s_updateCommands_6.dev.get F.UPD_CFG_SLOT), by decide +kernel⟩,
   ⟨s_updateCommands_7, (s_updateCommands_7.dev.get F.UPD_CFG_SLOT), by decide +kernel⟩,
   ⟨s_updateCommands_8, (s_updateCommands_8.dev.get F.UPD_CFG_SLOT), ((0x1A000, [(4, 5)]) : Nat × List (Nat × Byte)), by decide +kernel⟩⟩

def s_flashWorkEnds_1 : State := run |> S F.GLB_BOOT_STAT_STAGE 7 0 |> S F.UPD_CMD_RESULT 2 0
    |> OnSys (fun y => { y with updRuns := true, updStep := 0, eraseAt := none, progPage := none, smbWrite := none, smbRead := none })
    |> OnPcie (fun p => { p with held := none, waiting := [] }) |> OnSys (fun y => { y with eraseAt := some 0x1A0000 })
    |> (fun s => { s with flash := [(5, 6), (0x1A0007, 9), (0x1B0000, 3)] })
def s_flashWorkEnds_2 : State := run |> S F.GLB_BOOT_STAT_STAGE 7 0 |> S F.UPD_CMD_RESULT 2 0
    |> OnSys (fun y => { y with updRuns := true, updStep := 0, eraseAt := none, progPage := none, smbWrite := none, smbRead := none })
    |> OnPcie (fun p => { p with held := none, waiting := [] })
    |> OnSys (fun y => { y with progPage := some (0x1A00, [(8, 0x5A), (9, BitVec.ofNat 8 0)]) })
def s_flashWorkEnds_3 : State := run |> S F.GLB_BOOT_STAT_STAGE 7 0 |> S F.UPD_CMD_RESULT 2 0
    |> OnSys (fun y => { y with updRuns := true, updStep := 0, eraseAt := none, progPage := none, smbWrite := none, smbRead := none })
    |> OnPcie (fun p => { p with held := none, waiting := [] })
    |> OnSys (fun y => { y with progPage := some (0x1A00, [(8, 0x5A), (9, BitVec.ofNat 8 0)]) })
    |> (fun s => { s with flash := [(0x1A0008, 0xA5)] })
/-- Each clause of `FlashWorkEnds` has a state and operands that meet its hypotheses. -/
theorem test_flashWorkEnds_hypotheses :
    (∃ (s : State) (a : Nat), s.dev.sys.smbWrite = none ∧ s.dev.sys.smbRead = none ∧ s.dev.pcie.held = none ∧
      s.dev.pcie.waiting = [] ∧ s.dev.sys.updRuns = true ∧ s.dev.sys.updStep = 0 ∧ s.dev.sys.eraseAt = some a ∧
      s.dev.sys.progPage = none) ∧
    (∃ (s : State) (pg : Nat) (l : List (Nat × Byte)), s.dev.sys.smbWrite = none ∧ s.dev.sys.smbRead = none ∧
      s.dev.pcie.held = none ∧ s.dev.pcie.waiting = [] ∧ s.dev.sys.updRuns = true ∧ s.dev.sys.updStep = 0 ∧
      s.dev.sys.progPage = some (pg, l) ∧ s.dev.sys.eraseAt = none ∧
      (∀ e ∈ l, flashByte (programPage s.flash pg l) (256 * pg + e.1) = e.2)) ∧
    (∃ (s : State) (pg : Nat) (l : List (Nat × Byte)), s.dev.sys.smbWrite = none ∧ s.dev.sys.smbRead = none ∧
      s.dev.pcie.held = none ∧ s.dev.pcie.waiting = [] ∧ s.dev.sys.updRuns = true ∧ s.dev.sys.updStep = 0 ∧
      s.dev.sys.progPage = some (pg, l) ∧ (∃ e ∈ l, flashByte (programPage s.flash pg l) (256 * pg + e.1) ≠ e.2)) :=
  ⟨⟨s_flashWorkEnds_1, 0x1A0000, by decide +kernel⟩,
   ⟨s_flashWorkEnds_2, 0x1A00, ([(8, 0x5A), (9, BitVec.ofNat 8 0)] : List (Nat × Byte)), by decide +kernel⟩,
   ⟨s_flashWorkEnds_3, 0x1A00, ([(8, 0x5A), (9, BitVec.ofNat 8 0)] : List (Nat × Byte)), by decide +kernel⟩⟩

def s_trialEnds_1 : State := run |> S F.GLB_BOOT_STAT_STAGE 7 0 |> S F.UPD_CMD_RESULT 0 0
    |> OnSys (fun y => { y with updStep := 0, eraseAt := none, progPage := none }) |> S F.UPD_STAT_STEP 0 0
    |> S F.UPD_CFG_SLOT 1 0
    |> (fun s => { s with flash := hdrWrite s.flash { (hdrNow s.flash) with state := 2, mode := 0, auto := 0, prevBundle := 0, prevConfig := 1 } })
def v_trialEnds_1_fb : Nat → List Host.Cell := (fun c => hdrWrite s_trialEnds_1.flash { hdrNow s_trialEnds_1.flash with bundleSel := (hdrNow s_trialEnds_1.flash).prevBundle, configSel := (hdrNow s_trialEnds_1.flash).prevConfig, state := 3, failCause := c })
def s_trialEnds_2 : State := run |> S F.GLB_BOOT_STAT_STAGE 7 0 |> S F.UPD_CMD_RESULT 0 0
    |> OnSys (fun y => { y with updStep := 0, eraseAt := none, progPage := none }) |> S F.UPD_STAT_STEP 0 0
    |> S F.UPD_CFG_SLOT 1 0
    |> (fun s => { s with flash := hdrWrite s.flash { (hdrNow s.flash) with state := 2, mode := 0, auto := 0, prevBundle := 0, prevConfig := 1 } })
    |> OnSys (fun y => { y with updRuns := true })
def v_trialEnds_2_fb : Nat → List Host.Cell := (fun c => hdrWrite s_trialEnds_2.flash { hdrNow s_trialEnds_2.flash with bundleSel := (hdrNow s_trialEnds_2.flash).prevBundle, configSel := (hdrNow s_trialEnds_2.flash).prevConfig, state := 3, failCause := c })
def s_trialEnds_3 : State := run |> S F.GLB_BOOT_STAT_STAGE 7 0 |> S F.UPD_CMD_RESULT 0 0
    |> OnSys (fun y => { y with updStep := 0, eraseAt := none, progPage := none }) |> S F.UPD_STAT_STEP 0 0
    |> S F.UPD_CFG_SLOT 1 0
    |> (fun s => { s with flash := hdrWrite s.flash { (hdrNow s.flash) with state := 2, mode := 0, auto := 1, prevBundle := 0, prevConfig := 1 } })
    |> S F.UPD_STAT_STEP 8 0 |> OnTwin (fun w => { w with active := some .a }) |> S F.TB_ROLE_ROLE 5 0
def v_trialEnds_3_fb : Nat → List Host.Cell := (fun c => hdrWrite s_trialEnds_3.flash { hdrNow s_trialEnds_3.flash with bundleSel := (hdrNow s_trialEnds_3.flash).prevBundle, configSel := (hdrNow s_trialEnds_3.flash).prevConfig, state := 3, failCause := c })
def s_trialEnds_5 : State := run |> S F.GLB_BOOT_STAT_STAGE 7 0 |> S F.UPD_CMD_RESULT 0 0
    |> OnSys (fun y => { y with updStep := 0, eraseAt := none, progPage := none }) |> S F.UPD_STAT_STEP 0 0
    |> S F.UPD_CFG_SLOT 1 0
    |> (fun s => { s with flash := hdrWrite s.flash { (hdrNow s.flash) with state := 2, mode := 0, auto := 0, prevBundle := 0, prevConfig := 1 } })
    |> S F.UPD_STAT_STEP 8 0
def v_trialEnds_5_fb : Nat → List Host.Cell := (fun c => hdrWrite s_trialEnds_5.flash { hdrNow s_trialEnds_5.flash with bundleSel := (hdrNow s_trialEnds_5.flash).prevBundle, configSel := (hdrNow s_trialEnds_5.flash).prevConfig, state := 3, failCause := c })
def s_trialEnds_6 : State := run |> S F.GLB_BOOT_STAT_STAGE 7 0 |> S F.UPD_CMD_RESULT 0 0
    |> OnSys (fun y => { y with updStep := 0, eraseAt := none, progPage := none }) |> S F.UPD_STAT_STEP 0 0
    |> S F.UPD_CFG_SLOT 1 0
    |> (fun s => { s with flash := hdrWrite s.flash { (hdrNow s.flash) with state := 2, mode := 0, auto := 0, prevBundle := 0, prevConfig := 1 } })
    |> OnSys (fun y => { y with newCpWait := true })
def v_trialEnds_6_fb : Nat → List Host.Cell := (fun c => hdrWrite s_trialEnds_6.flash { hdrNow s_trialEnds_6.flash with bundleSel := (hdrNow s_trialEnds_6.flash).prevBundle, configSel := (hdrNow s_trialEnds_6.flash).prevConfig, state := 3, failCause := c })
/-- Each clause of `TrialEnds` has a state and operands that meet its hypotheses. -/
theorem test_trialEnds_hypotheses :
    (∃ (s : State) (fb : Nat → List Host.Cell), (∀ c, fb c = hdrWrite s.flash { hdrNow s.flash with bundleSel := (hdrNow s.flash).prevBundle, configSel := (hdrNow s.flash).prevConfig, state := 3, failCause := c }) ∧
      s.onTrial = true ∧ s.dev.stage ≠ 0 ∧ (s.dev.updBusy = false ∨ s.dev.get F.UPD_STAT_STEP = 8)) ∧
    (∃ (s : State) (fb : Nat → List Host.Cell) (c : _), (∀ c, fb c = hdrWrite s.flash { hdrNow s.flash with bundleSel := (hdrNow s.flash).prevBundle, configSel := (hdrNow s.flash).prevConfig, state := 3, failCause := c }) ∧
      s.onTrial = true ∧ s.dev.stage ≠ 0 ∧ s.dev.updBusy = true ∧ s.dev.get F.UPD_STAT_STEP ≠ 8 ∧
      c ∈ [Instr.updConfirm, .updAbort]) ∧
    (∃ (s : State) (fb : Nat → List Host.Cell), (∀ c, fb c = hdrWrite s.flash { hdrNow s.flash with bundleSel := (hdrNow s.flash).prevBundle, configSel := (hdrNow s.flash).prevConfig, state := 3, failCause := c }) ∧
      s.onTrial = true ∧ s.dev.get F.UPD_STAT_STEP = 8 ∧ (hdrNow s.flash).auto = 1 ∧ s.dev.anyActive = true) ∧
    (∃ (s : State) (fb : Nat → List Host.Cell), (∀ c, fb c = hdrWrite s.flash { hdrNow s.flash with bundleSel := (hdrNow s.flash).prevBundle, configSel := (hdrNow s.flash).prevConfig, state := 3, failCause := c }) ∧
      s.onTrial = true ∧ s.dev.sys.eraseAt = none ∧ s.dev.sys.progPage = none ∧ (hdrNow s.flash).mode ≠ 1 ∧
      s.dev.stage ≠ 0 ∧ (s.dev.updBusy = false ∨ s.dev.get F.UPD_STAT_STEP = 8)) ∧
    (∃ (s : State) (fb : Nat → List Host.Cell), (∀ c, fb c = hdrWrite s.flash { hdrNow s.flash with bundleSel := (hdrNow s.flash).prevBundle, configSel := (hdrNow s.flash).prevConfig, state := 3, failCause := c }) ∧
      s.onTrial = true ∧ s.dev.sys.eraseAt = none ∧ s.dev.sys.progPage = none ∧ (hdrNow s.flash).mode ≠ 1 ∧
      s.dev.get F.UPD_STAT_STEP = 8 ∧ (hdrNow s.flash).auto ≠ 1) ∧
    (∃ (s : State) (fb : Nat → List Host.Cell), (∀ c, fb c = hdrWrite s.flash { hdrNow s.flash with bundleSel := (hdrNow s.flash).prevBundle, configSel := (hdrNow s.flash).prevConfig, state := 3, failCause := c }) ∧
      s.onTrial = true ∧ s.dev.sys.eraseAt = none ∧ s.dev.sys.progPage = none ∧ (hdrNow s.flash).mode ≠ 1 ∧
      s.dev.sys.newCpWait = true) :=
  ⟨⟨s_trialEnds_1, v_trialEnds_1_fb, fun _ => rfl, by decide +kernel⟩,
   ⟨s_trialEnds_2, v_trialEnds_2_fb, (Instr.updConfirm), fun _ => rfl, by decide +kernel⟩,
   ⟨s_trialEnds_3, v_trialEnds_3_fb, fun _ => rfl, by decide +kernel⟩,
   ⟨s_trialEnds_1, v_trialEnds_1_fb, fun _ => rfl, by decide +kernel⟩,
   ⟨s_trialEnds_5, v_trialEnds_5_fb, fun _ => rfl, by decide +kernel⟩,
   ⟨s_trialEnds_6, v_trialEnds_6_fb, fun _ => rfl, by decide +kernel⟩⟩

def s_liveUpdateSteps_1 : State := run |> S F.GLB_BOOT_STAT_STAGE 7 0
    |> OnSys (fun y => { y with updStep := 4, updBack := false, eraseAt := none, progPage := none })
    |> OnTwin (fun w => { w with active := some .a }) |> S F.TB_ROLE_ROLE 5 0 |> B F.TB_HB_STAT_FROZEN false 0
    |> S F.TB_ROLE_ROLE 4 1
def v_liveUpdateSteps_1_m : List Host.Cell := (hdrWrite s_liveUpdateSteps_1.flash { hdrNow s_liveUpdateSteps_1.flash with bundleSel := (hdrNow s_liveUpdateSteps_1.flash).prevBundle, configSel := (hdrNow s_liveUpdateSteps_1.flash).prevConfig, state := 3, failCause := 3 })
def s_liveUpdateSteps_2 : State := run |> S F.GLB_BOOT_STAT_STAGE 7 0
    |> OnSys (fun y => { y with updStep := 5, updBack := false, eraseAt := none, progPage := none })
    |> OnTwin (fun w => { w with active := some .a }) |> S F.TB_ROLE_ROLE 5 0 |> B F.TB_HB_STAT_FROZEN false 0
    |> OnTwin (fun w => { w with updMoved := true }) |> S F.TB_ROLE_ROLE 0 1
    |> (fun s => { s with flash := hdrWrite s.flash { (hdrNow s.flash) with state := 2, mode := 0, auto := 0, prevBundle := 0, prevConfig := 1 } })
def v_liveUpdateSteps_2_m : List Host.Cell := (hdrWrite s_liveUpdateSteps_2.flash { hdrNow s_liveUpdateSteps_2.flash with bundleSel := (hdrNow s_liveUpdateSteps_2.flash).prevBundle, configSel := (hdrNow s_liveUpdateSteps_2.flash).prevConfig, state := 3, failCause := 3 })
def s_liveUpdateSteps_3 : State := run |> S F.GLB_BOOT_STAT_STAGE 7 0
    |> OnSys (fun y => { y with updStep := 6, updBack := false, eraseAt := none, progPage := none })
    |> OnTwin (fun w => { w with active := some .a }) |> S F.TB_ROLE_ROLE 5 0 |> B F.TB_HB_STAT_FROZEN false 0
    |> S F.TB_ROLE_ROLE 4 1
def v_liveUpdateSteps_3_m : List Host.Cell := (hdrWrite s_liveUpdateSteps_3.flash { hdrNow s_liveUpdateSteps_3.flash with bundleSel := (hdrNow s_liveUpdateSteps_3.flash).prevBundle, configSel := (hdrNow s_liveUpdateSteps_3.flash).prevConfig, state := 3, failCause := 3 })
def s_liveUpdateSteps_4 : State := run |> S F.GLB_BOOT_STAT_STAGE 7 0
    |> OnSys (fun y => { y with updStep := 4, updBack := false, eraseAt := none, progPage := none })
    |> OnTwin (fun w => { w with active := some .a }) |> S F.TB_ROLE_ROLE 5 0 |> B F.TB_HB_STAT_FROZEN false 0
    |> S F.TB_ROLE_ROLE 0 1
def v_liveUpdateSteps_4_m : List Host.Cell := (hdrWrite s_liveUpdateSteps_4.flash { hdrNow s_liveUpdateSteps_4.flash with bundleSel := (hdrNow s_liveUpdateSteps_4.flash).prevBundle, configSel := (hdrNow s_liveUpdateSteps_4.flash).prevConfig, state := 3, failCause := 3 })
def s_liveUpdateSteps_5 : State := run |> S F.GLB_BOOT_STAT_STAGE 7 0
    |> OnSys (fun y => { y with updStep := 1, updBack := false, eraseAt := none, progPage := none })
    |> OnTwin (fun w => { w with active := some .a }) |> S F.TB_ROLE_ROLE 5 0 |> B F.TB_HB_STAT_FROZEN false 0
    |> OnSys (fun y => { y with updBack := true })
def v_liveUpdateSteps_5_m : List Host.Cell := (hdrWrite s_liveUpdateSteps_5.flash { hdrNow s_liveUpdateSteps_5.flash with bundleSel := (hdrNow s_liveUpdateSteps_5.flash).prevBundle, configSel := (hdrNow s_liveUpdateSteps_5.flash).prevConfig, state := 3, failCause := 3 })
def s_liveUpdateSteps_6 : State := run |> S F.GLB_BOOT_STAT_STAGE 7 0
    |> OnSys (fun y => { y with updStep := 1, updBack := false, eraseAt := none, progPage := none })
    |> OnTwin (fun w => { w with active := some .a }) |> S F.TB_ROLE_ROLE 5 0 |> B F.TB_HB_STAT_FROZEN false 0
def v_liveUpdateSteps_6_m : List Host.Cell := (hdrWrite s_liveUpdateSteps_6.flash { hdrNow s_liveUpdateSteps_6.flash with bundleSel := (hdrNow s_liveUpdateSteps_6.flash).prevBundle, configSel := (hdrNow s_liveUpdateSteps_6.flash).prevConfig, state := 3, failCause := 3 })
def s_liveUpdateSteps_7 : State := run |> S F.GLB_BOOT_STAT_STAGE 7 0 |> S F.PWR_STAT_FAST 1 0
    |> OnSys (fun y => { y with updStep := 1, updBack := false, eraseAt := none, progPage := none })
    |> OnTwin (fun w => { w with active := some .a }) |> S F.TB_ROLE_ROLE 5 0 |> B F.TB_HB_STAT_FROZEN false 0
    |> (fun s => { s with flash := hdrWrite s.flash { (hdrNow s.flash) with state := 2, mode := 1, auto := 0, prevBundle := 0, prevConfig := 1 } })
def v_liveUpdateSteps_7_m : List Host.Cell := (hdrWrite s_liveUpdateSteps_7.flash { hdrNow s_liveUpdateSteps_7.flash with bundleSel := (hdrNow s_liveUpdateSteps_7.flash).prevBundle, configSel := (hdrNow s_liveUpdateSteps_7.flash).prevConfig, state := 3, failCause := 3 })
def s_liveUpdateSteps_8 : State := run |> S F.GLB_BOOT_STAT_STAGE 7 0 |> S F.PWR_STAT_FAST 0 0
    |> OnSys (fun y => { y with updStep := 1, updBack := false, eraseAt := none, progPage := none })
    |> OnTwin (fun w => { w with active := some .a }) |> S F.TB_ROLE_ROLE 5 0 |> B F.TB_HB_STAT_FROZEN false 0
    |> (fun s => { s with flash := hdrWrite s.flash { (hdrNow s.flash) with state := 2, mode := 1, auto := 0, prevBundle := 0, prevConfig := 1 } })
def v_liveUpdateSteps_8_m : List Host.Cell := (hdrWrite s_liveUpdateSteps_8.flash { hdrNow s_liveUpdateSteps_8.flash with bundleSel := (hdrNow s_liveUpdateSteps_8.flash).prevBundle, configSel := (hdrNow s_liveUpdateSteps_8.flash).prevConfig, state := 3, failCause := 3 })
def s_liveUpdateSteps_9 : State := run |> S F.GLB_BOOT_STAT_STAGE 7 0 |> OnSys (fun y => { y with carryover := true })
def v_liveUpdateSteps_9_m : List Host.Cell := (hdrWrite s_liveUpdateSteps_9.flash { hdrNow s_liveUpdateSteps_9.flash with bundleSel := (hdrNow s_liveUpdateSteps_9.flash).prevBundle, configSel := (hdrNow s_liveUpdateSteps_9.flash).prevConfig, state := 3, failCause := 3 })
/-- Each clause of `LiveUpdateSteps` has a state and operands that meet its hypotheses. -/
theorem test_liveUpdateSteps_hypotheses :
    (∃ (s : State) (k : Nat), s.dev.sys.updStep = k ∧ s.dev.sys.updBack = false ∧ k = 4 ∧ s.dev.readyStandby = true) ∧
    (∃ (s : State) (k : Nat), s.dev.sys.updStep = k ∧ s.dev.sys.updBack = false ∧ k = 5 ∧ s.dev.twin.updMoved = true) ∧
    (∃ (s : State) (k : Nat), s.dev.sys.updStep = k ∧ s.dev.sys.updBack = false ∧ k = 6 ∧ s.dev.readyStandby = true) ∧
    (∃ (s : State) (k : Nat), s.dev.sys.updStep = k ∧ s.dev.sys.updBack = false ∧ (k = 4 ∨ k = 6) ∧
      s.dev.readyStandby = false) ∧
    (∃ (s : State) (k : Nat), s.dev.sys.updStep = k ∧ k ≠ 0 ∧ s.dev.sys.updBack = true) ∧
    (∃ (s : State) (k : Nat), s.dev.sys.updStep = k ∧ k ≠ 0 ∧ s.dev.sys.updBack = false ∧ (hdrNow s.flash).mode ≠ 1) ∧
    (∃ (s : State) (k : Nat) (m : List Host.Cell), s.dev.sys.updStep = k ∧ k ≠ 0 ∧ s.dev.sys.updBack = false ∧
      (hdrNow s.flash).mode = 1 ∧
      m = hdrWrite s.flash { hdrNow s.flash with bundleSel := (hdrNow s.flash).prevBundle, configSel := (hdrNow s.flash).prevConfig, state := 3, failCause := 3 } ∧
      s.dev.fast ≠ 0) ∧
    (∃ (s : State) (k : Nat) (m : List Host.Cell), s.dev.sys.updStep = k ∧ k ≠ 0 ∧ s.dev.sys.updBack = false ∧
      (hdrNow s.flash).mode = 1 ∧
      m = hdrWrite s.flash { hdrNow s.flash with bundleSel := (hdrNow s.flash).prevBundle, configSel := (hdrNow s.flash).prevConfig, state := 3, failCause := 3 } ∧
      s.dev.fast = 0) ∧
    (∃ (s : State) (k : Nat), s.dev.sys.updStep = k ∧ s.dev.sys.carryover = true) :=
  ⟨⟨s_liveUpdateSteps_1, s_liveUpdateSteps_1.dev.sys.updStep, by decide +kernel⟩,
   ⟨s_liveUpdateSteps_2, s_liveUpdateSteps_2.dev.sys.updStep, by decide +kernel⟩,
   ⟨s_liveUpdateSteps_3, s_liveUpdateSteps_3.dev.sys.updStep, by decide +kernel⟩,
   ⟨s_liveUpdateSteps_4, s_liveUpdateSteps_4.dev.sys.updStep, by decide +kernel⟩,
   ⟨s_liveUpdateSteps_5, s_liveUpdateSteps_5.dev.sys.updStep, by decide +kernel⟩,
   ⟨s_liveUpdateSteps_6, s_liveUpdateSteps_6.dev.sys.updStep, by decide +kernel⟩,
   ⟨s_liveUpdateSteps_7, s_liveUpdateSteps_7.dev.sys.updStep, v_liveUpdateSteps_7_m, by decide +kernel⟩,
   ⟨s_liveUpdateSteps_8, s_liveUpdateSteps_8.dev.sys.updStep, v_liveUpdateSteps_8_m, by decide +kernel⟩,
   ⟨s_liveUpdateSteps_9, s_liveUpdateSteps_9.dev.sys.updStep, by decide +kernel⟩⟩

def s_hostRegisterWrites_1 : State := run |> S F.GLB_BOOT_STAT_STAGE 7 0
    |> OnPcie (fun p => { p with ready := true, indQueue := [], waiting := [], held := none }) |> S F.PWR_STAT_FAST 2 0
def s_hostRegisterWrites_2 : State := run |> S F.GLB_BOOT_STAT_STAGE 7 0
    |> OnPcie (fun p => { p with ready := true, indQueue := [], waiting := [], held := none })
def s_hostRegisterWrites_3 : State := run |> S F.GLB_BOOT_STAT_STAGE 7 0
    |> OnPcie (fun p => { p with ready := true, indQueue := [], waiting := [], held := none })
    |> OnPcie (fun p => { p with ready := 0 == 1 })
def s_hostRegisterWrites_4 : State := run |> S F.GLB_BOOT_STAT_STAGE 7 0
    |> OnPcie (fun p => { p with ready := true, indQueue := [], waiting := [], held := none })
    |> OnPcie (fun p => { p with indQueue := List.replicate 64 ⟨5, 8, 7⟩ })
/-- Each clause of `HostRegisterWrites` has a state and operands that meet its hypotheses. -/
theorem test_hostRegisterWrites_hypotheses :
    (∃ (s : State) (w : BusWrite) (r : BusRead), w.party = .host ∧ r.party = .host ∧ s.dev.pcie.ready = true ∧
      s.dev.pcie.indQueue.length < 64 ∧ s.dev.pcie.waiting = [] ∧ s.dev.pcie.held = none ∧ w.bar = 0 ∧ w.offset = 0x8048 ∧
      w.size = 4 ∧ s.dev.fastReach = true) ∧
    (∃ (s : State) (w : BusWrite) (r : BusRead), w.party = .host ∧ r.party = .host ∧ s.dev.pcie.ready = true ∧
      s.dev.pcie.indQueue.length < 64 ∧ s.dev.pcie.waiting = [] ∧ s.dev.pcie.held = none ∧ w.bar = 0 ∧ w.offset = 0x8048 ∧
      w.size = 2 ∧ s.dev.stage ≠ 0) ∧
    (∃ (s : State) (w : BusWrite) (r : BusRead), w.party = .host ∧ r.party = .host ∧
      (s.dev.pcie.ready = false ∨ busRefused w = true)) ∧
    (∃ (s : State) (w : BusWrite) (r : BusRead), w.party = .host ∧ r.party = .host ∧ s.dev.pcie.ready = true ∧
      busRefused w = false ∧ 64 ≤ s.dev.pcie.indQueue.length ∧ s.dev.pcie.held = none ∧
      (∀ x ∈ s.dev.pcie.waiting, x.posted = true)) ∧
    (∃ (s : State) (w : BusWrite) (r : BusRead), w.party = .host ∧ r.party = .host ∧
      (s.dev.pcie.ready = false ∨ readRefused r = true)) ∧
    (∃ (s : State) (w : BusWrite) (r : BusRead), w.party = .host ∧ r.party = .host ∧ hostIdle s.dev = true ∧
      s.dev.stage ≠ 0 ∧ r.bar = 0 ∧ r.offset = 4 ∧ 1 ≤ r.size ∧ r.size ≤ 4) ∧
    (∃ (s : State) (w : BusWrite) (r : BusRead), w.party = .host ∧ r.party = .host ∧ hostIdle s.dev = true ∧
      s.dev.stage ≠ 0 ∧ r.bar = 0 ∧ r.offset = 0 ∧ r.size = 8) ∧
    (∃ (s : State) (w : BusWrite) (r : BusRead), w.party = .host ∧ r.party = .host ∧ hostIdle s.dev = true ∧
      s.dev.fastReach = true) :=
  ⟨⟨s_hostRegisterWrites_1, (⟨.host, 0, 0x8048, 4, BitVec.ofNat 64 0⟩ : BusWrite), (⟨.host, 0, 4, 4⟩ : BusRead), by decide +kernel⟩,
   ⟨s_hostRegisterWrites_2, (⟨.host, 0, 0x8048, 2, BitVec.ofNat 64 0⟩ : BusWrite), (⟨.host, 0, 4, 4⟩ : BusRead), by decide +kernel⟩,
   ⟨s_hostRegisterWrites_3, (⟨.host, 2, 0x8048, 4, BitVec.ofNat 64 0⟩ : BusWrite), (⟨.host, 0, 4, 4⟩ : BusRead), by decide +kernel⟩,
   ⟨s_hostRegisterWrites_4, (⟨.host, 0, 8, 4, BitVec.ofNat 64 0⟩ : BusWrite), (⟨.host, 0, 4, 4⟩ : BusRead), by decide +kernel⟩,
   ⟨s_hostRegisterWrites_3, (⟨.host, 0, 0x8048, 4, BitVec.ofNat 64 0⟩ : BusWrite), (⟨.host, 0, 0x8046, 4⟩ : BusRead), by decide +kernel⟩,
   ⟨s_hostRegisterWrites_2, (⟨.host, 0, 0x8048, 4, BitVec.ofNat 64 0⟩ : BusWrite), (⟨.host, 0, 4, 1⟩ : BusRead), by decide +kernel⟩,
   ⟨s_hostRegisterWrites_2, (⟨.host, 0, 0x8048, 4, BitVec.ofNat 64 0⟩ : BusWrite), (⟨.host, 0, 0, 8⟩ : BusRead), by decide +kernel⟩,
   ⟨s_hostRegisterWrites_1, (⟨.host, 0, 0x8048, 4, BitVec.ofNat 64 0⟩ : BusWrite), (⟨.host, 0, 4, 4⟩ : BusRead), by decide +kernel⟩⟩

def s_indirectAccess_1 : State := run |> S F.GLB_BOOT_STAT_STAGE 7 0
    |> OnPcie (fun p => { p with ready := true, indQueue := [], waiting := [], held := none })
def s_indirectAccess_2 : State := run |> S F.GLB_BOOT_STAT_STAGE 7 0
    |> OnPcie (fun p => { p with ready := true, indQueue := [], waiting := [], held := none })
    |> OnPcie (fun p => { p with indQueue := [⟨0x30, 0, 7⟩, ⟨5, 8, 7⟩] }) |> S F.IND_STAT_ERR 0 0
def s_indirectAccess_4 : State := run |> S F.GLB_BOOT_STAT_STAGE 7 0
    |> OnPcie (fun p => { p with ready := true, indQueue := [], waiting := [], held := none })
    |> OnPcie (fun p => { p with indQueue := [⟨8, 0x1A00000, 7⟩, ⟨5, 8, 7⟩] })
    |> OnSys (fun y => { y with eraseAt := some 0x1B00000 })
def s_indirectAccess_5 : State := run |> S F.GLB_BOOT_STAT_STAGE 7 0
    |> OnPcie (fun p => { p with ready := true, indQueue := [], waiting := [], held := none })
    |> OnPcie (fun p => { p with indQueue := [⟨8, 0x1A00000 + 0, BitVec.ofNat 32 0⟩, ⟨5, 8, 7⟩] })
    |> OnSys (fun y => { y with eraseAt := none, progPage := none, page := none })
def s_indirectAccess_6 : State := run |> S F.GLB_BOOT_STAT_STAGE 7 0
    |> OnPcie (fun p => { p with ready := true, indQueue := [], waiting := [], held := none }) |> S F.IND_SPACE_SPACE 8 0
    |> S F.IND_ADDR_ADDR 0 0 |> OnSys (fun y => { y with eraseAt := none, progPage := none })
    |> (fun s => { s with flash := [(5, 6), (9, 1)] })
def s_indirectAccess_7 : State := run |> S F.GLB_BOOT_STAT_STAGE 7 0
    |> OnPcie (fun p => { p with ready := true, indQueue := [], waiting := [], held := none }) |> S F.IND_SPACE_SPACE 8 0
    |> S F.IND_ADDR_ADDR 0 0 |> OnSys (fun y => { y with eraseAt := some 0x1B0000 })
def s_indirectAccess_8 : State := run |> S F.GLB_BOOT_STAT_STAGE 7 0
    |> OnPcie (fun p => { p with ready := true, indQueue := [], waiting := [], held := none }) |> S F.IND_STAT_ERR 0 0
    |> OnSys (fun y => { y with eraseAt := some 0x1B0000 })
    |> OnPcie (fun p => { p with held := some ⟨[], [(8, 0)], 0, 4⟩ })
/-- Each clause of `IndirectAccess` has a state and operands that meet its hypotheses. -/
theorem test_indirectAccess_hypotheses :
    (∃ (s : State) (sp : Nat) (a : Nat), s.dev.pcie.ready = true ∧ s.dev.pcie.indQueue.length < 64 ∧
      s.dev.pcie.waiting = [] ∧ s.dev.pcie.held = none ∧ s.dev.stage ≠ 0 ∧ s.dev.stage ≠ 8 ∧
      s.dev.get F.IND_SPACE_SPACE = sp ∧ s.dev.get F.IND_ADDR_ADDR = a) ∧
    (∃ (s : State) (q : IndWrite) (rest : List IndWrite) (e : Nat), s.dev.pcie.indQueue = q :: rest ∧
      s.dev.pcie.waiting = [] ∧ s.dev.pcie.held = none ∧ s.dev.indFault q.space q.addr true = some e ∧ 0 < e ∧ e < 16 ∧
      s.dev.get F.IND_STAT_ERR = 0) ∧
    (∃ (s : State) (q : IndWrite) (rest : List IndWrite) (e : Nat), s.dev.pcie.indQueue = q :: rest ∧
      s.dev.pcie.waiting = [] ∧ s.dev.pcie.held = none ∧ s.dev.indFault q.space q.addr true = some e ∧ 0 < e ∧ e < 16 ∧
      s.dev.pcie.ready = true ∧ s.dev.stage ≠ 8 ∧ rest.length < 63) ∧
    (∃ (s : State) (q : IndWrite) (rest : List IndWrite), s.dev.pcie.indQueue = q :: rest ∧ s.dev.pcie.waiting = [] ∧
      s.dev.pcie.held = none ∧ s.dev.indFault q.space q.addr true = none ∧ q.space = 8 ∧ s.nvmBarred q.addr = false ∧
      s.dev.nvmBusy = true) ∧
    (∃ (s : State) (q : IndWrite) (rest : List IndWrite), s.dev.pcie.indQueue = q :: rest ∧ s.dev.pcie.waiting = [] ∧
      s.dev.pcie.held = none ∧ s.dev.indFault q.space q.addr true = none ∧ q.space = 8 ∧ s.nvmBarred q.addr = false ∧
      s.dev.nvmBusy = false ∧ s.dev.sys.page = none ∧ q.addr % 256 / 4 < 63) ∧
    (∃ (s : State) (a : Nat), hostIdle s.dev = true ∧ s.dev.stage ≠ 0 ∧ s.dev.get F.IND_SPACE_SPACE = 8 ∧
      s.dev.get F.IND_ADDR_ADDR = a ∧ s.dev.indFault 8 (4 * a) false = none ∧ s.dev.nvmBusy = false) ∧
    (∃ (s : State) (a : Nat), hostIdle s.dev = true ∧ s.dev.stage ≠ 0 ∧ s.dev.get F.IND_SPACE_SPACE = 8 ∧
      s.dev.get F.IND_ADDR_ADDR = a ∧ s.dev.indFault 8 (4 * a) false = none ∧ s.dev.nvmBusy = true) ∧
    (∃ (s : State) (a : Nat), s.dev.pcie.held = some ⟨[], [(8, a)], 0, 4⟩ ∧ s.dev.nvmBusy = true ∧
      s.dev.pcie.indQueue = [] ∧ s.dev.pcie.waiting = [] ∧ s.dev.get F.IND_STAT_ERR = 0) :=
  ⟨⟨s_indirectAccess_1, (s_indirectAccess_1.dev.get F.IND_SPACE_SPACE), (s_indirectAccess_1.dev.get F.IND_ADDR_ADDR), by decide +kernel⟩,
   ⟨s_indirectAccess_2, (⟨0x30, 0, 7⟩ : IndWrite), ([⟨5, 8, 7⟩] : List IndWrite), 1, by decide +kernel⟩,
   ⟨s_indirectAccess_2, (⟨0x30, 0, 7⟩ : IndWrite), ([⟨5, 8, 7⟩] : List IndWrite), 1, by decide +kernel⟩,
   ⟨s_indirectAccess_4, (⟨8, 0x1A00000, 7⟩ : IndWrite), ([⟨5, 8, 7⟩] : List IndWrite), by decide +kernel⟩,
   ⟨s_indirectAccess_5, (⟨8, 0x1A00000 + 0, BitVec.ofNat 32 0⟩ : IndWrite), ([⟨5, 8, 7⟩] : List IndWrite), by decide +kernel⟩,
   ⟨s_indirectAccess_6, (s_indirectAccess_6.dev.get F.IND_ADDR_ADDR), by decide +kernel⟩,
   ⟨s_indirectAccess_7, (s_indirectAccess_7.dev.get F.IND_ADDR_ADDR), by decide +kernel⟩,
   ⟨s_indirectAccess_8, 0, by decide +kernel⟩⟩

def s_captureWindow_1 : State := run |> S F.GLB_BOOT_STAT_STAGE 7 0
    |> OnPcie (fun p => { p with ready := true, indQueue := [], waiting := [], held := none }) |> S F.WIDE_SEL_CODE 0 0
    |> S F.WIDE_SEL_PORT 0 0 |> OnPcie (fun p => { p with latch := none })
def s_captureWindow_2 : State := run |> S F.GLB_BOOT_STAT_STAGE 7 0
    |> OnPcie (fun p => { p with ready := true, indQueue := [], waiting := [], held := none })
    |> OnPcie (fun p => { p with latch := some (5, 1, 0) })
def s_captureWindow_3 : State := run |> S F.GLB_BOOT_STAT_STAGE 7 0
    |> OnPcie (fun p => { p with ready := true, indQueue := [], waiting := [], held := none })
/-- Each clause of `CaptureWindow` has a state and operands that meet its hypotheses. -/
theorem test_captureWindow_hypotheses :
    (∃ (s : State) (code : Nat) (port : Nat), s.dev.firnReach = true ∧ s.dev.pcie.latch = none ∧
      s.dev.get F.WIDE_SEL_CODE = code ∧ s.dev.get F.WIDE_SEL_PORT = port) ∧
    (∃ (s : State), s.dev.firnReach = true ∧ s.dev.pcie.latch ≠ none) ∧
    (∃ (s : State), hostIdle s.dev = true ∧ s.dev.stage ≠ 0 ∧ s.dev.stage ≠ 8) :=
  ⟨⟨s_captureWindow_1, (s_captureWindow_1.dev.get F.WIDE_SEL_CODE), (s_captureWindow_1.dev.get F.WIDE_SEL_PORT), by decide +kernel⟩,
   ⟨s_captureWindow_2, by decide +kernel⟩,
   ⟨s_captureWindow_3, by decide +kernel⟩⟩

def s_hostLink_1 : State := run |> S F.GLB_BOOT_STAT_STAGE 7 0
    |> OnPcie (fun p => { p with ready := true, indQueue := [], waiting := [], held := none })
    |> OnSys (fun y => { y with powered := true }) |> OnChan 1 0 (fun c => { c with st := 2 })
    |> OnPcie (fun p => { p with indQueue := [⟨5, 8, 7⟩] })
def s_hostLink_2 : State := run |> S F.GLB_BOOT_STAT_STAGE 7 0
    |> OnPcie (fun p => { p with ready := true, indQueue := [], waiting := [], held := none })
    |> OnSys (fun y => { y with powered := true })
def s_hostLink_3 : State := run |> S F.GLB_BOOT_STAT_STAGE 7 0
    |> OnPcie (fun p => { p with ready := true, indQueue := [], waiting := [], held := none })
    |> OnSys (fun y => { y with powered := true }) |> OnPcie (fun p => { p with ready := false })
def s_hostLink_5 : State := run |> S F.GLB_BOOT_STAT_STAGE 7 0
    |> OnPcie (fun p => { p with ready := true, indQueue := [], waiting := [], held := none })
    |> OnSys (fun y => { y with powered := true }) |> OnPcie (fun p => { p with hbRuns := true })
/-- Each clause of `HostLink` has a state and operands that meet its hypotheses. -/
theorem test_hostLink_hypotheses :
    (∃ (s : State) (src : Nat), s.dev.sys.powered = true ∧ s.dev.pcie.ready = true ∧ s.dev.pcie.indQueue.length ≤ 64 ∧
      src ≠ 0 ∧ src < 6) ∧
    (∃ (s : State) (src : Nat), s.dev.sys.powered = true ∧ s.dev.pcie.ready = true ∧ s.dev.pcie.indQueue.length ≤ 64 ∧
      src ≠ 0 ∧ src < 6) ∧
    (∃ (s : State), s.dev.sys.powered = true ∧ s.dev.pcie.ready = false) ∧
    (∃ (s : State), s.dev.stage ≠ 0) ∧
    (∃ (s : State), s.dev.pcie.hbRuns = true) ∧
    (∃ (s : State), s.dev.pcie.ready = true) :=
  ⟨⟨s_hostLink_1, 1, by decide +kernel⟩,
   ⟨s_hostLink_2, 1, by decide +kernel⟩,
   ⟨s_hostLink_3, by decide +kernel⟩,
   ⟨s_hostLink_2, by decide +kernel⟩,
   ⟨s_hostLink_5, by decide +kernel⟩,
   ⟨s_hostLink_2, by decide +kernel⟩⟩

def s_smbusTarget_1 : State := run |> S F.GLB_BOOT_STAT_STAGE 7 0
    |> OnSys (fun y => { y with smbWrite := none, smbRead := none, eraseAt := none, progPage := none, page := none })
def s_smbusTarget_6 : State := run |> S F.GLB_BOOT_STAT_STAGE 7 0
    |> OnSys (fun y => { y with smbWrite := none, smbRead := none, eraseAt := none, progPage := none, page := none })
    |> S F.GLB_BOOT_STAT_STAGE 8 0
def v_smbusTarget_7_w : Word := (if s_smbusTarget_1.dev.reaches false ((Reg.ALM_ENABLE)) && !((Reg.ALM_ENABLE)).hostOnly && !s_smbusTarget_1.dev.absent ((Reg.ALM_ENABLE)) 0 then s_smbusTarget_1.dev.readReg ((Reg.ALM_ENABLE)) 0 else 0)
def s_smbusTarget_9 : State := run |> S F.GLB_BOOT_STAT_STAGE 7 0
    |> OnSys (fun y => { y with smbWrite := none, smbRead := none, eraseAt := none, progPage := none, page := none })
    |> S F.GLB_BOOT_STAT_STAGE 8 0 |> OnSys (fun y => { y with eraseAt := some 0x1B0000 })
/-- Each clause of `SmbusTarget` has a state and operands that meet its hypotheses. -/
theorem test_smbusTarget_hypotheses :
    (∃ (s : State) (o : BitVec 16) (a : Word) (v : Word) (k : SmbHead) (A : Nat) (c : _), s.dev.smbusAddr = A ∧
      k.address ≠ A ∧ c ∈ [Instr.smbWriteRegister o v k, .smbReadRegister o k, .smbWriteNvm a v k, .smbReadNvm a k]) ∧
    (∃ (s : State) (o : BitVec 16) (a : Word) (v : Word) (k : SmbHead) (A : Nat) (c : _), s.dev.smbusAddr = A ∧
      k.address = A ∧
      (s.dev.stage = 0 ∨ s.dev.sys.smbWrite ≠ none ∨ s.dev.sys.smbRead ≠ none ∨ k.code < 0x10 ∨ 0x13 < k.code) ∧
      c ∈ [Instr.smbWriteRegister o v k, .smbReadRegister o k, .smbWriteNvm a v k, .smbReadNvm a k]) ∧
    (∃ (s : State) (o : BitVec 16) (a : Word) (v : Word) (A : Nat) (c : _), s.dev.smbusAddr = A ∧ s.dev.stage ≠ 0 ∧
      s.dev.sys.smbWrite = none ∧ s.dev.sys.smbRead = none ∧
      c ∈ [Instr.smbWriteRegister o v ⟨A, 0x10, false⟩, .smbReadRegister o ⟨A, 0x11, false⟩, .smbWriteNvm a v ⟨A, 0x12, false⟩, .smbReadNvm a ⟨A, 0x13, false⟩]) ∧
    (∃ (s : State) (o : BitVec 16) (A : Nat), s.dev.smbusAddr = A ∧ s.dev.stage ≠ 0 ∧ s.dev.sys.smbWrite = none ∧
      s.dev.sys.smbRead = none ∧ smbSubset s.dev.stage o.toNat true = false) ∧
    (∃ (s : State) (o : BitVec 16) (A : Nat), s.dev.smbusAddr = A ∧ s.dev.stage ≠ 0 ∧ s.dev.sys.smbWrite = none ∧
      s.dev.sys.smbRead = none ∧ smbSubset s.dev.stage o.toNat false = false) ∧
    (∃ (s : State) (o : BitVec 16) (A : Nat) (g : Reg) (u : Nat), s.dev.smbusAddr = A ∧ s.dev.stage ≠ 0 ∧
      s.dev.sys.smbWrite = none ∧ s.dev.sys.smbRead = none ∧ smbSubset s.dev.stage o.toNat true = true ∧
      regAt .bar0 o.toNat = some (g, u) ∧ s.dev.reaches false g = true ∧
      g ∈ [Reg.ALM_ENABLE, .ALM_ROUTE, .UPD_CFG, .UPD_ERASE_ADDR]) ∧
    (∃ (s : State) (o : BitVec 16) (A : Nat) (g : Reg) (u : Nat) (w : Word), s.dev.smbusAddr = A ∧ s.dev.stage ≠ 0 ∧
      s.dev.sys.smbWrite = none ∧ s.dev.sys.smbRead = none ∧ smbSubset s.dev.stage o.toNat false = true ∧
      regAt .bar0 o.toNat = some (g, u) ∧ g ≠ .ALM_LOG_W ∧
      w = (if s.dev.reaches false g && !g.hostOnly && !s.dev.absent g u then s.dev.readReg g u else 0)) ∧
    (∃ (s : State) (a : Word) (A : Nat), s.dev.smbusAddr = A ∧ s.dev.stage ≠ 0 ∧ s.dev.sys.smbWrite = none ∧
      s.dev.sys.smbRead = none ∧ s.dev.stage = 8 ∧ a.toNat % 4 = 0 ∧ a.toNat < 0x4000000 ∧ s.nvmBarred a.toNat = false ∧
      s.dev.nvmBusy = false ∧ s.dev.sys.page = none ∧ a.toNat % 256 / 4 < 63) ∧
    (∃ (s : State) (a : Word) (A : Nat), s.dev.smbusAddr = A ∧ s.dev.stage ≠ 0 ∧ s.dev.sys.smbWrite = none ∧
      s.dev.sys.smbRead = none ∧ s.dev.stage = 8 ∧ a.toNat % 4 = 0 ∧ a.toNat < 0x4000000 ∧ s.nvmBarred a.toNat = false ∧
      s.dev.nvmBusy = true) ∧
    (∃ (s : State) (a : Word) (A : Nat), s.dev.smbusAddr = A ∧ s.dev.stage ≠ 0 ∧ s.dev.sys.smbWrite = none ∧
      s.dev.sys.smbRead = none ∧ s.dev.stage = 8 ∧ a.toNat % 4 = 0 ∧ a.toNat < 0x4000000 ∧ s.dev.nvmBusy = false) ∧
    (∃ (s : State) (a : Word) (A : Nat), s.dev.smbusAddr = A ∧ s.dev.stage ≠ 0 ∧ s.dev.sys.smbWrite = none ∧
      s.dev.sys.smbRead = none ∧ s.dev.stage = 8 ∧ a.toNat % 4 = 0 ∧ a.toNat < 0x4000000 ∧ s.dev.nvmBusy = true) :=
  ⟨⟨s_smbusTarget_1, 0, (BitVec.ofNat 32 (0x1A00000 + 0)), 0, (⟨5, 0x10, true⟩ : SmbHead), s_smbusTarget_1.dev.smbusAddr, (Instr.smbWriteRegister (BitVec.ofNat 16 0) (BitVec.ofNat 32 0) (⟨5, 0x10, true⟩ : SmbHead)), by decide +kernel⟩,
   ⟨s_smbusTarget_1, 0, (BitVec.ofNat 32 (0x1A00000 + 0)), 0, (⟨s_smbusTarget_1.dev.smbusAddr, 0x20, true⟩ : SmbHead), s_smbusTarget_1.dev.smbusAddr, (Instr.smbWriteRegister (BitVec.ofNat 16 0) (BitVec.ofNat 32 0) (⟨s_smbusTarget_1.dev.smbusAddr, 0x20, true⟩ : SmbHead)), by decide +kernel⟩,
   ⟨s_smbusTarget_1, 0, (BitVec.ofNat 32 (0x1A00000 + 0)), 0, s_smbusTarget_1.dev.smbusAddr, ((Instr.smbWriteRegister (BitVec.ofNat 16 0) (BitVec.ofNat 32 0) ⟨s_smbusTarget_1.dev.smbusAddr, 0x10, false⟩)), by decide +kernel⟩,
   ⟨s_smbusTarget_1, (BitVec.ofNat 16 (0x50 + 0 % 0x80)), s_smbusTarget_1.dev.smbusAddr, by decide +kernel⟩,
   ⟨s_smbusTarget_1, (BitVec.ofNat 16 (0x50 + 0 % 0x80)), s_smbusTarget_1.dev.smbusAddr, by decide +kernel⟩,
   ⟨s_smbusTarget_6, (BitVec.ofNat 16 (((Reg.ALM_ENABLE)).spec.base)), s_smbusTarget_6.dev.smbusAddr, ((Reg.ALM_ENABLE)), 0, by decide +kernel⟩,
   ⟨s_smbusTarget_1, (BitVec.ofNat 16 (((Reg.ALM_ENABLE)).spec.base)), s_smbusTarget_1.dev.smbusAddr, ((Reg.ALM_ENABLE)), 0, v_smbusTarget_7_w, by decide +kernel⟩,
   ⟨s_smbusTarget_6, (BitVec.ofNat 32 (0x1A00000 + 0)), s_smbusTarget_6.dev.smbusAddr, by decide +kernel⟩,
   ⟨s_smbusTarget_9, (BitVec.ofNat 32 (0x1A00000 + 0)), s_smbusTarget_9.dev.smbusAddr, by decide +kernel⟩,
   ⟨s_smbusTarget_6, (BitVec.ofNat 32 (0x1A00000 + 0)), s_smbusTarget_6.dev.smbusAddr, by decide +kernel⟩,
   ⟨s_smbusTarget_9, (BitVec.ofNat 32 (0x1A00000 + 0)), s_smbusTarget_9.dev.smbusAddr, by decide +kernel⟩⟩

def s_mailboxTransitions_1 : State := run |> S F.GLB_BOOT_STAT_STAGE 7 0
    |> OnChan (((MboxParty.fsp))).id (((MboxParty.cp))).id (fun c => { c with st := 0 })
def s_mailboxTransitions_2 : State := run |> S F.GLB_BOOT_STAT_STAGE 7 0
    |> OnChan (((MboxParty.fsp))).id (MboxParty.host).id (fun c => { c with st := 1 })
def s_mailboxTransitions_3 : State := run |> S F.GLB_BOOT_STAT_STAGE 7 0
    |> OnChan (MboxParty.host).id (((MboxParty.fsp))).id (fun c => { c with st := 0, msg := List.replicate 64 5, len := (if 0 % 2 = 0 then 0 / 2 % 4 else 65) })
def s_mailboxTransitions_4 : State := run |> S F.GLB_BOOT_STAT_STAGE 7 0
    |> OnChan (MboxParty.host).id (((MboxParty.fsp))).id (fun c => { c with st := 0, msg := List.replicate 64 5, len := 4 })
def s_mailboxTransitions_5 : State := run |> S F.GLB_BOOT_STAT_STAGE 7 0
    |> OnChan (MboxParty.host).id (((MboxParty.fsp))).id (fun c => { c with st := 1 })
def s_mailboxTransitions_6 : State := run |> S F.GLB_BOOT_STAT_STAGE 7 0
    |> OnChan (((MboxParty.fsp))).id (((MboxParty.cp))).id (fun c => { c with st := 1 })
def s_mailboxTransitions_8 : State := run |> S F.GLB_BOOT_STAT_STAGE 7 0
    |> OnChan (((MboxParty.fsp))).id (MboxParty.host).id (fun c => { c with st := 0 })
def s_mailboxTransitions_9 : State := run |> S F.GLB_BOOT_STAT_STAGE 7 0
    |> OnChan (MboxParty.host).id (((MboxParty.fsp))).id (fun c => { c with st := 0 })
def s_mailboxTransitions_12 : State := run |> S F.GLB_BOOT_STAT_STAGE 7 0
    |> OnChan (((MboxParty.fsp))).id (((MboxParty.cp))).id (fun c => { c with st := 2 })
def s_mailboxTransitions_13 : State := run |> S F.GLB_BOOT_STAT_STAGE 7 0
    |> OnChan (((MboxParty.fsp))).id (MboxParty.host).id (fun c => { c with st := 2, rspLen := 0, rsp := [5, 6] })
def s_mailboxTransitions_14 : State := run |> S F.GLB_BOOT_STAT_STAGE 7 0
    |> OnChan (((MboxParty.fsp))).id (MboxParty.host).id (fun c => { c with st := 2, rspLen := 65 })
def s_mailboxTransitions_16 : State := run |> S F.GLB_BOOT_STAT_STAGE 7 0
    |> OnChan (((MboxParty.cp))).id (((MboxParty.fsp))).id (fun c => { c with st := 0 })
def s_mailboxTransitions_17 : State := run |> S F.GLB_BOOT_STAT_STAGE 7 0
    |> OnChan 2 0 (fun c => { c with st := 3, redeliv := true }) |> OnMail (fun m => { m with notices := [] })
def s_mailboxTransitions_18 : State := run |> S F.GLB_BOOT_STAT_STAGE 7 0
    |> OnChan 2 0 (fun c => { c with st := 3, redeliv := true })
    |> OnMail (fun m => { m with notices := [(⟨1, 2, 3, 5⟩ : Notice), (⟨1, 2, 3, 5⟩ : Notice)] })
def s_mailboxTransitions_19 : State := run |> S F.GLB_BOOT_STAT_STAGE 7 0
    |> OnChan (((MboxParty.fsp))).id (((MboxParty.cp))).id (fun c => { c with st := 3 })
def s_mailboxTransitions_22 : State := run |> S F.GLB_BOOT_STAT_STAGE 7 0
    |> OnChan (((MboxParty.fsp))).id (MboxParty.host).id (fun c => { c with st := 2 })
/-- Each clause of `MailboxTransitions` has a state and operands that meet its hypotheses. -/
theorem test_mailboxTransitions_hypotheses :
    (∃ (s : State) (a : MboxParty) (b : MboxParty) (m : List Byte), a ≠ b ∧ (s.dev.chan a.id b.id).st = 0 ∧ a ≠ .host ∧
      4 ≤ m.length ∧ m.length ≤ 64) ∧
    (∃ (s : State) (a : MboxParty) (b : MboxParty) (m : List Byte), a ≠ b ∧ a ≠ .host ∧
      ((s.dev.chan a.id b.id).st ≠ 0 ∨ m.length < 4 ∨ 64 < m.length)) ∧
    (∃ (s : State) (a : MboxParty) (b : MboxParty), a ≠ b ∧ (s.dev.chan a.id b.id).st = 0 ∧ a = .host ∧
      ((s.dev.chan a.id b.id).len < 4 ∨ 64 < (s.dev.chan a.id b.id).len)) ∧
    (∃ (s : State) (a : MboxParty) (b : MboxParty), a ≠ b ∧ (s.dev.chan a.id b.id).st = 0 ∧ a = .host ∧
      4 ≤ (s.dev.chan a.id b.id).len ∧ (s.dev.chan a.id b.id).len ≤ 64 ∧ (s.dev.chan a.id b.id).msg.length = 64) ∧
    (∃ (s : State) (a : MboxParty) (b : MboxParty), a ≠ b ∧ (s.dev.chan a.id b.id).st ≠ 0 ∧ a = .host) ∧
    (∃ (s : State) (a : MboxParty) (b : MboxParty), a ≠ b ∧ (s.dev.chan a.id b.id).st = 1) ∧
    (∃ (s : State) (a : MboxParty) (b : MboxParty), a ≠ b ∧ (s.dev.chan a.id b.id).st ≠ 1 ∧ a ≠ .host) ∧
    (∃ (s : State) (a : MboxParty) (b : MboxParty), a ≠ b ∧ (s.dev.chan a.id b.id).st ≠ 1 ∧ a = .host) ∧
    (∃ (s : State) (a : MboxParty) (b : MboxParty), a ≠ b ∧ (s.dev.chan a.id b.id).st ≠ 1 ∧ b ≠ .host) ∧
    (∃ (s : State) (a : MboxParty) (b : MboxParty), a ≠ b ∧ (s.dev.chan a.id b.id).st ≠ 1 ∧ b = .host) ∧
    (∃ (s : State) (a : MboxParty) (b : MboxParty) (m : List Byte), a ≠ b ∧ (s.dev.chan a.id b.id).st = 2 ∧ b ≠ .host ∧
      m.length ≤ 64) ∧
    (∃ (s : State) (a : MboxParty) (b : MboxParty), a ≠ b ∧ (s.dev.chan a.id b.id).st = 2 ∧ b = .host ∧
      (s.dev.chan a.id b.id).rspLen ≤ 64) ∧
    (∃ (s : State) (a : MboxParty) (b : MboxParty), a ≠ b ∧ (s.dev.chan a.id b.id).st = 2 ∧ b = .host ∧
      64 < (s.dev.chan a.id b.id).rspLen) ∧
    (∃ (s : State) (a : MboxParty) (b : MboxParty), a ≠ b ∧ (s.dev.chan a.id b.id).st ≠ 2 ∧ b ≠ .host) ∧
    (∃ (s : State) (a : MboxParty) (b : MboxParty), a ≠ b ∧ (s.dev.chan a.id b.id).st ≠ 3 ∧ a ≠ .host) ∧
    (∃ (s : State) (a : MboxParty) (b : MboxParty), a ≠ b ∧ (s.dev.chan 2 0).st = 3 ∧ s.dev.cpMail.notices = []) ∧
    (∃ (s : State) (a : MboxParty) (b : MboxParty) (n : Notice) (rest : List Notice), a ≠ b ∧ (s.dev.chan 2 0).st = 3 ∧
      s.dev.cpMail.notices = n :: rest) ∧
    (∃ (s : State) (a : MboxParty) (b : MboxParty), a ≠ b ∧ (s.dev.chan a.id b.id).st = 3 ∧ ¬(a = .cp ∧ b = .host)) ∧
    (∃ (s : State) (a : MboxParty) (b : MboxParty), a ≠ b ∧ (s.dev.chan a.id b.id).st ≠ 4) ∧
    (∃ (a : MboxParty) (b : MboxParty), a ≠ b) ∧
    (∃ (s : State) (a : MboxParty) (b : MboxParty), a ≠ b ∧ b = .host ∧ (s.dev.chan a.id b.id).st = 2) :=
  ⟨⟨s_mailboxTransitions_1, ((MboxParty.fsp)), ((MboxParty.cp)), ((List.range 4).map (fun i => BitVec.ofNat 8 (i * 7 + 0))), by decide +kernel⟩,
   ⟨s_mailboxTransitions_2, ((MboxParty.fsp)), MboxParty.host, ((List.range 4).map (fun i => BitVec.ofNat 8 (i * 7 + 0))), by decide +kernel⟩,
   ⟨s_mailboxTransitions_3, MboxParty.host, ((MboxParty.fsp)), by decide +kernel⟩,
   ⟨s_mailboxTransitions_4, MboxParty.host, ((MboxParty.fsp)), by decide +kernel⟩,
   ⟨s_mailboxTransitions_5, MboxParty.host, ((MboxParty.fsp)), by decide +kernel⟩,
   ⟨s_mailboxTransitions_6, ((MboxParty.fsp)), ((MboxParty.cp)), by decide +kernel⟩,
   ⟨s_mailboxTransitions_8, ((MboxParty.fsp)), MboxParty.host, by decide +kernel⟩,
   ⟨s_mailboxTransitions_9, MboxParty.host, ((MboxParty.fsp)), by decide +kernel⟩,
   ⟨s_mailboxTransitions_1, ((MboxParty.fsp)), ((MboxParty.cp)), by decide +kernel⟩,
   ⟨s_mailboxTransitions_8, ((MboxParty.fsp)), MboxParty.host, by decide +kernel⟩,
   ⟨s_mailboxTransitions_12, ((MboxParty.fsp)), ((MboxParty.cp)), ((List.range 4).map (fun i => BitVec.ofNat 8 (i * 7 + 0))), by decide +kernel⟩,
   ⟨s_mailboxTransitions_13, ((MboxParty.fsp)), MboxParty.host, by decide +kernel⟩,
   ⟨s_mailboxTransitions_14, ((MboxParty.fsp)), MboxParty.host, by decide +kernel⟩,
   ⟨s_mailboxTransitions_1, ((MboxParty.fsp)), ((MboxParty.cp)), by decide +kernel⟩,
   ⟨s_mailboxTransitions_16, ((MboxParty.cp)), ((MboxParty.fsp)), by decide +kernel⟩,
   ⟨s_mailboxTransitions_17, MboxParty.fsp, MboxParty.cp, by decide +kernel⟩,
   ⟨s_mailboxTransitions_18, MboxParty.fsp, MboxParty.cp, (⟨1, 2, 3, 5⟩ : Notice), ([(⟨1, 2, 3, 5⟩ : Notice)] : List Notice), by decide +kernel⟩,
   ⟨s_mailboxTransitions_19, ((MboxParty.fsp)), ((MboxParty.cp)), by decide +kernel⟩,
   ⟨s_mailboxTransitions_1, ((MboxParty.fsp)), ((MboxParty.cp)), by decide +kernel⟩,
   ⟨((MboxParty.fsp)), ((MboxParty.cp)), by decide +kernel⟩,
   ⟨s_mailboxTransitions_22, ((MboxParty.fsp)), MboxParty.host, by decide +kernel⟩⟩

def s_managementMessages_1 : State := run |> S F.GLB_BOOT_STAT_STAGE 7 0
    |> OnChan 0 2 (fun c => { c with st := 2, len := 4, sentLen := 4, msg := pad64 ([(3 + BitVec.ofNat 8 0), 0, 7, 0] ++ List.replicate 60 9) })
def s_managementMessages_2 : State := run |> S F.GLB_BOOT_STAT_STAGE 7 0
    |> OnChan 0 2 (fun c => { c with st := 2, len := 4, sentLen := 4, msg := pad64 ([(2 + BitVec.ofNat 8 0), 0, 7, 0] ++ List.replicate 60 9) })
    |> OnMail (fun m => { m with tag := if 0 % 2 = 0 then none else some 7, reply := [[1, 2, 3], [4]], replyCode := 5 })
def s_managementMessages_3 : State := run |> S F.GLB_BOOT_STAT_STAGE 7 0
    |> OnChan 0 2 (fun c => { c with st := 2, len := 4, sentLen := 4, msg := pad64 ([1, 0, 7, 1] ++ List.replicate 60 9) })
    |> OnMail (fun m => { m with tag := none, parts := if 0 % 2 = 0 then [] else [[5, 6]] })
def s_managementMessages_4 : State := run |> S F.GLB_BOOT_STAT_STAGE 7 0
    |> OnChan 0 2 (fun c => { c with st := 2, len := 4, sentLen := 4, msg := pad64 ([(1 + BitVec.ofNat 8 0), 0, 7, (BitVec.ofNat 8 0)] ++ List.replicate 60 9) })
    |> OnMail (fun m => { m with tag := some 8 })
def s_managementMessages_5 : State := run |> S F.GLB_BOOT_STAT_STAGE 7 0
    |> OnChan 0 2 (fun c => { c with st := 2, len := 4, sentLen := 4, msg := pad64 ([2, 0, 7, 0] ++ List.replicate 60 9) })
    |> OnMail (fun m => { m with tag := if 0 % 2 = 0 then none else some 7, reply := [[1, 2, 3], [4]], replyCode := 0 })
def s_managementMessages_6 : State := run |> S F.GLB_BOOT_STAT_STAGE 7 0
    |> OnChan 0 2 (fun c => { c with st := 2, len := 5, sentLen := 5, msg := pad64 ([2, 0, 7, 0] ++ List.replicate 60 9) })
/-- Each clause of `ManagementMessages` has a state and operands that meet its hypotheses. -/
theorem test_managementMessages_hypotheses :
    (∃ (s : State) (m : List Byte) (c : _), s.dev.cpTaken = true ∧ s.dev.hostMsg = m ∧
      c ∈ [Instr.ptpManagement, .continueMsg] ∧ leNat (m.take 2) ≠ 1 ∧ leNat (m.take 2) ≠ 2) ∧
    (∃ (s : State) (m : List Byte) (c : _), s.dev.cpTaken = true ∧ s.dev.hostMsg = m ∧
      c ∈ [Instr.ptpManagement, .continueMsg] ∧ leNat (m.take 2) ≠ 1) ∧
    (∃ (s : State) (m : List Byte) (c : _), s.dev.cpTaken = true ∧ s.dev.hostMsg = m ∧
      c ∈ [Instr.ptpManagement, .continueMsg] ∧ leNat (m.take 2) = 1 ∧ s.dev.cpMail.tag = none ∧ byteAt m 3 % 2 = 1) ∧
    (∃ (s : State) (m : List Byte) (c : _), s.dev.cpTaken = true ∧ s.dev.hostMsg = m ∧
      c ∈ [Instr.ptpManagement, .continueMsg] ∧ (leNat (m.take 2) = 1 ∨ (leNat (m.take 2) = 2 ∧ m.length = 4)) ∧
      s.dev.cpMail.tag ≠ none ∧ s.dev.cpMail.tag ≠ some (byteAt m 2)) ∧
    (∃ (s : State) (m : List Byte) (c : _) (p : List Byte) (rest : List (List Byte)), s.dev.cpTaken = true ∧
      s.dev.hostMsg = m ∧ c ∈ [Instr.ptpManagement, .continueMsg] ∧ leNat (m.take 2) = 2 ∧ m.length = 4 ∧
      (s.dev.cpMail.tag = none ∨ s.dev.cpMail.tag = some (byteAt m 2)) ∧ s.dev.cpMail.reply = p :: rest ∧ p.length ≤ 60) ∧
    (∃ (s : State) (m : List Byte) (c : _), s.dev.cpTaken = true ∧ s.dev.hostMsg = m ∧
      c ∈ [Instr.ptpManagement, .continueMsg] ∧ leNat (m.take 2) = 2 ∧ m.length ≠ 4) :=
  ⟨⟨s_managementMessages_1, (s_managementMessages_1.dev.hostMsg), (Instr.ptpManagement), by decide +kernel⟩,
   ⟨s_managementMessages_2, (s_managementMessages_2.dev.hostMsg), (Instr.ptpManagement), by decide +kernel⟩,
   ⟨s_managementMessages_3, (s_managementMessages_3.dev.hostMsg), (Instr.ptpManagement), by decide +kernel⟩,
   ⟨s_managementMessages_4, (s_managementMessages_4.dev.hostMsg), (Instr.ptpManagement), by decide +kernel⟩,
   ⟨s_managementMessages_5, (s_managementMessages_5.dev.hostMsg), (Instr.ptpManagement), ([1, 2, 3] : List Byte), ([[4]] : List (List Byte)), by decide +kernel⟩,
   ⟨s_managementMessages_6, (s_managementMessages_6.dev.hostMsg), (Instr.ptpManagement), by decide +kernel⟩⟩

def s_counterWrites_1 : State := run |> S F.GLB_BOOT_STAT_STAGE 7 0 |> S F.PWR_STAT_FAST 2 0
    |> (fun s => { s with dev := { s.dev with cntCfg := [] } }) |> S F.CNT_IDX_IDX 3600 0
def s_counterWrites_2 : State := run |> S F.GLB_BOOT_STAT_STAGE 7 0 |> S F.PWR_STAT_FAST 2 0
    |> (fun s => { s with dev := { s.dev with cntCfg := [] } }) |> S F.CNT_IDX_IDX 0 0
    |> D (fun d => { d with cntCfg := [(64, 0#32)] })
def s_counterWrites_6 : State := run |> S F.GLB_BOOT_STAT_STAGE 7 0 |> S F.PWR_STAT_FAST 2 0
    |> (fun s => { s with dev := { s.dev with cntCfg := [] } }) |> S F.CNT_IDX_IDX 64 0
def s_counterWrites_8 : State := run |> S F.GLB_BOOT_STAT_STAGE 7 0 |> S F.PWR_STAT_FAST 2 0
    |> (fun s => { s with dev := { s.dev with cntCfg := [] } }) |> S F.CNT_IDX_IDX 3 0
/-- Each clause of `CounterWrites` has a state and operands that meet its hypotheses. -/
theorem test_counterWrites_hypotheses :
    (∃ (s : State) (v : Word) (n : Nat) (i : Nat), s.dev.fastReach = true ∧ s.dev.get F.CNT_IDX_IDX = i ∧
      s.dev.cntAbsent i = false ∧ (v.toNat + n < 2 ^ 32 ∨ s.dev.reserveOf i = none)) ∧
    (∃ (s : State) (v : Word) (n : Nat) (i : Nat) (x : Nat), s.dev.fastReach = true ∧ s.dev.get F.CNT_IDX_IDX = i ∧
      s.dev.cntAbsent i = false ∧ s.dev.reserveOf i = some x ∧ x ≠ i ∧ 2 ^ 32 ≤ v.toNat + n ∧
      ((s.dev.counter x).toNat + (v.toNat + n) / 2 ^ 32 : Nat) < 2 ^ 32) ∧
    (∃ (s : State) (i : Nat), s.dev.fastReach = true ∧ s.dev.get F.CNT_IDX_IDX = i ∧ s.dev.cntAbsent i = false) ∧
    (∃ (s : State) (v : Word) (i : Nat), s.dev.fastReach = true ∧ s.dev.get F.CNT_IDX_IDX = i ∧ s.dev.cntAbsent i = false ∧
      isReserve i = false ∧ isSelectable i = true ∧ (eventCodes (decide (i < 3072))).contains (bitsOf v.toNat 0 12) = true) ∧
    (∃ (s : State) (v : Word) (i : Nat), s.dev.fastReach = true ∧ s.dev.get F.CNT_IDX_IDX = i ∧ s.dev.cntAbsent i = false ∧
      isReserve i = false ∧ isSelectable i = true ∧ (eventCodes (decide (i < 3072))).contains (bitsOf v.toNat 0 12) = false) ∧
    (∃ (s : State) (v : Word) (i : Nat), s.dev.fastReach = true ∧ s.dev.get F.CNT_IDX_IDX = i ∧ s.dev.cntAbsent i = false ∧
      isReserve i = true ∧ chainOk s.dev.cntCfg i (bitsOf v.toNat 0 12) = true) ∧
    (∃ (s : State) (v : Word) (i : Nat), s.dev.fastReach = true ∧ s.dev.get F.CNT_IDX_IDX = i ∧ s.dev.cntAbsent i = false ∧
      isReserve i = true ∧ chainOk s.dev.cntCfg i (bitsOf v.toNat 0 12) = false) ∧
    (∃ (s : State) (i : Nat), s.dev.fastReach = true ∧ s.dev.get F.CNT_IDX_IDX = i ∧ s.dev.cntAbsent i = false ∧
      isReserve i = false ∧ isSelectable i = false) :=
  ⟨⟨s_counterWrites_1, 0, 0, (s_counterWrites_1.dev.get F.CNT_IDX_IDX), by decide +kernel⟩,
   ⟨s_counterWrites_2, (BitVec.ofNat 32 (2 ^ 32 - 1)), 1, (s_counterWrites_2.dev.get F.CNT_IDX_IDX), 64, by decide +kernel⟩,
   ⟨s_counterWrites_1, (s_counterWrites_1.dev.get F.CNT_IDX_IDX), by decide +kernel⟩,
   ⟨s_counterWrites_1, 0, (s_counterWrites_1.dev.get F.CNT_IDX_IDX), by decide +kernel⟩,
   ⟨s_counterWrites_1, (BitVec.ofNat 32 (0x200 + 0)), (s_counterWrites_1.dev.get F.CNT_IDX_IDX), by decide +kernel⟩,
   ⟨s_counterWrites_6, (BitVec.ofNat 32 (0xFFF)), (s_counterWrites_6.dev.get F.CNT_IDX_IDX), by decide +kernel⟩,
   ⟨s_counterWrites_6, 1, (s_counterWrites_6.dev.get F.CNT_IDX_IDX), by decide +kernel⟩,
   ⟨s_counterWrites_8, (s_counterWrites_8.dev.get F.CNT_IDX_IDX), by decide +kernel⟩⟩

def s_ringDumps_1 : State := run |> S F.GLB_BOOT_STAT_STAGE 7 0 |> OnTwin (fun w => { w with active := some .a })
    |> S F.TB_ROLE_ROLE 5 0 |> S F.PWR_STAT_FAST 2 0
    |> OnRing (fun g => { g with hostDue := true, telDue := true, latest := some (⟨10, 0, 5, 9, 1, [(7, 5)], []⟩ : Snapshot), dest := { base := 0, entries := 16, moved := none, telCfg := BitVec.ofNat 32 0, telHi := 1, telLo := 2 } })
    |> S F.RING_HOST_HEAD_HEAD 0 0 |> D (fun d => { d with latches := [(5, 0), (3100, 4), (5, 1), (60, 2 ^ 31)] })
def s_ringDumps_2 : State := run |> S F.GLB_BOOT_STAT_STAGE 7 0 |> OnTwin (fun w => { w with active := some .a })
    |> S F.TB_ROLE_ROLE 5 0 |> S F.PWR_STAT_FAST 2 0
    |> OnRing (fun g => { g with hostDue := true, telDue := true, latest := some (⟨10, 0, 5, 9, 1, [(7, 5)], []⟩ : Snapshot), dest := { base := 0, entries := 16, moved := none, telCfg := BitVec.ofNat 32 0, telHi := 1, telLo := 2 } })
    |> S F.RING_HOST_HEAD_HEAD 0 0 |> D (fun d => { d with latches := [(5, 0), (3100, 4), (5, 1), (60, 2 ^ 31)] })
    |> S F.PWR_STAT_FAST 1 0
def s_ringDumps_3 : State := run |> S F.GLB_BOOT_STAT_STAGE 7 0 |> OnTwin (fun w => { w with active := some .a })
    |> S F.TB_ROLE_ROLE 5 0 |> S F.PWR_STAT_FAST 2 0
    |> OnRing (fun g => { g with hostDue := true, telDue := true, latest := some (⟨10, 0, 5, 9, 1, [(7, 5)], []⟩ : Snapshot), dest := { base := 0, entries := 16, moved := none, telCfg := BitVec.ofNat 32 0, telHi := 1, telLo := 2 } })
    |> S F.RING_HOST_HEAD_HEAD 0 0 |> D (fun d => { d with latches := [(5, 0), (3100, 4), (5, 1), (60, 2 ^ 31)] })
    |> OnRing (fun g => { g with dest := { g.dest with moved := some (0, 5 % 16) } }) |> B F.GLB_HOST_STAT_BME true 0
    |> B F.GLB_HOST_STAT_LINK_UP true 0
def s_ringDumps_4 : State := run |> S F.GLB_BOOT_STAT_STAGE 7 0 |> OnTwin (fun w => { w with active := some .a })
    |> S F.TB_ROLE_ROLE 5 0 |> S F.PWR_STAT_FAST 2 0
    |> OnRing (fun g => { g with hostDue := true, telDue := true, latest := some (⟨10, 0, 5, 9, 1, [(7, 5)], []⟩ : Snapshot), dest := { base := 0, entries := 16, moved := none, telCfg := BitVec.ofNat 32 0, telHi := 1, telLo := 2 } })
    |> S F.RING_HOST_HEAD_HEAD 0 0 |> D (fun d => { d with latches := [(5, 0), (3100, 4), (5, 1), (60, 2 ^ 31)] })
    |> S F.RING_HOST_TAIL_TAIL 0 0 |> B F.GLB_HOST_STAT_BME true 0 |> B F.GLB_HOST_STAT_LINK_UP true 0
def s_ringDumps_5 : State := run |> S F.GLB_BOOT_STAT_STAGE 7 0 |> OnTwin (fun w => { w with active := some .a })
    |> S F.TB_ROLE_ROLE 5 0 |> S F.PWR_STAT_FAST 2 0
    |> OnRing (fun g => { g with hostDue := true, telDue := true, latest := some (⟨10, 0, 5, 9, 1, [(7, 5)], []⟩ : Snapshot), dest := { base := 0, entries := 16, moved := none, telCfg := BitVec.ofNat 32 0, telHi := 1, telLo := 2 } })
    |> S F.RING_HOST_HEAD_HEAD 0 0 |> D (fun d => { d with latches := [(5, 0), (3100, 4), (5, 1), (60, 2 ^ 31)] })
    |> S F.RING_HOST_TAIL_TAIL 0 0 |> B F.GLB_HOST_STAT_LINK_UP true 0
def s_ringDumps_6 : State := run |> S F.GLB_BOOT_STAT_STAGE 7 0 |> OnTwin (fun w => { w with active := some .a })
    |> S F.TB_ROLE_ROLE 5 0 |> S F.PWR_STAT_FAST 2 0
    |> OnRing (fun g => { g with hostDue := true, telDue := true, latest := some (⟨10, 0, 5, 9, 1, [(7, 5)], []⟩ : Snapshot), dest := { base := 0, entries := 16, moved := none, telCfg := BitVec.ofNat 32 0, telHi := 1, telLo := 2 } })
    |> S F.RING_HOST_HEAD_HEAD 0 0 |> D (fun d => { d with latches := [(5, 0), (3100, 4), (5, 1), (60, 2 ^ 31)] })
    |> (fun s => s |> B F.LANE_QUAD_STAT_LINK_UP false (s.dev.telGet F.RING_TEL_CFG_TEL_PORT))
def s_ringDumps_7 : State := run |> S F.GLB_BOOT_STAT_STAGE 7 0 |> OnTwin (fun w => { w with active := some .a })
    |> S F.TB_ROLE_ROLE 5 0 |> S F.PWR_STAT_FAST 2 0
    |> OnRing (fun g => { g with hostDue := true, telDue := true, latest := some (⟨10, 0, 5, 9, 1, [(7, 5)], []⟩ : Snapshot), dest := { base := 0, entries := 16, moved := none, telCfg := BitVec.ofNat 32 0, telHi := 1, telLo := 2 } })
    |> S F.RING_HOST_HEAD_HEAD 0 0 |> D (fun d => { d with latches := [(5, 0), (3100, 4), (5, 1), (60, 2 ^ 31)] })
    |> (fun s => s |> B F.LANE_QUAD_STAT_LINK_UP true (s.dev.telGet F.RING_TEL_CFG_TEL_PORT)
    |> S F.LANE_QUAD_CFG_MODE 1 (s.dev.telGet F.RING_TEL_CFG_TEL_PORT))
def s_ringDumps_8 : State := run |> S F.GLB_BOOT_STAT_STAGE 7 0 |> OnTwin (fun w => { w with active := some .a })
    |> S F.TB_ROLE_ROLE 5 0 |> S F.PWR_STAT_FAST 2 0
    |> OnRing (fun g => { g with hostDue := true, telDue := true, latest := some (⟨10, 0, 5, 9, 1, [(7, 5)], []⟩ : Snapshot), dest := { base := 0, entries := 16, moved := none, telCfg := BitVec.ofNat 32 0, telHi := 1, telLo := 2 } })
    |> S F.RING_HOST_HEAD_HEAD 0 0 |> D (fun d => { d with latches := [(5, 0), (3100, 4), (5, 1), (60, 2 ^ 31)] })
    |> S F.RING_AREA_ADDR_ADDR 0 0
    |> OnRing (fun g => { g with area := [(0, (⟨10, 0, 5, 9, 1, [(7, 5)], []⟩ : Snapshot))] })
/-- Each clause of `RingDumps` has a state and operands that meet its hypotheses. -/
theorem test_ringDumps_hypotheses :
    (∃ (s : State), s.dev.anyActive = true ∧ s.dev.fastOn = true) ∧
    (∃ (s : State), s.dev.anyActive = true ∧ s.dev.fastOn = false) ∧
    (∃ (s : State) (x : Snapshot) (n : Nat) (g : Nat) (l : Nat), s.dev.ring.hostDue = true ∧ s.dev.ring.latest = some x ∧
      s.dev.ring.dest.entries = n ∧ s.dev.ring.dest.moved = some (g, l) ∧ (g + 1) % n ≠ l % n ∧
      s.dev.flag F.GLB_HOST_STAT_BME = true ∧ s.dev.flag F.GLB_HOST_STAT_LINK_UP = true) ∧
    (∃ (s : State) (x : Snapshot) (n : Nat) (h : Nat), s.dev.ring.hostDue = true ∧ s.dev.ring.latest = some x ∧
      s.dev.ring.dest.entries = n ∧ s.dev.ring.dest.moved = none ∧ s.dev.get F.RING_HOST_HEAD_HEAD = h ∧ 0 < n ∧ n ≤ 4096 ∧
      (h + 1) % n ≠ s.dev.get F.RING_HOST_TAIL_TAIL % n ∧ s.dev.flag F.GLB_HOST_STAT_BME = true ∧
      s.dev.flag F.GLB_HOST_STAT_LINK_UP = true) ∧
    (∃ (s : State) (x : Snapshot) (n : Nat) (h : Nat), s.dev.ring.hostDue = true ∧ s.dev.ring.latest = some x ∧
      s.dev.ring.dest.entries = n ∧ s.dev.ring.dest.moved = none ∧ s.dev.get F.RING_HOST_HEAD_HEAD = h ∧
      ((h + 1) % n = s.dev.get F.RING_HOST_TAIL_TAIL % n ∨ s.dev.flag F.GLB_HOST_STAT_BME = false ∨ s.dev.flag F.GLB_HOST_STAT_LINK_UP = false)) ∧
    (∃ (s : State) (x : Snapshot), s.dev.ring.telDue = true ∧ s.dev.ring.latest = some x ∧
      s.dev.portUp (s.dev.telGet F.RING_TEL_CFG_TEL_PORT) = false) ∧
    (∃ (s : State) (x : Snapshot), s.dev.ring.telDue = true ∧ s.dev.ring.latest = some x ∧
      s.dev.portUp (s.dev.telGet F.RING_TEL_CFG_TEL_PORT) = true ∧
      s.dev.hasPort (s.dev.telGet F.RING_TEL_CFG_TEL_PORT) = true ∧
      s.dev.bounded (s.dev.telGet F.RING_TEL_CFG_TEL_PORT) (s.dev.telGet F.RING_TEL_CFG_TEL_TC) = false) ∧
    (∃ (s : State) (a : Nat), s.dev.fastReach = true ∧ (hostIdle s.dev = true ∨ s.dev.pcie.ready = false) ∧
      s.dev.get F.RING_AREA_ADDR_ADDR = a ∧ a % 4 = 0 ∧ a + 4 < 2 ^ 21) :=
  ⟨⟨s_ringDumps_1, by decide +kernel⟩,
   ⟨s_ringDumps_2, by decide +kernel⟩,
   ⟨s_ringDumps_3, (⟨10, 0, 5, 9, 1, [(7, 5)], []⟩ : Snapshot), s_ringDumps_3.dev.ring.dest.entries, 0, (5 % 16), by decide +kernel⟩,
   ⟨s_ringDumps_4, (⟨10, 0, 5, 9, 1, [(7, 5)], []⟩ : Snapshot), s_ringDumps_4.dev.ring.dest.entries, (s_ringDumps_4.dev.get F.RING_HOST_HEAD_HEAD), by decide +kernel⟩,
   ⟨s_ringDumps_5, (⟨10, 0, 5, 9, 1, [(7, 5)], []⟩ : Snapshot), s_ringDumps_5.dev.ring.dest.entries, (s_ringDumps_5.dev.get F.RING_HOST_HEAD_HEAD), by decide +kernel⟩,
   ⟨s_ringDumps_6, (⟨10, 0, 5, 9, 1, [(7, 5)], []⟩ : Snapshot), by decide +kernel⟩,
   ⟨s_ringDumps_7, (⟨10, 0, 5, 9, 1, [(7, 5)], []⟩ : Snapshot), by decide +kernel⟩,
   ⟨s_ringDumps_8, (s_ringDumps_8.dev.get F.RING_AREA_ADDR_ADDR), by decide +kernel⟩⟩

/-- Each clause of `QueueOfCommands` has a state and operands that meet its hypotheses. -/
theorem test_queueOfCommands_hypotheses :
    (∃ (s : State) (c : Instr) (rest : List Instr), s.pending = c :: rest) ∧
    (∃ (s : State) (c : Instr) (t : State), exec c s = .next t) ∧
    (∃ (s : State), s.pending = []) :=
  ⟨⟨{ run with pending := [.romStage] }, .romStage, [], rfl⟩,
   ⟨run, .romStage, _, rfl⟩,
   ⟨run, by decide +kernel⟩⟩

/-- Each clause of `FlashKeepsItsForm` has a state and operands that meet its hypotheses. -/
theorem test_flashKeepsItsForm_hypotheses :
    ∃ (s t : State), Memory.wf s.flash = true ∧ step s = .next t :=
  ⟨State.reset, _, by decide, rfl⟩

/-- Each clause of `CaptureLayout` has a state and operands that meet its hypotheses. -/
theorem test_captureLayout_hypotheses :
    ∃ (d : Dev) (v : BitVec 128) (code port : Nat), d.pcie.latch = some (v, code, port) :=
  ⟨(run |> OnPcie (fun p => { p with latch := some (5, 1, 0) })).dev, 5, 1, 0, rfl⟩

def s_sharedTimebaseRegisters_1 : State := run |> S F.GLB_BOOT_STAT_STAGE 7 0
    |> S F.TB_ROLE_ROLE 5 (if 0 % 2 = 0 then TbId.a else TbId.b).num
    |> S F.TB_ROLE_ROLE 0 (if 0 % 2 = 0 then TbId.a else TbId.b).other.num
    |> OnTwin (fun w => { w with active := some (if 0 % 2 = 0 then TbId.a else TbId.b) }) |> B F.TB_HB_STAT_FROZEN false 0
    |> S F.TB_TCMD_ACCEPT_JUMP 0 0 |> S F.TB_TCMD_ACCEPT_JUMP 0 1 |> S F.TB_TCMD_TIME_SET 0 0 |> S F.TB_TCMD_TIME_SET 0 1
    |> OnPcie (fun p => { p with indQueue := [⟨1, (((Reg.TB_JUMP_CFG))).spec.base, BitVec.ofNat 32 0⟩], waiting := [], held := none })
def s_sharedTimebaseRegisters_2 : State := run |> S F.GLB_BOOT_STAT_STAGE 7 0
    |> S F.TB_ROLE_ROLE 5 (if 0 % 2 = 0 then TbId.a else TbId.b).num
    |> S F.TB_ROLE_ROLE 0 (if 0 % 2 = 0 then TbId.a else TbId.b).other.num
    |> OnTwin (fun w => { w with active := some (if 0 % 2 = 0 then TbId.a else TbId.b) }) |> B F.TB_HB_STAT_FROZEN false 0
    |> S F.TB_TCMD_ACCEPT_JUMP 0 0 |> S F.TB_TCMD_ACCEPT_JUMP 0 1 |> S F.TB_TCMD_TIME_SET 0 0 |> S F.TB_TCMD_TIME_SET 0 1
def s_sharedTimebaseRegisters_3 : State := run |> S F.GLB_BOOT_STAT_STAGE 7 0
    |> S F.TB_ROLE_ROLE 5 (if 0 % 2 = 0 then TbId.a else TbId.b).num
    |> S F.TB_ROLE_ROLE 0 (if 0 % 2 = 0 then TbId.a else TbId.b).other.num
    |> OnTwin (fun w => { w with active := some (if 0 % 2 = 0 then TbId.a else TbId.b) }) |> B F.TB_HB_STAT_FROZEN false 0
    |> S F.TB_TCMD_ACCEPT_JUMP 0 0 |> S F.TB_TCMD_ACCEPT_JUMP 0 1 |> S F.TB_TCMD_TIME_SET 0 0 |> S F.TB_TCMD_TIME_SET 0 1
    |> OnTwin (fun w => { w with active := some (if 0 % 2 = 0 then TbId.a else TbId.b).other })
/-- Each clause of `SharedTimebaseRegisters` has a state and operands that meet its hypotheses. -/
theorem test_sharedTimebaseRegisters_hypotheses :
    (∃ (s : State) (v : Word) (sp : Nat) (a : Nat) (u : Nat) (r : _), r ∈ [Reg.TB_JUMP_CFG, .TB_SLEW_CFG, .TB_LOCK_CFG, .TB_HOLD_LIMIT, .TB_UTC_CFG] ∧
      indRegAt sp a = some (r, u) ∧ s.dev.pcie.indQueue = [⟨sp, a, v⟩] ∧ s.dev.pcie.waiting = [] ∧ s.dev.pcie.held = none ∧
      s.dev.indFault sp a true = none ∧ s.dev.reaches false r = true) ∧
    (∃ (s : State) (t : TbId) (c : _), s.dev.firnReach = true ∧ s.dev.twin.active = some t ∧ s.dev.suspect = none ∧
      s.dev.tcmdWaiting = 0 ∧ c ∈ [Instr.acceptJump t, .timeSet t]) ∧
    (∃ (s : State) (t : TbId) (c : _), s.dev.firnReach = true ∧ s.dev.twin.active ≠ some t ∧
      c ∈ [Instr.acceptJump t, .timeSet t]) :=
  ⟨⟨s_sharedTimebaseRegisters_1, 0, 1, ((Reg.TB_JUMP_CFG)).spec.base, 0, ((Reg.TB_JUMP_CFG)), by decide +kernel⟩,
   ⟨s_sharedTimebaseRegisters_2, (if 0 % 2 = 0 then TbId.a else TbId.b), (Instr.acceptJump (if 0 % 2 = 0 then TbId.a else TbId.b)), by decide +kernel⟩,
   ⟨s_sharedTimebaseRegisters_3, (if 0 % 2 = 0 then TbId.a else TbId.b), (Instr.acceptJump (if 0 % 2 = 0 then TbId.a else TbId.b)), by decide +kernel⟩⟩

def s_firstTimebase_1 : State := run |> S F.GLB_BOOT_STAT_STAGE 7 0 |> S F.PWR_STAT_FAST 0 0 |> S F.GLB_BOOT_STAT_STAGE 4 0
    |> OnTwin (fun w => { w with active := none }) |> S F.TB_ROLE_ROLE 1 0 |> S F.TB_ROLE_ROLE 1 1
    |> OnTb .a (fun t => { t with warm := false }) |> OnTb .b (fun t => { t with warm := false })
def s_firstTimebase_4 : State := run |> S F.GLB_BOOT_STAT_STAGE 7 0 |> S F.PWR_STAT_FAST 0 0 |> S F.GLB_BOOT_STAT_STAGE 4 0
    |> OnTwin (fun w => { w with active := some (if 0 % 2 = 0 then TbId.a else TbId.b).other })
    |> S F.TB_ROLE_ROLE 5 (if 0 % 2 = 0 then TbId.a else TbId.b).other.num
    |> S F.TB_ROLE_ROLE 1 (if 0 % 2 = 0 then TbId.a else TbId.b).num
/-- Each clause of `FirstTimebase` has a state and operands that meet its hypotheses. -/
theorem test_firstTimebase_hypotheses :
    (∃ (s : State), 4 ≤ s.dev.stage ∧ s.dev.stage ≠ 8 ∧ s.dev.alarmOn .tbNone = false ∧ s.dev.twin.active = none ∧
      s.dev.role .a = 1 ∧ s.dev.role .b = 1 ∧ s.dev.tbA.warm = false ∧ s.dev.tbB.warm = false) ∧
    (∃ (s : State) (t : TbId), 4 ≤ s.dev.stage ∧ s.dev.stage ≠ 8 ∧ s.dev.alarmOn .tbNone = false ∧
      s.dev.twin.active = some t.other ∧ s.dev.role t.other = 5 ∧ s.dev.role t = 1) :=
  ⟨⟨s_firstTimebase_1, by decide +kernel⟩,
   ⟨s_firstTimebase_4, (if 0 % 2 = 0 then TbId.a else TbId.b), by decide +kernel⟩⟩

def s_lossOfTheHost_1 : State := run |> S F.GLB_BOOT_STAT_STAGE 7 0
    |> OnPcie (fun p => { p with ready := true, indQueue := [], waiting := [], held := none })
    |> OnSys (fun y => { y with powered := true }) |> OnChan 1 0 (fun c => { c with st := 2, msg := [1, 2] })
    |> OnSys (fun y => { y with perst := false })
/-- Each clause of `LossOfTheHost` has a state and operands that meet its hypotheses. -/
theorem test_lossOfTheHost_hypotheses :
    ∃ (s : State) (c : HostResetCause), c ≠ .flr ∧ s.dev.sys.powered = true ∧ ((c = .perst → s.dev.sys.perst = false)) ∧
      ((c ≠ .perst → s.dev.pcie.ready = true)) :=
  ⟨s_lossOfTheHost_1, (HostResetCause.perst), by decide +kernel⟩

def s_plainRegisterWrites_1 : State := run |> S F.GLB_BOOT_STAT_STAGE 7 0
    |> OnPcie (fun p => { p with ready := true, indQueue := [], waiting := [], held := none })
def s_plainRegisterWrites_2 : State := run |> S F.GLB_BOOT_STAT_STAGE 7 0
    |> OnPcie (fun p => { p with ready := true, indQueue := [], waiting := [], held := none }) |> S F.PWR_STAT_FAST 0 0
/-- Each clause of `PlainRegisterWrites` has a state and operands that meet its hypotheses. -/
theorem test_plainRegisterWrites_hypotheses :
    (∃ (s : State) (w : BusWrite) (r : Reg) (u : Nat), w.party = .host ∧ s.dev.pcie.ready = true ∧
      s.dev.pcie.indQueue.length < 64 ∧ s.dev.pcie.waiting = [] ∧ s.dev.pcie.held = none ∧ w.bar = 0 ∧ w.size = 4 ∧
      w.offset % 4 = 0 ∧ regAt .bar0 w.offset = some (r, u) ∧
      r ∈ [Reg.RING_CTRL, .RING_TEL_CFG, .RING_TEL_DA_HI, .RING_TEL_DA_LO, .RING_HOST_TAIL, .CNT_IDX, .ALM_ENABLE, .ALM_ROUTE, .ALM_REEN_IDX, .UPD_CFG, .UPD_ERASE_ADDR, .PWR_SLEEP_CFG, .PWR_GATE_HOLD, .SW_CFG, .SW_PORT_CFG, .SW_PCP_MAP] ∧
      s.dev.reaches false r = true ∧ s.dev.absent r u = false) ∧
    (∃ (s : State) (w : BusWrite) (r : Reg) (u : Nat), w.party = .host ∧ s.dev.pcie.ready = true ∧
      s.dev.pcie.indQueue.length < 64 ∧ s.dev.pcie.waiting = [] ∧ s.dev.pcie.held = none ∧ w.bar = 0 ∧ w.size = 4 ∧
      w.offset % 4 = 0 ∧ regAt .bar0 w.offset = some (r, u) ∧ (s.dev.reaches false r = false ∨ s.dev.absent r u = true)) :=
  ⟨⟨s_plainRegisterWrites_1, (⟨.host, 0, ((Reg.ALM_ENABLE)).spec.base, 4, BitVec.ofNat 64 0⟩ : BusWrite), ((Reg.ALM_ENABLE)), 0, by decide +kernel⟩,
   ⟨s_plainRegisterWrites_2, (⟨.host, 0, 0x400000, 4, BitVec.ofNat 64 0⟩ : BusWrite), (Reg.SW_CFG), 0, by decide +kernel⟩⟩

def s_framesOfFlashCommands_4 : State := run
    |> OnSys (fun y => if 0 % 3 = 0 then y else { y with updStep := 0, updBack := 0 == 0, cfgRun := if 0 % 2 = 0 then none else some 0, eraseAt := if 0 % 3 = 0 then some 0x1A00000 else none, progPage := if 0 % 3 = 0 then some (0x1A000, [(4, 5)]) else none, page := if 0 % 2 = 0 then some (0x1A000, [(4, 5)]) else none, cpStopped := 0 == 0, smcStopped := 0 == 0 })
    |> S F.UPD_CMD_RESULT 0 0 |> S F.UPD_CFG_SLOT 0 0 |> S F.UPD_CFG_MODE 0 0 |> S F.GLB_BOOT_STAT_STAGE 0 0
    |> B F.UPD_STAT_NVM_BUSY true 0
    |> (fun s => if 0 % 2 = 0 then s else { s with flash := hdrWrite s.flash { (hdrNow s.flash) with state := 0, mode := 0 } })
    |> S F.UPD_STAT_STEP 0 0 |> S F.UPD_CFG_MODE 0 0
def s_framesOfFlashCommands_9 : State := run
    |> OnSys (fun y => if 0 % 3 = 0 then y else { y with updStep := 0, updBack := 0 == 0, cfgRun := if 0 % 2 = 0 then none else some 0, eraseAt := if 0 % 3 = 0 then some 0x1A00000 else none, progPage := if 0 % 3 = 0 then some (0x1A000, [(4, 5)]) else none, page := if 0 % 2 = 0 then some (0x1A000, [(4, 5)]) else none, cpStopped := 0 == 0, smcStopped := 0 == 0 })
    |> S F.UPD_CMD_RESULT 0 0 |> S F.UPD_CFG_SLOT 0 0 |> S F.UPD_CFG_MODE 0 0 |> S F.GLB_BOOT_STAT_STAGE 0 0
    |> B F.UPD_STAT_NVM_BUSY true 0
    |> (fun s => if 0 % 2 = 0 then s else { s with flash := hdrWrite s.flash { (hdrNow s.flash) with state := 0, mode := 0 } })
    |> S F.UPD_STAT_STEP 0 0 |> (fun s => { s with flash := hdrWrite s.flash { (hdrNow s.flash) with state := 0 } })
def s_framesOfFlashCommands_11 : State := run
    |> OnSys (fun y => if 0 % 3 = 0 then y else { y with updStep := 0, updBack := 0 == 0, cfgRun := if 0 % 2 = 0 then none else some 0, eraseAt := if 0 % 3 = 0 then some 0x1A00000 else none, progPage := if 0 % 3 = 0 then some (0x1A000, [(4, 5)]) else none, page := if 0 % 2 = 0 then some (0x1A000, [(4, 5)]) else none, cpStopped := 0 == 0, smcStopped := 0 == 0 })
    |> S F.UPD_CMD_RESULT 0 0 |> S F.UPD_CFG_SLOT 0 0 |> S F.UPD_CFG_MODE 0 0 |> S F.GLB_BOOT_STAT_STAGE 0 0
    |> B F.UPD_STAT_NVM_BUSY true 0
    |> (fun s => if 0 % 2 = 0 then s else { s with flash := hdrWrite s.flash { (hdrNow s.flash) with state := 0, mode := 0 } })
    |> S F.UPD_STAT_STEP 0 0 |> OnPcie (fun p => { p with indQueue := [], waiting := [], held := none })
def s_framesOfFlashCommands_12 : State := run
    |> OnSys (fun y => if 0 % 3 = 0 then y else { y with updStep := 0, updBack := 0 == 0, cfgRun := if 0 % 2 = 0 then none else some 0, eraseAt := if 0 % 3 = 0 then some 0x1A00000 else none, progPage := if 0 % 3 = 0 then some (0x1A000, [(4, 5)]) else none, page := if 0 % 2 = 0 then some (0x1A000, [(4, 5)]) else none, cpStopped := 0 == 0, smcStopped := 0 == 0 })
    |> S F.UPD_CMD_RESULT 0 0 |> S F.UPD_CFG_SLOT 0 0 |> S F.UPD_CFG_MODE 0 0 |> S F.GLB_BOOT_STAT_STAGE 0 0
    |> B F.UPD_STAT_NVM_BUSY true 0
    |> (fun s => if 0 % 2 = 0 then s else { s with flash := hdrWrite s.flash { (hdrNow s.flash) with state := 0, mode := 0 } })
    |> S F.UPD_STAT_STEP 0 0 |> OnPcie (fun p => { p with indQueue := [], waiting := [], held := none })
    |> OnSys (fun y => { y with smbWrite := none, smbRead := none })
def s_framesOfFlashCommands_13 : State := run
    |> OnSys (fun y => if 0 % 3 = 0 then y else { y with updStep := 0, updBack := 0 == 0, cfgRun := if 0 % 2 = 0 then none else some 0, eraseAt := if 0 % 3 = 0 then some 0x1A00000 else none, progPage := if 0 % 3 = 0 then some (0x1A000, [(4, 5)]) else none, page := if 0 % 2 = 0 then some (0x1A000, [(4, 5)]) else none, cpStopped := 0 == 0, smcStopped := 0 == 0 })
    |> S F.UPD_CMD_RESULT 0 0 |> S F.UPD_CFG_SLOT 0 0 |> S F.UPD_CFG_MODE 0 0 |> S F.GLB_BOOT_STAT_STAGE 0 0
    |> B F.UPD_STAT_NVM_BUSY true 0
    |> (fun s => if 0 % 2 = 0 then s else { s with flash := hdrWrite s.flash { (hdrNow s.flash) with state := 0, mode := 0 } })
    |> S F.UPD_STAT_STEP 0 0 |> OnPcie (fun p => { p with indQueue := [], waiting := [], held := none })
    |> OnSys (fun y => { y with smbWrite := none, smbRead := none })
    |> (fun s => { s with flash := [(0x19FFFFF, 5), (0x1A00000, 6), (0x1A00004, 7), (0x1A0FFFF, 3), (0x1A10000, 8)] })
def s_framesOfFlashCommands_15 : State := run
    |> OnSys (fun y => if 0 % 3 = 0 then y else { y with updStep := 0, updBack := 0 == 0, cfgRun := if 0 % 2 = 0 then none else some 0, eraseAt := if 0 % 3 = 0 then some 0x1A00000 else none, progPage := if 0 % 3 = 0 then some (0x1A000, [(4, 5)]) else none, page := if 0 % 2 = 0 then some (0x1A000, [(4, 5)]) else none, cpStopped := 0 == 0, smcStopped := 0 == 0 })
    |> S F.UPD_CMD_RESULT 0 0 |> S F.UPD_CFG_SLOT 0 0 |> S F.UPD_CFG_MODE 0 0 |> S F.GLB_BOOT_STAT_STAGE 0 0
    |> B F.UPD_STAT_NVM_BUSY true 0
    |> (fun s => if 0 % 2 = 0 then s else { s with flash := hdrWrite s.flash { (hdrNow s.flash) with state := 0, mode := 0 } })
    |> S F.UPD_STAT_STEP 0 0
def s_framesOfFlashCommands_17 : State := run
    |> OnSys (fun y => if 0 % 3 = 0 then y else { y with updStep := 0, updBack := 0 == 0, cfgRun := if 0 % 2 = 0 then none else some 0, eraseAt := if 0 % 3 = 0 then some 0x1A00000 else none, progPage := if 0 % 3 = 0 then some (0x1A000, [(4, 5)]) else none, page := if 0 % 2 = 0 then some (0x1A000, [(4, 5)]) else none, cpStopped := 0 == 0, smcStopped := 0 == 0 })
    |> S F.UPD_CMD_RESULT 0 0 |> S F.UPD_CFG_SLOT 0 0 |> S F.UPD_CFG_MODE 0 0 |> S F.GLB_BOOT_STAT_STAGE 0 0
    |> B F.UPD_STAT_NVM_BUSY true 0
    |> (fun s => if 0 % 2 = 0 then s else { s with flash := hdrWrite s.flash { (hdrNow s.flash) with state := 0, mode := 0 } })
    |> S F.UPD_STAT_STEP 0 0 |> OnSys (fun y => { y with eraseAt := none, progPage := none })
def s_framesOfFlashCommands_24 : State := run
    |> OnSys (fun y => if 0 % 3 = 0 then y else { y with updStep := 0, updBack := 0 == 0, cfgRun := if 0 % 2 = 0 then none else some 0, eraseAt := if 0 % 3 = 0 then some 0x1A00000 else none, progPage := if 0 % 3 = 0 then some (0x1A000, [(4, 5)]) else none, page := if 0 % 2 = 0 then some (0x1A000, [(4, 5)]) else none, cpStopped := 0 == 0, smcStopped := 0 == 0 })
    |> S F.UPD_CMD_RESULT 0 0 |> S F.UPD_CFG_SLOT 0 0 |> S F.UPD_CFG_MODE 0 0 |> S F.GLB_BOOT_STAT_STAGE 0 0
    |> B F.UPD_STAT_NVM_BUSY true 0
    |> (fun s => if 0 % 2 = 0 then s else { s with flash := hdrWrite s.flash { (hdrNow s.flash) with state := 0, mode := 0 } })
    |> S F.UPD_STAT_STEP 0 0 |> OnSys (fun y => { y with updStep := 0 })
/-- Each clause of `FramesOfFlashCommands` has a state and operands that meet its hypotheses. -/
theorem test_framesOfFlashCommands_hypotheses :
    (∃ (s : State), s.dev.flag F.UPD_CFG_MODE = false) ∧
    (∃ (s : State), s.onTrial = false) ∧
    (∃ (s : State) (c : _), s.onTrial = false ∧ c ∈ [WatchedCpu.tbpA, .tbpB]) ∧
    (∃ (s : State), s.dev.pcie.indQueue = [] ∧ s.dev.pcie.waiting = [] ∧ s.dev.pcie.held = none) ∧
    (∃ (s : State) (c : _), s.dev.pcie.indQueue = [] ∧ s.dev.pcie.waiting = [] ∧ s.dev.pcie.held = none ∧
      s.dev.sys.smbWrite = none ∧ s.dev.sys.smbRead = none ∧ c ∈ [Instr.nvmEraseDone, .nvmProgramDone]) ∧
    (∃ (s : State) (c : _), s.dev.pcie.indQueue = [] ∧ s.dev.pcie.waiting = [] ∧ s.dev.pcie.held = none ∧
      s.dev.sys.smbWrite = none ∧ s.dev.sys.smbRead = none ∧ c ∈ [Instr.nvmEraseDone, .nvmProgramDone]) ∧
    (∃ (s : State) (k : Nat), k = (match hdrCopy s.flash with | some 0 => 1 | _ => 0)) ∧
    (∃ (s : State) (k : Nat), k = (match hdrCopy s.flash with | some 0 => 1 | _ => 0) ∧ s.dev.flag F.UPD_CFG_MODE = false) ∧
    (∃ (s : State), s.dev.sys.eraseAt = none ∧ s.dev.sys.progPage = none) ∧
    (∃ (s : State) (c : _), c ∈ [Instr.moduleRemoval, .thermalTrip] ∧ s.dev.sys.eraseAt = none ∧ s.dev.sys.progPage = none) ∧
    (∃ (s : State), s.dev.sys.powered = true ∧ s.dev.sys.eraseAt = none ∧ s.dev.sys.progPage = none) ∧
    (∃ (s : State) (key : Byte) (c : _), s.onTrial = false ∧
      c ∈ [Instr.configStage, .cfgReload, .fastStart, .fastDomainOn, .glbResetFast key, .glbResetCp key, .glbResetSmc key, .processorWatchdog .cp, .processorWatchdog .smc]) ∧
    (∃ (s : State), s.dev.sys.updStep ∉ [2, 3, 7] ∧ ((s.dev.sys.updStep = 5 → s.imageGood s.bundleSlot 1 = true))) :=
  ⟨⟨s_framesOfFlashCommands_4, by decide +kernel⟩,
   ⟨s_framesOfFlashCommands_9, by decide +kernel⟩,
   ⟨s_framesOfFlashCommands_9, (WatchedCpu.tbpA), by decide +kernel⟩,
   ⟨s_framesOfFlashCommands_11, by decide +kernel⟩,
   ⟨s_framesOfFlashCommands_12, (Instr.nvmEraseDone), by decide +kernel⟩,
   ⟨s_framesOfFlashCommands_13, (Instr.nvmEraseDone), by decide +kernel⟩,
   ⟨s_framesOfFlashCommands_15, (match hdrCopy s_framesOfFlashCommands_15.flash with | some 0 => 1 | _ => 0), by decide +kernel⟩,
   ⟨s_framesOfFlashCommands_4, (match hdrCopy s_framesOfFlashCommands_4.flash with | some 0 => 1 | _ => 0), by decide +kernel⟩,
   ⟨s_framesOfFlashCommands_17, by decide +kernel⟩,
   ⟨s_framesOfFlashCommands_17, (Instr.moduleRemoval), by decide +kernel⟩,
   ⟨s_framesOfFlashCommands_17, by decide +kernel⟩,
   ⟨s_framesOfFlashCommands_9, 0, (Instr.configStage), by decide +kernel⟩,
   ⟨s_framesOfFlashCommands_24, by decide +kernel⟩⟩

end Sys2Proof.Tests
end

/-! SUPPORT. Laws of the reports that the loss of the host rests on: which words they leave, and when an alarm holds. -/

namespace Sys2Proof.Laws

open Sys2Proof.Machine Sys2Proof.Safety

/-- An operation that leaves the word of an alarm's ACTIVE bit leaves whether the alarm holds. -/
theorem alarmOn_of_word {d e : Dev} (a : Alarm) (h : ∀ u, e.word .ALM_ACTIVE u = d.word .ALM_ACTIVE u) :
    e.alarmOn a = d.alarmOn a := by
  simp only [Dev.alarmOn, Dev.flag, Dev.get, bitFld, h]

@[simp] theorem countAt_word (d : Dev) (firn : Bool) (i n : Nat) (r : Reg) (u : Nat) :
    (d.countAt firn i n).word r u = d.word r u := by
  unfold Dev.countAt
  split
  · rfl
  · split
    · exact (only_bump d i n 256).word r u List.not_mem_nil
    · rfl

@[simp] theorem countDev_word (d : Dev) (j n : Nat) (r : Reg) (u : Nat) : (d.countDev j n).word r u = d.word r u :=
  countAt_word d _ _ _ r u

@[simp] theorem msix_word (d : Dev) (v : Nat) (r : Reg) (u : Nat) : (d.msix v).word r u = d.word r u := by
  unfold Dev.msix
  split
  · rfl
  · split
    · rfl
    · split <;> rfl

@[simp] theorem sendGroup_word (d : Dev) (g : Nat) (r : Reg) (u : Nat) : (d.sendGroup g).word r u = d.word r u :=
  when_keeps d (·.word r u) _ _ (msix_word d _ r u)

/-- Latching an alarm changes no register but ALM_LATCH. -/
theorem latch_word (d : Dev) (b : Nat) {r : Reg} (u : Nat) (hr : r ≠ .ALM_LATCH) : (d.latch b).word r u = d.word r u := by
  unfold Dev.latch
  split
  · rfl
  · exact (when_keeps _ (·.word r u) _ _ (sendGroup_word _ _ r u)).trans (word_set_other d _ _ _ r u (fun e => hr e.1))

/-- A condition alarm that is set holds (R398). -/
@[simp] theorem alarmOn_cond_true (d : Dev) (a : Alarm) : (d.cond a true).alarmOn a = true := by
  have hfit : (bitFld .ALM_ACTIVE a.bit).lo + (bitFld .ALM_ACTIVE a.bit).width ≤ 32 := by
    simp only [bitFld]; omega
  simp only [Dev.cond, if_true]
  split
  case isTrue hon => exact hon
  case isFalse =>
    rw [alarmOn_of_word a (fun u => latch_word _ _ u (by decide))]
    simp only [Dev.alarmOn, Dev.flag, get_set_same _ _ _ _ hfit]
    rfl

/-- The endpoint but for its pending vectors, which reports may set. -/
def endpointSansPba (d : Dev) : Pcie := { d.pcie with pba := [] }

theorem endpointSansPba_of_report {d e : Dev} (h : Report d e) : endpointSansPba e = endpointSansPba d := by
  obtain ⟨l, hl⟩ := h.pcie
  simp only [endpointSansPba, hl]

end Sys2Proof.Laws

/-! SUPPORT. Laws of the mailbox channels: what a redelivery and the restart of a party do to each channel (R378, R379). -/

namespace Sys2Proof.Laws

open Sys2Proof.Machine Sys2Proof.Safety

theorem report_tellPosted (d : Dev) (src dst : Nat) : Report d (d.tellPosted src dst) := by
  unfold Dev.tellPosted
  split
  · exact report_when d _ _ (report_msix d _)
  · exact report_emit d _

@[simp] theorem tellPosted_word (d : Dev) (src dst : Nat) (r : Reg) (u : Nat) :
    (d.tellPosted src dst).word r u = d.word r u := by
  unfold Dev.tellPosted
  split
  · exact when_keeps d (·.word r u) _ _ (msix_word d _ r u)
  · rfl

/-- Channels between parties 0 to 7 lie apart. -/
theorem chan_onChan (d : Dev) (f : Chan → Chan) {src dst a b : Nat} (hb : b < 8) (hd : dst < 8) :
    (d.onChan src dst f).chan a b = if a = src ∧ b = dst then f (d.chan src dst) else d.chan a b := by
  split
  case isTrue h =>
    obtain ⟨rfl, rfl⟩ := h
    exact onChan_same d a b f
  case isFalse h =>
    exact tabGet_tabSet_other _ _ _ _ (by omega)

/-- What a redelivery does to a channel that is TAKEN (R378). -/
def redelivered (c : Chan) : Chan := { c with st := 1, redeliv := true }

theorem redeliver_chan (d : Dev) {src dst a b : Nat} (hb : b < 8) (hd : dst < 8) :
    (d.redeliver src dst).chan a b =
      if a = src ∧ b = dst ∧ src ≠ dst ∧ (d.chan a b).st = 2 then redelivered (d.chan a b) else d.chan a b := by
  have hreport (x : Dev) : ((x.countDev 309).tellPosted src dst).chan a b = x.chan a b := by
    simp only [Dev.chan, (report_tellPosted _ _ _).chans, countDev_chans]
  unfold Dev.redeliver
  by_cases htaken : src ≠ dst ∧ (d.chan src dst).st = 2
  · rw [if_pos htaken, hreport, chan_onChan d _ hb hd]
    by_cases hab : a = src ∧ b = dst
    · obtain ⟨rfl, rfl⟩ := hab
      simp [htaken, redelivered]
    · rw [if_neg hab, if_neg (fun ⟨ha, hdst, _⟩ => hab ⟨ha, hdst⟩)]
  · rw [if_neg htaken, if_neg]
    rintro ⟨rfl, rfl, h⟩
    exact htaken h

theorem redeliver_word (d : Dev) (src dst : Nat) (r : Reg) (u : Nat) : (d.redeliver src dst).word r u = d.word r u := by
  unfold Dev.redeliver
  split <;> simp

theorem redeliver_endpointSansPba (d : Dev) (src dst : Nat) :
    endpointSansPba (d.redeliver src dst) = endpointSansPba d := by
  unfold Dev.redeliver
  split
  · rw [endpointSansPba_of_report (report_tellPosted _ _ _), endpointSansPba_of_report (report_countDev _ _ _)]
    rfl
  · rfl

/-- Redelivery from the senders below `n`: by induction on `n`, since each sender has a channel of its own. -/
theorem each_redeliver_chan (d : Dev) (n : Nat) {dst a b : Nat} (hb : b < 8) (hd : dst < 8) :
    (d.each (List.range n) (fun d src => d.redeliver src dst)).chan a b =
      if b = dst ∧ a ≠ dst ∧ a < n ∧ (d.chan a b).st = 2 then redelivered (d.chan a b) else d.chan a b := by
  induction n with
  | zero => simp [Dev.each]
  | succ n ih =>
    have hlast : d.each (List.range (n + 1)) (fun d src => d.redeliver src dst) =
        (d.each (List.range n) (fun d src => d.redeliver src dst)).redeliver n dst := by
      simp [Dev.each, List.range_succ]
    rw [hlast, redeliver_chan _ hb hd, ih]
    by_cases han : a = n
    · subst han
      simp [and_comm]
    · have hlt : a < n + 1 ↔ a < n := by omega
      simp [han, hlt]

/-- The host's restart posts again what the host had taken of the other five parties, and nothing else (R379). -/
theorem hostRestart_chan (d : Dev) (a : Nat) {b : Nat} (hb : b < 8) :
    d.hostRestart.chan a b =
      if b = 0 ∧ a ≠ 0 ∧ a < 6 ∧ (d.chan a b).st = 2 then redelivered (d.chan a b) else d.chan a b := by
  unfold Dev.hostRestart Dev.restartParty
  exact each_redeliver_chan d 6 hb (by decide)

theorem hostRestart_word (d : Dev) (r : Reg) (u : Nat) : d.hostRestart.word r u = d.word r u :=
  each_keeps d (·.word r u) _ _ (fun d src _ => redeliver_word d src 0 r u)

theorem hostRestart_endpointSansPba (d : Dev) : endpointSansPba d.hostRestart = endpointSansPba d :=
  each_keeps d endpointSansPba _ _ (fun d src _ => redeliver_endpointSansPba d src 0)

end Sys2Proof.Laws

/-! SUPPORT. The footprint of the link's reset, and what it leaves of the endpoint (R368). -/

namespace Sys2Proof.Safety

open Sys2Proof.Machine Sys2Proof.Laws

variable {P : List Part} {R : List Reg} {d e : Dev}

/-- `Only.each` where only the elements of the list need the footprint. -/
theorem Only.eachMem {α : Type} (h : Only P R d e) (l : List α) (f : Dev → α → Dev) (k : ∀ e, ∀ a ∈ l, Only P R e (f e a)) :
    Only P R d (e.each l f) := by
  induction l generalizing e with
  | nil => exact h
  | cons a l ih => exact ih (h.trans (k e a List.mem_cons_self)) (fun e b hb => k e b (List.mem_cons_of_mem a hb))

/-- The IND and WIDE registers that the link's reset returns to their reset values, in its order. -/
def linkResetRegs : List Reg :=
  [.IND_SPACE, .IND_ADDR, .IND_DATA, .IND_STAT, .IND_ERR_ADDR, .IND_CTRL, .WIDE_SEL, .WIDE_CTRL, .WIDE_STAT]

/-- The host-side registers that the link's reset writes. -/
def hostSideRegs : List Reg := .GLB_HOST_STAT :: linkResetRegs ++ [.WIDE_D]

/-- The endpoint after its reset: as after power-up, but that the link and the heartbeat count stay (R368). -/
def restartedEndpoint (p : Pcie) : Pcie := { Pcie.init with ready := p.ready, hbRuns := p.hbRuns }

/-- The part of the link's reset that every cause has: the endpoint, the IND and WIDE registers, and the host's control
bits in GLB_HOST_STAT (R368). -/
def endpointReset (d : Dev) : Dev :=
  let d := d.countDev 304 (min 64 d.pcie.indQueue.length)
  let d := d.onPcie restartedEndpoint
  let d := d.each linkResetRegs (fun d r => d.setWord r 0 (r.resetWord 0))
  let d := d.each (List.range 4) (fun d i => d.setWord .WIDE_D i 0)
  ((d.hostStat F.GLB_HOST_STAT_BME 0).hostStat F.GLB_HOST_STAT_MSIX_EN 0).hostStat F.GLB_HOST_STAT_D3HOT 0

/-- PERST_N is asserted where it is the cause of the reset. -/
def assertPerst (c : HostResetCause) (d : Dev) : Dev := d.when (c == .perst) (fun d => d.onSys (fun y => { y with perst := true }))

theorem assertPerst_sys (c : HostResetCause) (d : Dev) :
    (assertPerst c d).sys = { d.sys with perst := d.sys.perst || c == .perst } := by
  unfold assertPerst
  by_cases h : c = .perst
  · simp [h]
  · simp [beq_false_of_ne h]

theorem only_assertPerst (c : HostResetCause) (d : Dev) : Only [.sys] [] d (assertPerst c d) :=
  .when .refl _ _ (.onSys .refl _ (by decide))

theorem linkReset_eq (d : Dev) (c : HostResetCause) : d.linkReset c =
    if !d.sys.powered || (c == .perst && d.sys.perst) || (c != .perst && !d.pcie.ready) then d
    else ((assertPerst c (endpointReset d)).when (c != .flr) Dev.linkDown).hostRestart := rfl

/-- A loss of the host that takes effect: the endpoint is reset, PERST_N follows its cause, the link goes down and the
host restarts. -/
theorem linkReset_of_loss {c : HostResetCause} (hc : c ≠ .flr) (hpow : d.sys.powered = true)
    (hperst : c = .perst → d.sys.perst = false) (hready : c ≠ .perst → d.pcie.ready = true) : d.linkReset c =
      (assertPerst c (endpointReset d)).linkDown.hostRestart := by
  rw [linkReset_eq, bne_iff_ne.mpr hc, when_true, if_neg]
  by_cases h : c = .perst
  · simp [hpow, h, hperst h]
  · simp [hpow, h, hready h]

theorem only_endpointReset (d : Dev) : Only reports (alarmRegs ++ hostSideRegs) d (endpointReset d) := by
  refine .hostStat (.hostStat (.hostStat ?registers _ _ ?_ ?_) _ _ ?_ ?_) _ _ ?_ ?_
  case registers =>
    refine .each (.eachMem ?_ _ _ (fun e r hr => .setWord .refl _ _ _ ?_)) _ _ (fun e i => .setWord .refl _ _ _ (by decide))
    · exact .onPcie (.countDev .refl _ _ (by decide)) _ (by decide)
    · revert r; decide
  all_goals decide

/-- Whatever its cause, the link's reset touches the reports, the channels, PERST_N and the host-side registers. -/
theorem onlyReported_linkReset (d : Dev) (c : HostResetCause) : OnlyReported [.chans, .sys] hostSideRegs d (d.linkReset c) := by
  rw [linkReset_eq]
  refine .ite _ .refl (.hostRestart (.when ?_ _ _ ?_) (by decide) (by decide))
  · exact ((only_endpointReset d).weaken (by decide) (by decide)).andThen (only_assertPerst c _) (by decide) (by decide)
  · exact .linkDown .refl (by decide) (by decide)

@[simp] theorem onPcie_pcie (f : Pcie → Pcie) : (d.onPcie f).pcie = f d.pcie := rfl
@[simp] theorem hostStat_pcie (f : Fld) (v : Nat) : (d.hostStat f v).pcie = d.pcie := setMark_pcie d _ _ _ _

theorem each_setWord_pcie {α : Type} (l : List α) (r : α → Reg) (u : α → Nat) (w : α → Word) :
    (d.each l (fun d a => d.setWord (r a) (u a) (w a))).pcie = d.pcie :=
  each_keeps d (·.pcie) l _ (fun _ _ _ => rfl)

theorem endpointReset_pcie (d : Dev) : (endpointReset d).pcie = restartedEndpoint d.pcie := by
  have hcount : restartedEndpoint (d.countDev 304 (min 64 d.pcie.indQueue.length)).pcie = restartedEndpoint d.pcie := by
    obtain ⟨l, hl⟩ := (report_countDev d 304 (min 64 d.pcie.indQueue.length)).pcie
    rw [hl]; rfl
  simp only [endpointReset, hostStat_pcie]
  rw [each_setWord_pcie, each_setWord_pcie, onPcie_pcie, hcount]

/-- The status of the link in GLB_HOST_STAT as it goes down. -/
def linkStatDown (d : Dev) : Dev :=
  let d := ((d.hostStat F.GLB_HOST_STAT_LINK_UP 0).hostStat F.GLB_HOST_STAT_SPEED 0).hostStat F.GLB_HOST_STAT_WIDTH 0
  d.set F.GLB_HOST_STAT_DOWN_COUNT (min 255 (d.get F.GLB_HOST_STAT_DOWN_COUNT + 1))

theorem linkStatDown_pcie (d : Dev) : (linkStatDown d).pcie = d.pcie :=
  (set_pcie _ _ _ _).trans ((hostStat_pcie _ _).trans ((hostStat_pcie _ _).trans (hostStat_pcie _ _)))

theorem linkDown_eq (d : Dev) : d.linkDown =
    (((linkStatDown d).onPcie (fun e => { e with ready := false })).countDev 305).cond .hostLinkDown true := rfl

theorem endpointSansPba_linkDown (d : Dev) : endpointSansPba d.linkDown = { endpointSansPba d with ready := false } := by
  rw [linkDown_eq, endpointSansPba_of_report (report_cond _ _ _), endpointSansPba_of_report (report_countDev _ _ _)]
  simp only [endpointSansPba, onPcie_pcie, linkStatDown_pcie]

theorem alarmOn_linkDown (d : Dev) : d.linkDown.alarmOn .hostLinkDown = true := alarmOn_cond_true _ _

end Sys2Proof.Safety

/-! The statements of 01_architecture.md. -/

namespace Sys2Proof.Proofs

open Sys2Proof.Machine Sys2Proof.Safety Sys2Proof.Laws

/-- Settles O7: the loss is the endpoint's reset, the level of PERST_N, the link going down and the host's restart, and each
clause reads one of the four, which the footprints of the others leave alone. -/
theorem lossOfTheHost : Obligations.LossOfTheHost := by
  intro s c hc hpow hperst hready
  have hloss := linkReset_of_loss hc hpow hperst hready
  have hreset := only_endpointReset s.dev
  have hperstN := only_assertPerst c (endpointReset s.dev)
  have hdown := only_linkDown (assertPerst c (endpointReset s.dev))
  have hend : endpointSansPba (s.dev.linkReset c) = { restartedEndpoint s.dev.pcie with ready := false } := by
    rw [hloss, hostRestart_endpointSansPba, endpointSansPba_linkDown, endpointSansPba, hperstN.part .pcie (by decide),
      endpointReset_pcie]
    rfl
  refine ⟨s.onDev (·.linkReset c), rfl, ?alarm, ?channels, ?system, congrArg Pcie.ready hend, congrArg Pcie.indQueue hend,
    congrArg Pcie.waiting hend, congrArg Pcie.held hend, onlyReported_linkReset s.dev c, rfl, rfl⟩
  case alarm =>
    rw [onDev_dev, hloss, alarmOn_of_word _ (hostRestart_word _ _)]
    exact alarmOn_linkDown _
  case channels =>
    intro a _ b hb
    have hkeep : (assertPerst c (endpointReset s.dev)).linkDown.chan a b = s.dev.chan a b := by
      simp only [Dev.chan]
      rw [hdown.part .chans (by decide), hperstN.part .chans (by decide), hreset.part .chans (by decide)]
    rw [onDev_dev, hloss, hostRestart_chan _ _ hb, hkeep]
    rfl
  case system =>
    rw [onDev_dev, hloss, (only_hostRestart _).part .sys (by decide), hdown.part .sys (by decide), assertPerst_sys,
      hreset.part .sys (by decide)]

end Sys2Proof.Proofs

/-! SUPPORT. Laws of the device time: where a completed capture places its words (R29), the servo configuration that both TB
spaces share, and the commands of TB_TCMD (R49). -/

namespace Sys2Proof.Laws

open Sys2Proof.Machine Sys2Proof.Safety

/-! ## Capture -/

/-- A row of stores to the units of one register. -/
theorem each_setWord_word (d : Dev) (l : List Nat) (r : Reg) (w : Nat → Word) (u : Nat) :
    (d.each l (fun d i => d.setWord r i (w i))).word r u = if u ∈ l then w u else d.word r u := by
  induction l generalizing d with
  | nil => simp [Dev.each]
  | cons i l ih =>
    have hcons : d.each (i :: l) (fun d i => d.setWord r i (w i)) =
        (d.setWord r i (w i)).each l (fun d i => d.setWord r i (w i)) := rfl
    rw [hcons, ih]
    by_cases hu : u = i
    · subst hu
      simp
    · rw [word_setWord_other d _ (fun e => hu e.2)]
      simp [hu]

theorem latchDone_word_wideD {d : Dev} {v : BitVec 128} {code port : Nat} (hlatch : d.pcie.latch = some (v, code, port))
    {i : Nat} (hi : i < 4) : d.latchDone.word .WIDE_D i = (wordsOf v).getD i 0 := by
  have hstat (x : Dev) (f : Fld) (n : Nat) (hf : f.reg = .WIDE_STAT) : (x.set f n).word .WIDE_D i = x.word .WIDE_D i :=
    word_set_other x f n 0 .WIDE_D i (by simp [hf])
  simp only [Dev.latchDone, hlatch, Dev.setB]
  rw [hstat _ _ _ rfl, hstat _ _ _ rfl, hstat _ _ _ rfl, each_setWord_word, if_pos (List.mem_range.mpr hi)]

/-! ## The servo configuration that both TB spaces share -/

/-- The registers of R49 that a write in either TB space changes in both. -/
def sharedServoRegs : List Reg := [.TB_JUMP_CFG, .TB_SLEW_CFG, .TB_LOCK_CFG, .TB_HOLD_LIMIT, .TB_UTC_CFG]

section
variable {r : Reg} (hr : r ∈ sharedServoRegs)
include hr

theorem space_of_sharedServo : r.spec.space = .tb :=
  (by decide : ∀ r ∈ sharedServoRegs, r.spec.space = .tb) r hr

theorem absent_of_sharedServo (d : Dev) (u : Nat) : d.absent r u = false := by
  simp [Dev.absent, space_of_sharedServo hr]

/-- Both TB spaces show the one word that is kept as unit 0. -/
theorem readReg_of_sharedServo (d : Dev) (u : Nat) : d.readReg r u = d.word r 0 := by
  have hkept : d.readReg r u = if d.absent r u then 0 else d.word r 0 := by
    simp only [sharedServoRegs, List.mem_cons, List.not_mem_nil, or_false] at hr
    rcases hr with rfl | rfl | rfl | rfl | rfl <;> rfl
  rw [hkept, absent_of_sharedServo hr, if_neg Bool.false_ne_true]

/-- A write in either space is the store of unit 0; that of TB_LOCK_CFG restarts the lock dwell as well, which is mirrored
state. -/
theorem only_writeReg_of_sharedServo (d : Dev) (u : Nat) (v : Word) :
    Only [.mir, .twin] [.SEQGEN_W0] (d.store r 0 v) (d.writeReg r u v) := by
  simp only [sharedServoRegs, List.mem_cons, List.not_mem_nil, or_false] at hr
  rcases hr with rfl | rfl | rfl | rfl | rfl
  · exact Only.refl
  · exact Only.refl
  · exact only_mirrorBy (d.store .TB_LOCK_CFG 0 v) (fun m => { m with lockMs := 0 })
  · exact Only.refl
  · exact Only.refl

theorem writeReg_word_of_sharedServo (d : Dev) (u : Nat) (v : Word) :
    (d.writeReg r u v).word r 0 = (d.store r 0 v).word r 0 :=
  (only_writeReg_of_sharedServo hr d u v).word r 0
    ((by decide : ∀ r ∈ sharedServoRegs, r ∉ [Reg.SEQGEN_W0]) r hr)

theorem writeReg_pcie_of_sharedServo (d : Dev) (u : Nat) (v : Word) : (d.writeReg r u v).pcie = d.pcie :=
  (only_writeReg_of_sharedServo hr d u v).part .pcie (by decide)

theorem writeSpace_of_sharedServo {s : State} {p : Party} {sp a u : Nat} (v : Word) (hat : indRegAt sp a = some (r, u))
    (hreach : s.dev.reaches (p == .cp) r = true) : s.writeSpace p sp a v = s.onDev (·.writeReg r u v) := by
  have hfast : r ≠ .PWR_FAST_CMD := (by decide : ∀ r ∈ sharedServoRegs, r ≠ .PWR_FAST_CMD) r hr
  simp [State.writeSpace, hat, hreach, absent_of_sharedServo hr, State.writeReg, hfast]

end

/-! ## The indirect queue -/

/-- Where no access waits and none is held, the host's accesses do not go on. -/
theorem proceed_of_idle {s : State} (hwaiting : s.dev.pcie.waiting = []) (hheld : s.dev.pcie.held = none) :
    s.proceed = s := by
  simp [State.proceed, Dev.backlog, State.goOn, hwaiting, hheld]

/-- Space 8 is the flash, which holds no register. -/
theorem space_ne_nvm {sp a : Nat} {x : Reg × Nat} (hat : indRegAt sp a = some x) : sp ≠ 8 := by
  rintro rfl
  simp [indRegAt] at hat

theorem applyOldest_of_register {s : State} {w : IndWrite} {rest : List IndWrite} {x : Reg × Nat}
    (hqueue : s.dev.pcie.indQueue = w :: rest) (hat : indRegAt w.space w.addr = some x)
    (hfault : s.dev.indFault w.space w.addr true = none) :
    s.applyOldest = (s.writeSpace .host w.space w.addr w.value).onDev (·.onPcie (fun e => { e with indQueue := rest })) := by
  simp [State.applyOldest, State.indApply, hqueue, hfault, space_ne_nvm hat]

/-! ## The commands of TB_TCMD -/

/-- The bits of TB_TCMD that give a command. -/
def tcmdFlds : List Fld := [F.TB_TCMD_ACCEPT_JUMP, F.TB_TCMD_TIME_SET]

theorem tcmdFlds_fit : ∀ f ∈ tcmdFlds, f.lo + f.width ≤ 32 := by decide
theorem tcmdFlds_apart_result : ∀ f ∈ tcmdFlds, apart F.TB_TCMD_RESULT f = true := by decide

section
variable {d : Dev} {t : TbId}

theorem writeTcmd_of_refused (f : Fld) (hactive : d.twin.active ≠ some t) :
    d.writeTcmd t f = d.set F.TB_TCMD_RESULT 5 t.num := by
  simp [Dev.writeTcmd, hactive]

theorem writeTcmd_of_accepted (f : Fld) (hactive : d.twin.active = some t) (hsuspect : d.suspect = none)
    (hwaiting : d.tcmdWaiting = 0) : d.writeTcmd t f = (d.set f 1 t.num).set F.TB_TCMD_RESULT 7 t.num := by
  simp [Dev.writeTcmd, hactive, hsuspect, hwaiting]

theorem tcmdWaiting_ne_zero {f : Fld} (hf : f ∈ tcmdFlds) (hactive : d.twin.active = some t)
    (hset : d.flag f t.num = true) : d.tcmdWaiting ≠ 0 := by
  simp only [tcmdFlds, List.mem_cons, List.not_mem_nil, or_false] at hf
  simp only [Dev.tcmdWaiting, hactive]
  rcases hf with rfl | rfl
  · simp [hset]
  · rw [if_pos hset]
    split <;> decide

/-- A result leaves which command waits. -/
theorem tcmdWaiting_set_result (v u : Nat) : (d.set F.TB_TCMD_RESULT v u).tcmdWaiting = d.tcmdWaiting := by
  have hflag (f : Fld) (hf : f ∈ tcmdFlds) (w : Nat) : (d.set F.TB_TCMD_RESULT v u).flag f w = d.flag f w := by
    simp only [Dev.flag, get_set_apart d _ f v u w (by decide) (tcmdFlds_apart_result f hf)]
  simp only [Dev.tcmdWaiting, set_twin, hflag F.TB_TCMD_ACCEPT_JUMP (by decide), hflag F.TB_TCMD_TIME_SET (by decide)]

end

/-- ACCEPT_JUMP and TIME_SET that reach TB_TCMD write its command bit. -/
theorem completes_tcmd {s : State} {t : TbId} {c : Instr} {Q : State → Prop} (hc : c ∈ [Instr.acceptJump t, .timeSet t])
    (hreach : s.dev.firnReach = true) (hQ : ∀ f ∈ tcmdFlds, Q (s.onDev (·.writeTcmd t f))) : Completes c s Q := by
  have hwrite (f : Fld) : s.onDev (·.reach (·.writeTcmd t f)) = s.onDev (·.writeTcmd t f) := by
    simp only [State.onDev, Dev.reach, hreach, if_true]
  simp only [List.mem_cons, List.not_mem_nil, or_false] at hc
  rcases hc with rfl | rfl
  · exact ⟨_, rfl, (hwrite F.TB_TCMD_ACCEPT_JUMP).symm ▸ hQ F.TB_TCMD_ACCEPT_JUMP (by decide)⟩
  · exact ⟨_, rfl, (hwrite F.TB_TCMD_TIME_SET).symm ▸ hQ F.TB_TCMD_TIME_SET (by decide)⟩

end Sys2Proof.Laws

/-! The statements of 02_device_time.md. -/

namespace Sys2Proof.Proofs

open Sys2Proof.Machine Sys2Proof.Safety Sys2Proof.Laws

/-- Settles O4: the four stores of the completed latch write one unit of WIDE_D each. -/
theorem captureLayout : Obligations.CaptureLayout := by
  intro d v code port hlatch
  exact ⟨latchDone_word_wideD hlatch (by decide), latchDone_word_wideD hlatch (by decide),
    latchDone_word_wideD hlatch (by decide), latchDone_word_wideD hlatch (by decide)⟩

/-- Settles O5: either space of a shared register keeps and shows unit 0, and TB_TCMD judges a command by the space it is
written in. -/
theorem sharedTimebaseRegisters : Obligations.SharedTimebaseRegisters := by
  intro s v sp a u t
  refine ⟨?shared, ?accepted, ?refused⟩
  case shared =>
    intro r hr hat hqueue hwaiting hheld hfault hreach
    have happly : s.applyOldest =
        (s.onDev (·.writeReg r u v)).onDev (·.onPcie (fun e => { e with indQueue := [] })) := by
      rw [applyOldest_of_register hqueue hat hfault, writeSpace_of_sharedServo hr v hat hreach]
    have hpcie : (s.dev.writeReg r u v).pcie = s.dev.pcie := writeReg_pcie_of_sharedServo hr s.dev u v
    have hidle : s.applyOldest.proceed = s.applyOldest :=
      proceed_of_idle (by simp [happly, hpcie, hwaiting]) (by simp [happly, hpcie, hheld])
    have hword : s.applyOldest.dev.word r 0 = (s.dev.store r 0 v).word r 0 := by
      rw [happly]
      exact writeReg_word_of_sharedServo hr s.dev u v
    refine ⟨s.applyOldest, congrArg Host.Outcome.next hidle, ?_, ?_⟩ <;> rw [readReg_of_sharedServo hr, hword]
  case accepted =>
    intro hreach hactive hsuspect hnone c hc
    refine completes_tcmd hc hreach fun f hf => ?_
    rw [onDev_dev, writeTcmd_of_accepted f hactive hsuspect hnone]
    refine ⟨tcmdWaiting_ne_zero hf hactive ?_, get_set_same _ _ _ _ (by decide)⟩
    have hwidth : 1 % 2 ^ f.width = 1 := (by decide : ∀ f ∈ tcmdFlds, 1 % 2 ^ f.width = 1) f hf
    simp only [Dev.flag, get_set_apart _ _ f _ _ _ (by decide) (tcmdFlds_apart_result f hf),
      get_set_same _ _ _ _ (tcmdFlds_fit f hf), hwidth, beq_self_eq_true]
  case refused =>
    intro hreach hactive c hc
    refine completes_tcmd hc hreach fun f _ => ?_
    rw [onDev_dev, writeTcmd_of_refused f hactive]
    refine ⟨get_set_same _ _ _ _ (by decide), tcmdWaiting_set_result _ _, ?_, rfl, rfl⟩
    rw [onDev_dev, writeTcmd_of_refused f hactive]
    exact Only.refl.set _ _ _ (by decide)

end Sys2Proof.Proofs

/-! SUPPORT. Laws of the twin timebases: where roles and timebases are kept, what the declaration of a warm OCXO changes, and
the place that a warm timebase takes (R90). -/

namespace Sys2Proof.Safety

open Sys2Proof.Machine Sys2Proof.Laws

variable {P : List Part} {R : List Reg} {d e : Dev}

theorem Only.role (h : Only P R d e) (hR : .TB_ROLE ∉ R) (t : TbId) : e.role t = d.role t := h.get F.TB_ROLE_ROLE t.num hR

theorem Only.tb (h : Only P R d e) (ha : .tbA ∉ P) (hb : .tbB ∉ P) (t : TbId) : e.tb t = d.tb t := by
  cases t
  · exact h.part .tbA ha
  · exact h.part .tbB hb

theorem Only.active (h : Only P R d e) (hP : .twin ∉ P) : e.twin.active = d.twin.active :=
  congrArg Twin.active (h.part .twin hP)

end Sys2Proof.Safety

namespace Sys2Proof.Laws

open Sys2Proof.Machine Sys2Proof.Safety

variable (d : Dev) (t : TbId)

/-! ## Roles and timebases -/

@[simp] theorem onTb_role (f : Timebase → Timebase) (x : TbId) : (d.onTb t f).role x = d.role x := onTb_get d t f _ _
@[simp] theorem onTwin_role (f : Twin → Twin) (x : TbId) : (d.onTwin f).role x = d.role x := rfl
@[simp] theorem onTwin_tb (f : Twin → Twin) (x : TbId) : (d.onTwin f).tb x = d.tb x := by cases x <;> rfl
@[simp] theorem onSys_tb (f : Sys → Sys) (x : TbId) : (d.onSys f).tb x = d.tb x := by cases x <;> rfl
@[simp] theorem set_tb (f : Fld) (v u : Nat) (x : TbId) : (d.set f v u).tb x = d.tb x := by cases x <;> rfl
@[simp] theorem setMark_tb (f ch : Fld) (v u : Nat) (x : TbId) : (d.setMark f v ch u).tb x = d.tb x :=
  setMark_rest d (·.tb x) (fun d f v u => set_tb d f v u x) f ch v u
@[simp] theorem setRole_tb (r : Nat) (x : TbId) : (d.setRole t r).tb x = d.tb x := setMark_tb d _ _ _ _ x
@[simp] theorem setRole_twin (r : Nat) : (d.setRole t r).twin = d.twin := setMark_twin d _ _ _ _

theorem onTb_tb_other (f : Timebase → Timebase) {x : TbId} (hx : x ≠ t) : (d.onTb t f).tb x = d.tb x := by
  cases t
  case a => cases x with
    | a => exact absurd rfl hx
    | b => rfl
  case b => cases x with
    | a => rfl
    | b => exact absurd rfl hx

theorem other_ne : t.other ≠ t := by cases t <;> decide

theorem setRole_role_same {r : Nat} (hr : r < 8) : (d.setRole t r).role t = r :=
  (get_setMark_same d _ _ _ _ (by decide) (by decide) (by decide)).trans (Nat.mod_eq_of_lt hr)

theorem setRole_role_other (r : Nat) {x : TbId} (hx : x ≠ t) : (d.setRole t r).role x = d.role x := by
  have hunit : x.num ≠ t.num := by revert hx; cases t <;> cases x <;> decide
  simp only [Dev.role, Dev.setRole, Dev.setMark]
  split
  · rfl
  · rw [get_set_unit _ _ _ _ _ _ hunit, get_set_unit _ _ _ _ _ _ hunit]

/-! ## The declaration of a warm OCXO -/

/-- The bit of FIRN_OCXO_STAT that tells of a timebase's declaration. -/
def warmFld : TbId → Fld
  | .a => F.FIRN_OCXO_STAT_WARM_A
  | .b => F.FIRN_OCXO_STAT_WARM_B

@[simp] theorem warmFld_reg : (warmFld t).reg = .FIRN_OCXO_STAT := by cases t <;> rfl

theorem declareWarm_warm : ((d.declareWarm t).tb t).warm = true := by
  simp only [Dev.declareWarm, onSys_tb]
  rw [when_keeps _ (·.tb t) _ _ (set_tb _ _ _ _ t), onTb_tb_same]

theorem declareWarm_tb_other {x : TbId} (hx : x ≠ t) : (d.declareWarm t).tb x = d.tb x := by
  simp only [Dev.declareWarm, onSys_tb]
  rw [when_keeps _ (·.tb x) _ _ (set_tb _ _ _ _ x), onTb_tb_other _ _ _ hx, setMark_tb]

theorem declareWarm_role (x : TbId) : (d.declareWarm t).role x = d.role x := (only_declareWarm d t).role (by decide) x

theorem declareWarm_active : (d.declareWarm t).twin.active = d.twin.active := (only_declareWarm d t).active (by decide)

theorem declareWarm_alarmOn (a : Alarm) : (d.declareWarm t).alarmOn a = d.alarmOn a :=
  alarmOn_of_word a (fun u => (only_declareWarm d t).word _ u (by decide))

theorem declareWarm_flag : (d.declareWarm t).flag (warmFld t) = true := by
  have hmark : (d.setMark (warmFld t) 1 F.FIRN_OCXO_STAT_CHANGED).get (warmFld t) = 1 :=
    (get_setMark_same d _ _ _ _ (by cases t <;> decide) (by decide) (by cases t <;> decide)).trans (by cases t <;> rfl)
  have hseconds (x : Dev) (v : Nat) : (x.set F.FIRN_OCXO_STAT_WARM_S v).get (warmFld t) = x.get (warmFld t) :=
    get_set_apart x _ _ v 0 0 (by decide) (by cases t <;> decide)
  have hkept : (d.declareWarm t).get (warmFld t) = (d.setMark (warmFld t) 1 F.FIRN_OCXO_STAT_CHANGED).get (warmFld t) := by
    simp only [Dev.declareWarm, onSys_get]
    rw [when_keeps _ (·.get (warmFld t)) _ _ (hseconds _ _), onTb_get]
    rfl
  simp [Dev.flag, hkept, hmark]

/-! ## The first ACTIVE timebase and a standby that aligns -/

/-- What becomes ACTIVE of the timebase itself; the stage, the synthesizers and the outputs follow (R90, R313). -/
def putInService : Dev :=
  ((d.setRole t 5).onTwin (fun w => { w with active := some t })).onTb t (fun b => { b with running := true })

theorem only_firstActive_putInService : Only [.syns, .outs, .counters, .latches, .ring, .log, .pcie, .sent]
    [.ALM_ACTIVE, .ALM_LATCH, .GLB_BOOT_STAT, .OUT_STAT, .SYN_CMD, .SYN_STAT] (putInService d t) (d.firstActive t) := by
  refine .each (.each (.when (.tioClock (.each (.setStage .refl _ ?_ ?_) _ _ fun e k => ?acquire) ?_ ?_) _ _ ?internal)
    _ _ fun e c => .emit .refl _ ?_) _ _ fun e n => .refreshOut .refl _ ?_ ?_
  case acquire => exact .when .refl _ _ (.acquire .refl _ _ (by decide) (by decide))
  case internal => exact .startInternal .refl _ (by decide) (by decide)
  all_goals decide

theorem firstActive_active : (d.firstActive t).twin.active = some t := by
  rw [(only_firstActive_putInService d t).active (by decide)]
  simp [putInService]

theorem firstActive_role : (d.firstActive t).role t = 5 := by
  rw [(only_firstActive_putInService d t).role (by decide)]
  simp [putInService, setRole_role_same]

theorem firstActive_role_other {x : TbId} (hx : x ≠ t) : (d.firstActive t).role x = d.role x := by
  rw [(only_firstActive_putInService d t).role (by decide)]
  simp [putInService, setRole_role_other d t 5 hx]

theorem firstActive_warm : ((d.firstActive t).tb t).warm = (d.tb t).warm := by
  rw [(only_firstActive_putInService d t).tb (by decide) (by decide)]
  simp [putInService]

theorem firstActive_tb_other {x : TbId} (hx : x ≠ t) : (d.firstActive t).tb x = d.tb x := by
  rw [(only_firstActive_putInService d t).tb (by decide) (by decide)]
  simp [putInService, onTb_tb_other _ t _ hx]

theorem twinAlarms_active : d.twinAlarms.twin.active = d.twin.active := by
  have hpinned (x : Dev) (c : Bool) : (x.when c (·.cond .pinnedTbLost false)).twin = x.twin :=
    when_keeps x (·.twin) c _ (cond_twin x _ _)
  simp only [Dev.twinAlarms, hpinned]
  split <;> simp

theorem alignStandby_active : (d.alignStandby t).twin.active = d.twin.active := by
  simp [Dev.alignStandby, Dev.placeStandby, twinAlarms_active]

theorem alignStandby_role : (d.alignStandby t).role t = 2 := by
  unfold Dev.alignStandby Dev.placeStandby
  rw [(only_twinAlarms _).role (by decide), onTwin_role, onTb_role, setRole_role_same d t (by decide)]

theorem alignStandby_role_other {x : TbId} (hx : x ≠ t) : (d.alignStandby t).role x = d.role x := by
  unfold Dev.alignStandby Dev.placeStandby
  rw [(only_twinAlarms _).role (by decide), onTwin_role, onTb_role, setRole_role_other d t _ hx]

theorem alignStandby_tb_other {x : TbId} (hx : x ≠ t) : (d.alignStandby t).tb x = d.tb x := by
  unfold Dev.alignStandby Dev.placeStandby
  rw [(only_twinAlarms _).tb (by decide) (by decide), onTwin_tb, onTb_tb_other _ t _ hx, setRole_tb]

/-! ## The place that a timebase takes -/

section
variable {d t}

theorem takePlace_of_settled (h : d.role t ≠ 1 ∨ (d.tb t).warm = false) : d.takePlace t = d := by
  rcases h with h | h <;> simp [Dev.takePlace, h]

theorem takePlace_of_first (hrole : d.role t = 1) (hwarm : (d.tb t).warm = true) (hactive : d.twin.active = none)
    (halarm : d.alarmOn .tbNone = false) : d.takePlace t = d.firstActive t := by
  simp [Dev.takePlace, Dev.anyActive, hrole, hwarm, hactive, halarm]

theorem takePlace_of_standby {x : TbId} (hrole : d.role t = 1) (hwarm : (d.tb t).warm = true)
    (hactive : d.twin.active = some x) : d.takePlace t = d.alignStandby t := by
  simp [Dev.takePlace, Dev.anyActive, hrole, hwarm, hactive]

end

/-- A timebase takes its place beside the other one, which keeps its own. -/
theorem takePlace_other {x : TbId} (hx : x ≠ t) :
    (d.takePlace t).role x = d.role x ∧ (d.takePlace t).tb x = d.tb x := by
  unfold Dev.takePlace
  split
  case isTrue => exact ⟨rfl, rfl⟩
  case isFalse =>
    split
    case isTrue => exact ⟨alignStandby_role_other d t hx, alignStandby_tb_other d t hx⟩
    case isFalse =>
      split
      · exact ⟨rfl, rfl⟩
      · exact ⟨firstActive_role_other d t hx, firstActive_tb_other d t hx⟩

section
variable {d t}

/-- Of one OCXO declared alone, only its own timebase moves where the other does not wait or is not warm. -/
theorem warmDeclared_alone (hother : d.role t.other ≠ 1 ∨ (d.tb t.other).warm = false) :
    d.warmDeclared (t == .a) (t == .b) = (d.declareWarm t).takePlace t := by
  have hdeclared : (d.declareWarm t).role t.other ≠ 1 ∨ ((d.declareWarm t).tb t.other).warm = false := by
    rwa [declareWarm_role, declareWarm_tb_other d t (other_ne t)]
  cases t with
  | a =>
    obtain ⟨hrole, htb⟩ := takePlace_other (d.declareWarm .a) .a (other_ne .a)
    exact takePlace_of_settled (by rwa [← hrole, ← htb] at hdeclared)
  | b => exact congrArg (Dev.takePlace · .b) (takePlace_of_settled hdeclared)

/-- The first declaration makes its timebase ACTIVE (R90). -/
theorem warmDeclared_first (hactive : d.twin.active = none) (halarm : d.alarmOn .tbNone = false) (hrole : d.role t = 1)
    (hcold : (d.tb t.other).warm = false) : d.warmDeclared (t == .a) (t == .b) = (d.declareWarm t).firstActive t := by
  rw [warmDeclared_alone (.inr hcold)]
  exact takePlace_of_first (by rwa [declareWarm_role]) (declareWarm_warm d t) (by rwa [declareWarm_active])
    (by rwa [declareWarm_alarmOn])

/-- A declaration beside an ACTIVE timebase makes a standby that aligns (R90). -/
theorem warmDeclared_second (hactive : d.twin.active = some t.other) (hrole : d.role t = 1) (hother : d.role t.other ≠ 1) :
    d.warmDeclared (t == .a) (t == .b) = (d.declareWarm t).alignStandby t := by
  rw [warmDeclared_alone (.inl hother)]
  exact takePlace_of_standby (by rwa [declareWarm_role]) (declareWarm_warm d t) (by rwa [declareWarm_active])

/-- Declared in one check, Timebase A becomes ACTIVE and Timebase B aligns with it (R90). -/
theorem warmDeclared_together (hactive : d.twin.active = none) (halarm : d.alarmOn .tbNone = false)
    (ha : d.role .a = 1) (hb : d.role .b = 1) :
    d.warmDeclared true true = (((d.declareWarm .a).declareWarm .b).firstActive .a).alignStandby .b := by
  have hwarmA : (((d.declareWarm .a).declareWarm .b).tb .a).warm = true := by
    rw [declareWarm_tb_other _ .b (by decide), declareWarm_warm]
  have hfirst : ((d.declareWarm .a).declareWarm .b).takePlace .a = ((d.declareWarm .a).declareWarm .b).firstActive .a :=
    takePlace_of_first (by simpa only [declareWarm_role]) hwarmA (by simpa only [declareWarm_active])
      (by simpa only [declareWarm_alarmOn])
  have hroleB : (((d.declareWarm .a).declareWarm .b).firstActive .a).role .b = 1 := by
    rw [firstActive_role_other _ _ (by decide), declareWarm_role, declareWarm_role, hb]
  have hwarmB : ((((d.declareWarm .a).declareWarm .b).firstActive .a).tb .b).warm = true := by
    rw [firstActive_tb_other _ _ (by decide), declareWarm_warm]
  exact (congrArg (Dev.takePlace · .b) hfirst).trans (takePlace_of_standby hroleB hwarmB (firstActive_active _ _))

end

/-! ## The command -/

theorem only_startWindow (s : State) : Only [.sys] [.UPD_STAT, .UPD_CONFIRM_LEFT] s.dev s.startWindow.dev := by
  simp only [State.startWindow]
  split
  · exact .refl
  · rw [onDev_dev]
    exact .onSys (.set (.showStep .refl _ (by decide) (by decide)) _ _ _ (by decide)) _ (by decide)

/-- From stage WARMING on, but in RECOVERY, the command is the declaration of the device; a window of the firmware trial may
start with it. -/
theorem completes_ocxoWarmDeclared {s : State} {a b : Bool} {Q : State → Prop} (hstage : 4 ≤ s.dev.stage)
    (hrecovery : s.dev.stage ≠ 8)
    (hQ : ∀ u, Only [.sys] [.UPD_STAT, .UPD_CONFIRM_LEFT] (s.dev.warmDeclared a b) u.dev → Q u) :
    Completes (.ocxoWarmDeclared a b) s Q := by
  refine ⟨s.warmDeclared a b, rfl, hQ _ ?_⟩
  have hruns : ¬ (s.dev.stage < 4 || s.dev.stage == 8) = true := by simp [hstage, hrecovery]
  rw [State.warmDeclared, if_neg hruns]
  dsimp only
  split
  · exact only_startWindow (s.onDev (·.warmDeclared a b))
  · exact .refl

end Sys2Proof.Laws

/-! The statements of 04_twin_timebases.md. -/

namespace Sys2Proof.Proofs

open Sys2Proof.Machine Sys2Proof.Safety Sys2Proof.Laws

/-- The first clauses of O6, for the timebase whose OCXO is declared first. -/
theorem completes_firstDeclaration {s : State} {t : TbId} (hstage : 4 ≤ s.dev.stage) (hrecovery : s.dev.stage ≠ 8)
    (halarm : s.dev.alarmOn .tbNone = false) (hactive : s.dev.twin.active = none) (hrole : s.dev.role t = 1)
    (hcold : (s.dev.tb t.other).warm = false) :
    Completes (.ocxoWarmDeclared (t == .a) (t == .b)) s (fun u => u.dev.twin.active = some t ∧ u.dev.role t = 5 ∧
      u.dev.role t.other = s.dev.role t.other ∧ (u.dev.tb t).warm = true ∧ u.dev.flag (warmFld t) = true) := by
  refine completes_ocxoWarmDeclared hstage hrecovery fun u hu => ?_
  rw [warmDeclared_first hactive halarm hrole hcold] at hu
  refine ⟨?_, ?_, ?_, ?_, ?_⟩
  · rw [hu.active (by decide), firstActive_active]
  · rw [hu.role (by decide), firstActive_role]
  · rw [hu.role (by decide), firstActive_role_other _ _ (other_ne t), declareWarm_role]
  · rw [hu.tb (by decide) (by decide), firstActive_warm, declareWarm_warm]
  · rw [Dev.flag, hu.get _ _ (by simp), (only_firstActive _ _).get _ _ (by simp)]
    exact declareWarm_flag s.dev t

/-- The last clause of O6: beside an ACTIVE timebase the one declared warm aligns. -/
theorem completes_laterDeclaration {s : State} {t : TbId} (hstage : 4 ≤ s.dev.stage) (hrecovery : s.dev.stage ≠ 8)
    (hactive : s.dev.twin.active = some t.other) (hrole : s.dev.role t = 1) (hother : s.dev.role t.other ≠ 1) :
    Completes (.ocxoWarmDeclared (t == .a) (t == .b)) s (fun u => u.dev.role t = 2 ∧ u.dev.twin.active = some t.other ∧
      u.dev.role t.other = s.dev.role t.other) := by
  refine completes_ocxoWarmDeclared hstage hrecovery fun u hu => ?_
  rw [warmDeclared_second hactive hrole hother] at hu
  refine ⟨?_, ?_, ?_⟩
  · rw [hu.role (by decide), alignStandby_role]
  · rw [hu.active (by decide), alignStandby_active, declareWarm_active, hactive]
  · rw [hu.role (by decide), alignStandby_role_other _ _ (other_ne t), declareWarm_role]

/-- Settles O6: a declaration alone is one law for either timebase, and in one check Timebase A takes its place first; what
follows of it (the stage, the synthesizers, the outputs, the window of a trial) leaves the roles. -/
theorem firstTimebase : Obligations.FirstTimebase := by
  intro s t hstage hrecovery halarm
  refine ⟨?first, ?second⟩
  case first =>
    intro hactive ha hb hcoldA hcoldB
    refine ⟨?alone_a, ?alone_b, ?together⟩
    case alone_a =>
      have h := completes_firstDeclaration (t := .a) hstage hrecovery halarm hactive ha hcoldB
      rwa [show s.dev.role TbId.a.other = 1 from hb] at h
    case alone_b =>
      have h := completes_firstDeclaration (t := .b) hstage hrecovery halarm hactive hb hcoldA
      rwa [show s.dev.role TbId.b.other = 1 from ha] at h
    case together =>
      refine completes_ocxoWarmDeclared hstage hrecovery fun u hu => ?_
      rw [warmDeclared_together hactive halarm ha hb] at hu
      refine ⟨?_, ?_, ?_⟩
      · rw [hu.active (by decide), alignStandby_active, firstActive_active]
      · rw [hu.role (by decide), alignStandby_role_other _ _ (by decide), firstActive_role]
      · rw [hu.role (by decide), alignStandby_role]
  case second =>
    intro hactive hother hrole
    have haligns := completes_laterDeclaration hstage hrecovery hactive hrole (by rw [hother]; decide)
    rw [hother] at haligns
    cases t <;> exact haligns

end Sys2Proof.Proofs

/-! SUPPORT. What every operation keeps of the module beside its device: the queue of commands and the canonical form of the
flash. -/

namespace Sys2Proof.Laws

open Sys2Proof.Machine Sys2Proof.Safety

/-- `t` has the queue of `s`, and a flash in canonical form where that of `s` is. -/
structure Keeps (s t : State) : Prop where
  pending : t.pending = s.pending
  wf : Memory.wf s.flash = true → Memory.wf t.flash = true

variable {s t u : State}

namespace Keeps

theorem refl : Keeps s s := ⟨rfl, id⟩
theorem trans (h : Keeps s t) (k : Keeps t u) : Keeps s u := ⟨k.pending.trans h.pending, fun w => k.wf (h.wf w)⟩
theorem onDev (h : Keeps s t) (f : Dev → Dev) : Keeps s (t.onDev f) := ⟨h.pending, h.wf⟩
theorem withDev (h : Keeps s t) (d : Dev) : Keeps s { t with dev := d } := ⟨h.pending, h.wf⟩
theorem withFlash (h : Keeps s t) {m : List Host.Cell} (hm : Memory.wf t.flash = true → Memory.wf m = true) :
    Keeps s { t with flash := m } := ⟨h.pending, fun w => hm (h.wf w)⟩
theorem ite (c : Prop) [Decidable c] (h : c → Keeps s t) (k : ¬c → Keeps s u) : Keeps s (if c then t else u) := by
  split
  · exact h ‹_›
  · exact k ‹_›

/-- A fold of operations that each keep keeps. -/
theorem foldl {α : Type} (h : Keeps s t) (l : List α) (f : State → α → State) (k : ∀ s a, Keeps s (f s a)) :
    Keeps s (l.foldl f t) := by
  induction l generalizing t with
  | nil => exact h
  | cons a l ih => exact ih (h.trans (k t a))

end Keeps

/-! ## The structures of the flash -/

theorem wf_hdrWrite {m : List Host.Cell} (h : Header) (w : Memory.wf m = true) : Memory.wf (hdrWrite m h) = true :=
  Memory_wf_write _ _ (Memory_wf_erase _ _ w)

theorem wf_hdrMark {m : List Host.Cell} (ofs : Nat) (w : Memory.wf m = true) : Memory.wf (hdrMark m ofs) = true := by
  unfold hdrMark
  split
  · exact w
  · exact Memory_wf_write _ _ w

theorem wf_setAppend {m : List Host.Cell} (r : List Byte) (w : Memory.wf m = true) : Memory.wf (setAppend m r) = true := by
  unfold setAppend
  dsimp only
  split
  · exact Memory_wf_write _ _ w
  · exact Memory_wf_write _ _ (Memory_wf_erase _ _ w)

theorem wf_refreshSector {m : List Host.Cell} (sector : Nat) (w : Memory.wf m = true) :
    Memory.wf (refreshSector m sector) = true := by
  unfold refreshSector
  dsimp only
  exact Memory_wf_write _ _ (Memory_wf_write _ _ (Memory_wf_erase _ _ (Memory_wf_write _ _ (Memory_wf_erase _ _ w))))

theorem wf_restoreFrom {m m' : List Host.Cell} {j : Nat} (h : restoreFrom m j = some m') (w : Memory.wf m = true) :
    Memory.wf m' = true := by
  unfold restoreFrom at h
  dsimp only at h
  split at h
  · cases h
  · split at h
    · cases h
    · rw [← Option.some.inj h]
      exact Memory_wf_write _ _ (Memory_wf_erase _ _ w)

/-- One turn of the restoring of the journal. -/
theorem wf_restoreTurn (e : List Host.Cell × Bool) (j : Nat) (w : Memory.wf e.1 = true) :
    Memory.wf (match restoreFrom e.1 j with | some m' => (m', true) | none => e).1 = true := by
  cases h : restoreFrom e.1 j with
  | none => exact w
  | some m' => exact wf_restoreFrom h w

theorem wf_restoreAll {m : List Host.Cell} (w : Memory.wf m = true) : Memory.wf (restoreAll m).1 = true :=
  wf_restoreTurn _ _ (wf_restoreTurn _ _ w)

theorem wf_tear {m : List Host.Cell} (k a n : Nat) (w : Memory.wf m = true) : Memory.wf (tear m k a n) = true := by
  induction n generalizing m a with
  | zero => exact w
  | succ n ih => exact ih (a + 1) (Memory_wf_set _ _ w)

theorem wf_programPage {m : List Host.Cell} (page : Nat) (l : List (Nat × Byte)) (w : Memory.wf m = true) :
    Memory.wf (programPage m page l) = true := by
  unfold programPage
  induction l generalizing m with
  | nil => exact w
  | cons e l ih => exact ih (Memory_wf_set _ _ w)

/-! ## Resets, fallback and the start of the fast domain -/

theorem keeps_cutFlash (s : State) : Keeps s s.cutFlash := by
  unfold State.cutFlash
  dsimp only
  refine .ite _ (fun _ => .refl) (fun _ => ⟨rfl, fun w => ?_⟩)
  have herase : Memory.wf (match s.dev.sys.eraseAt with
      | some a => tear s.flash s.dev.freeCtr a 0x10000 | none => s.flash) = true := by
    split
    · exact wf_tear _ _ _ w
    · exact w
  dsimp only
  split
  · exact wf_tear _ _ _ herase
  · exact herase

theorem keeps_moduleReset (s : State) (cause : Nat) : Keeps s (s.moduleReset cause) := (keeps_cutFlash s).onDev _
theorem keeps_losePower (s : State) (b : Bool) : Keeps s (s.losePower b) := (keeps_cutFlash s).onDev _
theorem keeps_refreshUpd (s : State) : Keeps s s.refreshUpd := Keeps.refl.onDev _

theorem keeps_beginStepWith {fail : State → State} (hfail : ∀ s, Keeps s (fail s)) (s : State) (k : Nat) :
    Keeps s (s.beginStepWith fail k) := by
  have hstep (j : Nat) : Keeps s (s.onDev (·.enterStep j)) := Keeps.refl.onDev _
  unfold State.beginStepWith
  dsimp only
  split
  · exact (hstep _).onDev _
  · exact (hstep _).onDev _
  · exact .ite _ (fun _ => (hstep _).onDev _) (fun _ => (hstep _).trans (hfail _))
  · exact (hstep _).onDev _
  · exact .ite _ (fun _ => (hstep _).onDev _) (fun _ => (hstep _).trans (hfail _))
  · exact hstep _

theorem keeps_fallback (s : State) (cause : Nat) : Keeps s (s.fallback cause) := by
  have hheader (h : Header) : Keeps s ({ s with flash := hdrWrite s.flash h } : State).refreshUpd :=
    (Keeps.refl.withFlash (wf_hdrWrite h)).trans (keeps_refreshUpd _)
  unfold State.fallback
  dsimp only
  exact .ite _ (fun _ => ((hheader _).onDev _).trans (keeps_beginStepWith (keeps_moduleReset · 2) _ _))
    (fun _ => ((hheader _).onDev _).trans (keeps_moduleReset _ _))

theorem keeps_beginStep (s : State) (k : Nat) : Keeps s (s.beginStep k) :=
  .ite _ (fun _ => keeps_beginStepWith (keeps_moduleReset · 2) s k) (fun _ => keeps_beginStepWith (keeps_fallback · 2) s k)

theorem keeps_startFast (s : State) : Keeps s s.startFast :=
  .ite _ (fun _ => Keeps.refl.onDev _) fun _ => .ite _ (fun _ => keeps_fallback s 2) (fun _ => Keeps.refl.onDev _)

theorem keeps_fastCommand (s : State) : Keeps s s.fastCommand :=
  .ite _ (fun _ => Keeps.refl.onDev _) (fun _ => (Keeps.refl.onDev _).trans (keeps_startFast _))

/-! ## Register writes and configuration records -/

theorem keeps_writeReg (s : State) (r : Reg) (u : Nat) (v : Word) : Keeps s (s.writeReg r u v) :=
  .ite _ (fun _ => keeps_fastCommand s) (fun _ => Keeps.refl.onDev _)

theorem keeps_tryWrite (s : State) (r : Reg) (u : Nat) (v : Word) : Keeps s (s.tryWrite r u v).1 := by
  unfold State.tryWrite
  split
  · exact .refl
  · have hwrite {x : State} (hx : Keeps s x) : Keeps s (x.writeReg r u v) := hx.trans (keeps_writeReg x r u v)
    rcases refusals r with _ | ⟨f, l⟩ <;> rcases rejFlag r u with _ | ⟨g, k⟩ <;> dsimp only
    · exact hwrite .refl
    · exact (hwrite (Keeps.refl.onDev _)).onDev _
    · exact (hwrite (Keeps.refl.onDev _)).onDev _
    · exact ((hwrite ((Keeps.refl.onDev _).onDev _)).onDev _).onDev _

theorem keeps_writeAt (s : State) (cp : Bool) (place : Option (Reg × Nat)) (v : Word) : Keeps s (s.writeAt cp place v).1 := by
  unfold State.writeAt
  split
  · exact .refl
  · split
    · exact keeps_tryWrite s _ _ v
    · exact .refl

theorem keeps_applyOp (s : State) (cp : Bool) (o : CfgOp) : Keeps s (s.applyOp cp o).1 := by
  cases o with
  | bar0 a v => exact keeps_writeAt s cp _ v
  | ind sp a v => exact keeps_writeAt s cp _ v
  | fdb key data mask => exact Keeps.refl.withDev _
  | ptp b => exact Keeps.refl.withDev _

theorem keeps_applyOps (s : State) (cp : Bool) (ops : List CfgOp) : Keeps s (s.applyOps cp ops) := by
  refine Keeps.refl.foldl _ _ fun s o => ?_
  have h := keeps_applyOp s cp o
  split <;> rename_i x heq <;> rw [heq] at h
  · exact h
  · exact h.onDev _

theorem keeps_checkSlot (s : State) (ifs : List Image) (slot : Nat) : Keeps s (s.checkSlot ifs slot).1 := by
  unfold State.checkSlot
  dsimp only
  exact Keeps.refl.onDev _

theorem keeps_applyFast (s : State) : Keeps s s.applyFast := by
  have hcheck (slot : Nat) : Keeps s (s.checkSlot s.dev.sys.images slot).1 := keeps_checkSlot s _ slot
  have htake {x : State} (hx : Keeps s x) (ops : List CfgOp) : Keeps s (x.beginApply.applyOps true ops) :=
    (hx.onDev _).trans (keeps_applyOps _ true ops)
  unfold State.applyFast
  dsimp only
  split
  · exact (htake (hcheck _) _).onDev _
  · split
    · exact (hcheck _).onDev _
    · split
      · exact (htake (((hcheck _).trans (keeps_checkSlot _ _ _)).onDev _) _).onDev _
      · exact ((hcheck _).trans (keeps_checkSlot _ _ _)).onDev _

theorem keeps_applyFirn (s : State) (slot : Nat) (c : CfgCheck) : Keeps s (s.applyFirn slot c) := by
  unfold State.applyFirn
  exact ((Keeps.refl.onDev _).trans (keeps_applyOps _ false _)).onDev _

/-! ## Start-up -/

theorem keeps_writeSettings (s : State) (model : List Byte) : Keeps s (s.writeSettings model) := by
  unfold State.writeSettings
  exact (Keeps.refl.withFlash (wf_setAppend _)).onDev _

theorem keeps_takeSettings (s : State) : Keeps s s.takeSettings := by
  unfold State.takeSettings
  dsimp only
  split
  · exact (Keeps.refl.onDev _).trans (keeps_writeSettings _ _)
  · exact (Keeps.refl.onDev _).trans (keeps_writeSettings _ _)

theorem keeps_modelWrite (s : State) : Keeps s s.modelWrite :=
  .ite _ (fun _ => .refl) (fun _ => (keeps_writeSettings s _).onDev _)

theorem keeps_refreshStep (s : State) : Keeps s s.refreshStep :=
  .ite _ (fun _ => .refl) (fun _ => (Keeps.refl.withFlash (wf_refreshSector _)).onDev _)

theorem keeps_rom (s : State) : Keeps s s.rom := by
  have hback : Keeps s (({ s with flash := (restoreAll s.flash).1 } : State).onDev
      (fun d => d.when (restoreAll s.flash).2 (fun d => d.setB F.FIRN_REFRESH_STAT_RESTORED true))) :=
    (Keeps.refl.withFlash wf_restoreAll).onDev _
  unfold State.rom
  dsimp only
  refine (Keeps.trans ?_ (keeps_refreshUpd _)).onDev _
  split
  · exact (hback.withFlash (wf_hdrWrite _)).onDev _
  · split
    · exact hback.withFlash (wf_hdrMark _)
    · exact (hback.withFlash (wf_hdrWrite _)).onDev _
    · exact hback

theorem keeps_imageFails {boot : State → Nat → State} (hboot : ∀ s n, Keeps s (boot s n)) (s : State) :
    Keeps s (s.imageFails boot) :=
  .ite _ (fun _ => keeps_fallback s 2) fun _ =>
    .ite _ (fun _ => (Keeps.refl.onDev _).trans (hboot _ _)) (fun _ => Keeps.refl.onDev _)

theorem keeps_loadFsp (s : State) : Keeps s s.loadFsp := by
  have hrun (s : State) (slot : Nat) : Keeps s (((s.fspRuns slot).takeSettings).onDev (·.setStage 2)) :=
    ((Keeps.refl.onDev _).trans (keeps_takeSettings _)).onDev _
  exact .ite _ (fun _ => hrun s _) (fun _ => keeps_imageFails hrun s)

theorem keeps_loadTbp (s : State) : Keeps s s.loadTbp := by
  have hrun (s : State) (slot : Nat) (f : Dev → Dev) : Keeps s ((s.fspRuns slot).onDev f) := (Keeps.refl.onDev _).onDev _
  unfold State.loadTbp
  dsimp only
  exact .ite _ (fun _ => Keeps.refl.onDev _) (fun _ => keeps_imageFails (fun s slot => hrun s slot _) s)

theorem keeps_config (s : State) : Keeps s s.config := by
  unfold State.config
  dsimp only
  refine Keeps.onDev ?_ _
  split
  · exact (keeps_checkSlot s _ _).trans (keeps_applyFirn _ _ _)
  · split
    · exact ((((keeps_checkSlot s _ _).trans (keeps_checkSlot _ _ _)).trans (keeps_applyFirn _ _ _)).onDev _)
    · exact ((keeps_checkSlot s _ _).trans (keeps_checkSlot _ _ _)).onDev _

theorem keeps_startWindow (s : State) : Keeps s s.startWindow :=
  .ite _ (fun _ => .refl) (fun _ => Keeps.refl.onDev _)

theorem keeps_warmDeclared (s : State) (a b : Bool) : Keeps s (s.warmDeclared a b) :=
  .ite _ (fun _ => .refl) fun _ =>
    .ite _ (fun _ => (Keeps.refl.onDev _).trans (keeps_startWindow _)) (fun _ => Keeps.refl.onDev _)

theorem keeps_fastIsOn (s : State) : Keeps s s.fastIsOn := by
  have hon : Keeps s ((s.onDev (fun d => ({ d with counters := [], cntCfg := [] } : Dev).writeMacs)).applyFast) :=
    (Keeps.refl.onDev _).trans (keeps_applyFast _)
  exact .ite _ (fun _ => (hon.onDev _).trans (keeps_startWindow _)) (fun _ => hon.onDev _)

theorem keeps_bootAdvance (s : State) : Keeps s s.bootAdvance := by
  unfold State.bootAdvance
  refine .ite _ (fun _ => ?_) fun _ => .ite _ (fun _ => (Keeps.refl.onDev _).trans (keeps_startWindow _)) (fun _ => .refl)
  refine .ite _ (fun _ => ?_) (fun _ => Keeps.refl.onDev _)
  exact .ite _ (fun _ => (Keeps.refl.onDev _).trans (keeps_startFast _)) (fun _ => Keeps.refl.onDev _)

theorem keeps_tick (s : State) : Keeps s s.tick := by
  have hcycle : Keeps s (s.onDev Dev.cycle) := Keeps.refl.onDev _
  refine .ite _ (fun _ => .refl) (fun _ => ?_)
  dsimp only
  split
  · exact hcycle.trans (keeps_moduleReset _ 2)
  · exact .ite _ (fun _ => hcycle.trans (keeps_moduleReset _ 2)) (fun _ => (hcycle.onDev _).trans (keeps_bootAdvance _))
  · exact hcycle.trans (keeps_bootAdvance _)

/-! ## Reset, watchdog and configuration commands -/

theorem keeps_restartCp (s : State) : Keeps s s.restartCp := by
  have hstop : Keeps s (s.onDev Dev.stopCp) := Keeps.refl.onDev _
  exact .ite _ (fun _ => ((hstop.onDev _).trans (keeps_applyFast _)).onDev _) fun _ =>
    .ite _ (fun _ => hstop.trans (keeps_fallback _ 2)) (fun _ => hstop.onDev _)

theorem keeps_restartSmc (s : State) : Keeps s s.restartSmc := by
  have hstop : Keeps s (s.onDev (·.smcMoves false)) := Keeps.refl.onDev _
  exact .ite _ (fun _ => hstop.onDev _) fun _ => .ite _ (fun _ => hstop.trans (keeps_fallback _ 2)) (fun _ => hstop.onDev _)

theorem keeps_fastReset (s : State) : Keeps s s.fastReset := (Keeps.refl.onDev _).trans (keeps_startFast _)

theorem keeps_glbReset {f : State → State} (hf : ∀ s, Keeps s (f s)) (s : State) (key : Nat) (full : Bool) :
    Keeps s (s.glbReset key full f) := by
  unfold State.glbReset
  exact .ite _ (fun _ => .refl) fun _ => .ite _ (fun _ => Keeps.refl.onDev _) fun _ => .ite _ (fun _ => Keeps.refl.onDev _) fun _ =>
    .ite _ (fun _ => .refl) fun _ => .ite _ (fun _ => Keeps.refl.onDev _) fun _ => .ite _ (fun _ => Keeps.refl.onDev _) fun _ =>
    (Keeps.refl.onDev _).trans (hf _)

theorem keeps_writeReset (s : State) (v : Word) : Keeps s (s.writeReset v) :=
  .ite _ (fun _ => keeps_glbReset (fun _ => .refl) s _ _) fun _ =>
    .ite _ (fun _ => keeps_glbReset keeps_fastReset s _ _) fun _ =>
    .ite _ (fun _ => keeps_glbReset keeps_restartCp s _ _) fun _ =>
    .ite _ (fun _ => keeps_glbReset keeps_restartSmc s _ _) (fun _ => .refl)

theorem keeps_fspDog (s : State) : Keeps s s.fspDog :=
  .ite _ (fun _ => .refl) fun _ =>
    .ite _ (fun _ => ((Keeps.refl.onDev _).onDev _).trans (keeps_fallback _ 2)) (fun _ => Keeps.refl.onDev _)

theorem keeps_cpuDog (s : State) (cpu : WatchedCpu) : Keeps s (s.cpuDog cpu) := by
  have hcount : Keeps s (s.onDev (·.countDev 292)) := Keeps.refl.onDev _
  have htbp (t : TbId) : Keeps s (s.onDev (·.tbpDog t)) := Keeps.refl.onDev _
  unfold State.cpuDog
  refine .ite _ (fun _ => .refl) (fun _ => ?_)
  cases cpu with
  | cp =>
    refine .ite _ (fun _ => .refl) (fun _ => ?_)
    exact .ite _ (fun _ => hcount.trans (keeps_fallback _ 2)) (fun _ => hcount.trans (keeps_restartCp _))
  | smc =>
    refine .ite _ (fun _ => .refl) (fun _ => ?_)
    exact .ite _ (fun _ => hcount.trans (keeps_fallback _ 2)) (fun _ => hcount.trans (keeps_restartSmc _))
  | tbpA => exact .ite _ (fun _ => (htbp .a).trans (keeps_fallback _ 2)) (fun _ => htbp .a)
  | tbpB => exact .ite _ (fun _ => (htbp .b).trans (keeps_fallback _ 2)) (fun _ => htbp .b)

theorem keeps_cfgTake {f : State → State} (hf : ∀ s, Keeps s (f s)) (s : State) : Keeps s (s.cfgTake f) :=
  .ite _ (fun _ => .refl) fun _ => .ite _ (fun _ => Keeps.refl.onDev _) (fun _ => hf s)

theorem keeps_cfgCheck (s : State) (slot : Nat) : Keeps s (s.cfgCheck slot) := by
  unfold State.cfgCheck
  exact (keeps_checkSlot s _ slot).onDev _

theorem keeps_cfgActivate (s : State) (slot : Nat) : Keeps s (s.cfgActivate slot) := by
  unfold State.cfgActivate
  dsimp only
  refine (Keeps.trans ?_ (keeps_refreshUpd _)).onDev _
  exact .ite _ (fun _ => (keeps_checkSlot s _ slot).withFlash (wf_hdrWrite _)) (fun _ => keeps_checkSlot s _ slot)

theorem keeps_cfgReload (s : State) : Keeps s s.cfgReload := by
  unfold State.cfgReload
  refine .ite _ (fun _ => Keeps.refl.onDev _) (fun _ => ?_)
  have hfirn (slot : Nat) (c : CfgCheck) : Keeps s ((s.checkSlot s.dev.sys.images slot).1.applyFirn slot c) :=
    (keeps_checkSlot s _ _).trans (keeps_applyFirn _ _ _)
  dsimp only
  refine Keeps.onDev ?_ _
  refine .ite _ (fun _ => ?_) (fun _ => keeps_checkSlot s _ _)
  exact .ite _ (fun _ => ((hfirn _ _).trans (keeps_applyOps _ true _)).onDev _) (fun _ => hfirn _ _)

theorem keeps_reloadTake (s : State) : Keeps s s.reloadTake :=
  .ite _ (fun _ => Keeps.refl.onDev _) (fun _ => keeps_cfgTake keeps_cfgReload s)

theorem keeps_writeCfgCmd (s : State) (v : Word) : Keeps s (s.writeCfgCmd v) := by
  have hstore : Keeps s (s.onDev (·.store .GLB_CFG_CMD 0 v)) := Keeps.refl.onDev _
  exact .ite _ (fun _ => hstore.trans (keeps_cfgTake (keeps_cfgCheck · _) _)) fun _ =>
    .ite _ (fun _ => hstore.trans (keeps_cfgTake (keeps_cfgActivate · _) _)) fun _ =>
    .ite _ (fun _ => hstore.trans (keeps_reloadTake _)) (fun _ => hstore)

/-! ## Firmware update -/

theorem keeps_nvmWrite (s : State) (a : Nat) (v : Word) : Keeps s (s.nvmWrite a v).1 := by
  have hput (f : Dev → Dev) : Keeps s (if a % 256 / 4 = 63 then (s.onDev f).onDev Dev.beginProgram else s.onDev f) :=
    .ite _ (fun _ => (Keeps.refl.onDev _).onDev _) (fun _ => Keeps.refl.onDev _)
  unfold State.nvmWrite
  split
  · exact Keeps.refl.onDev _
  · split
    · exact .refl
    · dsimp only
      split
      · exact hput _
      · split
        · exact hput _
        · exact Keeps.refl.onDev _

theorem keeps_programDone (s : State) : Keeps s s.programDone := by
  unfold State.programDone
  split
  · exact .refl
  · exact (Keeps.refl.withFlash (wf_programPage _ _)).onDev _

theorem keeps_eraseDone (s : State) : Keeps s s.eraseDone := by
  unfold State.eraseDone
  split
  · exact .refl
  · exact .ite _ (fun _ => .refl) (fun _ => (Keeps.refl.withFlash (Memory_wf_erase _ _)).onDev _)

theorem keeps_updTake {f : State → State} (hf : ∀ s, Keeps s (f s)) (s : State) : Keeps s (s.updTake f) :=
  .ite _ (fun _ => .refl) fun _ => .ite _ (fun _ => Keeps.refl.onDev _) (fun _ => hf s)

theorem keeps_updErase (s : State) : Keeps s s.updErase :=
  .ite _ (fun _ => Keeps.refl.onDev _) (fun _ => Keeps.refl.onDev _)

theorem keeps_updFlush (s : State) : Keeps s s.updFlush := Keeps.refl.onDev _

theorem keeps_verifySlot (s : State) (slot : Nat) : Keeps s (s.verifySlot slot).1 := by
  have hid : Keeps s (if bundleHdrOk s.flash slot then
      s.onDev (·.set F.UPD_SLOT_ID_BUNDLE_ID (bundleId s.flash slot) slot) else s) :=
    .ite _ (fun _ => Keeps.refl.onDev _) (fun _ => .refl)
  unfold State.verifySlot
  dsimp only
  split <;> dsimp only
  · exact hid.onDev _
  · exact hid.onDev _

theorem keeps_updVerify (s : State) : Keeps s s.updVerify := by
  unfold State.updVerify
  exact (keeps_verifySlot s _).onDev _

theorem keeps_updActivate (s : State) : Keeps s s.updActivate := by
  unfold State.updActivate
  refine .ite _ (fun _ => Keeps.refl.onDev _) fun _ => .ite _ (fun _ => Keeps.refl.onDev _) (fun _ => ?_)
  have hverify := keeps_verifySlot s (s.dev.get F.UPD_CFG_SLOT)
  split <;> rename_i heq <;> rw [heq] at hverify
  · exact hverify.onDev _
  · rename_i x
    have hcheck (ifs : List Image) (n : Nat) := hverify.trans (keeps_checkSlot x ifs n)
    dsimp only
    refine .ite _ (fun _ => (hcheck _ _).onDev _) fun _ => .ite _ (fun _ => (hcheck _ _).onDev _) fun _ =>
      .ite _ (fun _ => (hcheck _ _).onDev _) fun _ => .ite _ (fun _ => (hcheck _ _).onDev _) fun _ => ?_
    have hheader (ifs : List Image) (n : Nat) (h : Header) :=
      ((hcheck ifs n).withFlash (wf_hdrWrite h)).trans (keeps_refreshUpd _)
    split
    · exact (((hheader _ _ _).onDev _).onDev _).trans (keeps_beginStep _ _)
    · exact ((hheader _ _ _).onDev _).onDev _

theorem keeps_confirm (s : State) : Keeps s s.confirm :=
  ((Keeps.refl.withFlash (wf_hdrMark 68)).trans (keeps_refreshUpd _)).onDev _

theorem keeps_trialCommand {f : State → State} (hf : ∀ s, Keeps s (f s)) (s : State) : Keeps s (s.trialCommand f) :=
  .ite _ (fun _ => .refl) fun _ => .ite _ (fun _ => Keeps.refl.onDev _) fun _ => .ite _ (fun _ => Keeps.refl.onDev _) fun _ =>
    (Keeps.refl.onDev _).trans (hf _)

theorem keeps_stepFails (s : State) : Keeps s s.stepFails :=
  .ite _ (fun _ => keeps_moduleReset s 2) (fun _ => keeps_fallback s 2)

theorem keeps_endCpStep (s : State) : Keeps s s.endCpStep := by
  unfold State.endCpStep
  refine .ite _ (fun _ => keeps_stepFails s) fun _ => (Keeps.onDev ?_ _).trans (keeps_beginStep _ 3)
  exact .ite _ (fun _ => (Keeps.refl.onDev _).trans (keeps_applyFast _)) (fun _ => Keeps.refl.onDev _)

theorem keeps_endSmcStep (s : State) : Keeps s s.endSmcStep :=
  .ite _ (fun _ => keeps_stepFails s) (fun _ => (Keeps.refl.onDev _).trans (keeps_beginStep _ 4))

theorem keeps_endFspStep (s : State) : Keeps s s.endFspStep := by
  unfold State.endFspStep
  refine .ite _ (fun _ => keeps_stepFails s) (fun _ => ?_)
  dsimp only
  exact .ite _ (fun _ => (Keeps.refl.onDev _).onDev _) fun _ =>
    (((Keeps.refl.onDev _).withFlash (wf_hdrMark 64)).trans (keeps_refreshUpd _)).onDev _

theorem keeps_stepComplete (s : State) : Keeps s s.stepComplete := by
  unfold State.stepComplete
  split
  · exact keeps_endCpStep s
  · exact keeps_endSmcStep s
  · exact .ite _ (fun _ => keeps_beginStep s 5) (fun _ => .refl)
  · exact .ite _ (fun _ => keeps_beginStep s 6) (fun _ => .refl)
  · exact .ite _ (fun _ => keeps_beginStep s 7) (fun _ => .refl)
  · exact keeps_endFspStep s
  · exact .refl

theorem keeps_stepTimeout (s : State) : Keeps s s.stepTimeout :=
  .ite _ (fun _ => .refl) fun _ => .ite _ (fun _ => keeps_moduleReset s 2) (fun _ => keeps_fallback s 3)

theorem keeps_windowEnds (s : State) : Keeps s s.windowEnds :=
  .ite _ (fun _ => .refl) fun _ => .ite _ (fun _ => keeps_confirm s) (fun _ => keeps_fallback s 1)

theorem keeps_writeUpdCmd (s : State) (v : Word) : Keeps s (s.writeUpdCmd v) :=
  .ite _ (fun _ => keeps_updTake keeps_updVerify s) fun _ => .ite _ (fun _ => keeps_updTake keeps_updActivate s) fun _ =>
    .ite _ (fun _ => keeps_trialCommand keeps_confirm s) fun _ => .ite _ (fun _ => keeps_trialCommand (keeps_fallback · 5) s) fun _ =>
    .ite _ (fun _ => keeps_updTake keeps_updErase s) fun _ => .ite _ (fun _ => keeps_updTake keeps_updFlush s) (fun _ => .refl)

/-! ## Accesses of the register ring and of the SMBus target -/

theorem keeps_writeBar (s : State) (p : Party) (a : Nat) (v : Word) : Keeps s (s.writeBar p a v) := by
  unfold State.writeBar
  split
  · exact .refl
  · refine .ite _ (fun _ => .refl) (fun _ => ?_)
    split
    · exact keeps_writeReset s v
    · exact keeps_writeCfgCmd s v
    · exact keeps_writeUpdCmd s v
    · exact Keeps.refl.onDev _
    · exact .ite _ (fun _ => Keeps.refl.onDev _) (fun _ => .refl)
    · exact keeps_writeReg s _ _ v

theorem keeps_writeSpace (s : State) (p : Party) (sp a : Nat) (v : Word) : Keeps s (s.writeSpace p sp a v) := by
  unfold State.writeSpace
  split
  · exact .refl
  · exact .ite _ (fun _ => .refl) (fun _ => keeps_writeReg s _ _ v)

theorem keeps_hostWrite (s : State) (w : BusWrite) : Keeps s (s.hostWrite w) :=
  Keeps.refl.foldl _ _ fun s _ => .ite _ (fun _ => .ite _ (fun _ => Keeps.refl.onDev _) (fun _ => .refl)) fun _ =>
    .ite _ (fun _ => keeps_writeBar s _ _ _) fun _ => .ite _ (fun _ => Keeps.refl.onDev _) (fun _ => .refl)

theorem keeps_indApply (s : State) (w : IndWrite) : Keeps s (s.indApply w).1 := by
  unfold State.indApply
  split
  · dsimp only
    exact Keeps.refl.onDev _
  · split
    · have h := keeps_nvmWrite s w.addr w.value
      split <;> rename_i x heq <;> rw [heq] at h <;> dsimp only at h ⊢
      · exact h
      · exact h
      · exact h.onDev _
    · exact keeps_writeSpace s _ _ _ _

theorem keeps_applyOldest (s : State) : Keeps s s.applyOldest := by
  unfold State.applyOldest
  split
  · exact .refl
  · rename_i w rest _
    have h := keeps_indApply s w
    split <;> rename_i heq <;> rw [heq] at h
    · exact h
    · exact h.onDev _

theorem keeps_readWord (s : State) (p : Party) (sp a : Nat) : Keeps s (s.readWord p sp a).1 := by
  unfold State.readWord
  split
  · exact .refl
  · split
    · exact .refl
    · split
      · exact .refl
      · exact Keeps.refl.withDev _

theorem keeps_hostRead (s : State) (sp a : Nat) : Keeps s (s.hostRead sp a).1 := by
  unfold State.hostRead
  split
  · exact keeps_readWord s _ _ _
  · split
    · dsimp only
      exact Keeps.refl.onDev _
    · exact keeps_readWord s _ _ _

theorem keeps_readOn (s : State) (h : HeldRead) (l : List (Nat × Nat)) : Keeps s (s.readOn h l) := by
  induction l generalizing s h with
  | nil => exact Keeps.refl.onDev _
  | cons e l ih => exact .ite _ (fun _ => Keeps.refl.onDev _) (fun _ => (keeps_hostRead s _ _).trans (ih _ _))

theorem keeps_receive (s : State) (a : HostAcc) : Keeps s (s.receive a) := by
  unfold State.receive
  cases a with
  | write w => exact keeps_hostWrite s w
  | word sp a => exact Keeps.refl.onDev _
  | indData => exact Keeps.refl.onDev _
  | read r => exact .ite _ (fun _ => Keeps.refl.onDev _) (fun _ => Keeps.refl.onDev _)

theorem keeps_goOn (s : State) (n : Nat) : Keeps s (s.goOn n) := by
  induction n generalizing s with
  | zero => exact .refl
  | succ n ih =>
    unfold State.goOn
    split
    · refine .ite _ (fun _ => ?_) (fun _ => ?_)
      · exact .ite _ (fun _ => keeps_readOn s _ _) (fun _ => (keeps_readOn s _ _).trans (ih _))
      · exact .ite _ (fun _ => (keeps_applyOldest s).trans (ih _)) (fun _ => keeps_applyOldest s)
    · split
      · exact .refl
      · exact .ite _ (fun _ => .refl) (fun _ => ((Keeps.refl.onDev _).trans (keeps_receive _ _)).trans (ih _))

theorem keeps_proceed (s : State) : Keeps s s.proceed := keeps_goOn s _

theorem keeps_ask (s : State) (a : HostAcc) : Keeps s (s.ask a) := (Keeps.refl.onDev _).trans (keeps_proceed _)

theorem keeps_askWrite (s : State) (w : BusWrite) : Keeps s (s.askWrite w) :=
  .ite _ (fun _ => Keeps.refl.onDev _) (fun _ => keeps_ask s _)

theorem keeps_askRead (s : State) (r : BusRead) : Keeps s (s.askRead r) :=
  .ite _ (fun _ => Keeps.refl.onDev _) fun _ => .ite _ (fun _ => keeps_receive s _) (fun _ => keeps_ask s _)

theorem keeps_askWord (s : State) (sp a : Nat) : Keeps s (s.askWord sp a) :=
  .ite _ (fun _ => keeps_ask s _) (fun _ => (keeps_readWord s _ _ _).onDev _)

theorem keeps_smbTake {f : State → State} (hf : ∀ s, Keeps s (f s)) (s : State) (h : SmbHead) (code : Nat) :
    Keeps s (s.smbTake h code f) :=
  .ite _ (fun _ => .refl) fun _ => .ite _ (fun _ => Keeps.refl.onDev _) fun _ =>
    .ite _ (fun _ => Keeps.refl.onDev _) (fun _ => hf s)

theorem keeps_smbWrite (s : State) (ofs : Nat) (v : Word) : Keeps s (s.smbWrite ofs v) :=
  .ite _ (fun _ => Keeps.refl.onDev _) (fun _ => keeps_writeBar s _ _ _)

theorem keeps_smbRead (s : State) (ofs : Nat) : Keeps s (s.smbRead ofs).1 := by
  unfold State.smbRead
  split
  · dsimp only
    exact Keeps.refl.onDev _
  · exact keeps_readWord s _ _ _

theorem keeps_smbWriteNvm (s : State) (a : Nat) (v : Word) : Keeps s (s.smbWriteNvm a v) := by
  unfold State.smbWriteNvm
  refine .ite _ (fun _ => Keeps.refl.onDev _) (fun _ => ?_)
  have h := keeps_nvmWrite s a v
  split <;> rename_i heq <;> rw [heq] at h
  · exact h.onDev _
  · exact h

theorem keeps_smbReadNvm (s : State) (a : Nat) : Keeps s (s.smbReadNvm a) :=
  .ite _ (fun _ => Keeps.refl.onDev _) fun _ => .ite _ (fun _ => Keeps.refl.onDev _) (fun _ => Keeps.refl.onDev _)

theorem keeps_flashFree (s : State) : Keeps s s.flashFree := by
  unfold State.flashFree
  dsimp only
  refine Keeps.trans ?_ (keeps_proceed _)
  have hwrite : Keeps s (match s.dev.sys.smbWrite with
      | none => s
      | some (a, v) => match s.nvmWrite a v with
        | (s, .held) => s
        | (s, _) => s.onDev (·.onSys (fun y => { y with smbWrite := none }))) := by
    split
    · exact .refl
    · rename_i a v _
      have h := keeps_nvmWrite s a v
      split <;> rename_i heq <;> rw [heq] at h
      · exact h
      · exact h.onDev _
  split
  · exact hwrite
  · exact .ite _ (fun _ => hwrite) (fun _ => hwrite.onDev _)

theorem keeps_partyWrite (s : State) (w : BusWrite) : Keeps s (s.partyWrite w) :=
  Keeps.refl.foldl _ _ fun s _ => .ite _ (fun _ => keeps_writeBar s _ _ _) fun _ =>
    .ite _ (fun _ => keeps_writeSpace s _ _ _ _) (fun _ => .refl)

theorem keeps_partyRead (s : State) (r : BusRead) : Keeps s (s.partyRead r).1 := by
  have hfold (l : List Nat) (x : State × List Word) (hx : Keeps s x.1) : Keeps s (l.foldl (fun x a =>
      let y := x.1.readWord r.party (if r.bar = 0 then 16 else r.bar - 16) a
      (y.1, x.2 ++ [y.2])) x).1 := by
    induction l generalizing x with
    | nil => exact hx
    | cons a l ih => exact ih _ (hx.trans (keeps_readWord x.1 _ _ a))
  exact hfold _ _ .refl

theorem keeps_grant (s : State) (a : BusAccess) : Keeps s (s.grant a) := by
  unfold State.grant
  split
  · split
    · exact keeps_askWrite s _
    · exact .ite _ (fun _ => Keeps.refl.foldl _ _ fun s _ => keeps_smbWrite s _ _) (fun _ => .refl)
    · exact keeps_partyWrite s _
  · split
    · exact keeps_askRead s _
    · exact (keeps_smbRead s _).onDev _
    · exact (keeps_partyRead s _).onDev _
  · exact Keeps.refl.onDev _

theorem keeps_meet (s : State) (r : RingRound) (e : HwEvent) : Keeps s (s.meet r e) := by
  cases e with
  | update sp a v => exact .ite _ (fun _ => .refl) (fun _ => Keeps.refl.onDev _)
  | indApply => exact (keeps_applyOldest s).trans (keeps_proceed _)

theorem keeps_nvmReadHeldTimeout {s t : State} (h : execNvmReadHeldTimeout s = .next t) : Keeps s t := by
  rw [← Host.Outcome.next.inj h]
  split
  · exact .ite _ (fun _ => .refl) (fun _ => (Keeps.refl.onDev _).trans (keeps_proceed _))
  · split
    · exact Keeps.refl.onDev _
    · exact .refl

/-! ## Every command -/

/-- Whatever a command answers has the queue it was given, and a flash in canonical form where it was given one: the
commands named work on the flash or through the endpoint, and every other one is a change of the device alone. -/
theorem exec_keeps {c : Instr} {s t : State} (h : exec c s = .next t) : Keeps s t := by
  cases c
  case nvmReadHeldTimeout => exact keeps_nvmReadHeldTimeout h
  all_goals rw [← Host.Outcome.next.inj h]
  case registerWrite r =>
    exact (Keeps.refl.foldl _ _ keeps_grant).foldl _ _ fun s e => keeps_meet s r e
  case moduleRemoval => exact keeps_losePower s _
  case powerDisable => exact keeps_losePower s _
  case inputPowerLoss => exact keeps_losePower s _
  case thermalTrip => exact keeps_losePower s _
  case resetPin => exact .ite _ (fun _ => (keeps_moduleReset s 1).onDev _) (fun _ => .refl)
  case fastStart => exact .ite _ (fun _ => keeps_fastCommand s) (fun _ => .refl)
  case settingsPeriodicWrite => exact .ite _ (fun _ => .refl) (fun _ => keeps_writeSettings s _)
  case modelSettingsWrite => exact keeps_modelWrite s
  case retentionRefreshSector => exact keeps_refreshStep s
  case romStage => exact .ite _ (fun _ => keeps_rom s) (fun _ => .refl)
  case fspImageLoaded => exact .ite _ (fun _ => keeps_loadFsp s) (fun _ => .refl)
  case tbpImageLoaded => exact .ite _ (fun _ => keeps_loadTbp s) (fun _ => .refl)
  case configStage => exact .ite _ (fun _ => keeps_config s) (fun _ => .refl)
  case ocxoWarmDeclared a b => exact keeps_warmDeclared s a b
  case fastDomainOn => exact .ite _ (fun _ => keeps_fastIsOn s) (fun _ => .refl)
  case glbResetFull => exact keeps_glbReset (fun _ => .refl) s _ _
  case glbResetFast => exact keeps_glbReset keeps_fastReset s _ _
  case glbResetCp => exact keeps_glbReset keeps_restartCp s _ _
  case glbResetSmc => exact keeps_glbReset keeps_restartSmc s _ _
  case fspWatchdog => exact keeps_fspDog s
  case processorWatchdog cpu => exact keeps_cpuDog s cpu
  case cfgCheck => exact (Keeps.refl.onDev _).trans (keeps_cfgTake (keeps_cfgCheck · _) _)
  case cfgActivate => exact (Keeps.refl.onDev _).trans (keeps_cfgTake (keeps_cfgActivate · _) _)
  case cfgReload => exact keeps_reloadTake s
  case updVerify => exact keeps_updTake keeps_updVerify s
  case updActivate => exact keeps_updTake keeps_updActivate s
  case updConfirm => exact keeps_trialCommand keeps_confirm s
  case updAbort => exact keeps_trialCommand (keeps_fallback · 5) s
  case updErase => exact keeps_updTake keeps_updErase s
  case updFlush => exact keeps_updTake keeps_updFlush s
  case liveStepComplete => exact keeps_stepComplete s
  case liveStepTimeout => exact keeps_stepTimeout s
  case confirmWindowExpired => exact keeps_windowEnds s
  case newCpTakeoverTimeout => exact .ite _ (fun _ => keeps_fallback s 2) (fun _ => .refl)
  case indDataWrite => exact keeps_askWrite s _
  case indQueueApply => exact (keeps_applyOldest s).trans (keeps_proceed _)
  case indDataRead => exact .ite _ (fun _ => keeps_ask s _) (fun _ => Keeps.refl.onDev _)
  case nvmEraseDone => exact (keeps_eraseDone s).trans (keeps_flashFree _)
  case nvmProgramDone => exact (keeps_programDone s).trans (keeps_flashFree _)
  case wideD3Read => exact .ite _ (fun _ => keeps_ask s _) (fun _ => Keeps.refl.onDev _)
  case tioRecordRead => exact keeps_askWord s _ _
  case ringAreaRead => exact keeps_askWord s _ _
  case alarmLogRead => exact keeps_askWord s _ _
  case smbWriteRegister => exact keeps_smbTake (keeps_smbWrite · _ _) s _ _
  case smbReadRegister => exact keeps_smbTake (fun s => (keeps_smbRead s _).onDev _) s _ _
  case smbWriteNvm => exact keeps_smbTake (keeps_smbWriteNvm · _ _) s _ _
  case smbReadNvm => exact keeps_smbTake (keeps_smbReadNvm · _) s _ _
  all_goals exact Keeps.refl.onDev _

end Sys2Proof.Laws

/-! The statements of 95_what_each_step_holds.md: the queue of commands, the state after reset, and the flash. -/

namespace Sys2Proof.Proofs

open Sys2Proof.Machine Sys2Proof.Safety Sys2Proof.Laws

theorem step_of_queue {s : State} {c : Instr} {rest : List Instr} (h : s.pending = c :: rest) :
    step s = exec c { s with pending := rest } := by
  simp only [step, h]

theorem step_of_empty {s : State} (h : s.pending = []) : step s = .next s.tick := by
  simp only [step, h]

/-- Settles O1: a step takes its command off the queue, and no command changes it (`exec_keeps`). -/
theorem queueOfCommands : Obligations.QueueOfCommands :=
  fun _ _ _ => ⟨step_of_queue, fun _ h => (exec_keeps h).pending, step_of_empty⟩

/-- Settles O2: after reset no register word is stored and every part is at its value after power-up. -/
theorem stateAfterReset : Obligations.StateAfterReset := by
  have hword (r : Reg) (u : Nat) : State.reset.dev.word r u = r.resetWord u := rfl
  have hchan (a b : Nat) : (State.reset.dev.chan a b).st = 0 := rfl
  refine ⟨hword, rfl, rfl, rfl, rfl, ?_, ?_, rfl, rfl, rfl, rfl, hchan⟩
  · decide
  · decide

/-- Settles O3: the step is a command of the queue or a clock cycle, and both keep the form. -/
theorem flashKeepsItsForm : Obligations.FlashKeepsItsForm := by
  intro s t hform hstep
  cases hqueue : s.pending with
  | nil =>
    rw [step_of_empty hqueue] at hstep
    rw [← Host.Outcome.next.inj hstep]
    exact (keeps_tick s).wf hform
  | cons c rest =>
    rw [step_of_queue hqueue] at hstep
    exact (exec_keeps hstep).wf hform

end Sys2Proof.Proofs

/-! SUPPORT. From the footprint of an operation to the frame of its command. -/

namespace Sys2Proof.Safety

open Sys2Proof.Machine Sys2Proof.Laws

variable {P Q : List Part} {R S : List Reg} {d : Dev} {s : State}

/-- A command that runs one operation of the device has every frame in which the operation's footprint lies. -/
theorem completes_frame {c : Instr} {f : Dev → Dev} (hexec : exec c s = .next (s.onDev f)) (h : Only Q S s.dev (f s.dev))
    (hQ : ∀ p ∈ Q, p ∈ P := by decide) (hS : ∀ r ∈ S, r ∈ R := by decide) : Completes c s (Frame P R s) :=
  ⟨_, hexec, h.weaken hQ hS, rfl, rfl⟩

/-! ## Operations that take an operation -/

theorem footprint_memFails (m : Nat) (k : ErrKind) (f : Dev → Dev) (h : Only Q S d (f d)) :
    Only (reports ++ Q) (alarmRegs ++ S) d (d.memFails m k f) :=
  Only.refl.memFails m k f ⟨fun _ hp => List.mem_append_left Q hp, fun _ hr => List.mem_append_left S hr⟩
    (h.weaken (fun _ => List.mem_append_right _) (fun _ => List.mem_append_right _))

theorem footprint_cpTakes (p : Nat) (f : Dev → Dev) (h : ∀ e, Only Q S e (f e)) :
    Only (.sys :: Q) (.PWR_STAT :: S) d (d.cpTakes p f) :=
  Only.refl.cpTakes p f List.mem_cons_self List.mem_cons_self fun x hx =>
    hx.andThen (h x) (fun _ => List.mem_cons_of_mem _) (fun _ => List.mem_cons_of_mem _)

theorem footprint_fdbCmd (op : Nat) (f : Dev → Dev) (h : ∀ e, Only Q S e (f e)) :
    Only Q (.SW_FDB_CMD :: S) d (d.reachFast (·.fdbCmd op f)) := by
  have hop : Only Q (.SW_FDB_CMD :: S) d (d.set F.SW_FDB_CMD_OP op) := .set .refl _ _ _ List.mem_cons_self
  refine Only.refl.reachFast _ (.ite _ (hop.set _ _ _ List.mem_cons_self) (hop.andThen (h _) (fun _ => id) ?_))
  exact fun _ => List.mem_cons_of_mem _

/-! ## Meanings that are not one operation -/

theorem only_writeTcmd (d : Dev) (t : TbId) {f : Fld} (hf : f.reg = .TB_TCMD) : Only [] [.TB_TCMD] d (d.writeTcmd t f) :=
  .ite _ (.set .refl _ _ _ (by decide)) <| .ite _ (.set .refl _ _ _ (by decide)) <| .ite _ (.set .refl _ _ _ (by decide)) <|
    .set (.set .refl _ _ _ (by simp [hf])) _ _ _ (by decide)

theorem only_cfgCommandDone (d : Dev) : Only [.sys] [.GLB_CFG_CMD] d (match d.sys.cfgRun with
    | some r => (d.set F.GLB_CFG_CMD_RESULT r).onSys (fun y => { y with cfgRun := none })
    | none => d) := by
  split
  · exact .onSys (.set .refl _ _ _ (by decide)) _ (by decide)
  · exact .refl

theorem only_outCfgThenRelock (d : Dev) (n : Nat) (v : Word) :
    Only [.twin, .syns, .outs, .counters, .latches, .ring, .log, .pcie, .sw, .ports, .sys, .sent] [.ALM_ACTIVE, .ALM_LATCH,
      .LANE_QUAD_STAT, .OUT_CFG, .OUT_STAT, .PWR_PORT_STAT, .PWR_STAT, .SW_BUF_GATED, .SYN_CMD, .SYN_STAT, .TB_HB_STAT,
      .TB_TAKEOVER] d (d.outCfgWrite n v).judgeRelock :=
  ((only_outCfgWrite d n v).weaken (by decide) (by decide)).judgeRelock (by decide) (by decide)

theorem only_calibrationStart (d : Dev) (c : TdcId) (k : CalCause) : Only [.cands] [.TIO_CMD, .TIO_STAT] d
    (match c, k with
      | .tio c, .recal => d.tioReg c.val (·.recal c.val)
      | .tio c, _ => d.calStart c.val
      | .refin _, .recal => d
      | .refin n, _ => d.refinCalStart n.val) := by
  cases c with
  | tio c =>
    have hstart := (only_calStart d c.val).weaken (P := [.cands]) (R := [.TIO_CMD, .TIO_STAT]) (by decide) (by decide)
    cases k with
    | recal => exact Only.refl.tioReg _ _ ((only_recal d c.val).weaken (by decide) (by decide))
    | _ => exact hstart
  | refin n =>
    have hstart := (only_refinCalStart d n.val).weaken (P := [.cands]) (R := [.TIO_CMD, .TIO_STAT]) (by decide) (by decide)
    cases k with
    | recal => exact .refl
    | _ => exact hstart

theorem only_calibrationComplete (d : Dev) (c : TdcId) (r : CalResult) :
    Only (reports ++ [.cands, .tio, .freeCtr]) (alarmRegs ++ [.RSEL_CAND_STAT, .TIO_CAL_STAT, .TIO_STAT]) d
      (match c with | .tio c => d.calDone c.val r | .refin n => d.refinCalDone n.val r) := by
  cases c with
  | tio c => exact (only_calDone d c.val r).weaken (by decide) (by decide)
  | refin n => exact (only_refinCalDone d n.val r).weaken (by decide) (by decide)

theorem only_disarmed (d : Dev) (c : Nat) : Only (reports ++ [.tio, .freeCtr]) (alarmRegs ++ [.TIO_CMD, .TIO_STAT]) d
    ((d.endMeas c 7).set F.TIO_CMD_RESULT 1 c) :=
  .set ((only_endMeas d c 7).weaken (by decide) (by decide)) _ _ _ (by decide)

theorem only_listPlace (d : Dev) (p : Nat) (l : ListPlace) (descriptor : Bool) :
    Only (reports ++ [.sw, .ports]) (alarmRegs ++ [.PWR_STAT, .SW_BUF_GATED]) d
      (match l with | .queued q n => d.listError p q.val n descriptor | .sending n => d.sendingError p n descriptor) := by
  cases l with
  | queued q n => exact (only_listError d p q.val n descriptor).weaken (by decide) (by decide)
  | sending n => exact (only_sendingError d p n descriptor).weaken (by decide) (by decide)

theorem startWindow_flash (s : State) : s.startWindow.flash = s.flash := by
  simp only [State.startWindow]
  split <;> rfl

/-- The declaration of a warm OCXO, with the window of the firmware trial that may start with it. -/
theorem frame_warmDeclared (s : State) (a b : Bool) :
    FrameReported [.tbA, .tbB, .twin, .syns, .outs, .sys] [.FIRN_OCXO_STAT, .GLB_BOOT_STAT, .OUT_STAT, .SYN_CMD, .SYN_STAT,
      .TB_ROLE, .UPD_CONFIRM_LEFT, .UPD_STAT] s (s.warmDeclared a b) := by
  have hdeclared := only_warmDeclared s.dev a b
  unfold State.warmDeclared
  dsimp only
  split
  · exact ⟨.refl, rfl, rfl⟩
  · split
    · have hwindow := only_startWindow (s.onDev (·.warmDeclared a b))
      refine ⟨(hdeclared.weaken (by decide) (by decide)).andThen hwindow (by decide) (by decide), ?_, ?_⟩
      · exact startWindow_flash _
      · exact (keeps_startWindow _).pending
    · exact ⟨hdeclared.weaken (by decide) (by decide), rfl, rfl⟩

end Sys2Proof.Safety

/-! The frames of the commands that change the device alone. -/

namespace Sys2Proof.Proofs

open Sys2Proof.Machine Sys2Proof.Safety Sys2Proof.Laws

/-- Settles O52: each clause is the footprint of the operation that the command runs. -/
theorem framesOfReferencesAndTime : Obligations.FramesOfReferencesAndTime := fun _ => ⟨
  fun _ _ => completes_frame rfl (only_powerGood _ _ _),
  fun _ => completes_frame rfl (only_oscillates _ _),
  fun _ => completes_frame rfl (only_warmTimeout _ _),
  fun _ => completes_frame rfl (only_servoUpdate _ _),
  completes_frame rfl (only_wtrExpired _),
  fun _ => completes_frame rfl (Only.refl.reach _ (only_writeTcmd _ _ rfl)),
  fun _ => completes_frame rfl (Only.refl.reach _ (only_writeTcmd _ _ rfl)),
  completes_frame rfl (only_leapApply _),
  fun _ => completes_frame rfl (Only.refl.reach _ (only_modelRestart _ _)),
  fun _ _ => completes_frame rfl (only_ppsEdge _ _ _),
  fun _ => completes_frame rfl (only_ppsWindowClose _ _),
  fun _ => completes_frame rfl (only_freqActivityLoss _ _),
  fun _ _ _ => completes_frame rfl (only_todinMessage _ _ _ _),
  fun _ => completes_frame rfl (only_todinLoss _ _),
  fun _ _ => completes_frame rfl (only_freqGateEnd _ _ _),
  fun _ => completes_frame rfl (only_candidateQualified _ _),
  fun _ _ => completes_frame rfl (Only.refl.reach _ (only_refinCfgWrite _ _ _)),
  completes_frame rfl (Only.refl.reach _ (only_skipWtr _)),
  completes_frame rfl (Only.refl.reach _ (only_clearBars _)),
  fun _ => completes_frame rfl (footprint_memFails _ _ _ (only_monitorError _ _)),
  completes_frame rfl (only_cfgCommandDone _),
  completes_frame (Q := [.sys]) (S := []) rfl (Only.refl.ite _ (Only.refl.onSys _ (by decide))),
  completes_frame (Q := [.sys]) (S := []) rfl (Only.refl.onSys _ (by decide)),
  fun _ _ => ⟨_, rfl, frame_warmDeclared _ _ _⟩⟩

/-- Settles O53: each clause is the footprint of the operation that the command runs. -/
theorem framesOfTheTwin : Obligations.FramesOfTheTwin := fun _ => ⟨
  fun _ => completes_frame rfl (only_standbyLoad _ _),
  fun _ => completes_frame rfl (only_standbyTracking _ _),
  fun _ => completes_frame rfl (only_standbyReady _ _),
  fun _ => completes_frame rfl (only_standbyLost _ _),
  fun _ => completes_frame rfl (only_standbyFault _ _),
  completes_frame rfl (only_standbyNotReady _),
  fun _ => completes_frame rfl (only_heartbeatEmit _ _),
  fun _ => completes_frame rfl (only_heartbeatReceived _ _),
  fun _ _ => completes_frame rfl (only_heartbeatMiss _ _ _),
  fun _ _ _ => completes_frame rfl (only_mirrorReplayDone _ _ _ _),
  completes_frame rfl (only_failureDeclared _),
  fun _ => completes_frame rfl (only_checkpoint _ _),
  completes_frame rfl (Only.refl.reach _ (only_twinSwitch _)),
  completes_frame rfl (only_handover _),
  completes_frame rfl (only_revertExpired _),
  completes_frame rfl (Only.refl.reach _ (only_standbyOff _)),
  completes_frame rfl (Only.refl.reach _ (only_standbyOn _))⟩

/-- Settles O54: each clause is the footprint of the operation that the command runs. -/
theorem framesOfSynthesis : Obligations.FramesOfSynthesis := fun _ => ⟨
  fun _ _ => completes_frame rfl (Only.refl.synReg _ _ (only_synCfgWrite _ _ _)),
  fun _ _ _ _ _ => completes_frame rfl (Only.refl.synReg _ _ (only_bandEntryWrite _ _ _ _ _ _)),
  fun _ _ => completes_frame rfl (Only.refl.synReg _ _ (only_synFreqHiWrite _ _ _)),
  fun _ => completes_frame rfl (only_lockDeclared _ _),
  fun _ => completes_frame rfl (only_synAcqTimeout _ _),
  fun _ => completes_frame rfl (only_synUnlock _ _),
  fun _ => completes_frame rfl (Only.refl.synReg _ _ (only_retune _ _)),
  fun _ => completes_frame rfl (Only.refl.synReg _ _ (only_synStep _ _)),
  fun _ => completes_frame rfl (Only.refl.synReg _ _ (only_synStepAt _ _)),
  fun _ => completes_frame rfl (only_stepAtStart _ _),
  fun _ => completes_frame rfl (Only.refl.synReg _ _ (only_synResync _ _)),
  fun _ => completes_frame rfl (Only.refl.synReg _ _ (only_synCancel _ _)),
  fun _ => completes_frame rfl (only_stepComplete _ _),
  fun _ _ => completes_frame rfl (Only.refl.reach _ (only_outCfgThenRelock _ _ _)),
  fun _ _ => completes_frame rfl (Only.refl.reach _ (only_outPerHiWrite _ _ _)),
  fun _ _ => completes_frame rfl (Only.refl.reach _ (only_outAlignWrite _ _ _)),
  fun _ => completes_frame rfl (only_outputStart _ _),
  fun _ => completes_frame rfl (Only.refl.reach _ (only_outAlign _ _)),
  fun _ => completes_frame rfl (Only.refl.reach _ (only_outArm _ _)),
  fun _ => completes_frame rfl (Only.refl.reach _ (only_outDisarm _ _)),
  fun _ => completes_frame rfl (only_alignedEdge _ _)⟩

/-- Settles O55: each clause is the footprint of the operation that the command runs. -/
theorem framesOfLanes : Obligations.FramesOfLanes := fun _ => ⟨
  fun _ _ => completes_frame rfl (Only.refl.quadAccess _ _ (only_quadCfgWrite _ _ _)),
  fun _ _ _ => completes_frame rfl (only_bringPhase _ _ _ _),
  fun _ => completes_frame rfl (only_bringTimeout _ _),
  fun _ => completes_frame rfl (only_linkComesUp _ _),
  fun _ => completes_frame rfl (only_lossOfSignal _ _),
  fun _ => completes_frame rfl (only_lockLost _ _),
  fun _ _ _ _ => completes_frame rfl (only_degradeWindow _ _ _ _ _),
  fun _ => completes_frame rfl (only_laneFault _ _),
  fun _ _ => completes_frame rfl (Only.refl.quadAccess _ _ (only_laneTestWrite _ _ _)),
  fun _ => completes_frame rfl (only_chkGained _ _),
  fun _ _ => completes_frame rfl (only_chkLost _ _ _ _),
  fun _ _ => completes_frame rfl (Only.refl.quadAccess _ _ (only_laneCfgWrite _ _ _)),
  fun _ => completes_frame rfl (Only.refl.quadAccess _ _ (only_quadRestart _ _)),
  fun _ _ => completes_frame rfl (Only.refl.quadAccess _ _ (only_quadCfgWrite _ _ _)),
  fun _ => completes_frame rfl (only_sleepDecision _ _),
  fun _ _ _ => completes_frame rfl (only_noticeReceived _ _ _ _),
  fun _ _ _ => completes_frame rfl (only_sleepEntry _ _ _ _),
  fun _ => completes_frame rfl (only_deepening _ _),
  fun _ _ => completes_frame rfl (only_burstLead _ _ _),
  fun _ => completes_frame rfl (only_refreshBurst _ _),
  fun _ _ => completes_frame rfl (only_burstReceived _ _ _),
  fun _ => completes_frame rfl (only_burstMissed _ _),
  fun _ _ => completes_frame rfl (only_wakeDecision _ _ _),
  fun _ _ => completes_frame rfl (only_wakeGuardEnd _ _ _),
  fun _ _ _ _ => completes_frame rfl (only_rxWake _ _ _ _ _),
  fun _ => completes_frame rfl (only_smcMoves _ _),
  fun _ => completes_frame rfl (only_helloSend _ _),
  fun _ _ _ => completes_frame rfl (only_helloReceived _ _ _ _),
  fun _ => completes_frame rfl (only_partnerLost _ _)⟩

/-- Settles O56: each clause is the footprint of the operation that the command runs; a received message also wakes the CP. -/
theorem framesOfPtp : Obligations.FramesOfPtp := fun _ => ⟨
  fun _ _ _ _ => completes_frame rfl (only_beatSample _ _ _ _ _),
  fun _ _ _ => completes_frame rfl (footprint_cpTakes _ _ fun e => only_syncIn e _ _ _),
  fun _ _ => completes_frame rfl (footprint_cpTakes _ _ fun e => only_followUpIn e _ _),
  fun _ _ _ => completes_frame rfl (footprint_cpTakes _ _ fun e => only_announceIn e _ _ _),
  fun _ _ _ => completes_frame rfl (footprint_cpTakes _ _ fun e => only_delayReqIn e _ _ _),
  fun _ _ => completes_frame rfl (footprint_cpTakes _ _ fun e => only_delayRespIn e _ _),
  fun _ _ _ _ => completes_frame rfl (footprint_cpTakes _ _ fun e => only_pdelayReqIn e _ _ _ _),
  fun _ _ => completes_frame rfl (footprint_cpTakes _ _ fun e => only_pdelayRespIn e _ _),
  fun _ _ => completes_frame rfl (Only.refl.whileCp _ (only_syncOut _ _ _)),
  fun _ => completes_frame rfl (Only.refl.whileCp _ (only_followUpOut _ _)),
  fun _ => completes_frame rfl (Only.refl.whileCp _ (only_announceOut _ _)),
  fun _ _ => completes_frame rfl (Only.refl.whileCp _ (only_delayReqOut _ _ _)),
  fun _ _ => completes_frame rfl (Only.refl.whileCp _ (only_delayRefresh _ _ _)),
  fun _ _ => completes_frame rfl (Only.refl.whileCp _ (only_receiptTimeout _ _ _)),
  fun _ => completes_frame rfl (Only.refl.whileCp _ (only_bmca _ _)),
  fun _ _ => completes_frame rfl (Only.refl.portReg _ _ (only_writePtpCfg _ _ _)),
  fun _ _ => completes_frame rfl (Only.refl.portReg _ _ (only_revBegin _ _ _)),
  fun _ => completes_frame rfl (only_revMeasured _ _),
  fun _ => completes_frame rfl (only_revTimeout _ _),
  fun _ => completes_frame rfl (Only.refl.portReg _ _ (only_revFinish _ _)),
  fun _ => completes_frame rfl (Only.refl.portReg _ _ (only_revApply _ _)),
  fun _ => completes_frame rfl (Only.refl.portReg _ _ (only_revAbort _ _)),
  fun _ _ _ => completes_frame rfl (footprint_cpTakes _ _ fun e => only_signalingIn e _ _ _)⟩

/-- Settles O57: each clause is the footprint of the operation that the command runs. -/
theorem framesOfTioAndMail : Obligations.FramesOfTioAndMail := fun _ => ⟨
  fun _ _ => completes_frame rfl (Only.refl.tioReg _ _ (only_writeTioCfg _ _ _)),
  fun _ _ => completes_frame rfl (only_calibrationStart _ _ _),
  fun _ _ => completes_frame rfl (only_calibrationComplete _ _ _),
  fun _ _ _ _ => completes_frame rfl (only_tioEdgeIn _ _ _ _ _),
  fun _ => completes_frame rfl (only_noEdge _ _),
  fun _ => completes_frame rfl (Only.refl.tioReg _ _ (only_armTio _ _)),
  fun _ => completes_frame rfl (Only.refl.tioReg _ _ (only_disarmed _ _)),
  fun _ => completes_frame rfl (only_endMeas _ _ _),
  fun _ => completes_frame rfl (Only.refl.tioReg _ _ (only_startTio _ _)),
  fun _ => completes_frame rfl (only_tioEdgeOut _ _),
  fun _ => completes_frame rfl (Only.refl.tioReg _ _ (only_cancelTio _ _)),
  fun _ _ => completes_frame rfl (footprint_memFails _ _ _ (only_fifoFault _ _ _)),
  fun _ => completes_frame rfl (footprint_memFails _ _ _ (only_outEngineFault _ _)),
  fun _ _ _ => completes_frame rfl (only_mbxPost _ _ _ _),
  fun _ _ => completes_frame rfl (only_mbxWithdraw _ _ _),
  fun _ _ => completes_frame rfl (only_mbxTake _ _ _),
  fun _ _ _ _ => completes_frame rfl (only_mbxAck _ _ _ _ _),
  fun _ _ => completes_frame rfl (only_mbxRelease _ _ _),
  fun _ _ => completes_frame rfl (footprint_memFails _ _ _ (only_mbxFault _ _ _)),
  completes_frame rfl (only_hostRestart _),
  fun _ _ => completes_frame rfl (Only.refl.reachFast _ (only_cntDataWrite _ _ _)),
  fun _ => completes_frame rfl (Only.refl.reachFast _ (only_cntCfgWrite _ _)),
  completes_frame rfl (only_ringBoundary _),
  completes_frame rfl (only_hostRing _),
  completes_frame rfl (only_telemetry _),
  fun _ _ => completes_frame rfl (Only.refl.globReach _ (only_clearLatch _ _ _)),
  fun _ => completes_frame rfl (Only.refl.globReach _ (only_reEnable _ _))⟩

/-- Settles O58: each clause is the footprint of the operation that the command runs. -/
theorem framesOfTheSwitch : Obligations.FramesOfTheSwitch := fun _ => ⟨
  fun _ _ => completes_frame rfl (only_frameIn _ _ _),
  fun _ _ => completes_frame rfl (only_verdict _ _ _),
  fun _ _ => completes_frame rfl (only_frameCommit _ _ _),
  fun _ => completes_frame rfl (only_transmitDone _ _),
  completes_frame rfl (only_ageingSweep _),
  completes_frame rfl (footprint_fdbCmd _ _ fun e => only_fdbLookup e),
  completes_frame rfl (footprint_fdbCmd _ _ fun e => only_fdbInsert e),
  completes_frame rfl (footprint_fdbCmd _ _ fun e => only_fdbDelete e),
  fun _ => completes_frame rfl (footprint_fdbCmd _ _ fun e => only_fdbRead e _),
  fun _ _ _ => completes_frame rfl (footprint_fdbCmd _ _ fun e => only_fdbFlush e _ _ _),
  completes_frame rfl (only_fdbFlushDone _),
  fun _ => completes_frame rfl (footprint_fdbCmd _ _ fun e => (only_fdbResult e 5).ite _ .refl),
  fun _ _ => completes_frame rfl (footprint_memFails _ _ _ (only_cellError _ _ _)),
  fun _ _ _ _ => completes_frame rfl (footprint_memFails _ _ _ (only_listPlace _ _ _ _)),
  fun _ _ => completes_frame rfl (footprint_memFails _ _ _ (only_tableError _ _ _)),
  fun _ => completes_frame rfl (only_auditPass _ _),
  fun _ => completes_frame rfl (only_recovTimeout _ _),
  fun _ => completes_frame rfl (only_holdRelease _ _),
  fun _ _ _ => completes_frame rfl (Only.refl.reachFast _ (only_writeRecov _ _ _ _)),
  fun _ _ _ => completes_frame rfl (Only.refl.reachFast _ (only_writeMeter _ _ _ _)),
  fun _ => completes_frame rfl (Only.refl.when _ _ (only_refreshGates _ _)),
  fun _ _ _ => completes_frame rfl (Only.refl.reachFast _ (Only.refl.when _ _ (only_gateWrite _ _ _ _))),
  fun _ _ _ _ => completes_frame rfl (Only.refl.reachFast _ (Only.refl.when _ _ (only_queueWrite _ _ _ _ _))),
  fun _ => completes_frame rfl (only_repredictDone _ _)⟩

end Sys2Proof.Proofs

/-! SUPPORT. Laws of fields and of completion that the statements of every chapter rest on. -/

namespace Sys2Proof.Laws

open Sys2Proof.Machine Sys2Proof.Safety

variable (d : Dev)

/-! ## Completion -/

/-- A command that answers a known state completes with what holds of that state. -/
theorem completes_of_next {c : Instr} {s t : State} {Q : State → Prop} (hexec : exec c s = .next t) (h : Q t) :
    Completes c s Q := ⟨t, hexec, h⟩

/-- A command that runs an operation of the device completes with what holds of the changed device. -/
theorem completes_onDev {c : Instr} {s : State} {f : Dev → Dev} {Q : State → Prop} (hexec : exec c s = .next (s.onDev f))
    (h : Q (s.onDev f)) : Completes c s Q := ⟨_, hexec, h⟩

/-! ## One-bit fields -/

theorem bitNat_mod_two (b : Bool) : bitNat b % 2 = bitNat b := by cases b <;> rfl
@[simp] theorem bitNat_beq_one (b : Bool) : (bitNat b == 1) = b := by cases b <;> rfl

theorem flag_setB_same (f : Fld) (b : Bool) (u : Nat) (h : f.lo + f.width ≤ 32) (hw : f.width = 1) :
    (d.setB f b u).flag f u = b := by
  simp only [Dev.flag, Dev.setB, get_set_same d f _ u h, hw, Nat.pow_one, bitNat_mod_two, bitNat_beq_one]

theorem get_setB_apart (f g : Fld) (b : Bool) (u w : Nat) (h : f.lo + f.width ≤ 32) (ha : apart f g = true) :
    (d.setB f b u).get g w = d.get g w := get_set_apart d f g _ u w h ha

theorem flag_set_apart (f g : Fld) (v u w : Nat) (h : f.lo + f.width ≤ 32) (ha : apart f g = true) :
    (d.set f v u).flag g w = d.flag g w := by simp only [Dev.flag, get_set_apart d f g v u w h ha]

theorem flag_setB_apart (f g : Fld) (b : Bool) (u w : Nat) (h : f.lo + f.width ≤ 32) (ha : apart f g = true) :
    (d.setB f b u).flag g w = d.flag g w := flag_set_apart d f g _ u w h ha

theorem flag_setMark_same (f ch : Fld) (b : Bool) (u : Nat) (h : f.lo + f.width ≤ 32) (h' : ch.lo + ch.width ≤ 32)
    (ha : apart ch f = true) (hw : f.width = 1) : (d.setMark f (bitNat b) ch u).flag f u = b := by
  simp only [Dev.flag, get_setMark_same d f ch _ u h h' ha, hw, Nat.pow_one, bitNat_mod_two, bitNat_beq_one]

theorem flag_setMark_apart (f ch g : Fld) (v u w : Nat) (h : f.lo + f.width ≤ 32) (h' : ch.lo + ch.width ≤ 32)
    (ha : apart f g = true) (hb : apart ch g = true) : (d.setMark f v ch u).flag g w = d.flag g w := by
  simp only [Dev.flag, get_setMark_apart d f ch g v u w h h' ha hb]

theorem get_setMark_unit (f ch g : Fld) (v u w : Nat) (h : w ≠ u) : (d.setMark f v ch u).get g w = d.get g w := by
  unfold Dev.setMark
  split
  · rfl
  · rw [get_set_unit _ _ _ _ _ _ h, get_set_unit _ _ _ _ _ _ h]

theorem word_setMark_unit (f ch : Fld) (r : Reg) (v u w : Nat) (h : w ≠ u) : (d.setMark f v ch u).word r w = d.word r w := by
  unfold Dev.setMark
  split
  · rfl
  · rw [word_set_other _ _ _ _ _ _ (fun e => h e.2), word_set_other _ _ _ _ _ _ (fun e => h e.2)]

/-! ## The stage of start-up -/

theorem setStage_stage (v : Nat) : (d.setStage v).stage = v % 16 :=
  get_setMark_same d _ _ _ _ (by decide) (by decide) (by decide)

/-- STAGE stores beside every other field but its CHANGED flag. -/
theorem setStage_get (v : Nat) (g : Fld) (u : Nat) (hg : apart F.GLB_BOOT_STAT_STAGE g = true)
    (hc : apart F.GLB_BOOT_STAT_CHANGED g = true) : (d.setStage v).get g u = d.get g u :=
  get_setMark_apart d _ _ _ _ _ _ (by decide) (by decide) hg hc

theorem stage_of_word {d e : Dev} (h : e.word .GLB_BOOT_STAT 0 = d.word .GLB_BOOT_STAT 0) : e.stage = d.stage := by
  simp only [Dev.stage, Dev.get]
  exact congrArg (fun w : Word => bitsOf w.toNat _ _) h

end Sys2Proof.Laws

namespace Sys2Proof.Safety

open Sys2Proof.Machine Sys2Proof.Laws

variable {P : List Part} {R : List Reg} {d e : Dev}

theorem Only.flag (h : Only P R d e) (g : Fld) (u : Nat) (hg : g.reg ∉ R) : e.flag g u = d.flag g u := by
  simp only [Dev.flag, h.get g u hg]

theorem Only.stage (h : Only P R d e) (hr : Reg.GLB_BOOT_STAT ∉ R) : e.stage = d.stage := h.get _ _ hr

theorem Only.inForce (h : Only P R d e) (hp : Part.applied ∉ P) (g : Fld) (u : Nat) : e.inForce g u = d.inForce g u := by
  simp only [Dev.inForce, show e.applied = d.applied from h.part .applied hp]

theorem Only.inForceFlag (h : Only P R d e) (hp : Part.applied ∉ P) (g : Fld) (u : Nat) :
    e.inForceFlag g u = d.inForceFlag g u := by
  simp only [Dev.inForceFlag, h.inForce hp]

theorem Only.sys (h : Only P R d e) (hp : Part.sys ∉ P) : e.sys = d.sys := h.part .sys hp

end Sys2Proof.Safety

/-! SUPPORT. Laws of the commands of the timebases: what a servo update makes of TB_TCMD and TB_MODEL_CMD. -/

namespace Sys2Proof.Laws

open Sys2Proof.Machine Sys2Proof.Safety

section
variable (d : Dev) (t : TbId)

theorem mirrorBy_mir (f : Mirrored → Mirrored) : (d.mirrorBy f).mir = f d.mir := by
  unfold Dev.mirrorBy Dev.mirror
  split
  case isTrue h => exact h.symm
  case isFalse =>
    dsimp only
    unfold Dev.when
    split
    · exact (only_takeCheckpoint _).part .mir (by decide)
    · rfl

theorem takeCheckpoint_active : d.takeCheckpoint.twin.active = d.twin.active := by
  have hwrite : d.writeCheckpoint.twin.active = d.twin.active := rfl
  unfold Dev.takeCheckpoint
  dsimp only
  rw [when_keeps _ (·.twin.active) _ _ ?_, hwrite]
  unfold Dev.verify
  split <;> rfl

theorem mirrorBy_active (f : Mirrored → Mirrored) : (d.mirrorBy f).twin.active = d.twin.active := by
  unfold Dev.mirrorBy Dev.mirror
  split
  · rfl
  · dsimp only
    rw [when_keeps _ (·.twin.active) _ _ (takeCheckpoint_active _)]
    rfl

theorem setState_active (st : TState) : (d.setState st).twin.active = d.twin.active := by
  unfold Dev.setState
  split
  · rfl
  · dsimp only
    rw [(only_statusMoved _).active (by decide), cond_twin, countDev_twin, setB_twin, setB_twin, mirrorBy_active]

theorem setState_mir_state (st : TState) : (d.setState st).mir.state = st := by
  unfold Dev.setState
  split
  case isTrue h => exact h
  case isFalse =>
    dsimp only
    rw [(only_statusMoved _).part .mir (by decide), cond_mir, countDev_mir, setB_mir, setB_mir, mirrorBy_mir]

theorem startLoop_mir_state (id : Nat) (preset : Bool) : (d.startLoop t id preset).mir.state = d.mir.state := by
  unfold Dev.startLoop
  dsimp only
  rw [mirrorBy_mir, onRsel_mir]
  split <;> simp

theorem startLoop_counter (x : TbId) (id : Nat) (preset : Bool) :
    ((d.startLoop t id preset).tb x).counter = (d.tb x).counter := by
  unfold Dev.startLoop
  dsimp only
  rw [(only_mirrorBy _ _).tb (by decide) (by decide)]
  cases preset <;> cases t <;> cases x <;> rfl

theorem startLoop_active (id : Nat) (preset : Bool) : (d.startLoop t id preset).twin.active = d.twin.active := by
  unfold Dev.startLoop
  dsimp only
  rw [mirrorBy_active, onRsel_twin]
  split <;> simp

theorem stepCounter_active (x : Int) : (d.stepCounter x).twin.active = d.twin.active := by
  unfold Dev.stepCounter
  split
  · rfl
  · dsimp only
    rw [(only_timeStepped _ _).active (by decide)]
    split <;> simp

/-- The active counter moves by a step of device time. -/
theorem stepCounter_counter {x : Int} (hactive : d.twin.active = some t) :
    ((d.stepCounter x).tb t).counter = shiftTicks (d.tb t).counter x := by
  simp only [Dev.stepCounter, hactive]
  rw [(only_timeStepped _ _).tb (by decide) (by decide), onTwin_tb]
  cases t <;> split <;> rfl

end

section
variable {d : Dev} {t : TbId}

/-- The end of a waiting command is a result in the active timebase's space. -/
theorem tcmdDone_result {r : Nat} (hactive : d.twin.active = some t) :
    (d.tcmdDone r).get F.TB_TCMD_RESULT t.num = r % 16 := by
  simp only [Dev.tcmdDone, hactive]
  rw [(only_mirrorBy _ _).get F.TB_TCMD_RESULT _ (by decide)]
  exact get_set_same _ _ _ _ (by decide)

theorem tcmdDone_mir_state (r : Nat) : (d.tcmdDone r).mir.state = d.mir.state := by
  unfold Dev.tcmdDone
  split
  · rfl
  · rw [mirrorBy_mir]; rfl

theorem tcmdDone_tb (r : Nat) (x : TbId) : (d.tcmdDone r).tb x = d.tb x :=
  (only_tcmdDone d r).tb (by decide) (by decide) x

/-- What lifts every bar is a flag of each candidate. -/
def unbarAll (d : Dev) : Dev := d.each (List.range 36) (fun d i => d.candFlag F.RSEL_CAND_STAT_BARRED i false)

theorem only_unbarAll (d : Dev) : Only [] [.RSEL_CAND_STAT] d (unbarAll d) :=
  .each .refl _ _ fun _ _ => .setMark .refl _ _ _ _ (by decide) (by decide)

theorem takeTcmd_of_jump (hsuspect : d.suspect = none) (hwork : d.pendingWork = false) (hwaiting : d.tcmdWaiting = 1)
    (hstate : d.mir.state = .jumpHeld) (htime : 0 ≤ ((d.tb t).counter : Int) + d.mir.held) :
    ∃ sel, d.takeTcmd t = ((((unbarAll (d.stepCounter d.mir.held)).setState .acquiring).startLoop t sel true).tcmdDone 1) := by
  refine ⟨(unbarAll (d.stepCounter d.mir.held)).get F.RSEL_SEL_SELECTED, ?_⟩
  simp [Dev.takeTcmd, hwaiting, hsuspect, hstate, hwork, Int.not_lt.mpr htime, unbarAll]

theorem takeTcmd_of_set {x : Ticks} (hsuspect : d.suspect = none) (hwork : d.pendingWork = false)
    (hwaiting : d.tcmdWaiting = 2) (hstate : d.mir.state = .freerun)
    (hx : ticksOf (d.word .TB_TSET0 t.num) (d.word .TB_TSET1 t.num) (d.word .TB_TSET2 t.num) (d.word .TB_TSET3 t.num) = some x) :
    d.takeTcmd t = (d.stepCounter ((x : Int) - (d.tb t).counter)).tcmdDone 1 := by
  simp [Dev.takeTcmd, hwaiting, hsuspect, hstate, hwork, hx]

/-- ACCEPT_JUMP taken in JUMP_HELD: the counter moves by the held offset, and the loop acquires (R42). -/
theorem takeTcmd_jump (hactive : d.twin.active = some t) (hsuspect : d.suspect = none) (hwork : d.pendingWork = false)
    (hwaiting : d.tcmdWaiting = 1) (hstate : d.mir.state = .jumpHeld) (htime : 0 ≤ ((d.tb t).counter : Int) + d.mir.held) :
    ((d.takeTcmd t).tb t).counter = shiftTicks (d.tb t).counter d.mir.held ∧
      (d.takeTcmd t).mir.state = .acquiring ∧ (d.takeTcmd t).get F.TB_TCMD_RESULT t.num = 1 := by
  obtain ⟨sel, hjump⟩ := takeTcmd_of_jump hsuspect hwork hwaiting hstate htime
  rw [hjump]
  refine ⟨?_, ?_, ?_⟩
  · rw [tcmdDone_tb, startLoop_counter, (only_setState _ _).tb (by decide) (by decide),
      (only_unbarAll _).tb (by decide) (by decide), stepCounter_counter d t hactive]
  · rw [tcmdDone_mir_state, startLoop_mir_state, setState_mir_state]
  · refine tcmdDone_result ?_
    have hstep : (d.stepCounter d.mir.held).twin.active = some t := by rw [stepCounter_active, hactive]
    rw [startLoop_active, setState_active, (only_unbarAll _).active (by decide), hstep]

/-- TIME_SET taken in FREERUN: the counter becomes the time that was set (R43). -/
theorem takeTcmd_set {x : Ticks} (hactive : d.twin.active = some t) (hsuspect : d.suspect = none)
    (hwork : d.pendingWork = false) (hwaiting : d.tcmdWaiting = 2) (hstate : d.mir.state = .freerun)
    (hx : ticksOf (d.word .TB_TSET0 t.num) (d.word .TB_TSET1 t.num) (d.word .TB_TSET2 t.num) (d.word .TB_TSET3 t.num) = some x) :
    ((d.takeTcmd t).tb t).counter = x ∧ (d.takeTcmd t).mir.state = .freerun ∧
      (d.takeTcmd t).get F.TB_TCMD_RESULT t.num = 1 := by
  rw [takeTcmd_of_set hsuspect hwork hwaiting hstate hx]
  refine ⟨?_, ?_, ?_⟩
  · rw [tcmdDone_tb, stepCounter_counter d t hactive]
    simp [shiftTicks]
  · rw [tcmdDone_mir_state, (only_stepCounter _ _).part .mir (by decide), hstate]
  · exact tcmdDone_result (by rw [stepCounter_active, hactive])

theorem takeRestart_of_learning (hset : d.flag F.TB_MODEL_CMD_RESTART t.num = true) (hhold : d.mir.state ≠ .holdover)
    (hjump : d.mir.state ≠ .jumpHeld) : ∃ x : Dev, d.takeRestart t =
      ((x.onTb t (fun b => { b with learnMs := 0, ageing := 0, tempCo := 0, seeded := false, savedH := 0 })).setWord
        .TB_MODEL_STAT t.num 0).set F.TB_MODEL_CMD_RESULT 1 t.num ∧ x.flag F.TB_MODEL_CMD_RESTART t.num = false := by
  refine ⟨d.set F.TB_MODEL_CMD_RESTART 0 t.num, by simp [Dev.takeRestart, hset, hhold, hjump], ?_⟩
  simp only [Dev.flag, get_set_same d F.TB_MODEL_CMD_RESTART 0 t.num (by decide)]
  rfl

theorem takeRestart_of_held (hset : d.flag F.TB_MODEL_CMD_RESTART t.num = true)
    (hheld : d.mir.state = .holdover ∨ d.mir.state = .jumpHeld) :
    d.takeRestart t = (d.set F.TB_MODEL_CMD_RESTART 0 t.num).set F.TB_MODEL_CMD_RESULT 2 t.num := by
  rw [Dev.takeRestart, if_neg (by simp [hset])]
  refine if_pos ?_
  rw [set_mir]
  rcases hheld with h | h <;> rw [h] <;> rfl

end

theorem leapApply_mir {d : Dev} (h : (d.mir.leap61 || d.mir.leap59) = true) : d.leapApply.mir = { d.mir with
    utcOffset := if d.mir.leap61 then d.mir.utcOffset + 1 else d.mir.utcOffset - 1, leap61 := false, leap59 := false
    leapGuard := some (86400000, if d.mir.leap61 then d.mir.utcOffset + 1 else d.mir.utcOffset - 1) } := by
  rw [Dev.leapApply, if_pos h]
  exact mirrorBy_mir d _

end Sys2Proof.Laws

/-! More statements of 02_device_time.md. -/

namespace Sys2Proof.Proofs

open Sys2Proof.Machine Sys2Proof.Safety Sys2Proof.Laws

/-- A command that is accepted in the active timebase's space waits there (R49). -/
theorem completes_waitingTcmd {c : Instr} {s : State} {t : TbId} {f : Fld} (hexec : exec c s = .next (s.onDev (·.reach (·.writeTcmd t f))))
    (hf : f ∈ tcmdFlds) (hreach : s.dev.firnReach = true) (hactive : s.dev.twin.active = some t) (hsuspect : s.dev.suspect = none)
    (hnone : s.dev.tcmdWaiting = 0) : Completes c s (fun u => u.dev.flag f t.num = true ∧ u.dev.get F.TB_TCMD_RESULT t.num = 7 ∧
      Frame [] [.TB_TCMD] s u) := by
  have hfit := tcmdFlds_fit f hf
  have hreg : f.reg = .TB_TCMD := (by decide : ∀ f ∈ tcmdFlds, f.reg = .TB_TCMD) f hf
  have hone : 1 % 2 ^ f.width = 1 := (by decide : ∀ f ∈ tcmdFlds, 1 % 2 ^ f.width = 1) f hf
  refine ⟨_, hexec, ?_⟩
  have hdev : (s.onDev (·.reach (·.writeTcmd t f))).dev = (s.dev.set f 1 t.num).set F.TB_TCMD_RESULT 7 t.num := by
    simp only [onDev_dev, Dev.reach, hreach, if_true, writeTcmd_of_accepted f hactive hsuspect hnone]
  refine ⟨?_, ?_, ?_, rfl, rfl⟩
  · rw [hdev, Dev.flag, get_set_apart _ _ f _ _ _ (by decide) (tcmdFlds_apart_result f hf), get_set_same _ _ _ _ hfit, hone]
    rfl
  · rw [hdev]
    exact get_set_same _ _ _ _ (by decide)
  · rw [hdev]
    exact .set (.set .refl _ _ _ (by simp [hreg])) _ _ _ (by decide)

theorem completes_refusedTcmd {c : Instr} {s : State} {t : TbId} {f : Fld} (hexec : exec c s = .next (s.onDev (·.reach (·.writeTcmd t f))))
    (hreach : s.dev.firnReach = true) (hactive : s.dev.twin.active ≠ some t) : Completes c s (fun u =>
      u.dev.get F.TB_TCMD_RESULT t.num = 5 ∧ Frame [] [.TB_TCMD] s u) := by
  refine ⟨_, hexec, ?_⟩
  have hdev : (s.onDev (·.reach (·.writeTcmd t f))).dev = s.dev.set F.TB_TCMD_RESULT 5 t.num := by
    simp only [onDev_dev, Dev.reach, hreach, if_true, writeTcmd_of_refused f hactive]
  refine ⟨?_, ?_, rfl, rfl⟩
  · rw [hdev]
    exact get_set_same _ _ _ _ (by decide)
  · rw [hdev]
    exact .set .refl _ _ _ (by decide)

/-- Settles O11: a command of TB_TCMD waits in the active space alone, and the update that takes it moves the counter once,
which what follows (the bars, the state, the loop, the result) leaves. -/
theorem timeCommands : Obligations.TimeCommands := by
  refine ⟨fun s t x hactive hsuspect => ⟨fun hreach => ⟨fun hnone => ⟨?_, ?_⟩, ?_, ?_⟩, ?_, ?_⟩,
    fun s t => ⟨?leap61, ?leap59, ?restart, ?learned, ?held⟩⟩
  · exact completes_waitingTcmd rfl (by decide) hreach hactive hsuspect hnone
  · exact completes_waitingTcmd rfl (by decide) hreach hactive hsuspect hnone
  · exact completes_refusedTcmd (f := F.TB_TCMD_ACCEPT_JUMP) rfl hreach (by rw [hactive]; cases t <;> decide)
  · exact completes_refusedTcmd (f := F.TB_TCMD_TIME_SET) rfl hreach (by rw [hactive]; cases t <;> decide)
  · exact fun hwork hwaiting hstate htime => takeTcmd_jump hactive hsuspect hwork hwaiting hstate htime
  · exact fun hwork hwaiting hstate hx => takeTcmd_set hactive hsuspect hwork hwaiting hstate hx
  case leap61 =>
    intro h61
    refine ⟨_, rfl, ?_⟩
    dsimp only
    rw [onDev_dev, leapApply_mir (by simp [h61])]
    simp [h61]
  case leap59 =>
    intro h61 h59
    refine ⟨_, rfl, ?_⟩
    dsimp only
    rw [onDev_dev, leapApply_mir (by simp [h59])]
    simp [h61]
  case restart =>
    intro hreach
    have hdev : (s.onDev (·.reach (·.modelRestart t))).dev = s.dev.set F.TB_MODEL_CMD_RESTART 1 t.num := by
      simp only [onDev_dev, Dev.reach, hreach, if_true, Dev.modelRestart]
    refine ⟨_, rfl, ?_, ?_, rfl, rfl⟩
    · rw [hdev, Dev.flag, get_set_same _ _ _ _ (by decide)]
      rfl
    · rw [hdev]
      exact .set .refl _ _ _ (by decide)
  case learned =>
    intro hset hhold hjump
    obtain ⟨x, hx, hclear⟩ := takeRestart_of_learning hset hhold hjump
    rw [hx]
    refine ⟨?_, ?_, ?_, get_set_same _ _ _ _ (by decide), ?_⟩
    · cases t <;> rfl
    · cases t <;> rfl
    · rw [word_set_other _ _ _ _ _ _ (fun e => absurd e.1 (by decide)), word_setWord_same]
    · rw [← hclear]
      simp only [Dev.flag, get_set_apart _ F.TB_MODEL_CMD_RESULT F.TB_MODEL_CMD_RESTART _ _ _ (by decide) (by decide)]
      rw [get_setWord_other _ _ _ _ _ _ (fun e => absurd e.1 (by decide)), onTb_get]
  case held =>
    intro hset hheld
    rw [takeRestart_of_held hset hheld]
    exact ⟨get_set_same _ _ _ _ (by decide), by rw [set_tb, set_tb]⟩

end Sys2Proof.Proofs

/-! SUPPORT. Laws of the selection of references: ranks, the wait-to-restore, and the monitors of candidates. -/

namespace Sys2Proof.Safety

open Sys2Proof.Machine Sys2Proof.Laws

variable {P : List Part} {R : List Reg} {d e : Dev}

theorem Only.refinFmt (h : Only P R d e) (hr : Reg.RSEL_REFIN_CFG ∉ R) (n : Nat) : e.refinFmt n = d.refinFmt n := by
  unfold Dev.refinFmt
  rw [h.get F.RSEL_REFIN_CFG_FMT _ hr]

theorem Only.refinTod (h : Only P R d e) (hr : Reg.RSEL_REFIN_CFG ∉ R) (n : Nat) : e.refinTod n = d.refinTod n := by
  unfold Dev.refinTod
  rw [h.get F.RSEL_REFIN_CFG_TOD _ hr]

theorem Only.kindOf (h : Only P R d e) (hr : Reg.RSEL_REFIN_CFG ∉ R) (hq : Reg.LANE_QUAD_STAT ∉ R) (id : Nat) :
    e.kindOf id = d.kindOf id := by
  unfold Dev.kindOf
  rw [h.refinFmt hr, h.refinTod hr, h.flag F.LANE_QUAD_STAT_DISCOVERED _ hq, h.flag F.LANE_QUAD_STAT_PARTNER_SYNT _ hq]

end Sys2Proof.Safety

namespace Sys2Proof.Laws

open Sys2Proof.Machine Sys2Proof.Safety

/-! ## Ranks -/

theorem rankIn_of_mem {l : List (Nat × Nat)} {id r : Nat} (hkeys : (l.map Prod.fst).Nodup) (hmem : (id, r) ∈ l) :
    rankIn l id = r := by
  induction l with
  | nil => exact absurd hmem List.not_mem_nil
  | cons e l ih =>
    obtain ⟨k, v⟩ := e
    simp only [List.map_cons, List.nodup_cons] at hkeys
    rcases List.mem_cons.mp hmem with h | h
    · obtain ⟨rfl, rfl⟩ := Prod.mk.inj h
      simp [rankIn]
    · have hne : k ≠ id := by
        rintro rfl
        exact hkeys.1 (List.mem_map_of_mem (f := Prod.fst) h)
      have hrest : rankIn ((k, v) :: l) id = rankIn l id := by simp [rankIn, hne]
      rw [hrest, ih hkeys.2 h]

/-- An entry added where its candidate is not yet listed. -/
theorem keys_nodup_addNew (l acc : List (Nat × Nat)) (h : (acc.map Prod.fst).Nodup) :
    ((l.foldl (fun acc e => if acc.any (fun x => x.1 == e.1) then acc else acc ++ [e]) acc).map Prod.fst).Nodup := by
  induction l generalizing acc with
  | nil => exact h
  | cons e l ih =>
    refine ih _ ?_
    dsimp only
    split
    case isTrue => exact h
    case isFalse hnew =>
      rw [List.map_append, List.nodup_append]
      refine ⟨h, by simp, ?_⟩
      rintro a ha b hb rfl
      simp only [List.map_cons, List.map_nil, List.mem_singleton] at hb
      obtain ⟨x, hx, hxe⟩ := List.mem_map.mp ha
      exact hnew (List.any_eq_true.mpr ⟨x, hx, by simp [hxe, hb]⟩)

theorem prioList_keys_nodup (d : Dev) : (d.prioList.map Prod.fst).Nodup := keys_nodup_addNew _ [] List.nodup_nil

theorem filter_keys_nodup {l : List (Nat × Nat)} (p : Nat × Nat → Bool) (h : (l.map Prod.fst).Nodup) :
    ((l.filter p).map Prod.fst).Nodup := h.sublist (List.filter_sublist.map Prod.fst)

theorem foldl_min_le_init (l : List Nat) (n : Nat) : l.foldl min n ≤ n := by
  induction l generalizing n with
  | nil => exact Nat.le_refl n
  | cons a l ih => exact Nat.le_trans (ih (min n a)) (Nat.min_le_left n a)

theorem foldl_min_le_of_mem {l : List Nat} {a : Nat} (n : Nat) (h : a ∈ l) : l.foldl min n ≤ a := by
  induction l generalizing n with
  | nil => exact absurd h List.not_mem_nil
  | cons b l ih =>
    rcases List.mem_cons.mp h with rfl | h
    · exact Nat.le_trans (foldl_min_le_init l (min n a)) (Nat.min_le_right n a)
    · exact ih (min n b) h

theorem le_foldl_min {l : List Nat} {m n : Nat} (hn : m ≤ n) (hl : ∀ a ∈ l, m ≤ a) : m ≤ l.foldl min n := by
  induction l generalizing n with
  | nil => exact hn
  | cons a l ih =>
    exact ih (Nat.le_min.mpr ⟨hn, hl a List.mem_cons_self⟩) (fun b hb => hl b (List.mem_cons_of_mem a hb))

/-- The least rank of a list that holds a least one. -/
theorem foldl_min_ranks {l : List (Nat × Nat)} {id r : Nat} (hmem : (id, r) ∈ l) (hleast : ∀ e ∈ l, r ≤ e.2) (hr : r ≤ 16) :
    (l.map Prod.snd).foldl min 16 = r := by
  refine Nat.le_antisymm (foldl_min_le_of_mem 16 (List.mem_map_of_mem (f := Prod.snd) hmem)) (le_foldl_min hr ?_)
  intro a ha
  obtain ⟨e, he, rfl⟩ := List.mem_map.mp ha
  exact hleast e he

theorem bitsOf_lt (w lo width : Nat) : bitsOf w lo width < 2 ^ width := Nat.mod_lt _ (Nat.two_pow_pos width)

theorem rank_of_prioList {d : Dev} {e : Nat × Nat} (h : e ∈ d.prioList) : e.2 < 16 := by
  have hsub (l acc : List (Nat × Nat)) (hl : ∀ e ∈ l, e.2 < 16) (ha : ∀ e ∈ acc, e.2 < 16) :
      ∀ e ∈ l.foldl (fun acc e => if acc.any (fun x => x.1 == e.1) then acc else acc ++ [e]) acc, e.2 < 16 := by
    induction l generalizing acc with
    | nil => exact ha
    | cons b l ih =>
      refine ih _ (fun e he => hl e (List.mem_cons_of_mem b he)) ?_
      intro e he
      dsimp only at he
      split at he
      · exact ha e he
      · rcases List.mem_append.mp he with he | he
        · exact ha e he
        · exact List.mem_singleton.mp he ▸ hl b List.mem_cons_self
  refine hsub _ [] ?_ (fun _ he => absurd he List.not_mem_nil) e h
  intro e he
  obtain ⟨k, _, rfl⟩ := List.mem_map.mp (List.mem_of_mem_filter he)
  exact bitsOf_lt _ _ _

theorem mem_prioList_of_eligible {d : Dev} {e : Nat × Nat} (h : e ∈ d.eligible) : e ∈ d.prioList := List.mem_of_mem_filter h

theorem eligible_keys_nodup (d : Dev) : (d.eligible.map Prod.fst).Nodup := filter_keys_nodup _ (prioList_keys_nodup d)

/-! ## The wait-to-restore -/

/-- What the wait-to-restore of R78 rests on: REVERTIVE without a PIN, and a running wait for the best candidate `w` above the
selected one. -/
structure Restores (d : Dev) (w r sel rs : Nat) : Prop where
  running : d.flag F.RSEL_SEL_WTR_RUN = true
  waits : d.get F.RSEL_SEL_WTR_ID = w
  selected : d.get F.RSEL_SEL_SELECTED = sel
  revertive : d.inForceFlag F.RSEL_CFG_REVERTIVE = true
  unpinned : d.inForceFlag F.RSEL_CMD_PIN = false
  mem : (w, r) ∈ d.eligible
  memSel : (sel, rs) ∈ d.eligible
  above : r < rs
  best : ∀ e ∈ d.eligible, r ≤ e.2
  timed : (d.kindOf w).timeCapable = true
  timedSel : (d.kindOf sel).timeCapable = true

section
variable {d : Dev} {w r sel rs : Nat}

theorem Restores.cancelWtr (h : Restores d w r sel rs) : d.cancelWtr = d := by
  have hnodup := prioList_keys_nodup d
  have hrw : rankIn d.prioList w = r := rankIn_of_mem hnodup (mem_prioList_of_eligible h.mem)
  have hrs : rankIn d.prioList sel = rs := rankIn_of_mem hnodup (mem_prioList_of_eligible h.memSel)
  have hsmall : r ≤ 16 := Nat.le_of_lt (rank_of_prioList (mem_prioList_of_eligible h.mem))
  have hany : d.eligible.any (fun e => e.1 == w) = true := List.any_eq_true.mpr ⟨_, h.mem, by simp⟩
  have hleast : r ≤ ((d.eligible.filter (fun e => (d.kindOf e.1).timeCapable == (d.kindOf w).timeCapable)).map
      Prod.snd).foldl min 16 := by
    refine le_foldl_min hsmall fun a ha => ?_
    obtain ⟨e, he, rfl⟩ := List.mem_map.mp ha
    exact h.best e (List.mem_of_mem_filter he)
  unfold Dev.cancelWtr
  dsimp only
  rw [if_neg]
  rw [h.waits, h.selected, hrw, hrs, hany, h.revertive, h.unpinned]
  simp [h.above, hleast]

theorem selectRef_selected (d : Dev) {id : Nat} (h : id < 64) : (d.selectRef id).get F.RSEL_SEL_SELECTED = id := by
  unfold Dev.selectRef
  split
  case isTrue heq => exact heq
  case isFalse =>
    dsimp only
    rw [get_countDev _ F.RSEL_SEL_SELECTED _ _ _ (by decide), onCand_get, onRsel_get,
      get_setMark_same _ _ _ _ _ (by decide) (by decide) (by decide)]
    exact Nat.mod_eq_of_lt h

theorem stopWtr_selected (d : Dev) : d.stopWtr.get F.RSEL_SEL_SELECTED = d.get F.RSEL_SEL_SELECTED := by
  simp -implicitDefEqProofs (disch := decide) only [Dev.stopWtr, onRsel_get, get_set_apart]

theorem stopWtr_run (d : Dev) : d.stopWtr.flag F.RSEL_SEL_WTR_RUN = false := by
  simp -implicitDefEqProofs (disch := decide) only [Dev.stopWtr, Dev.flag, onRsel_get, get_set_apart, get_set_same]
  rfl

/-- What the selection procedure writes before it decides, where nothing is pinned. -/
def unpinnedSel (d : Dev) : Dev := (d.setB F.RSEL_SEL_PINNED false).onRsel (fun r => { r with pinLostTold := false })

/-- The choice of R78 among a pool of candidates, where nothing is pinned. -/
def chooseFrom (d : Dev) (pool : List (Nat × Nat)) (sel : Nat) (reached : Bool) : Dev :=
  let bestRank := (pool.map Prod.snd).foldl min 16
  let best := (pool.filter (fun e => e.2 == bestRank)).map Prod.fst
  match best with
  | [] => (d.selectRef 36).stopWtr
  | first :: _ =>
    if pool.any (fun e => e.1 == sel) then
      if rankIn pool sel = bestRank then d.stopWtr
      else if !d.inForceFlag F.RSEL_CFG_REVERTIVE then d
      else if d.flag F.RSEL_SEL_WTR_RUN then
        if reached && best.contains (d.get F.RSEL_SEL_WTR_ID) then (d.selectRef (d.get F.RSEL_SEL_WTR_ID)).stopWtr
        else d
      else d.startWtr first
    else (d.selectRef first).stopWtr

/-- The time-capable candidates among the eligible ones, or all of these where there is none. -/
def timedPool (d : Dev) (el : List (Nat × Nat)) : List (Nat × Nat) :=
  let timed := el.filter (fun e => (d.kindOf e.1).timeCapable)
  if timed.isEmpty then el else timed

theorem runSelector_of_unpinned {d : Dev} (reached : Bool) (h : d.inForceFlag F.RSEL_CMD_PIN = false) :
    d.runSelector reached = chooseFrom (unpinnedSel d) (timedPool (unpinnedSel d) d.eligible) (d.get F.RSEL_SEL_SELECTED)
      reached := by
  have hpinned : d.setB F.RSEL_SEL_PINNED (d.inForceFlag F.RSEL_CMD_PIN) = d.setB F.RSEL_SEL_PINNED false := by rw [h]
  unfold Dev.runSelector
  rw [hpinned]
  exact if_neg (ne_true_of_eq_false h)

/-- The best candidate, for which the wait has run or is skipped, is selected and the wait ends (R78, R80). -/
theorem Restores.runSelector (h : Restores d w r sel rs) : (d.runSelector true).get F.RSEL_SEL_SELECTED = w ∧
    (d.runSelector true).flag F.RSEL_SEL_WTR_RUN = false := by
  have hw : w < 64 := h.waits ▸ bitsOf_lt _ _ _
  have hsmall : r ≤ 16 := Nat.le_of_lt (rank_of_prioList (mem_prioList_of_eligible h.mem))
  suffices heq : ∃ x : Dev, d.runSelector true = (x.selectRef w).stopWtr by
    obtain ⟨x, hx⟩ := heq
    rw [hx, stopWtr_selected, selectRef_selected x hw]
    exact ⟨rfl, stopWtr_run _⟩
  have hx : Only [.rsel] [.RSEL_SEL] d (unpinnedSel d) := .onRsel (.setB .refl _ _ _ (by decide)) _ (by decide)
  have hkind (id : Nat) : (unpinnedSel d).kindOf id = d.kindOf id := hx.kindOf (by decide) (by decide) id
  have hget : (unpinnedSel d).get F.RSEL_SEL_WTR_ID = w := (get_setB_apart d _ _ _ _ _ (by decide) (by decide)).trans h.waits
  have hrun : (unpinnedSel d).flag F.RSEL_SEL_WTR_RUN = true :=
    (flag_setB_apart d _ _ _ _ _ (by decide) (by decide)).trans h.running
  have hpool : timedPool (unpinnedSel d) d.eligible = d.eligible.filter (fun e => ((unpinnedSel d).kindOf e.1).timeCapable) := by
    refine if_neg (ne_true_of_eq_false (List.isEmpty_eq_false_iff_exists_mem.mpr ⟨(w, r), List.mem_filter.mpr ⟨h.mem, ?_⟩⟩))
    dsimp only
    rw [hkind, h.timed]
  rw [runSelector_of_unpinned true h.unpinned, hpool, h.selected]
  refine ⟨unpinnedSel d, ?_⟩
  have hmem : (w, r) ∈ d.eligible.filter (fun e => ((unpinnedSel d).kindOf e.1).timeCapable) :=
    List.mem_filter.mpr ⟨h.mem, by dsimp only; rw [hkind, h.timed]⟩
  have hmemSel : (sel, rs) ∈ d.eligible.filter (fun e => ((unpinnedSel d).kindOf e.1).timeCapable) :=
    List.mem_filter.mpr ⟨h.memSel, by dsimp only; rw [hkind, h.timedSel]⟩
  have hleast : ∀ e ∈ d.eligible.filter (fun e => ((unpinnedSel d).kindOf e.1).timeCapable), r ≤ e.2 :=
    fun e he => h.best e (List.mem_of_mem_filter he)
  have hnodup := filter_keys_nodup (fun e => ((unpinnedSel d).kindOf e.1).timeCapable) (eligible_keys_nodup d)
  generalize d.eligible.filter (fun e => ((unpinnedSel d).kindOf e.1).timeCapable) = timed at hmem hmemSel hleast hnodup ⊢
  have hw' : w ∈ (timed.filter (fun e => e.2 == r)).map Prod.fst :=
    List.mem_map_of_mem (f := Prod.fst) (List.mem_filter.mpr ⟨hmem, by simp⟩)
  have hany : timed.any (fun e => e.1 == sel) = true := List.any_eq_true.mpr ⟨_, hmemSel, by simp⟩
  have hrank : rankIn timed sel ≠ r := by
    rw [rankIn_of_mem hnodup hmemSel]
    exact Nat.ne_of_gt h.above
  have hrev : (unpinnedSel d).inForceFlag F.RSEL_CFG_REVERTIVE = true := h.revertive
  unfold chooseFrom
  rw [foldl_min_ranks hmem hleast hsmall]
  cases hlist : (timed.filter (fun e => e.2 == r)).map Prod.fst with
  | nil => rw [hlist] at hw'; exact absurd hw' List.not_mem_nil
  | cons first rest =>
    rw [hlist] at hw'
    have hbest : (first :: rest).contains w = true := by simpa using hw'
    simp only [hlist, hany, hrank, hrev, hrun, hget, hbest, if_true, if_false, Bool.not_true, Bool.false_eq_true, Bool.and_true]

end

/-! ## Monitors -/

section
variable (d : Dev) (id : Nat)

@[simp] theorem set_cand (f : Fld) (v u : Nat) : (d.set f v u).cand id = d.cand id := rfl
@[simp] theorem setB_cand (f : Fld) (b : Bool) (u : Nat) : (d.setB f b u).cand id = d.cand id := rfl

@[simp] theorem countDev_cand (j k : Nat) : (d.countDev j k).cand id = d.cand id := by
  simp only [Dev.cand, countDev_cands]

theorem candFlag_get_other (f g : Fld) (i u : Nat) (b : Bool) (hf : f.lo + f.width ≤ 32) (h : apart f g = true)
    (he : apart F.RSEL_CAND_STAT_EVENT g = true) : (d.candFlag f i b).get g u = d.get g u :=
  get_setMark_apart d f _ g _ _ _ hf (by decide) h he

theorem candFlag_get_unit (f g : Fld) (i u : Nat) (b : Bool) (h : u ≠ i) : (d.candFlag f i b).get g u = d.get g u := by
  unfold Dev.candFlag Dev.setMark
  split
  · rfl
  · rw [get_set_unit _ _ _ _ _ _ h, get_set_unit _ _ _ _ _ _ h]

theorem candFlag_flag_same (f : Fld) (b : Bool) (hf : f.lo + f.width ≤ 32) (hw : f.width = 1)
    (he : apart F.RSEL_CAND_STAT_EVENT f = true) : (d.candFlag f id b).flag f id = b := by
  rw [Dev.flag, Dev.candFlag, get_setMark_same d f _ _ _ hf (by decide) he, hw, Nat.pow_one, bitNat_mod_two, bitNat_beq_one]

theorem restartQual_get (g : Fld) (u : Nat) (h : apart F.RSEL_CAND_STAT_QUAL_LEFT g = true) :
    (d.restartQual id).get g u = d.get g u := by
  rw [Dev.restartQual, get_set_apart _ _ _ _ _ _ (by decide) h, onCand_get]

theorem disqualify_get_apart (reason : Nat) (g : Fld) (u : Nat) (hrep : reporting g.reg = false)
    (hq : apart F.RSEL_CAND_STAT_QUALIFIED g = true) (hr : apart F.RSEL_CAND_STAT_REASON g = true)
    (hl : apart F.RSEL_CAND_STAT_QUAL_LEFT g = true) (he : apart F.RSEL_CAND_STAT_EVENT g = true) :
    (d.disqualify id reason).get g u = d.get g u := by
  unfold Dev.disqualify
  split
  · dsimp only
    rw [restartQual_get _ _ _ _ hl, get_countDev _ _ _ _ _ hrep, get_set_apart _ _ _ _ _ _ (by decide) hr,
      candFlag_get_other _ _ _ _ _ _ (by decide) hq he]
  · exact restartQual_get _ _ _ _ hl

theorem disqualify_reason {reason : Nat} (h : d.qualified id = true) (hr : reason < 16) :
    (d.disqualify id reason).get F.RSEL_CAND_STAT_REASON id = reason := by
  unfold Dev.disqualify
  rw [if_pos h]
  dsimp only
  rw [restartQual_get _ _ _ _ (by decide), get_countDev _ _ _ _ _ (by decide), get_set_same _ _ _ _ (by decide)]
  exact Nat.mod_eq_of_lt hr

theorem disqualify_cand (reason : Nat) : (d.disqualify id reason).cand id =
    { d.cand id with qualS := 0, lastSec := none, todCount := 0 } := by
  have hrestart (x : Dev) (h : x.cands = d.cands) : (x.restartQual id).cand id =
      { d.cand id with qualS := 0, lastSec := none, todCount := 0 } := by
    rw [Dev.restartQual, set_cand, onCand_same]
    simp only [Dev.cand, h]
  unfold Dev.disqualify
  split
  · exact hrestart _ (by rw [countDev_cands, set_cands, Dev.candFlag, setMark_cands])
  · exact hrestart d rfl

/-- A disqualified candidate is not QUALIFIED. -/
theorem disqualify_flag (reason : Nat) : (d.disqualify id reason).flag F.RSEL_CAND_STAT_QUALIFIED id = false := by
  unfold Dev.disqualify
  split
  case isTrue =>
    dsimp only
    rw [Dev.flag, restartQual_get _ _ _ _ (by decide), get_countDev _ _ _ _ _ (by decide),
      get_set_apart _ _ _ _ _ _ (by decide) (by decide)]
    exact candFlag_flag_same _ _ _ _ (by decide) rfl (by decide)
  case isFalse hq =>
    rw [Dev.flag, restartQual_get _ _ _ _ (by decide)]
    simp only [Dev.qualified, Bool.or_eq_true, not_or] at hq
    exact Bool.eq_false_iff.mpr hq.2

theorem retireMonitor_cand (mem : Nat) : ((d.retireMonitor id mem).cand id).retired = true := by
  have hcand (x : Dev) : (((((x.candFlag F.RSEL_CAND_STAT_QUALIFIED id false).set F.RSEL_CAND_STAT_REASON 7 id).set
      F.RSEL_CAND_STAT_QUAL_LEFT 0 id).setB F.RSEL_CAND_STAT_ACTIVE false id).countDev (218 + id)).cands = x.cands := by
    rw [countDev_cands, setB_cands, set_cands, set_cands, Dev.candFlag, setMark_cands]
  simp only [Dev.retireMonitor, Dev.cand, retireOther_cands]
  rw [hcand]
  exact congrArg Cand.retired (onCand_same d id _)

theorem retireMonitor_flag (mem : Nat) : (d.retireMonitor id mem).flag F.RSEL_CAND_STAT_QUALIFIED id = false := by
  unfold Dev.retireMonitor Dev.flag
  dsimp only
  rw [get_retireOther _ _ _ _ _ _ (by decide), get_countDev _ _ _ _ _ (by decide), get_setB_apart _ _ _ _ _ _ (by decide) (by decide),
    get_set_apart _ _ _ _ _ _ (by decide) (by decide), get_set_apart _ _ _ _ _ _ (by decide) (by decide)]
  exact candFlag_flag_same _ _ _ _ (by decide) rfl (by decide)

theorem retireMonitor_reason (mem : Nat) : (d.retireMonitor id mem).get F.RSEL_CAND_STAT_REASON id = 7 := by
  unfold Dev.retireMonitor
  dsimp only
  rw [get_retireOther _ _ _ _ _ _ (by decide), get_countDev _ _ _ _ _ (by decide), get_setB_apart _ _ _ _ _ _ (by decide) (by decide),
    get_set_apart _ _ _ _ _ _ (by decide) (by decide), get_set_same _ _ _ _ (by decide)]
  rfl

/-- A gate's frequency joins the mean of its monitor. -/
def gateJoined (f : Int) : Dev := (d.onCand id (fun c => { c with gates := (f :: c.gates).take 16 })).showMean id

theorem gateJoined_cand (f : Int) : (gateJoined d id f).cand id = { d.cand id with gates := (f :: (d.cand id).gates).take 16 } := by
  rw [gateJoined, Dev.showMean, set_cand, onCand_same]

theorem only_gateJoined (f : Int) : Only [.cands] [.RSEL_CAND_FREQ] d (gateJoined d id f) :=
  .set (.onCand .refl _ _ (by decide)) _ _ _ (by decide)

/-- The device after a gate of an active candidate within both limits. -/
def gateCounted (f : Int) : Dev :=
  let d := ((gateJoined d id f).setB F.RSEL_CAND_STAT_IN_ACCEPT true id).onCand id (fun c => { c with qualS := c.qualS + 1 })
  d.set F.RSEL_CAND_STAT_QUAL_LEFT (d.inForce F.RSEL_CFG_QUAL_TIME - (d.cand id).qualS) id

end

/-- What follows where a gate of a candidate other than the free-running one has joined its mean. -/
def gateJudged (d : Dev) (id accept reject freq : Nat) : Dev :=
  let d := d.setB F.RSEL_CAND_STAT_IN_ACCEPT (decide (freq ≤ accept)) id
  let d := d.when (d.kindOf id == .freq && !d.flag F.RSEL_CAND_STAT_ACTIVE id) (fun d => d.setActive id true)
  if reject < freq then d.disqualify id 2
  else if d.qualified id || !d.flag F.RSEL_CAND_STAT_ACTIVE id then d.judgeDrift
  else if accept < freq then d.restartQual id
  else
    let d := d.onCand id (fun c => { c with qualS := c.qualS + 1 })
    d.set F.RSEL_CAND_STAT_QUAL_LEFT (d.inForce F.RSEL_CFG_QUAL_TIME - (d.cand id).qualS) id

theorem freqGateEnd_eq (d : Dev) (id : Nat) (f : Int) : d.freqGateEnd id f =
    if (d.cand id).retired || !d.anyActive || !d.monitored id then d
    else if id = 36 then gateJoined d id f
    else gateJudged (gateJoined d id f) id ((gateJoined d id f).inForce F.RSEL_LIMITS_ACCEPT * 10000000)
      ((gateJoined d id f).inForce F.RSEL_LIMITS_REJECT * 10000000) f.natAbs := rfl

theorem gateJudged_of_good {d : Dev} {id accept reject freq : Nat} (hid : id ≠ 36)
    (hactive : d.flag F.RSEL_CAND_STAT_ACTIVE id = true) (hqual : d.flag F.RSEL_CAND_STAT_QUALIFIED id = false)
    (haccept : freq ≤ accept) (hreject : freq ≤ reject) : gateJudged d id accept reject freq =
      let d := (d.setB F.RSEL_CAND_STAT_IN_ACCEPT true id).onCand id (fun c => { c with qualS := c.qualS + 1 })
      d.set F.RSEL_CAND_STAT_QUAL_LEFT (d.inForce F.RSEL_CFG_QUAL_TIME - (d.cand id).qualS) id := by
  have hactive' : (d.setB F.RSEL_CAND_STAT_IN_ACCEPT true id).flag F.RSEL_CAND_STAT_ACTIVE id = true := by
    rw [flag_setB_apart _ _ _ _ _ _ (by decide) (by decide), hactive]
  have hqual' : (d.setB F.RSEL_CAND_STAT_IN_ACCEPT true id).qualified id = false := by
    rw [Dev.qualified, flag_setB_apart _ _ _ _ _ _ (by decide) (by decide), hqual]
    simpa using hid
  unfold gateJudged
  dsimp only
  rw [decide_eq_true haccept, hactive']
  simp only [Bool.not_true, Bool.and_false, when_false]
  rw [if_neg (Nat.not_lt.mpr hreject), hqual', hactive', if_neg (by decide), if_neg (Nat.not_lt.mpr haccept)]

theorem freqGateEnd_of_good {d : Dev} {id : Nat} {f : Int} (hid : id ≠ 36) (hretired : (d.cand id).retired = false)
    (hany : d.anyActive = true) (hmonitored : d.monitored id = true) (hactive : d.flag F.RSEL_CAND_STAT_ACTIVE id = true)
    (hqual : d.flag F.RSEL_CAND_STAT_QUALIFIED id = false) (haccept : f.natAbs ≤ d.inForce F.RSEL_LIMITS_ACCEPT * 10000000)
    (hreject : f.natAbs ≤ d.inForce F.RSEL_LIMITS_REJECT * 10000000) : d.freqGateEnd id f = gateCounted d id f := by
  have hjoined := only_gateJoined d id f
  rw [freqGateEnd_eq, if_neg (by simp [hretired, hany, hmonitored]), if_neg hid, hjoined.inForce (by decide),
    hjoined.inForce (by decide)]
  exact gateJudged_of_good hid (by rw [hjoined.flag _ _ (by decide), hactive]) (by rw [hjoined.flag _ _ (by decide), hqual])
    haccept hreject

theorem gateCounted_cand (d : Dev) (id : Nat) (f : Int) : (gateCounted d id f).cand id =
    { d.cand id with gates := (f :: (d.cand id).gates).take 16, qualS := (d.cand id).qualS + 1 } := by
  unfold gateCounted
  dsimp only
  rw [set_cand, onCand_same, setB_cand, gateJoined_cand]

theorem gateCounted_inAccept (d : Dev) (id : Nat) (f : Int) : (gateCounted d id f).flag F.RSEL_CAND_STAT_IN_ACCEPT id = true := by
  unfold gateCounted
  dsimp only
  rw [flag_set_apart _ _ _ _ _ _ (by decide) (by decide), Dev.flag, onCand_get]
  exact flag_setB_same _ _ true id (by decide) rfl

theorem freqGateEnd_of_freerun {d : Dev} (f : Int) (hretired : (d.cand 36).retired = false) (hany : d.anyActive = true) :
    d.freqGateEnd 36 f = gateJoined d 36 f := by
  have hmonitored : d.monitored 36 = true := rfl
  rw [Dev.freqGateEnd, if_neg (by simp [hretired, hany, hmonitored])]
  rfl

/-- Lifting the bars of the candidates below `n`, by induction on `n`: each has a word of its own. -/
theorem each_unbar_flag (d : Dev) (n : Nat) {m : Nat} (hm : m < n) :
    (d.each (List.range n) (fun d i => d.candFlag F.RSEL_CAND_STAT_BARRED i false)).flag F.RSEL_CAND_STAT_BARRED m = false := by
  induction n with
  | zero => exact absurd hm (Nat.not_lt_zero m)
  | succ n ih =>
    have hlast : d.each (List.range (n + 1)) (fun d i => d.candFlag F.RSEL_CAND_STAT_BARRED i false) =
        (d.each (List.range n) (fun d i => d.candFlag F.RSEL_CAND_STAT_BARRED i false)).candFlag F.RSEL_CAND_STAT_BARRED n false := by
      simp [Dev.each, List.range_succ]
    rw [hlast]
    by_cases h : m = n
    · subst h
      exact candFlag_flag_same _ _ _ _ (by decide) rfl (by decide)
    · rw [Dev.flag, candFlag_get_unit _ _ _ _ _ _ h]
      exact ih (by omega)

/-! ## Qualification -/

theorem candidateQualified_of_ready {d : Dev} {id : Nat} (hid : id < 36) (hpart : d.small = true → id < 20)
    (hqual : d.flag F.RSEL_CAND_STAT_QUALIFIED id = false) (hretired : (d.cand id).retired = false)
    (hactive : d.flag F.RSEL_CAND_STAT_ACTIVE id = true) (htime : d.inForce F.RSEL_CFG_QUAL_TIME ≤ (d.cand id).qualS)
    (hown : d.kindOf id ≠ .own) (htod : d.kindOf id = .ppsTod → 2 ≤ (d.cand id).todCount)
    (hvote : (d.cand id).notOutvoted = none) : d.candidateQualified id =
      ((d.candFlag F.RSEL_CAND_STAT_QUALIFIED id true).set F.RSEL_CAND_STAT_QUAL_LEFT 0 id).onCand id
        (fun c => { c with notOutvoted := none }) := by
  have hsmall : (d.small && decide (20 ≤ id)) = false := by
    cases h : d.small
    · rfl
    · have := hpart h
      simp; omega
  have hkind : (d.kindOf id != .ppsTod || decide (2 ≤ (d.cand id).todCount)) = true := by
    by_cases h : d.kindOf id = .ppsTod
    · simp [htod h]
    · simp [h]
  have hnot36 : (id == 36) = false := by simp; omega
  unfold Dev.candidateQualified
  dsimp only
  rw [if_pos]
  simp only [Dev.qualified, hnot36, hqual, hretired, hactive, hvote, hsmall, hkind, decide_eq_true hid, decide_eq_true htime,
    bne_iff_ne.mpr hown]
  rfl

/-! ## The configuration of a REFIN input -/

theorem bitsOf_low (n : Nat) {a b : Nat} (h : a ≤ b) : bitsOf n 0 a = bitsOf n 0 b % 2 ^ a := by
  simp only [bitsOf, Nat.pow_zero, Nat.div_one]
  exact (Nat.mod_mod_of_dvd n (Nat.pow_dvd_pow 2 h)).symm

/-- A write of another format. -/
theorem refinCfgWrite_of_format {d : Dev} {n : Nat} {v : Word} (h : bitsOf v.toNat 0 3 ≠ d.get F.RSEL_REFIN_CFG_FMT n) :
    ∃ w : Word, bitsOf w.toNat 0 3 = bitsOf v.toNat 0 3 ∧ ∃ f : Cand → Cand, d.refinCfgWrite n v =
      (((((d.setWord .RSEL_REFIN_CFG n w).disqualify n 6).setB F.RSEL_CAND_STAT_ACTIVE false n).onCand n f).set
        F.RSEL_CAND_STAT_QUAL_LEFT 0 n) := by
  have hfmt (x : Word) (t : Nat) : bitsOf (putBits (putBits x 0 4 (bitsOf v.toNat 0 4)) 4 2 t).toNat 0 3 = bitsOf v.toNat 0 3 := by
    rw [bitsOf_putBits_apart _ _ _ _ _ _ (by decide) (by decide), bitsOf_low _ (show 3 ≤ 4 by decide),
      bitsOf_putBits_same _ _ _ _ (by decide), bitsOf_low v.toNat (show 3 ≤ 4 by decide),
      Nat.mod_eq_of_lt (bitsOf_lt v.toNat 0 4)]
  unfold Dev.refinCfgWrite
  dsimp only
  refine ⟨_, hfmt _ _, _, if_neg fun heq => h ?_⟩
  rw [← hfmt _ _, bitsOf_low _ (show 3 ≤ 6 by decide), ← heq, ← bitsOf_low _ (show 3 ≤ 6 by decide)]
  rfl

end Sys2Proof.Laws

/-! Statements of 03_timebases_references.md. -/

namespace Sys2Proof.Proofs

open Sys2Proof.Machine Sys2Proof.Safety Sys2Proof.Laws

/-- Settles O12: a best candidate whose wait has run is the one that the selection procedure picks, and each monitor operation
writes the flags of its candidate last. -/
theorem candidateQualification : Obligations.CandidateQualification := by
  refine ⟨fun s w r sel rs hrun hwaits hsel hrev hpin hmem hmemSel habove hbest htimed htimedSel => ?_,
    fun s i m n f v => ⟨?gate, ?freerun, ?qualify, ?config, ?retire, ?corrected, ?clear, ?lift⟩⟩
  · have h : Restores s.dev w r sel rs := ⟨hrun, hwaits, hsel, hrev, hpin, hmem, hmemSel, habove, hbest, htimed, htimedSel⟩
    have hrestored : (s.dev.cancelWtr.runSelector true).get F.RSEL_SEL_SELECTED = w ∧
        (s.dev.cancelWtr.runSelector true).flag F.RSEL_SEL_WTR_RUN = false := by
      rw [h.cancelWtr]
      exact h.runSelector
    refine ⟨⟨_, rfl, ?_⟩, fun hreach => ⟨_, rfl, ?_⟩⟩
    · dsimp only
      rw [onDev_dev, Dev.wtrExpired, if_pos hrun]
      exact hrestored
    · dsimp only
      rw [onDev_dev, Dev.reach, if_pos hreach, Dev.skipWtr, if_pos hrun]
      exact hrestored
  case gate =>
    intro hid hretired hany hmonitored hactive hqual haccept hreject
    refine ⟨_, rfl, ?_⟩
    dsimp only
    rw [onDev_dev, freqGateEnd_of_good hid hretired hany hmonitored hactive hqual haccept hreject, gateCounted_cand]
    exact ⟨rfl, rfl, gateCounted_inAccept _ _ _⟩
  case freerun =>
    intro hretired hany
    refine ⟨_, rfl, ?_⟩
    dsimp only
    have h36 : ((36 : CandId) : Nat) = 36 := rfl
    rw [onDev_dev, h36, freqGateEnd_of_freerun f hretired hany, gateJoined_cand]
  case qualify =>
    intro hpart hqual hretired hactive htime hown htod hvote
    refine ⟨_, rfl, ?_⟩
    dsimp only
    have hm : ((m.castLE (by decide) : CandId) : Nat) = m.val := rfl
    rw [onDev_dev, hm, candidateQualified_of_ready m.isLt hpart hqual hretired hactive htime hown htod hvote]
    constructor
    · rw [Dev.flag, onCand_get, get_set_apart _ _ _ _ _ _ (by decide) (by decide)]
      exact candFlag_flag_same _ _ _ _ (by decide) rfl (by decide)
    · rw [onCand_get]
      exact get_set_same _ _ _ _ (by decide)
  case config =>
    intro hreach hfmt
    refine ⟨_, rfl, ?_⟩
    dsimp only
    obtain ⟨w, hw, g, heq⟩ := refinCfgWrite_of_format hfmt
    rw [onDev_dev, Dev.reach, if_pos hreach, heq]
    refine ⟨?_, ?_, ?_⟩
    · rw [get_set_apart _ _ _ _ _ _ (by decide) (by decide), onCand_get, get_setB_apart _ _ _ _ _ _ (by decide) (by decide),
        (only_disqualify _ _ _).get F.RSEL_REFIN_CFG_FMT _ (by decide), Dev.get]
      exact (congrArg (fun x : Word => bitsOf x.toNat 0 3) (word_setWord_same s.dev .RSEL_REFIN_CFG n.val w)).trans hw
    · rw [flag_set_apart _ _ _ _ _ _ (by decide) (by decide), Dev.flag, onCand_get]
      exact flag_setB_same _ _ false n.val (by decide) rfl
    · rw [flag_set_apart _ _ _ _ _ _ (by decide) (by decide), Dev.flag, onCand_get, get_setB_apart _ _ _ _ _ _ (by decide) (by decide)]
      exact disqualify_flag _ _ _
  case retire =>
    exact ⟨_, rfl, retireMonitor_cand _ _ _, retireMonitor_flag _ _ _, retireMonitor_reason _ _ _⟩
  case corrected =>
    exact completes_frame rfl (only_of_report (report_memError _ _ _))
  case clear =>
    intro hreach
    have hdev : (s.onDev (·.reach Dev.clearBars)).dev = s.dev.set F.RSEL_CMD_CLEAR_BARS 1 := if_pos hreach
    refine ⟨_, rfl, ?_, ?_, rfl, rfl⟩
    · rw [hdev, Dev.flag, get_set_same _ _ _ _ (by decide)]
      rfl
    · rw [hdev]
      exact .set .refl _ _ _ (by decide)
  case lift =>
    intro hset
    rw [Dev.liftBars, if_pos hset]
    constructor
    · rw [flag_set_apart _ _ _ _ _ _ (by decide) (by decide)]
      exact each_unbar_flag s.dev 36 m.isLt
    · rw [Dev.flag, get_set_same _ _ _ _ (by decide)]
      rfl

end Sys2Proof.Proofs

/-! SUPPORT. Laws of the reference inputs: edges, activity and TODIN messages. -/

namespace Sys2Proof.Laws

open Sys2Proof.Machine Sys2Proof.Safety

variable {d : Dev} {n : Nat}

/-! ## Edges -/

/-- The edges of an input within the last second, with a new one. -/
def recentEdges (d : Dev) (n : Nat) (edge : Ticks) : List Ticks :=
  (edge :: (d.cand n).recent).filter (fun t => edge < t + secUnit)

theorem recentEdges_length {edge : Ticks} (h : ((d.cand n).recent.filter (fun t => edge < t + secUnit)).length < 2) :
    (recentEdges d n edge).length < 3 := by
  have hnow : edge < edge + secUnit := Nat.lt_add_of_pos_right (by decide)
  rw [recentEdges, List.filter_cons_of_pos (by simp [hnow]), List.length_cons]
  exact Nat.succ_lt_succ h

/-- What an accepted edge leaves: the monitor alone has moved. -/
structure EdgeTaken (d : Dev) (n : Nat) (edge : Ticks) (e : Dev) : Prop where
  only : Only [.cands] [] d e
  lastEdge : (e.cand n).lastEdge = some edge
  misses : (e.cand n).misses = 0
  hasOffset : (e.cand n).hasOffset = true
  offset : d.kindOf n = .pps → (e.cand n).offset = ppsOffset edge

/-- An edge that lies in its window after the last one is accepted. -/
theorem edgeTaken_ppsEdge {pin edge l : Ticks} (hedge : d.cableEdge n pin = edge) (hfmt : d.refinFmt n = 1)
    (hany : d.anyActive = true) (hretired : (d.cand n).retired = false) (hactive : d.flag F.RSEL_CAND_STAT_ACTIVE n = true)
    (hawait : d.rsel.awaitEdge = false) (hlast : (d.cand n).lastEdge = some l) (hrecent : (recentEdges d n edge).length < 3)
    (hwindow : (edge - l + 10000 * nsUnit) % secUnit ≤ 2 * (10000 * nsUnit)) (hnext : l + secUnit ≤ edge + 10000 * nsUnit) :
    EdgeTaken d n edge (d.ppsEdge n pin) := by
  unfold Dev.ppsEdge
  rw [if_neg (by simp [hfmt, hany, hretired])]
  dsimp only
  rw [hedge, hactive, hlast]
  rw [← recentEdges, if_neg (Nat.not_le.mpr hrecent)]
  dsimp only
  simp only [hwindow, hnext, decide_true, Bool.and_self, Bool.not_true, Bool.and_false, Bool.or_self, when_false, onCand_rsel, hawait, Bool.false_and, Bool.false_eq_true, if_false]
  have honly : Only [.cands] [] d ((d.onCand n (fun c => { c with recent := recentEdges d n edge })).onCand n
      (fun c => { c with lastEdge := some edge, misses := 0 })) := .onCand (.onCand .refl _ _ (by decide)) _ _ (by decide)
  have hkind := honly.kindOf (by decide) (by decide) n
  generalize hx : (d.onCand n (fun c => { c with recent := recentEdges d n edge })).onCand n
      (fun c => { c with lastEdge := some edge, misses := 0 }) = x at honly hkind ⊢
  suffices h : EdgeTaken d n edge (x.onCand n (fun c => { c with
      offset := ppsOffset edge + (if x.kindOf n == .ppsTod then (x.cand n).secOff * secUnit else 0), hasOffset := true })) by
    split <;> exact h
  have hcand : (x.cand n).lastEdge = some edge ∧ (x.cand n).misses = 0 := by
    rw [← hx, onCand_same]
    exact ⟨rfl, rfl⟩
  refine ⟨.onCand honly _ _ (by decide), ?_, ?_, ?_, fun hpps => ?_⟩
  · rw [onCand_same]
    exact hcand.1
  · rw [onCand_same]
    exact hcand.2
  · rw [onCand_same]
  · rw [onCand_same, hkind, hpps]
    exact Int.add_zero _

/-! ## Activity -/

theorem setActive_off_flags (d : Dev) (n : Nat) : (d.setActive n false).flag F.RSEL_CAND_STAT_ACTIVE n = false ∧
    (d.setActive n false).flag F.RSEL_CAND_STAT_QUALIFIED n = false := by
  have heq : d.setActive n false = ((d.setB F.RSEL_CAND_STAT_ACTIVE false n).disqualify n 1).set F.RSEL_CAND_STAT_QUAL_LEFT 0 n := rfl
  rw [heq]
  constructor
  · rw [flag_set_apart _ _ _ _ _ _ (by decide) (by decide), Dev.flag, disqualify_get_apart _ _ _ _ _ (by decide) (by decide) (by decide) (by decide) (by decide)]
    exact flag_setB_same _ _ _ _ (by decide) rfl
  · rw [flag_set_apart _ _ _ _ _ _ (by decide) (by decide)]
    exact disqualify_flag _ _ _

/-- A window that closes without an edge counts a miss. -/
theorem ppsWindowClose_of_active (hfmt : d.refinFmt n = 1) (hactive : d.flag F.RSEL_CAND_STAT_ACTIVE n = true) :
    d.ppsWindowClose n = ((d.onCand n (fun c => { c with misses := c.misses + 1 })).countDev (212 + n)).when
      (2 ≤ (d.cand n).misses + 1) (fun d => (d.setActive n false).onCand n (fun c => { c with lastEdge := none })) := by
  have hmisses : (((d.onCand n (fun c => { c with misses := c.misses + 1 })).countDev (212 + n)).cand n).misses =
      (d.cand n).misses + 1 := by rw [countDev_cand, onCand_same]
  unfold Dev.ppsWindowClose
  rw [if_neg (by simp [hfmt, hactive])]
  dsimp only
  rw [hmisses]

/-! ## TODIN -/

/-- A message that is right is kept. -/
theorem todinMessage_of_good {line us : Nat} {b : List Byte} (hany : d.anyActive = true)
    (hline : (List.range 4).find? (fun n => d.refinFmt n == 1 && d.refinTod n == line + 1) = some n) (hlen : b.length = 19)
    (hsync : byteAt b 0 = 0xC7) (htype : byteAt b 1 = 1) (hcrc : beNat (slice b 15 4) = crc32c (b.take 15)) (hearly : 10000 ≤ us)
    (hlate : us ≤ 800000) (hseq : (d.cand n).lastSec = none ∨
      (d.cand n).lastSec = some (beNat (slice b 3 6) - 1) ∧ 0 < beNat (slice b 3 6)) (hsource : bitAt (byteAt b 11) 5 = true) :
    ((d.todinMessage line b us).cand n).lastSec = some (beNat (slice b 3 6)) ∧
      ((d.todinMessage line b us).cand n).todCount = (d.cand n).todCount + 1 ∧
      ((d.todinMessage line b us).cand n).todSeq = byteAt b 2 := by
  have hnext : (match (d.cand n).lastSec with | none => true | some s => beNat (slice b 3 6) == s + 1) = true := by
    rcases hseq with h | ⟨h, hpos⟩
    · rw [h]
    · rw [h]
      simp; omega
  have hcand (x : Dev) (c : Bool) (data : SourceData) : (x.when c (·.takeUtc data)).cand n = x.cand n := by
    exact when_keeps x (·.cand n) c _ (congrArg (fun l => tabGet l Cand.init n) ((only_takeUtc x data).part .cands (by decide)))
  unfold Dev.todinMessage
  rw [hline]
  dsimp only
  rw [hany, hlen, hsync, htype, hcrc, decide_eq_true hearly, decide_eq_true hlate, if_neg (by decide), if_neg]
  · rw [hsource]
    simp only [Bool.not_true, Bool.false_and, when_false, hcand, onCand_same]
    exact ⟨trivial, trivial, trivial⟩
  · rw [beq_self_eq_true]
    rcases hseq with h | ⟨h, hpos⟩
    · simp [h]
    · simp [h]; omega

end Sys2Proof.Laws

namespace Sys2Proof.Proofs

open Sys2Proof.Machine Sys2Proof.Safety Sys2Proof.Laws

/-- Settles O13: each clause is the law of its operation, and the flags that the end of activity writes are written last. -/
theorem referenceInputs : Obligations.ReferenceInputs := by
  refine ⟨fun s n x pin l => ⟨?edge, ?first, ?second, ?freq⟩, fun s line n b us => ⟨?message, ?loss⟩⟩
  case edge =>
    intro hpin hfmt hany hretired hactive hawait hlast hrecent hwindow hnext
    have h := edgeTaken_ppsEdge hpin.symm hfmt hany hretired hactive hawait hlast (recentEdges_length hrecent) hwindow hnext
    exact ⟨_, rfl, h.lastEdge, h.misses, h.hasOffset, (h.only.flag _ _ (by decide)).trans hactive, h.offset⟩
  case first =>
    intro hfmt hactive hmisses
    refine ⟨_, rfl, ?_⟩
    dsimp only
    rw [onDev_dev, ppsWindowClose_of_active hfmt hactive, hmisses, show decide (2 ≤ 0 + 1) = false from rfl, when_false]
    constructor
    · rw [countDev_cand, onCand_same, hmisses]
    · rw [Dev.flag, get_countDev _ F.RSEL_CAND_STAT_ACTIVE _ _ _ (by decide), onCand_get]
      exact hactive
  case second =>
    intro hfmt hactive hmisses
    refine ⟨_, rfl, ?_⟩
    dsimp only
    rw [onDev_dev, ppsWindowClose_of_active hfmt hactive, hmisses, show decide (2 ≤ 1 + 1) = true from rfl, when_true,
      Dev.flag, onCand_get, Dev.flag, onCand_get]
    exact setActive_off_flags _ n.val
  case freq =>
    intro hkind hactive
    refine ⟨_, rfl, ?_⟩
    dsimp only
    rw [onDev_dev, Dev.freqActivityLoss, if_pos (by simp [hkind, hactive])]
    exact setActive_off_flags s.dev n.val
  case message =>
    intro hany hline hlen hsync htype hcrc hearly hlate hseq hsource
    exact ⟨_, rfl, todinMessage_of_good hany hline hlen hsync htype hcrc hearly hlate hseq hsource⟩
  case loss =>
    intro hkind hqual
    refine ⟨_, rfl, ?_⟩
    have hqual' : (s.dev.onCand n.val (fun c => { c with todCount := 0 })).qualified n.val = true := by
      simp [Dev.qualified, Dev.flag] at hqual ⊢
      exact .inr hqual
    dsimp only
    rw [onDev_dev, Dev.todinLoss, if_neg (by simp [hkind])]
    dsimp only
    rw [hqual', when_true]
    refine ⟨?_, disqualify_flag _ _ _, disqualify_reason _ _ hqual' (by decide)⟩
    rw [disqualify_cand]

end Sys2Proof.Proofs

/-! SUPPORT. Laws of the standby: what its place, the revertive timer and its alarms leave of roles and timebases (R91, R107). -/

namespace Sys2Proof.Laws

open Sys2Proof.Machine Sys2Proof.Safety

section
variable (d : Dev) (t : TbId)

/-! ## The revertive timer -/

theorem only_dropReturn_twin : Only [.twin] [.TB_ROLE] d d.dropReturn := by
  unfold Dev.dropReturn
  exact .when .refl _ _ (.onTwin .refl _ (by decide))

theorem only_judgeRevert_twin : Only [.twin] [.TB_ROLE] d d.judgeRevert := by
  have hdrop := only_dropReturn_twin d
  unfold Dev.judgeRevert
  dsimp only
  refine .ite _ ?_ (hdrop.stopRevert (by decide) (by decide))
  split
  · exact hdrop
  · exact (hdrop.onTwin _ (by decide)).set _ _ _ (by decide) |>.set _ _ _ (by decide)

/-- The revertive timer writes REV_LEFT beside the roles, and of the twin its own state and a pending handover. -/
theorem stopRevert_role (x : TbId) : d.stopRevert.role x = d.role x := by
  rw [Dev.role, Dev.stopRevert, get_set_apart _ _ _ _ _ _ (by decide) (by decide), get_set_apart _ _ _ _ _ _ (by decide) (by decide),
    onTwin_get]
  rfl

theorem dropReturn_role (x : TbId) : d.dropReturn.role x = d.role x :=
  when_keeps d (·.role x) _ _ rfl

theorem judgeRevert_role (x : TbId) : d.judgeRevert.role x = d.role x := by
  have hleft (y : Dev) (v : Nat) : ((y.set F.TB_ROLE_REV_LEFT v 0).set F.TB_ROLE_REV_LEFT v 1).role x = y.role x := by
    rw [Dev.role, get_set_apart _ _ _ _ _ _ (by decide) (by decide), get_set_apart _ _ _ _ _ _ (by decide) (by decide)]
    rfl
  unfold Dev.judgeRevert
  dsimp only
  split
  · split
    · exact dropReturn_role d x
    · exact (hleft _ _).trans (dropReturn_role d x)
  · rw [stopRevert_role, dropReturn_role]

theorem dropReturn_active : d.dropReturn.twin.active = d.twin.active := by
  unfold Dev.dropReturn
  exact when_keeps d (·.twin.active) _ _ ((congrArg Twin.active (onTwin_twin d (fun t => { t with handover := none }))).trans rfl)

theorem stopRevert_active : d.stopRevert.twin.active = d.twin.active := by
  rw [Dev.stopRevert, set_twin, set_twin, onTwin_twin]

theorem judgeRevert_active : d.judgeRevert.twin.active = d.twin.active := by
  unfold Dev.judgeRevert
  dsimp only
  split
  · split
    · exact dropReturn_active d
    · rw [set_twin, set_twin, onTwin_twin]
      exact dropReturn_active d
  · rw [stopRevert_active, dropReturn_active]

theorem judgeRevert_tb (x : TbId) : d.judgeRevert.tb x = d.tb x := (only_judgeRevert_twin d).tb (by decide) (by decide) x

theorem twinAlarms_role (x : TbId) : d.twinAlarms.role x = d.role x := (only_twinAlarms d).role (by decide) x
theorem twinAlarms_tb (x : TbId) : d.twinAlarms.tb x = d.tb x := (only_twinAlarms d).tb (by decide) (by decide) x

/-! ## Alarms -/

/-- A condition alarm leaves the others. -/
theorem alarmOn_cond_other (a b : Alarm) (on : Bool) (h : a.bit ≠ b.bit) : (d.cond b on).alarmOn a = d.alarmOn a := by
  have hset (v : Nat) : (d.set (bitFld .ALM_ACTIVE b.bit) v (b.bit / 32)).alarmOn a = d.alarmOn a := by
    unfold Dev.alarmOn Dev.flag
    by_cases hunit : a.bit / 32 = b.bit / 32
    · rw [get_set_apart]
      · simp only [bitFld]; omega
      · have hbit : a.bit % 32 < b.bit % 32 ∨ b.bit % 32 < a.bit % 32 := by omega
        simpa [apart, bitFld, Nat.succ_le_iff, or_comm] using hbit
    · rw [get_set_unit _ _ _ _ _ _ hunit]
  unfold Dev.cond
  split
  · split
    · rfl
    · rw [alarmOn_of_word a (fun u => latch_word _ _ u (by decide)), hset]
  · exact hset 0

theorem twinAlarms_retired (h : d.role t = 6) : d.twinAlarms.alarmOn .tbRetired = true := by
  have hsix : (d.role .a == 6 || d.role .b == 6) = true := by cases t <;> simp [h]
  unfold Dev.twinAlarms
  dsimp only
  rw [hsix, when_keeps _ (·.alarmOn .tbRetired) _ (fun d => d.cond .pinnedTbLost false)
    (alarmOn_cond_other _ .tbRetired .pinnedTbLost false (by decide))]
  have hstandby (x : Dev) : ((x.cond .tbStandbyNotReady false).onTwin (fun t => { t with notReadyMs := 0 })).alarmOn .tbRetired =
      x.alarmOn .tbRetired := alarmOn_cond_other x .tbRetired .tbStandbyNotReady false (by decide)
  split
  · rw [hstandby, alarmOn_cond_true]
  · exact alarmOn_cond_true _ _

/-! ## Retirement -/

theorem dropTcmd_role (x : TbId) : (d.dropTcmd t).role x = d.role x := (only_dropTcmd d t).role (by decide) x

/-- What retires of the timebase itself, before its alarms (R19). -/
def retiredTb : Dev := (((d.setRole t 6).onTb t (fun b => { b with running := false })).dropTcmd t).logAdd 0x01 1 7 t.num

theorem retireTb_eq : d.retireTb t = (retiredTb d t).twinAlarms.judgeRevert := rfl

theorem retiredTb_role : (retiredTb d t).role t = 6 := by
  rw [retiredTb, Dev.role, get_logAdd _ _ _ _ _ _ _ (by decide)]
  exact (dropTcmd_role _ t t).trans ((onTb_role _ _ _ _).trans (setRole_role_same d t (by decide)))

theorem retiredTb_role_other {x : TbId} (hx : x ≠ t) : (retiredTb d t).role x = d.role x := by
  rw [retiredTb, Dev.role, get_logAdd _ _ _ _ _ _ _ (by decide)]
  exact (dropTcmd_role _ t x).trans ((onTb_role _ _ _ _).trans (setRole_role_other d t 6 hx))

theorem retireTb_role : (d.retireTb t).role t = 6 := by
  rw [retireTb_eq, judgeRevert_role, twinAlarms_role, retiredTb_role]

theorem retireTb_role_other {x : TbId} (hx : x ≠ t) : (d.retireTb t).role x = d.role x := by
  rw [retireTb_eq, judgeRevert_role, twinAlarms_role, retiredTb_role_other _ _ hx]

theorem retireTb_running : ((d.retireTb t).tb t).running = false := by
  rw [retireTb_eq, judgeRevert_tb, twinAlarms_tb, retiredTb, (only_of_report (report_logAdd _ _ _ _ _)).tb (by decide) (by decide),
    (only_dropTcmd _ _).tb (by decide) (by decide), onTb_tb_same]

theorem retireTb_active : (d.retireTb t).twin.active = d.twin.active := by
  rw [retireTb_eq, judgeRevert_active, twinAlarms_active, retiredTb, logAdd_twin, (only_dropTcmd _ _).active (by decide), onTb_twin,
    setRole_twin]

theorem retireTb_alarm : (d.retireTb t).alarmOn .tbRetired = true := by
  rw [retireTb_eq, alarmOn_of_word _ (fun u => (only_judgeRevert_twin _).word _ u (by decide))]
  exact twinAlarms_retired _ t (retiredTb_role d t)

/-! ## The measured difference -/

theorem setX_role (x : Int) (y : TbId) : (d.setX x).role y = d.role y := (only_setX d x).role (by decide) y

theorem setX_twin (x : Int) : (d.setX x).twin = { d.twin with x := x } := by
  unfold Dev.setX
  dsimp only
  split
  · split
    · exact onTb_twin _ _ _
    · rfl
  · rfl

theorem standby_of_active {d e : Dev} (h : e.twin.active = d.twin.active) : e.standby = d.standby := by
  simp only [Dev.standby, h]

end

section
variable {d : Dev} {o : TbId}

theorem active_of_standby (h : d.standby = some o) : d.twin.active = some o.other := by
  obtain ⟨x, hx, hxo⟩ := Option.map_eq_some_iff.mp h
  rw [hx, ← hxo]
  cases x <;> rfl

theorem now_of_standby (h : d.standby = some o) : d.now = (d.tb o.other).counter := by
  simp only [Dev.now, active_of_standby h]

/-- The standby's counter starts at the time bus plus the difference read. -/
theorem standbyLoad_of_aligning {x : Int} (h : d.standby = some o) (hrole : d.role o = 2) (hfrozen : d.frozen = false) :
    ((d.standbyLoad x).tb o).running = true ∧ ((d.standbyLoad x).tb o).counter = shiftTicks d.now x ∧
      (d.standbyLoad x).twin.x = x ∧ (d.standbyLoad x).tb o.other = d.tb o.other := by
  have hload : d.standbyLoad x = (d.onTb o (fun b => { b with running := true, counter := shiftTicks d.now x, loopInteg := b.dco })).setX x := by
    simp [Dev.standbyLoad, h, hrole, hfrozen]
  rw [hload]
  have hother (f : Timebase → Timebase) : (d.onTb o f).tb o.other = d.tb o.other := onTb_tb_other d o f (other_ne o)
  have hactive : ((d.onTb o (fun b => { b with running := true, counter := shiftTicks d.now x, loopInteg := b.dco })).onTwin
      (fun w => { w with x := x })).standby = some o := by
    rw [← h]
    exact standby_of_active (by simp)
  have hset : (d.onTb o (fun b => { b with running := true, counter := shiftTicks d.now x, loopInteg := b.dco })).setX x =
      ((d.onTb o (fun b => { b with running := true, counter := shiftTicks d.now x, loopInteg := b.dco })).onTwin
        (fun w => { w with x := x })).onTb o (fun b => { b with counter := shiftTicks d.now x }) := by
    have hnow : ((d.onTb o (fun b => { b with running := true, counter := shiftTicks d.now x, loopInteg := b.dco })).onTwin
        (fun w => { w with x := x })).now = d.now := by
      rw [now_of_standby hactive, now_of_standby h, onTwin_tb, hother]
    unfold Dev.setX
    dsimp only
    rw [hactive]
    dsimp only
    rw [onTwin_tb, onTb_tb_same, if_pos rfl, hnow]
  rw [hset]
  refine ⟨?_, ?_, ?_, ?_⟩
  · rw [onTb_tb_same, onTwin_tb, onTb_tb_same]
  · rw [onTb_tb_same]
  · rw [onTb_twin, onTwin_twin]
  · rw [onTb_tb_other _ o _ (other_ne o), onTwin_tb, hother]

theorem standbyTracking_of_near {x : Int} (h : d.standby = some o) (hrole : d.role o = 2) (hrun : (d.tb o).running = true)
    (hx : withinPs x 100 = true) (hfrozen : d.frozen = false) :
    d.standbyTracking x = ((d.setX x).setRole o 3).onTwin (fun w => { w with in20Ms := 0 }) := by
  simp [Dev.standbyTracking, h, hrole, hrun, hx, hfrozen]

theorem standbyReady_of_near {x : Int} (h : d.standby = some o) (hrole : d.role o = 3) (hx : withinPs x 20 = true)
    (hverified : d.twin.verified = true) (hfrozen : d.frozen = false) :
    d.standbyReady x = ((d.setX x).setRole o 4).twinAlarms.judgeRevert := by
  simp [Dev.standbyReady, h, hrole, hx, hverified, hfrozen]

/-- Beyond 1 ns a standby that tracks aligns again; a READY one beyond 20 ps, or with two bad checkpoints, tracks again. -/
theorem standbyLost_of_live {x : Int} (h : d.standby = some o) (hfrozen : d.frozen = false) : d.standbyLost x =
    if (d.role o = 3 || d.role o = 4) && !withinPs x 1000 then ((d.setX x).setRole o 2).judgeRevert
    else if d.role o = 4 && (!withinPs x 20 || 2 ≤ d.twin.verFails) then ((d.setX x).setRole o 3).judgeRevert
    else d.setX x := by
  have hfrozen' : (d.setX x).frozen = false := ((only_setX d x).flag F.TB_HB_STAT_FROZEN 0 (by decide)).trans hfrozen
  unfold Dev.standbyLost
  rw [h]
  dsimp only
  simp only [hfrozen, hfrozen', Bool.false_eq_true, if_false, setX_role, setX_twin]

theorem movedStandby_role (r : Nat) (hr : r < 8) : ((d.setRole o r).judgeRevert).role o = r ∧
    ((d.setRole o r).judgeRevert).role o.other = d.role o.other := by
  rw [judgeRevert_role, judgeRevert_role, setRole_role_same d o hr, setRole_role_other d o r (other_ne o)]
  exact ⟨rfl, rfl⟩

end

end Sys2Proof.Laws

namespace Sys2Proof.Proofs

open Sys2Proof.Machine Sys2Proof.Safety Sys2Proof.Laws

theorem completes_standbyOff {s : State} {o : TbId} (hreach : s.dev.firnReach = true) (hbusy : s.dev.twinBusy = false)
    (hlive : s.dev.liveStandby = some o) : Completes .standbyOff s (fun t => t.dev.role o = 0 ∧ (t.dev.tb o).running = false ∧
      t.dev.role o.other = s.dev.role o.other ∧ t.dev.get F.TB_TWIN_CMD_RESULT = 1) := by
  refine ⟨_, rfl, ?_⟩
  have hdev : (s.onDev (·.reach Dev.standbyOff)).dev =
      ((s.dev.setRole o 0).onTb o (fun b => { b with running := false })).twinAlarms.judgeRevert.set F.TB_TWIN_CMD_RESULT 1 := by
    simp only [onDev_dev, Dev.reach, hreach, if_true, Dev.standbyOff, hbusy, hlive, Bool.false_eq_true, if_false, Dev.twinResult]
  have hresult : Only [] [.TB_TWIN_CMD] _ _ := .set .refl F.TB_TWIN_CMD_RESULT 1 0 (by decide)
    (d := ((s.dev.setRole o 0).onTb o (fun b => { b with running := false })).twinAlarms.judgeRevert)
  dsimp only
  rw [hdev]
  refine ⟨?_, ?_, ?_, get_set_same _ _ _ _ (by decide)⟩
  · rw [hresult.role (by decide), judgeRevert_role, twinAlarms_role, onTb_role, setRole_role_same _ _ (by decide)]
  · rw [hresult.tb (by decide) (by decide), judgeRevert_tb, twinAlarms_tb, onTb_tb_same]
  · rw [hresult.role (by decide), judgeRevert_role, twinAlarms_role, onTb_role, setRole_role_other _ _ _ (other_ne o)]

theorem completes_standbyOn {s : State} {o : TbId} (hreach : s.dev.firnReach = true) (hbusy : s.dev.twinBusy = false)
    (hstandby : s.dev.standby = some o) (hrole : s.dev.role o = 0) : Completes .standbyOn s (fun t => t.dev.role o = 2 ∧
      (t.dev.tb o).running = false ∧ t.dev.role o.other = s.dev.role o.other ∧ t.dev.get F.TB_TWIN_CMD_RESULT = 1) := by
  refine ⟨_, rfl, ?_⟩
  have hdev : (s.onDev (·.reach Dev.standbyOn)).dev = (s.dev.alignStandby o).set F.TB_TWIN_CMD_RESULT 1 := by
    simp [onDev_dev, Dev.reach, hreach, Dev.standbyOn, hbusy, hstandby, hrole, Dev.twinResult]
  have hresult : Only [] [.TB_TWIN_CMD] _ _ := .set .refl F.TB_TWIN_CMD_RESULT 1 0 (by decide) (d := s.dev.alignStandby o)
  dsimp only
  rw [hdev]
  refine ⟨?_, ?_, ?_, get_set_same _ _ _ _ (by decide)⟩
  · rw [hresult.role (by decide), alignStandby_role]
  · rw [hresult.tb (by decide) (by decide), Dev.alignStandby, Dev.placeStandby, twinAlarms_tb, onTwin_tb, onTb_tb_same]
  · rw [hresult.role (by decide), alignStandby_role_other _ _ (other_ne o)]

/-- Settles O14: each move of the standby writes its role, which the alarms and the revertive timer that follow leave. -/
theorem standbyRoles : Obligations.StandbyRoles := by
  refine ⟨fun s x o hstandby hfrozen => ⟨?load, ?tracking, ?ready, ?lost, ?falls, ?fault, ?late⟩,
    fun s o hreach hbusy => ⟨?off, ?on, ?refused⟩⟩
  case load =>
    exact fun hrole => ⟨_, rfl, standbyLoad_of_aligning hstandby hrole hfrozen⟩
  case tracking =>
    intro hrole hrun hx
    refine ⟨_, rfl, ?_⟩
    dsimp only
    rw [onDev_dev, standbyTracking_of_near hstandby hrole hrun hx hfrozen, onTwin_role, onTwin_role,
      setRole_role_same _ _ (by decide), setRole_role_other _ _ _ (other_ne o), setX_role]
    exact ⟨rfl, rfl⟩
  case ready =>
    intro hrole hx hverified
    refine ⟨_, rfl, ?_⟩
    dsimp only
    rw [onDev_dev, standbyReady_of_near hstandby hrole hx hverified hfrozen, judgeRevert_role, judgeRevert_role, twinAlarms_role,
      twinAlarms_role, setRole_role_same _ _ (by decide), setRole_role_other _ _ _ (other_ne o), setX_role]
    exact ⟨rfl, rfl⟩
  case lost =>
    intro hrole hx
    refine ⟨_, rfl, ?_⟩
    dsimp only
    rw [onDev_dev, standbyLost_of_live hstandby hfrozen, if_pos (by simp [hrole, hx]), ← setX_role s.dev x o.other]
    exact movedStandby_role 2 (by decide)
  case falls =>
    intro hrole hx hcause
    refine ⟨_, rfl, ?_⟩
    dsimp only
    rw [onDev_dev, standbyLost_of_live hstandby hfrozen, if_neg (by simp [hx]), if_pos (by simpa [hrole] using hcause),
      ← setX_role s.dev x o.other]
    exact movedStandby_role 3 (by decide)
  case fault =>
    intro w hlive
    obtain ⟨y, hy, hactive⟩ : ∃ y : Dev, s.dev.standbyFault w = y.retireTb o ∧ y.twin.active = s.dev.twin.active := by
      refine ⟨_, by simp only [Dev.standbyFault, hlive]; rfl, ?_⟩
      split
      · rw [(only_restartParty _ _).active (by decide), countDev_twin]
      · rw [memError_twin]
    refine ⟨_, rfl, ?_⟩
    dsimp only
    rw [onDev_dev, hy, retireTb_active, hactive]
    exact ⟨retireTb_role _ _, retireTb_running _ _, retireTb_alarm _ _, rfl⟩
  case late =>
    intro hwarmA hwarmB ha hb
    have hany : s.dev.anyActive = true := by simp [Dev.anyActive, active_of_standby hstandby]
    refine ⟨_, rfl, ?_⟩
    dsimp only
    rw [onDev_dev, Dev.standbyNotReady, hany, hwarmA, hwarmB, bne_iff_ne.mpr ha, bne_iff_ne.mpr hb, Bool.and_self, Bool.and_self,
      Bool.and_self, Bool.and_self, when_true]
    exact ⟨alarmOn_cond_true _ _, cond_twin _ _ _⟩
  case off => exact completes_standbyOff hreach hbusy
  case on => exact completes_standbyOn hreach hbusy
  case refused =>
    intro hstandby hrole
    have hdev : (s.onDev (·.reach Dev.standbyOn)).dev = s.dev.set F.TB_TWIN_CMD_RESULT 7 := by
      simp [onDev_dev, Dev.reach, hreach, Dev.standbyOn, hbusy, hstandby, hrole, Dev.twinResult]
    refine ⟨_, rfl, ?_, ?_, rfl, rfl⟩
    · rw [hdev]
      exact get_set_same _ _ _ _ (by decide)
    · rw [hdev]
      exact .set .refl _ _ _ (by decide)

end Sys2Proof.Proofs

namespace Sys2Proof.Proofs

open Sys2Proof.Machine Sys2Proof.Safety Sys2Proof.Laws

/-- A module with an ACTIVE timebase between the final checkpoint of a handover and the next servo update: the heartbeat check
is suspended (R106). -/
def afterFinalCheckpoint : State :=
  State.reset.onDev (·.onTwin (fun w => { w with active := some .a, finalCp := true }))

/-- While the check is suspended a miss is not counted. -/
theorem heartbeatMiss_afterFinalCheckpoint (line mem : Bool) :
    exec (.heartbeatMiss line mem) afterFinalCheckpoint = .next afterFinalCheckpoint := rfl

/-- Refutes O15: the statement does not except the span from a handover's final checkpoint to the next servo update, in which
HEARTBEAT_MISS counts nothing (R106); with the miss count of the line 0 it stays 0 and does not become 1. -/
theorem not_heartbeats : ¬ Obligations.Heartbeats := by
  intro h
  obtain ⟨_, _, hcounts, _⟩ := h afterFinalCheckpoint rfl
  obtain ⟨_, _, hline, _⟩ := hcounts rfl rfl
  obtain ⟨t, hexec, hmiss, _⟩ := hline
  rw [heartbeatMiss_afterFinalCheckpoint] at hexec
  rw [← Host.Outcome.next.inj hexec] at hmiss
  exact absurd hmiss (by decide)

end Sys2Proof.Proofs

namespace Sys2Proof.Proofs

open Sys2Proof.Machine Sys2Proof.Safety Sys2Proof.Laws

/-- A module in the gap after a declared failure: FROZEN still holds while the synthesizers lock to the new active timebase. -/
def inGap : State :=
  State.reset.onDev (fun d => (d.setB F.TB_HB_STAT_FROZEN true).onTwin (fun w => { w with active := some .b, relocking := true }))

theorem inGap_frozen : inGap.dev.frozen = true := by decide

/-- In the gap no replay is under way, and MIRROR_REPLAY_DONE has no effect. -/
theorem mirrorReplayDone_inGap (cp0Ok cp1Ok : Bool) (good : Nat) :
    exec (.mirrorReplayDone cp0Ok cp1Ok good) inGap = .next inGap := rfl

/-- Refutes O16: the statement does not except the gap after a declared failure, in which FROZEN holds and the freeze has no
replay any more (R103); there MIRROR_REPLAY_DONE without a good checkpoint leaves the mark of a bad mirror as it is. -/
theorem not_takeoverAndHandover : ¬ Obligations.TakeoverAndHandover := by
  intro h
  obtain ⟨_, _, hbad, _⟩ := h.1 inGap
  obtain ⟨t, hexec, hmarked⟩ := hbad 0 inGap_frozen
  rw [mirrorReplayDone_inGap] at hexec
  rw [← Host.Outcome.next.inj hexec] at hmarked
  exact absurd hmarked (by decide)

end Sys2Proof.Proofs

/-! SUPPORT. Laws of synthesizers and outputs: what their parts and status bits read after each operation. -/

namespace Sys2Proof.Safety

open Sys2Proof.Machine Sys2Proof.Laws

variable {P : List Part} {R : List Reg} {d e : Dev}

theorem Only.syn (h : Only P R d e) (hp : Part.syns ∉ P) (i : Nat) : e.syn i = d.syn i :=
  congrArg (fun l => tabGet l Syn.init i) (h.part .syns hp)

theorem Only.out (h : Only P R d e) (hp : Part.outs ∉ P) (n : Nat) : e.out n = d.out n :=
  congrArg (fun l => tabGet l OutSt.init n) (h.part .outs hp)

theorem Only.outMode (h : Only P R d e) (hr : Reg.OUT_CFG ∉ R) (n : Nat) : e.outMode n = d.outMode n := by
  unfold Dev.outMode
  rw [h.get F.OUT_CFG_MODE _ hr]

theorem Only.outEn (h : Only P R d e) (hr : Reg.OUT_CFG ∉ R) (n : Nat) : e.outEn n = d.outEn n := by
  unfold Dev.outEn Dev.outFmt
  rw [h.get F.OUT_CFG_FMT _ hr, h.flag F.OUT_CFG_EN _ hr]

theorem Only.moved (h : Only P R d e) (hr : Reg.OUT_CFG ∉ R) (n : Nat) : e.moved n = d.moved n := by
  unfold Dev.moved
  rw [h.outEn hr, h.outMode hr]

theorem Only.now (h : Only P R d e) (ha : .tbA ∉ P) (hb : .tbB ∉ P) (ht : .twin ∉ P) : e.now = d.now := by
  have htb (x : TbId) := h.tb ha hb x
  have hactive := h.active ht
  unfold Dev.now
  rw [hactive]
  simp only [htb]

theorem Only.fineNow (h : Only P R d e) (ha : .tbA ∉ P) (hb : .tbB ∉ P) (ht : .twin ∉ P) : e.fineNow = d.fineNow := by
  simp only [Dev.fineNow, h.now ha hb ht]

theorem Only.anyActive (h : Only P R d e) (ht : .twin ∉ P) : e.anyActive = d.anyActive := by
  simp only [Dev.anyActive, h.active ht]

end Sys2Proof.Safety

namespace Sys2Proof.Laws

open Sys2Proof.Machine Sys2Proof.Safety

variable (d : Dev) (i n : Nat)

/-! ## The tables -/

@[simp] theorem syn_onSyn_same (f : Syn → Syn) : (d.onSyn i f).syn i = f (d.syn i) := by
  simp [Dev.syn, Dev.onSyn]

theorem syn_onSyn_other (f : Syn → Syn) {j : Nat} (h : j ≠ i) : (d.onSyn i f).syn j = d.syn j :=
  tabGet_tabSet_other _ _ _ _ h

@[simp] theorem out_onOut_same (f : OutSt → OutSt) : (d.onOut n f).out n = f (d.out n) := by
  simp [Dev.out, Dev.onOut]

theorem out_onOut_other (f : OutSt → OutSt) {m : Nat} (h : m ≠ n) : (d.onOut n f).out m = d.out m :=
  tabGet_tabSet_other _ _ _ _ h

@[simp] theorem onSyn_word (f : Syn → Syn) (r : Reg) (u : Nat) : (d.onSyn i f).word r u = d.word r u := rfl
@[simp] theorem onSyn_get (f : Syn → Syn) (g : Fld) (u : Nat) : (d.onSyn i f).get g u = d.get g u := rfl
@[simp] theorem onOut_word (f : OutSt → OutSt) (r : Reg) (u : Nat) : (d.onOut n f).word r u = d.word r u := rfl
@[simp] theorem onOut_get (f : OutSt → OutSt) (g : Fld) (u : Nat) : (d.onOut n f).get g u = d.get g u := rfl
@[simp] theorem onOut_syn (f : OutSt → OutSt) (j : Nat) : (d.onOut n f).syn j = d.syn j := rfl
@[simp] theorem onSyn_out (f : Syn → Syn) (m : Nat) : (d.onSyn i f).out m = d.out m := rfl
@[simp] theorem set_syn (f : Fld) (v u j : Nat) : (d.set f v u).syn j = d.syn j := rfl
@[simp] theorem set_out (f : Fld) (v u m : Nat) : (d.set f v u).out m = d.out m := rfl
@[simp] theorem setMark_syn (f ch : Fld) (v u j : Nat) : (d.setMark f v ch u).syn j = d.syn j :=
  setMark_rest d (·.syn j) (fun _ _ _ _ => rfl) f ch v u
@[simp] theorem setMark_out (f ch : Fld) (v u m : Nat) : (d.setMark f v ch u).out m = d.out m :=
  setMark_rest d (·.out m) (fun _ _ _ _ => rfl) f ch v u
@[simp] theorem synBit_syn (f : Fld) (b : Bool) (u j : Nat) : (d.synBit f b u).syn j = d.syn j := setMark_syn d _ _ _ _ _
@[simp] theorem synBit_out (f : Fld) (b : Bool) (u m : Nat) : (d.synBit f b u).out m = d.out m := setMark_out d _ _ _ _ _
@[simp] theorem outBit_syn (f : Fld) (b : Bool) (u j : Nat) : (d.outBit f b u).syn j = d.syn j := setMark_syn d _ _ _ _ _
@[simp] theorem outBit_out (f : Fld) (b : Bool) (u m : Nat) : (d.outBit f b u).out m = d.out m := setMark_out d _ _ _ _ _

/-! ## Status bits -/

theorem synBit_flag_same (f : Fld) (b : Bool) (h : f.lo + f.width ≤ 32) (ha : apart F.SYN_STAT_CHANGED f = true)
    (hw : f.width = 1) : (d.synBit f b i).flag f i = b := flag_setMark_same d f _ b i h (by decide) ha hw

theorem synBit_get_apart (f g : Fld) (b : Bool) (u : Nat) (h : f.lo + f.width ≤ 32) (ha : apart f g = true)
    (hc : apart F.SYN_STAT_CHANGED g = true) : (d.synBit f b i).get g u = d.get g u :=
  get_setMark_apart d f _ g _ _ _ h (by decide) ha hc

theorem synBit_flag_apart (f g : Fld) (b : Bool) (u : Nat) (h : f.lo + f.width ≤ 32) (ha : apart f g = true)
    (hc : apart F.SYN_STAT_CHANGED g = true) : (d.synBit f b i).flag g u = d.flag g u := by
  simp only [Dev.flag, synBit_get_apart d i f g b u h ha hc]

theorem outBit_flag_same (f : Fld) (b : Bool) (h : f.lo + f.width ≤ 32) (ha : apart F.OUT_STAT_CHANGED f = true)
    (hw : f.width = 1) : (d.outBit f b n).flag f n = b := flag_setMark_same d f _ b n h (by decide) ha hw

theorem outBit_get_apart (f g : Fld) (b : Bool) (u : Nat) (h : f.lo + f.width ≤ 32) (ha : apart f g = true)
    (hc : apart F.OUT_STAT_CHANGED g = true) : (d.outBit f b n).get g u = d.get g u :=
  get_setMark_apart d f _ g _ _ _ h (by decide) ha hc

theorem outBit_flag_apart (f g : Fld) (b : Bool) (u : Nat) (h : f.lo + f.width ≤ 32) (ha : apart f g = true)
    (hc : apart F.OUT_STAT_CHANGED g = true) : (d.outBit f b n).flag g u = d.flag g u := by
  simp only [Dev.flag, outBit_get_apart d n f g b u h ha hc]

theorem outBit_flag_unit (f g : Fld) (b : Bool) (u : Nat) (h : u ≠ n) : (d.outBit f b n).flag g u = d.flag g u := by
  simp only [Dev.flag, Dev.outBit, get_setMark_unit d f _ g _ _ _ h]

/-! ## Steps -/

/-- The outputs that a step moves lose ALIGNED. -/
def unalignMoved (d : Dev) : Dev :=
  d.each [2 * i, 2 * i + 1] (fun d n => d.when (d.moved n) (fun d => d.outBit F.OUT_STAT_ALIGNED false n))

theorem only_unalignMoved : Only [] [.OUT_STAT] d (unalignMoved i d) :=
  .each .refl _ _ fun _ _ => .when .refl _ _ (.setMark .refl _ _ _ _ (by decide) (by decide))

theorem startStep_eq (p : PhaseStep) : d.startStep i p = unalignMoved i
    ((((d.onSyn i (fun s => { s with step := some { p with runs := true, start := d.fineNow } })).synBit F.SYN_STAT_STEP_PEND false i).synBit
      F.SYN_STAT_STEP_RUN true i).redueFrame i) := rfl

theorem startStep_step (p : PhaseStep) : ((d.startStep i p).syn i).step = some { p with runs := true, start := d.fineNow } := by
  rw [startStep_eq, (only_unalignMoved _ _).syn (by decide), (only_redueFrame _ _).syn (by decide), synBit_syn, synBit_syn,
    syn_onSyn_same]

theorem startStep_run (p : PhaseStep) : (d.startStep i p).flag F.SYN_STAT_STEP_RUN i = true := by
  rw [startStep_eq, (only_unalignMoved _ _).flag _ _ (by decide), (only_redueFrame _ _).flag _ _ (by decide)]
  exact synBit_flag_same _ _ _ _ (by decide) (by decide) rfl

theorem startStep_pend (p : PhaseStep) : (d.startStep i p).flag F.SYN_STAT_STEP_PEND i = false := by
  rw [startStep_eq, (only_unalignMoved _ _).flag _ _ (by decide), (only_redueFrame _ _).flag _ _ (by decide),
    synBit_flag_apart _ _ _ _ _ _ (by decide) (by decide) (by decide)]
  exact synBit_flag_same _ _ _ _ (by decide) (by decide) rfl

/-- The end of a step clears it, its bits, and shows a result. -/
theorem endStep_of_step {p : PhaseStep} {r : Nat} (h : (d.syn i).step = some p) (hr : r < 16) :
    ((d.endStep i r).syn i).step = none ∧ (d.endStep i r).get F.SYN_CMD_RESULT i = r ∧
      (d.endStep i r).flag F.SYN_STAT_STEP_RUN i = false ∧ (d.endStep i r).flag F.SYN_STAT_STEP_PEND i = false := by
  unfold Dev.endStep
  rw [h]
  dsimp only
  refine ⟨?_, ?_, ?_, ?_⟩
  · rw [set_syn, synBit_syn, synBit_syn, (only_redueFrame _ _).syn (by decide), syn_onSyn_same]
  · rw [get_set_same _ _ _ _ (by decide)]
    exact Nat.mod_eq_of_lt hr
  · rw [flag_set_apart _ _ _ _ _ _ (by decide) (by decide), synBit_flag_apart _ _ _ _ _ _ (by decide) (by decide) (by decide)]
    exact synBit_flag_same _ _ _ _ (by decide) (by decide) rfl
  · rw [flag_set_apart _ _ _ _ _ _ (by decide) (by decide)]
    exact synBit_flag_same _ _ _ _ (by decide) (by decide) rfl

/-- It writes only the bits of the step. -/
theorem endStep_flag (r : Nat) (g : Fld) (u : Nat) (hg : g ∈ [F.SYN_STAT_LOCKED, F.SYN_STAT_ACQUIRING, F.SYN_STAT_RETIRED]) :
    (d.endStep i r).flag g u = d.flag g u := by
  have hcmd : apart F.SYN_CMD_RESULT g = true := by revert g; decide
  have hrun : apart F.SYN_STAT_STEP_RUN g = true := by revert g; decide
  have hpend : apart F.SYN_STAT_STEP_PEND g = true := by revert g; decide
  have hchanged : apart F.SYN_STAT_CHANGED g = true := by revert g; decide
  unfold Dev.endStep
  split
  · rfl
  · dsimp only
    rw [flag_set_apart _ _ _ _ _ _ (by decide) hcmd, synBit_flag_apart _ _ _ _ _ _ (by decide) hpend hchanged,
      synBit_flag_apart _ _ _ _ _ _ (by decide) hrun hchanged, Dev.flag, (only_redueFrame _ _).get g _ List.not_mem_nil, onSyn_get]
    split
    · rw [(only_moveOuts _ _ _).get g _ List.not_mem_nil]
      rfl
    · rfl

end Sys2Proof.Laws

/-! SUPPORT. What the changes of synthesizers, lanes and ports that follow one another leave alone: the refusal bit of an output, and a
synthesizer that is retired and stopped. -/

namespace Sys2Proof.Laws

open Sys2Proof.Machine Sys2Proof.Safety

/-- A retired synthesizer that neither holds nor seeks a lock. -/
structure Dead (d : Dev) (i : Nat) : Prop where
  retired : d.flag F.SYN_STAT_RETIRED i = true
  unlocked : d.flag F.SYN_STAT_LOCKED i = false
  still : d.flag F.SYN_STAT_ACQUIRING i = false

/-- A change that leaves CFG_REJ of every output as it was and every dead synthesizer dead. -/
structure Calm (d e : Dev) : Prop where
  rejected : ∀ n, e.flag F.OUT_STAT_CFG_REJ n = d.flag F.OUT_STAT_CFG_REJ n
  dead : ∀ i, Dead d i → Dead e i

variable {P : List Part} {R : List Reg} {x d e : Dev}

theorem dead_congr {i : Nat} (h : ∀ g ∈ [F.SYN_STAT_RETIRED, F.SYN_STAT_LOCKED, F.SYN_STAT_ACQUIRING], e.flag g i = d.flag g i)
    (k : Dead d i) : Dead e i :=
  ⟨(h _ (by simp)).trans k.retired, (h _ (by simp)).trans k.unlocked, (h _ (by simp)).trans k.still⟩

namespace Calm

theorem refl (d : Dev) : Calm d d := ⟨fun _ => rfl, fun _ h => h⟩
theorem trans (h : Calm x d) (k : Calm d e) : Calm x e :=
  ⟨fun n => (k.rejected n).trans (h.rejected n), fun i w => k.dead i (h.dead i w)⟩
theorem after (k : Calm d e) (h : Calm x d) : Calm x e := h.trans k

/-- What writes neither status register. -/
theorem quiet (h : Calm x d) (k : Only P R d e) (hout : Reg.OUT_STAT ∉ R) (hsyn : Reg.SYN_STAT ∉ R) : Calm x e :=
  h.trans ⟨fun n => k.flag F.OUT_STAT_CFG_REJ n hout, fun i => dead_congr (fun g hg => k.flag g i (by
    have hreg : g.reg = .SYN_STAT := by revert g; decide
    rwa [hreg]))⟩

theorem of_only (k : Only P R d e) (hout : Reg.OUT_STAT ∉ R) (hsyn : Reg.SYN_STAT ∉ R) : Calm d e := (Calm.refl d).quiet k hout hsyn

theorem when (h : Calm x d) (b : Bool) (f : Dev → Dev) (k : Calm d (f d)) : Calm x (d.when b f) := by
  cases b
  · exact h
  · exact h.trans k

theorem each {α : Type} (h : Calm x d) (l : List α) (f : Dev → α → Dev) (k : ∀ e a, Calm e (f e a)) : Calm x (d.each l f) := by
  unfold Dev.each
  induction l generalizing d with
  | nil => exact h
  | cons a l ih => exact ih (h.trans (k d a))

theorem set (h : Calm x d) (f : Fld) (v u : Nat) (hr : f.reg ≠ .OUT_STAT ∧ f.reg ≠ .SYN_STAT) : Calm x (d.set f v u) :=
  h.quiet (P := []) (R := [f.reg]) (Only.refl.set f v u (by simp)) (by simpa using hr.1.symm) (by simpa using hr.2.symm)
theorem setWord (h : Calm x d) (r : Reg) (u : Nat) (w : Word) (hr : r ≠ .OUT_STAT ∧ r ≠ .SYN_STAT) : Calm x (d.setWord r u w) :=
  h.quiet (P := []) (R := [r]) (Only.refl.setWord r u w (by simp)) (by simpa using hr.1.symm) (by simpa using hr.2.symm)
theorem setMark (h : Calm x d) (f ch : Fld) (v u : Nat) (hf : f.reg ≠ .OUT_STAT ∧ f.reg ≠ .SYN_STAT)
    (hc : ch.reg ≠ .OUT_STAT ∧ ch.reg ≠ .SYN_STAT) : Calm x (d.setMark f v ch u) :=
  h.quiet (P := []) (R := [f.reg, ch.reg]) (Only.refl.setMark f ch v u (by simp) (by simp))
    (by simpa using ⟨hf.1.symm, hc.1.symm⟩) (by simpa using ⟨hf.2.symm, hc.2.symm⟩)
theorem quadSet (h : Calm x d) (f : Fld) (v p : Nat) (hr : f.reg ≠ .OUT_STAT ∧ f.reg ≠ .SYN_STAT) : Calm x (d.quadSet f v p) :=
  h.setMark _ _ _ _ hr (by decide)
theorem laneBit (h : Calm x d) (f : Fld) (b : Bool) (l : Nat) (hr : f.reg ≠ .OUT_STAT ∧ f.reg ≠ .SYN_STAT) : Calm x (d.laneBit f b l) :=
  h.setMark _ _ _ _ hr (by decide)
theorem ptuBit (h : Calm x d) (f : Fld) (b : Bool) (p : Nat) (hr : f.reg ≠ .OUT_STAT ∧ f.reg ≠ .SYN_STAT) : Calm x (d.ptuBit f b p) :=
  h.setMark _ _ _ _ hr (by decide)
theorem onPort (h : Calm x d) (i : Nat) (f : Port → Port) : Calm x (d.onPort i f) :=
  h.quiet (Only.refl.onPort (P := [.ports]) (R := []) i f (by decide)) (by decide) (by decide)
theorem onPtu (h : Calm x d) (i : Nat) (f : PtuPort → PtuPort) : Calm x (d.onPtu i f) :=
  h.quiet (Only.refl.onPtu (P := [.ptus]) (R := []) i f (by decide)) (by decide) (by decide)
theorem onSys (h : Calm x d) (f : Sys → Sys) : Calm x (d.onSys f) :=
  h.quiet (Only.refl.onSys (P := [.sys]) (R := []) f (by decide)) (by decide) (by decide)
theorem onSw (h : Calm x d) (f : Switch → Switch) : Calm x (d.onSw f) :=
  h.quiet (Only.refl.onSw (P := [.sw]) (R := []) f (by decide)) (by decide) (by decide)
theorem spendFree (h : Calm x d) : Calm x d.spendFree :=
  h.quiet (Only.refl.spendFree (P := [.freeCtr]) (R := []) (by decide)) (by decide) (by decide)

/-- A status bit of an output other than CFG_REJ. -/
theorem outBit (h : Calm x d) (f : Fld) (b : Bool) (n : Nat)
    (hf : f.lo + f.width ≤ 32 ∧ f.reg = .OUT_STAT ∧ apart f F.OUT_STAT_CFG_REJ = true) : Calm x (d.outBit f b n) := by
  obtain ⟨hfit, hreg, hrej⟩ := hf
  refine h.trans ⟨fun m => outBit_flag_apart d n f _ b m hfit hrej (by decide), fun i => dead_congr fun g hg => ?_⟩
  have hgreg : g.reg = .SYN_STAT := by revert g; decide
  exact (Only.refl.outBit (P := []) (R := [.OUT_STAT]) f b n (by simp [hreg]) (by decide)).flag g i (by simp [hgreg])

/-- A status bit of a synthesizer that says nothing of its lock, of another one, or the end of a lock. -/
theorem synBit (h : Calm x d) (f : Fld) (b : Bool) (i : Nat) (hf : f.lo + f.width ≤ 32 ∧ f.reg = .SYN_STAT ∧
    apart f F.SYN_STAT_RETIRED = true ∧ apart f F.SYN_STAT_LOCKED = true ∧ apart f F.SYN_STAT_ACQUIRING = true) : Calm x (d.synBit f b i) := by
  obtain ⟨hfit, hreg, hretired, hlocked, hacq⟩ := hf
  refine h.trans ⟨fun n => ?_, fun j k => ⟨?_, ?_, ?_⟩⟩
  · exact (Only.refl.synBit (P := []) (R := [.SYN_STAT]) f b i (by simp [hreg]) (by decide)).flag _ n (by decide)
  · rw [synBit_flag_apart d i f _ b j hfit hretired (by decide), k.retired]
  · rw [synBit_flag_apart d i f _ b j hfit hlocked (by decide), k.unlocked]
  · rw [synBit_flag_apart d i f _ b j hfit hacq (by decide), k.still]

theorem synOff (h : Calm x d) (f : Fld) (i : Nat) (hf : f = F.SYN_STAT_LOCKED ∨ f = F.SYN_STAT_ACQUIRING) : Calm x (d.synBit f false i) := by
  refine h.trans ⟨fun n => ?_, fun j k => ?_⟩
  · have hreg : f.reg = .SYN_STAT := by rcases hf with rfl | rfl <;> rfl
    exact (Only.refl.synBit (P := []) (R := [.SYN_STAT]) f false i (by simp [hreg]) (by decide)).flag _ n (by decide)
  · by_cases hj : j = i
    · subst hj
      obtain ⟨hretired, hlocked, hacq⟩ := k
      rcases hf with rfl | rfl
      · exact ⟨(synBit_flag_apart d j _ _ false j (by decide) (by decide) (by decide)).trans hretired,
          synBit_flag_same d j _ false (by decide) (by decide) rfl,
          (synBit_flag_apart d j _ _ false j (by decide) (by decide) (by decide)).trans hacq⟩
      · exact ⟨(synBit_flag_apart d j _ _ false j (by decide) (by decide) (by decide)).trans hretired,
          (synBit_flag_apart d j _ _ false j (by decide) (by decide) (by decide)).trans hlocked,
          synBit_flag_same d j _ false (by decide) (by decide) rfl⟩
    · exact dead_congr (fun g _ => by simp only [Dev.flag, Dev.synBit, get_setMark_unit d f _ g _ _ _ hj]) k

end Calm

/-- A synthesizer that is not retired may be changed in any way that leaves the others. -/
theorem calm_of_alive {i : Nat} (halive : d.synRetired i = false) (hrej : ∀ n, e.flag F.OUT_STAT_CFG_REJ n = d.flag F.OUT_STAT_CFG_REJ n)
    (hother : ∀ j, j ≠ i → Dead d j → Dead e j) : Calm d e :=
  ⟨hrej, fun j k => hother j (fun hj => by
    have hretired := k.retired
    rw [hj] at hretired
    rw [Dev.synRetired, hretired] at halive
    cases halive) k⟩

theorem calm_endStep (d : Dev) (i result : Nat) : Calm d (d.endStep i result) := by
  unfold Dev.endStep
  try dsimp only
  repeat' first
    | with_reducible exact Calm.refl _
    | with_reducible refine Calm.set ?_ _ _ _ (by decide)
    | with_reducible refine Calm.synBit ?_ _ _ _ (by decide)
    | with_reducible refine (Calm.of_only (only_moveOuts _ _ _) (by decide) (by decide)).after ?_
    | with_reducible refine (Calm.of_only (only_redueFrame _ _) (by decide) (by decide)).after ?_
    | with_reducible refine (Calm.of_only (only_onSyn _ _ _) (by decide) (by decide)).after ?_
    | split

theorem calm_refreshOut (d : Dev) (n : Nat) : Calm d (d.refreshOut n) := by
  unfold Dev.refreshOut
  try dsimp only
  repeat' first
    | with_reducible exact Calm.refl _
    | with_reducible refine Calm.outBit ?_ _ _ _ (by decide)
    | with_reducible refine (Calm.of_only (only_onOut _ _ _) (by decide) (by decide)).after ?_
    | split

theorem calm_beginOut (d : Dev) (n : Nat) : Calm d (d.beginOut n) := by
  unfold Dev.beginOut
  try dsimp only
  repeat' first
    | with_reducible exact Calm.refl _
    | with_reducible refine (calm_refreshOut _ _).after ?_
    | with_reducible refine Calm.outBit ?_ _ _ _ (by decide)
    | with_reducible refine (Calm.of_only (only_emitEdge _ _ _) (by decide) (by decide)).after ?_
    | with_reducible refine (Calm.of_only (only_placeEdge _ _ _ _) (by decide) (by decide)).after ?_
    | with_reducible refine (Calm.of_only (only_onOut _ _ _) (by decide) (by decide)).after ?_
    | split

theorem calm_beginPair (d : Dev) (k : Nat) : Calm d (d.beginPair k) := by
  unfold Dev.beginPair
  try dsimp only
  repeat' first
    | with_reducible exact Calm.refl _
    | with_reducible refine (calm_beginOut _ _).after ?_
    | with_reducible refine Calm.each ?_ _ _ (fun _ _ => ?_)

theorem calm_dropOut (d : Dev) (n : Nat) : Calm d (d.dropOut n) := by
  unfold Dev.dropOut
  try dsimp only
  repeat' first
    | with_reducible exact Calm.refl _
    | with_reducible refine (calm_refreshOut _ _).after ?_
    | with_reducible refine Calm.outBit ?_ _ _ _ (by decide)
    | with_reducible refine (Calm.of_only (only_onOut _ _ _) (by decide) (by decide)).after ?_

theorem calm_squelch (d : Dev) (k : Nat) : Calm d (d.squelch k) := by
  unfold Dev.squelch
  try dsimp only
  repeat' first
    | with_reducible exact Calm.refl _
    | with_reducible refine (calm_dropOut _ _).after ?_
    | with_reducible refine Calm.outBit ?_ _ _ _ (by decide)
    | with_reducible refine Calm.each ?_ _ _ (fun _ _ => ?_)
    | split

theorem calm_bandEntry (d : Dev) (e i : Nat) : Calm d (d.set F.SYN_STAT_BAND_ENTRY e i) :=
  ⟨fun n => flag_set_apart _ _ _ _ _ _ (by decide) (by decide), fun j k =>
    ⟨(flag_set_apart _ _ _ _ _ _ (by decide) (by decide)).trans k.retired,
      (flag_set_apart _ _ _ _ _ _ (by decide) (by decide)).trans k.unlocked,
      (flag_set_apart _ _ _ _ _ _ (by decide) (by decide)).trans k.still⟩⟩

/-- A synthesizer that is not retired begins to seek a lock, with calm changes before and after. -/
theorem calm_seek {i : Nat} {y z : Dev} (halive : x.synRetired i = false) (h : Calm x y) (k : Calm (y.synBit F.SYN_STAT_ACQUIRING true i) z) :
    Calm x z := by
  refine calm_of_alive halive (fun n => ?_) (fun j hj w => k.dead j ?_)
  · rw [k.rejected, (Only.refl.synBit (P := []) (R := [.SYN_STAT]) _ _ _ (by decide) (by decide)).flag _ n (by decide), h.rejected]
  · exact dead_congr (fun g _ => by simp only [Dev.flag, Dev.synBit, get_setMark_unit y _ _ g _ _ _ hj]) (h.dead j w)

theorem calm_acquire (d : Dev) (i w : Nat) : Calm d (d.acquire i w) := by
  unfold Dev.acquire
  split
  · exact .refl _
  · rename_i hfree
    have halive : d.synRetired i = false := by
      simp only [Bool.or_eq_true, not_or, Bool.not_eq_true] at hfree
      exact hfree.1
    split
    · exact (Calm.refl _).quiet (only_onSyn _ _ _) (by decide) (by decide)
    · split
      · exact (((Calm.refl _).synBit _ _ _ (by decide)).quiet (only_of_report (report_raise _ _)) (by decide) (by decide)).quiet
          (only_of_report (report_devEvent _ _ _ _ _)) (by decide) (by decide)
      · rename_i entry _
        extract_lets d1 d2 d3 d4
        have htimed : Calm d d1 := ((calm_endStep d i 8).quiet (only_retime _ i w) (by decide) (by decide)).quiet (only_onSyn _ i _)
          (by decide) (by decide)
        have hcleared := ((htimed.synBit F.SYN_STAT_BAND_MISS false i (by decide)).synBit F.SYN_STAT_ACQ_FAIL false i (by decide)).synOff _ i
          (.inl rfl)
        have hsquelched := ((calm_bandEntry ((d2.synBit F.SYN_STAT_LOCKED false i).synBit F.SYN_STAT_ACQUIRING true i) entry i).quiet
          (only_of_report (report_countDev _ (202 + i) 1)) (by decide) (by decide)).trans (calm_squelch _ i)
        have hsought : Calm d d4 := calm_seek halive hcleared hsquelched
        split
        · exact hsought.trans (calm_beginPair d4 i)
        · exact hsought

theorem calm_startInternal (d : Dev) (i : Nat) : Calm d (d.startInternal i) := by
  unfold Dev.startInternal
  try dsimp only
  repeat' first
    | with_reducible exact Calm.refl _
    | with_reducible refine (calm_acquire _ _ _).after ?_
    | split

theorem calm_restartLpll (d : Dev) (k : Nat) : Calm d (d.restartLpll k) := by
  unfold Dev.restartLpll
  try dsimp only
  repeat' first
    | with_reducible exact Calm.refl _
    | with_reducible refine (calm_startInternal _ _).after ?_
    | with_reducible refine Calm.onSys ?_ _
    | split

theorem calm_wakeTx (d : Dev) (p : Nat) : Calm d (d.wakeTx p) := by
  unfold Dev.wakeTx
  try dsimp only
  repeat' first
    | with_reducible exact Calm.refl _
    | with_reducible refine (calm_restartLpll _ _).after ?_
    | with_reducible refine Calm.quadSet ?_ _ _ _ (by decide)
    | with_reducible refine Calm.onPort ?_ _ _
    | with_reducible refine (Calm.of_only (only_of_report (report_countPort _ _ _ _)) (by decide) (by decide)).after ?_
    | with_reducible refine (Calm.of_only (only_judgeBanks _) (by decide) (by decide)).after ?_
    | split

theorem calm_link (d : Dev) (p q : Nat) (l : Link) : Calm d (d.link p q l) := by
  unfold Dev.link
  try dsimp only
  repeat' first
    | with_reducible exact Calm.refl _
    | with_reducible refine (calm_wakeTx _ _).after ?_
    | with_reducible refine (Calm.of_only (only_judgeIdle _ _) (by decide) (by decide)).after ?_
    | with_reducible refine (Calm.of_only (only_onFrame _ _ _) (by decide) (by decide)).after ?_
    | with_reducible refine (Calm.of_only (only_setQueue _ _ _ _) (by decide) (by decide)).after ?_

theorem calm_spoilTx (d : Dev) (f : Nat) : Calm d (d.spoilTx f) := (Calm.refl d).onSw _

theorem calm_spoilFrame (d : Dev) (fid : Nat) : Calm d (d.spoilFrame fid) := by
  unfold Dev.spoilFrame
  try dsimp only
  repeat' first
    | with_reducible exact Calm.refl _
    | with_reducible refine Calm.onSw ?_ _
    | with_reducible refine (Calm.of_only (only_dropLinks _ _) (by decide) (by decide)).after ?_
    | with_reducible refine (Calm.of_only (only_onFrame _ _ _) (by decide) (by decide)).after ?_
    | with_reducible refine (Calm.of_only (only_refreshHeld _ _) (by decide) (by decide)).after ?_
    | with_reducible refine (Calm.of_only (only_release _ _) (by decide) (by decide)).after ?_
    | with_reducible refine (calm_spoilTx _ _).after ?_
    | split

theorem calm_offer (d : Dev) (p q fid lc : Nat) (copy : Option Nat) : Calm d (d.offer p q fid lc copy).1 := by
  unfold Dev.offer
  try dsimp only
  repeat' first
    | with_reducible exact Calm.refl _
    | with_reducible refine (calm_link _ _ _ _).after ?_
    | with_reducible refine (calm_wakeTx _ _).after ?_
    | with_reducible refine Calm.spendFree ?_
    | with_reducible refine (Calm.of_only (only_of_report (report_portEvent _ _ _ _ _)) (by decide) (by decide)).after ?_
    | with_reducible refine (Calm.of_only (only_chargeFrame _ _ _ _) (by decide) (by decide)).after ?_
    | with_reducible refine (Calm.of_only (only_judgeIdle _ _) (by decide) (by decide)).after ?_
    | with_reducible refine (Calm.of_only (only_onFrame _ _ _) (by decide) (by decide)).after ?_
    | with_reducible refine (Calm.of_only (only_redUpdate _ _ _) (by decide) (by decide)).after ?_
    | with_reducible refine (Calm.of_only (only_refuse _ _ _ _) (by decide) (by decide)).after ?_
    | with_reducible refine (Calm.of_only (only_setTail _ _ _ _) (by decide) (by decide)).after ?_
    | with_reducible refine Calm.when ?_ _ _ ?_
    | split

theorem calm_takeCopy (d : Dev) (fid : Nat) (c : MirCopy) : Calm d (d.takeCopy fid c) := by
  unfold Dev.takeCopy
  try dsimp only
  repeat' first
    | with_reducible exact Calm.refl _
    | with_reducible refine (calm_offer _ _ _ _ _ _).after ?_
    | with_reducible refine Calm.onSw ?_ _
    | with_reducible refine (Calm.of_only (only_of_report (report_countDev _ _ _)) (by decide) (by decide)).after ?_
    | split

theorem calm_takeCopies (d : Dev) (fid : Nat) : Calm d (d.takeCopies fid) := by
  unfold Dev.takeCopies
  try dsimp only
  repeat' first
    | with_reducible exact Calm.refl _
    | with_reducible refine (calm_takeCopy _ _ _).after ?_
    | with_reducible refine (Calm.of_only (only_onFrame _ _ _) (by decide) (by decide)).after ?_
    | with_reducible refine Calm.each ?_ _ _ (fun _ _ => ?_)
    | split

theorem calm_cutPort (d : Dev) (p : Nat) : Calm d (d.cutPort p) := by
  unfold Dev.cutPort
  try dsimp only
  repeat' first
    | with_reducible exact Calm.refl _
    | with_reducible refine (calm_link _ _ _ _).after ?_
    | with_reducible refine (calm_spoilFrame _ _).after ?_
    | with_reducible refine (calm_takeCopies _ _).after ?_
    | with_reducible refine (Calm.of_only (only_countFrame _ _ _ _) (by decide) (by decide)).after ?_
    | with_reducible refine (Calm.of_only (only_flushLink _ _ _ _) (by decide) (by decide)).after ?_
    | with_reducible refine (Calm.of_only (only_onFrame _ _ _) (by decide) (by decide)).after ?_
    | with_reducible refine (Calm.of_only (only_release _ _) (by decide) (by decide)).after ?_
    | with_reducible refine (Calm.of_only (only_setRx _ _ _) (by decide) (by decide)).after ?_
    | with_reducible refine (Calm.of_only (only_setTx _ _ _) (by decide) (by decide)).after ?_
    | split

theorem calm_judgeSleep (d : Dev) (p : Nat) : Calm d (d.judgeSleep p) := by
  unfold Dev.judgeSleep
  try dsimp only
  repeat' first
    | with_reducible exact Calm.refl _
    | with_reducible refine (calm_wakeTx _ _).after ?_
    | with_reducible refine (Calm.of_only (only_refreshPower _ _) (by decide) (by decide)).after ?_
    | split

theorem calm_losePartner (d : Dev) (p : Nat) : Calm d (d.losePartner p) := by
  unfold Dev.losePartner
  try dsimp only
  repeat' first
    | with_reducible exact Calm.refl _
    | with_reducible refine (calm_judgeSleep _ _).after ?_
    | with_reducible refine Calm.setWord ?_ _ _ _ (by decide)
    | with_reducible refine Calm.quadSet ?_ _ _ _ (by decide)
    | with_reducible refine (Calm.of_only (only_judgeL1 _ _) (by decide) (by decide)).after ?_

theorem calm_replayHeld (d : Dev) (p : Nat) : Calm d (d.replayHeld p) := by
  unfold Dev.replayHeld
  try dsimp only
  repeat' first
    | with_reducible exact Calm.refl _
    | with_reducible refine (calm_link _ _ _ _).after ?_
    | with_reducible refine Calm.onSw ?_ _
    | with_reducible refine (Calm.of_only (only_of_report (report_portEvent _ _ _ _ _)) (by decide) (by decide)).after ?_
    | with_reducible refine (Calm.of_only (only_judgeIdle _ _) (by decide) (by decide)).after ?_
    | with_reducible refine Calm.each ?_ _ _ (fun _ _ => ?_)
    | split

theorem calm_replayLink (d : Dev) (p q : Nat) (l : Link) : Calm d (d.replayLink p q l) := by
  unfold Dev.replayLink
  try dsimp only
  repeat' first
    | with_reducible exact Calm.refl _
    | with_reducible refine (calm_wakeTx _ _).after ?_
    | with_reducible refine (Calm.of_only (only_of_report (report_portEvent _ _ _ _ _)) (by decide) (by decide)).after ?_
    | with_reducible refine (Calm.of_only (only_flushLink _ _ _ _) (by decide) (by decide)).after ?_
    | with_reducible refine (Calm.of_only (only_judgeIdle _ _) (by decide) (by decide)).after ?_
    | with_reducible refine (Calm.of_only (only_setQueue _ _ _ _) (by decide) (by decide)).after ?_
    | split

theorem calm_replayPort (d : Dev) (p : Nat) : Calm d (d.replayPort p) := by
  unfold Dev.replayPort
  try dsimp only
  repeat' first
    | with_reducible exact Calm.refl _
    | with_reducible refine (calm_replayHeld _ _).after ?_
    | with_reducible refine (calm_replayLink _ _ _ _).after ?_
    | with_reducible refine Calm.onSw ?_ _
    | with_reducible refine (Calm.of_only (only_judgeIdle _ _) (by decide) (by decide)).after ?_
    | with_reducible refine (Calm.of_only (only_rescheduled _ _) (by decide) (by decide)).after ?_
    | with_reducible refine (Calm.of_only (only_setDeficit _ _ _ _) (by decide) (by decide)).after ?_
    | with_reducible refine (Calm.of_only (only_setQueue _ _ _ _) (by decide) (by decide)).after ?_
    | with_reducible refine (Calm.of_only (only_setTail _ _ _ _) (by decide) (by decide)).after ?_
    | with_reducible refine Calm.each ?_ _ _ (fun _ _ => ?_)
    | split

theorem calm_portDown (d : Dev) (p cause : Nat) : Calm d (d.portDown p cause) := by
  unfold Dev.portDown
  try dsimp only
  repeat' first
    | with_reducible exact Calm.refl _
    | with_reducible refine (calm_cutPort _ _).after ?_
    | with_reducible refine (calm_losePartner _ _).after ?_
    | with_reducible refine (calm_replayPort _ _).after ?_
    | with_reducible refine Calm.set ?_ _ _ _ (by decide)
    | with_reducible refine Calm.ptuBit ?_ _ _ _ (by decide)
    | with_reducible refine Calm.quadSet ?_ _ _ _ (by decide)
    | with_reducible refine Calm.onPort ?_ _ _
    | with_reducible refine Calm.onPtu ?_ _ _
    | with_reducible refine (Calm.of_only (only_of_report (report_countPort _ _ _ _)) (by decide) (by decide)).after ?_
    | with_reducible refine (Calm.of_only (only_of_report (report_portEvent _ _ _ _ _)) (by decide) (by decide)).after ?_
    | with_reducible refine (Calm.of_only (only_endRxSleep _ _) (by decide) (by decide)).after ?_
    | with_reducible refine (Calm.of_only (only_judgeBanks _) (by decide) (by decide)).after ?_
    | with_reducible refine (Calm.of_only (only_judgePortCand _ _) (by decide) (by decide)).after ?_
    | with_reducible refine (Calm.of_only (only_ptpBegin _ _) (by decide) (by decide)).after ?_
    | with_reducible refine (Calm.of_only (only_refreshPower _ _) (by decide) (by decide)).after ?_
    | with_reducible refine (Calm.of_only (only_refreshPtx _ _) (by decide) (by decide)).after ?_
    | with_reducible refine (Calm.of_only (only_setPinLost _ _ _) (by decide) (by decide)).after ?_
    | split

theorem calm_startBring (d : Dev) (p : Nat) : Calm d (d.startBring p) := by
  unfold Dev.startBring
  try dsimp only
  repeat' first
    | with_reducible exact Calm.refl _
    | with_reducible refine (calm_restartLpll _ _).after ?_
    | with_reducible refine Calm.quadSet ?_ _ _ _ (by decide)
    | with_reducible refine Calm.laneBit ?_ _ _ _ (by decide)
    | with_reducible refine Calm.onPort ?_ _ _
    | with_reducible refine (Calm.of_only (only_refreshPtu _ _) (by decide) (by decide)).after ?_
    | with_reducible refine Calm.when ?_ _ _ ?_
    | with_reducible refine Calm.each ?_ _ _ (fun _ _ => ?_)

theorem calm_lpllLost (d : Dev) (k : Nat) : Calm d (d.lpllLost k) := by
  unfold Dev.lpllLost
  try dsimp only
  repeat' first
    | with_reducible exact Calm.refl _
    | with_reducible refine (calm_portDown _ _ _).after ?_
    | with_reducible refine (calm_startBring _ _).after ?_
    | with_reducible refine (Calm.of_only (only_endSleep _ _) (by decide) (by decide)).after ?_
    | with_reducible refine Calm.each ?_ _ _ (fun _ _ => ?_)
    | split

theorem calm_newMode (d : Dev) (p mode : Nat) : Calm d (d.newMode p mode) := by
  unfold Dev.newMode
  try dsimp only
  repeat' first
    | with_reducible exact Calm.refl _
    | with_reducible refine (calm_portDown _ _ _).after ?_
    | with_reducible refine (calm_restartLpll _ _).after ?_
    | with_reducible refine (calm_startBring _ _).after ?_
    | with_reducible refine (calm_startInternal _ _).after ?_
    | with_reducible refine Calm.set ?_ _ _ _ (by decide)
    | with_reducible refine Calm.setWord ?_ _ _ _ (by decide)
    | with_reducible refine Calm.laneBit ?_ _ _ _ (by decide)
    | with_reducible refine (Calm.of_only (only_disqualify _ _ _) (by decide) (by decide)).after ?_
    | with_reducible refine (Calm.of_only (only_endSleep _ _) (by decide) (by decide)).after ?_
    | with_reducible refine (Calm.of_only (only_judgeBanks _) (by decide) (by decide)).after ?_
    | with_reducible refine (Calm.of_only (only_lanesOff _ _) (by decide) (by decide)).after ?_
    | with_reducible refine (Calm.of_only (only_refreshPower _ _) (by decide) (by decide)).after ?_
    | with_reducible refine Calm.when ?_ _ _ ?_
    | with_reducible refine Calm.each ?_ _ _ (fun _ _ => ?_)
    | split

theorem calm_portsOff (d : Dev) : Calm d d.portsOff := by
  unfold Dev.portsOff
  try dsimp only
  repeat' first
    | with_reducible exact Calm.refl _
    | with_reducible refine (calm_newMode _ _ _).after ?_
    | with_reducible refine (Calm.of_only (only_flushPort _ _) (by decide) (by decide)).after ?_
    | with_reducible refine Calm.each ?_ _ _ (fun _ _ => ?_)

theorem calm_judgeSleeps (d : Dev) : Calm d d.judgeSleeps := by
  unfold Dev.judgeSleeps
  try dsimp only
  repeat' first
    | with_reducible exact Calm.refl _
    | with_reducible refine (calm_judgeSleep _ _).after ?_
    | with_reducible refine Calm.each ?_ _ _ (fun _ _ => ?_)
    | split

theorem only_dropInsts (d : Dev) : Only [.insts, .cpMail] [] d { d with insts := [], cpMail := .init } := by
  have hinsts : Only [.insts, .cpMail] [] d { d with insts := [] } := .upd_insts .refl _ (by decide)
  exact hinsts.upd_cpMail .init (by decide)

theorem calm_stopCp (d : Dev) : Calm d d.stopCp := by
  have hdropped : Calm d { d.restartParty 2 with insts := [], cpMail := .init } :=
    (Calm.of_only (only_restartParty d 2) (by decide) (by decide)).quiet (only_dropInsts _) (by decide) (by decide)
  exact (hdropped.each _ _ (fun _ _ => .of_only (only_ptpBegin _ _) (by decide) (by decide))).trans (calm_judgeSleeps _)

theorem calm_stopFast (d : Dev) : Calm d d.stopFast := by
  unfold Dev.stopFast
  try dsimp only
  repeat' first
    | with_reducible exact Calm.refl _
    | with_reducible refine (calm_portsOff _).after ?_
    | with_reducible refine (calm_stopCp _).after ?_
    | with_reducible refine Calm.onSys ?_ _
    | with_reducible refine (Calm.of_only (only_of_report (report_countDev _ _ _)) (by decide) (by decide)).after ?_
    | with_reducible refine (Calm.of_only (only_restartParty _ _) (by decide) (by decide)).after ?_
    | with_reducible refine (Calm.of_only (only_setFast _ _) (by decide) (by decide)).after ?_
    | split

theorem calm_stopSyn (d : Dev) (i : Nat) : Calm d (d.stopSyn i) := by
  unfold Dev.stopSyn
  try dsimp only
  repeat' first
    | with_reducible exact Calm.refl _
    | with_reducible refine (calm_dropOut _ _).after ?_
    | with_reducible refine (calm_endStep _ _ _).after ?_
    | with_reducible refine Calm.synBit ?_ _ _ _ (by decide)
    | with_reducible refine Calm.synOff ?_ _ _ (by decide)
    | with_reducible refine (Calm.of_only (only_onSyn _ _ _) (by decide) (by decide)).after ?_
    | split

theorem calm_releaseSyns (d : Dev) : Calm d d.releaseSyns := by
  unfold Dev.releaseSyns
  try dsimp only
  repeat' first
    | with_reducible exact Calm.refl _
    | with_reducible refine (calm_acquire _ _ _).after ?_
    | with_reducible refine Calm.synBit ?_ _ _ _ (by decide)
    | with_reducible refine (Calm.of_only (only_retuneTo _ _ _) (by decide) (by decide)).after ?_
    | with_reducible refine (Calm.of_only (only_onSyn _ _ _) (by decide) (by decide)).after ?_
    | with_reducible refine Calm.each ?_ _ _ (fun _ _ => ?_)
    | split

theorem calm_thawClocks (d : Dev) : Calm d d.thawClocks := by
  unfold Dev.thawClocks
  try dsimp only
  repeat' first
    | with_reducible exact Calm.refl _
    | with_reducible refine (calm_judgeSleeps _).after ?_
    | with_reducible refine (calm_releaseSyns _).after ?_

theorem calm_judgeRelock (d : Dev) : Calm d d.judgeRelock := by
  unfold Dev.judgeRelock
  try dsimp only
  repeat' first
    | with_reducible exact Calm.refl _
    | with_reducible refine (calm_thawClocks _).after ?_
    | with_reducible refine (Calm.of_only (only_endFreeze _) (by decide) (by decide)).after ?_
    | split

end Sys2Proof.Laws

/-! SUPPORT. Laws of the edges of outputs: widths, periods and the edge that begins a schedule (R122 to R125, R131). -/

namespace Sys2Proof.Safety

open Sys2Proof.Machine Sys2Proof.Laws

variable {P : List Part} {R : List Reg} {d e : Dev}

theorem Only.outPer (h : Only P R d e) (hhi : Reg.OUT_PER_HI ∉ R) (hlo : Reg.OUT_PER_LO ∉ R) (n : Nat) :
    e.outPer n = d.outPer n := by
  simp only [Dev.outPer, h.get F.OUT_PER_HI_PER _ hhi, h.get F.OUT_PER_LO_PER _ hlo]

theorem Only.stepMoved (h : Only P R d e) (ha : .tbA ∉ P) (hb : .tbB ∉ P) (ht : .twin ∉ P) (hs : Part.syns ∉ P)
    (hr : Reg.OUT_CFG ∉ R) (n : Nat) : e.stepMoved n = d.stepMoved n := by
  unfold Dev.stepMoved
  rw [h.syn hs, h.moved hr, h.fineNow ha hb ht]

theorem Only.mayDrive (h : Only P R d e) (hs : Part.syns ∉ P) (hr : Reg.OUT_CFG ∉ R) (hstat : Reg.SYN_STAT ∉ R) (n : Nat) :
    e.mayDrive n = d.mayDrive n := by
  unfold Dev.mayDrive Dev.synLocked
  rw [h.syn hs, h.flag F.OUT_CFG_ALLOW_UNLOCKED _ hr, h.flag F.SYN_STAT_LOCKED _ hstat]

/-- The width of a pulse depends on the registers of its output and, of a FRAME output, on the period of its sibling. -/
theorem Only.pulseWidth (h : Only P R d e) (hs : Part.syns ∉ P) (hr : Reg.OUT_CFG ∉ R) (hw : Reg.OUT_WIDTH ∉ R)
    (hhi : Reg.OUT_PER_HI ∉ R) (hlo : Reg.OUT_PER_LO ∉ R) (n : Nat)
    (hper : (e.out (sibling n)).period = (d.out (sibling n)).period) : e.pulseWidth n = d.pulseWidth n := by
  unfold Dev.pulseWidth Dev.widthTake Dev.outPeriod
  rw [h.outPer hhi hlo, h.outMode hr, h.get F.OUT_WIDTH_WIDTH _ hw, hper, h.syn hs, h.outMode hr, h.get F.OUT_CFG_DIV _ hr,
    h.get F.OUT_CFG_DIV _ hr]

end Sys2Proof.Safety

namespace Sys2Proof.Laws

open Sys2Proof.Machine Sys2Proof.Safety

theorem sibling_ne (n : Nat) : sibling n ≠ n := by
  unfold sibling
  split <;> omega

section
variable (d : Dev) (n : Nat)

theorem refreshOut_of_enabled (h : d.outEn n = true) : d.refreshOut n =
    (d.outBit F.OUT_STAT_SQUELCHED (!(d.out n).started) n).outBit F.OUT_STAT_DRIVING (d.anyActive && !d.synRetired (n / 2) &&
      !(!(d.out n).started && d.get F.OUT_CFG_UNLOCK_ACT n == 1)) n := by
  unfold Dev.refreshOut
  rw [h]
  rfl

theorem refreshOut_out (h : d.outEn n = true) (m : Nat) : (d.refreshOut n).out m = d.out m := by
  rw [refreshOut_of_enabled d n h, outBit_out, outBit_out]

theorem refreshOut_flag (h : d.outEn n = true) (g : Fld) (hg : g ∈ [F.OUT_STAT_ALIGNED, F.OUT_STAT_ALIGN_PEND, F.OUT_STAT_ARMED]) :
    (d.refreshOut n).flag g n = d.flag g n := by
  have hsq : apart F.OUT_STAT_SQUELCHED g = true := by revert g; decide
  have hdr : apart F.OUT_STAT_DRIVING g = true := by revert g; decide
  have hch : apart F.OUT_STAT_CHANGED g = true := by revert g; decide
  rw [refreshOut_of_enabled d n h, outBit_flag_apart _ _ _ _ _ _ (by decide) hdr hch,
    outBit_flag_apart _ _ _ _ _ _ (by decide) hsq hch]

/-- An edge placed is the base of the schedule. -/
theorem placeEdge_edgeBase (t : Int) (prev : Option Int) : (d.placeEdge n t prev).edgeBase n = t := by
  unfold Dev.edgeBase
  rw [(only_placeEdge d n t prev).stepMoved (by decide) (by decide) (by decide) (by decide) (by decide)]
  unfold Dev.placeEdge
  rw [out_onOut_same]
  exact Int.sub_add_cancel _ _

/-- The first edge of a schedule: placed, aligned and sent. -/
def firstEdgeOut (n : Nat) (t : Int) (d : Dev) : Dev :=
  (((d.placeEdge n t none).outBit F.OUT_STAT_ALIGNED true n).refreshOut n).emitEdge n t

/-- What stands before the edge is sent. -/
theorem only_beforeEdge (t : Int) : Only [.outs] [.OUT_STAT] d (((d.placeEdge n t none).outBit F.OUT_STAT_ALIGNED true n).refreshOut n) :=
  ((Only.refl.placeEdge _ _ _ (by decide) (by decide)).outBit _ _ _ (by decide) (by decide)).refreshOut _ (by decide) (by decide)

theorem only_firstEdgeOut (t : Int) : Only [.outs, .sent] [.OUT_STAT] d (firstEdgeOut n t d) :=
  ((only_beforeEdge d n t).weaken (by decide) (by decide)).emitEdge _ _ (by decide) (by decide)

section
variable (t : Int) (h : d.outEn n = true)
include h

theorem placedEdge_outEn : ((d.placeEdge n t none).outBit F.OUT_STAT_ALIGNED true n).outEn n = true := by
  have honly : Only [.outs] [.OUT_STAT] d ((d.placeEdge n t none).outBit F.OUT_STAT_ALIGNED true n) :=
    (Only.refl.placeEdge _ _ _ (by decide) (by decide)).outBit _ _ _ (by decide) (by decide)
  rw [honly.outEn (by decide), h]

theorem beforeEdge_out : (((d.placeEdge n t none).outBit F.OUT_STAT_ALIGNED true n).refreshOut n).out n =
    { d.out n with anchor := t - d.stepMoved n, prev := none } := by
  rw [refreshOut_out _ _ (placedEdge_outEn d n t h), outBit_out]
  exact out_onOut_same d n _

theorem firstEdgeOut_out : (firstEdgeOut n t d).out n = { d.out n with anchor := t - d.stepMoved n, prev := none } := by
  rw [firstEdgeOut, (only_emitEdge _ _ _).out (by decide), beforeEdge_out d n t h]

theorem firstEdgeOut_edgeBase : (firstEdgeOut n t d).edgeBase n = t := by
  rw [Dev.edgeBase, firstEdgeOut_out d n t h, (only_firstEdgeOut d n t).stepMoved (by decide) (by decide) (by decide) (by decide)
    (by decide)]
  exact Int.sub_add_cancel _ _

theorem firstEdgeOut_aligned : (firstEdgeOut n t d).flag F.OUT_STAT_ALIGNED n = true := by
  rw [firstEdgeOut, (only_emitEdge _ _ _).flag _ _ (by decide), refreshOut_flag _ _ (placedEdge_outEn d n t h) _ (by decide)]
  exact outBit_flag_same _ _ _ _ (by decide) (by decide) rfl

theorem firstEdgeOut_pend : (firstEdgeOut n t d).flag F.OUT_STAT_ALIGN_PEND n = d.flag F.OUT_STAT_ALIGN_PEND n := by
  rw [firstEdgeOut, (only_emitEdge _ _ _).flag _ _ (by decide), refreshOut_flag _ _ (placedEdge_outEn d n t h) _ (by decide),
    outBit_flag_apart _ _ _ _ _ _ (by decide) (by decide) (by decide), (only_placeEdge _ _ _ _).flag _ _ (by decide)]

theorem firstEdgeOut_sent : (firstEdgeOut n t d).sent = d.sent ++ [.outEdge n (t / 1000).toNat
    (if d.outMode n = 0 then none else some (d.pulseFall n t / 1000).toNat)] := by
  have honly := only_beforeEdge d n t
  have hother : ((((d.placeEdge n t none).outBit F.OUT_STAT_ALIGNED true n).refreshOut n).out (sibling n)).period =
      (d.out (sibling n)).period := by
    rw [refreshOut_out _ _ (placedEdge_outEn d n t h), outBit_out, Dev.placeEdge, out_onOut_other _ _ _ (sibling_ne n)]
  rw [firstEdgeOut, Dev.emitEdge, Dev.emit, honly.part .sent (by decide), honly.outMode (by decide), Dev.pulseFall, Dev.pulseFall,
    beforeEdge_out d n t h, honly.pulseWidth (by decide) (by decide) (by decide) (by decide) (by decide) n hother]

end

/-- An output that may drive begins at the edge that is due. -/
theorem outputStart_of_due {t : Int} (hdue : (d.out n).due = some t) (hdrive : d.mayDrive n = true) (hfree : d.suppressed n t = false) :
    d.outputStart n = firstEdgeOut n t (d.onOut n (fun o => { o with started := true, due := none })) := by
  unfold Dev.outputStart
  rw [hdue]
  dsimp only
  rw [hdrive, hfree]
  rfl

theorem outputStart_of_undriven {t : Int} (hdue : (d.out n).due = some t) (hdrive : d.mayDrive n = false) :
    d.outputStart n = d.onOut n (fun o => { o with due := none }) := by
  unfold Dev.outputStart
  rw [hdue]
  dsimp only
  rw [hdrive]
  rfl

/-- The end of an alignment. -/
def alignEnded (n : Nat) (d : Dev) : Dev := (d.onOut n (fun o => { o with alignAt := none })).outBit F.OUT_STAT_ALIGN_PEND false n

theorem only_alignEnded : Only [.outs] [.OUT_STAT] d (alignEnded n d) :=
  (Only.refl.onOut _ _ (by decide) (by decide)).outBit _ _ _ (by decide) (by decide)

theorem alignEnded_out : (alignEnded n d).out n = { d.out n with alignAt := none } := by
  rw [alignEnded, outBit_out, out_onOut_same]

theorem alignEnded_pend : (alignEnded n d).flag F.OUT_STAT_ALIGN_PEND n = false :=
  outBit_flag_same _ _ _ _ (by decide) (by decide) rfl

/-- The schedule that begins at an aligned edge. -/
def alignedFrom (n : Nat) (d : Dev) : Dev := (alignEnded n d).onOut n (fun o => { o with
  started := true, due := none, kept := none, period := clampPer 1 ((alignEnded n d).outPer n) })

theorem only_alignedFrom : Only [.outs] [.OUT_STAT] d (alignedFrom n d) := (only_alignEnded d n).onOut _ _ (by decide) (by decide)

theorem alignedFrom_out : (alignedFrom n d).out n = { d.out n with
    started := true, due := none, alignAt := none, kept := none, period := clampPer 1 ((alignEnded n d).outPer n) } := by
  rw [alignedFrom, out_onOut_same, alignEnded_out]

theorem alignedFrom_out_other {m : Nat} (h : m ≠ n) : (alignedFrom n d).out m = d.out m := by
  rw [alignedFrom, out_onOut_other _ _ _ h, alignEnded, outBit_out, out_onOut_other _ _ _ h]

theorem alignedEdge_of_driven {t : Int} (halign : (d.out n).alignAt = some t) (hdrive : d.mayDrive n = true) :
    d.alignedEdge n = firstEdgeOut n t (alignedFrom n d) := by
  have hdrive' : (alignEnded n d).mayDrive n = true := by
    rw [(only_alignEnded d n).mayDrive (by decide) (by decide) (by decide), hdrive]
  unfold Dev.alignedEdge
  rw [halign]
  change (if !(alignEnded n d).mayDrive n then _ else _) = _
  rw [hdrive']
  rfl

theorem alignedEdge_of_undriven {t : Int} (halign : (d.out n).alignAt = some t) (hdrive : d.mayDrive n = false) :
    d.alignedEdge n = alignEnded n d := by
  have hdrive' : (alignEnded n d).mayDrive n = false := by
    rw [(only_alignEnded d n).mayDrive (by decide) (by decide) (by decide), hdrive]
  unfold Dev.alignedEdge
  rw [halign]
  change (if !(alignEnded n d).mayDrive n then _ else _) = _
  rw [hdrive']
  rfl

end

/-! ## The registers of outputs -/

theorem outCfgWrite_refused {d : Dev} {n : Nat} {v : Word} (hfmt : bitsOf v.toNat 1 3 < 5) (hmode : bitsOf v.toNat 4 2 < 3)
    (h : d.outAllowed n (bitsOf v.toNat 1 3) (bitsOf v.toNat 4 2) (max 2 (bitsOf v.toNat 16 16)) (d.outMode (sibling n)) = false) :
    d.outCfgWrite n v = d.set F.OUT_STAT_CFG_REJ 1 n := by
  unfold Dev.outCfgWrite
  dsimp only
  rw [if_neg (by omega : ¬ bitsOf v.toNat 1 3 ≥ 5), if_neg (by omega : ¬ bitsOf v.toNat 4 2 = 3), h]
  rfl

/-- The word that a taken write leaves in OUT_CFG. -/
def outCfgWord (v : Word) : Word := putBits (BitVec.ofNat 32 (lowBits v.toNat 10)) 16 16 (max 2 (bitsOf v.toNat 16 16))

theorem outCfgWord_low (v : Word) (lo width : Nat) (h : lo + width ≤ 10) : bitsOf (outCfgWord v).toNat lo width = bitsOf v.toNat lo width := by
  have hlow : (BitVec.ofNat 32 (lowBits v.toNat 10)).toNat = v.toNat % 2 ^ 10 := by
    rw [BitVec.toNat_ofNat, lowBits]
    exact Nat.mod_eq_of_lt (lt_trans (Nat.mod_lt _ (by decide)) (by decide))
  rw [outCfgWord, bitsOf_putBits_apart _ _ _ _ _ _ (by decide) (Or.inl (by omega)), hlow]
  refine Nat.eq_of_testBit_eq fun i => ?_
  simp only [bitsOf, Nat.testBit_mod_two_pow, Nat.testBit_div_two_pow]
  by_cases hi : i < width
  · simp [hi, show i + lo < 10 by omega]
  · simp [hi]

theorem outCfgWord_div (v : Word) : bitsOf (outCfgWord v).toNat 16 16 = max 2 (bitsOf v.toNat 16 16) := by
  have hdiv := bitsOf_lt v.toNat 16 16
  rw [outCfgWord, bitsOf_putBits_same _ _ _ _ (by decide)]
  exact Nat.mod_eq_of_lt (by omega)

/-- What follows the write in OUT_CFG leaves that register. -/
theorem outCfgWrite_word {d : Dev} {n : Nat} {v : Word} (hfmt : bitsOf v.toNat 1 3 < 5) (hmode : bitsOf v.toNat 4 2 < 3)
    (h : d.outAllowed n (bitsOf v.toNat 1 3) (bitsOf v.toNat 4 2) (max 2 (bitsOf v.toNat 16 16)) (d.outMode (sibling n)) = true)
    (hsib : d.outMode (sibling n) = 2 → bitsOf v.toNat 4 2 = 0) : (d.outCfgWrite n v).word .OUT_CFG n = outCfgWord v := by
  have hok : (d.outMode (sibling n) == 2 && bitsOf v.toNat 4 2 != 0) = false := by
    by_cases hs : d.outMode (sibling n) = 2
    · simp [hs, hsib hs]
    · simp [hs]
  unfold Dev.outCfgWrite
  extract_lets x f fmt m mode div sib ok k wasEn oldMode oldDiv wasWanted d1 d2 d3 d4 d5
  have hf : fmt = f := if_neg (show ¬ bitsOf v.toNat 1 3 ≥ 5 by omega)
  have hm : mode = m := if_neg (show ¬ bitsOf v.toNat 4 2 = 3 by omega)
  have htaken : ok = true := by
    change (d.outAllowed n fmt mode div (d.outMode sib) && !(d.outMode sib == 2 && mode != 0)) = true
    rw [hf, hm]
    change (d.outAllowed n (bitsOf v.toNat 1 3) (bitsOf v.toNat 4 2) (max 2 (bitsOf v.toNat 16 16)) (d.outMode (sibling n)) &&
      !(d.outMode (sibling n) == 2 && bitsOf v.toNat 4 2 != 0)) = true
    rw [h, hok]
    rfl
  rw [htaken]
  simp only [Bool.not_true, Bool.false_eq_true, if_false]
  have hstored : d2.word .OUT_CFG n = outCfgWord v := word_setWord_same _ _ _ _
  have hsettled : Only [.syns, .outs, .counters, .latches, .ring, .log, .pcie, .sent]
      [.ALM_ACTIVE, .ALM_LATCH, .OUT_STAT, .SYN_CMD, .SYN_STAT] d2 d5 := by
    have hdropped : Only [.syns, .outs, .counters, .latches, .ring, .log, .pcie, .sent]
        [.ALM_ACTIVE, .ALM_LATCH, .OUT_STAT, .SYN_CMD, .SYN_STAT] d2 d3 := .ite _ (Only.refl.dropOut _ (by decide) (by decide)) .refl
    exact (Only.ite _ (hdropped.outBit _ _ _ (by decide) (by decide)) hdropped).refreshOut _ (by decide) (by decide)
  split
  · rw [(hsettled.acquire _ _ (by decide) (by decide)).word .OUT_CFG n (by decide), hstored]
  · split
    · rw [(hsettled.stopSyn _ (by decide) (by decide)).word .OUT_CFG n (by decide), hstored]
    · rw [(hsettled.beginPair _ (by decide) (by decide)).word .OUT_CFG n (by decide), hstored]

/-- A period as its registers and those in force hold it. -/
def storePer (n p : Nat) (d : Dev) : Dev :=
  ((d.set F.OUT_PER_HI_PER (p / 2 ^ 32) n).set F.OUT_PER_LO_PER (p % 2 ^ 32) n).set F.OUT_PER_LO_PER (p % 2 ^ 32) (8 + n)

theorem storePer_outPer (d : Dev) (n : Nat) {p : Nat} (h : p < 2 ^ 40) : (storePer n p d).outPer n = p := by
  have hhi : (storePer n p d).get F.OUT_PER_HI_PER n = p / 2 ^ 32 := by
    rw [storePer, get_set_apart _ _ _ _ _ _ (by decide) (by decide), get_set_apart _ _ _ _ _ _ (by decide) (by decide),
      get_set_same _ _ _ _ (by decide)]
    exact Nat.mod_eq_of_lt (show p / 2 ^ 32 < 2 ^ 8 by omega)
  have hlo : (storePer n p d).get F.OUT_PER_LO_PER (8 + n) = p % 2 ^ 32 := by
    rw [storePer, get_set_same _ _ _ _ (by decide)]
    exact Nat.mod_mod _ _
  rw [Dev.outPer, hhi, hlo]
  omega

theorem clampNat_eq {lo hi v : Nat} (h : lo ≤ hi) : clampNat lo hi v = max lo (min hi v) := by
  unfold clampNat
  split
  · omega
  · split <;> omega

theorem clampPer_lt {p : Nat} (mode : Nat) (h : p < 2 ^ 40) : clampPer mode p < 2 ^ 40 := by
  unfold clampPer clampNat
  split
  · split
    · omega
    · split <;> omega
  · split
    · omega
    · split <;> omega
  · exact h

/-- The schedule takes a new period: from the next edge on, and for a first edge that is due. -/
def takePer (n p : Nat) (d : Dev) : Dev :=
  let last := d.lastEdge n
  let d := d.onOut n (fun o => { o with period := p })
  let per := d.outPeriod n
  let next := if per.1 = 0 then last else edgeAt last per.1 per.2 ((d.fineNow - last) * per.2 / per.1 + 1)
  let d := d.when ((d.out n).started && d.outMode n != 0) (·.placeEdge n next (some last))
  if (d.out n).due.isSome then d.onOut n (fun o => { o with due := d.firstEdge n }) else d

theorem only_takePer (d : Dev) (n p : Nat) : Only [.outs] [] d (takePer n p d) := by
  unfold takePer
  dsimp only
  have hperiod : Only [.outs] [] d (d.onOut n (fun o => { o with period := p })) := Only.refl.onOut _ _ (by decide) (by decide)
  refine Only.ite _ (Only.onOut ?_ _ _ (by decide) (by decide)) ?_
  · exact hperiod.when _ _ (Only.refl.placeEdge _ _ _ (by decide) (by decide))
  · exact hperiod.when _ _ (Only.refl.placeEdge _ _ _ (by decide) (by decide))

theorem placeEdge_period (d : Dev) (n : Nat) (t : Int) (prev : Option Int) : ((d.placeEdge n t prev).out n).period = (d.out n).period := by
  rw [Dev.placeEdge, out_onOut_same]

theorem placeEdge_when_period (d : Dev) (b : Bool) (n : Nat) (t : Int) (prev : Option Int) :
    ((d.when b (·.placeEdge n t prev)).out n).period = (d.out n).period :=
  when_keeps d (fun y => (y.out n).period) _ _ (placeEdge_period d n t prev)

theorem takePer_period (d : Dev) (n p : Nat) : ((takePer n p d).out n).period = p := by
  unfold takePer
  extract_lets last x per next y
  have hy : (y.out n).period = p := by
    rw [placeEdge_when_period, out_onOut_same]
  split
  · rw [out_onOut_same, hy]
  · exact hy

theorem outPerHiWrite_eq (d : Dev) (n : Nat) (v : Word) : d.outPerHiWrite n v =
    let p := clampPer ((d.keepPulse n).outMode n) (bitsOf v.toNat 0 8 * 2 ^ 32 + (d.keepPulse n).get F.OUT_PER_LO_PER n)
    (takePer n p (storePer n p (d.keepPulse n))).outBit F.OUT_STAT_ALIGNED false n := rfl

theorem outPerHiWrite_per (d : Dev) (n : Nat) (v : Word) : (d.outPerHiWrite n v).outPer n =
    clampPer (d.outMode n) (bitsOf v.toNat 0 8 * 2 ^ 32 + d.get F.OUT_PER_LO_PER n) ∧
    ((d.outPerHiWrite n v).out n).period = (d.outPerHiWrite n v).outPer n ∧
    (d.outPerHiWrite n v).flag F.OUT_STAT_ALIGNED n = false := by
  have hkept := only_keepPulse d n
  have hhi := bitsOf_lt v.toNat 0 8
  have hlo : d.get F.OUT_PER_LO_PER n < 2 ^ 32 := bitsOf_lt _ _ _
  rw [outPerHiWrite_eq]
  dsimp only
  rw [hkept.outMode (by decide), hkept.get F.OUT_PER_LO_PER _ (by decide)]
  have hp : clampPer (d.outMode n) (bitsOf v.toNat 0 8 * 2 ^ 32 + d.get F.OUT_PER_LO_PER n) < 2 ^ 40 := clampPer_lt _ (by omega)
  generalize clampPer (d.outMode n) (bitsOf v.toNat 0 8 * 2 ^ 32 + d.get F.OUT_PER_LO_PER n) = p at hp ⊢
  have hper : ((takePer n p (storePer n p (d.keepPulse n))).outBit F.OUT_STAT_ALIGNED false n).outPer n = p := by
    have honly : Only [.outs] [.OUT_STAT] (storePer n p (d.keepPulse n))
        ((takePer n p (storePer n p (d.keepPulse n))).outBit F.OUT_STAT_ALIGNED false n) :=
      ((only_takePer _ n p).weaken (by decide) (by decide)).outBit _ _ _ (by decide) (by decide)
    rw [honly.outPer (by decide) (by decide), storePer_outPer _ _ hp]
  refine ⟨hper, ?_, outBit_flag_same _ _ _ _ (by decide) (by decide) rfl⟩
  rw [hper, outBit_out, takePer_period]

theorem outAlignWrite_get {d : Dev} {n : Nat} {v : Word} (hlarge : d.small = false) :
    (d.outAlignWrite n v).get F.OUT_ALIGN_SRC n = bitsOf v.toNat 0 1 ∧
    (d.outAlignWrite n v).get F.OUT_ALIGN_TIO_CH n = min 47 (bitsOf v.toNat 8 6) ∧
    (d.outAlignWrite n v).get F.OUT_ALIGN_FOLLOW n = bitsOf v.toNat 16 1 ∧
    (d.outAlignWrite n v).get F.OUT_ALIGN_TOL n = max 1 (bitsOf v.toNat 24 8) := by
  have hkeep (x : Dev) (b : Bool) (g : Fld) (hg : g.reg ≠ .OUT_STAT) :
      (x.when b (fun d => d.outBit F.OUT_STAT_ARMED false n)).get g n = x.get g n :=
    Only.get (P := []) (R := [.OUT_STAT]) (.when .refl _ _ (Only.refl.outBit _ _ _ (by decide) (by decide))) g n
      (by simpa using hg)
  have hsrc := bitsOf_lt v.toNat 0 1
  have hch := bitsOf_lt v.toNat 8 6
  have hfollow := bitsOf_lt v.toNat 16 1
  have htol := bitsOf_lt v.toNat 24 8
  unfold Dev.outAlignWrite
  dsimp only
  rw [hlarge, hkeep _ _ _ (by decide), hkeep _ _ _ (by decide), hkeep _ _ _ (by decide), hkeep _ _ _ (by decide)]
  simp -implicitDefEqProofs (disch := decide) only [get_set_same, get_set_apart]
  have htake (w v : Nat) (h : v < 2 ^ w) : v % 2 ^ w = v := Nat.mod_eq_of_lt h
  refine ⟨htake 1 _ hsrc, ?_, htake 1 _ hfollow, ?_⟩
  · have hclamp : clampNat 0 47 (bitsOf v.toNat 8 6) = min 47 (bitsOf v.toNat 8 6) := by
      rw [clampNat_eq (by decide)]
      omega
    rw [hclamp]
    exact htake 6 _ (by omega)
  · have hclamp : clampNat 1 255 (bitsOf v.toNat 24 8) = max 1 (bitsOf v.toNat 24 8) := by
      rw [clampNat_eq (by decide)]
      omega
    rw [hclamp]
    exact htake 8 _ (by omega)

/-! ## Alignment commands -/

theorem outAlign_of_running {d : Dev} {n : Nat} (hen : d.outEn n = true) (hmode : d.outMode n = 1) (hset : d.mir.state ≠ .unset)
    (hstarted : (d.out n).started = true) (hnone : (d.out n).alignAt = none) (harmed : d.flag F.OUT_STAT_ARMED n = false) :
    d.outAlign n = (d.placeAligned n (firstAligned (d.fineNow + 100000 * fineNs) (d.outOfs n * 65536) ((d.out n).period * 65536))).set
      F.OUT_CMD_RESULT 1 n := by
  unfold Dev.outAlign
  rw [hen, hmode, if_neg (by decide), if_neg hset, hstarted, if_neg (by simp), hnone, harmed, if_neg (by simp)]

theorem armBit_flag (d : Dev) (n : Nat) (b : Bool) :
    ((d.outBit F.OUT_STAT_ARMED b n).set F.OUT_CMD_RESULT 1 n).flag F.OUT_STAT_ARMED n = b := by
  rw [flag_set_apart _ _ _ _ _ _ (by decide) (by decide)]
  exact outBit_flag_same _ _ _ _ (by decide) (by decide) rfl

theorem only_armBit (d : Dev) (n : Nat) (b : Bool) :
    Only [] [.OUT_STAT, .OUT_CMD] d ((d.outBit F.OUT_STAT_ARMED b n).set F.OUT_CMD_RESULT 1 n) :=
  .set (Only.refl.outBit _ _ _ (by decide) (by decide)) _ _ _ (by decide)

end Sys2Proof.Laws

namespace Sys2Proof.Proofs

open Sys2Proof.Machine Sys2Proof.Safety Sys2Proof.Laws

/-- Settles O18: the write of a register leaves what it takes, since nothing that follows writes that register; an edge that may be
driven is the first edge of a new schedule, sent with the fall of a pulse. -/
theorem outputs : Obligations.Outputs := by
  refine ⟨fun s n v hreach => ⟨fun hfmt hmode hallowed hsib => ?_, fun hfmt hmode hallowed => ?_, ?_, fun hlarge => ?_⟩,
    fun s n e hen => ⟨fun hdue hdrive => ?_, fun hdue hdrive hfree => ?_, fun halign hdrive hmode => ?_, fun halign hdrive => ?_,
      fun hreach hmode harmed => ⟨fun hset hstarted hnone => ?_, fun hsrc htio => ?_⟩, fun hreach => ?_⟩⟩
  · have hdev : (s.onDev (·.reach (fun d => (d.outCfgWrite n.val v).judgeRelock))).dev = (s.dev.outCfgWrite n.val v).judgeRelock := by
      simp only [onDev_dev, Dev.reach, hreach, if_true]
    refine completes_of_next rfl ?_
    have hword := (only_judgeRelock (s.dev.outCfgWrite n.val v)).word .OUT_CFG n.val (by decide)
    rw [outCfgWrite_word hfmt hmode hallowed hsib] at hword
    rw [hdev]
    have hget (g : Fld) (hg : g.reg = .OUT_CFG) : (s.dev.outCfgWrite n.val v).judgeRelock.get g n.val =
        bitsOf (outCfgWord v).toNat g.lo g.width := by
      rw [Dev.get, hg, hword]
    rw [hget _ rfl, hget _ rfl, hget _ rfl, hget _ rfl]
    exact ⟨outCfgWord_low v 0 1 (by decide), outCfgWord_low v 1 3 (by decide), outCfgWord_low v 4 2 (by decide), outCfgWord_div v⟩
  · have hdev : (s.onDev (·.reach (fun d => (d.outCfgWrite n.val v).judgeRelock))).dev =
        (s.dev.set F.OUT_STAT_CFG_REJ 1 n.val).judgeRelock := by
      simp only [onDev_dev, Dev.reach, hreach, if_true, outCfgWrite_refused hfmt hmode hallowed]
    refine completes_of_next rfl ?_
    rw [hdev]
    refine ⟨?_, ?_⟩
    · rw [(calm_judgeRelock _).rejected]
      exact flag_setB_same s.dev F.OUT_STAT_CFG_REJ true n.val (by decide) rfl
    · rw [(only_judgeRelock _).word .OUT_CFG n.val (by decide)]
      exact word_set_other _ _ _ _ _ _ (fun h => absurd h.1 (by decide))
  · have hdev : (s.onDev (·.reach (·.outPerHiWrite n.val v))).dev = s.dev.outPerHiWrite n.val v := by
      simp only [onDev_dev, Dev.reach, hreach, if_true]
    refine completes_of_next rfl ?_
    rw [hdev]
    exact outPerHiWrite_per s.dev n.val v
  · have hdev : (s.onDev (·.reach (·.outAlignWrite n.val v))).dev = s.dev.outAlignWrite n.val v := by
      simp only [onDev_dev, Dev.reach, hreach, if_true]
    refine completes_of_next rfl ?_
    rw [hdev]
    exact outAlignWrite_get hlarge
  · refine completes_of_next rfl ?_
    rw [onDev_dev, outputStart_of_undriven _ _ hdue hdrive, out_onOut_same]
    exact ⟨rfl, rfl, rfl⟩
  · refine completes_of_next rfl ?_
    have hen' : (s.dev.onOut n.val (fun o => { o with started := true, due := none })).outEn n.val = true := hen
    rw [onDev_dev, outputStart_of_due _ _ hdue hdrive hfree]
    refine ⟨?_, firstEdgeOut_edgeBase _ _ _ hen', firstEdgeOut_aligned _ _ _ hen', ?_⟩
    · rw [firstEdgeOut_out _ _ _ hen', out_onOut_same]
    · rw [firstEdgeOut_sent _ _ _ hen']
      have hfall : (s.dev.onOut n.val (fun o => { o with started := true, due := none })).pulseFall n.val e = s.dev.pulseFall n.val e := by
        rw [Dev.pulseFall, Dev.pulseFall, out_onOut_same, (only_onOut _ _ _).pulseWidth (by decide) (by decide) (by decide) (by decide)
          (by decide) _ (by rw [out_onOut_other _ _ _ (sibling_ne _)])]
      rw [hfall]
      rfl
  · refine completes_of_next rfl ?_
    rw [onDev_dev, alignedEdge_of_driven _ _ halign hdrive]
    have honly := only_alignedFrom s.dev n.val
    have hother := congrArg OutSt.period (alignedFrom_out_other s.dev n.val (sibling_ne n.val))
    have hen' := (honly.outEn (by decide) n.val).trans hen
    have hout := firstEdgeOut_out _ _ e hen'
    rw [alignedFrom_out] at hout
    refine ⟨by rw [hout], firstEdgeOut_edgeBase _ _ _ hen', by rw [hout], firstEdgeOut_aligned _ _ _ hen', ?_, ?_⟩
    · rw [firstEdgeOut_pend _ _ _ hen']
      exact alignEnded_pend s.dev n.val
    · rw [firstEdgeOut_sent _ _ _ hen', honly.part .sent (by decide), honly.outMode (by decide), hmode, Dev.pulseFall, alignedFrom_out,
        honly.pulseWidth (by decide) (by decide) (by decide) (by decide) (by decide) _ hother]
      rfl
  · refine completes_of_next rfl ?_
    rw [onDev_dev, alignedEdge_of_undriven _ _ halign hdrive, alignEnded_out]
    exact ⟨rfl, rfl, (only_alignEnded s.dev n.val).part .sent (by decide)⟩
  · have hdev : (s.onDev (·.reach (·.outAlign n.val))).dev = s.dev.outAlign n.val := by
      simp only [onDev_dev, Dev.reach, hreach, if_true]
    refine completes_of_next rfl ?_
    rw [hdev, outAlign_of_running hen hmode hset hstarted hnone harmed]
    refine ⟨get_set_same _ _ _ _ (by decide), ?_, ?_⟩
    · rw [flag_set_apart _ _ _ _ _ _ (by decide) (by decide)]
      exact outBit_flag_same _ _ _ _ (by decide) (by decide) rfl
    · rw [set_out, Dev.placeAligned, outBit_out, out_onOut_same]
  · have hdev : (s.onDev (·.reach (·.outArm n.val))).dev = (s.dev.outBit F.OUT_STAT_ARMED true n.val).set F.OUT_CMD_RESULT 1 n.val := by
      simp only [onDev_dev, Dev.reach, hreach, if_true, Dev.outArm, hsrc, hen, hmode, htio, harmed]
      rfl
    refine completes_of_next rfl ?_
    rw [hdev]
    exact ⟨get_set_same _ _ _ _ (by decide), armBit_flag s.dev n.val true, ⟨hdev ▸ only_armBit s.dev n.val true, rfl, rfl⟩⟩
  · have hdev : (s.onDev (·.reach (·.outDisarm n.val))).dev =
        (s.dev.outBit F.OUT_STAT_ARMED false n.val).set F.OUT_CMD_RESULT 1 n.val := by
      simp only [onDev_dev, Dev.reach, hreach, if_true, Dev.outDisarm]
    refine completes_of_next rfl ?_
    rw [hdev]
    exact ⟨get_set_same _ _ _ _ (by decide), armBit_flag s.dev n.val false, ⟨hdev ▸ only_armBit s.dev n.val false, rfl, rfl⟩⟩

end Sys2Proof.Proofs

/-! SUPPORT. Laws of synthesizers: acquisitions, the end of a lock, and the steps of phase (R112 to R119, R126 to R130). -/

namespace Sys2Proof.Laws

open Sys2Proof.Machine Sys2Proof.Safety

section
variable (d : Dev) (i n : Nat)

/-! ## Acquisitions -/

/-- A synthesizer in reach acquires in the entry that the band search finds. -/
theorem acquire_of_found {w e : Nat} (halive : d.synRetired i = false) (hany : d.anyActive = true)
    (hfree : d.flag F.TB_HB_STAT_FROZEN = false) (hfound : d.bandSearch i w = some e) :
    (d.acquire i w).flag F.SYN_STAT_ACQUIRING i = true ∧ (d.acquire i w).flag F.SYN_STAT_LOCKED i = false ∧
      (d.acquire i w).get F.SYN_STAT_BAND_ENTRY i = e % 64 := by
  unfold Dev.acquire
  rw [halive, hany, hfree, hfound]
  simp -zeta only [Bool.not_true, Bool.or_self, Bool.false_eq_true, if_false]
  extract_lets d1 d2 d3 d4
  have hstat : d4.word .SYN_STAT i = d3.word .SYN_STAT i := by
    have honly : Only [.counters, .latches, .ring, .log, .pcie, .sent, .outs] [.ALM_ACTIVE, .ALM_LATCH, .OUT_STAT] d3 d4 :=
      .squelch (.countDev .refl _ _ (by decide)) _ (by decide) (by decide)
    exact honly.word .SYN_STAT i (by decide)
  have hlast : (if i < 4 then d4.beginPair i else d4).word .SYN_STAT i = d3.word .SYN_STAT i := by
    split
    · rw [(only_beginPair d4 i).word .SYN_STAT i (by decide), hstat]
    · exact hstat
  generalize (if i < 4 then d4.beginPair i else d4) = x at hlast ⊢
  have hget (g : Fld) (hg : g.reg = .SYN_STAT) : x.get g i = d3.get g i := by
    rw [Dev.get, Dev.get, hg, hlast]
  refine ⟨?_, ?_, ?_⟩
  · rw [Dev.flag, hget _ rfl]
    exact (flag_set_apart _ _ _ _ _ _ (by decide) (by decide)).trans (synBit_flag_same _ _ _ _ (by decide) (by decide) rfl)
  · rw [Dev.flag, hget _ rfl]
    exact (flag_set_apart _ _ _ _ _ _ (by decide) (by decide)).trans ((synBit_flag_apart _ _ _ _ _ _ (by decide) (by decide)
      (by decide)).trans (synBit_flag_same _ _ _ _ (by decide) (by decide) rfl))
  · rw [hget _ rfl]
    exact get_set_same _ _ _ _ (by decide)

/-- A stop leaves neither lock nor acquisition, whatever goes before. -/
theorem stopSyn_stopped : ((d.stopSyn i).syn i).runs = false ∧ (d.stopSyn i).flag F.SYN_STAT_LOCKED i = false ∧
    (d.stopSyn i).flag F.SYN_STAT_ACQUIRING i = false := by
  unfold Dev.stopSyn
  extract_lets d1 d2
  have honly : Only [.outs] [.OUT_STAT] d2 (if 4 ≤ i then d2 else (d2.dropOut (2 * i)).dropOut (2 * i + 1)) :=
    .ite _ .refl ((Only.refl.dropOut _ (by decide) (by decide)).dropOut _ (by decide) (by decide))
  rw [honly.syn (by decide), honly.flag F.SYN_STAT_LOCKED _ (by decide), honly.flag F.SYN_STAT_ACQUIRING _ (by decide)]
  refine ⟨?_, ?_, synBit_flag_same _ _ _ _ (by decide) (by decide) rfl⟩
  · rw [synBit_syn, synBit_syn, syn_onSyn_same]
  · rw [synBit_flag_apart _ _ _ _ _ _ (by decide) (by decide) (by decide)]
    exact synBit_flag_same _ _ _ _ (by decide) (by decide) rfl

theorem stopSyn_retired : (d.stopSyn i).flag F.SYN_STAT_RETIRED i = d.flag F.SYN_STAT_RETIRED i := by
  unfold Dev.stopSyn
  extract_lets d1 d2
  have honly : Only [.outs] [.OUT_STAT] d2 (if 4 ≤ i then d2 else (d2.dropOut (2 * i)).dropOut (2 * i + 1)) :=
    .ite _ .refl ((Only.refl.dropOut _ (by decide) (by decide)).dropOut _ (by decide) (by decide))
  rw [honly.flag _ _ (by decide), synBit_flag_apart _ _ _ _ _ _ (by decide) (by decide) (by decide),
    synBit_flag_apart _ _ _ _ _ _ (by decide) (by decide) (by decide)]
  exact endStep_flag d i 8 _ _ (by decide)

/-! ## A synthesizer that loses its lock -/

/-- What a retired synthesizer takes with it. -/
def dropDependents (i : Nat) (d : Dev) : Dev :=
  if i < 4 then (d.refreshOut (2 * i)).refreshOut (2 * i + 1)
  else if i = 4 then d.stopFast
  else if i = 9 then d.tioClockLost
  else d.lpllLost (i - 5)

theorem calm_dropDependents : Calm d (dropDependents i d) := by
  unfold dropDependents
  split
  · exact (calm_refreshOut d _).trans (calm_refreshOut _ _)
  · split
    · exact calm_stopFast d
    · split
      · exact .of_only (only_tioClockLost d) (by decide) (by decide)
      · exact calm_lpllLost d _

theorem retireSyn_dead : Dead (d.retireSyn i) i := by
  unfold Dev.retireSyn
  extract_lets d1 d2 d3 d4
  change Dead (dropDependents i d4) i
  refine (calm_dropDependents d4 i).dead i ?_
  have hreport : Calm (Dev.synBit (d2.stopSyn i) F.SYN_STAT_RETIRED true i) d4 :=
    (Calm.of_only (only_of_report (report_logAdd _ 0x02 1 0 i)) (by decide) (by decide)).quiet (only_synAlarm _) (by decide) (by decide)
  obtain ⟨-, hlocked, hacq⟩ := stopSyn_stopped d2 i
  exact hreport.dead i ⟨synBit_flag_same _ _ _ _ (by decide) (by decide) rfl,
    (synBit_flag_apart _ _ _ _ _ _ (by decide) (by decide) (by decide)).trans hlocked,
    (synBit_flag_apart _ _ _ _ _ _ (by decide) (by decide) (by decide)).trans hacq⟩

/-! ## Steps -/

/-- An output moves where the step moves it. -/
def moveOut (x : Int) (n : Nat) (d : Dev) : Dev := d.when (d.moved n) (fun d => d.onOut n (fun o => { o with anchor := o.anchor + x }))

theorem moveOut_anchor (x : Int) : ((moveOut x n d).out n).anchor = (d.out n).anchor + (if d.moved n then x else 0) := by
  unfold moveOut
  cases d.moved n
  · exact (Int.add_zero _).symm
  · exact congrArg OutSt.anchor (out_onOut_same d n (fun o => { o with anchor := o.anchor + x }))

theorem moveOut_other (x : Int) {m : Nat} (h : m ≠ n) : (moveOut x n d).out m = d.out m :=
  when_keeps d (·.out m) _ _ (out_onOut_other d n _ h)

theorem only_moveOut (x : Int) : Only [.outs] [] d (moveOut x n d) := .when .refl _ _ (Only.refl.onOut _ _ (by decide) (by decide))

theorem moveOuts_eq (k : Nat) (x : Int) : d.moveOuts k x = moveOut x (2 * k + 1) (moveOut x (2 * k) d) := rfl

theorem moveOuts_anchor {k : Nat} (x : Int) (hn : n = 2 * k ∨ n = 2 * k + 1) :
    ((d.moveOuts k x).out n).anchor = (d.out n).anchor + (if d.moved n then x else 0) := by
  rw [moveOuts_eq]
  rcases hn with rfl | rfl
  · rw [moveOut_other _ _ _ (by omega), moveOut_anchor]
  · rw [moveOut_anchor, moveOut_other _ _ _ (by omega), (only_moveOut _ _ _).moved (by decide)]

theorem moveOuts_started (k : Nat) (x : Int) : ((d.moveOuts k x).out n).started = (d.out n).started := by
  refine each_keeps d (fun y => (y.out n).started) _ _ (fun y m _ => when_keeps y (fun y => (y.out n).started) _ _ ?_)
  by_cases h : n = m
  · subst h
    rw [out_onOut_same]
  · rw [out_onOut_other _ _ _ h]

theorem redueFrame_anchor (k : Nat) : ((d.redueFrame k).out n).anchor = (d.out n).anchor := by
  refine each_keeps d (fun y => (y.out n).anchor) _ _ (fun y m _ => when_keeps y (fun y => (y.out n).anchor) _ _ ?_)
  by_cases h : n = m
  · subst h
    rw [out_onOut_same]
  · rw [out_onOut_other _ _ _ h]

theorem redueFrame_started (k : Nat) : ((d.redueFrame k).out n).started = (d.out n).started := by
  refine each_keeps d (fun y => (y.out n).started) _ _ (fun y m _ => when_keeps y (fun y => (y.out n).started) _ _ ?_)
  by_cases h : n = m
  · subst h
    rw [out_onOut_same]
  · rw [out_onOut_other _ _ _ h]

/-- The outputs that a resync has moved and that run are aligned. -/
def markAligned (n : Nat) (d : Dev) : Dev := d.when (d.moved n && (d.out n).started) (fun d => d.outBit F.OUT_STAT_ALIGNED true n)

theorem only_markAligned : Only [] [.OUT_STAT] d (markAligned n d) := .when .refl _ _ (Only.refl.outBit _ _ _ (by decide) (by decide))

theorem markAligned_flag (h : d.moved n = true) (hstarted : (d.out n).started = true) :
    (markAligned n d).flag F.OUT_STAT_ALIGNED n = true := by
  have hmark : markAligned n d = d.outBit F.OUT_STAT_ALIGNED true n := by
    rw [markAligned, h, hstarted, Bool.and_self, when_true]
  rw [hmark, outBit_flag_same _ _ _ _ (by decide) (by decide) rfl]

theorem markAligned_unit {m : Nat} (h : m ≠ n) : (markAligned n d).flag F.OUT_STAT_ALIGNED m = d.flag F.OUT_STAT_ALIGNED m :=
  when_keeps d (·.flag F.OUT_STAT_ALIGNED m) _ _ (outBit_flag_unit d n _ _ true m h)

/-- The outputs have moved by the step, which is over. -/
def stepMovedOn (i : Nat) (x : Int) (d : Dev) : Dev :=
  (((d.moveOuts i x).onSyn i (fun s => { s with step := none })).synBit F.SYN_STAT_STEP_RUN false i).redueFrame i

theorem only_stepMovedOn (x : Int) : Only [.syns, .outs] [.SYN_STAT] d (stepMovedOn i x d) :=
  (((Only.refl.moveOuts _ _ (by decide) (by decide)).onSyn _ _ (by decide) (by decide)).synBit _ _ _ (by decide) (by decide)).redueFrame _
    (by decide) (by decide)

theorem stepMovedOn_step (x : Int) : ((stepMovedOn i x d).syn i).step = none := by
  rw [stepMovedOn, (only_redueFrame _ _).syn (by decide), synBit_syn, syn_onSyn_same]

theorem stepMovedOn_run (x : Int) : (stepMovedOn i x d).flag F.SYN_STAT_STEP_RUN i = false := by
  rw [stepMovedOn, (only_redueFrame _ _).flag _ _ (by decide)]
  exact synBit_flag_same _ _ _ _ (by decide) (by decide) rfl

theorem stepMovedOn_anchor (x : Int) (hn : n = 2 * i ∨ n = 2 * i + 1) :
    ((stepMovedOn i x d).out n).anchor = (d.out n).anchor + (if d.moved n then x else 0) := by
  rw [stepMovedOn, redueFrame_anchor, synBit_out, onSyn_out, moveOuts_anchor d n x hn]

theorem stepMovedOn_started (x : Int) : ((stepMovedOn i x d).out n).started = (d.out n).started := by
  rw [stepMovedOn, redueFrame_started, synBit_out, onSyn_out, moveOuts_started]

theorem stepComplete_of_plain {p : PhaseStep} (h : (d.syn i).step = some p) (hruns : p.runs = true) (hplain : p.resync = false) :
    d.stepComplete i = stepMovedOn i p.size d := by
  unfold Dev.stepComplete
  rw [h]
  dsimp only
  rw [hruns, hplain]
  rfl

theorem stepComplete_of_resync {p : PhaseStep} (h : (d.syn i).step = some p) (hruns : p.runs = true) (hresync : p.resync = true) :
    d.stepComplete i = markAligned (2 * i + 1) (markAligned (2 * i) (stepMovedOn i p.size d)) := by
  unfold Dev.stepComplete
  rw [h]
  dsimp only
  rw [hruns, hresync]
  rfl

/-! ## The registers -/

theorem synFreqHiWrite_synW {v : Word} (hi : i < 4) : (d.synFreqHiWrite i v).synW i =
    clampNat 0x1E00 0x3C00 (v.toNat % 65536) * 2 ^ 32 + d.get F.SYN_FREQ_LO_W i := by
  have hw : clampNat 0x1E00 0x3C00 (lowBits v.toNat 16) < 2 ^ 16 := by
    rw [clampNat_eq (by decide)]
    omega
  unfold Dev.synFreqHiWrite
  rw [if_neg (by omega)]
  extract_lets d1 d2 w inside d3
  have hsynW : d2.synW i = clampNat 0x1E00 0x3C00 (v.toNat % 65536) * 2 ^ 32 + d.get F.SYN_FREQ_LO_W i := by
    have hhi : d2.get F.SYN_FREQ_HI_W i = clampNat 0x1E00 0x3C00 (lowBits v.toNat 16) :=
      (get_setWord_other _ _ _ _ _ _ (fun h => absurd h.1 (by decide))).trans
        ((get_set_same _ _ _ _ (by decide)).trans (Nat.mod_eq_of_lt hw))
    have hlo : d2.get F.SYN_FREQ_LO_W (10 + i) = d.get F.SYN_FREQ_LO_W i := by
      refine (congrArg (fun w : Word => bitsOf w.toNat 0 32) (word_setWord_same _ _ _ _)).trans ?_
      exact get_set_apart d F.SYN_FREQ_HI_W F.SYN_FREQ_LO_W _ i i (by decide) (by decide)
    rw [Dev.synW, hhi, hlo]
    rfl
  have hkeep {x : Dev} (h : Only [.syns, .outs, .counters, .latches, .ring, .log, .pcie, .sent]
      [.ALM_ACTIVE, .ALM_LATCH, .OUT_STAT, .SYN_CMD, .SYN_STAT] d2 x) : x.synW i =
        clampNat 0x1E00 0x3C00 (v.toNat % 65536) * 2 ^ 32 + d.get F.SYN_FREQ_LO_W i := by
    rw [Dev.synW, h.get _ _ (by decide), h.get _ _ (by decide)]
    exact hsynW
  refine hkeep (.ite _ (.ite _ (.acquire .refl _ _ (by decide) (by decide)) .refl) ?_)
  have hended : Only [.syns, .outs, .counters, .latches, .ring, .log, .pcie, .sent]
      [.ALM_ACTIVE, .ALM_LATCH, .OUT_STAT, .SYN_CMD, .SYN_STAT] d2 d3 :=
    (Only.refl.unalign _ (by decide) (by decide)).endStep _ _ (by decide) (by decide)
  exact .ite _ (hended.onSyn _ _ (by decide) (by decide)) (.ite _ (hended.retuneTo _ _ (by decide) (by decide))
    (hended.acquire _ _ (by decide) (by decide)))

theorem synCfgWrite_get (v : Word) : (d.synCfgWrite i v).get F.SYN_CFG_REF_MODE i = v.toNat % 4 ∧
    (d.synCfgWrite i v).get F.SYN_CFG_BANK_SEL i = v.toNat / 16 % 2 := by
  unfold Dev.synCfgWrite
  extract_lets oldRef oldCode d1
  have honly : Only [.syns, .outs, .counters, .latches, .ring, .log, .pcie, .sent]
      [.ALM_ACTIVE, .ALM_LATCH, .OUT_STAT, .SYN_CMD, .SYN_STAT] d1 (if 4 ≤ i then d1
        else if d1.get F.SYN_CFG_REF_MODE i ≠ oldRef && d1.osynWanted i then d1.acquire i (d1.wPresent i) else d1.recode i oldCode) :=
    .ite _ .refl (.ite _ (.acquire .refl _ _ (by decide) (by decide)) (.recode .refl _ _ (by decide) (by decide)))
  rw [honly.get _ _ (by decide), honly.get _ _ (by decide)]
  exact ⟨(get_set_apart _ _ _ _ _ _ (by decide) (by decide)).trans (get_set_same _ _ _ _ (by decide)), get_set_same _ _ _ _ (by decide)⟩

theorem bandEntryWrite_low (bank e : Nat) (v : Word) : (d.bandEntryWrite i bank e 0 v).get F.SYN_BAND_W0_F_LO ((i * 2 + bank) * 64 + e) =
      bitsOf v.toNat 0 23 ∧
    (d.bandEntryWrite i bank e 0 v).get F.SYN_BAND_W0_CODE ((i * 2 + bank) * 64 + e) = bitsOf v.toNat 24 6 ∧
    (d.bandEntryWrite i bank e 0 v).get F.SYN_BAND_W0_VALID ((i * 2 + bank) * 64 + e) = bitsOf v.toNat 31 1 := by
  unfold Dev.bandEntryWrite
  extract_lets oldCode u d1
  have honly := only_recode d1 i oldCode
  have hstored : d1 = ((d.set F.SYN_BAND_W0_F_LO v.toNat u).set F.SYN_BAND_W0_CODE (v.toNat / 2 ^ 24) u).set F.SYN_BAND_W0_VALID
    (v.toNat / 2 ^ 31) u := if_pos rfl
  rw [honly.get _ _ (by decide), honly.get _ _ (by decide), honly.get _ _ (by decide), hstored]
  refine ⟨?_, ?_, get_set_same _ _ _ _ (by decide)⟩
  · rw [get_set_apart _ _ _ _ _ _ (by decide) (by decide), get_set_apart _ _ _ _ _ _ (by decide) (by decide),
      get_set_same _ _ _ _ (by decide), bitsOf, Nat.pow_zero, Nat.div_one]
    rfl
  · rw [get_set_apart _ _ _ _ _ _ (by decide) (by decide)]
    exact get_set_same _ _ _ _ (by decide)

theorem bandEntryWrite_high (bank e : Nat) (v : Word) : (d.bandEntryWrite i bank e 1 v).get F.SYN_BAND_W1_F_HI ((i * 2 + bank) * 64 + e) =
    bitsOf v.toNat 0 23 := by
  unfold Dev.bandEntryWrite
  extract_lets oldCode u d1
  have hstored : d1 = d.set F.SYN_BAND_W1_F_HI v.toNat u := if_neg (by decide)
  rw [(only_recode d1 i oldCode).get _ _ (by decide), hstored, get_set_same _ _ _ _ (by decide), bitsOf, Nat.pow_zero, Nat.div_one]
  rfl

/-! ## Locks declared, timed out and lost -/

theorem lockDeclared_locked (hrejoins : (d.syn i).rejoins = false) (hacq : d.flag F.SYN_STAT_ACQUIRING i = true)
    (hfree : d.flag F.SYN_STAT_FROZEN i = false) :
    (d.lockDeclared i).synLocked i = true ∧ (d.lockDeclared i).flag F.SYN_STAT_ACQUIRING i = false := by
  unfold Dev.lockDeclared
  rw [hrejoins, hacq, hfree, if_neg (by decide), if_neg (by decide)]
  extract_lets d1 d2
  have hkept : (if i = 9 then d2.refreshReadies else d2).word .SYN_STAT i = d1.word .SYN_STAT i := by
    have hbegun : d2.word .SYN_STAT i = d1.word .SYN_STAT i := by
      unfold d2
      split
      · exact (only_beginPair d1 i).word .SYN_STAT i (by decide)
      · rfl
    split
    · rw [(only_refreshReadies d2).word .SYN_STAT i (by decide), hbegun]
    · exact hbegun
  generalize (if i = 9 then d2.refreshReadies else d2) = x at hkept ⊢
  have hget (g : Fld) (hg : g.reg = .SYN_STAT) : x.get g i = d1.get g i := by
    rw [Dev.get, Dev.get, hg, hkept]
  constructor
  · rw [Dev.synLocked, Dev.flag, hget _ rfl]
    exact synBit_flag_same _ _ _ _ (by decide) (by decide) rfl
  · rw [Dev.flag, hget _ rfl]
    exact (synBit_flag_apart _ _ _ _ _ _ (by decide) (by decide) (by decide)).trans (synBit_flag_same _ _ _ _ (by decide) (by decide) rfl)

theorem synAcqTimeout_stopped (hacq : d.flag F.SYN_STAT_ACQUIRING i = true) (hfree : d.flag F.SYN_STAT_FROZEN i = false) :
    ((d.synAcqTimeout i).syn i).runs = false ∧ (d.synAcqTimeout i).flag F.SYN_STAT_ACQUIRING i = false ∧
    (d.synAcqTimeout i).synLocked i = false ∧ (d.synAcqTimeout i).flag F.SYN_STAT_ACQ_FAIL i = true := by
  obtain ⟨hruns, hlocked, hstill⟩ := stopSyn_stopped d i
  have honly : Only [.counters, .latches, .ring, .log, .pcie, .sent] [.ALM_ACTIVE, .ALM_LATCH]
      ((d.stopSyn i).synBit F.SYN_STAT_ACQ_FAIL true i) (d.synAcqTimeout i) := by
    unfold Dev.synAcqTimeout
    rw [hacq, hfree, if_neg (by decide)]
    exact (Only.refl.raise _ (by decide)).devEvent _ _ _ _ (by decide)
  rw [honly.syn (by decide), Dev.synLocked, honly.flag F.SYN_STAT_ACQUIRING _ (by decide), honly.flag F.SYN_STAT_LOCKED _ (by decide),
    honly.flag F.SYN_STAT_ACQ_FAIL _ (by decide), synBit_syn]
  exact ⟨hruns, (synBit_flag_apart _ _ _ _ _ _ (by decide) (by decide) (by decide)).trans hstill,
    (synBit_flag_apart _ _ _ _ _ _ (by decide) (by decide) (by decide)).trans hlocked,
    synBit_flag_same _ _ _ _ (by decide) (by decide) rfl⟩

theorem synUnlock_of_recent {w : Ticks} (hlocked : d.synLocked i = true) (hfree : d.flag F.SYN_STAT_FROZEN i = false)
    (hwrote : (d.syn i).wroteAt = some w) (hrecent : d.now ≤ w + 2000000 * nsUnit) :
    (d.synUnlock i).synLocked i = false ∧ (d.synUnlock i).flag F.SYN_STAT_ACQUIRING i = true ∧
      (d.synUnlock i).synRetired i = d.synRetired i := by
  have hunlocked : d.synUnlock i =
      (((d.endStep i 8).synBit F.SYN_STAT_LOCKED false i).synBit F.SYN_STAT_ACQUIRING true i).squelch i := by
    unfold Dev.synUnlock
    rw [hlocked, hfree, if_neg (by decide), hwrote]
    simp only [hrecent, decide_true, if_true]
  rw [hunlocked, Dev.synLocked, Dev.synRetired, Dev.synRetired, (only_squelch _ _).flag _ _ (by decide),
    (only_squelch _ _).flag _ _ (by decide), (only_squelch _ _).flag _ _ (by decide)]
  refine ⟨?_, synBit_flag_same _ _ _ _ (by decide) (by decide) rfl, ?_⟩
  · rw [synBit_flag_apart _ _ _ _ _ _ (by decide) (by decide) (by decide)]
    exact synBit_flag_same _ _ _ _ (by decide) (by decide) rfl
  · rw [synBit_flag_apart _ _ _ _ _ _ (by decide) (by decide) (by decide),
      synBit_flag_apart _ _ _ _ _ _ (by decide) (by decide) (by decide), endStep_flag _ _ _ _ _ (by decide)]

theorem synUnlock_of_old (hlocked : d.synLocked i = true) (hfree : d.flag F.SYN_STAT_FROZEN i = false)
    (hold : ∀ w, (d.syn i).wroteAt = some w → w + 2000000 * nsUnit < d.now) : d.synUnlock i = (d.retireSyn i).judgeRelock := by
  unfold Dev.synUnlock
  rw [hlocked, hfree, if_neg (by decide)]
  cases hw : (d.syn i).wroteAt with
  | none => rfl
  | some w =>
    have hlate : ¬ d.now ≤ w + 2000000 * nsUnit := Nat.not_le.mpr (hold w hw)
    simp only [hlate, decide_false, Bool.false_eq_true, if_false]

/-! ## Steps commanded -/

theorem synStep_of_locked (hi : i < 4) (hlocked : d.synLocked i = true) (hstep : (d.syn i).step = none) :
    d.synStep i = (d.startStep i ⟨signedOf (d.get F.SYN_STEP_STEP_PS i) 21 * 65536, d.get F.SYN_STEP_RATE i, 0, true, false⟩).set
      F.SYN_CMD_RESULT 1 i := by
  unfold Dev.synStep
  rw [if_neg (by omega), hstep, hlocked]
  rfl

theorem synStepAt_of_ahead {t : Ticks} (hi : i < 4) (hset : d.mir.state ≠ .unset) (hlocked : d.synLocked i = true)
    (hstep : (d.syn i).step = none) (ht : ticksOf (d.word .SYN_STEP_T0 i) (d.word .SYN_STEP_T1 i) (d.word .SYN_STEP_T2 i)
      (d.word .SYN_STEP_T3 i) = some t) (hlead : d.now + 100000 * nsUnit ≤ t) :
    d.synStepAt i = ((d.onSyn i (fun s => { s with step := some ⟨signedOf (d.get F.SYN_STEP_STEP_PS i) 21 * 65536,
      d.get F.SYN_STEP_RATE i, ((t * 1000 : Nat) : Int), false, false⟩ })).synBit F.SYN_STAT_STEP_PEND true i).set F.SYN_CMD_RESULT 1 i := by
  unfold Dev.synStepAt
  rw [if_neg (by omega), if_neg hset, hstep, if_neg (by decide), hlocked, if_neg (by decide), ht]
  dsimp only
  rw [if_neg (Nat.not_lt.mpr hlead)]

theorem synResync_of_small (hi : i < 4) (hset : d.mir.state ≠ .unset) (hlocked : d.synLocked i = true)
    (hstep : (d.syn i).step = none) (hmoved : d.moved (2 * i) = true) (hsmall : (d.misalign (2 * i)).natAbs ≤ 1000000 * 65536) :
    d.synResync i = (d.startStep i ⟨-(d.misalign (2 * i)), d.get F.SYN_STEP_RATE i, 0, true, true⟩).set F.SYN_CMD_RESULT 1 i := by
  unfold Dev.synResync
  rw [if_neg (by omega), if_neg hset, hmoved, if_neg (by simp), hstep, if_neg (by decide), hlocked, if_neg (by decide)]
  simp only [if_true]
  rw [if_neg (Nat.not_lt.mpr hsmall)]

theorem synReg_of_present {f : Dev → Dev} (hreach : d.firnReach = true) (hpart : d.small = true → i ≠ 7 ∧ i ≠ 8) : d.synReg i f = f d := by
  have hpresent : (d.small && (i == 7 || i == 8)) = false := by
    cases hs : d.small
    · rfl
    · simpa using hpart hs
  simp only [Dev.synReg, Dev.reach, hreach, hpresent, if_true, Bool.false_eq_true, if_false]

end
end Sys2Proof.Laws

namespace Sys2Proof.Proofs

open Sys2Proof.Machine Sys2Proof.Safety Sys2Proof.Laws

/-- Settles O17: what a register takes no later change of the command writes; an acquisition, a stop and a step leave the bits that
they set; a retired synthesizer stays dead whatever falls with it. -/
theorem synthesizers : Obligations.Synthesizers := by
  refine ⟨fun s i v hreach hpart => ⟨?_, fun bank entry => ?_, fun bank entry => ?_, fun hi => ?_, fun hi => ?_,
      fun e hi halive hwanted hany hfrozen hfound => ?_⟩,
    fun s i hfree => ⟨fun hacq hrejoins => ?_, fun hacq => ?_, fun w hlocked hwrote hrecent => ?_, fun hlocked hold => ?_⟩,
    fun s i hreach hi => ⟨fun hlocked hstep => ⟨?_, fun T hset hT hlead => ?_, fun n hn hset hmoved hsmall => ?_⟩,
      fun p hp => ⟨?_, fun hruns => ?_, fun hruns hplain => ?_, fun hruns hresync => ?_⟩⟩⟩
  · refine completes_of_next rfl ?_
    rw [onDev_dev, synReg_of_present _ _ hreach hpart]
    exact synCfgWrite_get s.dev i.val v
  · refine completes_of_next rfl ?_
    rw [onDev_dev, synReg_of_present _ _ hreach hpart]
    exact bandEntryWrite_low s.dev i.val bank.val entry.val v
  · refine completes_of_next rfl ?_
    rw [onDev_dev, synReg_of_present _ _ hreach hpart]
    exact bandEntryWrite_high s.dev i.val bank.val entry.val v
  · refine completes_of_next rfl ?_
    rw [onDev_dev, synReg_of_present _ _ hreach hpart]
    exact synFreqHiWrite_synW s.dev i.val hi
  · have hkept : s.dev.synReg i.val (·.synFreqHiWrite i.val v) = s.dev := by
      rw [synReg_of_present _ _ hreach hpart]
      exact if_pos hi
    refine completes_of_next rfl ?_
    rw [State.onDev, hkept]
  · obtain ⟨hacq, hlocked, hentry⟩ := acquire_of_found s.dev i.val halive hany hfrozen hfound
    have hretuned : s.dev.retune i.val = (s.dev.acquire i.val (s.dev.synW i.val)).set F.SYN_CMD_RESULT 1 i.val := by
      rw [Dev.retune, if_neg (by omega), halive, hwanted]
      rfl
    refine completes_of_next rfl ?_
    rw [onDev_dev, synReg_of_present _ _ hreach hpart, hretuned]
    refine ⟨?_, ?_, ?_, get_set_same _ _ _ _ (by decide)⟩
    · rw [flag_set_apart _ _ _ _ _ _ (by decide) (by decide), hacq]
    · rw [Dev.synLocked, flag_set_apart _ _ _ _ _ _ (by decide) (by decide), hlocked]
    · rw [get_set_apart _ _ _ _ _ _ (by decide) (by decide), hentry]
  · refine completes_of_next rfl ?_
    rw [onDev_dev]
    exact lockDeclared_locked s.dev i.val hrejoins hacq hfree
  · refine completes_of_next rfl ?_
    rw [onDev_dev]
    exact synAcqTimeout_stopped s.dev i.val hacq hfree
  · refine completes_of_next rfl ?_
    rw [onDev_dev]
    exact synUnlock_of_recent s.dev i.val hlocked hfree hwrote hrecent
  · have hdead := (calm_judgeRelock (s.dev.retireSyn i.val)).dead i.val (retireSyn_dead s.dev i.val)
    refine completes_of_next rfl ?_
    rw [onDev_dev, synUnlock_of_old s.dev i.val hlocked hfree hold]
    exact ⟨hdead.retired, hdead.unlocked, hdead.still⟩
  · refine completes_of_next rfl ?_
    rw [onDev_dev, synReg_of_present _ _ hreach (fun _ => by omega), synStep_of_locked _ _ hi hlocked hstep, set_syn,
      flag_set_apart _ _ _ _ _ _ (by decide) (by decide)]
    exact ⟨get_set_same _ _ _ _ (by decide), startStep_run _ _ _, startStep_step _ _ _⟩
  · refine completes_of_next rfl ?_
    rw [onDev_dev, synReg_of_present _ _ hreach (fun _ => by omega), synStepAt_of_ahead _ _ hi hset hlocked hstep hT hlead, set_syn,
      flag_set_apart _ _ _ _ _ _ (by decide) (by decide), synBit_syn, syn_onSyn_same]
    exact ⟨get_set_same _ _ _ _ (by decide), synBit_flag_same _ _ _ _ (by decide) (by decide) rfl, rfl⟩
  · subst hn
    refine completes_of_next rfl ?_
    rw [onDev_dev, synReg_of_present _ _ hreach (fun _ => by omega), synResync_of_small _ _ hi hset hlocked hstep hmoved hsmall, set_syn,
      flag_set_apart _ _ _ _ _ _ (by decide) (by decide)]
    exact ⟨get_set_same _ _ _ _ (by decide), startStep_run _ _ _, startStep_step _ _ _⟩
  · have hended : s.dev.synCancel i.val = s.dev.endStep i.val 8 := by
      rw [Dev.synCancel, if_neg (by omega), hp]
      rfl
    refine completes_of_next rfl ?_
    rw [onDev_dev, synReg_of_present _ _ hreach (fun _ => by omega), hended]
    exact endStep_of_step s.dev i.val hp (by decide)
  · have hstarted : s.dev.stepAtStart i.val = s.dev.startStep i.val p := by
      unfold Dev.stepAtStart
      rw [hp]
      dsimp only
      rw [hruns, if_neg (by decide)]
    refine completes_of_next rfl ?_
    rw [onDev_dev, hstarted]
    exact ⟨startStep_run _ _ _, startStep_pend _ _ _, startStep_step _ _ _⟩
  · refine completes_of_next rfl ?_
    rw [onDev_dev, stepComplete_of_plain _ _ hp hruns hplain]
    exact ⟨stepMovedOn_step _ _ _, stepMovedOn_run _ _ _, fun n hn => stepMovedOn_anchor _ _ _ _ hn⟩
  · have honly (y : Dev) (m : Nat) := only_markAligned y m
    have hmovedOn := only_stepMovedOn s.dev i.val p.size
    refine completes_of_next rfl ?_
    rw [onDev_dev, stepComplete_of_resync _ _ hp hruns hresync]
    refine ⟨?_, ?_, fun n hn hmoved hstarted => ?_⟩
    · rw [(honly _ _).syn (by decide), (honly _ _).syn (by decide), stepMovedOn_step]
    · rw [(honly _ _).flag _ _ (by decide), (honly _ _).flag _ _ (by decide), stepMovedOn_run]
    · have hmoved' := (hmovedOn.moved (by decide) n).trans hmoved
      have hstarted' := (stepMovedOn_started s.dev i.val n p.size).trans hstarted
      rcases hn with rfl | rfl
      · rw [markAligned_unit _ _ (by omega), markAligned_flag _ _ hmoved' hstarted']
      · refine markAligned_flag _ _ ?_ ?_
        · rw [(honly _ _).moved (by decide), hmoved']
        · rw [(honly _ _).out (by decide), hstarted']

end Sys2Proof.Proofs

namespace Sys2Proof.Proofs

open Sys2Proof.Machine Sys2Proof.Safety Sys2Proof.Laws

/-- A module in RECOVERY whose host link is up and idle: the indirect space of the TIO channels is not available there (R363). -/
def recoveryWithHost : State :=
  State.reset.onDev (fun d => (d.setStage 8).onPcie (fun e => { e with ready := true }))

/-- Whether a completed command has recorded a failed indirect access. -/
def recordsFault (o : Host.Outcome State Fault Refusal) : Bool :=
  match o with
  | .next t => t.dev.word .IND_STAT 0 != 0
  | _ => false

theorem tioRecordRead_inRecovery : recordsFault (exec (.tioRecordRead 0) recoveryWithHost) = true := by decide

/-- Refutes O25: the frame of TIO_RECORD_READ does not except RECOVERY, in which the read is an indirect access to a space that is not
available, and IND_STAT shows its ERR (R363). -/
theorem not_tioOutputs : ¬ Obligations.TioOutputs := by
  rintro ⟨-, hreads⟩
  obtain ⟨t, hexec, hframe⟩ := (hreads recoveryWithHost 0).1 (Or.inl (by decide))
  have hfault := tioRecordRead_inRecovery
  rw [hexec] at hfault
  have hkept : t.dev.word .IND_STAT 0 = recoveryWithHost.dev.word .IND_STAT 0 := hframe.dev.word .IND_STAT 0 (by decide)
  have hclear : recoveryWithHost.dev.word .IND_STAT 0 = 0 := by decide
  rw [recordsFault, hkept, hclear] at hfault
  exact absurd hfault (by decide)

end Sys2Proof.Proofs

namespace Sys2Proof.Proofs

open Sys2Proof.Machine Sys2Proof.Safety Sys2Proof.Laws

/-- A module in stage 0 whose host link is up, with one indirect write queued for a space that does not exist, and IND_STAT with an
earlier ERR of 2: in stage 0 no write of the host reaches IND_STAT. -/
def romWithFaultyWrite : State :=
  State.reset.onDev (fun d =>
    (d.onPcie (fun e => { e with ready := true, indQueue := [⟨9, 0, 0⟩] })).set F.IND_STAT_ERR 2)

/-- A write of ones to IND_STAT by the host, in the same cycle as the oldest indirect write is taken. -/
def clearWithApply : RingRound := ⟨[.write ⟨.host, 0, 0x100C, 4, 0xFFFFFFFF⟩], [.indApply]⟩

/-- The ERR of IND_STAT that a completed command leaves. -/
def errAfter (o : Host.Outcome State Fault Refusal) : Nat :=
  match o with
  | .next t => t.dev.get F.IND_STAT_ERR
  | _ => 0

theorem clearWithApply_inRom : errAfter (exec (.registerWrite clearWithApply) romWithFaultyWrite) = 2 := by decide

/-- Refutes O46: in stage 0 the write that clears IND_STAT is ignored (the stage does not reach the register), so the ERR of an
earlier indirect access stays in it, and the error of the faulty write taken in that cycle does not show. -/
theorem not_indirectAccess : ¬ Obligations.IndirectAccess := by
  rintro ⟨hwrites, -⟩
  obtain ⟨-, happly, -⟩ := hwrites romWithFaultyWrite 0 0 0 ⟨9, 0, 0⟩ []
  obtain ⟨-, hclear, -⟩ := happly (by decide) (by decide) (by decide)
  obtain ⟨t, hexec, -, herr⟩ := hclear 1 (by decide) (by decide) (by decide) (by decide) (by decide) (by decide)
  have hshown := clearWithApply_inRom
  rw [clearWithApply, hexec, errAfter, herr] at hshown
  exact absurd hshown (by decide)

end Sys2Proof.Proofs

/-! SUPPORT. Laws of the mailbox channels (R374, R378): one rule per transition, for the state that it needs and for any other. -/

namespace Sys2Proof.Safety

open Sys2Proof.Machine Sys2Proof.Laws

theorem Only.chan {P : List Part} {R : List Reg} {d e : Dev} (h : Only P R d e) (hp : Part.chans ∉ P) (a b : Nat) :
    e.chan a b = d.chan a b :=
  congrArg (fun t => tabGet t Chan.init (a * 8 + b)) (h.part .chans hp)

end Sys2Proof.Safety

namespace Sys2Proof.Laws

open Sys2Proof.Machine Sys2Proof.Safety

/-! ## The latch of an alarm -/

section
variable (d : Dev) (a b : Nat)

theorem latched_latch (n : Nat) : (d.latch n).flag (bitFld .ALM_LATCH n) (n / 32) = true := by
  have hbound : (bitFld .ALM_LATCH n).lo + (bitFld .ALM_LATCH n).width ≤ 32 := Nat.mod_lt n (by decide : 0 < 32)
  unfold Dev.latch
  split
  next h => exact h
  next =>
    rw [when_keeps (d.set (bitFld .ALM_LATCH n) 1 (n / 32)) (fun e => e.flag (bitFld .ALM_LATCH n) (n / 32)) _ (fun e => e.sendGroup (groupOf n)) (by simp only [Dev.flag, Dev.get, sendGroup_word]), Dev.flag, get_set_same _ _ _ _ hbound]
    rfl

theorem latched_raise (x : Alarm) : latched (d.raise x) x = true := latched_latch d x.bit

/-! ## Transitions -/

/-- A channel with a message in POSTED (R374, R403). -/
def Chan.posted (c : Chan) (m : List Byte) : Chan :=
  { c with st := 1, redeliv := false, msg := splice (pad64 c.msg) 0 m, len := m.length, sentLen := m.length, sentIrq := c.ackIrq }

theorem Chan.posted_sent (c : Chan) (m : List Byte) : (Chan.posted c m).sent = m := by
  simp [Chan.posted, Chan.sent, splice]

theorem postMsg_chan (m : List Byte) : (d.postMsg a b m).chan a b = Chan.posted (d.chan a b) m := by
  have htold : Only reports alarmRegs (((d.onChan a b (Chan.posted · m)).when (b == 2) Dev.wakeCores))
      ((((d.onChan a b (Chan.posted · m)).when (b == 2) Dev.wakeCores).countDev 307).devEvent true 0x150 (a * 8 + b)
        |>.tellPosted a b) :=
    ((Only.refl.countDev _ _ (by decide)).devEvent _ _ _ _ (by decide)).tellPosted _ _ (by decide) (by decide)
  have hwoken : Only [.sys] [.PWR_STAT] (d.onChan a b (Chan.posted · m)) ((d.onChan a b (Chan.posted · m)).when (b == 2) Dev.wakeCores) :=
    .when .refl _ _ (.wakeCores .refl (by decide) (by decide))
  have heq : d.postMsg a b m = ((((d.onChan a b (Chan.posted · m)).when (b == 2) Dev.wakeCores).countDev 307).devEvent true 0x150
      (a * 8 + b)).tellPosted a b := rfl
  rw [heq, htold.chan (by decide), hwoken.chan (by decide), onChan_same]

theorem mbxResult_of_processor {party : Nat} (r : Nat) (h : party ≠ 0) : d.mbxResult a b party r = d := by
  rw [Dev.mbxResult, beq_false_of_ne h, when_false]

theorem mbxResult_of_host {party : Nat} (r : Nat) (h : party = 0) :
    d.mbxResult a b party r = d.onChan a b (fun c => { c with result := r }) := by
  subst h
  rfl

variable {a b}

theorem chanExists_of_ne (h : a ≠ b) : chanExists a b = true := bne_iff_ne.2 h

theorem mbxMove_of_other (party need : Nat) (f : Dev → Dev) (hab : a ≠ b) (h : (d.chan a b).st ≠ need) :
    d.mbxMove a b party need f = d.mbxResult a b party 2 := by
  simp only [Dev.mbxMove, chanExists_of_ne hab, Bool.not_true, Bool.false_eq_true, if_false, if_pos h]

theorem mbxMove_of_needed (party : Nat) {need : Nat} (f : Dev → Dev) (hab : a ≠ b) (h : (d.chan a b).st = need) :
    d.mbxMove a b party need f = (f d).mbxResult a b party 1 := by
  simp only [Dev.mbxMove, chanExists_of_ne hab, Bool.not_true, Bool.false_eq_true, if_false, h, ne_eq, not_true_eq_false]

/-- The result of a command is a field of its own. -/
theorem mbxResult_chan (party r : Nat) : ∃ r', (d.mbxResult a b party r).chan a b = { d.chan a b with result := r' } := by
  by_cases h : party = 0
  · exact ⟨r, by rw [mbxResult_of_host _ _ _ _ h, onChan_same]⟩
  · exact ⟨(d.chan a b).result, by rw [mbxResult_of_processor _ _ _ _ h]⟩

theorem mbxPost_of_other (m : List Byte) (hab : a ≠ b) (h : (d.chan a b).st ≠ 0) : d.mbxPost a b m = d.mbxResult a b a 2 := by
  simp only [Dev.mbxPost, chanExists_of_ne hab, Bool.not_true, Bool.false_eq_true, if_false, if_pos h]

/-- The length of a message to post: MBX_CTL.LEN of the host's. -/
def postLen (d : Dev) (a b : Nat) (m : List Byte) : Nat := if a = 0 then (d.chan a b).len else m.length

/-- The message to post: what the host has written, with its length, or a processor's own. -/
def postMessage (d : Dev) (a b : Nat) (m : List Byte) : List Byte :=
  if a = 0 then (pad64 (d.chan a b).msg).take (d.chan a b).len else m

theorem mbxPost_of_badLength (m : List Byte) (hab : a ≠ b) (h : (d.chan a b).st = 0)
    (hlen : postLen d a b m < 4 ∨ 64 < postLen d a b m) : d.mbxPost a b m = d.mbxResult a b a 3 := by
  rw [postLen] at hlen
  simp only [Dev.mbxPost, chanExists_of_ne hab, Bool.not_true, Bool.false_eq_true, if_false, h, ne_eq, not_true_eq_false, if_pos hlen]

theorem mbxPost_of_free (m : List Byte) (hab : a ≠ b) (h : (d.chan a b).st = 0) (hlow : 4 ≤ postLen d a b m)
    (hhigh : postLen d a b m ≤ 64) : d.mbxPost a b m = (d.postMsg a b (postMessage d a b m)).mbxResult a b a 1 := by
  have hlen : ¬(postLen d a b m < 4 ∨ 64 < postLen d a b m) := by omega
  rw [postLen] at hlen
  simp only [Dev.mbxPost, chanExists_of_ne hab, Bool.not_true, Bool.false_eq_true, if_false, h, ne_eq, not_true_eq_false, if_neg hlen,
    postMessage]

/-- A channel with its message acknowledged (R374). -/
def Chan.acked (c : Chan) (code : Nat) (rsp : List Byte) (n : Nat) : Chan := { c with st := 3, ackCode := code, rsp := rsp, rspLen := n }

/-- The response that ACK shows and its length: the host's is what it has written. -/
def ackResponse (d : Dev) (a b : Nat) (rsp : List Byte) : List Byte :=
  if b = 0 then (d.chan a b).rsp else splice (pad64 (d.chan a b).rsp) 0 rsp
def ackLen (d : Dev) (a b : Nat) (rsp : List Byte) : Nat := if b = 0 then (d.chan a b).rspLen else rsp.length

theorem mbxAck_of_other (code : Nat) (rsp : List Byte) (hab : a ≠ b) (h : (d.chan a b).st ≠ 2) :
    d.mbxAck a b code rsp = d.mbxResult a b b 2 := by
  simp only [Dev.mbxAck, beq_false_of_ne h, Bool.and_false, Bool.false_and, Bool.false_eq_true, if_false]
  exact mbxMove_of_other _ _ _ _ hab h

theorem mbxAck_of_long (code : Nat) (rsp : List Byte) (hab : a ≠ b) (h : (d.chan a b).st = 2) (hlen : 64 < ackLen d a b rsp) :
    d.mbxAck a b code rsp = d.mbxResult a b b 3 := by
  rw [ackLen] at hlen
  simp only [Dev.mbxAck, chanExists_of_ne hab, h, beq_self_eq_true, Bool.and_self, Bool.true_and, decide_eq_true hlen, if_true]

theorem mbxAck_of_taken (code : Nat) (rsp : List Byte) (hab : a ≠ b) (h : (d.chan a b).st = 2) (hlen : ackLen d a b rsp ≤ 64) :
    d.mbxAck a b code rsp = ((d.onChan a b (Chan.acked · (d.codeOf a b code) (ackResponse d a b rsp) (ackLen d a b rsp))).tellAcked a b
      ).mbxResult a b b 1 := by
  have hshort : ¬(64 < ackLen d a b rsp) := by omega
  rw [ackLen] at hshort
  simp only [Dev.mbxAck, chanExists_of_ne hab, h, beq_self_eq_true, Bool.and_self, Bool.true_and, decide_eq_false hshort,
    Bool.false_eq_true, if_false]
  exact mbxMove_of_needed _ _ _ hab h

theorem tellAcked_chan : (d.tellAcked a b).chan a b = d.chan a b :=
  (show Only reports alarmRegs d (d.tellAcked a b) from .tellAcked .refl _ _ (by decide) (by decide)).chan (by decide) a b

theorem mbxAck_chan (code : Nat) (rsp : List Byte) (hab : a ≠ b) (h : (d.chan a b).st = 2) (hlen : ackLen d a b rsp ≤ 64) :
    ∃ r, (d.mbxAck a b code rsp).chan a b = { Chan.acked (d.chan a b) (d.codeOf a b code) (ackResponse d a b rsp) (ackLen d a b rsp) with result := r } ∧
      (b = 0 → r = 1) := by
  rw [mbxAck_of_taken d code rsp hab h hlen]
  by_cases hb : b = 0
  · exact ⟨1, by rw [mbxResult_of_host _ _ _ _ hb, onChan_same, tellAcked_chan, onChan_same], fun _ => rfl⟩
  · exact ⟨(d.chan a b).result, by rw [mbxResult_of_processor _ _ _ _ hb, tellAcked_chan, onChan_same]; rfl, fun h => absurd h hb⟩

/-- A released or withdrawn channel. -/
def Chan.freed (c : Chan) : Chan := { c with st := 0, redeliv := false }

theorem mbxWithdraw_of_posted (hab : a ≠ b) (h : (d.chan a b).st = 1) :
    d.mbxWithdraw a b = ((d.onChan a b Chan.freed).countDev 308).mbxResult a b a 1 := mbxMove_of_needed _ _ _ hab h

theorem mbxTake_of_posted (hab : a ≠ b) (h : (d.chan a b).st = 1) :
    d.mbxTake a b = (d.onChan a b (fun c => { c with st := 2 })).mbxResult a b b 1 := mbxMove_of_needed _ _ _ hab h

theorem mbxRelease_of_acked (hab : a ≠ b) (h : (d.chan a b).st = 3) :
    d.mbxRelease a b = ((d.onChan a b Chan.freed).when (a == 2 && b == 0) Dev.sendNotice).mbxResult a b a 1 :=
  mbxMove_of_needed _ _ _ hab h

theorem sendNotice_of_none (h : d.cpMail.notices = []) : d.sendNotice = d := by
  rw [Dev.sendNotice, h]

/-- The device after the CP has taken the next notice from those that it holds (R382). -/
def noticeTaken (d : Dev) (rest : List Notice) : Dev := ({ d with cpMail := { d.cpMail with notices := rest, lost := false } }).spendFree

theorem sendNotice_of_free {n : Notice} {rest : List Notice} (h : d.cpMail.notices = n :: rest) (hfree : (d.chan 2 0).st = 0) :
    d.sendNotice = (noticeTaken d rest).postMsg 2 0 (noticeMsg n d.cpMail.lost d.freeVal) := by
  rw [Dev.sendNotice, h]
  simp only [hfree, ne_eq, not_true_eq_false, if_false]
  rfl

theorem noticeMsg_length (n : Notice) (lost : Bool) (tag : Nat) : (noticeMsg n lost tag).length = 16 := by
  simp [noticeMsg, beBytes, leBytes]

/-! ## Faults and restarts -/

theorem mbxFault_of_live (hab : a ≠ b) (h : (d.chan a b).st ≠ 4) : d.mbxFault a b =
    ((d.onChan a b (fun c => { Chan.init with st := 4, postIrq := c.postIrq, ackIrq := c.ackIrq })).memError 7 true).retireOther 0x0C 7
      (a * 8 + b) := by
  simp only [Dev.mbxFault, chanExists_of_ne hab, beq_false_of_ne h, Bool.not_true, Bool.or_self, Bool.false_eq_true, if_false]

end

/-- The party of an ID. -/
def partyOf : Nat → MboxParty
  | 0 => .host | 1 => .fsp | 2 => .cp | 3 => .smc | 4 => .tbpA | _ => .tbpB

theorem partyOf_id (a : MboxParty) : partyOf a.id = a := by
  cases a <;> rfl

theorem party_id_injective : Function.Injective MboxParty.id := Function.LeftInverse.injective partyOf_id

theorem party_id_lt (a : MboxParty) : a.id < 6 := by
  cases a <;> decide

theorem party_id_eq_iff {a b : MboxParty} : a.id = b.id ↔ a = b :=
  party_id_injective.eq_iff

theorem party_id_ne {a b : MboxParty} (h : a ≠ b) : a.id ≠ b.id := party_id_injective.ne h

end Sys2Proof.Laws

namespace Sys2Proof.Proofs

open Sys2Proof.Machine Sys2Proof.Safety Sys2Proof.Laws

section
variable {s : State} {a b : MboxParty}

/-- A refused command of the host shows its result in the channel and changes nothing else. -/
theorem completes_hostRefusal {c : Instr} {f : Dev → Dev} {r : Nat} (hexec : exec c s = .next (s.onDev f))
    (h : f s.dev = s.dev.mbxResult a.id b.id 0 r) :
    Completes c s (fun t => t.dev.chan a.id b.id = { s.dev.chan a.id b.id with result := r } ∧ Frame [.chans] [] s t) := by
  refine completes_onDev hexec ?_
  rw [onDev_dev, h, mbxResult_of_host _ _ _ _ rfl]
  refine ⟨onChan_same .., ?_, rfl, rfl⟩
  rw [onDev_dev, h, mbxResult_of_host _ _ _ _ rfl]
  exact .onChan .refl _ _ _ (by decide)

/-- A refused command of a processor changes nothing. -/
theorem completes_refusal {c : Instr} {f : Dev → Dev} {party r : Nat} (hexec : exec c s = .next (s.onDev f))
    (h : f s.dev = s.dev.mbxResult a.id b.id party r) (hparty : party ≠ 0) : Completes c s (fun t => t = s) := by
  refine completes_onDev hexec ?_
  rw [mbxResult_of_processor _ _ _ _ hparty] at h
  show { s with dev := f s.dev } = s
  rw [h]

theorem completes_mbxPost_processor {m : List Byte} (hab : a.id ≠ b.id) (hst : (s.dev.chan a.id b.id).st = 0) (ha : a.id ≠ 0)
    (hlow : 4 ≤ m.length) (hhigh : m.length ≤ 64) : Completes (.mbxPost a b m) s (fun t =>
      (t.dev.chan a.id b.id).st = 1 ∧ (t.dev.chan a.id b.id).sent = m ∧ (t.dev.chan a.id b.id).len = m.length ∧
      (t.dev.chan a.id b.id).redeliv = false) := by
  have hlen : postLen s.dev a.id b.id m = m.length := if_neg ha
  have hmsg : postMessage s.dev a.id b.id m = m := if_neg ha
  refine completes_of_next rfl ?_
  rw [onDev_dev, mbxPost_of_free _ m hab hst (hlen ▸ hlow) (hlen ▸ hhigh), mbxResult_of_processor _ _ _ _ ha, hmsg, postMsg_chan]
  exact ⟨rfl, Chan.posted_sent _ _, rfl, rfl⟩

theorem completes_mbxPost_host {m : List Byte} (hab : a.id ≠ b.id) (hst : (s.dev.chan a.id b.id).st = 0) (ha : a.id = 0)
    (hlow : 4 ≤ (s.dev.chan a.id b.id).len) (hhigh : (s.dev.chan a.id b.id).len ≤ 64)
    (hwritten : (s.dev.chan a.id b.id).msg.length = 64) : Completes (.mbxPost a b m) s (fun t => (t.dev.chan a.id b.id).st = 1 ∧
      (t.dev.chan a.id b.id).len = (s.dev.chan a.id b.id).len ∧ (t.dev.chan a.id b.id).result = 1) := by
  have hlen : postLen s.dev a.id b.id m = (s.dev.chan a.id b.id).len := if_pos ha
  have hmsg : postMessage s.dev a.id b.id m = (pad64 (s.dev.chan a.id b.id).msg).take (s.dev.chan a.id b.id).len := if_pos ha
  have hpad : (pad64 (s.dev.chan a.id b.id).msg).length = 64 := by simp [pad64, hwritten]
  refine completes_of_next rfl ?_
  rw [onDev_dev, mbxPost_of_free _ m hab hst (hlen ▸ hlow) (hlen ▸ hhigh), hmsg,
    mbxResult_of_host _ _ _ _ ha, onChan_same, postMsg_chan]
  refine ⟨rfl, ?_, rfl⟩
  show ((pad64 _).take _).length = _
  rw [List.length_take, hpad, Nat.min_eq_left hhigh]

theorem completes_mbxWithdraw (hab : a.id ≠ b.id) (hst : (s.dev.chan a.id b.id).st = 1) : Completes (.mbxWithdraw a b) s (fun t =>
    (t.dev.chan a.id b.id).st = 0 ∧ (t.dev.chan a.id b.id).redeliv = false) := by
  refine completes_of_next rfl ?_
  rw [onDev_dev, mbxWithdraw_of_posted _ hab hst]
  obtain ⟨r, hr⟩ := mbxResult_chan (a := a.id) (b := b.id) ((s.dev.onChan a.id b.id Chan.freed).countDev 308) a.id 1
  have hcounted : ((s.dev.onChan a.id b.id Chan.freed).countDev 308).chan a.id b.id = Chan.freed (s.dev.chan a.id b.id) := by
    rw [(show Only reports alarmRegs (s.dev.onChan a.id b.id Chan.freed) _ from .countDev .refl 308 1 (by decide)).chan (by decide),
      onChan_same]
  rw [hr, hcounted]
  exact ⟨rfl, rfl⟩

theorem completes_mbxTake (hab : a.id ≠ b.id) (hst : (s.dev.chan a.id b.id).st = 1) : Completes (.mbxTake a b) s (fun t =>
    (t.dev.chan a.id b.id).st = 2 ∧ (t.dev.chan a.id b.id).msg = (s.dev.chan a.id b.id).msg ∧ Frame [.chans] [] s t) := by
  refine completes_of_next rfl ⟨?_, ?_, only_mbxTake _ _ _, rfl, rfl⟩ <;>
  · rw [onDev_dev, mbxTake_of_posted _ hab hst]
    obtain ⟨r, hr⟩ := mbxResult_chan (a := a.id) (b := b.id) (s.dev.onChan a.id b.id (fun c => { c with st := 2 })) b.id 1
    rw [hr, onChan_same]

theorem completes_mbxAck_processor {m : List Byte} {code : BitVec 16} (hab : a.id ≠ b.id) (hst : (s.dev.chan a.id b.id).st = 2)
    (hb : b.id ≠ 0) (hlen : m.length ≤ 64) : Completes (.mbxAck a b code m) s (fun t => (t.dev.chan a.id b.id).st = 3 ∧
      (t.dev.chan a.id b.id).ackCode = s.dev.codeOf a.id b.id code.toNat ∧ (t.dev.chan a.id b.id).rsp.take m.length = m ∧
      (t.dev.chan a.id b.id).rspLen = m.length) := by
  have hn : ackLen s.dev a.id b.id m = m.length := if_neg hb
  have hrsp : ackResponse s.dev a.id b.id m = splice (pad64 (s.dev.chan a.id b.id).rsp) 0 m := if_neg hb
  refine completes_of_next rfl ?_
  obtain ⟨r, hr, -⟩ := mbxAck_chan s.dev code.toNat m hab hst (hn ▸ hlen)
  rw [onDev_dev, hr, hn, hrsp]
  exact ⟨rfl, rfl, by simp [Chan.acked, splice], rfl⟩

theorem completes_mbxAck_host {m : List Byte} {code : BitVec 16} (hab : a.id ≠ b.id) (hst : (s.dev.chan a.id b.id).st = 2)
    (hb : b.id = 0) (hlen : (s.dev.chan a.id b.id).rspLen ≤ 64) : Completes (.mbxAck a b code m) s (fun t =>
      (t.dev.chan a.id b.id).st = 3 ∧ (t.dev.chan a.id b.id).ackCode = code.toNat ∧
      (t.dev.chan a.id b.id).rsp = (s.dev.chan a.id b.id).rsp ∧ (t.dev.chan a.id b.id).result = 1) := by
  have hn : ackLen s.dev a.id b.id m = (s.dev.chan a.id b.id).rspLen := if_pos hb
  have hrsp : ackResponse s.dev a.id b.id m = (s.dev.chan a.id b.id).rsp := if_pos hb
  have hcode : s.dev.codeOf a.id b.id code.toNat = code.toNat := by rw [Dev.codeOf, hb]; rfl
  refine completes_of_next rfl ?_
  obtain ⟨r, hr, hone⟩ := mbxAck_chan s.dev code.toNat m hab hst (hn ▸ hlen)
  rw [onDev_dev, hr, hrsp, hcode, hone hb]
  exact ⟨rfl, rfl, rfl, rfl⟩

theorem completes_mbxRelease (hab : a.id ≠ b.id) (hst : (s.dev.chan a.id b.id).st = 3)
    (hquiet : ¬(a = .cp ∧ b = .host) ∨ s.dev.cpMail.notices = []) : Completes (.mbxRelease a b) s (fun t =>
      (t.dev.chan a.id b.id).st = 0 ∧ (t.dev.chan a.id b.id).redeliv = false ∧ Frame [.chans] [] s t) := by
  have hnone : (s.dev.onChan a.id b.id Chan.freed).when (a.id == 2 && b.id == 0) Dev.sendNotice = s.dev.onChan a.id b.id Chan.freed := by
    by_cases hcp : (a.id == 2 && b.id == 0) = true
    · have hnotices : (s.dev.onChan a.id b.id Chan.freed).cpMail.notices = [] := hquiet.resolve_left (not_not_intro (by
        obtain ⟨ha, hb⟩ := Bool.and_eq_true_iff.1 hcp
        exact ⟨party_id_eq_iff.1 (eq_of_beq ha), party_id_eq_iff.1 (eq_of_beq hb)⟩))
      rw [hcp, when_true, sendNotice_of_none _ hnotices]
    · rw [Bool.not_eq_true] at hcp
      rw [hcp, when_false]
  have heq : s.dev.mbxRelease a.id b.id = (s.dev.onChan a.id b.id Chan.freed).mbxResult a.id b.id a.id 1 := by
    rw [mbxRelease_of_acked _ hab hst, hnone]
  obtain ⟨r, hr⟩ := mbxResult_chan (a := a.id) (b := b.id) (s.dev.onChan a.id b.id Chan.freed) a.id 1
  refine completes_of_next rfl ?_
  refine ⟨?_, ?_, ?_, rfl, rfl⟩
  · rw [onDev_dev, heq, hr, onChan_same]
    rfl
  · rw [onDev_dev, heq, hr, onChan_same]
    rfl
  · rw [onDev_dev, heq]
    exact (Only.refl.onChan _ _ _ (by decide)).mbxResult _ _ _ _ (by decide) (by decide)

theorem completes_mbxRelease_notice {n : Notice} {rest : List Notice} (hst : (s.dev.chan 2 0).st = 3)
    (hnotices : s.dev.cpMail.notices = n :: rest) : Completes (.mbxRelease .cp .host) s (fun t => (t.dev.chan 2 0).st = 1 ∧
      (t.dev.chan 2 0).redeliv = false ∧ (t.dev.chan 2 0).len = 16 ∧ t.dev.cpMail.notices = rest) := by
  have hfree : ((s.dev.onChan 2 0 Chan.freed).chan 2 0).st = 0 := by
    rw [onChan_same]
    rfl
  have heq : s.dev.mbxRelease 2 0 = (noticeTaken (s.dev.onChan 2 0 Chan.freed) rest).postMsg 2 0
      (noticeMsg n s.dev.cpMail.lost (s.dev.onChan 2 0 Chan.freed).freeVal) := by
    rw [mbxRelease_of_acked _ (by decide) hst, mbxResult_of_processor _ _ _ _ (by decide)]
    exact sendNotice_of_free _ hnotices hfree
  refine completes_of_next rfl ?_
  rw [onDev_dev]
  show ((s.dev.mbxRelease 2 0).chan 2 0).st = 1 ∧ ((s.dev.mbxRelease 2 0).chan 2 0).redeliv = false ∧
    ((s.dev.mbxRelease 2 0).chan 2 0).len = 16 ∧ (s.dev.mbxRelease 2 0).cpMail.notices = rest
  rw [heq, postMsg_chan]
  exact ⟨rfl, rfl, noticeMsg_length _ _ _, congrArg CpMail.notices ((only_postMsg _ 2 0 _).part .cpMail (by decide))⟩

theorem completes_mbxChannelFault (hab : a.id ≠ b.id) (hst : (s.dev.chan a.id b.id).st ≠ 4) :
    Completes (.mbxChannelFault (a, b) .uncorrectable) s (fun t => (t.dev.chan a.id b.id).st = 4 ∧
      latched t.dev .resourceRetired = true) := by
  refine completes_of_next rfl ?_
  rw [onDev_dev, Dev.memFails, mbxFault_of_live _ hab hst]
  refine ⟨?_, latched_raise _ _⟩
  rw [(show Only reports alarmRegs (s.dev.onChan a.id b.id _) _ from
    (Only.refl.memError 7 true (by decide)).retireOther 0x0C 7 (a.id * 8 + b.id) (by decide)).chan (by decide), onChan_same]

theorem completes_mbxHostRestart (hab : a.id ≠ 0) (hst : (s.dev.chan a.id 0).st = 2) : Completes .mbxHostRestart s (fun t =>
    (t.dev.chan a.id 0).st = 1 ∧ (t.dev.chan a.id 0).redeliv = true ∧ (t.dev.chan a.id 0).msg = (s.dev.chan a.id 0).msg) := by
  refine completes_of_next rfl ?_
  rw [onDev_dev, hostRestart_chan _ _ (by decide), if_pos ⟨rfl, hab, party_id_lt a, hst⟩]
  exact ⟨rfl, rfl, rfl⟩

end

theorem codeOf_of_processor (d : Dev) (a b : MboxParty) (code : Nat) (hb : b ≠ .host) : d.codeOf a.id b.id code =
    if a = .host ∧ b = .cp ∧ ((d.chan a.id b.id).opcode = 1 ∨ (d.chan a.id b.id).opcode = 2) then code else 0xFFFF := by
  have hdst : b.id ≠ 0 := party_id_ne hb
  rw [Dev.codeOf, decide_eq_false hdst]
  simp only [Bool.false_or, Bool.and_eq_true, Bool.or_eq_true, beq_iff_eq, and_assoc,
    show a.id = 0 ↔ a = .host from party_id_eq_iff (b := .host), show b.id = 2 ↔ b = .cp from party_id_eq_iff (b := .cp)]

/-- Settles O49: each command by the state of its channel, of the host or of a processor. -/
theorem mailboxTransitions : Obligations.MailboxTransitions := by
  intro s a b m code hne
  have hab : a.id ≠ b.id := party_id_ne hne
  have hid (x : MboxParty) : x ≠ .host → x.id ≠ 0 := fun h => party_id_ne h
  refine ⟨?_, ?_, ?_, ?_, ?_, ?_, ?_, ?_, ?_, ?_, ?_, ?_, ?_, ?_, ?_, ?_, ?_, ?_⟩
  · exact fun hst ha hlow hhigh => completes_mbxPost_processor hab hst (hid a ha) hlow hhigh
  · rintro ha hbad
    by_cases hst : (s.dev.chan a.id b.id).st = 0
    · have hlen : postLen s.dev a.id b.id m = m.length := if_neg (hid a ha)
      exact completes_refusal rfl (mbxPost_of_badLength _ m hab hst (hlen ▸ hbad.resolve_left (not_not_intro hst))) (hid a ha)
    · exact completes_refusal rfl (mbxPost_of_other _ m hab hst) (hid a ha)
  · rintro hst rfl hbad
    exact completes_hostRefusal rfl (mbxPost_of_badLength _ m hab hst hbad)
  · exact fun hst ha hlow hhigh hwritten => completes_mbxPost_host hab hst (ha ▸ rfl) hlow hhigh hwritten
  · rintro hst rfl
    exact completes_hostRefusal rfl (mbxPost_of_other _ m hab hst)
  · exact fun hst => ⟨completes_mbxWithdraw hab hst, completes_mbxTake hab hst⟩
  · refine fun hst => ⟨fun ha => ?_, ?_, fun hb => ?_, ?_⟩
    · exact completes_refusal rfl (mbxMove_of_other _ _ _ _ hab hst) (hid a ha)
    · rintro rfl
      exact completes_hostRefusal rfl (mbxMove_of_other _ _ _ _ hab hst)
    · exact completes_refusal rfl (mbxMove_of_other _ _ _ _ hab hst) (hid b hb)
    · rintro rfl
      exact completes_hostRefusal rfl (mbxMove_of_other _ _ _ _ hab hst)
  · intro hst hb hlen
    rw [← codeOf_of_processor s.dev a b code.toNat hb]
    exact completes_mbxAck_processor hab hst (hid b hb) hlen
  · exact fun hst hb hlen => completes_mbxAck_host hab hst (hb ▸ rfl) hlen
  · rintro hst rfl hlen
    exact completes_hostRefusal rfl (mbxAck_of_long _ code.toNat m hab hst hlen)
  · exact fun hst hb => completes_refusal rfl (mbxAck_of_other _ code.toNat m hab hst) (hid b hb)
  · exact fun hst ha => completes_refusal rfl (mbxMove_of_other _ _ _ _ hab hst) (hid a ha)
  · exact fun hst hnone => completes_mbxRelease (a := .cp) (b := .host) (by decide) hst (.inr hnone)
  · exact fun n rest hst hnotices => completes_mbxRelease_notice hst hnotices
  · exact fun hst hother => completes_mbxRelease hab hst (.inl hother)
  · exact fun hst => completes_mbxChannelFault hab hst
  · have hcorrected : Only reports alarmRegs s.dev (s.dev.memError 7 false) := .memError .refl 7 false (by decide)
    exact completes_frame rfl hcorrected
  · rintro rfl hst
    exact completes_mbxHostRestart hab hst

end Sys2Proof.Proofs

/-! SUPPORT. Laws of the messages that the CP serves for the host (R381): what its acknowledgement shows, by OPCODE. -/

namespace Sys2Proof.Laws

open Sys2Proof.Machine Sys2Proof.Safety

section
variable (d : Dev)

theorem ackLen_ofCp (rsp : List Byte) : ackLen d 0 2 rsp = rsp.length := rfl

theorem cpAck_chan (code : Nat) {rsp : List Byte} (h : (d.chan 0 2).st = 2) (hlen : rsp.length ≤ 64) :
    ((d.cpAck code rsp).chan 0 2).st = 3 ∧ ((d.cpAck code rsp).chan 0 2).ackCode = d.codeOf 0 2 code ∧
    ((d.cpAck code rsp).chan 0 2).rspLen = rsp.length := by
  obtain ⟨r, hr, -⟩ := mbxAck_chan d code rsp (by decide) h hlen
  rw [Dev.cpAck, hr]
  exact ⟨rfl, rfl, rfl⟩

theorem cpAck_cpMail (code : Nat) (rsp : List Byte) : (d.cpAck code rsp).cpMail = d.cpMail := (only_cpAck d code rsp).part .cpMail (by decide)

theorem codeOf_defined {d : Dev} (code : Nat) (h : (d.chan 0 2).opcode = 1 ∨ (d.chan 0 2).opcode = 2) : d.codeOf 0 2 code = code := by
  rcases h with h | h <;> simp [Dev.codeOf, h]

theorem codeOf_undefined {d : Dev} (code : Nat) (hone : (d.chan 0 2).opcode ≠ 1) (htwo : (d.chan 0 2).opcode ≠ 2) :
    d.codeOf 0 2 code = 0xFFFF := by
  simp [Dev.codeOf, hone, htwo]

/-! ## What the CP does with the message that it has taken -/

variable {d}

theorem cpServe_management (h : d.cpTaken = true) (hop : (d.chan 0 2).opcode = 1) : d.cpServe = d.ptpManagement := by
  simp only [Dev.cpServe, h, hop, Bool.not_true, Bool.false_eq_true, if_false]

theorem cpServe_continue (h : d.cpTaken = true) (hop : (d.chan 0 2).opcode = 2) : d.cpServe = d.continueReply := by
  simp only [Dev.cpServe, h, hop, Bool.not_true, Bool.false_eq_true, if_false]

theorem cpServe_other (h : d.cpTaken = true) (hone : (d.chan 0 2).opcode ≠ 1) (htwo : (d.chan 0 2).opcode ≠ 2) :
    d.cpServe = d.cpAck 0xFFFF [] := by
  rw [Dev.cpServe, h]
  split
  next hfree => cases hfree
  next =>
    split
    next heq => exact absurd heq hone
    next heq => exact absurd heq htwo
    next => rfl

/-- An exchange of another TAG is in progress. -/
theorem ptpManagement_of_busy (htag : d.cpMail.tag ≠ none) (hother : d.cpMail.tag ≠ some (byteAt d.hostMsg 2)) :
    d.ptpManagement = d.cpAck 0xFFFD [] := by
  rw [Dev.ptpManagement]
  simp only [Option.isSome_iff_ne_none.2 htag, bne_iff_ne.2 hother, Bool.and_self, if_true]

theorem continueReply_of_busy (hlen : d.hostMsg.length = 4) (htag : d.cpMail.tag ≠ none)
    (hother : d.cpMail.tag ≠ some (byteAt d.hostMsg 2)) : d.continueReply = d.cpAck 0xFFFD [] := by
  rw [Dev.continueReply]
  simp only [hlen, ne_eq, not_true_eq_false, if_false, Option.isSome_iff_ne_none.2 htag, bne_iff_ne.2 hother, Bool.and_self, if_true]

theorem continueReply_of_length (hlen : d.hostMsg.length ≠ 4) : d.continueReply = d.cpAck 0xFFFE [] := by
  rw [Dev.continueReply]
  simp only [hlen, ne_eq, not_false_eq_true, if_true]

/-- No exchange of another TAG is in progress. -/
theorem notBusy {t : Option Nat} {x : Nat} (h : t = none ∨ t = some x) : (t.isSome && t != some x) = false := by
  rcases h with rfl | rfl <;> simp

/-- The device after a part of a management message has been kept with its TAG. -/
def partKept (d : Dev) (tag : Nat) (parts : List (List Byte)) : Dev :=
  { d with cpMail := { d.cpMail with tag := some tag, parts := parts, reply := [] } }

theorem ptpManagement_of_part (htag : d.cpMail.tag = none) (hmore : byteAt d.hostMsg 3 % 2 = 1) : d.ptpManagement =
    (partKept d (byteAt d.hostMsg 2) ((if d.cpMail.reply.isEmpty then d.cpMail.parts else []) ++ [d.hostMsg.drop 4])).cpAck 0xFFF0 [] := by
  have hbusy := notBusy (x := byteAt d.hostMsg 2) (Or.inl htag)
  rw [Dev.ptpManagement]
  simp only [hbusy, Bool.false_eq_true, if_false, hmore, if_true]
  rfl

/-- The device after the next part of a reply has been taken from those that wait. -/
def partTaken (d : Dev) (tag code : Nat) (rest : List (List Byte)) : Dev :=
  { d with cpMail := { d.cpMail with tag := if rest.isEmpty then none else some tag, parts := [], reply := rest, replyCode := code } }

theorem continueReply_of_part {p : List Byte} {rest : List (List Byte)} (hlen : d.hostMsg.length = 4)
    (htag : d.cpMail.tag = none ∨ d.cpMail.tag = some (byteAt d.hostMsg 2)) (hreply : d.cpMail.reply = p :: rest) :
    d.continueReply = (partTaken d (byteAt d.hostMsg 2) d.cpMail.replyCode rest).cpAck d.cpMail.replyCode
      (replyPart 0x0001 (byteAt d.hostMsg 2) (!rest.isEmpty) p) := by
  have hbusy := notBusy htag
  rw [Dev.continueReply]
  simp only [hlen, ne_eq, not_true_eq_false, if_false, hbusy, Bool.false_eq_true, Dev.sendPart, hreply]
  rfl

theorem replyPart_length (op tag : Nat) (more : Bool) (b : List Byte) : (replyPart op tag more b).length = 4 + b.length := by
  simp [replyPart, leBytes]
  omega

end

end Sys2Proof.Laws

namespace Sys2Proof.Proofs

open Sys2Proof.Machine Sys2Proof.Safety Sys2Proof.Laws

section
variable {s : State} {c : Instr}

/-- Both rows serve the message that is taken. -/
theorem exec_cpServe (hc : c ∈ [Instr.ptpManagement, .continueMsg]) : exec c s = .next (s.onDev Dev.cpServe) := by
  rcases List.mem_pair.1 hc with rfl | rfl <;> rfl

/-- An answer without a response leaves the exchange as it is. -/
theorem completes_cpAck {code n : Nat} (hc : c ∈ [Instr.ptpManagement, .continueMsg]) (hst : (s.dev.chan 0 2).st = 2)
    (heq : s.dev.cpServe = s.dev.cpAck code []) (hcode : s.dev.codeOf 0 2 code = n) : Completes c s (fun t =>
      (t.dev.chan 0 2).st = 3 ∧ (t.dev.chan 0 2).ackCode = n ∧ t.dev.cpMail = s.dev.cpMail) := by
  refine completes_onDev (exec_cpServe hc) ?_
  rw [onDev_dev, heq]
  obtain ⟨hthree, hack, -⟩ := cpAck_chan s.dev code hst (by decide : ([] : List Byte).length ≤ 64)
  exact ⟨hthree, hack.trans hcode, cpAck_cpMail _ _ _⟩

end

/-- Settles O50: both rows by the OPCODE of the message taken, and a CONTINUE by its length and the TAG of the exchange. -/
theorem managementMessages : Obligations.ManagementMessages := by
  rintro s m htaken rfl c hc
  have hst : (s.dev.chan 0 2).st = 2 := eq_of_beq htaken
  have hop : (s.dev.chan 0 2).opcode = leNat (s.dev.hostMsg.take 2) := rfl
  rw [← hop]
  refine ⟨fun hone htwo => ?_, fun hone => ?_, fun hone htag hmore => ?_, fun hop htag hother => ?_,
    fun htwo hlen htag p rest hreply hp => ?_, fun htwo hlen => ?_⟩
  · exact completes_cpAck hc hst (cpServe_other htaken hone htwo) (codeOf_undefined _ hone htwo)
  · refine completes_onDev (exec_cpServe hc) ⟨?_, rfl, rfl⟩
    rw [onDev_dev]
    by_cases htwo : (s.dev.chan 0 2).opcode = 2
    · rw [cpServe_continue htaken htwo]
      exact .continueReply .refl (by decide) (by decide)
    · rw [cpServe_other htaken hone htwo]
      exact .cpAck .refl _ _ (by decide) (by decide)
  · refine completes_onDev (exec_cpServe hc) ?_
    rw [onDev_dev, cpServe_management htaken hone, ptpManagement_of_part htag hmore, cpAck_cpMail]
    obtain ⟨hthree, hack, -⟩ := cpAck_chan (partKept s.dev (byteAt s.dev.hostMsg 2)
      ((if s.dev.cpMail.reply.isEmpty then s.dev.cpMail.parts else []) ++ [s.dev.hostMsg.drop 4])) 0xFFF0 hst
      (by decide : ([] : List Byte).length ≤ 64)
    exact ⟨hthree, hack.trans (codeOf_defined _ (.inl hone)), rfl, rfl⟩
  · rcases hop with hone | ⟨htwo, hlen⟩
    · exact completes_cpAck hc hst ((cpServe_management htaken hone).trans (ptpManagement_of_busy htag hother)) (codeOf_defined _ (.inl hone))
    · exact completes_cpAck hc hst ((cpServe_continue htaken htwo).trans (continueReply_of_busy hlen htag hother)) (codeOf_defined _ (.inr htwo))
  · refine completes_onDev (exec_cpServe hc) ?_
    have hlength := replyPart_length 0x0001 (byteAt s.dev.hostMsg 2) (!rest.isEmpty) p
    rw [onDev_dev, cpServe_continue htaken htwo, continueReply_of_part hlen htag hreply, cpAck_cpMail]
    obtain ⟨hthree, hack, hrsp⟩ := cpAck_chan (partTaken s.dev (byteAt s.dev.hostMsg 2) s.dev.cpMail.replyCode rest)
      s.dev.cpMail.replyCode hst (rsp := replyPart 0x0001 (byteAt s.dev.hostMsg 2) (!rest.isEmpty) p) (by omega)
    exact ⟨hthree, hack.trans (codeOf_defined _ (.inr htwo)), rfl, hrsp.trans hlength⟩
  · exact completes_cpAck hc hst ((cpServe_continue htaken htwo).trans (continueReply_of_length hlen)) (codeOf_defined _ (.inr htwo))

end Sys2Proof.Proofs

/-! SUPPORT. What the queueing of a frame, the wake of its direction and the judging of the banks leave alone: the Ring engine, the links
of the ports, and of the switch all but frames, queues and the accounts of cells. -/

namespace Sys2Proof.Laws

open Sys2Proof.Machine Sys2Proof.Safety

/-- A Ring engine but for the flag that a report may set. -/
def ringCore (r : Ring) : Ring := { r with firnSat := false }

/-- A port but for what the idleness and the wake of its transmitter change. -/
def portCore (x : Port) : Port := { x with txDepth := 0, txEntry := none, txLead := false, idleFrom := none, idleSpan := 0 }

/-- A switch but for frames, queues and the accounts that their arrival changes. -/
def swCore (x : Switch) : Switch := { x with frames := [], queues := [], tails := [], redAvg := [], slots := 0, nReq := 0 }

/-- A change of frames, queues, sleeping transmitters and accounts alone. -/
structure Steady (d e : Dev) : Prop where
  ring : ringCore e.ring = ringCore d.ring
  ports : ∀ p, portCore (e.port p) = portCore (d.port p)
  sw : swCore e.sw = swCore d.sw
  quad : ∀ g p, g.reg = .LANE_QUAD_STAT → apart F.LANE_QUAD_STAT_TX_SLEEP g = true → apart F.LANE_QUAD_STAT_CHANGED g = true →
    e.get g p = d.get g p

variable {P : List Part} {R : List Reg} {x d e : Dev}

namespace Steady

theorem refl (d : Dev) : Steady d d := ⟨rfl, fun _ => rfl, rfl, fun _ _ _ _ _ => rfl⟩
theorem trans (h : Steady x d) (k : Steady d e) : Steady x e :=
  ⟨k.ring.trans h.ring, fun p => (k.ports p).trans (h.ports p), k.sw.trans h.sw,
    fun g p hr ht hc => (k.quad g p hr ht hc).trans (h.quad g p hr ht hc)⟩
theorem after (k : Steady d e) (h : Steady x d) : Steady x e := h.trans k

theorem of_only (k : Only P R d e) (h : .ring ∉ P ∧ .ports ∉ P ∧ .sw ∉ P ∧ .LANE_QUAD_STAT ∉ R) : Steady d e := by
  obtain ⟨hring, hports, hsw, hquad⟩ := h
  exact ⟨congrArg ringCore (k.part .ring hring), fun p => congrArg (fun t => portCore (tabGet t Port.init p)) (k.part .ports hports), congrArg swCore (k.part .sw hsw),
    fun g p hr _ _ => k.get g p (hr ▸ hquad)⟩

theorem of_report (k : Report d e) : Steady d e := by
  obtain ⟨b, hb⟩ := k.ring
  refine ⟨by rw [hb]; rfl, fun p => ?_, by rw [k.sw], fun g p hr _ _ => k.get g p (by rw [hr]; rfl)⟩
  rw [Dev.port, k.ports]
  rfl

theorem when (h : Steady x d) (b : Bool) (f : Dev → Dev) (k : Steady d (f d)) : Steady x (d.when b f) := by
  cases b
  · exact h
  · exact h.trans k

theorem each {α : Type} (h : Steady x d) (l : List α) (f : Dev → α → Dev) (k : ∀ e a, Steady e (f e a)) : Steady x (d.each l f) := by
  unfold Dev.each
  induction l generalizing d with
  | nil => exact h
  | cons a l ih => exact ih (h.trans (k d a))

theorem onSw (h : Steady x d) (f : Switch → Switch) (hf : swCore (f d.sw) = swCore d.sw) : Steady x (d.onSw f) :=
  h.trans ⟨rfl, fun _ => rfl, hf, fun _ _ _ _ _ => rfl⟩

theorem onPort (h : Steady x d) (p : Nat) (f : Port → Port) (hf : portCore (f (d.port p)) = portCore (d.port p)) :
    Steady x (d.onPort p f) := by
  refine h.trans ⟨rfl, fun q => ?_, rfl, fun _ _ _ _ _ => rfl⟩
  by_cases hq : q = p
  · rw [hq, onPort_same, hf]
  · rw [show (d.onPort p f).port q = d.port q from tabGet_tabSet_other _ _ _ _ hq]

theorem set (h : Steady x d) (f : Fld) (v u : Nat) (hr : f.reg ≠ .LANE_QUAD_STAT) : Steady x (d.set f v u) :=
  h.trans (of_only (P := []) (R := [f.reg]) (Only.refl.set f v u (by simp)) ⟨by decide, by decide, by decide, by simpa using hr.symm⟩)
theorem synBit (h : Steady x d) (f : Fld) (b : Bool) (i : Nat) (hr : f.reg = .SYN_STAT) : Steady x (d.synBit f b i) :=
  h.trans (of_only (P := []) (R := [.SYN_STAT]) (Only.refl.synBit f b i (by simp [hr]) (by decide)) (by decide))
theorem onSys (h : Steady x d) (f : Sys → Sys) : Steady x (d.onSys f) :=
  h.trans (of_only (P := [.sys]) (R := []) (Only.refl.onSys f (by decide)) (by decide))
theorem spendFree (h : Steady x d) : Steady x d.spendFree :=
  h.trans (of_only (P := [.freeCtr]) (R := []) (Only.refl.spendFree (by decide)) (by decide))

theorem quadTx (h : Steady x d) (v p : Nat) : Steady x (d.quadSet F.LANE_QUAD_STAT_TX_SLEEP v p) := by
  refine h.trans ⟨?_, fun q => ?_, ?_, fun g q _ ht hc => get_setMark_apart _ _ _ _ _ _ _ (by decide) (by decide) ht hc⟩
  · rw [show (d.quadSet F.LANE_QUAD_STAT_TX_SLEEP v p).ring = d.ring from setMark_ring ..]
  · rw [show (d.quadSet F.LANE_QUAD_STAT_TX_SLEEP v p).port q = d.port q from congrArg (fun t => tabGet t Port.init q) (setMark_ports ..)]
  · rw [show (d.quadSet F.LANE_QUAD_STAT_TX_SLEEP v p).sw = d.sw from setMark_sw ..]

theorem linkUp (h : Steady d e) (p : Nat) : e.linkUp p = d.linkUp p := by
  rw [Dev.linkUp, Dev.flag, h.quad _ _ rfl (by decide) (by decide)]
  rfl

theorem portUp (h : Steady d e) (p : Nat) : e.portUp p = d.portUp p := by
  have hloop : (portCore (e.port p)).inLoop = (portCore (d.port p)).inLoop := congrArg Port.inLoop (h.ports p)
  rw [Dev.portUp, h.linkUp]
  exact congrArg (fun b => d.linkUp p && !b) hloop

theorem nextFid (h : Steady d e) : e.sw.nextFid = d.sw.nextFid := by
  have hcore : (swCore e.sw).nextFid = (swCore d.sw).nextFid := congrArg Switch.nextFid h.sw
  exact hcore

end Steady

theorem steady_setFrame (d : Dev) (f : Nat) (x : Option Stored) : Steady d (d.setFrame f x) := by
  unfold Dev.setFrame
  try dsimp only
  repeat' first
    | with_reducible exact Steady.refl _
    | with_reducible refine Steady.onSw ?_ _ rfl

theorem steady_onFrame (d : Dev) (f : Nat) (g : Stored → Stored) : Steady d (d.onFrame f g) := by
  unfold Dev.onFrame
  try dsimp only
  repeat' first
    | with_reducible exact Steady.refl _
    | with_reducible refine (steady_setFrame _ _ _).after ?_

theorem steady_chargeFrame (d : Dev) (f n : Nat) (res : Bool) : Steady d (d.chargeFrame f n res) := by
  unfold Dev.chargeFrame
  try dsimp only
  repeat' first
    | with_reducible exact Steady.refl _
    | with_reducible refine (steady_onFrame _ _ _).after ?_

theorem steady_judgeIdle (d : Dev) (p : Nat) : Steady d (d.judgeIdle p) := by
  unfold Dev.judgeIdle
  try dsimp only
  repeat' first
    | with_reducible exact Steady.refl _
    | with_reducible refine Steady.onPort ?_ _ _ rfl
    | split

theorem steady_setQueue (d : Dev) (p q : Nat) (l : List Link) : Steady d (d.setQueue p q l) := by
  unfold Dev.setQueue
  try dsimp only
  repeat' first
    | with_reducible exact Steady.refl _
    | with_reducible refine Steady.onSw ?_ _ rfl

theorem steady_judgeBuf (d : Dev) : Steady d d.judgeBuf := by
  unfold Dev.judgeBuf
  try dsimp only
  repeat' first
    | with_reducible exact Steady.refl _
    | with_reducible refine (Steady.of_report (report_cond _ _ _)).after ?_

theorem steady_judgeBanks (d : Dev) : Steady d d.judgeBanks := by
  unfold Dev.judgeBanks
  try dsimp only
  repeat' first
    | with_reducible exact Steady.refl _
    | with_reducible refine Steady.onSw ?_ _ rfl
    | with_reducible refine (steady_judgeBuf _).after ?_
    | with_reducible refine (Steady.of_only (only_setGated _ _) (by decide)).after ?_
    | with_reducible refine (Steady.of_only (only_stopDrain _) (by decide)).after ?_
    | with_reducible refine Steady.when ?_ _ _ ?_
    | split

theorem steady_acquire (d : Dev) (i w : Nat) : Steady d (d.acquire i w) := by
  unfold Dev.acquire
  try dsimp only
  repeat' first
    | with_reducible exact Steady.refl _
    | with_reducible refine Steady.set ?_ _ _ _ (by decide)
    | with_reducible refine Steady.synBit ?_ _ _ _ (by decide)
    | with_reducible refine (Steady.of_report (report_raise _ _)).after ?_
    | with_reducible refine (Steady.of_report (report_countDev _ _ _)).after ?_
    | with_reducible refine (Steady.of_report (report_devEvent _ _ _ _ _)).after ?_
    | with_reducible refine (Steady.of_only (only_beginPair _ _) (by decide)).after ?_
    | with_reducible refine (Steady.of_only (only_endStep _ _ _) (by decide)).after ?_
    | with_reducible refine (Steady.of_only (only_onSyn _ _ _) (by decide)).after ?_
    | with_reducible refine (Steady.of_only (only_retime _ _ _) (by decide)).after ?_
    | with_reducible refine (Steady.of_only (only_squelch _ _) (by decide)).after ?_
    | split

theorem steady_startInternal (d : Dev) (i : Nat) : Steady d (d.startInternal i) := by
  unfold Dev.startInternal
  try dsimp only
  repeat' first
    | with_reducible exact Steady.refl _
    | with_reducible refine (steady_acquire _ _ _).after ?_
    | split

theorem steady_restartLpll (d : Dev) (k : Nat) : Steady d (d.restartLpll k) := by
  unfold Dev.restartLpll
  try dsimp only
  repeat' first
    | with_reducible exact Steady.refl _
    | with_reducible refine Steady.onSys ?_ _
    | with_reducible refine (steady_startInternal _ _).after ?_
    | split

theorem steady_wakeTx (d : Dev) (p : Nat) : Steady d (d.wakeTx p) := by
  unfold Dev.wakeTx
  try dsimp only
  repeat' first
    | with_reducible exact Steady.refl _
    | with_reducible refine Steady.quadTx ?_ _ _
    | with_reducible refine Steady.onPort ?_ _ _ rfl
    | with_reducible refine (Steady.of_report (report_countPort _ _ _ _)).after ?_
    | with_reducible refine (steady_judgeBanks _).after ?_
    | with_reducible refine (steady_restartLpll _ _).after ?_
    | split

theorem steady_link (d : Dev) (p q : Nat) (l : Link) : Steady d (d.link p q l) := by
  unfold Dev.link
  try dsimp only
  repeat' first
    | with_reducible exact Steady.refl _
    | with_reducible refine (steady_judgeIdle _ _).after ?_
    | with_reducible refine (steady_onFrame _ _ _).after ?_
    | with_reducible refine (steady_setQueue _ _ _ _).after ?_
    | with_reducible refine (steady_wakeTx _ _).after ?_

theorem steady_redUpdate (d : Dev) (p q : Nat) : Steady d (d.redUpdate p q) := by
  unfold Dev.redUpdate
  try dsimp only
  repeat' first
    | with_reducible exact Steady.refl _
    | with_reducible refine Steady.onSw ?_ _ rfl
    | split

theorem steady_refuse (d : Dev) (p q cause : Nat) : Steady d (d.refuse p q cause) := by
  unfold Dev.refuse
  try dsimp only
  repeat' first
    | with_reducible exact Steady.refl _
    | with_reducible refine Steady.set ?_ _ _ _ (by decide)
    | with_reducible refine (Steady.of_report (report_countPort _ _ _ _)).after ?_
    | with_reducible refine (Steady.of_report (report_portEvent _ _ _ _ _)).after ?_

theorem steady_setTail (d : Dev) (p q : Nat) (t : Int) : Steady d (d.setTail p q t) := by
  unfold Dev.setTail
  try dsimp only
  repeat' first
    | with_reducible exact Steady.refl _
    | with_reducible refine Steady.onSw ?_ _ rfl

theorem steady_offer (d : Dev) (p q fid lc : Nat) (copy : Option Nat) : Steady d (d.offer p q fid lc copy).1 := by
  unfold Dev.offer
  try dsimp only
  repeat' first
    | with_reducible exact Steady.refl _
    | with_reducible refine Steady.spendFree ?_
    | with_reducible refine (Steady.of_report (report_portEvent _ _ _ _ _)).after ?_
    | with_reducible refine (steady_chargeFrame _ _ _ _).after ?_
    | with_reducible refine (steady_judgeIdle _ _).after ?_
    | with_reducible refine (steady_link _ _ _ _).after ?_
    | with_reducible refine (steady_onFrame _ _ _).after ?_
    | with_reducible refine (steady_redUpdate _ _ _).after ?_
    | with_reducible refine (steady_refuse _ _ _ _).after ?_
    | with_reducible refine (steady_setTail _ _ _ _).after ?_
    | with_reducible refine (steady_wakeTx _ _).after ?_
    | with_reducible refine Steady.when ?_ _ _ ?_
    | split

end Sys2Proof.Laws

/-! SUPPORT. Laws of the host's accesses while no other waits (R353 to R355): one access is received, and answered at once. -/

namespace Sys2Proof.Laws

open Sys2Proof.Machine Sys2Proof.Safety

section
variable {s : State}

/-- What an idle host link says of the endpoint. -/
theorem hostIdle_iff (d : Dev) : hostIdle d = true ↔
    d.pcie.ready = true ∧ d.pcie.indQueue = [] ∧ d.pcie.waiting = [] ∧ d.pcie.held = none := by
  simp only [hostIdle, Bool.and_eq_true, List.isEmpty_iff, Option.isNone_iff_eq_none, and_assoc]

theorem onPcie_get (d : Dev) (f : Pcie → Pcie) (g : Fld) (u : Nat) : (d.onPcie f).get g u = d.get g u := rfl

theorem onPcie_word (d : Dev) (f : Pcie → Pcie) (r : Reg) (u : Nat) : (d.onPcie f).word r u = d.word r u := rfl

theorem setWord_onPcie (d : Dev) (f : Pcie → Pcie) (r : Reg) (u : Nat) (w : Word) : (d.onPcie f).setWord r u w = (d.setWord r u w).onPcie f := rfl

theorem set_onPcie (d : Dev) (f : Pcie → Pcie) (g : Fld) (v u : Nat) : (d.onPcie f).set g v u = (d.set g v u).onPcie f := rfl

/-- The only access on the link is received at once. -/
theorem ask_of_idle (h : hostIdle s.dev = true) (a : HostAcc) : s.ask a = (s.receive a).goOn 5 := by
  obtain ⟨-, hqueue, hwaiting, hheld⟩ := (hostIdle_iff s.dev).1 h
  have hback : (s.onDev (·.onPcie (fun e => { e with waiting := e.waiting ++ [a] }))).dev.backlog = 6 := by
    simp only [Dev.backlog, onDev_dev, onPcie_pcie, hqueue, hwaiting, List.nil_append, List.length_nil, List.length_singleton]
  have hsame : (s.onDev (·.onPcie (fun e => { e with waiting := e.waiting ++ [a] }))).onDev (·.onPcie (fun e => { e with waiting := [] })) = s := by
    have hpcie : ({ s.dev.pcie with waiting := [] } : Pcie) = s.dev.pcie := by rw [← hwaiting]
    show { s with dev := { s.dev with pcie := { s.dev.pcie with waiting := [] } } } = s
    rw [hpcie]
  rw [State.ask, State.proceed, hback, State.goOn]
  simp only [onDev_dev, onPcie_pcie, hheld, hwaiting, hqueue, List.nil_append, List.length_nil, hsame]
  simp

/-- A host link with nothing to do goes no further. -/
theorem goOn_of_idle (n : Nat) (hwaiting : s.dev.pcie.waiting = []) (hheld : s.dev.pcie.held = none) : s.goOn n = s := by
  cases n with
  | zero => rfl
  | succ n => rw [State.goOn, hheld, hwaiting]

/-- A read that waits for nothing is completed, and no access follows. -/
theorem goOn_of_read (n : Nat) {x : HeldRead} (hqueue : s.dev.pcie.indQueue = []) (hheld : s.dev.pcie.held = some x)
    (hdone : (s.readOn x x.left).dev.pcie.held = none) (hwaiting : (s.readOn x x.left).dev.pcie.waiting = []) :
    s.goOn (n + 1) = s.readOn x x.left := by
  rw [State.goOn, hheld]
  simp only [hqueue, List.isEmpty_nil, if_true, hdone, Option.isSome_none, Bool.false_eq_true, if_false]
  exact goOn_of_idle n hwaiting hdone

/-- A read that the flash holds waits. -/
theorem goOn_of_held (n : Nat) {x : HeldRead} (hqueue : s.dev.pcie.indQueue = []) (hheld : s.dev.pcie.held = some x)
    (hwaits : (s.readOn x x.left).dev.pcie.held.isSome = true) : s.goOn (n + 1) = s.readOn x x.left := by
  rw [State.goOn, hheld]
  simp only [hqueue, List.isEmpty_nil, if_true, hwaits]

/-- The device while a read of the host waits. -/
def withHeld (s : State) (x : HeldRead) : State := s.onDev (·.onPcie (fun e => { e with held := some x }))

/-- A completed read: nothing is held, and its bytes go to the host. -/
def readDone (t : State) (x : HeldRead) (ws : List Word) : State :=
  t.onDev (fun d => (d.onPcie (fun e => { e with held := none })).emit (.readData (bytesOf ws x.skip x.size)))

/-- A read that waits and is completed leaves the endpoint as it was. -/
theorem releaseHeld (d : Dev) (h : d.pcie.held = none) (x : HeldRead) :
    (d.onPcie (fun e => { e with held := some x })).onPcie (fun e => { e with held := none }) = d := by
  have hpcie : ({ d.pcie with held := none } : Pcie) = d.pcie := by rw [← h]
  show { d with pcie := { d.pcie with held := none } } = d
  rw [hpcie]

/-- The read of a word that has a row of its own, of BAR0. -/
theorem ask_word_of_idle (h : hostIdle s.dev = true) (a : Nat)
    (hpcie : ((withHeld s ⟨[], [(16, a)], 0, 4⟩).hostRead 16 a).1.dev.pcie = { s.dev.pcie with held := some ⟨[], [(16, a)], 0, 4⟩ }) :
    s.ask (.word 16 a) = readDone ((withHeld s ⟨[], [(16, a)], 0, 4⟩).hostRead 16 a).1 ⟨[], [(16, a)], 0, 4⟩
      [((withHeld s ⟨[], [(16, a)], 0, 4⟩).hostRead 16 a).2] := by
  obtain ⟨-, hqueue, hwaiting, -⟩ := (hostIdle_iff s.dev).1 h
  have hread : (withHeld s ⟨[], [(16, a)], 0, 4⟩).readOn ⟨[], [(16, a)], 0, 4⟩ [(16, a)] =
      readDone ((withHeld s ⟨[], [(16, a)], 0, 4⟩).hostRead 16 a).1 ⟨[], [(16, a)], 0, 4⟩
        [((withHeld s ⟨[], [(16, a)], 0, 4⟩).hostRead 16 a).2] := rfl
  rw [ask_of_idle h]
  refine (goOn_of_read (s := withHeld s ⟨[], [(16, a)], 0, 4⟩) 4 hqueue rfl ?_ ?_).trans hread
  · rw [hread]
    rfl
  · rw [hread, readDone, onDev_dev, emit_pcie, onPcie_pcie, hpcie]
    exact hwaiting

theorem leNat_leBytes (n : Nat) (v : Nat) : leNat (leBytes n v) = v % 2 ^ (8 * n) := by
  induction n generalizing v with
  | zero => simp [leNat, leBytes, Nat.mod_one]
  | succ n ih =>
    have hstep : leNat (leBytes (n + 1) v) = leNat (leBytes n (v / 256)) * 256 + v % 256 := by
      simp [leNat, leBytes]
    rw [hstep, ih, show 2 ^ (8 * (n + 1)) = 256 * 2 ^ (8 * n) from by rw [Nat.mul_add, Nat.pow_add, Nat.mul_comm], Nat.mod_mul]
    omega

theorem bytesOf_low (w : Word) {n : Nat} (h : n ≤ 4) : bytesOf [w] 0 n = w.toNat % 2 ^ (8 * n) := by
  simp only [bytesOf, List.flatMap_cons, List.flatMap_nil, List.append_nil, leNat_leBytes, Nat.mul_zero, Nat.pow_zero, Nat.div_one]
  exact Nat.mod_mod_of_dvd _ (Nat.pow_dvd_pow 2 (by omega))

theorem bytesOf_word (w : Word) : bytesOf [w] 0 4 = w.toNat := (bytesOf_low w (by decide)).trans (Nat.mod_eq_of_lt w.isLt)

theorem askWord_of_down (sp a : Nat) (h : s.dev.pcie.ready = false) :
    s.askWord sp a = (s.readWord .fsp sp a).1.onDev (·.emit (.readData (s.readWord .fsp sp a).2.toNat)) := by
  rw [State.askWord, h, if_neg Bool.false_ne_true]

theorem hostRead_bar0 (a : Nat) : s.hostRead 16 a = s.readWord .host 16 a := by
  rw [State.hostRead, if_pos (Nat.le_refl 16)]

/-- A read that has changed the device by `f` alone is completed. -/
theorem readDone_of_read {f : Dev → Dev} (w : Word) (x : HeldRead) (hx : x.skip = 0 ∧ x.size = 4) (h : (f s.dev).pcie.held = none) :
    readDone (s.onDev (fun d => (f d).onPcie (fun e => { e with held := some x }))) x [w] =
      s.onDev (fun d => (f d).emit (.readData w.toNat)) := by
  rw [readDone, hx.1, hx.2, bytesOf_word]
  exact congrArg (fun e : Dev => ({ s with dev := e.emit (.readData w.toNat) } : State)) (releaseHeld (f s.dev) h x)

/-- A word of BAR0 whose read changes the device by `f` and never looks at the endpoint: the host's read of it, or a processor's. -/
theorem askWord_of_read {f : Dev → Dev} {a : Nat} {w : Word} (hlink : hostIdle s.dev = true ∨ s.dev.pcie.ready = false)
    (hpcie : (f s.dev).pcie = s.dev.pcie) (hplain : s.readWord .fsp 16 a = (s.onDev f, w))
    (hheld : ∀ x, (withHeld s x).hostRead 16 a = (s.onDev (fun d => (f d).onPcie (fun e => { e with held := some x })), w)) :
    s.askWord 16 a = s.onDev (fun d => (f d).emit (.readData w.toNat)) := by
  rcases hlink with hidle | hready
  · obtain ⟨hready, -, -, hnone⟩ := (hostIdle_iff s.dev).1 hidle
    rw [State.askWord, if_pos hready, ask_word_of_idle hidle a (by rw [hheld, onDev_dev, onPcie_pcie, hpcie]), hheld]
    exact readDone_of_read w _ ⟨rfl, rfl⟩ (by rw [hpcie, hnone])
  · rw [askWord_of_down _ _ hready, hplain]
    rfl

end

end Sys2Proof.Laws

/-! SUPPORT. Laws of the counters and of the Ring dumps: a count with and without a wrap, the fold of the latches, a skipped host record,
and a telemetry part (R384 to R395). -/

namespace Sys2Proof.Laws

open Sys2Proof.Machine Sys2Proof.Safety

section
variable (d : Dev) (i n : Nat)

/-! ## Counters -/

/-- A device with one counter set. -/
def withCounter (v : Word) : Dev := { d with counters := tabSet d.counters 0 i v }

@[simp] theorem withCounter_same (v : Word) : (withCounter d i v).counter i = v := tabGet_tabSet_same _ _ _ _

theorem withCounter_other (v : Word) {j : Nat} (h : j ≠ i) : (withCounter d i v).counter j = d.counter j := tabGet_tabSet_other _ _ _ _ h

variable {d i n}

/-- A count that does not wrap, or that no reserve takes up. -/
theorem bump_within (fuel : Nat) (h : (d.counter i).toNat + n < 2 ^ 32 ∨ d.reserveOf i = none) :
    d.bump i n fuel = withCounter d i (BitVec.ofNat 32 ((d.counter i).toNat + n)) := by
  unfold Dev.bump
  split
  · rfl
  · rcases h with h | h
    · simp only [h, if_true]
      rfl
    · simp only [h, ite_self]
      rfl

/-- A wrap counts in the reserve. -/
theorem bump_wraps {x : Nat} (fuel : Nat) (hx : d.reserveOf i = some x) (h : 2 ^ 32 ≤ (d.counter i).toNat + n) :
    d.bump i n (fuel + 1) = (withCounter d i (BitVec.ofNat 32 ((d.counter i).toNat + n))).bump x (((d.counter i).toNat + n) / 2 ^ 32) fuel := by
  rw [Dev.bump.eq_def]
  simp only [Nat.not_lt.2 h, if_false, hx]
  rfl

/-- The counter named is set and counts the events of the same cycle on top (R386). -/
theorem cntDataWrite_of_present {v : Word} (hidx : d.get F.CNT_IDX_IDX = i) (habsent : d.cntAbsent i = false) :
    d.cntDataWrite v n = (withCounter d i v).bump i n := by
  rw [Dev.cntDataWrite, hidx]
  simp only [habsent, Bool.false_eq_true, if_false]
  rfl

/-- A count without a wrap adds to its counter alone. -/
theorem bump_counter (fuel j : Nat) (h : (d.counter i).toNat + n < 2 ^ 32) :
    ((d.bump i n fuel).counter j).toNat = (d.counter j).toNat + if i = j then n else 0 := by
  rw [bump_within fuel (.inl h)]
  by_cases hj : j = i
  · subst hj
    rw [withCounter_same, if_pos rfl, BitVec.toNat_ofNat, Nat.mod_eq_of_lt h]
  · rw [withCounter_other _ _ _ hj, if_neg (Ne.symm hj), Nat.add_zero]

/-- The events that a list of latches holds for a counter. -/
def latchedFor (l : List (Nat × Nat)) (i : Nat) : Nat := ((l.filter (fun e => e.1 == i)).map Prod.snd).sum

theorem latchedFor_cons (e : Nat × Nat) (l : List (Nat × Nat)) (j : Nat) :
    latchedFor (e :: l) j = (if e.1 = j then e.2 else 0) + latchedFor l j := by
  by_cases h : e.1 = j <;> simp [latchedFor, h]

theorem foldl_bump_counter (l : List (Nat × Nat)) (d : Dev) (hfits : ∀ i, (d.counter i).toNat + latchedFor l i < 2 ^ 32) (i : Nat) :
    ((l.foldl (fun (d : Dev) (e : Nat × Nat) => d.bump e.1 e.2) d).counter i).toNat = (d.counter i).toNat + latchedFor l i := by
  induction l generalizing d with
  | nil => rfl
  | cons e l ih =>
    have hthis (j : Nat) := hfits j
    simp only [latchedFor_cons] at hthis
    have hnow : (d.counter e.1).toNat + e.2 < 2 ^ 32 := by
      have := hthis e.1
      rw [if_pos rfl] at this
      omega
    have hstep (j : Nat) := bump_counter (d := d) 256 j hnow
    rw [List.foldl_cons, ih (d.bump e.1 e.2) (fun j => by rw [hstep]; have := hthis j; omega), hstep, latchedFor_cons]
    omega

/-! ## CNT_CFG -/

theorem testBit_maskCfg {k : Nat} (h : k < 12 ∨ (16 ≤ k ∧ k < 32)) : (0xFFFF0FFF : Nat).testBit k = true := by
  have hall : ∀ k < 32, (k < 12 ∨ 16 ≤ k) → (0xFFFF0FFF : Nat).testBit k = true := by decide
  exact hall k (by omega) (by omega)

/-- The mask of a CNT_CFG write keeps its fields. -/
theorem bitsOf_maskCfg (v : Word) {lo width : Nat} (h : (lo = 0 ∧ width = 12) ∨ (lo = 16 ∧ width = 16)) :
    bitsOf (v &&& 0xFFFF0FFF#32).toNat lo width = bitsOf v.toNat lo width := by
  have hmask : (0xFFFF0FFF#32).toNat = 0xFFFF0FFF := rfl
  apply Nat.eq_of_testBit_eq
  intro k
  simp only [bitsOf, BitVec.toNat_and, hmask, Nat.testBit_mod_two_pow, Nat.testBit_div_two_pow, Nat.testBit_and]
  by_cases hk : k < width
  · rw [testBit_maskCfg (k := k + lo) (by omega), Bool.and_true]
  · simp [hk]

theorem cfgEvent_mask (v : Word) : cfgEvent (v &&& 0xFFFF0FFF#32) = bitsOf v.toNat 0 12 := bitsOf_maskCfg v (.inl ⟨rfl, rfl⟩)
theorem cfgIndex_mask (v : Word) : cfgIndex (v &&& 0xFFFF0FFF#32) = bitsOf v.toNat 16 16 := bitsOf_maskCfg v (.inr ⟨rfl, rfl⟩)

/-- A device with the selection of one counter set. -/
def withCntCfg (d : Dev) (i : Nat) (w : Word) : Dev := { d with cntCfg := tabSet d.cntCfg (cntCfgReset i) i w }

@[simp] theorem withCntCfg_same (w : Word) : (withCntCfg d i w).cntCfgOf i = w := tabGet_tabSet_same _ _ _ _

theorem cntCfgWrite_eq {v : Word} (hidx : d.get F.CNT_IDX_IDX = i) (habsent : d.cntAbsent i = false) : d.cntCfgWrite v =
    if isReserve i then
      (if chainOk d.cntCfg i (bitsOf v.toNat 0 12) then withCntCfg d i (v &&& 0xFFFF0FFF#32) else d.set F.RING_STAT_CFG_REJ 1)
    else if isSelectable i then
      (if (eventCodes (decide (i < 3072))).contains (bitsOf v.toNat 0 12) then withCntCfg d i (v &&& 0xFFFF0FFF#32)
      else d.set F.RING_STAT_CFG_REJ 1)
    else d := by
  rw [Dev.cntCfgWrite, hidx]
  simp only [habsent, Bool.false_eq_true, if_false, cfgEvent_mask]
  rfl

/-! ## Boundaries -/

/-- A boundary of the running fast domain folds the latches in and takes the snapshot of the counters. -/
theorem ringBoundary_of_on (hany : d.anyActive = true) (hon : d.fastOn = true) :
    d.ringBoundary.latches = d.foldLatches.latches ∧ d.ringBoundary.counters = d.foldLatches.counters ∧
    d.ringBoundary.ring.seq = (d.foldLatches.ring.seq + 1) % 2 ^ 32 ∧ d.ringBoundary.ring.previous = d.foldLatches.ring.latest ∧
    d.ringBoundary.ring.missed = 0 ∧ d.ringBoundary.ring.dest = d.foldLatches.ringDest ∧
    ∃ y, d.ringBoundary.ring.latest = some y ∧ y.seq = d.foldLatches.ring.seq ∧ y.missed = d.foldLatches.ring.missed ∧
      y.counters = d.foldLatches.counters ∧ y.k = d.foldLatches.ringK := by
  rw [Dev.ringBoundary]
  simp only [hany, hon, Bool.not_true, Bool.false_eq_true, if_false, true_and]
  exact ⟨_, rfl, rfl, rfl, rfl, rfl⟩

theorem foldLatches_eq (d : Dev) : d.foldLatches = d.latches.foldl (fun (d : Dev) (e : Nat × Nat) => d.bump e.1 e.2) { d with latches := [] } := rfl

theorem foldLatches_latches (d : Dev) : d.foldLatches.latches = [] := by
  have hfold : Only [.counters] [] ({ d with latches := [] } : Dev) d.foldLatches := .each .refl _ _ (fun e _ => only_bump e _ _ _)
  exact hfold.part .latches (by decide)

theorem only_foldLatches_ring (d : Dev) : d.foldLatches.ring = d.ring := (only_foldLatches d).part .ring (by decide)

theorem Only.ringDest {P : List Part} {R : List Reg} {d e : Dev} (h : Only P R d e)
    (hr : ∀ r ∈ [Reg.RING_HOST_BASE_HI, .RING_HOST_BASE_LO, .RING_HOST_ENTRIES, .RING_TEL_CFG, .RING_TEL_DA_HI, .RING_TEL_DA_LO], r ∉ R) :
    e.ringDest = d.ringDest := by
  unfold Dev.ringDest
  rw [h.get F.RING_HOST_BASE_HI_BASE 0 (hr _ (by decide)), h.get F.RING_HOST_BASE_LO_BASE 0 (hr _ (by decide)),
    h.get F.RING_HOST_ENTRIES_ENTRIES 0 (hr _ (by decide)), h.word .RING_TEL_CFG 0 (hr _ (by decide)),
    h.word .RING_TEL_DA_HI 0 (hr _ (by decide)), h.word .RING_TEL_DA_LO 0 (hr _ (by decide))]

theorem foldLatches_ringDest (d : Dev) : d.foldLatches.ringDest = d.ringDest := Only.ringDest (only_foldLatches d) (by decide)

theorem foldLatches_ringK (d : Dev) : d.foldLatches.ringK = d.ringK := by
  unfold Dev.ringK
  rw [(only_foldLatches d).get F.RING_CTRL_K 0 (by decide), (only_foldLatches d).now (by decide) (by decide) (by decide),
    only_foldLatches_ring]

/-! ## The host ring -/

/-- The Ring engine with no record due for the host. -/
def hostServed (d : Dev) : Dev := { d with ring := { d.ring with hostDue := false } }

/-- HEAD and TAIL of the ring that the boundary found. -/
def ringEnds (d : Dev) : Nat × Nat := d.ring.dest.moved.getD (d.get F.RING_HOST_HEAD_HEAD, d.get F.RING_HOST_TAIL_TAIL)

/-- The host cannot be written, or its ring is full. -/
def hostBarred (d : Dev) : Bool :=
  decide (((ringEnds d).1 + 1) % d.ring.dest.entries = (ringEnds d).2 % d.ring.dest.entries) || !d.flag F.GLB_HOST_STAT_BME ||
    !d.flag F.GLB_HOST_STAT_LINK_UP

theorem hostRing_of_barred {x : Snapshot} (hdue : d.ring.hostDue = true) (hlatest : d.ring.latest = some x) (h : hostBarred d = true) :
    d.hostRing = (hostServed d).skipHost := by
  unfold Dev.hostRing
  rw [hdue, hlatest]
  exact if_pos h

/-- The record is written at HEAD, which advances where the ring has not been placed anew. -/
def recordSent (d : Dev) (x : Snapshot) : Dev :=
  ((hostServed d).emit (.hostRecord (d.ring.dest.base + (ringEnds d).1 * recordLen) x)).when d.ring.dest.moved.isNone
    (·.set F.RING_HOST_HEAD_HEAD (((ringEnds d).1 + 1) % d.ring.dest.entries))

theorem hostRing_of_free {x : Snapshot} (hdue : d.ring.hostDue = true) (hlatest : d.ring.latest = some x) (h : hostBarred d = false) :
    d.hostRing = (recordSent d x).msix 8 := by
  unfold Dev.hostRing
  rw [hdue, hlatest]
  exact if_neg (Bool.eq_false_iff.1 h)

theorem mem_sent_of_report {e : Dev} {x : Emit} (h : ∃ l, e.sent = d.sent ++ l) (hx : x ∈ d.sent) : x ∈ e.sent := by
  obtain ⟨l, hl⟩ := h
  rw [hl]
  exact List.mem_append_left l hx

theorem msix_sent (v : Nat) : ∃ l, (d.msix v).sent = d.sent ++ l := by
  unfold Dev.msix Dev.sendMsix
  repeat' split
  · exact ⟨[], (List.append_nil _).symm⟩
  · exact ⟨_, rfl⟩
  · exact ⟨[], (List.append_nil _).symm⟩
  · exact ⟨[], (List.append_nil _).symm⟩

theorem recordSent_sent (x : Snapshot) : Emit.hostRecord (d.ring.dest.base + (ringEnds d).1 * recordLen) x ∈ (recordSent d x).sent := by
  unfold recordSent
  cases d.ring.dest.moved.isNone <;> exact List.mem_append_right _ (List.mem_singleton.2 rfl)

theorem hostDue_of_report {e : Dev} (h : Report d e) : e.ring.hostDue = d.ring.hostDue := by
  obtain ⟨b, hb⟩ := h.ring
  rw [hb]

/-! ## Telemetry -/

/-- Telemetry has a port that takes its parts. -/
def TelReady (d : Dev) : Prop :=
  d.portUp (d.telGet F.RING_TEL_CFG_TEL_PORT) = true ∧ d.hasPort (d.telGet F.RING_TEL_CFG_TEL_PORT) = true ∧
    d.bounded (d.telGet F.RING_TEL_CFG_TEL_PORT) (d.telGet F.RING_TEL_CFG_TEL_TC) = false

theorem Steady.telGet {e : Dev} (h : Steady d e) (f : Fld) : e.telGet f = d.telGet f := by
  have hdest : (ringCore e.ring).dest = (ringCore d.ring).dest := congrArg Ring.dest h.ring
  exact congrArg (fun x : RingDest => f.of x.telCfg) hdest

theorem Steady.telDue {e : Dev} (h : Steady d e) : e.ring.telDue = d.ring.telDue := by
  have hdue : (ringCore e.ring).telDue = (ringCore d.ring).telDue := congrArg Ring.telDue h.ring
  exact hdue

theorem TelReady.steady {P : List Part} {R : List Reg} {e : Dev} (h : TelReady d) (k : Only P R d e) (hident : .ident ∉ P)
    (hcfg : .PRT_Q_CFG ∉ R) (hs : Steady d e) : TelReady e := by
  obtain ⟨hup, hport, hbounded⟩ := h
  refine ⟨by rw [hs.telGet, hs.portUp, hup], ?_, ?_⟩
  · rw [hs.telGet, Dev.hasPort, Dev.portCount, Dev.small, k.part .ident hident]
    exact hport
  · rw [hs.telGet, hs.telGet, Dev.bounded, k.flag F.PRT_Q_CFG_BOUNDED _ hcfg]
    exact hbounded

theorem steady_giveCells (d : Dev) (f n : Nat) : Steady d (d.giveCells f n) := by
  unfold Dev.giveCells Dev.useSlots
  exact ((Steady.refl d).onSw _ rfl).trans ((steady_onFrame _ _ _).trans (.of_only (P := [.freeCtr]) (R := [])
    (Only.refl.upd_freeCtr _ (by decide)) (by decide)))

/-- A part that the port takes has the next number, whether its queue takes it or not. -/
theorem telPart_of_ready (h : TelReady d) (s : Snapshot) (parts count part : Nat) :
    Steady (d.onSw (fun x => { x with nextFid := d.sw.nextFid + 1 })) (d.telPart s parts count part) := by
  obtain ⟨hup, hport, hbounded⟩ := h
  unfold Dev.telPart
  dsimp only
  rw [if_neg (by simp [hup, hport, hbounded])]
  split
  next e he =>
    refine Steady.trans (d := (e, true).1) ?_ (steady_judgeBanks _)
    rw [← he]
    exact ((steady_setFrame _ _ _).trans (steady_giveCells _ _ _)).trans (steady_offer _ _ _ _ _ _)
  next e he =>
    refine Steady.trans (d := (e, false).1) ?_ (((steady_setFrame _ _ _).trans (.of_report (report_countDev _ _ _))).trans (steady_judgeBanks _))
    rw [← he]
    exact ((steady_setFrame _ _ _).trans (steady_giveCells _ _ _)).trans (steady_offer _ _ _ _ _ _)

theorem telPart_ready (h : TelReady d) (s : Snapshot) (parts count part : Nat) : TelReady (d.telPart s parts count part) := by
  have hnumbered : TelReady (d.onSw (fun x => { x with nextFid := d.sw.nextFid + 1 })) := h
  have hsame : Only [.syns, .outs, .counters, .latches, .ring, .log, .pcie, .sw, .ports, .sys, .sent, .freeCtr]
      [.ALM_ACTIVE, .ALM_LATCH, .LANE_QUAD_STAT, .OUT_STAT, .PRT_Q_STAT, .PWR_STAT, .SW_BUF_GATED, .SYN_CMD, .SYN_STAT] d
      (d.telPart s parts count part) := only_telPart d s parts count part
  obtain ⟨hup, hport, hbounded⟩ := h
  have hs := telPart_of_ready ⟨hup, hport, hbounded⟩ s parts count part
  refine ⟨by rw [hs.telGet, hs.portUp]; exact hup, ?_, ?_⟩
  · rw [hs.telGet, Dev.hasPort, Dev.portCount, Dev.small, hsame.part .ident (by decide)]
    exact hport
  · rw [hs.telGet, hs.telGet, Dev.bounded, hsame.flag F.PRT_Q_CFG_BOUNDED _ (by decide)]
    exact hbounded

theorem each_telPart_of_ready (s : Snapshot) (parts count : Nat) (l : List Nat) (d : Dev) (h : TelReady d) :
    (d.each l (fun d i => d.telPart s parts count i)).sw.nextFid = d.sw.nextFid + l.length ∧
    (d.each l (fun d i => d.telPart s parts count i)).ring.telDue = d.ring.telDue := by
  induction l generalizing d with
  | nil => exact ⟨rfl, rfl⟩
  | cons i l ih =>
    obtain ⟨hfid, hdue⟩ := ih _ (telPart_ready h s parts count i)
    have hs := telPart_of_ready h s parts count i
    refine ⟨hfid.trans ?_, hdue.trans hs.telDue⟩
    rw [hs.nextFid, List.length_cons]
    show d.sw.nextFid + 1 + l.length = _
    omega

/-- Telemetry for a port that is down is counted and leaves the switch as it is. -/
theorem telPart_of_down (h : d.portUp (d.telGet F.RING_TEL_CFG_TEL_PORT) = false) (s : Snapshot) (parts count part : Nat) :
    d.telPart s parts count part = d.countDev 313 := by
  unfold Dev.telPart
  dsimp only
  exact if_pos (by simp [h])

theorem each_telPart_of_down (s : Snapshot) (parts count : Nat) (l : List Nat) (d : Dev)
    (h : d.portUp (d.telGet F.RING_TEL_CFG_TEL_PORT) = false) :
    (d.each l (fun d i => d.telPart s parts count i)).sw.queues = d.sw.queues ∧
    (d.each l (fun d i => d.telPart s parts count i)).ring.telDue = d.ring.telDue := by
  induction l generalizing d with
  | nil => exact ⟨rfl, rfl⟩
  | cons i l ih =>
    have hs : Steady d (d.telPart s parts count i) := by
      rw [telPart_of_down h]
      exact .of_report (report_countDev _ _ _)
    obtain ⟨hqueues, hdue⟩ := ih _ (show (d.telPart s parts count i).portUp _ = false by rw [hs.telGet, hs.portUp, h])
    refine ⟨hqueues.trans ?_, hdue.trans hs.telDue⟩
    rw [telPart_of_down h, (report_countDev d 313 1).sw]

theorem judgeBanks_queues (d : Dev) : d.judgeBanks.sw.queues = d.sw.queues := by
  have hrest (e : Dev) (l : List Nat) : ((e.setGated l).judgeBuf).sw = e.sw :=
    (show Only reports (alarmRegs ++ [.SW_BUF_GATED, .PWR_STAT]) e _ from
      (Only.refl.setGated l (by decide) (by decide)).judgeBuf (by decide) (by decide)).part .sw (by decide)
  have hstop (e : Dev) : e.stopDrain.sw = e.sw := (only_stopDrain e).part .sw (by decide)
  unfold Dev.judgeBanks
  dsimp only
  split
  · rfl
  · split
    · rw [hrest, hstop]
    · have hneed (n : Nat) : (((d.when (d.sw.nReq < n) Dev.stopDrain).onSw (fun s => { s with nReq := n })).sw).queues = d.sw.queues := by
        show (d.when (d.sw.nReq < n) Dev.stopDrain).sw.queues = d.sw.queues
        rw [when_keeps d (fun e => e.sw) _ Dev.stopDrain (hstop d)]
      split
      · exact hneed _
      · rw [hrest, hneed]

/-- The Ring engine with no telemetry due. -/
def telServed (d : Dev) : Dev := { d with ring := { d.ring with telDue := false } }

/-- The number of telemetry parts, as the boundary has found it. -/
def telParts (d : Dev) : Nat := if d.telGet F.RING_TEL_CFG_PART_WORDS = 1 then 4 else 16

theorem telemetry_of_due {x : Snapshot} (hdue : d.ring.telDue = true) (hlatest : d.ring.latest = some x) : d.telemetry =
    ((telServed d).each (List.range (telParts d)) (fun e i => e.telPart x (telParts d) (4096 / telParts d) i)).judgeBanks := by
  unfold Dev.telemetry
  rw [hdue, hlatest]
  rfl

end

end Sys2Proof.Laws

namespace Sys2Proof.Proofs

open Sys2Proof.Machine Sys2Proof.Safety Sys2Proof.Laws

section
variable {s : State} {i n : Nat} {v : Word}

theorem completes_cntDataWrite (hreach : s.dev.fastReach = true) (hidx : s.dev.get F.CNT_IDX_IDX = i) (habsent : s.dev.cntAbsent i = false)
    (hwrap : v.toNat + n < 2 ^ 32 ∨ s.dev.reserveOf i = none) : Completes (.cntDataWrite v n) s (fun t =>
      t.dev.counter i = BitVec.ofNat 32 (v.toNat + n) ∧ (∀ j, j ≠ i → t.dev.counter j = s.dev.counter j) ∧ Frame [.counters] [] s t) := by
  have hdev : (s.onDev (·.reachFast (·.cntDataWrite v n))).dev = withCounter (withCounter s.dev i v) i (BitVec.ofNat 32 (v.toNat + n)) := by
    rw [onDev_dev, Dev.reachFast, hreach, if_pos rfl, cntDataWrite_of_present hidx habsent, bump_within, withCounter_same]
    rwa [withCounter_same]
  refine completes_of_next rfl ⟨?_, fun j hj => ?_, ?_, rfl, rfl⟩
  · rw [hdev, withCounter_same]
  · rw [hdev, withCounter_other _ _ _ hj, withCounter_other _ _ _ hj]
  · rw [hdev]
    exact (Only.refl.upd_counters _ (by decide)).upd_counters _ (by decide)

theorem completes_cntDataWrite_wrap {x : Nat} (hreach : s.dev.fastReach = true) (hidx : s.dev.get F.CNT_IDX_IDX = i)
    (habsent : s.dev.cntAbsent i = false) (hx : s.dev.reserveOf i = some x) (hne : x ≠ i) (hwrap : 2 ^ 32 ≤ v.toNat + n)
    (hroom : (s.dev.counter x).toNat + (v.toNat + n) / 2 ^ 32 < 2 ^ 32) : Completes (.cntDataWrite v n) s (fun t =>
      t.dev.counter i = BitVec.ofNat 32 (v.toNat + n) ∧
      t.dev.counter x = s.dev.counter x + BitVec.ofNat 32 ((v.toNat + n) / 2 ^ 32) ∧
      (∀ j, j ≠ i → j ≠ x → t.dev.counter j = s.dev.counter j) ∧ Frame [.counters] [] s t) := by
  have hsum : ((withCounter s.dev i v).counter i).toNat + n = v.toNat + n := by rw [withCounter_same]
  have hmark : ((withCounter (withCounter s.dev i v) i (BitVec.ofNat 32 (v.toNat + n))).counter x) = s.dev.counter x := by
    rw [withCounter_other _ _ _ hne, withCounter_other _ _ _ hne]
  have hdev : (s.onDev (·.reachFast (·.cntDataWrite v n))).dev =
      withCounter (withCounter (withCounter s.dev i v) i (BitVec.ofNat 32 (v.toNat + n))) x
        (BitVec.ofNat 32 ((s.dev.counter x).toNat + (v.toNat + n) / 2 ^ 32)) := by
    rw [onDev_dev, Dev.reachFast, hreach, if_pos rfl, cntDataWrite_of_present hidx habsent, show (256 : Nat) = 255 + 1 from rfl,
      bump_wraps (d := withCounter s.dev i v) 255 hx (hsum ▸ hwrap), hsum,
      bump_within 255 (.inl (by rw [hmark]; exact hroom)), hmark]
  refine completes_of_next rfl ⟨?_, ?_, fun j hj hjx => ?_, ?_, rfl, rfl⟩
  · rw [hdev, withCounter_other _ _ _ (Ne.symm hne), withCounter_same]
  · rw [hdev, withCounter_same, BitVec.ofNat_add, BitVec.ofNat_toNat, BitVec.setWidth_eq]
  · rw [hdev, withCounter_other _ _ _ hjx, withCounter_other _ _ _ hj, withCounter_other _ _ _ hj]
  · rw [hdev]
    exact ((Only.refl.upd_counters _ (by decide)).upd_counters _ (by decide)).upd_counters _ (by decide)

theorem readReg_cntData (hidx : s.dev.get F.CNT_IDX_IDX = i) : s.dev.readReg .CNT_DATA 0 = s.dev.counter i := by
  have habsent : s.dev.absent .CNT_DATA 0 = false := Bool.and_false _
  rw [Dev.readReg, habsent, ← hidx]
  rfl

/-- A CNT_CFG write that is taken. -/
theorem completes_cntCfg_taken (hreach : s.dev.fastReach = true) (h : s.dev.cntCfgWrite v = withCntCfg s.dev i (v &&& 0xFFFF0FFF#32)) :
    Completes (.cntCfgWrite v) s (fun t => cfgEvent (t.dev.cntCfgOf i) = bitsOf v.toNat 0 12 ∧
      cfgIndex (t.dev.cntCfgOf i) = bitsOf v.toNat 16 16 ∧ Frame [.cntCfg] [] s t) := by
  have hdev : (s.onDev (·.reachFast (·.cntCfgWrite v))).dev = withCntCfg s.dev i (v &&& 0xFFFF0FFF#32) := by
    rw [onDev_dev, Dev.reachFast, hreach, if_pos rfl, h]
  refine completes_of_next rfl ⟨?_, ?_, ?_, rfl, rfl⟩
  · rw [hdev, withCntCfg_same, cfgEvent_mask]
  · rw [hdev, withCntCfg_same, cfgIndex_mask]
  · rw [hdev]
    exact .upd_cntCfg .refl _ (by decide)

/-- A CNT_CFG write that is not allowed. -/
theorem completes_cntCfg_refused (hreach : s.dev.fastReach = true) (h : s.dev.cntCfgWrite v = s.dev.set F.RING_STAT_CFG_REJ 1) :
    Completes (.cntCfgWrite v) s (fun t => t.dev.flag F.RING_STAT_CFG_REJ = true ∧ Frame [] [.RING_STAT] s t) := by
  have hdev : (s.onDev (·.reachFast (·.cntCfgWrite v))).dev = s.dev.set F.RING_STAT_CFG_REJ 1 := by
    rw [onDev_dev, Dev.reachFast, hreach, if_pos rfl, h]
  refine completes_of_next rfl ⟨?_, ?_, rfl, rfl⟩
  · rw [hdev, Dev.flag, get_set_same _ _ _ _ (by decide)]
    rfl
  · rw [hdev]
    exact .set .refl _ _ _ (by decide)

theorem completes_cntCfgWrite (hreach : s.dev.fastReach = true) (hidx : s.dev.get F.CNT_IDX_IDX = i) (habsent : s.dev.cntAbsent i = false) :
    (isReserve i = false → isSelectable i = true → (eventCodes (decide (i < 3072))).contains (bitsOf v.toNat 0 12) = true →
      Completes (.cntCfgWrite v) s (fun t => cfgEvent (t.dev.cntCfgOf i) = bitsOf v.toNat 0 12 ∧
        cfgIndex (t.dev.cntCfgOf i) = bitsOf v.toNat 16 16 ∧ Frame [.cntCfg] [] s t)) ∧
    (isReserve i = false → isSelectable i = true → (eventCodes (decide (i < 3072))).contains (bitsOf v.toNat 0 12) = false →
      Completes (.cntCfgWrite v) s (fun t => t.dev.flag F.RING_STAT_CFG_REJ = true ∧ Frame [] [.RING_STAT] s t)) ∧
    (isReserve i = true → chainOk s.dev.cntCfg i (bitsOf v.toNat 0 12) = true → Completes (.cntCfgWrite v) s (fun t =>
      cfgEvent (t.dev.cntCfgOf i) = bitsOf v.toNat 0 12 ∧ Frame [.cntCfg] [] s t)) ∧
    (isReserve i = true → chainOk s.dev.cntCfg i (bitsOf v.toNat 0 12) = false → Completes (.cntCfgWrite v) s (fun t =>
      t.dev.flag F.RING_STAT_CFG_REJ = true ∧ Frame [] [.RING_STAT] s t)) ∧
    (isReserve i = false → isSelectable i = false → Completes (.cntCfgWrite v) s (fun t => t = s)) := by
  have heq := cntCfgWrite_eq (v := v) hidx habsent
  refine ⟨fun hr hs hc => ?_, fun hr hs hc => ?_, fun hr hc => ?_, fun hr hc => ?_, fun hr hs => ?_⟩ <;>
    simp only [hr, Bool.false_eq_true, if_false, if_true] at heq
  · simp only [hs, hc, if_true] at heq
    exact completes_cntCfg_taken hreach heq
  · simp only [hs, hc, if_true, Bool.false_eq_true, if_false] at heq
    exact completes_cntCfg_refused hreach heq
  · simp only [hc, if_true] at heq
    obtain ⟨t, hexec, hevent, -, hframe⟩ := completes_cntCfg_taken hreach heq
    exact ⟨t, hexec, hevent, hframe⟩
  · simp only [hc, Bool.false_eq_true, if_false] at heq
    exact completes_cntCfg_refused hreach heq
  · simp only [hs, Bool.false_eq_true, if_false] at heq
    refine completes_of_next rfl ?_
    show { s with dev := s.dev.reachFast (·.cntCfgWrite v) } = s
    rw [Dev.reachFast, hreach, if_pos rfl, heq]

end

section
variable {s : State} {x : Snapshot} {n h a : Nat}

theorem completes_ringBoundary (hany : s.dev.anyActive = true) (hon : s.dev.fastOn = true) :
    Completes .ringBoundary s (fun t => t.dev.latches = [] ∧
      t.dev.ring.seq = (s.dev.ring.seq + 1) % 2 ^ 32 ∧ t.dev.ring.previous = s.dev.ring.latest ∧ t.dev.ring.missed = 0 ∧
      t.dev.counters = (s.dev.latches.foldl (fun (d : Dev) (e : Nat × Nat) => d.bump e.1 e.2) { s.dev with latches := [] }).counters ∧
      ((∀ i, (s.dev.counter i).toNat + ((s.dev.latches.filter (fun e => e.1 == i)).map Prod.snd).sum < 2 ^ 32) →
        ∀ i, (t.dev.counter i).toNat = (s.dev.counter i).toNat + ((s.dev.latches.filter (fun e => e.1 == i)).map Prod.snd).sum) ∧
      t.dev.ring.dest = s.dev.ringDest ∧
      ∃ y, t.dev.ring.latest = some y ∧ y.seq = s.dev.ring.seq ∧ y.missed = s.dev.ring.missed ∧ y.counters = t.dev.counters ∧
        y.k = s.dev.ringK) := by
  obtain ⟨hlatches, hcounters, hseq, hprevious, hmissed, hdest, y, hy, hyseq, hymissed, hycounters, hyk⟩ := ringBoundary_of_on hany hon
  have hring := only_foldLatches_ring s.dev
  refine completes_of_next rfl ?_
  rw [onDev_dev]
  refine ⟨hlatches.trans (foldLatches_latches _), by rw [hseq, hring], by rw [hprevious, hring], hmissed,
    by rw [hcounters, foldLatches_eq], fun hfits i => ?_, hdest.trans (foldLatches_ringDest _), y, hy, by rw [hyseq, hring],
    by rw [hymissed, hring], hycounters.trans hcounters.symm, hyk.trans (foldLatches_ringK _)⟩
  have hcount : s.dev.ringBoundary.counter i = s.dev.foldLatches.counter i := congrArg (fun c => tabGet c 0 i) hcounters
  rw [hcount, foldLatches_eq]
  exact foldl_bump_counter s.dev.latches { s.dev with latches := [] } hfits i

theorem completes_ringBoundary_off (hany : s.dev.anyActive = true) (hon : s.dev.fastOn = false) :
    Completes .ringBoundary s (fun t => t.dev.ring = { s.dev.ring with missedOff := s.dev.ring.missedOff + 1 } ∧ Frame [.ring] [] s t) := by
  have hdev : s.dev.ringBoundary = { s.dev with ring := { s.dev.ring with missedOff := s.dev.ring.missedOff + 1 } } := by
    rw [Dev.ringBoundary]
    simp only [hany, hon, Bool.not_true, Bool.not_false, Bool.false_eq_true, if_false, if_true]
  refine completes_of_next rfl ⟨?_, ?_, rfl, rfl⟩
  · rw [onDev_dev, hdev]
  · rw [onDev_dev, hdev]
    exact .upd_ring .refl _ (by decide)

/-- What a record written to the host shows. -/
theorem completes_hostRing (hdue : s.dev.ring.hostDue = true) (hlatest : s.dev.ring.latest = some x) (hfree : hostBarred s.dev = false) :
    Completes .hostRingWrite s (fun t => t.dev.get F.RING_HOST_HEAD_HEAD = (recordSent s.dev x).get F.RING_HOST_HEAD_HEAD ∧
      t.dev.ring.hostDue = false ∧ Emit.hostRecord (s.dev.ring.dest.base + (ringEnds s.dev).1 * recordLen) x ∈ t.dev.sent) := by
  refine completes_of_next rfl ?_
  rw [onDev_dev, hostRing_of_free hdue hlatest hfree]
  refine ⟨(report_msix _ _).get _ _ rfl, ?_, mem_sent_of_report (msix_sent 8) (recordSent_sent x)⟩
  rw [hostDue_of_report (report_msix _ _)]
  exact when_keeps _ (fun e => e.ring.hostDue) _ _ rfl

theorem completes_hostRing_moved {g l : Nat} (hdue : s.dev.ring.hostDue = true) (hlatest : s.dev.ring.latest = some x)
    (hn : s.dev.ring.dest.entries = n) (hmoved : s.dev.ring.dest.moved = some (g, l)) (hroom : (g + 1) % n ≠ l % n)
    (hbme : s.dev.flag F.GLB_HOST_STAT_BME = true) (hup : s.dev.flag F.GLB_HOST_STAT_LINK_UP = true) :
    Completes .hostRingWrite s (fun t =>
      t.dev.get F.RING_HOST_HEAD_HEAD = s.dev.get F.RING_HOST_HEAD_HEAD ∧ t.dev.ring.hostDue = false ∧
      Emit.hostRecord (s.dev.ring.dest.base + g * recordLen) x ∈ t.dev.sent) := by
  have hends : ringEnds s.dev = (g, l) := by rw [ringEnds, hmoved, Option.getD_some]
  have hfree : hostBarred s.dev = false := by simp [hostBarred, hends, hn, hroom, hbme, hup]
  obtain ⟨t, hexec, hhead, hserved, hsent⟩ := completes_hostRing hdue hlatest hfree
  rw [hends] at hsent
  refine ⟨t, hexec, hhead.trans ?_, hserved, hsent⟩
  rw [recordSent, hmoved]
  rfl

theorem completes_hostRing_head (hdue : s.dev.ring.hostDue = true) (hlatest : s.dev.ring.latest = some x)
    (hn : s.dev.ring.dest.entries = n) (hmoved : s.dev.ring.dest.moved = none) (hh : s.dev.get F.RING_HOST_HEAD_HEAD = h) (hpos : 0 < n)
    (hbound : n ≤ 4096) (hroom : (h + 1) % n ≠ s.dev.get F.RING_HOST_TAIL_TAIL % n)
    (hbme : s.dev.flag F.GLB_HOST_STAT_BME = true) (hup : s.dev.flag F.GLB_HOST_STAT_LINK_UP = true) :
    Completes .hostRingWrite s (fun t => t.dev.get F.RING_HOST_HEAD_HEAD = (h + 1) % n ∧
      t.dev.ring.hostDue = false ∧ Emit.hostRecord (s.dev.ring.dest.base + h * recordLen) x ∈ t.dev.sent) := by
  have hends : ringEnds s.dev = (h, s.dev.get F.RING_HOST_TAIL_TAIL) := by rw [ringEnds, hmoved, hh, Option.getD_none]
  have hfree : hostBarred s.dev = false := by simp [hostBarred, hends, hn, hroom, hbme, hup]
  obtain ⟨t, hexec, hhead, hserved, hsent⟩ := completes_hostRing hdue hlatest hfree
  rw [hends] at hsent
  refine ⟨t, hexec, hhead.trans ?_, hserved, hsent⟩
  have hlt : (h + 1) % n < 2 ^ F.RING_HOST_HEAD_HEAD.width := Nat.lt_of_lt_of_le (Nat.mod_lt _ hpos) hbound
  rw [recordSent, hmoved, Option.isNone_none, when_true, get_set_same _ _ _ _ (by decide), hends, hn, Nat.mod_eq_of_lt hlt]

theorem completes_hostRing_skipped (hdue : s.dev.ring.hostDue = true) (hlatest : s.dev.ring.latest = some x)
    (hn : s.dev.ring.dest.entries = n) (hmoved : s.dev.ring.dest.moved = none) (hh : s.dev.get F.RING_HOST_HEAD_HEAD = h)
    (hbad : (h + 1) % n = s.dev.get F.RING_HOST_TAIL_TAIL % n ∨ s.dev.flag F.GLB_HOST_STAT_BME = false ∨
      s.dev.flag F.GLB_HOST_STAT_LINK_UP = false) : Completes .hostRingWrite s (fun t =>
        t.dev.get F.RING_HOST_HEAD_HEAD = h ∧ t.dev.ring.hostDue = false ∧ latched t.dev .ringUndelivered = true) := by
  have hends : ringEnds s.dev = (h, s.dev.get F.RING_HOST_TAIL_TAIL) := by rw [ringEnds, hmoved, hh, Option.getD_none]
  have hbarred : hostBarred s.dev = true := by
    simp only [hostBarred, hends, hn, Bool.or_eq_true, decide_eq_true_eq, Bool.not_eq_true', or_assoc]
    exact hbad
  have hskipped : Report (hostServed s.dev) (hostServed s.dev).skipHost := (report_countDev _ 312 1).trans (report_raise _ _)
  refine completes_of_next rfl ?_
  rw [onDev_dev, hostRing_of_barred hdue hlatest hbarred]
  exact ⟨(hskipped.get _ _ rfl).trans hh, hostDue_of_report hskipped, latched_raise _ _⟩

theorem completes_telemetry_down (hdue : s.dev.ring.telDue = true) (hlatest : s.dev.ring.latest = some x)
    (hdown : s.dev.portUp (s.dev.telGet F.RING_TEL_CFG_TEL_PORT) = false) : Completes .telemetrySend s (fun t =>
      t.dev.ring.telDue = false ∧ t.dev.sw.queues = s.dev.sw.queues) := by
  obtain ⟨hqueues, hserved⟩ := each_telPart_of_down x (telParts s.dev) (4096 / telParts s.dev) (List.range (telParts s.dev)) (telServed s.dev) hdown
  refine completes_of_next rfl ?_
  rw [onDev_dev, telemetry_of_due hdue hlatest, judgeBanks_queues, (steady_judgeBanks _).telDue]
  exact ⟨hserved, hqueues⟩

theorem completes_telemetry_up (hdue : s.dev.ring.telDue = true) (hlatest : s.dev.ring.latest = some x) (hready : TelReady s.dev) :
    Completes .telemetrySend s (fun t => t.dev.ring.telDue = false ∧
      t.dev.sw.nextFid = s.dev.sw.nextFid + (if s.dev.telGet F.RING_TEL_CFG_PART_WORDS = 1 then 4 else 16)) := by
  obtain ⟨hfid, hserved⟩ := each_telPart_of_ready x (telParts s.dev) (4096 / telParts s.dev) (List.range (telParts s.dev)) (telServed s.dev) hready
  refine completes_of_next rfl ?_
  rw [onDev_dev, telemetry_of_due hdue hlatest, (steady_judgeBanks _).telDue, (steady_judgeBanks _).nextFid, hfid, List.length_range]
  exact ⟨hserved, rfl⟩

/-- RING_AREA_DATA, as a party that reaches it reads it (R394). -/
theorem readWord_ringArea (t : State) (p : Party) (hreach : t.dev.fastReach = true) :
    t.readWord p 16 0x8038 = (t.onDev Dev.ringAreaRead, t.dev.ringAreaRead.word .RING_AREA_DATA 0) := by
  have hat : regAt .bar0 0x8038 = some (.RING_AREA_DATA, 0) := by decide
  have habsent : t.dev.absent .RING_AREA_DATA 0 = false := Bool.and_false _
  obtain ⟨hfirn, hon⟩ := Bool.and_eq_true_iff.1 hreach
  obtain ⟨hrom, hrecovery⟩ := Bool.and_eq_true_iff.1 hfirn
  have hreaches : t.dev.reaches (p == .cp) .RING_AREA_DATA = true := by
    simp only [Dev.reaches, hrom, hon, beq_false_of_ne (bne_iff_ne.1 hrecovery), Bool.true_and, Bool.false_eq_true,
      if_false, Bool.or_true, Bool.true_or]
  have hshared : Reg.hostOnly .RING_AREA_DATA = false := by decide
  have hread : t.dev.readPlace p (regAt .bar0 0x8038) = (t.dev.ringAreaRead, t.dev.ringAreaRead.word .RING_AREA_DATA 0) := by
    simp only [hat, Dev.readPlace, hreaches, hshared, Dev.readAt, habsent, Bool.false_and, Bool.not_false, Bool.and_self, if_true,
      Bool.false_eq_true, if_false]
    rfl
  rw [State.readWord]
  simp only [if_true, hread, State.onDev]
  rfl

theorem ringAreaRead_word (d : Dev) (haddr : d.get F.RING_AREA_ADDR_ADDR = a) (hword : a % 4 = 0) :
    d.ringAreaRead.word .RING_AREA_DATA 0 = d.areaWord a := by
  have hwhole : a / 4 * 4 = a := by omega
  unfold Dev.ringAreaRead
  dsimp only
  rw [haddr, hwhole, word_set_other _ _ _ _ _ _ (fun h => absurd h.1 (by decide)), word_setWord_same]

theorem ringAreaRead_addr (d : Dev) (haddr : d.get F.RING_AREA_ADDR_ADDR = a) (hword : a % 4 = 0) (hbound : a + 4 < 2 ^ 21) :
    d.ringAreaRead.get F.RING_AREA_ADDR_ADDR = a + 4 := by
  have hwhole : a / 4 * 4 = a := by omega
  unfold Dev.ringAreaRead
  dsimp only
  rw [haddr, hwhole, get_set_same _ _ _ _ (by decide)]
  exact Nat.mod_eq_of_lt hbound

/-! What the dump area holds does not depend on the endpoint. -/

section
variable (d : Dev) (f : Pcie → Pcie) (y : Snapshot)

theorem headWords_onPcie : (d.onPcie f).headWords y = d.headWords y := rfl

theorem recordWord_onPcie (i : Nat) : (d.onPcie f).recordWord y i = d.recordWord y i := by
  unfold Dev.recordWord Dev.recordCrc
  rw [headWords_onPcie]

theorem areaWord_onPcie (a : Nat) : (d.onPcie f).areaWord a = d.areaWord a := by
  unfold Dev.areaWord
  rw [show (d.onPcie f).ring = d.ring from rfl]
  cases d.ring.area.find? (fun e => e.1 == a / recordLen) with
  | none => rfl
  | some e => exact recordWord_onPcie d f e.2 _

theorem ringAreaRead_onPcie : (d.onPcie f).ringAreaRead = d.ringAreaRead.onPcie f := by
  rw [Dev.ringAreaRead, areaWord_onPcie, onPcie_get, setWord_onPcie, set_onPcie, Dev.ringAreaRead]

end

/-- The host's read of RING_AREA_DATA while it waits for nothing. -/
theorem hostRead_ringArea (x : HeldRead) (hreach : s.dev.fastReach = true) (hdata : s.dev.ringAreaRead.word .RING_AREA_DATA 0 = s.dev.areaWord a) :
    (withHeld s x).hostRead 16 0x8038 =
      (s.onDev (fun d => d.ringAreaRead.onPcie (fun e => { e with held := some x })), s.dev.areaWord a) := by
  have hdev : (withHeld s x).dev.ringAreaRead = s.dev.ringAreaRead.onPcie (fun e => { e with held := some x }) := by
    rw [withHeld, onDev_dev, ringAreaRead_onPcie]
  rw [hostRead_bar0, readWord_ringArea (withHeld s x) .host hreach, State.onDev, hdev, onPcie_word, hdata]
  rfl

theorem askWord_ringArea (hreach : s.dev.fastReach = true) (hlink : hostIdle s.dev = true ∨ s.dev.pcie.ready = false)
    (hdata : s.dev.ringAreaRead.word .RING_AREA_DATA 0 = s.dev.areaWord a) :
    s.askWord 16 0x8038 = s.onDev (fun d => d.ringAreaRead.emit (.readData (s.dev.areaWord a).toNat)) :=
  askWord_of_read (f := Dev.ringAreaRead) hlink ((only_ringAreaRead s.dev).part .pcie (by decide))
    (by rw [readWord_ringArea s .fsp hreach, hdata]) (fun x => hostRead_ringArea x hreach hdata)

theorem completes_ringAreaRead (hreach : s.dev.fastReach = true) (hlink : hostIdle s.dev = true ∨ s.dev.pcie.ready = false)
    (haddr : s.dev.get F.RING_AREA_ADDR_ADDR = a) (hword : a % 4 = 0) (hbound : a + 4 < 2 ^ 21) : Completes .ringAreaRead s (fun t =>
      t.dev.word .RING_AREA_DATA 0 = s.dev.areaWord a ∧ t.dev.get F.RING_AREA_ADDR_ADDR = a + 4 ∧
      t.dev.sent = s.dev.sent ++ [.readData (s.dev.areaWord a).toNat] ∧ Frame [.sent] [.RING_AREA_DATA, .RING_AREA_ADDR] s t) := by
  have hdata := ringAreaRead_word s.dev haddr hword
  have hsent : s.dev.ringAreaRead.sent = s.dev.sent := (only_ringAreaRead s.dev).part .sent (by decide)
  have hexec : exec .ringAreaRead s = .next (s.onDev (fun d => d.ringAreaRead.emit (.readData (s.dev.areaWord a).toNat))) :=
    congrArg Host.Outcome.next (askWord_ringArea hreach hlink hdata)
  refine completes_of_next hexec ⟨?_, ?_, ?_, ?_, onDev_flash s _, onDev_pending s _⟩ <;> rw [onDev_dev]
  · rw [emit_word, hdata]
  · rw [emit_get, ringAreaRead_addr s.dev haddr hword hbound]
  · rw [emit_sent, hsent]
  · exact (Only.refl.ringAreaRead (by decide) (by decide)).emit _ (by decide)

end

/-- Settles O51: counts with and without a wrap, and each target of a dump by what its boundary has found. -/
theorem countersAndDumps : Obligations.CountersAndDumps := by
  refine ⟨fun s v n i hreach hidx habsent => ?_, fun s x n h a => ⟨?_, ?_, fun hdue hlatest hn => ⟨?_, ?_, ?_⟩, fun hdue hlatest => ⟨?_, ?_⟩, ?_⟩⟩
  · exact ⟨completes_cntDataWrite hreach hidx habsent, fun x hx hne hwrap hroom => completes_cntDataWrite_wrap hreach hidx habsent hx hne hwrap hroom,
      readReg_cntData hidx, completes_cntCfgWrite hreach hidx habsent⟩
  · exact completes_ringBoundary
  · exact completes_ringBoundary_off
  · exact fun g l hmoved hroom hbme hup => completes_hostRing_moved hdue hlatest hn hmoved hroom hbme hup
  · exact fun hmoved hh hpos hbound hroom hbme hup => completes_hostRing_head hdue hlatest hn hmoved hh hpos hbound hroom hbme hup
  · exact fun hmoved hh hbad => completes_hostRing_skipped hdue hlatest hn hmoved hh hbad
  · exact completes_telemetry_down hdue hlatest
  · exact fun hup hport hbounded => completes_telemetry_up hdue hlatest ⟨hup, hport, hbounded⟩
  · exact completes_ringAreaRead

end Sys2Proof.Proofs

/-! SUPPORT. Laws of the ALARM block: the oldest entry of the log, the latches, and what each class of resource is back in service
(R398 to R402). -/

namespace Sys2Proof.Laws

open Sys2Proof.Machine Sys2Proof.Safety

section
variable (d : Dev)

/-! ## The fault log -/

theorem cond_off (a : Alarm) : d.cond a false = d.set (bitFld .ALM_ACTIVE a.bit) 0 (a.bit / 32) := rfl

theorem alarmOn_cond_off (a : Alarm) : (d.cond a false).alarmOn a = false := by
  have hfits : (bitFld .ALM_ACTIVE a.bit).lo + (bitFld .ALM_ACTIVE a.bit).width ≤ 32 := Nat.mod_lt a.bit (by decide : 0 < 32)
  rw [cond_off, Dev.alarmOn, Dev.flag, get_set_same _ _ _ _ hfits]
  rfl

theorem putLog_word (ws : List Word) {k : Nat} (h : k < 6) : (d.putLog ws).word .ALM_LOG_W k = ws.getD k 0 := by
  rw [Dev.putLog, each_setWord_word, if_pos (List.mem_range.2 h)]

variable {d}

theorem takeLog_of_empty (h : d.log = []) : d.takeLog = d.putLog [] := by
  rw [Dev.takeLog, h]

theorem takeLog_of_entry {e : LogEntry} {rest : List LogEntry} (h : d.log = e :: rest) :
    d.takeLog = (({ d with log := rest }).putLog e.words).cond .logFull false := by
  rw [Dev.takeLog, h]

variable (d)

/-- An entry that is taken leaves the log and the words of ALM_LOG_W, and ends LOG_FULL. -/
theorem only_takeLog_log : Only [.log] [.ALM_LOG_W, .ALM_ACTIVE] d d.takeLog := by
  cases h : d.log with
  | nil =>
    rw [takeLog_of_empty h]
    exact .each .refl _ _ (fun _ _ => .setWord .refl _ _ _ (by decide))
  | cons e rest =>
    rw [takeLog_of_entry h, cond_off]
    exact .set (.each (.upd_log .refl rest (by decide)) _ _ (fun _ _ => .setWord .refl _ _ _ (by decide))) _ _ _ (by decide)

theorem putLog_onPcie (f : Pcie → Pcie) (ws : List Word) : (d.onPcie f).putLog ws = (d.putLog ws).onPcie f := by
  have hall (l : List Nat) (e : Dev) : (e.onPcie f).each l (fun d i => d.setWord .ALM_LOG_W i (ws.getD i 0)) =
      (e.each l (fun d i => d.setWord .ALM_LOG_W i (ws.getD i 0))).onPcie f := by
    induction l generalizing e with
    | nil => rfl
    | cons i l ih => exact ih (e.setWord .ALM_LOG_W i (ws.getD i 0))
  exact hall _ d

theorem takeLog_onPcie (f : Pcie → Pcie) : (d.onPcie f).takeLog = d.takeLog.onPcie f := by
  cases h : d.log with
  | nil => rw [takeLog_of_empty h, takeLog_of_empty (d := d.onPcie f) h, putLog_onPcie]
  | cons e rest =>
    rw [takeLog_of_entry h, takeLog_of_entry (d := d.onPcie f) h, cond_off, cond_off,
      show ({ (d.onPcie f) with log := rest } : Dev) = ({ d with log := rest } : Dev).onPcie f from rfl, putLog_onPcie, set_onPcie]

/-! ## The latches -/

theorem clearLatch_word (k : Nat) (v : Word) (r : Reg) (u : Nat) :
    (d.clearLatch k v).word r u = (d.setWord .ALM_LATCH k (d.word .ALM_LATCH k &&& ~~~v)).word r u :=
  each_keeps (d.setWord .ALM_LATCH k (d.word .ALM_LATCH k &&& ~~~v)) (fun e => e.word r u) (List.range 8) _ (fun e g _ =>
    when_keeps e (fun e => e.word r u) _ (fun e => e.sendGroup g) (sendGroup_word e g r u))

/-! ## Re-enabled resources -/

theorem only_pinAfter_sent (c : Nat) (f : Dev → Dev) : Only [.sent] [] (f d) (d.pinAfter c f) := by
  unfold Dev.pinAfter
  exact .when .refl _ _ (.emit .refl _ (by decide))

theorem set_tios (f : Fld) (v u : Nat) : (d.set f v u).tios = d.tios := rfl
theorem set_chan (f : Fld) (v u a b : Nat) : (d.set f v u).chan a b = d.chan a b := rfl

theorem returnToService_tioOutput (i : Nat) :
    d.returnToService 5 i = d.pinAfter i (fun e => (e.tioBit F.TIO_STAT_OUT_RETIRED false i).tioAlarm) := rfl
theorem returnToService_cells (i : Nat) :
    d.returnToService 7 i = ((d.onSw (fun s => { s with retired := [], badWords := 0 })).judgeBuf).judgeBanks := rfl
theorem returnToService_fdb (i : Nat) : d.returnToService 8 i = (d.fdbDrop i).tableBack 8 i := rfl
theorem returnToService_channel (i : Nat) :
    d.returnToService 12 i = (d.onChan (i / 8) (i % 8) (fun c => { c with st := 0 })).when (i == 16) Dev.sendNotice := rfl

theorem isRetired_tioOutput (i : Nat) : d.isRetired 5 i = d.flag F.TIO_STAT_OUT_RETIRED i := rfl
theorem isRetired_cells (i : Nat) : d.isRetired 7 i = (!d.sw.retired.isEmpty || d.sw.badWords != 0) := rfl
theorem isRetired_fdb (i : Nat) : d.isRetired 8 i = d.flag F.FDB_W2_RETIRED i := rfl
theorem isRetired_channel (i : Nat) : d.isRetired 12 i = ((d.chan (i / 8) (i % 8)).st == 4) := rfl

theorem reenAbsent_tioOutput (i : Nat) : d.reenAbsent 5 i = decide (d.tios ≤ i) := rfl
theorem reenAbsent_cells (i : Nat) : d.reenAbsent 7 i = false := rfl
theorem reenAbsent_fdb (i : Nat) : d.reenAbsent 8 i = false := rfl
theorem reenAbsent_channel (i : Nat) : d.reenAbsent 12 i = (decide (6 ≤ i / 8) || decide (6 ≤ i % 8) || i / 8 == i % 8) := rfl

/-- A TIO output back in service: its bit is clear, and its pin and the alarm follow. -/
theorem returnToService_tioOutput_bit (i : Nat) :
    Only reports alarmRegs (d.tioBit F.TIO_STAT_OUT_RETIRED false i) (d.returnToService 5 i) := by
  have hpin : Only [.sent] [] (d.tioBit F.TIO_STAT_OUT_RETIRED false i).tioAlarm
      (d.pinAfter i (fun e => (e.tioBit F.TIO_STAT_OUT_RETIRED false i).tioAlarm)) := only_pinAfter_sent d i (fun e => (e.tioBit F.TIO_STAT_OUT_RETIRED false i).tioAlarm)
  rw [returnToService_tioOutput]
  exact (Only.refl.tioAlarm (by decide) (by decide)).andThen hpin (by decide) (by decide)

/-- A class of R402, and the bounds and the memory code that it names. -/
theorem reEnable_of_retired {cls i lo hi mem : Nat} (hi' : (if cls = 7 then 0 else d.get F.ALM_REEN_IDX_INDEX) = i)
    (hcls : reenClass cls = some (lo, hi, mem)) (hlo : lo ≤ i) (hhi : i < hi)
    (habsent : (d.set F.ALM_REEN_CLASS cls).reenAbsent cls i = false) (hretired : (d.set F.ALM_REEN_CLASS cls).isRetired cls i = true)
    (hone : cls ≠ 1) : d.reEnable cls =
      ((((d.set F.ALM_REEN_CLASS cls).returnToService cls i).countDev 315).logAdd cls 4 mem i).set F.ALM_REEN_RESULT 1 := by
  have hidx : (d.set F.ALM_REEN_CLASS cls).get F.ALM_REEN_IDX_INDEX = d.get F.ALM_REEN_IDX_INDEX :=
    get_set_apart _ _ _ _ _ _ (by decide) (by decide)
  have hbounds : (i < lo || hi ≤ i || (d.set F.ALM_REEN_CLASS cls).reenAbsent cls i) = false := by
    simp [habsent, Nat.not_lt.2 hlo, Nat.not_le.2 hhi]
  have hrefusal : (d.set F.ALM_REEN_CLASS cls).reenRefusal cls i = 0 := by
    unfold Dev.reenRefusal
    rw [hcls]
    dsimp only
    rw [hbounds, hretired]
    simp [hone]
  rw [Dev.reEnable]
  dsimp only
  rw [hidx, hi', hrefusal, hcls]
  rfl

end

end Sys2Proof.Laws

namespace Sys2Proof.Proofs

open Sys2Proof.Machine Sys2Proof.Safety Sys2Proof.Laws

section
variable {s : State} {i : Nat} {c : Byte}

/-- A re-enable that is carried out: what holds of the resource before it is counted and logged. -/
theorem completes_reEnable {lo hi mem : Nat} {Q : State → Prop} (hstage : s.dev.stage ≠ 0)
    (hi' : (if c.toNat = 7 then 0 else s.dev.get F.ALM_REEN_IDX_INDEX) = i)
    (hcls : reenClass c.toNat = some (lo, hi, mem)) (hlo : lo ≤ i) (hhi : i < hi)
    (habsent : (s.dev.set F.ALM_REEN_CLASS c.toNat).reenAbsent c.toNat i = false)
    (hretired : (s.dev.set F.ALM_REEN_CLASS c.toNat).isRetired c.toNat i = true) (hone : c.toNat ≠ 1)
    (h : ∀ t : State, Only reports (.ALM_REEN :: alarmRegs) ((s.dev.set F.ALM_REEN_CLASS c.toNat).returnToService c.toNat i) t.dev →
      t.dev.get F.ALM_REEN_RESULT = 1 →
      t.dev.get F.ALM_REEN_CLASS = ((s.dev.set F.ALM_REEN_CLASS c.toNat).returnToService c.toNat i).get F.ALM_REEN_CLASS → Q t) :
    Completes (.reEnable c) s Q := by
  have hreported : Only reports alarmRegs ((s.dev.set F.ALM_REEN_CLASS c.toNat).returnToService c.toNat i)
      ((((s.dev.set F.ALM_REEN_CLASS c.toNat).returnToService c.toNat i).countDev 315).logAdd c.toNat 4 mem i) :=
    (Only.refl.countDev _ _ (by decide)).logAdd _ _ _ _ (by decide)
  have hdev : (s.onDev (·.globReach (·.reEnable c.toNat))).dev =
      ((((s.dev.set F.ALM_REEN_CLASS c.toNat).returnToService c.toNat i).countDev 315).logAdd c.toNat 4 mem i).set F.ALM_REEN_RESULT 1 := by
    rw [onDev_dev, Dev.globReach, if_neg hstage, reEnable_of_retired s.dev hi' hcls hlo hhi habsent hretired hone]
  refine completes_of_next rfl (h _ ?_ ?_ ?_)
  · rw [hdev]
    exact ((Only.refl.countDev 315 1 (by decide)).logAdd c.toNat 4 mem i (by decide)).set _ _ _ (by decide)
  · rw [hdev, get_set_same _ _ _ _ (by decide)]
    rfl
  · rw [hdev, get_set_apart _ _ _ _ _ _ (by decide) (by decide), hreported.get _ _ (by decide)]

theorem completes_reEnable_tioOutput (hstage : s.dev.stage ≠ 0) (hidx : s.dev.get F.ALM_REEN_IDX_INDEX = i) (hc : c.toNat = 0x05)
    (hi : i < s.dev.tios) (htios : s.dev.tios ≤ 48) (hretired : s.dev.flag F.TIO_STAT_OUT_RETIRED i = true) :
    Completes (.reEnable c) s (fun t => t.dev.flag F.TIO_STAT_OUT_RETIRED i = false ∧ t.dev.get F.ALM_REEN_RESULT = 1 ∧
      t.dev.get F.ALM_REEN_CLASS = 5) := by
  have hmarked : (s.dev.set F.ALM_REEN_CLASS 5).isRetired 5 i = true := by
    rw [isRetired_tioOutput, flag_set_apart _ _ _ _ _ _ (by decide) (by decide), hretired]
  have hpresent : (s.dev.set F.ALM_REEN_CLASS 5).reenAbsent 5 i = false := by
    rw [reenAbsent_tioOutput, set_tios]
    exact decide_eq_false (Nat.not_le.2 hi)
  refine completes_reEnable (i := i) (lo := 0) (hi := 48) (mem := 0) hstage ((if_neg (by omega)).trans hidx) (by rw [hc]; rfl) (Nat.zero_le i)
    (by omega) (by rw [hc]; exact hpresent) (by rw [hc]; exact hmarked) (by omega) (fun t hframe hresult hclass => ?_)
  rw [hc] at hframe hclass
  have hback := returnToService_tioOutput_bit (s.dev.set F.ALM_REEN_CLASS 5) i
  refine ⟨?_, hresult, ?_⟩
  · rw [hframe.flag _ _ (by decide), hback.flag _ _ (by decide)]
    exact flag_setMark_same _ F.TIO_STAT_OUT_RETIRED F.TIO_STAT_CHANGED false i (by decide) (by decide) (by decide) (by decide)
  · rw [hclass, hback.get _ _ (by decide), Dev.tioBit, get_setMark_apart _ _ _ _ _ _ _ (by decide) (by decide) (by decide) (by decide),
      get_set_same _ _ _ _ (by decide)]
    rfl

theorem completes_reEnable_cells (hstage : s.dev.stage ≠ 0) (hc : c.toNat = 0x07) (hretired : s.dev.sw.retired ≠ []) :
    Completes (.reEnable c) s (fun t => t.dev.sw.retired = [] ∧ t.dev.sw.badWords = 0 ∧ t.dev.get F.ALM_REEN_RESULT = 1) := by
  have hmarked : (s.dev.set F.ALM_REEN_CLASS 7).isRetired 7 0 = true := by
    rw [isRetired_cells, set_sw, Bool.or_eq_true, Bool.not_eq_true', List.isEmpty_eq_false_iff]
    exact .inl hretired
  refine completes_reEnable (i := 0) (lo := 0) (hi := 2 ^ 18) (mem := 0) hstage (if_pos hc) (by rw [hc]; rfl) (Nat.le_refl 0)
    (by decide) (by rw [hc, reenAbsent_cells]) (by rw [hc]; exact hmarked) (by omega) (fun t hframe hresult _ => ?_)
  rw [hc] at hframe
  have hsw : swCore t.dev.sw = swCore { s.dev.sw with retired := [], badWords := 0 } := by
    rw [hframe.part .sw (by decide), returnToService_cells]
    refine ((steady_judgeBuf _).trans (steady_judgeBanks _)).sw.trans ?_
    rw [onSw_sw, set_sw]
  have hr : (swCore t.dev.sw).retired = [] := by rw [hsw]; rfl
  have hb : (swCore t.dev.sw).badWords = 0 := by rw [hsw]; rfl
  exact ⟨hr, hb, hresult⟩

theorem completes_reEnable_fdb (hstage : s.dev.stage ≠ 0) (hidx : s.dev.get F.ALM_REEN_IDX_INDEX = i) (hc : c.toNat = 0x08)
    (hi : i < 262144) (hretired : s.dev.fdbRetired i = true) : Completes (.reEnable c) s (fun t => t.dev.fdbRetired i = false ∧
      t.dev.fdbValid i = false ∧ t.dev.get F.ALM_REEN_RESULT = 1) := by
  have hmarked : (s.dev.set F.ALM_REEN_CLASS 8).isRetired 8 i = true := by
    rw [isRetired_fdb, flag_set_apart _ _ _ _ _ _ (by decide) (by decide)]
    exact hretired
  refine completes_reEnable (i := i) (lo := 0) (hi := 262144) (mem := 3) hstage ((if_neg (by omega)).trans hidx) (by rw [hc]; rfl) (Nat.zero_le i)
    hi (by rw [hc, reenAbsent_fdb]) (by rw [hc]; exact hmarked) (by omega) (fun t hframe hresult _ => ?_)
  rw [hc] at hframe
  have hword : t.dev.word .FDB_W2 i = 0 := by
    rw [hframe.word _ _ (by decide)]
    rw [returnToService_fdb, (only_tableBack _ 8 i).word _ _ (by decide), Dev.fdbDrop, Dev.fdbPut, word_setWord_other _ _ (fun h => absurd h.1 (by decide)),
      word_setWord_same]
    rfl
  refine ⟨?_, ?_, hresult⟩
  · rw [Dev.fdbRetired, Dev.flag, Dev.get, show F.FDB_W2_RETIRED.reg = .FDB_W2 from rfl, hword]
    rfl
  · rw [Dev.fdbValid, Dev.flag, Dev.get, show F.FDB_W2_VALID.reg = .FDB_W2 from rfl, hword]
    rfl

theorem completes_reEnable_channel (hstage : s.dev.stage ≠ 0) (hidx : s.dev.get F.ALM_REEN_IDX_INDEX = i) (hc : c.toNat = 0x0C)
    (hsrc : i / 8 < 6) (hdst : i % 8 < 6) (hne : i / 8 ≠ i % 8) (hcp : i ≠ 16) (hretired : (s.dev.chan (i / 8) (i % 8)).st = 4) :
    Completes (.reEnable c) s (fun t => (t.dev.chan (i / 8) (i % 8)).st = 0 ∧ t.dev.get F.ALM_REEN_RESULT = 1) := by
  have hmarked : (s.dev.set F.ALM_REEN_CLASS 12).isRetired 12 i = true := by
    rw [isRetired_channel, set_chan]
    exact beq_iff_eq.2 hretired
  have hpresent : (s.dev.set F.ALM_REEN_CLASS 12).reenAbsent 12 i = false := by
    simp [reenAbsent_channel, Nat.not_le.2 hsrc, Nat.not_le.2 hdst, hne]
  refine completes_reEnable (i := i) (lo := 0) (hi := 64) (mem := 7) hstage ((if_neg (by omega)).trans hidx) (by rw [hc]; rfl) (Nat.zero_le i)
    (by omega) (by rw [hc]; exact hpresent) (by rw [hc]; exact hmarked) (by omega) (fun t hframe hresult _ => ?_)
  rw [hc] at hframe
  have hback : (s.dev.set F.ALM_REEN_CLASS 12).returnToService 12 i =
      (s.dev.set F.ALM_REEN_CLASS 12).onChan (i / 8) (i % 8) (fun x => { x with st := 0 }) := by
    rw [returnToService_channel, beq_false_of_ne hcp, when_false]
  rw [hframe.chan (by decide), hback, onChan_same]
  exact ⟨rfl, hresult⟩

/-- A re-enable that is refused changes ALM_REEN alone. -/
theorem completes_reEnable_refused {r : Nat} (hstage : s.dev.stage ≠ 0) (hr : r ≠ 0 ∧ r < 8)
    (h : (s.dev.set F.ALM_REEN_CLASS c.toNat).reenRefusal c.toNat
      (if c.toNat = 7 then 0 else (s.dev.set F.ALM_REEN_CLASS c.toNat).get F.ALM_REEN_IDX_INDEX) = r) :
    Completes (.reEnable c) s (fun t => t.dev.get F.ALM_REEN_RESULT = r ∧ Frame [] [.ALM_REEN] s t) := by
  have hdev : (s.onDev (·.globReach (·.reEnable c.toNat))).dev = (s.dev.set F.ALM_REEN_CLASS c.toNat).set F.ALM_REEN_RESULT r := by
    rw [onDev_dev, Dev.globReach, if_neg hstage, Dev.reEnable]
    dsimp only
    rw [h, if_pos hr.1]
  refine completes_of_next rfl ⟨?_, ?_, rfl, rfl⟩
  · rw [hdev, get_set_same _ _ _ _ (by decide)]
    exact Nat.mod_eq_of_lt (Nat.lt_of_lt_of_le hr.2 (by decide))
  · rw [hdev]
    exact (Only.refl.set _ _ _ (by decide)).set _ _ _ (by decide)

theorem completes_alarmLatchClear (w : Fin 2) (v : Word) (hstage : s.dev.stage ≠ 0) : Completes (.alarmLatchClear w v) s (fun t =>
    t.dev.word .ALM_LATCH w.val = s.dev.word .ALM_LATCH w.val &&& ~~~v ∧ ∀ r u, r ≠ .ALM_LATCH → t.dev.word r u = s.dev.word r u) := by
  refine completes_of_next rfl ?_
  rw [onDev_dev, Dev.globReach, if_neg hstage, clearLatch_word, word_setWord_same]
  refine ⟨rfl, fun r u hr => ?_⟩
  rw [clearLatch_word, word_setWord_other _ _ (fun h => hr h.1)]

/-! ## The read of the log -/

theorem readWord_log (t : State) (p : Party) (hstage : t.dev.stage ≠ 0) :
    t.readWord p 16 0x3060 = (t.onDev Dev.takeLog, t.dev.takeLog.word .ALM_LOG_W 0) := by
  have hat : regAt .bar0 0x3060 = some (.ALM_LOG_W, 0) := by decide
  have habsent : t.dev.absent .ALM_LOG_W 0 = false := Bool.and_false _
  have hslow : Reg.isFast .ALM_LOG_W = false := by decide
  have hkept : Reg.inRecovery .ALM_LOG_W = true := by decide
  have hshared : Reg.hostOnly .ALM_LOG_W = false := by decide
  have hreaches : t.dev.reaches (p == .cp) .ALM_LOG_W = true := by
    simp [Dev.reaches, hslow, hkept, hstage]
  have hread : t.dev.readPlace p (regAt .bar0 0x3060) = (t.dev.takeLog, t.dev.takeLog.word .ALM_LOG_W 0) := by
    simp only [hat, Dev.readPlace, hreaches, hshared, Dev.readAt, habsent, Bool.false_and, Bool.not_false, Bool.and_self, if_true,
      Bool.false_eq_true, if_false]
    rfl
  rw [State.readWord]
  simp only [if_true, hread, State.onDev]
  rfl

theorem hostRead_log (x : HeldRead) (hstage : s.dev.stage ≠ 0) : (withHeld s x).hostRead 16 0x3060 =
    (s.onDev (fun d => d.takeLog.onPcie (fun e => { e with held := some x })), s.dev.takeLog.word .ALM_LOG_W 0) := by
  have hdev : (withHeld s x).dev.takeLog = s.dev.takeLog.onPcie (fun e => { e with held := some x }) := by
    rw [withHeld, onDev_dev, takeLog_onPcie]
  rw [hostRead_bar0, readWord_log (withHeld s x) .host hstage, State.onDev, hdev, onPcie_word]
  rfl

/-- The read of ALM_LOG_W by the host, or by a processor while the endpoint is down. -/
theorem exec_alarmLogRead (hstage : s.dev.stage ≠ 0) (hlink : hostIdle s.dev = true ∨ s.dev.pcie.ready = false) :
    exec .alarmLogRead s = .next (s.onDev (fun d => d.takeLog.emit (.readData (s.dev.takeLog.word .ALM_LOG_W 0).toNat))) :=
  congrArg Host.Outcome.next (askWord_of_read (f := Dev.takeLog) hlink ((only_takeLog_log s.dev).part .pcie (by decide))
    (readWord_log s .fsp hstage) (fun x => hostRead_log x hstage))

theorem takeLog_sent (d : Dev) : d.takeLog.sent = d.sent := (only_takeLog_log d).part .sent (by decide)

theorem completes_alarmLogRead_entry {e : LogEntry} {rest : List LogEntry} (hstage : s.dev.stage ≠ 0)
    (hlink : hostIdle s.dev = true ∨ s.dev.pcie.ready = false) (hlog : s.dev.log = e :: rest) : Completes .alarmLogRead s (fun t =>
      t.dev.log = rest ∧ t.dev.word .ALM_LOG_W 4 = BitVec.ofNat 32 (e.cls % 256 + e.action % 16 * 256 + e.mem % 16 * 4096) ∧
      t.dev.word .ALM_LOG_W 5 = BitVec.ofNat 32 e.index ∧ t.dev.alarmOn .logFull = false ∧
      t.dev.sent = s.dev.sent ++ [.readData (t.dev.word .ALM_LOG_W 0).toNat]) := by
  have hend : Only [] [.ALM_ACTIVE] (({ s.dev with log := rest } : Dev).putLog e.words) s.dev.takeLog := by
    rw [takeLog_of_entry hlog, cond_off]
    exact .set .refl _ _ _ (by decide)
  have hlogged : (({ s.dev with log := rest } : Dev).putLog e.words).log = rest := (only_putLog _ _).part .log (by decide)
  refine completes_of_next (exec_alarmLogRead hstage hlink) ⟨?_, ?_, ?_, ?_, ?_⟩ <;> rw [onDev_dev]
  · rw [emit_log, hend.part .log (by decide), hlogged]
  · rw [emit_word, hend.word _ _ (by decide), putLog_word _ _ (by decide)]
    rfl
  · rw [emit_word, hend.word _ _ (by decide), putLog_word _ _ (by decide)]
    rfl
  · have hoff : s.dev.takeLog.alarmOn .logFull = false := by rw [takeLog_of_entry hlog, alarmOn_cond_off]
    exact hoff
  · rw [emit_sent, emit_word, takeLog_sent]

theorem completes_alarmLogRead_empty (hstage : s.dev.stage ≠ 0)
    (hlink : hostIdle s.dev = true ∨ s.dev.pcie.ready = false) (hlog : s.dev.log = []) : Completes .alarmLogRead s (fun t =>
      t.dev.log = [] ∧ t.dev.sent = s.dev.sent ++ [.readData 0] ∧ ∀ k < 6, t.dev.word .ALM_LOG_W k = 0) := by
  have hword {k : Nat} (hk : k < 6) : s.dev.takeLog.word .ALM_LOG_W k = 0 := by
    rw [takeLog_of_empty hlog, putLog_word _ _ hk]
    rfl
  refine completes_of_next (exec_alarmLogRead hstage hlink) ⟨?_, ?_, fun k hk => ?_⟩ <;> rw [onDev_dev]
  · rw [emit_log, takeLog_of_empty hlog, (only_putLog _ _).part .log (by decide), hlog]
  · rw [emit_sent, takeLog_sent, hword (by decide)]
    rfl
  · rw [emit_word, hword hk]

theorem completes_alarmLogRead_frame (hstage : s.dev.stage ≠ 0) (hlink : hostIdle s.dev = true ∨ s.dev.pcie.ready = false) :
    Completes .alarmLogRead s (FrameReported [] [.ALM_LOG_W] s) := by
  refine completes_of_next (exec_alarmLogRead hstage hlink) ⟨?_, onDev_flash s _, onDev_pending s _⟩
  rw [onDev_dev]
  exact (Only.refl.takeLog (by decide) (by decide)).emit _ (by decide)

end

/-- Settles O41: a re-enable by its class, a latch clear by its word, and a read of the log with and without an entry. -/
theorem alarmsAndReEnables : Obligations.AlarmsAndReEnables := by
  refine ⟨fun s i c hstage hidx => ⟨?_, ?_, ?_, ?_, ?_, ?_⟩, fun s w v hstage => ⟨?_, ?_, ?_, ?_⟩⟩
  · exact fun hc hi htios hretired => completes_reEnable_tioOutput hstage hidx hc hi htios hretired
  · exact fun hc hretired => completes_reEnable_cells hstage hc hretired
  · exact fun hc hi hretired => completes_reEnable_fdb hstage hidx hc hi hretired
  · exact fun hc hsrc hdst hne hcp hretired => completes_reEnable_channel hstage hidx hc hsrc hdst hne hcp hretired
  · exact fun hc => completes_reEnable_refused hstage (by decide) (by rw [Dev.reenRefusal, hc])
  · intro hc hi hretired
    have hmarked : (s.dev.set F.ALM_REEN_CLASS 8).isRetired 8 i = false := by
      rw [isRetired_fdb, flag_set_apart _ _ _ _ _ _ (by decide) (by decide)]
      exact hretired
    have hkept : (s.dev.set F.ALM_REEN_CLASS 8).get F.ALM_REEN_IDX_INDEX = i :=
      (get_set_apart _ _ _ _ _ _ (by decide) (by decide)).trans hidx
    refine completes_reEnable_refused hstage (by decide) ?_
    rw [hc, if_neg (by decide), hkept, Dev.reenRefusal, show reenClass 8 = some (0, 262144, 3) from rfl]
    dsimp only
    rw [hmarked, reenAbsent_fdb]
    simp [Nat.not_le.2 hi]
  · exact completes_alarmLatchClear w v hstage
  · exact fun e rest hlink hlog => completes_alarmLogRead_entry hstage hlink hlog
  · exact fun hlink => completes_alarmLogRead_frame hstage hlink
  · exact fun hlink hlog => completes_alarmLogRead_empty hstage hlink hlog

end Sys2Proof.Proofs

/-! SUPPORT. Laws of writes to BAR0 (R350, R353): which register lies at an offset, the dwords of a write, and a write that is applied at
once. -/

namespace Sys2Proof.Laws

open Sys2Proof.Machine Sys2Proof.Safety

/-! ## Addresses -/

/-- The first offset behind a replicated register. -/
def extentOf : List (Nat × Nat) → Nat
  | [] => 1
  | (stride, n) :: _ => stride * n

theorem lt_extent_of_unitAt {dims : List (Nat × Nat)} {a u : Nat} (hpos : ∀ e ∈ dims, 0 < e.1) (h : unitAt dims a = some u) :
    a < extentOf dims := by
  cases dims with
  | nil =>
    simp only [unitAt] at h
    split at h
    next hzero => exact hzero ▸ Nat.zero_lt_one
    next => cases h
  | cons e rest =>
    obtain ⟨stride, n⟩ := e
    simp only [unitAt] at h
    split at h
    next => cases h
    next hlt =>
      exact ((Nat.div_lt_iff_lt_mul (hpos (stride, n) List.mem_cons_self)).1 (Nat.not_le.1 hlt)).trans_eq (Nat.mul_comm _ _)

theorem unit_of_single {a u : Nat} (h : unitAt [] a = some u) : u = 0 := by
  simp only [unitAt] at h
  split at h
  · exact (Option.some.inj h).symm
  · cases h

/-- What lies at an address is a register of that space. -/
theorem regAt_some {sp : Space} {a : Nat} {r : Reg} {u : Nat} (h : regAt sp a = some (r, u)) :
    r ∈ Reg.all ∧ r.spec.space = sp ∧ r.spec.base ≤ a ∧ unitAt r.spec.dims (a - r.spec.base) = some u := by
  obtain ⟨q, hq, hfound⟩ := List.exists_of_findSome?_eq_some h
  split at hfound
  next hplace =>
    rw [Option.map_eq_some_iff] at hfound
    obtain ⟨w, hw, heq⟩ := hfound
    obtain ⟨rfl, rfl⟩ := Prod.mk.inj heq
    obtain ⟨hspace, hbase⟩ := Bool.and_eq_true_iff.1 hplace
    exact ⟨hq, eq_of_beq hspace, of_decide_eq_true hbase, hw⟩
  next => cases hfound

/-- The strides of a register are not zero, and one of BAR0 lies within its size. -/
def fitsBar0 (r : Reg) : Bool :=
  r.spec.dims.all (fun e => decide (0 < e.1)) && (r.spec.space != .bar0 || decide (r.spec.base + extentOf r.spec.dims ≤ 0x2000000))

theorem all_fitBar0 : Reg.all.all fitsBar0 = true := by decide +kernel

theorem regAt_bar0_lt {a : Nat} {x : Reg × Nat} (h : regAt .bar0 a = some x) : a < 0x2000000 := by
  obtain ⟨r, u⟩ := x
  obtain ⟨hmem, hspace, hbase, hunit⟩ := regAt_some h
  obtain ⟨hpos, hbound⟩ := Bool.and_eq_true_iff.1 (List.all_eq_true.1 all_fitBar0 r hmem)
  rw [hspace] at hbound
  have hend : r.spec.base + extentOf r.spec.dims ≤ 0x2000000 := of_decide_eq_true hbound
  have hlt := lt_extent_of_unitAt (fun e he => of_decide_eq_true (List.all_eq_true.1 hpos e he)) hunit
  omega

/-! ## Writes of the host -/

section
variable {s : State} {w : BusWrite}

/-- A write of one whole dword covers that dword alone. -/
theorem busDwords_of_dword (hsize : w.size = 4) (halign : w.offset % 4 = 0) :
    busDwords w = [(w.offset, w.data.setWidth 32, true)] := by
  have hplace : w.offset / 4 * 4 = w.offset := by omega
  rw [busDwords, hplace, hsize]
  simp

theorem hostWrite_of_dword (hsize : w.size = 4) (halign : w.offset % 4 = 0) (hbar : w.bar = 0) :
    s.hostWrite w = s.writeBar .host w.offset (w.data.setWidth 32) := by
  rw [State.hostWrite, busDwords_of_dword hsize halign]
  simp [hbar]

theorem busRefused_of_register {x : Reg × Nat} (hsize : w.size = 4) (halign : w.offset % 4 = 0) (hbar : w.bar = 0)
    (hat : regAt .bar0 w.offset = some x) : busRefused w = false := by
  have hlt := regAt_bar0_lt hat
  have hcross : ¬(8 < w.offset % 8 + 4) := by omega
  have hend : ¬(0x2000000 < w.offset + 4) := by omega
  simp only [busRefused, busCrosses, hsize, hbar, barSize, decide_eq_false hcross, decide_eq_false hend]
  decide

/-- A round of one access of the host. -/
theorem exec_hostWrite (hparty : w.party = .host) : exec (.registerWrite w.round) s = .next (s.askWrite w) := by
  have hgranted : roundGranted w.round = [.write w] := by
    simp [roundGranted, BusWrite.round, BusAccess.party, hparty]
  show Host.Outcome.next (([] : List HwEvent).foldl _ ((roundGranted w.round).foldl State.grant s)) = _
  rw [hgranted, List.foldl_nil, List.foldl_cons, List.foldl_nil, State.grant, hparty]

theorem exec_hostRead {r : BusRead} (hparty : r.party = .host) : exec (.registerWrite r.round) s = .next (s.askRead r) := by
  have hgranted : roundGranted r.round = [.read r] := by
    simp [roundGranted, BusRead.round, BusAccess.party, hparty]
  show Host.Outcome.next (([] : List HwEvent).foldl _ ((roundGranted r.round).foldl State.grant s)) = _
  rw [hgranted, List.foldl_nil, List.foldl_cons, List.foldl_nil, State.grant, hparty]

theorem askWrite_of_refused (h : s.dev.pcie.ready = false ∨ busRefused w = true) : s.askWrite w = s.onDev (·.emit .unsupported) :=
  if_pos (by rcases h with h | h <;> simp [h])

theorem askRead_of_refused {r : BusRead} (h : s.dev.pcie.ready = false ∨ readRefused r = true) :
    s.askRead r = s.onDev (·.emit .unsupported) :=
  if_pos (by rcases h with h | h <;> simp [h])

theorem askWrite_of_taken (hready : s.dev.pcie.ready = true) (h : busRefused w = false) : s.askWrite w = s.ask (.write w) :=
  if_neg (by simp [hready, h])

/-- A write is applied at once where no other access of the host waits and the queue has room. -/
theorem ask_write_of_room (hroom : s.dev.pcie.indQueue.length < 64) (hwaiting : s.dev.pcie.waiting = []) (hheld : s.dev.pcie.held = none)
    (hafter : (s.hostWrite w).dev.pcie.waiting = [] ∧ (s.hostWrite w).dev.pcie.held = none) : s.ask (.write w) = s.hostWrite w := by
  have hsame : (s.onDev (·.onPcie (fun e => { e with waiting := e.waiting ++ [.write w] }))).onDev
      (·.onPcie (fun e => { e with waiting := [] })) = s := by
    have hpcie : ({ s.dev.pcie with waiting := [] } : Pcie) = s.dev.pcie := by rw [← hwaiting]
    show { s with dev := { s.dev with pcie := { s.dev.pcie with waiting := [] } } } = s
    rw [hpcie]
  have hopen : decide (64 ≤ s.dev.pcie.indQueue.length) = false := decide_eq_false (Nat.not_le.2 hroom)
  rw [State.ask, State.proceed, Dev.backlog, State.goOn]
  simp only [onDev_dev, onPcie_pcie, hheld, hwaiting, List.nil_append, HostAcc.posted, hopen, Bool.and_false, Bool.false_eq_true, if_false,
    hsame, State.receive]
  exact goOn_of_idle _ hafter.1 hafter.2

/-- A write that the ring has no room for waits. -/
theorem ask_write_of_full (hfull : 64 ≤ s.dev.pcie.indQueue.length) (hheld : s.dev.pcie.held = none)
    (hposted : ∀ x ∈ s.dev.pcie.waiting, x.posted = true) :
    s.ask (.write w) = s.onDev (·.onPcie (fun e => { e with waiting := e.waiting ++ [.write w] })) := by
  have hall : ∀ x ∈ s.dev.pcie.waiting ++ [.write w], x.posted = true := by
    intro x hx
    rcases List.mem_append.1 hx with hx | hx
    · exact hposted x hx
    · rw [List.mem_singleton.1 hx]
      rfl
  rw [State.ask, State.proceed, Dev.backlog, State.goOn]
  simp only [onDev_dev, onPcie_pcie, hheld]
  split
  next hnone => simp at hnone
  next a rest hfirst =>
    have ha : a.posted = true := hall a (hfirst ▸ List.mem_cons_self)
    rw [ha, decide_eq_true hfull]
    rfl

/-- The registers whose write does more than store, or goes through a command of its own. -/
def specialWrites : List Reg := [.GLB_RESET, .GLB_CFG_CMD, .UPD_CMD, .IND_DATA, .WIDE_CTRL, .PWR_FAST_CMD]

theorem writeBar_of_register {p : Party} {a u : Nat} {r : Reg} {v : Word} (hat : regAt .bar0 a = some (r, u))
    (hreach : s.dev.reaches (p == .cp) r = true) (hpresent : s.dev.absent r u = false) (hshared : (r.hostOnly && p != .host) = false)
    (hplain : r ∉ specialWrites) : s.writeBar p a v = s.onDev (·.writeReg r u v) := by
  unfold State.writeBar
  rw [hat]
  dsimp only
  rw [hreach, hpresent, hshared]
  simp only [Bool.not_true, Bool.or_self, Bool.false_eq_true, if_false]
  split
  iterate 5 next => exact absurd (by simp [specialWrites]) hplain
  next =>
    have hstart : r ≠ .PWR_FAST_CMD := fun h => hplain (h ▸ by simp [specialWrites])
    rw [State.writeReg, decide_eq_false hstart, Bool.false_and]
    exact if_neg Bool.false_ne_true

theorem writeBar_of_unreached {p : Party} {a u : Nat} {r : Reg} (v : Word) (hat : regAt .bar0 a = some (r, u))
    (h : s.dev.reaches (p == .cp) r = false ∨ s.dev.absent r u = true) : s.writeBar p a v = s := by
  unfold State.writeBar
  rw [hat]
  exact if_pos (by rcases h with h | h <;> simp [h])

end

end Sys2Proof.Laws

namespace Sys2Proof.Proofs

open Sys2Proof.Machine Sys2Proof.Safety Sys2Proof.Laws

section
variable {s : State} {w : BusWrite} {r : Reg} {u : Nat}

/-- The registers of BAR0 that a whole dword of the host stores without further effect, K of RING_CTRL apart. -/
def plainRegs : List Reg := [Reg.RING_CTRL, .RING_TEL_CFG, .RING_TEL_DA_HI, .RING_TEL_DA_LO, .RING_HOST_TAIL, .CNT_IDX, .ALM_ENABLE, .ALM_ROUTE,
  .ALM_REEN_IDX, .UPD_CFG, .UPD_ERASE_ADDR, .PWR_SLEEP_CFG, .PWR_GATE_HOLD, .SW_CFG, .SW_PORT_CFG, .SW_PCP_MAP]

theorem writeReg_of_plain (d : Dev) (v : Word) (hr : r ∈ plainRegs) (hk : r ≠ .RING_CTRL) : d.writeReg r u v = d.store r u v := by
  have hcases : ∀ q ∈ plainRegs, q ≠ .RING_CTRL → ∀ (d : Dev) (u : Nat) (v : Word), d.writeReg q u v = d.store q u v := by
    simp only [plainRegs, List.forall_mem_cons]
    refine ⟨fun h => absurd rfl h, ?_, ?_, ?_, ?_, ?_, ?_, ?_, ?_, ?_, ?_, ?_, ?_, ?_, ?_, ?_, ?_⟩
    all_goals first | exact fun _ _ _ _ => rfl | exact fun _ h => absurd h List.not_mem_nil
  exact hcases r hr hk d u v

theorem writeReg_block (d : Dev) (v : Word) (hspace : r.spec.space = .bar0) (hbase : r.spec.base < 0x100000) :
    d.writeReg r u v = d.writeBlockReg r u v := by
  unfold Dev.writeReg
  dsimp only
  rw [hspace]
  exact if_pos hbase

theorem writeReg_ringCtrl (d : Dev) (v : Word) : d.writeReg .RING_CTRL u v = d.ringCtrlWrite v := by
  rw [writeReg_block d v rfl (by decide), Dev.writeBlockReg, if_neg (by decide)]

theorem store_word_other (d : Dev) (v : Word) {q : Reg} {k : Nat} (h : ¬(q = r ∧ k = u)) : (d.store r u v).word q k = d.word q k :=
  word_setWord_other _ _ h

theorem only_ringCtrlWrite_store (d : Dev) (v : Word) : Only [.ring] [] (d.store .RING_CTRL 0 v) (d.ringCtrlWrite v) := by
  unfold Dev.ringCtrlWrite
  exact .when .refl _ _ (.upd_ring .refl _ (by decide))

/-- A plain register is stored, and of RING_CTRL the Ring engine notes a change of K. -/
theorem only_writeReg_plain (d : Dev) (v : Word) (hr : r ∈ plainRegs) (hu : r = .RING_CTRL → u = 0) :
    Only (if r = .RING_CTRL then [.ring] else []) [] (d.store r u v) (d.writeReg r u v) := by
  by_cases hk : r = .RING_CTRL
  · subst hk
    rw [if_pos rfl, hu rfl, writeReg_ringCtrl]
    exact only_ringCtrlWrite_store d v
  · rw [if_neg hk, writeReg_of_plain d v hr hk]
    exact .refl

theorem plain_not_special : ∀ q ∈ plainRegs, q ∉ specialWrites ∧ (q.hostOnly = false) := by decide

/-- A whole dword of the host to a register that it reaches. -/
theorem askWrite_of_plain (hready : s.dev.pcie.ready = true) (hroom : s.dev.pcie.indQueue.length < 64) (hwaiting : s.dev.pcie.waiting = [])
    (hheld : s.dev.pcie.held = none) (hbar : w.bar = 0) (hsize : w.size = 4) (halign : w.offset % 4 = 0)
    (hat : regAt .bar0 w.offset = some (r, u)) (hr : r ∈ plainRegs) (hu : r = .RING_CTRL → u = 0)
    (hreach : s.dev.reaches false r = true) (hpresent : s.dev.absent r u = false) :
    s.askWrite w = s.onDev (·.writeReg r u (w.data.setWidth 32)) := by
  obtain ⟨hplain, hshared⟩ := plain_not_special r hr
  have hwrite : s.hostWrite w = s.onDev (·.writeReg r u (w.data.setWidth 32)) := by
    rw [hostWrite_of_dword hsize halign hbar, writeBar_of_register hat hreach hpresent (by rw [hshared, Bool.false_and]) hplain]
  have hpcie : (s.dev.writeReg r u (w.data.setWidth 32)).pcie = s.dev.pcie := by
    refine ((only_writeReg_plain s.dev (w.data.setWidth 32) hr hu).part .pcie ?_).trans rfl
    split <;> decide
  rw [askWrite_of_taken hready (busRefused_of_register hsize halign hbar hat), ask_write_of_room hroom hwaiting hheld, hwrite]
  rw [hwrite, onDev_dev, hpcie]
  exact ⟨hwaiting, hheld⟩

theorem completes_plainWrite (hparty : w.party = .host) (hready : s.dev.pcie.ready = true) (hroom : s.dev.pcie.indQueue.length < 64)
    (hwaiting : s.dev.pcie.waiting = []) (hheld : s.dev.pcie.held = none) (hbar : w.bar = 0) (hsize : w.size = 4)
    (halign : w.offset % 4 = 0) (hat : regAt .bar0 w.offset = some (r, u)) (hr : r ∈ plainRegs)
    (hreach : s.dev.reaches false r = true) (hpresent : s.dev.absent r u = false) :
    Completes (.registerWrite w.round) s (fun t => t.dev.word r u = (s.dev.store r u (w.data.setWidth 32)).word r u ∧
      (∀ k, k ≠ u → t.dev.word r k = s.dev.word r k) ∧ Frame (if r = .RING_CTRL then [.ring] else []) [r] s t) := by
  have hu : r = .RING_CTRL → u = 0 := by
    rintro rfl
    obtain ⟨-, -, -, hunit⟩ := regAt_some hat
    exact unit_of_single hunit
  have honly := only_writeReg_plain s.dev (w.data.setWidth 32) hr hu
  refine completes_of_next (exec_hostWrite hparty) ?_
  rw [askWrite_of_plain hready hroom hwaiting hheld hbar hsize halign hat hr hu hreach hpresent]
  refine ⟨?_, fun k hk => ?_, ?_, onDev_flash s _, onDev_pending s _⟩ <;> rw [onDev_dev]
  · exact honly.word r u List.not_mem_nil
  · rw [honly.word r k List.not_mem_nil, store_word_other _ _ (fun h => hk h.2)]
  · exact (Only.refl.setWord r u _ (List.mem_singleton.2 rfl)).andThen honly (fun _ hp => hp) (fun _ hq => nomatch hq)

theorem completes_unreachedWrite (hparty : w.party = .host) (hready : s.dev.pcie.ready = true) (hroom : s.dev.pcie.indQueue.length < 64)
    (hwaiting : s.dev.pcie.waiting = []) (hheld : s.dev.pcie.held = none) (hbar : w.bar = 0) (hsize : w.size = 4)
    (halign : w.offset % 4 = 0) (hat : regAt .bar0 w.offset = some (r, u))
    (h : s.dev.reaches false r = false ∨ s.dev.absent r u = true) : Completes (.registerWrite w.round) s (fun t => t = s) := by
  have hwrite : s.hostWrite w = s := by
    rw [hostWrite_of_dword hsize halign hbar, writeBar_of_unreached _ hat h]
  refine completes_of_next (exec_hostWrite hparty) ?_
  rw [askWrite_of_taken hready (busRefused_of_register hsize halign hbar hat), ask_write_of_room hroom hwaiting hheld, hwrite]
  rw [hwrite]
  exact ⟨hwaiting, hheld⟩

/-! ## RING_TEL_DA_LO, which lies at 0x8048 -/

theorem regAt_telLow : regAt .bar0 0x8048 = some (.RING_TEL_DA_LO, 0) := by decide

theorem reaches_telLow {d : Dev} (cp : Bool) (h : d.fastReach = true) : d.reaches cp .RING_TEL_DA_LO = true := by
  obtain ⟨hfirn, hon⟩ := Bool.and_eq_true_iff.1 h
  obtain ⟨hrom, hrecovery⟩ := Bool.and_eq_true_iff.1 hfirn
  simp only [Dev.reaches, hrom, hon, beq_false_of_ne (bne_iff_ne.1 hrecovery), Bool.true_and, Bool.false_eq_true, if_false, Bool.or_true,
    Bool.true_or]

theorem absent_telLow (d : Dev) : d.absent .RING_TEL_DA_LO 0 = false := Bool.and_false _

theorem putBits_whole (old v : Word) : putBits old 0 32 (bitsOf v.toNat 0 32) = v := by
  have hv : bitsOf v.toNat 0 32 = v.toNat := by
    rw [bitsOf, Nat.pow_zero, Nat.div_one, Nat.mod_eq_of_lt v.isLt]
  have hwhole (w : Word) : w.toNat = bitsOf w.toNat 0 32 := by
    rw [bitsOf, Nat.pow_zero, Nat.div_one, Nat.mod_eq_of_lt w.isLt]
  apply BitVec.eq_of_toNat_eq
  rw [hwhole (putBits old 0 32 _), bitsOf_putBits_same _ _ _ _ (by decide), hv, Nat.mod_eq_of_lt v.isLt]

/-- The register is one field of 32 bits. -/
theorem store_telLow_word (d : Dev) (v : Word) : (d.store .RING_TEL_DA_LO 0 v).word .RING_TEL_DA_LO 0 = v := by
  have hmask : (d.small && Reg.isPortMask .RING_TEL_DA_LO) = false := Bool.and_false _
  rw [Dev.store, hmask]
  simp only [Bool.false_eq_true, if_false, word_setWord_same]
  exact putBits_whole _ v

theorem completes_telLow (hparty : w.party = .host) (hready : s.dev.pcie.ready = true) (hroom : s.dev.pcie.indQueue.length < 64)
    (hwaiting : s.dev.pcie.waiting = []) (hheld : s.dev.pcie.held = none) (hbar : w.bar = 0) (hofs : w.offset = 0x8048)
    (hsize : w.size = 4) (hreach : s.dev.fastReach = true) : Completes (.registerWrite w.round) s (fun t =>
      t.dev.word .RING_TEL_DA_LO 0 = w.data.setWidth 32 ∧ Frame [] [.RING_TEL_DA_LO] s t) := by
  obtain ⟨t, hexec, hword, -, hframe⟩ := completes_plainWrite (r := .RING_TEL_DA_LO) (u := 0) hparty hready hroom hwaiting hheld hbar hsize
    (by rw [hofs]) (by rw [hofs, regAt_telLow]) (by decide) (reaches_telLow false hreach) (absent_telLow s.dev)
  exact ⟨t, hexec, hword.trans (store_telLow_word _ _), hframe⟩

/-! ## Half a dword -/

theorem badAccess_source (d : Dev) {source : Nat} (kind ofs : Nat) (h : source < 4) :
    (d.badAccess source kind ofs).get F.GLB_BAD_ACC_SOURCE = source := by
  rw [Dev.badAccess, get_countDev _ _ _ _ _ rfl, get_setWord_other _ _ _ _ _ _ (by decide), get_setB_apart _ _ _ _ _ _ (by decide) (by decide),
    get_set_apart _ _ _ _ _ _ (by decide) (by decide), get_set_same _ _ _ _ (by decide)]
  exact Nat.mod_eq_of_lt h

theorem badAccess_kind (d : Dev) (source : Nat) {kind : Nat} (ofs : Nat) (h : kind < 8) :
    (d.badAccess source kind ofs).get F.GLB_BAD_ACC_KIND = kind := by
  rw [Dev.badAccess, get_countDev _ _ _ _ _ rfl, get_setWord_other _ _ _ _ _ _ (by decide), get_setB_apart _ _ _ _ _ _ (by decide) (by decide),
    get_set_same _ _ _ _ (by decide)]
  exact Nat.mod_eq_of_lt h

theorem badAccess_offset (d : Dev) (source kind ofs : Nat) :
    (d.badAccess source kind ofs).word .GLB_BAD_ACC_OFS 0 = BitVec.ofNat 32 ofs := by
  rw [Dev.badAccess, countDev_word, word_setWord_same]

theorem badAccess_endpoint (d : Dev) (source kind ofs : Nat) (hwaiting : d.pcie.waiting = []) (hheld : d.pcie.held = none) :
    (d.badAccess source kind ofs).pcie.waiting = [] ∧ (d.badAccess source kind ofs).pcie.held = none := by
  have hreport := report_countDev ((((d.set F.GLB_BAD_ACC_SOURCE source).set F.GLB_BAD_ACC_KIND kind).setB F.GLB_BAD_ACC_EVENT true).setWord
    .GLB_BAD_ACC_OFS 0 (BitVec.ofNat 32 ofs)) 302 1
  obtain ⟨l, hl⟩ := hreport.pcie
  rw [setWord_pcie, setB_pcie, set_pcie, set_pcie] at hl
  rw [Dev.badAccess, hl]
  exact ⟨hwaiting, hheld⟩

theorem completes_halfWrite (hparty : w.party = .host) (hready : s.dev.pcie.ready = true) (hroom : s.dev.pcie.indQueue.length < 64)
    (hwaiting : s.dev.pcie.waiting = []) (hheld : s.dev.pcie.held = none) (hbar : w.bar = 0) (hofs : w.offset = 0x8048)
    (hsize : w.size = 2) (hstage : s.dev.stage ≠ 0) : Completes (.registerWrite w.round) s (fun t =>
      t.dev.get F.GLB_BAD_ACC_SOURCE = 1 ∧ t.dev.get F.GLB_BAD_ACC_KIND = 1 ∧ t.dev.word .GLB_BAD_ACC_OFS 0 = 0x8048 ∧
      t.dev.word .RING_TEL_DA_LO 0 = s.dev.word .RING_TEL_DA_LO 0) := by
  have hfits : busRefused w = false := by
    simp [busRefused, busCrosses, hbar, hofs, hsize, barSize]
  have hdwords : busDwords w = [(0x8048, BitVec.ofNat 32 (w.data.toNat / 2 ^ 0), false)] := by
    rw [busDwords, hofs, hsize]
    rfl
  have hwrite : s.hostWrite w = s.onDev (·.badAccess 1 1 0x8048) := by
    rw [State.hostWrite, hdwords]
    simp [hbar, regAt_telLow, hstage]
  refine completes_of_next (exec_hostWrite hparty) ?_
  rw [askWrite_of_taken hready hfits, ask_write_of_room hroom hwaiting hheld, hwrite, onDev_dev]
  · exact ⟨badAccess_source _ _ _ (by decide), badAccess_kind _ _ _ (by decide), badAccess_offset _ _ _ _,
      (only_badAccess s.dev 1 1 0x8048).word _ _ (by decide)⟩
  · rw [hwrite, onDev_dev]
    exact badAccess_endpoint _ _ _ _ hwaiting hheld

/-! ## Accesses that are refused or wait -/

theorem completes_refusedWrite (hparty : w.party = .host) (h : s.dev.pcie.ready = false ∨ busRefused w = true) :
    Completes (.registerWrite w.round) s (fun t => t.dev.sent = s.dev.sent ++ [.unsupported] ∧ Frame [.sent] [] s t) := by
  refine completes_of_next (exec_hostWrite hparty) ?_
  rw [askWrite_of_refused h]
  exact ⟨rfl, .emit .refl _ (by decide), rfl, rfl⟩

theorem completes_refusedRead {x : BusRead} (hparty : x.party = .host) (h : s.dev.pcie.ready = false ∨ readRefused x = true) :
    Completes (.registerWrite x.round) s (fun t => t.dev.sent = s.dev.sent ++ [.unsupported] ∧ Frame [.sent] [] s t) := by
  refine completes_of_next (exec_hostRead hparty) ?_
  rw [askRead_of_refused h]
  exact ⟨rfl, .emit .refl _ (by decide), rfl, rfl⟩

theorem completes_waitingWrite (hparty : w.party = .host) (hready : s.dev.pcie.ready = true) (hfits : busRefused w = false)
    (hfull : 64 ≤ s.dev.pcie.indQueue.length) (hheld : s.dev.pcie.held = none) (hposted : ∀ x ∈ s.dev.pcie.waiting, x.posted = true) :
    Completes (.registerWrite w.round) s (fun t => t.dev.pcie.waiting = s.dev.pcie.waiting ++ [.write w] ∧ Frame [.pcie] [] s t) := by
  refine completes_of_next (exec_hostWrite hparty) ?_
  rw [askWrite_of_taken hready hfits, ask_write_of_full hfull hheld hposted]
  exact ⟨rfl, .upd_pcie .refl _ (by decide), rfl, rfl⟩

/-! ## Reads -/

/-- A read of the identity registers, which nothing changes. -/
theorem readReg_serialHi (d : Dev) : d.readReg .GLB_SERIAL_HI 0 = d.ident.serialHi := by
  have habsent : d.absent .GLB_SERIAL_HI 0 = false := Bool.and_false _
  rw [Dev.readReg, habsent, if_neg Bool.false_ne_true, if_neg (by decide)]

theorem readReg_id (d : Dev) : d.readReg .GLB_ID 0 = BitVec.ofNat 32 (d.ident.variant % 16 + 16 * (d.ident.dieStep % 16)) := by
  have habsent : d.absent .GLB_ID 0 = false := Bool.and_false _
  rw [Dev.readReg, habsent, if_neg Bool.false_ne_true, if_neg (by decide)]

theorem reaches_global {d : Dev} (cp : Bool) {q : Reg} (h : d.stage ≠ 0) (hkept : q.inRecovery = true) (hslow : q.isFast = false) :
    d.reaches cp q = true := by
  simp [Dev.reaches, h, hkept, hslow]

/-- A register whose read has no side effect. -/
theorem hostRead_of_plain {t : State} {a : Nat} {q : Reg} {k : Nat} (hat : regAt .bar0 a = some (q, k))
    (hreach : t.dev.reaches false q = true) (hplain : q ∉ [Reg.TIO_REC, .ALM_LOG_W, .WIDE_D, .RING_AREA_DATA]) :
    t.hostRead 16 a = (t, t.dev.readReg q k) := by
  have hread : t.dev.readAt q k = (t.dev, t.dev.readReg q k) := by
    simp only [List.mem_cons, List.not_mem_nil, or_false, not_or] at hplain
    obtain ⟨hrec, hlog, hwide, harea⟩ := hplain
    unfold Dev.readAt
    split
    next h =>
      unfold Dev.readReg
      rw [if_pos h]
    next => simp [hrec, hlog, hwide, harea]
  rw [hostRead_bar0, State.readWord]
  simp only [if_true, hat, Dev.readPlace]
  rw [show (Party.host == Party.cp) = false from rfl, hreach]
  simp only [bne_self_eq_false, Bool.and_false, Bool.not_false, Bool.and_self, if_true, hread]
  rfl

theorem receive_read_bar0 (x : BusRead) (hbar : x.bar = 0) {l : List (Nat × Nat)}
    (hplaces : s.dev.readPlaces 0 (readDwords x.offset x.size) = (s.dev, l)) :
    s.receive (.read x) = withHeld s ⟨[], l, x.offset % 4, x.size⟩ := by
  rw [State.receive, hbar]
  simp only [show ¬((0 : Nat) = 2) by decide, if_false, withHeld, State.onDev, hplaces]

/-- A read of an idle host whose dwords change nothing. -/
theorem askRead_of_plain {x : BusRead} {l : List (Nat × Nat)} {ws : List Word} (hidle : hostIdle s.dev = true) (hbar : x.bar = 0)
    (hfits : readRefused x = false) (hplaces : s.dev.readPlaces 0 (readDwords x.offset x.size) = (s.dev, l))
    (hwords : (withHeld s ⟨[], l, x.offset % 4, x.size⟩).readOn ⟨[], l, x.offset % 4, x.size⟩ l =
      readDone (withHeld s ⟨[], l, x.offset % 4, x.size⟩) ⟨[], l, x.offset % 4, x.size⟩ ws) :
    s.askRead x = s.onDev (·.emit (.readData (bytesOf ws (x.offset % 4) x.size))) := by
  obtain ⟨hready, hqueue, hwaiting, hheld⟩ := (hostIdle_iff s.dev).1 hidle
  have hask : s.askRead x = s.ask (.read x) := by
    rw [State.askRead, hready, hfits, hbar]
    rfl
  have hsame : readDone (withHeld s ⟨[], l, x.offset % 4, x.size⟩) ⟨[], l, x.offset % 4, x.size⟩ ws =
      s.onDev (·.emit (.readData (bytesOf ws (x.offset % 4) x.size))) :=
    congrArg (fun e : Dev => ({ s with dev := e.emit (.readData (bytesOf ws (x.offset % 4) x.size)) } : State)) (releaseHeld s.dev hheld _)
  rw [hask, ask_of_idle hidle, receive_read_bar0 x hbar hplaces]
  refine (goOn_of_read (s := withHeld s ⟨[], l, x.offset % 4, x.size⟩) 4 hqueue rfl ?_ ?_).trans (hwords.trans hsame)
  · rw [hwords]
    rfl
  · rw [hwords]
    exact hwaiting

theorem regAt_serialHi : regAt .bar0 4 = some (.GLB_SERIAL_HI, 0) := by decide
theorem regAt_id : regAt .bar0 0 = some (.GLB_ID, 0) := by decide

theorem hostRead_serialHi {t : State} (hstage : t.dev.stage ≠ 0) : t.hostRead 16 4 = (t, t.dev.ident.serialHi) := by
  rw [hostRead_of_plain regAt_serialHi (reaches_global false hstage (by decide) (by decide)) (by decide), readReg_serialHi]

theorem hostRead_id {t : State} (hstage : t.dev.stage ≠ 0) :
    t.hostRead 16 0 = (t, BitVec.ofNat 32 (t.dev.ident.variant % 16 + 16 * (t.dev.ident.dieStep % 16))) := by
  rw [hostRead_of_plain regAt_id (reaches_global false hstage (by decide) (by decide)) (by decide), readReg_id]

/-- The first word of a read of BAR0 is read, and the rest follow. -/
theorem readOn_of_plain {t : State} {a : Nat} {v : Word} (x : HeldRead) (l : List (Nat × Nat)) (h : t.hostRead 16 a = (t, v)) :
    t.readOn x ((16, a) :: l) = t.readOn { x with got := x.got ++ [v], left := l } l := by
  have hfree : t.dev.readHeld 16 a = false := rfl
  rw [State.readOn, hfree, if_neg Bool.false_ne_true, h]

theorem completes_serialRead {x : BusRead} (hparty : x.party = .host) (hidle : hostIdle s.dev = true) (hstage : s.dev.stage ≠ 0)
    (hbar : x.bar = 0) (hofs : x.offset = 4) (hlow : 1 ≤ x.size) (hhigh : x.size ≤ 4) : Completes (.registerWrite x.round) s (fun t =>
      t.dev.sent = s.dev.sent ++ [.readData ((s.dev.readReg .GLB_SERIAL_HI 0).toNat % 2 ^ (8 * x.size))] ∧ Frame [.sent] [] s t) := by
  have hplaces : s.dev.readPlaces 0 (readDwords x.offset x.size) = (s.dev, [(16, 4)]) := by
    have hone : readDwords 4 x.size = [4] := by
      have hin : decide (4 < 4 + x.size) = true := decide_eq_true (by omega)
      have hout : decide (8 < 4 + x.size) = false := decide_eq_false (by omega)
      show [4, 8].filter (fun a => decide (a < 4 + x.size)) = [4]
      simp only [List.filter, hin, hout]
    rw [hofs, hone]
    rfl
  have hfits : readRefused x = false := by
    simp [readRefused, busCrosses, hbar, hofs, barSize]
    omega
  have hwords (y : HeldRead) (hy : y.got = []) : (withHeld s y).readOn y [(16, 4)] = readDone (withHeld s y) y [s.dev.ident.serialHi] := by
    rw [readOn_of_plain y [] (hostRead_serialHi (t := withHeld s y) hstage), State.readOn, hy]
    rfl
  refine completes_of_next (exec_hostRead hparty) ?_
  rw [askRead_of_plain hidle hbar hfits hplaces (hwords _ rfl), hofs, readReg_serialHi, bytesOf_low _ hhigh]
  exact ⟨rfl, .emit .refl _ (by decide), rfl, rfl⟩

theorem leNat_append (a b : List Byte) : leNat (a ++ b) = leNat a + 256 ^ a.length * leNat b := by
  induction a with
  | nil => simp [leNat]
  | cons x a ih =>
    have hcons (l : List Byte) : leNat (x :: l) = leNat l * 256 + x.toNat := rfl
    rw [List.cons_append, hcons, hcons, ih, List.length_cons, Nat.pow_succ]
    ring

/-- Two words, the lower in the low half. -/
theorem bytesOf_pair (v w : Word) : bytesOf [v, w] 0 8 = v.toNat + 2 ^ 32 * w.toNat := by
  have hv := v.isLt
  have hw := w.isLt
  have hlen : (leBytes 4 v.toNat).length = 4 := rfl
  simp only [bytesOf, List.flatMap_cons, List.flatMap_nil, List.append_nil, leNat_append, leNat_leBytes, hlen, Nat.mul_zero, Nat.pow_zero,
    Nat.div_one]
  omega

theorem completes_pairRead {x : BusRead} (hparty : x.party = .host) (hidle : hostIdle s.dev = true) (hstage : s.dev.stage ≠ 0)
    (hbar : x.bar = 0) (hofs : x.offset = 0) (hsize : x.size = 8) : Completes (.registerWrite x.round) s (fun t =>
      t.dev.sent = s.dev.sent ++ [.readData ((s.dev.readReg .GLB_ID 0).toNat + 2 ^ 32 * (s.dev.readReg .GLB_SERIAL_HI 0).toNat)] ∧
      Frame [.sent] [] s t) := by
  have hplaces : s.dev.readPlaces 0 (readDwords x.offset x.size) = (s.dev, [(16, 0), (16, 4)]) := by
    rw [hofs, hsize]
    rfl
  have hfits : readRefused x = false := by
    simp [readRefused, busCrosses, hbar, hofs, hsize, barSize]
  have hwords (y : HeldRead) (hy : y.got = []) : (withHeld s y).readOn y [(16, 0), (16, 4)] =
      readDone (withHeld s y) y [BitVec.ofNat 32 (s.dev.ident.variant % 16 + 16 * (s.dev.ident.dieStep % 16)), s.dev.ident.serialHi] := by
    rw [readOn_of_plain y [(16, 4)] (hostRead_id (t := withHeld s y) hstage),
      readOn_of_plain _ [] (hostRead_serialHi (t := withHeld s y) hstage), State.readOn, hy]
    rfl
  refine completes_of_next (exec_hostRead hparty) ?_
  rw [askRead_of_plain hidle hbar hfits hplaces (hwords _ rfl), hofs, hsize, readReg_id, readReg_serialHi, bytesOf_pair]
  exact ⟨rfl, .emit .refl _ (by decide), rfl, rfl⟩

/-! ## A round of two writes -/

/-- A processor's whole dword to RING_TEL_DA_LO is stored. -/
theorem partyWrite_telLow (v : Word) (hreach : s.dev.fastReach = true) :
    s.partyWrite ⟨.fsp, 0, 0x8048, 4, v.setWidth 64⟩ = s.onDev (·.writeReg .RING_TEL_DA_LO 0 v) := by
  have hdwords : wholeDwords ⟨.fsp, 0, 0x8048, 4, v.setWidth 64⟩ = [(0x8048, v)] := by
    rw [wholeDwords, busDwords_of_dword rfl (show (0x8048 : Nat) % 4 = 0 from rfl)]
    simp
  rw [State.partyWrite, hdwords, List.foldl_cons, List.foldl_nil]
  dsimp only
  rw [if_pos rfl]
  exact writeBar_of_register regAt_telLow (reaches_telLow _ hreach) (absent_telLow _) (by decide) (by decide)

/-- Of two accesses of one cycle the FSP's is granted first (R357). -/
theorem exec_hostAndFsp {w v : BusWrite} (hw : w.party = .host) (hv : v.party = .fsp) :
    exec (.registerWrite ⟨[.write w, .write v], []⟩) s = .next ((s.partyWrite v).askWrite w) := by
  have hgranted : roundGranted ⟨[.write w, .write v], []⟩ = [.write v, .write w] := by
    simp [roundGranted, BusAccess.party, hw, hv]
  have hfsp (t : State) : t.grant (.write v) = t.partyWrite v := by
    rw [State.grant, hv]
  have hhost (t : State) : t.grant (.write w) = t.askWrite w := by
    rw [State.grant, hw]
  show Host.Outcome.next (([] : List HwEvent).foldl _ ((roundGranted _).foldl State.grant s)) = _
  rw [hgranted, List.foldl_nil, List.foldl_cons, List.foldl_cons, List.foldl_nil, hfsp, hhost]

/-- The host's word stands, whose access the ring grants last (R357). -/
theorem completes_round {a b : Word} (hidle : hostIdle s.dev = true) (hreach : s.dev.fastReach = true) : Completes (.registerWrite
    ⟨[.write ⟨.host, 0, 0x8048, 4, a.setWidth 64⟩, .write ⟨.fsp, 0, 0x8048, 4, b.setWidth 64⟩], []⟩) s (fun t =>
      t.dev.word .RING_TEL_DA_LO 0 = a ∧ Frame [] [.RING_TEL_DA_LO] s t) := by
  obtain ⟨hready, hqueue, hwaiting, hheld⟩ := (hostIdle_iff s.dev).1 hidle
  have hstore (d : Dev) (v : Word) : d.writeReg .RING_TEL_DA_LO 0 v = d.store .RING_TEL_DA_LO 0 v :=
    writeReg_of_plain d v (by decide) (by decide)
  have honly (d : Dev) (v : Word) : Only [] [.RING_TEL_DA_LO] d (d.writeReg .RING_TEL_DA_LO 0 v) := by
    rw [hstore]
    exact .setWord .refl _ _ _ (by decide)
  have hfirst := partyWrite_telLow b hreach
  have hpcie : (s.dev.writeReg .RING_TEL_DA_LO 0 b).pcie = s.dev.pcie := (honly s.dev b).part .pcie (by decide)
  have hreach' : (s.onDev (·.writeReg .RING_TEL_DA_LO 0 b)).dev.fastReach = true := by
    rw [onDev_dev, Dev.fastReach, Dev.firnReach, (honly s.dev b).stage (by decide), Dev.fastOn, Dev.fast,
      (honly s.dev b).get F.PWR_STAT_FAST 0 (by decide)]
    exact hreach
  have hsecond : (s.onDev (·.writeReg .RING_TEL_DA_LO 0 b)).askWrite ⟨.host, 0, 0x8048, 4, a.setWidth 64⟩ =
      (s.onDev (·.writeReg .RING_TEL_DA_LO 0 b)).onDev (·.writeReg .RING_TEL_DA_LO 0 a) := by
    have hwidth : (a.setWidth 64).setWidth 32 = a := by simp
    have hask := askWrite_of_plain (s := s.onDev (·.writeReg .RING_TEL_DA_LO 0 b)) (w := ⟨.host, 0, 0x8048, 4, a.setWidth 64⟩)
      (r := .RING_TEL_DA_LO) (u := 0) (by rw [onDev_dev, hpcie, hready]) (by rw [onDev_dev, hpcie, hqueue]; decide)
      (by rw [onDev_dev, hpcie, hwaiting]) (by rw [onDev_dev, hpcie, hheld]) rfl rfl (show (0x8048 : Nat) % 4 = 0 from rfl) regAt_telLow (by decide)
      (fun h => absurd h (by decide)) (reaches_telLow false hreach') (absent_telLow _)
    rw [hwidth] at hask
    exact hask
  refine completes_of_next (t := (s.onDev (·.writeReg .RING_TEL_DA_LO 0 b)).onDev (·.writeReg .RING_TEL_DA_LO 0 a)) ?_ ?_
  · rw [exec_hostAndFsp rfl rfl, hfirst, hsecond]
  · refine ⟨?_, ?_, by rw [onDev_flash, onDev_flash], by rw [onDev_pending, onDev_pending]⟩
    · rw [onDev_dev, hstore, store_telLow_word]
    · rw [onDev_dev, onDev_dev]
      exact (honly s.dev b).andThen (honly _ a) (fun _ h => h) (fun _ h => h)

end

/-- Settles O45: each access of the host by whether it is refused, waits, or is applied, and a write by the register at its offset. -/
theorem hostRegisterWrites : Obligations.HostRegisterWrites := by
  refine ⟨fun s w r a b hw hr => ⟨?_, ?_, ?_, ?_, ?_, ?_⟩, fun s w r u hw hready hroom hwaiting hheld hbar hsize halign hat => ⟨?_, ?_⟩⟩
  · exact fun hready hroom hwaiting hheld hbar hofs =>
      ⟨fun hsize hreach => completes_telLow hw hready hroom hwaiting hheld hbar hofs hsize hreach,
        fun hsize hstage => completes_halfWrite hw hready hroom hwaiting hheld hbar hofs hsize hstage⟩
  · exact completes_refusedWrite hw
  · exact fun hready hfits hfull hheld hposted => completes_waitingWrite hw hready hfits hfull hheld hposted
  · exact completes_refusedRead hr
  · exact fun hidle hstage hbar => ⟨fun hofs hlow hhigh => completes_serialRead hr hidle hstage hbar hofs hlow hhigh,
      fun hofs hsize => completes_pairRead hr hidle hstage hbar hofs hsize⟩
  · exact fun hidle hreach => completes_round hidle hreach
  · exact fun hplain hreach hpresent => completes_plainWrite hw hready hroom hwaiting hheld hbar hsize halign hat hplain hreach hpresent
  · exact completes_unreachedWrite hw hready hroom hwaiting hheld hbar hsize halign hat

end Sys2Proof.Proofs

/-! SUPPORT. Laws of the forwarding database: its entries, ageing and commands. -/

namespace Sys2Proof.Laws

open Sys2Proof.Machine Sys2Proof.Safety

variable {d e : Dev} {i : Nat}

/-- The registers of the database. -/
def fdbRegs : List Reg := [.FDB_W0, .FDB_W1, .FDB_W2, .FDB_W3]

/-! ## Entries -/

theorem fdbPut_w0 (w0 w1 w2 w3 : Nat) : (d.fdbPut i w0 w1 w2 w3).word .FDB_W0 i = BitVec.ofNat 32 w0 := by
  rw [Dev.fdbPut, word_setWord_other _ _ (fun h => absurd h.1 (by decide)), word_setWord_other _ _ (fun h => absurd h.1 (by decide)),
    word_setWord_other _ _ (fun h => absurd h.1 (by decide)), word_setWord_same]

theorem fdbPut_w1 (w0 w1 w2 w3 : Nat) : (d.fdbPut i w0 w1 w2 w3).word .FDB_W1 i = BitVec.ofNat 32 w1 := by
  rw [Dev.fdbPut, word_setWord_other _ _ (fun h => absurd h.1 (by decide)), word_setWord_other _ _ (fun h => absurd h.1 (by decide)),
    word_setWord_same]

theorem fdbPut_w2 (w0 w1 w2 w3 : Nat) : (d.fdbPut i w0 w1 w2 w3).word .FDB_W2 i = BitVec.ofNat 32 w2 := by
  rw [Dev.fdbPut, word_setWord_other _ _ (fun h => absurd h.1 (by decide)), word_setWord_same]

theorem fdbPut_word_unit (w0 w1 w2 w3 : Nat) {j : Nat} (h : j ≠ i) (r : Reg) : (d.fdbPut i w0 w1 w2 w3).word r j = d.word r j := by
  rw [Dev.fdbPut, word_setWord_other _ _ (fun hh => h hh.2), word_setWord_other _ _ (fun hh => h hh.2),
    word_setWord_other _ _ (fun hh => h hh.2), word_setWord_other _ _ (fun hh => h hh.2)]

theorem fdbDrop_w2 : (d.fdbDrop i).word .FDB_W2 i = 0 := fdbPut_w2 _ _ _ _

theorem fdbDrop_word_unit {j : Nat} (h : j ≠ i) (r : Reg) : (d.fdbDrop i).word r j = d.word r j := fdbPut_word_unit _ _ _ _ h r

theorem get_of_word {f : Fld} {u : Nat} (h : e.word f.reg u = d.word f.reg u) : e.get f u = d.get f u := by
  rw [Dev.get, h, Dev.get]

theorem get_of_word_eq {f : Fld} {u : Nat} {w : Word} (h : d.word f.reg u = w) : d.get f u = bitsOf w.toNat f.lo f.width := by
  rw [Dev.get, h]

theorem fdbValid_of_zero (h : d.word .FDB_W2 i = 0) : d.fdbValid i = false := by
  rw [Dev.fdbValid, Dev.flag, Dev.get, show F.FDB_W2_VALID.reg = .FDB_W2 from rfl, h]
  rfl

theorem fdbValid_fdbDrop : (d.fdbDrop i).fdbValid i = false := fdbValid_of_zero fdbDrop_w2

/-- What leaves the database alone leaves every search of it alone. -/
theorem fdbFind_of_only {P : List Part} {R : List Reg} (h : Only P R d e) (hr : ∀ r ∈ fdbRegs, r ∉ R) (vid mac : Nat) :
    e.fdbFind vid mac = d.fdbFind vid mac := by
  have hvalid (j : Nat) : e.fdbValid j = d.fdbValid j := h.flag F.FDB_W2_VALID j (hr .FDB_W2 (by decide))
  have hmac (j : Nat) : e.fdbMac j = d.fdbMac j := by
    rw [Dev.fdbMac, h.get F.FDB_W1_MAC j (hr .FDB_W1 (by decide)), h.get F.FDB_W0_MAC j (hr .FDB_W0 (by decide)), Dev.fdbMac]
  have hvid (j : Nat) : e.get F.FDB_W1_VID j = d.get F.FDB_W1_VID j := h.get _ _ (hr .FDB_W1 (by decide))
  simp only [Dev.fdbFind, hvalid, hmac, hvid]

theorem insertWay_of_only {P : List Part} {R : List Reg} (h : Only P R d e) (hr : ∀ r ∈ fdbRegs, r ∉ R) (vid mac : Nat) :
    e.insertWay vid mac = d.insertWay vid mac := by
  have hvalid (j : Nat) : e.fdbValid j = d.fdbValid j := h.flag F.FDB_W2_VALID j (hr .FDB_W2 (by decide))
  have hretired (j : Nat) : e.fdbRetired j = d.fdbRetired j := h.flag F.FDB_W2_RETIRED j (hr .FDB_W2 (by decide))
  have hstatic (j : Nat) : e.flag F.FDB_W2_STATIC j = d.flag F.FDB_W2_STATIC j := h.flag _ _ (hr .FDB_W2 (by decide))
  have hage (j : Nat) : e.get F.FDB_W2_AGE j = d.get F.FDB_W2_AGE j := h.get _ _ (hr .FDB_W2 (by decide))
  simp only [Dev.insertWay, fdbFind_of_only h hr, Dev.fdbFree, hvalid, hretired, hstatic, hage]

/-! ## Sweeps -/

/-- In a sweep over different entries the word of one is what its own turn makes of it. -/
theorem each_word_of_mem {l : List Nat} {f : Dev → Nat → Dev} {r : Reg} (hnodup : l.Nodup) (hmem : i ∈ l)
    (hother : ∀ (e : Dev) (j : Nat), j ≠ i → (f e j).word r i = e.word r i) (d : Dev) :
    ∃ e, e.word r i = d.word r i ∧ (d.each l f).word r i = (f e i).word r i := by
  obtain ⟨a, b, rfl⟩ := List.append_of_mem hmem
  obtain ⟨-, hb, hab⟩ := List.nodup_append.1 hnodup
  refine ⟨d.each a f, ?_, ?_⟩
  · exact each_keeps d (·.word r i) a f (fun x j hj => hother x j (fun h => hab j hj i List.mem_cons_self h))
  · have hsplit : d.each (a ++ i :: b) f = (f (d.each a f) i).each b f := by
      rw [Dev.each, List.foldl_append, List.foldl_cons]
      rfl
    rw [hsplit]
    exact each_keeps (f (d.each a f) i) (·.word r i) b f (fun x j hj => hother x j (fun h => (List.nodup_cons.1 hb).1 (h ▸ hj)))

theorem ageEntry_word_other {j : Nat} (h : j ≠ i) (r : Reg) : (d.ageEntry j).word r i = d.word r i := by
  have hset (x : Dev) (f : Fld) (v : Nat) : (x.set f v j).word r i = x.word r i := word_set_other _ _ _ _ _ _ (fun hh => h hh.2.symm)
  unfold Dev.ageEntry
  split
  · rfl
  · split
    · rw [hset, hset]
    · split
      · exact hset _ _ _
      · exact fdbDrop_word_unit h.symm r

theorem ageEntry_of_hit (hstatic : d.flag F.FDB_W2_STATIC i = false) (hhit : d.flag F.FDB_W2_HIT i = true) :
    d.ageEntry i = (d.set F.FDB_W2_HIT 0 i).set F.FDB_W2_AGE 0 i := by
  rw [Dev.ageEntry, hstatic, hhit]
  rfl

theorem ageEntry_of_young (hstatic : d.flag F.FDB_W2_STATIC i = false) (hhit : d.flag F.FDB_W2_HIT i = false)
    (hage : d.get F.FDB_W2_AGE i < 3) : d.ageEntry i = d.set F.FDB_W2_AGE (d.get F.FDB_W2_AGE i + 1) i := by
  rw [Dev.ageEntry, hstatic, hhit, if_neg Bool.false_ne_true, if_neg Bool.false_ne_true, if_pos hage]

theorem ageEntry_of_old (hstatic : d.flag F.FDB_W2_STATIC i = false) (hhit : d.flag F.FDB_W2_HIT i = false)
    (hage : d.get F.FDB_W2_AGE i = 3) : d.ageEntry i = d.fdbDrop i := by
  rw [Dev.ageEntry, hstatic, hhit, if_neg Bool.false_ne_true, if_neg Bool.false_ne_true, if_neg (by omega)]

theorem fdbValid_of_mem (h : i ∈ d.fdbEntries) : d.fdbValid i = true := (List.mem_filter.1 h).2

/-- What a sweep leaves of a dynamic entry is what its own turn leaves, of a state in which it stands as before. -/
theorem ageingSweep_of_mem (hon : d.fastOn = true) (hen : d.flag F.SW_CFG_AGE_EN = true) (hnodup : d.fdbEntries.Nodup)
    (hmem : i ∈ d.fdbEntries) : ∃ e : Dev, e.word .FDB_W2 i = d.word .FDB_W2 i ∧
      d.ageingSweep.word .FDB_W2 i = (e.ageEntry i).word .FDB_W2 i := by
  rw [Dev.ageingSweep, hon, hen]
  exact each_word_of_mem hnodup hmem (fun _ _ h => ageEntry_word_other h _) d

theorem each_fdbDrop_of_mem {l : List Nat} (hmem : i ∈ l) (d : Dev) : (d.each l Dev.fdbDrop).word .FDB_W2 i = 0 := by
  have hzero (l : List Nat) : ∀ d : Dev, d.word .FDB_W2 i = 0 → (d.each l Dev.fdbDrop).word .FDB_W2 i = 0 := by
    induction l with
    | nil => exact fun _ h => h
    | cons j l ih =>
      intro d h
      refine ih (d.fdbDrop j) ?_
      by_cases hj : i = j
      · rw [← hj]
        exact fdbDrop_w2
      · rw [fdbDrop_word_unit hj, h]
  obtain ⟨a, b, rfl⟩ := List.append_of_mem hmem
  have hsplit : d.each (a ++ i :: b) Dev.fdbDrop = ((d.each a Dev.fdbDrop).fdbDrop i).each b Dev.fdbDrop := by
    rw [Dev.each, List.foldl_append, List.foldl_cons]
    rfl
  rw [hsplit]
  exact hzero b _ fdbDrop_w2

theorem each_fdbDrop_of_not_mem {l : List Nat} (hmem : i ∉ l) (d : Dev) (r : Reg) : (d.each l Dev.fdbDrop).word r i = d.word r i :=
  each_keeps d (·.word r i) l Dev.fdbDrop (fun _ j hj => fdbDrop_word_unit (fun h : i = j => hmem (h ▸ hj)) r)

/-! ## Commands -/

theorem fdbResult_get {r : Nat} (h : r < 16) : (d.fdbResult r).get F.SW_FDB_CMD_RESULT = r :=
  (get_set_same d _ _ _ (by decide)).trans (Nat.mod_eq_of_lt h)

/-- The words of the command of a new OP. -/
def fdbAsked (d : Dev) (op : Nat) : Dev := d.set F.SW_FDB_CMD_OP op

theorem only_fdbAsked (d : Dev) (op : Nat) : Only [] [.SW_FDB_CMD] d (fdbAsked d op) := .set .refl _ _ _ (by decide)

theorem fdbCmd_of_free {op : Nat} {f : Dev → Dev} (hreach : d.fastReach = true) (h : d.sw.flushing = false) :
    d.reachFast (·.fdbCmd op f) = f (fdbAsked d op) := by
  have hfree : (fdbAsked d op).sw.flushing = false := h
  rw [Dev.reachFast, hreach, if_pos rfl, Dev.fdbCmd, ← fdbAsked, hfree, if_neg Bool.false_ne_true]

theorem fdbCmd_of_flushing {op : Nat} {f : Dev → Dev} (hreach : d.fastReach = true) (h : d.sw.flushing = true) :
    d.reachFast (·.fdbCmd op f) = (fdbAsked d op).fdbResult 4 := by
  have hbusy : (fdbAsked d op).sw.flushing = true := h
  rw [Dev.reachFast, hreach, if_pos rfl, Dev.fdbCmd, ← fdbAsked, hbusy, if_pos rfl]

theorem fdbAsked_find (op : Nat) : (fdbAsked d op).fdbFind (fdbAsked d op).cmdVid (fdbAsked d op).cmdMac = d.fdbFind d.cmdVid d.cmdMac := by
  have h := only_fdbAsked d op
  rw [fdbFind_of_only h (by decide), Dev.cmdVid, Dev.cmdMac, h.get F.SW_FDB_KEY_HI_VID 0 (by decide),
    h.get F.SW_FDB_KEY_HI_MAC 0 (by decide), h.get F.SW_FDB_KEY_LO_MAC 0 (by decide)]
  rfl

/-- The key of the command, and its way, do not depend on its OP. -/
theorem fdbAsked_way (op : Nat) : (fdbAsked d op).insertWay (fdbAsked d op).cmdVid (fdbAsked d op).cmdMac = d.insertWay d.cmdVid d.cmdMac := by
  have h := only_fdbAsked d op
  rw [insertWay_of_only h (by decide), Dev.cmdVid, Dev.cmdMac, h.get F.SW_FDB_KEY_HI_VID 0 (by decide),
    h.get F.SW_FDB_KEY_HI_MAC 0 (by decide), h.get F.SW_FDB_KEY_LO_MAC 0 (by decide)]
  rfl

theorem fdbLookup_of_some (h : d.fdbFind d.cmdVid d.cmdMac = some i) : d.fdbLookup =
    (((d.setWord .SW_FDB_DATA 0 (d.word .FDB_W2 i)).setWord .SW_FDB_MASK 0 (d.word .FDB_W3 i)).set F.SW_FDB_CMD_INDEX i).fdbResult 1 := by
  rw [Dev.fdbLookup, h]

theorem fdbLookup_of_none (h : d.fdbFind d.cmdVid d.cmdMac = none) : d.fdbLookup = d.fdbResult 2 := by
  rw [Dev.fdbLookup, h]

theorem fdbDelete_of_some (h : d.fdbFind d.cmdVid d.cmdMac = some i) : d.fdbDelete = (d.fdbDrop i).fdbResult 1 := by
  rw [Dev.fdbDelete, h]

theorem fdbDelete_of_none (h : d.fdbFind d.cmdVid d.cmdMac = none) : d.fdbDelete = d.fdbResult 2 := by
  rw [Dev.fdbDelete, h]

theorem fdbInsert_of_some (h : d.insertWay d.cmdVid d.cmdMac = some i) : d.fdbInsert =
    ((d.fdbPut i (d.cmdMac % 2 ^ 32) (fdbKeyHi d.cmdVid d.cmdMac) (insertW2 (d.get F.SW_FDB_DATA_W2))
      (d.portMask (d.get F.SW_FDB_MASK_W3))).set F.SW_FDB_CMD_INDEX i).fdbResult 1 := by
  unfold Dev.fdbInsert
  dsimp only
  rw [h]

theorem fdbInsert_of_none (h : d.insertWay d.cmdVid d.cmdMac = none) : d.fdbInsert = d.fdbResult 3 := by
  unfold Dev.fdbInsert
  dsimp only
  rw [h]

/-- READ_IDX shows the words of its entry as they stand before it. -/
theorem fdbRead_eq (d : Dev) (i : Nat) : d.fdbRead i = (((((d.set F.SW_FDB_CMD_INDEX i).setWord .SW_FDB_KEY_LO 0 (d.word .FDB_W0 i)).setWord
    .SW_FDB_KEY_HI 0 (d.word .FDB_W1 i)).setWord .SW_FDB_DATA 0 (d.word .FDB_W2 i)).setWord .SW_FDB_MASK 0 (d.word .FDB_W3 i)).fdbResult
    (if d.fdbRetired i then 6 else 1) := by
  have hset {q : Reg} (hq : q ∈ fdbRegs) : (d.set F.SW_FDB_CMD_INDEX i).word q i = d.word q i :=
    word_set_other _ _ _ _ _ _ (fun h => absurd (h.1 ▸ hq) (by decide))
  have hpast (x : Dev) {r q : Reg} (w : Word) (hr : r ∉ fdbRegs) (hq : q ∈ fdbRegs) : (x.setWord r 0 w).word q i = x.word q i :=
    word_setWord_other _ _ (fun h => hr (h.1 ▸ hq))
  have hretired : (((((d.set F.SW_FDB_CMD_INDEX i).setWord .SW_FDB_KEY_LO 0 (d.word .FDB_W0 i)).setWord .SW_FDB_KEY_HI 0
      (d.word .FDB_W1 i)).setWord .SW_FDB_DATA 0 (d.word .FDB_W2 i)).setWord .SW_FDB_MASK 0 (d.word .FDB_W3 i)).fdbRetired i = d.fdbRetired i := by
    refine congrArg (· == 1) (get_of_word (f := F.FDB_W2_RETIRED) ?_)
    rw [hpast _ _ (by decide) (by decide), hpast _ _ (by decide) (by decide), hpast _ _ (by decide) (by decide),
      hpast _ _ (by decide) (by decide), hset (by decide)]
  unfold Dev.fdbRead
  dsimp only
  rw [hset (by decide), hpast _ _ (by decide) (by decide), hset (by decide), hpast _ _ (by decide) (by decide), hpast _ _ (by decide) (by decide),
    hset (by decide), hpast _ _ (by decide) (by decide), hset (by decide), hretired]

theorem flushMatch_of_only {P : List Part} {R : List Reg} (h : Only P R d e)
    (hr : ∀ r ∈ [Reg.SW_FDB_DATA, .SW_FDB_KEY_HI, .FDB_W1, .FDB_W2, .FDB_W3], r ∉ R) (a b c : Bool) (j : Nat) :
    e.flushMatch a b c j = d.flushMatch a b c j := by
  simp only [Dev.flushMatch, Dev.cmdVid, h.get F.SW_FDB_DATA_W2 0 (hr .SW_FDB_DATA (by decide)), h.flag F.FDB_W2_STATIC j (hr .FDB_W2 (by decide)),
    h.get F.FDB_W1_VID j (hr .FDB_W1 (by decide)), h.get F.SW_FDB_KEY_HI_VID 0 (hr .SW_FDB_KEY_HI (by decide)),
    h.flag F.FDB_W2_MC j (hr .FDB_W2 (by decide)), h.get F.FDB_W3_PORT_MASK j (hr .FDB_W3 (by decide)),
    h.get F.FDB_W2_PORT j (hr .FDB_W2 (by decide))]

theorem filter_tabErase {α : Type} {p : Nat × α → Bool} {k : Nat} (h : ∀ v, p (k, v) = false) (t : Tab α) :
    (tabErase t k).filter p = t.filter p := by
  induction t with
  | nil => rfl
  | cons x t ih =>
    obtain ⟨j, v⟩ := x
    unfold tabErase
    by_cases hj : j = k
    · rw [if_pos hj, ih, hj, List.filter_cons_of_neg (by simp [h])]
    · rw [if_neg hj, List.filter_cons, List.filter_cons, ih]

theorem filter_tabInsert {α : Type} {p : Nat × α → Bool} {k : Nat} (h : ∀ v, p (k, v) = false) (t : Tab α) (v : α) :
    (tabInsert t k v).filter p = t.filter p := by
  induction t with
  | nil => exact List.filter_cons_of_neg (by simp [h])
  | cons x t ih =>
    obtain ⟨j, w⟩ := x
    unfold tabInsert
    by_cases hlt : k < j
    · rw [if_pos hlt, List.filter_cons_of_neg (by simp [h])]
    · by_cases hj : j = k
      · rw [if_neg hlt, if_pos hj, hj, List.filter_cons_of_neg (by simp [h]), List.filter_cons_of_neg (by simp [h])]
      · rw [if_neg hlt, if_neg hj, List.filter_cons, List.filter_cons, ih]

/-- The listed units of a register stay where another register is written. -/
theorem unitsOf_fileSet {r q : Reg} (h : q ≠ r) (t : Tab Word) (u : Nat) (w : Word) : unitsOf (fileSet t r u w) q = unitsOf t q := by
  have hkey (v : Word) : ((regKey r u, v).1 % 512 == q.ctorIdx) = false := by
    have hr := ctorIdx_lt r
    have hq : r.ctorIdx ≠ q.ctorIdx := fun hh => h (ctorIdx_inj hh).symm
    simp only [regKey, beq_eq_false_iff_ne, ne_eq]
    omega
  unfold unitsOf fileSet tabSet
  split
  · rw [filter_tabErase hkey]
  · rw [filter_tabInsert hkey]

theorem fdbEntries_set (f : Fld) (v u : Nat) (h : .FDB_W2 ≠ f.reg) : (d.set f v u).fdbEntries = d.fdbEntries := by
  have hunits : unitsOf (d.set f v u).regs .FDB_W2 = unitsOf d.regs .FDB_W2 := unitsOf_fileSet h _ _ _
  have hvalid (j : Nat) : (d.set f v u).fdbValid j = d.fdbValid j := by
    have hword : (d.set f v u).word F.FDB_W2_VALID.reg j = d.word .FDB_W2 j := word_set_other _ _ _ _ _ _ (fun hh => h hh.1)
    rw [Dev.fdbValid, Dev.flag, Dev.get, hword]
    rfl
  simp only [Dev.fdbEntries, hunits, hvalid]

/-- The words of a FLUSH with its three filters. -/
def flushAsked (d : Dev) (a b c : Bool) : Dev :=
  ((d.setB F.SW_FDB_CMD_BY_PORT a).setB F.SW_FDB_CMD_BY_VID b).setB F.SW_FDB_CMD_STATIC_TOO c

theorem only_flushAsked (d : Dev) (a b c : Bool) : Only [] [.SW_FDB_CMD] d (flushAsked d a b c) :=
  .setB (.setB (.setB .refl _ _ _ (by decide)) _ _ _ (by decide)) _ _ _ (by decide)

theorem flushAsked_entries (a b c : Bool) : (flushAsked d a b c).fdbEntries = d.fdbEntries := by
  rw [flushAsked, Dev.setB, Dev.setB, Dev.setB, fdbEntries_set _ _ _ (by decide), fdbEntries_set _ _ _ (by decide),
    fdbEntries_set _ _ _ (by decide)]

theorem fdbFlush_eq (a b c : Bool) : d.fdbFlush a b c =
    (((flushAsked d a b c).each (d.fdbEntries.filter (d.flushMatch a b c)) Dev.fdbDrop).onSw
      (fun s => { s with flushing := true })).fdbResult 7 := by
  have hmatch : (flushAsked d a b c).flushMatch a b c = d.flushMatch a b c :=
    funext (flushMatch_of_only (only_flushAsked d a b c) (by decide) a b c)
  rw [Dev.fdbFlush, ← flushAsked, flushAsked_entries, hmatch]

theorem fdbFlush_word (a b c : Bool) : (d.fdbFlush a b c).word .FDB_W2 i =
    ((flushAsked d a b c).each (d.fdbEntries.filter (d.flushMatch a b c)) Dev.fdbDrop).word .FDB_W2 i := by
  rw [fdbFlush_eq, Dev.fdbResult, word_set_other _ _ _ _ _ _ (fun h => absurd h.1 (by decide))]
  rfl

theorem fdbFlush_matched {a b c : Bool} (hmem : i ∈ d.fdbEntries) (h : d.flushMatch a b c i = true) :
    (d.fdbFlush a b c).fdbValid i = false := by
  apply fdbValid_of_zero
  rw [fdbFlush_word]
  exact each_fdbDrop_of_mem (List.mem_filter.2 ⟨hmem, h⟩) _

theorem fdbFlush_kept {a b c : Bool} (h : d.flushMatch a b c i = false) : (d.fdbFlush a b c).word .FDB_W2 i = d.word .FDB_W2 i := by
  have hnot : i ∉ d.fdbEntries.filter (d.flushMatch a b c) := fun hh => Bool.false_ne_true (h.symm.trans (List.mem_filter.1 hh).2)
  rw [fdbFlush_word, each_fdbDrop_of_not_mem hnot, (only_flushAsked d a b c).word .FDB_W2 i (by decide)]

theorem fdbFlush_flushing (a b c : Bool) : (d.fdbFlush a b c).sw.flushing = true := by
  rw [fdbFlush_eq]
  generalize (flushAsked d a b c).each (d.fdbEntries.filter (d.flushMatch a b c)) Dev.fdbDrop = x
  rfl

theorem fdbFlush_result (a b c : Bool) : (d.fdbFlush a b c).get F.SW_FDB_CMD_RESULT = 7 := by
  rw [fdbFlush_eq]
  exact fdbResult_get (by decide)

end Sys2Proof.Laws

namespace Sys2Proof.Proofs

open Sys2Proof.Machine Sys2Proof.Safety Sys2Proof.Laws

section

variable {s : State} {i : Nat}

/-! ## Ageing -/

theorem completes_ageing_hit (hon : s.dev.fastOn = true) (hen : s.dev.flag F.SW_CFG_AGE_EN = true) (hnodup : s.dev.fdbEntries.Nodup)
    (hmem : i ∈ s.dev.fdbEntries) (hstatic : s.dev.flag F.FDB_W2_STATIC i = false) (hhit : s.dev.flag F.FDB_W2_HIT i = true) :
    Completes .ageingSweep s (fun t => t.dev.fdbValid i = true ∧ t.dev.flag F.FDB_W2_HIT i = false ∧ t.dev.get F.FDB_W2_AGE i = 0) := by
  obtain ⟨e, hbefore, hafter⟩ := ageingSweep_of_mem hon hen hnodup hmem
  have hturn := ageEntry_of_hit (d := e) (i := i) ((congrArg (· == 1) (get_of_word hbefore)).trans hstatic)
    ((congrArg (· == 1) (get_of_word hbefore)).trans hhit)
  have hvalid : e.fdbValid i = true := (congrArg (· == 1) (get_of_word hbefore)).trans (fdbValid_of_mem hmem)
  rw [hturn] at hafter
  refine completes_of_next rfl ?_
  rw [onDev_dev]
  refine ⟨?_, ?_, ?_⟩
  · rw [Dev.fdbValid, Dev.flag, get_of_word (f := F.FDB_W2_VALID) hafter, get_set_apart _ _ _ _ _ _ (by decide) (by decide),
      get_set_apart _ _ _ _ _ _ (by decide) (by decide)]
    exact hvalid
  · rw [Dev.flag, get_of_word (f := F.FDB_W2_HIT) hafter, get_set_apart _ _ _ _ _ _ (by decide) (by decide), get_set_same _ _ _ _ (by decide)]
    rfl
  · rw [get_of_word (f := F.FDB_W2_AGE) hafter, get_set_same _ _ _ _ (by decide)]
    rfl

theorem completes_ageing_young (hon : s.dev.fastOn = true) (hen : s.dev.flag F.SW_CFG_AGE_EN = true) (hnodup : s.dev.fdbEntries.Nodup)
    (hmem : i ∈ s.dev.fdbEntries) (hstatic : s.dev.flag F.FDB_W2_STATIC i = false) (hhit : s.dev.flag F.FDB_W2_HIT i = false)
    (hage : s.dev.get F.FDB_W2_AGE i < 3) :
    Completes .ageingSweep s (fun t => t.dev.fdbValid i = true ∧ t.dev.get F.FDB_W2_AGE i = s.dev.get F.FDB_W2_AGE i + 1) := by
  obtain ⟨e, hbefore, hafter⟩ := ageingSweep_of_mem hon hen hnodup hmem
  have hsame : e.get F.FDB_W2_AGE i = s.dev.get F.FDB_W2_AGE i := get_of_word hbefore
  have hturn := ageEntry_of_young (d := e) (i := i) ((congrArg (· == 1) (get_of_word hbefore)).trans hstatic)
    ((congrArg (· == 1) (get_of_word hbefore)).trans hhit) (hsame.trans_lt hage)
  have hvalid : e.fdbValid i = true := (congrArg (· == 1) (get_of_word hbefore)).trans (fdbValid_of_mem hmem)
  rw [hturn, hsame] at hafter
  refine completes_of_next rfl ?_
  rw [onDev_dev]
  refine ⟨?_, ?_⟩
  · rw [Dev.fdbValid, Dev.flag, get_of_word (f := F.FDB_W2_VALID) hafter, get_set_apart _ _ _ _ _ _ (by decide) (by decide)]
    exact hvalid
  · rw [get_of_word (f := F.FDB_W2_AGE) hafter, get_set_same _ _ _ _ (by decide)]
    exact Nat.mod_eq_of_lt (Nat.succ_lt_succ hage)

theorem completes_ageing_old (hon : s.dev.fastOn = true) (hen : s.dev.flag F.SW_CFG_AGE_EN = true) (hnodup : s.dev.fdbEntries.Nodup)
    (hmem : i ∈ s.dev.fdbEntries) (hstatic : s.dev.flag F.FDB_W2_STATIC i = false) (hhit : s.dev.flag F.FDB_W2_HIT i = false)
    (hage : s.dev.get F.FDB_W2_AGE i = 3) : Completes .ageingSweep s (fun t => t.dev.fdbValid i = false) := by
  obtain ⟨e, hbefore, hafter⟩ := ageingSweep_of_mem hon hen hnodup hmem
  have hturn := ageEntry_of_old (d := e) (i := i) ((congrArg (· == 1) (get_of_word hbefore)).trans hstatic)
    ((congrArg (· == 1) (get_of_word hbefore)).trans hhit) ((get_of_word (f := F.FDB_W2_AGE) hbefore).trans hage)
  refine completes_of_next rfl (fdbValid_of_zero ?_)
  rw [onDev_dev, hafter, hturn, fdbDrop_w2]

/-! ## Commands on one key -/

theorem completes_fdbLookup (hreach : s.dev.fastReach = true) (hfree : s.dev.sw.flushing = false)
    (hfind : s.dev.fdbFind s.dev.cmdVid s.dev.cmdMac = some i) :
    Completes .fdbLookup s (fun t => t.dev.get F.SW_FDB_CMD_RESULT = 1 ∧ t.dev.word .SW_FDB_DATA 0 = s.dev.word .FDB_W2 i ∧
      t.dev.word .SW_FDB_MASK 0 = s.dev.word .FDB_W3 i) := by
  have hasked := only_fdbAsked s.dev 0
  refine completes_of_next rfl ?_
  rw [onDev_dev, fdbCmd_of_free hreach hfree, fdbLookup_of_some ((fdbAsked_find 0).trans hfind), hasked.word .FDB_W2 i (by decide),
    hasked.word .FDB_W3 i (by decide)]
  refine ⟨fdbResult_get (by decide), ?_, ?_⟩
  · rw [Dev.fdbResult, word_set_other _ _ _ _ _ _ (fun h => absurd h.1 (by decide)), word_set_other _ _ _ _ _ _ (fun h => absurd h.1 (by decide)),
      word_setWord_other _ _ (fun h => absurd h.1 (by decide)), word_setWord_same]
  · rw [Dev.fdbResult, word_set_other _ _ _ _ _ _ (fun h => absurd h.1 (by decide)), word_set_other _ _ _ _ _ _ (fun h => absurd h.1 (by decide)),
      word_setWord_same]

theorem completes_fdbDelete (hreach : s.dev.fastReach = true) (hfree : s.dev.sw.flushing = false)
    (hfind : s.dev.fdbFind s.dev.cmdVid s.dev.cmdMac = some i) :
    Completes .fdbDelete s (fun t => t.dev.get F.SW_FDB_CMD_RESULT = 1 ∧ t.dev.fdbValid i = false) := by
  refine completes_of_next rfl ?_
  rw [onDev_dev, fdbCmd_of_free hreach hfree, fdbDelete_of_some ((fdbAsked_find 2).trans hfind)]
  exact ⟨fdbResult_get (by decide), fdbValid_of_zero ((word_set_other _ _ _ _ _ _ (fun h => absurd h.1 (by decide))).trans fdbDrop_w2)⟩

/-- A refusal shows its result and leaves everything else. -/
theorem fdbRefused {op r : Nat} (h : r < 16) : ((fdbAsked s.dev op).fdbResult r).get F.SW_FDB_CMD_RESULT = r ∧
    Only [] [.SW_FDB_CMD] s.dev ((fdbAsked s.dev op).fdbResult r) :=
  ⟨fdbResult_get h, .fdbResult (only_fdbAsked s.dev op) _ (by decide) (by decide)⟩

theorem completes_fdbRefused {c : Instr} {op r : Nat} {f : Dev → Dev} (hexec : exec c s = .next (s.onDev (·.reachFast (·.fdbCmd op f))))
    (hr : r < 16) (h : s.dev.reachFast (·.fdbCmd op f) = (fdbAsked s.dev op).fdbResult r) :
    Completes c s (fun t => t.dev.get F.SW_FDB_CMD_RESULT = r ∧ Frame [] [.SW_FDB_CMD] s t) := by
  refine completes_of_next hexec ⟨?_, ?_, onDev_flash s _, onDev_pending s _⟩
  · rw [onDev_dev, h]
    exact (fdbRefused hr).1
  · rw [onDev_dev, h]
    exact (fdbRefused hr).2

theorem completes_fdbBusy (hreach : s.dev.fastReach = true) (hbusy : s.dev.sw.flushing = true) {c : Instr} {op : Nat} {f : Dev → Dev}
    (hexec : exec c s = .next (s.onDev (·.reachFast (·.fdbCmd op f)))) :
    Completes c s (fun t => t.dev.get F.SW_FDB_CMD_RESULT = 4 ∧ Frame [] [.SW_FDB_CMD] s t) :=
  completes_fdbRefused hexec (by decide) (fdbCmd_of_flushing hreach hbusy)

/-- An INSERT writes the key and the words of the command in its way. -/
theorem completes_fdbInsert (hreach : s.dev.fastReach = true) (hfree : s.dev.sw.flushing = false)
    (hway : s.dev.insertWay s.dev.cmdVid s.dev.cmdMac = some i) :
    Completes .fdbInsert s (fun t => t.dev.get F.SW_FDB_CMD_RESULT = 1 ∧
      t.dev.fdbMac i = s.dev.cmdMac ∧ t.dev.get F.FDB_W1_VID i = s.dev.cmdVid ∧ t.dev.fdbValid i = true ∧
      t.dev.get F.FDB_W2_PORT i = s.dev.get F.SW_FDB_DATA_W2 % 32) := by
  have hasked := only_fdbAsked s.dev 1
  have hvid : (fdbAsked s.dev 1).cmdVid = s.dev.cmdVid := hasked.get F.SW_FDB_KEY_HI_VID 0 (by decide)
  have hmac : (fdbAsked s.dev 1).cmdMac = s.dev.cmdMac := by
    rw [Dev.cmdMac, hasked.get F.SW_FDB_KEY_HI_MAC 0 (by decide), hasked.get F.SW_FDB_KEY_LO_MAC 0 (by decide)]
    rfl
  have hvlt : s.dev.cmdVid < 2 ^ 12 := bitsOf_lt _ _ _
  have hhigh : s.dev.get F.SW_FDB_KEY_HI_MAC < 2 ^ 16 := bitsOf_lt _ _ _
  have hlow : s.dev.get F.SW_FDB_KEY_LO_MAC < 2 ^ 32 := bitsOf_lt _ _ _
  have hmlt : s.dev.cmdMac < 2 ^ 48 := by
    rw [Dev.cmdMac]
    omega
  refine completes_of_next rfl ?_
  rw [onDev_dev, fdbCmd_of_free hreach hfree, fdbInsert_of_some ((fdbAsked_way 1).trans hway), hvid, hmac]
  generalize (fdbAsked s.dev 1).portMask _ = w3
  rw [hasked.get F.SW_FDB_DATA_W2 0 (by decide)]
  generalize fdbAsked s.dev 1 = x
  generalize s.dev.get F.SW_FDB_DATA_W2 = v
  have hkeep (f : Fld) (y : Dev) (h : f.reg ∈ fdbRegs) : ((y.set F.SW_FDB_CMD_INDEX i).fdbResult 1).get f i = y.get f i := by
    have hr : f.reg ≠ .SW_FDB_CMD := fun hh => absurd (hh ▸ h) (by decide)
    rw [Dev.fdbResult, Dev.get, word_set_other _ _ _ _ _ _ (fun hh => hr hh.1), word_set_other _ _ _ _ _ _ (fun hh => hr hh.1)]
    rfl
  refine ⟨fdbResult_get (by decide), ?_, ?_, ?_, ?_⟩
  · rw [Dev.fdbMac, hkeep _ _ (by decide), hkeep _ _ (by decide), get_of_word_eq (f := F.FDB_W1_MAC) (fdbPut_w1 _ _ _ _), get_of_word_eq (f := F.FDB_W0_MAC) (fdbPut_w0 _ _ _ _)]
    simp only [bitsOf, BitVec.toNat_ofNat, fdbKeyHi, F.FDB_W1_MAC, F.FDB_W0_MAC]
    omega
  · rw [hkeep _ _ (by decide), get_of_word_eq (f := F.FDB_W1_VID) (fdbPut_w1 _ _ _ _)]
    simp only [bitsOf, BitVec.toNat_ofNat, fdbKeyHi, F.FDB_W1_VID]
    omega
  · rw [Dev.fdbValid, Dev.flag, hkeep _ _ (by decide), get_of_word_eq (f := F.FDB_W2_VALID) (fdbPut_w2 _ _ _ _), beq_iff_eq]
    simp only [bitsOf, BitVec.toNat_ofNat, insertW2, F.FDB_W2_VALID]
    omega
  · rw [hkeep _ _ (by decide), get_of_word_eq (f := F.FDB_W2_PORT) (fdbPut_w2 _ _ _ _)]
    simp only [bitsOf, BitVec.toNat_ofNat, insertW2, F.FDB_W2_PORT]
    omega

theorem completes_fdbFull (hreach : s.dev.fastReach = true) (hfree : s.dev.sw.flushing = false)
    (hway : s.dev.insertWay s.dev.cmdVid s.dev.cmdMac = none) : Completes .fdbInsert s (fun t => t.dev.get F.SW_FDB_CMD_RESULT = 3) := by
  refine completes_of_next rfl ?_
  rw [onDev_dev, fdbCmd_of_free hreach hfree, fdbInsert_of_none ((fdbAsked_way 1).trans hway)]
  exact fdbResult_get (by decide)

/-! ## Commands on an index, and FLUSH -/

theorem completes_fdbReadIdx (hreach : s.dev.fastReach = true) (hfree : s.dev.sw.flushing = false) (k : Fin 262144) :
    Completes (.fdbReadIdx k) s (fun t => t.dev.word .SW_FDB_KEY_LO 0 = s.dev.word .FDB_W0 k.val ∧
      t.dev.word .SW_FDB_KEY_HI 0 = s.dev.word .FDB_W1 k.val ∧ t.dev.word .SW_FDB_DATA 0 = s.dev.word .FDB_W2 k.val ∧
      t.dev.get F.SW_FDB_CMD_INDEX = k.val ∧
      t.dev.get F.SW_FDB_CMD_RESULT = (if s.dev.flag F.FDB_W2_RETIRED k.val then 6 else 1)) := by
  refine completes_of_next rfl ?_
  rw [onDev_dev, fdbCmd_of_free hreach hfree]
  have hasked := only_fdbAsked s.dev 3
  have hretired : (fdbAsked s.dev 3).fdbRetired k.val = s.dev.flag F.FDB_W2_RETIRED k.val := hasked.flag F.FDB_W2_RETIRED k.val (by decide)
  rw [fdbRead_eq, hasked.word .FDB_W0 k.val (by decide), hasked.word .FDB_W1 k.val (by decide), hasked.word .FDB_W2 k.val (by decide),
    hretired]
  refine ⟨?_, ?_, ?_, ?_, fdbResult_get (by split <;> decide)⟩
  · rw [Dev.fdbResult, word_set_other _ _ _ _ _ _ (fun h => absurd h.1 (by decide)), word_setWord_other _ _ (fun h => absurd h.1 (by decide)),
      word_setWord_other _ _ (fun h => absurd h.1 (by decide)), word_setWord_other _ _ (fun h => absurd h.1 (by decide)), word_setWord_same]
  · rw [Dev.fdbResult, word_set_other _ _ _ _ _ _ (fun h => absurd h.1 (by decide)), word_setWord_other _ _ (fun h => absurd h.1 (by decide)),
      word_setWord_other _ _ (fun h => absurd h.1 (by decide)), word_setWord_same]
  · rw [Dev.fdbResult, word_set_other _ _ _ _ _ _ (fun h => absurd h.1 (by decide)), word_setWord_other _ _ (fun h => absurd h.1 (by decide)),
      word_setWord_same]
  · rw [Dev.fdbResult, get_set_apart _ _ _ _ _ _ (by decide) (by decide), get_setWord_other _ _ _ _ _ _ (fun h => absurd h.1 (by decide)),
      get_setWord_other _ _ _ _ _ _ (fun h => absurd h.1 (by decide)), get_setWord_other _ _ _ _ _ _ (fun h => absurd h.1 (by decide)),
      get_setWord_other _ _ _ _ _ _ (fun h => absurd h.1 (by decide)), get_set_same _ _ _ _ (by decide)]
    exact Nat.mod_eq_of_lt k.isLt

theorem completes_fdbFlush (hreach : s.dev.fastReach = true) (hfree : s.dev.sw.flushing = false) (a b c : Bool) (hmem : i ∈ s.dev.fdbEntries) :
    Completes (.fdbFlush a b c) s (fun t => t.dev.get F.SW_FDB_CMD_RESULT = 7 ∧
      t.dev.sw.flushing = true ∧ (s.dev.flushMatch a b c i = true → t.dev.fdbValid i = false) ∧
      (s.dev.flushMatch a b c i = false → t.dev.word .FDB_W2 i = s.dev.word .FDB_W2 i)) := by
  have hasked := only_fdbAsked s.dev 4
  have hentries : (fdbAsked s.dev 4).fdbEntries = s.dev.fdbEntries := fdbEntries_set _ _ _ (by decide)
  have hmatch : (fdbAsked s.dev 4).flushMatch a b c i = s.dev.flushMatch a b c i := flushMatch_of_only hasked (by decide) a b c i
  refine completes_of_next rfl ?_
  rw [onDev_dev, fdbCmd_of_free hreach hfree, ← hmatch, ← hasked.word .FDB_W2 i (by decide)]
  exact ⟨fdbFlush_result a b c, fdbFlush_flushing a b c, fun h => fdbFlush_matched (hentries ▸ hmem) h, fun h => fdbFlush_kept h⟩

theorem completes_fdbFlushDone (h : s.dev.sw.flushing = true) :
    Completes .fdbFlushDone s (fun t => t.dev.get F.SW_FDB_CMD_RESULT = 1 ∧ t.dev.sw.flushing = false) := by
  refine completes_of_next rfl ?_
  rw [onDev_dev, Dev.fdbFlushDone, if_pos h]
  exact ⟨fdbResult_get (by decide), rfl⟩

end

/-- Settles O33: ageing by an entry's own turn in the sweep, and each command by what the search of its key finds. -/
theorem forwardingDatabase : Obligations.ForwardingDatabase := by
  refine fun s i => ⟨fun hon hen hnodup hmem hstatic => ⟨?_, ?_, ?_⟩,
    fun hreach hfree => ⟨fun hfind => ⟨?_, ?_⟩, fun hfind => ⟨?_, ?_⟩, ?_, ?_, ?_, fun a b c hmem => ?_, fun op hop => ?_⟩,
    completes_fdbFlushDone, fun hreach hbusy k x y z op c hc => ?_⟩
  · exact completes_ageing_hit hon hen hnodup hmem hstatic
  · exact completes_ageing_young hon hen hnodup hmem hstatic
  · exact completes_ageing_old hon hen hnodup hmem hstatic
  · exact completes_fdbLookup hreach hfree hfind
  · exact completes_fdbDelete hreach hfree hfind
  · exact completes_fdbRefused rfl (by decide) ((fdbCmd_of_free hreach hfree).trans (fdbLookup_of_none ((fdbAsked_find 0).trans hfind)))
  · exact completes_fdbRefused rfl (by decide) ((fdbCmd_of_free hreach hfree).trans (fdbDelete_of_none ((fdbAsked_find 2).trans hfind)))
  · exact completes_fdbInsert hreach hfree
  · exact completes_fdbFull hreach hfree
  · exact completes_fdbReadIdx hreach hfree
  · exact completes_fdbFlush hreach hfree a b c hmem
  · exact completes_fdbRefused rfl (by decide) ((fdbCmd_of_free hreach hfree).trans (if_pos hop))
  · simp only [List.mem_cons, List.not_mem_nil, or_false] at hc
    obtain rfl | rfl | rfl | rfl | rfl | rfl := hc
    · exact completes_fdbBusy hreach hbusy rfl
    · exact completes_fdbBusy hreach hbusy rfl
    · exact completes_fdbBusy hreach hbusy rfl
    · exact completes_fdbBusy hreach hbusy rfl
    · exact completes_fdbBusy hreach hbusy rfl
    · exact completes_fdbBusy hreach hbusy rfl

end Sys2Proof.Proofs

/-! SUPPORT. What a register write stores, field by field. -/

namespace Sys2Proof.Laws

open Sys2Proof.Machine Sys2Proof.Safety

variable {d e : Dev}

/-- Two fields of a word without a bit in common. -/
def disjointFields (f g : FieldSpec) : Bool := decide (g.lo + g.width ≤ f.lo) || decide (f.lo + f.width ≤ g.lo)

/-- Fields that fit a word and share no bit. -/
def fieldsFit (l : List FieldSpec) : Bool :=
  match l with
  | [] => true
  | f :: l => decide (f.lo + f.width ≤ 32) && l.all (disjointFields f) && fieldsFit l

/-- What a write to a field stores. -/
def stored (old v : Word) (f : FieldSpec) : Nat := f.take (bitsOf old.toNat f.lo f.width) (bitsOf v.toNat f.lo f.width)

theorem foldl_stored_apart (l : List FieldSpec) (f : FieldSpec) (old v : Word) (hfit : fieldsFit l = true) (hapart : l.all (disjointFields f) = true) :
    ∀ w : Word, bitsOf (l.foldl (fun w f => putBits w f.lo f.width (stored old v f)) w).toNat f.lo f.width = bitsOf w.toNat f.lo f.width := by
  induction l with
  | nil => exact fun _ => rfl
  | cons g l ih =>
    intro w
    simp only [fieldsFit, Bool.and_eq_true, decide_eq_true_eq] at hfit
    obtain ⟨⟨hg, -⟩, hl⟩ := hfit
    simp only [List.all_cons, Bool.and_eq_true] at hapart
    obtain ⟨hfg, hfl⟩ := hapart
    rw [List.foldl_cons, ih hl hfl]
    simp only [disjointFields, Bool.or_eq_true, decide_eq_true_eq] at hfg
    exact bitsOf_putBits_apart _ _ _ _ _ _ hg hfg.symm

theorem wordTake_field {l : List FieldSpec} {f : FieldSpec} (hfit : fieldsFit l = true) (hmem : f ∈ l) (old v : Word) :
    bitsOf (wordTake l old v).toNat f.lo f.width = stored old v f % 2 ^ f.width := by
  have hall : ∀ w : Word, bitsOf (l.foldl (fun w f => putBits w f.lo f.width (stored old v f)) w).toNat f.lo f.width =
      stored old v f % 2 ^ f.width := by
    induction l with
    | nil => exact absurd hmem List.not_mem_nil
    | cons g l ih =>
      intro w
      simp only [fieldsFit, Bool.and_eq_true, decide_eq_true_eq] at hfit
      obtain ⟨⟨hg, hgl⟩, hl⟩ := hfit
      rw [List.foldl_cons]
      obtain rfl | hmem := List.mem_cons.1 hmem
      · rw [foldl_stored_apart l f old v hl hgl, bitsOf_putBits_same _ _ _ _ hg]
      · exact ih hl hmem _
  exact hall old

/-- The fields of every register fit its word and share no bit. -/
theorem fieldsFit_spec (r : Reg) : fieldsFit r.spec.fields = true := by
  cases r <;> rfl

/-- A field after a write to its register. -/
theorem store_get {r : Reg} (u : Nat) (v : Word) (f : FieldSpec) (hmem : f ∈ r.spec.fields) (hmask : r.isPortMask = false) :
    (d.store r u v).get ⟨r, f.lo, f.width⟩ u = f.take (d.get ⟨r, f.lo, f.width⟩ u) (bitsOf v.toNat f.lo f.width) % 2 ^ f.width := by
  have hwhole : (d.small && r.isPortMask) = false := by rw [hmask, Bool.and_false]
  rw [Dev.get, Dev.store, hwhole, if_neg Bool.false_ne_true, word_setWord_same]
  exact wordTake_field (fieldsFit_spec r) hmem _ _

/-- A field that takes every value written. -/
def freeField (g : Fld) : Bool :=
  !g.reg.isPortMask && g.reg.spec.fields.any (fun f => decide (f.lo = g.lo ∧ f.width = g.width ∧ (f.acc = .rw ∨ f.acc = .rwh) ∧ f.lim = .none))

theorem store_get_free {g : Fld} (u : Nat) (v : Word) (h : freeField g = true) :
    (d.store g.reg u v).get g u = bitsOf v.toNat g.lo g.width := by
  simp only [freeField, Bool.and_eq_true, Bool.not_eq_true', List.any_eq_true, decide_eq_true_eq] at h
  obtain ⟨hmask, f, hmem, hlo, hwidth, hacc, hlim⟩ := h
  have hstore := store_get (d := d) u v f hmem hmask
  rw [hlo, hwidth] at hstore
  refine hstore.trans ?_
  have htake (old new : Nat) : f.take old new = new := by
    obtain h | h := hacc <;> simp [FieldSpec.take, h, hlim, Lim.take]
  rw [htake]
  exact Nat.mod_mod _ _

theorem store_word_apart {r q : Reg} (u k : Nat) (v : Word) (h : q ≠ r) : (d.store r u v).word q k = d.word q k :=
  word_setWord_other _ _ (fun hh => h hh.1)

theorem store_get_apart {r : Reg} (u k : Nat) (v : Word) {g : Fld} (h : g.reg ≠ r) : (d.store r u v).get g k = d.get g k :=
  get_setWord_other _ _ _ _ _ _ (fun hh => h hh.1)

end Sys2Proof.Laws

/-! SUPPORT. What an operation that reports does not take back: alarms stay latched, and what has been sent stays sent. -/

namespace Sys2Proof.Laws

open Sys2Proof.Machine Sys2Proof.Safety

/-- Every alarm latched before is latched after, and every emission of before is among those of after. -/
structure Lasting (d e : Dev) : Prop where
  latched : ∀ a, latched d a = true → latched e a = true
  sent : ∀ x ∈ d.sent, x ∈ e.sent

variable {P : List Part} {R : List Reg} {x d e : Dev}

namespace Lasting

theorem refl (d : Dev) : Lasting d d := ⟨fun _ h => h, fun _ h => h⟩
theorem trans (h : Lasting x d) (k : Lasting d e) : Lasting x e :=
  ⟨fun a ha => k.latched a (h.latched a ha), fun y hy => k.sent y (h.sent y hy)⟩
theorem after (k : Lasting d e) (h : Lasting x d) : Lasting x e := h.trans k

theorem of_words (hword : ∀ u, e.word .ALM_LATCH u = d.word .ALM_LATCH u) (hsent : ∀ y ∈ d.sent, y ∈ e.sent) : Lasting d e :=
  ⟨fun a ha => (congrArg (fun w : Word => bitsOf w.toNat (a.bit % 32) 1 == 1) (hword (a.bit / 32))).trans ha, hsent⟩

theorem of_only (k : Only P R d e) (h : .sent ∉ P ∧ .ALM_LATCH ∉ R) : Lasting d e :=
  of_words (fun u => k.word _ u h.2) (fun _ hy => (show e.sent = d.sent from k.part .sent h.1) ▸ hy)

theorem when (h : Lasting x d) (b : Bool) (f : Dev → Dev) (k : Lasting d (f d)) : Lasting x (d.when b f) := by
  cases b
  · exact h
  · exact h.trans k

theorem each {α : Type} (h : Lasting x d) (l : List α) (f : Dev → α → Dev) (k : ∀ e a, Lasting e (f e a)) : Lasting x (d.each l f) := by
  unfold Dev.each
  induction l generalizing d with
  | nil => exact h
  | cons a l ih => exact ih (h.trans (k d a))

theorem set (h : Lasting x d) (f : Fld) (v u : Nat) (hr : f.reg ≠ .ALM_LATCH) : Lasting x (d.set f v u) :=
  h.trans (of_only (P := []) (R := [f.reg]) (Only.refl.set f v u (by simp)) ⟨by decide, by simpa using hr.symm⟩)
theorem setB (h : Lasting x d) (f : Fld) (b : Bool) (u : Nat) (hr : f.reg ≠ .ALM_LATCH) : Lasting x (d.setB f b u) := h.set _ _ _ hr
theorem setWord (h : Lasting x d) (r : Reg) (u : Nat) (w : Word) (hr : r ≠ .ALM_LATCH) : Lasting x (d.setWord r u w) :=
  h.trans (of_only (P := []) (R := [r]) (Only.refl.setWord r u w (by simp)) ⟨by decide, by simpa using hr.symm⟩)
theorem setMark (h : Lasting x d) (f ch : Fld) (v u : Nat) (hf : f.reg ≠ .ALM_LATCH ∧ ch.reg ≠ .ALM_LATCH) : Lasting x (d.setMark f v ch u) :=
  h.trans (of_only (P := []) (R := [f.reg, ch.reg]) (Only.refl.setMark f ch v u (by simp) (by simp))
    ⟨by decide, by simpa using ⟨hf.1.symm, hf.2.symm⟩⟩)
theorem emit (h : Lasting x d) (y : Emit) : Lasting x (d.emit y) :=
  h.trans (of_words (fun _ => rfl) (fun _ hz => List.mem_append_left _ hz))

end Lasting

theorem lasting_msix (d : Dev) (v : Nat) : Lasting d (d.msix v) := by
  unfold Dev.msix Dev.sendMsix
  split
  · exact .refl _
  · split
    · exact (Lasting.refl d).emit _
    · split
      · exact .refl _
      · exact .of_words (fun _ => rfl) (fun _ h => h)

theorem lasting_sendGroup (d : Dev) (g : Nat) : Lasting d (d.sendGroup g) := (Lasting.refl d).when _ _ (lasting_msix d _)

theorem lasting_latch (d : Dev) (b : Nat) : Lasting d (d.latch b) := by
  unfold Dev.latch
  split
  · exact .refl _
  · refine Lasting.trans (d := d.set (bitFld .ALM_LATCH b) 1 (b / 32)) ⟨fun a ha => ?_, fun _ h => h⟩ ((Lasting.refl _).when _ _ (lasting_sendGroup _ _))
    have hb : b % 32 < 32 := Nat.mod_lt b (by decide)
    by_cases hunit : a.bit / 32 = b / 32
    · by_cases hbit : a.bit % 32 = b % 32
      · rw [Safety.latched, hunit, show bitFld .ALM_LATCH a.bit = bitFld .ALM_LATCH b from congrArg (fun n => (⟨.ALM_LATCH, n, 1⟩ : Fld)) hbit,
          Dev.flag, get_set_same _ _ _ _ (by exact hb)]
        rfl
      · rw [Safety.latched, flag_set_apart _ _ _ _ _ _ (by exact hb) ?_]
        · exact ha
        · simp only [apart, bitFld, beq_self_eq_true, Bool.not_true, Bool.false_or, Bool.or_eq_true]
          exact (Nat.lt_or_gt_of_ne hbit).imp (fun h => decide_eq_true h) (fun h => decide_eq_true h)
    · rw [Safety.latched, Dev.flag, get_set_unit _ _ _ _ _ _ hunit]
      exact ha

theorem lasting_raise (d : Dev) (a : Alarm) : Lasting d (d.raise a) := lasting_latch d _

theorem lasting_cond (d : Dev) (a : Alarm) (b : Bool) : Lasting d (d.cond a b) := by
  unfold Dev.cond
  split
  · split
    · exact .refl d
    · exact ((Lasting.refl d).set _ _ _ (by simp [bitFld])).trans (lasting_latch _ _)
  · exact (Lasting.refl d).set _ _ _ (by simp [bitFld])

theorem bump_sent (d : Dev) (i n fuel : Nat) : (d.bump i n fuel).sent = d.sent := by
  induction fuel generalizing d i n with
  | zero => rfl
  | succ k ih =>
    unfold Dev.bump
    dsimp only
    split
    · rfl
    · split
      · rfl
      · exact ih _ _ _

theorem lasting_countAt (d : Dev) (b : Bool) (i n : Nat) : Lasting d (d.countAt b i n) := by
  refine .of_words (fun u => countAt_word d b i n _ u) (fun y hy => ?_)
  unfold Dev.countAt
  split
  · exact hy
  · split
    · rw [bump_sent]
      exact hy
    · exact hy

theorem lasting_countDev (d : Dev) (j n : Nat) : Lasting d (d.countDev j n) := lasting_countAt d _ _ _
theorem lasting_countPort (d : Dev) (p k n : Nat) : Lasting d (d.countPort p k n) := lasting_countAt d _ _ _
theorem lasting_portEvent (d : Dev) (p e i n : Nat) : Lasting d (d.portEvent p e i n) :=
  (Lasting.refl d).each _ _ (fun d _ => (Lasting.refl d).when _ _ (lasting_countPort d _ _ _))
theorem lasting_devEvent (d : Dev) (b : Bool) (e i n : Nat) : Lasting d (d.devEvent b e i n) :=
  (Lasting.refl d).each _ _ (fun d _ => (Lasting.refl d).when _ _ (lasting_countAt d _ _ _))
theorem lasting_memError (d : Dev) (m : Nat) (u : Bool) : Lasting d (d.memError m u) :=
  (lasting_countAt d _ _ _).trans (lasting_devEvent _ _ _ _ _)
theorem lasting_countRx (d : Dev) (p t : Nat) : Lasting d (d.countRx p t) :=
  ((Lasting.refl d).when _ _ (lasting_countPort d _ _ _)).trans (lasting_portEvent _ _ _ _ _)
theorem lasting_countTx (d : Dev) (p t : Nat) : Lasting d (d.countTx p t) :=
  ((Lasting.refl d).when _ _ (lasting_countPort d _ _ _)).trans (lasting_portEvent _ _ _ _ _)

theorem lasting_logAdd (d : Dev) (c a m i : Nat) : Lasting d (d.logAdd c a m i) := by
  unfold Dev.logAdd
  split
  · exact (lasting_countDev d _ _).trans (lasting_cond _ _ _)
  · dsimp only
    exact (lasting_cond _ _ _).after (.of_words (fun _ => rfl) (fun _ h => h))

theorem lasting_retireOther (d : Dev) (c m i : Nat) : Lasting d (d.retireOther c m i) :=
  (lasting_logAdd d _ _ _ _).trans (lasting_raise _ _)

end Sys2Proof.Laws

/-! SUPPORT. Laws of the switch: frames, queues and engines, and what frees a frame. -/

namespace Sys2Proof.Laws

open Sys2Proof.Machine Sys2Proof.Safety

variable {d e : Dev} {P : List Part} {R : List Reg} {p q f g : Nat}

theorem sw_of_only (h : Only P R d e) (hp : Part.sw ∉ P) : e.sw = d.sw := h.part .sw hp

/-! ## Frames, queues and engines -/

@[simp] theorem frame_setFrame_same (x : Option Stored) : (d.setFrame f x).frame f = x := tabGet_tabSet_same _ _ _ _
theorem frame_setFrame_other (x : Option Stored) (h : g ≠ f) : (d.setFrame f x).frame g = d.frame g := tabGet_tabSet_other _ _ _ _ h
theorem frame_onFrame_same (k : Stored → Stored) : (d.onFrame f k).frame f = (d.frame f).map k := tabGet_tabSet_same _ _ _ _
theorem frame_onFrame_other (k : Stored → Stored) (h : g ≠ f) : (d.onFrame f k).frame g = d.frame g := tabGet_tabSet_other _ _ _ _ h
@[simp] theorem queue_setQueue_same (l : List Link) : (d.setQueue p q l).queue p q = l := tabGet_tabSet_same _ _ _ _
theorem queue_setQueue_other (l : List Link) {k : Nat} (h : k ≠ q) : (d.setQueue p q l).queue p k = d.queue p k :=
  tabGet_tabSet_other _ _ _ _ (fun hh => h (by unfold qKey at hh; omega))
@[simp] theorem txNow_setTx_same (x : Option TxNow) : (d.setTx p x).txNow p = x := tabGet_tabSet_same _ _ _ _
@[simp] theorem rxNow_setRx_same (x : Option Nat) : (d.setRx p x).rxNow p = x := tabGet_tabSet_same _ _ _ _

theorem frame_of_sw (h : e.sw = d.sw) (f : Nat) : e.frame f = d.frame f := by rw [Dev.frame, h, Dev.frame]
theorem txNow_of_sw (h : e.sw = d.sw) (p : Nat) : e.txNow p = d.txNow p := by rw [Dev.txNow, h, Dev.txNow]
theorem rxNow_of_sw (h : e.sw = d.sw) (p : Nat) : e.rxNow p = d.rxNow p := by rw [Dev.rxNow, h, Dev.rxNow]
theorem queue_of_sw (h : e.sw = d.sw) (p q : Nat) : e.queue p q = d.queue p q := by rw [Dev.queue, h, Dev.queue]

/-! ## The banks -/

/-- The judging of the banks changes of the switch only the number of banks it needs. -/
theorem judgeBanks_sw (d : Dev) : ∃ n, d.judgeBanks.sw = { d.sw with nReq := n } := by
  have hrest (e : Dev) (l : List Nat) : ((e.setGated l).judgeBuf).sw = e.sw :=
    sw_of_only ((Only.refl (P := reports) (R := alarmRegs ++ [.SW_BUF_GATED, .PWR_STAT])).setGated l (by decide) (by decide) |>.judgeBuf
      (by decide) (by decide)) (by decide)
  have hstop (e : Dev) : e.stopDrain.sw = e.sw := sw_of_only (only_stopDrain e) (by decide)
  unfold Dev.judgeBanks
  dsimp only
  split
  · exact ⟨_, rfl⟩
  · split
    · exact ⟨d.sw.nReq, by rw [hrest, hstop]⟩
    · have hneed (n : Nat) : ((d.when (d.sw.nReq < n) Dev.stopDrain).onSw (fun s => { s with nReq := n })).sw = { d.sw with nReq := n } := by
        have hdrain := when_keeps d (·.sw) (decide (d.sw.nReq < n)) Dev.stopDrain (hstop d)
        exact congrArg (fun s : Switch => { s with nReq := n }) hdrain
      split
      · exact ⟨_, hneed _⟩
      · exact ⟨_, (hrest _ _).trans (hneed _)⟩

/-- Whatever reads the switch apart from that number reads the same. -/
theorem judgeBanks_reads {α : Type} (r : Switch → α) (h : ∀ s n, r { s with nReq := n } = r s) (d : Dev) : r d.judgeBanks.sw = r d.sw := by
  obtain ⟨n, hn⟩ := judgeBanks_sw d
  rw [hn, h]

theorem judgeBanks_frame (f : Nat) : d.judgeBanks.frame f = d.frame f := judgeBanks_reads (fun s => tabGet s.frames none f) (fun _ _ => rfl) d
theorem judgeBanks_txNow (p : Nat) : d.judgeBanks.txNow p = d.txNow p := judgeBanks_reads (fun s => tabGet s.tx none p) (fun _ _ => rfl) d
theorem judgeBanks_rxNow (p : Nat) : d.judgeBanks.rxNow p = d.rxNow p := judgeBanks_reads (fun s => tabGet s.rx none p) (fun _ _ => rfl) d
theorem judgeBanks_queue (p q : Nat) : d.judgeBanks.queue p q = d.queue p q :=
  judgeBanks_reads (fun s => tabGet s.queues [] (qKey p q)) (fun _ _ => rfl) d

/-! ## Freeing a frame -/

/-- A switch but for the frames and the cells that leave service with them. -/
def swHolders (x : Switch) : Switch := { x with frames := [], retired := [], doomed := [] }

theorem only_retireReports (d : Dev) (c : Nat) : Only reports alarmRegs d (((d.countDev 280).retireOther 0x07 0 c).judgeBuf) :=
  ((Only.refl.countDev _ _ (by decide)).retireOther _ _ _ (by decide)).judgeBuf (by decide) (by decide)

theorem retireCell_sw (c : Nat) : (d.retireCell c).sw =
    { d.sw with retired := c :: d.sw.retired.filter (· != c), doomed := d.sw.doomed.filter (· != c) } :=
  sw_of_only (only_retireReports _ c) (by decide)

theorem retireCell_holders (c : Nat) : swHolders (d.retireCell c).sw = swHolders d.sw := by
  rw [retireCell_sw]
  rfl

theorem retireCell_frame (c f : Nat) : (d.retireCell c).frame f = d.frame f := by
  rw [Dev.frame, retireCell_sw]
  rfl

theorem freeFrame_holders (f : Nat) : swHolders (d.freeFrame f).sw = swHolders d.sw := by
  unfold Dev.freeFrame
  split
  · rfl
  · exact each_keeps (d.setFrame f none) (fun e => swHolders e.sw) _ Dev.retireCell (fun _ _ _ => retireCell_holders _)

theorem freeFrame_frame (f g : Nat) : (d.freeFrame f).frame g = if g = f then none else d.frame g := by
  unfold Dev.freeFrame
  split
  next h =>
    split
    next hg => rw [hg, h]
    next => rfl
  next x h =>
    rw [each_keeps (d.setFrame f none) (·.frame g) _ Dev.retireCell (fun _ _ _ => retireCell_frame _ _)]
    split
    next hg => rw [hg, frame_setFrame_same]
    next hg => exact frame_setFrame_other _ hg

theorem release_holders (f : Nat) : swHolders (d.release f).sw = swHolders d.sw := by
  unfold Dev.release
  split
  · rfl
  · split
    · exact freeFrame_holders f
    · rfl

/-- Whatever reads the switch apart from frames and cells in doubt reads the same after a frame has been given back. -/
theorem release_reads {α : Type} (r : Switch → α) (h : ∀ s, r (swHolders s) = r s) (d : Dev) (f : Nat) : r (d.release f).sw = r d.sw := by
  rw [← h, release_holders, h]

theorem release_txNow (f p : Nat) : (d.release f).txNow p = d.txNow p := release_reads (fun s => tabGet s.tx none p) (fun _ => rfl) d f
theorem release_rxNow (f p : Nat) : (d.release f).rxNow p = d.rxNow p := release_reads (fun s => tabGet s.rx none p) (fun _ => rfl) d f
theorem release_queue (f p q : Nat) : (d.release f).queue p q = d.queue p q :=
  release_reads (fun s => tabGet s.queues [] (qKey p q)) (fun _ => rfl) d f

theorem release_frame_other (h : g ≠ f) : (d.release f).frame g = d.frame g := by
  unfold Dev.release
  split
  · rfl
  · split
    · rw [freeFrame_frame, if_neg h]
    · exact frame_setFrame_other _ h

theorem release_frame_last {x : Stored} (h : d.frame f = some x) (hrefs : x.refs ≤ 1) : (d.release f).frame f = none := by
  rw [Dev.release, h]
  dsimp only
  rw [if_pos hrefs, freeFrame_frame, if_pos rfl]

theorem release_frame_held {x : Stored} (h : d.frame f = some x) (hrefs : 2 ≤ x.refs) :
    (d.release f).frame f = some { x with refs := x.refs - 1 } := by
  rw [Dev.release, h]
  dsimp only
  rw [if_neg (by omega), frame_setFrame_same]

/-! ## The head of a queue -/

theorem popHead_queue (rest : List Link) (ends : Int) : (d.popHead p q rest ends).queue p q = rest := by
  unfold Dev.popHead
  dsimp only
  split <;> exact tabGet_tabSet_same _ _ _ _

theorem popHead_queue_other (rest : List Link) (ends : Int) {k : Nat} (h : k ≠ q) :
    (d.popHead p q rest ends).queue p k = d.queue p k := by
  unfold Dev.popHead
  dsimp only
  split <;> exact queue_setQueue_other _ h

/-- A switch but for what the scheduler keeps of its queues. -/
def swUnqueued (x : Switch) : Switch := { x with queues := [], tails := [], deficits := [] }

theorem popHead_unqueued (rest : List Link) (ends : Int) : swUnqueued (d.popHead p q rest ends).sw = swUnqueued d.sw := by
  unfold Dev.popHead
  dsimp only
  split <;> rfl

theorem popHead_reads {α : Type} (r : Switch → α) (h : ∀ s, r (swUnqueued s) = r s) (d : Dev) (p q : Nat) (rest : List Link) (ends : Int) :
    r (d.popHead p q rest ends).sw = r d.sw := by
  rw [← h, popHead_unqueued, h]

/-! ## What lasts -/

theorem lasting_judgeBuf (d : Dev) : Lasting d d.judgeBuf := (lasting_cond d _ _).trans (lasting_cond _ _ _)

theorem lasting_judgeBanks (d : Dev) : Lasting d d.judgeBanks := by
  have hrest (e : Dev) (l : List Nat) : Lasting e ((e.setGated l).judgeBuf) :=
    (Lasting.of_only (only_setGated e l) (by decide)).trans (lasting_judgeBuf _)
  have hstop (e : Dev) : Lasting e e.stopDrain := .of_only (only_stopDrain e) (by decide)
  unfold Dev.judgeBanks
  dsimp only
  split
  · exact .refl _
  · split
    · exact (hstop _).trans (hrest _ _)
    · have hneed (n : Nat) : Lasting d ((d.when (d.sw.nReq < n) Dev.stopDrain).onSw (fun s => { s with nReq := n })) :=
        ((Lasting.refl d).when _ _ (hstop d)).trans (.of_only (P := [.sw]) (R := []) (Only.refl.onSw _ (by decide)) (by decide))
      split
      · exact hneed _
      · exact (hneed _).trans (hrest _ _)

theorem lasting_retireCell (d : Dev) (c : Nat) : Lasting d (d.retireCell c) :=
  (Lasting.of_only (P := [.sw]) (R := []) (Only.refl.onSw _ (by decide)) (by decide)).trans
    ((lasting_countDev _ _ _).trans ((lasting_retireOther _ _ _ _).trans (lasting_judgeBuf _)))

theorem lasting_freeFrame (d : Dev) (f : Nat) : Lasting d (d.freeFrame f) := by
  unfold Dev.freeFrame
  split
  · exact .refl _
  · exact Lasting.each (.of_only (only_setFrame d f none) (by decide)) _ _ (fun _ _ => lasting_retireCell _ _)

theorem lasting_release (d : Dev) (f : Nat) : Lasting d (d.release f) := by
  unfold Dev.release
  split
  · exact .refl _
  · split
    · exact lasting_freeFrame d f
    · exact .of_only (only_setFrame d f _) (by decide)

theorem lasting_discardCause (d : Dev) (p c : Nat) : Lasting d (d.discardCause p c) :=
  ((Lasting.refl d).when _ _ (lasting_countPort d _ _ _)).trans (lasting_portEvent _ _ _ _ _)

end Sys2Proof.Laws

/-! SUPPORT. Laws of the gates, the bounded classes and what re-prediction takes off a queue. -/

namespace Sys2Proof.Laws

open Sys2Proof.Machine Sys2Proof.Safety

variable {d e : Dev} {p q : Nat}

theorem refreshGates_eq (d : Dev) (p : Nat) : d.refreshGates p =
    (d.set F.PRT_GATE_STAT_STATES (d.gateAt p d.nowQ).1 p).set F.PRT_GATE_STAT_ENTRY (d.gateAt p d.nowQ).2 p := rfl

theorem refreshGates_shows (hs : (d.gateAt p d.nowQ).1 < 256) (he : (d.gateAt p d.nowQ).2 < 1024) :
    (d.refreshGates p).get F.PRT_GATE_STAT_STATES p = (d.gateAt p d.nowQ).1 ∧
    (d.refreshGates p).get F.PRT_GATE_STAT_ENTRY p = (d.gateAt p d.nowQ).2 := by
  rw [refreshGates_eq, get_set_apart _ _ _ _ _ _ (by decide) (by decide), get_set_same _ _ _ _ (by decide), get_set_same _ _ _ _ (by decide)]
  exact ⟨Nat.mod_eq_of_lt hs, Nat.mod_eq_of_lt he⟩

theorem rejectCfg_flag : (d.rejectCfg p).flag F.PRT_GATE_STAT_CFG_REJ p = true := by
  rw [Dev.rejectCfg, Dev.flag, get_set_same _ _ _ _ (by decide)]
  rfl

theorem only_rejectGate (d : Dev) (p : Nat) : Only [] [.PRT_GATE_STAT] d (d.rejectCfg p) := .set .refl _ _ _ (by decide)

/-- A write to a bank is stored whether it is the one in force or not. -/
theorem bankWrite_word (bank : Nat) {r q : Reg} (u k : Nat) (v : Word) (h : q ≠ .PRT_GATE_STAT) :
    (d.bankWrite p bank r u v).word q k = (d.store r u v).word q k := by
  unfold Dev.bankWrite
  dsimp only
  split
  · exact (only_rescheduled _ p).word q k (by simpa using h)
  · rfl

/-- The word of PRT_GATE_CFG is stored, new or not. -/
theorem gateWrite_cfg_word (v : Word) (h : d.flag F.PRT_GATE_CFG_GATE_EN p = false ∨ bitsOf v.toNat 0 1 = 1 ∨ (d.boundedOf p).length < 2) :
    (d.gateWrite p .cfg v).word .PRT_GATE_CFG p = (d.store .PRT_GATE_CFG p v).word .PRT_GATE_CFG p := by
  have hon : F.PRT_GATE_CFG_GATE_EN.on v = (bitsOf v.toNat 0 1 == 1) := rfl
  have hallowed : (d.flag F.PRT_GATE_CFG_GATE_EN p && !F.PRT_GATE_CFG_GATE_EN.on v && decide (2 ≤ (d.boundedOf p).length)) = false := by
    obtain h | h | h := h
    · rw [h, Bool.false_and, Bool.false_and]
    · rw [hon, h]
      simp
    · rw [decide_eq_false (Nat.not_le.mpr h), Bool.and_false]
  unfold Dev.gateWrite
  dsimp only
  rw [hallowed, if_neg Bool.false_ne_true]
  split
  · rfl
  · exact (show Only [] [.PRT_GATE_STAT] (d.store .PRT_GATE_CFG p v) _ from
      (Only.refl.set _ _ _ (by decide)).rescheduled _ (by decide) (by decide)).word _ _ (by decide)

theorem gateWrite_entry (b : Fin 2) (i : Fin 1024) (v : Word) : d.gateWrite p (.entry b i 0) v =
    if twoIn (d.boundedMask p) (bitsOf v.toNat 0 8) then d.rejectCfg p
    else d.bankWrite p b.val .GCL_W0 ((p * 2 + b.val) * 1024 + i.val) v := by
  have hstates : F.GCL_W0_STATES.of v = bitsOf v.toNat 0 8 := rfl
  have hfirst : (0 : Fin 2).val = 0 := rfl
  unfold Dev.gateWrite
  dsimp only
  rw [if_pos hfirst, hstates]

theorem queueWrite_res (v : Word) (h : resRefused d (d.store .PRT_Q_RES (qKey p q) v) = false) :
    d.queueWrite p q .res v = (d.store .PRT_Q_RES (qKey p q) v).judgeBuf.judgeBanks := by
  unfold Dev.queueWrite
  dsimp only
  rw [h, if_neg Bool.false_ne_true]

/-- An allowed configuration of a queue is stored, and what follows leaves it. -/
theorem queueWrite_cfg_word (v : Word) (hres : resRefused d (d.store .PRT_Q_CFG (qKey p q) v) = false)
    (hbounded : d.boundedRefused (d.store .PRT_Q_CFG (qKey p q) v) p q = false) :
    (d.queueWrite p q .cfg v).word .PRT_Q_CFG (qKey p q) = (d.store .PRT_Q_CFG (qKey p q) v).word .PRT_Q_CFG (qKey p q) := by
  have hafter (e : Dev) : Only [.counters, .latches, .ring, .log, .pcie, .sw, .sent]
      [.ALM_ACTIVE, .ALM_LATCH, .PRT_GATE_STAT, .PWR_STAT, .SW_BUF_GATED] e e.judgeBuf.judgeBanks :=
    (Only.refl.judgeBuf (by decide) (by decide)).judgeBanks (by decide) (by decide)
  unfold Dev.queueWrite
  dsimp only
  rw [hres, hbounded, Bool.or_false, if_neg Bool.false_ne_true, (hafter _).word _ _ (by decide)]
  have hmarked (e : Dev) (b : Bool) : (e.when b (fun d => d.set F.PRT_GATE_STAT_REPREDICT 1 p)).word .PRT_Q_CFG (qKey p q) = e.word .PRT_Q_CFG (qKey p q) :=
    when_keeps e (·.word .PRT_Q_CFG (qKey p q)) b _ (word_set_other _ _ _ _ _ _ (fun h => absurd h.1 (by decide)))
  rw [hmarked]
  split
  · exact (only_setQueue _ p q _).word _ _ (by decide)
  · rfl

theorem queueWrite_refused (v : Word) (h : d.boundedRefused (d.store .PRT_Q_CFG (qKey p q) v) p q = true) :
    d.queueWrite p q .cfg v = d.rejectCfg p := by
  unfold Dev.queueWrite
  dsimp only
  rw [h, Bool.or_true, if_pos rfl]

/-! ## Frames that leave a queue -/

theorem release_queues (f : Nat) : (d.release f).sw.queues = d.sw.queues := release_reads (·.queues) (fun _ => rfl) d f

/-- Late frames are freed; the queues stand. -/
theorem each_unlink_queues (l : List Link) : (d.each l (fun d l => (d.unlink l).portEvent p 0x048)).sw.queues = d.sw.queues := by
  refine each_keeps d (·.sw.queues) l (fun d l => (d.unlink l).portEvent p 0x048) (fun e l _ => ?_)
  have hevent : Only [.counters, .latches, .ring, .log, .pcie, .sent] [.ALM_ACTIVE, .ALM_LATCH] (e.unlink l) ((e.unlink l).portEvent p 0x048) :=
    .portEvent .refl _ _ _ _ (by decide)
  exact (congrArg (·.queues) (hevent.part .sw (by decide))).trans (release_queues _)

/-- Where re-prediction of a queue begins. -/
def repredictFrom (d : Dev) (p : Nat) : Int := max (max d.nowQ (d.busyEnd p)) (d.nowQ + d.awakeIn p)

theorem repredict_of_one (h : d.boundedOf p = [q]) : (d.repredict p).queue p q = (d.repredictList p q (repredictFrom d p) (d.queue p q)).1 := by
  unfold Dev.repredict
  rw [h]
  show Dev.queue (Dev.judgeIdle _ p) p q = _
  rw [Dev.queue, (only_judgeIdle _ p).part .sw (by decide), each_unlink_queues]
  exact tabGet_tabSet_same _ _ _ _

end Sys2Proof.Laws

namespace Sys2Proof.Proofs

open Sys2Proof.Machine Sys2Proof.Safety Sys2Proof.Laws

section

variable {s : State} {p : PortId} {q : ClassId} {b : Fin 2} {i : Fin 1024} {v : Word}

theorem completes_gateEvent (hon : s.dev.fastOn = true) (hs : (s.dev.gateAt p.val s.dev.nowQ).1 < 256)
    (he : (s.dev.gateAt p.val s.dev.nowQ).2 < 1024) :
    Completes (.gateEvent p) s (fun t => t.dev.get F.PRT_GATE_STAT_STATES p.val = (s.dev.gateAt p.val s.dev.nowQ).1 ∧
      t.dev.get F.PRT_GATE_STAT_ENTRY p.val = (s.dev.gateAt p.val s.dev.nowQ).2 ∧ Frame [] [.PRT_GATE_STAT] s t) := by
  have hrun : s.dev.when s.dev.fastOn (·.refreshGates p.val) = s.dev.refreshGates p.val := by rw [hon, when_true]
  obtain ⟨hstates, hentry⟩ := refreshGates_shows hs he
  refine completes_of_next rfl ?_
  rw [onDev_dev, hrun]
  refine ⟨hstates, hentry, ?_, onDev_flash s _, onDev_pending s _⟩
  rw [onDev_dev, hrun]
  exact only_refreshGates _ _

theorem atPort {f : Dev → Dev} (hreach : s.dev.fastReach = true) (hport : s.dev.hasPort p.val = true) :
    s.dev.reachFast (fun d => d.when (d.hasPort p.val) f) = f s.dev := by
  rw [Dev.reachFast, hreach, if_pos rfl, hport, when_true]

theorem completes_gateEntry (hreach : s.dev.fastReach = true) (hport : s.dev.hasPort p.val = true)
    (h : twoIn (s.dev.boundedMask p.val) (bitsOf v.toNat 0 8) = false) : Completes (.gateCfgWrite p (.entry b i 0) v) s (fun t =>
      t.dev.get F.GCL_W0_STATES ((p.val * 2 + b.val) * 1024 + i.val) = bitsOf v.toNat 0 8 ∧ Frame [] [.GCL_W0, .PRT_GATE_STAT] s t) := by
  have hwrite := (atPort (f := (·.gateWrite p.val (.entry b i 0) v)) hreach hport).trans ((gateWrite_entry b i v).trans (if_neg (by simp [h])))
  refine completes_of_next rfl ?_
  refine ⟨?_, ?_, onDev_flash s _, onDev_pending s _⟩
  · rw [onDev_dev, hwrite]
    exact (get_of_word (f := F.GCL_W0_STATES) (bankWrite_word _ _ _ _ (by decide))).trans (store_get_free (g := F.GCL_W0_STATES) _ _ (by decide))
  · rw [onDev_dev, hwrite]
    exact only_bankWrite _ _ _ _ _ _

/-- A write that is refused shows CFG_REJ and leaves everything else. -/
theorem completes_gateRefused {c : Instr} {f : Dev → Dev} (hexec : exec c s = .next (s.onDev (·.reachFast (fun d => d.when (d.hasPort p.val) f))))
    (hreach : s.dev.fastReach = true) (hport : s.dev.hasPort p.val = true) (h : f s.dev = s.dev.rejectCfg p.val) :
    Completes c s (fun t => t.dev.flag F.PRT_GATE_STAT_CFG_REJ p.val = true ∧ Frame [] [.PRT_GATE_STAT] s t) := by
  have hwrite := (atPort (f := f) hreach hport).trans h
  refine completes_of_next hexec ⟨?_, ?_, onDev_flash s _, onDev_pending s _⟩
  · rw [onDev_dev, hwrite]
    exact rejectCfg_flag
  · rw [onDev_dev, hwrite]
    exact only_rejectGate _ _

theorem completes_gateCfg (hreach : s.dev.fastReach = true) (hport : s.dev.hasPort p.val = true)
    (h : s.dev.flag F.PRT_GATE_CFG_GATE_EN p.val = false ∨ bitsOf v.toNat 0 1 = 1 ∨ (s.dev.boundedOf p.val).length < 2) :
    Completes (.gateCfgWrite p .cfg v) s (fun t => t.dev.get F.PRT_GATE_CFG_GATE_EN p.val = bitsOf v.toNat 0 1 ∧
      t.dev.get F.PRT_GATE_CFG_BANK_SEL p.val = bitsOf v.toNat 1 1) := by
  refine completes_of_next rfl ?_
  rw [onDev_dev, atPort hreach hport, get_of_word (f := F.PRT_GATE_CFG_GATE_EN) (gateWrite_cfg_word v h),
    get_of_word (f := F.PRT_GATE_CFG_BANK_SEL) (gateWrite_cfg_word v h)]
  exact ⟨store_get_free (g := F.PRT_GATE_CFG_GATE_EN) _ _ (by decide), store_get_free (g := F.PRT_GATE_CFG_BANK_SEL) _ _ (by decide)⟩

theorem completes_queueRes (hreach : s.dev.fastReach = true) (hport : s.dev.hasPort p.val = true)
    (h : resRefused s.dev (s.dev.store .PRT_Q_RES (qKey p.val q.val) v) = false) : Completes (.queueCfgWrite p q .res v) s (fun t =>
      t.dev.get F.PRT_Q_RES_RES_CELLS (qKey p.val q.val) = min 290816 (bitsOf v.toNat 0 19)) := by
  have hafter : Only [.counters, .latches, .ring, .log, .pcie, .sw, .sent] [.ALM_ACTIVE, .ALM_LATCH, .PWR_STAT, .SW_BUF_GATED]
      (s.dev.store .PRT_Q_RES (qKey p.val q.val) v) (s.dev.store .PRT_Q_RES (qKey p.val q.val) v).judgeBuf.judgeBanks :=
    (Only.refl.judgeBuf (by decide) (by decide)).judgeBanks (by decide) (by decide)
  refine completes_of_next rfl ?_
  rw [onDev_dev, atPort hreach hport, queueWrite_res v h, hafter.get F.PRT_Q_RES_RES_CELLS _ (by decide)]
  refine (store_get _ v ⟨0, 19, .rw, 0, .nat 0 290816⟩ (by decide) rfl).trans ?_
  simp only [FieldSpec.take, Lim.take, clampNat]
  have hlt : bitsOf v.toNat 0 19 < 2 ^ 19 := bitsOf_lt _ _ _
  split
  · omega
  · split <;> omega

theorem completes_queueCfg (hreach : s.dev.fastReach = true) (hport : s.dev.hasPort p.val = true)
    (hres : resRefused s.dev (s.dev.store .PRT_Q_CFG (qKey p.val q.val) v) = false)
    (hbounded : s.dev.boundedRefused (s.dev.store .PRT_Q_CFG (qKey p.val q.val) v) p.val q.val = false) :
    Completes (.queueCfgWrite p q .cfg v) s (fun t => t.dev.get F.PRT_Q_CFG_SP (qKey p.val q.val) = bitsOf v.toNat 0 1 ∧
      t.dev.get F.PRT_Q_CFG_BOUNDED (qKey p.val q.val) = bitsOf v.toNat 1 1) := by
  have hword := queueWrite_cfg_word v hres hbounded
  refine completes_of_next rfl ?_
  rw [onDev_dev, atPort hreach hport, get_of_word (f := F.PRT_Q_CFG_SP) hword, get_of_word (f := F.PRT_Q_CFG_BOUNDED) hword]
  exact ⟨store_get_free (g := F.PRT_Q_CFG_SP) _ _ (by decide), store_get_free (g := F.PRT_Q_CFG_BOUNDED) _ _ (by decide)⟩

theorem completes_reprediction (hmark : s.dev.flag F.PRT_GATE_STAT_REPREDICT p.val = true) (hone : s.dev.boundedOf p.val = [q.val]) :
    Completes (.repredictionDone p) s (fun t =>
      t.dev.flag F.PRT_GATE_STAT_REPREDICT p.val = false ∧ t.dev.queue p.val q.val = (s.dev.repredictList p.val q.val
        (max (max s.dev.nowQ (s.dev.busyEnd p.val)) (s.dev.nowQ + s.dev.awakeIn p.val)) (s.dev.queue p.val q.val)).1) := by
  have hdone : s.dev.repredictDone p.val = ((s.dev.repredict p.val).set F.PRT_GATE_STAT_REPREDICT 0 p.val).judgeBanks := by
    rw [Dev.repredictDone, if_pos hmark]
  refine completes_of_next rfl ?_
  rw [onDev_dev, hdone]
  refine ⟨?_, ?_⟩
  · rw [(only_judgeBanks _).flag _ _ (by decide), Dev.flag, get_set_same _ _ _ _ (by decide)]
    rfl
  · rw [Dev.queue, judgeBanks_queues]
    exact repredict_of_one hone

end

/-- Settles O36: a gate or queue write by whether it is refused, and re-prediction by the one queue that it goes through. -/
theorem gatesAndQueues : Obligations.GatesAndQueues := by
  refine fun s p q b i v => ⟨completes_gateEvent, fun hreach hport => ⟨?_, fun h => ?_, ?_, ?_, ?_, fun h => ?_⟩, completes_reprediction⟩
  · exact completes_gateEntry hreach hport
  · exact completes_gateRefused rfl hreach hport ((gateWrite_entry b i v).trans (if_pos h))
  · exact completes_gateCfg hreach hport
  · exact completes_queueRes hreach hport
  · exact completes_queueCfg hreach hport
  · exact completes_gateRefused rfl hreach hport (queueWrite_refused v h)

end Sys2Proof.Proofs

/-! SUPPORT. Laws of memory errors in the switch and of the audit. -/

namespace Sys2Proof.Laws

open Sys2Proof.Machine Sys2Proof.Safety

variable {d e : Dev} {p q f g : Nat}

theorem memFails_corrected (m : Nat) (k : Dev → Dev) : d.memFails m .corrected k = d.memError m false := rfl
theorem memFails_uncorrectable (m : Nat) (k : Dev → Dev) : d.memFails m .uncorrectable k = k d := rfl

theorem onlyReported_memError (d : Dev) (m : Nat) (u : Bool) : OnlyReported [] [] d (d.memError m u) :=
  Only.refl.memError _ _ (by decide)

/-- The words of a stored frame's cells are in use. -/
theorem mem_usedCells {x : Stored} {c : Nat} (h : d.frame f = some x) (hc : c ∈ x.cells) : c ∈ d.usedCells := by
  have hlisted (t : Tab (Option Stored)) (ht : tabGet t none f = some x) : x ∈ t.filterMap Prod.snd := by
    induction t with
    | nil => exact absurd ht (by simp [tabGet])
    | cons y t ih =>
      obtain ⟨k, v⟩ := y
      unfold tabGet at ht
      split at ht
      · rw [ht]
        exact List.mem_cons_self
      · cases v with
        | none => exact ih ht
        | some v => exact List.mem_cons_of_mem _ (ih ht)
  exact List.mem_dedup.2 (List.mem_flatMap.2 ⟨x, hlisted _ h, hc⟩)

/-! ## Errors of cells and lists -/

/-- The cell is to be retired with its frame, and the error is counted. -/
def doomCell (d : Dev) (c : Nat) : Dev :=
  (d.onSw (fun s => { s with doomed := if s.doomed.contains c then s.doomed else s.doomed ++ [c] })).memError 0 true

theorem doomCell_sw (c : Nat) : (doomCell d c).sw = { d.sw with doomed := if d.sw.doomed.contains c then d.sw.doomed else d.sw.doomed ++ [c] } :=
  (report_memError _ _ _).sw

theorem doomCell_mem (c : Nat) : c ∈ (doomCell d c).sw.doomed := by
  rw [doomCell_sw]
  dsimp only
  split
  next h => exact List.contains_iff_mem.1 h
  next => exact List.mem_append_right _ List.mem_cons_self

theorem cellError_of_sending {x : TxNow} {y : Stored} {c : Nat} (hx : d.txNow p = some x) (hy : d.frame x.link.fid = some y) (hc : c ∈ y.cells) :
    d.cellError p c = (doomCell d c).setTx p (some { x with bad := true }) := by
  have hused : d.usedCells.contains c = true := List.contains_iff_mem.2 (mem_usedCells hy hc)
  have htx : (doomCell d c).txNow p = some x := by
    rw [Dev.txNow, doomCell_sw]
    exact hx
  have hholds : (match d.frame x.link.fid with | some f => f.cells.contains c | none => false) = true := by
    rw [hy]
    exact List.contains_iff_mem.2 hc
  unfold Dev.cellError
  dsimp only
  rw [hused, Bool.not_true, if_neg Bool.false_ne_true, ← doomCell, htx]
  dsimp only
  exact if_pos hholds

/-- What is left of an error in a list once the queue has been cut: counted, and its word retired. -/
def wordRetired (d : Dev) (mem key : Nat) : Dev :=
  ((((d.onSw (fun s => { s with badWords := s.badWords + 1 })).memError mem true).retireOther 0x07 mem key).logDiscard mem key)

theorem wordRetired_sw (mem key : Nat) : (wordRetired d mem key).sw = { d.sw with badWords := d.sw.badWords + 1 } :=
  ((report_memError _ _ _).trans ((report_retireOther _ _ _ _).trans (report_logAdd _ _ _ _ _))).sw

theorem wordRetired_queue (mem key p q : Nat) : (wordRetired d mem key).queue p q = d.queue p q := by
  rw [Dev.queue, wordRetired_sw, Dev.queue]

theorem wordRetired_txNow (mem key p : Nat) : (wordRetired d mem key).txNow p = d.txNow p := by
  rw [Dev.txNow, wordRetired_sw, Dev.txNow]

theorem wordRetired_latched (mem key : Nat) : latched (wordRetired d mem key) .resourceRetired = true :=
  (lasting_logAdd _ _ _ _ _).latched _ (latched_raise _ _)

theorem listError_of_queued {n : Nat} {b : Bool} (h : n < (d.queue p q).length) : d.listError p q n b =
    ((wordRetired ((d.popHead p q ((d.queue p q).take n) d.nowQ).each ((d.queue p q).drop n) (fun d _ => d.discardCause p 15))
      (if b then 2 else 1) (qKey p q)).judgeIdle p).judgeBanks := by
  unfold Dev.listError
  dsimp only
  rw [if_neg (Nat.not_le.mpr h)]
  rfl

theorem discardCause_sw (c : Nat) : (d.discardCause p c).sw = d.sw :=
  ((report_when _ _ _ (report_countPort _ _ _ _)).trans (report_portEvent _ _ _ _ _)).sw

theorem each_discard_sw {α : Type} (l : List α) (c : Nat) : (d.each l (fun d _ => d.discardCause p c)).sw = d.sw :=
  each_keeps d (·.sw) l (fun d _ => d.discardCause p c) (fun _ _ _ => discardCause_sw c)

theorem listError_shows {n : Nat} (b : Bool) (h : n < (d.queue p q).length) : (d.listError p q n b).queue p q = (d.queue p q).take n ∧
    (d.listError p q n b).sw.badWords = d.sw.badWords + 1 ∧ latched (d.listError p q n b) .resourceRetired = true := by
  rw [listError_of_queued h]
  generalize hcut : (d.popHead p q ((d.queue p q).take n) d.nowQ).each ((d.queue p q).drop n) (fun d _ => d.discardCause p 15) = x
  have hx : x.sw = (d.popHead p q ((d.queue p q).take n) d.nowQ).sw := by rw [← hcut, each_discard_sw]
  have hidle (y : Dev) : (y.judgeIdle p).sw = y.sw := sw_of_only (only_judgeIdle y p) (by decide)
  refine ⟨?_, ?_, ?_⟩
  · rw [judgeBanks_queue, queue_of_sw (hidle _), wordRetired_queue, queue_of_sw hx, popHead_queue]
  · rw [judgeBanks_reads (·.badWords) (fun _ _ => rfl), hidle, wordRetired_sw, hx]
    exact congrArg (· + 1) (popHead_reads (·.badWords) (fun _ => rfl) d p q _ _)
  · exact (lasting_judgeBanks _).latched _ ((Lasting.of_only (only_judgeIdle _ p) (by decide)).latched _ (wordRetired_latched _ _))

theorem sendingError_of_tx {n : Nat} {b : Bool} {x : TxNow} (hx : d.txNow p = some x) (hcut : x.cut = none) : d.sendingError p n b =
    wordRetired ((d.setTx p (some { x with cut := some n })).discardCause p 15) (if b then 2 else 1) (qKey p x.cls) := by
  unfold Dev.sendingError
  rw [hx]
  dsimp only
  rw [hcut, Option.isSome_none, if_neg Bool.false_ne_true]
  rfl

theorem sendingError_shows {n : Nat} (b : Bool) {x : TxNow} (hx : d.txNow p = some x) (hcut : x.cut = none) :
    (d.sendingError p n b).txNow p = some { x with cut := some n } ∧ (d.sendingError p n b).sw.badWords = d.sw.badWords + 1 ∧
    latched (d.sendingError p n b) .resourceRetired = true := by
  rw [sendingError_of_tx hx hcut]
  refine ⟨?_, ?_, wordRetired_latched _ _⟩
  · rw [wordRetired_txNow, txNow_of_sw (discardCause_sw _), txNow_setTx_same]
  · rw [wordRetired_sw, discardCause_sw]
    rfl

/-! ## Errors of table entries -/

theorem retireEntry_shows (cls mem i : Nat) : (cls, i) ∈ (d.retireEntry cls mem i).sw.badTbl ∧ latched (d.retireEntry cls mem i) .tblEntryRetired = true := by
  refine ⟨?_, latched_raise _ _⟩
  have hsw : (d.retireEntry cls mem i).sw = { d.sw with badTbl := d.sw.badTbl ++ [(cls, i)] } :=
    ((report_memError _ _ _).trans ((report_logAdd _ _ _ _ _).trans (report_raise _ _))).sw
  rw [hsw]
  exact List.mem_append_right _ List.mem_cons_self

theorem only_retireEntry_reports (d : Dev) (cls mem i : Nat) : Only (reports ++ [.sw]) alarmRegs d (d.retireEntry cls mem i) :=
  (((Only.refl.onSw _ (by decide)).memError _ _ (by decide)).logAdd _ _ _ _ (by decide)).raise _ (by decide)

/-! ## The audit -/

theorem holders_of_swHolders (h : swHolders e.sw = swHolders d.sw) (f : Nat) : e.holders f = d.holders f := by
  have hq := congrArg Switch.queues h
  have ht := congrArg Switch.tx h
  have hr := congrArg Switch.rx h
  have hh := congrArg Switch.holds h
  simp only [swHolders] at hq ht hr hh
  rw [Dev.holders, hq, ht, hr, hh, Dev.holders]

/-- One count of the audit, with CHANGED. -/
def auditNoted (j n : Nat) (d : Dev) : Dev := (d.set F.SW_AUDIT_STAT_CHANGED 1).countDev j n

theorem only_auditNoted (j n : Nat) (d : Dev) : Only reports (alarmRegs ++ [.SW_AUDIT_STAT]) d (auditNoted j n d) :=
  (Only.refl.set _ _ _ (by decide)).countDev _ _ (by decide)

theorem auditCount_sw (j n : Nat) : (d.auditCount j n).sw = d.sw :=
  when_keeps d (·.sw) (n != 0) (auditNoted j n) (sw_of_only (only_auditNoted j n d) (by decide))

theorem lasting_auditCount (d : Dev) (j n : Nat) : Lasting d (d.auditCount j n) :=
  (Lasting.refl d).when _ _ (((Lasting.refl d).set _ _ _ (by decide)).trans (lasting_countDev _ _ _))

theorem whenCounted_sw (b : Bool) (j n : Nat) : (d.when b (fun d => d.auditCount j n)).sw = d.sw :=
  when_keeps d (·.sw) b (fun d => d.auditCount j n) (auditCount_sw j n)

theorem auditFrame_holders (fi : AuditFinds) (g : Nat) : swHolders (d.auditFrame fi g).sw = swHolders d.sw := by
  unfold Dev.auditFrame
  split
  · rfl
  · dsimp only
    split
    · split
      · rw [freeFrame_holders, auditCount_sw]
      · rfl
    · rw [whenCounted_sw]
      rfl

/-- A frame in an audit reads as its holders are. -/
def Audited (n : Nat) (x : Option Stored) : Prop := ∃ y, x = some y ∧ y.refs = n ∧ y.unreached = 0

theorem auditFrame_same (fi : AuditFinds) {x : Stored} (h : d.frame f = some x) (hheld : 0 < d.holders f) :
    Audited (d.holders f) ((d.auditFrame fi f).frame f) := by
  unfold Dev.auditFrame
  rw [h]
  dsimp only
  rw [if_neg (Nat.pos_iff_ne_zero.1 hheld)]
  refine ⟨{ x with refs := d.holders f, unreached := 0 }, ?_, rfl, rfl⟩
  rw [frame_of_sw (whenCounted_sw _ _ _), frame_onFrame_same, h]
  rfl

theorem auditFrame_other (fi : AuditFinds) (h : f ≠ g) : (d.auditFrame fi g).frame f = d.frame f := by
  unfold Dev.auditFrame
  split
  · rfl
  · dsimp only
    split
    · split
      · rw [freeFrame_frame, if_neg h, frame_of_sw (auditCount_sw _ _)]
      · exact frame_onFrame_other _ h
    · rw [frame_of_sw (whenCounted_sw _ _ _)]
      exact frame_onFrame_other _ h

theorem each_auditFrame_holders (fi : AuditFinds) (l : List Nat) : swHolders (d.each l (fun d f => d.auditFrame fi f)).sw = swHolders d.sw :=
  each_keeps d (fun e => swHolders e.sw) l (fun d f => d.auditFrame fi f) (fun _ _ _ => auditFrame_holders fi _)

theorem each_auditFrame_kept (fi : AuditFinds) (l : List Nat) : ∀ d : Dev, 0 < d.holders f → Audited (d.holders f) (d.frame f) →
    Audited (d.holders f) ((d.each l (fun d f => d.auditFrame fi f)).frame f) := by
  induction l with
  | nil => exact fun _ _ h => h
  | cons g l ih =>
    intro d hheld ha
    have hsame : (d.auditFrame fi g).holders f = d.holders f := holders_of_swHolders (auditFrame_holders fi g) f
    have hrest := ih (d.auditFrame fi g)
    rw [hsame] at hrest
    refine hrest hheld ?_
    by_cases hg : f = g
    · obtain ⟨y, hy, -, -⟩ := ha
      rw [← hg]
      exact auditFrame_same fi hy hheld
    · rw [auditFrame_other fi hg]
      exact ha

/-- A frame that something holds is set right in the pass and stays so. -/
theorem each_auditFrame (fi : AuditFinds) {x : Stored} (l : List Nat) : ∀ d : Dev, f ∈ l → d.frame f = some x → 0 < d.holders f →
    Audited (d.holders f) ((d.each l (fun d f => d.auditFrame fi f)).frame f) := by
  induction l with
  | nil => exact fun _ h => absurd h List.not_mem_nil
  | cons g l ih =>
    intro d hmem h hheld
    have hsame : (d.auditFrame fi g).holders f = d.holders f := holders_of_swHolders (auditFrame_holders fi g) f
    by_cases hg : f = g
    · have hrest := each_auditFrame_kept (f := f) fi l (d.auditFrame fi g)
      rw [hsame] at hrest
      refine hrest hheld ?_
      rw [← hg]
      exact auditFrame_same fi h hheld
    · have hrest := ih (d.auditFrame fi g) ((List.mem_cons.1 hmem).resolve_left hg) ((auditFrame_other fi hg).trans h)
      rw [hsame] at hrest
      exact hrest hheld

/-- A pass over the frames of a state. -/
def auditFrames (fi : AuditFinds) (d : Dev) : Dev :=
  (d.onSw (fun s => { s with passes := s.passes + 1 })).each (d.sw.frames.map Prod.fst) (fun d f => d.auditFrame fi f)

theorem auditFrames_passes (fi : AuditFinds) : (auditFrames fi d).sw.passes = d.sw.passes + 1 := by
  have h := congrArg Switch.passes (each_auditFrame_holders (d := d.onSw (fun s => { s with passes := s.passes + 1 })) fi (d.sw.frames.map Prod.fst))
  exact h

theorem mem_keys_of_frame {x : Stored} (h : d.frame f = some x) : f ∈ d.sw.frames.map Prod.fst := by
  have hlisted (t : Tab (Option Stored)) (ht : tabGet t none f = some x) : f ∈ t.map Prod.fst := by
    induction t with
    | nil => exact absurd ht (by simp [tabGet])
    | cons y t ih =>
      obtain ⟨k, v⟩ := y
      unfold tabGet at ht
      split at ht
      next hk => exact hk ▸ List.mem_cons_self
      next => exact List.mem_cons_of_mem _ (ih ht)
  exact hlisted _ h

theorem auditFrames_held (fi : AuditFinds) {x : Stored} (h : d.frame f = some x) (hheld : 0 < d.holders f) :
    Audited (d.holders f) ((auditFrames fi d).frame f) :=
  each_auditFrame fi _ (d.onSw (fun s => { s with passes := s.passes + 1 })) (mem_keys_of_frame h) h hheld

/-- The end of an audit: its counts, and the sum of the cells. -/
def auditShown (fi : AuditFinds) (d : Dev) : Dev :=
  let d := d.auditCount 277 (fi.freeUsed.filter (fun c => d.usedCells.contains c)).length
  let d := d.set F.SW_AUDIT_STAT_PASSES d.sw.passes
  if fi.sum ≠ totalCells then (d.set F.SW_AUDIT_STAT_MISMATCH 1).raise .auditMismatch else d

theorem auditShown_sw (fi : AuditFinds) : (auditShown fi d).sw = d.sw := by
  unfold auditShown
  dsimp only
  split
  · rw [(report_raise _ _).sw]
    exact auditCount_sw _ _
  · exact auditCount_sw _ _

theorem auditPass_eq (fi : AuditFinds) (hon : d.fastOn = true) (hcrossed : fi.crossed = []) :
    d.auditPass fi = (auditShown fi (auditFrames fi d)).judgeBanks := by
  have hoff : (!d.fastOn) = false := by rw [hon]; rfl
  have hnone (e : Dev) : e.each fi.crossed Dev.auditCross = e := by rw [hcrossed]; rfl
  unfold Dev.auditPass
  dsimp only
  rw [if_neg (by rw [hoff]; exact Bool.false_ne_true), hnone, auditShown, auditFrames]
  rfl

theorem auditShown_mismatch (fi : AuditFinds) (h : fi.sum ≠ totalCells) : (auditShown fi d).flag F.SW_AUDIT_STAT_MISMATCH = true ∧
    latched (auditShown fi d) .auditMismatch = true := by
  unfold auditShown
  dsimp only
  rw [if_pos h]
  refine ⟨?_, latched_raise _ _⟩
  rw [Dev.flag, (report_raise _ _).get _ _ rfl, get_set_same _ _ _ _ (by decide)]
  rfl

end Sys2Proof.Laws

namespace Sys2Proof.Proofs

open Sys2Proof.Machine Sys2Proof.Safety Sys2Proof.Laws

section

variable {s : State} {p : PortId} {q : ClassId} {cell : Fin 294912} {i : Fin 262144} {n : Nat} {b : Bool} {fi : AuditFinds}

theorem completes_cellError {x : TxNow} {f : Stored} (hx : s.dev.txNow p.val = some x) (hf : s.dev.frame x.link.fid = some f)
    (hc : cell.val ∈ f.cells) : Completes (.cellReadError p ⟨cell, .uncorrectable⟩) s (fun t =>
      (∃ y, t.dev.txNow p.val = some y ∧ y.link = x.link ∧ y.bad = true) ∧ cell.val ∈ t.dev.sw.doomed ∧ t.dev.sw.queues = s.dev.sw.queues) := by
  refine completes_of_next rfl ?_
  rw [onDev_dev, memFails_uncorrectable, cellError_of_sending hx hf hc]
  refine ⟨⟨_, txNow_setTx_same _, rfl, rfl⟩, doomCell_mem _, ?_⟩
  show (doomCell s.dev cell.val).sw.queues = _
  rw [doomCell_sw]

theorem completes_listError (h : n < (s.dev.queue p.val q.val).length) : Completes (.listError p (.queued q n) b .uncorrectable) s (fun t =>
    t.dev.queue p.val q.val = (s.dev.queue p.val q.val).take n ∧ t.dev.sw.badWords = s.dev.sw.badWords + 1 ∧
    latched t.dev .resourceRetired = true) := by
  refine completes_of_next rfl ?_
  rw [onDev_dev, memFails_uncorrectable]
  exact listError_shows b h

theorem completes_sendingError {x : TxNow} (hx : s.dev.txNow p.val = some x) (hcut : x.cut = none) :
    Completes (.listError p (.sending n) b .uncorrectable) s (fun t =>
      t.dev.txNow p.val = some { x with cut := some n } ∧ t.dev.sw.badWords = s.dev.sw.badWords + 1 ∧
      latched t.dev .resourceRetired = true) := by
  refine completes_of_next rfl ?_
  rw [onDev_dev, memFails_uncorrectable]
  exact sendingError_shows b hx hcut

/-- A corrected error is reported and leaves everything else. -/
theorem completes_corrected {c : Instr} {m : Nat} {f : Dev → Dev} (hexec : exec c s = .next (s.onDev (·.memFails m .corrected f))) :
    Completes c s (fun t => FrameReported [] [] s t) := by
  refine completes_of_next hexec ⟨?_, onDev_flash s _, onDev_pending s _⟩
  rw [onDev_dev, memFails_corrected]
  exact onlyReported_memError _ _ _

theorem completes_fdbEntryError (hon : s.dev.fastOn = true) (h : s.dev.fdbRetired i.val = false) :
    Completes (.tableEntryError .fdb ⟨i, .uncorrectable⟩) s (fun t => t.dev.fdbRetired i.val = true ∧
      t.dev.fdbValid i.val = false ∧ latched t.dev .tblEntryRetired = true) := by
  have herror : s.dev.tableError .fdb i.val = ((s.dev.fdbDrop i.val).set F.FDB_W2_RETIRED 1 i.val).retireEntry 0x08 3 i.val := by
    unfold Dev.tableError
    dsimp only
    rw [hon, h]
    rfl
  have hreport := only_retireEntry_reports ((s.dev.fdbDrop i.val).set F.FDB_W2_RETIRED 1 i.val) 0x08 3 i.val
  refine completes_of_next rfl ?_
  rw [onDev_dev, memFails_uncorrectable, herror]
  refine ⟨?_, ?_, (retireEntry_shows _ _ _).2⟩
  · rw [Dev.fdbRetired, hreport.flag _ _ (by decide), Dev.flag, get_set_same _ _ _ _ (by decide)]
    rfl
  · rw [Dev.fdbValid, hreport.flag _ _ (by decide), flag_set_apart _ _ _ _ _ _ (by decide) (by decide)]
    exact fdbValid_fdbDrop

theorem completes_vlanEntryError (hon : s.dev.fastOn = true) (hi : i.val < 4096) (h : (0x09, i.val) ∉ s.dev.sw.badTbl) :
    Completes (.tableEntryError .vlan ⟨i, .uncorrectable⟩) s (fun t =>
      t.dev.flag F.VLAN_W3_VALID i.val = false ∧ (0x09, i.val) ∈ t.dev.sw.badTbl ∧ latched t.dev .tblEntryRetired = true) := by
  have herror : s.dev.tableError .vlan i.val = (s.dev.set F.VLAN_W3_VALID 0 i.val).retireEntry 0x09 4 i.val := by
    unfold Dev.tableError
    dsimp only
    exact if_neg (by simp [hon, h, hi])
  refine completes_of_next rfl ?_
  rw [onDev_dev, memFails_uncorrectable, herror]
  refine ⟨?_, retireEntry_shows _ _ _⟩
  rw [(only_retireEntry_reports _ _ _ _).flag _ _ (by decide), Dev.flag, get_set_same _ _ _ _ (by decide)]
  rfl

theorem completes_streamEntryError (hon : s.dev.fastOn = true) (hi : i.val < 16384) (h : (0x0A, i.val) ∉ s.dev.sw.badTbl) :
    Completes (.tableEntryError .stream ⟨i, .uncorrectable⟩) s (fun t =>
      (0x0A, i.val) ∈ t.dev.sw.badTbl ∧ latched t.dev .tblEntryRetired = true) := by
  have herror : s.dev.tableError .stream i.val = s.dev.retireEntry 0x0A 5 i.val := by
    unfold Dev.tableError
    dsimp only
    exact if_neg (by simp [hon, h, hi])
  refine completes_of_next rfl ?_
  rw [onDev_dev, memFails_uncorrectable, herror]
  exact retireEntry_shows _ _ _

theorem completes_auditPass (hon : s.dev.fastOn = true) (hcrossed : fi.crossed = []) {f : Stored} (hf : s.dev.frame n = some f)
    (hheld : 0 < s.dev.holders n) : Completes (.auditPass fi) s (fun t =>
      t.dev.sw.passes = s.dev.sw.passes + 1 ∧ ∃ g, t.dev.frame n = some g ∧ g.refs = s.dev.holders n ∧ g.unreached = 0) := by
  refine completes_of_next rfl ?_
  rw [onDev_dev, auditPass_eq fi hon hcrossed, judgeBanks_reads (·.passes) (fun _ _ => rfl), judgeBanks_frame, auditShown_sw,
    frame_of_sw (auditShown_sw fi)]
  exact ⟨auditFrames_passes fi, auditFrames_held fi hf hheld⟩

theorem completes_auditMismatch (hon : s.dev.fastOn = true) (hcrossed : fi.crossed = []) (hsum : fi.sum ≠ totalCells) :
    Completes (.auditPass fi) s (fun t => t.dev.flag F.SW_AUDIT_STAT_MISMATCH = true ∧ latched t.dev .auditMismatch = true) := by
  obtain ⟨hflag, hlatched⟩ := auditShown_mismatch (d := auditFrames fi s.dev) fi hsum
  refine completes_of_next rfl ?_
  rw [onDev_dev, auditPass_eq fi hon hcrossed, (only_judgeBanks _).flag _ _ (by decide)]
  exact ⟨hflag, (lasting_judgeBanks _).latched _ hlatched⟩

end

/-- Settles O34: an error by its place and kind, and an audit by the frames of its pass. -/
theorem switchMemoryErrors : Obligations.SwitchMemoryErrors := by
  refine fun s p q cell i n b fi => ⟨?_, ?_, ?_, ?_, fun w => ?_, fun w => ?_, fun hon => ⟨?_, ?_, ?_, fun hcrossed => ⟨?_, ?_⟩⟩⟩
  · exact fun x f hx hf hc => completes_cellError hx hf hc
  · exact completes_listError
  · exact fun x hx hcut => completes_sendingError hx hcut
  · exact completes_corrected rfl
  · exact completes_corrected rfl
  · exact completes_corrected rfl
  · exact completes_fdbEntryError hon
  · exact completes_vlanEntryError hon
  · exact completes_streamEntryError hon
  · exact fun f hf hheld => completes_auditPass hon hcrossed hf hheld
  · exact completes_auditMismatch hon hcrossed

end Sys2Proof.Proofs

/-! SUPPORT. What a frame on its way through admission keeps, and what the receive engines hold meanwhile. -/

namespace Sys2Proof.Laws

open Sys2Proof.Machine Sys2Proof.Safety

/-- A stored frame but for its holders, its charge, its cells and what waits on it. -/
def storedCore (x : Stored) : Stored := { x with refs := 0, charge := 0, res := false, cells := [], copies := [], waiting := [] }

/-- Every frame keeps what has been decided of it, and the receive engines keep their frames. -/
structure Framed (d e : Dev) : Prop where
  frames : ∀ f, (e.frame f).map storedCore = (d.frame f).map storedCore
  rx : e.sw.rx = d.sw.rx

variable {P : List Part} {R : List Reg} {x d e : Dev}

namespace Framed

theorem refl (d : Dev) : Framed d d := ⟨fun _ => rfl, rfl⟩
theorem trans (h : Framed x d) (k : Framed d e) : Framed x e := ⟨fun f => (k.frames f).trans (h.frames f), k.rx.trans h.rx⟩
theorem after (k : Framed d e) (h : Framed x d) : Framed x e := h.trans k

theorem of_sw (h : e.sw = d.sw) : Framed d e := ⟨fun f => by rw [frame_of_sw h], by rw [h]⟩
theorem of_only (k : Only P R d e) (h : .sw ∉ P) : Framed d e := of_sw (sw_of_only k h)
theorem of_report (k : Report d e) : Framed d e := of_sw k.sw

theorem when (h : Framed x d) (b : Bool) (f : Dev → Dev) (k : Framed d (f d)) : Framed x (d.when b f) := by
  cases b
  · exact h
  · exact h.trans k

theorem each {α : Type} (h : Framed x d) (l : List α) (f : Dev → α → Dev) (k : ∀ e a, Framed e (f e a)) : Framed x (d.each l f) := by
  unfold Dev.each
  induction l generalizing d with
  | nil => exact h
  | cons a l ih => exact ih (h.trans (k d a))

theorem onSw (h : Framed x d) (f : Switch → Switch) (hf : ∀ n, tabGet (f d.sw).frames none n = tabGet d.sw.frames none n)
    (hr : (f d.sw).rx = d.sw.rx) : Framed x (d.onSw f) :=
  h.trans ⟨fun n => congrArg (Option.map storedCore) (hf n), hr⟩

theorem onFrame (h : Framed x d) (n : Nat) (f : Stored → Stored) (hf : ∀ y, storedCore (f y) = storedCore y) : Framed x (d.onFrame n f) := by
  refine h.trans ⟨fun m => ?_, rfl⟩
  by_cases hm : m = n
  · rw [hm, frame_onFrame_same, Option.map_map]
    exact congrArg (fun g => Option.map g (d.frame n)) (funext hf)
  · rw [frame_onFrame_other _ hm]

theorem spendFree (h : Framed x d) : Framed x d.spendFree := h.trans (of_sw rfl)
theorem onPort (h : Framed x d) (p : Nat) (f : Port → Port) : Framed x (d.onPort p f) := h.trans (of_sw rfl)
theorem quadSet (h : Framed x d) (f : Fld) (v p : Nat) : Framed x (d.quadSet f v p) := h.trans (of_sw (setMark_sw ..))

/-- A frame is there after with what had been decided of it. -/
theorem frame (h : Framed d e) {n : Nat} {y : Stored} (hy : d.frame n = some y) : ∃ g, e.frame n = some g ∧ storedCore g = storedCore y := by
  have hcore := h.frames n
  rw [hy, Option.map_some] at hcore
  obtain ⟨g, hg, heq⟩ := Option.map_eq_some_iff.1 hcore
  exact ⟨g, hg, heq⟩

theorem rxNow (h : Framed d e) (p : Nat) : e.rxNow p = d.rxNow p := by rw [Dev.rxNow, h.rx, Dev.rxNow]

end Framed

theorem framed_judgeBanks (d : Dev) : Framed d d.judgeBanks := by
  obtain ⟨n, hn⟩ := judgeBanks_sw d
  exact ⟨fun f => by rw [judgeBanks_frame], by rw [hn]⟩

theorem framed_chargeFrame (d : Dev) (f n : Nat) (res : Bool) : Framed d (d.chargeFrame f n res) := by
  unfold Dev.chargeFrame
  try dsimp only
  repeat' first
    | with_reducible exact Framed.refl _
    | with_reducible refine Framed.onFrame ?_ _ _ (fun _ => rfl)

theorem framed_setQueue (d : Dev) (p q : Nat) (l : List Link) : Framed d (d.setQueue p q l) := by
  unfold Dev.setQueue
  try dsimp only
  repeat' first
    | with_reducible exact Framed.refl _
    | with_reducible refine Framed.onSw ?_ _ (fun _ => rfl) rfl

theorem framed_wakeTx (d : Dev) (p : Nat) : Framed d (d.wakeTx p) := by
  unfold Dev.wakeTx
  try dsimp only
  repeat' first
    | with_reducible exact Framed.refl _
    | with_reducible refine Framed.quadSet ?_ _ _ _
    | with_reducible refine Framed.onPort ?_ _ _
    | with_reducible refine (Framed.of_report (report_countPort _ _ _ _)).after ?_
    | with_reducible refine (framed_judgeBanks _).after ?_
    | with_reducible refine (Framed.of_only (only_restartLpll _ _) (by decide)).after ?_
    | split

theorem framed_link (d : Dev) (p q : Nat) (l : Link) : Framed d (d.link p q l) := by
  unfold Dev.link
  try dsimp only
  repeat' first
    | with_reducible exact Framed.refl _
    | with_reducible refine (Framed.of_only (only_judgeIdle _ _) (by decide)).after ?_
    | with_reducible refine Framed.onFrame ?_ _ _ (fun _ => rfl)
    | with_reducible refine (framed_setQueue _ _ _ _).after ?_
    | with_reducible refine (framed_wakeTx _ _).after ?_

theorem framed_redUpdate (d : Dev) (p q : Nat) : Framed d (d.redUpdate p q) := by
  unfold Dev.redUpdate
  try dsimp only
  repeat' first
    | with_reducible exact Framed.refl _
    | with_reducible refine Framed.onSw ?_ _ (fun _ => rfl) rfl
    | split

theorem framed_setTail (d : Dev) (p q : Nat) (t : Int) : Framed d (d.setTail p q t) := by
  unfold Dev.setTail
  try dsimp only
  repeat' first
    | with_reducible exact Framed.refl _
    | with_reducible refine Framed.onSw ?_ _ (fun _ => rfl) rfl

theorem framed_offer (d : Dev) (p q fid lc : Nat) (copy : Option Nat) : Framed d (d.offer p q fid lc copy).1 := by
  unfold Dev.offer
  try dsimp only
  repeat' first
    | with_reducible exact Framed.refl _
    | with_reducible refine Framed.spendFree ?_
    | with_reducible refine (Framed.of_report (report_portEvent _ _ _ _ _)).after ?_
    | with_reducible refine (framed_chargeFrame _ _ _ _).after ?_
    | with_reducible refine (Framed.of_only (only_judgeIdle _ _) (by decide)).after ?_
    | with_reducible refine (framed_link _ _ _ _).after ?_
    | with_reducible refine Framed.onFrame ?_ _ _ (fun _ => rfl)
    | with_reducible refine (framed_redUpdate _ _ _).after ?_
    | with_reducible refine (Framed.of_only (only_refuse _ _ _ _) (by decide)).after ?_
    | with_reducible refine (framed_setTail _ _ _ _).after ?_
    | with_reducible refine (framed_wakeTx _ _).after ?_
    | with_reducible refine Framed.when ?_ _ _ ?_
    | split

theorem framed_admitFrame (d : Dev) (fid : Nat) : Framed d (d.admitFrame fid) := by
  unfold Dev.admitFrame
  split
  · exact .refl _
  · refine ((Framed.refl d).each _ _ (fun e q => ?_)).trans (framed_judgeBanks _)
    split
    · exact framed_offer _ _ _ _ _ _
    · exact .refl _

theorem framed_mirIngress (d : Dev) (fid p : Nat) (flow : Option Nat) : Framed d (d.mirIngress fid p flow) := by
  refine (Framed.refl d).each _ _ (fun e s => ?_)
  split
  · have hcandidate : Framed e (e.mirCandidate s).1 := by
      unfold Dev.mirCandidate
      split
      · exact .refl _
      · dsimp only
        refine Framed.onSw (Framed.refl e) _ ?_ ?_
        · exact fun _ => rfl
        · rfl
    dsimp only
    split
    · exact hcandidate.onFrame _ _ (fun _ => rfl)
    · exact hcandidate
  · exact .refl _

theorem framed_giveCells (d : Dev) (f n : Nat) : Framed d (d.giveCells f n) := by
  have hslots (k : Nat) : Framed d (d.useSlots k) := (Framed.refl d).onSw (fun s => { s with slots := s.slots + k }) (fun _ => rfl) rfl
  have hcells (e : Dev) (cells : List Nat) : Framed e (e.onFrame f (fun s => { s with cells := cells })) := (Framed.refl e).onFrame _ _ (fun _ => rfl)
  unfold Dev.giveCells
  exact (hslots _).trans ((hcells _ _).trans (.of_only (P := [.freeCtr]) (R := []) (Only.refl.upd_freeCtr _ (by decide)) (by decide)))

theorem framed_storeFrame (d : Dev) (fid : Nat) : Framed d (d.storeFrame fid) := by
  unfold Dev.storeFrame
  split
  · exact .refl _
  · split
    · exact framed_giveCells _ _ _
    · exact .refl _

theorem framed_storeIfCopied (d : Dev) (fid : Nat) : Framed d (d.storeIfCopied fid) := by
  unfold Dev.storeIfCopied
  split
  · split
    · exact .refl _
    · exact framed_storeFrame _ _
  · exact .refl _

theorem framed_dropUnstored (d : Dev) (fid : Nat) : Framed d (d.dropUnstored fid) := by
  unfold Dev.dropUnstored
  split
  · exact .refl _
  · split
    · exact (Framed.refl d).onFrame _ _ (fun _ => rfl)
    · exact .refl _

/-- A frame that is decided and goes on to its queues. -/
theorem framed_goOn (d : Dev) (fid : Nat) : Framed d (((d.storeFrame fid).admitFrame fid).dropUnstored fid) :=
  ((framed_storeFrame d fid).trans (framed_admitFrame _ fid)).trans (framed_dropUnstored _ fid)

end Sys2Proof.Laws

/-! SUPPORT. Laws of the scheduler: the class it picks, the head it commits, and what leaves a port. -/

namespace Sys2Proof.Laws

open Sys2Proof.Machine Sys2Proof.Safety

variable {d e : Dev} {p q f g : Nat}

theorem each_of_fixed {α : Type} {l : List α} {k : Dev → α → Dev} (h : ∀ a ∈ l, k d a = d) : d.each l k = d := by
  induction l with
  | nil => rfl
  | cons a l ih =>
    have hstep : d.each (a :: l) k = (k d a).each l k := rfl
    rw [hstep, h a List.mem_cons_self]
    exact ih (fun b hb => h b (List.mem_cons_of_mem _ hb))

/-! ## Gates -/

theorem fillCycle_states {l : List (Nat × Nat × Nat)} (h : ∀ x ∈ l, x.1 < 256) (left : Nat) : ∀ x ∈ fillCycle l left, x.1 < 256 := by
  induction l generalizing left with
  | nil => exact fun _ h => absurd h List.not_mem_nil
  | cons y l ih =>
    obtain ⟨s, e, i⟩ := y
    have hs : s < 256 := h _ List.mem_cons_self
    unfold fillCycle
    split
    · exact fun _ h => absurd h List.not_mem_nil
    · split
      · intro x hx
        rw [List.mem_singleton.1 hx]
        exact hs
      · intro x hx
        obtain rfl | hx := List.mem_cons.1 hx
        · exact hs
        · exact ih (fun z hz => h z (List.mem_cons_of_mem _ hz)) _ x hx

theorem dropDur_states {l : List (Nat × Nat × Int)} (h : ∀ x ∈ l, x.1 < 256) (n : Int) : ∀ x ∈ dropDur n l, x.1 < 256 := by
  induction l generalizing n with
  | nil => exact fun _ h => absurd h List.not_mem_nil
  | cons y l ih =>
    obtain ⟨s, e, i⟩ := y
    have hs : s < 256 := h _ List.mem_cons_self
    unfold dropDur
    split
    · intro x hx
      obtain rfl | hx := List.mem_cons.1 hx
      · exact hs
      · exact h x (List.mem_cons_of_mem _ hx)
    · exact ih (fun z hz => h z (List.mem_cons_of_mem _ hz)) _

/-- Gates are those of the eight classes. -/
theorem gateAt_lt (p : Nat) (t : Int) : (d.gateAt p t).1 < 256 := by
  have hcycle : ∀ x ∈ d.gateCycle p, x.1 < 256 := by
    refine fillCycle_states (fun x hx => ?_) _
    obtain ⟨e, -, rfl⟩ := List.mem_map.1 hx
    exact bitsOf_lt _ _ _
  have hwalk : ∀ x ∈ d.gateWalk p t, x.1 < 256 := by
    unfold Dev.gateWalk
    split
    · intro x hx
      rw [List.mem_singleton.1 hx]
      decide
    · intro x hx
      obtain hx | hx := List.mem_append.1 hx
      · obtain hx | hx := List.mem_append.1 hx
        · exact dropDur_states hcycle _ x hx
        · exact hcycle x hx
      · exact hcycle x hx
  unfold Dev.gateAt
  split
  next s e n l h => exact hwalk (s, e, n) (h ▸ List.mem_cons_self)
  next => decide

theorem headReady_lt (h : d.headReady p q = true) : q < 8 := by
  by_contra hq
  have hlt := gateAt_lt (d := d) p d.nowQ
  have hbit : bitAt (d.gateAt p d.nowQ).1 q = false := by
    have hpow : 256 ≤ 2 ^ q := Nat.pow_le_pow_right (show 0 < 2 from Nat.two_pos) (show 8 ≤ q by omega)
    simp [bitAt, Nat.div_eq_of_lt (Nat.lt_of_lt_of_le hlt hpow)]
  unfold Dev.headReady at h
  split at h
  · exact Bool.false_ne_true h
  · rw [hbit] at h
    exact Bool.false_ne_true h

theorem queue_of_headReady (h : d.headReady p q = true) : d.queue p q ≠ [] := by
  intro hnil
  rw [Dev.headReady, hnil] at h
  exact Bool.false_ne_true h

/-! ## The class that is picked -/

/-- Of the classes from the highest down, the first that satisfies a test. -/
theorem find_down {test : Nat → Bool} (hq : q < 8) (h : test q = true) (habove : ∀ k < 8, q < k → test k = false) :
    [7, 6, 5, 4, 3, 2, 1, 0].find? test = some q := by
  have hall (n : Nat) : q < n → n ≤ 8 → ((List.range n).reverse).find? test = some q := by
    induction n with
    | zero => exact fun h => absurd h (Nat.not_lt_zero _)
    | succ n ih =>
      intro hn hle
      rw [List.range_succ, List.reverse_append, List.reverse_singleton, List.singleton_append, List.find?_cons]
      by_cases heq : q = n
      · rw [← heq, h]
      · rw [habove n (by omega) (by omega)]
        exact ih (by omega) (by omega)
  exact hall 8 hq (Nat.le_refl 8)

theorem mem_classes {k : Nat} (h : k ∈ [7, 6, 5, 4, 3, 2, 1, 0]) : k < 8 := by
  simp only [List.mem_cons, List.not_mem_nil, or_false] at h
  omega

theorem pickClass_of_bounded (hq : q < 8) (hb : d.bounded p q = true) (hready : d.headReady p q = true)
    (habove : ∀ k < 8, q < k → d.queue p k = []) : d.pickClass p = (d, some q) := by
  have hnot (k : Nat) (hk : k < 8) (hqk : q < k) : d.headReady p k = false := by
    rw [Dev.headReady, habove k hk hqk]
  have hfind : [7, 6, 5, 4, 3, 2, 1, 0].find? (fun q => d.bounded p q && d.headReady p q) = some q :=
    find_down hq (by rw [hb, hready]; rfl) (fun k hk hqk => by rw [hnot k hk hqk, Bool.and_false])
  unfold Dev.pickClass
  dsimp only
  rw [hfind]

theorem noBounded (h : ∀ k < 8, d.bounded p k = true → d.headReady p k = false) :
    [7, 6, 5, 4, 3, 2, 1, 0].find? (fun q => d.bounded p q && d.headReady p q) = none := by
  refine List.find?_eq_none.2 (fun k hk hready => ?_)
  obtain ⟨hb, hr⟩ := Bool.and_eq_true_iff.1 hready
  exact Bool.false_ne_true ((h k (mem_classes hk) hb).symm.trans hr)

theorem pickClass_of_strict (hq : q < 8) (hb : d.bounded p q = false) (hsp : d.flag F.PRT_Q_CFG_SP (qKey p q) = true)
    (hready : d.headReady p q = true) (hnone : ∀ k < 8, d.bounded p k = true → d.headReady p k = false)
    (habove : ∀ k < 8, q < k → d.queue p k = []) : d.pickClass p = (d, some q) := by
  have hnot (k : Nat) (hk : k < 8) (hqk : q < k) : d.headReady p k = false := by
    rw [Dev.headReady, habove k hk hqk]
  have hfind : [7, 6, 5, 4, 3, 2, 1, 0].find? (fun q => !d.bounded p q && d.flag F.PRT_Q_CFG_SP (qKey p q) && d.headReady p q) = some q :=
    find_down hq (by rw [hb, hsp, hready]; rfl) (fun k hk hqk => by rw [hnot k hk hqk, Bool.and_false])
  unfold Dev.pickClass
  dsimp only
  rw [noBounded hnone]
  dsimp only
  rw [hfind]

/-! ## Deficit round robin over empty queues -/

/-- A port without queued frames. -/
def NoQueued (p : Nat) (d : Dev) : Prop := ∀ k < 8, d.queue p k = []

/-- Deficit round robin picks nothing, and keeps queues and engines. -/
theorem drrPick_of_empty (n : Nat) : ∀ (d : Dev) (idle : Nat), NoQueued p d → (d.drrPick p n idle).2 = none ∧
    (d.drrPick p n idle).1.sw.queues = d.sw.queues ∧ (d.drrPick p n idle).1.sw.tx = d.sw.tx := by
  induction n with
  | zero => exact fun d idle _ => ⟨rfl, rfl, rfl⟩
  | succ n ih =>
    intro d idle h
    unfold Dev.drrPick
    split
    · exact ⟨rfl, rfl, rfl⟩
    · dsimp only
      split
      · exact ih _ _ h
      next l rest hl =>
        have hnot : d.headReady p (tabGet d.sw.drr (7, false) p).1 = false := by
          by_contra hready
          have hready := (Bool.not_eq_false _).mp hready
          exact queue_of_headReady hready (h _ (headReady_lt hready))
        rw [hnot, Bool.not_false, Bool.or_true, if_pos rfl]
        exact ih _ _ h

theorem pickClass_of_empty (h : NoQueued p d) : (d.pickClass p).2 = none ∧ (d.pickClass p).1.sw.queues = d.sw.queues ∧
    (d.pickClass p).1.sw.tx = d.sw.tx := by
  have hready (k : Nat) (hk : k < 8) : d.headReady p k = false := by rw [Dev.headReady, h k hk]
  have hstrict : [7, 6, 5, 4, 3, 2, 1, 0].find? (fun q => !d.bounded p q && d.flag F.PRT_Q_CFG_SP (qKey p q) && d.headReady p q) = none :=
    List.find?_eq_none.2 (fun k hk hr => Bool.false_ne_true ((hready k (mem_classes hk)).symm.trans (Bool.and_eq_true_iff.1 hr).2))
  unfold Dev.pickClass
  dsimp only
  rw [noBounded (fun k hk _ => hready k hk)]
  dsimp only
  rw [hstrict]
  exact drrPick_of_empty _ _ _ h

/-! ## The head that is committed -/

theorem mirCandidate_of_off {s : Nat} (h : d.flag F.SW_MIR_CFG_EN s = false) : d.mirCandidate s = (d, false) := by
  rw [Dev.mirCandidate, h]
  rfl

theorem mirEgress_of_off (l : Link) (h : ∀ m < 4, d.flag F.SW_MIR_CFG_EN m = false) : d.mirEgress p l = d := by
  unfold Dev.mirEgress
  split
  · rfl
  · refine each_of_fixed (fun s hs => ?_)
    rw [mirCandidate_of_off (h s (List.mem_range.1 hs))]
    dsimp only
    split
    · exact if_pos rfl
    · rfl

/-- What a port commits: its link and class, and what is left of the queue. -/
def Committed (p q : Nat) (l : Link) (rest : List Link) (d : Dev) : Prop :=
  (∃ x, d.txNow p = some x ∧ x.link = l ∧ x.cls = q) ∧ d.queue p q = rest

theorem commitHead_eq {l : Link} {rest : List Link} {x : Stored} (hx : d.frame l.fid = some x) (hown : x.own = .none) (tTx : Ticks) :
    ∃ n ends t, t.link = l ∧ t.cls = q ∧
      d.commitHead p q l rest tTx = (((((d.useSlots n).popHead p q rest ends).setTx p (some t)).mirEgress p l).judgeIdle p) := by
  unfold Dev.commitHead
  rw [hx]
  dsimp only
  rw [hown]
  refine ⟨_, _, _, ?_, ?_, rfl⟩
  · rfl
  · rfl

theorem only_committing (n : Nat) (rest : List Link) (ends : Int) (t : Option TxNow) :
    Only [.sw] [] d (((d.useSlots n).popHead p q rest ends).setTx p t) :=
  ((Only.refl.onSw _ (by decide)).popHead _ _ _ _ (by decide) (by decide)).setTx _ _ (by decide) (by decide)

theorem committed_commitHead {l : Link} {rest : List Link} {x : Stored} (hx : d.frame l.fid = some x) (hown : x.own = .none)
    (hmir : ∀ m < 4, d.flag F.SW_MIR_CFG_EN m = false) (tTx : Ticks) : Committed p q l rest (d.commitHead p q l rest tTx) := by
  obtain ⟨n, ends, t, hlink, hcls, heq⟩ := commitHead_eq (p := p) (q := q) (rest := rest) hx hown tTx
  have honly : Only [.sw] [] d (((d.useSlots n).popHead p q rest ends).setTx p (some t)) := only_committing n rest ends (some t)
  have hidle (y : Dev) : (y.judgeIdle p).sw = y.sw := sw_of_only (only_judgeIdle y p) (by decide)
  rw [heq, mirEgress_of_off l (fun m hm => (honly.flag _ m (by decide)).trans (hmir m hm))]
  refine ⟨⟨t, ?_, hlink, hcls⟩, ?_⟩
  · rw [txNow_of_sw (hidle _), txNow_setTx_same]
  · rw [queue_of_sw (hidle _)]
    exact popHead_queue (d := d.useSlots n) rest ends

theorem committed_judgeBanks {l : Link} {rest : List Link} (h : Committed p q l rest d) : Committed p q l rest d.judgeBanks := by
  obtain ⟨⟨x, hx, hlink, hcls⟩, hq⟩ := h
  exact ⟨⟨x, (judgeBanks_txNow p).trans hx, hlink, hcls⟩, (judgeBanks_queue p q).trans hq⟩

/-- A head in a queue has its frame. -/
theorem frame_of_headReady {l : Link} {rest : List Link} (hq : d.queue p q = l :: rest) (h : d.headReady p q = true) :
    ∃ x, d.frame l.fid = some x := by
  rw [Dev.headReady, hq] at h
  have hsend : d.sendable l = true := (Bool.and_eq_true_iff.1 (Bool.and_eq_true_iff.1 h).1).2
  unfold Dev.sendable at hsend
  split at hsend
  · exact absurd hsend Bool.false_ne_true
  next x hx => exact ⟨x, hx⟩

theorem commit_of_ordinary (c : Capture) (n : Nat) {l : Link} {rest : List Link} (hpick : d.pickClass p = (d, some q))
    (hq : d.queue p q = l :: rest) (hl : l.deadline = none) : d.commit p c (n + 1) = d.commitHead p q l rest (d.tTx p c) := by
  unfold Dev.commit
  rw [hpick]
  dsimp only
  rw [hq]
  dsimp only
  rw [hl]

theorem commit_of_timely (c : Capture) (n : Nat) {l : Link} {rest : List Link} {z : Int} (hpick : d.pickClass p = (d, some q))
    (hq : d.queue p q = l :: rest) (hl : l.deadline = some z) (hz : toQ (d.tTx p c) ≤ z) :
    d.commit p c (n + 1) = d.commitHead p q l rest (d.tTx p c) := by
  unfold Dev.commit
  rw [hpick]
  dsimp only
  rw [hq]
  dsimp only
  rw [hl]
  exact if_neg (Int.not_lt.mpr hz)

/-- A bounded head that would be late, discarded. -/
def lateGone (p q : Nat) (l : Link) (rest : List Link) (d : Dev) : Dev :=
  (((d.popHead p q rest d.nowQ).unlink l).portEvent p 0x048).judgeIdle p

theorem commit_of_late (c : Capture) (n : Nat) {l : Link} {rest : List Link} {z : Int} (hpick : d.pickClass p = (d, some q))
    (hq : d.queue p q = l :: rest) (hl : l.deadline = some z) (hz : z < toQ (d.tTx p c)) :
    d.commit p c (n + 1) = (lateGone p q l rest d).commit p c n := by
  rw [Dev.commit, hpick]
  dsimp only
  rw [hq]
  dsimp only
  rw [hl]
  exact if_pos hz

theorem lateGone_sw (l : Link) (rest : List Link) : (lateGone p q l rest d).sw = ((d.popHead p q rest d.nowQ).release l.fid).sw :=
  (sw_of_only (only_judgeIdle _ p) (by decide)).trans (report_portEvent _ _ _ _ _).sw

theorem lateGone_txNow (l : Link) (rest : List Link) : (lateGone p q l rest d).txNow p = d.txNow p := by
  rw [txNow_of_sw (lateGone_sw l rest), release_txNow]
  exact popHead_reads (fun s => tabGet s.tx none p) (fun _ => rfl) d p q _ _

theorem lateGone_queue (l : Link) (rest : List Link) : (lateGone p q l rest d).queue p q = rest := by
  rw [queue_of_sw (lateGone_sw l rest), release_queue, popHead_queue]

theorem lateGone_queue_other (l : Link) (rest : List Link) {k : Nat} (h : k ≠ q) : (lateGone p q l rest d).queue p k = d.queue p k := by
  rw [queue_of_sw (lateGone_sw l rest), release_queue, popHead_queue_other _ _ h]

theorem commit_of_empty (c : Capture) (h : NoQueued p d) : ∀ n, (d.commit p c n).txNow p = d.txNow p ∧
    (d.commit p c n).sw.queues = d.sw.queues
  | 0 => ⟨rfl, rfl⟩
  | n + 1 => by
    obtain ⟨hpick, hqueues, htx⟩ := pickClass_of_empty h
    have heq : d.commit p c (n + 1) = (d.pickClass p).1 := by
      rw [Dev.commit]
      split
      next e he => rw [he]
      next e k he => exact absurd (hpick.symm.trans (congrArg Prod.snd he)) (by simp)
    rw [heq, Dev.txNow, htx, hqueues]
    exact ⟨rfl, rfl⟩

/-! ## What leaves a port -/

/-- The counts of a frame that leaves. -/
def sentCounted (p : Nat) (t : TxNow) (f : Stored) (b : List Byte) (d : Dev) : Dev :=
  let d := ((d.countFrame p 1 b).countPort p (8 + t.cls) b.length).countPort p (16 + t.cls)
  let d := d.countPort p (if t.ct then 36 else 37)
  let d := d.when ((t.bad || f.bad || t.cut.isSome) && t.link.copy.isNone) (fun d => d.countPort p 35)
  let d := d.ptpGone p b t.stamp
  d.when (d.leftUnparsed f && t.link.copy.isNone) (fun d => d.portEvent p 0x043)

theorem only_sentCounted (t : TxNow) (f : Stored) (b : List Byte) (d : Dev) : Only (reports ++ [.ptus]) alarmRegs d (sentCounted p t f b d) := by
  have hmark (e : Dev) : Only (reports ++ [.ptus]) alarmRegs e (e.countPort p 35) := Only.refl.countPort _ _ _ (by decide)
  have hevent (e : Dev) : Only (reports ++ [.ptus]) alarmRegs e (e.portEvent p 0x043) := Only.refl.portEvent _ _ _ _ (by decide)
  have hcount (e : Dev) (k n : Nat) : Only (reports ++ [.ptus]) alarmRegs e (e.countPort p k n) := Only.refl.countPort _ _ _ (by decide)
  have hgone (e : Dev) : Only (reports ++ [.ptus]) alarmRegs e (e.ptpGone p b t.stamp) := Only.refl.ptpGone _ _ _ (by decide) (by decide)
  have hframe (e : Dev) : Only (reports ++ [.ptus]) alarmRegs e (e.countFrame p 1 b) := Only.refl.countFrame _ _ _ (by decide) (by decide)
  unfold sentCounted
  dsimp only
  refine Only.when (Only.trans (Only.when ?_ _ _ (hmark _)) (hgone _)) _ _ (hevent _)
  exact (((hframe d).trans (hcount _ (8 + t.cls) b.length)).trans (hcount _ (16 + t.cls) 1)).trans (hcount _ (if t.ct then 36 else 37) 1)

/-- The tail of a queue that has run empty. -/
def tailJudged (p q : Nat) (d : Dev) : Dev := d.when (d.queue p q).isEmpty (fun d => d.setTail p q (min (d.tail p q) d.nowQ))

theorem transmitDone_of_frame {t : TxNow} {x : Stored} (ht : d.txNow p = some t) (hx : d.frame t.link.fid = some x)
    (hdone : x.done = true ∨ t.cut.isSome = true) : ∃ y, y = (tailJudged p t.cls (sentCounted p t x (d.outBytes p t x) d)) ∧
      d.transmitDone p = (((if t.cut.isSome then ((y.emit (if (y.port p).inLoop then .looped p (d.outBytes p t x)
        else .frame p (d.outBytes p t x))).setTx p none) else ((y.emit (if (y.port p).inLoop then .looped p (d.outBytes p t x)
        else .frame p (d.outBytes p t x))).setTx p none).unlink t.link).judgeIdle p)).judgeBanks := by
  refine ⟨_, rfl, ?_⟩
  have hgo : (!x.done && t.cut.isNone) = false := by
    obtain h | h := hdone
    · rw [h]
      rfl
    · rw [Option.isNone_eq_false_iff.2 h, Bool.and_false]
  unfold Dev.transmitDone
  rw [ht]
  dsimp only
  rw [hx]
  dsimp only
  rw [hgo, if_neg Bool.false_ne_true]
  rfl

end Sys2Proof.Laws

namespace Sys2Proof.Proofs

open Sys2Proof.Machine Sys2Proof.Safety Sys2Proof.Laws

section

variable {s : State} {p : PortId} {c : Capture} {q : Nat} {l : Link} {rest : List Link}

theorem frameCommit_of_free (hup : s.dev.linkUp p.val = true) (htx : s.dev.txNow p.val = none) (hawake : s.dev.txSleep p.val = 0) :
    s.dev.frameCommit p.val c =
      (s.dev.commit p.val c (((List.range 8).map (fun q => (s.dev.queue p.val q).length)).sum + 1)).judgeBanks := by
  have hfree : (!s.dev.linkUp p.val || (s.dev.txNow p.val).isSome || s.dev.txSleep p.val != 0) = false := by
    rw [hup, htx, hawake]
    rfl
  rw [Dev.frameCommit, hfree, if_neg Bool.false_ne_true, Nat.add_comm 1]

theorem completes_strictCommit (hup : s.dev.linkUp p.val = true) (htx : s.dev.txNow p.val = none) (hawake : s.dev.txSleep p.val = 0) (hq : q < 8)
    (hqueue : s.dev.queue p.val q = l :: rest) (hmir : ∀ m < 4, s.dev.flag F.SW_MIR_CFG_EN m = false) (hready : s.dev.headReady p.val q = true)
    (hown : ∀ (f : Stored), s.dev.frame l.fid = some f → f.own = .none) (hb : s.dev.bounded p.val q = false)
    (hnone : ∀ k < 8, s.dev.bounded p.val k = true → s.dev.headReady p.val k = false)
    (hsp : s.dev.flag F.PRT_Q_CFG_SP (qKey p.val q) = true) (habove : ∀ k < 8, q < k → s.dev.queue p.val k = []) (hl : l.deadline = none) :
    Completes (.frameCommit p c) s (fun t => (∃ x, t.dev.txNow p.val = some x ∧ x.link = l ∧ x.cls = q) ∧ t.dev.queue p.val q = rest) := by
  obtain ⟨x, hx⟩ := frame_of_headReady hqueue hready
  refine completes_of_next rfl ?_
  rw [onDev_dev, frameCommit_of_free hup htx hawake, commit_of_ordinary c _ (pickClass_of_strict hq hb hsp hready hnone habove) hqueue hl]
  exact committed_judgeBanks (committed_commitHead hx (hown x hx) hmir _)

theorem completes_boundedCommit {z : Int} (hup : s.dev.linkUp p.val = true) (htx : s.dev.txNow p.val = none) (hawake : s.dev.txSleep p.val = 0)
    (hq : q < 8) (hqueue : s.dev.queue p.val q = l :: rest) (hmir : ∀ m < 4, s.dev.flag F.SW_MIR_CFG_EN m = false)
    (hready : s.dev.headReady p.val q = true) (hown : ∀ (f : Stored), s.dev.frame l.fid = some f → f.own = .none)
    (hb : s.dev.bounded p.val q = true) (habove : ∀ k < 8, q < k → s.dev.queue p.val k = []) (hl : l.deadline = some z) :
    Completes (.frameCommit p c) s (fun t =>
      (toQ (s.dev.tTx p.val c) ≤ z → (∃ x, t.dev.txNow p.val = some x ∧ x.link = l ∧ x.cls = q) ∧ t.dev.queue p.val q = rest) ∧
      (z < toQ (s.dev.tTx p.val c) → rest = [] → (∀ k < 8, k ≠ q → s.dev.queue p.val k = []) →
        t.dev.txNow p.val = none ∧ t.dev.queue p.val q = [])) := by
  obtain ⟨x, hx⟩ := frame_of_headReady hqueue hready
  have hpick := pickClass_of_bounded hq hb hready habove
  refine completes_of_next rfl ?_
  rw [onDev_dev, frameCommit_of_free hup htx hawake]
  refine ⟨fun hz => ?_, fun hz hrest hothers => ?_⟩
  · rw [commit_of_timely c _ hpick hqueue hl hz]
    exact committed_judgeBanks (committed_commitHead hx (hown x hx) hmir _)
  · rw [commit_of_late c _ hpick hqueue hl hz]
    have hempty : NoQueued p.val (lateGone p.val q l rest s.dev) := by
      intro k hk
      by_cases hkq : k = q
      · rw [hkq, lateGone_queue, hrest]
      · rw [lateGone_queue_other l rest hkq, hothers k hk hkq]
    obtain ⟨hcommittx, hqueues⟩ := commit_of_empty c hempty (((List.range 8).map (fun q => (s.dev.queue p.val q).length)).sum)
    refine ⟨?_, ?_⟩
    · rw [judgeBanks_txNow, hcommittx, lateGone_txNow, htx]
    · rw [judgeBanks_queue, Dev.queue, hqueues]
      exact (lateGone_queue l rest).trans hrest

theorem completes_transmitDone {x : TxNow} {f : Stored} (hx : s.dev.txNow p.val = some x) (hf : s.dev.frame x.link.fid = some f)
    (hdone : f.done = true ∨ x.cut.isSome = true) : Completes (.frameTransmitDone p) s (fun t => t.dev.txNow p.val = none ∧
      (if (s.dev.port p.val).inLoop then Emit.looped p.val (s.dev.outBytes p.val x f) else Emit.frame p.val (s.dev.outBytes p.val x f))
        ∈ t.dev.sent ∧
      (x.cut.isSome = true → t.dev.frame x.link.fid = some f) ∧
      (x.cut = none → 2 ≤ f.refs → t.dev.frame x.link.fid = some { f with refs := f.refs - 1 }) ∧
      (x.cut = none → f.refs ≤ 1 → t.dev.frame x.link.fid = none)) := by
  obtain ⟨y, hy, hgone⟩ := transmitDone_of_frame hx hf hdone
  have hcounted := only_sentCounted (p := p.val) x f (s.dev.outBytes p.val x f) s.dev
  have hjudged : Only [.sw] [] (sentCounted p.val x f (s.dev.outBytes p.val x f) s.dev) y := by
    rw [hy]
    exact .when .refl _ _ (.setTail .refl _ _ _ (by decide) (by decide))
  have hport : y.port p.val = s.dev.port p.val := by
    rw [Dev.port, hjudged.part .ports (by decide), hcounted.part .ports (by decide)]
    rfl
  have hframe : y.frame x.link.fid = some f := by
    have htail : y.frame x.link.fid = (sentCounted p.val x f (s.dev.outBytes p.val x f) s.dev).frame x.link.fid := by
      rw [hy]
      exact when_keeps _ (·.frame x.link.fid) _ _ rfl
    rw [htail, frame_of_sw (sw_of_only hcounted (by decide)), hf]
  rw [hport] at hgone
  refine completes_of_next rfl ?_
  rw [onDev_dev, hgone]
  generalize (if (s.dev.port p.val).inLoop then Emit.looped p.val (s.dev.outBytes p.val x f) else Emit.frame p.val (s.dev.outBytes p.val x f)) = m
  have hlast : Lasting ((y.emit m).setTx p.val none) ((if x.cut.isSome then (y.emit m).setTx p.val none
      else ((y.emit m).setTx p.val none).unlink x.link).judgeIdle p.val).judgeBanks := by
    refine Lasting.trans ?_ (lasting_judgeBanks _)
    refine Lasting.trans ?_ (Lasting.of_only (only_judgeIdle _ p.val) (by decide))
    split
    · exact .refl _
    · exact lasting_release _ _
  have hidle (z : Dev) : (z.judgeIdle p.val).sw = z.sw := sw_of_only (only_judgeIdle z p.val) (by decide)
  refine ⟨?_, hlast.sent m (List.mem_append_right _ List.mem_cons_self), fun hcut => ?_, fun hcut hrefs => ?_, fun hcut hrefs => ?_⟩
  · rw [judgeBanks_txNow, txNow_of_sw (hidle _)]
    split
    · exact txNow_setTx_same _
    · exact (release_txNow _ _).trans (txNow_setTx_same _)
  · rw [judgeBanks_frame, frame_of_sw (hidle _), if_pos hcut]
    exact hframe
  · rw [judgeBanks_frame, frame_of_sw (hidle _), hcut, if_neg (by simp)]
    exact release_frame_held hframe hrefs
  · rw [judgeBanks_frame, frame_of_sw (hidle _), hcut, if_neg (by simp)]
    exact release_frame_last hframe hrefs

end

/-- Settles O32: the class that is picked, then the deadline of its head; a frame that has left by its cut and its holders. -/
theorem scheduler : Obligations.Scheduler := by
  refine fun s p c q l rest => ⟨fun hup htx hawake hq hqueue hmir hready hown => ⟨?_, fun z hb habove hl => ?_⟩, fun x f hx hf hdone => ?_⟩
  · exact fun hb hnone hsp habove hl => completes_strictCommit hup htx hawake hq hqueue hmir hready hown hb hnone hsp habove hl
  · exact completes_boundedCommit hup htx hawake hq hqueue hmir hready hown hb habove hl
  · exact completes_transmitDone hx hf hdone

end Sys2Proof.Proofs

/-! SUPPORT. Laws of the forwarding decision and of the verdict on a frame. -/

namespace Sys2Proof.Laws

open Sys2Proof.Machine Sys2Proof.Safety

variable {d e : Dev} {p q n : Nat}

/-! ## What a decision reads -/

/-- Two devices that a forwarding decision does not tell apart. -/
structure Alike (d e : Dev) : Prop where
  regs : e.regs = d.regs
  ident : e.ident = d.ident
  ports : e.ports = d.ports
  insts : e.insts = d.insts
  badTbl : e.sw.badTbl = d.sw.badTbl

namespace Alike

theorem word (h : Alike d e) (r : Reg) (u : Nat) : e.word r u = d.word r u := by rw [Dev.word, h.regs, Dev.word]
theorem get (h : Alike d e) (f : Fld) (u : Nat) : e.get f u = d.get f u := by rw [Dev.get, h.word, Dev.get]
theorem flag (h : Alike d e) (f : Fld) (u : Nat) : e.flag f u = d.flag f u := by rw [Dev.flag, h.get, Dev.flag]
theorem linkUp (h : Alike d e) (p : Nat) : e.linkUp p = d.linkUp p := h.flag _ _
theorem small (h : Alike d e) : e.small = d.small := by rw [Dev.small, h.ident, Dev.small]
theorem portCount (h : Alike d e) : e.portCount = d.portCount := by rw [Dev.portCount, h.small, Dev.portCount]
theorem portList (h : Alike d e) : e.portList = d.portList := by rw [Dev.portList, h.portCount, Dev.portList]
theorem inst (h : Alike d e) (i : Nat) : e.inst i = d.inst i := by rw [Dev.inst, h.insts, Dev.inst]

theorem instOf (h : Alike d e) (p : Nat) : e.instOf p = d.instOf p := by
  have hport : e.port p = d.port p := by rw [Dev.port, h.ports, Dev.port]
  simp only [Dev.instOf, h.get, h.inst, hport]

theorem trapOf (h : Alike d e) (p : Nat) (b : List Byte) : e.trapOf p b = d.trapOf p b := by
  simp only [Dev.trapOf, h.instOf, h.inst]

theorem transitDests (h : Alike d e) (p i : Nat) : e.transitDests p i = d.transitDests p i := by
  simp only [Dev.transitDests, h.portList, h.instOf, h.linkUp, h.get]

theorem vlanValid (h : Alike d e) (v : Nat) : e.vlanValid v = d.vlanValid v := by
  simp only [Dev.vlanValid, h.flag, h.badTbl]

theorem vlanRejects (h : Alike d e) (p : Nat) (x : Parsed) : e.vlanRejects p x = d.vlanRejects p x := by
  simp only [Dev.vlanRejects, h.get]

theorem fdbFind (h : Alike d e) (vid mac : Nat) : e.fdbFind vid mac = d.fdbFind vid mac := by
  simp only [Dev.fdbFind, Dev.fdbValid, Dev.fdbMac, h.flag, h.get]

theorem destsOf (h : Alike d e) (p vid da : Nat) (r : Option Nat) : e.destsOf p vid da r = d.destsOf p vid da r := by
  simp only [Dev.destsOf, h.linkUp, h.get, h.portCount, h.portList, h.fdbFind, h.flag]

theorem streamLookup (h : Alike d e) (x : Parsed) (p vid pcp : Nat) : e.streamLookup x p vid pcp = d.streamLookup x p vid pcp := by
  simp only [Dev.streamLookup, Dev.streamEntries, Dev.sliceOn, Dev.streamMatch, Dev.streamAct, h.regs, h.word, h.get, h.flag, h.badTbl]

theorem refl (d : Dev) : Alike d d := ⟨rfl, rfl, rfl, rfl, rfl⟩
theorem trans {x : Dev} (h : Alike d e) (k : Alike e x) : Alike d x :=
  ⟨k.regs.trans h.regs, k.ident.trans h.ident, k.ports.trans h.ports, k.insts.trans h.insts, k.badTbl.trans h.badTbl⟩
theorem onFrame (d : Dev) (n : Nat) (f : Stored → Stored) : Alike d (d.onFrame n f) := ⟨rfl, rfl, rfl, rfl, rfl⟩

end Alike

/-! ## A frame arrives -/

theorem bump_regs (d : Dev) (i n fuel : Nat) : (d.bump i n fuel).regs = d.regs := by
  induction fuel generalizing d i n with
  | zero => rfl
  | succ k ih =>
    unfold Dev.bump
    dsimp only
    split
    · rfl
    · split
      · rfl
      · exact ih _ _ _

theorem countAt_regs (firn : Bool) (i k : Nat) : (d.countAt firn i k).regs = d.regs := by
  unfold Dev.countAt
  split
  · rfl
  · split
    · exact bump_regs _ _ _ _
    · rfl

theorem portEvent_regs (ev i k : Nat) : (d.portEvent p ev i k).regs = d.regs :=
  each_keeps d (·.regs) _ _ (fun x _ _ => when_keeps x (·.regs) _ _ (countAt_regs _ _ _))

theorem countRx_regs (t : Nat) : (d.countRx p t).regs = d.regs := by
  rw [Dev.countRx, portEvent_regs]
  exact when_keeps d (·.regs) _ (fun d => d.countPort p 46) (countAt_regs _ _ _)

theorem ptpSeen_regs (b : List Byte) (t : Ticks) : (d.ptpSeen p b t).regs = d.regs := by
  unfold Dev.ptpSeen
  split
  next => rfl
  next x hx =>
    dsimp only
    split
    · rfl
    · have hlast (y : Dev) (k : Nat) : (y.when (k < 4) (fun d => d.onPtu p (fun u => { u with tRxLast := d.stamp t }))).regs = y.regs :=
        when_keeps y (·.regs) _ _ rfl
      rw [hlast, countRx_regs]

/-- A frame that has begun to arrive: its record is made and the receive engine holds it. -/
def arrived (p : Nat) (f : RxFrame) (d : Dev) : Dev :=
  (((d.onSw (fun s => { s with nextFid := d.sw.nextFid + 1 })).setFrame d.sw.nextFid (some (d.newStored p f (d.tRx p f.cap)))).setRx p
    (some d.sw.nextFid)).ptpSeen p f.bytes (d.tRx p f.cap)

variable {f : RxFrame}

theorem arrived_sw : (arrived p f d).sw = (((d.onSw (fun s => { s with nextFid := d.sw.nextFid + 1 })).setFrame d.sw.nextFid
    (some (d.newStored p f (d.tRx p f.cap)))).setRx p (some d.sw.nextFid)).sw := sw_of_only (only_ptpSeen _ _ _ _) (by decide)

theorem arrived_frame : (arrived p f d).frame d.sw.nextFid = some (d.newStored p f (d.tRx p f.cap)) := by
  have hrx (x : Dev) (y : Option Nat) (k : Nat) : (x.setRx p y).frame k = x.frame k := rfl
  rw [frame_of_sw arrived_sw, hrx, frame_setFrame_same]

theorem arrived_rxNow : (arrived p f d).rxNow p = some d.sw.nextFid := by
  rw [rxNow_of_sw arrived_sw]
  exact rxNow_setRx_same _

theorem arrived_alike : Alike d (arrived p f d) where
  regs := ptpSeen_regs _ _
  ident := (only_ptpSeen _ _ _ _).part .ident (by decide)
  ports := (only_ptpSeen _ _ _ _).part .ports (by decide)
  insts := (only_ptpSeen _ _ _ _).part .insts (by decide)
  badTbl := by rw [arrived_sw]; rfl

theorem takeFrame_of_trapped (hup : d.linkUp p = true) (hrx : d.rxNow p = none) (h : d.trapOf p f.bytes = .trapped) :
    d.takeFrame p f = ((arrived p f d).mirIngress d.sw.nextFid p none).storeIfCopied d.sw.nextFid := by
  have hgo : (!d.linkUp p || (d.rxNow p).isSome) = false := by
    rw [hup, hrx]
    rfl
  have htrap : (arrived p f d).trapOf p f.bytes = .trapped := (arrived_alike.trapOf p f.bytes).trans h
  unfold Dev.takeFrame
  rw [hgo, if_neg Bool.false_ne_true]
  dsimp only
  rw [← arrived, htrap]

/-- What a transparent clock decides of a frame. -/
def inTransit (p i : Nat) (f : RxFrame) (e : Dev) (g : Stored) : Stored :=
  { g with base := e.baseLen p f (parseFrame f.bytes) 0, dests := e.transitDests p i, cls := 7, transit := true }

theorem takeFrame_of_transit {i : Nat} (hup : d.linkUp p = true) (hrx : d.rxNow p = none) (h : d.trapOf p f.bytes = .transit i) :
    d.takeFrame p f = (((((arrived p f d).onFrame d.sw.nextFid (inTransit p i f (arrived p f d))).mirIngress d.sw.nextFid p none).storeFrame
      d.sw.nextFid).admitFrame d.sw.nextFid).dropUnstored d.sw.nextFid := by
  have hgo : (!d.linkUp p || (d.rxNow p).isSome) = false := by
    rw [hup, hrx]
    rfl
  have htrap : (arrived p f d).trapOf p f.bytes = .transit i := (arrived_alike.trapOf p f.bytes).trans h
  unfold Dev.takeFrame
  rw [hgo, if_neg Bool.false_ne_true]
  dsimp only
  rw [← arrived, htrap]
  rfl

theorem takeFrame_of_discard {y : Dev} {flow : Option Nat} {c : Nat} (hup : d.linkUp p = true) (hrx : d.rxNow p = none)
    (h : d.trapOf p f.bytes = .ordinary)
    (hdecide : (arrived p f d).decideFrame d.sw.nextFid p f (d.tRx p f.cap) = (y, flow, .discard c)) :
    d.takeFrame p f = ((y.mirIngress d.sw.nextFid p flow).discardCause p c).storeIfCopied d.sw.nextFid := by
  have hgo : (!d.linkUp p || (d.rxNow p).isSome) = false := by
    rw [hup, hrx]
    rfl
  have htrap : (arrived p f d).trapOf p f.bytes = .ordinary := (arrived_alike.trapOf p f.bytes).trans h
  unfold Dev.takeFrame
  rw [hgo, if_neg Bool.false_ne_true]
  dsimp only
  rw [← arrived, htrap]
  dsimp only
  rw [hdecide]

theorem takeFrame_of_goOn {y : Dev} {flow : Option Nat} (hup : d.linkUp p = true) (hrx : d.rxNow p = none)
    (h : d.trapOf p f.bytes = .ordinary)
    (hdecide : (arrived p f d).decideFrame d.sw.nextFid p f (d.tRx p f.cap) = (y, flow, .goOn none)) :
    d.takeFrame p f = (((y.mirIngress d.sw.nextFid p flow).storeFrame d.sw.nextFid).admitFrame d.sw.nextFid).dropUnstored d.sw.nextFid := by
  have hgo : (!d.linkUp p || (d.rxNow p).isSome) = false := by
    rw [hup, hrx]
    rfl
  have htrap : (arrived p f d).trapOf p f.bytes = .ordinary := (arrived_alike.trapOf p f.bytes).trans h
  unfold Dev.takeFrame
  rw [hgo, if_neg Bool.false_ne_true]
  dsimp only
  rw [← arrived, htrap]
  dsimp only
  rw [hdecide]

/-! ## The decision on an ordinary frame -/

/-- VID and PCP of a frame: those of its tag, or of its port. -/
def vidOf (d : Dev) (p : Nat) (x : Parsed) : Nat := if x.nTags ≠ 0 ∧ x.vid ≠ 0 then x.vid else d.get F.SW_PORT_CFG_PVID p
def pcpOf (d : Dev) (p : Nat) (x : Parsed) : Nat := if x.nTags ≠ 0 then x.pcp else d.get F.SW_PORT_CFG_DEF_PCP p

theorem vidOf_eq (x : Parsed) : (if x.nTags != 0 && x.vid != 0 then x.vid else d.get F.SW_PORT_CFG_PVID p) = vidOf d p x := by
  unfold vidOf
  by_cases h : x.nTags = 0 <;> by_cases k : x.vid = 0 <;> simp [h, k]

theorem pcpOf_eq (x : Parsed) : (if x.nTags != 0 then x.pcp else d.get F.SW_PORT_CFG_DEF_PCP p) = pcpOf d p x := by
  unfold pcpOf
  by_cases h : x.nTags = 0 <;> simp [h]

theorem decideFrame_of_refused (tRx : Ticks) (h : (parseFrame f.bytes).da / 16 = 0x0180C200000 ∨ d.vlanRejects p (parseFrame f.bytes) = true ∨
    d.vlanValid (vidOf d p (parseFrame f.bytes)) = false) : ∃ c, d.decideFrame n p f tRx = (d, none, .discard c) := by
  unfold Dev.decideFrame
  dsimp only
  rw [vidOf_eq]
  by_cases haddress : (parseFrame f.bytes).da / 16 = 0x0180C200000
  · exact ⟨0, if_pos haddress⟩
  · rw [if_neg haddress]
    by_cases hreject : d.vlanRejects p (parseFrame f.bytes) = true
    · exact ⟨1, if_pos hreject⟩
    · have hinvalid := (h.resolve_left haddress).resolve_left hreject
      rw [if_neg hreject, hinvalid, Bool.not_false, Bool.true_or, if_pos rfl]
      exact ⟨2, rfl⟩

/-- What the steps before step 10 write into the record of a frame that passes. -/
def decidedRecord (d : Dev) (p : Nat) (f : RxFrame) (a : StreamAct) (g : Stored) : Stored :=
  { g with
    vid := vidOf d p (parseFrame f.bytes)
    pcp := pcpOf d p (parseFrame f.bytes)
    dests := d.destsOf p (vidOf d p (parseFrame f.bytes)) (parseFrame f.bytes).da a.redirect
    cls := a.cls.getD (bitsOf (d.get F.SW_PCP_MAP_MAP p) (3 * pcpOf d p (parseFrame f.bytes)) 3) }

/-- Step 10 of a frame whose action names neither limit, recovery, gate, meter nor sequence numbers. -/
theorem stepTen_of_plain {a : StreamAct} (x : Parsed) (base : Nat) (tRx : Ticks) (hsdu : a.maxSdu = 0) (hrecov : a.recov = none)
    (hgate : a.gate = none) (hmeter : a.meter = none) (hseq : a.seqgen = none) : d.stepTen n a x base tRx =
      (d.onFrame n (fun f => { f with cls := f.cls, colour := 0, deiMark := false, rtag := none, popRtag := false }), .goOn none) := by
  have hten : d.tenRecover a x = (d, .goOn none) := by
    unfold Dev.tenRecover
    rw [hrecov]
  unfold Dev.stepTen
  dsimp only
  rw [hsdu, hten, hrecov, hgate, hmeter, hseq]
  rfl

theorem decideFrame_of_passed {a : StreamAct} {g : Stored} (tRx : Ticks) (hg : d.frame n = some g)
    (haddress : (parseFrame f.bytes).da / 16 ≠ 0x0180C200000) (hreject : d.vlanRejects p (parseFrame f.bytes) = false)
    (hvalid : d.vlanValid (vidOf d p (parseFrame f.bytes)) = true) (hingress : d.flag F.SW_PORT_CFG_INGRESS_FILTER p = false)
    (hstate : d.get F.SW_PORT_CFG_STATE p = 3)
    (hact : d.streamLookup (parseFrame f.bytes) p (vidOf d p (parseFrame f.bytes)) (pcpOf d p (parseFrame f.bytes)) = a)
    (hdrop : a.drop = false) (hsdu : a.maxSdu = 0) (hrecov : a.recov = none) (hgate : a.gate = none) (hmeter : a.meter = none)
    (hseq : a.seqgen = none) (hdests : d.destsOf p (vidOf d p (parseFrame f.bytes)) (parseFrame f.bytes).da a.redirect ≠ []) :
    ∃ y flow, d.decideFrame n p f tRx = (y, flow, .goOn none) ∧ y.sw.rx = d.sw.rx ∧
      ∃ h, y.frame n = some h ∧ h.dests = (decidedRecord d p f a g).dests ∧ h.vid = (decidedRecord d p f a g).vid ∧
        h.cls = (decidedRecord d p f a g).cls := by
  have hfilter : (!d.vlanValid (vidOf d p (parseFrame f.bytes)) || (d.flag F.SW_PORT_CFG_INGRESS_FILTER p &&
      !bitAt (d.get F.VLAN_W0_MEMBER (vidOf d p (parseFrame f.bytes))) p)) = false := by
    rw [hvalid, hingress]
    rfl
  unfold Dev.decideFrame
  dsimp only
  rw [vidOf_eq, pcpOf_eq, if_neg haddress, hreject, if_neg Bool.false_ne_true, hfilter, if_neg Bool.false_ne_true, hstate,
    if_neg (by decide), hact, hdrop, if_neg Bool.false_ne_true, if_neg (by decide)]
  have hsome : (d.destsOf p (vidOf d p (parseFrame f.bytes)) (parseFrame f.bytes).da a.redirect).isEmpty = false :=
    List.isEmpty_eq_false_iff.2 hdests
  rw [(Alike.onFrame d n _).destsOf, (Alike.onFrame d n _).get, hsome, if_neg Bool.false_ne_true,
    stepTen_of_plain _ _ _ hsdu hrecov hgate hmeter hseq]
  refine ⟨_, _, rfl, rfl, ?_⟩
  rw [frame_onFrame_same, frame_onFrame_same, frame_onFrame_same, hg]
  exact ⟨_, rfl, rfl, rfl, rfl⟩

/-! ## What mirroring and storage leave of queues and numbers -/

/-- A switch but for frames, the counts of mirroring, the bank accesses and the banks needed. -/
def swAside (x : Switch) : Switch := { x with frames := [], mirCount := [], slots := 0, nReq := 0 }

theorem mirIngress_aside (flow : Option Nat) : swAside (d.mirIngress n p flow).sw = swAside d.sw := by
  refine each_keeps d (fun e => swAside e.sw) (List.range 4) _ (fun e s _ => ?_)
  have hcandidate : swAside (e.mirCandidate s).1.sw = swAside e.sw := by
    unfold Dev.mirCandidate
    split <;> rfl
  split
  · dsimp only
    split
    · exact hcandidate
    · exact hcandidate
  · rfl

theorem storeIfCopied_aside : swAside (d.storeIfCopied n).sw = swAside d.sw := by
  unfold Dev.storeIfCopied Dev.storeFrame
  split
  · split
    · rfl
    · split
      · rfl
      · split <;> rfl
  · rfl

theorem judgeBanks_aside : swAside d.judgeBanks.sw = swAside d.sw := judgeBanks_reads swAside (fun _ _ => rfl) d

/-- Whatever reads none of these reads the same. -/
theorem reads_of_aside {α : Type} (r : Switch → α) (h : ∀ s, r (swAside s) = r s) (hs : swAside e.sw = swAside d.sw) : r e.sw = r d.sw := by
  rw [← h, hs, h]

/-! ## The verdict -/

theorem tabGet_map {α β : Type} (g : α → β) (t : Tab α) (x : α) (k : Nat) :
    tabGet (t.map (fun e => (e.1, g e.2))) (g x) k = g (tabGet t x k) := by
  induction t with
  | nil => rfl
  | cons y t ih =>
    obtain ⟨j, v⟩ := y
    simp only [List.map_cons, tabGet, ih]
    split <;> rfl

/-- A link of a frame waits no more. -/
def linked (n : Nat) (k : Link) : Link := if k.fid = n then { k with waits := false } else k

theorem linkPlaces_queue : (d.linkPlaces n).queue p q = (d.queue p q).map (linked n) := by
  have h := tabGet_map (List.map (linked n)) d.sw.queues [] (qKey p q)
  exact h

/-- A frame with no mirror copies waiting. -/
def NoCopies (n : Nat) (d : Dev) : Prop := ∀ x, d.frame n = some x → x.copies = []

theorem noCopies_of_frame (h : NoCopies n d) (hf : e.frame n = d.frame n) : NoCopies n e := fun x hx => h x (hf ▸ hx)

theorem noCopies_onFrame (h : NoCopies n d) (m : Nat) (g : Stored → Stored) (hg : ∀ x, (g x).copies = x.copies) : NoCopies n (d.onFrame m g) := by
  intro x hx
  by_cases hm : n = m
  · rw [← hm, frame_onFrame_same] at hx
    obtain ⟨y, hy, rfl⟩ := Option.map_eq_some_iff.1 hx
    rw [hg, h y hy]
  · rw [frame_onFrame_other _ hm] at hx
    exact h x hx

theorem noCopies_release (h : NoCopies n d) (m : Nat) : NoCopies n (d.release m) := by
  intro x hx
  by_cases hm : n = m
  · subst hm
    unfold Dev.release at hx
    split at hx
    · exact h x hx
    next y hy =>
      split at hx
      · rw [freeFrame_frame, if_pos rfl] at hx
        cases hx
      · rw [frame_setFrame_same, Option.some_inj] at hx
        rw [← hx]
        exact h y hy
  · rw [release_frame_other hm] at hx
    exact h x hx

theorem takeCopies_of_none (h : NoCopies n d) : (d.takeCopies n).sw.queues = d.sw.queues := by
  unfold Dev.takeCopies
  split
  · rfl
  next x hx =>
    rw [h x hx]
    rfl

/-- The counts of a frame whose last byte has arrived. -/
def verdictCounted (p : Nat) (all : List Byte) (fcs tooLong long : Bool) (d : Dev) : Dev :=
  let d := (d.countFrame p 0 all).when (!fcs) (fun d => d.countPort p 32)
  (d.when tooLong (fun d => d.countPort p 33)).when long (fun d => d.portEvent p (0x050 + 13))

theorem verdictCounted_sw (all : List Byte) (fcs tooLong long : Bool) : (verdictCounted p all fcs tooLong long d).sw = d.sw := by
  have hwhen (x : Dev) (b : Bool) (k : Dev → Dev) (h : (k x).sw = x.sw) : (x.when b k).sw = x.sw := when_keeps x (·.sw) b k h
  unfold verdictCounted
  dsimp only
  rw [hwhen _ _ _ (report_portEvent _ _ _ _ _).sw, hwhen _ _ _ (report_countPort _ _ _ _).sw, hwhen _ _ _ (report_countPort _ _ _ _).sw,
    sw_of_only (only_countFrame _ _ _ _) (by decide)]

/-- Learning of the source address of a good frame. -/
def verdictLearnt (p : Nat) (f : Stored) (v : RxVerdict) (d : Dev) : Dev :=
  d.when (f.learn && v.fcsOk) (fun d => if v.learnBusy then d.countDev 268 else d.learnSa f.vid (parseFrame (f.bytes ++ v.tail)).sa p)

theorem verdictLearnt_sw (g : Stored) (v : RxVerdict) : (verdictLearnt p g v d).sw = d.sw := by
  refine when_keeps d (·.sw) _ (fun d => if v.learnBusy then d.countDev 268 else d.learnSa g.vid (parseFrame (g.bytes ++ v.tail)).sa p) ?_
  split
  · exact (report_countDev _ _ _).sw
  · exact sw_of_only (only_learnSa _ _ _ _) (by decide)

/-- The end of a verdict: copies, the receive engine, and the frame given back. -/
def verdictDone (p n : Nat) (d : Dev) : Dev := (((d.takeCopies n).setRx p none).release n).judgeBanks

theorem verdictDone_rxNow : (verdictDone p n d).rxNow p = none := by
  rw [verdictDone, judgeBanks_rxNow, release_rxNow, rxNow_setRx_same]

theorem verdictDone_queues (h : NoCopies n d) : (verdictDone p n d).sw.queues = d.sw.queues := by
  rw [verdictDone, judgeBanks_reads (·.queues) (fun _ _ => rfl), release_reads (·.queues) (fun _ => rfl)]
  exact takeCopies_of_none h

/-- The record of a frame whose last byte has arrived. -/
def verdictRecorded (n : Nat) (bytes : List Byte) (d : Dev) : Dev :=
  d.onFrame n (fun g => { g with bytes := bytes, done := true, cells := g.cells.take (cellsOf bytes.length) })

/-- The links of a good frame: those that were waiting go. -/
def verdictLinked (n : Nat) (f : Stored) (d : Dev) : Dev :=
  ((d.linkPlaces n).onFrame n (fun g => { g with waiting := [] })).each f.waiting (fun d w => if d.linkUp w.1 then d.link w.1 w.2.1 w.2.2 else d)

theorem verdict_of_good {g : Stored} {v : RxVerdict} (hrx : d.rxNow p = some n) (hg : d.frame n = some g) (hfcs : v.fcsOk = true)
    (hunc : v.uncorrectable = false) (hmax : g.bytes.length + v.tail.length ≤ g.maxFrame) (hbase : g.bytes.length + v.tail.length ≤ g.base) :
    d.verdict p v = verdictDone p n (verdictLearnt p g v (verdictLinked n g (verdictRecorded n (g.bytes ++ v.tail)
      (verdictCounted p (g.bytes ++ v.tail) true false false d)))) := by
  have htooLong : decide (g.maxFrame < (g.bytes ++ v.tail).length) = false := decide_eq_false (by rw [List.length_append]; omega)
  have hlong : decide (g.base < (g.bytes ++ v.tail).length) = false := decide_eq_false (by rw [List.length_append]; omega)
  unfold Dev.verdict
  rw [hrx]
  dsimp only
  rw [hg]
  dsimp only
  rw [htooLong, hlong, hunc]
  rw [verdictLearnt]
  simp only [hfcs]
  rfl

theorem verdict_of_bad {g : Stored} {v : RxVerdict} (hrx : d.rxNow p = some n) (hg : d.frame n = some g) (hfcs : v.fcsOk = false) :
    ∃ bytes tooLong long, d.verdict p v = verdictDone p n ((verdictRecorded n bytes
      (verdictCounted p (g.bytes ++ v.tail) false tooLong long d)).spoilFrame n) := by
  unfold Dev.verdict
  rw [hrx]
  dsimp only
  rw [hg]
  dsimp only
  simp only [hfcs, Bool.not_false, Bool.true_or, if_true, Bool.and_false, when_false]
  exact ⟨_, _, _, rfl⟩

theorem wakeTx_of_awake (h : d.txSleep p = 0) : d.wakeTx p = d := by
  unfold Dev.wakeTx
  rw [h]
  rfl

/-- A frame that has waited for its verdict joins its queue on a port that is awake. -/
theorem link_of_awake (l : Link) (h : d.txSleep p = 0) : (d.link p q l).queue p q = d.queue p q ++ [l] ∧
    ∀ m, (d.link p q l).frame m = (d.onFrame l.fid (fun f => { f with refs := f.refs + 1 })).frame m := by
  have hidle (x : Dev) : (x.judgeIdle p).sw = x.sw := sw_of_only (only_judgeIdle x p) (by decide)
  have hawake (x : Dev) (hx : x.txSleep p = 0) : (x.judgeIdle p).txSleep p = 0 := ((only_judgeIdle x p).get _ _ (by decide)).trans hx
  have hjoin : d.link p q l = ((d.onFrame l.fid (fun f => { f with refs := f.refs + 1 })).setQueue p q (d.queue p q ++ [l])).judgeIdle p := by
    unfold Dev.link
    dsimp only
    exact wakeTx_of_awake (hawake _ h)
  rw [hjoin]
  refine ⟨?_, fun m => ?_⟩
  · rw [queue_of_sw (hidle _), queue_setQueue_same]
  · rw [frame_of_sw (hidle _)]
    rfl

theorem verdictLinked_none {g : Stored} (h : g.waiting = []) : verdictLinked n g d =
    (d.linkPlaces n).onFrame n (fun g => { g with waiting := [] }) := by
  rw [verdictLinked, h]
  rfl

theorem verdictLinked_one {g : Stored} {a b : Nat} {l : Link} (h : g.waiting = [(a, b, l)]) (hup : d.linkUp a = true) : verdictLinked n g d =
    ((d.linkPlaces n).onFrame n (fun g => { g with waiting := [] })).link a b l := by
  rw [verdictLinked, h]
  exact if_pos hup

theorem linkPlaces_frame (m : Nat) : (d.linkPlaces n).frame m = d.frame m := rfl

/-- The links of a good frame on which nothing waits. -/
theorem verdictLinked_of_none {g : Stored} (hcopies : NoCopies n d) (h : g.waiting = []) : NoCopies n (verdictLinked n g d) ∧
    (verdictLinked n g d).queue p q = (d.queue p q).map (linked n) := by
  have hplaced : NoCopies n (d.linkPlaces n) := noCopies_of_frame hcopies (linkPlaces_frame n)
  rw [verdictLinked_none h]
  exact ⟨noCopies_onFrame hplaced n _ (fun _ => rfl), linkPlaces_queue⟩

/-- A good frame that waits joins its queue behind the links of before. -/
theorem verdictLinked_of_one {g : Stored} {l : Link} (hcopies : NoCopies n d) (h : g.waiting = [(p, q, l)]) (hup : d.linkUp p = true)
    (hawake : d.txSleep p = 0) : NoCopies n (verdictLinked n g d) ∧
      (verdictLinked n g d).queue p q = (d.queue p q).map (linked n) ++ [l] := by
  have hplaced : NoCopies n (d.linkPlaces n) := noCopies_of_frame hcopies (linkPlaces_frame n)
  rw [verdictLinked_one h hup]
  obtain ⟨hjoined, hframes⟩ := link_of_awake (d := (d.linkPlaces n).onFrame n (fun g => { g with waiting := [] })) (p := p) (q := q) l hawake
  have hmarked : NoCopies n ((d.linkPlaces n).onFrame n (fun g => { g with waiting := [] })) := noCopies_onFrame hplaced n _ (fun _ => rfl)
  have hheld := noCopies_onFrame hmarked l.fid (fun f => { f with refs := f.refs + 1 }) (fun _ => rfl)
  refine ⟨noCopies_of_frame hheld (hframes n), ?_⟩
  rw [hjoined]
  exact congrArg (· ++ [l]) linkPlaces_queue

/-! ## A bad frame leaves every queue -/

/-- No queue holds a link of a frame. -/
def NoLinks (n : Nat) (d : Dev) : Prop := ∀ k ∈ d.sw.queues, ∀ x ∈ k.2, x.fid ≠ n

theorem noLinks_of_queues (h : NoLinks n d) (hq : e.sw.queues = d.sw.queues) : NoLinks n e := fun k hk => h k (hq ▸ hk)

theorem each_release_queues (k : Nat) : (d.each (List.range k) (fun d _ => d.release n)).sw.queues = d.sw.queues :=
  each_keeps d (·.sw.queues) _ (fun d _ => d.release n) (fun x _ _ => release_reads (·.queues) (fun _ => rfl) x n)

theorem each_judgeIdle_sw (l : List Nat) : (d.each l Dev.judgeIdle).sw = d.sw :=
  each_keeps d (·.sw) l Dev.judgeIdle (fun x p _ => sw_of_only (only_judgeIdle x p) (by decide))

/-- The queues without the links of a frame. -/
def dropped (n : Nat) (d : Dev) : Dev :=
  d.onSw (fun s => { s with queues := (s.queues.map (fun (e : Nat × List Link) =>
      (e.1, e.2.filter (fun l => l.fid != n)))).filter (fun e => !e.2.isEmpty) })

theorem noLinks_dropped : NoLinks n (dropped n d) := by
  intro k hk x hx
  obtain ⟨y, -, rfl⟩ := List.mem_map.1 (List.mem_filter.1 hk).1
  have hfid := (List.mem_filter.1 hx).2
  simpa using hfid

theorem dropLinks_eq : ∃ k, d.dropLinks n = ((dropped n d).each (List.range k) (fun d _ => d.release n)).each
    ((dropped n d).each (List.range k) (fun d _ => d.release n)).portList Dev.judgeIdle := ⟨_, rfl⟩

theorem noLinks_dropLinks : NoLinks n (d.dropLinks n) := by
  obtain ⟨k, hk⟩ := dropLinks_eq (d := d) (n := n)
  rw [hk]
  exact noLinks_of_queues noLinks_dropped (by rw [each_judgeIdle_sw, each_release_queues])

theorem noCopies_dropLinks (h : NoCopies n d) : NoCopies n (d.dropLinks n) := by
  obtain ⟨k, hk⟩ := dropLinks_eq (d := d) (n := n)
  have hreleased (l : List Nat) : ∀ x : Dev, NoCopies n x → NoCopies n (x.each l (fun d _ => d.release n)) := by
    induction l with
    | nil => exact fun _ h => h
    | cons a l ih => exact fun x hx => ih _ (noCopies_release hx n)
  rw [hk]
  exact noCopies_of_frame (hreleased (List.range k) (dropped n d) (noCopies_of_frame h rfl)) (frame_of_sw (each_judgeIdle_sw _) n)

/-- A frame marked bad, whose links have left every queue. -/
def unqueued (n : Nat) (d : Dev) : Dev := ((d.onFrame n (fun f => { f with bad := true, waiting := [] })).spoilTx n).dropLinks n

/-- A hold of resequencing ends. -/
def unheld (h : Hold) (d : Dev) : Dev := (d.onSw (fun s => { s with holds := s.holds.filter (· ≠ h) })).refreshHeld h.inst

theorem unheld_sw (h : Hold) : (unheld h d).sw = { d.sw with holds := d.sw.holds.filter (· ≠ h) } := by
  rw [unheld, Dev.refreshHeld, set_sw]
  rfl

theorem unheld_queues (h : Hold) : (unheld h d).sw.queues = d.sw.queues := by rw [unheld_sw]
theorem unheld_frame (h : Hold) (m : Nat) : (unheld h d).frame m = d.frame m := by rw [Dev.frame, unheld_sw, Dev.frame]

theorem spoilFrame_cases (n : Nat) (d : Dev) : d.spoilFrame n = unqueued n d ∨ ∃ h, d.spoilFrame n = (unheld h (unqueued n d)).release n := by
  unfold Dev.spoilFrame
  dsimp only
  split
  · exact .inl rfl
  next h hh => exact .inr ⟨h, rfl⟩

theorem spoilTx_frame (m : Nat) : (d.spoilTx n).frame m = d.frame m := rfl

theorem noCopies_unqueued (h : NoCopies n d) : NoCopies n (unqueued n d) := by
  have hmarked : NoCopies n (d.onFrame n (fun f => { f with bad := true, waiting := [] })) := noCopies_onFrame h n _ (fun _ => rfl)
  exact noCopies_dropLinks (noCopies_of_frame hmarked (spoilTx_frame n))

theorem spoilFrame_bad (h : NoCopies n d) : NoLinks n (d.spoilFrame n) ∧ NoCopies n (d.spoilFrame n) := by
  have hlinks : NoLinks n (unqueued n d) := noLinks_dropLinks
  have hcopies := noCopies_unqueued h
  obtain heq | ⟨k, heq⟩ := spoilFrame_cases n d
  · rw [heq]
    exact ⟨hlinks, hcopies⟩
  · rw [heq]
    refine ⟨noLinks_of_queues hlinks ?_, noCopies_release (noCopies_of_frame hcopies (unheld_frame k n)) n⟩
    rw [release_reads (·.queues) (fun _ => rfl), unheld_queues]

end Sys2Proof.Laws

namespace Sys2Proof.Proofs

open Sys2Proof.Machine Sys2Proof.Safety Sys2Proof.Laws

section

variable {s : State} {p : PortId} {f : RxFrame} {n : Nat}

/-! ## Reception -/

theorem frameIn_asideQueues {y : Dev} (hn : s.dev.sw.nextFid = n) {flow : Option Nat}
    (h : swAside (s.dev.frameIn p.val f).sw = swAside (y.mirIngress n p.val flow).sw) (hy : y.sw = (arrived p.val f s.dev).sw) :
    (s.dev.frameIn p.val f).sw.queues = s.dev.sw.queues ∧ (s.dev.frameIn p.val f).sw.nextFid = n + 1 := by
  have haside : swAside (s.dev.frameIn p.val f).sw = swAside (arrived p.val f s.dev).sw := by
    rw [h, mirIngress_aside, hy]
  refine ⟨?_, ?_⟩
  · rw [reads_of_aside (·.queues) (fun _ => rfl) haside, arrived_sw]
    rfl
  · rw [reads_of_aside (·.nextFid) (fun _ => rfl) haside, arrived_sw, ← hn]
    rfl

/-- A frame that is trapped or discarded keeps its record without destinations, and no queue changes. -/
def Undelivered (s : State) (p n : Nat) (f : RxFrame) (e : Dev) : Prop :=
  e.rxNow p = some n ∧ e.sw.nextFid = n + 1 ∧ e.sw.queues = s.dev.sw.queues ∧ ∃ g, e.frame n = some g ∧ g.dests = [] ∧ g.bytes = f.bytes

theorem frameIn_undelivered {flow : Option Nat} {k : Dev → Dev} (hn : s.dev.sw.nextFid = n) (hk : ∀ x, (k x).sw = x.sw)
    (htake : s.dev.takeFrame p.val f = (k ((arrived p.val f s.dev).mirIngress n p.val flow)).storeIfCopied n) :
    Undelivered s p.val n f (s.dev.frameIn p.val f) := by
  have hin : s.dev.frameIn p.val f = ((k ((arrived p.val f s.dev).mirIngress n p.val flow)).storeIfCopied n).judgeBanks := by
    rw [Dev.frameIn, htake]
  have haside : swAside (s.dev.frameIn p.val f).sw = swAside ((arrived p.val f s.dev).mirIngress n p.val flow).sw := by
    rw [hin, judgeBanks_aside, storeIfCopied_aside, hk]
  have hframed : Framed (arrived p.val f s.dev) (s.dev.frameIn p.val f) := by
    rw [hin]
    exact ((framed_mirIngress _ _ _ _).trans (.of_sw (hk _))).trans ((framed_storeIfCopied _ _).trans (framed_judgeBanks _))
  obtain ⟨hqueues, hnext⟩ := frameIn_asideQueues hn haside rfl
  obtain ⟨g, hg, hcore⟩ := hframed.frame (hn ▸ arrived_frame)
  refine ⟨?_, hnext, hqueues, g, hg, ?_, ?_⟩
  · rw [hframed.rxNow, ← hn, arrived_rxNow]
  · exact congrArg Stored.dests hcore
  · exact congrArg Stored.bytes hcore

theorem completes_trapped (hup : s.dev.linkUp p.val = true) (hrx : s.dev.rxNow p.val = none) (hn : n = s.dev.sw.nextFid)
    (htrap : s.dev.trapOf p.val f.bytes = .trapped) : Completes (.frameReceived p f) s (fun t => t.dev.rxNow p.val = some n ∧
      t.dev.sw.nextFid = n + 1 ∧ t.dev.sw.queues = s.dev.sw.queues ∧ ∃ g, t.dev.frame n = some g ∧ g.dests = [] ∧ g.bytes = f.bytes) := by
  subst hn
  refine completes_of_next rfl ?_
  rw [onDev_dev]
  exact frameIn_undelivered (k := fun x => x) rfl (fun _ => rfl) (takeFrame_of_trapped hup hrx htrap)

theorem completes_refusedFrame (hup : s.dev.linkUp p.val = true) (hrx : s.dev.rxNow p.val = none) (hn : n = s.dev.sw.nextFid)
    (htrap : s.dev.trapOf p.val f.bytes = .ordinary)
    (h : (parseFrame f.bytes).da / 16 = 0x0180C200000 ∨ s.dev.vlanRejects p.val (parseFrame f.bytes) = true ∨
      s.dev.vlanValid (vidOf s.dev p.val (parseFrame f.bytes)) = false) :
    Completes (.frameReceived p f) s (fun t => t.dev.rxNow p.val = some n ∧ t.dev.sw.queues = s.dev.sw.queues ∧
      ∃ g, t.dev.frame n = some g ∧ g.dests = []) := by
  subst hn
  have halike := arrived_alike (d := s.dev) (p := p.val) (f := f)
  have hvid : vidOf (arrived p.val f s.dev) p.val (parseFrame f.bytes) = vidOf s.dev p.val (parseFrame f.bytes) := by
    rw [vidOf, halike.get, vidOf]
  obtain ⟨c, hdecide⟩ := decideFrame_of_refused (d := arrived p.val f s.dev) (p := p.val) (n := s.dev.sw.nextFid) (s.dev.tRx p.val f.cap)
    (show _ ∨ _ ∨ (arrived p.val f s.dev).vlanValid (vidOf (arrived p.val f s.dev) p.val (parseFrame f.bytes)) = false by
      rw [hvid, halike.vlanValid, halike.vlanRejects]
      exact h)
  obtain ⟨hnow, -, hqueues, g, hg, hdests, -⟩ := frameIn_undelivered (s := s) (p := p) (f := f) (k := (·.discardCause p.val c)) rfl
    (fun x => ((report_when _ _ _ (report_countPort _ _ _ _)).trans (report_portEvent _ _ _ _ _)).sw)
    (takeFrame_of_discard hup hrx htrap hdecide)
  refine completes_of_next rfl ?_
  rw [onDev_dev]
  exact ⟨hnow, hqueues, g, hg, hdests⟩

/-- A frame that goes on keeps what has been decided of it. -/
theorem frameIn_goOn {y : Dev} {flow : Option Nat} {g : Stored} (hg : y.frame n = some g) (hrx : y.rxNow p.val = some n)
    (htake : s.dev.takeFrame p.val f = (((y.mirIngress n p.val flow).storeFrame n).admitFrame n).dropUnstored n) :
    (s.dev.frameIn p.val f).rxNow p.val = some n ∧ ∃ h, (s.dev.frameIn p.val f).frame n = some h ∧ storedCore h = storedCore g := by
  have hframed : Framed y (s.dev.frameIn p.val f) := by
    rw [Dev.frameIn, htake]
    exact ((framed_mirIngress _ _ _ _).trans (framed_goOn _ _)).trans (framed_judgeBanks _)
  exact ⟨(hframed.rxNow _).trans hrx, hframed.frame hg⟩

theorem completes_transit {i : Nat} (hup : s.dev.linkUp p.val = true) (hrx : s.dev.rxNow p.val = none) (hn : n = s.dev.sw.nextFid)
    (htrap : s.dev.trapOf p.val f.bytes = .transit i) : Completes (.frameReceived p f) s (fun t => t.dev.rxNow p.val = some n ∧
      ∃ g, t.dev.frame n = some g ∧ g.dests = s.dev.transitDests p.val i ∧ g.cls = 7 ∧ g.transit = true) := by
  subst hn
  have hframe : ((arrived p.val f s.dev).onFrame s.dev.sw.nextFid (inTransit p.val i f (arrived p.val f s.dev))).frame s.dev.sw.nextFid =
      some (inTransit p.val i f (arrived p.val f s.dev) (s.dev.newStored p.val f (s.dev.tRx p.val f.cap))) := by
    rw [frame_onFrame_same, arrived_frame]
    rfl
  obtain ⟨hnow, g, hg, hcore⟩ := frameIn_goOn hframe arrived_rxNow (takeFrame_of_transit hup hrx htrap)
  refine completes_of_next rfl ?_
  rw [onDev_dev, ← (arrived_alike (f := f)).transitDests]
  exact ⟨hnow, g, hg, congrArg Stored.dests hcore, congrArg Stored.cls hcore, congrArg Stored.transit hcore⟩

theorem vidOf_arrived (x : Parsed) : vidOf (arrived p.val f s.dev) p.val x = vidOf s.dev p.val x := by
  rw [vidOf, (arrived_alike (f := f)).get, vidOf]

theorem pcpOf_arrived (x : Parsed) : pcpOf (arrived p.val f s.dev) p.val x = pcpOf s.dev p.val x := by
  rw [pcpOf, (arrived_alike (f := f)).get, pcpOf]

theorem storedCore_decided {g h : Stored} (heq : storedCore g = storedCore h) : g.dests = h.dests ∧ g.vid = h.vid ∧ g.cls = h.cls := by
  have hdests := congrArg Stored.dests heq
  have hvid := congrArg Stored.vid heq
  have hcls := congrArg Stored.cls heq
  exact ⟨hdests, hvid, hcls⟩

theorem completes_passed {a : StreamAct} (hup : s.dev.linkUp p.val = true) (hrx : s.dev.rxNow p.val = none) (hn : n = s.dev.sw.nextFid)
    (htrap : s.dev.trapOf p.val f.bytes = .ordinary) (haddress : (parseFrame f.bytes).da / 16 ≠ 0x0180C200000)
    (hreject : s.dev.vlanRejects p.val (parseFrame f.bytes) = false) (hvalid : s.dev.vlanValid (vidOf s.dev p.val (parseFrame f.bytes)) = true)
    (hingress : s.dev.flag F.SW_PORT_CFG_INGRESS_FILTER p.val = false) (hstate : s.dev.get F.SW_PORT_CFG_STATE p.val = 3)
    (hact : s.dev.streamLookup (parseFrame f.bytes) p.val (vidOf s.dev p.val (parseFrame f.bytes)) (pcpOf s.dev p.val (parseFrame f.bytes)) = a)
    (hdrop : a.drop = false) (hsdu : a.maxSdu = 0) (hrecov : a.recov = none) (hgate : a.gate = none) (hmeter : a.meter = none)
    (hseq : a.seqgen = none)
    (hdests : s.dev.destsOf p.val (vidOf s.dev p.val (parseFrame f.bytes)) (parseFrame f.bytes).da a.redirect ≠ []) :
    Completes (.frameReceived p f) s (fun t => t.dev.rxNow p.val = some n ∧ ∃ g, t.dev.frame n = some g ∧
      g.dests = s.dev.destsOf p.val (vidOf s.dev p.val (parseFrame f.bytes)) (parseFrame f.bytes).da a.redirect ∧
      g.vid = vidOf s.dev p.val (parseFrame f.bytes) ∧
      g.cls = a.cls.getD (bitsOf (s.dev.get F.SW_PCP_MAP_MAP p.val) (3 * pcpOf s.dev p.val (parseFrame f.bytes)) 3)) := by
  subst hn
  have halike := arrived_alike (d := s.dev) (p := p.val) (f := f)
  have hvid := vidOf_arrived (s := s) (p := p) (f := f) (parseFrame f.bytes)
  have hpcp := pcpOf_arrived (s := s) (p := p) (f := f) (parseFrame f.bytes)
  obtain ⟨y, flow, hdecide, hyrx, h, hframe, hhdests, hhvid, hhcls⟩ := decideFrame_of_passed (d := arrived p.val f s.dev) (p := p.val) (a := a)
    (s.dev.tRx p.val f.cap) arrived_frame haddress ((halike.vlanRejects _ _).trans hreject)
    (by rw [hvid, halike.vlanValid, hvalid]) ((halike.flag _ _).trans hingress) ((halike.get _ _).trans hstate)
    (by rw [hvid, hpcp, halike.streamLookup, hact]) hdrop hsdu hrecov hgate hmeter hseq (by rw [hvid, halike.destsOf]; exact hdests)
  have hnow : y.rxNow p.val = some s.dev.sw.nextFid := by
    rw [Dev.rxNow, hyrx]
    exact arrived_rxNow
  obtain ⟨hlast, g, hg, hcore⟩ := frameIn_goOn hframe hnow (takeFrame_of_goOn hup hrx htrap hdecide)
  obtain ⟨hsdests, hsvid, hscls⟩ := storedCore_decided hcore
  refine completes_of_next rfl ?_
  rw [onDev_dev]
  refine ⟨hlast, g, hg, ?_, ?_, ?_⟩
  · rw [hsdests, hhdests, decidedRecord, hvid, halike.destsOf]
  · rw [hsvid, hhvid, decidedRecord, hvid]
  · rw [hscls, hhcls, decidedRecord, hpcp, halike.get]

/-! ## The verdict -/

section

variable {v : RxVerdict} {g : Stored} {a b : Nat}

/-- The record of a frame with its last bytes. -/
theorem noCopies_recorded (hg : s.dev.frame n = some g) (hcopies : g.copies = []) (bytes all : List Byte) (fcs tooLong long : Bool) :
    NoCopies n (verdictRecorded n bytes (verdictCounted p.val all fcs tooLong long s.dev)) := by
  have hcounted : NoCopies n (verdictCounted p.val all fcs tooLong long s.dev) := by
    intro x hx
    rw [frame_of_sw (verdictCounted_sw _ _ _ _), hg, Option.some_inj] at hx
    rw [← hx, hcopies]
  exact noCopies_onFrame hcounted n _ (fun _ => rfl)

theorem recorded_queue (bytes all : List Byte) (fcs tooLong long : Bool) :
    (verdictRecorded n bytes (verdictCounted p.val all fcs tooLong long s.dev)).queue a b = s.dev.queue a b :=
  queue_of_sw (verdictCounted_sw (d := s.dev) (p := p.val) all fcs tooLong long) a b

/-- After a good verdict the queues are as its links leave them. -/
theorem completes_goodVerdict (hrx : s.dev.rxNow p.val = some n) (hg : s.dev.frame n = some g) (hfcs : v.fcsOk = true)
    (hunc : v.uncorrectable = false) (hmax : g.bytes.length + v.tail.length ≤ g.maxFrame) (hbase : g.bytes.length + v.tail.length ≤ g.base)
    {l : List Link} (hnone : NoCopies n (verdictLinked n g (verdictRecorded n (g.bytes ++ v.tail)
      (verdictCounted p.val (g.bytes ++ v.tail) true false false s.dev))))
    (hqueue : (verdictLinked n g (verdictRecorded n (g.bytes ++ v.tail)
      (verdictCounted p.val (g.bytes ++ v.tail) true false false s.dev))).queue a b = l) :
    Completes (.frameFcsVerdict p v) s (fun t => t.dev.rxNow p.val = none ∧ t.dev.queue a b = l) := by
  refine completes_of_next rfl ?_
  rw [onDev_dev, verdict_of_good hrx hg hfcs hunc hmax hbase]
  refine ⟨verdictDone_rxNow, ?_⟩
  rw [Dev.queue, verdictDone_queues (noCopies_of_frame hnone (frame_of_sw (verdictLearnt_sw _ _) n)), verdictLearnt_sw]
  exact hqueue

theorem completes_verdictWaiting {l : Link} (hrx : s.dev.rxNow p.val = some n) (hg : s.dev.frame n = some g) (hcopies : g.copies = [])
    (hfcs : v.fcsOk = true) (hunc : v.uncorrectable = false) (hmax : g.bytes.length + v.tail.length ≤ g.maxFrame)
    (hbase : g.bytes.length + v.tail.length ≤ g.base) (hwaiting : g.waiting = [(a, b, l)]) (hup : s.dev.linkUp a = true)
    (hawake : s.dev.txSleep a = 0) : Completes (.frameFcsVerdict p v) s (fun t => t.dev.rxNow p.val = none ∧
      t.dev.queue a b = (s.dev.queue a b).map (fun k => if k.fid = n then { k with waits := false } else k) ++ [l]) := by
  have hcounted : Only reports alarmRegs s.dev (verdictCounted p.val (g.bytes ++ v.tail) true false false s.dev) := by
    unfold verdictCounted
    exact .countFrame .refl _ _ _ (by decide) (by decide)
  have hupr := (hcounted.flag F.LANE_QUAD_STAT_LINK_UP a (by decide)).trans hup
  have hawaker := (hcounted.get F.LANE_QUAD_STAT_TX_SLEEP a (by decide)).trans hawake
  have hrecorded := noCopies_recorded (p := p) hg hcopies (g.bytes ++ v.tail) (g.bytes ++ v.tail) true false false
  have hqueue := recorded_queue (s := s) (p := p) (n := n) (a := a) (b := b) (g.bytes ++ v.tail) (g.bytes ++ v.tail) true false false
  obtain ⟨hnone, hlinked⟩ := verdictLinked_of_one hrecorded hwaiting hupr hawaker
  rw [hqueue] at hlinked
  exact completes_goodVerdict hrx hg hfcs hunc hmax hbase hnone hlinked

theorem completes_verdictLinked (hrx : s.dev.rxNow p.val = some n) (hg : s.dev.frame n = some g) (hcopies : g.copies = [])
    (hfcs : v.fcsOk = true) (hunc : v.uncorrectable = false) (hmax : g.bytes.length + v.tail.length ≤ g.maxFrame)
    (hbase : g.bytes.length + v.tail.length ≤ g.base) (hwaiting : g.waiting = []) :
    Completes (.frameFcsVerdict p v) s (fun t => t.dev.rxNow p.val = none ∧
      t.dev.queue a b = (s.dev.queue a b).map (fun k => if k.fid = n then { k with waits := false } else k)) := by
  have hrecorded := noCopies_recorded (p := p) hg hcopies (g.bytes ++ v.tail) (g.bytes ++ v.tail) true false false
  have hqueue := recorded_queue (s := s) (p := p) (n := n) (a := a) (b := b) (g.bytes ++ v.tail) (g.bytes ++ v.tail) true false false
  obtain ⟨hnone, hlinked⟩ := verdictLinked_of_none (p := a) (q := b) hrecorded hwaiting
  rw [hqueue] at hlinked
  exact completes_goodVerdict hrx hg hfcs hunc hmax hbase hnone hlinked

theorem completes_badVerdict (hrx : s.dev.rxNow p.val = some n) (hg : s.dev.frame n = some g) (hcopies : g.copies = []) (hfcs : v.fcsOk = false) :
    Completes (.frameFcsVerdict p v) s (fun t => t.dev.rxNow p.val = none ∧ ∀ k ∈ t.dev.sw.queues, ∀ x ∈ k.2, x.fid ≠ n) := by
  obtain ⟨bytes, tooLong, long, heq⟩ := verdict_of_bad hrx hg hfcs
  obtain ⟨hlinks, hnone⟩ := spoilFrame_bad (noCopies_recorded (p := p) hg hcopies bytes (g.bytes ++ v.tail) false tooLong long)
  refine completes_of_next rfl ?_
  rw [onDev_dev, heq, verdictDone_queues hnone]
  exact ⟨verdictDone_rxNow, hlinks⟩

end

end

/-- Settles O31: a frame by its trap and the steps it passes, a verdict by whether the frame proves good. -/
theorem frameForwarding : Obligations.FrameForwarding := by
  refine ⟨fun s p f x n vid pcp hup hrx hx hn hvid hpcp => ⟨?_, fun i htrap => ?_, fun htrap => ⟨fun h => ?_, ?_⟩⟩,
    fun s p v n e q f l hrx hf hcopies => ⟨fun hfcs hunc hmax hbase => ⟨?_, ?_⟩, ?_⟩⟩
  · exact completes_trapped hup hrx hn
  · exact completes_transit hup hrx hn htrap
  · subst hx hvid
    exact completes_refusedFrame hup hrx hn htrap h
  · subst hx hvid hpcp
    exact fun a haddress hreject hvalid hingress hstate hact hdrop hsdu hrecov hgate hmeter hseq hdests =>
      completes_passed hup hrx hn htrap haddress hreject hvalid hingress hstate hact hdrop hsdu hrecov hgate hmeter hseq hdests
  · exact fun hwaiting hup hawake => completes_verdictWaiting hrx hf hcopies hfcs hunc hmax hbase hwaiting hup hawake
  · exact completes_verdictLinked hrx hf hcopies hfcs hunc hmax hbase
  · exact completes_badVerdict hrx hf hcopies

end Sys2Proof.Proofs

/-! SUPPORT. Laws of the time I/O channels: TIO_STAT bits, records, measurements, and what triggers and alignments keep. -/

namespace Sys2Proof.Laws

open Sys2Proof.Machine Sys2Proof.Safety

variable {d e : Dev} {c k : Nat}

theorem tioCh_of_tio (h : e.tio = d.tio) (k : Nat) : e.tioCh k = d.tioCh k := congrArg (fun t => tabGet t Tio.init k) h

theorem tioCh_onTio_other (f : Tio → Tio) (h : k ≠ c) : (d.onTio c f).tioCh k = d.tioCh k := tabGet_tabSet_other _ _ _ _ h

theorem tioCh_of_only {P : List Part} {R : List Reg} (h : Only P R d e) (hp : .tio ∉ P) (k : Nat) : e.tioCh k = d.tioCh k :=
  tioCh_of_tio (h.part .tio hp) k

theorem tioReg_of_channel (f : Dev → Dev) (hreach : d.firnReach = true) (hc : c < d.tios) : d.tioReg c f = f d := by
  unfold Dev.tioReg Dev.reach
  rw [if_pos hreach]
  exact congrFun (congrArg (Dev.when d) (decide_eq_true hc)) f

theorem tios_le (d : Dev) : d.tios ≤ 48 := by
  unfold Dev.tios
  split <;> decide

theorem lt_of_mem_tioList (h : k ∈ d.tioList) : k < 48 := Nat.lt_of_lt_of_le (List.mem_range.1 h) (tios_le d)

/-! ## Bits of TIO_STAT -/

@[simp] theorem tioBit_tioCh (f : Fld) (b : Bool) (c k : Nat) : (d.tioBit f b c).tioCh k = d.tioCh k :=
  tioCh_of_tio (setMark_tio d f _ _ _) k

theorem tioBit_flag_same (f : Fld) (b : Bool) (c : Nat) (h : f.lo + f.width ≤ 32) (ha : apart F.TIO_STAT_CHANGED f = true)
    (hw : f.width = 1) : (d.tioBit f b c).flag f c = b := flag_setMark_same d f _ b c h (by decide) ha hw

theorem tioBit_flag_apart (f g : Fld) (b : Bool) (c k : Nat) (h : f.lo + f.width ≤ 32) (hf : apart f g = true)
    (ha : apart F.TIO_STAT_CHANGED g = true) : (d.tioBit f b c).flag g k = d.flag g k := flag_setMark_apart d f _ g _ c k h (by decide) hf ha

/-! ## Records -/

/-- What a channel keeps when only its output side moves. -/
def inputSide (t : Tio) := (t.fifo, t.badSlots, t.seq, t.lostEdge, t.heldTo, t.lastAny, t.meas)

/-- A record made while there is room enters the FIFO behind the others. -/
theorem tioRecord_enters (type status flags : Nat) (time : BitVec 128) (res : Int) (count : Nat)
    (hroom : (d.tioCh c).fifo.length + (d.tioCh c).badSlots < 64) :
    ∃ r, ((d.tioRecord c type status flags time res count).tioCh c).fifo = (d.tioCh c).fifo ++ [r] ∧
      r.type = type ∧ r.status = status ∧ r.time = time ∧ r.seq = (d.tioCh c).seq := by
  have hfree : ¬ 64 - (d.tioCh c).badSlots ≤ (d.tioCh c).fifo.length := by omega
  unfold Dev.tioRecord
  dsimp only
  rw [if_neg hfree, tioCh_of_tio (set_tio _ _ _ _), onTio_same, onTio_same]
  exact ⟨_, rfl, rfl, rfl, rfl, rfl⟩

/-- A record moves the FIFO and its marks alone. -/
theorem tioRecord_keeps {β : Type} (p : Tio → β)
    (hp : ∀ t : Tio, ∀ fifo seq loss lostEdge stepSeen lastTime, p { t with fifo, seq, loss, lostEdge, stepSeen, lastTime } = p t)
    (type status flags : Nat) (time : BitVec 128) (res : Int) (count : Nat) :
    p ((d.tioRecord c type status flags time res count).tioCh c) = p (d.tioCh c) := by
  unfold Dev.tioRecord
  dsimp only
  split
  · rw [tioCh_of_tio (countDev_tio _ _ _), onTio_same, onTio_same]
    exact hp (d.tioCh c) _ _ _ _ _ _
  · rw [tioCh_of_tio (set_tio _ _ _ _), onTio_same, onTio_same]
    exact hp (d.tioCh c) _ _ _ _ _ _

/-! ## Measurements -/

theorem tioArmed_meas (on : Bool) : ((d.tioArmed c on).tioCh c).meas = if on then some (d.newMeas c) else none := by
  unfold Dev.tioArmed
  rw [tioBit_tioCh, onTio_same]

theorem tioArmed_keeps {β : Type} (p : Tio → β) (hp : ∀ t m, p { t with meas := m } = p t) (on : Bool) :
    p ((d.tioArmed c on).tioCh c) = p (d.tioCh c) := by
  unfold Dev.tioArmed
  rw [tioBit_tioCh, onTio_same]
  exact hp _ _

theorem tioArmed_flag (on : Bool) : (d.tioArmed c on).flag F.TIO_STAT_ARMED c = on :=
  tioBit_flag_same _ on c (by decide) (by decide) rfl

/-- Whether a measurement that ends with a status is armed again. -/
def armsAgain (m : TioMeas) (status : Nat) : Bool := m.repeats && !(status == 2 || status == 4 || status == 6 || status == 7)

/-- What the end of a measurement leaves: a record of its mode with the status, and the channel armed again or idle. -/
structure MeasEnd (d e : Dev) (c : Nat) (m : TioMeas) (status : Nat) : Prop where
  record : ∃ r, (e.tioCh c).fifo = (d.tioCh c).fifo ++ [r] ∧ r.type = m.mode + 1 ∧ r.status = status
  isSome : (e.tioCh c).meas.isSome = armsAgain m status
  armed : e.flag F.TIO_STAT_ARMED c = armsAgain m status

theorem measEnd_of_record {m : TioMeas} (status flags : Nat) (time : BitVec 128) (res : Int) (count : Nat)
    (hmeas : (d.tioCh c).meas = some m) (hroom : (d.tioCh c).fifo.length + (d.tioCh c).badSlots < 64)
    (hfree : e.tio = (d.tioRecord c (measType m.mode) status flags time res count).tio) :
    MeasEnd d (e.measEnds c status) c m status := by
  have hch := tioCh_of_tio hfree c
  have hkept : (e.tioCh c).meas = some m := by
    rw [hch]
    exact (tioRecord_keeps (fun t => t.meas) (fun _ _ _ _ _ _ _ => rfl) _ _ _ _ _ _).trans hmeas
  obtain ⟨r, hfifo, htype, hstatus, -, -⟩ := tioRecord_enters (measType m.mode) status flags time res count hroom
  have hends : e.measEnds c status = e.tioArmed c (armsAgain m status) := by
    unfold Dev.measEnds
    rw [hkept]
    rfl
  rw [hends]
  refine ⟨⟨r, ?_, htype, hstatus⟩, ?_, tioArmed_flag _⟩
  · rw [tioArmed_keeps (fun t => t.fifo) (fun _ _ => rfl), hch, hfifo]
  · rw [tioArmed_meas]
    cases armsAgain m status <;> rfl

/-- A measurement that ends leaves a record of its mode, and is armed again where it repeats and its end allows that. -/
theorem endMeas_of_some {m : TioMeas} (status : Nat) (hmeas : (d.tioCh c).meas = some m)
    (hroom : (d.tioCh c).fifo.length + (d.tioCh c).badSlots < 64) : MeasEnd d (d.endMeas c status) c m status := by
  unfold Dev.endMeas
  rw [hmeas]
  dsimp only
  split
  · exact measEnd_of_record _ _ _ _ _ hmeas hroom rfl
  · split
    · exact measEnd_of_record _ _ _ _ _ hmeas hroom rfl
    · split
      · exact measEnd_of_record _ _ _ _ _ hmeas hroom rfl
      · exact measEnd_of_record _ _ _ _ _ hmeas hroom rfl

/-! ## Triggers, alignments and stop edges -/

theorem pinAfter_tioCh (f : Dev → Dev) : (d.pinAfter c f).tioCh k = (f d).tioCh k :=
  when_keeps _ (fun x => x.tioCh k) _ _ rfl

theorem inputSide_onTio (f : Tio → Tio) (hf : ∀ t, inputSide (f t) = inputSide t) (j k : Nat) :
    inputSide ((d.onTio j f).tioCh k) = inputSide (d.tioCh k) := by
  by_cases h : k = j
  · subst h
    rw [onTio_same, hf]
  · rw [tioCh_onTio_other _ h]

theorem inputSide_beginSched (j : Nat) (s : TioSched) (k : Nat) : inputSide ((d.beginSched j s).tioCh k) = inputSide (d.tioCh k) := by
  unfold Dev.beginSched
  rw [pinAfter_tioCh, tioBit_tioCh]
  refine inputSide_onTio _ (fun t => ?_) _ _
  rfl

theorem inputSide_endTrig (j k : Nat) : inputSide ((d.endTrig j).tioCh k) = inputSide (d.tioCh k) := by
  unfold Dev.endTrig
  rw [tioBit_tioCh]
  refine inputSide_onTio _ (fun t => ?_) _ _
  rfl

theorem inputSide_fireTriggers (j : Nat) (t : Ticks) (k : Nat) : inputSide ((d.fireTriggers j t).tioCh k) = inputSide (d.tioCh k) := by
  unfold Dev.fireTriggers
  refine each_keeps d (fun x => inputSide (x.tioCh k)) _ _ fun e a _ => ?_
  split
  · exact when_keeps _ (fun x => inputSide (x.tioCh k)) _ _ (congrArg inputSide (tioCh_of_tio (devEvent_tio _ _ _ _ _) k))
  · split
    · rfl
    · split
      · rfl
      · dsimp only
        split
        · exact inputSide_beginSched _ _ _
        · rw [inputSide_endTrig, inputSide_beginSched]

theorem tioCh_alignToEdge (j : Nat) (t : Ticks) (k : Nat) : (d.alignToEdge j t).tioCh k = d.tioCh k :=
  tioCh_of_only (only_alignToEdge d j t) (by decide) k

/-- An edge stops no measurement where none runs. -/
theorem stopEdge_of_idle (x : TioEdge) (frozen : Bool) (h : ∀ k < 48, (d.tioCh k).meas = none) : d.stopEdge c x frozen = d := by
  refine each_of_fixed fun k hk => ?_
  rw [h k (lt_of_mem_tioList hk)]

end Sys2Proof.Laws

namespace Sys2Proof.Laws

open Sys2Proof.Machine Sys2Proof.Safety

variable {d : Dev} {c : Nat}

/-- The instant of an edge at the pin of a channel (R209). -/
def pinInstant (d : Dev) (c n b : Nat) : Ticks :=
  tIn n ((d.tioCh c).centres.getD b 0) (Config.tioPinDelay c d.sys.dieTemp) (d.get F.TIO_DELAY_IN_EXT c)

/-- A channel whose detected edges are taken: enabled in TIMESTAMP mode and ready, with no measurement of any channel running. -/
structure Stamping (d : Dev) (c : Nat) : Prop where
  enabled : d.tioEn c = true
  mode : d.tioMode c = 0
  ready : d.tioReady c = true
  idle : ∀ k < 48, (d.tioCh k).meas = none

/-- The channel once a transition has been detected. -/
def noted (d : Dev) (c : Nat) (t : Ticks) : Dev := d.onTio c (fun x => { x with lastAny := some t })

theorem noted_idle (t : Ticks) (h : ∀ k < 48, (d.tioCh k).meas = none) : ∀ k < 48, ((noted d c t).tioCh k).meas = none := by
  intro k hk
  unfold noted
  by_cases hkc : k = c
  · subst hkc
    rw [onTio_same]
    exact h k hk
  · rw [tioCh_onTio_other _ hkc]
    exact h k hk

theorem noted_self (t : Ticks) : (noted d c t).tioCh c = { d.tioCh c with lastAny := some t } := onTio_same d c _

theorem tioEdgeIn_stamping (h : Stamping d c) (up : Bool) (n b : Nat) :
    d.tioEdgeIn c up n b =
      (let t := pinInstant d c n b
       if !d.accepts c up then noted d c t
       else if d.heldOff c t then (noted d c t).countDev (48 + c)
       else if d.deadTime c t then (noted d c t).loseEdge c
       else (noted d c t).acceptEdge c ⟨t, up, d.stamp t⟩ (d.flag F.TB_HB_STAT_FROZEN)) := by
  have hinput : d.tioInput c = true := by
    unfold Dev.tioInput
    rw [h.enabled, h.mode]
    rfl
  have hgo : ¬ (!d.tioInput c || !d.tioReady c) = true := by
    rw [hinput, h.ready]
    decide
  have hstop : ∀ (x : TioEdge) (frozen : Bool), (noted d c (pinInstant d c n b)).stopEdge c x frozen = noted d c (pinInstant d c n b) :=
    fun x frozen => stopEdge_of_idle x frozen (noted_idle _ h.idle)
  have hkeep : ∀ (dead : Bool) (x : TioEdge) (frozen : Bool),
      (if dead then noted d c (pinInstant d c n b) else (noted d c (pinInstant d c n b)).stopEdge c x frozen) =
        noted d c (pinInstant d c n b) := by
    intro dead x frozen
    rw [hstop]
    exact ite_self _
  unfold Dev.tioEdgeIn
  rw [if_neg hgo]
  exact congrArg (fun e : Dev => if !d.accepts c up then e else if d.heldOff c (pinInstant d c n b) then e.countDev (48 + c)
    else if d.deadTime c (pinInstant d c n b) then e.loseEdge c
    else e.acceptEdge c ⟨pinInstant d c n b, up, d.stamp (pinInstant d c n b)⟩ (d.flag F.TB_HB_STAT_FROZEN)) (hkeep _ _ _)

/-- An accepted edge in TIMESTAMP mode is recorded and starts the hold-off; triggers and alignments leave the input side alone. -/
theorem acceptEdge_stamping (x : TioEdge) (frozen : Bool) (hmode : d.tioMode c = 0)
    (hroom : (d.tioCh c).fifo.length + (d.tioCh c).badSlots < 64) :
    ∃ r, ((d.acceptEdge c x frozen).tioCh c).fifo = (d.tioCh c).fifo ++ [r] ∧ r.type = 1 ∧ r.status = 0 ∧ r.time = x.stamp ∧
      r.seq = (d.tioCh c).seq ∧
      ((d.acceptEdge c x frozen).tioCh c).heldTo = some (x.time + d.get F.TIO_HOLDOFF_HOLDOFF c * nsUnit) ∧
      ((d.acceptEdge c x frozen).tioCh c).lastAny = (d.tioCh c).lastAny := by
  unfold Dev.acceptEdge
  extract_lets leading e
  have hmode' : e.tioMode c = 0 := hmode
  have hlead : leading = false := by
    show (d.tioMode c == 4 && _) = false
    rw [hmode]
    rfl
  have hch : e.tioCh c = { d.tioCh c with
      heldTo := some (x.time + d.get F.TIO_HOLDOFF_HOLDOFF c * nsUnit), noEdge := false, noEdgeUs := d.get F.TIO_TIMEOUT_TIMEOUT c } := by
    show (d.onTio c _).tioCh c = _
    rw [onTio_same, hlead]
    rfl
  rw [if_pos hmode']
  have hroom' : (e.tioCh c).fifo.length + (e.tioCh c).badSlots < 64 := by
    rw [hch]
    exact hroom
  obtain ⟨r, hfifo, htype, hstatus, htime, hseq⟩ := tioRecord_enters 1 0 (polFlag x.rising + frozenFlag frozen) x.stamp 0 0 hroom'
  have hside := inputSide_fireTriggers (d := e.tioRecord c 1 0 (polFlag x.rising + frozenFlag frozen) x.stamp 0 0) c x.time c
  have hheld := tioRecord_keeps (d := e) (c := c) (fun t => (t.heldTo, t.lastAny)) (fun _ _ _ _ _ _ _ => rfl)
    1 0 (polFlag x.rising + frozenFlag frozen) x.stamp 0 0
  refine ⟨r, ?_, htype, hstatus, htime, ?_, ?_, ?_⟩
  · rw [tioCh_alignToEdge]
    refine (congrArg (·.1) hside).trans (hfifo.trans ?_)
    rw [hch]
  · rw [hseq, hch]
  · rw [tioCh_alignToEdge]
    refine (congrArg (·.2.2.2.2.1) hside).trans ((congrArg (·.1) hheld).trans ?_)
    rw [hch]
  · rw [tioCh_alignToEdge]
    refine (congrArg (·.2.2.2.2.2.1) hside).trans ((congrArg (·.2) hheld).trans ?_)
    rw [hch]

/-- An edge lost where nothing is measured only marks the loss. -/
theorem loseEdge_of_idle (h : (d.tioCh c).meas = none) : (d.loseEdge c).tioCh c = { d.tioCh c with lostEdge := true } := by
  have hch : ((d.onTio c (fun t => { t with lostEdge := true })).countDev (96 + c)).tioCh c = { d.tioCh c with lostEdge := true } := by
    rw [tioCh_of_tio (countDev_tio _ _ _), onTio_same]
  unfold Dev.loseEdge
  extract_lets e
  have hch' : e.tioCh c = { d.tioCh c with lostEdge := true } := hch
  have hnone : (e.tioCh c).meas = none := by
    rw [hch']
    exact h
  rw [hnone]
  exact hch'

theorem noEdge_stamping (hen : d.tioEn c = true) (hmode : d.tioMode c = 0) (hready : d.tioReady c = true)
    (hus : (d.tioCh c).noEdgeUs ≠ 0) (hnot : (d.tioCh c).noEdge = false)
    (hroom : (d.tioCh c).fifo.length + (d.tioCh c).badSlots < 64) :
    ∃ r, ((d.noEdge c).tioCh c).fifo = (d.tioCh c).fifo ++ [r] ∧ r.type = 6 ∧ r.time = d.stamp d.now ∧
      ((d.noEdge c).tioCh c).noEdge = true := by
  have hgo : ¬ (!d.tioEn c || d.tioMode c ≠ 0 || !d.tioReady c || (d.tioCh c).noEdgeUs = 0 || (d.tioCh c).noEdge) = true := by
    simp [hen, hmode, hready, hus, hnot]
  obtain ⟨r, hfifo, htype, -, htime, -⟩ := tioRecord_enters 6 0 (frozenFlag (d.flag F.TB_HB_STAT_FROZEN)) (d.stamp d.now) 0 0 hroom
  refine ⟨r, ?_, htype, htime, ?_⟩
  · unfold Dev.noEdge
    rw [if_neg hgo, onTio_same]
    exact hfifo
  · unfold Dev.noEdge
    rw [if_neg hgo, onTio_same]

theorem armTio_of_idle (hlo : 1 ≤ d.tioMode c) (hhi : d.tioMode c ≤ 4)
    (hstop : d.tioMode c = 1 → d.get F.TIO_MEAS_CFG_STOP_CH c ≠ c ∧ d.tioTimestamps (d.get F.TIO_MEAS_CFG_STOP_CH c) = true)
    (hgate : d.tioMode c = 3 → d.get F.TIO_GATE_GATE c < max 1 (d.get F.TIO_TIMEOUT_TIMEOUT c))
    (hline : d.flag F.TIO_STAT_TDC_RETIRED c = false) (hready : d.tioReady c = true) (hidle : (d.tioCh c).meas = none) :
    d.armTio c = (d.tioArmed c true).set F.TIO_CMD_RESULT 1 c := by
  have hmode : ¬ (d.tioMode c = 0 || d.tioMode c = 5) = true := by simp; omega
  have hpair : ¬ (d.tioMode c = 1 && (d.get F.TIO_MEAS_CFG_STOP_CH c == c || !d.tioTimestamps (d.get F.TIO_MEAS_CFG_STOP_CH c))) = true := by
    by_cases hone : d.tioMode c = 1
    · obtain ⟨hne, hts⟩ := hstop hone
      simp [hne, hts]
    · simp [hone]
  have hshort : ¬ (d.tioMode c = 3 && max 1 (d.get F.TIO_TIMEOUT_TIMEOUT c) ≤ d.get F.TIO_GATE_GATE c) = true := by
    by_cases hthree : d.tioMode c = 3
    · have := hgate hthree
      simp only [Bool.and_eq_true, decide_eq_true_eq, not_and, Nat.not_le]
      exact fun _ => this
    · simp [hthree]
  unfold Dev.armTio
  dsimp only
  rw [if_neg hmode, if_neg hpair, hline, hready, hidle]
  exact if_neg hshort

end Sys2Proof.Laws

namespace Sys2Proof.Proofs

open Sys2Proof.Machine Sys2Proof.Safety Sys2Proof.Laws

/-- Settles O24: each clause by what the operation that the command runs leaves in the channel's FIFO and measurement. -/
theorem tioInputs : Obligations.TioInputs := by
  unfold Obligations.TioInputs
  refine ⟨?_, ?_⟩
  · intro s c up n b T hen hmode hready hidle hT hroom
    have hstamping : Stamping s.dev c.val := ⟨hen, hmode, hready, hidle⟩
    have hroom' : ((noted s.dev c.val T).tioCh c.val).fifo.length + ((noted s.dev c.val T).tioCh c.val).badSlots < 64 := by
      rw [noted_self]
      exact hroom
    have hpin : pinInstant s.dev c.val n b.val = T := hT.symm
    refine ⟨?_, ?_, ?_, ?_⟩
    · intro hwant hheld hdead
      refine completes_of_next rfl ?_
      rw [onDev_dev, tioEdgeIn_stamping hstamping]
      dsimp only
      rw [hpin, hwant, hheld, hdead]
      obtain ⟨r, hfifo, htype, hstatus, htime, hseq, hto, hlast⟩ :=
        acceptEdge_stamping (d := noted s.dev c.val T) (c := c.val) ⟨T, up, s.dev.stamp T⟩ (s.dev.flag F.TB_HB_STAT_FROZEN) hmode hroom'
      rw [noted_self] at hfifo hseq hlast
      exact ⟨r, hfifo, htype, hstatus, htime, hseq, hto, hlast⟩
    · intro hwant hheld hdead
      refine completes_of_next rfl ?_
      rw [onDev_dev, tioEdgeIn_stamping hstamping]
      dsimp only
      rw [hpin, hwant, hheld, hdead, if_neg (by decide), if_neg (by decide), if_pos rfl]
      have hlost := loseEdge_of_idle (noted_idle (d := s.dev) (c := c.val) T hidle c.val c.isLt)
      rw [noted_self] at hlost
      have hfifo := congrArg Tio.fifo hlost
      have hmark := congrArg Tio.lostEdge hlost
      exact ⟨hfifo, hmark⟩
    · intro hor
      refine completes_of_next rfl ?_
      rw [onDev_dev, tioEdgeIn_stamping hstamping]
      dsimp only
      rw [hpin]
      by_cases hwant : s.dev.accepts c.val up = true
      · have hheld := hor.resolve_left (by rw [hwant]; decide)
        rw [hwant, hheld, if_neg (by decide), if_pos rfl]
        have hch := (tioCh_of_tio (countDev_tio (noted s.dev c.val T) (48 + c.val) 1) c.val).trans (noted_self T)
        have hfifo := congrArg Tio.fifo hch
        have hmark := congrArg Tio.lostEdge hch
        exact ⟨hfifo, hmark⟩
      · rw [Bool.eq_false_iff.2 hwant, if_pos (by decide)]
        have hch := noted_self (d := s.dev) (c := c.val) T
        have hfifo := congrArg Tio.fifo hch
        have hmark := congrArg Tio.lostEdge hch
        exact ⟨hfifo, hmark⟩
    · intro hus hnot
      refine completes_of_next rfl ?_
      rw [onDev_dev]
      exact noEdge_stamping hen hmode hready hus hnot hroom
  · intro s c m
    refine ⟨?_, ?_⟩
    · intro hreach hc hlo hhi hstop hgate hline hready hidle
      refine completes_of_next rfl ?_
      rw [onDev_dev, tioReg_of_channel _ hreach hc, armTio_of_idle hlo hhi hstop hgate hline hready hidle]
      refine ⟨get_set_same _ _ _ _ (by decide), ?_, ?_⟩
      · rw [flag_set_apart _ _ _ _ _ _ (by decide) (by decide)]
        exact tioArmed_flag true
      · rw [tioCh_of_tio (set_tio _ _ _ _)]
        exact tioArmed_meas true
    · intro hmeas hroom
      refine ⟨?_, ?_⟩
      · intro hreach hc
        refine completes_of_next rfl ?_
        rw [onDev_dev, tioReg_of_channel _ hreach hc]
        obtain ⟨⟨r, hfifo, htype, hstatus⟩, hsome, harmed⟩ := endMeas_of_some 7 hmeas hroom
        have hno : armsAgain m 7 = false := Bool.and_false _
        rw [hno] at hsome harmed
        refine ⟨r, ?_, htype, hstatus, ?_, ?_, get_set_same _ _ _ _ (by decide)⟩
        · rw [tioCh_of_tio (set_tio _ _ _ _)]
          exact hfifo
        · rw [tioCh_of_tio (set_tio _ _ _ _)]
          exact Option.isSome_eq_false_iff.1 hsome |> Option.isNone_iff_eq_none.1
        · rw [flag_set_apart _ _ _ _ _ _ (by decide) (by decide)]
          exact harmed
      · refine completes_of_next rfl ?_
        rw [onDev_dev]
        obtain ⟨⟨r, hfifo, htype, hstatus⟩, hsome, harmed⟩ := endMeas_of_some 1 hmeas hroom
        have hagain : armsAgain m 1 = m.repeats := Bool.and_true _
        rw [hagain] at hsome harmed
        exact ⟨r, hfifo, htype, hstatus, hsome, harmed⟩

end Sys2Proof.Proofs

namespace Sys2Proof.Laws

open Sys2Proof.Machine Sys2Proof.Safety

variable {d e : Dev} {c n : Nat}

/-! ## Flags of TIO_STAT through the end of a measurement -/

/-- A field of TIO_STAT that ARMED, CHANGED and FIFO_LEVEL leave alone. -/
structure Lasts (g : Fld) : Prop where
  level : apart F.TIO_STAT_FIFO_LEVEL g = true
  armed : apart F.TIO_STAT_ARMED g = true
  changed : apart F.TIO_STAT_CHANGED g = true
  reports : g.reg ∉ alarmRegs

theorem lasts_tdcRetired : Lasts F.TIO_STAT_TDC_RETIRED := ⟨by decide, by decide, by decide, by decide⟩
theorem lasts_calRun : Lasts F.TIO_STAT_CAL_RUN := ⟨by decide, by decide, by decide, by decide⟩

theorem tioRecord_flag {g : Fld} (hg : Lasts g) (type status flags : Nat) (time : BitVec 128) (res : Int) (count k : Nat) :
    (d.tioRecord c type status flags time res count).flag g k = d.flag g k := by
  unfold Dev.tioRecord
  dsimp only
  split
  · have hcount : ∀ x : Dev, Only reports alarmRegs x (x.countDev (144 + c)) := fun x => Only.refl.countDev _ _ (by decide)
    exact (hcount _).flag g k hg.reports
  · exact flag_set_apart _ _ _ _ _ _ (by decide) hg.level

theorem measEnds_flag {g : Fld} (hg : Lasts g) (status k : Nat) : (d.measEnds c status).flag g k = d.flag g k := by
  unfold Dev.measEnds Dev.tioArmed
  exact tioBit_flag_apart _ _ _ _ _ (by decide) hg.armed hg.changed

theorem endMeas_flag {g : Fld} (hg : Lasts g) (status k : Nat) : (d.endMeas c status).flag g k = d.flag g k := by
  unfold Dev.endMeas
  split
  · rfl
  · dsimp only
    rw [measEnds_flag hg]
    split
    · exact tioRecord_flag hg _ _ _ _ _ _ _
    · split
      · exact tioRecord_flag hg _ _ _ _ _ _ _
      · split
        · exact tioRecord_flag hg _ _ _ _ _ _ _
        · exact tioRecord_flag hg _ _ _ _ _ _ _

theorem refreshReady_flag {g : Fld} (hready : apart F.TIO_STAT_READY g = true) (hg : Lasts g) (k : Nat) :
    (d.refreshReady c).flag g k = d.flag g k := by
  unfold Dev.refreshReady
  dsimp only
  rw [tioBit_flag_apart _ _ _ _ _ (by decide) hready hg.changed]
  exact when_keeps _ (fun x => x.flag g k) _ _ rfl

theorem refreshReady_centres (k : Nat) : ((d.refreshReady c).tioCh k).centres = (d.tioCh k).centres := by
  unfold Dev.refreshReady
  dsimp only
  rw [tioBit_tioCh]
  refine when_keeps _ (fun x => (x.tioCh k).centres) _ _ ?_
  by_cases h : k = c
  · subst h
    rw [onTio_same]
  · rw [tioCh_onTio_other _ h]

/-! ## Calibrations -/

/-- The count of the bad taps that a calibration finds, one event each. -/
def noteTap (c : Nat) (d : Dev) (_ : Nat) : Dev := (d.devEvent true 0x121 c).retireOther 0x04 0 c

theorem only_noteTap (d : Dev) (t : Nat) : Only reports alarmRegs d (noteTap c d t) := by
  unfold noteTap
  exact (Only.refl.devEvent _ _ _ _ (by decide)).retireOther _ _ _ (by decide)

/-- The channel once a calibration has counted the bad taps `l` and ended. -/
def tapsNoted (d : Dev) (c : Nat) (l : List Nat) : Dev :=
  let d := (d.onTio c (fun t => { t with badTaps := (d.tioCh c).badTaps ++ l })).each l (noteTap c)
  (d.set F.TIO_CAL_STAT_RETIRED_TAPS (min 1023 (d.get F.TIO_CAL_STAT_RETIRED_TAPS c + l.length)) c).tioBit F.TIO_STAT_CAL_RUN false c

theorem tapsNoted_flag {g : Fld} (l : List Nat) (k : Nat) (hrun : apart F.TIO_STAT_CAL_RUN g = true)
    (hch : apart F.TIO_STAT_CHANGED g = true) (hcal : g.reg ≠ .TIO_CAL_STAT) (hg : g.reg ∉ alarmRegs) :
    (tapsNoted d c l).flag g k = d.flag g k := by
  unfold tapsNoted
  dsimp only
  rw [tioBit_flag_apart _ _ _ _ _ (by decide) hrun hch]
  have hstat : ∀ (x : Dev) (v : Nat), Only [] [.TIO_CAL_STAT] x (x.set F.TIO_CAL_STAT_RETIRED_TAPS v c) := fun x v => Only.refl.set _ _ _ (by decide)
  rw [(hstat _ _).flag g k (by simpa using hcal)]
  exact (only_tapsCounted _ l).flag g k hg
where only_tapsCounted (x : Dev) (l : List Nat) : Only reports alarmRegs x (x.each l (noteTap c)) :=
  Only.refl.each _ _ (fun _ _ => only_noteTap _ _)

theorem tapsNoted_run (l : List Nat) : (tapsNoted d c l).flag F.TIO_STAT_CAL_RUN c = false := by
  unfold tapsNoted
  exact tioBit_flag_same _ _ _ (by decide) (by decide) rfl

theorem tapsNoted_count (l : List Nat) :
    (tapsNoted d c l).get F.TIO_CAL_STAT_RETIRED_TAPS c = min 1023 (d.get F.TIO_CAL_STAT_RETIRED_TAPS c + l.length) := by
  have hcounted : ∀ x : Dev, (x.each l (noteTap c)).get F.TIO_CAL_STAT_RETIRED_TAPS c = x.get F.TIO_CAL_STAT_RETIRED_TAPS c :=
    fun x => (tapsNoted_flag.only_tapsCounted x l).get _ _ (by decide)
  unfold tapsNoted Dev.tioBit
  dsimp only
  rw [get_setMark_apart _ _ _ _ _ _ _ (by decide) (by decide) (by decide) (by decide), get_set_same _ _ _ _ (by decide), hcounted, onTio_get]
  exact Nat.mod_eq_of_lt (by show min 1023 _ < 1024; omega)

/-- The taps that a calibration of a channel finds bad for the first time. -/
def newTaps (r : CalResult) (old : List Nat) : List Nat := (calBad r).filter (fun t => !old.contains t)

theorem calDone_of_run (r : CalResult) (h : d.flag F.TIO_STAT_CAL_RUN c = true) :
    d.calDone c r =
      if calUniform r && (d.tioCh c).badTaps.length + (newTaps r (d.tioCh c).badTaps).length ≤ 128 then
        ((((tapsNoted d c (newTaps r (d.tioCh c).badTaps)).onTio c (fun t => { t with centres := binCentres 0 r.bins })).set
          F.TIO_CAL_STAT_BIN_MIN (calBinMin r) c).set F.TIO_CAL_STAT_BIN_MAX (calBinMax r) c).refreshReady c
      else (tapsNoted d c (newTaps r (d.tioCh c).badTaps)).retireTdc c := by
  unfold Dev.calDone
  rw [h]
  rfl

theorem tioAlarm_on (hc : c < 48) (h : d.flag F.TIO_STAT_TDC_RETIRED c = true) : d.tioAlarm.alarmOn .tioRetired = true := by
  have hany : ((List.range 48).any fun c => d.flag F.TIO_STAT_TDC_RETIRED c || d.flag F.TIO_STAT_OUT_RETIRED c) = true :=
    List.any_eq_true.2 ⟨c, List.mem_range.2 hc, by rw [h, Bool.true_or]⟩
  unfold Dev.tioAlarm
  rw [hany, alarmOn_cond_true]

theorem only_lineLogged (d : Dev) : Only reports alarmRegs d (d.logAdd 0x04 1 0 c) := Only.refl.logAdd _ _ _ _ (by decide)

theorem retireTdc_retired : (d.retireTdc c).flag F.TIO_STAT_TDC_RETIRED c = true := by
  unfold Dev.retireTdc
  dsimp only
  rw [refreshReady_flag (by decide) lasts_tdcRetired, (only_tioAlarm _).flag _ _ (by decide), endMeas_flag lasts_tdcRetired,
    (only_lineLogged _).flag _ _ (by decide)]
  exact tioBit_flag_same _ _ _ (by decide) (by decide) rfl

theorem retireTdc_run (k : Nat) : (d.retireTdc c).flag F.TIO_STAT_CAL_RUN k = d.flag F.TIO_STAT_CAL_RUN k := by
  unfold Dev.retireTdc
  dsimp only
  rw [refreshReady_flag (by decide) lasts_calRun, (only_tioAlarm _).flag _ _ (by decide), endMeas_flag lasts_calRun,
    (only_lineLogged _).flag _ _ (by decide)]
  exact tioBit_flag_apart _ _ _ _ _ (by decide) (by decide) (by decide)

theorem retireTdc_alarm (hc : c < 48) : (d.retireTdc c).alarmOn .tioRetired = true := by
  unfold Dev.retireTdc
  dsimp only
  rw [alarmOn_of_word _ (fun u => (only_refreshReady _ _).word _ u (by decide))]
  refine tioAlarm_on hc ?_
  rw [endMeas_flag lasts_tdcRetired, (only_lineLogged _).flag _ _ (by decide)]
  exact tioBit_flag_same _ _ _ (by decide) (by decide) rfl

/-! ## Calibrations of REFIN converters -/

theorem cand_of_cands {d e : Dev} (h : e.cands = d.cands) (k : Nat) : e.cand k = d.cand k := congrArg (fun t => tabGet t Cand.init k) h

/-- The candidate once a calibration has counted the bad taps `l` and ended. -/
def refinNoted (d : Dev) (n : Nat) (l : List Nat) : Dev :=
  (d.onCand n (fun c => { c with badTaps := (d.cand n).badTaps ++ l, calRuns := false })).each l (fun d _ => d.retireOther 0x0B 0 n)

theorem refinNoted_cand (l : List Nat) :
    (refinNoted d n l).cand n = { d.cand n with badTaps := (d.cand n).badTaps ++ l, calRuns := false } := by
  unfold refinNoted
  rw [cand_of_cands (each_keeps _ (·.cands) _ _ (fun x _ _ => retireOther_cands x _ _ _)), onCand_same]

theorem refinCalDone_of_run (r : CalResult) (h : (d.cand n).calRuns = true) :
    d.refinCalDone n r =
      if calUniform r && (d.cand n).badTaps.length + (newTaps r (d.cand n).badTaps).length ≤ 128 then
        (refinNoted d n (newTaps r (d.cand n).badTaps)).onCand n (fun c => { c with centres := binCentres 0 r.bins })
      else (refinNoted d n (newTaps r (d.cand n).badTaps)).retireMonitor n := by
  unfold Dev.refinCalDone
  rw [h]
  rfl

theorem retireMonitor_cand_eq (mem : Nat) : (d.retireMonitor n mem).cand n = { d.cand n with retired := true, qualS := 0 } := by
  have hreports : ∀ x : Dev, Only [.counters, .latches, .ring, .log, .pcie, .sent] (.RSEL_CAND_STAT :: alarmRegs) x
      ((((((x.candFlag F.RSEL_CAND_STAT_QUALIFIED n false).set F.RSEL_CAND_STAT_REASON 7 n).set F.RSEL_CAND_STAT_QUAL_LEFT 0 n).setB
        F.RSEL_CAND_STAT_ACTIVE false n).countDev (218 + n)).retireOther 0x0B mem n) := by
    intro x
    exact (((((Only.refl.candFlag _ _ _ (by decide) (by decide)).set _ _ _ (by decide)).set _ _ _ (by decide)).setB _ _ _
      (by decide)).countDev _ _ (by decide)).retireOther _ _ _ (by decide)
  have hcands : (d.retireMonitor n mem).cands = (d.onCand n (fun c => { c with retired := true, qualS := 0 })).cands := (hreports _).part .cands (by decide)
  rw [cand_of_cands hcands, onCand_same]

/-! ## Writes of TIO_CFG -/

/-- What a change of EN, MODE or EDGE ends of a channel that was enabled (R222). -/
def cfgEnds (d : Dev) (c : Nat) (b : Bool) : Dev :=
  if b then (((d.endMeas c 2).stopOutput c).onTio c (fun t => { t with meas := none })).tioBit F.TIO_STAT_ARMED false c else d

/-- What follows the write of TIO_CFG: an enable empties the FIFO and starts a calibration (R222). -/
def cfgFollows (c : Nat) (en was anew : Bool) (d : Dev) : Dev :=
  let d := if en && !was then
      let d := d.onTio c (fun t => { t with
        fifo := [], loss := false, lastTime := 0, heldTo := none, lastAny := none, noEdge := false, centres := [], live := true })
      (d.set F.TIO_STAT_FIFO_LEVEL 0 c).calStart c
    else if !en then d.tioBit F.TIO_STAT_CAL_RUN false c
    else d
  let d := d.when anew (fun d => d.onTio c (fun t => { t with noEdgeUs := d.get F.TIO_TIMEOUT_TIMEOUT c }))
  (d.tioClock.refreshReady c).judgeStops

theorem cfgFollows_word (c : Nat) (en was anew : Bool) (d : Dev) (u : Nat) :
    (cfgFollows c en was anew d).word .TIO_CFG u = d.word .TIO_CFG u := by
  unfold cfgFollows
  dsimp only
  rw [(only_judgeStops _).word .TIO_CFG u (by decide), (only_refreshReady _ _).word .TIO_CFG u (by decide),
    (only_tioClock _).word .TIO_CFG u (by decide), when_keeps _ (fun x => x.word .TIO_CFG u) _ _ rfl]
  split
  · rw [(only_calStart _ _).word .TIO_CFG u (by decide), word_set_other _ _ _ _ _ _ (fun h => absurd h.1 (by decide)), onTio_word]
  · split
    · have hbit : Only [] [.TIO_STAT] d (d.tioBit F.TIO_STAT_CAL_RUN false c) := Only.refl.tioBit _ _ _ (by decide) (by decide)
      exact hbit.word .TIO_CFG u (by decide)
    · rfl

/-- The states of TIO_CFG that a write never takes (R201). -/
def cfgRefused (d : Dev) (c : Nat) (v : Word) : Bool :=
  6 ≤ F.TIO_CFG_MODE.of v || F.TIO_CFG_EDGE.of v == 3 || (F.TIO_CFG_EDGE.of v == 2 && F.TIO_CFG_MODE.of v != 0) ||
    (F.TIO_CFG_MODE.of v != 5 && d.flag F.TIO_STAT_TDC_RETIRED c)

theorem writeTioCfg_refused (v : Word) (h : cfgRefused d c v = true) : d.writeTioCfg c v = d.set F.TIO_STAT_CFG_REJ 1 c := if_pos h

/-- A write of TIO_CFG that is taken. -/
def cfgTaken (c : Nat) (v : Word) (d : Dev) : Dev :=
  let was := d.tioEn c
  let anew := F.TIO_CFG_EN.on v != was || F.TIO_CFG_MODE.of v ≠ d.tioMode c || F.TIO_CFG_EDGE.of v ≠ d.get F.TIO_CFG_EDGE c
  cfgFollows c (F.TIO_CFG_EN.on v) was anew ((cfgEnds d c (was && anew)).store .TIO_CFG c v)

theorem writeTioCfg_taken (v : Word) (h : cfgRefused d c v = false) : d.writeTioCfg c v = d.pinAfter c (cfgTaken c v) := by
  have hgo : ¬ cfgRefused d c v = true := by rw [h]; decide
  unfold cfgRefused at hgo
  unfold Dev.writeTioCfg
  extract_lets en mode edge
  rw [if_neg hgo]
  refine congrArg (d.pinAfter c) (funext fun x => ?_)
  unfold cfgTaken cfgEnds cfgFollows
  rfl

theorem writeTioCfg_word (v : Word) (h : cfgRefused d c v = false) :
    ∃ x : Dev, (d.writeTioCfg c v).word .TIO_CFG c = (x.store .TIO_CFG c v).word .TIO_CFG c := by
  have hpin : ∀ f : Dev → Dev, (d.pinAfter c f).word .TIO_CFG c = (f d).word .TIO_CFG c :=
    fun f => when_keeps _ (fun x => x.word .TIO_CFG c) _ _ rfl
  rw [writeTioCfg_taken v h, hpin]
  unfold cfgTaken
  dsimp only
  rw [cfgFollows_word]
  exact ⟨_, rfl⟩

theorem writeTioCfg_get (v : Word) (h : cfgRefused d c v = false) (g : Fld) (hreg : g.reg = .TIO_CFG) (hfree : freeField g = true) :
    (d.writeTioCfg c v).get g c = bitsOf v.toNat g.lo g.width := by
  obtain ⟨x, hx⟩ := writeTioCfg_word v h
  have hstore := store_get_free (d := x) c v hfree
  unfold Dev.get at hstore ⊢
  rw [hreg] at hstore ⊢
  rw [hx]
  exact hstore

theorem cfgRefused_iff (v : Word) : cfgRefused d c v = true ↔ 6 ≤ bitsOf v.toNat 1 3 ∨ bitsOf v.toNat 4 2 = 3 ∨
    (bitsOf v.toNat 4 2 = 2 ∧ bitsOf v.toNat 1 3 ≠ 0) ∨ (bitsOf v.toNat 1 3 ≠ 5 ∧ d.flag F.TIO_STAT_TDC_RETIRED c = true) := by
  have hmode : F.TIO_CFG_MODE.of v = bitsOf v.toNat 1 3 := rfl
  have hedge : F.TIO_CFG_EDGE.of v = bitsOf v.toNat 4 2 := rfl
  unfold cfgRefused
  rw [hmode, hedge]
  simp only [Bool.or_eq_true, Bool.and_eq_true, beq_iff_eq, bne_iff_ne, decide_eq_true_eq, or_assoc]

theorem mem_calBad (r : CalResult) (x : Nat) :
    x ∈ calBad r ↔ ∃ y, r.taps[x]? = some y ∧ x < 768 ∧ (y.changes = false ∨ 8 * 2 ^ 20 < y.edges * 1600) := by
  unfold calBad
  rw [List.mem_filter, List.mem_range]
  cases htap : r.taps[x]? with
  | none => simp
  | some y =>
    constructor
    · rintro ⟨hx, hbad⟩
      refine ⟨y, rfl, hx, ?_⟩
      simpa using hbad
    · rintro ⟨z, hz, hx, hbad⟩
      obtain rfl := Option.some.inj hz
      exact ⟨hx, by simpa using hbad⟩

theorem recal_of_enabled (hen : d.tioEn c = true) (hline : d.flag F.TIO_STAT_TDC_RETIRED c = false) :
    d.recal c = (d.calStart c).set F.TIO_CMD_RESULT 1 c := by
  unfold Dev.recal
  rw [hline, hen]
  rfl

theorem recal_of_retired (h : d.flag F.TIO_STAT_TDC_RETIRED c = true) : d.recal c = d.set F.TIO_CMD_RESULT 8 c := if_pos h

theorem calStart_run (hen : d.tioEn c = true) (hline : d.flag F.TIO_STAT_TDC_RETIRED c = false) :
    (d.calStart c).flag F.TIO_STAT_CAL_RUN c = true := by
  unfold Dev.calStart
  rw [hen, hline]
  exact tioBit_flag_same _ _ _ (by decide) (by decide) rfl

theorem lt_tios_of_en (h : d.tioEn c = true) : c < d.tios := of_decide_eq_true (Bool.and_eq_true_iff.1 h).1

end Sys2Proof.Laws

namespace Sys2Proof.Proofs

open Sys2Proof.Machine Sys2Proof.Safety Sys2Proof.Laws

theorem tioCfgWrite_takes (s : State) (c : TioId) (v : Word) (hreach : s.dev.firnReach = true) (hc : c.val < s.dev.tios)
    (hmode : bitsOf v.toNat 1 3 ≤ 5) (hedge : bitsOf v.toNat 4 2 ≠ 3) (hboth : bitsOf v.toNat 4 2 = 2 → bitsOf v.toNat 1 3 = 0)
    (hline : bitsOf v.toNat 1 3 ≠ 5 → s.dev.flag F.TIO_STAT_TDC_RETIRED c.val = false) : Completes (.tioCfgWrite c v) s (fun t =>
      t.dev.get F.TIO_CFG_EN c.val = bitsOf v.toNat 0 1 ∧ t.dev.get F.TIO_CFG_MODE c.val = bitsOf v.toNat 1 3 ∧
      t.dev.get F.TIO_CFG_EDGE c.val = bitsOf v.toNat 4 2) := by
  have hgo : cfgRefused s.dev c.val v = false := by
    rw [Bool.eq_false_iff, ne_eq, cfgRefused_iff]
    rintro (h | h | ⟨h, hne⟩ | ⟨h, hret⟩)
    · omega
    · exact hedge h
    · exact hne (hboth h)
    · rw [hline h] at hret
      exact absurd hret Bool.false_ne_true
  refine completes_of_next rfl ?_
  rw [onDev_dev, tioReg_of_channel _ hreach hc]
  exact ⟨writeTioCfg_get v hgo _ rfl (by decide), writeTioCfg_get v hgo _ rfl (by decide), writeTioCfg_get v hgo _ rfl (by decide)⟩

theorem tioCfgWrite_refused (s : State) (c : TioId) (v : Word) (hreach : s.dev.firnReach = true) (hc : c.val < s.dev.tios)
    (h : cfgRefused s.dev c.val v = true) :
    Completes (.tioCfgWrite c v) s (fun t => t.dev.flag F.TIO_STAT_CFG_REJ c.val = true ∧ Frame [] [.TIO_STAT] s t) := by
  refine completes_of_next rfl ?_
  have hwrite : s.dev.tioReg c.val (·.writeTioCfg c.val v) = s.dev.set F.TIO_STAT_CFG_REJ 1 c.val :=
    (tioReg_of_channel _ hreach hc).trans (writeTioCfg_refused v h)
  have honly : Only [] [.TIO_STAT] s.dev (s.dev.set F.TIO_STAT_CFG_REJ 1 c.val) := Only.refl.set _ _ _ (by decide)
  refine ⟨?_, ?_, onDev_flash s _, onDev_pending s _⟩
  · rw [onDev_dev, hwrite]
    exact flag_setB_same _ F.TIO_STAT_CFG_REJ true _ (by decide) rfl
  · rw [onDev_dev, hwrite]
    exact honly

theorem calibrationStart_tio (s : State) (c : TioId) (k : CalCause) (hen : s.dev.tioEn c.val = true)
    (hline : s.dev.flag F.TIO_STAT_TDC_RETIRED c.val = false) (hreach : k = .recal → s.dev.firnReach = true) :
    Completes (.calibrationStart (.tio c) k) s (fun t => t.dev.flag F.TIO_STAT_CAL_RUN c.val = true ∧
      (k = .recal → t.dev.get F.TIO_CMD_RESULT c.val = 1) ∧ Frame [] [.TIO_STAT, .TIO_CMD] s t) := by
  by_cases hk : k = .recal
  · subst hk
    have hrun : s.dev.tioReg c.val (·.recal c.val) = (s.dev.calStart c.val).set F.TIO_CMD_RESULT 1 c.val :=
      (tioReg_of_channel _ (hreach rfl) (lt_tios_of_en hen)).trans (recal_of_enabled hen hline)
    have honly : Only [] [.TIO_STAT, .TIO_CMD] s.dev ((s.dev.calStart c.val).set F.TIO_CMD_RESULT 1 c.val) :=
      ((only_calStart s.dev c.val).weaken (by decide) (by decide)).set _ _ _ (by decide)
    refine completes_of_next rfl ⟨?_, fun _ => ?_, ?_, onDev_flash s _, onDev_pending s _⟩
    · rw [onDev_dev]
      dsimp only
      rw [hrun, flag_set_apart _ _ _ _ _ _ (by decide) (by decide)]
      exact calStart_run hen hline
    · rw [onDev_dev]
      dsimp only
      rw [hrun]
      exact get_set_same _ _ _ _ (by decide)
    · rw [onDev_dev]
      dsimp only
      rw [hrun]
      exact honly
  · have honly : Only [] [.TIO_STAT, .TIO_CMD] s.dev (s.dev.calStart c.val) := (only_calStart s.dev c.val).weaken (by decide) (by decide)
    have hexec : exec (.calibrationStart (.tio c) k) s = .next (s.onDev (·.calStart c.val)) := by
      cases k with
      | recal => exact absurd rfl hk
      | _ => rfl
    refine completes_of_next hexec ⟨?_, fun h => absurd h hk, honly, onDev_flash s _, onDev_pending s _⟩
    rw [onDev_dev]
    exact calStart_run hen hline

theorem calibrationComplete_tio (s : State) (c : TioId) (r : CalResult) (n : Nat) (hrun : s.dev.flag F.TIO_STAT_CAL_RUN c.val = true)
    (hn : n = ((calBad r).filter (fun x => !(s.dev.tioCh c.val).badTaps.contains x)).length) :
    (calUniform r = true → (s.dev.tioCh c.val).badTaps.length + n ≤ 128 →
      Completes (.calibrationComplete (.tio c) r) s (fun t => (t.dev.tioCh c.val).centres = binCentres 0 r.bins ∧
        t.dev.get F.TIO_CAL_STAT_BIN_MIN c.val = calBinMin r % 256 ∧ t.dev.get F.TIO_CAL_STAT_BIN_MAX c.val = calBinMax r % 256 ∧
        t.dev.get F.TIO_CAL_STAT_RETIRED_TAPS c.val = min 1023 (s.dev.get F.TIO_CAL_STAT_RETIRED_TAPS c.val + n) ∧
        t.dev.flag F.TIO_STAT_CAL_RUN c.val = false ∧
        t.dev.flag F.TIO_STAT_TDC_RETIRED c.val = s.dev.flag F.TIO_STAT_TDC_RETIRED c.val)) ∧
    (calUniform r = false ∨ 128 < (s.dev.tioCh c.val).badTaps.length + n →
      Completes (.calibrationComplete (.tio c) r) s (fun t =>
        t.dev.flag F.TIO_STAT_TDC_RETIRED c.val = true ∧
        t.dev.get F.TIO_CAL_STAT_RETIRED_TAPS c.val = min 1023 (s.dev.get F.TIO_CAL_STAT_RETIRED_TAPS c.val + n) ∧
        t.dev.flag F.TIO_STAT_CAL_RUN c.val = false ∧ t.dev.alarmOn .tioRetired = true)) := by
  have hlen : (newTaps r (s.dev.tioCh c.val).badTaps).length = n := hn.symm
  have hcount := tapsNoted_count (d := s.dev) (c := c.val) (newTaps r (s.dev.tioCh c.val).badTaps)
  rw [hlen] at hcount
  have hstat : ∀ (x : Dev) (f : Fld) (v : Nat), f.reg = .TIO_CAL_STAT → Only [] [.TIO_CAL_STAT] x (x.set f v c.val) :=
    fun x f v hf => Only.refl.set _ _ _ (by rw [hf]; decide)
  refine ⟨fun huni hfit => ?_, fun hbad => ?_⟩
  · refine completes_of_next rfl ?_
    rw [onDev_dev]
    dsimp only
    rw [calDone_of_run r hrun, hlen, huni, if_pos (by rw [decide_eq_true hfit]; rfl)]
    refine ⟨?_, ?_, ?_, ?_, ?_, ?_⟩
    · rw [refreshReady_centres, tioCh_of_tio (set_tio _ _ _ _), tioCh_of_tio (set_tio _ _ _ _), onTio_same]
    · rw [(only_refreshReady _ _).get _ _ (by decide), get_set_apart _ _ _ _ _ _ (by decide) (by decide), get_set_same _ _ _ _ (by decide)]
      rfl
    · rw [(only_refreshReady _ _).get _ _ (by decide), get_set_same _ _ _ _ (by decide)]
      rfl
    · rw [(only_refreshReady _ _).get _ _ (by decide), get_set_apart _ _ _ _ _ _ (by decide) (by decide),
        get_set_apart _ _ _ _ _ _ (by decide) (by decide), onTio_get, hcount]
    · rw [refreshReady_flag (by decide) lasts_calRun, (hstat _ _ _ rfl).flag _ _ (by decide), (hstat _ _ _ rfl).flag _ _ (by decide)]
      exact tapsNoted_run _
    · rw [refreshReady_flag (by decide) lasts_tdcRetired, (hstat _ _ _ rfl).flag _ _ (by decide), (hstat _ _ _ rfl).flag _ _ (by decide)]
      exact tapsNoted_flag _ _ (by decide) (by decide) (by decide) (by decide)
  · have hno : ¬ (calUniform r && decide ((s.dev.tioCh c.val).badTaps.length + n ≤ 128)) = true := by
      rw [Bool.and_eq_true_iff, decide_eq_true_eq]
      rintro ⟨huni, hfit⟩
      obtain h | h := hbad
      · rw [huni] at h
        exact absurd h.symm Bool.false_ne_true
      · omega
    refine completes_of_next rfl ?_
    rw [onDev_dev]
    dsimp only
    rw [calDone_of_run r hrun, hlen, if_neg hno]
    refine ⟨retireTdc_retired, ?_, ?_, retireTdc_alarm c.isLt⟩
    · rw [(only_retireTdc _ _).get _ _ (by decide), hcount]
    · rw [retireTdc_run]
      exact tapsNoted_run _

theorem calibrationComplete_refin (s : State) (m : RefinId) (r : CalResult) (n : Nat) (hrun : (s.dev.cand m.val).calRuns = true)
    (hn : n = ((calBad r).filter (fun x => !(s.dev.cand m.val).badTaps.contains x)).length) :
    (calUniform r = true → (s.dev.cand m.val).badTaps.length + n ≤ 128 →
      Completes (.calibrationComplete (.refin m) r) s (fun t => (t.dev.cand m.val).calRuns = false ∧
        (t.dev.cand m.val).centres = binCentres 0 r.bins ∧ (t.dev.cand m.val).badTaps.length = (s.dev.cand m.val).badTaps.length + n ∧
        (t.dev.cand m.val).retired = (s.dev.cand m.val).retired)) ∧
    (calUniform r = false ∨ 128 < (s.dev.cand m.val).badTaps.length + n →
      Completes (.calibrationComplete (.refin m) r) s (fun t => (t.dev.cand m.val).calRuns = false ∧
        (t.dev.cand m.val).retired = true)) := by
  have hlen : (newTaps r (s.dev.cand m.val).badTaps).length = n := hn.symm
  refine ⟨fun huni hfit => ?_, fun hbad => ?_⟩
  · refine completes_of_next rfl ?_
    rw [onDev_dev]
    dsimp only
    rw [refinCalDone_of_run r hrun, hlen, huni, if_pos (by rw [decide_eq_true hfit]; rfl), onCand_same, refinNoted_cand]
    refine ⟨rfl, rfl, ?_, rfl⟩
    rw [List.length_append, hlen]
  · have hno : ¬ (calUniform r && decide ((s.dev.cand m.val).badTaps.length + n ≤ 128)) = true := by
      rw [Bool.and_eq_true_iff, decide_eq_true_eq]
      rintro ⟨huni, hfit⟩
      obtain h | h := hbad
      · rw [huni] at h
        exact absurd h.symm Bool.false_ne_true
      · omega
    refine completes_of_next rfl ?_
    rw [onDev_dev]
    dsimp only
    rw [refinCalDone_of_run r hrun, hlen, if_neg hno, retireMonitor_cand_eq, refinNoted_cand]
    exact ⟨rfl, rfl⟩

/-- Settles O23: a write of TIO_CFG by the fields it stores, a calibration by the taps it counts and the table it leaves. -/
theorem tioChannelSetUp : Obligations.TioChannelSetUp := by
  unfold Obligations.TioChannelSetUp
  refine ⟨fun s c v hreach hc => ⟨tioCfgWrite_takes s c v hreach hc, fun h => tioCfgWrite_refused s c v hreach hc ((cfgRefused_iff v).2 h)⟩,
    fun s c m k r n => ⟨calibrationStart_tio s c k, ?_, mem_calBad r, ?_, calibrationComplete_tio s c r n, calibrationComplete_refin s m r n⟩⟩
  · intro hreach hc hline
    have hrun : s.dev.tioReg c.val (·.recal c.val) = s.dev.set F.TIO_CMD_RESULT 8 c.val :=
      (tioReg_of_channel _ hreach hc).trans (recal_of_retired hline)
    have honly : Only [] [.TIO_CMD] s.dev (s.dev.set F.TIO_CMD_RESULT 8 c.val) := Only.refl.set _ _ _ (by decide)
    refine completes_of_next rfl ⟨?_, ?_, onDev_flash s _, onDev_pending s _⟩
    · rw [onDev_dev]
      dsimp only
      rw [hrun]
      exact get_set_same _ _ _ _ (by decide)
    · rw [onDev_dev]
      dsimp only
      rw [hrun]
      exact honly
  · intro hk hfmt hret
    have hgo : (s.dev.refinFmt m.val != 0 && !(s.dev.cand m.val).retired) = true := by
      rw [hret, bne_iff_ne.2 hfmt]
      rfl
    have hstart : s.dev.refinCalStart m.val = s.dev.onCand m.val (fun c => { c with calRuns := true }) := by
      unfold Dev.refinCalStart
      rw [hgo, when_true]
    have hexec : exec (.calibrationStart (.refin m) k) s = .next (s.onDev (·.refinCalStart m.val)) := by
      cases k with
      | recal => exact absurd rfl hk
      | _ => rfl
    refine completes_of_next hexec ⟨?_, only_refinCalStart s.dev m.val, onDev_flash s _, onDev_pending s _⟩
    rw [onDev_dev]
    rw [hstart, onCand_same]

end Sys2Proof.Proofs

namespace Sys2Proof.Laws

open Sys2Proof.Machine Sys2Proof.Safety

variable {d e : Dev}

/-! ## Fields of GLB_HOST_STAT -/

theorem hostStat_get_same (f : Fld) (v : Nat) (h : f.lo + f.width ≤ 32) (ha : apart F.GLB_HOST_STAT_CHANGED f = true) :
    (d.hostStat f v).get f = v % 2 ^ f.width := get_setMark_same d f _ v 0 h (by decide) ha

theorem hostStat_get_apart (f g : Fld) (v : Nat) (h : f.lo + f.width ≤ 32) (hf : apart f g = true)
    (ha : apart F.GLB_HOST_STAT_CHANGED g = true) : (d.hostStat f v).get g = d.get g :=
  get_setMark_apart d f _ g v 0 0 h (by decide) hf ha

theorem hostStat_flag_same (f : Fld) (b : Bool) (h : f.lo + f.width ≤ 32) (ha : apart F.GLB_HOST_STAT_CHANGED f = true)
    (hw : f.width = 1) : (d.hostStat f (bitNat b)).flag f = b := flag_setMark_same d f _ b 0 h (by decide) ha hw

/-! ## The reset of the endpoint -/

/-- The endpoint's reset up to its writes of GLB_HOST_STAT leaves that register alone. -/
theorem endpointReset_host (d : Dev) : ∃ x : Dev, (∀ g : Fld, g.reg = .GLB_HOST_STAT → x.get g = d.get g) ∧
    endpointReset d = ((x.hostStat F.GLB_HOST_STAT_BME 0).hostStat F.GLB_HOST_STAT_MSIX_EN 0).hostStat F.GLB_HOST_STAT_D3HOT 0 := by
  have hfirst : ∀ x : Dev, Only reports (alarmRegs ++ linkResetRegs ++ [.WIDE_D]) d
      ((((d.countDev 304 (min 64 d.pcie.indQueue.length)).onPcie restartedEndpoint).each linkResetRegs
        (fun d r => d.setWord r 0 (r.resetWord 0))).each (List.range 4) (fun d i => d.setWord .WIDE_D i 0)) := by
    intro _
    refine .each (.eachMem ?_ _ _ (fun e r hr => .setWord .refl _ _ _ ?_)) _ _ (fun e i => .setWord .refl _ _ _ (by decide))
    · exact .onPcie (.countDev .refl _ _ (by decide)) _ (by decide)
    · revert r; decide
  refine ⟨_, fun g hg => (hfirst d).get g 0 ?_, rfl⟩
  rw [hg]
  decide

theorem endpointReset_get (d : Dev) (g : Fld) (hg : g.reg = .GLB_HOST_STAT) (hbme : apart F.GLB_HOST_STAT_BME g = true)
    (hmsix : apart F.GLB_HOST_STAT_MSIX_EN g = true) (hcold : apart F.GLB_HOST_STAT_D3HOT g = true)
    (hch : apart F.GLB_HOST_STAT_CHANGED g = true) : (endpointReset d).get g = d.get g := by
  obtain ⟨x, hx, hreset⟩ := endpointReset_host d
  rw [hreset, hostStat_get_apart _ _ _ (by decide) hcold hch, hostStat_get_apart _ _ _ (by decide) hmsix hch,
    hostStat_get_apart _ _ _ (by decide) hbme hch, hx g hg]

theorem endpointReset_bme (d : Dev) : (endpointReset d).get F.GLB_HOST_STAT_BME = 0 := by
  obtain ⟨x, -, hreset⟩ := endpointReset_host d
  rw [hreset, hostStat_get_apart _ _ _ (by decide) (by decide) (by decide), hostStat_get_apart _ _ _ (by decide) (by decide) (by decide)]
  exact hostStat_get_same _ _ (by decide) (by decide)

/-! ## The link going down -/

theorem only_downReported (d : Dev) : Only reports alarmRegs d
    (((d.onPcie (fun e => { e with ready := false })).countDev 305).cond .hostLinkDown true) :=
  ((Only.refl.onPcie _ (by decide)).countDev _ _ (by decide)).cond _ _ (by decide)

theorem linkDown_get (g : Fld) (hg : g.reg = .GLB_HOST_STAT) : d.linkDown.get g = (linkStatDown d).get g := by
  rw [linkDown_eq]
  exact (only_downReported _).get g 0 (by rw [hg]; decide)

theorem linkDown_up : d.linkDown.get F.GLB_HOST_STAT_LINK_UP = 0 := by
  rw [linkDown_get _ rfl]
  unfold linkStatDown
  dsimp only
  rw [get_set_apart _ _ _ _ _ _ (by decide) (by decide), hostStat_get_apart _ _ _ (by decide) (by decide) (by decide),
    hostStat_get_apart _ _ _ (by decide) (by decide) (by decide)]
  exact hostStat_get_same _ _ (by decide) (by decide)

theorem linkDown_bme : d.linkDown.get F.GLB_HOST_STAT_BME = d.get F.GLB_HOST_STAT_BME := by
  rw [linkDown_get _ rfl]
  unfold linkStatDown
  dsimp only
  rw [get_set_apart _ _ _ _ _ _ (by decide) (by decide), hostStat_get_apart _ _ _ (by decide) (by decide) (by decide),
    hostStat_get_apart _ _ _ (by decide) (by decide) (by decide), hostStat_get_apart _ _ _ (by decide) (by decide) (by decide)]

theorem linkDown_count : d.linkDown.get F.GLB_HOST_STAT_DOWN_COUNT = min 255 (d.get F.GLB_HOST_STAT_DOWN_COUNT + 1) := by
  rw [linkDown_get _ rfl]
  unfold linkStatDown
  dsimp only
  rw [get_set_same _ _ _ _ (by decide), hostStat_get_apart _ _ _ (by decide) (by decide) (by decide),
    hostStat_get_apart _ _ _ (by decide) (by decide) (by decide), hostStat_get_apart _ _ _ (by decide) (by decide) (by decide)]
  exact Nat.mod_eq_of_lt (by show min 255 _ < 256; omega)

theorem get_hostRestart (g : Fld) : d.hostRestart.get g = d.get g := congrArg (fun w : Word => bitsOf w.toNat g.lo g.width) (hostRestart_word d g.reg 0)

theorem assertPerst_of_other {c : HostResetCause} (h : c ≠ .perst) : assertPerst c d = d := by
  unfold assertPerst
  rw [beq_false_of_ne h, when_false]

theorem linkReset_hot (hpow : d.sys.powered = true) (hready : d.pcie.ready = true) :
    d.linkReset .hotReset = (endpointReset d).linkDown.hostRestart := by
  rw [linkReset_of_loss (by decide) hpow (fun h => absurd h (by decide)) (fun _ => hready), assertPerst_of_other (by decide)]

theorem linkReset_flr (hpow : d.sys.powered = true) (hready : d.pcie.ready = true) :
    d.linkReset .flr = (endpointReset d).hostRestart := by
  have hgo : ¬ (!d.sys.powered || (HostResetCause.flr == .perst && d.sys.perst) || (HostResetCause.flr != .perst && !d.pcie.ready)) = true := by
    rw [hpow, hready]
    simp
  have hup : (HostResetCause.flr != .flr) = false := by decide
  rw [linkReset_eq, if_neg hgo, assertPerst_of_other (by decide), hup, when_false]

/-! ## Messages that wait -/

theorem sendPending_endpointSansPba : endpointSansPba d.sendPending = endpointSansPba d := by
  unfold Dev.sendPending
  split
  · rfl
  · exact each_keeps d endpointSansPba _ _ (fun _ _ _ => rfl)

theorem sendPending_flag (g : Fld) (hg : g.reg = .GLB_HOST_STAT) : d.sendPending.flag g = d.flag g :=
  (only_sendPending d).flag g 0 (by rw [hg]; decide)

end Sys2Proof.Laws

namespace Sys2Proof.Proofs

open Sys2Proof.Machine Sys2Proof.Safety Sys2Proof.Laws

theorem hotReset_leaves (s : State) (src : Nat) (hpow : s.dev.sys.powered = true) (hready : s.dev.pcie.ready = true) (hne : src ≠ 0) (hlt : src < 6) :
    Completes (.hostLinkReset .hotReset) s (fun t => t.dev.pcie.ready = false ∧ t.dev.pcie.indQueue = [] ∧
      t.dev.get F.GLB_HOST_STAT_LINK_UP = 0 ∧ t.dev.get F.GLB_HOST_STAT_BME = 0 ∧ t.dev.alarmOn .hostLinkDown = true ∧
      t.dev.get F.GLB_HOST_STAT_DOWN_COUNT = min 255 (s.dev.get F.GLB_HOST_STAT_DOWN_COUNT + 1) ∧
      ((s.dev.chan src 0).st = 2 → (t.dev.chan src 0).st = 1 ∧ (t.dev.chan src 0).redeliv = true)) := by
  have hreset := linkReset_hot hpow hready
  have hend : endpointSansPba (s.dev.linkReset .hotReset) = { restartedEndpoint s.dev.pcie with ready := false } := by
    rw [hreset, hostRestart_endpointSansPba, endpointSansPba_linkDown, endpointSansPba, endpointReset_pcie]
    rfl
  have hchan : (endpointReset s.dev).linkDown.chan src 0 = s.dev.chan src 0 := by
    simp only [Dev.chan]
    rw [(only_linkDown _).part .chans (by decide), (only_endpointReset _).part .chans (by decide)]
  refine completes_of_next rfl ⟨congrArg Pcie.ready hend, congrArg Pcie.indQueue hend, ?_, ?_, ?_, ?_, fun htaken => ?_⟩
  · rw [onDev_dev, hreset, get_hostRestart, linkDown_up]
  · rw [onDev_dev, hreset, get_hostRestart, linkDown_bme, endpointReset_bme]
  · rw [onDev_dev, hreset, alarmOn_of_word _ (hostRestart_word _ _)]
    exact alarmOn_linkDown _
  · rw [onDev_dev, hreset, get_hostRestart, linkDown_count, endpointReset_get _ _ rfl (by decide) (by decide) (by decide) (by decide)]
  · rw [onDev_dev, hreset, hostRestart_chan _ _ (by decide), hchan, if_pos ⟨rfl, hne, hlt, htaken⟩]
    exact ⟨rfl, rfl⟩

theorem functionLevelReset_leaves (s : State) (hpow : s.dev.sys.powered = true) (hready : s.dev.pcie.ready = true) :
    Completes (.hostLinkReset .flr) s (fun t => t.dev.pcie.ready = true ∧ t.dev.pcie.indQueue = [] ∧
      t.dev.get F.GLB_HOST_STAT_LINK_UP = s.dev.get F.GLB_HOST_STAT_LINK_UP ∧ t.dev.get F.GLB_HOST_STAT_BME = 0) := by
  have hreset := linkReset_flr hpow hready
  have hend : endpointSansPba (s.dev.linkReset .flr) = { restartedEndpoint s.dev.pcie with pba := [] } := by
    rw [hreset, hostRestart_endpointSansPba, endpointSansPba, endpointReset_pcie]
  refine completes_of_next rfl ⟨?_, congrArg Pcie.indQueue hend, ?_, ?_⟩
  · exact (congrArg Pcie.ready hend).trans hready
  · rw [onDev_dev, hreset, get_hostRestart, endpointReset_get _ _ rfl (by decide) (by decide) (by decide) (by decide)]
  · rw [onDev_dev, hreset, get_hostRestart, endpointReset_bme]

theorem endpointReady_brings (s : State) (sp wd : Fin 8) (hpow : s.dev.sys.powered = true) (hready : s.dev.pcie.ready = false) :
    Completes (.endpointReady sp wd) s (fun t => t.dev.pcie.ready = true ∧
      t.dev.get F.GLB_HOST_STAT_LINK_UP = 1 ∧ t.dev.get F.GLB_HOST_STAT_SPEED = sp.val ∧ t.dev.get F.GLB_HOST_STAT_WIDTH = wd.val ∧
      t.dev.alarmOn .hostLinkDown = false) := by
  have hgo : ¬ (!s.dev.sys.powered || s.dev.pcie.ready) = true := by
    rw [hpow, hready]
    decide
  have hcond : ∀ x : Dev, Only reports alarmRegs x (x.cond .hostLinkDown false) := fun x => Only.refl.cond _ _ (by decide)
  have hkeep : ∀ (x : Dev) (g : Fld), g.reg = .GLB_HOST_STAT →
      (((x.onPcie (fun e => { e with ready := true })).onSys (fun y => { y with perst := false })).cond .hostLinkDown false).get g = x.get g :=
    fun x g hg => (hcond _).get g 0 (by rw [hg]; decide)
  have hup : s.dev.endpointReady sp.val wd.val =
      (((((s.dev.hostStat F.GLB_HOST_STAT_LINK_UP 1).hostStat F.GLB_HOST_STAT_SPEED sp.val).hostStat F.GLB_HOST_STAT_WIDTH wd.val).onPcie
        (fun e => { e with ready := true })).onSys (fun y => { y with perst := false })).cond .hostLinkDown false := by
    unfold Dev.endpointReady
    rw [if_neg hgo]
  refine completes_of_next rfl ?_
  rw [onDev_dev, hup]
  refine ⟨?_, ?_, ?_, ?_, alarmOn_cond_off _ _⟩
  · obtain ⟨l, hl⟩ := (report_cond ((((((s.dev.hostStat F.GLB_HOST_STAT_LINK_UP 1).hostStat F.GLB_HOST_STAT_SPEED sp.val).hostStat
      F.GLB_HOST_STAT_WIDTH wd.val).onPcie (fun e => { e with ready := true })).onSys (fun y => { y with perst := false })))
      .hostLinkDown false).pcie
    rw [hl]
    rfl
  · rw [hkeep _ _ rfl, hostStat_get_apart _ _ _ (by decide) (by decide) (by decide),
      hostStat_get_apart _ _ _ (by decide) (by decide) (by decide)]
    exact hostStat_get_same _ _ (by decide) (by decide)
  · rw [hkeep _ _ rfl, hostStat_get_apart _ _ _ (by decide) (by decide) (by decide), hostStat_get_same _ _ (by decide) (by decide)]
    exact Nat.mod_eq_of_lt sp.isLt
  · rw [hkeep _ _ rfl, hostStat_get_same _ _ (by decide) (by decide)]
    exact Nat.mod_eq_of_lt wd.isLt

theorem hostHbKick_restarts (s : State) (hstage : s.dev.stage ≠ 0) : Completes .hostHbKick s (fun t =>
    t.dev.alarmOn .hostSilent = false ∧ t.dev.pcie.hbRuns = (s.dev.get F.GLB_HOST_HB_TIMEOUT != 0)) := by
  have hkick : s.dev.globReach Dev.hbKick = s.dev.hbKick := if_neg hstage
  refine completes_of_next rfl ?_
  rw [onDev_dev, hkick]
  refine ⟨alarmOn_cond_off _ _, ?_⟩
  obtain ⟨l, hl⟩ := (report_cond { s.dev with pcie := { s.dev.pcie with hbRuns := s.dev.get F.GLB_HOST_HB_TIMEOUT != 0 } } .hostSilent false).pcie
  unfold Dev.hbKick
  rw [hl]

theorem configWrite_of_ready {d : Dev} (c : PcieCfg) (hready : d.pcie.ready = true) : ∃ x : Dev, d.configWrite c = x.sendPending ∧ (match c with
    | .busMaster on => x = d.hostStat F.GLB_HOST_STAT_BME (bitNat on)
    | .msixEnable on => x = (d.onPcie (fun e => { e with msixOn := on })).msixStat
    | .functionMask on => x = (d.onPcie (fun e => { e with funcMask := on })).msixStat
    | .vectorMask v m => x = d.msixWrite (16 * v.val + 12) (if m then 1 else 0)
    | .powerState cold => x = d.hostStat F.GLB_HOST_STAT_D3HOT (bitNat cold)
    | .barBase _ _ => True) := by
  have hgo : ¬ (!d.pcie.ready) = true := by
    rw [hready]
    decide
  unfold Dev.configWrite
  rw [if_neg hgo]
  refine ⟨_, rfl, ?_⟩
  cases c <;> trivial

theorem vectorMask_mem (d : Dev) (v : Fin 64) (on : Bool) :
    v.val ∈ (d.msixWrite (16 * v.val + 12) (if on then 1 else 0)).pcie.masks ↔ on = true := by
  have hlow : ¬ 0x400 ≤ 16 * v.val + 12 := by omega
  have hplace : (16 * v.val + 12) / 16 = v.val := by omega
  unfold Dev.msixWrite
  rw [if_neg hlow, if_pos (by omega), onPcie_pcie, hplace]
  cases on <;> simp

/-- Settles O47: the link's reset is the endpoint's reset, the link going down and the host's restart; the other clauses read
the one field of GLB_HOST_STAT or of the endpoint that the command writes. -/
theorem hostLink : Obligations.HostLink := by
  unfold Obligations.HostLink
  intro s sp wd v on src
  refine ⟨fun hpow hready _ hne hlt => ⟨hotReset_leaves s src hpow hready hne hlt, functionLevelReset_leaves s hpow hready⟩,
    endpointReady_brings s sp wd, hostHbKick_restarts s, fun hruns => ?_, fun hready => ⟨?_, ?_, ?_, ?_, ?_⟩⟩
  · refine completes_of_next rfl ?_
    rw [onDev_dev]
    rw [hruns, when_true, alarmOn_cond_true]
  · obtain ⟨x, hx, rfl⟩ := configWrite_of_ready (.busMaster on) hready
    refine completes_of_next rfl ?_
    rw [onDev_dev, hx, sendPending_flag _ rfl]
    exact hostStat_flag_same _ _ (by decide) (by decide) rfl
  · obtain ⟨x, hx, rfl⟩ := configWrite_of_ready (.msixEnable on) hready
    refine completes_of_next rfl ?_
    rw [onDev_dev, hx, sendPending_flag _ rfl]
    refine ⟨(congrArg Pcie.msixOn sendPending_endpointSansPba).trans ?_, hostStat_flag_same _ _ (by decide) (by decide) rfl⟩
    exact congrArg Pcie.msixOn (hostStat_pcie _ _)
  · obtain ⟨x, hx, rfl⟩ := configWrite_of_ready (.functionMask on) hready
    refine completes_of_next rfl ?_
    rw [onDev_dev, hx, sendPending_flag _ rfl]
    refine ⟨(congrArg Pcie.funcMask sendPending_endpointSansPba).trans ?_, hostStat_flag_same _ _ (by decide) (by decide) rfl⟩
    exact congrArg Pcie.funcMask (hostStat_pcie _ _)
  · obtain ⟨x, hx, rfl⟩ := configWrite_of_ready (.powerState on) hready
    refine completes_of_next rfl ?_
    rw [onDev_dev, hx, sendPending_flag _ rfl]
    exact hostStat_flag_same _ _ (by decide) (by decide) rfl
  · obtain ⟨x, hx, rfl⟩ := configWrite_of_ready (.vectorMask v on) hready
    refine completes_of_next rfl ?_
    rw [onDev_dev, hx]
    have hmasks : (s.dev.msixWrite (16 * v.val + 12) (if on then 1 else 0)).sendPending.pcie.masks =
        (s.dev.msixWrite (16 * v.val + 12) (if on then 1 else 0)).pcie.masks := by
      have hkept := congrArg Pcie.masks (sendPending_endpointSansPba (d := s.dev.msixWrite (16 * v.val + 12) (if on then 1 else 0)))
      exact hkept
    rw [hmasks]
    exact vectorMask_mem s.dev v on

end Sys2Proof.Proofs

namespace Sys2Proof.Laws

open Sys2Proof.Machine Sys2Proof.Safety Sys2Proof.Proofs

variable {s : State} {A : Nat}

/-! ## Which transactions are taken -/

theorem smbTake_elsewhere (k : SmbHead) (code : Nat) (f : State → State) (h : k.address ≠ s.dev.smbusAddr) : s.smbTake k code f = s := if_pos h

theorem smbTake_unacknowledged (k : SmbHead) (code : Nat) (f : State → State) (haddr : k.address = s.dev.smbusAddr)
    (h : s.dev.stage = 0 ∨ s.dev.sys.smbWrite ≠ none ∨ s.dev.sys.smbRead ≠ none ∨ k.code ≠ code) :
    s.smbTake k code f = s.onDev (·.emit .smbNack) := by
  have hno : (decide (s.dev.stage = 0) || s.dev.sys.smbWrite.isSome || s.dev.sys.smbRead.isSome || k.code != code) = true := by
    obtain h | h | h | h := h
    · rw [decide_eq_true h, Bool.true_or, Bool.true_or, Bool.true_or]
    · rw [Option.isSome_iff_ne_none.2 h, Bool.or_true, Bool.true_or, Bool.true_or]
    · rw [Option.isSome_iff_ne_none.2 h, Bool.or_true, Bool.true_or]
    · rw [bne_iff_ne.2 h, Bool.or_true]
  unfold State.smbTake
  rw [if_neg (fun hne => hne haddr), if_pos hno]

/-- A target that is free to take a transaction (R370). -/
structure SmbFree (s : State) : Prop where
  stage : s.dev.stage ≠ 0
  write : s.dev.sys.smbWrite = none
  read : s.dev.sys.smbRead = none

theorem smbTake_of_free (h : SmbFree s) (code : Nat) (pec : Bool) (f : State → State) :
    s.smbTake ⟨s.dev.smbusAddr, code, pec⟩ code f = if pec then f s else s.onDev (·.badAccess 2 2 0) := by
  have hfree : ¬ (decide (s.dev.stage = 0) || s.dev.sys.smbWrite.isSome || s.dev.sys.smbRead.isSome || code != code) = true := by
    rw [decide_eq_false h.stage, h.write, h.read, bne_self_eq_false]
    decide
  unfold State.smbTake
  dsimp only
  rw [if_neg (fun hne => hne rfl), if_neg hfree]
  cases pec <;> rfl

theorem smbTake_taken (h : SmbFree s) (code : Nat) (f : State → State) : s.smbTake ⟨s.dev.smbusAddr, code, true⟩ code f = f s :=
  (smbTake_of_free h code true f).trans (if_pos rfl)

theorem smbTake_badPec (h : SmbFree s) (code : Nat) (f : State → State) :
    s.smbTake ⟨s.dev.smbusAddr, code, false⟩ code f = s.onDev (·.badAccess 2 2 0) :=
  (smbTake_of_free h code false f).trans (if_neg Bool.false_ne_true)

/-! ## The subset -/

/-- The registers of the subset, those of ALM_LOG_W apart, read without a side effect. -/
theorem readAt_of_subset {d : Dev} {stage ofs u : Nat} {g : Reg} (hsub : smbSubset stage ofs false = true) (hat : regAt .bar0 ofs = some (g, u))
    (hlog : g ≠ .ALM_LOG_W) : d.readAt g u = (d, if d.absent g u then 0 else d.readReg g u) := by
  obtain ⟨-, hspace, hbase, hunit⟩ := regAt_some hat
  have hrange : ofs < 0x200 ∨ 0x3000 ≤ ofs ∧ ofs < 0x4000 ∨ 0xC000 ≤ ofs := by
    simp only [smbSubset, Bool.and_eq_true, Bool.or_eq_true, decide_eq_true_eq, beq_iff_eq] at hsub
    omega
  have htio : g ≠ .TIO_REC := by
    rintro rfl
    exact absurd hspace (by decide)
  have hwide : g ≠ .WIDE_D := by
    rintro rfl
    have hlt : ofs - 0x2010 < 16 := lt_extent_of_unitAt (by decide) hunit
    have hge : 0x2010 ≤ ofs := hbase
    omega
  have harea : g ≠ .RING_AREA_DATA := by
    rintro rfl
    have hlt : ofs - 0x8038 < 1 := lt_extent_of_unitAt (by decide) hunit
    have hge : 0x8038 ≤ ofs := hbase
    omega
  unfold Dev.readAt
  by_cases habs : d.absent g u = true
  · rw [if_pos habs, if_pos habs]
  · rw [if_neg habs, if_neg habs, decide_eq_false htio, decide_eq_false hlog, decide_eq_false hwide, Bool.false_and, Bool.false_and, Bool.false_and,
      if_neg Bool.false_ne_true, if_neg Bool.false_ne_true, if_neg Bool.false_ne_true, if_neg harea]

theorem smbRead_of_subset {ofs u : Nat} {g : Reg} (hsub : smbSubset s.dev.stage ofs false = true) (hat : regAt .bar0 ofs = some (g, u))
    (hlog : g ≠ .ALM_LOG_W) :
    s.smbRead ofs = (s, if s.dev.reaches false g && !g.hostOnly && !s.dev.absent g u then s.dev.readReg g u else 0) := by
  have hplace : s.dev.readPlace .smbus (regAt .bar0 ofs) =
      (s.dev, if s.dev.reaches false g && !g.hostOnly && !s.dev.absent g u then s.dev.readReg g u else 0) := by
    have hcp : (Party.smbus == .cp) = false := by decide
    have hhost : (g.hostOnly && Party.smbus != .host) = g.hostOnly := Bool.and_true _
    unfold Dev.readPlace
    rw [hat]
    dsimp only
    rw [hcp, hhost, readAt_of_subset hsub hat hlog]
    cases s.dev.reaches false g <;> cases g.hostOnly <;> cases s.dev.absent g u <;> simp
  unfold State.smbRead State.readWord
  rw [hsub, if_neg (by decide), if_neg (by decide), if_neg (by decide), if_neg (by decide), if_pos rfl]
  dsimp only
  rw [hplace]

/-- The plain registers that the SMBus target may write. -/
theorem smbWrite_of_subset {ofs u : Nat} {g : Reg} (v : Word) (hsub : smbSubset s.dev.stage ofs true = true) (hat : regAt .bar0 ofs = some (g, u))
    (hreach : s.dev.reaches false g = true) (hg : g ∈ [Reg.ALM_ENABLE, .ALM_ROUTE, .UPD_CFG, .UPD_ERASE_ADDR]) :
    s.smbWrite ofs v = s.onDev (·.store g u v) := by
  have hplain : g ∉ specialWrites ∧ g.hostOnly = false ∧ g ∈ plainRegs ∧ g ≠ .RING_CTRL ∧ g.spec.space = .bar0 ∧ g.spec.base < 0x10000 ∧
      g ≠ .GCL_W0 ∧ g ≠ .GCL_W1 := by
    clear hat hreach
    revert g
    decide
  obtain ⟨hspecial, hhost, hmem, hctrl, hspace, hbase, hfirst, hsecond⟩ := hplain
  have hpresent : s.dev.absent g u = false := by
    unfold Dev.absent
    dsimp only
    rw [hspace]
    dsimp only
    rw [decide_eq_false (by omega), decide_eq_false (by omega), decide_eq_false (by omega), beq_false_of_ne hfirst, beq_false_of_ne hsecond]
    exact Bool.and_false _
  unfold State.smbWrite
  rw [hsub, if_neg (by decide), writeBar_of_register hat hreach hpresent (by rw [hhost, Bool.false_and]) hspecial]
  exact congrArg (fun d => { s with dev := d }) (writeReg_of_plain s.dev v hmem hctrl)

/-! ## The flash window -/

theorem nvmWrite_joins (a : Nat) (v : Word) (hbar : s.nvmBarred a = false) (hbusy : s.dev.nvmBusy = false) (hpage : s.dev.sys.page = none)
    (hlast : a % 256 / 4 < 63) : ∃ l, s.nvmWrite a v = (s.onDev (·.onSys (fun y => { y with page := some (a / 256, l) })), .done) := by
  have hnot : ¬ a % 256 / 4 = 63 := by omega
  unfold State.nvmWrite
  rw [hbar, hbusy, hpage, if_neg Bool.false_ne_true, if_neg Bool.false_ne_true]
  dsimp only
  rw [if_neg hnot]
  exact ⟨_, rfl⟩

theorem nvmWrite_held (a : Nat) (v : Word) (hbar : s.nvmBarred a = false) (hbusy : s.dev.nvmBusy = true) : s.nvmWrite a v = (s, .held) := by
  unfold State.nvmWrite
  rw [hbar, hbusy, if_neg Bool.false_ne_true, if_pos rfl]

theorem smbNvm_of_recovery {a : Nat} (hstage : s.dev.stage = 8) (halign : a % 4 = 0) (hsize : a < 0x4000000) : s.smbNvm a = true := by
  unfold State.smbNvm
  rw [hstage, halign, decide_eq_true hsize]
  rfl

end Sys2Proof.Laws

namespace Sys2Proof.Proofs

open Sys2Proof.Machine Sys2Proof.Safety Sys2Proof.Laws

section
variable {s : State} {A : Nat}

/-- A transaction completes with what the target does with it. -/
theorem completes_smb {c : Instr} {k : SmbHead} {code : Nat} {f : State → State} {t : State} {Q : State → Prop}
    (hexec : exec c s = .next (s.smbTake k code f)) (htake : s.smbTake k code f = t) (h : Q t) : Completes c s Q :=
  ⟨_, hexec, by rw [htake]; exact h⟩

theorem setWidth_eq_ofNat (o : BitVec 16) : BitVec.ofNat 32 o.toNat = o.setWidth 32 := BitVec.eq_of_toNat_eq (by simp)

/-- What a logged access leaves, whatever else it emits. -/
theorem frame_badAccess (kind ofs : Nat) : FrameReported [] [.GLB_BAD_ACC, .GLB_BAD_ACC_OFS] s (s.onDev (·.badAccess 2 kind ofs)) :=
  ⟨(only_badAccess s.dev 2 kind ofs).weaken (by decide) (by decide), onDev_flash s _, onDev_pending s _⟩

theorem frame_emit (x : Emit) : Frame [.sent] [] s (s.onDev (·.emit x)) :=
  ⟨Only.refl.emit _ (by decide), onDev_flash s _, onDev_pending s _⟩

theorem frame_onSys (f : Sys → Sys) : Frame [.sys] [] s (s.onDev (·.onSys f)) :=
  ⟨Only.refl.onSys _ (by decide), onDev_flash s _, onDev_pending s _⟩

/-- The Packet Error Code of an answer, over the whole transaction (R370). -/
def answerPec (d : Dev) (code : Nat) (args : List Byte) (v : Word) : Byte :=
  BitVec.ofNat 8 (crc8 ([2 * d.smbusAddr, code, args.length] ++ args.map BitVec.toNat ++ [2 * d.smbusAddr + 1, 4] ++
    (leBytes 4 v.toNat).map BitVec.toNat))

theorem smbAnswer_eq (d : Dev) (code : Nat) (args : List Byte) (v : Word) :
    d.smbAnswer code args v = d.emit (.smbData v (answerPec d code args v)) := rfl

theorem onDev_smbAnswer (t : State) (code : Nat) (args : List Byte) (v : Word) :
    t.onDev (·.smbAnswer code args v) = t.onDev (·.emit (.smbData v (answerPec t.dev code args v))) :=
  congrArg (fun d => { t with dev := d }) (smbAnswer_eq t.dev code args v)

theorem length_leBytes (n v : Nat) : (leBytes n v).length = n := by
  induction n generalizing v with
  | zero => rfl
  | succ n ih => exact congrArg Nat.succ (ih _)

theorem smb_elsewhere (o : BitVec 16) (a v : Word) (k : SmbHead) (h : k.address ≠ s.dev.smbusAddr) :
    ∀ c ∈ [Instr.smbWriteRegister o v k, .smbReadRegister o k, .smbWriteNvm a v k, .smbReadNvm a k], Completes c s (fun t => t = s) := by
  simp only [List.forall_mem_cons]
  refine ⟨?_, ?_, ?_, ?_, fun _ h => absurd h List.not_mem_nil⟩
  all_goals exact completes_smb rfl (smbTake_elsewhere k _ _ h) rfl

theorem smb_unacknowledged (o : BitVec 16) (a v : Word) (k : SmbHead) (haddr : k.address = s.dev.smbusAddr)
    (h : s.dev.stage = 0 ∨ s.dev.sys.smbWrite ≠ none ∨ s.dev.sys.smbRead ≠ none ∨ k.code < 0x10 ∨ 0x13 < k.code) :
    ∀ c ∈ [Instr.smbWriteRegister o v k, .smbReadRegister o k, .smbWriteNvm a v k, .smbReadNvm a k],
      Completes c s (fun t => t.dev.sent = s.dev.sent ++ [.smbNack] ∧ Frame [.sent] [] s t) := by
  have hnack : ∀ (code : Nat) (f : State → State), 0x10 ≤ code → code ≤ 0x13 → s.smbTake k code f = s.onDev (·.emit .smbNack) := by
    intro code f hlo hhi
    refine smbTake_unacknowledged k code f haddr ?_
    obtain h | h | h | h := h
    · exact .inl h
    · exact .inr (.inl h)
    · exact .inr (.inr (.inl h))
    · exact .inr (.inr (.inr (by omega)))
  simp only [List.forall_mem_cons]
  refine ⟨?_, ?_, ?_, ?_, fun _ h => absurd h List.not_mem_nil⟩
  all_goals exact completes_smb rfl (hnack _ _ (by decide) (by decide)) ⟨rfl, frame_emit _⟩

theorem smb_badPec (h : SmbFree s) (o : BitVec 16) (a v : Word) : ∀ c ∈ [Instr.smbWriteRegister o v ⟨s.dev.smbusAddr, 0x10, false⟩,
      .smbReadRegister o ⟨s.dev.smbusAddr, 0x11, false⟩, .smbWriteNvm a v ⟨s.dev.smbusAddr, 0x12, false⟩,
      .smbReadNvm a ⟨s.dev.smbusAddr, 0x13, false⟩],
    Completes c s (fun t => t.dev.get F.GLB_BAD_ACC_SOURCE = 2 ∧ t.dev.get F.GLB_BAD_ACC_KIND = 2 ∧
      FrameReported [] [.GLB_BAD_ACC, .GLB_BAD_ACC_OFS] s t) := by
  have hlog : ∀ {c : Instr} {code : Nat} {f : State → State}, exec c s = .next (s.smbTake ⟨s.dev.smbusAddr, code, false⟩ code f) →
      Completes c s (fun t => t.dev.get F.GLB_BAD_ACC_SOURCE = 2 ∧ t.dev.get F.GLB_BAD_ACC_KIND = 2 ∧
        FrameReported [] [.GLB_BAD_ACC, .GLB_BAD_ACC_OFS] s t) := fun hexec =>
    completes_smb hexec (smbTake_badPec h _ _) ⟨badAccess_source s.dev _ _ (by decide), badAccess_kind s.dev _ _ (by decide), frame_badAccess _ _⟩
  simp only [List.forall_mem_cons]
  refine ⟨?_, ?_, ?_, ?_, fun _ h => absurd h List.not_mem_nil⟩
  all_goals exact hlog rfl

theorem smb_writeOutside (h : SmbFree s) (o : BitVec 16) (v : Word) (hsub : smbSubset s.dev.stage o.toNat true = false) :
    Completes (.smbWriteRegister o v ⟨s.dev.smbusAddr, 0x10, true⟩) s (fun t =>
      t.dev.get F.GLB_BAD_ACC_SOURCE = 2 ∧ t.dev.get F.GLB_BAD_ACC_KIND = 3 ∧ t.dev.word .GLB_BAD_ACC_OFS 0 = o.setWidth 32 ∧
      FrameReported [] [.GLB_BAD_ACC, .GLB_BAD_ACC_OFS] s t) := by
  have hwrite : s.smbWrite o.toNat v = s.onDev (·.badAccess 2 3 o.toNat) := by
    unfold State.smbWrite
    rw [hsub]
    rfl
  refine completes_smb rfl ((smbTake_taken h 0x10 (·.smbWrite o.toNat v)).trans hwrite) ⟨badAccess_source s.dev _ _ (by decide),
    badAccess_kind s.dev _ _ (by decide), (badAccess_offset s.dev _ _ _).trans (setWidth_eq_ofNat o), frame_badAccess _ _⟩

theorem smb_readOutside (h : SmbFree s) (o : BitVec 16) (hsub : smbSubset s.dev.stage o.toNat false = false) :
    Completes (.smbReadRegister o ⟨s.dev.smbusAddr, 0x11, true⟩) s (fun t =>
      t.dev.get F.GLB_BAD_ACC_SOURCE = 2 ∧ t.dev.get F.GLB_BAD_ACC_KIND = 3 ∧ t.dev.word .GLB_BAD_ACC_OFS 0 = o.setWidth 32 ∧
      (∃ e, t.dev.sent.getLast? = some (.smbData 0 e)) ∧ FrameReported [] [.GLB_BAD_ACC, .GLB_BAD_ACC_OFS] s t) := by
  have hread : s.smbRead o.toNat = (s.onDev (·.badAccess 2 3 o.toNat), 0) := by
    unfold State.smbRead
    rw [hsub]
    rfl
  have hanswer : (let x := s.smbRead o.toNat; x.1.onDev (·.smbAnswer 0x11 (leBytes 2 o.toNat) x.2)) =
      (s.onDev (·.badAccess 2 3 o.toNat)).onDev (·.smbAnswer 0x11 (leBytes 2 o.toNat) 0) := by
    dsimp only
    rw [hread]
  have honly : Only (reports ++ []) (alarmRegs ++ [.GLB_BAD_ACC, .GLB_BAD_ACC_OFS]) s.dev
      ((s.dev.badAccess 2 3 o.toNat).emit (.smbData 0 (answerPec (s.dev.badAccess 2 3 o.toNat) 0x11 (leBytes 2 o.toNat) 0))) :=
    ((only_badAccess s.dev 2 3 o.toNat).weaken (by decide) (by decide)).emit _ (by decide)
  refine completes_smb rfl ((smbTake_taken h 0x11
    (fun s => let x := s.smbRead o.toNat; x.1.onDev (·.smbAnswer 0x11 (leBytes 2 o.toNat) x.2))).trans hanswer) ?_
  refine ⟨?_, ?_, ?_, ?_, ?_, (onDev_flash _ _).trans (onDev_flash s _), (onDev_pending _ _).trans (onDev_pending s _)⟩
  · rw [onDev_dev, onDev_dev, smbAnswer_eq, emit_get]
    exact badAccess_source s.dev _ _ (by decide)
  · rw [onDev_dev, onDev_dev, smbAnswer_eq, emit_get]
    exact badAccess_kind s.dev _ _ (by decide)
  · rw [onDev_dev, onDev_dev, smbAnswer_eq, emit_word]
    exact (badAccess_offset s.dev _ _ _).trans (setWidth_eq_ofNat o)
  · rw [onDev_dev, onDev_dev, smbAnswer_eq]
    exact ⟨_, List.getLast?_concat⟩
  · rw [onDev_dev, onDev_dev, smbAnswer_eq]
    exact honly

theorem smb_writePlain (h : SmbFree s) (o : BitVec 16) (v : Word) {g : Reg} {u : Nat} (hsub : smbSubset s.dev.stage o.toNat true = true)
    (hat : regAt .bar0 o.toNat = some (g, u)) (hreach : s.dev.reaches false g = true) (hg : g ∈ [Reg.ALM_ENABLE, .ALM_ROUTE, .UPD_CFG, .UPD_ERASE_ADDR]) :
    Completes (.smbWriteRegister o v ⟨s.dev.smbusAddr, 0x10, true⟩) s (fun t =>
      t.dev.word g u = (s.dev.store g u v).word g u ∧ (∀ k, k ≠ u → t.dev.word g k = s.dev.word g k) ∧ Frame [] [g] s t) := by
  have hstore : Only [] [g] s.dev (s.dev.store g u v) := Only.refl.store _ _ _ List.mem_cons_self
  exact completes_smb rfl ((smbTake_taken h 0x10 (·.smbWrite o.toNat v)).trans (smbWrite_of_subset v hsub hat hreach hg))
    ⟨rfl, fun k hk => store_word_other s.dev v (fun e => hk e.2), hstore, onDev_flash s _, onDev_pending s _⟩

theorem smb_readWord (h : SmbFree s) (o : BitVec 16) (w : Word) {g : Reg} {u : Nat} (hsub : smbSubset s.dev.stage o.toNat false = true)
    (hat : regAt .bar0 o.toNat = some (g, u)) (hlog : g ≠ .ALM_LOG_W)
    (hw : w = (if s.dev.reaches false g && !g.hostOnly && !s.dev.absent g u then s.dev.readReg g u else 0)) :
    Completes (.smbReadRegister o ⟨s.dev.smbusAddr, 0x11, true⟩) s (fun t =>
      t.dev.sent = s.dev.sent ++ [.smbData w (BitVec.ofNat 8 (crc8 ([2 * s.dev.smbusAddr, 0x11, 2] ++ (leBytes 2 o.toNat).map BitVec.toNat ++
        [2 * s.dev.smbusAddr + 1, 4] ++ (leBytes 4 w.toNat).map BitVec.toNat)))] ∧ Frame [.sent] [] s t) := by
  have hread : s.smbRead o.toNat = (s, w) := (smbRead_of_subset hsub hat hlog).trans (by rw [hw])
  have hanswer : (let x := s.smbRead o.toNat; x.1.onDev (·.smbAnswer 0x11 (leBytes 2 o.toNat) x.2)) =
      s.onDev (·.emit (.smbData w (answerPec s.dev 0x11 (leBytes 2 o.toNat) w))) := by
    dsimp only
    rw [hread]
    exact onDev_smbAnswer s _ _ _
  refine completes_smb rfl ((smbTake_taken h 0x11
    (fun s => let x := s.smbRead o.toNat; x.1.onDev (·.smbAnswer 0x11 (leBytes 2 o.toNat) x.2))).trans hanswer) ⟨?_, frame_emit _⟩
  rw [onDev_dev, emit_sent, answerPec, length_leBytes]

theorem smb_recovery (h : SmbFree s) (a v : Word) (hstage : s.dev.stage = 8) (halign : a.toNat % 4 = 0) (hsize : a.toNat < 0x4000000) :
    (s.nvmBarred a.toNat = false → s.dev.nvmBusy = false → s.dev.sys.page = none → a.toNat % 256 / 4 < 63 →
      Completes (.smbWriteNvm a v ⟨s.dev.smbusAddr, 0x12, true⟩) s (fun t => Frame [.sys] [] s t ∧ ∃ l, t.dev.sys.page = some (a.toNat / 256, l))) ∧
    (s.nvmBarred a.toNat = false → s.dev.nvmBusy = true → Completes (.smbWriteNvm a v ⟨s.dev.smbusAddr, 0x12, true⟩) s (fun t =>
      t.dev.sys.smbWrite = some (a.toNat, v) ∧ t.dev.sys.page = s.dev.sys.page ∧ Frame [.sys] [] s t)) ∧
    (s.dev.nvmBusy = false → Completes (.smbReadNvm a ⟨s.dev.smbusAddr, 0x13, true⟩) s (fun t =>
      (∃ e, t.dev.sent = s.dev.sent ++ [.smbData (s.nvmRead a.toNat) e]) ∧ Frame [.sent] [] s t)) ∧
    (s.dev.nvmBusy = true → Completes (.smbReadNvm a ⟨s.dev.smbusAddr, 0x13, true⟩) s (fun t =>
      t.dev.sys.smbRead = some a.toNat ∧ Frame [.sys] [] s t)) := by
  have hnvm := smbNvm_of_recovery hstage halign hsize
  refine ⟨fun hbar hbusy hpage hlast => ?_, fun hbar hbusy => ?_, fun hbusy => ?_, fun hbusy => ?_⟩
  · obtain ⟨l, hjoin⟩ := nvmWrite_joins a.toNat v hbar hbusy hpage hlast
    have hwrite : s.smbWriteNvm a.toNat v = s.onDev (·.onSys (fun y => { y with page := some (a.toNat / 256, l) })) := by
      unfold State.smbWriteNvm
      rw [hnvm, hjoin]
      rfl
    exact completes_smb rfl ((smbTake_taken h 0x12 (·.smbWriteNvm a.toNat v)).trans hwrite) ⟨frame_onSys _, l, rfl⟩
  · have hwrite : s.smbWriteNvm a.toNat v = s.onDev (·.onSys (fun y => { y with smbWrite := some (a.toNat, v) })) := by
      unfold State.smbWriteNvm
      rw [hnvm, nvmWrite_held _ v hbar hbusy]
      rfl
    exact completes_smb rfl ((smbTake_taken h 0x12 (·.smbWriteNvm a.toNat v)).trans hwrite) ⟨rfl, rfl, frame_onSys _⟩
  · have hread : s.smbReadNvm a.toNat = s.onDev (·.smbAnswer 0x13 (leBytes 4 a.toNat) (s.nvmRead a.toNat)) := by
      unfold State.smbReadNvm
      rw [hnvm, hbusy]
      rfl
    exact completes_smb rfl ((smbTake_taken h 0x13 (·.smbReadNvm a.toNat)).trans (hread.trans (onDev_smbAnswer s _ _ _)))
      ⟨⟨_, emit_sent _ _⟩, frame_emit _⟩
  · have hread : s.smbReadNvm a.toNat = s.onDev (·.onSys (fun y => { y with smbRead := some a.toNat })) := by
      unfold State.smbReadNvm
      rw [hnvm, hbusy]
      rfl
    exact completes_smb rfl ((smbTake_taken h 0x13 (·.smbReadNvm a.toNat)).trans hread) ⟨rfl, frame_onSys _⟩

end

/-- Settles O48: which transactions the target takes, and what each of the four does once it is taken. -/
theorem smbusTarget : Obligations.SmbusTarget := by
  unfold Obligations.SmbusTarget
  rintro s o a v k A g u w rfl
  refine ⟨smb_elsewhere o a v k, smb_unacknowledged o a v k, fun hstage hwrite hread => ?_⟩
  have hfree : SmbFree s := ⟨hstage, hwrite, hread⟩
  exact ⟨smb_badPec hfree o a v, smb_writeOutside hfree o v, smb_readOutside hfree o, smb_writePlain hfree o v,
    smb_readWord hfree o w, smb_recovery hfree a v⟩

end Sys2Proof.Proofs

namespace Sys2Proof.Laws

open Sys2Proof.Machine Sys2Proof.Safety

variable {d e : Dev}

/-! ## Sets of banks as bits -/

theorem bitAt_eq_testBit (v i : Nat) : bitAt v i = v.testBit i := by
  rw [Nat.testBit_eq_decide_div_mod_eq]
  rfl

/-- Adding a bit that is clear sets it and no other. -/
theorem testBit_add_clear {x a : Nat} (h : x.testBit a = false) (k : Nat) : (2 ^ a + x).testBit k = (decide (k = a) || x.testBit k) := by
  obtain hlt | heq | hgt := Nat.lt_trichotomy k a
  · rw [Nat.testBit_two_pow_add_gt hlt, decide_eq_false (Nat.ne_of_lt hlt), Bool.false_or]
  · rw [heq, Nat.testBit_two_pow_add_eq, h, decide_eq_true rfl]
    rfl
  · rw [decide_eq_false (Nat.ne_of_gt hgt), Bool.false_or]
    have hclear : x / 2 ^ a % 2 = 0 := by
      rw [Nat.testBit_eq_decide_div_mod_eq, decide_eq_false_iff_not] at h
      omega
    have hhigh : (2 ^ a + x) / 2 ^ (a + 1) = x / 2 ^ (a + 1) := by
      rw [Nat.pow_succ, ← Nat.div_div_eq_div_mul, ← Nat.div_div_eq_div_mul, Nat.add_div_left _ (Nat.two_pow_pos a)]
      omega
    obtain ⟨j, rfl⟩ := Nat.exists_eq_add_of_lt hgt
    have hplace (y : Nat) : y.testBit (a + j + 1) = (y / 2 ^ (a + 1)).testBit j := by
      rw [Nat.testBit_div_two_pow]
      congr 1
      omega
    rw [hplace, hhigh, ← hplace]

theorem testBit_maskOf {l : List Nat} (h : l.Nodup) (k : Nat) : (maskOf l).testBit k = decide (k ∈ l) := by
  induction l generalizing k with
  | nil => simp [maskOf]
  | cons a l ih =>
    obtain ⟨ha, hl⟩ := List.nodup_cons.1 h
    have hclear : (maskOf l).testBit a = false := by
      rw [ih hl]
      exact decide_eq_false ha
    have hsum : maskOf (a :: l) = 2 ^ a + maskOf l := List.sum_cons
    rw [hsum, testBit_add_clear hclear, ih hl]
    simp [List.mem_cons]

theorem setGated_bank {l : List Nat} (hl : l.Nodup) {b : Nat} (hb : b < 32) : (d.setGated l).bankGated b = decide (b ∈ l) := by
  unfold Dev.setGated Dev.bankGated
  dsimp only
  rw [get_set_apart _ _ _ _ _ _ (by decide) (by decide), get_set_same _ _ _ _ (by decide), bitAt_eq_testBit,
    Nat.testBit_mod_two_pow, testBit_maskOf hl]
  have hb' : b < F.SW_BUF_GATED_BANKS.width := hb
  rw [decide_eq_true hb', Bool.true_and]

theorem mem_openBanks (b : Nat) : b ∈ d.openBanks ↔ b < 32 ∧ d.bankGated b = false := by
  unfold Dev.openBanks
  rw [List.mem_filter, List.mem_range, Bool.not_eq_true']

/-! ## What the banks' judgement leaves -/

/-- A field of PWR_STAT beside the drain and the count of open banks. -/
structure BesideBanks (g : Fld) : Prop where
  run : apart F.PWR_STAT_DRAIN_RUN g = true
  bank : apart F.PWR_STAT_DRAIN_BANK g = true
  count : apart F.PWR_STAT_BANKS_UNGATED g = true
  mask : apart F.SW_BUF_GATED_BANKS g = true
  reports : g.reg ∉ alarmRegs

theorem besideBanks_fast : BesideBanks F.PWR_STAT_FAST := ⟨by decide, by decide, by decide, by decide, by decide⟩
theorem besideBanks_cores : BesideBanks F.PWR_STAT_CP_CORES := ⟨by decide, by decide, by decide, by decide, by decide⟩

theorem stopDrain_get {g : Fld} (hg : BesideBanks g) (u : Nat) : d.stopDrain.get g u = d.get g u := by
  unfold Dev.stopDrain
  rw [get_set_apart _ _ _ _ _ _ (by decide) hg.bank, get_set_apart _ _ _ _ _ _ (by decide) hg.run]

theorem setGated_get {g : Fld} (hg : BesideBanks g) (l : List Nat) (u : Nat) : (d.setGated l).get g u = d.get g u := by
  unfold Dev.setGated
  dsimp only
  rw [get_set_apart _ _ _ _ _ _ (by decide) hg.count, get_set_apart _ _ _ _ _ _ (by decide) hg.mask]

theorem judgeBuf_get {g : Fld} (hg : g.reg ∉ alarmRegs) (u : Nat) : d.judgeBuf.get g u = d.get g u := (only_judgeBuf d).get g u hg

theorem judgeBanks_get {g : Fld} (hg : BesideBanks g) (u : Nat) : d.judgeBanks.get g u = d.get g u := by
  have hdrain : ∀ x : Dev, ∀ b, (x.when b Dev.stopDrain).get g u = x.get g u := fun x b => when_keeps x (·.get g u) b _ (stopDrain_get hg u)
  have hneed : ∀ (x : Dev) (f : Switch → Switch), (x.onSw f).get g u = x.get g u := fun _ _ => rfl
  unfold Dev.judgeBanks
  split
  · rfl
  · split
    · rw [judgeBuf_get hg.reports, setGated_get hg, stopDrain_get hg]
    · dsimp only
      split
      · rw [hneed, hdrain]
      · rw [judgeBuf_get hg.reports, setGated_get hg, hneed, hdrain]

theorem judgeBanks_fastOn : d.judgeBanks.fastOn = d.fastOn := by
  unfold Dev.fastOn Dev.fast
  rw [judgeBanks_get besideBanks_fast]

/-- With gating off every bank is open and none drains. -/
theorem judgeBanks_ungates (hon : d.fastOn = true) (hoff : d.flag F.PWR_GATE_CFG_BANK_GATE_EN = false) :
    d.judgeBanks.get F.SW_BUF_GATED_BANKS = 0 ∧ d.judgeBanks.flag F.PWR_STAT_DRAIN_RUN = false := by
  have hstop : d.judgeBanks = (d.stopDrain.setGated []).judgeBuf := by
    unfold Dev.judgeBanks
    rw [hon, hoff, if_neg (by decide), if_pos (by decide)]
  have hrun : d.stopDrain.get F.PWR_STAT_DRAIN_RUN = 0 := by
    unfold Dev.stopDrain
    rw [get_set_apart _ _ _ _ _ _ (by decide) (by decide), get_set_same _ _ _ _ (by decide)]
    rfl
  rw [hstop]
  refine ⟨?_, ?_⟩
  · rw [judgeBuf_get (by decide)]
    unfold Dev.setGated
    dsimp only
    rw [get_set_apart _ _ _ _ _ _ (by decide) (by decide), get_set_same _ _ _ _ (by decide)]
    rfl
  · unfold Dev.flag
    rw [judgeBuf_get (by decide)]
    unfold Dev.setGated
    dsimp only
    rw [get_set_apart _ _ _ _ _ _ (by decide) (by decide), get_set_apart _ _ _ _ _ _ (by decide) (by decide), hrun]
    rfl

/-! ## Stated latency -/

theorem tEff_of_word (h : ∀ u, e.word .PWR_LAT u = d.word .PWR_LAT u) (p : Nat) : e.tEff p = d.tEff p := by
  have hget (u : Nat) : e.get F.PWR_LAT_TOL u = d.get F.PWR_LAT_TOL u := by
    unfold Dev.get
    exact congrArg (fun w : Word => bitsOf w.toNat F.PWR_LAT_TOL.lo F.PWR_LAT_TOL.width) (h u)
  unfold Dev.tEff
  simp only [hget]

theorem tEff_lt (p : Nat) : d.tEff p < 2 ^ 16 := by
  have hfold : ∀ (l : List Nat) (m : Nat), l.foldl (fun m k => min m (d.get F.PWR_LAT_TOL (qKey p k))) m ≤ m := by
    intro l
    induction l with
    | nil => exact fun m => Nat.le_refl m
    | cons k l ih => exact fun m => (ih _).trans (Nat.min_le_left _ _)
  exact Nat.lt_of_le_of_lt (hfold _ _) (by decide)

/-- PWR_PORT_STAT.T_EFF shows the effective tolerance once it has been written. -/
theorem shows_tEff (p : Nat) : (d.set F.PWR_PORT_STAT_T_EFF (d.tEff p) p).get F.PWR_PORT_STAT_T_EFF p = d.tEff p := by
  rw [get_set_same _ _ _ _ (by decide)]
  exact Nat.mod_eq_of_lt (tEff_lt p)

theorem refreshPower_tEff (p : Nat) : (d.refreshPower p).get F.PWR_PORT_STAT_T_EFF p = (d.refreshPower p).tEff p := by
  have hsame : (d.refreshPower p).tEff p = d.tEff p := tEff_of_word (fun u => (only_refreshPower d p).word _ u (by decide)) p
  have halarm : ∀ (x : Dev) (b : Bool), Only reports alarmRegs x (x.cond .pwrPinBlocked b) := fun x b => Only.refl.cond _ _ (by decide)
  have hquad : ∀ (x : Dev) (v : Nat), Only [] [.LANE_QUAD_STAT] x (x.quadSet F.LANE_QUAD_STAT_SLEEP_OK v p) :=
    fun x v => Only.refl.quadSet _ _ _ (by decide) (by decide)
  rw [hsame]
  unfold Dev.refreshPower
  extract_lets pin allowed d1 d2 d3 d4
  rw [(halarm _ _).get _ _ (by decide), (hquad _ _).get _ _ (by decide),
    get_setMark_apart _ _ _ _ _ _ _ (by decide) (by decide) (by decide) (by decide),
    get_setMark_apart _ _ _ _ _ _ _ (by decide) (by decide) (by decide) (by decide),
    get_setMark_apart _ _ _ _ _ _ _ (by decide) (by decide) (by decide) (by decide)]
  exact shows_tEff p

theorem judgeSleep_tEff (p : Nat) : (d.judgeSleep p).get F.PWR_PORT_STAT_T_EFF p = (d.judgeSleep p).tEff p := by
  have hboth : ∀ b : Bool, (if b then (d.refreshPower p).wakeTx p else d.refreshPower p).get F.PWR_PORT_STAT_T_EFF p =
      (if b then (d.refreshPower p).wakeTx p else d.refreshPower p).tEff p := by
    intro b
    cases b with
    | false => exact refreshPower_tEff p
    | true =>
      have hwake := only_wakeTx (d.refreshPower p) p
      rw [if_pos rfl, hwake.get _ _ (by decide), tEff_of_word (fun u => hwake.word _ u (by decide)), refreshPower_tEff]
  exact hboth _

theorem latWrite_tEff (p : Nat) (t : LatTarget) (v : Word) : (d.latWrite p t v).get F.PWR_PORT_STAT_T_EFF p = (d.latWrite p t v).tEff p := by
  unfold Dev.latWrite
  extract_lets e
  split
  · have hlpll := only_judgeLpll (e.judgeSleep p) (p / 8)
    rw [hlpll.get _ _ (by decide), tEff_of_word (fun u => hlpll.word _ u (by decide)), judgeSleep_tEff]
  · have hset : Only [] [.PWR_PORT_STAT] e (e.set F.PWR_PORT_STAT_T_EFF (e.tEff p) p) := Only.refl.set _ _ _ (by decide)
    rw [tEff_of_word (fun u => hset.word _ u (by decide))]
    exact shows_tEff p

/-- What follows the store leaves the registers of the host's power settings alone. -/
theorem latWrite_get (p : Nat) (t : LatTarget) (v : Word) (g : Fld) (u : Nat) (hg : g.reg = .PWR_LAT ∨ g.reg = .PWR_PORT_CFG) :
    (d.latWrite p t v).get g u = (match t with | .lat k => d.store .PWR_LAT (qKey p k.val) v | .portCfg => d.store .PWR_PORT_CFG p v).get g u := by
  have hrest : ∀ e : Dev, (if e.fastOn then (e.judgeSleep p).judgeLpll (p / 8) else e.set F.PWR_PORT_STAT_T_EFF (e.tEff p) p).get g u = e.get g u := by
    intro e
    split
    · rw [(only_judgeLpll _ _).get g u (by obtain h | h := hg <;> rw [h] <;> decide),
        (only_judgeSleep _ _).get g u (by obtain h | h := hg <;> rw [h] <;> decide)]
    · have hset : Only [] [.PWR_PORT_STAT] e (e.set F.PWR_PORT_STAT_T_EFF (e.tEff p) p) := Only.refl.set _ _ _ (by decide)
      exact hset.get g u (by obtain h | h := hg <;> rw [h] <;> decide)
  exact hrest _

/-! ## PWR_GATE_CFG -/

/-- What a write of PWR_GATE_CFG undoes at once, up to the judgement of the banks. -/
def gateUndo (d : Dev) : Dev :=
  let d := if d.flag F.PWR_GATE_CFG_SLICE_GATE_EN then d else d.onSys (fun s => { s with slicesOff := 0 })
  let d := if d.flag F.PWR_GATE_CFG_CORE_GATE_EN then d else d.wakeCores
  if d.flag F.PWR_GATE_CFG_LPLL_STOP_EN then d else d.each (List.range 4) Dev.restartLpll

theorem gateCfgWrite_eq (v : Word) : d.gateCfgWrite v =
    if !(d.store .PWR_GATE_CFG 0 v).fastOn then d.store .PWR_GATE_CFG 0 v else (gateUndo (d.store .PWR_GATE_CFG 0 v)).judgeBanks := rfl

theorem only_gateUndo (d : Dev) : Only [.syns, .outs, .counters, .latches, .ring, .log, .pcie, .sys, .sent]
    [.ALM_ACTIVE, .ALM_LATCH, .OUT_STAT, .SYN_CMD, .SYN_STAT, .PWR_STAT] d (gateUndo d) := by
  have hslice : Only [.sys] [] d (if d.flag F.PWR_GATE_CFG_SLICE_GATE_EN then d else d.onSys (fun s => { s with slicesOff := 0 })) :=
    .ite _ .refl (Only.refl.onSys _ (by decide))
  have hcore : ∀ x : Dev, Only [.sys] [.PWR_STAT] x (if x.flag F.PWR_GATE_CFG_CORE_GATE_EN then x else x.wakeCores) :=
    fun x => .ite _ .refl (only_wakeCores x)
  have hlpll : ∀ x : Dev, Only [.syns, .outs, .counters, .latches, .ring, .log, .pcie, .sys, .sent]
      [.ALM_ACTIVE, .ALM_LATCH, .OUT_STAT, .SYN_CMD, .SYN_STAT] x
      (if x.flag F.PWR_GATE_CFG_LPLL_STOP_EN then x else x.each (List.range 4) Dev.restartLpll) :=
    fun x => .ite _ .refl (.each .refl _ _ (fun e k => only_restartLpll e k))
  exact ((hslice.weaken (by decide) (by decide)).andThen (hcore _) (by decide) (by decide)).andThen (hlpll _) (by decide) (by decide)

theorem restartLpll_sys (k : Nat) : ∃ n, (d.restartLpll k).sys = { d.sys with lpllOff := n } := by
  unfold Dev.restartLpll
  split
  · refine ⟨d.sys.lpllOff - 2 ^ k, ?_⟩
    rw [(only_startInternal _ _).sys (by decide)]
    rfl
  · exact ⟨d.sys.lpllOff, rfl⟩

/-- Restarts of LPLLs leave what else the system gates. -/
theorem restartLpll_reads {α : Type} (r : Sys → α) (hr : ∀ s n, r { s with lpllOff := n } = r s) (b : Bool) :
    r (if b then d else d.each (List.range 4) Dev.restartLpll).sys = r d.sys := by
  split
  · rfl
  · refine each_keeps d (fun x => r x.sys) _ _ (fun x k _ => ?_)
    obtain ⟨n, hn⟩ := restartLpll_sys (d := x) k
    rw [hn, hr]

theorem wakeCores_on (hon : d.fastOn = true) : d.wakeCores = (d.onSys (fun s => { s with coresOff := 0 })).set F.PWR_STAT_CP_CORES 4 := by
  unfold Dev.wakeCores
  rw [if_pos hon]

theorem gateUndo_slices (hoff : d.flag F.PWR_GATE_CFG_SLICE_GATE_EN = false) : (gateUndo d).sys.slicesOff = 0 := by
  have hwake : ∀ x : Dev, x.wakeCores.sys.slicesOff = x.sys.slicesOff := by
    intro x
    unfold Dev.wakeCores
    split
    · rw [set_sys]
      rfl
    · rfl
  unfold gateUndo
  rw [hoff, if_neg Bool.false_ne_true]
  dsimp only
  rw [restartLpll_reads (fun s => s.slicesOff) (fun _ _ => rfl)]
  split
  · rfl
  · rw [hwake]
    rfl

/-- What clearing SLICE_GATE_EN undoes. -/
def undoSlices (d : Dev) : Dev := if d.flag F.PWR_GATE_CFG_SLICE_GATE_EN then d else d.onSys (fun s => { s with slicesOff := 0 })

theorem undoSlices_get (g : Fld) (u : Nat) : (undoSlices d).get g u = d.get g u := by
  unfold undoSlices
  split
  · rfl
  · exact onSys_get _ _ _ _

theorem gateUndo_cores (hon : d.fastOn = true) (hoff : d.flag F.PWR_GATE_CFG_CORE_GATE_EN = false) :
    (gateUndo d).sys.coresOff = 0 ∧ (gateUndo d).get F.PWR_STAT_CP_CORES = 4 := by
  have hon' : (undoSlices d).fastOn = true := by
    unfold Dev.fastOn Dev.fast
    rw [undoSlices_get]
    exact hon
  have hoff' : (undoSlices d).flag F.PWR_GATE_CFG_CORE_GATE_EN = false := by
    unfold Dev.flag
    rw [undoSlices_get]
    exact hoff
  have heq : gateUndo d = if (undoSlices d).wakeCores.flag F.PWR_GATE_CFG_LPLL_STOP_EN then (undoSlices d).wakeCores
      else (undoSlices d).wakeCores.each (List.range 4) Dev.restartLpll := by
    have hdef : gateUndo d = (fun x : Dev => if x.flag F.PWR_GATE_CFG_LPLL_STOP_EN then x else x.each (List.range 4) Dev.restartLpll)
        (if (undoSlices d).flag F.PWR_GATE_CFG_CORE_GATE_EN then undoSlices d else (undoSlices d).wakeCores) := rfl
    rw [hdef, hoff', if_neg Bool.false_ne_true]
  have hlpll : ∀ x : Dev, Only [.syns, .outs, .counters, .latches, .ring, .log, .pcie, .sys, .sent]
      [.ALM_ACTIVE, .ALM_LATCH, .OUT_STAT, .SYN_CMD, .SYN_STAT] x
      (if x.flag F.PWR_GATE_CFG_LPLL_STOP_EN then x else x.each (List.range 4) Dev.restartLpll) :=
    fun x => .ite _ .refl (.each .refl _ _ (fun e k => only_restartLpll e k))
  rw [heq]
  refine ⟨?_, ?_⟩
  · rw [restartLpll_reads (fun s => s.coresOff) (fun _ _ => rfl), wakeCores_on hon', set_sys]
    rfl
  · rw [(hlpll _).get _ _ (by decide), wakeCores_on hon', get_set_same _ _ _ _ (by decide)]
    rfl

theorem gateUndo_fastOn : (gateUndo d).fastOn = d.fastOn := by
  have hlpll : ∀ x : Dev, Only [.syns, .outs, .counters, .latches, .ring, .log, .pcie, .sys, .sent]
      [.ALM_ACTIVE, .ALM_LATCH, .OUT_STAT, .SYN_CMD, .SYN_STAT] x
      (if x.flag F.PWR_GATE_CFG_LPLL_STOP_EN then x else x.each (List.range 4) Dev.restartLpll) :=
    fun x => .ite _ .refl (.each .refl _ _ (fun e k => only_restartLpll e k))
  have hwake : ∀ x : Dev, (if x.flag F.PWR_GATE_CFG_CORE_GATE_EN then x else x.wakeCores).get F.PWR_STAT_FAST = x.get F.PWR_STAT_FAST := by
    intro x
    split
    · rfl
    · unfold Dev.wakeCores
      split
      · rw [get_set_apart _ _ _ _ _ _ (by decide) (by decide)]
        exact onSys_get _ _ _ _
      · rfl
  have hget : (gateUndo d).get F.PWR_STAT_FAST = d.get F.PWR_STAT_FAST := by
    have hdef : gateUndo d = (fun x : Dev => if x.flag F.PWR_GATE_CFG_LPLL_STOP_EN then x else x.each (List.range 4) Dev.restartLpll)
        (if (undoSlices d).flag F.PWR_GATE_CFG_CORE_GATE_EN then undoSlices d else (undoSlices d).wakeCores) := rfl
    rw [hdef, (hlpll _).get _ _ (by decide), hwake, undoSlices_get]
  unfold Dev.fastOn Dev.fast
  rw [hget]

/-! ## Draining -/

/-- The bank that is drained is an open one in service with the fewest used cells. -/
theorem drainPick_least {b : Nat} (hb : b ∈ d.openBanks) (hret : d.bankRetired b = false) :
    ∃ c, d.drainPick = some c ∧ c ∈ d.openBanks ∧ d.bankRetired c = false ∧ d.bankUsed c ≤ d.bankUsed b := by
  have hmem : b ∈ d.openBanks.filter (fun b => !d.bankRetired b) := List.mem_filter.2 ⟨hb, by rw [hret]; rfl⟩
  have hused : d.bankUsed b ∈ (d.openBanks.filter (fun b => !d.bankRetired b)).map (fun b => d.bankUsed b) := List.mem_map_of_mem hmem
  unfold Dev.drainPick
  dsimp only
  cases hmin : ((d.openBanks.filter (fun b => !d.bankRetired b)).map (fun b => d.bankUsed b)).min? with
  | none =>
    rw [List.min?_eq_none_iff] at hmin
    rw [hmin] at hused
    exact absurd hused List.not_mem_nil
  | some m =>
    obtain ⟨hm, hleast⟩ := List.min?_eq_some_iff.1 hmin
    obtain ⟨x, hx, hxm⟩ := List.mem_map.1 hm
    have hbest : x ∈ (d.openBanks.filter (fun b => !d.bankRetired b)).filter (fun b => d.bankUsed b == m) :=
      List.mem_filter.2 ⟨hx, beq_iff_eq.2 hxm⟩
    have hpos := List.length_pos_of_mem hbest
    have hlt := Nat.mod_lt d.freeVal hpos
    refine ⟨_, List.getElem?_eq_getElem hlt, ?_⟩
    have hin := List.getElem_mem hlt
    obtain ⟨hin, heq⟩ := List.mem_filter.1 hin
    obtain ⟨hopen, hserv⟩ := List.mem_filter.1 hin
    refine ⟨hopen, Bool.not_eq_true' _ ▸ hserv, ?_⟩
    rw [beq_iff_eq.1 heq]
    exact hleast _ hused

end Sys2Proof.Laws

namespace Sys2Proof.Proofs

open Sys2Proof.Machine Sys2Proof.Safety Sys2Proof.Laws

theorem pwrLatWrite_takes (s : State) (p : PortId) (k : ClassId) (v : Word) (hreach : s.dev.firnReach = true) (hport : s.dev.hasPort p.val = true) :
    Completes (.pwrLatWrite p (.lat k) v) s (fun t => t.dev.get F.PWR_LAT_TOL (qKey p.val k.val) = bitsOf v.toNat 0 16 ∧
      t.dev.get F.PWR_PORT_STAT_T_EFF p.val = t.dev.tEff p.val) ∧
    Completes (.pwrLatWrite p .portCfg v) s (fun t => t.dev.get F.PWR_PORT_CFG_TX_PIN p.val = bitsOf v.toNat 0 2 ∧
      t.dev.get F.PWR_PORT_CFG_RX_SLEEP_OK p.val = bitsOf v.toNat 2 1 ∧ t.dev.get F.PWR_PORT_CFG_RX_DEEP_OK p.val = bitsOf v.toNat 3 1) := by
  have hrun : ∀ t : LatTarget, s.dev.reach (fun d => d.when (d.hasPort p.val) (·.latWrite p.val t v)) = s.dev.latWrite p.val t v := by
    intro t
    unfold Dev.reach
    rw [if_pos hreach]
    dsimp only
    rw [hport, when_true]
  refine ⟨completes_of_next rfl ?_, completes_of_next rfl ?_⟩
  · rw [onDev_dev, hrun, latWrite_get _ _ _ _ _ (.inl rfl)]
    exact ⟨store_get_free (g := F.PWR_LAT_TOL) _ v (by decide), latWrite_tEff _ _ _⟩
  · rw [onDev_dev, hrun, latWrite_get _ _ _ _ _ (.inr rfl), latWrite_get _ _ _ _ _ (.inr rfl), latWrite_get _ _ _ _ _ (.inr rfl)]
    exact ⟨store_get_free (g := F.PWR_PORT_CFG_TX_PIN) _ v (by decide), store_get_free (g := F.PWR_PORT_CFG_RX_SLEEP_OK) _ v (by decide),
      store_get_free (g := F.PWR_PORT_CFG_RX_DEEP_OK) _ v (by decide)⟩

/-- Every field of PWR_GATE_CFG is as the write stored it. -/
theorem gateCfgWrite_get (d : Dev) (v : Word) (g : Fld) (hg : g.reg = .PWR_GATE_CFG) : (d.gateCfgWrite v).get g = (d.store .PWR_GATE_CFG 0 v).get g := by
  rw [gateCfgWrite_eq]
  split
  · rfl
  · rw [(only_judgeBanks _).get g 0 (by rw [hg]; decide), (only_gateUndo _).get g 0 (by rw [hg]; decide)]

theorem pwrGateCfgWrite_takes (s : State) (v : Word) (hreach : s.dev.firnReach = true) :
    Completes (.pwrGateCfgWrite v) s (fun t => t.dev.get F.PWR_GATE_CFG_BANK_GATE_EN = bitsOf v.toNat 0 1 ∧
      t.dev.get F.PWR_GATE_CFG_SLICE_GATE_EN = bitsOf v.toNat 1 1 ∧ t.dev.get F.PWR_GATE_CFG_CORE_GATE_EN = bitsOf v.toNat 2 1 ∧
      (s.dev.fastOn = true → bitsOf v.toNat 1 1 = 0 → t.dev.sys.slicesOff = 0) ∧
      (s.dev.fastOn = true → bitsOf v.toNat 2 1 = 0 → t.dev.sys.coresOff = 0 ∧ t.dev.get F.PWR_STAT_CP_CORES = 4) ∧
      (s.dev.fastOn = true → bitsOf v.toNat 0 1 = 0 → t.dev.get F.SW_BUF_GATED_BANKS = 0 ∧ t.dev.flag F.PWR_STAT_DRAIN_RUN = false)) := by
  have hrun : s.dev.reach (·.gateCfgWrite v) = s.dev.gateCfgWrite v := if_pos hreach
  have hbank : (s.dev.store .PWR_GATE_CFG 0 v).get F.PWR_GATE_CFG_BANK_GATE_EN = bitsOf v.toNat 0 1 := store_get_free (g := F.PWR_GATE_CFG_BANK_GATE_EN) 0 v (by decide)
  have hslice : (s.dev.store .PWR_GATE_CFG 0 v).get F.PWR_GATE_CFG_SLICE_GATE_EN = bitsOf v.toNat 1 1 := store_get_free (g := F.PWR_GATE_CFG_SLICE_GATE_EN) 0 v (by decide)
  have hcore : (s.dev.store .PWR_GATE_CFG 0 v).get F.PWR_GATE_CFG_CORE_GATE_EN = bitsOf v.toNat 2 1 := store_get_free (g := F.PWR_GATE_CFG_CORE_GATE_EN) 0 v (by decide)
  have hfast : (s.dev.store .PWR_GATE_CFG 0 v).fastOn = s.dev.fastOn := by
    unfold Dev.fastOn Dev.fast
    rw [store_get_apart _ _ _ (by decide)]
  have hjudged : s.dev.fastOn = true → s.dev.gateCfgWrite v = (gateUndo (s.dev.store .PWR_GATE_CFG 0 v)).judgeBanks := by
    intro hon
    rw [gateCfgWrite_eq, hfast, hon]
    exact if_neg (by decide)
  have hclear : ∀ (g : Fld) (x : Dev), x.get g = 0 → x.flag g = false := by
    intro g x h
    unfold Dev.flag
    rw [h]
    rfl
  refine completes_of_next rfl ?_
  rw [onDev_dev, hrun, gateCfgWrite_get _ _ _ rfl, gateCfgWrite_get _ _ _ rfl, gateCfgWrite_get _ _ _ rfl]
  refine ⟨hbank, hslice, hcore, fun hon hoff => ?_, fun hon hoff => ?_, fun hon hoff => ?_⟩
  · rw [hjudged hon, (only_judgeBanks _).sys (by decide)]
    exact gateUndo_slices (hclear _ _ (hslice.trans hoff))
  · obtain ⟨hcores, hcount⟩ := gateUndo_cores (hfast.trans hon) (hclear _ _ (hcore.trans hoff))
    rw [hjudged hon, (only_judgeBanks _).sys (by decide), judgeBanks_get besideBanks_cores]
    exact ⟨hcores, hcount⟩
  · rw [hjudged hon]
    refine judgeBanks_ungates (gateUndo_fastOn.trans (hfast.trans hon)) ?_
    rw [(only_gateUndo _).flag _ _ (by decide)]
    exact hclear _ _ (hbank.trans hoff)

theorem lpllStop_stops (s : State) (g : Fin 4) (hon : s.dev.fastOn = true) (hen : s.dev.flag F.PWR_GATE_CFG_LPLL_STOP_EN = true)
    (hthaw : s.dev.flag F.TB_HB_STAT_FROZEN = false) (hruns : (s.dev.syn (5 + g.val)).runs = true)
    (hdeep : ∀ q ∈ s.dev.groupUsed g.val, s.dev.portDeep q = true) (htol : s.dev.groupTolerates g.val = true) :
    Completes (.lpllStop g) s (fun t => (t.dev.syn (5 + g.val)).runs = false ∧ t.dev.sys.lpllOff = s.dev.sys.lpllOff + 2 ^ g.val) := by
  have hall : (s.dev.groupUsed g.val).all (fun p => s.dev.portDeep p) = true := List.all_eq_true.2 hdeep
  have hstop : s.dev.lpllStop g.val =
      ((s.dev.stopSyn (5 + g.val)).onSys (fun y => { y with lpllOff := y.lpllOff + 2 ^ g.val })).countDev 283 := by
    unfold Dev.lpllStop
    rw [hon, hen, hthaw, hruns, hall, htol]
    exact if_neg (by decide)
  have hcount : ∀ x : Dev, Only reports alarmRegs x (x.countDev 283) := fun x => Only.refl.countDev _ _ (by decide)
  refine completes_of_next rfl ?_
  rw [onDev_dev, hstop, (hcount _).sys (by decide), (hcount _).syn (by decide)]
  refine ⟨(stopSyn_stopped (d := s.dev) (i := 5 + g.val)).1, ?_⟩
  have hsys := (only_stopSyn s.dev (5 + g.val)).sys (by decide)
  have hput : ((s.dev.stopSyn (5 + g.val)).onSys (fun y => { y with lpllOff := y.lpllOff + 2 ^ g.val })).sys.lpllOff =
      (s.dev.stopSyn (5 + g.val)).sys.lpllOff + 2 ^ g.val := rfl
  rw [hput, hsys]

theorem bankDrainStart_picks (s : State) {e : Dev} {b : Nat} (hon : s.dev.fastOn = true) (he : e = s.dev.judgeBanks)
    (hen : e.flag F.PWR_GATE_CFG_BANK_GATE_EN = true) (hneed : e.bankNeed < e.openBanks.length) (hmay : e.mayGate = true)
    (hrun : e.flag F.PWR_STAT_DRAIN_RUN = false) (hb : b ∈ e.openBanks) (hret : e.bankRetired b = false) :
    Completes .bankDrainStart s (fun t => t.dev.flag F.PWR_STAT_DRAIN_RUN = true ∧ t.dev.get F.PWR_STAT_DRAIN_BANK ∈ e.openBanks ∧
      e.bankRetired (t.dev.get F.PWR_STAT_DRAIN_BANK) = false ∧
      e.bankUsed (t.dev.get F.PWR_STAT_DRAIN_BANK) ≤ e.bankUsed b ∧ t.dev.sw = e.sw) := by
  have hfast : e.fastOn = true := by rw [he, judgeBanks_fastOn, hon]
  obtain ⟨c, hpick, hopen, hserv, hleast⟩ := drainPick_least hb hret
  have hstart : s.dev.drainStart = (((e.set F.PWR_STAT_DRAIN_BANK c).set F.PWR_STAT_DRAIN_RUN 1).countDev 285).spendFree := by
    unfold Dev.drainStart
    rw [← he]
    dsimp only
    rw [hfast, hen, hrun, decide_eq_false (Nat.not_le.2 hneed), hmay, hpick]
    exact if_neg (by decide)
  have hcount : ∀ x : Dev, Only (reports ++ [.freeCtr]) alarmRegs x (x.countDev 285).spendFree :=
    fun x => (Only.refl.countDev _ _ (by decide)).spendFree (by decide)
  have hbank : (((e.set F.PWR_STAT_DRAIN_BANK c).set F.PWR_STAT_DRAIN_RUN 1).countDev 285).spendFree.get F.PWR_STAT_DRAIN_BANK = c := by
    rw [(hcount _).get _ _ (by decide), get_set_apart _ _ _ _ _ _ (by decide) (by decide), get_set_same _ _ _ _ (by decide)]
    exact Nat.mod_eq_of_lt ((mem_openBanks c).1 hopen).1
  refine completes_of_next rfl ?_
  rw [onDev_dev, hstart, hbank]
  refine ⟨?_, hopen, hserv, hleast, ?_⟩
  · rw [(hcount _).flag _ _ (by decide)]
    exact flag_setB_same _ F.PWR_STAT_DRAIN_RUN true _ (by decide) rfl
  · rw [(hcount _).part .sw (by decide), set_sw, set_sw]

theorem bankGated_gates (s : State) {e : Dev} {b : Nat} (he : e = s.dev.judgeBanks)
    (hneed : e.bankNeed < e.openBanks.length) (hmay : e.mayGate = true)
    (hrun : e.flag F.PWR_STAT_DRAIN_RUN = true) (hb : e.get F.PWR_STAT_DRAIN_BANK = b) (hempty : e.bankUsed b = 0) (hret : e.bankRetired b = false)
    (hopen : e.bankGated b = false) :
    Completes .bankGated s (fun t => t.dev.bankGated b = true ∧ t.dev.flag F.PWR_STAT_DRAIN_RUN = false ∧
      ∀ c < 32, c ≠ b → t.dev.bankGated c = e.bankGated c) := by
  have hlt : b < 32 := hb ▸ bitsOf_lt _ _ _
  have hmask : e.stopDrain.gatedBanks = e.gatedBanks := by
    have hgated : ∀ c, e.stopDrain.bankGated c = e.bankGated c := fun c => by
      unfold Dev.bankGated
      rw [(only_stopDrain e).get _ _ (by decide)]
    unfold Dev.gatedBanks
    simp only [hgated]
  have hgate : s.dev.bankGatedNow = ((e.stopDrain.setGated (e.gatedBanks ++ [b])).countDev 284).judgeBuf := by
    unfold Dev.bankGatedNow
    rw [← he]
    dsimp only
    rw [hb, hrun, decide_eq_false (Nat.not_le.2 hneed), hempty, hret, hmay]
    exact if_neg (by decide)
  have hreport : ∀ x : Dev, Only reports alarmRegs x (x.countDev 284).judgeBuf :=
    fun x => (Only.refl.countDev _ _ (by decide)).andThen (only_judgeBuf _) (by decide) (by decide)
  have hnodup : (e.gatedBanks ++ [b]).Nodup := by
    rw [List.nodup_append]
    refine ⟨List.nodup_range.filter _, List.nodup_singleton b, fun x hx y hy => ?_⟩
    obtain ⟨-, hx⟩ := List.mem_filter.1 hx
    rintro rfl
    rw [List.mem_singleton.1 hy, hopen] at hx
    exact absurd hx Bool.false_ne_true
  have hbank : ∀ c < 32, s.dev.bankGatedNow.bankGated c = decide (c ∈ e.gatedBanks ++ [b]) := by
    intro c hc
    rw [hgate, ← setGated_bank (d := e.stopDrain) hnodup hc]
    unfold Dev.bankGated
    rw [(hreport _).get _ _ (by decide)]
  refine completes_of_next rfl ?_
  rw [onDev_dev]
  refine ⟨?_, ?_, fun c hc hne => ?_⟩
  · rw [hbank b hlt]
    exact decide_eq_true (List.mem_append_right _ List.mem_cons_self)
  · rw [hgate, (hreport _).flag _ _ (by decide)]
    unfold Dev.flag Dev.setGated Dev.stopDrain
    dsimp only
    rw [get_set_apart _ _ _ _ _ _ (by decide) (by decide), get_set_apart _ _ _ _ _ _ (by decide) (by decide),
      get_set_apart _ _ _ _ _ _ (by decide) (by decide), get_set_same _ _ _ _ (by decide)]
    rfl
  · rw [hbank c hc]
    have hmem : c ∈ e.gatedBanks ++ [b] ↔ e.bankGated c = true := by
      rw [List.mem_append, List.mem_singleton, Dev.gatedBanks, List.mem_filter, List.mem_range]
      simp [hne, hc]
    cases h : e.bankGated c
    · exact decide_eq_false (fun hin => absurd (hmem.1 hin) (by rw [h]; exact Bool.false_ne_true))
    · exact decide_eq_true (hmem.2 h)

theorem sliceGate_gates (s : State) (sl : Fin 16) (hon : s.dev.fastOn = true) (hen : s.dev.flag F.PWR_GATE_CFG_SLICE_GATE_EN = true)
    (hcfg : s.dev.flag F.SW_ST_SLICE_CFG_EN sl.val = false) (hpair : bitAt (s.dev.get F.SW_ST_PAIR_PAIRED) (sl.val / 2) = false)
    (hkey : ∀ u ∈ unitsOf s.dev.regs .ST_K, u / 8192 ≠ sl.val) (hmask : ∀ u ∈ unitsOf s.dev.regs .ST_M, u / 8192 ≠ sl.val)
    (hact : ∀ u ∈ unitsOf s.dev.regs .ST_A, u / 4096 ≠ sl.val) (hoff : bitAt s.dev.sys.slicesOff sl.val = false) :
    Completes (.sliceGate sl) s (fun t => t.dev.sys.slicesOff = s.dev.sys.slicesOff + 2 ^ sl.val ∧ Frame [.sys] [] s t) := by
  have hempty : ([Reg.ST_K, Reg.ST_M].all (fun r => (unitsOf s.dev.regs r).all (fun u => u / 8192 != sl.val)) &&
      (unitsOf s.dev.regs .ST_A).all (fun u => u / 4096 != sl.val)) = true := by
    simp only [List.all_cons, List.all_nil, Bool.and_true, Bool.and_eq_true, List.all_eq_true, bne_iff_ne]
    exact ⟨⟨hkey, hmask⟩, hact⟩
  have hgate : s.dev.sliceGate sl.val = s.dev.onSys (fun y => { y with slicesOff := y.slicesOff + 2 ^ sl.val }) := by
    unfold Dev.sliceGate
    dsimp only
    rw [hempty, hon, hen, hcfg, hpair, hoff]
    exact if_neg (by decide)
  have honly : Only [.sys] [] s.dev (s.dev.onSys (fun y => { y with slicesOff := y.slicesOff + 2 ^ sl.val })) := Only.refl.onSys _ (by decide)
  refine completes_of_next rfl ⟨?_, ?_, onDev_flash s _, onDev_pending s _⟩
  · rw [onDev_dev, hgate]
    rfl
  · rw [onDev_dev, hgate]
    exact honly

theorem coreIdleGate_gates (s : State) (core : Fin 3) (hon : s.dev.fastOn = true) (hen : s.dev.flag F.PWR_GATE_CFG_CORE_GATE_EN = true)
    (hruns : s.dev.sys.cpStopped = false) (hoff : bitAt s.dev.sys.coresOff (core.val + 1) = false) :
    Completes (.coreIdleGate core) s (fun t => t.dev.sys.coresOff = s.dev.sys.coresOff + 2 ^ (core.val + 1) ∧
      t.dev.get F.PWR_STAT_CP_CORES = s.dev.get F.PWR_STAT_CP_CORES - 1 ∧ Frame [.sys] [.PWR_STAT] s t) := by
  have hgate : s.dev.coreGate (core.val + 1) = (s.dev.onSys (fun y => { y with coresOff := y.coresOff + 2 ^ (core.val + 1) })).set
      F.PWR_STAT_CP_CORES (s.dev.get F.PWR_STAT_CP_CORES - 1) := by
    unfold Dev.coreGate
    rw [hon, hen, hruns, hoff]
    exact if_neg (by decide)
  have honly : Only [.sys] [.PWR_STAT] s.dev ((s.dev.onSys (fun y => { y with coresOff := y.coresOff + 2 ^ (core.val + 1) })).set
      F.PWR_STAT_CP_CORES (s.dev.get F.PWR_STAT_CP_CORES - 1)) := (Only.refl.onSys _ (by decide)).set _ _ _ (by decide)
  refine completes_of_next rfl ⟨?_, ?_, ?_, onDev_flash s _, onDev_pending s _⟩
  · rw [onDev_dev, hgate, set_sys]
    rfl
  · rw [onDev_dev, hgate, get_set_same _ _ _ _ (by decide)]
    exact Nat.mod_eq_of_lt (Nat.lt_of_le_of_lt (Nat.sub_le _ _) (bitsOf_lt _ _ _))
  · rw [onDev_dev, hgate]
    exact honly

theorem inputMonitorRefresh_shows (s : State) (vin pin temp : BitVec 16) :
    Completes (.inputMonitorRefresh vin pin temp) s (fun t => t.dev.get F.PWR_INPUT_VIN = vin.toNat ∧ t.dev.get F.PWR_INPUT_PIN = pin.toNat ∧
      t.dev.get F.GLB_HEALTH_DIE_TEMP = temp.toNat ∧ t.dev.get F.GLB_HEALTH_PIN = pin.toNat ∧ t.dev.sys.dieTemp = temp.toInt ∧
      Frame [.sys] [.PWR_INPUT, .GLB_HEALTH] s t) := by
  have hinput : ∀ (x : Dev) (g : Fld), g.reg = .PWR_INPUT → (((x.onSys (fun y => { y with dieTemp := temp.toInt, tempMax := max y.tempMax temp.toInt })).set
      F.GLB_HEALTH_DIE_TEMP temp.toNat).set F.GLB_HEALTH_PIN pin.toNat).get g = x.get g := by
    intro x g hg
    have honly : Only [.sys] [.GLB_HEALTH] x (((x.onSys (fun y => { y with dieTemp := temp.toInt, tempMax := max y.tempMax temp.toInt })).set
      F.GLB_HEALTH_DIE_TEMP temp.toNat).set F.GLB_HEALTH_PIN pin.toNat) :=
      ((Only.refl.onSys _ (by decide)).set _ _ _ (by decide)).set _ _ _ (by decide)
    exact honly.get g 0 (by rw [hg]; decide)
  have honly : Only [.sys] [.PWR_INPUT, .GLB_HEALTH] s.dev (s.dev.inputRefresh vin pin temp) := by
    unfold Dev.inputRefresh
    exact ((((Only.refl.set _ _ _ (by decide)).set _ _ _ (by decide)).onSys _ (by decide)).set _ _ _ (by decide)).set _ _ _ (by decide)
  refine completes_of_next rfl ⟨?_, ?_, ?_, ?_, ?_, honly, onDev_flash s _, onDev_pending s _⟩
  · rw [onDev_dev]
    unfold Dev.inputRefresh
    dsimp only
    rw [hinput _ _ rfl, get_set_apart _ _ _ _ _ _ (by decide) (by decide), get_set_same _ _ _ _ (by decide)]
    exact Nat.mod_eq_of_lt vin.isLt
  · rw [onDev_dev]
    unfold Dev.inputRefresh
    dsimp only
    rw [hinput _ _ rfl, get_set_same _ _ _ _ (by decide)]
    exact Nat.mod_eq_of_lt pin.isLt
  · rw [onDev_dev]
    unfold Dev.inputRefresh
    dsimp only
    rw [get_set_apart _ _ _ _ _ _ (by decide) (by decide), get_set_same _ _ _ _ (by decide)]
    exact Nat.mod_eq_of_lt temp.isLt
  · rw [onDev_dev]
    unfold Dev.inputRefresh
    dsimp only
    rw [get_set_same _ _ _ _ (by decide)]
    exact Nat.mod_eq_of_lt pin.isLt
  · rw [onDev_dev]
    unfold Dev.inputRefresh
    dsimp only
    rw [set_sys, set_sys]
    rfl

/-- Settles O39: each power command by the register or mask that it writes, the drained bank by the choice of the least used. -/
theorem powerManagement : Obligations.PowerManagement := by
  unfold Obligations.PowerManagement
  intro s p k v g e b sl core vin pin temp
  refine ⟨pwrLatWrite_takes s p k v, pwrGateCfgWrite_takes s v, lpllStop_stops s g, fun hon he hen hneed hmay => ⟨?_, ?_⟩,
    sliceGate_gates s sl, coreIdleGate_gates s core, inputMonitorRefresh_shows s vin pin temp⟩
  · exact fun hrun hb hret => bankDrainStart_picks s hon he hen hneed hmay hrun hb hret
  · exact fun hrun hb hempty hret hopen => bankGated_gates s he hneed hmay hrun hb hempty hret hopen

end Sys2Proof.Proofs

/-! SUPPORT. Laws of the boot header, of fallback and of the module reset. -/

namespace Sys2Proof.Laws

open Sys2Proof.Machine Sys2Proof.Safety

/-! ## Flash that agrees on a range -/

theorem flashBytes_congr {m m' : List Host.Cell} {a n : Nat} (h : ∀ i, a ≤ i → i < a + n → flashByte m' i = flashByte m i) :
    flashBytes m' a n = flashBytes m a n := by
  induction n generalizing a with
  | zero => rfl
  | succ n ih =>
    rw [flashBytes, flashBytes, h a (by omega) (by omega), ih (fun i hi hj => h i (by omega) (by omega))]

theorem flashNat_congr {m m' : List Host.Cell} {a n : Nat} (h : ∀ i, a ≤ i → i < a + n → flashByte m' i = flashByte m i) :
    flashNat m' a n = flashNat m a n := congrArg leNat (flashBytes_congr h)

/-! ## The copies of the boot header -/

/-- Two flashes read the same in the 72 bytes of a copy of the boot header. -/
def SameCopy (m m' : List Host.Cell) (c : Nat) : Prop :=
  ∀ i, hdrBase c ≤ i → i < hdrBase c + 72 → flashByte m' i = flashByte m i

variable {m m' : List Host.Cell} {c : Nat}

theorem SameCopy.nat (h : SameCopy m m' c) {k n : Nat} (hk : k + n ≤ 72) :
    flashNat m' (hdrBase c + k) n = flashNat m (hdrBase c + k) n :=
  flashNat_congr fun i hi hj => h i (by omega) (by omega)

theorem hdrValid_congr (h : SameCopy m m' c) : hdrValid m' c = hdrValid m c := by
  have hbytes : flashBytes m' (hdrBase c) 60 = flashBytes m (hdrBase c) 60 :=
    flashBytes_congr fun i hi hj => h i hi (by omega)
  have hmagic : flashNat m' (hdrBase c) 4 = flashNat m (hdrBase c) 4 :=
    flashNat_congr fun i hi hj => h i hi (by omega)
  have hcrc : flashNat m' (hdrBase c + 60) 4 = flashNat m (hdrBase c + 60) 4 := h.nat (by decide)
  unfold hdrValid crcHolds
  rw [hmagic, hbytes, hcrc]

theorem hdrRead_congr (h : SameCopy m m' c) : hdrRead m' c = hdrRead m c := by
  simp (disch := decide) only [hdrRead, h.nat]

/-! ## Writing a header -/

/-- The copy that the next header goes to. -/
def spareCopy (m : List Host.Cell) : Nat := match hdrCopy m with | some 0 => 1 | _ => 0

theorem hdrWrite_eq (m : List Host.Cell) (h : Header) : hdrWrite m h =
    flashWrite (flashErase m (hdrBase (spareCopy m)) 0x10000) (hdrBase (spareCopy m))
      ({ h with gen := (hdrNow m).gen + 1 } : Header).bytes := rfl

theorem length_headerBytes (h : Header) : h.bytes.length = 64 := by
  simp [Header.bytes, leBytes]

theorem flashByte_hdrWrite (m : List Host.Cell) (h : Header) {a : Nat}
    (ha : a < hdrBase (spareCopy m) ∨ hdrBase (spareCopy m) + 0x10000 ≤ a) :
    flashByte (hdrWrite m h) a = flashByte m a := by
  rw [hdrWrite_eq, flashByte_write, length_headerBytes, if_neg (by omega), flashByte_erase, if_neg (by omega)]

/-- GENERATION is held in four bytes. -/
theorem hdrRead_gen_lt (m : List Host.Cell) (c : Nat) : (hdrRead m c).gen < 2 ^ 32 := by
  show leNat (flashBytes m _ 4) < _
  simp only [flashBytes, leNat, List.foldr]
  omega

/-- With the highest GENERATION in copy A, the header that is written next does not come into force: it wraps. -/
theorem hdrNow_hdrWrite_of_last (h : Header) (hcopy : hdrCopy m = some 0) (hgen : (hdrRead m 0).gen = 2 ^ 32 - 1) :
    hdrNow (hdrWrite m h) = hdrNow m := by
  have hsame : SameCopy m (hdrWrite m h) 0 := fun i _ hi => flashByte_hdrWrite m h (.inl (by
    rw [spareCopy, hcopy]
    simp only [hdrBase] at hi ⊢
    omega))
  have hvalid : hdrValid m 0 = true := by
    by_contra hbad
    rw [hdrCopy, if_neg hbad] at hcopy
    split at hcopy <;> simp at hcopy
  have hcopy' : hdrCopy (hdrWrite m h) = some 0 := by
    have hle := hdrRead_gen_lt (hdrWrite m h) 1
    have hgen' : (hdrRead (hdrWrite m h) 0).gen = 2 ^ 32 - 1 := by rw [hdrRead_congr hsame, hgen]
    have holder : ¬ (hdrRead (hdrWrite m h) 0).gen < (hdrRead (hdrWrite m h) 1).gen := by omega
    rw [hdrCopy, if_pos ((hdrValid_congr hsame).trans hvalid), decide_eq_false holder, Bool.and_false, if_neg (by decide)]
  rw [hdrNow, hdrNow, hcopy, hcopy']
  exact hdrRead_congr hsame

/-! ## Cut-off of flash work and the module reset -/

variable {s : State}

/-- With no work on the flash there is nothing to cut off. -/
theorem cutFlash_of_idle (he : s.dev.sys.eraseAt = none) (hp : s.dev.sys.progPage = none) : s.cutFlash = s := by
  simp [State.cutFlash, he, hp]

theorem moduleReset_flash (he : s.dev.sys.eraseAt = none) (hp : s.dev.sys.progPage = none) (cause : Nat) :
    (s.moduleReset cause).flash = s.flash := by
  rw [State.moduleReset, cutFlash_of_idle he hp, onDev_flash]

/-! ## Fallback -/

/-- The header that a fallback writes (R345). -/
def fallenBack (h : Header) (cause : Nat) : Header :=
  { h with bundleSel := h.prevBundle, configSel := h.prevConfig, state := 3, failCause := cause }

/-- A fallback once the header is written and reported, before the images return. -/
def fallbackBegun (s : State) (cause : Nat) : State :=
  (({ s with flash := hdrWrite s.flash (fallenBack (hdrNow s.flash) cause) } : State).refreshUpd).onDev (fun d =>
    let d := ((d.raise .fwFallback).countDev 299).devEvent true (0x140 + cause) 0
    ((d.showStep 9).set F.UPD_CONFIRM_LEFT_LEFT 0).onSys (fun y =>
      { y with winLeft := 0, updBack := (hdrNow s.flash).mode == 1, updStep := 0 }))

theorem fallback_eq (s : State) (cause : Nat) : s.fallback cause =
    if (hdrNow s.flash).mode = 1 then (fallbackBegun s cause).beginBack 2 else (fallbackBegun s cause).moduleReset 2 := rfl

theorem fallback_of_restart (cause : Nat) (h : (hdrNow s.flash).mode ≠ 1) :
    s.fallback cause = (fallbackBegun s cause).moduleReset 2 := (fallback_eq s cause).trans (if_neg h)

theorem fallback_of_live (cause : Nat) (h : (hdrNow s.flash).mode = 1) :
    s.fallback cause = (fallbackBegun s cause).beginBack 2 := (fallback_eq s cause).trans (if_pos h)

theorem fallbackBegun_flash (s : State) (cause : Nat) :
    (fallbackBegun s cause).flash = hdrWrite s.flash (fallenBack (hdrNow s.flash) cause) := by
  rw [fallbackBegun, onDev_flash, State.refreshUpd, onDev_flash]

theorem only_refreshUpd (s : State) : Only [] [.UPD_STAT] s.dev s.refreshUpd.dev :=
  .set (.setMark .refl _ _ _ _ (by decide) (by decide)) _ _ _ (by decide)

/-- A fallback's beginning changes nothing of the system's own state but the window, the direction and the step. -/
theorem fallbackBegun_sys (s : State) (cause : Nat) : (fallbackBegun s cause).dev.sys =
    { s.dev.sys with winLeft := 0, updBack := (hdrNow s.flash).mode == 1, updStep := 0 } := by
  have hreport (d : Dev) : Only reports (alarmRegs ++ [.UPD_STAT, .UPD_CONFIRM_LEFT]) d
      (((((d.raise .fwFallback).countDev 299).devEvent true (0x140 + cause) 0).showStep 9).set F.UPD_CONFIRM_LEFT_LEFT 0) :=
    .set (.showStep (.devEvent (.countDev (.raise .refl _ (by decide)) _ _ (by decide)) _ _ _ _ (by decide)) _ (by decide) (by decide)) _ _ _
      (by decide)
  have hsys (d : Dev) := (hreport d).sys (by decide)
  unfold fallbackBegun
  rw [onDev_dev]
  dsimp only
  rw [onSys_sys, hsys, (only_refreshUpd _).sys (by decide)]

theorem fallback_flash_of_restart (cause : Nat) (h : (hdrNow s.flash).mode ≠ 1) (he : s.dev.sys.eraseAt = none)
    (hp : s.dev.sys.progPage = none) : (s.fallback cause).flash = hdrWrite s.flash (fallenBack (hdrNow s.flash) cause) := by
  rw [fallback_of_restart cause h, moduleReset_flash (by rw [fallbackBegun_sys]; exact he) (by rw [fallbackBegun_sys]; exact hp)]
  exact fallbackBegun_flash s cause

end Sys2Proof.Laws

/-! The steps of a live update (13_firmware_update.md). -/

namespace Sys2Proof.Proofs

open Sys2Proof.Machine Sys2Proof.Safety Sys2Proof.Laws

/-- A confirmed header for bundle slot 0 with the highest GENERATION. -/
def lastHeader : Header := { Header.lost with gen := 2 ^ 32 - 1 }

/-- A flash that holds that header as copy A and no bundle. -/
@[irreducible] def lastFlash : List Host.Cell := flashWrite [] 0 lastHeader.bytes

/-- Step 5 of a forward live update, after the handover. -/
def stepFive : State := ⟨State.reset.dev.onSys (fun y => { y with updStep := 5 }) |>.onTwin (fun w => { w with updMoved := true }),
  lastFlash, []⟩

theorem stepFive_flash : stepFive.flash = lastFlash := rfl

theorem lastFlash_copy : hdrCopy lastFlash = some 0 := by decide +kernel
theorem lastFlash_read : hdrRead lastFlash 0 = lastHeader := by decide +kernel
theorem lastFlash_now : hdrNow lastFlash = lastHeader := by
  rw [hdrNow, lastFlash_copy]
  exact lastFlash_read

theorem lastFlash_noBundle : bundleHdrOk lastFlash 0 = false := by decide +kernel

theorem only_enterStep (d : Dev) (k : Nat) : Only [.sys] [.UPD_STAT] d (d.enterStep k) :=
  .showStep (.onSys .refl _ (by decide)) _ (by decide) (by decide)

theorem enterStep_sys (d : Dev) (k : Nat) : (d.enterStep k).sys = { d.sys with updStep := k } := by
  have hshow (e : Dev) (v : Nat) := (only_showStep e v).sys (by decide)
  unfold Dev.enterStep
  rw [hshow, onSys_sys]

theorem enterStep_imageGood (s : State) (k slot t : Nat) :
    (s.onDev (·.enterStep k)).imageGood slot t = s.imageGood slot t := by
  have hident : (s.dev.enterStep k).ident = s.dev.ident := (only_enterStep s.dev k).part .ident (by decide)
  rw [State.imageGood, State.imageGood, onDev_flash, onDev_dev, hident]

theorem beginStepWith_six (fail : State → State) (s : State) : s.beginStepWith fail 6 =
    if (s.onDev (·.enterStep 6)).imageGood (s.onDev (·.enterStep 6)).bundleSlot 1 then
      (s.onDev (·.enterStep 6)).onDev (·.loadStandby
        (readImage (s.onDev (·.enterStep 6)).flash (s.onDev (·.enterStep 6)).bundleSlot 1))
    else fail (s.onDev (·.enterStep 6)) := rfl

/-- Where the TBP image of the slot in force is bad, the end of step 5 of a forward update is a fallback for HEALTH. -/
theorem stepComplete_five_of_bad {s : State} (hstep : s.dev.sys.updStep = 5) (hback : s.dev.sys.updBack = false)
    (hmoved : s.dev.twin.updMoved = true) (hbad : s.imageGood s.bundleSlot 1 = false) :
    s.stepComplete = (s.onDev (·.enterStep 6)).fallback 2 := by
  have hbad' : (s.onDev (·.enterStep 6)).imageGood (s.onDev (·.enterStep 6)).bundleSlot 1 = false :=
    (enterStep_imageGood s 6 _ 1).trans hbad
  have hbegin : s.beginStep 6 = (s.onDev (·.enterStep 6)).fallback 2 := by
    rw [State.beginStep, if_neg (by simp [hback]), beginStepWith_six, if_neg (by simp [hbad'])]
  rw [State.stepComplete, hstep]
  exact (if_pos hmoved).trans hbegin

/-- The header that it leaves where the trial is no live one and the flash is idle. -/
theorem stepComplete_five_flash {s : State} (hstep : s.dev.sys.updStep = 5) (hback : s.dev.sys.updBack = false)
    (hmoved : s.dev.twin.updMoved = true) (hbad : s.imageGood s.bundleSlot 1 = false) (hmode : (hdrNow s.flash).mode ≠ 1)
    (he : s.dev.sys.eraseAt = none) (hp : s.dev.sys.progPage = none) :
    s.stepComplete.flash = hdrWrite s.flash (fallenBack (hdrNow s.flash) 2) := by
  rw [stepComplete_five_of_bad hstep hback hmoved hbad]
  exact fallback_flash_of_restart 2 hmode (by rw [onDev_dev, enterStep_sys]; exact he) (by rw [onDev_dev, enterStep_sys]; exact hp)

theorem stepFive_noImage : stepFive.imageGood stepFive.bundleSlot 1 = false := by
  have hslot : stepFive.bundleSlot = 0 := congrArg Header.bundleSel lastFlash_now
  have hnone : bundleHdrOk stepFive.flash 0 = false := lastFlash_noBundle
  rw [State.imageGood, hslot, imageOk, hnone]
  simp only [Bool.false_and]

/-- What the statement says of a step 5 that finds a bad image. -/
theorem state_of_liveUpdateSteps (h : Obligations.LiveUpdateSteps) {s : State} (hstep : s.dev.sys.updStep = 5)
    (hback : s.dev.sys.updBack = false) (hmoved : s.dev.twin.updMoved = true) (hbad : s.imageGood s.bundleSlot 1 = false)
    (he : s.dev.sys.eraseAt = none) (hp : s.dev.sys.progPage = none) : (hdrNow s.stepComplete.flash).state = 3 := by
  obtain ⟨hforward, -⟩ := h s 5 [] hstep
  obtain ⟨-, hfive, -⟩ := hforward hback
  obtain ⟨t, hexec, hdone⟩ := hfive rfl hmoved
  have hend : s.stepComplete = t := Host.Outcome.next.inj hexec
  rw [if_neg (by simp [hbad])] at hdone
  rw [hend]
  exact (hdone he hp).1

/-- Refutes O44: GENERATION wraps. Where the header in force has the highest one, 2^32 - 1, the FALLEN_BACK header that a failing
step 5 writes has GENERATION 0 and does not come into force, so the header read afterwards is the old one. (Its other faults aside:
the frame of a step 5 that goes on leaves out the mailbox channels, whose taken messages the restart of the TBP posts again.) -/
theorem not_liveUpdateSteps : ¬ Obligations.LiveUpdateSteps := by
  intro h
  have hstate := state_of_liveUpdateSteps h (s := stepFive) rfl rfl rfl stepFive_noImage rfl rfl
  have hmode : (hdrNow stepFive.flash).mode ≠ 1 := by
    rw [stepFive_flash, lastFlash_now]
    decide
  have hgen : (hdrRead lastFlash 0).gen = 2 ^ 32 - 1 := congrArg Header.gen lastFlash_read
  rw [stepComplete_five_flash (s := stepFive) rfl rfl rfl stepFive_noImage hmode rfl rfl, stepFive_flash,
    hdrNow_hdrWrite_of_last _ lastFlash_copy hgen, lastFlash_now] at hstate
  exact absurd hstate (by decide)

end Sys2Proof.Proofs

/-! SUPPORT. Laws of the register file after a reset, and of the module reset. -/

namespace Sys2Proof.Laws

open Sys2Proof.Machine Sys2Proof.Safety

/-! ## A register file of which a part is dropped -/

@[simp] theorem keyReg_regKey (r : Reg) (u : Nat) : keyReg (regKey r u) = r := by
  have hlt := ctorIdx_lt r
  have hidx : regKey r u % 512 = r.ctorIdx := by
    unfold regKey
    omega
  rw [keyReg, hidx, Reg.ofNat_ctorIdx]

/-- A register of which the file keeps the words reads as before, any other at its Reset value. -/
theorem fileGet_filter (t : Tab Word) (p : Reg → Bool) (r : Reg) (u : Nat) :
    fileGet (t.filter (fun (e : Nat × Word) => p (keyReg e.1))) r u = if p r then fileGet t r u else r.resetWord u := by
  have h := tabGet_filter t (r.resetWord u) (fun k => p (keyReg k)) (regKey r u)
  rw [keyReg_regKey] at h
  exact h

theorem clearFast_word (d : Dev) (r : Reg) (u : Nat) :
    d.clearFast.word r u = if r.isFast then r.resetWord u else d.word r u := by
  have h := fileGet_filter d.regs (fun q => !q.isFast) r u
  unfold Dev.clearFast Dev.word
  rw [h]
  cases r.isFast <;> rfl

/-! ## The module reset -/

/-- What a module reset keeps, every register but the mailboxes at its Reset value. -/
def resetKept (d : Dev) : Dev :=
  let d := d.when d.pcie.held.isSome (·.emit (.readData 0))
  let n : Dev := { Dev.reset with
    ident := d.ident, tbA := d.tbA.again, tbB := d.tbB.again
    chans := d.chans, log := d.log, sent := d.sent, freeCtr := d.freeCtr, cycles := d.cycles
    regs := d.regs.filter (fun (e : Nat × Word) => (keyReg e.1).isMbx)
    pcie := { d.pcie with held := none, latch := none, hbRuns := false } }
  let n := n.onSys (fun s => { s with
    powered := true, enabled := true, held := d.sys.held, dieTemp := d.sys.dieTemp
    warmRunsA := true, warmRunsB := true, perst := d.sys.perst })
  n.each ((List.range 48).filter (fun c => (d.tioCh c).badSlots != 0)) (fun n c =>
    n.onTio c (fun t => { t with badSlots := (d.tioCh c).badSlots }))

/-- The device of a module reset before it shows the cause. -/
def resetCore (d : Dev) : Dev := (resetKept d).setWord .GLB_HOST_STAT 0 (keptHost (d.word .GLB_HOST_STAT))

/-- What a module reset reports at its end. -/
def resetReports (hostDown : Bool) (n : Dev) : Dev :=
  let n := n.when hostDown (fun n => n.cond .hostLinkDown true)
  let n := n.each [1, 2, 3, 4, 5, 0] Dev.restartParty
  (n.logAdd 0 5 0 0).countDev 294

theorem restart_eq (d : Dev) (cause : Nat) : ∃ a b c, d.restart cause = resetReports c
    ((((resetCore d).set F.GLB_BOOT_STAT_RESET_CAUSE cause).setB F.FIRN_OCXO_STAT_OSC_A a).setB F.FIRN_OCXO_STAT_OSC_B b) :=
  ⟨_, _, _, rfl⟩

theorem only_resetReports (b : Bool) (n : Dev) : Only (reports ++ [.chans]) alarmRegs n (resetReports b n) := by
  unfold resetReports
  exact .countDev (.logAdd (.each (.when .refl _ _ (.cond .refl _ _ (by decide))) _ _
    (fun _ _ => .restartParty .refl _ (by decide) (by decide))) _ _ _ _ (by decide)) _ _ (by decide)

theorem only_restart (d : Dev) (cause : Nat) :
    Only (reports ++ [.chans]) (alarmRegs ++ [.GLB_BOOT_STAT, .FIRN_OCXO_STAT]) (resetCore d) (d.restart cause) := by
  obtain ⟨a, b, c, h⟩ := restart_eq d cause
  rw [h]
  exact .andThen (.setB (.setB (.set .refl _ _ _ (by decide)) _ _ _ (by decide)) _ _ _ (by decide)) (only_resetReports c _)
    (by decide) (by decide)

theorem resetKept_regs (d : Dev) : (resetKept d).regs = d.regs.filter (fun (e : Nat × Word) => (keyReg e.1).isMbx) := by
  have hemit (b : Bool) (e : Emit) : (d.when b (·.emit e)).regs = d.regs := by cases b <;> rfl
  have htio (x : Dev) (l : List Nat) (g : Nat → Tio → Tio) : (x.each l (fun n c => n.onTio c (g c))).regs = x.regs :=
    each_keeps x (·.regs) l _ (fun _ _ _ => rfl)
  unfold resetKept
  dsimp only
  rw [htio, onSys_regs, hemit]

theorem resetCore_word (d : Dev) (r : Reg) (u : Nat) (hmbx : r.isMbx = false) (hhost : r ≠ .GLB_HOST_STAT) :
    (resetCore d).word r u = r.resetWord u := by
  rw [resetCore, word_setWord_other _ _ (by simp [hhost]), Dev.word, resetKept_regs, fileGet_filter, hmbx]
  rfl

theorem restart_word (d : Dev) (cause : Nat) (r : Reg) (u : Nat) (hmbx : r.isMbx = false)
    (hr : r ∉ [Reg.GLB_HOST_STAT, .GLB_BOOT_STAT, .FIRN_OCXO_STAT, .ALM_ACTIVE, .ALM_LATCH]) :
    (d.restart cause).word r u = r.resetWord u := by
  rw [(only_restart d cause).word r u (by simp only [List.mem_cons, List.mem_append, alarmRegs] at hr ⊢; tauto)]
  exact resetCore_word d r u hmbx (by rintro rfl; simp at hr)

/-- The boot status of a module that a reset has just left: stage ROM and the cause. -/
theorem restart_boot (d : Dev) (cause : Nat) (g : Fld) (u : Nat) (hreg : g.reg = .GLB_BOOT_STAT) :
    (d.restart cause).get g u = ((resetCore d).set F.GLB_BOOT_STAT_RESET_CAUSE cause).get g u := by
  obtain ⟨a, b, c, h⟩ := restart_eq d cause
  have hshow (e : Dev) : Only [] [.FIRN_OCXO_STAT] e ((e.setB F.FIRN_OCXO_STAT_OSC_A a).setB F.FIRN_OCXO_STAT_OSC_B b) :=
    .setB (.setB .refl _ _ _ (by decide)) _ _ _ (by decide)
  rw [h, (only_resetReports c _).get g u (by rw [hreg]; decide), (hshow _).get g u (by rw [hreg]; decide)]

theorem restart_stage (d : Dev) (cause : Nat) : (d.restart cause).stage = 0 := by
  have hword : (resetCore d).word F.GLB_BOOT_STAT_STAGE.reg 0 = Reg.resetWord .GLB_BOOT_STAT 0 :=
    resetCore_word d .GLB_BOOT_STAT 0 (by decide) (by decide)
  rw [Dev.stage, restart_boot d cause _ _ rfl, get_set_apart _ _ _ _ _ _ (by decide) (by decide), Dev.get, hword]
  decide

theorem restart_cause (d : Dev) (cause : Nat) : (d.restart cause).get F.GLB_BOOT_STAT_RESET_CAUSE = cause % 16 := by
  rw [restart_boot d cause _ _ rfl, get_set_same _ _ _ _ (by decide)]
  rfl

variable (s : State)

theorem moduleReset_stage (cause : Nat) : (s.moduleReset cause).dev.stage = 0 := restart_stage _ cause

theorem moduleReset_cause (cause : Nat) : (s.moduleReset cause).dev.get F.GLB_BOOT_STAT_RESET_CAUSE = cause % 16 :=
  restart_cause _ cause

end Sys2Proof.Laws

/-! Confirmation and fallback of a trial (13_firmware_update.md). -/

namespace Sys2Proof.Laws

open Sys2Proof.Machine Sys2Proof.Safety

variable {s : State}

/-! ## Results of the UPD commands -/

theorem updResult_get (d : Dev) (n : Nat) : (d.updResult n).get F.UPD_CMD_RESULT = n % 16 := get_set_same _ _ _ _ (by decide)

theorem frame_updResult (s : State) (n : Nat) : Frame [] [.UPD_CMD] s (s.onDev (·.updResult n)) :=
  ⟨.set .refl _ _ _ (by decide), rfl, rfl⟩

theorem onTrial_onDev (f : Dev → Dev) : (s.onDev f).onTrial = s.onTrial := rfl

theorem hdrState_of_onTrial (h : s.onTrial = true) : hdrState s.flash = 2 := by simpa [State.onTrial] using h

/-- A command on the trial runs where none does, or in the window. -/
theorem trialCommand_taken {f : State → State} (hstage : s.dev.stage ≠ 0)
    (hfree : s.dev.updBusy = false ∨ s.dev.get F.UPD_STAT_STEP = 8) (htrial : s.onTrial = true) :
    s.trialCommand f = f (s.onDev (·.updResult 1)) := by
  have hbusy : (s.dev.updBusy && s.dev.get F.UPD_STAT_STEP != 8) = false := by
    rcases hfree with h | h <;> simp [h]
  rw [State.trialCommand, if_neg hstage, if_neg (by simp [hbusy]), if_neg (by simp [htrial])]

theorem trialCommand_busy {f : State → State} (hstage : s.dev.stage ≠ 0) (hbusy : s.dev.updBusy = true)
    (hstep : s.dev.get F.UPD_STAT_STEP ≠ 8) : s.trialCommand f = s.onDev (·.updResult 3) := by
  rw [State.trialCommand, if_neg hstage, if_pos (by simp [hbusy, hstep])]

/-! ## Confirmation -/

/-- The device once the mark CONFIRMED is programmed: the state of the header shows, and the window ends. -/
def confirmed (d : Dev) : Dev := (((d.countDev 298).showStep 0).set F.UPD_CONFIRM_LEFT_LEFT 0).onSys (fun y => { y with winLeft := 0 })

theorem confirm_eq (s : State) : s.confirm = (({ s with flash := hdrMark s.flash 68 } : State).refreshUpd).onDev confirmed := rfl

theorem confirm_flash (s : State) : s.confirm.flash = hdrMark s.flash 68 := by
  rw [confirm_eq, onDev_flash, State.refreshUpd, onDev_flash]

theorem only_confirmed (d : Dev) : Only (reports ++ [.sys]) (alarmRegs ++ [.UPD_STAT, .UPD_CONFIRM_LEFT]) d (confirmed d) :=
  .onSys (.set (.showStep (.countDev .refl _ _ (by decide)) _ (by decide) (by decide)) _ _ _ (by decide)) _ (by decide)

theorem only_confirm (s : State) :
    Only (reports ++ [.sys]) (alarmRegs ++ [.UPD_STAT, .UPD_CONFIRM_LEFT]) s.dev s.confirm.dev := by
  have h := only_refreshUpd ({ s with flash := hdrMark s.flash 68 } : State)
  rw [confirm_eq, onDev_dev]
  exact (h.weaken (by decide) (by decide)).andThen (only_confirmed _) (by decide) (by decide)

theorem confirmed_step (d : Dev) : (confirmed d).get F.UPD_STAT_STEP = 0 := by
  unfold confirmed Dev.showStep
  rw [onSys_get, get_set_apart _ _ _ _ _ _ (by decide) (by decide)]
  exact get_setMark_same _ _ _ _ _ (by decide) (by decide) (by decide)

theorem confirmed_left (d : Dev) : (confirmed d).get F.UPD_CONFIRM_LEFT_LEFT = 0 := by
  unfold confirmed
  rw [onSys_get]
  exact get_set_same _ _ _ _ (by decide)

/-! ## The end of the window -/

theorem windowEnds_confirms (hstep : s.dev.get F.UPD_STAT_STEP = 8) (htrial : s.onTrial = true)
    (hauto : (hdrNow s.flash).auto = 1) (hactive : s.dev.anyActive = true) : s.windowEnds = s.confirm := by
  rw [State.windowEnds, if_neg (by simp [hstep, htrial]), if_pos (by simp [hauto, hactive])]

theorem windowEnds_fallsBack (hstep : s.dev.get F.UPD_STAT_STEP = 8) (htrial : s.onTrial = true)
    (hauto : (hdrNow s.flash).auto ≠ 1) : s.windowEnds = s.fallback 1 := by
  rw [State.windowEnds, if_neg (by simp [hstep, htrial]), if_neg (by simp [hauto])]

/-! ## Fallback by a module reset -/

theorem fallback_restarts (cause : Nat) (h : (hdrNow s.flash).mode ≠ 1) :
    (s.fallback cause).dev.stage = 0 ∧ (s.fallback cause).dev.get F.GLB_BOOT_STAT_RESET_CAUSE = 2 := by
  rw [fallback_of_restart cause h]
  exact ⟨moduleReset_stage _ 2, moduleReset_cause _ 2⟩

end Sys2Proof.Laws

namespace Sys2Proof.Proofs

open Sys2Proof.Machine Sys2Proof.Safety Sys2Proof.Laws

/-- Settles O43: CONFIRM and the window's end program the mark, every other end of a trial is a fallback, which outside a live
update writes the previous slots into the header and resets the module. -/
theorem trialEnds : Obligations.TrialEnds := by
  intro s fb htrial hfb
  have hback {x : State} (hx : x.flash = s.flash) (hsys : x.dev.sys = s.dev.sys) (he : s.dev.sys.eraseAt = none)
      (hp : s.dev.sys.progPage = none) (hmode : (hdrNow s.flash).mode ≠ 1) (c : Nat) : (x.fallback c).flash = fb c ∧
      (x.fallback c).dev.stage = 0 ∧ (x.fallback c).dev.get F.GLB_BOOT_STAT_RESET_CAUSE = 2 := by
    have hmode' : (hdrNow x.flash).mode ≠ 1 := by rw [hx]; exact hmode
    refine ⟨?_, fallback_restarts c hmode'⟩
    rw [fallback_flash_of_restart c hmode' (by rw [hsys, he]) (by rw [hsys, hp]), hx, hfb c]
    rfl
  refine ⟨fun hstage hfree => ?_, fun hstage hbusy hstep c hc => ?_, fun hstep hauto hactive => ?_, fun he hp hmode => ⟨?_, ?_, ?_⟩⟩
  · have hrun : exec .updConfirm s = .next (s.onDev (·.updResult 1)).confirm := by
      rw [← trialCommand_taken (f := State.confirm) hstage hfree htrial]
      rfl
    have honly := only_confirm (s.onDev (·.updResult 1))
    refine completes_of_next hrun ⟨confirm_flash _, ?_, confirmed_step _, confirmed_left _, ?_⟩
    · rw [honly.get _ _ (by decide), onDev_dev]
      exact updResult_get _ 1
    · rw [honly.stage (by decide), onDev_dev]
      exact (frame_updResult s 1).dev.stage (by decide)
  · have hrefused : exec c s = .next (s.onDev (·.updResult 3)) := by
      simp only [List.mem_cons, List.not_mem_nil, or_false] at hc
      rcases hc with rfl | rfl
      · rw [← trialCommand_busy (f := State.confirm) hstage hbusy hstep]
        rfl
      · rw [← trialCommand_busy (f := (·.fallback 5)) hstage hbusy hstep]
        rfl
    exact completes_of_next hrefused ⟨updResult_get _ 3, frame_updResult s 3⟩
  · have hrun : exec .confirmWindowExpired s = .next s.confirm := by
      rw [← windowEnds_confirms hstep htrial hauto hactive]
      rfl
    exact completes_of_next hrun ⟨confirm_flash _, confirmed_step _, rfl⟩
  · intro hstage hfree
    have hrun : exec .updAbort s = .next ((s.onDev (·.updResult 1)).fallback 5) := by
      rw [← trialCommand_taken (f := (·.fallback 5)) hstage hfree htrial]
      rfl
    exact completes_of_next hrun (hback (onDev_flash s _) ((frame_updResult s 1).dev.sys (by decide)) he hp hmode 5)
  · intro hstep hauto
    have hrun : exec .confirmWindowExpired s = .next (s.fallback 1) := by
      rw [← windowEnds_fallsBack hstep htrial hauto]
      rfl
    exact completes_of_next hrun (hback rfl rfl he hp hmode 1)
  · intro hwait
    have hrun : exec .newCpTakeoverTimeout s = .next (s.fallback 2) :=
      congrArg Host.Outcome.next (if_pos (by rw [hwait, htrial]; rfl))
    exact completes_of_next hrun (hback rfl rfl he hp hmode 2)

end Sys2Proof.Proofs

/-! SUPPORT. Laws of the check of a configuration image. -/

namespace Sys2Proof.Laws

open Sys2Proof.Machine Sys2Proof.Safety

/-- What the check of an image counts: the records it skips, or the failure. -/
def checkNoted (c : CfgCheck) (d : Dev) : Dev :=
  if c.result = 1 then d.set F.GLB_CFG_STAT_SKIPPED (min 15 c.skipped)
  else (match c.failRec with | some i => d.set F.GLB_CFG_STAT_FAIL_RECORD i | none => d).countDev 288

theorem checkSlot_eq (s : State) (ifs : List Image) (slot : Nat) : s.checkSlot ifs slot =
    (s.onDev (checkNoted (checkCfg s.flash s.dev.ident.variant ifs slot)), checkCfg s.flash s.dev.ident.variant ifs slot) := rfl

theorem only_checkNoted (c : CfgCheck) (d : Dev) : Only reports (alarmRegs ++ [.GLB_CFG_STAT]) d (checkNoted c d) := by
  unfold checkNoted
  split
  · exact .set .refl _ _ _ (by decide)
  · refine .countDev ?_ _ _ (by decide)
    split
    · exact .set .refl _ _ _ (by decide)
    · exact .refl

theorem checkSlot_result (s : State) (ifs : List Image) (slot : Nat) :
    (s.checkSlot ifs slot).2 = checkCfg s.flash s.dev.ident.variant ifs slot := rfl

theorem checkSlot_flash (s : State) (ifs : List Image) (slot : Nat) : (s.checkSlot ifs slot).1.flash = s.flash := by
  rw [checkSlot_eq, onDev_flash]

theorem only_checkSlot (s : State) (ifs : List Image) (slot : Nat) :
    Only reports (alarmRegs ++ [.GLB_CFG_STAT]) s.dev (s.checkSlot ifs slot).1.dev := by
  rw [checkSlot_eq]
  exact only_checkNoted _ _

theorem checkSlot_pending (s : State) (ifs : List Image) (slot : Nat) : (s.checkSlot ifs slot).1.pending = s.pending := rfl

end Sys2Proof.Laws

/-! SUPPORT. Laws of the UPD commands and of the flash window. -/

namespace Sys2Proof.Laws

open Sys2Proof.Machine Sys2Proof.Safety

variable {s : State}

theorem get_setWord_same (d : Dev) (g : Fld) (r : Reg) (u : Nat) (w : Word) (h : g.reg = r) :
    (d.setWord r u w).get g u = bitsOf w.toNat g.lo g.width := by
  subst h
  rw [Dev.get, word_setWord_same]

/-! ## Commands taken and refused -/

theorem updTake_busy {f : State → State} (hstage : s.dev.stage ≠ 0) (h : s.dev.updBusy = true) :
    s.updTake f = s.onDev (·.updResult 3) := by
  rw [State.updTake, if_neg hstage, if_pos h]

theorem updTake_free {f : State → State} (hstage : s.dev.stage ≠ 0) (h : s.dev.updBusy = false) : s.updTake f = f s := by
  rw [State.updTake, if_neg hstage, if_neg (by simp [h])]

/-! ## The verification of a slot -/

/-- UPD_SLOT_ID tells of the bundle where its header is correct. -/
def slotNamed (s : State) (slot : Nat) : State :=
  if bundleHdrOk s.flash slot then s.onDev (·.set F.UPD_SLOT_ID_BUNDLE_ID (bundleId s.flash slot) slot) else s

/-- UPD_SLOT_STAT of a slot that verifies, and of one that does not. -/
def slotGood (live : Bool) (slot : Nat) (d : Dev) : Dev := (d.setWord .UPD_SLOT_STAT slot 1).setB F.UPD_SLOT_STAT_LIVE_OK live slot
def slotBad (t b slot : Nat) (d : Dev) : Dev :=
  ((d.setWord .UPD_SLOT_STAT slot 0).set F.UPD_SLOT_STAT_FAIL_TYPE t slot).set F.UPD_SLOT_STAT_FAIL_BLOCK b slot

theorem verifySlot_of_good {slot : Nat} (h : bundleFault s.flash s.dev.ident.variant slot = none) :
    s.verifySlot slot = ((slotNamed s slot).onDev (slotGood (s.dev.liveWith (readImages s.flash slot)) slot), none) := by
  unfold State.verifySlot
  rw [h]
  rfl

theorem verifySlot_of_bad {slot r t b : Nat} (h : bundleFault s.flash s.dev.ident.variant slot = some (r, t, b)) :
    s.verifySlot slot = ((slotNamed s slot).onDev (slotBad t b slot), some r) := by
  unfold State.verifySlot
  rw [h]
  rfl

theorem slotNamed_flash (slot : Nat) : (slotNamed s slot).flash = s.flash := by
  unfold slotNamed
  split
  · exact onDev_flash s _
  · exact Eq.refl s.flash

theorem only_slotNamed (s : State) (slot : Nat) : Only [] [.UPD_SLOT_ID] s.dev (slotNamed s slot).dev := by
  unfold slotNamed
  split
  · exact .set .refl _ _ _ (by decide)
  · exact .refl

theorem only_slotGood (live : Bool) (slot : Nat) (d : Dev) : Only [] [.UPD_SLOT_STAT] d (slotGood live slot d) :=
  .setB (.setWord .refl _ _ _ (by decide)) _ _ _ (by decide)

theorem only_slotBad (t b slot : Nat) (d : Dev) : Only [] [.UPD_SLOT_STAT] d (slotBad t b slot d) :=
  .set (.set (.setWord .refl _ _ _ (by decide)) _ _ _ (by decide)) _ _ _ (by decide)

theorem setWord_verified (u : Nat) (d : Dev) : (d.setWord .UPD_SLOT_STAT u 1).get F.UPD_SLOT_STAT_VERIFIED u = 1 := by
  have hbit : bitsOf (1 : Word).toNat F.UPD_SLOT_STAT_VERIFIED.lo F.UPD_SLOT_STAT_VERIFIED.width = 1 := by decide
  rw [get_setWord_same d _ _ u 1 (by decide), hbit]

theorem slotGood_verified (live : Bool) (slot : Nat) (d : Dev) :
    (slotGood live slot d).flag F.UPD_SLOT_STAT_VERIFIED slot = true := by
  rw [slotGood, Dev.flag, get_setB_apart _ _ _ _ _ _ (by decide) (by decide), setWord_verified]
  rfl

theorem slotGood_live (live : Bool) (slot : Nat) (d : Dev) : (slotGood live slot d).flag F.UPD_SLOT_STAT_LIVE_OK slot = live :=
  flag_setB_same _ _ _ _ (by decide) (by decide)

theorem slotBad_verified (t b slot : Nat) (d : Dev) : (slotBad t b slot d).flag F.UPD_SLOT_STAT_VERIFIED slot = false := by
  unfold slotBad
  rw [flag_set_apart _ _ _ _ _ _ (by decide) (by decide), flag_set_apart _ _ _ _ _ _ (by decide) (by decide), Dev.flag,
    get_setWord_same _ _ _ _ _ (by decide)]
  decide

theorem slotBad_type (t b slot : Nat) (d : Dev) : (slotBad t b slot d).get F.UPD_SLOT_STAT_FAIL_TYPE slot = t % 4 := by
  unfold slotBad
  rw [get_set_apart _ _ _ _ _ _ (by decide) (by decide)]
  exact get_set_same _ _ _ _ (by decide)

theorem slotBad_block (t b slot : Nat) (d : Dev) : (slotBad t b slot d).get F.UPD_SLOT_STAT_FAIL_BLOCK slot = b % 8192 :=
  get_set_same _ _ _ _ (by decide)

/-! ## The flash window -/

theorem showNvm_busy (d : Dev) : d.showNvm.flag F.UPD_STAT_NVM_BUSY = d.nvmBusy := flag_setB_same _ _ _ _ (by decide) (by decide)

theorem updStarts_get (d : Dev) : d.updStarts.get F.UPD_CMD_RESULT = 2 := updResult_get _ 2

theorem updStarts_sys (d : Dev) : d.updStarts.sys = { d.sys with updRuns := true } := by
  rw [Dev.updStarts, (only_updResult _ _).sys (by decide), onSys_sys]

/-- An erase begins. -/
def eraseBegun (a : Nat) (d : Dev) : Dev := ((d.onSys (fun y => { y with eraseAt := some a })).showNvm).updStarts

theorem updErase_of_free (h : s.nvmBarred (s.dev.get F.UPD_ERASE_ADDR_ADDR / 0x10000 * 0x10000) = false) :
    s.updErase = s.onDev (eraseBegun (s.dev.get F.UPD_ERASE_ADDR_ADDR / 0x10000 * 0x10000)) := if_neg (by simp [h])

theorem updErase_of_barred (h : s.nvmBarred (s.dev.get F.UPD_ERASE_ADDR_ADDR / 0x10000 * 0x10000) = true) :
    s.updErase = s.onDev (fun d => d.nvmRefuse.updResult 0xE) := if_pos h

theorem only_eraseBegun (a : Nat) (d : Dev) : Only [.sys] [.UPD_STAT, .UPD_CMD] d (eraseBegun a d) :=
  .andThen (.andThen (.onSys .refl _ (by decide)) (only_showNvm _) (by decide) (by decide)) (only_updStarts _) (by decide) (by decide)

theorem eraseBegun_sys (a : Nat) (d : Dev) : (eraseBegun a d).sys = { d.sys with eraseAt := some a, updRuns := true } := by
  rw [eraseBegun, updStarts_sys, (only_showNvm _).sys (by decide), onSys_sys]

theorem eraseBegun_busy (a : Nat) (d : Dev) : (eraseBegun a d).flag F.UPD_STAT_NVM_BUSY = true := by
  rw [eraseBegun, (only_updStarts _).flag _ _ (by decide), showNvm_busy]
  rfl

/-- The programming of a page buffer begins. -/
def programBegun (p : Nat × List (Nat × Byte)) (d : Dev) : Dev :=
  (d.onSys (fun y => { y with page := none, progPage := some p })).showNvm

theorem beginProgram_of_none {d : Dev} (h : d.sys.page = none) : d.beginProgram = d := by
  unfold Dev.beginProgram
  rw [h]

theorem beginProgram_of_some {d : Dev} {p : Nat × List (Nat × Byte)} (h : d.sys.page = some p) :
    d.beginProgram = programBegun p d := by
  unfold Dev.beginProgram
  rw [h]
  rfl

theorem only_programBegun (p : Nat × List (Nat × Byte)) (d : Dev) : Only [.sys] [.UPD_STAT] d (programBegun p d) :=
  .andThen (.onSys .refl _ (by decide)) (only_showNvm _) (by decide) (by decide)

theorem programBegun_sys (p : Nat × List (Nat × Byte)) (d : Dev) :
    (programBegun p d).sys = { d.sys with page := none, progPage := some p } := by
  rw [programBegun, (only_showNvm _).sys (by decide), onSys_sys]

theorem programBegun_busy (p : Nat × List (Nat × Byte)) (d : Dev) : (programBegun p d).nvmBusy = true := by
  rw [Dev.nvmBusy, programBegun_sys]
  exact Bool.or_true _

theorem programBegun_shown (p : Nat × List (Nat × Byte)) (d : Dev) : (programBegun p d).flag F.UPD_STAT_NVM_BUSY = true := by
  have hbusy : (d.onSys (fun y => { y with page := none, progPage := some p })).nvmBusy = true := Bool.or_true _
  rw [programBegun, showNvm_busy, hbusy]

theorem updFlush_of_empty (hpage : s.dev.sys.page = none) (hidle : s.dev.nvmBusy = false) : s.updFlush = s.onDev (·.updResult 1) := by
  have h : (if s.dev.beginProgram.nvmBusy then s.dev.beginProgram.updStarts else s.dev.beginProgram.updResult 1) = s.dev.updResult 1 := by
    rw [beginProgram_of_none hpage, if_neg (by simp [hidle])]
  exact congrArg (fun d => { s with dev := d }) h

theorem updFlush_of_page {p : Nat × List (Nat × Byte)} (hpage : s.dev.sys.page = some p) :
    s.updFlush = s.onDev (fun d => (programBegun p d).updStarts) := by
  have h : (if s.dev.beginProgram.nvmBusy then s.dev.beginProgram.updStarts else s.dev.beginProgram.updResult 1) =
      (programBegun p s.dev).updStarts := by
    rw [beginProgram_of_some hpage, if_pos (programBegun_busy p _)]
  exact congrArg (fun d => { s with dev := d }) h

/-! ## The ends of flash work -/

theorem flashDone_of_run {d : Dev} (hruns : d.sys.updRuns = true) (hstep : d.sys.updStep = 0) (hidle : d.nvmBusy = false) :
    d.flashDone = (d.set F.UPD_CMD_RESULT 1).onSys (fun y => { y with updRuns := false }) := by
  have hgo : (d.sys.updRuns && d.sys.updStep == 0 && !d.nvmBusy) = true := by simp [hruns, hstep, hidle]
  rw [Dev.flashDone, hgo]
  rfl

/-- The device when an erase, or a page program, has ended. -/
def eraseEnded (d : Dev) : Dev := ((d.onSys (fun y => { y with eraseAt := none })).showNvm).flashDone
def programEnded (bad : Bool) (d : Dev) : Dev :=
  (((d.onSys (fun y => { y with progPage := none })).showNvm).when bad (fun d => (d.setB F.UPD_STAT_PROG_ERR true).countDev 301)).flashDone

theorem eraseDone_of_erase {a : Nat} (he : s.dev.sys.eraseAt = some a) (hp : s.dev.sys.progPage = none) :
    s.eraseDone = ({ s with flash := flashErase s.flash a 0x10000 } : State).onDev eraseEnded := by
  unfold State.eraseDone
  rw [he, hp]
  rfl

/-- A byte of the page does not read back. -/
def misread (m : List Host.Cell) (page : Nat) (l : List (Nat × Byte)) : Bool :=
  l.any (fun e => flashByte (programPage m page l) (256 * page + e.1) != e.2)

theorem programDone_of_page {page : Nat} {l : List (Nat × Byte)} (hp : s.dev.sys.progPage = some (page, l)) :
    s.programDone = ({ s with flash := programPage s.flash page l } : State).onDev (programEnded (misread s.flash page l)) := by
  unfold State.programDone
  rw [hp]
  rfl

theorem only_eraseEnded (d : Dev) : Only [.sys] [.UPD_STAT, .UPD_CMD] d (eraseEnded d) :=
  .flashDone (.andThen (.onSys .refl _ (by decide)) (only_showNvm _) (by decide) (by decide)) (by decide) (by decide)

theorem only_programEnded_good (d : Dev) : Only [.sys] [.UPD_STAT, .UPD_CMD] d (programEnded false d) :=
  .flashDone (.andThen (.onSys .refl _ (by decide)) (only_showNvm _) (by decide) (by decide)) (by decide) (by decide)

theorem only_programEnded (bad : Bool) (d : Dev) : Only (reports ++ [.sys]) (alarmRegs ++ [.UPD_STAT, .UPD_CMD]) d (programEnded bad d) :=
  .flashDone (.when (.andThen (.onSys .refl _ (by decide)) (only_showNvm _) (by decide) (by decide)) _ _
    (.countDev (.setB .refl _ _ _ (by decide)) _ _ (by decide))) (by decide) (by decide)

/-- The work that has ended was the last: the command that waited for it ends, and NVM_BUSY shows it. -/
theorem workEnded {d : Dev} {f : Sys → Sys} (hruns : (f d.sys).updRuns = true) (hstep : (f d.sys).updStep = 0)
    (he : (f d.sys).eraseAt = none) (hp : (f d.sys).progPage = none) :
    ((d.onSys f).showNvm.flashDone).sys = { f d.sys with updRuns := false } ∧
    ((d.onSys f).showNvm.flashDone).flag F.UPD_STAT_NVM_BUSY = false ∧
    ((d.onSys f).showNvm.flashDone).get F.UPD_CMD_RESULT = 1 := by
  have hsys : (d.onSys f).showNvm.sys = f d.sys := ((only_showNvm _).sys (by decide)).trans (onSys_sys _ _)
  have hidle : (d.onSys f).nvmBusy = false := by simp [Dev.nvmBusy, he, hp]
  have hidle' : (d.onSys f).showNvm.nvmBusy = false := by simp [Dev.nvmBusy, hsys, he, hp]
  have hset (e : Dev) : Only [] [.UPD_CMD] e (e.set F.UPD_CMD_RESULT 1) := .set .refl _ _ _ (by decide)
  rw [flashDone_of_run (by rw [hsys, hruns]) (by rw [hsys, hstep]) hidle']
  refine ⟨?_, ?_, ?_⟩
  · rw [onSys_sys, (hset _).sys (by decide), hsys]
  · rw [show ∀ (e : Dev) (k : Sys → Sys) (g : Fld), (e.onSys k).flag g = e.flag g from fun _ _ _ => rfl, (hset _).flag _ _ (by decide), showNvm_busy, hidle]
  · rw [onSys_get]
    exact get_set_same _ _ _ _ (by decide)

theorem flashDone_sys (d : Dev) : ∃ b, d.flashDone.sys = { d.sys with updRuns := b } := by
  have hset (e : Dev) : Only [] [.UPD_CMD] e (e.set F.UPD_CMD_RESULT 1) := .set .refl _ _ _ (by decide)
  unfold Dev.flashDone
  cases d.sys.updRuns && d.sys.updStep == 0 && !d.nvmBusy with
  | true => exact ⟨false, by rw [when_true, onSys_sys, (hset _).sys (by decide)]⟩
  | false => exact ⟨d.sys.updRuns, rfl⟩

theorem programEnded_sys (bad : Bool) (d : Dev) : ∃ b, (programEnded bad d).sys = { d.sys with progPage := none, updRuns := b } := by
  have hnote (e : Dev) : Only (reports) (alarmRegs ++ [.UPD_STAT]) e (e.when bad (fun d => (d.setB F.UPD_STAT_PROG_ERR true).countDev 301)) :=
    .when .refl _ _ (.countDev (.setB .refl _ _ _ (by decide)) _ _ (by decide))
  obtain ⟨b, hb⟩ := flashDone_sys (((d.onSys (fun y => { y with progPage := none })).showNvm).when bad (fun d =>
    (d.setB F.UPD_STAT_PROG_ERR true).countDev 301))
  refine ⟨b, hb.trans ?_⟩
  rw [(hnote _).sys (by decide), (only_showNvm _).sys (by decide), onSys_sys]

theorem programEnded_error (d : Dev) : (programEnded true d).flag F.UPD_STAT_PROG_ERR = true := by
  have hcount (e : Dev) : Only reports alarmRegs e (e.countDev 301) := .countDev .refl _ _ (by decide)
  rw [programEnded, when_true, (only_flashDone _).flag _ _ (by decide), (hcount _).flag _ _ (by decide)]
  exact flag_setB_same _ _ _ _ (by decide) (by decide)

/-- With no access of the host or of SMBus that waits for the flash, its end lets nothing go on. -/
theorem flashFree_of_idle (hw : s.dev.sys.smbWrite = none) (hr : s.dev.sys.smbRead = none) (hheld : s.dev.pcie.held = none)
    (hwaiting : s.dev.pcie.waiting = []) : s.flashFree = s := by
  unfold State.flashFree
  rw [hw]
  dsimp only
  rw [hr]
  exact proceed_of_idle hwaiting hheld

/-- A page program that ends leaves the host link, but for a vector that the report of an error makes pending. -/
theorem programEnded_pcie (bad : Bool) (d : Dev) : ∃ l, (programEnded bad d).pcie = { d.pcie with pba := l } := by
  cases bad with
  | false => exact ⟨_, (only_programEnded_good d).part .pcie (by decide)⟩
  | true =>
    obtain ⟨l, hl⟩ := (report_countDev (((d.onSys (fun y => { y with progPage := none })).showNvm).setB F.UPD_STAT_PROG_ERR true)
      301 1).pcie
    exact ⟨l, ((only_flashDone _).part .pcie (by decide)).trans hl⟩

section
variable (hw : s.dev.sys.smbWrite = none) (hr : s.dev.sys.smbRead = none) (hheld : s.dev.pcie.held = none)
  (hwaiting : s.dev.pcie.waiting = [])
include hw hr hheld hwaiting

theorem eraseDone_flashFree {a : Nat} (he : s.dev.sys.eraseAt = some a) (hp : s.dev.sys.progPage = none) :
    s.eraseDone.flashFree = s.eraseDone := by
  obtain ⟨b, hb⟩ := flashDone_sys ((s.dev.onSys (fun y => { y with eraseAt := none })).showNvm)
  have hsys : (eraseEnded s.dev).sys = { s.dev.sys with eraseAt := none, updRuns := b } := by
    refine hb.trans ?_
    rw [(only_showNvm _).sys (by decide), onSys_sys]
  rw [eraseDone_of_erase he hp]
  have hpcie : (eraseEnded s.dev).pcie = s.dev.pcie := (only_eraseEnded s.dev).part .pcie (by decide)
  have hsw := congrArg Sys.smbWrite hsys
  have hsr := congrArg Sys.smbRead hsys
  exact flashFree_of_idle (hsw.trans hw) (hsr.trans hr) ((congrArg Pcie.held hpcie).trans hheld)
    ((congrArg Pcie.waiting hpcie).trans hwaiting)

theorem programDone_flashFree {page : Nat} {l : List (Nat × Byte)} (hp : s.dev.sys.progPage = some (page, l)) :
    s.programDone.flashFree = s.programDone := by
  obtain ⟨b, hb⟩ := programEnded_sys (misread s.flash page l) s.dev
  obtain ⟨q, hq⟩ := programEnded_pcie (misread s.flash page l) s.dev
  rw [programDone_of_page hp]
  exact flashFree_of_idle ((congrArg Sys.smbWrite hb).trans hw) ((congrArg Sys.smbRead hb).trans hr) 
    ((congrArg Pcie.held hq).trans hheld) ((congrArg Pcie.waiting hq).trans hwaiting)

end

/-! ## Activation -/

/-- The state after the verification of the slot named, and after the check of the configuration named with its images. -/
def slotVerified (s : State) : State := (s.verifySlot (s.dev.get F.UPD_CFG_SLOT)).1
def cfgChecked (s : State) : State × CfgCheck :=
  (slotVerified s).checkSlot (readImages (slotVerified s).flash (s.dev.get F.UPD_CFG_SLOT)) ((slotVerified s).dev.get F.UPD_CFG_CFG_SLOT)

theorem verifySlot_flash (s : State) (slot : Nat) : (s.verifySlot slot).1.flash = s.flash := by
  unfold State.verifySlot
  dsimp only
  split <;> exact (onDev_flash _ _).trans (slotNamed_flash slot)

theorem verifySlot_pending (s : State) (slot : Nat) : (s.verifySlot slot).1.pending = s.pending := (keeps_verifySlot s slot).pending

theorem only_verifySlot (s : State) (slot : Nat) : Only [] [.UPD_SLOT_STAT, .UPD_SLOT_ID] s.dev (s.verifySlot slot).1.dev := by
  have hnamed : Only [] [.UPD_SLOT_STAT, .UPD_SLOT_ID] s.dev (slotNamed s slot).dev := (only_slotNamed s slot).weaken (by decide) (by decide)
  cases hfault : bundleFault s.flash s.dev.ident.variant slot with
  | none =>
    rw [verifySlot_of_good hfault, onDev_dev]
    exact hnamed.andThen (only_slotGood _ slot _) (by decide) (by decide)
  | some x =>
    obtain ⟨r, t, b⟩ := x
    rw [verifySlot_of_bad hfault, onDev_dev]
    exact hnamed.andThen (only_slotBad t b slot _) (by decide) (by decide)

theorem cfgChecked_flash (s : State) : (cfgChecked s).1.flash = s.flash :=
  (checkSlot_flash _ _ _).trans (verifySlot_flash s _)

theorem only_cfgChecked (s : State) : Only reports (alarmRegs ++ [.GLB_CFG_STAT, .UPD_SLOT_STAT, .UPD_SLOT_ID]) s.dev (cfgChecked s).1.dev :=
  ((only_verifySlot s _).weaken (by decide) (by decide)).andThen (only_checkSlot _ _ _) (by decide) (by decide)

theorem cfgChecked_result (s : State) : (cfgChecked s).2 =
    checkCfg s.flash s.dev.ident.variant (readImages s.flash (s.dev.get F.UPD_CFG_SLOT)) (s.dev.get F.UPD_CFG_CFG_SLOT) := by
  have hident : (slotVerified s).dev.ident = s.dev.ident := (only_verifySlot s _).part .ident (by decide)
  have hflash : (slotVerified s).flash = s.flash := verifySlot_flash s _
  have hslot : (slotVerified s).dev.get F.UPD_CFG_CFG_SLOT = s.dev.get F.UPD_CFG_CFG_SLOT := (only_verifySlot s _).get _ _ (by decide)
  rw [cfgChecked, checkSlot_result, hflash, hident, hslot]

/-- The header of an activation depends on what the checks before it leave alone. -/
theorem activated_congr {x : State} (slot state : Nat) (hflash : x.flash = s.flash) (hcfg : x.dev.word .UPD_CFG = s.dev.word .UPD_CFG) :
    x.activated slot state = s.activated slot state := by
  have hget (g : Fld) (hg : g.reg = .UPD_CFG) : x.dev.get g = s.dev.get g := by rw [Dev.get, Dev.get, hg, hcfg]
  unfold State.activated
  dsimp only
  rw [hflash, hget _ rfl, hget _ rfl, hget _ rfl, hget _ rfl]

section
variable (hst : hdrState s.flash ≠ 1 ∧ hdrState s.flash ≠ 2) (hslot : s.dev.get F.UPD_CFG_SLOT ≠ s.bundleSlot)
include hst hslot

theorem updActivate_of_fault {r : Nat} (h : (s.verifySlot (s.dev.get F.UPD_CFG_SLOT)).2 = some r) :
    s.updActivate = (slotVerified s).onDev (·.updResult r) := by
  have hpair : s.verifySlot (s.dev.get F.UPD_CFG_SLOT) = (slotVerified s, some r) := by rw [← h]; rfl
  unfold State.updActivate
  dsimp only
  rw [if_neg (by simp [hst]), if_neg hslot, hpair]

theorem updActivate_of_config (h : (s.verifySlot (s.dev.get F.UPD_CFG_SLOT)).2 = none) (hcfg : (cfgChecked s).2.result ≠ 1) :
    s.updActivate = (cfgChecked s).1.onDev (·.updResult 9) := by
  have hpair : s.verifySlot (s.dev.get F.UPD_CFG_SLOT) = (slotVerified s, none) := by rw [← h]; rfl
  unfold State.updActivate
  dsimp only
  rw [if_neg (by simp [hst]), if_neg hslot, hpair]
  exact if_pos hcfg

/-- The header that a RESTART activation writes is PENDING, or CONFIRMED in RECOVERY. -/
theorem updActivate_of_restart (h : (s.verifySlot (s.dev.get F.UPD_CFG_SLOT)).2 = none) (hcfg : (cfgChecked s).2.result = 1)
    (hmode : s.dev.flag F.UPD_CFG_MODE = false) : s.updActivate =
      ((({ (cfgChecked s).1 with flash := hdrWrite (cfgChecked s).1.flash ((cfgChecked s).1.activated (s.dev.get F.UPD_CFG_SLOT)
        (if s.dev.stage == 8 then 0 else 1)) } : State).refreshUpd).onDev (·.countDev 297)).onDev (·.updResult 1) := by
  have hpair : s.verifySlot (s.dev.get F.UPD_CFG_SLOT) = (slotVerified s, none) := by rw [← h]; rfl
  unfold State.updActivate
  dsimp only
  rw [if_neg (by simp [hst]), if_neg hslot, hpair, hmode]
  dsimp only
  refine (if_neg (not_not.mpr hcfg)).trans ?_
  simp only [Bool.false_and, Bool.false_eq_true, if_false]
  rfl

end

theorem updActivate_on_trial (hst : hdrState s.flash = 1 ∨ hdrState s.flash = 2) : s.updActivate = s.onDev (·.updResult 0xD) := by
  unfold State.updActivate
  exact if_pos (by simpa using hst)

end Sys2Proof.Laws

/-! The UPD commands and the flash window (13_firmware_update.md). -/

namespace Sys2Proof.Proofs

open Sys2Proof.Machine Sys2Proof.Safety Sys2Proof.Laws

variable {s : State}

/-- VERIFY of a slot. -/
theorem completes_updVerify {slot : Nat} (hstage : s.dev.stage ≠ 0) (hfree : s.dev.updBusy = false)
    (hslot : s.dev.get F.UPD_CFG_SLOT = slot) :
    Completes .updVerify s (fun t => t.flash = s.flash ∧
      (bundleFault s.flash s.dev.ident.variant slot = none → t.dev.get F.UPD_CMD_RESULT = 1 ∧
        t.dev.flag F.UPD_SLOT_STAT_VERIFIED slot = true ∧
        t.dev.flag F.UPD_SLOT_STAT_LIVE_OK slot = s.dev.liveWith (readImages s.flash slot)) ∧
      (∀ x, bundleFault s.flash s.dev.ident.variant slot = some x → t.dev.get F.UPD_CMD_RESULT = x.1 % 16 ∧
        t.dev.flag F.UPD_SLOT_STAT_VERIFIED slot = false ∧ t.dev.get F.UPD_SLOT_STAT_FAIL_TYPE slot = x.2.1 % 4 ∧
        t.dev.get F.UPD_SLOT_STAT_FAIL_BLOCK slot = x.2.2 % 8192)) := by
  have hrun : exec .updVerify s = .next ((s.verifySlot slot).1.onDev (fun d =>
      (d.countDev 296).updResult ((s.verifySlot slot).2.getD 1))) := by
    rw [← hslot]
    exact congrArg Host.Outcome.next (updTake_free (f := State.updVerify) hstage hfree)
  have hend (d : Dev) (n : Nat) : Only reports (alarmRegs ++ [.UPD_CMD]) d ((d.countDev 296).updResult n) :=
    .andThen (.countDev .refl _ _ (by decide)) (only_updResult _ n) (by decide) (by decide)
  refine completes_of_next hrun ?_
  have hread (f : Dev → Dev) (n : Nat) (x : State) : (x.onDev f |>.onDev (fun d => (d.countDev 296).updResult n)).dev =
      ((f x.dev).countDev 296).updResult n := rfl
  cases hfault : bundleFault s.flash s.dev.ident.variant slot with
  | none =>
    rw [verifySlot_of_good hfault]
    refine ⟨slotNamed_flash slot, fun _ => ?_, fun x hx => by cases hx⟩
    rw [hread]
    refine ⟨updResult_get _ 1, ?_, ?_⟩
    · rw [(hend _ _).flag _ _ (by decide)]
      exact slotGood_verified _ _ _
    · rw [(hend _ _).flag _ _ (by decide)]
      exact slotGood_live _ _ _
  | some x =>
    obtain ⟨r, t, b⟩ := x
    rw [verifySlot_of_bad hfault]
    refine ⟨by rw [onDev_flash, onDev_flash, slotNamed_flash], fun h => (by cases h), fun x hx => ?_⟩
    cases hx
    rw [hread]
    refine ⟨updResult_get _ r, ?_, ?_, ?_⟩
    · rw [(hend _ _).flag _ _ (by decide)]
      exact slotBad_verified _ _ _ _
    · rw [(hend _ _).get _ _ (by decide)]
      exact slotBad_type _ _ _ _
    · rw [(hend _ _).get _ _ (by decide)]
      exact slotBad_block _ _ _ _

/-- ACTIVATE for a RESTART, of another slot than the one in force. -/
theorem completes_updActivate {slot : Nat} (hstage : s.dev.stage ≠ 0) (hfree : s.dev.updBusy = false)
    (hslot : s.dev.get F.UPD_CFG_SLOT = slot) (hst : hdrState s.flash ≠ 1 ∧ hdrState s.flash ≠ 2) (hother : slot ≠ s.bundleSlot)
    (hmode : s.dev.flag F.UPD_CFG_MODE = false) (hrecovery : s.dev.stage ≠ 8) :
    Completes .updActivate s (fun t => t.dev.stage = s.dev.stage ∧
      (∀ x, bundleFault s.flash s.dev.ident.variant slot = some x → t.dev.get F.UPD_CMD_RESULT = x.1 % 16 ∧ t.flash = s.flash) ∧
      (bundleFault s.flash s.dev.ident.variant slot = none →
        if (checkCfg s.flash s.dev.ident.variant (readImages s.flash slot) (s.dev.get F.UPD_CFG_CFG_SLOT)).result = 1 then
          t.dev.get F.UPD_CMD_RESULT = 1 ∧ t.flash = hdrWrite s.flash (s.activated slot 1)
        else t.dev.get F.UPD_CMD_RESULT = 9 ∧ t.flash = s.flash)) := by
  subst hslot
  have hrun : exec .updActivate s = .next s.updActivate := congrArg Host.Outcome.next (updTake_free hstage hfree)
  have hshow (d : Dev) (n : Nat) : (d.updResult n).stage = d.stage := (only_updResult d n).stage (by decide)
  have hverified : (slotVerified s).dev.stage = s.dev.stage := (only_verifySlot s _).stage (by decide)
  have hchecked : (cfgChecked s).1.dev.stage = s.dev.stage := (only_cfgChecked s).stage (by decide)
  refine completes_of_next hrun ?_
  cases hfault : bundleFault s.flash s.dev.ident.variant (s.dev.get F.UPD_CFG_SLOT) with
  | some x =>
    obtain ⟨r, t, b⟩ := x
    rw [updActivate_of_fault hst hother (congrArg Prod.snd (verifySlot_of_bad hfault))]
    refine ⟨by rw [onDev_dev, hshow, hverified], fun x hx => ?_, fun h => (by cases h)⟩
    cases hx
    exact ⟨updResult_get _ r, by rw [onDev_flash]; exact verifySlot_flash s _⟩
  | none =>
    have hgood := congrArg Prod.snd (verifySlot_of_good hfault)
    rw [← cfgChecked_result]
    by_cases hcfg : (cfgChecked s).2.result = 1
    · rw [updActivate_of_restart hst hother hgood hcfg hmode, beq_false_of_ne hrecovery]
      refine ⟨?_, fun x hx => (by cases hx), fun _ => ?_⟩
      · have hcount (d : Dev) : (d.countDev 297).stage = d.stage :=
          (Only.refl.countDev (P := reports) (R := alarmRegs) _ _ (by decide)).stage (by decide)
        rw [onDev_dev, hshow, onDev_dev, hcount, (only_refreshUpd _).stage (by decide), hchecked]
      · rw [if_pos hcfg, onDev_flash, onDev_flash, State.refreshUpd, onDev_flash]
        refine ⟨updResult_get _ 1, ?_⟩
        have hhdr := activated_congr (s := s) (x := (cfgChecked s).1) (s.dev.get F.UPD_CFG_SLOT) 1 (cfgChecked_flash s)
          ((only_cfgChecked s).word _ _ (by decide))
        dsimp only
        rw [cfgChecked_flash, if_neg (by decide), hhdr]
    · rw [updActivate_of_config hst hother hgood hcfg, if_neg hcfg]
      refine ⟨by rw [onDev_dev, hshow, hchecked], fun x hx => (by cases hx), fun _ => ⟨updResult_get _ 9, ?_⟩⟩
      rw [onDev_flash, cfgChecked_flash]

theorem updBusy_refuses (hstage : s.dev.stage ≠ 0) (hbusy : s.dev.updBusy = true) :
    ∀ c ∈ [Instr.updVerify, .updActivate, .updErase, .updFlush], Completes c s (fun t =>
      t.dev.get F.UPD_CMD_RESULT = 3 ∧ Frame [] [.UPD_CMD] s t) := by
  intro c hc
  have hrefused : exec c s = .next (s.onDev (·.updResult 3)) := by
    simp only [List.mem_cons, List.not_mem_nil, or_false] at hc
    rcases hc with rfl | rfl | rfl | rfl
    · exact congrArg Host.Outcome.next (updTake_busy hstage hbusy)
    · exact congrArg Host.Outcome.next (updTake_busy hstage hbusy)
    · exact congrArg Host.Outcome.next (updTake_busy hstage hbusy)
    · exact congrArg Host.Outcome.next (updTake_busy hstage hbusy)
  exact completes_of_next hrefused ⟨updResult_get _ 3, frame_updResult s 3⟩

/-- ERASE. -/
theorem completes_updErase {a : Nat} (hstage : s.dev.stage ≠ 0) (hfree : s.dev.updBusy = false)
    (ha : s.dev.get F.UPD_ERASE_ADDR_ADDR / 65536 * 65536 = a) :
    (s.nvmBarred a = false → Completes .updErase s (fun t => t.dev.sys.eraseAt = some a ∧ t.dev.flag F.UPD_STAT_NVM_BUSY = true ∧
      t.dev.get F.UPD_CMD_RESULT = 2 ∧ Frame [.sys] [.UPD_STAT, .UPD_CMD] s t)) ∧
    (s.nvmBarred a = true → Completes .updErase s (fun t => t.dev.sys = s.dev.sys ∧ t.dev.flag F.UPD_STAT_WRITE_REFUSED = true ∧
      t.dev.get F.UPD_CMD_RESULT = 0xE)) := by
  subst ha
  have hrun : exec .updErase s = .next s.updErase := congrArg Host.Outcome.next (updTake_free hstage hfree)
  refine ⟨fun hallowed => ?_, fun hbarred => ?_⟩
  · refine completes_of_next hrun ?_
    rw [updErase_of_free hallowed]
    refine ⟨?_, eraseBegun_busy _ _, updStarts_get _, only_eraseBegun _ _, onDev_flash s _, onDev_pending s _⟩
    rw [onDev_dev, eraseBegun_sys]
  · refine completes_of_next hrun ?_
    rw [updErase_of_barred hbarred]
    have hcount (d : Dev) : Only reports alarmRegs d (d.countDev 300) := .countDev .refl _ _ (by decide)
    refine ⟨?_, ?_, updResult_get _ 0xE⟩
    · rw [onDev_dev, (only_updResult _ _).sys (by decide), (only_nvmRefuse _).sys (by decide)]
    · rw [onDev_dev, (only_updResult _ _).flag _ _ (by decide), Dev.nvmRefuse, (hcount _).flag _ _ (by decide)]
      exact flag_setB_same _ _ _ _ (by decide) (by decide)

/-- FLUSH. -/
theorem completes_updFlush (hstage : s.dev.stage ≠ 0) (hfree : s.dev.updBusy = false) (hidle : s.dev.nvmBusy = false) :
    (s.dev.sys.page = none → Completes .updFlush s (fun t => t.dev.get F.UPD_CMD_RESULT = 1 ∧ Frame [] [.UPD_CMD] s t)) ∧
    (∀ (pg : Nat × List (Nat × Byte)), s.dev.sys.page = some pg → Completes .updFlush s (fun t => t.dev.get F.UPD_CMD_RESULT = 2 ∧
      t.dev.sys.page = none ∧ t.dev.sys.progPage = some pg ∧ t.dev.flag F.UPD_STAT_NVM_BUSY = true ∧
      Frame [.sys] [.UPD_STAT, .UPD_CMD] s t)) := by
  have hrun : exec .updFlush s = .next s.updFlush := congrArg Host.Outcome.next (updTake_free hstage hfree)
  refine ⟨fun hpage => ?_, fun p hpage => ?_⟩
  · refine completes_of_next hrun ?_
    rw [updFlush_of_empty hpage hidle]
    exact ⟨updResult_get _ 1, frame_updResult s 1⟩
  · refine completes_of_next hrun ?_
    rw [updFlush_of_page hpage]
    have honly (d : Dev) : Only [.sys] [.UPD_STAT, .UPD_CMD] d (programBegun p d).updStarts :=
      ((only_programBegun p d).weaken (by decide) (by decide)).andThen (only_updStarts _) (by decide) (by decide)
    have hsys (d : Dev) : (programBegun p d).updStarts.sys = { d.sys with page := none, progPage := some p, updRuns := true } := by
      rw [updStarts_sys, programBegun_sys]
    refine ⟨updStarts_get _, ?_, ?_, ?_, honly _, onDev_flash s _, onDev_pending s _⟩
    · rw [onDev_dev, hsys]
    · rw [onDev_dev, hsys]
    · rw [onDev_dev, (only_updStarts _).flag _ _ (by decide)]
      exact programBegun_shown p _

/-- Settles O42: a command is refused while one runs, and else answers as its own part of R332 to R337 says; erase and page
program end the command that waits for them. -/
theorem updateCommands : Obligations.UpdateCommands := by
  refine ⟨fun s a slot hstage => ⟨updBusy_refuses hstage, fun hfree hslot => ⟨completes_updVerify hstage hfree hslot,
    fun h1 h2 hother hmode h8 => completes_updActivate hstage hfree hslot ⟨h1, h2⟩ hother hmode h8, fun htrial => ?_,
    completes_updErase hstage hfree, completes_updFlush hstage hfree⟩⟩,
    fun s a pg l hw hr hheld hwaiting hruns hstep => ⟨fun he hp => ?_, fun hp he hread => ?_, fun hp hmis => ?_⟩⟩
  · refine completes_of_next (t := s.updActivate) (congrArg Host.Outcome.next (updTake_free hstage hfree)) ?_
    rw [updActivate_on_trial htrial]
    exact ⟨updResult_get _ 13, frame_updResult s 13⟩
  · have hend := eraseDone_of_erase he hp
    obtain ⟨hsys, hbusy, hresult⟩ := workEnded (d := s.dev) (f := fun y => { y with eraseAt := none }) hruns hstep rfl hp
    refine completes_of_next (t := s.eraseDone.flashFree) rfl ?_
    rw [eraseDone_flashFree hw hr hheld hwaiting he hp, hend]
    exact ⟨onDev_flash _ _, congrArg Sys.eraseAt hsys, hbusy, hresult, only_eraseEnded _⟩
  · have hgood : misread s.flash pg l = false := by
      rw [misread, List.any_eq_false]
      intro e he'
      simp [hread e he']
    have hend := programDone_of_page hp
    have hfree := programDone_flashFree hw hr hheld hwaiting hp
    rw [hgood] at hend
    obtain ⟨hsys, hbusy, hresult⟩ := workEnded (d := s.dev) (f := fun y => { y with progPage := none }) hruns hstep he rfl
    refine completes_of_next (t := s.programDone.flashFree) rfl ?_
    rw [hfree, hend]
    exact ⟨onDev_flash _ _, congrArg Sys.progPage hsys, hbusy, hresult, only_programEnded_good _⟩
  · have hbad : misread s.flash pg l = true := by
      obtain ⟨e, he, hne⟩ := hmis
      rw [misread, List.any_eq_true]
      exact ⟨e, he, by simp [hne]⟩
    have hend := programDone_of_page hp
    rw [hbad] at hend
    refine completes_of_next (t := s.programDone.flashFree) rfl ?_
    rw [programDone_flashFree hw hr hheld hwaiting hp, hend]
    exact ⟨onDev_flash _ _, programEnded_error _⟩

end Sys2Proof.Proofs

/-! SUPPORT. Laws of the configuration commands and of the records that the module writes about itself. -/

namespace Sys2Proof.Laws

open Sys2Proof.Machine Sys2Proof.Safety

variable {s : State}

/-! ## Configuration commands -/

theorem cfgRuns_get (d : Dev) (r : Nat) : (d.cfgRuns r).get F.GLB_CFG_CMD_RESULT = 2 := by
  rw [Dev.cfgRuns, onSys_get]
  exact get_set_same _ _ _ _ (by decide)

theorem cfgRuns_sys (d : Dev) (r : Nat) : (d.cfgRuns r).sys = { d.sys with cfgRun := some r } := by
  have hset : Only [] [.GLB_CFG_CMD] d (d.set F.GLB_CFG_CMD_RESULT 2) := .set .refl _ _ _ (by decide)
  rw [Dev.cfgRuns, onSys_sys, hset.sys (by decide)]

theorem only_globSet (d : Dev) (v : Nat) : Only [] [.GLB_CFG_CMD] d (d.globReach (·.set F.GLB_CFG_CMD_SLOT v)) := by
  unfold Dev.globReach
  split
  · exact .refl
  · exact .set .refl _ _ _ (by decide)

theorem cfgTake_free {f : State → State} (hstage : s.dev.stage ≠ 0) (h : s.dev.sys.cfgRun = none) : s.cfgTake f = f s := by
  rw [State.cfgTake, if_neg hstage, if_neg (by simp [h])]

/-- The state in which SLOT of GLB_CFG_CMD is written. -/
def slotNamedCfg (s : State) (v : Nat) : State := s.onDev (·.globReach (·.set F.GLB_CFG_CMD_SLOT v))

/-- A check of a slot is that of the state before SLOT was written. -/
theorem slotNamedCfg_check (v slot : Nat) : checkCfg (slotNamedCfg s v).flash (slotNamedCfg s v).dev.ident.variant
    (slotNamedCfg s v).dev.sys.images slot = checkCfg s.flash s.dev.ident.variant s.dev.sys.images slot := by
  have honly := only_globSet s.dev v
  have hident : (slotNamedCfg s v).dev.ident = s.dev.ident := honly.part .ident (by decide)
  have hsys : (slotNamedCfg s v).dev.sys = s.dev.sys := honly.sys (by decide)
  have hflash : (slotNamedCfg s v).flash = s.flash := onDev_flash s _
  rw [hident, hsys, hflash]

theorem slotNamedCfg_take {f : State → State} (v : Nat) (hstage : s.dev.stage ≠ 0) (h : s.dev.sys.cfgRun = none) :
    (slotNamedCfg s v).cfgTake f = f (slotNamedCfg s v) := by
  have honly := only_globSet s.dev v
  have hsys : (slotNamedCfg s v).dev.sys = s.dev.sys := honly.sys (by decide)
  have hst : (slotNamedCfg s v).dev.stage = s.dev.stage := honly.stage (by decide)
  exact cfgTake_free (by rw [hst]; exact hstage) (by rw [hsys]; exact h)

theorem judgeConfigNone_get (d : Dev) (g : Fld) (u : Nat) (hg : g.reg ∉ alarmRegs) : d.judgeConfigNone.get g u = d.get g u := by
  have h : Only reports alarmRegs d d.judgeConfigNone := .cond .refl _ _ (by decide)
  exact h.get g u hg

/-- The slot that an application of Firn records leaves in GLB_BOOT_STAT. -/
theorem applyFirn_slot (s : State) (slot : Nat) (c : CfgCheck) :
    (s.applyFirn slot c).dev.get F.GLB_BOOT_STAT_CFG_SLOT = slot % 4 := by
  unfold State.applyFirn
  rw [onDev_dev, onSys_get, get_set_apart _ _ _ _ _ _ (by decide) (by decide)]
  exact get_set_same _ _ _ _ (by decide)

/-- RELOAD while the fast domain is OFF: the Firn records of an image that passes are applied. -/
theorem cfgReload_of_off (h : s.dev.fast = 0) : ∃ x : State,
    s.cfgReload = x.onDev (fun d => d.judgeConfigNone.cfgRuns
      (checkCfg s.flash s.dev.ident.variant s.dev.sys.images (hdrNow s.flash).configSel).result) ∧
    ((checkCfg s.flash s.dev.ident.variant s.dev.sys.images (hdrNow s.flash).configSel).result = 1 →
      x.dev.get F.GLB_BOOT_STAT_CFG_SLOT = (hdrNow s.flash).configSel % 4) := by
  have hoff (c : CfgCheck) : (s.onDev (checkNoted c)).dev.fastOn = false := by
    have hfast : (checkNoted c s.dev).fast = 0 := ((only_checkNoted c s.dev).get _ _ (by decide)).trans h
    rw [onDev_dev, Dev.fastOn, hfast]
    rfl
  unfold State.cfgReload
  dsimp only
  rw [if_neg (by simp [h]), checkSlot_eq]
  dsimp only
  rw [hoff]
  by_cases hc : (checkCfg s.flash s.dev.ident.variant s.dev.sys.images (hdrNow s.flash).configSel).result = 1
  · rw [if_pos hc]
    exact ⟨_, rfl, fun _ => applyFirn_slot _ _ _⟩
  · rw [if_neg hc]
    exact ⟨_, rfl, fun h => absurd h hc⟩

/-! ## Settings records -/

theorem writeSettings_flash (s : State) (model : List Byte) : (s.writeSettings model).flash = setAppend s.flash (s.settingsRecord model) := by
  rw [State.writeSettings, onDev_flash]

/-- The device once a record is written: it is counted and in force. -/
theorem writeSettings_dev (s : State) (model : List Byte) :
    (s.writeSettings model).dev = (s.dev.countDev 290).onSys (fun y => { y with settings := s.settingsRecord model }) := by
  rw [State.writeSettings, onDev_dev]

theorem only_settingsWritten (s : State) (model : List Byte) : Only (reports ++ [.sys]) alarmRegs s.dev (s.writeSettings model).dev := by
  rw [writeSettings_dev]
  exact .onSys (.countDev .refl _ _ (by decide)) _ (by decide)

theorem writeSettings_settings (s : State) (model : List Byte) : (s.writeSettings model).dev.sys.settings = s.settingsRecord model := by
  rw [writeSettings_dev, onSys_sys]

/-- A timebase whose rates have been written, if they were due. -/
def ratesSaved (t : Timebase) : Timebase := if t.due then { t with savedH := t.learnMs / 3600000 } else t

theorem saved_due (t : Timebase) : (ratesSaved t).due = false := by
  unfold ratesSaved
  split
  · simp [Timebase.due]
  · simpa using ‹¬ t.due = true›

theorem saved_eq (t : Timebase) : ratesSaved t = { t with savedH := (ratesSaved t).savedH } := by
  unfold ratesSaved
  split <;> rfl

theorem modelWrite_of_due (hlow : 2 ≤ s.dev.stage) (h8 : s.dev.stage ≠ 8) (h : s.dev.tbA.due = true ∨ s.dev.tbB.due = true) :
    s.modelWrite = (s.writeSettings (putModel (putModel s.dev.modelBytes 0 s.dev.tbA) 1 s.dev.tbB)).onDev (fun d =>
      { d with tbA := ratesSaved d.tbA, tbB := ratesSaved d.tbB }) := by
  have hdue : (s.dev.tbA.due || s.dev.tbB.due) = true := by simpa using h
  unfold State.modelWrite
  exact if_neg (by simp [hdue, h8, Nat.not_lt.mpr hlow])

/-! ## The retention refresh -/

/-- The flash after the refresh of the next sector of the list. -/
def sectorRefreshed (s : State) : List Host.Cell :=
  refreshSector s.flash (refreshList.getD (refreshList.length - s.dev.get F.FIRN_REFRESH_STAT_SECTORS_LEFT) 0)

/-- A sector has been refreshed while others are left. -/
theorem refreshStep_of_run (hlow : 2 ≤ s.dev.stage) (h8 : s.dev.stage ≠ 8) (hidle : s.dev.flag F.UPD_STAT_NVM_BUSY = false)
    (hrun : s.dev.flag F.FIRN_REFRESH_STAT_RUNNING = true) (hleft : 2 ≤ s.dev.get F.FIRN_REFRESH_STAT_SECTORS_LEFT) :
    s.refreshStep = ({ s with flash := sectorRefreshed s } : State).onDev (fun d =>
      ((d.countDev 293).set F.FIRN_REFRESH_STAT_SECTORS_LEFT (s.dev.get F.FIRN_REFRESH_STAT_SECTORS_LEFT - 1)).setB
        F.FIRN_REFRESH_STAT_RUNNING true) := by
  have hgo : ¬ (s.dev.stage < 2 || s.dev.stage == 8 || s.dev.flag F.UPD_STAT_NVM_BUSY ||
      !(s.dev.flag F.FIRN_REFRESH_STAT_RUNNING || decide (s.dev.sys.refreshH + 87600 ≤ s.dev.get F.FIRN_LIFE_POWER_ON_HOURS))) = true := by
    simp [hidle, hrun, h8, Nat.not_lt.mpr hlow]
  unfold State.refreshStep
  dsimp only
  rw [if_neg hgo, hrun, if_pos rfl, decide_eq_true (by omega : 1 < s.dev.get F.FIRN_REFRESH_STAT_SECTORS_LEFT),
    decide_eq_false (by omega : ¬ s.dev.get F.FIRN_REFRESH_STAT_SECTORS_LEFT ≤ 1)]
  rfl

end Sys2Proof.Laws

/-! Configuration commands and the module's own records (12_boot_and_configuration.md). -/

namespace Sys2Proof.Proofs

open Sys2Proof.Machine Sys2Proof.Safety Sys2Proof.Laws

/-- Settles O10: the result of a check is kept for the command's end whatever it leads to, and each record of the module is written as
its operation says. -/
theorem configurationCommands : Obligations.ConfigurationCommands := by
  refine ⟨fun s slot hstage => ⟨fun hfree => ⟨?_, ?_, fun hoff hupdating => ?_⟩, fun r hrun => ?_⟩, fun s hlow h8 =>
    ⟨?_, fun hdue => ?_, fun hidle hrun hleft => ?_⟩⟩
  · refine completes_of_next (t := (slotNamedCfg s slot.val).cfgCheck slot.val)
      (congrArg Host.Outcome.next (slotNamedCfg_take slot.val hstage hfree)) ?_
    unfold State.cfgCheck
    rw [checkSlot_eq, slotNamedCfg_check]
    exact ⟨cfgRuns_get _ _, (onDev_flash _ _).trans ((onDev_flash _ _).trans (onDev_flash s _)), by rw [onDev_dev, cfgRuns_sys]⟩
  · refine completes_of_next (t := (slotNamedCfg s slot.val).cfgActivate slot.val)
      (congrArg Host.Outcome.next (slotNamedCfg_take slot.val hstage hfree)) ?_
    have hflash : (slotNamedCfg s slot.val).flash = s.flash := onDev_flash s _
    unfold State.cfgActivate
    rw [checkSlot_eq, slotNamedCfg_check]
    refine ⟨cfgRuns_get _ _, by rw [onDev_dev, cfgRuns_sys], ?_⟩
    rw [onDev_flash, State.refreshUpd, onDev_flash]
    dsimp only
    split
    · rw [onDev_flash, hflash]
    · rw [onDev_flash, hflash]
  · have htake : s.reloadTake = s.cfgReload := by
      rw [State.reloadTake, if_neg (by simp [hupdating]), cfgTake_free hstage hfree]
    obtain ⟨x, hx, hslot⟩ := cfgReload_of_off hoff
    refine completes_of_next (t := s.cfgReload) (congrArg Host.Outcome.next htake) ?_
    rw [hx]
    refine ⟨cfgRuns_get _ _, by rw [onDev_dev, cfgRuns_sys], fun hc => ?_⟩
    rw [onDev_dev, (only_cfgRuns _ _).get _ _ (by decide), judgeConfigNone_get _ _ _ (by decide)]
    exact hslot hc
  · have hexec : exec .cfgCommandDone s =
        .next (s.onDev (fun d => (d.set F.GLB_CFG_CMD_RESULT r).onSys (fun y => { y with cfgRun := none }))) := by
      have h : (match s.dev.sys.cfgRun with
          | some r => (s.dev.set F.GLB_CFG_CMD_RESULT r).onSys (fun y => { y with cfgRun := none })
          | none => s.dev) = (s.dev.set F.GLB_CFG_CMD_RESULT r).onSys (fun y => { y with cfgRun := none }) := by rw [hrun]
      exact congrArg (fun d => Host.Outcome.next { s with dev := d }) h
    have honly (d : Dev) : Only [.sys] [.GLB_CFG_CMD] d ((d.set F.GLB_CFG_CMD_RESULT r).onSys (fun y => { y with cfgRun := none })) :=
      .onSys (.set .refl _ _ _ (by decide)) _ (by decide)
    refine completes_of_next hexec ⟨?_, rfl, honly _, rfl, rfl⟩
    rw [onDev_dev, onSys_get]
    exact get_set_same _ _ _ _ (by decide)
  · have hexec : exec .settingsPeriodicWrite s = .next (s.writeSettings s.dev.modelBytes) :=
      congrArg Host.Outcome.next (if_neg (by simp [h8, Nat.not_lt.mpr hlow]))
    exact completes_of_next hexec ⟨writeSettings_flash _ _, writeSettings_settings _ _⟩
  · refine completes_of_next (t := s.modelWrite) rfl ?_
    have hkept := only_settingsWritten s (putModel (putModel s.dev.modelBytes 0 s.dev.tbA) 1 s.dev.tbB)
    have hA := hkept.part .tbA (by decide)
    have hB := hkept.part .tbB (by decide)
    rw [modelWrite_of_due hlow h8 hdue]
    refine ⟨?_, writeSettings_settings _ _, saved_due _, saved_due _, ?_, ?_⟩
    · rw [onDev_flash, writeSettings_flash]
    · rw [onDev_dev]
      dsimp only
      rw [hA]
      exact saved_eq _
    · rw [onDev_dev]
      dsimp only
      rw [hB]
      exact saved_eq _
  · refine completes_of_next (t := s.refreshStep) rfl ?_
    have hlt : s.dev.get F.FIRN_REFRESH_STAT_SECTORS_LEFT < 2 ^ 10 := bitsOf_lt _ _ _
    rw [refreshStep_of_run hlow h8 hidle hrun hleft]
    refine ⟨?_, flag_setB_same _ _ _ _ (by decide) (by decide), by rw [onDev_flash, sectorRefreshed]⟩
    rw [onDev_dev, get_setB_apart _ _ _ _ _ _ (by decide) (by decide), get_set_same _ _ _ _ (by decide)]
    exact Nat.mod_eq_of_lt (by
      show _ < 2 ^ 10
      omega)

end Sys2Proof.Proofs

/-! SUPPORT. What the power of lanes, banks and cores, and every write of a fast register, leaves: the part, the processors that run,
the state of the fast domain and the registers of start-up. -/

namespace Sys2Proof.Laws

open Sys2Proof.Machine Sys2Proof.Safety

/-- The system's own state but for what is gated and the log of refused configuration writes. -/
def sysCore (y : Sys) : Sys := { y with slicesOff := 0, coresOff := 0, lpllOff := 0, cfgLog := [] }

/-- Registers of start-up, reset and the versions that run. -/
def bootRegs : List Reg := [.GLB_BOOT_STAT, .GLB_RESET, .UPD_IFVER0, .UPD_IFVER1, .UPD_IFVER2]

/-- The part, the processors, the state of the fast domain and the registers of start-up but for FAST_SLOT are as before. -/
structure Running (d e : Dev) : Prop where
  ident : e.ident = d.ident
  sys : sysCore e.sys = sysCore d.sys
  fast : e.fast = d.fast
  get : ∀ g u, g.reg ∈ bootRegs → apart F.GLB_BOOT_STAT_FAST_SLOT g = true → e.get g u = d.get g u

/-- A footprint that lies beside all of this. -/
def besideBoot (P : List Part) (R : List Reg) : Bool :=
  !P.contains .ident && !P.contains .sys && (Reg.PWR_STAT :: bootRegs).all (fun r => !R.contains r)

/-- A field that lies beside all of this. -/
def fieldBesideBoot (f : Fld) : Bool := !bootRegs.contains f.reg && decide (f.lo + f.width ≤ 32) && apart f F.PWR_STAT_FAST

theorem reporting_of_boot : ∀ r ∈ bootRegs, reporting r = false := by decide

variable {P : List Part} {R : List Reg} {x d e : Dev}

namespace Running

theorem refl (d : Dev) : Running d d := ⟨rfl, rfl, rfl, fun _ _ _ _ => rfl⟩
theorem trans (h : Running x d) (k : Running d e) : Running x e :=
  ⟨k.ident.trans h.ident, k.sys.trans h.sys, k.fast.trans h.fast, fun g u hr ha => (k.get g u hr ha).trans (h.get g u hr ha)⟩
theorem after (k : Running d e) (h : Running x d) : Running x e := h.trans k

theorem of_regs (hi : e.ident = d.ident) (hs : sysCore e.sys = sysCore d.sys) (hr : e.regs = d.regs) : Running d e := by
  have hword (r : Reg) (u : Nat) : e.word r u = d.word r u := by rw [Dev.word, hr, Dev.word]
  exact ⟨hi, hs, by rw [Dev.fast, Dev.fast, Dev.get, Dev.get, hword], fun g u _ _ => by rw [Dev.get, Dev.get, hword]⟩
theorem of_eq (h : Running x d) (hi : e.ident = d.ident) (hs : e.sys = d.sys) (hr : e.regs = d.regs) : Running x e :=
  h.trans (of_regs hi (by rw [hs]) hr)

theorem of_only (k : Only P R d e) (h : besideBoot P R = true) : Running d e := by
  simp only [besideBoot, Bool.and_eq_true, Bool.not_eq_true', List.all_eq_true, List.contains_eq_mem, decide_eq_false_iff_not] at h
  obtain ⟨⟨hi, hs⟩, hr⟩ := h
  exact ⟨k.part .ident hi, by rw [k.sys hs], k.get _ _ (hr _ (List.mem_cons_self ..)),
    fun g u hm _ => k.get g u (hr _ (List.mem_cons_of_mem _ hm))⟩

theorem of_report (k : Report d e) : Running d e :=
  ⟨k.ident, by rw [k.sys], k.get _ _ rfl, fun g u hm _ => k.get g u (reporting_of_boot _ hm)⟩

theorem when (h : Running x d) (b : Bool) (f : Dev → Dev) (k : Running d (f d)) : Running x (d.when b f) := by
  cases b
  · exact h
  · exact h.trans k

theorem each {α : Type} (h : Running x d) (l : List α) (f : Dev → α → Dev) (k : ∀ e a, Running e (f e a)) : Running x (d.each l f) := by
  unfold Dev.each
  induction l generalizing d with
  | nil => exact h
  | cons a l ih => exact ih (h.trans (k d a))

theorem set (h : Running x d) (f : Fld) (v u : Nat) (hf : fieldBesideBoot f = true) : Running x (d.set f v u) := by
  simp only [fieldBesideBoot, Bool.and_eq_true, Bool.not_eq_true', List.contains_eq_mem, decide_eq_false_iff_not,
    decide_eq_true_eq] at hf
  obtain ⟨⟨hr, hw⟩, ha⟩ := hf
  refine h.trans ⟨rfl, rfl, get_set_apart d f _ v u 0 hw ha, fun g w hm _ => ?_⟩
  have hne : g.reg ≠ f.reg := fun hh => hr (hh ▸ hm)
  rw [Dev.get, Dev.get, word_set_other d f v u g.reg w (fun hh => hne hh.1)]

theorem setMark (h : Running x d) (f ch : Fld) (v u : Nat) (hf : fieldBesideBoot f = true) (hch : fieldBesideBoot ch = true) :
    Running x (d.setMark f v ch u) := by
  unfold Dev.setMark
  split
  · exact h
  · exact (h.set _ _ _ hf).set _ _ _ hch

theorem setWord (h : Running x d) (r : Reg) (u : Nat) (w : Word) (hr : (Reg.PWR_STAT :: bootRegs).contains r = false) :
    Running x (d.setWord r u w) := by
  simp only [List.contains_eq_mem, decide_eq_false_iff_not, List.mem_cons, not_or] at hr
  obtain ⟨hp, hb⟩ := hr
  refine h.trans ⟨rfl, rfl, get_setWord_other d r _ w u 0 (fun hh => hp hh.1.symm), fun g k hg _ => get_setWord_other d r g w u k (fun hh => hb (hh.1 ▸ hg))⟩

theorem store (h : Running x d) (r : Reg) (u : Nat) (v : Word) (hr : (Reg.PWR_STAT :: bootRegs).contains r = false) :
    Running x (d.store r u v) := h.setWord r u _ hr

theorem onSys (h : Running x d) (f : Sys → Sys) (hf : ∀ y, sysCore (f y) = sysCore y) : Running x (d.onSys f) :=
  h.trans (of_regs rfl (hf _) rfl)

theorem setB (h : Running x d) (f : Fld) (b : Bool) (u : Nat) (hf : fieldBesideBoot f = true) : Running x (d.setB f b u) :=
  h.set f _ u hf
theorem quadSet (h : Running x d) (f : Fld) (v p : Nat) (hf : fieldBesideBoot f = true) : Running x (d.quadSet f v p) :=
  h.setMark _ _ _ _ hf (by decide)
theorem laneBit (h : Running x d) (f : Fld) (b : Bool) (l : Nat) (hf : fieldBesideBoot f = true) : Running x (d.laneBit f b l) :=
  h.setMark _ _ _ _ hf (by decide)
theorem ptuBit (h : Running x d) (f : Fld) (b : Bool) (p : Nat) (hf : fieldBesideBoot f = true) : Running x (d.ptuBit f b p) :=
  h.setMark _ _ _ _ hf (by decide)

theorem onSw (h : Running x d) (f : Switch → Switch) : Running x (d.onSw f) := h.of_eq rfl rfl rfl
theorem onPort (h : Running x d) (p : Nat) (f : Port → Port) : Running x (d.onPort p f) := h.of_eq rfl rfl rfl
theorem onPtu (h : Running x d) (p : Nat) (f : PtuPort → PtuPort) : Running x (d.onPtu p f) := h.of_eq rfl rfl rfl
theorem onInst (h : Running x d) (i : Nat) (f : PtpInst → PtpInst) : Running x (d.onInst i f) := h.of_eq rfl rfl rfl
theorem onChan (h : Running x d) (src dst : Nat) (f : Chan → Chan) : Running x (d.onChan src dst f) := h.of_eq rfl rfl rfl
theorem onCpMail (h : Running x d) (m : CpMail) : Running x { d with cpMail := m } := h.of_eq rfl rfl rfl
theorem spendFree (h : Running x d) : Running x d.spendFree := h.of_eq rfl rfl rfl

/-- The slot of the fast records is shown. -/
theorem fastSlot (h : Running x d) (v : Nat) : Running x (d.set F.GLB_BOOT_STAT_FAST_SLOT v) :=
  h.trans ⟨rfl, rfl, get_set_apart _ _ _ _ _ _ (by decide) (by decide), fun g u _ ha => get_set_apart _ _ g _ _ u (by decide) ha⟩

theorem stage (h : Running d e) : e.stage = d.stage := h.get _ _ (by decide) (by decide)

end Running

theorem running_judgeBanks (d : Dev) : Running d d.judgeBanks := by
  have honly := only_judgeBanks d
  refine ⟨honly.part .ident (by decide), by rw [honly.sys (by decide)], judgeBanks_get besideBanks_fast 0, fun g u hg _ => honly.get g u ?_⟩
  have hbeside : ∀ r ∈ bootRegs, r ∉ [Reg.ALM_ACTIVE, .ALM_LATCH, .PWR_STAT, .SW_BUF_GATED] := by decide
  exact hbeside _ hg

theorem running_restartLpll (d : Dev) (k : Nat) : Running d (d.restartLpll k) := by
  unfold Dev.restartLpll
  try dsimp only
  repeat' first
    | with_reducible exact Running.refl _
    | with_reducible refine Running.onSys ?_ _ (fun _ => rfl)
    | with_reducible refine (Running.of_only (only_startInternal _ _) (by decide)).after ?_
    | split

theorem running_wakeTx (d : Dev) (p : Nat) : Running d (d.wakeTx p) := by
  unfold Dev.wakeTx
  try dsimp only
  repeat' first
    | with_reducible exact Running.refl _
    | with_reducible refine Running.quadSet ?_ _ _ _ (by decide)
    | with_reducible refine Running.onPort ?_ _ _
    | with_reducible refine (Running.of_report (report_countPort _ _ _ _)).after ?_
    | with_reducible refine (running_judgeBanks _).after ?_
    | with_reducible refine (running_restartLpll _ _).after ?_
    | split

theorem running_judgeSleep (d : Dev) (p : Nat) : Running d (d.judgeSleep p) := by
  unfold Dev.judgeSleep
  try dsimp only
  repeat' first
    | with_reducible exact Running.refl _
    | with_reducible refine (Running.of_only (only_refreshPower _ _) (by decide)).after ?_
    | with_reducible refine (running_wakeTx _ _).after ?_
    | split

theorem running_judgeSleeps (d : Dev) : Running d d.judgeSleeps := by
  unfold Dev.judgeSleeps
  try dsimp only
  repeat' first
    | with_reducible exact Running.refl _
    | with_reducible refine (running_judgeSleep _ _).after ?_
    | with_reducible refine Running.each ?_ _ _ (fun _ _ => ?_)
    | split

theorem running_link (d : Dev) (p q : Nat) (l : Link) : Running d (d.link p q l) := by
  unfold Dev.link
  try dsimp only
  repeat' first
    | with_reducible exact Running.refl _
    | with_reducible refine (Running.of_only (only_judgeIdle _ _) (by decide)).after ?_
    | with_reducible refine (Running.of_only (only_onFrame _ _ _) (by decide)).after ?_
    | with_reducible refine (Running.of_only (only_setQueue _ _ _ _) (by decide)).after ?_
    | with_reducible refine (running_wakeTx _ _).after ?_

theorem running_spoilTx (d : Dev) (f : Nat) : Running d (d.spoilTx f) := by
  unfold Dev.spoilTx
  try dsimp only
  repeat' first
    | with_reducible exact Running.refl _
    | with_reducible refine Running.onSw ?_ _

theorem running_spoilFrame (d : Dev) (fid : Nat) : Running d (d.spoilFrame fid) := by
  unfold Dev.spoilFrame
  try dsimp only
  repeat' first
    | with_reducible exact Running.refl _
    | with_reducible refine Running.onSw ?_ _
    | with_reducible refine (Running.of_only (only_dropLinks _ _) (by decide)).after ?_
    | with_reducible refine (Running.of_only (only_onFrame _ _ _) (by decide)).after ?_
    | with_reducible refine (Running.of_only (only_refreshHeld _ _) (by decide)).after ?_
    | with_reducible refine (Running.of_only (only_release _ _) (by decide)).after ?_
    | with_reducible refine (running_spoilTx _ _).after ?_
    | split

theorem running_offer (d : Dev) (p q fid lc : Nat) (copy : Option Nat) : Running d (d.offer p q fid lc copy).1 := by
  unfold Dev.offer
  try dsimp only
  repeat' first
    | with_reducible exact Running.refl _
    | with_reducible refine Running.spendFree ?_
    | with_reducible refine (Running.of_report (report_portEvent _ _ _ _ _)).after ?_
    | with_reducible refine (Running.of_only (only_chargeFrame _ _ _ _) (by decide)).after ?_
    | with_reducible refine (Running.of_only (only_judgeIdle _ _) (by decide)).after ?_
    | with_reducible refine (running_link _ _ _ _).after ?_
    | with_reducible refine (Running.of_only (only_onFrame _ _ _) (by decide)).after ?_
    | with_reducible refine (Running.of_only (only_redUpdate _ _ _) (by decide)).after ?_
    | with_reducible refine (Running.of_only (only_refuse _ _ _ _) (by decide)).after ?_
    | with_reducible refine (Running.of_only (only_setTail _ _ _ _) (by decide)).after ?_
    | with_reducible refine (running_wakeTx _ _).after ?_
    | with_reducible refine Running.when ?_ _ _ ?_
    | split

theorem running_takeCopy (d : Dev) (fid : Nat) (c : MirCopy) : Running d (d.takeCopy fid c) := by
  unfold Dev.takeCopy
  try dsimp only
  repeat' first
    | with_reducible exact Running.refl _
    | with_reducible refine Running.onSw ?_ _
    | with_reducible refine (Running.of_report (report_countDev _ _ _)).after ?_
    | with_reducible refine (running_offer _ _ _ _ _ _).after ?_
    | split

theorem running_takeCopies (d : Dev) (fid : Nat) : Running d (d.takeCopies fid) := by
  unfold Dev.takeCopies
  try dsimp only
  repeat' first
    | with_reducible exact Running.refl _
    | with_reducible refine (Running.of_only (only_onFrame _ _ _) (by decide)).after ?_
    | with_reducible refine (running_takeCopy _ _ _).after ?_
    | with_reducible refine Running.each ?_ _ _ (fun _ _ => ?_)
    | split

theorem running_cutPort (d : Dev) (p : Nat) : Running d (d.cutPort p) := by
  unfold Dev.cutPort
  try dsimp only
  repeat' first
    | with_reducible exact Running.refl _
    | with_reducible refine (Running.of_only (only_countFrame _ _ _ _) (by decide)).after ?_
    | with_reducible refine (Running.of_only (only_flushLink _ _ _ _) (by decide)).after ?_
    | with_reducible refine (running_link _ _ _ _).after ?_
    | with_reducible refine (Running.of_only (only_onFrame _ _ _) (by decide)).after ?_
    | with_reducible refine (Running.of_only (only_release _ _) (by decide)).after ?_
    | with_reducible refine (Running.of_only (only_setRx _ _ _) (by decide)).after ?_
    | with_reducible refine (Running.of_only (only_setTx _ _ _) (by decide)).after ?_
    | with_reducible refine (running_spoilFrame _ _).after ?_
    | with_reducible refine (running_takeCopies _ _).after ?_
    | split

theorem running_losePartner (d : Dev) (p : Nat) : Running d (d.losePartner p) := by
  unfold Dev.losePartner
  try dsimp only
  repeat' first
    | with_reducible exact Running.refl _
    | with_reducible refine Running.setWord ?_ _ _ _ (by decide)
    | with_reducible refine Running.quadSet ?_ _ _ _ (by decide)
    | with_reducible refine (Running.of_only (only_judgeL1 _ _) (by decide)).after ?_
    | with_reducible refine (running_judgeSleep _ _).after ?_

theorem running_wakeCores (d : Dev) : Running d d.wakeCores := by
  unfold Dev.wakeCores
  try dsimp only
  repeat' first
    | with_reducible exact Running.refl _
    | with_reducible refine Running.set ?_ _ _ _ (by decide)
    | with_reducible refine Running.onSys ?_ _ (fun _ => rfl)
    | split

theorem running_postMsg (d : Dev) (src dst : Nat) (msg : List Byte) : Running d (d.postMsg src dst msg) := by
  unfold Dev.postMsg
  try dsimp only
  repeat' first
    | with_reducible exact Running.refl _
    | with_reducible refine Running.onChan ?_ _ _ _
    | with_reducible refine (Running.of_report (report_countDev _ _ _)).after ?_
    | with_reducible refine (Running.of_report (report_devEvent _ _ _ _ _)).after ?_
    | with_reducible refine (Running.of_only (only_tellPosted _ _ _) (by decide)).after ?_
    | with_reducible refine (running_wakeCores _).after ?_
    | with_reducible refine Running.when ?_ _ _ ?_

theorem running_sendNotice (d : Dev) : Running d d.sendNotice := by
  unfold Dev.sendNotice
  split
  · exact .refl d
  · split
    · exact .refl d
    · exact (((Running.refl d).onCpMail _).spendFree).trans (running_postMsg _ 2 0 _)
theorem running_notice (d : Dev) (n : Notice) : Running d (d.notice n) := by
  unfold Dev.notice
  split
  · exact ((Running.refl d).onCpMail _).trans (.of_report (report_countDev _ _ _))
  · exact ((Running.refl d).onCpMail _).trans (running_sendNotice _)
theorem running_setPtpState (d : Dev) (p st : Nat) : Running d (d.setPtpState p st) := by
  unfold Dev.setPtpState
  try dsimp only
  repeat' first
    | with_reducible exact Running.refl _
    | with_reducible refine Running.setMark ?_ _ _ _ _ (by decide) (by decide)
    | with_reducible refine Running.onPtu ?_ _ _
    | with_reducible refine (Running.of_only (only_judgePortCand _ _) (by decide)).after ?_
    | with_reducible refine (running_notice _ _).after ?_
    | with_reducible refine (Running.of_only (only_revFail _ _ _) (by decide)).after ?_
    | with_reducible refine Running.when ?_ _ _ ?_
    | split

theorem running_ptpBegin (d : Dev) (p : Nat) : Running d (d.ptpBegin p) := by
  unfold Dev.ptpBegin
  try dsimp only
  repeat' first
    | with_reducible exact Running.refl _
    | with_reducible refine Running.onPtu ?_ _ _
    | with_reducible refine (running_setPtpState _ _ _).after ?_

theorem running_replayHeld (d : Dev) (p : Nat) : Running d (d.replayHeld p) := by
  unfold Dev.replayHeld
  try dsimp only
  repeat' first
    | with_reducible exact Running.refl _
    | with_reducible refine Running.onSw ?_ _
    | with_reducible refine (Running.of_report (report_portEvent _ _ _ _ _)).after ?_
    | with_reducible refine (Running.of_only (only_judgeIdle _ _) (by decide)).after ?_
    | with_reducible refine (running_link _ _ _ _).after ?_
    | with_reducible refine Running.each ?_ _ _ (fun _ _ => ?_)
    | split

theorem running_replayLink (d : Dev) (p q : Nat) (l : Link) : Running d (d.replayLink p q l) := by
  unfold Dev.replayLink
  try dsimp only
  repeat' first
    | with_reducible exact Running.refl _
    | with_reducible refine (Running.of_report (report_portEvent _ _ _ _ _)).after ?_
    | with_reducible refine (Running.of_only (only_flushLink _ _ _ _) (by decide)).after ?_
    | with_reducible refine (Running.of_only (only_judgeIdle _ _) (by decide)).after ?_
    | with_reducible refine (Running.of_only (only_setQueue _ _ _ _) (by decide)).after ?_
    | with_reducible refine (running_wakeTx _ _).after ?_
    | split

theorem running_replayPort (d : Dev) (p : Nat) : Running d (d.replayPort p) := by
  unfold Dev.replayPort
  try dsimp only
  repeat' first
    | with_reducible exact Running.refl _
    | with_reducible refine Running.onSw ?_ _
    | with_reducible refine (Running.of_only (only_judgeIdle _ _) (by decide)).after ?_
    | with_reducible refine (running_replayHeld _ _).after ?_
    | with_reducible refine (running_replayLink _ _ _ _).after ?_
    | with_reducible refine (Running.of_only (only_rescheduled _ _) (by decide)).after ?_
    | with_reducible refine (Running.of_only (only_setDeficit _ _ _ _) (by decide)).after ?_
    | with_reducible refine (Running.of_only (only_setQueue _ _ _ _) (by decide)).after ?_
    | with_reducible refine (Running.of_only (only_setTail _ _ _ _) (by decide)).after ?_
    | with_reducible refine Running.each ?_ _ _ (fun _ _ => ?_)
    | split

theorem running_portDown (d : Dev) (p cause : Nat) : Running d (d.portDown p cause) := by
  unfold Dev.portDown
  try dsimp only
  repeat' first
    | with_reducible exact Running.refl _
    | with_reducible refine Running.set ?_ _ _ _ (by decide)
    | with_reducible refine Running.ptuBit ?_ _ _ _ (by decide)
    | with_reducible refine Running.quadSet ?_ _ _ _ (by decide)
    | with_reducible refine Running.onPort ?_ _ _
    | with_reducible refine Running.onPtu ?_ _ _
    | with_reducible refine (Running.of_report (report_countPort _ _ _ _)).after ?_
    | with_reducible refine (Running.of_report (report_portEvent _ _ _ _ _)).after ?_
    | with_reducible refine (running_cutPort _ _).after ?_
    | with_reducible refine (Running.of_only (only_endRxSleep _ _) (by decide)).after ?_
    | with_reducible refine (running_judgeBanks _).after ?_
    | with_reducible refine (Running.of_only (only_judgePortCand _ _) (by decide)).after ?_
    | with_reducible refine (running_losePartner _ _).after ?_
    | with_reducible refine (running_ptpBegin _ _).after ?_
    | with_reducible refine (Running.of_only (only_refreshPower _ _) (by decide)).after ?_
    | with_reducible refine (Running.of_only (only_refreshPtx _ _) (by decide)).after ?_
    | with_reducible refine (running_replayPort _ _).after ?_
    | with_reducible refine (Running.of_only (only_setPinLost _ _ _) (by decide)).after ?_
    | split

theorem running_startBring (d : Dev) (p : Nat) : Running d (d.startBring p) := by
  unfold Dev.startBring
  try dsimp only
  repeat' first
    | with_reducible exact Running.refl _
    | with_reducible refine Running.quadSet ?_ _ _ _ (by decide)
    | with_reducible refine Running.laneBit ?_ _ _ _ (by decide)
    | with_reducible refine Running.onPort ?_ _ _
    | with_reducible refine (Running.of_only (only_refreshPtu _ _) (by decide)).after ?_
    | with_reducible refine (running_restartLpll _ _).after ?_
    | with_reducible refine Running.when ?_ _ _ ?_
    | with_reducible refine Running.each ?_ _ _ (fun _ _ => ?_)

theorem running_dropLink (d : Dev) (p cause : Nat) : Running d (d.dropLink p cause) := by
  unfold Dev.dropLink
  try dsimp only
  repeat' first
    | with_reducible exact Running.refl _
    | with_reducible refine (running_portDown _ _ _).after ?_
    | with_reducible refine (running_startBring _ _).after ?_

theorem running_laneCfgWrite (d : Dev) (l : Nat) (v : Word) : Running d (d.laneCfgWrite l v) := by
  unfold Dev.laneCfgWrite
  try dsimp only
  repeat' first
    | with_reducible exact Running.refl _
    | with_reducible refine Running.set ?_ _ _ _ (by decide)
    | with_reducible refine (running_dropLink _ _ _).after ?_
    | with_reducible refine (running_startBring _ _).after ?_
    | split

theorem running_laneTestWrite (d : Dev) (l : Nat) (v : Word) : Running d (d.laneTestWrite l v) := by
  unfold Dev.laneTestWrite
  try dsimp only
  repeat' first
    | with_reducible exact Running.refl _
    | with_reducible refine Running.set ?_ _ _ _ (by decide)
    | with_reducible refine Running.setWord ?_ _ _ _ (by decide)
    | with_reducible refine Running.laneBit ?_ _ _ _ (by decide)
    | with_reducible refine Running.onPort ?_ _ _
    | with_reducible refine (Running.of_only (only_endSleep _ _) (by decide)).after ?_
    | with_reducible refine (running_judgeBanks _).after ?_
    | with_reducible refine (Running.of_only (only_judgePortCand _ _) (by decide)).after ?_
    | with_reducible refine (running_losePartner _ _).after ?_
    | with_reducible refine (running_portDown _ _ _).after ?_
    | with_reducible refine (running_ptpBegin _ _).after ?_
    | with_reducible refine (Running.of_only (only_refreshPower _ _) (by decide)).after ?_
    | with_reducible refine (running_restartLpll _ _).after ?_
    | with_reducible refine (running_startBring _ _).after ?_
    | split

theorem running_newMode (d : Dev) (p mode : Nat) : Running d (d.newMode p mode) := by
  unfold Dev.newMode
  try dsimp only
  repeat' first
    | with_reducible exact Running.refl _
    | with_reducible refine Running.set ?_ _ _ _ (by decide)
    | with_reducible refine Running.setWord ?_ _ _ _ (by decide)
    | with_reducible refine Running.laneBit ?_ _ _ _ (by decide)
    | with_reducible refine (Running.of_only (only_disqualify _ _ _) (by decide)).after ?_
    | with_reducible refine (Running.of_only (only_endSleep _ _) (by decide)).after ?_
    | with_reducible refine (running_judgeBanks _).after ?_
    | with_reducible refine (Running.of_only (only_lanesOff _ _) (by decide)).after ?_
    | with_reducible refine (running_portDown _ _ _).after ?_
    | with_reducible refine (Running.of_only (only_refreshPower _ _) (by decide)).after ?_
    | with_reducible refine (running_restartLpll _ _).after ?_
    | with_reducible refine (running_startBring _ _).after ?_
    | with_reducible refine (Running.of_only (only_startInternal _ _) (by decide)).after ?_
    | with_reducible refine Running.when ?_ _ _ ?_
    | with_reducible refine Running.each ?_ _ _ (fun _ _ => ?_)
    | split

theorem running_rxWaking (d : Dev) (p : Nat) : Running d (d.rxWaking p) := by
  unfold Dev.rxWaking
  try dsimp only
  repeat' first
    | with_reducible exact Running.refl _
    | with_reducible refine Running.quadSet ?_ _ _ _ (by decide)
    | with_reducible refine Running.onPort ?_ _ _
    | with_reducible refine (running_judgeBanks _).after ?_
    | with_reducible refine (Running.of_only (only_refreshPtu _ _) (by decide)).after ?_
    | with_reducible refine (running_restartLpll _ _).after ?_

theorem running_queueOwn (d : Dev) (p : Nat) (own : OwnKind) (bytes : List Byte) : Running d (d.queueOwn p own bytes) := by
  unfold Dev.queueOwn
  try dsimp only
  repeat' first
    | with_reducible exact Running.refl _
    | with_reducible refine Running.onSw ?_ _
    | with_reducible refine (running_link _ _ _ _).after ?_
    | with_reducible refine (Running.of_only (only_setFrame _ _ _) (by decide)).after ?_

theorem running_sendHello (d : Dev) (p : Nat) : Running d (d.sendHello p) := by
  unfold Dev.sendHello
  try dsimp only
  repeat' first
    | with_reducible exact Running.refl _
    | with_reducible refine Running.onPort ?_ _ _
    | with_reducible refine Running.spendFree ?_
    | with_reducible refine (Running.of_only (only_judgeIdle _ _) (by decide)).after ?_
    | with_reducible refine (running_queueOwn _ _ _ _).after ?_
    | split

theorem running_setDisc (d : Dev) (p : Nat) (on : Bool) : Running d (d.setDisc p on) := by
  unfold Dev.setDisc
  try dsimp only
  repeat' first
    | with_reducible exact Running.refl _
    | with_reducible refine Running.setB ?_ _ _ _ (by decide)
    | with_reducible refine Running.onPort ?_ _ _
    | with_reducible refine (running_losePartner _ _).after ?_
    | with_reducible refine (running_sendHello _ _).after ?_
    | split

theorem running_quadCfgWrite (d : Dev) (p : Nat) (v : Word) : Running d (d.quadCfgWrite p v) := by
  unfold Dev.quadCfgWrite
  try dsimp only
  repeat' first
    | with_reducible exact Running.refl _
    | with_reducible refine Running.set ?_ _ _ _ (by decide)
    | with_reducible refine (running_judgeSleep _ _).after ?_
    | with_reducible refine (running_newMode _ _ _).after ?_
    | with_reducible refine (running_rxWaking _ _).after ?_
    | with_reducible refine (running_setDisc _ _ _).after ?_
    | with_reducible refine Running.when ?_ _ _ ?_
    | split

theorem running_quadRestart (d : Dev) (p : Nat) : Running d (d.quadRestart p) := by
  unfold Dev.quadRestart
  try dsimp only
  repeat' first
    | with_reducible exact Running.refl _
    | with_reducible refine Running.set ?_ _ _ _ (by decide)
    | with_reducible refine (running_portDown _ _ _).after ?_
    | with_reducible refine (running_startBring _ _).after ?_
    | split

theorem running_enterInst (d : Dev) (p : Nat) : Running d (d.enterInst p) := by
  unfold Dev.enterInst
  try dsimp only
  repeat' first
    | with_reducible exact Running.refl _
    | with_reducible refine (running_judgeSleep _ _).after ?_
    | with_reducible refine (running_setPtpState _ _ _).after ?_
    | split

theorem running_writePtpCfg (d : Dev) (p : Nat) (v : Word) : Running d (d.writePtpCfg p v) := by
  unfold Dev.writePtpCfg
  try dsimp only
  repeat' first
    | with_reducible exact Running.refl _
    | with_reducible refine Running.set ?_ _ _ _ (by decide)
    | with_reducible refine Running.store ?_ _ _ _ (by decide)
    | with_reducible refine (Running.of_only (only_disqualify _ _ _) (by decide)).after ?_
    | with_reducible refine (running_enterInst _ _).after ?_
    | with_reducible refine (running_ptpBegin _ _).after ?_
    | with_reducible refine (Running.of_only (only_resetRates _ _) (by decide)).after ?_
    | with_reducible refine (Running.of_only (only_restartDelay _ _) (by decide)).after ?_
    | with_reducible refine (Running.of_only (only_setPinLost _ _ _) (by decide)).after ?_
    | with_reducible refine Running.when ?_ _ _ ?_
    | split

theorem running_queueWrite (d : Dev) (p q : Nat) (r : QueueReg) (v : Word) : Running d (d.queueWrite p q r v) := by
  unfold Dev.queueWrite
  try dsimp only
  repeat' first
    | with_reducible exact Running.refl _
    | with_reducible refine Running.set ?_ _ _ _ (by decide)
    | with_reducible refine Running.store ?_ _ _ _ (by decide)
    | with_reducible refine (running_judgeBanks _).after ?_
    | with_reducible refine (Running.of_only (only_judgeBuf _) (by decide)).after ?_
    | with_reducible refine (Running.of_only (only_rejectCfg _ _) (by decide)).after ?_
    | with_reducible refine (Running.of_only (only_setQueue _ _ _ _) (by decide)).after ?_
    | with_reducible refine Running.when ?_ _ _ ?_
    | split

theorem running_admitFrame (d : Dev) (fid : Nat) : Running d (d.admitFrame fid) := by
  unfold Dev.admitFrame
  try dsimp only
  repeat' first
    | with_reducible exact Running.refl _
    | with_reducible refine (running_judgeBanks _).after ?_
    | with_reducible refine (running_offer _ _ _ _ _ _).after ?_
    | with_reducible refine Running.each ?_ _ _ (fun _ _ => ?_)
    | split

theorem running_sendHeld (d : Dev) (i : Nat) (h : Hold) : Running d (d.sendHeld i h) := by
  unfold Dev.sendHeld
  try dsimp only
  repeat' first
    | with_reducible exact Running.refl _
    | with_reducible refine Running.set ?_ _ _ _ (by decide)
    | with_reducible refine Running.onSw ?_ _
    | with_reducible refine (running_admitFrame _ _).after ?_
    | with_reducible refine (Running.of_only (only_discardCause _ _ _) (by decide)).after ?_
    | with_reducible refine (Running.of_only (only_recovEvent _ _ _ _) (by decide)).after ?_
    | with_reducible refine (Running.of_only (only_refreshHeld _ _) (by decide)).after ?_
    | with_reducible refine (Running.of_only (only_release _ _) (by decide)).after ?_
    | split

theorem running_releaseAll (d : Dev) (i : Nat) : Running d (d.releaseAll i) := by
  unfold Dev.releaseAll
  try dsimp only
  repeat' first
    | with_reducible exact Running.refl _
    | with_reducible refine (running_sendHeld _ _ _).after ?_
    | with_reducible refine Running.each ?_ _ _ (fun _ _ => ?_)

theorem running_writeRecov (d : Dev) (i word : Nat) (v : Word) : Running d (d.writeRecov i word v) := by
  unfold Dev.writeRecov
  try dsimp only
  repeat' first
    | with_reducible exact Running.refl _
    | with_reducible refine Running.set ?_ _ _ _ (by decide)
    | with_reducible refine Running.store ?_ _ _ _ (by decide)
    | with_reducible refine (running_judgeBanks _).after ?_
    | with_reducible refine (running_releaseAll _ _).after ?_
    | with_reducible refine (Running.of_only (only_setHistory _ _ _) (by decide)).after ?_
    | split

theorem running_endInstances (d : Dev) (ops : List CfgOp) : Running d (d.endInstances ops) := by
  unfold Dev.endInstances
  try dsimp only
  repeat' first
    | with_reducible exact Running.refl _
    | with_reducible refine Running.onInst ?_ _ _
    | with_reducible refine (running_judgeSleep _ _).after ?_
    | with_reducible refine (running_ptpBegin _ _).after ?_
    | with_reducible refine Running.each ?_ _ _ (fun _ _ => ?_)
    | split

theorem running_noCp (d : Dev) : Running d { d with insts := [], cpMail := .init } := .of_regs rfl rfl rfl

theorem running_stopCp (d : Dev) : Running d d.stopCp := by
  have hparty : Running d (d.restartParty 2) := .of_only (only_restartParty _ _) (by decide)
  have hports (x : Dev) (l : List Nat) : Running x ((x.each l Dev.ptpBegin).judgeSleeps) :=
    ((Running.refl x).each l _ (fun _ _ => running_ptpBegin _ _)).trans (running_judgeSleeps _)
  exact (hparty.trans (running_noCp _)).trans (hports _ _)

end Sys2Proof.Laws

/-! SUPPORT. What the records of a configuration image that the CP applies leave: flash, queue and everything that `Running` names. -/

namespace Sys2Proof.Laws

open Sys2Proof.Machine Sys2Proof.Safety

variable {x d e : Dev}

/-! ## Writes of fast registers -/

theorem running_firstCmd (v : Word) (l : List (Fld × (Dev → Dev))) (h : ∀ c ∈ l, Running d (c.2 d)) : Running d (d.firstCmd v l) := by
  unfold Dev.firstCmd
  cases hc : l.find? (fun e => e.1.on v) with
  | some c => exact h c (List.mem_of_find?_eq_some hc)
  | none => exact .refl d

/-- A fast register lies beside the registers of start-up. -/
theorem beside_of_fast {r : Reg} (h : r.isFast = true) : (Reg.PWR_STAT :: bootRegs).contains r = false := by
  rw [List.contains_eq_mem, decide_eq_false_iff_not]
  intro hm
  have hslow : ∀ q ∈ Reg.PWR_STAT :: bootRegs, q.isFast = false := by decide
  rw [hslow r hm] at h
  cases h

theorem running_store {r : Reg} (h : r.isFast = true) (u : Nat) (v : Word) : Running d (d.store r u v) :=
  (Running.refl d).store r u v (beside_of_fast h)

theorem running_writeLaneReg {r : Reg} (h : r.isFast = true) (u : Nat) (v : Word) : Running d (d.writeLaneReg r u v) := by
  unfold Dev.writeLaneReg
  split
  · exact running_laneCfgWrite d u v
  · exact running_laneTestWrite d u v
  · exact running_quadCfgWrite d u v
  · refine running_firstCmd v _ fun c hc => ?_
    rw [List.mem_singleton.1 hc]
    exact running_quadRestart d u
  · exact running_store h u v

/-- The commands of the reversal procedure, on a device whose command register has been written. -/
theorem running_revCommands (p : Nat) (v : Word) : Running d (d.firstCmd v [(F.PRT_REV_CMD_START, fun d => d.revBegin p v),
    (F.PRT_REV_CMD_FINISH, fun d => d.revFinish p), (F.PRT_REV_CMD_APPLY, fun d => d.revApply p),
    (F.PRT_REV_CMD_ABORT, fun d => d.revAbort p)]) := by
  refine running_firstCmd v _ fun c hc => ?_
  simp only [List.mem_cons, List.not_mem_nil, or_false] at hc
  rcases hc with rfl | rfl | rfl | rfl
  · exact .of_only (only_revBegin _ _ _) (by decide)
  · exact .of_only (only_revFinish _ _) (by decide)
  · exact .of_only (only_revApply _ _) (by decide)
  · exact .of_only (only_revAbort _ _) (by decide)

theorem running_gateWrite (p : Nat) (t : GateTarget) (v : Word) : Running d (d.gateWrite p t v) :=
  .of_only (only_gateWrite _ _ _ _) (by decide)

theorem running_writePortReg {r : Reg} (h : r.isFast = true) (u : Nat) (v : Word) : Running d (d.writePortReg r u v) := by
  unfold Dev.writePortReg
  dsimp only
  split
  · exact (running_store h u v).setWord _ _ _ (by decide)
  · exact running_writePtpCfg d _ v
  · exact .of_only (only_writePtpRate _ _ _) (by decide)
  · exact (running_store h u v).trans (running_revCommands _ v)
  · exact running_queueWrite d _ _ _ v
  · exact running_queueWrite d _ _ _ v
  · exact running_gateWrite _ _ v
  · exact running_gateWrite _ _ v
  · exact running_gateWrite _ _ v
  · exact running_gateWrite _ _ v
  · exact running_gateWrite _ _ v
  · exact running_gateWrite _ _ v
  · exact running_gateWrite _ _ v
  · exact running_gateWrite _ _ v
  · exact running_store h u v

/-- A command of the forwarding database, refused or taken. -/
theorem running_fdbCmd (op : Nat) {f : Dev → Dev} (h : ∀ y, Running y (f y)) : Running d (d.fdbCmd op f) := by
  have hop : Running d (d.set F.SW_FDB_CMD_OP op) := (Running.refl d).set _ _ _ (by decide)
  unfold Dev.fdbCmd
  dsimp only
  split
  · exact hop.trans (.of_only (only_fdbResult _ _) (by decide))
  · exact hop.trans (h _)

theorem running_fdbInsert (d : Dev) : Running d d.fdbInsert := .of_only (only_fdbInsert _) (by decide)

theorem running_writeFdbCmd (v : Word) : Running d (d.writeFdbCmd v) := by
  have hstore : Running d (d.store .SW_FDB_CMD 0 v) := running_store (by decide) 0 v
  unfold Dev.writeFdbCmd
  split
  · exact hstore
  · dsimp only
    refine hstore.trans ?_
    split
    · exact running_fdbCmd 0 fun _ => .of_only (only_fdbLookup _) (by decide)
    · exact running_fdbCmd 1 running_fdbInsert
    · exact running_fdbCmd 2 fun _ => .of_only (only_fdbDelete _) (by decide)
    · exact running_fdbCmd 3 fun _ => .of_only (only_fdbRead _ _) (by decide)
    · exact running_fdbCmd 4 fun _ => .of_only (only_fdbFlush _ _ _ _) (by decide)
    · exact running_fdbCmd _ fun _ => .of_only (only_fdbResult _ _) (by decide)

theorem running_writeStream {r : Reg} (h : r.isFast = true) (u n : Nat) (v : Word) : Running d (d.writeStream r u n v) := by
  have hungated (f : Sys → Sys) (hf : ∀ y, sysCore (f y) = sysCore y) : Running d ((d.onSys f).store r u v) :=
    ((Running.refl d).onSys f hf).trans (running_store h u v)
  unfold Dev.writeStream
  split
  · exact .refl d
  · exact hungated _ (fun _ => rfl)

theorem running_writeMeter (m word : Nat) (v : Word) : Running d (d.writeMeter m word v) := .of_only (only_writeMeter _ _ _ _) (by decide)

theorem running_writeSwReg {r : Reg} (h : r.isFast = true) (u : Nat) (v : Word) : Running d (d.writeSwReg r u v) := by
  have hungate : Running d (d.store r u v).ungateUsed := (running_store h u v).onSys _ (fun _ => rfl)
  unfold Dev.writeSwReg
  dsimp only
  split
  any_goals
    split
    · exact .refl d
    · exact running_store h u v
  · exact running_store h u _
  · exact hungate
  · exact hungate
  · exact running_writeFdbCmd v
  · exact (running_store h u v).when _ _ ((Running.refl _).onSw _)
  · exact running_writeStream h _ _ _
  · exact running_writeStream h _ _ _
  · exact running_writeStream h _ _ _
  · exact running_writeMeter _ _ v
  · exact running_writeMeter _ _ v
  · exact running_writeMeter _ _ v
  · exact running_writeMeter _ _ v
  · exact running_writeMeter _ _ v
  · exact (Running.refl d).setWord _ _ _ (by decide)
  · exact running_writeRecov d _ _ v
  · exact running_writeRecov d _ _ v
  · exact running_writeRecov d _ _ v
  · exact running_writeRecov d _ _ v
  · exact running_writeRecov d _ _ v
  · exact running_store h u v

theorem running_ringPlaceWrite {r : Reg} (h : r.isFast = true) (v : Word) : Running d (d.ringPlaceWrite r v) := by
  have hmoved (y : Ring) : Running d { d with ring := y } := .of_regs rfl rfl rfl
  exact (((hmoved _).trans (running_store h 0 v)).setWord _ _ _ (by decide)).setWord _ _ _ (by decide)

/-- Of the registers with addresses in the blocks below the ports, only the counters and the rings are fast. -/
theorem running_writeBlockReg {r : Reg} (h : r.isFast = true) (u : Nat) (v : Word) : Running d (d.writeBlockReg r u v) := by
  have hmbx : r.isMbx = false := by
    unfold Reg.isFast at h
    unfold Reg.isMbx
    cases hs : r.spec.space <;> rw [hs] at h
    case bar0 =>
      simp only [Bool.or_eq_true, Bool.and_eq_true, decide_eq_true_eq] at h
      rw [decide_eq_false (show ¬ r.spec.base < 0x8000 by omega), Bool.and_false]
    all_goals rfl
  unfold Dev.writeBlockReg
  rw [hmbx, if_neg (by decide)]
  split
  · exact .of_only (only_ringCtrlWrite _ _) (by decide)
  · exact running_ringPlaceWrite h v
  · exact running_ringPlaceWrite h v
  · exact running_ringPlaceWrite h v
  · exact (Running.refl d).setWord _ _ _ (by decide)
  · exact .of_only (only_cntDataWrite _ _ _) (by decide)
  · exact .of_only (only_cntCfgWrite _ _) (by decide)
  · exact absurd h (by decide)
  · exact absurd h (by decide)
  · exact absurd h (by decide)
  · exact absurd h (by decide)
  · exact absurd h (by decide)
  · exact absurd h (by decide)
  · exact absurd h (by decide)
  · exact running_store h u v

theorem running_writeReg {r : Reg} (h : r.isFast = true) (u : Nat) (v : Word) : Running d (d.writeReg r u v) := by
  have hspace : r.spec.space = .lane ∨ r.spec.space = .bar0 := by
    unfold Reg.isFast at h
    split at h
    · exact .inl ‹_›
    · exact .inr ‹_›
    · cases h
  unfold Dev.writeReg
  dsimp only
  rcases hspace with hs | hs
  · rw [hs]
    exact running_writeLaneReg h u v
  · rw [hs]
    dsimp only
    split
    · exact running_writeBlockReg h u v
    · split
      · exact running_writePortReg h u v
      · exact running_writeSwReg h u v

/-! ## Fast targets -/

/-- A register of BAR0 that is not fast lies outside the fast blocks. -/
def slowFits (r : Reg) : Bool :=
  r.spec.space != .bar0 || r.isFast || decide (r.spec.base + extentOf r.spec.dims ≤ 0x8000) ||
    (decide (0xC000 ≤ r.spec.base) && decide (r.spec.base + extentOf r.spec.dims ≤ 0x100000))

theorem all_slowFits : Reg.all.all slowFits = true := by decide +kernel

theorem blockAt_fast {a lo hi : Nat} (h : blockAt a = some (lo, hi, 1)) : (0x8000 ≤ a ∧ a < 0xC000) ∨ 0x100000 ≤ a := by
  unfold blockAt at h
  repeat' split at h
  all_goals cases h
  · exact .inl (by omega)
  all_goals
    simp only [Bool.and_eq_true, decide_eq_true_eq] at *
    exact .inr (by omega)

theorem isFast_of_block {a lo hi : Nat} {r : Reg} {u : Nat} (hblock : blockAt a = some (lo, hi, 1)) (hat : regAt .bar0 a = some (r, u)) :
    r.isFast = true := by
  obtain ⟨hmem, hspace, hbase, hunit⟩ := regAt_some hat
  obtain ⟨hpos, -⟩ := Bool.and_eq_true_iff.1 (List.all_eq_true.1 all_fitBar0 r hmem)
  have hlt := lt_extent_of_unitAt (fun e he => of_decide_eq_true (List.all_eq_true.1 hpos e he)) hunit
  have hfits := List.all_eq_true.1 all_slowFits r hmem
  have hplace := blockAt_fast hblock
  by_contra hnot
  have hslow : r.isFast = false := by simpa using hnot
  simp only [slowFits, hspace, hslow, bne_self_eq_false, Bool.false_or, Bool.or_eq_true, Bool.and_eq_true, decide_eq_true_eq] at hfits
  omega

/-! ## Records that the CP applies -/

/-- A state after records of the CP have been applied to another. -/
structure Applied (s t : State) : Prop where
  flash : t.flash = s.flash
  pending : t.pending = s.pending
  dev : Running s.dev t.dev

variable {s t u : State}

namespace Applied

theorem refl (s : State) : Applied s s := ⟨rfl, rfl, .refl _⟩
theorem trans (h : Applied s t) (k : Applied t u) : Applied s u :=
  ⟨k.flash.trans h.flash, k.pending.trans h.pending, h.dev.trans k.dev⟩
theorem onDev (h : Applied s t) {f : Dev → Dev} (k : Running t.dev (f t.dev)) : Applied s (t.onDev f) := ⟨h.flash, h.pending, h.dev.trans k⟩

end Applied

/-- The flags and results that a write has refused lie beside the registers of start-up. -/
theorem refusals_beside (r : Reg) : ∀ c ∈ refusals r, fieldBesideBoot c.1 = true := by
  unfold refusals
  split <;> simp only [Option.mem_def, Option.some.injEq, forall_eq', reduceCtorEq, false_implies, implies_true] <;> decide

theorem rejFlag_beside (r : Reg) (u : Nat) : ∀ c ∈ rejFlag r u, fieldBesideBoot c.1 = true := by
  unfold rejFlag
  split <;> simp only [Option.mem_def, Option.some.injEq, forall_eq', reduceCtorEq, false_implies, implies_true] <;> decide

theorem applied_writeReg {r : Reg} (h : r.isFast = true) (s : State) (u : Nat) (v : Word) : Applied s (s.writeReg r u v) := by
  have hne : (r = .PWR_FAST_CMD && F.PWR_FAST_CMD_START.on v) = false := by
    rw [decide_eq_false (by rintro rfl; exact absurd h (by decide)), Bool.false_and]
  rw [State.writeReg, hne, if_neg (by decide)]
  exact (Applied.refl s).onDev (running_writeReg h u v)

theorem applied_tryWrite {r : Reg} (h : r.isFast = true) (s : State) (u : Nat) (v : Word) : Applied s (s.tryWrite r u v).1 := by
  unfold State.tryWrite
  split
  · exact .refl s
  · have hwrite {x : State} (hx : Applied s x) : Applied s (x.writeReg r u v) := hx.trans (applied_writeReg h x u v)
    have hset {f : Fld} (hf : fieldBesideBoot f = true) {x : State} (hx : Applied s x) (n k : Nat) : Applied s (x.onDev (·.set f n k)) :=
      hx.onDev ((Running.refl _).set _ _ _ hf)
    have hmark {f : Fld} (hf : fieldBesideBoot f = true) {x : State} (hx : Applied s x) (b : Bool) (k : Nat) :
        Applied s (x.onDev (·.setB f b k)) := hx.onDev ((Running.refl _).setB _ _ _ hf)
    have hif {f : Fld} (hf : fieldBesideBoot f = true) (c : Prop) [Decidable c] (d : Dev) (n k : Nat) :
        Running d (if c then d.set f n k else d) := by
      split
      · exact (Running.refl _).set _ _ _ hf
      · exact .refl _
    have hres := refusals_beside r
    have hrej := rejFlag_beside r u
    generalize refusals r = res at hres ⊢
    generalize rejFlag r u = rej at hrej ⊢
    rcases res with _ | ⟨f, l⟩ <;> rcases rej with _ | ⟨g, k⟩ <;> dsimp only
    · exact hwrite (.refl s)
    · have hg : fieldBesideBoot g = true := hrej (g, k) rfl
      exact hmark hg (hwrite (hmark hg (.refl s) _ _)) _ _
    · have hf : fieldBesideBoot f = true := hres (f, l) rfl
      exact (hwrite (hset hf (.refl s) _ _)).onDev (hif hf _ _ _ _)
    · have hf : fieldBesideBoot f = true := hres (f, l) rfl
      have hg : fieldBesideBoot g = true := hrej (g, k) rfl
      exact hmark hg ((hwrite (hmark hg (hset hf (.refl s) _ _) _ _)).onDev (hif hf _ _ _ _)) _ _

theorem running_insertStatic (d : Dev) (key : Nat × Nat) (data mask : Nat) : Running d (d.insertStatic key data mask).1 := by
  have hstored {d' : Dev} (h : Running d d') (r : Reg) (hr : (Reg.PWR_STAT :: bootRegs).contains r = false) (v : Word) :
      Running d (d'.store r 0 v) := h.store r 0 v hr
  have hkey := hstored (hstored (.refl d) .SW_FDB_KEY_LO (by decide) (BitVec.ofNat 32 key.1)) .SW_FDB_KEY_HI (by decide) (BitVec.ofNat 32 key.2)
  have hentry := hstored (hstored hkey .SW_FDB_DATA (by decide) (BitVec.ofNat 32 (data ||| 0x200))) .SW_FDB_MASK (by decide)
    (BitVec.ofNat 32 mask)
  exact hentry.trans (running_fdbCmd 1 running_fdbInsert)

/-- A record that creates a PTP clock lets the ports that name it begin. -/
theorem running_makeInstance (d : Dev) (b : List Byte) : Running d (d.makeInstance b).1 := by
  unfold Dev.makeInstance
  dsimp only
  split
  · exact .refl d
  · split
    · exact .refl d
    · refine ((Running.refl d).onInst _ _).each _ _ fun y p => ?_
      exact (Running.trans (.of_only (only_resetRates _ _) (by decide)) (running_ptpBegin _ _)).trans (running_judgeSleep _ _)

theorem applied_applyOp (s : State) {o : CfgOp} (h : o.isFast = true) : Applied s (s.applyOp true o).1 := by
  have hwriteAt (place : Option (Reg × Nat)) (hplace : ∀ x ∈ place, x.1.isFast = true) (v : Word) : Applied s (s.writeAt true place v).1 := by
    unfold State.writeAt
    split
    · exact .refl s
    · split
      · exact applied_tryWrite (hplace _ rfl) s _ v
      · exact .refl s
  cases o with
  | bar0 a v =>
    refine hwriteAt _ (fun x hx => ?_) v
    simp only [CfgOp.isFast] at h
    split at h
    · rename_i lo hi k hblock
      rw [eq_of_beq h] at hblock
      exact isFast_of_block hblock hx
    · cases h
  | ind sp a v =>
    refine hwriteAt _ (fun x hx => ?_) v
    have hsp : sp = 6 := eq_of_beq h
    rw [hsp] at hx
    obtain ⟨-, hspace, -, -⟩ := regAt_some (show regAt .lane a = some (x.1, x.2) from hx)
    rw [Reg.isFast, hspace]
  | fdb key data mask => exact ⟨rfl, rfl, running_insertStatic s.dev key data mask⟩
  | ptp b => exact ⟨rfl, rfl, running_makeInstance s.dev b⟩

/-- What a refused operation counts and logs. -/
theorem running_warned (d : Dev) (n : Nat) (f : Sys → Sys) (hf : ∀ y, sysCore (f y) = sysCore y) :
    Running d ((d.set F.GLB_CFG_STAT_WARN n).onSys f) := ((Running.refl d).set _ _ _ (by decide)).onSys f hf

theorem applied_beginApply (s : State) : Applied s s.beginApply := (Applied.refl s).onDev (running_warned _ _ _ fun _ => rfl)

theorem applied_applyOps (s : State) (l : List CfgOp) (h : ∀ o ∈ l, o.isFast = true) : Applied s (s.applyOps true l) := by
  unfold State.applyOps
  induction l generalizing s with
  | nil => exact .refl s
  | cons o l ih =>
    refine Applied.trans ?_ (ih _ fun o' ho => h o' (List.mem_cons_of_mem _ ho))
    have hop := applied_applyOp s (h o List.mem_cons_self)
    dsimp only
    split <;> rename_i y heq <;> rw [heq] at hop
    · exact hop
    · exact hop.onDev (running_warned _ _ _ fun _ => rfl)

theorem fast_of_mem_ops (c : CfgCheck) : ∀ o ∈ c.ops true, o.isFast = true := fun o ho =>
  eq_of_beq (List.mem_filter.1 ho).2

theorem running_checkNoted (c : CfgCheck) (d : Dev) : Running d (checkNoted c d) := .of_only (only_checkNoted c d) (by decide)

theorem applied_checkSlot (s : State) (ifs : List Image) (slot : Nat) : Applied s (s.checkSlot ifs slot).1 :=
  (Applied.refl s).onDev (running_checkNoted _ _)

/-- What the CP shows of the records that it has applied. -/
theorem running_fastShown (d : Dev) (slot id : Nat) :
    Running d ((d.set F.GLB_BOOT_STAT_FAST_SLOT slot).set F.GLB_CFG_FAST_ID_IMAGE_ID id) :=
  ((Running.refl d).fastSlot slot).set _ _ _ (by decide)

theorem running_configFellBack (d : Dev) : Running d d.configFellBack :=
  .of_only (P := reports) (R := alarmRegs) (.countDev (.raise .refl _ (by decide)) _ _ (by decide)) (by decide)

theorem applied_applyFast (s : State) : Applied s s.applyFast := by
  have htake {x : State} (hx : Applied s x) (slot : Nat) (c : CfgCheck) : Applied s ((x.beginApply.applyOps true (c.ops true)).onDev
      (fun d => ((d.endInstances (c.ops true)).set F.GLB_BOOT_STAT_FAST_SLOT slot).set F.GLB_CFG_FAST_ID_IMAGE_ID c.imageId)) :=
    ((hx.trans (applied_beginApply x)).trans (applied_applyOps _ _ (fast_of_mem_ops c))).onDev
      ((running_endInstances _ _).trans (running_fastShown _ slot c.imageId))
  have hnone {x : State} (hx : Applied s x) : Applied s (x.onDev (fun d => (d.set F.GLB_BOOT_STAT_FAST_SLOT 2).set F.GLB_CFG_FAST_ID_IMAGE_ID 0)) :=
    hx.onDev (running_fastShown _ 2 0)
  have hcheck (slot : Nat) := applied_checkSlot s s.dev.sys.images slot
  unfold State.applyFast
  dsimp only
  split
  · exact htake (hcheck _) _ _
  · split
    · exact hnone (hcheck _)
    · split
      · exact htake (((hcheck _).trans (applied_checkSlot _ _ _)).onDev (running_configFellBack _)) _ _
      · exact hnone ((hcheck _).trans (applied_checkSlot _ _ _))

end Sys2Proof.Laws

/-! SUPPORT. Laws of the start and the stop of the fast domain (R296, R297). -/

namespace Sys2Proof.Laws

open Sys2Proof.Machine Sys2Proof.Safety

variable {P : List Part} {R : List Reg} {d : Dev}

/-! ## The state of the fast domain -/

theorem setFast_fast (d : Dev) (v : Nat) : (d.setFast v).fast = v % 4 := by
  have hjudge (x : Dev) : x.judgeConfigNone.fast = x.fast :=
    (Only.refl.cond (P := reports) (R := alarmRegs) _ _ (by decide)).get _ _ (by decide)
  rw [Dev.setFast, hjudge]
  exact get_setMark_same _ _ _ _ _ (by decide) (by decide) (by decide)

theorem setFast_get (d : Dev) (v : Nat) (g : Fld) (u : Nat) (hg : g.reg ∉ alarmRegs) (ha : apart F.PWR_STAT_FAST g = true)
    (hb : apart F.PWR_STAT_CHANGED g = true) : (d.setFast v).get g u = d.get g u := by
  have hjudge (x : Dev) : x.judgeConfigNone.get g u = x.get g u :=
    (Only.refl.cond (P := reports) (R := alarmRegs) _ _ (by decide)).get _ _ hg
  rw [Dev.setFast, hjudge]
  exact get_setMark_apart _ _ _ _ _ _ _ (by decide) (by decide) ha hb

/-! ## The start -/

/-- The device in which a start begins: every fast register at its Reset value, switch, ports and instances empty. -/
def fastCleared (d : Dev) : Dev := { d.clearFast with sw := .init, ports := [], ptus := [], insts := [], cpMail := .init }

/-- The retirements of the fast domain are forgotten, and the fabric PLL begins acquisition. -/
def fastStarting (d : Dev) : Dev :=
  ((d.each [4, 5, 6, 7, 8] (fun d i => d.synBit F.SYN_STAT_RETIRED false i)).synAlarm.setFast 1).startInternal 4

/-- The banks that a start ungates, and the four CP cores. -/
def banksStarted (d : Dev) : Dev :=
  let n := if d.flag F.PWR_GATE_CFG_BANK_GATE_EN then d.get F.PWR_GATE_CFG_MIN_BANKS else 32
  let d := d.onSw (fun s => { s with nReq := n })
  (d.setGated (((List.range 32).drop n))).set F.PWR_STAT_CP_CORES 4

theorem beginFast_eq (d : Dev) : d.beginFast = banksStarted (fastStarting (fastCleared d)) := rfl

theorem only_fastStarting (d : Dev) : Only (reports ++ [.syns, .outs]) (alarmRegs ++ [.SYN_STAT, .SYN_CMD, .OUT_STAT, .PWR_STAT]) d
    (fastStarting d) := by
  unfold fastStarting
  exact .startInternal (.setFast (.synAlarm (.each .refl _ _ (fun _ _ => .setMark .refl _ _ _ _ (by decide) (by decide)))
    (by decide) (by decide)) _ (by decide) (by decide)) _ (by decide) (by decide)

theorem only_banksStarted (d : Dev) : Only [.sw] [.PWR_STAT, .SW_BUF_GATED] d (banksStarted d) :=
  .set (.setGated (.onSw .refl _ (by decide)) _ (by decide) (by decide)) _ _ _ (by decide)

theorem fastStarting_fast (d : Dev) : (fastStarting d).fast = 1 := by
  unfold fastStarting
  exact ((only_startInternal _ 4).get _ _ (by decide)).trans (setFast_fast _ 1)

theorem banksStarted_sw (d : Dev) : ∃ n, (banksStarted d).sw = { d.sw with nReq := n } := by
  have hshow (x : Dev) (l : List Nat) : Only [] [.PWR_STAT, .SW_BUF_GATED] x ((x.setGated l).set F.PWR_STAT_CP_CORES 4) :=
    .set (.setGated .refl _ (by decide) (by decide)) _ _ _ (by decide)
  unfold banksStarted
  dsimp only
  exact ⟨_, (hshow _ _).part .sw (by decide)⟩

theorem banksStarted_fast (d : Dev) : (banksStarted d).fast = d.fast := by
  unfold banksStarted Dev.fast
  dsimp only
  rw [get_set_apart _ _ _ _ _ _ (by decide) (by decide), setGated_get besideBanks_fast]
  rfl

theorem beginFast_fast (d : Dev) : d.beginFast.fast = 1 := by
  rw [beginFast_eq, banksStarted_fast, fastStarting_fast]

theorem beginFast_cores (d : Dev) : d.beginFast.get F.PWR_STAT_CP_CORES = 4 := by
  rw [beginFast_eq]
  exact get_set_same _ _ _ _ (by decide)

theorem only_begun (d : Dev) : Only (reports ++ [.syns, .outs, .sw])
    (alarmRegs ++ [.SYN_STAT, .SYN_CMD, .OUT_STAT, .PWR_STAT, .SW_BUF_GATED]) (fastCleared d) d.beginFast := by
  rw [beginFast_eq]
  exact ((only_fastStarting _).weaken (by decide) (by decide)).andThen (only_banksStarted _) (by decide) (by decide)

theorem beginFast_sw (d : Dev) : d.beginFast.sw.frames = [] := by
  obtain ⟨n, hn⟩ := banksStarted_sw (fastStarting (fastCleared d))
  rw [beginFast_eq, hn, (only_fastStarting _).part .sw (by decide)]
  rfl

theorem fastCleared_word (d : Dev) (r : Reg) (u : Nat) :
    (fastCleared d).word r u = if r.isFast then r.resetWord u else d.word r u := clearFast_word d r u

theorem beginFast_fastWord (d : Dev) (r : Reg) (u : Nat) (hfast : r.isFast = true) (hr : r ≠ .SW_BUF_GATED) :
    d.beginFast.word r u = r.resetWord u := by
  have hslow : ∀ q ∈ alarmRegs ++ [Reg.SYN_STAT, .SYN_CMD, .OUT_STAT, .PWR_STAT], q.isFast = false := by decide
  have hnot : r ∉ alarmRegs ++ [Reg.SYN_STAT, .SYN_CMD, .OUT_STAT, .PWR_STAT, .SW_BUF_GATED] := by
    intro hm
    rcases List.mem_append.1 hm with hm | hm
    · rw [hslow r (List.mem_append_left _ hm)] at hfast
      cases hfast
    · simp only [List.mem_cons, List.not_mem_nil, or_false] at hm
      rcases hm with rfl | rfl | rfl | rfl | rfl
      · exact absurd hfast (by decide)
      · exact absurd hfast (by decide)
      · exact absurd hfast (by decide)
      · exact absurd hfast (by decide)
      · exact hr rfl
  rw [(only_begun d).word r u hnot, fastCleared_word, if_pos hfast]

/-- A register that is not fast, but for those that a start shows itself in. -/
theorem beginFast_word (d : Dev) (r : Reg) (u : Nat) (hfast : r.isFast = false)
    (hr : r ∉ alarmRegs ++ [.SYN_STAT, .SYN_CMD, .OUT_STAT, .PWR_STAT, .SW_BUF_GATED]) : d.beginFast.word r u = d.word r u := by
  rw [(only_begun d).word r u hr, fastCleared_word, if_neg (by simp [hfast])]

/-! ## The stop -/

theorem stopCp_insts (d : Dev) : d.stopCp.insts = [] := by
  have hports (x : Dev) (l : List Nat) : Only [.cands, .chans, .cpMail, .counters, .latches, .ring, .log, .pcie, .ptus, .sys, .sent, .freeCtr]
      [.ALM_ACTIVE, .ALM_LATCH, .PRT_PTU_STAT, .PRT_REV_STAT, .PWR_STAT, .RSEL_CAND_STAT] x (x.each l Dev.ptpBegin) :=
    .each .refl _ _ (fun _ _ => .ptpBegin .refl _ (by decide) (by decide))
  unfold Dev.stopCp
  dsimp only
  exact ((only_judgeSleeps _).part .insts (by decide)).trans ((hports _ _).part .insts (by decide))

/-- The fast domain is on its way down, with its CP and SMC. -/
def fastStopping (d : Dev) : Dev := (d.portsOff.stopCp.restartParty 3).setFast 3

theorem stopFast_of_on (h : d.fastOn = true) : d.stopFast = ((fastStopping d).countDev 287).onSys (fun s =>
    { s with cpStopped := false, smcStopped := false, newCpWait := false }) := by
  have hfast : d.fast = 2 := eq_of_beq h
  unfold Dev.stopFast
  exact if_neg (by simp [hfast])

theorem stopFast_fast (h : d.fastOn = true) : d.stopFast.fast = 3 := by
  have hcount (x : Dev) : (x.countDev 287).fast = x.fast :=
    (Only.refl.countDev (P := reports) (R := alarmRegs) _ _ (by decide)).get _ _ (by decide)
  rw [stopFast_of_on h]
  exact (hcount _).trans (setFast_fast _ 3)

theorem stopFast_insts (h : d.fastOn = true) : d.stopFast.insts = [] := by
  have hcount (x : Dev) : (x.countDev 287).insts = x.insts :=
    (Only.refl.countDev (P := reports) (R := alarmRegs) _ _ (by decide)).part .insts (by decide)
  rw [stopFast_of_on h, onSys_insts, hcount, fastStopping, (only_setFast _ _).part .insts (by decide),
    (only_restartParty _ _).part .insts (by decide), stopCp_insts]

/-! ## The end of the stop -/

/-- The PLLs of the fast domain have stopped. -/
def pllsStopped (d : Dev) : Dev := d.each [4, 5, 6, 7, 8] (fun d i => (d.stopSyn i).synBit F.SYN_STAT_FROZEN false i)

/-- Nothing of the fast domain is kept. -/
def fastEmptied (d : Dev) : Dev := { d.clearFast with sw := .init, ports := [], ptus := [], insts := [] }

/-- PWR_PORT_STAT shows no sleep and no cause, and the conditions of the fast domain end. -/
def portsQuiet (d : Dev) : Dev :=
  let d := d.each (List.range 32) (fun d p =>
    let d := (d.set F.PWR_PORT_STAT_T_EFF (d.tEff p) p).setMark F.PWR_PORT_STAT_ALLOWED 0 F.PWR_PORT_STAT_CHANGED p
    (d.setMark F.PWR_PORT_STAT_HOLD_CAUSE 0 F.PWR_PORT_STAT_CHANGED p).setMark F.PWR_PORT_STAT_PIN_BLOCKED 0 F.PWR_PORT_STAT_CHANGED p)
  let d := ((d.cond .laneRetired false).cond .pwrPinBlocked false).cond .ptpPinLost false
  (d.cond .bufRetireLimit false).cond .resShort false

/-- No bank and no core has power. -/
def powerShown (d : Dev) : Dev :=
  ((d.stopDrain.set F.PWR_STAT_BANKS_UNGATED 0).set F.PWR_STAT_CP_CORES 0).onSys (fun s => { s with slicesOff := 0, coresOff := 0, lpllOff := 0 })

theorem offFast_eq (d : Dev) : d.offFast = (powerShown (portsQuiet (fastEmptied (pllsStopped d)))).setFast 0 := rfl

theorem only_pllsStopped (d : Dev) : Only [.syns, .outs] [.OUT_STAT, .SYN_CMD, .SYN_STAT] d (pllsStopped d) :=
  .each .refl _ _ (fun _ _ => .setMark (.stopSyn .refl _ (by decide) (by decide)) _ _ _ _ (by decide) (by decide))

theorem only_portsQuiet (d : Dev) : Only reports (alarmRegs ++ [.PWR_PORT_STAT]) d (portsQuiet d) := by
  unfold portsQuiet
  exact .cond (.cond (.cond (.cond (.cond (.each .refl _ _ (fun _ _ => .setMark (.setMark (.setMark (.set .refl _ _ _ (by decide)) _ _ _ _
    (by decide) (by decide)) _ _ _ _ (by decide) (by decide)) _ _ _ _ (by decide) (by decide))) _ _ (by decide)) _ _ (by decide)) _ _
    (by decide)) _ _ (by decide)) _ _ (by decide)

theorem only_powerShown (d : Dev) : Only [.sys] [.PWR_STAT] d (powerShown d) :=
  .onSys (.set (.set (.stopDrain .refl (by decide) (by decide)) _ _ _ (by decide)) _ _ _ (by decide)) _ (by decide)

theorem only_emptied (d : Dev) : Only (reports ++ [.sys]) (alarmRegs ++ [.PWR_PORT_STAT, .PWR_STAT]) (fastEmptied (pllsStopped d)) d.offFast := by
  rw [offFast_eq]
  exact .setFast (((only_portsQuiet _).weaken (by decide) (by decide)).andThen (only_powerShown _) (by decide) (by decide)) _
    (by decide) (by decide)

theorem offFast_fast (d : Dev) : d.offFast.fast = 0 := by
  rw [offFast_eq]
  exact setFast_fast _ 0

theorem offFast_cores (d : Dev) : d.offFast.get F.PWR_STAT_CP_CORES = 0 := by
  rw [offFast_eq, setFast_get _ _ _ _ (by decide) (by decide) (by decide), powerShown, onSys_get]
  exact get_set_same _ _ _ _ (by decide)

theorem offFast_banks (d : Dev) : d.offFast.get F.PWR_STAT_BANKS_UNGATED = 0 := by
  rw [offFast_eq, setFast_get _ _ _ _ (by decide) (by decide) (by decide)]
  unfold powerShown
  rw [onSys_get, get_set_apart _ _ _ _ _ _ (by decide) (by decide)]
  exact get_set_same _ _ _ _ (by decide)

theorem powerShown_slices (d : Dev) : (powerShown d).sys.slicesOff = 0 := by
  rw [powerShown, onSys_sys]

theorem offFast_slices (d : Dev) : d.offFast.sys.slicesOff = 0 := by
  have hsys (x : Dev) : (x.setFast 0).sys = x.sys := (only_setFast x 0).sys (by decide)
  rw [offFast_eq, hsys, powerShown_slices]

theorem offFast_word (d : Dev) (r : Reg) (u : Nat) (hfast : r.isFast = false) (halarm : r ∉ alarmRegs)
    (hr : r ∉ [Reg.OUT_STAT, .PWR_PORT_STAT, .PWR_STAT, .SYN_CMD, .SYN_STAT]) : d.offFast.word r u = d.word r u := by
  have hquiet : r ∉ alarmRegs ++ [.PWR_PORT_STAT, .PWR_STAT] := by
    simp only [List.mem_append, List.mem_cons, not_or] at hr halarm ⊢
    tauto
  have hplls : r ∉ [Reg.OUT_STAT, .SYN_CMD, .SYN_STAT] := by
    simp only [List.mem_cons, not_or] at hr ⊢
    tauto
  have hword : (fastEmptied (pllsStopped d)).word r u = (pllsStopped d).word r u :=
    (clearFast_word _ r u).trans (if_neg (by simp [hfast]))
  rw [(only_emptied d).word r u hquiet, hword, (only_pllsStopped d).word r u hplls]

theorem offFast_part (d : Dev) (p : Part) (hp : p ∈ [Part.ident, .tbA, .tbB, .mir, .rsel, .cands, .twin, .chans, .tio, .cntCfg]) :
    p.same d d.offFast := by
  have hmid (x : Dev) : ∀ q ∈ [Part.ident, .tbA, .tbB, .mir, .rsel, .cands, .twin, .chans, .tio, .cntCfg], q.same x (fastEmptied x) := by
    intro q hq
    simp only [List.mem_cons, List.not_mem_nil, or_false] at hq
    rcases hq with rfl | rfl | rfl | rfl | rfl | rfl | rfl | rfl | rfl | rfl <;> rfl
  have h1 : ∀ q ∈ [Part.ident, .tbA, .tbB, .mir, .rsel, .cands, .twin, .chans, .tio, .cntCfg], q ∉ [Part.syns, .outs] := by decide
  have h2 : ∀ q ∈ [Part.ident, .tbA, .tbB, .mir, .rsel, .cands, .twin, .chans, .tio, .cntCfg], q ∉ reports ++ [.sys] := by decide
  exact p.same_trans (p.same_trans ((only_pllsStopped d).part p (h1 p hp)) (hmid _ p hp)) ((only_emptied d).part p (h2 p hp))

end Sys2Proof.Laws

/-! SUPPORT. Laws of the commands that start and stop the fast domain. -/

namespace Sys2Proof.Laws

open Sys2Proof.Machine Sys2Proof.Safety

variable {s : State} {d : Dev}

/-- The CP and the SMC run their images. -/
def imagesRun (cp smc : Image) (d : Dev) : Dev := ((d.runImage 3 cp).runImage 2 smc).cond .fwImageBad false

/-- The device of a start that has been taken. -/
def fastBegun (cp smc : Image) (waits : Bool) (d : Dev) : Dev :=
  ((imagesRun cp smc d).beginFast.countDev 286).onSys (fun y => { y with newCpWait := waits, cpStopped := false, smcStopped := false })

/-- The images of the slot that is booted pass their checks for a start. -/
def startGood (s : State) : Bool :=
  s.imageGood (s.dev.get F.GLB_BOOT_STAT_BUNDLE_SLOT) 3 && s.imageGood (s.dev.get F.GLB_BOOT_STAT_BUNDLE_SLOT) 2

theorem startFast_of_good (h : startGood s = true) : ∃ cp smc b, s.startFast = s.onDev (fastBegun cp smc b) :=
  ⟨_, _, _, if_pos h⟩

theorem startFast_of_bad (h : startGood s = false) (htrial : s.onTrial = false) :
    s.startFast = s.onDev (·.cond .fwImageBad true) :=
  (if_neg (by rw [startGood] at h; rw [h]; decide)).trans (if_neg (by rw [htrial]; decide))

theorem only_imagesRun (cp smc : Image) (d : Dev) : Only (reports ++ [.sys]) (alarmRegs ++ [.UPD_IFVER0, .UPD_IFVER1]) d (imagesRun cp smc d) :=
  .cond (.runImage (.runImage .refl _ _ (by decide) (by decide)) _ _ (by decide) (by decide)) _ _ (by decide)

theorem only_counted (d : Dev) : Only (reports ++ [.sys]) alarmRegs d ((d.countDev 286)) := .countDev .refl _ _ (by decide)

section
variable (cp smc : Image) (b : Bool) (d : Dev)

theorem only_fastBegun : Only (reports ++ [.sys, .syns, .outs, .sw])
    (alarmRegs ++ [.SYN_STAT, .SYN_CMD, .OUT_STAT, .PWR_STAT, .SW_BUF_GATED]) (fastCleared (imagesRun cp smc d)) (fastBegun cp smc b d) :=
  .onSys (.countDev ((only_begun _).weaken (by decide) (by decide)) _ _ (by decide)) _ (by decide)

/-- The count of the start, and what then runs, change nothing that a start has set. -/
theorem only_startCounted (f : Sys → Sys) : Only (reports ++ [.sys]) alarmRegs d ((d.countDev 286).onSys f) :=
  .onSys (.countDev .refl _ _ (by decide)) _ (by decide)

theorem fastBegun_fast : (fastBegun cp smc b d).fast = 1 :=
  ((only_startCounted _ _).get _ _ (by decide)).trans (beginFast_fast _)

theorem fastBegun_cores : (fastBegun cp smc b d).get F.PWR_STAT_CP_CORES = 4 :=
  ((only_startCounted _ _).get _ _ (by decide)).trans (beginFast_cores _)

theorem fastBegun_frames : (fastBegun cp smc b d).sw.frames = [] := by
  have hsw : (fastBegun cp smc b d).sw = (imagesRun cp smc d).beginFast.sw := (only_startCounted _ _).part .sw (by decide)
  rw [hsw, beginFast_sw]

theorem fastBegun_ports : (fastBegun cp smc b d).ports = [] := (only_fastBegun cp smc b d).part .ports (by decide)
theorem fastBegun_insts : (fastBegun cp smc b d).insts = [] := (only_fastBegun cp smc b d).part .insts (by decide)

theorem fastBegun_sys : (fastBegun cp smc b d).sys = { (imagesRun cp smc d).sys with
    newCpWait := b, cpStopped := false, smcStopped := false } := by
  have hcount (x : Dev) : (x.countDev 286).sys = x.sys :=
    (Only.refl.countDev (P := reports) (R := alarmRegs) _ _ (by decide)).sys (by decide)
  rw [fastBegun, onSys_sys, hcount, (only_begun _).sys (by decide)]
  rfl

theorem fastBegun_slices : (fastBegun cp smc b d).sys.slicesOff = d.sys.slicesOff := by
  have hrun (x : Dev) (t : Nat) (i : Image) : (x.runImage t i).sys.slicesOff = x.sys.slicesOff := by
    unfold Dev.runImage
    dsimp only
    rw [(Only.refl.set (P := []) (R := [.UPD_IFVER0, .UPD_IFVER1]) _ _ _ (by split_ifs <;> decide)).sys (by decide), onSys_sys]
  have hcond (x : Dev) : (x.cond .fwImageBad false).sys = x.sys :=
    (Only.refl.cond (P := reports) (R := alarmRegs) _ _ (by decide)).sys (by decide)
  rw [fastBegun_sys]
  dsimp only
  rw [imagesRun, hcond, hrun, hrun]

theorem fastBegun_fastWord (r : Reg) (u : Nat) (hfast : r.isFast = true) (hr : r ≠ .SW_BUF_GATED) :
    (fastBegun cp smc b d).word r u = r.resetWord u := by
  have halarm : r ∉ alarmRegs := by
    intro hm
    have hslow : ∀ q ∈ alarmRegs, q.isFast = false := by decide
    rw [hslow r hm] at hfast
    cases hfast
  rw [fastBegun, (only_startCounted _ _).word r u halarm, beginFast_fastWord _ r u hfast hr]

/-- A register that is not fast, but for those that a start shows itself in. -/
theorem fastBegun_slowWord (r : Reg) (u : Nat) (hfast : r.isFast = false)
    (hr : r ∉ alarmRegs ++ [.SYN_STAT, .SYN_CMD, .OUT_STAT, .PWR_STAT, .SW_BUF_GATED, .UPD_IFVER0, .UPD_IFVER1]) :
    (fastBegun cp smc b d).word r u = d.word r u := by
  simp only [List.mem_append, List.mem_cons, not_or] at hr
  rw [(only_fastBegun cp smc b d).word r u (by simp only [List.mem_append, List.mem_cons, not_or]; tauto), fastCleared_word,
    if_neg (by simp [hfast]), (only_imagesRun cp smc d).word r u (by simp only [List.mem_append, List.mem_cons, not_or]; tauto)]

end

/-! ## The fast domain comes on -/

/-- The CP has written the MAC addresses and applied the fast records. -/
def recordsApplied (s : State) : State := (s.onDev (fun d => ({ d with counters := [], cntCfg := [] } : Dev).writeMacs)).applyFast

/-- FAST is ON with the latches folded in and the ring begun. -/
def fastShownOn (d : Dev) : Dev := (((d.setFast 2).foldLatches).ringStart).onSys (fun y => { y with newCpWait := false })

/-- The ports begin. -/
def portsBegun (d : Dev) : Dev := (d.each d.portList (fun d p => (d.startBring p).refreshPower p)).judgeConfigNone.judgeBanks

theorem fastIsOn_eq (s : State) : s.fastIsOn =
    if ((recordsApplied s).onDev (fun d => (portsBegun (fastShownOn d)).when ((portsBegun (fastShownOn d)).stage == 6) (fun d => d.setStage 7))).dev.stage = 7 then
      ((recordsApplied s).onDev (fun d => (portsBegun (fastShownOn d)).when ((portsBegun (fastShownOn d)).stage == 6) (fun d => d.setStage 7))).startWindow
    else (recordsApplied s).onDev (fun d => (portsBegun (fastShownOn d)).when ((portsBegun (fastShownOn d)).stage == 6) (fun d => d.setStage 7)) :=
  rfl

theorem applied_records (s : State) : Applied s (recordsApplied s) := by
  have hcleared (d : Dev) : Running d { d with counters := [], cntCfg := [] } := .of_regs rfl rfl rfl
  have hmacs (d : Dev) : Running d d.writeMacs := .of_only (only_writeMacs d) (by decide)
  exact ((Applied.refl s).onDev ((hcleared _).trans (hmacs _))).trans (applied_applyFast _)

theorem running_portsBegun (d : Dev) : Running d (portsBegun d) := by
  have hports : Running d (d.each d.portList (fun d p => (d.startBring p).refreshPower p)) :=
    (Running.refl d).each _ _ fun _ _ => (running_startBring _ _).trans (.of_only (only_refreshPower _ _) (by decide))
  have hnone (x : Dev) : Running x x.judgeConfigNone := .of_only (only_judgeConfigNone x) (by decide)
  exact (hports.trans (hnone _)).trans (running_judgeBanks _)

theorem fastShownOn_fast (d : Dev) : (fastShownOn d).fast = 2 := by
  have hfold (x : Dev) : Only (reports ++ [.sys]) alarmRegs x ((x.foldLatches.ringStart).onSys (fun y => { y with newCpWait := false })) :=
    .onSys (.ringStart (.foldLatches .refl (by decide) (by decide)) (by decide) (by decide)) _ (by decide)
  exact ((hfold _).get _ _ (by decide)).trans (setFast_fast d 2)

theorem only_fastShownOn (d : Dev) : Only (reports ++ [.sys]) (alarmRegs ++ [.PWR_STAT]) d (fastShownOn d) :=
  .onSys (.ringStart (.foldLatches (.setFast .refl _ (by decide) (by decide)) (by decide) (by decide)) (by decide) (by decide)) _ (by decide)

/-- The stage goes on from FAST to RUNNING, and only from there. -/
theorem stageStep_fast (b : Bool) (d : Dev) : (d.when b (fun d => d.setStage 7)).fast = d.fast := by
  have hstep : (d.setStage 7).fast = d.fast := get_setMark_apart _ _ _ _ _ _ _ (by decide) (by decide) (by decide) (by decide)
  cases b with
  | true => rw [when_true, hstep]
  | false => rw [when_false]

theorem stageStep_stage (d : Dev) (h : d.stage = 6) : (d.when (d.stage == 6) (fun d => d.setStage 7)).stage = 7 := by
  rw [beq_iff_eq.2 h, when_true]
  exact setStage_stage _ 7

theorem startWindow_get (s : State) (g : Fld) (u : Nat) (hg : g.reg ∉ [Reg.UPD_STAT, .UPD_CONFIRM_LEFT]) :
    s.startWindow.dev.get g u = s.dev.get g u := (only_startWindow s).get g u hg

theorem fastIsOn_shows (s : State) : s.fastIsOn.dev.fast = 2 ∧ (s.dev.stage = 6 → s.fastIsOn.dev.stage = 7) := by
  have hrecords := applied_records s
  have hports := running_portsBegun (fastShownOn (recordsApplied s).dev)
  have hfast := stageStep_fast ((portsBegun (fastShownOn (recordsApplied s).dev)).stage == 6) (portsBegun (fastShownOn (recordsApplied s).dev))
  have hstage := stageStep_stage (portsBegun (fastShownOn (recordsApplied s).dev))
  have hon : (portsBegun (fastShownOn (recordsApplied s).dev)).fast = 2 := by rw [hports.fast, fastShownOn_fast]
  have hsix : (portsBegun (fastShownOn (recordsApplied s).dev)).stage = s.dev.stage := by
    rw [hports.stage, (only_fastShownOn _).stage (by decide), hrecords.dev.stage]
  rw [fastIsOn_eq, onDev_dev]
  split
  · refine ⟨(startWindow_get _ _ _ (by decide)).trans (hfast.trans hon), fun h => (startWindow_get _ _ _ (by decide)).trans (hstage (hsix.trans h))⟩
  · exact ⟨hfast.trans hon, fun h => hstage (hsix.trans h)⟩

end Sys2Proof.Laws

/-! The start and the stop of the fast domain (11_power_and_wake.md). -/

namespace Sys2Proof.Proofs

open Sys2Proof.Machine Sys2Proof.Safety Sys2Proof.Laws

variable {s : State}

theorem only_fastResult (d : Dev) (v : Nat) : Only [] [.PWR_FAST_CMD] d (d.set F.PWR_FAST_CMD_RESULT v) := .set .refl _ _ _ (by decide)

theorem fastResult_get (d : Dev) (v : Nat) : (d.set F.PWR_FAST_CMD_RESULT v).get F.PWR_FAST_CMD_RESULT = v % 16 :=
  get_set_same _ _ _ _ (by decide)

/-- START of the fast domain, which is OFF. -/
theorem fastStart_of_off (hreach : s.dev.firnReach = true) (hoff : s.dev.fast = 0) (htrial : s.onTrial = false) :
    Completes .fastStart s (fun t =>
      t.dev.get F.PWR_FAST_CMD_RESULT = 1 ∧
      (if startGood s then
        t.dev.fast = 1 ∧ t.dev.get F.PWR_STAT_CP_CORES = 4 ∧ t.dev.sys.cpStopped = false ∧
        t.dev.sys.smcStopped = false ∧ (∀ r u, r.isFast = true → r ≠ .SW_BUF_GATED → t.dev.word r u = r.resetWord u)
      else t.dev.fast = 0 ∧ t.dev.alarmOn .fwImageBad = true)) := by
  have hshown := only_fastResult s.dev 1
  have hgood : startGood (s.onDev (·.set F.PWR_FAST_CMD_RESULT 1)) = startGood s := by
    have hslot : (s.dev.set F.PWR_FAST_CMD_RESULT 1).get F.GLB_BOOT_STAT_BUNDLE_SLOT = s.dev.get F.GLB_BOOT_STAT_BUNDLE_SLOT :=
      hshown.get _ _ (by decide)
    rw [startGood, startGood, onDev_dev, hslot]
    rfl
  have hexec : exec .fastStart s = .next (s.onDev (·.set F.PWR_FAST_CMD_RESULT 1)).startFast :=
    congrArg Host.Outcome.next ((if_pos hreach).trans (if_neg (by simp [hoff])))
  refine completes_of_next hexec ?_
  cases h : startGood s with
  | true =>
    obtain ⟨cp, smc, b, hstart⟩ := startFast_of_good (hgood.trans h)
    rw [hstart, if_pos rfl]
    refine ⟨?_, fastBegun_fast _ _ _ _, fastBegun_cores _ _ _ _, ?_, ?_, fun r u hf hr => fastBegun_fastWord _ _ _ _ r u hf hr⟩
    · have hword := fastBegun_slowWord cp smc b (s.onDev (·.set F.PWR_FAST_CMD_RESULT 1)).dev .PWR_FAST_CMD 0 (by decide) (by decide)
      rw [onDev_dev, Dev.get]
      exact (congrArg (fun w : Word => bitsOf w.toNat F.PWR_FAST_CMD_RESULT.lo F.PWR_FAST_CMD_RESULT.width) hword).trans (fastResult_get s.dev 1)
    · rw [onDev_dev, fastBegun_sys]
    · rw [onDev_dev, fastBegun_sys]
  | false =>
    have hcond (d : Dev) : Only reports alarmRegs d (d.cond .fwImageBad true) := .cond .refl _ _ (by decide)
    rw [startFast_of_bad (hgood.trans h) htrial, if_neg (by decide)]
    refine ⟨?_, ?_, alarmOn_cond_true _ _⟩
    · rw [onDev_dev, (hcond _).get _ _ (by decide), onDev_dev, fastResult_get]
    · rw [onDev_dev, Dev.fast, (hcond _).get _ _ (by decide), onDev_dev, hshown.get _ _ (by decide)]
      exact hoff

/-- START of the fast domain, which is not OFF. -/
theorem fastStart_of_busy (hreach : s.dev.firnReach = true) (hfast : s.dev.fast ≠ 0) :
    Completes .fastStart s (fun t => t.dev.get F.PWR_FAST_CMD_RESULT = 2 ∧ Frame [] [.PWR_FAST_CMD] s t) := by
  have hexec : exec .fastStart s = .next (s.onDev (·.set F.PWR_FAST_CMD_RESULT 2)) :=
    congrArg Host.Outcome.next ((if_pos hreach).trans (if_pos hfast))
  refine completes_of_next hexec ?_
  rw [onDev_dev]
  exact ⟨fastResult_get _ 2, only_fastResult _ 2, onDev_flash s _, onDev_pending s _⟩

/-- STOP of the fast domain, which is ON. -/
theorem fastStop_of_on (hreach : s.dev.firnReach = true) (hon : s.dev.fastOn = true) (hidle : s.dev.updating = false) :
    Completes .fastStop s (fun t => t.dev.fast = 3 ∧ t.dev.get F.PWR_FAST_CMD_RESULT = 1 ∧ t.dev.insts = []) := by
  have hstop : s.dev.reach Dev.fastStop = s.dev.stopFast.set F.PWR_FAST_CMD_RESULT 1 := by
    rw [Dev.reach, if_pos hreach, Dev.fastStop, if_neg (by simp [hidle]), if_neg (by simp [hon])]
  refine completes_onDev (f := fun d => d.reach Dev.fastStop) rfl ?_
  rw [onDev_dev, hstop]
  refine ⟨?_, fastResult_get _ 1, ?_⟩
  · rw [Dev.fast, (only_fastResult _ 1).get _ _ (by decide)]
    exact stopFast_fast hon
  · rw [(only_fastResult _ 1).part .insts (by decide), stopFast_insts hon]

/-- STOP of the fast domain, which is not ON. -/
theorem fastStop_of_off (hreach : s.dev.firnReach = true) (hon : s.dev.fastOn = false) (hidle : s.dev.updating = false) :
    Completes .fastStop s (fun t => t.dev.get F.PWR_FAST_CMD_RESULT = 2 ∧ Frame [] [.PWR_FAST_CMD] s t) := by
  have hstop : s.dev.reach Dev.fastStop = s.dev.set F.PWR_FAST_CMD_RESULT 2 := by
    rw [Dev.reach, if_pos hreach, Dev.fastStop, if_neg (by simp [hidle]), if_pos (by simp [hon])]
  refine completes_onDev (f := fun d => d.reach Dev.fastStop) rfl ?_
  rw [onDev_dev, hstop]
  refine ⟨fastResult_get _ 2, ?_, onDev_flash s _, onDev_pending s _⟩
  rw [onDev_dev, hstop]
  exact only_fastResult _ 2

/-- What the end of a stop leaves. -/
theorem fastDomainOff_of_stopping (hfast : s.dev.fast = 3) : Completes .fastDomainOff s (fun t => t.dev.fast = 0 ∧ t.dev.sw = .init ∧
    t.dev.ports = [] ∧ t.dev.ptus = [] ∧ t.dev.insts = [] ∧ t.dev.get F.PWR_STAT_CP_CORES = 0 ∧ t.dev.get F.PWR_STAT_BANKS_UNGATED = 0 ∧
    t.flash = s.flash ∧ (∀ p ∈ [Part.ident, .tbA, .tbB, .mir, .rsel, .cands, .twin, .chans, .tio, .cntCfg], p.same s.dev t.dev) ∧
    ∀ r u, r.isFast = false → r ∉ alarmRegs → r ∉ [Reg.OUT_STAT, .PWR_PORT_STAT, .PWR_STAT, .SYN_CMD, .SYN_STAT] →
      t.dev.word r u = s.dev.word r u) := by
  have hstop : s.dev.fastOffDone = s.dev.offFast := if_pos hfast
  have hempty := only_emptied s.dev
  have hsw : s.dev.offFast.sw = .init := (hempty.part .sw (by decide)).trans rfl
  have hports : s.dev.offFast.ports = [] := (hempty.part .ports (by decide)).trans rfl
  have hptus : s.dev.offFast.ptus = [] := (hempty.part .ptus (by decide)).trans rfl
  have hinsts : s.dev.offFast.insts = [] := (hempty.part .insts (by decide)).trans rfl
  refine completes_onDev (f := Dev.fastOffDone) rfl ?_
  rw [onDev_dev, hstop]
  exact ⟨offFast_fast _, hsw, hports, hptus, hinsts, offFast_cores _, offFast_banks _, onDev_flash s _, fun p hp => offFast_part _ p hp,
    fun r u hf ha hr => offFast_word _ r u hf ha hr⟩

/-- The fast domain comes on. -/
theorem fastDomainOn_of_starting (hfast : s.dev.fast = 1) (hlock : s.dev.synLocked 4 = true) (hactive : s.dev.anyActive = true) :
    Completes .fastDomainOn s (fun t => t.dev.fast = 2 ∧ (s.dev.stage = 6 → t.dev.stage = 7)) := by
  have hexec : exec .fastDomainOn s = .next s.fastIsOn := congrArg Host.Outcome.next (if_pos (by rw [hfast, hlock, hactive]; rfl))
  exact completes_of_next hexec (fastIsOn_shows s)

/-- Settles O38: a start and the end of a stop put the fast domain to its Reset values, and what comes on between them keeps FAST
and the stage (`Running`), the records that the CP applies among it. -/
theorem fastDomainStartAndStop : Obligations.FastDomainStartAndStop :=
  fun _ => ⟨fastStart_of_off, fastStart_of_busy, fastDomainOn_of_starting, fastStop_of_on, fastStop_of_off, fastDomainOff_of_stopping⟩

end Sys2Proof.Proofs


/-! SUPPORT. A restart of the CP or of the SMC, and what a reset of the fast domain leaves. -/

namespace Sys2Proof.Laws

open Sys2Proof.Machine Sys2Proof.Safety

/-- The alarm of a bad image is as before. -/
structure Warned (d e : Dev) : Prop where
  on : e.alarmOn .fwImageBad = d.alarmOn .fwImageBad

variable {P : List Part} {R : List Reg} {x d e : Dev}

namespace Warned

theorem refl (d : Dev) : Warned d d := ⟨rfl⟩
theorem trans (h : Warned x d) (k : Warned d e) : Warned x e := ⟨k.on.trans h.on⟩
theorem after (k : Warned d e) (h : Warned x d) : Warned x e := h.trans k
theorem of_only (k : Only P R d e) (h : .ALM_ACTIVE ∉ R) : Warned d e := ⟨alarmOn_of_word _ fun u => k.word _ u h⟩
theorem of_regs (h : Warned x d) (k : e.regs = d.regs) : Warned x e :=
  h.trans ⟨alarmOn_of_word _ fun u => by rw [Dev.word, k, Dev.word]⟩
theorem when (h : Warned x d) (b : Bool) (f : Dev → Dev) (k : Warned d (f d)) : Warned x (d.when b f) := by
  cases b
  · exact h
  · exact h.trans k
theorem each {α : Type} (h : Warned x d) (l : List α) (f : Dev → α → Dev) (k : ∀ e a, Warned e (f e a)) : Warned x (d.each l f) := by
  unfold Dev.each
  induction l generalizing d with
  | nil => exact h
  | cons a l ih => exact ih (h.trans (k d a))
theorem set (h : Warned x d) (f : Fld) (v u : Nat) (hf : f.reg ≠ .ALM_ACTIVE) : Warned x (d.set f v u) :=
  h.trans ⟨alarmOn_of_word _ fun w => word_set_other d f v u _ w fun hh => hf hh.1.symm⟩
theorem setMark (h : Warned x d) (f ch : Fld) (v u : Nat) (hf : f.reg ≠ .ALM_ACTIVE) (hch : ch.reg ≠ .ALM_ACTIVE) :
    Warned x (d.setMark f v ch u) := by
  unfold Dev.setMark
  split
  · exact h
  · exact (h.set _ _ _ hf).set _ _ _ hch
theorem quadSet (h : Warned x d) (f : Fld) (v p : Nat) (hf : f.reg ≠ .ALM_ACTIVE) : Warned x (d.quadSet f v p) :=
  h.setMark _ _ _ _ hf (by decide)
theorem synBit (h : Warned x d) (f : Fld) (b : Bool) (i : Nat) (hf : f.reg ≠ .ALM_ACTIVE) : Warned x (d.synBit f b i) :=
  h.setMark _ _ _ _ hf (by decide)
theorem cond (h : Warned x d) (a : Alarm) (on : Bool) (ha : Alarm.fwImageBad.bit ≠ a.bit) : Warned x (d.cond a on) :=
  h.trans ⟨alarmOn_cond_other _ _ _ _ ha⟩
theorem raise (h : Warned x d) (a : Alarm) : Warned x (d.raise a) :=
  h.trans ⟨alarmOn_of_word _ fun u => latch_word _ _ u (by decide)⟩
theorem countAt (h : Warned x d) (b : Bool) (i n : Nat) : Warned x (d.countAt b i n) := h.of_regs (countAt_regs b i n)
theorem countDev (h : Warned x d) (j n : Nat) : Warned x (d.countDev j n) := h.countAt _ _ _
theorem countPort (h : Warned x d) (p k n : Nat) : Warned x (d.countPort p k n) := h.countAt _ _ _
theorem devEvent (h : Warned x d) (b : Bool) (v i n : Nat) : Warned x (d.devEvent b v i n) :=
  h.each _ _ fun e _ => (Warned.refl e).when _ _ ((Warned.refl e).countAt _ _ _)
theorem onSw (h : Warned x d) (f : Switch → Switch) : Warned x (d.onSw f) := h.of_regs rfl
theorem onSys (h : Warned x d) (f : Sys → Sys) : Warned x (d.onSys f) := h.of_regs rfl
theorem onPort (h : Warned x d) (p : Nat) (f : Port → Port) : Warned x (d.onPort p f) := h.of_regs rfl

end Warned

theorem warned_refreshPower (d : Dev) (p : Nat) : Warned d (d.refreshPower p) := by
  unfold Dev.refreshPower
  try dsimp only
  repeat' first
    | with_reducible exact Warned.refl _
    | with_reducible refine Warned.set ?_ _ _ _ (by decide)
    | with_reducible refine Warned.setMark ?_ _ _ _ _ (by decide) (by decide)
    | with_reducible refine Warned.quadSet ?_ _ _ _ (by decide)
    | with_reducible refine Warned.cond ?_ _ _ (by decide)

theorem warned_judgeBuf (d : Dev) : Warned d d.judgeBuf := by
  unfold Dev.judgeBuf
  try dsimp only
  repeat' first
    | with_reducible exact Warned.refl _
    | with_reducible refine Warned.cond ?_ _ _ (by decide)

theorem warned_judgeBanks (d : Dev) : Warned d d.judgeBanks := by
  unfold Dev.judgeBanks
  try dsimp only
  repeat' first
    | with_reducible exact Warned.refl _
    | with_reducible refine Warned.onSw ?_ _
    | with_reducible refine (warned_judgeBuf _).after ?_
    | with_reducible refine (Warned.of_only (only_setGated _ _) (by decide)).after ?_
    | with_reducible refine (Warned.of_only (only_stopDrain _) (by decide)).after ?_
    | with_reducible refine Warned.when ?_ _ _ ?_
    | split

theorem warned_acquire (d : Dev) (i w : Nat) : Warned d (d.acquire i w) := by
  unfold Dev.acquire
  try dsimp only
  repeat' first
    | with_reducible exact Warned.refl _
    | with_reducible refine Warned.set ?_ _ _ _ (by decide)
    | with_reducible refine Warned.synBit ?_ _ _ _ (by decide)
    | with_reducible refine Warned.raise ?_ _
    | with_reducible refine Warned.countDev ?_ _ _
    | with_reducible refine Warned.devEvent ?_ _ _ _ _
    | with_reducible refine (Warned.of_only (only_beginPair _ _) (by decide)).after ?_
    | with_reducible refine (Warned.of_only (only_endStep _ _ _) (by decide)).after ?_
    | with_reducible refine (Warned.of_only (only_onSyn _ _ _) (by decide)).after ?_
    | with_reducible refine (Warned.of_only (only_retime _ _ _) (by decide)).after ?_
    | with_reducible refine (Warned.of_only (only_squelch _ _) (by decide)).after ?_
    | split

theorem warned_startInternal (d : Dev) (i : Nat) : Warned d (d.startInternal i) := by
  unfold Dev.startInternal
  try dsimp only
  repeat' first
    | with_reducible exact Warned.refl _
    | with_reducible refine (warned_acquire _ _ _).after ?_
    | split

theorem warned_restartLpll (d : Dev) (k : Nat) : Warned d (d.restartLpll k) := by
  unfold Dev.restartLpll
  try dsimp only
  repeat' first
    | with_reducible exact Warned.refl _
    | with_reducible refine Warned.onSys ?_ _
    | with_reducible refine (warned_startInternal _ _).after ?_
    | split

theorem warned_wakeTx (d : Dev) (p : Nat) : Warned d (d.wakeTx p) := by
  unfold Dev.wakeTx
  try dsimp only
  repeat' first
    | with_reducible exact Warned.refl _
    | with_reducible refine Warned.quadSet ?_ _ _ _ (by decide)
    | with_reducible refine Warned.onPort ?_ _ _
    | with_reducible refine Warned.countPort ?_ _ _ _
    | with_reducible refine (warned_judgeBanks _).after ?_
    | with_reducible refine (warned_restartLpll _ _).after ?_
    | split

theorem warned_judgeSleep (d : Dev) (p : Nat) : Warned d (d.judgeSleep p) := by
  unfold Dev.judgeSleep
  try dsimp only
  repeat' first
    | with_reducible exact Warned.refl _
    | with_reducible refine (warned_refreshPower _ _).after ?_
    | with_reducible refine (warned_wakeTx _ _).after ?_
    | split

theorem warned_judgeSleeps (d : Dev) : Warned d d.judgeSleeps := by
  unfold Dev.judgeSleeps
  try dsimp only
  repeat' first
    | with_reducible exact Warned.refl _
    | with_reducible refine (warned_judgeSleep _ _).after ?_
    | with_reducible refine Warned.each ?_ _ _ (fun _ _ => ?_)
    | split

end Sys2Proof.Laws


namespace Sys2Proof.Laws

open Sys2Proof.Machine Sys2Proof.Safety

variable {s t : State} {d : Dev}

theorem imageGood_of_ident (hflash : t.flash = s.flash) (hident : t.dev.ident = s.dev.ident) (slot k : Nat) :
    t.imageGood slot k = s.imageGood slot k := by
  rw [State.imageGood, hflash, hident, State.imageGood]

/-- The processors that run are among what `Running` keeps. -/
theorem Running.cpStopped {e : Dev} (h : Running d e) : e.sys.cpStopped = d.sys.cpStopped := by
  have hcore := congrArg Sys.cpStopped h.sys
  exact hcore

theorem Running.smcStopped {e : Dev} (h : Running d e) : e.sys.smcStopped = d.sys.smcStopped := by
  have hcore := congrArg Sys.smcStopped h.sys
  exact hcore

/-! ## The CP -/

/-- The CP runs an image again. -/
def cpBegun (i : Image) (d : Dev) : Dev := (d.runImage 3 i).onSys (fun y => { y with cpStopped := false })

/-- The CP stays stopped, its image being bad. -/
def cpHalted (d : Dev) : Dev := ((d.onSys (fun y => { y with cpStopped := true })).cond .fwImageBad true).judgeSleeps

/-- The CP has stopped and runs its image. -/
def cpAgain (i : Image) (s : State) : State := (s.onDev Dev.stopCp).onDev (cpBegun i)

theorem imageGood_stopCp (s : State) (slot k : Nat) : (s.onDev Dev.stopCp).imageGood slot k = s.imageGood slot k :=
  imageGood_of_ident (onDev_flash s _) (by rw [onDev_dev]; exact (only_stopCp _).part .ident (by decide)) slot k

theorem restartCp_of_good (h : s.imageGood (s.runSlot 3) 3 = true) :
    s.restartCp = (cpAgain (readImage s.flash (s.runSlot 3) 3) s).applyFast.onDev Dev.judgeConfigNone :=
  if_pos ((imageGood_stopCp s _ _).trans h)

theorem restartCp_of_bad (h : s.imageGood (s.runSlot 3) 3 = false) (htrial : s.onTrial = false) :
    s.restartCp = (s.onDev Dev.stopCp).onDev cpHalted :=
  (if_neg (by rw [imageGood_stopCp, h]; decide)).trans (if_neg (by rw [State.onTrial, onDev_flash, ← State.onTrial, htrial]; decide))

/-- What follows once the image runs, the fast records among it, keeps what `Running` names. -/
theorem applied_restartCp (h : s.imageGood (s.runSlot 3) 3 = true) : Applied (cpAgain (readImage s.flash (s.runSlot 3) 3) s) s.restartCp := by
  rw [restartCp_of_good h]
  exact (applied_applyFast _).onDev (.of_only (only_judgeConfigNone _) (by decide))

theorem only_cpBegun (i : Image) (d : Dev) : Only [.sys] [.UPD_IFVER0, .UPD_IFVER1] d (cpBegun i d) :=
  .onSys (.runImage .refl _ _ (by decide) (by decide)) _ (by decide)

theorem runImage_cp (i : Image) (d : Dev) : (d.runImage 3 i).get F.UPD_IFVER0_CP = i.ifVer % 65536 :=
  get_set_same _ _ _ _ (by decide)

theorem runImage_smc (i : Image) (d : Dev) : (d.runImage 2 i).get F.UPD_IFVER1_SMC = i.ifVer % 65536 :=
  get_set_same _ _ _ _ (by decide)

theorem cpBegun_version (i : Image) (d : Dev) : (cpBegun i d).get F.UPD_IFVER0_CP = i.ifVer % 65536 := by
  have hsys (x : Dev) : Only [.sys] [] x (x.onSys (fun y => { y with cpStopped := false })) := .onSys .refl _ (by decide)
  exact ((hsys _).get _ _ (by decide)).trans (runImage_cp i d)

theorem cpBegun_runs (i : Image) (d : Dev) : (cpBegun i d).sys.cpStopped = false := by
  rw [cpBegun, onSys_sys]

theorem restartCp_runs (h : s.imageGood (s.runSlot 3) 3 = true) : s.restartCp.dev.sys.cpStopped = false := by
  rw [(applied_restartCp h).dev.cpStopped, cpAgain, onDev_dev, cpBegun_runs]

theorem restartCp_version (h : s.imageGood (s.runSlot 3) 3 = true) :
    s.restartCp.dev.get F.UPD_IFVER0_CP = (readImage s.flash (s.runSlot 3) 3).ifVer % 65536 := by
  rw [(applied_restartCp h).dev.get _ _ (by decide) (by decide), cpAgain, onDev_dev, cpBegun_version]

theorem only_cpStops (d : Dev) : Only (reports ++ [.sys]) alarmRegs d ((d.onSys (fun y => { y with cpStopped := true })).cond .fwImageBad true) :=
  .cond (.onSys .refl _ (by decide)) _ _ (by decide)

theorem cpHalted_stops (d : Dev) : (cpHalted d).sys.cpStopped = true := by
  have hcond (x : Dev) : (x.cond .fwImageBad true).sys = x.sys :=
    (Only.refl.cond (P := reports) (R := alarmRegs) _ _ (by decide)).sys (by decide)
  rw [cpHalted, (running_judgeSleeps _).cpStopped, hcond, onSys_sys]

theorem cpHalted_insts (d : Dev) : (cpHalted d).insts = d.insts :=
  ((only_judgeSleeps _).part .insts (by decide)).trans ((only_cpStops d).part .insts (by decide))

theorem cpHalted_alarm (d : Dev) : (cpHalted d).alarmOn .fwImageBad = true := by
  rw [cpHalted, (warned_judgeSleeps _).on]
  exact alarmOn_cond_true _ _

theorem cpHalted_get (g : Fld) (hg : g.reg = .GLB_RESET) (d : Dev) : (cpHalted d).get g = d.get g := by
  rw [cpHalted, (only_judgeSleeps _).get g 0 (by rw [hg]; decide), (only_cpStops d).get g 0 (by rw [hg]; decide)]

/-- What a restart of the CP with a bad image leaves. -/
theorem restartCp_halts (h : s.imageGood (s.runSlot 3) 3 = false) (htrial : s.onTrial = false) :
    s.restartCp.dev.sys.cpStopped = true ∧ s.restartCp.dev.insts = [] ∧ s.restartCp.dev.alarmOn .fwImageBad = true := by
  rw [restartCp_of_bad h htrial, onDev_dev]
  refine ⟨cpHalted_stops _, ?_, cpHalted_alarm _⟩
  rw [cpHalted_insts, onDev_dev, stopCp_insts]

/-- GLB_RESET is as before a restart of the CP. -/
theorem restartCp_reset (g : Fld) (hg : g.reg = .GLB_RESET) (htrial : s.onTrial = false) : s.restartCp.dev.get g = s.dev.get g := by
  have hboot : g.reg ∈ bootRegs := by rw [hg]; decide
  have hapart : apart F.GLB_BOOT_STAT_FAST_SLOT g = true := by
    have hreg : (F.GLB_BOOT_STAT_FAST_SLOT).reg ≠ g.reg := by rw [hg]; decide
    simp [apart, hreg]
  have hstop (d : Dev) : d.stopCp.get g = d.get g := (only_stopCp d).get _ _ (by rw [hg]; decide)
  cases h : s.imageGood (s.runSlot 3) 3 with
  | true =>
    rw [(applied_restartCp h).dev.get _ _ hboot hapart, cpAgain, onDev_dev, (only_cpBegun _ _).get _ _ (by rw [hg]; decide), onDev_dev, hstop]
  | false =>
    rw [restartCp_of_bad h htrial, onDev_dev, onDev_dev, cpHalted_get g hg, hstop]

/-! ## The SMC -/

/-- The SMC stops or runs again, FAST being ON. -/
def smcSet (b : Bool) (d : Dev) : Dev := d.onSys (fun y => { y with smcStopped := b })

theorem smcMoves_stops (h : d.fastOn = true) : d.smcMoves false = (smcSet true d).judgeSleeps := by
  rw [Dev.smcMoves, if_neg (by simp [h])]
  exact if_neg (by decide)

theorem smcMoves_again (h : d.fastOn = true) : d.smcMoves true = ((smcSet false d).restartParty 3).judgeSleeps := by
  rw [Dev.smcMoves, if_neg (by simp [h])]
  exact if_pos rfl

theorem running_smcStops (h : d.fastOn = true) : Running (smcSet true d) (d.smcMoves false) := by
  rw [smcMoves_stops h]
  exact running_judgeSleeps _

theorem running_smcAgain (h : d.fastOn = true) : Running (smcSet false d) (d.smcMoves true) := by
  rw [smcMoves_again h]
  exact Running.trans (.of_only (only_restartParty _ _) (by decide)) (running_judgeSleeps _)

theorem smcStops_fastOn (h : d.fastOn = true) (i : Image) : ((d.smcMoves false).runImage 2 i).fastOn = true := by
  have hrun : ((d.smcMoves false).runImage 2 i).fast = (d.smcMoves false).fast := (only_runImage _ _ _).get _ _ (by decide)
  rw [Dev.fastOn, hrun, (running_smcStops h).fast]
  exact h

theorem imageGood_smcMoves (s : State) (b : Bool) (slot k : Nat) : (s.onDev (·.smcMoves b)).imageGood slot k = s.imageGood slot k :=
  imageGood_of_ident (onDev_flash s _) (by rw [onDev_dev]; exact (only_smcMoves _ _).part .ident (by decide)) slot k

theorem restartSmc_of_good (h : s.imageGood (s.runSlot 2) 2 = true) : s.restartSmc =
    (s.onDev (·.smcMoves false)).onDev (fun d => (d.runImage 2 (readImage s.flash (s.runSlot 2) 2)).smcMoves true) :=
  if_pos ((imageGood_smcMoves s _ _ _).trans h)

theorem restartSmc_of_bad (h : s.imageGood (s.runSlot 2) 2 = false) (htrial : s.onTrial = false) :
    s.restartSmc = (s.onDev (·.smcMoves false)).onDev (·.cond .fwImageBad true) :=
  (if_neg (by rw [imageGood_smcMoves, h]; decide)).trans (if_neg (by rw [State.onTrial, onDev_flash, ← State.onTrial, htrial]; decide))

/-- What a restart of the SMC with a good image shows. -/
theorem restartSmc_runs (h : s.imageGood (s.runSlot 2) 2 = true) (hon : s.dev.fastOn = true) : s.restartSmc.dev.sys.smcStopped = false ∧
    s.restartSmc.dev.get F.UPD_IFVER1_SMC = (readImage s.flash (s.runSlot 2) 2).ifVer % 65536 := by
  have hagain := running_smcAgain (smcStops_fastOn hon (readImage s.flash (s.runSlot 2) 2))
  rw [restartSmc_of_good h, onDev_dev, onDev_dev]
  have hsys (x : Dev) : Only [.sys] [] x (smcSet false x) := .onSys .refl _ (by decide)
  refine ⟨?_, ?_⟩
  · rw [hagain.smcStopped, smcSet, onSys_sys]
  · rw [hagain.get _ _ (by decide) (by decide), (hsys _).get _ _ (by decide), runImage_smc]

theorem smcMoves_stopped (hon : d.fastOn = true) : (d.smcMoves false).sys.smcStopped = true := by
  rw [(running_smcStops hon).smcStopped, smcSet, onSys_sys]

theorem restartSmc_halts (h : s.imageGood (s.runSlot 2) 2 = false) (hon : s.dev.fastOn = true) (htrial : s.onTrial = false) :
    s.restartSmc.dev.sys.smcStopped = true ∧ s.restartSmc.dev.alarmOn .fwImageBad = true := by
  have hcond (x : Dev) : (x.cond .fwImageBad true).sys = x.sys :=
    (Only.refl.cond (P := reports) (R := alarmRegs) _ _ (by decide)).sys (by decide)
  rw [restartSmc_of_bad h htrial, onDev_dev, onDev_dev, hcond]
  exact ⟨smcMoves_stopped hon, alarmOn_cond_true _ _⟩

/-- GLB_RESET is as before a restart of the SMC. -/
theorem restartSmc_reset (g : Fld) (hg : g.reg = .GLB_RESET) (htrial : s.onTrial = false) : s.restartSmc.dev.get g = s.dev.get g := by
  have hmoves (d : Dev) (b : Bool) : (d.smcMoves b).get g = d.get g := (only_smcMoves d b).get _ _ (by rw [hg]; decide)
  cases h : s.imageGood (s.runSlot 2) 2 with
  | true => rw [restartSmc_of_good h, onDev_dev, hmoves, (only_runImage _ _ _).get _ _ (by rw [hg]; decide), onDev_dev, hmoves]
  | false =>
    have hcond (x : Dev) : (x.cond .fwImageBad true).get g = x.get g :=
      (Only.refl.cond (P := reports) (R := alarmRegs) _ _ (by decide)).get _ _ (by rw [hg]; decide)
    rw [restartSmc_of_bad h htrial, onDev_dev, hcond, onDev_dev, hmoves]

/-! ## The fast domain -/

/-- A register that is not fast and that neither a stop nor a start writes. -/
theorem stopped_get (g : Fld) (hg : g.reg = .GLB_RESET ∨ g.reg = .GLB_BOOT_STAT) : d.stopFast.offFast.get g = d.get g := by
  have hoff : d.stopFast.offFast.word g.reg 0 = d.stopFast.word g.reg 0 := by
    rcases hg with hg | hg <;> rw [hg] <;> exact offFast_word _ _ _ (by decide) (by decide) (by decide)
  have hstop : d.stopFast.get g = d.get g := (only_stopFast d).get _ _ (by rcases hg with hg | hg <;> rw [hg] <;> decide)
  rw [Dev.get, hoff, ← Dev.get, hstop]

theorem startGood_stopped (s : State) : startGood (s.onDev (fun d => d.stopFast.offFast)) = startGood s := by
  have hident : (s.onDev (fun d => d.stopFast.offFast)).dev.ident = s.dev.ident := by
    rw [onDev_dev]
    exact (offFast_part _ .ident (by decide)).trans ((only_stopFast _).part .ident (by decide))
  have hslot : (s.onDev (fun d => d.stopFast.offFast)).dev.get F.GLB_BOOT_STAT_BUNDLE_SLOT = s.dev.get F.GLB_BOOT_STAT_BUNDLE_SLOT := by
    rw [onDev_dev]
    exact stopped_get _ (.inr rfl)
  rw [startGood, hslot, imageGood_of_ident (onDev_flash s _) hident, imageGood_of_ident (onDev_flash s _) hident, startGood]

/-- A reset of the fast domain with good images starts it. -/
theorem fastReset_of_good (h : startGood s = true) :
    ∃ cp smc b, s.fastReset = (s.onDev (fun d => d.stopFast.offFast)).onDev (fastBegun cp smc b) :=
  startFast_of_good ((startGood_stopped s).trans h)

/-- One with bad images leaves it OFF. -/
theorem fastReset_of_bad (h : startGood s = false) (htrial : s.onTrial = false) :
    s.fastReset = (s.onDev (fun d => d.stopFast.offFast)).onDev (·.cond .fwImageBad true) := by
  have hon : (s.onDev (fun d => d.stopFast.offFast)).onTrial = false := by rw [State.onTrial, onDev_flash, ← State.onTrial, htrial]
  have hstart := startFast_of_bad ((startGood_stopped s).trans h) hon
  rw [State.fastReset, hstart]

/-- What a reset of the fast domain clears. -/
theorem fastReset_clears (htrial : s.onTrial = false) : s.fastReset.dev.sw.frames = [] ∧ s.fastReset.dev.ports = [] ∧
    s.fastReset.dev.insts = [] ∧ s.fastReset.dev.sys.slicesOff = 0 ∧ s.fastReset.dev.fast = (if startGood s then 1 else 0) := by
  have hempty := only_emptied s.dev.stopFast
  cases h : startGood s with
  | true =>
    obtain ⟨cp, smc, b, hreset⟩ := fastReset_of_good h
    rw [hreset, onDev_dev, onDev_dev, if_pos rfl]
    exact ⟨fastBegun_frames _ _ _ _, fastBegun_ports _ _ _ _, fastBegun_insts _ _ _ _,
      (fastBegun_slices _ _ _ _).trans (offFast_slices _), fastBegun_fast _ _ _ _⟩
  | false =>
    have hcond (x : Dev) : Only reports alarmRegs x (x.cond .fwImageBad true) := .cond .refl _ _ (by decide)
    have hsw : s.dev.stopFast.offFast.sw = .init := (hempty.part .sw (by decide)).trans rfl
    have hports : s.dev.stopFast.offFast.ports = [] := (hempty.part .ports (by decide)).trans rfl
    have hinsts : s.dev.stopFast.offFast.insts = [] := (hempty.part .insts (by decide)).trans rfl
    rw [fastReset_of_bad h htrial, onDev_dev, onDev_dev, if_neg (by decide)]
    refine ⟨?_, ((hcond _).part .ports (by decide)).trans hports, ((hcond _).part .insts (by decide)).trans hinsts, ?_, ?_⟩
    · have hpart := (hcond s.dev.stopFast.offFast).part .sw (by decide)
      have hframes := congrArg Switch.frames (Eq.trans hpart hsw)
      exact hframes
    · rw [(hcond _).sys (by decide), offFast_slices]
    · rw [Dev.fast, (hcond _).get _ _ (by decide)]
      exact offFast_fast _

/-- GLB_RESET is as before a reset of the fast domain. -/
theorem fastReset_reset (g : Fld) (hg : g.reg = .GLB_RESET) (htrial : s.onTrial = false) : s.fastReset.dev.get g = s.dev.get g := by
  cases h : startGood s with
  | true =>
    obtain ⟨cp, smc, b, hreset⟩ := fastReset_of_good h
    have hword (x : Dev) := fastBegun_slowWord cp smc b x .GLB_RESET 0 (by decide) (by decide)
    rw [hreset, onDev_dev, onDev_dev, Dev.get, hg, hword, ← hg, ← Dev.get, stopped_get g (.inl hg)]
  | false =>
    have hcond (x : Dev) : (x.cond .fwImageBad true).get g = x.get g :=
      (Only.refl.cond (P := reports) (R := alarmRegs) _ _ (by decide)).get _ _ (by rw [hg]; decide)
    rw [fastReset_of_bad h htrial, onDev_dev, onDev_dev, hcond, stopped_get g (.inl hg)]

end Sys2Proof.Laws


namespace Sys2Proof.Laws

open Sys2Proof.Machine Sys2Proof.Safety

variable {s t : State}

/-- Two states whose processors would read the same images. -/
structure SameImages (s t : State) : Prop where
  flash : t.flash = s.flash
  ident : t.dev.ident = s.dev.ident
  step : t.dev.sys.updStep = s.dev.sys.updStep
  slot : t.dev.get F.GLB_BOOT_STAT_BUNDLE_SLOT = s.dev.get F.GLB_BOOT_STAT_BUNDLE_SLOT

namespace SameImages

theorem imageGood (h : SameImages s t) (slot k : Nat) : t.imageGood slot k = s.imageGood slot k := imageGood_of_ident h.flash h.ident slot k
theorem runSlot (h : SameImages s t) (k : Nat) : t.runSlot k = s.runSlot k := by
  rw [State.runSlot, h.step, h.slot, State.bundleSlot, h.flash, State.runSlot, State.bundleSlot]
theorem startGood (h : SameImages s t) : startGood t = startGood s := by
  rw [Laws.startGood, h.slot, h.imageGood, h.imageGood, Laws.startGood]
theorem onTrial (h : SameImages s t) : t.onTrial = s.onTrial := by rw [State.onTrial, h.flash, State.onTrial]

theorem of_only {P : List Part} {R : List Reg} {f : Dev → Dev} (k : Only P R s.dev (f s.dev)) (hi : .ident ∉ P) (hs : .sys ∉ P)
    (hr : .GLB_BOOT_STAT ∉ R) : SameImages s (s.onDev f) :=
  ⟨onDev_flash s f, k.part .ident hi, congrArg Sys.updStep (k.sys hs), k.get _ _ hr⟩

end SameImages

/-- A GLB_RESET command shows its result. -/
def resetShown (v : Nat) (s : State) : State := s.onDev (·.set F.GLB_RESET_RESULT v)

theorem only_resetShown (d : Dev) (v : Nat) : Only [] [.GLB_RESET] d (d.set F.GLB_RESET_RESULT v) := .set .refl _ _ _ (by decide)

theorem resetShown_get (v : Nat) (s : State) : (resetShown v s).dev.get F.GLB_RESET_RESULT = v % 16 :=
  get_set_same _ _ _ _ (by decide)

theorem resetShown_images (v : Nat) (s : State) : SameImages s (resetShown v s) :=
  .of_only (only_resetShown _ _) (by decide) (by decide) (by decide)

theorem resetShown_frame (v : Nat) (s : State) : Frame [] [.GLB_RESET] s (resetShown v s) :=
  ⟨only_resetShown _ v, onDev_flash s _, onDev_pending s _⟩

section
variable {key : Nat} {f : State → State} (hup : s.dev.stage ≠ 0)
include hup

theorem glbReset_of_badKey (full : Bool) (hkey : key ≠ 0x5A) : s.glbReset key full f = resetShown 2 s := by
  rw [State.glbReset, if_neg hup, if_pos hkey, resetShown]

theorem glbReset_of_key (hkey : key = 0x5A) (hfull : s.dev.sys.fullIn = none) : s.glbReset key false f =
    if s.dev.updating then resetShown 4 s else if !s.dev.fastOn then resetShown 3 s else f (resetShown 1 s) := by
  rw [State.glbReset, if_neg hup, if_neg (by simp [hkey]), if_neg (by decide), if_neg (by simp [hfull])]
  rfl

theorem glbReset_taken (hkey : key = 0x5A) (hfull : s.dev.sys.fullIn = none) (hon : s.dev.fastOn = true) (hidle : s.dev.updating = false) :
    s.glbReset key false f = f (resetShown 1 s) := by
  rw [glbReset_of_key hup hkey hfull, if_neg (by simp [hidle]), if_neg (by simp [hon])]

theorem glbReset_notRunning (hkey : key = 0x5A) (hfull : s.dev.sys.fullIn = none) (hon : s.dev.fastOn = false) (hidle : s.dev.updating = false) :
    s.glbReset key false f = resetShown 3 s := by
  rw [glbReset_of_key hup hkey hfull, if_neg (by simp [hidle]), if_pos (by simp [hon])]

theorem glbReset_updating (hkey : key = 0x5A) (hfull : s.dev.sys.fullIn = none) (hidle : s.dev.updating = true) :
    s.glbReset key false f = resetShown 4 s := by
  rw [glbReset_of_key hup hkey hfull, if_pos hidle]

/-- FULL takes its delay. -/
theorem glbReset_full (hkey : key = 0x5A) : s.glbReset key true f =
    s.onDev (fun d => (d.set F.GLB_RESET_RESULT 1).onSys (fun y => { y with fullIn := some (y.fullIn.getD 1000) })) := by
  rw [State.glbReset, if_neg hup, if_neg (by simp [hkey]), if_pos rfl]

end

end Sys2Proof.Laws

namespace Sys2Proof.Proofs

open Sys2Proof.Machine Sys2Proof.Safety Sys2Proof.Laws

variable {s : State}

/-- The three weaker commands run the same operation with a reset of their own. -/
theorem exec_weakReset (c : Byte → Instr) (hc : c ∈ [Instr.glbResetFast, .glbResetCp, .glbResetSmc]) (key : Byte) :
    ∃ f, exec (c key) s = .next (s.glbReset key.toNat false f) := by
  simp only [List.mem_cons, List.not_mem_nil, or_false] at hc
  obtain rfl | rfl | rfl := hc
  · exact ⟨State.fastReset, rfl⟩
  · exact ⟨State.restartCp, rfl⟩
  · exact ⟨State.restartSmc, rfl⟩

theorem exec_anyReset (c : Byte → Instr) (hc : c ∈ [Instr.glbResetFull, .glbResetFast, .glbResetCp, .glbResetSmc]) (key : Byte) :
    ∃ full f, exec (c key) s = .next (s.glbReset key.toNat full f) := by
  obtain rfl | hc := List.mem_cons.1 hc
  · exact ⟨true, id, rfl⟩
  · obtain ⟨f, hf⟩ := exec_weakReset (s := s) c hc key
    exact ⟨false, f, hf⟩

/-- What a refused command shows. -/
theorem completes_resetShown {c : Instr} {v : Nat} (hv : v < 16) (h : exec c s = .next (resetShown v s)) :
    Completes c s (fun t => t.dev.get F.GLB_RESET_RESULT = v ∧ Frame [] [.GLB_RESET] s t) :=
  completes_of_next h ⟨(resetShown_get v s).trans (Nat.mod_eq_of_lt hv), resetShown_frame v s⟩

section
variable {key : Byte} (hkey : key.toNat = 0x5A) (hup : s.dev.stage ≠ 0) (hfull : s.dev.sys.fullIn = none)
include hkey hup hfull

theorem glbResetFull_taken : Completes (.glbResetFull key) s (fun t => t.dev.get F.GLB_RESET_RESULT = 1 ∧ t.dev.sys.fullIn = some 1000 ∧
    Frame [.sys] [.GLB_RESET] s t) := by
  have hshown := only_resetShown s.dev 1
  have hsys (x : Dev) (f : Sys → Sys) : Only [.sys] [] x (x.onSys f) := .onSys .refl _ (by decide)
  refine completes_of_next (congrArg Host.Outcome.next (glbReset_full hup hkey)) ?_
  rw [onDev_dev]
  refine ⟨?_, ?_, ?_, onDev_flash s _, onDev_pending s _⟩
  · rw [(hsys _ _).get _ _ (by decide)]
    exact resetShown_get 1 s
  · have hnone : (s.dev.set F.GLB_RESET_RESULT 1).sys.fullIn = none := (congrArg Sys.fullIn (hshown.sys (by decide))).trans hfull
    rw [onSys_sys, hnone]
    rfl
  · rw [onDev_dev]
    exact (hshown.weaken (by decide) (by decide)).andThen (hsys _ _) (by decide) (by decide)

variable (hon : s.dev.fastOn = true) (hidle : s.dev.updating = false) (htrial : s.onTrial = false)
include hon hidle htrial

theorem glbResetFast_taken : Completes (.glbResetFast key) s (fun t => t.dev.get F.GLB_RESET_RESULT = 1 ∧ t.dev.sw.frames = [] ∧
    t.dev.ports = [] ∧ t.dev.insts = [] ∧ t.dev.sys.slicesOff = 0 ∧ t.dev.fast = (if startGood s then 1 else 0)) := by
  have himages := resetShown_images 1 s
  have hquiet := himages.onTrial.trans htrial
  refine completes_of_next (congrArg Host.Outcome.next (glbReset_taken hup hkey hfull hon hidle)) ⟨?_, ?_⟩
  · rw [fastReset_reset _ rfl hquiet, resetShown_get]
  · have hclears := fastReset_clears hquiet
    rw [himages.startGood] at hclears
    exact hclears

theorem glbResetCp_taken : Completes (.glbResetCp key) s (fun t => t.dev.get F.GLB_RESET_RESULT = 1 ∧
    t.dev.sys.cpStopped = (!s.imageGood (s.runSlot 3) 3) ∧ (s.imageGood (s.runSlot 3) 3 = false → t.dev.insts = [])) := by
  have himages := resetShown_images 1 s
  have hquiet := himages.onTrial.trans htrial
  have himage : (resetShown 1 s).imageGood ((resetShown 1 s).runSlot 3) 3 = s.imageGood (s.runSlot 3) 3 := by
    rw [himages.runSlot, himages.imageGood]
  refine completes_of_next (congrArg Host.Outcome.next (glbReset_taken hup hkey hfull hon hidle)) ⟨?_, ?_⟩
  · rw [restartCp_reset _ rfl hquiet, resetShown_get]
  · cases h : s.imageGood (s.runSlot 3) 3 with
    | true => exact ⟨restartCp_runs (himage.trans h), fun hbad => absurd hbad (by decide)⟩
    | false =>
      obtain ⟨hstops, hinsts, -⟩ := restartCp_halts (himage.trans h) hquiet
      exact ⟨hstops, fun _ => hinsts⟩

theorem glbResetSmc_taken : Completes (.glbResetSmc key) s (fun t => t.dev.get F.GLB_RESET_RESULT = 1 ∧
    t.dev.sys.smcStopped = (!s.imageGood (s.runSlot 2) 2) ∧ (s.imageGood (s.runSlot 2) 2 = true →
      t.dev.get F.UPD_IFVER1_SMC = (readImage s.flash (s.runSlot 2) 2).ifVer % 65536)) := by
  have himages := resetShown_images 1 s
  have hquiet := himages.onTrial.trans htrial
  have himage : (resetShown 1 s).imageGood ((resetShown 1 s).runSlot 2) 2 = s.imageGood (s.runSlot 2) 2 := by
    rw [himages.runSlot, himages.imageGood]
  have hstillOn : (resetShown 1 s).dev.fastOn = true := by
    have hfast : (resetShown 1 s).dev.fast = s.dev.fast := (only_resetShown s.dev 1).get _ _ (by decide)
    rw [Dev.fastOn, hfast]
    exact hon
  refine completes_of_next (congrArg Host.Outcome.next (glbReset_taken hup hkey hfull hon hidle)) ⟨?_, ?_⟩
  · rw [restartSmc_reset _ rfl hquiet, resetShown_get]
  · cases h : s.imageGood (s.runSlot 2) 2 with
    | true =>
      obtain ⟨hruns, hversion⟩ := restartSmc_runs (himage.trans h) hstillOn
      rw [himages.runSlot, himages.flash] at hversion
      exact ⟨hruns, fun _ => hversion⟩
    | false => exact ⟨(restartSmc_halts (himage.trans h) hstillOn hquiet).1, fun hgood => absurd hgood (by decide)⟩

end

/-- Settles O9: a command that is taken shows RESULT and then runs its reset, which leaves GLB_RESET as it is. -/
theorem resetCommands : Obligations.ResetCommands := by
  refine ⟨fun s key hkey hup hfull => ⟨glbResetFull_taken hkey hup hfull, fun hon hidle htrial =>
    ⟨glbResetFast_taken hkey hup hfull hon hidle htrial, glbResetCp_taken hkey hup hfull hon hidle htrial,
      glbResetSmc_taken hkey hup hfull hon hidle htrial⟩⟩, fun s key good hgood hup => ⟨fun c hc hkey => ?_, fun c hc hfull hon hidle => ?_,
    fun c hc hfull hidle => ?_⟩⟩
  · obtain ⟨full, f, hexec⟩ := exec_anyReset (s := s) c hc key
    exact completes_resetShown (by decide) (hexec.trans (congrArg Host.Outcome.next (glbReset_of_badKey hup full hkey)))
  · obtain ⟨f, hexec⟩ := exec_weakReset (s := s) c hc good
    exact completes_resetShown (by decide) (hexec.trans (congrArg Host.Outcome.next (glbReset_notRunning hup hgood hfull hon hidle)))
  · obtain ⟨f, hexec⟩ := exec_weakReset (s := s) c hc good
    exact completes_resetShown (by decide) (hexec.trans (congrArg Host.Outcome.next (glbReset_updating hup hgood hfull hidle)))

end Sys2Proof.Proofs


namespace Sys2Proof.Laws

open Sys2Proof.Machine Sys2Proof.Safety

variable {s : State} {d : Dev}

/-- The FSP has been restarted by its watchdog. -/
def fspAgain (d : Dev) : Dev := ((d.countDev 292).countDev 295).restartParty 1

/-- A restart is counted. -/
theorem counted_images (s : State) : SameImages s (s.onDev (·.countDev 292)) := by
  have honly : Only reports alarmRegs s.dev (s.dev.countDev 292) := .countDev .refl _ _ (by decide)
  exact .of_only honly (by decide) (by decide) (by decide)

theorem counted_fastOn (s : State) : (s.onDev (·.countDev 292)).dev.fastOn = s.dev.fastOn := by
  have honly : Only reports alarmRegs s.dev (s.dev.countDev 292) := .countDev .refl _ _ (by decide)
  have hfast : (s.dev.countDev 292).fast = s.dev.fast := honly.get _ _ (by decide)
  rw [onDev_dev, Dev.fastOn, hfast, Dev.fastOn]

section
variable (hup : 2 ≤ s.dev.stage) (hnorm : s.dev.stage ≠ 8)
include hup hnorm

theorem fspDog_of_normal (htrial : s.onTrial = false) : s.fspDog = s.onDev fspAgain := by
  have hstage : ¬((decide (s.dev.stage < 2) || s.dev.stage == 8) = true) := by simp [hnorm]; omega
  rw [State.fspDog, if_neg hstage]
  exact if_neg (by rw [State.onTrial, onDev_flash, ← State.onTrial, htrial]; decide)

theorem cpuDog_cp (hon : s.dev.fastOn = true) (hruns : s.dev.sys.cpStopped = false) : s.cpuDog .cp =
    if s.runsNew .cp then (s.onDev (·.countDev 292)).fallback 2 else (s.onDev (·.countDev 292)).restartCp := by
  have hstage : ¬((decide (s.dev.stage < 2) || s.dev.stage == 8) = true) := by simp [hnorm]; omega
  rw [State.cpuDog, if_neg hstage]
  exact if_neg (by simp [hon, hruns])

theorem cpuDog_smc (hon : s.dev.fastOn = true) (hruns : s.dev.sys.smcStopped = false) : s.cpuDog .smc =
    if s.runsNew .smc then (s.onDev (·.countDev 292)).fallback 2 else (s.onDev (·.countDev 292)).restartSmc := by
  have hstage : ¬((decide (s.dev.stage < 2) || s.dev.stage == 8) = true) := by simp [hnorm]; omega
  rw [State.cpuDog, if_neg hstage]
  exact if_neg (by simp [hon, hruns])

theorem cpuDog_tbpA (hnew : s.runsNew .tbpA = false) : s.cpuDog .tbpA = s.onDev (·.tbpDog .a) := by
  have hstage : ¬((decide (s.dev.stage < 2) || s.dev.stage == 8) = true) := by simp [hnorm]; omega
  rw [State.cpuDog, if_neg hstage]
  exact if_neg (by simp [hnew])

theorem cpuDog_tbpB (hnew : s.runsNew .tbpB = false) : s.cpuDog .tbpB = s.onDev (·.tbpDog .b) := by
  have hstage : ¬((decide (s.dev.stage < 2) || s.dev.stage == 8) = true) := by simp [hnorm]; omega
  rw [State.cpuDog, if_neg hstage]
  exact if_neg (by simp [hnew])

end

theorem runsNew_of_normal (cpu : WatchedCpu) (htrial : s.onTrial = false) : s.runsNew cpu = false := by
  simp [State.runsNew, htrial]

/-- The CP of a RESTART trial runs the new image. -/
theorem runsNew_of_trial (htrial : s.onTrial = true) (hback : s.dev.sys.updBack = false) (hstep : s.dev.sys.updStep = 0) :
    s.runsNew .cp = true := by
  simp [State.runsNew, htrial, hback, hstep]

/-- The watchdog of the ACTIVE timebase's processor stops its beats and leaves its role. -/
theorem tbpDog_active {x : TbId} (h : d.twin.active = some x) : (d.tbpDog x).twin.beatsOff = true ∧ (d.tbpDog x).twin.active = some x := by
  have hcount : (d.countDev 292).twin = d.twin := (report_countDev d 292 1).twin
  rw [Dev.tbpDog, if_pos h, onTwin_twin, hcount]
  exact ⟨rfl, h⟩

/-- The message that the FSP had taken is posted again. -/
theorem fspAgain_chan {src : Nat} (hsrc : src < 6) (hne : src ≠ 1) (htaken : (d.chan src 1).st = 2) :
    (fspAgain d).chan src 1 = redelivered (d.chan src 1) := by
  have hcount (x : Dev) (j : Nat) : (x.countDev j).chan src 1 = x.chan src 1 := by
    rw [Dev.chan, (report_countDev x j 1).chans, Dev.chan]
  rw [fspAgain, Dev.restartParty, each_redeliver_chan _ _ (by decide) (by decide), hcount, hcount, if_pos ⟨rfl, hne, hsrc, htaken⟩]

end Sys2Proof.Laws

namespace Sys2Proof.Proofs

open Sys2Proof.Machine Sys2Proof.Safety Sys2Proof.Laws

variable {s : State} (hup : 2 ≤ s.dev.stage) (hnorm : s.dev.stage ≠ 8)
include hup hnorm

theorem fspWatchdog_posts (htrial : s.onTrial = false) (src : Fin 6) (hsrc : src.val ≠ 1) (htaken : (s.dev.chan src.val 1).st = 2) :
    Completes .fspWatchdog s (fun t => (t.dev.chan src.val 1).st = 1 ∧ (t.dev.chan src.val 1).redeliv = true ∧
      (t.dev.chan src.val 1).msg = (s.dev.chan src.val 1).msg) := by
  refine completes_of_next (congrArg Host.Outcome.next (fspDog_of_normal hup hnorm htrial)) ?_
  rw [onDev_dev, fspAgain_chan src.isLt hsrc htaken]
  exact ⟨rfl, rfl, rfl⟩

theorem cpWatchdog_restarts (hon : s.dev.fastOn = true) (htrial : s.onTrial = false) (hruns : s.dev.sys.cpStopped = false) :
    Completes (.processorWatchdog .cp) s (fun t => if s.imageGood (s.runSlot 3) 3 then t.dev.sys.cpStopped = false ∧
        t.dev.get F.UPD_IFVER0_CP = (readImage s.flash (s.runSlot 3) 3).ifVer % 65536
      else t.dev.sys.cpStopped = true ∧ t.dev.insts = [] ∧ t.dev.alarmOn .fwImageBad = true) := by
  have himages := counted_images s
  have hdog := (cpuDog_cp hup hnorm hon hruns).trans (if_neg (by rw [runsNew_of_normal .cp htrial]; decide))
  have himage : (s.onDev (·.countDev 292)).imageGood ((s.onDev (·.countDev 292)).runSlot 3) 3 = s.imageGood (s.runSlot 3) 3 := by
    rw [himages.runSlot, himages.imageGood]
  refine completes_of_next (congrArg Host.Outcome.next hdog) ?_
  cases h : s.imageGood (s.runSlot 3) 3 with
  | true =>
    have hversion := restartCp_version (himage.trans h)
    rw [himages.runSlot, himages.flash] at hversion
    rw [if_pos rfl]
    exact ⟨restartCp_runs (himage.trans h), hversion⟩
  | false =>
    rw [if_neg (by decide)]
    exact restartCp_halts (himage.trans h) (himages.onTrial.trans htrial)

theorem smcWatchdog_restarts (hon : s.dev.fastOn = true) (htrial : s.onTrial = false) (hruns : s.dev.sys.smcStopped = false) :
    Completes (.processorWatchdog .smc) s (fun t => if s.imageGood (s.runSlot 2) 2 then t.dev.sys.smcStopped = false ∧
        t.dev.get F.UPD_IFVER1_SMC = (readImage s.flash (s.runSlot 2) 2).ifVer % 65536
      else t.dev.sys.smcStopped = true ∧ t.dev.alarmOn .fwImageBad = true) := by
  have himages := counted_images s
  have hstillOn := (counted_fastOn s).trans hon
  have hdog := (cpuDog_smc hup hnorm hon hruns).trans (if_neg (by rw [runsNew_of_normal .smc htrial]; decide))
  have himage : (s.onDev (·.countDev 292)).imageGood ((s.onDev (·.countDev 292)).runSlot 2) 2 = s.imageGood (s.runSlot 2) 2 := by
    rw [himages.runSlot, himages.imageGood]
  refine completes_of_next (congrArg Host.Outcome.next hdog) ?_
  cases h : s.imageGood (s.runSlot 2) 2 with
  | true =>
    obtain ⟨hagain, hversion⟩ := restartSmc_runs (himage.trans h) hstillOn
    rw [himages.runSlot, himages.flash] at hversion
    rw [if_pos rfl]
    exact ⟨hagain, hversion⟩
  | false =>
    rw [if_neg (by decide)]
    exact restartSmc_halts (himage.trans h) hstillOn (himages.onTrial.trans htrial)

theorem cpWatchdog_falls (htrial : s.onTrial = true) (hback : s.dev.sys.updBack = false) (hstep : s.dev.sys.updStep = 0)
    (hmode : (hdrNow s.flash).mode ≠ 1) (hon : s.dev.fastOn = true) (hruns : s.dev.sys.cpStopped = false) :
    Completes (.processorWatchdog .cp) s (fun t => t.dev.stage = 0 ∧ t.dev.get F.GLB_BOOT_STAT_RESET_CAUSE = 2) := by
  have hdog := (cpuDog_cp hup hnorm hon hruns).trans (if_pos (runsNew_of_trial htrial hback hstep))
  exact completes_of_next (congrArg Host.Outcome.next hdog) (fallback_restarts 2 (by rw [onDev_flash]; exact hmode))

omit hup hnorm in
/-- Settles O40: outside a trial a watchdog restarts its processor as GLB_RESET does (`restartCp_runs`, `restartSmc_runs`), and
the FSP posts again what it had taken. -/
theorem watchdogs : Obligations.Watchdogs := by
  intro s hup hnorm
  refine ⟨fun htrial src => fspWatchdog_posts hup hnorm htrial src, fun hactive hnew => ?_, fun hactive hnew => ?_,
    cpWatchdog_restarts hup hnorm, smcWatchdog_restarts hup hnorm, fun htrial hback hstep hmode _ =>
      cpWatchdog_falls hup hnorm htrial hback hstep hmode⟩
  · refine completes_of_next (congrArg Host.Outcome.next (cpuDog_tbpA hup hnorm hnew)) ?_
    rw [onDev_dev]
    exact tbpDog_active hactive
  · refine completes_of_next (congrArg Host.Outcome.next (cpuDog_tbpB hup hnorm hnew)) ?_
    rw [onDev_dev]
    exact tbpDog_active hactive

end Sys2Proof.Proofs


/-! SUPPORT. What the power of lanes, the queues and the time transfer of a port leave: the state of its link, its receiver, its partner
and the alarm of a retired lane; and an awake transmitter stays awake. -/

namespace Sys2Proof.Laws

open Sys2Proof.Machine Sys2Proof.Safety

/-- The fields of a link. -/
def linkFields : List Fld := [F.LANE_QUAD_STAT_PHASE, F.LANE_QUAD_STAT_LINK_UP, F.LANE_QUAD_STAT_DISCOVERED, F.LANE_QUAD_STAT_RX_SLEEP,
  F.LANE_QUAD_STAT_SELF_LOOP, F.LANE_QUAD_STAT_DOWN_CAUSE]

/-- The links are as before, no transmitter that was awake sleeps, and the alarm of a retired lane is as before. -/
structure Linked (d e : Dev) : Prop where
  get : ∀ g ∈ linkFields, ∀ u, e.get g u = d.get g u
  awake : ∀ p, d.txSleep p = 0 → e.txSleep p = 0
  retired : e.alarmOn .laneRetired = d.alarmOn .laneRetired

/-- A field beside those of a link and of a sleep. -/
def besideLink (f : Fld) : Bool :=
  decide (f.lo + f.width ≤ 32) && (F.LANE_QUAD_STAT_TX_SLEEP :: linkFields).all (apart f) && f.reg != .ALM_ACTIVE

theorem reg_of_linkField : ∀ g ∈ linkFields, g.reg = .LANE_QUAD_STAT := by decide

variable {P : List Part} {R : List Reg} {x d e : Dev}

namespace Linked

theorem refl (d : Dev) : Linked d d := ⟨fun _ _ _ => rfl, fun _ h => h, rfl⟩
theorem trans (h : Linked x d) (k : Linked d e) : Linked x e :=
  ⟨fun g hg u => (k.get g hg u).trans (h.get g hg u), fun p hp => k.awake p (h.awake p hp), k.retired.trans h.retired⟩
theorem after (k : Linked d e) (h : Linked x d) : Linked x e := h.trans k

/-- Where the register of the links and that of the active alarms are as before. -/
theorem of_words (hq : ∀ u, e.word .LANE_QUAD_STAT u = d.word .LANE_QUAD_STAT u) (ha : ∀ u, e.word .ALM_ACTIVE u = d.word .ALM_ACTIVE u) :
    Linked d e := by
  have hget (g : Fld) (u : Nat) (hg : g.reg = .LANE_QUAD_STAT) : e.get g u = d.get g u := by rw [Dev.get, hg, hq, Dev.get, hg]
  exact ⟨fun g hg u => hget g u (reg_of_linkField g hg), fun p hp => (hget _ p rfl).trans hp, alarmOn_of_word _ ha⟩
theorem of_only (k : Only P R d e) (h : .LANE_QUAD_STAT ∉ R ∧ .ALM_ACTIVE ∉ R) : Linked d e :=
  of_words (fun u => k.word _ u h.1) (fun u => k.word _ u h.2)
theorem of_regs (h : Linked x d) (k : e.regs = d.regs) : Linked x e :=
  h.trans (of_words (fun u => by rw [Dev.word, k, Dev.word]) (fun u => by rw [Dev.word, k, Dev.word]))
theorem when (h : Linked x d) (b : Bool) (f : Dev → Dev) (k : Linked d (f d)) : Linked x (d.when b f) := by
  cases b
  · exact h
  · exact h.trans k
theorem each {α : Type} (h : Linked x d) (l : List α) (f : Dev → α → Dev) (k : ∀ e a, Linked e (f e a)) : Linked x (d.each l f) := by
  unfold Dev.each
  induction l generalizing d with
  | nil => exact h
  | cons a l ih => exact ih (h.trans (k d a))
theorem set (h : Linked x d) (f : Fld) (v u : Nat) (hf : besideLink f = true) : Linked x (d.set f v u) := by
  simp only [besideLink, Bool.and_eq_true, List.all_eq_true, List.mem_cons, forall_eq_or_imp, decide_eq_true_eq, bne_iff_ne] at hf
  obtain ⟨⟨hw, hs, hl⟩, ha⟩ := hf
  refine h.trans ⟨fun g hg k => get_set_apart d f g v u k hw (hl g hg), fun p hp => (get_set_apart d f _ v u p hw hs).trans hp, ?_⟩
  exact alarmOn_of_word _ fun k => word_set_other d f v u _ k fun hh => ha hh.1.symm
theorem setMark (h : Linked x d) (f ch : Fld) (v u : Nat) (hf : besideLink f = true) (hch : besideLink ch = true) :
    Linked x (d.setMark f v ch u) := by
  unfold Dev.setMark
  split
  · exact h
  · exact (h.set _ _ _ hf).set _ _ _ hch
theorem setB (h : Linked x d) (f : Fld) (b : Bool) (u : Nat) (hf : besideLink f = true) : Linked x (d.setB f b u) := h.set _ _ _ hf
theorem quadSet (h : Linked x d) (f : Fld) (v p : Nat) (hf : besideLink f = true) : Linked x (d.quadSet f v p) :=
  h.setMark _ _ _ _ hf (by decide)
theorem synBit (h : Linked x d) (f : Fld) (b : Bool) (i : Nat) (hf : besideLink f = true) : Linked x (d.synBit f b i) :=
  h.setMark _ _ _ _ hf (by decide)
theorem ptuBit (h : Linked x d) (f : Fld) (b : Bool) (p : Nat) (hf : besideLink f = true) : Linked x (d.ptuBit f b p) :=
  h.setMark _ _ _ _ hf (by decide)
theorem laneBit (h : Linked x d) (f : Fld) (b : Bool) (l : Nat) (hf : besideLink f = true) : Linked x (d.laneBit f b l) :=
  h.setMark _ _ _ _ hf (by decide)
theorem candFlag (h : Linked x d) (f : Fld) (i : Nat) (b : Bool) (hf : besideLink f = true) : Linked x (d.candFlag f i b) :=
  h.setMark _ _ _ _ hf (by decide)
theorem cond (h : Linked x d) (a : Alarm) (on : Bool) (ha : Alarm.laneRetired.bit ≠ a.bit) : Linked x (d.cond a on) := by
  have hreport := report_cond d a on
  exact h.trans ⟨fun g hg u => hreport.get g u (by rw [reg_of_linkField g hg]; rfl), fun p hp => (hreport.get _ p rfl).trans hp,
    alarmOn_cond_other d _ a on ha⟩
theorem raise (h : Linked x d) (a : Alarm) : Linked x (d.raise a) :=
  h.trans (of_words (fun u => (report_raise d a).word _ u rfl) (fun u => latch_word _ _ u (by decide)))
theorem countAt (h : Linked x d) (b : Bool) (i n : Nat) : Linked x (d.countAt b i n) := h.of_regs (countAt_regs b i n)
theorem countDev (h : Linked x d) (j n : Nat) : Linked x (d.countDev j n) := h.countAt _ _ _
theorem countPort (h : Linked x d) (p k n : Nat) : Linked x (d.countPort p k n) := h.countAt _ _ _
theorem devEvent (h : Linked x d) (b : Bool) (v i n : Nat) : Linked x (d.devEvent b v i n) :=
  h.each _ _ fun e _ => (Linked.refl e).when _ _ ((Linked.refl e).countAt _ _ _)
theorem portEvent (h : Linked x d) (p v i n : Nat) : Linked x (d.portEvent p v i n) :=
  h.each _ _ fun e _ => (Linked.refl e).when _ _ ((Linked.refl e).countPort _ _ _)
theorem countTx (h : Linked x d) (p t : Nat) : Linked x (d.countTx p t) := (h.when _ _ ((Linked.refl d).countPort _ _ _)).portEvent _ _ _ _
theorem logAdd (h : Linked x d) (c a m i : Nat) : Linked x (d.logAdd c a m i) := by
  unfold Dev.logAdd
  split
  · exact (h.countDev _ _).cond .logFull true (by decide)
  · dsimp only
    refine Linked.cond ?_ .logFull _ (by decide)
    exact h.of_regs rfl
theorem retireOther (h : Linked x d) (c m i : Nat) : Linked x (d.retireOther c m i) := (h.logAdd _ _ _ _).raise _
theorem msix (h : Linked x d) (v : Nat) : Linked x (d.msix v) := by
  unfold Dev.msix
  split
  · exact h
  · split
    · exact h.of_regs rfl
    · split
      · exact h
      · exact h.of_regs rfl
theorem setWord (h : Linked x d) (r : Reg) (u : Nat) (w : Word) (hq : r ≠ .LANE_QUAD_STAT) (ha : r ≠ .ALM_ACTIVE) : Linked x (d.setWord r u w) :=
  h.trans (of_words (fun _ => word_setWord_other _ _ fun hh => hq hh.1.symm) (fun _ => word_setWord_other _ _ fun hh => ha hh.1.symm))
theorem onSw (h : Linked x d) (f : Switch → Switch) : Linked x (d.onSw f) := h.of_regs rfl
theorem onFrame (h : Linked x d) (i : Nat) (f : Stored → Stored) : Linked x (d.onFrame i f) := h.of_regs rfl
theorem emit (h : Linked x d) (m : Emit) : Linked x (d.emit m) := h.of_regs rfl
theorem onSys (h : Linked x d) (f : Sys → Sys) : Linked x (d.onSys f) := h.of_regs rfl
theorem onPort (h : Linked x d) (p : Nat) (f : Port → Port) : Linked x (d.onPort p f) := h.of_regs rfl
theorem onPtu (h : Linked x d) (p : Nat) (f : PtuPort → PtuPort) : Linked x (d.onPtu p f) := h.of_regs rfl
theorem onInst (h : Linked x d) (i : Nat) (f : PtpInst → PtpInst) : Linked x (d.onInst i f) := h.of_regs rfl
theorem onChan (h : Linked x d) (src dst : Nat) (f : Chan → Chan) : Linked x (d.onChan src dst f) := h.of_regs rfl
theorem onCpMail (h : Linked x d) (m : CpMail) : Linked x { d with cpMail := m } := h.of_regs rfl
theorem spendFree (h : Linked x d) : Linked x d.spendFree := h.of_regs rfl

end Linked

theorem linked_acquire (d : Dev) (i w : Nat) : Linked d (d.acquire i w) := by
  unfold Dev.acquire
  try dsimp only
  repeat' first
    | with_reducible exact Linked.refl _
    | with_reducible refine Linked.set ?_ _ _ _ (by decide)
    | with_reducible refine Linked.synBit ?_ _ _ _ (by decide)
    | with_reducible refine Linked.raise ?_ _
    | with_reducible refine Linked.countDev ?_ _ _
    | with_reducible refine Linked.devEvent ?_ _ _ _ _
    | with_reducible refine (Linked.of_only (only_beginPair _ _) (by decide)).after ?_
    | with_reducible refine (Linked.of_only (only_endStep _ _ _) (by decide)).after ?_
    | with_reducible refine (Linked.of_only (only_onSyn _ _ _) (by decide)).after ?_
    | with_reducible refine (Linked.of_only (only_retime _ _ _) (by decide)).after ?_
    | with_reducible refine (Linked.of_only (only_squelch _ _) (by decide)).after ?_
    | split

theorem linked_startInternal (d : Dev) (i : Nat) : Linked d (d.startInternal i) := by
  unfold Dev.startInternal
  try dsimp only
  repeat' first
    | with_reducible exact Linked.refl _
    | with_reducible refine (linked_acquire _ _ _).after ?_
    | split

theorem linked_restartLpll (d : Dev) (k : Nat) : Linked d (d.restartLpll k) := by
  unfold Dev.restartLpll
  try dsimp only
  repeat' first
    | with_reducible exact Linked.refl _
    | with_reducible refine Linked.onSys ?_ _
    | with_reducible refine (linked_startInternal _ _).after ?_
    | split

theorem linked_judgeBuf (d : Dev) : Linked d d.judgeBuf := by
  unfold Dev.judgeBuf
  try dsimp only
  repeat' first
    | with_reducible exact Linked.refl _
    | with_reducible refine Linked.cond ?_ _ _ (by decide)

theorem linked_judgeBanks (d : Dev) : Linked d d.judgeBanks := by
  unfold Dev.judgeBanks
  try dsimp only
  repeat' first
    | with_reducible exact Linked.refl _
    | with_reducible refine Linked.onSw ?_ _
    | with_reducible refine (linked_judgeBuf _).after ?_
    | with_reducible refine (Linked.of_only (only_setGated _ _) (by decide)).after ?_
    | with_reducible refine (Linked.of_only (only_stopDrain _) (by decide)).after ?_
    | with_reducible refine Linked.when ?_ _ _ ?_
    | split

theorem linked_refreshPower (d : Dev) (p : Nat) : Linked d (d.refreshPower p) := by
  unfold Dev.refreshPower
  try dsimp only
  repeat' first
    | with_reducible exact Linked.refl _
    | with_reducible refine Linked.set ?_ _ _ _ (by decide)
    | with_reducible refine Linked.setMark ?_ _ _ _ _ (by decide) (by decide)
    | with_reducible refine Linked.quadSet ?_ _ _ _ (by decide)
    | with_reducible refine Linked.cond ?_ _ _ (by decide)

/-- A transmitter that wakes: only one that sleeps or enters changes. -/
theorem linked_wakeTx (d : Dev) (p : Nat) : Linked d (d.wakeTx p) := by
  have hwide : (F.LANE_QUAD_STAT_TX_SLEEP).lo + (F.LANE_QUAD_STAT_TX_SLEEP).width ≤ 32 := by decide
  have hapart : ∀ g ∈ linkFields, apart F.LANE_QUAD_STAT_TX_SLEEP g = true ∧ apart F.LANE_QUAD_STAT_CHANGED g = true := by decide
  have hset (v : Nat) (hst : d.txSleep p ≠ 0) : Linked d (d.quadSet F.LANE_QUAD_STAT_TX_SLEEP v p) := by
    refine ⟨fun g hg u => get_setMark_apart _ _ _ _ _ _ _ hwide (by decide) (hapart g hg).1 (hapart g hg).2, fun q hq => ?_, ?_⟩
    · have hne : q ≠ p := fun hh => hst (hh ▸ hq)
      rw [Dev.txSleep, Dev.quadSet, get_setMark_unit _ _ _ _ _ _ _ hne]
      exact hq
    · have honly : Only [] [.LANE_QUAD_STAT] d (d.quadSet F.LANE_QUAD_STAT_TX_SLEEP v p) := .quadSet .refl _ _ _ (by decide) (by decide)
      exact alarmOn_of_word _ fun u => honly.word _ u (by decide)
  unfold Dev.wakeTx
  dsimp only
  split
  case isTrue h => exact (hset 0 (by rw [h]; decide)).onPort _ _
  case isFalse h =>
    split
    case isTrue hs =>
      have hst : d.txSleep p ≠ 0 := fun hh => by rw [hh] at hs; exact absurd hs (by decide)
      exact ((((hset 4 hst).onPort _ _).countPort _ _ _).trans (linked_restartLpll _ _)).trans (linked_judgeBanks _)
    case isFalse hs => exact .refl d

theorem linked_judgeSleep (d : Dev) (p : Nat) : Linked d (d.judgeSleep p) := by
  unfold Dev.judgeSleep
  try dsimp only
  repeat' first
    | with_reducible exact Linked.refl _
    | with_reducible refine (linked_refreshPower _ _).after ?_
    | with_reducible refine (linked_wakeTx _ _).after ?_
    | split

theorem linked_judgeSleeps (d : Dev) : Linked d d.judgeSleeps := by
  unfold Dev.judgeSleeps
  try dsimp only
  repeat' first
    | with_reducible exact Linked.refl _
    | with_reducible refine (linked_judgeSleep _ _).after ?_
    | with_reducible refine Linked.each ?_ _ _ (fun _ _ => ?_)
    | split

theorem linked_disqualify (d : Dev) (id reason : Nat) : Linked d (d.disqualify id reason) := by
  unfold Dev.disqualify
  try dsimp only
  repeat' first
    | with_reducible exact Linked.refl _
    | with_reducible refine Linked.set ?_ _ _ _ (by decide)
    | with_reducible refine Linked.candFlag ?_ _ _ _ (by decide)
    | with_reducible refine Linked.countDev ?_ _ _
    | with_reducible refine (Linked.of_only (only_restartQual _ _) (by decide)).after ?_
    | split

theorem linked_setActive (d : Dev) (id : Nat) (on : Bool) : Linked d (d.setActive id on) := by
  unfold Dev.setActive
  try dsimp only
  repeat' first
    | with_reducible exact Linked.refl _
    | with_reducible refine Linked.set ?_ _ _ _ (by decide)
    | with_reducible refine Linked.setB ?_ _ _ _ (by decide)
    | with_reducible refine (linked_disqualify _ _ _).after ?_
    | with_reducible refine (Linked.of_only (only_restartQual _ _) (by decide)).after ?_
    | split

theorem linked_judgePortCand (d : Dev) (p : Nat) : Linked d (d.judgePortCand p) := by
  unfold Dev.judgePortCand
  try dsimp only
  repeat' first
    | with_reducible exact Linked.refl _
    | with_reducible refine (Linked.of_only (only_judgeL1 _ _) (by decide)).after ?_
    | with_reducible refine (linked_setActive _ _ _).after ?_
    | split

theorem linked_tellPosted (d : Dev) (src dst : Nat) : Linked d (d.tellPosted src dst) := by
  unfold Dev.tellPosted
  try dsimp only
  repeat' first
    | with_reducible exact Linked.refl _
    | with_reducible refine Linked.emit ?_ _
    | with_reducible refine Linked.msix ?_ _
    | with_reducible refine Linked.when ?_ _ _ ?_
    | split

theorem linked_postMsg (d : Dev) (src dst : Nat) (msg : List Byte) : Linked d (d.postMsg src dst msg) := by
  unfold Dev.postMsg
  try dsimp only
  repeat' first
    | with_reducible exact Linked.refl _
    | with_reducible refine Linked.onChan ?_ _ _ _
    | with_reducible refine Linked.countDev ?_ _ _
    | with_reducible refine Linked.devEvent ?_ _ _ _ _
    | with_reducible refine (linked_tellPosted _ _ _).after ?_
    | with_reducible refine (Linked.of_only (only_wakeCores _) (by decide)).after ?_
    | with_reducible refine Linked.when ?_ _ _ ?_

theorem linked_sendNotice (d : Dev) : Linked d d.sendNotice := by
  unfold Dev.sendNotice
  split
  · exact .refl d
  · split
    · exact .refl d
    · exact (((Linked.refl d).onCpMail _).spendFree).trans (linked_postMsg _ 2 0 _)

theorem linked_notice (d : Dev) (n : Notice) : Linked d (d.notice n) := by
  unfold Dev.notice
  split
  · exact ((Linked.refl d).onCpMail _).countDev _ _
  · exact ((Linked.refl d).onCpMail _).trans (linked_sendNotice _)

theorem linked_setPtpState (d : Dev) (p st : Nat) : Linked d (d.setPtpState p st) := by
  unfold Dev.setPtpState
  try dsimp only
  repeat' first
    | with_reducible exact Linked.refl _
    | with_reducible refine Linked.setMark ?_ _ _ _ _ (by decide) (by decide)
    | with_reducible refine Linked.onPtu ?_ _ _
    | with_reducible refine (linked_judgePortCand _ _).after ?_
    | with_reducible refine (linked_notice _ _).after ?_
    | with_reducible refine (Linked.of_only (only_revFail _ _ _) (by decide)).after ?_
    | with_reducible refine Linked.when ?_ _ _ ?_
    | split

theorem linked_ptpBegin (d : Dev) (p : Nat) : Linked d (d.ptpBegin p) := by
  unfold Dev.ptpBegin
  try dsimp only
  repeat' first
    | with_reducible exact Linked.refl _
    | with_reducible refine Linked.onPtu ?_ _ _
    | with_reducible refine (linked_setPtpState _ _ _).after ?_

theorem linked_setPinLost (d : Dev) (p : Nat) (b : Bool) : Linked d (d.setPinLost p b) := by
  unfold Dev.setPinLost
  try dsimp only
  repeat' first
    | with_reducible exact Linked.refl _
    | with_reducible refine Linked.ptuBit ?_ _ _ _ (by decide)
    | with_reducible refine Linked.cond ?_ _ _ (by decide)

theorem linked_countFrame (d : Dev) (p dir : Nat) (bytes : List Byte) : Linked d (d.countFrame p dir bytes) := by
  unfold Dev.countFrame
  try dsimp only
  repeat' first
    | with_reducible exact Linked.refl _
    | with_reducible refine Linked.countPort ?_ _ _ _
    | with_reducible refine Linked.when ?_ _ _ ?_
    | split

theorem linked_retireCell (d : Dev) (c : Nat) : Linked d (d.retireCell c) := by
  unfold Dev.retireCell
  try dsimp only
  repeat' first
    | with_reducible exact Linked.refl _
    | with_reducible refine Linked.onSw ?_ _
    | with_reducible refine Linked.countDev ?_ _ _
    | with_reducible refine Linked.retireOther ?_ _ _ _
    | with_reducible refine (linked_judgeBuf _).after ?_

theorem linked_freeFrame (d : Dev) (f : Nat) : Linked d (d.freeFrame f) := by
  unfold Dev.freeFrame
  try dsimp only
  repeat' first
    | with_reducible exact Linked.refl _
    | with_reducible refine (linked_retireCell _ _).after ?_
    | with_reducible refine (Linked.of_only (only_setFrame _ _ _) (by decide)).after ?_
    | with_reducible refine Linked.each ?_ _ _ (fun _ _ => ?_)
    | split

theorem linked_release (d : Dev) (f : Nat) : Linked d (d.release f) := by
  unfold Dev.release
  try dsimp only
  repeat' first
    | with_reducible exact Linked.refl _
    | with_reducible refine (linked_freeFrame _ _).after ?_
    | with_reducible refine (Linked.of_only (only_setFrame _ _ _) (by decide)).after ?_
    | split

theorem linked_unlink (d : Dev) (l : Link) : Linked d (d.unlink l) := by
  unfold Dev.unlink
  try dsimp only
  repeat' first
    | with_reducible exact Linked.refl _
    | with_reducible refine (linked_release _ _).after ?_

theorem linked_flushLink (d : Dev) (p e : Nat) (l : Link) : Linked d (d.flushLink p e l) := by
  unfold Dev.flushLink
  try dsimp only
  repeat' first
    | with_reducible exact Linked.refl _
    | with_reducible refine Linked.portEvent ?_ _ _ _ _
    | with_reducible refine (linked_unlink _ _).after ?_

theorem linked_link (d : Dev) (p q : Nat) (l : Link) : Linked d (d.link p q l) := by
  unfold Dev.link
  try dsimp only
  repeat' first
    | with_reducible exact Linked.refl _
    | with_reducible refine (Linked.of_only (only_judgeIdle _ _) (by decide)).after ?_
    | with_reducible refine Linked.onFrame ?_ _ _
    | with_reducible refine (Linked.of_only (only_setQueue _ _ _ _) (by decide)).after ?_
    | with_reducible refine (linked_wakeTx _ _).after ?_

theorem linked_dropLinks (d : Dev) (f : Nat) : Linked d (d.dropLinks f) := by
  unfold Dev.dropLinks
  try dsimp only
  repeat' first
    | with_reducible exact Linked.refl _
    | with_reducible refine Linked.onSw ?_ _
    | with_reducible refine (Linked.of_only (only_judgeIdle _ _) (by decide)).after ?_
    | with_reducible refine (linked_release _ _).after ?_
    | with_reducible refine Linked.each ?_ _ _ (fun _ _ => ?_)

theorem linked_spoilTx (d : Dev) (f : Nat) : Linked d (d.spoilTx f) := by
  unfold Dev.spoilTx
  try dsimp only
  repeat' first
    | with_reducible exact Linked.refl _
    | with_reducible refine Linked.onSw ?_ _

theorem linked_spoilFrame (d : Dev) (fid : Nat) : Linked d (d.spoilFrame fid) := by
  unfold Dev.spoilFrame
  try dsimp only
  repeat' first
    | with_reducible exact Linked.refl _
    | with_reducible refine Linked.onSw ?_ _
    | with_reducible refine (linked_dropLinks _ _).after ?_
    | with_reducible refine Linked.onFrame ?_ _ _
    | with_reducible refine (Linked.of_only (only_refreshHeld _ _) (by decide)).after ?_
    | with_reducible refine (linked_release _ _).after ?_
    | with_reducible refine (linked_spoilTx _ _).after ?_
    | split

theorem linked_refuse (d : Dev) (p q cause : Nat) : Linked d (d.refuse p q cause) := by
  unfold Dev.refuse
  try dsimp only
  repeat' first
    | with_reducible exact Linked.refl _
    | with_reducible refine Linked.set ?_ _ _ _ (by decide)
    | with_reducible refine Linked.countPort ?_ _ _ _
    | with_reducible refine Linked.portEvent ?_ _ _ _ _

theorem linked_offer (d : Dev) (p q fid lc : Nat) (copy : Option Nat) : Linked d (d.offer p q fid lc copy).1 := by
  unfold Dev.offer
  try dsimp only
  repeat' first
    | with_reducible exact Linked.refl _
    | with_reducible refine Linked.spendFree ?_
    | with_reducible refine Linked.portEvent ?_ _ _ _ _
    | with_reducible refine (Linked.of_only (only_chargeFrame _ _ _ _) (by decide)).after ?_
    | with_reducible refine (Linked.of_only (only_judgeIdle _ _) (by decide)).after ?_
    | with_reducible refine (linked_link _ _ _ _).after ?_
    | with_reducible refine Linked.onFrame ?_ _ _
    | with_reducible refine (Linked.of_only (only_redUpdate _ _ _) (by decide)).after ?_
    | with_reducible refine (linked_refuse _ _ _ _).after ?_
    | with_reducible refine (Linked.of_only (only_setTail _ _ _ _) (by decide)).after ?_
    | with_reducible refine (linked_wakeTx _ _).after ?_
    | with_reducible refine Linked.when ?_ _ _ ?_
    | split

theorem linked_takeCopy (d : Dev) (fid : Nat) (c : MirCopy) : Linked d (d.takeCopy fid c) := by
  unfold Dev.takeCopy
  try dsimp only
  repeat' first
    | with_reducible exact Linked.refl _
    | with_reducible refine Linked.onSw ?_ _
    | with_reducible refine Linked.countDev ?_ _ _
    | with_reducible refine (linked_offer _ _ _ _ _ _).after ?_
    | split

theorem linked_takeCopies (d : Dev) (fid : Nat) : Linked d (d.takeCopies fid) := by
  unfold Dev.takeCopies
  try dsimp only
  repeat' first
    | with_reducible exact Linked.refl _
    | with_reducible refine Linked.onFrame ?_ _ _
    | with_reducible refine (linked_takeCopy _ _ _).after ?_
    | with_reducible refine Linked.each ?_ _ _ (fun _ _ => ?_)
    | split

theorem linked_cutPort (d : Dev) (p : Nat) : Linked d (d.cutPort p) := by
  unfold Dev.cutPort
  try dsimp only
  repeat' first
    | with_reducible exact Linked.refl _
    | with_reducible refine (linked_countFrame _ _ _ _).after ?_
    | with_reducible refine (linked_flushLink _ _ _ _).after ?_
    | with_reducible refine (linked_link _ _ _ _).after ?_
    | with_reducible refine Linked.onFrame ?_ _ _
    | with_reducible refine (linked_release _ _).after ?_
    | with_reducible refine (Linked.of_only (only_setRx _ _ _) (by decide)).after ?_
    | with_reducible refine (Linked.of_only (only_setTx _ _ _) (by decide)).after ?_
    | with_reducible refine (linked_spoilFrame _ _).after ?_
    | with_reducible refine (linked_takeCopies _ _).after ?_
    | split

theorem linked_replayHeld (d : Dev) (p : Nat) : Linked d (d.replayHeld p) := by
  unfold Dev.replayHeld
  try dsimp only
  repeat' first
    | with_reducible exact Linked.refl _
    | with_reducible refine Linked.onSw ?_ _
    | with_reducible refine Linked.portEvent ?_ _ _ _ _
    | with_reducible refine (Linked.of_only (only_judgeIdle _ _) (by decide)).after ?_
    | with_reducible refine (linked_link _ _ _ _).after ?_
    | with_reducible refine Linked.each ?_ _ _ (fun _ _ => ?_)
    | split

theorem linked_replayLink (d : Dev) (p q : Nat) (l : Link) : Linked d (d.replayLink p q l) := by
  unfold Dev.replayLink
  try dsimp only
  repeat' first
    | with_reducible exact Linked.refl _
    | with_reducible refine Linked.portEvent ?_ _ _ _ _
    | with_reducible refine (linked_flushLink _ _ _ _).after ?_
    | with_reducible refine (Linked.of_only (only_judgeIdle _ _) (by decide)).after ?_
    | with_reducible refine (Linked.of_only (only_setQueue _ _ _ _) (by decide)).after ?_
    | with_reducible refine (linked_wakeTx _ _).after ?_
    | split

theorem linked_replayPort (d : Dev) (p : Nat) : Linked d (d.replayPort p) := by
  unfold Dev.replayPort
  try dsimp only
  repeat' first
    | with_reducible exact Linked.refl _
    | with_reducible refine Linked.onSw ?_ _
    | with_reducible refine (Linked.of_only (only_judgeIdle _ _) (by decide)).after ?_
    | with_reducible refine (linked_replayHeld _ _).after ?_
    | with_reducible refine (linked_replayLink _ _ _ _).after ?_
    | with_reducible refine (Linked.of_only (only_rescheduled _ _) (by decide)).after ?_
    | with_reducible refine (Linked.of_only (only_setDeficit _ _ _ _) (by decide)).after ?_
    | with_reducible refine (Linked.of_only (only_setQueue _ _ _ _) (by decide)).after ?_
    | with_reducible refine (Linked.of_only (only_setTail _ _ _ _) (by decide)).after ?_
    | with_reducible refine Linked.each ?_ _ _ (fun _ _ => ?_)
    | split

theorem linked_queueOwn (d : Dev) (p : Nat) (own : OwnKind) (bytes : List Byte) : Linked d (d.queueOwn p own bytes) := by
  unfold Dev.queueOwn
  try dsimp only
  repeat' first
    | with_reducible exact Linked.refl _
    | with_reducible refine Linked.onSw ?_ _
    | with_reducible refine (linked_link _ _ _ _).after ?_
    | with_reducible refine (Linked.of_only (only_setFrame _ _ _) (by decide)).after ?_

theorem linked_sendHello (d : Dev) (p : Nat) : Linked d (d.sendHello p) := by
  unfold Dev.sendHello
  try dsimp only
  repeat' first
    | with_reducible exact Linked.refl _
    | with_reducible refine Linked.onPort ?_ _ _
    | with_reducible refine Linked.spendFree ?_
    | with_reducible refine (Linked.of_only (only_judgeIdle _ _) (by decide)).after ?_
    | with_reducible refine (linked_queueOwn _ _ _ _).after ?_
    | split

theorem linked_measureWake (d : Dev) (p dir new : Nat) : Linked d (d.measureWake p dir new) := by
  unfold Dev.measureWake
  try dsimp only
  repeat' first
    | with_reducible exact Linked.refl _
    | with_reducible refine Linked.set ?_ _ _ _ (by decide)
    | with_reducible refine Linked.onPtu ?_ _ _
    | with_reducible refine Linked.portEvent ?_ _ _ _ _
    | with_reducible refine (Linked.of_only (only_refreshPtx _ _) (by decide)).after ?_
    | split

theorem linked_ptpLeaves (d : Dev) (p : Nat) (b : List Byte) : Linked d (d.ptpLeaves p b) := by
  unfold Dev.ptpLeaves
  try dsimp only
  repeat' first
    | with_reducible exact Linked.refl _
    | with_reducible refine Linked.emit ?_ _
    | with_reducible refine Linked.countPort ?_ _ _ _
    | with_reducible refine (linked_countFrame _ _ _ _).after ?_

theorem linked_eventOut (d : Dev) (p t : Nat) (cp m : PtpMsg) (c : Capture) (asker : Option PtpMsg) : Linked d (d.eventOut p t cp m c asker) := by
  unfold Dev.eventOut
  try dsimp only
  repeat' first
    | with_reducible exact Linked.refl _
    | with_reducible refine Linked.onPtu ?_ _ _
    | with_reducible refine Linked.emit ?_ _
    | with_reducible refine Linked.countTx ?_ _ _
    | with_reducible refine (linked_ptpLeaves _ _ _).after ?_

theorem linked_messageOut (d : Dev) (p t : Nat) (m : PtpMsg) (asker : Option PtpMsg) : Linked d (d.messageOut p t m asker) := by
  unfold Dev.messageOut
  try dsimp only
  repeat' first
    | with_reducible exact Linked.refl _
    | with_reducible refine Linked.emit ?_ _
    | with_reducible refine Linked.countTx ?_ _ _
    | with_reducible refine (linked_ptpLeaves _ _ _).after ?_

theorem linked_signalOut (d : Dev) (p : Nat) (m : PtpMsg) (target tlvs : List Byte) : Linked d (d.signalOut p m target tlvs) := by
  unfold Dev.signalOut
  try dsimp only
  repeat' first
    | with_reducible exact Linked.refl _
    | with_reducible refine Linked.emit ?_ _
    | with_reducible refine Linked.countTx ?_ _ _
    | with_reducible refine (linked_ptpLeaves _ _ _).after ?_

theorem linked_ptpSend (d : Dev) (p : Nat) (x : PtpDue) : Linked d (d.ptpSend p x) := by
  unfold Dev.ptpSend
  try dsimp only
  repeat' first
    | with_reducible exact Linked.refl _
    | with_reducible refine Linked.onPtu ?_ _ _
    | with_reducible refine Linked.emit ?_ _
    | with_reducible refine Linked.spendFree ?_
    | with_reducible refine Linked.countTx ?_ _ _
    | with_reducible refine (linked_eventOut _ _ _ _ _ _ _).after ?_
    | with_reducible refine (linked_messageOut _ _ _ _ _).after ?_
    | with_reducible refine (linked_ptpLeaves _ _ _).after ?_
    | with_reducible refine (linked_signalOut _ _ _ _ _).after ?_
    | split

theorem linked_flushPtp (d : Dev) (p : Nat) : Linked d (d.flushPtp p) := by
  unfold Dev.flushPtp
  try dsimp only
  repeat' first
    | with_reducible exact Linked.refl _
    | with_reducible refine Linked.onPtu ?_ _ _
    | with_reducible refine (Linked.of_only (only_judgeIdle _ _) (by decide)).after ?_
    | with_reducible refine (linked_ptpSend _ _ _).after ?_
    | with_reducible refine Linked.each ?_ _ _ (fun _ _ => ?_)
    | split

theorem linked_sendNoticeFrame (d : Dev) (p depth : Nat) : Linked d (d.sendNoticeFrame p depth) := by
  unfold Dev.sendNoticeFrame
  try dsimp only
  repeat' first
    | with_reducible exact Linked.refl _
    | with_reducible refine Linked.onPort ?_ _ _
    | with_reducible refine Linked.spendFree ?_
    | with_reducible refine (linked_notice _ _).after ?_
    | with_reducible refine (linked_queueOwn _ _ _ _).after ?_
    | split

end Sys2Proof.Laws


/-! SUPPORT. A port that goes down, and the start of a bring-up. -/

namespace Sys2Proof.Laws

open Sys2Proof.Machine Sys2Proof.Safety

variable {x d : Dev}

theorem linkFields_wide : ∀ f ∈ linkFields, f.lo + f.width ≤ 32 := by decide
theorem linkFields_changed : ∀ f ∈ linkFields, apart F.LANE_QUAD_STAT_CHANGED f = true := by decide
theorem linkFields_apart : ∀ f ∈ linkFields, ∀ g ∈ linkFields, f ≠ g → apart f g = true := by decide
theorem linkFields_awake : ∀ f ∈ linkFields, apart f F.LANE_QUAD_STAT_TX_SLEEP = true := by decide

theorem quadSet_get_same {f : Fld} (hf : f ∈ linkFields) (v p : Nat) : (d.quadSet f v p).get f p = v % 2 ^ f.width :=
  get_setMark_same _ _ _ _ _ (linkFields_wide f hf) (by decide) (linkFields_changed f hf)

theorem quadSet_get_apart {f g : Fld} (hf : f ∈ linkFields) (hg : g ∈ linkFields) (hne : f ≠ g) (v p u : Nat) :
    (d.quadSet f v p).get g u = d.get g u :=
  get_setMark_apart _ _ _ _ _ _ _ (linkFields_wide f hf) (by decide) (linkFields_apart f hf g hg hne) (linkFields_changed g hg)

theorem quadSet_txSleep {f : Fld} (hf : f ∈ linkFields) (v p u : Nat) : (d.quadSet f v p).txSleep u = d.txSleep u :=
  get_setMark_apart _ _ _ _ _ _ _ (linkFields_wide f hf) (by decide) (linkFields_awake f hf) (by decide)

theorem only_quadSet' (f : Fld) (hf : f ∈ linkFields) (v p : Nat) : Only [] [.LANE_QUAD_STAT] d (d.quadSet f v p) :=
  .quadSet .refl _ _ _ (by rw [reg_of_linkField f hf]; decide) (by decide)

/-- A field of the link set on both sides. -/
theorem Linked.both (h : Linked x d) {f : Fld} (hf : f ∈ linkFields) (v p : Nat) : Linked (x.quadSet f v p) (d.quadSet f v p) := by
  refine ⟨fun g hg u => ?_, fun q hq => ?_, ?_⟩
  · by_cases hne : f = g
    · subst hne
      by_cases hu : u = p
      · rw [hu, quadSet_get_same hf, quadSet_get_same hf]
      · rw [Dev.quadSet, Dev.quadSet, get_setMark_unit _ _ _ _ _ _ _ hu, get_setMark_unit _ _ _ _ _ _ _ hu, h.get f hg]
    · rw [quadSet_get_apart hf hg hne, quadSet_get_apart hf hg hne, h.get g hg]
  · rw [quadSet_txSleep hf] at hq ⊢
    exact h.awake q hq
  · rw [alarmOn_of_word _ fun u => (only_quadSet' f hf v p).word _ u (by decide), h.retired,
      alarmOn_of_word _ fun u => (only_quadSet' f hf v p).word _ u (by decide)]

/-- A transmitter becomes awake. -/
theorem Linked.sleepless (h : Linked x d) (p : Nat) : Linked x (d.quadSet F.LANE_QUAD_STAT_TX_SLEEP 0 p) := by
  have hapart : ∀ g ∈ linkFields, apart F.LANE_QUAD_STAT_TX_SLEEP g = true ∧ apart F.LANE_QUAD_STAT_CHANGED g = true := by decide
  have honly : Only [] [.LANE_QUAD_STAT] d (d.quadSet F.LANE_QUAD_STAT_TX_SLEEP 0 p) := .quadSet .refl _ _ _ (by decide) (by decide)
  refine h.trans ⟨fun g hg u => get_setMark_apart _ _ _ _ _ _ _ (by decide) (by decide) (hapart g hg).1 (hapart g hg).2,
    fun q hq => ?_, alarmOn_of_word _ fun u => honly.word _ u (by decide)⟩
  by_cases hp : q = p
  · rw [hp]
    exact get_setMark_same _ _ _ _ _ (by decide) (by decide) (by decide)
  · rw [Dev.txSleep, Dev.quadSet, get_setMark_unit _ _ _ _ _ _ _ hp]
    exact hq

theorem linked_judgeL1 (d : Dev) (p : Nat) : Linked d (d.judgeL1 p) := .of_only (only_judgeL1 d p) (by decide)
theorem linked_refreshPtu (d : Dev) (p : Nat) : Linked d (d.refreshPtu p) := .of_only (only_refreshPtu d p) (by decide)
theorem linked_refreshPtx (d : Dev) (p : Nat) : Linked d (d.refreshPtx p) := .of_only (only_refreshPtx d p) (by decide)

/-! ## The steps of a fall -/

theorem linked_endRxSleep (d : Dev) (p : Nat) : Linked (d.quadSet F.LANE_QUAD_STAT_RX_SLEEP 0 p) (d.endRxSleep p) :=
  ((Linked.refl _).onPort _ _).trans (linked_refreshPtu _ _)

theorem linked_losePartner (d : Dev) (p : Nat) : Linked (d.quadSet F.LANE_QUAD_STAT_DISCOVERED 0 p) (d.losePartner p) := by
  have hcleared : Linked (d.quadSet F.LANE_QUAD_STAT_DISCOVERED 0 p) (((((d.quadSet F.LANE_QUAD_STAT_DISCOVERED 0 p).quadSet
      F.LANE_QUAD_STAT_PARTNER_SYNT 0 p).setWord .LANE_PARTNER_ID_HI p 0).setWord .LANE_PARTNER_ID_LO p 0).setWord .LANE_PARTNER_INFO p 0) :=
    ((((Linked.refl _).quadSet _ _ _ (by decide)).setWord _ _ _ (by decide) (by decide)).setWord _ _ _ (by decide) (by decide)).setWord
      _ _ _ (by decide) (by decide)
  exact ((hcleared.setWord _ _ _ (by decide) (by decide)).trans (linked_judgeSleep _ _)).trans (linked_judgeL1 _ _)

theorem linked_endSleep (d : Dev) (p : Nat) : Linked (d.quadSet F.LANE_QUAD_STAT_RX_SLEEP 0 p) (d.endSleep p) :=
  ((((linked_endRxSleep d p).sleepless p).onPort _ _).trans (linked_refreshPtu _ _)).trans (linked_refreshPower _ _)

/-- What a port that falls loses: its link, with the cause, the sleep of its receiver and its partner. -/
def fallen (p cause : Nat) (d : Dev) : Dev :=
  (((d.quadSet F.LANE_QUAD_STAT_LINK_UP 0 p).set F.LANE_QUAD_STAT_DOWN_CAUSE cause p).quadSet F.LANE_QUAD_STAT_RX_SLEEP 0 p).quadSet
    F.LANE_QUAD_STAT_DISCOVERED 0 p

theorem portDown_of_down {p : Nat} (h : d.linkUp p = false) (cause : Nat) : d.portDown p cause = d := by
  rw [Dev.portDown, if_pos (by simp [h])]

theorem linked_portDown {p : Nat} (h : d.linkUp p = true) (cause : Nat) : Linked (fallen p cause d) (d.portDown p cause) := by
  rw [Dev.portDown, if_neg (by simp [h])]
  dsimp only
  have hshown := ((((Linked.refl ((d.quadSet F.LANE_QUAD_STAT_LINK_UP 0 p).set F.LANE_QUAD_STAT_DOWN_CAUSE cause p)).countPort p 40 1).portEvent
    p (0x010 + cause) 0 1).onPort p (fun s => { s with inLoop := false, helloDue := false }))
  have hquiet := (hshown.both (f := F.LANE_QUAD_STAT_RX_SLEEP) (by decide) 0 p).trans (linked_endRxSleep _ _)
  have hlost := (hquiet.both (f := F.LANE_QUAD_STAT_DISCOVERED) (by decide) 0 p).trans (linked_losePartner _ _)
  refine (linked_judgeBanks _).after ((linked_refreshPower _ _).after ((linked_refreshPtx _ _).after ((linked_replayPort _ _).after
    ((linked_cutPort _ _).after ((linked_judgePortCand _ _).after ((linked_ptpBegin _ _).after ((linked_setPinLost _ _ _).after ?_)))))))
  exact ((hlost.onPtu _ _).ptuBit _ _ _ (by decide)).ptuBit _ _ _ (by decide)

/-- The phase that a start of a bring-up shows. -/
theorem linked_startBring (d : Dev) (p : Nat) : ∃ n, Linked (d.quadSet F.LANE_QUAD_STAT_PHASE n p) (d.startBring p) := by
  have hstarted : Linked d (d.when (d.portMode p != 0) (fun d => d.restartLpll (p / 8))) := (Linked.refl d).when _ _ (linked_restartLpll _ _)
  have hready := (hstarted.each ((d.when (d.portMode p != 0) (fun d => d.restartLpll (p / 8))).usedLanes p)
    (fun d l => d.laneBit F.LANE_STAT_CDR_LOCK false l) fun e l => (Linked.refl e).laneBit _ _ _ (by decide))
  exact ⟨_, ((Linked.onPort hready p _).both (by decide) _ p).trans (linked_refreshPtu _ _)⟩

/-! ## What a fall shows -/

theorem linkUp_of_get {p : Nat} (h : d.get F.LANE_QUAD_STAT_LINK_UP p = 0) : d.linkUp p = false := by rw [Dev.linkUp, Dev.flag, h]; rfl

theorem fallen_get (p cause : Nat) (d : Dev) : (fallen p cause d).get F.LANE_QUAD_STAT_LINK_UP p = 0 ∧
    (fallen p cause d).get F.LANE_QUAD_STAT_DOWN_CAUSE p = cause % 16 ∧ (fallen p cause d).get F.LANE_QUAD_STAT_RX_SLEEP p = 0 := by
  refine ⟨?_, ?_, ?_⟩
  · rw [fallen, quadSet_get_apart (by decide) (by decide) (by decide), quadSet_get_apart (by decide) (by decide) (by decide),
      get_set_apart _ _ _ _ _ _ (by decide) (by decide), quadSet_get_same (by decide)]
    rfl
  · rw [fallen, quadSet_get_apart (by decide) (by decide) (by decide), quadSet_get_apart (by decide) (by decide) (by decide),
      get_set_same _ _ _ _ (by decide)]
    rfl
  · rw [fallen, quadSet_get_apart (by decide) (by decide) (by decide), quadSet_get_same (by decide)]
    rfl

/-- A port that was up has fallen with a cause. -/
structure Down (p cause : Nat) (d : Dev) : Prop where
  link : d.linkUp p = false
  cause : d.get F.LANE_QUAD_STAT_DOWN_CAUSE p = cause % 16
  awake : d.rxSleep p = 0

theorem Down.linked {p cause : Nat} (h : Down p cause x) (k : Linked x d) : Down p cause d := by
  have hlink : d.linkUp p = x.linkUp p := by rw [Dev.linkUp, Dev.flag, k.get _ (by decide), Dev.linkUp, Dev.flag]
  exact ⟨hlink.trans h.link, (k.get _ (by decide) p).trans h.cause, (k.get _ (by decide) p).trans h.awake⟩

theorem portDown_down {p : Nat} (h : d.linkUp p = true) (cause : Nat) : Down p cause (d.portDown p cause) := by
  obtain ⟨hlink, hcause, hawake⟩ := fallen_get p cause d
  exact Down.linked ⟨linkUp_of_get hlink, hcause, hawake⟩ (linked_portDown h cause)

theorem startBring_down {p cause : Nat} (h : Down p cause d) : Down p cause (d.startBring p) := by
  obtain ⟨n, hn⟩ := linked_startBring d p
  refine Down.linked ⟨?_, ?_, ?_⟩ hn
  · rw [Dev.linkUp, Dev.flag, quadSet_get_apart (by decide) (by decide) (by decide), ← Dev.flag, ← Dev.linkUp, h.link]
  · rw [quadSet_get_apart (by decide) (by decide) (by decide), h.cause]
  · rw [Dev.rxSleep, quadSet_get_apart (by decide) (by decide) (by decide), ← Dev.rxSleep, h.awake]

theorem dropLink_down {p : Nat} (h : d.linkUp p = true) (cause : Nat) : Down p cause (d.dropLink p cause) :=
  startBring_down (portDown_down h cause)

theorem Linked.linkUp (h : Linked x d) (p : Nat) : d.linkUp p = x.linkUp p := by
  rw [Dev.linkUp, Dev.flag, h.get _ (by decide), Dev.linkUp, Dev.flag]
theorem Linked.rxSleep (h : Linked x d) (p : Nat) : d.rxSleep p = x.rxSleep p := h.get _ (by decide) p
theorem Linked.phase (h : Linked x d) (p : Nat) : d.get F.LANE_QUAD_STAT_PHASE p = x.get F.LANE_QUAD_STAT_PHASE p := h.get _ (by decide) p

end Sys2Proof.Laws


namespace Sys2Proof.Proofs

open Sys2Proof.Machine Sys2Proof.Safety Sys2Proof.Laws

variable {d : Dev} {p : Nat}

/-- A phase that is shown. -/
theorem phase_shown {n : Nat} (hn : n < 16) : (d.quadSet F.LANE_QUAD_STAT_PHASE n p).get F.LANE_QUAD_STAT_PHASE p = n :=
  (quadSet_get_same (by decide) n p).trans (Nat.mod_eq_of_lt hn)

theorem bringing_of_phase {ph : Nat} (h : d.get F.LANE_QUAD_STAT_PHASE p = ph) (hlo : 1 ≤ ph) (hhi : ph ≤ 6) : d.bringing p = true := by
  simp [Dev.bringing, h, hlo, hhi]

theorem retryBring_phase : (d.retryBring p).get F.LANE_QUAD_STAT_PHASE p = 1 := phase_shown (by decide)

/-- A phase that completes leads to the next. -/
theorem bringPhase_next (lat : LatMeas) {ph : Nat} (h : d.get F.LANE_QUAD_STAT_PHASE p = ph) (hlo : 1 ≤ ph) (hhi : ph ≤ 5)
    (hagree : ph = 5 → lat.agree = true) : (d.bringPhase p .complete lat).get F.LANE_QUAD_STAT_PHASE p = ph + 1 := by
  have hrun := bringing_of_phase h hlo (by omega)
  have hretry : ¬((decide (ph = 5) && !lat.agree) = true) := by
    by_cases h5 : ph = 5
    · simp [hagree h5]
    · simp [h5]
  rw [Dev.bringPhase, if_neg (by simp [hrun])]
  dsimp only
  rw [h, if_neg (by omega), if_neg hretry]
  exact phase_shown (by omega)

/-- A lost signal or a lost lock starts the attempt again. -/
theorem bringPhase_lost (lat : LatMeas) (h : d.bringing p = true) : (d.bringPhase p .lostSignal lat).get F.LANE_QUAD_STAT_PHASE p = 1 ∧
    (d.bringPhase p .lostLock lat).get F.LANE_QUAD_STAT_PHASE p = 1 := by
  constructor <;> (rw [Dev.bringPhase, if_neg (by simp [h])]; exact phase_shown (by decide))

theorem linkUp_of_one (h : d.get F.LANE_QUAD_STAT_LINK_UP p = 1) : d.linkUp p = true := by rw [Dev.linkUp, Dev.flag, h]; rfl

theorem linked_restartDelay (d : Dev) (p : Nat) : Linked d (d.restartDelay p) := .of_only (only_restartDelay d p) (by decide)
theorem linked_judgeIdle (d : Dev) (p : Nat) : Linked d (d.judgeIdle p) := .of_only (only_judgeIdle d p) (by decide)

/-- What follows the hold-down keeps the link that it shows. -/
theorem linked_linkComesUp (h : d.get F.LANE_QUAD_STAT_PHASE p = 6) :
    Linked ((d.quadSet F.LANE_QUAD_STAT_PHASE 7 p).quadSet F.LANE_QUAD_STAT_LINK_UP 1 p) (d.linkComesUp p) := by
  rw [Dev.linkComesUp, if_neg (by simp [h])]
  dsimp only
  refine (linked_judgeBanks _).after ((linked_refreshPower _ _).after ((linked_refreshPtu _ _).after ((linked_judgeIdle _ _).after
    ((linked_sendHello _ _).after ((linked_ptpBegin _ _).after ((linked_refreshPtx _ _).after ((linked_restartDelay _ _).after ?_)))))))
  exact (((Linked.refl _).set _ _ _ (by decide)).onPort _ _).ptuBit _ _ _ (by decide)

theorem linkComesUp_shows (h : d.get F.LANE_QUAD_STAT_PHASE p = 6) :
    (d.linkComesUp p).get F.LANE_QUAD_STAT_PHASE p = 7 ∧ (d.linkComesUp p).linkUp p = true := by
  have hdone := linked_linkComesUp h
  refine ⟨(hdone.phase p).trans ?_, (hdone.linkUp p).trans (linkUp_of_one ?_)⟩
  · rw [quadSet_get_apart (by decide) (by decide) (by decide)]
    exact phase_shown (by decide)
  · rw [quadSet_get_same (by decide)]
    rfl

section
variable (hup : d.linkUp p = true)
include hup

theorem lossOfSignal_down (hawake : d.rxAwake p = true) : Down p 1 (d.lossOfSignal p) := by
  rw [Dev.lossOfSignal, if_neg (by simp [hup, hawake])]
  have hdark := (Linked.refl d).each (d.usedLanes p) (fun d l => d.laneBit F.LANE_STAT_SIG_DET false l) fun e l =>
    (Linked.refl e).laneBit _ _ _ (by decide)
  exact dropLink_down ((hdark.linkUp p).trans hup) 1

theorem lockLost_down (hawake : d.rxAwake p = true) : Down p 2 (d.lockLost p) := by
  rw [Dev.lockLost, if_neg (by simp [hup, hawake])]
  exact dropLink_down hup 2

/-- The codewords of a window are counted and the limit of the next is taken. -/
def windowTaken (p unc cor : Nat) (d : Dev) : Dev :=
  ((d.countPort p 38 cor).countPort p 39 unc).onPort p (fun s => { s with
    degradeCw := ((d.countPort p 38 cor).countPort p 39 unc).get F.LANE_QUAD_CFG_DEGRADE_CW p })

omit hup in
theorem linked_windowTaken (unc cor : Nat) : Linked d (windowTaken p unc cor d) :=
  (((Linked.refl d).countPort _ _ _).countPort _ _ _).onPort _ _

omit hup in
theorem counted_port (unc cor : Nat) : ((d.countPort p 38 cor).countPort p 39 unc).port p = d.port p := by
  rw [Dev.port, (report_countPort _ _ _ _).ports, (report_countPort _ _ _ _).ports, Dev.port]

theorem degradeWindow_eq (unc cor : Nat) (hiBer : Bool) (hfec : noFec (d.portMode p) = false) : d.degradeWindow p unc cor hiBer =
    if (d.port p).degradeCw < unc then (windowTaken p unc cor d).dropLink p 3 else windowTaken p unc cor d := by
  rw [Dev.degradeWindow, if_neg (by simp [hup]), if_neg (by simp [hfec])]
  dsimp only
  rw [counted_port, windowTaken]

theorem degradeWindow_keeps (unc cor : Nat) (hiBer : Bool) (hfec : noFec (d.portMode p) = false) (hfew : unc ≤ (d.port p).degradeCw) :
    (d.degradeWindow p unc cor hiBer).linkUp p = true ∧
      ((d.degradeWindow p unc cor hiBer).port p).degradeCw = d.get F.LANE_QUAD_CFG_DEGRADE_CW p := by
  rw [degradeWindow_eq hup unc cor hiBer hfec, if_neg (by omega)]
  refine ⟨((linked_windowTaken unc cor).linkUp p).trans hup, ?_⟩
  have hget : ((d.countPort p 38 cor).countPort p 39 unc).get F.LANE_QUAD_CFG_DEGRADE_CW p = d.get F.LANE_QUAD_CFG_DEGRADE_CW p := by
    rw [(report_countPort _ _ _ _).get _ _ rfl, (report_countPort _ _ _ _).get _ _ rfl]
  rw [windowTaken, Dev.port, Dev.onPort, tabGet_tabSet_same, hget]

theorem degradeWindow_noFec (unc cor : Nat) (hiBer : Bool) (hfec : noFec (d.portMode p) = true) :
    d.degradeWindow p unc cor hiBer = if hiBer then d.dropLink p 3 else d := by
  rw [Dev.degradeWindow, if_neg (by simp [hup]), if_pos hfec]

/-- A restart of the quad shows its result beside the link. -/
theorem quadRestart_down (hmode : d.portMode p ≠ 0) (htest : d.portTest p = false) :
    Down p 6 (d.quadRestart p) ∧ (d.quadRestart p).get F.LANE_QUAD_CMD_RESULT p = 1 := by
  rw [Dev.quadRestart, if_neg hmode, if_neg (by simp [htest])]
  exact ⟨(startBring_down (portDown_down hup 6)).linked ((Linked.refl _).set _ _ _ (by decide)), get_set_same _ _ _ _ (by decide)⟩

end

/-- A command whose operation takes the port down. -/
theorem completes_down {s : State} {c : Instr} {f : Dev → Dev} {cause : Nat} (hexec : exec c s = .next (s.onDev f)) (hcause : cause < 16)
    (h : Down p cause (f s.dev)) :
    Completes c s (fun t => t.dev.linkUp p = false ∧ t.dev.get F.LANE_QUAD_STAT_DOWN_CAUSE p = cause) := by
  refine completes_onDev hexec ?_
  rw [onDev_dev]
  exact ⟨h.link, h.cause.trans (Nat.mod_eq_of_lt hcause)⟩

/-- Settles O19: what follows a phase or a fall keeps what the link shows (`Linked`), the fall of a port with its cause among it. -/
theorem linkBringUpAndDown : Obligations.LinkBringUpAndDown := by
  refine ⟨fun s p lat => ⟨fun ph h hlo hhi hagree => ?_, fun h => ⟨?_, ?_, ?_⟩, fun h => ?_⟩, fun s p unc cor hiBer hup => ⟨fun hawake => ⟨?_, ?_⟩,
    fun hfec hmany => ?_, fun hfec hfew => ?_, fun hfec => ⟨fun hbad => ?_, fun hgood => ?_⟩, fun hreach hport hmode htest => ?_⟩⟩
  · exact completes_onDev (f := fun d => d.bringPhase p.val .complete lat) rfl (bringPhase_next lat h hlo hhi hagree)
  · exact completes_onDev (f := fun d => d.bringPhase p.val .lostSignal lat) rfl (bringPhase_lost lat h).1
  · exact completes_onDev (f := fun d => d.bringPhase p.val .lostLock lat) rfl (bringPhase_lost lat h).2
  · refine completes_onDev (f := fun d => d.bringTimeout p.val) rfl ?_
    rw [onDev_dev, Dev.bringTimeout, if_pos h]
    exact retryBring_phase
  · exact completes_onDev (f := fun d => d.linkComesUp p.val) rfl (linkComesUp_shows h)
  · exact completes_down (f := fun d => d.lossOfSignal p.val) rfl (by decide) (lossOfSignal_down hup hawake)
  · exact completes_down (f := fun d => d.lockLost p.val) rfl (by decide) (lockLost_down hup hawake)
  · refine completes_down (f := fun d => d.degradeWindow p.val unc cor hiBer) rfl (by decide) ?_
    rw [degradeWindow_eq hup unc cor hiBer hfec, if_pos hmany]
    exact dropLink_down (((linked_windowTaken unc cor).linkUp _).trans hup) 3
  · exact completes_onDev (f := fun d => d.degradeWindow p.val unc cor hiBer) rfl (degradeWindow_keeps hup unc cor hiBer hfec hfew)
  · refine completes_down (f := fun d => d.degradeWindow p.val unc cor hiBer) rfl (by decide) ?_
    rw [degradeWindow_noFec hup unc cor hiBer hfec, if_pos hbad]
    exact dropLink_down hup 3
  · refine completes_onDev (f := fun d => d.degradeWindow p.val unc cor hiBer) rfl ?_
    rw [State.onDev, degradeWindow_noFec hup unc cor hiBer hfec, if_neg (by simp [hgood])]
  · obtain ⟨hdown, hresult⟩ := quadRestart_down hup hmode htest
    have haccess : s.dev.quadAccess p.val (fun d => d.quadRestart p.val) = s.dev.quadRestart p.val := by
      rw [Dev.quadAccess, Dev.reachFast, if_pos hreach, if_pos hport]
    refine completes_onDev (f := fun d => d.quadAccess p.val (fun d => d.quadRestart p.val)) rfl ?_
    rw [onDev_dev, haccess]
    exact ⟨hdown.link, hdown.cause, hresult⟩

end Sys2Proof.Proofs


/-! SUPPORT. What the operations of the lanes and of discovery leave in the registers of a lane, a quad and a partner. -/

namespace Sys2Proof.Laws

open Sys2Proof.Machine Sys2Proof.Safety

variable {d : Dev}

theorem each_get {α : Type} {g : Fld} {u : Nat} {f : Dev → α → Dev} (h : ∀ e a, (f e a).get g u = e.get g u) (l : List α) (d : Dev) :
    (d.each l f).get g u = d.get g u := by
  unfold Dev.each
  induction l generalizing d with
  | nil => rfl
  | cons a l ih => exact (ih (f d a)).trans (h d a)

/-! ## LANE_STAT -/

theorem laneBit_same {f : Fld} (b : Bool) (l : Nat) (h : f.lo + f.width ≤ 32) (ha : apart F.LANE_STAT_CHANGED f = true) (hw : f.width = 1) :
    (d.laneBit f b l).flag f l = b := flag_setMark_same _ _ _ _ _ h (by decide) ha hw

theorem laneBit_apart {f g : Fld} (b : Bool) (l u : Nat) (h : f.lo + f.width ≤ 32) (ha : apart f g = true)
    (hc : apart F.LANE_STAT_CHANGED g = true) : (d.laneBit f b l).get g u = d.get g u := get_setMark_apart _ _ _ _ _ _ _ h (by decide) ha hc

/-- A start of a bring-up writes CDR_LOCK alone among a lane's bits. -/
theorem startBring_lane {g : Fld} (hreg : g.reg = .LANE_STAT) (ha : apart F.LANE_STAT_CDR_LOCK g = true)
    (hc : apart F.LANE_STAT_CHANGED g = true) (p u : Nat) : (d.startBring p).get g u = d.get g u := by
  have hptu (x : Dev) : (x.refreshPtu p).get g u = x.get g u := (only_refreshPtu x p).get _ _ (by rw [hreg]; decide)
  have hquad (x : Dev) (n : Nat) : (x.quadSet F.LANE_QUAD_STAT_PHASE n p).get g u = x.get g u := by
    have honly : Only [] [.LANE_QUAD_STAT] x (x.quadSet F.LANE_QUAD_STAT_PHASE n p) := .quadSet .refl _ _ _ (by decide) (by decide)
    exact honly.get _ _ (by rw [hreg]; decide)
  have hport (x : Dev) (f : Port → Port) : (x.onPort p f).get g u = x.get g u := rfl
  have hlocks (x : Dev) (l : List Nat) : (x.each l (fun d l => d.laneBit F.LANE_STAT_CDR_LOCK false l)).get g u = x.get g u :=
    each_get (fun e l => laneBit_apart _ _ _ (by decide) ha hc) l x
  have hlpll : (d.when (d.portMode p != 0) (fun d => d.restartLpll (p / 8))).get g u = d.get g u := by
    cases d.portMode p != 0 with
    | true =>
      rw [when_true]
      exact (only_restartLpll _ _).get _ _ (by rw [hreg]; decide)
    | false => rw [when_false]
  unfold Dev.startBring
  dsimp only
  rw [hptu, hquad, hport, hlocks, hlpll]

/-! ## LANE_QUAD_CFG -/

/-- A new mode writes MODE alone of LANE_QUAD_CFG. -/
theorem newMode_cfg {g : Fld} (hreg : g.reg = .LANE_QUAD_CFG) (p mode u : Nat) :
    (d.newMode p mode).get g u = (((d.endSleep p).when ((d.set F.LANE_QUAD_CFG_MODE mode p).portMode p = 0)
      (·.disqualify (4 + p) 6)).portDown p 6 |>.set F.LANE_QUAD_CFG_MODE mode p).get g u := by
  have hlanes (x : Dev) : (x.each (quadLanes p) (fun d l => (d.setWord .LANE_TEST l 0).laneBit F.LANE_STAT_CHK_LOCK false l)).get g u = x.get g u := by
    refine each_get (fun e l => ?_) _ x
    have honly : Only [] [.LANE_TEST, .LANE_STAT] e ((e.setWord .LANE_TEST l 0).laneBit F.LANE_STAT_CHK_LOCK false l) :=
      .laneBit (.setWord .refl _ _ _ (by decide)) _ _ _ (by decide) (by decide)
    exact honly.get _ _ (by rw [hreg]; decide)
  have hplls (x : Dev) (off : Prop) [Decidable off] : (if off then x else (x.restartLpll (p / 8)).startInternal (5 + p / 8)).get g u = x.get g u := by
    split
    · rfl
    · rw [(only_startInternal _ _).get _ _ (by rw [hreg]; decide), (only_restartLpll _ _).get _ _ (by rw [hreg]; decide)]
  unfold Dev.newMode
  dsimp only
  rw [(only_judgeBanks _).get _ _ (by rw [hreg]; decide), (only_refreshPower _ _).get _ _ (by rw [hreg]; decide),
    (only_startBring _ _).get _ _ (by rw [hreg]; decide), hplls, (only_lanesOff _ _).get _ _ (by rw [hreg]; decide), hlanes]

theorem newMode_before {g : Fld} (hreg : g.reg = .LANE_QUAD_CFG) (p u : Nat) (off : Bool) :
    (((d.endSleep p).when off (·.disqualify (4 + p) 6)).portDown p 6).get g u = d.get g u := by
  rw [(only_portDown _ _ _).get _ _ (by rw [hreg]; decide)]
  cases off with
  | true => rw [when_true, (only_disqualify _ _ _).get _ _ (by rw [hreg]; decide), (only_endSleep _ _).get _ _ (by rw [hreg]; decide)]
  | false => rw [when_false, (only_endSleep _ _).get _ _ (by rw [hreg]; decide)]

theorem newMode_mode (p mode : Nat) : (d.newMode p mode).get F.LANE_QUAD_CFG_MODE p = mode % 16 := by
  rw [newMode_cfg rfl, get_set_same _ _ _ _ (by decide)]
  rfl

theorem newMode_apart {g : Fld} (hreg : g.reg = .LANE_QUAD_CFG) (ha : apart F.LANE_QUAD_CFG_MODE g = true) (p mode u : Nat) :
    (d.newMode p mode).get g u = d.get g u := by
  rw [newMode_cfg hreg, get_set_apart _ _ _ _ _ _ (by decide) ha, newMode_before hreg]

/-- DISC_EN alone of LANE_QUAD_CFG is written with it. -/
theorem setDisc_cfg {g : Fld} (hreg : g.reg = .LANE_QUAD_CFG) (p u : Nat) (on : Bool) :
    (d.setDisc p on).get g u = (d.setB F.LANE_QUAD_CFG_DISC_EN on p).get g u := by
  unfold Dev.setDisc
  dsimp only
  split
  · rw [(only_losePartner _ _).get _ _ (by rw [hreg]; decide)]
    rfl
  · split
    · rw [(only_sendHello _ _).get _ _ (by rw [hreg]; decide)]
    · rfl

/-! ## A transmitter that is awake -/

/-- A copy joins the queue of a port with an awake transmitter. -/
theorem link_eq_of_awake {p : Nat} (h : d.txSleep p = 0) (q : Nat) (l : Link) : d.link p q l =
    ((d.onFrame l.fid (fun f => { f with refs := f.refs + 1 })).setQueue p q
      ((d.onFrame l.fid (fun f => { f with refs := f.refs + 1 })).queue p q ++ [l])).judgeIdle p := by
  have hidle (x : Dev) : (x.judgeIdle p).txSleep p = x.txSleep p := (only_judgeIdle x p).get _ _ (by decide)
  rw [Dev.link, wakeTx_of_awake]
  rw [hidle]
  exact h

theorem judgeIdle_sw (d : Dev) (p : Nat) : (d.judgeIdle p).sw = d.sw := (only_judgeIdle d p).part .sw (by decide)

theorem queue_judgeIdle (d : Dev) (r p q : Nat) : (d.judgeIdle r).queue p q = d.queue p q := by
  rw [Dev.queue, judgeIdle_sw, Dev.queue]

/-- The port's own state but for its idle period. -/
theorem judgeIdle_port (d : Dev) (p r : Nat) : ∃ a b, (d.judgeIdle p).port r = { d.port r with idleFrom := a, idleSpan := b } := by
  have hport (f : Port → Port) (hf : ∃ a b, f (d.port p) = { d.port p with idleFrom := a, idleSpan := b }) :
      ∃ a b, (d.onPort p f).port r = { d.port r with idleFrom := a, idleSpan := b } := by
    by_cases hr : r = p
    · obtain ⟨a, b, hab⟩ := hf
      refine ⟨a, b, ?_⟩
      rw [hr, ← hab, Dev.port, Dev.onPort, tabGet_tabSet_same]
    · refine ⟨(d.port r).idleFrom, (d.port r).idleSpan, ?_⟩
      rw [Dev.port, Dev.onPort, tabGet_tabSet_other _ _ _ _ hr]
      rfl
  unfold Dev.judgeIdle
  split
  · exact hport _ ⟨_, _, rfl⟩
  · exact hport _ ⟨_, _, rfl⟩
  · exact ⟨_, _, rfl⟩

/-- A frame of the module's own joins class 7 of a port with an awake transmitter. -/
theorem queueOwn_queue {p : Nat} (h : d.txSleep p = 0) (own : OwnKind) (b : List Byte) :
    ((d.queueOwn p own b).queue p 7).length = (d.queue p 7).length + 1 := by
  unfold Dev.queueOwn
  dsimp only
  rw [link_eq_of_awake (by exact h), queue_judgeIdle, queue_setQueue_same, List.length_append, List.length_singleton]
  rfl

theorem queueOwn_seq {p : Nat} (h : d.txSleep p = 0) (own : OwnKind) (b : List Byte) :
    ((d.queueOwn p own b).port p).helloSeq = (d.port p).helloSeq := by
  unfold Dev.queueOwn
  dsimp only
  rw [link_eq_of_awake (by exact h)]
  obtain ⟨a, c, hport⟩ := judgeIdle_port _ p p
  rw [hport]
  rfl

end Sys2Proof.Laws


namespace Sys2Proof.Laws

open Sys2Proof.Machine Sys2Proof.Safety

variable {d : Dev}

theorem linked_laneBit (d : Dev) (f : Fld) (b : Bool) (l : Nat) (hf : besideLink f = true) : Linked d (d.laneBit f b l) :=
  (Linked.refl d).laneBit _ _ _ hf

/-! ## A lane that fails -/

/-- The bits and reports of a retired lane. -/
def laneRetired (l : Nat) (d : Dev) : Dev :=
  ((((d.laneBit F.LANE_STAT_RETIRED true l).laneBit F.LANE_STAT_SIG_DET false l).laneBit F.LANE_STAT_CDR_LOCK false l).laneBit
    F.LANE_STAT_CHK_LOCK false l).logAdd 0x03 1 0 l

/-- The port of a used lane that fails goes down. -/
def lanePortFalls (l : Nat) (d : Dev) : Dev :=
  if (d.usedLanes (l / 4)).contains l then ((d.endSleep (l / 4)).portDown (l / 4) 7).startBring (l / 4) else d

theorem retireLane_eq (l : Nat) : d.retireLane l = lanePortFalls l (laneRetired l d).laneAlarm := rfl

theorem laneRetired_shows (l : Nat) : (laneRetired l d).flag F.LANE_STAT_RETIRED l = true ∧ (laneRetired l d).flag F.LANE_STAT_SIG_DET l = false := by
  have hlog (x : Dev) (g : Fld) (hg : g.reg = .LANE_STAT) : (x.logAdd 0x03 1 0 l).get g l = x.get g l :=
    (report_logAdd x _ _ _ _).get _ _ (by rw [hg]; rfl)
  have hlater {g : Fld} (x : Dev) (hcdr : apart F.LANE_STAT_CDR_LOCK g = true) (hchk : apart F.LANE_STAT_CHK_LOCK g = true)
      (hc : apart F.LANE_STAT_CHANGED g = true) :
      ((x.laneBit F.LANE_STAT_CDR_LOCK false l).laneBit F.LANE_STAT_CHK_LOCK false l).get g l = x.get g l := by
    rw [laneBit_apart _ _ _ (by decide) hchk hc, laneBit_apart _ _ _ (by decide) hcdr hc]
  constructor
  · rw [laneRetired, Dev.flag, hlog _ _ rfl, hlater _ (by decide) (by decide) (by decide), laneBit_apart _ _ _ (by decide) (by decide) (by decide),
      ← Dev.flag, laneBit_same _ _ (by decide) (by decide) (by decide)]
  · rw [laneRetired, Dev.flag, hlog _ _ rfl, hlater _ (by decide) (by decide) (by decide), ← Dev.flag,
      laneBit_same _ _ (by decide) (by decide) (by decide)]

theorem lanePortFalls_lane {g : Fld} (hreg : g.reg = .LANE_STAT) (ha : apart F.LANE_STAT_CDR_LOCK g = true)
    (hc : apart F.LANE_STAT_CHANGED g = true) (l : Nat) : (lanePortFalls l d).get g l = d.get g l := by
  unfold lanePortFalls
  split
  · rw [startBring_lane hreg ha hc, (only_portDown _ _ _).get _ _ (by rw [hreg]; decide), (only_endSleep _ _).get _ _ (by rw [hreg]; decide)]
  · rfl

/-- A field of the link that is set leaves the alarm of retired lanes. -/
theorem quadSet_retired {f : Fld} (hf : f ∈ linkFields) (v p : Nat) : (d.quadSet f v p).alarmOn .laneRetired = d.alarmOn .laneRetired :=
  alarmOn_of_word _ fun u => (only_quadSet' f hf v p).word _ u (by decide)

theorem portDown_retired (p cause : Nat) : (d.portDown p cause).alarmOn .laneRetired = d.alarmOn .laneRetired := by
  cases h : d.linkUp p with
  | true =>
    have honly (x : Dev) : Only [] [.LANE_QUAD_STAT] x (x.set F.LANE_QUAD_STAT_DOWN_CAUSE cause p) := .set .refl _ _ _ (by decide)
    rw [(linked_portDown h cause).retired, fallen, quadSet_retired (by decide), quadSet_retired (by decide),
      alarmOn_of_word _ fun u => (honly _).word _ u (by decide), quadSet_retired (by decide)]
  | false => rw [portDown_of_down h]

theorem lanePortFalls_retired (l : Nat) : (lanePortFalls l d).alarmOn .laneRetired = d.alarmOn .laneRetired := by
  unfold lanePortFalls
  split
  · obtain ⟨n, hn⟩ := linked_startBring ((d.endSleep (l / 4)).portDown (l / 4) 7) (l / 4)
    rw [hn.retired, quadSet_retired (by decide), portDown_retired, (linked_endSleep _ _).retired, quadSet_retired (by decide)]
  · rfl

theorem laneAlarm_get (g : Fld) (hg : g.reg = .LANE_STAT) (u : Nat) (d : Dev) : d.laneAlarm.get g u = d.get g u :=
  (report_cond d _ _).get _ _ (by rw [hg]; rfl)

theorem laneAlarm_on {l : Nat} (hl : l < 128) (h : d.flag F.LANE_STAT_RETIRED l = true) : d.laneAlarm.alarmOn .laneRetired = true := by
  have hany : (List.range 128).any (fun l => d.flag F.LANE_STAT_RETIRED l) = true := List.any_eq_true.2 ⟨l, List.mem_range.2 hl, h⟩
  rw [Dev.laneAlarm, hany]
  exact alarmOn_cond_true _ _

/-- What a lane that fails shows. -/
theorem retireLane_shows {l : Nat} (hl : l < 128) : (d.retireLane l).flag F.LANE_STAT_RETIRED l = true ∧
    (d.retireLane l).flag F.LANE_STAT_SIG_DET l = false ∧ (d.retireLane l).alarmOn .laneRetired = true := by
  obtain ⟨hretired, hdark⟩ := laneRetired_shows (d := d) l
  rw [retireLane_eq, lanePortFalls_retired]
  refine ⟨?_, ?_, laneAlarm_on hl hretired⟩
  · rw [Dev.flag, lanePortFalls_lane rfl (by decide) (by decide), laneAlarm_get _ rfl, ← Dev.flag, hretired]
  · rw [Dev.flag, lanePortFalls_lane rfl (by decide) (by decide), laneAlarm_get _ rfl, ← Dev.flag, hdark]

/-! ## Writes of a lane and of a quad -/

theorem only_polarity (d : Dev) (l : Nat) (v : Word) : Only [] [.LANE_CFG] d
    ((d.set F.LANE_CFG_TX_POL v.toNat l).set F.LANE_CFG_RX_POL (bitsOf v.toNat 1 1) l) := .set (.set .refl _ _ _ (by decide)) _ _ _ (by decide)

/-- Only the polarities of LANE_CFG are written. -/
theorem laneCfgWrite_get {g : Fld} (hg : g.reg = .LANE_CFG) (l : Nat) (v : Word) : (d.laneCfgWrite l v).get g l =
    ((d.set F.LANE_CFG_TX_POL v.toNat l).set F.LANE_CFG_RX_POL (bitsOf v.toNat 1 1) l).get g l := by
  unfold Dev.laneCfgWrite
  dsimp only
  split
  · rfl
  · split
    · exact (only_dropLink _ _ _).get _ _ (by rw [hg]; decide)
    · split
      · exact (only_startBring _ _).get _ _ (by rw [hg]; decide)
      · rfl

theorem mod_two_of_bits (n : Nat) : n % 2 ^ 1 = bitsOf n 0 1 := by simp [bitsOf]

theorem bits_mod (n lo width : Nat) : bitsOf n lo width % 2 ^ width = bitsOf n lo width := Nat.mod_eq_of_lt (bitsOf_lt n lo width)

theorem laneCfgWrite_shows (l : Nat) (v : Word) : (d.laneCfgWrite l v).get F.LANE_CFG_TX_POL l = bitsOf v.toNat 0 1 ∧
    (d.laneCfgWrite l v).get F.LANE_CFG_RX_POL l = bitsOf v.toNat 1 1 := by
  rw [laneCfgWrite_get rfl, laneCfgWrite_get rfl]
  constructor
  · rw [get_set_apart _ _ _ _ _ _ (by decide) (by decide), get_set_same _ _ _ _ (by decide)]
    exact mod_two_of_bits _
  · rw [get_set_same _ _ _ _ (by decide)]
    exact bits_mod _ 1 1

/-- The word of a test setting. -/
def testWord (v : Word) : Word := BitVec.ofNat 32 (bitsOf v.toNat 0 5 + bitsOf v.toNat 8 5 * 256 + bitsOf v.toNat 16 2 * 65536)

/-- What follows a new test setting of a used lane. -/
def testJudged (p : Nat) (before : Bool) (d : Dev) : Dev :=
  let now := d.portTest p
  let d := if now && !before then ((d.endSleep p).restartLpll (p / 8)).losePartner p else d
  let d :=
    if now then
      if d.loopPort p then
        if d.linkUp p then ((d.onPort p (fun s => { s with inLoop := true, helloDue := false })).ptpBegin p).judgePortCand p
        else d.startBring p
      else (d.portDown p 8).startBring p
    else if before then (d.portDown p 8).startBring p
    else d
  (d.refreshPower p).judgeBanks

theorem testJudged_get {g : Fld} (hg : g.reg = .LANE_TEST) (p u : Nat) (before : Bool) (d : Dev) : (testJudged p before d).get g u = d.get g u := by
  have hbegun (x : Dev) : (((x.onPort p (fun s => { s with inLoop := true, helloDue := false })).ptpBegin p).judgePortCand p).get g u = x.get g u := by
    rw [(only_judgePortCand _ _).get _ _ (by rw [hg]; decide), (only_ptpBegin _ _).get _ _ (by rw [hg]; decide)]
    rfl
  have hfall (x : Dev) : ((x.portDown p 8).startBring p).get g u = x.get g u := by
    rw [(only_startBring _ _).get _ _ (by rw [hg]; decide), (only_portDown _ _ _).get _ _ (by rw [hg]; decide)]
  have hquiet (x : Dev) (b : Bool) : (if b then ((x.endSleep p).restartLpll (p / 8)).losePartner p else x).get g u = x.get g u := by
    split
    · rw [(only_losePartner _ _).get _ _ (by rw [hg]; decide), (only_restartLpll _ _).get _ _ (by rw [hg]; decide),
        (only_endSleep _ _).get _ _ (by rw [hg]; decide)]
    · rfl
  have hstarts (x : Dev) (now : Bool) : (if now then
      if x.loopPort p then
        if x.linkUp p then ((x.onPort p (fun s => { s with inLoop := true, helloDue := false })).ptpBegin p).judgePortCand p
        else x.startBring p
      else (x.portDown p 8).startBring p
    else if before then (x.portDown p 8).startBring p
    else x).get g u = x.get g u := by
    split_ifs
    · exact hbegun x
    · exact (only_startBring _ _).get _ _ (by rw [hg]; decide)
    · exact hfall x
    · exact hfall x
    · rfl
  unfold testJudged
  dsimp only
  rw [(only_judgeBanks _).get _ _ (by rw [hg]; decide), (only_refreshPower _ _).get _ _ (by rw [hg]; decide), hstarts, hquiet]

/-- An allowed test setting is taken. -/
theorem laneTestWrite_get {g : Fld} (hg : g.reg = .LANE_TEST) {l : Nat} {v : Word} (hused : (d.usedLanes (l / 4)).contains l = true)
    (hgen : patOk (d.portMode (l / 4)) (bitsOf v.toNat 0 4) = true) (hchk : patOk (d.portMode (l / 4)) (bitsOf v.toNat 8 4) = true) :
    (d.laneTestWrite l v).get g l = bitsOf (testWord v).toNat g.lo g.width := by
  have hlock (x : Dev) (b : Bool) : (if b then x else x.laneBit F.LANE_STAT_CHK_LOCK false l).get g l = x.get g l := by
    have honly : Only [] [.LANE_STAT] x (x.laneBit F.LANE_STAT_CHK_LOCK false l) := .laneBit .refl _ _ _ (by decide) (by decide)
    split
    · rfl
    · exact honly.get _ _ (by rw [hg]; decide)
  have hword : (d.setWord .LANE_TEST l (testWord v)).get g l = bitsOf (testWord v).toNat g.lo g.width := by
    rw [Dev.get, hg, word_setWord_same]
  have hmem : l ∈ d.usedLanes (l / 4) := by simpa using hused
  unfold Dev.laneTestWrite
  dsimp only
  rw [if_neg (by simp [hmem, hgen, hchk]), if_neg (by simp [hmem])]
  exact (testJudged_get hg (l / 4) l (d.portTest (l / 4)) _).trans ((hlock _ _).trans hword)

/-- What a write of LANE_QUAD_CFG does before it judges the mode. -/
def quadCfgBegun (p : Nat) (v : Word) (d : Dev) : Dev :=
  let d := (d.set F.LANE_QUAD_CFG_DEGRADE_CW (clampNat 1 255 (bitsOf v.toNat 8 8)) p).set F.LANE_QUAD_CFG_LPI_EN (bitsOf v.toNat 5 1) p
  let d := (d.setDisc p (bitsOf v.toNat 4 1 == 1)).judgeSleep p
  d.when (bitsOf v.toNat 5 1 == 0 && d.rxSleep p == 5) (·.rxWaking p)

theorem quadCfgWrite_eq (p : Nat) (v : Word) : d.quadCfgWrite p v =
    if (if 11 ≤ bitsOf v.toNat 0 4 then 0 else bitsOf v.toNat 0 4) = (quadCfgBegun p v d).portMode p then
      (quadCfgBegun p v d).set F.LANE_QUAD_CFG_MODE (bitsOf v.toNat 0 4) p
    else (quadCfgBegun p v d).newMode p (bitsOf v.toNat 0 4) := rfl

theorem quadCfgBegun_cfg {g : Fld} (hg : g.reg = .LANE_QUAD_CFG) (p : Nat) (v : Word) : (quadCfgBegun p v d).get g p =
    (((d.set F.LANE_QUAD_CFG_DEGRADE_CW (clampNat 1 255 (bitsOf v.toNat 8 8)) p).set F.LANE_QUAD_CFG_LPI_EN (bitsOf v.toNat 5 1) p).setB
      F.LANE_QUAD_CFG_DISC_EN (bitsOf v.toNat 4 1 == 1) p).get g p := by
  have hwaking (x : Dev) (b : Bool) : (x.when b (·.rxWaking p)).get g p = x.get g p := by
    cases b with
    | true =>
      rw [when_true]
      exact (only_rxWaking x p).get _ _ (by rw [hg]; decide)
    | false => rw [when_false]
  rw [quadCfgBegun, hwaking, (only_judgeSleep _ _).get _ _ (by rw [hg]; decide), setDisc_cfg hg]

/-- LANE_QUAD_CFG after a write of it. -/
theorem quadCfgWrite_shows (p : Nat) (v : Word) : (d.quadCfgWrite p v).get F.LANE_QUAD_CFG_MODE p = bitsOf v.toNat 0 4 ∧
    (d.quadCfgWrite p v).get F.LANE_QUAD_CFG_DISC_EN p = bitsOf v.toNat 4 1 ∧
    (d.quadCfgWrite p v).get F.LANE_QUAD_CFG_LPI_EN p = bitsOf v.toNat 5 1 ∧
    (d.quadCfgWrite p v).get F.LANE_QUAD_CFG_DEGRADE_CW p = max 1 (bitsOf v.toNat 8 8) := by
  have hmode {g : Fld} (hg : g.reg = .LANE_QUAD_CFG) (ha : apart F.LANE_QUAD_CFG_MODE g = true) (x : Dev) (c : Prop) [Decidable c] :
      (if c then x.set F.LANE_QUAD_CFG_MODE (bitsOf v.toNat 0 4) p else x.newMode p (bitsOf v.toNat 0 4)).get g p = x.get g p := by
    split
    · exact get_set_apart _ _ _ _ _ _ (by decide) ha
    · exact newMode_apart hg ha _ _ _
  have htaken (x : Dev) (c : Prop) [Decidable c] : (if c then x.set F.LANE_QUAD_CFG_MODE (bitsOf v.toNat 0 4) p
      else x.newMode p (bitsOf v.toNat 0 4)).get F.LANE_QUAD_CFG_MODE p = bitsOf v.toNat 0 4 := by
    split
    · rw [get_set_same _ _ _ _ (by decide)]
      exact bits_mod _ 0 4
    · rw [newMode_mode]
      exact bits_mod _ 0 4
  have hbit : bitNat (bitsOf v.toNat 4 1 == 1) = bitsOf v.toNat 4 1 := by
    have := bitsOf_lt v.toNat 4 1
    obtain h | h : bitsOf v.toNat 4 1 = 0 ∨ bitsOf v.toNat 4 1 = 1 := by omega
    · rw [h]; rfl
    · rw [h]; rfl
  rw [quadCfgWrite_eq]
  refine ⟨htaken _ _, ?_, ?_, ?_⟩
  · rw [hmode rfl (by decide), quadCfgBegun_cfg rfl, Dev.setB, get_set_same _ _ _ _ (by decide), hbit]
    exact bits_mod _ 4 1
  · rw [hmode rfl (by decide), quadCfgBegun_cfg rfl, get_setB_apart _ _ _ _ _ _ (by decide) (by decide), get_set_same _ _ _ _ (by decide)]
    exact bits_mod _ 5 1
  · rw [hmode rfl (by decide), quadCfgBegun_cfg rfl, get_setB_apart _ _ _ _ _ _ (by decide) (by decide),
      get_set_apart _ _ _ _ _ _ (by decide) (by decide), get_set_same _ _ _ _ (by decide)]
    have := bitsOf_lt v.toNat 8 8
    have hclamp : clampNat 1 255 (bitsOf v.toNat 8 8) = max 1 (bitsOf v.toNat 8 8) := by
      unfold clampNat
      split_ifs <;> omega
    have hfits : max 1 (bitsOf v.toNat 8 8) < 256 := by omega
    rw [hclamp]
    exact Nat.mod_eq_of_lt hfits

/-- The mode is kept until it is judged. -/
theorem quadCfgBegun_mode (p : Nat) (v : Word) : (quadCfgBegun p v d).portMode p = d.portMode p := by
  have hget : (quadCfgBegun p v d).get F.LANE_QUAD_CFG_MODE p = d.get F.LANE_QUAD_CFG_MODE p := by
    rw [quadCfgBegun_cfg rfl, get_setB_apart _ _ _ _ _ _ (by decide) (by decide), get_set_apart _ _ _ _ _ _ (by decide) (by decide),
      get_set_apart _ _ _ _ _ _ (by decide) (by decide)]
  rw [Dev.portMode, hget, Dev.portMode]

end Sys2Proof.Laws

namespace Sys2Proof.Proofs

open Sys2Proof.Machine Sys2Proof.Safety Sys2Proof.Laws

variable {s : State} {d : Dev} {p : Nat}

/-! ## Lanes -/

theorem laneFault_shows {l : Nat} (hl : l < 128) (hon : d.fastOn = true) (hlane : l < d.lanes) (hgood : d.flag F.LANE_STAT_RETIRED l = false) :
    (d.laneFault l).flag F.LANE_STAT_RETIRED l = true ∧ (d.laneFault l).flag F.LANE_STAT_SIG_DET l = false ∧
      (d.laneFault l).alarmOn .laneRetired = true := by
  rw [Dev.laneFault, if_neg (by simp [hon, hgood]; omega)]
  exact retireLane_shows hl

theorem only_laneStat (d : Dev) (b : Bool) (l : Nat) : Only [] [.LANE_STAT] d (d.laneBit F.LANE_STAT_CHK_LOCK b l) :=
  .laneBit .refl _ _ _ (by decide) (by decide)

theorem chkLockGained_shows (l : LaneId) (h : s.dev.flag F.LANE_TEST_CHK_EN l.val = true) : Completes (.chkLockGained l) s (fun t =>
    t.dev.flag F.LANE_STAT_CHK_LOCK l.val = true ∧ Frame [] [.LANE_STAT] s t) := by
  have hgained : s.dev.chkGained l.val = s.dev.laneBit F.LANE_STAT_CHK_LOCK true l.val := if_pos h
  refine completes_onDev (f := fun d => d.chkGained l.val) rfl ?_
  rw [onDev_dev, hgained]
  refine ⟨laneBit_same _ _ (by decide) (by decide) (by decide), ?_, onDev_flash s _, onDev_pending s _⟩
  rw [onDev_dev, hgained]
  exact only_laneStat _ _ _

theorem only_chkLost (d : Dev) (l errors : Nat) (lost : Bool) : Only [] [.LANE_STAT, .LANE_PRBS_ERR] d
    ((d.set F.LANE_PRBS_ERR_ERRS (min 0xFFFFFFFF (d.get F.LANE_PRBS_ERR_ERRS l + errors)) l).laneBit F.LANE_STAT_CHK_LOCK (!lost) l) :=
  .laneBit (.set .refl _ _ _ (by decide)) _ _ _ (by decide) (by decide)

theorem chkLockLost_shows (l : LaneId) (n : Nat) (lost : Bool) (h : s.dev.flag F.LANE_STAT_CHK_LOCK l.val = true) :
    Completes (.chkLockLost l ⟨n, lost⟩) s (fun t => t.dev.flag F.LANE_STAT_CHK_LOCK l.val = !lost ∧
      t.dev.get F.LANE_PRBS_ERR_ERRS l.val = min 0xFFFFFFFF (s.dev.get F.LANE_PRBS_ERR_ERRS l.val + n) ∧
      Frame [] [.LANE_STAT, .LANE_PRBS_ERR] s t) := by
  have hlost : s.dev.chkLost l.val n lost = (s.dev.set F.LANE_PRBS_ERR_ERRS (min 0xFFFFFFFF (s.dev.get F.LANE_PRBS_ERR_ERRS l.val + n))
      l.val).laneBit F.LANE_STAT_CHK_LOCK (!lost) l.val := if_neg (by simp [h])
  have hbit (x : Dev) := (only_laneStat x (!lost) l.val).get F.LANE_PRBS_ERR_ERRS l.val (by decide)
  have hfits : min 0xFFFFFFFF (s.dev.get F.LANE_PRBS_ERR_ERRS l.val + n) < 2 ^ 32 := by omega
  refine completes_onDev (f := fun d => d.chkLost l.val n lost) rfl ?_
  rw [onDev_dev, hlost]
  refine ⟨laneBit_same _ _ (by decide) (by decide) (by decide), ?_, ?_, onDev_flash s _, onDev_pending s _⟩
  · rw [hbit, get_set_same _ _ _ _ (by decide)]
    exact Nat.mod_eq_of_lt hfits
  · rw [onDev_dev, hlost]
    exact only_chkLost _ _ _ _

/-- A write that the quad's port takes. -/
theorem quadAccess_taken (hreach : d.fastReach = true) (hport : d.hasPort p = true) (f : Dev → Dev) : d.quadAccess p f = f d := by
  rw [Dev.quadAccess, Dev.reachFast, if_pos hreach, if_pos hport]

theorem testWord_bits (v : Word) : bitsOf (testWord v).toNat 0 4 = bitsOf v.toNat 0 4 ∧ bitsOf (testWord v).toNat 4 1 = bitsOf v.toNat 4 1 ∧
    bitsOf (testWord v).toNat 8 4 = bitsOf v.toNat 8 4 ∧ bitsOf (testWord v).toNat 12 1 = bitsOf v.toNat 12 1 ∧
    bitsOf (testWord v).toNat 16 2 = bitsOf v.toNat 16 2 := by
  have hlow := bitsOf_lt v.toNat 0 5
  have hmid := bitsOf_lt v.toNat 8 5
  have htop := bitsOf_lt v.toNat 16 2
  have hword : (testWord v).toNat = bitsOf v.toNat 0 5 + bitsOf v.toNat 8 5 * 256 + bitsOf v.toNat 16 2 * 65536 := by
    rw [testWord, BitVec.toNat_ofNat]
    omega
  rw [hword]
  unfold bitsOf at *
  refine ⟨?_, ?_, ?_, ?_, ?_⟩ <;> omega

/-! ## Discovery -/

/-- A HELLO of a port with an awake transmitter. -/
theorem sendHello_shows (hup : d.portUp p = true) (hdisc : d.flag F.LANE_QUAD_CFG_DISC_EN p = true) (hcp : d.sys.cpStopped = false)
    (hawake : d.txSleep p = 0) : ((d.sendHello p).port p).helloSeq = ((d.port p).helloSeq + 1) % 65536 ∧
      ((d.sendHello p).queue p 7).length = (d.queue p 7).length + 1 := by
  have hspent (x : Dev) (b : Bool) (f : Port → Port) : ((if b then x.spendFree else x).onPort p f).txSleep p = x.txSleep p ∧
      ((if b then x.spendFree else x).onPort p f).port p = f (x.port p) ∧
      ((if b then x.spendFree else x).onPort p f).queue p 7 = x.queue p 7 := by
    cases b <;> exact ⟨rfl, by rw [Dev.port, Dev.onPort, tabGet_tabSet_same]; rfl, rfl⟩
  rw [Dev.sendHello, if_neg (by simp [hup, hdisc, hcp]), if_neg (by rw [hawake]; simp [asleep])]
  dsimp only
  obtain ⟨hsleep, hport, hqueue⟩ := hspent d (d.domainOf p).isNone (fun s => { s with helloSeq := (s.helloSeq + 1) % 65536, helloDue := false })
  rw [queueOwn_seq (hsleep.trans hawake), queueOwn_queue (hsleep.trans hawake), hport, hqueue]
  exact ⟨rfl, rfl⟩

/-- The partner that a HELLO names is shown. -/
def partnerShown (p : Nat) (b : List Byte) (d : Dev) : Dev :=
  let id := beNat (slice b 18 8)
  let caps := byteAt b 29
  let flags := byteAt b 30
  let d := (d.set F.LANE_PARTNER_ID_HI_ID (id / 2 ^ 32) p).set F.LANE_PARTNER_ID_LO_ID id p
  let d := ((d.set F.LANE_PARTNER_INFO_PORT (byteAt b 26) p).set F.LANE_PARTNER_INFO_VARIANT (byteAt b 27) p).set
    F.LANE_PARTNER_INFO_MODE (byteAt b 28) p
  let d := ((d.set F.LANE_PARTNER_INFO_CAPS caps p).set F.LANE_PARTNER_INFO_TIME_STATE flags p).set
    F.LANE_PARTNER_INFO_RX_SLEEP_OK (bitsOf flags 3 1) p
  (d.set F.LANE_PARTNER_DOM_DOMAIN (byteAt b 31) p).set F.LANE_PARTNER_DOM_IF_VERSION (beNat (slice b 42 2)) p

/-- The link shows it too. -/
def partnerFound (p : Nat) (b : List Byte) (d : Dev) : Dev :=
  (((partnerShown p b d).quadSet F.LANE_QUAD_STAT_DISCOVERED 1 p).quadSet F.LANE_QUAD_STAT_PARTNER_SYNT (bitsOf (byteAt b 29) 0 1) p).quadSet
    F.LANE_QUAD_STAT_SELF_LOOP 0 p

theorem partnerShown_get (b : List Byte) : (partnerShown p b d).get F.LANE_PARTNER_ID_LO_ID p = beNat (slice b 18 8) % 2 ^ 32 ∧
    (partnerShown p b d).get F.LANE_PARTNER_INFO_PORT p = byteAt b 26 % 32 ∧ (partnerShown p b d).get F.LANE_PARTNER_INFO_CAPS p = byteAt b 29 % 256 ∧
    (partnerShown p b d).get F.LANE_PARTNER_DOM_DOMAIN p = byteAt b 31 % 256 := by
  have hpast {f g : Fld} (x : Dev) (v : Nat) (hw : f.lo + f.width ≤ 32) (ha : apart f g = true) : (x.set f v p).get g p = x.get g p :=
    get_set_apart _ _ _ _ _ _ hw ha
  unfold partnerShown
  dsimp only
  refine ⟨?_, ?_, ?_, ?_⟩
  · rw [hpast _ _ (by decide) (by decide), hpast _ _ (by decide) (by decide), hpast _ _ (by decide) (by decide), hpast _ _ (by decide) (by decide),
      hpast _ _ (by decide) (by decide), hpast _ _ (by decide) (by decide), hpast _ _ (by decide) (by decide), hpast _ _ (by decide) (by decide),
      get_set_same _ _ _ _ (by decide)]
    rfl
  · rw [hpast _ _ (by decide) (by decide), hpast _ _ (by decide) (by decide), hpast _ _ (by decide) (by decide), hpast _ _ (by decide) (by decide),
      hpast _ _ (by decide) (by decide), hpast _ _ (by decide) (by decide), hpast _ _ (by decide) (by decide), get_set_same _ _ _ _ (by decide)]
    rfl
  · rw [hpast _ _ (by decide) (by decide), hpast _ _ (by decide) (by decide), hpast _ _ (by decide) (by decide), hpast _ _ (by decide) (by decide),
      get_set_same _ _ _ _ (by decide)]
    rfl
  · rw [hpast _ _ (by decide) (by decide), get_set_same _ _ _ _ (by decide)]
    rfl

theorem only_partnerFound (b : List Byte) : Only [] [.LANE_QUAD_STAT] (partnerShown p b d) (partnerFound p b d) :=
  .quadSet (.quadSet (.quadSet .refl _ _ _ (by decide) (by decide)) _ _ _ (by decide) (by decide)) _ _ _ (by decide) (by decide)

/-- A port with discovery takes a HELLO. -/
theorem helloReceived_eq (b : List Byte) (hup : d.portUp p = true) (hdisc : d.flag F.LANE_QUAD_CFG_DISC_EN p = true)
    (hcp : d.sys.cpStopped = false) (hok : discOk b true 1 = true) : d.helloReceived p b true =
      if d.wakeCores.ownFrame p b then d.wakeCores.selfLoop p else ((partnerFound p b d.wakeCores).judgeSleep p).judgeL1 p := by
  rw [Dev.helloReceived, if_neg (by simp [hup, hdisc, hcp, hok])]
  rfl

theorem ownFrame_wakeCores (b : List Byte) : d.wakeCores.ownFrame p b = d.ownFrame p b := by
  have hident : d.wakeCores.ident = d.ident := (only_wakeCores d).part .ident (by decide)
  rw [Dev.ownFrame, Dev.clockId, hident, Dev.ownFrame, Dev.clockId]

theorem flag_of_one {f : Fld} {u : Nat} (h : d.get f u = 1) : d.flag f u = true := by rw [Dev.flag, h]; rfl
theorem flag_of_zero {f : Fld} {u : Nat} (h : d.get f u = 0) : d.flag f u = false := by rw [Dev.flag, h]; rfl

theorem selfLoop_shows : (d.selfLoop p).flag F.LANE_QUAD_STAT_SELF_LOOP p = true ∧
    (d.selfLoop p).flag F.LANE_QUAD_STAT_DISCOVERED p = d.flag F.LANE_QUAD_STAT_DISCOVERED p ∧ (d.selfLoop p).rxSleep p = d.rxSleep p := by
  have hlinked : Linked (d.quadSet F.LANE_QUAD_STAT_SELF_LOOP 1 p) (d.selfLoop p) := (Linked.refl _).portEvent _ _ _ _
  refine ⟨flag_of_one ?_, ?_, ?_⟩
  · rw [hlinked.get _ (by decide), quadSet_get_same (by decide)]
    rfl
  · rw [Dev.flag, hlinked.get _ (by decide), quadSet_get_apart (by decide) (by decide) (by decide), Dev.flag]
  · rw [hlinked.rxSleep, Dev.rxSleep, quadSet_get_apart (by decide) (by decide) (by decide), Dev.rxSleep]

theorem byteAt_mod (b : List Byte) (i : Nat) : byteAt b i % 256 = byteAt b i := Nat.mod_eq_of_lt (by unfold byteAt; exact BitVec.isLt _)

/-- What a partner that is found shows. -/
theorem partnerFound_shows (b : List Byte) (x : Dev) (hx : x = ((partnerFound p b d).judgeSleep p).judgeL1 p) :
    x.flag F.LANE_QUAD_STAT_DISCOVERED p = true ∧ x.get F.LANE_PARTNER_ID_LO_ID p = beNat (slice b 18 8) % 2 ^ 32 ∧
    x.get F.LANE_PARTNER_INFO_PORT p = byteAt b 26 % 32 ∧ x.get F.LANE_PARTNER_INFO_CAPS p = byteAt b 29 ∧
    x.get F.LANE_PARTNER_DOM_DOMAIN p = byteAt b 31 ∧ x.flag F.LANE_QUAD_STAT_SELF_LOOP p = false := by
  have hlinked : Linked (partnerFound p b d) x := hx ▸ (linked_judgeSleep _ p).trans (linked_judgeL1 _ p)
  have hwords (g : Fld) (hg : g.reg ∈ [Reg.LANE_PARTNER_ID_LO, .LANE_PARTNER_INFO, .LANE_PARTNER_DOM]) : x.get g p = (partnerShown p b d).get g p := by
    simp only [List.mem_cons, List.not_mem_nil, or_false] at hg
    rw [hx, (only_judgeL1 _ _).get _ _ (by obtain h | h | h := hg <;> (rw [h]; decide)),
      (only_judgeSleep _ _).get _ _ (by obtain h | h | h := hg <;> (rw [h]; decide)),
      (only_partnerFound b).get _ _ (by obtain h | h | h := hg <;> (rw [h]; decide))]
  obtain ⟨hid, hport, hcaps, hdomain⟩ := partnerShown_get (d := d) (p := p) b
  refine ⟨flag_of_one ?_, (hwords _ (by decide)).trans hid, (hwords _ (by decide)).trans hport,
    (hwords _ (by decide)).trans (hcaps.trans (byteAt_mod b 29)), (hwords _ (by decide)).trans (hdomain.trans (byteAt_mod b 31)), flag_of_zero ?_⟩
  · have hsynt (y : Dev) (v : Nat) : Linked y (y.quadSet F.LANE_QUAD_STAT_PARTNER_SYNT v p) := (Linked.refl y).quadSet _ _ _ (by decide)
    rw [hlinked.get _ (by decide), partnerFound, quadSet_get_apart (by decide) (by decide) (by decide), (hsynt _ _).get _ (by decide),
      quadSet_get_same (by decide)]
    rfl
  · rw [hlinked.get _ (by decide), partnerFound, quadSet_get_same (by decide)]
    rfl

/-- What a lost partner leaves. -/
theorem losePartner_shows : (d.losePartner p).flag F.LANE_QUAD_STAT_DISCOVERED p = false ∧ (d.losePartner p).word .LANE_PARTNER_ID_HI p = 0 ∧
    (d.losePartner p).word .LANE_PARTNER_ID_LO p = 0 ∧ (d.losePartner p).word .LANE_PARTNER_INFO p = 0 ∧
    (d.losePartner p).word .LANE_PARTNER_DOM p = 0 := by
  have hjudged (x : Dev) (r : Reg) (hr : r ∈ [Reg.LANE_PARTNER_ID_HI, .LANE_PARTNER_ID_LO, .LANE_PARTNER_INFO, .LANE_PARTNER_DOM]) :
      ((x.judgeSleep p).judgeL1 p).word r p = x.word r p := by
    simp only [List.mem_cons, List.not_mem_nil, or_false] at hr
    rw [(only_judgeL1 _ _).word _ _ (by obtain h | h | h | h := hr <;> (rw [h]; decide)),
      (only_judgeSleep _ _).word _ _ (by obtain h | h | h | h := hr <;> (rw [h]; decide))]
  have hother (x : Dev) {q r : Reg} (h : r ≠ q) : (x.setWord q p 0).word r p = x.word r p := word_setWord_other _ _ fun hh => h hh.1
  refine ⟨flag_of_zero ?_, ?_, ?_, ?_, ?_⟩
  · rw [(linked_losePartner d p).get _ (by decide), quadSet_get_same (by decide)]
    rfl
  · rw [Dev.losePartner, hjudged _ _ (by decide), hother _ (by decide), hother _ (by decide), hother _ (by decide), word_setWord_same]
  · rw [Dev.losePartner, hjudged _ _ (by decide), hother _ (by decide), hother _ (by decide), word_setWord_same]
  · rw [Dev.losePartner, hjudged _ _ (by decide), hother _ (by decide), word_setWord_same]
  · rw [Dev.losePartner, hjudged _ _ (by decide), word_setWord_same]

/-- Settles O20: a write, a HELLO or a fault shows its fields, and what follows it leaves them: the footprint of each operation
names no register of the lane, the quad or the partner that it shows. -/
theorem lanesAndDiscovery : Obligations.LanesAndDiscovery := by
  refine ⟨fun s l v n lost => ⟨fun hon hlane hgood => ?_, chkLockGained_shows l, chkLockLost_shows l n lost, fun hreach hport => ⟨?_,
    fun hused hgen hchk => ?_⟩⟩, fun s p v hreach hport => ⟨?_, ?_⟩, fun s p b hup hdisc hcp => ⟨fun hon hawake => ?_, fun hok => ?_, fun hdisc hrx => ?_⟩⟩
  · exact completes_onDev (f := fun d => d.laneFault l.val) rfl (laneFault_shows l.isLt hon hlane hgood)
  · refine completes_onDev (f := fun d => d.quadAccess (l.val / 4) (fun d => d.laneCfgWrite l.val v)) rfl ?_
    rw [onDev_dev, quadAccess_taken hreach hport]
    exact laneCfgWrite_shows l.val v
  · obtain ⟨hgenPat, hgenEn, hchkPat, hchkEn, hloop⟩ := testWord_bits v
    refine completes_onDev (f := fun d => d.quadAccess (l.val / 4) (fun d => d.laneTestWrite l.val v)) rfl ?_
    rw [onDev_dev, quadAccess_taken hreach hport, laneTestWrite_get rfl hused hgen hchk, laneTestWrite_get rfl hused hgen hchk,
      laneTestWrite_get rfl hused hgen hchk, laneTestWrite_get rfl hused hgen hchk, laneTestWrite_get rfl hused hgen hchk]
    exact ⟨hgenPat, hgenEn, hchkPat, hchkEn, hloop⟩
  · refine completes_onDev (f := fun d => d.quadAccess p.val (fun d => d.quadCfgWrite p.val v)) rfl ?_
    rw [onDev_dev, quadAccess_taken hreach hport]
    exact quadCfgWrite_shows p.val v
  · refine completes_onDev (f := fun d => d.quadAccess p.val (fun d => d.quadCfgWrite p.val v)) rfl ?_
    rw [onDev_dev, quadAccess_taken hreach hport]
    exact quadCfgWrite_shows p.val v
  · refine completes_onDev (f := fun d => d.helloSend p.val) rfl ?_
    rw [onDev_dev, Dev.helloSend, if_pos hon]
    exact sendHello_shows hup hdisc hcp hawake
  · refine completes_onDev (f := fun d => d.helloReceived p.val b true) rfl ?_
    rw [onDev_dev, helloReceived_eq b hup hdisc hcp hok, ownFrame_wakeCores]
    split
    · obtain ⟨hloop, hdiscovered, -⟩ := selfLoop_shows (d := s.dev.wakeCores) (p := p.val)
      exact ⟨hloop, hdiscovered.trans ((only_wakeCores _).flag _ _ (by decide))⟩
    · exact partnerFound_shows b _ rfl
  · have hlost : s.dev.partnerLost p.val = s.dev.losePartner p.val := if_pos (by simp [hdisc, hrx, asleep])
    refine completes_onDev (f := fun d => d.partnerLost p.val) rfl ?_
    rw [onDev_dev, hlost]
    exact losePartner_shows

end Sys2Proof.Proofs


/-! SUPPORT. The depths of sleep that a port may take, and the entries and wakes of its directions. -/

namespace Sys2Proof.Laws

open Sys2Proof.Machine Sys2Proof.Safety

variable {d e : Dev}

/-! ## What the conditions of sleep read -/

/-- Registers that the conditions of sleep read, but for LANE_QUAD_STAT. -/
def sleepRegs : List Reg := [.LANE_PARTNER_INFO, .LANE_PARTNER_DOM, .LANE_TEST, .LANE_QUAD_CFG, .PRT_PTP_CFG, .PWR_LAT, .PWR_PORT_CFG, .PWR_SLEEP_CFG,
  .PWR_STAT, .TB_HB_STAT]

/-- Two devices under the same conditions of sleep. -/
structure SameSleep (d e : Dev) : Prop where
  word : ∀ r ∈ sleepRegs, ∀ u, e.word r u = d.word r u
  quad : ∀ g ∈ linkFields, ∀ u, e.get g u = d.get g u
  tx : ∀ p, e.txSleep p = d.txSleep p
  mir : e.mir = d.mir
  sys : e.sys = d.sys
  ports : e.ports = d.ports
  insts : e.insts = d.insts

namespace SameSleep

variable (h : SameSleep d e)
include h

theorem get (g : Fld) (hg : g.reg ∈ sleepRegs) (u : Nat) : e.get g u = d.get g u := by rw [Dev.get, h.word _ hg, Dev.get]
theorem flag (g : Fld) (hg : g.reg ∈ sleepRegs) (u : Nat) : e.flag g u = d.flag g u := by rw [Dev.flag, h.get g hg, Dev.flag]
theorem port (p : Nat) : e.port p = d.port p := by rw [Dev.port, h.ports, Dev.port]
theorem linkUp (p : Nat) : e.linkUp p = d.linkUp p := by rw [Dev.linkUp, Dev.flag, h.quad _ (by decide), Dev.linkUp, Dev.flag]
theorem portMode (p : Nat) : e.portMode p = d.portMode p := by rw [Dev.portMode, h.get _ (by decide), Dev.portMode]
theorem portTest (p : Nat) : e.portTest p = d.portTest p := by
  have hlane (l : Nat) : e.laneTest l = d.laneTest l := by
    rw [Dev.laneTest, h.flag _ (by decide), h.flag _ (by decide), h.get _ (by decide), Dev.laneTest]
  rw [Dev.portTest, Dev.usedLanes, h.portMode, Dev.portTest, Dev.usedLanes]
  simp only [hlane]
theorem prSleep (p : Nat) : e.prSleep p = d.prSleep p := by
  rw [Dev.prSleep, Dev.flag, h.quad _ (by decide), h.get _ (by decide), Dev.prSleep, Dev.flag]
theorem smcRuns : e.smcRuns = d.smcRuns := by
  rw [Dev.smcRuns, Dev.fastOn, Dev.fast, h.get _ (by decide), h.sys, Dev.smcRuns, Dev.fastOn, Dev.fast]
theorem domainOf (p : Nat) : e.domainOf p = d.domainOf p := by
  have hinst (i : Nat) : e.inst i = d.inst i := by rw [Dev.inst, h.insts, Dev.inst]
  rw [Dev.domainOf, Dev.instOf, h.get _ (by decide), h.port, Dev.domainOf, Dev.instOf]
  simp only [hinst]
theorem retentive (p depth : Nat) : e.retentive p depth = d.retentive p depth := by
  have hpartner : e.partnerSleeps p depth = d.partnerSleeps p depth := by
    rw [Dev.partnerSleeps, h.linkUp, h.prSleep, h.flag _ (by decide), h.get _ (by decide), Dev.partnerSleeps]
  have htime : e.timeSettled p = d.timeSettled p := by
    rw [Dev.timeSettled, h.mir, h.get _ (by decide), h.domainOf, h.get _ (by decide), Dev.timeSettled]
  rw [Dev.retentive, hpartner, htime, h.portTest, h.flag _ (by decide), h.smcRuns, Dev.retentive]
theorem tolerates (p wake : Nat) : e.tolerates p wake = d.tolerates p wake := by
  have heff : e.tEff p = d.tEff p := by
    unfold Dev.tEff
    simp only [h.get F.PWR_LAT_TOL (by decide)]
  rw [Dev.tolerates, heff, Dev.tolerates]
theorem permits (p depth : Nat) : e.permits p depth = d.permits p depth := by
  have hlpi : e.lpiMay p = d.lpiMay p := by
    rw [Dev.lpiMay, h.linkUp, h.prSleep, h.flag _ (by decide), h.portMode, h.smcRuns, Dev.lpiMay]
  unfold Dev.permits
  simp only [h.retentive, h.tolerates, hlpi, h.portMode]
theorem depthOk (p depth : Nat) : e.depthOk p depth = d.depthOk p depth := by
  unfold Dev.depthOk
  rw [h.get _ (by decide)]
  simp only [h.permits, h.retentive]
theorem pickDepth (p : Nat) : e.pickDepth p = d.pickDepth p := by
  unfold Dev.pickDepth
  rw [h.get _ (by decide)]
  simp only [h.permits, h.retentive, h.get F.PWR_SLEEP_CFG_DEEP_MIN (by decide), h.port]

end SameSleep

/-- What PWR_PORT_STAT shows is read by none of them. -/
theorem refreshPower_get {g : Fld} (hreg : g.reg = .LANE_QUAD_STAT) (ha : apart F.LANE_QUAD_STAT_SLEEP_OK g = true)
    (hc : apart F.LANE_QUAD_STAT_CHANGED g = true) (p u : Nat) : (d.refreshPower p).get g u = d.get g u := by
  have hcond (x : Dev) (a : Alarm) (b : Bool) : (x.cond a b).get g u = x.get g u := (report_cond x a b).get _ _ (by rw [hreg]; rfl)
  have hmark (x : Dev) (f ch : Fld) (v : Nat) (hf : f.reg = .PWR_PORT_STAT) (hch : ch.reg = .PWR_PORT_STAT) :
      (x.setMark f v ch p).get g u = x.get g u := by
    have honly : Only [] [.PWR_PORT_STAT] x (x.setMark f v ch p) := .setMark .refl _ _ _ _ (by rw [hf]; decide) (by rw [hch]; decide)
    exact honly.get _ _ (by rw [hreg]; decide)
  have hset (x : Dev) (v : Nat) : (x.set F.PWR_PORT_STAT_T_EFF v p).get g u = x.get g u := by
    have honly : Only [] [.PWR_PORT_STAT] x (x.set F.PWR_PORT_STAT_T_EFF v p) := .set .refl _ _ _ (by decide)
    exact honly.get _ _ (by rw [hreg]; decide)
  unfold Dev.refreshPower
  dsimp only
  rw [hcond, Dev.quadSet, get_setMark_apart _ _ _ _ _ _ _ (by decide) (by decide) ha hc, hmark _ _ _ _ rfl rfl, hmark _ _ _ _ rfl rfl,
    hmark _ _ _ _ rfl rfl, hset]

theorem sameSleep_refreshPower (d : Dev) (p : Nat) : SameSleep d (d.refreshPower p) := by
  have honly := only_refreshPower d p
  have hbeside : ∀ r ∈ sleepRegs, r ∉ [Reg.ALM_ACTIVE, .ALM_LATCH, .LANE_QUAD_STAT, .PWR_PORT_STAT] := by decide
  exact ⟨fun r hr u => honly.word _ _ (hbeside r hr), fun g hg u => (linked_refreshPower d p).get g hg u,
    fun q => refreshPower_get rfl (by decide) (by decide) p q, honly.part .mir (by decide), honly.sys (by decide),
    honly.part .ports (by decide), honly.part .insts (by decide)⟩

/-! ## Directions of a port -/

theorem tx_shown {p v : Nat} (hv : v < 8) : (d.quadSet F.LANE_QUAD_STAT_TX_SLEEP v p).txSleep p = v :=
  (get_setMark_same _ _ _ _ _ (by decide) (by decide) (by decide)).trans (Nat.mod_eq_of_lt hv)

theorem rx_shown {p v : Nat} (hv : v < 8) : (d.quadSet F.LANE_QUAD_STAT_RX_SLEEP v p).rxSleep p = v :=
  (quadSet_get_same (by decide) v p).trans (Nat.mod_eq_of_lt hv)

theorem onPort_txSleep (d : Dev) (p q : Nat) (f : Port → Port) : (d.onPort p f).txSleep q = d.txSleep q := rfl
theorem onPort_rxSleep (d : Dev) (p q : Nat) (f : Port → Port) : (d.onPort p f).rxSleep q = d.rxSleep q := rfl

theorem port_of_ports (h : e.ports = d.ports) (p : Nat) : e.port p = d.port p := by rw [Dev.port, h, Dev.port]

/-- The directions of the ports and their own state are as before. -/
structure Resting (d e : Dev) : Prop where
  tx : ∀ p, e.txSleep p = d.txSleep p
  rx : ∀ p, e.rxSleep p = d.rxSleep p
  ports : e.ports = d.ports

theorem Resting.trans {f : Dev} (h : Resting d e) (k : Resting e f) : Resting d f :=
  ⟨fun p => (k.tx p).trans (h.tx p), fun p => (k.rx p).trans (h.rx p), k.ports.trans h.ports⟩
theorem Resting.port (h : Resting d e) (p : Nat) : e.port p = d.port p := port_of_ports h.ports p

theorem Resting.of_only {P : List Part} {R : List Reg} (h : Only P R d e) (hp : .ports ∉ P) (hr : .LANE_QUAD_STAT ∉ R) : Resting d e :=
  ⟨fun p => h.get _ p hr, fun p => h.get _ p hr, h.part .ports hp⟩
theorem Resting.of_report (h : Report d e) : Resting d e := ⟨fun p => h.get _ p rfl, fun p => h.get _ p rfl, h.ports⟩

theorem resting_judgeBanks (d : Dev) : Resting d d.judgeBanks := .of_only (only_judgeBanks d) (by decide) (by decide)
theorem resting_refreshPtu (d : Dev) (p : Nat) : Resting d (d.refreshPtu p) := .of_only (only_refreshPtu d p) (by decide) (by decide)
theorem resting_restartLpll (d : Dev) (k : Nat) : Resting d (d.restartLpll k) := .of_only (only_restartLpll d k) (by decide) (by decide)
theorem resting_burstPhase (d : Dev) (p : Nat) (x : Int) : Resting d (d.burstPhase p x) := .of_only (only_burstPhase d p x) (by decide) (by decide)
theorem resting_countPort (d : Dev) (p k n : Nat) : Resting d (d.countPort p k n) := .of_report (report_countPort d p k n)
theorem resting_portEvent (d : Dev) (p v i n : Nat) : Resting d (d.portEvent p v i n) := .of_report (report_portEvent d p v i n)

/-- The direction is shown and the port's own state changed. -/
theorem resting_shown {f : Fld} {p v : Nat} {g : Port → Port} (h : Resting ((d.quadSet f v p).onPort p g) e) :
    e.txSleep p = (d.quadSet f v p).txSleep p ∧ e.rxSleep p = (d.quadSet f v p).rxSleep p ∧ e.port p = g (d.port p) := by
  have hports : (d.quadSet f v p).ports = d.ports := (Only.refl.quadSet (P := []) (R := [f.reg, .LANE_QUAD_STAT]) f v p (by simp) (by simp)).part
    .ports (by decide)
  rw [h.tx p, h.rx p, h.port p, onPort_txSleep, onPort_rxSleep, onPort_same, port_of_ports hports]
  exact ⟨rfl, rfl, rfl⟩

/-- A direction that goes to sleep. -/
theorem txAsleep_shows {p depth : Nat} (h : depth < 8) : (d.txAsleep p depth).txSleep p = depth ∧ ((d.txAsleep p depth).port p).txDepth = depth ∧
    ((d.txAsleep p depth).port p).txEntry = none := by
  unfold Dev.txAsleep
  dsimp only
  obtain ⟨htx, -, hport⟩ := resting_shown (((resting_countPort _ p 42 1).trans (resting_portEvent _ p
    (if depth = 2 then 0x023 else if depth = 3 then 0x024 else 0x025) 0 1)).trans ((resting_refreshPtu _ p).trans (resting_judgeBanks _)))
    (d := d) (f := F.LANE_QUAD_STAT_TX_SLEEP) (v := depth) (p := p) (g := fun s => { s with txDepth := depth, txEntry := none })
  rw [htx, hport]
  exact ⟨tx_shown h, rfl, rfl⟩

/-- A direction that sleeps wakes and keeps its depth. -/
theorem wakeTx_of_asleep {p : Nat} (h : asleep (d.txSleep p) = true) : (d.wakeTx p).txSleep p = 4 ∧
    ((d.wakeTx p).port p).txDepth = d.txSleep p := by
  have hne : d.txSleep p ≠ 1 := fun hh => by rw [hh] at h; exact absurd h (by decide)
  rw [Dev.wakeTx, if_neg hne, if_pos h]
  obtain ⟨htx, -, hport⟩ := resting_shown (((resting_countPort _ p 43 1).trans (resting_restartLpll _ (p / 8))).trans (resting_judgeBanks _))
    (d := d) (f := F.LANE_QUAD_STAT_TX_SLEEP) (v := 4) (p := p) (g := fun s => { s with txDepth := d.txSleep p, txLead := false })
  rw [htx, hport]
  exact ⟨tx_shown (by decide), rfl⟩

/-- An entry not yet taken is cancelled. -/
theorem wakeTx_of_entering {p : Nat} (h : d.txSleep p = 1) : (d.wakeTx p).txSleep p = 0 ∧ ((d.wakeTx p).port p).txEntry = none := by
  have hrest : Resting ((d.quadSet F.LANE_QUAD_STAT_TX_SLEEP 0 p).onPort p (fun s => { s with txDepth := 0, txEntry := none, txLead := false }))
      (d.wakeTx p) := by
    rw [Dev.wakeTx, if_pos h]
    exact ⟨fun _ => rfl, fun _ => rfl, rfl⟩
  obtain ⟨htx, -, hport⟩ := resting_shown hrest
  rw [htx, hport]
  exact ⟨tx_shown (by decide), rfl⟩

/-- A depth that is no longer permitted wakes its direction. -/
theorem judgeSleep_of_barred {p : Nat} (h : asleep (d.txSleep p) = true) (hbar : d.depthOk p (d.txSleep p) = false) :
    (d.judgeSleep p).txSleep p = 4 := by
  have hsame := sameSleep_refreshPower d p
  have hne : d.txSleep p ≠ 1 := fun hh => by rw [hh] at h; exact absurd h (by decide)
  unfold Dev.judgeSleep
  dsimp only
  rw [hsame.tx, hsame.depthOk, if_neg hne, h, hbar, if_pos (by simp)]
  exact (wakeTx_of_asleep (by rw [hsame.tx]; exact h)).1

end Sys2Proof.Laws


namespace Sys2Proof.Proofs

open Sys2Proof.Machine Sys2Proof.Safety Sys2Proof.Laws

variable {s : State} {d e : Dev} {p : Nat}

/-! ## The decision to sleep -/

/-- A device whose power has been judged anew has the same frames. -/
theorem idle_of_parts (hsw : e.sw = d.sw) (hports : e.ports = d.ports) (hptus : e.ptus = d.ptus) : e.idle p = d.idle p := by
  have hqueue (q : Nat) : e.queue p q = d.queue p q := by rw [Dev.queue, hsw, Dev.queue]
  have hnotice (f : Nat) : e.isNotice f = d.isNotice f := by rw [Dev.isNotice, Dev.frame, hsw, Dev.isNotice, Dev.frame]
  have htx : e.txNow p = d.txNow p := by rw [Dev.txNow, hsw, Dev.txNow]
  have hheld : e.heldFor p = d.heldFor p := by rw [Dev.heldFor, Dev.allFrames, hsw, Dev.heldFor, Dev.allFrames]
  have hptu : e.ptu p = d.ptu p := by rw [Dev.ptu, hptus, Dev.ptu]
  rw [Dev.idle, Dev.noFrames, htx, hheld, hptu, port_of_ports hports, Dev.idle, Dev.noFrames]
  simp only [hqueue, hnotice]

/-- The device that the decision reads. -/
def judgedPower (p : Nat) (d : Dev) : Dev := if d.fastOn then d.refreshPower p else d

theorem judgedPower_same (p : Nat) (d : Dev) : SameSleep d (judgedPower p d) ∧ (judgedPower p d).sw = d.sw ∧ (judgedPower p d).ptus = d.ptus := by
  have honly := only_refreshPower d p
  unfold judgedPower
  split
  · exact ⟨sameSleep_refreshPower d p, honly.part .sw (by decide), honly.part .ptus (by decide)⟩
  · exact ⟨⟨fun _ _ _ => rfl, fun _ _ _ => rfl, fun _ => rfl, rfl, rfl, rfl, rfl⟩, rfl, rfl⟩

/-- An idle transmitter without frames takes the depth picked. -/
theorem sleepDecision_of_idle (hup : d.linkUp p = true) (hawake : d.txSleep p = 0) (hidle : d.idle p = true)
    (hempty : ∀ q < 8, d.queue p q = []) (htx : d.txNow p = none) : d.sleepDecision p = match d.pickDepth p with
      | 0 => judgedPower p d
      | 5 => (judgedPower p d).txAsleep p 5
      | depth => (judgedPower p d).sendNoticeFrame p depth := by
  obtain ⟨hsame, hsw, hptus⟩ := judgedPower_same p d
  have hqueue (q : Nat) : (judgedPower p d).queue p q = d.queue p q := by rw [Dev.queue, hsw, Dev.queue]
  have htx' : (judgedPower p d).txNow p = none := by rw [Dev.txNow, hsw, ← Dev.txNow, htx]
  have hnone : (List.range 8).any (fun q => !((judgedPower p d).queue p q).isEmpty) = false := by
    simp only [List.any_eq_false, List.mem_range]
    intro q hq
    rw [hqueue, hempty q hq]
    decide
  have hgo : ¬((!(judgedPower p d).linkUp p || (judgedPower p d).txSleep p != 0 || !(judgedPower p d).idle p ||
      (List.range 8).any (fun q => !((judgedPower p d).queue p q).isEmpty) || ((judgedPower p d).txNow p).isSome) = true) := by
    rw [hsame.linkUp, hup, hsame.tx, hawake, idle_of_parts hsw hsame.ports hptus, hidle, hnone, htx']
    decide
  have hdecide : d.sleepDecision p = match (judgedPower p d).pickDepth p with
      | 0 => judgedPower p d
      | 5 => (judgedPower p d).txAsleep p 5
      | depth => (judgedPower p d).sendNoticeFrame p depth := if_neg hgo
  rw [hdecide, hsame.pickDepth]

/-- A notice that joins the queues of a port with an awake transmitter. -/
theorem sendNoticeFrame_shows (depth : Nat) (hawake : d.txSleep p = 0) : ((d.sendNoticeFrame p depth).queue p 7).length = (d.queue p 7).length + 1 ∧
    (d.sendNoticeFrame p depth).txSleep p = 0 := by
  have hspent (x : Dev) (b : Bool) (f : Port → Port) : ((if b then x.spendFree else x).onPort p f).txSleep p = x.txSleep p ∧
      ((if b then x.spendFree else x).onPort p f).queue p 7 = x.queue p 7 := by
    cases b <;> exact ⟨rfl, rfl⟩
  refine ⟨?_, (linked_sendNoticeFrame d p depth).awake p hawake⟩
  unfold Dev.sendNoticeFrame
  dsimp only
  obtain ⟨hsleep, hqueue⟩ := hspent d (d.domainOf p).isNone (fun s => { s with helloSeq := (s.helloSeq + 1) % 65536 })
  rw [queueOwn_queue (hsleep.trans hawake), hqueue]

/-! ## Notices and entries -/

/-- A notice of a depth with an entry time ahead. -/
theorem noticeReceived_eq {b : List Byte} {T : Ticks} (hup : d.portUp p = true) (hok : discOk b true 2 = true)
    (hrx : d.rxSleep p = 0 ∨ d.rxSleep p = 1) (hdepth : byteAt b 32 = 2 ∨ byteAt b 32 = 3) (hmay : d.rxMaySleep p = true)
    (htime : entryTime d.now (beNat (slice b 34 4)) (beNat (slice b 38 4)) = T) (hahead : d.now < T) : d.noticeReceived p b true =
      if d.ownFrame p b then d.selfLoop p
      else (d.quadSet F.LANE_QUAD_STAT_RX_SLEEP 1 p).onPort p (fun s => { s with rxDepth := byteAt b 32, rxEntry := some T }) := by
  have hgo : ¬((!d.portUp p || !discOk b true 2 || !(d.rxSleep p == 0 || d.rxSleep p == 1) || !(byteAt b 32 == 2 || byteAt b 32 == 3)) = true) := by
    rw [hup, hok]
    obtain h | h := hrx <;> obtain k | k := hdepth <;> (rw [h, k]; decide)
  have hlate : ¬((decide (T ≤ d.now) || !d.rxMaySleep p) = true) := by
    rw [hmay]
    simp
    omega
  rw [Dev.noticeReceived, if_neg hgo, htime, if_neg hlate]

/-- The notice that a receiver takes. -/
theorem noticeTaken_shows (depth : Nat) (T : Ticks) :
    ((d.quadSet F.LANE_QUAD_STAT_RX_SLEEP 1 p).onPort p (fun s => { s with rxDepth := depth, rxEntry := some T })).rxSleep p = 1 ∧
    (((d.quadSet F.LANE_QUAD_STAT_RX_SLEEP 1 p).onPort p (fun s => { s with rxDepth := depth, rxEntry := some T })).port p).rxDepth = depth ∧
    (((d.quadSet F.LANE_QUAD_STAT_RX_SLEEP 1 p).onPort p (fun s => { s with rxDepth := depth, rxEntry := some T })).port p).rxEntry = some T := by
  rw [onPort_rxSleep, onPort_same]
  exact ⟨rx_shown (by decide), rfl, rfl⟩

theorem sleepEntry_tx (r : Bool) (h : d.txSleep p = 1) (hdepth : (d.port p).txDepth < 8) : (d.sleepEntry p .tx r).txSleep p = (d.port p).txDepth ∧
    ((d.sleepEntry p .tx r).port p).txEntry = none := by
  have hentry : d.sleepEntry p .tx r = d.txAsleep p (d.port p).txDepth := if_pos h
  obtain ⟨htx, -, hnone⟩ := txAsleep_shows (d := d) (p := p) hdepth
  rw [hentry]
  exact ⟨htx, hnone⟩

/-- The receiver enters the depth planned. -/
theorem sleepEntry_rx (h : d.rxSleep p = 1) (hdepth : (d.port p).rxDepth < 8) (hmay : d.rxMaySleep p = true) :
    (d.sleepEntry p .rx false).rxSleep p = (d.port p).rxDepth ∧ ((d.sleepEntry p .rx false).port p).missed = 0 := by
  have hentry : d.sleepEntry p .rx false = (((d.quadSet F.LANE_QUAD_STAT_RX_SLEEP (d.port p).rxDepth p).onPort p
      (fun s => { s with rxEntry := none, missed := 0 })).refreshPtu p).judgeBanks := by
    rw [Dev.sleepEntry, if_neg (by simp [h]), if_neg (by simp [h]), if_neg (by simp [hmay])]
  obtain ⟨-, hrx, hport⟩ := resting_shown ((resting_refreshPtu ((d.quadSet F.LANE_QUAD_STAT_RX_SLEEP (d.port p).rxDepth p).onPort p
    (fun s => { s with rxEntry := none, missed := 0 })) p).trans (resting_judgeBanks _))
  rw [hentry, hrx, hport]
  exact ⟨rx_shown hdepth, rfl⟩

/-- The receiver whose partner sends low-power idle. -/
theorem sleepEntry_lpi (h : d.rxSleep p = 0) (hmay : d.lpiMay p = true) : (d.sleepEntry p .rx false).rxSleep p = 5 := by
  have hentry : d.sleepEntry p .rx false = ((d.quadSet F.LANE_QUAD_STAT_RX_SLEEP 5 p).refreshPtu p).judgeBanks := by
    rw [Dev.sleepEntry, if_pos (by simp [h, hmay])]
  rw [hentry, (resting_judgeBanks _).rx, (resting_refreshPtu _ p).rx, rx_shown (by decide)]

/-- An entry that finds the stream running is cancelled. -/
theorem sleepEntry_runs (h : d.rxSleep p = 1) : (d.sleepEntry p .rx true).rxSleep p = 0 ∧ ((d.sleepEntry p .rx true).port p).rxEntry = none := by
  have hentry : d.sleepEntry p .rx true = ((d.quadSet F.LANE_QUAD_STAT_RX_SLEEP 0 p).onPort p
      (fun s => { s with rxDepth := 0, rxEntry := none })).portEvent p 0x020 := by
    rw [Dev.sleepEntry, if_neg (by simp), if_neg (by simp [h]), if_pos (by simp)]
    rfl
  obtain ⟨-, hrx, hport⟩ := resting_shown (resting_portEvent ((d.quadSet F.LANE_QUAD_STAT_RX_SLEEP 0 p).onPort p
    (fun s => { s with rxDepth := 0, rxEntry := none })) p 0x020 0 1)
  rw [hentry, hrx, hport]
  exact ⟨rx_shown (by decide), rfl⟩

/-- A SHALLOW transmitter that may go DEEP wakes to name it. -/
theorem deepening_shows (h : d.txSleep p = 2) (hpin : d.get F.PWR_PORT_CFG_TX_PIN p = 0) (hdeep : d.permits p 3 = true) :
    (d.deepening p).txSleep p = 4 ∧ ((d.deepening p).port p).deepens = true := by
  have hgo : d.deepening p = ((d.wakeTx p).onPort p (fun s => { s with deepens := true })).portEvent p 0x022 :=
    if_neg (by rw [h, hpin, hdeep]; decide)
  have hrest := resting_portEvent ((d.wakeTx p).onPort p (fun s => { s with deepens := true })) p 0x022 0 1
  rw [hgo, hrest.tx, hrest.port, onPort_txSleep, onPort_same]
  exact ⟨(wakeTx_of_asleep (by rw [h]; decide)).1, rfl⟩

/-- Settles O21: an entry shows its direction and its depth, and what follows leaves both (`Resting`). -/
theorem sleepEntries : Obligations.SleepEntries := by
  intro s p b T
  refine ⟨fun hup hawake hidle hempty htx => ⟨fun hpick => ?_, fun hpick => ?_⟩, fun hup hok hrx hdepth hmay htime hahead => ?_,
    fun r h hdepth => ?_, fun h hdepth hmay => ?_, fun h hmay => ?_, fun h => ?_, fun h hpin hdeep => ?_⟩
  · obtain ⟨htx', hdepth, -⟩ := txAsleep_shows (d := judgedPower p.val s.dev) (p := p.val) (depth := 5) (by decide)
    refine completes_onDev (f := fun d => d.sleepDecision p.val) rfl ?_
    rw [onDev_dev, sleepDecision_of_idle hup hawake hidle hempty htx, hpick]
    exact ⟨htx', hdepth⟩
  · obtain ⟨hsame, hsw, -⟩ := judgedPower_same p.val s.dev
    have hnone : (judgedPower p.val s.dev).queue p.val 7 = [] := by rw [Dev.queue, hsw, ← Dev.queue, hempty 7 (by decide)]
    obtain ⟨hqueue, hsleep⟩ := sendNoticeFrame_shows (s.dev.pickDepth p.val) ((hsame.tx p.val).trans hawake)
    rw [hnone] at hqueue
    refine completes_onDev (f := fun d => d.sleepDecision p.val) rfl ?_
    rw [onDev_dev, sleepDecision_of_idle hup hawake hidle hempty htx]
    obtain h | h := hpick
    · rw [h] at hqueue hsleep ⊢
      exact ⟨hqueue, hsleep⟩
    · rw [h] at hqueue hsleep ⊢
      exact ⟨hqueue, hsleep⟩
  · refine completes_onDev (f := fun d => d.noticeReceived p.val b true) rfl ?_
    rw [onDev_dev, noticeReceived_eq hup hok hrx hdepth hmay htime hahead]
    split
    · obtain ⟨hloop, -, hrest⟩ := selfLoop_shows (d := s.dev) (p := p.val)
      exact ⟨hloop, hrest⟩
    · exact noticeTaken_shows _ T
  · exact completes_onDev (f := fun d => d.sleepEntry p.val .tx r) rfl (sleepEntry_tx r h hdepth)
  · exact completes_onDev (f := fun d => d.sleepEntry p.val .rx false) rfl (sleepEntry_rx h hdepth hmay)
  · exact completes_onDev (f := fun d => d.sleepEntry p.val .rx false) rfl (sleepEntry_lpi h hmay)
  · exact completes_onDev (f := fun d => d.sleepEntry p.val .rx true) rfl (sleepEntry_runs h)
  · exact completes_onDev (f := fun d => d.deepening p.val) rfl (deepening_shows h hpin hdeep)

end Sys2Proof.Proofs


namespace Sys2Proof.Proofs

open Sys2Proof.Machine Sys2Proof.Safety Sys2Proof.Laws

variable {s : State} {d : Dev} {p : Nat}

/-! ## Bursts -/

theorem burstLead_tx (h : d.txSleep p = 3) : ((d.burstLead p .tx).port p).txLead = true ∧ (d.burstLead p .tx).txSleep p = 3 := by
  have hlead : d.burstLead p .tx = (d.restartLpll (p / 8)).onPort p (fun s => { s with txLead := true }) := if_pos h
  rw [hlead, onPort_same, onPort_txSleep, (resting_restartLpll _ _).tx]
  exact ⟨rfl, h⟩

theorem burstLead_rx (h : d.rxSleep p = 3) : ((d.burstLead p .rx).port p).rxLead = true ∧ (d.burstLead p .rx).rxSleep p = 3 := by
  have hlead : d.burstLead p .rx = (d.restartLpll (p / 8)).onPort p (fun s => { s with rxLead := true }) := if_pos h
  rw [hlead, onPort_same, onPort_rxSleep, (resting_restartLpll _ _).rx]
  exact ⟨rfl, h⟩

theorem refreshBurst_shallow (h : d.txSleep p = 2) : ((d.refreshBurst p).port p).txLead = false ∧ (d.refreshBurst p).txSleep p = 2 := by
  have hburst : d.refreshBurst p = (d.onPort p (fun s => { s with txLead := false })).countPort p 44 := if_pos (by simp [h])
  have hrest := resting_countPort (d.onPort p (fun s => { s with txLead := false })) p 44 1
  rw [hburst, hrest.port, hrest.tx, onPort_same, onPort_txSleep]
  exact ⟨rfl, h⟩

section
variable (hrx : d.rxSleep p = 2 ∨ d.rxSleep p = 3)
include hrx

theorem rx_bursts : ¬((!(d.rxSleep p == 2 || d.rxSleep p == 3)) = true) := by
  obtain h | h := hrx <;> (rw [h]; decide)

theorem burstReceived_shows {x : Int} (hx : x.natAbs ≤ 16) : ((d.burstReceived p x).port p).missed = 0 ∧
    ((d.burstReceived p x).port p).rxLead = false ∧ (d.burstReceived p x).rxSleep p = d.rxSleep p := by
  have hburst : d.burstReceived p x = (d.onPort p (fun s => { s with missed := 0, rxLead := false })).burstPhase p x :=
    (if_neg (rx_bursts hrx)).trans (if_neg (by omega))
  have hrest := resting_burstPhase (d.onPort p (fun s => { s with missed := 0, rxLead := false })) p x
  rw [hburst, hrest.port, hrest.rx, onPort_same, onPort_rxSleep]
  exact ⟨rfl, rfl, rfl⟩

/-- A burst that is missed is counted. -/
def missCounted (p : Nat) (d : Dev) : Dev := (d.onPort p (fun s => { s with missed := s.missed + 1, rxLead := false })).countPort p 45

omit hrx in
theorem missCounted_port : ((missCounted p d).port p).missed = (d.port p).missed + 1 := by
  rw [missCounted, (resting_countPort _ p 45 1).port, onPort_same]

omit hrx in
theorem linked_missCounted : Linked d (missCounted p d) := ((Linked.refl d).onPort _ _).countPort _ _ _

theorem burstMissed_eq : d.burstMissed p = if 2 ≤ (d.port p).missed + 1 then (missCounted p d).dropLink p 4 else missCounted p d := by
  have hmissed : d.burstMissed p = if 2 ≤ ((missCounted p d).port p).missed then (missCounted p d).dropLink p 4 else missCounted p d :=
    if_neg (rx_bursts hrx)
  rw [hmissed, missCounted_port]

theorem burstMissed_first (h : (d.port p).missed = 0) : ((d.burstMissed p).port p).missed = 1 ∧ (d.burstMissed p).linkUp p = d.linkUp p := by
  rw [burstMissed_eq hrx, h, if_neg (by decide), missCounted_port, h, linked_missCounted.linkUp]
  exact ⟨rfl, rfl⟩

theorem burstMissed_second (h : (d.port p).missed = 1) (hup : d.linkUp p = true) : Down p 4 (d.burstMissed p) := by
  rw [burstMissed_eq hrx, h, if_pos (by decide)]
  exact dropLink_down ((linked_missCounted.linkUp p).trans hup) 4

end

/-! ## Wakes -/

/-- The transmitter is awake, its guard having ended. -/
def guardEnded (p : Nat) (d : Dev) : Dev := (d.quadSet F.LANE_QUAD_STAT_TX_SLEEP 0 p).onPort p (fun s => { s with txDepth := 0, deepens := false })

theorem linked_guardEnded : Linked d (guardEnded p d) := ((Linked.refl d).sleepless p).onPort _ _

theorem guardEnded_awake : (guardEnded p d).txSleep p = 0 := by
  rw [guardEnded, onPort_txSleep, tx_shown (by decide)]

theorem linked_measureLpi (d : Dev) (p dir new : Nat) : Linked d (d.measureLpi p dir new) := .of_only (only_measureLpi d p dir new) (by decide)

theorem linked_measured (d : Dev) (p dir new : Nat) (lpi : Prop) [Decidable lpi] :
    Linked d (if lpi then d.measureLpi p dir new else d.measureWake p dir new) := by
  split
  · exact linked_measureLpi d p dir new
  · exact linked_measureWake d p dir new

/-- What a transmitter sends first once it is awake. -/
theorem linked_firstSent (d : Dev) (p : Nat) (deeper due : Bool) : Linked d
    (if deeper then d.sendNoticeFrame p 3 else if due then (d.flushPtp p).sendHello p else d.flushPtp p) := by
  split
  · exact linked_sendNoticeFrame _ _ _
  · split
    · exact (linked_flushPtp _ _).trans (linked_sendHello _ _)
    · exact linked_flushPtp _ _

/-- What an end of the wake guard leads to leaves an awake transmitter awake. -/
theorem wakeGuardEnd_awake (lat : LatMeas) (h : d.txSleep p = 4) (hagree : lat.agree = true) : (d.wakeGuardEnd p lat).txSleep p = 0 := by
  have hlinked : Linked (guardEnded p d) (d.wakeGuardEnd p lat) := by
    have hquiet (x : Dev) : Linked x (x.refreshPtu p).judgeBanks := (linked_refreshPtu x p).trans (linked_judgeBanks _)
    rw [Dev.wakeGuardEnd, if_neg (by simp [h])]
    dsimp only
    split
    · exact hquiet _
    · rw [if_neg (by simp [hagree])]
      exact ((linked_measured (guardEnded p d) p 1 lat.tx ((d.port p).txDepth = 5)).trans (hquiet _)).trans (linked_firstSent _ p _ _)
  exact hlinked.awake p guardEnded_awake

theorem wakeGuardEnd_down (lat : LatMeas) (h : d.txSleep p = 4) (hup : d.linkUp p = true) (hagree : lat.agree = false) :
    Down p 5 (d.wakeGuardEnd p lat) := by
  have hstill : (guardEnded p d).linkUp p = true := (linked_guardEnded.linkUp p).trans hup
  have hend : d.wakeGuardEnd p lat = (guardEnded p d).dropLink p 5 := by
    rw [Dev.wakeGuardEnd, if_neg (by simp [h])]
    exact (if_neg (by rw [← guardEnded, hstill]; decide)).trans (if_pos (by simp [hagree]))
  rw [hend]
  exact dropLink_down hstill 5

/-- A sleeping receiver wakes and keeps its depth. -/
theorem rxWaking_shows : (d.rxWaking p).rxSleep p = 4 ∧ ((d.rxWaking p).port p).rxDepth = d.rxSleep p ∧ ((d.rxWaking p).port p).missed = 0 := by
  have hrest : Resting ((d.quadSet F.LANE_QUAD_STAT_RX_SLEEP 4 p).onPort p (fun s => { s with rxDepth := d.rxSleep p, rxLead := false, missed := 0 }))
      (d.rxWaking p) := ((resting_restartLpll _ _).trans (resting_refreshPtu _ p)).trans (resting_judgeBanks _)
  obtain ⟨-, hrx, hport⟩ := resting_shown hrest
  rw [hrx, hport]
  exact ⟨rx_shown (by decide), rfl, rfl⟩

theorem rxWake_detected (x : Int) (lat : LatMeas) (h : asleep (d.rxSleep p) = true) : (d.rxWake p x lat .detected).rxSleep p = 4 ∧
    ((d.rxWake p x lat .detected).port p).rxDepth = d.rxSleep p ∧ ((d.rxWake p x lat .detected).port p).missed = 0 := by
  have hwake : d.rxWake p x lat .detected = if d.rxSleep p = 5 then d.rxWaking p else (d.rxWaking p).burstPhase p x := if_neg (by simp [h])
  rw [hwake]
  split
  · exact rxWaking_shows
  · rw [(resting_burstPhase _ _ _).rx, (resting_burstPhase _ _ _).port]
    exact rxWaking_shows

/-- The receiver is awake before its checks are judged. -/
def rxChecked (p : Nat) (d : Dev) : Dev := ((d.quadSet F.LANE_QUAD_STAT_RX_SLEEP 0 p).onPort p (fun s => { s with rxDepth := 0 })).refreshPtu p

theorem rxChecked_awake : (rxChecked p d).rxSleep p = 0 := by
  rw [rxChecked, (resting_refreshPtu _ p).rx, onPort_rxSleep, rx_shown (by decide)]

theorem rxChecked_linkUp : (rxChecked p d).linkUp p = d.linkUp p := by
  have hport (x : Dev) (f : Port → Port) : Linked x (x.onPort p f) := (Linked.refl x).onPort _ _
  rw [rxChecked, (linked_refreshPtu _ p).linkUp, (hport _ _).linkUp, Dev.linkUp, Dev.flag, quadSet_get_apart (by decide) (by decide) (by decide),
    ← Dev.flag, ← Dev.linkUp]

theorem rxWake_checked (x : Int) (lat : LatMeas) (ok : Bool) (h : d.rxSleep p = 4) : d.rxWake p x lat (.checked ok) =
    if (!lat.agree || (!decide ((d.port p).rxDepth = 5) && !ok)) = true then (rxChecked p d).dropLink p 5
    else if (d.port p).rxDepth = 5 then (rxChecked p d).measureLpi p 0 lat.rx else (rxChecked p d).measureWake p 0 lat.rx :=
  if_neg (by simp [h])

theorem rxWake_awake (x : Int) (lat : LatMeas) (h : d.rxSleep p = 4) (hagree : lat.agree = true) :
    (d.rxWake p x lat (.checked true)).rxSleep p = 0 := by
  rw [rxWake_checked x lat true h, if_neg (by simp [hagree]), (linked_measured _ p 0 lat.rx _).rxSleep, rxChecked_awake]

theorem rxWake_down (x : Int) (lat : LatMeas) (ok : Bool) (h : d.rxSleep p = 4) (hup : d.linkUp p = true)
    (hbad : (!lat.agree || (!decide ((d.port p).rxDepth = 5) && !ok)) = true) : Down p 5 (d.rxWake p x lat (.checked ok)) := by
  rw [rxWake_checked x lat ok h, if_pos hbad]
  exact dropLink_down (rxChecked_linkUp.trans hup) 5

/-! ## A write that clears LPI_EN -/

theorem setDisc_rxSleep (on : Bool) : (d.setDisc p on).rxSleep p = d.rxSleep p := by
  have hset : (d.setB F.LANE_QUAD_CFG_DISC_EN on p).rxSleep p = d.rxSleep p :=
    ((Linked.refl d).setB F.LANE_QUAD_CFG_DISC_EN on p (by decide)).rxSleep p
  have hlost (x : Dev) : (x.losePartner p).rxSleep p = x.rxSleep p := by
    rw [(linked_losePartner x p).rxSleep, Dev.rxSleep, quadSet_get_apart (by decide) (by decide) (by decide), Dev.rxSleep]
  unfold Dev.setDisc
  dsimp only
  split
  · rw [hlost, onPort_rxSleep, hset]
  · split
    · rw [(linked_sendHello _ _).rxSleep, hset]
    · exact hset

theorem quadCfgWrite_wakes (v : Word) (hrx : d.rxSleep p = 5) (hlpi : bitsOf v.toNat 5 1 = 0) (hmode : bitsOf v.toNat 0 4 = d.portMode p) :
    (d.quadCfgWrite p v).rxSleep p = 4 := by
  have hset (x : Dev) (f : Fld) (n : Nat) (hf : besideLink f = true) : (x.set f n p).rxSleep p = x.rxSleep p :=
    ((Linked.refl x).set f n p hf).rxSleep p
  have heff : (if 11 ≤ bitsOf v.toNat 0 4 then 0 else bitsOf v.toNat 0 4) = (quadCfgBegun p v d).portMode p := by
    have hsmall : d.portMode p < 11 := by
      unfold Dev.portMode
      dsimp only
      split <;> omega
    rw [quadCfgBegun_mode, hmode, if_neg (by omega)]
  have hbefore : ((((d.set F.LANE_QUAD_CFG_DEGRADE_CW (clampNat 1 255 (bitsOf v.toNat 8 8)) p).set F.LANE_QUAD_CFG_LPI_EN
      (bitsOf v.toNat 5 1) p).setDisc p (bitsOf v.toNat 4 1 == 1)).judgeSleep p).rxSleep p = 5 := by
    rw [(linked_judgeSleep _ _).rxSleep, setDisc_rxSleep, hset _ _ _ (by decide), hset _ _ _ (by decide), hrx]
  rw [quadCfgWrite_eq, if_pos heff, hset _ _ _ (by decide), quadCfgBegun]
  have hwakes : ((0 : Nat) == 0 && (5 : Nat) == 5) = true := rfl
  rw [hbefore, hlpi, hwakes, when_true, rxWaking_shows.1]

/-- Settles O22: bursts and wakes show their direction, which what follows leaves (`Resting`, `Linked`), or take the port down (`Down`). -/
theorem refreshAndWakes : Obligations.RefreshAndWakes := by
  refine ⟨fun s p x => ⟨fun h => ?_, fun h => ?_, fun h => ?_, fun hrx => ⟨fun hx => ?_, fun h => ?_, fun h hup => ?_⟩⟩,
    fun s p x lat => ⟨fun c hc h => ?_, fun c hc h hbar => ?_, fun c hc h => ?_, fun h hagree => ?_, fun h hup hagree => ?_, fun h => ?_,
      fun h hagree => ?_, fun h hup hagree => ?_, fun h hup hdepth => ?_, fun v hreach hport hrx hlpi hmode => ?_, fun hon => ?_, fun hon => ?_⟩⟩
  · exact completes_onDev (f := fun d => d.burstLead p.val .tx) rfl (burstLead_tx h)
  · exact completes_onDev (f := fun d => d.burstLead p.val .rx) rfl (burstLead_rx h)
  · exact completes_onDev (f := fun d => d.refreshBurst p.val) rfl (refreshBurst_shallow h)
  · exact completes_onDev (f := fun d => d.burstReceived p.val x) rfl (burstReceived_shows hrx hx)
  · exact completes_onDev (f := fun d => d.burstMissed p.val) rfl (burstMissed_first hrx h)
  · have hdown := burstMissed_second hrx h hup
    exact completes_onDev (f := fun d => d.burstMissed p.val) rfl ⟨hdown.link, hdown.cause, hdown.awake⟩
  · have hwake : s.dev.wakeDecision p.val c = s.dev.wakeTx p.val := by
      obtain rfl | hc := List.mem_cons.1 hc
      · rfl
      · rw [List.mem_singleton.1 hc]; rfl
    refine completes_onDev (f := fun d => d.wakeDecision p.val c) rfl ?_
    rw [onDev_dev, hwake]
    exact wakeTx_of_asleep (by obtain h | h | h := h <;> (rw [h]; decide))
  · have hjudge : s.dev.wakeDecision p.val c = s.dev.judgeSleep p.val := by
      obtain rfl | hc := List.mem_cons.1 hc
      · rfl
      · rw [List.mem_singleton.1 hc]; rfl
    refine completes_onDev (f := fun d => d.wakeDecision p.val c) rfl ?_
    rw [onDev_dev, hjudge]
    exact judgeSleep_of_barred (by obtain h | h | h := h <;> (rw [h]; decide)) hbar
  · have hwake : s.dev.wakeDecision p.val c = s.dev.wakeTx p.val := by
      obtain rfl | hc := List.mem_cons.1 hc
      · rfl
      · rw [List.mem_singleton.1 hc]; rfl
    refine completes_onDev (f := fun d => d.wakeDecision p.val c) rfl ?_
    rw [onDev_dev, hwake]
    exact wakeTx_of_entering h
  · exact completes_onDev (f := fun d => d.wakeGuardEnd p.val lat) rfl (wakeGuardEnd_awake lat h hagree)
  · exact completes_down (f := fun d => d.wakeGuardEnd p.val lat) rfl (by decide) (wakeGuardEnd_down lat h hup hagree)
  · exact completes_onDev (f := fun d => d.rxWake p.val x lat .detected) rfl (rxWake_detected x lat h)
  · exact completes_onDev (f := fun d => d.rxWake p.val x lat (.checked true)) rfl (rxWake_awake x lat h hagree)
  · exact completes_down (f := fun d => d.rxWake p.val x lat (.checked true)) rfl (by decide) (rxWake_down x lat true h hup (by simp [hagree]))
  · exact completes_down (f := fun d => d.rxWake p.val x lat (.checked false)) rfl (by decide) (rxWake_down x lat false h hup (by simp [hdepth]))
  · refine completes_onDev (f := fun d => d.quadAccess p.val (fun d => d.quadCfgWrite p.val v)) rfl ?_
    rw [onDev_dev, quadAccess_taken hreach hport]
    exact quadCfgWrite_wakes v hrx hlpi hmode
  · exact completes_onDev (f := fun d => d.smcMoves false) rfl (smcMoves_stopped hon)
  · refine completes_onDev (f := fun d => d.smcMoves true) rfl ?_
    rw [onDev_dev, (running_smcAgain hon).smcStopped, smcSet, onSys_sys]

end Sys2Proof.Proofs


/-! SUPPORT. The state of the reversal procedure. -/

namespace Sys2Proof.Laws

open Sys2Proof.Machine Sys2Proof.Safety

variable {d : Dev} {p : Nat}

theorem only_setRev' (d : Dev) (p step : Nat) : Only [.ptus] [.PRT_REV_STAT] d (d.setRev p step) :=
  .onPtu (.setMark .refl _ _ _ _ (by decide) (by decide)) _ _ (by decide)

theorem set_ptu (d : Dev) (f : Fld) (v u p : Nat) : (d.set f v u).ptu p = d.ptu p := rfl
theorem revResult_ptu (d : Dev) (p r q : Nat) : (d.revResult p r).ptu q = d.ptu q := rfl

theorem setRev_step {step : Nat} (h : step < 8) : (d.setRev p step).get F.PRT_REV_STAT_STEP p = step := by
  rw [Dev.setRev, onPtu_get, get_setMark_same _ _ _ _ _ (by decide) (by decide) (by decide)]
  exact Nat.mod_eq_of_lt h

/-- What a step of the procedure clears of a port. -/
theorem setRev_ptu (step : Nat) : (d.setRev p step).ptu p = { d.ptu p with revSum := 0, revN := 0, revDown := false, revFrom := d.now } := by
  have hmark : (d.setMark F.PRT_REV_STAT_STEP step F.PRT_REV_STAT_CHANGED p).ptus = d.ptus :=
    (Only.refl.setMark (P := []) (R := [.PRT_REV_STAT]) _ _ _ _ (by decide) (by decide)).part .ptus (by decide)
  rw [Dev.setRev, onPtu_same, Dev.ptu, hmark, ← Dev.ptu]

theorem revFail_shows {cause : Nat} (h : cause < 16) : (d.revFail p cause).get F.PRT_REV_STAT_STEP p = 7 ∧
    (d.revFail p cause).get F.PRT_REV_STAT_FAIL p = cause := by
  rw [Dev.revFail, get_set_apart _ _ _ _ _ _ (by decide) (by decide), setRev_step (by decide), get_set_same _ _ _ _ (by decide)]
  exact ⟨rfl, Nat.mod_eq_of_lt h⟩

theorem revResult_result {r : Nat} (h : r < 16) : (d.revResult p r).get F.PRT_REV_CMD_RESULT p = r :=
  (get_set_same _ _ _ _ (by decide)).trans (Nat.mod_eq_of_lt h)

theorem only_revResult' (d : Dev) (p r : Nat) : Only [] [.PRT_REV_CMD] d (d.revResult p r) := .set .refl _ _ _ (by decide)

theorem revDone_step : (d.revDone p).get F.PRT_REV_STAT_STEP p = 6 := setRev_step (by decide)

end Sys2Proof.Laws

namespace Sys2Proof.Proofs

open Sys2Proof.Machine Sys2Proof.Safety Sys2Proof.Laws

variable {s : State} {d : Dev} {p : Nat}

/-- A command that the port takes. -/
theorem portReg_taken (hreach : d.fastReach = true) (hport : d.hasPort p = true) (f : Dev → Dev) : d.portReg p f = f d := by
  rw [Dev.portReg, Dev.reachFast, if_pos hreach, hport, when_true]

/-- REV_AVG is taken with START. -/
def avgTaken (p : Nat) (v : Word) (d : Dev) : Dev := d.set F.PRT_REV_CMD_REV_AVG (clampNat 1 255 (F.PRT_REV_CMD_REV_AVG.of v)) p

/-- The procedure begins. -/
def revStarted (p : Nat) (d : Dev) : Dev :=
  (((d.onPtu p (fun t => { t with revO := [], revT := [], revAvg := d.get F.PRT_REV_CMD_REV_AVG p })).set F.PRT_REV_STAT_FAIL 0 p).setRev
    p 1).revResult p 1

theorem revStarted_shows : (revStarted p d).get F.PRT_REV_STAT_STEP p = 1 ∧ (revStarted p d).get F.PRT_REV_CMD_RESULT p = 1 ∧
    ((revStarted p d).ptu p).revO = [] := by
  rw [revStarted, revResult_result (by decide), (only_revResult' _ _ _).get _ _ (by decide), setRev_step (by decide), revResult_ptu, setRev_ptu,
    set_ptu, onPtu_same]
  exact ⟨rfl, rfl, rfl⟩

/-- START of a port that is ready for it. -/
theorem revBegin_shows (v : Word) (hstep : d.get F.PRT_REV_STAT_STEP p = 0 ∨ d.get F.PRT_REV_STAT_STEP p = 6 ∨ d.get F.PRT_REV_STAT_STEP p = 7)
    (hkind : d.kindOf (4 + p) = .portL1) (hstate : d.ptpState p = 9) (hsel : d.get F.RSEL_SEL_SELECTED = 4 + p) (hlocked : d.mir.state = .locked) :
    (d.revBegin p v).get F.PRT_REV_STAT_STEP p = 1 ∧ (d.revBegin p v).get F.PRT_REV_CMD_RESULT p = 1 ∧ ((d.revBegin p v).ptu p).revO = [] := by
  have honly : Only [] [.PRT_REV_CMD] d (avgTaken p v d) := .set .refl _ _ _ (by decide)
  have hkind' : (avgTaken p v d).kindOf (4 + p) = .portL1 := by
    rw [Dev.kindOf, if_neg (by omega)] at hkind ⊢
    rw [honly.flag _ _ (by decide), honly.flag _ _ (by decide)]
    exact hkind
  have hok : ((avgTaken p v d).kindOf (4 + p) == .portL1 && (avgTaken p v d).ptpState p == 9 &&
      (avgTaken p v d).get F.RSEL_SEL_SELECTED == 4 + p && (avgTaken p v d).mir.state == .locked) = true := by
    have hmir : (avgTaken p v d).mir = d.mir := honly.part .mir (by decide)
    have hptp : (avgTaken p v d).ptpState p = 9 := (honly.get F.PRT_PTU_STAT_PORT_STATE p (by decide)).trans hstate
    rw [hkind', hptp, honly.get _ _ (by decide), hsel, hmir, hlocked]
    simp
  have hready : ¬((!((avgTaken p v d).get F.PRT_REV_STAT_STEP p == 0 || (avgTaken p v d).get F.PRT_REV_STAT_STEP p == 6 ||
      (avgTaken p v d).get F.PRT_REV_STAT_STEP p == 7)) = true) := by
    rw [honly.get _ _ (by decide)]
    obtain h | h | h := hstep <;> (rw [h]; decide)
  have hbegin : d.revBegin p v = revStarted p (avgTaken p v d) := (if_neg hready).trans (if_neg (by rw [← avgTaken, hok]; decide))
  rw [hbegin]
  exact revStarted_shows

theorem revFinish_shows (h : d.get F.PRT_REV_STAT_STEP p = 4) :
    (d.revFinish p).get F.PRT_REV_STAT_STEP p = 6 ∧ (d.revFinish p).get F.PRT_REV_CMD_RESULT p = 1 := by
  rw [Dev.revFinish, if_pos h, revResult_result (by decide), (only_revResult' _ _ _).get _ _ (by decide), revDone_step]
  exact ⟨rfl, rfl⟩

theorem revApply_shows (h : d.get F.PRT_REV_STAT_STEP p = 6) : (d.revApply p).get F.PRT_ASYM_REF_ASYM_REF p = d.get F.PRT_REV_RESULT_ASYM p ∧
    (d.revApply p).get F.PRT_ASYM_DREF_D_REF p = clampNat 0 1000000 (divFree (d.ptu p).mean 65536).toNat ∧
    (d.revApply p).get F.PRT_REV_CMD_RESULT p = 1 := by
  have hlt : d.get F.PRT_REV_RESULT_ASYM p < 2 ^ 32 := bitsOf_lt _ _ _
  have hrange (n : Nat) : clampNat 0 1000000 n < 2 ^ 32 := by
    unfold clampNat
    split_ifs <;> omega
  rw [Dev.revApply, if_pos h, revResult_result (by decide), (only_revResult' _ _ _).get _ _ (by decide), (only_revResult' _ _ _).get _ _ (by decide),
    get_set_apart _ _ _ _ _ _ (by decide) (by decide), get_set_same _ _ _ _ (by decide), get_set_same _ _ _ _ (by decide)]
  exact ⟨Nat.mod_eq_of_lt hlt, Nat.mod_eq_of_lt (hrange _), rfl⟩

theorem revAbort_shows (hlo : 1 ≤ d.get F.PRT_REV_STAT_STEP p) (hhi : d.get F.PRT_REV_STAT_STEP p ≤ 6) :
    (d.revAbort p).get F.PRT_REV_STAT_STEP p = 7 ∧ (d.revAbort p).get F.PRT_REV_STAT_FAIL p = 2 ∧ (d.revAbort p).get F.PRT_REV_CMD_RESULT p = 1 := by
  have hstep : ¬((decide (d.get F.PRT_REV_STAT_STEP p = 0) || decide (d.get F.PRT_REV_STAT_STEP p = 7)) = true) := by
    simp only [Bool.or_eq_true, decide_eq_true_eq]
    omega
  obtain ⟨hseven, hfail⟩ := revFail_shows (d := d) (p := p) (cause := 2) (by decide)
  have habort : d.revAbort p = (d.revFail p 2).revResult p 1 := if_neg hstep
  rw [habort, (only_revResult' _ _ _).get _ _ (by decide), (only_revResult' _ _ _).get _ _ (by decide), revResult_result (by decide)]
  exact ⟨hseven, hfail, rfl⟩

/-- A measurement window that ends appends its mean. -/
theorem revMeasured_shows {k : Nat} (h : d.get F.PRT_REV_STAT_STEP p = k) (hk : k = 1 ∨ k = 3 ∨ k = 5) (hn : (d.ptu p).revN ≠ 0) :
    (d.revMeasured p).get F.PRT_REV_STAT_STEP p = k + 1 ∧
      ((d.revMeasured p).ptu p).revO = (d.ptu p).revO ++ [divFree (d.ptu p).revSum (d.ptu p).revN] := by
  have hwindow : ¬((!(k == 1 || k == 3 || k == 5) || decide ((d.ptu p).revN = 0)) = true) := by
    obtain rfl | rfl | rfl := hk <;> simp [hn]
  rw [Dev.revMeasured, h, if_neg hwindow]
  dsimp only
  split
  case isTrue h5 => rw [revDone_step, Dev.revDone, setRev_ptu, set_ptu, onPtu_same, h5]; exact ⟨rfl, rfl⟩
  case isFalse h5 => rw [setRev_step (by omega), setRev_ptu, onPtu_same]; exact ⟨rfl, rfl⟩

/-- Settles O30: each command ends in a step that `setRev` shows. -/
theorem reversalProcedure : Obligations.ReversalProcedure := by
  intro s p v k hk
  refine ⟨fun hreach hport => ⟨fun hready hkind hstate hsel hlocked => ?_, fun h4 => ?_, fun h6 => ?_, fun hlo hhi => ?_⟩, fun hwindow hn => ?_,
    fun h2 => ?_, fun h4 => ?_⟩
  · refine completes_onDev (f := fun d => d.portReg p.val (·.revBegin p.val v)) rfl ?_
    rw [onDev_dev, portReg_taken hreach hport]
    exact revBegin_shows v (hk ▸ hready) hkind hstate hsel hlocked
  · refine completes_onDev (f := fun d => d.portReg p.val (·.revFinish p.val)) rfl ?_
    rw [onDev_dev, portReg_taken hreach hport]
    exact revFinish_shows (hk.trans h4)
  · refine completes_onDev (f := fun d => d.portReg p.val (·.revApply p.val)) rfl ?_
    rw [onDev_dev, portReg_taken hreach hport]
    exact revApply_shows (hk.trans h6)
  · refine completes_onDev (f := fun d => d.portReg p.val (·.revAbort p.val)) rfl ?_
    rw [onDev_dev, portReg_taken hreach hport]
    exact revAbort_shows (hk ▸ hlo) (hk ▸ hhi)
  · exact completes_onDev (f := fun d => d.revMeasured p.val) rfl (revMeasured_shows hk hwindow hn)
  · have htimeout : s.dev.revTimeout p.val = s.dev.revFail p.val 1 := by rw [Dev.revTimeout, hk, h2]; rfl
    refine completes_onDev (f := fun d => d.revTimeout p.val) rfl ?_
    rw [onDev_dev, htimeout]
    exact revFail_shows (by decide)
  · have htimeout : s.dev.revTimeout p.val = s.dev.revDone p.val := by rw [Dev.revTimeout, hk, h4]; rfl
    refine completes_onDev (f := fun d => d.revTimeout p.val) rfl ?_
    rw [onDev_dev, htimeout]
    exact revDone_step

end Sys2Proof.Proofs


/-! SUPPORT. What an operation of the time transfer leaves for the next one to read: the settings and states of the ports, the instances,
and what the latencies depend on. -/

namespace Sys2Proof.Laws

open Sys2Proof.Machine Sys2Proof.Safety

/-- The fields that the messages of a port are handled by. -/
def ptpFields : List Fld := [F.PRT_PTP_CFG_INSTANCE, F.PRT_PTP_CFG_DELAY_MECH, F.PRT_PTP_CFG_ONE_STEP, F.PRT_PTP_CFG_MASTER_ONLY,
  F.PRT_PTP_CFG_ROLE_PIN, F.PRT_PTP_RATE_DELAY_AVG, F.PRT_EXT_DELAY_TX_EXT, F.PRT_EXT_DELAY_RX_EXT, F.PRT_ASYM_REF_ASYM_REF,
  F.PRT_ASYM_DREF_D_REF, F.PRT_ASYM_COEF_RHO, F.PRT_PTU_STAT_RX_BEAT_LOCK, F.PRT_PTU_STAT_DELAY_VALID, F.PRT_PTU_STAT_PORT_STATE,
  F.LANE_QUAD_CFG_MODE, F.LANE_QUAD_STAT_LINK_UP, F.TB_HB_STAT_FROZEN]

/-- The fields of the messages, the instances, the module's identity and temperature, and the loops are as before. -/
structure PtpSame (d e : Dev) : Prop where
  get : ∀ f ∈ ptpFields, ∀ u, e.get f u = d.get f u
  ident : e.ident = d.ident
  insts : e.insts = d.insts
  temp : e.sys.dieTemp = d.sys.dieTemp
  stopped : e.sys.cpStopped = d.sys.cpStopped
  loop : ∀ p, (e.port p).inLoop = (d.port p).inLoop

/-- A field beside those of the messages. -/
def besidePtp (f : Fld) : Bool := decide (f.lo + f.width ≤ 32) && ptpFields.all (apart f)

variable {P : List Part} {R : List Reg} {x d e : Dev} {p : Nat}

namespace PtpSame

theorem refl (d : Dev) : PtpSame d d := ⟨fun _ _ _ => rfl, rfl, rfl, rfl, rfl, fun _ => rfl⟩
theorem trans (h : PtpSame x d) (k : PtpSame d e) : PtpSame x e :=
  ⟨fun f hf u => (k.get f hf u).trans (h.get f hf u), k.ident.trans h.ident, k.insts.trans h.insts, k.temp.trans h.temp,
    k.stopped.trans h.stopped, fun p => (k.loop p).trans (h.loop p)⟩

theorem of_only (k : Only P R d e) (h : (∀ f ∈ ptpFields, f.reg ∉ R) ∧ .ident ∉ P ∧ .insts ∉ P ∧ .sys ∉ P ∧ .ports ∉ P) : PtpSame d e := by
  obtain ⟨hreg, hident, hinsts, hsys, hports⟩ := h
  have hs : e.sys = d.sys := k.part .sys hsys
  have hp : e.ports = d.ports := k.part .ports hports
  exact ⟨fun f hf u => k.get f u (hreg f hf), k.part .ident hident, k.part .insts hinsts, by rw [hs], by rw [hs],
    fun p => by rw [Dev.port, hp, ← Dev.port]⟩

theorem set (f : Fld) (v u : Nat) (hf : besidePtp f = true) : PtpSame d (d.set f v u) := by
  simp only [besidePtp, Bool.and_eq_true, List.all_eq_true, decide_eq_true_eq] at hf
  exact ⟨fun g hg w => get_set_apart d f g v u w hf.1 (hf.2 g hg), rfl, rfl, rfl, rfl, fun _ => rfl⟩
theorem setMark (f ch : Fld) (v u : Nat) (hf : besidePtp f = true) (hch : besidePtp ch = true) : PtpSame d (d.setMark f v ch u) := by
  unfold Dev.setMark
  split
  · exact .refl d
  · exact (set f _ _ hf).trans (set ch _ _ hch)

/-! What they read. -/

theorem field (h : PtpSame d e) (f : Fld) (u : Nat) (hf : f ∈ ptpFields) : e.get f u = d.get f u := h.get f hf u
theorem flag (h : PtpSame d e) (f : Fld) (u : Nat) (hf : f ∈ ptpFields) : e.flag f u = d.flag f u := by
  rw [Dev.flag, h.get f hf, ← Dev.flag]
theorem inst (h : PtpSame d e) (i : Nat) : e.inst i = d.inst i := by rw [Dev.inst, h.insts, ← Dev.inst]
theorem instOf (h : PtpSame d e) (p : Nat) : e.instOf p = d.instOf p := by
  simp only [Dev.instOf, h.field F.PRT_PTP_CFG_INSTANCE p (by decide), h.inst, h.loop]
theorem linkUp (h : PtpSame d e) (p : Nat) : e.linkUp p = d.linkUp p := h.flag F.LANE_QUAD_STAT_LINK_UP p (by decide)
theorem portUp (h : PtpSame d e) (p : Nat) : e.portUp p = d.portUp p := by rw [Dev.portUp, h.linkUp, h.loop, ← Dev.portUp]
theorem clockPort (h : PtpSame d e) (p : Nat) : e.clockPort p = d.clockPort p := by
  simp only [Dev.clockPort, h.portUp, h.instOf, h.inst]
theorem ptpPort (h : PtpSame d e) (p : Nat) : e.ptpPort p = d.ptpPort p := by rw [Dev.ptpPort, h.portUp, h.instOf, ← Dev.ptpPort]
theorem profileOf (h : PtpSame d e) (p : Nat) : e.profileOf p = d.profileOf p := by simp only [Dev.profileOf, h.instOf, h.inst]
theorem oneStep (h : PtpSame d e) (p : Nat) : e.flag F.PRT_PTP_CFG_ONE_STEP p = d.flag F.PRT_PTP_CFG_ONE_STEP p := h.flag _ p (by decide)
theorem peerDelay (h : PtpSame d e) (p : Nat) : e.peerDelay p = d.peerDelay p := by
  simp only [Dev.peerDelay, h.instOf, h.inst, h.flag F.PRT_PTP_CFG_DELAY_MECH p (by decide)]
theorem ptpState (h : PtpSame d e) (p : Nat) : e.ptpState p = d.ptpState p := h.field F.PRT_PTU_STAT_PORT_STATE p (by decide)
theorem isSlave (h : PtpSame d e) (p : Nat) : e.isSlave p = d.isSlave p := by rw [Dev.isSlave, h.ptpState, ← Dev.isSlave]
theorem frozen (h : PtpSame d e) : e.flag F.TB_HB_STAT_FROZEN = d.flag F.TB_HB_STAT_FROZEN := h.flag _ 0 (by decide)
theorem delayValid (h : PtpSame d e) (p : Nat) : e.flag F.PRT_PTU_STAT_DELAY_VALID p = d.flag F.PRT_PTU_STAT_DELAY_VALID p :=
  h.flag _ p (by decide)
theorem portMode (h : PtpSame d e) (p : Nat) : e.portMode p = d.portMode p := by
  simp only [Dev.portMode, h.field F.LANE_QUAD_CFG_MODE p (by decide)]
theorem latFixFs (h : PtpSame d e) (p dir : Nat) : e.latFixFs p dir = d.latFixFs p dir := by
  rw [Dev.latFixFs, h.portMode, h.temp, ← Dev.latFixFs]
theorem clockId (h : PtpSame d e) : e.clockId = d.clockId := by rw [Dev.clockId, h.ident, ← Dev.clockId]
theorem tRx (h : PtpSame d e) (p : Nat) (c : Capture) (hm : (e.ptu p).rxMeas = (d.ptu p).rxMeas) : e.tRx p c = d.tRx p c := by
  simp only [Dev.tRx, h.portMode, h.latFixFs, h.flag F.PRT_PTU_STAT_RX_BEAT_LOCK p (by decide),
    h.field F.PRT_EXT_DELAY_RX_EXT p (by decide), hm]
theorem tTx (h : PtpSame d e) (p : Nat) (c : Capture) (hm : (e.ptu p).txMeas = (d.ptu p).txMeas) : e.tTx p c = d.tTx p c := by
  simp only [Dev.tTx, h.portMode, h.latFixFs, h.field F.PRT_EXT_DELAY_TX_EXT p (by decide), hm]
theorem asym (h : PtpSame d e) (p : Nat) (hm : (e.ptu p).mean = (d.ptu p).mean) : e.asym p = d.asym p := by
  simp only [Dev.asym, h.field F.PRT_ASYM_REF_ASYM_REF p (by decide), h.field F.PRT_ASYM_COEF_RHO p (by decide),
    h.field F.PRT_ASYM_DREF_D_REF p (by decide), hm]
theorem trackNow (h : PtpSame d e) (p : Nat) (hm : (e.ptu p).track = (d.ptu p).track) : e.trackNow p = d.trackNow p := by
  rw [Dev.trackNow, h.flag F.PRT_PTU_STAT_RX_BEAT_LOCK p (by decide), hm, ← Dev.trackNow]
theorem granted (h : PtpSame d e) (p t : Nat) (hm : (e.ptu p).grants = (d.ptu p).grants) : e.granted p t = d.granted p t := by
  rw [Dev.granted, h.profileOf, hm, ← Dev.granted]
theorem ownMsg (h : PtpSame d e) (p seq : Nat) (corr : Int) (t : Ticks) (two : Bool) : e.ownMsg p seq corr t two = d.ownMsg p seq corr t two := by
  rw [Dev.ownMsg, h.clockId, ← Dev.ownMsg]
theorem asksDelay (h : PtpSame d e) (p : Nat) : e.asksDelay p = d.asksDelay p := by
  rw [Dev.asksDelay, h.ptpPort, h.peerDelay, h.clockPort, h.ptpState, h.isSlave, ← Dev.asksDelay]

end PtpSame

/-- The parent of a port is the sender of the Announce it holds. -/
theorem fromParent_of_announce (m : PtpMsg) (h : (e.ptu p).announce = (d.ptu p).announce) : e.fromParent p m = d.fromParent p m := by
  rw [Dev.fromParent, h, ← Dev.fromParent]

/-! ## Operations that leave them -/

theorem ptpSame_onPtu (f : PtuPort → PtuPort) : PtpSame d (d.onPtu p f) := .of_only (P := [.ptus]) (R := []) (.onPtu .refl _ _ (by decide)) (by decide)

theorem ptpSame_countRx (t : Nat) : PtpSame d (d.countRx p t) :=
  .of_only (P := reports) (R := [.ALM_ACTIVE, .ALM_LATCH]) (.countRx .refl _ _ (by decide)) (by decide)

theorem ptpSame_eventIn (t : Nat) (c : Capture) : PtpSame d (d.eventIn p t c) := .of_only (only_eventIn _ _ _ _) (by decide)

theorem ptpSame_judgeL1 (d : Dev) (p : Nat) : PtpSame d (d.judgeL1 p) := .setMark _ _ _ _ (by decide) (by decide)

theorem ptpSame_judgePortCand (d : Dev) (p : Nat) : PtpSame d (d.judgePortCand p) := by
  unfold Dev.judgePortCand
  refine PtpSame.trans ?_ (ptpSame_judgeL1 _ _)
  split
  · exact .refl d
  · exact .of_only (only_setActive _ _ _) (by decide)

/-- The cores of the CP start again. -/
def coresOn (y : Sys) : Sys := { y with coresOff := 0 }

theorem ptpSame_coresOn (d : Dev) : PtpSame d (d.onSys coresOn) :=
  ⟨fun _ _ _ => rfl, rfl, rfl, rfl, rfl, fun _ => rfl⟩

theorem ptpSame_wakeCores (d : Dev) : PtpSame d d.wakeCores := by
  unfold Dev.wakeCores
  split
  · exact (ptpSame_coresOn d).trans (.set _ _ _ (by decide))
  · exact .refl d

theorem ptpSame_quadSleep (v : Nat) : PtpSame d (d.quadSet F.LANE_QUAD_STAT_TX_SLEEP v p) := .setMark _ _ _ _ (by decide) (by decide)

/-! The port's own record. -/

theorem eventIn_ptu (t : Nat) (c : Capture) : ∃ b, (d.eventIn p t c).ptu p = { d.ptu p with tRxLast := b } := by
  rw [Dev.eventIn, onPtu_same, Dev.ptu, countRx_ptus, ← Dev.ptu]
  exact ⟨_, rfl⟩

theorem countRx_ptu (t : Nat) : (d.countRx p t).ptu p = d.ptu p := by rw [Dev.ptu, countRx_ptus, ← Dev.ptu]

theorem Only.ptu (k : Only P R d e) (h : .ptus ∉ P) (q : Nat) : e.ptu q = d.ptu q := by
  have hp : e.ptus = d.ptus := k.part .ptus h
  rw [Dev.ptu, hp, ← Dev.ptu]

theorem judgePortCand_ptu (q : Nat) : (d.judgePortCand p).ptu q = d.ptu q := Only.ptu (only_judgePortCand d p) (by decide) q
theorem wakeCores_ptu (q : Nat) : d.wakeCores.ptu q = d.ptu q := Only.ptu (only_wakeCores d) (by decide) q

end Sys2Proof.Laws


/-! SUPPORT. Messages of the time transfer that leave: a direction that is awake, or enters a sleep, sends at once; another one lets them
wait for its wake. -/

namespace Sys2Proof.Laws

open Sys2Proof.Machine Sys2Proof.Safety

/-- What a PTP clock announces is as before, beside the sleep of a direction. -/
structure Told (d e : Dev) : Prop where
  same : PtpSame d e
  word : ∀ r u, r ≠ .LANE_QUAD_STAT → e.word r u = d.word r u
  partner : ∀ p, e.flag F.LANE_QUAD_STAT_DISCOVERED p = d.flag F.LANE_QUAD_STAT_DISCOVERED p ∧
    e.flag F.LANE_QUAD_STAT_PARTNER_SYNT p = d.flag F.LANE_QUAD_STAT_PARTNER_SYNT p
  applied : e.applied = d.applied
  mir : e.mir = d.mir
  twin : e.twin = d.twin
  cands : e.cands = d.cands
  rsel : e.rsel = d.rsel
  ptus : e.ptus = d.ptus
  tbA : e.tbA = d.tbA
  tbB : e.tbB = d.tbB

variable {d e : Dev} {p i : Nat}

namespace Told

theorem refl (d : Dev) : Told d d := ⟨.refl d, fun _ _ _ => rfl, fun _ => ⟨rfl, rfl⟩, rfl, rfl, rfl, rfl, rfl, rfl, rfl, rfl⟩

theorem get (h : Told d e) (f : Fld) (u : Nat) (hf : f.reg ≠ .LANE_QUAD_STAT) : e.get f u = d.get f u := by rw [Dev.get, h.word _ _ hf, ← Dev.get]
theorem flag (h : Told d e) (f : Fld) (u : Nat) (hf : f.reg ≠ .LANE_QUAD_STAT) : e.flag f u = d.flag f u := by rw [Dev.flag, h.get _ _ hf, ← Dev.flag]
theorem ptu (h : Told d e) (p : Nat) : e.ptu p = d.ptu p := by rw [Dev.ptu, h.ptus, ← Dev.ptu]
theorem cand (h : Told d e) (n : Nat) : e.cand n = d.cand n := by rw [Dev.cand, h.cands, ← Dev.cand]
theorem tb (h : Told d e) (x : TbId) : e.tb x = d.tb x := by
  cases x with
  | a => exact h.tbA
  | b => exact h.tbB

theorem kindOf (h : Told d e) (n : Nat) : e.kindOf n = d.kindOf n := by
  have hfmt : e.refinFmt n = d.refinFmt n := by rw [Dev.refinFmt, h.get _ _ (by decide), ← Dev.refinFmt]
  have htod : e.refinTod n = d.refinTod n := by rw [Dev.refinTod, h.get _ _ (by decide), ← Dev.refinTod]
  rw [Dev.kindOf, hfmt, htod, (h.partner (n - 4)).1, (h.partner (n - 4)).2, ← Dev.kindOf]
theorem sourceOf (h : Told d e) (n : Nat) : e.sourceOf n = d.sourceOf n := by
  simp only [Dev.sourceOf, Dev.portSource, h.kindOf, h.cand, h.ptu]
theorem predicted (h : Told d e) (x : HoldData) : e.predicted x = d.predicted x := by
  have hin (f : Fld) (u : Nat) : e.inForce f u = d.inForce f u := by rw [Dev.inForce, h.applied, ← Dev.inForce]
  have hvalid (t : TbId) : e.flag F.TB_MODEL_STAT_VALID t.num = d.flag F.TB_MODEL_STAT_VALID t.num := h.flag _ _ (by decide)
  unfold Dev.predicted
  rw [hin, h.rsel, h.twin]
  split
  · rfl
  · split
    · rfl
    · rw [h.tb, hvalid]
theorem ownQuality (h : Told d e) (i : Nat) (st : TState) : e.ownQuality i st = d.ownQuality i st := by
  simp only [Dev.ownQuality, Dev.setNum, Dev.utcOffset, h.same.inst, h.sourceOf, h.get F.RSEL_SEL_SELECTED _ (by decide), h.mir,
    h.same.clockId, h.predicted, h.get F.TB_UTC_CFG_FALLBACK_OFFSET _ (by decide)]
theorem ownSlave (h : Told d e) (i : Nat) : e.ownSlave i = d.ownSlave i := by
  simp only [Dev.ownSlave, h.get F.RSEL_SEL_SELECTED _ (by decide), h.same.instOf, h.same.ptpState]
theorem announceOf (h : Told d e) (i : Nat) : e.announceOf i = d.announceOf i := by
  simp only [Dev.announceOf, h.ownSlave, h.ownQuality, h.mir, h.ptu]

end Told

/-- An entry into a sleep that is taken back. -/
def entryEnded (y : Port) : Port := { y with txDepth := 0, txEntry := none, txLead := false }

theorem port_onPort_other {q : Nat} {f : Port → Port} (h : p ≠ q) : (d.onPort p f).port q = d.port q :=
  tabGet_tabSet_other _ _ _ _ fun hh => h hh.symm

theorem told_onPort_entryEnded (d : Dev) (p : Nat) : Told d (d.onPort p entryEnded) := by
  have hloop (q : Nat) : ((d.onPort p entryEnded).port q).inLoop = (d.port q).inLoop := by
    by_cases hq : p = q
    · subst hq
      rw [onPort_same]
      rfl
    · rw [port_onPort_other hq]
  exact ⟨⟨fun _ _ _ => rfl, rfl, rfl, rfl, rfl, hloop⟩, fun _ _ _ => rfl, fun _ => ⟨rfl, rfl⟩, rfl, rfl, rfl, rfl, rfl, rfl, rfl, rfl⟩

theorem told_quadSleep (d : Dev) (v p : Nat) : Told d (d.quadSet F.LANE_QUAD_STAT_TX_SLEEP v p) := by
  have honly : Only [] [.LANE_QUAD_STAT] d (d.quadSet F.LANE_QUAD_STAT_TX_SLEEP v p) := .setMark .refl _ _ _ _ (by decide) (by decide)
  have hflag (g : Fld) (u : Nat) (h : apart F.LANE_QUAD_STAT_TX_SLEEP g = true) (h' : apart F.LANE_QUAD_STAT_CHANGED g = true) :
      (d.quadSet F.LANE_QUAD_STAT_TX_SLEEP v p).flag g u = d.flag g u := flag_setMark_apart _ _ _ _ _ _ _ (by decide) (by decide) h h'
  exact ⟨ptpSame_quadSleep v, fun r u hr => honly.word r u (by simpa using hr), fun q => ⟨hflag _ q (by decide) (by decide), hflag _ q (by decide) (by decide)⟩,
    honly.part .applied (by decide), honly.part .mir (by decide), honly.part .twin (by decide), honly.part .cands (by decide),
    honly.part .rsel (by decide), honly.part .ptus (by decide), honly.part .tbA (by decide), honly.part .tbB (by decide)⟩

theorem Told.trans {x : Dev} (h : Told x d) (k : Told d e) : Told x e :=
  ⟨h.same.trans k.same, fun r u hr => (k.word r u hr).trans (h.word r u hr),
    fun p => ⟨(k.partner p).1.trans (h.partner p).1, (k.partner p).2.trans (h.partner p).2⟩, k.applied.trans h.applied, k.mir.trans h.mir,
    k.twin.trans h.twin, k.cands.trans h.cands, k.rsel.trans h.rsel, k.ptus.trans h.ptus, k.tbA.trans h.tbA, k.tbB.trans h.tbB⟩

/-- A direction that is awake or enters a sleep is awake for a message, and nothing else that messages read changes. -/
theorem wakeTx_of_ready (h : d.txSleep p ≤ 1) : Told d (d.wakeTx p) ∧ (d.wakeTx p).txSleep p = 0 := by
  rcases Nat.le_one_iff_eq_zero_or_eq_one.mp h with h0 | h1
  · rw [wakeTx_of_awake h0]
    exact ⟨.refl d, h0⟩
  · refine ⟨?_, (wakeTx_of_entering h1).1⟩
    have heq : d.wakeTx p = (d.quadSet F.LANE_QUAD_STAT_TX_SLEEP 0 p).onPort p entryEnded := by
      rw [Dev.wakeTx, if_pos h1]
      rfl
    rw [heq]
    exact (told_quadSleep d 0 p).trans (told_onPort_entryEnded _ p)

/-- A direction that sleeps or wakes ends in its wake. -/
theorem wakeTx_of_sleeping (h : 2 ≤ d.txSleep p) (h' : d.txSleep p ≤ 5) : (d.wakeTx p).txSleep p = 4 ∧ (d.wakeTx p).ptu p = d.ptu p := by
  refine ⟨?_, Only.ptu (only_wakeTx d p) (by decide) p⟩
  by_cases h4 : d.txSleep p = 4
  · rw [Dev.wakeTx, h4, if_neg (by decide), if_neg (by decide), h4]
  · refine (wakeTx_of_asleep ?_).1
    have hcases : d.txSleep p = 2 ∨ d.txSleep p = 3 ∨ d.txSleep p = 5 := by omega
    rcases hcases with hs | hs | hs <;> rw [hs] <;> rfl

/-- A message on a direction that is awake or enters a sleep leaves at once. -/
theorem ptpDue_of_ready (h : d.txSleep p ≤ 1) (x : PtpDue) : d.ptpDue p x = (d.wakeTx p).ptpSend p x := by
  unfold Dev.ptpDue
  dsimp only
  rw [(wakeTx_of_ready h).2, if_neg (by decide)]

/-- A message on a direction that sleeps or wakes waits. -/
theorem ptpDue_of_sleeping (h : 2 ≤ d.txSleep p) (h' : d.txSleep p ≤ 5) (x : PtpDue) :
    ((d.ptpDue p x).ptu p).due = (d.ptu p).due ++ [x] ∧ (d.ptpDue p x).txSleep p = 4 := by
  obtain ⟨h4, hptu⟩ := wakeTx_of_sleeping h h'
  have hidle (y : Dev) : (y.judgeIdle p).ptu p = y.ptu p ∧ (y.judgeIdle p).txSleep p = y.txSleep p :=
    ⟨Only.ptu (only_judgeIdle y p) (by decide) p, (only_judgeIdle y p).get _ _ (by decide)⟩
  unfold Dev.ptpDue
  dsimp only
  rw [h4, if_pos rfl, (hidle _).1, (hidle _).2, onPtu_same, hptu]
  exact ⟨rfl, h4⟩

/-! ## What a message that leaves does to its port -/

theorem last_emit (d : Dev) (m : Emit) : (d.emit m).sent.getLast? = some m := List.getLast?_concat

theorem ptpLeaves_ptu (d : Dev) (p q : Nat) (b : List Byte) : (d.ptpLeaves p b).ptu q = d.ptu q := Only.ptu (only_ptpLeaves d p b) (by decide) q

theorem eventOut_ptu (d : Dev) (p t : Nat) (cp m : PtpMsg) (c : Capture) (asker : Option PtpMsg) :
    ∃ b, (d.eventOut p t cp m c asker).ptu p = { d.ptu p with tTxLast := b } := by
  have hemit (x : Dev) (y : Emit) : (x.emit y).ptu p = x.ptu p := rfl
  have hcount : (d.countTx p t).ptu p = d.ptu p := by rw [Dev.ptu, countTx_ptus, ← Dev.ptu]
  rw [Dev.eventOut, hemit, ptpLeaves_ptu, onPtu_same, hcount]
  exact ⟨_, rfl⟩

theorem eventOut_last (d : Dev) (p t : Nat) (cp m : PtpMsg) (c : Capture) (asker : Option PtpMsg) :
    (d.eventOut p t cp m c asker).sent.getLast? = some (.ptp p t m) := last_emit _ _

theorem messageOut_last (d : Dev) (p t : Nat) (m : PtpMsg) (asker : Option PtpMsg) :
    (d.messageOut p t m asker).sent.getLast? = some (.ptp p t m) := last_emit _ _

/-! ## The messages of a port that is awake -/

theorem ptpSend_announce (h : d.instOf p = some i) :
    (d.ptpSend p .announce).sent.getLast? = some (.announce p (d.ownMsg p (d.ptu p).seqAnn 0 0 false) (d.announceOf i)) ∧
    ((d.ptpSend p .announce).ptu p).seqAnn = ((d.ptu p).seqAnn + 1) % 65536 ∧ ((d.ptpSend p .announce).ptu p).annSent = some (d.announceOf i) := by
  have hemit (x : Dev) (y : Emit) : (x.emit y).ptu p = x.ptu p := rfl
  have hcount (x : Dev) (t : Nat) : (x.countTx p t).ptu p = x.ptu p := by rw [Dev.ptu, countTx_ptus, ← Dev.ptu]
  unfold Dev.ptpSend
  rw [h]
  dsimp only
  rw [hemit, ptpLeaves_ptu, hcount, onPtu_same]
  exact ⟨last_emit _ _, rfl, rfl⟩

theorem ptpSend_delayReq (c : Capture) :
    (∃ b, (d.ptpSend p (.delayReq c)).ptu p =
      { d.ptu p with seqReq := ((d.ptu p).seqReq + 1) % 65536, req := some ((d.ptu p).seqReq, d.tTx p c), presp := none, tTxLast := b }) ∧
    (d.ptpSend p (.delayReq c)).sent.getLast? =
      some (.ptp p (if d.peerDelay p then 2 else 1) (d.ownMsg p (d.ptu p).seqReq 0 0 false)) := by
  unfold Dev.ptpSend
  dsimp only
  have hsame := ptpSame_onPtu (d := d) (p := p) (fun x => { x with
    seqReq := (x.seqReq + 1) % 65536, req := some ((d.ptu p).seqReq, d.tTx p c), presp := none })
  rw [hsame.peerDelay, hsame.ownMsg, eventOut_last]
  refine ⟨?_, rfl⟩
  obtain ⟨b, hb⟩ := eventOut_ptu (d.onPtu p (fun x => { x with
    seqReq := (x.seqReq + 1) % 65536, req := some ((d.ptu p).seqReq, d.tTx p c), presp := none })) p (if d.peerDelay p then 2 else 1)
    (d.ownMsg p (d.ptu p).seqReq 0 0 false) (d.ownMsg p (d.ptu p).seqReq 0 0 false) c none
  rw [onPtu_same] at hb
  exact ⟨b, hb⟩

/-- The sequence number of a Sync is taken. -/
def syncNumbered (y : PtuPort) : PtuPort := { y with seqSync := (y.seqSync + 1) % 65536 }

theorem ptpSend_sync_oneStep (c : Capture) (h : d.flag F.PRT_PTP_CFG_ONE_STEP p = true) :
    (∃ b, (d.ptpSend p (.sync c)).ptu p = { syncNumbered (d.ptu p) with tTxLast := b }) ∧
    (d.ptpSend p (.sync c)).sent.getLast? =
      some (.ptp p 0 (d.ownMsg p (d.ptu p).seqSync (fracNs (d.tTx p c)) (wholeNs (d.tTx p c) % (2 ^ 48 * secUnit)) false)) := by
  have hsame := ptpSame_onPtu (d := d) (p := p) (fun x => { x with seqSync := (x.seqSync + 1) % 65536 })
  have heq : d.ptpSend p (.sync c) = (d.onPtu p syncNumbered).eventOut p 0 (d.ownMsg p (d.ptu p).seqSync 0 0 false)
      (d.ownMsg p (d.ptu p).seqSync (fracNs (d.tTx p c)) (wholeNs (d.tTx p c) % (2 ^ 48 * secUnit)) false) c none := by
    unfold Dev.ptpSend
    dsimp only
    refine (if_pos ((hsame.oneStep p).trans h)).trans ?_
    rw [hsame.ownMsg, hsame.ownMsg]
    rfl
  rw [heq]
  refine ⟨?_, eventOut_last _ _ _ _ _ _ _⟩
  obtain ⟨b, hb⟩ := eventOut_ptu (d.onPtu p syncNumbered) p 0 (d.ownMsg p (d.ptu p).seqSync 0 0 false)
    (d.ownMsg p (d.ptu p).seqSync (fracNs (d.tTx p c)) (wholeNs (d.tTx p c) % (2 ^ 48 * secUnit)) false) c none
  rw [onPtu_same] at hb
  exact ⟨b, hb⟩

theorem ptpSend_sync_twoStep (c : Capture) (h : d.flag F.PRT_PTP_CFG_ONE_STEP p = false) :
    (∃ b, (d.ptpSend p (.sync c)).ptu p = { syncNumbered (d.ptu p) with followTx := some ((d.ptu p).seqSync, d.tTx p c), tTxLast := b }) ∧
    ∃ t, (d.ptpSend p (.sync c)).sent.getLast? = some (.ptp p 0 (d.ownMsg p (d.ptu p).seqSync 0 t true)) := by
  have hsame := ptpSame_onPtu (d := d) (p := p) (fun x => { x with seqSync := (x.seqSync + 1) % 65536 })
  have heq : ∃ t, d.ptpSend p (.sync c) = (((d.onPtu p syncNumbered).onPtu p (fun x => { x with
      followTx := some ((d.ptu p).seqSync, d.tTx p c) })).eventOut p 0 (d.ownMsg p (d.ptu p).seqSync 0 t true)
      (d.ownMsg p (d.ptu p).seqSync 0 t true) c none).spendFree := by
    unfold Dev.ptpSend
    dsimp only
    refine ⟨wholeNs d.freeVal, (if_neg (by rw [hsame.oneStep, h]; decide)).trans ?_⟩
    rw [((hsame).trans (ptpSame_onPtu _)).ownMsg]
    rfl
  obtain ⟨t, heq⟩ := heq
  rw [heq]
  have hptu (x : Dev) : x.spendFree.ptu p = x.ptu p := rfl
  have hsent (x : Dev) : x.spendFree.sent = x.sent := rfl
  rw [hptu, hsent]
  refine ⟨?_, t, eventOut_last _ _ _ _ _ _ _⟩
  obtain ⟨b, hb⟩ := eventOut_ptu ((d.onPtu p syncNumbered).onPtu p (fun x => { x with
      followTx := some ((d.ptu p).seqSync, d.tTx p c) })) p 0 (d.ownMsg p (d.ptu p).seqSync 0 t true)
      (d.ownMsg p (d.ptu p).seqSync 0 t true) c none
  rw [onPtu_same, onPtu_same] at hb
  exact ⟨b, hb⟩

theorem ptpSend_followUp {q : Nat} {T : Ticks} (h : (d.ptu p).followTx = some (q, T)) : ((d.ptpSend p .followUp).ptu p).followTx = none ∧
    (d.ptpSend p .followUp).sent.getLast? = some (.ptp p 8 (d.ownMsg p q (fracNs T) (wholeNs T) false)) := by
  unfold Dev.ptpSend
  dsimp only
  rw [h]
  dsimp only
  refine ⟨?_, messageOut_last _ _ _ _ _⟩
  rw [Only.ptu (only_messageOut _ p 8 _ none) (by decide) p, onPtu_same]

theorem ptpSend_delayResp (m : PtpMsg) (t : Ticks) : (d.ptpSend p (.delayResp m t)).sent.getLast? =
    some (.ptp p 9 (d.ownMsg p m.seq (m.corr - fracNs t) (wholeNs t) false)) := messageOut_last _ _ _ _ _

theorem ptpSend_pdelayResp_oneStep (m : PtpMsg) (t : Ticks) (c : Capture) (h : d.flag F.PRT_PTP_CFG_ONE_STEP p = true) :
    (d.ptpSend p (.pdelayResp m t c)).sent.getLast? =
      some (.ptp p 3 (d.ownMsg p m.seq (m.corr + ((d.tTx p c : Int) - t)) 0 false)) := by
  unfold Dev.ptpSend
  dsimp only
  rw [h, if_pos rfl]
  exact eventOut_last _ _ _ _ _ _ _

theorem ptpSend_pdelayResp_twoStep (m : PtpMsg) (t : Ticks) (c : Capture) (h : d.flag F.PRT_PTP_CFG_ONE_STEP p = false) :
    (d.ptpSend p (.pdelayResp m t c)).sent.getLast? =
      some (.ptp p 0xA (d.ownMsg p m.seq (m.corr + fracNs (d.tTx p c)) (wholeNs (d.tTx p c)) false)) := by
  unfold Dev.ptpSend
  dsimp only
  rw [h, if_neg (by decide)]
  exact messageOut_last _ _ _ _ _

/-! ## The processor of the ports -/

/-- The cores of the CP that a message on the port wakes. -/
def awaited (p : Nat) (d : Dev) : Dev := d.when (d.ptpPort p) Dev.wakeCores

theorem cpTakes_of_runs (h : d.sys.cpStopped = false) (f : Dev → Dev) : d.cpTakes p f = f (awaited p d) := by
  rw [Dev.cpTakes, Dev.whileCp, h]
  rfl

theorem whileCp_of_runs (h : d.sys.cpStopped = false) (f : Dev → Dev) : d.whileCp f = f d := by
  rw [Dev.whileCp, h]
  rfl

theorem ptpSame_awaited (p : Nat) (d : Dev) : PtpSame d (awaited p d) := by
  unfold awaited
  cases d.ptpPort p with
  | false => exact .refl d
  | true => exact ptpSame_wakeCores d

theorem only_awaited (p : Nat) (d : Dev) : Only [.sys] [.PWR_STAT] d (awaited p d) := .when .refl _ _ (only_wakeCores d)

theorem awaited_ptu (p q : Nat) (d : Dev) : (awaited p d).ptu q = d.ptu q := Only.ptu (only_awaited p d) (by decide) q

end Sys2Proof.Laws


/-! SUPPORT. Beat samples, and the offset that a Sync gives. -/

namespace Sys2Proof.Proofs

open Sys2Proof.Machine Sys2Proof.Safety Sys2Proof.Laws

variable {s : State} {d e : Dev} {p : Nat}

theorem passTheta_shows (x : Int) : (d.passTheta p x).ptus = d.ptus ∧ (d.passTheta p x).regs = d.regs := by
  unfold Dev.passTheta
  split <;> exact ⟨rfl, rfl⟩

theorem passTheta_flag (x : Int) (f : Fld) (u : Nat) : (d.passTheta p x).flag f u = d.flag f u := by
  rw [Dev.flag, Dev.get, Dev.word, (passTheta_shows x).2]
  rfl

theorem passTheta_ptu (x : Int) (q : Nat) : (d.passTheta p x).ptu q = d.ptu q := by rw [Dev.ptu, (passTheta_shows x).1, ← Dev.ptu]

theorem judgeL1_ptu (q : Nat) : (d.judgeL1 p).ptu q = d.ptu q := Only.ptu (only_judgeL1 d p) (by decide) q

/-- The transmitter's phase is sampled where it beats. -/
def txSampled (v : Bool) (tx : Nat) (t : PtuPort) : PtuPort := if v then { t with phiTx := tx % 16384 } else t

/-- The receiver's phase is sampled and the track moves. -/
def rxSampled (y : PtuPort) (rx : Nat) (t : PtuPort) : PtuPort :=
  let step := if y.tracked then unwrapStep y.phiRx (rx % 16384) else 0
  { t with phiRx := rx % 16384, track := t.track + step, nrr := if y.tracked then -(step * 2 ^ 20) else t.nrr, tracked := true }

/-- The last part of a sample: the layer-1 use is judged, and the servo has its offset. -/
def sampleUsed (p : Nat) (d : Dev) : Dev :=
  if (d.judgeL1 p).flag F.PRT_PTU_STAT_L1_TRACK p then (d.judgeL1 p).passTheta p ((d.judgeL1 p).ptu p).thetaL1 else d.judgeL1 p

theorem sampleUsed_shows : (sampleUsed p d).ptu p = d.ptu p ∧
    (sampleUsed p d).flag F.PRT_PTU_STAT_RX_BEAT_LOCK p = d.flag F.PRT_PTU_STAT_RX_BEAT_LOCK p := by
  have hflag := (ptpSame_judgeL1 d p).flag F.PRT_PTU_STAT_RX_BEAT_LOCK p (by decide)
  unfold sampleUsed
  split
  · rw [passTheta_ptu, passTheta_flag, judgeL1_ptu]
    exact ⟨rfl, hflag⟩
  · exact ⟨judgeL1_ptu p, hflag⟩

theorem setBeatLock_on : (d.setBeatLock p true).flag F.PRT_PTU_STAT_RX_BEAT_LOCK p = true ∧ (d.setBeatLock p true).ptu p = d.ptu p := by
  refine ⟨flag_setMark_same _ _ _ _ _ (by decide) (by decide) (by decide) rfl, ?_⟩
  have h : Only [] [.PRT_PTU_STAT] d (d.setBeatLock p true) := .setMark .refl _ _ _ _ (by decide) (by decide)
  exact Only.ptu h (by decide) p

/-- Layer-1 use of the port ends. -/
def beatLost (t : PtuPort) : PtuPort :=
  { t with anchored := false, tracked := false, syncWait := t.syncWait.map (fun w => { w with track := none }) }

theorem setBeatLock_off : (d.setBeatLock p false).flag F.PRT_PTU_STAT_RX_BEAT_LOCK p = false ∧
    (d.setBeatLock p false).ptu p = beatLost (d.ptu p) := by
  have h : Only [] [.PRT_PTU_STAT] d (d.ptuBit F.PRT_PTU_STAT_RX_BEAT_LOCK false p) := .setMark .refl _ _ _ _ (by decide) (by decide)
  have heq : d.setBeatLock p false = (d.ptuBit F.PRT_PTU_STAT_RX_BEAT_LOCK false p).onPtu p beatLost := rfl
  rw [heq, onPtu_same, Only.ptu h (by decide) p]
  exact ⟨flag_setMark_same _ _ _ _ _ (by decide) (by decide) (by decide) rfl, rfl⟩

theorem beatSample_of_awake {rx tx : Nat} (h : d.rxSleep p = 0 ∨ d.rxSleep p = 1) (hup : d.portUp p = true) :
    d.beatSample p rx tx true = sampleUsed p ((((d.onPtu p (txSampled (d.flag F.PRT_PTU_STAT_TX_BEAT_VALID p) tx)).setBeatLock p true)).onPtu p
      (rxSampled (((d.onPtu p (txSampled (d.flag F.PRT_PTU_STAT_TX_BEAT_VALID p) tx)).setBeatLock p true).ptu p) rx)) := by
  have hup' (f : PtuPort → PtuPort) : (d.onPtu p f).portUp p = true := ((ptpSame_onPtu f).portUp p).trans hup
  unfold Dev.beatSample
  rcases h with h | h <;>
  · simp only [h, hup']
    rfl

theorem beatSample_of_lost {rx tx : Nat} {w : Bool} (h : d.rxSleep p = 0 ∨ d.rxSleep p = 1) (hlost : d.portUp p = false ∨ w = false) :
    d.beatSample p rx tx w = ((d.onPtu p (txSampled (d.flag F.PRT_PTU_STAT_TX_BEAT_VALID p) tx)).setBeatLock p false).judgeL1 p := by
  have hup' (f : PtuPort → PtuPort) : (d.onPtu p f).portUp p = d.portUp p := (ptpSame_onPtu f).portUp p
  have hoff : (d.portUp p && w) = false := by rcases hlost with hl | hl <;> simp [hl]
  unfold Dev.beatSample
  rcases h with h | h <;>
  · simp only [h, hup', hoff]
    rfl

theorem beatSample_of_asleep {rx tx : Nat} (w : Bool) (h : d.rxSleep p = 2 ∨ d.rxSleep p = 3) :
    d.beatSample p rx tx w = d.onPtu p (txSampled (d.flag F.PRT_PTU_STAT_TX_BEAT_VALID p) tx) := by
  unfold Dev.beatSample
  rcases h with h | h <;>
  · simp only [h]
    rfl

theorem txSampled_shows (v : Bool) (tx : Nat) (t : PtuPort) : (txSampled v tx t).tracked = t.tracked ∧ (txSampled v tx t).track = t.track ∧
    (txSampled v tx t).phiRx = t.phiRx ∧ (v = true → (txSampled v tx t).phiTx = tx % 16384) := by
  cases v with
  | false => exact ⟨rfl, rfl, rfl, fun h => absurd h (by decide)⟩
  | true => exact ⟨rfl, rfl, rfl, fun _ => rfl⟩

theorem beatSample_locks {rx tx : Nat} (h : d.rxSleep p = 0 ∨ d.rxSleep p = 1) (hup : d.portUp p = true) :
    (d.beatSample p rx tx true).flag F.PRT_PTU_STAT_RX_BEAT_LOCK p = true ∧ ((d.beatSample p rx tx true).ptu p).phiRx = rx % 16384 ∧
    ((d.beatSample p rx tx true).ptu p).tracked = true ∧ ((d.beatSample p rx tx true).ptu p).track = (d.ptu p).track +
      (if (d.ptu p).tracked then unwrapStep (d.ptu p).phiRx (rx % 16384) else 0) ∧
    (d.flag F.PRT_PTU_STAT_TX_BEAT_VALID p = true → ((d.beatSample p rx tx true).ptu p).phiTx = tx % 16384) := by
  have hflag (x : Dev) (f : PtuPort → PtuPort) (g : Fld) : (x.onPtu p f).flag g p = x.flag g p := by rw [Dev.flag, onPtu_get, ← Dev.flag]
  obtain ⟨htracked, htrack, hphi, htx⟩ := txSampled_shows (d.flag F.PRT_PTU_STAT_TX_BEAT_VALID p) tx (d.ptu p)
  rw [beatSample_of_awake h hup, sampleUsed_shows.1, sampleUsed_shows.2, hflag, onPtu_same, setBeatLock_on.1, setBeatLock_on.2, onPtu_same]
  refine ⟨rfl, rfl, rfl, ?_, htx⟩
  simp only [rxSampled, htracked, htrack, hphi]

theorem beatSample_unlocks {rx tx : Nat} {w : Bool} (h : d.rxSleep p = 0 ∨ d.rxSleep p = 1) (hlost : d.portUp p = false ∨ w = false) :
    (d.beatSample p rx tx w).flag F.PRT_PTU_STAT_RX_BEAT_LOCK p = false ∧ ((d.beatSample p rx tx w).ptu p).tracked = false ∧
    ((d.beatSample p rx tx w).ptu p).anchored = false ∧ ((d.beatSample p rx tx w).ptu p).phiRx = (d.ptu p).phiRx := by
  have hphi := (txSampled_shows (d.flag F.PRT_PTU_STAT_TX_BEAT_VALID p) tx (d.ptu p)).2.2.1
  rw [beatSample_of_lost h hlost, judgeL1_ptu, (ptpSame_judgeL1 _ p).flag F.PRT_PTU_STAT_RX_BEAT_LOCK p (by decide), setBeatLock_off.1,
    setBeatLock_off.2, onPtu_same]
  exact ⟨rfl, rfl, rfl, hphi⟩

/-! ## Offsets -/

/-- What an offset leaves of the port: the offset itself, the times of its Sync and the receipt of Syncs. -/
theorem takeTheta_shows (x : Int) (phi : Option Int) : ((d.takeTheta p x phi).ptu p).theta = x ∧
    ((d.takeTheta p x phi).ptu p).syncTimes = (d.ptu p).syncTimes ∧ ((d.takeTheta p x phi).ptu p).syncLate = (d.ptu p).syncLate ∧
    ((d.takeTheta p x phi).ptu p).syncWait = (d.ptu p).syncWait := by
  have hslip (b : Bool) : (if b = true then (d.portEvent p 0x040).raise .ptuPhaseSlip else d).ptu p = d.ptu p := by
    cases b with
    | false => rfl
    | true =>
      have honly : Only reports [.ALM_ACTIVE, .ALM_LATCH] d ((d.portEvent p 0x040).raise .ptuPhaseSlip) :=
        .raise (.portEvent .refl _ _ _ _ (by decide)) _ (by decide)
      exact Only.ptu honly (by decide) p
  have hfail (y : Dev) (b : Bool) : ∃ u v z w, (if b = true then y.revFail p 4 else y).ptu p =
      { y.ptu p with revSum := u, revN := v, revDown := z, revFrom := w } := by
    cases b with
    | false => exact ⟨_, _, _, _, rfl⟩
    | true =>
      rw [if_pos rfl, Dev.revFail, set_ptu, setRev_ptu]
      exact ⟨_, _, _, _, rfl⟩
  unfold Dev.takeTheta
  extract_lets t l1 slip d1 step window d2 d3
  obtain ⟨u, v, z, w, hd2⟩ := hfail d1 (slip && window)
  have hd2' : d2.ptu p = { d.ptu p with revSum := u, revN := v, revDown := z, revFrom := w } := by
    rw [← hslip slip]
    exact hd2
  rw [judgeL1_ptu, passTheta_ptu, onPtu_same, hd2']
  exact ⟨rfl, rfl, rfl, rfl⟩

theorem syncTheta_shows (t1 t2 : Int) (phi : Option Int) (hvalid : d.flag F.PRT_PTU_STAT_DELAY_VALID p = true) :
    ((d.syncTheta p t1 t2 false phi).ptu p).theta = t2 - t1 - (d.ptu p).mean - d.asym p ∧
    ((d.syncTheta p t1 t2 false phi).ptu p).syncTimes = (d.ptu p).syncTimes ∧
    ((d.syncTheta p t1 t2 false phi).ptu p).syncLate = (d.ptu p).syncLate ∧
    ((d.syncTheta p t1 t2 false phi).ptu p).syncWait = (d.ptu p).syncWait := by
  rw [Dev.syncTheta, hvalid]
  exact takeTheta_shows _ _

/-- A Sync in time. -/
def syncHeard (t : PtuPort) : PtuPort := { t with syncLate := false }

/-- A Sync of the parent on its slave port, received and judged. -/
def syncTaken (p : Nat) (c : Capture) (d : Dev) : Dev := ((d.eventIn p 0 c).onPtu p syncHeard).judgePortCand p

theorem ptpSame_syncTaken (c : Capture) : PtpSame d (syncTaken p c d) :=
  ((ptpSame_eventIn 0 c).trans (ptpSame_onPtu _)).trans (ptpSame_judgePortCand _ p)

theorem syncTaken_ptu (c : Capture) : ∃ b, (syncTaken p c d).ptu p = { syncHeard (d.ptu p) with tRxLast := b } := by
  obtain ⟨b, hb⟩ := eventIn_ptu (d := d) (p := p) 0 c
  rw [syncTaken, judgePortCand_ptu, onPtu_same, hb]
  exact ⟨b, rfl⟩

section
variable {m : PtpMsg} {c : Capture} (hclock : d.clockPort p = true) (hslave : d.isSlave p = true) (hparent : d.fromParent p m = true)
include hclock hslave hparent

theorem syncIn_of_twoStep (htwo : m.twoStep = true) : d.syncIn p m c = (syncTaken p c d).onPtu p (fun t => { t with
    syncWait := some ⟨m.seq, d.tRx p c, m.corr, d.flag F.TB_HB_STAT_FROZEN, (syncTaken p c d).trackNow p⟩ }) := by
  obtain ⟨b, hb⟩ := eventIn_ptu (d := d) (p := p) 0 c
  have hfrom : (d.eventIn p 0 c).fromParent p m = true := (fromParent_of_announce m (by rw [hb])).trans hparent
  unfold Dev.syncIn
  extract_lets t2 frozen d1 d2 d3
  rw [hclock, if_neg (by decide)]
  rw [if_neg (by simp only [d1, (ptpSame_eventIn 0 c).isSlave, hslave, hfrom]; decide), htwo]
  rfl

theorem syncIn_of_oneStep (htwo : m.twoStep = false) : d.syncIn p m c = ((syncTaken p c d).onPtu p (fun t => { t with
    syncWait := none, syncTimes := if d.flag F.TB_HB_STAT_FROZEN then t.syncTimes else some (m.time + m.corr, (d.tRx p c : Int)) })).syncTheta
    p (m.time + m.corr) (d.tRx p c) (d.flag F.TB_HB_STAT_FROZEN) (((syncTaken p c d).onPtu p (fun t => { t with
      syncWait := none, syncTimes := if d.flag F.TB_HB_STAT_FROZEN then t.syncTimes else some (m.time + m.corr, (d.tRx p c : Int)) })).trackNow p) := by
  obtain ⟨b, hb⟩ := eventIn_ptu (d := d) (p := p) 0 c
  have hfrom : (d.eventIn p 0 c).fromParent p m = true := (fromParent_of_announce m (by rw [hb])).trans hparent
  unfold Dev.syncIn
  extract_lets t2 frozen d1 d2 d3
  rw [hclock, if_neg (by decide)]
  rw [if_neg (by simp only [d1, (ptpSame_eventIn 0 c).isSlave, hslave, hfrom]; decide), htwo]
  rfl

/-- The offset of a one-step Sync. -/
theorem syncIn_offset (htwo : m.twoStep = false) (hlive : d.flag F.TB_HB_STAT_FROZEN = false)
    (hvalid : d.flag F.PRT_PTU_STAT_DELAY_VALID p = true) :
    ((d.syncIn p m c).ptu p).theta = (d.tRx p c : Int) - (m.time + m.corr) - (d.ptu p).mean - d.asym p ∧
    ((d.syncIn p m c).ptu p).syncTimes = some (m.time + m.corr, (d.tRx p c : Int)) ∧ ((d.syncIn p m c).ptu p).syncLate = false := by
  obtain ⟨b, hb⟩ := syncTaken_ptu (d := d) (p := p) c
  rw [syncIn_of_oneStep hclock hslave hparent htwo, hlive]
  have hsame (f : PtuPort → PtuPort) : PtpSame d ((syncTaken p c d).onPtu p f) := (ptpSame_syncTaken c).trans (ptpSame_onPtu f)
  obtain ⟨htheta, htimes, hlate, -⟩ := syncTheta_shows (d := (syncTaken p c d).onPtu p (fun t => { t with
    syncWait := none, syncTimes := if false then t.syncTimes else some (m.time + m.corr, (d.tRx p c : Int)) })) (p := p) (m.time + m.corr)
    (d.tRx p c) (((syncTaken p c d).onPtu p (fun t => { t with
      syncWait := none, syncTimes := if false then t.syncTimes else some (m.time + m.corr, (d.tRx p c : Int)) })).trackNow p)
    (((hsame _).delayValid p).trans hvalid)
  rw [htheta, htimes, hlate, (hsame _).asym p (by rw [onPtu_same, hb]; rfl), onPtu_same, hb]
  exact ⟨rfl, rfl, rfl⟩

/-- A two-step Sync waits for its Follow_Up. -/
theorem syncIn_waits (htwo : m.twoStep = true) (hlive : d.flag F.TB_HB_STAT_FROZEN = false) :
    ((d.syncIn p m c).ptu p).syncWait = some ⟨m.seq, d.tRx p c, m.corr, false, d.trackNow p⟩ ∧
    ((d.syncIn p m c).ptu p).theta = (d.ptu p).theta ∧ ((d.syncIn p m c).ptu p).syncLate = false := by
  obtain ⟨b, hb⟩ := syncTaken_ptu (d := d) (p := p) c
  rw [syncIn_of_twoStep hclock hslave hparent htwo, hlive, onPtu_same, (ptpSame_syncTaken c).trackNow p (by rw [hb]; rfl), hb]
  exact ⟨rfl, rfl, rfl⟩

/-- The Follow_Up completes its Sync. -/
theorem followUpIn_offset {w : SyncWait} (hwait : (d.ptu p).syncWait = some w) (hseq : w.seq = m.seq) (hlive : w.frozen = false)
    (hvalid : d.flag F.PRT_PTU_STAT_DELAY_VALID p = true) :
    ((d.followUpIn p m).ptu p).theta = w.t2 - (m.time + m.corr + w.corr) - (d.ptu p).mean - d.asym p ∧
    ((d.followUpIn p m).ptu p).syncTimes = some (m.time + m.corr + w.corr, (w.t2 : Int)) ∧ ((d.followUpIn p m).ptu p).syncWait = none := by
  have hcount := ptpSame_countRx (d := d) (p := p) 8
  have hptu := countRx_ptu (d := d) (p := p) 8
  have hfrom : (d.countRx p 8).fromParent p m = true := (fromParent_of_announce m (by rw [hptu])).trans hparent
  have hsame (f : PtuPort → PtuPort) : PtpSame d ((d.countRx p 8).onPtu p f) := hcount.trans (ptpSame_onPtu f)
  have hcond : ¬((decide (w.seq ≠ m.seq) || !(d.countRx p 8).isSlave p || !(d.countRx p 8).fromParent p m) = true) := by
    simp [hseq, hcount.isSlave, hslave, hfrom]
  have heq : d.followUpIn p m = ((d.countRx p 8).onPtu p (fun t => { t with
      syncWait := none, syncTimes := some (m.time + m.corr + w.corr, (w.t2 : Int)) })).syncTheta p (m.time + m.corr + w.corr) w.t2 false w.track := by
    unfold Dev.followUpIn
    extract_lets d1
    rw [hclock, if_neg (by decide), hptu, hwait]
    dsimp only
    rw [if_neg hcond, hlive]
    rfl
  obtain ⟨htheta, htimes, -, hw⟩ := syncTheta_shows (d := (d.countRx p 8).onPtu p (fun t => { t with
    syncWait := none, syncTimes := some (m.time + m.corr + w.corr, (w.t2 : Int)) })) (p := p) (m.time + m.corr + w.corr) w.t2 w.track
    (((hsame _).delayValid p).trans hvalid)
  rw [heq, htheta, htimes, hw, (hsame _).asym p (by rw [onPtu_same, hptu]), onPtu_same, hptu]
  exact ⟨rfl, rfl, rfl⟩

end

/-- Settles O26: a sample is a chain of the lock, the track and the servo's offset, the last of which leaves the others; an offset is that
of the times taken, and neither the receipt of the message nor the cores it wakes touch what it is computed from. -/
theorem beatsAndSyncs : Obligations.BeatsAndSyncs := by
  unfold Obligations.BeatsAndSyncs
  refine ⟨fun s p rx tx w => ⟨fun hawake => ⟨fun hup hw => ?_, fun hlost => ?_⟩, fun hasleep => ?_⟩,
    fun s p m c t2 w hrun hclock hslave hparent => ?_⟩
  · subst hw
    exact completes_onDev (f := (·.beatSample p.val rx tx true)) rfl (by rw [onDev_dev]; exact beatSample_locks hawake hup)
  · exact completes_onDev (f := (·.beatSample p.val rx tx w)) rfl (by rw [onDev_dev]; exact beatSample_unlocks hawake hlost)
  · refine completes_onDev (f := (·.beatSample p.val rx tx w)) rfl ?_
    rw [onDev_dev, beatSample_of_asleep w hasleep, onPtu_same]
    exact ⟨rfl, (txSampled_shows _ _ _).2.1⟩
  · have hsame := ptpSame_awaited p.val s.dev
    have hptu := awaited_ptu p.val p.val s.dev
    have hclock' := (hsame.clockPort p.val).trans hclock
    have hslave' := (hsame.isSlave p.val).trans hslave
    have hparent' : (awaited p.val s.dev).fromParent p.val m = true := (fromParent_of_announce m (by rw [hptu])).trans hparent
    have htrx : (awaited p.val s.dev).tRx p.val c = s.dev.tRx p.val c := hsame.tRx _ _ (by rw [hptu])
    have hasym : (awaited p.val s.dev).asym p.val = s.dev.asym p.val := hsame.asym _ (by rw [hptu])
    refine ⟨fun hlive ht2 => ⟨fun htwo hvalid => ?_, fun htwo => ?_⟩, fun hwait hseq hlive hvalid => ?_⟩
    · refine completes_onDev (f := (·.cpTakes p.val (·.syncIn p.val m c))) rfl ?_
      rw [onDev_dev, cpTakes_of_runs hrun, ht2]
      obtain ⟨htheta, htimes, hlate⟩ := syncIn_offset (c := c) hclock' hslave' hparent' htwo (hsame.frozen.trans hlive)
        ((hsame.delayValid _).trans hvalid)
      rw [htheta, htimes, hlate, htrx, hasym, hptu]
      exact ⟨rfl, rfl, rfl⟩
    · refine completes_onDev (f := (·.cpTakes p.val (·.syncIn p.val m c))) rfl ?_
      rw [onDev_dev, cpTakes_of_runs hrun]
      obtain ⟨hw, htheta, hlate⟩ := syncIn_waits (c := c) hclock' hslave' hparent' htwo (hsame.frozen.trans hlive)
      rw [hw, htheta, hlate, htrx, hsame.trackNow _ (by rw [hptu]), hptu]
      exact ⟨rfl, rfl, rfl⟩
    · refine completes_onDev (f := (·.cpTakes p.val (·.followUpIn p.val m))) rfl ?_
      rw [onDev_dev, cpTakes_of_runs hrun]
      obtain ⟨htheta, htimes, hw⟩ := followUpIn_offset hclock' hslave' hparent' (by rw [hptu]; exact hwait) hseq hlive
        ((hsame.delayValid _).trans hvalid)
      rw [htheta, htimes, hw, hasym, hptu]
      exact ⟨rfl, rfl, rfl⟩

end Sys2Proof.Proofs


/-! SUPPORT. A change of a port's state in the time transfer: no alarm comes or goes, and the port shows its new state. -/

namespace Sys2Proof.Laws

open Sys2Proof.Machine Sys2Proof.Safety

/-- No alarm comes or goes. -/
structure SameAlarms (d e : Dev) : Prop where
  word : ∀ u, e.word .ALM_ACTIVE u = d.word .ALM_ACTIVE u

variable {P : List Part} {R : List Reg} {x d e : Dev} {p : Nat}

namespace SameAlarms

theorem refl (d : Dev) : SameAlarms d d := ⟨fun _ => rfl⟩
theorem trans (h : SameAlarms x d) (k : SameAlarms d e) : SameAlarms x e := ⟨fun u => (k.word u).trans (h.word u)⟩
theorem of_only (k : Only P R d e) (h : .ALM_ACTIVE ∉ R) : SameAlarms d e := ⟨fun u => k.word _ u h⟩
theorem of_regs (k : e.regs = d.regs) : SameAlarms d e := ⟨fun u => by rw [Dev.word, k, Dev.word]⟩
theorem when (b : Bool) (f : Dev → Dev) (k : SameAlarms d (f d)) : SameAlarms d (d.when b f) := by
  cases b
  · exact .refl d
  · exact k
theorem each {α : Type} (d : Dev) (l : List α) (f : Dev → α → Dev) (k : ∀ e a, SameAlarms e (f e a)) : SameAlarms d (d.each l f) := by
  unfold Dev.each
  induction l generalizing d with
  | nil => exact .refl d
  | cons a l ih => exact (k d a).trans (ih _)
theorem set (f : Fld) (v u : Nat) (hf : f.reg ≠ .ALM_ACTIVE) : SameAlarms d (d.set f v u) :=
  ⟨fun w => word_set_other d f v u _ w fun hh => hf hh.1.symm⟩
theorem setMark (f ch : Fld) (v u : Nat) (hf : f.reg ≠ .ALM_ACTIVE) (hch : ch.reg ≠ .ALM_ACTIVE) : SameAlarms d (d.setMark f v ch u) := by
  unfold Dev.setMark
  split
  · exact .refl d
  · exact (set f v u hf).trans (set ch 1 u hch)
theorem alarmOn (h : SameAlarms d e) (a : Alarm) : e.alarmOn a = d.alarmOn a := alarmOn_of_word a h.word

end SameAlarms

theorem sameAlarms_countDev (d : Dev) (j n : Nat) : SameAlarms d (d.countDev j n) := .of_regs (countAt_regs _ _ _)
theorem sameAlarms_devEvent (d : Dev) (b : Bool) (v i n : Nat) : SameAlarms d (d.devEvent b v i n) :=
  .each d _ _ fun _ _ => .when _ _ (.of_regs (countAt_regs _ _ _))

theorem sameAlarms_msix (d : Dev) (v : Nat) : SameAlarms d (d.msix v) := by
  unfold Dev.msix
  split
  · exact .refl d
  · split
    · exact .of_regs rfl
    · split
      · exact .refl d
      · exact .of_regs rfl

theorem sameAlarms_tellPosted (d : Dev) (src dst : Nat) : SameAlarms d (d.tellPosted src dst) := by
  unfold Dev.tellPosted
  split
  · exact .when _ _ (sameAlarms_msix _ _)
  · exact .of_regs rfl

theorem sameAlarms_postMsg (d : Dev) (src dst : Nat) (msg : List Byte) : SameAlarms d (d.postMsg src dst msg) := by
  have hchan (f : Chan → Chan) : SameAlarms d (d.onChan src dst f) := .of_regs rfl
  have hwake (e : Dev) (b : Bool) : SameAlarms e (e.when b Dev.wakeCores) := .when _ _ (.of_only (only_wakeCores e) (by decide))
  unfold Dev.postMsg
  extract_lets d1 d2
  refine SameAlarms.trans ?_ (sameAlarms_tellPosted _ src dst)
  exact (((hchan _).trans (hwake _ _)).trans (sameAlarms_countDev d2 307 1)).trans (sameAlarms_devEvent _ _ _ _ _)

theorem sameAlarms_notice (d : Dev) (n : Notice) : SameAlarms d (d.notice n) := by
  have hmail (e : Dev) (m : CpMail) : SameAlarms e { e with cpMail := m } := .of_regs rfl
  have hfree (e : Dev) : SameAlarms e e.spendFree := .of_regs rfl
  have hsend (e : Dev) : SameAlarms e e.sendNotice := by
    unfold Dev.sendNotice
    split
    · exact .refl e
    · split
      · exact .refl e
      · exact ((hmail e _).trans (hfree _)).trans (sameAlarms_postMsg _ 2 0 _)
  unfold Dev.notice
  split
  · exact (hmail d _).trans (sameAlarms_countDev _ _ _)
  · exact (hmail d _).trans (hsend _)

theorem sameAlarms_restartQual (d : Dev) (id : Nat) : SameAlarms d (d.restartQual id) :=
  .of_only (P := [.cands]) (R := [.RSEL_CAND_STAT]) (.set (.onCand .refl _ _ (by decide)) _ _ _ (by decide)) (by decide)

theorem sameAlarms_disqualify (d : Dev) (id reason : Nat) : SameAlarms d (d.disqualify id reason) := by
  unfold Dev.disqualify
  split
  · exact (((SameAlarms.setMark _ _ _ _ (by decide) (by decide)).trans (.set _ _ _ (by decide))).trans (sameAlarms_countDev _ _ _)).trans
      (sameAlarms_restartQual _ _)
  · exact sameAlarms_restartQual d id

theorem sameAlarms_setActive (d : Dev) (id : Nat) (on : Bool) : SameAlarms d (d.setActive id on) := by
  have hset : SameAlarms d (d.setB F.RSEL_CAND_STAT_ACTIVE on id) := .set _ _ _ (by decide)
  cases on with
  | true => exact hset.trans (sameAlarms_restartQual _ _)
  | false => exact (hset.trans (sameAlarms_disqualify _ _ _)).trans (.set _ _ _ (by decide))

theorem sameAlarms_judgePortCand (d : Dev) (p : Nat) : SameAlarms d (d.judgePortCand p) := by
  unfold Dev.judgePortCand
  refine SameAlarms.trans ?_ (.of_only (only_judgeL1 _ _) (by decide))
  split
  · exact .refl d
  · exact sameAlarms_setActive _ _ _

/-! ## A change of state -/

/-- The new state is shown. -/
def stateShown (p st : Nat) (d : Dev) : Dev := d.setMark F.PRT_PTU_STAT_PORT_STATE st F.PRT_PTU_STAT_CHANGED p

/-- A change of state after it is shown: a reversal fails, the port is told, and so is the host. -/
def stateTold (p st : Nat) (fails : Bool) (parent : BitVec 64) (d : Dev) : Dev :=
  let d := (d.when fails (fun d => d.revFail p 3)).onPtu p (fun t => { t with told := st, anchored := t.anchored && (st == 8 || st == 9) })
  match d.instOf p with
  | some i => d.notice ⟨i, p, st, parent⟩
  | none => d

theorem setPtpState_eq {st : Nat} (h : d.ptpState p ≠ st) :
    ∃ fails parent, d.setPtpState p st = (stateTold p st fails parent (stateShown p st d)).judgePortCand p := by
  unfold Dev.setPtpState
  rw [if_neg h]
  exact ⟨_, _, rfl⟩

theorem only_stateTold (st : Nat) (fails : Bool) (parent : BitVec 64) : Only [.chans, .cpMail, .counters, .latches, .ring, .log, .pcie,
    .ptus, .sys, .sent, .freeCtr] [.ALM_ACTIVE, .ALM_LATCH, .PRT_REV_STAT, .PWR_STAT] d (stateTold p st fails parent d) := by
  have hfail : Only [.chans, .cpMail, .counters, .latches, .ring, .log, .pcie, .ptus, .sys, .sent, .freeCtr] [.ALM_ACTIVE, .ALM_LATCH,
      .PRT_REV_STAT, .PWR_STAT] d (d.when fails (fun d => d.revFail p 3)) := .when .refl _ _ ((only_revFail d p 3).weaken (by decide) (by decide))
  have htold : Only [.chans, .cpMail, .counters, .latches, .ring, .log, .pcie, .ptus, .sys, .sent, .freeCtr] [.ALM_ACTIVE, .ALM_LATCH,
      .PRT_REV_STAT, .PWR_STAT] d ((d.when fails (fun d => d.revFail p 3)).onPtu p (fun t => { t with
        told := st, anchored := t.anchored && (st == 8 || st == 9) })) := hfail.onPtu p _ (by decide)
  unfold stateTold
  dsimp only
  split
  next i _ => exact htold.andThen (only_notice _ ⟨i, p, st, parent⟩) (by decide) (by decide)
  · exact htold

theorem sameAlarms_stateTold (st : Nat) (fails : Bool) (parent : BitVec 64) : SameAlarms d (stateTold p st fails parent d) := by
  have hfail : SameAlarms d (d.when fails (fun d => d.revFail p 3)) := .when _ _ (.of_only (only_revFail d p 3) (by decide))
  have hptu (e : Dev) (f : PtuPort → PtuPort) : SameAlarms e (e.onPtu p f) := .of_regs rfl
  unfold stateTold
  dsimp only
  split
  · exact (hfail.trans (hptu _ _)).trans (sameAlarms_notice _ _)
  · exact hfail.trans (hptu _ _)

/-- What a change of state leaves of the port's own record. -/
theorem stateTold_ptu (st : Nat) (fails : Bool) (parent : BitVec 64) : ∃ a b c t o n, (stateTold p st fails parent d).ptu p =
    { d.ptu p with revSum := a, revN := b, revDown := c, revFrom := t, told := st, anchored := o && n } := by
  have hfail : ∃ a b c t, (d.when fails (fun d => d.revFail p 3)).ptu p = { d.ptu p with revSum := a, revN := b, revDown := c, revFrom := t } := by
    cases fails with
    | false => exact ⟨_, _, _, _, rfl⟩
    | true =>
      rw [when_true, Dev.revFail, set_ptu, setRev_ptu]
      exact ⟨_, _, _, _, rfl⟩
  obtain ⟨a, b, c, t, hptu⟩ := hfail
  refine ⟨a, b, c, t, (d.ptu p).anchored, st == 8 || st == 9, ?_⟩
  have htold : ((d.when fails (fun d => d.revFail p 3)).onPtu p (fun t => { t with told := st, anchored := t.anchored && (st == 8 || st == 9) })).ptu p
      = { d.ptu p with revSum := a, revN := b, revDown := c, revFrom := t, told := st, anchored := (d.ptu p).anchored && (st == 8 || st == 9) } := by
    rw [onPtu_same, hptu]
  unfold stateTold
  dsimp only
  split
  · rw [← htold]
    exact Only.ptu (only_notice _ _) (by decide) p
  · exact htold

/-- A field of the port's status beside those that a judgement of its candidate shows. -/
theorem judgePortCand_get (g : Fld) (u : Nat) (hr : g.reg = .PRT_PTU_STAT) (hl : apart F.PRT_PTU_STAT_L1_TRACK g = true)
    (hc : apart F.PRT_PTU_STAT_CHANGED g = true) : (d.judgePortCand p).get g u = d.get g u := by
  unfold Dev.judgePortCand
  refine (get_setMark_apart _ _ _ _ _ _ _ (by decide) (by decide) hl hc).trans ?_
  split
  · rfl
  · exact (only_setActive _ _ _).get g u (by rw [hr]; decide)

/-- The port shows its new state, and what its Announce and its receipt timeouts are stays. -/
theorem setPtpState_shows {st : Nat} (hst : st < 16) : (d.setPtpState p st).ptpState p = st ∧
    ((d.setPtpState p st).ptu p).announce = (d.ptu p).announce ∧ ((d.setPtpState p st).ptu p).syncLate = (d.ptu p).syncLate ∧
    SameAlarms d (d.setPtpState p st) := by
  by_cases h : d.ptpState p = st
  · rw [Dev.setPtpState, if_pos h]
    exact ⟨h, rfl, rfl, .refl d⟩
  · obtain ⟨fails, parent, heq⟩ := setPtpState_eq h
    obtain ⟨a, b, c, t, o, n, hptu⟩ := stateTold_ptu (d := stateShown p st d) (p := p) st fails parent
    have hshown : (stateShown p st d).ptu p = d.ptu p := by rw [Dev.ptu, stateShown, setMark_ptus, ← Dev.ptu]
    rw [heq, judgePortCand_ptu, hptu, hshown, (ptpSame_judgePortCand _ p).ptpState]
    refine ⟨?_, rfl, rfl, ?_⟩
    · refine ((only_stateTold st fails parent).get F.PRT_PTU_STAT_PORT_STATE p (by decide)).trans ?_
      rw [stateShown, get_setMark_same _ _ _ _ _ (by decide) (by decide) (by decide)]
      exact Nat.mod_eq_of_lt hst
    · exact ((SameAlarms.setMark _ _ _ _ (by decide) (by decide)).trans (sameAlarms_stateTold _ _ _)).trans (sameAlarms_judgePortCand _ _)

/-- The loss of a pinned parent is told. -/
theorem setPinLost_shows {b : Bool} : (d.setPinLost p b).ptu p = d.ptu p ∧ (d.setPinLost p b).flag F.PRT_PTU_STAT_PIN_LOST p = b ∧
    PtpSame d (d.setPinLost p b) ∧ (p < 32 → b = true → (d.setPinLost p b).alarmOn .ptpPinLost = true) := by
  have hbit : (d.ptuBit F.PRT_PTU_STAT_PIN_LOST b p).flag F.PRT_PTU_STAT_PIN_LOST p = b :=
    flag_setMark_same _ _ _ _ _ (by decide) (by decide) (by decide) rfl
  have hcond (e : Dev) (on : Bool) := report_cond e .ptpPinLost on
  have hsame : PtpSame d (d.ptuBit F.PRT_PTU_STAT_PIN_LOST b p) := .setMark _ _ _ _ (by decide) (by decide)
  refine ⟨?_, ?_, hsame.trans (.of_only (P := reports) (R := [.ALM_ACTIVE, .ALM_LATCH]) (.cond .refl _ _ (by decide)) (by decide)), fun hp hb => ?_⟩
  · exact Only.ptu (only_setPinLost d p b) (by decide) p
  · rw [Dev.setPinLost, Dev.flag, (hcond _ _).get _ _ rfl, ← Dev.flag, hbit]
  · have hany : ((List.range 32).any fun n => (d.ptuBit F.PRT_PTU_STAT_PIN_LOST b p).flag F.PRT_PTU_STAT_PIN_LOST n) = true :=
      List.any_eq_true.mpr ⟨p, List.mem_range.mpr hp, hbit.trans hb⟩
    rw [Dev.setPinLost, hany, alarmOn_cond_true]

end Sys2Proof.Laws


/-! SUPPORT. Announces, receipt time-outs and the messages of a master. -/

namespace Sys2Proof.Proofs

open Sys2Proof.Machine Sys2Proof.Safety Sys2Proof.Laws

variable {s : State} {d e : Dev} {p i : Nat} {m : PtpMsg}

theorem clockPort_up (h : d.clockPort p = true) : d.portUp p = true ∧ d.linkUp p = true := by
  have hup : d.portUp p = true := (Bool.and_eq_true_iff.mp h).1
  exact ⟨hup, (Bool.and_eq_true_iff.mp hup).1⟩

/-- An Announce is kept. -/
def announceKept (m : PtpMsg) (a : AnnounceData) (same : Bool) (now : Ticks) (t : PtuPort) : PtuPort :=
  { t with announce := some (m, a), annLate := false, steadyFrom := if same then t.steadyFrom else now }

/-- The data of the parent that reach the time status. -/
def utcUsed (p : Nat) (d : Dev) : Dev :=
  if d.get F.RSEL_SEL_SELECTED = 4 + p ∧ (d.mir.state = .acquiring ∨ d.mir.state = .locked) then d.takeUtc (d.sourceOf (4 + p)) else d

theorem only_utcUsed : Only [.mir, .twin, .counters, .latches, .ring, .log, .pcie, .sent] [.ALM_ACTIVE, .ALM_LATCH, .SEQGEN_W0] d (utcUsed p d) := by
  unfold utcUsed
  split
  · exact only_takeUtc _ _
  · exact .refl

theorem announceIn_eq (a : AnnounceData) (hclock : d.clockPort p = true) (htakes : (d.ptu p).announce = none ∨ d.fromParent p m = true) :
    ∃ same now, d.announceIn p m a =
      utcUsed p (((((d.countRx p 0xB).onPtu p (announceKept m a same now))).setPinLost p false).judgePortCand p) := by
  have hptu := countRx_ptu (d := d) (p := p) 0xB
  unfold Dev.announceIn
  rw [hclock, if_neg (by decide)]
  extract_lets d1 old takes same d2 d3
  have htrue : takes = true := by
    have hold : old = (d.ptu p).announce := congrArg PtuPort.announce hptu
    rcases htakes with hnone | hparent
    · simp only [takes, hold, hnone]
    · unfold Dev.fromParent at hparent
      cases hann : (d.ptu p).announce with
      | none => rw [hann] at hparent; cases hparent
      | some x =>
        rw [hann] at hparent
        simp only [takes, hold, hann]
        exact Bool.or_eq_true_iff.mpr (.inl hparent)
  rw [htrue, if_neg (by decide)]
  exact ⟨same, d1.now, rfl⟩

theorem announceIn_keeps (a : AnnounceData) (hclock : d.clockPort p = true) (htakes : (d.ptu p).announce = none ∨ d.fromParent p m = true) :
    ((d.announceIn p m a).ptu p).announce = some (m, a) ∧ ((d.announceIn p m a).ptu p).annLate = false ∧
    (d.announceIn p m a).flag F.PRT_PTU_STAT_PIN_LOST p = false := by
  obtain ⟨same, now, heq⟩ := announceIn_eq a hclock htakes
  obtain ⟨hptu, hflag, -, -⟩ := setPinLost_shows (d := (d.countRx p 0xB).onPtu p (announceKept m a same now)) (p := p) (b := false)
  rw [heq, Only.ptu only_utcUsed (by decide) p, judgePortCand_ptu, hptu, onPtu_same, only_utcUsed.flag _ _ (by decide), Dev.flag,
    judgePortCand_get _ _ rfl (by decide) (by decide), ← Dev.flag, hflag]
  exact ⟨rfl, rfl, rfl⟩

/-! ## Announces that leave -/

section
variable (hinst : d.instOf p = some i) (hclock : d.clockPort p = true) (hstate : d.ptpState p = 6) (hgrant : d.granted p 0xB = true)
  (hdue : (d.ptu p).due = [])
include hinst hclock hstate hgrant hdue

theorem announceOut_eq (hneed : d.txAwakeFor p = true ∨ (d.ptu p).annSent ≠ some (d.announceOf i)) : d.announceOut p = d.ptpDue p .announce := by
  have hfirst : ¬((!d.clockPort p || decide (d.ptpState p ≠ 6) || !d.granted p 0xB || (d.ptu p).due.contains .announce) = true) := by
    simp [hclock, hstate, hgrant, hdue]
  have hsecond : ¬((!d.txAwakeFor p && (d.ptu p).annSent == some (d.announceOf i)) = true) := by
    rcases hneed with h | h <;> simp [h]
  rw [Dev.announceOut, hinst]
  dsimp only
  rw [if_neg hfirst, if_neg hsecond]

theorem announceOut_sends (hready : d.txSleep p ≤ 1) :
    (d.announceOut p).sent.getLast? = some (.announce p ⟨d.clockId, p + 1, (d.ptu p).seqAnn, 0, 0, false⟩ (d.announceOf i)) ∧
    ((d.announceOut p).ptu p).seqAnn = ((d.ptu p).seqAnn + 1) % 65536 ∧ ((d.announceOut p).ptu p).annSent = some (d.announceOf i) := by
  have hawake : d.txAwakeFor p = true := by
    rw [Dev.txAwakeFor]
    rcases Nat.le_one_iff_eq_zero_or_eq_one.mp hready with h | h <;> simp [h]
  have htold := (wakeTx_of_ready hready).1
  rw [announceOut_eq hinst hclock hstate hgrant hdue (.inl hawake), ptpDue_of_ready hready]
  obtain ⟨hsent, hseq, hann⟩ := ptpSend_announce ((htold.same.instOf p).trans hinst)
  rw [hsent, hseq, hann, htold.ptu, htold.announceOf, htold.same.ownMsg]
  exact ⟨rfl, rfl, rfl⟩

theorem announceOut_waits (hsleep : 2 ≤ d.txSleep p) (hsleep' : d.txSleep p ≤ 5) (hnew : (d.ptu p).annSent ≠ some (d.announceOf i)) :
    ((d.announceOut p).ptu p).due = [.announce] ∧ (d.announceOut p).txSleep p = 4 := by
  rw [announceOut_eq hinst hclock hstate hgrant hdue (.inr hnew)]
  obtain ⟨hwait, hwake⟩ := ptpDue_of_sleeping hsleep hsleep' .announce
  rw [hwait, hwake, hdue]
  exact ⟨rfl, rfl⟩

end

/-! ## Receipt time-outs -/

/-- The Announce of the parent is forgotten. -/
def announceLost (t : PtuPort) : PtuPort := { t with annLate := true, announce := none }

/-- What a time-out marks first. -/
def timedOut (p : Nat) (d : Dev) : ReceiptKind → Dev
  | .sync => d.onPtu p (fun t => { t with syncLate := true })
  | .announce => (d.onPtu p announceLost).when ((d.onPtu p announceLost).get F.PRT_PTP_CFG_ROLE_PIN p == 3) (fun d => d.setPinLost p true)

/-- A slave listens again. -/
def listens (p : Nat) (d : Dev) : Dev := (if d.isSlave p then d.setPtpState p 4 else d).judgePortCand p

theorem receiptTimeout_eq (k : ReceiptKind) (hclock : d.clockPort p = true) (hrx : d.rxSleep p ≠ 2) (hrx' : d.rxSleep p ≠ 3) :
    d.receiptTimeout p k = listens p (timedOut p d k) := by
  unfold Dev.receiptTimeout
  rw [if_neg (by simp [hclock, hrx, hrx'])]
  cases k <;> rfl

/-- A slave that listens again keeps what the time-out left of its record, and the alarms. -/
theorem listens_shows (h : d.isSlave p = true) : (listens p d).ptpState p = 4 ∧ ((listens p d).ptu p).syncLate = (d.ptu p).syncLate ∧
    ((listens p d).ptu p).announce = (d.ptu p).announce ∧ SameAlarms d (listens p d) := by
  obtain ⟨hstate, hann, hlate, halarms⟩ := setPtpState_shows (d := d) (p := p) (st := 4) (by decide)
  rw [listens, h, if_pos rfl, judgePortCand_ptu, (ptpSame_judgePortCand _ p).ptpState]
  exact ⟨hstate, hlate, hann, halarms.trans (sameAlarms_judgePortCand _ _)⟩

section
variable (hclock : d.clockPort p = true) (hrx : d.rxSleep p ≠ 2) (hrx' : d.rxSleep p ≠ 3) (hslave : d.isSlave p = true)
include hclock hrx hrx' hslave

theorem receiptTimeout_sync : (d.receiptTimeout p .sync).ptpState p = 4 ∧ ((d.receiptTimeout p .sync).ptu p).syncLate = true := by
  obtain ⟨hstate, hlate, -, -⟩ := listens_shows (((ptpSame_onPtu (fun t => { t with syncLate := true })).isSlave p).trans hslave)
  rw [receiptTimeout_eq .sync hclock hrx hrx', timedOut, hstate, hlate, onPtu_same]
  exact ⟨rfl, rfl⟩

theorem receiptTimeout_announce (hp : p < 32) : (d.receiptTimeout p .announce).ptpState p = 4 ∧
    ((d.receiptTimeout p .announce).ptu p).announce = none ∧
    (d.get F.PRT_PTP_CFG_ROLE_PIN p = 3 → (d.receiptTimeout p .announce).alarmOn .ptpPinLost = true) := by
  have hlost : PtpSame d (d.onPtu p announceLost) := ptpSame_onPtu _
  obtain ⟨hptu, -, hsame, halarm⟩ := setPinLost_shows (d := d.onPtu p announceLost) (p := p) (b := true)
  rw [receiptTimeout_eq .announce hclock hrx hrx', timedOut, onPtu_get]
  cases hpin : (d.get F.PRT_PTP_CFG_ROLE_PIN p == 3) with
  | false =>
    obtain ⟨hstate, -, hann, -⟩ := listens_shows ((hlost.isSlave p).trans hslave)
    rw [when_false, hstate, hann, onPtu_same]
    exact ⟨rfl, rfl, fun h => absurd h (by simpa using hpin)⟩
  | true =>
    obtain ⟨hstate, -, hann, halarms⟩ := listens_shows ((hsame.isSlave p).trans ((hlost.isSlave p).trans hslave))
    rw [when_true, hstate, hann, hptu, onPtu_same, halarms.alarmOn]
    exact ⟨rfl, rfl, fun _ => halarm hp rfl⟩

end

/-! ## Syncs of a master -/

theorem syncOut_eq (c : Capture) (hclock : d.clockPort p = true) (hstate : d.ptpState p = 6) (hawake : d.txAwakeFor p = true)
    (hgrant : d.granted p 0 = true) : d.syncOut p c = d.ptpDue p (.sync c) := by
  rw [Dev.syncOut, if_neg (by simp [hclock, hstate, hawake, hgrant])]

theorem txAwakeFor_of_ready (h : d.txSleep p ≤ 1) : d.txAwakeFor p = true := by
  rw [Dev.txAwakeFor]
  rcases Nat.le_one_iff_eq_zero_or_eq_one.mp h with h | h <;> simp [h]

theorem txAwakeFor_of_lpi (h : d.txSleep p = 5) : d.txAwakeFor p = true := by
  rw [Dev.txAwakeFor]
  simp [h]

theorem followUpOut_eq {q : Nat} {T : Ticks} (hclock : d.clockPort p = true) (hawake : d.txAwakeFor p = true)
    (htx : (d.ptu p).followTx = some (q, T)) : d.followUpOut p = d.ptpDue p .followUp := by
  rw [Dev.followUpOut, if_neg (by simp [hclock, hawake, htx])]

/-! ## A Sync that has waited -/

/-- What a measurement at the end of a wake leaves of the port's record. -/
theorem measured_ptu (d : Dev) (p new : Nat) (lpi : Prop) [Decidable lpi] :
    ((if lpi then d.measureLpi p 1 new else d.measureWake p 1 new).ptu p).due = (d.ptu p).due ∧
    ((if lpi then d.measureLpi p 1 new else d.measureWake p 1 new).ptu p).seqSync = (d.ptu p).seqSync := by
  have hset (e : Dev) (f : Fld) (v : Nat) : (e.set f v p).ptu p = e.ptu p := rfl
  have hptx (e : Dev) : (e.refreshPtx p).ptu p = e.ptu p := rfl
  have hevent (e : Dev) (v : Nat) : (e.portEvent p v).ptu p = e.ptu p := by rw [Dev.ptu, (report_portEvent e p v 0 1).ptus, ← Dev.ptu]
  split
  · unfold Dev.measureLpi
    dsimp only
    rw [hptx, hset, onPtu_same]
    exact ⟨rfl, rfl⟩
  · unfold Dev.measureWake
    simp only [Nat.one_ne_zero, if_false]
    split
    · rw [hptx, hset]
      exact ⟨rfl, rfl⟩
    · rw [hptx, hevent, hset, hset, onPtu_same, hset]
      exact ⟨rfl, rfl⟩

/-- A Sync that has waited leaves. -/
theorem flushPtp_sync (c : Capture) (hrun : d.sys.cpStopped = false) (hdue : (d.ptu p).due = [.sync c]) :
    ((d.flushPtp p).ptu p).due = [] ∧ ((d.flushPtp p).ptu p).seqSync = ((d.ptu p).seqSync + 1) % 65536 ∧
    ∃ m, Emit.ptp p 0 m ∈ (d.flushPtp p).sent ∧ m.seq = (d.ptu p).seqSync := by
  have heq : d.flushPtp p = ((d.onPtu p (fun t => { t with due := [] })).ptpSend p (.sync c)).judgeIdle p := by
    have hrun' : (d.onPtu p (fun t => { t with due := [] })).sys.cpStopped = false := hrun
    rw [Dev.flushPtp, hdue]
    dsimp only
    rw [if_neg (by simp), hrun', if_neg (by decide)]
    rfl
  have hsent (y : Dev) : (y.judgeIdle p).sent = y.sent := (only_judgeIdle y p).part .sent (by decide)
  rw [heq, Only.ptu (only_judgeIdle _ p) (by decide) p, hsent]
  cases hone : (d.onPtu p (fun t => { t with due := [] })).flag F.PRT_PTP_CFG_ONE_STEP p with
  | true =>
    obtain ⟨⟨b, hptu⟩, hlast⟩ := ptpSend_sync_oneStep c hone
    rw [hptu, onPtu_same]
    rw [onPtu_same] at hlast
    exact ⟨rfl, rfl, _, List.mem_of_getLast? hlast, rfl⟩
  | false =>
    obtain ⟨⟨b, hptu⟩, t, hlast⟩ := ptpSend_sync_twoStep c hone
    rw [hptu, onPtu_same]
    rw [onPtu_same] at hlast
    exact ⟨rfl, rfl, _, List.mem_of_getLast? hlast, rfl⟩

/-- A HELLO of an awake transmitter sends nothing yet. -/
theorem sendHello_sent (hawake : d.txSleep p = 0) : (d.sendHello p).sent = d.sent := by
  have hspent (b : Bool) (f : Port → Port) : ((if b then d.spendFree else d).onPort p f).txSleep p = 0 ∧
      ((if b then d.spendFree else d).onPort p f).sent = d.sent := by
    cases b <;> exact ⟨hawake, rfl⟩
  have hqueue (y : Dev) (own : OwnKind) (b : List Byte) (h : y.txSleep p = 0) : (y.queueOwn p own b).sent = y.sent := by
    have hidle (z : Dev) : (z.judgeIdle p).sent = z.sent ∧ (z.judgeIdle p).txSleep p = z.txSleep p :=
      ⟨(only_judgeIdle z p).part .sent (by decide), (only_judgeIdle z p).get _ _ (by decide)⟩
    unfold Dev.queueOwn Dev.link
    dsimp only
    rw [wakeTx_of_awake (by rw [(hidle _).2]; exact h), (hidle _).1]
    rfl
  unfold Dev.sendHello
  split
  · rfl
  · rw [if_neg (by rw [hawake]; simp [asleep])]
    dsimp only
    rw [hqueue _ _ _ (hspent _ _).1, (hspent _ _).2]

/-- A wake that ends lets the Sync go that has waited for it. -/
theorem wakeGuardEnd_sync (c : Capture) (lat : LatMeas) (hrun : d.sys.cpStopped = false) (hup : d.linkUp p = true) (h : d.txSleep p = 4)
    (hflat : (d.port p).deepens = false) (hagree : lat.agree = true) (hdue : (d.ptu p).due = [.sync c]) :
    ((d.wakeGuardEnd p lat).ptu p).due = [] ∧ ((d.wakeGuardEnd p lat).ptu p).seqSync = ((d.ptu p).seqSync + 1) % 65536 ∧
    ∃ m, Emit.ptp p 0 m ∈ (d.wakeGuardEnd p lat).sent ∧ m.seq = (d.ptu p).seqSync := by
  have hguard : Only [.ports] [.LANE_QUAD_STAT] d (guardEnded p d) := .onPort (.setMark .refl _ _ _ _ (by decide) (by decide)) _ _ (by decide)
  have hmeasured (y : Dev) (lpi : Prop) [Decidable lpi] : Only [.counters, .latches, .ring, .log, .pcie, .ptus, .sent]
      [.ALM_ACTIVE, .ALM_LATCH, .PRT_LAT_STAT, .PRT_Q_PTX] y (if lpi then y.measureLpi p 1 lat.tx else y.measureWake p 1 lat.tx) := by
    split
    · exact (only_measureLpi _ _ _ _).weaken (by decide) (by decide)
    · exact only_measureWake _ _ _ _
  obtain ⟨y, hy, hend, hdue', hseq', hrun', hawake⟩ : ∃ y : Dev, Linked d y ∧
      d.wakeGuardEnd p lat = (if (d.port p).helloDue then (y.flushPtp p).sendHello p else y.flushPtp p) ∧
      (y.ptu p).due = [.sync c] ∧ (y.ptu p).seqSync = (d.ptu p).seqSync ∧ y.sys.cpStopped = false ∧ y.txSleep p = 0 := by
    have hquiet (x : Dev) : Only [.counters, .latches, .ring, .log, .pcie, .sw, .sent] [.ALM_ACTIVE, .ALM_LATCH, .PWR_STAT, .SW_BUF_GATED,
        .PRT_PTU_STAT] x (x.refreshPtu p).judgeBanks :=
      ((only_refreshPtu x p).weaken (by decide) (by decide)).andThen (only_judgeBanks _) (by decide) (by decide)
    have hlinked (x : Dev) : Linked x (x.refreshPtu p).judgeBanks := (linked_refreshPtu x p).trans (linked_judgeBanks _)
    obtain ⟨hmdue, hmseq⟩ := measured_ptu (guardEnded p d) p lat.tx ((d.port p).txDepth = 5)
    have hguardPtu : (guardEnded p d).ptu p = d.ptu p := Only.ptu hguard (by decide) p
    have hm := hmeasured (guardEnded p d) ((d.port p).txDepth = 5)
    have hl := linked_measured (guardEnded p d) p 1 lat.tx ((d.port p).txDepth = 5)
    have hfrom := hl.trans (hlinked _)
    refine ⟨((if (d.port p).txDepth = 5 then (guardEnded p d).measureLpi p 1 lat.tx else (guardEnded p d).measureWake p 1 lat.tx).refreshPtu
      p).judgeBanks, linked_guardEnded.trans hfrom, ?_, ?_, ?_, ?_, hfrom.awake p guardEnded_awake⟩
    · have hstill : (guardEnded p d).linkUp p = true := (linked_guardEnded.linkUp p).trans hup
      unfold Dev.wakeGuardEnd
      rw [if_neg (by simp [h])]
      refine (if_neg (by rw [← guardEnded, hstill]; decide)).trans ((if_neg (by simp [hagree])).trans ((if_neg (by simp [hflat])).trans ?_))
      rfl
    · rw [Only.ptu (hquiet _) (by decide) p, hmdue, hguardPtu, hdue]
    · rw [Only.ptu (hquiet _) (by decide) p, hmseq, hguardPtu]
    · have hsys := (hquiet (if (d.port p).txDepth = 5 then (guardEnded p d).measureLpi p 1 lat.tx else (guardEnded p d).measureWake p 1
        lat.tx)).part .sys (by decide)
      exact (congrArg Sys.cpStopped (hsys.trans ((hm.part .sys (by decide)).trans (hguard.part .sys (by decide))))).trans hrun
  obtain ⟨hempty, hnumber, m, hmem, hm⟩ := flushPtp_sync c hrun' hdue'
  rw [hseq'] at hnumber hm
  rw [hend]
  split
  · rw [Only.ptu (only_sendHello _ p) (by decide) p, sendHello_sent ((linked_flushPtp y p).awake p hawake)]
    exact ⟨hempty, hnumber, m, hmem, hm⟩
  · exact ⟨hempty, hnumber, m, hmem, hm⟩

/-- Settles O27: a message leaves at once on a direction that is awake and waits on one that wakes, its fields being those that the port
had; a slave whose time-out ends keeps what the time-out marked, whatever the host is told of its new state. -/
theorem announceAndSyncMaster : Obligations.AnnounceAndSyncMaster := by
  unfold Obligations.AnnounceAndSyncMaster
  refine ⟨fun s p m a i hrun hclock => ⟨fun htakes => ?_, fun hinst hstate hgrant hdue => ⟨fun hready => ?_, fun hsleep hsleep' hnew => ?_⟩,
    fun hrx hrx' hslave => ⟨?_, ?_⟩⟩, fun s p c T l hrun hclock => ⟨fun hready hT hstate hgrant => ⟨fun hone => ?_, fun htwo => ?_⟩,
      fun q hready htx => ?_, fun hlpi hstate hgrant => ?_, fun hwake hflat hagree hdue => ?_⟩⟩
  · refine completes_onDev (f := (·.cpTakes p.val (·.announceIn p.val m a))) rfl ?_
    rw [onDev_dev, cpTakes_of_runs hrun]
    have hptu := awaited_ptu p.val p.val s.dev
    exact announceIn_keeps a (((ptpSame_awaited p.val s.dev).clockPort _).trans hclock)
      (htakes.imp (fun h => by rw [hptu]; exact h) (fun h => (fromParent_of_announce m (by rw [hptu])).trans h))
  · refine completes_onDev (f := (·.whileCp (·.announceOut p.val))) rfl ?_
    rw [onDev_dev, whileCp_of_runs hrun]
    exact announceOut_sends hinst hclock hstate hgrant hdue hready
  · refine completes_onDev (f := (·.whileCp (·.announceOut p.val))) rfl ?_
    rw [onDev_dev, whileCp_of_runs hrun]
    exact announceOut_waits hinst hclock hstate hgrant hdue hsleep hsleep' hnew
  · refine completes_onDev (f := (·.whileCp (·.receiptTimeout p.val .sync))) rfl ?_
    rw [onDev_dev, whileCp_of_runs hrun]
    exact receiptTimeout_sync hclock hrx hrx' hslave
  · refine completes_onDev (f := (·.whileCp (·.receiptTimeout p.val .announce))) rfl ?_
    rw [onDev_dev, whileCp_of_runs hrun]
    exact receiptTimeout_announce hclock hrx hrx' hslave p.isLt
  · refine completes_onDev (f := (·.whileCp (·.syncOut p.val c))) rfl ?_
    have hsame := (wakeTx_of_ready hready).1
    obtain ⟨⟨b, hptu⟩, hlast⟩ := ptpSend_sync_oneStep c ((hsame.same.oneStep p.val).trans hone)
    rw [onDev_dev, whileCp_of_runs hrun, syncOut_eq c hclock hstate (txAwakeFor_of_ready hready) hgrant, ptpDue_of_ready hready, hptu, hlast,
      hsame.ptu, hsame.same.tTx _ _ (by rw [hsame.ptu]), hsame.same.ownMsg, hT]
    exact ⟨rfl, rfl⟩
  · refine completes_onDev (f := (·.whileCp (·.syncOut p.val c))) rfl ?_
    have hsame := (wakeTx_of_ready hready).1
    obtain ⟨⟨b, hptu⟩, t, hlast⟩ := ptpSend_sync_twoStep c ((hsame.same.oneStep p.val).trans htwo)
    rw [onDev_dev, whileCp_of_runs hrun, syncOut_eq c hclock hstate (txAwakeFor_of_ready hready) hgrant, ptpDue_of_ready hready, hptu, hlast,
      hsame.ptu, hsame.same.tTx _ _ (by rw [hsame.ptu]), hT]
    exact ⟨rfl, _, rfl, rfl, rfl⟩
  · refine completes_onDev (f := (·.whileCp (·.followUpOut p.val))) rfl ?_
    have hsame := (wakeTx_of_ready hready).1
    obtain ⟨hptu, hlast⟩ := ptpSend_followUp ((congrArg PtuPort.followTx (hsame.ptu p.val)).trans htx)
    rw [onDev_dev, whileCp_of_runs hrun, followUpOut_eq hclock (txAwakeFor_of_ready hready) htx, ptpDue_of_ready hready, hptu, hlast,
      hsame.same.ownMsg]
    exact ⟨rfl, rfl⟩
  · refine completes_onDev (f := (·.whileCp (·.syncOut p.val c))) rfl ?_
    rw [onDev_dev, whileCp_of_runs hrun, syncOut_eq c hclock hstate (txAwakeFor_of_lpi hlpi) hgrant]
    exact ptpDue_of_sleeping (by rw [hlpi]; decide) (by rw [hlpi]) _
  · refine completes_onDev (f := (·.wakeGuardEnd p.val l)) rfl ?_
    obtain ⟨hempty, hnumber, hsent⟩ := wakeGuardEnd_sync c l hrun (clockPort_up hclock).2 hwake hflat hagree hdue
    exact ⟨hempty, wakeGuardEnd_awake l hwake hagree, hnumber, hsent⟩

end Sys2Proof.Proofs


/-! SUPPORT. The delay mechanisms: requests, their answers, and the samples they give. -/

namespace Sys2Proof.Proofs

open Sys2Proof.Machine Sys2Proof.Safety Sys2Proof.Laws

variable {s : State} {d e : Dev} {p i : Nat} {m : PtpMsg}

/-! ## Samples -/

/-- The first sample is the mean. -/
theorem addDelay_first (x : Int) (h : (d.ptu p).delays = []) : ((d.addDelay p x).ptu p).delays = [x] ∧
    ((d.addDelay p x).ptu p).req = (d.ptu p).req ∧ ((d.addDelay p x).ptu p).presp = (d.ptu p).presp := by
  have hadvance (y : Dev) : ((y.revAdvance p).ptu p).delays = (y.ptu p).delays ∧ ((y.revAdvance p).ptu p).req = (y.ptu p).req ∧
      ((y.revAdvance p).ptu p).presp = (y.ptu p).presp := by
    unfold Dev.revAdvance
    dsimp only
    split
    · rw [setRev_ptu]
      exact ⟨rfl, rfl, rfl⟩
    · exact ⟨rfl, rfl, rfl⟩
  have hbit (y : Dev) : (y.ptuBit F.PRT_PTU_STAT_DELAY_VALID true p).ptu p = y.ptu p := by rw [Dev.ptu, Dev.ptuBit, setMark_ptus, ← Dev.ptu]
  have htake (n : Nat) : [x].take (max 1 n) = [x] := List.take_of_length_le (Nat.le_max_left 1 n)
  unfold Dev.addDelay
  dsimp only
  rw [if_neg (by simp [h]), h, htake]
  split
  · obtain ⟨hdelays, hreq, hpresp⟩ := hadvance ((d.onPtu p (fun t => { t with delays := [x], rejects := 0, mean := divFree [x].sum [x].length })).ptuBit
      F.PRT_PTU_STAT_DELAY_VALID true p)
    rw [hdelays, hreq, hpresp, hbit, onPtu_same]
    exact ⟨rfl, rfl, rfl⟩
  · rw [onPtu_same]
    exact ⟨rfl, rfl, rfl⟩

theorem peerSample_first {t1 t4 : Ticks} {turn : Int} (h : (d.ptu p).delays = []) :
    ((d.peerSample p t1 t4 turn).ptu p).delays = [divFree ((t4 : Int) - t1 - turn) 2] ∧
    ((d.peerSample p t1 t4 turn).ptu p).req = none ∧ ((d.peerSample p t1 t4 turn).ptu p).presp = none := by
  obtain ⟨hdelays, hreq, hpresp⟩ := addDelay_first (d := d.onPtu p (fun t => { t with req := none, presp := none })) (p := p)
    (divFree ((t4 : Int) - t1 - turn) 2) (by rw [onPtu_same]; exact h)
  rw [Dev.peerSample, hdelays, hreq, hpresp, onPtu_same]
  exact ⟨rfl, rfl, rfl⟩

/-- The rate of the partner is taken beside the delay. -/
theorem peerRate_ptu (theirs ours : Int) : ((d.peerRate p theirs ours).ptu p).delays = (d.ptu p).delays ∧
    ((d.peerRate p theirs ours).ptu p).req = (d.ptu p).req ∧ ((d.peerRate p theirs ours).ptu p).presp = (d.ptu p).presp := by
  unfold Dev.peerRate
  dsimp only
  rw [onPtu_same]
  split
  · split
    · exact ⟨rfl, rfl, rfl⟩
    · rw [onPtu_same]
      exact ⟨rfl, rfl, rfl⟩
  · exact ⟨rfl, rfl, rfl⟩

/-! ## End to end -/

theorem delayReqIn_answers (c : Capture) (hclock : d.clockPort p = true) (hready : d.txSleep p ≤ 1) (hstate : d.ptpState p = 6)
    (hmech : d.peerDelay p = false) (hgrant : d.granted p 9 = true) : (d.delayReqIn p m c).sent.getLast? = some (.ptp p 9
      ⟨d.clockId, p + 1, m.seq, m.corr - fracNs (d.tRx p c), wholeNs (d.tRx p c), false⟩) := by
  have hin := ptpSame_eventIn (d := d) (p := p) 1 c
  obtain ⟨b, hptu⟩ := eventIn_ptu (d := d) (p := p) 1 c
  have hgrant' : (d.eventIn p 1 c).granted p 9 = true := (hin.granted p 9 (by rw [hptu])).trans hgrant
  have hready' : (d.eventIn p 1 c).txSleep p ≤ 1 := ((only_eventIn d p 1 c).get _ _ (by decide)).trans_le hready
  have heq : d.delayReqIn p m c = (d.eventIn p 1 c).ptpDue p (.delayResp m (d.tRx p c)) := by
    unfold Dev.delayReqIn
    rw [hclock, if_neg (by decide)]
    exact if_neg (by rw [hin.ptpState, hstate, hin.peerDelay, hmech, hgrant']; decide)
  rw [heq, ptpDue_of_ready hready', ptpSend_delayResp, (hin.trans (wakeTx_of_ready hready').1.same).ownMsg]
  rfl

theorem delayRespIn_first {t3 : Ticks} {a b : Int} (hclock : d.clockPort p = true) (hreq : (d.ptu p).req = some (m.seq, t3))
    (hsync : (d.ptu p).syncTimes = some (a, b)) (hmech : d.peerDelay p = false) (hslave : d.isSlave p = true) (hnone : (d.ptu p).delays = []) :
    ((d.delayRespIn p m).ptu p).delays = [divFree ((b - a) + ((m.time : Int) - m.corr - t3)) 2] ∧ ((d.delayRespIn p m).ptu p).req = none := by
  have hcount := ptpSame_countRx (d := d) (p := p) 9
  have hptu := countRx_ptu (d := d) (p := p) 9
  have heq : d.delayRespIn p m = ((d.countRx p 9).onPtu p (fun t => { t with req := none })).addDelay p
      (divFree ((b - a) + ((m.time : Int) - m.corr - t3)) 2) := by
    unfold Dev.delayRespIn
    rw [hclock, if_neg (by decide)]
    dsimp only
    rw [hptu, hreq, hsync]
    dsimp only
    rw [if_neg (by simp [hcount.peerDelay, hmech, hcount.isSlave, hslave])]
  obtain ⟨hdelays, hreq', -⟩ := addDelay_first (d := (d.countRx p 9).onPtu p (fun t => { t with req := none })) (p := p)
    (divFree ((b - a) + ((m.time : Int) - m.corr - t3)) 2) (by rw [onPtu_same, hptu]; exact hnone)
  rw [heq, hdelays, hreq', onPtu_same]
  exact ⟨rfl, rfl⟩

/-! ## Requests -/

theorem delayReq_leaves (c : Capture) (hready : d.txSleep p ≤ 1) :
    ((d.sendDelayReq p c).ptu p).req = some ((d.ptu p).seqReq, d.tTx p c) ∧ (d.sendDelayReq p c).sent.getLast? = some (.ptp p
      (if d.peerDelay p then 2 else 1) ⟨d.clockId, p + 1, (d.ptu p).seqReq, 0, 0, false⟩) ∧ (d.sendDelayReq p c).txSleep p = 0 := by
  obtain ⟨htold, hawake⟩ := wakeTx_of_ready hready
  obtain ⟨⟨b, hptu⟩, hlast⟩ := ptpSend_delayReq (d := d.wakeTx p) (p := p) c
  have hsleep : ((d.wakeTx p).ptpSend p (.delayReq c)).txSleep p = (d.wakeTx p).txSleep p := (only_ptpSend _ _ _).get _ _ (by decide)
  rw [Dev.sendDelayReq, ptpDue_of_ready hready, hptu, hlast, hsleep, hawake, htold.ptu, htold.same.tTx _ _ (by rw [htold.ptu]),
    htold.same.peerDelay, htold.same.ownMsg]
  exact ⟨rfl, rfl, rfl⟩

theorem delayReqOut_eq (c : Capture) (hasks : d.asksDelay p = true) (hawake : d.txAwakeFor p = true) : d.delayReqOut p c = d.sendDelayReq p c := by
  rw [Dev.delayReqOut, if_neg (by simp [hasks, hawake])]

theorem delayRefresh_eq (c : Capture) (hclock : d.clockPort p = true) (hslave : d.isSlave p = true)
    (hsleep : asleep (d.txSleep p) = true ∨ asleep (d.rxSleep p) = true) : d.delayRefresh p c = (d.portEvent p 0x044).sendDelayReq p c := by
  have hcond : ¬((!d.clockPort p || !d.isSlave p || !(asleep (d.txSleep p) || asleep (d.rxSleep p))) = true) := by
    rcases hsleep with h | h <;> simp [hclock, hslave, h]
  rw [Dev.delayRefresh, if_neg hcond]

/-! ## Peer to peer -/

section
variable (hport : d.ptpPort p = true)
include hport

theorem pdelayReqIn_eq (c k : Capture) (hmech : d.peerDelay p = true) :
    d.pdelayReqIn p m c k = (d.eventIn p 2 c).ptpDue p (.pdelayResp m (d.tRx p c) k) := by
  unfold Dev.pdelayReqIn
  rw [hport, if_neg (by decide)]
  exact if_neg (by simp [(ptpSame_eventIn 2 c).peerDelay, hmech])

theorem pdelayReqIn_answers (c k : Capture) (hready : d.txSleep p ≤ 1) (hmech : d.peerDelay p = true) :
    (d.flag F.PRT_PTP_CFG_ONE_STEP p = true → (d.pdelayReqIn p m c k).sent.getLast? = some (.ptp p 3
      ⟨d.clockId, p + 1, m.seq, m.corr + ((d.tTx p k : Int) - d.tRx p c), 0, false⟩)) ∧
    (d.flag F.PRT_PTP_CFG_ONE_STEP p = false → (d.pdelayReqIn p m c k).sent.getLast? = some (.ptp p 0xA
      ⟨d.clockId, p + 1, m.seq, m.corr + fracNs (d.tTx p k), wholeNs (d.tTx p k), false⟩)) := by
  obtain ⟨b, hptu⟩ := eventIn_ptu (d := d) (p := p) 2 c
  have hready' : (d.eventIn p 2 c).txSleep p ≤ 1 := ((only_eventIn d p 2 c).get _ _ (by decide)).trans_le hready
  have htold := (wakeTx_of_ready hready').1
  have hsame := (ptpSame_eventIn (d := d) (p := p) 2 c).trans htold.same
  have htx : ((d.eventIn p 2 c).wakeTx p).tTx p k = d.tTx p k := hsame.tTx p k (by rw [htold.ptu, hptu])
  rw [pdelayReqIn_eq hport c k hmech, ptpDue_of_ready hready']
  refine ⟨fun hone => ?_, fun htwo => ?_⟩
  · rw [ptpSend_pdelayResp_oneStep _ _ _ ((hsame.oneStep p).trans hone), hsame.ownMsg, htx]
    rfl
  · rw [ptpSend_pdelayResp_twoStep _ _ _ ((hsame.oneStep p).trans htwo), hsame.ownMsg, htx]
    rfl

section
variable {t1 : Ticks} (hreq : (d.ptu p).req = some (m.seq, t1))
include hreq

theorem pdelayRespIn_oneStep (c : Capture) (hlive : d.flag F.TB_HB_STAT_FROZEN = false) (htwo : m.twoStep = false) (hnone : (d.ptu p).delays = []) :
    ((d.pdelayRespIn p (.resp m c)).ptu p).req = none ∧
    ((d.pdelayRespIn p (.resp m c)).ptu p).delays = [divFree ((d.tRx p c : Int) - t1 - m.corr) 2] := by
  obtain ⟨b, hptu⟩ := eventIn_ptu (d := d) (p := p) 3 c
  have hlive' := (ptpSame_eventIn (d := d) (p := p) 3 c).frozen.trans hlive
  have heq : d.pdelayRespIn p (.resp m c) = (d.eventIn p 3 c).peerSample p t1 (d.tRx p c) m.corr := by
    unfold Dev.pdelayRespIn
    rw [hport, if_neg (by decide)]
    dsimp only
    rw [hptu, hreq]
    dsimp only
    rw [if_neg (by simp [hlive']), htwo, if_neg (by decide)]
  obtain ⟨hdelays, hreq', -⟩ := peerSample_first (d := d.eventIn p 3 c) (p := p) (t1 := t1) (t4 := d.tRx p c) (turn := m.corr)
    (by rw [hptu]; exact hnone)
  rw [heq, hdelays, hreq']
  exact ⟨rfl, rfl⟩

theorem pdelayRespIn_twoStep (c : Capture) (hlive : d.flag F.TB_HB_STAT_FROZEN = false) (htwo : m.twoStep = true) :
    ((d.pdelayRespIn p (.resp m c)).ptu p).presp = some (m.seq, m.time - m.corr, d.tRx p c) ∧
    ((d.pdelayRespIn p (.resp m c)).ptu p).req = some (m.seq, t1) := by
  obtain ⟨b, hptu⟩ := eventIn_ptu (d := d) (p := p) 3 c
  have hlive' := (ptpSame_eventIn (d := d) (p := p) 3 c).frozen.trans hlive
  have heq : d.pdelayRespIn p (.resp m c) =
      (d.eventIn p 3 c).onPtu p (fun t => { t with presp := some (m.seq, (m.time : Int) - m.corr, d.tRx p c) }) := by
    unfold Dev.pdelayRespIn
    rw [hport, if_neg (by decide)]
    dsimp only
    rw [hptu, hreq]
    dsimp only
    rw [if_neg (by simp [hlive']), htwo, if_pos rfl]
  rw [heq, onPtu_same, hptu]
  exact ⟨rfl, hreq⟩

theorem pdelayRespIn_followUp {x : Int} {U : Ticks} (hpresp : (d.ptu p).presp = some (m.seq, x, U)) (hnone : (d.ptu p).delays = []) :
    ((d.pdelayRespIn p (.followUp m)).ptu p).req = none ∧ ((d.pdelayRespIn p (.followUp m)).ptu p).presp = none ∧
    ((d.pdelayRespIn p (.followUp m)).ptu p).delays = [divFree ((U : Int) - t1 - (m.time + m.corr - x)) 2] := by
  have hptu := countRx_ptu (d := d) (p := p) 0xA
  have heq : d.pdelayRespIn p (.followUp m) =
      ((d.countRx p 0xA).peerSample p t1 U ((m.time : Int) + m.corr - x)).peerRate p ((m.time : Int) + m.corr) U := by
    unfold Dev.pdelayRespIn
    rw [hport, if_neg (by decide)]
    dsimp only
    rw [hptu, hreq, hpresp]
    dsimp only
    rw [if_neg (by simp)]
  obtain ⟨hdelays, hreq', hpresp'⟩ := peerSample_first (d := d.countRx p 0xA) (p := p) (t1 := t1) (t4 := U) (turn := (m.time : Int) + m.corr - x)
    (by rw [hptu]; exact hnone)
  obtain ⟨hd, hr, hp⟩ := peerRate_ptu (d := (d.countRx p 0xA).peerSample p t1 U ((m.time : Int) + m.corr - x)) (p := p) ((m.time : Int) + m.corr) U
  rw [heq, hd, hr, hp, hdelays, hreq', hpresp']
  exact ⟨rfl, rfl, rfl⟩

end
end

/-- Settles O28: a request and its answer carry what the port had when they were formed, the cores that a message wakes and its counts
touching none of it, and the first sample is the mean. -/
theorem delayMechanisms : Obligations.DelayMechanisms := by
  unfold Obligations.DelayMechanisms
  refine ⟨fun s p m c T t3 a b hrun hclock => ?_, fun s p m c k T U t1 x hrun hport hT => ?_⟩
  · have hsame := ptpSame_awaited p.val s.dev
    have hptu := awaited_ptu p.val p.val s.dev
    have hsleep : (awaited p.val s.dev).txSleep p.val = s.dev.txSleep p.val := (only_awaited p.val s.dev).get _ _ (by decide)
    have hclock' := (hsame.clockPort p.val).trans hclock
    refine ⟨fun hT hready hstate hmech hgrant => ?_, fun hreq hsync hmech hslave hnone => ?_, fun hasks hlpi => ?_, fun hasks hready => ?_,
      fun hslave hsleeps => ⟨fun hready => ?_, fun hs hs' => ?_⟩⟩
    · refine completes_onDev (f := (·.cpTakes p.val (·.delayReqIn p.val m c))) rfl ?_
      rw [onDev_dev, cpTakes_of_runs hrun, delayReqIn_answers c hclock' (hsleep.trans_le hready) ((hsame.ptpState _).trans hstate)
        ((hsame.peerDelay _).trans hmech) ((hsame.granted _ _ (by rw [hptu])).trans hgrant), hsame.clockId, hsame.tRx _ _ (by rw [hptu]), hT]
      rfl
    · refine completes_onDev (f := (·.cpTakes p.val (·.delayRespIn p.val m))) rfl ?_
      rw [onDev_dev, cpTakes_of_runs hrun]
      exact delayRespIn_first hclock' (by rw [hptu]; exact hreq) (by rw [hptu]; exact hsync) ((hsame.peerDelay _).trans hmech)
        ((hsame.isSlave _).trans hslave) (by rw [hptu]; exact hnone)
    · refine completes_onDev (f := (·.whileCp (·.delayReqOut p.val c))) rfl ?_
      rw [onDev_dev, whileCp_of_runs hrun, delayReqOut_eq c hasks (txAwakeFor_of_lpi hlpi)]
      exact ptpDue_of_sleeping (by rw [hlpi]; decide) (by rw [hlpi]) _
    · refine completes_onDev (f := (·.whileCp (·.delayReqOut p.val c))) rfl ?_
      obtain ⟨hreq, hlast, -⟩ := delayReq_leaves c hready
      rw [onDev_dev, whileCp_of_runs hrun, delayReqOut_eq c hasks (txAwakeFor_of_ready hready)]
      exact ⟨hreq, hlast⟩
    · have hreport := report_portEvent s.dev p.val 0x044 0 1
      have hcount : PtpSame s.dev (s.dev.portEvent p.val 0x044) :=
        .of_only (P := reports) (R := [.ALM_ACTIVE, .ALM_LATCH]) (.portEvent .refl _ _ _ _ (by decide)) (by decide)
      have hptu' : (s.dev.portEvent p.val 0x044).ptu p.val = s.dev.ptu p.val := by rw [Dev.ptu, hreport.ptus, ← Dev.ptu]
      have hsleep' : (s.dev.portEvent p.val 0x044).txSleep p.val = s.dev.txSleep p.val := hreport.get _ _ rfl
      refine completes_onDev (f := (·.whileCp (·.delayRefresh p.val c))) rfl ?_
      obtain ⟨hreq, -, hawake⟩ := delayReq_leaves c (hsleep'.trans_le hready)
      rw [onDev_dev, whileCp_of_runs hrun, delayRefresh_eq c hclock hslave hsleeps, hreq, hawake, hptu', hcount.tTx _ _ (by rw [hptu'])]
      exact ⟨rfl, rfl⟩
    · have hreport := report_portEvent s.dev p.val 0x044 0 1
      have hptu' : (s.dev.portEvent p.val 0x044).ptu p.val = s.dev.ptu p.val := by rw [Dev.ptu, hreport.ptus, ← Dev.ptu]
      have hsleep' : (s.dev.portEvent p.val 0x044).txSleep p.val = s.dev.txSleep p.val := hreport.get _ _ rfl
      refine completes_onDev (f := (·.whileCp (·.delayRefresh p.val c))) rfl ?_
      obtain ⟨hdue, hwake⟩ := ptpDue_of_sleeping (hsleep'.ge.trans' hs) (hsleep'.trans_le hs') (.delayReq c)
      rw [onDev_dev, whileCp_of_runs hrun, delayRefresh_eq c hclock hslave hsleeps, Dev.sendDelayReq, hdue, hwake, hptu']
      exact ⟨rfl, rfl⟩
  · have hsame := ptpSame_awaited p.val s.dev
    have hptu := awaited_ptu p.val p.val s.dev
    have hsleep : (awaited p.val s.dev).txSleep p.val = s.dev.txSleep p.val := (only_awaited p.val s.dev).get _ _ (by decide)
    have hport' := (hsame.ptpPort p.val).trans hport
    have htrx : (awaited p.val s.dev).tRx p.val c = T := (hsame.tRx _ _ (by rw [hptu])).trans hT.symm
    refine ⟨fun hU hready hmech => ?_, fun hreq => ?_⟩
    · obtain ⟨hone, htwo⟩ := pdelayReqIn_answers (m := m) hport' c k (hsleep.trans_le hready) ((hsame.peerDelay _).trans hmech)
      rw [hsame.oneStep, hsame.clockId, htrx, hsame.tTx _ _ (by rw [hptu]), ← hU] at hone
      rw [hsame.oneStep, hsame.clockId, hsame.tTx _ _ (by rw [hptu]), ← hU] at htwo
      refine ⟨fun h => ?_, fun h => ?_⟩
      · refine completes_onDev (f := (·.cpTakes p.val (·.pdelayReqIn p.val m c k))) rfl ?_
        rw [onDev_dev, cpTakes_of_runs hrun]
        exact hone h
      · refine completes_onDev (f := (·.cpTakes p.val (·.pdelayReqIn p.val m c k))) rfl ?_
        rw [onDev_dev, cpTakes_of_runs hrun]
        exact htwo h
    · have hreq' : ((awaited p.val s.dev).ptu p.val).req = some (m.seq, t1) := by rw [hptu]; exact hreq
      refine ⟨fun hlive htwo hnone => ?_, fun hlive htwo => ?_, fun hpresp hnone => ?_⟩
      · refine completes_onDev (f := (·.cpTakes p.val (·.pdelayRespIn p.val (.resp m c)))) rfl ?_
        have hshown := pdelayRespIn_oneStep hport' hreq' c (hsame.frozen.trans hlive) htwo (by rw [hptu]; exact hnone)
        rw [htrx] at hshown
        rw [onDev_dev, cpTakes_of_runs hrun]
        exact hshown
      · refine completes_onDev (f := (·.cpTakes p.val (·.pdelayRespIn p.val (.resp m c)))) rfl ?_
        have hshown := pdelayRespIn_twoStep hport' hreq' c (hsame.frozen.trans hlive) htwo
        rw [htrx] at hshown
        rw [onDev_dev, cpTakes_of_runs hrun]
        exact hshown
      · refine completes_onDev (f := (·.cpTakes p.val (·.pdelayRespIn p.val (.followUp m)))) rfl ?_
        rw [onDev_dev, cpTakes_of_runs hrun]
        exact pdelayRespIn_followUp hport' hreq' (by rw [hptu]; exact hpresp) (by rw [hptu]; exact hnone)

end Sys2Proof.Proofs


/-! SUPPORT. The best master decision, the configuration of a port's time transfer, and unicast grants. -/

namespace Sys2Proof.Proofs

open Sys2Proof.Machine Sys2Proof.Safety Sys2Proof.Laws

variable {s : State} {d e : Dev} {p q i : Nat} {m : PtpMsg}

/-! ## A change of state beside another port -/

theorem setPtpState_get (st : Nat) (g : Fld) (u : Nat) (hr : g.reg = .PRT_PTU_STAT) (hs : apart F.PRT_PTU_STAT_PORT_STATE g = true)
    (hl : apart F.PRT_PTU_STAT_L1_TRACK g = true) (hc : apart F.PRT_PTU_STAT_CHANGED g = true) :
    (d.setPtpState p st).get g u = d.get g u := by
  by_cases h : d.ptpState p = st
  · rw [Dev.setPtpState, if_pos h]
  · obtain ⟨fails, parent, heq⟩ := setPtpState_eq h
    rw [heq, judgePortCand_get g u hr hl hc, (only_stateTold st fails parent).get g u (by rw [hr]; decide)]
    exact get_setMark_apart _ _ _ _ _ _ _ (by decide) (by decide) hs hc

theorem setPtpState_other (st : Nat) (h : q ≠ p) : (d.setPtpState q st).ptpState p = d.ptpState p := by
  by_cases hst : d.ptpState q = st
  · rw [Dev.setPtpState, if_pos hst]
  · obtain ⟨fails, parent, heq⟩ := setPtpState_eq hst
    rw [heq, (ptpSame_judgePortCand _ q).ptpState]
    refine ((only_stateTold st fails parent).get F.PRT_PTU_STAT_PORT_STATE p (by decide)).trans ?_
    exact get_setMark_unit _ _ _ _ _ _ _ h.symm

/-! ## The decisions of a PTP clock -/

/-- A decision changes the state of its port, or nothing. -/
theorem decidePort_cases (p : Nat) (best : Option Nat) : d.decidePort p best = d ∨ ∃ st, d.decidePort p best = d.setPtpState p st := by
  have hmaster : d.towardsMaster p = d ∨ ∃ st, d.towardsMaster p = d.setPtpState p st := by
    unfold Dev.towardsMaster
    split
    · split
      · exact .inr ⟨5, rfl⟩
      · exact .inl rfl
    · exact .inr ⟨6, rfl⟩
    · exact .inl rfl
    · exact .inr ⟨5, rfl⟩
  have hslave : ∃ st, d.towardsSlave p = d.setPtpState p st := ⟨_, rfl⟩
  unfold Dev.decidePort
  split
  · exact .inr ⟨4, rfl⟩
  · split
    · exact .inr ⟨6, rfl⟩
    · exact .inr ⟨7, rfl⟩
    · split
      · exact .inr hslave
      · exact .inr ⟨4, rfl⟩
    · split
      · exact .inr hslave
      · extract_lets rival
        split
        · exact .inr ⟨4, rfl⟩
        · split
          · exact .inr ⟨7, rfl⟩
          · exact hmaster

theorem decidePort_other (best : Option Nat) (h : q ≠ p) : (d.decidePort q best).ptpState p = d.ptpState p := by
  rcases decidePort_cases (d := d) q best with heq | ⟨st, heq⟩
  · rw [heq]
  · rw [heq, setPtpState_other st h]

theorem decidePort_pin (best : Option Nat) (q u : Nat) : (d.decidePort q best).get F.PRT_PTP_CFG_ROLE_PIN u = d.get F.PRT_PTP_CFG_ROLE_PIN u :=
  (only_decidePort d q best).get _ _ (by decide)

/-- The state that a pin to MASTER or PASSIVE gives. -/
theorem decidePort_pinned {k : Nat} (best : Option Nat) (hk : k = 1 ∨ k = 2) (hpin : d.get F.PRT_PTP_CFG_ROLE_PIN p = k) (h1 : d.ptpState p ≠ 1)
    (h3 : d.ptpState p ≠ 3) : (d.decidePort p best).ptpState p = 5 + k := by
  unfold Dev.decidePort
  rw [if_neg (by simp [h1, h3]), hpin]
  rcases hk with hk | hk <;> subst hk
  · exact (setPtpState_shows (by decide)).1
  · exact (setPtpState_shows (by decide)).1

/-- What each element of a list leaves, and one of them brings about, holds after them all. -/
theorem each_reaches {α : Type} {I J : Dev → Prop} {f : Dev → α → Dev} {a : α} (hI : ∀ e b, I e → I (f e b)) (hto : ∀ e, I e → J (f e a))
    (hJ : ∀ e b, J e → J (f e b)) (l : List α) (h : a ∈ l) (d : Dev) (hd : I d) : J (d.each l f) := by
  have hstays (l : List α) (e : Dev) (he : J e) : J (e.each l f) := by
    unfold Dev.each
    induction l generalizing e with
    | nil => exact he
    | cons b l ih => exact ih _ (hJ e b he)
  unfold Dev.each
  induction l generalizing d with
  | nil => exact absurd h List.not_mem_nil
  | cons b l ih =>
    rcases List.mem_cons.mp h with heq | hmem
    · subst heq
      exact hstays l _ (hto d hd)
    · exact ih hmem _ (hI d b hd)

/-- A pinned port of the clock takes the state of its pin, whatever the other ports are decided to be. -/
theorem decisions_pinned {k : Nat} (best : Option Nat) (l : List Nat) (hp : p ∈ l) (hk : k = 1 ∨ k = 2)
    (hpin : d.get F.PRT_PTP_CFG_ROLE_PIN p = k) (h1 : d.ptpState p ≠ 1) (h3 : d.ptpState p ≠ 3) :
    (d.each l (fun d p => d.decidePort p best)).ptpState p = 5 + k := by
  refine (each_reaches (I := fun e => e.get F.PRT_PTP_CFG_ROLE_PIN p = k ∧ e.ptpState p ≠ 1 ∧ e.ptpState p ≠ 3)
    (J := fun e => e.get F.PRT_PTP_CFG_ROLE_PIN p = k ∧ e.ptpState p = 5 + k) ?_ ?_ ?_ l hp d ⟨hpin, h1, h3⟩).2
  · intro e q ⟨hpin, h1, h3⟩
    refine ⟨(decidePort_pin best q p).trans hpin, ?_⟩
    by_cases hq : q = p
    · subst hq
      rw [decidePort_pinned best hk hpin h1 h3]
      omega
    · rw [decidePort_other best hq]
      exact ⟨h1, h3⟩
  · exact fun e ⟨hpin, h1, h3⟩ => ⟨(decidePort_pin best p p).trans hpin, decidePort_pinned best hk hpin h1 h3⟩
  · intro e q ⟨hpin, hst⟩
    refine ⟨(decidePort_pin best q p).trans hpin, ?_⟩
    by_cases hq : q = p
    · subst hq
      exact decidePort_pinned best hk hpin (by omega) (by omega)
    · rw [decidePort_other best hq, hst]

/-- The best port of a clock, where it is better than the module. -/
def bestOf (d : Dev) (i : Nat) : Option Nat :=
  match d.bestPort ((d.portsOfInst i).filter d.mayFollow) with
  | none => none
  | some p =>
    if d.get F.PRT_PTP_CFG_ROLE_PIN p = 3 then some p
    else match d.partnerKey p with
      | some k => if d.slaveOnly i || lexLess k (d.ownKey i) then some p else none
      | none => none

theorem bmca_state (hmade : (d.inst i).made = true) (hkind : (d.inst i).kind = 0) :
    (d.bmca i).ptpState p = (d.each (d.portsOfInst i) (fun e p => e.decidePort p (bestOf d i))).ptpState p := by
  have hdue (l : List Nat) (e : Dev) : (e.each l Dev.signalDue).ptpState p = e.ptpState p :=
    each_get (fun y q => (only_signalDue y q).get _ _ (by decide)) l e
  unfold Dev.bmca
  rw [if_neg (by simp [hmade, hkind])]
  exact hdue _ _

/-- The only port of a clock. -/
theorem bmca_alone (hmade : (d.inst i).made = true) (hkind : (d.inst i).kind = 0) (halone : d.portsOfInst i = [p]) :
    (d.bmca i).ptpState p = (d.decidePort p (bestOf d i)).ptpState p := by
  rw [bmca_state hmade hkind, halone]
  rfl

theorem instOf_of_mem (h : p ∈ d.portsOfInst i) : d.instOf p = some i := by
  have h' := (List.mem_filter.mp h).2
  exact eq_of_beq (Bool.and_eq_true_iff.mp h').2

/-- Of one unpinned port, whose partner's Announce is better than the module. -/
theorem bestOf_alone {a : AnnounceData} (halone : d.portsOfInst i = [p]) (hpin : d.get F.PRT_PTP_CFG_ROLE_PIN p = 0)
    (hann : (d.ptu p).announce = some (m, a)) (hmaster : d.flag F.PRT_PTP_CFG_MASTER_ONLY p = false)
    (hless : lexLess (d.portKey p (m, a)) (d.ownKey i) = true) : bestOf d i = some p := by
  have hmay : d.mayFollow p = true := by simp [Dev.mayFollow, hann, hmaster, hpin]
  have hkey : d.partnerKey p = some (d.portKey p (m, a)) := by rw [Dev.partnerKey, hann]; rfl
  have hbest : d.bestPort [p] = some p := by simp [Dev.bestPort, hpin]
  have hfilter : [p].filter d.mayFollow = [p] := by simp [hmay]
  unfold bestOf
  rw [halone, hfilter, hbest]
  dsimp only
  rw [hpin, if_neg (by decide), hkey]
  dsimp only
  rw [hless, Bool.or_true, if_pos rfl]

/-- Of one port whose partner is silent. -/
theorem bestOf_silent (halone : d.portsOfInst i = [p]) (hann : (d.ptu p).announce = none) : bestOf d i = none := by
  have hmay : d.mayFollow p = false := by simp [Dev.mayFollow, hann]
  have hfilter : [p].filter d.mayFollow = [] := by simp [hmay]
  unfold bestOf
  rw [halone, hfilter]
  rfl

/-- An unpinned port. -/
theorem decidePort_free (best : Option Nat) (hpin : d.get F.PRT_PTP_CFG_ROLE_PIN p = 0) (h1 : d.ptpState p ≠ 1) (h3 : d.ptpState p ≠ 3) :
    (best = some p → d.decidePort p best = d.towardsSlave p) ∧
    (best = none → d.decidePort p best = if (d.instOf p).any d.slaveOnly then d.setPtpState p 4 else d.towardsMaster p) := by
  unfold Dev.decidePort
  rw [if_neg (by simp [h1, h3]), hpin]
  refine ⟨fun h => ?_, fun h => ?_⟩
  · exact if_pos h
  · subst h
    rfl

/-! ## A port that changes its clock -/

theorem setActive_unqualified {id : Nat} (on : Bool) (h : d.flag F.RSEL_CAND_STAT_QUALIFIED id = false) :
    (d.setActive id on).flag F.RSEL_CAND_STAT_QUALIFIED id = false := by
  cases on with
  | false => exact (setActive_off_flags d id).2
  | true =>
    have hset : (d.setB F.RSEL_CAND_STAT_ACTIVE true id).get F.RSEL_CAND_STAT_QUALIFIED id = d.get F.RSEL_CAND_STAT_QUALIFIED id :=
      get_set_apart _ _ _ _ _ _ (by decide) (by decide)
    have hon : d.setActive id true = (d.setB F.RSEL_CAND_STAT_ACTIVE true id).restartQual id := by
      unfold Dev.setActive
      exact if_pos rfl
    rw [hon, Dev.flag, restartQual_get _ _ _ _ (by decide), hset, ← Dev.flag, h]

theorem judgePortCand_unqualified (h : d.flag F.RSEL_CAND_STAT_QUALIFIED (4 + p) = false) :
    (d.judgePortCand p).flag F.RSEL_CAND_STAT_QUALIFIED (4 + p) = false := by
  unfold Dev.judgePortCand
  rw [(only_judgeL1 _ p).flag _ _ (by decide)]
  split
  · exact h
  · exact setActive_unqualified _ h

theorem setPtpState_unqualified (st : Nat) (h : d.flag F.RSEL_CAND_STAT_QUALIFIED (4 + p) = false) :
    (d.setPtpState p st).flag F.RSEL_CAND_STAT_QUALIFIED (4 + p) = false := by
  by_cases hst : d.ptpState p = st
  · rw [Dev.setPtpState, if_pos hst]
    exact h
  · obtain ⟨fails, parent, heq⟩ := setPtpState_eq hst
    have hshown : Only [] [.PRT_PTU_STAT] d (stateShown p st d) := .setMark .refl _ _ _ _ (by decide) (by decide)
    rw [heq]
    refine judgePortCand_unqualified ?_
    rw [(only_stateTold st fails parent).flag _ _ (by decide), hshown.flag _ _ (by decide)]
    exact h

/-- The port leaves its clock and enters another. -/
def instMoved (p : Nat) (d : Dev) : Dev := (((d.disqualify (4 + p) 6).ptpBegin p).resetRates p).enterInst p

/-- The port begins anew with a state. -/
theorem ptpBegin_eq : ∃ f st, d.ptpBegin p = (d.onPtu p f).setPtpState p st := ⟨_, _, rfl⟩

theorem enterInst_cases : d.enterInst p = d.judgeSleep p ∨ d.enterInst p = (d.setPtpState p 1).judgeSleep p := by
  unfold Dev.enterInst
  split
  · exact .inr rfl
  · exact .inl rfl

theorem instMoved_cfg (f : Fld) (hr : f.reg = .PRT_PTP_CFG) : (instMoved p d).get f p = d.get f p := by
  rw [instMoved, (only_enterInst _ p).get _ _ (by rw [hr]; decide), (only_resetRates _ p).get _ _ (by rw [hr]; decide),
    (only_ptpBegin _ p).get _ _ (by rw [hr]; decide), (only_disqualify _ _ _).get _ _ (by rw [hr]; decide)]

theorem instMoved_pinLost : (instMoved p d).get F.PRT_PTU_STAT_PIN_LOST p = d.get F.PRT_PTU_STAT_PIN_LOST p := by
  have hstate (y : Dev) (st : Nat) : (y.setPtpState p st).get F.PRT_PTU_STAT_PIN_LOST p = y.get F.PRT_PTU_STAT_PIN_LOST p :=
    setPtpState_get st _ _ rfl (by decide) (by decide) (by decide)
  have henter (y : Dev) : (y.enterInst p).get F.PRT_PTU_STAT_PIN_LOST p = y.get F.PRT_PTU_STAT_PIN_LOST p := by
    rcases enterInst_cases (d := y) (p := p) with h | h
    · rw [h, (only_judgeSleep y p).get _ _ (by decide)]
    · rw [h, (only_judgeSleep _ p).get _ _ (by decide), hstate]
  obtain ⟨f, st, hbegin⟩ := ptpBegin_eq (d := d.disqualify (4 + p) 6) (p := p)
  rw [instMoved, henter, (only_resetRates _ p).get _ _ (by decide), hbegin, hstate, onPtu_get, (only_disqualify _ _ _).get _ _ (by decide)]

theorem instMoved_unqualified : (instMoved p d).flag F.RSEL_CAND_STAT_QUALIFIED (4 + p) = false := by
  have henter (y : Dev) (h : y.flag F.RSEL_CAND_STAT_QUALIFIED (4 + p) = false) :
      (y.enterInst p).flag F.RSEL_CAND_STAT_QUALIFIED (4 + p) = false := by
    rcases enterInst_cases (d := y) (p := p) with heq | heq
    · rw [heq, (only_judgeSleep y p).flag _ _ (by decide)]
      exact h
    · rw [heq, (only_judgeSleep _ p).flag _ _ (by decide)]
      exact setPtpState_unqualified 1 h
  obtain ⟨f, st, hbegin⟩ := ptpBegin_eq (d := d.disqualify (4 + p) 6) (p := p)
  refine henter _ ?_
  rw [(only_resetRates _ p).flag _ _ (by decide), hbegin]
  exact setPtpState_unqualified st (disqualify_flag _ _ 6)

/-! ## A write of the configuration -/

/-- A restart of the mean path delay leaves the configuration, the pin and the candidate. -/
theorem delayRestarted_shows (b : Bool) : (∀ f : Fld, f.reg = .PRT_PTP_CFG → (d.when b (·.restartDelay p)).get f p = d.get f p) ∧
    (d.when b (·.restartDelay p)).flag F.PRT_PTU_STAT_PIN_LOST p = d.flag F.PRT_PTU_STAT_PIN_LOST p ∧
    (d.when b (·.restartDelay p)).flag F.RSEL_CAND_STAT_QUALIFIED (4 + p) = d.flag F.RSEL_CAND_STAT_QUALIFIED (4 + p) := by
  cases b with
  | false =>
    rw [when_false]
    exact ⟨fun _ _ => rfl, rfl, rfl⟩
  | true =>
    rw [when_true]
    refine ⟨fun f hr => (only_restartDelay d p).get _ _ (by rw [hr]; decide), ?_, (only_restartDelay d p).flag _ _ (by decide)⟩
    rw [Dev.restartDelay, Dev.ptuBit, flag_setMark_apart _ _ _ _ _ _ _ (by decide) (by decide) (by decide) (by decide), Dev.flag,
      onPtu_get, ← Dev.flag]

/-- The new configuration, and the end of a lost pin. -/
def cfgTaken (p : Nat) (v : Word) (d : Dev) : Dev := (d.store .PRT_PTP_CFG p v).setPinLost p false

theorem writePtpCfg_eq (v : Word) (hpin : bitsOf v.toNat 6 2 ≠ 3) : ∃ delay, d.writePtpCfg p v =
    (if bitsOf v.toNat 0 3 ≠ d.get F.PRT_PTP_CFG_INSTANCE p then instMoved p (cfgTaken p v d) else cfgTaken p v d).when delay (·.restartDelay p) := by
  have hsecond (b c : Bool) : ¬((F.PRT_PTP_CFG_ROLE_PIN.of v == 3 && b && c) = true) := by
    have : F.PRT_PTP_CFG_ROLE_PIN.of v ≠ 3 := hpin
    simp [this]
  have hlost : (F.PRT_PTP_CFG_ROLE_PIN.of v != 3) = true := bne_iff_ne.mpr hpin
  unfold Dev.writePtpCfg
  extract_lets inst second tr moves delay d1 d2 d3
  refine ⟨delay, ?_⟩
  rw [if_neg (hsecond _ _)]
  have hwhen : d2 = d1.when (F.PRT_PTP_CFG_ROLE_PIN.of v != 3) (fun d => d.setPinLost p false) := rfl
  have hd2 : d2 = cfgTaken p v d := by
    rw [hwhen, hlost, when_true]
    rfl
  have hd3 : d3 = if moves then instMoved p d2 else d2 := rfl
  have hmoves : moves = (bitsOf v.toNat 0 3 ≠ d.get F.PRT_PTP_CFG_INSTANCE p) := rfl
  simp only [hd3, hd2, hmoves]

theorem writePtpCfg_shows (v : Word) (hpin : bitsOf v.toNat 6 2 ≠ 3) :
    (d.writePtpCfg p v).get F.PRT_PTP_CFG_INSTANCE p = bitsOf v.toNat 0 3 ∧
    (d.writePtpCfg p v).get F.PRT_PTP_CFG_ROLE_PIN p = bitsOf v.toNat 6 2 ∧ (d.writePtpCfg p v).flag F.PRT_PTU_STAT_PIN_LOST p = false ∧
    (bitsOf v.toNat 0 3 ≠ d.get F.PRT_PTP_CFG_INSTANCE p → (d.writePtpCfg p v).flag F.RSEL_CAND_STAT_QUALIFIED (4 + p) = false) := by
  have hlost := (setPinLost_shows (d := d.store .PRT_PTP_CFG p v) (p := p) (b := false)).2.1
  have htaken (f : Fld) (hr : f.reg = .PRT_PTP_CFG) (hfree : freeField f = true) : (cfgTaken p v d).get f p = bitsOf v.toNat f.lo f.width := by
    rw [cfgTaken, (only_setPinLost _ p false).get _ _ (by rw [hr]; decide), ← hr, store_get_free p v hfree]
  obtain ⟨delay, heq⟩ := writePtpCfg_eq (d := d) (p := p) v hpin
  obtain ⟨hcfg, hpl, hq⟩ := delayRestarted_shows (p := p) (d := if bitsOf v.toNat 0 3 ≠ d.get F.PRT_PTP_CFG_INSTANCE p then instMoved p (cfgTaken p v d)
    else cfgTaken p v d) delay
  rw [heq, hcfg _ rfl, hcfg _ rfl, hpl, hq]
  split
  · rw [instMoved_cfg _ rfl, instMoved_cfg _ rfl, htaken _ rfl (by decide), htaken _ rfl (by decide), Dev.flag, instMoved_pinLost, ← Dev.flag]
    exact ⟨rfl, rfl, hlost, fun _ => instMoved_unqualified⟩
  · next hsame =>
    rw [htaken _ rfl (by decide), htaken _ rfl (by decide)]
    exact ⟨rfl, rfl, hlost, fun h => absurd h hsame⟩

/-- A second port pinned to SLAVE in one clock. -/
theorem writePtpCfg_refused (v : Word) (hq : q ∈ d.portList) (hne : q ≠ p) (hpin : d.get F.PRT_PTP_CFG_ROLE_PIN q = 3)
    (hv : bitsOf v.toNat 6 2 = 3) (hinst : bitsOf v.toNat 0 3 = d.get F.PRT_PTP_CFG_INSTANCE q) (hlt : d.get F.PRT_PTP_CFG_INSTANCE q < 4) :
    d.writePtpCfg p v = d.set F.PRT_PTU_STAT_CFG_REJ 1 p := by
  have hofPin : F.PRT_PTP_CFG_ROLE_PIN.of v = 3 := hv
  have hofInst : F.PRT_PTP_CFG_INSTANCE.of v = d.get F.PRT_PTP_CFG_INSTANCE q := hinst
  unfold Dev.writePtpCfg
  extract_lets inst second
  have hsecond : second = true := by
    have hany : d.portList.any (fun r => r != p && d.get F.PRT_PTP_CFG_INSTANCE r == inst && d.get F.PRT_PTP_CFG_ROLE_PIN r == 3) = true :=
      List.any_eq_true.mpr ⟨q, hq, by simp [inst, hne, hofInst, hpin]⟩
    have hlt' : decide (inst < 4) = true := decide_eq_true (by rw [← hofInst] at hlt; exact hlt)
    simp only [second, hany, hofPin, hlt', Bool.and_true]
    rfl
  rw [if_pos hsecond]

/-! ## Unicast grants -/

/-- What the messages of the time transfer that are due leave of the grants. -/
theorem ptpDue_signal_grants (x : PtpMsg) (target tl : List Byte) :
    ((d.ptpDue p (.signal x target tl)).ptu p).grants = (d.ptu p).grants := by
  have hwake : (d.wakeTx p).ptu p = d.ptu p := Only.ptu (only_wakeTx d p) (by decide) p
  unfold Dev.ptpDue
  dsimp only
  split
  · rw [Only.ptu (only_judgeIdle _ p) (by decide) p, onPtu_same, hwake]
  · exact (congrArg PtuPort.grants (Only.ptu (only_signalOut (d.wakeTx p) p x target tl) (by decide) p)).trans (congrArg PtuPort.grants hwake)

theorem ptpDue_signal_last (x : PtpMsg) (target tl : List Byte) (h : d.txSleep p ≤ 1) :
    (d.ptpDue p (.signal x target tl)).sent.getLast? = some (.ptp p 0xC x) := by
  rw [ptpDue_of_ready h]
  exact last_emit _ _

/-- A TLV of the telecom profile is handled, and answered where the direction is awake. -/
def tlvAnswered (p : Nat) (m : PtpMsg) (l : List (Nat × List Byte)) (d : Dev) : Dev :=
  if d.txAwakeFor p then d.ptpDue p (.signal (d.ownMsg p m.seq 0 0 false) (portIdentity m.clockId m.portNum) (l.flatMap answerTlv)) else d

theorem signalingIn_eq {t : Nat} {tl b : List Byte} (hclock : d.clockPort p = true) (hprof : d.profileOf p = 4)
    (htlv : tlvsOf tl.length tl = [(t, b)]) (ht : t = 4 ∨ t = 6) (f : PtuPort → PtuPort)
    (htake : (d.countRx p 0xC).takeTlv p (t, b) = (d.countRx p 0xC).onPtu p f) :
    d.signalingIn p m tl = tlvAnswered p m [(t, b)] ((d.countRx p 0xC).onPtu p f) := by
  have hprof' : ((d.countRx p 0xC).onPtu p f).profileOf p = 4 := (((ptpSame_countRx 0xC).trans (ptpSame_onPtu f)).profileOf p).trans hprof
  have hany : ([(t, b)].any fun x => x.1 == 0x0004 || x.1 == 0x0006) = true := by rcases ht with h | h <;> simp [h]
  have heach : (d.countRx p 0xC).each [(t, b)] (fun d t => d.takeTlv p t) = (d.countRx p 0xC).onPtu p f := htake
  unfold Dev.signalingIn
  rw [hclock, if_neg (by decide), htlv]
  dsimp only
  rw [heach, hprof', hany]
  rfl

theorem takeTlv_request (b : List Byte) (h : d.profileOf p = 4) : d.takeTlv p (4, b) =
    d.onPtu p (fun x => { x with grants := byteAt b 0 / 16 :: x.grants.filter (· != byteAt b 0 / 16) }) := if_pos h

theorem takeTlv_cancel (b : List Byte) (h : d.profileOf p = 4) : d.takeTlv p (6, b) =
    d.onPtu p (fun x => { x with
      grants := x.grants.filter (· != byteAt b 0 / 16), held := x.held.filter (· != byteAt b 0 / 16) }) := if_pos h

theorem tlvAnswered_grants (m : PtpMsg) (l : List (Nat × List Byte)) : ((tlvAnswered p m l d).ptu p).grants = (d.ptu p).grants := by
  unfold tlvAnswered
  split
  · exact ptpDue_signal_grants _ _ _
  · rfl

/-- Settles O29: each decision is a change of one port's state, which leaves the other ports' pins and states; a write that moves a port
disqualifies its candidate first, and no later part qualifies it; a grant stays with the answer that follows it. -/
theorem ptpDecisions : Obligations.PtpDecisions := by
  unfold Obligations.PtpDecisions
  refine ⟨fun s i p hrun hmade hkind hp h1 h3 => ⟨fun hpin => ?_, fun hpin => ?_, fun hpin halone => ⟨fun m a hann hmaster hless hslave => ?_,
    fun hann h5 => ?_⟩⟩, fun s p v hreach hport => ⟨fun hpin => ?_, fun q hq hne hpin hv hinst hlt => ?_⟩,
    fun s p m tl b hrun hclock hprof => ⟨fun htlv hready => ?_, fun htlv => ?_⟩⟩
  · refine completes_onDev (f := (·.whileCp (·.bmca i.val))) rfl ?_
    rw [onDev_dev, whileCp_of_runs hrun, bmca_state hmade hkind, decisions_pinned _ _ hp (.inl rfl) hpin h1 h3]
  · refine completes_onDev (f := (·.whileCp (·.bmca i.val))) rfl ?_
    rw [onDev_dev, whileCp_of_runs hrun, bmca_state hmade hkind, decisions_pinned _ _ hp (.inr rfl) hpin h1 h3]
  · refine completes_onDev (f := (·.whileCp (·.bmca i.val))) rfl ?_
    rw [onDev_dev, whileCp_of_runs hrun, bmca_alone hmade hkind halone, (decidePort_free _ hpin h1 h3).1 (bestOf_alone halone hpin hann hmaster hless),
      Dev.towardsSlave, hslave, Bool.false_and, if_neg (by decide), (setPtpState_shows (by decide)).1]
  · refine completes_onDev (f := (·.whileCp (·.bmca i.val))) rfl ?_
    have hinst : (s.dev.instOf p).any s.dev.slaveOnly = s.dev.slaveOnly i.val := by rw [instOf_of_mem hp]; rfl
    have hmaster : s.dev.towardsMaster p = s.dev.setPtpState p 6 := by rw [Dev.towardsMaster, h5]; rfl
    rw [onDev_dev, whileCp_of_runs hrun, bmca_alone hmade hkind halone, (decidePort_free _ hpin h1 h3).2 (bestOf_silent halone hann), hinst,
      hmaster]
    split <;> exact (setPtpState_shows (by decide)).1
  · refine completes_onDev (f := (·.portReg p.val (·.writePtpCfg p.val v))) rfl ?_
    rw [onDev_dev, portReg_taken hreach hport]
    exact writePtpCfg_shows v hpin
  · refine completes_onDev (f := (·.portReg p.val (·.writePtpCfg p.val v))) rfl ?_
    have heq : s.dev.portReg p.val (·.writePtpCfg p.val v) = s.dev.set F.PRT_PTU_STAT_CFG_REJ 1 p.val := by
      rw [portReg_taken hreach hport, writePtpCfg_refused v hq hne hpin hv hinst hlt]
    refine ⟨?_, ?_, onDev_flash s _, onDev_pending s _⟩
    · rw [onDev_dev, heq]
      exact flag_of_one (get_set_same _ _ _ _ (by decide))
    · rw [onDev_dev, heq]
      exact .set .refl _ _ _ (by decide)
  · have hsame := ptpSame_awaited p.val s.dev
    have hcount := hsame.trans (ptpSame_countRx (p := p.val) 0xC)
    have hsleep : (awaited p.val s.dev).txSleep p.val = s.dev.txSleep p.val := (only_awaited p.val s.dev).get _ _ (by decide)
    have hrx : ((awaited p.val s.dev).countRx p.val 0xC).txSleep p.val = (awaited p.val s.dev).txSleep p.val :=
      (report_countRx _ _ _).get _ _ rfl
    refine completes_onDev (f := (·.cpTakes p.val (·.signalingIn p.val m tl))) rfl ?_
    rw [onDev_dev, cpTakes_of_runs hrun, signalingIn_eq ((hsame.clockPort _).trans hclock) ((hsame.profileOf _).trans hprof) htlv (.inl rfl) _
      (takeTlv_request b ((hcount.profileOf _).trans hprof))]
    refine ⟨?_, ?_⟩
    · rw [tlvAnswered_grants, onPtu_same]
      exact List.mem_cons_self
    · have hready' (f : PtuPort → PtuPort) : (((awaited p.val s.dev).countRx p.val 0xC).onPtu p.val f).txSleep p.val ≤ 1 :=
        (hrx.trans hsleep).trans_le hready
      rw [tlvAnswered, if_pos (txAwakeFor_of_ready (hready' _)), ptpDue_signal_last _ _ _ (hready' _), (hcount.trans (ptpSame_onPtu _)).ownMsg]
      rfl
  · have hsame := ptpSame_awaited p.val s.dev
    have hcount := hsame.trans (ptpSame_countRx (p := p.val) 0xC)
    refine completes_onDev (f := (·.cpTakes p.val (·.signalingIn p.val m tl))) rfl ?_
    rw [onDev_dev, cpTakes_of_runs hrun, signalingIn_eq ((hsame.clockPort _).trans hclock) ((hsame.profileOf _).trans hprof) htlv (.inr rfl) _
      (takeTlv_cancel b ((hcount.profileOf _).trans hprof)), tlvAnswered_grants, onPtu_same]
    simp

end Sys2Proof.Proofs


/-! SUPPORT. What the parts of a servo update leave of the twin timebases: which is ACTIVE, and both temperatures. -/

namespace Sys2Proof.Laws

open Sys2Proof.Machine Sys2Proof.Safety

/-- The ACTIVE timebase and the temperatures are as before. -/
structure Tempered (d e : Dev) : Prop where
  active : e.twin.active = d.twin.active
  temp : ∀ t, (e.tb t).temp = (d.tb t).temp

variable {P : List Part} {R : List Reg} {x d e : Dev} {t : TbId}

namespace Tempered

theorem refl (d : Dev) : Tempered d d := ⟨rfl, fun _ => rfl⟩
theorem trans (h : Tempered x d) (k : Tempered d e) : Tempered x e := ⟨k.active.trans h.active, fun t => (k.temp t).trans (h.temp t)⟩
theorem after (k : Tempered d e) (h : Tempered x d) : Tempered x e := h.trans k
theorem of_only (k : Only P R d e) (h : .twin ∉ P ∧ .tbA ∉ P ∧ .tbB ∉ P) : Tempered d e :=
  ⟨k.active h.1, fun t => by rw [k.tb h.2.1 h.2.2 t]⟩
theorem when (h : Tempered x d) (b : Bool) (f : Dev → Dev) (k : Tempered d (f d)) : Tempered x (d.when b f) := by
  cases b
  · exact h
  · exact h.trans k
theorem each {α : Type} (h : Tempered x d) (l : List α) (f : Dev → α → Dev) (k : ∀ e a, Tempered e (f e a)) : Tempered x (d.each l f) := by
  unfold Dev.each
  induction l generalizing d with
  | nil => exact h
  | cons a l ih => exact ih (h.trans (k d a))
theorem letIn {y : Dev} {f : Dev → Dev} (h : Tempered d y) (k : ∀ z, Tempered d z → Tempered d (f z)) : Tempered d (let z := y; f z) := k y h
theorem mirrorBy (h : Tempered x d) (f : Mirrored → Mirrored) : Tempered x (d.mirrorBy f) :=
  h.trans ⟨mirrorBy_active d f, fun t => by rw [(only_mirrorBy d f).tb (by decide) (by decide) t]⟩
theorem onTb (h : Tempered x d) (t : TbId) (f : Timebase → Timebase) (hf : ∀ b, (f b).temp = b.temp) : Tempered x (d.onTb t f) := by
  refine h.trans ⟨by rw [onTb_twin], fun y => ?_⟩
  by_cases hy : y = t
  · subst hy
    rw [onTb_tb_same, hf]
  · rw [onTb_tb_other _ _ _ hy]
theorem onTwin (h : Tempered x d) (f : Twin → Twin) (hf : ∀ w, (f w).active = w.active) : Tempered x (d.onTwin f) :=
  h.trans ⟨by rw [onTwin_twin, hf], fun y => by rw [onTwin_tb]⟩
theorem onRsel (h : Tempered x d) (f : Rsel → Rsel) : Tempered x (d.onRsel f) :=
  h.trans (of_only (P := [.rsel]) (R := []) (Only.refl.onRsel _ (by decide)) (by decide))
theorem onCand (h : Tempered x d) (i : Nat) (f : Cand → Cand) : Tempered x (d.onCand i f) :=
  h.trans (of_only (P := [.cands]) (R := []) (Only.refl.onCand _ _ (by decide)) (by decide))
theorem set (h : Tempered x d) (f : Fld) (v u : Nat) : Tempered x (d.set f v u) := h.trans ⟨by rw [set_twin], fun y => by rw [set_tb]⟩
theorem setB (h : Tempered x d) (f : Fld) (b : Bool) (u : Nat) : Tempered x (d.setB f b u) := h.set _ _ _
theorem countDev (h : Tempered x d) (j n : Nat) : Tempered x (d.countDev j n) :=
  h.trans (of_only (only_of_report (report_countDev d j n)) (by decide))
theorem cond (h : Tempered x d) (a : Alarm) (on : Bool) : Tempered x (d.cond a on) := h.trans (of_only (only_of_report (report_cond d a on)) (by decide))

end Tempered

theorem tempered_setState (d : Dev) (st : TState) : Tempered d (d.setState st) :=
  ⟨setState_active d st, fun t => by rw [(only_setState d st).tb (by decide) (by decide) t]⟩

theorem tempered_startLoop (d : Dev) (t : TbId) (id : Nat) (preset : Bool) : Tempered d (d.startLoop t id preset) := by
  unfold Dev.startLoop
  dsimp only
  refine .mirrorBy (.onRsel ?_ _) _
  split
  · exact ((Tempered.refl d).onTb _ _ (by intro _; rfl)).onTb _ _ (by intro _; rfl)
  · exact .refl d

theorem tempered_stepCounter (d : Dev) (y : Int) : Tempered d (d.stepCounter y) := by
  unfold Dev.stepCounter
  split
  · exact .refl d
  · next t _ =>
    dsimp only
    refine (Tempered.of_only (only_timeStepped _ _) (by decide)).after (.onTwin ?_ _ (by intro _; rfl))
    have hstep (e : Dev) (u : TbId) : Tempered e (e.onTb u (fun b => { b with counter := shiftTicks b.counter y })) :=
      (Tempered.refl e).onTb _ _ (by intro _; rfl)
    have hcands (e : Dev) (c : Tab Cand) : Tempered e { e with cands := c } := ⟨rfl, fun u => by cases u <;> rfl⟩
    split
    · exact ((hstep d t).trans (hstep _ _)).trans (hcands _ _)
    · exact (hstep d t).trans (hcands _ _)

theorem tempered_tcmdDone (d : Dev) (r : Nat) : Tempered d (d.tcmdDone r) := by
  unfold Dev.tcmdDone
  split
  · exact .refl d
  · exact .mirrorBy (.of_only (only_endTcmd _ _ _) (by decide)) _

theorem tempered_takeTcmd (d : Dev) (t : TbId) : Tempered d (d.takeTcmd t) := by
  unfold Dev.takeTcmd
  try dsimp only
  repeat' first
    | with_reducible exact Tempered.refl _
    | with_reducible refine (tempered_tcmdDone _ _).after ?_
    | with_reducible refine (tempered_startLoop _ _ _ _).after ?_
    | with_reducible refine (tempered_setState _ _).after ?_
    | with_reducible refine Tempered.each ?_ _ _ fun e i => Tempered.of_only (P := []) (R := [.RSEL_CAND_STAT]) (Only.refl.candFlag _ _ _ (by decide) (by decide)) (by decide)
    | with_reducible refine (tempered_stepCounter _ _).after ?_
    | split

theorem tempered_leaveReference (d : Dev) (freq : Bool) : Tempered d (d.leaveReference freq) := by
  unfold Dev.leaveReference
  exact ((Tempered.refl d).onRsel _).mirrorBy _

theorem tempered_followFreq (d : Dev) (t : TbId) (id : Nat) (preset : Bool) : Tempered d (d.followFreq t id preset) :=
  (tempered_leaveReference _ _).trans (tempered_startLoop _ _ _ _)

theorem tempered_idleUnset (d : Dev) (b : Bool) : Tempered d (d.idleUnset b) := ((Tempered.refl d).onRsel _).mirrorBy _

theorem tempered_enterJumpHeld (d : Dev) (off : Int) : Tempered d (d.enterJumpHeld off) :=
  ((((tempered_leaveReference d false).mirrorBy _).trans (tempered_setState _ _)).mirrorBy _).countDev _ _

theorem tempered_startSlew (d : Dev) (t : TbId) (id : Nat) (off : Int) : Tempered d (d.startSlew t id off) := by
  unfold Dev.startSlew
  dsimp only
  refine .mirrorBy ?_ _
  split
  · exact tempered_setState _ _
  · exact (tempered_setState _ _).trans (tempered_startLoop _ _ _ _)

theorem tempered_setFromReference (d : Dev) (t : TbId) (id : Nat) (target : Ticks) : Tempered d (d.setFromReference t id target) :=
  ((((tempered_stepCounter d _).onCand _ _).onRsel _).trans (tempered_setState _ _)).trans (tempered_startLoop _ _ _ _)

theorem tempered_supersede (d : Dev) : Tempered d d.supersede := by
  unfold Dev.supersede
  split
  · exact .refl d
  · exact tempered_tcmdDone _ _

theorem tempered_servoStatus (d : Dev) (t : TbId) (off : Int) : Tempered d (d.servoStatus t off) := by
  unfold Dev.servoStatus
  repeat' first
    | with_reducible exact Tempered.refl _
    | with_reducible assumption
    | with_reducible refine (tempered_supersede _).after ?_
    | with_reducible refine (tempered_takeTcmd _ _).after ?_
    | with_reducible refine (tempered_enterJumpHeld _ _).after ?_
    | with_reducible refine (tempered_startSlew _ _ _ _).after ?_
    | with_reducible refine (tempered_setFromReference _ _ _ _).after ?_
    | with_reducible refine (tempered_idleUnset _ _).after ?_
    | with_reducible refine (tempered_followFreq _ _ _ _).after ?_
    | with_reducible refine (tempered_startLoop _ _ _ _).after ?_
    | with_reducible refine (tempered_leaveReference _ _).after ?_
    | with_reducible refine (tempered_setState _ _).after ?_
    | with_reducible refine Tempered.mirrorBy ?_ _
    | split
    | with_reducible refine Tempered.letIn ?_ (fun _ _ => ?_)

theorem tempered_takeUtc (d : Dev) (s : SourceData) : Tempered d (d.takeUtc s) := by
  have hraise (b : Bool) : Tempered d (d.when b (fun d => d.raise .leapConflict)) :=
    .when (.refl d) _ _ (.of_only (only_of_report (report_raise d _)) (by decide))
  unfold Dev.takeUtc
  extract_lets guarded both d1
  split
  · exact .refl d
  · split
    · exact .refl d
    · exact .mirrorBy (hraise both) _

theorem tempered_judgeTraceable (d : Dev) : Tempered d d.judgeTraceable := by
  unfold Dev.judgeTraceable
  dsimp only
  split <;> exact .mirrorBy (.refl d) _

theorem tempered_narrow (d : Dev) (t : TbId) (phase : Int) : Tempered d (d.narrow t phase) := by
  unfold Dev.narrow
  dsimp only
  split
  · exact ((Tempered.refl d).setB _ _ _).setB _ _ _
  · exact (((Tempered.refl d).setB _ _ _).mirrorBy _).setB _ _ _

theorem tempered_giveDco (d : Dev) (t : TbId) (w : Int) : Tempered d (d.giveDco t w) := by
  unfold Dev.giveDco
  exact (((((Tempered.refl d).onTb _ _ (by intro _; rfl)).setB _ _ _).cond _ _)).when _ _ ((Tempered.refl _).countDev _ _)

theorem tempered_steerDco (d : Dev) (t : TbId) (phase : Int) : Tempered d (d.steerDco t phase) :=
  ((Tempered.refl d).mirrorBy _).trans (tempered_giveDco _ _ _)

theorem tempered_learn (d : Dev) (t : TbId) : Tempered d (d.learn t) := by
  unfold Dev.learn
  split
  · exact .refl d
  · exact ((((Tempered.refl d).onTb _ _ (by intro _; rfl)).set _ _ _).setB _ _ _).setB _ _ _

theorem tempered_standbyUpdate (d : Dev) : Tempered d d.standbyUpdate := by
  have hsteer (o : TbId) : Tempered d (d.steerStandby o) := ((Tempered.refl d).onTb _ _ (by intro _; rfl)).trans (tempered_giveDco _ _ _)
  unfold Dev.standbyUpdate
  split
  · split
    · exact (hsteer _).trans (tempered_learn _ _)
    · exact .refl d
  · exact .refl d

theorem tempered_takeRestart (d : Dev) (t : TbId) : Tempered d (d.takeRestart t) := by
  have hword (e : Dev) (r : Reg) (u : Nat) (w : Word) : Tempered e (e.setWord r u w) := ⟨rfl, fun y => by cases y <;> rfl⟩
  unfold Dev.takeRestart
  split
  · exact .refl d
  · dsimp only
    split
    · exact ((Tempered.refl d).set _ _ _).set _ _ _
    · exact ((((Tempered.refl d).set _ _ _).onTb _ _ (by intro _; rfl)).trans (hword _ _ _ _)).set _ _ _

theorem tempered_servoClocks (d : Dev) : Tempered d d.servoClocks := by
  unfold Dev.servoClocks
  try dsimp only
  repeat' first
    | with_reducible exact Tempered.refl _
    | with_reducible refine Tempered.set ?_ _ _ _
    | with_reducible refine Tempered.onTwin ?_ _ (by intro _; rfl)
    | with_reducible refine Tempered.onRsel ?_ _
    | with_reducible refine Tempered.mirrorBy ?_ _
    | split

end Sys2Proof.Laws


/-! SUPPORT. A servo update, part by part. -/

namespace Sys2Proof.Proofs

open Sys2Proof.Machine Sys2Proof.Safety Sys2Proof.Laws

variable {s : State} {d e : Dev} {t act : TbId} {inp : ServoIn}

/-! ## The beginning of an update -/

/-- The temperatures as measured. -/
def tempsRead (inp : ServoIn) (t : TbId) (d : Dev) : Dev :=
  (d.onTb t (fun b => { b with temp := inp.temp })).onTb t.other (fun b => { b with temp := inp.standbyTemp })

/-- The difference to the standby, where there is one. -/
def xRead (inp : ServoIn) (d : Dev) : Dev := if d.liveStandby.isSome then d.setX inp.standbyX else d

/-- What follows the written registers. -/
def restartsTaken (d : Dev) : Dev := (((d.takeRestart .a).takeRestart .b).onTwin (fun w => { w with finalCp := false })).servoClocks

theorem beginUpdate_eq : d.beginUpdate inp t = restartsTaken (xRead inp (tempsRead inp t d)).applyWrites := rfl

theorem tempsRead_shows : ((tempsRead inp t d).tb t).temp = inp.temp ∧ ((tempsRead inp t d).tb t.other).temp = inp.standbyTemp ∧
    (tempsRead inp t d).twin = d.twin ∧ (tempsRead inp t d).regs = d.regs := by
  have hne : t ≠ t.other := (other_ne t).symm
  refine ⟨?_, ?_, ?_, ?_⟩
  · rw [tempsRead, onTb_tb_other _ _ _ hne, onTb_tb_same]
  · rw [tempsRead, onTb_tb_same]
  · rw [tempsRead, onTb_twin, onTb_twin]
  · cases t <;> rfl

theorem setX_regs (x : Int) : (d.setX x).regs = d.regs := by
  unfold Dev.setX
  dsimp only
  split
  · next o _ =>
    split
    · cases o <;> rfl
    · rfl
  · rfl

theorem xRead_shows : Tempered d (xRead inp d) ∧ (xRead inp d).regs = d.regs := by
  unfold xRead
  split
  · refine ⟨?_, setX_regs _⟩
    unfold Dev.setX
    dsimp only
    split
    · split
      · exact ((Tempered.refl d).onTwin _ (by intro _; rfl)).onTb _ _ (by intro _; rfl)
      · exact (Tempered.refl d).onTwin _ (by intro _; rfl)
    · exact (Tempered.refl d).onTwin _ (by intro _; rfl)
  · exact ⟨.refl d, rfl⟩

theorem tempered_restartsTaken : Tempered d (restartsTaken d) :=
  (((tempered_takeRestart d .a).trans (tempered_takeRestart _ .b)).onTwin _ (by intro _; rfl)).trans (tempered_servoClocks _)

/-- A RESTART that is taken no longer waits. -/
theorem takeRestart_flag : (d.takeRestart t).flag F.TB_MODEL_CMD_RESTART t.num = false ∧
    ∀ x : TbId, d.flag F.TB_MODEL_CMD_RESTART x.num = false → (d.takeRestart t).flag F.TB_MODEL_CMD_RESTART x.num = false := by
  have hzero : (d.set F.TB_MODEL_CMD_RESTART 0 t.num).flag F.TB_MODEL_CMD_RESTART t.num = false :=
    flag_of_zero (get_set_same _ _ _ _ (by decide))
  have hresult (y : Dev) (v : Nat) (u : Nat) : (y.set F.TB_MODEL_CMD_RESULT v t.num).flag F.TB_MODEL_CMD_RESTART u =
      y.flag F.TB_MODEL_CMD_RESTART u := flag_set_apart _ _ _ _ _ _ (by decide) (by decide)
  have hmodel (y : Dev) (f : Timebase → Timebase) (u : Nat) : ((y.onTb t f).setWord .TB_MODEL_STAT t.num 0).flag F.TB_MODEL_CMD_RESTART u =
      y.flag F.TB_MODEL_CMD_RESTART u := by
    have honly : Only [.tbA, .tbB] [.TB_MODEL_STAT] y ((y.onTb t f).setWord .TB_MODEL_STAT t.num 0) :=
      .setWord (.onTb .refl _ _ (by decide) (by decide)) _ _ _ (by decide)
    exact honly.flag _ _ (by decide)
  have htaken (hset : d.flag F.TB_MODEL_CMD_RESTART t.num = true) (u : Nat) : (d.takeRestart t).flag F.TB_MODEL_CMD_RESTART u =
      (d.set F.TB_MODEL_CMD_RESTART 0 t.num).flag F.TB_MODEL_CMD_RESTART u := by
    rw [Dev.takeRestart, if_neg (by simp [hset])]
    dsimp only
    split
    · exact hresult _ _ _
    · rw [hresult, hmodel]
  have hnot (hset : d.flag F.TB_MODEL_CMD_RESTART t.num = false) : d.takeRestart t = d := by
    rw [Dev.takeRestart, if_pos (by simp [hset])]
  cases hset : d.flag F.TB_MODEL_CMD_RESTART t.num with
  | false =>
    rw [hnot hset]
    exact ⟨hset, fun _ h => h⟩
  | true =>
    refine ⟨(htaken hset _).trans hzero, fun x hx => ?_⟩
    have hne : x ≠ t := fun h => by rw [h, hset] at hx; cases hx
    have hunit : x.num ≠ t.num := by revert hne; cases t <;> cases x <;> decide
    rw [htaken hset, Dev.flag, get_set_unit _ _ _ _ _ _ hunit, ← Dev.flag]
    exact hx

theorem restartsTaken_flag (x : TbId) : (restartsTaken d).flag F.TB_MODEL_CMD_RESTART x.num = false := by
  have hclocks (y : Dev) : (y.servoClocks).flag F.TB_MODEL_CMD_RESTART x.num = y.flag F.TB_MODEL_CMD_RESTART x.num :=
    (only_servoClocks y).flag _ _ (by decide)
  have htwin (y : Dev) (f : Twin → Twin) : (y.onTwin f).flag F.TB_MODEL_CMD_RESTART x.num = y.flag F.TB_MODEL_CMD_RESTART x.num := rfl
  rw [restartsTaken, hclocks, htwin]
  cases x with
  | a => exact takeRestart_flag.2 .a takeRestart_flag.1
  | b => exact takeRestart_flag.1

theorem beginUpdate_shows (hactive : d.twin.active = some act) : (d.beginUpdate inp act).twin.active = some act ∧
    ((d.beginUpdate inp act).tb act).temp = inp.temp ∧ ((d.beginUpdate inp act).tb act.other).temp = inp.standbyTemp ∧
    (d.beginUpdate inp act).applied = d.regs.filter (fun (e : Nat × Word) => (keyReg e.1).atUpdate) ∧
    ∀ x : TbId, (d.beginUpdate inp act).flag F.TB_MODEL_CMD_RESTART x.num = false := by
  obtain ⟨hown, hother, htwin, hregs⟩ := tempsRead_shows (d := d) (t := act) (inp := inp)
  obtain ⟨hx, hxregs⟩ := xRead_shows (d := tempsRead inp act d) (inp := inp)
  have happly (y : Dev) : Tempered y y.applyWrites := ⟨rfl, fun x => by cases x <;> rfl⟩
  have hall : Tempered (tempsRead inp act d) (d.beginUpdate inp act) := by
    rw [beginUpdate_eq]
    exact (hx.trans (happly _)).trans tempered_restartsTaken
  refine ⟨hall.active.trans (by rw [htwin]; exact hactive), (hall.temp act).trans hown, (hall.temp act.other).trans hother, ?_, fun x => ?_⟩
  · have honly : Only [.tbA, .tbB, .mir, .rsel, .twin] [.TB_MODEL_CMD, .TB_MODEL_STAT, .SEQGEN_W0, .TB_ROLE] (xRead inp (tempsRead inp act d)).applyWrites
        (d.beginUpdate inp act) := by
      rw [beginUpdate_eq]
      exact .servoClocks (.onTwin (.takeRestart (.takeRestart .refl _ (by decide) (by decide)) _ (by decide) (by decide)) _ (by decide))
        (by decide) (by decide)
    have happlied (y : Dev) : y.applyWrites.applied = y.regs.filter (fun (e : Nat × Word) => (keyReg e.1).atUpdate) := rfl
    have hkept : (d.beginUpdate inp act).applied = (xRead inp (tempsRead inp act d)).applyWrites.applied := honly.part .applied (by decide)
    rw [hkept, happlied, hxregs, hregs]
  · rw [beginUpdate_eq]
    exact restartsTaken_flag x

/-! ## The selection -/

theorem liftBars_flag : d.liftBars.flag F.RSEL_CMD_CLEAR_BARS = false := by
  unfold Dev.liftBars
  cases hset : d.flag F.RSEL_CMD_CLEAR_BARS with
  | false => exact hset
  | true => exact flag_of_zero (get_set_same _ _ _ _ (by decide))

/-- The selection after the bars are lifted. -/
theorem only_servoSelect_lifted : Only [.rsel, .cands, .counters, .latches, .ring, .log, .pcie, .sent] [.ALM_ACTIVE, .ALM_LATCH, .RSEL_CAND_STAT,
    .RSEL_SEL] d.liftBars d.servoSelect := by
  unfold Dev.servoSelect
  dsimp only
  refine .judgeDrift ?_ (by decide) (by decide)
  have hsel (b : Bool) : Only [.rsel, .cands, .counters, .latches, .ring, .log, .pcie, .sent] [.ALM_ACTIVE, .ALM_LATCH, .RSEL_CAND_STAT,
      .RSEL_SEL] d.liftBars ((d.liftBars.outvoteClocks.judgeOutvoted.judgeBars.cancelWtr.runSelector b).judgeConflict) :=
    .judgeConflict (.runSelector (.cancelWtr (.judgeBars (.judgeOutvoted (.outvoteClocks .refl (by decide) (by decide)) (by decide) (by decide))
      (by decide) (by decide)) (by decide) (by decide)) _ (by decide) (by decide)) (by decide) (by decide)
  split
  · exact (hsel _).onRsel _ (by decide)
  · exact hsel _

theorem servoSelect_flag : d.servoSelect.flag F.RSEL_CMD_CLEAR_BARS = false :=
  (only_servoSelect_lifted.flag _ _ (by decide)).trans liftBars_flag

/-! ## The rest of an update -/

/-- The phase that was followed is kept. -/
def phaseKept (sel : Nat) (phase : Int) (d : Dev) : Dev := if sel < 36 then d.mirrorBy (fun m => { m with lastPhase := phase }) else d

/-- The parent's data reach the time status. -/
def sourceTaken (sel : Nat) (d : Dev) : Dev := if d.mir.state = .acquiring || d.mir.state = .locked then d.takeUtc (d.sourceOf sel) else d

/-- The update up to the steering. -/
def judged (t : TbId) (sel : Nat) (phase : Int) (d : Dev) : Dev := (sourceTaken sel (phaseKept sel phase d)).judgeTraceable.narrow t phase

/-- The steering and the learning, of the standby too. -/
def driven (t : TbId) (phase : Int) (d : Dev) : Dev := ((d.steerDco t phase).learn t).standbyUpdate

/-- The reports, and the roles that follow. -/
def settled (t : TbId) (d : Dev) : Dev := (d.reportServo t).judgePinRevert.judgeRevert

theorem servoUpdate_eq (hactive : d.twin.active = some t) (hruns : d.servoRuns = true) : ∃ phase, d.servoUpdate inp =
    settled t (driven t phase (judged t ((d.beginUpdate inp t).servoSelect.get F.RSEL_SEL_SELECTED) phase
      ((d.beginUpdate inp t).servoSelect.servoStatus t ((d.beginUpdate inp t).servoSelect.phaseTo inp
        ((d.beginUpdate inp t).servoSelect.get F.RSEL_SEL_SELECTED))))) := by
  unfold Dev.servoUpdate
  rw [hactive]
  dsimp only
  rw [if_neg (by simp [hruns])]
  exact ⟨_, rfl⟩

theorem only_judgePinRevert_twin : Only [.twin] [] d d.judgePinRevert := by
  unfold Dev.judgePinRevert
  split
  · exact .refl
  · split
    · exact .onTwin .refl _ (by decide)
    · exact .when .refl _ _ (.onTwin .refl _ (by decide))

theorem judgePinRevert_active : d.judgePinRevert.twin.active = d.twin.active := by
  have htwin (n : Nat) : (d.onTwin (fun w => { w with handover := some n })).twin.active = d.twin.active := rfl
  unfold Dev.judgePinRevert
  split
  · rfl
  · split
    · exact htwin 2
    · exact when_keeps d (·.twin.active) _ _ (htwin 3)

theorem tempered_settled : Tempered d (settled t d) := by
  have hpin (y : Dev) : Tempered y y.judgePinRevert := ⟨judgePinRevert_active, fun x => by rw [only_judgePinRevert_twin.tb (by decide) (by decide)]⟩
  have hrev (y : Dev) : Tempered y y.judgeRevert := ⟨judgeRevert_active y, fun x => by rw [judgeRevert_tb]⟩
  exact ((Tempered.of_only (only_reportServo d t) (by decide)).trans (hpin _)).trans (hrev _)

theorem tempered_driven (phase : Int) : Tempered d (driven t phase d) :=
  ((tempered_steerDco d t phase).trans (tempered_learn _ t)).trans (tempered_standbyUpdate _)

theorem tempered_judged (sel : Nat) (phase : Int) : Tempered d (judged t sel phase d) := by
  have hkept : Tempered d (phaseKept sel phase d) := by
    unfold phaseKept
    split
    · exact .mirrorBy (.refl d) _
    · exact .refl d
  have hsource (y : Dev) : Tempered y (sourceTaken sel y) := by
    unfold sourceTaken
    split
    · exact tempered_takeUtc _ _
    · exact .refl y
  exact ((hkept.trans (hsource _)).trans (tempered_judgeTraceable _)).trans (tempered_narrow _ _ _)

theorem only_judged (sel : Nat) (phase : Int) : Only [.mir, .twin, .counters, .latches, .ring, .log, .pcie, .sent] [.ALM_ACTIVE, .ALM_LATCH,
    .SEQGEN_W0, .TB_SERVO_STAT] d (judged t sel phase d) := by
  have hkept : Only [.mir, .twin, .counters, .latches, .ring, .log, .pcie, .sent] [.ALM_ACTIVE, .ALM_LATCH, .SEQGEN_W0, .TB_SERVO_STAT] d
      (phaseKept sel phase d) := by
    unfold phaseKept
    split
    · exact .mirrorBy .refl _ (by decide) (by decide)
    · exact .refl
  have hsource (y : Dev) : Only [.mir, .twin, .counters, .latches, .ring, .log, .pcie, .sent] [.ALM_ACTIVE, .ALM_LATCH, .SEQGEN_W0, .TB_SERVO_STAT]
      y (sourceTaken sel y) := by
    unfold sourceTaken
    split
    · exact .takeUtc .refl _ (by decide) (by decide)
    · exact .refl
  have hboth : Only [.mir, .twin, .counters, .latches, .ring, .log, .pcie, .sent] [.ALM_ACTIVE, .ALM_LATCH, .SEQGEN_W0, .TB_SERVO_STAT] d
      (sourceTaken sel (phaseKept sel phase d)) := hkept.andThen (hsource _) (fun _ h => h) (fun _ h => h)
  exact .narrow (.judgeTraceable hboth (by decide) (by decide)) _ _ (by decide) (by decide)

theorem only_driven (phase : Int) : Only [.tbA, .tbB, .mir, .twin, .counters, .latches, .ring, .log, .pcie, .sent] [.ALM_ACTIVE, .ALM_LATCH,
    .SEQGEN_W0, .TB_MODEL_STAT, .TB_SERVO_STAT] d (driven t phase d) :=
  .standbyUpdate (.learn (.steerDco .refl _ _ (by decide) (by decide)) _ (by decide) (by decide)) (by decide) (by decide)

theorem only_settled : Only [.twin] [.TB_ROLE, .TB_SERVO_STAT] d (settled t d) :=
  (((only_reportServo d t).weaken (by decide) (by decide)).andThen only_judgePinRevert_twin (by decide) (by decide)).andThen
    (only_judgeRevert_twin _) (by decide) (by decide)

/-! ## The time status after its evaluation -/

theorem judged_state (sel : Nat) (phase : Int) : (judged t sel phase d).mir.state = d.mir.state := by
  have hkept : (phaseKept sel phase d).mir.state = d.mir.state := by
    unfold phaseKept
    split
    · rw [mirrorBy_mir]
    · rfl
  have htake (y : Dev) (s : SourceData) : (y.takeUtc s).mir.state = y.mir.state := by
    have hraise (b : Bool) : (y.when b (fun d => d.raise .leapConflict)).mir = y.mir :=
      when_keeps y (·.mir) b _ (report_raise y .leapConflict).mir
    unfold Dev.takeUtc
    extract_lets guarded both d1
    split
    · rfl
    · split
      · rfl
      · rw [mirrorBy_mir]
        have hstate : d1.mir.state = y.mir.state := by rw [show d1.mir = y.mir from hraise both]
        exact hstate
  have hsource (y : Dev) : (sourceTaken sel y).mir.state = y.mir.state := by
    unfold sourceTaken
    split
    · exact htake _ _
    · rfl
  have htrace (y : Dev) : y.judgeTraceable.mir.state = y.mir.state := by
    unfold Dev.judgeTraceable
    dsimp only
    split <;> rw [mirrorBy_mir]
  have hnarrow (y : Dev) : (y.narrow t phase).mir.state = y.mir.state := by
    unfold Dev.narrow
    dsimp only
    split
    · rw [setB_mir, setB_mir]
    · rw [setB_mir, mirrorBy_mir, setB_mir]
  rw [judged, hnarrow, htrace, hsource, hkept]

theorem driven_state (phase : Int) : (driven t phase d).mir.state = d.mir.state := by
  have hsteer : (d.steerDco t phase).mir.state = d.mir.state := by
    have hgive (y : Dev) (w : Int) : (y.giveDco t w).mir = y.mir := (only_giveDco y t w).part .mir (by decide)
    unfold Dev.steerDco
    dsimp only
    rw [hgive, mirrorBy_mir]
  have hmir (y : Dev) : ((y.learn t).standbyUpdate).mir = y.mir :=
    ((only_standbyUpdate (y.learn t)).part .mir (by decide)).trans ((only_learn y t).part .mir (by decide))
  rw [driven, hmir, hsteer]

theorem settled_state : (settled t d).mir.state = d.mir.state := congrArg Mirrored.state ((only_settled (t := t) (d := d)).part .mir (by decide))

/-! ## The DCO -/

theorem clampInt_natAbs (n : Nat) (v : Int) : (clampInt (-(n : Int)) n v).natAbs ≤ n := by
  unfold clampInt
  split
  · omega
  · split <;> omega

/-- A word given, held at the clamp. -/
def wordGiven (w : Int) (b : Timebase) : Timebase :=
  let held := clampInt (-(dcoClamp : Int)) dcoClamp w
  { b with dco := held, dcoHist := (held :: b.dcoHist).take 271000 }

theorem giveDco_tb (w : Int) : ((d.giveDco t w).tb t).dco.natAbs ≤ dcoClamp ∧
    ((d.giveDco t w).tb t).dcoHist.head? = some ((d.giveDco t w).tb t).dco := by
  have hheld : (d.giveDco t w).tb t = wordGiven w (d.tb t) := by
    have hcount (y : Dev) (b : Bool) : (y.when b (fun d => d.countDev 260)).tb t = y.tb t :=
      when_keeps y (·.tb t) b _ ((only_of_report (report_countDev y 260 1)).tb (by decide) (by decide) t)
    unfold Dev.giveDco
    dsimp only
    rw [hcount, (only_of_report (report_cond _ _ _)).tb (by decide) (by decide), Dev.setB, set_tb, onTb_tb_same]
    rfl
  rw [hheld, wordGiven]
  exact ⟨clampInt_natAbs _ _, by rw [List.take_succ_cons]; rfl⟩

theorem driven_dco (phase : Int) (hactive : d.twin.active = some t) : ((driven t phase d).tb t).dco.natAbs ≤ dcoClamp ∧
    ((driven t phase d).tb t).dcoHist.head? = some ((driven t phase d).tb t).dco := by
  have hlearn (y : Dev) (o : TbId) (x : TbId) : ((y.learn o).tb x).dco = (y.tb x).dco ∧ ((y.learn o).tb x).dcoHist = (y.tb x).dcoHist := by
    unfold Dev.learn
    split
    · exact ⟨rfl, rfl⟩
    · dsimp only
      rw [Dev.setB, Dev.setB, set_tb, set_tb, set_tb]
      by_cases hx : x = o
      · subst hx
        rw [onTb_tb_same]
        exact ⟨rfl, rfl⟩
      · rw [onTb_tb_other _ _ _ hx]
        exact ⟨rfl, rfl⟩
  have hother (y : Dev) (o : TbId) (hne : t ≠ o) : (y.steerStandby o).tb t = y.tb t := by
    have hgive (z : Dev) (w : Int) : (z.giveDco o w).tb t = z.tb t := by
      have hcount (z : Dev) (b : Bool) : (z.when b (fun d => d.countDev 260)).tb t = z.tb t :=
        when_keeps z (·.tb t) b _ ((only_of_report (report_countDev z 260 1)).tb (by decide) (by decide) t)
      unfold Dev.giveDco
      dsimp only
      rw [hcount, (only_of_report (report_cond _ _ _)).tb (by decide) (by decide), Dev.setB, set_tb, onTb_tb_other _ _ _ hne]
    unfold Dev.steerStandby
    dsimp only
    rw [hgive, onTb_tb_other _ _ _ hne]
  have hstandby (y : Dev) (h : y.twin.active = some t) : (y.standbyUpdate.tb t).dco = (y.tb t).dco ∧
      (y.standbyUpdate.tb t).dcoHist = (y.tb t).dcoHist := by
    unfold Dev.standbyUpdate
    split
    · next o ho =>
      have hne : t ≠ o := by
        have hs : y.standby = some t.other := by rw [Dev.standby, h]; rfl
        unfold Dev.liveStandby at ho
        rw [hs] at ho
        dsimp only at ho
        split at ho
        · cases ho
          exact (other_ne t).symm
        · cases ho
      split
      · rw [(hlearn _ _ _).1, (hlearn _ _ _).2, hother _ _ hne]
        exact ⟨rfl, rfl⟩
      · exact ⟨rfl, rfl⟩
    · exact ⟨rfl, rfl⟩
  have hactive' : ((d.steerDco t phase).learn t).twin.active = some t :=
    (((tempered_steerDco d t phase).trans (tempered_learn _ t)).active).trans hactive
  have hsteered : ((d.steerDco t phase).tb t).dco.natAbs ≤ dcoClamp ∧
      ((d.steerDco t phase).tb t).dcoHist.head? = some ((d.steerDco t phase).tb t).dco := giveDco_tb _
  rw [driven, (hstandby _ hactive').1, (hstandby _ hactive').2, (hlearn _ _ _).1, (hlearn _ _ _).2]
  exact hsteered

/-! ## The report of the reference -/

theorem kindOf_of_only {P : List Part} {R : List Reg} (h : Only P R d e) (hr : .RSEL_REFIN_CFG ∉ R ∧ .LANE_QUAD_STAT ∉ R) (n : Nat) :
    e.kindOf n = d.kindOf n := by
  have hfmt : e.refinFmt n = d.refinFmt n := by rw [Dev.refinFmt, h.get _ _ hr.1, ← Dev.refinFmt]
  have htod : e.refinTod n = d.refinTod n := by rw [Dev.refinTod, h.get _ _ hr.1, ← Dev.refinTod]
  rw [Dev.kindOf, hfmt, htod, h.flag _ _ hr.2, h.flag _ _ hr.2, ← Dev.kindOf]

theorem settled_kind : (settled t d).get F.TB_SERVO_STAT_KIND t.num = ((settled t d).kindOf ((settled t d).get F.RSEL_SEL_SELECTED)).num := by
  have hlast (y : Dev) : Only [.twin] [.TB_ROLE] y y.judgePinRevert.judgeRevert :=
    ((only_judgePinRevert_twin (d := y)).weaken (by decide) (by decide)).andThen (only_judgeRevert_twin _) (by decide) (by decide)
  have hnum (k : RefKind) : k.num < 8 := by cases k <;> decide
  rw [kindOf_of_only (only_settled (d := d) (t := t)) (by decide), (only_settled (d := d) (t := t)).get F.RSEL_SEL_SELECTED _ (by decide), settled,
    (hlast _).get _ _ (by decide)]
  exact (get_set_same _ _ _ _ (by decide)).trans (Nat.mod_eq_of_lt (hnum _))

theorem settled_tb (x : TbId) : (settled t d).tb x = d.tb x := (only_settled (t := t)).tb (by decide) (by decide) x

/-! ## What the later parts leave -/

/-- The registers that an update has read or cleared by then. -/
def readRegs : List Reg := [.RSEL_SEL, .RSEL_CMD, .TB_MODEL_CMD]

/-- What the later parts of an update leave: the registers in force, the selection, and the commands that were taken. -/
structure Later (d e : Dev) : Prop where
  tempered : Tempered d e
  applied : e.applied = d.applied
  word : ∀ r ∈ readRegs, ∀ u, e.word r u = d.word r u

theorem Later.trans {x : Dev} (h : Later x d) (k : Later d e) : Later x e :=
  ⟨h.tempered.trans k.tempered, k.applied.trans h.applied, fun r hr u => (k.word r hr u).trans (h.word r hr u)⟩
theorem Later.of_only {P : List Part} {R : List Reg} (k : Only P R d e) (h : Tempered d e) (hk : .applied ∉ P ∧ ∀ r ∈ readRegs, r ∉ R) : Later d e :=
  ⟨h, k.part .applied hk.1, fun r hr u => k.word r u (hk.2 r hr)⟩
theorem Later.get (h : Later d e) (f : Fld) (u : Nat) (hf : f.reg ∈ readRegs) : e.get f u = d.get f u := by rw [Dev.get, h.word _ hf, ← Dev.get]
theorem Later.flag (h : Later d e) (f : Fld) (u : Nat) (hf : f.reg ∈ readRegs) : e.flag f u = d.flag f u := by rw [Dev.flag, h.get f u hf, ← Dev.flag]

theorem later_servoStatus (off : Int) : Later d (d.servoStatus t off) := .of_only (only_servoStatus _ _ _) (tempered_servoStatus _ _ _) (by decide)
theorem later_judged (sel : Nat) (phase : Int) : Later d (judged t sel phase d) := .of_only (only_judged sel phase) (tempered_judged sel phase) (by decide)
theorem later_driven (phase : Int) : Later d (driven t phase d) := .of_only (only_driven phase) (tempered_driven phase) (by decide)
theorem later_settled : Later d (settled t d) := .of_only only_settled tempered_settled (by decide)

/-! ## OCXOs -/

/-- The bit that tells of an oscillating OCXO. -/
def oscFld : TbId → Fld
  | .a => F.FIRN_OCXO_STAT_OSC_A
  | .b => F.FIRN_OCXO_STAT_OSC_B

theorem oscillates_shows (hpower : d.sys.powered = true) : ((d.oscillates t).tb t).osc = true ∧ (d.oscillates t).flag (oscFld t) = true ∧
    (d.oscillates t).tb t.other = d.tb t.other := by
  have heq : d.oscillates t = (d.onTb t (fun b => { b with osc := true })).setMark (oscFld t) 1 F.FIRN_OCXO_STAT_CHANGED := by
    unfold Dev.oscillates
    rw [if_neg (by simp [hpower])]
    cases t <;> rfl
  rw [heq, setMark_tb, onTb_tb_same, setMark_tb, onTb_tb_other _ _ _ (other_ne t)]
  refine ⟨rfl, flag_of_one ?_, rfl⟩
  exact (get_setMark_same _ _ _ _ _ (by cases t <;> decide) (by decide) (by cases t <;> decide)).trans (by cases t <;> rfl)

/-- The time to warm has ended. -/
def warmEnded (t : TbId) (y : Sys) : Sys := match t with | .a => { y with warmRunsA := false } | .b => { y with warmRunsB := false }

theorem warmTimeout_retires (hstage : 4 ≤ d.stage) (hstage' : d.stage ≠ 8) (hruns : d.sys.warmRunsA = true) (hruns' : d.sys.warmRunsB = true)
    (hcold : (d.tb t).warm = false) (hrole : d.role t ≠ 6) (hother : d.role t.other ≠ 6) :
    d.warmTimeout t = (d.onSys (warmEnded t)).retireTb t := by
  have hrole' : (((d.onSys (warmEnded t)).retireTb t).role t.other == 6) = false := by
    rw [retireTb_role_other _ _ (other_ne t)]
    exact beq_eq_false_iff_ne.mpr hother
  unfold Dev.warmTimeout
  extract_lets runs d1 d2
  have hwarms : runs = true := by cases t <;> assumption
  have hrole6 : (d.role t == 6) = false := beq_eq_false_iff_ne.mpr hrole
  have hstage8 : (d.stage == 8) = false := beq_eq_false_iff_ne.mpr hstage'
  have hearly : decide (d.stage < 4) = false := decide_eq_false (Nat.not_lt.mpr hstage)
  rw [hwarms, hcold, hrole6, hearly, hstage8, if_neg (by decide)]
  have hd1 : d1 = d.onSys (warmEnded t) := by cases t <;> rfl
  have hd2 : d2 = (d.onSys (warmEnded t)).retireTb t := by rw [← hd1]
  rw [hd2, hrole']
  rfl

/-- Settles O37: what an update reads and selects first, its later parts leave, each being a frame beside the time status, the DCO words and
the reports; the word steered is held at the clamp, and learning and the standby's loop do not touch it. -/
theorem servoUpdates : Obligations.ServoUpdates := by
  unfold Obligations.ServoUpdates
  intro s inp act t
  refine ⟨fun hactive hruns => ?_, fun hstill => ?_, fun hpower => ?_, fun hstage hstage' hruns hruns' hcold hrole hother => ?_⟩
  · obtain ⟨phase, heq⟩ := servoUpdate_eq (inp := inp) hactive hruns
    refine completes_onDev (f := (·.servoUpdate inp)) rfl ?_
    rw [onDev_dev, heq]
    obtain ⟨hbegun, htemp, htemp', happlied, hrestart⟩ := beginUpdate_shows (inp := inp) hactive
    have hsel := only_servoSelect (s.dev.beginUpdate inp act)
    have hselected : Tempered (s.dev.beginUpdate inp act) (s.dev.beginUpdate inp act).servoSelect := .of_only hsel (by decide)
    have hclear := servoSelect_flag (d := s.dev.beginUpdate inp act)
    have hstatus := later_servoStatus (d := (s.dev.beginUpdate inp act).servoSelect) (t := act) ((s.dev.beginUpdate inp act).servoSelect.phaseTo inp
      ((s.dev.beginUpdate inp act).servoSelect.get F.RSEL_SEL_SELECTED))
    have hj := hstatus.trans (later_judged (t := act) ((s.dev.beginUpdate inp act).servoSelect.get F.RSEL_SEL_SELECTED) phase)
    have hu := (hj.trans (later_driven (t := act) phase)).trans (later_settled (t := act))
    have hall := hselected.trans hu.tempered
    have hdco := driven_dco (t := act) phase ((hselected.trans hj.tempered).active.trans hbegun)
    refine ⟨hu.applied.trans ((hsel.part .applied (by decide)).trans happlied), (hall.temp act).trans htemp, (hall.temp act.other).trans htemp',
      hall.active.trans hbegun, hu.get F.RSEL_SEL_SELECTED 0 (by decide), ?_, ?_, ?_, ?_, ?_, settled_kind⟩
    · rw [settled_state, driven_state, judged_state]
    · rw [settled_tb]
      exact hdco.1
    · rw [settled_tb]
      exact hdco.2
    · exact (hu.flag F.RSEL_CMD_CLEAR_BARS 0 (by decide)).trans hclear
    · exact (hu.flag F.TB_MODEL_CMD_RESTART t.num (by decide)).trans ((hsel.flag _ _ (by decide)).trans (hrestart t))
  · have hsame : s.dev.servoUpdate inp = s.dev := by
      unfold Dev.servoUpdate
      split
      · rfl
      · exact if_pos (by simp [hstill])
    refine completes_onDev (f := (·.servoUpdate inp)) rfl ?_
    exact congrArg (fun d : Dev => ({ s with dev := d } : State)) hsame
  · obtain ⟨hosc, hflag, hother⟩ := oscillates_shows (t := t) hpower
    refine completes_onDev (f := (·.oscillates t)) rfl ⟨hosc, ?_, hother, onDev_flash s _⟩
    cases t <;> exact hflag
  · refine completes_onDev (f := (·.warmTimeout t)) rfl ?_
    have hsys (x : TbId) : (s.dev.onSys (warmEnded t)).role x = s.dev.role x := rfl
    rw [onDev_dev, warmTimeout_retires hstage hstage' hruns hruns' hcold hrole hother, retireTb_role, retireTb_role_other _ _ (other_ne t), hsys,
      retireTb_running, retireTb_alarm]
    exact ⟨rfl, rfl, rfl, rfl⟩

end Sys2Proof.Proofs

/-! SUPPORT. Bytes of the flash that settings records, refreshes, marks and page programs leave alone. -/

namespace Sys2Proof.Laws

open Sys2Proof.Machine Sys2Proof.Safety

variable {m : List Host.Cell} {a : Nat}

/-! ## Runs of bytes -/

theorem length_flashBytes (m : List Host.Cell) (a n : Nat) : (flashBytes m a n).length = n := by
  induction n generalizing a with
  | zero => rfl
  | succ n ih => exact congrArg Nat.succ (ih _)

theorem getD_flashBytes {n i : Nat} (hi : i < n) : (flashBytes m a n).getD i 0 = flashByte m (a + i) := by
  induction n generalizing a i with
  | zero => omega
  | succ n ih =>
    cases i with
    | zero => rfl
    | succ i =>
      rw [flashBytes, List.getD_cons_succ, ih (by omega)]
      congr 1
      omega

/-- A write leaves the bytes outside a region that holds it. -/
theorem flashByte_write_outside {l : List Byte} {b lo hi : Nat} (hlo : lo ≤ b) (hhi : b + l.length ≤ hi) (ha : a < lo ∨ hi ≤ a) :
    flashByte (flashWrite m b l) a = flashByte m a := by
  rw [flashByte_write, if_neg (by omega)]

theorem flashByte_erase_outside {b n lo hi : Nat} (hlo : lo ≤ b) (hhi : b + n ≤ hi) (ha : a < lo ∨ hi ≤ a) :
    flashByte (flashErase m b n) a = flashByte m a := by
  rw [flashByte_erase, if_neg (by omega)]

/-! ## The settings area -/

theorem freePlace_lt {used : List Nat} {fuel i k : Nat} (hi : i < 24576) (h : freePlace used fuel i = some k) : k < 24576 := by
  induction fuel generalizing i with
  | zero => cases h
  | succ fuel ih =>
    rw [freePlace] at h
    split at h
    · exact ih (Nat.mod_lt _ (by decide)) h
    · cases h
      exact hi

/-- A choice among candidates of which each holds to a bound holds to it. -/
theorem foldl_least_lt {bound : Nat} (l : List (Nat × Nat)) (best : Nat × Nat) (hbest : best.2 < bound) (hl : ∀ e ∈ l, e.2 < bound) :
    (l.foldl (fun (best : Nat × Nat) e => if e.1 < best.1 then e else best) best).2 < bound := by
  induction l generalizing best with
  | nil => exact hbest
  | cons e l ih =>
    refine ih _ ?_ fun x hx => hl x (List.mem_cons_of_mem _ hx)
    show (if e.1 < best.1 then e else best).2 < bound
    split
    · exact hl e List.mem_cons_self
    · exact hbest

theorem setOldest_lt (m : List Host.Cell) (used : List Nat) : setOldest m used < 96 := by
  have hsectors : ∀ e ∈ (List.range 96).map (fun s => (setSectorSeq m used s, s)), e.2 < 96 := by
    intro e he
    obtain ⟨s, hs, rfl⟩ := List.mem_map.1 he
    exact List.mem_range.1 hs
  refine foldl_least_lt _ _ ?_ hsectors
  exact hsectors _ (by simp [List.range_succ_eq_map])

/-- A record of at most 256 bytes is appended within the settings area. -/
theorem flashByte_setAppend {r : List Byte} (hr : r.length ≤ 256) (ha : a < 0x3900000 ∨ 0x3F00000 ≤ a) :
    flashByte (setAppend m r) a = flashByte m a := by
  have hstart : (match setNewest m with | some (i, _) => (i + 1) % 24576 | none => 0) < 24576 := by
    split
    · exact Nat.mod_lt _ (by decide)
    · decide
  unfold setAppend
  dsimp only
  split
  case h_1 i hfree =>
    have hplace := freePlace_lt hstart hfree
    exact flashByte_write_outside (by unfold setAddr; omega) (by unfold setAddr; omega) ha
  case h_2 =>
    have hsector := setOldest_lt m (setUsed m)
    rw [flashByte_write_outside (lo := 0x3900000) (hi := 0x3F00000) (by unfold setAddr; omega) (by unfold setAddr; omega) ha]
    exact flashByte_erase_outside (by unfold setAddr; omega) (by unfold setAddr; omega) ha

theorem length_settingsRecord (s : State) (model : List Byte) : (s.settingsRecord model).length ≤ 256 := by
  unfold State.settingsRecord
  dsimp only
  rw [setSeal, List.length_append, List.length_take]
  simp only [leBytes, List.length_cons, List.length_nil]
  omega

theorem flashByte_writeSettings (s : State) (model : List Byte) (ha : a < 0x3900000 ∨ 0x3F00000 ≤ a) :
    flashByte (s.writeSettings model).flash a = flashByte s.flash a := by
  rw [writeSettings_flash, flashByte_setAppend (length_settingsRecord s model) ha]

/-! ## The refresh of a sector -/

theorem journalAt_cases (sector : Nat) : journalAt sector = 0x3F20000 ∨ journalAt sector = 0x3F00000 := by
  unfold journalAt
  split
  · exact .inl rfl
  · exact .inr rfl

/-- A sector erased and written with the bytes that it held reads as before. -/
theorem flashByte_rewrite {m' : List Host.Cell} (sector : Nat) (h : flashByte m' a = flashByte m a) :
    flashByte (flashWrite (flashErase m' (sector * 0x10000) 0x10000) (sector * 0x10000)
      (flashBytes m (sector * 0x10000) 0x10000)) a = flashByte m a := by
  rw [flashByte_write, length_flashBytes]
  split
  case isTrue hin =>
    rw [getD_flashBytes (by omega)]
    congr 1
    omega
  case isFalse hout => rw [flashByte_erase, if_neg hout, h]

theorem flashByte_refreshSector (sector : Nat) (ha : a < 0x3F00000 ∨ 0x3F40000 ≤ a) :
    flashByte (refreshSector m sector) a = flashByte m a := by
  have hplace := journalAt_cases sector
  unfold refreshSector
  dsimp only
  rw [flashByte_write_outside (lo := 0x3F00000) (hi := 0x3F40000) (by omega) (by simp only [List.length_cons, List.length_nil]; omega) ha]
  refine flashByte_rewrite sector ?_
  rw [flashByte_write_outside (lo := 0x3F00000) (hi := 0x3F40000) (by omega) ?_ ha]
  · exact flashByte_erase_outside (by omega) (by omega) ha
  · simp only [List.length_append, length_flashBytes, leBytes, List.length_cons, List.length_nil]
    omega

theorem refreshStep_flash (s : State) (ha : a < 0x3F00000 ∨ 0x3F40000 ≤ a) : flashByte s.refreshStep.flash a = flashByte s.flash a := by
  unfold State.refreshStep
  dsimp only
  split
  · rfl
  · rw [onDev_flash]
    dsimp only
    rw [flashByte_refreshSector _ ha]

/-! ## Marks of a header and programmed pages -/

/-- A mark changes four bytes of the copy in force, and nothing where there is none. -/
theorem flashByte_hdrMark (ofs : Nat) (ha : ∀ c, hdrCopy m = some c → a < hdrBase c + ofs ∨ hdrBase c + ofs + 4 ≤ a) :
    flashByte (hdrMark m ofs) a = flashByte m a := by
  unfold hdrMark
  split
  case h_1 => rfl
  case h_2 c hcopy => exact flashByte_write_outside (Nat.le_refl _) (Nat.le_refl _) (ha c hcopy)

theorem flashByte_programPage (page : Nat) (l : List (Nat × Byte)) (ha : ∀ x ∈ l, a ≠ 256 * page + x.1) :
    flashByte (programPage m page l) a = flashByte m a := by
  unfold programPage
  induction l generalizing m with
  | nil => rfl
  | cons x l ih =>
    rw [List.foldl_cons, ih (fun y hy => ha y (List.mem_cons_of_mem _ hy)), flashByte_set, if_neg (ha x List.mem_cons_self)]

end Sys2Proof.Laws

/-! SUPPORT. What the commands of configuration, update and start-up change of the device and of the flash. -/

namespace Sys2Proof.Laws

open Sys2Proof.Machine Sys2Proof.Safety

variable {P : List Part} {R : List Reg} {s t : State} {c : Instr} {a : Nat}

/-! ## Frames of commands that may write the flash -/

/-- The queue is kept by every command. -/
theorem completes_only (h : exec c s = .next t) (hdev : Only P R s.dev t.dev) :
    Completes c s (fun t => Only P R s.dev t.dev ∧ t.pending = s.pending) := ⟨t, h, hdev, (exec_keeps h).pending⟩

theorem completes_unflashed (h : exec c s = .next t) (hdev : Only P R s.dev t.dev) (hflash : t.flash = s.flash) :
    Completes c s (Frame P R s) := ⟨t, h, hdev, hflash, (exec_keeps h).pending⟩

/-! ## Configuration commands -/

theorem only_slotNamedCfg (s : State) (v : Nat) : Only [] [.GLB_CFG_CMD] s.dev (slotNamedCfg s v).dev := only_globSet s.dev v

theorem only_cfgTake {f : State → State} (h : Only P R s.dev (f s).dev) (hR : .GLB_CFG_CMD ∈ R) : Only P R s.dev (s.cfgTake f).dev := by
  unfold State.cfgTake
  split
  · exact .refl
  · split
    · exact .set .refl _ _ _ hR
    · exact h

theorem cfgTake_flashByte {f : State → State} (h : flashByte (f s).flash a = flashByte s.flash a) :
    flashByte (s.cfgTake f).flash a = flashByte s.flash a := by
  unfold State.cfgTake
  split
  · rfl
  · split
    · rw [onDev_flash]
    · exact h

theorem cfgTake_flash {f : State → State} (h : (f s).flash = s.flash) : (s.cfgTake f).flash = s.flash := by
  unfold State.cfgTake
  split
  · rfl
  · split
    · exact onDev_flash s _
    · exact h

theorem only_cfgCheck (s : State) (slot : Nat) :
    Only (reports ++ [.sys]) (alarmRegs ++ [.GLB_CFG_CMD, .GLB_CFG_STAT]) s.dev (s.cfgCheck slot).dev := by
  have hcheck := only_checkSlot s s.dev.sys.images slot
  exact (hcheck.weaken (by decide) (by decide)).andThen (only_cfgRuns _ _) (by decide) (by decide)

theorem cfgCheck_flash (s : State) (slot : Nat) : (s.cfgCheck slot).flash = s.flash := by
  unfold State.cfgCheck
  rw [checkSlot_eq]
  dsimp only
  rw [onDev_flash, onDev_flash]

/-- An activation once the image is checked: the header names it where it passes. -/
def slotActivated (x : State) (slot result : Nat) : State :=
  if result = 1 then { x with flash := hdrWrite x.flash { hdrNow x.flash with configSel := slot, state := hdrState x.flash } } else x

theorem slotActivated_dev (x : State) (slot result : Nat) : (slotActivated x slot result).dev = x.dev := by
  unfold slotActivated
  split <;> rfl

theorem cfgActivate_eq (s : State) (slot : Nat) : s.cfgActivate slot =
    (slotActivated (s.checkSlot s.dev.sys.images slot).1 slot (s.checkSlot s.dev.sys.images slot).2.result).refreshUpd.onDev
      (·.cfgRuns (s.checkSlot s.dev.sys.images slot).2.result) := rfl

theorem only_cfgActivate (s : State) (slot : Nat) :
    Only (reports ++ [.sys]) (alarmRegs ++ [.GLB_CFG_CMD, .GLB_CFG_STAT, .UPD_STAT]) s.dev (s.cfgActivate slot).dev := by
  have hcheck := only_checkSlot s s.dev.sys.images slot
  have hshow := only_refreshUpd (slotActivated (s.checkSlot s.dev.sys.images slot).1 slot (s.checkSlot s.dev.sys.images slot).2.result)
  rw [slotActivated_dev] at hshow
  rw [cfgActivate_eq, onDev_dev]
  exact ((hcheck.weaken (by decide) (by decide)).andThen hshow (by decide) (by decide)).andThen (only_cfgRuns _ _) (by decide) (by decide)

theorem cfgActivate_flash (s : State) (slot : Nat)
    (ha : a < hdrBase (spareCopy s.flash) ∨ hdrBase (spareCopy s.flash) + 0x10000 ≤ a) :
    flashByte (s.cfgActivate slot).flash a = flashByte s.flash a := by
  have hcheck := checkSlot_flash s s.dev.sys.images slot
  rw [cfgActivate_eq, onDev_flash, State.refreshUpd, onDev_flash, slotActivated]
  split
  · dsimp only
    rw [hcheck, flashByte_hdrWrite s.flash _ ha]
  · rw [hcheck]

/-! ## Update commands -/

theorem only_updTake {f : State → State} (h : Only P R s.dev (f s).dev) (hR : .UPD_CMD ∈ R) : Only P R s.dev (s.updTake f).dev := by
  unfold State.updTake
  split
  · exact .refl
  · split
    · exact .updResult .refl _ (by simp) (by simpa using hR)
    · exact h

theorem updTake_flashByte {f : State → State} (h : flashByte (f s).flash a = flashByte s.flash a) :
    flashByte (s.updTake f).flash a = flashByte s.flash a := by
  unfold State.updTake
  split
  · rfl
  · split
    · rw [onDev_flash]
    · exact h

theorem updTake_flash {f : State → State} (h : (f s).flash = s.flash) : (s.updTake f).flash = s.flash := by
  unfold State.updTake
  split
  · rfl
  · split
    · exact onDev_flash s _
    · exact h

theorem only_updVerify (s : State) :
    Only reports (alarmRegs ++ [.UPD_SLOT_STAT, .UPD_SLOT_ID, .UPD_CMD]) s.dev s.updVerify.dev := by
  have hverify := only_verifySlot s (s.dev.get F.UPD_CFG_SLOT)
  have hcount (d : Dev) (r : Nat) : Only reports (alarmRegs ++ [.UPD_CMD]) d ((d.countDev 296).updResult r) :=
    .updResult (.countDev .refl _ _ (by decide)) _ (by decide) (by decide)
  exact (hverify.weaken (by decide) (by decide)).andThen (hcount _ _) (by decide) (by decide)

theorem updVerify_flash (s : State) : s.updVerify.flash = s.flash := by
  unfold State.updVerify
  dsimp only
  rw [onDev_flash, verifySlot_flash]

theorem only_updErase (s : State) : Only (reports ++ [.sys]) (alarmRegs ++ [.UPD_STAT, .UPD_CMD]) s.dev s.updErase.dev := by
  cases h : s.nvmBarred (s.dev.get F.UPD_ERASE_ADDR_ADDR / 0x10000 * 0x10000) with
  | true =>
    rw [updErase_of_barred h, onDev_dev]
    exact .updResult (.nvmRefuse .refl (by decide) (by decide)) _ (by decide) (by decide)
  | false =>
    rw [updErase_of_free h, onDev_dev]
    exact (only_eraseBegun _ _).weaken (by decide) (by decide)

theorem updErase_flash (s : State) : s.updErase.flash = s.flash := by
  cases h : s.nvmBarred (s.dev.get F.UPD_ERASE_ADDR_ADDR / 0x10000 * 0x10000) with
  | true => rw [updErase_of_barred h, onDev_flash]
  | false => rw [updErase_of_free h, onDev_flash]

theorem only_updFlush (s : State) : Only [.sys] [.UPD_STAT, .UPD_CMD] s.dev s.updFlush.dev := by
  have hbegin : Only [.sys] [.UPD_STAT, .UPD_CMD] s.dev s.dev.beginProgram := .beginProgram .refl (by decide) (by decide)
  unfold State.updFlush
  rw [onDev_dev]
  dsimp only
  split
  · exact hbegin.updStarts (by decide) (by decide)
  · exact hbegin.updResult _ (by decide) (by decide)

theorem only_trialCommand {f : State → State} (hR : .UPD_CMD ∈ R)
    (h : Only P R (s.onDev (·.updResult 1)).dev (f (s.onDev (·.updResult 1))).dev) : Only P R s.dev (s.trialCommand f).dev := by
  have hresult (n : Nat) : Only P R s.dev (s.onDev (·.updResult n)).dev := .updResult .refl _ (by simp) (by simpa using hR)
  unfold State.trialCommand
  split
  · exact .refl
  · split
    · exact hresult 3
    · split
      · exact hresult 0xD
      · exact (hresult 1).trans h

/-- CONFIRM marks the header in force and nothing else of the flash. -/
theorem trialCommand_confirm_flash (s : State) (ha : ∀ c, hdrCopy s.flash = some c → a < hdrBase c + 68 ∨ hdrBase c + 72 ≤ a) :
    flashByte (s.trialCommand State.confirm).flash a = flashByte s.flash a := by
  unfold State.trialCommand
  split
  · rfl
  · split
    · rw [onDev_flash]
    · split
      · rw [onDev_flash]
      · rw [confirm_flash, onDev_flash]
        exact flashByte_hdrMark 68 fun c hc => (ha c hc).imp id (by omega)

/-! ## Activation -/

/-- The state of the header that an activation for a RESTART has written shows, and its command is done. -/
def activationShown (x : State) : State := (x.refreshUpd.onDev (·.countDev 297)).onDev (·.updResult 1)

theorem only_activationShown (x : State) (m : List Host.Cell) :
    Only reports (alarmRegs ++ [.UPD_STAT, .UPD_CMD]) x.dev (activationShown { x with flash := m }).dev := by
  have hshow := (only_refreshUpd { x with flash := m }).weaken (P := reports) (R := alarmRegs ++ [.UPD_STAT, .UPD_CMD])
    (by decide) (by decide)
  rw [activationShown, onDev_dev, onDev_dev]
  exact .updResult (.countDev hshow _ _ (by decide)) _ (by decide) (by decide)

theorem activationShown_flash (x : State) (m : List Host.Cell) : (activationShown { x with flash := m }).flash = m := by
  rw [activationShown, onDev_flash, onDev_flash, State.refreshUpd, onDev_flash]

theorem updActivate_of_written (hst : hdrState s.flash ≠ 1 ∧ hdrState s.flash ≠ 2) (hslot : s.dev.get F.UPD_CFG_SLOT ≠ s.bundleSlot)
    (hfault : (s.verifySlot (s.dev.get F.UPD_CFG_SLOT)).2 = none) (hcfg : (cfgChecked s).2.result = 1)
    (hmode : s.dev.flag F.UPD_CFG_MODE = false) :
    ∃ h, s.updActivate = activationShown { (cfgChecked s).1 with flash := hdrWrite s.flash h } := by
  have hrun := updActivate_of_restart hst hslot hfault hcfg hmode
  rw [cfgChecked_flash] at hrun
  exact ⟨_, hrun⟩

/-- What the checks of an activation may change. -/
def Checked (s x : State) : Prop :=
  Only reports (alarmRegs ++ [.GLB_CFG_STAT, .UPD_SLOT_STAT, .UPD_SLOT_ID]) s.dev x.dev ∧ x.flash = s.flash

/-- An activation is refused after some of its checks, or has passed those of R332 and R321. -/
theorem updActivate_refused_or (s : State) : (∃ x r, s.updActivate = x.onDev (·.updResult r) ∧ Checked s x) ∨
    ((hdrState s.flash ≠ 1 ∧ hdrState s.flash ≠ 2) ∧ s.dev.get F.UPD_CFG_SLOT ≠ s.bundleSlot ∧
      (s.verifySlot (s.dev.get F.UPD_CFG_SLOT)).2 = none ∧ (cfgChecked s).2.result = 1) := by
  by_cases hst : hdrState s.flash = 1 ∨ hdrState s.flash = 2
  · exact .inl ⟨s, _, updActivate_on_trial hst, .refl, rfl⟩
  have hst' : hdrState s.flash ≠ 1 ∧ hdrState s.flash ≠ 2 := not_or.1 hst
  by_cases hslot : s.dev.get F.UPD_CFG_SLOT = s.bundleSlot
  · refine .inl ⟨s, 0xE, ?_, .refl, rfl⟩
    unfold State.updActivate
    dsimp only
    rw [if_neg (by simp [hst']), if_pos hslot]
  cases hfault : (s.verifySlot (s.dev.get F.UPD_CFG_SLOT)).2 with
  | some r =>
    have hverified := only_verifySlot s (s.dev.get F.UPD_CFG_SLOT)
    exact .inl ⟨_, r, updActivate_of_fault hst' hslot hfault, hverified.weaken (by decide) (by decide), verifySlot_flash s _⟩
  | none =>
    by_cases hcfg : (cfgChecked s).2.result = 1
    · exact .inr ⟨hst', hslot, rfl, hcfg⟩
    · exact .inl ⟨_, 9, updActivate_of_config hst' hslot hfault hcfg, only_cfgChecked s, cfgChecked_flash s⟩

/-- What an activation for a RESTART does: it refuses, or writes a header. -/
theorem updActivate_restart_cases (hmode : s.dev.flag F.UPD_CFG_MODE = false) :
    Only reports (alarmRegs ++ [.GLB_CFG_STAT, .UPD_CMD, .UPD_STAT, .UPD_SLOT_STAT, .UPD_SLOT_ID]) s.dev s.updActivate.dev ∧
    (s.updActivate.flash = s.flash ∨ ∃ h, s.updActivate.flash = hdrWrite s.flash h) := by
  obtain ⟨x, r, hrefused, hchecked, hflash⟩ | ⟨hst, hslot, hfault, hcfg⟩ := updActivate_refused_or s
  · have hdev := hchecked.weaken (P := reports) (R := alarmRegs ++ [.GLB_CFG_STAT, .UPD_CMD, .UPD_STAT, .UPD_SLOT_STAT, .UPD_SLOT_ID])
      (by decide) (by decide)
    rw [hrefused, onDev_dev, onDev_flash]
    exact ⟨hdev.updResult _ (by decide) (by decide), .inl hflash⟩
  · have hchecked := (only_cfgChecked s).weaken (P := reports)
      (R := alarmRegs ++ [.GLB_CFG_STAT, .UPD_CMD, .UPD_STAT, .UPD_SLOT_STAT, .UPD_SLOT_ID]) (by decide) (by decide)
    obtain ⟨h, hwritten⟩ := updActivate_of_written hst hslot hfault hcfg hmode
    have hdev : Only reports (alarmRegs ++ [.UPD_STAT, .UPD_CMD]) (cfgChecked s).1.dev s.updActivate.dev := by
      rw [hwritten]
      exact only_activationShown _ _
    refine ⟨hchecked.andThen hdev (by decide) (by decide), .inr ⟨h, ?_⟩⟩
    rw [hwritten]
    exact activationShown_flash _ _

theorem updActivate_flashByte (hmode : s.dev.flag F.UPD_CFG_MODE = false)
    (ha : a < hdrBase (spareCopy s.flash) ∨ hdrBase (spareCopy s.flash) + 0x10000 ≤ a) :
    flashByte s.updActivate.flash a = flashByte s.flash a := by
  obtain hsame | ⟨h, hwritten⟩ := (updActivate_restart_cases hmode).2
  · rw [hsame]
  · rw [hwritten, flashByte_hdrWrite s.flash h ha]

end Sys2Proof.Laws

/-! SUPPORT. What start-up, records about the module itself, resets and watchdogs change of the device and of the flash. -/

namespace Sys2Proof.Laws

open Sys2Proof.Machine Sys2Proof.Safety

variable {s : State} {d : Dev} {a : Nat}

/-! ## Records that the module writes about itself -/

theorem only_refreshStep (s : State) : Only (reports ++ [.sys]) (alarmRegs ++ [.FIRN_REFRESH_STAT]) s.dev s.refreshStep.dev := by
  unfold State.refreshStep
  dsimp only
  split
  · exact .refl
  · rw [onDev_dev]
    exact .when (.setB (.set (.countDev .refl _ _ (by decide)) _ _ _ (by decide)) _ _ _ (by decide)) _ _ (.onSys .refl _ (by decide))

/-- The rates that are due go into a record; their timebases then owe none. -/
theorem modelWrite_cases (s : State) : s.modelWrite = s ∨ ∃ model, s.modelWrite = (s.writeSettings model).onDev (fun d =>
    { d with tbA := ratesSaved d.tbA, tbB := ratesSaved d.tbB }) := by
  unfold State.modelWrite
  dsimp only
  split
  · exact .inl rfl
  · exact .inr ⟨_, rfl⟩

theorem only_modelWrite (s : State) : Only (reports ++ [.sys, .tbA, .tbB]) alarmRegs s.dev s.modelWrite.dev := by
  have hfirst (d : Dev) : Only [.tbA, .tbB] [] d { d with tbA := ratesSaved d.tbA } := .upd_tbA .refl _ (by decide)
  have hsaved (d : Dev) : Only [.tbA, .tbB] [] d { d with tbA := ratesSaved d.tbA, tbB := ratesSaved d.tbB } :=
    (hfirst d).upd_tbB (ratesSaved d.tbB) (by decide)
  obtain h | ⟨model, h⟩ := modelWrite_cases s
  · rw [h]
    exact .refl
  · rw [h, onDev_dev]
    exact ((only_settingsWritten s model).weaken (by decide) (by decide)).andThen (hsaved _) (by decide) (by decide)

theorem modelWrite_flash (s : State) (ha : a < 0x3900000 ∨ 0x3F00000 ≤ a) : flashByte s.modelWrite.flash a = flashByte s.flash a := by
  obtain h | ⟨model, h⟩ := modelWrite_cases s
  · rw [h]
  · rw [h, onDev_flash, flashByte_writeSettings s model ha]

/-! ## Stage ROM -/

/-- The boot loader's action on the header in force. -/
def headerActed (s : State) : State :=
  match hdrCopy s.flash with
  | none => ({ s with flash := hdrWrite s.flash .lost } : State).onDev (fun d =>
      (d.setB F.GLB_BOOT_STAT_HDR_LOST true).raise .bootHdrLost)
  | some _ =>
    let h := hdrNow s.flash
    match hdrState s.flash with
    | 1 => { s with flash := hdrMark s.flash 64 }
    | 2 =>
      ({ s with flash := hdrWrite s.flash { h with bundleSel := h.prevBundle, configSel := h.prevConfig, state := 3, failCause := 4 } } :
        State).onDev (fun d => ((d.raise .fwFallback).countDev 299).devEvent true 0x144 0)
    | _ => s

theorem rom_steps (s : State) : ∃ (m : List Host.Cell) (b : Bool) (slot : Nat), s.rom =
    ((headerActed (({ s with flash := m } : State).onDev (fun d =>
      d.when b (fun d => d.setB F.FIRN_REFRESH_STAT_RESTORED true)))).refreshUpd).onDev (fun d =>
        (d.set F.GLB_BOOT_STAT_BUNDLE_SLOT slot).setStage 1) := ⟨_, _, _, rfl⟩

theorem only_headerActed (s : State) : Only reports (alarmRegs ++ [.GLB_BOOT_STAT]) s.dev (headerActed s).dev := by
  unfold headerActed
  dsimp only
  split
  · exact .raise (.setB .refl _ _ _ (by decide)) _ (by decide)
  · split
    · exact .refl
    · exact .devEvent (.countDev (.raise .refl _ (by decide)) _ _ (by decide)) _ _ _ _ (by decide)
    · exact .refl

theorem only_rom (s : State) :
    Only reports (alarmRegs ++ [.FIRN_REFRESH_STAT, .GLB_BOOT_STAT, .UPD_STAT]) s.dev s.rom.dev := by
  have hbooted (d : Dev) (slot : Nat) : Only [] [.GLB_BOOT_STAT] d ((d.set F.GLB_BOOT_STAT_BUNDLE_SLOT slot).setStage 1) :=
    .setStage (.set .refl _ _ _ (by decide)) _ (by decide) (by decide)
  obtain ⟨m, b, slot, h⟩ := rom_steps s
  have hrestored : Only [] [.FIRN_REFRESH_STAT] s.dev (s.dev.when b (fun d => d.setB F.FIRN_REFRESH_STAT_RESTORED true)) :=
    .when .refl _ _ (.setB .refl _ _ _ (by decide))
  have hacted := only_headerActed (({ s with flash := m } : State).onDev (fun d =>
    d.when b (fun d => d.setB F.FIRN_REFRESH_STAT_RESTORED true)))
  rw [onDev_dev] at hacted
  rw [h, onDev_dev]
  exact (((hrestored.weaken (by decide) (by decide)).andThen hacted (by decide) (by decide)).andThen (only_refreshUpd _)
    (by decide) (by decide)).andThen (hbooted _ _) (by decide) (by decide)

/-! ## The stages of the FSP and of the TBPs -/

/-- The settings come from their record, or are the defaults. -/
theorem only_takeSettings (s : State) : Only (reports ++ [.sys, .freeCtr])
    (alarmRegs ++ [.GLB_BOOT_STAT, .FIRN_LIFE, .FIRN_BOOTS]) s.dev s.takeSettings.dev := by
  have hwritten {x : State} (h : Only (reports ++ [.sys, .freeCtr]) (alarmRegs ++ [.GLB_BOOT_STAT, .FIRN_LIFE, .FIRN_BOOTS])
      s.dev x.dev) : Only (reports ++ [.sys, .freeCtr]) (alarmRegs ++ [.GLB_BOOT_STAT, .FIRN_LIFE, .FIRN_BOOTS]) s.dev
        (x.writeSettings x.dev.modelBytes).dev := h.andThen (only_settingsWritten x _) (by decide) (by decide)
  unfold State.takeSettings
  dsimp only
  split
  · refine hwritten ?_
    rw [onDev_dev]
    exact (.onSys (.set (.set .refl _ _ _ (by decide)) _ _ _ (by decide)) _ (by decide))
  · refine hwritten ?_
    rw [onDev_dev]
    exact .onSys (.spendFree (.set (.set (.countDev (.raise (.setB .refl _ _ _ (by decide)) _ (by decide)) _ _ (by decide)) _ _ _
      (by decide)) _ _ _ (by decide)) (by decide)) _ (by decide)

theorem only_fspRuns (s : State) (slot : Nat) : Only [.sys] [.UPD_IFVER0, .UPD_SLOT_ID] s.dev (s.fspRuns slot).dev := by
  have himage (d : Dev) (i : Image) : Only [.sys] [.UPD_IFVER0] d (d.runImage 0 i) :=
    .set (.onSys .refl _ (by decide)) _ _ _ (by decide)
  exact .set (((Only.onSys (P := [.sys]) (R := [.UPD_IFVER0, .UPD_SLOT_ID]) .refl _ (by decide))).andThen (himage _ _)
    (by decide) (by decide)) _ _ _ (by decide)

/-- Stage FSP_LOAD with a good image in the slot that is booted. -/
theorem only_loadFsp (h : s.imageGood (s.dev.get F.GLB_BOOT_STAT_BUNDLE_SLOT) 0 = true) : Only (reports ++ [.sys, .freeCtr])
    (alarmRegs ++ [.GLB_BOOT_STAT, .UPD_IFVER0, .UPD_SLOT_ID, .FIRN_LIFE, .FIRN_BOOTS]) s.dev s.loadFsp.dev := by
  have hrun : s.loadFsp = ((s.fspRuns (s.dev.get F.GLB_BOOT_STAT_BUNDLE_SLOT)).takeSettings).onDev (·.setStage 2) := if_pos h
  have hfsp := only_fspRuns s (s.dev.get F.GLB_BOOT_STAT_BUNDLE_SLOT)
  rw [hrun, onDev_dev]
  exact .setStage ((hfsp.weaken (by decide) (by decide)).andThen (only_takeSettings _) (by decide) (by decide)) _ (by decide) (by decide)

/-- Both TBPs run an image and are held in WARMING. -/
def tbpsLoaded (i : Image) (d : Dev) : Dev :=
  ((((((d.runTbp .a i).runTbp .b i).seedModel .a).seedModel .b).setRole .a 1).setRole .b 1).setStage 3

theorem only_tbpsLoaded (i : Image) (d : Dev) : Only [.sys, .tbA, .tbB]
    [.GLB_BOOT_STAT, .UPD_IFVER1, .UPD_IFVER2, .TB_MODEL_STAT, .TB_ROLE] d (tbpsLoaded i d) := by
  have hruns : Only [.sys, .tbA, .tbB] [.GLB_BOOT_STAT, .UPD_IFVER1, .UPD_IFVER2, .TB_MODEL_STAT, .TB_ROLE] d
      ((d.runTbp .a i).runTbp .b i) := .runTbp (.runTbp .refl _ _ (by decide) (by decide)) _ _ (by decide) (by decide)
  have hseeded := (hruns.seedModel .a (by decide) (by decide)).seedModel .b (by decide) (by decide)
  exact ((hseeded.setRole .a 1 (by decide) (by decide)).setRole .b 1 (by decide) (by decide)).setStage 3 (by decide) (by decide)

theorem loadTbp_of_good (h : s.imageGood (s.dev.get F.GLB_BOOT_STAT_BUNDLE_SLOT) 1 = true) :
    s.loadTbp = s.onDev (tbpsLoaded (readImage s.flash (s.dev.get F.GLB_BOOT_STAT_BUNDLE_SLOT) 1)) := if_pos h

/-! ## Resets -/

theorem only_glbResetFull (key : Nat) (f : State → State) : Only [.sys] [.GLB_RESET] s.dev (s.glbReset key true f).dev ∧
    (s.glbReset key true f).flash = s.flash := by
  unfold State.glbReset
  split
  · exact ⟨.refl, rfl⟩
  · split
    · exact ⟨.set .refl _ _ _ (by decide), onDev_flash s _⟩
    · rw [if_pos rfl]
      refine ⟨?_, onDev_flash s _⟩
      rw [onDev_dev]
      exact .onSys (.set .refl _ _ _ (by decide)) _ (by decide)

theorem resetKept_same (d : Dev) : (resetKept d).ident = d.ident ∧ (resetKept d).cycles = d.cycles ∧ (resetKept d).log = d.log := by
  have hemit (b : Bool) (e : Emit) : Only [.sent] [] d (d.when b (·.emit e)) := .when .refl _ _ (.emit .refl _ (by decide))
  have hident (b : Bool) (e : Emit) : (d.when b (·.emit e)).ident = d.ident := (hemit b e).part .ident (by decide)
  have hcycles (b : Bool) (e : Emit) : (d.when b (·.emit e)).cycles = d.cycles := (hemit b e).part .cycles (by decide)
  have hlog (b : Bool) (e : Emit) : (d.when b (·.emit e)).log = d.log := (hemit b e).part .log (by decide)
  have htio (x : Dev) (l : List Nat) (g : Nat → Tio → Tio) : Only [.tio] [] x (x.each l (fun n c => n.onTio c (g c))) :=
    .each .refl _ _ fun _ _ => .onTio .refl _ _ (by decide)
  have htioIdent (x : Dev) (l : List Nat) (g : Nat → Tio → Tio) : (x.each l (fun n c => n.onTio c (g c))).ident = x.ident :=
    (htio x l g).part .ident (by decide)
  have htioCycles (x : Dev) (l : List Nat) (g : Nat → Tio → Tio) : (x.each l (fun n c => n.onTio c (g c))).cycles = x.cycles :=
    (htio x l g).part .cycles (by decide)
  have htioLog (x : Dev) (l : List Nat) (g : Nat → Tio → Tio) : (x.each l (fun n c => n.onTio c (g c))).log = x.log :=
    (htio x l g).part .log (by decide)
  unfold resetKept
  dsimp only
  refine ⟨(htioIdent _ _ _).trans ?_, (htioCycles _ _ _).trans ?_, (htioLog _ _ _).trans ?_⟩
  · exact hident _ _
  · exact hcycles _ _
  · exact hlog _ _

end Sys2Proof.Laws

/-! SUPPORT. The log across a module reset, the reset pin, and a live activation. -/

namespace Sys2Proof.Laws

open Sys2Proof.Machine Sys2Proof.Safety

variable {s : State} {d : Dev} {a : Nat}

/-! ## The log -/

theorem msix_log (d : Dev) (v : Nat) : (d.msix v).log = d.log := by
  unfold Dev.msix
  split_ifs <;> rfl

theorem latch_log (d : Dev) (b : Nat) : (d.latch b).log = d.log := by
  have hgroup (x : Dev) (g : Nat) : (x.sendGroup g).log = x.log := when_keeps x (·.log) _ _ (msix_log x _)
  unfold Dev.latch
  split
  · rfl
  · exact (when_keeps _ (·.log) _ (fun d => d.sendGroup _) (hgroup _ _)).trans (set_log d _ _ _)

theorem cond_log (d : Dev) (x : Alarm) (on : Bool) : (d.cond x on).log = d.log := by
  unfold Dev.cond
  split
  · split
    · rfl
    · rw [latch_log, set_log]
  · rfl

theorem bump_log (d : Dev) (i n fuel : Nat) : (d.bump i n fuel).log = d.log := by
  induction fuel generalizing d i n with
  | zero => rfl
  | succ fuel ih =>
    rw [Dev.bump]
    split
    · rfl
    · split
      · rfl
      · rw [ih]

theorem countDev_log (d : Dev) (j n : Nat) : (d.countDev j n).log = d.log := by
  unfold Dev.countDev Dev.countAt
  split
  · rfl
  · split
    · exact bump_log _ _ _ _
    · rfl

theorem restartParty_log (d : Dev) (dst : Nat) : (d.restartParty dst).log = d.log := by
  have htell (x : Dev) (src : Nat) : (x.tellPosted src dst).log = x.log := by
    unfold Dev.tellPosted
    split
    · exact when_keeps x (·.log) _ _ (msix_log x _)
    · rfl
  refine each_keeps d (·.log) _ _ fun x src _ => ?_
  unfold Dev.redeliver
  split
  · rw [htell, countDev_log, onChan_log]
  · rfl

/-- An entry is appended, or none where the log is full. -/
theorem logAdd_log (d : Dev) (cls action mem index : Nat) : ∃ l, (d.logAdd cls action mem index).log = d.log ++ l := by
  unfold Dev.logAdd
  split
  · exact ⟨[], by rw [cond_log, countDev_log, List.append_nil]⟩
  · exact ⟨_, by rw [cond_log]⟩

theorem resetReports_log (b : Bool) (n : Dev) : ∃ l, (resetReports b n).log = n.log ++ l := by
  obtain ⟨l, hl⟩ := logAdd_log ((n.when b (fun n => n.cond .hostLinkDown true)).each [1, 2, 3, 4, 5, 0] Dev.restartParty) 0 5 0 0
  refine ⟨l, ?_⟩
  unfold resetReports
  dsimp only
  rw [countDev_log, hl, each_keeps _ (·.log) _ _ (fun x dst _ => restartParty_log x dst), when_keeps n (·.log) _ _ (cond_log n _ _)]

theorem restart_log (d : Dev) (cause : Nat) : ∃ l, (d.restart cause).log = d.log ++ l := by
  obtain ⟨a, b, c, h⟩ := restart_eq d cause
  obtain ⟨-, -, hlog⟩ := resetKept_same d
  obtain ⟨l, hl⟩ := resetReports_log c
    ((((resetCore d).set F.GLB_BOOT_STAT_RESET_CAUSE cause).setB F.FIRN_OCXO_STAT_OSC_A a).setB F.FIRN_OCXO_STAT_OSC_B b)
  refine ⟨l, ?_⟩
  rw [h, hl, setB_log, setB_log, set_log, resetCore, setWord_log, hlog]

/-! ## What a module reset keeps of the part -/

theorem restart_ident (d : Dev) (cause : Nat) : (d.restart cause).ident = d.ident := by
  have hcore : (resetCore d).ident = (resetKept d).ident := rfl
  rw [(only_restart d cause).part .ident (by decide), hcore, (resetKept_same d).1]

theorem restart_cycles (d : Dev) (cause : Nat) : (d.restart cause).cycles = d.cycles := by
  have hcore : (resetCore d).cycles = (resetKept d).cycles := rfl
  rw [(only_restart d cause).part .cycles (by decide), hcore, (resetKept_same d).2.1]

theorem onDev_twice (s : State) (f g : Dev → Dev) : (s.onDev f).onDev g = s.onDev (fun d => g (f d)) := rfl

/-- The reset pin with power and no work on the flash: the module reset, and the module is held. -/
def pinReset (d : Dev) : Dev := (d.restart 1).onSys (fun y => { y with held := true })

theorem exec_resetPin (hpower : s.dev.sys.powered = true) (he : s.dev.sys.eraseAt = none) (hp : s.dev.sys.progPage = none) :
    exec .resetPin s = .next (s.onDev pinReset) := by
  have hreset : (s.moduleReset 1).onDev (·.onSys (fun y => { y with held := true })) = s.onDev pinReset := by
    rw [State.moduleReset, cutFlash_of_idle he hp]
    exact onDev_twice s _ _
  exact congrArg Host.Outcome.next ((if_pos hpower).trans hreset)

/-! ## Loss of power -/

/-- Without work on the flash, a loss of power leaves the flash and the part's identity. -/
theorem losePower_keeps (he : s.dev.sys.eraseAt = none) (hp : s.dev.sys.progPage = none) (tripped : Bool) :
    s.losePower tripped = s.onDev (·.losePower tripped false) := by
  rw [State.losePower, cutFlash_of_idle he hp]

/-! ## A live activation -/

/-- No erase and no page program runs. -/
def flashIdle (d : Dev) : Bool := d.sys.eraseAt.isNone && d.sys.progPage.isNone

theorem flashIdle_iff (d : Dev) : flashIdle d = true ↔ d.sys.eraseAt = none ∧ d.sys.progPage = none := by
  simp [flashIdle]

theorem flashIdle_of_sys {e : Dev} (h : e.sys.eraseAt = d.sys.eraseAt) (k : e.sys.progPage = d.sys.progPage) :
    flashIdle e = flashIdle d := by
  rw [flashIdle, h, k, flashIdle]

theorem enterStep_idle (d : Dev) (k : Nat) : flashIdle (d.enterStep k) = flashIdle d := by
  have hshow (x : Dev) (v : Nat) : (x.showStep v).sys = x.sys := (only_showStep x v).sys (by decide)
  unfold Dev.enterStep
  refine flashIdle_of_sys ?_ ?_ <;> rw [hshow, onSys_sys]

/-- The step that begins where `k` is due: with FAST OFF steps 2 and 3 are skipped (R338). -/
def stepOf (d : Dev) (k : Nat) : Nat := if (k = 2 || k = 3) && d.fast == 0 then 4 else k

/-- The work at the beginning of a step that shows already. -/
def stepWork (fail : State → State) (s : State) (k : Nat) : State :=
  match k with
  | 2 => s.onDev (fun d => (d.restartParty 2).onSys (fun y => { y with cpStopped := true, carryover := true }))
  | 3 => s.onDev (·.smcMoves false)
  | 4 => if s.imageGood s.bundleSlot 1 then s.onDev (·.loadStandby (readImage s.flash s.bundleSlot 1)) else fail s
  | 5 => s.onDev (fun d => (d.onTwin (fun w => { w with updMoved := false })).judgePinRevert)
  | 6 => if s.imageGood s.bundleSlot 1 then s.onDev (·.loadStandby (readImage s.flash s.bundleSlot 1)) else fail s
  | _ => s

theorem beginStepWith_eq (fail : State → State) (s : State) (k : Nat) : s.beginStepWith fail k =
    stepWork fail (s.onDev (·.enterStep (stepOf s.dev k))) (stepOf s.dev k) := rfl

/-- The work of a step is a change of the device that keeps its identity, unless it loads a TBP image that is bad. -/
theorem stepWork_cases (fail : State → State) (s : State) (k : Nat) :
    (∃ f : Dev → Dev, stepWork fail s k = s.onDev f ∧ (f s.dev).ident = s.dev.ident) ∨
      (stepWork fail s k = fail s ∧ (k = 4 ∨ k = 6) ∧ s.imageGood s.bundleSlot 1 = false) := by
  unfold stepWork
  split
  · have hcp (d : Dev) : Only (reports ++ [.chans, .sys]) alarmRegs d
        ((d.restartParty 2).onSys (fun y => { y with cpStopped := true, carryover := true })) :=
      .onSys (.restartParty .refl _ (by decide) (by decide)) _ (by decide)
    exact .inl ⟨_, rfl, (hcp _).part .ident (by decide)⟩
  · exact .inl ⟨_, rfl, (only_smcMoves _ _).part .ident (by decide)⟩
  · cases himage : s.imageGood s.bundleSlot 1 with
    | true => exact .inl ⟨_, if_pos rfl, (only_loadStandby _ _).part .ident (by decide)⟩
    | false => exact .inr ⟨if_neg (by decide), .inl rfl, rfl⟩
  · exact .inl ⟨_, rfl, (only_judgePinRevert _).part .ident (by decide)⟩
  · cases himage : s.imageGood s.bundleSlot 1 with
    | true => exact .inl ⟨_, if_pos rfl, (only_loadStandby _ _).part .ident (by decide)⟩
    | false => exact .inr ⟨if_neg (by decide), .inr rfl, rfl⟩
  · exact .inl ⟨id, rfl, rfl⟩

theorem moduleReset_flash_of_idle (h : flashIdle s.dev = true) (cause : Nat) : (s.moduleReset cause).flash = s.flash := by
  obtain ⟨he, hp⟩ := (flashIdle_iff s.dev).1 h
  exact moduleReset_flash he hp cause

theorem beginBack_flash (h : flashIdle s.dev = true) (k : Nat) : (s.beginBack k).flash = s.flash := by
  have hidle : flashIdle (s.onDev (·.enterStep (stepOf s.dev k))).dev = true := by rw [onDev_dev, enterStep_idle, h]
  rw [State.beginBack, beginStepWith_eq]
  obtain ⟨f, hf, -⟩ | ⟨hbad, -, -⟩ := stepWork_cases (·.moduleReset 2) (s.onDev (·.enterStep (stepOf s.dev k))) (stepOf s.dev k)
  · rw [hf, onDev_flash, onDev_flash]
  · rw [hbad, moduleReset_flash_of_idle hidle, onDev_flash]

/-- A fallback writes a header, in whichever way the images return. -/
theorem fallback_flash_of_idle (h : flashIdle s.dev = true) (cause : Nat) : ∃ x, (s.fallback cause).flash = hdrWrite s.flash x := by
  have hbegun : flashIdle (fallbackBegun s cause).dev = true := by
    rw [← h]
    refine flashIdle_of_sys ?_ ?_ <;> rw [fallbackBegun_sys]
  refine ⟨_, Eq.trans ?_ (fallbackBegun_flash s cause)⟩
  rw [fallback_eq]
  split
  · exact beginBack_flash hbegun 2
  · exact moduleReset_flash_of_idle hbegun 2

/-- A step that begins forward writes a header, or nothing. -/
theorem beginStepWith_fallback_flash (h : flashIdle s.dev = true) (k : Nat) :
    (s.beginStepWith (·.fallback 2) k).flash = s.flash ∨ ∃ x, (s.beginStepWith (·.fallback 2) k).flash = hdrWrite s.flash x := by
  have hidle : flashIdle (s.onDev (·.enterStep (stepOf s.dev k))).dev = true := by rw [onDev_dev, enterStep_idle, h]
  rw [beginStepWith_eq]
  obtain ⟨f, hf, -⟩ | ⟨hbad, -, -⟩ := stepWork_cases (·.fallback 2) (s.onDev (·.enterStep (stepOf s.dev k))) (stepOf s.dev k)
  · exact .inl (by rw [hf, onDev_flash, onDev_flash])
  · obtain ⟨x, hx⟩ := fallback_flash_of_idle hidle 2
    exact .inr ⟨x, by rw [hbad, hx, onDev_flash]⟩

/-- A live update begins with its first step shown, before it goes on to the second. -/
def liveBegun (x : State) : State := (x.refreshUpd.onDev (·.countDev 297)).onDev (fun d =>
  (d.updStarts.showStep 1).onSys (fun y => { y with updBack := false }))

theorem liveBegun_flash (x : State) : (liveBegun x).flash = x.flash := by
  rw [liveBegun, onDev_flash, onDev_flash, State.refreshUpd, onDev_flash]

theorem liveBegun_sys (x : State) : (liveBegun x).dev.sys = { x.dev.sys with updRuns := true, updBack := false } := by
  have hcount (d : Dev) : (d.countDev 297).sys = d.sys := (report_countDev d 297 1).sys
  have hshow (d : Dev) : (d.showStep 1).sys = d.sys := (only_showStep d 1).sys (by decide)
  rw [liveBegun, onDev_dev, onDev_dev, onSys_sys, hshow, updStarts_sys, hcount, (only_refreshUpd x).sys (by decide)]

/-- A live activation that has passed the checks of bundle and configuration is refused, or begins with its header written. -/
theorem updActivate_of_live (hst : hdrState s.flash ≠ 1 ∧ hdrState s.flash ≠ 2) (hslot : s.dev.get F.UPD_CFG_SLOT ≠ s.bundleSlot)
    (hfault : (s.verifySlot (s.dev.get F.UPD_CFG_SLOT)).2 = none) (hcfg : (cfgChecked s).2.result = 1)
    (hmode : s.dev.flag F.UPD_CFG_MODE = true) : (∃ r, s.updActivate = (cfgChecked s).1.onDev (·.updResult r)) ∨
      ∃ h, s.updActivate = (liveBegun { (cfgChecked s).1 with flash := hdrWrite (cfgChecked s).1.flash h }).beginStep 2 := by
  have hpair : s.verifySlot (s.dev.get F.UPD_CFG_SLOT) = (slotVerified s, none) := by rw [← hfault]; rfl
  unfold State.updActivate
  dsimp only
  rw [if_neg (by simp [hst]), if_neg hslot, hpair, hmode]
  dsimp only
  unfold cfgChecked at hcfg
  rw [if_neg (not_not.mpr hcfg)]
  split
  · exact .inl ⟨_, rfl⟩
  split
  · exact .inl ⟨_, rfl⟩
  split
  · exact .inl ⟨_, rfl⟩
  · exact .inr ⟨_, rfl⟩

theorem hdrWrite_above (m : List Host.Cell) (h : Header) (ha : 0x20000 ≤ a) : flashByte (hdrWrite m h) a = flashByte m a := by
  refine flashByte_hdrWrite m h (.inr ?_)
  unfold spareCopy
  split <;> simp only [hdrBase] <;> omega

/-- Whatever an activation does, the flash above the headers is as before, with no work on the flash to cut off. -/
theorem updActivate_above (h : flashIdle s.dev = true) (ha : 0x20000 ≤ a) : flashByte s.updActivate.flash a = flashByte s.flash a := by
  cases hmode : s.dev.flag F.UPD_CFG_MODE with
  | false =>
    obtain hsame | ⟨x, hwritten⟩ := (updActivate_restart_cases hmode).2
    · rw [hsame]
    · rw [hwritten, hdrWrite_above _ _ ha]
  | true =>
    obtain ⟨x, r, hrefused, -, hflash⟩ | ⟨hst, hslot, hfault, hcfg⟩ := updActivate_refused_or s
    · rw [hrefused, onDev_flash, hflash]
    obtain ⟨r, hrefused⟩ | ⟨x, hbegins⟩ := updActivate_of_live hst hslot hfault hcfg hmode
    · rw [hrefused, onDev_flash, cfgChecked_flash]
    have hsys := liveBegun_sys { (cfgChecked s).1 with flash := hdrWrite (cfgChecked s).1.flash x }
    have hchecked : (cfgChecked s).1.dev.sys = s.dev.sys := (only_cfgChecked s).sys (by decide)
    have hidle : flashIdle (liveBegun { (cfgChecked s).1 with flash := hdrWrite (cfgChecked s).1.flash x }).dev = true := by
      rw [← h]
      refine flashIdle_of_sys ?_ ?_ <;> rw [hsys] <;> dsimp only <;> rw [hchecked]
    have hforward : (liveBegun { (cfgChecked s).1 with flash := hdrWrite (cfgChecked s).1.flash x }).dev.sys.updBack = false := by
      rw [hsys]
    have hbase : flashByte (liveBegun { (cfgChecked s).1 with flash := hdrWrite (cfgChecked s).1.flash x }).flash a =
        flashByte s.flash a := by
      rw [liveBegun_flash, hdrWrite_above _ _ ha, cfgChecked_flash]
    rw [hbegins, State.beginStep, if_neg (by simp [hforward])]
    obtain hsame | ⟨y, hwritten⟩ := beginStepWith_fallback_flash hidle 2
    · rw [hsame, hbase]
    · rw [hwritten, hdrWrite_above _ _ ha, hbase]

end Sys2Proof.Laws

/-! SUPPORT. What the records of a configuration image that the FSP applies leave: the flash and the part's identity. -/

namespace Sys2Proof.Safety

open Sys2Proof.Machine

theorem Only.identSame {P : List Part} {R : List Reg} {d e : Dev} (h : Only P R d e) (hP : .ident ∉ P) : e.ident = d.ident :=
  h.part .ident hP

end Sys2Proof.Safety

namespace Sys2Proof.Laws

open Sys2Proof.Machine Sys2Proof.Safety

variable {s t u : State} {d : Dev}

/-! ## Writes of registers -/

theorem store_identSame (d : Dev) (r : Reg) (u : Nat) (v : Word) : (d.store r u v).ident = d.ident := rfl

theorem firstCmd_ident (v : Word) (l : List (Fld × (Dev → Dev))) (h : ∀ c ∈ l, (c.2 d).ident = d.ident) :
    (d.firstCmd v l).ident = d.ident := by
  unfold Dev.firstCmd
  cases hc : l.find? (fun e => e.1.on v) with
  | some c => exact h c (List.mem_of_find?_eq_some hc)
  | none => rfl

theorem writeTimeReg_ident (d : Dev) (r : Reg) (u : Nat) (v : Word) : (d.writeTimeReg r u v).ident = d.ident := by
  unfold Dev.writeTimeReg
  split
  · have hclock : Only [.mir, .twin] [.TB_LOCK_CFG, .SEQGEN_W0] d ((d.store .TB_LOCK_CFG 0 v).mirrorBy (fun m => { m with lockMs := 0 })) :=
      .mirrorBy (.store .refl _ _ _ (by decide)) _ (by decide) (by decide)
    exact hclock.identSame (by decide)
  · refine (firstCmd_ident v _ ?_).trans (store_identSame d _ _ _)
    simp only [List.forall_mem_cons, List.not_mem_nil, false_implies, implies_true, and_true]
    exact ⟨(only_writeTcmd (f := F.TB_TCMD_ACCEPT_JUMP) _ _ rfl).identSame (by decide),
      (only_writeTcmd (f := F.TB_TCMD_TIME_SET) _ _ rfl).identSame (by decide)⟩
  · refine firstCmd_ident v _ ?_
    simp only [List.forall_mem_cons, List.not_mem_nil, false_implies, implies_true, and_true]
    exact (only_modelRestart _ _).identSame (by decide)
  · dsimp only
    split
    · rw [setB_ident, store_identSame]
    · exact store_identSame _ _ _ _
  · refine firstCmd_ident v _ ?_
    simp only [List.forall_mem_cons, List.not_mem_nil, false_implies, implies_true, and_true]
    exact ⟨(only_twinSwitch _).identSame (by decide), (only_standbyOff _).identSame (by decide),
      (only_standbyOn _).identSame (by decide)⟩
  · dsimp only
    rw [set_ident, store_identSame]
  · have hskip (x : Dev) (b : Bool) : (x.when b Dev.skipWtr).ident = x.ident :=
      when_keeps x (·.ident) _ _ ((only_skipWtr x).identSame (by decide))
    have hclear (x : Dev) (b : Bool) : (x.when b Dev.clearBars).ident = x.ident :=
      when_keeps x (·.ident) _ _ ((only_clearBars x).identSame (by decide))
    exact (hclear _ _).trans ((hskip _ _).trans (store_identSame d _ _ _))
  · exact (only_refinCfgWrite _ _ _).identSame (by decide)
  · exact store_identSame _ _ _ _

theorem writeSynReg_ident (d : Dev) (r : Reg) (u : Nat) (v : Word) : (d.writeSynReg r u v).ident = d.ident := by
  unfold Dev.writeSynReg
  dsimp only
  split
  · rfl
  split
  · exact (only_synCfgWrite _ _ _).identSame (by decide)
  · split
    · exact store_identSame _ _ _ _
    · rfl
  · exact (only_synFreqHiWrite _ _ _).identSame (by decide)
  · refine firstCmd_ident v _ ?_
    simp only [List.forall_mem_cons, List.not_mem_nil, false_implies, implies_true, and_true]
    exact ⟨(only_retune _ _).identSame (by decide), (only_synStep _ _).identSame (by decide),
      (only_synStepAt _ _).identSame (by decide), (only_synResync _ _).identSame (by decide),
      (only_synCancel _ _).identSame (by decide)⟩
  · exact (only_bandEntryWrite _ _ _ _ _ _).identSame (by decide)
  · exact (only_bandEntryWrite _ _ _ _ _ _).identSame (by decide)
  · exact (only_outCfgThenRelock _ _ _).identSame (by decide)
  · exact (only_outPerHiWrite _ _ _).identSame (by decide)
  · exact (only_outWidthWrite _ _ _).identSame (by decide)
  · exact (only_outAlignWrite _ _ _).identSame (by decide)
  · refine firstCmd_ident v _ ?_
    simp only [List.forall_mem_cons, List.not_mem_nil, false_implies, implies_true, and_true]
    exact ⟨(only_outAlign _ _).identSame (by decide), (only_outArm _ _).identSame (by decide),
      (only_outDisarm _ _).identSame (by decide)⟩
  · exact store_identSame _ _ _ _

theorem writeTioReg_ident (d : Dev) (r : Reg) (u : Nat) (v : Word) : (d.writeTioReg r u v).ident = d.ident := by
  unfold Dev.writeTioReg
  split
  · exact (only_writeTioCfg _ _ _).identSame (by decide)
  · exact (only_writeTioOutCfg _ _ _).identSame (by decide)
  · refine firstCmd_ident v _ ?_
    simp only [List.forall_mem_cons, List.not_mem_nil, false_implies, implies_true, and_true]
    have hset (x : Dev) : (x.set F.TIO_CMD_RESULT 1 u).ident = x.ident := rfl
    exact ⟨(only_armTio _ _).identSame (by decide), (hset _).trans ((only_endMeas _ _ _).identSame (by decide)),
      (only_startTio _ _).identSame (by decide), (only_cancelTio _ _).identSame (by decide),
      (only_recal _ _).identSame (by decide)⟩
  · exact store_identSame _ _ _ _

theorem ringPlaceWrite_ident (d : Dev) (r : Reg) (v : Word) : (d.ringPlaceWrite r v).ident = d.ident := by
  unfold Dev.ringPlaceWrite
  dsimp only
  rw [setWord_ident, setWord_ident, store_identSame]

theorem writeMbx_ident (d : Dev) (r : Reg) (u : Nat) (v : Word) : (d.writeMbx r u v).ident = d.ident := by
  have hresult (x : Dev) (a b p n : Nat) : (x.mbxResult a b p n).ident = x.ident := (only_mbxResult _ _ _ _ _).identSame (by decide)
  have hchan (x : Dev) (a b : Nat) (f : Chan → Chan) : (x.onChan a b f).ident = x.ident := rfl
  unfold Dev.writeMbx
  dsimp only
  split
  · exact (only_mbxWord _ _ _ _ _ _ _).identSame (by decide)
  · exact (only_mbxWord _ _ _ _ _ _ _).identSame (by decide)
  · exact hchan _ _ _ _
  · exact hchan _ _ _ _
  · refine (firstCmd_ident v _ ?_).trans (hchan _ _ _ _)
    simp only [List.forall_mem_cons, List.not_mem_nil, false_implies, implies_true, and_true]
    exact ⟨(only_mbxPost _ _ _ _).identSame (by decide), (only_mbxWithdraw _ _ _).identSame (by decide),
      (only_mbxRelease _ _ _).identSame (by decide), hresult _ _ _ _ _, hresult _ _ _ _ _⟩
  · refine (firstCmd_ident v _ ?_).trans (hchan _ _ _ _)
    simp only [List.forall_mem_cons, List.not_mem_nil, false_implies, implies_true, and_true]
    exact ⟨hresult _ _ _ _ _, hresult _ _ _ _ _, hresult _ _ _ _ _, (only_mbxTake _ _ _).identSame (by decide),
      (only_mbxAck _ _ _ _ _).identSame (by decide)⟩
  · exact when_keeps d (·.ident) _ _ (hchan _ _ _ _)
  · exact when_keeps d (·.ident) _ _ (hchan _ _ _ _)
  · exact store_identSame _ _ _ _
  · exact when_keeps d (·.ident) _ _ ((only_hostRestart d).identSame (by decide))
  · rfl

theorem writeBlockReg_ident (d : Dev) (r : Reg) (u : Nat) (v : Word) : (d.writeBlockReg r u v).ident = d.ident := by
  unfold Dev.writeBlockReg
  split
  · exact writeMbx_ident d r u v
  split
  · exact (only_ringCtrlWrite _ _).identSame (by decide)
  · exact ringPlaceWrite_ident d _ v
  · exact ringPlaceWrite_ident d _ v
  · exact ringPlaceWrite_ident d _ v
  · exact setWord_ident _ _ _ _
  · exact (only_cntDataWrite _ _ _).identSame (by decide)
  · exact (only_cntCfgWrite _ _).identSame (by decide)
  · exact (only_clearLatch _ _ _).identSame (by decide)
  · refine (firstCmd_ident v _ ?_).trans (store_identSame d _ _ _)
    simp only [List.forall_mem_cons, List.not_mem_nil, false_implies, implies_true, and_true]
    exact (only_reEnable _ _).identSame (by decide)
  · refine firstCmd_ident v _ ?_
    simp only [List.forall_mem_cons, List.not_mem_nil, false_implies, implies_true, and_true]
    exact (only_fastStop _).identSame (by decide)
  · exact (only_gateCfgWrite _ _).identSame (by decide)
  · exact (only_latWrite _ _ _ _).identSame (by decide)
  · exact (only_latWrite _ _ _ _).identSame (by decide)
  · exact (only_writeHb _ _).identSame (by decide)
  · exact store_identSame _ _ _ _

/-- No write of a register changes the part's identity. -/
theorem writeReg_ident (d : Dev) (r : Reg) (u : Nat) (v : Word) : (d.writeReg r u v).ident = d.ident := by
  by_cases hfast : r.isFast = true
  · exact (running_writeReg hfast u v).ident
  unfold Dev.writeReg
  dsimp only
  cases hs : r.spec.space <;> dsimp only
  case tb => exact writeTimeReg_ident d r u v
  case rsel => exact writeTimeReg_ident d r u v
  case syn => exact writeSynReg_ident d r u v
  case tio => exact writeTioReg_ident d r u v
  case firn => rfl
  case lane => exact absurd (by rw [Reg.isFast, hs]) hfast
  case bar0 =>
    have hlow : r.spec.base < 0x100000 := by
      rw [Reg.isFast, hs] at hfast
      simp only [Bool.or_eq_true, decide_eq_true_eq, not_or] at hfast
      omega
    rw [if_pos hlow]
    exact writeBlockReg_ident d r u v

end Sys2Proof.Laws

/-! SUPPORT. Flash and identity across restarts, reloads and the steps of a live update. -/

namespace Sys2Proof.Laws

open Sys2Proof.Machine Sys2Proof.Safety

variable {s t u : State}

/-- The flash and the part's identity are as before. -/
structure Stays (s t : State) : Prop where
  flash : t.flash = s.flash
  ident : t.dev.ident = s.dev.ident

namespace Stays

theorem refl (s : State) : Stays s s := ⟨rfl, rfl⟩
theorem trans (h : Stays s t) (k : Stays t u) : Stays s u := ⟨k.flash.trans h.flash, k.ident.trans h.ident⟩
theorem onDev (h : Stays s t) {f : Dev → Dev} (k : (f t.dev).ident = t.dev.ident) : Stays s (t.onDev f) :=
  ⟨(onDev_flash t f).trans h.flash, k.trans h.ident⟩
theorem onOnly (h : Stays s t) {f : Dev → Dev} {P : List Part} {R : List Reg} (k : Only P R t.dev (f t.dev)) (hP : .ident ∉ P) :
    Stays s (t.onDev f) := h.onDev (k.identSame hP)
theorem applied (h : Stays s t) (k : Applied t u) : Stays s u := h.trans ⟨k.flash, k.dev.ident⟩
theorem onTrial (h : Stays s t) : t.onTrial = s.onTrial := by rw [State.onTrial, h.flash, State.onTrial]

end Stays

/-! ## The start of the fast domain -/

theorem fastBegun_ident (cp smc : Image) (b : Bool) (d : Dev) : (fastBegun cp smc b d).ident = d.ident := by
  have hcleared (x : Dev) : (fastCleared x).ident = x.ident := rfl
  rw [(only_fastBegun cp smc b d).identSame (by decide), hcleared, (only_imagesRun cp smc d).identSame (by decide)]

theorem stays_startFast (htrial : s.onTrial = false) : Stays s s.startFast := by
  cases h : startGood s with
  | true =>
    obtain ⟨cp, smc, b, hstart⟩ := startFast_of_good h
    rw [hstart]
    exact (Stays.refl s).onDev (fastBegun_ident cp smc b _)
  | false =>
    have hcond : Only reports alarmRegs s.dev (s.dev.cond .fwImageBad true) := .cond .refl _ _ (by decide)
    rw [startFast_of_bad h htrial]
    exact (Stays.refl s).onOnly hcond (by decide)

theorem stays_fastCommand (htrial : s.onTrial = false) : Stays s s.fastCommand := by
  have hresult (n : Nat) : Stays s (s.onDev (·.set F.PWR_FAST_CMD_RESULT n)) := (Stays.refl s).onDev (set_ident _ _ _ _)
  unfold State.fastCommand
  split
  · exact hresult 2
  · exact (hresult 1).trans (stays_startFast ((hresult 1).onTrial.trans htrial))

/-! ## Records of a configuration image -/

theorem stays_writeReg (htrial : s.onTrial = false) (r : Reg) (k : Nat) (v : Word) : Stays s (s.writeReg r k v) := by
  unfold State.writeReg
  split
  · exact stays_fastCommand htrial
  · exact (Stays.refl s).onDev (writeReg_ident _ _ _ _)

theorem stays_tryWrite (htrial : s.onTrial = false) (r : Reg) (k : Nat) (v : Word) : Stays s (s.tryWrite r k v).1 := by
  have hwrite {x : State} (hx : Stays s x) : Stays s (x.writeReg r k v) := hx.trans (stays_writeReg (hx.onTrial.trans htrial) r k v)
  have hset {x : State} (hx : Stays s x) (f : Fld) (n j : Nat) : Stays s (x.onDev (·.set f n j)) := hx.onDev (set_ident _ _ _ _)
  have hmark {x : State} (hx : Stays s x) (f : Fld) (b : Bool) (j : Nat) : Stays s (x.onDev (·.setB f b j)) := hx.onDev (setB_ident _ _ _ _)
  have hif (c : Prop) [Decidable c] (d : Dev) (f : Fld) (n j : Nat) : (if c then d.set f n j else d).ident = d.ident := by
    split
    · exact set_ident _ _ _ _
    · rfl
  unfold State.tryWrite
  split
  · exact .refl s
  generalize refusals r = res
  generalize rejFlag r k = rej
  rcases res with _ | ⟨f, l⟩ <;> rcases rej with _ | ⟨g, j⟩ <;> dsimp only
  · exact hwrite (.refl s)
  · exact hmark (hwrite (hmark (.refl s) g _ _)) g _ _
  · exact (hwrite (hset (.refl s) f _ _)).onDev (hif _ _ _ _ _)
  · exact hmark ((hwrite (hmark (hset (.refl s) f _ _) g _ _)).onDev (hif _ _ _ _ _)) g _ _

theorem stays_applyOp (htrial : s.onTrial = false) (cp : Bool) (o : CfgOp) : Stays s (s.applyOp cp o).1 := by
  have hwriteAt (place : Option (Reg × Nat)) (v : Word) : Stays s (s.writeAt cp place v).1 := by
    unfold State.writeAt
    split
    · exact .refl s
    · split
      · exact stays_tryWrite htrial _ _ v
      · exact .refl s
  cases o with
  | bar0 a v => exact hwriteAt _ v
  | ind sp a v => exact hwriteAt _ v
  | fdb key data mask => exact ⟨rfl, (running_insertStatic s.dev key data mask).ident⟩
  | ptp b => exact ⟨rfl, (running_makeInstance s.dev b).ident⟩

theorem stays_applyOps (htrial : s.onTrial = false) (cp : Bool) (l : List CfgOp) : Stays s (s.applyOps cp l) := by
  have hwarned (d : Dev) (n : Nat) (f : Sys → Sys) : ((d.set F.GLB_CFG_STAT_WARN n).onSys f).ident = d.ident := by
    rw [onSys_ident, set_ident]
  unfold State.applyOps
  induction l generalizing s with
  | nil => exact .refl s
  | cons o l ih =>
    have hop := stays_applyOp htrial cp o
    rw [List.foldl_cons]
    rcases hx : s.applyOp cp o with ⟨x, bad⟩
    rw [hx] at hop
    cases bad with
    | false => exact hop.trans (ih (hop.onTrial.trans htrial))
    | true =>
      have hlogged := hop.onDev (f := fun d => (d.set F.GLB_CFG_STAT_WARN (min 4095 (d.get F.GLB_CFG_STAT_WARN + 1))).onSys
        (fun y => { y with cfgLog := y.cfgLog ++ [o.place] })) (hwarned _ _ _)
      exact hlogged.trans (ih (hlogged.onTrial.trans htrial))

theorem stays_applyFirn (htrial : s.onTrial = false) (slot : Nat) (c : CfgCheck) : Stays s (s.applyFirn slot c) := by
  have hbegun : Stays s s.beginApply := (Stays.refl s).applied (applied_beginApply s)
  have hshown (d : Dev) (f : Sys → Sys) :
      (((d.set F.GLB_BOOT_STAT_CFG_SLOT slot).set F.GLB_CFG_ID_IMAGE_ID c.imageId).onSys f).ident = d.ident := by
    rw [onSys_ident, set_ident, set_ident]
  have happlied := hbegun.trans (stays_applyOps (hbegun.onTrial.trans htrial) false (c.ops false))
  unfold State.applyFirn
  dsimp only
  exact happlied.onDev (hshown _ _)

theorem stays_checkSlot (s : State) (ifs : List Image) (slot : Nat) : Stays s (s.checkSlot ifs slot).1 :=
  (Stays.refl s).applied (applied_checkSlot s ifs slot)

theorem stays_config (htrial : s.onTrial = false) : Stays s s.config := by
  have hfirn {x : State} (hx : Stays s x) (slot : Nat) (c : CfgCheck) : Stays s (x.applyFirn slot c) :=
    hx.trans (stays_applyFirn (hx.onTrial.trans htrial) slot c)
  have hfell (d : Dev) : Only reports (alarmRegs ++ [.GLB_BOOT_STAT]) d ((d.setB F.GLB_BOOT_STAT_FALLBACK true).configFellBack) :=
    .countDev (.raise (.setB .refl _ _ _ (by decide)) _ (by decide)) _ _ (by decide)
  have hdone (d : Dev) : Only reports (alarmRegs ++ [.GLB_BOOT_STAT]) d (d.judgeConfigNone.setStage 4) :=
    .setStage (.judgeConfigNone .refl (by decide) (by decide)) _ (by decide) (by decide)
  have hcheck := stays_checkSlot s s.dev.sys.images (hdrNow s.flash).configSel
  unfold State.config
  dsimp only
  refine Stays.onOnly ?_ (hdone _) (by decide)
  split
  · exact hfirn hcheck _ _
  · split
    · exact (hfirn (hcheck.trans (stays_checkSlot _ _ _)) _ _).onOnly (hfell _) (by decide)
    · exact (hcheck.trans (stays_checkSlot _ _ _)).onDev (onSys_ident _ _)

theorem stays_cfgReload (htrial : s.onTrial = false) : Stays s s.cfgReload := by
  have hdone (d : Dev) (n : Nat) : Only (reports ++ [.sys]) (alarmRegs ++ [.GLB_CFG_CMD]) d (d.judgeConfigNone.cfgRuns n) :=
    .cfgRuns (.judgeConfigNone .refl (by decide) (by decide)) _ (by decide) (by decide)
  have hcheck := stays_checkSlot s s.dev.sys.images (hdrNow s.flash).configSel
  have hfirn (c : CfgCheck) := hcheck.trans (stays_applyFirn (hcheck.onTrial.trans htrial) (hdrNow s.flash).configSel c)
  unfold State.cfgReload
  dsimp only
  split
  · exact (Stays.refl s).onDev (set_ident _ _ _ _)
  refine Stays.onOnly ?_ (hdone _ _) (by decide)
  split
  · split
    · refine ((hfirn _).trans (stays_applyOps ((hfirn _).onTrial.trans htrial) true _)).onDev ?_
      rw [set_ident, set_ident]
    · exact hfirn _
  · exact hcheck

theorem stays_reloadTake (htrial : s.onTrial = false) : Stays s s.reloadTake := by
  have hresult (n : Nat) : Stays s (s.onDev (·.set F.GLB_CFG_CMD_RESULT n)) := (Stays.refl s).onDev (set_ident _ _ _ _)
  unfold State.reloadTake
  split
  · exact hresult 0xB
  unfold State.cfgTake
  split
  · exact .refl s
  split
  · exact hresult 3
  · exact stays_cfgReload htrial

/-! ## The fast domain and its processors -/

theorem stays_fastIsOn (s : State) : Stays s s.fastIsOn := by
  have hrecords := (Stays.refl s).applied (applied_records s)
  have hstep (b : Bool) (d : Dev) : Only [] [.GLB_BOOT_STAT] d (d.when b (fun d => d.setStage 7)) :=
    .when .refl _ _ (.setStage .refl _ (by decide) (by decide))
  have hports (d : Dev) (b : Bool) : ((portsBegun (fastShownOn d)).when b (fun d => d.setStage 7)).ident = d.ident := by
    rw [(hstep b _).identSame (by decide), (running_portsBegun _).ident, (only_fastShownOn d).identSame (by decide)]
  have hbegun := hrecords.onDev (f := fun d => (portsBegun (fastShownOn d)).when ((portsBegun (fastShownOn d)).stage == 6)
    (fun d => d.setStage 7)) (hports _ _)
  have hwindow (x : State) : Stays x x.startWindow := by
    refine ⟨?_, (only_startWindow x).identSame (by decide)⟩
    unfold State.startWindow
    dsimp only
    split
    · rfl
    · exact onDev_flash x _
  rw [fastIsOn_eq]
  split
  · exact hbegun.trans (hwindow _)
  · exact hbegun

theorem stays_restartCp (htrial : s.onTrial = false) : Stays s s.restartCp := by
  have hstopped : Stays s (s.onDev Dev.stopCp) := (Stays.refl s).onOnly (only_stopCp _) (by decide)
  cases h : s.imageGood (s.runSlot 3) 3 with
  | true => exact (hstopped.onOnly (only_cpBegun _ _) (by decide)).applied (applied_restartCp h)
  | false =>
    have hhalted (d : Dev) : (cpHalted d).ident = d.ident :=
      ((only_judgeSleeps _).identSame (by decide)).trans ((only_cpStops d).identSame (by decide))
    rw [restartCp_of_bad h htrial]
    exact hstopped.onDev (hhalted _)

theorem stays_restartSmc (htrial : s.onTrial = false) : Stays s s.restartSmc := by
  have hstopped : Stays s (s.onDev (·.smcMoves false)) := (Stays.refl s).onOnly (only_smcMoves _ _) (by decide)
  cases h : s.imageGood (s.runSlot 2) 2 with
  | true =>
    have hagain (d : Dev) (i : Image) : ((d.runImage 2 i).smcMoves true).ident = d.ident :=
      ((only_smcMoves _ _).identSame (by decide)).trans ((only_runImage d 2 i).identSame (by decide))
    rw [restartSmc_of_good h]
    exact hstopped.onDev (hagain _ _)
  | false =>
    have hcond (d : Dev) : Only reports alarmRegs d (d.cond .fwImageBad true) := .cond .refl _ _ (by decide)
    rw [restartSmc_of_bad h htrial]
    exact hstopped.onOnly (hcond _) (by decide)

theorem offFast_ident (d : Dev) : d.offFast.ident = d.ident := offFast_part d .ident (by decide)

theorem stoppedOff_ident (d : Dev) : d.stopFast.offFast.ident = d.ident := by
  rw [offFast_ident, (only_stopFast d).identSame (by decide)]

theorem stays_stoppedOff (s : State) : Stays s (s.onDev (fun d => d.stopFast.offFast)) :=
  ⟨onDev_flash s _, by rw [onDev_dev, stoppedOff_ident]⟩

theorem stays_fastReset (htrial : s.onTrial = false) : Stays s s.fastReset := by
  have hoff := stays_stoppedOff s
  unfold State.fastReset
  exact hoff.trans (stays_startFast (hoff.onTrial.trans htrial))

/-- A weaker GLB_RESET command is refused, or runs its reset with the result shown. -/
theorem stays_glbReset {f : State → State} (htrial : s.onTrial = false) (hf : ∀ x : State, x.onTrial = false → Stays x (f x)) (key : Nat) :
    Stays s (s.glbReset key false f) := by
  have hshown (n : Nat) : Stays s (s.onDev (·.set F.GLB_RESET_RESULT n)) := (Stays.refl s).onDev (set_ident _ _ _ _)
  unfold State.glbReset
  split
  · exact .refl s
  split
  · exact hshown 2
  rw [if_neg (by decide)]
  split
  · exact .refl s
  split
  · exact hshown 4
  split
  · exact hshown 3
  · exact (hshown 1).trans (hf _ ((hshown 1).onTrial.trans htrial))

/-- The watchdogs of the CP and of the SMC, outside a trial. -/
theorem stays_cpuDog (htrial : s.onTrial = false) (cpu : WatchedCpu) (hcpu : cpu = .cp ∨ cpu = .smc) : Stays s (s.cpuDog cpu) := by
  have hcounted : Stays s (s.onDev (·.countDev 292)) := (Stays.refl s).onDev (report_countDev s.dev 292 1).ident
  have hquiet := hcounted.onTrial.trans htrial
  have hnew := runsNew_of_normal cpu htrial
  unfold State.cpuDog
  dsimp only
  rw [hnew]
  split
  · exact .refl s
  obtain rfl | rfl := hcpu
  · dsimp only
    split
    · exact .refl s
    · exact hcounted.trans (stays_restartCp hquiet)
  · dsimp only
    split
    · exact .refl s
    · exact hcounted.trans (stays_restartSmc hquiet)

/-! ## The steps of a live update -/

/-- A step begins without a fallback or a module reset, where it does not load a bad TBP image. -/
theorem stays_beginStepWith (fail : State → State) (s : State) (k : Nat)
    (hgood : stepOf s.dev k = 4 ∨ stepOf s.dev k = 6 → s.imageGood s.bundleSlot 1 = true) : Stays s (s.beginStepWith fail k) := by
  have hentered : Stays s (s.onDev (·.enterStep (stepOf s.dev k))) := (Stays.refl s).onOnly (only_enterStep _ _) (by decide)
  rw [beginStepWith_eq]
  obtain ⟨f, hf, hident⟩ | ⟨-, hstep, hbad⟩ := stepWork_cases fail (s.onDev (·.enterStep (stepOf s.dev k))) (stepOf s.dev k)
  · rw [hf]
    exact hentered.onDev hident
  · rw [imageGood_of_ident hentered.flash hentered.ident, State.bundleSlot, hentered.flash, ← State.bundleSlot, hgood hstep] at hbad
    cases hbad

theorem stays_beginStep (k : Nat) (hgood : stepOf s.dev k = 4 ∨ stepOf s.dev k = 6 → s.imageGood s.bundleSlot 1 = true) :
    Stays s (s.beginStep k) := by
  unfold State.beginStep
  split
  · exact stays_beginStepWith _ s k hgood
  · exact stays_beginStepWith _ s k hgood

/-- The end of a step other than those of the CP, the SMC and the FSP. -/
theorem stays_stepComplete (hstep : s.dev.sys.updStep ∉ [2, 3, 7]) (hgood : s.dev.sys.updStep = 5 → s.imageGood s.bundleSlot 1 = true) :
    Stays s s.stepComplete := by
  simp only [List.mem_cons, List.not_mem_nil, or_false, not_or] at hstep
  obtain ⟨h2, h3, h7⟩ := hstep
  have hlate (k : Nat) (hk : k ≠ 2 ∧ k ≠ 3) : stepOf s.dev k = k := by
    rw [stepOf, if_neg (by simp [hk])]
  unfold State.stepComplete
  split
  case h_1 h => exact absurd h h2
  case h_2 h => exact absurd h h3
  case h_3 =>
    split
    · exact stays_beginStep 5 (by simp [hlate 5 (by decide)])
    · exact .refl s
  case h_4 h =>
    split
    · exact stays_beginStep 6 fun _ => hgood h
    · exact .refl s
  case h_5 =>
    split
    · exact stays_beginStep 7 (by simp [hlate 7 (by decide)])
    · exact .refl s
  case h_6 h => exact absurd h h7
  case h_7 => exact .refl s

end Sys2Proof.Laws

/-! Frames of the commands that read or write the flash (12_boot_and_configuration.md, 13_firmware_update.md). -/

namespace Sys2Proof.Proofs

open Sys2Proof.Machine Sys2Proof.Safety Sys2Proof.Laws

variable {s : State} {a : Nat}

/-- The commands that check, verify and begin work on the flash leave it as it was. -/
theorem completes_flashReaders (slot : Fin 2) : ∀ c ∈ [Instr.cfgCheck slot, .updVerify, .updErase, .updFlush], Completes c s
    (FrameReported [.sys] [.GLB_CFG_CMD, .GLB_CFG_STAT, .UPD_CMD, .UPD_STAT, .UPD_SLOT_STAT, .UPD_SLOT_ID] s) := by
  simp only [List.forall_mem_cons, List.not_mem_nil, false_implies, implies_true, and_true]
  refine ⟨completes_unflashed (t := (slotNamedCfg s slot.val).cfgTake (·.cfgCheck slot.val)) rfl ?_ ?_,
    completes_unflashed (t := s.updTake State.updVerify) rfl ?_ (updTake_flash (updVerify_flash s)),
    completes_unflashed (t := s.updTake State.updErase) rfl ?_ (updTake_flash (updErase_flash s)),
    completes_unflashed (t := s.updTake State.updFlush) rfl ?_ (updTake_flash (onDev_flash s _))⟩
  · have htaken := only_cfgTake (f := (·.cfgCheck slot.val)) (only_cfgCheck (slotNamedCfg s slot.val) slot.val) (by decide)
    exact ((only_slotNamedCfg s slot.val).weaken (by decide) (by decide)).andThen htaken (by decide) (by decide)
  · exact (cfgTake_flash (cfgCheck_flash _ _)).trans (onDev_flash s _)
  · exact only_updTake ((only_updVerify s).weaken (by decide) (by decide)) (by decide)
  · exact only_updTake ((only_updErase s).weaken (by decide) (by decide)) (by decide)
  · exact only_updTake ((only_updFlush s).weaken (by decide) (by decide)) (by decide)

/-- What the commands that write a header, a record or a sector change of the device. -/
theorem completes_flashWriters (slot : Fin 2) : ∀ c ∈ [Instr.cfgActivate slot, .updConfirm, .settingsPeriodicWrite, .retentionRefreshSector],
    Completes c s (fun t => OnlyReported [.sys] [.GLB_CFG_CMD, .GLB_CFG_STAT, .UPD_CMD, .UPD_STAT, .UPD_CONFIRM_LEFT, .FIRN_REFRESH_STAT]
      s.dev t.dev ∧ t.pending = s.pending) := by
  simp only [List.forall_mem_cons, List.not_mem_nil, false_implies, implies_true, and_true]
  refine ⟨completes_only (t := (slotNamedCfg s slot.val).cfgTake (·.cfgActivate slot.val)) rfl ?_,
    completes_only (t := s.trialCommand State.confirm) rfl ?_,
    completes_only (t := if s.dev.stage < 2 || s.dev.stage == 8 then s else s.writeSettings s.dev.modelBytes) rfl ?_,
    completes_only (t := s.refreshStep) rfl ((only_refreshStep s).weaken (by decide) (by decide))⟩
  · have htaken := only_cfgTake (f := (·.cfgActivate slot.val)) (only_cfgActivate (slotNamedCfg s slot.val) slot.val) (by decide)
    exact ((only_slotNamedCfg s slot.val).weaken (by decide) (by decide)).andThen htaken (by decide) (by decide)
  · exact only_trialCommand (by decide) ((only_confirm _).weaken (by decide) (by decide))
  · split
    · exact .refl
    · exact (only_settingsWritten s _).weaken (by decide) (by decide)

theorem completes_updActivate_restart (hmode : s.dev.flag F.UPD_CFG_MODE = false) : Completes .updActivate s (fun t =>
    OnlyReported [] [.GLB_CFG_STAT, .UPD_CMD, .UPD_STAT, .UPD_SLOT_STAT, .UPD_SLOT_ID] s.dev t.dev ∧ t.pending = s.pending) :=
  completes_only (t := s.updTake State.updActivate) rfl (only_updTake (updActivate_restart_cases hmode).1 (by decide))

/-! ## Start-up, resets and watchdogs -/

theorem completes_romStage : Completes .romStage s (fun t =>
    OnlyReported [] [.FIRN_REFRESH_STAT, .GLB_BOOT_STAT, .UPD_STAT] s.dev t.dev ∧ t.pending = s.pending) := by
  refine completes_only (t := if s.dev.sys.powered && !s.dev.sys.held && s.dev.stage == 0 then s.rom else s) rfl ?_
  split
  · exact only_rom s
  · exact .refl

theorem completes_fspImageLoaded : Completes .fspImageLoaded s (fun t => s.imageGood (s.dev.get F.GLB_BOOT_STAT_BUNDLE_SLOT) 0 = true →
    OnlyReported [.sys, .freeCtr] [.GLB_BOOT_STAT, .UPD_IFVER0, .UPD_SLOT_ID, .FIRN_LIFE, .FIRN_BOOTS] s.dev t.dev) := by
  refine completes_of_next (t := if s.dev.stage == 1 then s.loadFsp else s) rfl fun hgood => ?_
  split
  · exact only_loadFsp hgood
  · exact .refl

theorem completes_tbpImageLoaded : Completes .tbpImageLoaded s (fun t => s.imageGood (s.dev.get F.GLB_BOOT_STAT_BUNDLE_SLOT) 1 = true →
    Frame [.sys, .tbA, .tbB] [.GLB_BOOT_STAT, .UPD_IFVER1, .UPD_IFVER2, .TB_MODEL_STAT, .TB_ROLE] s t) := by
  refine completes_of_next (t := if s.dev.stage == 2 then s.loadTbp else s) rfl fun hgood => ?_
  split
  · rw [loadTbp_of_good hgood]
    exact ⟨only_tbpsLoaded _ _, onDev_flash s _, onDev_pending s _⟩
  · exact ⟨.refl, rfl, rfl⟩

theorem completes_glbResetFull (key : Byte) : Completes (.glbResetFull key) s (Frame [.sys] [.GLB_RESET] s) :=
  completes_unflashed (t := s.glbReset key.toNat true id) rfl (only_glbResetFull _ _).1 (only_glbResetFull _ _).2

theorem completes_fspWatchdog (htrial : s.onTrial = false) : Completes .fspWatchdog s (FrameReported [.chans] [] s) := by
  have hagain : Only (reports ++ [.chans]) alarmRegs s.dev (fspAgain s.dev) :=
    .restartParty (.countDev (.countDev .refl _ _ (by decide)) _ _ (by decide)) _ (by decide) (by decide)
  by_cases hstage : 2 ≤ s.dev.stage ∧ s.dev.stage ≠ 8
  · refine completes_unflashed (congrArg Host.Outcome.next (fspDog_of_normal hstage.1 hstage.2 htrial)) ?_ (onDev_flash s _)
    rw [onDev_dev]
    exact hagain
  · have hidle : s.fspDog = s := if_pos (by simp only [Bool.or_eq_true, decide_eq_true_eq, beq_iff_eq]; omega)
    exact completes_unflashed (congrArg Host.Outcome.next hidle) .refl rfl

theorem completes_tbpWatchdog (htrial : s.onTrial = false) : ∀ c ∈ [WatchedCpu.tbpA, .tbpB], Completes (.processorWatchdog c) s (fun t =>
    t.flash = s.flash ∧ t.dev.sw = s.dev.sw ∧ t.dev.insts = s.dev.insts ∧ t.dev.cntCfg = s.dev.cntCfg ∧ t.dev.ident = s.dev.ident) := by
  have hdog (x : TbId) : (s.onDev (·.tbpDog x)).flash = s.flash ∧ (s.onDev (·.tbpDog x)).dev.sw = s.dev.sw ∧
      (s.onDev (·.tbpDog x)).dev.insts = s.dev.insts ∧ (s.onDev (·.tbpDog x)).dev.cntCfg = s.dev.cntCfg ∧
      (s.onDev (·.tbpDog x)).dev.ident = s.dev.ident := by
    have honly := only_tbpDog s.dev x
    rw [onDev_dev]
    exact ⟨onDev_flash s _, honly.part .sw (by decide), honly.part .insts (by decide), honly.part .cntCfg (by decide),
      honly.identSame (by decide)⟩
  intro c hc
  by_cases hstage : 2 ≤ s.dev.stage ∧ s.dev.stage ≠ 8
  · simp only [List.mem_cons, List.not_mem_nil, or_false] at hc
    obtain rfl | rfl := hc
    · exact completes_of_next (congrArg Host.Outcome.next (cpuDog_tbpA hstage.1 hstage.2 (runsNew_of_normal _ htrial))) (hdog .a)
    · exact completes_of_next (congrArg Host.Outcome.next (cpuDog_tbpB hstage.1 hstage.2 (runsNew_of_normal _ htrial))) (hdog .b)
  · have hidle : s.cpuDog c = s := if_pos (by simp only [Bool.or_eq_true, decide_eq_true_eq, beq_iff_eq]; omega)
    exact completes_of_next (congrArg Host.Outcome.next hidle) ⟨rfl, rfl, rfl, rfl, rfl⟩

theorem completes_powerLoss (he : s.dev.sys.eraseAt = none) (hp : s.dev.sys.progPage = none) :
    ∀ c ∈ [Instr.moduleRemoval, .thermalTrip], Completes c s (fun t => t.flash = s.flash ∧ t.dev.ident = s.dev.ident ∧
      t.dev.sent = s.dev.sent ∧ t.dev.freeCtr = s.dev.freeCtr ∧ t.pending = s.pending) := by
  simp only [List.forall_mem_cons, List.not_mem_nil, false_implies, implies_true, and_true]
  exact ⟨completes_of_next (congrArg Host.Outcome.next (losePower_keeps he hp false)) ⟨rfl, rfl, rfl, rfl, rfl⟩,
    completes_of_next (congrArg Host.Outcome.next (losePower_keeps he hp true)) ⟨rfl, rfl, rfl, rfl, rfl⟩⟩

theorem completes_resetPin (hpower : s.dev.sys.powered = true) (he : s.dev.sys.eraseAt = none) (hp : s.dev.sys.progPage = none) :
    Completes .resetPin s (fun t => t.flash = s.flash ∧ t.dev.ident = s.dev.ident ∧ t.dev.cycles = s.dev.cycles ∧
      t.pending = s.pending ∧ t.dev.log.take s.dev.log.length = s.dev.log ∧
      ∀ r u, r.isMbx = false → r ∉ [Reg.GLB_HOST_STAT, .GLB_BOOT_STAT, .FIRN_OCXO_STAT, .ALM_ACTIVE, .ALM_LATCH] →
        t.dev.word r u = r.resetWord u) := by
  have hheld (d : Dev) (f : Sys → Sys) : Only [.sys] [] d (d.onSys f) := .onSys .refl _ (by decide)
  have hcycles (d : Dev) (f : Sys → Sys) : (d.onSys f).cycles = d.cycles := rfl
  obtain ⟨l, hl⟩ := restart_log s.dev 1
  refine completes_of_next (exec_resetPin hpower he hp) ⟨onDev_flash s _, ?_, ?_, onDev_pending s _, ?_, fun r u hmbx hr => ?_⟩ <;>
    rw [onDev_dev, pinReset]
  · rw [onSys_ident, restart_ident]
  · rw [hcycles, restart_cycles]
  · rw [onSys_log, hl, List.take_left']
    rfl
  · rw [(hheld _ _).word r u (by simp), restart_word s.dev 1 r u hmbx hr]

theorem completes_stays (htrial : s.onTrial = false) (key : Byte) : ∀ c ∈ [Instr.configStage, .cfgReload, .fastStart, .fastDomainOn,
    .glbResetFast key, .glbResetCp key, .glbResetSmc key, .processorWatchdog .cp, .processorWatchdog .smc], Completes c s (fun t =>
      t.flash = s.flash ∧ t.dev.ident = s.dev.ident ∧ t.pending = s.pending) := by
  have hdone {c : Instr} {t : State} (h : exec c s = .next t) (k : Stays s t) : Completes c s (fun t =>
      t.flash = s.flash ∧ t.dev.ident = s.dev.ident ∧ t.pending = s.pending) := ⟨t, h, k.flash, k.ident, (exec_keeps h).pending⟩
  have hite (b : Prop) [Decidable b] {t : State} (k : Stays s t) : Stays s (if b then t else s) := by
    split
    · exact k
    · exact .refl s
  simp only [List.forall_mem_cons, List.not_mem_nil, false_implies, implies_true, and_true]
  exact ⟨hdone (t := if s.dev.stage == 3 then s.config else s) rfl (hite _ (stays_config htrial)),
    hdone (t := s.reloadTake) rfl (stays_reloadTake htrial),
    hdone (t := if s.dev.firnReach then s.fastCommand else s) rfl (hite _ (stays_fastCommand htrial)),
    hdone (t := if s.dev.fast == 1 && s.dev.synLocked 4 && s.dev.anyActive then s.fastIsOn else s) rfl (hite _ (stays_fastIsOn s)),
    hdone (t := s.glbReset key.toNat false State.fastReset) rfl (stays_glbReset htrial (fun _ => stays_fastReset) _),
    hdone (t := s.glbReset key.toNat false State.restartCp) rfl (stays_glbReset htrial (fun _ => stays_restartCp) _),
    hdone (t := s.glbReset key.toNat false State.restartSmc) rfl (stays_glbReset htrial (fun _ => stays_restartSmc) _),
    hdone (t := s.cpuDog .cp) rfl (stays_cpuDog htrial .cp (.inl rfl)),
    hdone (t := s.cpuDog .smc) rfl (stays_cpuDog htrial .smc (.inr rfl))⟩

/-! ## The end of work on the flash, and the read of WIDE_D3 -/

section
variable (hqueue : s.dev.pcie.indQueue = []) (hwaiting : s.dev.pcie.waiting = []) (hheld : s.dev.pcie.held = none)
include hwaiting hheld

section
variable (hw : s.dev.sys.smbWrite = none) (hr : s.dev.sys.smbRead = none)
include hw hr

/-- The end of an erase: with none under way, or with a page program that still runs, nothing happens. -/
theorem eraseDone_cases : s.eraseDone.flashFree = s ∨
    ∃ e, s.dev.sys.eraseAt = some e ∧ s.eraseDone.flashFree = ({ s with flash := flashErase s.flash e 0x10000 } : State).onDev eraseEnded := by
  have hidle := flashFree_of_idle hw hr hheld hwaiting
  cases he : s.dev.sys.eraseAt with
  | none =>
    have hnone : s.eraseDone = s := by rw [State.eraseDone, he]
    exact .inl (by rw [hnone, hidle])
  | some e =>
    cases hp : s.dev.sys.progPage with
    | none => exact .inr ⟨e, rfl, (eraseDone_flashFree hw hr hheld hwaiting he hp).trans (eraseDone_of_erase he hp)⟩
    | some p =>
      have hruns : s.eraseDone = s := by
        rw [State.eraseDone, he]
        exact if_pos (by rw [hp]; rfl)
      exact .inl (by rw [hruns, hidle])

theorem programDone_cases : s.programDone.flashFree = s ∨ ∃ p l b, s.dev.sys.progPage = some (p, l) ∧
    s.programDone.flashFree = ({ s with flash := programPage s.flash p l } : State).onDev (programEnded b) := by
  cases hp : s.dev.sys.progPage with
  | none =>
    have hnone : s.programDone = s := by rw [State.programDone, hp]
    exact .inl (by rw [hnone, flashFree_of_idle hw hr hheld hwaiting])
  | some x => exact .inr ⟨x.1, x.2, _, rfl, (programDone_flashFree hw hr hheld hwaiting hp).trans (programDone_of_page hp)⟩

theorem completes_flashDone : (∀ c ∈ [Instr.nvmEraseDone, .nvmProgramDone], Completes c s (fun t =>
      OnlyReported [.sys] [.UPD_STAT, .UPD_CMD] s.dev t.dev ∧ t.pending = s.pending)) ∧
    Completes .nvmEraseDone s (fun t => ∀ a, (∀ e, s.dev.sys.eraseAt = some e → a < e ∨ e + 0x10000 ≤ a) →
      flashByte t.flash a = flashByte s.flash a) ∧
    Completes .nvmProgramDone s (fun t => ∀ a, (∀ p, s.dev.sys.progPage = some p → ∀ x ∈ p.2, a ≠ 256 * p.1 + x.1) →
      flashByte t.flash a = flashByte s.flash a) := by
  have herase := eraseDone_cases hwaiting hheld hw hr
  have hprogram := programDone_cases hwaiting hheld hw hr
  simp only [List.forall_mem_cons, List.not_mem_nil, false_implies, implies_true, and_true]
  refine ⟨⟨completes_only (t := s.eraseDone.flashFree) rfl ?_, completes_only (t := s.programDone.flashFree) rfl ?_⟩,
    completes_of_next (t := s.eraseDone.flashFree) rfl fun a ha => ?_,
    completes_of_next (t := s.programDone.flashFree) rfl fun a ha => ?_⟩
  · obtain h | ⟨e, -, h⟩ := herase <;> rw [h]
    · exact .refl
    · exact (only_eraseEnded s.dev).weaken (by decide) (by decide)
  · obtain h | ⟨p, l, b, -, h⟩ := hprogram <;> rw [h]
    · exact .refl
    · exact only_programEnded b s.dev
  · obtain h | ⟨e, he, h⟩ := herase <;> rw [h]
    rw [onDev_flash]
    dsimp only
    rw [flashByte_erase, if_neg (by have := ha e he; omega)]
  · obtain h | ⟨p, l, b, hp, h⟩ := hprogram <;> rw [h]
    rw [onDev_flash]
    dsimp only
    exact flashByte_programPage p l (ha (p, l) hp)

end

include hqueue

omit hqueue hwaiting hheld in
/-- The read of WIDE_D3 clears VALID where it reaches the register. -/
theorem hostRead_wide (x : State) : ∃ b, (x.hostRead 16 0x201C).1 = x.onDev (fun d => d.when b (·.setB F.WIDE_STAT_VALID false)) := by
  have hat : regAt .bar0 0x201C = some (.WIDE_D, 3) := by decide
  have hread (d : Dev) : ∃ b, (d.readPlace .host (some (.WIDE_D, 3))).1 = d.when b (·.setB F.WIDE_STAT_VALID false) := by
    unfold Dev.readPlace
    dsimp only
    split
    · unfold Dev.readAt
      split
      · exact ⟨false, rfl⟩
      · exact ⟨true, rfl⟩
    · exact ⟨false, rfl⟩
  obtain ⟨b, hb⟩ := hread x.dev
  have hword : (x.readWord .host 16 0x201C).1 = { x with dev := (x.dev.readPlace .host (regAt .bar0 0x201C)).1 } := rfl
  refine ⟨b, ?_⟩
  rw [hostRead_bar0, hword, hat, hb]
  rfl

theorem completes_wideD3Read : Completes .wideD3Read s (Frame [.pcie, .sent] [.WIDE_STAT] s) := by
  cases hready : s.dev.pcie.ready with
  | false =>
    have hexec : exec .wideD3Read s = .next (s.onDev (·.emit .unsupported)) := congrArg Host.Outcome.next (if_neg (by simp [hready]))
    exact completes_frame hexec (.emit .refl _ (by decide) : Only [.sent] [] s.dev _)
  | true =>
    have hidle : hostIdle s.dev = true := (hostIdle_iff s.dev).2 ⟨hready, hqueue, hwaiting, hheld⟩
    obtain ⟨b, hb⟩ := hostRead_wide (withHeld s ⟨[], [(16, 0x201C)], 0, 4⟩)
    have hclear (d : Dev) : Only [] [.WIDE_STAT] d (d.when b (·.setB F.WIDE_STAT_VALID false)) :=
      .when .refl _ _ (.setB .refl _ _ _ (by decide))
    have hpcie (d : Dev) : (d.when b (·.setB F.WIDE_STAT_VALID false)).pcie = d.pcie := (hclear d).part .pcie (by decide)
    have hlink (d : Dev) (f : Pcie → Pcie) : Only [.pcie] [] d (d.onPcie f) := .onPcie .refl _ (by decide)
    have hexec : exec .wideD3Read s = .next (s.ask (.word 16 0x201C)) := congrArg Host.Outcome.next (if_pos hready)
    rw [ask_word_of_idle hidle 0x201C (by rw [hb, onDev_dev, hpcie]; rfl), hb] at hexec
    refine completes_unflashed hexec ?_ rfl
    have hheldOnly := ((hlink s.dev (fun e => { e with held := some ⟨[], [(16, 0x201C)], 0, 4⟩ })).weaken
      (P := [.pcie, .sent]) (R := [.WIDE_STAT]) (by decide) (by decide)).andThen (hclear _) (by decide) (by decide)
    rw [readDone, onDev_dev, onDev_dev]
    exact (hheldOnly.andThen (hlink _ _) (by decide) (by decide)).emit _ (by decide)

end

/-- Settles O60: every command's operation has its own frame, and each that writes the flash does it in a region that the laws of
headers, settings, journal and pages bound. -/
theorem framesOfFlashCommands : Obligations.FramesOfFlashCommands := by
  refine fun s slot key k => ⟨completes_flashReaders slot, completes_flashWriters slot,
    completes_only (t := s.modelWrite) rfl ((only_modelWrite s).weaken (by decide) (by decide)), completes_updActivate_restart,
    completes_romStage, completes_fspImageLoaded, completes_tbpImageLoaded, completes_glbResetFull key, completes_fspWatchdog,
    completes_tbpWatchdog, fun hqueue hwaiting hheld => ⟨completes_wideD3Read hqueue hwaiting hheld, fun hw hr c hc =>
      (completes_flashDone hwaiting hheld hw hr).imp (fun h => h c hc) id⟩,
    ?_, fun he hp => ?_, ?_, ?_, ?_, fun c hc he hp => completes_powerLoss he hp c hc, completes_resetPin,
    fun htrial => completes_stays htrial key, fun hstep hgood => ?_⟩
  · rintro rfl
    refine ⟨completes_of_next (t := (slotNamedCfg s slot.val).cfgTake (·.cfgActivate slot.val)) rfl fun a ha => ?_,
      fun hmode => completes_of_next (t := s.updTake State.updActivate) rfl fun a ha =>
        updTake_flashByte (updActivate_flashByte hmode ha)⟩
    exact cfgTake_flashByte (cfgActivate_flash (slotNamedCfg s slot.val) slot.val ha)
  · have hidle : flashIdle s.dev = true := (flashIdle_iff s.dev).2 ⟨he, hp⟩
    exact completes_of_next (t := s.updTake State.updActivate) rfl fun a ha => updTake_flashByte (updActivate_above hidle ha)
  · exact completes_of_next (t := s.trialCommand State.confirm) rfl fun a ha => trialCommand_confirm_flash s ha
  · simp only [List.forall_mem_cons, List.not_mem_nil, false_implies, implies_true, and_true]
    refine ⟨completes_of_next (t := if s.dev.stage < 2 || s.dev.stage == 8 then s else s.writeSettings s.dev.modelBytes) rfl
      fun a ha => ?_, completes_of_next (t := s.modelWrite) rfl fun a ha => modelWrite_flash s ha⟩
    split
    · rfl
    · exact flashByte_writeSettings s _ ha
  · exact completes_of_next (t := s.refreshStep) rfl fun a ha => refreshStep_flash s ha
  · have hstays := stays_stepComplete hstep hgood
    exact completes_of_next (t := s.stepComplete) rfl ⟨hstays.flash, hstays.ident, (exec_keeps (c := .liveStepComplete) rfl).pending⟩

end Sys2Proof.Proofs
